-- ==== Sys2Proof/Word.lean ====
section
/-! DEFINITION. The words of the machine and the two plain containers every part of the state is built from: a sparse map
in one canonical form, and a bit field of a word. -/

namespace Sys2Proof

/-- A register (R13): 32 bits, bit 0 the least significant (R14). -/
abbrev Word := BitVec 32

/-- A count of 250 ps periods (R49, R51). -/
abbrev Count := BitVec 64

/-- A byte of a buffer, an image or a frame. -/
abbrev Byte := BitVec 8

/-- A sparse map: pairs of a key and a value, keys strictly rising. -/
abbrev SMap (α : Type) := List (Nat × α)

/-- The value at key k; a key that is not listed has the value d k. -/
def SMap.get {α : Type} (d : Nat → α) : SMap α → Nat → α
  | [], k => d k
  | (i, v) :: r, k => if i = k then v else SMap.get d r k

/-- The map without key k. -/
def SMap.erase {α : Type} : SMap α → Nat → SMap α
  | [], _ => []
  | (i, v) :: r, k => if i = k then SMap.erase r k else (i, v) :: SMap.erase r k

/-- The map with value v listed at key k. -/
def SMap.insert {α : Type} : SMap α → Nat → α → SMap α
  | [], k, v => [(k, v)]
  | (i, u) :: r, k, v =>
    if k < i then (k, v) :: (i, u) :: r
    else if k = i then (k, v) :: r
    else (i, u) :: SMap.insert r k v

/-- The map with value v at key k, in canonical form: no entry equals what an unlisted key has. -/
def SMap.put {α : Type} [DecidableEq α] (d : Nat → α) (m : SMap α) (k : Nat) (v : α) : SMap α :=
  if v = d k then SMap.erase m k else SMap.insert m k v

/-- Every key of the map is above b. -/
def SMap.above {α : Type} (b : Nat) : SMap α → Bool
  | [] => true
  | (i, _) :: r => decide (b < i) && SMap.above b r

/-- The keys rise strictly. -/
def SMap.sorted {α : Type} : SMap α → Bool
  | [] => true
  | (i, _) :: r => SMap.above i r && SMap.sorted r

/-- No entry equals what its key has when unlisted. -/
def SMap.lean {α : Type} [DecidableEq α] (d : Nat → α) : SMap α → Bool
  | [] => true
  | (i, v) :: r => decide (v ≠ d i) && SMap.lean d r

/-- The canonical form: rising keys and no entry that an unlisted key would have. -/
def SMap.wf {α : Type} [DecidableEq α] (d : Nat → α) (m : SMap α) : Bool :=
  SMap.sorted m && SMap.lean d m

/-- A field of a word: its lowest bit and its width. -/
structure Field where
  lo : Nat
  width : Nat
  deriving DecidableEq, Repr

end Sys2Proof
end

