-- ==== Sys2Proof/Machine/RegTypes.lean ====
section
/-! DEFINITION. The types of the register map's rows: access codes (R751), who may write (R17 to R19, R752), and a
register's row. -/

namespace Sys2Proof.Machine

/-- The roles (Roles table of the scope chapter; coded as IMG_TXN_STAT_n.OWNER_ROLE). -/
inductive Role where
  | reader | operator | service | metrology | safety
  deriving DecidableEq, Repr

/-- The access paths of R727 (coded as IMG_TXN_STAT_n.OWNER_PATH). -/
inductive Path where
  | host | mgmt | service
  deriving DecidableEq, Repr

/-- Who makes an access: its path, its role, and its session (the host link is one session; each management connection
and each service-set function is one, R133). -/
structure Access where
  path : Path
  role : Role
  session : Nat
  deriving DecidableEq, Repr

/-- The access codes of R751. -/
inductive Acc where
  | rw | ro | wo | w1c | w1s | rwt | rws | rwc
  deriving DecidableEq, Repr

/-- Who may write a field: every role (READER and above), OPERATOR and above, SERVICE, METROLOGY, SAFETY, or one of
OPERATOR, SERVICE and SAFETY (R752). -/
inductive Scope where
  | all | op | svc | metr | safe | osf
  deriving DecidableEq, Repr

/-- The role is within the scope (R752). -/
def Scope.admits : Scope → Role → Bool
  | .all, _ => true
  | .op, .operator => true
  | .op, .service => true
  | .svc, .service => true
  | .metr, .metrology => true
  | .safe, .safety => true
  | .osf, .operator => true
  | .osf, .service => true
  | .osf, .safety => true
  | _, _ => false

/-- The code of a role in OWNER_ROLE and in an event's ARG (R763). -/
def Role.code : Role → Nat
  | .reader => 0
  | .operator => 1
  | .service => 2
  | .metrology => 3
  | .safety => 4

/-- The code of a path in OWNER_PATH and in an event's ARG (R763). -/
def Path.code : Path → Nat
  | .host => 0
  | .mgmt => 1
  | .service => 2

/-- One field of a register's table: place, access code and who may write it. -/
structure FieldSpec where
  lo : Nat
  width : Nat
  acc : Acc
  scope : Scope
  deriving DecidableEq, Repr

/-- A range of values a register's table states as accepted for one field. -/
structure RangeSpec where
  lo : Nat
  width : Nat
  signed : Bool
  min : Int
  max : Int
  deriving DecidableEq, Repr

/-- One register of the map: name, first address, (stride, count) of each index, reset value, fields, and the accepted
ranges its table states. -/
structure RegSpec where
  name : String
  base : Nat
  dims : List (Nat × Nat)
  reset : Nat
  fields : List FieldSpec
  ranges : List RangeSpec
  deriving DecidableEq, Repr

end Sys2Proof.Machine
end

