-- ==== Sys2Proof/Machine/PartsCore.lean ====
section
/-! DEFINITION. The state of the time base, the credit queues, the events, the structure image, the transactions, the
two sides, and the host link with its services: what no register shows. -/

namespace Sys2Proof.Machine

/-- The two control sides (R20). -/
inductive Side where
  | a | b
  deriving DecidableEq, Repr

/-- 0 for Side A, 1 for Side B, as registers and event arguments code it. -/
def Side.code : Side → Nat
  | .a => 0
  | .b => 1

/-- The other side. -/
def Side.other : Side → Side
  | .a => .b
  | .b => .a

/-- A plain write that waits for the next base-cycle boundary (R128). -/
structure Deferred where
  addr : Nat
  mask : Word
  value : Word
  deriving DecidableEq, Repr

/-- A plain write accepted in the running base cycle, with the value it replaced: a fail-over loses it (R731). -/
structure Accepted where
  path : Path
  addr : Nat
  mask : Word
  old : Word
  deriving DecidableEq, Repr

/-- What the servo holds of one Ethernet port's PTP master (R65 to R68). -/
structure PtpPort where
  valid : Bool
  announceAt : Count
  announceIv : Nat
  rank : Nat
  deriving DecidableEq, Repr

/-- A port that no Announce has reached. -/
def PtpPort.reset : PtpPort := ⟨false, 0, 0, 0⟩

/-- The time base (R49 to R79), cycleN and inRun of the base cycles since entry to RUN; life counts as mono does and no module reset clears it: the metrology die and the always-on domain
measure on it. ts and tsRem: the timestamp and its fraction in 10^-12 counts; rate: the servo's own rate in 10^-12; slew and slewRate: what a
correction under way has still to move, in 10^-12 counts, and the rate in force while it runs (R70); step: the step that waits, and stepAt the
boundary at which the last one was applied (R72); realign: a step has moved the boundaries off the whole seconds, and the Guard die still
reduces the phase error that it left (R61); cycleFix: the counts by which the Guard die lengthens the running base cycle (R60). -/
structure TimePart where
  mono : Count
  life : Count
  ts : Count
  tsRem : Nat
  rate : Int
  rtc : Count
  rtcKept : Bool
  rtcTrimAt : Count
  ptp : SMap PtpPort
  lockGood : Nat
  lockBad : Nat
  ptpLost : Option Count
  ppsLast : Option Count
  ppsRun : Nat
  ppsValid : Bool
  ntpValid : Bool
  svcSet : Bool
  step : Option Int
  stepAt : Option Count
  realign : Bool
  slew : Int
  slewRate : Int
  timeLineAt : Count
  lineMark : Nat
  cycleStart : Count
  cycleFix : Int
  cycleN : Nat
  inRun : Bool
  ppsOut : Bool
  ppsOutAt : Count
  deferred : List Deferred
  accepted : List Accepted
  deriving DecidableEq, Repr

/-- The time base at module reset. -/
def TimePart.reset : TimePart where
  mono := 0
  life := 0
  ts := 0
  tsRem := 0
  rate := 0
  rtc := 0
  rtcKept := false
  rtcTrimAt := 0
  ptp := []
  lockGood := 0
  lockBad := 0
  ptpLost := none
  ppsLast := none
  ppsRun := 0
  ppsValid := false
  ntpValid := false
  svcSet := false
  step := none
  stepAt := none
  realign := false
  slew := 0
  slewRate := 0
  timeLineAt := 0
  lineMark := 0
  cycleStart := 0
  cycleFix := 0
  cycleN := 0
  inRun := false
  ppsOut := false
  ppsOutAt := 0
  deferred := []
  accepted := []

/-- One entry of a credit queue: its value, its stamp and the same instant on the monotonic count (R52), the gap marker it carries (R85), its source, the epoch it was
computed under (R186), the tiles that have taken it (R220), when it was accepted, and the further words of a
measurement. -/
structure QEntry where
  val : Int
  ts : Count
  inst : Count
  gap : Nat
  gapTs : Count
  src : Nat
  epoch : Nat
  taken : List Nat
  arrived : Count
  more : List Word
  deriving DecidableEq, Repr

/-- One credit queue (R80 to R88): its entries, the discards that wait for the next accepted entry, the greatest fill,
the loss counter, the losses of the FCLK period lostAt (R96), the counts from which credits on their way back are usable (R82), since when a
STALL producer waits and whether it has told so (R88). -/
structure Queue where
  entries : List QEntry
  gap : Nat
  gapTs : Count
  high : Nat
  lost : Nat
  lostAt : Nat
  lostN : Nat
  back : List Nat
  stall : Option Count
  stalled : Bool
  deriving DecidableEq, Repr

/-- A queue after module reset: empty, every credit with the producer (R80). -/
def Queue.reset : Queue where
  entries := []
  gap := 0
  gapTs := 0
  high := 0
  lost := 0
  lostAt := 0
  lostN := 0
  back := []
  stall := none
  stalled := false

/-- A requester of a memory transaction tag that waits for one: its class, its number in the class, and since when (R91). -/
structure TagWait where
  cls : Nat
  who : Nat
  since : Count
  deriving DecidableEq, Repr

/-- A side's memory transaction tags in use by class (R90): 0 acquisition, 1 Keeper transfer, 2 application cores; the
rotating pointer of each class (R40); the tags granted, as (class, requester), newest last; the requesters that wait; and the classes of the tags
returned in the FCLK period backAt, which are usable from the next one on (R82). -/
structure TagPool where
  acq : Nat
  keep : Nat
  cores : Nat
  pointer : SMap Nat
  granted : List (Nat × Nat)
  waits : List TagWait
  backAt : Nat
  back : List Nat
  deriving DecidableEq, Repr

/-- No tag in use. -/
def TagPool.reset : TagPool where
  acq := 0
  keep := 0
  cores := 0
  pointer := []
  granted := []
  waits := []
  backAt := 0
  back := []

/-- An entry of an event queue (R732), with the number that tells it from every other entry and the monotonic count at which it was posted
(R52). only: the one side whose queue and log take it, where the event is that side's own (R86, R89); none where both sides post it. -/
structure EvEntry where
  seq : Nat
  ts : Count
  mono : Count
  code : Nat
  cls : Nat
  flags : Nat
  arg : Word
  only : Option Side
  deriving DecidableEq, Repr

/-- A path's snapshot of the oldest entry (R764): the entry and the count of changes of active side when it was taken. -/
structure Snapshot where
  entry : Option EvEntry
  changes : Nat
  deriving DecidableEq, Repr

/-- An empty snapshot. -/
def Snapshot.reset : Snapshot := ⟨none, 0⟩

/-- Events: those of the running base cycle (R37), each side's queue and event log (R171, R733), how many entries each log has ever
taken (R686), the last posting of
each rate-limited event (R86), the snapshots of R764, how often the active side has changed, and by side the FCLK period of the last
freed entries and their number (R82). -/
structure EvPart where
  nextSeq : Nat
  posted : List EvEntry
  queue : SMap (List EvEntry)
  high : SMap Nat
  log : SMap (List EvEntry)
  logged : SMap Nat
  seen : SMap Count
  snaps : SMap Snapshot
  changes : Nat
  freed : SMap (Nat × Nat)
  deriving DecidableEq, Repr

/-- No event posted. -/
def EvPart.reset : EvPart where
  nextSeq := 0
  posted := []
  queue := []
  high := []
  log := []
  logged := []
  seen := []
  snaps := []
  changes := 0
  freed := []

/-- A TUNABLES record (R103). -/
structure Tunable where
  addr : Nat
  mask : Word
  min : Word
  max : Word
  dflt : Word
  flags : Nat
  deriving DecidableEq, Repr

/-- A RULES record (R104): kind, terms as (record index, coefficient), bound. -/
structure RuleRec where
  kind : Nat
  terms : List (Nat × Int)
  bound : Int
  deriving DecidableEq, Repr

/-- An activation in progress (R124): the target, the slot that ran, and whether it is a revert. -/
structure Activation where
  target : Nat
  former : Option Nat
  deriving DecidableEq, Repr

/-- An applied PERSIST value that waits for its write to the tuning store (R131). -/
structure TuneDue where
  addr : Nat
  mask : Word
  value : Word
  since : Count
  deriving DecidableEq, Repr

/-- The units that the running image uses, of those whose use no register shows (R10): masks of the ring ports, the site bus controllers and the
axes. -/
structure UnitUse where
  ports : Nat
  cans : Nat
  axes : Nat
  deriving DecidableEq, Repr

/-- No unit used. -/
def UnitUse.reset : UnitUse := ⟨0, 0, 0⟩

/-- The structure image (R97 to R132): the running slot, the open transfer and the pre-check that runs, the bytes
written to each slot, the tunables and rules of the running image, the tuning stores, the key slots' hashes, the
settings that no register shows (keys Par.*), those the last accepted image left on the Guard die with its words EDGE_CFG_n (key n) and
OUTL_O_CFG_n (key 64 + n) of the pad record (R122, R682), the units it uses, whether a PERSIST value was lost,
and an ACTIVATE that waits for the end of deferral (R715). -/
structure ImagePart where
  running : Option Nat
  xfer : Option Nat
  precheck : Option Nat
  written : SMap Nat
  tunables : List Tunable
  rules : List RuleRec
  tuning : SMap (List (Nat × Word × Word))
  tuneDue : List TuneDue
  keyHash : SMap (List Byte)
  trialStart : Count
  act : Option Activation
  pars : SMap Int
  guardPars : SMap Int
  padCfg : SMap Word
  use : UnitUse
  everAccepted : Bool
  tuneLost : Bool
  actWait : Bool
  deriving DecidableEq, Repr

/-- No image loaded. -/
def ImagePart.reset : ImagePart where
  running := none
  xfer := none
  precheck := none
  written := []
  tunables := []
  rules := []
  tuning := []
  tuneDue := []
  keyHash := []
  trialStart := 0
  act := none
  pars := []
  guardPars := []
  padCfg := []
  use := UnitUse.reset
  everAccepted := false
  tuneLost := false
  actWait := false

/-- The states of a transaction context (R154), coded as IMG_TXN_STAT_n.STATE. -/
inductive CtxState where
  | idle | opened | validating | pend | trial
  deriving DecidableEq, Repr

/-- One transaction context (R133 to R154). -/
structure Ctx where
  state : CtxState
  result : Nat
  reason : Nat
  role : Role
  path : Path
  session : Nat
  conflict : Bool
  full : Bool
  count : Nat
  entries : List (Nat × Word)
  isTrial : Bool
  late : Bool
  since : Count
  readyAt : Count
  undo : List (Nat × Word)
  watch : Nat
  window : Nat
  confirm : Bool
  rollback : Option Nat
  orphaned : Bool
  outlets : List Nat
  deriving DecidableEq, Repr

/-- An idle context. -/
def Ctx.reset : Ctx where
  state := .idle
  result := 0
  reason := 0
  role := .reader
  path := .host
  session := 0
  conflict := false
  full := false
  count := 0
  entries := []
  isTrial := false
  late := false
  since := 0
  readyAt := 0
  undo := []
  watch := 0
  window := 0
  confirm := false
  rollback := none
  orphaned := false
  outlets := []

/-- The states of a side (R157), in the order of their codes. -/
inductive SideState where
  | off | boot | bulk | shadow | standby | active | failed
  deriving DecidableEq, Repr

/-- The code of R157. -/
def SideState.code : SideState → Nat
  | .off => 0
  | .boot => 1
  | .bulk => 2
  | .shadow => 3
  | .standby => 4
  | .active => 5
  | .failed => 6

/-- What the Guard die and the Keeper link hold of one side (R157 to R190): its state and since when; clean cycles, restarts of BULK and
copy misses in a row; re-admissions and mismatch failures of the last 24 h; whether it is left FAILED; KEEP_RX and DIGEST_EQ of its next
Beacon; the fail-over causes it has set since its last Beacon (R162, bits 0 to 4); deferral (R714); and whether its boot code has chosen a
firmware bank. -/
structure SideRec where
  state : SideState
  since : Count
  clean : Nat
  restarts : Nat
  misses : Nat
  readmits : List Count
  mismFails : List Count
  noReadmit : Bool
  keepRx : Bool
  digestEq : Bool
  flags : Nat
  deferring : Bool
  booted : Bool
  deriving DecidableEq, Repr

/-- A side just released from reset. -/
def SideRec.reset : SideRec where
  state := .boot
  since := 0
  clean := 0
  restarts := 0
  misses := 0
  readmits := []
  mismFails := []
  noReadmit := false
  keepRx := false
  digestEq := false
  flags := 0
  deferring := false
  booted := false

/-- What a side's digests of the ended cycle are (R161), and whether the side was in its state for the whole of that cycle. -/
structure CycleEnd where
  out : Nat
  ctrl : Nat
  whole : Bool
  deriving DecidableEq, Repr

/-- No cycle ended. -/
def CycleEnd.reset : CycleEnd := ⟨0, 0, false⟩

/-- The Beacon a side sent at the last boundary (R160): its 32 bytes, the state the Guard die held for the side then, and whether the side
was in that state for the whole of the cycle it reports. -/
structure Beacon where
  bytes : List Byte
  state : Nat
  whole : Bool
  deriving DecidableEq, Repr

/-- A bulk transfer (R187): the bytes of the first pass that have been sent, the pages written since they were sent, and the bytes sent
again of the first of these. -/
structure BulkXfer where
  sent : Nat
  again : List Nat
  part : Nat
  deriving DecidableEq, Repr

/-- No page sent. -/
def BulkXfer.reset : BulkXfer := ⟨0, [], 0⟩

/-- The two sides and the Guard die's hold on them (R157 to R195): the sides, orphan control, GUARD_FAULT, the switchover
that waits, the last mismatch, the epochs of the placements (over the default epochBase), the Guard die's record of them,
those the standby side took in its last copy, the placements changed at this boundary, the link's training, the last cycle whose Beacons agreed, and the lanes to be
replaced at the boundary; the reported cycle and how each side ended it, the Beacons sent at the
last boundary, whether they have been judged (R163), the transaction contexts as the standby side holds them (R152), the bulk transfer,
and what each side produced in the running cycle (R161). -/
structure KeepPart where
  sides : SMap SideRec
  orphan : Bool
  guardFault : Bool
  guardFaultAt : Count
  switchReq : Option Count
  lastMismatch : Option Count
  epochs : SMap Nat
  epochBase : Nat
  epochRecord : Nat
  epochsHeld : SMap Nat
  baseHeld : Nat
  epochDone : List Nat
  linkTrained : Bool
  lastAgreed : Nat
  laneDue : List Nat
  reported : Nat
  ends : SMap CycleEnd
  beacons : SMap Beacon
  judged : Bool
  ctxHeld : SMap Ctx
  bulk : BulkXfer
  made : SMap (List (Nat × Int))
  deriving DecidableEq, Repr

/-- A side in OFF. -/
def SideRec.off : SideRec := { SideRec.reset with state := .off }

/-- Both sides OFF, before the Guard die releases their resets (R179, R721). -/
def KeepPart.reset : KeepPart where
  sides := [(0, SideRec.off), (1, SideRec.off)]
  orphan := false
  guardFault := false
  guardFaultAt := 0
  switchReq := none
  lastMismatch := none
  epochs := []
  epochBase := 0
  epochRecord := 0
  epochsHeld := []
  baseHeld := 0
  epochDone := []
  linkTrained := false
  lastAgreed := 0
  laneDue := []
  reported := 0
  ends := []
  beacons := []
  judged := true
  ctxHeld := []
  bulk := BulkXfer.reset
  made := []

/-- A management connection (R735 to R743): its role, whether its certificate chains to the provisioning anchor (on ETHS), its
last frame, its class mask, the number of the entry it has been sent up to. -/
structure Conn where
  role : Role
  prov : Bool
  last : Count
  mask : Nat
  sentSeq : Nat
  deriving DecidableEq, Repr

/-- The management client's and OCPP state in the last service checkpoint that the standby side took, and when (R169, R170). -/
structure Checkpoint where
  at' : Option Count
  fails : Nat
  url : Nat
  queue : List Nat
  sent : List Nat
  deriving DecidableEq, Repr

/-- No checkpoint taken. -/
def Checkpoint.reset : Checkpoint := ⟨none, 0, 0, [], []⟩

/-- An incomplete OBJ_SET (R738): the session that sends it and the bytes so far. -/
structure ObjPart where
  session : Nat
  bytes : SMap Byte
  deriving DecidableEq, Repr

/-- The host link and the service set (R727 to R747): the last read words and the status an access was answered with,
the read shadow of each path (R54), the last quad-SPI frame, the connections, the refused handshakes of each address,
the blocked addresses, the objects, the CSMS connection and its queued messages, the open firmware transfer and the
events sent to connections; the life-cycle nonce and when it was
issued (R743); the MSI vectors granted, the lines asserted last and the MSIs sent (R734); a firmware CLOSE that waits for the end of
deferral (R715); the last service checkpoint (R169); each side's Ethernet transmit queue, oldest first, and the frames that last started on
the wire (R176, R181). -/
structure HostPart where
  reply : List Word
  replyBytes : List Byte
  status : Nat
  shadows : SMap (Nat × Word)
  lastSpi : Count
  qspiFlags : Nat
  conns : SMap Conn
  refusals : SMap (List Count)
  blocked : SMap Count
  objects : SMap (List Byte)
  objPart : SMap ObjPart
  csmsUp : Bool
  csmsFails : Nat
  csmsUrl : Nat
  csmsQueue : List Nat
  csmsSent : List Nat
  fwXfer : Option Nat
  fwWritten : SMap Nat
  fwTrialStart : Count
  sent : SMap (List EvEntry)
  nonce : Option (Word × Count)
  vectors : Nat
  lines : Nat
  msi : List Nat
  fwWait : Bool
  checkpoint : Checkpoint
  ethTx : SMap (List (List Byte))
  ethOut : List (List Byte)
  deriving DecidableEq, Repr

/-- The answer the last register access was given (R738's status codes). -/
def HostPart.reset : HostPart where
  reply := []
  replyBytes := []
  status := 0
  shadows := []
  lastSpi := 0
  qspiFlags := 0
  conns := []
  refusals := []
  blocked := []
  objects := []
  objPart := []
  csmsUp := false
  csmsFails := 0
  csmsUrl := 0
  csmsQueue := []
  csmsSent := []
  fwXfer := none
  fwWritten := []
  fwTrialStart := 0
  sent := []
  nonce := none
  vectors := 1
  lines := 0
  msi := []
  fwWait := false
  checkpoint := Checkpoint.reset
  ethTx := []
  ethOut := []

end Sys2Proof.Machine
end

