-- ==== Sys2Proof/Machine/PartsPower.lean ====
section
/-! DEFINITION. The state of the transformer, the output stages, the allocation, the cooling and the outlets: what no
register shows. -/

namespace Sys2Proof.Machine

/-- What the transformer's loops measure and compute in a base cycle (chapters 8 and 9): values that come from the grid, the
tile programs and their gains, which no rule of the spec fixes (log entry 13). Voltages of the sequence estimator in 0.001 pu,
frequency in 0.01 Hz, the grid angle as an angle word, the PLL's gain in 2^-16, the angle jump in 0.1 degree, currents in 0.001 pu of rated current, iPhase as i_p / Î in
Q0.15, V_bus in 0.1 V, powers in kW; the gains of the bus loop (kW per 0.1 V in 2^-16) and of the energy loop (kW per 5 × 10^-11 J in 2^-40), each the
proportional and the integrator's; the voltage references of the current loops, positive and negative sequence, on the axes of θ in 0.1 V,
without their integrators, and the increments of these; the gain of the inter-phase loop's integrators (W per 5 × 10^-11 J in 2^-40) and the
current angles as angle words;
the gain of the intra-phase loop in 2^-15 and that of an update of the sharing loop in 2^-31. -/
structure SstIn where
  uPos : Nat
  uNeg : Nat
  freq : Nat
  rocof : Int
  angle : Nat
  kPll : Int
  jump : Nat
  iPeak : List Nat
  iSum : Nat
  iPos : Nat
  iPhase : List Int
  pGrid : Int
  qGrid : Int
  vBus : Nat
  kBus : Int
  iBus : Int
  kEn : Int
  iEn : Int
  vD : Int
  vQ : Int
  nD : Int
  nQ : Int
  curInc : List Int
  iShift : Int
  iAngle : List Nat
  kIntra : Int
  gShare : Int
  deriving DecidableEq, Repr

/-- Nothing measured. -/
def SstIn.reset : SstIn where
  uPos := 0
  uNeg := 0
  freq := 0
  rocof := 0
  angle := 0
  kPll := 0
  jump := 0
  iPeak := []
  iSum := 0
  iPos := 0
  iPhase := []
  pGrid := 0
  qGrid := 0
  vBus := 0
  kBus := 0
  iBus := 0
  kEn := 0
  iEn := 0
  vD := 0
  vQ := 0
  nD := 0
  nQ := 0
  curInc := []
  iShift := 0
  iAngle := []
  kIntra := 0
  gShare := 0

/-- A cell of the transformer (R327 to R329, R365 to R375): its last measurements (10 mV, mA, 0.01 °C), whether the last
cycle brought them, the consecutive missing ones, over-voltages and over-currents, since when it is below UV_BYP or above
TEMP_BYP, the warnings under way, the state before RESTORE, when its zero state takes effect, its DAB mode, the words the
modulator forms for its six legs, its DAB offset in edge units, and its sharing trim in 2^-31. -/
structure Cell where
  volt : Int
  iDab : Nat
  tempH : Int
  tempD : Int
  fresh : Bool
  missing : Nat
  overV : Nat
  overI : Nat
  underAt : Option Count
  hotAt : Option Count
  warnT : Bool
  warnV : Bool
  before : Nat
  zeroAt : Option Count
  dabMode : Nat
  words : List Word
  offset : Nat
  trim : Int
  deriving DecidableEq, Repr

/-- A cell not yet heard of. -/
def Cell.reset : Cell where
  volt := 0
  iDab := 0
  tempH := 0
  tempD := 0
  fresh := false
  missing := 0
  overV := 0
  overI := 0
  underAt := none
  hotAt := none
  warnT := false
  warnV := false
  before := 0
  zeroAt := none
  dabMode := 0
  words := []
  offset := 0
  trim := 0

/-- The transformer (R323 to R382): cells; the loops' last cycle; the references under approach as (from, since); since when
the lock's conditions hold and its breaks last; the angle at the last locked frequency; the ride-through (onset, since when the
grid is back, the extreme, the profile in force, the active power before the event and at RECOVER); since when the frequency is
out; the ladder (when its state began, its step and when that began, the target's start, precharge means, whether it ends in
LOCKOUT, whether BLOCKED had a refused restart, when it was last tried); breaker outputs; the restarts of the last hour; whether the force
latch of G_T is the protection's own, and of the earth fault's class; whether G_T was tripped; since when each check's condition holds; the phases to re-plan
with the cycle of the cause; the cycle of the last fail-over; the cells to bypass after the ladder; the current references,
the bus-support word and when the last restart's power ramp began; the total DAB power in kW and the zero-sequence voltage in 0.1 V of the
last cycle, with whether ZSEQ_MAX acts on it, and the references of the cell and bus voltages as they stand on their approach (10 mV, 0.1 V); the PLL's own angle; the
integrators of the energy, bus, inter-phase and current loops. -/
structure SstPart where
  cells : SMap Cell
  last : SstIn
  appr : SMap (Int × Count)
  goodAt : Option Count
  badAt : SMap Count
  unlockAt : Option Count
  jumped : Bool
  theta : Nat
  lockFreq : Nat
  onset : Count
  backAt : Option Count
  extreme : Nat
  profile : SMap Word
  pBefore : Int
  pEntry : Int
  recAt : Count
  freqAt : Option Count
  ladderAt : Count
  step : Nat
  stepAt : Count
  rampFrom : Int
  preAt : Count
  preMean : List Int
  preSlow : Bool
  gridBad : Option Count
  lockEnd : Bool
  refused : Nat
  triedAt : Count
  mainClose : Bool
  mainOpen : Bool
  preClose : Bool
  restarts : List Count
  own : Bool
  earth : Bool
  wasTrip : Bool
  checkAt : SMap Count
  replan : List (Nat × Nat)
  foCycle : Option Nat
  bypAfter : List Nat
  iD : Int
  iQ : Int
  iNeg : Int
  support : Int
  supportAt : Option Count
  rampAt : Option Count
  pDab : Int
  vZero : Int
  zLim : Bool
  vcNow : Int
  vbusNow : Int
  pll : Nat
  intW : Int
  intBus : Int
  intShift : List Int
  intCur : List Int
  deriving DecidableEq, Repr

/-- The transformer at reset: both breakers' close outputs released, the main open output released. -/
def SstPart.reset : SstPart where
  cells := []
  last := SstIn.reset
  appr := []
  goodAt := none
  badAt := []
  unlockAt := none
  jumped := false
  theta := 0
  lockFreq := 0
  onset := 0
  backAt := none
  extreme := 0
  profile := []
  pBefore := 0
  pEntry := 0
  recAt := 0
  freqAt := none
  ladderAt := 0
  step := 0
  stepAt := 0
  rampFrom := 0
  preAt := 0
  preMean := []
  preSlow := false
  gridBad := none
  lockEnd := false
  refused := 0
  triedAt := 0
  mainClose := false
  mainOpen := false
  preClose := false
  restarts := []
  own := false
  earth := false
  wasTrip := false
  checkAt := []
  replan := []
  foCycle := none
  bypAfter := []
  iD := 0
  iQ := 0
  iNeg := 0
  support := 0
  supportAt := none
  rampAt := none
  pDab := 0
  vZero := 0
  zLim := false
  vcNow := 0
  vbusNow := 0
  pll := 0
  intW := 0
  intBus := 0
  intShift := [0, 0, 0]
  intCur := [0, 0, 0, 0]

/-- What an outlet's loop measures and computes in a base cycle (R387, R394): V_out and V_bus in 0.1 V, I_out in mA, the voltage
loop's output in mA and the current loop's share of the duty in 2^-31 (log entry 13). -/
structure OutIn where
  vOut : Nat
  iOut : Int
  vBus : Nat
  vLoop : Int
  iLoop : Int
  deriving DecidableEq, Repr

/-- Nothing measured. -/
def OutIn.reset : OutIn := ⟨0, 0, 0, 0, 0⟩

/-- An output stage (R383 to R413): the session's direction and targets (0.1 V, mA), when its state began, the soft start's
start value, since when it lags, I_ref, I_lim and I_cmd in mA, the phase count of the last I_lim, since when N_on exceeds N_req,
the detector, the consecutive over-voltages and over-currents, whether its own latch is an over-voltage, the common duty in
2^-31, P_ref in W, the reason to stop for, V_TGT at entry to HOLD_V, and the last measurements. -/
structure Stage where
  exporting : Bool
  vTgt : Nat
  vMin : Nat
  vMax : Nat
  iEv : Nat
  since : Count
  vss : Nat
  lagAt : Option Count
  iRef : Int
  iLim : Int
  iCmd : Int
  shedAt : Option Count
  fired : Bool
  firedLim : Int
  overV : Nat
  overI : Nat
  ovLatch : Bool
  duty : Int
  pRef : Int
  noPhases : Bool
  vHeld : Nat
  last : OutIn
  deriving DecidableEq, Repr

/-- A stage in OFF. -/
def Stage.reset : Stage :=
  ⟨false, 0, 0, 0, 0, 0, 0, none, 0, 0, 0, none, false, 0, 0, 0, false, 0, 0, false, 0, OutIn.reset⟩

/-- A phase (R383 to R402): its last current (mA) and heatsink temperature (0.01 °C), whether the last cycle brought them, the
missing ones, READY and FAULT_LATCHED, the filtered deviation in 2^-16, whether it is above IMB_WARN, since when above IMB_TRIP,
the cause it takes after its ramp, and the duty it is given. -/
structure Phase where
  cur : Int
  temp : Int
  fresh : Bool
  missing : Nat
  ready : Bool
  faulty : Bool
  dev : Int
  warn : Bool
  tripAt : Option Count
  toFault : Nat
  word : Word
  deriving DecidableEq, Repr

/-- A phase not yet heard of. -/
def Phase.reset : Phase := ⟨0, 0, false, 0, false, false, 0, false, none, 0, 0⟩

/-- The output stages: outlets, phases, and the charging and exporting power of the last cycle in W (R398). -/
structure OutsPart where
  stages : SMap Stage
  phases : SMap Phase
  pChg : Int
  pExp : Int
  deriving DecidableEq, Repr

/-- No stage started. -/
def OutsPart.reset : OutsPart := ⟨[], [], 0, 0⟩

/-- The cooling of an outlet (R441 to R459): the node temperatures in 10^-9 °C, whether they were set at entry to RUN, the flow in
0.1 L/min and whether its source is good, since when it is too low for LOSS or for FLOW_LOW, or good again, the LEAK input, when
the run-on began, since when the conductor is too hot, the two conditions of R452, whether k_conn was below 1 and a CONN sensor
invalid, and the integrator of the fan's law in 10^-24 %. -/
structure Cool where
  thCd : Int
  thJk : Int
  inited : Bool
  flow : Nat
  flowOk : Bool
  lossAt : Option Count
  lowAt : Option Count
  backAt : Option Count
  leak : Bool
  onAt : Count
  hotAt : Option Count
  connTrip : Bool
  cableTrip : Bool
  derated : Bool
  connFail : Bool
  fanInt : Int
  deriving DecidableEq, Repr

/-- The cooling before its first cycle. -/
def Cool.reset : Cool :=
  ⟨0, 0, false, 0, true, none, none, none, false, 0, none, false, false, false, false, 0⟩

/-- A site-bus flow source (R444): its last word in 0.1 L/min, when its object was last refreshed, and when its lost flag was set
in the last second. -/
structure FlowSrc where
  val : Nat
  at' : Count
  lost : List Count
  deriving DecidableEq, Repr

/-- A source that no frame has come for. -/
def FlowSrc.reset : FlowSrc := { val := 0, at' := 0, lost := [] }

/-- Cooling and thermal inputs: outlets; per TH input the filtered value in 0.01 °C, when it was last faulty, and the consecutive
readings above CONN_TRIP; the site-bus flow sources; and by pump or fan on a message port the period in which it last sent. -/
structure CoolPart where
  outlets : SMap Cool
  filt : SMap Int
  badAt : SMap Count
  over2 : SMap Nat
  flows : SMap FlowSrc
  sent : SMap Nat
  deriving DecidableEq, Repr

/-- No cooling under way. -/
def CoolPart.reset : CoolPart := { outlets := [], filt := [], badAt := [], over2 := [], flows := [], sent := [] }

/-- What a vehicle says over its link (R467, R478), as the session acts on it: its parameters (energy service 0 DC, 1 DC_BPT,
2 DC_ACDP, 3 DC_ACDP_BPT; maximum voltage in 0.1 V, maximum power in kW), its identification accepted or not by the management
client whether it rests on a contract certificate and the reference that the session passes to the meter with it, the request for the cable check, its precharge target in 0.1 V, the request for energy transfer, its demand (0.1 V, signed A),
and its stop. -/
inductive VehMsg where
  | params (service vMax pMax : Nat)
  | identified (ok contract : Bool) (ref : List Byte)
  | cableCheck
  | preCharge (vTgt : Nat)
  | startTransfer
  | demand (vTgt : Nat) (current : Int)
  | stop
  deriving DecidableEq, Repr

/-- A sample of an outlet's connector signalling: the two phases of the control pilot in mV (R463; no low phase where no PWM
runs), or the state of the circuits of a MEGAWATT outlet as SIG codes it (R464). -/
inductive SigSample where
  | cp (high : Int) (low : Option Int)
  | mcs (sig : Nat)
  deriving DecidableEq, Repr

/-- What a session has told its vehicle of its end (R478, R479): nothing, that it stops, or an emergency shutdown. -/
inductive VehTold where
  | nothing
  | stop
  | emergencyShutdown
  deriving DecidableEq, Repr

/-- An outlet's session (R462 to R485): the close outputs and since when a change waits for its feedback, the DISABLE inhibit, the
accepted signal state, the step of PRECHECK or CABLE_CHECK and when it began, V_0, since when IMD_OK is active, inactive, or active
with the stage in HOLD_V, since when the session is in its state, what the vehicle agreed and asked for, the end under way (0 none,
1 normal, 2 emergency), the base cycle of the last cause, the stop's instant, the end still to be counted, the direction
asked for, what the vehicle was told of the end, and the reference for the session record. -/
structure Outlet where
  cmd : Bool
  cmdAt : Option Count
  disabled : Bool
  sigRaw : Nat
  step : Nat
  stepAt : Count
  vZero : Nat
  okAt : Option Count
  badAt : Option Count
  holdAt : Option Count
  since : Count
  service : Nat
  agreed : Bool
  auth : Bool
  checkReq : Bool
  startReq : Bool
  preTgt : Nat
  vMax : Nat
  vTgt : Nat
  iReq : Int
  ending : Nat
  endCycle : Option Nat
  stopAt : Count
  tally : Nat
  wantExport : Bool
  told : VehTold
  custRef : List Byte
  deriving DecidableEq, Repr

/-- An outlet without a session. -/
def Outlet.reset : Outlet :=
  ⟨false, none, false, 0, 0, 0, 0, none, none, none, 0, 0, false, false, false, false, 0, 0, 0, 0, 0, none, 0, 0, false, .nothing, []⟩

/-- The outlets, and the start (true) and end instants they have passed to the metrology die, oldest first. -/
structure OutlPart where
  outlets : SMap Outlet
  toMeter : List (Nat × Bool × Count)
  deriving DecidableEq, Repr

/-- No session open. -/
def OutlPart.reset : OutlPart := ⟨[], []⟩

/-- What a metrology result tells the allocation (R422, R423, R430): E_used of the running interval in µWh, the grid power in W, the
sample instant's timestamp, the interval's end and length in counts, and the active tariff register. -/
structure AlocData where
  eUsed : Int
  pGrid : Int
  ts : Count
  endTs : Count
  len : Nat
  tariff : Nat
  deriving DecidableEq, Repr

/-- The allocation scheduler (R414 to R439): the latest result since entry to RUN and when it arrived, the boundary of entry to
RUN, the multiple of 10 ms whose tick comes next, the last tick and the latest result's sample instant on the monotonic count (R52), E_est in µWh, the interval end carried forward, the rotating pointer, the
outlets whose minimum is unmet, and the publications that the ticks hold by slot: when the slot's cycle ended and its values (R228). -/
structure AlocPart where
  last : Option AlocData
  arrived : Count
  runAt : Count
  nextTick : Nat
  tickAt : Count
  sampleAt : Count
  eEst : Int
  endTs : Count
  ptr : Nat
  unmet : List Nat
  pubs : SMap (Count × List Rat)
  deriving DecidableEq, Repr

/-- No tick made. -/
def AlocPart.reset : AlocPart := ⟨none, 0, 0, 0, 0, 0, 0, 0, 0, [], []⟩

end Sys2Proof.Machine
end

