-- ==== Sys2Proof/Machine/PartsField.lean ====
section
/-! DEFINITION. The state of the safety channels, the metrology die, the supply and the units behind them: what no register
shows. -/

namespace Sys2Proof.Machine

/-- An axis as one Hedgerow channel sees it (R496 to R502): the positions of the last cycles (both encoders, 0.01 mm, newest
first), the INCR encoders' offsets, the consecutive cycles of each condition (SLS, position, speed, open pairs, standstill), the
speed at entry to STOPPING in 0.1 mm/s and that instant, the furthest allowed position since ZONE became 1, whether the brake
follows in the next cycle, whether a condition of R498 or R500 holds, the channel's own pads, and since when they hold after the
channel stopped. -/
structure Axis where
  hist : List (Int × Int)
  ofs0 : Int
  ofs1 : Int
  slsN : Nat
  posN : Nat
  spdN : Nat
  openN0 : Nat
  openN1 : Nat
  stillN : Nat
  vStop : Nat
  stopAt : Count
  sdiRef : Option Int
  brkDue : Bool
  cond : Bool
  sto : Bool
  brk : Bool
  holdAt : Option Count
  deriving DecidableEq, Repr

/-- An axis that no channel has run for. -/
def Axis.reset : Axis := ⟨[], 0, 0, 0, 0, 0, 0, 0, 0, 0, 0, none, false, false, false, false, none⟩

/-- What a channel's cross record says of an axis (R489): state, cause, and the levels commanded on its own pads. -/
structure CrossAxis where
  state : Nat
  cause : Nat
  sto : Bool
  brk : Bool
  deriving DecidableEq, Repr

/-- The cross record that a channel sends in a safety cycle (R489): the cycle's number, the input image (ESTOP_A and ESTOP_B active,
FB_0 to FB_15, both positions of each axis, DATA of the RX connections), the axes, and SAFE_CHECK_RUN. -/
structure CrossRec where
  cycle : Nat
  estA : Bool
  estB : Bool
  fb : Nat
  pos : List (Int × Int)
  data : List (List Byte)
  axes : List CrossAxis
  check : Word
  deriving DecidableEq, Repr

/-- A Hedgerow channel (R487 to R491): consecutive valid records with an equal check, agreeing, missing and differing records, when
it entered START or last had a valid record there, and its record of the last safety cycle. -/
structure Chan where
  good : Nat
  agree : Nat
  missing : Nat
  differ : Nat
  startAt : Count
  record : Option CrossRec
  deriving DecidableEq, Repr

/-- A channel that has not run. -/
def Chan.reset : Chan := { good := 0, agree := 0, missing := 0, differ := 0, startAt := 0, record := none }

/-- A safety connection (R507 to R511): whether a frame was accepted, the instant of the last one, the consecutive accepted ones,
its ZONE and STOP_IN bits and its DATA, when it last sent, and the frame it sent. -/
structure Conn3 where
  got : Bool
  last : Count
  run : Nat
  zone : Bool
  stopIn : Bool
  data : List Byte
  txAt : Count
  sent : List Byte
  deriving DecidableEq, Repr

/-- A connection that nothing has come over. -/
def Conn3.reset : Conn3 :=
  { got := false, last := 0, run := 0, zone := false, stopIn := false, data := [], txAt := 0, sent := [] }

/-- What one channel reads of one axis in a safety cycle (R496, R498): the count of an INCR encoder or the word of an SSI frame of both encoders,
and whether a pair is open or shorted or an SSI frame missing. -/
structure AxisIn where
  p0 : Int
  p1 : Int
  open0 : Bool
  open1 : Bool
  deriving DecidableEq, Repr

/-- No position read. -/
def AxisIn.reset : AxisIn := ⟨0, 0, false, false⟩

/-- What reaches one channel in a safety cycle: the axes, and whether its partner's cross record came and is valid. -/
structure ChanIn where
  axes : List AxisIn
  record : Bool
  deriving DecidableEq, Repr

/-- Hedgerow (R486 to R520): the commissioned value, channels by side, axes by side × 2 + axis, connections, the e-stop inputs
(active), since when they disagree and whether they have been active together since ESTOP_DISC was set, the values the channels
run with and the base cycle of the last flip of RWC values, the whole millisecond whose safety cycle comes next, since when each
pole disagrees with its command, the outlets that the e-stop holds, and the axes whose reset requests wait for the next safety
cycle, oldest first. -/
structure SafePart where
  commissioned : Option Word
  chans : SMap Chan
  axes : SMap Axis
  conns : SMap Conn3
  estA : Bool
  estB : Bool
  discAt : Option Count
  discBoth : Bool
  vals : SMap Word
  flipCycle : Option Nat
  nextMs : Nat
  poleAt : SMap Count
  held : Nat
  resets : List Nat
  deriving DecidableEq, Repr

/-- Hedgerow before its first safety cycle. -/
def SafePart.reset : SafePart :=
  { commissioned := none, chans := [], axes := [], conns := [], estA := false, estB := false, discAt := none, discBoth := false,
    vals := [], flipCycle := none, nextMs := 0, poleAt := [], held := 0, resets := [] }

/-- One metrology channel on the die (R524 to R542): the pair's value of the last sample in pV, the integrator in 10^-21 V·s, the primary value in
10^-6 units before and after the delay; failed and passed bias tests in a row; OPEN, a clipped sample in the running window,
OVERLOAD, POLARITY, and since when its condition holds and is absent; TEMP_SRC and TEMP_RANGE; G_T in 0.1 ppm and P_T in ns; the
sums of the running 200 ms in 0.1 µV, and its results; the last valid temperature of the channel's table in 0.1 °C, and a TEMP
channel's samples of the running 100 ms with their sum in pV. -/
structure DieChan where
  pv : Int
  coil : Int
  prim : Int
  val : Int
  fails : Nat
  passes : Nat
  opened : Bool
  clip : Bool
  ovl : Bool
  pol : Bool
  polAt : Option Count
  polOff : Option Count
  tempSrc : Bool
  tempRange : Bool
  gT : Int
  pT : Int
  n : Nat
  sq : Nat
  sum : Int
  hi : Int
  lo : Int
  rms : Nat
  mean : Int
  pkHi : Int
  pkLo : Int
  temp : Option Int
  tN : Nat
  tSum : Int
  deriving DecidableEq, Repr

/-- A channel that has taken no sample. -/
def DieChan.reset : DieChan :=
  { pv := 0, coil := 0, prim := 0, val := 0, fails := 0, passes := 0, opened := false, clip := false, ovl := false, pol := false,
    polAt := none, polOff := none, tempSrc := false, tempRange := false, gT := 0, pT := 0, n := 0, sq := 0, sum := 0, hi := 0, lo := 0,
    rms := 0, mean := 0, pkHi := 0, pkLo := 0, temp := none, tN := 0, tSum := 0 }

/-- A session accumulation (R578, R579): whether it is open, OUTL_O_SESS_n, the start's timestamp, meter count, import, export and
local offset, the energies by direction × 8 + tariff register, billed and tested, in mWh, the flags and tampers so far, and
CUST_REF. -/
structure SessAcc where
  on : Bool
  sess : Nat
  ts : Count
  mc : Nat
  imp : Nat
  exp : Nat
  ofs : Int
  billed : SMap Nat
  tested : SMap Nat
  flags : Nat
  tampers : Nat
  cust : List Byte
  deriving DecidableEq, Repr

/-- No accumulation. -/
def SessAcc.reset : SessAcc := ⟨false, 0, 0, 0, 0, 0, 0, [], [], 0, 0, []⟩

/-- A gap record (R576): point, saved timestamp and meter count, and E_BOUND in µJ. -/
structure GapRec where
  point : Nat
  ts : Count
  mc : Nat
  bound : Nat
  deriving DecidableEq, Repr

/-- What the die's sealed MRAM holds (R552 to R556, R579, R581): the METR and BILL registers as the die holds them, the residuals
below 1 mWh by point × 8 + direction (2 to 5 the reactive quadrants, from 6 in TEST), the running interval's energies by point ×
2 + direction, its first meter count and its flags, the sessions by outlet, the meter count, the next numbers of session and
interval records, the records, those that wait for their signature, the gap records, the billing period counter, and the local date of the last period
close. -/
structure DieMem where
  regs : SMap Word
  resid : SMap Nat
  intE : SMap Nat
  intMc : Nat
  intFlags : Nat
  sess : SMap SessAcc
  mc : Nat
  sessNo : Nat
  intNo : Nat
  sessRecs : SMap (List Byte)
  intRecs : SMap (List Byte)
  histRecs : SMap (List Byte)
  unsigned : List Nat
  gaps : List GapRec
  period : Nat
  closeDay : Option Nat
  deriving DecidableEq, Repr

/-- A die in BLANK. -/
def DieMem.reset : DieMem := ⟨[], [], [], 0, 0, [], 0, 0, 0, [], [], [], [], [], 0, none⟩

/-- A result record on the one-way channel (R548): its stamp, the registers it shows, harmonics, the events it reports and the
records closed since the last. -/
structure DieRec where
  ts : Count
  free : Bool
  regs : SMap Word
  harm : SMap Word
  aloc : AlocData
  events : List (Nat × Count × Word)
  closed : List (Nat × Nat)
  deriving DecidableEq, Repr

/-- A time line (R76, R557): its timestamp and when it came, the TAI−UTC offset in s and the local offset in minutes that it carries. -/
structure DieLine where
  ts : Count
  at' : Count
  tai : Nat
  ofs : Int
  deriving DecidableEq, Repr

/-- The metrology die as it measures (R521 to R550): the working map's digest once CLOSED has stored one; whether the die runs and
sleeps; the map waiting for the next sample instant; the map's settings; the seal loop, its words in a row and the LFSR; the
channels; the sums of the groups; the last grid cycles, newest first; harmonics; RWS entries on the calibration path; its time
(last mark, when, the offsets of the last line, what is left to slew, whether known and VALID, a step that is due); when it last sent and the records on their way; events since the
last; the records closed since the last; a boundary that is to be reported; when the sides last received, and the harmonics they show; whether the image uses the harmonic analysis (R10); TAMP
changes to active that wait for the next time line, since when every legal group is idle, and the time of the last sample instant. -/
structure MetrPart where
  mapHeld : Bool
  mapDigest : List Byte
  working : List Byte
  on : Bool
  sleep : Bool
  newMap : Option (List Byte)
  pars : SMap Int
  loop : Nat
  loopRun : Nat
  lfsr : BitVec 16
  chans : SMap DieChan
  acc : SMap Int
  cycles : List (List Int)
  harm : SMap Word
  rws : List (Nat × Word)
  markTs : Count
  markAt : Count
  tai : Nat
  ofs : Int
  slew : Int
  timeKnown : Bool
  lineValid : Bool
  stepDue : Option DieLine
  free : Bool
  sentAt : Count
  outbox : List DieRec
  events : List (Nat × Count × Word)
  closed : List (Nat × Nat)
  boundary : Bool
  rxAt : Option Count
  shownHarm : SMap Word
  harmUsed : Bool
  tamps : List (Nat × Count)
  idleAt : Option Count
  lastTs : Count
  deriving DecidableEq, Repr

/-- The die at its start, with no working map (R543, R545). -/
def MetrPart.reset : MetrPart :=
  { mapHeld := false, mapDigest := List.replicate 48 0, working := [], on := true, sleep := false, newMap := none, pars := [], loop := 2,
    loopRun := 0, lfsr := 1, chans := [], acc := [], cycles := [], harm := [], rws := [], markTs := 0, markAt := 0, tai := 0, ofs := 0,
    slew := 0, timeKnown := false, lineValid := false, stepDue := none, free := false, sentAt := 0, outbox := [], events := [],
    closed := [], boundary := false, rxAt := none, shownHarm := [], harmUsed := false, tamps := [], idleAt := none, lastTs := 0 }

/-- A legal display (R585): 0 AUTO, 1 SESSION, 2 HOLD, 3 MANUAL, 4 STATUS; the state it goes back to from STATUS and from MANUAL; when it entered, when the item
was taken, the list position, the last frame and when. -/
structure Disp where
  state : Nat
  back : Nat
  manBack : Nat
  since : Count
  itemAt : Count
  pos : Nat
  pressAt : Option Count
  frame : List Byte
  frameAt : Count
  deriving DecidableEq, Repr

/-- A display in AUTO. -/
def Disp.reset : Disp := ⟨0, 0, 0, 0, 0, 0, none, [], 0⟩

/-- Billing (R552 to R587): the die's content as it stands, the two copies in its sealed MRAM and whether the CRC of each holds (R556),
whether both have failed since the last entry to CLOSED, the number of key pairs generated (R580), when the copies were written, and whether
FLUSH_OK stands; the demand length
that waits (R567); the greatest local minute that the calendar was evaluated for; an accepted BILL_RESET, with the second it acts
at, and the meter count of the last; the local day the period check has reached; settings on their way, with when they left;
displays; a path's record request and when; F of the last cut; and the sides' copies of records, by kind and number, with the monotonic count
at which each came (R558, R581). -/
structure BillPart where
  mem : DieMem
  saved : DieMem
  saved2 : DieMem
  savedOk : Bool
  saved2Ok : Bool
  regError : Bool
  keyNo : Nat
  savedMc : Nat
  savedTs : Count
  flushOk : Bool
  demNew : Option Nat
  calSeen : Option Nat
  resetAt : Option Nat
  resetMc : Option Nat
  daySeen : Option Nat
  due : List (Nat × Word × Count)
  disps : SMap Disp
  reqs : SMap (Option (Nat × Count))
  cutTs : Count
  copies : List (Nat × Nat × Count)
  deriving DecidableEq, Repr

/-- Billing on a die in BLANK. -/
def BillPart.reset : BillPart :=
  { mem := DieMem.reset, saved := DieMem.reset, saved2 := DieMem.reset, savedOk := true, saved2Ok := true, regError := false, keyNo := 0,
    savedMc := 0, savedTs := 0, flushOk := false, demNew := none, calSeen := none, resetAt := none, resetMc := none, daySeen := none,
    due := [], disps := [], reqs := [], cutTs := 0, copies := [] }

/-- A sample as the engine holds it (R594, R595, R607): its number since the engine last left IDLE, stamps, lane values, TIME_Q and
TIME_OFFSET, and the first timestamp of the gap marker before it (R85). -/
structure AcqItem where
  idx : Nat
  ts : Count
  mono : Count
  vals : List Int
  timeQ : Nat
  ofs : Word
  gapTs : Count
  deriving DecidableEq, Repr

/-- An open record (R601): the number of sample k, whether a sample from k on has been stored, the samples, FLAGS so far, the
trigger instant, TRIG_UNIT and BUS_TS. -/
structure AcqRec where
  k : Nat
  begun : Bool
  items : List AcqItem
  flags : Nat
  ts : Count
  unit : Nat
  busTs : Count
  deriving DecidableEq, Repr

/-- What a trigger unit remembers (R598): whether the lane has been below and above the hysteresis since the last firing. -/
structure AcqUnit where
  low : Bool
  high : Bool
  deriving DecidableEq, Repr

/-- A trigger unit's firing (R52, R598, R600): the unit, its instant as a timestamp and on the monotonic count, and BUS_TS. -/
structure AcqFire where
  unit : Nat
  ts : Count
  mono : Count
  busTs : Count
  deriving DecidableEq, Repr

/-- An acquisition engine on one side (R601): state, latched settings by offset, the next sample number, the last sample, the
pre-trigger buffer, its units, firings that wait for the next sample, the sequence's place and the instant of
its last firing on the monotonic count, whether the TIME unit has fired and the timestamp of the arm, the open record, the closed records, oldest first,
the next RECORD_NO, LAST, when HOLDOFF began, and the records closed since the last ACQ_RECORD with its instant. -/
structure AcqEng where
  state : Nat
  cfg : SMap Word
  next : Nat
  last : Option AcqItem
  buf : List AcqItem
  units : SMap AcqUnit
  fires : List AcqFire
  seqPos : Nat
  seqAt : Count
  timeDone : Bool
  armTs : Count
  openRec : Option AcqRec
  recs : List (Nat × List Byte)
  nextNo : Nat
  lastNo : Nat
  heldAt : Count
  closed : Nat
  postAt : Option Count
  deriving DecidableEq, Repr

/-- An engine in IDLE with an empty partition. -/
def AcqEng.reset : AcqEng :=
  ⟨0, [], 0, none, [], [], [], 0, 0, false, 0, none, [], 0, 0xFFFFFF, 0, 0, none⟩

/-- Acquisition: engines by side × 16 + engine, the commands that wait for the boundary by engine (bit 0 ARM, 1 STOP, 2 TRIG,
3 CLEAR_STORE), and each path's record request. -/
structure AcqPart where
  engs : SMap AcqEng
  due : SMap Nat
  reqs : SMap (Option Count)
  deriving DecidableEq, Repr

/-- No engine runs. -/
def AcqPart.reset : AcqPart := ⟨[], [], []⟩

/-- A site-bus message: identifier, IDE, format (0 classic, 1 FD, 2 XL), bit-rate switch, data. -/
structure CanMsg where
  id : Nat
  ide : Bool
  fmt : Nat
  brs : Bool
  data : List Byte
  deriving DecidableEq, Repr

/-- A transmit buffer (R617 to R619): 0 FREE, 1 PENDING, 2 QUEUED; its message, and when it became PENDING. -/
structure CanBuf where
  state : Nat
  msg : Option CanMsg
  pendAt : Count
  deriving DecidableEq, Repr

/-- A buffer that holds nothing. -/
def CanBuf.reset : CanBuf := ⟨0, none, 0⟩

/-- An entry of a hardware queue (R622): port, buffer, message, and when the buffer became PENDING. -/
structure CanEntry where
  port : Nat
  buf : Nat
  msg : CanMsg
  pendAt : Count
  deriving DecidableEq, Repr

/-- A receive object (R626, R627): format, data and start-of-frame timestamp of the last frame, NEW and LOST. -/
structure CanObj where
  fmt : Nat
  data : List Byte
  ts : Count
  fresh : Bool
  lost : Bool
  deriving DecidableEq, Repr

/-- An object never written. -/
def CanObj.reset : CanObj := ⟨0, [], 0, false, false⟩

/-- A controller's engine on one side: buffers by port × 3 + buffer, the hardware queue, oldest first, its high water, and the
receive objects. -/
structure CanEng where
  bufs : SMap CanBuf
  queue : List CanEntry
  high : Nat
  objs : SMap CanObj
  deriving DecidableEq, Repr

/-- An engine with nothing to send and nothing received. -/
def CanEng.reset : CanEng := ⟨[], [], 0, []⟩

/-- The site bus (R613 to R637): engines by side × 4 + controller; by controller: bus-offs of the last 60 s, when BUS_OFF began, a
waiting SLEEP request, decoding errors since sleep began, acknowledgement errors in a row; since when a wiring condition is absent
(controller × 8 + flag); the last PERIODIC tick of a port (controller × 16 + port); the data of the last frame of an identifier; and
the objects whose flags the standby side takes at the boundary. -/
structure CanPart where
  engs : SMap CanEng
  offs : SMap (List Count)
  offAt : SMap Count
  sleepReq : SMap Count
  errs : SMap Nat
  acks : SMap Nat
  gone : SMap Count
  ticks : SMap Nat
  prev : SMap (List Byte)
  clears : List (Nat × Nat)
  deriving DecidableEq, Repr

/-- No controller runs. -/
def CanPart.reset : CanPart := ⟨[], [], [], [], [], [], [], [], [], []⟩

/-- A load-switch channel beside its registers (R643 to R662): the host's command that waits for the boundary, when its state
began, the inrush window's counted time and the start of its running part, since when TREG is set and the pause so far, the bucket in
µJ and when it stood there, since when the current is below the open-load level, the last off-state test, the clears by its source in
the last hour, the FCLK period of the last CLEAR and of the last turn-off by command, a short that latches at the next turn-on, whether
the present command's refusal was posted, and LSW_TIME_n and LSW_LIM_n as they stood at entry to Fog mode (R660). -/
structure LswCh where
  req : Option Bool
  since : Count
  run : Nat
  runAt : Count
  tregAt : Option Count
  pause : Nat
  bucket : Int
  bucketAt : Count
  lowAt : Option Count
  testAt : Option Count
  fogClears : List Count
  clearAt : Option Nat
  offAt : Option Nat
  shortNext : Bool
  told : Bool
  heldTime : Option Word
  heldLim : Option Word
  fogHeld : Bool
  deriving DecidableEq, Repr

/-- A channel that has not been on. -/
def LswCh.reset : LswCh :=
  { req := none, since := 0, run := 0, runAt := 0, tregAt := none, pause := 0, bucket := 0, bucketAt := 0, lowAt := none, testAt := none,
    fogClears := [], clearAt := none, offAt := none, shortNext := false, told := false, heldTime := none, heldLim := none, fogHeld := false }

/-- The load switches (R639 to R665): channels, the cause of Fog mode for the whole module (0 none, 1 SAFE_HOLD, 2 orphan control,
3 start-up), the last shed, since when each FOGIN pad is inactive, and whether an image was loaded since the last boundary. -/
structure LswPart where
  chans : SMap LswCh
  fog : Nat
  shedAt : Option Count
  padOff : SMap Count
  loadDue : Bool
  deriving DecidableEq, Repr

/-- Every channel off. -/
def LswPart.reset : LswPart := ⟨[], 0, none, [], false⟩

/-- A request for a side's SRAM or DRAM (R42, R671): from port 1 or port 0, the requester's class in the order of R42 (port 0: 0 loop tile,
1 edge engine; port 1: 0 Keeper copy engine, 1 acquisition engine, 2 protocol engine, 3 application core) and its number in the class, the
side address, the size in bytes, and the datum of a write. -/
structure MemReq where
  port1 : Bool
  cls : Nat
  who : Nat
  addr : Nat
  size : Nat
  data : Option (BitVec 64)
  deriving DecidableEq, Repr

/-- The requests that one FCLK period brings, after some periods that bring none. -/
structure MemTurn where
  side : Side
  idle : Nat
  reqs : List MemReq
  deriving DecidableEq, Repr

/-- The SRAM ports of a side (R670 to R676): the requests that wait, the upper halves that port 1 serves in the next period, the bytes of
colliding lanes that land in the next period (R45), the rotating pointers by port and class (R40), and the datum each requester read last. -/
structure SramPorts where
  waits : List MemReq
  halves : List MemReq
  late : List (Nat × Byte)
  pointer : SMap Nat
  got : SMap (BitVec 64)
  deriving DecidableEq, Repr

/-- Nothing waits. -/
def SramPorts.reset : SramPorts where
  waits := []
  halves := []
  late := []
  pointer := []
  got := []

/-- A record of the Guard fault log (R53, R682): 0 GUARD_FAULT, 1 a wipe; its cause, timestamp and monotonic count. -/
structure GuardRec where
  kind : Nat
  cause : Nat
  ts : Count
  mono : Count
  deriving DecidableEq, Repr

/-- The memories (R670 to R695): the SRAM ports by side, how many blocks of each tuning store have been written (R686), the Guard fault
log, oldest first, the armed life-cycle target and when, the accepted transition, how often the module went from RETURNED to BLANK, and the sides whose wipe is pending. -/
structure MemPart where
  ports : SMap SramPorts
  wear : SMap Nat
  faults : List GuardRec
  armed : Option (Nat × Count)
  lcTo : Option Nat
  returns : Nat
  wipePend : List Nat
  deriving DecidableEq, Repr

/-- Nothing armed, no wipe pending. -/
def MemPart.reset : MemPart where
  ports := []
  wear := []
  faults := []
  armed := none
  lcTo := none
  returns := 0
  wipePend := []

/-- Where a memory error occurs (R687): a side's memory k (0 SRAM, 1 DRAM, 2 MRAM) at a side address, or a record of the Guard die,
by record (0 pad record, 1 epoch and life-cycle record, 2 fault log) and whether both copies are lost; or the copies of the metrology
die's sealed MRAM (R556): for each that is hit, the register words that it then holds otherwise. -/
inductive MemPlace where
  | side (x : Side) (k : Nat) (addr : Word)
  | guard (record : Nat) (both : Bool)
  | die (a b : Option (List (Nat × Word)))
  deriving DecidableEq, Repr

/-- What a GPIO pad drives: a level, high impedance, or a pulse width of a frequency in Hz and a duty in per cent (R456). -/
inductive GpioLevel where
  | low | high | hiZ
  | pwm (hz duty : Nat)
  deriving DecidableEq, Repr

/-- The supply, the power states and the start (R697 to R726, R781): the phase of the logic (0 unpowered, 1 the bus is discharged
before a new try, 2 held in reset by MRST_N, 3 released and before the Guard step, 4 started), the auxiliary
input, whether the always-on domain has power, when charging from 0 V began and the time it took, the start of the ladder,
whether PWR_START_LATE was posted, the deeper candidate state and since when, when each PWR_LTR_k
was written, since when a deferring side is cool, the instant of the last reset of R720, whether the always-on domain has lost power
since the last start, whether the load condition of TRIM holds, and what the GPIO outputs last drove for the image (R178). -/
structure PowerPart where
  phase : Nat
  aux : Bool
  onDomain : Bool
  chargeAt : Count
  tch : Nat
  ladderAt : Count
  late : Bool
  cand : Nat
  candAt : Option Count
  ltrAt : SMap Count
  coolAt : SMap Count
  autoAt : Option Count
  lost : Bool
  trimOk : Bool
  gpio : SMap GpioLevel
  deriving DecidableEq, Repr

/-- The supply of a module whose Guard die has just been released from reset. -/
def PowerPart.reset : PowerPart where
  phase := 3
  aux := true
  onDomain := true
  chargeAt := 0
  tch := 0
  ladderAt := 0
  late := false
  cand := 0
  candAt := none
  ltrAt := []
  coolAt := []
  autoAt := none
  lost := true
  trimOk := false
  gpio := []

end Sys2Proof.Machine
end

