-- ==== Sys2Proof/Machine/Inputs.lean ====
section
/-! DEFINITION. What the surroundings give the module at a base-cycle boundary: measurements and link results that no
rule of the spec computes. -/

namespace Sys2Proof.Machine

/-- The seal word that closes a per-cycle copy as it arrives (R165): its byte count, and whether the copy matches its CRC-32. The sender's
CTRL_DIGEST and HEALTH, which it also holds, are the model's. -/
structure CopySeal where
  bytes : Nat
  crcOk : Bool
  deriving DecidableEq, Repr

/-- What arrives of a side's Beacon by the deadline (R163): the Beacon as it was sent, nothing, or other bytes. -/
inductive BeaconIn where
  | sent
  | none
  | bytes (b : List Byte)
  deriving DecidableEq, Repr

/-- Why a side asserts its fault line (R164): a fail-over cause of R162, or a reset of the side, coded as in PWR_SIDE_RST. -/
inductive FaultWhy where
  | memEcc | residue | parity | rail | temp
  | reset (code : Nat)
  deriving DecidableEq, Repr

/-- How PTP frames travel (R66). -/
inductive PtpTransport where
  | udp4 | udp6 | ethernet
  deriving DecidableEq, Repr

/-- A PTP exchange with the master of a port (R66): its transport, whether it measures the delay peer to peer, whether the master works in
two steps, the sync interval as a power of 2 in seconds; the Sync, sent at sent by the master's time and passing SGMII at came by the
module's; and the delay frame the module sent, its answer or peer frame, on the same two times: out (module), peerIn and peerOut (the other
end), back (module; peer to peer only). -/
structure PtpExchange where
  transport : PtpTransport
  p2p : Bool
  twoStep : Bool
  logIv : Int
  sent : Count
  came : Count
  out : Count
  peerIn : Count
  peerOut : Count
  back : Count
  deriving DecidableEq, Repr

/-- How a side's boot ends: the self-test's result, the structure digest the side computed after the load (R120, R159), and the
firmware bank that passed the boot code's checks: none where neither did, false the bank the start names, true the other (R747). -/
structure BootEnd where
  selfTest : Bool
  digest : List Byte
  bank : Option Bool
  deriving DecidableEq, Repr

/-- What the load-switch controllers measure (R653, R666): by channel current in 10 mA, junction temperature in 0.1 °C and the clamp energy in
mJ of a turn-off at this boundary; the rails in 10 mV. -/
structure LswIn where
  cur : SMap Nat
  tj : SMap Int
  energy : SMap Nat
  vaux1 : Int
  vaux2 : Int
  deriving DecidableEq, Repr

/-- What the supply section and the sensors of the dies show (R704, R713, R714, PWR_SUPPLY to PWR_TEMP2): the core load of the active
side below 40 % over 10 s, and above 70 % over 100 ms; voltages, powers and temperatures as the registers scale them; the levels of
the WAKE comparators, bit k for WAKE_k. -/
structure PowerIn where
  lowLoad : Bool
  highLoad : Bool
  vIn : Nat
  vHold : Nat
  pLogic : Nat
  pIn : Nat
  tA : Int
  tB : Int
  tGuard : Int
  tMetr : Int
  wake : Nat
  deriving DecidableEq, Repr

/-- The trust anchor that a client's certificate chains to (R735, R743). -/
inductive Anchor where
  | mgmt | metrology | safety | provisioning | unknown
  deriving DecidableEq, Repr

/-- A client's certificate as the handshake finds it (R735): its anchor, the role its subject names, whether it is revoked, whether the
present time lies in its validity period, and whether the TLS handshake itself holds. -/
structure ClientCert where
  anchor : Anchor
  role : Option Role
  revoked : Bool
  inValidity : Bool
  tlsOk : Bool
  deriving DecidableEq, Repr

/-- What the CSMS tells the management client (R741, R478): a transaction profile with its power for ALOC_O_LIM_n.P_MAX and its bytes, a
station maximum for ALOC_GRID.IMPORT_CAP, a token accepted for an outlet with the class of its group, or a session to stop. -/
inductive CsmsMsg where
  | profile (n pMax : Nat) (bytes : List Byte)
  | station (cap : Nat)
  | token (n cls : Nat)
  | stop (n : Nat)
  deriving DecidableEq, Repr

/-- The inputs of a base-cycle boundary: the requests for SRAM and DRAM in the ended cycle, the Keeper copy, the link, the bytes that a bulk
transfer moved, the sides whose core PLL lost lock and those of which a service-set function stopped in the cycle (R162), the transformer's
loops, the outlets' loops, the Ethernet frames that started on the wire in the cycle, and current (mA) and heatsink (0.01 °C) of the phases on local pairs by pair (R386), the levels of the GPIO pads, bit k for GPIO_k, the load switches' measurements, and the supply
and die sensors. -/
structure BoundaryIn where
  mem : List MemTurn
  sealWord : Option CopySeal
  linkTrained : Bool
  bulkBytes : Nat
  pllLost : List Side
  svcStopped : List Side
  ethSent : Nat
  sst : SstIn
  outs : SMap OutIn
  pairMeas : SMap (Int × Int)
  gpio : Nat
  lsw : LswIn
  power : PowerIn
  deriving DecidableEq, Repr

/-- What a base-cycle boundary has still to do while a safety cycle or an allocation tick of the same boundary, which R35 places before it,
has not run (R36): its inputs, the edge units by which the boundary was moved, and whether its transactions have flipped. -/
structure Owed where
  inp : BoundaryIn
  shift : Int
  flipped : Bool
  deriving DecidableEq, Repr

end Sys2Proof.Machine
end

