-- ==== Sys2Proof/Machine/PartsCtl.lean ====
section
/-! DEFINITION. The state of the control engines: loop tiles, edge engine, rings and transformer: what no register
shows. -/

namespace Sys2Proof.Machine

/-- A word operand of a tile operation: a data-store word or a parameter word of the loop. -/
inductive Opnd where
  | data (w : Nat)
  | param (k : Nat)
  deriving DecidableEq, Repr

/-- A source that ROUTES connects to a tile: fast sense channel, ring measurement, thermal input, or own parameter word. -/
inductive TileSrc where
  | fast (ch : Nat)
  | ring (port ep : Nat)
  | therm (input : Nat)
  | param (k : Nat)
  deriving DecidableEq, Repr

/-- A comparison of two words. -/
inductive Rel where
  | lt | le | eq
  deriving DecidableEq, Repr

/-- A condition that SEL or BR tests: one that CMP set, or one of the cycle's flags. -/
inductive Cond where
  | user (i : Nat)
  | late | missing | gap | sat | intClamp | accOvf | divz
  deriving DecidableEq, Repr

/-- An instant as a timestamp and on the monotonic count (R52, R223). -/
structure Stamp where
  ts : Count
  inst : Count
  deriving DecidableEq, Repr

/-- A loop's tile on one side (R196 to R230): the place in the program with the repeats under way, whether it started and
ended this cycle, the accumulators, the data store and the carried words as last committed, the conditions, the outputs
saturated this cycle and the last (sign by word), the entries taken, the previous value of each source, and the words
published this cycle. -/
structure Tile where
  started : Bool
  ended : Bool
  pc : Nat
  rep : List (Nat × Nat × Nat)
  acc : SMap Int
  data : SMap Word
  held : SMap Word
  flags : Nat
  users : Nat
  satOut : Bool
  sat : SMap Int
  satHeld : SMap Int
  firstTs : Option Stamp
  taken : SMap Stamp
  newest : Option Stamp
  newestHeld : Option Stamp
  lastIn : SMap (List Word)
  stampNow : Nat
  stampPrev : Nat
  late : Bool
  preset : Nat
  pubs : SMap Word
  waits : Bool
  deriving DecidableEq, Repr

/-- A tile that has not run since the structure was loaded. -/
def Tile.reset : Tile where
  started := false
  ended := false
  pc := 0
  rep := []
  acc := []
  data := []
  held := []
  flags := 0
  users := 0
  satOut := false
  sat := []
  satHeld := []
  firstTs := none
  taken := []
  newest := none
  newestHeld := none
  lastIn := []
  stampNow := 0
  stampPrev := 0
  late := false
  preset := 0
  pubs := []
  waits := false

/-- The loop array (R196 to R235): the tiles by side and loop, the two buffers of the exchange words, the chain queues, the
published slots, when they were published and by which loop under which epoch of its mapping, what the slots that the scheduler reads carried
then, the presets requested, the recent samples of each fast sense channel, and the timestamp at which the base
cycle began. -/
structure LoopPart where
  tiles : SMap Tile
  xRead : SMap Word
  xWrite : SMap Word
  chains : SMap Word
  published : SMap Word
  pubAt : SMap Count
  pubBy : SMap (Nat × Nat)
  pubVals : SMap (List Rat)
  presets : SMap Nat
  samples : SMap (List Int)
  cycleTs : Count
  deriving DecidableEq, Repr

/-- The loop array with no structure loaded. -/
def LoopPart.reset : LoopPart := ⟨[], [], [], [], [], [], [], [], [], [], 0⟩

/-- A PWM pair's carrier on one side (R237 to R278), times in edge units of the monotonic count: whether it runs, the
start of the period under way and of the next, the PERIOD and PHASE in force, the new ones that wait, newest first, each with its flip
(R243), the word in force, the reference edges computed and not yet placed (time, rising), the reference's level after them and the
time of the last, the first edge of the period to come where it has moved already (R258), the update points served, the misses on each
edge, and whether the pair is at its trip pattern and has met an update point since the clear (R278); the pad edges of the period under
way (time, PWMB, on), the outputs' levels before them, when each output last turned off, whether the pair still waits for its first post
(0), enters at the next period start (1), or switches (2), and the timestamps of the pad edges of the last two measurements, falling and
rising (R250). -/
structure Pair where
  run : Bool
  start : Nat
  next : Nat
  per : Nat
  ph : Nat
  pend : List (Nat × Nat × Nat)
  word : Word
  refs : List (Nat × Bool)
  high : Bool
  last : Nat
  fix : Option Nat
  zeroDone : Bool
  halfDone : Bool
  riseMiss : Nat
  fallMiss : Nat
  held : Bool
  sawUpdate : Bool
  out : List (Nat × Bool × Bool)
  levelA : Bool
  levelB : Bool
  offA : Nat
  offB : Nat
  enter : Nat
  fallTs : Count
  riseTs : Count
  deriving DecidableEq, Repr

/-- A pair whose carrier has not started. -/
def Pair.reset : Pair where
  run := false
  start := 0
  next := 0
  per := 0
  ph := 0
  pend := []
  word := 0
  refs := []
  high := false
  last := 0
  fix := none
  zeroDone := false
  halfDone := false
  riseMiss := 0
  fallMiss := 0
  held := false
  sawUpdate := false
  out := []
  levelA := false
  levelB := false
  offA := 0
  offB := 0
  enter := 0
  fallTs := 0
  riseTs := 0

/-- A pad's two delay lines (R262 to R264): the one in use, the taps and calibration instants of both, the consecutive
failures of the line that would take over, whether it is fresh, whether the pad is in fallback and is shorted. -/
structure Pad where
  line : Nat
  taps : SMap Nat
  calAt : SMap Count
  fails : Nat
  fresh : Bool
  fallback : Bool
  shorted : Bool
  deriving DecidableEq, Repr

/-- A pad that no calibration has reached. -/
def Pad.reset : Pad := ⟨0, [], [], 0, false, false, false⟩

/-- The hold gap of the merge (R180): the edge unit at which it ends, and the levels of each pair's outputs as they stood. -/
structure HoldGap where
  till : Nat
  levels : SMap (Bool × Bool)
  deriving DecidableEq, Repr

/-- The edge engine: pairs by side and number, pads by pair and output, the PHASE of a channel where a carrier plan has set it
(R338, R344, R391), the local pairs whose phase takes EN = 0, and the hold gap of the last change of the merge. -/
structure EdgePart where
  pairs : SMap Pair
  pads : SMap Pad
  legPhase : SMap Nat
  pairOff : List Nat
  legPeriod : SMap Nat
  gap : HoldGap
  deriving DecidableEq, Repr

/-- A TRIP block the Guard die sent on the used ring ports (R304): SET or CLEAR, and its groups. -/
structure TripSent where
  isSet : Bool
  groups : Nat
  deriving DecidableEq, Repr

/-- Quickset on the Guard die (R268 to R279): since when each inactive source is inactive, the FCLK period of the first
latch, the last SET, the CLEARs still to repeat (groups, times left, last sent), the last TRIP block, when each source's latch
last set (monotonic count and timestamp), and the sources whose clear was accepted in an FCLK period (R277). -/
structure QsetPart where
  idleAt : SMap Count
  firstPeriod : Nat
  setAt : Count
  clears : List (Nat × Nat × Count)
  sent : Option TripSent
  latchAt : SMap (Count × Count)
  cleared : List (Nat × Nat)
  deriving DecidableEq, Repr

/-- No carrier started. -/
def EdgePart.reset : EdgePart where
  pairs := []
  pads := []
  legPhase := []
  pairOff := []
  legPeriod := []
  gap := ⟨0, []⟩

/-- No source latched. -/
def QsetPart.reset : QsetPart := ⟨[], 0, 0, [], none, [], []⟩

/-- A schedule entry an endpoint holds for a leg (R289): flags, compares, T_APPLY, delays, the cycle and epoch of its frame
and the ring time at which it arrived. -/
structure RingEntry where
  flags : Nat
  minpw : Nat
  per : Nat
  on : Nat
  off : Nat
  tApply : Nat
  rise : Nat
  fall : Nat
  cycle : Nat
  epoch : Nat
  arrived : Nat
  deriving DecidableEq, Repr

/-- A leg of an endpoint: the entry in force, the entries that wait, those of the last three cycles, whether it is at its
trip pattern and since which ring time its last group is clear, and from when the entry in force governs; as offsets from then: the
reference's level at that instant, its last edge before, from when that level's output is on, and the reference edges of the first period
under R261; whether the leg stands still, the outputs' levels when it stopped and when each last turned off. -/
structure Leg where
  force : Option RingEntry
  pend : List RingEntry
  hist : List RingEntry
  held : Bool
  clearAt : Option Nat
  since : Nat
  high : Bool
  edgeAt : Int
  onAt : Option Int
  first : List (Nat × Bool)
  still : Bool
  levelA : Bool
  levelB : Bool
  offA : Nat
  offB : Nat
  deriving DecidableEq, Repr

/-- A leg that no entry governs. -/
def Leg.reset : Leg := ⟨none, [], [], false, none, 0, false, 0, none, [], true, false, false, 0, 0⟩

/-- A ring endpoint (R281 to R319): its state and address, locks and since when, forwarding mode, settings, the delays of
both streams, its ring time as an offset to the module's (R296), a correction being slewed, epoch and RESUME, the last valid
SCHED, legs, latched groups, faults and counts, the DELAY instants, the last TAKEOVER, the frames seen of the last cycle,
the cycle in which it became TIMED, RT_BOUND and CYCLE of the SYNC last taken and whether it came from the upper port, the cycle of the last SYNC of the lower port's stream, its SEQ by type, its last
repeated SET, and the frames and blocks that went out of U and of D since the boundary. -/
structure Endpoint where
  state : Nat
  addr : Option Nat
  lockU : Bool
  lockD : Bool
  upAt : Count
  downAt : Count
  noLockAt : Option Count
  mode : Nat
  cfg : List Byte
  dlyLo : Option Nat
  dlyHi : Option Nat
  rtOfs : Nat
  rtSet : Bool
  rtSlew : Int
  epoch : Nat
  resumed : Bool
  lastSched : Count
  legs : SMap Leg
  latched : Nat
  safeTmo : Bool
  crcErr : Bool
  late : Bool
  localTrip : Bool
  dropped : Nat
  stretched : Nat
  stale : Nat
  outAt : SMap Nat
  takeover : Option Nat
  seen : List Nat
  timedAt : Nat
  rtBound : Nat
  cycleNo : Nat
  timeHi : Bool
  syncLo : Option Nat
  seqs : SMap Nat
  setAt : Count
  outU : List (List Byte)
  outD : List (List Byte)
  deriving DecidableEq, Repr

/-- An endpoint that has not seen a link. -/
def Endpoint.reset : Endpoint where
  state := 0
  addr := none
  lockU := false
  lockD := false
  upAt := 0
  downAt := 0
  noLockAt := none
  mode := 0
  cfg := []
  dlyLo := none
  dlyHi := none
  rtOfs := 0
  rtSet := false
  rtSlew := 0
  epoch := 0
  resumed := false
  lastSched := 0
  legs := []
  latched := 0
  safeTmo := false
  crcErr := false
  late := false
  localTrip := false
  dropped := 0
  stretched := 0
  stale := 0
  outAt := []
  takeover := none
  seen := []
  timedAt := 0
  rtBound := 0
  cycleNo := 0
  timeHi := false
  syncLo := none
  seqs := []
  setAt := 0
  outU := []
  outD := []

/-- A block of a lane (R284): a control or a data block, and its eight bytes, byte 0 lowest. -/
structure Block where
  ctrl : Bool
  word : BitVec 64
  deriving DecidableEq, Repr

/-- A downstream frame that waits at a ring port: its header's fields and payload; for a SCHED the update point that orders it (R300);
when it came, in twentieths of a nanosecond; and the whole frame where one goes back as it came (R295). -/
structure TxFrame where
  ty : Nat
  addr : Nat
  epoch : Nat
  flags : Nat
  cycle : Nat
  pay : List Byte
  due : Nat
  at' : Nat
  raw : List Byte
  deriving DecidableEq, Repr

/-- A ring port's transmitter: the frames that wait, those begun in the running base cycle, the blocks of the lane since then with the
instant at which each begins, the TRIP blocks that have come and are not placed yet, when the lane is free, the rotating pointer over the
endpoints (R42), and the frame counts by type (R287). -/
structure PortTx where
  queue : List TxFrame
  sent : List (List Byte)
  line : List (Nat × Block)
  trips : List (Nat × Block)
  freeAt : Nat
  ptr : Nat
  seqs : SMap Nat
  deriving DecidableEq, Repr

/-- A port that has sent nothing. -/
def PortTx.reset : PortTx where
  queue := []
  sent := []
  line := []
  trips := []
  freeAt := 0
  ptr := 0
  seqs := []

/-- The rings on the Guard die: the endpoints, the L_G of the last runs by port, the delays computed by endpoint and stream,
each endpoint's residence, its last MEAS frames (cycle and SEQ), the last delay report of each endpoint and stream, the ports' transmitters, the last periodic ENUM and delay run, the ports with a
run due, the last endpoint-origin SET, the words of each endpoint's last MEAS, the endpoints whose MEAS or SET came since the boundary, the
legs of an endpoint that go out with EN = 0, the endpoints in the zero state (R368), the ON, OFF and T_APPLY of each leg's last entry, the
epoch of each endpoint's last SCHED (R290), the endpoints that have had a SCHED in the running cycle (R288), and since when each port has had lock
and been in bring-up. -/
structure RingPart where
  eps : SMap Endpoint
  loops : SMap (List Nat)
  delays : SMap (List Int)
  resid : SMap Nat
  meas : SMap (List Nat)
  rptSeen : SMap Nat
  ports : SMap PortTx
  enumAt : Count
  delayAt : Count
  delayDue : List Nat
  setSeen : SMap Count
  found : SMap (List Nat)
  words : SMap (List Word)
  measNew : List Nat
  setFrom : List Nat
  legsOff : SMap Nat
  zeros : List Nat
  sentEdge : SMap (Nat × Nat × Nat)
  sentEpoch : SMap Nat
  schedSent : List Nat
  lockAt : SMap Count
  bringAt : SMap Count
  deriving DecidableEq, Repr

/-- No ring brought up. -/
def RingPart.reset : RingPart where
  eps := []
  loops := []
  delays := []
  resid := []
  meas := []
  rptSeen := []
  ports := []
  enumAt := 0
  delayAt := 0
  delayDue := []
  setSeen := []
  found := []
  words := []
  measNew := []
  setFrom := []
  legsOff := []
  zeros := []
  sentEdge := []
  sentEpoch := []
  schedSent := []
  lockAt := []
  bringAt := []

end Sys2Proof.Machine
end

