-- ==== Sys2Proof/Syntax.lean ====
section
/-! DEFINITION. The commands the module takes, one constructor for each row of the opcode table. The first operand dt of
each is how many 250 ps counts have passed since the command before it (log entry 1). -/

namespace Sys2Proof

open Sys2Proof.Machine

/-- What a BIQ works on: its operand, and whether the residue check of a product or of the sum fails (R207, R214). -/
structure BiqIn where
  src : Opnd
  bad : Bool
  deriving DecidableEq, Repr

/-- A command: a row of spec/opcode_table.json with its operands. -/
inductive Instr where
  -- register access, base cycle, queues (chapters 1, 2, 22, 23)
  | registerWrite (dt : Nat) (acc : Access) (addr : Nat) (val : Word)
  | tunableWrite (dt : Nat) (acc : Access) (addr : Nat) (val : Word)
  | stagingWrite (dt : Nat) (acc : Access) (addr : Nat) (val : Word)
  | absentAccess (dt : Nat) (acc : Access) (addr : Nat) (wr : Option Word)
  | reservedAccess (dt : Nat) (acc : Access) (addr : Nat) (wr : Option Word)
  | outOfMapAccess (dt : Nat) (acc : Access) (addr : Nat) (wr : Option Word)
  | hostBadAccess (dt : Nat) (addr : Nat) (byteEnables : Nat) (wr : Option Word)
  | baseCycleBoundary (dt : Nat) (inp : BoundaryIn)
  | fastSenseSample (dt : Nat) (ch : Nat) (code : Int)
  | queueStallTimeout (dt : Nat) (side : Side) (queue : Nat)
  | dramTagGrant (dt : Nat) (side : Side) (done : List Nat) (asks : List (Nat × Nat))
  -- the time base (chapter 2)
  | ptpMessage (dt : Nat) (port : Nat) (domain : Nat) (announce : Option (Nat × Nat)) (exchange : Option PtpExchange)
  | ptpAnnounceTimeout (dt : Nat) (port : Nat)
  | ptpTmoExpiry (dt : Nat)
  | ppsInEdge (dt : Nat)
  | ppsInMissing (dt : Nat)
  | ntpResponse (dt : Nat) (offset : Int)
  | timeCorrection (dt : Nat) (delta : Int)
  | timeStepApply (dt : Nat)
  | timeSetHi (dt : Nat) (acc : Access) (val : Word)
  | rtcTrim (dt : Nat)
  | ppsOutPulse (dt : Nat)
  | timeLine (dt : Nat)
  | timeLineTimeout (dt : Nat)
  | timeQueueSel (dt : Nat) (acc : Access) (val : Word)
  | timeQueueClr (dt : Nat) (acc : Access) (val : Word)
  -- structure image and transactions (chapter 3)
  | imgOpen (dt : Nat) (acc : Access)
  | imgClose (dt : Nat) (acc : Access)
  | imgCancel (dt : Nat) (acc : Access)
  | imgDataWrite (dt : Nat) (acc : Access) (addr : Nat) (val : Word)
  | slotPrecheckDone (dt : Nat)
  | imgActivate (dt : Nat) (acc : Access) (val : Word)
  | activationDone (dt : Nat)
  | imgConfirm (dt : Nat) (acc : Access) (val : Word)
  | bootWindowExpiry (dt : Nat)
  | revertStart (dt : Nat)
  | imgRevoke (dt : Nat) (acc : Access) (val : Word)
  | imgMinVerWrite (dt : Nat) (acc : Access) (val : Word)
  | imageLoad (dt : Nat)
  | tuningStoreWrite (dt : Nat)
  | txnBegin (dt : Nat) (acc : Access) (n : Nat)
  | txnCommit (dt : Nat) (acc : Access) (n : Nat)
  | txnCommitTrial (dt : Nat) (acc : Access) (n : Nat)
  | txnAbort (dt : Nat) (acc : Access) (n : Nat)
  | txnConfirm (dt : Nat) (acc : Access) (n : Nat)
  | txnValidationDone (dt : Nat) (n : Nat)
  | txnFlip (dt : Nat)
  | txnConfirmEffect (dt : Nat) (n : Nat)
  | txnIdleTimeout (dt : Nat) (n : Nat)
  | txnTrialTimeout (dt : Nat) (n : Nat)
  | txnRollback (dt : Nat) (n : Nat)
  | imgTxnTrialWrite (dt : Nat) (acc : Access) (n : Nat) (val : Word)
  -- redundancy (chapter 4)
  | beaconDeadline (dt : Nat) (a b : BeaconIn)
  | faultLineAsserted (dt : Nat) (side : Side) (why : FaultWhy)
  | keeperLaneFault (dt : Nat) (back : Bool) (lane : Nat) (errors : Nat)
  | sideBootDone (dt : Nat) (a b : Option BootEnd)
  | bulkConverged (dt : Nat) (side : Side)
  | bulkTimeout (dt : Nat) (side : Side)
  | shadowComplete (dt : Nat) (side : Side)
  | sideReadmit (dt : Nat) (side : Side)
  | sideResetRelease (dt : Nat) (side : Side)
  | keepSwitch (dt : Nat) (acc : Access) (val : Word)
  | switchover (dt : Nat)
  | keepTakeOut (dt : Nat) (acc : Access) (val : Word)
  | keepResyncA (dt : Nat) (acc : Access) (val : Word)
  | keepResyncB (dt : Nat) (acc : Access) (val : Word)
  | keepClr (dt : Nat) (acc : Access) (val : Word)
  -- loop tiles (chapter 5); x is the side and n the loop
  | tileIn (dt : Nat) (x : Side) (n : Nat) (src : TileSrc) (dst : Nat)
  | tileWaitMiss (dt : Nat) (x : Side) (n : Nat) (src : TileSrc) (dst : Nat)
  | tileMac (dt : Nat) (x : Side) (n a k : Nat) (src : Opnd) (bad : Bool)
  | tileMsu (dt : Nat) (x : Side) (n a k : Nat) (src : Opnd) (bad : Bool)
  | tileMacz (dt : Nat) (x : Side) (n a k : Nat) (src : Opnd) (bad : Bool)
  | tileStore (dt : Nat) (x : Side) (n a q dst : Nat) (feeds : Bool)
  | tileAdd (dt : Nat) (x : Side) (n : Nat) (a b : Opnd) (dst : Nat)
  | tileSub (dt : Nat) (x : Side) (n : Nat) (a b : Opnd) (dst : Nat)
  | tileNeg (dt : Nat) (x : Side) (n : Nat) (a : Opnd) (dst : Nat)
  | tileAbs (dt : Nat) (x : Side) (n : Nat) (a : Opnd) (dst : Nat)
  | tileMin (dt : Nat) (x : Side) (n : Nat) (a b : Opnd) (dst : Nat)
  | tileMax (dt : Nat) (x : Side) (n : Nat) (a b : Opnd) (dst : Nat)
  | tileScale (dt : Nat) (x : Side) (n : Nat) (a : Opnd) (sh : Int) (dst : Nat)
  | tileLim (dt : Nat) (x : Side) (n : Nat) (a lo hi : Opnd) (dst : Nat) (feeds : Bool)
  | tileCmp (dt : Nat) (x : Side) (n : Nat) (r : Rel) (a b : Opnd) (c : Nat)
  | tileSel (dt : Nat) (x : Side) (n : Nat) (c : Cond) (a b : Opnd) (dst : Nat)
  | tileInteg (dt : Nat) (x : Side) (n a j q lo hi : Nat) (feeds : Bool)
  | tileBiq (dt : Nat) (x : Side) (n k : Nat) (inp : BiqIn) (d dst : Nat)
  | tileSincos (dt : Nat) (x : Side) (n : Nat) (a : Opnd) (ds dc : Nat)
  | tileLut (dt : Nat) (x : Side) (n table : Nat) (a : Opnd) (dst : Nat)
  | tileDiv (dt : Nat) (x : Side) (n : Nat) (a b : Opnd) (f dst : Nat)
  | tileSqrt (dt : Nat) (x : Side) (n : Nat) (a : Opnd) (dst : Nat)
  | tileStamp (dt : Nat) (x : Side) (n dst : Nat)
  | tileXput (dt : Nat) (x : Side) (n w : Nat) (src : Opnd)
  | tileXget (dt : Nat) (x : Side) (n w dst : Nat)
  | tileChainPut (dt : Nat) (x : Side) (n c : Nat) (src : Opnd)
  | tileChainGet (dt : Nat) (x : Side) (n c dst : Nat)
  | tilePost (dt : Nat) (x : Side) (n ch : Nat) (src : Opnd) (named : Option TileSrc)
  | tilePub (dt : Nat) (x : Side) (n slot : Nat) (src : Opnd)
  | tileRep (dt : Nat) (x : Side) (n len count : Nat)
  | tileBr (dt : Nat) (x : Side) (n : Nat) (c : Cond) (target : Nat)
  | tileEnd (dt : Nat) (x : Side) (n : Nat)
  | loopPreset (dt : Nat) (acc : Access) (n : Nat) (val : Word)
  | loopClr (dt : Nat) (acc : Access) (val : Word)
  -- edge engine and Quickset (chapter 6)
  | carrierPeriodStart (dt : Nat) (x : Side) (n : Nat)
  | edgeUpdatePoint (dt : Nat) (x : Side) (n : Nat) (mid : Bool)
  | swnTransition (dt : Nat) (n : Nat) (fall : Bool) (meas : Nat)
  | swnMiss (dt : Nat) (n : Nat) (fall : Bool)
  | swnFault (dt : Nat) (n : Nat) (opposite : Bool) (onFor : Nat)
  | dlineCalibrationDone (dt : Nat) (n : Nat) (b : Bool) (taps : Nat) (monotonic : Bool)
  | dlineExchange (dt : Nat) (n : Nat) (b : Bool)
  | pwmPadShort (dt : Nat) (n : Nat) (b : Bool) (differs : Nat)
  | edgeClr (dt : Nat) (acc : Access) (val : Word)
  | tripPadActive (dt : Nat) (k : Nat) (level : Bool) (held : Nat)
  | windowComparatorTrip (dt : Nat) (ch : Nat) (code : Int)
  | qsetForce (dt : Nat) (acc : Access) (val : Word)
  | qsetClr (dt : Nat) (acc : Access) (k : Nat) (val : Word)
  | tripSetRepeat (dt : Nat)
  | tripClearRepeat (dt : Nat)
  -- rings and endpoints (chapter 7); f is a frame or block as its bytes, viaD the interface it arrived on
  | ringLockAcquired (dt : Nat) (port : Option Nat) (e : Nat) (d : Bool) (headers : Nat)
  | ringLockLost (dt : Nat) (port : Option Nat) (e : Nat) (d : Bool) (invalid quiet : Nat)
  | epInterfaceDown (dt : Nat) (e : Nat)
  | epThroughRestore (dt : Nat) (e : Nat)
  | ringUpdatePoint (dt : Nat) (x : Side) (ch : Nat)
  | sched (dt : Nat) (e : Nat) (viaD : Bool) (f : List Byte)
  | epApplyEntry (dt : Nat) (e leg : Nat)
  | sync (dt : Nat) (e : Nat) (viaD : Bool) (f : List Byte)
  | delay (dt : Nat) (e : Nat) (viaD : Bool) (f : List Byte) (stamp turned : Nat)
  | delayRun (dt : Nat) (results : List (Nat × Nat))
  | delayRpt (dt : Nat) (port : Nat) (f : List Byte)
  | setdly (dt : Nat) (e : Nat) (viaD : Bool) (f : List Byte)
  | enum (dt : Nat) (e : Nat) (viaD : Bool) (f : List Byte)
  | enumPeriodic (dt : Nat)
  | config (dt : Nat) (e : Nat) (viaD : Bool) (f : List Byte)
  | resume (dt : Nat) (e : Nat) (viaD : Bool) (f : List Byte)
  | identReq (dt : Nat) (e : Nat) (viaD : Bool) (f : List Byte)
  | ident (dt : Nat) (port : Nat) (f : List Byte)
  | takeover (dt : Nat) (e : Nat) (viaD : Bool) (f : List Byte)
  | meas (dt : Nat) (port : Nat) (f : List Byte)
  | tripBlock (dt : Nat) (e : Nat) (b : List Byte)
  | portTripBlockRx (dt : Nat) (port : Nat) (b : List Byte)
  | epLocalFault (dt : Nat) (e : Nat) (active : Bool)
  | epSafeTimeout (dt : Nat) (e : Nat)
  | epNoLinkTimeout (dt : Nat) (e : Nat)
  | ringBringUp (dt : Nat)
  | rescan (dt : Nat) (acc : Access) (val : Word)
  | delayNow (dt : Nat) (acc : Access) (val : Word)
  | ringCmdResumeEp (dt : Nat) (acc : Access) (val : Word)
  | ringCmdResumeAll (dt : Nat) (acc : Access) (val : Word)
  | ringClr (dt : Nat) (acc : Access) (val : Word)
  -- transformer (chapters 8 and 9)
  | rtFTmoExpiry (dt : Nat)
  | pllUnlockOut (dt : Nat)
  | energise (dt : Nat) (acc : Access) (val : Word)
  | deenergise (dt : Nat) (acc : Access) (val : Word)
  | sstAckLockout (dt : Nat) (acc : Access) (val : Word)
  | breakerReport (dt : Nat) (mainClosed preClosed : Bool)
  | sstLadderTimeout (dt : Nat)
  | sstRestartDelay (dt : Nat)
  | bypass (dt : Nat) (acc : Access) (c : Nat) (val : Word)
  | restore (dt : Nat) (acc : Access) (c : Nat) (val : Word)
  | carrierReplan (dt : Nat)
  | bypassTimeout (dt : Nat) (c : Nat)
  | sstClr (dt : Nat) (acc : Access) (val : Word)
  -- output stages (chapter 10)
  | outsStop (dt : Nat) (acc : Access) (n : Nat) (val : Word)
  | outsAckLockout (dt : Nat) (acc : Access) (n : Nat) (val : Word)
  | phaseRestore (dt : Nat) (acc : Access) (m : Nat) (val : Word)
  | trackingFault (dt : Nat) (n : Nat)
  | retryWaitExpiry (dt : Nat) (n : Nat)
  | shedDlyExpiry (dt : Nat) (n : Nat)
  | imbalanceTrip (dt : Nat) (m : Nat)
  | stageStopTimeout (dt : Nat) (n : Nat)
  | outsClr (dt : Nat) (acc : Access) (val : Word)
  -- site power allocation (chapter 11; METROLOGY_RESULT stands with chapter 15)
  | allocationTick (dt : Nat) (dur : Nat)
  | metrologyStale (dt : Nat)
  | alocClr (dt : Nat) (acc : Access) (val : Word)
  -- cooling and thermal inputs (chapter 12)
  | thConversion (dt : Nat) (n : Nat) (milliOhm : Nat)
  | thValidRestore (dt : Nat) (n : Nat)
  | flowUpdate (dt : Nat) (src : Nat) (value : Nat) (good : Bool)
  | coolCableTrip (dt : Nat) (n : Nat)
  | flowLossTimeout (dt : Nat) (n : Nat)
  | leakDetected (dt : Nat) (pad : Nat) (active : Bool) (held : Nat)
  | flowLowTimeout (dt : Nat) (n : Nat)
  | coolRestoreTimer (dt : Nat) (n : Nat)
  | runOnExpiry (dt : Nat) (n : Nat)
  | coolAck (dt : Nat) (acc : Access) (n : Nat) (val : Word)
  | coolClr (dt : Nat) (acc : Access) (val : Word)
  | thermClr (dt : Nat) (acc : Access) (val : Word)
  -- outlets and sessions (chapter 13)
  | sigChange (dt : Nat) (n : Nat) (a b : SigSample)
  | ppChange (dt : Nat) (n : Nat) (pp : Nat)
  | vehicleLinkUp (dt : Nat) (n : Nat) (offered : Nat) (tls : Bool)
  | vehicleMessage (dt : Nat) (n : Nat) (msg : VehMsg)
  | linkTimeout (dt : Nat) (n : Nat)
  | protocolTimeout (dt : Nat) (n : Nat)
  | contactorFeedback (dt : Nat) (pad : Nat) (closed : Bool)
  | contactorTimeout (dt : Nat) (n : Nat)
  | precheckWindow (dt : Nat) (n : Nat)
  | cableCheckSettled (dt : Nat) (n : Nat)
  | cableCheckTimeout (dt : Nat) (n : Nat)
  | isolationLoss (dt : Nat) (n : Nat)
  | imdWarnActive (dt : Nat) (pad : Nat)
  | weldCheckTimeout (dt : Nat) (n : Nat)
  | emergencyOpenTimeout (dt : Nat) (n : Nat)
  | outlStop (dt : Nat) (acc : Access) (n : Nat) (val : Word)
  | outlDisable (dt : Nat) (acc : Access) (n : Nat) (val : Word)
  | outlEnable (dt : Nat) (acc : Access) (n : Nat) (val : Word)
  | outlAckFault (dt : Nat) (acc : Access) (n : Nat) (val : Word)
  | outlClr (dt : Nat) (acc : Access) (val : Word)
  -- Hedgerow (chapter 14)
  | safetyCycle (dt : Nat) (a b : ChanIn)
  | estopInput (dt : Nat) (input : Nat) (level : Bool)
  | estopDiscTimeout (dt : Nat)
  | resetPadPulse (dt : Nat) (pad width : Nat)
  | axisReset (dt : Nat) (acc : Access) (a : Nat) (val : Word)
  | resetFault (dt : Nat) (acc : Access) (val : Word)
  | reopen (dt : Nat) (acc : Access) (val : Word)
  | safeConfirm (dt : Nat) (acc : Access) (val : Word)
  | safeFbAck (dt : Nat) (acc : Access) (val : Word)
  | fbDiscrepancy (dt : Nat) (pole : Nat)
  | outputReadbackFault (dt : Nat) (pad held : Nat)
  | stoHoldExpiry (dt : Nat) (side : Side) (a : Nat)
  | ss1Timeout (dt : Nat) (a : Nat)
  | safetyFrameRx (dt : Nat) (k : Nat) (bytes : List Byte)
  | safetyFrameTx (dt : Nat) (k : Nat)
  | connWatchdog (dt : Nat) (k : Nat)
  | safeClr (dt : Nat) (acc : Access) (val : Word)
  -- metrology (chapters 11, 15)
  | metrologyResult (dt : Nat)
  | sampleInstant (dt : Nat) (codes : List Int)
  | biasTest (dt : Nat) (moved : List Nat)
  | remoteChannelOpen (dt : Nat) (n : Nat) (moving : Bool) (held : Nat)
  | gridCycle (dt : Nat) (freq : Nat)
  | channelStats (dt : Nat)
  | harmonicWindow (dt : Nat) (res : List (Nat × Nat × List Word))
  | tempTableUpdate (dt : Nat) (src : Nat) (temp : Int)
  | polarityDetect (dt : Nat) (c : Nat)
  | sealWord (dt : Nat) (back : BitVec 16)
  | workingMapReceived (dt : Nat)
  | rwsApply (dt : Nat)
  | resultRecord (dt : Nat)
  | metrClr (dt : Nat) (acc : Access) (val : Word)
  -- billing (chapter 16)
  | demandIntervalEnd (dt : Nat)
  | tariffSwitch (dt : Nat)
  | billingPeriodClose (dt : Nat)
  | sessionAccumOpen (dt : Nat)
  | sessionAccumClose (dt : Nat)
  | sessionSigned (dt : Nat)
  | registerSave (dt : Nat)
  | dieTimeStep (dt : Nat)
  | metrPowerFail (dt : Nat) (flushed : Bool)
  | metrDieStart (dt : Nat) (holdupOk : Bool)
  | dieWatchdogReset (dt : Nat)
  | tampChange (dt : Nat) (k : Nat) (active : Bool)
  | billReset (dt : Nat) (acc : Access) (val : Word)
  | billSettingsApply (dt : Nat)
  | displayFrame (dt : Nat) (n : Nat)
  | displayButton (dt : Nat) (n held : Nat)
  | displayTimeout (dt : Nat) (n : Nat)
  | billRecRequest (dt : Nat) (acc : Access) (val : Word)
  | billRecReady (dt : Nat) (p : Path)
  -- acquisition (chapter 17); n is the engine
  | acqArm (dt : Nat) (acc : Access) (addr : Nat) (val : Word)
  | acqStop (dt : Nat) (acc : Access) (n : Nat) (val : Word)
  | acqTrig (dt : Nat) (acc : Access) (addr : Nat) (val : Word)
  | clearStore (dt : Nat) (acc : Access) (n : Nat) (val : Word)
  | acqSample (dt : Nat) (n : Nat) (digital : List Nat) (edges : List (Nat × Bool × Count)) (takenA takenB : Nat)
  | acqTimeTrigger (dt : Nat) (n : Nat)
  | acqSeqTimeout (dt : Nat) (n : Nat)
  | acqHoldoffExpiry (dt : Nat) (n : Nat)
  | acqRecordRequest (dt : Nat) (acc : Access) (val : Word)
  | acqRecordReady (dt : Nat) (p : Path)
  | acqClr (dt : Nat) (acc : Access) (val : Word)
  -- site bus (chapter 18); k is the controller
  | canPortSend (dt : Nat) (acc : Access) (k p : Nat) (val : Word)
  | canPeriodicTick (dt : Nat) (k p : Nat)
  | canFrameSent (dt : Nat) (k : Nat) (msg : CanMsg) (sof : Count)
  | canFrameReceived (dt : Nat) (k : Nat) (msg : CanMsg) (remote : Bool) (sof : Count)
  | canBusError (dt : Nat) (k err tecUp recUp : Nat) (sending : Bool)
  | canRecoveryDone (dt : Nat) (k : Nat)
  | canRxSel (dt : Nat) (acc : Access) (k : Nat) (val : Word)
  | canSleep (dt : Nat) (acc : Access) (k : Nat) (val : Word) (wire : Bool)
  | canSleepEnter (dt : Nat) (k : Nat)
  | canSleepTimeout (dt : Nat) (k : Nat)
  | canCtrlWake (dt : Nat) (acc : Access) (k : Nat) (val : Word) (wire : Bool)
  | canWake (dt : Nat) (k src : Nat) (msg : CanMsg)
  | canPurgeCmd (dt : Nat) (acc : Access) (k : Nat) (val : Word) (wire : Bool)
  | canResume (dt : Nat) (acc : Access) (k : Nat) (val : Word) (wire : Bool)
  | canWireFault (dt : Nat) (k present : Nat)
  | canWireClear (dt : Nat) (k flag : Nat)
  | canClr (dt : Nat) (acc : Access) (k : Nat) (val : Word)
  -- load switches (chapter 19); n is the channel, e a turn-off's clamp energy in mJ
  | lswOn (dt : Nat) (acc : Access) (n : Nat) (val : Word)
  | lswOff (dt : Nat) (acc : Access) (n : Nat) (val : Word)
  | lswClear (dt : Nat) (acc : Access) (n : Nat) (val : Word)
  | inrushEnd (dt : Nat) (n : Nat)
  | thermalRegulation (dt : Nat) (n : Nat)
  | thermalShutdown (dt : Nat) (n e : Nat)
  | shortDetected (dt : Nat) (n e : Nat)
  | overloadTimeout (dt : Nat) (n e : Nat)
  | retryDelayExpiry (dt : Nat) (n : Nat) (cool : Bool)
  | retryCountReset (dt : Nat) (n : Nat)
  | railUndervoltage (dt : Nat) (rail : Nat) (energy : SMap Nat)
  | railRestored (dt : Nat) (rail : Nat)
  | railReversed (dt : Nat) (rail : Nat) (now : Bool) (energy : SMap Nat)
  | clampBucketRefilled (dt : Nat) (n : Nat)
  | packageShed (dt : Nat) (iSum pSw e : Nat)
  | offStateTest (dt : Nat) (n : Nat) (bare sourced : Bool)
  | openOnDetect (dt : Nat) (n : Nat) (below : Bool)
  | lswSnsSel (dt : Nat) (acc : Access) (val : Word)
  | fogEnChange (dt : Nat) (active : Bool) (energy : SMap Nat)
  | foginChange (dt : Nat) (k : Nat) (active : Bool) (energy : SMap Nat)
  | lswClr (dt : Nat) (acc : Access) (val : Word)
  | thermalRegulationEnd (dt : Nat) (n : Nat)
  -- the memories (chapter 20)
  | patrolScrub (dt : Nat) (side : Side) (corrected : Nat)
  | memEccError (dt : Nat) (place : MemPlace) (corrected : Bool)
  | memWipeCmd (dt : Nat) (acc : Access) (val : Word)
  | wipeCfgWrite (dt : Nat) (acc : Access) (val : Word)
  | lcArm (dt : Nat) (acc : Access) (val : Word)
  | lcCommit (dt : Nat) (acc : Access) (val : Word)
  | lcTransitionDone (dt : Nat)
  | provisioning (dt : Nat) (acc : Access)
  | memClr (dt : Nat) (acc : Access) (val : Word)
  -- supply, start, resets, power states (chapter 21)
  | inputLoss (dt : Nat)
  | inputReturn (dt : Nat)
  | holdupPowerFail (dt : Nat)
  | powerStart (dt : Nat)
  | holdupChargeCheck (dt : Nat) (tch : Nat)
  | guardStep (dt : Nat) (hmode : Nat)
  | startLate (dt : Nat)
  | mrstAssert (dt : Nat) (held : Nat)
  | mrstRelease (dt : Nat)
  | pwrReset (dt : Nat) (acc : Access) (val : Word)
  | guardFault (dt : Nat)
  | guardAutoReset (dt : Nat)
  | powerStateAscent (dt : Nat)
  | powerStateDescent (dt : Nat)
  | ltrExpiry (dt : Nat) (k : Nat)
  | wakeThresholdCrossing (dt : Nat) (k : Nat) (rising : Bool) (held : Nat)
  | pwrAlarmReached (dt : Nat)
  | metrSleepExit (dt : Nat) (codes : List Int)
  | deferStart (dt : Nat) (die : Nat) (t : Int)
  | deferEnd (dt : Nat) (side : Side)
  | pwrClr (dt : Nat) (acc : Access) (val : Word)
  | auxInputApplied (dt : Nat) (dc : Bool)
  | alwaysOnPowerUp (dt : Nat)
  | alwaysOnPowerLoss (dt : Nat)
  -- the host link and the services (chapter 22)
  | qspiRead (dt : Nat) (addr count : Nat)
  | qspiQuadRead (dt : Nat) (addr count : Nat)
  | qspiWrite (dt : Nat) (addr : Nat) (words : List Word) (crc : Nat)
  | qspiQuadWrite (dt : Nat) (addr : Nat) (words : List Word) (crc : Nat)
  | qspiStatus (dt : Nat)
  | pcieLinkUp (dt : Nat) (vectors : Nat)
  | pcieLinkDown (dt : Nat)
  | pcieFundamentalReset (dt : Nat)
  | spiSessionTimeout (dt : Nat)
  | irqHoldoffExpiry (dt : Nat)
  | mgmtHandshake (dt : Nat) (conn port : Nat) (ip : Word) (cert : ClientCert)
  | mgmtBlockExpiry (dt : Nat) (ip : Word)
  | mgmtIdleTimeout (dt : Nat) (conn : Nat)
  | mgmtRead (dt : Nat) (conn tag addr count : Nat)
  | mgmtWrite (dt : Nat) (conn tag addr : Nat) (words : List Word)
  | objGet (dt : Nat) (conn : Option Nat) (tag oid ofs maxLen : Nat)
  | objSet (dt : Nat) (conn : Option Nat) (tag oid ofs : Nat) (last : Bool) (data : List Byte)
  | subscribe (dt : Nat) (conn tag mask : Nat)
  | ping (dt : Nat) (conn tag : Nat)
  | eventDelivery (dt : Nat) (conn : Nat)
  | csmsMessage (dt : Nat) (msg : CsmsMsg)
  | csmsConnectFail (dt : Nat)
  | fwOpen (dt : Nat) (acc : Access)
  | fwDataWrite (dt : Nat) (acc : Access) (addr : Nat) (val : Word)
  | fwClose (dt : Nat) (acc : Access)
  | fwCancel (dt : Nat) (acc : Access)
  | fwActivate (dt : Nat) (acc : Access)
  | fwConfirm (dt : Nat) (acc : Access)
  | fwWindowExpiry (dt : Nat)
  | fwRevert (dt : Nat)
  | mgmtConnectionClose (dt : Nat) (conn : Nat)
  | mgmtFormatFrame (dt : Nat) (conn op tag : Nat)
  | csmsConnected (dt : Nat)
  -- SYS, FAST and shadow rows (chapters 2, 23)
  | evqSnapshot (dt : Nat) (acc : Access)
  | evqPop (dt : Nat) (acc : Access) (val : Word)
  | fastClr (dt : Nat) (acc : Access) (val : Word)
  | lowWordRead (dt : Nat) (acc : Access) (addr : Nat)
  deriving DecidableEq, Repr

end Sys2Proof
end

