-- ==== Sys2Proof/Machine/EventCodes.lean ====
section
/-! DEFINITION. The event codes of R750 and R760: CODE = (block index << 11) | number, events numbered from 1 in the order
the block lists them. -/

namespace Sys2Proof.Machine

namespace Ev

def ABSENT : Nat := 0x0001
def DENIED : Nat := 0x0002
def PARAM_REJECT : Nat := 0x0003
def IMG_REJECT : Nat := 0x0801
def IMG_FALLBACK : Nat := 0x0802
def IMG_ACT_REFUSED : Nat := 0x0803
def IMG_REVERT_DUE : Nat := 0x0804
def TXN_REQUIRED : Nat := 0x0805
def TXN_BUSY : Nat := 0x0806
def TXN_CONFLICT : Nat := 0x0807
def TXN_FULL : Nat := 0x0808
def TXN_REFUSED : Nat := 0x0809
def TXN_COMMITTED : Nat := 0x080A
def TXN_ROLLED_BACK : Nat := 0x080B
def TUNE_LOST : Nat := 0x080C
def IMG_XFER_LOST : Nat := 0x080D
def TIME_STEP : Nat := 0x1001
def TIME_SET : Nat := 0x1002
def QUEUE_LOSS : Nat := 0x1003
def QUEUE_STALL : Nat := 0x1004
def SIDE_FAILED : Nat := 0x1801
def RESYNC_FAIL : Nat := 0x1802
def RESYNC_DONE : Nat := 0x1803
def FAILOVER : Nat := 0x1804
def SWITCHOVER : Nat := 0x1805
def STANDBY_LOST : Nat := 0x1806
def TAKEN_OUT : Nat := 0x1807
def KEEP_LANE : Nat := 0x1808
def ORPHAN_ENTRY : Nat := 0x1809
def DIGEST_MISMATCH : Nat := 0x180A
def REDUNDANCY_SUSPECT : Nat := 0x180B
def FENCE_DISCARD : Nat := 0x180C
def SWITCH_REFUSED : Nat := 0x180D
def TILE_WAIT_MISS : Nat := 0x2001
def TILE_LATE : Nat := 0x2002
def TILE_OVERRUN : Nat := 0x2003
def EDGE_SHORT_PULSE : Nat := 0x2801
def DLINE_FAIL : Nat := 0x2802
def PWM_PAD_SHORT : Nat := 0x2803
def RING_EP_MISMATCH : Nat := 0x3001
def RING_BREAK : Nat := 0x3002
def RING_RESTORED : Nat := 0x3003
def EP_MEAS_MISSING : Nat := 0x3004
def RING_CMD_REFUSED : Nat := 0x3005
def SST_PHASE_JUMP : Nat := 0x3801
def SST_OVERMOD : Nat := 0x3802
def RT_SAG : Nat := 0x3803
def RT_SWELL : Nat := 0x3804
def RT_OUT : Nat := 0x3805
def SST_TEMP_WARN : Nat := 0x3806
def SST_OV_WARN : Nat := 0x3807
def SST_CELL_FAILED : Nat := 0x3808
def SST_CELL_BYPASSED : Nat := 0x3809
def SST_BYP_FAIL : Nat := 0x380A
def SST_RESTORE_FAIL : Nat := 0x380B
def SST_CMD_REFUSED : Nat := 0x380C
def SST_NO_SPARE : Nat := 0x380D
def SST_BREAKER_FAIL : Nat := 0x380E
def SST_START_DONE : Nat := 0x380F
def SST_STOPPED : Nat := 0x3810
def SST_START_REFUSED : Nat := 0x3811
def SST_RESTART : Nat := 0x3812
def OUTS_PH_IMBALANCE : Nat := 0x4001
def OUTS_START_REFUSED : Nat := 0x4002
def OUTS_LOCKOUT : Nat := 0x4003
def OUTS_STOPPED : Nat := 0x4004
def OUTS_TRIP_END : Nat := 0x4005
def OUTS_SS_ABORT : Nat := 0x4006
def OUTS_CMD_REFUSED : Nat := 0x4007
def ALOC_METR_STALE : Nat := 0x4801
def ALOC_MIN_UNMET : Nat := 0x4802
def ALOC_PUB_STALE : Nat := 0x4803
def COOL_CONN_DERATE : Nat := 0x5001
def COOL_CONN_TRIP : Nat := 0x5002
def COOL_CABLE_TRIP : Nat := 0x5003
def COOL_LOSS : Nat := 0x5004
def COOL_LEAK : Nat := 0x5005
def COOL_RESTORED : Nat := 0x5006
def COOL_FLOW_LOW : Nat := 0x5007
def COOL_SENSOR_FAIL : Nat := 0x5008
def COOL_CMD_REFUSED : Nat := 0x5009
def OUTL_SESSION_START : Nat := 0x5801
def OUTL_SESSION_END : Nat := 0x5802
def OUTL_ISO_WARN : Nat := 0x5803
def OUTL_ISO_FAULT : Nat := 0x5804
def OUTL_PRECHECK_FAIL : Nat := 0x5805
def OUTL_WELD : Nat := 0x5806
def OUTL_UNPLUG_LOAD : Nat := 0x5807
def OUTL_CMD_REFUSED : Nat := 0x5808
def SAFE_REACTION : Nat := 0x6001
def SAFE_CROSS : Nat := 0x6002
def SAFE_PARTNER_LOST : Nat := 0x6003
def SAFE_PARTNER_BACK : Nat := 0x6004
def SAFE_OUT_FAULT : Nat := 0x6005
def SAFE_RESET_REFUSED : Nat := 0x6006
def SAFE_ESTOP_DISC : Nat := 0x6007
def SAFE_FB_FAULT : Nat := 0x6008
def SAFE_CONN_LOST : Nat := 0x6009
def SAFE_CONFIRMED : Nat := 0x600A
def SAFE_CONFIRM_REFUSED : Nat := 0x600B
def SAFE_CMD_REFUSED : Nat := 0x600C
def METR_OPEN : Nat := 0x6801
def METR_OVERLOAD : Nat := 0x6802
def METR_POLARITY : Nat := 0x6803
def METR_TEMP_SRC : Nat := 0x6804
def METR_SEAL_OPEN : Nat := 0x6805
def METR_SEALED : Nat := 0x6806
def BILL_TAMPER : Nat := 0x7001
def BILL_TIME_STEP : Nat := 0x7002
def BILL_INCOMPLETE : Nat := 0x7003
def BILL_CMD_REFUSED : Nat := 0x7004
def ACQ_RECORD : Nat := 0x7801
def ACQ_FULL : Nat := 0x7802
def ACQ_CMD_REFUSED : Nat := 0x7803
def CAN_CONF : Nat := 0x8001
def CAN_BUS_OFF : Nat := 0x8002
def CAN_RECOVERED : Nat := 0x8003
def CAN_HALTED : Nat := 0x8004
def CAN_TX_REFUSED : Nat := 0x8005
def CAN_RX_LOST : Nat := 0x8006
def CAN_SHADOW_MISMATCH : Nat := 0x8007
def CAN_WIRE_DOM : Nat := 0x8008
def CAN_WIRE_H : Nat := 0x8009
def CAN_WIRE_L : Nat := 0x800A
def CAN_NO_ACK : Nat := 0x800B
def CAN_PURGE : Nat := 0x800C
def CAN_WAKE : Nat := 0x800D
def LSW_SHORT : Nat := 0x8801
def LSW_OVERLOAD : Nat := 0x8802
def LSW_THERMAL : Nat := 0x8803
def LSW_PKG_SHED : Nat := 0x8804
def LSW_CLAMP_LOCK : Nat := 0x8805
def LSW_UV : Nat := 0x8806
def LSW_VAUX_REV : Nat := 0x8807
def LSW_SHORT_VAUX : Nat := 0x8808
def LSW_OPEN_OFF : Nat := 0x8809
def LSW_OPEN_ON : Nat := 0x880A
def LSW_FOG_ENTRY : Nat := 0x880B
def LSW_FOG_EXIT : Nat := 0x880C
def LSW_CMD_REFUSED : Nat := 0x880D
def MEM_GUARD_REPAIR : Nat := 0x9001
def MEM_GUARD_LOST : Nat := 0x9002
def MEM_WIPE : Nat := 0x9003
def MEM_LC_CHANGE : Nat := 0x9004
def MEM_LC_REFUSED : Nat := 0x9005
def PWR_IN_LOSS : Nat := 0x9801
def PWR_IN_BACK : Nat := 0x9802
def PWR_DOWN : Nat := 0x9803
def PWR_STATE : Nat := 0x9804
def PWR_WAKE : Nat := 0x9805
def PWR_DEFER : Nat := 0x9806
def PWR_START_LATE : Nat := 0x9807
def PWR_RUN_READY : Nat := 0x9808
def PWR_CMD_REFUSED : Nat := 0x9809
def HOST_BAD_ACCESS : Nat := 0xA001
def MGMT_AUTH_FAIL : Nat := 0xA002
def MGMT_TIME_UNCHECKED : Nat := 0xA003
def FW_XFER_LOST : Nat := 0xA004
def FW_ACT_REFUSED : Nat := 0xA005
def QSET_TRIP : Nat := 0xA801
def QSET_CLR_REFUSED : Nat := 0xA802
def QSET_CLEARED : Nat := 0xA803
def FAST_CLIP : Nat := 0xB001
def TH_OPEN : Nat := 0xB801
def TH_SHORT : Nat := 0xB802
def TH_RANGE : Nat := 0xB803

end Ev

end Sys2Proof.Machine
end

