-- ==== Sys2Proof/Machine/RegMap.lean ====
section
/-! DEFINITION. The register map: one row for each register of the chapters' register tables, with its offset, its
instances, its reset value, and each field's place and access code (R749 to R754). A register whose reset the spec gives
as "image DEFAULT", "from image", "from die", "from MRAM" or "fuses" holds the compiler default where the tables state
one, else 0, until a load or the die gives it its value (log entry 3). -/

namespace Sys2Proof.Machine

/-- Block SYS, part 0: the registers of its chapter, field by field. -/
def regsSYS0 : List RegSpec := [
  ⟨"SYS_CAP_0", 0x8, [], 0x1B0EC8C0,
    [⟨28, 4, .ro, .all⟩, ⟨20, 8, .ro, .all⟩, ⟨19, 1, .ro, .all⟩, ⟨18, 1, .ro, .all⟩, ⟨16, 2, .ro, .all⟩, ⟨12, 4, .ro, .all⟩, ⟨8, 4, .ro, .all⟩, ⟨0, 8, .ro, .all⟩], []⟩,
  ⟨"SYS_CAP_1", 0xC, [], 0x8304084,
    [⟨24, 4, .ro, .all⟩, ⟨16, 8, .ro, .all⟩, ⟨8, 8, .ro, .all⟩, ⟨3, 5, .ro, .all⟩, ⟨0, 3, .ro, .all⟩], []⟩,
  ⟨"SYS_ID", 0x0, [], 0x96484C4E,
    [⟨16, 16, .ro, .all⟩, ⟨0, 16, .ro, .all⟩], []⟩,
  ⟨"SYS_MAP", 0x4, [], 0x10018,
    [⟨16, 16, .ro, .all⟩, ⟨0, 16, .ro, .all⟩], []⟩,
  ⟨"SYS_SERIAL_LO", 0x10, [], 0x0,
    [⟨0, 32, .ro, .all⟩], []⟩,
  ⟨"SYS_SERIAL_HI", 0x14, [], 0x0,
    [⟨0, 32, .ro, .all⟩], []⟩,
  ⟨"SYS_RESET", 0x18, [], 0x0,
    [⟨28, 4, .ro, .all⟩, ⟨24, 4, .ro, .all⟩, ⟨0, 16, .ro, .all⟩], []⟩,
  ⟨"SYS_ERR", 0x1C, [], 0x0,
    [⟨5, 1, .w1c, .op⟩, ⟨4, 1, .w1c, .op⟩, ⟨3, 1, .w1c, .op⟩, ⟨2, 1, .w1c, .op⟩, ⟨1, 1, .w1c, .op⟩, ⟨0, 1, .w1c, .op⟩], []⟩,
  ⟨"SYS_ERR_ADDR", 0x20, [], 0x0,
    [⟨0, 32, .ro, .all⟩], []⟩,
  ⟨"SYS_EVQ_STAT", 0x24, [], 0x0,
    [⟨31, 1, .ro, .all⟩, ⟨16, 13, .ro, .all⟩, ⟨0, 13, .ro, .all⟩], []⟩,
  ⟨"SYS_EVQ_POP", 0x28, [], 0x0,
    [⟨0, 1, .w1s, .all⟩], []⟩,
  ⟨"SYS_EVQ_ENT_0", 0x30, [], 0x0,
    [⟨0, 32, .ro, .all⟩], []⟩]

/-- Block SYS, part 1: the registers of its chapter, field by field. -/
def regsSYS1 : List RegSpec := [
  ⟨"SYS_EVQ_ENT_1", 0x34, [], 0x0,
    [⟨0, 32, .ro, .all⟩], []⟩,
  ⟨"SYS_EVQ_ENT_2", 0x38, [], 0x0,
    [⟨24, 8, .ro, .all⟩, ⟨16, 8, .ro, .all⟩, ⟨0, 16, .ro, .all⟩], []⟩,
  ⟨"SYS_EVQ_ENT_3", 0x3C, [], 0x0,
    [⟨0, 32, .ro, .all⟩], []⟩,
  ⟨"SYS_SCRATCH", 0x40, [], 0x0,
    [⟨0, 32, .rw, .op⟩], []⟩]

/-- The registers of block SYS (R750, index 0x00). -/
def regsSYS : List RegSpec := regsSYS0 ++ regsSYS1

/-- Block IMG, part 0: the registers of its chapter, field by field. -/
def regsIMG0 : List RegSpec := [
  ⟨"IMG_STAT", 0x10000, [], 0x0,
    [⟨16, 8, .ro, .all⟩, ⟨8, 4, .ro, .all⟩, ⟨7, 1, .ro, .all⟩, ⟨6, 1, .ro, .all⟩, ⟨5, 1, .ro, .all⟩, ⟨4, 1, .ro, .all⟩, ⟨1, 1, .ro, .all⟩, ⟨0, 1, .ro, .all⟩], []⟩,
  ⟨"IMG_LOAD_ERR", 0x10004, [], 0xFF0000,
    [⟨16, 8, .ro, .all⟩, ⟨8, 1, .ro, .all⟩, ⟨0, 8, .ro, .all⟩], []⟩,
  ⟨"IMG_RUN_VER", 0x10008, [], 0x0,
    [⟨0, 32, .ro, .all⟩], []⟩,
  ⟨"IMG_RUN_BUILD", 0x1000C, [], 0x0,
    [⟨0, 32, .ro, .all⟩], []⟩,
  ⟨"IMG_MIN_VER", 0x10010, [], 0x0,
    [⟨0, 32, .rw, .svc⟩], []⟩,
  ⟨"IMG_SLOT_CTRL", 0x10014, [], 0xA0000,
    [⟨16, 8, .rw, .svc⟩, ⟨3, 1, .w1s, .svc⟩, ⟨2, 1, .w1s, .svc⟩, ⟨1, 1, .rw, .svc⟩, ⟨0, 1, .ro, .svc⟩], [⟨16, 8, false, 1, 60⟩]⟩,
  ⟨"IMG_SLOT_STAT", 0x10018, [(0x4, 2)], 0x0,
    [⟨30, 2, .ro, .all⟩, ⟨16, 8, .ro, .all⟩, ⟨0, 16, .ro, .all⟩], []⟩,
  ⟨"IMG_SLOT_VER", 0x10020, [(0x4, 2)], 0x0,
    [⟨0, 32, .ro, .all⟩], []⟩,
  ⟨"IMG_XFER_CTRL", 0x10028, [], 0x0,
    [⟨4, 1, .ro, .svc⟩, ⟨0, 2, .wo, .svc⟩], []⟩,
  ⟨"IMG_XFER_OFS", 0x1002C, [], 0x0,
    [⟨15, 9, .rw, .svc⟩], []⟩,
  ⟨"IMG_KEY_STAT", 0x10030, [], 0x0,
    [⟨4, 4, .w1s, .svc⟩, ⟨0, 4, .ro, .svc⟩], []⟩,
  ⟨"IMG_TXN_CFG", 0x10040, [], 0x258,
    [⟨0, 16, .rw, .svc⟩], [⟨0, 16, false, 1, 6000⟩]⟩]

/-- Block IMG, part 1: the registers of its chapter, field by field. -/
def regsIMG1 : List RegSpec := [
  ⟨"IMG_TXN_CTRL", 0x10100, [(0x10, 4)], 0x0,
    [⟨0, 4, .wo, .all⟩], []⟩,
  ⟨"IMG_TXN_STAT", 0x10104, [(0x10, 4)], 0x0,
    [⟨28, 4, .ro, .all⟩, ⟨24, 4, .ro, .all⟩, ⟨20, 4, .ro, .all⟩, ⟨17, 3, .ro, .all⟩, ⟨15, 2, .ro, .all⟩, ⟨14, 1, .ro, .all⟩, ⟨13, 1, .ro, .all⟩, ⟨0, 12, .ro, .all⟩], []⟩,
  ⟨"IMG_TXN_TRIAL", 0x10108, [(0x10, 4)], 0x70003E8,
    [⟨24, 5, .rw, .all⟩, ⟨0, 16, .rw, .all⟩], [⟨0, 16, false, 10, 65535⟩]⟩,
  ⟨"IMG_TXN_LAST", 0x1010C, [(0x10, 4)], 0x0,
    [⟨0, 32, .ro, .all⟩], []⟩]

/-- The registers of block IMG (R750, index 0x01). -/
def regsIMG : List RegSpec := regsIMG0 ++ regsIMG1

/-- Block TIME, part 0: the registers of its chapter, field by field. -/
def regsTIME0 : List RegSpec := [
  ⟨"TIME_NOW_LO", 0x20000, [], 0x0,
    [⟨0, 32, .ro, .all⟩], []⟩,
  ⟨"TIME_NOW_HI", 0x20004, [], 0x0,
    [⟨0, 32, .ro, .all⟩], []⟩,
  ⟨"TIME_MONO_LO", 0x20008, [], 0x0,
    [⟨0, 32, .ro, .all⟩], []⟩,
  ⟨"TIME_MONO_HI", 0x2000C, [], 0x0,
    [⟨0, 32, .ro, .all⟩], []⟩,
  ⟨"TIME_STAT", 0x20010, [], 0x0,
    [⟨24, 8, .ro, .all⟩, ⟨7, 1, .ro, .all⟩, ⟨6, 1, .ro, .all⟩, ⟨5, 1, .ro, .all⟩, ⟨4, 1, .ro, .all⟩, ⟨0, 3, .ro, .all⟩], []⟩,
  ⟨"TIME_CTRL", 0x20014, [], 0x2638,
    [⟨16, 8, .rw, .svc⟩, ⟨12, 4, .rw, .svc⟩, ⟨8, 4, .rw, .svc⟩, ⟨7, 1, .rw, .svc⟩, ⟨6, 1, .rw, .svc⟩, ⟨5, 1, .rw, .svc⟩, ⟨4, 1, .rw, .svc⟩, ⟨3, 1, .rw, .svc⟩], [⟨16, 8, false, 0, 127⟩, ⟨12, 4, false, 0, 4⟩, ⟨8, 4, false, 1, 15⟩]⟩,
  ⟨"TIME_RATE", 0x20018, [], 0x0,
    [⟨0, 32, .ro, .all⟩], []⟩,
  ⟨"TIME_OFFSET", 0x2001C, [], 0x0,
    [⟨0, 32, .ro, .all⟩], []⟩,
  ⟨"TIME_CYCLE", 0x20020, [], 0x3,
    [⟨16, 16, .ro, .all⟩, ⟨3, 1, .ro, .all⟩, ⟨0, 3, .ro, .all⟩], []⟩,
  ⟨"TIME_CYCLE_CNT", 0x20024, [], 0x0,
    [⟨0, 32, .ro, .all⟩], []⟩,
  ⟨"TIME_TZ", 0x20028, [], 0x40000,
    [⟨16, 8, .rwt, .svc⟩, ⟨0, 8, .rwt, .svc⟩], [⟨16, 8, false, 0, 8⟩, ⟨0, 8, true, -48, 56⟩]⟩,
  ⟨"TIME_DST", 0x2002C, [(0x4, 2)], 0x0,
    [⟨18, 4, .rwt, .svc⟩, ⟨15, 3, .rwt, .svc⟩, ⟨12, 3, .rwt, .svc⟩, ⟨0, 11, .rwt, .svc⟩], [⟨18, 4, false, 0, 12⟩, ⟨15, 3, false, 0, 5⟩, ⟨0, 11, false, 0, 1439⟩, ⟨12, 3, false, 0, 6⟩]⟩]

/-- Block TIME, part 1: the registers of its chapter, field by field. -/
def regsTIME1 : List RegSpec := [
  ⟨"TIME_PPS_CFG", 0x20034, [], 0x6406,
    [⟨8, 8, .rw, .svc⟩, ⟨3, 1, .rw, .svc⟩, ⟨2, 1, .rw, .svc⟩, ⟨1, 1, .rw, .svc⟩], []⟩,
  ⟨"TIME_PPS_IN_LO", 0x20038, [], 0x0,
    [⟨0, 32, .ro, .all⟩], []⟩,
  ⟨"TIME_PPS_IN_HI", 0x2003C, [], 0x0,
    [⟨0, 32, .ro, .all⟩], []⟩,
  ⟨"TIME_PHY_DLY", 0x20040, [(0x4, 2)], 0x0,
    [⟨16, 16, .rw, .svc⟩, ⟨0, 16, .rw, .svc⟩], []⟩,
  ⟨"TIME_SET_LO", 0x20048, [], 0x0,
    [⟨0, 32, .rw, .svc⟩], []⟩,
  ⟨"TIME_SET_HI", 0x2004C, [], 0x0,
    [⟨0, 32, .rw, .svc⟩], []⟩,
  ⟨"TIME_LEAP", 0x20060, [(0x4, 16)], 0x0,
    [⟨8, 24, .rwt, .svc⟩, ⟨0, 8, .rwt, .svc⟩], []⟩,
  ⟨"TIME_QUEUE_SEL", 0x20100, [], 0x0,
    [⟨10, 1, .rw, .op⟩, ⟨0, 10, .rw, .op⟩], [⟨0, 10, false, 0, 132⟩]⟩,
  ⟨"TIME_QUEUE_STAT", 0x20104, [], 0x0,
    [⟨30, 2, .ro, .all⟩, ⟨16, 14, .ro, .all⟩, ⟨0, 14, .ro, .all⟩], []⟩,
  ⟨"TIME_QUEUE_LOST", 0x20108, [], 0x0,
    [⟨0, 32, .ro, .all⟩], []⟩,
  ⟨"TIME_QUEUE_CLR", 0x2010C, [], 0x0,
    [⟨0, 1, .wo, .op⟩], []⟩]

/-- The registers of block TIME (R750, index 0x02). -/
def regsTIME : List RegSpec := regsTIME0 ++ regsTIME1

/-- Block KEEP, part 0: the registers of its chapter, field by field. -/
def regsKEEP0 : List RegSpec := [
  ⟨"KEEP_STAT", 0x30000, [], 0x11000000,
    [⟨28, 4, .ro, .all⟩, ⟨24, 4, .ro, .all⟩, ⟨4, 1, .ro, .all⟩, ⟨3, 1, .ro, .all⟩, ⟨2, 1, .ro, .all⟩, ⟨1, 1, .ro, .all⟩, ⟨0, 1, .ro, .all⟩], []⟩,
  ⟨"KEEP_CTRL", 0x30004, [], 0x0,
    [⟨3, 1, .w1s, .svc⟩, ⟨2, 1, .w1s, .svc⟩, ⟨1, 1, .w1s, .svc⟩, ⟨0, 1, .w1s, .svc⟩], []⟩,
  ⟨"KEEP_CFG", 0x30008, [], 0x3C0303,
    [⟨16, 8, .rw, .svc⟩, ⟨8, 4, .rw, .svc⟩, ⟨0, 4, .rw, .svc⟩], [⟨16, 8, false, 1, 255⟩, ⟨8, 4, false, 0, 15⟩, ⟨0, 4, false, 1, 7⟩]⟩,
  ⟨"KEEP_EPOCH", 0x3000C, [], 0x0,
    [⟨0, 16, .ro, .all⟩], []⟩,
  ⟨"KEEP_LAST_FO", 0x30010, [], 0x0,
    [⟨28, 4, .ro, .all⟩, ⟨24, 1, .ro, .all⟩, ⟨0, 24, .ro, .all⟩], []⟩,
  ⟨"KEEP_LAST_FO_TS_LO", 0x30014, [], 0x0,
    [⟨0, 32, .ro, .all⟩], []⟩,
  ⟨"KEEP_LAST_FO_TS_HI", 0x30018, [], 0x0,
    [⟨0, 32, .ro, .all⟩], []⟩,
  ⟨"KEEP_COUNT", 0x3001C, [], 0x0,
    [⟨16, 16, .ro, .all⟩, ⟨0, 16, .ro, .all⟩], []⟩,
  ⟨"KEEP_MISS", 0x30020, [], 0x0,
    [⟨16, 16, .ro, .all⟩, ⟨0, 16, .ro, .all⟩], []⟩,
  ⟨"KEEP_FENCE_DISC", 0x30024, [], 0x0,
    [⟨0, 32, .ro, .all⟩], []⟩,
  ⟨"KEEP_RESYNC", 0x30028, [], 0x0,
    [⟨24, 8, .ro, .all⟩, ⟨12, 12, .ro, .all⟩, ⟨0, 12, .ro, .all⟩], []⟩,
  ⟨"KEEP_BEACON", 0x30030, [(0x4, 2)], 0x0,
    [⟨16, 16, .ro, .all⟩, ⟨0, 16, .ro, .all⟩], []⟩]

/-- Block KEEP, part 1: the registers of its chapter, field by field. -/
def regsKEEP1 : List RegSpec := [
  ⟨"KEEP_COPY", 0x30038, [], 0x0,
    [⟨16, 16, .ro, .all⟩, ⟨0, 16, .ro, .all⟩], []⟩,
  ⟨"KEEP_LANES", 0x3003C, [], 0x3FFFF,
    [⟨9, 9, .ro, .all⟩, ⟨0, 9, .ro, .all⟩], []⟩,
  ⟨"KEEP_CLR", 0x30040, [], 0x0,
    [⟨0, 1, .wo, .op⟩], []⟩]

/-- The registers of block KEEP (R750, index 0x03). -/
def regsKEEP : List RegSpec := regsKEEP0 ++ regsKEEP1

/-- Block LOOP, part 0: the registers of its chapter, field by field. -/
def regsLOOP0 : List RegSpec := [
  ⟨"LOOP_STAT", 0x40000, [], 0x40000000,
    [⟨24, 8, .ro, .all⟩, ⟨16, 8, .ro, .all⟩, ⟨8, 8, .ro, .all⟩, ⟨6, 1, .ro, .all⟩, ⟨0, 6, .ro, .all⟩], []⟩,
  ⟨"LOOP_VIEW", 0x40004, [], 0x0,
    [⟨0, 1, .rw, .all⟩], []⟩,
  ⟨"LOOP_CLR", 0x40008, [], 0x0,
    [⟨0, 1, .wo, .op⟩], []⟩,
  ⟨"LOOP_USED_LO", 0x4000C, [], 0x0,
    [⟨0, 32, .ro, .all⟩], []⟩,
  ⟨"LOOP_USED_HI", 0x40010, [], 0x0,
    [⟨0, 32, .ro, .all⟩], []⟩,
  ⟨"LOOP_TSTAT", 0x41000, [(0x40, 64)], 0x0,
    [⟨31, 1, .ro, .all⟩, ⟨30, 1, .ro, .all⟩, ⟨24, 6, .ro, .all⟩, ⟨15, 1, .ro, .all⟩, ⟨14, 1, .ro, .all⟩, ⟨13, 1, .ro, .all⟩, ⟨12, 1, .ro, .all⟩, ⟨11, 1, .ro, .all⟩, ⟨10, 1, .ro, .all⟩, ⟨9, 1, .ro, .all⟩, ⟨8, 1, .ro, .all⟩, ⟨7, 1, .ro, .all⟩], []⟩,
  ⟨"LOOP_TCYC", 0x41004, [(0x40, 64)], 0x0,
    [⟨16, 16, .ro, .all⟩, ⟨0, 16, .ro, .all⟩], []⟩,
  ⟨"LOOP_STAMP", 0x41008, [(0x40, 64)], 0x0,
    [⟨16, 16, .ro, .all⟩, ⟨0, 16, .ro, .all⟩], []⟩,
  ⟨"LOOP_STAMP_CFG", 0x4100C, [(0x40, 64)], 0x0,
    [⟨16, 1, .rwt, .svc⟩, ⟨0, 16, .rwt, .svc⟩], []⟩,
  ⟨"LOOP_CNT", 0x41010, [(0x40, 64)], 0x0,
    [⟨16, 16, .ro, .all⟩, ⟨0, 16, .ro, .all⟩], []⟩,
  ⟨"LOOP_MAP", 0x41014, [(0x40, 64)], 0x0,
    [⟨16, 16, .ro, .svc⟩, ⟨0, 2, .rwt, .svc⟩], []⟩,
  ⟨"LOOP_PRESET", 0x41018, [(0x40, 64)], 0x0,
    [⟨0, 16, .w1s, .op⟩], []⟩]

/-- Block LOOP, part 1: the registers of its chapter, field by field. -/
def regsLOOP1 : List RegSpec := [
  ⟨"LOOP_RUN", 0x4101C, [(0x40, 64)], 0x0,
    [⟨16, 16, .ro, .all⟩, ⟨0, 16, .ro, .all⟩], []⟩,
  ⟨"LOOP_WATCH", 0x41020, [(0x40, 64), (0x4, 8)], 0x0,
    [⟨0, 32, .ro, .all⟩], []⟩,
  ⟨"LOOP_PARAM", 0x48000, [(0x200, 64), (0x4, 96)], 0x0,
    [⟨0, 32, .rwt, .svc⟩], []⟩,
  ⟨"LOOP_SHIFT", 0x48180, [(0x200, 64), (0x4, 24)], 0x0,
    [⟨24, 5, .rwt, .svc⟩, ⟨16, 5, .rwt, .svc⟩, ⟨8, 5, .rwt, .svc⟩, ⟨0, 5, .rwt, .svc⟩], []⟩]

/-- The registers of block LOOP (R750, index 0x04). -/
def regsLOOP : List RegSpec := regsLOOP0 ++ regsLOOP1

/-- Block EDGE, part 0: the registers of its chapter, field by field. -/
def regsEDGE0 : List RegSpec := [
  ⟨"EDGE_STAT", 0x50000, [], 0x30000000,
    [⟨24, 8, .ro, .all⟩, ⟨16, 8, .ro, .all⟩, ⟨3, 1, .ro, .all⟩, ⟨2, 1, .ro, .all⟩, ⟨1, 1, .ro, .all⟩, ⟨0, 1, .ro, .all⟩], []⟩,
  ⟨"EDGE_CLR", 0x50004, [], 0x0,
    [⟨0, 1, .wo, .op⟩], []⟩,
  ⟨"EDGE_USED_LO", 0x50008, [], 0x0,
    [⟨0, 32, .ro, .all⟩], []⟩,
  ⟨"EDGE_USED_HI", 0x5000C, [], 0x0,
    [⟨0, 32, .ro, .all⟩], []⟩,
  ⟨"EDGE_CFG", 0x51000, [(0x40, 48)], 0x0,
    [⟨24, 8, .ro, .svc⟩, ⟨22, 2, .ro, .svc⟩, ⟨20, 2, .ro, .svc⟩, ⟨19, 1, .ro, .svc⟩, ⟨17, 2, .ro, .svc⟩, ⟨16, 1, .ro, .svc⟩, ⟨15, 1, .rwt, .svc⟩, ⟨0, 1, .ro, .svc⟩], []⟩,
  ⟨"EDGE_PERIOD", 0x51004, [(0x40, 48)], 0x0,
    [⟨0, 29, .rwt, .svc⟩], [⟨0, 29, false, 51200, 512000000⟩]⟩,
  ⟨"EDGE_PHASE", 0x51008, [(0x40, 48)], 0x0,
    [⟨0, 29, .rwt, .svc⟩], []⟩,
  ⟨"EDGE_RISE", 0x5100C, [(0x40, 48)], 0x0,
    [⟨16, 16, .ro, .svc⟩, ⟨0, 16, .rwt, .svc⟩], []⟩,
  ⟨"EDGE_FALL", 0x51010, [(0x40, 48)], 0x0,
    [⟨16, 16, .ro, .svc⟩, ⟨0, 16, .rwt, .svc⟩], []⟩,
  ⟨"EDGE_MINPW", 0x51014, [(0x40, 48)], 0x0,
    [⟨0, 16, .rwt, .svc⟩], [⟨0, 16, false, 256, 65535⟩]⟩,
  ⟨"EDGE_TRIM_CFG", 0x51018, [(0x40, 48)], 0x0,
    [⟨31, 1, .rwt, .svc⟩, ⟨30, 1, .rwt, .svc⟩, ⟨24, 4, .rwt, .svc⟩, ⟨12, 12, .rwt, .svc⟩, ⟨0, 12, .ro, .svc⟩], [⟨24, 4, false, 1, 15⟩, ⟨12, 12, false, 0, 4095⟩]⟩,
  ⟨"EDGE_TRIM", 0x5101C, [(0x40, 48)], 0x0,
    [⟨16, 16, .ro, .all⟩, ⟨0, 16, .ro, .all⟩], []⟩]

/-- Block EDGE, part 1: the registers of its chapter, field by field. -/
def regsEDGE1 : List RegSpec := [
  ⟨"EDGE_PSTAT", 0x51020, [(0x40, 48)], 0x0,
    [⟨31, 1, .ro, .all⟩, ⟨30, 1, .ro, .all⟩, ⟨29, 1, .ro, .all⟩, ⟨28, 1, .ro, .all⟩, ⟨27, 1, .ro, .all⟩, ⟨26, 1, .ro, .all⟩, ⟨25, 1, .ro, .all⟩, ⟨24, 1, .ro, .all⟩], []⟩,
  ⟨"EDGE_PCNT", 0x51024, [(0x40, 48)], 0x0,
    [⟨16, 16, .ro, .all⟩, ⟨0, 16, .ro, .all⟩], []⟩,
  ⟨"EDGE_CMD", 0x51028, [(0x40, 48)], 0x0,
    [⟨0, 32, .ro, .all⟩], []⟩,
  ⟨"EDGE_CAL", 0x5102C, [(0x40, 48)], 0x0,
    [⟨24, 8, .ro, .all⟩, ⟨16, 8, .ro, .all⟩, ⟨8, 8, .ro, .all⟩, ⟨1, 1, .ro, .all⟩, ⟨0, 1, .ro, .all⟩], []⟩,
  ⟨"EDGE_SWN", 0x51030, [(0x40, 48)], 0x0,
    [⟨16, 16, .ro, .all⟩, ⟨0, 16, .ro, .all⟩], []⟩]

/-- The registers of block EDGE (R750, index 0x05). -/
def regsEDGE : List RegSpec := regsEDGE0 ++ regsEDGE1

/-- Block RING, part 0: the registers of its chapter, field by field. -/
def regsRING0 : List RegSpec := [
  ⟨"RING_STAT", 0x60000, [], 0xC0000000,
    [⟨28, 4, .ro, .all⟩, ⟨20, 8, .ro, .all⟩, ⟨12, 8, .ro, .all⟩, ⟨0, 12, .ro, .all⟩], []⟩,
  ⟨"RING_CMD", 0x60004, [], 0x0,
    [⟨16, 4, .wo, .svc⟩, ⟨0, 9, .wo, .svc⟩], []⟩,
  ⟨"RING_CFG", 0x60008, [], 0x64,
    [⟨0, 16, .rw, .svc⟩], [⟨0, 16, false, 10, 1000⟩]⟩,
  ⟨"RING_CLR", 0x6000C, [], 0x0,
    [⟨0, 1, .wo, .op⟩], []⟩,
  ⟨"RING_PORT_STAT", 0x61000, [(0x20, 12)], 0xFF0000,
    [⟨28, 4, .ro, .all⟩, ⟨26, 2, .ro, .all⟩, ⟨25, 1, .ro, .all⟩, ⟨24, 1, .ro, .all⟩, ⟨16, 8, .ro, .all⟩, ⟨8, 8, .ro, .all⟩, ⟨0, 8, .ro, .all⟩], []⟩,
  ⟨"RING_PORT_LOOP", 0x61004, [(0x20, 12)], 0x0,
    [⟨0, 32, .ro, .all⟩], []⟩,
  ⟨"RING_PORT_CNT", 0x61008, [(0x20, 12)], 0x0,
    [⟨16, 16, .ro, .all⟩, ⟨0, 16, .ro, .all⟩], []⟩,
  ⟨"RING_PORT_TRIP", 0x6100C, [(0x20, 12)], 0xFF00,
    [⟨24, 8, .ro, .all⟩, ⟨16, 8, .ro, .all⟩, ⟨8, 8, .ro, .all⟩], []⟩,
  ⟨"RING_PORT_LEAD", 0x61010, [(0x20, 12)], 0x0,
    [⟨0, 16, .ro, .all⟩], []⟩,
  ⟨"RING_EP_STAT", 0x64000, [(0x20, 384)], 0xF0000000,
    [⟨28, 4, .ro, .all⟩, ⟨24, 4, .ro, .all⟩, ⟨20, 4, .ro, .all⟩, ⟨19, 1, .ro, .all⟩, ⟨18, 1, .ro, .all⟩, ⟨17, 1, .ro, .all⟩, ⟨16, 1, .ro, .all⟩, ⟨0, 16, .ro, .all⟩], []⟩,
  ⟨"RING_EP_DLY_LO", 0x64004, [(0x20, 384)], 0x0,
    [⟨0, 32, .ro, .all⟩], []⟩,
  ⟨"RING_EP_DLY_HI", 0x64008, [(0x20, 384)], 0x0,
    [⟨0, 32, .ro, .all⟩], []⟩]

/-- Block RING, part 1: the registers of its chapter, field by field. -/
def regsRING1 : List RegSpec := [
  ⟨"RING_EP_CNT", 0x6400C, [(0x20, 384)], 0x0,
    [⟨16, 16, .ro, .all⟩], []⟩,
  ⟨"RING_EP_REP_0", 0x64010, [(0x20, 384)], 0x0,
    [⟨16, 16, .ro, .all⟩, ⟨0, 16, .ro, .all⟩], []⟩,
  ⟨"RING_EP_REP_1", 0x64014, [(0x20, 384)], 0x0,
    [⟨0, 16, .ro, .all⟩], []⟩]

/-- The registers of block RING (R750, index 0x06). -/
def regsRING : List RegSpec := regsRING0 ++ regsRING1

/-- Block SST, part 0: the registers of its chapter, field by field. -/
def regsSST0 : List RegSpec := [
  ⟨"SST_STAT", 0x70000, [], 0x0,
    [⟨28, 4, .ro, .all⟩, ⟨27, 1, .ro, .all⟩, ⟨26, 1, .ro, .all⟩, ⟨25, 1, .ro, .all⟩, ⟨24, 1, .ro, .all⟩, ⟨23, 1, .ro, .all⟩, ⟨22, 1, .ro, .all⟩, ⟨21, 1, .ro, .all⟩, ⟨20, 1, .ro, .all⟩, ⟨19, 1, .ro, .all⟩, ⟨16, 3, .ro, .all⟩], []⟩,
  ⟨"SST_CFG", 0x70004, [], 0x0,
    [⟨24, 8, .ro, .all⟩, ⟨16, 8, .ro, .all⟩, ⟨15, 1, .ro, .all⟩, ⟨14, 1, .ro, .all⟩, ⟨12, 2, .ro, .all⟩, ⟨0, 12, .ro, .all⟩], []⟩,
  ⟨"SST_VC_REF", 0x70008, [], 0x0,
    [⟨0, 16, .rwt, .svc⟩], [⟨0, 16, false, 4000, 20000⟩]⟩,
  ⟨"SST_VBUS_REF", 0x7000C, [], 0x0,
    [⟨24, 8, .rwt, .svc⟩, ⟨0, 16, .rwt, .svc⟩], [⟨24, 8, false, 80, 99⟩, ⟨0, 16, false, 8000, 15000⟩]⟩,
  ⟨"SST_P_LIM", 0x70010, [], 0x0,
    [⟨16, 16, .rwt, .op⟩, ⟨0, 16, .rwt, .op⟩], [⟨16, 16, false, 0, 14400⟩, ⟨0, 16, false, 0, 14400⟩]⟩,
  ⟨"SST_Q_CTRL", 0x70014, [], 0x0,
    [⟨30, 2, .rwt, .op⟩, ⟨16, 12, .rwt, .op⟩, ⟨0, 16, .rwt, .op⟩], [⟨16, 12, true, -1000, 1000⟩, ⟨30, 2, false, 0, 2⟩]⟩,
  ⟨"SST_I_LIM", 0x70018, [], 0x0,
    [⟨16, 1, .rwt, .svc⟩, ⟨0, 16, .rwt, .svc⟩], [⟨0, 16, false, 100, 1200⟩]⟩,
  ⟨"SST_MOD_LIM", 0x7001C, [], 0x0,
    [⟨24, 8, .rwt, .svc⟩, ⟨16, 8, .rwt, .svc⟩, ⟨8, 8, .rwt, .svc⟩, ⟨0, 8, .ro, .svc⟩], [⟨24, 8, false, 0, 20⟩, ⟨16, 8, false, 0, 100⟩, ⟨8, 8, false, 0, 25⟩]⟩,
  ⟨"SST_DAB_CFG", 0x70020, [], 0x0,
    [⟨29, 3, .rwt, .svc⟩, ⟨28, 1, .rwt, .svc⟩, ⟨16, 8, .rwt, .svc⟩, ⟨8, 8, .rwt, .svc⟩], [⟨16, 8, false, 5, 60⟩, ⟨8, 8, false, 10, 45⟩, ⟨29, 3, false, 0, 4⟩]⟩,
  ⟨"SST_PLL", 0x70024, [], 0x0,
    [⟨16, 16, .ro, .all⟩, ⟨0, 16, .ro, .all⟩], []⟩,
  ⟨"SST_GRID_U", 0x70028, [], 0x0,
    [⟨16, 16, .ro, .all⟩, ⟨0, 16, .ro, .all⟩], []⟩,
  ⟨"SST_GRID_PQ", 0x7002C, [], 0x0,
    [⟨16, 16, .ro, .all⟩, ⟨0, 16, .ro, .all⟩], []⟩]

/-- Block SST, part 1: the registers of its chapter, field by field. -/
def regsSST1 : List RegSpec := [
  ⟨"SST_BUS", 0x70030, [], 0x0,
    [⟨16, 16, .ro, .all⟩, ⟨0, 16, .ro, .all⟩], []⟩,
  ⟨"SST_CNT", 0x70034, [], 0x0,
    [⟨16, 16, .ro, .all⟩, ⟨0, 16, .ro, .all⟩], []⟩,
  ⟨"SST_CLR", 0x70038, [], 0x0,
    [⟨0, 1, .wo, .op⟩], []⟩,
  ⟨"SST_RT_CFG", 0x70040, [], 0x5A6E0F14,
    [⟨24, 8, .rwt, .svc⟩, ⟨16, 8, .rwt, .svc⟩, ⟨8, 8, .rwt, .svc⟩, ⟨0, 8, .rwt, .svc⟩], [⟨24, 8, false, 70, 95⟩, ⟨16, 8, false, 105, 120⟩, ⟨8, 8, false, 5, 50⟩, ⟨0, 8, false, 0, 100⟩]⟩,
  ⟨"SST_RT_CFG2", 0x70044, [], 0x64001932,
    [⟨24, 8, .rwt, .svc⟩, ⟨16, 8, .rwt, .svc⟩, ⟨8, 8, .rwt, .svc⟩, ⟨0, 8, .rwt, .svc⟩], [⟨24, 8, false, 1, 255⟩, ⟨16, 8, false, 0, 60⟩, ⟨8, 8, false, 1, 75⟩, ⟨0, 8, false, 1, 255⟩]⟩,
  ⟨"SST_RT_LV", 0x70060, [(0x4, 8)], 0x0,
    [⟨24, 8, .rwt, .svc⟩, ⟨0, 16, .rwt, .svc⟩], []⟩,
  ⟨"SST_RT_HV", 0x70080, [(0x4, 4)], 0x0,
    [⟨24, 8, .rwt, .svc⟩, ⟨0, 16, .rwt, .svc⟩], []⟩,
  ⟨"SST_RT_LOG", 0x70090, [], 0x0,
    [⟨28, 4, .ro, .all⟩, ⟨24, 4, .ro, .all⟩, ⟨16, 8, .ro, .all⟩, ⟨0, 16, .ro, .all⟩], []⟩,
  ⟨"SST_PHASE", 0x700A0, [(0x4, 3)], 0x0,
    [⟨24, 8, .ro, .all⟩, ⟨0, 20, .ro, .all⟩], []⟩,
  ⟨"SST_CELL_V", 0x71000, [(0x10, 96)], 0x0,
    [⟨16, 16, .ro, .all⟩, ⟨0, 16, .ro, .all⟩], []⟩,
  ⟨"SST_CELL_MOD", 0x71004, [(0x10, 96)], 0x0,
    [⟨16, 16, .ro, .all⟩, ⟨0, 16, .ro, .all⟩], []⟩,
  ⟨"SST_CELL_CAR", 0x71008, [(0x10, 96)], 0x0,
    [⟨16, 16, .ro, .all⟩, ⟨15, 1, .ro, .all⟩, ⟨13, 2, .ro, .all⟩, ⟨0, 5, .ro, .all⟩], []⟩]

/-- Block SST, part 2: the registers of its chapter, field by field. -/
def regsSST2 : List RegSpec := [
  ⟨"SST_CELL_EP", 0x7100C, [(0x10, 96)], 0x0,
    [⟨0, 9, .ro, .all⟩], []⟩,
  ⟨"SST_RUN_STAT", 0x70400, [], 0x0,
    [⟨28, 4, .ro, .all⟩, ⟨24, 4, .ro, .all⟩, ⟨23, 1, .ro, .all⟩, ⟨22, 1, .ro, .all⟩, ⟨21, 1, .ro, .all⟩, ⟨20, 1, .ro, .all⟩, ⟨16, 4, .ro, .all⟩, ⟨8, 8, .ro, .all⟩, ⟨0, 8, .ro, .all⟩], []⟩,
  ⟨"SST_RUN_CTRL", 0x70404, [], 0x0,
    [⟨2, 1, .w1s, .svc⟩, ⟨1, 1, .w1s, .op⟩, ⟨0, 1, .w1s, .op⟩], []⟩,
  ⟨"SST_PRE_CFG", 0x70408, [], 0xA0F0A32,
    [⟨24, 8, .rwt, .svc⟩, ⟨16, 8, .rwt, .svc⟩, ⟨8, 8, .rwt, .svc⟩, ⟨0, 8, .rwt, .svc⟩], [⟨24, 8, false, 1, 60⟩, ⟨16, 8, false, 5, 30⟩, ⟨8, 8, false, 2, 50⟩, ⟨0, 8, false, 1, 100⟩]⟩,
  ⟨"SST_BRK_CFG", 0x7040C, [], 0xA1400,
    [⟨24, 8, .ro, .svc⟩, ⟨16, 8, .rwt, .svc⟩, ⟨8, 8, .rwt, .svc⟩, ⟨0, 8, .ro, .svc⟩], [⟨16, 8, false, 1, 50⟩, ⟨8, 8, false, 1, 100⟩]⟩,
  ⟨"SST_PROT_CELL", 0x70410, [], 0x78704630,
    [⟨24, 8, .rwt, .svc⟩, ⟨16, 8, .rwt, .svc⟩, ⟨8, 8, .rwt, .svc⟩, ⟨4, 4, .rwt, .svc⟩], [⟨24, 8, false, 105, 130⟩, ⟨16, 8, false, 100, 125⟩, ⟨8, 8, false, 30, 90⟩, ⟨4, 4, false, 1, 15⟩]⟩,
  ⟨"SST_PROT_TEMP", 0x70414, [], 0x3B60352,
    [⟨16, 16, .rwt, .svc⟩, ⟨0, 16, .rwt, .svc⟩], []⟩,
  ⟨"SST_PROT_PHASE", 0x70418, [], 0x5DC190F0,
    [⟨20, 12, .rwt, .svc⟩, ⟨10, 10, .rwt, .svc⟩, ⟨4, 6, .rwt, .svc⟩], [⟨20, 12, false, 1000, 2500⟩, ⟨10, 10, false, 0, 1000⟩, ⟨4, 6, false, 1, 50⟩]⟩,
  ⟨"SST_PROT_DAB", 0x7041C, [], 0x0,
    [⟨16, 16, .rwt, .svc⟩, ⟨8, 8, .rwt, .svc⟩], [⟨8, 8, false, 102, 125⟩]⟩,
  ⟨"SST_RESTART_CFG", 0x70420, [], 0x80030514,
    [⟨31, 1, .rwt, .svc⟩, ⟨16, 8, .rwt, .svc⟩, ⟨8, 8, .rwt, .svc⟩, ⟨0, 8, .rwt, .svc⟩], [⟨16, 8, false, 0, 10⟩, ⟨8, 8, false, 1, 50⟩, ⟨0, 8, false, 5, 100⟩]⟩,
  ⟨"SST_BRK_SRC", 0x70430, [(0x4, 4)], 0x0,
    [⟨0, 32, .ro, .all⟩], []⟩,
  ⟨"SST_PROT_CNT", 0x70440, [], 0x0,
    [⟨24, 8, .ro, .all⟩, ⟨16, 8, .ro, .all⟩, ⟨8, 8, .ro, .all⟩, ⟨0, 8, .ro, .all⟩], []⟩]

/-- Block SST, part 3: the registers of its chapter, field by field. -/
def regsSST3 : List RegSpec := [
  ⟨"SST_CELL_STAT", 0x72000, [(0x10, 96)], 0x0,
    [⟨28, 4, .ro, .all⟩, ⟨8, 8, .ro, .all⟩, ⟨0, 8, .ro, .all⟩], []⟩,
  ⟨"SST_CELL_CMD", 0x72004, [(0x10, 96)], 0x0,
    [⟨1, 1, .w1s, .svc⟩, ⟨0, 1, .w1s, .svc⟩], []⟩,
  ⟨"SST_CELL_HIST", 0x72008, [(0x10, 96)], 0x0,
    [⟨16, 16, .ro, .all⟩, ⟨0, 16, .ro, .all⟩], []⟩]

/-- The registers of block SST (R750, index 0x07). -/
def regsSST : List RegSpec := regsSST0 ++ regsSST1 ++ regsSST2 ++ regsSST3

/-- Block OUTS, part 0: the registers of its chapter, field by field. -/
def regsOUTS0 : List RegSpec := [
  ⟨"OUTS_STAT", 0x80000, [], 0x80000000,
    [⟨28, 4, .ro, .all⟩, ⟨16, 8, .ro, .all⟩, ⟨8, 8, .ro, .all⟩, ⟨0, 8, .ro, .all⟩], []⟩,
  ⟨"OUTS_CLR", 0x80004, [], 0x0,
    [⟨0, 1, .wo, .op⟩], []⟩,
  ⟨"OUTS_O_STAT", 0x81000, [(0x40, 8)], 0x0,
    [⟨28, 4, .ro, .all⟩, ⟨24, 4, .ro, .all⟩, ⟨22, 2, .ro, .all⟩, ⟨19, 3, .ro, .all⟩, ⟨18, 1, .ro, .all⟩, ⟨16, 2, .ro, .all⟩, ⟨8, 8, .ro, .all⟩, ⟨0, 8, .ro, .all⟩], []⟩,
  ⟨"OUTS_O_CTRL", 0x81004, [(0x40, 8)], 0x0,
    [⟨1, 1, .w1s, .op⟩, ⟨0, 1, .w1s, .op⟩], []⟩,
  ⟨"OUTS_O_MEAS", 0x81008, [(0x40, 8)], 0x0,
    [⟨16, 16, .ro, .all⟩, ⟨0, 16, .ro, .all⟩], []⟩,
  ⟨"OUTS_O_REF", 0x8100C, [(0x40, 8)], 0x0,
    [⟨16, 16, .ro, .all⟩, ⟨0, 16, .ro, .all⟩], []⟩,
  ⟨"OUTS_O_CAP", 0x8102C, [(0x40, 8)], 0x0,
    [⟨16, 16, .ro, .all⟩, ⟨0, 16, .ro, .all⟩], []⟩,
  ⟨"OUTS_O_LIM", 0x81010, [(0x40, 8)], 0x64,
    [⟨16, 16, .rwt, .svc⟩, ⟨0, 16, .rwt, .svc⟩], [⟨0, 16, false, 1, 1000⟩]⟩,
  ⟨"OUTS_SS_CFG", 0x81014, [(0x40, 8)], 0x140A00C8,
    [⟨24, 8, .rwt, .svc⟩, ⟨16, 8, .rwt, .svc⟩, ⟨0, 16, .rwt, .svc⟩], [⟨24, 8, false, 1, 100⟩, ⟨16, 8, false, 1, 100⟩]⟩,
  ⟨"OUTS_SHED_CFG", 0x81018, [(0x40, 8)], 0x46550A94,
    [⟨24, 8, .rwt, .svc⟩, ⟨16, 8, .rwt, .svc⟩, ⟨8, 8, .rwt, .svc⟩, ⟨7, 1, .rwt, .svc⟩, ⟨0, 7, .rwt, .svc⟩], [⟨24, 8, false, 30, 90⟩, ⟨16, 8, false, 40, 100⟩, ⟨8, 8, false, 1, 100⟩, ⟨0, 7, false, 1, 127⟩]⟩,
  ⟨"OUTS_IMB_CFG", 0x8101C, [(0x40, 8)], 0xF1E0100,
    [⟨24, 8, .rwt, .svc⟩, ⟨16, 8, .rwt, .svc⟩, ⟨8, 8, .rwt, .svc⟩], [⟨24, 8, false, 5, 50⟩, ⟨16, 8, false, 10, 80⟩, ⟨8, 8, false, 1, 48⟩]⟩,
  ⟨"OUTS_PROT", 0x81020, [(0x40, 8)], 0x0,
    [⟨24, 8, .rwt, .svc⟩, ⟨0, 16, .rwt, .svc⟩], [⟨24, 8, false, 2, 20⟩]⟩]

/-- Block OUTS, part 1: the registers of its chapter, field by field. -/
def regsOUTS1 : List RegSpec := [
  ⟨"OUTS_O_CNT", 0x81024, [(0x40, 8)], 0x0,
    [⟨24, 8, .ro, .all⟩, ⟨16, 8, .ro, .all⟩, ⟨8, 8, .ro, .all⟩, ⟨0, 8, .ro, .all⟩], []⟩,
  ⟨"OUTS_O_SET", 0x81028, [(0x40, 8)], 0x0,
    [⟨16, 16, .ro, .all⟩, ⟨13, 3, .ro, .all⟩], []⟩,
  ⟨"OUTS_PH_STAT", 0x84000, [(0x20, 96)], 0x0,
    [⟨28, 4, .ro, .all⟩, ⟨24, 4, .ro, .all⟩, ⟨20, 4, .ro, .all⟩, ⟨8, 8, .ro, .all⟩, ⟨0, 8, .ro, .all⟩], []⟩,
  ⟨"OUTS_PH_MAP", 0x84004, [(0x20, 96)], 0x0,
    [⟨31, 1, .ro, .svc⟩, ⟨16, 1, .rwt, .svc⟩, ⟨0, 9, .ro, .svc⟩], []⟩,
  ⟨"OUTS_PH_MEAS", 0x84008, [(0x20, 96)], 0x0,
    [⟨16, 16, .ro, .all⟩, ⟨0, 16, .ro, .all⟩], []⟩,
  ⟨"OUTS_PH_IMB", 0x8400C, [(0x20, 96)], 0x0,
    [⟨16, 16, .ro, .all⟩, ⟨0, 16, .ro, .all⟩], []⟩,
  ⟨"OUTS_PH_CMD", 0x84010, [(0x20, 96)], 0x0,
    [⟨0, 1, .w1s, .svc⟩], []⟩]

/-- The registers of block OUTS (R750, index 0x08). -/
def regsOUTS : List RegSpec := regsOUTS0 ++ regsOUTS1

/-- Block ALOC, part 0: the registers of its chapter, field by field. -/
def regsALOC0 : List RegSpec := [
  ⟨"ALOC_STAT", 0x90000, [], 0x0,
    [⟨28, 4, .ro, .all⟩, ⟨27, 1, .ro, .all⟩, ⟨26, 1, .ro, .all⟩, ⟨25, 1, .ro, .all⟩, ⟨24, 1, .ro, .all⟩, ⟨16, 8, .ro, .all⟩, ⟨0, 16, .ro, .all⟩], []⟩,
  ⟨"ALOC_CFG", 0x90004, [], 0x5000064,
    [⟨24, 8, .rwt, .svc⟩, ⟨16, 1, .rwt, .svc⟩, ⟨0, 16, .rwt, .svc⟩], [⟨24, 8, false, 1, 50⟩, ⟨0, 16, false, 1, 14400⟩]⟩,
  ⟨"ALOC_GRID", 0x90008, [], 0x38400000,
    [⟨16, 16, .rwt, .op⟩, ⟨0, 16, .rwt, .op⟩], []⟩,
  ⟨"ALOC_SITE", 0x9000C, [], 0x4E2,
    [⟨16, 16, .rwt, .svc⟩, ⟨0, 16, .rwt, .svc⟩], [⟨16, 16, false, 0, 2000⟩, ⟨0, 16, true, 600, 1750⟩]⟩,
  ⟨"ALOC_EFF", 0x90010, [], 0x3C003D9,
    [⟨16, 16, .rwt, .svc⟩, ⟨0, 16, .rwt, .svc⟩], [⟨16, 16, false, 500, 1000⟩, ⟨0, 16, false, 500, 1000⟩]⟩,
  ⟨"ALOC_EXPORT", 0x90014, [], 0x0,
    [⟨0, 16, .rw, .op⟩], []⟩,
  ⟨"ALOC_DEMAND", 0x90018, [], 0x0,
    [⟨31, 1, .rwt, .op⟩, ⟨24, 5, .rwt, .op⟩, ⟨0, 24, .rwt, .op⟩], [⟨24, 5, false, 0, 20⟩]⟩,
  ⟨"ALOC_PRICE", 0x9001C, [], 0x0,
    [⟨28, 4, .ro, .op⟩, ⟨4, 1, .rw, .op⟩, ⟨0, 4, .rw, .op⟩], []⟩,
  ⟨"ALOC_PRICE_TAB", 0x90020, [], 0x0,
    [⟨0, 4, .rwt, .svc⟩, ⟨4, 4, .rwt, .svc⟩, ⟨8, 4, .rwt, .svc⟩, ⟨12, 4, .rwt, .svc⟩, ⟨16, 4, .rwt, .svc⟩, ⟨20, 4, .rwt, .svc⟩, ⟨24, 4, .rwt, .svc⟩, ⟨28, 4, .rwt, .svc⟩], []⟩,
  ⟨"ALOC_DEM_STAT", 0x90024, [], 0x0,
    [⟨20, 12, .ro, .all⟩, ⟨0, 20, .ro, .all⟩], []⟩,
  ⟨"ALOC_DEM_E", 0x90028, [], 0x0,
    [⟨0, 32, .ro, .all⟩], []⟩,
  ⟨"ALOC_BUD", 0x9002C, [(0x4, 5)], 0x0,
    [⟨0, 32, .ro, .all⟩], []⟩]

/-- Block ALOC, part 1: the registers of its chapter, field by field. -/
def regsALOC1 : List RegSpec := [
  ⟨"ALOC_CLASS", 0x90040, [(0x4, 4)], 0x10F0000,
    [⟨24, 4, .rwt, .svc⟩, ⟨16, 4, .rwt, .svc⟩, ⟨0, 16, .rwt, .svc⟩], [⟨24, 4, false, 1, 15⟩]⟩,
  ⟨"ALOC_TICK", 0x90050, [], 0x0,
    [⟨0, 32, .ro, .all⟩], []⟩,
  ⟨"ALOC_TTIME", 0x90054, [], 0x0,
    [⟨16, 16, .ro, .all⟩, ⟨0, 16, .ro, .all⟩], []⟩,
  ⟨"ALOC_JUNC_STAT", 0x90058, [], 0xFF000000,
    [⟨24, 8, .ro, .all⟩, ⟨0, 16, .ro, .all⟩], []⟩,
  ⟨"ALOC_CNT", 0x9005C, [], 0x0,
    [⟨16, 16, .ro, .all⟩, ⟨0, 16, .ro, .all⟩], []⟩,
  ⟨"ALOC_CLR", 0x90060, [], 0x0,
    [⟨0, 1, .wo, .op⟩], []⟩,
  ⟨"ALOC_O_CFG", 0x91000, [(0x20, 8)], 0x2,
    [⟨16, 16, .rwt, .svc⟩, ⟨0, 2, .rw, .op⟩], [⟨16, 16, false, 1, 4095⟩]⟩,
  ⟨"ALOC_O_LIM", 0x91004, [(0x20, 8)], 0xFFFFFFFF,
    [⟨16, 16, .rw, .op⟩, ⟨0, 16, .rw, .op⟩], []⟩,
  ⟨"ALOC_O_GRANT", 0x91008, [(0x20, 8)], 0x8,
    [⟨16, 16, .ro, .all⟩, ⟨4, 12, .ro, .all⟩, ⟨0, 4, .ro, .all⟩], []⟩,
  ⟨"ALOC_O_IN", 0x9100C, [(0x20, 8)], 0x0,
    [⟨16, 16, .ro, .all⟩, ⟨0, 16, .ro, .all⟩], []⟩,
  ⟨"ALOC_O_IN2", 0x91010, [(0x20, 8)], 0x0,
    [⟨16, 16, .ro, .all⟩, ⟨0, 16, .ro, .all⟩], []⟩]

/-- The registers of block ALOC (R750, index 0x09). -/
def regsALOC : List RegSpec := regsALOC0 ++ regsALOC1

/-- Block COOL, part 0: the registers of its chapter, field by field. -/
def regsCOOL0 : List RegSpec := [
  ⟨"COOL_STAT", 0xA0000, [], 0x0,
    [⟨24, 8, .ro, .all⟩, ⟨16, 8, .ro, .all⟩, ⟨8, 8, .ro, .all⟩, ⟨0, 8, .ro, .all⟩], []⟩,
  ⟨"COOL_CLR", 0xA0004, [], 0x0,
    [⟨0, 1, .wo, .op⟩], []⟩,
  ⟨"COOL_O_STAT", 0xA1000, [(0x40, 8)], 0x0,
    [⟨28, 4, .ro, .all⟩, ⟨26, 2, .ro, .all⟩, ⟨25, 1, .ro, .all⟩, ⟨24, 1, .ro, .all⟩, ⟨23, 1, .ro, .all⟩, ⟨8, 8, .ro, .all⟩, ⟨0, 8, .ro, .all⟩], []⟩,
  ⟨"COOL_O_CTRL", 0xA1004, [(0x40, 8)], 0x0,
    [⟨0, 1, .w1s, .op⟩], []⟩,
  ⟨"COOL_O_EST", 0xA1008, [(0x40, 8)], 0x0,
    [⟨16, 16, .ro, .all⟩, ⟨0, 16, .ro, .all⟩], []⟩,
  ⟨"COOL_O_TC", 0xA100C, [(0x40, 8)], 0x0,
    [⟨16, 16, .ro, .all⟩, ⟨0, 16, .ro, .all⟩], []⟩,
  ⟨"COOL_O_MEAS", 0xA1010, [(0x40, 8)], 0x0,
    [⟨16, 16, .ro, .all⟩, ⟨0, 16, .ro, .all⟩], []⟩,
  ⟨"COOL_O_FLOW", 0xA1014, [(0x40, 8)], 0x0,
    [⟨16, 16, .ro, .all⟩, ⟨8, 8, .ro, .all⟩, ⟨0, 8, .ro, .all⟩], []⟩,
  ⟨"COOL_O_LIM", 0xA1018, [(0x40, 8)], 0x5A505A5F,
    [⟨24, 8, .rwt, .svc⟩, ⟨16, 8, .rwt, .svc⟩, ⟨8, 8, .rwt, .svc⟩, ⟨0, 8, .rwt, .svc⟩], [⟨24, 8, false, 60, 120⟩, ⟨16, 8, false, 40, 120⟩, ⟨8, 8, false, 50, 130⟩, ⟨0, 8, false, 55, 140⟩]⟩,
  ⟨"COOL_O_FCFG", 0xA101C, [(0x40, 8)], 0x3C14140A,
    [⟨24, 8, .rwt, .svc⟩, ⟨16, 8, .rwt, .svc⟩, ⟨8, 8, .rwt, .svc⟩, ⟨0, 8, .rwt, .svc⟩], [⟨24, 8, false, 1, 255⟩, ⟨16, 8, false, 1, 255⟩, ⟨8, 8, false, 5, 255⟩, ⟨0, 8, false, 1, 60⟩]⟩,
  ⟨"COOL_O_CFG", 0xA1020, [(0x40, 8)], 0x61E230A,
    [⟨24, 8, .rwt, .svc⟩, ⟨16, 8, .rwt, .svc⟩, ⟨8, 8, .rwt, .svc⟩, ⟨0, 8, .rwt, .svc⟩], [⟨24, 8, false, 1, 60⟩, ⟨16, 8, false, 10, 100⟩, ⟨8, 8, false, 15, 60⟩, ⟨0, 8, false, 2, 30⟩]⟩,
  ⟨"COOL_O_CNT", 0xA1024, [(0x40, 8)], 0x0,
    [⟨24, 8, .ro, .all⟩, ⟨16, 8, .ro, .all⟩, ⟨8, 8, .ro, .all⟩, ⟨0, 8, .ro, .all⟩], []⟩]

/-- The registers of block COOL (R750, index 0x0A). -/
def regsCOOL : List RegSpec := regsCOOL0

/-- Block OUTL, part 0: the registers of its chapter, field by field. -/
def regsOUTL0 : List RegSpec := [
  ⟨"OUTL_STAT", 0xB0000, [], 0x0,
    [⟨24, 8, .ro, .all⟩, ⟨16, 8, .ro, .all⟩, ⟨8, 8, .ro, .all⟩, ⟨0, 8, .ro, .all⟩], []⟩,
  ⟨"OUTL_CLR", 0xB0004, [], 0x0,
    [⟨0, 1, .wo, .op⟩], []⟩,
  ⟨"OUTL_O_STAT", 0xB1000, [(0x40, 8)], 0x0,
    [⟨28, 4, .ro, .all⟩, ⟨24, 4, .ro, .all⟩, ⟨22, 2, .ro, .all⟩, ⟨20, 2, .ro, .all⟩, ⟨19, 1, .ro, .all⟩, ⟨18, 1, .ro, .all⟩, ⟨17, 1, .ro, .all⟩, ⟨16, 1, .ro, .all⟩, ⟨15, 1, .ro, .all⟩, ⟨14, 1, .ro, .all⟩, ⟨13, 1, .ro, .all⟩, ⟨12, 1, .ro, .all⟩, ⟨10, 2, .ro, .all⟩], []⟩,
  ⟨"OUTL_O_CTRL", 0xB1004, [(0x40, 8)], 0x0,
    [⟨3, 1, .w1s, .op⟩, ⟨2, 1, .w1s, .op⟩, ⟨1, 1, .w1s, .op⟩, ⟨0, 1, .w1s, .op⟩], []⟩,
  ⟨"OUTL_O_CFG", 0xB1008, [(0x40, 8)], 0x0,
    [⟨30, 2, .ro, .svc⟩, ⟨29, 1, .ro, .svc⟩, ⟨28, 1, .ro, .svc⟩, ⟨24, 3, .rwt, .svc⟩], []⟩,
  ⟨"OUTL_O_RATED", 0xB100C, [(0x40, 8)], 0x0,
    [⟨16, 16, .ro, .all⟩, ⟨0, 16, .ro, .all⟩], []⟩,
  ⟨"OUTL_O_EV", 0xB1010, [(0x40, 8)], 0x0,
    [⟨16, 16, .ro, .all⟩, ⟨0, 16, .ro, .all⟩], []⟩,
  ⟨"OUTL_O_EVI", 0xB1014, [(0x40, 8)], 0x0,
    [⟨16, 16, .ro, .all⟩, ⟨0, 16, .ro, .all⟩], []⟩,
  ⟨"OUTL_O_CHK", 0xB1018, [(0x40, 8)], 0x3C140F32,
    [⟨24, 8, .rwt, .svc⟩, ⟨16, 8, .rwt, .svc⟩, ⟨8, 8, .rwt, .svc⟩, ⟨0, 8, .rwt, .svc⟩], [⟨24, 8, false, 20, 120⟩, ⟨16, 8, false, 5, 100⟩, ⟨8, 8, false, 5, 100⟩, ⟨0, 8, false, 10, 200⟩]⟩,
  ⟨"OUTL_O_TMO", 0xB101C, [(0x40, 8)], 0xA0A140A,
    [⟨24, 8, .rwt, .svc⟩, ⟨16, 8, .rwt, .svc⟩, ⟨8, 8, .rwt, .svc⟩, ⟨0, 8, .rwt, .svc⟩], [⟨24, 8, false, 1, 50⟩, ⟨16, 8, false, 2, 50⟩, ⟨8, 8, false, 5, 100⟩, ⟨0, 8, false, 2, 30⟩]⟩,
  ⟨"OUTL_O_SESS", 0xB1020, [(0x40, 8)], 0x0,
    [⟨0, 32, .ro, .all⟩], []⟩,
  ⟨"OUTL_O_CNT", 0xB1024, [(0x40, 8)], 0x0,
    [⟨24, 8, .ro, .all⟩, ⟨16, 8, .ro, .all⟩, ⟨8, 8, .ro, .all⟩, ⟨0, 8, .ro, .all⟩], []⟩]

/-- Block OUTL, part 1: the registers of its chapter, field by field. -/
def regsOUTL1 : List RegSpec := [
  ⟨"OUTL_O_LINK", 0xB1028, [(0x40, 8)], 0xA,
    [⟨0, 8, .rwt, .svc⟩], [⟨0, 8, false, 2, 60⟩]⟩]

/-- The registers of block OUTL (R750, index 0x0B). -/
def regsOUTL : List RegSpec := regsOUTL0 ++ regsOUTL1

/-- Block SAFE, part 0: the registers of its chapter, field by field. -/
def regsSAFE0 : List RegSpec := [
  ⟨"SAFE_STAT", 0xC0000, [], 0x0,
    [⟨28, 4, .ro, .all⟩, ⟨24, 4, .ro, .all⟩, ⟨23, 1, .ro, .all⟩, ⟨22, 1, .ro, .all⟩, ⟨21, 1, .ro, .all⟩, ⟨20, 1, .ro, .all⟩, ⟨18, 2, .ro, .all⟩, ⟨0, 16, .ro, .all⟩], []⟩,
  ⟨"SAFE_CTRL", 0xC0004, [], 0x0,
    [⟨1, 1, .w1s, .safe⟩, ⟨0, 1, .w1s, .safe⟩], []⟩,
  ⟨"SAFE_CHECK_RUN", 0xC0008, [], 0x0,
    [⟨0, 32, .ro, .all⟩], []⟩,
  ⟨"SAFE_CHECK_COMM", 0xC000C, [], 0x0,
    [⟨0, 32, .ro, .all⟩], []⟩,
  ⟨"SAFE_CONFIRM", 0xC0010, [], 0x0,
    [⟨0, 32, .wo, .safe⟩], []⟩,
  ⟨"SAFE_IN_CFG", 0xC0014, [], 0x0,
    [⟨24, 8, .rwc, .safe⟩, ⟨16, 8, .rwc, .safe⟩, ⟨8, 8, .rwc, .safe⟩, ⟨0, 1, .rwc, .safe⟩], [⟨24, 8, false, 1, 50⟩, ⟨16, 8, false, 10, 100⟩]⟩,
  ⟨"SAFE_FB_STAT", 0xC0018, [], 0x0,
    [⟨24, 8, .ro, .all⟩, ⟨16, 8, .ro, .all⟩, ⟨0, 16, .ro, .all⟩], []⟩,
  ⟨"SAFE_FB_ACK", 0xC001C, [], 0x0,
    [⟨0, 8, .w1s, .osf⟩], []⟩,
  ⟨"SAFE_CNT", 0xC0020, [], 0x0,
    [⟨24, 8, .ro, .all⟩, ⟨16, 8, .ro, .all⟩, ⟨8, 8, .ro, .all⟩, ⟨0, 8, .ro, .all⟩], []⟩,
  ⟨"SAFE_CLR", 0xC0024, [], 0x0,
    [⟨0, 1, .wo, .osf⟩], []⟩,
  ⟨"SAFE_AX_STAT", 0xC1000, [(0x40, 2)], 0x1000000,
    [⟨28, 4, .ro, .all⟩, ⟨24, 4, .ro, .all⟩, ⟨23, 1, .ro, .all⟩, ⟨22, 1, .ro, .all⟩, ⟨21, 1, .ro, .all⟩, ⟨20, 1, .ro, .all⟩, ⟨19, 1, .ro, .all⟩, ⟨18, 1, .ro, .all⟩, ⟨17, 1, .ro, .all⟩, ⟨16, 1, .ro, .all⟩, ⟨15, 1, .ro, .all⟩, ⟨14, 1, .ro, .all⟩], []⟩,
  ⟨"SAFE_AX_CTRL", 0xC1004, [(0x40, 2)], 0x0,
    [⟨0, 1, .w1s, .osf⟩], []⟩]

/-- Block SAFE, part 1: the registers of its chapter, field by field. -/
def regsSAFE1 : List RegSpec := [
  ⟨"SAFE_AX_POS", 0xC1008, [(0x40, 2)], 0x0,
    [⟨0, 32, .ro, .all⟩], []⟩,
  ⟨"SAFE_AX_SPD", 0xC100C, [(0x40, 2)], 0x0,
    [⟨16, 16, .ro, .all⟩, ⟨0, 16, .ro, .all⟩], []⟩,
  ⟨"SAFE_AX_SLS", 0xC1010, [(0x40, 2)], 0x0,
    [⟨16, 16, .rwc, .safe⟩, ⟨0, 16, .rwc, .safe⟩], []⟩,
  ⟨"SAFE_AX_SLP_LO", 0xC1014, [(0x40, 2)], 0x0,
    [⟨0, 32, .rwc, .safe⟩], []⟩,
  ⟨"SAFE_AX_SLP_HI", 0xC1018, [(0x40, 2)], 0x0,
    [⟨0, 32, .rwc, .safe⟩], []⟩,
  ⟨"SAFE_AX_SS1", 0xC101C, [(0x40, 2)], 0x0,
    [⟨16, 16, .rwc, .safe⟩, ⟨8, 8, .rwc, .safe⟩, ⟨0, 8, .rwc, .safe⟩], [⟨16, 16, false, 10, 10000⟩, ⟨8, 8, false, 5, 255⟩, ⟨0, 8, false, 5, 255⟩]⟩,
  ⟨"SAFE_AX_ENC", 0xC1020, [(0x40, 2)], 0x0,
    [⟨16, 16, .rwc, .safe⟩, ⟨8, 8, .rwc, .safe⟩, ⟨0, 8, .rwc, .safe⟩], [⟨16, 16, false, 1, 65535⟩, ⟨8, 8, false, 1, 255⟩, ⟨0, 8, false, 1, 255⟩]⟩,
  ⟨"SAFE_AX_CFG", 0xC1024, [(0x40, 2)], 0x0,
    [⟨16, 16, .rwc, .safe⟩, ⟨7, 1, .rwc, .safe⟩, ⟨6, 1, .rwc, .safe⟩, ⟨5, 1, .rwc, .safe⟩, ⟨3, 2, .rwc, .safe⟩], []⟩,
  ⟨"SAFE_CONN_STAT", 0xC2000, [(0x10, 16)], 0x0,
    [⟨30, 2, .ro, .all⟩, ⟨29, 1, .ro, .all⟩, ⟨0, 16, .ro, .all⟩], []⟩,
  ⟨"SAFE_CONN_CNT", 0xC2004, [(0x10, 16)], 0x0,
    [⟨16, 16, .ro, .all⟩, ⟨8, 8, .ro, .all⟩, ⟨0, 8, .ro, .all⟩], []⟩]

/-- The registers of block SAFE (R750, index 0x0C). -/
def regsSAFE : List RegSpec := regsSAFE0 ++ regsSAFE1

/-- Block METR, part 0: the registers of its chapter, field by field. -/
def regsMETR0 : List RegSpec := [
  ⟨"METR_STAT", 0xD0000, [], 0x0,
    [⟨30, 2, .ro, .all⟩, ⟨29, 1, .ro, .all⟩, ⟨28, 1, .ro, .all⟩, ⟨27, 1, .ro, .all⟩, ⟨26, 1, .ro, .all⟩, ⟨25, 1, .ro, .all⟩, ⟨24, 1, .ro, .all⟩, ⟨16, 8, .ro, .all⟩, ⟨8, 8, .ro, .all⟩], []⟩,
  ⟨"METR_SEAL", 0xD0004, [], 0x0,
    [⟨16, 16, .ro, .all⟩], []⟩,
  ⟨"METR_ID", 0xD0008, [], 0x0,
    [⟨16, 16, .ro, .all⟩, ⟨0, 16, .ro, .all⟩], []⟩,
  ⟨"METR_SEAL_TS_LO", 0xD000C, [], 0x0,
    [⟨0, 32, .ro, .all⟩], []⟩,
  ⟨"METR_SEAL_TS_HI", 0xD0010, [], 0x0,
    [⟨0, 32, .ro, .all⟩], []⟩,
  ⟨"METR_MAP_DIG", 0xD0020, [(0x4, 12)], 0x0,
    [⟨0, 32, .ro, .all⟩], []⟩,
  ⟨"METR_CAL_DIG", 0xD0050, [(0x4, 12)], 0x0,
    [⟨0, 32, .ro, .all⟩], []⟩,
  ⟨"METR_CAL_CTRL", 0xD0080, [], 0x0,
    [⟨8, 1, .rws, .metr⟩, ⟨0, 8, .rws, .metr⟩], []⟩,
  ⟨"METR_CLR", 0xD0084, [], 0x0,
    [⟨0, 1, .wo, .op⟩], []⟩,
  ⟨"METR_AC_FREQ", 0xD0090, [], 0x0,
    [⟨16, 16, .ro, .all⟩], []⟩,
  ⟨"METR_AC_V", 0xD00A0, [(0x10, 3)], 0x0,
    [⟨0, 32, .ro, .all⟩], []⟩,
  ⟨"METR_AC_I", 0xD00A4, [(0x10, 3)], 0x0,
    [⟨0, 32, .ro, .all⟩], []⟩]

/-- Block METR, part 1: the registers of its chapter, field by field. -/
def regsMETR1 : List RegSpec := [
  ⟨"METR_AC_P", 0xD00A8, [(0x10, 3)], 0x0,
    [⟨0, 32, .ro, .all⟩], []⟩,
  ⟨"METR_AC_Q", 0xD00AC, [(0x10, 3)], 0x0,
    [⟨0, 32, .ro, .all⟩], []⟩,
  ⟨"METR_DC_V", 0xD0100, [(0x10, 8)], 0x0,
    [⟨0, 32, .ro, .all⟩], []⟩,
  ⟨"METR_DC_I", 0xD0104, [(0x10, 8)], 0x0,
    [⟨0, 32, .ro, .all⟩], []⟩,
  ⟨"METR_DC_P", 0xD0108, [(0x10, 8)], 0x0,
    [⟨0, 32, .ro, .all⟩], []⟩,
  ⟨"METR_DC_LOSS", 0xD010C, [(0x10, 8)], 0x0,
    [⟨0, 16, .rws, .metr⟩], [⟨0, 16, false, 0, 65535⟩]⟩,
  ⟨"METR_TEST_IMP", 0xD0180, [(0x8, 9)], 0x0,
    [⟨0, 32, .ro, .all⟩], []⟩,
  ⟨"METR_TEST_EXP", 0xD0184, [(0x8, 9)], 0x0,
    [⟨0, 32, .ro, .all⟩], []⟩,
  ⟨"METR_CH_CFG", 0xD1000, [(0x20, 48)], 0x0,
    [⟨28, 4, .ro, .all⟩, ⟨24, 4, .ro, .all⟩, ⟨20, 4, .ro, .all⟩, ⟨18, 2, .ro, .all⟩, ⟨15, 3, .ro, .all⟩, ⟨14, 1, .ro, .all⟩, ⟨8, 6, .ro, .all⟩, ⟨7, 1, .ro, .all⟩, ⟨6, 1, .ro, .all⟩], []⟩,
  ⟨"METR_CH_SCALE", 0xD1004, [(0x20, 48)], 0x0,
    [⟨0, 32, .ro, .all⟩], []⟩,
  ⟨"METR_CH_STAT", 0xD1008, [(0x20, 48)], 0x0,
    [⟨31, 1, .ro, .all⟩, ⟨30, 1, .ro, .all⟩, ⟨29, 1, .ro, .all⟩, ⟨28, 1, .ro, .all⟩, ⟨27, 1, .ro, .all⟩], []⟩,
  ⟨"METR_CH_RMS", 0xD100C, [(0x20, 48)], 0x0,
    [⟨0, 32, .ro, .all⟩], []⟩]

/-- Block METR, part 2: the registers of its chapter, field by field. -/
def regsMETR2 : List RegSpec := [
  ⟨"METR_CH_CNT", 0xD1010, [(0x20, 48)], 0x0,
    [⟨16, 16, .ro, .all⟩, ⟨0, 16, .ro, .all⟩], []⟩,
  ⟨"METR_CAL_GAIN", 0xD1014, [(0x20, 48)], 0x0,
    [⟨0, 32, .rws, .metr⟩], []⟩,
  ⟨"METR_CAL_OFS", 0xD1018, [(0x20, 48)], 0x0,
    [⟨0, 32, .rws, .metr⟩], [⟨0, 32, true, -8388608, 8388607⟩]⟩,
  ⟨"METR_CAL_PH", 0xD101C, [(0x20, 48)], 0x0,
    [⟨16, 16, .rws, .metr⟩, ⟨0, 16, .rws, .metr⟩], [⟨16, 16, false, 10, 500⟩, ⟨0, 16, true, -31250, 31250⟩]⟩,
  ⟨"METR_TC", 0xD2000, [(0x80, 48), (0x8, 16)], 0x80000000,
    [⟨16, 16, .rws, .metr⟩, ⟨0, 16, .rws, .metr⟩], []⟩,
  ⟨"METR_TCP", 0xD2004, [(0x80, 48), (0x8, 16)], 0x0,
    [⟨0, 16, .rws, .metr⟩], []⟩,
  ⟨"METR_HARM_SEL", 0xD4000, [], 0x0,
    [⟨0, 6, .rw, .all⟩], []⟩,
  ⟨"METR_HARM_STAT", 0xD4004, [], 0x0,
    [⟨16, 16, .ro, .all⟩, ⟨0, 16, .ro, .all⟩], []⟩,
  ⟨"METR_HARM", 0xD4100, [(0x4, 128)], 0x0,
    [⟨16, 16, .ro, .all⟩, ⟨0, 16, .ro, .all⟩], []⟩]

/-- The registers of block METR (R750, index 0x0D). -/
def regsMETR : List RegSpec := regsMETR0 ++ regsMETR1 ++ regsMETR2

/-- Block BILL, part 0: the registers of its chapter, field by field. -/
def regsBILL0 : List RegSpec := [
  ⟨"BILL_STAT", 0xE0000, [], 0x0,
    [⟨28, 3, .ro, .all⟩, ⟨26, 2, .ro, .all⟩, ⟨23, 3, .ro, .all⟩, ⟨19, 4, .ro, .all⟩, ⟨18, 1, .ro, .all⟩, ⟨17, 1, .ro, .all⟩, ⟨16, 1, .ro, .all⟩, ⟨0, 16, .ro, .all⟩], []⟩,
  ⟨"BILL_CTRL", 0xE0004, [], 0x0,
    [⟨0, 1, .w1s, .svc⟩], []⟩,
  ⟨"BILL_DEM_CFG", 0xE0008, [], 0x1000F,
    [⟨16, 5, .rwt, .svc⟩, ⟨0, 8, .rwt, .svc⟩], [⟨16, 5, false, 0, 28⟩]⟩,
  ⟨"BILL_DEM_END_LO", 0xE0010, [], 0x0,
    [⟨0, 32, .ro, .all⟩], []⟩,
  ⟨"BILL_DEM_END_HI", 0xE0014, [], 0x0,
    [⟨0, 32, .ro, .all⟩], []⟩,
  ⟨"BILL_PWR", 0xE0018, [], 0x0,
    [⟨16, 16, .ro, .all⟩, ⟨0, 16, .ro, .all⟩], []⟩,
  ⟨"BILL_PWR_TS_LO", 0xE001C, [], 0x0,
    [⟨0, 32, .ro, .all⟩], []⟩,
  ⟨"BILL_PWR_TS_HI", 0xE0020, [], 0x0,
    [⟨0, 32, .ro, .all⟩], []⟩,
  ⟨"BILL_SEASON", 0xE2000, [(0x4, 4)], 0x0,
    [⟨31, 1, .rwt, .svc⟩, ⟨16, 4, .rwt, .svc⟩, ⟨8, 5, .rwt, .svc⟩, ⟨0, 3, .rwt, .svc⟩], [⟨16, 4, false, 0, 12⟩, ⟨8, 5, false, 0, 31⟩]⟩,
  ⟨"BILL_WEEK", 0xE2010, [(0x4, 8)], 0x0,
    [⟨0, 28, .rwt, .svc⟩], []⟩,
  ⟨"BILL_SPECIAL", 0xE2500, [(0x4, 64)], 0x0,
    [⟨31, 1, .rwt, .svc⟩, ⟨24, 7, .rwt, .svc⟩, ⟨16, 4, .rwt, .svc⟩, ⟨8, 5, .rwt, .svc⟩, ⟨0, 4, .rwt, .svc⟩], [⟨16, 4, false, 0, 12⟩, ⟨8, 5, false, 0, 31⟩]⟩,
  ⟨"BILL_DAY", 0xE2100, [(0x40, 16), (0x4, 12)], 0x0,
    [⟨31, 1, .rwt, .svc⟩, ⟨16, 11, .rwt, .svc⟩, ⟨0, 3, .rwt, .svc⟩], [⟨16, 11, false, 0, 1439⟩]⟩]

/-- Block BILL, part 1: the registers of its chapter, field by field. -/
def regsBILL1 : List RegSpec := [
  ⟨"BILL_DISP_CFG", 0xE2600, [(0x20, 8)], 0x10050000,
    [⟨28, 4, .rwt, .svc⟩, ⟨16, 8, .rwt, .svc⟩], [⟨28, 4, false, 0, 8⟩, ⟨16, 8, false, 2, 60⟩]⟩,
  ⟨"BILL_DISP_ITEMS", 0xE2604, [(0x20, 8), (0x4, 4)], 0x0,
    [⟨0, 32, .rwt, .svc⟩], []⟩,
  ⟨"BILL_TAMP_CNT", 0xE3000, [(0x20, 24)], 0x0,
    [⟨0, 32, .ro, .all⟩], []⟩,
  ⟨"BILL_TAMP_FIRST_LO", 0xE3004, [(0x20, 24)], 0x0,
    [⟨0, 32, .ro, .all⟩], []⟩,
  ⟨"BILL_TAMP_FIRST_HI", 0xE3008, [(0x20, 24)], 0x0,
    [⟨0, 32, .ro, .all⟩], []⟩,
  ⟨"BILL_TAMP_LAST_LO", 0xE300C, [(0x20, 24)], 0x0,
    [⟨0, 32, .ro, .all⟩], []⟩,
  ⟨"BILL_TAMP_LAST_HI", 0xE3010, [(0x20, 24)], 0x0,
    [⟨0, 32, .ro, .all⟩], []⟩,
  ⟨"BILL_REC_SEL", 0xE4000, [], 0x0,
    [⟨30, 2, .rw, .all⟩, ⟨0, 24, .rw, .all⟩], []⟩,
  ⟨"BILL_REC_STAT", 0xE4004, [], 0x0,
    [⟨31, 1, .ro, .all⟩, ⟨30, 1, .ro, .all⟩, ⟨0, 11, .ro, .all⟩], []⟩,
  ⟨"BILL_REC_NEXT", 0xE4008, [], 0x0,
    [⟨16, 16, .ro, .all⟩, ⟨0, 16, .ro, .all⟩], []⟩,
  ⟨"BILL_E", 0xE1000, [(0x100, 9), (0x4, 59)], 0x0,
    [⟨0, 32, .ro, .all⟩], []⟩]

/-- The registers of block BILL (R750, index 0x0E). -/
def regsBILL : List RegSpec := regsBILL0 ++ regsBILL1

/-- Block ACQ, part 0: the registers of its chapter, field by field. -/
def regsACQ0 : List RegSpec := [
  ⟨"ACQ_STAT", 0xF0000, [], 0x10000000,
    [⟨24, 8, .ro, .all⟩, ⟨0, 16, .ro, .all⟩], []⟩,
  ⟨"ACQ_STORE", 0xF0004, [], 0x0,
    [⟨16, 16, .ro, .all⟩, ⟨0, 16, .ro, .all⟩], []⟩,
  ⟨"ACQ_CMD_ALL", 0xF0008, [], 0x0,
    [⟨16, 16, .w1s, .op⟩, ⟨0, 16, .w1s, .op⟩], []⟩,
  ⟨"ACQ_CLR", 0xF000C, [], 0x0,
    [⟨0, 1, .wo, .op⟩], []⟩,
  ⟨"ACQ_RD_SEL", 0xF0010, [], 0x0,
    [⟨28, 4, .rw, .all⟩, ⟨0, 24, .rw, .all⟩], []⟩,
  ⟨"ACQ_RD_OFS", 0xF0014, [], 0x0,
    [⟨15, 13, .rw, .all⟩], []⟩,
  ⟨"ACQ_RD_STAT", 0xF0018, [], 0x0,
    [⟨31, 1, .ro, .all⟩, ⟨30, 1, .ro, .all⟩, ⟨29, 1, .ro, .all⟩, ⟨0, 28, .ro, .all⟩], []⟩,
  ⟨"ACQ_E_STAT", 0xF1000, [(0x100, 16)], 0xFFFFFF,
    [⟨28, 4, .ro, .all⟩, ⟨0, 24, .ro, .all⟩], []⟩,
  ⟨"ACQ_E_CTRL", 0xF1004, [(0x100, 16)], 0x0,
    [⟨3, 1, .w1s, .op⟩, ⟨2, 1, .w1s, .op⟩, ⟨1, 1, .w1s, .op⟩, ⟨0, 1, .w1s, .op⟩], []⟩,
  ⟨"ACQ_E_CFG", 0xF1008, [(0x100, 16)], 0x0,
    [⟨24, 8, .rwt, .svc⟩, ⟨22, 2, .rwt, .svc⟩, ⟨21, 1, .rwt, .svc⟩, ⟨20, 1, .rwt, .svc⟩, ⟨16, 4, .rwt, .svc⟩, ⟨0, 16, .rwt, .svc⟩], [⟨0, 16, false, 0, 65535⟩]⟩,
  ⟨"ACQ_E_RATE", 0xF100C, [(0x100, 16)], 0x0,
    [⟨31, 1, .rwt, .svc⟩, ⟨0, 16, .rwt, .svc⟩], [⟨0, 16, false, 1, 65535⟩]⟩,
  ⟨"ACQ_E_PRE", 0xF1010, [(0x100, 16)], 0x0,
    [⟨0, 32, .rwt, .svc⟩], [⟨0, 32, false, 0, 16777215⟩]⟩]

/-- Block ACQ, part 1: the registers of its chapter, field by field. -/
def regsACQ1 : List RegSpec := [
  ⟨"ACQ_E_POST", 0xF1014, [(0x100, 16)], 0x0,
    [⟨0, 32, .rwt, .svc⟩], [⟨0, 32, false, 1, 4294967295⟩]⟩,
  ⟨"ACQ_E_CNT", 0xF1018, [(0x100, 16)], 0x0,
    [⟨16, 16, .ro, .all⟩, ⟨0, 16, .ro, .all⟩], []⟩,
  ⟨"ACQ_E_PART", 0xF101C, [(0x100, 16)], 0x0,
    [⟨16, 16, .ro, .all⟩, ⟨0, 16, .ro, .all⟩], []⟩,
  ⟨"ACQ_E_TTIME_LO", 0xF1020, [(0x100, 16)], 0x0,
    [⟨0, 32, .rwt, .op⟩], []⟩,
  ⟨"ACQ_E_TTIME_HI", 0xF1024, [(0x100, 16)], 0x0,
    [⟨0, 32, .rwt, .op⟩], []⟩,
  ⟨"ACQ_E_TSEQ", 0xF1028, [(0x100, 16)], 0x0,
    [⟨8, 24, .rwt, .svc⟩], []⟩,
  ⟨"ACQ_E_TU", 0xF1040, [(0x100, 16), (0x10, 4)], 0x0,
    [⟨28, 4, .ro, .all⟩, ⟨24, 4, .ro, .all⟩, ⟨20, 4, .ro, .all⟩, ⟨0, 20, .ro, .all⟩], []⟩,
  ⟨"ACQ_E_TID", 0xF1044, [(0x100, 16), (0x10, 4)], 0x0,
    [⟨31, 1, .ro, .all⟩, ⟨0, 29, .ro, .all⟩], []⟩,
  ⟨"ACQ_E_TLVL", 0xF1048, [(0x100, 16), (0x10, 4)], 0x0,
    [⟨0, 32, .rwt, .svc⟩], []⟩,
  ⟨"ACQ_E_TAUX", 0xF104C, [(0x100, 16), (0x10, 4)], 0x0,
    [⟨0, 32, .rwt, .svc⟩], []⟩]

/-- The registers of block ACQ (R750, index 0x0F). -/
def regsACQ : List RegSpec := regsACQ0 ++ regsACQ1

/-- Block CAN, part 0: the registers of its chapter, field by field. -/
def regsCAN0 : List RegSpec := [
  ⟨"CAN_STAT", 0x100000, [(0x4000, 4)], 0x0,
    [⟨28, 4, .ro, .all⟩, ⟨26, 2, .ro, .all⟩, ⟨16, 8, .ro, .all⟩, ⟨8, 8, .ro, .all⟩], []⟩,
  ⟨"CAN_CTRL", 0x100004, [(0x4000, 4)], 0x0,
    [⟨3, 1, .w1s, .op⟩, ⟨2, 1, .w1s, .op⟩, ⟨1, 1, .w1s, .op⟩, ⟨0, 1, .w1s, .op⟩], []⟩,
  ⟨"CAN_NBT", 0x100008, [(0x4000, 4)], 0x0,
    [⟨24, 8, .rwt, .svc⟩, ⟨16, 8, .rwt, .svc⟩, ⟨8, 7, .rwt, .svc⟩, ⟨0, 7, .rwt, .svc⟩], []⟩,
  ⟨"CAN_DBT", 0x10000C, [(0x4000, 4)], 0x0,
    [⟨27, 5, .rwt, .svc⟩, ⟨19, 8, .rwt, .svc⟩, ⟨13, 6, .rwt, .svc⟩, ⟨7, 6, .rwt, .svc⟩, ⟨0, 7, .rwt, .svc⟩], []⟩,
  ⟨"CAN_CFG", 0x100010, [(0x4000, 4)], 0x0,
    [⟨30, 2, .ro, .all⟩, ⟨16, 12, .ro, .all⟩, ⟨8, 8, .ro, .all⟩, ⟨0, 8, .ro, .all⟩], []⟩,
  ⟨"CAN_ERR", 0x100014, [(0x4000, 4)], 0x0,
    [⟨23, 9, .ro, .all⟩, ⟨15, 8, .ro, .all⟩, ⟨0, 3, .ro, .all⟩], []⟩,
  ⟨"CAN_RECOV", 0x100018, [(0x4000, 4)], 0x0,
    [⟨8, 8, .rwt, .svc⟩], []⟩,
  ⟨"CAN_WIRE", 0x10001C, [(0x4000, 4)], 0x0,
    [⟨0, 6, .ro, .all⟩], []⟩,
  ⟨"CAN_WAKE_CFG", 0x100020, [(0x4000, 4)], 0x0,
    [⟨30, 2, .rwt, .svc⟩, ⟨29, 1, .rwt, .svc⟩, ⟨0, 29, .rwt, .svc⟩], []⟩,
  ⟨"CAN_WAKE_MASK", 0x100024, [(0x4000, 4)], 0x0,
    [⟨0, 29, .rwt, .svc⟩], []⟩,
  ⟨"CAN_WAKE_DATA_LO", 0x100028, [(0x4000, 4)], 0x0,
    [⟨0, 32, .rwt, .svc⟩], []⟩,
  ⟨"CAN_WAKE_DATA_HI", 0x10002C, [(0x4000, 4)], 0x0,
    [⟨0, 32, .rwt, .svc⟩], []⟩]

/-- Block CAN, part 1: the registers of its chapter, field by field. -/
def regsCAN1 : List RegSpec := [
  ⟨"CAN_WAKE_STAT", 0x100030, [(0x4000, 4)], 0x0,
    [⟨30, 2, .ro, .all⟩, ⟨29, 1, .ro, .all⟩, ⟨0, 29, .ro, .all⟩], []⟩,
  ⟨"CAN_CNT", 0x100034, [(0x4000, 4)], 0x0,
    [⟨16, 16, .ro, .all⟩, ⟨0, 16, .ro, .all⟩], []⟩,
  ⟨"CAN_CNT2", 0x100038, [(0x4000, 4)], 0x0,
    [⟨24, 8, .ro, .all⟩, ⟨16, 8, .ro, .all⟩, ⟨0, 16, .ro, .all⟩], []⟩,
  ⟨"CAN_CNT3", 0x10003C, [(0x4000, 4)], 0x0,
    [⟨16, 16, .ro, .all⟩, ⟨0, 16, .ro, .all⟩], []⟩,
  ⟨"CAN_CLR", 0x100040, [(0x4000, 4)], 0x0,
    [⟨0, 1, .wo, .op⟩], []⟩,
  ⟨"CAN_PORT_CFG", 0x100100, [(0x4000, 4), (0x20, 16)], 0x0,
    [⟨28, 4, .ro, .all⟩, ⟨26, 2, .ro, .all⟩, ⟨24, 2, .ro, .all⟩, ⟨23, 1, .ro, .all⟩, ⟨0, 16, .ro, .all⟩], []⟩,
  ⟨"CAN_PORT_ID", 0x100104, [(0x4000, 4), (0x20, 16)], 0x0,
    [⟨31, 1, .rw, .op⟩, ⟨30, 1, .rw, .op⟩, ⟨29, 1, .rw, .op⟩, ⟨0, 29, .rw, .op⟩], []⟩,
  ⟨"CAN_PORT_SEND", 0x100108, [(0x4000, 4), (0x20, 16)], 0x0,
    [⟨30, 2, .wo, .op⟩, ⟨0, 12, .wo, .op⟩], []⟩,
  ⟨"CAN_PORT_STAT", 0x10010C, [(0x4000, 4), (0x20, 16)], 0x0,
    [⟨26, 6, .ro, .all⟩, ⟨0, 16, .ro, .all⟩], []⟩,
  ⟨"CAN_PORT_LAT", 0x100110, [(0x4000, 4), (0x20, 16)], 0x0,
    [⟨16, 16, .ro, .all⟩, ⟨0, 16, .ro, .all⟩], []⟩,
  ⟨"CAN_PORT_CNT", 0x100114, [(0x4000, 4), (0x20, 16)], 0x0,
    [⟨16, 16, .ro, .all⟩, ⟨0, 16, .ro, .all⟩], []⟩,
  ⟨"CAN_RX_SEL", 0x100300, [(0x4000, 4)], 0x0,
    [⟨31, 1, .rw, .all⟩, ⟨0, 10, .rw, .all⟩], []⟩]

/-- Block CAN, part 2: the registers of its chapter, field by field. -/
def regsCAN2 : List RegSpec := [
  ⟨"CAN_RX_HDR", 0x100304, [(0x4000, 4)], 0x0,
    [⟨31, 1, .ro, .all⟩, ⟨30, 1, .ro, .all⟩, ⟨29, 1, .ro, .all⟩, ⟨0, 29, .ro, .all⟩], []⟩,
  ⟨"CAN_RX_INFO", 0x100308, [(0x4000, 4)], 0x0,
    [⟨30, 2, .ro, .all⟩, ⟨29, 1, .ro, .all⟩, ⟨28, 1, .ro, .all⟩, ⟨12, 4, .ro, .all⟩, ⟨0, 12, .ro, .all⟩], []⟩,
  ⟨"CAN_RX_TS_LO", 0x10030C, [(0x4000, 4)], 0x0,
    [⟨0, 32, .ro, .all⟩], []⟩,
  ⟨"CAN_RX_TS_HI", 0x100310, [(0x4000, 4)], 0x0,
    [⟨0, 32, .ro, .all⟩], []⟩,
  ⟨"CAN_STAGING", 0x101000, [(0x4000, 4), (0x4, 256)], 0x0,
    [⟨0, 32, .rw, .op⟩], []⟩,
  ⟨"CAN_XL_WIN", 0x102000, [(0x4000, 4), (0x4, 512)], 0x0,
    [⟨0, 32, .rw, .op⟩], []⟩,
  ⟨"CAN_RX_WIN", 0x103000, [(0x4000, 4), (0x4, 512)], 0x0,
    [⟨0, 32, .ro, .all⟩], []⟩]

/-- The registers of block CAN (R750, index 0x10). -/
def regsCAN : List RegSpec := regsCAN0 ++ regsCAN1 ++ regsCAN2

/-- Block LSW, part 0: the registers of its chapter, field by field. -/
def regsLSW0 : List RegSpec := [
  ⟨"LSW_STAT", 0x110000, [], 0x0,
    [⟨31, 1, .ro, .all⟩, ⟨30, 1, .ro, .all⟩, ⟨29, 1, .ro, .all⟩, ⟨28, 1, .ro, .all⟩, ⟨27, 1, .ro, .all⟩, ⟨26, 1, .ro, .all⟩, ⟨25, 1, .ro, .all⟩, ⟨0, 24, .ro, .all⟩], []⟩,
  ⟨"LSW_FAULT", 0x110004, [], 0x0,
    [⟨0, 24, .ro, .all⟩], []⟩,
  ⟨"LSW_VAUX", 0x110008, [], 0x0,
    [⟨16, 16, .ro, .all⟩, ⟨0, 16, .ro, .all⟩], []⟩,
  ⟨"LSW_PKG", 0x11000C, [], 0x0,
    [⟨16, 16, .ro, .all⟩, ⟨0, 16, .ro, .all⟩], []⟩,
  ⟨"LSW_FOGIN", 0x110010, [], 0x0,
    [⟨8, 1, .ro, .all⟩, ⟨0, 8, .ro, .all⟩], []⟩,
  ⟨"LSW_SNS_SEL", 0x110014, [], 0x0,
    [⟨8, 3, .rw, .op⟩, ⟨4, 3, .rw, .op⟩, ⟨0, 3, .rw, .op⟩], []⟩,
  ⟨"LSW_CLR", 0x110018, [], 0x0,
    [⟨0, 1, .wo, .op⟩], []⟩,
  ⟨"LSW_CFG", 0x111000, [(0x20, 24)], 0x0,
    [⟨31, 1, .ro, .all⟩, ⟨28, 3, .ro, .all⟩, ⟨27, 1, .ro, .all⟩, ⟨23, 4, .ro, .all⟩, ⟨22, 1, .ro, .all⟩, ⟨19, 3, .ro, .all⟩, ⟨15, 4, .ro, .all⟩, ⟨14, 1, .ro, .all⟩], []⟩,
  ⟨"LSW_CTRL", 0x111004, [(0x20, 24)], 0x0,
    [⟨2, 1, .w1s, .op⟩, ⟨1, 1, .w1s, .op⟩, ⟨0, 1, .w1s, .op⟩], []⟩,
  ⟨"LSW_CH_STAT", 0x111008, [(0x20, 24)], 0x0,
    [⟨28, 4, .ro, .all⟩, ⟨24, 4, .ro, .all⟩, ⟨23, 1, .ro, .all⟩, ⟨22, 1, .ro, .all⟩, ⟨21, 1, .ro, .all⟩, ⟨20, 1, .ro, .all⟩, ⟨19, 1, .ro, .all⟩, ⟨18, 1, .ro, .all⟩, ⟨17, 1, .ro, .all⟩, ⟨16, 1, .ro, .all⟩, ⟨13, 3, .ro, .all⟩], []⟩,
  ⟨"LSW_MEAS", 0x11100C, [(0x20, 24)], 0x0,
    [⟨16, 16, .ro, .all⟩, ⟨0, 16, .ro, .all⟩], []⟩,
  ⟨"LSW_LIM", 0x111010, [(0x20, 24)], 0x12C0384,
    [⟨16, 16, .rwt, .svc⟩, ⟨0, 16, .rwt, .svc⟩], []⟩]

/-- Block LSW, part 1: the registers of its chapter, field by field. -/
def regsLSW1 : List RegSpec := [
  ⟨"LSW_TIME", 0x111014, [(0x20, 24)], 0xA0A0A19,
    [⟨24, 8, .rwt, .svc⟩, ⟨16, 8, .rwt, .svc⟩, ⟨8, 8, .rwt, .svc⟩, ⟨0, 8, .rwt, .svc⟩], [⟨24, 8, false, 1, 100⟩, ⟨16, 8, false, 1, 255⟩, ⟨8, 8, false, 1, 255⟩, ⟨0, 8, false, 1, 100⟩]⟩,
  ⟨"LSW_CLAMP", 0x111018, [(0x20, 24)], 0x0,
    [⟨16, 16, .ro, .all⟩, ⟨0, 16, .ro, .all⟩], []⟩,
  ⟨"LSW_CNT", 0x11101C, [(0x20, 24)], 0x0,
    [⟨24, 8, .ro, .all⟩, ⟨16, 8, .ro, .all⟩, ⟨8, 8, .ro, .all⟩, ⟨0, 8, .ro, .all⟩], []⟩]

/-- The registers of block LSW (R750, index 0x11). -/
def regsLSW : List RegSpec := regsLSW0 ++ regsLSW1

/-- Block MEM, part 0: the registers of its chapter, field by field. -/
def regsMEM0 : List RegSpec := [
  ⟨"MEM_STAT", 0x120000, [], 0x0,
    [⟨28, 4, .ro, .all⟩, ⟨27, 1, .ro, .all⟩, ⟨26, 1, .ro, .all⟩, ⟨25, 1, .ro, .all⟩, ⟨8, 8, .ro, .all⟩, ⟨0, 8, .ro, .all⟩], []⟩,
  ⟨"MEM_LC_CTRL", 0x120004, [], 0x0,
    [⟨16, 16, .wo, .svc⟩, ⟨3, 1, .wo, .svc⟩, ⟨0, 3, .wo, .svc⟩], []⟩,
  ⟨"MEM_CTRL", 0x120008, [], 0x0,
    [⟨0, 1, .w1s, .svc⟩], []⟩,
  ⟨"MEM_WIPE_CFG", 0x12000C, [], 0x0,
    [⟨0, 4, .rw, .svc⟩], []⟩,
  ⟨"MEM_SEC", 0x120010, [], 0x0,
    [⟨28, 4, .ro, .all⟩, ⟨0, 16, .ro, .all⟩], []⟩,
  ⟨"MEM_SEC_TS_LO", 0x120014, [], 0x0,
    [⟨0, 32, .ro, .all⟩], []⟩,
  ⟨"MEM_SEC_TS_HI", 0x120018, [], 0x0,
    [⟨0, 32, .ro, .all⟩], []⟩,
  ⟨"MEM_ECC", 0x120020, [(0x4, 3)], 0x0,
    [⟨16, 16, .ro, .all⟩, ⟨0, 16, .ro, .all⟩], []⟩,
  ⟨"MEM_ECC_ADDR", 0x12002C, [], 0x0,
    [⟨0, 32, .ro, .all⟩], []⟩,
  ⟨"MEM_COLL", 0x120030, [], 0x0,
    [⟨0, 32, .ro, .all⟩], []⟩,
  ⟨"MEM_DRAM_MAP", 0x120034, [], 0x0,
    [⟨24, 8, .ro, .all⟩, ⟨16, 8, .ro, .all⟩, ⟨8, 8, .ro, .all⟩], []⟩,
  ⟨"MEM_MRAM", 0x120038, [], 0x0,
    [⟨16, 16, .ro, .all⟩, ⟨0, 16, .ro, .all⟩], []⟩]

/-- Block MEM, part 1: the registers of its chapter, field by field. -/
def regsMEM1 : List RegSpec := [
  ⟨"MEM_CLR", 0x120040, [], 0x0,
    [⟨0, 1, .wo, .op⟩], []⟩]

/-- The registers of block MEM (R750, index 0x12). -/
def regsMEM : List RegSpec := regsMEM0 ++ regsMEM1

/-- Block PWR, part 0: the registers of its chapter, field by field. -/
def regsPWR0 : List RegSpec := [
  ⟨"PWR_STAT", 0x130000, [], 0xFFFF,
    [⟨28, 4, .ro, .all⟩, ⟨24, 4, .ro, .all⟩, ⟨23, 1, .ro, .all⟩, ⟨22, 1, .ro, .all⟩, ⟨21, 1, .ro, .all⟩, ⟨20, 1, .ro, .all⟩, ⟨19, 1, .ro, .all⟩, ⟨18, 1, .ro, .all⟩, ⟨0, 16, .ro, .all⟩], []⟩,
  ⟨"PWR_CFG", 0x130004, [], 0x3C000007,
    [⟨24, 8, .rw, .svc⟩, ⟨16, 1, .rw, .svc⟩, ⟨0, 5, .rw, .svc⟩], [⟨24, 8, false, 1, 255⟩]⟩,
  ⟨"PWR_RESET", 0x130008, [], 0x0,
    [⟨16, 16, .wo, .svc⟩], []⟩,
  ⟨"PWR_RST", 0x13000C, [], 0x0,
    [⟨28, 4, .ro, .all⟩, ⟨24, 4, .ro, .all⟩, ⟨0, 16, .ro, .all⟩], []⟩,
  ⟨"PWR_RST_TS_LO", 0x130010, [], 0x0,
    [⟨0, 32, .ro, .all⟩], []⟩,
  ⟨"PWR_RST_TS_HI", 0x130014, [], 0x0,
    [⟨0, 32, .ro, .all⟩], []⟩,
  ⟨"PWR_SUPPLY", 0x130018, [], 0x0,
    [⟨16, 16, .ro, .all⟩, ⟨0, 16, .ro, .all⟩], []⟩,
  ⟨"PWR_LOAD", 0x13001C, [], 0x0,
    [⟨16, 16, .ro, .all⟩, ⟨0, 16, .ro, .all⟩], []⟩,
  ⟨"PWR_TEMP", 0x130020, [], 0x0,
    [⟨16, 16, .ro, .all⟩, ⟨0, 16, .ro, .all⟩], []⟩,
  ⟨"PWR_TEMP2", 0x130024, [], 0x0,
    [⟨16, 16, .ro, .all⟩, ⟨0, 16, .ro, .all⟩], []⟩,
  ⟨"PWR_DEFER_CFG", 0x130028, [], 0x73,
    [⟨0, 8, .rw, .svc⟩], [⟨0, 8, false, 95, 125⟩]⟩,
  ⟨"PWR_WAKE_CFG", 0x13002C, [], 0x1F000,
    [⟨16, 1, .rw, .svc⟩, ⟨15, 1, .rw, .svc⟩, ⟨14, 1, .rw, .svc⟩, ⟨13, 1, .rw, .svc⟩, ⟨12, 1, .rw, .svc⟩, ⟨8, 4, .rw, .svc⟩, ⟨0, 8, .rw, .svc⟩], []⟩]

/-- Block PWR, part 1: the registers of its chapter, field by field. -/
def regsPWR1 : List RegSpec := [
  ⟨"PWR_WAKE_STAT", 0x130030, [], 0x0,
    [⟨28, 4, .ro, .all⟩, ⟨24, 4, .ro, .all⟩], []⟩,
  ⟨"PWR_ALARM_LO", 0x130034, [], 0x0,
    [⟨0, 32, .rw, .svc⟩], []⟩,
  ⟨"PWR_ALARM_HI", 0x130038, [], 0x0,
    [⟨0, 32, .rw, .svc⟩], []⟩,
  ⟨"PWR_START", 0x13003C, [], 0x0,
    [⟨16, 16, .ro, .all⟩, ⟨0, 16, .ro, .all⟩], []⟩,
  ⟨"PWR_CNT", 0x130040, [], 0x0,
    [⟨24, 8, .ro, .all⟩, ⟨16, 8, .ro, .all⟩, ⟨8, 8, .ro, .all⟩, ⟨0, 8, .ro, .all⟩], []⟩,
  ⟨"PWR_CLR", 0x130044, [], 0x0,
    [⟨0, 1, .wo, .op⟩], []⟩,
  ⟨"PWR_SIDE_RST", 0x130048, [(0x4, 2)], 0x0,
    [⟨28, 4, .ro, .all⟩, ⟨0, 16, .ro, .all⟩], []⟩,
  ⟨"PWR_LTR", 0x130100, [(0x4, 8)], 0xFFFF,
    [⟨31, 1, .rw, .op⟩, ⟨16, 12, .rw, .op⟩, ⟨0, 16, .rw, .op⟩], []⟩,
  ⟨"PWR_WAKE_THR", 0x130140, [(0x4, 8)], 0x50000,
    [⟨30, 2, .rw, .svc⟩, ⟨29, 1, .ro, .svc⟩, ⟨16, 8, .rw, .svc⟩, ⟨0, 12, .rw, .svc⟩], []⟩]

/-- The registers of block PWR (R750, index 0x13). -/
def regsPWR : List RegSpec := regsPWR0 ++ regsPWR1

/-- Block HOST, part 0: the registers of its chapter, field by field. -/
def regsHOST0 : List RegSpec := [
  ⟨"HOST_STAT", 0x140000, [], 0x0,
    [⟨31, 1, .ro, .op⟩, ⟨30, 1, .ro, .op⟩, ⟨29, 1, .w1c, .op⟩, ⟨28, 1, .w1c, .op⟩, ⟨12, 13, .ro, .op⟩], []⟩,
  ⟨"HOST_CFG", 0x140004, [], 0xA200A10,
    [⟨24, 8, .rw, .svc⟩, ⟨18, 6, .rw, .svc⟩, ⟨17, 1, .rw, .svc⟩, ⟨16, 1, .rw, .svc⟩, ⟨8, 8, .rw, .svc⟩, ⟨4, 1, .rw, .svc⟩, ⟨2, 2, .ro, .svc⟩, ⟨0, 2, .ro, .svc⟩], [⟨18, 6, false, 8, 32⟩]⟩,
  ⟨"HOST_PCI_ID", 0x140008, [], 0x96480000,
    [⟨16, 16, .ro, .all⟩, ⟨0, 16, .ro, .all⟩], []⟩,
  ⟨"HOST_IRQ_CFG", 0x140010, [(0x4, 4)], 0x0,
    [⟨31, 1, .rw, .op⟩, ⟨16, 8, .rw, .op⟩, ⟨8, 8, .rw, .op⟩, ⟨0, 8, .rw, .op⟩], []⟩,
  ⟨"HOST_IRQ_STAT", 0x140020, [], 0x0,
    [⟨0, 4, .ro, .all⟩], []⟩,
  ⟨"HOST_MGMT", 0x140024, [], 0x0,
    [⟨24, 8, .ro, .all⟩, ⟨16, 8, .ro, .all⟩, ⟨0, 16, .ro, .all⟩], []⟩,
  ⟨"HOST_CNT", 0x140028, [], 0x0,
    [⟨16, 16, .ro, .all⟩, ⟨0, 16, .ro, .all⟩], []⟩,
  ⟨"HOST_CLR", 0x14002C, [], 0x0,
    [⟨0, 1, .wo, .op⟩], []⟩,
  ⟨"HOST_FW_STAT", 0x140040, [], 0x0,
    [⟨30, 2, .ro, .all⟩, ⟨28, 2, .ro, .all⟩, ⟨27, 1, .ro, .all⟩, ⟨26, 1, .ro, .all⟩, ⟨25, 1, .ro, .all⟩, ⟨24, 1, .ro, .all⟩, ⟨23, 1, .ro, .all⟩, ⟨8, 8, .ro, .all⟩], []⟩,
  ⟨"HOST_FW_CTRL", 0x140044, [], 0x0,
    [⟨0, 4, .wo, .svc⟩], []⟩,
  ⟨"HOST_FW_OFS", 0x140048, [], 0x0,
    [⟨15, 9, .rw, .svc⟩], []⟩,
  ⟨"HOST_FW_VER", 0x14004C, [(0x4, 2)], 0x0,
    [⟨0, 32, .ro, .all⟩], []⟩]

/-- Block HOST, part 1: the registers of its chapter, field by field. -/
def regsHOST1 : List RegSpec := [
  ⟨"HOST_FW_SVN", 0x140054, [], 0x0,
    [⟨8, 6, .ro, .all⟩, ⟨0, 6, .ro, .all⟩], []⟩]

/-- The registers of block HOST (R750, index 0x14). -/
def regsHOST : List RegSpec := regsHOST0 ++ regsHOST1

/-- Block QSET, part 0: the registers of its chapter, field by field. -/
def regsQSET0 : List RegSpec := [
  ⟨"QSET_STAT", 0x150000, [], 0x7F0000,
    [⟨24, 8, .ro, .op⟩, ⟨16, 7, .ro, .op⟩, ⟨1, 1, .w1c, .op⟩, ⟨0, 1, .ro, .op⟩], []⟩,
  ⟨"QSET_LATCH", 0x150010, [(0x4, 4)], 0x0,
    [⟨0, 32, .ro, .all⟩], []⟩,
  ⟨"QSET_ACTIVE", 0x150020, [(0x4, 4)], 0x0,
    [⟨0, 32, .ro, .all⟩], []⟩,
  ⟨"QSET_CLR", 0x150030, [(0x4, 4)], 0x0,
    [⟨0, 32, .wo, .op⟩], []⟩,
  ⟨"QSET_REFUSED", 0x150040, [(0x4, 4)], 0x0,
    [⟨0, 32, .ro, .all⟩], []⟩,
  ⟨"QSET_FORCE", 0x150050, [], 0x0,
    [⟨0, 8, .w1s, .op⟩], []⟩,
  ⟨"QSET_FIRST_TS_LO", 0x150054, [], 0x0,
    [⟨0, 32, .ro, .all⟩], []⟩,
  ⟨"QSET_FIRST_TS_HI", 0x150058, [], 0x0,
    [⟨0, 32, .ro, .all⟩], []⟩,
  ⟨"QSET_COUNT", 0x15005C, [], 0x0,
    [⟨0, 32, .ro, .all⟩], []⟩,
  ⟨"QSET_MAP", 0x150200, [(0x4, 117)], 0x0,
    [⟨31, 1, .ro, .all⟩, ⟨8, 1, .ro, .all⟩, ⟨0, 8, .ro, .all⟩], []⟩]

/-- The registers of block QSET (R750, index 0x15). -/
def regsQSET : List RegSpec := regsQSET0

/-- Block FAST, part 0: the registers of its chapter, field by field. -/
def regsFAST0 : List RegSpec := [
  ⟨"FAST_STAT", 0x160000, [], 0x0,
    [⟨0, 32, .ro, .all⟩], []⟩,
  ⟨"FAST_CLR", 0x160004, [], 0x0,
    [⟨0, 1, .wo, .op⟩], []⟩,
  ⟨"FAST_CFG", 0x161000, [(0x10, 32)], 0x0,
    [⟨31, 1, .ro, .all⟩, ⟨30, 1, .ro, .all⟩, ⟨0, 16, .ro, .all⟩], []⟩,
  ⟨"FAST_WIN", 0x161004, [(0x10, 32)], 0x0,
    [⟨16, 16, .ro, .all⟩, ⟨0, 16, .ro, .all⟩], []⟩,
  ⟨"FAST_VAL", 0x161008, [(0x10, 32)], 0x0,
    [⟨16, 16, .ro, .all⟩, ⟨0, 16, .ro, .all⟩], []⟩,
  ⟨"FAST_PEAK", 0x16100C, [(0x10, 32)], 0x80007FFF,
    [⟨16, 16, .ro, .all⟩, ⟨0, 16, .ro, .all⟩], []⟩]

/-- The registers of block FAST (R750, index 0x16). -/
def regsFAST : List RegSpec := regsFAST0

/-- Block THERM, part 0: the registers of its chapter, field by field. -/
def regsTHERM0 : List RegSpec := [
  ⟨"THERM_STAT", 0x170000, [], 0x0,
    [⟨0, 32, .ro, .all⟩], []⟩,
  ⟨"THERM_CLR", 0x170004, [], 0x0,
    [⟨0, 1, .wo, .op⟩], []⟩,
  ⟨"THERM_CFG", 0x171000, [(0x10, 32)], 0x0,
    [⟨28, 4, .ro, .svc⟩, ⟨24, 4, .ro, .svc⟩, ⟨16, 2, .ro, .svc⟩, ⟨0, 3, .rwt, .svc⟩], []⟩,
  ⟨"THERM_VAL", 0x171004, [(0x10, 32)], 0x0,
    [⟨16, 16, .ro, .all⟩, ⟨15, 1, .ro, .all⟩, ⟨14, 1, .ro, .all⟩, ⟨13, 1, .ro, .all⟩, ⟨12, 1, .ro, .all⟩], []⟩,
  ⟨"THERM_NTC", 0x171008, [(0x10, 32)], 0x0,
    [⟨16, 16, .ro, .all⟩, ⟨0, 16, .ro, .all⟩], []⟩,
  ⟨"THERM_CNT", 0x17100C, [(0x10, 32)], 0x0,
    [⟨16, 16, .ro, .all⟩, ⟨0, 16, .ro, .all⟩], []⟩]

/-- The registers of block THERM (R750, index 0x17). -/
def regsTHERM : List RegSpec := regsTHERM0

/-- The registers of block index b (R749, R750). -/
def blockRegs : Nat → List RegSpec
  | 0 => regsSYS
  | 1 => regsIMG
  | 2 => regsTIME
  | 3 => regsKEEP
  | 4 => regsLOOP
  | 5 => regsEDGE
  | 6 => regsRING
  | 7 => regsSST
  | 8 => regsOUTS
  | 9 => regsALOC
  | 10 => regsCOOL
  | 11 => regsOUTL
  | 12 => regsSAFE
  | 13 => regsMETR
  | 14 => regsBILL
  | 15 => regsACQ
  | 16 => regsCAN
  | 17 => regsLSW
  | 18 => regsMEM
  | 19 => regsPWR
  | 20 => regsHOST
  | 21 => regsQSET
  | 22 => regsFAST
  | 23 => regsTHERM
  | _ => []

end Sys2Proof.Machine
end

