-- ==== Sys2Proof/Machine/RegNames.lean ====
section
/-! DEFINITION. Names for the registers' addresses (Reg.X) and for the fields' places (Fld.X_F), as the chapters' register
tables give them. Of two tables with one name (LSW_STAT and LSW_STAT_n), the per-channel one is LSW_CH_STAT here. -/

namespace Sys2Proof.Machine

namespace Reg

def SYS_CAP_0 : Nat := 0x8
def SYS_CAP_1 : Nat := 0xC
def TIME_NOW_LO : Nat := 0x20000
def TIME_NOW_HI : Nat := 0x20004
def TIME_MONO_LO : Nat := 0x20008
def TIME_MONO_HI : Nat := 0x2000C
def TIME_STAT : Nat := 0x20010
def TIME_CTRL : Nat := 0x20014
def TIME_RATE : Nat := 0x20018
def TIME_OFFSET : Nat := 0x2001C
def TIME_CYCLE : Nat := 0x20020
def TIME_CYCLE_CNT : Nat := 0x20024
def TIME_TZ : Nat := 0x20028
def TIME_DST (i : Nat) : Nat := 0x2002C + 0x4 * i
def TIME_PPS_CFG : Nat := 0x20034
def TIME_PPS_IN_LO : Nat := 0x20038
def TIME_PPS_IN_HI : Nat := 0x2003C
def TIME_PHY_DLY (i : Nat) : Nat := 0x20040 + 0x4 * i
def TIME_SET_LO : Nat := 0x20048
def TIME_SET_HI : Nat := 0x2004C
def TIME_LEAP (i : Nat) : Nat := 0x20060 + 0x4 * i
def TIME_QUEUE_SEL : Nat := 0x20100
def TIME_QUEUE_STAT : Nat := 0x20104
def TIME_QUEUE_LOST : Nat := 0x20108
def TIME_QUEUE_CLR : Nat := 0x2010C
def IMG_STAT : Nat := 0x10000
def IMG_LOAD_ERR : Nat := 0x10004
def IMG_RUN_VER : Nat := 0x10008
def IMG_RUN_BUILD : Nat := 0x1000C
def IMG_MIN_VER : Nat := 0x10010
def IMG_SLOT_CTRL : Nat := 0x10014
def IMG_SLOT_STAT (i : Nat) : Nat := 0x10018 + 0x4 * i
def IMG_SLOT_VER (i : Nat) : Nat := 0x10020 + 0x4 * i
def IMG_XFER_CTRL : Nat := 0x10028
def IMG_XFER_OFS : Nat := 0x1002C
def IMG_KEY_STAT : Nat := 0x10030
def IMG_TXN_CFG : Nat := 0x10040
def IMG_TXN_CTRL (i : Nat) : Nat := 0x10100 + 0x10 * i
def IMG_TXN_STAT (i : Nat) : Nat := 0x10104 + 0x10 * i
def IMG_TXN_TRIAL (i : Nat) : Nat := 0x10108 + 0x10 * i
def IMG_TXN_LAST (i : Nat) : Nat := 0x1010C + 0x10 * i
def KEEP_STAT : Nat := 0x30000
def KEEP_CTRL : Nat := 0x30004
def KEEP_CFG : Nat := 0x30008
def KEEP_EPOCH : Nat := 0x3000C
def KEEP_LAST_FO : Nat := 0x30010
def KEEP_LAST_FO_TS_LO : Nat := 0x30014
def KEEP_LAST_FO_TS_HI : Nat := 0x30018
def KEEP_COUNT : Nat := 0x3001C
def KEEP_MISS : Nat := 0x30020
def KEEP_FENCE_DISC : Nat := 0x30024
def KEEP_RESYNC : Nat := 0x30028
def KEEP_BEACON (i : Nat) : Nat := 0x30030 + 0x4 * i
def KEEP_COPY : Nat := 0x30038
def KEEP_LANES : Nat := 0x3003C
def KEEP_CLR : Nat := 0x30040
def LOOP_STAT : Nat := 0x40000
def LOOP_VIEW : Nat := 0x40004
def LOOP_CLR : Nat := 0x40008
def LOOP_USED_LO : Nat := 0x4000C
def LOOP_USED_HI : Nat := 0x40010
def LOOP_TSTAT (i : Nat) : Nat := 0x41000 + 0x40 * i
def LOOP_TCYC (i : Nat) : Nat := 0x41004 + 0x40 * i
def LOOP_STAMP (i : Nat) : Nat := 0x41008 + 0x40 * i
def LOOP_STAMP_CFG (i : Nat) : Nat := 0x4100C + 0x40 * i
def LOOP_CNT (i : Nat) : Nat := 0x41010 + 0x40 * i
def LOOP_MAP (i : Nat) : Nat := 0x41014 + 0x40 * i
def LOOP_PRESET (i : Nat) : Nat := 0x41018 + 0x40 * i
def LOOP_RUN (i : Nat) : Nat := 0x4101C + 0x40 * i
def LOOP_WATCH (i j : Nat) : Nat := 0x41020 + 0x40 * i + 0x4 * j
def LOOP_PARAM (i j : Nat) : Nat := 0x48000 + 0x200 * i + 0x4 * j
def LOOP_SHIFT (i j : Nat) : Nat := 0x48180 + 0x200 * i + 0x4 * j
def EDGE_STAT : Nat := 0x50000
def EDGE_CLR : Nat := 0x50004
def EDGE_USED_LO : Nat := 0x50008
def EDGE_USED_HI : Nat := 0x5000C
def EDGE_CFG (i : Nat) : Nat := 0x51000 + 0x40 * i
def EDGE_PERIOD (i : Nat) : Nat := 0x51004 + 0x40 * i
def EDGE_PHASE (i : Nat) : Nat := 0x51008 + 0x40 * i
def EDGE_RISE (i : Nat) : Nat := 0x5100C + 0x40 * i
def EDGE_FALL (i : Nat) : Nat := 0x51010 + 0x40 * i
def EDGE_MINPW (i : Nat) : Nat := 0x51014 + 0x40 * i
def EDGE_TRIM_CFG (i : Nat) : Nat := 0x51018 + 0x40 * i
def EDGE_TRIM (i : Nat) : Nat := 0x5101C + 0x40 * i
def EDGE_PSTAT (i : Nat) : Nat := 0x51020 + 0x40 * i
def EDGE_PCNT (i : Nat) : Nat := 0x51024 + 0x40 * i
def EDGE_CMD (i : Nat) : Nat := 0x51028 + 0x40 * i
def EDGE_CAL (i : Nat) : Nat := 0x5102C + 0x40 * i
def EDGE_SWN (i : Nat) : Nat := 0x51030 + 0x40 * i
def QSET_STAT : Nat := 0x150000
def QSET_LATCH (i : Nat) : Nat := 0x150010 + 0x4 * i
def QSET_ACTIVE (i : Nat) : Nat := 0x150020 + 0x4 * i
def QSET_CLR (i : Nat) : Nat := 0x150030 + 0x4 * i
def QSET_REFUSED (i : Nat) : Nat := 0x150040 + 0x4 * i
def QSET_FORCE : Nat := 0x150050
def QSET_FIRST_TS_LO : Nat := 0x150054
def QSET_FIRST_TS_HI : Nat := 0x150058
def QSET_COUNT : Nat := 0x15005C
def QSET_MAP (i : Nat) : Nat := 0x150200 + 0x4 * i
def RING_STAT : Nat := 0x60000
def RING_CMD : Nat := 0x60004
def RING_CFG : Nat := 0x60008
def RING_CLR : Nat := 0x6000C
def RING_PORT_STAT (i : Nat) : Nat := 0x61000 + 0x20 * i
def RING_PORT_LOOP (i : Nat) : Nat := 0x61004 + 0x20 * i
def RING_PORT_CNT (i : Nat) : Nat := 0x61008 + 0x20 * i
def RING_PORT_TRIP (i : Nat) : Nat := 0x6100C + 0x20 * i
def RING_PORT_LEAD (i : Nat) : Nat := 0x61010 + 0x20 * i
def RING_EP_STAT (i : Nat) : Nat := 0x64000 + 0x20 * i
def RING_EP_DLY_LO (i : Nat) : Nat := 0x64004 + 0x20 * i
def RING_EP_DLY_HI (i : Nat) : Nat := 0x64008 + 0x20 * i
def RING_EP_CNT (i : Nat) : Nat := 0x6400C + 0x20 * i
def RING_EP_REP_0 (i : Nat) : Nat := 0x64010 + 0x20 * i
def RING_EP_REP_1 (i : Nat) : Nat := 0x64014 + 0x20 * i
def SST_STAT : Nat := 0x70000
def SST_CFG : Nat := 0x70004
def SST_VC_REF : Nat := 0x70008
def SST_VBUS_REF : Nat := 0x7000C
def SST_P_LIM : Nat := 0x70010
def SST_Q_CTRL : Nat := 0x70014
def SST_I_LIM : Nat := 0x70018
def SST_MOD_LIM : Nat := 0x7001C
def SST_DAB_CFG : Nat := 0x70020
def SST_PLL : Nat := 0x70024
def SST_GRID_U : Nat := 0x70028
def SST_GRID_PQ : Nat := 0x7002C
def SST_BUS : Nat := 0x70030
def SST_CNT : Nat := 0x70034
def SST_CLR : Nat := 0x70038
def SST_RT_CFG : Nat := 0x70040
def SST_RT_CFG2 : Nat := 0x70044
def SST_RT_LV (i : Nat) : Nat := 0x70060 + 0x4 * i
def SST_RT_HV (i : Nat) : Nat := 0x70080 + 0x4 * i
def SST_RT_LOG : Nat := 0x70090
def SST_PHASE (i : Nat) : Nat := 0x700A0 + 0x4 * i
def SST_CELL_V (i : Nat) : Nat := 0x71000 + 0x10 * i
def SST_CELL_MOD (i : Nat) : Nat := 0x71004 + 0x10 * i
def SST_CELL_CAR (i : Nat) : Nat := 0x71008 + 0x10 * i
def SST_CELL_EP (i : Nat) : Nat := 0x7100C + 0x10 * i
def SST_RUN_STAT : Nat := 0x70400
def SST_RUN_CTRL : Nat := 0x70404
def SST_PRE_CFG : Nat := 0x70408
def SST_BRK_CFG : Nat := 0x7040C
def SST_PROT_CELL : Nat := 0x70410
def SST_PROT_TEMP : Nat := 0x70414
def SST_PROT_PHASE : Nat := 0x70418
def SST_PROT_DAB : Nat := 0x7041C
def SST_RESTART_CFG : Nat := 0x70420
def SST_BRK_SRC (i : Nat) : Nat := 0x70430 + 0x4 * i
def SST_PROT_CNT : Nat := 0x70440
def SST_CELL_STAT (i : Nat) : Nat := 0x72000 + 0x10 * i
def SST_CELL_CMD (i : Nat) : Nat := 0x72004 + 0x10 * i
def SST_CELL_HIST (i : Nat) : Nat := 0x72008 + 0x10 * i
def OUTS_STAT : Nat := 0x80000
def OUTS_CLR : Nat := 0x80004
def OUTS_O_STAT (i : Nat) : Nat := 0x81000 + 0x40 * i
def OUTS_O_CTRL (i : Nat) : Nat := 0x81004 + 0x40 * i
def OUTS_O_MEAS (i : Nat) : Nat := 0x81008 + 0x40 * i
def OUTS_O_REF (i : Nat) : Nat := 0x8100C + 0x40 * i
def OUTS_O_CAP (i : Nat) : Nat := 0x8102C + 0x40 * i
def OUTS_O_LIM (i : Nat) : Nat := 0x81010 + 0x40 * i
def OUTS_SS_CFG (i : Nat) : Nat := 0x81014 + 0x40 * i
def OUTS_SHED_CFG (i : Nat) : Nat := 0x81018 + 0x40 * i
def OUTS_IMB_CFG (i : Nat) : Nat := 0x8101C + 0x40 * i
def OUTS_PROT (i : Nat) : Nat := 0x81020 + 0x40 * i
def OUTS_O_CNT (i : Nat) : Nat := 0x81024 + 0x40 * i
def OUTS_O_SET (i : Nat) : Nat := 0x81028 + 0x40 * i
def OUTS_PH_STAT (i : Nat) : Nat := 0x84000 + 0x20 * i
def OUTS_PH_MAP (i : Nat) : Nat := 0x84004 + 0x20 * i
def OUTS_PH_MEAS (i : Nat) : Nat := 0x84008 + 0x20 * i
def OUTS_PH_IMB (i : Nat) : Nat := 0x8400C + 0x20 * i
def OUTS_PH_CMD (i : Nat) : Nat := 0x84010 + 0x20 * i
def ALOC_STAT : Nat := 0x90000
def ALOC_CFG : Nat := 0x90004
def ALOC_GRID : Nat := 0x90008
def ALOC_SITE : Nat := 0x9000C
def ALOC_EFF : Nat := 0x90010
def ALOC_EXPORT : Nat := 0x90014
def ALOC_DEMAND : Nat := 0x90018
def ALOC_PRICE : Nat := 0x9001C
def ALOC_PRICE_TAB : Nat := 0x90020
def ALOC_DEM_STAT : Nat := 0x90024
def ALOC_DEM_E : Nat := 0x90028
def ALOC_BUD (i : Nat) : Nat := 0x9002C + 0x4 * i
def ALOC_CLASS (i : Nat) : Nat := 0x90040 + 0x4 * i
def ALOC_TICK : Nat := 0x90050
def ALOC_TTIME : Nat := 0x90054
def ALOC_JUNC_STAT : Nat := 0x90058
def ALOC_CNT : Nat := 0x9005C
def ALOC_CLR : Nat := 0x90060
def ALOC_O_CFG (i : Nat) : Nat := 0x91000 + 0x20 * i
def ALOC_O_LIM (i : Nat) : Nat := 0x91004 + 0x20 * i
def ALOC_O_GRANT (i : Nat) : Nat := 0x91008 + 0x20 * i
def ALOC_O_IN (i : Nat) : Nat := 0x9100C + 0x20 * i
def ALOC_O_IN2 (i : Nat) : Nat := 0x91010 + 0x20 * i
def COOL_STAT : Nat := 0xA0000
def COOL_CLR : Nat := 0xA0004
def COOL_O_STAT (i : Nat) : Nat := 0xA1000 + 0x40 * i
def COOL_O_CTRL (i : Nat) : Nat := 0xA1004 + 0x40 * i
def COOL_O_EST (i : Nat) : Nat := 0xA1008 + 0x40 * i
def COOL_O_TC (i : Nat) : Nat := 0xA100C + 0x40 * i
def COOL_O_MEAS (i : Nat) : Nat := 0xA1010 + 0x40 * i
def COOL_O_FLOW (i : Nat) : Nat := 0xA1014 + 0x40 * i
def COOL_O_LIM (i : Nat) : Nat := 0xA1018 + 0x40 * i
def COOL_O_FCFG (i : Nat) : Nat := 0xA101C + 0x40 * i
def COOL_O_CFG (i : Nat) : Nat := 0xA1020 + 0x40 * i
def COOL_O_CNT (i : Nat) : Nat := 0xA1024 + 0x40 * i
def THERM_STAT : Nat := 0x170000
def THERM_CLR : Nat := 0x170004
def THERM_CFG (i : Nat) : Nat := 0x171000 + 0x10 * i
def THERM_VAL (i : Nat) : Nat := 0x171004 + 0x10 * i
def THERM_NTC (i : Nat) : Nat := 0x171008 + 0x10 * i
def THERM_CNT (i : Nat) : Nat := 0x17100C + 0x10 * i
def OUTL_STAT : Nat := 0xB0000
def OUTL_CLR : Nat := 0xB0004
def OUTL_O_STAT (i : Nat) : Nat := 0xB1000 + 0x40 * i
def OUTL_O_CTRL (i : Nat) : Nat := 0xB1004 + 0x40 * i
def OUTL_O_CFG (i : Nat) : Nat := 0xB1008 + 0x40 * i
def OUTL_O_RATED (i : Nat) : Nat := 0xB100C + 0x40 * i
def OUTL_O_EV (i : Nat) : Nat := 0xB1010 + 0x40 * i
def OUTL_O_EVI (i : Nat) : Nat := 0xB1014 + 0x40 * i
def OUTL_O_CHK (i : Nat) : Nat := 0xB1018 + 0x40 * i
def OUTL_O_TMO (i : Nat) : Nat := 0xB101C + 0x40 * i
def OUTL_O_SESS (i : Nat) : Nat := 0xB1020 + 0x40 * i
def OUTL_O_CNT (i : Nat) : Nat := 0xB1024 + 0x40 * i
def OUTL_O_LINK (i : Nat) : Nat := 0xB1028 + 0x40 * i
def SAFE_STAT : Nat := 0xC0000
def SAFE_CTRL : Nat := 0xC0004
def SAFE_CHECK_RUN : Nat := 0xC0008
def SAFE_CHECK_COMM : Nat := 0xC000C
def SAFE_CONFIRM : Nat := 0xC0010
def SAFE_IN_CFG : Nat := 0xC0014
def SAFE_FB_STAT : Nat := 0xC0018
def SAFE_FB_ACK : Nat := 0xC001C
def SAFE_CNT : Nat := 0xC0020
def SAFE_CLR : Nat := 0xC0024
def SAFE_AX_STAT (i : Nat) : Nat := 0xC1000 + 0x40 * i
def SAFE_AX_CTRL (i : Nat) : Nat := 0xC1004 + 0x40 * i
def SAFE_AX_POS (i : Nat) : Nat := 0xC1008 + 0x40 * i
def SAFE_AX_SPD (i : Nat) : Nat := 0xC100C + 0x40 * i
def SAFE_AX_SLS (i : Nat) : Nat := 0xC1010 + 0x40 * i
def SAFE_AX_SLP_LO (i : Nat) : Nat := 0xC1014 + 0x40 * i
def SAFE_AX_SLP_HI (i : Nat) : Nat := 0xC1018 + 0x40 * i
def SAFE_AX_SS1 (i : Nat) : Nat := 0xC101C + 0x40 * i
def SAFE_AX_ENC (i : Nat) : Nat := 0xC1020 + 0x40 * i
def SAFE_AX_CFG (i : Nat) : Nat := 0xC1024 + 0x40 * i
def SAFE_CONN_STAT (i : Nat) : Nat := 0xC2000 + 0x10 * i
def SAFE_CONN_CNT (i : Nat) : Nat := 0xC2004 + 0x10 * i
def METR_STAT : Nat := 0xD0000
def METR_SEAL : Nat := 0xD0004
def METR_ID : Nat := 0xD0008
def METR_SEAL_TS_LO : Nat := 0xD000C
def METR_SEAL_TS_HI : Nat := 0xD0010
def METR_MAP_DIG (i : Nat) : Nat := 0xD0020 + 0x4 * i
def METR_CAL_DIG (i : Nat) : Nat := 0xD0050 + 0x4 * i
def METR_CAL_CTRL : Nat := 0xD0080
def METR_CLR : Nat := 0xD0084
def METR_AC_FREQ : Nat := 0xD0090
def METR_AC_V (i : Nat) : Nat := 0xD00A0 + 0x10 * i
def METR_AC_I (i : Nat) : Nat := 0xD00A4 + 0x10 * i
def METR_AC_P (i : Nat) : Nat := 0xD00A8 + 0x10 * i
def METR_AC_Q (i : Nat) : Nat := 0xD00AC + 0x10 * i
def METR_DC_V (i : Nat) : Nat := 0xD0100 + 0x10 * i
def METR_DC_I (i : Nat) : Nat := 0xD0104 + 0x10 * i
def METR_DC_P (i : Nat) : Nat := 0xD0108 + 0x10 * i
def METR_DC_LOSS (i : Nat) : Nat := 0xD010C + 0x10 * i
def METR_TEST_IMP (i : Nat) : Nat := 0xD0180 + 0x8 * i
def METR_TEST_EXP (i : Nat) : Nat := 0xD0184 + 0x8 * i
def METR_CH_CFG (i : Nat) : Nat := 0xD1000 + 0x20 * i
def METR_CH_SCALE (i : Nat) : Nat := 0xD1004 + 0x20 * i
def METR_CH_STAT (i : Nat) : Nat := 0xD1008 + 0x20 * i
def METR_CH_RMS (i : Nat) : Nat := 0xD100C + 0x20 * i
def METR_CH_CNT (i : Nat) : Nat := 0xD1010 + 0x20 * i
def METR_CAL_GAIN (i : Nat) : Nat := 0xD1014 + 0x20 * i
def METR_CAL_OFS (i : Nat) : Nat := 0xD1018 + 0x20 * i
def METR_CAL_PH (i : Nat) : Nat := 0xD101C + 0x20 * i
def METR_TC (i j : Nat) : Nat := 0xD2000 + 0x80 * i + 0x8 * j
def METR_TCP (i j : Nat) : Nat := 0xD2004 + 0x80 * i + 0x8 * j
def METR_HARM_SEL : Nat := 0xD4000
def METR_HARM_STAT : Nat := 0xD4004
def METR_HARM (i : Nat) : Nat := 0xD4100 + 0x4 * i
def BILL_STAT : Nat := 0xE0000
def BILL_CTRL : Nat := 0xE0004
def BILL_DEM_CFG : Nat := 0xE0008
def BILL_DEM_END_LO : Nat := 0xE0010
def BILL_DEM_END_HI : Nat := 0xE0014
def BILL_PWR : Nat := 0xE0018
def BILL_PWR_TS_LO : Nat := 0xE001C
def BILL_PWR_TS_HI : Nat := 0xE0020
def BILL_SEASON (i : Nat) : Nat := 0xE2000 + 0x4 * i
def BILL_WEEK (i : Nat) : Nat := 0xE2010 + 0x4 * i
def BILL_SPECIAL (i : Nat) : Nat := 0xE2500 + 0x4 * i
def BILL_DAY (i j : Nat) : Nat := 0xE2100 + 0x40 * i + 0x4 * j
def BILL_DISP_CFG (i : Nat) : Nat := 0xE2600 + 0x20 * i
def BILL_DISP_ITEMS (i j : Nat) : Nat := 0xE2604 + 0x20 * i + 0x4 * j
def BILL_TAMP_CNT (i : Nat) : Nat := 0xE3000 + 0x20 * i
def BILL_TAMP_FIRST_LO (i : Nat) : Nat := 0xE3004 + 0x20 * i
def BILL_TAMP_FIRST_HI (i : Nat) : Nat := 0xE3008 + 0x20 * i
def BILL_TAMP_LAST_LO (i : Nat) : Nat := 0xE300C + 0x20 * i
def BILL_TAMP_LAST_HI (i : Nat) : Nat := 0xE3010 + 0x20 * i
def BILL_REC_SEL : Nat := 0xE4000
def BILL_REC_STAT : Nat := 0xE4004
def BILL_REC_NEXT : Nat := 0xE4008
def BILL_E (i j : Nat) : Nat := 0xE1000 + 0x100 * i + 0x4 * j
def ACQ_STAT : Nat := 0xF0000
def ACQ_STORE : Nat := 0xF0004
def ACQ_CMD_ALL : Nat := 0xF0008
def ACQ_CLR : Nat := 0xF000C
def ACQ_RD_SEL : Nat := 0xF0010
def ACQ_RD_OFS : Nat := 0xF0014
def ACQ_RD_STAT : Nat := 0xF0018
def ACQ_E_STAT (i : Nat) : Nat := 0xF1000 + 0x100 * i
def ACQ_E_CTRL (i : Nat) : Nat := 0xF1004 + 0x100 * i
def ACQ_E_CFG (i : Nat) : Nat := 0xF1008 + 0x100 * i
def ACQ_E_RATE (i : Nat) : Nat := 0xF100C + 0x100 * i
def ACQ_E_PRE (i : Nat) : Nat := 0xF1010 + 0x100 * i
def ACQ_E_POST (i : Nat) : Nat := 0xF1014 + 0x100 * i
def ACQ_E_CNT (i : Nat) : Nat := 0xF1018 + 0x100 * i
def ACQ_E_PART (i : Nat) : Nat := 0xF101C + 0x100 * i
def ACQ_E_TTIME_LO (i : Nat) : Nat := 0xF1020 + 0x100 * i
def ACQ_E_TTIME_HI (i : Nat) : Nat := 0xF1024 + 0x100 * i
def ACQ_E_TSEQ (i : Nat) : Nat := 0xF1028 + 0x100 * i
def ACQ_E_TU (i j : Nat) : Nat := 0xF1040 + 0x100 * i + 0x10 * j
def ACQ_E_TID (i j : Nat) : Nat := 0xF1044 + 0x100 * i + 0x10 * j
def ACQ_E_TLVL (i j : Nat) : Nat := 0xF1048 + 0x100 * i + 0x10 * j
def ACQ_E_TAUX (i j : Nat) : Nat := 0xF104C + 0x100 * i + 0x10 * j
def CAN_STAT (i : Nat) : Nat := 0x100000 + 0x4000 * i
def CAN_CTRL (i : Nat) : Nat := 0x100004 + 0x4000 * i
def CAN_NBT (i : Nat) : Nat := 0x100008 + 0x4000 * i
def CAN_DBT (i : Nat) : Nat := 0x10000C + 0x4000 * i
def CAN_CFG (i : Nat) : Nat := 0x100010 + 0x4000 * i
def CAN_ERR (i : Nat) : Nat := 0x100014 + 0x4000 * i
def CAN_RECOV (i : Nat) : Nat := 0x100018 + 0x4000 * i
def CAN_WIRE (i : Nat) : Nat := 0x10001C + 0x4000 * i
def CAN_WAKE_CFG (i : Nat) : Nat := 0x100020 + 0x4000 * i
def CAN_WAKE_MASK (i : Nat) : Nat := 0x100024 + 0x4000 * i
def CAN_WAKE_DATA_LO (i : Nat) : Nat := 0x100028 + 0x4000 * i
def CAN_WAKE_DATA_HI (i : Nat) : Nat := 0x10002C + 0x4000 * i
def CAN_WAKE_STAT (i : Nat) : Nat := 0x100030 + 0x4000 * i
def CAN_CNT (i : Nat) : Nat := 0x100034 + 0x4000 * i
def CAN_CNT2 (i : Nat) : Nat := 0x100038 + 0x4000 * i
def CAN_CNT3 (i : Nat) : Nat := 0x10003C + 0x4000 * i
def CAN_CLR (i : Nat) : Nat := 0x100040 + 0x4000 * i
def CAN_PORT_CFG (i j : Nat) : Nat := 0x100100 + 0x4000 * i + 0x20 * j
def CAN_PORT_ID (i j : Nat) : Nat := 0x100104 + 0x4000 * i + 0x20 * j
def CAN_PORT_SEND (i j : Nat) : Nat := 0x100108 + 0x4000 * i + 0x20 * j
def CAN_PORT_STAT (i j : Nat) : Nat := 0x10010C + 0x4000 * i + 0x20 * j
def CAN_PORT_LAT (i j : Nat) : Nat := 0x100110 + 0x4000 * i + 0x20 * j
def CAN_PORT_CNT (i j : Nat) : Nat := 0x100114 + 0x4000 * i + 0x20 * j
def CAN_RX_SEL (i : Nat) : Nat := 0x100300 + 0x4000 * i
def CAN_RX_HDR (i : Nat) : Nat := 0x100304 + 0x4000 * i
def CAN_RX_INFO (i : Nat) : Nat := 0x100308 + 0x4000 * i
def CAN_RX_TS_LO (i : Nat) : Nat := 0x10030C + 0x4000 * i
def CAN_RX_TS_HI (i : Nat) : Nat := 0x100310 + 0x4000 * i
def CAN_STAGING (i j : Nat) : Nat := 0x101000 + 0x4000 * i + 0x4 * j
def CAN_XL_WIN (i j : Nat) : Nat := 0x102000 + 0x4000 * i + 0x4 * j
def CAN_RX_WIN (i j : Nat) : Nat := 0x103000 + 0x4000 * i + 0x4 * j
def LSW_STAT : Nat := 0x110000
def LSW_FAULT : Nat := 0x110004
def LSW_VAUX : Nat := 0x110008
def LSW_PKG : Nat := 0x11000C
def LSW_FOGIN : Nat := 0x110010
def LSW_SNS_SEL : Nat := 0x110014
def LSW_CLR : Nat := 0x110018
def LSW_CFG (i : Nat) : Nat := 0x111000 + 0x20 * i
def LSW_CTRL (i : Nat) : Nat := 0x111004 + 0x20 * i
def LSW_CH_STAT (i : Nat) : Nat := 0x111008 + 0x20 * i
def LSW_MEAS (i : Nat) : Nat := 0x11100C + 0x20 * i
def LSW_LIM (i : Nat) : Nat := 0x111010 + 0x20 * i
def LSW_TIME (i : Nat) : Nat := 0x111014 + 0x20 * i
def LSW_CLAMP (i : Nat) : Nat := 0x111018 + 0x20 * i
def LSW_CNT (i : Nat) : Nat := 0x11101C + 0x20 * i
def MEM_STAT : Nat := 0x120000
def MEM_LC_CTRL : Nat := 0x120004
def MEM_CTRL : Nat := 0x120008
def MEM_WIPE_CFG : Nat := 0x12000C
def MEM_SEC : Nat := 0x120010
def MEM_SEC_TS_LO : Nat := 0x120014
def MEM_SEC_TS_HI : Nat := 0x120018
def MEM_ECC (i : Nat) : Nat := 0x120020 + 0x4 * i
def MEM_ECC_ADDR : Nat := 0x12002C
def MEM_COLL : Nat := 0x120030
def MEM_DRAM_MAP : Nat := 0x120034
def MEM_MRAM : Nat := 0x120038
def MEM_CLR : Nat := 0x120040
def PWR_STAT : Nat := 0x130000
def PWR_CFG : Nat := 0x130004
def PWR_RESET : Nat := 0x130008
def PWR_RST : Nat := 0x13000C
def PWR_RST_TS_LO : Nat := 0x130010
def PWR_RST_TS_HI : Nat := 0x130014
def PWR_SUPPLY : Nat := 0x130018
def PWR_LOAD : Nat := 0x13001C
def PWR_TEMP : Nat := 0x130020
def PWR_TEMP2 : Nat := 0x130024
def PWR_DEFER_CFG : Nat := 0x130028
def PWR_WAKE_CFG : Nat := 0x13002C
def PWR_WAKE_STAT : Nat := 0x130030
def PWR_ALARM_LO : Nat := 0x130034
def PWR_ALARM_HI : Nat := 0x130038
def PWR_START : Nat := 0x13003C
def PWR_CNT : Nat := 0x130040
def PWR_CLR : Nat := 0x130044
def PWR_SIDE_RST (i : Nat) : Nat := 0x130048 + 0x4 * i
def PWR_LTR (i : Nat) : Nat := 0x130100 + 0x4 * i
def PWR_WAKE_THR (i : Nat) : Nat := 0x130140 + 0x4 * i
def HOST_STAT : Nat := 0x140000
def HOST_CFG : Nat := 0x140004
def HOST_PCI_ID : Nat := 0x140008
def HOST_IRQ_CFG (i : Nat) : Nat := 0x140010 + 0x4 * i
def HOST_IRQ_STAT : Nat := 0x140020
def HOST_MGMT : Nat := 0x140024
def HOST_CNT : Nat := 0x140028
def HOST_CLR : Nat := 0x14002C
def HOST_FW_STAT : Nat := 0x140040
def HOST_FW_CTRL : Nat := 0x140044
def HOST_FW_OFS : Nat := 0x140048
def HOST_FW_VER (i : Nat) : Nat := 0x14004C + 0x4 * i
def HOST_FW_SVN : Nat := 0x140054
def SYS_ID : Nat := 0x0
def SYS_MAP : Nat := 0x4
def SYS_SERIAL_LO : Nat := 0x10
def SYS_SERIAL_HI : Nat := 0x14
def SYS_RESET : Nat := 0x18
def SYS_ERR : Nat := 0x1C
def SYS_ERR_ADDR : Nat := 0x20
def SYS_EVQ_STAT : Nat := 0x24
def SYS_EVQ_POP : Nat := 0x28
def SYS_EVQ_ENT_0 : Nat := 0x30
def SYS_EVQ_ENT_1 : Nat := 0x34
def SYS_EVQ_ENT_2 : Nat := 0x38
def SYS_EVQ_ENT_3 : Nat := 0x3C
def SYS_SCRATCH : Nat := 0x40
def FAST_STAT : Nat := 0x160000
def FAST_CLR : Nat := 0x160004
def FAST_CFG (i : Nat) : Nat := 0x161000 + 0x10 * i
def FAST_WIN (i : Nat) : Nat := 0x161004 + 0x10 * i
def FAST_VAL (i : Nat) : Nat := 0x161008 + 0x10 * i
def FAST_PEAK (i : Nat) : Nat := 0x16100C + 0x10 * i

end Reg

namespace Fld

def SYS_CAP_0_VARIANT : Field := ⟨28, 4⟩
def SYS_CAP_0_STEPPING : Field := ⟨20, 8⟩
def SYS_CAP_0_SST : Field := ⟨19, 1⟩
def SYS_CAP_0_HARM : Field := ⟨18, 1⟩
def SYS_CAP_0_SAFE_AXES : Field := ⟨16, 2⟩
def SYS_CAP_0_RING_PORTS : Field := ⟨12, 4⟩
def SYS_CAP_0_OUTLETS : Field := ⟨8, 4⟩
def SYS_CAP_0_ENDPOINTS : Field := ⟨0, 8⟩
def SYS_CAP_1_DRAM_32MB : Field := ⟨24, 4⟩
def SYS_CAP_1_PWM_PAIRS : Field := ⟨16, 8⟩
def SYS_CAP_1_LOOP_TILES : Field := ⟨8, 8⟩
def SYS_CAP_1_ACQ_ENGINES : Field := ⟨3, 5⟩
def SYS_CAP_1_CAN_CTRL : Field := ⟨0, 3⟩
def TIME_NOW_LO_COUNT : Field := ⟨0, 32⟩
def TIME_NOW_HI_COUNT : Field := ⟨0, 32⟩
def TIME_MONO_LO_COUNT : Field := ⟨0, 32⟩
def TIME_MONO_HI_COUNT : Field := ⟨0, 32⟩
def TIME_STAT_TAI_UTC : Field := ⟨24, 8⟩
def TIME_STAT_STEP_PEND : Field := ⟨7, 1⟩
def TIME_STAT_HOLDOVER : Field := ⟨6, 1⟩
def TIME_STAT_LOCK : Field := ⟨5, 1⟩
def TIME_STAT_VALID : Field := ⟨4, 1⟩
def TIME_STAT_SRC : Field := ⟨0, 3⟩
def TIME_CTRL_PTP_DOMAIN : Field := ⟨16, 8⟩
def TIME_CTRL_SERVO_BW : Field := ⟨12, 4⟩
def TIME_CTRL_PTP_TMO : Field := ⟨8, 4⟩
def TIME_CTRL_PTP_P2P : Field := ⟨7, 1⟩
def TIME_CTRL_PPS_IN_EN : Field := ⟨6, 1⟩
def TIME_CTRL_NTP_EN : Field := ⟨5, 1⟩
def TIME_CTRL_PTP1_EN : Field := ⟨4, 1⟩
def TIME_CTRL_PTP0_EN : Field := ⟨3, 1⟩
def TIME_RATE_VALUE : Field := ⟨0, 32⟩
def TIME_OFFSET_VALUE : Field := ⟨0, 32⟩
def TIME_CYCLE_PHASE_ERR : Field := ⟨16, 16⟩
def TIME_CYCLE_ALIGNED : Field := ⟨3, 1⟩
def TIME_CYCLE_TC_CODE : Field := ⟨0, 3⟩
def TIME_CYCLE_CNT_COUNT : Field := ⟨0, 32⟩
def TIME_TZ_DST_OFS : Field := ⟨16, 8⟩
def TIME_TZ_STD_OFS : Field := ⟨0, 8⟩
def TIME_DST_MONTH : Field := ⟨18, 4⟩
def TIME_DST_WEEK : Field := ⟨15, 3⟩
def TIME_DST_WEEKDAY : Field := ⟨12, 3⟩
def TIME_DST_MINUTE : Field := ⟨0, 11⟩
def TIME_PPS_CFG_OUT_WIDTH : Field := ⟨8, 8⟩
def TIME_PPS_CFG_IN_EDGE : Field := ⟨3, 1⟩
def TIME_PPS_CFG_OUT_EN : Field := ⟨2, 1⟩
def TIME_PPS_CFG_OUT_VALID_ONLY : Field := ⟨1, 1⟩
def TIME_PPS_IN_LO_COUNT : Field := ⟨0, 32⟩
def TIME_PPS_IN_HI_COUNT : Field := ⟨0, 32⟩
def TIME_PHY_DLY_TX_DLY : Field := ⟨16, 16⟩
def TIME_PHY_DLY_RX_DLY : Field := ⟨0, 16⟩
def TIME_SET_LO_COUNT : Field := ⟨0, 32⟩
def TIME_SET_HI_COUNT : Field := ⟨0, 32⟩
def TIME_LEAP_DAY : Field := ⟨8, 24⟩
def TIME_LEAP_OFS : Field := ⟨0, 8⟩
def TIME_QUEUE_SEL_SIDE : Field := ⟨10, 1⟩
def TIME_QUEUE_SEL_QUEUE : Field := ⟨0, 10⟩
def TIME_QUEUE_STAT_CLASS : Field := ⟨30, 2⟩
def TIME_QUEUE_STAT_HIGH_WATER : Field := ⟨16, 14⟩
def TIME_QUEUE_STAT_DEPTH : Field := ⟨0, 14⟩
def TIME_QUEUE_LOST_COUNT : Field := ⟨0, 32⟩
def TIME_QUEUE_CLR_CLEAR : Field := ⟨0, 1⟩
def IMG_STAT_SECTIONS : Field := ⟨16, 8⟩
def IMG_STAT_MODE : Field := ⟨8, 4⟩
def IMG_STAT_AT_REST : Field := ⟨7, 1⟩
def IMG_STAT_REVERT_DUE : Field := ⟨6, 1⟩
def IMG_STAT_BOOT_TRIAL : Field := ⟨5, 1⟩
def IMG_STAT_SAFETY_UNCONF : Field := ⟨4, 1⟩
def IMG_STAT_FALLBACK : Field := ⟨1, 1⟩
def IMG_STAT_SLOT : Field := ⟨0, 1⟩
def IMG_LOAD_ERR_SECTION : Field := ⟨16, 8⟩
def IMG_LOAD_ERR_SLOT : Field := ⟨8, 1⟩
def IMG_LOAD_ERR_CODE : Field := ⟨0, 8⟩
def IMG_RUN_VER_VALUE : Field := ⟨0, 32⟩
def IMG_RUN_BUILD_VALUE : Field := ⟨0, 32⟩
def IMG_MIN_VER_MIN : Field := ⟨0, 32⟩
def IMG_SLOT_CTRL_WINDOW : Field := ⟨16, 8⟩
def IMG_SLOT_CTRL_CONFIRM : Field := ⟨3, 1⟩
def IMG_SLOT_CTRL_ACTIVATE : Field := ⟨2, 1⟩
def IMG_SLOT_CTRL_TARGET : Field := ⟨1, 1⟩
def IMG_SLOT_CTRL_BOOT : Field := ⟨0, 1⟩
def IMG_SLOT_STAT_STATE : Field := ⟨30, 2⟩
def IMG_SLOT_STAT_ERR : Field := ⟨16, 8⟩
def IMG_SLOT_STAT_SIZE_KB : Field := ⟨0, 16⟩
def IMG_SLOT_VER_IMAGE_VER : Field := ⟨0, 32⟩
def IMG_XFER_CTRL_SLOT : Field := ⟨4, 1⟩
def IMG_XFER_CTRL_CMD : Field := ⟨0, 2⟩
def IMG_XFER_OFS_PART : Field := ⟨15, 9⟩
def IMG_KEY_STAT_REVOKE : Field := ⟨4, 4⟩
def IMG_KEY_STAT_LOADED : Field := ⟨0, 4⟩
def IMG_TXN_CFG_IDLE_TMO : Field := ⟨0, 16⟩
def IMG_TXN_CTRL_CMD : Field := ⟨0, 4⟩
def IMG_TXN_STAT_STATE : Field := ⟨28, 4⟩
def IMG_TXN_STAT_RESULT : Field := ⟨24, 4⟩
def IMG_TXN_STAT_REASON : Field := ⟨20, 4⟩
def IMG_TXN_STAT_OWNER_ROLE : Field := ⟨17, 3⟩
def IMG_TXN_STAT_OWNER_PATH : Field := ⟨15, 2⟩
def IMG_TXN_STAT_CONFLICT : Field := ⟨14, 1⟩
def IMG_TXN_STAT_FULL : Field := ⟨13, 1⟩
def IMG_TXN_STAT_ENTRIES : Field := ⟨0, 12⟩
def IMG_TXN_TRIAL_WATCH : Field := ⟨24, 5⟩
def IMG_TXN_TRIAL_WINDOW_MS : Field := ⟨0, 16⟩
def IMG_TXN_LAST_CYCLE : Field := ⟨0, 32⟩
def KEEP_STAT_A_STATE : Field := ⟨28, 4⟩
def KEEP_STAT_B_STATE : Field := ⟨24, 4⟩
def KEEP_STAT_SUSPECT : Field := ⟨4, 1⟩
def KEEP_STAT_SPARE_USED : Field := ⟨3, 1⟩
def KEEP_STAT_LINK_UP : Field := ⟨2, 1⟩
def KEEP_STAT_DEGRADED : Field := ⟨1, 1⟩
def KEEP_STAT_ACTIVE : Field := ⟨0, 1⟩
def KEEP_CTRL_SWITCH : Field := ⟨3, 1⟩
def KEEP_CTRL_TAKE_OUT : Field := ⟨2, 1⟩
def KEEP_CTRL_RESYNC_B : Field := ⟨1, 1⟩
def KEEP_CTRL_RESYNC_A : Field := ⟨0, 1⟩
def KEEP_CFG_MISMATCH_WIN : Field := ⟨16, 8⟩
def KEEP_CFG_READMIT_MAX : Field := ⟨8, 4⟩
def KEEP_CFG_MISS_LIMIT : Field := ⟨0, 4⟩
def KEEP_EPOCH_ACTIVE_EPOCH : Field := ⟨0, 16⟩
def KEEP_LAST_FO_CAUSE : Field := ⟨28, 4⟩
def KEEP_LAST_FO_LOST_SIDE : Field := ⟨24, 1⟩
def KEEP_LAST_FO_CYCLE : Field := ⟨0, 24⟩
def KEEP_LAST_FO_TS_LO_COUNT : Field := ⟨0, 32⟩
def KEEP_LAST_FO_TS_HI_COUNT : Field := ⟨0, 32⟩
def KEEP_COUNT_FAILOVERS : Field := ⟨16, 16⟩
def KEEP_COUNT_SWITCHOVERS : Field := ⟨0, 16⟩
def KEEP_MISS_MISMATCHES : Field := ⟨16, 16⟩
def KEEP_MISS_COPY_MISSES : Field := ⟨0, 16⟩
def KEEP_FENCE_DISC_COUNT : Field := ⟨0, 32⟩
def KEEP_RESYNC_PROGRESS : Field := ⟨24, 8⟩
def KEEP_RESYNC_SHADOW_LEFT : Field := ⟨12, 12⟩
def KEEP_RESYNC_BULK_MS : Field := ⟨0, 12⟩
def KEEP_BEACON_CYCLE : Field := ⟨16, 16⟩
def KEEP_BEACON_HEALTH : Field := ⟨0, 16⟩
def KEEP_COPY_MAX : Field := ⟨16, 16⟩
def KEEP_COPY_LAST : Field := ⟨0, 16⟩
def KEEP_LANES_RET_OK : Field := ⟨9, 9⟩
def KEEP_LANES_FWD_OK : Field := ⟨0, 9⟩
def KEEP_CLR_CLEAR : Field := ⟨0, 1⟩
def LOOP_STAT_TILES : Field := ⟨24, 8⟩
def LOOP_STAT_LOOPS : Field := ⟨16, 8⟩
def LOOP_STAT_SPARES : Field := ⟨8, 8⟩
def LOOP_STAT_RES_VALID : Field := ⟨6, 1⟩
def LOOP_STAT_RES_TILE : Field := ⟨0, 6⟩
def LOOP_VIEW_SIDE : Field := ⟨0, 1⟩
def LOOP_CLR_CLEAR : Field := ⟨0, 1⟩
def LOOP_USED_LO_MASK : Field := ⟨0, 32⟩
def LOOP_USED_HI_MASK : Field := ⟨0, 32⟩
def LOOP_TSTAT_USED : Field := ⟨31, 1⟩
def LOOP_TSTAT_SPARE : Field := ⟨30, 1⟩
def LOOP_TSTAT_PHYS : Field := ⟨24, 6⟩
def LOOP_TSTAT_RESIDUE : Field := ⟨15, 1⟩
def LOOP_TSTAT_OVERRUN : Field := ⟨14, 1⟩
def LOOP_TSTAT_LATE : Field := ⟨13, 1⟩
def LOOP_TSTAT_MISSING : Field := ⟨12, 1⟩
def LOOP_TSTAT_GAP : Field := ⟨11, 1⟩
def LOOP_TSTAT_SAT : Field := ⟨10, 1⟩
def LOOP_TSTAT_INT_CLAMP : Field := ⟨9, 1⟩
def LOOP_TSTAT_ACC_OVF : Field := ⟨8, 1⟩
def LOOP_TSTAT_DIVZ : Field := ⟨7, 1⟩
def LOOP_TCYC_MAX : Field := ⟨16, 16⟩
def LOOP_TCYC_LAST : Field := ⟨0, 16⟩
def LOOP_STAMP_MAX : Field := ⟨16, 16⟩
def LOOP_STAMP_LAST : Field := ⟨0, 16⟩
def LOOP_STAMP_CFG_LATE_ACTION : Field := ⟨16, 1⟩
def LOOP_STAMP_CFG_LIMIT : Field := ⟨0, 16⟩
def LOOP_CNT_OVERRUNS : Field := ⟨16, 16⟩
def LOOP_CNT_LATES : Field := ⟨0, 16⟩
def LOOP_MAP_EPOCH : Field := ⟨16, 16⟩
def LOOP_MAP_HOME : Field := ⟨0, 2⟩
def LOOP_PRESET_INTEG : Field := ⟨0, 16⟩
def LOOP_RUN_SAT_RUN : Field := ⟨16, 16⟩
def LOOP_RUN_WAIT_MISSES : Field := ⟨0, 16⟩
def LOOP_WATCH_VALUE : Field := ⟨0, 32⟩
def LOOP_PARAM_VALUE : Field := ⟨0, 32⟩
def LOOP_SHIFT_SHIFT_3 : Field := ⟨24, 5⟩
def LOOP_SHIFT_SHIFT_2 : Field := ⟨16, 5⟩
def LOOP_SHIFT_SHIFT_1 : Field := ⟨8, 5⟩
def LOOP_SHIFT_SHIFT_0 : Field := ⟨0, 5⟩
def EDGE_STAT_PAIRS : Field := ⟨24, 8⟩
def EDGE_STAT_USED : Field := ⟨16, 8⟩
def EDGE_STAT_SHORT_ANY : Field := ⟨3, 1⟩
def EDGE_STAT_FALLBACK_ANY : Field := ⟨2, 1⟩
def EDGE_STAT_TRIPPED_ANY : Field := ⟨1, 1⟩
def EDGE_STAT_RUN : Field := ⟨0, 1⟩
def EDGE_CLR_CLEAR : Field := ⟨0, 1⟩
def EDGE_USED_LO_MASK : Field := ⟨0, 32⟩
def EDGE_USED_HI_MASK : Field := ⟨0, 32⟩
def EDGE_CFG_GROUPS : Field := ⟨24, 8⟩
def EDGE_CFG_TRIP_PAT : Field := ⟨22, 2⟩
def EDGE_CFG_MODE : Field := ⟨20, 2⟩
def EDGE_CFG_CARRIER : Field := ⟨19, 1⟩
def EDGE_CFG_UPD : Field := ⟨17, 2⟩
def EDGE_CFG_SYNC : Field := ⟨16, 1⟩
def EDGE_CFG_POLICY : Field := ⟨15, 1⟩
def EDGE_CFG_USED : Field := ⟨0, 1⟩
def EDGE_PERIOD_VALUE : Field := ⟨0, 29⟩
def EDGE_PHASE_VALUE : Field := ⟨0, 29⟩
def EDGE_RISE_FLOOR : Field := ⟨16, 16⟩
def EDGE_RISE_DELAY : Field := ⟨0, 16⟩
def EDGE_FALL_FLOOR : Field := ⟨16, 16⟩
def EDGE_FALL_DELAY : Field := ⟨0, 16⟩
def EDGE_MINPW_MINPW : Field := ⟨0, 16⟩
def EDGE_TRIM_CFG_RISE_EN : Field := ⟨31, 1⟩
def EDGE_TRIM_CFG_FALL_EN : Field := ⟨30, 1⟩
def EDGE_TRIM_CFG_STEP : Field := ⟨24, 4⟩
def EDGE_TRIM_CFG_MARGIN : Field := ⟨12, 12⟩
def EDGE_TRIM_CFG_TRIM_MAX : Field := ⟨0, 12⟩
def EDGE_TRIM_RISE_TRIM : Field := ⟨16, 16⟩
def EDGE_TRIM_FALL_TRIM : Field := ⟨0, 16⟩
def EDGE_PSTAT_TRIPPED : Field := ⟨31, 1⟩
def EDGE_PSTAT_ORPHAN : Field := ⟨30, 1⟩
def EDGE_PSTAT_PAD_SHORT_A : Field := ⟨29, 1⟩
def EDGE_PSTAT_PAD_SHORT_B : Field := ⟨28, 1⟩
def EDGE_PSTAT_DL_FALLBACK : Field := ⟨27, 1⟩
def EDGE_PSTAT_RISE_AT_BOUND : Field := ⟨26, 1⟩
def EDGE_PSTAT_FALL_AT_BOUND : Field := ⟨25, 1⟩
def EDGE_PSTAT_SWN_IDLE : Field := ⟨24, 1⟩
def EDGE_PCNT_DROPPED : Field := ⟨16, 16⟩
def EDGE_PCNT_STRETCHED : Field := ⟨0, 16⟩
def EDGE_CMD_WORD : Field := ⟨0, 32⟩
def EDGE_CAL_AGE : Field := ⟨24, 8⟩
def EDGE_CAL_TAPS_A : Field := ⟨16, 8⟩
def EDGE_CAL_TAPS_B : Field := ⟨8, 8⟩
def EDGE_CAL_FAIL_B : Field := ⟨1, 1⟩
def EDGE_CAL_FAIL_A : Field := ⟨0, 1⟩
def EDGE_SWN_RISE_MEAS : Field := ⟨16, 16⟩
def EDGE_SWN_FALL_MEAS : Field := ⟨0, 16⟩
def QSET_STAT_GROUPS : Field := ⟨24, 8⟩
def QSET_STAT_FIRST_SRC : Field := ⟨16, 7⟩
def QSET_STAT_CLR_REFUSED : Field := ⟨1, 1⟩
def QSET_STAT_ANY : Field := ⟨0, 1⟩
def QSET_LATCH_SRC : Field := ⟨0, 32⟩
def QSET_ACTIVE_SRC : Field := ⟨0, 32⟩
def QSET_CLR_SRC : Field := ⟨0, 32⟩
def QSET_REFUSED_SRC : Field := ⟨0, 32⟩
def QSET_FORCE_GROUP : Field := ⟨0, 8⟩
def QSET_FIRST_TS_LO_COUNT : Field := ⟨0, 32⟩
def QSET_FIRST_TS_HI_COUNT : Field := ⟨0, 32⟩
def QSET_COUNT_TRIPS : Field := ⟨0, 32⟩
def QSET_MAP_EN : Field := ⟨31, 1⟩
def QSET_MAP_POL : Field := ⟨8, 1⟩
def QSET_MAP_GROUPS : Field := ⟨0, 8⟩
def RING_STAT_PORTS : Field := ⟨28, 4⟩
def RING_STAT_EP_RUN : Field := ⟨20, 8⟩
def RING_STAT_EP_TOTAL : Field := ⟨12, 8⟩
def RING_STAT_PORT_RUN : Field := ⟨0, 12⟩
def RING_CMD_CMD : Field := ⟨16, 4⟩
def RING_CMD_TARGET : Field := ⟨0, 9⟩
def RING_CFG_DELAY_INT : Field := ⟨0, 16⟩
def RING_CLR_CLEAR : Field := ⟨0, 1⟩
def RING_PORT_STAT_STATE : Field := ⟨28, 4⟩
def RING_PORT_STAT_MODE : Field := ⟨26, 2⟩
def RING_PORT_STAT_LOCK : Field := ⟨25, 1⟩
def RING_PORT_STAT_BROKEN : Field := ⟨24, 1⟩
def RING_PORT_STAT_BREAK_AT : Field := ⟨16, 8⟩
def RING_PORT_STAT_EP_FOUND : Field := ⟨8, 8⟩
def RING_PORT_STAT_EP_IMAGE : Field := ⟨0, 8⟩
def RING_PORT_LOOP_L_G : Field := ⟨0, 32⟩
def RING_PORT_CNT_CRC_ERR : Field := ⟨16, 16⟩
def RING_PORT_CNT_LOCK_LOSS : Field := ⟨0, 16⟩
def RING_PORT_TRIP_SETS : Field := ⟨24, 8⟩
def RING_PORT_TRIP_GROUPS : Field := ⟨16, 8⟩
def RING_PORT_TRIP_ORIGIN : Field := ⟨8, 8⟩
def RING_PORT_LEAD_LEAD : Field := ⟨0, 16⟩
def RING_EP_STAT_STATE : Field := ⟨28, 4⟩
def RING_EP_STAT_CLASS : Field := ⟨24, 4⟩
def RING_EP_STAT_LEGS : Field := ⟨20, 4⟩
def RING_EP_STAT_MISMATCH : Field := ⟨19, 1⟩
def RING_EP_STAT_SAFE_TMO : Field := ⟨18, 1⟩
def RING_EP_STAT_LOCAL_TRIP : Field := ⟨17, 1⟩
def RING_EP_STAT_TURN : Field := ⟨16, 1⟩
def RING_EP_STAT_EPOCH : Field := ⟨0, 16⟩
def RING_EP_DLY_LO_D : Field := ⟨0, 32⟩
def RING_EP_DLY_HI_D : Field := ⟨0, 32⟩
def RING_EP_CNT_MISSED : Field := ⟨16, 16⟩
def RING_EP_REP_0_DROPPED : Field := ⟨16, 16⟩
def RING_EP_REP_0_STRETCHED : Field := ⟨0, 16⟩
def RING_EP_REP_1_STALE : Field := ⟨0, 16⟩
def SST_STAT_RT_STATE : Field := ⟨28, 4⟩
def SST_STAT_PLL_LOCK : Field := ⟨27, 1⟩
def SST_STAT_MOD_ON : Field := ⟨26, 1⟩
def SST_STAT_OVERMOD : Field := ⟨25, 1⟩
def SST_STAT_ZSEQ_LIM : Field := ⟨24, 1⟩
def SST_STAT_INTRA_LIM : Field := ⟨23, 1⟩
def SST_STAT_SHARE_LIM : Field := ⟨22, 1⟩
def SST_STAT_BUS_SUPPORT : Field := ⟨21, 1⟩
def SST_STAT_INTER_HOLD : Field := ⟨20, 1⟩
def SST_STAT_D3_LIM : Field := ⟨19, 1⟩
def SST_STAT_DAB_MODE : Field := ⟨16, 3⟩
def SST_CFG_N_PHASE : Field := ⟨24, 8⟩
def SST_CFG_N_MIN : Field := ⟨16, 8⟩
def SST_CFG_F_NOM : Field := ⟨15, 1⟩
def SST_CFG_INTERLEAVE_3 : Field := ⟨14, 1⟩
def SST_CFG_CM_MODE : Field := ⟨12, 2⟩
def SST_CFG_V_LL_NOM : Field := ⟨0, 12⟩
def SST_VC_REF_REF : Field := ⟨0, 16⟩
def SST_VBUS_REF_SUPPORT : Field := ⟨24, 8⟩
def SST_VBUS_REF_REF : Field := ⟨0, 16⟩
def SST_P_LIM_IMPORT : Field := ⟨16, 16⟩
def SST_P_LIM_EXPORT : Field := ⟨0, 16⟩
def SST_Q_CTRL_MODE : Field := ⟨30, 2⟩
def SST_Q_CTRL_PF : Field := ⟨16, 12⟩
def SST_Q_CTRL_Q_REF : Field := ⟨0, 16⟩
def SST_I_LIM_PRIO : Field := ⟨16, 1⟩
def SST_I_LIM_I_MAX : Field := ⟨0, 16⟩
def SST_MOD_LIM_ZSEQ_MAX : Field := ⟨24, 8⟩
def SST_MOD_LIM_INTRA_MAX : Field := ⟨16, 8⟩
def SST_MOD_LIM_SHARE_MAX : Field := ⟨8, 8⟩
def SST_MOD_LIM_M_MAX : Field := ⟨0, 8⟩
def SST_DAB_CFG_MODE : Field := ⟨29, 3⟩
def SST_DAB_CFG_ILV : Field := ⟨28, 1⟩
def SST_DAB_CFG_LIGHT : Field := ⟨16, 8⟩
def SST_DAB_CFG_D3_MAX : Field := ⟨8, 8⟩
def SST_PLL_FREQ : Field := ⟨16, 16⟩
def SST_PLL_ROCOF : Field := ⟨0, 16⟩
def SST_GRID_U_U_POS : Field := ⟨16, 16⟩
def SST_GRID_U_U_NEG : Field := ⟨0, 16⟩
def SST_GRID_PQ_P : Field := ⟨16, 16⟩
def SST_GRID_PQ_Q : Field := ⟨0, 16⟩
def SST_BUS_V_BUS : Field := ⟨16, 16⟩
def SST_BUS_P_DAB : Field := ⟨0, 16⟩
def SST_CNT_OVERMOD : Field := ⟨16, 16⟩
def SST_CNT_RT_EVENTS : Field := ⟨0, 16⟩
def SST_CLR_CLEAR : Field := ⟨0, 1⟩
def SST_RT_CFG_U_LOW : Field := ⟨24, 8⟩
def SST_RT_CFG_U_HIGH : Field := ⟨16, 8⟩
def SST_RT_CFG_U_BLOCK : Field := ⟨8, 8⟩
def SST_RT_CFG_K : Field := ⟨0, 8⟩
def SST_RT_CFG2_RAMP : Field := ⟨24, 8⟩
def SST_RT_CFG2_K2 : Field := ⟨16, 8⟩
def SST_RT_CFG2_F_BAND : Field := ⟨8, 8⟩
def SST_RT_CFG2_F_TMO : Field := ⟨0, 8⟩
def SST_RT_LV_U : Field := ⟨24, 8⟩
def SST_RT_LV_T : Field := ⟨0, 16⟩
def SST_RT_HV_U : Field := ⟨24, 8⟩
def SST_RT_HV_T : Field := ⟨0, 16⟩
def SST_RT_LOG_KIND : Field := ⟨28, 4⟩
def SST_RT_LOG_OUTCOME : Field := ⟨24, 4⟩
def SST_RT_LOG_U_EXT : Field := ⟨16, 8⟩
def SST_RT_LOG_DUR : Field := ⟨0, 16⟩
def SST_PHASE_N_ACTIVE : Field := ⟨24, 8⟩
def SST_PHASE_VSUM : Field := ⟨0, 20⟩
def SST_CELL_V_VC : Field := ⟨16, 16⟩
def SST_CELL_V_I_DAB : Field := ⟨0, 16⟩
def SST_CELL_MOD_DELTA : Field := ⟨16, 16⟩
def SST_CELL_MOD_TRIM : Field := ⟨0, 16⟩
def SST_CELL_CAR_EPOCH : Field := ⟨16, 16⟩
def SST_CELL_CAR_ACTIVE : Field := ⟨15, 1⟩
def SST_CELL_CAR_PHASE : Field := ⟨13, 2⟩
def SST_CELL_CAR_SLOT : Field := ⟨0, 5⟩
def SST_CELL_EP_EP : Field := ⟨0, 9⟩
def SST_RUN_STAT_STATE : Field := ⟨28, 4⟩
def SST_RUN_STAT_ABORT : Field := ⟨24, 4⟩
def SST_RUN_STAT_PRE_CLOSED : Field := ⟨23, 1⟩
def SST_RUN_STAT_MAIN_CLOSED : Field := ⟨22, 1⟩
def SST_RUN_STAT_DISCHARGED : Field := ⟨21, 1⟩
def SST_RUN_STAT_NO_SPARE : Field := ⟨20, 1⟩
def SST_RUN_STAT_RESTARTS : Field := ⟨16, 4⟩
def SST_RUN_STAT_FAILED : Field := ⟨8, 8⟩
def SST_RUN_STAT_BYPASSED : Field := ⟨0, 8⟩
def SST_RUN_CTRL_ACK_LOCKOUT : Field := ⟨2, 1⟩
def SST_RUN_CTRL_DEENERGISE : Field := ⟨1, 1⟩
def SST_RUN_CTRL_ENERGISE : Field := ⟨0, 1⟩
def SST_PRE_CFG_PRE_TMO : Field := ⟨24, 8⟩
def SST_PRE_CFG_WINDOW : Field := ⟨16, 8⟩
def SST_PRE_CFG_PRE_RAMP : Field := ⟨8, 8⟩
def SST_PRE_CFG_BUS_RAMP : Field := ⟨0, 8⟩
def SST_BRK_CFG_GROUP : Field := ⟨24, 8⟩
def SST_BRK_CFG_BRK_TMO : Field := ⟨16, 8⟩
def SST_BRK_CFG_STOP_TMO : Field := ⟨8, 8⟩
def SST_BRK_CFG_BYP_TMO : Field := ⟨0, 8⟩
def SST_PROT_CELL_OV_TRIP : Field := ⟨24, 8⟩
def SST_PROT_CELL_OV_WARN : Field := ⟨16, 8⟩
def SST_PROT_CELL_UV_BYP : Field := ⟨8, 8⟩
def SST_PROT_CELL_MISS_TRIP : Field := ⟨4, 4⟩
def SST_PROT_TEMP_TEMP_BYP : Field := ⟨16, 16⟩
def SST_PROT_TEMP_TEMP_WARN : Field := ⟨0, 16⟩
def SST_PROT_PHASE_I_OC : Field := ⟨20, 12⟩
def SST_PROT_PHASE_I_EARTH : Field := ⟨10, 10⟩
def SST_PROT_PHASE_SPREAD : Field := ⟨4, 6⟩
def SST_PROT_DAB_DAB_OC : Field := ⟨16, 16⟩
def SST_PROT_DAB_VBUS_OV : Field := ⟨8, 8⟩
def SST_RESTART_CFG_AUTO : Field := ⟨31, 1⟩
def SST_RESTART_CFG_RESTART_MAX : Field := ⟨16, 8⟩
def SST_RESTART_CFG_RESTART_DLY : Field := ⟨8, 8⟩
def SST_RESTART_CFG_TRIP_HOLD : Field := ⟨0, 8⟩
def SST_BRK_SRC_OPEN_NOW : Field := ⟨0, 32⟩
def SST_PROT_CNT_HARD : Field := ⟨24, 8⟩
def SST_PROT_CNT_SOFT : Field := ⟨16, 8⟩
def SST_PROT_CNT_TRIPS : Field := ⟨8, 8⟩
def SST_PROT_CNT_ABORTS : Field := ⟨0, 8⟩
def SST_CELL_STAT_STATE : Field := ⟨28, 4⟩
def SST_CELL_STAT_FAULT : Field := ⟨8, 8⟩
def SST_CELL_STAT_STATUS : Field := ⟨0, 8⟩
def SST_CELL_CMD_RESTORE : Field := ⟨1, 1⟩
def SST_CELL_CMD_BYPASS : Field := ⟨0, 1⟩
def SST_CELL_HIST_BYPASSES : Field := ⟨16, 16⟩
def SST_CELL_HIST_HARD : Field := ⟨0, 16⟩
def OUTS_STAT_OUTLETS : Field := ⟨28, 4⟩
def OUTS_STAT_PHASES : Field := ⟨16, 8⟩
def OUTS_STAT_FAULTED : Field := ⟨8, 8⟩
def OUTS_STAT_RUN : Field := ⟨0, 8⟩
def OUTS_CLR_CLEAR : Field := ⟨0, 1⟩
def OUTS_O_STAT_STATE : Field := ⟨28, 4⟩
def OUTS_O_STAT_LOCK_REASON : Field := ⟨24, 4⟩
def OUTS_O_STAT_MODE : Field := ⟨22, 2⟩
def OUTS_O_STAT_LIMITER : Field := ⟨19, 3⟩
def OUTS_O_STAT_EXPORT : Field := ⟨18, 1⟩
def OUTS_O_STAT_ATTEMPT : Field := ⟨16, 2⟩
def OUTS_O_STAT_PH_SET : Field := ⟨8, 8⟩
def OUTS_O_STAT_PH_ON : Field := ⟨0, 8⟩
def OUTS_O_CTRL_ACK_LOCKOUT : Field := ⟨1, 1⟩
def OUTS_O_CTRL_STOP : Field := ⟨0, 1⟩
def OUTS_O_MEAS_V_OUT : Field := ⟨16, 16⟩
def OUTS_O_MEAS_I_OUT : Field := ⟨0, 16⟩
def OUTS_O_REF_V_TGT : Field := ⟨16, 16⟩
def OUTS_O_REF_I_REF : Field := ⟨0, 16⟩
def OUTS_O_CAP_I_CAP : Field := ⟨16, 16⟩
def OUTS_O_CAP_I_PH_RATED : Field := ⟨0, 16⟩
def OUTS_O_LIM_I_PH_LIM : Field := ⟨16, 16⟩
def OUTS_O_LIM_I_RAMP : Field := ⟨0, 16⟩
def OUTS_SS_CFG_SS_RAMP : Field := ⟨24, 8⟩
def OUTS_SS_CFG_TRACK_WIN : Field := ⟨16, 8⟩
def OUTS_SS_CFG_I_SS : Field := ⟨0, 16⟩
def OUTS_SHED_CFG_SHED_LEVEL : Field := ⟨24, 8⟩
def OUTS_SHED_CFG_ADD_LEVEL : Field := ⟨16, 8⟩
def OUTS_SHED_CFG_SHED_DLY : Field := ⟨8, 8⟩
def OUTS_SHED_CFG_SHED_EN : Field := ⟨7, 1⟩
def OUTS_SHED_CFG_LS_DET : Field := ⟨0, 7⟩
def OUTS_IMB_CFG_IMB_WARN : Field := ⟨24, 8⟩
def OUTS_IMB_CFG_IMB_TRIP : Field := ⟨16, 8⟩
def OUTS_IMB_CFG_N_MIN_PH : Field := ⟨8, 8⟩
def OUTS_PROT_OV_MARGIN : Field := ⟨24, 8⟩
def OUTS_PROT_I_OC : Field := ⟨0, 16⟩
def OUTS_O_CNT_SHEDS : Field := ⟨24, 8⟩
def OUTS_O_CNT_REVERSALS : Field := ⟨16, 8⟩
def OUTS_O_CNT_ABORTS : Field := ⟨8, 8⟩
def OUTS_O_CNT_TRIPS : Field := ⟨0, 8⟩
def OUTS_O_SET_EPOCH : Field := ⟨16, 16⟩
def OUTS_O_SET_GROUP : Field := ⟨13, 3⟩
def OUTS_PH_STAT_STATE : Field := ⟨28, 4⟩
def OUTS_PH_STAT_CAUSE : Field := ⟨24, 4⟩
def OUTS_PH_STAT_STEP : Field := ⟨20, 4⟩
def OUTS_PH_STAT_OUTLET : Field := ⟨8, 8⟩
def OUTS_PH_STAT_SLOT : Field := ⟨0, 8⟩
def OUTS_PH_MAP_KIND : Field := ⟨31, 1⟩
def OUTS_PH_MAP_HOME : Field := ⟨16, 1⟩
def OUTS_PH_MAP_SOURCE : Field := ⟨0, 9⟩
def OUTS_PH_MEAS_I_PH : Field := ⟨16, 16⟩
def OUTS_PH_MEAS_TEMP : Field := ⟨0, 16⟩
def OUTS_PH_IMB_DEV : Field := ⟨16, 16⟩
def OUTS_PH_IMB_WARNS : Field := ⟨0, 16⟩
def OUTS_PH_CMD_RESTORE : Field := ⟨0, 1⟩
def ALOC_STAT_BINDING : Field := ⟨28, 4⟩
def ALOC_STAT_DEM_STALE : Field := ⟨27, 1⟩
def ALOC_STAT_PUB_STALE : Field := ⟨26, 1⟩
def ALOC_STAT_NET : Field := ⟨25, 1⟩
def ALOC_STAT_DEM_ON : Field := ⟨24, 1⟩
def ALOC_STAT_ELIGIBLE : Field := ⟨16, 8⟩
def ALOC_STAT_BUDGET : Field := ⟨0, 16⟩
def ALOC_CFG_QUANTUM : Field := ⟨24, 8⟩
def ALOC_CFG_NET_EN : Field := ⟨16, 1⟩
def ALOC_CFG_SITE_RAMP : Field := ⟨0, 16⟩
def ALOC_GRID_IMPORT_CAP : Field := ⟨16, 16⟩
def ALOC_GRID_EXPORT_CAP : Field := ⟨0, 16⟩
def ALOC_SITE_P_AUX : Field := ⟨16, 16⟩
def ALOC_SITE_T_J_MAX : Field := ⟨0, 16⟩
def ALOC_EFF_EFF_SITE : Field := ⟨16, 16⟩
def ALOC_EFF_EFF_OS : Field := ⟨0, 16⟩
def ALOC_EXPORT_EXPORT_TGT : Field := ⟨0, 16⟩
def ALOC_DEMAND_DEM_EN : Field := ⟨31, 1⟩
def ALOC_DEMAND_MARGIN : Field := ⟨24, 5⟩
def ALOC_DEMAND_E_LIM : Field := ⟨0, 24⟩
def ALOC_PRICE_PL : Field := ⟨28, 4⟩
def ALOC_PRICE_SRC : Field := ⟨4, 1⟩
def ALOC_PRICE_LEVEL : Field := ⟨0, 4⟩
def ALOC_PRICE_TAB_LEVEL_0 : Field := ⟨0, 4⟩
def ALOC_PRICE_TAB_LEVEL_1 : Field := ⟨4, 4⟩
def ALOC_PRICE_TAB_LEVEL_2 : Field := ⟨8, 4⟩
def ALOC_PRICE_TAB_LEVEL_3 : Field := ⟨12, 4⟩
def ALOC_PRICE_TAB_LEVEL_4 : Field := ⟨16, 4⟩
def ALOC_PRICE_TAB_LEVEL_5 : Field := ⟨20, 4⟩
def ALOC_PRICE_TAB_LEVEL_6 : Field := ⟨24, 4⟩
def ALOC_PRICE_TAB_LEVEL_7 : Field := ⟨28, 4⟩
def ALOC_DEM_STAT_T_REM : Field := ⟨20, 12⟩
def ALOC_DEM_STAT_P_DEM : Field := ⟨0, 20⟩
def ALOC_DEM_E_E_EST : Field := ⟨0, 32⟩
def ALOC_BUD_KW : Field := ⟨0, 32⟩
def ALOC_CLASS_WEIGHT : Field := ⟨24, 4⟩
def ALOC_CLASS_PRICE_THR : Field := ⟨16, 4⟩
def ALOC_CLASS_MIN_Q : Field := ⟨0, 16⟩
def ALOC_TICK_COUNT : Field := ⟨0, 32⟩
def ALOC_TTIME_MAX : Field := ⟨16, 16⟩
def ALOC_TTIME_LAST : Field := ⟨0, 16⟩
def ALOC_JUNC_STAT_CELL : Field := ⟨24, 8⟩
def ALOC_JUNC_STAT_LOSS : Field := ⟨0, 16⟩
def ALOC_CNT_DEM_STALE : Field := ⟨16, 16⟩
def ALOC_CNT_PUB_STALE : Field := ⟨0, 16⟩
def ALOC_CLR_CLEAR : Field := ⟨0, 1⟩
def ALOC_O_CFG_RAMP_UP : Field := ⟨16, 16⟩
def ALOC_O_CFG_CLASS : Field := ⟨0, 2⟩
def ALOC_O_LIM_P_MAX : Field := ⟨16, 16⟩
def ALOC_O_LIM_P_EXP_MAX : Field := ⟨0, 16⟩
def ALOC_O_GRANT_GRANT : Field := ⟨16, 16⟩
def ALOC_O_GRANT_CAP : Field := ⟨4, 12⟩
def ALOC_O_GRANT_LIMIT : Field := ⟨0, 4⟩
def ALOC_O_IN_P_EV : Field := ⟨16, 16⟩
def ALOC_O_IN_P_TC : Field := ⟨0, 16⟩
def ALOC_O_IN2_P_PH : Field := ⟨16, 16⟩
def ALOC_O_IN2_I_TC : Field := ⟨0, 16⟩
def COOL_STAT_LOSS : Field := ⟨24, 8⟩
def COOL_STAT_DERATE : Field := ⟨16, 8⟩
def COOL_STAT_COOLED : Field := ⟨8, 8⟩
def COOL_STAT_TRIP : Field := ⟨0, 8⟩
def COOL_CLR_CLEAR : Field := ⟨0, 1⟩
def COOL_O_STAT_STATE : Field := ⟨28, 4⟩
def COOL_O_STAT_CAUSE : Field := ⟨26, 2⟩
def COOL_O_STAT_FLOW_LOW : Field := ⟨25, 1⟩
def COOL_O_STAT_CONN_FAIL : Field := ⟨24, 1⟩
def COOL_O_STAT_LEAK : Field := ⟨23, 1⟩
def COOL_O_STAT_K_CONN : Field := ⟨8, 8⟩
def COOL_O_STAT_PIN_MAX : Field := ⟨0, 8⟩
def COOL_O_CTRL_ACK : Field := ⟨0, 1⟩
def COOL_O_EST_TH_CD : Field := ⟨16, 16⟩
def COOL_O_EST_TH_JK : Field := ⟨0, 16⟩
def COOL_O_TC_I_TC : Field := ⟨16, 16⟩
def COOL_O_TC_I_SS : Field := ⟨0, 16⟩
def COOL_O_MEAS_TH_SUP : Field := ⟨16, 16⟩
def COOL_O_MEAS_TH_RET : Field := ⟨0, 16⟩
def COOL_O_FLOW_FLOW : Field := ⟨16, 16⟩
def COOL_O_FLOW_PUMP : Field := ⟨8, 8⟩
def COOL_O_FLOW_FAN : Field := ⟨0, 8⟩
def COOL_O_LIM_TH_MAX : Field := ⟨24, 8⟩
def COOL_O_LIM_CONN_DERATE : Field := ⟨16, 8⟩
def COOL_O_LIM_CONN_MAX : Field := ⟨8, 8⟩
def COOL_O_LIM_CONN_TRIP : Field := ⟨0, 8⟩
def COOL_O_FCFG_FLOW_LOW : Field := ⟨24, 8⟩
def COOL_O_FCFG_FLOW_LOSS : Field := ⟨16, 8⟩
def COOL_O_FCFG_FLOW_TMO : Field := ⟨8, 8⟩
def COOL_O_FCFG_RUN_ON_MAX : Field := ⟨0, 8⟩
def COOL_O_CFG_HOR : Field := ⟨24, 8⟩
def COOL_O_CFG_PUMP_MIN : Field := ⟨16, 8⟩
def COOL_O_CFG_COOL_SET : Field := ⟨8, 8⟩
def COOL_O_CFG_TRIP_MARGIN : Field := ⟨0, 8⟩
def COOL_O_CNT_LOSSES : Field := ⟨24, 8⟩
def COOL_O_CNT_FLOW_LOWS : Field := ⟨16, 8⟩
def COOL_O_CNT_CONN_TRIPS : Field := ⟨8, 8⟩
def COOL_O_CNT_CABLE_TRIPS : Field := ⟨0, 8⟩
def THERM_STAT_FAULT : Field := ⟨0, 32⟩
def THERM_CLR_CLEAR : Field := ⟨0, 1⟩
def THERM_CFG_ROLE : Field := ⟨28, 4⟩
def THERM_CFG_OUTLET : Field := ⟨24, 4⟩
def THERM_CFG_TYPE : Field := ⟨16, 2⟩
def THERM_CFG_FILT : Field := ⟨0, 3⟩
def THERM_VAL_TEMP : Field := ⟨16, 16⟩
def THERM_VAL_VALID : Field := ⟨15, 1⟩
def THERM_VAL_OPEN : Field := ⟨14, 1⟩
def THERM_VAL_SHORT : Field := ⟨13, 1⟩
def THERM_VAL_RANGE : Field := ⟨12, 1⟩
def THERM_NTC_B : Field := ⟨16, 16⟩
def THERM_NTC_R25 : Field := ⟨0, 16⟩
def THERM_CNT_OPENS : Field := ⟨16, 16⟩
def THERM_CNT_SHORTS : Field := ⟨0, 16⟩
def OUTL_STAT_AVAIL : Field := ⟨24, 8⟩
def OUTL_STAT_TRANSFER : Field := ⟨16, 8⟩
def OUTL_STAT_FAULT : Field := ⟨8, 8⟩
def OUTL_STAT_PRESENT : Field := ⟨0, 8⟩
def OUTL_CLR_CLEAR : Field := ⟨0, 1⟩
def OUTL_O_STAT_STATE : Field := ⟨28, 4⟩
def OUTL_O_STAT_REASON : Field := ⟨24, 4⟩
def OUTL_O_STAT_SIG : Field := ⟨22, 2⟩
def OUTL_O_STAT_PROTO : Field := ⟨20, 2⟩
def OUTL_O_STAT_EXPORT : Field := ⟨19, 1⟩
def OUTL_O_STAT_TLS : Field := ⟨18, 1⟩
def OUTL_O_STAT_IMD_OK : Field := ⟨17, 1⟩
def OUTL_O_STAT_IMD_WARN : Field := ⟨16, 1⟩
def OUTL_O_STAT_FB_P : Field := ⟨15, 1⟩
def OUTL_O_STAT_FB_N : Field := ⟨14, 1⟩
def OUTL_O_STAT_DISCH : Field := ⟨13, 1⟩
def OUTL_O_STAT_INHIBIT : Field := ⟨12, 1⟩
def OUTL_O_STAT_PP : Field := ⟨10, 2⟩
def OUTL_O_CTRL_ACK_FAULT : Field := ⟨3, 1⟩
def OUTL_O_CTRL_ENABLE : Field := ⟨2, 1⟩
def OUTL_O_CTRL_DISABLE : Field := ⟨1, 1⟩
def OUTL_O_CTRL_STOP : Field := ⟨0, 1⟩
def OUTL_O_CFG_KIND : Field := ⟨30, 2⟩
def OUTL_O_CFG_BIDIR : Field := ⟨29, 1⟩
def OUTL_O_CFG_ACD : Field := ⟨28, 1⟩
def OUTL_O_CFG_PROTO_EN : Field := ⟨24, 3⟩
def OUTL_O_RATED_V_RATED : Field := ⟨16, 16⟩
def OUTL_O_RATED_I_RATED : Field := ⟨0, 16⟩
def OUTL_O_EV_V_TGT : Field := ⟨16, 16⟩
def OUTL_O_EV_V_MAX : Field := ⟨0, 16⟩
def OUTL_O_EVI_I_EV : Field := ⟨16, 16⟩
def OUTL_O_EVI_P_EV_MAX : Field := ⟨0, 16⟩
def OUTL_O_CHK_V_CHK : Field := ⟨24, 8⟩
def OUTL_O_CHK_CHK_WIN : Field := ⟨16, 8⟩
def OUTL_O_CHK_CC_SETTLE : Field := ⟨8, 8⟩
def OUTL_O_CHK_WELD_WIN : Field := ⟨0, 8⟩
def OUTL_O_TMO_I_BREAK : Field := ⟨24, 8⟩
def OUTL_O_TMO_CONT_TMO : Field := ⟨16, 8⟩
def OUTL_O_TMO_EMERG_TMO : Field := ⟨8, 8⟩
def OUTL_O_TMO_CC_TMO : Field := ⟨0, 8⟩
def OUTL_O_SESS_NUMBER : Field := ⟨0, 32⟩
def OUTL_O_CNT_PRECHECK_FAILS : Field := ⟨24, 8⟩
def OUTL_O_CNT_ISO_FAULTS : Field := ⟨16, 8⟩
def OUTL_O_CNT_EMERG_ENDS : Field := ⟨8, 8⟩
def OUTL_O_CNT_WELDS : Field := ⟨0, 8⟩
def OUTL_O_LINK_LINK_TMO : Field := ⟨0, 8⟩
def SAFE_STAT_CH_A : Field := ⟨28, 4⟩
def SAFE_STAT_CH_B : Field := ⟨24, 4⟩
def SAFE_STAT_CONFIRMED : Field := ⟨23, 1⟩
def SAFE_STAT_ESTOP : Field := ⟨22, 1⟩
def SAFE_STAT_ESTOP_DISC : Field := ⟨21, 1⟩
def SAFE_STAT_OUT_FAULT : Field := ⟨20, 1⟩
def SAFE_STAT_AX_ENABLED : Field := ⟨18, 2⟩
def SAFE_STAT_CONN_LOST : Field := ⟨0, 16⟩
def SAFE_CTRL_RESET_FAULT : Field := ⟨1, 1⟩
def SAFE_CTRL_REOPEN : Field := ⟨0, 1⟩
def SAFE_CHECK_RUN_VALUE : Field := ⟨0, 32⟩
def SAFE_CHECK_COMM_VALUE : Field := ⟨0, 32⟩
def SAFE_CONFIRM_VALUE : Field := ⟨0, 32⟩
def SAFE_IN_CFG_ESTOP_DISC : Field := ⟨24, 8⟩
def SAFE_IN_CFG_FB_DISC : Field := ⟨16, 8⟩
def SAFE_IN_CFG_ESTOP_OUTLETS : Field := ⟨8, 8⟩
def SAFE_IN_CFG_REMOTE_RST : Field := ⟨0, 1⟩
def SAFE_FB_STAT_WELD : Field := ⟨24, 8⟩
def SAFE_FB_STAT_FAULT : Field := ⟨16, 8⟩
def SAFE_FB_STAT_FB : Field := ⟨0, 16⟩
def SAFE_FB_ACK_ACK : Field := ⟨0, 8⟩
def SAFE_CNT_REACTIONS : Field := ⟨24, 8⟩
def SAFE_CNT_PARTNER_LOSSES : Field := ⟨16, 8⟩
def SAFE_CNT_CROSS : Field := ⟨8, 8⟩
def SAFE_CNT_RESETS : Field := ⟨0, 8⟩
def SAFE_CLR_CLEAR : Field := ⟨0, 1⟩
def SAFE_AX_STAT_STATE : Field := ⟨28, 4⟩
def SAFE_AX_STAT_CAUSE : Field := ⟨24, 4⟩
def SAFE_AX_STAT_ZONE : Field := ⟨23, 1⟩
def SAFE_AX_STAT_STILL : Field := ⟨22, 1⟩
def SAFE_AX_STAT_ENC_POS : Field := ⟨21, 1⟩
def SAFE_AX_STAT_ENC_SPD : Field := ⟨20, 1⟩
def SAFE_AX_STAT_ENC_OPEN_0 : Field := ⟨19, 1⟩
def SAFE_AX_STAT_ENC_OPEN_1 : Field := ⟨18, 1⟩
def SAFE_AX_STAT_STOA : Field := ⟨17, 1⟩
def SAFE_AX_STAT_STOB : Field := ⟨16, 1⟩
def SAFE_AX_STAT_BRKA : Field := ⟨15, 1⟩
def SAFE_AX_STAT_BRKB : Field := ⟨14, 1⟩
def SAFE_AX_CTRL_RESET : Field := ⟨0, 1⟩
def SAFE_AX_POS_P : Field := ⟨0, 32⟩
def SAFE_AX_SPD_V : Field := ⟨16, 16⟩
def SAFE_AX_SPD_V_ENV : Field := ⟨0, 16⟩
def SAFE_AX_SLS_SLS_0 : Field := ⟨16, 16⟩
def SAFE_AX_SLS_SLS_1 : Field := ⟨0, 16⟩
def SAFE_AX_SLP_LO_LIMIT : Field := ⟨0, 32⟩
def SAFE_AX_SLP_HI_LIMIT : Field := ⟨0, 32⟩
def SAFE_AX_SS1_DEC : Field := ⟨16, 16⟩
def SAFE_AX_SS1_SS1_TMO : Field := ⟨8, 8⟩
def SAFE_AX_SS1_STO_HOLD : Field := ⟨0, 8⟩
def SAFE_AX_ENC_POS_TOL : Field := ⟨16, 16⟩
def SAFE_AX_ENC_SPD_TOL : Field := ⟨8, 8⟩
def SAFE_AX_ENC_V_STILL : Field := ⟨0, 8⟩
def SAFE_AX_CFG_SDI_TOL : Field := ⟨16, 16⟩
def SAFE_AX_CFG_SLP_EN : Field := ⟨7, 1⟩
def SAFE_AX_CFG_SLS_REACT : Field := ⟨6, 1⟩
def SAFE_AX_CFG_ESTOP_CAT : Field := ⟨5, 1⟩
def SAFE_AX_CFG_SDI_DIR : Field := ⟨3, 2⟩
def SAFE_CONN_STAT_STATE : Field := ⟨30, 2⟩
def SAFE_CONN_STAT_DIR : Field := ⟨29, 1⟩
def SAFE_CONN_STAT_SEQ : Field := ⟨0, 16⟩
def SAFE_CONN_CNT_LOST_FRAMES : Field := ⟨16, 16⟩
def SAFE_CONN_CNT_REPEATS : Field := ⟨8, 8⟩
def SAFE_CONN_CNT_BAD : Field := ⟨0, 8⟩
def METR_STAT_SEAL : Field := ⟨30, 2⟩
def METR_STAT_LINK : Field := ⟨29, 1⟩
def METR_STAT_FREE : Field := ⟨28, 1⟩
def METR_STAT_DIE_OK : Field := ⟨27, 1⟩
def METR_STAT_HARM : Field := ⟨26, 1⟩
def METR_STAT_AC_VALID : Field := ⟨25, 1⟩
def METR_STAT_AC_TEST : Field := ⟨24, 1⟩
def METR_STAT_DC_TEST : Field := ⟨16, 8⟩
def METR_STAT_DC_VALID : Field := ⟨8, 8⟩
def METR_SEAL_CAL_COUNT : Field := ⟨16, 16⟩
def METR_ID_FW_VER : Field := ⟨16, 16⟩
def METR_ID_FW_CHECK : Field := ⟨0, 16⟩
def METR_SEAL_TS_LO_COUNT : Field := ⟨0, 32⟩
def METR_SEAL_TS_HI_COUNT : Field := ⟨0, 32⟩
def METR_MAP_DIG_BYTES : Field := ⟨0, 32⟩
def METR_CAL_DIG_BYTES : Field := ⟨0, 32⟩
def METR_CAL_CTRL_AC_TEST : Field := ⟨8, 1⟩
def METR_CAL_CTRL_DC_TEST : Field := ⟨0, 8⟩
def METR_CLR_CLEAR : Field := ⟨0, 1⟩
def METR_AC_FREQ_FREQ : Field := ⟨16, 16⟩
def METR_AC_V_VRMS : Field := ⟨0, 32⟩
def METR_AC_I_IRMS : Field := ⟨0, 32⟩
def METR_AC_P_P : Field := ⟨0, 32⟩
def METR_AC_Q_Q : Field := ⟨0, 32⟩
def METR_DC_V_V : Field := ⟨0, 32⟩
def METR_DC_I_I : Field := ⟨0, 32⟩
def METR_DC_P_P : Field := ⟨0, 32⟩
def METR_DC_LOSS_R_CABLE : Field := ⟨0, 16⟩
def METR_TEST_IMP_E : Field := ⟨0, 32⟩
def METR_TEST_EXP_E : Field := ⟨0, 32⟩
def METR_CH_CFG_KIND : Field := ⟨28, 4⟩
def METR_CH_CFG_GROUP : Field := ⟨24, 4⟩
def METR_CH_CFG_ROLE : Field := ⟨20, 4⟩
def METR_CH_CFG_PHASE : Field := ⟨18, 2⟩
def METR_CH_CFG_PGA : Field := ⟨15, 3⟩
def METR_CH_CFG_TC_SRC : Field := ⟨14, 1⟩
def METR_CH_CFG_TC_CH : Field := ⟨8, 6⟩
def METR_CH_CFG_EXPORT_ALLOWED : Field := ⟨7, 1⟩
def METR_CH_CFG_LEGAL : Field := ⟨6, 1⟩
def METR_CH_SCALE_SCALE : Field := ⟨0, 32⟩
def METR_CH_STAT_OPEN : Field := ⟨31, 1⟩
def METR_CH_STAT_OVERLOAD : Field := ⟨30, 1⟩
def METR_CH_STAT_POLARITY : Field := ⟨29, 1⟩
def METR_CH_STAT_TEMP_SRC : Field := ⟨28, 1⟩
def METR_CH_STAT_TEMP_RANGE : Field := ⟨27, 1⟩
def METR_CH_RMS_RMS : Field := ⟨0, 32⟩
def METR_CH_CNT_OPENS : Field := ⟨16, 16⟩
def METR_CH_CNT_OVERLOADS : Field := ⟨0, 16⟩
def METR_CAL_GAIN_GAIN : Field := ⟨0, 32⟩
def METR_CAL_OFS_OFS : Field := ⟨0, 32⟩
def METR_CAL_PH_COIL_FC : Field := ⟨16, 16⟩
def METR_CAL_PH_PH : Field := ⟨0, 16⟩
def METR_TC_TEMP : Field := ⟨16, 16⟩
def METR_TC_GAIN : Field := ⟨0, 16⟩
def METR_TCP_PHASE : Field := ⟨0, 16⟩
def METR_HARM_SEL_CHANNEL : Field := ⟨0, 6⟩
def METR_HARM_STAT_THD : Field := ⟨16, 16⟩
def METR_HARM_STAT_WINDOWS : Field := ⟨0, 16⟩
def METR_HARM_MAG : Field := ⟨16, 16⟩
def METR_HARM_PHASE : Field := ⟨0, 16⟩
def BILL_STAT_TARIFF : Field := ⟨28, 3⟩
def BILL_STAT_SEASON : Field := ⟨26, 2⟩
def BILL_STAT_WEEK : Field := ⟨23, 3⟩
def BILL_STAT_DAY : Field := ⟨19, 4⟩
def BILL_STAT_SPECIAL : Field := ⟨18, 1⟩
def BILL_STAT_FREE : Field := ⟨17, 1⟩
def BILL_STAT_FLUSH_OK : Field := ⟨16, 1⟩
def BILL_STAT_PERIOD : Field := ⟨0, 16⟩
def BILL_CTRL_BILL_RESET : Field := ⟨0, 1⟩
def BILL_DEM_CFG_BILL_DAY : Field := ⟨16, 5⟩
def BILL_DEM_CFG_DEM_LEN : Field := ⟨0, 8⟩
def BILL_DEM_END_LO_COUNT : Field := ⟨0, 32⟩
def BILL_DEM_END_HI_COUNT : Field := ⟨0, 32⟩
def BILL_PWR_CUTS : Field := ⟨16, 16⟩
def BILL_PWR_INCOMPLETE : Field := ⟨0, 16⟩
def BILL_PWR_TS_LO_COUNT : Field := ⟨0, 32⟩
def BILL_PWR_TS_HI_COUNT : Field := ⟨0, 32⟩
def BILL_SEASON_EN : Field := ⟨31, 1⟩
def BILL_SEASON_MONTH : Field := ⟨16, 4⟩
def BILL_SEASON_DAY : Field := ⟨8, 5⟩
def BILL_SEASON_WEEK : Field := ⟨0, 3⟩
def BILL_WEEK_DAYS : Field := ⟨0, 28⟩
def BILL_SPECIAL_EN : Field := ⟨31, 1⟩
def BILL_SPECIAL_YEAR : Field := ⟨24, 7⟩
def BILL_SPECIAL_MONTH : Field := ⟨16, 4⟩
def BILL_SPECIAL_DAY : Field := ⟨8, 5⟩
def BILL_SPECIAL_PROFILE : Field := ⟨0, 4⟩
def BILL_DAY_EN : Field := ⟨31, 1⟩
def BILL_DAY_MINUTE : Field := ⟨16, 11⟩
def BILL_DAY_TARIFF : Field := ⟨0, 3⟩
def BILL_DISP_CFG_POINT : Field := ⟨28, 4⟩
def BILL_DISP_CFG_DWELL : Field := ⟨16, 8⟩
def BILL_DISP_ITEMS_CODE : Field := ⟨0, 32⟩
def BILL_TAMP_CNT_COUNT : Field := ⟨0, 32⟩
def BILL_TAMP_FIRST_LO_COUNT : Field := ⟨0, 32⟩
def BILL_TAMP_FIRST_HI_COUNT : Field := ⟨0, 32⟩
def BILL_TAMP_LAST_LO_COUNT : Field := ⟨0, 32⟩
def BILL_TAMP_LAST_HI_COUNT : Field := ⟨0, 32⟩
def BILL_REC_SEL_KIND : Field := ⟨30, 2⟩
def BILL_REC_SEL_NUMBER : Field := ⟨0, 24⟩
def BILL_REC_STAT_READY : Field := ⟨31, 1⟩
def BILL_REC_STAT_GONE : Field := ⟨30, 1⟩
def BILL_REC_STAT_LENGTH : Field := ⟨0, 11⟩
def BILL_REC_NEXT_SESSION : Field := ⟨16, 16⟩
def BILL_REC_NEXT_INTERVAL : Field := ⟨0, 16⟩
def BILL_E_VALUE : Field := ⟨0, 32⟩
def ACQ_STAT_ENGINES : Field := ⟨24, 8⟩
def ACQ_STAT_BUSY : Field := ⟨0, 16⟩
def ACQ_STORE_SIZE_MB : Field := ⟨16, 16⟩
def ACQ_STORE_FREE_MB : Field := ⟨0, 16⟩
def ACQ_CMD_ALL_ARM : Field := ⟨16, 16⟩
def ACQ_CMD_ALL_TRIG : Field := ⟨0, 16⟩
def ACQ_CLR_CLEAR : Field := ⟨0, 1⟩
def ACQ_RD_SEL_ENGINE : Field := ⟨28, 4⟩
def ACQ_RD_SEL_RECORD : Field := ⟨0, 24⟩
def ACQ_RD_OFS_PART : Field := ⟨15, 13⟩
def ACQ_RD_STAT_READY : Field := ⟨31, 1⟩
def ACQ_RD_STAT_GONE : Field := ⟨30, 1⟩
def ACQ_RD_STAT_OPEN : Field := ⟨29, 1⟩
def ACQ_RD_STAT_LENGTH : Field := ⟨0, 28⟩
def ACQ_E_STAT_STATE : Field := ⟨28, 4⟩
def ACQ_E_STAT_LAST : Field := ⟨0, 24⟩
def ACQ_E_CTRL_CLEAR_STORE : Field := ⟨3, 1⟩
def ACQ_E_CTRL_TRIG : Field := ⟨2, 1⟩
def ACQ_E_CTRL_STOP : Field := ⟨1, 1⟩
def ACQ_E_CTRL_ARM : Field := ⟨0, 1⟩
def ACQ_E_CFG_PRESET : Field := ⟨24, 8⟩
def ACQ_E_CFG_MODE : Field := ⟨22, 2⟩
def ACQ_E_CFG_FULL_POLICY : Field := ⟨21, 1⟩
def ACQ_E_CFG_COMBINE : Field := ⟨20, 1⟩
def ACQ_E_CFG_UNITS : Field := ⟨16, 4⟩
def ACQ_E_CFG_HOLDOFF : Field := ⟨0, 16⟩
def ACQ_E_RATE_CYCLE : Field := ⟨31, 1⟩
def ACQ_E_RATE_DIV : Field := ⟨0, 16⟩
def ACQ_E_PRE_PRE : Field := ⟨0, 32⟩
def ACQ_E_POST_POST : Field := ⟨0, 32⟩
def ACQ_E_CNT_TRIGGERS : Field := ⟨16, 16⟩
def ACQ_E_CNT_IGNORED : Field := ⟨0, 16⟩
def ACQ_E_PART_SIZE_MB : Field := ⟨16, 16⟩
def ACQ_E_PART_USED_MB : Field := ⟨0, 16⟩
def ACQ_E_TTIME_LO_COUNT : Field := ⟨0, 32⟩
def ACQ_E_TTIME_HI_COUNT : Field := ⟨0, 32⟩
def ACQ_E_TSEQ_INTERVAL : Field := ⟨8, 24⟩
def ACQ_E_TU_KIND : Field := ⟨28, 4⟩
def ACQ_E_TU_SEL : Field := ⟨24, 4⟩
def ACQ_E_TU_OP : Field := ⟨20, 4⟩
def ACQ_E_TU_ARG : Field := ⟨0, 20⟩
def ACQ_E_TID_IDE : Field := ⟨31, 1⟩
def ACQ_E_TID_ID : Field := ⟨0, 29⟩
def ACQ_E_TLVL_LEVEL : Field := ⟨0, 32⟩
def ACQ_E_TAUX_AUX : Field := ⟨0, 32⟩
def CAN_STAT_MODE : Field := ⟨28, 4⟩
def CAN_STAT_CONF : Field := ⟨26, 2⟩
def CAN_STAT_Q_FILL : Field := ⟨16, 8⟩
def CAN_STAT_Q_HIGH : Field := ⟨8, 8⟩
def CAN_CTRL_RESUME : Field := ⟨3, 1⟩
def CAN_CTRL_PURGE : Field := ⟨2, 1⟩
def CAN_CTRL_WAKE : Field := ⟨1, 1⟩
def CAN_CTRL_SLEEP : Field := ⟨0, 1⟩
def CAN_NBT_BRP : Field := ⟨24, 8⟩
def CAN_NBT_TSEG1 : Field := ⟨16, 8⟩
def CAN_NBT_TSEG2 : Field := ⟨8, 7⟩
def CAN_NBT_SJW : Field := ⟨0, 7⟩
def CAN_DBT_BRP : Field := ⟨27, 5⟩
def CAN_DBT_TSEG1 : Field := ⟨19, 8⟩
def CAN_DBT_TSEG2 : Field := ⟨13, 6⟩
def CAN_DBT_SJW : Field := ⟨7, 6⟩
def CAN_DBT_TDCO : Field := ⟨0, 7⟩
def CAN_CFG_FORMAT : Field := ⟨30, 2⟩
def CAN_CFG_OBJECTS : Field := ⟨16, 12⟩
def CAN_CFG_PORTS : Field := ⟨8, 8⟩
def CAN_CFG_XL_OBJ : Field := ⟨0, 8⟩
def CAN_ERR_TEC : Field := ⟨23, 9⟩
def CAN_ERR_REC : Field := ⟨15, 8⟩
def CAN_ERR_LAST : Field := ⟨0, 3⟩
def CAN_RECOV_RECOV_MAX : Field := ⟨8, 8⟩
def CAN_WIRE_FLAGS : Field := ⟨0, 6⟩
def CAN_WAKE_CFG_MODE : Field := ⟨30, 2⟩
def CAN_WAKE_CFG_IDE : Field := ⟨29, 1⟩
def CAN_WAKE_CFG_ID : Field := ⟨0, 29⟩
def CAN_WAKE_MASK_ID_MASK : Field := ⟨0, 29⟩
def CAN_WAKE_DATA_LO_MASK : Field := ⟨0, 32⟩
def CAN_WAKE_DATA_HI_MASK : Field := ⟨0, 32⟩
def CAN_WAKE_STAT_SRC : Field := ⟨30, 2⟩
def CAN_WAKE_STAT_IDE : Field := ⟨29, 1⟩
def CAN_WAKE_STAT_ID : Field := ⟨0, 29⟩
def CAN_CNT_TX_OK : Field := ⟨16, 16⟩
def CAN_CNT_RX_OK : Field := ⟨0, 16⟩
def CAN_CNT2_BUS_OFFS : Field := ⟨24, 8⟩
def CAN_CNT2_WIRE_FAULTS : Field := ⟨16, 8⟩
def CAN_CNT2_UNMATCHED : Field := ⟨0, 16⟩
def CAN_CNT3_LOST : Field := ⟨16, 16⟩
def CAN_CNT3_PURGED : Field := ⟨0, 16⟩
def CAN_CLR_CLEAR : Field := ⟨0, 1⟩
def CAN_PORT_CFG_PRODUCER : Field := ⟨28, 4⟩
def CAN_PORT_CFG_SEL : Field := ⟨26, 2⟩
def CAN_PORT_CFG_MODE : Field := ⟨24, 2⟩
def CAN_PORT_CFG_XL : Field := ⟨23, 1⟩
def CAN_PORT_CFG_PERIOD : Field := ⟨0, 16⟩
def CAN_PORT_ID_IDE : Field := ⟨31, 1⟩
def CAN_PORT_ID_FDF : Field := ⟨30, 1⟩
def CAN_PORT_ID_BRS : Field := ⟨29, 1⟩
def CAN_PORT_ID_ID : Field := ⟨0, 29⟩
def CAN_PORT_SEND_BUF : Field := ⟨30, 2⟩
def CAN_PORT_SEND_LEN : Field := ⟨0, 12⟩
def CAN_PORT_STAT_BUF : Field := ⟨26, 6⟩
def CAN_PORT_STAT_SKIPS : Field := ⟨0, 16⟩
def CAN_PORT_LAT_MAX : Field := ⟨16, 16⟩
def CAN_PORT_LAT_LAST : Field := ⟨0, 16⟩
def CAN_PORT_CNT_SENT : Field := ⟨16, 16⟩
def CAN_PORT_CNT_REFUSED : Field := ⟨0, 16⟩
def CAN_RX_SEL_PEEK : Field := ⟨31, 1⟩
def CAN_RX_SEL_OBJECT : Field := ⟨0, 10⟩
def CAN_RX_HDR_NEW : Field := ⟨31, 1⟩
def CAN_RX_HDR_LOST : Field := ⟨30, 1⟩
def CAN_RX_HDR_IDE : Field := ⟨29, 1⟩
def CAN_RX_HDR_ID : Field := ⟨0, 29⟩
def CAN_RX_INFO_FORMAT : Field := ⟨30, 2⟩
def CAN_RX_INFO_XL_OBJ : Field := ⟨29, 1⟩
def CAN_RX_INFO_LOOPBACK : Field := ⟨28, 1⟩
def CAN_RX_INFO_CONSUMER : Field := ⟨12, 4⟩
def CAN_RX_INFO_LEN : Field := ⟨0, 12⟩
def CAN_RX_TS_LO_COUNT : Field := ⟨0, 32⟩
def CAN_RX_TS_HI_COUNT : Field := ⟨0, 32⟩
def CAN_STAGING_DATA : Field := ⟨0, 32⟩
def CAN_XL_WIN_DATA : Field := ⟨0, 32⟩
def CAN_RX_WIN_DATA : Field := ⟨0, 32⟩
def LSW_STAT_FOG_ANY : Field := ⟨31, 1⟩
def LSW_STAT_FOG_EN : Field := ⟨30, 1⟩
def LSW_STAT_VAUX1_UV : Field := ⟨29, 1⟩
def LSW_STAT_VAUX2_UV : Field := ⟨28, 1⟩
def LSW_STAT_VAUX1_REV : Field := ⟨27, 1⟩
def LSW_STAT_VAUX2_REV : Field := ⟨26, 1⟩
def LSW_STAT_SHEDDING : Field := ⟨25, 1⟩
def LSW_STAT_ON : Field := ⟨0, 24⟩
def LSW_FAULT_CH : Field := ⟨0, 24⟩
def LSW_VAUX_VAUX_1 : Field := ⟨16, 16⟩
def LSW_VAUX_VAUX_2 : Field := ⟨0, 16⟩
def LSW_PKG_I_SUM : Field := ⟨16, 16⟩
def LSW_PKG_P_SW : Field := ⟨0, 16⟩
def LSW_FOGIN_FOG_EN : Field := ⟨8, 1⟩
def LSW_FOGIN_LEVEL : Field := ⟨0, 8⟩
def LSW_SNS_SEL_SNSC : Field := ⟨8, 3⟩
def LSW_SNS_SEL_SNSB : Field := ⟨4, 3⟩
def LSW_SNS_SEL_SNSA : Field := ⟨0, 3⟩
def LSW_CLR_CLEAR : Field := ⟨0, 1⟩
def LSW_CFG_CLASS : Field := ⟨31, 1⟩
def LSW_CFG_CONTROLLER : Field := ⟨28, 3⟩
def LSW_CFG_FOG : Field := ⟨27, 1⟩
def LSW_CFG_FOG_SRC : Field := ⟨23, 4⟩
def LSW_CFG_OL_TEST : Field := ⟨22, 1⟩
def LSW_CFG_RETRY_MAX : Field := ⟨19, 3⟩
def LSW_CFG_SHED_PRIO : Field := ⟨15, 4⟩
def LSW_CFG_DEFAULT_ON : Field := ⟨14, 1⟩
def LSW_CTRL_CLEAR : Field := ⟨2, 1⟩
def LSW_CTRL_OFF : Field := ⟨1, 1⟩
def LSW_CTRL_ON : Field := ⟨0, 1⟩
def LSW_CH_STAT_STATE : Field := ⟨28, 4⟩
def LSW_CH_STAT_CAUSE : Field := ⟨24, 4⟩
def LSW_CH_STAT_CMD : Field := ⟨23, 1⟩
def LSW_CH_STAT_FOG : Field := ⟨22, 1⟩
def LSW_CH_STAT_TREG : Field := ⟨21, 1⟩
def LSW_CH_STAT_CLAMP_LOCK : Field := ⟨20, 1⟩
def LSW_CH_STAT_OPEN_OFF : Field := ⟨19, 1⟩
def LSW_CH_STAT_OPEN_ON : Field := ⟨18, 1⟩
def LSW_CH_STAT_SHORT_VAUX : Field := ⟨17, 1⟩
def LSW_CH_STAT_UV : Field := ⟨16, 1⟩
def LSW_CH_STAT_RETRIES : Field := ⟨13, 3⟩
def LSW_MEAS_I : Field := ⟨16, 16⟩
def LSW_MEAS_T_J : Field := ⟨0, 16⟩
def LSW_LIM_I_LIM : Field := ⟨16, 16⟩
def LSW_LIM_I_INR : Field := ⟨0, 16⟩
def LSW_TIME_T_INR : Field := ⟨24, 8⟩
def LSW_TIME_T_OC : Field := ⟨16, 8⟩
def LSW_TIME_RETRY_DLY : Field := ⟨8, 8⟩
def LSW_TIME_CLAMP_BUDGET : Field := ⟨0, 8⟩
def LSW_CLAMP_BUCKET : Field := ⟨16, 16⟩
def LSW_CLAMP_LAST : Field := ⟨0, 16⟩
def LSW_CNT_SHORTS : Field := ⟨24, 8⟩
def LSW_CNT_OVERLOADS : Field := ⟨16, 8⟩
def LSW_CNT_THERMALS : Field := ⟨8, 8⟩
def LSW_CNT_LOCKS : Field := ⟨0, 8⟩
def MEM_STAT_LC : Field := ⟨28, 4⟩
def MEM_STAT_DEBUG_OPEN : Field := ⟨27, 1⟩
def MEM_STAT_WIPE_PEND : Field := ⟨26, 1⟩
def MEM_STAT_WIPED : Field := ⟨25, 1⟩
def MEM_STAT_RS_MB : Field := ⟨8, 8⟩
def MEM_STAT_SRAM_BANKS : Field := ⟨0, 8⟩
def MEM_LC_CTRL_KEY : Field := ⟨16, 16⟩
def MEM_LC_CTRL_STEP : Field := ⟨3, 1⟩
def MEM_LC_CTRL_TARGET : Field := ⟨0, 3⟩
def MEM_CTRL_WIPE : Field := ⟨0, 1⟩
def MEM_WIPE_CFG_TAMP_WIPE : Field := ⟨0, 4⟩
def MEM_SEC_CAUSE : Field := ⟨28, 4⟩
def MEM_SEC_WIPES : Field := ⟨0, 16⟩
def MEM_SEC_TS_LO_COUNT : Field := ⟨0, 32⟩
def MEM_SEC_TS_HI_COUNT : Field := ⟨0, 32⟩
def MEM_ECC_CORR : Field := ⟨16, 16⟩
def MEM_ECC_UNCORR : Field := ⟨0, 16⟩
def MEM_ECC_ADDR_ADDR : Field := ⟨0, 32⟩
def MEM_COLL_COUNT : Field := ⟨0, 32⟩
def MEM_DRAM_MAP_CTRL_MB : Field := ⟨24, 8⟩
def MEM_DRAM_MAP_SVC_MB : Field := ⟨16, 8⟩
def MEM_DRAM_MAP_RS_MB : Field := ⟨8, 8⟩
def MEM_MRAM_WEAR : Field := ⟨16, 16⟩
def MEM_MRAM_LOG_WRAPS : Field := ⟨0, 16⟩
def MEM_CLR_CLEAR : Field := ⟨0, 1⟩
def PWR_STAT_STATE : Field := ⟨28, 4⟩
def PWR_STAT_TARGET : Field := ⟨24, 4⟩
def PWR_STAT_RUN_READY : Field := ⟨23, 1⟩
def PWR_STAT_CTRL_READY : Field := ⟨22, 1⟩
def PWR_STAT_IN_LOSS : Field := ⟨21, 1⟩
def PWR_STAT_DEFER_A : Field := ⟨20, 1⟩
def PWR_STAT_DEFER_B : Field := ⟨19, 1⟩
def PWR_STAT_INPUT_DC : Field := ⟨18, 1⟩
def PWR_STAT_TOL : Field := ⟨0, 16⟩
def PWR_CFG_DWELL : Field := ⟨24, 8⟩
def PWR_CFG_GF_AUTO : Field := ⟨16, 1⟩
def PWR_CFG_ALLOW : Field := ⟨0, 5⟩
def PWR_RESET_KEY : Field := ⟨16, 16⟩
def PWR_RST_CAUSE : Field := ⟨28, 4⟩
def PWR_RST_TRIGGER : Field := ⟨24, 4⟩
def PWR_RST_STARTS : Field := ⟨0, 16⟩
def PWR_RST_TS_LO_COUNT : Field := ⟨0, 32⟩
def PWR_RST_TS_HI_COUNT : Field := ⟨0, 32⟩
def PWR_SUPPLY_V_IN : Field := ⟨16, 16⟩
def PWR_SUPPLY_V_HOLD : Field := ⟨0, 16⟩
def PWR_LOAD_P_LOGIC : Field := ⟨16, 16⟩
def PWR_LOAD_P_IN : Field := ⟨0, 16⟩
def PWR_TEMP_T_A : Field := ⟨16, 16⟩
def PWR_TEMP_T_B : Field := ⟨0, 16⟩
def PWR_TEMP2_T_GUARD : Field := ⟨16, 16⟩
def PWR_TEMP2_T_METR : Field := ⟨0, 16⟩
def PWR_DEFER_CFG_T_DEFER : Field := ⟨0, 8⟩
def PWR_WAKE_CFG_METR : Field := ⟨16, 1⟩
def PWR_WAKE_CFG_FOG : Field := ⟨15, 1⟩
def PWR_WAKE_CFG_PLUG : Field := ⟨14, 1⟩
def PWR_WAKE_CFG_ALARM : Field := ⟨13, 1⟩
def PWR_WAKE_CFG_CAN : Field := ⟨12, 1⟩
def PWR_WAKE_CFG_TAMP : Field := ⟨8, 4⟩
def PWR_WAKE_CFG_WAKE : Field := ⟨0, 8⟩
def PWR_WAKE_STAT_SRC : Field := ⟨28, 4⟩
def PWR_WAKE_STAT_INDEX : Field := ⟨24, 4⟩
def PWR_ALARM_LO_COUNT : Field := ⟨0, 32⟩
def PWR_ALARM_HI_COUNT : Field := ⟨0, 32⟩
def PWR_START_T_CTRL : Field := ⟨16, 16⟩
def PWR_START_T_READY : Field := ⟨0, 16⟩
def PWR_CNT_IN_LOSSES : Field := ⟨24, 8⟩
def PWR_CNT_DEFERS : Field := ⟨16, 8⟩
def PWR_CNT_DESCENTS : Field := ⟨8, 8⟩
def PWR_CNT_LATE : Field := ⟨0, 8⟩
def PWR_CLR_CLEAR : Field := ⟨0, 1⟩
def PWR_SIDE_RST_LAST : Field := ⟨28, 4⟩
def PWR_SIDE_RST_COUNT : Field := ⟨0, 16⟩
def PWR_LTR_VALID : Field := ⟨31, 1⟩
def PWR_LTR_EXPIRY : Field := ⟨16, 12⟩
def PWR_LTR_TOL : Field := ⟨0, 16⟩
def PWR_WAKE_THR_EDGE : Field := ⟨30, 2⟩
def PWR_WAKE_THR_LEVEL : Field := ⟨29, 1⟩
def PWR_WAKE_THR_HYST : Field := ⟨16, 8⟩
def PWR_WAKE_THR_THR : Field := ⟨0, 12⟩
def HOST_STAT_LINK_UP : Field := ⟨31, 1⟩
def HOST_STAT_SESSION : Field := ⟨30, 1⟩
def HOST_STAT_FAILOVER : Field := ⟨29, 1⟩
def HOST_STAT_BAD_ACCESS : Field := ⟨28, 1⟩
def HOST_STAT_EVQ_FILL : Field := ⟨12, 13⟩
def HOST_CFG_SPI_TMO : Field := ⟨24, 8⟩
def HOST_CFG_DUMMY : Field := ⟨18, 6⟩
def HOST_CFG_QSPI_CRC : Field := ⟨17, 1⟩
def HOST_CFG_EVQ_OWNER : Field := ⟨16, 1⟩
def HOST_CFG_FW_WINDOW : Field := ⟨8, 8⟩
def HOST_CFG_HOST_EN : Field := ⟨4, 1⟩
def HOST_CFG_ROLE : Field := ⟨2, 2⟩
def HOST_CFG_MODE : Field := ⟨0, 2⟩
def HOST_PCI_ID_DEVICE : Field := ⟨16, 16⟩
def HOST_PCI_ID_VENDOR : Field := ⟨0, 16⟩
def HOST_IRQ_CFG_EN : Field := ⟨31, 1⟩
def HOST_IRQ_CFG_CLASSES : Field := ⟨16, 8⟩
def HOST_IRQ_CFG_THRESH : Field := ⟨8, 8⟩
def HOST_IRQ_CFG_HOLDOFF : Field := ⟨0, 8⟩
def HOST_IRQ_STAT_PEND : Field := ⟨0, 4⟩
def HOST_MGMT_CONNS : Field := ⟨24, 8⟩
def HOST_MGMT_SUBSCRIBERS : Field := ⟨16, 8⟩
def HOST_MGMT_AUTH_FAILS : Field := ⟨0, 16⟩
def HOST_CNT_BAD_ACCESSES : Field := ⟨16, 16⟩
def HOST_CNT_CRC_ERRORS : Field := ⟨0, 16⟩
def HOST_CLR_CLEAR : Field := ⟨0, 1⟩
def HOST_FW_STAT_STATE_A : Field := ⟨30, 2⟩
def HOST_FW_STAT_STATE_B : Field := ⟨28, 2⟩
def HOST_FW_STAT_RUN_BANK : Field := ⟨27, 1⟩
def HOST_FW_STAT_BOOT_BANK : Field := ⟨26, 1⟩
def HOST_FW_STAT_TRIAL : Field := ⟨25, 1⟩
def HOST_FW_STAT_REVERT_DUE : Field := ⟨24, 1⟩
def HOST_FW_STAT_RECOVERY : Field := ⟨23, 1⟩
def HOST_FW_STAT_ERR : Field := ⟨8, 8⟩
def HOST_FW_CTRL_CMD : Field := ⟨0, 4⟩
def HOST_FW_OFS_PART : Field := ⟨15, 9⟩
def HOST_FW_VER_VERSION : Field := ⟨0, 32⟩
def HOST_FW_SVN_RUN_SVN : Field := ⟨8, 6⟩
def HOST_FW_SVN_SVN_MIN : Field := ⟨0, 6⟩
def SYS_ID_PART : Field := ⟨16, 16⟩
def SYS_ID_FAMILY : Field := ⟨0, 16⟩
def SYS_MAP_MAP_VER : Field := ⟨16, 16⟩
def SYS_MAP_BLOCKS : Field := ⟨0, 16⟩
def SYS_SERIAL_LO_SERIAL : Field := ⟨0, 32⟩
def SYS_SERIAL_HI_SERIAL : Field := ⟨0, 32⟩
def SYS_RESET_CAUSE : Field := ⟨28, 4⟩
def SYS_RESET_TRIGGER : Field := ⟨24, 4⟩
def SYS_RESET_STARTS : Field := ⟨0, 16⟩
def SYS_ERR_EVQ_LOSS : Field := ⟨5, 1⟩
def SYS_ERR_RO_WRITE : Field := ⟨4, 1⟩
def SYS_ERR_RESERVED : Field := ⟨3, 1⟩
def SYS_ERR_ABSENT : Field := ⟨2, 1⟩
def SYS_ERR_DENIED : Field := ⟨1, 1⟩
def SYS_ERR_OUT_OF_MAP : Field := ⟨0, 1⟩
def SYS_ERR_ADDR_ACCESS : Field := ⟨0, 32⟩
def SYS_EVQ_STAT_OWNER : Field := ⟨31, 1⟩
def SYS_EVQ_STAT_FILL : Field := ⟨16, 13⟩
def SYS_EVQ_STAT_HIGH_WATER : Field := ⟨0, 13⟩
def SYS_EVQ_POP_POP : Field := ⟨0, 1⟩
def SYS_EVQ_ENT_0_TS_LO : Field := ⟨0, 32⟩
def SYS_EVQ_ENT_1_TS_HI : Field := ⟨0, 32⟩
def SYS_EVQ_ENT_2_FLAGS : Field := ⟨24, 8⟩
def SYS_EVQ_ENT_2_CLASS : Field := ⟨16, 8⟩
def SYS_EVQ_ENT_2_CODE : Field := ⟨0, 16⟩
def SYS_EVQ_ENT_3_ARG : Field := ⟨0, 32⟩
def SYS_SCRATCH_VALUE : Field := ⟨0, 32⟩
def FAST_STAT_OUT : Field := ⟨0, 32⟩
def FAST_CLR_CLEAR : Field := ⟨0, 1⟩
def FAST_CFG_USED : Field := ⟨31, 1⟩
def FAST_CFG_WIN_EN : Field := ⟨30, 1⟩
def FAST_CFG_HYST : Field := ⟨0, 16⟩
def FAST_WIN_HI : Field := ⟨16, 16⟩
def FAST_WIN_LO : Field := ⟨0, 16⟩
def FAST_VAL_SAMPLE : Field := ⟨16, 16⟩
def FAST_VAL_CLIPS : Field := ⟨0, 16⟩
def FAST_PEAK_MAX : Field := ⟨16, 16⟩
def FAST_PEAK_MIN : Field := ⟨0, 16⟩

end Fld

end Sys2Proof.Machine
end

