-- ==== Sys2Proof/Config.lean ====
section
/-! DEFINITION. What the hardware fixes, and the free values: constants without a body, where the spec leaves a value
open. A statement about a free value holds whatever it is. -/

namespace Sys2Proof.Config

/-- 250 ps counts in one FCLK period (R50, R51: 5 per period of 1.25 ns). -/
def fclk : Nat := 5
/-- 250 ps counts in n nanoseconds (R49). -/
def nsec (n : Nat) : Nat := 4 * n
/-- 250 ps counts in n microseconds (R49). -/
def usec (n : Nat) : Nat := 4000 * n
/-- 250 ps counts in n milliseconds (R49). -/
def msec (n : Nat) : Nat := 4000000 * n
/-- 250 ps counts in n seconds (R49). -/
def sec (n : Nat) : Nat := 4000000000 * n

/-- A word the spec leaves open; the argument is the state's counter of free values (log entry 2). -/
opaque freeWord : Nat → BitVec 32
/-- An integer the spec leaves open; the argument is the state's counter of free values (log entry 2). -/
opaque freeInt : Nat → Int
/-- A truth value the spec leaves open; the argument is the state's counter of free values (log entry 2). -/
opaque freeBool : Nat → Bool

/-- SHA-384 (FIPS 180-4) of a byte string, 48 bytes: the spec names the function and gives no text of it (log entry 4). -/
opaque sha384 : List (BitVec 8) → List (BitVec 8)
/-- ECDSA P-384 verification of a signature (r, s) over a digest under the key with the given hash (log entry 4). -/
opaque ecdsaOk : List (BitVec 8) → List (BitVec 8) → List (BitVec 8) → Bool
/-- The metrology die's ECDSA P-384 signature of a digest by its n-th key pair (R580; log entry 4). -/
opaque dieSign : Nat → List (BitVec 8) → List (BitVec 8)
/-- The image sections of private format: whether their internal form is good (check 10 of R119; log entry 5). -/
opaque sectionFormOk : List (BitVec 8) → Bool
/-- The structure digest a side computes after loading an image (R119 check 14; log entry 5): side, image. -/
opaque structDigest : Nat → List (BitVec 8) → List (BitVec 8)
/-- The registers "from image" that private sections give: address and value pairs (log entry 5). -/
opaque imageRegs : List (BitVec 8) → List (Nat × BitVec 32)
/-- The settings of private sections that no register shows, by parameter key (log entry 5). -/
opaque imagePars : List (BitVec 8) → List (Nat × Int)

/-- The byte strings over which a side forms OUT_DIGEST and CTRL_DIGEST (R161): the spec gives the content and no byte form (log entry 5).
The arguments are the words of the content, each under a number. -/
opaque digestForm : List (Nat × Int) → List (BitVec 8)

/-- D1, D2 and D3 of the compiler's minimum-rms-current tables (R345), in 2^-31: mode, k_v in 0.001, P / P_base in 2^-31. -/
opaque dabTable : Nat → Nat → Int → Int × Int × Int

/-- One step of a first-order low-pass filter: time constant and step in ns, the value so far and the input. The spec states
no discretisation (log entry 12). -/
opaque lowPass : Nat → Nat → Int → Int → Int
/-- (n / d)^0.8 in 2^-16 (R446); the spec states no rounding (log entry 12). -/
opaque pow08 : Nat → Nat → Nat
/-- exp(−t / tau) in 2^-30 (R449); the spec states no rounding (log entry 12). -/
opaque expNeg : Nat → Nat → Nat
/-- The temperature in 0.01 °C of an NTC input by the B-parameter equation (R442): B, R25 and the resistance in mΩ; the spec states no
rounding of its logarithm (log entry 12). -/
opaque ntcTemp : Nat → Nat → Nat → Int

/-- The safety parameter block as it runs: the SAFETY section with every applied RWC value in place (R513; log entry 5). -/
opaque safetyBlock : List (BitVec 8) → List (Nat × BitVec 32) → List (BitVec 8)

/-- The fractional-delay filter of R526 step 6: the delay in ns, the value before and the new one; the spec gives no taps. -/
opaque fracDelay : Int → Int → Int → Int
/-- One step of the 90° phase shifter of R532: its state and the new voltage; the spec gives no taps. -/
opaque shift90 : Int → Int → Int
/-- The division of an integrated sample by the integrator's complex response at the fundamental (R527), in 10^-12 V·s: f_c in 0.01 Hz, the
frequency in 0.01 Hz, the last and the new output of the integrator in 10^-21 V·s; the spec gives no filter for it (log entry 12). -/
opaque coilFix : Nat → Nat → Int → Int → Int
/-- The identity of a ring endpoint: CLASS, LEGS, MEAS_WORDS, residence P, SERIAL, MAKER and FW as fields 0 to 6; the endpoint's designer sets
them (R292, R320; log entry 93). -/
opaque epIdentity : Nat → Nat → Nat
/-- The last 58 bits that a ring port's scrambler had sent before a START block: by port and instant (R282 gives no first state, and the
IDLE blocks between frames are not counted; log entry 44). -/
opaque scramblerAt : Nat → Nat → BitVec 58
/-- The next word of the seal loop's LFSR (R543); the spec names no polynomial. -/
opaque lfsrNext : BitVec 16 → BitVec 16
/-- The registers CFG and SCALE that a METR section gives (log entry 5). -/
opaque mapRegs : List (BitVec 8) → List (Nat × BitVec 32)
/-- The nominal values that a METR section gives: keys of Nominal (log entry 5). -/
opaque mapPars : List (BitVec 8) → List (Nat × Int)
/-- The metrology die's public key of its n-th key pair, 97 bytes (R580, R581; log entry 4); pair 0 is that of a die in BLANK. -/
opaque diePublicKey : Nat → List (BitVec 8)
/-- The SHA-384 of vendor key k, fused into the Guard die (R744, R743; log entry 4). -/
opaque vendorKey : Nat → List (BitVec 8)
/-- What an attribute of an object class is (R740): the spec names the objects and numbers no attribute. The codes are those of
Obj.* in Machine/Serve.lean; 0: no such object (log entry 5). -/
opaque objAttr : Nat → Nat → Nat
/-- A whole object passes its checks (R738): object identifier, bytes; the spec gives no object form (log entry 5). -/
opaque objectOk : Nat → List (BitVec 8) → Bool
/-- The bytes in which an object shows register values (R586; log entry 5): object identifier, values. -/
opaque objectForm : Nat → List (Nat × BitVec 32) → List (BitVec 8)
/-- The register entries that a billing object's bytes ask for (R586; log entry 5). -/
opaque billingEntries : Nat → List (BitVec 8) → List (Nat × BitVec 32)
/-- METR_ID: the ROM's version and check value (R521; log entry 3). -/
opaque dieId : BitVec 32
/-- The text of a display item's value, 12 characters, and of its unit, 4, where the spec gives no form: item, what it shows. -/
opaque displayText : Nat → List Nat → List (BitVec 8)
/-- The bytes in OBIS form of an item that R586 lists no identifier for: item, point. -/
opaque displayObis : Nat → Nat → List (BitVec 8)

end Sys2Proof.Config
end

