-- ==== Sys2Proof/Machine/State.lean ====
section
/-! DEFINITION. The state of the module: the queue of waiting commands, the register file, and beside it what no register shows; and the
module right after reset. -/

namespace Sys2Proof.Machine

open Sys2Proof

/-- The module's state.
pending: the commands that wait, first in first out. variant: the ordering code (R1). regs: the registers by address, a side's own
instance at the address + 0x2000000 × side; an address not listed holds its reset value. pregs: the registers of which each access path
has its own. tm to sup: what the parts of the module hold beside registers. queues: the credit queues by side × 1024 + number. tags: the
memory transaction tags of a side. ctx: the transaction contexts. bytes: image slots, firmware banks, record windows, byte by byte.
recent: what the running FCLK period has counted and set (R195, R756). owed: what the boundary of the running base cycle has still
to do (R36). free: the model's own counter of free values (log entry 2). -/
structure State where
  pending : List Instr
  variant : Nat
  regs : SMap Word
  pregs : SMap Word
  tm : TimePart
  queues : SMap Queue
  tags : SMap TagPool
  ev : EvPart
  img : ImagePart
  ctx : SMap Ctx
  keep : KeepPart
  host : HostPart
  loop : LoopPart
  edge : EdgePart
  qset : QsetPart
  ring : RingPart
  sst : SstPart
  outs : OutsPart
  aloc : AlocPart
  cool : CoolPart
  outl : OutlPart
  safe : SafePart
  metr : MetrPart
  bill : BillPart
  acq : AcqPart
  can : CanPart
  lsw : LswPart
  mem : MemPart
  sup : PowerPart
  bytes : SMap Byte
  recent : SMap Word
  owed : Option Owed
  free : Nat
  deriving DecidableEq, Repr

/-- The module right after reset. -/
def State.reset : State where
  pending := []
  variant := 1
  regs := []
  pregs := []
  tm := TimePart.reset
  queues := []
  tags := []
  ev := EvPart.reset
  img := ImagePart.reset
  ctx := []
  keep := KeepPart.reset
  host := HostPart.reset
  loop := LoopPart.reset
  edge := EdgePart.reset
  qset := QsetPart.reset
  ring := RingPart.reset
  sst := SstPart.reset
  outs := OutsPart.reset
  aloc := AlocPart.reset
  cool := CoolPart.reset
  outl := OutlPart.reset
  safe := SafePart.reset
  metr := MetrPart.reset
  bill := BillPart.reset
  acq := AcqPart.reset
  can := CanPart.reset
  lsw := LswPart.reset
  mem := MemPart.reset
  sup := PowerPart.reset
  bytes := []
  recent := []
  owed := none
  free := 0

/-- The reasons a command could stop the machine with a fault: the spec gives every command an effect, so there is none. -/
inductive Fault where
  deriving DecidableEq, Repr

/-- The reasons a command could be refused by the model. -/
inductive Refusal where
  /-- Raised by an arm of exec for a command without a meaning; no arm does. Safe: nothing is claimed of such a command. -/
  | notModelled (mnemonic : String)
  deriving DecidableEq, Repr

end Sys2Proof.Machine
end

