-- ==== Sys2Proof/Machine/Ops.lean ====
section
/-! DEFINITION. The named operations over the state: the clock, the register file, events, free values. Every meaning is
written over these. -/

namespace Sys2Proof.Machine

open Sys2Proof

/-! ### Fields of a word (R14) -/

/-- The field's value in a word. -/
def fget (f : Field) (w : Word) : Nat := (w.toNat >>> f.lo) % 2 ^ f.width

/-- The field's value in a word, as a two's complement number. -/
def fgetS (f : Field) (w : Word) : Int :=
  let v := fget f w
  if 2 * v < 2 ^ f.width then (v : Int) else (v : Int) - 2 ^ f.width

/-- The bits of a field, as a mask. -/
def fmask (f : Field) : Word := BitVec.ofNat 32 ((2 ^ f.width - 1) <<< f.lo)

/-- The word with the field set to v, taken modulo the field's width. -/
def fset (f : Field) (w : Word) (v : Nat) : Word :=
  (w &&& ~~~(fmask f)) ||| BitVec.ofNat 32 ((v % 2 ^ f.width) <<< f.lo)

/-- An integer as the bits of a field of the given width. -/
def bitsOf (width : Nat) (v : Int) : Nat := (v % 2 ^ width).toNat

/-- An integer held within the range lo to hi. -/
def clampInt (lo hi v : Int) : Int := if v < lo then lo else if hi < v then hi else v

/-- A bit of a number. -/
def bit (n i : Nat) : Bool := n.testBit i

/-- A number with bit i set to b. -/
def withBit (n i : Nat) (b : Bool) : Nat :=
  if b then n ||| (1 <<< i) else n - (if n.testBit i then 2 ^ i else 0)

/-- 1 for true, 0 for false. -/
def flag (b : Bool) : Nat := if b then 1 else 0

/-! ### The register map -/

/-- The offset from a register's base names one of its instances: each index below its count, no remainder. -/
def dimsMatch : List (Nat × Nat) → Nat → Bool
  | [], off => off == 0
  | (st, c) :: r, off => decide (off / st < c) && dimsMatch r (off % st)

/-- The register that an address names (R749, R750). -/
def findReg (addr : Nat) : Option RegSpec :=
  (blockRegs (addr / 0x10000)).find? fun r => decide (r.base ≤ addr) && dimsMatch r.dims (addr - r.base)

/-- Reset values that differ from instance to instance: TIME_LEAP_0 to 5, BILL_DAY_d_0, BILL_DISP_CFG_n,
HOST_IRQ_CFG_0, QSET_MAP_108 to 115 (R269), channel B's SAFE_AX_STAT_a, and the heavy channels' LSW_CFG_n, LSW_LIM_n and LSW_TIME_n
(R791). -/
def instReset (addr : Nat) : Option Nat :=
  if addr = 0x20060 then some 0x20
  else if addr = 0x20064 then some 0x89021
  else if addr = 0x20068 then some 0xCD822
  else if addr = 0x2006C then some 0x11D523
  else if addr = 0x20070 then some 0x161C24
  else if addr = 0x20074 then some 0x184225
  else if addr = 0x140010 then some 0x80060100
  else if addr = 0x20C1000 ∨ addr = 0x20C1040 then some 0x01000000
  else if 0x1503B0 ≤ addr ∧ addr < 0x1503D0 ∧ addr % 4 = 0 then some (0x80000000 + 2 ^ ((addr - 0x1503B0) / 4))
  else if 0xE2100 ≤ addr ∧ addr < 0xE2500 ∧ addr % 0x40 = 0 then some 0x80000000
  else if 0xE2600 ≤ addr ∧ addr < 0xE2700 ∧ addr % 0x20 = 0 then
    some (0x00050000 + 0x10000000 * ((addr - 0xE2600) / 0x20 + 1))
  else if 0x111000 ≤ addr ∧ addr < 0x111100 ∧ addr % 0x20 = 0 then some 0x80000000
  else if 0x111000 ≤ addr ∧ addr < 0x111100 ∧ addr % 0x20 = 0x10 then some 0x04B00E10
  else if 0x111000 ≤ addr ∧ addr < 0x111100 ∧ addr % 0x20 = 0x14 then some 0x0A0A0A64
  else none

/-- What an address reads while nothing has written it: its reset value; 0 where no register stands. -/
def regReset (addr : Nat) : Word :=
  match instReset addr with
  | some v => BitVec.ofNat 32 v
  | none =>
    match findReg addr with
    | some r => BitVec.ofNat 32 r.reset
    | none => 0

/-- The register at an address. -/
def State.rd (s : State) (addr : Nat) : Word := SMap.get regReset s.regs addr

/-- The state with a register set. -/
def State.wr (s : State) (addr : Nat) (v : Word) : State :=
  { s with regs := SMap.put regReset s.regs addr v }

/-- A field of a register. -/
def State.fld (s : State) (addr : Nat) (f : Field) : Nat := fget f (s.rd addr)

/-- A field of a register, as a signed number. -/
def State.fldS (s : State) (addr : Nat) (f : Field) : Int := fgetS f (s.rd addr)

/-- The state with a field of a register set. -/
def State.setF (s : State) (addr : Nat) (f : Field) (v : Nat) : State := s.wr addr (fset f (s.rd addr) v)

/-- The state with a field of a register set to a signed value. -/
def State.setFS (s : State) (addr : Nat) (f : Field) (v : Int) : State := s.setF addr f (bitsOf f.width v)

/-- What the running FCLK period has counted in the fields of a register. -/
def State.counted (s : State) (addr : Nat) : Word := SMap.get (fun _ => 0) s.recent addr

/-- The state with a counter field raised by n, saturating at the field's greatest value; the count is also kept for the
running FCLK period. -/
def State.bump (s : State) (addr : Nat) (f : Field) (n : Nat := 1) : State :=
  let top := 2 ^ f.width - 1
  let s1 := s.setF addr f (min (s.fld addr f + n) top)
  let now := s.counted addr
  { s1 with recent := SMap.put (fun _ => 0) s.recent addr (fset f now (min (fget f now + n) top)) }

/-- The state with a condition bit set; the setting is also kept for the running FCLK period (R756). -/
def State.raise (s : State) (addr : Nat) (f : Field) : State :=
  { s.setF addr f 1 with recent := SMap.put (fun _ => 0) s.recent addr (fset f (s.counted addr) 1) }

/-- A count register cleared: what the running FCLK period counted is counted after the clear (R195 and its like). -/
def State.clearCount (s : State) (addr : Nat) : State := s.wr addr (s.counted addr)

/-- A count field cleared: what the running FCLK period counted is counted after the clear. -/
def State.clearField (s : State) (addr : Nat) (f : Field) : State := s.setF addr f (fget f (s.counted addr))

/-- The state with a field holding the greater of its value and v, saturating. -/
def State.peak (s : State) (addr : Nat) (f : Field) (v : Nat) : State :=
  s.setF addr f (min (max (s.fld addr f) v) (2 ^ f.width - 1))

/-- The state with a bit of a register set to b. -/
def State.setBit (s : State) (addr : Nat) (i : Nat) (b : Bool) : State := s.setF addr ⟨i, 1⟩ (flag b)

/-- A bit of a register. -/
def State.bit (s : State) (addr : Nat) (i : Nat) : Bool := (s.rd addr).getLsbD i

/-- A register of one access path ("one per access path"): held apart for each path. -/
def pathKey (p : Path) (addr : Nat) : Nat := addr + 0x1000000 * p.code

/-- A path's own instance of a register. -/
def State.prd (s : State) (p : Path) (addr : Nat) : Word :=
  SMap.get (fun k => regReset (k % 0x1000000)) s.pregs (pathKey p addr)

/-- The state with a path's own instance of a register set. -/
def State.pwr (s : State) (p : Path) (addr : Nat) (v : Word) : State :=
  { s with pregs := SMap.put (fun k => regReset (k % 0x1000000)) s.pregs (pathKey p addr) v }

/-- The image's setting under a key (Par.*); 0 where the image gives none. -/
def State.par (s : State) (k : Nat) : Int := SMap.get (fun _ => 0) s.img.pars k

/-- The image's setting under a key, as a number. -/
def State.parN (s : State) (k : Nat) : Nat := (s.par k).toNat

/-! ### Free values -/

/-- The next free word, and the state with the counter advanced. -/
def State.freshWord (s : State) : Word × State := (Config.freeWord s.free, { s with free := s.free + 1 })

/-- The next free integer, and the state with the counter advanced. -/
def State.freshInt (s : State) : Int × State := (Config.freeInt s.free, { s with free := s.free + 1 })

/-- The next free truth value, and the state with the counter advanced. -/
def State.freshBool (s : State) : Bool × State := (Config.freeBool s.free, { s with free := s.free + 1 })

/-! ### The clock (R49 to R52) -/

/-- The rate in force, in 10^-12: the servo's own, or while a correction is slewed the rate of the slew (R50, R70). -/
def TimePart.rateNow (m : TimePart) : Int := if m.slew = 0 then m.rate else m.slewRate

/-- The counts of dt in which a slew under way still runs: until it has moved what it has to (R70). -/
def TimePart.slewFor (m : TimePart) (dt : Nat) : Nat :=
  if m.slew = 0 ∨ m.slewRate = 0 then 0 else min dt ((m.slew.natAbs + m.slewRate.natAbs - 1) / m.slewRate.natAbs)

/-- What a slew has still to move after n more counts; 0 once it has moved all of it. -/
def TimePart.slewLeft (m : TimePart) (n : Nat) : Int :=
  let left := m.slew - m.slewRate * n
  if 0 < m.slew then max 0 left else min 0 left

/-- The state dt counts later: the monotonic count advances by dt exactly (R51); the timestamp by dt corrected by the
rate in force, its fraction carried (R50); a slew under way shrinks by what it moved. -/
def State.tick (s : State) (dt : Nat) : State :=
  let n := s.tm.slewFor dt
  let whole : Int := (dt : Int) * 1000000000000 + s.tm.slewRate * n + s.tm.rate * (dt - n : Nat) + s.tm.tsRem
  let later := s.tm.mono + BitVec.ofNat 64 dt
  { s with
    recent := if later.toNat / Config.fclk = s.tm.mono.toNat / Config.fclk then s.recent else []
    tm := { s.tm with
      mono := later
      life := s.tm.life + BitVec.ofNat 64 dt
      ts := s.tm.ts + BitVec.ofInt 64 (whole / 1000000000000)
      tsRem := (whole % 1000000000000).toNat
      slew := s.tm.slewLeft n } }

/-- Counts since an earlier instant of the monotonic count (R52: every duration is measured on it). -/
def State.since (s : State) (t : Count) : Nat := (s.tm.mono - t).toNat

/-- Counts since an earlier instant of the count that no module reset clears. -/
def State.sinceLife (s : State) (t : Count) : Nat := (s.tm.life - t).toNat

/-- The monotonic count of an instant given as a timestamp, by what both read now (R52). -/
def State.monoOf (s : State) (ts : Count) : Count := s.tm.mono - (s.tm.ts - ts)

/-- The FCLK period the state stands in. -/
def State.period (s : State) : Nat := s.tm.mono.toNat / Config.fclk

/-- T_c in nanoseconds for TIME_CYCLE.TC_CODE. -/
def tcNs : Nat → Nat
  | 0 => 10000
  | 1 => 12500
  | 2 => 16000
  | 3 => 20000
  | 4 => 25000
  | 5 => 32000
  | 6 => 40000
  | _ => 20000

/-- T_c in 250 ps counts. -/
def State.tc (s : State) : Nat := Config.nsec (tcNs (s.fld Reg.TIME_CYCLE Fld.TIME_CYCLE_TC_CODE))

/-- The greatest per-cycle Keeper copy in bytes for a T_c in ns: 4,096 × (T_c in µs − 2) (R165). -/
def copyBudget (tc : Nat) : Nat := 4096 * (tc - 2000) / 1000

/-! ### Sides -/

/-- What the Guard die holds of a side. -/
def State.side (s : State) (x : Side) : SideRec := SMap.get (fun _ => SideRec.reset) s.keep.sides x.code

/-- The side that KEEP_STAT.ACTIVE names: the active side, or the side that serves the map (R788). -/
def State.serving (s : State) : Side := if s.fld Reg.KEEP_STAT Fld.KEEP_STAT_ACTIVE = 1 then .b else .a

/-- The side is ACTIVE. -/
def State.isActive (s : State) (x : Side) : Bool := decide ((s.side x).state = .active)

/-- Some side is ACTIVE. -/
def State.hasActive (s : State) : Bool := s.isActive .a || s.isActive .b

/-- The sides that run the control of a base cycle, and so post its events: ACTIVE, STANDBY and SHADOW; the serving side
where no side is ACTIVE (R22, R171, R788). -/
def State.posters (s : State) : List Side :=
  [Side.a, Side.b].filter fun x =>
    let st := (s.side x).state
    st == .active || st == .standby || st == .shadow || (!s.hasActive && x == s.serving)

/-! ### Events (R732, R760 to R763) -/

/-- CLASS of an event (R761). -/
def classOf (code : Nat) : Nat :=
  if code = Ev.QSET_TRIP then 1
  else if code = Ev.SAFE_REACTION then 2
  else if code = Ev.FAILOVER ∨ code = Ev.SWITCHOVER ∨ code = Ev.ORPHAN_ENTRY then 3
  else if code / 0x800 = 0x0D ∨ code / 0x800 = 0x0E then 4
  else if code = Ev.TXN_COMMITTED ∨ code = Ev.TXN_ROLLED_BACK then 5
  else if code / 0x800 = 0x09 then 6
  else 7

/-- ARG of R762: instance, cause code, detail. -/
def evArg (inst cause detail : Nat) : Word :=
  BitVec.ofNat 32 ((inst % 0x1000) * 0x100000 + (cause % 16) * 0x10000 + min detail 0xFFFF)

/-- ARG of the first row of R763: role, path, byte address. -/
def accArg (acc : Access) (addr : Nat) : Word :=
  BitVec.ofNat 32 (acc.role.code * 0x20000000 + acc.path.code * 0x8000000 + addr % 0x200000)

/-- An event posted now with the given timestamp, ARG and SUMMARY flag, by both sides or by one only. It joins the events of the running base cycle;
they enter the queues at the boundary, in the order of R35 (R37). -/
def State.postFull (s : State) (code : Nat) (ts : Count) (arg : Word) (summary : Bool) (only : Option Side := none) : State :=
  let flags := (if s.fld Reg.TIME_STAT Fld.TIME_STAT_VALID = 1 then 0 else 4) + (if summary then 8 else 0)
  { s with ev := { s.ev with
      nextSeq := s.ev.nextSeq + 1
      posted := s.ev.posted ++ [⟨s.ev.nextSeq, ts, s.tm.mono, code, classOf code, flags, arg, only⟩] } }

/-- An event with an ARG laid out by R763. -/
def State.postArg (s : State) (code : Nat) (arg : Word) : State := s.postFull code s.tm.ts arg false

/-- An event with an ARG of R762. -/
def State.post (s : State) (code : Nat) (inst : Nat := 0xFFF) (cause : Nat := 0) (detail : Nat := 0) : State :=
  s.postArg code (evArg inst cause detail)

/-- The key of a rate-limited event. -/
def seenKey (code inst : Nat) : Nat := code * 0x1000 + inst % 0x1000

/-- A rate-limited event (R86, R186, R767): the first after a clear is posted plain, a further one at most once per
10 ms, marked SUMMARY and carrying the running count. Its limit is that of the instance, or of the key given. -/
def State.postLimited (s : State) (code inst cause count : Nat) (key : Nat := inst) (only : Option Side := none) : State :=
  match s.ev.seen.find? (fun e => e.1 == seenKey code key) with
  | none =>
    let s1 := s.postFull code s.tm.ts (evArg inst cause 0) false only
    { s1 with
      ev := { s1.ev with seen := SMap.insert s.ev.seen (seenKey code key) s.tm.mono } }
  | some (_, t) =>
    if Config.msec 10 ≤ s.since t then
      let s1 := s.postFull code s.tm.ts (evArg inst cause count) true only
      { s1 with ev := { s1.ev with seen := SMap.insert s1.ev.seen (seenKey code key) s.tm.mono } }
    else s

/-- The clear of a rate-limited event's count: the next one is a first one again. -/
def State.forget (s : State) (code key : Nat) : State :=
  { s with ev := { s.ev with seen := SMap.erase s.ev.seen (seenKey code key) } }

/-! ### Credit queues (R80 to R86) -/

/-- The key of a side's queue. -/
def qKey (x : Side) (q : Nat) : Nat := x.code * 1024 + q

/-- A side's queue. -/
def State.queue (s : State) (x : Side) (q : Nat) : Queue := SMap.get (fun _ => Queue.reset) s.queues (qKey x q)

/-- The state with a side's queue set. -/
def State.setQueue (s : State) (x : Side) (q : Nat) (v : Queue) : State :=
  { s with queues := SMap.put (fun _ => Queue.reset) s.queues (qKey x q) v }

/-- Every queue of a side empty, as after a reset (R80). -/
def State.queuesEmpty (s : State) (x : Side) : State := { s with queues := s.queues.filter fun e => e.1 / 1024 != x.code }

/-- Class and depth of a queue (R92): 0 STALL, 1 GAP, 2 REPLACE. Above 132 the model numbers the deliveries that R92 does
not list, the thermal inputs: 256 + input (log entry 50). -/
def queueSpec (q : Nat) : Nat × Nat :=
  if q < 64 then (2, 1)
  else if q < 96 then (1, 4)
  else if q < 108 then (1, 8)
  else if q = 108 then (1, 64)
  else if q < 125 then (1, 256)
  else if q = 125 then (1, 4096)
  else if q = 126 then (0, 16)
  else if q < 131 then (0, 32)
  else if q = 131 then (0, 16)
  else if q = 132 then (0, 512)
  else (2, 1)

/-- The latency that R64 gives the crossing of a queue between clock domains, least and greatest, in 250 ps counts: fast sense, ring
receive, the one-way channel, the site bus; none for a queue that stays in FCLK. -/
def crossing (q : Nat) : Nat × Nat :=
  if 64 ≤ q ∧ q < 96 then (Config.nsec 480, Config.nsec 480)
  else if 96 ≤ q ∧ q < 108 then (20, 30)
  else if q = 108 then (Config.usec 20, Config.usec 100)
  else if 127 ≤ q ∧ q < 131 then (Config.nsec 25, 150)
  else (0, 0)

/-- Credits of a queue on their way back at a monotonic count. -/
def Queue.held (qu : Queue) (now : Nat) : Nat := (qu.back.filter fun t => decide (now < t)).length

/-- Credits the producer holds at a monotonic count: one on its way back is not yet held (R82, R83). -/
def Queue.credits (qu : Queue) (depth now : Nat) : Nat :=
  depth - qu.entries.length - qu.held now

/-- Some credits of a queue returned now: usable from the next FCLK period on, later by the crossing latency, a free value in its range (R81,
R82). -/
def State.creditsBack (s : State) (x : Side) (q n : Nat) : State :=
  if n = 0 then s else
  let qu := s.queue x q
  let (lo, hi) := crossing q
  let at' := (s.period + 1) * Config.fclk + lo + (Config.freeInt s.free).natAbs % (hi - lo + 1)
  let back := qu.back.filter fun t => decide (s.tm.mono.toNat < t)
  { s.setQueue x q { qu with back := back ++ List.replicate n at' } with free := if lo = hi then s.free else s.free + 1 }

/-- The queue without the entries that were taken, their credits on the way back (R81, R82). -/
def State.giveBack (s : State) (x : Side) (q : Nat) (rest : List QEntry) : State :=
  let qu := s.queue x q
  (s.setQueue x q { qu with entries := rest }).creditsBack x q (qu.entries.length - rest.length)

/-- The key of QUEUE_LOSS's limit: a queue of each side has its own (R86, R89). -/
def lossKey (x : Side) (q : Nat) : Nat := x.code * 0x800 + q

/-- A loss of a queue counted and posted (R86). The queues of each side are their own (R89): each posts under its own limit, in its own event
queue. -/
def State.queueLoss (s : State) (x : Side) (q : Nat) : State :=
  let qu := s.queue x q
  let n := if qu.lostAt = s.period then qu.lostN else 0
  (s.setQueue x q { qu with lost := min (qu.lost + 1) 0xFFFFFFFF, lostAt := s.period, lostN := n + 1 }).postLimited
    Ev.QUEUE_LOSS q 0 (qu.lost + 1) (lossKey x q) (some x)

/-- An entry offered to a GAP queue (R84, R85): accepted with the waiting gap marker while a credit is held; else
discarded and counted. -/
def State.gapOffer (s : State) (x : Side) (q : Nat) (v : Int) (ts : Count) (src : Nat := 0) (ep : Nat := 0)
    (more : List Word := []) : State :=
  let qu := s.queue x q
  let d := (queueSpec q).2
  if 1 ≤ qu.credits d s.tm.mono.toNat then
    let es := qu.entries ++ [⟨v, ts, s.monoOf ts, qu.gap, qu.gapTs, src, ep, [], s.tm.mono, more⟩]
    s.setQueue x q { qu with entries := es, gap := 0, gapTs := 0, high := max qu.high es.length }
  else
    (s.setQueue x q { qu with gap := min (qu.gap + 1) 65535, gapTs := if qu.gap = 0 then ts else qu.gapTs }).queueLoss x q

/-- A value offered to a REPLACE queue (R84), of an instant on the monotonic count: it takes the place of an unconsumed one of the same
source, which counts as a loss. DESIGN CHOICE (log entry 50): the number of a tile's queue stands for the REPLACE queues of the edge channels
the tile posts to (R222), each of depth 1 and told apart by src, so that HIGH_WATER never exceeds 1. -/
def State.replaceOffer (s : State) (x : Side) (q : Nat) (v : Int) (ts inst : Count) (src : Nat := 0) (ep : Nat := 0) : State :=
  let qu := s.queue x q
  let rest := qu.entries.filter fun e => e.src != src
  let s1 := s.setQueue x q { qu with entries := rest ++ [⟨v, ts, inst, 0, 0, src, ep, [], s.tm.mono, []⟩], high := max qu.high 1 }
  if rest.length < qu.entries.length then s1.queueLoss x q else s1

/-- The oldest entry of a queue, and the state with it removed: its credit is returned (R81, R82). -/
def State.queueTake (s : State) (x : Side) (q : Nat) : Option QEntry × State :=
  match (s.queue x q).entries with
  | [] => (none, s)
  | e :: r => (some e, s.giveBack x q r)

/-! ### The event queues (R87, R733) -/

/-- Entries in a side's event queue. -/
def State.evq (s : State) (x : Side) : List EvEntry := SMap.get (fun _ => []) s.ev.queue x.code

/-- The queue with an entry offered to it (R87), held of its entries being freed in this FCLK period and not yet free (R82): accepted while
at least two of 4,096 entries are free; else the newest loss marker counts it, or a marker takes the last free entry. -/
def evqOffer (held : Nat) (q : List EvEntry) (e : EvEntry) : List EvEntry × Bool :=
  if q.length + held + 2 ≤ 4096 then (q ++ [e], true)
  else
    match q.getLast? with
    | some m =>
      if m.code = 0 then
        (q.dropLast ++ [{ m with arg := if m.arg = 0xFFFFFFFF then m.arg else m.arg + 1 }], false)
      else if q.length + held < 4096 then
        (q ++ [{ e with code := 0, cls := 0, flags := e.flags % 2 + 2, arg := 1 }], false)
      else (q, false)
    | none => (q, false)

/-- Entries of a side's event queue that were freed in this FCLK period: usable from the next one on (R82). -/
def State.evFreed (s : State) (x : Side) : Nat :=
  let f := SMap.get (fun _ => (0, 0)) s.ev.freed x.code
  if f.1 = s.period then f.2 else 0

/-- Entries of a side's event queue freed now, n of the oldest (R82, R733). -/
def State.evFree (s : State) (x : Side) (n : Nat) : State :=
  { s with ev := { s.ev with
      queue := SMap.put (fun _ => []) s.ev.queue x.code ((s.evq x).drop n)
      freed := SMap.put (fun _ => (0, 0)) s.ev.freed x.code (s.period, s.evFreed x + n) } }

/-- Entries of a side's event log: 8 MB of 16 bytes each (R681). -/
def logCap : Nat := 524288

/-- The state with an event entered into one side's queue and log. A discard counts as a loss of queue 125 (R86) and sets
SYS_ERR.EVQ_LOSS when it writes a marker. -/
def State.enter (s : State) (x : Side) (e : EvEntry) : State :=
  let e := { e with flags := e.flags + x.code }
  let q := s.evq x
  let (q', ok) := evqOffer (s.evFreed x) q e
  let log := SMap.get (fun _ => []) s.ev.log x.code
  let s1 := { s with ev := { s.ev with
      queue := SMap.put (fun _ => []) s.ev.queue x.code q'
      high := SMap.put (fun _ => 0) s.ev.high x.code (max (SMap.get (fun _ => 0) s.ev.high x.code) q'.length)
      log := SMap.put (fun _ => []) s.ev.log x.code ((log ++ [e]).drop (log.length + 1 - logCap))
      logged := SMap.put (fun _ => 0) s.ev.logged x.code (SMap.get (fun _ => 0) s.ev.logged x.code + 1) } }
  if ok then s1
  else (if q.length < q'.length then s1.raise Reg.SYS_ERR Fld.SYS_ERR_EVQ_LOSS else s1).queueLoss x 125

/-- An event put behind those that are not later than it. -/
def insertByTime (e : EvEntry) : List EvEntry → List EvEntry
  | [] => [e]
  | f :: r => if e.ts.toNat < f.ts.toNat then e :: f :: r else f :: insertByTime e r

/-- Events in timestamp order, those of one instant in the order of their posting. -/
def byTime (es : List EvEntry) : List EvEntry := es.foldl (fun l e => insertByTime e l) []

/-- The events of the ending base cycle enter the queues of the sides that post, in the order of R35 and then of time
(R37); an event of one side only enters that side's. -/
def State.flushEvents (s : State) : State :=
  let batch := [1, 2, 3, 4, 5, 6, 7].flatMap fun c => byTime (s.ev.posted.filter fun e => e.cls == c)
  let s0 := { s with ev := { s.ev with posted := [] } }
  batch.foldl (fun st e => (s.posters.filter fun x => e.only == none || e.only == some x).foldl (fun st x => st.enter x e) st) s0

end Sys2Proof.Machine
end

