-- ==== Sys2Proof/Machine/Par.lean ====
section
/-! DEFINITION. The keys of the image's settings that no register shows: private sections of the image (R102) give them
(log entry 5). A key is a group and an index within it. -/

namespace Sys2Proof.Machine.Par

/-- The key of index i of a group. -/
def key (group i : Nat) : Nat := group * 0x1000000 + i

/-- 1: data word w of loop n is carried (R199). -/
def carried (n w : Nat) : Nat := key 1 (n * 4096 + w)
/-- The upper data word of integrator j of loop n, plus 1; 0 where the image has no such integrator. -/
def integWord (n j : Nat) : Nat := key 2 (n * 16 + j)
/-- The parameter word that presets integrator j of loop n (R213). -/
def integPreset (n j : Nat) : Nat := key 3 (n * 16 + j)
/-- The data word watched as LOOP_WATCH_n_k, plus 1; 0 where none is marked. -/
def watch (n k : Nat) : Nat := key 4 (n * 8 + k)
/-- The physical tile of loop n at HOME h (R231). -/
def home (n h : Nat) : Nat := key 5 (n * 4 + h)
/-- 1: the route of a source names loop n (R220). -/
def route (src n : Nat) : Nat := key 6 (src * 64 + n)
/-- The wait limit of the IN at place pc of loop n's program, in FCLK periods after the boundary (R221). -/
def waitLimit (n pc : Nat) : Nat := key 7 (n * 4096 + pc % 4096)
/-- 0 LAST, else N of MEAN, for fast sense channel ch (R219). -/
def fsMode (ch : Nat) : Nat := key 8 ch
/-- The delivery instant of fast sense channel ch, in 200 ns steps after the boundary (R219). -/
def fsOfs (ch : Nat) : Nat := key 9 ch
/-- The number of points of look-up table t (R216). -/
def lutLen (t : Nat) : Nat := key 10 t
/-- The argument of point i of look-up table t. -/
def lutX (t i : Nat) : Nat := key 11 (t * 1024 + i)
/-- The value of point i of look-up table t. -/
def lutY (t i : Nat) : Nat := key 12 (t * 1024 + i)
/-- The integrator mode of integrator j of loop n: 0 CLAMP, else FREEZE by the limiter's data word plus 1 (R210). -/
def integMode (n j : Nat) : Nat := key 13 (n * 16 + j)
/-- The blanking time of pair n's switch-node check, in FCLK periods (R255). -/
def blank (n : Nat) : Nat := key 14 n
/-- The placement of endpoint e (plCell or plOutlet). -/
def epPlace (e : Nat) : Nat := key 15 e
/-- 1: endpoint e is in the image's endpoint table. -/
def epUsed (e : Nat) : Nat := key 16 e
/-- CLASS of endpoint e in the table. -/
def epClass (e : Nat) : Nat := key 17 e
/-- LEGS of endpoint e in the table. -/
def epLegs (e : Nat) : Nat := key 18 e
/-- MEAS_WORDS of endpoint e in the table. -/
def epWords (e : Nat) : Nat := key 19 e
/-- GROUPS of endpoint e. -/
def epGroups (e : Nat) : Nat := key 20 e
/-- MEAS_OFS of endpoint e. -/
def epOfs (e : Nat) : Nat := key 21 e
/-- LEGS_EN of endpoint e. -/
def epLegsEn (e : Nat) : Nat := key 22 e
/-- The settings of an edge channel 64 + 8 × e + leg, laid out as EDGE_CFG_n. -/
def legCfg (ch : Nat) : Nat := key 23 ch
/-- PERIOD of a ring leg's channel. -/
def legPer (ch : Nat) : Nat := key 24 ch
/-- PHASE of a ring leg's channel. -/
def legPh (ch : Nat) : Nat := key 25 ch
/-- MINPW of a ring leg's channel. -/
def legMinpw (ch : Nat) : Nat := key 26 ch
/-- RISE of a ring leg's channel. -/
def legRise (ch : Nat) : Nat := key 27 ch
/-- FALL of a ring leg's channel. -/
def legFall (ch : Nat) : Nat := key 28 ch

/-- 1: the orphan state of a pair is its trip pattern (R178). -/
def orphanTrip (n : Nat) : Nat := key 78 n

/-- The word of a cell's MEAS that carries quantity q of R328: 0 voltage, 1 DAB current, 2 and 3 heatsinks, 4 status. -/
def cellWord (q : Nat) : Nat := key 29 q
/-- The site rating in kW. -/
def siteKw : Nat := key 30 0
/-- The cell rated power in W. -/
def cellW : Nat := key 30 1
/-- 1: three channels carry phase currents (R330). -/
def threeCur : Nat := key 30 2
/-- n' of cell c in units of 10^-4 (R345). -/
def cellTurns (c : Nat) : Nat := key 31 c
/-- L of cell c in nH (R345). -/
def cellLeak (c : Nat) : Nat := key 32 c

/-- 1 + the home outlet of phase m; 0 where the image does not list it (R388). -/
def phHome (m : Nat) : Nat := key 33 m
/-- 1 + the alternate outlet of phase m; 0 for none (R388). -/
def phAlt (m : Nat) : Nat := key 34 m
/-- The word of a phase module's MEAS that carries quantity q of R385: 0 current, 1 heatsink, 2 status. -/
def phWord (q : Nat) : Nat := key 35 q
/-- PERIOD of outlet n in edge units (R390). -/
def outPer (n : Nat) : Nat := key 36 n
/-- D_MAX of outlet n in per cent (R395). -/
def outDmax (n : Nat) : Nat := key 37 n
/-- Rated current of outlet n in A. -/
def outRated (n : Nat) : Nat := key 38 n
/-- Rated voltage of outlet n in 0.1 V. -/
def outVolt (n : Nat) : Nat := key 39 n
/-- TEMP_DERATE in 0.1 °C (R399). -/
def tempDerate : Nat := key 30 3
/-- TEMP_OFF in 0.1 °C (R399). -/
def tempOff : Nat := key 30 4
/-- The limiter gain of R396, in 2^-31 of duty per mA. -/
def limGain : Nat := key 30 5
/-- 1 + the fast sense channel that carries V_out of outlet n (R387). -/
def outVch (n : Nat) : Nat := key 40 n

/-- The cable of outlet n: 0 unused, 1 COOLED, 2 PASSIVE (R441). -/
def coolKind (n : Nat) : Nat := key 41 n
/-- 1 + the loop that runs outlet n's cooling. -/
def coolLoop (n : Nat) : Nat := key 42 n
/-- The parameter word of outlet n's cooling loop that holds parameter i: 0 RES_20 (nΩ), 1 α (10^-6 /K), 2 Rth_cc0, 3 Rth_cj,
4 Rth_ja (µK/W), 5 Cth_cd, 6 Cth_jk (mJ/K), 7 F_NOM (0.1 L/min), 8 K_OBS (10^-3 /s), 9 LOSS_FULL (W), 10 I_NOFLOW (A). -/
def coolPar (n i : Nat) : Nat := key 43 (n * 16 + i)
/-- PUMP_IDLE of outlet n in per cent (R453). -/
def pumpIdle (n : Nat) : Nat := key 44 n
/-- 1 + the pump device of outlet n; 0 for none (R455). -/
def pumpDev (n : Nat) : Nat := key 45 n
/-- 1 + the fan device of outlet n; 0 for none (R455). -/
def fanDev (n : Nat) : Nat := key 46 n
/-- The gains of outlet n's fan law (R454): 0 proportional in 10^-3 % per K, 1 integral in 10^-6 % per K and s. -/
def fanGain (n k : Nat) : Nat := key 106 (n * 2 + k)
/-- 1 + the flow source of outlet n (R441). -/
def flowSrc (n : Nat) : Nat := key 47 n
/-- K_FLOW of a pulse flow source in pulses per litre; 0 for a site-bus source (R444). -/
def kFlow (src : Nat) : Nat := key 48 src
/-- 1 + the LEAK input of outlet n (R441). -/
def leakPad (n : Nat) : Nat := key 49 n

/-- 1 + 2 × GPIO pad + active level of outlet n's IMD_OK input (R470). -/
def imdOk (n : Nat) : Nat := key 50 n
/-- 1 + 2 × GPIO pad + active level of outlet n's IMD_WARN input; 0 for none (R470). -/
def imdWarn (n : Nat) : Nat := key 51 n

/-- 1 + the published slot that carries the available import (0) or export (1) in kW (R360, R421, R427). -/
def sstSlot (k : Nat) : Nat := key 52 k
/-- 1 + the published slot of cell c's junction words (R424). -/
def cellSlot (c : Nat) : Nat := key 53 c
/-- 1 + the published slot of outlet n's I_CAP and V_out (0) or I_TC (1) (R438). -/
def outSlot (n k : Nat) : Nat := key 54 (n * 2 + k)
/-- L0 of the cells in mW, L1 in mW per kW, L2 in µW per kW², R_JH in µK/W (R424), by index 0 to 3. -/
def cellLoss (k : Nat) : Nat := key 55 k

/-- 1 + the connection whose frames carry ZONE of axis a (R500). -/
def zoneConn (a : Nat) : Nat := key 56 a
/-- 1 + the reset pad of axis a, a GPIO input (R502). -/
def resetPad (a : Nat) : Nat := key 57 a
/-- Encoder ENC_e: 0 INCR, 1 SSI (R496). -/
def encKind (e : Nat) : Nat := key 58 e
/-- SCALE of encoder ENC_e in 2^-16 of 0.01 mm or 0.01 mrad per count (R496, log entry 98). -/
def encScale (e : Nat) : Nat := key 107 e
/-- The bits of the SSI frame of encoder ENC_e (R496). -/
def encBits (e : Nat) : Nat := key 108 e
/-- 1: the SSI frame of encoder ENC_e is in Gray code (R496). -/
def encGray (e : Nat) : Nat := key 109 e
/-- 1 + CONN_ID of safety connection k; 0 unused (R507). -/
def connId (k : Nat) : Nat := key 59 k
/-- Safety connection k: 0 TX, 1 RX. -/
def connDir (k : Nat) : Nat := key 60 k
/-- PERIOD of safety connection k in ms. -/
def connPeriod (k : Nat) : Nat := key 61 k
/-- WD_TIME of safety connection k in ms. -/
def connWd (k : Nat) : Nat := key 62 k
/-- KEY_A of safety connection k. -/
def connKeyA (k : Nat) : Nat := key 63 k
/-- KEY_B of safety connection k. -/
def connKeyB (k : Nat) : Nat := key 64 k
/-- The axes that RX connection k serves, bit a for axis a. -/
def connAxes (k : Nat) : Nat := key 65 k
/-- The reaction of RX connection k: 0 STO, 1 SS1. -/
def connReact (k : Nat) : Nat := key 66 k

/-- The lanes of acquisition preset p (ACQ section). -/
def acqLanes (p : Nat) : Nat := key 67 p
/-- The source code of lane l of preset p (R593). -/
def acqLane (p l : Nat) : Nat := key 68 (p * 8 + l)
/-- The streams of preset p. -/
def acqStreams (p : Nat) : Nat := key 69 p
/-- KIND of stream k of preset p (R596). -/
def acqKind (p k : Nat) : Nat := key 70 (p * 4 + k)
/-- N of stream k of preset p. -/
def acqN (p k : Nat) : Nat := key 71 (p * 4 + k)
/-- ACQ_E_TU of trigger unit u of preset p. -/
def acqTu (p u : Nat) : Nat := key 72 (p * 4 + u)
/-- ACQ_E_TID of trigger unit u of preset p. -/
def acqTid (p u : Nat) : Nat := key 73 (p * 4 + u)

/-- 1: the running image uses site-bus controller k (CANOBJ section). -/
def canUsed (k : Nat) : Nat := key 74 k
/-- 1 + the identifier of receive object o of controller k, plus 2^29 for an extended one; 0 unused (R626). -/
def canObj (k o : Nat) : Nat := key 75 (k * 1024 + o)
/-- Receive object o of controller k: bit 0 XL, bit 1 LOOPBACK, from bit 4 its consumer, coded as PRODUCER (R626, R627). -/
def canObjCfg (k o : Nat) : Nat := key 76 (k * 1024 + o)

/-- What commands load-switch channel n when its controller is not HOST (R640): 0 nothing; else 1 + 8 × kind + index, kind 0 pump
device, 1 fan device, 2 contactors of an outlet, 3 DISCH of an outlet, 4 main breaker close, 5 main breaker open, 6 precharge
breaker close. -/
def lswUnit (n : Nat) : Nat := key 77 n

/-! The quantities that the resource limits of load-time check 11 hold (R119). -/

/-- The operation at place i of tile n's program, numbered in the order of the table of R216: 0 IN, 1 MAC, MSU and MACZ, 2 STORE, 3 word arithmetic,
4 SCALE, 5 LIM, 6 CMP and SEL, 7 INTEG, 8 BIQ, 9 SINCOS, 10 LUT, 11 DIV, 12 SQRT, 13 STAMP, 14 XPUT and XGET, 15 CHAIN_PUT and CHAIN_GET, 16 POST,
17 PUB, 18 REP, 19 BR, 20 END (R198). -/
def tileOp (n i : Nat) : Nat := key 80 (n * 4096 + i)
/-- What that operation adds to the path: the length of a REP's block, the place a BR goes to, the path of a CHAIN_GET's producer in FCLK periods
(R198, R227). -/
def tileArg (n i : Nat) : Nat := key 104 (n * 4096 + i)
/-- How often the REP there runs its block. -/
def tileTimes (n i : Nat) : Nat := key 105 (n * 4096 + i)
/-- 1: parameter word k of loop n is a coefficient (R236). -/
def coef (n k : Nat) : Nat := key 103 (n * 128 + k)
/-- The instructions of tile n's program (R196). -/
def tileInstrs (n : Nat) : Nat := key 81 n
/-- The data-store words that tile n uses (R196). -/
def tileWords (n : Nat) : Nat := key 82 n
/-- The carried words of tile n (R199). -/
def tileCarried (n : Nat) : Nat := key 83 n
/-- The receive objects of site-bus controller k. -/
def rxObjs (k : Nat) : Nat := key 84 k
/-- The endpoints of ring r. -/
def ringEps (r : Nat) : Nat := key 85 r
/-- 1 + the loop that runs the modulator of phase p (R332, R336); 0 where no loop does. -/
def modLoop (p : Nat) : Nat := key 87 p
/-- 1 + the loop that runs the output-stage loop of outlet n; 0 where no loop does. -/
def outLoop (n : Nat) : Nat := key 88 n
/-- 1 + the TH input that is the heatsink of phase m on a local pair; 0 for none (R386). -/
def phTh (m : Nat) : Nat := key 89 m
/-- 1 + 1,024 × the controller + the receive object that a site-bus flow source reads (R444); 0 for a pulse source. -/
def flowObj (src : Nat) : Nat := key 90 src
/-- 1 + 16 × the controller + the message port of pump (even) or fan (odd) device d / 2 (R456); 0 where it has none. -/
def devPort (d : Nat) : Nat := key 91 d
/-- The identifier of that message, plus 2^29 for an extended one. -/
def devMsg (d : Nat) : Nat := key 92 d
/-- The period of that message in ms. -/
def devPeriod (d : Nat) : Nat := key 93 d
/-- The number of bytes of that message. -/
def devLen (d : Nat) : Nat := key 94 d
/-- The byte of that message that carries the demand. -/
def devByte (d : Nat) : Nat := key 95 d
/-- Byte i of that message where it does not carry the demand. -/
def devData (d i : Nat) : Nat := key 96 (d * 64 + i)
/-- The site-bus transport of safety connection k (R507): 1 + 1,024 × the controller + the receive object (RX) or message port (TX);
0 for a UDP datagram. -/
def connCan (k : Nat) : Nat := key 97 k
/-- The identifier of TX connection k's message on the site bus, plus 2^29 for an extended one, plus 2^30 with a bit-rate switch. -/
def connMsg (k : Nat) : Nat := key 98 k
/-- What drives GPIO pad k as an output (R362, R456, R470): 0 nothing; else 1 + the active level + 2 × (8 × kind + index), kind and index as
in lswUnit. -/
def gpioUse (k : Nat) : Nat := key 99 k
/-- The orphan state of GPIO pad k (R178): 0 high-impedance, 1 low, 2 high, 3 the last level held. -/
def gpioOrphan (k : Nat) : Nat := key 100 k
/-- The frequency in Hz of GPIO pad k in PWM mode (R456). -/
def gpioHz (k : Nat) : Nat := key 101 k
/-- 1 + the tile that ROUTES names as the producer of edge channel ch (R222); 0 for none. -/
def chanTile (ch : Nat) : Nat := key 102 ch
/-- The bytes of the per-cycle Keeper copy (R165). -/
def copyBytes : Nat := key 30 6
/-- The SRAM banks in use (R677). -/
def sramBanks : Nat := key 30 7
/-- The record store in MB (R591). -/
def recordMb : Nat := key 30 8
/-- The control area of DRAM in MB (R678). -/
def ctrlMb : Nat := key 30 9
/-- C_cell in µF (R340). -/
def cellCap : Nat := key 30 10

end Sys2Proof.Machine.Par
end

