-- ==== Sys2Proof/Machine/Access.lean ====
section
/-! DEFINITION. A register access from any path (R727): what an address names, the read with its shadows and snapshots,
and the write with every check the spec puts before it. One pipeline serves the host link, the management protocol and
the service set. -/

namespace Sys2Proof.Machine

open Sys2Proof

/-- Where a side's own copy of a per-side register is held: Side B's stands apart from Side A's. -/
def sideReg (x : Side) (addr : Nat) : Nat := addr + 0x2000000 * x.code

/-! ### What a variant provides (R1 to R3) -/

/-- SYS_CAP_0 of the variant (R3). -/
def cap0 : Nat → Nat
  | 2 => 0x2B066860
  | 3 => 0x3B014430
  | _ => 0x1B0EC8C0

/-- SYS_CAP_1 of the variant (R3). -/
def cap1 : Nat → Nat
  | 2 => 0x08303084
  | 3 => 0x04182042
  | _ => 0x08304084

/-- Transformer control is present (R1). -/
def hasSst (v : Nat) : Bool := (cap0 v).testBit 19
/-- Harmonic analysis is present (R1). -/
def hasHarm (v : Nat) : Bool := (cap0 v).testBit 18
/-- Safety axes present. -/
def axesOf (v : Nat) : Nat := cap0 v / 0x10000 % 4
/-- Ring ports present. -/
def portsOf (v : Nat) : Nat := cap0 v / 0x1000 % 16
/-- Outlets present. -/
def outletsOf (v : Nat) : Nat := cap0 v / 0x100 % 16
/-- Endpoints at most. -/
def endpointsOf (v : Nat) : Nat := cap0 v % 256
/-- PWM pairs present. -/
def pairsOf (v : Nat) : Nat := cap1 v / 0x10000 % 256
/-- Loop tiles of each side. -/
def tilesOf (v : Nat) : Nat := cap1 v / 0x100 % 256
/-- Acquisition engines of each side. -/
def enginesOf (v : Nat) : Nat := cap1 v / 8 % 32
/-- Site bus controllers present. -/
def cansOf (v : Nat) : Nat := cap1 v % 8

/-- The address lies in the register stride of instance n of a group, n at or above the number present (R11). -/
def inAbsent (addr base stride total present : Nat) : Bool :=
  decide (base ≤ addr) && decide (addr < base + stride * total) && decide (present ≤ (addr - base) / stride)

/-- An address of an absent unit (R4, R11). -/
def absentUnit (v addr : Nat) : Bool :=
  (addr / 0x10000 == 0x07 && !hasSst v)
  || inAbsent addr 0x61000 0x20 12 (portsOf v)
  || inAbsent addr 0x64000 0x20 384 (32 * portsOf v)
  || inAbsent addr 0x41000 0x40 64 (tilesOf v)
  || inAbsent addr 0x48000 0x200 64 (tilesOf v)
  || inAbsent addr 0x51000 0x40 48 (pairsOf v)
  || inAbsent addr 0x81000 0x40 8 (outletsOf v)
  || inAbsent addr 0x91000 0x20 8 (outletsOf v)
  || inAbsent addr 0xA1000 0x40 8 (outletsOf v)
  || inAbsent addr 0xB1000 0x40 8 (outletsOf v)
  || inAbsent addr 0xC1000 0x40 2 (axesOf v)
  || inAbsent addr 0xD0100 0x10 8 (outletsOf v)
  || inAbsent addr 0xD0188 8 8 (outletsOf v)
  || (decide (0xD4000 ≤ addr) && decide (addr < 0xD4300) && !hasHarm v)
  || inAbsent addr 0xE1000 0x100 9 (outletsOf v + 1)
  || inAbsent addr 0xF1000 0x100 16 (enginesOf v)
  || inAbsent addr 0x100000 0x4000 4 (cansOf v)
  || inAbsent addr 0x1502C0 4 48 (pairsOf v)
  || inAbsent addr 0x150380 4 12 (portsOf v)

/-- A queue number that the variant lacks (R92): its unit is absent. -/
def absentQueue (v q : Nat) : Bool :=
  (decide (q < 64) && decide (tilesOf v ≤ q))
  || (decide (96 ≤ q) && decide (q < 108) && decide (portsOf v ≤ q - 96))
  || (decide (109 ≤ q) && decide (q < 125) && decide (enginesOf v ≤ q - 109))
  || (decide (127 ≤ q) && decide (q < 131) && decide (cansOf v ≤ q - 127))

/-- Registers and window of the firmware update (R745 to R747). -/
def fwAddr (addr : Nat) : Bool :=
  (decide (0x140040 ≤ addr) && decide (addr < 0x140058)) || (decide (0x148000 ≤ addr) && decide (addr < 0x150000))

/-- Out of the map, or not a word address (R749, R759). -/
def outOfMap (addr : Nat) : Bool := decide (0x180000 ≤ addr) || decide (addr % 4 ≠ 0)

/-- The module answers an access: powered and out of reset, in RUN, TRIM or WATCH (PWR registers), without GUARD_FAULT (R720); SCRAPPED
leaves SYS, MEM, METR and BILL (R693); a closed host link answers nothing (R730); a side in RECOVERY only the firmware registers
(R747). -/
def State.answers (s : State) (p : Path) (addr : Nat) : Bool :=
  let b := addr / 0x10000
  !(s.keep.guardFault && p != .service) && (s.sup.phase == 3 || s.sup.phase == 4) && decide (s.fld Reg.PWR_STAT Fld.PWR_STAT_STATE < 3)
  && (s.fld Reg.MEM_STAT Fld.MEM_STAT_LC != 4 || b == 0 || b == 0x12 || b == 0xD || b == 0xE)
  && !(p == .host && s.fld Reg.HOST_CFG Fld.HOST_CFG_HOST_EN == 0)
  && (s.fld Reg.HOST_FW_STAT Fld.HOST_FW_STAT_RECOVERY == 0 || s.hasActive || fwAddr addr)

/-! ### Data windows -/

/-- The windows that map memory instead of registers: image slot, firmware bank, record windows of ACQ and BILL. -/
inductive Window where
  | image | firmware | acqRecord | billRecord
  deriving DecidableEq, Repr

/-- The window an address lies in. -/
def windowOf (addr : Nat) : Option Window :=
  if 0x18000 ≤ addr ∧ addr < 0x20000 then some .image
  else if 0x148000 ≤ addr ∧ addr < 0x150000 then some .firmware
  else if 0xF8000 ≤ addr ∧ addr < 0x100000 then some .acqRecord
  else if 0xE4100 ≤ addr ∧ addr < 0xE4900 then some .billRecord
  else none

/-- Key of byte ofs of image slot n (0 A, 1 B) on a side, in the store of bytes (R112: 16 MB each). -/
def slotKey (x : Side) (n ofs : Nat) : Nat := x.code * 0x10000000 + n * 0x1000000 + ofs

/-- Key of byte ofs of firmware bank n (0 FW_A, 1 FW_B) on a side (5 MB each). -/
def bankKey (x : Side) (n ofs : Nat) : Nat := x.code * 0x10000000 + 0x4000000 + n * 0x800000 + ofs

/-- Key of byte ofs of an access path's acquisition record window. -/
def acqWinKey (p : Path) (ofs : Nat) : Nat := 0x20000000 + p.code * 0x10000000 + ofs

/-- Key of byte ofs of an access path's billing record window. -/
def billWinKey (p : Path) (ofs : Nat) : Nat := 0x60000000 + p.code * 0x10000 + ofs

/-- A byte of the store; 0 where nothing was written. -/
def State.byte (s : State) (k : Nat) : Byte := SMap.get (fun _ => 0) s.bytes k

/-- The state with a byte of the store set. -/
def State.setByte (s : State) (k : Nat) (v : Byte) : State :=
  { s with bytes := SMap.put (fun _ => 0) s.bytes k v }

/-- A little-endian word of the store (R15). -/
def State.wordAt (s : State) (k : Nat) : Word :=
  BitVec.ofNat 32 ((s.byte k).toNat + 0x100 * (s.byte (k + 1)).toNat + 0x10000 * (s.byte (k + 2)).toNat
    + 0x1000000 * (s.byte (k + 3)).toNat)

/-- The state with a little-endian word of the store set (R15). -/
def State.setWordAt (s : State) (k : Nat) (w : Word) : State :=
  (((s.setByte k (w.extractLsb' 0 8)).setByte (k + 1) (w.extractLsb' 8 8)).setByte (k + 2) (w.extractLsb' 16 8)).setByte
    (k + 3) (w.extractLsb' 24 8)

/-- The state without the bytes of a range. -/
def State.eraseBytes (s : State) (lo n : Nat) : State :=
  { s with bytes := s.bytes.filter fun e => !(decide (lo ≤ e.1) && decide (e.1 < lo + n)) }

/-- The slot the image window shows: the one in WRITING, else the running one (IMG_XFER_OFS). -/
def State.imageWindowSlot (s : State) : Option Nat :=
  match s.img.xfer with
  | some n => some n
  | none => s.img.running

/-! ### Reads -/

/-- Registers of which each access path has its own instance. -/
def perPath (addr : Nat) : Bool :=
  addr == Reg.TIME_QUEUE_SEL || addr == Reg.LOOP_VIEW || addr == Reg.METR_HARM_SEL || addr == Reg.BILL_REC_SEL
  || addr == Reg.BILL_REC_STAT || addr == Reg.ACQ_RD_SEL || addr == Reg.ACQ_RD_OFS || addr == Reg.ACQ_RD_STAT
  || (decide (0x100300 ≤ addr) && decide (addr < 0x110000) && decide (addr % 0x4000 = 0x300
      ∨ addr % 0x4000 = 0x304 ∨ addr % 0x4000 = 0x308 ∨ addr % 0x4000 = 0x30C ∨ addr % 0x4000 = 0x310
      ∨ (0x3000 ≤ addr % 0x4000 ∧ addr % 0x4000 < 0x3800)))

/-- The high word's register of a 64-bit count whose low word stands at the address (R54). -/
def highOf (addr : Nat) : Option Nat :=
  if addr = Reg.TIME_NOW_LO ∨ addr = Reg.TIME_MONO_LO ∨ addr = Reg.TIME_PPS_IN_LO ∨ addr = Reg.TIME_SET_LO ∨ addr = Reg.SYS_SERIAL_LO
    ∨ addr = Reg.KEEP_LAST_FO_TS_LO ∨ addr = Reg.QSET_FIRST_TS_LO ∨ addr = Reg.METR_SEAL_TS_LO
    ∨ addr = Reg.BILL_DEM_END_LO ∨ addr = Reg.BILL_PWR_TS_LO ∨ addr = Reg.MEM_SEC_TS_LO ∨ addr = Reg.PWR_RST_TS_LO
    ∨ addr = Reg.PWR_ALARM_LO ∨ (0xF1000 ≤ addr ∧ addr < 0xF2000 ∧ addr % 0x100 = 0x20)
    ∨ (0x100000 ≤ addr ∧ addr < 0x110000 ∧ addr % 0x4000 = 0x30C)
    ∨ (0xE3000 ≤ addr ∧ addr < 0xE3300 ∧ (addr % 0x20 = 4 ∨ addr % 0x20 = 0xC))
    ∨ (0xE1000 ≤ addr ∧ addr < 0xE1900 ∧ addr % 8 = 0 ∧ (addr % 0x100 < 0xB0 ∨ addr % 0x100 = 0xD8))
  then some (addr + 4) else none

/-- A transaction context. -/
def State.context (s : State) (n : Nat) : Ctx := SMap.get (fun _ => Ctx.reset) s.ctx n

/-- The state with a transaction context set. -/
def State.setContext (s : State) (n : Nat) (c : Ctx) : State :=
  { s with ctx := SMap.put (fun _ => Ctx.reset) s.ctx n c }

/-- The code of IMG_TXN_STAT_n.STATE. -/
def CtxState.code : CtxState → Nat
  | .idle => 0
  | .opened => 1
  | .validating => 2
  | .pend => 3
  | .trial => 4

/-- IMG_TXN_STAT_n of a context. -/
def ctxWord (c : Ctx) : Word :=
  BitVec.ofNat 32 (c.state.code * 0x10000000 + c.result * 0x1000000 + c.reason * 0x100000 + c.role.code * 0x20000
    + c.path.code * 0x8000 + flag c.conflict * 0x4000 + flag c.full * 0x2000 + min c.count 0xFFF)

/-- The Keeper link is trained in both directions (KEEP_STAT.LINK_UP). -/
def State.linkUp (s : State) : Bool :=
  let ok := fun x => let st := (s.side x).state; !(st == SideState.off) && !(st == SideState.failed)
  s.keep.linkTrained && ok .a && ok .b

/-- A healthy standby side stands ready: the side that is not active is in STANDBY. -/
def State.hasStandby (s : State) : Bool :=
  decide ((s.side .a).state = .standby) || decide ((s.side .b).state = .standby)

/-- KEEP_STAT.DEGRADED: orphan control, or no healthy standby once the module has left LOADING or a side has failed
(R788; its reset value). -/
def State.degraded (s : State) : Bool :=
  s.keep.orphan || (!s.hasStandby && (s.fld Reg.IMG_STAT Fld.IMG_STAT_MODE != 0
    || (s.side .a).state == .failed || (s.side .b).state == .failed))

/-- KEEP_STAT, from what the Guard die holds of the sides. -/
def State.keepStat (s : State) : Word :=
  let w := fset Fld.KEEP_STAT_A_STATE (s.rd Reg.KEEP_STAT) (s.side .a).state.code
  let w := fset Fld.KEEP_STAT_B_STATE w (s.side .b).state.code
  let w := fset Fld.KEEP_STAT_LINK_UP w (flag s.linkUp)
  fset Fld.KEEP_STAT_DEGRADED w (flag s.degraded)

/-- The snapshot of a path (R764). -/
def State.snap (s : State) (p : Path) : Snapshot := SMap.get (fun _ => Snapshot.reset) s.ev.snaps p.code

/-- Words i = 0 to 3 of a snapshot, as SYS_EVQ_ENT_i; 0 when it is empty (R764). -/
def snapWord (sn : Snapshot) (i : Nat) : Word :=
  match sn.entry with
  | none => 0
  | some e =>
    if i = 0 then e.ts.extractLsb' 0 32
    else if i = 1 then e.ts.extractLsb' 32 32
    else if i = 2 then BitVec.ofNat 32 (e.flags * 0x1000000 + e.cls * 0x10000 + e.code)
    else e.arg

/-- A side runs for LOOP_VIEW (R234): it is in BULK, SHADOW, STANDBY or ACTIVE. -/
def State.sideRunning (s : State) (x : Side) : Bool :=
  let st := (s.side x).state
  st == .bulk || st == .shadow || st == .standby || st == .active

/-- Per-loop status registers, which report the viewed side (R234): TSTAT, TCYC, STAMP, CNT, RUN and WATCH. -/
def loopStatus (addr : Nat) : Bool :=
  decide (0x41000 ≤ addr) && decide (addr < 0x42000)
  && (let o := addr % 0x40
      decide (o < 0xC) || o == 0x10 || decide (0x1C ≤ o))

/-- The side that LOOP_VIEW selects for a path (R234). -/
def State.viewed (s : State) (p : Path) : Side :=
  if fget Fld.LOOP_VIEW_SIDE (s.prd p Reg.LOOP_VIEW) = 1 then s.serving.other else s.serving

/-- A per-loop status register on the viewed side; 0 while that side does not run (R234). -/
def State.loopWord (s : State) (p : Path) (addr : Nat) : Word :=
  let x := s.viewed p
  let w := s.rd (addr + 0x2000000 * x.code)
  if s.sideRunning x then
    if addr % 0x40 = 0 then (s.rd addr &&& 0xFF000000) ||| (w &&& 0xFFFF) else w
  else 0

/-- Per-pair status registers, which report the viewed side: TRIM, PSTAT, PCNT, CMD, CAL and SWN. -/
def pairStatus (addr : Nat) : Bool :=
  decide (0x51000 ≤ addr) && decide (addr < 0x52000) && decide (0x1C ≤ addr % 0x40) && decide (addr % 0x40 < 0x34)

/-- A pad of a pair: 2 × pair + 1 for PWMB. -/
def State.pad (s : State) (k : Nat) : Pad := SMap.get (fun _ => Pad.reset) s.edge.pads k

/-- EDGE_CAL_n of a pair: AGE from the older line in use, the taps of the lines in use, the last failures. -/
def State.edgeCal (s : State) (addr : Nat) : Word :=
  let n := (addr - 0x51000) / 0x40
  let at' := fun k => SMap.get (fun _ => 0) (s.pad k).calAt (s.pad k).line
  let age := max (s.since (at' (2 * n))) (s.since (at' (2 * n + 1))) / Config.usec 10
  fset Fld.EDGE_CAL_AGE (s.rd addr) (min age 255)

/-- A per-pair status register on the viewed side; 0 while that side does not run (R234). -/
def State.pairWord (s : State) (p : Path) (addr : Nat) : Word :=
  let x := s.viewed p
  if s.sideRunning x then
    if addr % 0x40 = 0x2C then s.edgeCal addr
    else s.rd (addr + 0x2000000 * x.code)
  else 0

/-- Per-channel status registers of Hedgerow, and the LOOP_VIEW side's instance of SAFE_STAT's AX_ENABLED and CONN_LOST. -/
def channelStatus (addr : Nat) : Bool :=
  addr == Reg.SAFE_STAT || addr == Reg.SAFE_CHECK_RUN || addr == Reg.SAFE_CNT
  || (decide (0xC1000 ≤ addr) && decide (addr < 0xC1080) && decide (addr % 0x40 < 0x10))
  || (decide (0xC2000 ≤ addr) && decide (addr < 0xC2100))

/-- A per-channel status register on the viewed side; 0 while that side does not run (R234). -/
def State.channelWord (s : State) (p : Path) (addr : Nat) : Word :=
  let x := s.viewed p
  let w := if s.sideRunning x then s.rd (addr + 0x2000000 * x.code) else 0
  if addr = Reg.SAFE_STAT then (s.rd addr &&& 0xFFF00000) ||| (w &&& 0xFFFFF) else w

/-- An acquisition engine of a side as the state holds it. -/
def State.engAt (s : State) (x : Side) (n : Nat) : AcqEng := SMap.get (fun _ => AcqEng.reset) s.acq.engs (x.code * 16 + n)

/-- MB held by an engine's closed records, rounded up. -/
def AcqEng.usedMb (e : AcqEng) : Nat := (e.recs.foldl (fun t r => t + r.2.length) 0 + 0xFFFFF) / 0x100000

/-- Status registers of acquisition, which report the viewed side. -/
def acqStatus (addr : Nat) : Bool :=
  addr == Reg.ACQ_STAT || addr == Reg.ACQ_STORE
  || (decide (0xF1000 ≤ addr) && decide (addr < 0xF2000)
      && (addr % 0x100 == 0 || addr % 0x100 == 0x18 || addr % 0x100 == 0x1C
          || (decide (0x40 ≤ addr % 0x100) && decide (addr % 0x100 < 0x80) && decide (addr % 0x10 < 8))))

/-- An acquisition status register on the viewed side; 0 while that side does not run (R234). ENGINES, SIZE_MB and a trigger unit's
preset registers do not differ between the sides. -/
def State.acqWord (s : State) (p : Path) (addr : Nat) : Word :=
  let x := s.viewed p
  let n := (addr - 0xF1000) / 0x100
  let e := s.engAt x n
  let preset := s.fld (Reg.ACQ_E_CFG n) Fld.ACQ_E_CFG_PRESET
  let u := addr % 0x100 / 0x10 - 4
  if 0xF1000 ≤ addr ∧ 0x40 ≤ addr % 0x100 then
    BitVec.ofNat 32 (s.parN (if addr % 0x10 = 0 then Par.acqTu preset u else Par.acqTid preset u))
  else if !s.sideRunning x then 0
  else if addr = Reg.ACQ_STAT then
    BitVec.ofNat 32 (enginesOf s.variant * 0x1000000
      + ((List.range 16).foldl (fun t k => t + (if (s.engAt x k).state = 0 then 0 else 2 ^ k)) 0))
  else if addr = Reg.ACQ_STORE then
    fset Fld.ACQ_STORE_FREE_MB (s.rd addr)
      (s.fld addr Fld.ACQ_STORE_SIZE_MB - (List.range 16).foldl (fun t k => t + (s.engAt x k).usedMb) 0)
  else if addr % 0x100 = 0 then BitVec.ofNat 32 (e.state * 0x10000000 + e.lastNo)
  else if addr % 0x100 = 0x1C then fset Fld.ACQ_E_PART_USED_MB (s.rd addr) e.usedMb
  else s.rd (addr + 0x2000000 * x.code)

/-- A channel of the load switches. -/
def State.lswCh (s : State) (n : Nat) : LswCh := SMap.get (fun _ => LswCh.reset) s.lsw.chans n

/-- A field of LSW_TIME_n as the channel uses it: under Fog mode as it stood at entry (R660). -/
def State.lswTime (s : State) (n : Nat) (f : Field) : Nat := fget f ((s.lswCh n).heldTime.getD (s.rd (Reg.LSW_TIME n)))

/-- The current limit of channel n in 10 mA (R643, R644): I_INR in INRUSH, I_LIM in ON, none in any other state; under Fog mode as it stood at
entry (R660). While TREG is set the channel lowers it as far as its junction needs, which the spec puts in no number: a free value at most as
large (R645). -/
def State.lswLimit (s : State) (n : Nat) : Option Nat :=
  let f := fun (g : Field) => fget g ((s.lswCh n).heldLim.getD (s.rd (Reg.LSW_LIM n)))
  let st := s.fld (Reg.LSW_CH_STAT n) Fld.LSW_CH_STAT_STATE
  let full := if st = 1 then some (f Fld.LSW_LIM_I_INR) else if st = 2 then some (f Fld.LSW_LIM_I_LIM) else none
  if s.fld (Reg.LSW_CH_STAT n) Fld.LSW_CH_STAT_TREG = 1 then full.map fun l => min l (Config.freeInt s.free).natAbs else full

/-- CLAMP_BUDGET of channel n in µJ. -/
def State.lswBudget (s : State) (n : Nat) : Int := (4000 * s.lswTime n Fld.LSW_TIME_CLAMP_BUDGET : Nat)

/-- The bucket of channel n now, in µJ: it refills at 200 mW (heavy) or 50 mW (light) up to CLAMP_BUDGET (R653). -/
def State.lswBucket (s : State) (n : Nat) : Int :=
  let c := s.lswCh n
  let rate := if n < 8 then 200 else 50
  min (s.lswBudget n) (c.bucket + (rate * s.since c.bucketAt / Config.msec 1 : Nat))

/-- STATE of channel n (R643). -/
def State.lswState (s : State) (n : Nat) : Nat := s.fld (Reg.LSW_CH_STAT n) Fld.LSW_CH_STAT_STATE

/-- The channels for which a test holds, as a mask. -/
def lswMask (f : Nat → Bool) : Nat := (List.range 24).foldl (fun m n => if f n then m + 2 ^ n else m) 0

/-- LSW_STAT, LSW_FAULT and LSW_CLAMP_n as they stand now. -/
def State.lswWord (s : State) (addr : Nat) : Word :=
  let st := fun n (f : Field) => s.fld (Reg.LSW_CH_STAT n) f
  if addr = Reg.LSW_STAT then
    fset Fld.LSW_STAT_FOG_EN (fset Fld.LSW_STAT_FOG_ANY (fset Fld.LSW_STAT_ON (s.rd addr) (lswMask fun n => s.lswState n == 1 || s.lswState n == 2))
      (flag ((List.range 24).any fun n => st n Fld.LSW_CH_STAT_FOG == 1))) (s.fld Reg.LSW_FOGIN Fld.LSW_FOGIN_FOG_EN)
  else if addr = Reg.LSW_FAULT then
    BitVec.ofNat 32 (lswMask fun n => s.lswState n == 4 || st n Fld.LSW_CH_STAT_CLAMP_LOCK == 1)
  else
    let n := (addr - 0x111000) / 0x20
    fset Fld.LSW_CLAMP_BUCKET (s.rd addr) (bitsOf 16 (s.lswBucket n / 1000))

/-- Registers of the site bus that hold side state. -/
def canStatus (addr : Nat) : Bool :=
  decide (0x100000 ≤ addr) && decide (addr < 0x110000)
  && (let o := addr % 0x4000
      o == 0 || o == 0x14 || o == 0x34 || o == 0x38 || o == 0x3C
      || (decide (0x100 ≤ o) && decide (o < 0x300) && decide (0xC ≤ o % 0x20) && decide (o % 0x20 < 0x18)))

/-- A site-bus status register on the viewed side; 0 while that side does not run (R234). -/
def State.canWord (s : State) (p : Path) (addr : Nat) : Word :=
  let x := s.viewed p
  let k := (addr - 0x100000) / 0x4000
  let o := addr % 0x4000
  let e := SMap.get (fun _ => CanEng.reset) s.can.engs (x.code * 4 + k)
  let w := s.rd addr
  if !s.sideRunning x then 0
  else if o = 0 then fset Fld.CAN_STAT_Q_HIGH (fset Fld.CAN_STAT_Q_FILL w e.queue.length) e.high
  else if 0x100 ≤ o ∧ o % 0x20 = 0xC then
    let b := fun i => (SMap.get (fun _ => CanBuf.reset) e.bufs ((o - 0x100) / 0x20 * 3 + i)).state
    fset Fld.CAN_PORT_STAT_BUF w (b 0 + 4 * b 1 + 16 * b 2)
  else w

/-- Status registers of the memories, which report the viewed side. -/
def memStatus (addr : Nat) : Bool :=
  addr == Reg.MEM_ECC 0 || addr == Reg.MEM_ECC 1 || addr == Reg.MEM_ECC 2 || addr == Reg.MEM_ECC_ADDR || addr == Reg.MEM_COLL
  || addr == Reg.MEM_MRAM

/-- MEM_MRAM of a side (R686): the highest wear of a block, where the event log's entries and each tuning store's blocks are spread over their
whole regions, in parts per million of 10^12 writes (R696), and the wraps of the event-log ring. -/
def State.mramWord (s : State) (x : Side) : Word :=
  let n := SMap.get (fun _ => 0) s.ev.logged x.code
  let spread := fun (writes blocks : Nat) => (writes + blocks - 1) / blocks
  let most := max (spread n 131072) (max (spread (SMap.get (fun _ => 0) s.mem.wear 0) 16384) (spread (SMap.get (fun _ => 0) s.mem.wear 1) 16384))
  BitVec.ofNat 32 (min (most / 1000000) 0xFFFF * 0x10000 + min (n / logCap) 0xFFFF)

/-- A memory status register on the viewed side; 0 while that side does not run (R234). -/
def State.memWord (s : State) (p : Path) (addr : Nat) : Word :=
  let x := s.viewed p
  if s.sideRunning x then (if addr = Reg.MEM_MRAM then s.mramWord x else s.rd (addr + 0x2000000 * x.code)) else 0

/-- A placement's epoch by its key (R184). -/
def State.epochOf (s : State) (k : Nat) : Nat := SMap.get (fun _ => s.keep.epochBase) s.keep.epochs k

/-- The number a variant puts into the top field of a status register (R1): its place and width. -/
def variantTop (v addr : Nat) : Option (Field × Nat) :=
  if addr = Reg.LOOP_STAT then some (⟨24, 8⟩, tilesOf v)
  else if addr = Reg.EDGE_STAT then some (⟨24, 8⟩, pairsOf v)
  else if addr = Reg.RING_STAT then some (⟨28, 4⟩, portsOf v)
  else if addr = Reg.OUTS_STAT then some (⟨28, 4⟩, outletsOf v)
  else if addr = Reg.ACQ_STAT then some (⟨24, 8⟩, enginesOf v)
  else if addr = Reg.SYS_ID then some (⟨16, 16⟩, if v = 2 then 0x9632 else if v = 3 then 0x9616 else 0x9648)
  else if addr = Reg.HOST_PCI_ID then some (⟨16, 16⟩, if v = 2 then 0x9632 else if v = 3 then 0x9616 else 0x9648)
  else none

/-- METR_STAT with LINK: a record arrived within the last 50 ms. -/
def State.metrStat (s : State) : Word :=
  let up := match s.metr.rxAt with
    | some t => decide (s.sinceLife t ≤ Config.msec 50)
    | none => false
  fset Fld.METR_STAT_LINK (s.rd Reg.METR_STAT) (flag up)

/-- METR_HARM_STAT and METR_HARM_h of the channel that METR_HARM_SEL of the path selects. -/
def State.harmWord (s : State) (p : Path) (addr : Nat) : Word :=
  let c := fget Fld.METR_HARM_SEL_CHANNEL (s.prd p Reg.METR_HARM_SEL)
  let at' := fun k => SMap.get (fun _ => 0) s.metr.shownHarm k
  if addr = Reg.METR_HARM_STAT then fset Fld.METR_HARM_STAT_WINDOWS (at' (c * 256 + 128)) (at' 0x10000).toNat
  else at' (c * 256 + (addr - Reg.METR_HARM 0) / 4)

/-- The edge engine places edges (EDGE_STAT.RUN): an active side runs the control, in RUN of the image and above WATCH (R706). -/
def State.edgesOn (s : State) : Bool :=
  s.fld Reg.IMG_STAT Fld.IMG_STAT_MODE == 2 && s.hasActive && !s.keep.guardFault && decide (s.fld Reg.PWR_STAT Fld.PWR_STAT_STATE < 2)

/-- A register with its variant-dependent field in place. -/
def State.variantWord (s : State) (addr : Nat) : Word :=
  match variantTop s.variant addr with
  | some (f, v) => fset f (s.rd addr) v
  | none => s.rd addr

/-- A word of a data window. -/
def State.windowRead (s : State) (p : Path) (w : Window) (addr : Nat) : Word :=
  match w with
  | .image =>
    match s.imageWindowSlot with
    | some n => s.wordAt (slotKey s.serving n
        (0x8000 * s.fld Reg.IMG_XFER_OFS Fld.IMG_XFER_OFS_PART + (addr - 0x18000)))
    | none => 0
  | .firmware =>
    match s.host.fwXfer with
    | some n => s.wordAt (bankKey s.serving n
        (0x8000 * s.fld Reg.HOST_FW_OFS Fld.HOST_FW_OFS_PART + (addr - 0x148000)))
    | none => s.wordAt (bankKey s.serving (s.fld Reg.HOST_FW_STAT Fld.HOST_FW_STAT_RUN_BANK)
        (0x8000 * s.fld Reg.HOST_FW_OFS Fld.HOST_FW_OFS_PART + (addr - 0x148000)))
  | .acqRecord =>
    if !s.sideRunning (s.viewed p) then 0 else
    s.wordAt (acqWinKey p (0x8000 * fget Fld.ACQ_RD_OFS_PART (s.prd p Reg.ACQ_RD_OFS) + (addr - 0xF8000)))
  | .billRecord => s.wordAt (billWinKey p (addr - 0xE4100))

/-- Line i of HIRQ is asserted (R734): enough unread entries of its classes, or the oldest of them older than HOLDOFF. -/
def State.irqLine (s : State) (i : Nat) : Bool :=
  let cfg := s.rd (Reg.HOST_IRQ_CFG i)
  let mine := (s.evq s.serving).filter fun e => (fget Fld.HOST_IRQ_CFG_CLASSES cfg).testBit e.cls
  fget Fld.HOST_IRQ_CFG_EN cfg == 1 && s.fld Reg.HOST_CFG Fld.HOST_CFG_EVQ_OWNER == 0
  && (match mine.head? with
    | some e => decide (fget Fld.HOST_IRQ_CFG_THRESH cfg ≤ mine.length)
        || fget Fld.HOST_IRQ_CFG_HOLDOFF cfg == 0
        || decide (Config.usec (100 * fget Fld.HOST_IRQ_CFG_HOLDOFF cfg) < s.since e.mono)
    | none => false)

/-- The asserted lines, bit i for HIRQ_i. -/
def State.irqLines (s : State) : Nat := (List.range 4).foldl (fun m i => withBit m i (s.irqLine i)) 0

/-- The lines as they stand now; in PCIe mode each line that asserts sends its MSI (R734). -/
def State.irqShow (s : State) : State :=
  let now := s.irqLines
  let rises := (List.range 4).filter fun i => now.testBit i && !s.host.lines.testBit i
  let pcie := s.fld Reg.HOST_CFG Fld.HOST_CFG_MODE == 1 && s.fld Reg.HOST_STAT Fld.HOST_STAT_LINK_UP == 1
  let sent := if pcie then rises.map (· % s.host.vectors) else []
  { s with host := { s.host with lines := now, msi := s.host.msi ++ sent } }

/-- The greatest fill of a side's queue since the last clear (TIME_QUEUE_STAT); queue 125 is the event queue. -/
def State.highWater (s : State) (x : Side) (q : Nat) : Nat :=
  if q = 125 then SMap.get (fun _ => 0) s.ev.high x.code else (s.queue x q).high

/-- IMG_SLOT_STAT_n and IMG_SLOT_VER_n, which each side's MRAM holds (R112). -/
def slotReg (addr : Nat) : Bool := decide (Reg.IMG_SLOT_STAT 0 ≤ addr) && decide (addr ≤ Reg.IMG_SLOT_VER 1)

/-- The value a register reads as at this instant (R755), before shadows: computed for the registers that show the
clock, the queues, the contexts and the sides; else as held. -/
def State.regValue (s : State) (p : Path) (addr : Nat) : Word :=
  let sel := s.prd p Reg.TIME_QUEUE_SEL
  let qs : Side := if fget Fld.TIME_QUEUE_SEL_SIDE sel = 1 then .b else .a
  let qn := fget Fld.TIME_QUEUE_SEL_QUEUE sel
  let fill := (s.evq s.serving).length
  if addr = Reg.TIME_NOW_LO then s.tm.ts.extractLsb' 0 32
  else if addr = Reg.TIME_NOW_HI then s.tm.ts.extractLsb' 32 32
  else if addr = Reg.TIME_MONO_LO then s.tm.mono.extractLsb' 0 32
  else if addr = Reg.TIME_MONO_HI then s.tm.mono.extractLsb' 32 32
  else if slotReg addr then s.rd (addr + 0x2000000 * s.serving.code)
  else if addr = Reg.SYS_CAP_0 then BitVec.ofNat 32 (cap0 s.variant)
  else if addr = Reg.SYS_CAP_1 then BitVec.ofNat 32 (cap1 s.variant)
  else if addr = Reg.SYS_EVQ_STAT then
    BitVec.ofNat 32 (s.fld Reg.HOST_CFG Fld.HOST_CFG_EVQ_OWNER * 0x80000000 + fill * 0x10000
      + min (SMap.get (fun _ => 0) s.ev.high s.serving.code) 4095)
  else if 0x30 ≤ addr ∧ addr < 0x40 then snapWord (s.snap p) ((addr - 0x30) / 4)
  else if addr = Reg.HOST_STAT then fset Fld.HOST_STAT_EVQ_FILL (s.rd addr) fill
  else if addr = Reg.TIME_RATE then BitVec.ofInt 32 s.tm.rateNow
  else if addr = Reg.TIME_QUEUE_STAT then
    BitVec.ofNat 32 ((queueSpec qn).1 * 0x40000000 + min (s.highWater qs qn) 0x3FFF * 0x10000 + (queueSpec qn).2)
  else if addr = Reg.TIME_QUEUE_LOST then BitVec.ofNat 32 (s.queue qs qn).lost
  else if 0x10100 ≤ addr ∧ addr < 0x10140 ∧ addr % 0x10 = 4 then ctxWord (s.context ((addr - 0x10100) / 0x10))
  else if addr = Reg.KEEP_STAT then s.keepStat
  else if addr = Reg.ACQ_RD_STAT ∧ s.sideRunning (s.viewed p) = false then 0
  else if perPath addr then s.prd p addr
  else if addr = Reg.LOOP_STAT then
    (s.variantWord addr &&& 0xFFFFFF80) ||| (s.rd (addr + 0x2000000 * (s.viewed p).code) &&& 0x7F)
  else if addr = Reg.EDGE_STAT then fset Fld.EDGE_STAT_RUN (s.variantWord addr) (flag s.edgesOn)
  else if loopStatus addr then s.loopWord p addr
  else if pairStatus addr then s.pairWord p addr
  else if channelStatus addr then s.channelWord p addr
  else if acqStatus addr then s.acqWord p addr
  else if canStatus addr then s.canWord p addr
  else if memStatus addr then s.memWord p addr
  else if addr = Reg.MEM_STAT then fset Fld.MEM_STAT_WIPE_PEND (s.rd addr) (flag (!s.mem.wipePend.isEmpty))
  else if addr = Reg.HOST_IRQ_STAT then BitVec.ofNat 32 s.irqLines
  else if addr = Reg.LSW_STAT ∨ addr = Reg.LSW_FAULT ∨ (0x111000 ≤ addr ∧ addr < 0x111300 ∧ addr % 0x20 = 0x18) then s.lswWord addr
  else if 0x71000 ≤ addr ∧ addr < 0x72600 ∧ s.fld Reg.SST_CFG Fld.SST_CFG_N_PHASE ≤ addr % 0x1000 / 0x10 % 32 then 0
  else if addr = Reg.METR_STAT then s.metrStat
  else if addr = Reg.METR_HARM_STAT ∨ (Reg.METR_HARM 0 ≤ addr ∧ addr < Reg.METR_HARM 128) then s.harmWord p addr
  else if 0x41000 ≤ addr ∧ addr < 0x42000 ∧ addr % 0x40 = 0x14 then
    fset Fld.LOOP_MAP_EPOCH (s.rd addr) (s.epochOf (128 + (addr - 0x41014) / 0x40))
  else s.variantWord addr

/-- An access that found nothing, recorded in SYS_ERR and SYS_ERR_ADDR (R757 to R759, R19). -/
def State.setErr (s : State) (bit : Nat) (acc : Access) (addr : Nat) : State :=
  (s.raise Reg.SYS_ERR ⟨bit, 1⟩).wr Reg.SYS_ERR_ADDR (accArg acc addr)

/-- An access to an absent unit: it posts ABSENT and sets SYS_ERR.ABSENT; it reads 0 and writes nothing (R4 to R6, R758). -/
def State.touchAbsent (s : State) (acc : Access) (addr : Nat) : State :=
  (s.postArg Ev.ABSENT (accArg acc addr)).setErr 2 acc addr

/-- An access to a reserved offset (R757). -/
def State.touchReserved (s : State) (acc : Access) (addr : Nat) : State := s.setErr 3 acc addr

/-- An access out of the map (R759): on the host link it also posts HOST_BAD_ACCESS and counts under R728. -/
def State.touchOutOfMap (s : State) (acc : Access) (addr : Nat) : State :=
  let s1 := s.setErr 0 acc addr
  match acc.path with
  | .host => ((s1.postArg Ev.HOST_BAD_ACCESS (accArg acc addr)).raise Reg.HOST_STAT Fld.HOST_STAT_BAD_ACCESS).bump
      Reg.HOST_CNT Fld.HOST_CNT_BAD_ACCESSES
  | _ => s1

/-- An access through TIME_QUEUE_STAT, LOST or CLR while a queue is selected that the variant lacks (R92, R95). -/
def State.absentHere (s : State) (p : Path) (addr : Nat) : Bool :=
  absentUnit s.variant addr
  || ((addr == Reg.TIME_QUEUE_STAT || addr == Reg.TIME_QUEUE_LOST || addr == Reg.TIME_QUEUE_CLR)
      && absentQueue s.variant (fget Fld.TIME_QUEUE_SEL_QUEUE (s.prd p Reg.TIME_QUEUE_SEL)))

/-- The snapshot of the oldest unread entry taken for a path (R764). -/
def State.takeSnap (s : State) (p : Path) : State :=
  let sn : Snapshot := ⟨(s.evq s.serving).head?, if (s.evq s.serving).isEmpty then 0 else s.ev.changes⟩
  { s with ev := { s.ev with snaps := SMap.put (fun _ => Snapshot.reset) s.ev.snaps p.code sn } }

/-- The read of a present register: a low word latches the high word into the path's shadow, the next read of that high
word returns it (R54); SYS_EVQ_ENT_0 takes the snapshot first (R764). -/
def State.readReg (s : State) (p : Path) (addr : Nat) : Word × State :=
  if addr = Reg.SYS_EVQ_ENT_0 then
    let s1 := s.takeSnap p
    (s1.regValue p addr, s1)
  else
    match highOf addr with
    | some hi =>
      (s.regValue p addr, { s with host := { s.host with
        shadows := SMap.put (fun _ => (0, 0)) s.host.shadows p.code (hi, s.regValue p hi) } })
    | none =>
      let sh := SMap.get (fun _ => (0, 0)) s.host.shadows p.code
      if sh.1 = addr ∧ addr ≠ 0 then
        (sh.2, { s with host := { s.host with shadows := SMap.erase s.host.shadows p.code } })
      else (s.regValue p addr, s)

/-- A read of one word over the register bus: the value and the state after it. -/
def State.busRead (s : State) (acc : Access) (addr : Nat) : Word × State :=
  if !s.answers acc.path addr then (0, s)
  else if outOfMap addr then (0, s.touchOutOfMap acc addr)
  else if s.absentHere acc.path addr then (0, s.touchAbsent acc addr)
  else
    match windowOf addr with
    | some w => (s.windowRead acc.path w addr, s)
    | none =>
      match findReg addr with
      | some _ => s.readReg acc.path addr
      | none => (0, s.touchReserved acc addr)

/-! ### Tunables and rules (R103 to R105, R127) -/

/-- The place of a mask's lowest bit. -/
def maskLo (m : Word) : Nat := ((List.range 32).find? fun i => m.getLsbD i).getD 0

/-- The number of bits of a mask. -/
def maskWidth (m : Word) : Nat := ((List.range 32).filter fun i => m.getLsbD i).length

/-- The field a mask names. -/
def maskField (m : Word) : Field := ⟨maskLo m, maskWidth m⟩

/-- A tunable's value in a word: signed when FLAGS bit 0 is set. -/
def Tunable.value (t : Tunable) (w : Word) : Int :=
  if t.flags.testBit 0 then fgetS (maskField t.mask) w else (fget (maskField t.mask) w : Int)

/-- A bound of a tunable, given right-aligned. -/
def Tunable.bound (t : Tunable) (w : Word) : Int :=
  if t.flags.testBit 0 then fgetS ⟨0, maskWidth t.mask⟩ w else (w.toNat : Int)

/-- The tunable's value in a word lies within [MIN, MAX]. -/
def Tunable.inBounds (t : Tunable) (w : Word) : Bool :=
  decide (t.bound t.min ≤ t.value w) && decide (t.value w ≤ t.bound t.max)

/-- PERSIST (FLAGS bit 4). -/
def Tunable.persist (t : Tunable) : Bool := t.flags.testBit 4

/-- The values of a rule's terms under a reading of the registers. -/
def ruleTerms (ts : List Tunable) (rd : Nat → Word) (r : RuleRec) : List (Int × Int) :=
  r.terms.filterMap fun (i, c) => (ts[i]?).map fun t => (c, t.value (rd t.addr))

/-- A list of integers that rises strictly. -/
def risesStrictly : List Int → Bool
  | a :: b :: r => decide (a < b) && risesStrictly (b :: r)
  | _ => true

/-- A rule holds (R104, R105). -/
def ruleHolds (ts : List Tunable) (rd : Nat → Word) (r : RuleRec) : Bool :=
  let vs := ruleTerms ts rd r
  let sum := (vs.map fun (c, v) => c * v).foldl (· + ·) 0
  if r.kind = 0 then decide (sum ≤ r.bound)
  else if r.kind = 1 then decide (sum = r.bound)
  else risesStrictly (vs.map (·.2))

/-- A rule names a register. -/
def ruleNames (ts : List Tunable) (addr : Nat) (r : RuleRec) : Bool :=
  r.terms.any fun (i, _) => match ts[i]? with | some t => t.addr == addr | none => false

/-- The write of a word to a register keeps every tunable of it within bounds and every rule that names it (R127). -/
def State.tunablesOk (s : State) (addr : Nat) (val : Word) : Bool :=
  (s.img.tunables.all fun t => t.addr != addr || t.inBounds val)
  && (s.img.rules.all fun r => !ruleNames s.img.tunables addr r
      || ruleHolds s.img.tunables (fun a => if a = addr then val else s.rd a) r)

/-- The value of a ranged field. -/
def RangeSpec.value (r : RangeSpec) (w : Word) : Int :=
  if r.signed then fgetS ⟨r.lo, r.width⟩ w else (fget ⟨r.lo, r.width⟩ w : Int)

/-- The field's value lies in the range. -/
def RangeSpec.ok (r : RangeSpec) (w : Word) : Bool := decide (r.min ≤ r.value w) && decide (r.value w ≤ r.max)

/-- Ranges that the register tables state in words: the magnitude of SST_Q_CTRL.PF is at least 800; BILL_DEM_CFG.DEM_LEN
is a value of R565; BILL_DAY_d_0 keeps EN at 1. -/
def extraRangeOk (addr : Nat) (w : Word) : Bool :=
  if addr = Reg.SST_Q_CTRL then decide (800 ≤ (fgetS Fld.SST_Q_CTRL_PF w).natAbs)
  else if addr = Reg.BILL_DEM_CFG then [1, 2, 3, 4, 5, 6, 10, 12, 15, 20, 30, 60].contains (fget Fld.BILL_DEM_CFG_DEM_LEN w)
  else if 0xE2100 ≤ addr ∧ addr < 0xE2500 ∧ addr % 0x40 = 0 then
    decide (fget Fld.BILL_DAY_EN w = 1) && decide (fget Fld.BILL_DAY_MINUTE w = 0)
  else true

/-- Registers whose writes R440 refuses as a whole, plain or staged. -/
def r440 (addr : Nat) : Bool :=
  addr == Reg.ALOC_CFG || addr == Reg.ALOC_SITE || addr == Reg.ALOC_EFF || addr == Reg.ALOC_DEMAND
  || (decide (0x90040 ≤ addr) && decide (addr < 0x90050))

/-- The code of a tunable's field (FLAGS bits 3 to 1, R103). -/
def Tunable.code (t : Tunable) : Acc :=
  if t.flags / 2 % 8 = 1 then .rwt
  else if t.flags / 2 % 8 = 2 then .rws
  else if t.flags / 2 % 8 = 3 then .rwc
  else .rw

/-- Parameter word k of loop n is used as a coefficient, so its shift field holds a shift (R236). -/
def State.isCoef (s : State) (n k : Nat) : Bool := SMap.get (fun _ => 0) s.img.pars (Par.coef n k) == 1

/-- The bits of a LOOP_SHIFT register that belong to coefficients (R236). -/
def State.shiftMask (s : State) (addr : Nat) : Word :=
  let n := (addr - 0x48000) / 0x200
  let w := addr % 0x200 - 0x180
  [0, 1, 2, 3].foldl (fun m j => if s.isCoef n (w + j) then m ||| fmask ⟨8 * j, 5⟩ else m) 0

/-- The register's row as the running image makes it: fields of LOOP_PARAM and LOOP_SHIFT take the code of their tunable, an RWS one for
METROLOGY (R17) and an RWC one for SAFETY (R18);
without one a parameter word, or the shift of a coefficient, is read-only, and any other shift reads 0 and takes no other value (R236). DESIGN CHOICE (log entry 88): of every other
register the spec's table gives the class too, and it does not say which holds where the image's code differs; the table does. -/
def State.specOf (s : State) (addr : Nat) : Option RegSpec :=
  match findReg addr with
  | none => none
  | some r =>
    if 0x48000 ≤ addr ∧ addr < 0x50000 then
      let tun := fun (f : FieldSpec) => s.img.tunables.find? fun t => t.addr == addr && t.mask == fmask ⟨f.lo, f.width⟩
      let shift := decide (0x180 ≤ addr % 0x200)
      let unused := fun (f : FieldSpec) => shift && (s.shiftMask addr &&& fmask ⟨f.lo, f.width⟩) == 0
      some { r with
        fields := r.fields.map fun f =>
          match tun f with
          | some t => { f with acc := t.code, scope := if t.code = .rws then .metr else if t.code = .rwc then .safe else f.scope }
          | none => { f with acc := if unused f then .rw else .ro }
        ranges := (r.fields.filter fun f => (tun f).isNone && unused f).map fun f => ⟨f.lo, f.width, false, 0, 0⟩ }
    else some r

/-! ### Writes -/

/-- The index of the context that a session holds, from OPEN to TRIAL (R133). -/
def State.heldBy (s : State) (acc : Access) : Option Nat :=
  [0, 1, 2, 3].find? fun n =>
    let c := s.context n
    c.state != .idle && c.path == acc.path && c.session == acc.session

/-- The OPEN context of a session. -/
def State.openOf (s : State) (acc : Access) : Option Nat :=
  [0, 1, 2, 3].find? fun n =>
    let c := s.context n
    c.state == .opened && c.path == acc.path && c.session == acc.session

/-- Some context other than me holds the register, from OPEN to TRIAL (R137). -/
def State.heldElsewhere (s : State) (me : Option Nat) (addr : Nat) : Bool :=
  [0, 1, 2, 3].any fun n =>
    let c := s.context n
    c.state != .idle && some n != me && c.entries.any fun e => e.1 == addr

/-- A field's bits differ between two words. -/
def FieldSpec.differs (f : FieldSpec) (a b : Word) : Bool := fget ⟨f.lo, f.width⟩ a != fget ⟨f.lo, f.width⟩ b

/-- A field's bits in a word are not all 0. -/
def FieldSpec.nonzero (f : FieldSpec) (w : Word) : Bool := fget ⟨f.lo, f.width⟩ w != 0

/-- The access code writes only inside a transaction. -/
def Acc.inTxnOnly : Acc → Bool
  | .rwt => true
  | .rws => true
  | .rwc => true
  | _ => false

/-- The code of a field that takes a plain value. -/
def Acc.stored : Acc → Bool
  | .rw => true
  | .rwt => true
  | .rws => true
  | .rwc => true
  | _ => false

/-- The write asks something of the field: a changed stored value, or a 1 for a field that acts. -/
def FieldSpec.asked (f : FieldSpec) (old val : Word) : Bool :=
  match f.acc with
  | .ro => false
  | .wo => f.nonzero val
  | .w1c => f.nonzero val
  | .w1s => f.nonzero val
  | _ => f.differs old val

/-- The seal loop is OPEN, the only state in which it counts as open (R543). -/
def State.sealOpen (s : State) : Bool := decide (s.fld Reg.METR_STAT Fld.METR_STAT_SEAL = 1)

/-- The register word after a plain write (R751, R753): RW fields within the role take the value, W1C fields clear where
1 is written, but for what was set in the same FCLK period (R756); every other field keeps its value. -/
def plainWord (r : RegSpec) (acc : Access) (old val fresh : Word) : Word :=
  r.fields.foldl (fun w f =>
    if f.scope.admits acc.role then
      match f.acc with
      | .rw => fset ⟨f.lo, f.width⟩ w (fget ⟨f.lo, f.width⟩ val)
      | .w1c => w &&& ~~~(val &&& fmask ⟨f.lo, f.width⟩ &&& ~~~fresh)
      | _ => w
    else w) old

/-- The bits of a register that a plain write of the role sets. -/
def rwMask (r : RegSpec) (acc : Access) : Word :=
  r.fields.foldl (fun m f => if f.acc == .rw && f.scope.admits acc.role then m ||| fmask ⟨f.lo, f.width⟩ else m) 0

/-- A register that the loop array, the edge engine or the allocation scheduler reads: its RW fields take effect at the
next boundary (R128). -/
def atBoundary (addr : Nat) : Bool :=
  let b := addr / 0x10000
  (b == 4 || b == 5 || b == 9) && addr != Reg.LOOP_VIEW

/-- A stored value that a plain write applied, noted for the tuning store where the image marks it PERSIST (R131). -/
def State.notePersist (s : State) (addr : Nat) (val : Word) : State :=
  { s with img := { s.img with tuneDue := s.img.tuneDue ++
      (s.img.tunables.filterMap fun t =>
        if t.addr = addr && t.persist then some ⟨addr, t.mask, val &&& t.mask, s.tm.mono⟩ else none) } }

/-- DENIED: the write has no effect (R19). -/
def State.deny (s : State) (acc : Access) (addr : Nat) : State :=
  (s.postArg Ev.DENIED (accArg acc addr)).setErr 1 acc addr

/-- PARAM_REJECT: the write has no effect on the whole register (R93, R127). -/
def State.paramReject (s : State) (acc : Access) (addr : Nat) : State := s.postArg Ev.PARAM_REJECT (accArg acc addr)

/-- The word a register holds for a writer: its applied value, or the path's own instance. -/
def State.applied (s : State) (p : Path) (addr : Nat) : Word := if perPath addr then s.prd p addr else s.rd addr

/-- The register set, in the instance of the path where there is one. -/
def State.setApplied (s : State) (p : Path) (addr : Nat) (w : Word) : State :=
  if perPath addr then s.pwr p addr w else s.wr addr w

/-- IMG_MIN_VER takes a value from the current one up to the running version only (R117). DESIGN CHOICE (log entry 54): in SAFE_HOLD, where no
image runs, the running version is IMG_RUN_VER's 0. -/
def State.minVerOk (s : State) (val : Word) : Bool :=
  decide ((s.rd Reg.IMG_MIN_VER).toNat ≤ val.toNat) && decide (val.toNat ≤ (s.rd Reg.IMG_RUN_VER).toNat)

/-- MEM_WIPE_CFG takes any value in BLANK and PROVISIONED, and from FIELD on only more bits (R692). -/
def State.wipeCfgOk (s : State) (val : Word) : Bool :=
  let old := s.rd Reg.MEM_WIPE_CFG
  decide (s.fld Reg.MEM_STAT Fld.MEM_STAT_LC < 2) || val &&& fmask Fld.MEM_WIPE_CFG_TAMP_WIPE &&& old == old

/-- A limit of a register's own, which moves with the state, admits the value (R117, R692). -/
def State.ownOk (s : State) (addr : Nat) (val : Word) : Bool :=
  if addr = Reg.IMG_MIN_VER then s.minVerOk val
  else if addr = Reg.MEM_WIPE_CFG then s.wipeCfgOk val
  else true

/-- A write that a session with an OPEN context makes to stored fields is staged (R135 to R138, R440), but for a value that IMG_MIN_VER or
MEM_WIPE_CFG does not accept (R117, R692). -/
def State.stage (s : State) (n : Nat) (acc : Access) (addr : Nat) (r : RegSpec) (val : Word) : State :=
  let c := s.context n
  let old := s.applied acc.path addr
  let staged := (c.entries.find? fun e => e.1 == addr).map (·.2)
  let examined := r.fields.filter fun f => f.acc.stored && f.differs old val
      && (match staged with | some w => f.differs w val | none => true)
  if examined.any fun f => !f.scope.admits c.role then s.deny acc addr
  else if (r440 addr && !(r.ranges.all fun g => g.ok val)) || !s.ownOk addr val then s.paramReject acc addr
  else if s.heldElsewhere (some n) addr then
    (s.setContext n { c with conflict := true }).postArg Ev.TXN_CONFLICT (accArg acc addr)
  else if staged.isNone && decide (2048 ≤ c.entries.length) then
    (s.setContext n { c with full := true }).post Ev.TXN_FULL n
  else
    let es := match staged with
      | some _ => c.entries.map fun e => if e.1 = addr then (addr, val) else e
      | none => c.entries ++ [(addr, val)]
    s.setContext n { c with entries := es, count := es.length, since := s.tm.mono }

/-- The checks of a plain write have passed: each field acts under its code (R751 to R753), a waiting RW value is kept
for the boundary (R128), a changed transaction-only field within the role's right posts TXN_REQUIRED (R129), and a field outside
it DENIED (R19). -/
def State.applyPlain (s : State) (acc : Access) (addr : Nat) (r : RegSpec) (val : Word) : State :=
  let old := s.applied acc.path addr
  let new := plainWord r acc old val (s.counted addr)
  let s1 := if r.fields.any fun f => f.acc.inTxnOnly && f.scope.admits acc.role && f.differs old val
    then s.postArg Ev.TXN_REQUIRED (accArg acc addr) else s
  let s2 := if r.fields.any fun f => !f.scope.admits acc.role && f.asked old val then s1.deny acc addr else s1
  if atBoundary addr then
    { s2 with tm := { s2.tm with deferred := s2.tm.deferred ++ [⟨addr, rwMask r acc, new⟩] } }
  else
    let s3 := (s2.setApplied acc.path addr new).notePersist addr new
    { s3 with tm := { s3.tm with accepted := ⟨acc.path, addr, rwMask r acc, old⟩ :: s3.tm.accepted } }

/-- The fields that act when written act, and no other (R130, R751): W1C clears within the role's right. -/
def State.applyActing (s : State) (acc : Access) (addr : Nat) (r : RegSpec) (val : Word) : State :=
  let w1c := { r with fields := r.fields.filter fun f => f.acc == .w1c }
  s.setApplied acc.path addr (plainWord w1c acc (s.applied acc.path addr) val (s.counted addr))

/-- A write of one word to a present register (R751 to R754, R93, R127 to R137, R440), with what a plain write does once every check has
passed, and what the fields that act do beside a staged entry (R130). -/
def State.writeReg (s : State) (acc : Access) (addr : Nat) (r : RegSpec) (val : Word) (plain acting : State → State) : State :=
  if r.fields.all fun f => f.acc == .ro then s.raise Reg.SYS_ERR Fld.SYS_ERR_RO_WRITE
  else
    match (if r.fields.any fun f => f.acc.stored then s.openOf acc else none) with
    | some n => acting (s.stage n acc addr r val)
    | none =>
      let old := s.applied acc.path addr
      let rwBad := r.ranges.any fun g => !g.ok val && (r.fields.any fun f => f.lo == g.lo && f.acc == .rw)
      let sealedOk := !(r440 addr) || r.ranges.all fun g => g.ok val
      if !(r.fields.any fun f => f.acc != .ro && f.scope.admits acc.role) then s.deny acc addr
      else if rwBad || !sealedOk || !s.ownOk addr val then s.paramReject acc addr
      else if !s.tunablesOk addr (plainWord r acc old val (s.counted addr)) then s.paramReject acc addr
      else if s.heldElsewhere none addr then s.postArg Ev.TXN_CONFLICT (accArg acc addr)
      else plain s

/-- A write of one word over the register bus to a register without an effect of its own. -/
def State.busWrite (s : State) (acc : Access) (addr : Nat) (val : Word) : State :=
  if !s.answers acc.path addr then s
  else if outOfMap addr then s.touchOutOfMap acc addr
  else if s.absentHere acc.path addr then s.touchAbsent acc addr
  else
    match s.specOf addr with
    | some r => s.writeReg acc addr r val (fun t => t.applyPlain acc addr r val) (fun t => t.applyActing acc addr r val)
    | none => s.touchReserved acc addr

/-- The answer of a read, kept for the reader. -/
def State.answer (s : State) (ws : List Word) (status : Nat) : State :=
  { s with host := { s.host with reply := ws, status := status } }

/-- A read or a write over the register bus, whichever the command carries, with its answer. -/
def State.busAccess (s : State) (acc : Access) (addr : Nat) (wr : Option Word) : State :=
  match wr with
  | none => let (w, s1) := s.busRead acc addr; s1.answer [w] 0
  | some v => (s.busWrite acc addr v).answer [] 0

end Sys2Proof.Machine
end

