-- ==== Sys2Proof/Machine/Bus.lean ====
section
/-! DEFINITION. The meanings of the register-access commands, the fast sense channels, the shared queues and the event
snapshot (chapters 1, 2, 22 and 23). -/

namespace Sys2Proof.Machine

open Sys2Proof

/-- The three outcomes of a command here. -/
abbrev Out := Host.Outcome State Fault Refusal

/-- A write to a command register: a module that answers no access takes nothing, an absent unit swallows it (R4 to R6), a role
without the right is denied (R19), else the command acts. -/
def State.command (s : State) (acc : Access) (addr : Nat) (sc : Scope) (act : State → State) : State :=
  if !s.answers acc.path addr then s
  else if s.absentHere acc.path addr then s.touchAbsent acc addr
  else if !sc.admits acc.role then s.deny acc addr
  else act s

/-- A write to a register with RW fields and an effect of its own: it passes every check of a plain write (R127, R137) or is staged (R135);
keep is what a plain write to its RW fields does, act what its acting fields do, in a context or outside (R130). Applied PERSIST values are
noted (R131), and the write for a fail-over of this cycle (R731). -/
def State.setting (s : State) (acc : Access) (addr : Nat) (val : Word) (keep : State → State) (act : State → State := id) : State :=
  s.command acc addr .all fun s1 =>
    match s1.specOf addr with
    | some r =>
      s1.writeReg acc addr r val (fun t =>
        let t1 := keep t
        act { t1.notePersist addr (t1.applied acc.path addr) with
          tm := { t1.tm with accepted := ⟨acc.path, addr, rwMask r acc, t.applied acc.path addr⟩ :: t1.tm.accepted } }) act
    | none => s1

/-- The host link's access: its role is HOST_CFG.ROLE (R730). -/
def State.hostAccess (s : State) : Access :=
  let r := s.fld Reg.HOST_CFG Fld.HOST_CFG_ROLE
  ⟨.host, if r = 2 then .service else if r = 1 then .operator else .reader, 0⟩

/-! ### Fast sense channels (R21, R767) -/

/-- A write to FAST_CLR (R767): every FAST_PEAK_n and CLIPS clears. -/
def State.fastClrWrite (s : State) (acc : Access) (val : Word) : State :=
  s.command acc Reg.FAST_CLR .op fun s1 =>
    if fget Fld.FAST_CLR_CLEAR val = 1 then
      (List.range 32).foldl (fun st n =>
        ((st.wr (Reg.FAST_PEAK n) 0x80007FFF).clearField (Reg.FAST_VAL n) Fld.FAST_VAL_CLIPS).forget Ev.FAST_CLIP n) s1
    else s1

/-- FAST_CLR (R767). -/
def execFastClr (dt : Nat) (acc : Access) (val : Word) (s : State) : Out := .next ((s.tick dt).fastClrWrite acc val)

/-! ### Queues and tags -/

/-- QUEUE_STALL_TIMEOUT (R88): a STALL producer that has waited 4 T_c posts QUEUE_STALL, once for each wait, and keeps waiting; a stall of
the Keeper per-cycle copy (queue 126) is a Keeper fault instead and posts nothing here. -/
def execQueueStallTimeout (dt : Nat) (side : Side) (queue : Nat) (s : State) : Out :=
  let s1 := s.tick dt
  let q := s1.queue side queue
  match q.stall with
  | some t =>
    if (queueSpec queue).1 = 0 ∧ queue ≠ 126 ∧ 4 * s1.tc ≤ s1.since t ∧ q.stalled = false then
      .next ((s1.setQueue side queue { q with stalled := true }).post Ev.QUEUE_STALL queue)
    else .next s1
  | none => .next s1

/-- Since when a STALL producer of a queue waits, as it stands now: another wait than before has not told so yet (R88). -/
def State.setStall (s : State) (x : Side) (q : Nat) (t : Option Count) : State :=
  let qu := s.queue x q
  if qu.stall = t then s else s.setQueue x q { qu with stall := t, stalled := false }

/-- The number of tags of a class, changed by a function. -/
def TagPool.alter (t : TagPool) (cls : Nat) (f : Nat → Nat) : TagPool :=
  if cls = 0 then { t with acq := f t.acq }
  else if cls = 1 then { t with keep := f t.keep }
  else { t with cores := f t.cores }

/-- The pool in an FCLK period: tags returned in an earlier one are usable again (R82, R83). -/
def TagPool.settle (t : TagPool) (now : Nat) : TagPool :=
  if t.backAt = now then t else { t.back.foldl (fun u c => u.alter c (· - 1)) t with backAt := now, back := [] }

/-- Tags of the shared pool in use: what each class holds beyond its reservation (R90, R91). -/
def TagPool.sharedUsed (t : TagPool) : Nat := (t.acq - 96) + (t.keep - 32) + t.cores

/-- A requester of a class can draw a tag: from its reservation, else from the shared pool; the application cores
together never hold more than 256 (R90, R91). -/
def TagPool.canGrant (t : TagPool) (cls : Nat) : Bool :=
  if cls = 0 then decide (t.acq < 96) || decide (t.sharedUsed < 384)
  else if cls = 1 then decide (t.keep < 32) || decide (t.sharedUsed < 384)
  else decide (t.cores < 256) && decide (t.sharedUsed < 384)

/-- Of equal claimants, the one the rotating pointer stands at or before (R40). -/
def rotatePick (p : Nat) (ids : List Nat) : Option Nat :=
  match (ids.filter fun i => p ≤ i).min? with
  | some i => some i
  | none => ids.min?

/-- The requester granted a tag: of those that wait, in the highest class of the order of R42 that can draw one, by the class's rotating
pointer (R40, R91), with how many of the class waited. -/
def TagPool.winner (t : TagPool) : Option (Nat × Nat × Nat) :=
  [0, 1, 2].findSome? fun c =>
    let ids := (t.waits.filter fun w => w.cls == c).map (·.who)
    if t.canGrant c then (rotatePick (SMap.get (fun _ => 0) t.pointer c) ids).map fun i => (c, i, ids.length) else none

/-- The pool after a grant: the requester no longer waits, and the class's pointer moves past it where others of the class waited (R40). -/
def TagPool.grant (t : TagPool) (c i n : Nat) : TagPool :=
  let t1 := t.alter c (· + 1)
  { t1 with
    granted := t1.granted ++ [(c, i)]
    waits := t1.waits.filter fun w => !(w.cls == c && w.who == i)
    pointer := if 1 < n then SMap.put (fun _ => 0) t1.pointer c (i + 1) else t1.pointer }

/-- Tags of a side in use: all but those on their way back. -/
def TagPool.used (t : TagPool) : Nat := t.acq + t.keep + t.cores - t.back.length

/-- Requesters that begin to wait now, but those that wait already. -/
def TagPool.ask (t : TagPool) (asks : List (Nat × Nat)) (now : Count) : TagPool :=
  { t with waits := asks.foldl (fun ws a =>
      if ws.any fun w => w.cls == a.1 && w.who == a.2 then ws else ws ++ [⟨a.1, a.2, now⟩]) t.waits }

/-- Since when the requester that has waited longest waits. -/
def TagPool.oldest (t : TagPool) (now : Count) : Option Count :=
  t.waits.foldl (fun m w =>
    match m with
    | none => some w.since
    | some u => if (now - u).toNat < (now - w.since).toNat then some w.since else m) none

/-- DRAM_TAG_GRANT (R82, R83, R90, R91): the transactions done return their tags, usable from the next FCLK period on; the requesters join those
that wait, and one is granted a tag; those left over stall (queue 132, R84, R88), whose fill is the tags in use. -/
def execDramTagGrant (dt : Nat) (side : Side) (done : List Nat) (asks : List (Nat × Nat)) (s : State) : Out :=
  let s1 := s.tick dt
  let t0 := SMap.get (fun _ => TagPool.reset) s1.tags side.code
  let t1 := t0.settle s1.period
  let t := { t1 with back := t1.back ++ done }.ask asks s1.tm.mono
  let t' := match t.winner with
    | none => t
    | some (c, i, n) => t.grant c i n
  let s2 := { s1 with tags := SMap.put (fun _ => TagPool.reset) s1.tags side.code t' }
  let q := s2.queue side 132
  .next ((s2.setQueue side 132 { q with high := max q.high t'.used }).setStall side 132 (t'.oldest s2.tm.mono))

/-! ### Event snapshots (R764 to R766) -/

/-- EVQ_SNAPSHOT (R764): a read of SYS_EVQ_ENT_0. -/
def execEvqSnapshot (dt : Nat) (acc : Access) (s : State) : Out :=
  .next ((s.tick dt).busAccess acc Reg.SYS_EVQ_ENT_0 none)

/-- The snapshot's entry is still the oldest of the active side's queue and was taken under the present active side. -/
def State.snapCurrent (s : State) (p : Path) : Bool :=
  match (s.snap p).entry, (s.evq s.serving).head? with
  | some e, some h => e.seq == h.seq && (s.snap p).changes == s.ev.changes
  | _, _ => false

/-- A write to SYS_EVQ_POP (R765): frees the snapshot's entry while it is still the oldest; from another path than the host link, or
while EVQ_OWNER is SERVICE, it is denied. -/
def State.evqPopWrite (s : State) (acc : Access) (val : Word) : State :=
  s.command acc Reg.SYS_EVQ_POP .all fun s1 =>
    if acc.path ≠ .host ∨ s1.fld Reg.HOST_CFG Fld.HOST_CFG_EVQ_OWNER = 1 then s1.postArg Ev.DENIED (accArg acc Reg.SYS_EVQ_POP)
    else if fget Fld.SYS_EVQ_POP_POP val = 1 ∧ s1.snapCurrent acc.path then
      (s1.evFree s1.serving 1).irqShow
    else s1

/-- EVQ_POP (R765). -/
def execEvqPop (dt : Nat) (acc : Access) (val : Word) (s : State) : Out := .next ((s.tick dt).evqPopWrite acc val)

end Sys2Proof.Machine
end

