-- ==== Sys2Proof/Machine/Crc.lean ====
section
/-! DEFINITION. The cyclic redundancy checks the spec names: CRC-32 of IEEE 802.3, CRC-32C, CRC-64 of ECMA-182,
CRC-16/CCITT, over byte strings. -/

namespace Sys2Proof.Machine

open Sys2Proof

/-- n steps of a reflected CRC register. -/
def crcBits (poly : BitVec 32) : Nat → BitVec 32 → BitVec 32
  | 0, c => c
  | n + 1, c => crcBits poly n (if c.getLsbD 0 then (c >>> 1) ^^^ poly else c >>> 1)

/-- A reflected 32-bit CRC of a byte string, start and final inversion all ones. -/
def crcReflected (poly : BitVec 32) (bs : List Byte) : BitVec 32 :=
  (bs.foldl (fun c b => crcBits poly 8 (c ^^^ b.setWidth 32)) 0xFFFFFFFF) ^^^ 0xFFFFFFFF

/-- CRC-32 of IEEE 802.3 (R100, R161). -/
def crc32 (bs : List Byte) : BitVec 32 := crcReflected 0xEDB88320 bs

/-- CRC-32C, the Castagnoli polynomial (R509, R512). -/
def crc32c (bs : List Byte) : BitVec 32 := crcReflected 0x82F63B78 bs

/-- n steps of a CRC-16 register, highest bit first. -/
def crc16Bits : Nat → BitVec 16 → BitVec 16
  | 0, c => c
  | n + 1, c => crc16Bits n (if c.getLsbD 15 then (c <<< 1) ^^^ 0x1021 else c <<< 1)

/-- n steps of a CRC-64 register, highest bit first. -/
def crc64Bits : Nat → BitVec 64 → BitVec 64
  | 0, c => c
  | n + 1, c => crc64Bits n (if c.getLsbD 63 then (c <<< 1) ^^^ 0x42F0E1EBA9EA3693 else c <<< 1)

/-- CRC-64 with the ECMA-182 polynomial (R161), started at 0 (PRESUMED, log entry 6). -/
def crc64 (bs : List Byte) : BitVec 64 :=
  bs.foldl (fun c b => crc64Bits 8 (c ^^^ (BitVec.setWidth 64 b <<< 56))) 0

/-- CRC-16/CCITT of a byte string (R729), started at all ones (PRESUMED, log entry 6). -/
def crc16 (bs : List Byte) : BitVec 16 :=
  bs.foldl (fun c b => crc16Bits 8 (c ^^^ (BitVec.setWidth 16 b <<< 8))) 0xFFFF

/-- The little-endian number of a byte string (R15). -/
def leNat : List Byte → Nat
  | [] => 0
  | b :: r => b.toNat + 256 * leNat r

/-- The n little-endian bytes of a number (R15). -/
def leBytes : Nat → Nat → List Byte
  | 0, _ => []
  | n + 1, v => BitVec.ofNat 8 v :: leBytes n (v / 256)

end Sys2Proof.Machine
end

