-- ==== Sys2Proof/Machine/Image.lean ====
section
/-! DEFINITION. The structure image: slots and transfers, load-time checks, loading and activation, boot trial, keys, the
tuning store (R97 to R132, R788). -/

namespace Sys2Proof.Machine

open Sys2Proof

/-- A boundary of a base cycle stands at this FCLK period: the effects the spec places at a boundary happen now. -/
def State.atCycleStart (s : State) : Bool := decide (s.since s.tm.cycleStart < Config.fclk)

/-- IMG_STAT.MODE: 0 LOADING, 1 SAFE_HOLD, 2 RUN, 3 SWAP. -/
def State.mode (s : State) : Nat := s.fld Reg.IMG_STAT Fld.IMG_STAT_MODE

/-- AT_REST (R123): the transformer de-energised or absent, no outlet contactor closed, every axis in torque off. DESIGN CHOICE (log entry
55): the spec does not say which states of the transformer are de-energised; they are DEAD and LOCKOUT. -/
def State.atRest (s : State) : Bool :=
  let sst := s.fld Reg.SST_RUN_STAT Fld.SST_RUN_STAT_STATE
  (!hasSst s.variant || sst == 0 || sst == 9)
  && ((List.range (outletsOf s.variant)).all fun n =>
      s.fld (Reg.OUTL_O_STAT n) Fld.OUTL_O_STAT_FB_P == 0 && s.fld (Reg.OUTL_O_STAT n) Fld.OUTL_O_STAT_FB_N == 0)
  && ((List.range (axesOf s.variant)).all fun a => s.fld (Reg.SAFE_AX_STAT a) Fld.SAFE_AX_STAT_STATE == 0)

/-- IMG_STAT.AT_REST kept in step with R123. -/
def State.showRest (s : State) : State := s.setF Reg.IMG_STAT Fld.IMG_STAT_AT_REST (flag s.atRest)

/-- The sides a transfer reaches (R115, R788): those in BULK, SHADOW, STANDBY or ACTIVE; in SAFE_HOLD, and in an activation from it, those
held in BOOT. -/
def State.runningSides (s : State) : List Side :=
  [Side.a, Side.b].filter fun x =>
    let st := (s.side x).state
    st == .bulk || st == .shadow || st == .standby || st == .active
      || (st == .boot && !s.hasActive && (s.mode == 1 || s.mode == 3))

/-- Every transaction context is IDLE. -/
def State.contextsIdle (s : State) : Bool := [0, 1, 2, 3].all fun n => (s.context n).state == .idle

/-- STATE of a slot of a side, which each side's MRAM holds beside the bytes (R112): 0 EMPTY, 1 WRITING, 2 INVALID, 3 VALID. -/
def State.slotOn (s : State) (x : Side) (n : Nat) : Nat := s.fld (sideReg x (Reg.IMG_SLOT_STAT n)) Fld.IMG_SLOT_STAT_STATE

/-- A slot's STATE as the serving side holds it. -/
def State.slotState (s : State) (n : Nat) : Nat := s.slotOn s.serving n

/-- The key of the bytes written to a slot of a side. -/
def slotLenKey (x : Side) (n : Nat) : Nat := x.code * 2 + n

/-- The bytes written to a slot of a side. -/
def State.slotLen (s : State) (x : Side) (n : Nat) : Nat := SMap.get (fun _ => 0) s.img.written (slotLenKey x n)

/-! ### Transfers (R113 to R115) -/

/-- The slot a transfer writes: the one not running; in SAFE_HOLD the one TARGET names (R113). DESIGN CHOICE (log
entry 86): the spec does not say what OPEN does while MODE is LOADING or SWAP; it is accepted then too. -/
def State.transferSlot (s : State) : Nat :=
  match s.img.running with
  | some r => 1 - r
  | none => s.fld Reg.IMG_SLOT_CTRL Fld.IMG_SLOT_CTRL_TARGET

/-- A slot of a side erased and in a STATE. -/
def State.emptyOn (s : State) (n st : Nat) (x : Side) : State :=
  let s1 := ((s.eraseBytes (slotKey x n 0) 0x1000000).wr (sideReg x (Reg.IMG_SLOT_STAT n)) (BitVec.ofNat 32 (st * 0x40000000))).wr
    (sideReg x (Reg.IMG_SLOT_VER n)) 0
  { s1 with img := { s1.img with written := SMap.put (fun _ => 0) s1.img.written (slotLenKey x n) 0 } }

/-- The slot erased and in a STATE on every running side (R115), its tuning store erased (R132). -/
def State.emptySlot (s : State) (n st : Nat) : State :=
  let s1 := s.runningSides.foldl (fun t x => t.emptyOn n st x) s
  { s1 with img := { s1.img with tuning := SMap.put (fun _ => []) s1.img.tuning n [] } }

/-- OPEN (R113): erases the slot on the running sides, sets it WRITING and opens the transfer. DESIGN CHOICE (log entry 56): the spec does not say
what OPEN does while a transfer is open; it erases the slot again and starts afresh. -/
def State.imgOpen (s : State) : State :=
  let n := s.transferSlot
  let s1 := (s.emptySlot n 1).setF Reg.IMG_XFER_CTRL Fld.IMG_XFER_CTRL_SLOT n
  { s1 with img := { s1.img with xfer := some n } }

/-- CLOSE (R113, R114): closes the transfer and starts the pre-check; nothing while none is open. -/
def State.imgClose (s : State) : State :=
  match s.img.xfer with
  | none => s
  | some n => { s with img := { s.img with xfer := none, precheck := some n } }

/-- CANCEL (R114): closes an open transfer and sets its slot EMPTY. -/
def State.imgCancel (s : State) : State :=
  match s.img.xfer with
  | none => s
  | some n =>
    let s1 := s.emptySlot n 0
    { s1 with img := { s1.img with xfer := none } }

/-- A fail-over while a slot is WRITING (R115), its transfer open or its pre-check running: the slot becomes EMPTY. -/
def State.imgLost (s : State) : State :=
  match s.img.xfer.orElse fun _ => s.img.precheck with
  | none => s
  | some n =>
    let s1 := s.emptySlot n 0
    { s1 with img := { s1.img with xfer := none, precheck := none } }.post Ev.IMG_XFER_LOST

/-- A write to IMG_XFER_CTRL: the command it names; denied while a pre-check runs (R114). -/
def State.imgXferWrite (s : State) (acc : Access) (val : Word) : State :=
  s.command acc Reg.IMG_XFER_CTRL .svc fun s1 =>
    let cmd := fget Fld.IMG_XFER_CTRL_CMD val
    if cmd = 0 then s1
    else if s1.img.precheck.isSome then s1.postArg Ev.DENIED (accArg acc Reg.IMG_XFER_CTRL)
    else if cmd = 1 then s1.imgOpen
    else if cmd = 2 then s1.imgClose
    else s1.imgCancel

/-- OPEN (R113): a write of CMD 0b01 to IMG_XFER_CTRL. -/
def execImgOpen (dt : Nat) (acc : Access) (s : State) : Out := .next ((s.tick dt).imgXferWrite acc 1)

/-- CLOSE (R113, R114): a write of CMD 0b10. -/
def execImgClose (dt : Nat) (acc : Access) (s : State) : Out := .next ((s.tick dt).imgXferWrite acc 2)

/-- CANCEL (R114): a write of CMD 0b11. -/
def execImgCancel (dt : Nat) (acc : Access) (s : State) : Out := .next ((s.tick dt).imgXferWrite acc 3)

/-- A write to the image data window (R114, R115): the word lands in the open slot on every running side; denied while no
transfer is open. DEDUCED (log entry 57): the bytes written, of SIZE_KB and check 3, reach from the slot's start to the end of the highest
word written. -/
def State.imgDataWrite (s : State) (acc : Access) (addr : Nat) (val : Word) : State :=
  s.command acc addr .svc fun s1 =>
    match s1.img.xfer with
    | none => s1.postArg Ev.DENIED (accArg acc addr)
    | some n =>
      let ofs := 0x8000 * s1.fld Reg.IMG_XFER_OFS Fld.IMG_XFER_OFS_PART + (addr % 0x8000) / 4 * 4
      s1.runningSides.foldl (fun t x =>
        let len := max (t.slotLen x n) (ofs + 4)
        let t1 := t.setWordAt (slotKey x n ofs) val
        { t1 with img := { t1.img with written := SMap.put (fun _ => 0) t1.img.written (slotLenKey x n) len } }.setF
          (sideReg x (Reg.IMG_SLOT_STAT n)) Fld.IMG_SLOT_STAT_SIZE_KB ((len + 1023) / 1024)) s1

/-- IMG_DATA_WRITE (R114, R115): a word of the data window, by its offset in the window. -/
def execImgDataWrite (dt : Nat) (acc : Access) (addr : Nat) (val : Word) (s : State) : Out :=
  .next ((s.tick dt).imgDataWrite acc (0x18000 + addr % 0x8000 / 4 * 4) val)

/-! ### The load-time checks (R99 to R119) -/

/-- n bytes of an image from an offset. -/
def imgBytes (g : Nat → Byte) (ofs n : Nat) : List Byte := (List.range n).map fun i => g (ofs + i)

/-- A little-endian field of n bytes. -/
def imgNum (g : Nat → Byte) (ofs n : Nat) : Nat := leNat (imgBytes g ofs n)

/-- TOTAL_LEN. -/
def imgLen (g : Nat → Byte) : Nat := imgNum g 0x008 4
/-- IMAGE_VER. -/
def imgVer (g : Nat → Byte) : Nat := imgNum g 0x00C 4
/-- SECTION_COUNT. -/
def imgSections (g : Nat → Byte) : Nat := imgNum g 0x020 2
/-- The offset of entry i of the section table. -/
def secEntry (i : Nat) : Nat := 0x100 + 32 * i
/-- TYPE of section i. -/
def secType (g : Nat → Byte) (i : Nat) : Nat := imgNum g (secEntry i) 2
/-- FLAGS of section i. -/
def secFlags (g : Nat → Byte) (i : Nat) : Nat := imgNum g (secEntry i + 2) 2
/-- OFFSET of section i. -/
def secOfs (g : Nat → Byte) (i : Nat) : Nat := imgNum g (secEntry i + 4) 4
/-- LENGTH of section i. -/
def secLen (g : Nat → Byte) (i : Nat) : Nat := imgNum g (secEntry i + 8) 4
/-- The bytes of section i. -/
def secBytes (g : Nat → Byte) (i : Nat) : List Byte := imgBytes g (secOfs g i) (secLen g i)

/-- The index of the section of a type. -/
def secFind (g : Nat → Byte) (ty : Nat) : Option Nat := (List.range (imgSections g)).find? fun i => secType g i == ty

/-- The header is as check 2 asks (R99, R119). -/
def headerOk (g : Nat → Byte) : Bool :=
  imgBytes g 0 4 == [0x4C, 0x4E, 0x53, 0x49] && imgNum g 4 2 == 3 && imgNum g 6 2 == 0x100 && imgNum g 0x24 4 == 0x100
  && decide (1 ≤ imgNum g 0x14 1) && decide (imgNum g 0x14 1 ≤ 3) && decide (imgNum g 0x16 1 ≤ 6)
  && decide (imgNum g 0x17 1 ≤ 3) && decide (imgNum g 0x3E 1 ≤ 2) && decide (imgNum g 0x22 2 ≤ 1)
  && (imgBytes g 0x72 0x8E).all (· == 0)

/-- Entry i of the section table is as R100 and R101 ask: reserved bytes 0, rising TYPE, aligned and rising OFFSET without
overlap, inside the image. DESIGN CHOICE (log entry 85): the spec names no check of RECORDS against the section nor of CONTENT_VER, and neither
is judged. -/
def entryOk (g : Nat → Byte) (i : Nat) : Bool :=
  (imgBytes g (secEntry i + 0x14) 12).all (· == 0)
  && secOfs g i % 64 == 0
  && decide (secEntry (imgSections g) ≤ secOfs g i)
  && decide (secOfs g i + secLen g i + 160 ≤ imgLen g)
  && (i == 0 || (decide (secType g (i - 1) < secType g i)
        && decide (secOfs g (i - 1) + secLen g (i - 1) ≤ secOfs g i)))

/-- The FLAGS a section type carries (R102). -/
def flagsOf (ty : Nat) : Nat := if ty = 0xD then 1 else if ty = 0xE then 2 else if ty = 0x7F00 then 4 else 0

/-- The presence of R102: none optional, some true required, some false forbidden. -/
def presence (g : Nat → Byte) (ty : Nat) : Option Bool :=
  if ty = 5 then some (imgNum g 0x38 2 != 0)
  else if ty = 6 then some ((imgNum g 0x3F 1).testBit 0)
  else if ty = 7 ∨ ty = 0xB ∨ ty = 0xC then some (imgNum g 0x3A 1 != 0)
  else if ty = 8 then some (imgNum g 0x3B 1 != 0)
  else if ty = 9 then some (imgNum g 0x3C 2 != 0)
  else if ty = 0xE then some (imgNum g 0x3E 1 != 0)
  else if ty = 0x11 ∨ ty = 0x7F00 then none
  else some true

/-- The section types of R102. -/
def sectionTypes : List Nat :=
  [1, 2, 3, 4, 5, 6, 7, 8, 9, 0xA, 0xB, 0xC, 0xD, 0xE, 0xF, 0x10, 0x11, 0x7F00]

/-- Every unit the image uses is present (check 8; R9, R10). -/
def unitsOk (v : Nat) (g : Nat → Byte) : Bool :=
  decide (imgNum g 0x28 8 < 2 ^ tilesOf v) && decide (imgNum g 0x30 8 < 2 ^ pairsOf v)
  && decide (imgNum g 0x38 2 < 2 ^ portsOf v) && decide (imgNum g 0x3A 1 < 2 ^ outletsOf v)
  && decide (imgNum g 0x3B 1 < 2 ^ cansOf v) && decide (imgNum g 0x3C 2 < 2 ^ enginesOf v)
  && decide (imgNum g 0x3E 1 ≤ axesOf v) && (!(imgNum g 0x3F 1).testBit 0 || hasSst v)
  && (!(imgNum g 0x3F 1).testBit 1 || hasHarm v) && decide (imgNum g 0x70 2 ≤ endpointsOf v)

/-- The TUNABLES section's form (R103): records of 24 bytes, an access code of the list, the reserved bytes 0. -/
def tunablesFormOk (bs : List Byte) : Bool :=
  bs.length % 24 == 0
  && (List.range (bs.length / 24)).all fun i =>
    let r := bs.drop (24 * i)
    decide (leNat ((r.drop 0x14).take 2) / 2 % 8 ≤ 3) && leNat ((r.drop 0x16).take 2) == 0

/-- The RULES section's form (R104, R105) beside n tunables: records of 24 bytes, a KIND of the list, 1 to 4 terms that name a tunable, the
unused ones 0xFFFF, the reserved bytes 0. -/
def rulesFormOk (n : Nat) (bs : List Byte) : Bool :=
  bs.length % 24 == 0
  && (List.range (bs.length / 24)).all fun i =>
    let r := bs.drop (24 * i)
    let terms := leNat ((r.drop 1).take 1)
    decide (leNat (r.take 1) ≤ 2) && decide (1 ≤ terms) && decide (terms ≤ 4) && leNat ((r.drop 2).take 2) == 0
    && [0, 1, 2, 3].all fun k =>
      let ix := leNat ((r.drop (4 + 4 * k)).take 2)
      if k < terms then decide (ix < n) else ix == 0xFFFF

/-- The image routes no two tiles to one edge channel (R222): its settings name one tile for each channel. -/
def routesOk (all : List Byte) : Bool :=
  let es := (Config.imagePars all).filter fun e => e.1 / 0x1000000 == Par.chanTile 0 / 0x1000000
  es.all fun a => es.all fun b => a.1 != b.1 || a.2 == b.2

/-- The settings that an image's private sections give (log entry 5). -/
def imageSettings (all : List Byte) : SMap Int := (Config.imagePars all).foldl (fun m e => SMap.put (fun _ => 0) m e.1 e.2) []

/-- The transformer's limits of R325 that an image gives: 4 to 32 cells per phase, V_LL_NOM, M_MAX, the cell's rated power, the front-end
carrier's period, a multiple of T_c, and the DAB carrier's, a multiple or a divisor of it. -/
def sstFits (all : List Byte) (tc : Nat) : Bool :=
  let regs := Config.imageRegs all
  let reg := fun a => ((regs.find? fun e => e.1 == a).map (·.2)).getD 0
  let par := imageSettings all
  let p := fun k => (SMap.get (fun _ => 0) par k).toNat
  let cfg := reg Reg.SST_CFG
  let n := fget Fld.SST_CFG_N_PHASE cfg
  let unit := tc * 512 / 10
  let cells := (List.range 96).filter fun c => decide (c % 32 < n)
  let legs := fun ks => cells.all fun c => ks.all fun l =>
    let per := p (Par.legPer (64 + 8 * fget Fld.SST_CELL_EP_EP (reg (Reg.SST_CELL_EP c)) + l))
    if l < 2 then decide (10240000 ≤ per) && decide (per ≤ 512000000) && per % max unit 1 == 0
    else decide (1024000 ≤ per) && decide (per ≤ 10240000) && (per % max unit 1 == 0 || unit % max per 1 == 0)
  decide (4 ≤ n) && decide (n ≤ 32)
  && decide (660 ≤ fget Fld.SST_CFG_V_LL_NOM cfg) && decide (fget Fld.SST_CFG_V_LL_NOM cfg ≤ 3500)
  && decide (80 ≤ fget Fld.SST_MOD_LIM_M_MAX (reg Reg.SST_MOD_LIM)) && decide (fget Fld.SST_MOD_LIM_M_MAX (reg Reg.SST_MOD_LIM) ≤ 100)
  && decide (p Par.cellW ≤ 150000) && legs (List.range 6)

/-- A phase's leg runs as R390 fixes it: UP, DUTY, FREE and ZERO. -/
def phaseLeg (w : Word) : Word :=
  [Fld.EDGE_CFG_SYNC, Fld.EDGE_CFG_CARRIER, Fld.EDGE_CFG_MODE, Fld.EDGE_CFG_UPD].foldl (fun v f => fset f v 0) w

/-- What R470 names for an outlet that an image uses: two close outputs, a discharge channel and an IMD_OK input; on GPIO pads the close outputs'
orphan state is their inactive level. -/
def polesFit (par : Nat → Nat) (n : Nat) : Bool :=
  let pads := (List.range 64).filter fun k => decide (0 < par (Par.gpioUse k)) && (par (Par.gpioUse k) - 1) / 2 == 16 + n
  let lsw := fun u => ((List.range 24).filter fun i => par (Par.lswUnit i) == 1 + u).length
  pads.length + lsw (16 + n) == 2 && lsw (24 + n) == 1 && decide (0 < par (Par.imdOk n))
  && pads.all fun k => par (Par.gpioOrphan k) == (if (par (Par.gpioUse k) - 1) % 2 == 1 then 1 else 2)

/-- The limits of R390, R395, R413 and R470 that an image gives for the outlets it uses: PERIOD, D_MAX, the rated current and voltage of the connector's
kind, 1 member or more; and the carrier settings of R390 of every phase on a local pair. -/
def outsFits (all : List Byte) (mask : Nat) : Bool :=
  let regs := Config.imageRegs all
  let reg := fun a => ((regs.find? fun e => e.1 == a).map (·.2)).getD 0
  let par := imageSettings all
  let p := fun k => (SMap.get (fun _ => 0) par k).toNat
  ((List.range 8).all fun n => !mask.testBit n ||
    (let big := fget Fld.OUTL_O_CFG_KIND (reg (Reg.OUTL_O_CFG n)) == 2
     decide (256000 ≤ p (Par.outPer n)) && decide (p (Par.outPer n) ≤ 5120000)
     && decide (80 ≤ p (Par.outDmax n)) && decide (p (Par.outDmax n) ≤ 98)
     && decide (p (Par.outRated n) ≤ if big then 3000 else 500) && decide (p (Par.outVolt n) ≤ if big then 12500 else 10000)
     && (List.range 96).any (fun m => p (Par.phHome m) == n + 1) && polesFit p n))
  && (List.range 96).all fun m =>
    let w := reg (Reg.OUTS_PH_MAP m)
    let c := reg (Reg.EDGE_CFG (fget Fld.OUTS_PH_MAP_SOURCE w))
    p (Par.phHome m) == 0 || fget Fld.OUTS_PH_MAP_KIND w == 0 || phaseLeg c == c

/-- What R441 asks of the cooling of every outlet that an image uses: a cable kind, 1 to 4 connector sensors and at most one of each other
role; a COOLED one has a flow source, a pump and a coolant sensor. -/
def coolFits (all : List Byte) (mask : Nat) : Bool :=
  let regs := Config.imageRegs all
  let par := imageSettings all
  let p := fun k => (SMap.get (fun _ => 0) par k).toNat
  let cfg := fun i => ((regs.find? fun e => e.1 == Reg.THERM_CFG i).map (·.2)).getD 0
  let count := fun role n => ((List.range 32).filter fun i =>
    fget Fld.THERM_CFG_TYPE (cfg i) != 0 && fget Fld.THERM_CFG_ROLE (cfg i) == role
      && (fget Fld.THERM_CFG_OUTLET (cfg i) == n || fget Fld.THERM_CFG_OUTLET (cfg i) == 0xF)).length
  (List.range 8).all fun n => !mask.testBit n ||
    ((p (Par.coolKind n) == 1 || p (Par.coolKind n) == 2)
     && decide (1 ≤ count 1 n) && decide (count 1 n ≤ 4) && [2, 3, 4, 5].all (fun r => decide (count r n ≤ 1))
     && (p (Par.coolKind n) != 1
       || (decide (0 < p (Par.flowSrc n)) && decide (0 < p (Par.pumpDev n)) && decide (1 ≤ count 2 n + count 3 n))))

/-- A metrology channel's kind fits its place (R525): temperature sources are TEMP, voltages of legal groups VDIV, DC currents SHUNT, AC currents
SHUNT, CT or COIL; remote channels are VDIV or SHUNT. -/
def placeOk (c : Nat) (w : Word) : Bool :=
  let kind := fget Fld.METR_CH_CFG_KIND w
  let group := fget Fld.METR_CH_CFG_GROUP w
  let role := fget Fld.METR_CH_CFG_ROLE w
  if kind = 0 then true
  else if kind = 5 then decide (c < 32) && group == 0 && role == 3
  else decide (kind ≤ 4) && (decide (c < 32) || decide (kind ≤ 2)) && role != 3
    && (group == 0 || (role == 1 && kind == 1) || (role == 2 && (if group = 1 then decide (2 ≤ kind) else kind == 2)))

/-- A METR section places every channel as R525 allows. -/
def metrFits (bs : List Byte) : Bool :=
  let regs := Config.mapRegs bs
  (List.range 48).all fun c => placeOk c (((regs.find? fun e => e.1 == Reg.METR_CH_CFG c).map (·.2)).getD 0)

/-- A section's internal form (check 10 of R119): R103 and R104 give that of TUNABLES and RULES, the other formats are private; the loader
ignores VENDOR (R100); ROUTES names one tile for each edge channel (R222); SST keeps the limits of R325, OUTLETS those of R390, R395, R413 and R470, COOL those of
R441; METR places its channels under R525. -/
def sectionFits (g : Nat → Byte) (i : Nat) : Bool :=
  if secType g i = 0x7F00 then true else
  if secType g i = 0x10 then tunablesFormOk (secBytes g i)
  else if secType g i = 0x11 then
    rulesFormOk (match secFind g 0x10 with | some t => secLen g t / 24 | none => 0) (secBytes g i)
  else Config.sectionFormOk (secBytes g i) && (secType g i != 3 || routesOk (imgBytes g 0 (imgLen g)))
    && (secType g i != 6 || sstFits (imgBytes g 0 (imgLen g)) (tcNs (imgNum g 0x16 1)))
    && (secType g i != 7 || outsFits (imgBytes g 0 (imgLen g)) (imgNum g 0x3A 1))
    && (secType g i != 0xC || coolFits (imgBytes g 0 (imgLen g)) (imgNum g 0x3A 1))
    && (secType g i != 0xD || metrFits (secBytes g i))

/-- The first index of a list whose test fails. -/
def firstBad (n : Nat) (ok : Nat → Bool) : Option Nat := (List.range n).find? fun i => !ok i

/-- Life-cycle FIELD (MEM_STAT.LC = 2, R693). -/
def State.inField (s : State) : Bool := decide (s.fld Reg.MEM_STAT Fld.MEM_STAT_LC = 2)

/-- Checks 1 to 10 of R119 on a slot of a side, in order: none, or the failure code and the section index (0xFF where the
failure is tied to no section). DESIGN CHOICE (log entry 87): R119 does not order the parts of check 10; the sections present are judged first,
in their order, and a required one that is missing last, with no section's index. -/
def State.checkSlot (s : State) (x : Side) (n : Nat) : Option (Nat × Nat) :=
  let g := fun i => s.byte (slotKey x n i)
  let len := s.slotLen x n
  let cnt := imgSections g
  let sb := imgLen g - 160
  let slot := imgNum g 0x17 1
  let keys := s.rd Reg.IMG_KEY_STAT
  if s.slotOn x n = 0 then some (0x0E, 0xFF)
  else if !headerOk g then some (0x01, 0xFF)
  else
    match firstBad cnt (entryOk g) with
    | some i => some (0x01, i)
    | none =>
      if 0x1000000 < imgLen g ∨ imgLen g ≠ len then some (0x02, 0xFF)
      else if !(imgBytes g sb 4 == [0x4C, 0x4E, 0x53, 0x47] && imgNum g (sb + 4) 1 == 1 && imgNum g (sb + 5) 1 == slot
          && imgNum g (sb + 6) 2 == 0 && (imgBytes g (sb + 0x98) 8).all (· == 0)
          && keys.getLsbD slot && !keys.getLsbD (4 + slot)
          && imgBytes g (sb + 8) 48 == SMap.get (fun _ => []) s.img.keyHash slot) then some (0x03, 0xFF)
      else if !Config.ecdsaOk (imgBytes g (sb + 8) 48) (Config.sha384 (imgBytes g 0 sb)) (imgBytes g (sb + 0x38) 96) then
        some (0x04, 0xFF)
      else if imgVer g < (s.rd Reg.IMG_MIN_VER).toNat ∨ (s.inField ∧ (imgNum g 0x22 2).testBit 0) then some (0x05, 0xFF)
      else
        match firstBad cnt (fun i => (crc32 (secBytes g i)).toNat == imgNum g (secEntry i + 0x10) 4) with
        | some i => some (0x06, i)
        | none =>
          if !unitsOk s.variant g then some (0x07, 0xFF)
          else if 0xB0 < imgNum g 0x15 1 then some (0x08, 0xFF)
          else
            match firstBad cnt (fun i => sectionTypes.contains (secType g i) && presence g (secType g i) != some false
                && secFlags g i == flagsOf (secType g i) && sectionFits g i) with
            | some i => some (0x09, i)
            | none =>
              if sectionTypes.all fun ty => presence g ty != some true || (secFind g ty).isSome then none
              else some (0x09, 0xFF)

/-- The bytes of the section of a type; none where the image has no such section. -/
def secOf (g : Nat → Byte) (ty : Nat) : List Byte :=
  match secFind g ty with
  | some i => secBytes g i
  | none => []

/-- The blocks that a ring of endpoints sends and receives in one base cycle (R302): p gives the settings. -/
def ringBlocks (p : Nat → Nat) (r : Nat) : Nat :=
  let eps := (List.range 32).map (32 * r + ·) |>.filter fun e => p (Par.epUsed e) == 1
  eps.foldl (fun a e => a + (3 + (36 + 32 * p (Par.epLegs e) + 7) / 8) + (3 + (36 + 4 * p (Par.epWords e) + 7) / 8)) 24

/-- The cost of an operation of a tile's program in FCLK periods, by its number in Par.tileOp, with the wait allowance of 64 periods for each
shared access (R216, R218). -/
def opCost (op : Nat) : Nat :=
  match op with
  | 7 => 2
  | 8 => 8
  | 9 => 6
  | 10 => 5 + 64
  | 11 => 20
  | 12 => 18
  | 14 => 1 + 64
  | 18 => 2
  | 19 => 2
  | _ => 1

/-- The cost along the longest path from place i of tile n's program to a place where a block or the program ends (R198): a REP takes its
block as often as it says, of a BR's two ways the longer counts, and a CHAIN_GET adds its producer's path (R227). No path is longer than the
fuel. -/
def pathCost (p : Nat → Nat) (n : Nat) : Nat → Nat → Nat → Nat
  | 0, _, _ => 0
  | fuel + 1, i, stop =>
    let op := p (Par.tileOp n i)
    let arg := p (Par.tileArg n i)
    if stop ≤ i then 0
    else if op = 20 then opCost op
    else if op = 18 then
      opCost op + max 1 (p (Par.tileTimes n i)) * pathCost p n fuel (i + 1) (i + 1 + arg) + pathCost p n fuel (i + 1 + arg) stop
    else if op = 19 then opCost op + max (pathCost p n fuel (i + 1) stop) (if i < arg then pathCost p n fuel arg stop else 0)
    else opCost op + (if op = 15 then arg else 0) + pathCost p n fuel (i + 1) stop

/-- The static cost of tile n's program (R198). -/
def tileCost (p : Nat → Nat) (n : Nat) : Nat := pathCost p n (p (Par.tileInstrs n)) 0 (p (Par.tileInstrs n))

/-- The resource limits of check 11 (R119) for a variant and a T_c in ns: stores and cycle budget of every tile (R196, R198, R199), the Keeper
copy (R165), the rings (R302), endpoints, phase modules, receive objects, SRAM banks (R592, R677), record store and service area (R591,
R678). -/
def resourcesOk (v tc : Nat) (p : Nat → Nat) : Bool :=
  let mb := if v = 3 then 128 else 256
  ((List.range 64).all fun n => decide (tileCost p n + 800 ≤ 800 * tc / 1000) && decide (p (Par.tileInstrs n) ≤ 4096)
    && decide (p (Par.tileWords n) ≤ 4096) && decide (p (Par.tileCarried n) ≤ 256))
  && decide (p Par.copyBytes ≤ copyBudget tc)
  && ((List.range 12).all fun r => decide (p (Par.ringEps r) ≤ 32) && decide (132 * ringBlocks p r ≤ 10 * (85 * tc / 100)))
  && ((List.range 8).all fun n => decide (((List.range 96).filter fun m => p (Par.phHome m) == n + 1 || p (Par.phAlt m) == n + 1).length ≤ 48))
  && ((List.range 4).all fun k => decide (p (Par.rxObjs k) ≤ 1024))
  && decide (p Par.sramBanks ≤ 48)
  && decide (p Par.recordMb ≤ (if v = 3 then 96 else 192))
  && decide (1 ≤ p Par.ctrlMb) && decide (p Par.ctrlMb ≤ 32)
  && decide (p Par.ctrlMb + 32 + p Par.recordMb ≤ mb)

/-- The sides that load an image: those not OFF and not FAILED. -/
def State.loadingSides (s : State) : List Side :=
  [Side.a, Side.b].filter fun x => (s.side x).state != .off && (s.side x).state != .failed

/-- Checks 11 to 14 of R119, run when a slot loads; check 14 asks the sides that load (R120). -/
def State.checkLoad (s : State) (x : Side) (n : Nat) : Option (Nat × Nat) :=
  let g := fun i => s.byte (slotKey x n i)
  let all := imgBytes g 0 (imgLen g)
  let safety := secOf g 0xE
  let par := imageSettings all
  if !resourcesOk s.variant (tcNs (imgNum g 0x16 1)) (fun k => (SMap.get (fun _ => 0) par k).toNat) then some (0x0A, 0xFF)
  else if !s.sealOpen && !(s.metr.mapHeld && Config.sha384 (secOf g 0xD) == s.metr.mapDigest) then
    some (0x0B, (secFind g 0xD).getD 0xFF)
  else if !safety.isEmpty && !((crc32c (safety.take (safety.length - 4))).toNat == leNat (safety.drop (safety.length - 4))) then
    some (0x0C, (secFind g 0xE).getD 0xFF)
  else if !(s.loadingSides.any fun y => Config.structDigest y.code all == imgBytes g 0x40 48) then some (0x0D, 0xFF)
  else none

/-- A side that runs or boots defers service work (R714, R715). -/
def State.deferring (s : State) : Bool :=
  [Side.a, Side.b].any fun x => (s.side x).deferring && (s.side x).state != .off && (s.side x).state != .failed

/-- A side's slot is judged VALID (3), with its version, or INVALID (2) with a failure code. -/
def State.judgeSlot (s : State) (n st code : Nat) (x : Side) : State :=
  let ver := if st = 3 then imgVer fun i => s.byte (slotKey x n i) else 0
  ((s.setF (sideReg x (Reg.IMG_SLOT_STAT n)) Fld.IMG_SLOT_STAT_STATE st).setF (sideReg x (Reg.IMG_SLOT_STAT n))
    Fld.IMG_SLOT_STAT_ERR code).wr (sideReg x (Reg.IMG_SLOT_VER n)) (BitVec.ofNat 32 ver)

/-- The pre-check that CLOSE started ends (R113, R115): the slot is VALID only if every running side finds it so; else INVALID
on each with the code of the first failure. -/
def State.precheckEnds (s : State) (n : Nat) : State :=
  let s1 := { s with img := { s.img with precheck := none } }
  match s.runningSides.findSome? fun x => s.checkSlot x n with
  | some (code, _) =>
    s.runningSides.foldl (fun t x => t.judgeSlot n 2 code x) s1
  | none => s.runningSides.foldl (fun t x => t.judgeSlot n 3 0 x) s1

/-- SLOT_PRECHECK_DONE (R113, R115): while a side defers (R715), or no side runs, the pre-check waits. -/
def execSlotPrecheckDone (dt : Nat) (s : State) : Out :=
  let s1 := s.tick dt
  match s1.img.precheck with
  | none => .next s1
  | some n => .next (if s1.deferring || s1.runningSides.isEmpty then s1 else s1.precheckEnds n)

/-! ### Loading (R118 to R126) -/

/-- The TUNABLES records of an image (R103). -/
def parseTunables (bs : List Byte) : List Tunable :=
  (List.range (bs.length / 24)).map fun i =>
    let r := bs.drop (24 * i)
    let w := fun o => BitVec.ofNat 32 (leNat ((r.drop o).take 4))
    ⟨leNat (r.take 4), w 4, w 8, w 0xC, w 0x10, leNat ((r.drop 0x14).take 2)⟩

/-- A two's complement number of n bits. -/
def signed (n v : Nat) : Int := if 2 * v < 2 ^ n then (v : Int) else (v : Int) - 2 ^ n

/-- The RULES records of an image (R104, R105): unused terms carry index 0xFFFF. -/
def parseRules (bs : List Byte) : List RuleRec :=
  (List.range (bs.length / 24)).map fun i =>
    let r := bs.drop (24 * i)
    let n := leNat ((r.drop 1).take 1)
    let terms := (List.range (min n 4)).filterMap fun k =>
      let ix := leNat ((r.drop (4 + 4 * k)).take 2)
      if ix = 0xFFFF then none else some (ix, signed 16 (leNat ((r.drop (6 + 4 * k)).take 2)))
    ⟨leNat (r.take 1), terms, signed 32 (leNat ((r.drop 0x14).take 4))⟩

/-- The masked bits of a register set. -/
def State.wrMask (s : State) (addr : Nat) (mask v : Word) : State := s.wr addr ((s.rd addr &&& ~~~mask) ||| (v &&& mask))

/-- The RWC values in force, in ascending address order: the fields of code RWC of SAFE (R513). -/
def State.rwcValues (s : State) : List (Nat × Word) :=
  (s.img.tunables.filter fun t => t.flags / 2 % 8 == 3).map fun t => (t.addr, s.rd t.addr &&& t.mask)

/-- The SAFETY section of the running image, as a side holds it. -/
def State.safetySection (s : State) (x : Side) : List Byte :=
  match s.img.running with
  | some n => secOf (fun i => s.byte (slotKey x n i)) 0xE
  | none => []

/-- SAFE_CHECK_RUN of both channels and the confirmation that follows from it (R121, R513, R515). -/
def State.showSafety (s : State) : State :=
  let check := fun x => crc32c (Config.safetyBlock (s.safetySection x) s.rwcValues)
  let s1 := (s.wr Reg.SAFE_CHECK_RUN (check .a)).wr (Reg.SAFE_CHECK_RUN + 0x2000000) (check .b)
  if (s.safetySection s.serving).isEmpty then
    (s1.setF Reg.IMG_STAT Fld.IMG_STAT_SAFETY_UNCONF 0).setF Reg.SAFE_STAT Fld.SAFE_STAT_CONFIRMED 0
  else
    let ok := s1.safe.commissioned == some (check s.serving)
    (s1.setF Reg.IMG_STAT Fld.IMG_STAT_SAFETY_UNCONF (flag !ok)).setF Reg.SAFE_STAT Fld.SAFE_STAT_CONFIRMED (flag ok)

/-- Registers whose fields the image gives at a load: first address, strides and counts, the bits; part 1 of 3. -/
def imageMaskA : List (Nat × List (Nat × Nat) × Word) :=
  [(0x41000, [(0x40, 64)], 0x40000000), (0x4100C, [(0x40, 64)], 0x1FFFF), (0x41014, [(0x40, 64)], 0x3), (0x48000, [(0x200, 64), (0x4, 96)], 0xFFFFFFFF),
   (0x48180, [(0x200, 64), (0x4, 24)], 0x1F1F1F1F), (0x51000, [(0x40, 48)], 0xFFFF8001),
   (0x51004, [(0x40, 48)], 0x1FFFFFFF), (0x51008, [(0x40, 48)], 0x1FFFFFFF), (0x5100C, [(0x40, 48)], 0xFFFFFFFF),
   (0x51010, [(0x40, 48)], 0xFFFFFFFF), (0x51014, [(0x40, 48)], 0xFFFF), (0x51018, [(0x40, 48)], 0xCFFFFFFF),
   (0x150200, [(0x4, 117)], 0x800001FF), (0x70004, [], 0xFFFFFFFF), (0x70008, [], 0xFFFF),
   (0x7000C, [], 0xFFFFFFFF), (0x70010, [], 0xFFFFFFFF), (0x70014, [], 0xCFFFFFFF), (0x70018, [], 0x1FFFF),
   (0x7001C, [], 0xFFFFFFFF), (0x70020, [], 0xF0FFFF00), (0x70040, [], 0xFFFFFFFF), (0x70044, [], 0xFFFFFFFF),
   (0x70060, [(0x4, 8)], 0xFF00FFFF), (0x70080, [(0x4, 4)], 0xFF00FFFF), (0x7100C, [(0x10, 96)], 0x1FF),
   (0x70408, [], 0xFFFFFFFF), (0x7040C, [], 0xFFFFFF00), (0x70410, [], 0xFFFFFFF0), (0x70414, [], 0xFFFFFFFF),
   (0x70418, [], 0xFFFFFFF0), (0x7041C, [], 0xFFFFFF00)]

/-- Registers whose fields the image gives at a load: first address, strides and counts, the bits; part 2 of 3. -/
def imageMaskB : List (Nat × List (Nat × Nat) × Word) :=
  [(0x70420, [], 0x80FFFFFF), (0x70430, [(0x4, 4)], 0xFFFFFFFF), (0x8102C, [(0x40, 8)], 0xFFFF),
   (0x81010, [(0x40, 8)], 0xFFFFFFFF), (0x81014, [(0x40, 8)], 0xFFFFFFFF), (0x81018, [(0x40, 8)], 0xFFFFFFFF),
   (0x8101C, [(0x40, 8)], 0xFFFFFF00), (0x81020, [(0x40, 8)], 0xFF00FFFF), (0x81028, [(0x40, 8)], 0xE000),
   (0x84004, [(0x20, 96)], 0x800101FF), (0x90004, [], 0xFF01FFFF), (0x90008, [], 0xFFFFFFFF),
   (0x9000C, [], 0xFFFFFFFF), (0x90010, [], 0xFFFFFFFF), (0x90018, [], 0x9FFFFFFF), (0x90020, [], 0xFFFFFFFF),
   (0x90040, [(0x4, 4)], 0xF0FFFFF), (0x91000, [(0x20, 8)], 0xFFFF0000), (0xA1018, [(0x40, 8)], 0xFFFFFFFF),
   (0xA101C, [(0x40, 8)], 0xFFFFFFFF), (0xA1020, [(0x40, 8)], 0xFFFFFFFF), (0x171000, [(0x10, 32)], 0xFF030007),
   (0x171008, [(0x10, 32)], 0xFFFFFFFF), (0xB1008, [(0x40, 8)], 0xF7000000), (0xB100C, [(0x40, 8)], 0xFFFFFFFF),
   (0xB1018, [(0x40, 8)], 0xFFFFFFFF), (0xB101C, [(0x40, 8)], 0xFFFFFFFF), (0xB1028, [(0x40, 8)], 0xFF),
   (0xC0014, [], 0xFFFFFF01), (0xC1010, [(0x40, 2)], 0xFFFFFFFF), (0xC1014, [(0x40, 2)], 0xFFFFFFFF)]

/-- Registers whose fields the image gives at a load: first address, strides and counts, the bits; part 3 of 3. -/
def imageMaskC : List (Nat × List (Nat × Nat) × Word) :=
  [(0xC1018, [(0x40, 2)], 0xFFFFFFFF), (0xC101C, [(0x40, 2)], 0xFFFFFFFF), (0xC1020, [(0x40, 2)], 0xFFFFFFFF),
   (0xC1024, [(0x40, 2)], 0xFFFF00F8), (0xF0004, [], 0xFFFFFFFF), (0xF1008, [(0x100, 16)], 0xFFFFFFFF),
   (0xF100C, [(0x100, 16)], 0x8000FFFF), (0xF1010, [(0x100, 16)], 0xFFFFFFFF), (0xF1014, [(0x100, 16)], 0xFFFFFFFF),
   (0xF101C, [(0x100, 16)], 0xFFFF0000), (0xF1028, [(0x100, 16)], 0xFFFFFF00),
   (0xF1040, [(0x100, 16), (0x10, 4)], 0xFFFFFFFF), (0xF1044, [(0x100, 16), (0x10, 4)], 0xFFFFFFFF),
   (0xF1048, [(0x100, 16), (0x10, 4)], 0xFFFFFFFF), (0xF104C, [(0x100, 16), (0x10, 4)], 0xFFFFFFFF),
   (0x100008, [(0x4000, 4)], 0xFFFF7F7F), (0x10000C, [(0x4000, 4)], 0xFFFFFFFF),
   (0x100010, [(0x4000, 4)], 0xCFFFFFFF), (0x100018, [(0x4000, 4)], 0xFF00), (0x100020, [(0x4000, 4)], 0xFFFFFFFF),
   (0x100024, [(0x4000, 4)], 0x1FFFFFFF), (0x100028, [(0x4000, 4)], 0xFFFFFFFF),
   (0x10002C, [(0x4000, 4)], 0xFFFFFFFF), (0x100100, [(0x4000, 4), (0x20, 16)], 0xFF80FFFF),
   (0x111000, [(0x20, 24)], 0x7FFFC000), (0x111010, [(0x20, 24)], 0xFFFFFFFF), (0x111014, [(0x20, 24)], 0xFFFFFFFF),
   (0x120000, [], 0xFFFF), (0x120034, [], 0xFFFFFF00), (0x161000, [(0x10, 32)], 0xC000FFFF),
   (0x161004, [(0x10, 32)], 0xFFFFFFFF),
   (0x61000, [(0x20, 12)], 0x0C0000FF), (0x61010, [(0x20, 12)], 0xFFFF)]

/-- The bits of a register that the image gives ("from image" in its table; reset values of the chapters). -/
def imageMask (addr : Nat) : Word :=
  match (imageMaskA ++ imageMaskB ++ imageMaskC).find? fun e => decide (e.1 ≤ addr) && dimsMatch e.2.1 (addr - e.1) with
  | some e => e.2.2
  | none => 0

/-- A register of a unit that the image does not use (R10): of a tile, pair, ring port, outlet, engine, bus controller or axis that its masks
leave out, of the transformer control, or of the harmonic analysis. -/
def unusedReg (g : Nat → Byte) (addr : Nat) : Bool :=
  let out := fun (base stride total mask : Nat) =>
    decide (base ≤ addr) && decide (addr < base + stride * total) && !mask.testBit ((addr - base) / stride)
  let outlets := imgNum g 0x3A 1
  out 0x41000 0x40 64 (imgNum g 0x28 8) || out 0x48000 0x200 64 (imgNum g 0x28 8)
  || out 0x51000 0x40 48 (imgNum g 0x30 8) || out 0x61000 0x20 12 (imgNum g 0x38 2)
  || out 0x64000 0x400 12 (imgNum g 0x38 2)
  || out 0x81000 0x40 8 outlets || out 0x91000 0x20 8 outlets || out 0xA1000 0x40 8 outlets || out 0xB1000 0x40 8 outlets
  || out 0xC1000 0x40 2 (2 ^ imgNum g 0x3E 1 - 1) || out 0xF1000 0x100 16 (imgNum g 0x3C 2)
  || out 0x100000 0x4000 4 (imgNum g 0x3B 1)
  || (addr / 0x10000 == 0x07 && !(imgNum g 0x3F 1).testBit 0)
  || (decide (0xD4000 ≤ addr) && decide (addr < 0xD4300) && !(imgNum g 0x3F 1).testBit 1)

/-- LOOP_PARAM and LOOP_SHIFT, which a load gives afresh (R126, R236). -/
def loopWords (addr : Nat) : Bool := decide (0x48000 ≤ addr) && decide (addr < 0x50000)

/-- QSET_MAP_s, which a load gives afresh: a source that the image does not map has EN = 0 and no groups (R269). -/
def mapWord (addr : Nat) : Bool := decide (Reg.QSET_MAP 0 ≤ addr) && decide (addr ≤ Reg.QSET_MAP 116)

/-- QSET_MAP_108 to 115, which no image sets (R269). -/
def forceMap (addr : Nat) : Bool := decide (Reg.QSET_MAP 108 ≤ addr) && decide (addr ≤ Reg.QSET_MAP 115)

/-- Units that the image does not use are in reset (R10): their registers, on both sides and every path, and what they hold beside them; no
parameter word or shift and no map of a Quickset source of an earlier image stays. -/
def State.resetUnused (s : State) (g : Nat → Byte) : State :=
  let outlet := fun n : Nat => (imgNum g 0x3A 1).testBit n
  { s with
    regs := s.regs.filter fun e => !unusedReg g (e.1 % 0x1000000) && !loopWords e.1 && !mapWord e.1
    pregs := s.pregs.filter fun e => !unusedReg g (e.1 % 0x1000000)
    sst := if (imgNum g 0x3F 1).testBit 0 then s.sst else SstPart.reset
    outs := { s.outs with stages := s.outs.stages.filter fun e => outlet e.1 }
    cool := { s.cool with outlets := s.cool.outlets.filter fun e => outlet e.1 }
    outl := { s.outl with outlets := s.outl.outlets.filter fun e => outlet e.1 }
    safe := { s.safe with axes := s.safe.axes.filter fun e => decide (e.1 % 2 < imgNum g 0x3E 1) }
    acq := { s.acq with engs := s.acq.engs.filter fun e => (imgNum g 0x3C 2).testBit (e.1 % 16) }
    can := { s.can with engs := s.can.engs.filter fun e => (imgNum g 0x3B 1).testBit (e.1 % 4) } }

/-- The shift fields of parameter words that the image does not use as coefficients read 0 (R236). -/
def State.shiftsUsed (s : State) : State :=
  (s.regs.filter fun e => loopWords e.1 && decide (0x180 ≤ e.1 % 0x200)).foldl (fun t e => t.wr e.1 (e.2 &&& t.shiftMask e.1)) s

/-- The image of a slot runs: its registers, settings, tunables and rules; every tunable at DEFAULT or, with PERSIST, at
the stored value (R126), taken as it was stored (DESIGN CHOICE, log entry 27); every placement one epoch above the highest recorded (R124, R184). -/
def State.install (s : State) (n : Nat) : State :=
  let g := fun i => s.byte (slotKey s.serving n i)
  let all := imgBytes g 0 (imgLen g)
  let ts := parseTunables (secOf g 0x10)
  let store := SMap.get (fun _ => []) s.img.tuning n
  let s1 := ((Config.imageRegs all).filter fun e => !forceMap e.1).foldl (fun t e => t.wrMask e.1 (imageMask e.1) e.2) (s.resetUnused g)
  let s2 := ts.foldl (fun t r => t.wrMask r.addr r.mask (r.dflt <<< maskLo r.mask)) s1
  let s3 := ts.foldl (fun t r =>
    match store.find? fun e => e.1 == r.addr && e.2.1 == r.mask with
    | some e => if r.persist then t.wrMask r.addr r.mask e.2.2 else t
    | none => t) s2
  let base := (s3.keep.epochRecord + 1) % 65536
  let pars := imageSettings all
  let words := fun (f : Nat → Nat) (k n : Nat) => (List.range n).map fun i => (k + i, s3.rd (f i))
  let s4 := { s3 with
    img := { s3.img with running := some n, tunables := ts, rules := parseRules (secOf g 0x11), pars := pars,
                         guardPars := pars, padCfg := words Reg.EDGE_CFG 0 48 ++ words Reg.OUTL_O_CFG 64 8, everAccepted := true
                         use := ⟨imgNum g 0x38 2, imgNum g 0x3B 1, 2 ^ imgNum g 0x3E 1 - 1⟩ }
    metr := if (imgNum g 0x3F 1).testBit 1 then { s3.metr with harmUsed := true }
      else { s3.metr with harmUsed := false, harm := [], shownHarm := [] }
    lsw := { s3.lsw with loadDue := true }
    keep := { s3.keep with epochs := [], epochBase := base, epochRecord := (base + 256) % 65536 } }
  let s5 := (s4.shiftsUsed.setF Reg.TIME_CYCLE Fld.TIME_CYCLE_TC_CODE (imgNum g 0x16 1)).wr Reg.IMG_RUN_VER (BitVec.ofNat 32 (imgVer g))
  let s6 := (s5.wr Reg.IMG_RUN_BUILD (BitVec.ofNat 32 (imgNum g 0x10 4))).setF Reg.IMG_STAT Fld.IMG_STAT_SECTIONS (imgSections g)
  let s7 := (s6.setF Reg.IMG_STAT Fld.IMG_STAT_MODE 2).setF Reg.IMG_STAT Fld.IMG_STAT_SLOT n
  let s8 := (s7.wr Reg.LOOP_USED_LO (BitVec.ofNat 32 (imgNum g 0x28 4))).wr Reg.LOOP_USED_HI (BitVec.ofNat 32 (imgNum g 0x2C 4))
  let s9 := (s8.wr Reg.EDGE_USED_LO (BitVec.ofNat 32 (imgNum g 0x30 4))).wr Reg.EDGE_USED_HI (BitVec.ofNat 32 (imgNum g 0x34 4))
  (((s9.setF Reg.KEEP_EPOCH Fld.KEEP_EPOCH_ACTIVE_EPOCH base).setF Reg.IMG_XFER_CTRL Fld.IMG_XFER_CTRL_SLOT (1 - n)).showSafety).showRest

/-- A failed load goes to IMG_LOAD_ERR and posts IMG_REJECT (R119). -/
def State.loadFailed (s : State) (n : Nat) (f : Nat × Nat) : State :=
  (s.wr Reg.IMG_LOAD_ERR (BitVec.ofNat 32 (f.2 % 256 * 0x10000 + n * 0x100 + f.1))).post Ev.IMG_REJECT 0xFFF f.1

/-- The key slot of the running image's header. -/
def State.runningKey (s : State) : Option Nat :=
  s.img.running.map fun n => imgNum (fun i => s.byte (slotKey s.serving n i)) 0x17 1

/-- A write to IMG_KEY_STAT (R110): in FIELD, SERVICE revokes key slots for good; refused where it names the running image's
key or would leave no loaded key unrevoked. -/
def State.imgRevokeWrite (s : State) (acc : Access) (val : Word) : State :=
  s.command acc Reg.IMG_KEY_STAT .svc fun s1 =>
    let ask := fget Fld.IMG_KEY_STAT_REVOKE val
    let now := s1.fld Reg.IMG_KEY_STAT Fld.IMG_KEY_STAT_REVOKE ||| ask
    if ask = 0 then s1
    else if !s1.inField then s1.postArg Ev.DENIED (accArg acc Reg.IMG_KEY_STAT)
    else if (match s1.runningKey with | some k => ask.testBit k | none => false)
        || !([0, 1, 2, 3].any fun k => (s1.fld Reg.IMG_KEY_STAT Fld.IMG_KEY_STAT_LOADED).testBit k && !now.testBit k) then
      s1.paramReject acc Reg.IMG_KEY_STAT
    else s1.setF Reg.IMG_KEY_STAT Fld.IMG_KEY_STAT_REVOKE now

/-- REVOKE (R110). -/
def execImgRevoke (dt : Nat) (acc : Access) (val : Word) (s : State) : Out := .next ((s.tick dt).imgRevokeWrite acc val)

/-- A write to IMG_MIN_VER (R117): takes effect from the current value up to the running version; else PARAM_REJECT. -/
def State.imgMinVerWrite (s : State) (acc : Access) (val : Word) : State :=
  s.setting acc Reg.IMG_MIN_VER val fun s1 => s1.wr Reg.IMG_MIN_VER val

/-- IMG_MIN_VER_WRITE (R117). -/
def execImgMinVerWrite (dt : Nat) (acc : Access) (val : Word) (s : State) : Out := .next ((s.tick dt).imgMinVerWrite acc val)

/-- A PERSIST value in a tuning store, in place of the one of the same field. -/
def tunePut (st : List (Nat × Word × Word)) (d : TuneDue) : List (Nat × Word × Word) :=
  (st.filter fun e => !(e.1 == d.addr && e.2.1 == d.mask)) ++ [(d.addr, d.mask, d.value)]

/-- Every applied PERSIST value that waits is written to the tuning store of the running slot (R131), a block for each (R686). -/
def State.writeTuning (s : State) : State :=
  match s.img.running with
  | none => s
  | some n =>
    let st := s.img.tuneDue.foldl tunePut (SMap.get (fun _ => []) s.img.tuning n)
    { s with img := { s.img with tuning := SMap.put (fun _ => []) s.img.tuning n st, tuneDue := [] }
             mem := { s.mem with wear := SMap.put (fun _ => 0) s.mem.wear n (SMap.get (fun _ => 0) s.mem.wear n + s.img.tuneDue.length) } }

/-- TUNING_STORE_WRITE (R131). -/
def execTuningStoreWrite (dt : Nat) (s : State) : Out := .next (s.tick dt).writeTuning

end Sys2Proof.Machine
end

