-- ==== Sys2Proof/Machine/Shared.lean ====
section
/-! DEFINITION. Operations that several chapters share: placement epochs and fences, and the watches of a trial commit. -/

namespace Sys2Proof.Machine

open Sys2Proof

/-! ### Conditions that must last -/

/-- Since when a condition holds: kept while it holds, none when it ends. -/
def State.track (s : State) (o : Option Count) (c : Bool) : Option Count := if c then some (o.getD s.tm.mono) else none

/-- A condition tracked under a key. -/
def State.trackIn (s : State) (m : SMap Count) (k : Nat) (c : Bool) : SMap Count :=
  if c then (if m.any fun e => e.1 == k then m else SMap.insert m k s.tm.mono) else SMap.erase m k

/-- A tracked condition has lasted n counts. -/
def State.lasted (s : State) (o : Option Count) (n : Nat) : Bool :=
  match o with
  | some t => decide (n ≤ s.since t)
  | none => false

/-- A condition tracked under a key has lasted n counts. -/
def State.lastedIn (s : State) (m : SMap Count) (k n : Nat) : Bool :=
  s.lasted ((m.find? fun e => e.1 == k).map (·.2)) n

/-- A value that moves from a start towards a goal at a rate per second, n counts after the start (whole units, rounded
down; log entry 12). -/
def approach (start goal : Int) (perSec n : Nat) : Int :=
  let moved : Int := (perSec * n / Config.sec 1 : Nat)
  if goal < start then max goal (start - moved) else min goal (start + moved)

/-! ### The values Hedgerow runs with (R514) -/

/-- An RWC register of SAFE as the channels use it: the value of the last safety cycle, else the register. -/
def State.safeVal (s : State) (addr : Nat) (f : Field) : Nat :=
  match s.safe.vals.find? fun e => e.1 == addr with
  | some e => fget f e.2
  | none => s.fld addr f

/-- A signed field of an RWC register of SAFE as the channels use it. -/
def State.safeValS (s : State) (addr : Nat) (f : Field) : Int :=
  match s.safe.vals.find? fun e => e.1 == addr with
  | some e => fgetS f e.2
  | none => s.fldS addr f

/-! ### Placement epochs (R184 to R186) -/

/-- The placement of the active side. -/
def plActive : Nat := 0
/-- The placement of cell c's carrier assignment. -/
def plCell (c : Nat) : Nat := 1 + c
/-- The placement of loop n's tile mapping. -/
def plTile (n : Nat) : Nat := 128 + n
/-- The placement of outlet n's phase set. -/
def plOutlet (n : Nat) : Nat := 256 + n

/-- Epoch a is newer than epoch b (R185). -/
def epochNewer (a b : Nat) : Bool :=
  let d := (a + 65536 - b) % 65536
  decide (1 ≤ d) && decide (d ≤ 32767)

/-- A placement's epoch. -/
def State.epoch (s : State) (k : Nat) : Nat := s.epochOf k

/-- The epoch ceiling in the Guard die's record (R685): an epoch that reaches it moves it 256 above that epoch. -/
def raiseRecord (r e : Nat) : Nat := if e = r || epochNewer e r then (e + 256) % 65536 else r

/-- KEEP_EPOCH shows the active side's epoch. -/
def State.showEpoch (s : State) : State := s.setF Reg.KEEP_EPOCH Fld.KEEP_EPOCH_ACTIVE_EPOCH (s.epoch plActive)

/-- A placement takes a new epoch at a boundary: one more, and at most once at any one boundary (R184). -/
def State.bumpEpoch (s : State) (k : Nat) : State :=
  if s.keep.epochDone.contains k then s
  else
    let e := (s.epoch k + 1) % 65536
    { s with keep := { s.keep with
        epochs := SMap.put (fun _ => s.keep.epochBase) s.keep.epochs k e
        epochDone := k :: s.keep.epochDone
        epochRecord := raiseRecord s.keep.epochRecord e } }.showEpoch

/-- Every placement's epoch raised by d over the given epochs: a fail-over (R176) or a switchover (R192). -/
def State.raiseEpochs (s : State) (es : SMap Nat) (base d : Nat) : State :=
  let es' := es.map fun e => (e.1, (e.2 + d) % 65536)
  let base' := (base + d) % 65536
  { s with keep := { s.keep with
      epochs := es'
      epochBase := base'
      epochRecord := es'.foldl (fun (r : Nat) (e : Nat × Nat) => raiseRecord r e.2) (raiseRecord s.keep.epochRecord base') } }.showEpoch

/-- Every placement one above the ceiling in the Guard die's record (R184, R685: a load at start, an activation). -/
def State.freshEpochs (s : State) : State :=
  let base := (s.keep.epochRecord + 1) % 65536
  { s with keep := { s.keep with epochs := [], epochBase := base, epochRecord := raiseRecord s.keep.epochRecord base } }.showEpoch

/-- A result of an old epoch is discarded at a consumer's fence (R186). -/
def State.fenceDiscard (s : State) (consumer : Nat) : State :=
  (s.bump Reg.KEEP_FENCE_DISC Fld.KEEP_FENCE_DISC_COUNT).postLimited Ev.FENCE_DISCARD consumer 0
    (s.fld Reg.KEEP_FENCE_DISC Fld.KEEP_FENCE_DISC_COUNT + 1)

/-! ### The watches of a trial (R151, R789) -/

/-- A rollback of a trial is due for a reason; a CONFIRM of the same base cycle then has no effect (R150). DESIGN CHOICE (log entry 60): of
several conditions seen in one base cycle the first seen gives the reason; the spec does not say which does. -/
def State.trialRollback (s : State) (n reason : Nat) : State :=
  let c := s.context n
  if c.state = .trial ∧ c.rollback = none then
    let s1 := s.setContext n { c with rollback := some reason, confirm := false }
    if c.confirm then s1.post Ev.TXN_BUSY n else s1
  else s

/-- A watched condition occurs: WATCH bit b, the reason, and whether the unit holds an entry of the context. -/
def State.watchHit (s : State) (b reason : Nat) (holds : Ctx → Bool) : State :=
  [0, 1, 2, 3].foldl (fun st n =>
    let c := st.context n
    if c.state == .trial && c.watch.testBit b && holds c then st.trialRollback n reason else st) s

/-- A Quickset trip latches (WATCH.QSET). -/
def State.watchQset (s : State) : State := s.watchHit 0 0x9 fun _ => true

/-- Hedgerow makes a safety reaction (WATCH.SAFE). -/
def State.watchSafe (s : State) : State := s.watchHit 1 0xA fun _ => true

/-- A fail-over occurs (WATCH.FAILOVER). -/
def State.watchFailover (s : State) : State := s.watchHit 4 0xD fun _ => true

/-- A register of loop n (R789). -/
def ofLoop (n addr : Nat) : Bool :=
  addr == Reg.LOOP_STAMP_CFG n || addr == Reg.LOOP_MAP n
  || (decide (0x48000 + 0x200 * n ≤ addr) && decide (addr < 0x48000 + 0x200 * n + 0x1E0))

/-- A register of outlet n's instance of the OUTS, OUTL, COOL and ALOC per-outlet registers (R789). -/
def ofOutlet (n addr : Nat) : Bool :=
  let within := fun b st => decide (b + st * n ≤ addr) && decide (addr < b + st * (n + 1))
  within 0x81000 0x40 || within 0xB1000 0x40 || within 0xA1000 0x40 || within 0x91000 0x20

/-- Outlet n or its output stage enters a fault lockout (WATCH.LOCKOUT, R789). -/
def State.watchOutlet (s : State) (n : Nat) : State :=
  s.watchHit 3 0xC fun c => c.outlets.contains n || c.entries.any fun e => ofOutlet n e.1

/-- The transformer or a cell enters a fault lockout (WATCH.LOCKOUT, R789). -/
def State.watchSst (s : State) : State := s.watchHit 3 0xC fun c => c.entries.any fun e => e.1 / 0x10000 == 7

/-- A base cycle of loop n ends with SAT_RUN at some count: 100 meet WATCH.SAT (R151, R230, R789). -/
def State.watchSat (s : State) (n run : Nat) : State :=
  if 100 ≤ run then s.watchHit 2 0xB fun c => c.entries.any fun e => ofLoop n e.1 else s

end Sys2Proof.Machine
end

