-- ==== Sys2Proof/Machine/Calendar.lean ====
section
/-! DEFINITION. Calendar time from the timestamp: the leap table, the time zone and daylight saving (R55 to R57, R94), and the
days of the calendar. -/

namespace Sys2Proof.Machine

open Sys2Proof

/-! ### Days since 2000-01-01 -/

/-- Year, month and day of a day number since 2000-01-01. -/
def civil (n : Nat) : Nat × Nat × Nat :=
  let z := n + 730425
  let era := z / 146097
  let doe := z % 146097
  let yoe := (doe - doe / 1460 + doe / 36524 - doe / 146096) / 365
  let doy := doe - (365 * yoe + yoe / 4 - yoe / 100)
  let mp := (5 * doy + 2) / 153
  let d := doy - (153 * mp + 2) / 5 + 1
  let m := if mp < 10 then mp + 3 else mp - 9
  (yoe + era * 400 + (if m ≤ 2 then 1 else 0), m, d)

/-- The day number since 2000-01-01 of a date. -/
def dayNumber (y m d : Nat) : Nat :=
  let y' := if m ≤ 2 then y - 1 else y
  let era := y' / 400
  let yoe := y' % 400
  let doy := (153 * (if 2 < m then m - 3 else m + 9) + 2) / 5 + d - 1
  era * 146097 + (yoe * 365 + yoe / 4 - yoe / 100 + doy) - 730425

/-- The weekday of a day number, 0 for Sunday (2000-01-01 is a Saturday). -/
def weekday (n : Nat) : Nat := (n + 6) % 7

/-- Days of a month. -/
def monthDays (y m : Nat) : Nat := if m = 12 then 31 else dayNumber y (m + 1) 1 - dayNumber y m 1

/-! ### UTC (R55, R56, R94) -/

/-- The used entries of the leap table as (day, offset): they end at the first entry after instance 0 that reads 0 (R94). -/
def State.leapTable (s : State) : List (Nat × Nat) :=
  let ws := (List.range 16).map fun i => s.rd (Reg.TIME_LEAP i)
  let used := ws.take 1 ++ (ws.drop 1).takeWhile fun w => w != 0
  used.map fun w => (fget Fld.TIME_LEAP_DAY w, fget Fld.TIME_LEAP_OFS w)

/-- TAI−UTC on a UTC day: the last entry whose day is on or before it (R55). -/
def leapAt (tab : List (Nat × Nat)) (day : Nat) : Nat :=
  match (tab.filter fun e => decide (e.1 ≤ day)).getLast? with
  | some e => e.2
  | none => 0

/-- UTC of a timestamp in whole seconds since 2000-01-01, and whether the second is an inserted one, shown as 23:59:60 of the day
before its entry's day (R55, R56). DESIGN CHOICE (log entry 52): the timestamps of less than the first entry's offset, 32 s at reset, lie
before every entry's UTC day, and the spec gives no offset there; they take the offset of day 0 and read as second 0, the one before
which nothing is counted. -/
def utcOf (tab : List (Nat × Nat)) (ts : Count) : Nat × Bool :=
  let sec := ts.toNat / Config.sec 1
  let past := tab.filter fun e => decide (e.1 * 86400 + e.2 ≤ sec)
  let ofs := match past.getLast? with
    | some e => e.2
    | none => leapAt tab 0
  let u := sec - ofs
  match (tab.drop past.length).head? with
  | some e => if 0 < past.length ∧ e.1 * 86400 ≤ u then (e.1 * 86400 - 1, true) else (u, false)
  | none => (u, false)

/-- The timestamp of a UTC second since 2000-01-01. -/
def tsOfUtc (tab : List (Nat × Nat)) (u : Nat) : Count := BitVec.ofNat 64 ((u + leapAt tab (u / 86400)) * Config.sec 1)

/-! ### Local time (R57) -/

/-- The instant of a daylight-saving rule in a year, in seconds of local standard time. -/
def dstInstant (w : Word) (y : Nat) : Nat :=
  let m := fget Fld.TIME_DST_MONTH w
  let k := fget Fld.TIME_DST_WEEKDAY w
  let wk := fget Fld.TIME_DST_WEEK w
  let first := 1 + (k + 7 - weekday (dayNumber y m 1)) % 7
  let d := if wk = 5 then (if first + 28 ≤ monthDays y m then first + 28 else first + 21) else first + 7 * (wk - 1)
  dayNumber y m d * 86400 + 60 * fget Fld.TIME_DST_MINUTE w

/-- Daylight saving holds at an instant of local standard time (R57). DESIGN CHOICE (log entry 83): where both rules name one instant the spec
is silent; daylight saving then holds all year. -/
def State.dstOn (s : State) (std : Nat) : Bool :=
  let a := s.rd (Reg.TIME_DST 0)
  let b := s.rd (Reg.TIME_DST 1)
  if fget Fld.TIME_DST_MONTH a = 0 ∨ fget Fld.TIME_DST_MONTH b = 0 then false
  else
    let y := (civil (std / 86400)).1
    let i := dstInstant a y
    let j := dstInstant b y
    if i < j then decide (i ≤ std) && decide (std < j) else !(decide (j ≤ std) && decide (std < i))

/-- The local offset in force at a UTC second, in minutes. -/
def State.localOffset (s : State) (utc : Nat) : Int :=
  let std : Int := 15 * s.fldS Reg.TIME_TZ Fld.TIME_TZ_STD_OFS
  if s.dstOn ((utc : Int) + 60 * std).toNat then std + 15 * s.fld Reg.TIME_TZ Fld.TIME_TZ_DST_OFS else std

/-- Local time of a timestamp in whole seconds since 2000-01-01 (R57); an inserted second is shown with the second before it. -/
def State.localOf (s : State) (ts : Count) : Nat :=
  let u := (utcOf s.leapTable ts).1
  ((u : Int) + 60 * s.localOffset u).toNat

/-- Local time as the calendar shows it: day number, hour, minute and second; an inserted second is second 60 of its local minute (R57). -/
def State.localShown (s : State) (ts : Count) : Nat × Nat × Nat × Nat :=
  let l := s.localOf ts
  (l / 86400, l / 3600 % 24, l / 60 % 60, l % 60 + flag (utcOf s.leapTable ts).2)

/-- TAI−UTC at a timestamp (R55): an entry's offset applies from 00:00:00 UTC of its day, not yet in an inserted second. -/
def State.taiAt (s : State) (ts : Count) : Nat :=
  let tab := s.leapTable
  let sec := ts.toNat / Config.sec 1
  match (tab.filter fun e => decide (e.1 * 86400 + e.2 ≤ sec)).getLast? with
  | some e => e.2
  | none => leapAt tab 0

/-- TAI−UTC at the present timestamp (R55). -/
def State.taiUtc (s : State) : Nat := s.taiAt s.tm.ts

/-- TIME_STAT.TAI_UTC as the calendar stands (R55, R58). -/
def State.showTai (s : State) : State := s.setF Reg.TIME_STAT Fld.TIME_STAT_TAI_UTC s.taiUtc

end Sys2Proof.Machine
end

