-- ==== Sys2Proof/Machine/Port.lean ====
section
/-! DEFINITION. The site-bus controllers' engines and their message ports, which registers, the cooling loops and Hedgerow write
(R616 to R619); the sides' Ethernet transmit queues (R176, R181). -/

namespace Sys2Proof.Machine

open Sys2Proof

/-! ### The sides whose engines run -/

/-- Engines run on a side in SHADOW, STANDBY and ACTIVE (R588). -/
def State.engSide (s : State) (x : Side) : Bool :=
  let st := (s.side x).state
  st == .shadow || st == .standby || st == .active

/-- The sides on which engines run. -/
def State.engSides (s : State) : List Side := [Side.a, Side.b].filter s.engSide

/-! ### Controllers -/

/-- Controller k's engine on a side. -/
def State.canEng (s : State) (x : Side) (k : Nat) : CanEng := SMap.get (fun _ => CanEng.reset) s.can.engs (x.code * 4 + k % 4)

/-- The state with a controller's engine set on a side. -/
def State.setCan (s : State) (x : Side) (k : Nat) (e : CanEng) : State :=
  { s with can := { s.can with engs := SMap.put (fun _ => CanEng.reset) s.can.engs (x.code * 4 + k % 4) e } }

/-- MODE of a controller: 0 UNUSED, 1 RUN, 2 SLEEP, 3 RECOVERING, 4 HALTED. -/
def State.canMode (s : State) (k : Nat) : Nat := s.fld (Reg.CAN_STAT k) Fld.CAN_STAT_MODE

/-- The state with a controller's MODE set. -/
def State.setCanMode (s : State) (k m : Nat) : State := s.setF (Reg.CAN_STAT k) Fld.CAN_STAT_MODE m

/-- Buffer b of port p. -/
def CanEng.buf (e : CanEng) (p b : Nat) : CanBuf := SMap.get (fun _ => CanBuf.reset) e.bufs (p * 3 + b)

/-- The engine with a buffer set. -/
def CanEng.setBuf (e : CanEng) (p b : Nat) (v : CanBuf) : CanEng :=
  { e with bufs := SMap.put (fun _ => CanBuf.reset) e.bufs (p * 3 + b) v }

/-- Both sides' engines take a change together (R614, R616). -/
def State.canBoth (s : State) (k : Nat) (f : CanEng → CanEng) : State :=
  s.engSides.foldl (fun st x => st.setCan x k (f (st.canEng x k))) s

/-- The side whose engine the registers count: the serving side. -/
def State.canServing (s : State) (k : Nat) : CanEng := s.canEng s.serving k

/-- A field of a port's settings. -/
def State.portCfg (s : State) (k p : Nat) (f : Field) : Nat := s.fld (Reg.CAN_PORT_CFG k p) f

/-- The nominal bit time in counts (CAN_NBT_k; 80 MHz clock). -/
def State.bitTime (s : State) (k : Nat) : Nat :=
  let w := s.rd (Reg.CAN_NBT k)
  50 * (fget Fld.CAN_NBT_BRP w + 1) * (fget Fld.CAN_NBT_TSEG1 w + fget Fld.CAN_NBT_TSEG2 w + 2)

/-- A CAN event: CODE is the controller, INST the port or object (R762). -/
def State.canPost (s : State) (code k : Nat) (inst : Nat := 0xFFF) (detail : Nat := 0) : State := s.post code inst k detail

/-! ### Message ports (R617 to R621) -/

/-- The buffer that a message goes to (R617). -/
def CanEng.chooseBuf (e : CanEng) (p : Nat) (byNumber : Bool) (named : Nat) (m : CanMsg) : Option Nat :=
  if byNumber then (if named < 3 ∧ (e.buf p named).state ≠ 2 then some named else none)
  else
    match [0, 1, 2].find? fun b => (e.buf p b).state == 1 && ((e.buf p b).msg.map fun q => (q.id, q.ide)) == some (m.id, m.ide) with
    | some b => some b
    | none => [0, 1, 2].find? fun b => (e.buf p b).state == 0

/-- A message goes to a buffer, which becomes PENDING; one that is PENDING keeps its place in time (R617, R618). -/
def CanEng.putMsg (e : CanEng) (p b : Nat) (m : CanMsg) (now : Count) : CanEng :=
  let q := e.buf p b
  e.setBuf p b ⟨1, some m, if q.state = 1 then q.pendAt else now⟩

/-- A write that finds no buffer, or a length the format cannot carry (R617, R621). -/
def State.canRefuse (s : State) (k p : Nat) : State :=
  (s.bump (Reg.CAN_PORT_CNT k p) Fld.CAN_PORT_CNT_REFUSED).canPost Ev.CAN_TX_REFUSED k p

/-- A message written to a port: the choice is made on the serving side, and the engines of both sides take it (R616, R617). -/
def State.portWrite (s : State) (k p named : Nat) (m : CanMsg) : State :=
  let byNum := s.portCfg k p Fld.CAN_PORT_CFG_SEL == 1
  match (s.canServing k).chooseBuf p byNum named m with
  | none => s.canRefuse k p
  | some _ => s.canBoth k fun e =>
      match e.chooseBuf p byNum named m with
      | some b => e.putMsg p b m s.tm.mono
      | none => e

/-- The port takes messages from registers: its producer is HOST (R621). -/
def State.hostPort (s : State) (k p : Nat) : Bool := s.portCfg k p Fld.CAN_PORT_CFG_PRODUCER == 1

/-- Receive object o of controller k, as the serving side holds it. -/
def State.canObject (s : State) (k o : Nat) : CanObj := SMap.get (fun _ => CanObj.reset) (s.canServing k).objs o

/-! ### Ethernet transmit queues (R176, R181) -/

/-- A side's Ethernet transmit queue. -/
def State.ethQueue (s : State) (x : Side) : List (List Byte) := SMap.get (fun _ => []) s.host.ethTx x.code

/-- The state with a side's Ethernet transmit queue set. -/
def State.setEth (s : State) (x : Side) (q : List (List Byte)) : State :=
  { s with host := { s.host with ethTx := SMap.put (fun _ => []) s.host.ethTx x.code q } }

/-- A frame joins the transmit queues: every side that runs forms it by the same computation (R181). -/
def State.ethSend (s : State) (bs : List Byte) : State := s.engSides.foldl (fun st x => st.setEth x (st.ethQueue x ++ [bs])) s

/-- The frames of the serving side's queue that started on the wire in a cycle leave the queues. -/
def State.ethCycle (s : State) (n : Nat) : State :=
  let out := (s.ethQueue s.serving).take n
  let s1 := [Side.a, Side.b].foldl (fun st x => st.setEth x ((st.ethQueue x).drop n)) s
  { s1 with host := { s1.host with ethOut := out } }

/-- The old side's queue is purged at a fail-over; whether its head had started on the wire, and so completes, is open (R181). -/
def State.ethFailover (s : State) (lost : Side) : State :=
  let (b, s1) := s.freshBool
  if (s.ethQueue lost).isEmpty then s
  else { s1.setEth lost [] with host := { (s1.setEth lost []).host with ethOut := if b then (s.ethQueue lost).take 1 else [] } }

end Sys2Proof.Machine
end

