-- ==== Sys2Proof/Machine/Reset.lean ====
section
/-! DEFINITION. A module reset and the wakes (R711, R712, R716, R717): one operation that every kind of reset uses. -/

namespace Sys2Proof.Machine

open Sys2Proof

/-- LSW_CFG_n, LSW_LIM_n and LSW_TIME_n: the LSW section and the Fog map of the last accepted image, which the pad record holds (R660,
R682). -/
def lswSection (addr : Nat) : Bool :=
  decide (0x111000 ≤ addr) && decide (addr < 0x111300) && (addr % 0x20 == 0 || addr % 0x20 == 0x10 || addr % 0x20 == 0x14)

/-- Registers that a module reset keeps (R717): the metrology die's blocks, and what MRAM, fuses and the Guard die hold: the
image slots' registers, session numbers, the commissioned value, MEM_STAT to MEM_SEC_TS_HI and MEM_MRAM, PWR_RST and its
timestamp, PWR_WAKE_STAT, SYS_ID to SYS_RESET and the firmware banks; and LSW_FOGIN, which shows pads' levels. -/
def keptReg (addr : Nat) : Bool :=
  addr / 0x10000 == 0xD || addr / 0x10000 == 0xE
  || addr == Reg.IMG_MIN_VER || addr == Reg.IMG_KEY_STAT
  || slotReg (addr % 0x2000000)
  || (decide (0xB1000 ≤ addr) && decide (addr < 0xB1200) && addr % 0x40 == 0x20)
  || addr == Reg.SAFE_CHECK_COMM || addr == Reg.LSW_FOGIN
  || lswSection addr
  || addr == Reg.MEM_STAT || addr == Reg.MEM_WIPE_CFG || addr == Reg.MEM_SEC || addr == Reg.MEM_SEC_TS_LO
  || addr == Reg.MEM_SEC_TS_HI || addr == Reg.MEM_MRAM
  || addr == Reg.PWR_RST || addr == Reg.PWR_RST_TS_LO || addr == Reg.PWR_RST_TS_HI || addr == Reg.PWR_WAKE_STAT
  || addr == Reg.SYS_ID || addr == Reg.SYS_SERIAL_LO || addr == Reg.SYS_SERIAL_HI || addr == Reg.SYS_RESET
  || addr == Reg.HOST_FW_STAT || addr == Reg.HOST_FW_VER 0 || addr == Reg.HOST_FW_VER 1 || addr == Reg.HOST_FW_SVN

/-- Bytes that MRAM and the metrology die hold: image slots and firmware banks of both sides. -/
def keptByte (k : Nat) : Bool := decide (k < 0x20000000)

/-- The states of the cells out of the string, which MRAM keeps, and for a cell to be restored the state before (R370). -/
def cellStates (s : State) (t : State) : State :=
  (List.range 96).foldl (fun u c =>
    if s.fld (Reg.SST_CELL_STAT c) Fld.SST_CELL_STAT_STATE < 4 then u
    else
      let old : Cell := { Cell.reset with before := (SMap.get (fun _ => Cell.reset) s.sst.cells c).before }
      let u1 := { u with sst := { u.sst with cells := SMap.put (fun _ => Cell.reset) u.sst.cells c old } }
      u1.setF (Reg.SST_CELL_STAT c) Fld.SST_CELL_STAT_STATE (s.fld (Reg.SST_CELL_STAT c) Fld.SST_CELL_STAT_STATE)) t

/-- What a module reset leaves of the parts that no register shows (R717): MRAM, the always-on domain where it has kept power, and the
metrology die. DESIGN CHOICE (log entry 86): the spec does not say what becomes of a transfer or a pre-check that a module reset meets; it is
dropped, and the slot's STATE stays WRITING. -/
def State.afterReset (s : State) : State :=
  { State.reset with
    pending := s.pending, variant := s.variant, free := s.free, metr := s.metr, bill := s.bill
    regs := s.regs.filter fun e => keptReg e.1
    tm := { TimePart.reset with
      life := s.tm.life, rtc := s.tm.rtc, rtcTrimAt := s.tm.rtcTrimAt, timeLineAt := s.tm.timeLineAt, lineMark := s.tm.lineMark,
      rtcKept := s.sup.onDomain && (s.tm.rtcKept || s.fld Reg.TIME_STAT Fld.TIME_STAT_VALID == 1) }
    ev := { EvPart.reset with nextSeq := s.ev.nextSeq, log := s.ev.log, logged := s.ev.logged }
    img := { ImagePart.reset with
      written := s.img.written, tuning := s.img.tuning, keyHash := s.img.keyHash, guardPars := s.img.guardPars, padCfg := s.img.padCfg,
      everAccepted := s.img.everAccepted, tuneLost := s.img.tuneLost || !s.img.tuneDue.isEmpty }
    keep := { KeepPart.reset with epochRecord := s.keep.epochRecord }
    host := { HostPart.reset with objects := s.host.objects, fwWritten := s.host.fwWritten, fwTrialStart := s.host.fwTrialStart }
    safe := { SafePart.reset with commissioned := s.safe.commissioned }
    mem := { MemPart.reset with returns := s.mem.returns, wipePend := s.mem.wipePend, wear := s.mem.wear, faults := s.mem.faults }
    sup := { s.sup with phase := 3, late := false, cand := 0, candAt := none, ltrAt := [], coolAt := [], lost := false,
                         trimOk := false, gpio := [] }
    bytes := s.bytes.filter fun e => keptByte e.1 }

/-- The instant at which the run ends, kept by the Guard die (PWR_RST_TS). -/
def State.endRun (s : State) : State :=
  (s.wr Reg.PWR_RST_TS_LO (s.tm.ts.extractLsb' 0 32)).wr Reg.PWR_RST_TS_HI (s.tm.ts.extractLsb' 32 32)

/-- The run still goes on: the logic has power and is out of reset, and the sides have not gone to OFF in a descent. -/
def State.running (s : State) : Bool :=
  (s.sup.phase == 3 || s.sup.phase == 4) && decide (s.fld Reg.PWR_STAT Fld.PWR_STAT_STATE < 3)

/-- The state that a run leaves behind: beside what R717 keeps, the boot slot, HOST_CFG.ROLE (R730), the input's condition, and a
latched GUARD_FAULT (R47). -/
def State.cleared (s : State) : State :=
  let t := cellStates s s.afterReset
  let input := s.rd Reg.PWR_STAT &&& 0x00240000
  let t1 := (t.setF Reg.IMG_SLOT_CTRL Fld.IMG_SLOT_CTRL_BOOT (s.fld Reg.IMG_SLOT_CTRL Fld.IMG_SLOT_CTRL_BOOT)).setF Reg.HOST_CFG
    Fld.HOST_CFG_ROLE (s.fld Reg.HOST_CFG Fld.HOST_CFG_ROLE)
  let t2 := (t1.wr Reg.PWR_STAT (input ||| 0xFFFF)).wr Reg.MEM_STAT (s.rd Reg.MEM_STAT &&& 0xFFFF0000)
  { t2 with keep := { t2.keep with guardFault := s.keep.guardFault, guardFaultAt := s.keep.guardFaultAt } }

/-- A module reset of a kind of R716: the Guard die keeps the timestamp at which the run ended and counts the start; a start with
GUARD_FAULT latched takes kind GUARD_FAULT with the kind as its TRIGGER; the boot bank runs (R747). -/
def State.moduleReset (s : State) (kind : Nat) : State :=
  let cause := if s.keep.guardFault then 5 else kind
  let t := (if s.running then s.endRun else s).cleared
  let starts := min (s.fld Reg.PWR_RST Fld.PWR_RST_STARTS + 1) 0xFFFF
  let w := BitVec.ofNat 32 (cause * 0x10000000 + kind % 16 * 0x1000000 + starts)
  let fw := s.rd Reg.HOST_FW_STAT &&& 0xF4000000
  let fw2 := fset Fld.HOST_FW_STAT_RUN_BANK fw (fget Fld.HOST_FW_STAT_BOOT_BANK fw)
  let t1 := { t with
    sup := { t.sup with ladderAt := if kind = 1 ∨ kind = 2 then s.sup.ladderAt else s.tm.life }
    keep := { t.keep with guardFault := false, guardFaultAt := 0 } }
  ((t1.wr Reg.PWR_RST w).wr Reg.SYS_RESET w).wr Reg.HOST_FW_STAT fw2

/-! ### Wakes (R711, R712) -/

/-- The power state (R703). -/
def State.power (s : State) : Nat := s.fld Reg.PWR_STAT Fld.PWR_STAT_STATE

/-- The wake sources of R711 but for source 0x8, which R705 decides. -/
inductive WakeSrc where
  | wake | can | tamper | alarm | outlet | fog | metr
  deriving DecidableEq, Repr

/-- The code of R711. -/
def WakeSrc.code : WakeSrc → Nat
  | .wake => 1
  | .can => 2
  | .tamper => 3
  | .alarm => 4
  | .outlet => 5
  | .fog => 6
  | .metr => 7

/-- A source acts in the present power state and its bit in PWR_WAKE_CFG is set (R711), and no GUARD_FAULT bars its reset (R720). -/
def State.wakeOpen (s : State) (src : WakeSrc) (inst : Nat) : Bool :=
  let cfg := s.rd Reg.PWR_WAKE_CFG
  let p := s.power
  !s.keep.guardFault && match src with
  | .wake => decide (3 ≤ p) && cfg.getLsbD (inst % 8)
  | .can => decide (3 ≤ p) && cfg.getLsbD 12
  | .tamper => decide (3 ≤ p) && cfg.getLsbD (8 + inst % 4)
  | .alarm => decide (3 ≤ p) && cfg.getLsbD 13
  | .outlet => p == 3 && cfg.getLsbD 14
  | .fog => decide (3 ≤ p) && cfg.getLsbD 15
  | .metr => p == 4 && cfg.getLsbD 16

/-- A wake (R712): source and instance are recorded, PWR_WAKE is posted; from NIGHT or DARK it is a module reset. -/
def State.wakeSource (s : State) (src : WakeSrc) (inst : Nat) : State :=
  if s.wakeOpen src inst then
    let s1 := s.moduleReset (if s.power = 3 then 8 else 9)
    (s1.wr Reg.PWR_WAKE_STAT (BitVec.ofNat 32 (src.code * 0x10000000 + inst % 16 * 0x1000000))).post Ev.PWR_WAKE 0xFFF 0 (src.code * 16 + inst % 16)
  else s

end Sys2Proof.Machine
end

