-- ==== Sys2Proof/Machine/Line.lean ====
section
/-! DEFINITION. Ring frames, the line coding of the lanes, and the transmitter of a ring port (R42, R282 to R288, R300). -/

namespace Sys2Proof.Machine

open Sys2Proof

/-! ### Frames (R287 to R292) -/

/-- n bytes of a frame at an offset, as a little-endian number. -/
def fnum (f : List Byte) (ofs n : Nat) : Nat := leNat ((f.drop ofs).take n)

/-- TYPE. -/
def frType (f : List Byte) : Nat := fnum f 0 1
/-- ADDR. -/
def frAddr (f : List Byte) : Nat := fnum f 1 1
/-- EPOCH. -/
def frEpoch (f : List Byte) : Nat := fnum f 4 2
/-- HI_PORT of FLAGS. -/
def frHi (f : List Byte) : Bool := (fnum f 6 1).testBit 1
/-- RETURN of FLAGS. -/
def frReturn (f : List Byte) : Bool := (fnum f 6 1).testBit 0
/-- CYCLE. -/
def frCycle (f : List Byte) : Nat := fnum f 8 4
/-- TRIPPED. -/
def frTripped (f : List Byte) : Nat := fnum f 12 1
/-- A number of the payload. -/
def frPay (f : List Byte) (ofs n : Nat) : Nat := fnum f (16 + ofs) n

/-- A frame is whole: header, LEN payload bytes, and a CRC-32 over both (R287). -/
def frameOk (f : List Byte) : Bool :=
  decide (20 ≤ f.length) && f.length == 20 + fnum f 2 2
  && (crc32 (f.take (f.length - 4))).toNat == fnum f (f.length - 4) 4

/-- A frame with its CRC-32 (R287). -/
def mkFrame (ty addr epoch flags seq cycle tripped : Nat) (pay : List Byte) : List Byte :=
  let h := leBytes 1 ty ++ leBytes 1 addr ++ leBytes 2 pay.length ++ leBytes 2 epoch ++ leBytes 1 flags ++ leBytes 1 seq
    ++ leBytes 4 cycle ++ leBytes 1 tripped ++ [0, 0, 0]
  h ++ pay ++ leBytes 4 (crc32 (h ++ pay)).toNat

/-- 2^48, the span of ring time. -/
def rtSpan : Nat := 2 ^ 48

/-! ### Blocks and line words (R282, R284, R285) -/

/-- a − b of two ring times by serial arithmetic (R296). -/
def rtDiff (a b : Nat) : Int :=
  let d := (a + rtSpan - b % rtSpan) % rtSpan
  if d < rtSpan / 2 then (d : Int) else (d : Int) - rtSpan

/-- A TRIP block of an origin: GROUPS, KIND, ORIGIN, their complements and PORT (R303). -/
def tripBlock (groups kind origin port : Nat) : List Byte :=
  leBytes 1 0xD2 ++ leBytes 1 groups ++ leBytes 1 kind ++ leBytes 1 origin ++ leBytes 1 (255 - groups % 256)
    ++ leBytes 1 (255 - kind % 256) ++ leBytes 1 (255 - origin % 256) ++ leBytes 1 port

/-- TRIP (R284) with its bytes of R303. -/
def Block.trip (bytes : List Byte) : Block := ⟨true, BitVec.ofNat 64 (leNat bytes)⟩
/-- A block is a TRIP block. -/
def Block.isTrip (b : Block) : Bool := b.ctrl && b.word.toNat % 256 == 0xD2
/-- IDLE (R284). -/
def Block.idle : Block := ⟨true, 0x1E⟩
/-- START (R284). -/
def Block.start : Block := ⟨true, 0x78⟩
/-- TERM with the valid bytes of the DATA block before it (R284). -/
def Block.term (n : Nat) : Block := ⟨true, BitVec.ofNat 64 (0x87 + 256 * n)⟩
/-- ABORT (R284). -/
def Block.abort : Block := ⟨true, 0x4B⟩

/-- The DATA blocks of some bytes, eight to a block; unused bytes are 0 (R284). -/
def dataBlocks : List Byte → List Block
  | b0 :: b1 :: b2 :: b3 :: b4 :: b5 :: b6 :: b7 :: r =>
    ⟨false, BitVec.ofNat 64 (leNat [b0, b1, b2, b3, b4, b5, b6, b7])⟩ :: dataBlocks r
  | [] => []
  | l => [⟨false, BitVec.ofNat 64 (leNat l)⟩]

/-- Blocks with the instants at which they begin, one after the other from an instant on; a block takes 13.2 ns (R282). -/
def timed (t : Nat) : List Block → List (Nat × Block)
  | [] => []
  | b :: r => (t, b) :: timed (t + 264) r

/-- A frame on a lane (R285): START, its DATA blocks, TERM. -/
def frameBlocks (f : List Byte) : List Block :=
  Block.start :: dataBlocks f ++ [Block.term ((f.length + 7) % 8 + 1)]

/-- The scrambler x^58 + x^39 + 1 over a block's 64 bits, lowest first (R282): each bit sent is the block's bit with the bits sent 39 and 58
before it added; the register holds the last 58 bits sent, the newest highest. -/
def scramble (st : BitVec 58) (w : BitVec 64) : BitVec 64 × BitVec 58 :=
  let lo : BitVec 39 := w.extractLsb' 0 39 ^^^ st.extractLsb' 0 39 ^^^ st.extractLsb' 19 39
  let mid : BitVec 58 := lo ++ st.extractLsb' 39 19
  let hi : BitVec 25 := w.extractLsb' 39 25 ^^^ mid.extractLsb' 0 25 ^^^ mid.extractLsb' 19 25
  (hi ++ lo, hi ++ mid.extractLsb' 25 33)

/-- The receiver's descrambler: its register holds the last 58 bits received. -/
def descramble (st : BitVec 58) (w : BitVec 64) : BitVec 64 × BitVec 58 :=
  let lo : BitVec 39 := w.extractLsb' 0 39
  let mid : BitVec 58 := lo ++ st.extractLsb' 39 19
  let hi : BitVec 25 := w.extractLsb' 39 25
  let a : BitVec 39 := lo ^^^ st.extractLsb' 0 39 ^^^ st.extractLsb' 19 39
  let b : BitVec 25 := hi ^^^ mid.extractLsb' 0 25 ^^^ mid.extractLsb' 19 25
  (b ++ a, hi ++ mid.extractLsb' 25 33)

/-- The sync header of a block: 0b10 for control, 0b01 for data (R284). -/
def syncHeader (ctrl : Bool) : BitVec 2 := if ctrl then 2 else 1

/-- The 66-bit line words of some blocks from a state of the scrambler: sync header, then the scrambled bytes (R282). -/
def lineWords : BitVec 58 → List Block → List (BitVec 66)
  | _, [] => []
  | st, b :: r => ((scramble st b.word).1 ++ syncHeader b.ctrl) :: lineWords (scramble st b.word).2 r

/-- The blocks of received line words; a word without a valid sync header ends them. -/
def lineBlocks : BitVec 58 → List (BitVec 66) → List Block
  | _, [] => []
  | st, w :: r =>
    let h : BitVec 2 := w.extractLsb' 0 2
    let d := descramble st (w.extractLsb' 2 64)
    if h = 2 then ⟨true, d.1⟩ :: lineBlocks d.2 r
    else if h = 1 then ⟨false, d.1⟩ :: lineBlocks d.2 r
    else []

/-- The bytes of the DATA blocks that stand before a TERM block, and that block's count of valid bytes; a TRIP block inside the frame is left
out of it (R285). -/
def blockBytes : List Block → Option (List Byte × Nat)
  | [] => none
  | b :: r =>
    if b.isTrip then blockBytes r
    else if b.ctrl then (if b.word.toNat % 256 = 0x87 then some ([], b.word.toNat / 256 % 256) else none)
    else (blockBytes r).map fun t => (leBytes 8 b.word.toNat ++ t.1, t.2)

/-- The frame that some blocks carry (R285): after any IDLE and TRIP blocks START, DATA blocks, TERM. -/
def frameOf : List Block → Option (List Byte)
  | [] => none
  | b :: r =>
    if b = Block.idle || b.isTrip then frameOf r
    else if b = Block.start then (blockBytes r).map fun t => t.1.take (t.1.length - 8 + t.2) else none

/-! ### The transmitter of a port (R42, R288, R300) -/

/-- A port's transmitter. -/
def State.port (s : State) (p : Nat) : PortTx := SMap.get (fun _ => PortTx.reset) s.ring.ports p

/-- The state with a port's transmitter set. -/
def State.setPort (s : State) (p : Nat) (t : PortTx) : State :=
  { s with ring := { s.ring with ports := SMap.put (fun _ => PortTx.reset) s.ring.ports p t } }

/-- The image uses the port (RING_PORT_STAT_n.MODE). -/
def State.portUsed (s : State) (p : Nat) : Bool :=
  decide (p < portsOf s.variant) && s.fld (Reg.RING_PORT_STAT p) Fld.RING_PORT_STAT_MODE != 0

/-- The monotonic count in twentieths of a nanosecond; a block takes 264 of them, 13.2 ns (R282). -/
def State.lineNow (s : State) : Nat := s.tm.mono.toNat * 5

/-- The class in which a frame waits (R42, R288, R295, R311): TAKEOVER and a DELAY that goes back, then SCHED, then SYNC, then the other control frames. -/
def TxFrame.cls (f : TxFrame) : Nat := if f.ty = 9 ∨ f.raw ≠ [] then 0 else if f.ty = 1 then 1 else if f.ty = 2 then 2 else 3

/-- A waiting frame's place: SCHED frames by update point and then from the rotating pointer on (R300), the others as they came. -/
def TxFrame.rank (f : TxFrame) (ptr : Nat) : Nat :=
  f.cls * 2 ^ 80 + (if f.cls = 1 then f.due * 32 + (f.addr + 32 - ptr % 32) % 32 else 0)

/-- When the next frame of a port can start: the lane is free, and a frame has come. -/
def PortTx.startAt (t : PortTx) : Nat :=
  max t.freeAt ((t.queue.map TxFrame.at').foldl min ((t.queue.map TxFrame.at').headD 0))

/-- The frame that starts then. -/
def PortTx.pick (t : PortTx) : Option TxFrame :=
  (t.queue.filter fun f => decide (f.at' ≤ t.startAt)).foldl (fun (b : Option TxFrame) f =>
    match b with
    | none => some f
    | some g => if f.rank t.ptr < g.rank t.ptr then some f else some g) none

/-- A frame leaves a port (R287): its SEQ and the groups tripped at sending are set, and a SYNC's RT_TX is when its START crosses the
reference point (R292). The rotating pointer moves past the endpoint of a contested SCHED (R40). -/
def PortTx.depart (t : PortTx) (groups : Nat) (f : TxFrame) : PortTx :=
  let start := t.startAt
  let seq := SMap.get (fun _ => 0) t.seqs f.ty
  let pay := if f.ty = 2 then leBytes 6 (start * 64 / 25 % rtSpan) ++ f.pay.drop 6 else f.pay
  let bytes := if f.raw = [] then mkFrame f.ty f.addr f.epoch f.flags seq f.cycle groups pay else f.raw
  let blocks := frameBlocks bytes ++ [Block.idle]
  let rival := f.cls == 1 && t.queue.any fun g => g.cls == 1 && g.due == f.due && g.addr != f.addr && decide (g.at' ≤ start)
  { t with
    queue := t.queue.erase f, sent := t.sent ++ [bytes], line := t.line ++ timed start blocks,
    freeAt := start + 264 * blocks.length, ptr := if rival then (f.addr + 1) % 32 else t.ptr,
    seqs := if f.raw = [] then SMap.put (fun _ => 0) t.seqs f.ty ((seq + 1) % 256) else t.seqs }

/-- The frames of a port whose turn has come by an instant leave it, at most some number of them. -/
def PortTx.advance (groups now : Nat) : Nat → PortTx → PortTx
  | 0, t => t
  | k + 1, t =>
    match t.pick with
    | none => t
    | some f => if t.startAt ≤ now then PortTx.advance groups now k (t.depart groups f) else t

/-- A TRIP block goes out at the first block boundary from an instant on, before any block that waits, also inside a frame (R285, R304); the
blocks not begun yet are later by one. -/
def PortTx.trip (t : PortTx) (at' : Nat) (b : Block) : PortTx :=
  let begun := t.line.filter fun e => decide (e.1 < at')
  let go := max at' (begun.getLast?.elim 0 fun e => e.1 + 264)
  { t with line := begun ++ [(go, b)] ++ ((t.line.filter fun e => decide (at' ≤ e.1)).map fun e => (e.1 + 264, e.2)),
           freeAt := max t.freeAt go + 264 }

/-- What a port has sent by an instant: frames whose turn has come, and the TRIP blocks of earlier FCLK periods (R277: a clear can still be
undone in its own). -/
def PortTx.upTo (t : PortTx) (groups now : Nat) : PortTx :=
  let due := t.trips.filter fun b => decide (b.1 / 25 < now / 25)
  let t1 := due.foldl (fun (u : PortTx) b => (u.advance groups b.1 u.queue.length).trip b.1 b.2)
    { t with trips := t.trips.filter fun b => decide (now / 25 ≤ b.1 / 25) }
  t1.advance groups now t1.queue.length

/-- A port sends what its turn has come for; nothing after GUARD_FAULT (R46). -/
def State.pumpPort (s : State) (p : Nat) : State :=
  let t := s.port p
  if s.keep.guardFault || (t.queue.isEmpty && t.trips.isEmpty) then s
  else s.setPort p (t.upTo (s.fld Reg.QSET_STAT Fld.QSET_STAT_GROUPS) s.lineNow)

/-- The line words of a port since the boundary: sync headers and scrambled bytes of its blocks (R282). -/
def State.lineOut (s : State) (p : Nat) : List (BitVec 66) :=
  lineWords (Config.scramblerAt p ((s.port p).line.head?.elim 0 (·.1))) ((s.port p).line.map (·.2))

/-- Every used port does. -/
def State.pump (s : State) : State := ((List.range 12).filter s.portUsed).foldl State.pumpPort s

/-- A frame joins a port's queue; none after GUARD_FAULT (R46, R316). -/
def State.sendFrame (s : State) (p : Nat) (f : TxFrame) : State :=
  if s.keep.guardFault then s
  else
    let s1 := s.pumpPort p
    s1.setPort p { s1.port p with queue := (s1.port p).queue ++ [f] }

/-- The flags of a downstream frame of a port: HI_PORT for a pair's upper port, SIDE of the active side (R287). -/
def State.portFlags (s : State) (p : Nat) : Nat :=
  (if s.fld (Reg.RING_PORT_STAT p) Fld.RING_PORT_STAT_MODE == 3 then 2 else 0) + 4 * s.serving.code

/-- A downstream frame of a type formed for a port; due is its update point (R300). -/
def State.sendDue (s : State) (p ty addr epoch due : Nat) (pay : List Byte) : State :=
  s.sendFrame p { ty := ty, addr := addr, epoch := epoch, flags := s.portFlags p, cycle := (s.rd Reg.TIME_CYCLE_CNT).toNat,
                  pay := pay, due := due, at' := s.lineNow, raw := [] }

/-- A downstream control frame formed for a port. -/
def State.sendDown (s : State) (p ty addr epoch : Nat) (pay : List Byte) : State := s.sendDue p ty addr epoch 0 pay

/-- A TRIP block of the Guard die, SET (1) or CLEAR (2) of some groups, comes to every used port (R304). -/
def State.tripOut (s : State) (kind groups : Nat) : State :=
  if s.keep.guardFault then s
  else
    ((List.range 12).filter s.portUsed).foldl (fun st p =>
      let u := st.pumpPort p
      u.setPort p { u.port p with trips := (u.port p).trips ++ [(u.lineNow, Block.trip (tripBlock groups kind 0xFF p))] }) s

/-- CLEAR blocks of this FCLK period name only groups that some test still holds free (R277). -/
def State.tripTake (s : State) (free : Nat → Nat) : State :=
  let clear := fun b : Nat × Block => b.1 / 25 == s.lineNow / 25 && b.2.word.toNat / 65536 % 256 == 2
  let left := fun b : Nat × Block => free (b.2.word.toNat / 256 % 256)
  let trips := fun (p : Nat) (t : PortTx) => t.trips.filterMap fun b =>
    if !clear b then some b else if left b = 0 then none else some (b.1, Block.trip (tripBlock (left b) 2 0xFF p))
  { s with ring := { s.ring with ports := s.ring.ports.map fun e => (e.1, { e.2 with trips := trips e.1 e.2 }) } }

/-- The SCHED frames that wait at the ports are gone (R316). -/
def State.dropScheds (s : State) : State :=
  let s1 := s.pump
  { s1 with ring := { s1.ring with ports := s1.ring.ports.map fun e => (e.1, { e.2 with queue := e.2.queue.filter fun f => f.ty != 1 }) } }

end Sys2Proof.Machine
end

