-- ==== Sys2Proof/Machine/Quickset.lean ====
section
/-! DEFINITION. Quickset on the Guard die: sources, latches, groups, clears and the TRIP blocks (R268 to R279, R304). -/

namespace Sys2Proof.Machine

open Sys2Proof

/-- The latch of a source is set. -/
def State.latched (s : State) (src : Nat) : Bool := s.bit (Reg.QSET_LATCH (src / 32)) (src % 32)

/-- Some latch is set. -/
def State.anyLatch (s : State) : Bool := (List.range 4).any fun k => s.rd (Reg.QSET_LATCH k) != 0

/-- A source sets its latch when it is active (R269: EN). -/
def State.srcEnabled (s : State) (src : Nat) : Bool := s.fld (Reg.QSET_MAP src) Fld.QSET_MAP_EN == 1

/-- The trip groups of a source. -/
def State.srcGroups (s : State) (src : Nat) : Nat := s.fld (Reg.QSET_MAP src) Fld.QSET_MAP_GROUPS

/-- The groups tripped: those of every latch that is set (R269). -/
def State.groupsOfLatches (s : State) : Nat :=
  (List.range 117).foldl (fun g i => if s.latched i then g ||| s.srcGroups i else g) 0

/-- Group g is tripped. -/
def State.groupTripped (s : State) (g : Nat) : Bool := (s.fld Reg.QSET_STAT Fld.QSET_STAT_GROUPS).testBit g

/-- A pair's copy on a side. -/
def State.pair (s : State) (x : Side) (n : Nat) : Pair := SMap.get (fun _ => Pair.reset) s.edge.pairs (x.code * 65536 + n)

/-- The state with a pair set on a side. -/
def State.setPair (s : State) (x : Side) (n : Nat) (p : Pair) : State :=
  { s with edge := { s.edge with pairs := SMap.put (fun _ => Pair.reset) s.edge.pairs (x.code * 65536 + n) p } }

/-- Pair n is used by the running image. -/
def State.pairUsed (s : State) (n : Nat) : Bool :=
  decide (n < pairsOf s.variant) && s.fld (Reg.EDGE_CFG n) Fld.EDGE_CFG_USED == 1

/-- EDGE_CFG_n as the pads of pair n have it: of the running image, else of the last accepted one, from the pad record (R122). -/
def State.padWord (s : State) (n : Nat) : Word :=
  if s.fld Reg.IMG_STAT Fld.IMG_STAT_MODE = 2 then s.rd (Reg.EDGE_CFG n) else SMap.get (fun _ => 0) s.img.padCfg n

/-- Pair n is used by the image whose pad record the Guard die holds. -/
def State.padUsed (s : State) (n : Nat) : Bool := decide (n < pairsOf s.variant) && fget Fld.EDGE_CFG_USED (s.padWord n) == 1

/-- A pair is tripped while any of its groups is tripped (R269). -/
def State.pairTripped (s : State) (n : Nat) : Bool :=
  s.fld (Reg.EDGE_CFG n) Fld.EDGE_CFG_GROUPS &&& s.fld Reg.QSET_STAT Fld.QSET_STAT_GROUPS != 0

/-- A bit of a Guard-die state in EDGE_PSTAT_n, on both sides' copies. -/
def State.pstat (s : State) (n : Nat) (f : Field) (v : Nat) : State :=
  (s.setF (Reg.EDGE_PSTAT n) f v).setF (Reg.EDGE_PSTAT n + 0x2000000) f v

/-- The level of one output by the edges placed so far in the period, and what it had before. -/
def levelAt (out : List (Nat × Bool × Bool)) (b : Bool) (now : Nat) (before : Bool) : Bool :=
  (out.filter fun e => e.2.1 == b && decide (e.1 ≤ now)).foldl (fun _ e => e.2.2) before

/-- When an output of a pair last turned off, seen at an instant. -/
def Pair.offTime (p : Pair) (b : Bool) (now : Nat) : Nat :=
  ((p.out.filter fun e => e.2.1 == b && decide (e.1 ≤ now)).foldl
    (fun (a : Bool × Nat) e => (e.2.2, if a.1 && !e.2.2 then e.1 else a.2))
    (if b then (p.levelB, p.offB) else (p.levelA, p.offA))).2

/-- A pair whose switching ends now (R271, R273): the outputs' levels at this instant and when each last turned off, an output that is
on turning off now. -/
def Pair.freeze (p : Pair) (now : Nat) : Pair :=
  let a := levelAt p.out false now p.levelA
  let b := levelAt p.out true now p.levelB
  { p with out := [], levelA := a, levelB := b, offA := if a then now else p.offTime false now,
           offB := if b then now else p.offTime true now }

/-- The pairs of tripped groups go to their trip pattern at once, on both sides (R271, R272). -/
def State.holdPairs (s : State) : State :=
  let s1 := (List.range (pairsOf s.variant)).foldl (fun st n =>
    if st.pairUsed n && st.pairTripped n then
      let h := fun (u : State) x =>
        let p := u.pair x n
        u.setPair x n { (if p.held then p else p.freeze (u.period * 64)) with held := true, sawUpdate := false }
      (h (h st .a) .b).pstat n Fld.EDGE_PSTAT_TRIPPED 1
    else st) s
  s1.setF Reg.EDGE_STAT Fld.EDGE_STAT_TRIPPED_ANY
    (flag ((List.range (pairsOf s.variant)).any fun n => s1.pairUsed n && s1.pairTripped n))

/-- QSET_STAT.GROUPS and ANY follow the latches. -/
def State.showLatches (s : State) : State :=
  (s.setF Reg.QSET_STAT Fld.QSET_STAT_GROUPS s.groupsOfLatches).setF Reg.QSET_STAT Fld.QSET_STAT_ANY (flag s.anyLatch)

/-- A SET block goes out on every used port (R304); none after GUARD_FAULT (R46). -/
def State.sendSet (s : State) : State :=
  if s.keep.guardFault then s
  else
    let g := s.fld Reg.QSET_STAT Fld.QSET_STAT_GROUPS
    { s.tripOut 1 g with qset := { s.qset with setAt := s.tm.mono, sent := some ⟨true, g⟩ } }

/-- The first latch after every latch was clear (R279): source, timestamp, count and QSET_TRIP; a lower-numbered source of
the same FCLK period takes its place. -/
def State.recordFirst (s : State) (was : Bool) (src : Nat) : State :=
  let arg := evArg src 0 (s.fld Reg.QSET_STAT Fld.QSET_STAT_GROUPS)
  if !was then
    let s1 := (s.setF Reg.QSET_STAT Fld.QSET_STAT_FIRST_SRC src).wr Reg.QSET_FIRST_TS_LO (s.tm.ts.extractLsb' 0 32)
    let s2 := (s1.wr Reg.QSET_FIRST_TS_HI (s.tm.ts.extractLsb' 32 32)).bump Reg.QSET_COUNT Fld.QSET_COUNT_TRIPS
    { s2 with qset := { s2.qset with firstPeriod := s2.period } }.postArg Ev.QSET_TRIP arg
  else if s.qset.firstPeriod = s.period ∧ src < s.fld Reg.QSET_STAT Fld.QSET_STAT_FIRST_SRC then
    let s1 := s.setF Reg.QSET_STAT Fld.QSET_STAT_FIRST_SRC src
    let last := (s1.ev.posted.filter fun e => e.code == Ev.QSET_TRIP).getLast?
    { s1 with ev := { s1.ev with posted := s1.ev.posted.map fun e => if some e = last then { e with arg := arg } else e } }
  else s

/-- A source that becomes active in the FCLK period in which its clear was accepted leaves its latch set (R277): no new trip is recorded, and
no CLEAR of this period names a group that stays tripped. -/
def State.qsetKeep (s : State) (src : Nat) : State :=
  let s1 := ({ s with qset := { s.qset with cleared := s.qset.cleared.filter fun c => c.1 != src } }.setBit
    (Reg.QSET_LATCH (src / 32)) (src % 32) true).showLatches
  let now := s1.fld Reg.QSET_STAT Fld.QSET_STAT_GROUPS
  let free := fun g : Nat => g - (g &&& now)
  let s2 := s1.tripTake free
  let mine := fun c : Nat × Nat × Count => c.2.1 == 2 && c.2.2.toNat / Config.fclk == s2.period
  let clears := s2.qset.clears.filterMap fun c => if !mine c then some c else if free c.1 = 0 then none else some (free c.1, c.2)
  let sent := s2.qset.sent.bind fun b => if b.isSet then some b else if free b.groups = 0 then none else some ⟨false, free b.groups⟩
  { s2 with qset := { s2.qset with clears := clears, sent := sent } }.holdPairs

/-- A source's latch sets, where the image maps the source (R268 to R271, R277, R279). -/
def State.qsetTrip (s : State) (src : Nat) : State :=
  if !s.srcEnabled src || s.latched src then s
  else if s.qset.cleared.contains (src, s.period) then s.qsetKeep src
  else
    let was := s.anyLatch
    let s0 := (s.pump.setBit (Reg.QSET_LATCH (src / 32)) (src % 32) true).showLatches
    let s1 := { s0 with qset := { s0.qset with latchAt := SMap.put (fun _ => (0, 0)) s0.qset.latchAt src (s0.tm.mono, s0.tm.ts) } }
    ((s1.recordFirst was src).sendSet.holdPairs).watchQset

/-- A source becomes active or inactive: QSET_ACTIVE and the time of R275; an active one sets its latch. -/
def State.qsetSource (s : State) (src : Nat) (active : Bool) : State :=
  let was := s.bit (Reg.QSET_ACTIVE (src / 32)) (src % 32)
  let s1 := s.setBit (Reg.QSET_ACTIVE (src / 32)) (src % 32) active
  if active then s1.qsetTrip src
  else if was then
    { s1 with qset := { s1.qset with idleAt := SMap.put (fun _ => 0) s1.qset.idleAt src s1.tm.mono } }
  else s1

/-- An instantaneous source (a trip symbol, a forced latch): it sets its latch and its inactivity starts now (R275). -/
def State.qsetPulse (s : State) (src : Nat) : State :=
  let s1 := s.qsetTrip src
  { s1 with qset := { s1.qset with idleAt := SMap.put (fun _ => 0) s1.qset.idleAt src s1.tm.mono } }

/-- A cooling condition of R452 holds on an outlet of a group: it keeps the group's force source from a clear. -/
def State.coolHolds (s : State) (g : Nat) : Bool :=
  s.cool.outlets.any fun e => (e.2.connTrip || e.2.cableTrip) && s.fld (Reg.OUTS_O_SET e.1) Fld.OUTS_O_SET_GROUP == g

/-- A source has been inactive for at least 2 µs (R275), and no condition of R452 holds it. -/
def State.qsetIdle (s : State) (src : Nat) : Bool :=
  !(decide (108 ≤ src) && decide (src < 116) && s.coolHolds (src - 108)) && !s.bit (Reg.QSET_ACTIVE (src / 32)) (src % 32)
  && decide (Config.usec 2 ≤ s.since (SMap.get (fun _ => 0) s.qset.idleAt src))

/-- One clear request (R275, R276): accepted, refused, or without effect on a latch that is not set. -/
def State.qsetClearOne (s : State) (src : Nat) : State :=
  if !s.latched src then s
  else if s.qsetIdle src then
    ({ s with qset := { s.qset with cleared := (src, s.period) :: s.qset.cleared.filter fun c => c.2 == s.period } }.setBit
      (Reg.QSET_LATCH (src / 32)) (src % 32) false).post Ev.QSET_CLEARED src
  else
    ((s.raise Reg.QSET_STAT Fld.QSET_STAT_CLR_REFUSED).setBit (Reg.QSET_REFUSED (src / 32)) (src % 32) true).post
      Ev.QSET_CLR_REFUSED src

/-- Groups that a clear has freed: CLEAR goes out at once and twice more (R279, R304). -/
def State.sendClear (s : State) (freed : Nat) : State :=
  if freed = 0 ∨ s.keep.guardFault then s
  else
    { s.tripOut 2 freed with qset := { s.qset with
        clears := s.qset.clears ++ [(freed, 2, s.tm.mono)], sent := some ⟨false, freed⟩ } }

/-- The clear requests of some sources of one register, in order, and their outcome for the groups. -/
def State.qsetClear (s : State) (srcs : List Nat) : State :=
  let before := s.fld Reg.QSET_STAT Fld.QSET_STAT_GROUPS
  let s1 := (srcs.foldl State.qsetClearOne s.pump).showLatches
  let now := s1.fld Reg.QSET_STAT Fld.QSET_STAT_GROUPS
  (s1.sendClear (before - (before &&& now))).holdPairs

/-- A clear of some sources requested by writing QSET_CLR_k for each k that they lie in (R380). -/
def State.qsetClearAll (s : State) (srcs : List Nat) : State :=
  ((List.range 4).foldl (fun (st : State) k => if srcs.any fun i => i / 32 == k then st.wr (Reg.QSET_REFUSED k) 0 else st) s).qsetClear srcs

/-- A write to QSET_CLR_k: QSET_REFUSED_k is replaced; each 1 requests a clear (R275 to R277). -/
def State.qsetClrWrite (s : State) (acc : Access) (k : Nat) (val : Word) : State :=
  s.command acc (Reg.QSET_CLR k) .op fun s1 =>
    (s1.wr (Reg.QSET_REFUSED k) 0).qsetClear
      (((List.range 32).filter fun j => val.getLsbD j && decide (32 * k + j < 117)).map fun j => 32 * k + j)

/-- QSET_CLR (R275). -/
def execQsetClr (dt : Nat) (acc : Access) (k : Nat) (val : Word) (s : State) : Out :=
  .next ((s.tick dt).qsetClrWrite acc (k % 4) val)

/-- A write to QSET_FORCE: bit g sets latch 108 + g (R268). -/
def State.qsetForceWrite (s : State) (acc : Access) (val : Word) : State :=
  s.command acc Reg.QSET_FORCE .op fun s1 =>
    (List.range 8).foldl (fun st g => if val.getLsbD g then st.qsetPulse (108 + g) else st) s1

/-- QSET_FORCE (R269). -/
def execQsetForce (dt : Nat) (acc : Access) (val : Word) (s : State) : Out := .next ((s.tick dt).qsetForceWrite acc val)

/-- The force latch of an outlet's or unit's group set by a control unit of the module. -/
def State.forceGroup (s : State) (g : Nat) : State := s.qsetPulse (108 + g)

/-- TRIP_PAD_ACTIVE (R268): TRIP_k stands at a level for some counts: at its active level for 10 ns or more it is active;
at the other level it is inactive. -/
def execTripPadActive (dt : Nat) (k : Nat) (level : Bool) (held : Nat) (s : State) : Out :=
  let s1 := s.tick dt
  let pad := k % 16
  let active := level == (s1.fld (Reg.QSET_MAP pad) Fld.QSET_MAP_POL == 1)
  if active then .next (if Config.nsec 10 ≤ held then s1.qsetSource pad true else s1)
  else .next (s1.qsetSource pad false)

/-- The window comparator of a fast sense channel (FAST_STAT.OUT): outside when above HI or below LO; inside again when
back by the hysteresis. -/
def windowOut (was : Bool) (lo hi hyst code : Int) : Bool :=
  if hi < code ∨ code < lo then true
  else if was then !(decide (code ≤ hi - hyst) && decide (lo + hyst ≤ code))
  else false

/-- The comparator of channel ch sees a code: FAST_STAT.OUT and Quickset source 16 + ch follow (R268, R767). -/
def State.comparator (s : State) (ch : Nat) (code : Int) : State :=
  let w := s.rd (Reg.FAST_WIN ch)
  let out := windowOut (s.bit Reg.FAST_STAT ch) (fgetS Fld.FAST_WIN_LO w) (fgetS Fld.FAST_WIN_HI w)
    (fget Fld.FAST_CFG_HYST (s.rd (Reg.FAST_CFG ch))) code
  (s.setBit Reg.FAST_STAT ch out).qsetSource (16 + ch) out

/-- WINDOW_COMPARATOR_TRIP (R268): the comparator of a used channel sees a code outside its window. -/
def execWindowComparatorTrip (dt : Nat) (ch : Nat) (code : Int) (s : State) : Out :=
  let s1 := s.tick dt
  if s1.fld (Reg.FAST_CFG (ch % 32)) Fld.FAST_CFG_USED = 0 then .next s1
  else .next (s1.comparator (ch % 32) code)

/-- TRIP_CLEAR_REPEAT (R304): a CLEAR whose next sending is 1 µs after the last goes out again, three times in all. -/
def execTripClearRepeat (dt : Nat) (s : State) : Out :=
  let s1 := s.tick dt
  match (if s1.keep.guardFault then none else s1.qset.clears.find? fun c => decide (Config.usec 1 ≤ s1.since c.2.2)) with
  | none => .next s1
  | some c =>
    let rest := s1.qset.clears.filter fun d => d != c
    let again := if 1 < c.2.1 then [(c.1, c.2.1 - 1, s1.tm.mono)] else []
    .next { s1.tripOut 2 c.1 with qset := { s1.qset with clears := rest ++ again, sent := some ⟨false, c.1⟩ } }

end Sys2Proof.Machine
end

