-- ==== Sys2Proof/Machine/Arith.lean ====
section
/-! DEFINITION. The arithmetic of the control engines: saturation, rounding, sine and square root over integers. -/

namespace Sys2Proof.Machine

open Sys2Proof

/-- An integer held to 32 signed bits (R204), and whether it was held. -/
def sat32 (v : Int) : Int × Bool :=
  if v < -2147483648 then (-2147483648, true) else if 2147483647 < v then (2147483647, true) else (v, false)

/-- The word of an integer. -/
def toWord (v : Int) : Word := BitVec.ofInt 32 v

/-- floor(v × 2^k) for a k of either sign. -/
def shiftInt (v : Int) (k : Int) : Int := if 0 ≤ k then v * 2 ^ k.toNat else v / 2 ^ (-k).toNat

/-- The value STORE extracts (R204): floor((acc + 2^(q−1)) / 2^q), acc for q = 0. -/
def extract (acc : Int) (q : Nat) : Int := if q = 0 then acc else (acc + 2 ^ (q - 1)) / 2 ^ q

/-- An accumulator's sum (R203): saturated at 72 bits, and whether it was. -/
def satAcc (v : Int) : Int × Bool :=
  if v < -(2 ^ 71) then (-(2 ^ 71), true) else if 2 ^ 71 - 1 < v then (2 ^ 71 - 1, true) else (v, false)

/-- floor(c × X / 2^s) (R202). -/
def macTerm (c : Int) (s : Nat) (x : Int) : Int := c * x / 2 ^ s

/-- n further terms of a sine or cosine series at x (scale 2^60): the next term t over (k + 1)(k + 2). -/
def trigSeries : Nat → Nat → Int → Int → Int
  | 0, _, _, _ => 0
  | n + 1, k, x, t => t + trigSeries n (k + 2) x (-(t * x / 2 ^ 60 * x / 2 ^ 60) / ((k + 1) * (k + 2)))

/-- sin and cos of r quarter-circle parts of 2^30, scale 2^60. -/
def quarter (r : Nat) : Int × Int :=
  let x : Int := (r : Int) * 1811004864519280711 / 2 ^ 30
  (trigSeries 14 1 x x, trigSeries 14 0 x (2 ^ 60))

/-- Sine and cosine of an angle word (full circle 2^32), scale 2^60. -/
def sinCos (a : Nat) : Int × Int :=
  let (s, c) := quarter (a % 2 ^ 30)
  if a / 2 ^ 30 % 4 = 0 then (s, c)
  else if a / 2 ^ 30 % 4 = 1 then (c, -s)
  else if a / 2 ^ 30 % 4 = 2 then (-s, -c)
  else (-c, s)

/-- A value of scale 2^60 as a Q1.30 word: the nearest one, moved by an error that the limit of 2^-28 on the whole allows (R216, R233). -/
def nearQ30 (v e : Int) : Int := max (-((2 ^ 32 - v) / 2 ^ 30)) (min ((v + 2 ^ 32) / 2 ^ 30) ((v + 2 ^ 29) / 2 ^ 30 + e))

/-- n steps of the square root's bits, from bit n − 1 down. -/
def sqrtBits : Nat → Nat → Nat → Nat
  | 0, _, r => r
  | n + 1, v, r =>
    let t := r + 2 ^ n
    sqrtBits n v (if t * t ≤ v then t else r)

/-- floor of the square root of a number below 2^64. -/
def isqrt (v : Nat) : Nat := sqrtBits 32 v 0

end Sys2Proof.Machine
end

