-- ==== Sys2Proof/Machine/Record.lean ====
section
/-! DEFINITION. The acquisition record: header, data and gap blocks of the streams, trailer (R596, R597, R605, R607 to R609). -/

namespace Sys2Proof.Machine

open Sys2Proof

/-- The bytes of a lane of a source (R593). -/
def laneWidth (src : Nat) : Nat :=
  let c := src / 0x10000000
  if c = 4 ∨ c = 5 ∨ c = 7 then 4 else 2

/-- An integer as little-endian bytes, two's complement. -/
def intBytes (n : Nat) (v : Int) : List Byte := leBytes n (bitsOf (8 * n) v)

/-- A stream as it is being formed: KIND, N, the open group's number and samples, and the open block's entries with the
first sample it covers. -/
structure Stream where
  kind : Nat
  n : Nat
  group : Nat
  part : List AcqItem
  head : Option AcqItem
  count : Nat
  data : List Byte
  deriving DecidableEq, Repr

/-- Floor of the mean rounded as R596 says. -/
def meanOf (xs : List Int) : Int := (xs.foldl (· + ·) 0 + xs.length / 2) / max 1 xs.length

/-- Floor of the root of the mean square (R596). -/
def rmsOf (xs : List Int) : Nat := isqrt ((xs.foldl (fun (t : Int) (x : Int) => t + x * x) 0 / max 1 xs.length).toNat)

/-- The least of a list. -/
def leastOf (xs : List Int) : Int := xs.foldl min (xs.headD 0)
/-- The greatest of a list. -/
def mostOf (xs : List Int) : Int := xs.foldl max (xs.headD 0)

/-- A lane's values of some samples. -/
def laneVals (is : List AcqItem) (l : Nat) : List Int := is.map fun i => i.vals.getD l 0

/-- An entry of a stream from the accepted samples of its N (R596, R597): every lane in lane order. -/
def entryBytes (kind : Nat) (widths : List Nat) (part : List AcqItem) : List Byte :=
  (List.range widths.length).flatMap fun l =>
    let w := widths.getD l 2
    let xs := laneVals part l
    if kind = 2 then intBytes w (leastOf xs) ++ intBytes w (mostOf xs)
    else if kind = 3 then intBytes w (meanOf xs)
    else if kind = 4 then leBytes w (rmsOf xs)
    else intBytes w (xs.headD 0)

/-- The open group ends: its entry joins the block. -/
def Stream.endGroup (st : Stream) (widths : List Nat) : Stream :=
  match st.part with
  | [] => st
  | i :: _ =>
    { st with part := [], head := some (st.head.getD i), count := st.count + 1, data := st.data ++ entryBytes st.kind widths st.part }

/-- A block header (R608). -/
def blockHead (tag k count index : Nat) (ts mono : Count) : List Byte :=
  leBytes 1 tag ++ leBytes 1 k ++ leBytes 2 count ++ leBytes 4 index ++ leBytes 8 ts.toNat ++ leBytes 8 mono.toNat

/-- The open block ends: its bytes, padded to a multiple of 8 (R608). -/
def Stream.endBlock (st : Stream) (k first : Nat) : List Byte × Stream :=
  match st.head with
  | none => ([], st)
  | some h =>
    (blockHead 0xB1 k st.count (h.idx - first) h.ts h.mono ++ st.data ++ List.replicate ((8 - st.data.length % 8) % 8) 0,
      { st with head := none, count := 0, data := [] })

/-- A gap reaches a stream (R605): entries whose samples are over end, the block ends, the gap block stands at the gap. The
first discarded sample lies one period after the last accepted one. -/
def Stream.gap (st : Stream) (k first : Nat) (widths : List Nat) (prev i : AcqItem) (period : Nat) : List Byte × Stream :=
  let st1 := if st.group = (i.idx - first) / st.n then st else st.endGroup widths
  let (bs, st2) := st1.endBlock k first
  let lost := i.idx - prev.idx - 1
  (bs ++ blockHead 0xB6 k (min lost 65535) (prev.idx + 1 - first) i.gapTs
    (i.mono - BitVec.ofNat 64 (period * lost)), st2)

/-- A sample reaches a stream (R596): it may end a group and fill a block. -/
def Stream.feed (st : Stream) (k first : Nat) (widths : List Nat) (i : AcqItem) : List Byte × Stream :=
  let g := (i.idx - first) / st.n
  let st1 := if st.group = g then st else st.endGroup widths
  let st2 := { st1 with group := g, part := st1.part ++ [i] }
  let st3 := if (i.idx - first) % st.n + 1 = st.n then st2.endGroup widths else st2
  if st3.count = 4096 then st3.endBlock k first else ([], st3)

/-- A step of every stream, in order, with the bytes they complete. -/
def eachStream (f : Nat → Stream → List Byte × Stream) (sts : List Stream) : List Byte × List Stream :=
  ((sts.zipIdx).map fun (st, k) => f k st).foldl (fun (a : List Byte × List Stream) r => (a.1 ++ r.1, a.2 ++ [r.2])) ([], [])

/-- The blocks of a record's samples, interleaved as they complete; the streams left open. -/
def blocksOf (period first : Nat) (widths : List Nat) (sts : List Stream) (is : List AcqItem) : List Byte × List Stream :=
  (is.foldl (fun (a : List Byte × List Stream × Option AcqItem) i =>
    let (g, s1) := match a.2.2 with
      | some p => if p.idx + 1 < i.idx then eachStream (fun k st => st.gap k first widths p i period) a.2.1 else ([], a.2.1)
      | none => ([], a.2.1)
    let (b, s2) := eachStream (fun k st => st.feed k first widths i) s1
    (a.1 ++ g ++ b, s2, some i)) ([], sts, none)) |> fun r => (r.1, r.2.1)

/-- The end of a record: every stream forms its last entry and block (R597, R608). -/
def blocksEnd (first : Nat) (widths : List Nat) (sts : List Stream) : List Byte :=
  (eachStream (fun k st => (st.endGroup widths).endBlock k first) sts).1

/-- Samples discarded between the accepted ones of a record (R605). -/
def lostIn : List AcqItem → Nat
  | a :: b :: r => (b.idx - a.idx - 1) + lostIn (b :: r)
  | _ => 0

/-- Crossings of a level by consecutive values (R609). -/
def crossings (m : Int) : List Int → Nat
  | a :: b :: r => (if (a < m) == (b < m) then 0 else 1) + crossings m (b :: r)
  | _ => 0

/-- The trailer's figures of a lane (R609). Of a record without a sample the spec states none: free words. -/
def laneFigures (free first : Nat) (is : List AcqItem) (l : Nat) : List Byte :=
  match is with
  | [] => (List.range 6).flatMap fun j => leBytes 4 (Config.freeWord (free + 8 * l + j)).toNat
  | _ =>
    let xs := laneVals is l
    let top := mostOf xs
    let at' := ((is.find? fun i => i.vals.getD l 0 == top).map fun i => i.idx - first).getD 0
    intBytes 4 (leastOf xs) ++ intBytes 4 top ++ intBytes 4 (meanOf xs) ++ leBytes 4 (rmsOf xs) ++ leBytes 4 (crossings (meanOf xs) xs)
      ++ leBytes 4 at'

/-- The streams of a preset before the first sample. -/
def presetStreams (par : Nat → Nat) (p : Nat) : List Stream :=
  (List.range (min 4 (par (Par.acqStreams p)))).map fun k =>
    let kind := par (Par.acqKind p k)
    ⟨kind, if kind = 0 then 1 else max 1 (par (Par.acqN p k)), 0, [], none, 0, []⟩

/-- The lane sources of a preset. -/
def presetLanes (par : Nat → Nat) (p : Nat) : List Nat := (List.range (min 8 (par (Par.acqLanes p)))).map fun l => par (Par.acqLane p l)

/-- What a record needs beside its samples: engine, side, number, FLAGS, trigger instant and unit, period in counts, preset,
BUS_TS, and the number of sample k. -/
structure RecHead where
  engine : Nat
  side : Nat
  no : Nat
  flags : Nat
  ts : Count
  unit : Nat
  period : Nat
  preset : Nat
  busTs : Count
  k : Nat
  deriving DecidableEq, Repr

/-- The header (R607): LENGTH as given. -/
def recordHeader (par : Nat → Nat) (h : RecHead) (free : Nat) (is : List AcqItem) (length : Nat) : List Byte :=
  let lanes := presetLanes par h.preset
  let sts := presetStreams par h.preset
  let w := fun k => (Config.freeWord (free + 64 + k)).toNat
  let (tsF, moF, q, ofs) := match is with
    | i :: _ => (i.ts.toNat, i.mono.toNat, i.timeQ, i.ofs.toNat)
    | [] => (w 0 + 0x100000000 * w 1, w 2 + 0x100000000 * w 3, w 4, w 5)
  [0x4C, 0x4E, 0x41, 0x51] ++ leBytes 2 1 ++ leBytes 1 h.engine ++ leBytes 1 (0x0A + h.side) ++ leBytes 4 h.no ++ leBytes 4 h.flags
    ++ leBytes 8 h.ts.toNat ++ leBytes 8 tsF ++ leBytes 8 moF ++ leBytes 4 (h.period / Config.fclk) ++ leBytes 1 lanes.length
    ++ leBytes 1 sts.length ++ leBytes 1 h.unit ++ leBytes 1 q ++ leBytes 4 (is.filter fun i => i.idx < h.k).length
    ++ leBytes 4 (is.filter fun i => h.k ≤ i.idx).length ++ leBytes 4 length ++ leBytes 4 ofs
    ++ (List.range 8).flatMap (fun l => leBytes 4 (lanes.getD l 0))
    ++ (List.range 4).flatMap (fun k => match sts[k]? with
      | some st => leBytes 1 st.kind ++ [0] ++ leBytes 2 st.n
      | none => [0, 0, 0, 0])
    ++ leBytes 8 h.busTs.toNat ++ leBytes 2 h.preset ++ [0, 0, 0, 0, 0, 0]

/-- The blocks of a record so far; with the end of the record, all of them: a run discarded up to the end, whose next sample would be
tail, has its gap blocks too (R605). -/
def recordBlocks (par : Nat → Nat) (h : RecHead) (is : List AcqItem) (tail : Option AcqItem) (ended : Bool) : List Byte :=
  let first := (is.head?.map (·.idx)).getD 0
  let widths := (presetLanes par h.preset).map laneWidth
  let (bs, sts) := blocksOf h.period first widths (presetStreams par h.preset) is
  let (g, sts1) := match is.getLast?, tail with
    | some p, some i => eachStream (fun k st => st.gap k first widths p i h.period) sts
    | _, _ => ([], sts)
  if ended then bs ++ g ++ blocksEnd first widths sts1 else bs

/-- The timestamp of sample j of a data block that starts at a sample index with a stamp (R610): on the line to the next data block of
the same stream, or at the record's period in counts where none follows. -/
def sampleStamp (index : Nat) (ts : Count) (following : Option (Nat × Count)) (period j : Nat) : Count :=
  match following with
  | some (index', ts') => ts + BitVec.ofNat 64 (j * (ts' - ts).toNat / (index' - index))
  | none => ts + BitVec.ofNat 64 (j * period)

/-- A closed record (R607 to R609). -/
def recordBytes (par : Nat → Nat) (h : RecHead) (free : Nat) (is : List AcqItem) (tail : Option AcqItem) : List Byte :=
  let lanes := (presetLanes par h.preset).length
  let first := (is.head?.map (·.idx)).getD 0
  let lost := lostIn (is ++ tail.toList)
  let h1 := { h with flags := if lost = 0 then h.flags else h.flags ||| 2 }
  let body := recordBlocks par h1 is tail true
  let length := 128 + body.length + 16 + 24 * lanes
  let all := recordHeader par h1 free is length ++ body ++ [0xBE] ++ leBytes 1 lanes ++ [0, 0] ++ leBytes 4 lost
    ++ (List.range lanes).flatMap (laneFigures free first is)
  all ++ leBytes 4 (crc32 all).toNat ++ [0, 0, 0, 0]

/-- The bytes of an open record that can be read (ACQ_RD_STAT.OPEN): the header and the blocks that are complete. FLAGS, POST and
LENGTH are not yet known: free words. -/
def openBytes (par : Nat → Nat) (h : RecHead) (free : Nat) (is : List AcqItem) : List Byte :=
  let hd := recordHeader par h free is 0
  let w := fun k => leBytes 4 (Config.freeWord (free + 80 + k)).toNat
  hd.take 12 ++ w 0 ++ (hd.drop 16).take 36 ++ w 1 ++ w 2 ++ hd.drop 60 ++ recordBlocks par h is none false

end Sys2Proof.Machine
end

