-- ==== Sys2Proof/Machine/Sram.lean ====
section
/-! DEFINITION. The words of a side's SRAM and DRAM: ports, arbitration, same-word accesses, the byte-lane rotate (R40 to R45, R669 to R676). -/

namespace Sys2Proof.Machine

open Sys2Proof

/-- Key of a side address (R669) in the store of bytes. -/
def memKey (x : Side) (addr : Nat) : Nat := 0x1000000000 + x.code * 0x100000000 + addr

/-- Bytes of a side's DRAM (R668). -/
def dramSize (v : Nat) : Nat := if v = 3 then 0x8000000 else 0x10000000

/-- The byte at a side address. -/
def State.memByte (s : State) (x : Side) (addr : Nat) : Byte := s.byte (memKey x addr)

/-- The SRAM ports of a side. -/
def State.ports (s : State) (x : Side) : SramPorts := SMap.get (fun _ => SramPorts.reset) s.mem.ports x.code

/-- The state with a side's SRAM ports set. -/
def State.setPorts (s : State) (x : Side) (p : SramPorts) : State :=
  { s with mem := { s.mem with ports := SMap.put (fun _ => SramPorts.reset) s.mem.ports x.code p } }

/-! ### Requests -/

/-- An SRAM bank has this address (R669). -/
def inSram (addr : Nat) : Bool := decide (addr < 48 * 0x80000)

/-- A request that a port takes (R671): port 0 whole aligned halves or words, port 1 any 1, 2, 4 or 8 bytes. -/
def MemReq.ok (r : MemReq) : Bool :=
  inSram r.addr && inSram (r.addr + r.size - 1)
  && (if r.port1 then r.size == 1 || r.size == 2 || r.size == 4 || r.size == 8 else (r.size == 4 || r.size == 8) && r.addr % r.size == 0)

/-- The access crosses a word boundary (R675). -/
def MemReq.crosses (r : MemReq) : Bool := decide (8 < r.addr % 8 + r.size)

/-- The bank of the word that an access meets in its first period, or in its second (R675). -/
def MemReq.bank (r : MemReq) (upper : Bool) : Nat := (r.addr / 8 + flag upper) / 0x10000

/-- The bytes of a datum that an access carries in its first period, or in its second: byte i lies in lane (L + i) mod 8 of the lower word
while L + i < 8, else of the next one (R674). -/
def MemReq.bytes (r : MemReq) (upper : Bool) : List Nat :=
  (List.range r.size).filter fun i => decide (8 ≤ r.addr % 8 + i) == upper

/-- Byte i of a datum. -/
def datumByte (d : BitVec 64) (i : Nat) : Byte := d.extractLsb' (8 * i) 8

/-- The number of a requester: port, class and number. -/
def MemReq.key (r : MemReq) : Nat := flag r.port1 * 0x10000 + r.cls * 0x1000 + r.who % 0x1000

/-- The bytes that a write leaves at their side addresses. -/
def MemReq.stores (r : MemReq) (upper : Bool) : List (Nat × Byte) :=
  match r.data with
  | some d => (r.bytes upper).map fun i => (r.addr + i, datumByte d i)
  | none => []

/-! ### Arbitration (R40 to R42) -/

/-- The key of a rotating pointer: bank, port and class. -/
def ptrKey (bank : Nat) (port1 : Bool) (cls : Nat) : Nat := bank * 8 + flag port1 * 4 + cls % 4

/-- The request that a port of a bank serves in this period: the highest class that waits, within it by the rotating pointer, with the key of
the pointer and whether the grant was contested (R40, R42). -/
def SramPorts.winner (p : SramPorts) (bank : Nat) (port1 : Bool) : Option (MemReq × Nat × Bool) :=
  let here := p.waits.filter fun r => r.port1 == port1 && r.bank false == bank
  [0, 1, 2, 3].findSome? fun c =>
    let same := here.filter fun r => r.cls == c
    match rotatePick (SMap.get (fun _ => 0) p.pointer (ptrKey bank port1 c)) (same.map (·.who)) with
    | some i => (same.find? fun r => r.who == i).map fun r => (r, ptrKey bank port1 c, same.any fun q => q.who != i)
    | none => none

/-- The requests that the ports serve in this period, beside the halves that port 1 already holds (R676): each leaves those that wait, and the
pointer moves past a contested winner. -/
def SramPorts.grants (p : SramPorts) : List MemReq × SramPorts :=
  let asked := p.waits.map fun r => (r.bank false, r.port1)
  asked.eraseDups.foldl (fun a e =>
    if e.2 && a.2.halves.any fun h => h.bank false == e.1 || h.bank true == e.1 then a
    else
      match a.2.winner e.1 e.2 with
      | some (r, k, contested) =>
        (a.1 ++ [r], { a.2 with
          waits := a.2.waits.erase r
          pointer := if contested then SMap.put (fun _ => 0) a.2.pointer k (r.who + 1) else a.2.pointer })
      | none => a) ([], p)

/-! ### One period (R43 to R45, R672 to R676) -/

/-- A page of SRAM, or of the control area of DRAM, that the bulk transfer numbers (R187). -/
def pageOf (addr : Nat) : Nat := if inSram addr then addr / 0x1000 else 0x1800 + (addr - 0x40000000) / 0x1000

/-- The control area of DRAM in MB. -/
def State.ctrlMb (s : State) : Nat := s.fld Reg.MEM_DRAM_MAP Fld.MEM_DRAM_MAP_CTRL_MB

/-- The side address lies where the bulk transfer goes (R187): in SRAM, or in the control area of DRAM. -/
def State.inBulk (s : State) (addr : Nat) : Bool :=
  inSram addr || decide (0x40000000 ≤ addr) && decide (addr < 0x40000000 + s.ctrlMb * 0x100000)

/-- Bytes stored at side addresses; a page that the bulk transfer to the other side has sent goes again (R187). -/
def State.memStore (s : State) (x : Side) (es : List (Nat × Byte)) : State :=
  es.foldl (fun st e =>
    let t := st.setByte (memKey x e.1) e.2
    let b := t.keep.bulk
    if t.isActive x && t.inBulk e.1 && decide ((pageOf e.1 + 1) * 0x1000 ≤ b.sent) && !b.again.contains (pageOf e.1) then
      { t with keep := { t.keep with bulk := { b with again := b.again ++ [pageOf e.1] } } }
    else t) s

/-- What a read returns: its bytes by the datum's order, the others 0; the second half of a crossing read joins the first (R674). -/
def State.memRead (s : State) (x : Side) (r : MemReq) (upper : Bool) (before : BitVec 64) : BitVec 64 :=
  (r.bytes upper).foldl (fun d i => d ||| (BitVec.setWidth 64 (s.memByte x (r.addr + i)) <<< (8 * i))) (if upper then before else 0)

/-- The datum a requester has read, with what it reads in this period. -/
def State.memGot (s : State) (x : Side) (m : SMap (BitVec 64)) (r : MemReq) (upper : Bool) : SMap (BitVec 64) :=
  if r.data.isSome then m else SMap.insert m r.key (s.memRead x r upper (SMap.get (fun _ => 0) m r.key))

/-- One FCLK period of a side's SRAM: every read returns the old data (R43, R44); bytes that collided in the period before land; then port
0 writes, then port 1, lane by lane, but a lane that both write takes the port-1 byte one period later, and MEM_COLL counts the period
(R45, R672, R673). -/
def State.sramPeriod (s : State) (x : Side) (new : List MemReq) : State :=
  let p := s.ports x
  let (served, p1) := { p with waits := p.waits ++ new.filter MemReq.ok }.grants
  let firsts := served.map fun r => (r, false)
  let all := firsts ++ p.halves.map fun r => (r, true)
  let got := all.foldl (fun m e => s.memGot x m e.1 e.2) p1.got
  let by0 := (all.filter fun e => !e.1.port1).flatMap fun e => e.1.stores e.2
  let by1 := (all.filter fun e => e.1.port1).flatMap fun e => e.1.stores e.2
  let meets := fun (e : Nat × Byte) => by0.any fun f => f.1 == e.1
  let s1 := s.memStore x (p.late ++ by0 ++ by1.filter fun e => !meets e)
  let s2 := s1.setPorts x { p1 with
    halves := served.filter fun r => r.port1 && r.crosses, late := by1.filter meets, got := got }
  if by1.any meets then s2.bump (sideReg x Reg.MEM_COLL) ⟨0, 32⟩ else s2

/-- Some periods that bring no request: what waits is served. -/
def State.sramIdle : Nat → State → Side → State
  | 0, s, _ => s
  | n + 1, s, x =>
    let p := s.ports x
    if p.waits.isEmpty && p.halves.isEmpty && p.late.isEmpty then s else State.sramIdle n (s.sramPeriod x []) x

/-- A DRAM access (R669): it meets no other port. -/
def State.dramAccess (s : State) (x : Side) (r : MemReq) : State :=
  if r.addr < 0x40000000 ∨ 0x40000000 + dramSize s.variant < r.addr + r.size ∨ 8 < r.size then s
  else
    let at' := fun i => r.addr + i
    match r.data with
    | some d => s.memStore x ((List.range r.size).map fun i => (at' i, datumByte d i))
    | none =>
      let p := s.ports x
      let d := (List.range r.size).foldl (fun (d : BitVec 64) i => d ||| (BitVec.setWidth 64 (s.memByte x (at' i)) <<< (8 * i))) 0
      s.setPorts x { p with got := SMap.insert p.got r.key d }

/-- The place of a requester in the DRAM controller's order (R42): acquisition writes before the Keeper's bulk transfer before the application
cores. DESIGN CHOICE (log entry 79): R42 names no other claimant of it; a protocol engine's request takes the last place. -/
def MemReq.dramClass (r : MemReq) : Nat := if !r.port1 then 3 else if r.cls = 1 then 0 else if r.cls = 0 then 1 else 2

/-- The DRAM requests that one FCLK period brings in the order of their service (R40, R42), n of them at most: the highest class first, within
it by the rotating pointer, which moves past a contested winner. -/
def SramPorts.dramOrder (p : SramPorts) : Nat → List MemReq → List MemReq × SramPorts
  | 0, _ => ([], p)
  | n + 1, rs =>
    let pick := [0, 1, 2, 3].findSome? fun c =>
      let same := rs.filter fun r => r.dramClass == c
      match rotatePick (SMap.get (fun _ => 0) p.pointer (ptrKey 48 true c)) (same.map (·.who)) with
      | some i => (same.find? fun r => r.who == i).map fun r => (r, ptrKey 48 true c, same.any fun q => q.who != i)
      | none => none
    match pick with
    | some (r, k, contested) =>
      let p1 := if contested then { p with pointer := SMap.put (fun _ => 0) p.pointer k (r.who + 1) } else p
      let (l, p2) := p1.dramOrder n (rs.erase r)
      (r :: l, p2)
    | none => ([], p)

/-- The requests of an FCLK period in turn. -/
def State.memTurn (s : State) (t : MemTurn) : State :=
  let s1 := (State.sramIdle t.idle s t.side).sramPeriod t.side t.reqs
  let dram := t.reqs.filter fun r => !inSram r.addr
  let (order, p) := (s1.ports t.side).dramOrder dram.length dram
  order.foldl (fun st r => st.dramAccess t.side r) (s1.setPorts t.side p)

/-- The requests of a base cycle, and what they leave waiting served before its end. -/
def State.memTurns (s : State) (ts : List MemTurn) : State :=
  let s1 := ts.foldl State.memTurn s
  let n := s1.tc / Config.fclk
  State.sramIdle n (State.sramIdle n s1 .a) .b

/-! ### Transfers and losses -/

/-- The bytes of a side's memory are those of the other side, as a bulk transfer brings them: every SRAM bank and the control areas of DRAM,
of some MB (R187). -/
def State.memCopy (s : State) (y x : Side) (ctrlMb : Nat) : State :=
  let carried := fun (k : Nat) (z : Side) =>
    decide (memKey z 0 ≤ k) && decide (k < memKey z 0x40000000 + ctrlMb * 0x100000)
  let rest := { s with bytes := s.bytes.filter fun e => !carried e.1 x }
  (s.bytes.filter fun e => carried e.1 y).foldl (fun st e => st.setByte (memKey x (e.1 - memKey y 0)) e.2) rest

/-- A side's DRAM content does not survive its reset (R680), nor does what its ports hold. -/
def State.memLost (s : State) (x : Side) : State :=
  (s.eraseBytes (memKey x 0x40000000) 0x10000000).setPorts x SramPorts.reset

end Sys2Proof.Machine
end

