-- ==== Sys2Proof/Machine/Acq.lean ====
section
/-! DEFINITION. The acquisition engines: commands, samples, trigger units, records and the record window (R588 to R612). -/

namespace Sys2Proof.Machine

open Sys2Proof

/-! ### Engines by side -/

/-- The key of engine n on a side. -/
def engKey (x : Side) (n : Nat) : Nat := x.code * 16 + n % 16

/-- Engine n of a side. -/
def State.eng (s : State) (x : Side) (n : Nat) : AcqEng := SMap.get (fun _ => AcqEng.reset) s.acq.engs (engKey x n)

/-- The state with an engine set. -/
def State.setEng (s : State) (x : Side) (n : Nat) (e : AcqEng) : State :=
  { s with acq := { s.acq with engs := SMap.put (fun _ => AcqEng.reset) s.acq.engs (engKey x n) e } }

/-- The side whose engines post: the serving side where its engines run, else the other (R22). -/
def State.engPoster (s : State) (x : Side) : Bool := x == s.serving || !s.engSide s.serving

/-- A setting as the engine latched it, by its offset in the engine's registers (R601). -/
def AcqEng.setting (e : AcqEng) (ofs : Nat) : Word := SMap.get (fun _ => 0) e.cfg ofs

/-- The preset in use. -/
def AcqEng.preset (e : AcqEng) : Nat := fget Fld.ACQ_E_CFG_PRESET (e.setting 0x08)

/-- MODE: 0 SINGLE, 1 REPEAT, 2 STREAM. -/
def AcqEng.mode (e : AcqEng) : Nat := fget Fld.ACQ_E_CFG_MODE (e.setting 0x08)

/-- PRE samples. -/
def AcqEng.pre (e : AcqEng) : Nat := (e.setting 0x10).toNat % 0x1000000

/-- POST samples. -/
def AcqEng.post (e : AcqEng) : Nat := max 1 (e.setting 0x14).toNat

/-- CYCLE of R594. -/
def AcqEng.cycle (e : AcqEng) : Bool := fget Fld.ACQ_E_RATE_CYCLE (e.setting 0x0C) == 1

/-- The sample period in counts (R594). -/
def State.samplePeriod (s : State) (e : AcqEng) : Nat :=
  if e.cycle then s.tc else Config.nsec (200 * max 1 (fget Fld.ACQ_E_RATE_DIV (e.setting 0x0C)))

/-- The settings an engine latches on entry to ARMED or STREAMING. -/
def State.latchSettings (s : State) (n : Nat) : SMap Word :=
  [0x08, 0x0C, 0x10, 0x14, 0x20, 0x24, 0x28, 0x48, 0x4C, 0x58, 0x5C, 0x68, 0x6C, 0x78, 0x7C].map fun o => (o, s.rd (0xF1000 + 0x100 * n + o))

/-- Bytes of an engine's partition. -/
def State.partBytes (s : State) (n : Nat) : Nat := s.fld (Reg.ACQ_E_PART n) Fld.ACQ_E_PART_SIZE_MB * 0x100000

/-- Bytes held by an engine's closed records. -/
def AcqEng.used (e : AcqEng) : Nat := e.recs.foldl (fun t r => t + r.2.length) 0

/-- What heads an engine's open record. -/
def State.recHead (s : State) (x : Side) (n : Nat) (r : AcqRec) : RecHead :=
  let e := s.eng x n
  ⟨n, x.code, e.nextNo, r.flags, r.ts, r.unit, s.samplePeriod e, e.preset, r.busTs, r.k⟩

/-! ### Records end and go -/

/-- A record that a path has selected goes: GONE, and the window reads 0 (R604). -/
def State.recordGone (s : State) (x : Side) (n no : Nat) : State :=
  [Path.host, .mgmt, .service].foldl (fun st p =>
    let sel := st.prd p Reg.ACQ_RD_SEL
    if st.viewed p = x ∧ fget Fld.ACQ_RD_SEL_ENGINE sel = n ∧ fget Fld.ACQ_RD_SEL_RECORD sel = no
        ∧ fget Fld.ACQ_RD_STAT_READY (st.prd p Reg.ACQ_RD_STAT) = 1 then
      (st.pwr p Reg.ACQ_RD_STAT 0x40000000).eraseBytes (acqWinKey p 0) 0x10000000
    else st) s

/-- Oldest records leave the partition until n bytes fit (R602). -/
def dropOldest (cap need : Nat) : List (Nat × List Byte) → List (Nat × List Byte) × List Nat
  | [] => ([], [])
  | r :: rest =>
    if need + (r :: rest).foldl (fun t q => t + q.2.length) 0 ≤ cap then (r :: rest, [])
    else
      let (k, g) := dropOldest cap need rest
      (k, r.1 :: g)

/-- WRAP makes room for an open record of some bytes (R602). -/
def State.makeRoom (s : State) (x : Side) (n need : Nat) : State :=
  let e := s.eng x n
  let (kept, gone) := dropOldest (s.partBytes n) need e.recs
  if gone.isEmpty then s else gone.foldl (fun st no => st.recordGone x n no) (s.setEng x n { e with recs := kept })

/-- ACQ_RECORD for the records closed since the last, at most once per 10 ms (R603). -/
def State.postRecord (s : State) (x : Side) (n : Nat) : State :=
  let e := s.eng x n
  let may := match e.postAt with
    | some t => decide (Config.msec 10 ≤ s.since t)
    | none => true
  if e.closed = 0 || !may then s
  else
    let s1 := s.setEng x n { e with closed := 0, postAt := some s.tm.mono }
    if s.engPoster x then s1.post Ev.ACQ_RECORD n 0 e.closed else s1

/-- The open record closes with further FLAGS and the run discarded up to its end (R601, R604). -/
def State.closeRecord (s : State) (x : Side) (n flags : Nat) (tail : Option AcqItem := none) : State :=
  let e := s.eng x n
  match e.openRec with
  | none => s
  | some r =>
    let bytes := recordBytes s.parN (s.recHead x n { r with flags := r.flags ||| flags }) s.free r.items tail
    let s1 := s.setEng x n { e with
      openRec := none, recs := e.recs ++ [(e.nextNo, bytes)], lastNo := e.nextNo, nextNo := (e.nextNo + 1) % 0x1000000, closed := e.closed + 1 }
    ({ s1 with free := s1.free + 96 }).postRecord x n

/-- Entry to ARMED or STREAMING (R601): settings latched, units and sequence started anew; the buffer starts anew where the
preset or the rate changed, or the engine was IDLE. -/
def State.armEngine (s : State) (x : Side) (n : Nat) (fresh : Bool) : State :=
  let e := s.eng x n
  let cfg := s.latchSettings n
  let e1 : AcqEng := { e with cfg := cfg }
  let anew := fresh || e1.preset != e.preset || e1.setting 0x0C != e.setting 0x0C
  s.setEng x n { e1 with
    state := if fresh then (if e1.mode = 2 then 4 else 1) else if e.state = 4 then 4 else 1
    next := if anew then 0 else e.next
    last := if anew then none else e.last
    buf := if anew then [] else e.buf
    units := [], fires := [], seqPos := 0, seqAt := 0, timeDone := false, armTs := s.tm.ts }

/-- The open record has met its end: HOLDOFF, IDLE, or the next record of a stream (R601). -/
def State.finishRecord (s : State) (x : Side) (n flags : Nat) : State :=
  let s1 := s.closeRecord x n flags
  let e := s1.eng x n
  if e.state = 4 then s1.armEngine x n false
  else if e.mode = 1 then s1.setEng x n { e with state := 3, heldAt := s1.tm.mono, fires := [] }
  else s1.setEng x n { e with state := 0, buf := [], fires := [] }

/-! ### Samples reach the store (R595, R601, R602) -/

/-- A sample of the record from k on, or before it: stored while it fits; else the partition's policy acts (R601, R602). -/
def State.storeSample (s : State) (x : Side) (n : Nat) (r : AcqRec) (i : AcqItem) : State :=
  let e := s.eng x n
  let grown := { r with items := r.items ++ [i] }
  let size := (recordBytes s.parN (s.recHead x n grown) 0 grown.items none).length
  let cap := s.partBytes n
  if fget Fld.ACQ_E_CFG_FULL_POLICY (e.setting 0x08) = 1 then
    if cap < e.used + size then
      let s1 := (s.closeRecord x n 16)
      let s2 := s1.setEng x n { s1.eng x n with state := 5, buf := [], fires := [] }
      if s.engPoster x then s2.post Ev.ACQ_FULL n else s2
    else s.setEng x n { e with openRec := some grown }
  else if cap < size then s.finishRecord x n 16
  else
    let s1 := s.makeRoom x n size
    s1.setEng x n { s1.eng x n with openRec := some grown }

/-- The open record has its POST samples. -/
def State.checkPost (s : State) (x : Side) (n : Nat) : State :=
  let e := s.eng x n
  match e.openRec with
  | some r => if r.begun ∧ e.post ≤ (r.items.filter fun i => decide (r.k ≤ i.idx)).length then s.finishRecord x n 0 else s
  | none => s

/-- The first sample from k on (R601, R604): the samples before k are trimmed to PRE; fewer are SHORT_PRE; a discarded k is
TRIG_IN_GAP. -/
def AcqEng.beginPost (e : AcqEng) (r : AcqRec) (i : AcqItem) : AcqRec :=
  let pre := r.items.drop (r.items.length - e.pre)
  let f := (if pre.length < e.pre then 1 else 0) + (if r.k < i.idx then 4 else 0)
  { r with begun := true, items := pre, flags := r.flags ||| f }

/-- A sample taken from the engine's queue: into the buffer, and into the open record (R592, R601). -/
def State.takeSample (s : State) (x : Side) (n : Nat) (i : AcqItem) : State :=
  let e := s.eng x n
  let hold := e.pre + Config.usec 4 / max 1 (s.samplePeriod e) + 1
  let buf := (e.buf ++ [i]).drop (e.buf.length + 1 - hold)
  let s1 := s.setEng x n { e with buf := buf }
  match e.openRec with
  | some r =>
    if r.begun then (s1.storeSample x n r i).checkPost x n
    else if i.idx < r.k then s1.setEng x n { s1.eng x n with openRec := some { r with items := r.items ++ [i] } }
    else
      let r1 := e.beginPost r i
      ((s1.setEng x n { s1.eng x n with openRec := some r1 }).storeSample x n r1 i).checkPost x n
  | none =>
    if e.state = 4 then
      let r : AcqRec := ⟨i.idx, true, [], 0x80 + (if e.cycle then 0x100 else 0), 0, 0xFF, 0⟩
      ((s1.setEng x n { s1.eng x n with openRec := some r }).storeSample x n r i).checkPost x n
    else s1

/-- The engine fires (R600, R601): in ARMED a record opens; in CAPTURING and HOLDOFF the firing is counted as ignored. -/
def State.fireEngine (s : State) (x : Side) (n unit : Nat) (ts busTs : Count) (k : Nat) : State :=
  let e := s.eng x n
  if e.state = 1 then
    let r : AcqRec := ⟨k, false, e.buf.filter (fun i => decide (i.idx < k)), if e.cycle then 0x100 else 0, ts, unit, busTs⟩
    let s1 := (s.setEng x n { e with state := 2, openRec := some r, fires := [], seqPos := 0 }).bump
      (sideReg x (Reg.ACQ_E_CNT n)) Fld.ACQ_E_CNT_TRIGGERS
    let late := e.buf.filter fun i => decide (k ≤ i.idx)
    late.foldl (fun st i =>
      let e1 := st.eng x n
      match e1.openRec with
      | some r1 =>
        let r2 := if r1.begun then r1 else e1.beginPost r1 i
        ((st.setEng x n { e1 with openRec := some r2 }).storeSample x n r2 i).checkPost x n
      | none => st) s1
  else if e.state = 2 ∨ e.state = 3 then s.bump (sideReg x (Reg.ACQ_E_CNT n)) Fld.ACQ_E_CNT_IGNORED
  else s

/-! ### Trigger units (R598 to R600) -/

/-- KIND, SEL, OP and ARG of unit u of an engine's preset. -/
def State.unitWord (s : State) (e : AcqEng) (u : Nat) : Word := BitVec.ofNat 32 (s.parN (Par.acqTu e.preset u))

/-- The unit is enabled and used. -/
def State.unitOn (s : State) (e : AcqEng) (u : Nat) : Bool :=
  (fget Fld.ACQ_E_CFG_UNITS (e.setting 0x08)).testBit u && fget Fld.ACQ_E_TU_KIND (s.unitWord e u) != 0

/-- The enabled units in ascending order. -/
def State.unitsOn (s : State) (e : AcqEng) : List Nat := (List.range 4).filter (s.unitOn e)

/-- The instant at which the line between two samples passes a level (R598), as a timestamp and on the monotonic count, by which the time
between the samples is known (R52). -/
def crossInstant (p i : AcqItem) (a b level : Int) : Count × Count :=
  let d := BitVec.ofInt 64 (if b = a then 0 else (level - a) * (i.mono - p.mono).toInt / (b - a))
  (p.ts + d, p.mono + d)

/-- A lane unit judged on a sample after the last one: the instant it fires at, and what it remembers (R598). -/
def State.laneFire (s : State) (e : AcqEng) (u : Nat) (i : AcqItem) : Option (Count × Count) × AcqUnit :=
  let w := s.unitWord e u
  let m := SMap.get (fun _ => ⟨false, false⟩) e.units u
  let lane := fget Fld.ACQ_E_TU_SEL w
  let op := fget Fld.ACQ_E_TU_OP w
  let lev := (e.setting (0x48 + 0x10 * u)).toInt
  let aux := (e.setting (0x4C + 0x10 * u)).toInt
  let b := i.vals.getD lane 0
  match e.last with
  | none => (none, ⟨decide (b < lev - aux), decide (lev + aux < b)⟩)
  | some p =>
    let a := p.vals.getD lane 0
    let kind := fget Fld.ACQ_E_TU_KIND w
    let mask := (e.setting (0x4C + 0x10 * u)).toNat
    let inWin := fun v : Int => decide (lev ≤ v) && decide (v ≤ aux)
    let hits := fun v : Int => (bitsOf 32 v) &&& mask == (e.setting (0x48 + 0x10 * u)).toNat &&& mask
    if kind = 1 then
      let rise := m.low && decide (a < lev) && decide (lev ≤ b) && op != 1
      let fall := m.high && decide (lev < a) && decide (b ≤ lev) && op != 0
      let fired := rise || fall
      (if fired then some (crossInstant p i a b lev) else none,
        ⟨(m.low && !fired) || decide (b < lev - aux), (m.high && !fired) || decide (lev + aux < b)⟩)
    else if kind = 2 then
      (if (if op = 0 then !inWin a && inWin b else inWin a && !inWin b) then some (i.ts, i.mono) else none, m)
    else if kind = 3 then
      (if (if op = 0 then !hits a && hits b else hits a && !hits b) then some (i.ts, i.mono) else none, m)
    else (none, m)

/-- A QSET unit: a latch of a group in ARG that set since the last sample (R598). -/
def State.latchFire (s : State) (e : AcqEng) (u : Nat) : Option (Count × Count) :=
  let groups := fget Fld.ACQ_E_TU_ARG (s.unitWord e u) % 256
  let from' := (e.last.map (·.mono)).getD s.tm.mono
  (s.qset.latchAt.filter fun l => s.srcGroups l.1 &&& groups != 0 && decide (from'.toNat < l.2.1.toNat)).foldl
    (fun (o : Option (Count × Count)) l => match o with
      | some t => some (if l.2.1.toNat < t.2.toNat then (l.2.2, l.2.1) else t)
      | none => some (l.2.2, l.2.1)) none

/-- An EXTERNAL unit: the edge OP of the pad in ARG, among those reported since the last sample (R598). -/
def State.edgeFire (s : State) (e : AcqEng) (u : Nat) (edges : List (Nat × Bool × Count)) : Option (Count × Count) :=
  let w := s.unitWord e u
  (edges.find? fun g => g.1 == fget Fld.ACQ_E_TU_ARG w % 64 && g.2.1 == (fget Fld.ACQ_E_TU_OP w == 0)).map fun g => (g.2.2, s.monoOf g.2.2)

/-- An ENGINE unit's or another's waiting firing. -/
def AcqEng.waiting (e : AcqEng) (u : Nat) : Option AcqFire := e.fires.find? fun f => f.unit == u

/-- The firings of a sample's enabled units, by unit: instant and BUS_TS; and what the units remember (R599). -/
def State.unitFires (s : State) (e : AcqEng) (i : AcqItem) (edges : List (Nat × Bool × Count)) :
    List AcqFire × SMap AcqUnit :=
  (s.unitsOn e).foldl (fun (a : List AcqFire × SMap AcqUnit) u =>
    let kind := fget Fld.ACQ_E_TU_KIND (s.unitWord e u)
    let (f, m) := s.laneFire e u i
    let at' := fun (o : Option (Count × Count)) => o.map fun t => (⟨u, t.1, t.2, 0⟩ : AcqFire)
    let hit := if kind ≤ 3 then at' f else if kind = 5 then at' (s.latchFire e u) else if kind = 6 then at' (s.edgeFire e u edges)
      else e.waiting u
    (match hit with
      | some h => a.1 ++ [h]
      | none => a.1, SMap.put (fun _ => ⟨false, false⟩) a.2 u m)) ([], [])

/-- The interval of unit u after the one before, in counts; 0 for none (R600). -/
def AcqEng.interval (e : AcqEng) (u : Nat) : Nat := (e.setting 0x28).toNat / 2 ^ (8 * u) % 256 * Config.usec 100

/-- The unit that the sequence waits for. -/
def seqUnit (us : List Nat) (pos : Nat) : Nat := us.getD pos 0

/-- A firing, by its instant on the monotonic count (R52), takes the sequence on, or restarts it (R600). -/
def AcqEng.seqStep (e : AcqEng) (us : List Nat) (f : AcqFire) : AcqEng × Option AcqFire :=
  let expired := decide (0 < e.seqPos) && decide (0 < e.interval (seqUnit us e.seqPos))
    && decide (e.interval (seqUnit us e.seqPos) < (f.mono - e.seqAt).toNat)
  let pos := if expired then 0 else e.seqPos
  if f.unit = seqUnit us pos then
    if pos + 1 = us.length then ({ e with seqPos := 0, seqAt := 0 }, some f)
    else ({ e with seqPos := pos + 1, seqAt := f.mono }, none)
  else ({ e with seqPos := pos, seqAt := if pos = 0 then 0 else e.seqAt }, none)

/-- The engine's firing from its units' firings at one sample (R600): with ANY the lowest unit, with SEQ the end of the
sequence. -/
def State.combine (s : State) (e : AcqEng) (fs : List AcqFire) : AcqEng × Option AcqFire :=
  if fget Fld.ACQ_E_CFG_COMBINE (e.setting 0x08) = 0 then (e, fs.head?)
  else
    (fs.mergeSort fun a b => decide (a.mono.toNat ≤ b.mono.toNat)).foldl (fun (a : AcqEng × Option AcqFire) f =>
      match a.2 with
      | some _ => a
      | none => a.1.seqStep (s.unitsOn e) f) (e, none)

/-- A firing that another part of the module sees: it waits for the engine's next sample (R598, R599). -/
def State.addFire (s : State) (x : Side) (n : Nat) (f : AcqFire) : State :=
  let e := s.eng x n
  if 1 ≤ e.state ∧ e.state ≤ 3 ∧ (e.waiting f.unit).isNone then s.setEng x n { e with fires := e.fires ++ [f] } else s

/-- Units of KIND ENGINE that name engine n see its trigger instant (R598). -/
def State.chainFire (s : State) (x : Side) (n : Nat) (ts mono : Count) : State :=
  (List.range (enginesOf s.variant)).foldl (fun st m =>
    let e := st.eng x m
    (List.range 4).foldl (fun st u =>
      let w := st.unitWord e u
      if st.unitOn e u && fget Fld.ACQ_E_TU_KIND w == 8 && fget Fld.ACQ_E_TU_SEL w == n then st.addFire x m ⟨u, ts, mono, 0⟩ else st) st) s

/-- The engine fires at a trigger instant: k is the first sample at or after it (R598). -/
def State.fireAt (s : State) (x : Side) (n unit : Nat) (ts busTs : Count) : State :=
  let e := s.eng x n
  let k := match e.last with
    | some p => if (s.monoOf ts).toNat ≤ p.mono.toNat then p.idx else e.next
    | none => e.next
  (s.fireEngine x n unit ts busTs k).chainFire x n ts (s.monoOf ts)

/-- A valid CAN frame, received or sent (R598): the BUS_FIELD units of every engine judge its field. The value of each
(controller, identifier) is kept as its previous data. -/
def State.acqBusFrame (s : State) (ctrl : Nat) (ide : Bool) (id : Nat) (data old : List Byte) (hadOld : Bool) (sof : Count) : State :=
  s.engSides.foldl (fun st x =>
    (List.range (enginesOf s.variant)).foldl (fun st n =>
      let e := st.eng x n
      (st.unitsOn e).foldl (fun st u =>
        let w := st.unitWord e u
        let tid := BitVec.ofNat 32 (st.parN (Par.acqTid e.preset u))
        let arg := fget Fld.ACQ_E_TU_ARG w
        let v := fun (d : List Byte) => leNat d / 2 ^ (arg / 2048) % 2 ^ (arg / 64 % 32 + 1)
        let lev := (e.setting (0x48 + 0x10 * u)).toNat
        let op := fget Fld.ACQ_E_TU_OP w
        let hit := if op = 0 then v data == lev else if op = 1 then v data != lev else if op = 2 then decide (lev < v data)
          else if op = 3 then decide (v data < lev) else hadOld && v data != v old
        if fget Fld.ACQ_E_TU_KIND w = 4 ∧ fget Fld.ACQ_E_TU_SEL w = ctrl ∧ (fget Fld.ACQ_E_TID_IDE tid == 1) = ide
            ∧ fget Fld.ACQ_E_TID_ID tid = id ∧ hit = true then st.addFire x n ⟨u, st.tm.ts, st.tm.mono, sof⟩
        else st) st) st) s

/-! ### The sample (R593, R594) -/

/-- The value a lane reads now (R593); the levels of a digital or switch-node group come with the command. -/
def State.laneNow (s : State) (x : Side) (src given : Nat) : Int :=
  let i := src / 0x10000 % 0x1000
  let sub := src % 0x10000
  match src / 0x10000000 with
  | 1 => s.fldS (Reg.FAST_VAL (i % 32)) Fld.FAST_VAL_SAMPLE
  | 2 =>
    if i = 6 then ((s.fld Reg.QSET_STAT Fld.QSET_STAT_GROUPS + (given / 256 % 4) * 256 : Nat) : Int) else ((given % 65536 : Nat) : Int)
  | 3 => ((given % 65536 : Nat) : Int)
  | 4 => (s.rd (sideReg x (Reg.LOOP_WATCH (i % 64) (sub % 8)))).toInt
  | 5 => (((SMap.get (fun _ => []) s.ring.words i)[sub % 16]?).getD 0).toInt
  | 6 => s.fldS (Reg.THERM_VAL (i % 32)) Fld.THERM_VAL_TEMP
  | _ => (s.rd (Reg.METR_CH_RMS (i % 48))).toInt

/-- TIME_Q of R607. -/
def State.timeQ (s : State) : Nat :=
  s.fld Reg.TIME_STAT Fld.TIME_STAT_SRC % 8 + 16 * s.fld Reg.TIME_STAT Fld.TIME_STAT_LOCK + 32 * s.fld Reg.TIME_STAT Fld.TIME_STAT_VALID

/-- A sample entry of queue 109 + n as the engine takes it. -/
def itemOf (q : QEntry) : AcqItem :=
  ⟨q.val.toNat, q.ts, q.arrived, (q.more.drop 2).map (·.toInt), (q.more.getD 0 0).toNat, q.more.getD 1 0, q.gapTs⟩

/-- The engine takes up to k samples from its queue. -/
def State.drainQueue : Nat → Side → Nat → State → State
  | 0, _, _, s => s
  | k + 1, x, n, s =>
    match s.queueTake x (109 + n) with
    | (some q, s1) => State.drainQueue k x n (if (s1.eng x n).state = 0 ∨ (s1.eng x n).state = 5 then s1 else s1.takeSample x n (itemOf q))
    | (none, s1) => s1

/-- A sample instant of the engine has come (R594). -/
def State.sampleDue (s : State) (e : AcqEng) : Bool :=
  decide (1 ≤ e.state) && decide (e.state ≤ 4) && (!e.cycle || s.atCycleStart)
  && match e.last with
    | some p => if e.cycle then decide (Config.fclk ≤ s.since p.mono) else decide (s.samplePeriod e ≤ s.since p.mono)
    | none => true

/-- The rate of an engine's record data in bytes a second (R606): the entries of its preset's streams. -/
def State.engRate (s : State) (e : AcqEng) : Nat :=
  let width := ((presetLanes s.parN e.preset).map laneWidth).foldl (· + ·) 0
  (presetStreams s.parN e.preset).foldl (fun t st =>
    t + (if st.kind = 2 then 2 else 1) * width * Config.sec 1 / (st.n * max 1 (s.samplePeriod e))) 0

/-- The running engines of a side together keep within the rate at which no engine discards a sample (R606, R612). -/
def State.rateKept (s : State) (x : Side) : Bool :=
  decide (((List.range (enginesOf s.variant)).filter fun n => decide (1 ≤ (s.eng x n).state ∧ (s.eng x n).state ≤ 4)).foldl
    (fun t n => t + s.engRate (s.eng x n)) 0 ≤ 1200000000)

/-- One sample instant on a side (R594, R595, R599): the units judge it, it is offered to the queue, and the engine takes samples: all
while the engines keep within their rate (R606), else as many as given. -/
def State.sampleSide (s : State) (x : Side) (n : Nat) (digital : List Nat) (edges : List (Nat × Bool × Count)) (taken : Nat) : State :=
  let e := s.eng x n
  let taken := if s.rateKept x then 256 else taken
  if !s.engSide x || !s.sampleDue e then s.drainQueue taken x n
  else
    let lanes := presetLanes s.parN e.preset
    let vals := lanes.zipIdx.map fun (src, l) => s.laneNow x src (digital.getD l 0)
    let i : AcqItem := ⟨e.next, s.tm.ts, s.tm.mono, vals, s.timeQ, s.rd Reg.TIME_OFFSET, 0⟩
    let (fs, us) := s.unitFires e i edges
    let (e1, fired) := s.combine e fs
    let s1 := s.setEng x n { e1 with units := us, fires := [] }
    let s2 := match fired with
      | some f =>
        let k := match e.last with
          | some p => if f.mono.toNat ≤ p.mono.toNat then p.idx else i.idx
          | none => i.idx
        if e.state = 4 then s1 else (s1.fireEngine x n f.unit f.ts f.busTs k).chainFire x n f.ts f.mono
      | none => s1
    let s3 := s2.setEng x n { s2.eng x n with next := e.next + 1, last := some i }
    (s3.gapOffer x (109 + n) i.idx i.ts n 0 ([BitVec.ofNat 32 i.timeQ, i.ofs] ++ vals.map toWord)).drainQueue taken x n

/-- ACQ_SAMPLE (R594): an engine samples all its lanes on both sides, with the same inputs, and takes entries of its queue. -/
def execAcqSample (dt : Nat) (n : Nat) (digital : List Nat) (edges : List (Nat × Bool × Count)) (takenA takenB : Nat) (s : State) :
    Out :=
  let s1 := s.tick dt
  if n < enginesOf s1.variant then
    .next ((s1.sampleSide .a n digital edges takenA).sampleSide .b n digital edges takenB)
  else .next s1

/-- The engine stops (R601): it takes what its queue holds, an open record closes with STOPPED and with the run discarded up to the end
(R605), and the queue empties. -/
def State.stopEngine (s : State) (x : Side) (n : Nat) : State :=
  let s0 := s.drainQueue 256 x n
  let e := s0.eng x n
  let q := s0.queue x (109 + n)
  let tail : Option AcqItem := if q.gap = 0 then none
    else e.last.map fun p => { p with idx := e.next, mono := p.mono + BitVec.ofNat 64 (s0.samplePeriod e), gapTs := q.gapTs }
  let s1 := s0.closeRecord x n 8 tail
  let q1 := s1.queue x (109 + n)
  (s1.setEng x n { s1.eng x n with state := 0, buf := [], fires := [] }).setQueue x (109 + n) { q1 with entries := [], gap := 0, gapTs := 0 }

/-! ### Commands (R589, R601, R603) -/

/-- Commands of an engine wait for the boundary: bits 0 ARM, 1 STOP, 2 TRIG, 3 CLEAR_STORE. -/
def State.acqOrder (s : State) (n bits : Nat) : State :=
  if bits = 0 then s
  else { s with acq := { s.acq with due := SMap.put (fun _ => 0) s.acq.due n (SMap.get (fun _ => 0) s.acq.due n ||| bits) } }

/-- A write to ACQ_E_CTRL_n. -/
def State.acqCtrlWrite (s : State) (acc : Access) (n : Nat) (val : Word) : State :=
  s.command acc (Reg.ACQ_E_CTRL n) .op fun s1 => s1.acqOrder n (val.toNat % 16)

/-- A write to ACQ_CMD_ALL: engines that the variant lacks take no part. -/
def State.acqCmdAllWrite (s : State) (acc : Access) (val : Word) : State :=
  s.command acc Reg.ACQ_CMD_ALL .op fun s1 =>
    (List.range (enginesOf s1.variant)).foldl (fun st n =>
      st.acqOrder n (flag (val.getLsbD (16 + n)) + 4 * flag (val.getLsbD n))) s1

/-- A write to either register that carries engine commands. -/
def State.acqCmdWrite (s : State) (acc : Access) (addr : Nat) (val : Word) : State :=
  if addr = Reg.ACQ_CMD_ALL then s.acqCmdAllWrite acc val else s.acqCtrlWrite acc ((addr - 0xF1004) / 0x100 % 16) val

/-- A refused engine command (R603). -/
def State.acqRefuse (s : State) (x : Side) (n : Nat) : State := if s.engPoster x then s.post Ev.ACQ_CMD_REFUSED n else s

/-- The waiting commands of an engine on a side, in the order STOP, CLEAR_STORE, ARM, TRIG (R601, R603, R604). -/
def State.acqApply (s : State) (x : Side) (n bits : Nat) : State :=
  let s1 := if bits.testBit 1 then (if 1 ≤ (s.eng x n).state ∧ (s.eng x n).state ≤ 4 then s.stopEngine x n else s) else s
  let s2 := if bits.testBit 3 then
      (if (s1.eng x n).state = 0 ∨ (s1.eng x n).state = 5 then
        ((s1.eng x n).recs.foldl (fun st r => st.recordGone x n r.1) s1).setEng x n { s1.eng x n with recs := [], state := 0 }
      else s1.acqRefuse x n) else s1
  let s3 := if bits.testBit 0 then
      (if (s2.eng x n).state = 0 then s2.armEngine x n true else s2.acqRefuse x n) else s2
  if bits.testBit 2 && !bits.testBit 1 then
    if (s3.eng x n).state = 1 then s3.fireAt x n 0xFE s3.tm.ts 0 else s3.acqRefuse x n
  else s3

/-- The engine commands take effect at the boundary on every side on which engines run (R589); a count of closed records that waits for
its 10 ms is posted once they are over (R603). -/
def State.acqBoundary (s : State) : State :=
  let s1 := s.acq.due.foldl (fun st d => st.engSides.foldl (fun st x => st.acqApply x d.1 d.2) st) s
  let s2 := s1.engSides.foldl (fun st x => (List.range (enginesOf s.variant)).foldl (fun st n => st.postRecord x n) st) s1
  { s2 with acq := { s2.acq with due := [] } }

/-- ACQ_ARM (R601): a write that arms. -/
def execAcqArm (dt : Nat) (acc : Access) (addr : Nat) (val : Word) (s : State) : Out := .next ((s.tick dt).acqCmdWrite acc addr val)

/-- ACQ_STOP (R601): a write that stops. -/
def execAcqStop (dt : Nat) (acc : Access) (n : Nat) (val : Word) (s : State) : Out := .next ((s.tick dt).acqCtrlWrite acc (n % 16) val)

/-- ACQ_TRIG (R598): a write that triggers. -/
def execAcqTrig (dt : Nat) (acc : Access) (addr : Nat) (val : Word) (s : State) : Out := .next ((s.tick dt).acqCmdWrite acc addr val)

/-- CLEAR_STORE (R601): a write that empties the partition. -/
def execClearStore (dt : Nat) (acc : Access) (n : Nat) (val : Word) (s : State) : Out := .next ((s.tick dt).acqCtrlWrite acc (n % 16) val)

/-! ### Time-driven parts -/

/-- ACQ_TIME_TRIGGER (R598): the timestamp reaches ACQ_E_TTIME_n, once per arm. -/
def State.timeFire (s : State) (x : Side) (n : Nat) : State :=
  let e := s.eng x n
  let t : Count := e.setting 0x24 ++ e.setting 0x20
  if 1 ≤ e.state ∧ e.state ≤ 3 ∧ e.timeDone = false ∧ t.toNat ≤ s.tm.ts.toNat ∧ e.armTs.toNat < t.toNat then
    ((s.unitsOn e).filter fun u => fget Fld.ACQ_E_TU_KIND (s.unitWord e u) == 7).foldl (fun st u => st.addFire x n ⟨u, t, st.monoOf t, 0⟩)
      (s.setEng x n { e with timeDone := true })
  else s

/-- ACQ_TIME_TRIGGER (R598) on every side on which engines run. -/
def execAcqTimeTrigger (dt : Nat) (n : Nat) (s : State) : Out :=
  let s1 := s.tick dt
  .next (s1.engSides.foldl (fun st x => st.timeFire x (n % 16)) s1)

/-- ACQ_SEQ_TIMEOUT (R600): the interval of the unit the sequence waits for has passed: the sequence restarts. -/
def execAcqSeqTimeout (dt : Nat) (n : Nat) (s : State) : Out :=
  let s1 := s.tick dt
  .next (s1.engSides.foldl (fun st x =>
    let e := st.eng x n
    let iv := e.interval (seqUnit (st.unitsOn e) e.seqPos)
    if 0 < e.seqPos ∧ 0 < iv ∧ iv < st.since e.seqAt then st.setEng x n { e with seqPos := 0, seqAt := 0 } else st) s1)

/-- ACQ_HOLDOFF_EXPIRY (R601): HOLDOFF ms after the record the engine is ARMED again. -/
def execAcqHoldoffExpiry (dt : Nat) (n : Nat) (s : State) : Out :=
  let s1 := s.tick dt
  .next (s1.engSides.foldl (fun st x =>
    let e := st.eng x n
    if e.state = 3 ∧ Config.msec (fget Fld.ACQ_E_CFG_HOLDOFF (e.setting 0x08)) ≤ st.since e.heldAt then st.armEngine x n false
    else st) s1)

/-! ### The record window (ACQ_RD_SEL, ACQ_RD_STAT) -/

/-- A value in ACQ_RD_SEL requests a record for the path. -/
def State.acqRdSelect (s : State) (p : Path) (val : Word) : State :=
  let s1 := ((s.pwr p Reg.ACQ_RD_SEL (val &&& 0xF0FFFFFF)).pwr p Reg.ACQ_RD_STAT 0).eraseBytes (acqWinKey p 0) 0x10000000
  { s1 with acq := { s1.acq with reqs := SMap.put (fun _ => none) s1.acq.reqs p.code (some s1.tm.mono) } }

/-- A write to ACQ_RD_SEL. -/
def State.acqRdSelWrite (s : State) (acc : Access) (val : Word) : State :=
  s.setting acc Reg.ACQ_RD_SEL val fun s1 => s1.acqRdSelect acc.path val

/-- ACQ_RECORD_REQUEST (R604). -/
def execAcqRecordRequest (dt : Nat) (acc : Access) (val : Word) (s : State) : Out := .next ((s.tick dt).acqRdSelWrite acc val)

/-- A record's bytes into a path's window. -/
def State.fillWindow (s : State) (p : Path) (bs : List Byte) : State :=
  bs.zipIdx.foldl (fun st (b, i) => st.setByte (acqWinKey p i) b) s

/-- The requested record of a path: its bytes, and whether it is still open. -/
def State.acqRecord (s : State) (x : Side) (n no : Nat) : Option (List Byte × Bool) :=
  let e := s.eng x n
  match e.recs.find? fun r => r.1 == no with
  | some r => some (r.2, false)
  | none =>
    match e.openRec with
    | some r => if e.nextNo = no then some (openBytes s.parN (s.recHead x n r) s.free r.items, true) else none
    | none => none

/-- ACQ_RECORD_READY (R604): within 20 ms the window holds the selection, or the record is GONE. -/
def execAcqRecordReady (dt : Nat) (p : Path) (s : State) : Out :=
  let s1 := s.tick dt
  match SMap.get (fun _ => none) s1.acq.reqs p.code with
  | none => .next s1
  | some _ =>
    let s2 := { s1 with acq := { s1.acq with reqs := SMap.put (fun _ => none) s1.acq.reqs p.code none } }
    let sel := s2.prd p Reg.ACQ_RD_SEL
    match s2.acqRecord (s2.viewed p) (fget Fld.ACQ_RD_SEL_ENGINE sel) (fget Fld.ACQ_RD_SEL_RECORD sel) with
    | some (bs, o) =>
      .next (({ s2 with free := s2.free + 96 }.fillWindow p bs).pwr p Reg.ACQ_RD_STAT
        (BitVec.ofNat 32 (0x80000000 + (if o then 0x20000000 else 0) + bs.length % 0x10000000)))
    | none => .next (s2.pwr p Reg.ACQ_RD_STAT 0x40000000)

/-- A write to ACQ_CLR: what is counted in this FCLK period is counted after the clear. -/
def State.acqClrWrite (s : State) (acc : Access) (val : Word) : State :=
  s.command acc Reg.ACQ_CLR .op fun s1 =>
    if val.getLsbD 0 then
      (List.range 16).foldl (fun st n => (st.clearCount (sideReg .a (Reg.ACQ_E_CNT n))).clearCount (sideReg .b (Reg.ACQ_E_CNT n))) s1
    else s1

/-- ACQ_CLR (R603). -/
def execAcqClr (dt : Nat) (acc : Access) (val : Word) (s : State) : Out := .next ((s.tick dt).acqClrWrite acc val)

/-! ### What other chapters do to the engines -/

/-- A side's store is empty and its engines stopped (R590). -/
def State.acqEmpty (s : State) (x : Side) : State :=
  let s1 := { s with acq := { s.acq with engs := s.acq.engs.filter fun e => e.1 / 16 != x.code } }
  (List.range 16).foldl (fun st n =>
    let q := st.queue x (109 + n)
    st.setQueue x (109 + n) { q with entries := [], gap := 0, gapTs := 0 }) s1

/-- A side's engines follow its state (R588, R590). -/
def State.acqFollow (s : State) (x : Side) : State :=
  if s.engSide x then s else if (s.acq.engs.any fun e => e.1 / 16 == x.code) then s.acqEmpty x else s

/-- SAFE_HOLD and orphan control: open records close with STOPPED, and engines go IDLE (R604). -/
def State.acqStopAll (s : State) : State :=
  [Side.a, .b].foldl (fun st x => (List.range 16).foldl (fun st n =>
    if 1 ≤ (st.eng x n).state ∧ (st.eng x n).state ≤ 4 then st.stopEngine x n else st) st) s

/-- Open records take a flag: 0x20 FAILOVER, 0x40 TIME_STEP (R604). -/
def State.acqMark (s : State) (f : Nat) : State :=
  { s with acq := { s.acq with engs := s.acq.engs.map fun e =>
      (e.1, match e.2.openRec with
        | some r => { e.2 with openRec := some { r with flags := r.flags ||| f } }
        | none => e.2) } }

end Sys2Proof.Machine
end

