-- ==== Sys2Proof/Machine/Tiles.lean ====
section
/-! DEFINITION. Loop tiles: the operations of a tile's program, its inputs, posts and the base cycle around them (R196 to
R236). -/

namespace Sys2Proof.Machine

open Sys2Proof

/-! ### Tiles and their registers -/

/-- The key of loop n on a side. -/
def tileKey (x : Side) (n : Nat) : Nat := x.code * 64 + n

/-- A loop's tile on a side. -/
def State.tile (s : State) (x : Side) (n : Nat) : Tile := SMap.get (fun _ => Tile.reset) s.loop.tiles (tileKey x n)

/-- The state with a tile set. -/
def State.setTile (s : State) (x : Side) (n : Nat) (t : Tile) : State :=
  { s with loop := { s.loop with tiles := SMap.put (fun _ => Tile.reset) s.loop.tiles (tileKey x n) t } }

/-- Where a side's own copy of a loop status register is held (R234): Side B's stands apart from Side A's. -/
def loopReg (x : Side) (addr : Nat) : Nat := addr + 0x2000000 * x.code

/-- Loop n exists in the running image (LOOP_TSTAT_n.USED). -/
def State.loopUsed (s : State) (n : Nat) : Bool :=
  decide (n < tilesOf s.variant) && s.fld (Reg.LOOP_TSTAT n) Fld.LOOP_TSTAT_USED == 1

/-- The side runs the control (R22): ACTIVE, STANDBY or SHADOW, with an image in RUN; in WATCH it is halted (R706). -/
def State.runsControl (s : State) (x : Side) : Bool :=
  let st := (s.side x).state
  s.mode == 2 && decide (s.fld Reg.PWR_STAT Fld.PWR_STAT_STATE < 2) && (st == .active || st == .standby || st == .shadow)

/-- The physical tile on which loop n runs (R231). -/
def State.physTile (s : State) (n : Nat) : Nat :=
  let h := s.fld (Reg.LOOP_MAP n) Fld.LOOP_MAP_HOME
  if h = 0 then n else s.parN (Par.home n h)

/-- The tile's program is under way in this cycle. -/
def State.tileRuns (s : State) (x : Side) (n : Nat) : Bool :=
  let t := s.tile x n
  s.loopUsed n && s.runsControl x && t.started && !t.ended

/-- A data-store word; one that is neither carried nor written this cycle holds no meaning (R199): a free value. -/
def Tile.word (t : Tile) (seed w : Nat) : Word :=
  match t.data.find? fun e => e.1 == w % 4096 with
  | some e => e.2
  | none => Config.freeWord (seed + w % 4096)

/-- A data-store word set. -/
def Tile.set (t : Tile) (w : Nat) (v : Word) : Tile := { t with data := SMap.insert t.data (w % 4096) v }

/-- An accumulator. -/
def Tile.accOf (t : Tile) (a : Nat) : Int := SMap.get (fun _ => 0) t.acc (a % 4)

/-- An accumulator set to a sum, saturated under R203; ACC_OVF is flag bit 8. -/
def Tile.setAcc (t : Tile) (a : Nat) (v : Int) : Tile :=
  let (w, o) := satAcc v
  { t with acc := SMap.put (fun _ => 0) t.acc (a % 4) w, flags := if o then withBit t.flags 8 true else t.flags }

/-- A parameter word of loop n. -/
def State.loopParam (s : State) (n k : Nat) : Word := s.rd (Reg.LOOP_PARAM n (k % 96))

/-- The shift of parameter word k of loop n. -/
def State.loopShift (s : State) (n k : Nat) : Nat := fget ⟨8 * (k % 96 % 4), 5⟩ (s.rd (Reg.LOOP_SHIFT n (k % 96 / 4)))

/-- The word an operand names. -/
def State.opnd (s : State) (n : Nat) (t : Tile) : Opnd → Word
  | .data w => t.word (s.free + 1) w
  | .param k => s.loopParam n k

/-- The next instruction of the program, with the counted repeats under way. -/
def stepPc (pc : Nat) : List (Nat × Nat × Nat) → Nat × List (Nat × Nat × Nat)
  | [] => (pc, [])
  | (start, len, left) :: r =>
    if pc = start + len then
      if 1 < left then (start, (start, len, left - 1) :: r) else stepPc pc r
    else (pc, (start, len, left) :: r)

/-- The program goes on to the next instruction. -/
def Tile.next (t : Tile) : Tile :=
  let (p, r) := stepPc (t.pc + 1) t.rep
  { t with pc := p, rep := r, waits := false }

/-- The presets due are loaded before the first instruction (R213): the upper word from the preset parameter, the lower 0. -/
def State.loadPresets (s : State) (n : Nat) (t : Tile) : Tile :=
  (List.range 16).foldl (fun u j =>
    let w := s.parN (Par.integWord n j)
    if t.preset.testBit j && w != 0 then
      let v := s.loopParam n (s.parN (Par.integPreset n j))
      { (u.set (w - 1) v).set w 0 with held := SMap.insert (SMap.insert u.held ((w - 1) % 4096) v) (w % 4096) 0 }
    else u) { t with preset := 0 }

/-- The tile of loop n as its next instruction finds it: the presets due are loaded before the first one (R213). -/
def State.readyTile (s : State) (x : Side) (n : Nat) : Tile :=
  if (s.tile x n).pc = 0 then s.loadPresets n (s.tile x n) else s.tile x n

/-- One operation of a tile's program: nothing happens unless the program is under way; presets come first; the free values
the operation may use are consumed. -/
def State.tileOp (s : State) (x : Side) (n : Nat) (f : State → Tile → Tile) : State :=
  if s.tileRuns x n then
    { s.setTile x n (f s (s.readyTile x n)).next with free := s.free + 4097 }
  else s

/-- The outcome of an arithmetic operation: the word written, SAT set where it saturated, and the sign kept for the
integrators this word limits (R204, R210, R230). -/
def Tile.result (t : Tile) (dst : Nat) (v : Int) (feeds : Bool) : Tile :=
  let (w, o) := sat32 v
  let t1 := t.set dst (toWord w)
  if o then
    { t1 with flags := withBit t1.flags 10 true, satOut := t1.satOut || feeds,
              sat := SMap.insert t1.sat (dst % 4096) (if v < 0 then -1 else 1) }
  else t1

/-! ### Multiply-accumulate (R202, R203, R207) -/

/-- A residue mismatch of a product or sum (R207): the tile's sticky flag and the first tile shown; HEALTH.RESIDUE is set with it. -/
def State.residueFault (s : State) (x : Side) (n : Nat) : State :=
  let s1 := s.setF (loopReg x (Reg.LOOP_TSTAT n)) Fld.LOOP_TSTAT_RESIDUE 1
  let r := loopReg x Reg.LOOP_STAT
  if s1.fld r Fld.LOOP_STAT_RES_VALID = 1 then s1
  else (s1.setF r Fld.LOOP_STAT_RES_VALID 1).setF r Fld.LOOP_STAT_RES_TILE (s1.physTile n)

/-- STORE (R204): extracts, rounds and saturates a word of an accumulator. -/
def execTileStore (dt : Nat) (x : Side) (n a q dst : Nat) (feeds : Bool) (s : State) : Out :=
  .next ((s.tick dt).tileOp x n fun _ t => t.result dst (extract (t.accOf a) (min q 47)) feeds)

/-! ### Word arithmetic (R206, R216) -/

/-- A word operation on two operands. -/
def State.wordOp (s : State) (x : Side) (n : Nat) (a b : Opnd) (dst : Nat) (f : Int → Int → Int) : State :=
  s.tileOp x n fun st t => t.result dst (f (st.opnd n t a).toInt (st.opnd n t b).toInt) false

/-- ADD (R206). -/
def execTileAdd (dt : Nat) (x : Side) (n : Nat) (a b : Opnd) (dst : Nat) (s : State) : Out :=
  .next ((s.tick dt).wordOp x n a b dst fun u v => u + v)

/-- SUB (R206). -/
def execTileSub (dt : Nat) (x : Side) (n : Nat) (a b : Opnd) (dst : Nat) (s : State) : Out :=
  .next ((s.tick dt).wordOp x n a b dst fun u v => u - v)

/-- NEG (R206). -/
def execTileNeg (dt : Nat) (x : Side) (n : Nat) (a : Opnd) (dst : Nat) (s : State) : Out :=
  .next ((s.tick dt).wordOp x n a a dst fun u _ => -u)

/-- ABS (R206). -/
def execTileAbs (dt : Nat) (x : Side) (n : Nat) (a : Opnd) (dst : Nat) (s : State) : Out :=
  .next ((s.tick dt).wordOp x n a a dst fun u _ => if u < 0 then -u else u)

/-- MIN (R216). -/
def execTileMin (dt : Nat) (x : Side) (n : Nat) (a b : Opnd) (dst : Nat) (s : State) : Out :=
  .next ((s.tick dt).wordOp x n a b dst fun u v => if u ≤ v then u else v)

/-- MAX (R216). -/
def execTileMax (dt : Nat) (x : Side) (n : Nat) (a b : Opnd) (dst : Nat) (s : State) : Out :=
  .next ((s.tick dt).wordOp x n a b dst fun u v => if u ≤ v then v else u)

/-- SCALE (R206): an arithmetic shift left (sh ≥ 0) or right by 0 to 31. -/
def execTileScale (dt : Nat) (x : Side) (n : Nat) (a : Opnd) (sh : Int) (dst : Nat) (s : State) : Out :=
  .next ((s.tick dt).wordOp x n a a dst fun u _ => shiftInt u (clampInt (-31) 31 sh))

/-- LIM (R216): clamps a word to two bounds; a clamp sets SAT. -/
def execTileLim (dt : Nat) (x : Side) (n : Nat) (a lo hi : Opnd) (dst : Nat) (feeds : Bool) (s : State) : Out :=
  .next ((s.tick dt).tileOp x n fun st t =>
    let v := (st.opnd n t a).toInt
    let l := (st.opnd n t lo).toInt
    let h := (st.opnd n t hi).toInt
    if h < v then
      { t.set dst (toWord h) with flags := withBit t.flags 10 true, satOut := t.satOut || feeds,
                                  sat := SMap.insert t.sat (dst % 4096) 1 }
    else if v < l then
      { t.set dst (toWord l) with flags := withBit t.flags 10 true, satOut := t.satOut || feeds,
                                  sat := SMap.insert t.sat (dst % 4096) (-1) }
    else t.set dst (toWord v))

/-- A comparison holds. -/
def Rel.holds (r : Rel) (u v : Int) : Bool :=
  match r with
  | .lt => decide (u < v)
  | .le => decide (u ≤ v)
  | .eq => decide (u = v)

/-- CMP (R216): compares two words and sets a condition. -/
def execTileCmp (dt : Nat) (x : Side) (n : Nat) (r : Rel) (a b : Opnd) (c : Nat) (s : State) : Out :=
  .next ((s.tick dt).tileOp x n fun st t =>
    { t with users := withBit t.users c (r.holds (st.opnd n t a).toInt (st.opnd n t b).toInt) })

/-- A condition holds in the running cycle (R216, R221). -/
def Tile.cond (t : Tile) : Cond → Bool
  | .user i => t.users.testBit i
  | .late => t.flags.testBit 13
  | .missing => t.flags.testBit 12
  | .gap => t.flags.testBit 11
  | .sat => t.flags.testBit 10
  | .intClamp => t.flags.testBit 9
  | .accOvf => t.flags.testBit 8
  | .divz => t.flags.testBit 7

/-- SEL (R216): one of two words on a condition. -/
def execTileSel (dt : Nat) (x : Side) (n : Nat) (c : Cond) (a b : Opnd) (dst : Nat) (s : State) : Out :=
  .next ((s.tick dt).tileOp x n fun st t => t.set dst (if t.cond c then st.opnd n t a else st.opnd n t b))

/-! ### Integrators and filters (R208 to R214) -/

/-- A 64-bit integrator value held to its bounds: an upper word outside becomes the bound, the lower word 0 (R209); and
the sign of the bound that held it, 0 for none. -/
def clampInteg (v lo hi : Int) : Int × Int :=
  let u := v / 2 ^ 32
  if hi < u then (hi * 2 ^ 32, 1) else if u < lo then (lo * 2 ^ 32, -1) else (v, 0)

/-- INTEG (R208 to R212): adds floor(acc × 2^(32 − q)) to integrator j and clamps it to LO and HI; outside new bounds it is
clamped first; FREEZE withholds an increment of the limiter's sign. The sign kept for the words it limits is that of the last clamp. -/
def execTileInteg (dt : Nat) (x : Side) (n a j q lo hi : Nat) (feeds : Bool) (s : State) : Out :=
  .next ((s.tick dt).tileOp x n fun st t =>
    let w := st.parN (Par.integWord n (j % 16)) - 1
    let l := (st.loopParam n lo).toInt
    let h := (st.loopParam n hi).toInt
    let old := (t.word (st.free + 1) w).toInt * 2 ^ 32 + (t.word (st.free + 1) (w + 1)).toNat
    let (v0, c0) := clampInteg old l h
    let inc := shiftInt (t.accOf a) (32 - (min q 47 : Nat))
    let m := st.parN (Par.integMode n (j % 16))
    let sign := if m = 0 then 0 else SMap.get (fun _ => 0) t.satHeld ((m - 1) % 4096)
    let frozen := decide (0 < sign ∧ 0 < inc) || decide (sign < 0 ∧ inc < 0)
    let (v1, c1) := clampInteg (if frozen then v0 else v0 + inc) l h
    let t1 := (t.set w (toWord (v1 / 2 ^ 32))).set (w + 1) (BitVec.ofInt 32 (v1 % 2 ^ 32))
    if c0 ≠ 0 ∨ c1 ≠ 0 then
      { t1 with flags := withBit t1.flags 9 true, satOut := t1.satOut || feeds,
                sat := SMap.insert t1.sat (w % 4096) (if c1 = 0 then c0 else c1) }
    else t1)

/-- SINCOS (R216, R233): sine and cosine in Q1.30; the error within 2^-28 is a free value. -/
def execTileSincos (dt : Nat) (x : Side) (n : Nat) (a : Opnd) (ds dc : Nat) (s : State) : Out :=
  .next ((s.tick dt).tileOp x n fun st t =>
    let r := sinCos (st.opnd n t a).toNat
    (t.set ds (toWord (nearQ30 r.1 (Config.freeInt st.free)))).set dc (toWord (nearQ30 r.2 (Config.freeInt (st.free + 1)))))

/-- Linear interpolation between the points of a table (R216): the exact value, and whether it is a whole number; none
outside the points. -/
def lutValue (pts : List (Int × Int)) (v : Int) : Option (Int × Bool) :=
  match pts with
  | (x0, y0) :: (x1, y1) :: r =>
    if x0 ≤ v ∧ v ≤ x1 ∧ x0 < x1 then
      some (y0 + (y1 - y0) * (v - x0) / (x1 - x0), decide ((y1 - y0) * (v - x0) % (x1 - x0) = 0))
    else lutValue ((x1, y1) :: r) v
  | [(x0, y0)] => if v = x0 then some (y0, true) else none
  | [] => none

/-- LUT (R216): the rounding of an interpolated value, and the value outside the table, are free. -/
def execTileLut (dt : Nat) (x : Side) (n table : Nat) (a : Opnd) (dst : Nat) (s : State) : Out :=
  .next ((s.tick dt).tileOp x n fun st t =>
    let pts := (List.range (min (st.parN (Par.lutLen table)) 1024)).map fun i =>
      (st.par (Par.lutX table i), st.par (Par.lutY table i))
    match lutValue pts (st.opnd n t a).toInt with
    | some (v, whole) => t.set dst (toWord (if whole then v else v + flag (Config.freeBool st.free)))
    | none => t.set dst (Config.freeWord st.free))

/-- DIV (R216, R217): a quotient at fraction count f; its rounding is free; by 0 it saturates and sets DIVZ and SAT, with
the sign kept for the integrators this word limits (R210). -/
def execTileDiv (dt : Nat) (x : Side) (n : Nat) (a b : Opnd) (f dst : Nat) (s : State) : Out :=
  .next ((s.tick dt).tileOp x n fun st t =>
    let u := (st.opnd n t a).toInt
    let v := (st.opnd n t b).toInt
    if v = 0 then
      { t.set dst (if u < 0 then 0x80000000 else 0x7FFFFFFF) with
        flags := withBit (withBit t.flags 7 true) 10 true, sat := SMap.insert t.sat (dst % 4096) (if u < 0 then -1 else 1) }
    else
      let num := if v < 0 then -(u * 2 ^ f) else u * 2 ^ f
      let den := if v < 0 then -v else v
      t.result dst (num / den + (if num % den = 0 then 0 else flag (Config.freeBool st.free))) false)

/-- SQRT (R216): the square root of a non-negative word; its rounding, and its value for a negative word, are free. -/
def execTileSqrt (dt : Nat) (x : Side) (n : Nat) (a : Opnd) (dst : Nat) (s : State) : Out :=
  .next ((s.tick dt).tileOp x n fun st t =>
    let u := (st.opnd n t a).toInt
    if u < 0 then t.set dst (Config.freeWord st.free)
    else
      let r := isqrt u.toNat
      t.set dst (BitVec.ofNat 32 (if r * r = u.toNat then r else r + flag (Config.freeBool st.free))))

/-! ### Inputs (R219 to R221) -/

/-- The number of a source in the routes. -/
def TileSrc.code : TileSrc → Nat
  | .fast ch => ch % 32
  | .ring _ ep => 64 + ep % 384
  | .therm i => 512 + i % 64
  | .param k => 640 + k % 96

/-- The queue that delivers a source, and the source number its entries carry. -/
def TileSrc.queue : TileSrc → Option (Nat × Nat)
  | .fast ch => some (64 + ch % 32, ch % 32)
  | .ring port ep => some (96 + port % 12, 64 + ep % 384)
  | .therm i => some (256 + i % 64, 512 + i % 64)
  | .param _ => none

/-- The loops that a source's route names. -/
def State.routed (s : State) (src : Nat) : List Nat := (List.range 64).filter fun n => s.par (Par.route src n) == 1

/-- Entries every routed loop has taken leave the queue, and their credits return (R220). -/
def State.retire (s : State) (x : Side) (q src : Nat) : State :=
  let need := s.routed src
  let done := fun (e : QEntry) => e.src == src && need.all fun n => e.taken.contains n
  if (s.queue x q).entries.any done then s.giveBack x q ((s.queue x q).entries.filter fun e => !done e) else s

/-- The instant on the monotonic count up to which the IN at which tile n stands takes an entry: its wait limit after the boundary (R221). -/
def State.inLimit (s : State) (x : Side) (n : Nat) : Nat :=
  s.tm.cycleStart.toNat + Config.fclk * s.parN (Par.waitLimit n (s.tile x n).pc)

/-- The oldest entry of a source that loop n has not taken, where it arrived by the wait limit of the IN (R221). -/
def State.nextEntry (s : State) (x : Side) (q src n : Nat) : Option QEntry :=
  match (s.queue x q).entries.find? fun e => e.src == src && !e.taken.contains n with
  | some e => if e.arrived.toNat ≤ s.inLimit x n then some e else none
  | none => none

/-- The words of an entry, one after the other from data word dst. -/
def Tile.setWords (t : Tile) (dst : Nat) : List Word → Tile
  | [] => t
  | w :: r => (t.set dst w).setWords (dst + 1) r

/-- A tile takes an entry: its value, the further words of a measurement after it, its timestamp, and GAP where it carries
a gap marker (R220, R223). -/
def Tile.take (t : Tile) (src dst : Nat) (e : QEntry) : Tile :=
  let t1 := t.setWords dst (toWord e.val :: e.more)
  { t1 with
    firstTs := some (t1.firstTs.getD ⟨e.ts, e.inst⟩)
    taken := SMap.insert t1.taken src ⟨e.ts, e.inst⟩
    newest := some ⟨e.ts, e.inst⟩
    lastIn := SMap.insert t1.lastIn src (toWord e.val :: e.more)
    flags := if 0 < e.gap then withBit t1.flags 11 true else t1.flags }

/-- The word held under a key; where nothing has been held yet the spec states no value: a free one. -/
def heldWord (m : SMap Word) (key seed : Nat) : Word :=
  match m.find? fun e => e.1 == key with
  | some e => e.2
  | none => Config.freeWord seed

/-- The phase whose module is a ring endpoint (R384). -/
def State.phaseOf (s : State) (e : Nat) : Option Nat :=
  if s.par (Par.epClass e) != 2 then none
  else (List.range 96).find? fun m => s.par (Par.phHome m) != 0 && s.fld (Reg.OUTS_PH_MAP m) Fld.OUTS_PH_MAP_KIND == 0
    && s.fld (Reg.OUTS_PH_MAP m) Fld.OUTS_PH_MAP_SOURCE == e

/-- The placement of a ring endpoint: its cell's carrier assignment, or the phase set that its phase stands under (R184, R388). -/
def State.epPlace (s : State) (e : Nat) : Nat :=
  match s.phaseOf e with
  | some m => plOutlet (s.fld (Reg.OUTS_PH_STAT m) Fld.OUTS_PH_STAT_OUTLET)
  | none => s.parN (Par.epPlace e)

/-- A MEAS report of an endpoint that its placement has fenced since (R186). -/
def State.oldReport (s : State) (e : Nat) : Bool :=
  epochNewer (s.epoch (s.epPlace e)) (s.fld (Reg.RING_EP_STAT e) Fld.RING_EP_STAT_EPOCH)

/-- A word that a control loop of the module posts to an edge channel in a cycle, on both sides that run it (R222, R223): nothing where no
loop of the array runs it. -/
def State.loopPost (s : State) (loop1 ch : Nat) (w : Word) : State :=
  if loop1 = 0 then s
  else
    let n := loop1 - 1
    [Side.a, Side.b].foldl (fun st x =>
      if st.runsControl x then
        st.replaceOffer x n w.toInt st.loop.cycleTs st.tm.cycleStart ch (st.epoch (plTile n))
      else st) s

/-- A ring measurement of an epoch that its placement has replaced is behind the fence (R186, R313). -/
def State.fenced (s : State) (e : QEntry) : Bool :=
  decide (64 ≤ e.src) && decide (e.src < 448) && epochNewer (s.epoch (s.epPlace (e.src - 64))) e.epoch

/-- The words of the entry of a source that the tile took last; a source of which it has taken none gives a free word. -/
def Tile.lastWords (t : Tile) (src seed : Nat) : List Word :=
  match t.lastIn.find? fun e => e.1 == src with
  | some e => e.2
  | none => [Config.freeWord seed]

/-- An IN that has no entry by its wait limit (R221): it returns the previous entry's value, sets MISSING and counts the miss; the program goes
on. -/
def State.waitMiss (s : State) (x : Side) (n c dst : Nat) : State :=
  let s1 := s.tileOp x n fun st t =>
    { t.setWords dst (t.lastWords c st.free) with flags := withBit t.flags 12 true }
  let r := loopReg x (Reg.LOOP_RUN n)
  let s2 := s1.bump r Fld.LOOP_RUN_WAIT_MISSES
  if x = s2.serving then s2.postLimited Ev.TILE_WAIT_MISS n 0 (s2.fld r Fld.LOOP_RUN_WAIT_MISSES) else s2

/-- IN (R219 to R221): the tile takes the next entry of a routed source that came by the wait limit; with none it waits until the limit, and
misses after it; a fenced one is discarded. -/
def execTileIn (dt : Nat) (x : Side) (n : Nat) (src : TileSrc) (dst : Nat) (s : State) : Out :=
  let s1 := s.tick dt
  match src.queue with
  | none =>
    .next (s1.tileOp x n fun st t =>
      match src with
      | .param k => t.set dst (st.loopParam n k)
      | _ => t)
  | some (q, c) =>
    if !s1.tileRuns x n then .next s1
    else
      match s1.nextEntry x q c n with
      | none =>
        .next (if s1.tm.mono.toNat < s1.inLimit x n then s1.setTile x n { s1.tile x n with waits := true } else s1.waitMiss x n c dst)
      | some e =>
        let s2 := if s1.fenced e then s1.fenceDiscard n else s1.tileOp x n fun _ t => t.take c dst e
        let qu := s2.queue x q
        let mark := fun (f : QEntry) => if f = e then { f with taken := f.taken ++ [n] } else f
        .next ((s2.setQueue x q { qu with entries := qu.entries.map mark }).retire x q c)

/-- TILE_WAIT_MISS (R221): at the wait limit an IN without an entry that came by then returns the previous entry's value and sets MISSING. -/
def execTileWaitMiss (dt : Nat) (x : Side) (n : Nat) (src : TileSrc) (dst : Nat) (s : State) : Out :=
  let s1 := s.tick dt
  match src.queue with
  | none => .next s1
  | some (q, c) =>
    if !s1.tileRuns x n || (s1.nextEntry x q c n).isSome
        || decide (s1.tm.mono.toNat < s1.inLimit x n) then .next s1
    else .next (s1.waitMiss x n c dst)

/-- A delivery of a fast sense channel to the tiles of the sides that run the control; a channel that no route names is not delivered. -/
def State.offerFast (s : State) (ch : Nat) (v : Int) (ts : Count) : State :=
  if (s.routed ch).isEmpty then s
  else ([Side.a, Side.b].filter s.runsControl).foldl (fun st x => st.gapOffer x (64 + ch) v ts ch) s

/-- A sample of a fast sense channel kept for MEAN, and delivered at the channel's instant of the cycle (R219): LAST the
sample in bits 31 to 16, MEAN the average of the last N samples stamped at the window's centre. -/
def State.deliverFast (s : State) (ch : Nat) (code : Int) : State :=
  let hist := (code :: SMap.get (fun _ => []) s.loop.samples ch).take 200
  let s1 := { s with loop := { s.loop with samples := SMap.put (fun _ => []) s.loop.samples ch hist } }
  let n := s1.parN (Par.fsMode ch)
  let slot := s1.since s1.tm.cycleStart / Config.nsec 200
  if slot ≠ s1.parN (Par.fsOfs ch) then s1
  else if n < 2 then s1.offerFast ch (code * 65536) s1.tm.ts
  else
    let part := hist.take n
    let sum := part.foldl (· + ·) 0 * 65536
    let k : Int := max 1 part.length
    let v := sum / k + (if sum % k = 0 then 0 else flag (Config.freeBool s1.free))
    let ts := s1.tm.ts - BitVec.ofNat 64 (Config.nsec 100 * (part.length - 1))
    { s1 with free := s1.free + 1 }.offerFast ch v ts

/-- FAST_SENSE_SAMPLE (R21, R219, R767): the sample goes to both sides with one timestamp, delivered as R219 says; VAL, PEAK,
CLIPS and the comparator's output follow. A channel the running image does not use delivers nothing. -/
def execFastSenseSample (dt : Nat) (ch : Nat) (code : Int) (s : State) : Out :=
  let s1 := s.tick dt
  let n := ch % 32
  let cfg := s1.rd (Reg.FAST_CFG n)
  if fget Fld.FAST_CFG_USED cfg = 0 then .next s1
  else
    let c := clampInt (-32768) 32767 code
    let s2 := s1.setFS (Reg.FAST_VAL n) Fld.FAST_VAL_SAMPLE c
    let pk := s2.rd (Reg.FAST_PEAK n)
    let s3 := if fgetS Fld.FAST_PEAK_MAX pk < c then s2.setFS (Reg.FAST_PEAK n) Fld.FAST_PEAK_MAX c else s2
    let s4 := if c < fgetS Fld.FAST_PEAK_MIN pk then s3.setFS (Reg.FAST_PEAK n) Fld.FAST_PEAK_MIN c else s3
    let s5 := if c = -32768 ∨ c = 32767 then
        (s4.bump (Reg.FAST_VAL n) Fld.FAST_VAL_CLIPS).postLimited Ev.FAST_CLIP n 0
          (s4.fld (Reg.FAST_VAL n) Fld.FAST_VAL_CLIPS + 1)
      else s4
    .next ((s5.comparator n c).deliverFast n c)

/-! ### Stamps, exchange, posts (R222 to R228) -/

/-- STAMP (R224): the delay stamp of the tile's previous cycle. -/
def execTileStamp (dt : Nat) (x : Side) (n dst : Nat) (s : State) : Out :=
  .next ((s.tick dt).tileOp x n fun _ t => t.set dst (BitVec.ofNat 32 t.stampPrev))

/-- The key of an exchange word, a chain or a published slot on a side. -/
def sideKey (x : Side) (i : Nat) : Nat := x.code * 65536 + i % 65536

/-- XPUT (R226): writes an exchange word of the buffer that XGET reads in the next cycle. -/
def execTileXput (dt : Nat) (x : Side) (n w : Nat) (src : Opnd) (s : State) : Out :=
  let s1 := s.tick dt
  if s1.tileRuns x n then
    let v := s1.opnd n (s1.readyTile x n) src
    let s2 := s1.tileOp x n fun _ t => t
    .next { s2 with loop := { s2.loop with xWrite := SMap.insert s2.loop.xWrite (sideKey x w) v } }
  else .next s1

/-- XGET (R226): reads the exchange word as written in the previous cycle. -/
def execTileXget (dt : Nat) (x : Side) (n w dst : Nat) (s : State) : Out :=
  .next ((s.tick dt).tileOp x n fun st t => t.set dst (heldWord st.loop.xRead (sideKey x w) st.free))

/-- CHAIN_PUT (R227): passes a word to another tile within the cycle; it waits while the chain's one credit is out. -/
def execTileChainPut (dt : Nat) (x : Side) (n c : Nat) (src : Opnd) (s : State) : Out :=
  let s1 := s.tick dt
  if !s1.tileRuns x n then .next s1
  else if s1.loop.chains.any fun e => e.1 == sideKey x c then .next (s1.setTile x n { s1.tile x n with waits := true })
  else
    let v := s1.opnd n (s1.readyTile x n) src
    let s2 := s1.tileOp x n fun _ t => t
    .next { s2 with loop := { s2.loop with chains := SMap.insert s2.loop.chains (sideKey x c) v } }

/-- CHAIN_GET (R227): takes the word of a chain; it waits for it. -/
def execTileChainGet (dt : Nat) (x : Side) (n c dst : Nat) (s : State) : Out :=
  let s1 := s.tick dt
  if !s1.tileRuns x n then .next s1
  else
    match s1.loop.chains.find? fun e => e.1 == sideKey x c with
    | none => .next (s1.setTile x n { s1.tile x n with waits := true })
    | some e =>
      let s2 := s1.tileOp x n fun _ t => t.set dst e.2
      .next { s2 with loop := { s2.loop with chains := SMap.erase s2.loop.chains (sideKey x c) } }

/-- The timestamp of a post (R223): the entry named, by default the first of the cycle; else the newest of an earlier
cycle; else the boundary at which the cycle began. -/
def Tile.postTs (t : Tile) (named : Option Nat) (cycle : Stamp) : Stamp :=
  let own := match named with
    | some c => (t.taken.find? fun e => e.1 == c).map (·.2)
    | none => t.firstTs
  match own with
  | some ts => ts
  | none => (t.firstTs.orElse fun _ => t.newest).getD cycle

/-- POST (R222, R223): a stamped word to an edge channel through its REPLACE queue; a channel that ROUTES gives to another tile takes none. -/
def execTilePost (dt : Nat) (x : Side) (n ch : Nat) (src : Opnd) (named : Option TileSrc) (s : State) : Out :=
  let s1 := s.tick dt
  let owner := s1.parN (Par.chanTile ch)
  if s1.tileRuns x n && owner != 0 && owner != n + 1 then .next (s1.tileOp x n fun _ u => u)
  else if s1.tileRuns x n then
    let t := s1.readyTile x n
    let v := s1.opnd n t src
    let st := t.postTs (named.map TileSrc.code) ⟨s1.loop.cycleTs, s1.tm.cycleStart⟩
    .next ((s1.tileOp x n fun _ u => u).replaceOffer x n v.toInt st.ts st.inst ch (s1.epoch (plTile n)))
  else .next s1

/-- PUB (R228): publishes a word; the scheduler reads what a completed cycle published. -/
def execTilePub (dt : Nat) (x : Side) (n slot : Nat) (src : Opnd) (s : State) : Out :=
  .next ((s.tick dt).tileOp x n fun st t => { t with pubs := SMap.insert t.pubs slot (st.opnd n t src) })

/-- REP (R216): a counted repeat of the len instructions that follow. -/
def execTileRep (dt : Nat) (x : Side) (n len count : Nat) (s : State) : Out :=
  .next ((s.tick dt).tileOp x n fun _ t =>
    if len = 0 ∨ count < 2 then t else { t with rep := (t.pc + 1, len, count) :: t.rep })

/-- BR (R216): a branch to an instruction on a condition. -/
def execTileBr (dt : Nat) (x : Side) (n : Nat) (c : Cond) (target : Nat) (s : State) : Out :=
  let s1 := s.tick dt
  if s1.tileRuns x n && (s1.tile x n).cond c then
    .next (let s2 := s1.tileOp x n fun _ t => t
           s2.setTile x n { s2.tile x n with pc := target % 4096 })
  else .next (s1.tileOp x n fun _ t => t)

/-- A tile under way reaches END (R200, R229, R230): the carried words take effect as a set, published words stand under the epoch of the
tile's mapping (R186, R232), and the loop's status of the completed cycle is shown. -/
def State.tileEnd (s0 : State) (x : Side) (n : Nat) : State :=
    let s1 := s0.tileOp x n fun _ t => t
    let t := s1.tile x n
    let held := t.data.filter fun e => s1.par (Par.carried n e.1) == 1
    let s2 := s1.setTile x n { t with ended := true, held := held, satHeld := t.sat, newestHeld := t.newest }
    let s3 := { s2 with loop := { s2.loop with
      published := t.pubs.foldl (fun (m : SMap Word) (e : Nat × Word) => SMap.put (fun _ => 0) m (sideKey x e.1) e.2) s2.loop.published
      pubAt := t.pubs.foldl (fun (m : SMap Count) (e : Nat × Word) => SMap.insert m (sideKey x e.1) s2.tm.mono) s2.loop.pubAt
      pubBy := t.pubs.foldl (fun (m : SMap (Nat × Nat)) (e : Nat × Word) => SMap.insert m (sideKey x e.1) (n, s2.epoch (plTile n))) s2.loop.pubBy } }
    let cyc := min (s3.since s3.tm.cycleStart / Config.fclk) 0xFFFF
    let rc := loopReg x (Reg.LOOP_TCYC n)
    let s4 := (s3.setF rc Fld.LOOP_TCYC_LAST cyc).peak rc Fld.LOOP_TCYC_MAX cyc
    let rs := loopReg x (Reg.LOOP_TSTAT n)
    let bits := [(12, Fld.LOOP_TSTAT_MISSING), (11, Fld.LOOP_TSTAT_GAP), (9, Fld.LOOP_TSTAT_INT_CLAMP),
      (8, Fld.LOOP_TSTAT_ACC_OVF), (7, Fld.LOOP_TSTAT_DIVZ)]
    let s5 := bits.foldl (fun st b => st.setF rs b.2 (flag (t.flags.testBit b.1))) s4
    let s6 := (s5.setF rs Fld.LOOP_TSTAT_SAT (flag t.satOut)).setF rs Fld.LOOP_TSTAT_OVERRUN 0
    let rr := loopReg x (Reg.LOOP_RUN n)
    let s7 := if t.satOut then s6.bump rr Fld.LOOP_RUN_SAT_RUN else s6.setF rr Fld.LOOP_RUN_SAT_RUN 0
    let s8 := (List.range 8).foldl (fun st k =>
      let w := st.parN (Par.watch n k)
      st.wr (loopReg x (Reg.LOOP_WATCH n k)) (if w = 0 then 0 else t.word st.free (w - 1))) s7
    if x = s8.serving then s8.watchSat n (s8.fld rr Fld.LOOP_RUN_SAT_RUN) else s8

/-! ### The base cycle (R197, R226, R229) -/

/-- At the boundary a tile that has not reached END overruns (R229); the late post and the stamp of the ended cycle are
shown (R224, R225). -/
def State.tileEnds (s : State) (x : Side) (n : Nat) : State :=
  let t := s.tile x n
  if !t.started then s
  else
    let rs := loopReg x (Reg.LOOP_TSTAT n)
    let s1 := s.setF rs Fld.LOOP_TSTAT_LATE (flag t.late)
    if t.ended then s1
    else
      let rc := loopReg x (Reg.LOOP_CNT n)
      let s2 := (s1.setF rs Fld.LOOP_TSTAT_OVERRUN 1).bump rc Fld.LOOP_CNT_OVERRUNS
      let s3 := (s2.setF (loopReg x (Reg.LOOP_TCYC n)) Fld.LOOP_TCYC_LAST 0xFFFF).peak (loopReg x (Reg.LOOP_TCYC n))
        Fld.LOOP_TCYC_MAX 0xFFFF
      if x = s3.serving then s3.postLimited Ev.TILE_OVERRUN n 0 (s3.fld rc Fld.LOOP_CNT_OVERRUNS) else s3

/-- At the boundary a used tile starts its program at the first instruction from its carried words, the stamp of its last completed cycle among
them (R197, R199, R200, R224). -/
def State.tileStarts (s : State) (x : Side) (n : Nat) : State :=
  let t := s.tile x n
  let stamp := if t.ended then t.stampNow else t.stampPrev
  if s.loopUsed n && s.runsControl x then
    s.setTile x n { t with
      started := true, ended := false, pc := 0, rep := [], data := t.held, flags := 0, users := 0, satOut := false,
      sat := [], firstTs := none, taken := [], newest := t.newestHeld, stampPrev := stamp, stampNow := stamp, late := false,
      preset := SMap.get (fun _ => 0) s.loop.presets n, pubs := [], waits := false }
  else if t = Tile.reset then s
  else s.setTile x n { t with started := false }

/-- The loop array at a boundary: overruns, then the swap of the exchange buffers, then the start of every tile. -/
def State.tilesBoundary (s : State) : State :=
  let all := fun (f : State → Side → Nat → State) (st : State) =>
    (List.range (tilesOf st.variant)).foldl (fun u n => f (f u .a n) .b n) st
  let s1 := all State.tileEnds s
  let s2 := { s1 with loop := { s1.loop with
    xRead := s1.loop.xWrite, xWrite := s1.loop.xRead, cycleTs := s1.tm.ts } }
  let s3 := all State.tileStarts s2
  { s3 with loop := { s3.loop with presets := [] } }

/-- The standby side's tiles take the active side's carried state with the Keeper copy (R24, R169). -/
def State.tilesCopy (s : State) (x y : Side) : State :=
  (List.range (tilesOf s.variant)).foldl (fun st n =>
    let a := st.tile x n
    let b := st.tile y n
    if st.loopUsed n then
      st.setTile y n { b with
        held := a.held, satHeld := a.satHeld, newestHeld := a.newestHeld, stampNow := a.stampNow, stampPrev := a.stampPrev, ended := a.ended, lastIn := a.lastIn }
    else st) s

/-- The exchange words of a side, which lie in its SRAM, are the other side's: a bulk transfer carries every bank (R187). -/
def State.exchangeCopy (s : State) (x y : Side) : State :=
  let copy := fun (m : SMap Word) =>
    (m.filter fun e => e.1 / 65536 == x.code).foldl (fun m e => SMap.insert m (sideKey y e.1) e.2) (m.filter fun e => e.1 / 65536 != y.code)
  { s with loop := { s.loop with xRead := copy s.loop.xRead, xWrite := copy s.loop.xWrite } }

/-! ### Commands (R213, R235) -/

/-- A write to LOOP_PRESET_n: the integrators named load at the next boundary. -/
def State.loopPresetWrite (s : State) (acc : Access) (n : Nat) (val : Word) : State :=
  s.command acc (Reg.LOOP_PRESET n) .op fun s1 =>
    let m := SMap.get (fun _ => 0) s1.loop.presets n ||| fget Fld.LOOP_PRESET_INTEG val
    { s1 with loop := { s1.loop with presets := SMap.put (fun _ => 0) s1.loop.presets n m } }

/-- LOOP_PRESET (R213). -/
def execLoopPreset (dt : Nat) (acc : Access) (n : Nat) (val : Word) (s : State) : Out :=
  .next ((s.tick dt).loopPresetWrite acc (n % 64) val)

/-- A write to LOOP_CLR (R235): maxima and counts of every loop on both sides. -/
def State.loopClrWrite (s : State) (acc : Access) (val : Word) : State :=
  s.command acc Reg.LOOP_CLR .op fun s1 =>
    if val.getLsbD 0 then
      (List.range (tilesOf s1.variant)).foldl (fun st n =>
        [Side.a, Side.b].foldl (fun u x =>
          let u1 := (u.setF (loopReg x (Reg.LOOP_TCYC n)) Fld.LOOP_TCYC_MAX 0).setF (loopReg x (Reg.LOOP_STAMP n))
            Fld.LOOP_STAMP_MAX 0
          let u2 := (u1.clearCount (loopReg x (Reg.LOOP_CNT n))).clearField (loopReg x (Reg.LOOP_RUN n))
            Fld.LOOP_RUN_WAIT_MISSES
          ((u2.forget Ev.TILE_WAIT_MISS n).forget Ev.TILE_LATE n).forget Ev.TILE_OVERRUN n) st) s1
    else s1

/-- LOOP_CLR (R235). -/
def execLoopClr (dt : Nat) (acc : Access) (val : Word) (s : State) : Out := .next ((s.tick dt).loopClrWrite acc val)

end Sys2Proof.Machine
end

