-- ==== Sys2Proof/Machine/Edge.lean ====
section
/-! DEFINITION. The edge engine: carriers, update points, edges, dead time and trims, minimum pulses, delay lines and pads
(R237 to R267, R278). -/

namespace Sys2Proof.Machine

open Sys2Proof

/-- The instant of the state in edge units: its FCLK period's first, 64 to a period (19.53125 ps each). -/
def State.nowUnits (s : State) : Nat := s.period * 64

/-- T_c in edge units. -/
def State.tcUnits (s : State) : Nat := s.tc / Config.fclk * 64

/-- The base cycle's first edge unit. -/
def State.cycleUnits (s : State) : Nat := s.tm.cycleStart.toNat / Config.fclk * 64

/-- A cell's leg runs as R327, R338 and R344 fix it: legs 0 and 1 UPDOWN and DUTY at ZERO or BOTH, legs 2 to 5 UP and SHIFT, all at CYCLE. -/
def cellLeg (leg : Nat) (w : Word) : Word :=
  let c := fset Fld.EDGE_CFG_SYNC w 1
  if leg < 2 then
    let d := fset Fld.EDGE_CFG_MODE (fset Fld.EDGE_CFG_CARRIER c 1) 0
    if fget Fld.EDGE_CFG_UPD w = 2 then d else fset Fld.EDGE_CFG_UPD d 0
  else fset Fld.EDGE_CFG_MODE (fset Fld.EDGE_CFG_CARRIER c 0) 1

/-- The settings of an edge channel: a local pair's registers, or a ring leg's of the image, in EDGE_CFG_n's layout. -/
def State.chanCfg (s : State) (n : Nat) : Word :=
  if n < 64 then s.rd (Reg.EDGE_CFG n)
  else
    let w := BitVec.ofNat 32 (s.parN (Par.legCfg n))
    match s.parN (Par.epClass ((n - 64) / 8)) with
    | 1 => cellLeg (n % 8) w
    | 2 => phaseLeg w
    | _ => w

/-- PERIOD of an edge channel. -/
def State.chanPer (s : State) (n : Nat) : Nat :=
  if n < 64 then s.fld (Reg.EDGE_PERIOD n) Fld.EDGE_PERIOD_VALUE else SMap.get (fun k => s.parN (Par.legPer k)) s.edge.legPeriod n

/-- PHASE of an edge channel. -/
def State.chanPh (s : State) (n : Nat) : Nat :=
  SMap.get (fun k => if k < 64 then s.fld (Reg.EDGE_PHASE k) Fld.EDGE_PHASE_VALUE else s.parN (Par.legPh k)) s.edge.legPhase n

/-- MINPW of an edge channel. -/
def State.chanMinpw (s : State) (n : Nat) : Nat :=
  if n < 64 then s.fld (Reg.EDGE_MINPW n) Fld.EDGE_MINPW_MINPW else s.parN (Par.legMinpw n)

/-- The first period start after an instant, for PERIOD and PHASE (R240). -/
def State.nextStart (s : State) (n per ph now : Nat) : Nat :=
  let p := max per 1
  if fget Fld.EDGE_CFG_SYNC (s.chanCfg n) = 0 then
    if now < ph then ph else ph + ((now - ph) / p + 1) * p
  else
    let tc := max s.tcUnits 1
    let m := max 1 (p / tc)
    let base := s.cycleUnits - s.tm.cycleN % m * tc + ph
    if now < base then base else base + ((now - base) / p + 1) * p

/-! ### Compares and edges (R237 to R239) -/

/-- ON and OFF of a word, in edge units from the period start (R239). -/
def compares (mode carrier per : Nat) (w : Word) : Nat × Nat :=
  if mode = 0 then
    let d := if w.toInt < 0 then 0 else w.toNat
    let width := d * per / 2 ^ 31
    if carrier = 0 then (0, width) else ((per - width) / 2, (per - width) / 2 + width)
  else if mode = 1 then
    let on := w.toNat % 2 ^ 31 * per / 2 ^ 31
    (on, (on + per / 2) % max per 1)
  else (w.toNat / 65536 * per / 65536, w.toNat % 65536 * per / 65536)

/-- The pulse width W = (OFF − ON) mod PERIOD (R238). -/
def pulseWidth (on off per : Nat) : Nat := (off + per - on % max per 1) % max per 1

/-- The effective delay (R252): max(FLOOR, DELAY + trim), limited to 65,535. -/
def effDelay (floor delay : Nat) (trim : Int) : Nat := min 65535 (max (floor : Int) (delay + trim)).toNat

/-- RISE_eff of a pair on a side. -/
def State.riseEff (s : State) (x : Side) (n : Nat) : Nat :=
  if 64 ≤ n then s.parN (Par.legRise n) else
  let r := s.rd (Reg.EDGE_RISE n)
  effDelay (fget Fld.EDGE_RISE_FLOOR r) (fget Fld.EDGE_RISE_DELAY r) (s.fldS (loopReg x (Reg.EDGE_TRIM n)) Fld.EDGE_TRIM_RISE_TRIM)

/-- FALL_eff of a pair on a side. -/
def State.fallEff (s : State) (x : Side) (n : Nat) : Nat :=
  if 64 ≤ n then s.parN (Par.legFall n) else
  let r := s.rd (Reg.EDGE_FALL n)
  effDelay (fget Fld.EDGE_FALL_FLOOR r) (fget Fld.EDGE_FALL_DELAY r) (s.fldS (loopReg x (Reg.EDGE_TRIM n)) Fld.EDGE_TRIM_FALL_TRIM)

/-! ### Minimum pulse (R256 to R260) -/

/-- What a word makes of the period it governs: its reference edges in order of time, the first edge of the following period where it has
moved already (R258), and of each short interval whether it was dropped (true) or widened (false). -/
structure Plan where
  edges : List (Nat × Bool)
  fix : Option Nat
  shorts : List Bool
  deriving DecidableEq, Repr

/-- How long the reference must stay high or low for its output to be on for MINPW (R256). -/
def refNeed (rise fall minpw : Nat) (high : Bool) : Nat := if high then rise + minpw else fall + minpw

/-- One governed period (R238, R248, R256 to R258): from is its start, on and off its compares as instants in it, equal for W = 0; high and
last are the reference's level so far and its last edge. An interval that ends in the following period is dropped by its first edge alone:
the edge that would end it then finds the reference where it is. An interval that an earlier word began ends no sooner than its output has
been on for MINPW, since its first edge stands (R249, R257). -/
def plan (hold sym : Bool) (need : Bool → Nat) (per from' on off : Nat) (high : Bool) (last : Nat) (fix : Option Nat) : Plan :=
  if on = off then
    if high then ⟨[(max from' (last + need true), false)], none, if from' < last + need true then [false] else []⟩ else ⟨[], none, []⟩
  else
    let k := decide (on < off)
    let e1 := min on off
    let e2 := max on off
    let inner := e2 - e1
    let short := high != k && decide (inner < need k)
    if short && !hold && fix.isNone then ⟨[], none, [true]⟩
    else
      let extra := if short && sym && fix.isNone then need k - inner else 0
      let free := max from' (last + need high)
      let a := if high = k then last else fix.getD (max (e1 - extra / 2) free)
      let late := high != k && fix.isNone && decide (e1 < last + need high)
      let b := max (e2 + (extra - extra / 2)) (a + need k)
      let first := if high = k then [] else [(a, k)]
      let shorts := (if late then [false] else []) ++ (if e2 < b then [false] else [])
      if need (!k) ≤ per - inner then ⟨first ++ [(b, !k)], none, shorts⟩
      else if !hold then ⟨first, none, shorts ++ [true]⟩
      else
        let b' := if sym then max (b - (need (!k) - (per - inner)) / 2) (a + need k) else b
        ⟨first ++ [(b', !k)], some (b' + need (!k)), shorts ++ [false]⟩

/-- A short interval counted and posted (R257, R258, R260). -/
def State.shortPulse (s : State) (x : Side) (n : Nat) (dropped : Bool) : State :=
  if 64 ≤ n then s else
  let r := loopReg x (Reg.EDGE_PCNT n)
  let f := if dropped then Fld.EDGE_PCNT_DROPPED else Fld.EDGE_PCNT_STRETCHED
  let s1 := s.bump r f
  if x = s.serving then s1.postLimited Ev.EDGE_SHORT_PULSE n 0 (s1.fld r f) else s1

/-- How long the reference of a channel must stay at a level (R256). -/
def State.chanNeed (s : State) (x : Side) (n : Nat) : Bool → Nat := refNeed (s.riseEff x n) (s.fallEff x n) (s.chanMinpw n)

/-- The edges of a plan join those to come. -/
def Pair.take (p : Pair) (pl : Plan) : Pair :=
  { p with refs := p.refs ++ pl.edges, high := pl.edges.getLast?.elim p.high (·.2), last := pl.edges.getLast?.elim p.last (·.1), fix := pl.fix }

/-- A plan taken by a channel, its short intervals counted. -/
def State.takePlan (s : State) (x : Side) (n : Nat) (pl : Plan) : State :=
  pl.shorts.foldl (fun st d => st.shortPulse x n d) (s.setPair x n ((s.pair x n).take pl))

/-- The edges of a word for one governed period placed among those to come: base is the start the compares count from; an edge that lies
before the governed half falls into the next period (UPD HALF). -/
def State.governs (s : State) (x : Side) (n base : Nat) (per half : Nat) : State :=
  let p := s.pair x n
  let cfg := s.chanCfg n
  let mode := fget Fld.EDGE_CFG_MODE cfg
  let car := fget Fld.EDGE_CFG_CARRIER cfg
  let w := compares mode car per p.word
  let at' := fun v => base + (if v % max per 1 < half then v % max per 1 + per else v % max per 1)
  s.takePlan x n (plan (fget Fld.EDGE_CFG_POLICY cfg == 1) (decide (mode = 0) && decide (car = 1)) (s.chanNeed x n) per (base + half)
    (at' w.1) (at' w.2) p.high p.last p.fix)

/-- The width of a DUTY word (R239). -/
def dutyWidth (per : Nat) (w : Word) : Nat := (compares 0 0 per w).2

/-- UPD BOTH, before the start (R248, R257): ON of the coming period; a PWMB interval whose first edge stands is widened by
moving ON. -/
def State.bothOn (s : State) (x : Side) (n base per : Nat) : State :=
  let p := s.pair x n
  let w := dutyWidth per p.word
  let on := base + (per / 2 - w / 2)
  let t := max on (p.last + s.chanNeed x n false)
  if w = 0 ∨ p.high then s
  else s.takePlan x n ⟨[(t, true)], none, if on < t then [false] else []⟩

/-- UPD BOTH, before the middle: OFF of the period under way. A short pulse whose ON stands is widened by moving OFF (R257); one that this
word alone makes, from the middle on, follows the policy. -/
def State.bothOff (s : State) (x : Side) (n base per : Nat) : State :=
  let p := s.pair x n
  let w := dutyWidth per p.word
  let off := base + per / 2 + w / 2
  let need := s.chanNeed x n
  if p.high then
    let t := max off (p.last + need true)
    s.takePlan x n ⟨[(t, false)], none, if off < t then [false] else []⟩
  else if w = 0 then s
  else
    let a := max (base + per / 2) (p.last + need false)
    if a + need true ≤ off then s.takePlan x n ⟨[(a, true), (off, false)], none, []⟩
    else if fget Fld.EDGE_CFG_POLICY (s.chanCfg n) = 1 then s.takePlan x n ⟨[(a, true), (a + need true, false)], none, [false]⟩
    else s.takePlan x n ⟨[], none, [true]⟩

/-! ### Update points (R245 to R249, R30, R223, R225) -/

/-- The loop whose REPLACE queue holds a post for a channel, with the post: not one accepted in this FCLK period (R30). -/
def State.newestPost (s : State) (x : Side) (ch : Nat) : Option (Nat × QEntry) :=
  (List.range 64).findSome? fun n =>
    ((s.queue x n).entries.find? fun e => e.src == ch && e.arrived.toNat / Config.fclk != s.period).map fun e => (n, e)

/-- The post of a channel leaves its queue. -/
def State.dropPost (s : State) (x : Side) (n : Nat) (e : QEntry) : State :=
  s.giveBack x n ((s.queue x n).entries.filter fun f => f != e)

/-- The newest word of a channel taken at an update point (R246): none where no new word came, where it is of an old epoch
(R186), or where it is late under HOLD (R225, R247). Its stamp, measured on the monotonic count (R52), is shown for its loop (R29). -/
def State.takePost (s : State) (x : Side) (ch : Nat) : Option Word × State :=
  match s.newestPost x ch with
  | none => (none, s)
  | some (n, e) =>
    let s1 := s.dropPost x n e
    if e.epoch ≠ s1.epoch (plTile n) then (none, s1.fenceDiscard (64 + ch))
    else
      let stamp := s1.since e.inst / Config.fclk
      let cfg := s1.rd (Reg.LOOP_STAMP_CFG n)
      let late := decide (fget Fld.LOOP_STAMP_CFG_LIMIT cfg < stamp)
      let t := s1.tile x n
      let s2 := if late then
          let rc := loopReg x (Reg.LOOP_CNT n)
          let u := (s1.setTile x n { t with late := true, flags := withBit t.flags 13 true }).bump rc Fld.LOOP_CNT_LATES
          if x = s1.serving then u.postLimited Ev.TILE_LATE n 0 (u.fld rc Fld.LOOP_CNT_LATES) else u
        else s1
      if late && fget Fld.LOOP_STAMP_CFG_LATE_ACTION cfg == 1 then (none, s2)
      else
        let r := loopReg x (Reg.LOOP_STAMP n)
        let s3 := (s2.setF r Fld.LOOP_STAMP_LAST (min stamp 0xFFFF)).peak r Fld.LOOP_STAMP_MAX stamp
        (some (toWord e.val), s3.setTile x n { s3.tile x n with stampNow := min stamp 0xFFFF })

/-- The PERIOD and PHASE that take effect at p.next: the newest whose flip lies more than 48 FCLK periods before it (R243). -/
def Pair.due (p : Pair) : Option (Nat × Nat × Nat) := p.pend.find? fun e => decide (e.1 + 48 * 64 < p.next)

/-- The length of the period that starts at p.next (R243). -/
def Pair.perAt (p : Pair) : Nat := p.due.elim p.per fun e => e.2.1

/-- A pair whose PERIOD or PHASE changes, a flip at an instant (R243). -/
def Pair.await (p : Pair) (t per ph : Nat) : Pair := { p with pend := (t, per, ph) :: p.pend }

/-- The edge engine runs pair n on a side. -/
def State.pairRuns (s : State) (x : Side) (n : Nat) : Bool :=
  s.pairUsed n && s.runsControl x && (s.pair x n).run

/-- A turn-on rounded later and a turn-off rounded earlier to the FCLK grid while a pad is in fallback (R265). -/
def padTime (fallback on : Bool) (t : Nat) : Nat :=
  if fallback then (if on then (t + 63) / 64 * 64 else t / 64 * 64) else t

/-- Pad n's output, A (false) or B, is in fallback (R264). -/
def State.inFallback (s : State) (n : Nat) (b : Bool) : Bool := (s.pad (2 * n + flag b)).fallback

/-- The switching of both pads that reference edges in order of time give (R237): time, PWMB rather than PWMA, on. An output whose
complement's turn comes before its delay has passed does not turn on. -/
def State.padEdges (s : State) (x : Side) (n : Nat) : List (Nat × Bool) → List (Nat × Bool × Bool)
  | [] => []
  | (t, rising) :: rest =>
    let on := t + (if rising then s.riseEff x n else s.fallEff x n)
    (padTime (s.inFallback n rising) false t, rising, false)
      :: (if rest.head?.any fun e => decide (e.1 ≤ on) then [] else [(padTime (s.inFallback n (!rising)) true on, !rising, true)])
      ++ s.padEdges x n rest

/-- Pad edges that follow some already placed: a turn-on still to come at or after the first new reference edge does not happen (R237). -/
def State.joinEdges (s : State) (x : Side) (n : Nat) (out : List (Nat × Bool × Bool)) (refs : List (Nat × Bool)) : List (Nat × Bool × Bool) :=
  match refs.head? with
  | none => out
  | some e => (out.filter fun o => !(o.2.2 && decide (e.1 ≤ o.1))) ++ s.padEdges x n refs

/-- What a side produced in the running base cycle (R161): edge commands of local pairs and entries of ring legs, each number under a key. -/
def State.produce (s : State) (x : Side) (items : List (Nat × Int)) : State :=
  { s with keep := { s.keep with made := SMap.put (fun _ => []) s.keep.made x.code (SMap.get (fun _ => []) s.keep.made x.code ++ items) } }

/-- Edge commands of a pair as a side produced them (R161). -/
def edgeItems (n : Nat) (out : List (Nat × Bool × Bool)) : List (Nat × Int) := out.map fun e => (4 * n + 2 * flag e.2.1 + flag e.2.2, (e.1 : Int))

/-- The edges computed at a middle that fall into the period under way are placed now; a pair that is held or not yet switching places
none. -/
def State.placeRest (s : State) (x : Side) (n : Nat) : State :=
  let p := s.pair x n
  let here := p.refs.filter fun e => decide (e.1 < p.next)
  let on := !p.held && p.enter == 2 && !s.edge.pairOff.contains n && s.fld (Reg.EDGE_PSTAT n) Fld.EDGE_PSTAT_ORPHAN == 0
  let s1 := s.setPair x n { p with
    refs := p.refs.filter fun e => decide (p.next ≤ e.1)
    out := if on then s.joinEdges x n p.out here else p.out }
  if on then s1.produce x (edgeItems n (s.padEdges x n here)) else s1

/-- EDGE_UPDATE_POINT (R245 to R249): 48 FCLK periods before the start (or the middle) the engine takes the newest post and
computes the edges it governs; the update point lies in the FCLK period of this step (R280). -/
def execEdgeUpdatePoint (dt : Nat) (x : Side) (n : Nat) (mid : Bool) (s : State) : Out :=
  let s1 := s.tick dt
  let p := s1.pair x n
  let upd := s1.fld (Reg.EDGE_CFG n) Fld.EDGE_CFG_UPD
  let serves := if mid then upd == 1 || upd == 2 else upd == 0 || upd == 2
  let event := if mid then p.start + p.per / 2 else p.next
  let done := if mid then p.halfDone else p.zeroDone
  if !s1.pairRuns x n || !serves || done || decide (s1.nowUnits + 64 + 48 * 64 ≤ event) || decide (event < s1.nowUnits + 48 * 64) then .next s1
  else
    let (w, s2) := s1.takePost x n
    let p2 := s2.pair x n
    let s3 := s2.setPair x n { p2 with
      word := w.getD p2.word, sawUpdate := p2.sawUpdate || (p2.held && !s2.pairTripped n),
      zeroDone := p2.zeroDone || !mid, halfDone := p2.halfDone || mid,
      enter := if w.isSome && p2.enter == 0 then 1 else p2.enter }
    let s4 := match w with
      | some v => s3.wr (loopReg x (Reg.EDGE_CMD n)) v
      | none => s3
    let per := p2.perAt
    if upd = 2 then .next (if mid then (s4.bothOff x n p2.start p2.per).placeRest x n else s4.bothOn x n p2.next per)
    else if mid then .next ((s4.governs x n p2.start p2.per (p2.per / 2)).placeRest x n)
    else .next (s4.governs x n p2.next per 0)

/-! ### Carrier periods (R240 to R243, R253, R254, R278) -/

/-- One trim moved toward 0 by STEP while its edge is idle, and 0 while it is disabled (R253, R254). -/
def trimIdle (en : Bool) (idle : Bool) (step : Nat) (t : Int) : Int :=
  if !en then 0
  else if idle then (if t < 0 then min 0 (t + step) else max 0 (t - step))
  else t

/-- The trims at a period start. -/
def State.trimsAtStart (s : State) (x : Side) (n : Nat) : State :=
  let c := s.rd (Reg.EDGE_TRIM_CFG n)
  let r := loopReg x (Reg.EDGE_TRIM n)
  let p := s.pair x n
  let step := fget Fld.EDGE_TRIM_CFG_STEP c
  let rise := trimIdle (fget Fld.EDGE_TRIM_CFG_RISE_EN c == 1) (decide (16 ≤ p.riseMiss)) step (s.fldS r Fld.EDGE_TRIM_RISE_TRIM)
  let fall := trimIdle (fget Fld.EDGE_TRIM_CFG_FALL_EN c == 1) (decide (16 ≤ p.fallMiss)) step (s.fldS r Fld.EDGE_TRIM_FALL_TRIM)
  let bound := fun (st : State) (f : Field) (old new : Int) (en : Bool) =>
    if old = new ∧ en then st else st.setF (loopReg x (Reg.EDGE_PSTAT n)) f (flag (en && new.natAbs == fget Fld.EDGE_TRIM_CFG_TRIM_MAX c))
  let s1 := (s.setFS r Fld.EDGE_TRIM_RISE_TRIM rise).setFS r Fld.EDGE_TRIM_FALL_TRIM fall
  let s2 := bound s1 Fld.EDGE_PSTAT_RISE_AT_BOUND (s.fldS r Fld.EDGE_TRIM_RISE_TRIM) rise (fget Fld.EDGE_TRIM_CFG_RISE_EN c == 1)
  bound s2 Fld.EDGE_PSTAT_FALL_AT_BOUND (s.fldS r Fld.EDGE_TRIM_FALL_TRIM) fall (fget Fld.EDGE_TRIM_CFG_FALL_EN c == 1)

/-- What a pad drives: low, high or high-impedance. -/
inductive Drive where
  | low | high | hiZ
  deriving DecidableEq, Repr

/-- The outputs' levels of a pair at its trip pattern or orphan state at an instant (R271): an output that the pattern holds on turns on
no earlier than its effective delay after its complement turned off, in fallback at the FCLK grid (R265). -/
def State.patternLevels (s : State) (x : Side) (n pat now : Nat) : Bool × Bool :=
  let p := s.pair x n
  (pat == 1 && (p.levelA || decide (padTime (s.inFallback n false) true (p.offB + s.riseEff x n) ≤ now)),
   pat == 2 && (p.levelB || decide (padTime (s.inFallback n true) true (p.offA + s.fallEff x n) ≤ now)))

/-- How a pair that starts to switch at a period start begins: the pad edges of its first interval, the reference edges that follow, and
whether that interval was short and dropped (true) or widened (false). -/
structure Entering where
  first : List (Nat × Bool × Bool)
  refs : List (Nat × Bool)
  short : Option Bool
  deriving DecidableEq, Repr

/-- Reference edges after one that has moved: each leaves the interval before it long enough (R257, R258). -/
def spread (need : Bool → Nat) : Nat → List (Nat × Bool) → List (Nat × Bool)
  | _, [] => []
  | last, (t, k) :: r => (max t (last + need (!k)), k) :: spread need (max t (last + need (!k))) r

/-- The first edges of a pair that starts to switch at a period start, with its outputs at a and b until then (R278): the outputs follow the
reference as it stands from the start on, every turn-on waits its effective delay from its complement's turn-off, and an interval shorter
than MINPW is not begun under DROP, the outputs staying as they were until it ends, and is widened by the edge that ends it under
HOLD_MIN (R256 to R258). An output that is already on goes on. -/
def State.enterEdges (s : State) (x : Side) (n at' : Nat) (a b : Bool) : Entering :=
  let p := s.pair x n
  let ahead := p.refs.filter fun e => decide (at' < e.1)
  let high := ahead.head?.elim p.high fun e => !e.2
  let own := if high then a else b
  let t := if own then at' else padTime (s.inFallback n (!high)) true
    (max at' (if high then (if b then at' else p.offB) + s.riseEff x n else (if a then at' else p.offA) + s.fallEff x n))
  let first : List (Nat × Bool × Bool) := [(padTime (s.inFallback n high) false at', high, false), (t, !high, true)]
  match ahead with
  | [] => ⟨first, [], none⟩
  | e :: rest =>
    if own ∨ t + s.chanMinpw n ≤ e.1 then ⟨first, ahead, none⟩
    else if fget Fld.EDGE_CFG_POLICY (s.chanCfg n) = 1 then
      ⟨first, (t + s.chanMinpw n, e.2) :: spread (s.chanNeed x n) (t + s.chanMinpw n) rest, some false⟩
    else ⟨[], ahead, some true⟩

/-- A pair stands at its orphan state (R273). -/
def State.pairOrphan (s : State) (n : Nat) : Bool := s.fld (Reg.EDGE_PSTAT n) Fld.EDGE_PSTAT_ORPHAN == 1

/-- CARRIER_PERIOD_START (R240, R243, R278): the next period starts; its edges are placed, unless the pair is held at its
trip pattern; a pair whose groups are clear leaves the pattern after an update point, and one that has had no post yet drives both outputs
low then. -/
def execCarrierPeriodStart (dt : Nat) (x : Side) (n : Nat) (s : State) : Out :=
  let s1 := s.tick dt
  let p := s1.pair x n
  if !s1.pairRuns x n || decide (s1.nowUnits + 64 ≤ p.next) then .next s1
  else
    let per := p.perAt
    let ph := p.due.elim p.ph fun e => e.2.2
    let len := if p.due.isSome then per + (ph + per - p.ph % max per 1) % max per 1 else p.per
    let leave := p.held && p.sawUpdate && !s1.pairTripped n
    let held := p.held && !leave
    let next := p.next + len
    let off := s1.edge.pairOff.contains n
    let idle := held || s1.pairOrphan n
    let pat := s1.patternLevels x n (s1.fld (Reg.EDGE_CFG n) Fld.EDGE_CFG_TRIP_PAT) p.next
    let was : Bool × Bool := if leave then pat else (levelAt p.out false p.next p.levelA, levelAt p.out true p.next p.levelB)
    let low := off || p.enter == 0
    let enters := !idle && !low && (leave || p.enter == 1)
    let ent := s1.enterEdges x n p.next was.1 was.2
    let refs := if enters then ent.refs else p.refs
    let here := refs.filter fun e => decide (e.1 < next)
    let p2 : Pair := { p with
      start := p.next, next := next, per := per, ph := ph, pend := p.pend.takeWhile (fun e => decide (p.next ≤ e.1 + 48 * 64)),
      zeroDone := false, halfDone := false, held := held, sawUpdate := if leave then false else p.sawUpdate,
      refs := refs.filter fun e => decide (next ≤ e.1), last := if enters then ent.refs.getLast?.elim p.last (·.1) else p.last,
      out := if idle || low then []
             else if enters then s1.joinEdges x n ent.first here
             else s1.joinEdges x n (p.out.filter fun e => decide (p.next < e.1 + 192)) here,
      levelA := if idle then p.levelA else was.1 && !low, levelB := if idle then p.levelB else was.2 && !low,
      offA := if idle then p.offA else if low && was.1 then p.next else if leave then p.offA else p.offTime false p.next,
      offB := if idle then p.offB else if low && was.2 then p.next else if leave then p.offB else p.offTime true p.next,
      enter := if enters then 2 else if off && p.enter == 2 then 1 else p.enter }
    let made := if idle || low then [] else (if enters then ent.first else []) ++ s1.padEdges x n here
    let s2 := ((s1.setPair x n p2).produce x (edgeItems n made)).trimsAtStart x n
    let s3 := match (if enters then ent.short else none) with
      | some d => s2.shortPulse x n d
      | none => s2
    .next (if leave then s3.pstat n Fld.EDGE_PSTAT_TRIPPED 0 else s3)

/-- A pair whose carrier stops: what its outputs last did stays (R237, R273). -/
def Pair.stopped (p : Pair) : Pair :=
  { Pair.reset with held := p.held, levelA := p.levelA, levelB := p.levelB, offA := p.offA, offB := p.offB }

/-- A used pair's carrier starts with its structure: PERIOD and PHASE in force, the first period start after now (R240). -/
def State.startCarrier (s : State) (x : Side) (n : Nat) : State :=
  let per := s.chanPer n
  let ph := s.chanPh n
  let first := s.nextStart n per ph s.nowUnits
  let p := s.pair x n
  let tripped := s.pairTripped n
  s.setPair x n { p.stopped with
    run := true, start := first - per, next := first, per := per, ph := ph, held := tripped,
    levelA := p.levelA && tripped, levelB := p.levelB && tripped }

/-- The period under way ends earlier or later by some edge units; the edges already computed for the next one move with its start. -/
def Pair.moveNext (p : Pair) (shift : Int) : Pair :=
  let mv := fun t : Nat => if p.next ≤ t then ((t : Int) + shift).toNat else t
  { p with next := mv p.next, refs := p.refs.map fun e => (mv e.1, e.2), last := mv p.last, fix := p.fix.map mv }

/-- The ring legs at a boundary: a CYCLE carrier's period under way moves with it (R242), and a side that does not run the control keeps
none. -/
def State.legsBoundary (s : State) (shift : Int) : State :=
  let runs := fun k : Nat => s.runsControl (if k / 65536 = Side.a.code then .a else .b)
  let keep := s.edge.pairs.filter fun (e : Nat × Pair) => decide (e.1 % 65536 < 64) || runs e.1
  let move := fun (e : Nat × Pair) =>
    if 64 ≤ e.1 % 65536 ∧ fget Fld.EDGE_CFG_SYNC (s.chanCfg (e.1 % 65536)) = 1 then (e.1, e.2.moveNext shift) else e
  { s with edge := { s.edge with pairs := if shift = 0 then keep else keep.map move } }

/-- At a boundary a pair that the running side does not yet run starts; a boundary the Guard die moved by some edge units
moves the period of a CYCLE carrier that contains it (R242); the carriers of a side that does not run the control stop. -/
def State.edgeBoundary (s : State) (shift : Int) : State :=
  (List.range (pairsOf s.variant)).foldl (fun st n =>
    [Side.a, Side.b].foldl (fun u x =>
      if u.pairUsed n && u.runsControl x then
        let p := u.pair x n
        if !p.run then u.startCarrier x n
        else if shift ≠ 0 ∧ u.fld (Reg.EDGE_CFG n) Fld.EDGE_CFG_SYNC = 1 then
          u.setPair x n (p.moveNext shift)
        else u
      else if (u.pair x n).run then
        let p := u.pair x n
        u.setPair x n (if p.held || u.pairOrphan n then p else p.freeze u.nowUnits).stopped
      else u) st) (s.legsBoundary shift)

/-- A flip of PERIOD or PHASE waits for the period start of R243, on each side but one in BULK or SHADOW (R153, R188). -/
def State.edgeFlip (s : State) (addrs : List Nat) : State :=
  let sides := [Side.a, Side.b].filter fun x => (s.side x).state != .bulk && (s.side x).state != .shadow
  (List.range (pairsOf s.variant)).foldl (fun st n =>
    if addrs.contains (Reg.EDGE_PERIOD n) || addrs.contains (Reg.EDGE_PHASE n) then
      sides.foldl (fun u x => u.setPair x n ((u.pair x n).await u.nowUnits (u.chanPer n) (u.chanPh n))) st
    else st) s

/-- The standby side's carriers, edges, trims, their bounds and misses, and minimum-pulse counters are the active side's with the Keeper copy
(R169, R244), and so are the carriers and computed edges of the ring legs. -/
def State.edgeCopy (s : State) (x y : Side) : State :=
  let legs := (s.edge.pairs.filter fun e => e.1 / 65536 == x.code && decide (64 ≤ e.1 % 65536)).map fun e => (e.1 % 65536, e.2)
  (List.range (pairsOf s.variant)).foldl (fun st n =>
    if st.pairUsed n then
      [Reg.EDGE_TRIM n, Reg.EDGE_PSTAT n, Reg.EDGE_PCNT n, Reg.EDGE_CMD n, Reg.EDGE_SWN n].foldl
        (fun u a => u.wr (loopReg y a) (u.rd (loopReg x a))) (st.setPair y n (st.pair x n))
    else st) (legs.foldl (fun st e => st.setPair y e.1 e.2) s)

/-! ### Dead-time trims and switch nodes (R250 to R255) -/

/-- One trim after a measured transition (R251): toward MEAS + MARGIN − DELAY by at most STEP, within ±TRIM_MAX. -/
def trimMove (step bound : Nat) (target t : Int) : Int :=
  let d := clampInt (-(step : Int)) step (target - t)
  clampInt (-(bound : Int)) bound (t + d)

/-- The timestamp of the pad edge that a measurement of pair n follows (R21, R250): when PWMA_n, or PWMB_n, last turned off. -/
def State.padEdgeTs (s : State) (n : Nat) (fall : Bool) : Count :=
  s.tm.ts - BitVec.ofNat 64 ((s.nowUnits - (s.pair s.serving n).offTime (!fall) s.nowUnits) * Config.fclk / 64)

/-- The measurement of one side, stamped with its pad edge: SWN, the trim, AT_BOUND, and the miss count. -/
def State.swnSide (s : State) (x : Side) (n : Nat) (fall : Bool) (meas : Nat) : State :=
  let c := s.rd (Reg.EDGE_TRIM_CFG n)
  let r := loopReg x (Reg.EDGE_TRIM n)
  let ps := loopReg x (Reg.EDGE_PSTAT n)
  let f := if fall then Fld.EDGE_TRIM_FALL_TRIM else Fld.EDGE_TRIM_RISE_TRIM
  let en := fget (if fall then Fld.EDGE_TRIM_CFG_FALL_EN else Fld.EDGE_TRIM_CFG_RISE_EN) c
  let delay := if fall then s.fld (Reg.EDGE_FALL n) Fld.EDGE_FALL_DELAY else s.fld (Reg.EDGE_RISE n) Fld.EDGE_RISE_DELAY
  let bound := fget Fld.EDGE_TRIM_CFG_TRIM_MAX c
  let s1 := s.setF (loopReg x (Reg.EDGE_SWN n)) (if fall then Fld.EDGE_SWN_FALL_MEAS else Fld.EDGE_SWN_RISE_MEAS) meas
  let p := s1.pair x n
  let p2 : Pair := if fall then { p with fallMiss := 0, fallTs := s.padEdgeTs n fall } else { p with riseMiss := 0, riseTs := s.padEdgeTs n fall }
  let s2 := s1.setPair x n p2
  let s3 := s2.setF ps Fld.EDGE_PSTAT_SWN_IDLE (flag (decide (16 ≤ p2.fallMiss) || decide (16 ≤ p2.riseMiss)))
  if en = 0 then s3
  else
    let t := trimMove (fget Fld.EDGE_TRIM_CFG_STEP c) bound
      ((meas : Int) + fget Fld.EDGE_TRIM_CFG_MARGIN c - delay) (s3.fldS r f)
    (s3.setFS r f t).setF ps (if fall then Fld.EDGE_PSTAT_FALL_AT_BOUND else Fld.EDGE_PSTAT_RISE_AT_BOUND)
      (flag (t.natAbs == bound))

/-- A miss of one side (R253). -/
def State.swnMissSide (s : State) (x : Side) (n : Nat) (fall : Bool) : State :=
  let s1 := s.setF (loopReg x (Reg.EDGE_SWN n)) (if fall then Fld.EDGE_SWN_FALL_MEAS else Fld.EDGE_SWN_RISE_MEAS) 0xFFFF
  let p := s1.pair x n
  let p2 : Pair := if fall then { p with fallMiss := p.fallMiss + 1 } else { p with riseMiss := p.riseMiss + 1 }
  let s2 := s1.setPair x n p2
  if 16 ≤ p2.fallMiss ∨ 16 ≤ p2.riseMiss then s2.setF (loopReg x (Reg.EDGE_PSTAT n)) Fld.EDGE_PSTAT_SWN_IDLE 1 else s2

/-- A measurement taken on each side that runs the control (R22, R250). -/
def State.bothSides (s : State) (f : State → Side → State) : State :=
  ([Side.a, Side.b].filter s.runsControl).foldl f s

/-- DELAY + TRIM_MAX of an edge: the longest wait for its transition (R253). -/
def State.swnLimit (s : State) (n : Nat) (fall : Bool) : Nat :=
  (if fall then s.fld (Reg.EDGE_FALL n) Fld.EDGE_FALL_DELAY else s.fld (Reg.EDGE_RISE n) Fld.EDGE_RISE_DELAY)
    + s.fld (Reg.EDGE_TRIM_CFG n) Fld.EDGE_TRIM_CFG_TRIM_MAX

/-- SWN_TRANSITION (R250, R251): the switch node moved meas edge units after the pad edge; later than the limit it is a
miss. -/
def execSwnTransition (dt : Nat) (n : Nat) (fall : Bool) (meas : Nat) (s : State) : Out :=
  let s1 := s.tick dt
  if !s1.pairUsed n then .next s1
  else if s1.swnLimit n fall < meas then .next (s1.bothSides fun st x => st.swnMissSide x n fall)
  else .next (s1.bothSides fun st x => st.swnSide x n fall meas)

/-- SWN_MISS (R253): no transition within DELAY + TRIM_MAX of the pad edge. -/
def execSwnMiss (dt : Nat) (n : Nat) (fall : Bool) (s : State) : Out :=
  let s1 := s.tick dt
  if !s1.pairUsed n then .next s1 else .next (s1.bothSides fun st x => st.swnMissSide x n fall)

/-- SWN_FAULT (R255): the pad has been fully on for some FCLK periods and the switch node stands at the opposite level, or
not. -/
def execSwnFault (dt : Nat) (n : Nat) (opposite : Bool) (onFor : Nat) (s : State) : Out :=
  let s1 := s.tick dt
  if !s1.pairUsed n then .next s1
  else .next (s1.qsetSource (48 + n) (opposite && decide (s1.parN (Par.blank n) < onFor)))

/-! ### Delay lines and pads (R262 to R267) -/

/-- The state with a pad set: 2 × pair, + 1 for PWMB. -/
def State.setPad (s : State) (k : Nat) (p : Pad) : State :=
  { s with edge := { s.edge with pads := SMap.put (fun _ => Pad.reset) s.edge.pads k p } }

/-- DL_FALLBACK, FALLBACK_ANY, PAD_SHORT and SHORT_ANY follow the pads. -/
def State.showPads (s : State) (n : Nat) : State :=
  let a := s.pad (2 * n)
  let b := s.pad (2 * n + 1)
  let s1 := s.pstat n Fld.EDGE_PSTAT_DL_FALLBACK (flag (a.fallback || b.fallback))
  let s2 := (s1.pstat n Fld.EDGE_PSTAT_PAD_SHORT_A (flag a.shorted)).pstat n Fld.EDGE_PSTAT_PAD_SHORT_B (flag b.shorted)
  let any := fun (f : Pad → Bool) => s2.edge.pads.any fun e => f e.2
  (s2.setF Reg.EDGE_STAT Fld.EDGE_STAT_FALLBACK_ANY (flag (any Pad.fallback))).setF Reg.EDGE_STAT
    Fld.EDGE_STAT_SHORT_ANY (flag (any Pad.shorted))

/-- DLINE_CALIBRATION_DONE (R262, R264): the line not in use was calibrated; two failures in a row put the pad on the FCLK
grid, a success ends that. -/
def execDlineCalibrationDone (dt : Nat) (n : Nat) (b : Bool) (taps : Nat) (monotonic : Bool) (s : State) : Out :=
  let s1 := s.tick dt
  let k := 2 * n + flag b
  let p := s1.pad k
  let failF := if b then Fld.EDGE_CAL_FAIL_B else Fld.EDGE_CAL_FAIL_A
  if !s1.pairUsed n then .next s1
  else if 80 ≤ taps ∧ taps ≤ 160 ∧ monotonic then
    let other := 1 - p.line
    let s2 := s1.setPad k { p with
      taps := SMap.put (fun _ => 0) p.taps other taps, calAt := SMap.put (fun _ => 0) p.calAt other s1.tm.mono,
      fails := 0, fresh := true, fallback := false }
    .next ((s2.setF (Reg.EDGE_CAL n) failF 0).showPads n)
  else
    let down := decide (2 ≤ p.fails + 1)
    let s2 := s1.setPad k { p with fails := p.fails + 1, fallback := p.fallback || down }
    let s3 := (s2.setF (Reg.EDGE_CAL n) failF 1).showPads n
    .next (if down && !p.fallback then s3.post Ev.DLINE_FAIL n else s3)

/-- No edge of a pad, placed or computed or made by the entry to its trip pattern, lies within two FCLK periods of the running one (R263). -/
def State.padQuiet (s : State) (n : Nat) (b : Bool) : Bool :=
  let p := s.pair s.serving n
  let pat := (if b then p.offA + s.fallEff s.serving n else p.offB + s.riseEff s.serving n, b, true)
  !((p.out ++ s.padEdges s.serving n p.refs ++ [(if b then p.offB else p.offA, b, false)] ++ (if p.held then [pat] else [])).any fun e =>
      e.2.1 == b && decide (s.nowUnits ≤ e.1 + 128) && decide (e.1 < s.nowUnits + 192))

/-- DLINE_EXCHANGE (R263): a fresh line replaces the line in use in a period without edges near it. -/
def execDlineExchange (dt : Nat) (n : Nat) (b : Bool) (s : State) : Out :=
  let s1 := s.tick dt
  let k := 2 * n + flag b
  let p := s1.pad k
  if s1.pairUsed n && p.fresh && s1.padQuiet n b then
    let s2 := s1.setPad k { p with line := 1 - p.line, fresh := false }
    .next (s2.setF (Reg.EDGE_CAL n) (if b then Fld.EDGE_CAL_TAPS_B else Fld.EDGE_CAL_TAPS_A)
      (min 255 (SMap.get (fun _ => 0) p.taps (1 - p.line))))
  else .next s1

/-- PWM_PAD_SHORT (R266): a pad's readback has differed from its command for some counts outside the 40 ns after a change;
from 100 ns it is shorted; 0 says the readback agrees again. -/
def execPwmPadShort (dt : Nat) (n : Nat) (b : Bool) (differs : Nat) (s : State) : Out :=
  let s1 := s.tick dt
  let k := 2 * n + flag b
  let p := s1.pad k
  if !s1.pairUsed n then .next s1
  else if Config.nsec 100 ≤ differs then
    if p.shorted then .next s1
    else .next (((s1.setPad k { p with shorted := true }).showPads n).qsetSource 116 true |>.post Ev.PWM_PAD_SHORT n (flag b))
  else if differs = 0 ∧ p.shorted then
    let s2 := (s1.setPad k { p with shorted := false }).showPads n
    .next (s2.qsetSource 116 (s2.edge.pads.any fun e => e.2.shorted))
  else .next s1

/-- The edges of an output held off until an instant: what would turn it on before does so then, in fallback at the FCLK grid (R265). -/
def holdOff (fallback : Bool) (out : List (Nat × Bool × Bool)) (b : Bool) (before : Bool) (now upTo : Nat) : List (Nat × Bool × Bool) :=
  let till := padTime fallback true upTo
  let mine := out.filter fun e => e.2.1 == b
  let others := out.filter fun e => e.2.1 != b
  if till ≤ now then out
  else
    others ++ [(now, b, false)] ++ (if levelAt out b till before then [(till, b, true)] else [])
      ++ mine.filter fun e => decide (till < e.1)

/-- A pair when the merge passes from one side to the other (R180): an output whose complement turned off less than the dead time earlier, or
turns off when the hold gap ends, stays off until the dead time has passed. -/
def State.mergePair (s : State) (old new : Side) (till n : Nat) : State :=
  let now := s.nowUnits
  let o := s.pair old n
  let p := s.pair new n
  if o.held || p.held then s
  else
    let offA := if levelAt o.out false now o.levelA then till else o.offTime false now
    let offB := if levelAt o.out true now o.levelB then till else o.offTime true now
    let out1 := holdOff (s.inFallback n false) p.out false p.levelA now (offB + s.riseEff new n)
    s.setPair new n { p with out := holdOff (s.inFallback n true) out1 true p.levelB now (offA + s.fallEff new n) }

/-- The merge moves to the other side (R180): after a hold gap of at most 5 ns, a free value, in which each pad keeps its level. -/
def State.mergeMove (s : State) (old new : Side) : State :=
  let (g, s1) := s.freshInt
  let till := s1.nowUnits + 64 * (g.natAbs % 5)
  let used := (List.range (pairsOf s1.variant)).filter s1.pairUsed
  let lv := used.map fun n =>
    let o := s1.pair old n
    (n, levelAt o.out false s1.nowUnits o.levelA, levelAt o.out true s1.nowUnits o.levelB)
  let s2 := used.foldl (fun st n => st.mergePair old new till n) s1
  { s2 with edge := { s2.edge with gap := ⟨till, lv⟩ } }

/-- The pads of a pair as the Guard die drives them (R8, R23, R178, R180, R267, R271, R273): pads of absent pairs high-impedance always;
before the Guard step (R722) and in NIGHT and DARK (R710) low; unused pairs high-impedance; in orphan state both off or at the trip
pattern, as the image set; at the trip pattern while tripped; low from the Guard step to RUN (R723) and in WATCH; in the merge's hold gap
as they stood; else the serving side's edges. -/
def State.pwmPads (s : State) (n : Nat) : Drive × Drive :=
  let d := fun (v : Bool) => if v then Drive.high else Drive.low
  let p := s.pair s.serving n
  let pat := fget Fld.EDGE_CFG_TRIP_PAT (s.padWord n)
  let at' := fun k => (d (s.patternLevels s.serving n k s.nowUnits).1, d (s.patternLevels s.serving n k s.nowUnits).2)
  if pairsOf s.variant ≤ n then (.hiZ, .hiZ)
  else if s.sup.phase ≠ 4 ∨ 3 ≤ s.fld Reg.PWR_STAT Fld.PWR_STAT_STATE then (.low, .low)
  else if !s.padUsed n then (.hiZ, .hiZ)
  else if s.fld (Reg.EDGE_PSTAT n) Fld.EDGE_PSTAT_ORPHAN = 1 then
    at' (if SMap.get (fun _ => 0) s.img.guardPars (Par.orphanTrip n) = 1 then pat else 0)
  else if p.held then at' pat
  else if !s.edgesOn then (.low, .low)
  else if s.nowUnits < s.edge.gap.till then
    let lv := SMap.get (fun _ => (false, false)) s.edge.gap.levels n
    (d lv.1, d lv.2)
  else (d (levelAt p.out false s.nowUnits p.levelA), d (levelAt p.out true s.nowUnits p.levelB))

/-- A write to EDGE_CLR (R260). -/
def State.edgeClrWrite (s : State) (acc : Access) (val : Word) : State :=
  s.command acc Reg.EDGE_CLR .op fun s1 =>
    if val.getLsbD 0 then
      (List.range (pairsOf s1.variant)).foldl (fun st n =>
        ((st.clearCount (Reg.EDGE_PCNT n)).clearCount (Reg.EDGE_PCNT n + 0x2000000)).forget Ev.EDGE_SHORT_PULSE n) s1
    else s1

/-- EDGE_CLR (R260). -/
def execEdgeClr (dt : Nat) (acc : Access) (val : Word) (s : State) : Out := .next ((s.tick dt).edgeClrWrite acc val)

end Sys2Proof.Machine
end

