-- ==== Sys2Proof/Machine/Legs.lean ====
section
/-! DEFINITION. The legs of a ring endpoint: what an entry of a schedule makes of its leg's reference and outputs (R261, R271, R289, R290,
R301, R305, R307, R309, R311). Instants are ring times; offsets are counted from the instant since which the entry in force governs. -/

namespace Sys2Proof.Machine

open Sys2Proof

/-- When an entry applies (R301): at T_APPLY when it came 0.3 µs before it, else at the first period start 0.3 µs after it
came. -/
def RingEntry.applyAt (n : RingEntry) : Nat :=
  let lag := rtDiff (n.arrived + 15360) n.tApply
  if lag ≤ 0 then n.tApply
  else (n.tApply + (lag.toNat + max n.per 1 - 1) / max n.per 1 * max n.per 1) % rtSpan

/-- The first period start of an entry at or after a ring time. -/
def RingEntry.startFrom (n : RingEntry) (t : Nat) : Nat :=
  let p := max n.per 1
  (n.tApply + ((rtDiff t n.tApply).toNat + p - 1) / p * p) % rtSpan

/-- The entry applied anew from its next period start at a ring time or after it (R311). -/
def RingEntry.again (n : RingEntry) (now : Nat) : RingEntry :=
  { n with tApply := n.startFrom now, arrived := (now + rtSpan - 15360) % rtSpan }

/-- The reference edges of one period of an entry as offsets from its start (R237, R238): W = 0 keeps the reference low; a compare at PERIOD
or beyond is not met. -/
def RingEntry.edges (n : RingEntry) : List (Nat × Bool) :=
  let p := max n.per 1
  if n.on % p = n.off % p then [(0, false)]
  else
    let r := if n.on < p then [(n.on, true)] else []
    let f := if n.off < p then [(n.off, false)] else []
    if n.on < n.off then r ++ f else f ++ r

/-- EN of an entry (R289). -/
def RingEntry.enabled (n : RingEntry) : Bool := n.flags.testBit 0
/-- POLICY HOLD_MIN of an entry. -/
def RingEntry.hold (n : RingEntry) : Bool := n.flags.testBit 1
/-- The effective delay that opens an output of an entry: RISE for A, FALL for B. -/
def RingEntry.eff (n : RingEntry) (high : Bool) : Nat := if high then n.rise else n.fall
/-- How long an entry's reference must stay at a level (R256). -/
def RingEntry.need (n : RingEntry) : Bool → Nat := refNeed n.rise n.fall n.minpw

/-- Edges in order of time. -/
def addEdge (e : Nat × Bool) : List (Nat × Bool) → List (Nat × Bool)
  | [] => [e]
  | f :: r => if e.1 < f.1 then e :: f :: r else f :: addEdge e r

/-- R261 on the edges that follow a level held since an offset: a short interval whose first edge stands is widened, and so is any under
HOLD_MIN; under DROP one that begins here goes with both its edges. The edges, newest first, and what was done (true: dropped). -/
def settle (hold : Bool) (need : Bool → Nat) (base : Int) : Bool → List (Nat × Bool) → List (Nat × Bool) → List Bool → List (Nat × Bool) × List Bool
  | _, acc, [], c => (acc, c)
  | lvl, acc, (o, k) :: r, c =>
    let last : Int := acc.head?.elim base fun e => e.1
    if k = lvl then settle hold need base lvl acc r c
    else if last + need lvl ≤ o then settle hold need base k ((o, k) :: acc) r c
    else if !hold && !acc.isEmpty then settle hold need base k acc.tail r (true :: c)
    else settle hold need base k (((last + need lvl).toNat, k) :: acc) r (false :: c)

/-- A leg's reference at an instant: its level, since when, from when that level's output is on, and when each output last turned off. -/
structure RefAt where
  high : Bool
  edgeAt : Int
  onAt : Option Int
  offA : Nat
  offB : Nat
  deriving DecidableEq, Repr

/-- One reference edge: the output of the old level turns off, the other turns on after its delay (R237). -/
def RefAt.edge (n : RingEntry) (since : Nat) (a : RefAt) (e : Nat × Bool) : RefAt :=
  if e.2 = a.high then a
  else
    let was := a.onAt.any fun (t : Int) => decide (t ≤ (e.1 : Int))
    { high := e.2, edgeAt := e.1, onAt := some ((e.1 + n.eff e.2 : Nat) : Int)
      offA := if a.high && was then (since + e.1) % rtSpan else a.offA
      offB := if !a.high && was then (since + e.1) % rtSpan else a.offB }

/-- The edges of a leg that matter up to an offset: those of the first period, and of the last two. -/
def Leg.edges (g : Leg) (n : RingEntry) (d : Nat) : List (Nat × Bool) :=
  let p := max n.per 1
  let at' := fun k => n.edges.map fun e => (k * p + e.1, e.2)
  ((if 2 ≤ d / p then at' (d / p - 1) else []) ++ (if 1 ≤ d / p then at' (d / p) else [])).foldl (fun l e => addEdge e l) g.first

/-- The reference of a leg at an instant, the edges before an offset taken. -/
def Leg.refAt (g : Leg) (n : RingEntry) (d : Nat) : RefAt :=
  ((g.edges n d).filter fun e => decide (e.1 < d)).foldl (RefAt.edge n g.since) ⟨g.high, g.edgeAt, g.onAt, g.offA, g.offB⟩

/-- The outputs of a leg that follows its entry, at a ring time (R237, R290): off while it stands still or has no entry. -/
def Leg.live (g : Leg) (t : Nat) : Bool × Bool :=
  match g.force with
  | none => (false, false)
  | some n =>
    if g.still then (false, false)
    else
      let d := rtDiff t g.since
      let a := g.refAt n (d.toNat + 1)
      let on := a.onAt.any fun u => decide (u ≤ d)
      (a.high && on, !a.high && on)

/-- A leg that stops following its entry at a ring time: its outputs at that instant and when each last turned off (R271). -/
def Leg.stop (g : Leg) (t : Nat) : Leg :=
  match g.force with
  | none => { g with still := true }
  | some n =>
    if g.still then g
    else
      let a := g.refAt n ((rtDiff t g.since).toNat + 1)
      let o := g.live t
      { g with still := true, levelA := o.1, levelB := o.2, offA := if o.1 then t else a.offA, offB := if o.2 then t else a.offB }

/-- The outputs of a leg at its trip pattern (R271, R305): an output that the pattern holds on turns on no earlier than its effective delay
after its complement turned off. -/
def Leg.pattern (g : Leg) (t : Nat) : Bool × Bool :=
  match g.force with
  | none => (false, false)
  | some n =>
    let pat := n.flags / 4 % 4
    (pat == 1 && (g.levelA || decide (0 ≤ rtDiff t (g.offB + n.rise))), pat == 2 && (g.levelB || decide (0 ≤ rtDiff t (g.offA + n.fall))))

/-- The outputs of a leg of an endpoint in RUN. -/
def Leg.outs (g : Leg) (t : Nat) : Bool × Bool := if g.held then g.pattern t else g.live t

/-- A leg that stood still, its outputs at a and b, follows an entry from a period start on (R261, R307): every turn-on waits its effective
delay from its complement's turn-off; a first interval shorter than MINPW is not begun under DROP, the outputs staying as they were, and is
widened under HOLD_MIN. -/
def Leg.start (g : Leg) (n : RingEntry) (t : Nat) (a b : Bool) : Leg × List Bool :=
  let es := n.edges
  let lvl := ((es.filter fun e => e.1 == 0).getLast?.orElse fun _ => es.getLast?).elim false (·.2)
  let ahead := es.filter fun e => decide (0 < e.1)
  let own := if lvl then a else b
  let gone : Int := if (if lvl then b else a) then 0 else rtDiff (if lvl then g.offB else g.offA) t
  let on : Int := if own then 0 else max 0 (gone + n.eff lvl)
  let g1 : Leg := { g with force := some n, since := t, held := false, clearAt := none, still := false
                           offA := if a then t else g.offA, offB := if b then t else g.offB }
  let short := !own && (ahead.find? fun e => e.2 != lvl).any fun e => decide ((e.1 : Int) < on + n.minpw)
  if short && !n.hold then
    ({ g1 with high := if a then true else if b then false else lvl, edgeAt := 0, onAt := if a || b then some 0 else none, first := ahead }, [true])
  else
    let base : Int := if own then -(n.need lvl : Int) else on - n.eff lvl
    let r := settle n.hold n.need base lvl [] ahead []
    ({ g1 with high := lvl, edgeAt := base, onAt := some on, first := r.1.reverse }, r.2)

/-- A leg that follows an entry passes to another at a period start (R261, R290, R311). -/
def Leg.change (g : Leg) (old n : RingEntry) (t : Nat) : Leg × List Bool :=
  let d := rtDiff t g.since
  let a := g.refAt old d.toNat
  let r := settle n.hold n.need (a.edgeAt - d) a.high [] n.edges []
  ({ g with force := some n, since := t, high := a.high, edgeAt := a.edgeAt - d, onAt := a.onAt.map (· - d), first := r.1.reverse
            offA := a.offA, offB := a.offB }, r.2)

/-- An entry applies to a leg that is not at its trip pattern (R289, R290): with EN = 0 both outputs are off. -/
def Leg.apply (g : Leg) (n : RingEntry) (t : Nat) : Leg × List Bool :=
  if !n.enabled then ({ g.stop t with force := some n, since := t }, [])
  else
    match g.force with
    | none => g.start n t false false
    | some o => if g.still then g.start n t false false else g.change o n t

/-- A leg takes the oldest entry that waits, at its instant (R290, R305): at the trip pattern it stays there unless its groups are clear. -/
def Leg.take (g : Leg) (n : RingEntry) (free : Bool) : Leg × List Bool :=
  let t := n.applyAt
  if !g.held then g.apply n t
  else if !free then ({ g with force := some n, since := t }, [])
  else if !n.enabled then ({ g with force := some n, since := t, held := false, clearAt := none }, [])
  else g.start n t (g.pattern t).1 (g.pattern t).2

/-- Entries of CUT_CYCLE or later leave a leg; where the one in force is of these, the leg returns to its newest entry of an earlier cycle,
from that entry's next period start, and without one it stops (R311). -/
def Leg.revert (g : Leg) (cut now : Nat) : Leg :=
  let old := fun (n : RingEntry) => decide (2 ^ 31 ≤ (n.cycle + 2 ^ 32 - cut) % 2 ^ 32)
  let kept := g.hist.filter old
  let cutOff := match g.force with
    | some n => !old n
    | none => false
  let g1 := { g with
    pend := (if cutOff then (kept.getLast?.map fun n => n.again now).toList else []) ++ g.pend.filter old, hist := kept }
  if cutOff && kept.isEmpty then { g1.stop now with force := none } else g1

/-- A leg of an endpoint that comes to RUN (R308): entries whose instant has passed, or the newest one held where none waits, apply at their
next period start 0.3 µs or more from now. -/
def Leg.resume (g : Leg) (now : Nat) : Leg :=
  let due := g.pend.map fun n => if rtDiff n.applyAt now < 0 then n.again (now + 15360) else n
  { g with pend := if due.isEmpty then (g.hist.getLast?.map fun n => n.again (now + 15360)).toList else due }

end Sys2Proof.Machine
end

