-- ==== Sys2Proof/Machine/Ring.lean ====
section
/-! DEFINITION. Cell rings: frames, endpoints, delays, schedules, trip blocks, bring-up and breaks (R281 to R322). -/

namespace Sys2Proof.Machine

open Sys2Proof

/-! ### Endpoints -/

/-- An endpoint: index 32 × lower port + address (or place in the chain). -/
def State.ep (s : State) (e : Nat) : Endpoint := SMap.get (fun _ => Endpoint.reset) s.ring.eps e

/-- The state with an endpoint set. -/
def State.setEp (s : State) (e : Nat) (v : Endpoint) : State :=
  { s with ring := { s.ring with eps := SMap.put (fun _ => Endpoint.reset) s.ring.eps e v } }

/-- The settings CONFIG gave: MODE (pair), GROUPS, MEAS_WORDS, MEAS_OFS (R292). -/
def Endpoint.pair (v : Endpoint) : Bool := fnum v.cfg 1 1 == 1
/-- CONFIG.GROUPS. -/
def Endpoint.groups (v : Endpoint) : Nat := fnum v.cfg 2 1
/-- Some interface has lock. -/
def Endpoint.locked (v : Endpoint) : Bool := v.lockU || v.lockD

/-- The endpoint's ring time now (R296). -/
def State.rtOf (s : State) (v : Endpoint) : Nat := (s.nowUnits + v.rtOfs) % rtSpan

/-- The IDENT payload of an endpoint (R292): CLASS, LEGS, MEAS_WORDS, PROTO, P, SERIAL, MAKER and FW within the ranges of the rule. -/
def epIdent (e : Nat) : List Byte :=
  let id := Config.epIdentity e
  leBytes 1 (1 + id 0 % 2) ++ leBytes 1 (1 + id 1 % 8) ++ leBytes 1 (id 2 % 17) ++ leBytes 1 1 ++ leBytes 2 (id 3 % 65536) ++ leBytes 2 0
    ++ leBytes 8 (id 4 % 2 ^ 64) ++ leBytes 4 (id 5 % 2 ^ 32) ++ leBytes 4 (id 6 % 2 ^ 32)

/-- The lane rule of R294: frames of the lower port arrive on U, those of a pair's upper port on D. -/
def laneOk (f : List Byte) (viaD : Bool) : Bool := frHi f == viaD

/-- The endpoint is the last of its ring in the image's table. -/
def State.epLast (s : State) (e : Nat) : Bool :=
  e % 32 + 1 == s.fld (Reg.RING_PORT_STAT (e / 32)) Fld.RING_PORT_STAT_EP_IMAGE

/-- The image uses the port in a pair (RING_PORT_STAT_n.MODE). -/
def State.portPaired (s : State) (p : Nat) : Bool :=
  let m := s.fld (Reg.RING_PORT_STAT p) Fld.RING_PORT_STAT_MODE
  m == 2 || m == 3

/-- A leg of an endpoint. -/
def Endpoint.leg (v : Endpoint) (l : Nat) : Leg := SMap.get (fun _ => Leg.reset) v.legs l

/-- An endpoint with a leg set. -/
def Endpoint.setLeg (v : Endpoint) (l : Nat) (g : Leg) : Endpoint :=
  { v with legs := SMap.put (fun _ => Leg.reset) v.legs l g }

/-- The groups named that an endpoint belongs to are latched: every leg goes to its trip pattern at a ring time; entries and ring time stay
(R305). -/
def Endpoint.latch (v : Endpoint) (now groups : Nat) : Endpoint :=
  let g := groups &&& v.groups
  if g = 0 then v
  else
    (List.range 8).foldl (fun u l => u.setLeg l { (u.leg l).stop now with held := true, clearAt := none })
      { v with latched := v.latched ||| g }

/-- The legs of an endpoint stop: the safe state, every output off (R309). -/
def Endpoint.halt (v : Endpoint) (now : Nat) : Endpoint := { v with legs := v.legs.map fun l => (l.1, l.2.stop now) }

/-- A frame or a block goes out of U or of D. -/
def Endpoint.put (v : Endpoint) (d : Bool) (f : List Byte) : Endpoint := if d then { v with outD := v.outD ++ [f] } else { v with outU := v.outU ++ [f] }

/-- An upstream frame of an endpoint, with its latched groups and its count of the type (R287), goes out where its mode inserts it (R293): U,
in a pair D as well; the turned stream alone at a turn. -/
def Endpoint.emit (v : Endpoint) (ty epoch cycle : Nat) (pay : List Byte) : Endpoint :=
  let q := SMap.get (fun _ => 0) v.seqs ty
  let f := mkFrame ty (v.addr.getD 0xFF) epoch 0 q cycle v.latched pay
  let v1 := { v with seqs := SMap.put (fun _ => 0) v.seqs ty ((q + 1) % 256) }
  if v.mode = 2 then v1.put true f
  else if v.mode = 0 ∧ v.pair then (v1.put false f).put true f
  else v1.put false f

/-- A TRIP block goes out of every transmit lane (R305). -/
def Endpoint.putTrip (v : Endpoint) (b : List Byte) : Endpoint := (v.put false b).put true b

/-- What of a frame passes into a turned stream (R295): upstream frames, and DELAY with RETURN set and its CRC computed again. -/
def turned (f : List Byte) : Option (List Byte) :=
  if 0x41 ≤ frType f then some f
  else if frType f = 3 then
    some (mkFrame 3 (frAddr f) (frEpoch f) (fnum f 6 1 ||| 1) (fnum f 7 1) (frCycle f) (frTripped f) ((f.drop 16).take (fnum f 2 2)))
  else none

/-- A frame passed on in the endpoint's mode (R293, R295): through to the other interface, or turned back to the one it came from. -/
def Endpoint.pass (v : Endpoint) (viaD : Bool) (f : List Byte) : Endpoint :=
  if v.state = 0 then v
  else if v.mode = 0 then v.put (!viaD) f
  else if (v.mode = 1) = (viaD = false) then
    (match turned f with
     | some g => v.put viaD g
     | none => v)
  else v

/-- The Guard die sends a DELAY frame that arrives at a port of a pair back out of the same port with RETURN set (R295). -/
def State.portReturn (s : State) (p : Nat) (f : List Byte) : State :=
  match turned f with
  | some g => s.sendFrame p { ty := 3, addr := 0xFF, epoch := 0, flags := 0, cycle := frCycle f, pay := [], due := 0, at' := s.lineNow, raw := g }
  | none => s

/-- An endpoint passes a frame on; a DELAY frame that leaves the chain of a pair is returned by the port it reaches. DESIGN CHOICE (log entry
90): R295 names the upper port alone; the lower one does the same with the upper port's DELAY, without which R299 could run on one port
only. -/
def State.epPass (s : State) (e : Nat) (viaD : Bool) (f : List Byte) : State :=
  let v := s.ep e
  let s1 := s.setEp e (v.pass viaD f)
  let p := e / 32
  if v.state = 0 || v.mode != 0 || !s.portPaired p || frType f != 3 || frReturn f then s1
  else if !viaD && s.epLast e then s1.portReturn (p + 1) f
  else if viaD && e % 32 == 0 then s1.portReturn p f
  else s1

/-- The key by which a frame counts as seen (R294): TYPE, CYCLE and SEQ; SYNC and SETDLY belong to the stream of their port (R297, R298), so
those of a pair's two ports are two frames. -/
def seenFrame (f : List Byte) : Nat :=
  (if (frType f = 2 ∨ frType f = 4) ∧ frHi f then 2 ^ 48 else 0) + frType f * 0x10000000000 + fnum f 7 1 * 0x100000000 + frCycle f

/-- A good frame that an endpoint receives: its trip groups are latched (R305), and one not addressed to the endpoint alone passes on, an ENUM
in another form (R294, R308). -/
def State.hearFrame (s : State) (e : Nat) (viaD : Bool) (f : List Byte) : State :=
  let v := s.ep e
  let s1 := s.setEp e (v.latch (s.rtOf v) (frTripped f))
  if some (frAddr f) = v.addr ∨ (frType f = 5 ∧ laneOk f viaD) then s1 else s1.epPass e viaD f

/-- A frame is noted as seen (R294). -/
def State.noteFrame (s : State) (e : Nat) (f : List Byte) : State :=
  s.setEp e { s.ep e with seen := seenFrame f :: (s.ep e).seen.take 15 }

/-- A downstream frame reaches an endpoint: a bad one is noted in FAULTS (R287, R291); a good one, on the right lane,
addressed to it, and not yet seen from the other port, is acted on. -/
def State.epFrame (s : State) (e : Nat) (viaD : Bool) (ty : Nat) (f : List Byte) (act : State → Endpoint → State) : State :=
  let v := s.ep e
  if !frameOk f then (s.setEp e { v with crcErr := true }).epPass e viaD f
  else if frType f ≠ ty then s
  else
    let s1 := s.hearFrame e viaD f
    if !laneOk f viaD || !(frAddr f == 0xFF || some (frAddr f) == v.addr) || v.seen.contains (seenFrame f) then s1
    else
      let s2 := s1.noteFrame e f
      act s2 (s2.ep e)

/-! ### Locks, modes and breaks (R286, R293, R317 to R319) -/

/-- A receiver: a port's, or an endpoint's interface U or D. -/
def ringOf (e : Nat) : Nat := e / 32

/-- The lower port of a port's ring. -/
def State.lowerPort (s : State) (p : Nat) : Nat := if s.fld (Reg.RING_PORT_STAT p) Fld.RING_PORT_STAT_MODE == 3 then p - 1 else p

/-- The ports of the ring that a port belongs to. -/
def State.ringPorts (s : State) (p : Nat) : List Nat :=
  if s.portPaired p then [s.lowerPort p, s.lowerPort p + 1] else [p]

/-- The index of an endpoint from the port a frame came to and its address: a pair counts from its lower port. -/
def State.epIndex (s : State) (p addr : Nat) : Nat := 32 * s.lowerPort p + addr % 32

/-- RING_STAT follows the ports and endpoints. -/
def State.showRings (s : State) : State :=
  let ports := (List.range 12).foldl (fun m p =>
    if s.fld (Reg.RING_PORT_STAT p) Fld.RING_PORT_STAT_STATE == 5 then withBit m p true else m) 0
  let run := ((List.range 384).filter fun e => s.par (Par.epUsed e) == 1
    && s.fld (Reg.RING_EP_STAT e) Fld.RING_EP_STAT_STATE == 5).length
  (s.setF Reg.RING_STAT Fld.RING_STAT_PORT_RUN ports).setF Reg.RING_STAT Fld.RING_STAT_EP_RUN (min run 255)

/-- A port's receiver loses the hop to its chain (R317, R318): BROKEN on its ring, no turning endpoint on its own side, for a pair the one at
its end on the other; RING_BREAK once. -/
def State.portBreak (s : State) (p : Nat) : State :=
  let was := s.fld (Reg.RING_PORT_STAT p) Fld.RING_PORT_STAT_BROKEN
  let put := fun (st : State) q v => (st.setF (Reg.RING_PORT_STAT q) Fld.RING_PORT_STAT_BROKEN 1).setF (Reg.RING_PORT_STAT q)
    Fld.RING_PORT_STAT_BREAK_AT v
  let low := s.lowerPort p
  let n := s.fld (Reg.RING_PORT_STAT low) Fld.RING_PORT_STAT_EP_IMAGE
  let s1 := put s p 0xFF
  let s2 := if !s.portPaired p then s1 else if p = low then put s1 (p + 1) 0 else put s1 low (n - 1)
  if was = 1 then s2 else s2.post Ev.RING_BREAK low

/-- A break at an endpoint's interface (R317, R318): BROKEN, the turning endpoint nearest the break (none on the side of a port at the
break), RING_BREAK once. -/
def State.ringBreak (s : State) (p e : Nat) (d : Bool) : State :=
  let was := s.fld (Reg.RING_PORT_STAT p) Fld.RING_PORT_STAT_BROKEN
  let at' := if d then e % 32 else if 0 < e % 32 then e % 32 - 1 else 0xFF
  let s1 := (s.setF (Reg.RING_PORT_STAT p) Fld.RING_PORT_STAT_BROKEN 1).setF (Reg.RING_PORT_STAT p)
    Fld.RING_PORT_STAT_BREAK_AT at'
  let s2 := if s.portPaired p then
      (s1.setF (Reg.RING_PORT_STAT (p + 1)) Fld.RING_PORT_STAT_BROKEN 1).setF (Reg.RING_PORT_STAT (p + 1))
        Fld.RING_PORT_STAT_BREAK_AT (if !d then e % 32 else if s.epLast e then 0xFF else e % 32 + 1)
    else s1
  if was = 1 then s2 else s2.post Ev.RING_BREAK p

/-- RING_LOCK_LOST (R286): 16 invalid headers in 64 blocks, or 1 µs without a valid block (quiet, in counts), lose lock; an interface of
a hop of the ring that goes down is a break (R317, R318). -/
def execRingLockLost (dt : Nat) (port : Option Nat) (e : Nat) (d : Bool) (invalid quiet : Nat) (s : State) : Out :=
  let s1 := s.tick dt
  if invalid < 16 ∧ quiet < Config.usec 1 then .next s1
  else
    match port with
    | some p =>
      if s1.fld (Reg.RING_PORT_STAT (p % 12)) Fld.RING_PORT_STAT_LOCK = 0 then .next s1
      else
        let s2 := (s1.setF (Reg.RING_PORT_STAT (p % 12)) Fld.RING_PORT_STAT_LOCK 0).bump (Reg.RING_PORT_CNT (p % 12))
          Fld.RING_PORT_CNT_LOCK_LOSS
        .next (if s2.portUsed (p % 12) && decide (1 < s2.fld (Reg.RING_PORT_STAT (p % 12)) Fld.RING_PORT_STAT_STATE) then
            s2.portBreak (p % 12)
          else s2)
    | none =>
      let v := s1.ep e
      let was := if d then v.lockD else v.lockU
      if !was then .next s1
      else
        let v1 : Endpoint := if d then { v with lockD := false } else { v with lockU := false }
        let v2 : Endpoint := if v1.locked then v1 else { v1 with noLockAt := some s1.tm.mono }
        let s2 := s1.setEp e v2
        let hop := !d || !s2.epLast e || s2.portPaired (ringOf e)
        .next (if hop && s2.portUsed (ringOf e) then s2.ringBreak (ringOf e) e d else s2)

/-- The forwarding mode of R293: 0 THROUGH, 1 TURN_D, 2 TURN_U. -/
def modeOf (v : Endpoint) (last : Bool) : Nat :=
  if !v.lockD || (last && !v.pair) then 1 else if !v.lockU && v.pair then 2 else 0

/-- After bring-up and a change of mode a delay run is due at once on the ring's ports, and the means start anew (R299). -/
def State.delayDue (s : State) (p : Nat) : State :=
  { s with ring := { s.ring with
      delayDue := s.ring.delayDue ++ s.ringPorts p
      loops := s.ring.loops.filter fun l => !(s.ringPorts p).contains l.1
      delays := s.ring.delays.filter fun l => l.1 / 64 != s.lowerPort p } }

/-- EP_INTERFACE_DOWN (R293): the endpoint changes mode after an interface went down; the delays are measured again. -/
def execEpInterfaceDown (dt : Nat) (e : Nat) (s : State) : Out :=
  let s1 := s.tick dt
  let v := s1.ep e
  let m := modeOf v (s1.epLast e)
  if v.lockU && v.lockD || m = v.mode then .next s1
  else .next ((s1.setEp e { v with mode := m }).delayDue (ringOf e))

/-- Interface D of an endpoint leads to a node: it does not at the last endpoint of a single ring. -/
def Endpoint.hopD (v : Endpoint) (last : Bool) : Bool := !last || v.pair

/-- An endpoint's interfaces that lead to a node have all held lock for 10 ms (R293). -/
def State.epRestored (s : State) (e : Nat) : Bool :=
  let v := s.ep e
  v.lockU && decide (Config.msec 10 ≤ s.since v.upAt)
  && (!v.hopD (s.epLast e) || (v.lockD && decide (Config.msec 10 ≤ s.since v.downAt)))

/-- EP_THROUGH_RESTORE (R293, R319): after 10 ms of lock on its interfaces the endpoint returns to THROUGH, the last one of a single ring to
its turn; once every endpoint of the ring holds its links and none turns at a break, and the ports have held lock as long, BROKEN clears
and RING_RESTORED is posted. -/
def execEpThroughRestore (dt : Nat) (e : Nat) (s : State) : Out :=
  let s1 := s.tick dt
  let v := s1.ep e
  let p := ringOf e
  if s1.epRestored e then
    let m := modeOf v (s1.epLast e)
    let s2 := if m = v.mode then s1 else (s1.setEp e { v with mode := m }).delayDue p
    let whole := (List.range 32).all fun k =>
      let u := s2.ep (32 * p + k)
      s2.par (Par.epUsed (32 * p + k)) != 1 || (u.lockU && (u.lockD || !u.hopD (s2.epLast (32 * p + k)))
        && u.mode == modeOf u (s2.epLast (32 * p + k)))
    let held := (s2.ringPorts p).all fun q => s2.fld (Reg.RING_PORT_STAT q) Fld.RING_PORT_STAT_LOCK == 1
      && decide (Config.msec 10 ≤ s2.since (SMap.get (fun _ => 0) s2.ring.lockAt q))
    if whole && held && s2.fld (Reg.RING_PORT_STAT p) Fld.RING_PORT_STAT_BROKEN == 1 then
      let clear := fun (st : State) q => (st.setF (Reg.RING_PORT_STAT q) Fld.RING_PORT_STAT_BROKEN 0).setF
        (Reg.RING_PORT_STAT q) Fld.RING_PORT_STAT_BREAK_AT 0xFF
      let s3 := clear s2 p
      .next ((if s3.portPaired p then clear s3 (p + 1) else s3).post Ev.RING_RESTORED p)
    else .next s2
  else .next s1

/-! ### Schedules (R289, R290, R300, R301, R310) -/

/-- An edge channel 64 + 8 × e + leg is used by the running image. -/
def State.legUsed (s : State) (ch : Nat) : Bool :=
  decide (64 ≤ ch) && s.par (Par.epUsed ((ch - 64) / 8)) == 1 && (s.parN (Par.epLegsEn ((ch - 64) / 8))).testBit ((ch - 64) % 8)

/-- The 32 bytes of a schedule entry (R289): en is 0 for a leg that is sent blocked. -/
def schedEntry (leg : Nat) (cfg : Word) (en minpw per on off tApply rise fall : Nat) : List Byte :=
  let flags := en + 2 * fget Fld.EDGE_CFG_POLICY cfg + 4 * fget Fld.EDGE_CFG_TRIP_PAT cfg
  leBytes 1 leg ++ leBytes 1 flags ++ leBytes 2 minpw ++ leBytes 4 per ++ leBytes 4 on ++ leBytes 4 off ++ leBytes 6 tApply
    ++ leBytes 2 rise ++ leBytes 2 fall ++ leBytes 6 0

/-- A leg whose carrier plan changed: its running period ends, and the next starts at the first period start of its new slot
(R339). -/
def State.legSlot (s : State) (x : Side) (ch : Nat) : State :=
  let p := s.pair x ch
  let ph := s.chanPh ch
  if p.ph = ph then s else s.setPair x ch { p with ph := ph, next := s.nextStart ch p.per ph (p.next - 1) }

/-- EDGE_CFG of a leg as its endpoint has it: a leg in the zero state holds B on (R368). -/
def State.legFlags (s : State) (ch : Nat) : Word :=
  if s.ring.zeros.contains ((ch - 64) / 8) ∧ ch % 8 < 2 then fset Fld.EDGE_CFG_TRIP_PAT (s.chanCfg ch) 2 else s.chanCfg ch

/-- The leg is in the zero state (R368). -/
def State.legZero (s : State) (ch : Nat) : Bool := s.ring.zeros.contains ((ch - 64) / 8) && decide (ch % 8 < 2)

/-- EN of a leg's entry: 0 where the leg is sent blocked. -/
def State.legEn (s : State) (ch : Nat) : Nat :=
  flag (s.legZero ch || !(SMap.get (fun _ => 0) s.ring.legsOff ((ch - 64) / 8)).testBit (ch % 8))

/-- The bytes of a leg's entry (R289). -/
def State.legEntry (s : State) (x : Side) (ch per on off tApply : Nat) : List Byte :=
  schedEntry (ch % 8) (s.legFlags ch) (s.legEn ch) (s.chanMinpw ch) per on off (tApply % rtSpan) (s.riseEff x ch) (s.fallEff x ch)

/-- The entries of an endpoint's other enabled legs, which a frame of a newer epoch carries too (R290): each leg's last edges, from its
next period start that a frame can still reach; a leg that has had no word yet stays low. -/
def State.otherEntries (s : State) (x : Side) (e leg : Nat) : List (List Byte) :=
  (List.range 8).filterMap fun l =>
    let ch := 64 + 8 * e + l
    if l = leg ∨ !s.legUsed ch then none
    else
      let p := s.pair x ch
      let per := max (if p.run then p.per else s.chanPer ch) 1
      let ahead := s.nowUnits + 64 * s.fld (Reg.RING_PORT_LEAD (ringOf e)) Fld.RING_PORT_LEAD_LEAD
      let d := (s.ring.sentEdge.find? fun d => d.1 == ch).elim (0, 0, s.nextStart ch per (s.chanPh ch) s.nowUnits) (·.2)
      some (s.legEntry x ch per d.1 d.2.1 (d.2.2 + (ahead - d.2.2 + per - 1) / per * per))

/-- A compare that a period does not meet: half of PERIOD beyond the period's end from the other compare, so that W is not 0. DESIGN CHOICE
(log entry 91): R289 gives no form for a period with one edge or with none while the reference is high. -/
def neverAt (other per : Nat) : Nat := per + (other + per / 2) % max per 1

/-- ON and OFF of the reference edges of an entry's period, as offsets from its start (R289); high is the reference's level before them. -/
def entryEdges (rise fall : Option Nat) (high : Bool) (per : Nat) : Nat × Nat :=
  match rise, fall with
  | some r, some f => (r, f)
  | some r, none => (r, neverAt r per)
  | none, some f => (neverAt f per, f)
  | none, none => if high then (0, neverAt 0 per) else (0, 0)

/-- A SCHED of entries queued on a port (R288, R300): they join a frame of the same endpoint and epoch that still waits and has room. -/
def State.queueSched (s : State) (p e ep due : Nat) (entries : List (List Byte)) : State :=
  let s1 := s.pumpPort p
  let t := s1.port p
  let joins := fun (f : TxFrame) => f.ty == 1 && f.addr == e % 32 && f.epoch == ep && decide (fnum f.pay 0 1 + entries.length ≤ 8)
  match t.queue.find? joins with
  | some f =>
    let g := { f with pay := leBytes 16 (fnum f.pay 0 1 + entries.length) ++ f.pay.drop 16 ++ entries.flatten, due := min f.due due }
    s1.setPort p { t with queue := t.queue.map fun h => if h = f then g else h }
  | none => s1.sendDue p 1 (e % 32) ep due (leBytes 16 entries.length ++ entries.flatten)

/-- The carrier event that a leg serves next (R245, R300): its next period start, with UPD = HALF the middle of that period, and with BOTH the
middle of the period under way after its start was served. -/
def State.legEvent (s : State) (p : Pair) (ch : Nat) : Nat :=
  let upd := fget Fld.EDGE_CFG_UPD (s.chanCfg ch)
  if upd = 1 then p.next + p.perAt / 2
  else if upd = 2 ∧ p.zeroDone ∧ !p.halfDone then p.start + p.per / 2
  else p.next

/-- A leg whose event can no longer be reached: its word goes on, and the leg waits for the first later event (R247). -/
def State.legSkip (s : State) (x : Side) (ch lead : Nat) : State :=
  let p := s.pair x ch
  let ev := s.legEvent p ch
  let per := max p.perAt 1
  if s.nowUnits + lead * 64 ≤ ev then s
  else if ev < p.next then s.setPair x ch { p with halfDone := true }
  else
    let k := (s.nowUnits + lead * 64 - ev + per - 1) / per
    s.setPair x ch { p with start := p.next + (k - 1) * per, next := p.next + k * per }

/-- An entry formed for a leg's next event (R248, R289, R300): the word governs from there; ON, OFF and T_APPLY, and the state with the leg's
carrier moved on. With BOTH each entry counts from its own event and carries the other compare as this word would have it, until the
next entry replaces it. -/
def State.formEntry (s : State) (x : Side) (ch : Nat) : (Nat × Nat × Nat) × State :=
  let p := s.pair x ch
  let upd := fget Fld.EDGE_CFG_UPD (s.chanCfg ch)
  let ev := s.legEvent p ch
  let mid := decide (ev < p.next)
  let per := if mid then p.per else p.perAt
  let s1 := if upd = 2 then (if mid then s.bothOff x ch p.start per else s.bothOn x ch p.next per)
    else if upd = 1 then s.governs x ch p.next per (per / 2)
    else s.governs x ch p.next per 0
  let r := s1.pair x ch
  let mine := r.refs.filter fun e => decide (e.1 < ev + per)
  let at' := fun b : Bool => (mine.find? fun e => e.2 == b).map fun e => e.1 - ev
  let w := dutyWidth per p.word
  let on := if upd = 2 ∧ mid ∧ (at' false).isSome ∧ (at' true).isNone then some (per - w / 2) else at' true
  let off := if upd = 2 ∧ !mid ∧ (at' true).isSome then some (max (per / 2 + w / 2) ((at' true).getD 0 + s1.chanNeed x ch true)) else at' false
  let edges := entryEdges on off (r.refs.head?.elim r.high fun e => !e.2) per
  let moved : Pair := { r with refs := r.refs.filter fun e => decide (ev + per ≤ e.1) }
  let done : Pair := if mid then { moved with halfDone := true }
    else { moved with start := p.next, next := p.next + per + (p.due.elim 0 fun e => (e.2.2 + per - p.ph % max per 1) % max per 1),
                      per := per, ph := p.due.elim p.ph fun e => e.2.2,
                      pend := p.pend.takeWhile (fun e => decide (p.next ≤ e.1 + 48 * 64)), zeroDone := true, halfDone := false }
  ((edges.1, edges.2, ev), s1.setPair x ch done)

/-- Every port of an endpoint's ring is out of FAULT (R315). -/
def State.ringOk (s : State) (p : Nat) : Bool := (s.ringPorts p).all fun q => s.fld (Reg.RING_PORT_STAT q) Fld.RING_PORT_STAT_STATE != 6

/-- RING_UPDATE_POINT (R300): in the FCLK period LEAD before a leg's carrier event the engine takes the newest post, forms the entry for that
event and queues the SCHED frame on every port of the ring; only the active side's frames go out (R23), and none in
SAFE_HOLD, orphan control or on a ring in FAULT (R315, R316). -/
def execRingUpdatePoint (dt : Nat) (x : Side) (ch : Nat) (s : State) : Out :=
  let s1 := s.tick dt
  let e := (ch - 64) / 8
  let p := ringOf e
  let lead := s1.fld (Reg.RING_PORT_LEAD p) Fld.RING_PORT_LEAD_LEAD
  if !s1.legUsed ch || !s1.runsControl x || s1.keep.orphan then .next s1
  else
    let s2 := (if (s1.pair x ch).run then s1.legSlot x ch else s1.startCarrier x ch).legSkip x ch lead
    if decide (s2.nowUnits + 64 + lead * 64 ≤ s2.legEvent (s2.pair x ch) ch) then .next s2
    else
      let (w, s3) := s2.takePost x ch
      let q := s3.pair x ch
      let (en, s4) := (s3.setPair x ch { q with word := w.getD q.word }).formEntry x ch
      let zero := s4.legZero ch
      let on := if zero then 0 else en.1
      let off := if zero then 0 else en.2.1
      let per := (s4.pair x ch).per
      let s5 := s4.produce x [(ch, on), (ch, off), (ch, en.2.2), (ch, per)]
      if x = s5.serving ∧ s5.hasActive ∧ s5.ringOk p then
        let ep := s5.epoch (s5.epPlace e)
        let rest := if SMap.get (fun _ => 0) s5.ring.sentEpoch e = ep then [] else s5.otherEntries x e (ch % 8)
        let s6 := { s5 with ring := { s5.ring with
          sentEdge := SMap.insert s5.ring.sentEdge ch (on, off, en.2.2)
          sentEpoch := SMap.put (fun _ => 0) s5.ring.sentEpoch e ep
          schedSent := e :: s5.ring.schedSent } }
        .next ((s6.ringPorts p).foldl (fun u pp => u.queueSched pp e ep (en.2.2 - lead * 64) (s6.legEntry x ch per on off en.2.2 :: rest)) s6)
      else .next s5

/-- Once per base cycle every endpoint has a SCHED (R288): one that had none in the ended cycle is refreshed, with every leg where its epoch is
new and with none otherwise (R289, R290). -/
def State.schedRefresh (s : State) : State :=
  let x := s.serving
  let s1 := { s with ring := { s.ring with schedSent := [] } }
  if s.mode ≠ 2 ∨ s.keep.orphan ∨ !s.hasActive then s1
  else
    ((List.range 384).filter fun e => s.par (Par.epUsed e) == 1 && !s.ring.schedSent.contains e
        && s.fld (Reg.RING_PORT_STAT (ringOf e)) Fld.RING_PORT_STAT_STATE == 5).foldl (fun st e =>
      let ep := st.epoch (st.epPlace e)
      let rest := if SMap.get (fun _ => 0) st.ring.sentEpoch e = ep then [] else st.otherEntries x e 8
      let u := { st with ring := { st.ring with sentEpoch := SMap.put (fun _ => 0) st.ring.sentEpoch e ep } }
      (u.ringPorts (ringOf e)).foldl (fun v pp => v.queueSched pp e ep v.nowUnits rest) u) s1

/-- An entry of a SCHED payload. -/
def parseEntry (f : List Byte) (i cycle epoch arrived : Nat) : Nat × RingEntry :=
  let g := fun o n => frPay f (16 + 32 * i + o) n
  (g 0 1 % 8, ⟨g 1 1, g 2 2, g 4 4, g 8 4, g 0xC 4, g 0x10 6, g 0x16 2, g 0x18 2, cycle, epoch, arrived⟩)

/-- A new entry waits for its leg; those of the last three cycles are kept (R301). -/
def Endpoint.hold (v : Endpoint) (l : Nat) (n : RingEntry) : Endpoint :=
  let g := v.leg l
  let recent := fun (o : RingEntry) => decide ((n.cycle + 2 ^ 32 - o.cycle) % 2 ^ 32 < 3)
  v.setLeg l { g with pend := g.pend ++ [n], hist := (g.hist.filter recent) ++ [n] }

/-- An endpoint counts short intervals of its own (R261): dropped under DROP, widened otherwise. -/
def Endpoint.short (v : Endpoint) (cs : List Bool) : Endpoint :=
  cs.foldl (fun (u : Endpoint) c =>
    if c then { u with dropped := min (u.dropped + 1) 65535 } else { u with stretched := min (u.stretched + 1) 65535 }) v

/-- SCHED (R310, R308, R305): by its epoch a frame is used, raises E and discards older entries that wait, or is stale; a valid one
restarts the timeout, and after RESUME it takes TIMED and SAFE to RUN. -/
def execSched (dt : Nat) (e : Nat) (viaD : Bool) (f : List Byte) (s : State) : Out :=
  .next ((s.tick dt).epFrame e viaD 1 f fun s1 v =>
    let ep := frEpoch f
    if epochNewer v.epoch ep then s1.setEp e { v with stale := min (v.stale + 1) 65535 }
    else
      let newer := epochNewer ep v.epoch
      let v1 : Endpoint := { v with
        epoch := ep, lastSched := s1.tm.mono,
        legs := if newer then v.legs.map fun l =>
            (l.1, { l.2 with pend := [], hist := l.2.hist.filter fun h => !l.2.pend.contains h }) else v.legs }
      let n := min (frPay f 0 1) 8
      let now := s1.rtOf v1
      let v2 := if 3 < v1.state then
          (List.range n).foldl (fun u i => u.hold (parseEntry f i (frCycle f) ep now).1 (parseEntry f i (frCycle f) ep now).2) v1
        else v1
      let up := v2.resumed && !v2.localTrip && (v2.state == 4 || v2.state == 6)
      s1.setEp e (if up then { v2 with state := 5, safeTmo := false, resumed := false, legs := v2.legs.map fun l => (l.1, l.2.resume now) }
        else v2))

/-- When a leg whose groups are clear leaves its trip pattern with its entry in force: the first period start 0.3 µs or more after the
CLEAR (R307). -/
def Endpoint.leaveAt (v : Endpoint) (g : Leg) : Option (RingEntry × Nat) :=
  match g.clearAt, g.force with
  | some t, some n => if g.held && v.latched == 0 then some (n, { n with tApply := g.since }.startFrom (t + 15360)) else none
  | _, _ => none

/-- EP_APPLY_ENTRY (R290, R301, R307, R309): in RUN a leg whose groups are clear leaves its trip pattern at a period start of its entry in
force, and the oldest waiting entry of a leg applies once its instant has come; LATE is set where it came too late. -/
def execEpApplyEntry (dt : Nat) (e leg : Nat) (s : State) : Out :=
  let s1 := s.tick dt
  let v := s1.ep e
  let l := leg % 8
  let g := v.leg l
  let now := s1.rtOf v
  let leave := (v.leaveAt g).filter fun d => decide (0 ≤ rtDiff now d.2) && (g.pend.head?.all fun n => decide (rtDiff d.2 n.applyAt < 0))
  if v.state ≠ 5 then .next s1
  else
    match leave with
    | some (n, t) =>
      let r := g.start n t (g.pattern t).1 (g.pattern t).2
      .next (s1.setEp e ((v.short r.2).setLeg l r.1))
    | none =>
      match g.pend with
      | [] => .next s1
      | n :: rest =>
        if rtDiff now n.applyAt < 0 then .next s1
        else
          let free := match g.clearAt with
            | some t => decide (v.latched = 0) && decide (15360 ≤ rtDiff n.applyAt t)
            | none => false
          let r := g.take n free
          let v2 := (v.short r.2).setLeg l { r.1 with pend := rest }
          .next (s1.setEp e { v2 with late := v2.late || decide (n.applyAt ≠ n.tApply % rtSpan) })

/-- The outputs A and B of a leg of an endpoint (R237, R290, R305, R308, R309): in RUN as its entry or its trip pattern says, in every other
state off. -/
def State.legPads (s : State) (e leg : Nat) : Bool × Bool :=
  let v := s.ep e
  if v.state = 5 then (v.leg (leg % 8)).outs (s.rtOf v) else (false, false)

/-! ### Ring time and delay (R296 to R299) -/

/-- The endpoint times from the upper port's stream (R297, R318): while U is down, or when the lower port's SYNC has stayed away for two cycles,
which tells an endpoint with U up that it is cut off from that port (DESIGN CHOICE, log entry 92: the spec does not say by what it knows). -/
def Endpoint.timesHi (v : Endpoint) (cycle : Nat) : Bool :=
  !v.lockU || v.syncLo.any fun c => decide (2 ≤ (cycle + 2 ^ 32 - c) % 2 ^ 32)

/-- A SYNC's ring time taken: set at once, or slewed when it moves more than 8 edge units (R297). -/
def State.takeSync (s : State) (v : Endpoint) (rt : Nat) : Endpoint :=
  let err := rtDiff rt (s.rtOf v)
  if v.rtSet ∧ 8 < err.natAbs then { v with rtSlew := err }
  else { v with rtOfs := (rt + rtSpan - s.nowUnits % rtSpan) % rtSpan, rtSet := true, rtSlew := 0 }

/-- SYNC (R297, R308): RT becomes RT_TX + D on the timing stream; a CONFIGURED endpoint with that delay becomes TIMED. -/
def execSync (dt : Nat) (e : Nat) (viaD : Bool) (f : List Byte) (s : State) : Out :=
  .next ((s.tick dt).epFrame e viaD 2 f fun s1 v0 =>
    let c := frCycle f
    let v := { v0 with syncLo := if viaD then (if v0.syncLo.isNone then some c else v0.syncLo) else some c }
    if viaD ≠ v0.timesHi c then s1.setEp e v
    else
      match (if viaD then v.dlyHi else v.dlyLo) with
      | none => s1.setEp e v
      | some d =>
        let v1 := { s1.takeSync v ((frPay f 0 6 + d) % rtSpan) with rtBound := frPay f 6 6, cycleNo := c, timeHi := viaD }
        s1.setEp e (if v1.state = 3 then { v1 with state := 4, timedAt := (s1.rd Reg.TIME_CYCLE_CNT).toNat } else v1))

/-- The corrections under way move by 8 edge units at a base cycle (R297). -/
def Endpoint.slewStep (v : Endpoint) : Endpoint :=
  let m := clampInt (-8) 8 v.rtSlew
  { v with rtSlew := v.rtSlew - m, rtOfs := (((v.rtOfs : Int) + m) % rtSpan).toNat }

/-- DELAY (R295, R298): outbound, an endpoint notes a_k, and b_k when it turns the frame (its sending minus P); returned, it
notes b_k; then it reports L_k. stamp is the arrival, turned the sending, in edge units at the endpoint. The frame goes on, turned with RETURN
set; its trip groups are latched (R305). -/
def execDelay (dt : Nat) (e : Nat) (viaD : Bool) (f : List Byte) (stamp turnedAt : Nat) (s : State) : Out :=
  let s1 := s.tick dt
  let v0 := s1.ep e
  if !frameOk f then .next ((s1.setEp e { v0 with crcErr := true }).epPass e viaD f)
  else if frType f ≠ 3 then .next s1
  else
    let v := v0.latch (s1.rtOf v0) (frTripped f)
    let id := frPay f 0 2
    let report := fun (u : Endpoint) (l : Int) => u.emit 0x42 0 (frCycle f) (leBytes 2 id ++ leBytes 2 0 ++ leBytes 4 (bitsOf 32 l))
    let v1 := if frReturn f then
        (match v.outAt.find? fun o => o.1 == id with
         | some o => report { v with outAt := SMap.erase v.outAt id } ((stamp : Int) - o.2)
         | none => v)
      else if !laneOk f viaD then v
      else if v.mode = 0 then { v with outAt := SMap.insert v.outAt id stamp }
      else report v ((turnedAt : Int) - fnum (epIdent e) 4 2 - stamp)
    .next ((s1.setEp e v1).epPass e viaD f)

/-- The mean of a list of delays, its rounding down (the spec states none; log entry 12). -/
def meanInt (l : List Int) : Int := if l.isEmpty then 0 else l.foldl (· + ·) 0 / (l.length : Int)

/-- One run's L_G taken for a port: the mean of the last four is shown (R299). -/
def State.takeLoop (s : State) (p lg : Nat) : State :=
  let l := (SMap.get (fun _ => []) s.ring.loops p ++ [lg])
  let l4 := l.drop (l.length - 4)
  let s1 := { s with ring := { s.ring with loops := SMap.put (fun _ => []) s.ring.loops p l4 } }
  s1.wr (Reg.RING_PORT_LOOP p) (BitVec.ofNat 32 ((l4.foldl (· + ·) 0) / l4.length))

/-- A port's DELAY has an ID of its own for each stream of a ring: the upper port of a pair sets its top bit, so that a report tells the stream
it measured (R298). -/
def State.delayId (s : State) (p : Nat) : Nat := flag (s.lowerPort p != p) * 32768 + SMap.get (fun _ => 0) (s.port p).seqs 3

/-- DELAY_RUN (R299): every DELAY_INT on every used port, or where a run is due at once, the Guard die runs DELAY; each result
is a port and its L_G. -/
def execDelayRun (dt : Nat) (results : List (Nat × Nat)) (s : State) : Out :=
  let s1 := s.tick dt
  let regular := decide (Config.msec (s1.fld Reg.RING_CFG Fld.RING_CFG_DELAY_INT) ≤ s1.since s1.ring.delayAt)
  let ports := (List.range 12).filter fun p => s1.portUsed p && (regular || s1.ring.delayDue.contains p)
  let s2 := ports.foldl (fun st p => st.sendDown p 3 0xFF 0 (leBytes 8 (st.delayId p))) s1
  let s3 := (results.filter fun r => ports.contains r.1).foldl (fun st r => st.takeLoop r.1 r.2) s2
  .next { s3 with ring := { s3.ring with
    delayAt := if regular then s3.tm.mono else s3.ring.delayAt
    delayDue := s3.ring.delayDue.filter fun p => !ports.contains p } }

/-- D_k of a run (R298): (L_G − L_k − P_k) / 2. -/
def delayOf (lg : Nat) (lk : Int) (pk : Nat) : Int := ((lg : Int) - lk - pk) / 2

/-- A frame that arrives at a port: a bad one is discarded and counted (R287). -/
def State.portFrame (s : State) (p ty : Nat) (f : List Byte) (act : State → State) : State :=
  if !frameOk f then s.bump (Reg.RING_PORT_CNT p) Fld.RING_PORT_CNT_CRC_ERR
  else if frType f ≠ ty then s
  else act s

/-- DELAY_RPT (R298, R299): D_k of this run for the stream that its ID names joins the mean of the last four; SETDLY goes out from that
stream's port when it moved; the copy that comes by the other port counts once (R294). -/
def execDelayRpt (dt : Nat) (port : Nat) (f : List Byte) (s : State) : Out :=
  let p := port % 12
  .next ((s.tick dt).portFrame p 0x42 f fun s1 =>
    let e := s1.epIndex p (frAddr f)
    let id := frPay f 0 2
    let hi := flag (decide (32768 ≤ id) && s1.portPaired p)
    let k := 2 * e + hi
    let from' := s1.lowerPort p + hi
    if SMap.get (fun _ => 0) s1.ring.rptSeen k = id + 1 then s1
    else
      match (SMap.get (fun _ => []) s1.ring.loops from').getLast? with
      | none => s1
      | some lg =>
        let d := delayOf lg (signed 32 (frPay f 4 4)) (SMap.get (fun _ => 0) s1.ring.resid e)
        let l := SMap.get (fun _ => []) s1.ring.delays k ++ [d]
        let l4 := l.drop (l.length - 4)
        let s2 := { s1 with ring := { s1.ring with delays := SMap.put (fun _ => []) s1.ring.delays k l4, rptSeen := SMap.insert s1.ring.rptSeen k (id + 1) } }
        let r := if hi = 1 then Reg.RING_EP_DLY_HI e else Reg.RING_EP_DLY_LO e
        let m := meanInt l4
        if l4.length = 1 ∨ (s2.rd r).toInt ≠ m then
          (s2.wr r (BitVec.ofInt 32 m)).sendDown from' 4 (frAddr f) 0 (leBytes 4 (bitsOf 32 m) ++ leBytes 4 0)
        else s2)

/-- SETDLY (R298): the endpoint stores its delay for the stream of the sending port. -/
def execSetdly (dt : Nat) (e : Nat) (viaD : Bool) (f : List Byte) (s : State) : Out :=
  .next ((s.tick dt).epFrame e viaD 4 f fun s1 v =>
    s1.setEp e (if frHi f then { v with dlyHi := some (frPay f 0 4) } else { v with dlyLo := some (frPay f 0 4) }))

/-! ### Bring-up and settings (R308, R315) -/

/-- An endpoint without an address or a link again: its delays are unknown until a new SETDLY (R308). -/
def Endpoint.forget (v : Endpoint) (state now : Nat) : Endpoint :=
  { v.halt now with state := state, addr := none, resumed := false, dlyLo := none, dlyHi := none }

/-- ENUM (R308, R294): with FORCE outside RUN an addressed endpoint drops its address; without one it takes NEXT and forwards
NEXT + 1; with one it forwards its own address + 1. It ends at a turn (R295). -/
def execEnum (dt : Nat) (e : Nat) (viaD : Bool) (f : List Byte) (s : State) : Out :=
  .next ((s.tick dt).epFrame e viaD 5 f fun s1 v =>
    if v.state = 0 then s1
    else
      let dropped := frPay f 1 1 = 1 ∧ v.state ≠ 5 ∧ v.state ≠ 1
      let v1 : Endpoint := if dropped then v.forget 1 (s1.rtOf v) else v
      let a := match v1.addr with
        | some a => a
        | none => frPay f 0 1 % 32
      let v2 : Endpoint := { v1 with addr := some a, state := if v1.state = 1 then 2 else v1.state }
      s1.setEp e (v2.pass viaD (mkFrame 5 0xFF 0 (fnum f 6 1) (fnum f 7 1) (frCycle f) (frTripped f)
          (leBytes 1 (a + 1) ++ leBytes 1 (frPay f 1 1) ++ leBytes 6 0))))

/-- ENUM_PERIODIC (R288): every 100 ms in RUN the ports in RUN send ENUM. -/
def execEnumPeriodic (dt : Nat) (s : State) : Out :=
  let s1 := s.tick dt
  if s1.mode = 2 ∧ Config.msec 100 ≤ s1.since s1.ring.enumAt then
    let s2 := (List.range 12).foldl (fun st p =>
      if st.fld (Reg.RING_PORT_STAT p) Fld.RING_PORT_STAT_STATE = 5 then st.sendDown p 5 0xFF 0 (leBytes 8 0) else st) s1
    .next { s2 with ring := { s2.ring with enumAt := s2.tm.mono } }
  else .next s1

/-- CONFIG (R308): an ADDRESSED endpoint stores its settings and is CONFIGURED; it waits for the SETDLY of its timing stream. -/
def execConfig (dt : Nat) (e : Nat) (viaD : Bool) (f : List Byte) (s : State) : Out :=
  .next ((s.tick dt).epFrame e viaD 6 f fun s1 v =>
    if v.state = 2 ∧ frAddr f ≠ 0xFF then
      s1.setEp e ({ v with state := 3, cfg := (f.drop 16).take 16, dlyLo := none, dlyHi := none }.latch (s1.rtOf v) (frTripped f))
    else s1)

/-- RESUME (R310, R309): E becomes EPOCH_MIN; TIMED and SAFE may now be left. -/
def execResume (dt : Nat) (e : Nat) (viaD : Bool) (f : List Byte) (s : State) : Out :=
  .next ((s.tick dt).epFrame e viaD 7 f fun s1 v =>
    s1.setEp e { v with epoch := frPay f 0 2, resumed := v.state == 4 || v.state == 6 })

/-- IDENT_REQ (R292, R315): the endpoint answers with its IDENT frame. -/
def execIdentReq (dt : Nat) (e : Nat) (viaD : Bool) (f : List Byte) (s : State) : Out :=
  .next ((s.tick dt).epFrame e viaD 8 f fun s1 v => s1.setEp e (v.emit 0x43 0 (frCycle f) (epIdent e)))

/-- CONFIG of every endpoint of a port, as the image sets them (R292, R315). -/
def State.sendConfigs (s : State) (p : Nat) : State :=
  (List.range 32).foldl (fun st a =>
    let e := st.epIndex p a
    if st.par (Par.epUsed e) = 1 then
      st.sendDown p 6 a 0 (leBytes 1 (st.fld Reg.TIME_CYCLE Fld.TIME_CYCLE_TC_CODE) ++ leBytes 1 (flag (st.portPaired p))
        ++ leBytes 1 (st.parN (Par.epGroups e)) ++ leBytes 1 (st.parN (Par.epWords e)) ++ leBytes 4 (st.parN (Par.epOfs e))
        ++ leBytes 1 (st.parN (Par.epLegsEn e)) ++ leBytes 7 0)
    else st) s

/-- A ring in FAULT: every port of it (R315). -/
def State.ringFault (s : State) (p : Nat) : State :=
  (s.ringPorts p).foldl (fun st q => st.setF (Reg.RING_PORT_STAT q) Fld.RING_PORT_STAT_STATE 6) s

/-- IDENT (R315): the port compares the identity with the image's table; a difference puts the ring in FAULT; once every
endpoint has answered, CONFIG and the delay run follow. -/
def execIdent (dt : Nat) (port : Nat) (f : List Byte) (s : State) : Out :=
  let p := port % 12
  .next ((s.tick dt).portFrame p 0x43 f fun s1 =>
    let e := s1.epIndex p (frAddr f)
    let ok := s1.par (Par.epUsed e) == 1 && frPay f 0 1 == s1.parN (Par.epClass e) && frPay f 1 1 == s1.parN (Par.epLegs e)
      && frPay f 2 1 == s1.parN (Par.epWords e)
    let r := Reg.RING_EP_STAT e
    let s2 := (s1.setF r Fld.RING_EP_STAT_CLASS (frPay f 0 1)).setF r Fld.RING_EP_STAT_LEGS (frPay f 1 1)
    let was := SMap.get (fun _ => []) s2.ring.found p
    let found := if was.contains e then was else was ++ [e]
    let s3 := { s2 with ring := { s2.ring with
      resid := SMap.put (fun _ => 0) s2.ring.resid e (frPay f 4 2)
      found := SMap.put (fun _ => []) s2.ring.found p found } }
    let pr := Reg.RING_PORT_STAT p
    let s4 := s3.setF pr Fld.RING_PORT_STAT_EP_FOUND found.length
    if !ok then
      ((s4.ringFault p).setF r Fld.RING_EP_STAT_MISMATCH 1 |>.post Ev.RING_EP_MISMATCH e).showRings
    else if s4.fld pr Fld.RING_PORT_STAT_STATE = 6 then s4
    else if found.length = s4.fld pr Fld.RING_PORT_STAT_EP_IMAGE then
      ((s4.setF pr Fld.RING_PORT_STAT_STATE 4).sendConfigs p).delayDue p
    else s4.setF pr Fld.RING_PORT_STAT_STATE 3)

/-- Bring-up of a port from step 2 (R315): ENUM with FORCE, then IDENT_REQ to each address. -/
def State.bringUp (s : State) (p : Nat) : State :=
  if s.fld (Reg.RING_PORT_STAT p) Fld.RING_PORT_STAT_LOCK = 0 then s.setF (Reg.RING_PORT_STAT p) Fld.RING_PORT_STAT_STATE 1
  else
    let s1 := { s with ring := { s.ring with found := SMap.put (fun _ => []) s.ring.found p [],
                                             bringAt := SMap.put (fun _ => 0) s.ring.bringAt p s.tm.mono,
                                             loops := SMap.put (fun _ => []) s.ring.loops p [] } }
    let s2 := (s1.setF (Reg.RING_PORT_STAT p) Fld.RING_PORT_STAT_STATE 2).setF (Reg.RING_PORT_STAT p)
      Fld.RING_PORT_STAT_EP_FOUND 0
    let s3 := s2.sendDown p 5 0xFF 0 (leBytes 1 0 ++ leBytes 1 1 ++ leBytes 6 0)
    (List.range 32).foldl (fun st a => st.sendDown p 8 a 0 []) s3

/-- RING_LOCK_ACQUIRED (R286): 64 valid sync headers in a row give a receiver lock; an endpoint without a link becomes
UNADDRESSED (R308). port is the port, or none for endpoint e's interface D or U. A port whose bring-up waits for lock goes on with it
(R315). -/
def execRingLockAcquired (dt : Nat) (port : Option Nat) (e : Nat) (d : Bool) (headers : Nat) (s : State) : Out :=
  let s1 := s.tick dt
  if headers < 64 then .next s1
  else
    match port with
    | some p =>
      let had := s1.fld (Reg.RING_PORT_STAT (p % 12)) Fld.RING_PORT_STAT_LOCK
      let s0 := if had = 1 then s1 else
        { s1 with ring := { s1.ring with lockAt := SMap.put (fun _ => 0) s1.ring.lockAt (p % 12) s1.tm.mono } }
      let s2 := s0.setF (Reg.RING_PORT_STAT (p % 12)) Fld.RING_PORT_STAT_LOCK 1
      if s2.mode = 2 ∧ s2.portUsed (p % 12) ∧ s2.fld (Reg.RING_PORT_STAT (p % 12)) Fld.RING_PORT_STAT_STATE = 1 then
        .next (s2.bringUp (p % 12)).showRings
      else .next s2
    | none =>
      let v := s1.ep e
      let v1 : Endpoint := if d then { v with lockD := true, downAt := s1.tm.mono } else { v with lockU := true, upAt := s1.tm.mono }
      .next (s1.setEp e { v1 with noLockAt := none, state := if v.state = 0 then 1 else v.state })

/-- RING_BRING_UP (R315): on entry to RUN every used port that is not brought up runs its bring-up order. -/
def execRingBringUp (dt : Nat) (s : State) : Out :=
  let s1 := s.tick dt
  if s1.mode ≠ 2 then .next s1
  else
    .next ((List.range 12).foldl (fun (st : State) (p : Nat) => if st.portUsed p && decide (st.fld (Reg.RING_PORT_STAT p) Fld.RING_PORT_STAT_STATE < 2) then st.bringUp p else st)
      { s1 with ring := { s1.ring with enumAt := s1.tm.mono } }).showRings

/-- Every endpoint of a port has a delay for its stream. -/
def State.delaysKnown (s : State) (p : Nat) : Bool :=
  let hi := s.fld (Reg.RING_PORT_STAT p) Fld.RING_PORT_STAT_MODE == 3
  (List.range 32).all fun a =>
    let e := s.epIndex p a
    s.par (Par.epUsed e) != 1 || !(SMap.get (fun _ => []) s.ring.delays (2 * e + flag hi)).isEmpty

/-- A ring whose endpoints have not all answered within the 50 ms of a bring-up differs in its count from the image's table: it goes to FAULT
(R315). -/
def State.ringCountFault (s : State) (p : Nat) : State :=
  let st := s.fld (Reg.RING_PORT_STAT p) Fld.RING_PORT_STAT_STATE
  let found := SMap.get (fun _ => []) s.ring.found p
  if (st = 2 ∨ st = 3) ∧ Config.msec 50 ≤ s.since (SMap.get (fun _ => 0) s.ring.bringAt p) then
    let missing := (((List.range 32).map fun a => s.epIndex p a).filter fun e => s.par (Par.epUsed e) == 1 && !found.contains e)
    (missing.foldl (fun u e => (u.setF (Reg.RING_EP_STAT e) Fld.RING_EP_STAT_MISMATCH 1).post Ev.RING_EP_MISMATCH e) s).ringFault p
  else s

/-- An endpoint's MEAS of the cycle whose boundary its last SYNC named (R291, R308): sampled at RT_BOUND + MEAS_OFS; its words are the
endpoint's own, free values. -/
def State.epMeas (s : State) (e : Nat) : State :=
  let v := s.ep e
  if v.state < 4 then s
  else
    let w := fnum v.cfg 3 1
    let link := flag v.lockU + 2 * flag v.lockD + 4 * flag (v.mode != 0) + 8 * flag v.timeHi
    let faults := flag v.safeTmo + 2 * flag v.crcErr + 4 * flag v.late + 8 * flag v.localTrip
    let pay := leBytes 6 ((v.rtBound + fnum v.cfg 4 4) % rtSpan) ++ leBytes 1 v.state ++ leBytes 1 link ++ leBytes 2 faults
      ++ leBytes 2 v.dropped ++ leBytes 2 v.stretched ++ leBytes 2 v.stale
      ++ (List.range w).flatMap fun i => leBytes 4 (Config.freeWord (s.free + i)).toNat
    { s.setEp e { v.emit 0x41 v.epoch v.cycleNo pay with crcErr := false, late := false } with free := s.free + w }

/-- The endpoints end a base cycle: what they sent in it is gone, and the MEAS of each goes out. -/
def State.epsEnd (s : State) : State :=
  let quiet : SMap Endpoint := s.ring.eps.map fun (e : Nat × Endpoint) => (e.1, { e.2 with outU := [], outD := [] })
  (quiet.map fun (e : Nat × Endpoint) => e.1).foldl State.epMeas { s with ring := { s.ring with eps := quiet } }

/-- SYNC is the first control frame after a boundary on every used port (R288, R292, R316); a port whose delays are all known
reaches RUN with it (R315); the frames and blocks of the ended cycle are gone. After GUARD_FAULT nothing is sent. -/
def State.ringSync (s : State) : State :=
  let s0 := s.epsEnd.pump
  let s0 := { s0 with ring := { s0.ring with ports := s0.ring.ports.map fun t =>
    (t.1, { t.2 with sent := [], line := t.2.line.filter fun b => decide (s0.lineNow < b.1 + 264) }) } }
  if s0.keep.guardFault then s0
  else
    (List.range 12).foldl (fun st p =>
      if st.portUsed p then
        let now := st.nowUnits % rtSpan
        let u := st.sendDown p 2 0xFF 0 (leBytes 6 now ++ leBytes 6 (st.cycleUnits % rtSpan)
          ++ leBytes 1 (st.fld Reg.TIME_CYCLE Fld.TIME_CYCLE_TC_CODE) ++ leBytes 3 0)
        if u.fld (Reg.RING_PORT_STAT p) Fld.RING_PORT_STAT_STATE == 4 && u.delaysKnown p then
          (u.setF (Reg.RING_PORT_STAT p) Fld.RING_PORT_STAT_STATE 5).showRings
        else u.ringCountFault p
      else st) s0

/-! ### Measurements (R313, R314) -/

/-- The timestamp of a ring time (R296, R313): the module's timestamp less how long ago it was. -/
def State.rtToTs (s : State) (rt : Nat) : Count :=
  s.tm.ts - BitVec.ofInt 64 (rtDiff (s.nowUnits % rtSpan) rt * 5 / 64)

/-- MEAS (R313, R291): a good frame's report is shown, and its words go to both sides through the port's queue, stamped and
with their epoch; the second copy in a pair is discarded. -/
def execMeas (dt : Nat) (port : Nat) (f : List Byte) (s : State) : Out :=
  let p := port % 12
  .next ((s.tick dt).portFrame p 0x41 f fun s1 =>
    let e := s1.epIndex p (frAddr f)
    let key := frCycle f * 256 + fnum f 7 1
    let had := SMap.get (fun _ => []) s1.ring.meas e
    if had.contains key then s1
    else
      let s2 := { s1 with ring := { s1.ring with meas := SMap.insert s1.ring.meas e (key :: had.take 7) } }
      let r := Reg.RING_EP_STAT e
      let s3 := ((s2.setF r Fld.RING_EP_STAT_STATE (frPay f 6 1)).setF r Fld.RING_EP_STAT_SAFE_TMO
        (flag ((frPay f 8 2).testBit 0))).setF r Fld.RING_EP_STAT_LOCAL_TRIP (flag ((frPay f 8 2).testBit 3))
      let s4 := (s3.setF r Fld.RING_EP_STAT_TURN (flag ((frPay f 7 1).testBit 2))).setF r Fld.RING_EP_STAT_EPOCH (frEpoch f)
      let s5 := (s4.wr (Reg.RING_EP_REP_0 e) (BitVec.ofNat 32 (frPay f 0xA 2 * 65536 + frPay f 0xC 2))).wr
        (Reg.RING_EP_REP_1 e) (BitVec.ofNat 32 (frPay f 0xE 2))
      let n := (fnum f 2 2 - 16) / 4
      let ws := (List.range n).map fun i => BitVec.ofNat 32 (frPay f (16 + 4 * i) 4)
      let ts := s5.rtToTs (frPay f 0 6)
      let s6 := { s5 with ring := { s5.ring with
        words := SMap.put (fun _ => []) s5.ring.words e ws, measNew := e :: s5.ring.measNew } }
      let w := ws.headD 0
      ((s6.gapOffer .a (96 + p) w.toInt ts (64 + e) (frEpoch f) ws.tail).gapOffer .b (96 + p) w.toInt ts (64 + e) (frEpoch f)
        ws.tail).showRings)

/-- At a boundary, every endpoint in TIMED, RUN or SAFE since then whose measurement has not come by the boundary that follows its sampling
instant + T_c counts a miss (R314): that of two cycles ago, or of as many more as MEAS_OFS spans. -/
def State.measMissed (s : State) : State :=
  let now := (s.rd Reg.TIME_CYCLE_CNT).toNat
  (List.range 384).foldl (fun st e =>
    let v := st.ep e
    let back := 2 + st.parN (Par.epOfs e) / max st.tcUnits 1
    let cycle := (now + 2 ^ 32 - back) % 2 ^ 32
    let since := (now + 2 ^ 32 - v.timedAt) % 2 ^ 32
    if 4 ≤ v.state ∧ st.par (Par.epUsed e) = 1 ∧ back ≤ since
        ∧ !((SMap.get (fun _ => []) st.ring.meas e).any fun k => k / 256 == cycle) then
      let s1 := st.bump (Reg.RING_EP_CNT e) Fld.RING_EP_CNT_MISSED
      s1.postLimited Ev.EP_MEAS_MISSING e 0 (s1.fld (Reg.RING_EP_CNT e) Fld.RING_EP_CNT_MISSED)
    else st) s

/-! ### Trip symbol and safe states (R303 to R309) -/

/-- A TRIP block is valid when bytes 4 to 6 are the complements of bytes 1 to 3 (R303). -/
def tripOk (b : List Byte) : Bool :=
  let g := fun i => fnum b i 1
  b.length == 8 && g 0 == 0xD2 && g 4 == 255 - g 1 && g 5 == 255 - g 2 && g 6 == 255 - g 3

/-- TRIP_BLOCK (R305 to R307): an endpoint forwards a valid block; a SET latches the groups it shares, a CLEAR of the Guard
die clears them, and a leg without a latched group may leave its pattern. -/
def execTripBlock (dt : Nat) (e : Nat) (b : List Byte) (s : State) : Out :=
  let s1 := s.tick dt
  if !tripOk b then .next s1
  else
    let v := (s1.ep e).putTrip b
    let g := fnum b 1 1
    if fnum b 2 1 = 1 then .next (s1.setEp e (v.latch (s1.rtOf v) g))
    else if fnum b 2 1 = 2 ∧ fnum b 3 1 = 0xFF then
      let left := v.latched - (v.latched &&& g)
      let now := s1.rtOf v
      .next (s1.setEp e { v with
        latched := left
        legs := if left = 0 then v.legs.map fun l =>
            (l.1, if l.2.held && l.2.clearAt.isNone then { l.2 with clearAt := some now } else l.2)
          else v.legs })
    else .next (s1.setEp e v)

/-- PORT_TRIP_BLOCK_RX (R306): an endpoint's SET sets Quickset source 96 + n; a block of the Guard die that comes back sets
nothing. A burst is a SET 2 µs or more after the last, or of another origin (log entry 12). -/
def execPortTripBlockRx (dt : Nat) (port : Nat) (b : List Byte) (s : State) : Out :=
  let s1 := s.tick dt
  let p := port % 12
  if !tripOk b || fnum b 2 1 != 1 || fnum b 3 1 == 0xFF then .next s1
  else
    let r := Reg.RING_PORT_TRIP p
    let seen := s1.ring.setSeen.find? fun t => t.1 == p
    let again := match seen with
      | some t => decide (s1.since t.2 < Config.usec 2) && s1.fld r Fld.RING_PORT_TRIP_ORIGIN == fnum b 3 1
      | none => false
    let s2 := if again then s1 else s1.bump r Fld.RING_PORT_TRIP_SETS
    let s3 := (s2.setF r Fld.RING_PORT_TRIP_GROUPS (fnum b 1 1)).setF r Fld.RING_PORT_TRIP_ORIGIN (fnum b 3 1)
    .next ({ s3 with ring := { s3.ring with
      setSeen := SMap.insert s3.ring.setSeen p s3.tm.mono
      setFrom := s3.epIndex p (fnum b 3 1) :: s3.ring.setFrom } }.qsetPulse (96 + p))

/-- An endpoint's own SET goes out (R306). -/
def Endpoint.ownSet (v : Endpoint) (at' : Count) : Endpoint := { v.putTrip (tripBlock v.groups 1 (v.addr.getD 0xFF) 0xFF) with setAt := at' }

/-- EP_LOCAL_FAULT (R306, R308): an endpoint with a fault of its own goes to SAFE, latches its groups and sends a SET; the
end of the fault ends the repetition. -/
def execEpLocalFault (dt : Nat) (e : Nat) (active : Bool) (s : State) : Out :=
  let s1 := s.tick dt
  let v := s1.ep e
  if active then
    let v1 := v.ownSet s1.tm.mono
    let v2 := if v.state = 5 then { v1.halt (s1.rtOf v) with state := 6 } else v1
    .next (s1.setEp e ({ v2 with localTrip := true, resumed := false }.latch (s1.rtOf v) v.groups))
  else .next (s1.setEp e { v with localTrip := false })

/-- TRIP_SET_REPEAT (R304, R306): SET with the tripped groups every 1 µs while any group is tripped, and the SET of each endpoint whose own
fault lasts. -/
def execTripSetRepeat (dt : Nat) (s : State) : Out :=
  let s1 := s.tick dt
  let s2 := if s1.fld Reg.QSET_STAT Fld.QSET_STAT_GROUPS ≠ 0 ∧ Config.usec 1 ≤ s1.since s1.qset.setAt then s1.sendSet else s1
  let again := fun v : Endpoint => if v.localTrip && decide (Config.usec 1 ≤ s2.since v.setAt) then v.ownSet s2.tm.mono else v
  .next { s2 with ring := { s2.ring with eps := s2.ring.eps.map fun e => (e.1, again e.2) } }

/-- EP_SAFE_TIMEOUT (R308): in RUN, 2 T_c without a valid SCHED. -/
def execEpSafeTimeout (dt : Nat) (e : Nat) (s : State) : Out :=
  let s1 := s.tick dt
  let v := s1.ep e
  if v.state = 5 ∧ 2 * s1.tc ≤ s1.since v.lastSched then
    .next (s1.setEp e { v.halt (s1.rtOf v) with state := 6, safeTmo := true, resumed := false })
  else .next s1

/-- EP_NO_LINK_TIMEOUT (R308): 2 T_c without lock on any interface drop the address. -/
def execEpNoLinkTimeout (dt : Nat) (e : Nat) (s : State) : Out :=
  let s1 := s.tick dt
  let v := s1.ep e
  match v.noLockAt with
  | some t =>
    if 2 ≤ v.state ∧ !v.locked ∧ 2 * s1.tc ≤ s1.since t then
      .next (s1.setEp e (v.forget 0 (s1.rtOf v)))
    else .next s1
  | none => .next s1

/-! ### Fail-over and switchover (R311, R312) -/

/-- TAKEOVER (R311): the first of a CYCLE raises E by EPOCH_INC and, with REVERT, takes back the entries the lost side sent
after its last confirmed cycle. -/
def execTakeover (dt : Nat) (e : Nat) (viaD : Bool) (f : List Byte) (s : State) : Out :=
  .next ((s.tick dt).epFrame e viaD 9 f fun s1 v =>
    if v.takeover = some (frCycle f) then s1.setEp e v
    else
      let v1 := { v with takeover := some (frCycle f), epoch := (v.epoch + frPay f 4 1) % 65536 }
      s1.setEp e (if frPay f 5 1 = 1 then { v1 with legs := v1.legs.map fun l => (l.1, l.2.revert (frPay f 0 4) (s1.rtOf v1)) } else v1))

/-- A frame on the wire is cut with ABORT (R311) at the next block boundary; the lane is free after that block and an IDLE. -/
def State.cutFrame (s : State) (p : Nat) : State :=
  let s1 := s.pumpPort p
  let t := s1.port p
  let now := s1.lineNow
  let left := t.line.filter fun b => decide (now ≤ b.1) && !b.2.isTrip && b.2 != Block.idle
  if left.isEmpty ∨ s1.keep.guardFault then s1
  else
    let kept := t.line.filter fun b => decide (b.1 < now)
    let go := max now (kept.getLast?.elim 0 fun b => b.1 + 264)
    let tail := timed go ((t.line.filter fun b => decide (now ≤ b.1) && b.2.isTrip).map (·.2) ++ [Block.abort, Block.idle])
    s1.setPort p { t with line := kept ++ tail, freeAt := tail.getLast?.elim go fun b => b.1 + 264 }

/-- TAKEOVER goes out on every used port, ahead of every queued SCHED; a frame of the old side on the wire is cut (R311, R312). -/
def State.sendTakeover (s : State) (cut inc revert : Nat) : State :=
  (List.range 12).foldl (fun st p =>
    if st.portUsed p then
      (st.cutFrame p).sendDown p 9 0xFF (st.epoch plActive) (leBytes 4 cut ++ leBytes 1 inc ++ leBytes 1 revert ++ leBytes 2 0)
    else st) s

/-! ### Commands (R321, R322) -/

/-- RESUME to one endpoint with its placement epoch, on every port of its ring. -/
def State.sendResume (s : State) (e : Nat) : State :=
  (s.ringPorts (ringOf e)).foldl (fun st p =>
    st.sendDown p 7 (e % 32) 0 (leBytes 2 (st.epoch (st.epPlace e)) ++ leBytes 6 0)) s

/-- The endpoints of the image's table on a ring. -/
def State.ringEps (s : State) (p : Nat) : List Nat :=
  ((List.range 32).map fun a => s.epIndex p a).filter fun e => s.par (Par.epUsed e) == 1

/-- A write to RING_CMD: the command it names (R321). -/
def State.ringCmdWrite (s : State) (acc : Access) (val : Word) : State :=
  s.command acc Reg.RING_CMD .svc fun s1 =>
    let cmd := fget Fld.RING_CMD_CMD val
    let t := fget Fld.RING_CMD_TARGET val
    if cmd = 1 then
      if !s1.portUsed t then s1
      else if (s1.ringEps t).any fun e => s1.fld (Reg.RING_EP_STAT e) Fld.RING_EP_STAT_STATE == 5 then s1.post Ev.RING_CMD_REFUSED t
      else ((s1.ringPorts t).foldl State.bringUp s1).showRings
    else if cmd = 2 then
      if s1.portUsed t then { s1 with ring := { s1.ring with delayDue := s1.ring.delayDue ++ [t] } } else s1
    else if cmd = 3 then (if s1.par (Par.epUsed t) = 1 then s1.sendResume t else s1)
    else if cmd = 4 then (s1.ringEps t).foldl State.sendResume s1
    else s1.paramReject acc Reg.RING_CMD

/-- RESCAN (R315, R321). -/
def execRescan (dt : Nat) (acc : Access) (val : Word) (s : State) : Out := .next ((s.tick dt).ringCmdWrite acc val)

/-- DELAY_NOW (R299). -/
def execDelayNow (dt : Nat) (acc : Access) (val : Word) (s : State) : Out := .next ((s.tick dt).ringCmdWrite acc val)

/-- RING_CMD_RESUME_EP (R310). -/
def execRingCmdResumeEp (dt : Nat) (acc : Access) (val : Word) (s : State) : Out := .next ((s.tick dt).ringCmdWrite acc val)

/-- RING_CMD_RESUME_ALL (R310). -/
def execRingCmdResumeAll (dt : Nat) (acc : Access) (val : Word) (s : State) : Out := .next ((s.tick dt).ringCmdWrite acc val)

/-- A write to RING_CLR (R322). -/
def State.ringClrWrite (s : State) (acc : Access) (val : Word) : State :=
  s.command acc Reg.RING_CLR .op fun s1 =>
    if val.getLsbD 0 then
      let s2 := (List.range 12).foldl (fun st p => st.clearCount (Reg.RING_PORT_CNT p)) s1
      (List.range 384).foldl (fun st e => (st.clearCount (Reg.RING_EP_CNT e)).forget Ev.EP_MEAS_MISSING e) s2
    else s1

/-- RING_CLR (R322). -/
def execRingClr (dt : Nat) (acc : Access) (val : Word) (s : State) : Out := .next ((s.tick dt).ringClrWrite acc val)

end Sys2Proof.Machine
end

