-- ==== Sys2Proof/Machine/Sst.lean ====
section
/-! DEFINITION. The transformer: modulation and balancing limits, ride-through, protection, cell states, carrier plans, the
energise and de-energise ladder, restarts (R323 to R382). -/

namespace Sys2Proof.Machine

open Sys2Proof

/-! ### Cells -/

/-- The transformer is part of the running structure. -/
def State.sstUsed (s : State) : Bool := hasSst s.variant && s.fld Reg.SST_CFG Fld.SST_CFG_N_PHASE != 0

/-- The cells the image lists: 32 × phase + position. -/
def State.cells (s : State) : List Nat :=
  if s.sstUsed then (List.range 96).filter fun c => decide (c % 32 < s.fld Reg.SST_CFG Fld.SST_CFG_N_PHASE) else []

/-- The listed cells of a phase. -/
def State.cellsOf (s : State) (p : Nat) : List Nat := s.cells.filter fun c => c / 32 == p

/-- A cell. -/
def State.cell (s : State) (c : Nat) : Cell := SMap.get (fun _ => Cell.reset) s.sst.cells c

/-- The state with a cell set. -/
def State.setCell (s : State) (c : Nat) (v : Cell) : State :=
  { s with sst := { s.sst with cells := SMap.put (fun _ => Cell.reset) s.sst.cells c v } }

/-- SST_CELL_STAT_c.STATE (R370). -/
def State.cellState (s : State) (c : Nat) : Nat := s.fld (Reg.SST_CELL_STAT c) Fld.SST_CELL_STAT_STATE

/-- The state with a cell's state set. -/
def State.setCellState (s : State) (c v : Nat) : State := s.setF (Reg.SST_CELL_STAT c) Fld.SST_CELL_STAT_STATE v

/-- A bit of the last cell status word (R367). -/
def State.cellBit (s : State) (c i : Nat) : Bool := (s.fld (Reg.SST_CELL_STAT c) Fld.SST_CELL_STAT_STATUS).testBit i

/-- The endpoint of a cell. -/
def State.cellEp (s : State) (c : Nat) : Nat := s.fld (Reg.SST_CELL_EP c) Fld.SST_CELL_EP_EP

/-- The Guard die shows the cell's endpoint in RUN. -/
def State.cellRuns (s : State) (c : Nat) : Bool :=
  s.fld (Reg.RING_EP_STAT (s.cellEp c)) Fld.RING_EP_STAT_STATE == 5

/-- The cells of a phase in one of some states. -/
def State.cellsIn (s : State) (p : Nat) (sts : List Nat) : List Nat := (s.cellsOf p).filter fun c => sts.contains (s.cellState c)

/-- The cells of a phase in READY or ACTIVE. -/
def State.standing (s : State) (p : Nat) : Nat := (s.cellsIn p [1, 2]).length

/-- Every phase holds N_MIN cells in READY or ACTIVE. -/
def State.phasesStand (s : State) : Bool :=
  [0, 1, 2].all fun p => decide (s.fld Reg.SST_CFG Fld.SST_CFG_N_MIN ≤ s.standing p)

/-- The cells that hold a slot. -/
def State.activeCells (s : State) : List Nat := s.cells.filter fun c => s.cellState c == 2

/-- The transformer's protection group G_T (R361). -/
def State.gT (s : State) : Nat := s.fld Reg.SST_BRK_CFG Fld.SST_BRK_CFG_GROUP % 8

/-- G_T is tripped. -/
def State.sstTripped (s : State) : Bool := s.groupTripped s.gT

/-- The set latches mapped to G_T. -/
def State.gtLatches (s : State) : List Nat :=
  (List.range 117).filter fun i => s.latched i && (s.srcGroups i).testBit s.gT

/-- A latch of class OPEN_NOW is set (R363): by BRK_SRC; the force latch that the protection itself has set is of that class after an earth
fault alone. -/
def State.openNow (s : State) : Bool :=
  s.gtLatches.any fun i => if i = 108 + s.gT ∧ s.sst.own then s.sst.earth else s.bit (Reg.SST_BRK_SRC (i / 32)) (i % 32)

/-- SST_RUN_STAT.STATE (R376). -/
def State.ladder (s : State) : Nat := s.fld Reg.SST_RUN_STAT Fld.SST_RUN_STAT_STATE

/-- MOD_ON. -/
def State.modOn (s : State) : Bool := s.fld Reg.SST_STAT Fld.SST_STAT_MOD_ON == 1

/-- The transformer is energised: CHARGE, BUS, RUN or BLOCKED. -/
def State.energised (s : State) : Bool := decide (4 ≤ s.ladder) && decide (s.ladder ≤ 7)

/-- What the cells' legs carry in SCHED (R368, R369, R376, R379): a cell out of the string, outside CHECK one to be restored too,
holds the zero state with its DAB legs off; front-end legs run while the cell is ACTIVE and MOD_ON is 1, or for the entry of R369 duty 3 in CHECK; DAB legs run from
BUS on. -/
def State.showLegs (s : State) : State :=
  let zero := fun c => (decide (3 ≤ s.cellState c) && decide (s.cellState c ≤ 6)) || (s.cellState c == 7 && s.ladder != 1)
  let dab := s.ladder == 5 || s.ladder == 6 || (s.ladder == 8 && decide (s.sst.step < 2))
  let off := fun c =>
    let front := (s.modOn && s.cellState c == 2) || (s.ladder == 1 && s.cellState c == 7)
    (if front then 0 else 3) + (if dab && s.cellState c == 2 then 0xC0 else 0xFC)
  { s with ring := { s.ring with
      zeros := (s.cells.filter zero).map s.cellEp
      legsOff := s.cells.foldl (fun m c => SMap.insert m (s.cellEp c) (off c)) s.ring.legsOff } }

/-- The counts of cells in SST_RUN_STAT. -/
def State.showCells (s : State) : State :=
  let n := fun sts => (s.cells.filter fun c => sts.contains (s.cellState c)).length
  let s1 := (s.setF Reg.SST_RUN_STAT Fld.SST_RUN_STAT_FAILED (n [6])).setF Reg.SST_RUN_STAT Fld.SST_RUN_STAT_BYPASSED (n [4, 5])
  (s1.setF Reg.SST_RUN_STAT Fld.SST_RUN_STAT_DISCHARGED (flag (!s.cells.isEmpty && s.cells.all fun c => s.cellBit c 4))).showLegs

/-- A phase's plan is due at a boundary after this cycle (R372). -/
def State.replanDue (s : State) (p : Nat) : State :=
  { s with sst := { s.sst with replan := s.sst.replan ++ [(p, s.tm.cycleN)] } }

/-- A cell becomes FAILED by a hard cause (R370). -/
def State.failCell (s : State) (c : Nat) : State :=
  if 3 < s.cellState c then s
  else
    let s1 := (s.setCellState c 6).bump (Reg.SST_CELL_HIST c) Fld.SST_CELL_HIST_HARD
    let s2 := (s1.bump Reg.SST_PROT_CNT Fld.SST_PROT_CNT_HARD).post Ev.SST_CELL_FAILED c 0
    ((s2.setCell c { s2.cell c with zeroAt := some s2.tm.mono }).replanDue (c / 32)).watchSst

/-- A cell enters BYPASSING (R370, R371): the last spare of its phase sets NO_SPARE. -/
def State.bypassCell (s : State) (c : Nat) (soft : Bool) : State :=
  let s1 := (s.setCellState c 3).bump (Reg.SST_CELL_HIST c) Fld.SST_CELL_HIST_BYPASSES
  let s2 := if soft then s1.bump Reg.SST_PROT_CNT Fld.SST_PROT_CNT_SOFT else s1
  let s3 := (s2.setCell c { s2.cell c with zeroAt := none }).replanDue (c / 32)
  if s3.standing (c / 32) = s3.fld Reg.SST_CFG Fld.SST_CFG_N_MIN then
    (s3.setF Reg.SST_RUN_STAT Fld.SST_RUN_STAT_NO_SPARE 1).post Ev.SST_NO_SPARE (c / 32)
  else s3

/-- The phase of a cell would fall below N_MIN while the transformer is energised (R371). -/
def State.wouldStarve (s : State) (c : Nat) : Bool :=
  s.energised && decide (s.standing (c / 32) ≤ s.fld Reg.SST_CFG Fld.SST_CFG_N_MIN)

/-- A ride-through register in force (R358): the profile of the event's onset until the state is NORMAL again. -/
def State.rtReg (s : State) (addr : Nat) : Word :=
  if s.fld Reg.SST_STAT Fld.SST_STAT_RT_STATE = 0 then s.rd addr else SMap.get s.rd s.sst.profile addr

/-! ### The ladder (R376 to R379) -/

/-- The ladder enters a state. -/
def State.enterLadder (s : State) (v : Nat) : State :=
  let s1 := s.setF Reg.SST_RUN_STAT Fld.SST_RUN_STAT_STATE v
  { s1 with sst := { s1.sst with ladderAt := s1.tm.mono, step := 1, stepAt := s1.tm.mono } }

/-- The next step of a ladder state. -/
def State.nextStep (s : State) (v : Nat) : State :=
  { s with sst := { s.sst with step := v, stepAt := s.tm.mono } }

/-- MOD_ON set or cleared. -/
def State.setMod (s : State) (b : Bool) : State := s.setF Reg.SST_STAT Fld.SST_STAT_MOD_ON (flag b)

/-- Both breakers are commanded open: step 5 of R379, and R364 for the main breaker. -/
def State.openBreakers (s : State) : State :=
  { s with sst := { s.sst with mainClose := false, mainOpen := true, preClose := false } }

/-- STOPPING with a reason (R379): every step from CHARGE to RUN with COMMAND or N_MIN, else from step 4. -/
def State.sstStop (s : State) (reason : Nat) (lock : Bool) : State :=
  let full := (reason = 1 ∨ reason = 7) ∧ 4 ≤ s.ladder ∧ s.ladder ≤ 6
  let s1 := (s.enterLadder 8).setF Reg.SST_RUN_STAT Fld.SST_RUN_STAT_ABORT reason
  let s2 := if reason = 1 then s1 else s1.bump Reg.SST_PROT_CNT Fld.SST_PROT_CNT_ABORTS
  let s3 := { s2 with sst := { s2.sst with lockEnd := lock || reason == 4 } }
  if full then s3 else s3.nextStep 4

/-- CHECK's transitions of a cell (R370). -/
def State.checkCell (s : State) (c : Nat) : State :=
  let ready := s.cellRuns c && s.cellBit c 0 && !s.cellBit c 1
  if s.cellState c = 0 ∧ ready then s.setCellState c 1
  else if s.cellState c = 7 ∧ s.cellRuns c then
    if ready && !s.cellBit c 6 then s.setCellState c 1 else s
  else s

/-- A cell whose restoration fails the CHECK step (R370). -/
def State.restoreFails (s : State) (c : Nat) : State :=
  if s.cellState c = 7 then (s.setCellState c (s.cell c).before).post Ev.SST_RESTORE_FAIL c else s

/-- Every listed endpoint is in RUN and CHECK's transitions are done. -/
def State.checkDone (s : State) : Bool :=
  s.cells.all (fun c => s.cellRuns c && s.cellState c != 0 && s.cellState c != 7) && s.phasesStand

/-- The mean cell voltage of a phase over some of its cells, in 10 mV. -/
def State.meanVolt (s : State) (cs : List Nat) : Int :=
  if cs.isEmpty then 0 else (cs.map fun c => (s.cell c).volt).foldl (· + ·) 0 / (cs.length : Int)

/-- V_pre in 10 mV (R378), rounded down (log entry 12). -/
def State.vPre (s : State) : Int :=
  let n := [0, 1, 2].foldl (fun a p => a + (s.cellsIn p [1]).length) 0
  (141421356 * s.fld Reg.SST_CFG Fld.SST_CFG_V_LL_NOM * s.sst.last.uPos * 3 / (2 * max n 1 * 100000000) : Nat)

/-- Every READY cell lies within WINDOW of V_pre. -/
def State.inWindow (s : State) : Bool :=
  let v := s.vPre
  let w := v * s.fld Reg.SST_PRE_CFG Fld.SST_PRE_CFG_WINDOW / 100
  s.cells.all fun c => s.cellState c != 1 || (decide (v - w ≤ (s.cell c).volt) && decide ((s.cell c).volt ≤ v + w))

/-- PRECHARGE's slope check (R376): over each 100 ms every phase mean rises by less than 1 % of V_pre. -/
def State.preSample (s : State) : State :=
  let means := [0, 1, 2].map fun p => s.meanVolt (s.cellsIn p [1])
  if s.ladder = 2 ∧ Config.msec 100 ≤ s.since s.sst.preAt then
    let slow := s.sst.preMean.length == 3
      && (means.zip s.sst.preMean).all fun (a, b) => decide (100 * (a - b) < s.vPre)
    { s with sst := { s.sst with preAt := s.tm.mono, preMean := means, preSlow := slow } }
  else s

/-- VC_REF in 10 mV. -/
def State.vcRef (s : State) : Int := (10 * s.fld Reg.SST_VC_REF Fld.SST_VC_REF_REF : Nat)

/-- Within 2 % of a reference. -/
def near2 (v ref : Int) : Bool := decide (50 * (v - ref).natAbs ≤ ref.natAbs)

/-- CHARGE begins (R370, R376, R378): READY cells become ACTIVE and take slots; MOD_ON; the target starts at the mean. -/
def State.startCharge (s : State) : State :=
  let s1 := s.cells.foldl (fun st c => if st.cellState c = 1 then st.setCellState c 2 else st) s
  let s2 := [0, 1, 2].foldl State.replanDue s1
  let s3 := (s2.enterLadder 4).setMod true
  { s3 with sst := { s3.sst with rampFrom := s3.meanVolt s3.activeCells } }

/-- The restarts of the last hour (R380). -/
def State.lastHour (s : State) : List Count := s.sst.restarts.filter fun t => decide (s.since t < Config.sec 3600)

/-- A restart is accepted: it leaves BLOCKED for CHARGE (R380). -/
def State.sstRestart (s : State) : State :=
  let l := s.lastHour ++ [s.tm.mono]
  let s1 := { s with sst := { s.sst with restarts := l, refused := 0 } }
  let s2 := (s1.setF Reg.SST_RUN_STAT Fld.SST_RUN_STAT_RESTARTS (min l.length 15)).post Ev.SST_RESTART 0xFFF l.length
  let s3 := { (s2.enterLadder 4).setMod true with sst := { ((s2.enterLadder 4).setMod true).sst with
    rampAt := some s2.tm.mono } }
  { s3 with sst := { s3.sst with rampFrom := s3.meanVolt s3.activeCells } }

/-- The end of STOPPING: DEAD or LOCKOUT, then the bypasses that waited for it; no other cell keeps its place (R370, R371, R376). -/
def State.sstStopped (s : State) : State :=
  let s0 := (s.enterLadder (if s.sst.lockEnd then 9 else 0)).post Ev.SST_STOPPED 0xFFF (s.fld Reg.SST_RUN_STAT Fld.SST_RUN_STAT_ABORT)
  let s1 := if s.sst.lockEnd then s0.watchSst else s0
  let s2 := s1.sst.bypAfter.foldl (fun st c => if st.cellState c = 1 ∨ st.cellState c = 2 then st.bypassCell c true else st) s1
  let s3 := s2.cells.foldl (fun st c => if st.cellState c = 2 ∨ st.cellState c = 1 then st.setCellState c 0 else st) s2
  [0, 1, 2].foldl State.replanDue { s3 with sst := { s3.sst with bypAfter := [] } }

/-- Steps 1 to 6 of R379, as far as their conditions are met now. -/
def State.stopSteps : Nat → State → State
  | 0, s => s
  | k + 1, s =>
    let quiet := s.sst.last.iPeak.all fun i => decide (i < 20)
    if s.ladder ≠ 8 then s
    else if s.sst.step = 1 then
      if 100 * s.sst.pDab.natAbs < s.parN Par.siteKw then State.stopSteps k (s.nextStep 2) else s
    else if s.sst.step = 2 then State.stopSteps k (s.nextStep 3)
    else if s.sst.step = 3 then
      if (quiet && decide (Config.msec 20 ≤ s.since s.sst.stepAt)) || decide (Config.msec 40 ≤ s.since s.sst.stepAt)
      then State.stopSteps k (s.nextStep 4) else s
    else if s.sst.step = 4 then State.stopSteps k ((s.setMod false).openBreakers.nextStep 5)
    else if s.fld Reg.SST_RUN_STAT Fld.SST_RUN_STAT_MAIN_CLOSED = 0 ∧ s.fld Reg.SST_RUN_STAT Fld.SST_RUN_STAT_PRE_CLOSED = 0
    then s.sstStopped else s

/-- A trip of class HOLD from CHARGE to RUN (R376, R380): BLOCKED, or STOPPING and LOCKOUT once the restarts are used. -/
def State.sstBlock (s : State) : State :=
  if s.fld Reg.SST_RESTART_CFG Fld.SST_RESTART_CFG_RESTART_MAX ≤ s.lastHour.length then s.sstStop 8 true
  else
    let s1 := (s.enterLadder 7).setMod false
    { s1 with sst := { s1.sst with refused := 0, triedAt := s1.tm.mono } }

/-- The rows of R376 that a trip, the grid or the rings decide, in that order (R35). -/
def State.ladderStops (s : State) : State :=
  let l := s.ladder
  let g := s.sst.last
  let rt := s.fld Reg.SST_STAT Fld.SST_STAT_RT_STATE
  let away := s.cells.any fun c => !s.cellRuns c && !s.portPaired (ringOf (s.cellEp c))
    && (l != 1 || s.cellState c == 1)
  if 1 ≤ l ∧ l ≤ 7 ∧ s.openNow then s.sstStop 6 false
  else if 1 ≤ l ∧ l ≤ 3 ∧ s.sstTripped then s.sstStop 11 false
  else if 4 ≤ l ∧ l ≤ 6 ∧ s.sstTripped then s.sstBlock
  else if 1 ≤ l ∧ l ≤ 5 ∧ s.lasted s.sst.gridBad (Config.msec 20) then s.sstStop 5 false
  else if 1 ≤ l ∧ l ≤ 5 ∧ away then s.sstStop 10 false
  else if 4 ≤ l ∧ l ≤ 6 ∧ rt = 5 then s.sstStop 9 false
  else if 4 ≤ l ∧ l ≤ 7 ∧ (!s.phasesStand || !s.sst.bypAfter.isEmpty) then s.sstStop 7 false
  else { s with sst := { s.sst with last := g } }

/-- The row of R376 whose condition is met now, if any. -/
def State.ladderStep (s : State) : State :=
  let main := s.fld Reg.SST_RUN_STAT Fld.SST_RUN_STAT_MAIN_CLOSED == 1
  let pre := s.fld Reg.SST_RUN_STAT Fld.SST_RUN_STAT_PRE_CLOSED == 1
  match s.ladder with
  | 1 =>
    let s1 := s.cells.foldl State.checkCell s
    if s1.checkDone then
      let s2 := s1.enterLadder 2
      { s2 with sst := { s2.sst with preClose := true, preAt := s2.tm.mono, preMean := [], preSlow := false } }
    else s1
  | 2 =>
    if s.inWindow && s.sst.preSlow then { s.enterLadder 3 with sst := { (s.enterLadder 3).sst with mainClose := true, mainOpen := false } }
    else s
  | 3 =>
    if s.sst.step = 1 ∧ main then { s.nextStep 2 with sst := { (s.nextStep 2).sst with preClose := false } }
    else if s.sst.step = 2 ∧ !pre then s.startCharge
    else s
  | 4 =>
    if [0, 1, 2].all fun p => near2 (s.meanVolt (s.cellsIn p [2])) s.vcRef then
      { s.enterLadder 5 with sst := { (s.enterLadder 5).sst with rampFrom := s.sst.last.vBus } }
    else s
  | 5 =>
    if near2 s.sst.last.vBus (s.fld Reg.SST_VBUS_REF Fld.SST_VBUS_REF_REF : Nat) then (s.enterLadder 6).post Ev.SST_START_DONE
    else s
  | 7 =>
    if s.gtLatches.isEmpty && s.fld Reg.SST_STAT Fld.SST_STAT_PLL_LOCK == 1 && s.phasesStand then s.sstRestart else s
  | 8 => State.stopSteps 6 s
  | _ => s

/-- The ladder advances when a condition of R376 is met (SST_LADDER_ADVANCE). -/
def State.ladderAdvance (s : State) : State :=
  if !s.sstUsed then s
  else
    let trip := s.sstTripped
    let s1 := if trip && !s.sst.wasTrip then s.bump Reg.SST_PROT_CNT Fld.SST_PROT_CNT_TRIPS else s
    let s2 := { s1 with sst := { s1.sst with
      wasTrip := trip, own := s1.sst.own && s1.latched (108 + s1.gT), earth := s1.sst.earth && s1.latched (108 + s1.gT),
      gridBad := s1.track s1.sst.gridBad (s1.fld Reg.SST_STAT Fld.SST_STAT_PLL_LOCK == 0
        || decide (s1.sst.last.uPos < 10 * fget Fld.SST_RT_CFG_U_BLOCK (s1.rtReg Reg.SST_RT_CFG))) } }
    let s3 := if s2.openNow then { s2 with sst := { s2.sst with mainOpen := true, mainClose := false } } else s2
    s3.ladderStops.ladderStep.showCells

/-- The conditions of R377. -/
def State.mayEnergise (s : State) : Bool :=
  s.ladder == 0 && s.fld Reg.SST_STAT Fld.SST_STAT_PLL_LOCK == 1
  && s.cells.all (fun c => (s.ringPorts (ringOf (s.cellEp c))).all fun p =>
      s.fld (Reg.RING_PORT_STAT p) Fld.RING_PORT_STAT_STATE == 5)
  && s.fld Reg.SST_RUN_STAT Fld.SST_RUN_STAT_MAIN_CLOSED == 0 && s.fld Reg.SST_RUN_STAT Fld.SST_RUN_STAT_PRE_CLOSED == 0
  && s.gtLatches.isEmpty
  && [0, 1, 2].all fun p => decide (s.fld Reg.SST_CFG Fld.SST_CFG_N_MIN
      ≤ ((s.cellsIn p [0, 1, 7]).filter fun c => s.cellBit c 0).length)

/-- ENERGISE (R377): CHECK with RESUME to every cell endpoint, or SST_START_REFUSED. -/
def State.sstEnergise (s : State) : State :=
  if s.sstUsed && s.mayEnergise then
    let s1 := s.enterLadder 1
    (s1.cells.foldl (fun st c => st.sendResume (st.cellEp c)) s1).ladderAdvance
  else s.post Ev.SST_START_REFUSED

/-- DEENERGISE (R376, R379): acts from CHARGE to RUN. -/
def State.sstDeenergise (s : State) : State :=
  if 4 ≤ s.ladder ∧ s.ladder ≤ 6 then (s.sstStop 1 false).ladderAdvance else s

/-- A write to SST_RUN_CTRL. -/
def State.sstRunWrite (s : State) (acc : Access) (val : Word) : State :=
  if !s.answers acc.path Reg.SST_RUN_CTRL then s
  else if s.absentHere acc.path Reg.SST_RUN_CTRL then s.touchAbsent acc Reg.SST_RUN_CTRL
  else
    let act := fun (st : State) (f : Field) (sc : Scope) (g : State → State) =>
      if fget f val = 0 then st else if sc.admits acc.role then g st else st.deny acc Reg.SST_RUN_CTRL
    let s1 := act s Fld.SST_RUN_CTRL_DEENERGISE .op State.sstDeenergise
    let s2 := act s1 Fld.SST_RUN_CTRL_ACK_LOCKOUT .svc fun st => if st.ladder = 9 then (st.enterLadder 0).ladderAdvance else st
    act s2 Fld.SST_RUN_CTRL_ENERGISE .op State.sstEnergise

/-- ENERGISE (R377). -/
def execEnergise (dt : Nat) (acc : Access) (val : Word) (s : State) : Out := .next ((s.tick dt).sstRunWrite acc val)

/-- DEENERGISE (R379). -/
def execDeenergise (dt : Nat) (acc : Access) (val : Word) (s : State) : Out := .next ((s.tick dt).sstRunWrite acc val)

/-- SST_ACK_LOCKOUT (R376). -/
def execSstAckLockout (dt : Nat) (acc : Access) (val : Word) (s : State) : Out := .next ((s.tick dt).sstRunWrite acc val)

/-- BREAKER_REPORT (R376): the inputs that report both breakers' positions. -/
def execBreakerReport (dt : Nat) (mainClosed preClosed : Bool) (s : State) : Out :=
  let s1 := s.tick dt
  if !s1.sstUsed then .next s1
  else
    .next ((s1.setF Reg.SST_RUN_STAT Fld.SST_RUN_STAT_MAIN_CLOSED (flag mainClosed)).setF Reg.SST_RUN_STAT
      Fld.SST_RUN_STAT_PRE_CLOSED (flag preClosed)).ladderAdvance

/-- BRK_TMO in counts. -/
def State.brkTmo (s : State) : Nat := Config.msec (10 * s.fld Reg.SST_BRK_CFG Fld.SST_BRK_CFG_BRK_TMO)

/-- SST_LADDER_TIMEOUT (R376, R379): CHECK, PRE_TMO, BRK_TMO, STOP_TMO, step 3's 40 ms or TRIP_HOLD has passed. -/
def execSstLadderTimeout (dt : Nat) (s : State) : Out :=
  let s1 := s.tick dt
  let age := s1.since s1.sst.ladderAt
  let step := s1.since s1.sst.stepAt
  let out := fun (st : State) => Host.Outcome.next st.ladderAdvance
  if !s1.sstUsed then .next s1
  else
    match s1.ladder with
    | 1 =>
      if Config.msec 100 ≤ age then
        let s2 := (s1.cells.foldl State.checkCell s1)
        if s2.checkDone then out s2
        else
          let s3 := s2.cells.foldl State.restoreFails s2
          if s3.checkDone then out s3
          else out (((s3.cells.foldl (fun st c => if st.cellState c = 1 then st.setCellState c 0 else st) s3).enterLadder 0).setF
            Reg.SST_RUN_STAT Fld.SST_RUN_STAT_ABORT 2)
      else .next s1
    | 2 => if Config.sec (s1.fld Reg.SST_PRE_CFG Fld.SST_PRE_CFG_PRE_TMO) ≤ age then out (s1.sstStop 3 false) else .next s1
    | 3 => if s1.brkTmo ≤ step then out ((s1.sstStop 4 true).post Ev.SST_BREAKER_FAIL) else .next s1
    | 7 =>
      if Config.msec (100 * s1.fld Reg.SST_RESTART_CFG Fld.SST_RESTART_CFG_TRIP_HOLD) ≤ age then out (s1.sstStop 8 false)
      else .next s1
    | 8 =>
      if s1.sst.step = 1 ∧ Config.msec (100 * s1.fld Reg.SST_BRK_CFG Fld.SST_BRK_CFG_STOP_TMO) ≤ step then out (s1.nextStep 2)
      else if s1.sst.step = 5 ∧ s1.brkTmo ≤ step then
        out ({ s1 with sst := { s1.sst with lockEnd := true } }.post Ev.SST_BREAKER_FAIL).sstStopped
      else out s1
    | _ => .next s1

/-- SST_RESTART_DELAY (R380): RESTART_DLY after the trip, or after a refused request, the module asks for a clear of every
latch of G_T; a second refusal ends BLOCKED. -/
def execSstRestartDelay (dt : Nat) (s : State) : Out :=
  let s1 := s.tick dt
  let due := Config.msec (100 * s1.fld Reg.SST_RESTART_CFG Fld.SST_RESTART_CFG_RESTART_DLY) ≤ s1.since s1.sst.triedAt
  if s1.ladder = 7 ∧ s1.fld Reg.SST_RESTART_CFG Fld.SST_RESTART_CFG_AUTO = 1 ∧ due
      ∧ s1.fld Reg.SST_STAT Fld.SST_STAT_PLL_LOCK = 1 ∧ s1.phasesStand then
    let s2 := s1.qsetClearAll s1.gtLatches
    let s3 := { s2 with sst := { s2.sst with triedAt := s2.tm.mono } }
    if s3.gtLatches.isEmpty then .next s3.ladderAdvance
    else if 1 ≤ s3.sst.refused then .next (s3.sstStop 8 false).ladderAdvance
    else .next { s3 with sst := { s3.sst with refused := s3.sst.refused + 1 } }
  else .next s1

/-! ### Cell commands (R370, R371) -/

/-- A write to SST_CELL_CMD_c: RESTORE first, then BYPASS. -/
def State.sstCellWrite (s : State) (acc : Access) (c : Nat) (val : Word) : State :=
  s.command acc (Reg.SST_CELL_CMD c) .svc fun s0 =>
    if !s0.cells.contains c then s0
    else
      let s1 :=
        if fget Fld.SST_CELL_CMD_RESTORE val = 1 then
          if s0.cellBit c 6 then s0.post Ev.SST_CMD_REFUSED c
          else if 4 ≤ s0.cellState c ∧ s0.cellState c ≤ 6 then
            (s0.setCell c { s0.cell c with before := s0.cellState c }).setCellState c 7
          else s0
        else s0
      let s2 :=
        if fget Fld.SST_CELL_CMD_BYPASS val = 1 ∧ (s1.cellState c = 1 ∨ s1.cellState c = 2) then
          if s1.wouldStarve c then s1.post Ev.SST_CMD_REFUSED c else s1.bypassCell c false
        else s1
      s2.showCells

/-- BYPASS (R371). -/
def execBypass (dt : Nat) (acc : Access) (c : Nat) (val : Word) (s : State) : Out :=
  .next ((s.tick dt).sstCellWrite acc (c % 96) val)

/-- RESTORE (R370). -/
def execRestore (dt : Nat) (acc : Access) (c : Nat) (val : Word) (s : State) : Out :=
  .next ((s.tick dt).sstCellWrite acc (c % 96) val)

/-- BYPASS_TIMEOUT (R370): BYP_TMO after the zero state took effect without BYP_CLOSED the cell is HELD. -/
def execBypassTimeout (dt : Nat) (c : Nat) (s : State) : Out :=
  let s1 := s.tick dt
  let k := c % 96
  if s1.cellState k = 3 ∧ !s1.cellBit k 1
      ∧ s1.lasted (s1.cell k).zeroAt (Config.msec (10 * s1.fld Reg.SST_BRK_CFG Fld.SST_BRK_CFG_BYP_TMO)) then
    .next ((s1.setCellState k 5).post Ev.SST_BYP_FAIL k).showCells
  else .next s1

/-! ### Carrier plans (R338, R339, R344, R372, R373) -/

/-- PERIOD of the cells' front-end carriers. -/
def State.frontPer (s : State) (c : Nat) : Nat := s.chanPer (64 + 8 * s.cellEp c)

/-- PERIOD of the DAB legs. -/
def State.dabPer (s : State) (c : Nat) : Nat := s.chanPer (64 + 8 * s.cellEp c + 2)

/-- PHASE of a ring leg's channel set. -/
def State.setLegPhase (s : State) (ch ph : Nat) : State :=
  { s with edge := { s.edge with legPhase := SMap.insert s.edge.legPhase ch ph } }

/-- The front-end slots of a phase (R338), and the epoch of every cell whose assignment changes (R339). -/
def State.planPhase (s : State) (p : Nat) : State :=
  let act := s.cellsIn p [2]
  let n := max act.length 1
  let s1 := s.setF (Reg.SST_PHASE p) Fld.SST_PHASE_N_ACTIVE act.length
  let slots := (List.range act.length).zip act
  let s2 := slots.foldl (fun st (i, c) =>
    let per := st.frontPer c
    let base := if st.fld Reg.SST_CFG Fld.SST_CFG_INTERLEAVE_3 = 1 then p * (per / (6 * n)) else 0
    let ch := 64 + 8 * st.cellEp c
    let ofs := base + i * (per / (2 * n))
    let st1 := (st.setLegPhase ch ofs).setLegPhase (ch + 1) ofs
    st1.wr (Reg.SST_CELL_CAR c) (BitVec.ofNat 32 (0x8000 + p * 0x2000 + i))) s1
  (s2.cellsOf p).foldl (fun st c =>
    let st1 := st.bumpEpoch (plCell c)
    let st2 := if act.contains c then st1
      else (st1.setF (Reg.SST_CELL_CAR c) Fld.SST_CELL_CAR_ACTIVE 0).setF (Reg.SST_CELL_CAR c) Fld.SST_CELL_CAR_PHASE p
    let until' := (st2.pair st2.serving (64 + 8 * st2.cellEp c)).next * 5 / 64
    let st3 := if st2.cellState c = 3 ∧ (st2.cell c).zeroAt = none then
      st2.setCell c { st2.cell c with zeroAt := some (if st2.tm.mono.toNat < until' then BitVec.ofNat 64 until' else st2.tm.mono) } else st2
    st3.setF (Reg.SST_CELL_CAR c) Fld.SST_CELL_CAR_EPOCH (st3.epoch (plCell c))) s2

/-- The DAB offsets of every active cell by its rank, a changed one under a new epoch (R344, R372). -/
def State.planDab (s : State) : State :=
  let act := s.activeCells
  let n := max act.length 1
  ((List.range act.length).zip act).foldl (fun st (k, c) =>
    let o := if st.fld Reg.SST_DAB_CFG Fld.SST_DAB_CFG_ILV = 1 then k * (st.dabPer c / (2 * n)) else 0
    if (st.cell c).offset = o then st
    else
      let st1 := (st.setCell c { st.cell c with offset := o }).bumpEpoch (plCell c)
      st1.setF (Reg.SST_CELL_CAR c) Fld.SST_CELL_CAR_EPOCH (st1.epoch (plCell c))) s

/-- CARRIER_REPLAN (R372, R373): at a boundary the phases with a cause of an earlier cycle take their new plan under one
epoch; the first boundary after a fail-over leaves it to the next. -/
def execCarrierReplan (dt : Nat) (s : State) : Out :=
  let s1 := s.tick dt
  let due := (s1.sst.replan.filter fun r => decide (r.2 < s1.tm.cycleN)).map (·.1)
  let first := s1.sst.foCycle == some (s1.tm.cycleN - 1) && decide (1 ≤ s1.tm.cycleN)
  if s1.atCycleStart ∧ !due.isEmpty ∧ !first then
    let ps := [0, 1, 2].filter fun p => due.contains p
    let s2 := (ps.foldl State.planPhase s1).planDab
    .next { s2 with sst := { s2.sst with replan := s2.sst.replan.filter fun r => decide (s1.tm.cycleN ≤ r.2) } }.showCells
  else .next s1

/-! ### Lock and ride-through (R333 to R335, R350 to R358) -/

/-- The registers of the ride-through profile. -/
def rtRegs : List Nat :=
  [Reg.SST_RT_CFG, Reg.SST_RT_CFG2] ++ (List.range 8).map Reg.SST_RT_LV ++ (List.range 4).map Reg.SST_RT_HV

/-- The tracked frequency band (R325), in 0.01 Hz. -/
def State.inBand (s : State) (f : Nat) : Bool :=
  if s.fld Reg.SST_CFG Fld.SST_CFG_F_NOM = 0 then decide (4250 ≤ f) && decide (f ≤ 5750)
  else decide (5100 ≤ f) && decide (f ≤ 6900)

/-- The signed difference of two angle words. -/
def angleDiff (a b : Nat) : Int := (BitVec.ofNat 32 (a + 2 ^ 32 - b % 2 ^ 32)).toInt

/-- PLL_LOCK, the angle and the phase-jump event at a boundary (R333 to R335): the PLL follows the grid angle at its gain; θ is its angle, but
while PLL_LOCK is 0 and the transformer runs it advances at the last locked frequency. The sequence split and the frequency-locked loop
give U+, U−, the frequency and the grid angle as operands (log entry 13). -/
def State.sstLock (s : State) (g : SstIn) : State :=
  let err := angleDiff g.angle s.sst.pll
  let wide := decide (2 ^ 32 < 36 * err.natAbs)
  let ub := 10 * fget Fld.SST_RT_CFG_U_BLOCK (s.rtReg Reg.SST_RT_CFG)
  let good := decide (800 ≤ g.uPos) && decide (360 * err.natAbs ≤ 2 ^ 32) && s.inBand g.freq
  let m := s.trackIn (s.trackIn (s.trackIn s.sst.badAt 0 wide) 1 (decide (g.uPos < ub))) 2
    (!s.inBand g.freq)
  let ga := s.track s.sst.goodAt good
  let bad := s.lastedIn m 0 (Config.msec 20) || s.lastedIn m 1 (Config.msec 20) || s.lastedIn m 2 (Config.msec 20)
  let was := s.fld Reg.SST_STAT Fld.SST_STAT_PLL_LOCK == 1
  let lock := if bad then false else if s.lasted ga (Config.msec 100) then true else was
  let f := if lock then g.freq else s.sst.lockFreq
  let turn := fun f : Nat => 2 ^ 32 * f * tcNs (s.fld Reg.TIME_CYCLE Fld.TIME_CYCLE_TC_CODE) / 100000000000
  let pll := (((s.sst.pll + turn g.freq : Nat) : Int) + g.kPll * err / 65536) % 2 ^ 32
  let runs := decide (4 ≤ s.ladder) && decide (s.ladder ≤ 8)
  let s1 := s.setF Reg.SST_STAT Fld.SST_STAT_PLL_LOCK (flag lock)
  let s2 := { s1 with sst := { s1.sst with
    goodAt := ga, badAt := m, lockFreq := f, jumped := decide (100 < g.jump),
    unlockAt := s1.track s1.sst.unlockAt (!lock),
    pll := pll.toNat, theta := if lock || !runs then pll.toNat else (s1.sst.theta + turn f) % 2 ^ 32 } }
  if 100 < g.jump ∧ !s.sst.jumped then s2.post Ev.SST_PHASE_JUMP else s2

/-- RT_LOG written with a kind, an outcome, the extreme and the duration from onset (R353). -/
def State.rtLog (s : State) (kind outcome : Nat) (since : Count) (u : Nat) : State :=
  s.wr Reg.SST_RT_LOG (BitVec.ofNat 32 (kind * 0x10000000 + outcome * 0x1000000 + min (u / 10) 255 * 0x10000
    + min (s.since since / Config.msec 1) 0xFFFF))

/-- A ride-through state entered. -/
def State.rtEnter (s : State) (v : Nat) : State := s.setF Reg.SST_STAT Fld.SST_STAT_RT_STATE v

/-- OUT with its event (R353). -/
def State.rtOut (s : State) : State := (s.rtEnter 5).post Ev.RT_OUT

/-- The profile in force is frozen as a ride-through begins (R358). -/
def State.rtFreeze (s : State) : State :=
  if s.fld Reg.SST_STAT Fld.SST_STAT_RT_STATE = 0 then
    { s with sst := { s.sst with profile := rtRegs.foldl (fun m a => SMap.insert m a (s.rd a)) [] } }
  else s

/-- SAG or SWELL entered: timer, event, count (R353). -/
def State.rtBegin (s : State) (v : Nat) (g : SstIn) : State :=
  let s0 := s.rtFreeze
  let s1 := (s0.rtEnter v).bump Reg.SST_CNT Fld.SST_CNT_RT_EVENTS
  let s2 := { s1 with sst := { s1.sst with
    onset := s1.tm.mono, backAt := none, extreme := g.uPos,
    pBefore := if s.fld Reg.SST_STAT Fld.SST_STAT_RT_STATE = 0 then g.pGrid else s1.sst.pBefore } }
  s2.post (if v = 1 then Ev.RT_SAG else Ev.RT_SWELL)

/-- The limit of a curve at t ms after onset: the point with the largest T not later, of those used (R351). -/
def curveAt (pts : List Word) (t : Nat) : Option Nat :=
  let used := pts.filter fun w => fget Fld.SST_RT_LV_U w != 0xFF && decide (fget Fld.SST_RT_LV_T w ≤ t)
  (used.foldl (fun (a : Option Word) w => match a with
    | none => some w
    | some b => if fget Fld.SST_RT_LV_T b ≤ fget Fld.SST_RT_LV_T w then some w else some b) none).map fun w => fget Fld.SST_RT_LV_U w

/-- U+ lies below the LV curve. -/
def State.belowLv (s : State) (g : SstIn) : Bool :=
  match curveAt ((List.range 8).map fun k => s.rtReg (Reg.SST_RT_LV k)) (s.since s.sst.onset / Config.msec 1) with
  | some u => decide (g.uPos < 10 * u)
  | none => false

/-- U+ lies above the HV curve. -/
def State.aboveHv (s : State) (g : SstIn) : Bool :=
  match curveAt ((List.range 4).map fun k => s.rtReg (Reg.SST_RT_HV k)) (s.since s.sst.onset / Config.msec 1) with
  | some u => decide (10 * u < g.uPos)
  | none => false

/-- The active-power limit of RECOVER (R356): from the power at entry at RAMP, to the lower of the power before and
P_LIM.IMPORT. -/
def State.recoverLimit (s : State) : Int × Int :=
  let goal := min s.sst.pBefore (s.fld Reg.SST_P_LIM Fld.SST_P_LIM_IMPORT : Nat)
  let rate := fget Fld.SST_RT_CFG2_RAMP (s.rtReg Reg.SST_RT_CFG2) * s.parN Par.siteKw / 100
  (approach s.sst.pEntry goal rate (s.since s.sst.recAt), goal)

/-- RECOVER entered (R353, R356). -/
def State.rtRecover (s : State) (kind : Nat) (g : SstIn) : State :=
  let s1 := (s.rtLog kind 0 s.sst.onset s.sst.extreme).rtEnter 4
  { s1 with sst := { s1.sst with pEntry := g.pGrid, recAt := s1.tm.mono, backAt := none } }

/-- Since when the frequency lies outside F_BAND of F_NOM (R352). -/
def State.freqTrack (s : State) (g : SstIn) : State :=
  let band := 10 * fget Fld.SST_RT_CFG2_F_BAND (s.rtReg Reg.SST_RT_CFG2)
  let nom := if s.fld Reg.SST_CFG Fld.SST_CFG_F_NOM = 0 then 5000 else 6000
  { s with sst := { s.sst with freqAt := s.track s.sst.freqAt (decide (band < ((g.freq : Int) - nom).natAbs)) } }

/-- The ride-through state follows U+ and its curves in a cycle (R353; RT_STATE_UPDATE). -/
def State.rtUpdate (s : State) (g : SstIn) : State :=
  let cfg := s.rtReg Reg.SST_RT_CFG
  let low := 10 * fget Fld.SST_RT_CFG_U_LOW cfg
  let high := 10 * fget Fld.SST_RT_CFG_U_HIGH cfg
  let block := 10 * fget Fld.SST_RT_CFG_U_BLOCK cfg
  let st := s.fld Reg.SST_STAT Fld.SST_STAT_RT_STATE
  let s1 := { s with sst := { s.sst with
    backAt := s.track s.sst.backAt (if st = 3 then decide (g.uPos + 20 ≤ high) else decide (low + 20 ≤ g.uPos))
    extreme := if st = 3 then max s.sst.extreme g.uPos else min s.sst.extreme g.uPos } }
  match st with
  | 0 => if g.uPos < low then s1.rtBegin 1 g else if high < g.uPos then s1.rtBegin 3 g else s1
  | 1 =>
    if s1.belowLv g then (s1.rtLog 1 1 s1.sst.onset s1.sst.extreme).rtOut
    else if g.uPos < block then s1.rtEnter 2
    else if s1.lasted s1.sst.backAt (Config.msec 20) then s1.rtRecover 1 g
    else s1
  | 2 =>
    if s1.belowLv g then (s1.rtLog 1 1 s1.sst.onset s1.sst.extreme).rtOut
    else if block + 20 ≤ g.uPos then s1.rtEnter 1
    else s1
  | 3 =>
    if s1.aboveHv g then (s1.rtLog 2 1 s1.sst.onset s1.sst.extreme).rtOut
    else if s1.lasted s1.sst.backAt (Config.msec 20) then s1.rtRecover 2 g
    else s1
  | 4 =>
    if g.uPos < low then s1.rtBegin 1 g
    else if high < g.uPos then s1.rtBegin 3 g
    else if s1.recoverLimit.1 = s1.recoverLimit.2 then s1.rtEnter 0
    else s1
  | 5 => if s1.ladder = 0 ∨ s1.ladder = 9 then s1.rtEnter 0 else s1
  | _ => s1

/-- RT_F_TMO_EXPIRY (R352): F_TMO outside F_BAND. -/
def execRtFTmoExpiry (dt : Nat) (s : State) : Out :=
  let s1 := s.tick dt
  let st := s1.fld Reg.SST_STAT Fld.SST_STAT_RT_STATE
  let tmo := Config.msec (100 * fget Fld.SST_RT_CFG2_F_TMO (s1.rtReg Reg.SST_RT_CFG2))
  match s1.sst.freqAt with
  | some t =>
    if s1.sstUsed ∧ st ≠ 5 ∧ tmo ≤ s1.since t then
      .next ((s1.rtFreeze.rtLog 4 1 t s1.sst.last.uPos).rtOut).ladderAdvance
    else .next s1
  | none => .next s1

/-- RT_LOG of a sag or a swell that another rule ends in OUT (DEDUCED, log entry 65): the register shows the outcome of the last event. -/
def State.rtCut (s : State) : State :=
  match s.fld Reg.SST_STAT Fld.SST_STAT_RT_STATE with
  | 1 => s.rtLog 1 1 s.sst.onset s.sst.extreme
  | 2 => s.rtLog 1 1 s.sst.onset s.sst.extreme
  | 3 => s.rtLog 2 1 s.sst.onset s.sst.extreme
  | _ => s

/-- PLL_UNLOCK_OUT (R335): PLL_LOCK at 0 for 500 ms. -/
def execPllUnlockOut (dt : Nat) (s : State) : Out :=
  let s1 := s.tick dt
  if s1.sstUsed ∧ s1.fld Reg.SST_STAT Fld.SST_STAT_RT_STATE ≠ 5 ∧ s1.lasted s1.sst.unlockAt (Config.msec 500) then
    .next s1.rtFreeze.rtCut.rtOut.ladderAdvance
  else .next s1

/-- SST_CLR. -/
def State.sstClrWrite (s : State) (acc : Access) (val : Word) : State :=
  s.command acc Reg.SST_CLR .op fun s1 =>
    if fget Fld.SST_CLR_CLEAR val = 1 then (s1.clearCount Reg.SST_CNT).forget Ev.SST_OVERMOD 0xFFF else s1

/-- SST_CLR (R358). -/
def execSstClr (dt : Nat) (acc : Access) (val : Word) (s : State) : Out := .next ((s.tick dt).sstClrWrite acc val)

/-- A trip group that holds a cell of the transformer is tripped: its loops hold (R359, R361). -/
def State.sstHeld (s : State) : Bool :=
  s.sstTripped || s.cells.any fun c => s.parN (Par.epGroups (s.cellEp c)) &&& s.fld Reg.QSET_STAT Fld.QSET_STAT_GROUPS != 0

/-- The grid current is below 0.05 pu: the balancing loops hold (R341, R342). -/
def balanceHeld (g : SstIn) : Bool := decide (g.iPos < 50)

/-! ### References (R331, R340, R347, R349, R350, R354, R355) -/

/-- A reference under approach: key 0 VC_REF, 1 VBUS_REF, 2 import limit, 3 export limit, 4 Q reference. -/
def State.sstRef (s : State) (k : Nat) (goal : Int) (rate : Nat) : Int :=
  match s.sst.appr.find? fun e => e.1 == k with
  | some (_, v, t) => approach v goal rate (s.since t)
  | none => goal

/-- RAMP in kW per second. -/
def State.sstRamp (s : State) : Nat := fget Fld.SST_RT_CFG2_RAMP (s.rtReg Reg.SST_RT_CFG2) * s.parN Par.siteKw / 100

/-- Q of SST_Q_CTRL for an active power (R349), rounded toward zero (log entry 12). -/
def State.qRef (s : State) (p : Int) (g : SstIn) : Int :=
  let w := s.rd Reg.SST_Q_CTRL
  let q := s.sstRef 4 (fgetS Fld.SST_Q_CTRL_Q_REF w) s.sstRamp
  let pf := fgetS Fld.SST_Q_CTRL_PF w
  match fget Fld.SST_Q_CTRL_MODE w with
  | 0 => q
  | 1 => Int.tdiv (p * isqrt (1000000 - pf.natAbs * pf.natAbs)) (max pf.natAbs 1 : Nat) * (if pf < 0 then -1 else 1)
  | _ => clampInt (-q.natAbs) q.natAbs (Int.tdiv (q * (1000 - g.uPos)) 50)

/-- What is left of I_MAX beside one current. -/
def leftOf (imax : Nat) (i : Int) : Int := (isqrt (imax * imax - min (imax * imax) (i.natAbs * i.natAbs)) : Nat)

/-- Σ V² of some cells, in 10^-4 V². -/
def State.squares (s : State) (cs : List Nat) : Int := (cs.map fun c => (s.cell c).volt * (s.cell c).volt).foldl (· + ·) 0

/-- W* − W (R340): C_cell × (N_a × VC² − Σ V²) over the active cells, in 5 × 10^-11 J. -/
def State.energyErr (s : State) : Int :=
  s.parN Par.cellCap * (s.activeCells.length * (s.sst.vcNow * s.sst.vcNow) - s.squares s.activeCells)

/-- The output of the total energy loop in kW (R340): its gains are the loop's (log entry 13). -/
def State.energyOut (s : State) (g : SstIn) : Int := (g.kEn * s.energyErr + s.sst.intW) / 2 ^ 40

/-- The output of the LV bus loop in kW, PI(VBUS − V_bus) (R347). -/
def State.busOut (s : State) (g : SstIn) : Int := (g.kBus * (s.sst.vbusNow - g.vBus) + s.sst.intBus) / 2 ^ 16

/-- What each phase's energy lies below the mean of the three (R341), in 5 × 10^-11 J. -/
def State.phaseLack (s : State) : List Int :=
  let ws := [0, 1, 2].map fun p => (s.parN Par.cellCap : Int) * s.squares (s.cellsIn p [2])
  ws.map fun w => meanInt ws - w

/-- The integrators of the loops in a cycle (R340, R341, R343, R347, R359): none moves while a group of the cells is tripped or the cells are
not modulated (DEDUCED, log entry 94); the inter-phase loop's hold below 0.05 pu too, the current loops' after a cycle under step 3 of
R343. -/
def State.integrate (s : State) (g : SstIn) : State :=
  if s.sstHeld || !s.modOn then s
  else
    let add := fun (is ds : List Int) => (List.range is.length).map fun k => is.getD k 0 + ds.getD k 0
    { s with sst := { s.sst with
      intW := s.sst.intW + g.iEn * s.energyErr, intBus := s.sst.intBus + g.iBus * (s.sst.vbusNow - g.vBus),
      intShift := if balanceHeld g then s.sst.intShift else add s.sst.intShift (s.phaseLack.map (g.iShift * ·)),
      intCur := if s.fld Reg.SST_STAT Fld.SST_STAT_OVERMOD = 1 then s.sst.intCur else add s.sst.intCur g.curInc } }

/-- The current references of a cycle in 0.001 pu while the cells modulate: active, reactive, negative sequence. -/
def State.modCurrents (s : State) (g : SstIn) : Int × Int × Int :=
  let cfg := s.rtReg Reg.SST_RT_CFG
  let imax := s.fld Reg.SST_I_LIM Fld.SST_I_LIM_I_MAX
  let site : Int := max (s.parN Par.siteKw) 1
  let u : Int := max g.uPos 1
  let imp := s.sstRef 2 (s.fld Reg.SST_P_LIM Fld.SST_P_LIM_IMPORT : Nat) s.sstRamp
  let exp := s.sstRef 3 (s.fld Reg.SST_P_LIM Fld.SST_P_LIM_EXPORT : Nat) s.sstRamp
  let st := s.fld Reg.SST_STAT Fld.SST_STAT_RT_STATE
  let imp1 := if st = 4 then min imp s.recoverLimit.1 else imp
  let imp' := match s.sst.rampAt with
    | some t => min imp1 (approach 0 imp s.sstRamp (s.since t))
    | none => imp1
  let p := clampInt (-exp) imp' (s.energyOut g + s.sst.pDab)
  let d := Int.tdiv (Int.tdiv (p * 1000) site * 1000) u
  let cap := fun (m i : Int) => clampInt (-m) m i
  if st = 2 then (0, 0, 0)
  else if st = 1 ∨ st = 3 then
    let k : Int := fget Fld.SST_RT_CFG_K cfg
    let e : Int := if st = 1 then 10 * (fget Fld.SST_RT_CFG_U_LOW cfg : Int) - g.uPos
      else -((g.uPos : Int) - 10 * (fget Fld.SST_RT_CFG_U_HIGH cfg : Int))
    let q := cap imax (Int.tdiv (k * e) 10)
    let n := -Int.tdiv ((fget Fld.SST_RT_CFG2_K2 (s.rtReg Reg.SST_RT_CFG2) : Int) * g.uNeg) 10
    (cap (leftOf imax q) d, q, n)
  else
    let q := Int.tdiv (Int.tdiv (s.qRef p g * 1000) site * 1000) u
    if s.fld Reg.SST_I_LIM Fld.SST_I_LIM_PRIO = 0 then
      let d1 := cap imax d
      (d1, cap (leftOf imax d1) q, 0)
    else
      let q1 := cap imax q
      (cap (leftOf imax q1) d, q1, 0)

/-- The current references of a cycle: step 3 of R379 takes them to 0 within 20 ms, and a blocked transformer has none. -/
def State.currents (s : State) (g : SstIn) : Int × Int × Int :=
  if (4 ≤ s.ladder ∧ s.ladder ≤ 6) ∨ (s.ladder = 8 ∧ s.sst.step ≤ 2) then s.modCurrents g
  else if s.ladder = 8 ∧ s.sst.step = 3 then
    let left : Int := (Config.msec 20 - min (Config.msec 20) (s.since s.sst.stepAt) : Nat)
    let f := fun (i : Int) => Int.tdiv (i * left) (Config.msec 20 : Nat)
    let (d, q, n) := s.modCurrents g
    (f d, f q, f n)
  else (0, 0, 0)

/-- P_ff in kW: the sum of the output stages' power references (R347). -/
def State.pFf (s : State) : Int := (s.outs.stages.map fun t => t.2.pRef).foldl (· + ·) 0 / 1000

/-- The total DAB power that the bus loop sets, P_ff and its own output: in SAG and BLOCK no more than the grid gives with the energy loop
(R347). -/
def State.dabPower (s : State) (g : SstIn) : Int :=
  let st := s.fld Reg.SST_STAT Fld.SST_STAT_RT_STATE
  let p := s.pFf + s.busOut g
  if st = 1 ∨ st = 2 then min p (g.pGrid + s.energyOut g) else p

/-- P_base of a cell in W (R345). -/
def State.pBase (s : State) (c : Nat) (g : SstIn) : Nat :=
  (s.cell c).volt.toNat * s.parN (Par.cellTurns c) * g.vBus * s.dabPer c / (max (s.parN (Par.cellLeak c)) 1 * 1024000000)

/-- The power that the DAB stages can deliver, in kW (R345, R347, R357): every active cell at D3_MAX, in SAG and BLOCK no more than the grid
gives with the energy loop. -/
def State.dabReach (s : State) (g : SstIn) : Int :=
  let d := s.fld Reg.SST_DAB_CFG Fld.SST_DAB_CFG_D3_MAX
  let most : Int := (s.activeCells.map fun c => s.pBase c g * d * (100 - d) / 10000000).foldl (· + ·) 0
  let st := s.fld Reg.SST_STAT Fld.SST_STAT_RT_STATE
  if st = 1 ∨ st = 2 then min most (g.pGrid + s.energyOut g) else most

/-- BUS_SUPPORT (R357): below SUPPORT % of VBUS_REF the word carries the power the DAB stages can deliver; it clears 10 ms
after V_bus is 1 % above the threshold. -/
def State.busSupport (s : State) (g : SstIn) : State :=
  let r := s.rd Reg.SST_VBUS_REF
  let ref := fget Fld.SST_VBUS_REF_REF r
  let thr := fget Fld.SST_VBUS_REF_SUPPORT r * ref
  let back := decide (thr + ref < 100 * g.vBus)
  let t := s.track s.sst.supportAt back
  let s1 := { s with sst := { s.sst with supportAt := t } }
  if 100 * g.vBus < thr then
    { s1 with sst := { s1.sst with support := s1.dabReach g } }.setF Reg.SST_STAT Fld.SST_STAT_BUS_SUPPORT 1
  else if s1.lasted t (Config.msec 10) then s1.setF Reg.SST_STAT Fld.SST_STAT_BUS_SUPPORT 0
  else s1

/-! ### Modulation (R329, R336, R337, R341 to R346, R348) -/

/-- v in 2^-30 as a part of w. -/
def ratio30 (v w : Int) : Int := if w = 0 then 0 else v * 2 ^ 30 / w

/-- The corrections of a phase (R342): k × (V̄ − V) / V̄ limited to ±INTRA_MAX, times i_p / Î, with their voltage-weighted sum over the
cells that reported removed; in Q0.15. A cell whose MEAS is missing keeps its last one (R329), as every cell does below 0.05 pu of
current. -/
def State.deltas (s : State) (g : SstIn) (p : Nat) : SMap Int × Bool :=
  let act := s.cellsIn p [2]
  let lim : Int := (s.fld Reg.SST_MOD_LIM Fld.SST_MOD_LIM_INTRA_MAX : Nat) * 32768 / 1000
  let ip := g.iPhase.getD p 0
  let live := fun c => (s.cell c).fresh && !balanceHeld g
  let mid := s.meanVolt (act.filter live)
  let raw := (act.filter live).map fun c =>
    let k := if mid = 0 then 0 else g.kIntra * (mid - (s.cell c).volt) / mid
    (c, clampInt (-lim) lim k * ip / 32768, decide (lim ≤ k.natAbs))
  let sv := raw.foldl (fun a e => a + (s.cell e.1).volt) 0
  let sd := raw.foldl (fun a e => a + e.2.1 * (s.cell e.1).volt) 0
  let mean := if sv = 0 then 0 else sd / sv
  (act.map fun c => (c, match raw.find? fun e => e.1 == c with
    | some e => e.2.1 - mean
    | none => s.fldS (Reg.SST_CELL_MOD c) Fld.SST_CELL_MOD_DELTA), raw.any fun e => e.2.2)

/-- The trims of the sharing loop (R348): (Ī − I) / Ī integrated, the mean removed, limited to ±SHARE_MAX; in 2^-31. A cell whose MEAS is
missing takes no part (R329). -/
def State.trims (s : State) (g : SstIn) : SMap Int × Bool :=
  let act := s.activeCells.filter fun c => (s.cell c).fresh
  let lim : Int := (s.fld Reg.SST_MOD_LIM Fld.SST_MOD_LIM_SHARE_MAX : Nat) * 2 ^ 31 / 100
  let mid := meanInt (act.map fun c => ((s.cell c).iDab : Int))
  let moved := act.map fun c => (c, (s.cell c).trim + (if mid = 0 then 0 else g.gShare * (mid - (s.cell c).iDab) / mid))
  let mean := meanInt (moved.map (·.2))
  (moved.map fun (c, t) => (c, clampInt (-lim) lim (t - mean)), moved.any fun (_, t) => decide (lim ≤ (t - mean).natAbs))

/-- The angle that a grid frequency in 0.01 Hz runs through in some counts of 250 ps, as an angle word. -/
def angleOf (f counts : Nat) : Nat := f * 2 ^ 32 * counts / 400000000000

/-- How far the centre of the interval that a word of a phase's front-end legs governs lies after its update point (R248, R300, R332): LEAD, and
half of PERIOD, or a quarter where the word governs half a period. -/
def State.modAhead (s : State) (p : Nat) : Nat :=
  match (s.cellsIn p [2]).head? with
  | none => 0
  | some c =>
    let ch := 64 + 8 * s.cellEp c
    let part := if fget Fld.EDGE_CFG_UPD (s.chanCfg ch) = 2 then 4 else 2
    s.fld (Reg.RING_PORT_LEAD (ringOf (s.cellEp c))) Fld.RING_PORT_LEAD_LEAD * Config.fclk + s.chanPer ch * 5 / (64 * part)

/-- The angle of a phase's references (R332): θ + ω × (s + h), with the stamp that STAMP returns in the modulator's loop. -/
def State.modAngle (s : State) (p : Nat) : Nat :=
  let stamp := (s.tile s.serving (s.parN (Par.modLoop p) - 1)).stampPrev * Config.fclk
  (s.sst.theta + angleOf s.sst.lockFreq (stamp + s.modAhead p)) % 2 ^ 32

/-- A phase's voltage reference v* in 0.1 V (R332, R336): the current loops' outputs, with their integrators, turned to
the phase's angle. -/
def State.vStar (s : State) (g : SstIn) (p : Nat) : Int :=
  let a := sinCos ((s.modAngle p + 2 ^ 32 - p * 2 ^ 32 / 3) % 2 ^ 32)
  let b := sinCos ((s.modAngle p + p * 2 ^ 32 / 3) % 2 ^ 32)
  let i := fun k => s.sst.intCur.getD k 0
  ((g.vD + i 0) * a.2 - (g.vQ + i 1) * a.1 + (g.nD + i 2) * b.2 - (g.nQ + i 3) * b.1) / 2 ^ 60

/-- ZSEQ_MAX of the mean phase sum, in 0.1 V (R341). -/
def State.zeroMax (s : State) : Int :=
  let sum := [0, 1, 2].foldl (fun a p => a + s.fld (Reg.SST_PHASE p) Fld.SST_PHASE_VSUM) 0
  (s.fld Reg.SST_MOD_LIM Fld.SST_MOD_LIM_ZSEQ_MAX * sum / 300 : Nat)

/-- The zero-sequence voltage of the inter-phase loop in 0.1 V (R341): 4 / (3 Î) × Σ ΔP_q × cos(ωt + θ_q), the mean of the shifts removed, Î of
iPos and the site's rated current; scaled so that its peak, 4 / (3 Î) × |Σ ΔP_q × e^(jθ_q)|, keeps within ZSEQ_MAX, and whether that limit
acts. -/
def State.zeroRef (s : State) (g : SstIn) : Int × Bool :=
  let mean := meanInt s.sst.intShift
  let d : Int := 244949 * g.iPos * max (s.parN Par.siteKw) 1
  let volts := fun sum : Int => if d = 0 then 0
    else clampInt (-2 ^ 31) (2 ^ 31 - 1) (sum * (40000000 * s.fld Reg.SST_CFG Fld.SST_CFG_V_LL_NOM : Nat) / (d * 2 ^ 60))
  let sum := fun (at' : Nat → Int) => volts ([0, 1, 2].foldl (fun a q => a + ((s.sst.intShift.getD q 0 - mean) / 2 ^ 40) * at' q) 0)
  let turned := fun (a q : Nat) => sinCos ((a + g.iAngle.getD q 0) % 2 ^ 32)
  let v := sum fun q => (turned (s.modAngle 0) q).2
  let x := sum fun q => (turned 0 q).2
  let y := sum fun q => (turned 0 q).1
  let peak : Int := (isqrt (x * x + y * y).toNat : Nat)
  if s.zeroMax < peak then (clampInt (-s.zeroMax) s.zeroMax (Int.tdiv (v * s.zeroMax) peak), true) else (v, false)

/-- A phase's voltage reference without v0, in 0.1 V (R336). -/
def State.phaseVolt (s : State) (g : SstIn) (p : Nat) : Int :=
  let vs := [0, 1, 2].map (s.vStar g)
  vs.getD p 0 + (if s.fld Reg.SST_CFG Fld.SST_CFG_CM_MODE = 1
    then -(vs.foldl max (vs.headD 0) + vs.foldl min (vs.headD 0)) / 2 else 0)

/-- One phase reference (R336): the three parts in 0.1 V over the sum, in 2^-30. -/
def State.phaseRef (s : State) (g : SstIn) (p : Nat) (v0 : Int) : Int :=
  ratio30 (s.phaseVolt g p + v0) (s.fld (Reg.SST_PHASE p) Fld.SST_PHASE_VSUM : Nat)

/-- Step 2 of R343: v0 scaled toward 0 no further than brings every |m_p| within M_MAX; 0 where no part of it does. -/
def State.zeroRoom (s : State) (g : SstIn) (v0 : Int) : Int :=
  let room := fun p => (s.fld Reg.SST_MOD_LIM Fld.SST_MOD_LIM_M_MAX * s.fld (Reg.SST_PHASE p) Fld.SST_PHASE_VSUM / 100 : Nat)
  let his := [0, 1, 2].map fun p => (room p : Int) - s.phaseVolt g p
  let los := [0, 1, 2].map fun p => -(room p : Int) - s.phaseVolt g p
  let hi := his.foldl min (his.headD 0)
  let lo := los.foldl max (los.headD 0)
  let v := if 0 < v0 then min v0 hi else max v0 lo
  if lo ≤ v ∧ v ≤ hi ∧ 0 ≤ v * v0 then v else 0

/-- v scaled by n / d. -/
def scaled (v n d : Int) : Int := if d = 0 then 0 else Int.tdiv (v * n) d

/-- The largest of a phase's corrections, in 2^-30. -/
def bigDelta (ds : SMap Int) : Int := ds.foldl (fun a e => max a ((e.2 * 32768).natAbs : Int)) 0

/-- Step 1 of R343 for a phase with m_p at hand: the corrections scaled toward 0 until every |m_i| is within M_MAX. -/
def fitDeltas (m mmax : Int) (ds : SMap Int) : SMap Int :=
  let big := bigDelta ds
  let (n, d) : Int × Int := if mmax < m.natAbs then (0, 1) else if mmax - m.natAbs < big then (mmax - m.natAbs, big) else (1, 1)
  ds.map fun (c, v) => (c, scaled v n d)

/-- The modulation of a cycle (R336, R337, R343): duty words of every active cell, δ shown, limits and OVERMOD. -/
def State.modulate (s : State) (g : SstIn) : State :=
  let mmax : Int := (s.fld Reg.SST_MOD_LIM Fld.SST_MOD_LIM_M_MAX : Nat) * 2 ^ 30 / 100
  let v0 := s.sst.vZero
  let above := fun v p => decide (mmax < (s.phaseRef g p v).natAbs)
  let shrink := [0, 1, 2].any (above v0)
  let v1 := if shrink then s.zeroRoom g v0 else v0
  let s1 := s.setF Reg.SST_STAT Fld.SST_STAT_ZSEQ_LIM (flag (s.sst.zLim || decide (v1 ≠ v0)))
  let s2 := [0, 1, 2].foldl (fun st p =>
    let (ds, lim) := st.deltas g p
    let m := st.phaseRef g p v1
    let ds1 := fitDeltas m mmax (fitDeltas (st.phaseRef g p v0) mmax ds)
    let top := mmax - bigDelta ds1
    let m1 := clampInt (-top) top m
    let st1 := if lim || decide (ds1 ≠ ds) then st.setF Reg.SST_STAT Fld.SST_STAT_INTRA_LIM 1 else st
    let st2 := if above v1 p then st1.setF Reg.SST_STAT Fld.SST_STAT_OVERMOD 1 else st1
    ds1.foldl (fun u (c, v) =>
      let mi := m1 + v * 32768
      let u1 := u.setFS (Reg.SST_CELL_MOD c) Fld.SST_CELL_MOD_DELTA v
      u1.setCell c { u1.cell c with words := [toWord (min (2 ^ 30 + mi) (2 ^ 31 - 1)), toWord (min (2 ^ 30 - mi) (2 ^ 31 - 1))] }) st2)
    ((s1.setF Reg.SST_STAT Fld.SST_STAT_OVERMOD 0).setF Reg.SST_STAT Fld.SST_STAT_INTRA_LIM 0)
  if s2.fld Reg.SST_STAT Fld.SST_STAT_OVERMOD = 1 then
    let first := s2.fld Reg.SST_CNT Fld.SST_CNT_OVERMOD == 0
    let s3 := s2.bump Reg.SST_CNT Fld.SST_CNT_OVERMOD
    if first then s3.post Ev.SST_OVERMOD else s3
  else s2

/-- k_v in 0.001 (R345). -/
def State.kV (s : State) (c : Nat) (g : SstIn) : Nat :=
  (s.cell c).volt.toNat * 1000000 / max (s.parN (Par.cellTurns c) * g.vBus) 1

/-- A cell's DAB mode (R346): AUTO chooses with a hysteresis of 5 % of rated power and 0.01. -/
def State.dabMode (s : State) (c : Nat) (p : Int) (g : SstIn) : Nat :=
  let m := s.fld Reg.SST_DAB_CFG Fld.SST_DAB_CFG_MODE
  if m ≠ 4 then m
  else
    let was := (s.cell c).dabMode
    let w := s.parN Par.cellW
    let light := s.fld Reg.SST_DAB_CFG Fld.SST_DAB_CFG_LIGHT
    let k := s.kV c g
    if 100 * p.natAbs < (if was = 3 then light + 5 else light) * w then 3
    else if was = 0 then (if 940 ≤ k ∧ k ≤ 1060 then 0 else 2)
    else if 950 ≤ k ∧ k ≤ 1050 then 0 else 2

/-- D1, D2 and D3 of a cell in 2^-31 (R345: D2 = 0 in EPS, D2 = D1 in DPS), D3 within ±D3_MAX (R347), and whether that limit acts. -/
def State.shifts (s : State) (c mode : Nat) (p : Int) (g : SstIn) : Int × Int × Int × Bool :=
  let pb := max (s.pBase c g) 1
  let (d1, d2, d3) :=
    if mode = 0 then
      let r := 2 ^ 62 - min (2 ^ 62) (2 ^ 64 * p.natAbs / pb)
      (0, 0, (((2 ^ 31 - isqrt r : Nat) / 2 : Nat) : Int) * (if p < 0 then -1 else 1))
    else
      let (d1, d2, d3) := Config.dabTable mode (s.kV c g) (p * 2 ^ 31 / pb)
      (d1, if mode = 1 then 0 else if mode = 2 then d1 else d2, d3)
  let lim : Int := (s.fld Reg.SST_DAB_CFG Fld.SST_DAB_CFG_D3_MAX : Nat) * 2 ^ 31 / 100
  (d1, d2, clampInt (-lim) lim d3, decide (lim < d3.natAbs))

/-- A phase word in fractions of PERIOD, modulo one period (R239, R344). -/
def phaseWord (v : Int) : Word := toWord (v % 2 ^ 31)

/-- The DAB words of a cycle (R344 to R347): every active cell's reference P_dab / N_a × (1 + t), its mode and its shifts. -/
def State.dabWords (s : State) (g : SstIn) : State :=
  let act := s.activeCells
  let n : Int := max act.length 1
  let s1 := act.foldl (fun st c =>
    let p := st.sst.pDab * 1000 * (2 ^ 31 + (st.cell c).trim) / (n * 2 ^ 31)
    let m := st.dabMode c p g
    let (d1, d2, d3, l) := st.shifts c m p g
    let o := (st.cell c).offset * 2 ^ 31 / (max (st.dabPer c) 1 : Int)
    let ws := [phaseWord o, phaseWord (o + (2 ^ 31 - d1) / 2), phaseWord (o + d3 / 2), phaseWord (o + d3 / 2 + (2 ^ 31 - d2) / 2)]
    let st1 := st.setCell c { st.cell c with dabMode := m, words := (st.cell c).words.take 2 ++ ws }
    if l then st1.setF Reg.SST_STAT Fld.SST_STAT_D3_LIM 1 else st1) (s.setF Reg.SST_STAT Fld.SST_STAT_D3_LIM 0)
  let cnt := fun m => (act.filter fun c => (s1.cell c).dabMode == m).length
  let most := [1, 2, 3].foldl (fun a m => if cnt a < cnt m then m else a) 0
  s1.setF Reg.SST_STAT Fld.SST_STAT_DAB_MODE most

/-- The words of a cycle go to the legs of some cells (R336, R344): legs 0 and 1 their front ends, 2 to 5 their DABs. -/
def State.cellPosts (s : State) (cs : List Nat) : State :=
  cs.foldl (fun st c =>
    let ws := (st.cell c).words
    ((List.range ws.length).zip ws).foldl (fun u (l, w) => u.loopPost (u.parN (Par.modLoop (c / 32))) (64 + 8 * u.cellEp c + l) w) st) s

/-- A cell that is not active takes m_i = 0 (R337): half duty on both legs of its front end. -/
def State.idlePosts (s : State) : State :=
  let idle := s.cells.filter fun c => s.cellState c != 2
  (idle.foldl (fun st c => st.setCell c { st.cell c with words := [BitVec.ofNat 32 (2 ^ 30), BitVec.ofNat 32 (2 ^ 30)] }) s).cellPosts idle

/-- No modulation: the limits that act on it act no more (R341 to R343, R347). -/
def State.limitsOff (s : State) : State :=
  [Fld.SST_STAT_ZSEQ_LIM, Fld.SST_STAT_INTRA_LIM, Fld.SST_STAT_OVERMOD, Fld.SST_STAT_D3_LIM].foldl (fun st f => st.setF Reg.SST_STAT f 0) s

/-- The balancing trims of a cycle; held while P_dab is below 0.05 of the site rating or a group of the cells is tripped (R348, R359). -/
def State.shareTrims (s : State) (g : SstIn) : State :=
  if 20 * s.sst.pDab.natAbs < s.parN Par.siteKw ∨ s.sstHeld then s
  else
    let (ts, l) := s.trims g
    (ts.foldl (fun st (c, t) =>
        (st.setCell c { st.cell c with trim := t }).setFS (Reg.SST_CELL_MOD c) Fld.SST_CELL_MOD_TRIM (t / 65536)) s).setF Reg.SST_STAT
      Fld.SST_STAT_SHARE_LIM (flag l)

/-! ### Measurements and protection (R328, R329, R365, R366) -/

/-- A cell's MEAS of the ended cycle taken up, or missed (R328, R329). -/
def State.cellMeas (s : State) (c : Nat) : State :=
  let e := s.cellEp c
  let v := s.cell c
  if s.ring.measNew.contains e && s.oldReport e then
    (s.setCell c { v with fresh := false, missing := v.missing + 1 }).fenceDiscard (3200 + e)
  else if s.ring.measNew.contains e then
    let ws := SMap.get (fun _ => []) s.ring.words e
    let w := fun q => ws.getD (s.parN (Par.cellWord q)) 0
    let st := w 4
    let s1 := s.setCell c { v with
      volt := (w 0).toInt, iDab := (w 1).toNat, tempH := (w 2).toInt, tempD := (w 3).toInt, fresh := true, missing := 0 }
    let s2 := s1.setF (Reg.SST_CELL_STAT c) Fld.SST_CELL_STAT_STATUS (st.toNat % 256)
    let s3 := if st.toNat / 0x1000000 = 0 then s2 else s2.setF (Reg.SST_CELL_STAT c) Fld.SST_CELL_STAT_FAULT (st.toNat / 0x1000000)
    s3.wr (Reg.SST_CELL_V c) (BitVec.ofNat 32 (min ((w 0).toInt.toNat / 10) 0xFFFF * 65536 + min ((w 1).toNat / 100) 0xFFFF))
  else s.setCell c { v with fresh := false, missing := v.missing + 1 }

/-- The phase sums of the active cells (R336, R374): a leaving cell counts until its zero state applies. -/
def State.phaseSums (s : State) : State :=
  [0, 1, 2].foldl (fun st p =>
    let on := fun c => st.cellState c == 2 || (st.cellState c == 3 && (match (st.cell c).zeroAt with
      | some t => decide (0 < (t - st.tm.mono).toInt)
      | none => true))
    let sum := ((st.cellsOf p).filter on).foldl (fun a c => a + (st.cell c).volt) 0
    st.setF (Reg.SST_PHASE p) Fld.SST_PHASE_VSUM (sum.toNat / 10)) s

/-- A soft cause of a cell (R371). -/
def State.softCause (s : State) (c : Nat) : State :=
  if s.cellState c ≠ 2 then s
  else if s.wouldStarve c then
    if s.sst.bypAfter.contains c then s else { s with sst := { s.sst with bypAfter := s.sst.bypAfter ++ [c] } }
  else s.bypassCell c true

/-- The cell voltage reference of the energy loop in 10 mV: in CHARGE the target under way (R378), else VC_REF on its approach (R331). DEDUCED
(log entry 65): UV_BYP is a part of it, since the cells of a charging transformer lie below 70 % of VC_REF for seconds. -/
def State.underRef (s : State) : Int :=
  if s.ladder = 4 then
    approach s.sst.rampFrom s.vcRef (1000 * s.fld Reg.SST_PRE_CFG Fld.SST_PRE_CFG_PRE_RAMP) (s.since s.sst.ladderAt)
  else 10 * s.sstRef 0 (s.fld Reg.SST_VC_REF Fld.SST_VC_REF_REF : Nat) 200

/-- The LV bus reference in 0.1 V: in BUS the target under way (R376), else VBUS_REF on its approach (R331). -/
def State.busTarget (s : State) : Int :=
  let goal : Int := (s.fld Reg.SST_VBUS_REF Fld.SST_VBUS_REF_REF : Nat)
  if s.ladder = 5 then
    approach s.sst.rampFrom goal (100 * s.fld Reg.SST_PRE_CFG Fld.SST_PRE_CFG_BUS_RAMP) (s.since s.sst.ladderAt)
  else s.sstRef 1 goal 1000

/-- The protection sets the force latch of G_T itself (R363, R365, R366): the latch is its own where it was not set before, of class OPEN_NOW
after an earth fault. -/
def State.protTrip (s : State) (earth : Bool) : State :=
  let s1 := s.forceGroup s.gT
  { s1 with sst := { s1.sst with own := s.sst.own || !s.latched (108 + s.gT), earth := s.sst.earth || earth } }

/-- The cell checks of R365, on an ACTIVE cell whose MEAS came. -/
def State.cellChecks (s : State) (c : Nat) : State :=
  let v := s.cell c
  let pc := s.rd Reg.SST_PROT_CELL
  let pt := s.rd Reg.SST_PROT_TEMP
  let ref := s.vcRef
  let hot := max v.tempH v.tempD
  let high := decide (ref * fget Fld.SST_PROT_CELL_OV_TRIP pc < 100 * v.volt)
  let warnV := decide (ref * fget Fld.SST_PROT_CELL_OV_WARN pc < 100 * v.volt)
  let under := s.modOn && decide (100 * v.volt < s.underRef * fget Fld.SST_PROT_CELL_UV_BYP pc)
  let isHot := decide (10 * fgetS Fld.SST_PROT_TEMP_TEMP_BYP pt < hot)
  let warnT := decide (10 * fgetS Fld.SST_PROT_TEMP_TEMP_WARN pt < hot)
  let overI := decide (100 * s.fld Reg.SST_PROT_DAB Fld.SST_PROT_DAB_DAB_OC < v.iDab)
  let v1 := { v with
    overV := if high then v.overV + 1 else 0, overI := if overI then v.overI + 1 else 0,
    underAt := s.track v.underAt under, hotAt := s.track v.hotAt isHot, warnT := warnT, warnV := warnV }
  let s1 := s.setCell c v1
  let s2 := if warnT && !v.warnT then s1.post Ev.SST_TEMP_WARN c else s1
  let s3 := if warnV && !v.warnV then s2.post Ev.SST_OV_WARN c else s2
  let s4 := if 2 ≤ v1.overV then s3.protTrip false else s3
  if s4.lasted v1.underAt (Config.msec 100) || s4.lasted v1.hotAt (Config.sec 1) || decide (2 ≤ v1.overI) || s4.cellBit c 2
  then s4.softCause c else s4

/-- A cell in one cycle: hard faults, missing reports, checks, and the bypass switch's report (R365, R370). -/
def State.cellCycle (s : State) (c : Nat) : State :=
  let e := s.cellEp c
  let hard := s.ring.setFrom.contains e || (s.cellBit c 6 && (s.cell c).fresh)
  let gone := s.modOn && s.cellState c == 2
    && (decide (s.fld Reg.SST_PROT_CELL Fld.SST_PROT_CELL_MISS_TRIP ≤ (s.cell c).missing)
      || s.fld (Reg.RING_EP_STAT e) Fld.RING_EP_STAT_STATE == 6)
  let s1 := if hard && decide (s.cellState c ≤ 3) then s.failCell c else s
  let s2 := if gone then (s1.protTrip false).failCell c else s1
  let s3 := if s2.cellState c = 2 ∧ (s2.cell c).fresh then s2.cellChecks c else s2
  if (s3.cellState c = 3 ∨ s3.cellState c = 5) ∧ s3.cellBit c 1 then (s3.setCellState c 4).post Ev.SST_CELL_BYPASSED c else s3

/-- The phase and bus checks of R365: each condition is tracked, and a condition that has lasted sets the force latch again in
every cycle (R366). A cell whose MEAS is missing is in no mean (R329). -/
def State.phaseChecks (s : State) (g : SstIn) : State :=
  let pp := s.rd Reg.SST_PROT_PHASE
  let spread := fun p =>
    let cs := (s.cellsIn p [2]).filter fun c => (s.cell c).fresh
    let vs := cs.map fun c => (s.cell c).volt
    let mx := vs.foldl max (vs.headD 0)
    let mn := vs.foldl min (vs.headD 0)
    decide (fget Fld.SST_PROT_PHASE_SPREAD pp * s.meanVolt cs < 100 * (mx - mn))
  let earth := fget Fld.SST_PROT_PHASE_I_EARTH pp
  let m0 := s.trackIn s.sst.checkAt 0 (g.iPeak.any fun i => decide (fget Fld.SST_PROT_PHASE_I_OC pp < i))
  let m1 := s.trackIn m0 1 (s.par Par.threeCur == 1 && earth != 0 && decide (earth < g.iSum))
  let m2 := s.trackIn m1 2 (s.modOn && [0, 1, 2].any spread)
  let m3 := s.trackIn m2 3 (decide (s.fld Reg.SST_PROT_DAB Fld.SST_PROT_DAB_VBUS_OV
    * s.fld Reg.SST_VBUS_REF Fld.SST_VBUS_REF_REF < 100 * g.vBus))
  let s1 := { s with sst := { s.sst with checkAt := m3 } }
  let e := s1.lastedIn m3 1 (Config.msec 20)
  if s1.lastedIn m3 0 (Config.msec 1) || e || s1.lastedIn m3 2 (Config.sec 1) || s1.lastedIn m3 3 (Config.msec 1) then
    s1.protTrip e
  else s1

/-- With two current channels the third current is minus the sum of the other two (R330). -/
def State.thirdCurrent (s : State) (g : SstIn) : SstIn :=
  if s.par Par.threeCur = 1 then g
  else { g with iPhase := [g.iPhase.getD 0 0, g.iPhase.getD 1 0, -(g.iPhase.getD 0 0 + g.iPhase.getD 1 0)] }

/-- The transformer's part of a base-cycle boundary: measurements, lock, ride-through, protection, references, modulation and
the ladder; while some side runs its loops (R22, R788). -/
def State.sstBoundary (s : State) (g0 : SstIn) : State :=
  if !s.sstUsed || !(s.runsControl .a || s.runsControl .b) then s
  else
    let g := s.thirdCurrent g0
    let s1 := { s with sst := { s.sst with last := g } }
    let s2 := ((s1.cells.foldl State.cellMeas s1).sstLock g).freqTrack g
    let s3 := if s2.energised || s2.fld Reg.SST_STAT Fld.SST_STAT_RT_STATE != 0 then s2.rtUpdate g else s2
    let s4 := ((s3.cells.foldl State.cellCycle s3).phaseChecks g).phaseSums
    let s4 := { s4 with sst := { s4.sst with vcNow := s4.underRef, vbusNow := s4.busTarget } }
    let s4 := s4.integrate g
    let z := if balanceHeld g || s4.sstHeld then (s4.sst.vZero, s4.sst.zLim) else s4.zeroRef g
    let s4 := { s4 with sst := { s4.sst with pDab := s4.dabPower g, vZero := z.1, zLim := z.2 } }
    let s5 := (s4.busSupport g).shareTrims g
    let s6 := (s5.setF Reg.SST_STAT Fld.SST_STAT_INTER_HOLD (flag (balanceHeld g))).setF Reg.SST_RUN_STAT
      Fld.SST_RUN_STAT_RESTARTS (min s5.lastHour.length 15)
    let s7 := if s6.modOn && !s6.sstHeld then ((s6.modulate g).dabWords g).cellPosts s6.activeCells else if s6.modOn then s6 else s6.limitsOff
    let s7 := s7.idlePosts
    let (d, q, n) := s7.currents g
    let s8 := { s7 with sst := { s7.sst with iD := d, iQ := q, iNeg := n } }
    let s9 := (s8.wr Reg.SST_PLL (BitVec.ofNat 32 (min g.freq 0xFFFF * 65536 + bitsOf 16 g.rocof))).wr Reg.SST_GRID_U
      (BitVec.ofNat 32 (min g.uPos 0xFFFF * 65536 + min g.uNeg 0xFFFF))
    let s10 := (s9.wr Reg.SST_GRID_PQ (BitVec.ofNat 32 (bitsOf 16 g.pGrid * 65536 + bitsOf 16 g.qGrid))).wr Reg.SST_BUS
      (BitVec.ofNat 32 (min g.vBus 0xFFFF * 65536 + bitsOf 16 s9.sst.pDab))
    s10.preSample.ladderAdvance

/-- The MEAS and SET reports of the ended cycle are taken up. -/
def State.reportsTaken (s : State) : State := { s with ring := { s.ring with measNew := [], setFrom := [] } }

/-- References that a flip changed are approached from where they stood (R331); a changed ILV gives every cell its new o_i under a new epoch
(R344, R339). -/
def State.sstFlip (s : State) (before : State) (addrs : List Nat) : State :=
  let go := fun (st : State) (addr k : Nat) (f : Field) (sg : Bool) (rate : Nat) =>
    if addrs.contains addr then
      let old : Int := if sg then fgetS f (before.rd addr) else (fget f (before.rd addr) : Nat)
      { st with sst := { st.sst with appr := SMap.insert st.sst.appr k (before.sstRef k old rate, st.tm.mono) } }
    else st
  let s1 := go s Reg.SST_VC_REF 0 Fld.SST_VC_REF_REF false 200
  let s2 := go s1 Reg.SST_VBUS_REF 1 Fld.SST_VBUS_REF_REF false 1000
  let s3 := go s2 Reg.SST_P_LIM 2 Fld.SST_P_LIM_IMPORT false s.sstRamp
  let s4 := go s3 Reg.SST_P_LIM 3 Fld.SST_P_LIM_EXPORT false s.sstRamp
  let s5 := go s4 Reg.SST_Q_CTRL 4 Fld.SST_Q_CTRL_Q_REF true s.sstRamp
  if s.fld Reg.SST_DAB_CFG Fld.SST_DAB_CFG_ILV ≠ before.fld Reg.SST_DAB_CFG Fld.SST_DAB_CFG_ILV then s5.planDab else s5

end Sys2Proof.Machine
end

