-- ==== Sys2Proof/Machine/Outs.lean ====
section
/-! DEFINITION. The output stages: phase sets, carriers, the control law, shedding, stage states, protection (R383 to R413). -/

namespace Sys2Proof.Machine

open Sys2Proof

/-! ### Outlets and phases -/

/-- An outlet's stage. -/
def State.stg (s : State) (n : Nat) : Stage := SMap.get (fun _ => Stage.reset) s.outs.stages n

/-- The state with a stage set. -/
def State.setStg (s : State) (n : Nat) (v : Stage) : State :=
  { s with outs := { s.outs with stages := SMap.put (fun _ => Stage.reset) s.outs.stages n v } }

/-- A phase. -/
def State.phs (s : State) (m : Nat) : Phase := SMap.get (fun _ => Phase.reset) s.outs.phases m

/-- The state with a phase set. -/
def State.setPhs (s : State) (m : Nat) (v : Phase) : State :=
  { s with outs := { s.outs with phases := SMap.put (fun _ => Phase.reset) s.outs.phases m v } }

/-- The phases that the running image lists. -/
def State.phases (s : State) : List Nat := (List.range 96).filter fun m => s.par (Par.phHome m) != 0

/-- The outlet that HOME selects for a phase (R388). -/
def State.phTarget (s : State) (m : Nat) : Nat :=
  let alt := s.parN (Par.phAlt m)
  if s.fld (Reg.OUTS_PH_MAP m) Fld.OUTS_PH_MAP_HOME = 1 ∧ alt ≠ 0 then alt - 1 else s.parN (Par.phHome m) - 1

/-- OUTS_PH_STAT_m.STATE: 1 IDLE, 2 ON, 3 SHEDDING, 4 LEAVING, 5 FAULTED. -/
def State.phState (s : State) (m : Nat) : Nat := s.fld (Reg.OUTS_PH_STAT m) Fld.OUTS_PH_STAT_STATE

/-- The outlet whose set or common duty a phase stands under. -/
def State.phOutlet (s : State) (m : Nat) : Nat := s.fld (Reg.OUTS_PH_STAT m) Fld.OUTS_PH_STAT_OUTLET

/-- The members of an outlet's phase set (R388): a leaving phase is none of them. -/
def State.members (s : State) (n : Nat) : List Nat := s.phases.filter fun m => s.phOutlet m == n && s.phState m != 4

/-- The members of a set in one of some states. -/
def State.membersIn (s : State) (n : Nat) (sts : List Nat) : List Nat := (s.members n).filter fun m => sts.contains (s.phState m)

/-- The module's outlets. -/
def State.outlets (s : State) : List Nat := List.range (outletsOf s.variant)

/-- OUTS_O_STAT_n.STATE (R407). -/
def State.stgState (s : State) (n : Nat) : Nat := s.fld (Reg.OUTS_O_STAT n) Fld.OUTS_O_STAT_STATE

/-- The outlet's trip group G_O (R387). -/
def State.gO (s : State) (n : Nat) : Nat := s.fld (Reg.OUTS_O_SET n) Fld.OUTS_O_SET_GROUP

/-- The set latches mapped to an outlet's G_O. -/
def State.goLatches (s : State) (n : Nat) : List Nat :=
  (List.range 117).filter fun i => s.latched i && (s.srcGroups i).testBit (s.gO n)

/-- The channel of a phase: leg 0 of its module's endpoint, or its local pair (R384). -/
def State.phChan (s : State) (m : Nat) : Nat :=
  let src := s.fld (Reg.OUTS_PH_MAP m) Fld.OUTS_PH_MAP_SOURCE
  if s.fld (Reg.OUTS_PH_MAP m) Fld.OUTS_PH_MAP_KIND = 0 then 64 + 8 * src else src

/-- Rated phase current of an outlet in mA. -/
def State.phRated (s : State) (n : Nat) : Int := (100 * s.fld (Reg.OUTS_O_CAP n) Fld.OUTS_O_CAP_I_PH_RATED : Nat)

/-- EN of a phase's leg: a module's leg 0 in SCHED, or a local pair's outputs; a module's other legs are never enabled
(R384). -/
def State.phEnable (s : State) (m : Nat) (en : Bool) : State :=
  let ch := s.phChan m
  if 64 ≤ ch then
    { s with ring := { s.ring with legsOff := SMap.insert s.ring.legsOff ((ch - 64) / 8) (if en then 0xFE else 0xFF) } }
  else
    let rest := s.edge.pairOff.filter (· != ch)
    { s with edge := { s.edge with pairOff := if en then rest else ch :: rest } }

/-- A phase's state, its ramp step at 0, its slot gone unless it switches. -/
def State.setPhState (s : State) (m v : Nat) : State :=
  let r := Reg.OUTS_PH_STAT m
  let s1 := (s.setF r Fld.OUTS_PH_STAT_STATE v).setF r Fld.OUTS_PH_STAT_STEP (if v = 3 ∨ v = 4 then 1 else 0)
  let s2 := if v = 2 ∨ v = 3 then s1 else s1.setF r Fld.OUTS_PH_STAT_SLOT 0xFF
  s2.phEnable m (v == 2 || v == 3 || v == 4)

/-- A phase joins an outlet's set and takes that outlet's PERIOD (R389, R390). -/
def State.phJoin (s : State) (m n : Nat) : State :=
  let ch := s.phChan m
  let per := s.parN (Par.outPer n)
  let s1 := s.setF (Reg.OUTS_PH_STAT m) Fld.OUTS_PH_STAT_OUTLET n
  if per = 0 ∨ s1.chanPer ch = per then s1
  else
    let s2 := if 64 ≤ ch then { s1 with edge := { s1.edge with legPeriod := SMap.insert s1.edge.legPeriod ch per } }
      else s1.setF (Reg.EDGE_PERIOD ch) Fld.EDGE_PERIOD_VALUE per
    [Side.a, Side.b].foldl (fun u x => u.setPair x ch ((u.pair x ch).await 0 per (u.chanPh ch))) s2

/-- A phase becomes FAULTED with a cause, a leaving one in its new outlet's set (R389, R410). -/
def State.phFault (s : State) (m cause : Nat) : State :=
  ((s.setPhState m 5).setF (Reg.OUTS_PH_STAT m) Fld.OUTS_PH_STAT_CAUSE cause).phJoin m (s.phTarget m)

/-- The slots and carrier phases of an outlet's switching phases (R391); N_on and the set's size. -/
def State.showSet (s : State) (n : Nat) : State :=
  let on := s.membersIn n [2, 3]
  let k := max on.length 1
  let per := s.parN (Par.outPer n)
  let s1 := ((List.range on.length).zip on).foldl (fun st (i, m) =>
    let ph := n * per / (8 * k) + i * (per / k)
    let ch := st.phChan m
    let st1 := (st.setLegPhase ch ph).setF (Reg.OUTS_PH_STAT m) Fld.OUTS_PH_STAT_SLOT i
    if ch < 64 then
      [Side.a, Side.b].foldl (fun u x =>
        if (u.pair x ch).ph = ph then u else u.setPair x ch ((u.pair x ch).await 0 (u.chanPer ch) ph)) st1
    else st1) s
  let s2 := s1.setF (Reg.OUTS_O_STAT n) Fld.OUTS_O_STAT_PH_ON on.length
  (s2.setF (Reg.OUTS_O_STAT n) Fld.OUTS_O_STAT_PH_SET (s2.members n).length).setF (Reg.OUTS_O_SET n) Fld.OUTS_O_SET_EPOCH
    (s2.epoch (plOutlet n))

/-- OUTS_STAT follows the phases and stages. -/
def State.showOuts (s : State) : State :=
  let s1 := s.setF Reg.OUTS_STAT Fld.OUTS_STAT_PHASES s.phases.length
  let s2 := s1.setF Reg.OUTS_STAT Fld.OUTS_STAT_FAULTED (s.phases.filter fun m => s.phState m == 5).length
  s2.setF Reg.OUTS_STAT Fld.OUTS_STAT_RUN (s.outlets.foldl (fun m n => withBit m n (s.stgState n == 3)) 0)

/-! ### Stage states (R407 to R409) -/

/-- A stage enters a state now; a reason stands in LOCKOUT and in the STOPPING that leads to it. -/
def State.enterStg (s : State) (n v : Nat) (reason : Nat := 0) : State :=
  let s1 := (s.setF (Reg.OUTS_O_STAT n) Fld.OUTS_O_STAT_STATE v).setF (Reg.OUTS_O_STAT n) Fld.OUTS_O_STAT_LOCK_REASON reason
  s1.setStg n { s1.stg n with since := s1.tm.mono, lagAt := none }

/-- Every leg of an outlet takes EN = 0: its switching phases become IDLE, a leaving one in its new outlet's set. -/
def State.legsDown (s : State) (n : Nat) : State :=
  ((s.phases.filter fun m => s.phOutlet m == n && decide (2 ≤ s.phState m) && decide (s.phState m ≤ 4)).foldl (fun st m =>
    (st.setPhState m 1).phJoin m (st.phTarget m)) s).showSet n

/-- The references of a stage at 0. -/
def State.stgZero (s : State) (n : Nat) : State :=
  s.setStg n { s.stg n with vss := 0, iRef := 0, iLim := 0, iCmd := 0, pRef := 0, shedAt := none, fired := false }

/-- SOFT_START: V_ss from the measured V_out (R407, R408). -/
def State.softStart (s : State) (n attempt : Nat) : State :=
  let s1 := (s.enterStg n 1).setF (Reg.OUTS_O_STAT n) Fld.OUTS_O_STAT_ATTEMPT attempt
  s1.setStg n { s1.stg n with vss := s1.fld (Reg.OUTS_O_MEAS n) Fld.OUTS_O_MEAS_V_OUT, iRef := 0 }

/-- START from the session with its direction and targets (R407): a stage outside OFF takes no START. -/
def State.stageStart (s : State) (n : Nat) (exporting : Bool) (vTgt vMin vMax iEv : Nat) : State :=
  let ready := (s.membersIn n [1]).filter fun m => (s.phs m).ready
  if s.stgState n ≠ 0 then s
  else if s.fld (Reg.OUTS_IMB_CFG n) Fld.OUTS_IMB_CFG_N_MIN_PH ≤ ready.length ∧ (s.goLatches n).isEmpty then
    let s1 := s.setStg n { s.stg n with exporting := exporting, vTgt := vTgt, vMin := vMin, vMax := vMax, iEv := iEv,
                                        noPhases := false }
    (s1.setF (Reg.OUTS_O_STAT n) Fld.OUTS_O_STAT_EXPORT (flag exporting)).softStart n 1
  else s.post Ev.OUTS_START_REFUSED n

/-- CHARGE from the session (R407). -/
def State.stageCharge (s : State) (n : Nat) : State :=
  if s.stgState n = 2 then (s.enterStg n 3).setStg n { (s.enterStg n 3).stg n with iRef := 0 } else s

/-- STOP (R407): from the session or OUTS_O_CTRL_n. -/
def State.stageStop (s : State) (n : Nat) : State :=
  let st := s.stgState n
  if st = 1 ∨ st = 2 ∨ st = 3 ∨ st = 5 then (s.enterStg n 4).stgZero n else s

/-- LOCKOUT with a reason (R407); the watch of R151 sees it. -/
def State.stageLock (s : State) (n reason : Nat) : State :=
  (((s.enterStg n 7 reason).legsDown n).stgZero n).bump (Reg.OUTS_O_CNT n) Fld.OUTS_O_CNT_TRIPS |>.watchOutlet n

/-- A stop for want of phases ends in LOCKOUT, any other in OFF (R407). -/
def State.stageStopped (s : State) (n : Nat) : State :=
  let s1 := s.legsDown n
  (if (s1.stg n).noPhases then s1.stageLock n 3 else s1.enterStg n 0).post Ev.OUTS_STOPPED n

/-- The end of STOPPING: the current is below 2 % of rated, or 20 ms have passed (R407). -/
def State.stopDone (s : State) (n : Nat) : Bool :=
  decide ((s.stg n).last.iOut.natAbs < 20 * s.parN (Par.outRated n)) || decide (Config.msec 20 ≤ s.since (s.stg n).since)

/-- The abort of a start (R409). -/
def State.stageAbort (s : State) (n : Nat) : State :=
  let s1 := ((s.legsDown n).stgZero n).bump (Reg.OUTS_O_CNT n) Fld.OUTS_O_CNT_ABORTS
  let s2 := s1.post Ev.OUTS_SS_ABORT n
  if s2.fld (Reg.OUTS_O_STAT n) Fld.OUTS_O_STAT_ATTEMPT < 3 then s2.enterStg n 5
  else (s2.stageLock n 1).post Ev.OUTS_LOCKOUT n 1

/-- A latch of G_O is an over-voltage: the V_out comparator, or the force latch that the loop set for it (R410). -/
def State.goOver (s : State) (n : Nat) : Bool :=
  (s.goLatches n).any fun i => (s.par (Par.outVch n) != 0 && i == 15 + s.parN (Par.outVch n))
    || (i == 108 + s.gO n && (s.stg n).ovLatch)

/-- A trip of G_O moves the stage (R407); with every latch clear TRIPPED ends. -/
def State.stageTrips (s : State) (n : Nat) : State :=
  let st := s.stgState n
  if 1 ≤ st ∧ st ≤ 5 ∧ s.goOver n then (s.stageLock n 2).post Ev.OUTS_LOCKOUT n 2
  else if 1 ≤ st ∧ st ≤ 5 ∧ !(s.goLatches n).isEmpty then
    (((s.enterStg n 6).legsDown n).stgZero n).bump (Reg.OUTS_O_CNT n) Fld.OUTS_O_CNT_TRIPS
  else if st = 6 ∧ (s.goLatches n).isEmpty then (s.enterStg n 0).post Ev.OUTS_TRIP_END n
  else s

/-- A write to OUTS_O_CTRL_n. -/
def State.outsCtrlWrite (s : State) (acc : Access) (n : Nat) (val : Word) : State :=
  s.command acc (Reg.OUTS_O_CTRL n) .op fun s0 =>
    let s1 := if fget Fld.OUTS_O_CTRL_STOP val = 1 then s0.stageStop n else s0
    if fget Fld.OUTS_O_CTRL_ACK_LOCKOUT val = 1 ∧ s1.stgState n = 7 ∧ (s1.goLatches n).isEmpty then
      (s1.enterStg n 0).setF (Reg.OUTS_O_STAT n) Fld.OUTS_O_STAT_ATTEMPT 0
    else s1

/-- OUTS_STOP (R407). -/
def execOutsStop (dt : Nat) (acc : Access) (n : Nat) (val : Word) (s : State) : Out :=
  .next ((s.tick dt).outsCtrlWrite acc (n % 8) val)

/-- OUTS_ACK_LOCKOUT (R407). -/
def execOutsAckLockout (dt : Nat) (acc : Access) (n : Nat) (val : Word) (s : State) : Out :=
  .next ((s.tick dt).outsCtrlWrite acc (n % 8) val)

/-- A write to OUTS_PH_CMD_m (R411). -/
def State.phCmdWrite (s : State) (acc : Access) (m : Nat) (val : Word) : State :=
  s.command acc (Reg.OUTS_PH_CMD m) .svc fun s0 =>
    if fget Fld.OUTS_PH_CMD_RESTORE val = 0 then s0
    else if s0.phases.contains m ∧ s0.phState m = 5 ∧ (s0.phs m).ready ∧ !(s0.phs m).faulty then
      (((s0.setPhs m { s0.phs m with toFault := 0, missing := 0 }).setPhState m 1).setF (Reg.OUTS_PH_STAT m) Fld.OUTS_PH_STAT_CAUSE 0).showOuts
    else s0.post Ev.OUTS_CMD_REFUSED m

/-- PHASE_RESTORE (R411). -/
def execPhaseRestore (dt : Nat) (acc : Access) (m : Nat) (val : Word) (s : State) : Out :=
  .next ((s.tick dt).phCmdWrite acc (m % 96) val)

/-- TRACKING_FAULT (R409): V_ss has led V_out by more than TRACK_WIN for 2 ms. -/
def execTrackingFault (dt : Nat) (n : Nat) (s : State) : Out :=
  let s1 := s.tick dt
  if s1.stgState (n % 8) = 1 ∧ s1.lasted (s1.stg (n % 8)).lagAt (Config.msec 2) then .next (s1.stageAbort (n % 8)) else .next s1

/-- RETRY_WAIT_EXPIRY (R407): 500 ms after the abort the next attempt starts. -/
def execRetryWaitExpiry (dt : Nat) (n : Nat) (s : State) : Out :=
  let s1 := s.tick dt
  let k := n % 8
  if s1.stgState k = 5 ∧ Config.msec 500 ≤ s1.since (s1.stg k).since then
    .next (s1.softStart k (s1.fld (Reg.OUTS_O_STAT k) Fld.OUTS_O_STAT_ATTEMPT + 1))
  else .next s1

/-- The duty of a phase in the cycle (R396, R404): the common duty, its ramp toward V_out / V_bus, and the limiter. -/
def State.phDuty (s : State) (m : Nat) : Word :=
  let n := s.phOutlet m
  let v := s.stg n
  let k : Int := s.fld (Reg.OUTS_PH_STAT m) Fld.OUTS_PH_STAT_STEP
  let d0 : Int := (2 ^ 31 * v.last.vOut / max v.last.vBus 1 : Nat)
  let d := if s.phState m = 2 then v.duty else v.duty + (d0 - v.duty) * k / 8
  let lim : Int := (100 * s.fld (Reg.OUTS_O_LIM n) Fld.OUTS_O_LIM_I_PH_LIM : Nat)
  let i := (s.phs m).cur
  let ex := (i.natAbs : Int) - lim
  toWord (clampInt 0 (2 ^ 31 - 1) (if 0 < ex then d - s.par Par.limGain * ex * (if i < 0 then -1 else 1) else d))

/-- The stage posts its duty to a phase that switches (R391, R404). -/
def State.phPost (s : State) (m : Nat) : State :=
  let w := s.phDuty m
  (s.setPhs m { s.phs m with word := w }).loopPost (s.parN (Par.outLoop (s.phOutlet m))) (s.phChan m) w

/-- SHED_DLY_EXPIRY (R403): the ON phase with the highest number becomes SHEDDING with the first step of its ramp, and the timer
restarts. -/
def execShedDlyExpiry (dt : Nat) (n : Nat) (s : State) : Out :=
  let s1 := s.tick dt
  let k := n % 8
  if s1.lasted (s1.stg k).shedAt (Config.msec (10 * s1.fld (Reg.OUTS_SHED_CFG k) Fld.OUTS_SHED_CFG_SHED_DLY)) then
    match (s1.membersIn k [2]).getLast? with
    | none => .next s1
    | some m => .next (((s1.setPhState m 3).phPost m).setStg k { s1.stg k with shedAt := some s1.tm.mono })
  else .next s1

/-- A phase leaves through the shed ramp with a cause to come (R401, R402). -/
def State.rampOut (s : State) (m cause : Nat) : State :=
  let s1 := s.setPhs m { s.phs m with toFault := cause }
  if s1.phState m = 2 then s1.setPhState m 3
  else if s1.phState m = 1 then (s1.phFault m cause).setPhs m { s1.phs m with toFault := 0 }
  else s1

/-- IMBALANCE_TRIP (R401): |r| above IMB_TRIP for 1 s. -/
def execImbalanceTrip (dt : Nat) (m : Nat) (s : State) : Out :=
  let s1 := s.tick dt
  if s1.phState (m % 96) = 2 ∧ s1.lasted (s1.phs (m % 96)).tripAt (Config.sec 1) then .next (s1.rampOut (m % 96) 3) else .next s1

/-- STAGE_STOP_TIMEOUT (R407). -/
def execStageStopTimeout (dt : Nat) (n : Nat) (s : State) : Out :=
  let s1 := s.tick dt
  if s1.stgState (n % 8) = 4 ∧ s1.stopDone (n % 8) then .next (s1.stageStopped (n % 8)) else .next s1

/-- A write to OUTS_CLR. -/
def State.outsClrWrite (s : State) (acc : Access) (val : Word) : State :=
  s.command acc Reg.OUTS_CLR .op fun s1 =>
    if fget Fld.OUTS_CLR_CLEAR val = 1 then
      let s2 := (List.range 8).foldl (fun st n => st.clearCount (Reg.OUTS_O_CNT n)) s1
      (List.range 96).foldl (fun st m => st.clearField (Reg.OUTS_PH_IMB m) Fld.OUTS_PH_IMB_WARNS) s2
    else s1

/-- OUTS_CLR (R407). -/
def execOutsClr (dt : Nat) (acc : Access) (val : Word) (s : State) : Out := .next ((s.tick dt).outsClrWrite acc val)

/-! ### Measurements (R385, R386, R401, R402) -/

/-- A phase's measurements of the cycle. -/
def State.phMeas (s : State) (pairs : SMap (Int × Int)) (m : Nat) : State :=
  let v := s.phs m
  let ch := s.phChan m
  let gone := s.setPhs m { v with fresh := false, missing := if s.phState m = 2 ∨ s.phState m = 3 then v.missing + 1 else 0 }
  let show' := fun (st : State) (c t : Int) =>
    st.wr (Reg.OUTS_PH_MEAS m) (BitVec.ofNat 32 (bitsOf 16 (c / 100) * 65536 + bitsOf 16 (t / 10)))
  if 64 ≤ ch then
    let e := (ch - 64) / 8
    if s.ring.measNew.contains e && s.oldReport e then gone.fenceDiscard (3200 + e)
    else if s.ring.measNew.contains e then
      let ws := SMap.get (fun _ => []) s.ring.words e
      let w := fun q => ws.getD (s.parN (Par.phWord q)) 0
      let s1 := s.setPhs m { v with
        cur := (w 0).toInt, temp := (w 1).toInt, fresh := true, missing := 0, ready := (w 2).getLsbD 0, faulty := (w 2).getLsbD 6 }
      show' s1 (w 0).toInt (w 1).toInt
    else gone
  else
    match pairs.find? fun e => e.1 == ch with
    | some (_, c, t0) =>
      let th := s.parN (Par.phTh m)
      let t := if th = 0 then t0 else s.fldS (Reg.THERM_VAL (th - 1)) Fld.THERM_VAL_TEMP
      show' (s.setPhs m { v with cur := c, temp := t, fresh := true, missing := 0, ready := true,
                                 faulty := s.bit (Reg.QSET_ACTIVE ((48 + ch) / 32)) ((48 + ch) % 32) }) c t
    | none => gone

/-- The deviation of a phase from the mean of the ON phases, filtered over 100 ms (R401), and its crossings; a phase that is not
ON stays above no level. -/
def State.imbalance (s0 : State) (n : Nat) : State :=
  let s := ((s0.members n).filter fun m => s0.phState m != 2 && (s0.phs m).tripAt.isSome).foldl
    (fun st m => st.setPhs m { st.phs m with tripAt := none }) s0
  let on := s.membersIn n [2]
  let mean := meanInt (on.map fun m => (s.phs m).cur)
  let cfg := s.rd (Reg.OUTS_IMB_CFG n)
  on.foldl (fun st m =>
    let v := st.phs m
    let live := decide (st.phRated n ≤ 10 * mean.natAbs)
    let x := if mean = 0 then 0 else (v.cur - mean) * 65536 / mean
    let dev := if live then Config.lowPass 100000000 (tcNs (st.fld Reg.TIME_CYCLE Fld.TIME_CYCLE_TC_CODE)) v.dev x else v.dev
    let above := fun p : Nat => decide (p * 65536 < 100 * dev.natAbs)
    let warn := above (fget Fld.OUTS_IMB_CFG_IMB_WARN cfg)
    let st1 := st.setPhs m { v with dev := dev, warn := warn, tripAt := st.track v.tripAt (above (fget Fld.OUTS_IMB_CFG_IMB_TRIP cfg)) }
    let st2 := st1.setFS (Reg.OUTS_PH_IMB m) Fld.OUTS_PH_IMB_DEV (clampInt (-32768) 32767 (dev * 1000 / 65536))
    if warn && !v.warn then
      (st2.bump (Reg.OUTS_PH_IMB m) Fld.OUTS_PH_IMB_WARNS).post Ev.OUTS_PH_IMBALANCE m
    else st2) s

/-- The faults of a phase in the cycle (R402, R410). -/
def State.phChecks (s : State) (m : Nat) : State :=
  let v := s.phs m
  let ch := s.phChan m
  let st := s.phState m
  let hard := if 64 ≤ ch then s.ring.setFrom.contains ((ch - 64) / 8) || (v.fresh && v.faulty)
    else s.latched (48 + ch) || (s.pad (2 * ch)).shorted || (s.pad (2 * ch + 1)).shorted
  if hard && st != 5 then s.phFault m 1
  else if (st = 2 ∨ st = 3) ∧ 3 ≤ v.missing then s.phFault m 2
  else if st ≠ 5 ∧ v.fresh ∧ 10 * s.par Par.tempOff ≤ v.temp ∧ v.toFault = 0 then s.rampOut m 4
  else s

/-! ### The control law (R392 to R399) -/

/-- The derated rated current of a phase in mA (R399). -/
def State.derated (s : State) (n m : Nat) : Int :=
  let t := (s.phs m).temp
  let lo := 10 * s.par Par.tempDerate
  let hi := 10 * s.par Par.tempOff
  if t < lo then s.phRated n
  else if hi ≤ t then 0
  else s.phRated n * (hi - t) / max (hi - lo) 1

/-- I_CAP in mA (R399). -/
def State.iCap (s : State) (n : Nat) : Int :=
  ((s.membersIn n [1, 2, 3]).map (s.derated n)).foldl (· + ·) 0

/-- I_lim and the bound that sets it (R392, R393): 1 GRANT, 2 EV, 3 CAP, 4 RATED, in that order where bounds are equal; in
SOFT_START and HOLD_V I_SS limits instead (R408). -/
def State.limitOf (s : State) (n : Nat) (g : OutIn) : Int × Nat :=
  let v := s.stg n
  let gr := s.fldS (Reg.ALOC_O_GRANT n) Fld.ALOC_O_GRANT_GRANT
  let kw := gr * s.fld Reg.ALOC_CFG Fld.ALOC_CFG_QUANTUM
  let grant : Int := if (kw < 0) == v.exporting && kw != 0 then ((kw.natAbs * 10000000 / max g.vOut 1500 : Nat) : Int) else 0
  let pick := fun (a : Int × Nat) (b : Int × Nat) => if b.1 < a.1 then b else a
  if s.stgState n = 3 then
    [((v.iEv : Int), 2), (s.iCap n, 3), (((1000 * s.parN (Par.outRated n) : Nat) : Int), 4)].foldl pick (grant, 1)
  else (((100 * s.fld (Reg.OUTS_SS_CFG n) Fld.OUTS_SS_CFG_I_SS : Nat) : Int), 0)

/-- f_bus applied (R398), to a charging outlet: the support word is the one that the bus loop wrote in the last cycle. -/
def State.busScaled (s : State) (n : Nat) (i : Int) : Int × Bool :=
  let room := 1000 * s.sst.support + s.outs.pExp
  if s.fld Reg.SST_STAT Fld.SST_STAT_BUS_SUPPORT = 0 ∨ (s.stg n).exporting ∨ s.outs.pChg ≤ room ∨ s.outs.pChg = 0 then (i, false)
  else (i * max 0 room / s.outs.pChg, true)

/-- V_TGT within D_MAX × V_bus (R395). -/
def State.vTarget (s : State) (n : Nat) (g : OutIn) : Nat × Bool :=
  let top := g.vBus * s.parN (Par.outDmax n) / 100
  if top < (s.stg n).vTgt then (top, true) else ((s.stg n).vTgt, false)

/-- V_ss at this instant (R408). -/
def State.vSs (s : State) (n : Nat) (g : OutIn) : Nat :=
  let v := s.stg n
  (approach v.vss (s.vTarget n g).1 (10000 * s.fld (Reg.OUTS_SS_CFG n) Fld.OUTS_SS_CFG_SS_RAMP) (s.since v.since)).toNat

/-- The stage's states that switch. -/
def switching (st : Nat) : Bool := st == 1 || st == 2 || st == 3

/-- The loop of one outlet in a cycle (R392 to R398): I_lim, I_ref, I_cmd, the common duty, P_ref and the status. -/
def State.controlLaw (s : State) (n : Nat) (g : OutIn) : State :=
  let v := s.stg n
  let (l0, why) := s.limitOf n g
  let (lim, bus) := if s.stgState n = 3 then s.busScaled n l0 else (l0, false)
  let step : Int := (s.fld (Reg.OUTS_O_LIM n) Fld.OUTS_O_LIM_I_RAMP * tcNs (s.fld Reg.TIME_CYCLE Fld.TIME_CYCLE_TC_CODE) / 1000 : Nat)
  let ref := if switching (s.stgState n) then (if lim < v.iRef then lim else min lim (v.iRef + step)) else 0
  let cmd := min ref (clampInt 0 ref g.vLoop)
  let (tgt, vmax) := s.vTarget n g
  let dmax : Int := (2 ^ 31 * s.parN (Par.outDmax n) / 100 : Nat)
  let d := clampInt 0 dmax ((2 ^ 31 * g.vOut / max g.vBus 1 : Nat) + g.iLoop)
  let p := cmd * g.vOut / 10000 * (if v.exporting then -1 else 1)
  let limiter := if !switching (s.stgState n) then 0 else if vmax then 6 else if bus then 5 else why
  let mode := if switching (s.stgState n) then (if 100 * cmd < 99 * ref then 2 else 1) else 0
  let s1 := s.setStg n { v with iLim := lim, iRef := ref, iCmd := cmd, duty := d, pRef := p }
  let o := Reg.OUTS_O_STAT n
  let s2 := ((s1.setF o Fld.OUTS_O_STAT_LIMITER limiter).setF o Fld.OUTS_O_STAT_MODE mode)
  let s3 := s2.wr (Reg.OUTS_O_REF n) (BitVec.ofNat 32 (min tgt 0xFFFF * 65536
    + bitsOf 16 (ref / 1000 * (if v.exporting then -1 else 1))))
  s3.setF (Reg.OUTS_O_CAP n) Fld.OUTS_O_CAP_I_CAP (min (s3.iCap n / 1000).toNat 0xFFFF)

/-! ### Shedding (R403 to R406) -/

/-- ceil(|i| / (level % × I_PH_RATED)). -/
def State.phNeed (s : State) (n level : Nat) (i : Int) : Nat :=
  let per := level * (s.phRated n).toNat
  if per = 0 then 0 else (100 * i.natAbs + per - 1) / per

/-- N_req (R403). -/
def State.nReq (s : State) (n : Nat) : Nat :=
  max 1 (s.phNeed n (s.fld (Reg.OUTS_SHED_CFG n) Fld.OUTS_SHED_CFG_SHED_LEVEL) (s.stg n).iRef)

/-- N_add for a limit (R403). -/
def State.nAdd (s : State) (n : Nat) (lim : Int) : Nat :=
  s.phNeed n (s.fld (Reg.OUTS_SHED_CFG n) Fld.OUTS_SHED_CFG_ADD_LEVEL) lim

/-- At a boundary IDLE members with the lowest numbers become ON until the k phases of the cycle before switch (R403); with shedding off every IDLE member does. -/
def State.addPhases (s : State) (n k : Nat) : State :=
  let on := (s.membersIn n [2, 3]).length
  let idle := (s.membersIn n [1]).filter fun m => (s.phs m).toFault == 0
  let take := if s.fld (Reg.OUTS_SHED_CFG n) Fld.OUTS_SHED_CFG_SHED_EN = 1 then idle.take (k - on) else idle
  take.foldl (fun st m => st.setPhState m 2) s

/-- One step of every ramp of an outlet's common duty: after k = 8 the phase is IDLE, FAULTED, or with its new outlet
(R389, R404). -/
def State.rampStep (s : State) (m : Nat) : State :=
  let st := s.phState m
  if st ≠ 3 ∧ st ≠ 4 then s
  else
    let k := s.fld (Reg.OUTS_PH_STAT m) Fld.OUTS_PH_STAT_STEP
    let c := (s.phs m).toFault
    let fault := (s.phFault m c).setPhs m { s.phs m with toFault := 0 }
    if k < 8 then s.setF (Reg.OUTS_PH_STAT m) Fld.OUTS_PH_STAT_STEP (k + 1)
    else if st = 4 then if c ≠ 0 then fault else (s.setPhState m 1).phJoin m (s.phTarget m)
    else if c = 0 then (s.bump (Reg.OUTS_O_CNT (s.phOutlet m)) Fld.OUTS_O_CNT_SHEDS).setPhState m 1
    else fault

/-- The reversal one cycle after the detector fired (R405): SHEDDING phases return, IDLE members join. -/
def State.reversal (s : State) (n : Nat) : State :=
  let back := (s.membersIn n [3]).filter fun m => (s.phs m).toFault == 0
  let s1 := back.foldl (fun st m => (st.setPhState m 2).bump (Reg.OUTS_O_CNT n) Fld.OUTS_O_CNT_REVERSALS) s
  let s2 := s1.addPhases n (s1.nAdd n (s1.stg n).firedLim)
  s2.setStg n { s2.stg n with fired := false, shedAt := none }

/-- Shedding and the load-step detector of a cycle, with |I_lim| of the cycle before (R403, R405). -/
def State.shedCycle (s : State) (n : Nat) (last : Int) : State :=
  if !switching (s.stgState n) then s
  else
    let s1 := if (s.stg n).fired then s.reversal n else s
    let s2 := s1.addPhases n (s1.nAdd n last)
    let v := s2.stg n
    let det : Int := (10000 * s2.fld (Reg.OUTS_SHED_CFG n) Fld.OUTS_SHED_CFG_LS_DET : Nat)
    let fired := decide (det < (v.iLim.natAbs : Int) - v.iRef.natAbs) || decide (det < (v.iCmd.natAbs : Int) - v.last.iOut.natAbs)
    let on := (s2.membersIn n [2, 3]).length
    let en := s2.fld (Reg.OUTS_SHED_CFG n) Fld.OUTS_SHED_CFG_SHED_EN == 1
    s2.setStg n { v with fired := fired && en, firedLim := v.iLim,
                         shedAt := s2.track v.shedAt (en && decide (s2.nReq n < on)) }

/-! ### A base cycle of the output stages -/

/-- The protections of an outlet's loop (R410): two consecutive cycles set the force latch. -/
def State.stageProtect (s : State) (n : Nat) (g : OutIn) : State :=
  let v := s.stg n
  let pr := s.rd (Reg.OUTS_PROT n)
  let live := decide (1 ≤ s.stgState n) && decide (s.stgState n ≤ 5)
  let top := if live && v.vMax != 0 then min v.vMax (s.parN (Par.outVolt n)) else s.parN (Par.outVolt n)
  let ov := decide (top * (100 + fget Fld.OUTS_PROT_OV_MARGIN pr) < 100 * g.vOut)
  let oc := decide (1000 * fget Fld.OUTS_PROT_I_OC pr < g.iOut.natAbs)
  let s1 := s.setStg n { v with overV := if ov then v.overV + 1 else 0, overI := if oc then v.overI + 1 else 0,
                                ovLatch := (v.ovLatch && s.latched (108 + s.gO n)) || (ov && decide (1 ≤ v.overV)) }
  if (ov ∧ 1 ≤ v.overV) ∨ (oc ∧ 1 ≤ v.overI) then s1.forceGroup (s1.gO n) else s1

/-- The transitions that a cycle's measurements decide (R407, R408, R409). -/
def State.stageStep (s : State) (n : Nat) (g : OutIn) : State :=
  let v := s.stg n
  let win := 50 * s.fld (Reg.OUTS_SS_CFG n) Fld.OUTS_SS_CFG_TRACK_WIN
  let st := s.stgState n
  if 1 ≤ st ∧ st ≤ 3 ∧ (s.membersIn n [1, 2, 3]).length < s.fld (Reg.OUTS_IMB_CFG n) Fld.OUTS_IMB_CFG_N_MIN_PH then
    ((s.setStg n { v with noPhases := true }).enterStg n 4 3).stgZero n
  else if st = 1 then
    if (((s.vTarget n g).1 : Int) - g.vOut).natAbs ≤ win then (s.enterStg n 2).setStg n { (s.enterStg n 2).stg n with vHeld := v.vTgt }
    else s.setStg n { v with lagAt := s.track v.lagAt (decide (win < s.vSs n g - g.vOut)) }
  else if st = 2 ∧ win < ((v.vTgt : Int) - v.vHeld).natAbs then s.softStart n (s.fld (Reg.OUTS_O_STAT n) Fld.OUTS_O_STAT_ATTEMPT)
  else if st = 4 ∧ s.stopDone n then s.stageStopped n
  else s

/-- V_out and I_out of the cycle (R387). -/
def State.stageMeas (s : State) (n : Nat) (g : OutIn) : State :=
  (s.setStg n { s.stg n with last := g }).wr (Reg.OUTS_O_MEAS n)
    (BitVec.ofNat 32 (min g.vOut 0xFFFF * 65536 + bitsOf 16 (g.iOut / 1000)))

/-- One outlet's cycle (R392; OUTPUT_STAGE_CYCLE, LOAD_STEP_DETECT); V_bus is the bus loop's where transformer control gives one (R387). -/
def State.outletCycle (s : State) (bus : Option Nat) (gs : SMap OutIn) (n : Nat) : State :=
  let g0 := SMap.get (fun _ => OutIn.reset) gs n
  let g := { g0 with vBus := bus.getD g0.vBus }
  let s1 := (((s.stageMeas n g).stageProtect n g).stageTrips n).stageStep n g
  ((s1.controlLaw n g).shedCycle n (s1.stg n).iLim).imbalance n |>.showSet n

/-- The phases that join the set of a newly running structure: UNUSED listed phases become IDLE in their outlet. -/
def State.phInit (s : State) : State :=
  s.phases.foldl (fun st m =>
    if st.phState m = 0 then
      (st.setPhState m 1).phJoin m (st.phTarget m)
    else st) s

/-- The output stages' part of a base-cycle boundary (R392 to R406), while some side runs its loops. -/
def State.outsBoundary (s : State) (bus : Option Nat) (gs : SMap OutIn) (pairs : SMap (Int × Int)) : State :=
  if s.phases.isEmpty || !(s.runsControl .a || s.runsControl .b) then s
  else
    let s0 := s.phInit
    let s1 := s0.phases.foldl (fun st m => ((st.rampStep m).phMeas pairs m).phChecks m) s0
    let s2 := s1.outlets.foldl (fun st n => st.outletCycle bus gs n) s1
    let s3 := s2.phases.foldl (fun st m =>
      if st.phState m = 2 ∨ st.phState m = 3 ∨ st.phState m = 4 then st.phPost m else st) s2
    let sum := fun b => (s3.outlets.filter fun n => (s3.stg n).exporting == b).foldl (fun a n => a + (s3.stg n).pRef.natAbs) 0
    { s3 with outs := { s3.outs with pChg := (sum false : Nat), pExp := (sum true : Nat) } }.showOuts

/-! ### Flips of the phase set (R389) -/

/-- A phase's HOME changed: both outlets take a new epoch; an IDLE or FAULTED phase joins at once, a switching one leaves through
the ramp, whose first step is that of the cycle that begins; one that leaves already joins what HOME now names. -/
def State.phMoved (before s : State) (m : Nat) : State :=
  let old := before.phTarget m
  let new := s.phTarget m
  if old = new ∨ !s.phases.contains m then s
  else
    let s1 := (s.bumpEpoch (plOutlet old)).bumpEpoch (plOutlet new)
    let st := s1.phState m
    if st = 2 then (s1.setPhState m 4).setF (Reg.OUTS_PH_STAT m) Fld.OUTS_PH_STAT_STEP 0
    else if st = 3 then
      let k := s1.fld (Reg.OUTS_PH_STAT m) Fld.OUTS_PH_STAT_STEP
      (s1.setPhState m 4).setF (Reg.OUTS_PH_STAT m) Fld.OUTS_PH_STAT_STEP k
    else if st = 4 then s1
    else s1.phJoin m new

/-- The phases that a flip moves. -/
def State.outsFlip (s before : State) (addrs : List Nat) : State :=
  let s1 := (s.phases.filter fun m => addrs.contains (Reg.OUTS_PH_MAP m)).foldl (State.phMoved before) s
  if s1.phases.isEmpty then s1 else (s1.outlets.foldl State.showSet s1).showOuts

/-- What a load leaves of the phases: one that the running image does not list reads 0 and starts afresh (R10). -/
def State.phasesLoad (s : State) : State :=
  (List.range 96).foldl (fun st m =>
    if st.phases.contains m then st
    else
      let st1 := [Reg.OUTS_PH_STAT m, Reg.OUTS_PH_MAP m, Reg.OUTS_PH_MEAS m, Reg.OUTS_PH_IMB m].foldl (fun u a => u.wr a 0) st
      { st1 with outs := { st1.outs with phases := SMap.erase st1.outs.phases m } }) s

/-- The outlets that hold the phases of some OUTS_PH_MAP entries (R789). DESIGN CHOICE (log entry 61): the set of a phase is the one that its
HOME names after the flip, also while the phase still leaves its former outlet; the spec does not say which of the two is meant. -/
def State.outletsOfPhases (s : State) (addrs : List Nat) : List Nat :=
  (s.phases.filter fun m => addrs.contains (Reg.OUTS_PH_MAP m)).map s.phTarget

end Sys2Proof.Machine
end

