-- ==== Sys2Proof/Machine/Cool.lean ====
section
/-! DEFINITION. Thermal inputs, cable cooling: the observer, the thermal credit, trips, pumps and fans, the cooling states (R441
to R461). -/

namespace Sys2Proof.Machine

open Sys2Proof

/-! ### Thermal inputs (R442, R443) -/

/-- A field of THERM_VAL_n set. -/
def State.setTh (s : State) (n : Nat) (f : Field) (v : Nat) : State := s.setF (Reg.THERM_VAL n) f v

/-- The TH inputs that serve a role for an outlet (R441). -/
def State.thInputs (s : State) (role n : Nat) : List Nat :=
  (List.range 32).filter fun i =>
    let c := s.rd (Reg.THERM_CFG i)
    fget Fld.THERM_CFG_TYPE c != 0 && fget Fld.THERM_CFG_ROLE c == role
      && (fget Fld.THERM_CFG_OUTLET c == n || fget Fld.THERM_CFG_OUTLET c == 0xF)

/-- A TH input's reading in 10^-9 °C, if it is valid. -/
def State.thRead (s : State) (i : Nat) : Option Int :=
  if s.fld (Reg.THERM_VAL i) Fld.THERM_VAL_VALID = 1 then some (s.fldS (Reg.THERM_VAL i) Fld.THERM_VAL_TEMP * 10000000) else none

/-- The valid readings of a role. -/
def State.thReads (s : State) (role n : Nat) : List Int := (s.thInputs role n).filterMap s.thRead

/-- The highest of some readings. -/
def maxInt : List Int → Option Int
  | [] => none
  | a :: r => some (r.foldl max a)

/-- An outlet's cooling. -/
def State.col (s : State) (n : Nat) : Cool := SMap.get (fun _ => Cool.reset) s.cool.outlets n

/-- The state with an outlet's cooling set. -/
def State.setCol (s : State) (n : Nat) (v : Cool) : State :=
  { s with cool := { s.cool with outlets := SMap.put (fun _ => Cool.reset) s.cool.outlets n v } }

/-- A CONN trip (R452): event, count and force latch, once per occurrence. -/
def State.connTrip (s : State) (n : Nat) : State :=
  if (s.col n).connTrip then s
  else
    let s1 := (s.setCol n { s.col n with connTrip := true }).bump (Reg.COOL_O_CNT n) Fld.COOL_O_CNT_CONN_TRIPS
    (s1.post Ev.COOL_CONN_TRIP n).forceGroup (s1.gO n)

/-- A fault flag of a TH input follows its condition; its setting counts and posts once (R443). -/
def State.thFlag (s : State) (n : Nat) (f : Field) (c : Bool) (ev : Nat) (cnt : Option Field) : State :=
  let was := s.fld (Reg.THERM_VAL n) f == 1
  let s1 := s.setTh n f (flag c)
  if c && !was then
    let s2 := match cnt with
      | some k => s1.bump (Reg.THERM_CNT n) k
      | none => s1
    s2.post ev n
  else s1

/-- The resistance of a PT1000 in 10^-23 mΩ × 10^6 at x hundredths of a degree, by the Callendar–Van Dusen equation (R442; PRESUMED: the
coefficients are those of IEC 60751, log entry 12). -/
def ptOhms (x : Int) : Int :=
  10 ^ 23 + 39083 * x * 10 ^ 14 - 5775 * x * x * 10 ^ 9 - (if x < 0 then 4183 * (x - 10000) * x * x * x else 0)

/-- The highest of 2^n temperatures from lo on whose resistance is no more than one measured. -/
def ptSearch (milliOhm : Nat) : Nat → Int → Int
  | 0, lo => lo
  | n + 1, lo => ptSearch milliOhm n (if 10 ^ 6 * ptOhms (lo + 2 ^ n) ≤ milliOhm * 10 ^ 23 then lo + 2 ^ n else lo)

/-- The temperature of a PT1000 in 0.01 °C, from −200 °C to the end of the equation at 850 °C (R442). -/
def ptTemp (milliOhm : Nat) : Int := min 85000 (ptSearch milliOhm 17 (-20000))

/-- The temperature a TH input's resistance stands for (R442), in 0.01 °C. -/
def State.thTemp (s : State) (i milliOhm : Nat) : Int :=
  if s.fld (Reg.THERM_CFG i) Fld.THERM_CFG_TYPE = 1 then ptTemp milliOhm
  else Config.ntcTemp (s.fld (Reg.THERM_NTC i) Fld.THERM_NTC_B) (s.fld (Reg.THERM_NTC i) Fld.THERM_NTC_R25) milliOhm

/-- The open and short limits of a TH input in mΩ, PT1000 and NTC (R443). -/
def thLimits (ty : Nat) : Nat × Nat :=
  if ty = 1 then (1000 * 5000, 1000 * 500) else (1000 * 1000 * 2000, 1000 * 20)

/-- The fault flags of a conversion (R443). -/
def State.thFaults (s : State) (i milliOhm : Nat) : State :=
  let lim := thLimits (s.fld (Reg.THERM_CFG i) Fld.THERM_CFG_TYPE)
  let t := s.thTemp i milliOhm
  let s2 := s.thFlag i Fld.THERM_VAL_OPEN (decide (lim.1 < milliOhm)) Ev.TH_OPEN (some Fld.THERM_CNT_OPENS)
  let s3 := s2.thFlag i Fld.THERM_VAL_SHORT (decide (milliOhm < lim.2)) Ev.TH_SHORT (some Fld.THERM_CNT_SHORTS)
  s3.thFlag i Fld.THERM_VAL_RANGE (decide (t < -5000) || decide (25000 < t)) Ev.TH_RANGE none

/-- Some fault flag of a TH input is set. -/
def State.thBad (s : State) (i : Nat) : Bool :=
  s.fld (Reg.THERM_VAL i) Fld.THERM_VAL_OPEN == 1 || s.fld (Reg.THERM_VAL i) Fld.THERM_VAL_SHORT == 1
    || s.fld (Reg.THERM_VAL i) Fld.THERM_VAL_RANGE == 1

/-- A conversion with a fault: VALID falls, and the 100 ms of R443 begin anew. -/
def State.thInvalid (s : State) (i : Nat) : State :=
  { s with cool := { s.cool with
      badAt := SMap.insert s.cool.badAt i s.tm.mono, over2 := SMap.put (fun _ => 0) s.cool.over2 i 0 } }.setTh i Fld.THERM_VAL_VALID 0

/-- The filtered value of a TH input after a good conversion (R442). -/
def State.thFiltered (s : State) (i milliOhm : Nat) : Int :=
  let t := s.thTemp i milliOhm
  let prev := ((s.cool.filt.find? fun (e : Nat × Int) => e.1 == i).map fun e => e.2).getD t
  Config.lowPass (1000 * 1000 * 2 ^ s.fld (Reg.THERM_CFG i) Fld.THERM_CFG_FILT) (1000 * 1000) prev t

/-- A filtered value kept, shown and delivered to both sides (R442). -/
def State.thDeliver (s : State) (i : Nat) (v : Int) : State :=
  let s6 := { s with cool := { s.cool with filt := SMap.insert s.cool.filt i v } }
  let s7 := if s6.fld (Reg.THERM_VAL i) Fld.THERM_VAL_VALID = 1
    then s6.setFS (Reg.THERM_VAL i) Fld.THERM_VAL_TEMP (clampInt (-32768) 32767 v) else s6
  (s7.replaceOffer .a (256 + i) v s7.tm.ts s7.tm.mono (512 + i)).replaceOffer .b (256 + i) v s7.tm.ts s7.tm.mono (512 + i)

/-- A connector sensor above CONN_TRIP in two conversions in a row trips its outlet, while the cooling loop of a used outlet runs (R452). -/
def State.thConn (s : State) (i : Nat) (v : Int) : State :=
  let o := s.fld (Reg.THERM_CFG i) Fld.THERM_CFG_OUTLET
  if s.fld (Reg.THERM_CFG i) Fld.THERM_CFG_ROLE = 1 ∧ o < 8 ∧ s.mode = 2 ∧ s.par (Par.coolKind o) ≠ 0 then
    let high := decide (100 * (s.fld (Reg.COOL_O_LIM o) Fld.COOL_O_LIM_CONN_TRIP : Int) < v)
    let k := if high then SMap.get (fun _ => 0) s.cool.over2 i + 1 else 0
    let s9 := { s with cool := { s.cool with over2 := SMap.put (fun _ => 0) s.cool.over2 i k } }
    if 2 ≤ k then s9.connTrip o else s9
  else s

/-- TH_CONVERSION (R442, R443, R452): one conversion of a used input: the faults, the filtered value delivered to both sides, and
a connector above CONN_TRIP twice in a row. -/
def execThConversion (dt : Nat) (n : Nat) (milliOhm : Nat) (s : State) : Out :=
  let s1 := s.tick dt
  let i := n % 32
  if s1.fld (Reg.THERM_CFG i) Fld.THERM_CFG_TYPE = 0 then .next s1
  else
    let s2 := s1.thFaults i milliOhm
    let s3 := s2.setBit Reg.THERM_STAT i (s2.thBad i)
    if s2.thBad i then .next (s3.thInvalid i)
    else .next ((s3.thDeliver i (s3.thFiltered i milliOhm)).thConn i (s3.thFiltered i milliOhm))

/-- TH_VALID_RESTORE (R443): 100 ms free of faults, with a conversion since, make the input valid. -/
def execThValidRestore (dt : Nat) (n : Nat) (s : State) : Out :=
  let s1 := s.tick dt
  let i := n % 32
  let at' := SMap.get (fun _ => 0) s1.cool.badAt i
  match s1.cool.filt.find? fun e => e.1 == i with
  | some e =>
    if s1.fld (Reg.THERM_VAL i) Fld.THERM_VAL_VALID = 0 ∧ !s1.bit Reg.THERM_STAT i ∧ Config.msec 100 ≤ s1.since at' then
      .next ((s1.setTh i Fld.THERM_VAL_VALID 1).setFS (Reg.THERM_VAL i) Fld.THERM_VAL_TEMP (clampInt (-32768) 32767 e.2))
    else .next s1
  | none => .next s1

/-- A write to THERM_CLR. -/
def State.thermClrWrite (s : State) (acc : Access) (val : Word) : State :=
  s.command acc Reg.THERM_CLR .op fun s1 =>
    if fget Fld.THERM_CLR_CLEAR val = 1 then (List.range 32).foldl (fun st n => st.clearCount (Reg.THERM_CNT n)) s1 else s1

/-- THERM_CLR (R443). -/
def execThermClr (dt : Nat) (acc : Access) (val : Word) (s : State) : Out := .next ((s.tick dt).thermClrWrite acc val)

/-! ### The observer (R445 to R447) -/

/-- A cooling-model parameter of an outlet. -/
def State.coolPar (s : State) (n i : Nat) : Int :=
  let l := s.parN (Par.coolLoop n)
  if l = 0 then 0 else (s.loopParam (l - 1) (s.parN (Par.coolPar n i))).toInt

/-- COOL_O_STAT_n.STATE (R457). -/
def State.coolState (s : State) (n : Nat) : Nat := s.fld (Reg.COOL_O_STAT n) Fld.COOL_O_STAT_STATE

/-- The outlet has a coolant path in use: not PASSIVE and not in LOSS. -/
def State.coolant (s : State) (n : Nat) : Bool := s.par (Par.coolKind n) == 1 && s.coolState n != 3

/-- θ_co (R445, R459): the mean of supply and return; one fitted sensor alone; the remaining one + 5 K where the other is
invalid; none where both are. -/
def State.thCo (s : State) (n : Nat) : Option Int :=
  let sup := s.thReads 2 n
  let ret := s.thReads 3 n
  let both := !(s.thInputs 2 n).isEmpty && !(s.thInputs 3 n).isEmpty
  match sup, ret with
  | a :: _, b :: _ => some ((a + b) / 2)
  | a :: _, [] => some (if both then a + 5000000000 else a)
  | [], b :: _ => some (if both then b + 5000000000 else b)
  | [], [] => none

/-- θ_amb (R459). -/
def State.thAmb (s : State) (n : Nat) : Int := (s.thReads 5 n).headD 40000000000

/-- Rth_cc at the present flow (R446), in µK/W. -/
def State.rthCc (s : State) (n : Nat) : Int :=
  let f := max (s.col n).flow (s.fld (Reg.COOL_O_FCFG n) Fld.COOL_O_FCFG_FLOW_LOSS)
  max 1 (s.coolPar n 2 * Config.pow08 (s.coolPar n 7).toNat (max f 1) / 65536)

/-- The conductor loop's resistance at a temperature in nΩ (R445). -/
def State.resAt (s : State) (n : Nat) (th : Int) : Int :=
  s.coolPar n 0 * (1000000000000000 + s.coolPar n 1 * (th - 20000000000)) / 1000000000000000

/-- The heat of the conductor in µW (R445). -/
def State.coolHeat (s : State) (n : Nat) : Int :=
  let i : Int := (s.stg n).last.iOut.natAbs
  s.resAt n (s.col n).thCd * i * i / 1000000000

/-- The node temperatures at entry to RUN (R447). -/
def State.coolInit (s : State) (n : Nat) : State :=
  let v := s.col n
  if v.inited then s
  else
    let s1 := if s.par (Par.coolKind n) = 2 then s.setF (Reg.COOL_O_STAT n) Fld.COOL_O_STAT_STATE 4
      else if s.coolState n = 4 then s.setF (Reg.COOL_O_STAT n) Fld.COOL_O_STAT_STATE 0 else s
    match maxInt (s.thReads 1 n ++ s.thReads 3 n ++ s.thReads 4 n ++ s.thReads 5 n) with
    | some t =>
      s1.setCol n { v with thCd := t, thJk := t, inited := true }
    | none => s1

/-- One step of the observer (R445), in ns, µW, µK/W, mJ/K and 10^-9 °C. -/
def State.observe (s : State) (n : Nat) : State :=
  let v := s.col n
  let h : Int := tcNs (s.fld Reg.TIME_CYCLE Fld.TIME_CYCLE_TC_CODE)
  let qcc : Int := match s.coolant n, s.thCo n with
    | true, some co => 1000 * (v.thCd - co) / s.rthCc n
    | _, _ => 0
  let qcj : Int := 1000 * (v.thCd - v.thJk) / max (s.coolPar n 3) 1
  let qja : Int := 1000 * (v.thJk - s.thAmb n) / max (s.coolPar n 4) 1
  let cd := v.thCd + h * (s.coolHeat n - qcc - qcj) / (max (s.coolPar n 5) 1 * 1000)
  let jk := v.thJk + h * (qcj - qja) / (max (s.coolPar n 6) 1 * 1000)
  let jk1 := match s.thReads 4 n with
    | j :: _ => jk + h * s.coolPar n 8 * (j - jk) / 1000000000000
    | [] => jk
  s.setCol n { v with thCd := cd, thJk := jk1 }

/-! ### The credit (R449, R450) -/

/-- θ_MAX in 10^-9 °C. -/
def State.thMax (s : State) (n : Nat) : Int := (s.fld (Reg.COOL_O_LIM n) Fld.COOL_O_LIM_TH_MAX : Nat) * 1000000000

/-- θ_pin (R450). -/
def State.thPin (s : State) (n : Nat) : Option Int := maxInt (s.thReads 1 n)

/-- I_obs and I_SS in mA (R449). -/
def State.credit (s : State) (n : Nat) : Nat × Nat :=
  let v := s.col n
  let rcj := max (s.coolPar n 3) 1
  let (rth, sink) : Int × Int := match s.coolant n, s.thCo n with
    | true, some co =>
      let rcc := s.rthCc n
      (rcc * rcj / (rcc + rcj), (co * rcj + v.thJk * rcc) / (rcc + rcj))
    | _, _ => (rcj, v.thJk)
  let e : Int := Config.expNeg (s.fld (Reg.COOL_O_CFG n) Fld.COOL_O_CFG_HOR * 10000000000) (s.coolPar n 5 * rth).toNat
  let mx := s.thMax n
  let need := (mx * 2 ^ 30 - v.thCd * e) / max (2 ^ 30 - e) 1
  let rmax := max (s.resAt n mx) 1
  let amps := fun d : Int => isqrt ((max 0 d).toNat * 1000000000000 / (max rth 1 * rmax).toNat)
  (amps (need - sink), amps (mx - sink))

/-- k_conn as (numerator, denominator) (R450): 1 where no connector limits. -/
def State.kConn (s : State) (n : Nat) : Int × Int :=
  let l := s.rd (Reg.COOL_O_LIM n)
  let mx : Int := fget Fld.COOL_O_LIM_CONN_MAX l * 1000000000
  let den := max (mx - fget Fld.COOL_O_LIM_CONN_DERATE l * 1000000000) 1
  match s.thPin n with
  | some p => (clampInt 0 den (mx - p), den)
  | none => (den, den)

/-- Some CONN sensor of the outlet is invalid (R459). -/
def State.connInvalid (s : State) (n : Nat) : Bool := (s.thInputs 1 n).any fun i => (s.thRead i).isNone

/-- The credit published and shown (R450, R451, R459). -/
def State.showCredit (s : State) (n : Nat) : State :=
  let v := s.col n
  let (io, is) := s.credit n
  let (kn, kd) := s.kConn n
  let rated := 1000 * s.fld (Reg.OUTL_O_RATED n) Fld.OUTL_O_RATED_I_RATED
  let top : Int := if s.coolState n = 3 then min (min io rated : Nat) (1000 * s.coolPar n 10) else (min io rated : Nat)
  let fail := s.connInvalid n
  let itc := if fail then 0 else (top * kn / kd / 1000).toNat
  let low := decide (kn < kd)
  let o := Reg.COOL_O_STAT n
  let s1 := (s.wr (Reg.COOL_O_TC n) (BitVec.ofNat 32 (min itc 0xFFFF * 65536 + min (is / 1000) 0xFFFF))).setF o
    Fld.COOL_O_STAT_K_CONN (kn * 255 / kd).toNat
  let pin := match s.thPin n with
    | some p => (clampInt 0 255 (p / 1000000000)).toNat
    | none => 0
  let s2 := (s1.setF o Fld.COOL_O_STAT_PIN_MAX pin).setF o Fld.COOL_O_STAT_CONN_FAIL (flag fail)
  let s3 := s2.setCol n { v with derated := low, connFail := fail }
  let s4 := if low && !v.derated then s3.post Ev.COOL_CONN_DERATE n else s3
  if fail && !v.connFail then s4.post Ev.COOL_SENSOR_FAIL n else s4

/-! ### Trips (R452) -/

/-- The conditions of R452 in a cycle: they end below their limits, and set the force latch again while they hold. -/
def State.coolTrips (s : State) (n : Nat) : State :=
  let v := s.col n
  let l := s.rd (Reg.COOL_O_LIM n)
  let pinHot := match s.thPin n with
    | some p => decide ((fget Fld.COOL_O_LIM_CONN_MAX l : Int) * 1000000000 ≤ p)
    | none => true
  let hot := decide (s.thMax n + (s.fld (Reg.COOL_O_CFG n) Fld.COOL_O_CFG_TRIP_MARGIN : Int) * 1000000000 < v.thCd)
  let s1 := s.setCol n { v with
    connTrip := v.connTrip && pinHot, cableTrip := v.cableTrip && decide (s.thMax n ≤ v.thCd), hotAt := s.track v.hotAt hot }
  let c := (s1.col n).connTrip || (s1.col n).cableTrip
  let s2 := s1.setBit Reg.COOL_STAT n c
  if c then s2.forceGroup (s2.gO n) else s2

/-- COOL_CABLE_TRIP (R452): the conductor has stayed above θ_MAX + TRIP_MARGIN for 1 s. -/
def execCoolCableTrip (dt : Nat) (n : Nat) (s : State) : Out :=
  let s1 := s.tick dt
  let k := n % 8
  let v := s1.col k
  if s1.lasted v.hotAt (Config.sec 1) ∧ v.cableTrip = false then
    let s2 := (s1.setCol k { v with cableTrip := true }).bump (Reg.COOL_O_CNT k) Fld.COOL_O_CNT_CABLE_TRIPS
    .next ((s2.post Ev.COOL_CABLE_TRIP k).forceGroup (s2.gO k))
  else .next s1

/-! ### Cooling states (R457 to R459) -/

/-- Both feedback pads report the outlet's contactors closed. -/
def State.contactorsClosed (s : State) (n : Nat) : Bool :=
  s.fld (Reg.OUTL_O_STAT n) Fld.OUTL_O_STAT_FB_P == 1 && s.fld (Reg.OUTL_O_STAT n) Fld.OUTL_O_STAT_FB_N == 1

/-- A cooling state entered. -/
def State.enterCool (s : State) (n v : Nat) : State := s.setF (Reg.COOL_O_STAT n) Fld.COOL_O_STAT_STATE v

/-- LOSS entered with a cause: 1 FLOW, 2 SENSOR, 3 LEAK (R457). -/
def State.coolLoss (s : State) (n cause : Nat) : State :=
  if s.coolState n ≤ 2 then
    let s1 := ((s.enterCool n 3).setF (Reg.COOL_O_STAT n) Fld.COOL_O_STAT_CAUSE cause).bump (Reg.COOL_O_CNT n)
      Fld.COOL_O_CNT_LOSSES
    if cause = 3 then s1.post Ev.COOL_LEAK n cause else s1.post Ev.COOL_LOSS n cause
  else s

/-- LOSS left (R457). -/
def State.coolRestored (s : State) (n : Nat) : State :=
  (s.enterCool n (if s.contactorsClosed n then 1 else 0)).post Ev.COOL_RESTORED n

/-- The cooled outlets. -/
def State.cooled (s : State) : List Nat := s.outlets.filter fun n => s.par (Par.coolKind n) == 1

/-- The source of an outlet's coolant data has failed: the flow source, or both coolant sensors. -/
def State.coolBlind (s : State) (n : Nat) : Bool := !(s.col n).flowOk || (s.thCo n).isNone

/-- The flow has been too low for FLOW_TMO (R457). -/
def State.flowLost (s : State) (n : Nat) : Bool :=
  s.lasted (s.col n).lossAt (Config.msec (100 * s.fld (Reg.COOL_O_FCFG n) Fld.COOL_O_FCFG_FLOW_TMO))

/-- The states of a COOLED outlet in a cycle (R457): a row that leads to LOSS comes before the others. -/
def State.coolStep (s : State) (n : Nat) : State :=
  let v := s.col n
  let closed := s.contactorsClosed n
  let cold := decide (v.thCd ≤ max ((s.thReads 2 n).headD (s.thAmb n)) (s.thAmb n) + 5000000000)
  if s.coolState n ≤ 2 ∧ s.flowLost n then s.coolLoss n 1
  else if s.coolState n ≤ 2 ∧ s.coolBlind n then s.coolLoss n 2
  else match s.coolState n with
  | 0 => if closed then s.enterCool n 1 else s
  | 1 => if closed then s else (s.enterCool n 2).setCol n { v with onAt := s.tm.mono }
  | 2 => if closed then s.enterCool n 1 else if cold then s.enterCool n 0 else s
  | _ => s

/-- The pump demand of an outlet by its own state (R453), in per cent. -/
def State.pumpOwn (s : State) (n : Nat) : Nat :=
  let v := s.col n
  let mn := s.fld (Reg.COOL_O_CFG n) Fld.COOL_O_CFG_PUMP_MIN
  match s.coolState n with
  | 0 => min (s.parN (Par.pumpIdle n)) mn
  | 1 => if s.thMax n - 10000000000 < v.thCd then 100
         else mn + ((100 - mn : Nat) * min (s.coolHeat n) (s.coolPar n 9 * 1000000) / max (s.coolPar n 9 * 1000000) 1).toNat
  | 2 => if s.thMax n - 10000000000 < v.thCd then 100
         else mn + ((100 - mn : Nat) * min (s.coolHeat n) (s.coolPar n 9 * 1000000) / max (s.coolPar n 9 * 1000000) 1).toNat
  | 3 => if v.leak then 0 else 100
  | _ => 0

/-- θ_sup over COOL_SET in 10^-9 °C (R454); no error while the supply has no valid reading (DESIGN CHOICE, log entry 97). -/
def State.fanErr (s : State) (n : Nat) : Int :=
  (s.thReads 2 n).head?.elim 0 fun t => t - (s.fld (Reg.COOL_O_CFG n) Fld.COOL_O_CFG_COOL_SET : Nat) * 1000000000

/-- The PI law of a fan before its clamp (R454), in 10^-24 %; its gains are the image's (log entry 97). -/
def State.fanLaw (s : State) (n : Nat) : Int := s.parN (Par.fanGain n 0) * s.fanErr n * 10 ^ 12 + (s.col n).fanInt

/-- The integrator of a fan's law in a cycle (R454): in FREEZE it takes no step further out of 0 to 100 % (R210). -/
def State.fanStep (s : State) (n : Nat) : State :=
  let inc : Int := s.parN (Par.fanGain n 1) * s.fanErr n * tcNs (s.fld Reg.TIME_CYCLE Fld.TIME_CYCLE_TC_CODE)
  let u := s.fanLaw n
  if (100 * 10 ^ 24 ≤ u ∧ 0 < inc) ∨ (u ≤ 0 ∧ inc < 0) then s
  else s.setCol n { s.col n with fanInt := (s.col n).fanInt + inc }

/-- The fan demand of an outlet by its own state (R454), in per cent. -/
def State.fanOwn (s : State) (n : Nat) : Nat :=
  let v := s.col n
  let hot := match (s.thReads 2 n).head? with
    | some t => decide (((s.fld (Reg.COOL_O_CFG n) Fld.COOL_O_CFG_COOL_SET : Nat) : Int) * 1000000000 + 10000000000 < t)
    | none => false
  if hot || (s.coolState n == 3 && !v.leak) then 100
  else if s.pumpOwn n < s.fld (Reg.COOL_O_CFG n) Fld.COOL_O_CFG_PUMP_MIN then 0
  else (clampInt 0 100 (s.fanLaw n / 10 ^ 24)).toNat

/-- The demands shown: a shared device receives the highest (R455). -/
def State.showDemand (s : State) (n : Nat) : State :=
  let top := fun (dev : Nat → Nat) (own : Nat → Nat) =>
    if s.par (dev n) = 0 then 0 else ((s.cooled.filter fun k => s.par (dev k) == s.par (dev n)).map own).foldl max (own n)
  let r := Reg.COOL_O_FLOW n
  (((s.setF r Fld.COOL_O_FLOW_FLOW (min (s.col n).flow 0xFFFF)).setF r Fld.COOL_O_FLOW_PUMP (top Par.pumpDev s.pumpOwn)).setF r
    Fld.COOL_O_FLOW_FAN (top Par.fanDev s.fanOwn))

/-- The pump stands at PUMP_MIN or above. -/
def State.pumping (s : State) (n : Nat) : Bool :=
  decide (s.fld (Reg.COOL_O_CFG n) Fld.COOL_O_CFG_PUMP_MIN ≤ s.fld (Reg.COOL_O_FLOW n) Fld.COOL_O_FLOW_PUMP)

/-- Since when the flow is low in the ways of R457 and R458. -/
def State.flowTrack (s : State) (n : Nat) : State :=
  let v := s.col n
  let f := s.rd (Reg.COOL_O_FCFG n)
  let low := decide (v.flow < fget Fld.COOL_O_FCFG_FLOW_LOW f)
  let run := s.coolState n == 1 || s.coolState n == 2
  s.setCol n { v with
    lossAt := s.track v.lossAt (s.pumping n && decide (v.flow < fget Fld.COOL_O_FCFG_FLOW_LOSS f))
    lowAt := s.track v.lowAt (run && s.pumping n && low)
    backAt := s.track v.backAt (!low && !s.coolBlind n) }

/-- A site-bus flow source as the sides read it. -/
def State.flow (s : State) (src : Nat) : FlowSrc := SMap.get (fun _ => FlowSrc.reset) s.cool.flows src

/-- A site-bus flow source is good (R444): refreshed within 500 ms, and its lost flag not set twice in 1 s. -/
def State.flowGood (s : State) (src : Nat) : Bool :=
  let f := s.flow src
  decide (s.since f.at' < Config.msec 500) && decide ((f.lost.filter fun t => decide (s.since t ≤ Config.sec 1)).length < 2)

/-- A site-bus flow source reads its receive object in a base cycle (R444, R627). -/
def State.flowRead (s : State) (src : Nat) : State :=
  let i := s.parN (Par.flowObj src) - 1
  let o := s.canObject (i / 1024) (i % 1024)
  if o.fresh then
    let f := s.flow src
    let lost := f.lost.filter fun t => decide (s.since t ≤ Config.sec 1)
    let v : FlowSrc := { val := leNat (o.data.take 2), at' := s.tm.mono, lost := if o.lost then s.tm.mono :: lost else lost }
    { s with cool := { s.cool with flows := SMap.put (fun _ => FlowSrc.reset) s.cool.flows src v } }
  else s

/-- The flow sources of COOLED outlets that a site-bus receive object carries. -/
def State.busFlows (s : State) : List Nat :=
  ((s.cooled.map fun n => s.parN (Par.flowSrc n)).eraseDups.filter fun f => 0 < f && 0 < s.parN (Par.flowObj (f - 1))).map fun f => f - 1

/-- FLOW_UPDATE (R444): a source's flow, updated every 100 ms: a pulse source's pulses of the last 500 ms (good: its pad neither open
nor shorted), or the word that a site-bus source has read; every outlet it serves takes it (R455). -/
def execFlowUpdate (dt : Nat) (src value : Nat) (good : Bool) (s : State) : Out :=
  let s1 := s.tick dt
  let bus := decide (0 < s1.parN (Par.flowObj src))
  let ok := if bus then s1.flowGood src else good
  let flow := if bus then (s1.flow src).val else value * 1200 / s1.parN (Par.kFlow src)
  .next ((s1.cooled.filter fun n => s1.parN (Par.flowSrc n) == src + 1).foldl (fun st n =>
    (st.setCol n { st.col n with flow := if ok then flow else (st.col n).flow, flowOk := ok }).flowTrack n) s1)

/-- FLOW_LOSS_TIMEOUT (R457): flow below FLOW_LOSS for FLOW_TMO while the pump runs. -/
def execFlowLossTimeout (dt : Nat) (n : Nat) (s : State) : Out :=
  let s1 := s.tick dt
  let k := n % 8
  .next (if s1.flowLost k then s1.coolLoss k 1 else s1)

/-- LEAK_DETECTED (R457): the LEAK input stands at a level for some counts; active for 100 ms it moves every outlet that shares it
to LOSS. -/
def execLeakDetected (dt : Nat) (pad : Nat) (active : Bool) (held : Nat) (s : State) : Out :=
  let s1 := s.tick dt
  .next ((s1.cooled.filter fun n => s1.parN (Par.leakPad n) == pad + 1).foldl (fun st n =>
    let st1 := (st.setCol n { st.col n with leak := active }).setF (Reg.COOL_O_STAT n) Fld.COOL_O_STAT_LEAK (flag active)
    if active ∧ Config.msec 100 ≤ held then st1.coolLoss n 3 else st1) s1)

/-- FLOW_LOW_TIMEOUT (R458): flow below FLOW_LOW for 2 s sets FLOW_LOW; posted once until the flow is back. -/
def execFlowLowTimeout (dt : Nat) (n : Nat) (s : State) : Out :=
  let s1 := s.tick dt
  let k := n % 8
  if s1.lasted (s1.col k).lowAt (Config.sec 2) ∧ s1.fld (Reg.COOL_O_STAT k) Fld.COOL_O_STAT_FLOW_LOW = 0 then
    .next (((s1.setF (Reg.COOL_O_STAT k) Fld.COOL_O_STAT_FLOW_LOW 1).bump (Reg.COOL_O_CNT k) Fld.COOL_O_CNT_FLOW_LOWS).post
      Ev.COOL_FLOW_LOW k)
  else .next s1

/-- COOL_RESTORE_TIMER (R457): flow at FLOW_LOW or above for 10 s with its sources valid leaves LOSS of cause FLOW or SENSOR. -/
def execCoolRestoreTimer (dt : Nat) (n : Nat) (s : State) : Out :=
  let s1 := s.tick dt
  let k := n % 8
  if s1.coolState k = 3 ∧ s1.fld (Reg.COOL_O_STAT k) Fld.COOL_O_STAT_CAUSE ≠ 3 ∧ s1.lasted (s1.col k).backAt (Config.sec 10) then
    .next (s1.coolRestored k)
  else .next s1

/-- RUN_ON_EXPIRY (R457): RUN_ON_MAX minutes end the run-on, unless a row to LOSS comes first. -/
def execRunOnExpiry (dt : Nat) (n : Nat) (s : State) : Out :=
  let s1 := s.tick dt
  let k := n % 8
  if s1.coolState k = 2 ∧ !s1.flowLost k ∧ !s1.coolBlind k
      ∧ Config.sec (60 * s1.fld (Reg.COOL_O_FCFG k) Fld.COOL_O_FCFG_RUN_ON_MAX) ≤ s1.since (s1.col k).onAt then
    .next (s1.enterCool k 0)
  else .next s1

/-- A write to COOL_O_CTRL_n (R457, R461). -/
def State.coolCtrlWrite (s : State) (acc : Access) (n : Nat) (val : Word) : State :=
  s.command acc (Reg.COOL_O_CTRL n) .op fun s1 =>
    if fget Fld.COOL_O_CTRL_ACK val = 0 then s1
    else if s1.coolState n = 3 ∧ s1.fld (Reg.COOL_O_STAT n) Fld.COOL_O_STAT_CAUSE = 3 ∧ (s1.col n).leak = false then s1.coolRestored n
    else s1.post Ev.COOL_CMD_REFUSED n

/-- COOL_ACK (R461). -/
def execCoolAck (dt : Nat) (acc : Access) (n : Nat) (val : Word) (s : State) : Out :=
  .next ((s.tick dt).coolCtrlWrite acc (n % 8) val)

/-- A write to COOL_CLR. -/
def State.coolClrWrite (s : State) (acc : Access) (val : Word) : State :=
  s.command acc Reg.COOL_CLR .op fun s1 =>
    if fget Fld.COOL_CLR_CLEAR val = 1 then (List.range 8).foldl (fun st n => st.clearCount (Reg.COOL_O_CNT n)) s1 else s1

/-- COOL_CLR (R457). -/
def execCoolClr (dt : Nat) (acc : Access) (val : Word) (s : State) : Out := .next ((s.tick dt).coolClrWrite acc val)

/-! ### A base cycle of the cooling loops -/

/-- An outlet's temperatures as shown. -/
def State.showCool (s : State) (n : Nat) : State :=
  let t := fun x : Int => bitsOf 16 (clampInt (-32767) 32767 (x / 100000000))
  let m := fun l : List Int => match l.head? with
    | some x => t x
    | none => 0x8000
  let v := s.col n
  (s.wr (Reg.COOL_O_EST n) (BitVec.ofNat 32 (t v.thCd * 65536 + t v.thJk))).wr (Reg.COOL_O_MEAS n)
    (BitVec.ofNat 32 (m (s.thReads 2 n) * 65536 + m (s.thReads 3 n)))

/-- One outlet's cooling cycle (OBSERVER_STEP). -/
def State.coolCycle (s : State) (n : Nat) : State :=
  let s1 := ((((s.coolInit n).fanStep n).observe n).coolTrips n).coolStep n
  let s2 := if s1.par (Par.coolKind n) = 1 then (s1.showDemand n).flowTrack n else s1
  let low := decide ((s2.col n).flow < s2.fld (Reg.COOL_O_FCFG n) Fld.COOL_O_FCFG_FLOW_LOW)
  let s3 := if low then s2 else s2.setF (Reg.COOL_O_STAT n) Fld.COOL_O_STAT_FLOW_LOW 0
  (s3.showCredit n).showCool n

/-- The demand of a pump (even d) or fan (odd) device: the highest of its outlets (R455). -/
def State.deviceDemand (s : State) (d : Nat) : Nat :=
  let par := if d % 2 = 0 then Par.pumpDev else Par.fanDev
  let f := if d % 2 = 0 then Fld.COOL_O_FLOW_PUMP else Fld.COOL_O_FLOW_FAN
  ((s.cooled.filter fun n => s.parN (par n) == d / 2 + 1).map fun n => s.fld (Reg.COOL_O_FLOW n) f).foldl max 0

/-- The pump or fan devices that a message port serves (R456). -/
def State.portDevices (s : State) : List Nat := (List.range 16).filter fun d => 0 < s.parN (Par.devPort d)

/-- A device on a message port sends its demand in one byte of its message, once in each of its periods (R456). -/
def State.deviceSend (s : State) (d : Nat) : State :=
  let n := s.tm.mono.toNat / Config.msec (max 1 (s.parN (Par.devPeriod d)))
  if SMap.get (fun _ => 0) s.cool.sent d < n then
    let i := s.parN (Par.devPort d) - 1
    let id := s.parN (Par.devMsg d)
    let data := (List.range (s.parN (Par.devLen d))).map fun b =>
      BitVec.ofNat 8 (if b = s.parN (Par.devByte d) then s.deviceDemand d else s.parN (Par.devData d b))
    let m : CanMsg := { id := id % 0x20000000, ide := id.testBit 29, fmt := if data.length ≤ 8 then 0 else 1, brs := false, data := data }
    { s with cool := { s.cool with sent := SMap.put (fun _ => 0) s.cool.sent d n } }.portWrite (i / 16 % 4) (i % 16) 0 m
  else s

/-- The cooling loops' part of a base-cycle boundary in RUN (R444 to R456). -/
def State.coolBoundary (s : State) : State :=
  if s.mode ≠ 2 then s
  else
    let used := s.outlets.filter fun n => s.par (Par.coolKind n) != 0
    let s0 := used.foldl State.coolCycle (s.busFlows.foldl State.flowRead s)
    let s1 := s0.portDevices.foldl State.deviceSend s0
    let mask := fun (p : Nat → Bool) => used.foldl (fun m n => withBit m n (p n)) 0
    ((s1.setF Reg.COOL_STAT Fld.COOL_STAT_LOSS (mask fun n => s1.coolState n == 3)).setF Reg.COOL_STAT Fld.COOL_STAT_DERATE
      (mask fun n => (s1.col n).derated)).setF Reg.COOL_STAT Fld.COOL_STAT_COOLED (mask fun n => s1.par (Par.coolKind n) == 1)

end Sys2Proof.Machine
end

