-- ==== Sys2Proof/Machine/Outl.lean ====
section
/-! DEFINITION. Outlets, vehicle sessions and contactors (R462 to R485). -/

namespace Sys2Proof.Machine

open Sys2Proof

/-! ### The session record -/

/-- An outlet's session. -/
def State.otl (s : State) (n : Nat) : Outlet := SMap.get (fun _ => Outlet.reset) s.outl.outlets n

/-- The state with an outlet's session set. -/
def State.setOtl (s : State) (n : Nat) (v : Outlet) : State :=
  { s with outl := { s.outl with outlets := SMap.put (fun _ => Outlet.reset) s.outl.outlets n v } }

/-- OUTL_O_STAT_n.STATE (R478). -/
def State.oState (s : State) (n : Nat) : Nat := s.fld (Reg.OUTL_O_STAT n) Fld.OUTL_O_STAT_STATE

/-- A field of OUTL_O_STAT_n set. -/
def State.setO (s : State) (n : Nat) (f : Field) (v : Nat) : State := s.setF (Reg.OUTL_O_STAT n) f v

/-- OUTL_O_STAT_n.SIG. -/
def State.sig (s : State) (n : Nat) : Nat := s.fld (Reg.OUTL_O_STAT n) Fld.OUTL_O_STAT_SIG

/-- KIND of an outlet: 0 unused, 1 COMBINED, 2 MEGAWATT (R462). -/
def State.oKind (s : State) (n : Nat) : Nat := s.fld (Reg.OUTL_O_CFG n) Fld.OUTL_O_CFG_KIND

/-- The used outlets. -/
def State.usedOutlets (s : State) : List Nat := s.outlets.filter fun n => s.oKind n != 0

/-- OUTL_STAT follows the outlets. -/
def State.showOutl (s : State) : State :=
  let mask := fun p : Nat → Bool => s.outlets.foldl (fun m n => withBit m n (p n)) 0
  (((s.setF Reg.OUTL_STAT Fld.OUTL_STAT_AVAIL (mask fun n => s.oState n == 1)).setF Reg.OUTL_STAT Fld.OUTL_STAT_TRANSFER
    (mask fun n => s.oState n == 7)).setF Reg.OUTL_STAT Fld.OUTL_STAT_FAULT (mask fun n => s.oState n == 11)).setF Reg.OUTL_STAT
    Fld.OUTL_STAT_PRESENT (mask fun n => s.sig n != 0)

/-- A session state entered now; FAULT is a condition of the watches (R151, R789). -/
def State.enterO (s : State) (n v : Nat) : State :=
  let s1 := s.setO n Fld.OUTL_O_STAT_STATE v
  let s2 := (s1.setOtl n { s1.otl n with since := s1.tm.mono, step := 0, stepAt := s1.tm.mono }).showOutl
  if v = 11 then s2.watchOutlet n else s2

/-- A step within PRECHECK or CABLE_CHECK. -/
def State.stepO (s : State) (n v : Nat) : State := s.setOtl n { s.otl n with step := v, stepAt := s.tm.mono }

/-- V_out of an outlet in 0.1 V. -/
def State.vOut (s : State) (n : Nat) : Nat := (s.stg n).last.vOut

/-- |I_out| lies below I_BREAK (R472). -/
def State.belowBreak (s : State) (n : Nat) : Bool :=
  decide ((s.stg n).last.iOut.natAbs < 1000 * s.fld (Reg.OUTL_O_TMO n) Fld.OUTL_O_TMO_I_BREAK)

/-- EMERG_TMO of an outlet in counts. -/
def State.emergTmo (s : State) (n : Nat) : Nat := Config.msec (s.fld (Reg.OUTL_O_TMO n) Fld.OUTL_O_TMO_EMERG_TMO)

/-! ### Contactors and the discharge output (R470 to R472, R477) -/

/-- Both feedback pads of an outlet report open. -/
def State.contactorsOpen (s : State) (n : Nat) : Bool :=
  s.fld (Reg.OUTL_O_STAT n) Fld.OUTL_O_STAT_FB_P == 0 && s.fld (Reg.OUTL_O_STAT n) Fld.OUTL_O_STAT_FB_N == 0

/-- Both feedback pads report what the close outputs command. -/
def State.confirmed (s : State) (n : Nat) : Bool := if (s.otl n).cmd then s.contactorsClosed n else s.contactorsOpen n

/-- Both poles commanded together (R471). -/
def State.contactors (s : State) (n : Nat) (close : Bool) : State :=
  if (s.otl n).cmd = close then s else s.setOtl n { s.otl n with cmd := close, cmdAt := some s.tm.mono }

/-- The discharge output. -/
def State.disch (s : State) (n : Nat) (on : Bool) : State := s.setO n Fld.OUTL_O_STAT_DISCH (flag on)

/-! ### Ends of a session (R478, R479, R481) -/

/-- The order of R481 among REASON codes: TRIP, SAFETY, UNPLUG, STAGE, ISOLATION, CONTACTOR, WELD, SHORT, PROTOCOL, LINK, EV,
OPERATOR, MGMT, INHIBIT. -/
def reasonRank : Nat → Nat
  | 6 => 0
  | 14 => 1
  | 5 => 2
  | 7 => 3
  | 8 => 4
  | 11 => 5
  | 10 => 6
  | 9 => 7
  | 13 => 8
  | 4 => 9
  | 1 => 10
  | 2 => 11
  | 3 => 12
  | 12 => 13
  | _ => 14

/-- A reason of the emergency class (R478). -/
def emergencyReason (r : Nat) : Bool := decide (reasonRank r < 10)

/-- The reasons that end in FAULT (R479): TRIP, STAGE, ISOLATION, SHORT, CONTACTOR, WELD. -/
def faultReason (r : Nat) : Bool := [6, 7, 8, 9, 10, 11].contains r

/-- OUTL_O_STAT_n.REASON. -/
def State.reason (s : State) (n : Nat) : Nat := s.fld (Reg.OUTL_O_STAT n) Fld.OUTL_O_STAT_REASON

/-- The end reaches its state: FAULT or FINISHED; the end instant goes to the metrology die, and DISCH stays on down to 60 V
(R477, R479). -/
def State.endDone (s : State) (n : Nat) : State :=
  let s1 := s.enterO n (if faultReason (s.reason n) && (s.otl n).ending == 2 then 11 else 10)
  let s2 := s1.setOtl n { s1.otl n with ending := 0 }
  let s3 := { s2 with outl := { s2.outl with toMeter := s2.outl.toMeter ++ [(n, false, s2.tm.ts)] } }
  s3.disch n (decide (600 ≤ s3.vOut n))

/-- The contactors report open (R476, R479). -/
def State.opened (s : State) (n : Nat) : State :=
  let v := s.otl n
  if v.ending = 1 ∧ s.oState n = 8 then (s.enterO n 9).disch n true
  else if v.ending = 1 then s.endDone n
  else if v.ending = 2 ∧ s.sig n ≠ 0 ∧ s.oState n ≠ 9 then (s.enterO n 9).disch n true
  else if v.ending = 2 then s.endDone n
  else s

/-- The path of an end towards open contactors (R472, R479): they open below I_BREAK; open ones are already there. -/
def State.windEnd (s : State) (n : Nat) : State :=
  let v := s.otl n
  if v.ending = 0 ∨ (s.oState n = 9) then s
  else if v.cmd then (if s.belowBreak n then (s.stageStop n).contactors n false else s)
  else if s.contactorsOpen n then s.opened n
  else s

/-- The current request passed to the stage (R407). -/
def State.stageDemand (s : State) (n vTgt vMax iEv : Nat) : State :=
  s.setStg n { s.stg n with vTgt := vTgt, vMax := vMax, iEv := iEv }

/-- I_EV as shown and passed on, in A. -/
def State.setIEv (s : State) (n a : Nat) : State :=
  (s.setStg n { s.stg n with iEv := 1000 * a }).setF (Reg.OUTL_O_EVI n) Fld.OUTL_O_EVI_I_EV (min a 0xFFFF)

/-- An emergency end begins: STOP at once, and an emergency shutdown signalled where the link is up (R479). In WELD_CHECK the contactors are open already and no second check runs. -/
def State.emergency (s : State) (n : Nat) : State :=
  let s1 := s.stageStop n
  let told := if s1.fld (Reg.OUTL_O_STAT n) Fld.OUTL_O_STAT_PROTO = 0 then (s1.otl n).told else .emergencyShutdown
  let s2 := s1.setOtl n { s1.otl n with ending := 2, stopAt := s1.tm.mono, tally := 2, told := told }
  if s2.oState n = 9 then s2.endDone n else s2.windEnd n

/-- A normal end begins: WIND_DOWN from TRANSFER, else STOP (R479). -/
def State.normalEnd (s : State) (n : Nat) : State :=
  let s1 := s.setOtl n { s.otl n with ending := 1, stopAt := s.tm.mono, tally := 1 }
  if s1.oState n = 7 then ((s1.setOtl n { s1.otl n with told := .stop }).enterO n 8).setIEv n 0 else (s1.stageStop n).windEnd n

/-- An end cause with its reason (R478, R479, R481): of several in one base cycle the first in the order of R481 is recorded,
and one of the emergency class makes the end an emergency end. -/
def State.endCause (s : State) (n r : Nat) : State :=
  let v := s.otl n
  let st := s.oState n
  let em := emergencyReason r
  if v.endCycle = some s.tm.cycleN ∧ 2 ≤ st ∧ (v.tally ≠ 0) then
    let s1 := if reasonRank r < reasonRank (s.reason n) then s.setO n Fld.OUTL_O_STAT_REASON r else s
    if em && v.tally == 1 then
      if st ≤ 9 then s1.emergency n
      else (s1.enterO n (if faultReason (s1.reason n) then 11 else 10)).setOtl n
        { (s1.enterO n (if faultReason (s1.reason n) then 11 else 10)).otl n with tally := 2 }
    else if v.tally = 2 ∧ 10 ≤ st then s1.enterO n (if faultReason (s1.reason n) then 11 else 10)
    else s1
  else if em && decide (2 ≤ st) && decide (st ≤ 9) && (v.ending != 2 || st == 9) then
    ((s.setO n Fld.OUTL_O_STAT_REASON r).setOtl n { v with endCycle := some s.tm.cycleN }).emergency n
  else if !em && decide (2 ≤ st) && decide (st ≤ 7) && v.ending == 0 then
    ((s.setO n Fld.OUTL_O_STAT_REASON r).setOtl n { v with endCycle := some s.tm.cycleN }).normalEnd n
  else s

/-- The counts of an end, at the boundary after its last cause. -/
def State.countEnd (s : State) (n : Nat) : State :=
  let v := s.otl n
  let c := Reg.OUTL_O_CNT n
  if v.tally = 0 then s
  else
    let r := s.reason n
    let s1 := if v.tally = 2 then s.bump c Fld.OUTL_O_CNT_EMERG_ENDS else s
    let s2 := if r = 9 then s1.bump c Fld.OUTL_O_CNT_PRECHECK_FAILS
              else if r = 8 then s1.bump c Fld.OUTL_O_CNT_ISO_FAULTS
              else if r = 10 then s1.bump c Fld.OUTL_O_CNT_WELDS else s1
    s2.setOtl n { s2.otl n with tally := 0 }

/-- A contactor command that its feedback confirms, and an end that waits for open contactors (R471 to R476, R479). -/
def State.contactorStep (s : State) (n : Nat) : State :=
  let v := s.otl n
  let s1 := if s.confirmed n && v.cmdAt.isSome then s.setOtl n { v with cmdAt := none } else s
  if s.confirmed n ∧ v.cmd ∧ v.ending = 0 then (if s.oState n = 4 ∧ v.step = 3 then s1.stepO n 4 else s1)
  else s1.windEnd n

/-- CONTACTOR_FEEDBACK (R471): FB_2n is the positive pole of outlet n, FB_2n+1 the negative. -/
def execContactorFeedback (dt : Nat) (pad : Nat) (closed : Bool) (s : State) : Out :=
  let s1 := s.tick dt
  let k := pad % 16
  let f := if k % 2 = 0 then Fld.OUTL_O_STAT_FB_P else Fld.OUTL_O_STAT_FB_N
  .next (((s1.setBit Reg.SAFE_FB_STAT k closed).setO (k / 2) f (flag closed)).contactorStep (k / 2))

/-- CONTACTOR_TIMEOUT (R471): a commanded change unconfirmed for CONT_TMO. -/
def execContactorTimeout (dt : Nat) (n : Nat) (s : State) : Out :=
  let s1 := s.tick dt
  let k := n % 8
  if s1.lasted (s1.otl k).cmdAt (Config.msec (10 * s1.fld (Reg.OUTL_O_TMO k) Fld.OUTL_O_TMO_CONT_TMO)) then
    let s2 := s1.setOtl k { s1.otl k with cmdAt := none }
    if (s2.otl k).cmd then .next (s2.endCause k 11)
    else
      let s3 := (s2.setO k Fld.OUTL_O_STAT_REASON 11).setOtl k { s2.otl k with ending := 2, tally := 2, endCycle := some s2.tm.cycleN }
      .next (s3.endDone k)
  else .next s1

/-- EMERGENCY_OPEN_TIMEOUT (R472, R479): EMERG_TMO after the stop the contactors open under any current. -/
def execEmergencyOpenTimeout (dt : Nat) (n : Nat) (s : State) : Out :=
  let s1 := s.tick dt
  let k := n % 8
  if (s1.otl k).ending = 2 ∧ (s1.otl k).cmd = true ∧ s1.emergTmo k ≤ s1.since (s1.otl k).stopAt then .next (s1.contactors k false)
  else .next s1

/-! ### Inhibits (R480) -/

/-- Hedgerow holds an outlet (R504, R505). -/
def State.outletHeld (s : State) (n : Nat) : Bool :=
  (s.fld Reg.SAFE_FB_STAT Fld.SAFE_FB_STAT_FAULT).testBit n || s.safe.held.testBit n

/-- The inhibits of R480 but for the coolant's LOSS. -/
def State.inhibitHard (s : State) (n : Nat) : Bool :=
  (s.otl n).disabled || s.stgState n == 7 || s.connInvalid n || s.mode != 2 || s.outletHeld n

/-- An inhibit of R480 holds. -/
def State.inhibited (s : State) (n : Nat) : Bool := s.inhibitHard n || s.coolState n == 3

/-! ### The session's states (R478) -/

/-- A session opens (PLUGGED): the next session number, signalling on. -/
def State.sessionOpen (s : State) (n : Nat) : State :=
  let s1 := s.wr (Reg.OUTL_O_SESS n) (s.rd (Reg.OUTL_O_SESS n) + 1)
  let s2 := ((s1.setO n Fld.OUTL_O_STAT_PROTO 0).setO n Fld.OUTL_O_STAT_TLS 0).setO n Fld.OUTL_O_STAT_EXPORT 0
  let v := s2.otl n
  let s3 := s2.setOtl n { v with
    service := 0, agreed := false, auth := false, told := .nothing, custRef := [], checkReq := false, startReq := false, preTgt := 0, vMax := 0, vTgt := 0, iReq := 0,
    ending := 0, endCycle := none, tally := 0, wantExport := false }
  (s3.enterO n 2).post Ev.OUTL_SESSION_START n

/-- An outlet leaves FINISHED or FAULT (R478). -/
def State.outletFree (s : State) (n : Nat) : State := s.enterO n (if s.inhibited n then 0 else 1)

/-- The transitions that a signal state or an inhibit decides (R478). -/
def State.signalStep (s : State) (n : Nat) : State :=
  let inh := s.inhibited n
  let s1 := s.setO n Fld.OUTL_O_STAT_INHIBIT (flag inh)
  let g := s1.sig n
  let st := s1.oState n
  if st = 0 then (if inh then s1 else s1.enterO n 1)
  else if st = 1 then (if inh then s1.enterO n 0 else if g = 1 ∨ g = 2 then s1.sessionOpen n else s1)
  else if st = 10 then (if g = 0 then (s1.outletFree n).post Ev.OUTL_SESSION_END n else s1)
  else if 2 ≤ st ∧ st ≤ 9 ∧ g = 0 then
    (if st = 7 ∧ (s1.otl n).ending = 0 then s1.post Ev.OUTL_UNPLUG_LOAD n else s1).endCause n 5
  else if 2 ≤ st ∧ st ≤ 7 ∧ (s1.inhibitHard n || (inh && st != 7)) then s1.endCause n 12
  else s1

/-- NEGOTIATE is over: authorised, parameters agreed, the cable check requested, SIG READY (R474 step 1). -/
def State.negotiated (s : State) (n : Nat) : State :=
  let v := s.otl n
  if s.oState n = 3 ∧ v.auth ∧ v.agreed ∧ v.checkReq ∧ s.sig n = 2 ∧ v.ending = 0 ∧ (s.otl n).cmd = false then
    let s1 := (s.enterO n 4).disch n false
    (s1.stepO n 1).stageStart n false (10 * s1.fld (Reg.OUTL_O_CHK n) Fld.OUTL_O_CHK_V_CHK) 0 v.vMax 0
  else s

/-- What the Guard die drives on CP_n (R462 to R466): high impedance on an outlet that is not used, +12 V steady, the 1 kHz square wave of 5 %
duty, −12 V steady, and on a megawatt connector the charger side of IEC 61851-23-3 or its fault level. -/
inductive CpDrive where
  | hiZ
  | plus12
  | pwm
  | minus12
  | charger
  | faultLevel
  deriving DecidableEq, Repr

/-- An outlet signals that it is unavailable (R466): in UNAVAILABLE, with its stage in LOCKOUT (R407), in orphan control (R178), and while no
image runs (R122, R124). -/
def State.unavailable (s : State) (n : Nat) : Bool :=
  s.oState n == 0 || s.stgState n == 7 || s.keep.orphan || s.mode != 2

/-- A session is open on an outlet: from PLUGGED to the end of FINISHED (R478). -/
def State.sessionUp (s : State) (n : Nat) : Bool := decide (2 ≤ s.oState n) && decide (s.oState n ≤ 10)

/-- The level of CP_n (R463, R464, R466). -/
def State.cpDrive (s : State) (n : Nat) : CpDrive :=
  if s.oKind n = 0 then .hiZ
  else if s.oKind n = 1 then
    if s.unavailable n then .minus12 else if s.sessionUp n then .pwm else .plus12
  else if s.unavailable n then .faultLevel else .charger

/-- The signal state of one sample (R463, R464): NONE 0, PRESENT 1, READY 2, ERROR 3; the low phase counts while the PWM runs. -/
def sigOf (pwm : Bool) : SigSample → Nat
  | .mcs g => g % 4
  | .cp h low =>
    let lowBad := match low with
      | some l => pwm && (decide (l < -13000) || decide (-11000 < l))
      | none => false
    if lowBad then 3
    else if 11000 ≤ h ∧ h ≤ 13000 then 0
    else if 8000 ≤ h ∧ h ≤ 10000 then 1
    else if 5000 ≤ h ∧ h ≤ 7000 then 2
    else if 2000 ≤ h ∧ h ≤ 4000 then 2
    else 3

/-- SIG as it counts: NONE while PP_n reads NOT_CONNECTED on a COMBINED outlet (R465). -/
def State.showSig (s : State) (n : Nat) : State :=
  let off := s.oKind n == 1 && s.fld (Reg.OUTL_O_STAT n) Fld.OUTL_O_STAT_PP == 0
  (s.setO n Fld.OUTL_O_STAT_SIG (if off then 0 else (s.otl n).sigRaw)).showOutl

/-- SIG_CHANGE (R463): two consecutive samples that agree are accepted. -/
def execSigChange (dt : Nat) (n : Nat) (a b : SigSample) (s : State) : Out :=
  let s1 := s.tick dt
  let k := n % 8
  let sig := sigOf (s1.cpDrive k == .pwm)
  if sig a = sig b ∧ s1.oKind k ≠ 0 then
    let s2 := (s1.setOtl k { s1.otl k with sigRaw := sig a }).showSig k
    .next ((s2.wakeSource .outlet k).signalStep k |>.negotiated k)
  else .next s1

/-- PP_CHANGE (R465): 0 NOT_CONNECTED, 1 LATCH_RELEASED, 2 CONNECTED; a release of the latch in TRANSFER counts as an unplug. -/
def execPpChange (dt : Nat) (n : Nat) (pp : Nat) (s : State) : Out :=
  let s1 := s.tick dt
  let k := n % 8
  if s1.oKind k = 1 then
    let s2 := (s1.setO k Fld.OUTL_O_STAT_PP (pp % 3)).showSig k
    if pp % 3 = 1 ∧ s1.fld (Reg.OUTL_O_STAT k) Fld.OUTL_O_STAT_PP ≠ 1 ∧ s2.oState k = 7 ∧ (s2.otl k).ending = 0 then .next ((s2.post Ev.OUTL_UNPLUG_LOAD k).endCause k 5)
    else .next (s2.signalStep k |>.negotiated k)
  else .next s1

/-- VEHICLE_LINK_UP (R467, R468): of the protocols the vehicle offers (bit 0 DIN SPEC 70121, bit 1 ISO 15118-2, bit 2
ISO 15118-20, which is not supported unencrypted) the first enabled one of the order ISO 15118-20, ISO 15118-2, DIN is selected; none ends
the session. -/
def execVehicleLinkUp (dt : Nat) (n offered : Nat) (tls : Bool) (s : State) : Out :=
  let s1 := s.tick dt
  let k := n % 8
  if s1.oState k = 2 ∧ (s1.otl k).ending = 0 then
    let can := fun b => offered.testBit b && (s1.fld (Reg.OUTL_O_CFG k) Fld.OUTL_O_CFG_PROTO_EN).testBit b
      && (if b == 2 then tls else s1.oKind k == 1)
    let proto := if can 2 then 3 else if can 1 then 2 else if can 0 then 1 else 0
    if proto = 0 then .next (s1.endCause k 13)
    else
      let s2 := (s1.setO k Fld.OUTL_O_STAT_PROTO proto).setO k Fld.OUTL_O_STAT_TLS
        (if proto = 3 then 1 else if proto = 2 then flag tls else 0)
      .next (s2.enterO k 3)
  else .next s1

/-- LINK_TIMEOUT (R469): no link within LINK_TMO of entry to PLUGGED. -/
def execLinkTimeout (dt : Nat) (n : Nat) (s : State) : Out :=
  let s1 := s.tick dt
  let k := n % 8
  if s1.oState k = 2 ∧ Config.sec (s1.fld (Reg.OUTL_O_LINK k) Fld.OUTL_O_LINK_LINK_TMO) ≤ s1.since (s1.otl k).since then
    .next (s1.endCause k 4)
  else .next s1

/-- PROTOCOL_TIMEOUT (R469): a message timer of the selected protocol expires, whose limits the protocol's standard sets. -/
def execProtocolTimeout (dt : Nat) (n : Nat) (s : State) : Out :=
  let s1 := s.tick dt
  let k := n % 8
  if s1.fld (Reg.OUTL_O_STAT k) Fld.OUTL_O_STAT_PROTO ≠ 0 then .next (s1.endCause k 13) else .next s1

/-! ### Energy transfer (R475, R478, R482) -/

/-- The session's service is bidirectional on a BIDIR outlet (R482). -/
def State.bidir (s : State) (n : Nat) : Bool :=
  s.fld (Reg.OUTL_O_CFG n) Fld.OUTL_O_CFG_BIDIR == 1 && ((s.otl n).service == 1 || (s.otl n).service == 3)

/-- The vehicle's demand in TRANSFER (R482): a request against the direction sets I_EV to 0 until the direction changes. -/
def State.demand (s : State) (n : Nat) : State :=
  let v := s.otl n
  let ex := (s.stg n).exporting
  let want := if s.bidir n && v.iReq != 0 then decide (v.iReq < 0) else ex
  let s1 := s.setOtl n { v with wantExport := want }
  let s2 := s1.setStg n { s1.stg n with vTgt := v.vTgt, vMax := v.vMax }
  let a := if want != ex then 0 else if ex then (-v.iReq).toNat else v.iReq.toNat
  s2.setIEv n a

/-- The direction changes in the first base cycle in which |I_out| lies below I_BREAK (R482). -/
def State.direction (s : State) (n : Nat) : State :=
  let v := s.otl n
  if s.oState n = 7 ∧ v.wantExport ≠ (s.stg n).exporting ∧ s.belowBreak n then
    let s1 := s.setStg n { s.stg n with exporting := v.wantExport }
    ((s1.setF (Reg.OUTS_O_STAT n) Fld.OUTS_O_STAT_EXPORT (flag v.wantExport)).setO n Fld.OUTL_O_STAT_EXPORT
      (flag v.wantExport)).demand n
  else s

/-- PRECHARGE is over: energy transfer requested, the stage in HOLD_V, V_out within 20 V of the target (R478). -/
def State.precharged (s : State) (n : Nat) : State :=
  let v := s.otl n
  if s.oState n = 6 ∧ v.startReq ∧ v.ending = 0 ∧ s.stgState n = 2 ∧ ((s.vOut n : Int) - v.preTgt).natAbs ≤ 200 then
    let s1 := ((s.enterO n 7).stageCharge n).demand n
    let s2 := { s1 with outl := { s1.outl with toMeter := s1.outl.toMeter ++ [(n, true, s1.tm.ts)] } }
    s2.direction n
  else s

/-- The energy services that a session offers (R467): 0 DC, 1 DC_BPT, 2 DC_ACDP, 3 DC_ACDP_BPT; all but DC under ISO 15118-20, the
bidirectional ones on a BIDIR outlet, those of a connection device on an ACD outlet. -/
def State.serviceOk (s : State) (n sv : Nat) : Bool :=
  let cfg := s.rd (Reg.OUTL_O_CFG n)
  let p20 := s.fld (Reg.OUTL_O_STAT n) Fld.OUTL_O_STAT_PROTO == 3
  match sv with
  | 0 => true
  | 1 => p20 && fget Fld.OUTL_O_CFG_BIDIR cfg == 1
  | 2 => p20 && fget Fld.OUTL_O_CFG_ACD cfg == 1
  | 3 => p20 && fget Fld.OUTL_O_CFG_BIDIR cfg == 1 && fget Fld.OUTL_O_CFG_ACD cfg == 1
  | _ => false

/-- A session takes a contract certificate as identification (R467): under ISO 15118-20, and under ISO 15118-2 on a link secured by TLS. -/
def State.contractOk (s : State) (n : Nat) : Bool :=
  decide (2 ≤ s.fld (Reg.OUTL_O_STAT n) Fld.OUTL_O_STAT_PROTO) && s.fld (Reg.OUTL_O_STAT n) Fld.OUTL_O_STAT_TLS == 1

/-- The maximum current told to the vehicle in mA (R483): I_lim of the stage, 0 with a grant of 0. -/
def State.toldCurrent (s : State) (n : Nat) : Nat := (s.stg n).iLim.natAbs

/-- The voltage answered to the vehicle's requests in 0.1 V (R476). -/
def State.toldVoltage (s : State) (n : Nat) : Nat := s.vOut n

/-- VEHICLE_MESSAGE (R467, R478): the session acts on what the vehicle says; a service that it does not offer is not agreed. -/
def execVehicleMessage (dt : Nat) (n : Nat) (msg : VehMsg) (s : State) : Out :=
  let s1 := s.tick dt
  let k := n % 8
  let v := s1.otl k
  let st := s1.oState k
  if st < 3 ∨ 8 ≤ st then .next s1
  else
    match msg with
    | .params sv vm pm =>
      if !s1.serviceOk k sv then .next s1
      else
      let s2 := s1.setOtl k { v with service := sv, vMax := vm, agreed := true }
      .next (((s2.setF (Reg.OUTL_O_EV k) Fld.OUTL_O_EV_V_MAX (min vm 0xFFFF)).setF (Reg.OUTL_O_EVI k) Fld.OUTL_O_EVI_P_EV_MAX
        (min pm 0xFFFF)).negotiated k)
    | .identified ok contract ref =>
      .next ((s1.setOtl k { v with auth := ok && (!contract || s1.contractOk k), custRef := ref }).negotiated k)
    | .cableCheck => .next ((s1.setOtl k { v with checkReq := true }).negotiated k)
    | .preCharge t =>
      let s2 := (s1.setOtl k { v with preTgt := t, vTgt := t }).setF (Reg.OUTL_O_EV k) Fld.OUTL_O_EV_V_TGT (min t 0xFFFF)
      .next (if st = 6 then s2.setStg k { s2.stg k with vTgt := t } else s2)
    | .startTransfer => .next ((s1.setOtl k { v with startReq := true }).precharged k)
    | .demand t i =>
      let s2 := (s1.setOtl k { v with vTgt := t, iReq := i }).setF (Reg.OUTL_O_EV k) Fld.OUTL_O_EV_V_TGT (min t 0xFFFF)
      .next (if st = 7 then s2.demand k else s2)
    | .stop => .next (s1.endCause k 1)

/-! ### Pre-check, cable check, weld check (R474 to R476) -/

/-- PRECHECK_WINDOW (R474): CHK_WIN after both contactors report closed, V_out against V_0 / 2. -/
def execPrecheckWindow (dt : Nat) (n : Nat) (s : State) : Out :=
  let s1 := s.tick dt
  let k := n % 8
  let v := s1.otl k
  if s1.oState k = 4 ∧ v.step = 4 ∧ v.ending = 0
      ∧ Config.usec (100 * s1.fld (Reg.OUTL_O_CHK k) Fld.OUTL_O_CHK_CHK_WIN) ≤ s1.since v.stepAt then
    if v.vZero ≤ 2 * s1.vOut k then
      let vcc := min v.vMax (10 * s1.fld (Reg.OUTL_O_RATED k) Fld.OUTL_O_RATED_V_RATED)
      .next (((s1.enterO k 5).stepO k 1).stageStart k false vcc 0 v.vMax 0)
    else .next ((s1.post Ev.OUTL_PRECHECK_FAIL k).endCause k 9)
  else .next s1

/-- CABLE_CHECK_SETTLED (R475): IMD_OK active for CC_SETTLE while the stage holds: STOP, and DISCH on. -/
def execCableCheckSettled (dt : Nat) (n : Nat) (s : State) : Out :=
  let s1 := s.tick dt
  let k := n % 8
  let v := s1.otl k
  if s1.oState k = 5 ∧ v.step = 1 ∧ v.ending = 0
      ∧ s1.lasted v.holdAt (Config.msec (100 * s1.fld (Reg.OUTL_O_CHK k) Fld.OUTL_O_CHK_CC_SETTLE)) then
    .next (((s1.stepO k 2).stageStop k).disch k true)
  else .next s1

/-- CABLE_CHECK_TIMEOUT (R475): no pass within CC_TMO of entry. -/
def execCableCheckTimeout (dt : Nat) (n : Nat) (s : State) : Out :=
  let s1 := s.tick dt
  let k := n % 8
  let v := s1.otl k
  if s1.oState k = 5 ∧ v.step = 1 ∧ v.ending = 0
      ∧ Config.sec (s1.fld (Reg.OUTL_O_TMO k) Fld.OUTL_O_TMO_CC_TMO) ≤ s1.since v.since then
    .next ((s1.post Ev.OUTL_ISO_FAULT k).endCause k 8)
  else .next s1

/-- ISOLATION_LOSS (R473): IMD_OK inactive for 100 ms in PRECHARGE or TRANSFER. -/
def execIsolationLoss (dt : Nat) (n : Nat) (s : State) : Out :=
  let s1 := s.tick dt
  let k := n % 8
  if (s1.oState k = 6 ∨ s1.oState k = 7) ∧ s1.lasted (s1.otl k).badAt (Config.msec 100) then .next (s1.endCause k 8) else .next s1

/-- IMD_WARN of an outlet takes a level; its change to active posts once (R473). -/
def State.warnLevel (s : State) (n : Nat) (on : Bool) : State :=
  let was := s.fld (Reg.OUTL_O_STAT n) Fld.OUTL_O_STAT_IMD_WARN == 1
  let s1 := s.setO n Fld.OUTL_O_STAT_IMD_WARN (flag on)
  if on && !was then s1.post Ev.OUTL_ISO_WARN n else s1

/-- IMD_WARN_ACTIVE (R473): a GPIO pad takes the level that is active for the IMD_WARN of the outlets that share it. -/
def execImdWarnActive (dt : Nat) (pad : Nat) (s : State) : Out :=
  let s1 := s.tick dt
  .next ((s1.usedOutlets.filter fun n => s1.parN (Par.imdWarn n) != 0 && (s1.parN (Par.imdWarn n) - 1) / 2 == pad).foldl
    (fun st n => st.warnLevel n true) s1)

/-- WELD_CHECK_TIMEOUT (R476): V_out not below 60 V within WELD_WIN. -/
def execWeldCheckTimeout (dt : Nat) (n : Nat) (s : State) : Out :=
  let s1 := s.tick dt
  let k := n % 8
  if s1.oState k = 9 ∧ 600 ≤ s1.vOut k
      ∧ Config.msec (10 * s1.fld (Reg.OUTL_O_CHK k) Fld.OUTL_O_CHK_WELD_WIN) ≤ s1.since (s1.otl k).since then
    .next ((s1.post Ev.OUTL_WELD k 10).endCause k 10)
  else .next s1

/-! ### Commands (R478, R480, R485) -/

/-- The cause of a FAULT has gone (R478). -/
def State.causeGone (s : State) (n : Nat) : Bool :=
  let r := s.reason n
  if r = 6 then (s.goLatches n).isEmpty
  else if r = 7 then s.stgState n != 7
  else if r = 8 then s.fld (Reg.OUTL_O_STAT n) Fld.OUTL_O_STAT_IMD_OK == 1
  else if r = 11 ∨ r = 10 then s.contactorsOpen n
  else true

/-- A command of R485 without effect. -/
def State.outlRefused (s : State) (n : Nat) : State := s.post Ev.OUTL_CMD_REFUSED n

/-- A write to OUTL_O_CTRL_n (R478, R480, R485). -/
def State.outlCtrlWrite (s : State) (acc : Access) (n : Nat) (val : Word) : State :=
  s.command acc (Reg.OUTL_O_CTRL n) .op fun s0 =>
    let b := fun i => val.getLsbD i
    if b 1 && b 2 then s0.postArg Ev.PARAM_REJECT (accArg acc (Reg.OUTL_O_CTRL n))
    else
      let s1 := if b 0 then
          let v := s0.otl n
          if 2 ≤ s0.oState n ∧ s0.oState n ≤ 7 ∧ v.ending = 0 then s0.endCause n 2 else (s0.endCause n 2).outlRefused n
        else s0
      let s2 := if b 1 then
          if (s1.otl n).disabled then s1.outlRefused n else (s1.setOtl n { s1.otl n with disabled := true }).signalStep n
        else s1
      let s3 := if b 2 then
          if (s2.otl n).disabled then (s2.setOtl n { s2.otl n with disabled := false }).signalStep n else s2.outlRefused n
        else s2
      if b 3 then
        if s3.oState n = 11 ∧ s3.sig n = 0 ∧ s3.causeGone n ∧ (s3.reason n ≠ 10 ∨ acc.role = .service) then s3.outletFree n
        else s3.outlRefused n
      else s3

/-- OUTL_STOP (R478). -/
def execOutlStop (dt : Nat) (acc : Access) (n : Nat) (val : Word) (s : State) : Out :=
  .next ((s.tick dt).outlCtrlWrite acc (n % 8) val)

/-- OUTL_DISABLE (R480). -/
def execOutlDisable (dt : Nat) (acc : Access) (n : Nat) (val : Word) (s : State) : Out :=
  .next ((s.tick dt).outlCtrlWrite acc (n % 8) val)

/-- OUTL_ENABLE (R480). -/
def execOutlEnable (dt : Nat) (acc : Access) (n : Nat) (val : Word) (s : State) : Out :=
  .next ((s.tick dt).outlCtrlWrite acc (n % 8) val)

/-- OUTL_ACK_FAULT (R485). -/
def execOutlAckFault (dt : Nat) (acc : Access) (n : Nat) (val : Word) (s : State) : Out :=
  .next ((s.tick dt).outlCtrlWrite acc (n % 8) val)

/-- A write to OUTL_CLR. -/
def State.outlClrWrite (s : State) (acc : Access) (val : Word) : State :=
  s.command acc Reg.OUTL_CLR .op fun s1 =>
    if fget Fld.OUTL_CLR_CLEAR val = 1 then (List.range 8).foldl (fun st n => st.clearCount (Reg.OUTL_O_CNT n)) s1 else s1

/-- OUTL_CLR (R478). -/
def execOutlClr (dt : Nat) (acc : Access) (val : Word) (s : State) : Out := .next ((s.tick dt).outlClrWrite acc val)

/-! ### A base cycle of the sessions -/

/-- A GPIO input at its active level: setting 1 + 2 × pad + level. -/
def gpioActive (gpio cfg : Nat) : Bool := cfg != 0 && (gpio.testBit ((cfg - 1) / 2) == ((cfg - 1) % 2 == 1))

/-- The insulation monitor's inputs in a cycle (R473, R475). -/
def State.imdStep (s : State) (gpio n : Nat) : State :=
  let ok := gpioActive gpio (s.parN (Par.imdOk n))
  let s1 := (s.setO n Fld.OUTL_O_STAT_IMD_OK (flag ok)).warnLevel n (gpioActive gpio (s.parN (Par.imdWarn n)))
  let v := s1.otl n
  s1.setOtl n { v with okAt := s1.track v.okAt ok, badAt := s1.track v.badAt (!ok && (s1.oState n == 6 || s1.oState n == 7)),
                       holdAt := s1.track v.holdAt (ok && s1.stgState n == 2 && s1.oState n == 5) }

/-- The steps that a cycle's measurements decide: PRECHECK, CABLE_CHECK, PRECHARGE, WIND_DOWN, WELD_CHECK, DISCH (R474 to
R479). -/
def State.sessionStep (s : State) (n : Nat) : State :=
  let v := s.otl n
  let st := s.oState n
  let sg := s.stgState n
  if st = 4 ∧ v.ending = 0 ∧ v.step = 1 then
    if sg = 5 ∨ sg = 7 then s.endCause n 7 else if sg = 2 then (s.stepO n 2).stageStop n else s
  else if st = 4 ∧ v.ending = 0 ∧ v.step = 2 then
    if sg = 0 then ((s.setOtl n { v with vZero := s.vOut n }).stepO n 3).contactors n true else s
  else if st = 5 ∧ v.ending = 0 ∧ v.step = 2 then
    if sg = 0 ∧ s.vOut n < v.preTgt then ((s.disch n false).enterO n 6).stageStart n false v.preTgt 0 v.vMax 0 else s
  else if st = 6 then s.precharged n
  else if st = 8 ∧ v.ending = 1 ∧ v.cmd = true ∧ s.belowBreak n = false ∧ s.emergTmo n ≤ s.since v.stopAt then s.endCause n 7
  else if st = 9 then
    if s.vOut n < 600 then s.endDone n else s
  else if st = 7 then s.direction n
  else if (st ≤ 1 ∨ 10 ≤ st) ∧ s.vOut n < 600 then s.disch n false
  else s

/-- The stage's trip and lockout as end causes (R478, R483). -/
def State.stageCauses (s : State) (n : Nat) : State :=
  let st := s.oState n
  if 2 ≤ st ∧ st ≤ 8 ∧ (s.otl n).ending ≠ 2 then
    if s.stgState n = 6 then s.endCause n 6 else if s.stgState n = 7 then s.endCause n 7 else s
  else s

/-- The sessions' part of a base-cycle boundary, after the stages' (R478 to R482); none runs in orphan control (R483). -/
def State.outlBoundary (s : State) (gpio : Nat) : State :=
  if s.keep.orphan then s
  else
    s.usedOutlets.foldl (fun st n =>
      ((((((st.countEnd n).imdStep gpio n).stageCauses n).signalStep n).negotiated n).sessionStep n).contactorStep n) s

/-- Orphan control and SAFE_HOLD take the close outputs and DISCH to inactive (R483). -/
def State.outlOrphan (s : State) : State :=
  s.usedOutlets.foldl (fun st n => (st.setOtl n { st.otl n with cmd := false, cmdAt := none }).disch n false) s

/-- What a load leaves of the outlets that the running image does not use: nothing (R10). -/
def State.outletsLoad (s : State) : State :=
  ((List.range 8).filter fun n => s.oKind n == 0).foldl (fun (st : State) n =>
    { st with outl := { st.outl with outlets := SMap.erase st.outl.outlets n },
              cool := { st.cool with outlets := SMap.erase st.cool.outlets n },
              outs := { st.outs with stages := SMap.erase st.outs.stages n } }) s

/-- After the restart every session ends with reason INHIBIT (R483). -/
def State.outlRestart (s : State) : State := s.usedOutlets.foldl (fun st n => st.endCause n 12) s

end Sys2Proof.Machine
end

