-- ==== Sys2Proof/Machine/Aloc.lean ====
section
/-! DEFINITION. Site power allocation: budgets, caps, the fill, the tick (R414 to R440). Budgets and caps are exact rational
numbers of kW. -/

namespace Sys2Proof.Machine

open Sys2Proof

/-! ### Published slots (R228, R438) -/

/-- A number of the last publication that the tick holds of a slot, whose setting is 1 + its number; the live value where the image names no
slot or the slot has brought nothing yet. -/
def State.pubRead (s : State) (cfg k : Nat) (live : Rat) : Rat :=
  if cfg = 0 then live else (s.aloc.pubs.find? fun e => e.1 == cfg - 1).elim live fun e => e.2.2.getD k live

/-- Counts since a slot's last publication by a completed cycle; the slot's setting is 1 + its number, 0 where the image names none. -/
def State.pubAge (s : State) (cfg : Nat) : Nat :=
  if cfg = 0 then 0
  else match s.aloc.pubs.find? fun e => e.1 == cfg - 1 with
    | some e => s.since e.2.1
    | none => s.since s.aloc.runAt

/-- A slot is stale: more than 1 ms (R438). -/
def State.pubStale (s : State) (cfg : Nat) : Bool := decide (Config.msec 1 < s.pubAge cfg)

/-- Counts of staleness of an outlet's slots; 0 while none is stale. -/
def State.outStale (s : State) (n : Nat) : Nat :=
  max (s.pubAge (s.parN (Par.outSlot n 0))) (s.pubAge (s.parN (Par.outSlot n 1))) - Config.msec 1

/-! ### Site budgets (R421 to R428) -/

/-- Q in kW. -/
def State.quantum (s : State) : Nat := max 1 (s.fld Reg.ALOC_CFG Fld.ALOC_CFG_QUANTUM)
/-- η_S. -/
def State.etaS (s : State) : Rat := (s.fld Reg.ALOC_EFF Fld.ALOC_EFF_EFF_SITE : Rat) / 1000
/-- η_O. -/
def State.etaO (s : State) : Rat := (s.fld Reg.ALOC_EFF Fld.ALOC_EFF_EFF_OS : Rat) / 1000
/-- P_AUX in kW. -/
def State.pAux (s : State) : Rat := (s.fld Reg.ALOC_SITE Fld.ALOC_SITE_P_AUX : Rat)
/-- The grant of an outlet in quanta. -/
def State.grant (s : State) (n : Nat) : Int := s.fldS (Reg.ALOC_O_GRANT n) Fld.ALOC_O_GRANT_GRANT

/-- The available grid-side import (0) or export (1) in kW that the transformer loops publish (R360): from RUN on (R376), and 0 once the
transformer stops (R379). -/
def State.gridRoom (s : State) (k : Nat) : Rat :=
  if s.ladder = 6 ∨ s.ladder = 7 then s.pubRead (s.parN (Par.sstSlot k)) 0 0 else 0

/-- Counts from a die's sample instant to now; none where the instant lies ahead. -/
def State.ageOf (s : State) (ts : Count) : Nat := if s.tm.ts ≤ ts then 0 else (s.tm.ts - ts).toNat

/-- b_grid (R421). -/
def State.bGrid (s : State) : Rat :=
  let cap : Rat := (s.fld Reg.ALOC_GRID Fld.ALOC_GRID_IMPORT_CAP : Rat)
  let top := if s.sstUsed then min cap (s.gridRoom 0) else cap
  (top - s.pAux) * s.etaS

/-- E_LIM × (1 − MARGIN / 100) in kWh. -/
def State.eLim (s : State) : Rat :=
  (s.fld Reg.ALOC_DEMAND Fld.ALOC_DEMAND_E_LIM : Rat) / 10 * (100 - (s.fld Reg.ALOC_DEMAND Fld.ALOC_DEMAND_MARGIN : Rat)) / 100

/-- The demand data is stale (R423). -/
def State.demStale (s : State) : Bool := s.fld Reg.ALOC_STAT Fld.ALOC_STAT_DEM_STALE == 1

/-- The module's own estimate of the grid import in W (R423). -/
def State.gridEstimate (s : State) : Int :=
  if s.sstUsed then 1000 * s.fldS Reg.SST_GRID_PQ Fld.SST_GRID_PQ_P
  else ((((s.outlets.map s.grant).foldl (· + ·) 0 : Int) * s.quantum : Rat) * 1000 / s.etaS + 1000 * s.pAux).floor

/-- µWh of a power in W over some counts. -/
def microWh (p : Int) (counts : Nat) : Int := p * counts / 14400000

/-- E_est at a tick (R422, R423): from the latest result while it is fresh; while stale it integrates the module's own estimate, and
restarts at the carried end of the interval. -/
def State.estimate (s : State) : State :=
  match s.aloc.last with
  | none => s
  | some d =>
    let ts := s.tm.ts
    let a := s.aloc
    let a1 := if s.demStale then { a with eEst := a.eEst + microWh s.gridEstimate (s.since a.tickAt) }
      else { a with eEst := d.eUsed + microWh d.pGrid (s.since a.sampleAt), endTs := d.endTs }
    let late := (ts - a1.endTs).toNat
    let a2 := if s.demStale ∧ 0 < d.len ∧ a1.endTs ≤ ts then
        { a1 with eEst := microWh s.gridEstimate (late % d.len), endTs := ts + BitVec.ofNat 64 (d.len - late % d.len) }
      else a1
    { s with aloc := { a2 with tickAt := s.tm.mono } }

/-- t_rem in counts. -/
def State.tRem (s : State) : Nat := if s.aloc.endTs ≤ s.tm.ts then 0 else (s.aloc.endTs - s.tm.ts).toNat

/-- Hours of some counts. -/
def hours (n : Nat) : Rat := (n : Rat) / (Config.sec 3600 : Rat)

/-- P_dem in kW (R422, R423). -/
def State.pDem (s : State) : Rat :=
  match s.aloc.last with
  | none => s.eLim / ((max 1 (s.fld Reg.BILL_DEM_CFG Fld.BILL_DEM_CFG_DEM_LEN) : Rat) / 60)
  | some d =>
    let p := max 0 ((s.eLim - (s.aloc.eEst : Rat) / 1000000000) / hours (max s.tRem (Config.sec 10)))
    if s.demStale then min p (s.eLim / hours (max d.len 1)) else p

/-- b_dem, where it is formed (R422). -/
def State.bDem (s : State) : Option Rat :=
  if s.fld Reg.ALOC_DEMAND Fld.ALOC_DEMAND_DEM_EN = 1 then some ((s.pDem - s.pAux) * s.etaS) else none

/-- k_i of a cell (R425). -/
def State.kCell (s : State) (c : Nat) : Nat := min s.activeCells.length (3 * (s.cellsIn (c / 32) [2]).length)

/-- P_c of a cell in kW: the larger of its front-end and DAB shares (R424). -/
def State.pCell (s : State) (c : Nat) : Rat := (s.sst.pDab.natAbs : Rat) / (max 1 (s.kCell c) : Rat)

/-- P_LOSS in W, T_J in 0.01 °C and G of a cell as the transformer loops form them (R424). -/
def State.cellTerms (s : State) (c : Nat) : List Rat :=
  let l := fun k => (s.par (Par.cellLoss k) : Rat)
  let p := s.pCell c
  let loss := l 0 / 1000 + l 1 / 1000 * p + l 2 / 1000000 * p * p
  let r := l 3 / 1000000
  let g := max (1 / 1000) (r * (l 1 / 1000 + 2 * (l 2 / 1000000) * p))
  let hs : Rat := (max (s.cell c).tempH (s.cell c).tempD : Int)
  [loss, hs + 100 * r * loss, g]

/-- P_LOSS, T_J in 0.01 °C and G of a cell as published (R424); a stale slot gives T_J_MAX (R438). -/
def State.junction (s : State) (c : Nat) : Rat × Rat × Rat :=
  let cfg := s.parN (Par.cellSlot c)
  let at' := fun k => s.pubRead cfg k ((s.cellTerms c).getD k 0)
  (at' 0, if s.pubStale cfg then 10 * (s.fldS Reg.ALOC_SITE Fld.ALOC_SITE_T_J_MAX : Rat) else at' 1, at' 2)

/-- The headroom that one cell gives, in kW (R425). -/
def State.cellRoom (s : State) (c : Nat) : Rat :=
  let j := s.junction c
  (s.kCell c : Rat) * ((10 * (s.fldS Reg.ALOC_SITE Fld.ALOC_SITE_T_J_MAX : Rat) - j.2.1) / 100) / j.2.2

/-- H_J and the cell that gives it (R425). -/
def State.headroom (s : State) : Option (Nat × Rat) :=
  (s.activeCells.map fun c => (c, s.cellRoom c)).foldl (fun (b : Option (Nat × Rat)) (e : Nat × Rat) =>
    match b with
    | none => some e
    | some q => if e.2 < q.2 then some e else b) none

/-- b_junc, where it is formed (R425). -/
def State.bJunc (s : State) : Option Rat :=
  if s.sstUsed then s.headroom.map fun h => ((s.sst.pDab.natAbs : Rat) + h.2) * s.etaO else none

/-- floor(max(0, v) / Q) in quanta. -/
def State.quanta (s : State) (v : Rat) : Nat := (max 0 v / (s.quantum : Rat)).floor.toNat

/-- The sum of the positive grants of the previous tick. -/
def State.gPrev (s : State) : Nat := (s.outlets.map fun n => (s.grant n).toNat).foldl (· + ·) 0

/-- C_net for some export quanta (R428). -/
def State.cNet (s : State) (hs : Nat) : Rat :=
  if s.fld Reg.ALOC_CFG Fld.ALOC_CFG_NET_EN = 1 then (hs * s.quantum : Nat) * s.etaO * s.etaO else 0

/-- B, the term that sets it (R426): the budgets in the order GRID, DEMAND, JUNCTION, then RAMP. -/
def State.importBudget (s : State) (hs : Nat) : Nat × Nat :=
  let terms : List (Nat × Option Rat) := [(1, some s.bGrid), (2, s.bDem), (3, s.bJunc)]
  let formed := terms.filterMap fun e => e.2.map fun v => (e.1, v)
  let best := formed.foldl (fun (b : Nat × Rat) (e : Nat × Rat) => if e.2 < b.2 then e else b) (1, s.bGrid)
  let v := s.quanta (best.2 + s.cNet hs)
  let q := s.quantum
  let ramp := s.gPrev + (s.fld Reg.ALOC_CFG Fld.ALOC_CFG_SITE_RAMP + q - 1) / q
  if ramp < v then (ramp, 4) else (v, best.1)

/-- X (R427). -/
def State.exportBudget (s : State) : Nat :=
  let tgt := s.fld Reg.ALOC_EXPORT Fld.ALOC_EXPORT_EXPORT_TGT
  if tgt = 0 then 0
  else
    let cap : Rat := (min tgt (s.fld Reg.ALOC_GRID Fld.ALOC_GRID_EXPORT_CAP) : Nat)
    let top := if s.sstUsed then min cap (s.gridRoom 1) else cap
    let grid := (top + s.pAux) / max s.etaS (1 / 1000)
    s.quanta (match s.bJunc with | some j => min grid j | none => grid)

/-! ### Outlet caps (R429 to R433) -/

/-- The outlet takes part in a tick, importing (false) or exporting (true) (R418). -/
def State.eligible (s : State) (exp : Bool) (n : Nat) : Bool :=
  s.oState n == 7 && (s.otl n).ending == 0 && (s.stgState n == 2 || s.stgState n == 3) && !s.outletHeld n
    && (s.stg n).exporting == exp && (!exp || s.bidir n)

/-- Class of an outlet (R419). -/
def State.oClass (s : State) (n : Nat) : Nat := s.fld (Reg.ALOC_O_CFG n) Fld.ALOC_O_CFG_CLASS

/-- I_CAP in A of an outlet as published (R399, R429). -/
def State.iCapAt (s : State) (n : Nat) : Rat :=
  s.pubRead (s.parN (Par.outSlot n 0)) 0 (s.fld (Reg.OUTS_O_CAP n) Fld.OUTS_O_CAP_I_CAP)

/-- I_TC in A of an outlet as published (R429, R650). -/
def State.iTcAt (s : State) (n : Nat) : Rat :=
  s.pubRead (s.parN (Par.outSlot n 1)) 0 (s.fld (Reg.COOL_O_TC n) Fld.COOL_O_TC_I_TC)

/-- The kW of some amperes at V_n, V_out,n as published (R429). -/
def State.kwAt (s : State) (n : Nat) (amps : Rat) : Rat :=
  amps * max (s.pubRead (s.parN (Par.outSlot n 0)) 1 (s.vOut n)) 1500 / 10000

/-- P_EV (R429, R432). -/
def State.pEv (s : State) (n : Nat) : Rat :=
  min (s.kwAt n (s.fld (Reg.OUTL_O_EVI n) Fld.OUTL_O_EVI_I_EV)) (s.fld (Reg.OUTL_O_EVI n) Fld.OUTL_O_EVI_P_EV_MAX : Rat)

/-- The terms of an outlet's cap in kW, with their codes in LIMIT, in the order of R433; an outlet without a cable has no cable term. -/
def State.capTerms (s : State) (exp : Bool) (n : Nat) : List (Nat × Rat) :=
  let lim := s.rd (Reg.ALOC_O_LIM n)
  let pmax : Rat := if exp then (fget Fld.ALOC_O_LIM_P_EXP_MAX lim : Rat) else (fget Fld.ALOC_O_LIM_P_MAX lim : Rat)
  [(1, s.kwAt n (s.iCapAt n))]
    ++ (if s.par (Par.coolKind n) = 0 then [] else [(2, s.kwAt n (s.iTcAt n))])
    ++ [(3, s.pEv n), (4, pmax), (5, s.kwAt n (s.parN (Par.outRated n)))]

/-- PL (R430). -/
def State.priceLevel (s : State) : Nat :=
  let r := s.rd Reg.ALOC_PRICE
  if fget Fld.ALOC_PRICE_SRC r = 0 then fget Fld.ALOC_PRICE_LEVEL r
  else fget ⟨4 * (s.aloc.last.elim 0 fun d => d.tariff % 8), 4⟩ (s.rd Reg.ALOC_PRICE_TAB)

/-- The minimum term, the first of those that share it. -/
def leastTerm (l : List (Nat × Rat)) : Nat × Rat :=
  l.foldl (fun (b : Nat × Rat) (e : Nat × Rat) => if e.2 < b.2 then e else b) (l.headD (1, 0))

/-- An outlet's cap in quanta and the term that sets it (R430 to R433, R438). -/
def State.outletCap (s : State) (exp : Bool) (n : Nat) : Nat × Nat :=
  let c := s.rd (Reg.ALOC_CLASS (s.oClass n))
  let t := leastTerm (s.capTerms exp n)
  let price : Rat := (fget Fld.ALOC_CLASS_MIN_Q c * s.quantum : Nat)
  let (why, kw) := if !exp && decide (fget Fld.ALOC_CLASS_PRICE_THR c < s.priceLevel) && decide (price ≤ t.2) then (6, price) else t
  let prev := (if exp then -(s.grant n) else s.grant n).toNat
  let ramp := prev + s.fld (Reg.ALOC_O_CFG n) Fld.ALOC_O_CFG_RAMP_UP
  let q := s.quanta kw
  let (cap, code) := if ramp ≤ q then (ramp, 7) else (q, why)
  let age := s.outStale n
  if age = 0 then (cap, code)
  else
    let top := if Config.sec 1 ≤ age then 0 else prev
    if top ≤ cap then (top, 9) else (cap, code)

/-! ### The fill (R434 to R436) -/

/-- An outlet that takes part in a fill: its number, cap, weight and class. -/
structure Filler where
  n : Nat
  cap : Nat
  weight : Nat
  cls : Nat
  deriving DecidableEq, Repr

/-- The outlet that the next quantum goes to, and whether it was contested. -/
def fillPick (set : List Filler) (h : SMap Nat) (ptr : Nat) : Option (Nat × Bool) :=
  let at' := fun f : Filler => SMap.get (fun _ => 0) h f.n
  let e := set.filter fun f => decide (at' f < f.cap)
  let low := e.filter fun f => e.all fun g => decide (at' f * g.weight ≤ at' g * f.weight)
  let t := low.filter fun f => low.all fun g => decide (g.cls ≤ f.cls)
  match t with
  | [] => none
  | [f] => some (f.n, false)
  | f :: _ => some (((t.map Filler.n).find? fun i => decide (ptr ≤ i)).getD f.n, true)

/-- A fill of b quanta: the shares, the budget left and the pointer (R436). -/
def fill : Nat → List Filler → SMap Nat → Nat → SMap Nat × Nat × Nat
  | 0, _, h, ptr => (h, 0, ptr)
  | b + 1, set, h, ptr =>
    match fillPick set h ptr with
    | none => (h, b + 1, ptr)
    | some (n, contested) =>
      fill b set (SMap.put (fun _ => 0) h n (SMap.get (fun _ => 0) h n + 1)) (if contested then (n + 1) % 8 else ptr)

/-- Outlets as fillers towards a cap. -/
def State.fillers (s : State) (ns : List Nat) (cap : Nat → Nat) (weighted : Bool) : List Filler :=
  ns.map fun n => ⟨n, cap n, if weighted then max 1 (s.fld (Reg.ALOC_CLASS (s.oClass n)) Fld.ALOC_CLASS_WEIGHT) else 1, s.oClass n⟩

/-- MIN_Q of an outlet's class. -/
def State.minQ (s : State) (n : Nat) : Nat := s.fld (Reg.ALOC_CLASS (s.oClass n)) Fld.ALOC_CLASS_MIN_Q

/-! ### The tick -/

/-- What a tick shows of one outlet (R433). -/
def State.showGrant (s : State) (n : Nat) (g : Int) (cap lim : Nat) : State :=
  let r := Reg.ALOC_O_GRANT n
  let s1 := ((s.setFS r Fld.ALOC_O_GRANT_GRANT g).setF r Fld.ALOC_O_GRANT_CAP (min cap 0xFFF)).setF r Fld.ALOC_O_GRANT_LIMIT
    (if lim ≠ 8 ∧ g.natAbs < cap then 0 else lim)
  let w := fun v : Rat => min v.floor.toNat 0xFFFF
  let itc := s.iTcAt n
  let s2 := s1.wr (Reg.ALOC_O_IN n) (BitVec.ofNat 32 (w (s.pEv n) * 65536 + w (s.kwAt n itc)))
  s2.wr (Reg.ALOC_O_IN2 n) (BitVec.ofNat 32 (w (s.kwAt n (s.iCapAt n)) * 65536 + w itc))

/-- The minimum share of an outlet met or not (R437). -/
def State.minShare (s : State) (h : SMap Nat) (n cap : Nat) : State :=
  let met := decide (min cap (s.minQ n) ≤ SMap.get (fun _ => 0) h n)
  let was := s.aloc.unmet.contains n
  if met then (if was then { s with aloc := { s.aloc with unmet := s.aloc.unmet.filter (· != n) } } else s)
  else if was then s
  else ({ s with aloc := { s.aloc with unmet := n :: s.aloc.unmet } }).post Ev.ALOC_MIN_UNMET n

/-- A budget as ALOC_BUD_k shows it. -/
def budWord (v : Option Rat) : Word :=
  match v with
  | some x => BitVec.ofInt 32 (clampInt (-2147483648) 2147483646 x.floor)
  | none => 0x7FFFFFFF

/-- Stale slots of a tick (R438). -/
def State.anyStale (s : State) : Bool :=
  (s.outlets.any fun n => s.pubStale (s.parN (Par.outSlot n 0)) || s.pubStale (s.parN (Par.outSlot n 1)))
    || (s.sstUsed && ((s.activeCells.any fun c => s.pubStale (s.parN (Par.cellSlot c)))
      || s.pubStale (s.parN (Par.sstSlot 0)) || s.pubStale (s.parN (Par.sstSlot 1))))

/-- The counts and flags of a tick (R423, R438, R439). -/
def State.tickCounts (s : State) (dur : Nat) : State :=
  let stale := s.anyStale
  let was := s.fld Reg.ALOC_STAT Fld.ALOC_STAT_PUB_STALE == 1
  let s1 := s.setF Reg.ALOC_STAT Fld.ALOC_STAT_PUB_STALE (flag stale)
  let s2 := if stale then s1.bump Reg.ALOC_CNT Fld.ALOC_CNT_PUB_STALE else s1
  let s3 := if stale && !was then s2.post Ev.ALOC_PUB_STALE else s2
  let s4 := if s3.demStale then s3.bump Reg.ALOC_CNT Fld.ALOC_CNT_DEM_STALE else s3
  let s5 := s4.wr Reg.ALOC_TICK (s4.rd Reg.ALOC_TICK + 1)
  (s5.setF Reg.ALOC_TTIME Fld.ALOC_TTIME_LAST (min dur 0xFFFF)).peak Reg.ALOC_TTIME Fld.ALOC_TTIME_MAX dur

/-- What a tick shows of the budgets. -/
def State.showBudgets (s : State) (b x binding hs : Nat) : State :=
  let q : Int := s.quantum
  let s1 := ((((s.wr (Reg.ALOC_BUD 0) (budWord (some s.bGrid))).wr (Reg.ALOC_BUD 1) (budWord s.bDem)).wr (Reg.ALOC_BUD 2)
    (budWord s.bJunc)).wr (Reg.ALOC_BUD 3) (BitVec.ofInt 32 (b * q))).wr (Reg.ALOC_BUD 4) (BitVec.ofInt 32 (x * q))
  let st := Reg.ALOC_STAT
  let s2 := (((s1.setF st Fld.ALOC_STAT_BINDING binding).setF st Fld.ALOC_STAT_NET (flag (decide (0 < s.cNet hs)))).setF st
    Fld.ALOC_STAT_DEM_ON (flag s.bDem.isSome)).setF st Fld.ALOC_STAT_BUDGET (min b 0xFFFF)
  let s3 := (s2.setF Reg.ALOC_DEM_STAT Fld.ALOC_DEM_STAT_T_REM
    (if s.aloc.last.isSome then min (s.tRem / Config.sec 1) 0xFFF else 0)).setF Reg.ALOC_DEM_STAT Fld.ALOC_DEM_STAT_P_DEM
    (min s.pDem.floor.toNat 0xFFFFF)
  let s4 := s3.wr Reg.ALOC_DEM_E (BitVec.ofInt 32 (max 0 (s.aloc.eEst / 1000000)))
  let loss := (s.activeCells.map fun c => (s.junction c).1).foldl (· + ·) 0
  let cell := if s.bJunc.isSome then s.headroom.elim 0xFF fun h => h.1 else 0xFF
  (s4.setF Reg.ALOC_JUNC_STAT Fld.ALOC_JUNC_STAT_CELL cell).setF Reg.ALOC_JUNC_STAT Fld.ALOC_JUNC_STAT_LOSS
    (min (loss / 1000).floor.toNat 0xFFFF) |>.setF Reg.ALOC_PRICE Fld.ALOC_PRICE_PL s.priceLevel

/-- What a published slot of the image carries when its tile completes a cycle (R228, R399, R424): the words of the cell or the outlet that it
belongs to, else the word published. -/
def State.slotVals (s : State) (slot : Nat) (w : Word) : List Rat :=
  match (List.range 96).find? fun c => s.parN (Par.cellSlot c) == slot + 1 with
  | some c => s.cellTerms c
  | none =>
    match s.outlets.find? fun n => s.parN (Par.outSlot n 0) == slot + 1 with
    | some n => [(s.fld (Reg.OUTS_O_CAP n) Fld.OUTS_O_CAP_I_CAP : Rat), (s.vOut n : Rat)]
    | none =>
      match s.outlets.find? fun n => s.parN (Par.outSlot n 1) == slot + 1 with
      | some n => [(s.fld (Reg.COOL_O_TC n) Fld.COOL_O_TC_I_TC : Rat)]
      | none => [(w.toInt : Rat)]

/-- TILE_END (R200, R228): the tile's cycle completes and its slots' values stand published. -/
def execTileEnd (dt : Nat) (x : Side) (n : Nat) (s : State) : Out :=
  let s1 := s.tick dt
  if !s1.tileRuns x n then .next s1
  else
    let pubs := (s1.tileOp x n fun _ t => t).tile x n |>.pubs
    let s2 := s1.tileEnd x n
    .next { s2 with loop := { s2.loop with
      pubVals := pubs.foldl (fun (m : SMap (List Rat)) (e : Nat × Word) => SMap.insert m (sideKey x e.1) (s2.slotVals e.1 e.2)) s2.loop.pubVals } }

/-- The publications that a tick takes (R186, R228, R232): the serving side's, each once; one under an epoch that its tile's mapping no longer
has is discarded at the fence and counted, and the tick keeps what it held. -/
def State.takePubs (s : State) : State :=
  let mine := s.loop.pubBy.filter fun e => e.1 / 65536 == s.serving.code
  let s1 := { s with loop := { s.loop with pubBy := s.loop.pubBy.filter fun e => e.1 / 65536 != s.serving.code } }
  mine.foldl (fun (t : State) (e : Nat × Nat × Nat) =>
    if e.2.2 ≠ t.epoch (plTile e.2.1) then t.fenceDiscard 4096
    else
      let got := (SMap.get (fun _ => 0) t.loop.pubAt e.1, SMap.get (fun _ => []) t.loop.pubVals e.1)
      { t with aloc := { t.aloc with pubs := SMap.insert t.aloc.pubs (e.1 % 65536) got } }) s1

/-- A tick (R436). -/
def State.allocTick (s0 : State) (dur : Nat) : State :=
  let s := s0.takePubs.estimate
  let exps := s.outlets.filter (s.eligible true)
  let imps := s.outlets.filter (s.eligible false)
  let vcap := fun n => (s.outletCap true n).1
  let ucap := fun n => (s.outletCap false n).1
  let x := s.exportBudget
  let (h0, _, p0) := fill x (s.fillers exps vcap true) [] s.aloc.ptr
  let hs := (h0.map fun e => e.2).foldl (· + ·) 0
  let (b, why) := s.importBudget hs
  let (h1, b1, p1) := [3, 2, 1, 0].foldl (fun (a : SMap Nat × Nat × Nat) c =>
    fill a.2.1 (s.fillers (imps.filter fun n => s.oClass n == c) (fun n => min (ucap n) (s.minQ n)) false) a.1 a.2.2) ([], b, p0)
  let (h2, _, p2) := fill b1 (s.fillers imps ucap true) h1 p1
  let caps := (imps.map ucap).foldl (· + ·) 0
  let st := imps.foldl (fun (t : State) n => t.minShare h1 n (ucap n)) { s with aloc := { s.aloc with ptr := p2 } }
  let st1 := st.outlets.foldl (fun (t : State) n =>
    if imps.contains n then t.showGrant n (SMap.get (fun _ => 0) h2 n : Nat) (ucap n) (s.outletCap false n).2
    else if exps.contains n then t.showGrant n (-((SMap.get (fun _ => 0) h0 n : Nat) : Int)) (vcap n) (s.outletCap true n).2
    else t.showGrant n 0 0 8) st
  let st2 := (st1.showBudgets b x (if caps ≤ b then 0 else why) hs).setF Reg.ALOC_STAT Fld.ALOC_STAT_ELIGIBLE
    (s.outlets.foldl (fun m n => withBit m n (imps.contains n || exps.contains n)) 0)
  { st2 with aloc := { st2.aloc with nextTick := s.since s.aloc.runAt / Config.msec 10 + 1 } }.tickCounts dur

/-- A safety cycle of this boundary has still to run in a channel: it comes before the tick (R35, R36, R510). -/
def State.safetyDue (s : State) : Bool :=
  (s.fld Reg.SAFE_STAT Fld.SAFE_STAT_CH_A != 0 || s.fld Reg.SAFE_STAT Fld.SAFE_STAT_CH_B != 0)
    && decide (s.safe.nextMs ≤ s.tm.cycleStart.toNat / Config.msec 1)

/-- An allocation tick falls on this boundary (R414): the first one at or after each multiple of 10 ms since entry to RUN; none in WATCH and
deeper (R706). -/
def State.tickDue (s : State) : Bool :=
  s.mode == 2 && decide (s.power < 2) && decide (s.aloc.nextTick ≤ s.since s.aloc.runAt / Config.msec 10)

/-- Entry to RUN (R414, R423): ticks count from this boundary with no grant of an earlier one, and the demand data is stale until a result
arrives; the rotating pointer stands where it was (R40). -/
def State.alocEntry (s : State) : State :=
  let s0 := s.outlets.foldl (fun (t : State) n => t.wr (Reg.ALOC_O_GRANT n) 8) s
  let s1 := { s0 with aloc := { AlocPart.reset with
    runAt := s.tm.mono, arrived := s.tm.mono, tickAt := s.tm.mono, ptr := s.aloc.ptr, unmet := s.aloc.unmet } }
  ((s1.wr Reg.ALOC_TICK 0).setF Reg.ALOC_STAT Fld.ALOC_STAT_DEM_STALE 1).post Ev.ALOC_METR_STALE

/-- METROLOGY_STALE (R423): 50 ms without a result. -/
def execMetrologyStale (dt : Nat) (s : State) : Out :=
  let s1 := s.tick dt
  if s1.mode = 2 ∧ s1.demStale = false ∧ Config.msec 50 ≤ s1.since s1.aloc.arrived then
    .next ((s1.setF Reg.ALOC_STAT Fld.ALOC_STAT_DEM_STALE 1).post Ev.ALOC_METR_STALE)
  else .next s1

/-- A result reaches the sides (R423): it replaces E_est and clears DEM_STALE. -/
def State.alocResult (s : State) (d : AlocData) : State :=
  let s1 := { s with aloc := { s.aloc with last := some d, arrived := s.tm.mono, sampleAt := s.tm.mono - BitVec.ofNat 64 (s.ageOf d.ts), eEst := d.eUsed, endTs := d.endTs } }
  s1.setF Reg.ALOC_STAT Fld.ALOC_STAT_DEM_STALE 0

/-- A flip of QUANTUM converts the grants (R420). -/
def State.alocQuantum (s : State) (old : Nat) : State :=
  if old = s.quantum then s
  else s.outlets.foldl (fun (t : State) n => t.setFS (Reg.ALOC_O_GRANT n) Fld.ALOC_O_GRANT_GRANT (t.grant n * old / s.quantum)) s

/-- A write to ALOC_CLR. -/
def State.alocClrWrite (s : State) (acc : Access) (val : Word) : State :=
  s.command acc Reg.ALOC_CLR .op fun s1 =>
    if fget Fld.ALOC_CLR_CLEAR val = 1 then
      (s1.clearCount Reg.ALOC_CNT).setF Reg.ALOC_TTIME Fld.ALOC_TTIME_MAX 0
    else s1

/-- ALOC_CLR (R439). -/
def execAlocClr (dt : Nat) (acc : Access) (val : Word) (s : State) : Out := .next ((s.tick dt).alocClrWrite acc val)

end Sys2Proof.Machine
end

