-- ==== Sys2Proof/Machine/Safe.lean ====
section
/-! DEFINITION. The Hedgerow safety functions (R486 to R520): two channels, the axes, the e-stop, contactor feedback, safety
frames and commissioning. -/

namespace Sys2Proof.Machine

open Sys2Proof

/-! ### Channels, axes, and a channel's own registers -/

/-- A channel's own instance of a status register: channel B's stands apart (R234). -/
def sideAddr (x : Side) (addr : Nat) : Nat := addr + 0x2000000 * x.code

/-- A channel's record. -/
def State.chan (s : State) (x : Side) : Chan := SMap.get (fun _ => Chan.reset) s.safe.chans x.code

/-- The state with a channel's record set. -/
def State.setChan (s : State) (x : Side) (v : Chan) : State :=
  { s with safe := { s.safe with chans := SMap.put (fun _ => Chan.reset) s.safe.chans x.code v } }

/-- An axis as a channel sees it. -/
def State.axis (s : State) (x : Side) (a : Nat) : Axis := SMap.get (fun _ => Axis.reset) s.safe.axes (x.code * 2 + a)

/-- The state with an axis of a channel set. -/
def State.setAxis (s : State) (x : Side) (a : Nat) (v : Axis) : State :=
  { s with safe := { s.safe with axes := SMap.put (fun _ => Axis.reset) s.safe.axes (x.code * 2 + a) v } }

/-- The field of SAFE_STAT that shows a channel. -/
def chField : Side → Field
  | .a => Fld.SAFE_STAT_CH_A
  | .b => Fld.SAFE_STAT_CH_B

/-- A channel's state: 0 OFF, 1 START, 2 DUAL, 3 SINGLE, 4 FAULT (R490). -/
def State.chState (s : State) (x : Side) : Nat := s.fld Reg.SAFE_STAT (chField x)

/-- The state with a channel's state set. -/
def State.setCh (s : State) (x : Side) (v : Nat) : State := s.setF Reg.SAFE_STAT (chField x) v

/-- The channels that run: not OFF. -/
def State.channels (s : State) : List Side := [Side.a, Side.b].filter fun x => s.chState x != 0

/-- The axes that the variant provides (R1). -/
def State.axisList (s : State) : List Nat := List.range (axesOf s.variant)

/-- A field of SAFE_AX_STAT_a in a channel. -/
def State.axF (s : State) (x : Side) (a : Nat) (f : Field) : Nat := s.fld (sideAddr x (Reg.SAFE_AX_STAT a)) f

/-- A field of SAFE_AX_STAT_a in a channel set. -/
def State.setAxF (s : State) (x : Side) (a : Nat) (f : Field) (v : Nat) : State := s.setF (sideAddr x (Reg.SAFE_AX_STAT a)) f v

/-- An axis's state in a channel: 0 TORQUE_OFF, 1 ENABLED, 2 STOPPING (R499). -/
def State.axState (s : State) (x : Side) (a : Nat) : Nat := s.axF x a Fld.SAFE_AX_STAT_STATE

/-- An axis's cause in a channel. -/
def State.axCause (s : State) (x : Side) (a : Nat) : Nat := s.axF x a Fld.SAFE_AX_STAT_CAUSE

/-- The pads and the summaries follow the axes: STOA, STOB, BRKA and BRKB in both channels, AX_ENABLED in each. -/
def State.showAxis (s : State) (a : Nat) : State :=
  let va := s.axis .a a
  let vb := s.axis .b a
  [Side.a, Side.b].foldl (fun st x =>
    let s1 := (st.setAxF x a Fld.SAFE_AX_STAT_STOA (flag va.sto)).setAxF x a Fld.SAFE_AX_STAT_STOB (flag vb.sto)
    let s2 := (s1.setAxF x a Fld.SAFE_AX_STAT_BRKA (flag va.brk)).setAxF x a Fld.SAFE_AX_STAT_BRKB (flag vb.brk)
    s2.setF (sideAddr x Reg.SAFE_STAT) Fld.SAFE_STAT_AX_ENABLED
      (withBit (s2.fld (sideAddr x Reg.SAFE_STAT) Fld.SAFE_STAT_AX_ENABLED) a (s2.axState x a == 1))) s

/-- An axis in a state, with its cause and its channel's own pads. -/
def State.axisTo (s : State) (x : Side) (a st cause : Nat) (sto brk : Bool) : State :=
  let s1 := (s.setAxF x a Fld.SAFE_AX_STAT_STATE st).setAxF x a Fld.SAFE_AX_STAT_CAUSE cause
  (s1.setAxis x a { s1.axis x a with sto := sto, brk := brk, brkDue := false, holdAt := none }).showAxis a

/-- TORQUE_OFF: the channel's own STO and brake pads de-energise at once (R494, R499). -/
def State.torqueOff (s : State) (x : Side) (a cause : Nat) : State := s.axisTo x a 0 cause false false

/-- Every axis of a channel in TORQUE_OFF. -/
def State.allOff (s : State) (x : Side) (cause : Nat) : State := s.axisList.foldl (fun st a => st.torqueOff x a cause) s

/-- STOPPING: STO and brake stay energised; the envelope of R501 starts at |v|, in 0.1 mm/s. -/
def State.stopping (s : State) (x : Side) (a cause v : Nat) : State :=
  let s1 := (s.setAxF x a Fld.SAFE_AX_STAT_STATE 2).setAxF x a Fld.SAFE_AX_STAT_CAUSE cause
  (s1.setAxis x a { s1.axis x a with vStop := v, stopAt := s1.tm.mono }).showAxis a

/-! ### Safety reactions (R517) -/

/-- What left ENABLED or entered FAULT since an earlier state: each makes one SAFE_REACTION and meets the SAFE watch; each channel
counts its own. -/
def State.reactions (s before : State) : State :=
  let left := fun x a => before.axState x a == 1 && s.axState x a != 1 && before.chState x != 0
  let count := fun (st : State) (x : Side) => st.bump (sideAddr x Reg.SAFE_CNT) Fld.SAFE_CNT_REACTIONS
  let s1 := s.axisList.foldl (fun st a =>
    let xs := [Side.a, Side.b].filter fun x => left x a
    match xs with
    | [] => st
    | x :: _ => xs.foldl count ((st.post Ev.SAFE_REACTION a (s.axCause x a)).watchSafe)) s
  [Side.a, Side.b].foldl (fun st x =>
    if before.chState x ≠ 4 ∧ s.chState x = 4 then
      let cause := if s.axCause x 0 = 0xC then 0xC else 0xB
      (count (st.bump (sideAddr x Reg.SAFE_CNT) Fld.SAFE_CNT_CROSS) x).post Ev.SAFE_REACTION 0xFFF cause x.code |>.watchSafe
    else st) s1

/-- An outlet is held or its session ended (R504, R505, R517): reason SAFETY. -/
def State.outletReaction (s : State) (n : Nat) : State :=
  let s1 := (s.post Ev.SAFE_REACTION (0x100 + n) 0).watchSafe
  let s2 := s1.channels.foldl (fun st x => st.bump (sideAddr x Reg.SAFE_CNT) Fld.SAFE_CNT_REACTIONS) s1
  s2.endCause n 14

/-! ### Safety connections (R507 to R511) -/

/-- A connection as a channel sees it. -/
def State.conn (s : State) (x : Side) (k : Nat) : Conn3 := SMap.get (fun _ => Conn3.reset) s.safe.conns (x.code * 16 + k)

/-- The state with a connection of a channel set. -/
def State.setConn (s : State) (x : Side) (k : Nat) (v : Conn3) : State :=
  { s with safe := { s.safe with conns := SMap.put (fun _ => Conn3.reset) s.safe.conns (x.code * 16 + k) v } }

/-- The parameter block uses connection k. -/
def State.connUsed (s : State) (k : Nat) : Bool := s.parN (Par.connId k) != 0

/-- Connection k is an RX connection. -/
def State.connRx (s : State) (k : Nat) : Bool := s.connUsed k && s.parN (Par.connDir k) == 1

/-- SAFE_CONN_STAT_k.STATE in a channel: 0 unused, 1 WAIT, 2 OK, 3 LOST. -/
def State.connState (s : State) (x : Side) (k : Nat) : Nat := s.fld (sideAddr x (Reg.SAFE_CONN_STAT k)) Fld.SAFE_CONN_STAT_STATE

/-- A connection's state in a channel set, with its bit of CONN_LOST. -/
def State.setConnState (s : State) (x : Side) (k v : Nat) : State :=
  let s1 := s.setF (sideAddr x (Reg.SAFE_CONN_STAT k)) Fld.SAFE_CONN_STAT_STATE v
  s1.setF (sideAddr x Reg.SAFE_STAT) Fld.SAFE_STAT_CONN_LOST
    (withBit (s1.fld (sideAddr x Reg.SAFE_STAT) Fld.SAFE_STAT_CONN_LOST) k (v == 3))

/-- A channel's connections as it starts: WAIT, with nothing received. -/
def State.connStart (s : State) (x : Side) : State :=
  ((List.range 16).filter fun k => s.connUsed k).foldl (fun st k =>
    let s1 := (st.setConnState x k 1).setF (sideAddr x (Reg.SAFE_CONN_STAT k)) Fld.SAFE_CONN_STAT_DIR (s.parN (Par.connDir k))
    s1.setConn x k { Conn3.reset with last := s1.tm.mono, txAt := (s1.conn x k).txAt, sent := (s1.conn x k).sent }) s

/-- ZONE in force on an axis (R500). -/
def State.zone (s : State) (x : Side) (a : Nat) : Bool :=
  let z := s.parN (Par.zoneConn a)
  if z = 0 then false
  else if s.connState x (z - 1) = 3 ∨ s.connState x (z - 1) = 1 then true
  else (s.conn x (z - 1)).zone

/-! ### Channels (R487, R490) -/

/-- A channel stops (R487, R494): its STO and brake pads keep their level, and the hold starts. -/
def State.chanStop (s : State) (x : Side) : State :=
  if s.chState x = 0 then s
  else
    let s1 := s.setCh x 0
    s1.axisList.foldl (fun st a =>
      let v := st.axis x a
      st.setAxis x a { v with holdAt := if v.sto || v.brk then some st.tm.mono else none }) s1

/-- A channel follows its side: it stops when the side no longer runs. -/
def State.chanFollow (s : State) (x : Side) : State := if s.sideRunning x then s else s.chanStop x

/-- The binary number that a Gray code of up to 32 bits stands for. -/
def grayDecode (g : Nat) : Nat := [1, 2, 4, 8, 16].foldl (fun v k => v ^^^ (v >>> k)) g

/-- The position of encoder ENC_e in 0.01 mm or 0.01 mrad (R496): its count, or its SSI frame's word, times SCALE. -/
def State.encPos (s : State) (e : Nat) (raw : Int) : Int :=
  let w := (raw % 2 ^ s.parN (Par.encBits e)).toNat
  let n : Int := if s.parN (Par.encKind e) = 0 then raw else if s.parN (Par.encGray e) = 1 then grayDecode w else w
  n * s.parN (Par.encScale e) / 65536

/-- What a channel reads of axis a in a safety cycle, the encoders as positions. -/
def State.axisRead (s : State) (a : Nat) (axes : List AxisIn) : AxisIn :=
  let i := axes.getD a AxisIn.reset
  { i with p0 := s.encPos (2 * a) i.p0, p1 := s.encPos (2 * a + 1) i.p1 }

/-- A channel starts (R490, R496, R499): every axis in TORQUE_OFF with cause START; an INCR encoder paired with an SSI encoder takes
the SSI position. -/
def State.chanStart (s : State) (x : Side) (axes : List AxisIn) : State :=
  let s1 := ((s.setCh x 1).setChan x { Chan.reset with startAt := s.tm.mono }).connStart x
  s1.axisList.foldl (fun st a =>
    let i := st.axisRead a axes
    let k0 := st.parN (Par.encKind (2 * a))
    let k1 := st.parN (Par.encKind (2 * a + 1))
    let o0 := if k0 = 0 ∧ k1 = 1 then i.p1 - i.p0 else 0
    let o1 := if k1 = 0 ∧ k0 = 1 then i.p0 - i.p1 else 0
    (((st.wr (sideAddr x (Reg.SAFE_AX_STAT a)) 0x01000000).wr (sideAddr x (Reg.SAFE_AX_SPD a)) 0).setAxis x a
      { Axis.reset with ofs0 := o0, ofs1 := o1 }).showAxis a) s1

/-- SAFE_CHECK_RUN of a channel. -/
def State.checkRun (s : State) (x : Side) : Word := s.rd (sideAddr x Reg.SAFE_CHECK_RUN)

/-- The cross record of a channel in the running safety cycle (R489, R509). -/
def State.crossOf (s : State) (x : Side) : CrossRec :=
  { cycle := s.safe.nextMs, estA := s.safe.estA, estB := s.safe.estB, fb := s.fld Reg.SAFE_FB_STAT Fld.SAFE_FB_STAT_FB
    pos := s.axisList.map fun a => ((s.axis x a).hist.head?).getD (0, 0)
    data := ((List.range 16).filter fun k => s.connRx k).map fun k => (s.conn x k).data
    axes := s.axisList.map fun a => ⟨s.axState x a, s.axCause x a, (s.axis x a).sto, (s.axis x a).brk⟩
    check := s.checkRun x }

/-- A channel enters FAULT with every axis in TORQUE_OFF. -/
def State.chanFault (s : State) (x : Side) (cause : Nat) : State := (s.setCh x 4).allOff x cause

/-- The partner's record of the last safety cycle compared with the channel's own of that cycle (R489, R490); prev holds both channels
as that cycle left them. A difference in the input image alone is none. -/
def State.crossCheck (s prev : State) (x : Side) (came : Bool) : State :=
  let own := (prev.chan x).record
  let its := if came then (prev.chan x.other).record else none
  let valid := its.isSome && its.map (·.cycle) == own.map (·.cycle)
  let same := its.map (·.check) == own.map (·.check)
  let diff := valid && its.map (·.axes) != own.map (·.axes)
  let c := s.chan x
  let c' : Chan := { c with
    good := if valid && same then c.good + 1 else 0
    agree := if valid && same && !diff then c.agree + 1 else 0
    missing := if valid then 0 else c.missing + 1
    differ := if diff then c.differ + 1 else 0
    startAt := if valid then s.tm.mono else c.startAt }
  let s1 := s.setChan x c'
  let st := s.chState x
  if st = 1 then
    if valid && !same then ((s1.setCh x 4).post Ev.SAFE_CROSS)
    else if valid && (prev.chState x.other == 1 || prev.chState x.other == 2) then s1.setCh x 2
    else if Config.msec 100 ≤ s1.since c'.startAt then s1.setCh x 3
    else s1
  else if st = 2 then
    if 2 ≤ c'.differ then (s1.chanFault x 0xB).post Ev.SAFE_CROSS
    else if 3 ≤ c'.missing then
      ((s1.setCh x 3).bump (sideAddr x Reg.SAFE_CNT) Fld.SAFE_CNT_PARTNER_LOSSES).post Ev.SAFE_PARTNER_LOST
    else s1
  else if st = 3 then
    if 100 ≤ c'.good then (s1.setCh x 2).post Ev.SAFE_PARTNER_BACK else s1
  else s1

/-! ### Axes in a safety cycle (R496 to R502) -/

/-- Speed of an axis in 0.1 mm/s from two position pairs of 0.01 mm that lie 4 safety cycles apart (R496). -/
def axisSpeed (new old : Int × Int) : Int := 25 * ((new.1 + new.2) - (old.1 + old.2)) / 2

/-- The oldest position pair held. -/
def Axis.oldest (v : Axis) : Int × Int := v.hist.getLast?.getD (0, 0)

/-- The newest position pair. -/
def Axis.newest (v : Axis) : Int × Int := v.hist.head?.getD (0, 0)

/-- The speed v of an axis in 0.1 mm/s. -/
def Axis.speed (v : Axis) : Int := axisSpeed v.newest v.oldest

/-- The position p of an axis in 0.01 mm. -/
def Axis.pos (v : Axis) : Int := (v.newest.1 + v.newest.2) / 2

/-- A run of consecutive cycles with a condition. -/
def run (n : Nat) (c : Bool) : Nat := if c then n + 1 else 0

/-- The positions of a safety cycle enter, and the encoder checks count (R496, R498): tolerances in 0.01 mm and mm/s, standstill in
0.1 mm/s. -/
def Axis.measure (v : Axis) (i : AxisIn) (posTol spdTol still : Nat) : Axis :=
  let w := { v with hist := ((i.p0 + v.ofs0, i.p1 + v.ofs1) :: v.hist).take 5 }
  let d0 := 25 * (w.newest.1 - w.oldest.1)
  let d1 := 25 * (w.newest.2 - w.oldest.2)
  { w with
    posN := run v.posN (decide (posTol < (w.newest.1 - w.newest.2).natAbs))
    spdN := run v.spdN (decide (10 * spdTol < (d0 - d1).natAbs))
    openN0 := run v.openN0 i.open0
    openN1 := run v.openN1 i.open1
    stillN := run v.stillN (decide (w.speed.natAbs ≤ still)) }

/-- A condition of R498 is present. -/
def Axis.encBad (v : Axis) : Bool := decide (2 ≤ v.posN) || decide (2 ≤ v.spdN) || decide (2 ≤ v.openN0) || decide (2 ≤ v.openN1)

/-- The flags of R498 latch. -/
def State.encFlags (s : State) (x : Side) (a : Nat) (v : Axis) : State :=
  let put := fun (st : State) (f : Field) (n : Nat) => if 2 ≤ n then st.setAxF x a f 1 else st
  put (put (put (put s Fld.SAFE_AX_STAT_ENC_POS v.posN) Fld.SAFE_AX_STAT_ENC_SPD v.spdN) Fld.SAFE_AX_STAT_ENC_OPEN_0 v.openN0)
    Fld.SAFE_AX_STAT_ENC_OPEN_1 v.openN1

/-- The furthest position in the allowed direction since ZONE became 1 (R500 SDI): direction 1 POS_ONLY, 2 NEG_ONLY. -/
def sdiNext (ref : Option Int) (zone : Bool) (dir : Nat) (p : Int) : Option Int :=
  if zone && (dir == 1 || dir == 2) then
    match ref with
    | none => some p
    | some r => some (if dir = 1 then max r p else min r p)
  else none

/-- p lies outside [SLP_LO, SLP_HI]; d is the travel to a stop over 2 × DEC, scaled by 2 × DEC. -/
def slpOut (lo hi p travel : Int) (dec : Nat) : Bool :=
  let k : Int := 2 * dec
  decide (p * k + travel < lo * k) || decide (hi * k < p * k + travel)

/-- SAFETY_UNCONF (R121). -/
def State.unconf (s : State) : Bool := s.fld Reg.IMG_STAT Fld.IMG_STAT_SAFETY_UNCONF == 1

/-- The e-stop is active (R503). -/
def State.estopActive (s : State) : Bool :=
  s.safe.estA || s.safe.estB || s.fld Reg.SAFE_STAT Fld.SAFE_STAT_ESTOP_DISC == 1

/-- The RX connections that serve an axis. -/
def State.connsOf (s : State) (a : Nat) : List Nat :=
  (List.range 16).filter fun k => s.connRx k && (s.parN (Par.connAxes k)).testBit a

/-- The motion functions' causes (R500), as (cause, whether the reaction is STO). -/
def State.motionCauses (s : State) (_x : Side) (a : Nat) (v : Axis) (zone : Bool) : List (Nat × Bool) :=
  let cfg := Reg.SAFE_AX_CFG a
  let en := s.safeVal cfg Fld.SAFE_AX_CFG_SLP_EN == 1
  let lo := s.safeValS (Reg.SAFE_AX_SLP_LO a) Fld.SAFE_AX_SLP_LO_LIMIT
  let hi := s.safeValS (Reg.SAFE_AX_SLP_HI a) Fld.SAFE_AX_SLP_HI_LIMIT
  let dec := s.safeVal (Reg.SAFE_AX_SS1 a) Fld.SAFE_AX_SS1_DEC
  let ref := v.sdiRef.getD v.pos
  let back := if s.safeVal cfg Fld.SAFE_AX_CFG_SDI_DIR = 1 then ref - v.pos else v.pos - ref
  (if 2 ≤ v.slsN then [(2, s.safeVal cfg Fld.SAFE_AX_CFG_SLS_REACT == 0)] else [])
  ++ (if en && slpOut lo hi v.pos 0 1 then [(3, true)] else [])
  ++ (if en && slpOut lo hi v.pos (v.speed * v.speed.natAbs) dec then [(4, false)] else [])
  ++ (if zone && v.sdiRef.isSome && decide ((s.safeVal cfg Fld.SAFE_AX_CFG_SDI_TOL : Int) < back) then [(5, true)] else [])
  ++ (if v.encBad then [(6, true)] else [])

/-- The causes of R500 on an axis in a channel, in the order of their codes. -/
def State.axisCauses (s : State) (x : Side) (a : Nat) (v : Axis) (zone lost : Bool) : List (Nat × Bool) :=
  let cs := s.connsOf a
  s.motionCauses x a v zone
  ++ (if s.estopActive then [(7, s.safeVal (Reg.SAFE_AX_CFG a) Fld.SAFE_AX_CFG_ESTOP_CAT == 0)] else [])
  ++ ((cs.filter fun k => s.connState x k == 3).map fun k => (8, s.parN (Par.connReact k) == 0))
  ++ (if cs.any fun k => (s.conn x k).stopIn then [(9, false)] else [])
  ++ (if lost then [(0xA, false)] else [])
  ++ (if s.unconf then [(0xE, true)] else [])

/-- |v| exceeds the envelope of R501. -/
def State.overEnvelope (s : State) (a : Nat) (v : Axis) : Bool :=
  let dec := s.safeVal (Reg.SAFE_AX_SS1 a) Fld.SAFE_AX_SS1_DEC
  let still := s.safeVal (Reg.SAFE_AX_ENC a) Fld.SAFE_AX_ENC_V_STILL
  let tol := s.safeVal (Reg.SAFE_AX_ENC a) Fld.SAFE_AX_ENC_SPD_TOL
  let u := Config.sec 1
  decide (max (v.vStop * u - dec * 10 * s.since v.stopAt) (still * u) + 10 * tol * u < v.speed.natAbs * u)

/-- The envelope in mm/s, as SAFE_AX_SPD shows it. -/
def State.envelope (s : State) (a : Nat) (v : Axis) : Nat :=
  let dec := s.safeVal (Reg.SAFE_AX_SS1 a) Fld.SAFE_AX_SS1_DEC
  let u := Config.sec 1
  (max (v.vStop * u - dec * 10 * s.since v.stopAt) (s.safeVal (Reg.SAFE_AX_ENC a) Fld.SAFE_AX_ENC_V_STILL * u) / u) / 10
    + s.safeVal (Reg.SAFE_AX_ENC a) Fld.SAFE_AX_ENC_SPD_TOL

/-- SS1_TMO has passed since the axis entered STOPPING (R499). -/
def State.ss1Over (s : State) (x : Side) (a : Nat) : Bool :=
  decide (Config.msec (10 * s.safeVal (Reg.SAFE_AX_SS1 a) Fld.SAFE_AX_SS1_SS1_TMO) ≤ s.since (s.axis x a).stopAt)

/-- The transition of an axis (R499): a cause of reaction STO goes before one of SS1. -/
def State.axisMove (s : State) (x : Side) (a : Nat) (causes : List (Nat × Bool)) : State :=
  let v := s.axis x a
  let sto := causes.find? fun c => c.2
  let st := s.axState x a
  if st = 1 then
    match sto, causes.head? with
    | some c, _ => s.torqueOff x a c.1
    | none, some c => s.stopping x a c.1 v.speed.natAbs
    | none, none =>
      if v.brkDue && !s.keep.guardFault then (s.setAxis x a { v with brk := true, brkDue := false }).showAxis a else s
  else if st = 2 then
    match sto with
    | some c => s.torqueOff x a c.1
    | none =>
      if s.overEnvelope a v then s.torqueOff x a 0xD
      else if 2 ≤ v.stillN ∨ s.ss1Over x a then s.torqueOff x a (s.axCause x a)
      else s
  else s

/-- SAFE_AX_POS_a, SAFE_AX_SPD_a, ZONE and STILL follow the axis. -/
def State.axisShow (s : State) (x : Side) (a : Nat) (zone : Bool) : State :=
  let v := s.axis x a
  let s1 := (s.setAxF x a Fld.SAFE_AX_STAT_ZONE (flag zone)).setAxF x a Fld.SAFE_AX_STAT_STILL
    (flag (decide (v.speed.natAbs ≤ s.safeVal (Reg.SAFE_AX_ENC a) Fld.SAFE_AX_ENC_V_STILL)))
  let s2 := (s1.wr (sideAddr x (Reg.SAFE_AX_POS a)) (toWord v.pos)).setFS (sideAddr x (Reg.SAFE_AX_SPD a)) Fld.SAFE_AX_SPD_V
    (clampInt (-32768) 32767 (v.speed / 10))
  s2.setF (sideAddr x (Reg.SAFE_AX_SPD a)) Fld.SAFE_AX_SPD_V_ENV
    (if s2.axState x a = 2 then min (s2.envelope a v) 0xFFFF else 0)

/-- An axis in a channel's safety cycle; lost: the channel has just gone from DUAL to SINGLE. -/
def State.axisCycle (s : State) (x : Side) (i : AxisIn) (lost : Bool) (a : Nat) : State :=
  let enc := Reg.SAFE_AX_ENC a
  let zone := s.zone x a
  let v0 := (s.axis x a).measure i (s.safeVal enc Fld.SAFE_AX_ENC_POS_TOL) (s.safeVal enc Fld.SAFE_AX_ENC_SPD_TOL)
    (s.safeVal enc Fld.SAFE_AX_ENC_V_STILL)
  let lim := s.safeVal (Reg.SAFE_AX_SLS a) (if zone then Fld.SAFE_AX_SLS_SLS_1 else Fld.SAFE_AX_SLS_SLS_0)
  let dir := s.safeVal (Reg.SAFE_AX_CFG a) Fld.SAFE_AX_CFG_SDI_DIR
  let v1 := { v0 with
    slsN := run v0.slsN (decide (10 * lim < v0.speed.natAbs))
    sdiRef := sdiNext v0.sdiRef zone dir v0.pos }
  let causes := s.axisCauses x a v1 zone lost
  let bad := causes.any fun c => c.1 != 0xA
  let s1 := (s.setAxis x a { v1 with cond := bad }).encFlags x a v1
  (s1.axisMove x a causes).axisShow x a zone

/-- A channel's safety cycle: it starts or stops with its side, compares the records, and evaluates every axis (R487 to R501). -/
def State.chanCycle (s prev : State) (x : Side) (i : ChanIn) : State :=
  if !s.sideRunning x then s.chanStop x
  else if s.chState x = 0 then s.chanStart x i.axes
  else
    let s1 := s.crossCheck prev x i.record
    let lost := prev.chState x == 2 && s1.chState x == 3
    s1.axisList.foldl (fun st a => st.axisCycle x (st.axisRead a i.axes) lost a) s1

/-- The records that the channels send in this safety cycle. -/
def State.sendCross (s : State) : State :=
  [Side.a, Side.b].foldl (fun st x =>
    st.setChan x { st.chan x with record := if st.chState x = 0 then none else some (st.crossOf x) }) s

/-! ### The e-stop and the contactor feedback (R503 to R506) -/

/-- The outlets that the e-stop holds, and their reactions (R504). -/
def State.estopHold (s : State) : State :=
  let mask := s.safeVal Reg.SAFE_IN_CFG Fld.SAFE_IN_CFG_ESTOP_OUTLETS
  let act := s.estopActive && !s.channels.isEmpty
  let now := s.usedOutlets.filter fun n => act && mask.testBit n
  let new := now.filter fun n => !s.safe.held.testBit n
  let s1 := { s with safe := { s.safe with held := now.foldl (fun m n => withBit m n true) 0 } }
  new.foldl (fun st n => st.outletReaction n) s1

/-- A pole's close output and its feedback differ (R505): pole 2n is outlet n's positive one. -/
def State.poleDiffers (s : State) (k : Nat) : Bool :=
  let f := if k % 2 = 0 then Fld.OUTL_O_STAT_FB_P else Fld.OUTL_O_STAT_FB_N
  decide ((s.fld (Reg.OUTL_O_STAT (k / 2)) f == 1) ≠ (s.otl (k / 2)).cmd)

/-- Since when each pole of the used outlets differs, as the channels see it. -/
def State.polesStep (s : State) : State :=
  if s.channels.isEmpty then s
  else
    s.usedOutlets.foldl (fun st n =>
      [2 * n, 2 * n + 1].foldl (fun (t : State) k =>
        { t with safe := { t.safe with poleAt := t.trackIn t.safe.poleAt k (t.poleDiffers k) } }) st) s

/-- SAFE_STAT.ESTOP and ESTOP_DISC follow the inputs (R503): ESTOP_DISC holds until both inputs have been active together and then
inactive together. -/
def State.estopStep (s : State) : State :=
  let both := s.safe.discBoth || (s.safe.estA && s.safe.estB)
  let disc := s.fld Reg.SAFE_STAT Fld.SAFE_STAT_ESTOP_DISC == 1
  let off := disc && both && !s.safe.estA && !s.safe.estB
  let s1 := { s with safe := { s.safe with
    discAt := s.track s.safe.discAt (s.safe.estA != s.safe.estB), discBoth := disc && both && !off } }
  let s2 := if off then s1.setF Reg.SAFE_STAT Fld.SAFE_STAT_ESTOP_DISC 0 else s1
  s2.setF Reg.SAFE_STAT Fld.SAFE_STAT_ESTOP (flag s2.estopActive)

/-- ESTOP_INPUT (R503): ESTOP_A (0) or ESTOP_B (1) takes a level; it is active at low level. -/
def execEstopInput (dt : Nat) (input : Nat) (level : Bool) (s : State) : Out :=
  let s1 := s.tick dt
  let s2 := if input % 2 = 0 then { s1 with safe := { s1.safe with estA := !level } }
            else { s1 with safe := { s1.safe with estB := !level } }
  .next s2.estopStep

/-- ESTOP_DISC_TIMEOUT (R503): the inputs have disagreed for longer than ESTOP_DISC. -/
def execEstopDiscTimeout (dt : Nat) (s : State) : Out :=
  let s1 := s.tick dt
  let lim := Config.msec (10 * s1.safeVal Reg.SAFE_IN_CFG Fld.SAFE_IN_CFG_ESTOP_DISC)
  if s1.fld Reg.SAFE_STAT Fld.SAFE_STAT_ESTOP_DISC = 0 ∧ s1.lasted s1.safe.discAt (lim + 1) then
    let s2 := (s1.setF Reg.SAFE_STAT Fld.SAFE_STAT_ESTOP_DISC 1).post Ev.SAFE_ESTOP_DISC
    .next ({ s2 with safe := { s2.safe with discBoth := false } }.estopStep)
  else .next s1

/-- FB_DISCREPANCY (R505): a pole of an outlet has differed from its command for FB_DISC. -/
def execFbDiscrepancy (dt : Nat) (pole : Nat) (s : State) : Out :=
  let s1 := s.tick dt
  let k := pole % 16
  let n := k / 2
  let lim := Config.msec (10 * s1.safeVal Reg.SAFE_IN_CFG Fld.SAFE_IN_CFG_FB_DISC)
  let fault := s1.fld Reg.SAFE_FB_STAT Fld.SAFE_FB_STAT_FAULT
  if s1.poleDiffers k ∧ s1.lastedIn s1.safe.poleAt k lim ∧ !s1.channels.isEmpty then
    let s2 := if (s1.otl n).cmd then s1
              else s1.setF Reg.SAFE_FB_STAT Fld.SAFE_FB_STAT_WELD (withBit (s1.fld Reg.SAFE_FB_STAT Fld.SAFE_FB_STAT_WELD) n true)
    if fault.testBit n then .next s2
    else .next (((s2.setF Reg.SAFE_FB_STAT Fld.SAFE_FB_STAT_FAULT (withBit fault n true)).post Ev.SAFE_FB_FAULT n).outletReaction n)
  else .next s1

/-- A write to SAFE_FB_ACK (R506). -/
def State.safeFbAckWrite (s : State) (acc : Access) (val : Word) : State :=
  let weld := fun (st : State) (n : Nat) => (st.fld Reg.SAFE_FB_STAT Fld.SAFE_FB_STAT_WELD).testBit n
  let clear := fun (st : State) (f : Field) (n : Nat) =>
    st.setF Reg.SAFE_FB_STAT f (withBit (st.fld Reg.SAFE_FB_STAT f) n false)
  s.command acc Reg.SAFE_FB_ACK .all fun s1 =>
    ((List.range 8).filter fun n => val.getLsbD n).foldl (fun st n =>
      let mayAct := if weld st n then decide (acc.role = .service) else Scope.osf.admits acc.role
      if mayAct && !st.poleDiffers (2 * n) && !st.poleDiffers (2 * n + 1) then
        clear (clear st Fld.SAFE_FB_STAT_FAULT n) Fld.SAFE_FB_STAT_WELD n
      else st.post Ev.SAFE_CMD_REFUSED n) s1

/-- SAFE_FB_ACK (R506). -/
def execSafeFbAck (dt : Nat) (acc : Access) (val : Word) (s : State) : Out := .next ((s.tick dt).safeFbAckWrite acc val)

/-! ### The values the channels run with (R514) -/

/-- The registers of RWC fields of this chapter. -/
def State.rwcRegs (s : State) : List Nat :=
  Reg.SAFE_IN_CFG :: s.axisList.flatMap fun a =>
    [Reg.SAFE_AX_SLS a, Reg.SAFE_AX_SLP_LO a, Reg.SAFE_AX_SLP_HI a, Reg.SAFE_AX_SS1 a, Reg.SAFE_AX_ENC a, Reg.SAFE_AX_CFG a]

/-- The values the channels run with: those flipped at this very boundary wait for the next safety cycle (R514, R518). -/
def State.takeVals (s : State) : State :=
  if s.safe.flipCycle = some s.tm.cycleN then s
  else { s with safe := { s.safe with vals := s.rwcRegs.map fun r => (r, s.rd r) } }

/-! ### Resets (R502) -/

/-- A reset of an axis may be accepted (R491, R502); under GUARD_FAULT, and while no image runs, the pads stay at torque-off (R46, R122, R124). -/
def State.resetOk (s : State) (a : Nat) : Bool :=
  s.chState .a == 2 && s.chState .b == 2 && !s.unconf && !s.estopActive && !s.keep.guardFault && s.mode == 2
  && ([Side.a, Side.b].all fun x => !(s.axis x a).encBad && !(s.axis x a).cond)

/-- A channel leaves TORQUE_OFF: STO at once, the brake in the next safety cycle (R499). -/
def State.enableAxis (s : State) (x : Side) (a : Nat) : State :=
  let s1 := s.axisTo x a 1 0 true false
  s1.setAxis x a { s1.axis x a with brkDue := true }

/-- An accepted reset in one channel: the latched flags clear (R502). -/
def State.resetIn (s : State) (a : Nat) (x : Side) : State :=
  let r := sideAddr x (Reg.SAFE_AX_STAT a)
  let s1 := (s.wr r (s.rd r &&& 0xFFC3FFFF)).bump (sideAddr x Reg.SAFE_CNT) Fld.SAFE_CNT_RESETS
  if s.axState x a = 0 then s1.enableAxis x a else s1

/-- A reset request as a safety cycle judges it (R502): both channels apply an accepted one; another changes nothing. -/
def State.resetJudge (s : State) (a : Nat) : State :=
  if s.resetOk a then (s.resetIn a .a).resetIn a .b else s.post Ev.SAFE_RESET_REFUSED a

/-- The reset requests since the last safety cycle are judged in this one, after its conditions (R502, R518; log entry 70). -/
def State.resetsJudge (s : State) : State :=
  s.safe.resets.foldl State.resetJudge { s with safe := { s.safe with resets := [] } }

/-- A reset request, which the next safety cycle judges (log entry 70). -/
def State.resetRequest (s : State) (a : Nat) : State :=
  { s with safe := { s.safe with resets := s.safe.resets ++ [a] } }

/-- RESET_PAD_PULSE (R502): the falling edge of a pulse of the given counts on a GPIO pad, as both channels read it. -/
def execResetPadPulse (dt : Nat) (pad width : Nat) (s : State) : Out :=
  let s1 := s.tick dt
  if Config.msec 100 ≤ width ∧ width ≤ Config.sec 2 then
    .next ((s1.axisList.filter fun a => s1.parN (Par.resetPad a) == pad + 1).foldl (fun st a => st.resetRequest a) s1)
  else .next s1

/-- A write to SAFE_AX_CTRL_a (R502). -/
def State.axCtrlWrite (s : State) (acc : Access) (a : Nat) (val : Word) : State :=
  s.command acc (Reg.SAFE_AX_CTRL a) .osf fun s1 =>
    if fget Fld.SAFE_AX_CTRL_RESET val = 1 ∧ s1.safeVal Reg.SAFE_IN_CFG Fld.SAFE_IN_CFG_REMOTE_RST = 1 then s1.resetRequest a else s1

/-- AXIS_RESET (R502). -/
def execAxisReset (dt : Nat) (acc : Access) (a : Nat) (val : Word) (s : State) : Out :=
  .next ((s.tick dt).axCtrlWrite acc (a % 2) val)

/-! ### The safety cycle as a whole -/

/-- Both channels' safety cycle. -/
def State.safetyCycle (s : State) (a b : ChanIn) : State :=
  let s0 := s.takeVals
  let s1 := ((s0.chanCycle s0 .a a).chanCycle s0 .b b).resetsJudge.sendCross
  ((s1.reactions s0).estopHold).polesStep

/-! ### Commands (R490, R515, R516) -/

/-- RESET_FAULT: channels in FAULT go to DUAL after 100 agreeing records on both (R490). -/
def State.resetFault (s : State) : State :=
  if [Side.a, Side.b].all fun x => decide (100 ≤ (s.chan x).agree) then
    [Side.a, Side.b].foldl (fun st x =>
      if st.chState x = 4 then (st.setCh x 2).setChan x { st.chan x with differ := 0, missing := 0 } else st) s
  else s

/-- Every axis stands in TORQUE_OFF in every channel that runs. -/
def State.axesOff (s : State) : Bool := s.channels.all fun x => s.axisList.all fun a => s.axState x a == 0

/-- REOPEN (R516). -/
def State.reopen (s : State) : State :=
  if s.axesOff then
    let s1 := { s with safe := { s.safe with commissioned := none } }.wr Reg.SAFE_CHECK_COMM 0
    let s2 := (s1.setF Reg.SAFE_STAT Fld.SAFE_STAT_CONFIRMED 0).setF Reg.IMG_STAT Fld.IMG_STAT_SAFETY_UNCONF 1
    s2.channels.foldl (fun st x => st.axisList.foldl (fun t a => t.setAxF x a Fld.SAFE_AX_STAT_CAUSE 0xE) st) s2
  else s.post Ev.SAFE_CMD_REFUSED

/-- A write to SAFE_CTRL. -/
def State.safeCtrlWrite (s : State) (acc : Access) (val : Word) : State :=
  s.command acc Reg.SAFE_CTRL .safe fun s0 =>
    let s1 := if fget Fld.SAFE_CTRL_RESET_FAULT val = 1 then s0.resetFault else s0
    if fget Fld.SAFE_CTRL_REOPEN val = 1 then s1.reopen else s1

/-- RESET_FAULT (R490). -/
def execResetFault (dt : Nat) (acc : Access) (val : Word) (s : State) : Out := .next ((s.tick dt).safeCtrlWrite acc val)

/-- REOPEN (R516). -/
def execReopen (dt : Nat) (acc : Access) (val : Word) (s : State) : Out := .next ((s.tick dt).safeCtrlWrite acc val)

/-- A register has an RWC field. -/
def State.hasRwc (s : State) (addr : Nat) : Bool :=
  match s.specOf addr with
  | some r => r.fields.any fun f => f.acc == .rwc
  | none => false

/-- A write to SAFE_CONFIRM (R515). -/
def State.safeConfirmWrite (s : State) (acc : Access) (val : Word) : State :=
  s.command acc Reg.SAFE_CONFIRM .safe fun s1 =>
    let chOk := fun x => s1.chState x == 1 || s1.chState x == 2
    let busy := [0, 1, 2, 3].any fun n =>
      let c := s1.context n
      (c.state == .validating || c.state == .pend) && c.entries.any fun e => s1.hasRwc e.1
    if s1.checkRun .a = val ∧ s1.checkRun .b = val ∧ chOk .a ∧ chOk .b ∧ !busy then
      let s2 := { s1 with safe := { s1.safe with commissioned := some val } }.wr Reg.SAFE_CHECK_COMM val
      ((s2.setF Reg.IMG_STAT Fld.IMG_STAT_SAFETY_UNCONF 0).setF Reg.SAFE_STAT Fld.SAFE_STAT_CONFIRMED 1).post Ev.SAFE_CONFIRMED
    else s1.post Ev.SAFE_CONFIRM_REFUSED

/-- SAFE_CONFIRM (R515). -/
def execSafeConfirm (dt : Nat) (acc : Access) (val : Word) (s : State) : Out := .next ((s.tick dt).safeConfirmWrite acc val)

/-- A write to SAFE_CLR: both channels' SAFE_CNT and SAFE_CONN_CNT_k. -/
def State.safeClrWrite (s : State) (acc : Access) (val : Word) : State :=
  s.command acc Reg.SAFE_CLR .osf fun s1 =>
    if fget Fld.SAFE_CLR_CLEAR val = 1 then
      [Side.a, Side.b].foldl (fun st x =>
        (List.range 16).foldl (fun t k => t.clearCount (sideAddr x (Reg.SAFE_CONN_CNT k)))
          (st.clearCount (sideAddr x Reg.SAFE_CNT))) s1
    else s1

/-- SAFE_CLR (R517). -/
def execSafeClr (dt : Nat) (acc : Access) (val : Word) (s : State) : Out := .next ((s.tick dt).safeClrWrite acc val)

/-! ### Timers (R494, R495, R499) -/

/-- OUTPUT_READBACK_FAULT (R495): a pad's level (0 to 3 STOA, STOB, BRKA, BRKB of axis 0; 4 to 7 of axis 1) has differed from its
command for the given counts; the channels that run act on it. OUT_FAULT then stays set: the spec names nothing that clears it (log
entry 69). -/
def execOutputReadbackFault (dt : Nat) (pad held : Nat) (s : State) : Out :=
  let s1 := s.tick dt
  if Config.msec 1 ≤ held ∧ pad % 8 / 4 < axesOf s1.variant ∧ !s1.channels.isEmpty then
    let s2 := (s1.setF Reg.SAFE_STAT Fld.SAFE_STAT_OUT_FAULT 1).post Ev.SAFE_OUT_FAULT (pad % 8 / 4) (pad % 4)
    .next ((s2.channels.foldl (fun st x => st.chanFault x 0xC) s2).reactions s1).showRest
  else .next s1

/-- STO_HOLD_EXPIRY (R494): the pads of a stopped channel de-energise. -/
def execStoHoldExpiry (dt : Nat) (side : Side) (a : Nat) (s : State) : Out :=
  let s1 := s.tick dt
  let k := a % 2
  let v := s1.axis side k
  if s1.chState side = 0
      ∧ s1.lasted v.holdAt (Config.msec (10 * s1.safeVal (Reg.SAFE_AX_SS1 k) Fld.SAFE_AX_SS1_STO_HOLD)) then
    .next ((s1.setAxis side k { v with sto := false, brk := false, holdAt := none }).showAxis k)
  else .next s1

/-- Every STO and brake pad de-energises at once, with no hold: GUARD_FAULT, SAFE_HOLD (R46, R122, R494). -/
def State.padsOff (s : State) : State :=
  s.axisList.foldl (fun st a =>
    ([Side.a, Side.b].foldl (fun (t : State) x =>
      t.setAxis x a { t.axis x a with sto := false, brk := false, brkDue := false, holdAt := none }) st).showAxis a) s

/-- SS1_TIMEOUT (R499): SS1_TMO has passed in STOPPING. -/
def execSs1Timeout (dt : Nat) (a : Nat) (s : State) : Out :=
  let s1 := s.tick dt
  let k := a % 2
  .next ((s1.channels.foldl (fun st x =>
    if st.axState x k = 2 ∧ st.ss1Over x k then st.torqueOff x k (st.axCause x k) else st) s1).showRest)

/-! ### Safety frames (R508 to R511) -/

/-- CRC_A of a frame's bytes 0x00 to 0x17 (R508). -/
def crcA (key : Nat) (bs : List Byte) : Word := crc32c (leBytes 4 key ++ bs.take 0x18)

/-- CRC_B of a frame's bytes 0x00 to 0x17 (R508): DATA complemented. -/
def crcB (key : Nat) (bs : List Byte) : Word :=
  crc32c (leBytes 4 key ++ bs.take 8 ++ ((bs.drop 8).take 16).map fun b => ~~~b)

/-- The channel's check of an RX frame's CONN_ID, KIND and CRC (R509, R510). -/
def State.frameOk (s : State) (x : Side) (k : Nat) (bs : List Byte) : Bool :=
  let crc := match x with
    | .a => (crcA (s.parN (Par.connKeyA k)) bs).toNat == leNat ((bs.drop 0x18).take 4)
    | .b => (crcB (s.parN (Par.connKeyB k)) bs).toNat == leNat ((bs.drop 0x1C).take 4)
  decide (bs.length = 32) && leNat (bs.take 2) + 1 == s.parN (Par.connId k) && leNat ((bs.drop 4).take 1) == 2 && crc

/-- An RX frame is accepted (R510): its SEQ, ZONE and STOP_IN; WAIT ends with the first, LOST with the third in a row. -/
def State.frameAccept (s : State) (x : Side) (k : Nat) (bs : List Byte) : State :=
  let c := s.conn x k
  let d0 := leNat ((bs.drop 8).take 1)
  let s1 := (s.setF (sideAddr x (Reg.SAFE_CONN_STAT k)) Fld.SAFE_CONN_STAT_SEQ (leNat ((bs.drop 2).take 2))).setConn x k
    { c with got := true, last := s.tm.mono, run := c.run + 1, zone := d0.testBit 0, stopIn := d0.testBit 1, data := (bs.drop 8).take 16 }
  let st := s1.connState x k
  if st = 1 ∨ (st = 3 ∧ 3 ≤ c.run + 1) then s1.setConnState x k 2 else s1

/-- A frame that is discarded ends the run of accepted ones. -/
def State.frameDrop (s : State) (x : Side) (k : Nat) (f : Field) : State :=
  (s.setConn x k { s.conn x k with run := 0 }).bump (sideAddr x (Reg.SAFE_CONN_CNT k)) f

/-- An RX frame in one channel (R510). -/
def State.frameRx (s : State) (x : Side) (k : Nat) (bs : List Byte) : State :=
  if !s.frameOk x k bs then s.frameDrop x k Fld.SAFE_CONN_CNT_BAD
  else
    let last := s.fld (sideAddr x (Reg.SAFE_CONN_STAT k)) Fld.SAFE_CONN_STAT_SEQ
    let d := (leNat ((bs.drop 2).take 2) + 65536 - last) % 65536
    if !(s.conn x k).got then s.frameAccept x k bs
    else if d = 0 then s.frameDrop x k Fld.SAFE_CONN_CNT_REPEATS
    else if d ≤ 16 then
      (s.bump (sideAddr x (Reg.SAFE_CONN_CNT k)) Fld.SAFE_CONN_CNT_LOST_FRAMES (d - 1)).frameAccept x k bs
    else s.frameDrop x k Fld.SAFE_CONN_CNT_BAD

/-- The bytes that arrive over RX connection k reach both channels (R509). -/
def State.frameArrives (s : State) (k : Nat) (bytes : List Byte) : State :=
  s.channels.foldl (fun st x => st.frameRx x k bytes) s

/-- SAFETY_FRAME_RX (R509, R510): a frame that arrives over an RX connection, in a UDP datagram or a site-bus object. -/
def execSafetyFrameRx (dt : Nat) (k : Nat) (bytes : List Byte) (s : State) : Out :=
  let s1 := s.tick dt
  let c := k % 16
  if s1.connRx c then .next (s1.frameArrives c bytes) else .next s1

/-- A frame stored in a site-bus object whose consumer is Hedgerow reaches the RX connections that the object carries (R507, R627). -/
def State.safetyObject (s : State) (ctrl o : Nat) (bytes : List Byte) : State :=
  ((List.range 16).filter fun k => s.connRx k && s.parN (Par.connCan k) == 1 + 1024 * ctrl + o).foldl
    (fun st k => st.frameArrives k bytes) s

/-- DATA of a TX frame as a channel forms it (R511). -/
def State.txData (s : State) (x : Side) : List Byte :=
  let st := fun a => if a < axesOf s.variant then BitVec.ofNat 8 (s.axState x a) else 0xFF
  let req := fun a => flag (decide (a < axesOf s.variant) && s.axState x a == 2)
  let dual := flag (s.chState .a == 2 && s.chState .b == 2)
  let rx := ((List.range 16).find? fun k => s.connRx k)
  let echo := match rx with
    | some k => s.fld (sideAddr x (Reg.SAFE_CONN_STAT k)) Fld.SAFE_CONN_STAT_SEQ % 256
    | none => 0
  [st 0, st 1, BitVec.ofNat 8 (req 0 + 2 * req 1 + 16 * flag s.estopActive + 32 * dual), BitVec.ofNat 8 echo]
    ++ List.replicate 12 0

/-- Bytes 0x00 to 0x17 of a TX frame as a channel forms them (R508). -/
def State.txHead (s : State) (x : Side) (k seq : Nat) : List Byte :=
  leBytes 2 (s.parN (Par.connId k) - 1) ++ leBytes 2 seq ++ [1, 0, 0, 0] ++ s.txData x

/-- A TX frame goes to its message port of the site bus, or as a UDP datagram to the Ethernet transmit queues (R507, R617). -/
def State.txPort (s : State) (k : Nat) (bs : List Byte) : State :=
  let i := s.parN (Par.connCan k) - 1
  let id := s.parN (Par.connMsg k)
  let xl := s.portCfg (i / 1024 % 4) (i % 16) Fld.CAN_PORT_CFG_XL == 1
  if s.parN (Par.connCan k) = 0 then s.ethSend bs
  else s.portWrite (i / 1024 % 4) (i % 16) 0
    { id := id % 0x20000000, ide := id.testBit 29, fmt := if xl then 2 else 1, brs := !xl && id.testBit 30, data := bs }

/-- A TX frame goes to the active side's transport: both channels show its SEQ. -/
def State.txSend (s : State) (k seq : Nat) (bs : List Byte) : State :=
  [Side.a, Side.b].foldl (fun st x =>
    let s1 := (st.setF (sideAddr x (Reg.SAFE_CONN_STAT k)) Fld.SAFE_CONN_STAT_SEQ seq).setConn x k
      { st.conn x k with txAt := st.tm.mono, sent := bs, got := true }
    if s1.chState x = 0 then s1 else s1.setConnState x k 2) (s.txPort k bs)

/-- The two halves of a TX frame joined (R509); the half of a channel that does not run has a CRC that the spec leaves open. -/
def State.txFrame (s : State) (k : Nat) : State :=
  let seq := (s.fld (Reg.SAFE_CONN_STAT k) Fld.SAFE_CONN_STAT_SEQ + 1) % 65536
  let ha := s.txHead .a k seq
  let hb := s.txHead .b k seq
  let ca := leBytes 4 (crcA (s.parN (Par.connKeyA k)) ha).toNat
  let cb := leBytes 4 (crcB (s.parN (Par.connKeyB k)) hb).toNat
  let onA := s.chState .a != 0
  let onB := s.chState .b != 0
  if onA && onB then
    if ha = hb then s.txSend k seq (ha ++ ca ++ cb)
    else
      let s1 := s.setConn .a k { s.conn .a k with txAt := s.tm.mono }
      (s1.setConn .b k { s1.conn .b k with txAt := s1.tm.mono }).post Ev.SAFE_CROSS k
  else if onA then
    let (w, s1) := s.freshWord
    s1.txSend k seq (ha ++ ca ++ leBytes 4 w.toNat)
  else if onB then
    let (w, s1) := s.freshWord
    s1.txSend k seq (hb ++ leBytes 4 w.toNat ++ cb)
  else s

/-- SAFETY_FRAME_TX (R507, R509): each PERIOD a TX connection's frame. -/
def execSafetyFrameTx (dt : Nat) (k : Nat) (s : State) : Out :=
  let s1 := s.tick dt
  let c := k % 16
  let v := s1.conn .a c
  if s1.connUsed c ∧ s1.parN (Par.connDir c) = 0
      ∧ (!v.got || decide (Config.msec (s1.parN (Par.connPeriod c)) ≤ s1.since v.txAt)) then
    .next (s1.txFrame c)
  else .next s1

/-- CONN_WATCHDOG (R510): no accepted frame for WD_TIME. -/
def execConnWatchdog (dt : Nat) (k : Nat) (s : State) : Out :=
  let s1 := s.tick dt
  let c := k % 16
  let lim := Config.msec (s1.parN (Par.connWd c))
  let xs := s1.channels.filter fun x =>
    (s1.connState x c == 1 || s1.connState x c == 2) && decide (lim ≤ s1.since (s1.conn x c).last)
  if s1.connRx c ∧ !xs.isEmpty then
    .next ((xs.foldl (fun st x => (st.setConnState x c 3).setConn x c { st.conn x c with run := 0 }) s1).post Ev.SAFE_CONN_LOST c)
  else .next s1

end Sys2Proof.Machine
end

