-- ==== Sys2Proof/Machine/Die.lean ====
section
/-! DEFINITION. The metrology die's own operations: its registers and time, tampers, energy, and the boundaries it takes (R552 to
R582). -/

namespace Sys2Proof.Machine

open Sys2Proof

/-! ### The die's registers -/

/-- The state with the die's MRAM set. -/
def State.setMem (s : State) (m : DieMem) : State := { s with bill := { s.bill with mem := m } }

/-- A register as the die holds it. -/
def State.drd (s : State) (addr : Nat) : Word := SMap.get regReset s.bill.mem.regs addr

/-- The state with a register set on the die. -/
def State.dwr (s : State) (addr : Nat) (v : Word) : State :=
  s.setMem { s.bill.mem with regs := SMap.put regReset s.bill.mem.regs addr v }

/-- A field of a register on the die. -/
def State.dfld (s : State) (addr : Nat) (f : Field) : Nat := fget f (s.drd addr)

/-- A signed field of a register on the die. -/
def State.dfldS (s : State) (addr : Nat) (f : Field) : Int := fgetS f (s.drd addr)

/-- The state with a field of a register set on the die. -/
def State.dsetF (s : State) (addr : Nat) (f : Field) (v : Nat) : State := s.dwr addr (fset f (s.drd addr) v)

/-- A 64-bit register pair on the die, LO first. -/
def State.d64 (s : State) (addr : Nat) : Nat := (s.drd addr).toNat + 0x100000000 * (s.drd (addr + 4)).toNat

/-- The state with a 64-bit register pair set on the die. -/
def State.dwr64 (s : State) (addr v : Nat) : State :=
  (s.dwr addr (BitVec.ofNat 32 v)).dwr (addr + 4) (BitVec.ofNat 32 (v / 0x100000000))

/-- The state with the die's working part set. -/
def State.setMetr (s : State) (m : MetrPart) : State := { s with metr := m }

/-- A channel on the die. -/
def State.dch (s : State) (c : Nat) : DieChan := SMap.get (fun _ => DieChan.reset) s.metr.chans c

/-- The state with a channel set on the die. -/
def State.setDch (s : State) (c : Nat) (v : DieChan) : State :=
  s.setMetr { s.metr with chans := SMap.put (fun _ => DieChan.reset) s.metr.chans c v }

/-- A sum on the die. -/
def State.sum (s : State) (k : Nat) : Int := SMap.get (fun _ => 0) s.metr.acc k

/-- The state with a sum set on the die. -/
def State.setSum (s : State) (k : Nat) (v : Int) : State :=
  s.setMetr { s.metr with acc := SMap.put (fun _ => 0) s.metr.acc k v }

/-- A nominal value of the working map (Nominal). -/
def State.nominal (s : State) (k : Nat) : Nat := (SMap.get (fun _ => 0) s.metr.pars k).toNat

/-- Keys of the map's nominal values: V_NOM (mV), I_NOM (mA), I_MAX (mA) and F_NOM (Hz) of the AC group, V_NOM and I_NOM of DC group
n. -/
def nomV : Nat := 0
/-- I_NOM of the AC group in mA. -/
def nomI : Nat := 1
/-- I_MAX of the AC group in mA. -/
def nomMax : Nat := 2
/-- F_NOM in Hz. -/
def nomF : Nat := 3
/-- V_NOM of DC group n in mV. -/
def nomDcV (n : Nat) : Nat := 10 + n
/-- I_NOM of DC group n in mA. -/
def nomDcI (n : Nat) : Nat := 20 + n

/-! ### Time on the die (R557 to R559) -/

/-- The die's time: the last mark, the crystal's count since, and what it has slewed, at 500 ppm. -/
def State.dieTs (s : State) : Count :=
  let run := s.sinceLife s.metr.markAt
  let moved : Int := min (s.metr.slew.natAbs : Int) (run / 2000 : Nat)
  s.metr.markTs + BitVec.ofNat 64 run + BitVec.ofInt 64 (if s.metr.slew < 0 then -moved else moved)

/-- What is left to slew. -/
def State.dieSlew (s : State) : Int :=
  let moved : Int := min (s.metr.slew.natAbs : Int) (s.sinceLife s.metr.markAt / 2000 : Nat)
  if s.metr.slew < 0 then s.metr.slew + moved else s.metr.slew - moved

/-- UTC of a timestamp on the die, in whole seconds, by the TAI−UTC offset that the last time line carried (R76, R565). -/
def State.dieUtc (s : State) (ts : Count) : Nat := ts.toNat / Config.sec 1 - s.metr.tai

/-- Local time on the die in whole seconds, by the local offset that the last time line carried (R76, R560). -/
def State.dieLocal (s : State) : Nat := ((s.dieUtc s.dieTs : Int) + 60 * s.metr.ofs).toNat

/-- The die computes: it runs and is not in SLEEP (R521, R709). -/
def State.dieRuns (s : State) : Bool := s.metr.on && !s.metr.sleep

/-! ### Events and tampers (R549, R582) -/

/-- An event that the next record reports, with the die's time. -/
def State.dieEvent (s : State) (code : Nat) (arg : Word) : State :=
  s.setMetr { s.metr with events := s.metr.events ++ [(code, s.dieTs, arg)] }

/-- The sessions that are open note a tamper. -/
def noteTamper (m : SMap SessAcc) (k : Nat) : SMap SessAcc := m.map fun e => (e.1, { e.2 with tampers := withBit e.2.tampers k true })

/-- A tamper of type k at point g (0xFFF for none), with a timestamp (R582). -/
def State.tamperAt (s : State) (k g : Nat) (ts : Count) : State :=
  let cnt := (s.drd (Reg.BILL_TAMP_CNT k)).toNat
  let s1 := s.dwr (Reg.BILL_TAMP_CNT k) (BitVec.ofNat 32 (min (cnt + 1) 0xFFFFFFFF))
  let s2 := if cnt = 0 then s1.dwr64 (Reg.BILL_TAMP_FIRST_LO k) ts.toNat else s1
  let s3 := s2.dwr64 (Reg.BILL_TAMP_LAST_LO k) ts.toNat
  (s3.setMem { s3.bill.mem with sess := noteTamper s3.bill.mem.sess k }).dieEvent Ev.BILL_TAMPER (evArg g 0 k)

/-- A tamper of type k at the die's time. -/
def State.tamper (s : State) (k : Nat) (g : Nat := 0xFFF) : State := s.tamperAt k g s.dieTs

/-! ### Channels and groups (R531, R541) -/

/-- KIND of a channel; 0 unused. -/
def State.dKind (s : State) (c : Nat) : Nat := s.dfld (Reg.METR_CH_CFG c) Fld.METR_CH_CFG_KIND

/-- The channel of a group (1 AC, 8 + n DC) in a role (1 voltage, 2 current) and phase. -/
def State.chOf (s : State) (group role phase : Nat) : Option Nat :=
  (List.range 48).find? fun c =>
    let cfg := s.drd (Reg.METR_CH_CFG c)
    s.dKind c != 0 && fget Fld.METR_CH_CFG_GROUP cfg == group && fget Fld.METR_CH_CFG_ROLE cfg == role
      && fget Fld.METR_CH_CFG_PHASE cfg == phase

/-- The channels of a group. -/
def State.chansOf (s : State) (group : Nat) : List Nat :=
  (List.range 48).filter fun c => s.dKind c != 0 && s.dfld (Reg.METR_CH_CFG c) Fld.METR_CH_CFG_GROUP == group

/-- The group code of meter point g: 1 for G, 8 + n for O_n. -/
def groupOf (g : Nat) : Nat := if g = 0 then 1 else 7 + g

/-- The meter points with a group in the working map (R531, R545); the LN9616 has no DC group 4 to 7. -/
def State.points (s : State) : List Nat := (List.range (outletsOf s.variant + 1)).filter fun g => !(s.chansOf (groupOf g)).isEmpty

/-- A point's group is INVALID (R541). -/
def State.pointInvalid (s : State) (g : Nat) : Bool := (s.chansOf (groupOf g)).any fun c => (s.dch c).opened

/-- A record that closes carries INVALID for point g: its group is INVALID (R555), or both copies of the registers have failed since the last
entry to CLOSED (R556). -/
def State.recordInvalid (s : State) (g : Nat) : Bool := s.pointInvalid g || s.bill.regError

/-- A point's group is in TEST (R547). -/
def State.pointTest (s : State) (g : Nat) : Bool :=
  let w := s.drd Reg.METR_CAL_CTRL
  if g = 0 then fget Fld.METR_CAL_CTRL_AC_TEST w == 1 else w.getLsbD (g - 1)

/-- The point of a channel's legal group. -/
def State.pointOf (s : State) (c : Nat) : Option Nat :=
  let g := s.dfld (Reg.METR_CH_CFG c) Fld.METR_CH_CFG_GROUP
  if s.dKind c = 0 then none else if g = 1 then some 0 else if 8 ≤ g then some (g - 7) else none

/-- A value in 10^-6 primary units as a group uses it: 0 while the channel is OPEN (R541). -/
def State.groupVal (s : State) (group role phase : Nat) : Int :=
  match s.chOf group role phase with
  | some c => if (s.dch c).opened then 0 else (s.dch c).val
  | none => 0

/-! ### Energy (R532 to R535, R552 to R555) -/

/-- 1 mWh in units of 10^-12 W times one sample of 31.25 µs. -/
def mWhUnit : Nat := 115200000000000000

/-- The tariff register in force. -/
def State.tariff (s : State) : Nat := s.dfld Reg.BILL_STAT Fld.BILL_STAT_TARIFF

/-- The energy of an open session grows by n mWh. -/
def State.sessionEnergy (s : State) (g dir n : Nat) (test : Bool) : State :=
  let a := SMap.get (fun _ => SessAcc.reset) s.bill.mem.sess (g - 1)
  if g = 0 ∨ a.on = false then s
  else
    let k := dir * 8 + s.tariff
    let add := fun m : SMap Nat => SMap.put (fun _ => 0) m k (SMap.get (fun _ => 0) m k + n)
    let a' := if test then { a with tested := add a.tested } else { a with billed := add a.billed }
    s.setMem { s.bill.mem with sess := SMap.put (fun _ => SessAcc.reset) s.bill.mem.sess (g - 1) a' }

/-- n mWh enter the registers of a point and direction (0 import, 1 export): the total and the tariff register in force, and the
running interval (R553). -/
def State.billEnergy (s : State) (g dir n : Nat) : State :=
  let tot := Reg.BILL_E g (2 * dir)
  let reg := Reg.BILL_E g (4 + 16 * dir + 2 * s.tariff)
  let s1 := (s.dwr64 tot (s.d64 tot + n)).dwr64 reg (s.d64 reg + n)
  let k := g * 2 + dir
  s1.setMem { s1.bill.mem with intE := SMap.put (fun _ => 0) s1.bill.mem.intE k (SMap.get (fun _ => 0) s1.bill.mem.intE k + n) }

/-- n mWh enter the test register of a point and direction, which wraps (R547). -/
def State.testEnergy (s : State) (g dir n : Nat) : State :=
  let r := if dir = 0 then Reg.METR_TEST_IMP g else Reg.METR_TEST_EXP g
  s.dwr r (s.drd r + BitVec.ofNat 32 n)

/-- A sample's energy accrues to a point and direction; what lies below 1 mWh is carried (R535, R547, R553). -/
def State.accrue (s : State) (g dir amount : Nat) : State :=
  let test := s.pointTest g
  let k := g * 8 + dir + (if test then 6 else 0)
  let sum := SMap.get (fun _ => 0) s.bill.mem.resid k + amount
  let s1 := s.setMem { s.bill.mem with resid := SMap.put (fun _ => 0) s.bill.mem.resid k (sum % mWhUnit) }
  let n := sum / mWhUnit
  if n = 0 then s1
  else if test then (s1.testEnergy g dir n).sessionEnergy g dir n true
  else (s1.billEnergy g dir n).sessionEnergy g dir n false

/-- A sample's reactive energy accrues to quadrant q of point G (R532); none while the group is in TEST. -/
def State.accrueReact (s : State) (q amount : Nat) : State :=
  if s.pointTest 0 then s
  else
    let sum := SMap.get (fun _ => 0) s.bill.mem.resid (2 + q) + amount
    let s1 := s.setMem { s.bill.mem with resid := SMap.put (fun _ => 0) s.bill.mem.resid (2 + q) (sum % mWhUnit) }
    let r := Reg.BILL_E 0 (36 + 2 * q)
    if sum / mWhUnit = 0 then s1 else s1.dwr64 r (s1.d64 r + sum / mWhUnit)

/-! ### Demand intervals (R565 to R567) -/

/-- DEM_LEN in minutes as the die applies it. -/
def State.demLen (s : State) : Nat := max 1 (s.dfld Reg.BILL_DEM_CFG Fld.BILL_DEM_CFG_DEM_LEN)

/-- The timestamp of the running interval's end. -/
def State.demEnd (s : State) : Count := BitVec.ofNat 64 (s.d64 Reg.BILL_DEM_END_LO)

/-- The first aligned instant after a timestamp (R565). -/
def State.nextAligned (s : State) (ts : Count) : Count :=
  let len := 60 * s.demLen
  BitVec.ofNat 64 (((s.dieUtc ts / len + 1) * len + s.metr.tai) * Config.sec 1)

/-- An interval's energy of a point and direction in mWh. -/
def State.intEnergy (s : State) (g dir : Nat) : Nat := SMap.get (fun _ => 0) s.bill.mem.intE (g * 2 + dir)

/-- The demand of an interval in W: its energy over the nominal length (R566). -/
def State.meterDemand (s : State) (g dir : Nat) : Nat := s.intEnergy g dir * 60 / (1000 * s.demLen)

/-- The bits of the points for which a condition holds. -/
def pointMask (p : Nat → Bool) : Nat := (List.range 9).foldl (fun m g => withBit m g (p g)) 0

/-- The interval record (R581). -/
def State.intervalBytes (s : State) (flags : Nat) (tsEnd : Count) : List Byte :=
  leBytes 4 s.bill.mem.intNo ++ leBytes 2 flags ++ leBytes 1 s.tariff ++ [0] ++ leBytes 8 tsEnd.toNat ++ leBytes 8 s.bill.mem.mc
  ++ leBytes 4 (s.bill.mem.mc - s.bill.mem.intMc) ++ leBytes 2 (pointMask s.pointTest) ++ leBytes 2 (pointMask s.recordInvalid)
  ++ (List.range 9).flatMap fun g => leBytes 4 (s.intEnergy g 0 / 1000) ++ leBytes 4 (s.intEnergy g 1 / 1000)

/-- A point's maxima and last demands take an interval's (R566). -/
def State.maxima (s : State) (flags : Nat) (tsEnd : Count) (g : Nat) : State :=
  let i := s.meterDemand g 0
  let e := s.meterDemand g 1
  let reg := Reg.BILL_E g (44 + s.tariff)
  let raise := fun (st : State) (r v : Nat) => if (st.drd r).toNat < v then st.dwr r (BitVec.ofNat 32 v) else st
  let s1 := raise s reg i
  let s2 := if (s1.drd (Reg.BILL_E g 52)).toNat < i then s1.dwr64 (Reg.BILL_E g 54) tsEnd.toNat else s1
  let s3 := raise (raise s2 (Reg.BILL_E g 52) i) (Reg.BILL_E g 53) e
  ((s3.dwr (Reg.BILL_E g 56) (BitVec.ofNat 32 i)).dwr (Reg.BILL_E g 57) (BitVec.ofNat 32 e)).dwr (Reg.BILL_E g 58)
    (BitVec.ofNat 32 flags)

/-- A record enters its store; a full store gives up its oldest and logs RECORD_WRAP (R581). -/
def storeRecord (m : SMap (List Byte)) (cap n : Nat) (bs : List Byte) : SMap (List Byte) :=
  SMap.insert (if cap ≤ m.length then m.drop 1 else m) n bs

/-- A record is closed: it goes with the next result record too (R581); kind 0 session, 1 interval, 2 history. -/
def State.closedRecord (s : State) (kind n : Nat) (full : Bool) : State :=
  let s1 := s.setMetr { s.metr with closed := s.metr.closed ++ [(kind, n)], boundary := true }
  if full then s1.tamper 21 else s1

/-- The running demand interval closes (R566): maxima, the interval record, and an empty interval after it. -/
def State.closeInterval (s : State) (extra : Nat) (tsEnd : Count) : State :=
  let flags := s.bill.mem.intFlags ||| extra ||| (if s.metr.free then 8 else 0)
  let bs := s.intervalBytes flags tsEnd
  let s1 := (List.range 9).foldl (fun st g => st.maxima flags tsEnd g) s
  let m := s1.bill.mem
  let s2 := s1.setMem { m with
    intRecs := storeRecord m.intRecs 43200 m.intNo bs, intNo := m.intNo + 1, intE := [], intMc := m.mc, intFlags := 0 }
  s2.closedRecord 1 m.intNo (decide (43200 ≤ m.intRecs.length))

/-- The next interval runs to the first aligned instant; after a step it is SHORT when shorter than DEM_LEN (R569). -/
def State.openInterval (s : State) (stepped : Bool) (flags : Nat) : State :=
  let e := s.nextAligned s.dieTs
  let short := stepped && decide ((e - s.dieTs).toNat < Config.sec (60 * s.demLen))
  let s1 := s.dwr64 Reg.BILL_DEM_END_LO e.toNat
  s1.setMem { s1.bill.mem with intFlags := flags ||| (if short then 1 else 0) }

/-- A waiting DEM_LEN takes effect at an instant that ends an interval under both lengths (R567). -/
def State.demChange (s : State) (e : Count) : State :=
  match s.bill.demNew with
  | none => s
  | some n =>
    if s.dieUtc e / 60 % n = 0 then
      ({ s with bill := { s.bill with demNew := none } }.dsetF Reg.BILL_DEM_CFG Fld.BILL_DEM_CFG_DEM_LEN n).tamper 14
    else s

/-- Step 1 of R573: the demand interval's end has come. -/
def State.intervalStep (s : State) : State :=
  let e := s.demEnd
  if e.toNat = 0 then s.openInterval false s.bill.mem.intFlags
  else if e.toNat ≤ s.dieTs.toNat then ((s.closeInterval 0 e).demChange e).openInterval false 0
  else s

/-! ### Tariffs (R560 to R564) -/

/-- The season in force on a date: the enabled one that started last, counting back across the new year (R561). -/
def State.season (s : State) (m d : Nat) : Option Nat :=
  let start := fun i => s.dfld (Reg.BILL_SEASON i) Fld.BILL_SEASON_MONTH * 32 + s.dfld (Reg.BILL_SEASON i) Fld.BILL_SEASON_DAY
  let used := [0, 1, 2, 3].filter fun i => s.dfld (Reg.BILL_SEASON i) Fld.BILL_SEASON_EN == 1
  let best := fun xs : List Nat => xs.foldl (fun (b : Option Nat) i =>
    match b with
    | none => some i
    | some j => if start j < start i then some i else b) none
  match best (used.filter fun i => decide (start i ≤ m * 32 + d)) with
  | some i => some i
  | none => best used

/-- The special day of a date: one of its year before one of every year (R561). -/
def State.special (s : State) (y m d : Nat) : Option Nat :=
  let hit := fun (yr j : Nat) =>
    let w := s.drd (Reg.BILL_SPECIAL j)
    fget Fld.BILL_SPECIAL_EN w == 1 && fget Fld.BILL_SPECIAL_YEAR w == yr && fget Fld.BILL_SPECIAL_MONTH w == m
      && fget Fld.BILL_SPECIAL_DAY w == d
  match (List.range 64).find? (hit (y - 2000)) with
  | some j => some j
  | none => (List.range 64).find? (hit 0x7F)

/-- A day profile's tariff at a minute of the day: its latest enabled switch point (R562). -/
def State.profileTariff (s : State) (p minute : Nat) : Nat :=
  let pts := (List.range 12).filter fun k =>
    let w := s.drd (Reg.BILL_DAY p k)
    fget Fld.BILL_DAY_EN w == 1 && decide (fget Fld.BILL_DAY_MINUTE w ≤ minute)
  match pts.getLast? with
  | some k => s.dfld (Reg.BILL_DAY p k) Fld.BILL_DAY_TARIFF
  | none => 0

/-- The tariff is evaluated at a local minute (R561, R562). -/
def State.evalTariff (s : State) (minute : Nat) : State :=
  let day := minute / 1440
  let (y, m, d) := civil day
  let sea := s.season m d
  let week := match sea with
    | some i => s.dfld (Reg.BILL_SEASON i) Fld.BILL_SEASON_WEEK
    | none => 0
  let wd := (weekday day + 6) % 7
  let spec := s.special y m d
  let prof := match spec with
    | some j => s.dfld (Reg.BILL_SPECIAL j) Fld.BILL_SPECIAL_PROFILE
    | none => fget ⟨4 * wd, 4⟩ (s.drd (Reg.BILL_WEEK week))
  let s1 := (s.dsetF Reg.BILL_STAT Fld.BILL_STAT_SEASON (sea.getD 0)).dsetF Reg.BILL_STAT Fld.BILL_STAT_WEEK week
  let s2 := (s1.dsetF Reg.BILL_STAT Fld.BILL_STAT_DAY prof).dsetF Reg.BILL_STAT Fld.BILL_STAT_SPECIAL (flag spec.isSome)
  let s3 := s2.dsetF Reg.BILL_STAT Fld.BILL_STAT_TARIFF (s2.profileTariff prof (minute % 1440))
  { s3 with bill := { s3.bill with calSeen := some minute } }

/-- Step 2 of R573: the tariff follows each local minute that comes for the first time (R563, R564). -/
def State.tariffStep (s : State) : State :=
  let minute := s.dieLocal / 60
  let new := match s.bill.calSeen with
    | none => true
    | some n => decide (n < minute)
  if new then
    let s1 := s.evalTariff minute
    if s1.tariff = s.tariff then s1 else s1.setMetr { s1.metr with boundary := true }
  else s

/-! ### Billing periods (R568) -/

/-- A date with day of month BILL_DAY lies after day a, up to day b. -/
def dayPassed (billDay a b : Nat) : Bool :=
  billDay != 0 && (decide (a + 31 ≤ b) || (List.range (b - a)).any fun i => (civil (a + 1 + i)).2.2 == billDay)

/-- A point's 216 bytes of the history record: words 0 to 53 of its energy window (R581). -/
def State.historyPoint (s : State) (g : Nat) : List Byte :=
  (List.range 54).flatMap fun j => leBytes 4 (s.drd (Reg.BILL_E g j)).toNat

/-- The history record (R581); its FLAGS are the interval record's, which have no INVALID (log entry 72). -/
def State.historyBytes (s : State) : List Byte :=
  leBytes 4 s.bill.mem.period ++ leBytes 4 (s.bill.mem.intFlags ||| (if s.metr.free then 8 else 0)) ++ leBytes 8 s.dieTs.toNat
  ++ leBytes 8 s.bill.mem.mc ++ List.replicate 8 0 ++ (List.range 9).flatMap fun g => s.historyPoint g

/-- A point's maximum-demand registers go to 0. -/
def State.clearMaxima (s : State) (g : Nat) : State :=
  (List.range 10).foldl (fun st j => st.dwr (Reg.BILL_E g (44 + j)) 0) s

/-- The billing period closes (R568). -/
def State.closePeriod (s : State) : State :=
  let m := s.bill.mem
  let s1 := s.setMem { m with
    histRecs := storeRecord m.histRecs 24 m.period s.historyBytes, period := m.period + 1, closeDay := some (s.dieLocal / 86400) }
  let s2 := ((List.range 9).foldl State.clearMaxima s1).dsetF Reg.BILL_STAT Fld.BILL_STAT_PERIOD (m.period + 1)
  s2.closedRecord 2 m.period (decide (24 ≤ m.histRecs.length))

/-- A close may be taken on a local day: later than that of the close before (R568). -/
def State.closeOk (s : State) (day : Nat) : Bool :=
  match s.bill.mem.closeDay with
  | none => true
  | some d => decide (d < day)

/-- Step 3 of R573: the calendar's close, and that of an accepted BILL_RESET. -/
def State.periodStep (s : State) : State :=
  let day := s.dieLocal / 86400
  let cal := match s.bill.daySeen with
    | none => false
    | some d => dayPassed (s.dfld Reg.BILL_DEM_CFG Fld.BILL_DEM_CFG_BILL_DAY) d day
  let cmd := match s.bill.resetAt with
    | none => false
    | some t => decide (t ≤ s.dieTs.toNat / Config.sec 1)
  let seen := match s.bill.daySeen with
    | none => day
    | some d => max d day
  let s1 := { s with bill := { s.bill with daySeen := some seen, resetAt := if cmd then none else s.bill.resetAt } }
  if (cal || cmd) && s1.closeOk day then s1.closePeriod else s1

/-! ### Session accumulations (R578 to R580) -/

/-- A display (R585). -/
def State.disp (s : State) (n : Nat) : Disp := SMap.get (fun _ => Disp.reset) s.bill.disps n

/-- The state with a display set. -/
def State.setDisp (s : State) (n : Nat) (v : Disp) : State :=
  { s with bill := { s.bill with disps := SMap.put (fun _ => Disp.reset) s.bill.disps n v } }

/-- A display enters a state. -/
def State.dispTo (s : State) (n st : Nat) : State :=
  s.setDisp n { s.disp n with state := st, since := s.tm.life, itemAt := s.tm.life, pos := 0 }

/-- The displays of a point follow its session (R585): AUTO to SESSION as it opens, SESSION to HOLD as it closes. -/
def State.dispSession (s : State) (g : Nat) (opens : Bool) : State :=
  ((List.range 8).filter fun n => s.dfld (Reg.BILL_DISP_CFG n) Fld.BILL_DISP_CFG_POINT == g).foldl (fun st n =>
    if opens && (st.disp n).state == 0 then st.dispTo n 1
    else if !opens && (st.disp n).state == 1 then st.dispTo n 2
    else st) s

/-- The accumulation of an outlet. -/
def State.sacc (s : State) (n : Nat) : SessAcc := SMap.get (fun _ => SessAcc.reset) s.bill.mem.sess n

/-- The state with an outlet's accumulation set. -/
def State.setSacc (s : State) (n : Nat) (v : SessAcc) : State :=
  s.setMem { s.bill.mem with sess := SMap.put (fun _ => SessAcc.reset) s.bill.mem.sess n v }

/-- Energies of a direction by tariff register, in mWh. -/
def byTariff (m : SMap Nat) (dir : Nat) : List Nat := (List.range 8).map fun t => SMap.get (fun _ => 0) m (dir * 8 + t)

/-- Bytes 0x000 to 0x11F of a session record (R579). -/
def State.sessionBytes (s : State) (n flags : Nat) (tsEnd : Count) : List Byte :=
  let a := s.sacc n
  let test := flags % 2 == 1
  let e := if test then a.tested else a.billed
  let imp := byTariff e 0
  let exp := byTariff e 1
  let tot := fun xs : List Nat => xs.foldl (· + ·) 0
  let endI := if test then a.imp else s.d64 (Reg.BILL_E (n + 1) 0)
  let endE := if test then a.exp else s.d64 (Reg.BILL_E (n + 1) 2)
  ([0x4C, 0x4E, 0x53, 0x52] : List Byte) ++ leBytes 2 1 ++ leBytes 1 n ++ leBytes 1 flags ++ leBytes 4 a.sess
  ++ leBytes 4 s.bill.mem.sessNo ++ leBytes 8 a.ts.toNat ++ leBytes 8 a.mc ++ leBytes 8 tsEnd.toNat ++ leBytes 8 s.bill.mem.mc
  ++ leBytes 8 a.imp ++ leBytes 8 a.exp ++ leBytes 8 endI ++ leBytes 8 endE ++ leBytes 8 (tot imp) ++ leBytes 8 (tot exp)
  ++ (imp.flatMap fun v => leBytes 8 v) ++ (exp.flatMap fun v => leBytes 8 v) ++ a.cust ++ leBytes 4 a.tampers
  ++ leBytes 2 (fget Fld.METR_ID_FW_VER Config.dieId) ++ leBytes 2 (fget Fld.METR_ID_FW_CHECK Config.dieId)
  ++ leBytes 2 (s.dfld Reg.METR_SEAL Fld.METR_SEAL_CAL_COUNT) ++ leBytes 2 (bitsOf 16 a.ofs) ++ List.replicate 20 0

/-- A session accumulation closes and yields its record, unsigned yet (R578, R579). -/
def State.closeSession (s : State) (n extra : Nat) (tsEnd : Count) : State :=
  let a := s.sacc n
  let flags := a.flags ||| extra ||| flag (s.pointTest (n + 1)) ||| (if s.recordInvalid (n + 1) then 2 else 0)
    ||| (if s.metr.free then 0x20 else 0)
  let bs := s.sessionBytes n flags tsEnd ++ List.replicate 96 0
  let m := s.bill.mem
  let s1 := (s.setMem { m with
    sessRecs := storeRecord m.sessRecs 8192 m.sessNo bs, sessNo := m.sessNo + 1, unsigned := m.unsigned ++ [m.sessNo] }).setSacc n
      SessAcc.reset
  (s1.closedRecord 0 m.sessNo (decide (8192 ≤ m.sessRecs.length))).dispSession (n + 1) false

/-- A session accumulation opens (R578). -/
def State.openSession (s : State) (n : Nat) : State :=
  let s1 := if (s.sacc n).on then (s.closeSession n 0x10 s.dieTs).tamper 22 (n + 1) else s
  let s2 := s1.setSacc n { SessAcc.reset with
    on := true, sess := (s1.rd (Reg.OUTL_O_SESS n)).toNat, ts := s1.dieTs, mc := s1.bill.mem.mc
    imp := s1.d64 (Reg.BILL_E (n + 1) 0), exp := s1.d64 (Reg.BILL_E (n + 1) 2)
    ofs := s1.metr.ofs, cust := ((s1.otl n).custRef ++ List.replicate 32 0).take 32 }
  (s2.setMetr { s2.metr with boundary := true }).dispSession (n + 1) true

/-- One instant that a session passed takes effect. -/
def State.sessionInstant (s : State) (e : Nat × Bool × Count) : State :=
  if e.2.1 then s.openSession e.1
  else if (s.sacc e.1).on then s.closeSession e.1 0 e.2.2
  else s

/-- Step 4 of R573: the instants that have come. -/
def State.sessionsStep (s : State) : State :=
  let due := s.outl.toMeter.takeWhile fun e => decide (e.2.2.toNat ≤ s.dieTs.toNat)
  let s1 := { s with outl := { s.outl with toMeter := s.outl.toMeter.drop due.length } }
  due.foldl State.sessionInstant s1

/-! ### Writes to sealed MRAM and boundaries (R573, R574) -/

/-- Every register is written to sealed MRAM, in both copies (R556, R574). -/
def State.saveDie (s : State) : State :=
  { s with bill := { s.bill with
      saved := s.bill.mem, saved2 := s.bill.mem, savedOk := true, saved2Ok := true, savedMc := s.bill.mem.mc, savedTs := s.dieTs } }

/-- The die takes boundaries: it runs and knows the time (R559). -/
def State.takesBoundaries (s : State) : Bool := s.dieRuns && s.metr.timeKnown

/-- Work at a boundary, with the write to sealed MRAM when it did anything (step 5 of R573). -/
def State.boundaryStep (s : State) (f : State → State) : State :=
  if s.takesBoundaries then
    let s1 := f (s.setMetr { s.metr with boundary := false })
    if s1.metr.boundary then s1.saveDie else s1.setMetr { s1.metr with boundary := s.metr.boundary }
  else s

/-- Every boundary that has come, in the order of R573. -/
def State.boundaries (s : State) : State :=
  s.boundaryStep fun t => (((t.intervalStep).tariffStep).periodStep).sessionsStep

/-! ### The two copies in sealed MRAM (R556) -/

/-- The total import that a copy holds, over all points. -/
def DieMem.totalImport (m : DieMem) : Nat :=
  ((List.range 9).map fun g =>
    (SMap.get regReset m.regs (Reg.BILL_E g 0)).toNat + 0x100000000 * (SMap.get regReset m.regs (Reg.BILL_E g 1)).toNat).foldl (· + ·) 0

/-- A copy with other register words than were written. -/
def DieMem.damaged (m : DieMem) (ws : List (Nat × Word)) : DieMem :=
  { m with regs := ws.foldl (fun r e => SMap.put regReset r e.1 e.2) m.regs }

/-- An uncorrectable error in one or both copies: its CRC fails. -/
def State.copyHit (s : State) (a b : Option (List (Nat × Word))) : State :=
  let s1 := match a with
    | some ws => { s with bill := { s.bill with saved := s.bill.saved.damaged ws, savedOk := false } }
    | none => s
  match b with
  | some ws => { s1 with bill := { s1.bill with saved2 := s1.bill.saved2.damaged ws, saved2Ok := false } }
  | none => s1

/-- The copy that stands after both CRCs have failed: the one with the higher total import (R556; the totals of all points, log entry 72). -/
def State.keptCopy (s : State) : DieMem :=
  if s.bill.saved.totalImport < s.bill.saved2.totalImport then s.bill.saved2 else s.bill.saved

/-- The last saved content, with the METR registers as they stand: those are held in sealed MRAM as they are written (R546). -/
def State.withMetrRegs (s : State) (m : DieMem) : DieMem :=
  { m with
    regs := (m.regs.filter fun e => decide (e.1 < 0xD0000)) ++ (s.bill.mem.regs.filter fun e => e.1 / 0x10000 == 0xD)
      ++ (m.regs.filter fun e => decide (0xE0000 ≤ e.1)) }

/-- The die checks the CRCs of its copies (R556): one that fails is restored from the other; when both fail, the one with the higher
total import stands, and every record carries INVALID until the next entry to CLOSED. Either is logged. -/
def State.copiesCheck (s : State) : State :=
  if s.bill.savedOk && s.bill.saved2Ok then s
  else
    let both := !s.bill.savedOk && !s.bill.saved2Ok
    let m := if both then s.keptCopy else if s.bill.savedOk then s.bill.saved else s.bill.saved2
    let s1 := { s with bill := { s.bill with
      saved := m, saved2 := m, savedOk := true, saved2Ok := true, regError := s.bill.regError || both
      mem := if both then s.withMetrRegs m else s.bill.mem } }
    s1.tamper 20

/-- MEM_ECC_ERROR in the metrology die's sealed MRAM (R556): a die that runs finds it at once, one that does not at its start. -/
def State.dieCopies (s : State) (a b : Option (List (Nat × Word))) : State :=
  if s.metr.on then (s.copyHit a b).copiesCheck else s.copyHit a b

end Sys2Proof.Machine
end

