-- ==== Sys2Proof/Machine/Metr.lean ====
section
/-! DEFINITION. The metrology die's measuring: samples, corrections, supervision, the seal and the result records (R521 to R551),
and the time lines (R76, R77, R557). -/

namespace Sys2Proof.Machine

open Sys2Proof

/-! ### Corrections (R524 to R529) -/

/-- The value in pV at the pair of a code, after OFS, GAIN and the temperature table's gain (R524, R526 steps 1 to 3). -/
def State.pairValue (s : State) (c : Nat) (code : Int) : Int :=
  let pga : Int := if c < 32 then 2 ^ s.dfld (Reg.METR_CH_CFG c) Fld.METR_CH_CFG_PGA else 1
  let x := code - s.dfldS (Reg.METR_CAL_OFS c) Fld.METR_CAL_OFS_OFS
  let gain := 2 ^ 30 + s.dfldS (Reg.METR_CAL_GAIN c) Fld.METR_CAL_GAIN_GAIN
  x * gain * (10000000 + (s.dch c).gT) * 1000000000000 / (2 ^ 30 * 10000000 * 2 ^ 23 * pga)

/-- The code as it is used: clipped at 99 % of full scale, a remote one at ones densities of 10 % and 90 % (R540). -/
def clipCode (c : Nat) (code : Int) : Int × Bool :=
  let lim : Int := if c < 32 then 8304721 else 6710886
  if code < -lim then (-lim, true) else if lim < code then (lim, true) else (code, false)

/-- A frequency in 0.01 Hz that the integrator of R527 is divided for: measured, or F_NOM while the AC group is INVALID. -/
def State.dieFreq (s : State) : Nat :=
  if s.pointInvalid 0 then 100 * s.nominal nomF else s.dfld Reg.METR_AC_FREQ Fld.METR_AC_FREQ_FREQ

/-- The leak a = exp(−2π × f_c × T) of a COIL channel in 10^-18, by its series; f_c in 0.01 Hz, T = 31.25 µs (R527). -/
def coilLeak (fc : Nat) : Int :=
  let z : Int := 19634954084936207 * fc / 10000
  let u : Int := 1000000000000000000
  u - z + z * z / (2 * u) - z * z / u * z / (6 * u)

/-- One step of the integrator y[n] = a × y[n−1] + K × (T / 2) × (x[n] + x[n−1]) of R527, in 10^-21 V·s over pV: one volt-second at the pair
counts as one volt. -/
def coilNext (fc : Nat) (y x0 x1 : Int) : Int := coilLeak fc * y / 1000000000000000000 + 15625 * (x1 + x0)

/-- One corrected sample of a used channel (R526), with its sums for R536 and a TEMP channel's for R529. -/
def State.sampleChannel (s : State) (c : Nat) (code : Int) : State :=
  if s.dKind c = 0 then s
  else
    let v := s.dch c
    let (x, cl) := clipCode c code
    let u := s.pairValue c x
    let fc := s.dfld (Reg.METR_CAL_PH c) Fld.METR_CAL_PH_COIL_FC
    let w := if s.dKind c = 4 then coilNext fc v.coil v.pv u else 0
    let y := if s.dKind c = 4 then Config.coilFix fc s.dieFreq v.coil w else u
    let prim := y * (s.drd (Reg.METR_CH_SCALE c)).toNat / 65536000000
    let d := s.dfldS (Reg.METR_CAL_PH c) Fld.METR_CAL_PH_PH + v.pT
    let out := if d = 0 then prim else Config.fracDelay d v.prim prim
    let t := u / 100000
    s.setDch c { v with
      pv := u, coil := w, prim := prim, val := out, clip := v.clip || cl
      n := v.n + 1, sq := v.sq + t.natAbs * t.natAbs, sum := v.sum + t
      hi := if v.n = 0 then t else max v.hi t, lo := if v.n = 0 then t else min v.lo t
      tN := if s.dKind c = 5 then v.tN + 1 else 0, tSum := if s.dKind c = 5 then v.tSum + u else 0 }

/-! ### Groups (R532 to R535) -/

/-- Keys of the AC group's sums by phase: 0 the count, 1 v², 2 i², 3 p, 4 q of the cycle, 5 p of the second, 6 the phase shifter. -/
def acKey (k phase : Nat) : Nat := k * 8 + phase

/-- Keys of DC group n's sums over 10 ms: 0 the count, 1 v, 2 i, 3 p. -/
def dcKey (n k : Nat) : Nat := 100 + n * 4 + k

/-- The AC group's rms current of a phase in µA, over the last grid cycle. -/
def State.acRms (s : State) (phase : Nat) : Nat :=
  match s.metr.cycles.head? with
  | some xs => (xs.getD (2 + 4 * phase) 0).natAbs
  | none => 0

/-- The AC group's part of a sample: one phase's sums, in 10^-12 W. -/
def State.acPhase (s : State) (q : Nat) : State :=
  let v := s.groupVal 1 1 q
  let i := s.groupVal 1 2 q
  let w := Config.shift90 (s.sum (acKey 6 q)) v
  let add := fun (st : State) (k : Nat) (x : Int) => st.setSum (acKey k q) (st.sum (acKey k q) + x)
  ((add (add (add (add (add s 1 (v * v)) 2 (i * i)) 3 (v * i)) 4 (w * i)) 5 (v * i)).setSum (acKey 6 q) w)

/-- Instantaneous p and q_r of the AC group in 10^-12 W (R532), after the phases' sums. -/
def State.acPower (s : State) : Int × Int :=
  [0, 1, 2].foldl (fun (pq : Int × Int) q =>
    let i := s.groupVal 1 2 q
    (pq.1 + s.groupVal 1 1 q * i, pq.2 + s.sum (acKey 6 q) * i)) (0, 0)

/-- The quadrant of R532, 0 to 3: positive q_r is inductive in import. -/
def quadrant (p q : Int) : Nat := if 0 < p then (if 0 ≤ q then 0 else 3) else if 0 ≤ q then 1 else 2

/-- The AC group's sample: sums, and energy while a current lies above the start threshold (R532, R534). -/
def State.acSample (s : State) : State :=
  let s1 := ([0, 1, 2].foldl State.acPhase s)
  let s2 := s1.setSum (acKey 0 0) (s1.sum (acKey 0 0) + 1)
  let (p, q) := s2.acPower
  if [0, 1, 2].any fun k => decide (s2.nominal nomI < s2.acRms k) then
    let s3 := if 0 < p then s2.accrue 0 0 p.natAbs else if p < 0 then s2.accrue 0 1 p.natAbs else s2
    if q = 0 then s3 else s3.accrueReact (quadrant p q) q.natAbs
  else s2

/-- DC group n's power in 10^-12 W, after the cable-loss term (R533). -/
def State.dcPower (s : State) (n : Nat) : Int :=
  let i := s.groupVal (8 + n) 2 0
  s.groupVal (8 + n) 1 0 * i - s.dfld (Reg.METR_DC_LOSS n) Fld.METR_DC_LOSS_R_CABLE * (i * i) / 1000000

/-- DC group n's sample (R533, R534). -/
def State.dcSample (s : State) (n : Nat) : State :=
  let i := s.groupVal (8 + n) 2 0
  let p := s.dcPower n
  let add := fun (st : State) (k : Nat) (x : Int) => st.setSum (dcKey n k) (st.sum (dcKey n k) + x)
  let s1 := add (add (add (add s 0 1) 1 (s.groupVal (8 + n) 1 0)) 2 i) 3 p
  if 2 * s1.nominal (nomDcI n) < i.natAbs then
    if 0 < p then s1.accrue (n + 1) 0 p.natAbs else if p < 0 then s1.accrue (n + 1) 1 p.natAbs else s1
  else s1

/-! ### Windows of 10 ms and 1 s (R533, R540, R542) -/

/-- A condition on the die that must last: since when. -/
def State.dieTrack (s : State) (o : Option Count) (c : Bool) : Option Count := if c then some (o.getD s.tm.life) else none

/-- A condition on the die has lasted n counts. -/
def State.dieLasted (s : State) (o : Option Count) (n : Nat) : Bool :=
  match o with
  | some t => decide (n ≤ s.sinceLife t)
  | none => false

/-- A channel's polarity condition in a window; suspended while a channel of its group is OPEN (R542). -/
def State.polarity (s : State) (g c : Nat) (bad : Bool) : State :=
  let v := s.dch c
  if s.pointInvalid g then s.setDch c { v with polAt := none, polOff := none }
  else
    let off := s.dieTrack v.polOff (!bad)
    s.setDch c { v with polAt := s.dieTrack v.polAt bad, polOff := off, pol := v.pol && !s.dieLasted off (Config.sec 10) }

/-- OVERLOAD of a channel at a window's end (R540). -/
def State.overloadWindow (s : State) (c : Nat) : State :=
  let v := s.dch c
  let s1 := s.setDch c { v with ovl := v.clip, clip := false }
  if v.clip && !v.ovl then
    let s2 := s1.dieEvent Ev.METR_OVERLOAD (evArg c 0 0)
    match s2.pointOf c with
    | some g => s2.tamper 12 g
    | none => s2
  else s1

/-- DC group n's means and polarity at a window's end (R533, R542). -/
def State.dcWindow (s : State) (n : Nat) : State :=
  let cnt := max 1 (s.sum (dcKey n 0))
  let v := s.sum (dcKey n 1) / cnt
  let i := s.sum (dcKey n 2) / cnt
  let p := s.sum (dcKey n 3) / cnt
  let s1 := ((s.dwr (Reg.METR_DC_V n) (toWord (v / 1000))).dwr (Reg.METR_DC_I n) (toWord (i / 1000))).dwr (Reg.METR_DC_P n)
    (toWord (p / 1000000000000))
  let s2 := [0, 1, 2, 3].foldl (fun st k => st.setSum (dcKey n k) 0) s1
  let s3 := match s2.chOf (8 + n) 2 0 with
    | some c =>
      let legal := s2.dfld (Reg.METR_CH_CFG c) Fld.METR_CH_CFG_EXPORT_ALLOWED == 1
      s2.polarity (n + 1) c (!legal && decide (((s2.nominal (nomDcV n) * s2.nominal (nomDcI n) * 1000000 : Nat) : Int) < -50 * p))
    | none => s2
  match s3.chOf (8 + n) 1 0 with
  | some c => s3.polarity (n + 1) c (decide (v < -50 * (s3.nominal (nomDcV n) : Int)))
  | none => s3

/-- The AC group's polarity over a second (R542): one phase's P against the other two while every current exceeds 0.05 I_NOM. -/
def State.acSecond (s : State) : State :=
  let p := fun q => s.sum (acKey 5 q)
  let loaded := [0, 1, 2].all fun q => decide (50 * s.nominal nomI < s.acRms q)
  let odd := fun q =>
    let a := p ((q + 1) % 3)
    let b := p ((q + 2) % 3)
    loaded && ((decide (0 < a) && decide (0 < b) && decide (p q < 0)) || (decide (a < 0) && decide (b < 0) && decide (0 < p q)))
  [0, 1, 2].foldl (fun st q =>
    let s1 := match st.chOf 1 2 q with
      | some c => st.polarity 0 c (odd q)
      | none => st
    s1.setSum (acKey 5 q) 0) s

/-- What ends with a sample: windows of 10 ms and of 1 s. -/
def State.windows (s : State) : State :=
  let mc := s.bill.mem.mc
  let s1 := if mc % 320 = 0 then
      (List.range 48).foldl (fun st c => if st.dKind c = 0 then st else st.overloadWindow c)
        ((s.points.filter fun g => g != 0).foldl (fun st g => st.dcWindow (g - 1)) s)
    else s
  if mc % 32000 = 0 then s1.acSecond else s1

/-! ### Temperature tables (R528 to R530) -/

/-- The used points of a channel's table: temperature (0.1 °C), gain (0.1 ppm), phase (ns). -/
def State.tempPoints (s : State) (c : Nat) : List (Int × Int × Int) :=
  (((List.range 16).map fun k => (s.drd (Reg.METR_TC c k), s.drd (Reg.METR_TCP c k))).takeWhile fun e =>
    fget Fld.METR_TC_TEMP e.1 != 0x8000).map fun e =>
      (fgetS Fld.METR_TC_TEMP e.1, fgetS Fld.METR_TC_GAIN e.1, fgetS Fld.METR_TCP_PHASE e.2)

/-- The interpolated gain and phase of a table at a temperature, and whether it lies outside the points (R529). -/
def tempTable (t : Int) : List (Int × Int × Int) → Int × Int × Bool
  | [] => (0, 0, false)
  | [(x, g, p)] => (g, p, decide (t ≠ x))
  | (x, g, p) :: (x', g', p') :: r =>
    if t < x then (g, p, true)
    else if t ≤ x' then (g + (g' - g) * (t - x) / (x' - x), p + (p' - p) * (t - x) / (x' - x), false)
    else tempTable t ((x', g', p') :: r)

/-- The table's source of a channel: 0 the die's sensor, 1 + c a TEMP channel. -/
def State.tempSource (s : State) (c : Nat) : Nat :=
  if s.dfld (Reg.METR_CH_CFG c) Fld.METR_CH_CFG_TC_SRC = 0 then 0 else 1 + s.dfld (Reg.METR_CH_CFG c) Fld.METR_CH_CFG_TC_CH

/-- A channel takes its table's values at its source's last valid temperature; with none yet, the corrections stay 0 (R529, R530). -/
def State.tempTake (s : State) (c : Nat) : State :=
  match (s.dch c).temp with
  | none => s
  | some t =>
    let (g, p, out) := tempTable t (s.tempPoints c)
    s.setDch c { s.dch c with gT := g, pT := p, tempRange := out }

/-- The temperature of a TEMP channel in 0.1 °C: the mean of its samples over 200 µA, by the coefficients of IEC 60751 (R525, R529). -/
def DieChan.temperature (v : DieChan) : Int := ptTemp ((v.tSum / (max 1 v.tN : Nat)).toNat * 5 / 1000000) / 10

/-- A source's temperature reaches the channels that it feeds; an invalid one leaves the last valid temperature in use (R529, R530). -/
def State.tempFeed (s : State) (k : Nat) (temp : Int) (bad : Bool) : State :=
  let fed := (List.range 48).filter fun c => s.dKind c != 0 && s.tempSource c == k
  fed.foldl (fun st c =>
    let v := st.dch c
    (st.setDch c { v with temp := if bad then v.temp else some temp, tempSrc := bad }).tempTake c) s

/-- TEMP_TABLE_UPDATE (R529, R530): a source's 100 ms end: the die's own sensor (0) with its mean in 0.1 °C, or the TEMP channel src - 1
once it has taken its 3,200 samples. -/
def execTempTableUpdate (dt : Nat) (src : Nat) (temp : Int) (s : State) : Out :=
  let s1 := s.tick dt
  let k := src % 49
  let v := s1.dch (k - 1)
  let t := if k = 0 then temp else v.temperature
  let bad := k != 0 && (v.opened || decide (t < -500) || decide (2000 < t))
  if s1.dieRuns = false ∨ (k ≠ 0 ∧ v.tN < 3200) then .next s1
  else
    let s2 := if k = 0 then s1 else s1.setDch (k - 1) { v with tN := 0, tSum := 0, tempSrc := bad }
    let s3 := if bad && !v.tempSrc then s2.dieEvent Ev.METR_TEMP_SRC (evArg (k - 1) 0 0) else s2
    .next (s3.tempFeed k t bad)

/-! ### The working map and RWS entries (R544, R546, R547) -/

/-- A METR section becomes the working map (R544): CFG and SCALE of the channels and the nominal values. -/
def State.takeMap (s : State) : State :=
  match s.metr.newMap with
  | none => s
  | some bs =>
    let s1 := (Config.mapRegs bs).foldl (fun st e => st.dwr e.1 e.2) s
    (s1.setMetr { s1.metr with
      newMap := none, working := bs, pars := (Config.mapPars bs).foldl (fun m e => SMap.put (fun _ => 0) m e.1 e.2) [] }).tamper 17

/-- The TEST bits that an RWS write sets: their test registers clear, and TEST_MODE is logged (R547, R582). -/
def State.testSet (s : State) (old new : Word) : State :=
  (List.range 9).foldl (fun st g =>
    let b := if g = 0 then 8 else g - 1
    if new.getLsbD b && !old.getLsbD b then
      ((st.dwr (Reg.METR_TEST_IMP g) 0).dwr (Reg.METR_TEST_EXP g) 0).tamper 16 g
    else st) s

/-- One RWS entry reaches the die; COIL_FC takes no write for other kinds than COIL. -/
def State.rwsEntry (s : State) (e : Nat × Word) : State :=
  if e.1 = Reg.METR_CAL_CTRL then (s.dwr e.1 e.2).testSet (s.drd e.1) e.2
  else if 0xD1000 ≤ e.1 ∧ e.1 < 0xD1600 ∧ e.1 % 0x20 = 0x1C ∧ s.dKind ((e.1 - 0xD1000) / 0x20) ≠ 4 then
    s.dwr e.1 (e.2 &&& 0xFFFF)
  else s.dwr e.1 e.2

/-- Flipped RWS entries apply at a sample instant (R146); while the loop is not OPEN nothing reaches the die (R544). -/
def State.rwsApply (s : State) : State :=
  if s.metr.rws.isEmpty then s
  else
    let s1 := s.setMetr { s.metr with rws := [] }
    if s.metr.loop = 1 then ((List.range 48).foldl State.tempTake (s.metr.rws.foldl State.rwsEntry s1)).tamper 18 else s1

/-- RWS_APPLY (R146). -/
def execRwsApply (dt : Nat) (s : State) : Out :=
  let s1 := s.tick dt
  .next (if s1.dieRuns then s1.rwsApply else s1)

/-- WORKING_MAP_RECEIVED (R544): the METR section of the running image, over the open calibration path. -/
def execWorkingMapReceived (dt : Nat) (s : State) : Out :=
  let s1 := s.tick dt
  match s1.img.running with
  | some n =>
    let bs := secOf (fun i => s1.byte (slotKey s1.serving n i)) 0xD
    .next (if s1.dieRuns && s1.metr.loop == 1 && !bs.isEmpty then s1.setMetr { s1.metr with newMap := some bs } else s1)
  | none => .next s1

/-! ### Steps of the die's time (R569 to R571) -/

/-- The open sessions note a step. -/
def noteStep (m : SMap SessAcc) : SMap SessAcc := m.map fun e => (e.1, { e.2 with flags := e.2.flags ||| 0x40 })

/-- A due step is taken: boundaries under the old time, the interval closed SHORT, then the new time, the tariff and the period
close it passes over. -/
def State.takeStep (s : State) : State :=
  match s.metr.stepDue with
  | none => s
  | some l =>
    let s1 := s.boundaries
    let old := s1.dieTs
    let s2 := s1.closeInterval 0x11 old
    let s3 := s2.setMetr { s2.metr with
      markTs := l.ts, markAt := l.at', tai := l.tai, ofs := l.ofs, slew := 0, stepDue := none, free := false }
    let s4 := s3.setMem { s3.bill.mem with sess := noteStep s3.bill.mem.sess }
    let diff := clampInt (-2147483647) 2147483647 (Int.tdiv (old - s4.dieTs).toInt 4000000)
    let s5 := (s4.tamper 3).dieEvent Ev.BILL_TIME_STEP (BitVec.ofInt 32 diff)
    ({ s5.openInterval true 0 with bill := { (s5.openInterval true 0).bill with calSeen := none } }.tariffStep).periodStep.saveDie

/-- DIE_TIME_STEP (R569). -/
def execDieTimeStep (dt : Nat) (s : State) : Out :=
  let s1 := s.tick dt
  .next (if s1.takesBoundaries then s1.takeStep else s1)

/-- TAMP changes to active that the Guard die passed are logged with their timestamps (R583). -/
def State.logTamps (s : State) : State :=
  s.metr.tamps.foldl (fun st e => st.tamperAt (8 + e.1) 0xFFF e.2) (s.setMetr { s.metr with tamps := [] })

/-- The module time that the Guard die sends now: the timestamp, in NIGHT and DARK by the RTC (R708). -/
def State.lineTs (s : State) : Count :=
  if 3 ≤ s.fld Reg.PWR_STAT Fld.PWR_STAT_STATE then s.tm.rtc + (s.tm.life - s.tm.rtcTrimAt) else s.tm.ts

/-- Time lines stand at marks: every millisecond of the timestamp, in NIGHT and DARK every second (R76, R708). -/
def State.linePeriod (s : State) : Nat :=
  if 3 ≤ s.fld Reg.PWR_STAT Fld.PWR_STAT_STATE then Config.sec 1 else Config.msec 1

/-- The number of the last mark. -/
def State.markNow (s : State) : Nat := s.lineTs.toNat / s.linePeriod

/-- The time line of the last mark (R76): its timestamp, when it was, and the offsets in force then. -/
def State.lineOf (s : State) : DieLine :=
  let ts : Count := BitVec.ofNat 64 (s.markNow * s.linePeriod)
  let utc := (utcOf s.leapTable ts).1
  { ts := ts, at' := s.tm.life - (s.lineTs - ts), tai := s.taiAt ts, ofs := s.localOffset utc }

/-- The offsets of a time line come into force on the die; the running interval's end moves with the leap second (R565). -/
def State.lineOffsets (s : State) (l : DieLine) : State :=
  let s1 := s.setMetr { s.metr with tai := l.tai, ofs := l.ofs }
  if l.tai = s.metr.tai ∨ s.demEnd = 0 then s1
  else s1.dwr64 Reg.BILL_DEM_END_LO (s.demEnd + BitVec.ofInt 64 (((l.tai : Int) - s.metr.tai) * Config.sec 1)).toNat

/-- A valid time line (R557, R559): the first one sets the die's time and takes the boundaries passed over, as a step when it lies
more than 2 s before the reckoning; later a difference up to 2 s is slewed, a larger one is a step. -/
def State.takeLine (s : State) (l : DieLine) : State :=
  let diff := (s.lineTs - s.dieTs).toInt
  if !s.metr.timeKnown && decide (diff < -(Config.sec 2 : Int)) then
    s.setMetr { s.metr with stepDue := some l, tai := l.tai, ofs := l.ofs, timeKnown := true, lineValid := true }
  else if !s.metr.timeKnown then
    { s.setMetr { s.metr with
        markTs := l.ts, markAt := l.at', tai := l.tai, ofs := l.ofs, slew := 0, timeKnown := true, lineValid := true, free := false }
      with bill := { s.bill with calSeen := none } }.boundaries
  else if diff.natAbs ≤ Config.sec 2 then
    (s.setMetr { s.metr with
      markTs := s.dieTs, markAt := s.tm.life, slew := diff, lineValid := true
      free := s.metr.free && decide (2000 < diff.natAbs) }).lineOffsets l
  else s.setMetr { s.metr with stepDue := some l, lineValid := true }

/-- A time line with VALID at 0 is not used (R557); the first one after a valid one is logged (R582). -/
def State.badLine (s : State) : State :=
  if s.metr.lineValid then (s.setMetr { s.metr with lineValid := false }).tamper 5 else s

/-- TIME_LINE (R76): the metrology die receives the time line of a mark, one for each. -/
def execTimeLine (dt : Nat) (s : State) : Out :=
  let s1 := s.tick dt
  let s2 := { s1 with tm := { s1.tm with timeLineAt := s1.tm.life, lineMark := s1.markNow } }
  if s1.markNow = s1.tm.lineMark then .next s1
  else if s2.metr.on then
    .next (if s2.fld Reg.TIME_STAT Fld.TIME_STAT_VALID = 1 then s2.logTamps.takeLine s2.lineOf else s2.logTamps.badLine)
  else .next s2

/-- The longest gap between time lines: 10 ms, in NIGHT and DARK 2 s (R77, R708). -/
def State.timeLineGap (s : State) : Nat :=
  if 3 ≤ s.fld Reg.PWR_STAT Fld.PWR_STAT_STATE then Config.sec 2 else Config.msec 10

/-- TIME_LINE_TIMEOUT (R77, R708): no time line for that long, and the metrology die runs free and says so. -/
def execTimeLineTimeout (dt : Nat) (s : State) : Out :=
  let s1 := s.tick dt
  if s1.metr.on ∧ s1.metr.free = false ∧ s1.timeLineGap ≤ s1.sinceLife s1.tm.timeLineAt then
    .next ((s1.setMetr { s1.metr with free := true }).tamper 4)
  else .next s1

/-! ### A sample instant (R523) -/

/-- A current sample of a legal group lies above the start threshold (R534, R709). -/
def State.aboveStart (s : State) (codes : List Int) : Bool :=
  (List.range 48).any fun c =>
    let cfg := s.drd (Reg.METR_CH_CFG c)
    match s.pointOf c with
    | none => false
    | some g =>
      let a := (s.pairValue c (clipCode c (codes.getD c 0)).1 * (s.drd (Reg.METR_CH_SCALE c)).toNat / 65536000000).natAbs
      fget Fld.METR_CH_CFG_ROLE cfg == 2
        && (if g = 0 then decide (s.nominal nomI < a) else decide (2 * s.nominal (nomDcI (g - 1)) < a))

/-- The sample's own work: corrections, energies, the meter count and the windows that end; since when every legal group is idle
(R704). -/
def State.measure (s : State) (codes : List Int) : State :=
  let s1 := (List.range 48).foldl (fun st c => st.sampleChannel c (codes.getD c 0)) s
  let s2 := s1.points.foldl (fun st g => if g = 0 then st.acSample else st.dcSample (g - 1)) s1
  let s3 := s2.setMetr { s2.metr with idleAt := s2.dieTrack s2.metr.idleAt (!s.aboveStart codes) }
  (s3.setMem { s3.bill.mem with mc := s3.bill.mem.mc + 1 }).windows

/-- A sample instant: the new map, RWS entries, a step and the boundaries come before the sample (R535, R572). -/
def State.sampleInstant (s : State) (codes : List Int) : State :=
  let s0 := (s.setMetr { s.metr with lastTs := s.dieTs })
  let s1 := s0.takeMap.rwsApply
  ((if s1.takesBoundaries then s1.takeStep.boundaries else s1)).measure codes

/-- SAMPLE_INSTANT (R523): the codes of channels 0 to 47, at the instant of a bias test the means of their neighbours (R538, log entry 71).
In SLEEP only the meter count goes on (R709). -/
def execSampleInstant (dt : Nat) (codes : List Int) (s : State) : Out :=
  let s1 := s.tick dt
  if s1.dieRuns then .next (s1.sampleInstant codes)
  else if s1.metr.on then
    .next ((s1.setMetr { s1.metr with lastTs := s1.dieTs }).setMem { s1.bill.mem with mc := s1.bill.mem.mc + 1 })
  else .next s1

/-! ### Open channels (R538, R539, R541) -/

/-- A channel enters OPEN; its group's entry to INVALID is logged (R539, R541). -/
def State.openChannel (s : State) (c : Nat) : State :=
  if (s.dch c).opened then s
  else
    let fresh := match s.pointOf c with
      | some g => if s.pointInvalid g then none else some g
      | none => none
    let s1 := (s.setDch c { s.dch c with opened := true }).dieEvent Ev.METR_OPEN (evArg c 0 0)
    match fresh with
    | some g => s1.tamper 1 g
    | none => s1

/-- A local channel's bias test (R538, R539): the reading moved by so many codes. -/
def State.biasTest (s : State) (c moved : Nat) : State :=
  let v := s.dch c
  if s.dKind c = 0 then s
  else if 2097152 < moved then
    let s1 := s.setDch c { v with fails := v.fails + 1, passes := 0 }
    if 3 ≤ v.fails + 1 then s1.openChannel c else s1
  else
    s.setDch c { v with fails := 0, passes := v.passes + 1, opened := v.opened && decide (v.passes + 1 < 10) }

/-- BIAS_TEST (R538): how far the reversed bias moved each local channel's reading, in codes. -/
def execBiasTest (dt : Nat) (moved : List Nat) (s : State) : Out :=
  let s1 := s.tick dt
  .next (if s1.dieRuns then (List.range 32).foldl (fun st c => st.biasTest c (moved.getD c 0)) s1 else s1)

/-- REMOTE_CHANNEL_OPEN (R539): MD_n has shown no transition, or transitions, for the given counts: 64 MDCLK periods open it, 1 ms of
transitions ends OPEN. -/
def execRemoteChannelOpen (dt : Nat) (n : Nat) (moving : Bool) (held : Nat) (s : State) : Out :=
  let s1 := s.tick dt
  let c := 32 + n % 16
  if s1.dieRuns = false ∨ s1.dKind c = 0 then .next s1
  else if moving = false ∧ 31250 ≤ held then .next (s1.openChannel c)
  else if moving ∧ Config.msec 1 ≤ held then .next (s1.setDch c { s1.dch c with opened := false })
  else .next s1

/-! ### Grid cycles, statistics, harmonics (R532, R536) -/

/-- The rms of a phase's voltage (k 1, µV) or current (k 2, µA) over the grid cycle that ends. -/
def State.cycleRms (s : State) (k q : Nat) : Int := (sqrtBits 40 (s.sum (acKey k q) / max 1 (s.sum (acKey 0 0))).toNat 0 : Int)

/-- The results of the grid cycle that ends (R532): frequency in 0.01 Hz, then rms voltage (µV), rms current (µA), P and Q (10^-12 W) of each
phase, and the arithmetic apparent power Σ V_rms × I_rms (10^-12 VA). -/
def State.cycleResult (s : State) (freq : Nat) : List Int :=
  let n := max 1 (s.sum (acKey 0 0))
  (freq : Int) :: ([0, 1, 2].flatMap fun q => [s.cycleRms 1 q, s.cycleRms 2 q, s.sum (acKey 3 q) / n, s.sum (acKey 4 q) / n])
    ++ [([0, 1, 2].map fun q => s.cycleRms 1 q * s.cycleRms 2 q).foldl (· + ·) 0]

/-- The mean of an entry over the cycles held. -/
def State.cycleMean (s : State) (j : Nat) : Int :=
  (s.metr.cycles.map fun xs => xs.getD j 0).foldl (· + ·) 0 / (max 1 s.metr.cycles.length : Nat)

/-- A phase's AC registers take the means of the last cycles (R532). -/
def State.showPhase (s : State) (q : Nat) : State :=
  let m := fun j => s.cycleMean (1 + 4 * q + j)
  (((s.dwr (Reg.METR_AC_V q) (toWord (m 0 / 100000))).dwr (Reg.METR_AC_I q) (toWord (m 1 / 1000))).dwr (Reg.METR_AC_P q)
    (toWord (m 2 / 1000000000000))).dwr (Reg.METR_AC_Q q) (toWord (m 3 / 1000000000000))

/-- A grid cycle closes (R532): the AC registers hold the mean of the last 10 at 50 Hz, of the last 12 at 60 Hz. -/
def State.gridCycle (s : State) (freq : Nat) : State :=
  let keep := if s.nominal nomF = 60 then 12 else 10
  let s1 := s.setMetr { s.metr with cycles := (s.cycleResult freq :: s.metr.cycles).take keep }
  let s2 := [0, 1, 2].foldl State.showPhase s1
  let s3 := s2.dsetF Reg.METR_AC_FREQ Fld.METR_AC_FREQ_FREQ (s2.cycleMean 0).toNat
  [0, 1, 2].foldl (fun st q => [1, 2, 3, 4].foldl (fun (t : State) k => t.setSum (acKey k q) 0) st) (s3.setSum (acKey 0 0) 0)

/-- GRID_CYCLE (R532): a positive-going zero crossing of V_0, and the frequency measured, in 0.01 Hz. -/
def execGridCycle (dt : Nat) (freq : Nat) (s : State) : Out :=
  let s1 := s.tick dt
  .next (if s1.dieRuns && s1.points.contains 0 && decide (0 < s1.sum (acKey 0 0)) then s1.gridCycle freq else s1)

/-- A channel's results over 200 ms (R536). -/
def State.closeStats (s : State) (c : Nat) : State :=
  let v := s.dch c
  if s.dKind c = 0 ∨ v.n < 6400 then s
  else
    let r := sqrtBits 40 (v.sq / v.n) 0
    (s.setDch c { v with n := 0, sq := 0, sum := 0, hi := 0, lo := 0, rms := r, mean := v.sum / v.n, pkHi := v.hi, pkLo := v.lo }).dwr
      (Reg.METR_CH_RMS c) (BitVec.ofNat 32 r)

/-- CHANNEL_STATS (R536). -/
def execChannelStats (dt : Nat) (s : State) : Out :=
  let s1 := s.tick dt
  .next (if s1.dieRuns then (List.range 48).foldl State.closeStats s1 else s1)

/-- One channel's harmonics of a window: THD in 0.01 % and the words METR_HARM_0 to 127. -/
def harmChannel (m : SMap Word) (e : Nat × Nat × List Word) : SMap Word :=
  let put := fun (x : SMap Word) (k : Nat) (w : Word) => SMap.put (fun _ => 0) x k w
  (List.range 128).foldl (fun x h => put x (e.1 * 256 + h) (e.2.2.getD h 0))
    (put m (e.1 * 256 + 128) (BitVec.ofNat 32 (e.2.1 % 65536 * 65536)))

/-- HARMONIC_WINDOW (R10, R536): a window's harmonics of the used channels, where the image uses the analysis. -/
def execHarmonicWindow (dt : Nat) (res : List (Nat × Nat × List Word)) (s : State) : Out :=
  let s1 := s.tick dt
  if s1.dieRuns && hasHarm s1.variant && s1.metr.harmUsed then
    let used := res.filter fun e => decide (e.1 < 48) && s1.dKind e.1 != 0
    let m := used.foldl harmChannel s1.metr.harm
    let n := SMap.get (fun _ => 0) m 0x10000
    .next (s1.setMetr { s1.metr with harm := SMap.put (fun _ => 0) m 0x10000 ((n + 1) &&& 0xFFFF) })
  else .next s1

/-! ### Polarity (R542) -/

/-- POLARITY_DETECT (R542): a channel's condition has held for its time: 10 s, for the voltage of a DC group 1 s. -/
def execPolarityDetect (dt : Nat) (c : Nat) (s : State) : Out :=
  let s1 := s.tick dt
  let k := c % 48
  let v := s1.dch k
  let cfg := s1.drd (Reg.METR_CH_CFG k)
  let lim := if 8 ≤ fget Fld.METR_CH_CFG_GROUP cfg ∧ fget Fld.METR_CH_CFG_ROLE cfg = 1 then Config.sec 1 else Config.sec 10
  match s1.pointOf k with
  | none => .next s1
  | some g =>
    if s1.dieRuns ∧ v.pol = false ∧ s1.dieLasted v.polAt lim then
      let s2 := ((s1.setDch k { v with pol := true }).tamper 2 g).dieEvent Ev.METR_POLARITY (evArg k 0 0)
      .next (if g ≠ 0 ∧ (s2.sacc (g - 1)).on then s2.setSacc (g - 1) { s2.sacc (g - 1) with flags := (s2.sacc (g - 1)).flags ||| 0x80 }
        else s2)
    else .next s1

/-! ### The seal (R543, R545) -/

/-- The addresses of the RWS registers of METR, rising (R545). -/
def rwsAddrs : List Nat :=
  [Reg.METR_CAL_CTRL] ++ (List.range 8).map Reg.METR_DC_LOSS
  ++ (List.range 48).flatMap (fun c => [Reg.METR_CAL_GAIN c, Reg.METR_CAL_OFS c, Reg.METR_CAL_PH c])
  ++ (List.range 48).flatMap fun c => (List.range 16).flatMap fun k => [Reg.METR_TC c k, Reg.METR_TCP c k]

/-- A digest in its 12 registers, byte 4k in bits [31:24]. -/
def State.digestRegs (s : State) (base : Nat → Nat) (d : List Byte) : State :=
  (List.range 12).foldl (fun st k => st.dwr (base k) (BitVec.ofNat 32 (leNat ((d.drop (4 * k)).take 4).reverse))) s

/-- The seal is taken (R545), and the INVALID of R556 ends. -/
def State.takeSeal (s : State) : State :=
  let s1 := s.dwr Reg.METR_CAL_CTRL 0
  let s2 := if s1.metr.working.isEmpty then s1
            else
              let d := Config.sha384 s1.metr.working
              (s1.setMetr { s1.metr with mapHeld := true, mapDigest := d }).digestRegs Reg.METR_MAP_DIG d
  let s3 := s2.digestRegs Reg.METR_CAL_DIG (Config.sha384 (rwsAddrs.flatMap fun a => leBytes 4 (s2.drd a).toNat))
  let s4 := s3.dsetF Reg.METR_SEAL Fld.METR_SEAL_CAL_COUNT (min (s3.dfld Reg.METR_SEAL Fld.METR_SEAL_CAL_COUNT + 1) 0xFFFF)
  let s5 := { s4 with bill := { s4.bill with regError := false } }
  (s5.dwr64 Reg.METR_SEAL_TS_LO s5.dieTs.toNat).dieEvent Ev.METR_SEALED (evArg 0xFFF 0 0)

/-- The loop enters a state: 0 CLOSED, 1 OPEN, 2 CLOSING. -/
def State.loopTo (s : State) (st : Nat) : State := s.setMetr { s.metr with loop := st, loopRun := 0 }

/-- A word has come back, correct or not (R543). -/
def State.sealWord (s : State) (ok : Bool) : State :=
  let m := s.metr
  if m.loop = 0 then
    if ok then s.setMetr { m with loopRun := 0 }
    else if 3 ≤ m.loopRun + 1 then ((s.loopTo 1).tamper 0).dieEvent Ev.METR_SEAL_OPEN (evArg 0xFFF 0 0)
    else s.setMetr { m with loopRun := m.loopRun + 1 }
  else if m.loop = 1 then (if ok then s.loopTo 2 else s)
  else if ok then
    if 1000 ≤ m.loopRun + 1 then (s.loopTo 0).takeSeal else s.setMetr { m with loopRun := m.loopRun + 1 }
  else (s.loopTo 1).tamper 0

/-- SEAL_WORD (R543): the word that came back on SEAL_B for the one driven on SEAL_A. -/
def execSealWord (dt : Nat) (back : BitVec 16) (s : State) : Out :=
  let s1 := s.tick dt
  if s1.metr.on then
    let ok := back == s1.metr.lfsr
    .next ((s1.setMetr { s1.metr with lfsr := Config.lfsrNext s1.metr.lfsr }).sealWord ok)
  else .next s1

/-! ### Result records (R548, R549) -/

/-- METR_CH_STAT_c on the die. -/
def State.showChannel (s : State) (c : Nat) : State :=
  let v := s.dch c
  s.dwr (Reg.METR_CH_STAT c) (BitVec.ofNat 32 (flag v.opened * 0x80000000 + flag v.ovl * 0x40000000 + flag v.pol * 0x20000000
    + flag v.tempSrc * 0x10000000 + flag v.tempRange * 0x8000000))

/-- METR_STAT on the die. -/
def State.dieStat (s : State) : Word :=
  let valid := fun g => s.points.contains g && !s.pointInvalid g
  let dc := fun p : Nat → Bool => (List.range 8).foldl (fun m n => withBit m n (p (n + 1))) 0
  BitVec.ofNat 32 (s.metr.loop * 0x40000000 + flag s.metr.free * 0x10000000 + 0x8000000 + flag (hasHarm s.variant) * 0x4000000
    + flag (valid 0) * 0x2000000 + flag (s.pointTest 0) * 0x1000000 + dc s.pointTest * 0x10000 + dc valid * 0x100)

/-- The registers as a record carries them. -/
def State.dieShow (s : State) : State :=
  let s1 := (List.range 48).foldl State.showChannel s
  let s2 := (s1.dwr Reg.METR_STAT s1.dieStat).dwr Reg.METR_ID Config.dieId
  let s3 := (s2.dsetF Reg.BILL_STAT Fld.BILL_STAT_FREE (flag s2.metr.free)).dsetF Reg.BILL_STAT Fld.BILL_STAT_FLUSH_OK
    (flag s2.bill.flushOk)
  s3.dwr Reg.BILL_REC_NEXT (BitVec.ofNat 32 (s3.bill.mem.sessNo % 65536 * 65536 + s3.bill.mem.intNo % 65536))

/-- What the allocation reads in a record (R420 to R430): the import of the running interval in µWh, the power at G, the interval's
end and length, the tariff. -/
def State.alocData (s : State) : AlocData :=
  let frac := SMap.get (fun _ => 0) s.bill.mem.resid 0 * 1000 / mWhUnit
  { eUsed := s.intEnergy 0 0 * 1000 + frac
    pGrid := [0, 1, 2].foldl (fun a q => a + (s.drd (Reg.METR_AC_P q)).toInt) 0
    ts := s.dieTs, endTs := s.demEnd, len := Config.sec (60 * s.demLen), tariff := s.tariff }

/-- A result record leaves the die, stamped with the time of its sample instant. -/
def State.sendRecord (s : State) : State :=
  let s1 := s.dieShow
  let m := s1.metr
  let r : DieRec :=
    { ts := m.lastTs, free := m.free, regs := s1.bill.mem.regs, harm := m.harm, aloc := s1.alocData, events := m.events, closed := m.closed }
  s1.setMetr { m with outbox := m.outbox ++ [r], events := [], closed := [], boundary := false, sentAt := s1.tm.life }

/-- RESULT_RECORD (R548): every 10 ms, and at once at a boundary. -/
def execResultRecord (dt : Nat) (s : State) : Out :=
  let s1 := s.tick dt
  .next (if s1.dieRuns && (s1.metr.boundary || decide (Config.msec 10 ≤ s1.sinceLife s1.metr.sentAt)) then s1.sendRecord else s1)

/-- Registers that show the latest record: the METR and BILL blocks but for the counts the sides keep, the commands, the settings
and the record window. -/
def dieShown (addr : Nat) : Bool :=
  (addr / 0x10000 == 0xD && addr != Reg.METR_CLR && addr != Reg.METR_HARM_SEL
    && !(decide (0xD1000 ≤ addr) && decide (addr < 0xD1600) && addr % 0x20 == 0x10))
  || (addr / 0x10000 == 0xE && addr != Reg.BILL_CTRL && addr != Reg.BILL_DEM_CFG
    && !(decide (0xE2000 ≤ addr) && decide (addr < 0xE2700)) && addr != Reg.BILL_REC_SEL && addr != Reg.BILL_REC_STAT)

/-- The register file with a record's registers shown. -/
def showRecord (regs shown : SMap Word) : SMap Word :=
  (shown.filter fun e => dieShown e.1).foldl (fun m e => SMap.insert m e.1 e.2) (regs.filter fun e => !dieShown e.1)

/-- An event that a record reports, with its count (R539, R540, R549). -/
def State.dieReport (s : State) (e : Nat × Count × Word) : State :=
  let c := e.2.2.toNat / 0x100000
  let s1 := s.postFull e.1 e.2.1 e.2.2 false
  if e.1 = Ev.METR_OPEN then s1.bump (Reg.METR_CH_CNT c) Fld.METR_CH_CNT_OPENS
  else if e.1 = Ev.METR_OVERLOAD then s1.bump (Reg.METR_CH_CNT c) Fld.METR_CH_CNT_OVERLOADS
  else s1

/-- The record passes queue 108 of each side that runs (R92, R548). -/
def State.recordQueue (s : State) (ts : Count) : State :=
  ([Side.a, Side.b].filter fun x => s.sideRunning x).foldl (fun st x => ((st.gapOffer x 108 0 ts).queueTake x 108).2) s

/-- The sides keep copies of the closed records with the monotonic count at which they came (R558, R581); a record that comes again
replaces its copy, and the oldest go. -/
def State.keepCopies (s : State) (rs : List (Nat × Nat)) : State :=
  let old := s.bill.copies.filter fun e => !(rs.contains (e.1, e.2.1))
  let all := old ++ rs.map fun e => (e.1, e.2, s.tm.mono)
  { s with bill := { s.bill with copies := all.drop (all.length - 51416) } }

/-- A record reaches the sides (R548, R549). -/
def State.takeRecord (s : State) (r : DieRec) : State :=
  let s1 := { s with
    regs := showRecord s.regs r.regs
    metr := { s.metr with outbox := s.metr.outbox.drop 1, rxAt := some s.tm.life, shownHarm := r.harm } }
  (r.events.foldl State.dieReport ((s1.keepCopies r.closed).recordQueue r.ts)).alocResult r.aloc

/-- METROLOGY_RESULT (R548): the oldest record on the one-way channel arrives. -/
def execMetrologyResult (dt : Nat) (s : State) : Out :=
  let s1 := s.tick dt
  match s1.metr.outbox with
  | [] => .next s1
  | r :: _ => .next (s1.takeRecord r)

/-- A write to METR_CLR. -/
def State.metrClrWrite (s : State) (acc : Access) (val : Word) : State :=
  s.command acc Reg.METR_CLR .op fun s1 =>
    if fget Fld.METR_CLR_CLEAR val = 1 then (List.range 48).foldl (fun st c => st.clearCount (Reg.METR_CH_CNT c)) s1 else s1

/-- METR_CLR (R539). -/
def execMetrClr (dt : Nat) (acc : Access) (val : Word) (s : State) : Out := .next ((s.tick dt).metrClrWrite acc val)

end Sys2Proof.Machine
end

