-- ==== Sys2Proof/Machine/Bill.lean ====
section
/-! DEFINITION. Billing on the metrology die (R552 to R587): the boundary steps as they come, power cuts, settings, records read out,
and the legal displays. -/

namespace Sys2Proof.Machine

open Sys2Proof

/-! ### Boundaries (R564 to R580) -/

/-- DEMAND_INTERVAL_END (R566). -/
def execDemandIntervalEnd (dt : Nat) (s : State) : Out := .next ((s.tick dt).boundaryStep State.intervalStep)

/-- TARIFF_SWITCH (R564). -/
def execTariffSwitch (dt : Nat) (s : State) : Out := .next ((s.tick dt).boundaryStep State.tariffStep)

/-- BILLING_PERIOD_CLOSE (R568). -/
def execBillingPeriodClose (dt : Nat) (s : State) : Out := .next ((s.tick dt).boundaryStep State.periodStep)

/-- The oldest instant that sessions passed takes effect when it has come and is of the given kind (R578). -/
def State.nextInstant (s : State) (opens : Bool) : State :=
  match s.outl.toMeter with
  | e :: r =>
    if e.2.1 == opens && decide (e.2.2.toNat ≤ s.dieTs.toNat) then
      { s with outl := { s.outl with toMeter := r } }.sessionInstant e
    else s
  | [] => s

/-- SESSION_ACCUM_OPEN (R578). -/
def execSessionAccumOpen (dt : Nat) (s : State) : Out := .next ((s.tick dt).boundaryStep fun t => t.nextInstant true)

/-- SESSION_ACCUM_CLOSE (R578). -/
def execSessionAccumClose (dt : Nat) (s : State) : Out := .next ((s.tick dt).boundaryStep fun t => t.nextInstant false)

/-- A byte string of a fixed length: cut, or filled with zeros at its end. -/
def fitTo (n : Nat) (bs : List Byte) : List Byte := (bs ++ List.replicate n 0).take n

/-- The oldest unsigned session record takes its signature (R580). -/
def State.signNext (s : State) : State :=
  match s.bill.mem.unsigned with
  | [] => s
  | k :: r =>
    let m := s.bill.mem
    let body := fitTo 0x120 (SMap.get (fun _ => []) m.sessRecs k)
    let signed := body ++ fitTo 96 (Config.dieSign s.bill.keyNo (Config.sha384 body))
    let recs := if m.sessRecs.any fun e => e.1 == k then SMap.insert m.sessRecs k signed else m.sessRecs
    let s1 := s.setMem { m with unsigned := r, sessRecs := recs }
    s1.setMetr { s1.metr with closed := s1.metr.closed ++ [(0, k)] }

/-- SESSION_SIGNED (R580). -/
def execSessionSigned (dt : Nat) (s : State) : Out :=
  let s1 := s.tick dt
  .next (if s1.dieRuns then s1.signNext else s1)

/-- REGISTER_SAVE (R574): each 100 ms of meter count. -/
def execRegisterSave (dt : Nat) (s : State) : Out :=
  let s1 := s.tick dt
  .next (if s1.dieRuns && decide (s1.bill.savedMc + 3200 ≤ s1.bill.mem.mc) then s1.saveDie else s1)

/-! ### Power cuts (R575 to R577, R582) -/

/-- A cut as the die logs it: POWER_DOWN, the count and the timestamp of F. -/
def State.logCut (s : State) : State :=
  let s1 := s.tamperAt 6 0xFFF s.metr.lastTs
  let s2 := s1.dsetF Reg.BILL_PWR Fld.BILL_PWR_CUTS (min (s1.dfld Reg.BILL_PWR Fld.BILL_PWR_CUTS + 1) 0xFFFF)
  s2.dwr64 Reg.BILL_PWR_TS_LO s.metr.lastTs.toNat

/-- What the die has in RAM goes with its supply: channels, sums, time, what is on its way. -/
def State.dieDark (s : State) : State :=
  { s.setMetr { MetrPart.reset with
      mapHeld := s.metr.mapHeld, mapDigest := s.metr.mapDigest, working := s.metr.working, pars := s.metr.pars, on := false
      outbox := s.metr.outbox, rxAt := s.metr.rxAt, shownHarm := s.metr.shownHarm, lfsr := s.metr.lfsr, lastTs := s.metr.lastTs, tamps := s.metr.tamps }
    with bill := { s.bill with due := [], demNew := none, calSeen := none, reqs := [], disps := [] } }

/-- The last saved content, as the die finds it at its start. -/
def State.lastSaved (s : State) : DieMem := s.withMetrRegs s.bill.saved

/-- METR_POWER_FAIL (R575): the cut is logged with F, and the final flush writes every register with FLUSH_OK; flushed tells whether it
completed. A boundary up to F was completed with its sample instant (R573), and one after F is not taken. -/
def execMetrPowerFail (dt : Nat) (flushed : Bool) (s : State) : Out :=
  let s1 := s.tick dt
  if s1.metr.on then
    let keep := s1.lastSaved
    let s3 := s1.logCut
    let s4 := if flushed then s3.saveDie
              else (({ s3 with bill := { s3.bill with mem := keep } }).logCut)
    .next (({ s4 with bill := { s4.bill with flushOk := flushed, cutTs := s3.metr.lastTs } }).dieDark)
  else .next s1

/-- E_BOUND of a point in µJ: 0.1 s of P_RANGE (R576). -/
def State.energyBound (s : State) (g : Nat) : Nat :=
  if g = 0 then 36 * s.nominal nomV * s.nominal nomMax / 100 else 144 * s.nominal (nomDcV (g - 1)) * s.nominal (nomDcI (g - 1)) / 1000

/-- A failed flush (R576): the last saved registers stand, with a gap record for each point. -/
def State.flushFailed (s : State) : State :=
  let gaps := s.points.map fun g => (⟨g, s.bill.savedTs, s.bill.savedMc, s.energyBound g⟩ : GapRec)
  let s1 := s.setMem { s.bill.mem with gaps := s.bill.mem.gaps ++ gaps }
  let s2 := s1.dsetF Reg.BILL_PWR Fld.BILL_PWR_INCOMPLETE (min (s1.dfld Reg.BILL_PWR Fld.BILL_PWR_INCOMPLETE + 1) 0xFFFF)
  (s2.tamper 7).dieEvent Ev.BILL_INCOMPLETE (evArg 0xFFF 0 0)

/-- What was open at the cut is closed at F (R577): flags POWER, and INCOMPLETE after a failed flush. -/
def State.closeOpen (s : State) : State :=
  let inc := if s.bill.flushOk then 0 else 4
  let f := s.bill.cutTs
  let s1 := (List.range 8).foldl (fun st n => if (st.sacc n).on then st.closeSession n (8 + inc) f else st) s
  let s2 := if s1.d64 Reg.BILL_DEM_END_LO = 0 ∧ s1.bill.mem.mc = s1.bill.mem.intMc then s1 else s1.closeInterval (2 + inc) f
  (s2.setMem { s2.bill.mem with intFlags := 3 }).dwr64 Reg.BILL_DEM_END_LO 0

/-- The sides send every setting of the BILL block again (R584). -/
def State.resendSettings (s : State) : State :=
  let mine := fun a => a == Reg.BILL_DEM_CFG || (decide (0xE2000 ≤ a) && decide (a < 0xE2700))
  let keys := ((s.regs.filter fun e => mine e.1).map (·.1)) ++ ((s.bill.mem.regs.filter fun e => mine e.1).map (·.1))
  { s with bill := { s.bill with due := s.bill.due ++ keys.map fun a => (a, s.rd a, s.dieTs) } }

/-- The die's start (R543, R556, R576, R577): CLOSING, the copies and the flush checked, what was open closed, the settings sent again. -/
def State.dieStart (s : State) : State :=
  let s1 := s.setMetr { s.metr with on := true, sleep := false, loop := 2, loopRun := 0, timeKnown := false, markTs := s.bill.cutTs,
                                    markAt := s.tm.life, slew := 0, stepDue := none }
  let s2 := s1.copiesCheck
  let s3 := if s2.bill.flushOk then s2 else s2.flushFailed
  s3.closeOpen.resendSettings

/-- METR_DIE_START (R576): the supply is back; holdupOk is the hold-up store's self-test (R582). -/
def execMetrDieStart (dt : Nat) (holdupOk : Bool) (s : State) : Out :=
  let s1 := s.tick dt
  if s1.metr.on then .next s1
  else
    let s2 := s1.dieStart
    .next (if holdupOk then s2 else s2.tamper 19)

/-- DIE_WATCHDOG_RESET (R582): the die starts again from its saved registers, with no FLUSH_OK marker. -/
def execDieWatchdogReset (dt : Nat) (s : State) : Out :=
  let s1 := s.tick dt
  if s1.metr.on then
    let ts := s1.metr.lastTs
    let s2 := { s1 with bill := { s1.bill with mem := s1.lastSaved, flushOk := false, cutTs := ts } }.dieDark
    .next (s2.dieStart.tamper 23)
  else .next s1

/-- The transition from BLANK to PROVISIONED on the die (R554, R580, R582): energy registers, meter count and tamper table start anew, and a
key pair is generated. -/
def State.dieProvision (s : State) : State :=
  let keep := fun a => a / 0x10000 == 0xD || a == Reg.BILL_DEM_CFG || (decide (0xE2000 ≤ a) && decide (a < 0xE2700))
  let m := { DieMem.reset with regs := s.bill.mem.regs.filter fun e => keep e.1 && !(decide (0xD0180 ≤ e.1) && decide (e.1 < 0xD01D0)) }
  { s with bill := { s.bill with
      mem := m, saved := m, saved2 := m, savedOk := true, saved2Ok := true, regError := false, keyNo := s.bill.keyNo + 1, savedMc := 0 } }

/-! ### Commands and settings (R567, R568, R584) -/

/-- A write to BILL_CTRL (R568): a BILL_RESET is accepted at most once per 24 h of meter count. -/
def State.billCtrlWrite (s : State) (acc : Access) (val : Word) : State :=
  s.command acc Reg.BILL_CTRL .svc fun s1 =>
    if fget Fld.BILL_CTRL_BILL_RESET val = 0 then s1
    else
      let early := match s1.bill.resetMc with
        | some c => decide (s1.bill.mem.mc < c + 2764800000)
        | none => false
      if early || !s1.dieRuns then s1.post Ev.BILL_CMD_REFUSED
      else
        { s1 with bill := { s1.bill with
            resetAt := some (s1.dieTs.toNat / Config.sec 1 + 1), resetMc := some s1.bill.mem.mc } }.tamper 15

/-- BILL_RESET (R568). -/
def execBillReset (dt : Nat) (acc : Access) (val : Word) (s : State) : Out := .next ((s.tick dt).billCtrlWrite acc val)

/-- A register of the tariff calendar. -/
def calendarReg (addr : Nat) : Bool := decide (0xE2000 ≤ addr) && decide (addr < 0xE2600)

/-- One setting reaches the die; a value it holds already is ignored. DEM_LEN waits for R567. -/
def State.applySetting (s : State) (addr : Nat) (w : Word) : State :=
  if addr = Reg.BILL_DEM_CFG then
    let len := fget Fld.BILL_DEM_CFG_DEM_LEN w
    let s1 := s.dsetF addr Fld.BILL_DEM_CFG_BILL_DAY (fget Fld.BILL_DEM_CFG_BILL_DAY w)
    { s1 with bill := { s1.bill with demNew := if len = s.dfld addr Fld.BILL_DEM_CFG_DEM_LEN ∨ len = 0 then none else some len } }
  else s.dwr addr w

/-- The settings whose second has come apply (R584): a changed calendar is logged, and the tariff follows it. -/
def State.applySettings (s : State) : State :=
  let ripe := fun e : Nat × Word × Count => decide (e.2.2.toNat / Config.sec 1 < s.dieTs.toNat / Config.sec 1)
  let now := s.bill.due.filter ripe
  let changed := now.filter fun e => s.drd e.1 != e.2.1
  let s1 := { s with bill := { s.bill with due := s.bill.due.filter fun e => !ripe e } }
  let s2 := changed.foldl (fun st e => st.applySetting e.1 e.2.1) s1
  if changed.any fun e => calendarReg e.1 then
    ({ s2 with bill := { s2.bill with calSeen := none } }.tamper 13).boundaryStep State.tariffStep
  else s2

/-- BILL_SETTINGS_APPLY (R584). -/
def execBillSettingsApply (dt : Nat) (s : State) : Out :=
  let s1 := s.tick dt
  .next (if s1.dieRuns then s1.applySettings else s1)

/-! ### Records read out (R581, R584) -/

/-- A value in BILL_REC_SEL: the record is requested for the path, and its window is not READY. -/
def State.billRecSelect (s : State) (p : Path) (val : Word) : State :=
  let s1 := (s.pwr p Reg.BILL_REC_SEL (val &&& 0xC0FFFFFF)).pwr p Reg.BILL_REC_STAT 0
  { s1 with bill := { s1.bill with
      reqs := SMap.put (fun _ => none) s1.bill.reqs p.code (some ((val &&& 0xC0FFFFFF).toNat, s1.tm.life)) } }

/-- A write to BILL_REC_SEL. -/
def State.billRecSelWrite (s : State) (acc : Access) (val : Word) : State :=
  s.setting acc Reg.BILL_REC_SEL val fun s1 => s1.billRecSelect acc.path val

/-- BILL_REC_REQUEST (R584). -/
def execBillRecRequest (dt : Nat) (acc : Access) (val : Word) (s : State) : Out := .next ((s.tick dt).billRecSelWrite acc val)

/-- The record that a selection names, if the die holds it; the public key has 97 bytes. -/
def State.billRecord (s : State) (sel : Nat) : Option (List Byte) :=
  let n := sel % 0x1000000
  let m := s.bill.mem
  let at' := fun r : SMap (List Byte) => (r.find? fun e => e.1 % 0x1000000 == n).map (·.2)
  match sel / 0x40000000 with
  | 0 => at' m.sessRecs
  | 1 => at' m.intRecs
  | 2 => at' m.histRecs
  | _ => some (fitTo 97 (Config.diePublicKey s.bill.keyNo))

/-- The requested record reaches the window of a path. -/
def State.recordReady (s : State) (p : Path) (sel : Nat) : State :=
  let s1 := { s with bill := { s.bill with reqs := SMap.put (fun _ => none) s.bill.reqs p.code none } }.eraseBytes (billWinKey p 0) 0x800
  match s.billRecord sel with
  | none => s1.pwr p Reg.BILL_REC_STAT 0x40000000
  | some bs =>
    let s2 := (bs.zipIdx).foldl (fun (st : State) (e : Byte × Nat) => st.setByte (billWinKey p e.2) e.1) s1
    s2.pwr p Reg.BILL_REC_STAT (BitVec.ofNat 32 (0x80000000 + bs.length))

/-- BILL_REC_READY (R581). -/
def execBillRecReady (dt : Nat) (p : Path) (s : State) : Out :=
  let s1 := s.tick dt
  match SMap.get (fun _ => none) s1.bill.reqs p.code with
  | some (sel, _) => .next (if s1.dieRuns then s1.recordReady p sel else s1)
  | none => .next s1

/-! ### Legal displays (R585) -/

/-- A display's list: items 1 to 3, then the enabled ones. -/
def State.dispList (s : State) (n : Nat) : List Nat :=
  let code := fun i => s.dfld (Reg.BILL_DISP_ITEMS n (i / 4)) ⟨8 * (i % 4), 8⟩
  [1, 2, 3] ++ ((List.range 13).map code).takeWhile fun c => c != 0

/-- The item a display shows. -/
def State.dispItem (s : State) (n : Nat) : Nat :=
  let d := s.disp n
  let g := s.dfld (Reg.BILL_DISP_CFG n) Fld.BILL_DISP_CFG_POINT
  let xs := s.dispList n
  match d.state with
  | 1 => if d.pos % 2 = 1 ∧ 0 < (byTariff (s.sacc (g - 1)).billed 1).foldl (· + ·) 0 then 5 else 4
  | 2 => 0x23
  | 4 => 0x24
  | _ => xs.getD (d.pos % xs.length) 1

/-- The decimal digits of a number, n of them at least. -/
def decimal : Nat → Nat → List Byte
  | 0, _ => []
  | n + 1, v => decimal n (v / 10) ++ [BitVec.ofNat 8 (0x30 + v % 10)]

/-- A number of 0.001 with its point, right-aligned in 12 characters; leading zeros before the units are blanks. -/
def milliText (v : Nat) : List Byte :=
  let whole := decimal 8 (v / 1000)
  let lead := (whole.take 7).takeWhile fun b => b == 0x30
  lead.map (fun _ => 0x20) ++ whole.drop lead.length ++ [0x2E] ++ decimal 3 v

/-- The OBIS code of an item at a point, where R586 gives one. -/
def obisOf (item g : Nat) : Option (List Byte) :=
  let b := BitVec.ofNat 8 g
  let e := BitVec.ofNat 8 (item % 8 + 1)
  if item = 1 then some [1, b, 1, 8, 0, 255]
  else if item = 2 then some [1, b, 2, 8, 0, 255]
  else if item = 3 then some [1, 0, 0, 2, 0, 255]
  else if item = 6 then some [0, 0, 96, 14, 0, 255]
  else if 0x10 ≤ item ∧ item < 0x18 then some [1, b, 1, 8, e, 255]
  else if 0x18 ≤ item ∧ item < 0x20 then some [1, b, 2, 8, e, 255]
  else if item = 0x20 then some [1, b, 1, 6, 0, 255]
  else if item = 0x21 then some [0, 0, 1, 0, 0, 255]
  else if item = 0x23 then some [0, b, 128, 1, 0, 255]
  else none

/-- The energy in Wh that an item shows. -/
def State.itemEnergy (s : State) (item g : Nat) : Option Nat :=
  if item = 1 then some (s.d64 (Reg.BILL_E g 0) / 1000)
  else if item = 2 then some (s.d64 (Reg.BILL_E g 2) / 1000)
  else if (item = 4 ∨ item = 5) ∧ g = 0 then some 0
  else if item = 4 then some ((byTariff (s.sacc (g - 1)).billed 0).foldl (· + ·) 0 / 1000)
  else if item = 5 then some ((byTariff (s.sacc (g - 1)).billed 1).foldl (· + ·) 0 / 1000)
  else if 0x10 ≤ item ∧ item < 0x18 then some (s.d64 (Reg.BILL_E g (4 + 2 * (item % 8))) / 1000)
  else if 0x18 ≤ item ∧ item < 0x20 then some (s.d64 (Reg.BILL_E g (20 + 2 * (item % 8))) / 1000)
  else none

/-- What an item without a given form shows (R585): its numbers. -/
def State.itemData (s : State) (item g : Nat) : List Nat :=
  match item with
  | 3 => [Config.dieId.toNat]
  | 6 => [s.tariff]
  | 0x20 => [(s.drd (Reg.BILL_E g 52)).toNat]
  | 0x21 => [s.dieLocal]
  | 0x22 => [s.dfld Reg.METR_SEAL Fld.METR_SEAL_CAL_COUNT, s.d64 Reg.METR_SEAL_TS_LO]
  | 0x23 => match ((s.bill.mem.sessRecs.filter fun e => (e.2.getD 6 0).toNat + 1 == g).getLast?) with
    | some e => [e.1, leNat ((e.2.drop 0x50).take 8), leNat ((e.2.drop 0x58).take 8)]
    | none => []
  | 0x24 => [flag (s.pointInvalid g), flag (s.pointTest g), flag s.metr.free, flag (s.metr.loop == 1)]
  | _ => []

/-- A frame of a display (the table before R585). -/
def State.dispFrame (s : State) (n : Nat) : List Byte :=
  let g := s.dfld (Reg.BILL_DISP_CFG n) Fld.BILL_DISP_CFG_POINT
  let item := s.dispItem n
  let obis := (obisOf item g).getD (fitTo 6 (Config.displayObis item g))
  let text := match s.itemEnergy item g with
    | some v => milliText v ++ [0x6B, 0x57, 0x68, 0x20]
    | none => fitTo 16 (Config.displayText item (s.itemData item g))
  let flags := flag (s.pointInvalid g) + 2 * flag (s.pointTest g) + 4 * flag s.metr.free + 8 * flag (s.metr.loop == 1)
  let body := [BitVec.ofNat 8 item] ++ obis ++ text ++ [BitVec.ofNat 8 flags]
  [2] ++ body ++ [3] ++ leBytes 2 (crc16 body).toNat

/-- A display sends a frame; its list goes on after DWELL seconds. -/
def State.sendDisplay (s : State) (n : Nat) : State :=
  let d := s.disp n
  let dwell := Config.sec (max 1 (s.dfld (Reg.BILL_DISP_CFG n) Fld.BILL_DISP_CFG_DWELL))
  let s1 := if d.state < 2 ∧ dwell ≤ s.sinceLife d.itemAt then s.setDisp n { d with pos := d.pos + 1, itemAt := s.tm.life } else s
  s1.setDisp n { s1.disp n with frame := s1.dispFrame n, frameAt := s1.tm.life }

/-- DISPLAY_FRAME (R585, R709): every 250 ms; in SLEEP only for 30 s after a press. -/
def execDisplayFrame (dt : Nat) (n : Nat) (s : State) : Out :=
  let s1 := s.tick dt
  let d := s1.disp (n % 8)
  let awake := s1.metr.on && (!s1.metr.sleep || match d.pressAt with
    | some t => decide (s1.sinceLife t ≤ Config.sec 30)
    | none => false)
  .next (if awake && decide (Config.msec 250 ≤ s1.sinceLife d.frameAt) then s1.sendDisplay (n % 8) else s1)

/-- DISPLAY_BUTTON (R585): a press of the given counts: below 1 s MANUAL or the next item, from 2 s STATUS. -/
def execDisplayButton (dt : Nat) (n held : Nat) (s : State) : Out :=
  let s1 := s.tick dt
  let k := n % 8
  if s1.metr.on then
    let s2 := s1.setDisp k { s1.disp k with pressAt := some s1.tm.life }
    let d := s2.disp k
    if Config.sec 2 ≤ held then
      .next ((s2.dispTo k 4).setDisp k { (s2.dispTo k 4).disp k with back := if d.state = 4 then d.back else d.state })
    else if held < Config.sec 1 ∧ d.state = 3 then .next (s2.setDisp k { d with pos := d.pos + 1, since := s2.tm.life })
    else if held < Config.sec 1 ∧ d.state < 3 then
      .next ((s2.dispTo k 3).setDisp k { (s2.dispTo k 3).disp k with manBack := d.state })
    else .next s2
  else .next s1

/-- DISPLAY_TIMEOUT (R585): HOLD lasts 120 s, MANUAL 30 s without a press, STATUS 10 s. -/
def execDisplayTimeout (dt : Nat) (n : Nat) (s : State) : Out :=
  let s1 := s.tick dt
  let k := n % 8
  let d := s1.disp k
  let run := s1.sinceLife d.since
  if s1.metr.on = false then .next s1
  else if d.state = 2 ∧ Config.sec 120 ≤ run then .next (s1.dispTo k 0)
  else if d.state = 3 ∧ Config.sec 30 ≤ run then .next (s1.dispTo k d.manBack)
  else if d.state = 4 ∧ Config.sec 10 ≤ run then .next (s1.dispTo k d.back)
  else .next s1

end Sys2Proof.Machine
end

