-- ==== Sys2Proof/Machine/Can.lean ====
section
/-! DEFINITION. The site bus controllers: the host's messages, hardware queues, receive objects, error confinement, wiring faults, sleep
and wake (R613 to R637). -/

namespace Sys2Proof.Machine

open Sys2Proof

/-! ### Messages that registers send (R621) -/

/-- A length that a frame format carries (R621). -/
def lenOk (fmt len : Nat) : Bool :=
  if fmt = 0 then decide (len ≤ 8)
  else if fmt = 1 then decide (len ≤ 8) || [12, 16, 20, 24, 32, 48, 64].contains len
  else decide (1 ≤ len) && decide (len ≤ 2048)

/-- Bytes of consecutive words, byte 0 in bits 7 to 0 of the first. -/
def State.wordsBytes (s : State) (addr len : Nat) : List Byte :=
  (List.range len).map fun i => (s.rd (addr + i / 4 * 4)).extractLsb' (8 * (i % 4)) 8

/-- The message staged for a port (R621). -/
def State.staged (s : State) (k p len : Nat) : CanMsg :=
  let w := s.rd (Reg.CAN_PORT_ID k p)
  let ide := fget Fld.CAN_PORT_ID_IDE w == 1
  let id := if ide then fget Fld.CAN_PORT_ID_ID w else fget Fld.CAN_PORT_ID_ID w % 2048
  let xl := s.portCfg k p Fld.CAN_PORT_CFG_XL == 1
  let fd := fget Fld.CAN_PORT_ID_FDF w == 1
  ⟨id, ide, if xl then 2 else flag fd, fd && fget Fld.CAN_PORT_ID_BRS w == 1,
    if xl then s.wordsBytes (0x102000 + 0x4000 * k) len else s.wordsBytes (0x101000 + 0x4000 * k + 0x40 * p) len⟩

/-- A write to CAN_PORT_SEND_k_p (R617, R621). -/
def State.canSendWrite (s : State) (acc : Access) (k p : Nat) (val : Word) : State :=
  s.command acc (Reg.CAN_PORT_SEND k p) .op fun s1 =>
    if !s1.hostPort k p then s1.deny acc (Reg.CAN_PORT_SEND k p)
    else
      let len := fget Fld.CAN_PORT_SEND_LEN val
      let m := s1.staged k p (min len 2048)
      if lenOk m.fmt len && decide (m.fmt ≤ s1.fld (Reg.CAN_CFG k) Fld.CAN_CFG_FORMAT) then
        s1.portWrite k p (fget Fld.CAN_PORT_SEND_BUF val) m
      else s1.canRefuse k p

/-- A write to CAN_PORT_ID_k_p or to a staging word: only for ports whose producer is HOST (R621). -/
def State.canStageWrite (s : State) (acc : Access) (addr : Nat) (val : Word) : State :=
  let k := (addr - 0x100000) / 0x4000
  let o := addr % 0x4000
  let p := if o < 0x1000 then (o - 0x100) / 0x20 else if o < 0x2000 then (o - 0x1000) / 0x40
    else ((List.range 16).find? fun q => s.portCfg k q Fld.CAN_PORT_CFG_XL == 1 && s.hostPort k q).getD 16
  if absentUnit s.variant addr || (decide (p < 16) && s.hostPort k p) then s.busWrite acc addr val
  else if acc.role = .reader ∨ p < 16 ∨ 0x2000 ≤ o then s.deny acc addr
  else s.busWrite acc addr val

/-- CAN_PORT_SEND (R617, R621). -/
def execCanPortSend (dt : Nat) (acc : Access) (k p : Nat) (val : Word) (s : State) : Out :=
  .next ((s.tick dt).canSendWrite acc (k % 4) (p % 16) val)

/-- The PERIODIC tick of a port (R620, R635, R637). -/
def State.portTick (s : State) (k p : Nat) : State :=
  let b := (s.canServing k).buf p 0
  let may := b.msg.isSome && b.state != 2 && s.canMode k != 2 && s.canMode k != 4
  if may then
    s.canBoth k fun e =>
      match (e.buf p 0).msg with
      | some m => if (e.buf p 0).state = 2 then e else e.putMsg p 0 m s.tm.mono
      | none => e
  else s.bump (Reg.CAN_PORT_STAT k p) Fld.CAN_PORT_STAT_SKIPS

/-- CAN_PERIODIC_TICK (R620): the first boundary at or after a multiple of PERIOD ms. -/
def execCanPeriodicTick (dt : Nat) (k p : Nat) (s : State) : Out :=
  let s1 := s.tick dt
  let per := Config.msec (max 1 (s1.portCfg k p Fld.CAN_PORT_CFG_PERIOD))
  let n := s1.tm.mono.toNat / per
  let key := k * 16 + p
  let last := SMap.get (fun _ => 0) s1.can.ticks key
  if k < cansOf s1.variant ∧ p < 16 ∧ s1.portCfg k p Fld.CAN_PORT_CFG_MODE = 1 ∧ s1.canMode k ≠ 0 ∧ s1.atCycleStart ∧ last < n then
    .next ({ s1 with can := { s1.can with ticks := SMap.put (fun _ => 0) s1.can.ticks key n } }.portTick k p)
  else .next s1

/-! ### The hardware queue at a boundary (R618) -/

/-- A PENDING buffer that became so before this boundary enters the queue while it has a free entry, beside held entries whose credits are on
their way back (R82). -/
def CanEng.enterBuf (e : CanEng) (held : Nat) (now : Count) (p b : Nat) : CanEng :=
  let q := e.buf p b
  match q.msg with
  | some m =>
    if q.state = 1 ∧ Config.fclk ≤ (now - q.pendAt).toNat ∧ e.queue.length + held < 32 then
      let e1 := e.setBuf p b { q with state := 2 }
      { e1 with queue := e1.queue ++ [⟨p, b, m, q.pendAt⟩], high := max e1.high (e1.queue.length + 1) }
    else e
  | none => e

/-- Every PENDING buffer in ascending port, then buffer number. -/
def CanEng.enterAll (e : CanEng) (held : Nat) (now : Count) : CanEng :=
  (List.range 16).foldl (fun a p => [0, 1, 2].foldl (fun a b => a.enterBuf held now p b) a) e

/-- A buffer waits though its boundary has come. -/
def CanEng.stuck (e : CanEng) (now : Count) : Bool :=
  e.bufs.any fun b => b.2.state == 1 && decide (Config.fclk ≤ (now - b.2.pendAt).toNat)

/-- The objects of controller k whose consumer is inside the module and whose lost flag it clears as it reads (R627). -/
def State.innerLost (s : State) (k : Nat) : List Nat :=
  ((s.canServing k).objs.filter fun o => decide (2 ≤ s.parN (Par.canObjCfg k o.1) / 16 % 16) && o.2.lost).map fun o => o.1

/-- A controller at a base-cycle boundary: an image that uses it starts it; buffers enter the queue; consumers inside the module have read
their objects; the standby side takes the cleared flags (R618, R627, R628, R88). -/
def State.canCycle (s : State) (k : Nat) : State :=
  let s0 := if s.canMode k = 0 ∧ s.par (Par.canUsed k) = 1 ∧ s.hasActive then s.setCanMode k 1 else s
  let s1 := (s0.innerLost k).foldl (fun st o => st.forget Ev.CAN_RX_LOST (k * 1024 + o)) s0
  if s1.canMode k = 0 ∨ s1.canMode k = 2 then s1
  else
    s1.engSides.foldl (fun st x =>
      let e := (st.canEng x k).enterAll ((st.queue x (127 + k)).held st.tm.mono.toNat) st.tm.mono
      let objs := e.objs.map fun o => if 2 ≤ st.parN (Par.canObjCfg k o.1) / 16 % 16 then (o.1, { o.2 with fresh := false, lost := false }) else o
      let q := st.queue x (127 + k)
      let waits := e.stuck st.tm.mono
      ((st.setCan x k { e with objs := objs }).setQueue x (127 + k) { q with high := max q.high e.queue.length }).setStall x (127 + k)
        (if waits then some (q.stall.getD st.tm.mono) else none)) s1

/-- The flags that a copy cleared on the active side reach the standby side (R628). -/
def State.canFlags (s : State) : State :=
  let x := s.serving
  let s1 := s.can.clears.foldl (fun st c =>
    let src := SMap.get (fun _ => CanObj.reset) (st.canEng x c.1).objs c.2
    let e := st.canEng x.other c.1
    let o := SMap.get (fun _ => CanObj.reset) e.objs c.2
    if st.engSide x.other then
      st.setCan x.other c.1 { e with objs := SMap.put (fun _ => CanObj.reset) e.objs c.2 { o with fresh := src.fresh, lost := src.lost } }
    else st) s
  { s1 with can := { s1.can with clears := [] } }

/-- The controllers at a base-cycle boundary. -/
def State.canBoundary (s : State) : State := (List.range (cansOf s.variant)).foldl State.canCycle s.canFlags

/-! ### Error confinement (R630, R631) -/

/-- CONF after the counters moved: 1 from 128, 2 above 255 of TEC (R630; ISO 11898-1); each change posts CAN_CONF. -/
def State.canConf (s : State) (k : Nat) : State :=
  let tec := s.fld (Reg.CAN_ERR k) Fld.CAN_ERR_TEC
  let conf := if 256 ≤ tec then 2 else if 128 ≤ tec ∨ 128 ≤ s.fld (Reg.CAN_ERR k) Fld.CAN_ERR_REC then 1 else 0
  if conf = s.fld (Reg.CAN_STAT k) Fld.CAN_STAT_CONF then s
  else (s.setF (Reg.CAN_STAT k) Fld.CAN_STAT_CONF conf).canPost Ev.CAN_CONF k 0xFFF conf

/-- TEC and REC set. -/
def State.setErrs (s : State) (k tec rc : Nat) : State :=
  ((s.setF (Reg.CAN_ERR k) Fld.CAN_ERR_TEC (min tec 511)).setF (Reg.CAN_ERR k) Fld.CAN_ERR_REC (min rc 255)).canConf k

/-- Entry to BUS_OFF (R631): RECOVERING, or HALTED when RECOV_MAX bus-offs lie in the last 60 s. -/
def State.busOff (s : State) (k : Nat) : State :=
  let times := ((SMap.get (fun _ => []) s.can.offs k).filter fun t => decide (s.since t ≤ Config.sec 60)) ++ [s.tm.mono]
  let mx := s.fld (Reg.CAN_RECOV k) Fld.CAN_RECOV_RECOV_MAX
  let s1 := { s with can := { s.can with
      offs := SMap.put (fun _ => []) s.can.offs k times, offAt := SMap.put (fun _ => 0) s.can.offAt k s.tm.mono } }
  let s2 := ((s1.setCanMode k 3).canPost Ev.CAN_BUS_OFF k).bump (Reg.CAN_CNT2 k) Fld.CAN_CNT2_BUS_OFFS
  if mx ≠ 0 ∧ mx ≤ times.length then (s2.setCanMode k 4).canPost Ev.CAN_HALTED k else s2

/-- A wiring flag sets with its event and is counted (R632): 5 DOM_STUCK, 4 and 3 CANH, 2 and 1 CANL, 0 NO_ACK. -/
def State.wireSet (s : State) (k f : Nat) : State :=
  let s1 := { s with can := { s.can with gone := SMap.erase s.can.gone (k * 8 + f) } }
  if s1.bit (Reg.CAN_WIRE k) f then s1
  else
    let ev := if f = 5 then Ev.CAN_WIRE_DOM else if f = 0 then Ev.CAN_NO_ACK else if f < 3 then Ev.CAN_WIRE_L else Ev.CAN_WIRE_H
    ((s1.setBit (Reg.CAN_WIRE k) f true).bump (Reg.CAN_CNT2 k) Fld.CAN_CNT2_WIRE_FAULTS).canPost ev k

/-- A wiring condition is absent from now on. -/
def State.wireGone (s : State) (k f : Nat) : State :=
  if s.can.gone.any fun e => e.1 == k * 8 + f then s
  else { s with can := { s.can with gone := SMap.insert s.can.gone (k * 8 + f) s.tm.mono } }

/-- Acknowledgement errors in a row of the module's frames: 16 are NO_ACK (R632). -/
def State.ackStep (s : State) (k : Nat) (failed : Bool) : State :=
  let n := if failed then SMap.get (fun _ => 0) s.can.acks k + 1 else 0
  let s1 := { s with can := { s.can with acks := SMap.put (fun _ => 0) s.can.acks k n } }
  if 16 ≤ n then s1.wireSet k 0 else if failed then s1 else s1.wireGone k 0

/-- CAN_BUS_ERROR (R622, R630, R632, R634): the counters rise as ISO 11898-1 says (PRESUMED; the rises come with the command); an
acknowledgement error does not raise TEC in ERROR_PASSIVE; err 0 is a lost arbitration. In SLEEP a decoding error is counted. -/
def execCanBusError (dt : Nat) (k err tecUp recUp : Nat) (sending : Bool) (s : State) : Out :=
  let s1 := s.tick dt
  if cansOf s1.variant ≤ k then .next s1
  else if s1.canMode k = 2 then
    .next (if err = 0 then s1
      else { s1 with can := { s1.can with errs := SMap.put (fun _ => 0) s1.can.errs k (SMap.get (fun _ => 0) s1.can.errs k + 1) } })
  else if s1.canMode k ≠ 1 ∨ err = 0 ∨ 6 < err then .next s1
  else
    let up := if err = 3 ∧ s1.fld (Reg.CAN_STAT k) Fld.CAN_STAT_CONF = 1 then 0 else tecUp
    let s2 := s1.setF (Reg.CAN_ERR k) Fld.CAN_ERR_LAST err
    let s3 := s2.setErrs k (s2.fld (Reg.CAN_ERR k) Fld.CAN_ERR_TEC + up) (s2.fld (Reg.CAN_ERR k) Fld.CAN_ERR_REC + recUp)
    let s4 := if sending then s3.ackStep k (err == 3) else s3
    .next (if s4.fld (Reg.CAN_STAT k) Fld.CAN_STAT_CONF = 2 then s4.busOff k else s4)

/-- CAN_RECOVERY_DONE (R631): 128 runs of 11 recessive bits; RUN in ERROR_ACTIVE with both counters 0. -/
def execCanRecoveryDone (dt : Nat) (k : Nat) (s : State) : Out :=
  let s1 := s.tick dt
  if k < cansOf s1.variant ∧ s1.canMode k = 3 ∧ 1408 * s1.bitTime k ≤ s1.since (SMap.get (fun _ => 0) s1.can.offAt k) then
    .next (((s1.setErrs k 0 0).setCanMode k 1).canPost Ev.CAN_RECOVERED k)
  else .next s1

/-! ### Frames on the bus -/

/-- A rate-limited event under a key of its own, with a given INST and CODE. -/
def State.canLost (s : State) (k o count : Nat) : State :=
  let key := seenKey Ev.CAN_RX_LOST (k * 1024 + o)
  let mark := fun (st : State) => { st with ev := { st.ev with seen := SMap.insert st.ev.seen key st.tm.mono } }
  match s.ev.seen.find? fun e => e.1 == key with
  | none => mark (s.canPost Ev.CAN_RX_LOST k o)
  | some (_, t) =>
    if Config.msec 10 ≤ s.since t then mark (s.postFull Ev.CAN_RX_LOST s.tm.ts (evArg o k count) true) else s

/-- The object that a frame's identifier and IDE match (R626). -/
def State.objectOf (s : State) (k : Nat) (m : CanMsg) : Option Nat :=
  (List.range (s.fld (Reg.CAN_CFG k) Fld.CAN_CFG_OBJECTS)).find? fun o =>
    s.parN (Par.canObj k o) == 1 + m.id + (if m.ide then 0x20000000 else 0)

/-- The most data bytes an object holds. -/
def State.objectCap (s : State) (k o : Nat) : Nat := if (s.parN (Par.canObjCfg k o)).testBit 0 then 2048 else 64

/-- A frame stored in an object of every engine (R626, R627); Hedgerow takes those of its own objects (R509). -/
def State.storeFrame (s : State) (k o : Nat) (m : CanMsg) (sof : Count) : State :=
  let was := (SMap.get (fun _ => CanObj.reset) (s.canServing k).objs o).fresh
  let s1 := s.canBoth k fun e =>
    let old := SMap.get (fun _ => CanObj.reset) e.objs o
    { e with objs := SMap.put (fun _ => CanObj.reset) e.objs o ⟨m.fmt, m.data, sof, true, old.lost || old.fresh⟩ }
  let s2 := s1.bump (Reg.CAN_CNT k) Fld.CAN_CNT_RX_OK
  let s3 := if was then
      let t := s2.bump (Reg.CAN_CNT3 k) Fld.CAN_CNT3_LOST
      t.canLost k o (t.fld (Reg.CAN_CNT3 k) Fld.CAN_CNT3_LOST)
    else s2
  if s.parN (Par.canObjCfg k o) / 16 % 16 = 4 then s3.safetyObject k o m.data else s3

/-- The key of a frame's identifier on a controller. -/
def frameKey (k : Nat) (m : CanMsg) : Nat := k * 0x40000000 + (if m.ide then 0x20000000 else 0) + m.id

/-- The acquisition engines see a valid frame (R598). -/
def State.frameSeen (s : State) (k : Nat) (m : CanMsg) (sof : Count) : State :=
  let old := (s.can.prev.find? fun e => e.1 == frameKey k m).map (·.2)
  let s1 := s.acqBusFrame k m.ide m.id m.data (old.getD []) old.isSome sof
  { s1 with can := { s1.can with prev := SMap.insert s1.can.prev (frameKey k m) m.data } }

/-- REC after a frame received well (ISO 11898-1, PRESUMED). -/
def recAfter (rc : Nat) : Nat := if 127 < rc then 127 else rc - 1

/-- CAN_FRAME_RECEIVED (R626, R613): stored in its object, or counted as UNMATCHED; remote frames always are. -/
def execCanFrameReceived (dt : Nat) (k : Nat) (msg : CanMsg) (remote : Bool) (sof : Count) (s : State) : Out :=
  let s1 := s.tick dt
  if cansOf s1.variant ≤ k ∨ s1.canMode k ≠ 1 ∨ s1.fld (Reg.CAN_CFG k) Fld.CAN_CFG_FORMAT < msg.fmt then .next s1
  else
    let s2 := s1.setErrs k (s1.fld (Reg.CAN_ERR k) Fld.CAN_ERR_TEC) (recAfter (s1.fld (Reg.CAN_ERR k) Fld.CAN_ERR_REC))
    if remote then .next (s2.bump (Reg.CAN_CNT2 k) Fld.CAN_CNT2_UNMATCHED)
    else
      let s3 := s2.frameSeen k msg sof
      match s3.objectOf k msg with
      | some o => .next (if msg.data.length ≤ s3.objectCap k o then s3.storeFrame k o msg sof
          else s3.bump (Reg.CAN_CNT2 k) Fld.CAN_CNT2_UNMATCHED)
      | none => .next (s3.bump (Reg.CAN_CNT2 k) Fld.CAN_CNT2_UNMATCHED)

/-- The buffers of entries that leave a queue become FREE (R619). -/
def CanEng.freeBufs (e : CanEng) (gone : List CanEntry) : CanEng :=
  gone.foldl (fun a g => a.setBuf g.port g.buf { a.buf g.port g.buf with state := 0 }) e

/-- The head of a queue is the frame that was sent: it leaves, and its buffer becomes FREE (R619, R622). -/
def CanEng.retire (e : CanEng) (m : CanMsg) : CanEng :=
  match e.queue with
  | h :: r => if h.msg = m then { e.freeBufs [h] with queue := r } else e
  | [] => e

/-- A standby engine whose head differs: everything up to the first entry that matches is dropped; none matches: nothing (R616). -/
def CanEng.resync (e : CanEng) (m : CanMsg) : CanEng :=
  if e.queue.any fun q => q.msg == m then
    let pre := e.queue.takeWhile fun q => q.msg != m
    let gone := e.queue.take (pre.length + 1)
    { e.freeBufs gone with queue := e.queue.drop (pre.length + 1) }
  else e

/-- A side's engine after entries left its queue: their credits are on the way back (R81, R82). -/
def State.canLeft (s : State) (x : Side) (k : Nat) (e : CanEng) : State :=
  (s.setCan x k e).creditsBack x (127 + k) ((s.canEng x k).queue.length - e.queue.length)

/-- The engines hear that a frame was sent without error (R616). -/
def State.sentOn (s : State) (x : Side) (k : Nat) (m : CanMsg) : State :=
  let e := s.canEng x k
  let agrees := match e.queue with
    | h :: _ => h.msg == m
    | [] => false
  if s.isActive x || agrees then s.canLeft x k (e.retire m)
  else (s.canLeft x k (e.resync m)).canPost Ev.CAN_SHADOW_MISMATCH k

/-- The counts of a sent frame: its port's SENT and latency, TX_OK (R625). -/
def State.countSent (s : State) (k : Nat) (m : CanMsg) : State :=
  let s1 := s.bump (Reg.CAN_CNT k) Fld.CAN_CNT_TX_OK
  match (s.canServing k).queue with
  | h :: _ =>
    if h.msg = m then
      let lat := min (s.since h.pendAt / Config.usec 10) 0xFFFF
      ((s1.bump (Reg.CAN_PORT_CNT k h.port) Fld.CAN_PORT_CNT_SENT).setF (Reg.CAN_PORT_LAT k h.port) Fld.CAN_PORT_LAT_LAST lat).peak
        (Reg.CAN_PORT_LAT k h.port) Fld.CAN_PORT_LAT_MAX lat
    else s1
  | [] => s1

/-- CAN_FRAME_SENT (R615, R616, R619, R625, R626): a frame of the module completes without error; a LOOPBACK object stores it. -/
def execCanFrameSent (dt : Nat) (k : Nat) (msg : CanMsg) (sof : Count) (s : State) : Out :=
  let s1 := s.tick dt
  if cansOf s1.variant ≤ k ∨ s1.canMode k ≠ 1 then .next s1
  else
    let s2 := s1.countSent k msg
    let s3 := s2.engSides.foldl (fun st x => st.sentOn x k msg) s2
    let s4 := (s3.setErrs k (s3.fld (Reg.CAN_ERR k) Fld.CAN_ERR_TEC - 1) (s3.fld (Reg.CAN_ERR k) Fld.CAN_ERR_REC)).ackStep k false
    let s5 := s4.frameSeen k msg sof
    match s5.objectOf k msg with
    | some o =>
      .next (if (s5.parN (Par.canObjCfg k o)).testBit 1 && decide (msg.data.length ≤ s5.objectCap k o) then s5.storeFrame k o msg sof else s5)
    | none => .next s5

/-! ### Bounds that follow from the queue (R623, R624) -/

/-- The bits of the longest frame of a message: N_n at the nominal bit time, N_d at that of the data phase (R623). -/
def CanMsg.bits (m : CanMsg) : Nat × Nat :=
  let s := m.data.length
  if m.fmt = 0 then
    (if m.ide then 67 + 8 * s + (53 + 8 * s) / 4 else 47 + 8 * s + (33 + 8 * s) / 4, 0)
  else if m.fmt = 1 then
    let l := if s ≤ 16 then 17 else 21
    let n := if m.ide then 57 else 34
    let d := 9 + 8 * s + (4 + 8 * s) / 4 + l + (4 + l + 3) / 4
    if m.brs then (n, d) else (n + d, 0)
  else (38, (11 * (8 * s + 120) + 9) / 10)

/-- The data-phase bit time of controller k in counts (CAN_DBT_k; 80 MHz clock). -/
def State.dataBitTime (s : State) (k : Nat) : Nat :=
  let w := s.rd (Reg.CAN_DBT k)
  50 * (fget Fld.CAN_DBT_BRP w + 1) * (fget Fld.CAN_DBT_TSEG1 w + fget Fld.CAN_DBT_TSEG2 w + 2)

/-- The worst-case duration C of a message's frame on controller k, in counts (R623). -/
def State.frameTime (s : State) (k : Nat) (m : CanMsg) : Nat := m.bits.1 * s.bitTime k + m.bits.2 * s.dataBitTime k

/-- Repeats the sum of R624 until it no longer changes, some times at most: base is T_c + B + ΣC_j + C_m, and each frame of H comes with its
period, jitter and duration. -/
def canResponse (base : Nat) (h : List (Nat × Nat × Nat)) : Nat → Nat → Nat
  | 0, r => r
  | n + 1, r =>
    let r1 := base + (h.map fun x => (r + x.2.1 + x.1 - 1) / x.1 * x.2.2).sum
    if r1 = r then r else canResponse base h n r1

/-- The bound of R624 for a message that becomes PENDING now on controller k: what the hardware queue holds is ahead of it, longest is B, and h
the frames of other nodes. -/
def State.canBound (s : State) (k : Nat) (m : CanMsg) (longest : Nat) (h : List (Nat × Nat × Nat)) (n : Nat) : Nat :=
  let base := s.tc + longest + ((s.canServing k).queue.map fun e => s.frameTime k e.msg).sum + s.frameTime k m
  canResponse base h n base

/-! ### The snapshot of a receive object (R628) -/

/-- The words of a path's receive window. -/
def State.rxWindow (s : State) (p : Path) (k : Nat) (bs : List Byte) : State :=
  (List.range 512).foldl (fun st i => st.pwr p (Reg.CAN_RX_WIN k i) (BitVec.ofNat 32 (leNat ((bs.drop (4 * i)).take 4)))) s

/-- A value in CAN_RX_SEL_k: the copy, and the clear of NEW and LOST for a HOST object without PEEK (R628). -/
def State.canRxSelect (s1 : State) (p : Path) (k : Nat) (val : Word) : State :=
  let o := fget Fld.CAN_RX_SEL_OBJECT val
  let x := s1.viewed p
  let obj := SMap.get (fun _ => CanObj.reset) (s1.canEng x k).objs o
  let cfg := s1.parN (Par.canObjCfg k o)
  let idw := s1.parN (Par.canObj k o) - 1
  let hdr := BitVec.ofNat 32 (flag obj.fresh * 0x80000000 + flag obj.lost * 0x40000000 + idw % 0x40000000)
  let info := BitVec.ofNat 32 (obj.fmt * 0x40000000 + cfg % 2 * 0x20000000 + cfg / 2 % 2 * 0x10000000 + cfg / 16 % 16 * 0x1000
    + obj.data.length)
  let s2 := (((((s1.pwr p (Reg.CAN_RX_SEL k) (val &&& 0x800003FF)).pwr p (Reg.CAN_RX_HDR k) hdr).pwr p (Reg.CAN_RX_INFO k) info).pwr p
    (Reg.CAN_RX_TS_LO k) (obj.ts.extractLsb' 0 32)).pwr p (Reg.CAN_RX_TS_HI k) (obj.ts.extractLsb' 32 32)).rxWindow p k obj.data
  if cfg / 16 % 16 = 1 ∧ fget Fld.CAN_RX_SEL_PEEK val = 0 then
    let y := s2.serving
    let e := s2.canEng y k
    let cur := SMap.get (fun _ => CanObj.reset) e.objs o
    let s3 := s2.setCan y k { e with objs := SMap.put (fun _ => CanObj.reset) e.objs o { cur with fresh := false, lost := false } }
    { s3 with can := { s3.can with clears := (k, o) :: s3.can.clears } }.forget Ev.CAN_RX_LOST (k * 1024 + o)
  else s2

/-- A write to CAN_RX_SEL_k. -/
def State.canRxSelWrite (s : State) (acc : Access) (k : Nat) (val : Word) : State :=
  s.setting acc (Reg.CAN_RX_SEL k) val fun s1 => s1.canRxSelect acc.path k val

/-- CAN_RX_SEL (R628). -/
def execCanRxSel (dt : Nat) (acc : Access) (k : Nat) (val : Word) (s : State) : Out := .next ((s.tick dt).canRxSelWrite acc (k % 4) val)

/-! ### Sleep, wake, purge, resume (R631, R633 to R635) -/

/-- Nothing waits to be sent. -/
def CanEng.empty (e : CanEng) : Bool := e.queue.isEmpty && e.bufs.all fun b => b.2.state != 1

/-- Buffers and entries that hold a message to send. -/
def CanEng.waiting (e : CanEng) : Nat := e.queue.length + (e.bufs.filter fun b => b.2.state == 1).length

/-- Everything purged: the queue and the buffers. -/
def CanEng.purgeAll (e : CanEng) : CanEng :=
  { e with queue := [], bufs := e.bufs.map fun b => (b.1, { b.2 with state := 0 }) }

/-- Entries leave the hardware queues of both sides' engines by a function. -/
def State.canBothLeave (s : State) (k : Nat) (f : CanEng → CanEng) : State :=
  s.engSides.foldl (fun st x => st.canLeft x k (f (st.canEng x k))) s

/-- PURGED raised by n. -/
def State.countPurged (s : State) (k n : Nat) : State := s.bump (Reg.CAN_CNT3 k) Fld.CAN_CNT3_PURGED n

/-- The controller enters SLEEP (R633). -/
def State.canSleepNow (s : State) (k : Nat) : State :=
  { s.setCanMode k 2 with can := { s.can with
      sleepReq := SMap.erase s.can.sleepReq k, errs := SMap.put (fun _ => 0) s.can.errs k 0 } }

/-- A SLEEP request (R633); in SLEEP and in UNUSED it asks nothing. -/
def State.canRequestSleep (s : State) (k : Nat) : State :=
  if s.canMode k = 0 ∨ s.canMode k = 2 ∨ (s.can.sleepReq.any fun e => e.1 == k) then s
  else { s with can := { s.can with sleepReq := SMap.insert s.can.sleepReq k s.tm.mono } }

/-- A wake (R634): the source is recorded, CAN_WAKE is posted, the controller is in RUN with both counters 0, and the power-state
logic hears of it; a waiting SLEEP request is met by it (R637). -/
def State.canWakeUp (s : State) (k src : Nat) (ide : Bool) (id : Nat) : State :=
  let w := BitVec.ofNat 32 (src * 0x40000000 + flag ide * 0x20000000 + id % 0x20000000)
  let s1 := { s with can := { s.can with sleepReq := SMap.erase s.can.sleepReq k } }
  let s2 := if s1.power < 3 then (s1.setErrs k 0 0).setCanMode k 1 else s1
  ((s2.wakeSource .can k).wr (Reg.CAN_WAKE_STAT k) w).canPost Ev.CAN_WAKE k

/-- An entry that PURGE takes: of a HOST port, and not the frame on the wire. -/
def State.purgeable (s : State) (k : Nat) (wire : Bool) (e : CanEng) : List CanEntry :=
  (if wire then e.queue.drop 1 else e.queue).filter fun q => s.hostPort k q.port

/-- PURGE (CAN_CTRL_k): HOST ports' PENDING buffers, and queue entries not on the wire. -/
def State.canPurge (s : State) (k : Nat) (wire : Bool) : State :=
  let pend := fun (e : CanEng) => e.bufs.filter fun b => b.2.state == 1 && s.hostPort k (b.1 / 3)
  let n := (s.purgeable k wire (s.canServing k)).length + (pend (s.canServing k)).length
  (s.canBothLeave k fun e =>
    let gone := s.purgeable k wire e
    let e1 := e.freeBufs gone
    { e1 with
      queue := (if wire then e.queue.take 1 else []) ++ (if wire then e.queue.drop 1 else e.queue).filter fun q => !s.hostPort k q.port
      bufs := e1.bufs.map fun b => if b.2.state == 1 && s.hostPort k (b.1 / 3) then (b.1, { b.2 with state := 0 }) else b }).countPurged k n

/-- RESUME (R631): leaves HALTED; the recovery begins. -/
def State.canLeaveHalt (s : State) (k : Nat) : State :=
  if s.canMode k = 4 then
    { s.setCanMode k 3 with can := { s.can with offAt := SMap.put (fun _ => 0) s.can.offAt k s.tm.mono } }
  else s

/-- A write to CAN_CTRL_k: each bit set acts; wire says whether the head of the queue is on the wire. -/
def State.canCtrlWrite (s : State) (acc : Access) (k : Nat) (val : Word) (wire : Bool) : State :=
  s.command acc (Reg.CAN_CTRL k) .op fun s0 =>
    let s1 := if fget Fld.CAN_CTRL_RESUME val = 1 then s0.canLeaveHalt k else s0
    let s2 := if fget Fld.CAN_CTRL_PURGE val = 1 then s1.canPurge k wire else s1
    let s3 := if fget Fld.CAN_CTRL_SLEEP val = 1 then s2.canRequestSleep k else s2
    if fget Fld.CAN_CTRL_WAKE val = 1 ∧ s3.canMode k = 2 then s3.canWakeUp k 0 false 0 else s3

/-- CAN_SLEEP (R633). -/
def execCanSleep (dt : Nat) (acc : Access) (k : Nat) (val : Word) (wire : Bool) (s : State) : Out :=
  .next ((s.tick dt).canCtrlWrite acc (k % 4) val wire)

/-- CAN_CTRL_WAKE (R634). -/
def execCanCtrlWake (dt : Nat) (acc : Access) (k : Nat) (val : Word) (wire : Bool) (s : State) : Out :=
  .next ((s.tick dt).canCtrlWrite acc (k % 4) val wire)

/-- CAN_PURGE_CMD (R637). -/
def execCanPurgeCmd (dt : Nat) (acc : Access) (k : Nat) (val : Word) (wire : Bool) (s : State) : Out :=
  .next ((s.tick dt).canCtrlWrite acc (k % 4) val wire)

/-- CAN_RESUME (R631). -/
def execCanResume (dt : Nat) (acc : Access) (k : Nat) (val : Word) (wire : Bool) (s : State) : Out :=
  .next ((s.tick dt).canCtrlWrite acc (k % 4) val wire)

/-- CAN_SLEEP_ENTER (R633): a waiting request takes effect with the queue empty and no buffer PENDING. -/
def execCanSleepEnter (dt : Nat) (k : Nat) (s : State) : Out :=
  let s1 := s.tick dt
  if (s1.can.sleepReq.any fun e => e.1 == k) ∧ (s1.canServing k).empty then .next (s1.canSleepNow k) else .next s1

/-- CAN_SLEEP_TIMEOUT (R633): after 100 ms everything is purged and counted, CAN_PURGE is posted, and SLEEP is entered. -/
def execCanSleepTimeout (dt : Nat) (k : Nat) (s : State) : Out :=
  let s1 := s.tick dt
  if s1.lastedIn s1.can.sleepReq k (Config.msec 100) ∧ !(s1.canServing k).empty then
    let n := (s1.canServing k).waiting
    .next ((((s1.canBothLeave k CanEng.purgeAll).countPurged k n).canPost Ev.CAN_PURGE k).canSleepNow k)
  else .next s1

/-- The data of a wake frame have a marked 1 (R634); no mark: any data. -/
def wakeData (mask : Nat) (data : List Byte) : Bool := mask == 0 || (leNat (data.take 8) &&& mask) != 0

/-- A wake source that the controller's MODE selects (R634): 1 PATTERN, 2 FRAME, 3 more than 31 decoding errors. -/
def State.wakeMatches (s : State) (k src : Nat) (m : CanMsg) : Bool :=
  let cfg := s.rd (Reg.CAN_WAKE_CFG k)
  let mode := fget Fld.CAN_WAKE_CFG_MODE cfg
  let mask := s.fld (Reg.CAN_WAKE_MASK k) Fld.CAN_WAKE_MASK_ID_MASK
  let cut := fun v => if m.ide then v % 0x20000000 else v % 2048
  let data := (s.rd (Reg.CAN_WAKE_DATA_LO k)).toNat + 0x100000000 * (s.rd (Reg.CAN_WAKE_DATA_HI k)).toNat
  if src = 1 then mode == 1
  else if src = 2 then
    mode == 2 && m.fmt == 0 && (fget Fld.CAN_WAKE_CFG_IDE cfg == 1) == m.ide
      && (cut m.id &&& cut mask) == (cut (fget Fld.CAN_WAKE_CFG_ID cfg) &&& cut mask) && wakeData data m.data
  else src == 3 && mode == 2 && decide (31 < SMap.get (fun _ => 0) s.can.errs k)

/-- CAN_WAKE (R634). -/
def execCanWake (dt : Nat) (k src : Nat) (msg : CanMsg) (s : State) : Out :=
  let s1 := s.tick dt
  if k < cansOf s1.variant ∧ s1.canMode k = 2 ∧ s1.wakeMatches k src msg then
    .next (s1.canWakeUp k src (src == 2 && msg.ide) (if src = 2 then msg.id else 0))
  else .next s1

/-! ### Wiring faults and counts (R632) -/

/-- CAN_WIRE_FAULT (R632): the conditions that stand now, by flag 1 to 5: a new one sets its flag, an absent one's time begins. -/
def execCanWireFault (dt : Nat) (k present : Nat) (s : State) : Out :=
  let s1 := s.tick dt
  if k < cansOf s1.variant then
    .next ([1, 2, 3, 4, 5].foldl (fun st f => if present.testBit f then st.wireSet k f else st.wireGone k f) s1)
  else .next s1

/-- CAN_WIRE_CLEAR (R632): a flag clears once its condition has been absent for 100 ms. -/
def execCanWireClear (dt : Nat) (k flag : Nat) (s : State) : Out :=
  let s1 := s.tick dt
  if flag < 6 ∧ k < 4 ∧ s1.lastedIn s1.can.gone (k * 8 + flag) (Config.msec 100) then
    .next (s1.setBit (Reg.CAN_WIRE k) flag false)
  else .next s1

/-- A write to CAN_CLR_k: the counts, Q_HIGH and the latency maxima of both sides. -/
def State.canClrWrite (s : State) (acc : Access) (k : Nat) (val : Word) : State :=
  s.command acc (Reg.CAN_CLR k) .op fun s1 =>
    if val.getLsbD 0 then
      let s2 := ((s1.clearCount (Reg.CAN_CNT k)).clearCount (Reg.CAN_CNT2 k)).clearCount (Reg.CAN_CNT3 k)
      let s3 := (List.range 16).foldl (fun st p => st.setF (Reg.CAN_PORT_LAT k p) Fld.CAN_PORT_LAT_MAX 0) s2
      [Side.a, .b].foldl (fun st x => st.setCan x k { st.canEng x k with high := (st.canEng x k).queue.length }) s3
    else s1

/-- CAN_CLR (R637). -/
def execCanClr (dt : Nat) (acc : Access) (k : Nat) (val : Word) (s : State) : Out := .next ((s.tick dt).canClrWrite acc (k % 4) val)

/-! ### At a fail-over and a switchover (R181, R636) -/

/-- The old side's queue is purged at a fail-over; whether its head had started on the wire is open (R181). -/
def State.canFailover (s : State) (lost : Side) : State :=
  (List.range (cansOf s.variant)).foldl (fun st k =>
    let n := (st.canEng lost k).queue.length
    let (b, st1) := st.freshBool
    (if n = 0 then st else st1.countPurged k (n - flag b)).setCan lost k CanEng.reset) s

/-- The old side's queues and buffers are purged at a planned switchover (R636). -/
def State.canSwitch (s : State) (old : Side) : State :=
  (List.range (cansOf s.variant)).foldl (fun st k =>
    let e := st.canEng old k
    (st.countPurged k e.waiting).setCan old k e.purgeAll) s

/-- A side that ends BULK holds the buffers and objects of the active side's engines, but not its hardware queue (R89, R169). -/
def State.canJoin (s : State) (x : Side) : State :=
  (List.range (cansOf s.variant)).foldl (fun st k => st.setCan x k { st.canEng x.other k with queue := [], high := 0 }) s

end Sys2Proof.Machine
end

