-- ==== Sys2Proof/Machine/Lsw.lean ====
section
/-! DEFINITION. The protected load switch channels and Fog mode (R639 to R667, R791). -/

namespace Sys2Proof.Machine

open Sys2Proof

/-! ### Channels -/

/-- The state with a channel's record set. -/
def State.setLsw (s : State) (n : Nat) (c : LswCh) : State :=
  { s with lsw := { s.lsw with chans := SMap.put (fun _ => LswCh.reset) s.lsw.chans n c } }

/-- A field of LSW_STAT_n. -/
def State.ls (s : State) (n : Nat) (f : Field) : Nat := s.fld (Reg.LSW_CH_STAT n) f

/-- A field of LSW_STAT_n set. -/
def State.setLs (s : State) (n : Nat) (f : Field) (v : Nat) : State := s.setF (Reg.LSW_CH_STAT n) f v

/-- The source pad's clears of a channel in the last hour on the monotonic count (R662). -/
def State.fogRecent (s : State) (n : Nat) : List Count := (s.lswCh n).fogClears.filter fun t => decide (s.since t < Config.sec 3600)

/-- A channel enters a state now. A latch after three clears by its source within the hour holds until CLEAR (R662; DEDUCED, log entry
74: such a latch is not cleared by the source after the hour either). -/
def State.lswEnter (s : State) (n st : Nat) : State :=
  (s.setLs n Fld.LSW_CH_STAT_STATE st).setLsw n { s.lswCh n with
    since := s.tm.mono, lowAt := none, fogHeld := decide (st = 4) && decide (3 ≤ (s.fogRecent n).length) }

/-- The channel is INRUSH or ON. -/
def State.lswOnNow (s : State) (n : Nat) : Bool := s.lswState n == 1 || s.lswState n == 2

/-- The rail of a channel (R639): 0 VAUX_1, 1 VAUX_2. -/
def railOf (n : Nat) : Nat := if n < 8 then 0 else 1

/-- The rail is under R651: its UV flag. -/
def State.railUv (s : State) (r : Nat) : Bool :=
  s.fld Reg.LSW_STAT (if r = 0 then Fld.LSW_STAT_VAUX1_UV else Fld.LSW_STAT_VAUX2_UV) == 1

/-- A turn-on: a fresh inrush window (R644). -/
def State.inrush (s : State) (n : Nat) : State :=
  let s1 := (s.lswEnter n 1).setLs n Fld.LSW_CH_STAT_TREG 0
  s1.setLsw n { s1.lswCh n with run := 0, runAt := s1.tm.mono, tregAt := none, pause := 0 }

/-- The clamp energy of a turn-off leaves the bucket (R653), which may set CLAMP_LOCK (R654). -/
def State.clampTurnOff (s : State) (n e : Nat) : State :=
  let b := max (-(s.lswBudget n)) (s.lswBucket n - 1000 * (e : Int))
  let s1 := (s.setLsw n { s.lswCh n with bucket := b, bucketAt := s.tm.mono }).setF (Reg.LSW_CLAMP n) Fld.LSW_CLAMP_LAST (min e 0xFFFF)
  if b < 1000 * (e : Int) ∧ s1.ls n Fld.LSW_CH_STAT_CLAMP_LOCK = 0 then
    ((s1.setLs n Fld.LSW_CH_STAT_CLAMP_LOCK 1).bump (Reg.LSW_CNT n) Fld.LSW_CNT_LOCKS).post Ev.LSW_CLAMP_LOCK n
  else s1

/-- A channel that is on goes off into a state. -/
def State.turnOff (s : State) (n st e : Nat) : State :=
  let on := s.lswOnNow n
  let s1 := (s.lswEnter n st).setLs n Fld.LSW_CH_STAT_TREG 0
  let s2 := s1.setLsw n { s1.lswCh n with tregAt := none, offAt := some s1.period }
  if on then s2.clampTurnOff n e else s2

/-- A fault's turn-off with its cause, event and count (R643). -/
def State.faultOff (s : State) (n st cause ev e : Nat) : State :=
  ((s.turnOff n st e).setLs n Fld.LSW_CH_STAT_CAUSE cause).post ev n

/-- The state after an OVERLOAD or THERMAL turn-off (R648). -/
def State.retryState (s : State) (n : Nat) : Nat :=
  if s.ls n Fld.LSW_CH_STAT_RETRIES < s.fld (Reg.LSW_CFG n) Fld.LSW_CFG_RETRY_MAX then 3 else 4

/-- The channel follows its command (R643): a clamp energy where it turns off. -/
def State.lswFollow (s : State) (n e : Nat) : State :=
  let c := s.lswCh n
  if s.ls n Fld.LSW_CH_STAT_CMD = 1 then
    if s.lswState n = 0 then
      if s.ls n Fld.LSW_CH_STAT_CLAMP_LOCK = 1 then
        if c.told then s else (s.setLsw n { c with told := true }).post Ev.LSW_CLAMP_LOCK n
      else if s.railUv (railOf n) then s
      else if c.shortNext then
        ((s.setLsw n { c with shortNext := false }).lswEnter n 4).setLs n Fld.LSW_CH_STAT_CAUSE 1
      else s.inrush n
    else s
  else if s.lswOnNow n || s.lswState n == 3 then s.turnOff n 0 e
  else s

/-- A command in force; a change is a new command. -/
def State.lswCommand (s : State) (n : Nat) (on : Bool) (e : Nat) : State :=
  if s.ls n Fld.LSW_CH_STAT_CMD = flag on then s.lswFollow n e
  else ((s.setLs n Fld.LSW_CH_STAT_CMD (flag on)).setLsw n { s.lswCh n with told := false }).lswFollow n e

/-! ### Fog mode (R659 to R663) -/

/-- The channel is in the Fog map. -/
def State.fogMap (s : State) (n : Nat) : Bool := s.fld (Reg.LSW_CFG n) Fld.LSW_CFG_FOG == 1

/-- The source of a Fog-map channel is active: ON, or its FOGIN pad (R660). -/
def State.fogSource (s : State) (n : Nat) : Bool :=
  let k := s.fld (Reg.LSW_CFG n) Fld.LSW_CFG_FOG_SRC
  k == 8 || (decide (k < 8) && (s.fld Reg.LSW_FOGIN Fld.LSW_FOGIN_LEVEL).testBit k)

/-- The FOG_EN pad is active. -/
def State.fogPad (s : State) : Bool := s.fld Reg.LSW_FOGIN Fld.LSW_FOGIN_FOG_EN == 1

/-- Fog mode can be in force: from the Guard step on (R659, R665), not after GUARD_FAULT (R659), and not in DARK, where FOG_EN is read for
its wake alone (R710). -/
def State.fogLive (s : State) : Bool := s.sup.phase == 4 && !s.keep.guardFault && decide (s.power < 4)

/-- The channel is under Fog mode (R659). -/
def State.underFog (s : State) (n : Nat) : Bool := s.fogLive && (s.lsw.fog != 0 || (s.fogPad && s.fogMap n))

/-- A channel takes its Fog command, with its limits as they stand at entry (R660, R661). -/
def State.fogDrive (s : State) (n e : Nat) : State :=
  let s1 := if s.ls n Fld.LSW_CH_STAT_FOG = 1 then s else s.setLsw n { s.lswCh n with
      heldTime := some (s.rd (Reg.LSW_TIME n)), heldLim := some (s.rd (Reg.LSW_LIM n)) }
  (s1.setLs n Fld.LSW_CH_STAT_FOG 1).lswCommand n (s.fogMap n && s.fogSource n) e

/-- A clamp energy that no command of the list gives: a free value. -/
def State.freeEnergy (s : State) : Nat × State :=
  let (v, s1) := s.freshInt
  (v.natAbs % 65536, s1)

/-- Fog mode begins for the whole module, with its cause (R659, R663). -/
def State.fogEnter (s : State) (cause : Nat) : State :=
  if !s.fogLive ∨ s.lsw.fog = cause then s
  else
    let s1 := { s with lsw := { s.lsw with fog := cause } }.post Ev.LSW_FOG_ENTRY 0xFFF cause
    (List.range 24).foldl (fun st n => let (e, st1) := st.freeEnergy; st1.fogDrive n e) s1

/-- A channel leaves Fog mode: its command equals its present state (R661); in UV_OFF, which keeps the channel off whatever is commanded,
the command stays. -/
def State.fogRelease (s : State) (n : Nat) : State :=
  let s1 := s.setLs n Fld.LSW_CH_STAT_FOG 0
  let cmd := if s1.lswState n = 5 then s1.ls n Fld.LSW_CH_STAT_CMD else flag (decide (1 ≤ s1.lswState n) && decide (s1.lswState n ≤ 3))
  (s1.setLs n Fld.LSW_CH_STAT_CMD cmd).setLsw n { s1.lswCh n with req := none, heldTime := none, heldLim := none }

/-- Fog mode of the whole module ends; the Fog-map channels stay under it while FOG_EN is active. -/
def State.fogExit (s : State) : State :=
  if s.lsw.fog = 0 then s
  else
    let cause := s.lsw.fog
    let s1 := { s with lsw := { s.lsw with fog := 0 } }.post Ev.LSW_FOG_EXIT 0xFFF cause
    (List.range 24).foldl (fun st n => if st.underFog n then st else st.fogRelease n) s1

/-- FOG_EN_CHANGE (R659, R663, R711): Fog-map channels enter or leave Fog mode; the pad going active is wake source 0x6. -/
def execFogEnChange (dt : Nat) (active : Bool) (energy : SMap Nat) (s : State) : Out :=
  let s0 := s.tick dt
  let was := s0.fogPad
  let s1 := s0.setF Reg.LSW_FOGIN Fld.LSW_FOGIN_FOG_EN (flag active)
  if was = active ∨ s1.keep.guardFault ∨ s1.lsw.fog ≠ 0 then .next s1
  else
    let s2 := if !s1.fogLive then s1 else (List.range 24).foldl (fun st n =>
      if st.fogMap n then
        if active then (st.post Ev.LSW_FOG_ENTRY n 4).fogDrive n (SMap.get (fun _ => 0) energy n)
        else (st.post Ev.LSW_FOG_EXIT n 4).fogRelease n
      else st) s1
    .next (if active then s2.wakeSource .fog 0 else s2)

/-- A latch that its source clears (R662): inactive for at least 1 s before, and fewer than three such clears in the last hour. -/
def State.fogClear (s : State) (n : Nat) (idle : Bool) : State :=
  let c := s.lswCh n
  if s.lswState n = 4 ∧ idle ∧ c.fogHeld = false ∧ (s.fogRecent n).length < 3 then
    (s.setLsw n { c with fogClears := s.fogRecent n ++ [s.tm.mono] }).lswEnter n 0
  else s

/-- FOGIN_CHANGE (R660, R662): the pad's channels under Fog mode follow. -/
def execFoginChange (dt : Nat) (k : Nat) (active : Bool) (energy : SMap Nat) (s : State) : Out :=
  let s0 := s.tick dt
  if 8 ≤ k then .next s0
  else
    let lv := s0.fld Reg.LSW_FOGIN Fld.LSW_FOGIN_LEVEL
    let idle := active && !lv.testBit k && (s0.lastedIn s0.lsw.padOff k (Config.sec 1)
      || (!(s0.lsw.padOff.any fun e => e.1 == k) && decide (Config.sec 1 ≤ s0.tm.mono.toNat)))
    let s1 := s0.setF Reg.LSW_FOGIN Fld.LSW_FOGIN_LEVEL (withBit lv k active)
    let s2 := { s1 with lsw := { s1.lsw with padOff := s1.trackIn s1.lsw.padOff k (!active) } }
    let s3 := (List.range 24).foldl (fun st n =>
      if st.underFog n && st.fogMap n && st.fld (Reg.LSW_CFG n) Fld.LSW_CFG_FOG_SRC == k then
        (st.fogClear n idle).fogDrive n (SMap.get (fun _ => 0) energy n)
      else st) s2
    .next s3

/-! ### Commands and controllers (R640 to R642, R649, R667) -/

/-- A write to LSW_CTRL_n: ON and OFF together are refused (R667); ON or OFF of a channel whose controller is not HOST is denied
(R642), and of a Fog-map channel refused while FOG_EN is active (R663); CLEAR clears a latch (R649). -/
def State.lswCtrlWrite (s : State) (acc : Access) (n : Nat) (val : Word) : State :=
  s.command acc (Reg.LSW_CTRL n) .op fun s1 =>
    let on := fget Fld.LSW_CTRL_ON val == 1
    let off := fget Fld.LSW_CTRL_OFF val == 1
    if on && off then s1.paramReject acc (Reg.LSW_CTRL n)
    else
      let s2 := if fget Fld.LSW_CTRL_CLEAR val = 0 then s1
        else if s1.lswState n = 4 then (s1.lswEnter n 0).setLsw n { (s1.lswEnter n 0).lswCh n with clearAt := some s1.period }
        else s1.post Ev.LSW_CMD_REFUSED n
      if !on && !off then s2
      else if s2.fld (Reg.LSW_CFG n) Fld.LSW_CFG_CONTROLLER ≠ 1 then s2.postArg Ev.DENIED (accArg acc (Reg.LSW_CTRL n))
      else if s2.fogPad && s2.fogMap n then s2.post Ev.LSW_CMD_REFUSED n
      else s2.setLsw n { s2.lswCh n with req := some on }

/-- LSW_ON (R642). -/
def execLswOn (dt : Nat) (acc : Access) (n : Nat) (val : Word) (s : State) : Out := .next ((s.tick dt).lswCtrlWrite acc (n % 24) val)

/-- LSW_OFF (R642). -/
def execLswOff (dt : Nat) (acc : Access) (n : Nat) (val : Word) (s : State) : Out := .next ((s.tick dt).lswCtrlWrite acc (n % 24) val)

/-- LSW_CLEAR (R649). -/
def execLswClear (dt : Nat) (acc : Access) (n : Nat) (val : Word) (s : State) : Out := .next ((s.tick dt).lswCtrlWrite acc (n % 24) val)

/-- The command of a load switch or a GPIO output that a cooling loop, a session or the transformer controls, numbered 8 × kind + index as
Par.lswUnit has it (R640, R456, R470, R362). -/
def State.unitWanted (s : State) (u : Nat) : Bool :=
  let i := u % 8
  let dev := fun (d : Nat → Nat) (f : Field) =>
    (List.range 8).any fun o => s.parN (d o) == i + 1 && s.parN (Par.coolKind o) != 0 && 0 < s.fld (Reg.COOL_O_FLOW o) f
  match u / 8 with
  | 0 => dev Par.pumpDev Fld.COOL_O_FLOW_PUMP
  | 1 => dev Par.fanDev Fld.COOL_O_FLOW_FAN
  | 2 => (SMap.get (fun _ => Outlet.reset) s.outl.outlets i).cmd
  | 3 => s.fld (Reg.OUTL_O_STAT i) Fld.OUTL_O_STAT_DISCH == 1
  | 4 => s.sst.mainClose
  | 5 => s.sst.mainOpen
  | _ => s.sst.preClose

/-- The command of a channel whose controller is no register (R640). -/
def State.lswWanted (s : State) (n : Nat) : Option Bool :=
  if s.parN (Par.lswUnit n) = 0 then none else some (s.unitWanted (s.parN (Par.lswUnit n) - 1))

/-- A channel at a boundary: the active side's command reaches it (R641), unless Fog mode holds it; then it follows its source's command,
so after a CLEAR too (R649, R660). -/
def State.lswCycle (s : State) (n e : Nat) : State :=
  if s.underFog n then s.lswFollow n e
  else if s.keep.guardFault || !s.hasActive then s
  else
    let c := s.lswCh n
    match s.fld (Reg.LSW_CFG n) Fld.LSW_CFG_CONTROLLER with
    | 0 => s.lswCommand n false e
    | 1 => (s.setLsw n { c with req := none }).lswCommand n (c.req.getD (s.ls n Fld.LSW_CH_STAT_CMD == 1)) e
    | _ => s.lswCommand n ((s.lswWanted n).getD (s.ls n Fld.LSW_CH_STAT_CMD == 1)) e

/-- After a load of an image every bucket starts at CLAMP_BUDGET, and HOST channels take DEFAULT_ON as their command (R653,
LSW_CFG_n). -/
def State.lswLoad (s : State) : State :=
  let s1 := { s with lsw := { s.lsw with loadDue := false } }
  (List.range 24).foldl (fun st n =>
    let host := st.fld (Reg.LSW_CFG n) Fld.LSW_CFG_CONTROLLER == 1
    st.setLsw n { st.lswCh n with
      bucket := st.lswBudget n, bucketAt := st.tm.mono
      req := if host then some (st.fld (Reg.LSW_CFG n) Fld.LSW_CFG_DEFAULT_ON == 1) else none }) s1

/-- The load switches at a base-cycle boundary: what they measure, a load's start values, and the commands. -/
def State.lswBoundary (s : State) (i : LswIn) : State :=
  let s1 := (s.setFS Reg.LSW_VAUX Fld.LSW_VAUX_VAUX_1 i.vaux1).setFS Reg.LSW_VAUX Fld.LSW_VAUX_VAUX_2 i.vaux2
  let s2 := (List.range 24).foldl (fun st n =>
    (st.setF (Reg.LSW_MEAS n) Fld.LSW_MEAS_I (min (SMap.get (fun _ => 0) i.cur n) 0xFFFF)).setFS (Reg.LSW_MEAS n) Fld.LSW_MEAS_T_J
      (SMap.get (fun _ => 0) i.tj n)) s1
  let s3 := if s2.lsw.loadDue then s2.lswLoad else s2
  (List.range 24).foldl (fun st n => st.lswCycle n (SMap.get (fun _ => 0) i.energy n)) s3

/-- GUARD_FAULT and power-down: every channel off at once, Fog map included (R46, R699). -/
def State.lswAllOff (s : State) : State :=
  let s1 := { s with lsw := { s.lsw with fog := 0 } }
  (List.range 24).foldl (fun st n =>
    let (e, st1) := st.freeEnergy
    let st2 := (st1.setLs n Fld.LSW_CH_STAT_FOG 0).setLs n Fld.LSW_CH_STAT_CMD 0
    (st2.setLsw n { st2.lswCh n with heldTime := none, heldLim := none }).lswFollow n e) s1

/-! ### The channels' own events (R644 to R648) -/

/-- INRUSH_END (R644, R645): T_INR counted, or the pause has lasted T_INR in all. -/
def execInrushEnd (dt : Nat) (n : Nat) (s : State) : Out :=
  let s1 := s.tick dt
  let c := s1.lswCh n
  let win := Config.msec (s1.lswTime n Fld.LSW_TIME_T_INR)
  let run := c.run + (if c.tregAt.isNone then s1.since c.runAt else 0)
  let pause := c.pause + (match c.tregAt with
    | some t => s1.since t
    | none => 0)
  if n < 24 ∧ s1.lswState n = 1 ∧ (win ≤ run ∨ win ≤ pause) then .next (s1.lswEnter n 2) else .next s1

/-- THERMAL_REGULATION (R645): the junction stands at T_REG; the inrush timer pauses. -/
def execThermalRegulation (dt : Nat) (n : Nat) (s : State) : Out :=
  let s1 := s.tick dt
  let c := s1.lswCh n
  if n < 24 ∧ s1.lswOnNow n ∧ c.tregAt = none then
    .next ((s1.setLs n Fld.LSW_CH_STAT_TREG 1).setLsw n { c with
      run := c.run + (if s1.lswState n = 1 then s1.since c.runAt else 0), tregAt := some s1.tm.mono })
  else .next s1

/-- THERMAL_REGULATION_END (R645): TREG clears and the inrush timer resumes. -/
def execThermalRegulationEnd (dt : Nat) (n : Nat) (s : State) : Out :=
  let s1 := s.tick dt
  let c := s1.lswCh n
  match c.tregAt with
  | some t =>
    if n < 24 then
      .next ((s1.setLs n Fld.LSW_CH_STAT_TREG 0).setLsw n { c with pause := c.pause + s1.since t, runAt := s1.tm.mono, tregAt := none })
    else .next s1
  | none => .next s1

/-- THERMAL_SHUTDOWN (R643, R648). -/
def execThermalShutdown (dt : Nat) (n e : Nat) (s : State) : Out :=
  let s1 := s.tick dt
  if n < 24 ∧ s1.lswOnNow n then
    .next ((s1.bump (Reg.LSW_CNT n) Fld.LSW_CNT_THERMALS).faultOff n (s1.retryState n) 3 Ev.LSW_THERMAL e)
  else .next s1

/-- SHORT_DETECTED (R646, R649, R665): the channel latches with cause SHORT; with a CLEAR in the same FCLK period the latch stays
set; with a turn-off by command in the same FCLK period it latches at its next turn-on. -/
def execShortDetected (dt : Nat) (n e : Nat) (s : State) : Out :=
  let s1 := s.tick dt
  let c := s1.lswCh n
  if 24 ≤ n then .next s1
  else if s1.lswOnNow n ∨ (s1.lswState n = 0 ∧ c.clearAt = some s1.period)
      ∨ (s1.lswState n = 4 ∧ s1.ls n Fld.LSW_CH_STAT_CAUSE = 4 ∧ c.offAt = some s1.period) then
    .next ((s1.bump (Reg.LSW_CNT n) Fld.LSW_CNT_SHORTS).faultOff n 4 1 Ev.LSW_SHORT e)
  else if s1.lswState n = 0 ∧ c.offAt = some s1.period then
    .next (((s1.bump (Reg.LSW_CNT n) Fld.LSW_CNT_SHORTS).setLsw n { c with shortNext := true }).post Ev.LSW_SHORT n)
  else .next s1

/-- OVERLOAD_TIMEOUT (R647, R648): held at I_LIM for T_OC in ON. -/
def execOverloadTimeout (dt : Nat) (n e : Nat) (s : State) : Out :=
  let s1 := s.tick dt
  if n < 24 ∧ s1.lswState n = 2 ∧ Config.usec (100 * s1.lswTime n Fld.LSW_TIME_T_OC) ≤ s1.since (s1.lswCh n).since then
    .next ((s1.bump (Reg.LSW_CNT n) Fld.LSW_CNT_OVERLOADS).faultOff n (s1.retryState n) 2 Ev.LSW_OVERLOAD e)
  else .next s1

/-- RETRY_DELAY_EXPIRY (R643, R648): for THERMAL the junction must be 20 K below T_SD. -/
def execRetryDelayExpiry (dt : Nat) (n : Nat) (cool : Bool) (s : State) : Out :=
  let s1 := s.tick dt
  if n < 24 ∧ s1.lswState n = 3 ∧ s1.ls n Fld.LSW_CH_STAT_CMD = 1 ∧ s1.ls n Fld.LSW_CH_STAT_CLAMP_LOCK = 0
      ∧ (cool ∨ s1.ls n Fld.LSW_CH_STAT_CAUSE ≠ 3)
      ∧ Config.msec (100 * s1.lswTime n Fld.LSW_TIME_RETRY_DLY) ≤ s1.since (s1.lswCh n).since then
    .next ((s1.inrush n).setLs n Fld.LSW_CH_STAT_RETRIES (min 7 (s1.ls n Fld.LSW_CH_STAT_RETRIES + 1)))
  else .next s1

/-- RETRY_COUNT_RESET (R648): 60 s in ON without a fault. -/
def execRetryCountReset (dt : Nat) (n : Nat) (s : State) : Out :=
  let s1 := s.tick dt
  if n < 24 ∧ s1.lswState n = 2 ∧ Config.sec 60 ≤ s1.since (s1.lswCh n).since then .next (s1.setLs n Fld.LSW_CH_STAT_RETRIES 0)
  else .next s1

/-! ### The rails (R651, R652) -/

/-- The channels of a rail. -/
def railChans (r : Nat) : List Nat := (List.range 24).filter fun n => railOf n == r

/-- The UV flag of a rail. -/
def uvField (r : Nat) : Field := if r = 0 then Fld.LSW_STAT_VAUX1_UV else Fld.LSW_STAT_VAUX2_UV

/-- The REV flag of a rail. -/
def revField (r : Nat) : Field := if r = 0 then Fld.LSW_STAT_VAUX1_REV else Fld.LSW_STAT_VAUX2_REV

/-- A rail falls: its channels in INRUSH, ON or RETRY_WAIT go to UV_OFF (R651). -/
def State.railDown (s : State) (r : Nat) (energy : SMap Nat) : State :=
  let s1 := if s.railUv r then s else (s.setF Reg.LSW_STAT (uvField r) 1).post Ev.LSW_UV (r + 1)
  (railChans r).foldl (fun st n =>
    if 1 ≤ st.lswState n ∧ st.lswState n ≤ 3 then (st.turnOff n 5 (SMap.get (fun _ => 0) energy n)).setLs n Fld.LSW_CH_STAT_UV 1
    else st) s1

/-- RAIL_UNDERVOLTAGE (R651): a rail has been below its level for 10 µs. -/
def execRailUndervoltage (dt : Nat) (rail : Nat) (energy : SMap Nat) (s : State) : Out :=
  .next ((s.tick dt).railDown (rail % 2) energy)

/-- RAIL_RESTORED (R651): above 16 V for 1 ms, its channels leave UV_OFF; CLAMP_LOCK refuses the turn-on (R654). -/
def execRailRestored (dt : Nat) (rail : Nat) (s : State) : Out :=
  let s1 := s.tick dt
  let r := rail % 2
  if s1.fld Reg.LSW_STAT (revField r) = 1 then .next s1
  else
    .next ((railChans r).foldl (fun st n =>
      if st.lswState n = 5 then
        let st1 := st.setLs n Fld.LSW_CH_STAT_UV 0
        if st1.ls n Fld.LSW_CH_STAT_CMD = 1 ∧ st1.ls n Fld.LSW_CH_STAT_CLAMP_LOCK = 0 then st1.inrush n else st1.lswEnter n 0
      else if st.lswState n = 0 then st.lswFollow n 0
      else st) (s1.setF Reg.LSW_STAT (uvField r) 0))

/-- RAIL_REVERSED (R652): at once, with both flags and events; REV clears once the rail is no longer reversed. -/
def execRailReversed (dt : Nat) (rail : Nat) (now : Bool) (energy : SMap Nat) (s : State) : Out :=
  let s1 := s.tick dt
  let r := rail % 2
  if now then
    let s2 := s1.railDown r energy
    .next (if s2.fld Reg.LSW_STAT (revField r) = 1 then s2 else (s2.setF Reg.LSW_STAT (revField r) 1).post Ev.LSW_VAUX_REV (r + 1))
  else .next (s1.setF Reg.LSW_STAT (revField r) 0)

/-! ### Clamp energy, package limits, open loads (R654 to R657) -/

/-- CLAMP_BUCKET_REFILLED (R654): CLAMP_LOCK clears; an OFF channel that is commanded on turns on (R643). -/
def execClampBucketRefilled (dt : Nat) (n : Nat) (s : State) : Out :=
  let s1 := s.tick dt
  if n < 24 ∧ s1.lswBudget n ≤ s1.lswBucket n then
    let s2 := s1.setLs n Fld.LSW_CH_STAT_CLAMP_LOCK 0
    .next (if s1.ls n Fld.LSW_CH_STAT_CLAMP_LOCK = 1 then s2.lswFollow n 0 else s2)
  else .next s1

/-- The channel that R655 sheds: on, lowest SHED_PRIO from 1, highest number. -/
def State.shedPick (s : State) : Option Nat :=
  (List.range 24).foldl (fun (best : Option Nat) n =>
    let p := s.fld (Reg.LSW_CFG n) Fld.LSW_CFG_SHED_PRIO
    if s.lswOnNow n ∧ p ≠ 0 then
      match best with
      | some m => if p ≤ s.fld (Reg.LSW_CFG m) Fld.LSW_CFG_SHED_PRIO then some n else best
      | none => some n
    else best) none

/-- PACKAGE_SHED (R655): the 1 s means of current (0.1 A) and dissipation (10 mW); above 80 A or 10 W one channel is shed every
100 ms, until both lie below 95 %. -/
def execPackageShed (dt : Nat) (iSum pSw e : Nat) (s : State) : Out :=
  let s0 := s.tick dt
  let s1 := (s0.setF Reg.LSW_PKG Fld.LSW_PKG_I_SUM (min iSum 0xFFFF)).setF Reg.LSW_PKG Fld.LSW_PKG_P_SW (min pSw 0xFFFF)
  let going := s1.fld Reg.LSW_STAT Fld.LSW_STAT_SHEDDING == 1
  let sheds := decide (800 < iSum) || decide (1000 < pSw) || (going && !(decide (iSum < 760) && decide (pSw < 950)))
  let s2 := s1.setF Reg.LSW_STAT Fld.LSW_STAT_SHEDDING (flag sheds)
  let due := match s2.lsw.shedAt with
    | some t => decide (Config.msec 100 ≤ s2.since t)
    | none => true
  if sheds && due then
    match s2.shedPick with
    | some n => .next ({ s2 with lsw := { s2.lsw with shedAt := some s2.tm.mono } }.faultOff n 4 4 Ev.LSW_PKG_SHED e)
    | none => .next s2
  else .next s2

/-- A flag of LSW_STAT_n that sets with its event. -/
def State.lswFlag (s : State) (n : Nat) (f : Field) (ev : Nat) : State :=
  if s.ls n f = 1 then s else (s.setLs n f 1).post ev n

/-- OFF_STATE_TEST (R656): the output above 4 V with no source, and at the end of the 100 µA source. -/
def execOffStateTest (dt : Nat) (n : Nat) (bare sourced : Bool) (s : State) : Out :=
  let s1 := s.tick dt
  let c := s1.lswCh n
  let due := match c.testAt with
    | some t => decide (Config.msec 100 ≤ s1.since t)
    | none => true
  if n < 24 ∧ s1.lswState n = 0 ∧ s1.fld (Reg.LSW_CFG n) Fld.LSW_CFG_OL_TEST = 1 ∧ due = true then
    let s2 := s1.setLsw n { c with testAt := some s1.tm.mono }
    if bare then .next (s2.lswFlag n Fld.LSW_CH_STAT_SHORT_VAUX Ev.LSW_SHORT_VAUX)
    else
      let s3 := s2.setLs n Fld.LSW_CH_STAT_SHORT_VAUX 0
      .next (if sourced then s3.lswFlag n Fld.LSW_CH_STAT_OPEN_OFF Ev.LSW_OPEN_OFF else s3.setLs n Fld.LSW_CH_STAT_OPEN_OFF 0)
  else .next s1

/-- OPEN_ON_DETECT (R657): the current of a channel in ON is, or is no longer, below the open-load level. -/
def execOpenOnDetect (dt : Nat) (n : Nat) (below : Bool) (s : State) : Out :=
  let s1 := s.tick dt
  let c := s1.lswCh n
  if 24 ≤ n ∨ s1.lswState n ≠ 2 then .next s1
  else if below then
    let s2 := s1.setLsw n { c with lowAt := some (c.lowAt.getD s1.tm.mono) }
    .next (if s2.lasted (s2.lswCh n).lowAt (Config.sec 1) then s2.lswFlag n Fld.LSW_CH_STAT_OPEN_ON Ev.LSW_OPEN_ON else s2)
  else .next ((s1.setLsw n { c with lowAt := none }).setLs n Fld.LSW_CH_STAT_OPEN_ON 0)

/-! ### Sense pins and counts -/

/-- A write to LSW_SNS_SEL: the last write from any path stands. -/
def State.lswSnsSelWrite (s : State) (acc : Access) (val : Word) : State :=
  s.setting acc Reg.LSW_SNS_SEL val fun s1 => s1.wr Reg.LSW_SNS_SEL (val &&& 0x777)

/-- LSW_SNS_SEL (R658). -/
def execLswSnsSel (dt : Nat) (acc : Access) (val : Word) (s : State) : Out := .next ((s.tick dt).lswSnsSelWrite acc val)

/-- What a sense pin shows of its selected channel, in mV (R658): pin 0 SNSA, 1 SNSB, 2 SNSC. The fault level goes before the current of a
channel in ON with OPEN_ON set (DEDUCED, log entry 75). In RETRY_WAIT and UV_OFF the spec states no level: a free value. -/
def State.sensePin (s : State) (pin : Nat) : Nat :=
  let n := 8 * pin + (s.rd Reg.LSW_SNS_SEL).toNat / 16 ^ pin % 8
  let fs := if pin = 0 then 1500 else 375
  let flagged := s.lswState n == 4 || s.ls n Fld.LSW_CH_STAT_CLAMP_LOCK == 1 || s.ls n Fld.LSW_CH_STAT_SHORT_VAUX == 1
    || s.ls n Fld.LSW_CH_STAT_OPEN_OFF == 1 || s.ls n Fld.LSW_CH_STAT_OPEN_ON == 1
  if flagged then 3300
  else if s.lswOnNow n then min 2750 (2500 * s.fld (Reg.LSW_MEAS n) Fld.LSW_MEAS_I / fs)
  else if s.lswState n = 0 then 0
  else (Config.freeInt s.free).natAbs

/-- A write to LSW_CLR: what is counted in this FCLK period is counted after the clear. -/
def State.lswClrWrite (s : State) (acc : Access) (val : Word) : State :=
  s.command acc Reg.LSW_CLR .op fun s1 =>
    if val.getLsbD 0 then (List.range 24).foldl (fun st n => st.clearCount (Reg.LSW_CNT n)) s1 else s1

/-- LSW_CLR (R665). -/
def execLswClr (dt : Nat) (acc : Access) (val : Word) (s : State) : Out := .next ((s.tick dt).lswClrWrite acc val)

end Sys2Proof.Machine
end

