-- ==== Sys2Proof/Machine/Timebase.lean ====
section
/-! DEFINITION. The meanings of the time base's commands: time sources, servo, steps, pulses, queue selection (R49 to R79,
R93 to R96). -/

namespace Sys2Proof.Machine

open Sys2Proof

/-- A port's PTP master. -/
def State.ptpPort (s : State) (n : Nat) : PtpPort := SMap.get (fun _ => PtpPort.reset) s.tm.ptp n

/-- The state with a port's PTP master set. -/
def State.setPtp (s : State) (n : Nat) (p : PtpPort) : State :=
  { s with tm := { s.tm with ptp := SMap.put (fun _ => PtpPort.reset) s.tm.ptp n p } }

/-- PTP may be a source on a port: TIME_CTRL.PTPn_EN. -/
def State.ptpEnabled (s : State) (n : Nat) : Bool :=
  if n = 0 then s.fld Reg.TIME_CTRL Fld.TIME_CTRL_PTP0_EN = 1 else s.fld Reg.TIME_CTRL Fld.TIME_CTRL_PTP1_EN = 1

/-- PTP on a port is valid (R67): Announce messages arrive and LOCK is 1. -/
def State.ptpValid (s : State) (n : Nat) : Bool :=
  s.ptpEnabled n && (s.ptpPort n).valid && s.fld Reg.TIME_STAT Fld.TIME_STAT_LOCK == 1

/-- The source below PTP that R65 selects, as coded in TIME_STAT.SRC. DESIGN CHOICE (log entry 80): the spec does not say whether NTP_EN = 0
also bars a still valid NTP from giving PPS_IN its time of day; it does not. -/
def State.lowerSource (s : State) : Nat :=
  if s.tm.ppsValid && s.tm.ntpValid && s.fld Reg.TIME_CTRL Fld.TIME_CTRL_PPS_IN_EN == 1 then 4
  else if s.tm.ntpValid && s.fld Reg.TIME_CTRL Fld.TIME_CTRL_NTP_EN == 1 then 3
  else if s.tm.svcSet then 2
  else if s.tm.rtcKept then 1
  else 0

/-- The PTP source of R65: the better rank where both ports are valid; ETH_0 at equal rank. -/
def State.ptpSource (s : State) : Option Nat :=
  if s.ptpValid 0 && s.ptpValid 1 then some (if (s.ptpPort 1).rank < (s.ptpPort 0).rank then 6 else 5)
  else if s.ptpValid 0 then some 5
  else if s.ptpValid 1 then some 6
  else none

/-- TIME_STAT.SRC and HOLDOVER after a change of a source (R65, R68): a lost PTP source holds over until PTP_TMO. -/
def State.selectSource (s : State) : State :=
  let src := s.fld Reg.TIME_STAT Fld.TIME_STAT_SRC
  match s.ptpSource with
  | some v =>
    let s1 := (s.setF Reg.TIME_STAT Fld.TIME_STAT_SRC v).setF Reg.TIME_STAT Fld.TIME_STAT_HOLDOVER 0
    { s1 with tm := { s1.tm with ptpLost := none } }
  | none =>
    if src = 5 ∨ src = 6 then
      let s1 := s.setF Reg.TIME_STAT Fld.TIME_STAT_HOLDOVER 1
      { s1 with tm := { s1.tm with ptpLost := some (s1.tm.ptpLost.getD s1.tm.mono) } }
    else s.setF Reg.TIME_STAT Fld.TIME_STAT_SRC s.lowerSource

/-- TIME_OFFSET.VALUE, saturating at ±(2^31 − 1). -/
def State.setOffset (s : State) (ns : Int) : State :=
  s.setFS Reg.TIME_OFFSET Fld.TIME_OFFSET_VALUE (clampInt (-2147483647) 2147483647 ns)

/-- A measured offset, in 250 ps counts, moves the lock (R67): 1 after 16 consecutive offsets within ±1 µs, 0 after 4 consecutive offsets
outside ±10 µs. -/
def State.lockStep (s : State) (d : Int) : State :=
  let good := if d.natAbs ≤ Config.usec 1 then s.tm.lockGood + 1 else 0
  let bad := if Config.usec 10 < d.natAbs then s.tm.lockBad + 1 else 0
  let s1 := { s with tm := { s.tm with lockGood := good, lockBad := bad } }
  if 16 ≤ good then s1.setF Reg.TIME_STAT Fld.TIME_STAT_LOCK 1
  else if 4 ≤ bad then s1.setF Reg.TIME_STAT Fld.TIME_STAT_LOCK 0
  else s1

/-- The rate after the servo has taken an offset: a free value in the servo's range, ±500 ppm (R79). The spec gives the servo's range and
bandwidth and no law (log entry 51). -/
def State.servo (s : State) : State :=
  { s.freshInt.2 with tm := { s.tm with rate := clampInt (-500000000) 500000000 s.freshInt.1 } }

/-- The port whose master the servo follows, of those on which Announce messages arrive: the better rank, ETH_0 at equal rank (R65). -/
def State.ptpMaster (s : State) : Option Nat :=
  let on := fun n => s.ptpEnabled n && (s.ptpPort n).valid
  if on 0 && on 1 then some (if (s.ptpPort 1).rank < (s.ptpPort 0).rank then 1 else 0)
  else if on 0 then some 0
  else if on 1 then some 1
  else none

/-- A MAC stamp at the SGMII boundary: resolution 1.25 ns (R64). -/
def macStamp (t : Count) : Int := (t.toNat - t.toNat % 5 : Nat)

/-- The offset an exchange gives in 250 ps counts, module less master (R66): the stamps at SGMII moved to the line by the PHY's latencies
(TIME_PHY_DLY), and the path's delay from the delay request and its response, or from the peer delay. Half a count is rounded down, which
the spec leaves open (log entry 51). -/
def PtpExchange.offset (x : PtpExchange) (dly : Word) : Int :=
  let rx := fun t => macStamp t - fget Fld.TIME_PHY_DLY_RX_DLY dly
  let out := macStamp x.out + fget Fld.TIME_PHY_DLY_TX_DLY dly
  let down := rx x.came - x.sent.toNat
  if x.p2p then (2 * down - ((rx x.back - out) - ((x.peerOut.toNat : Int) - x.peerIn.toNat))) / 2
  else (down - ((x.peerIn.toNat : Int) - out)) / 2

/-- The exchange is of a kind that the slave supports and TIME_CTRL selects (R66); both kinds of master and every transport are. -/
def State.ptpTakes (s : State) (x : PtpExchange) : Bool :=
  decide (x.p2p = (s.fld Reg.TIME_CTRL Fld.TIME_CTRL_PTP_P2P == 1)) && decide (-7 ≤ x.logIv) && decide (x.logIv ≤ 4)

/-- An offset of the PTP source is shown and moves the lock, which may select the source again (R65, R67, TIME_OFFSET); it drives the servo
except in holdover, which holds the last rate (R68). -/
def State.ptpOffset (s : State) (d : Int) : State :=
  let s1 := ((s.setOffset (Int.tdiv d 4)).lockStep d).selectSource
  if s1.fld Reg.TIME_STAT Fld.TIME_STAT_HOLDOVER = 1 then s1 else s1.servo

/-- PTP_MESSAGE (R64 to R67): an Announce renews the port; an exchange with the master that the servo follows gives its offset. Messages of
another domain or of a port that is not enabled, and exchanges the slave does not support, are ignored. -/
def execPtpMessage (dt port domain : Nat) (announce : Option (Nat × Nat)) (exchange : Option PtpExchange) (s : State) : Out :=
  let s1 := s.tick dt
  let n := port % 2
  if !s1.ptpEnabled n || domain != s1.fld Reg.TIME_CTRL Fld.TIME_CTRL_PTP_DOMAIN then .next s1
  else
    let s2 := match announce with
      | some (iv, rank) => s1.setPtp n ⟨true, s1.tm.mono, iv, rank⟩
      | none => s1
    let s3 := match exchange with
      | some x => if s2.ptpMaster = some n && s2.ptpTakes x then s2.ptpOffset (x.offset (s2.rd (Reg.TIME_PHY_DLY n))) else s2
      | none => s2
    .next s3.selectSource

/-- PTP_ANNOUNCE_TIMEOUT (R67): no Announce within three intervals makes PTP on the port invalid. -/
def execPtpAnnounceTimeout (dt port : Nat) (s : State) : Out :=
  let s1 := s.tick dt
  let p := s1.ptpPort (port % 2)
  if p.valid ∧ 3 * p.announceIv ≤ s1.since p.announceAt then
    .next (s1.setPtp (port % 2) { p with valid := false }).selectSource
  else .next s1

/-- PTP_TMO_EXPIRY (R68): PTP_TMO after the last PTP source was lost the module moves to the next source. -/
def execPtpTmoExpiry (dt : Nat) (s : State) : Out :=
  let s1 := s.tick dt
  match s1.tm.ptpLost with
  | some t =>
    if Config.sec (5 * s1.fld Reg.TIME_CTRL Fld.TIME_CTRL_PTP_TMO) ≤ s1.since t then
      let s2 := (s1.setF Reg.TIME_STAT Fld.TIME_STAT_SRC s1.lowerSource).setF Reg.TIME_STAT Fld.TIME_STAT_HOLDOVER 0
      .next { s2 with tm := { s2.tm with ptpLost := none } }
    else .next s1
  | none => .next s1

/-- PPS_IN_EDGE (R64, R69): the edge is captured at the pad with a resolution of 1.25 ns; PPS_IN is valid after four consecutive edges 1 s ± 100 µs apart while NTP is
valid, and invalid after a misplaced one. -/
def execPpsInEdge (dt : Nat) (s : State) : Out :=
  let s1 := s.tick dt
  let placed := match s1.tm.ppsLast with
    | some t => decide (Config.sec 1 ≤ s1.since t + Config.usec 100) && decide (s1.since t ≤ Config.sec 1 + Config.usec 100)
    | none => false
  let run := if placed then s1.tm.ppsRun + 1 else 1
  let stamp := s1.tm.ts - BitVec.ofNat 64 (s1.tm.mono.toNat % Config.fclk)
  let s2 := (s1.wr Reg.TIME_PPS_IN_LO (stamp.extractLsb' 0 32)).wr Reg.TIME_PPS_IN_HI (stamp.extractLsb' 32 32)
  .next { s2 with tm := { s2.tm with
    ppsLast := some s2.tm.mono, ppsRun := run, ppsValid := decide (4 ≤ run) && s2.tm.ntpValid } }.selectSource

/-- PPS_IN_MISSING (R69): an edge more than 1 s + 100 µs after the last is missing; PPS_IN becomes invalid. -/
def execPpsInMissing (dt : Nat) (s : State) : Out :=
  let s1 := s.tick dt
  match s1.tm.ppsLast with
  | some t =>
    if Config.sec 1 + Config.usec 100 < s1.since t then
      .next { s1 with tm := { s1.tm with ppsRun := 0, ppsValid := false } }.selectSource
    else .next s1
  | none => .next s1

/-- NTP is the source in use, alone or with PPS_IN. -/
def State.ntpSource (s : State) : Bool :=
  let src := s.fld Reg.TIME_STAT Fld.TIME_STAT_SRC
  src == 3 || src == 4

/-- NTP_RESPONSE (R65, R69): NTP is valid, and with it PPS_IN after four good edges; where NTP is the source in use, alone or with PPS_IN, its
offset, in ns, is shown and drives the servo. DESIGN CHOICE (log entry 81): the spec does not say what measures the offset under SRC 4; the
NTP responses do, and an edge of PPS_IN does not. -/
def execNtpResponse (dt : Nat) (offset : Int) (s : State) : Out :=
  let s1 := s.tick dt
  if s1.fld Reg.TIME_CTRL Fld.TIME_CTRL_NTP_EN = 0 then .next s1
  else
    let s2 := { s1 with tm := { s1.tm with ntpValid := true, ppsValid := decide (4 ≤ s1.tm.ppsRun) } }.selectSource
    .next (if s2.ntpSource then (s2.setOffset offset).servo else s2)

/-- A correction of the timestamp by delta counts (R70 to R72): slewed when VALID is 1 and it is 2 s or less, else a step that waits for the
boundary; the last one before the boundary stands. A slew runs at a rate of the correction's sign, a free value of at most 500 ppm, until it
has moved the whole correction (log entry 51). -/
def State.correct (s : State) (delta : Int) : State :=
  if s.fld Reg.TIME_STAT Fld.TIME_STAT_VALID = 1 ∧ delta.natAbs ≤ Config.sec 2 then
    let (r, s1) := s.freshInt
    { s1 with tm := { s1.tm with
        step := none
        slew := delta * 1000000000000
        slewRate := delta.sign * clampInt 1 500000000 (r.natAbs : Int) } }.setF Reg.TIME_STAT Fld.TIME_STAT_STEP_PEND 0
  else
    { s with tm := { s.tm with step := some delta, slew := 0, slewRate := 0 } }.setF Reg.TIME_STAT Fld.TIME_STAT_STEP_PEND 1

/-- TIME_CORRECTION (R70 to R72). -/
def execTimeCorrection (dt : Nat) (delta : Int) (s : State) : Out := .next ((s.tick dt).correct delta)

/-- The pending step is applied (R71, R72): TIME_STEP, or TIME_SET while VALID was 0; one at most in a base cycle. -/
def State.applyStep (s : State) : State :=
  match s.tm.step with
  | none => s
  | some d =>
    let s1 := { s with tm := { s.tm with step := none, stepAt := some s.tm.cycleStart, realign := true, ts := s.tm.ts + BitVec.ofInt 64 d } }
    let s2 := s1.setF Reg.TIME_STAT Fld.TIME_STAT_STEP_PEND 0
    if s.fld Reg.TIME_STAT Fld.TIME_STAT_VALID = 1 then
      s2.postArg Ev.TIME_STEP (BitVec.ofInt 32 (clampInt (-2147483647) 2147483647 (Int.tdiv (-d) 4000000)))
    else (s2.postArg Ev.TIME_SET 0).setF Reg.TIME_STAT Fld.TIME_STAT_VALID 1

/-- The pair in TIME_SET_HI and LO requested as a correction (R70 to R73). DESIGN CHOICE (log entry 82): the spec does not say when SRC turns
to SERVICE set; it does at the request, before a step waits for its boundary. -/
def State.requestTime (s : State) (hi : Word) : State :=
  let s1 := s.wr Reg.TIME_SET_HI hi
  let target : Count := hi ++ s1.rd Reg.TIME_SET_LO
  let s2 := s1.correct (target - s1.tm.ts).toInt
  { s2 with tm := { s2.tm with svcSet := true } }.setF Reg.TIME_STAT Fld.TIME_STAT_SRC 2

/-- A write to TIME_SET_HI (R73): a SERVICE write requests the pair as a correction when the source is SERVICE set, RTC or none;
otherwise it has no effect and is denied, staged or not. -/
def State.timeSetHiWrite (s : State) (acc : Access) (val : Word) : State :=
  s.command acc Reg.TIME_SET_HI .all fun s1 =>
    if acc.role = .service ∧ 2 < s1.fld Reg.TIME_STAT Fld.TIME_STAT_SRC then s1.postArg Ev.DENIED (accArg acc Reg.TIME_SET_HI)
    else s1.setting acc Reg.TIME_SET_HI val fun s2 => s2.requestTime val

/-- TIME_SET_HI (R73). -/
def execTimeSetHi (dt : Nat) (acc : Access) (val : Word) (s : State) : Out := .next ((s.tick dt).timeSetHiWrite acc val)

/-- RTC_TRIM (R75): once per second while the module is powered, and its time base runs, the RTC, trimmed against REF, stands at the
timestamp. -/
def execRtcTrim (dt : Nat) (s : State) : Out :=
  let s1 := s.tick dt
  if s1.sup.phase = 4 ∧ Config.sec 1 ≤ s1.sinceLife s1.tm.rtcTrimAt then .next { s1 with tm := { s1.tm with rtc := s1.tm.ts, rtcTrimAt := s1.tm.life } }
  else .next s1

/-- PPS_OUT may be high (R78): OUT_EN is 1 and, with OUT_VALID_ONLY, LOCK is 1. -/
def State.ppsAllowed (s : State) : Bool :=
  s.fld Reg.TIME_PPS_CFG Fld.TIME_PPS_CFG_OUT_EN == 1
    && (s.fld Reg.TIME_PPS_CFG Fld.TIME_PPS_CFG_OUT_VALID_ONLY == 0 || s.fld Reg.TIME_STAT Fld.TIME_STAT_LOCK == 1)

/-- PPS_OUT as it stands now: high for OUT_WIDTH from its rise, while it may be (R78). -/
def State.ppsHigh (s : State) : Bool :=
  let width := Config.msec (max 1 (s.fld Reg.TIME_PPS_CFG Fld.TIME_PPS_CFG_OUT_WIDTH))
  s.tm.ppsOut && decide (s.since s.tm.ppsOutAt < width) && s.ppsAllowed

/-- PPS_OUT_PULSE (R78): PPS_OUT falls OUT_WIDTH after its rise, and rises at a whole second of the timestamp while
OUT_EN is 1 and, with OUT_VALID_ONLY, LOCK is 1. -/
def execPpsOutPulse (dt : Nat) (s : State) : Out :=
  let s1 := s.tick dt
  let second := decide (s1.tm.ts.toNat % Config.sec 1 < Config.fclk)
  if s1.ppsAllowed && second then .next { s1 with tm := { s1.tm with ppsOut := true, ppsOutAt := s1.tm.mono } }
  else .next { s1 with tm := { s1.tm with ppsOut := s1.ppsHigh } }

/-- A write to TIME_QUEUE_SEL (R95): selects a queue for the path; a number above 132 is refused. -/
def State.timeQueueSelWrite (s : State) (acc : Access) (val : Word) : State :=
  s.setting acc Reg.TIME_QUEUE_SEL val fun s1 => s1.pwr acc.path Reg.TIME_QUEUE_SEL (val &&& 0x7FF)

/-- TIME_QUEUE_SEL (R95). -/
def execTimeQueueSel (dt : Nat) (acc : Access) (val : Word) (s : State) : Out := .next ((s.tick dt).timeQueueSelWrite acc val)

/-- The fill of a side's queue as it stands: entries of the event queue, of a controller's hardware queue, tags in use, else the queue's own
entries. -/
def State.queueFill (s : State) (x : Side) (n : Nat) : Nat :=
  if n = 125 then (s.evq x).length
  else if 127 ≤ n ∧ n < 131 then (SMap.get (fun _ => CanEng.reset) s.can.engs (x.code * 4 + (n - 127))).queue.length
  else if n = 132 then ((SMap.get (fun _ => TagPool.reset) s.tags x.code).settle s.period).used
  else (s.queue x n).entries.length

/-- Loss count and high water of a side's queue cleared (R96): what the running FCLK period has lost is counted after the clear, and
posts the first QUEUE_LOSS. -/
def State.clearLosses (s : State) (x : Side) (n : Nat) : State :=
  let q := s.queue x n
  let lost := if q.lostAt = s.period then q.lostN else 0
  let s1 := { s.setQueue x n { q with lost := lost, high := s.queueFill x n } with
    ev := if n = 125 then { s.ev with high := SMap.put (fun _ => 0) s.ev.high x.code (s.evq x).length } else s.ev }
  let s2 := s1.forget Ev.QUEUE_LOSS (lossKey x n)
  if lost = 0 then s2 else s2.postLimited Ev.QUEUE_LOSS n 0 lost (lossKey x n)

/-- A write to TIME_QUEUE_CLR (R96): clears the loss count and the high water of the selected queue; the next loss is a first one. -/
def State.timeQueueClrWrite (s : State) (acc : Access) (val : Word) : State :=
  s.command acc Reg.TIME_QUEUE_CLR .op fun s1 =>
    if val.getLsbD 0 then
      let sel := s1.prd acc.path Reg.TIME_QUEUE_SEL
      let x : Side := if fget Fld.TIME_QUEUE_SEL_SIDE sel = 1 then .b else .a
      let n := fget Fld.TIME_QUEUE_SEL_QUEUE sel
      s1.clearLosses x n
    else s1

/-- TIME_QUEUE_CLR (R96). -/
def execTimeQueueClr (dt : Nat) (acc : Access) (val : Word) (s : State) : Out := .next ((s.tick dt).timeQueueClrWrite acc val)

end Sys2Proof.Machine
end

