-- ==== Sys2Proof/Machine/Hooks.lean ====
section
/-! DEFINITION. What a flip does to the units of the other chapters, and what SAFE_HOLD and a load of the image do to the outputs. -/

namespace Sys2Proof.Machine

open Sys2Proof

/-- LOOP_TSTAT_n of every loop as the image and the mapping have it: USED from TILE_MASK, the spares apart, and PHYS (R231, R232). -/
def State.showLoops (s : State) : State :=
  (List.range (tilesOf s.variant)).foldl (fun st n =>
    let mask := if n < 32 then (st.rd Reg.LOOP_USED_LO).getLsbD n else (st.rd Reg.LOOP_USED_HI).getLsbD (n - 32)
    let used := mask && st.fld (Reg.LOOP_TSTAT n) Fld.LOOP_TSTAT_SPARE == 0
    let st1 := st.setF (Reg.LOOP_TSTAT n) Fld.LOOP_TSTAT_USED (flag used)
    st1.setF (Reg.LOOP_TSTAT n) Fld.LOOP_TSTAT_PHYS (if used then st1.physTile n else 0)) s

/-- What the status registers count of the running image: its loops, spare tiles, pairs and endpoints. -/
def State.showCounts (s : State) : State :=
  let tiles := fun (f : Field) => ((List.range (tilesOf s.variant)).filter fun n => s.fld (Reg.LOOP_TSTAT n) f == 1).length
  let pairs := (List.range 48).filter fun n =>
    if n < 32 then (s.rd Reg.EDGE_USED_LO).getLsbD n else (s.rd Reg.EDGE_USED_HI).getLsbD (n - 32)
  let eps := (List.range 384).filter fun e => s.img.running.isSome && s.par (Par.epUsed e) == 1
  let s1 := (s.setF Reg.LOOP_STAT Fld.LOOP_STAT_LOOPS (tiles Fld.LOOP_TSTAT_USED)).setF Reg.LOOP_STAT Fld.LOOP_STAT_SPARES
    (if s.img.running.isSome then tiles Fld.LOOP_TSTAT_SPARE else 0)
  (s1.setF Reg.EDGE_STAT Fld.EDGE_STAT_USED pairs.length).setF Reg.RING_STAT Fld.RING_STAT_EP_TOTAL (min eps.length 255)

/-- A flip that moves a loop to another home (R147, R231): its tile mapping takes a new epoch. -/
def State.loopFlip (s before : State) (addrs : List Nat) : State :=
  let moved := (List.range (tilesOf s.variant)).filter fun n =>
    addrs.contains (Reg.LOOP_MAP n) && s.fld (Reg.LOOP_MAP n) Fld.LOOP_MAP_HOME != before.fld (Reg.LOOP_MAP n) Fld.LOOP_MAP_HOME
  if moved.isEmpty then s else (moved.foldl (fun st n => st.bumpEpoch (plTile n)) s).showLoops

/-- A flip of QUANTUM (R420). -/
def State.quantumFlip (s before : State) (addrs : List Nat) : State :=
  if addrs.contains Reg.ALOC_CFG then s.alocQuantum before.quantum else s

/-- A flip of RWC values waits for the next safety cycle but one (R514, R518); SAFE_CHECK_RUN follows them (R513). -/
def State.safeFlip (s : State) (addrs : List Nat) : State :=
  if addrs.any fun a => s.rwcRegs.contains a then
    { s with safe := { s.safe with flipCycle := some s.tm.cycleN } }.showSafety
  else s

/-- The settings of the BILL block that the sides send to the die (R584). -/
def billSetting (addr : Nat) : Bool := addr == Reg.BILL_DEM_CFG || (decide (0xE2000 ≤ addr) && decide (addr < 0xE2700))

/-- Flipped settings of the BILL block leave for the die (R584). -/
def State.billFlip (s : State) (addrs : List Nat) : State :=
  { s with bill := { s.bill with due := s.bill.due ++ (addrs.filter billSetting).map fun a => (a, s.rd a, s.dieTs) } }

/-- PWR_LTR_k registers that were written now (R705). -/
def State.ltrWritten (s : State) (addrs : List Nat) : State :=
  { s with sup := { s.sup with ltrAt := (List.range 8).foldl (fun m k =>
      if addrs.contains (Reg.PWR_LTR k) then SMap.insert m k s.tm.mono else m) s.sup.ltrAt } }

/-- The calendar and the time source follow a flip of their registers (R58, R65). -/
def State.timeFlip (s : State) (addrs : List Nat) : State :=
  let s1 := if addrs.contains Reg.TIME_CTRL then s.selectSource else s
  if addrs.any fun a => decide (Reg.TIME_LEAP 0 ≤ a) && decide (a ≤ Reg.TIME_LEAP 15) then s1.showTai else s1

/-- What a flip or a rollback of some registers does beside their values. -/
def State.flipHooks (s before : State) (addrs : List Nat) : State :=
  let s1 := (((s.timeFlip addrs).edgeFlip addrs).outsFlip before addrs).sstFlip before addrs
  ((((s1.quantumFlip before addrs).loopFlip before addrs).safeFlip addrs).billFlip addrs).ltrWritten addrs

/-- The bits of a register's listed fields: the reserved ones read 0 (R16). -/
def fieldBits (r : RegSpec) : Word := r.fields.foldl (fun m f => m ||| fmask ⟨f.lo, f.width⟩) 0

/-- An entry of a path whose register does more than take a value: one that the metrology die holds under the seal waits for its first
sample instant (R146); a record or message selection is a request (R584, R604, R628). -/
def State.entryDue (s : State) (p : Path) (addr : Nat) (val : Word) : Option State :=
  if addr = Reg.ACQ_RD_SEL then some (s.acqRdSelect p val)
  else if addr = Reg.BILL_REC_SEL then some (s.billRecSelect p val)
  else if 0x100300 ≤ addr ∧ addr < 0x110000 ∧ addr % 0x4000 = 0x300 then some (s.canRxSelect p ((addr - 0x100300) / 0x4000) val)
  else
    match findReg addr with
    | some r =>
      if r.fields.any fun f => f.acc == .rws then
        some { s with metr := { s.metr with rws := s.metr.rws ++ [(addr, val &&& fieldBits r)] } }
      else none
    | none => none

/-- The outlets whose stages hold some flipped OUTS_PH_MAP entries (R789). -/
def State.outletsHeld (s : State) (addrs : List Nat) : List Nat := s.outletsOfPhases addrs

/-- A Quickset latch is set (R191). -/
def State.latchSet (s : State) : Bool := s.anyLatch

/-- EDGE_PSTAT_n.ORPHAN of every used pair; a pair that enters its orphan state ends its switching (R273). -/
def State.pairsOrphan (s : State) (b : Bool) : State :=
  (List.range (pairsOf s.variant)).foldl (fun st n =>
    if st.padUsed n then
      let stop := fun (u : State) (x : Side) => if b && !(u.pair x n).held && !u.pairOrphan n then u.setPair x n ((u.pair x n).freeze u.nowUnits) else u
      (stop (stop st .a) .b).pstat n Fld.EDGE_PSTAT_ORPHAN (flag b)
    else st) s

/-- The groups and the pairs' trip state follow the latches that stand, under the maps of a newly loaded image (R269, R274). -/
def State.qsetLoad (s : State) : State :=
  ((List.range (pairsOf s.variant)).foldl (fun st n => if st.pairTripped n then st else st.pstat n Fld.EDGE_PSTAT_TRIPPED 0) s.showLatches).holdPairs

/-- What SAFE_HOLD does to the outputs (R122): pads at their orphan states, STO and brake pads de-energised, Fog mode, contactors and
breakers open, acquisition stopped. -/
def State.holdHooks (s : State) : State :=
  ((((((s.pairsOrphan true).padsOff).fogEnter 1).openBreakers).outlOrphan).acqStopAll).dropScheds

/-- What the load of an image does to the units: the loops and carriers start afresh; the orphan states and Fog mode end
(R124, R661); the pads of unused pairs are in reset (R10). -/
def State.loadHooks (s : State) : State :=
  let s := s.setF Reg.KEEP_COPY Fld.KEEP_COPY_MAX 0
  let local' := (s.edge.pairs.filter fun e => decide (e.1 % 65536 < 64) && s.pairUsed (e.1 % 65536)).map fun e => (e.1, e.2.stopped)
  let s := s.wr Reg.SST_STAT 0
  let s1 := { s with loop := LoopPart.reset, sst := { SstPart.reset with restarts := s.sst.restarts, mainOpen := s.sst.mainOpen }, edge := { s.edge with
    pairs := local', pads := s.edge.pads.filter fun e => s.pairUsed (e.1 / 2), legPhase := [], pairOff := [], legPeriod := [] } }
  let s0 := (List.range 12).foldl (fun st p => st.setF (Reg.RING_PORT_STAT p) Fld.RING_PORT_STAT_STATE (flag (st.portUsed p))) s1
  let s2 := (s0.qsetLoad.showLoops.showCounts.showRings).phasesLoad.outletsLoad.pairsOrphan false
  if s2.hasActive then s2.fogExit else s2

end Sys2Proof.Machine
end

