-- ==== Sys2Proof/Machine/Load.lean ====
section
/-! DEFINITION. The load at start, SAFE_HOLD, activation and the boot trial (R118 to R126, R788). -/

namespace Sys2Proof.Machine

open Sys2Proof

/-- SAFE_HOLD (R122): no slot runs, so none is on trial and no section is in force. -/
def State.safeHold (s : State) : State :=
  let s0 := ((s.setF Reg.IMG_STAT Fld.IMG_STAT_BOOT_TRIAL 0).setF Reg.IMG_STAT Fld.IMG_STAT_REVERT_DUE 0).setF Reg.IMG_STAT
    Fld.IMG_STAT_SECTIONS 0
  let s1 := (((s0.setF Reg.IMG_STAT Fld.IMG_STAT_MODE 1).wr Reg.IMG_RUN_VER 0).wr Reg.IMG_RUN_BUILD 0).holdHooks
  let s2 := [Reg.LOOP_USED_LO, Reg.LOOP_USED_HI, Reg.EDGE_USED_LO, Reg.EDGE_USED_HI].foldl (fun st a => st.wr a 0) s1
  ({ s2 with img := { s2.img with running := none } }.showLoops).showCounts

/-- A RETURNED or SCRAPPED module stays in SAFE_HOLD (R693). -/
def State.mayLoad (s : State) : Bool := decide (s.fld Reg.MEM_STAT Fld.MEM_STAT_LC < 3)

/-- All checks of R119 on a slot, and the load: the state and whether it loaded. -/
def State.tryLoad (s : State) (n : Nat) : State × Bool :=
  match s.checkSlot s.serving n with
  | some f => (s.loadFailed n f, false)
  | none =>
    match s.checkLoad s.serving n with
    | some f => (s.loadFailed n f, false)
    | none => ((s.install n).loadHooks, true)

/-- IMAGE_LOAD (R118): at start the boot slot loads; if it fails, the other slot provided it is VALID, with FALLBACK; else
the module enters SAFE_HOLD. -/
def execImageLoad (dt : Nat) (s : State) : Out :=
  let s1 := s.tick dt
  if s1.mode ≠ 0 ∨ s1.sup.phase ≠ 4 ∨ s1.keep.guardFault then .next s1
  else if !s1.mayLoad then .next s1.safeHold
  else
    let s2 := if s1.img.tuneLost then
        { s1.post Ev.TUNE_LOST with img := { s1.img with tuneLost := false } } else s1
    let boot := s2.fld Reg.IMG_SLOT_CTRL Fld.IMG_SLOT_CTRL_BOOT
    match s2.tryLoad boot with
    | (s3, true) => .next s3
    | (s3, false) =>
      if s3.slotState (1 - boot) = 3 then
        match s3.tryLoad (1 - boot) with
        | (s4, true) => .next ((s4.setF Reg.IMG_STAT Fld.IMG_STAT_FALLBACK 1).post Ev.IMG_FALLBACK)
        | (s4, false) => .next s4.safeHold
      else .next s3.safeHold

/-! ### Activation and boot trial (R123 to R125) -/

/-- The module may activate the target slot (R123). -/
def State.mayActivate (s : State) (n : Nat) : Bool :=
  s.mayLoad && s.mode != 0 && s.mode != 3 && s.atRest && s.slotState n == 3 && s.img.running != some n && s.contextsIdle

/-- An activation starts (R124 step 1): SWAP, everything driven as in SAFE_HOLD. -/
def State.startActivation (s : State) (n : Nat) : State :=
  let s1 := (s.setF Reg.IMG_STAT Fld.IMG_STAT_MODE 3).holdHooks
  { s1 with img := { s1.img with act := some ⟨n, s1.img.running⟩ } }

/-- CONFIRM (R125): a slot on trial becomes the boot slot and a due revert is cancelled; nothing while BOOT_TRIAL is 0 or
once the revert has started. -/
def State.confirmSlot (s : State) : State :=
  if s.fld Reg.IMG_STAT Fld.IMG_STAT_BOOT_TRIAL = 1 ∧ s.img.act = none then
    ((s.setF Reg.IMG_SLOT_CTRL Fld.IMG_SLOT_CTRL_BOOT (s.img.running.getD 0)).setF Reg.IMG_STAT
      Fld.IMG_STAT_BOOT_TRIAL 0).setF Reg.IMG_STAT Fld.IMG_STAT_REVERT_DUE 0
  else s

/-- ACTIVATE (R123): starts the activation of TARGET or posts IMG_ACT_REFUSED; it waits while a side defers (R715). -/
def State.requestActivation (s : State) : State :=
  let n := s.fld Reg.IMG_SLOT_CTRL Fld.IMG_SLOT_CTRL_TARGET
  if s.deferring then { s with img := { s.img with actWait := true } }
  else if s.mayActivate n then s.startActivation n else s.post Ev.IMG_ACT_REFUSED

/-- CONFIRM, then ACTIVATE, where a write sets them (R125). -/
def State.slotActs (s : State) (val : Word) : State :=
  let s1 := if fget Fld.IMG_SLOT_CTRL_CONFIRM val = 1 then s.confirmSlot else s
  if fget Fld.IMG_SLOT_CTRL_ACTIVATE val = 1 then s1.requestActivation else s1

/-- A write to IMG_SLOT_CTRL: WINDOW outside 1 to 60 is refused as a whole (R93); TARGET and WINDOW take their values;
from an OPEN context they are staged (R135); CONFIRM acts, then ACTIVATE (R125, R130). -/
def State.slotCtrlWrite (s : State) (acc : Access) (val : Word) : State :=
  s.setting acc Reg.IMG_SLOT_CTRL val
    (fun s1 => (s1.setF Reg.IMG_SLOT_CTRL Fld.IMG_SLOT_CTRL_WINDOW (fget Fld.IMG_SLOT_CTRL_WINDOW val)).setF Reg.IMG_SLOT_CTRL
      Fld.IMG_SLOT_CTRL_TARGET (fget Fld.IMG_SLOT_CTRL_TARGET val))
    (fun s1 => if acc.role = .service then s1.slotActs val else s1)

/-- ACTIVATE (R123): a write to IMG_SLOT_CTRL that sets ACTIVATE. -/
def execImgActivate (dt : Nat) (acc : Access) (val : Word) (s : State) : Out :=
  .next ((s.tick dt).showRest.slotCtrlWrite acc val)

/-- CONFIRM (R125): a write to IMG_SLOT_CTRL that sets CONFIRM. -/
def execImgConfirm (dt : Nat) (acc : Access) (val : Word) (s : State) : Out :=
  .next ((s.tick dt).showRest.slotCtrlWrite acc val)

/-- The running slot is on trial where it is not the boot slot (R125); its window starts now. -/
def State.startTrial (s : State) : State :=
  let boot := s.fld Reg.IMG_SLOT_CTRL Fld.IMG_SLOT_CTRL_BOOT
  let s1 := s.setF Reg.IMG_STAT Fld.IMG_STAT_BOOT_TRIAL (flag (s.img.running != some boot))
  { s1.setF Reg.IMG_STAT Fld.IMG_STAT_REVERT_DUE 0 with img := { s1.img with trialStart := s1.tm.mono } }

/-- BOOT_WINDOW_EXPIRY (R125): WINDOW minutes without CONFIRM set REVERT_DUE. -/
def execBootWindowExpiry (dt : Nat) (s : State) : Out :=
  let s1 := s.tick dt
  if s1.fld Reg.IMG_STAT Fld.IMG_STAT_BOOT_TRIAL = 1 ∧ s1.fld Reg.IMG_STAT Fld.IMG_STAT_REVERT_DUE = 0
      ∧ Config.sec (60 * s1.fld Reg.IMG_SLOT_CTRL Fld.IMG_SLOT_CTRL_WINDOW) ≤ s1.since s1.img.trialStart then
    .next ((s1.setF Reg.IMG_STAT Fld.IMG_STAT_REVERT_DUE 1).post Ev.IMG_REVERT_DUE)
  else .next s1

/-- REVERT_START (R125): at the first boundary at rest with every context idle the module activates the boot slot. -/
def execRevertStart (dt : Nat) (s : State) : Out :=
  let s1 := (s.tick dt).showRest
  if s1.fld Reg.IMG_STAT Fld.IMG_STAT_REVERT_DUE = 1 ∧ s1.img.act = none ∧ s1.atCycleStart ∧ s1.atRest ∧ s1.contextsIdle then
    .next (s1.startActivation (s1.fld Reg.IMG_SLOT_CTRL Fld.IMG_SLOT_CTRL_BOOT))
  else .next s1

end Sys2Proof.Machine
end

