-- ==== Sys2Proof/Machine/Txn.lean ====
section
/-! DEFINITION. The transactions: contexts, validation, the flip, trial commits (R133 to R156). -/

namespace Sys2Proof.Machine

open Sys2Proof

/-- The session of an access owns a context. -/
def Ctx.ownedBy (c : Ctx) (acc : Access) : Bool := c.path == acc.path && c.session == acc.session

/-- BEGIN (R133): claims an IDLE context for the session and role. -/
def State.txnBegin (s : State) (acc : Access) (n : Nat) : State :=
  let c := s.context n
  if acc.role = .reader then s.deny acc (Reg.IMG_TXN_CTRL n)
  else if c.state ≠ .idle ∨ (s.heldBy acc).isSome then s.post Ev.TXN_BUSY n
  else
    s.setContext n { c with
      state := .opened, role := acc.role, path := acc.path, session := acc.session, conflict := false, full := false,
      count := 0, entries := [], isTrial := false, late := false, since := s.tm.mono, undo := [],
      confirm := false, rollback := none, orphaned := false, outlets := [] }

/-- A command to a context that has an owner: TXN_BUSY in IDLE, DENIED from another session (R134). -/
def State.txnOwned (s : State) (acc : Access) (n : Nat) (act : Ctx → State) : State :=
  let c := s.context n
  if c.state = .idle then s.post Ev.TXN_BUSY n
  else if !c.ownedBy acc then s.postArg Ev.DENIED (accArg acc (Reg.IMG_TXN_CTRL n))
  else act c

/-- COMMIT and COMMIT_TRIAL (R141, R154): freeze the entries; the trial's WATCH and WINDOW_MS are those in force now
(R156). -/
def State.txnCommit (s : State) (acc : Access) (n : Nat) (trial : Bool) : State :=
  s.txnOwned acc n fun c =>
    if c.state = .opened then
      let t := s.rd (Reg.IMG_TXN_TRIAL n)
      s.setContext n { c with
        state := .validating, isTrial := trial, since := s.tm.mono,
        watch := fget Fld.IMG_TXN_TRIAL_WATCH t, window := fget Fld.IMG_TXN_TRIAL_WINDOW_MS t }
    else s.post Ev.TXN_BUSY n

/-- A context ends with a RESULT and a REASON (R154). -/
def State.endContext (s : State) (n result reason : Nat) : State :=
  s.setContext n { s.context n with
    state := .idle, result := result, reason := reason, entries := [], undo := [], rollback := none, confirm := false }

/-- ABORT (R151, R154): discards an OPEN context; rolls a TRIAL back; TXN_BUSY in VALIDATING and PENDING. -/
def State.txnAbort (s : State) (acc : Access) (n : Nat) : State :=
  s.txnOwned acc n fun c =>
    if c.state = .opened then s.endContext n 6 0
    else if c.state = .trial then s.trialRollback n 0xE
    else s.post Ev.TXN_BUSY n

/-- CONFIRM (R150): effective at the boundary, unless a rollback is due. -/
def State.txnConfirm (s : State) (acc : Access) (n : Nat) : State :=
  s.txnOwned acc n fun c =>
    if c.state = .trial ∧ c.rollback = none then s.setContext n { c with confirm := true }
    else s.post Ev.TXN_BUSY n

/-- A session closes (R140, R141 check 2, R151): its OPEN context ends EXPIRED, its TRIAL rolls back with reason OWNER. DESIGN CHOICE (log
entry 58): a context that is PENDING then flips as it would, and a trial that begins so is not rolled back for the session's sake; the spec
says nothing of a session that closes between validation and flip. -/
def State.sessionClose (s : State) (path : Path) (session : Nat) : State :=
  [0, 1, 2, 3].foldl (fun st n =>
    let c := st.context n
    if c.path == path && c.session == session then
      match c.state with
      | .opened => st.endContext n 7 0
      | .validating => st.setContext n { c with orphaned := true }
      | .trial => st.trialRollback n 0xE
      | _ => st
    else st) s

/-! ### Validation (R141) -/

/-- Some stored field of a code differs between an entry and the applied value. DEDUCED (log entry 59): the RWS or RWC entries of R141 are
those that change a field of that code, as R136 examines a field only where the write changes it. -/
def State.changesCode (s : State) (p : Path) (a : Acc) (e : Nat × Word) : Bool :=
  match s.specOf e.1 with
  | some r => r.fields.any fun f => f.acc == a && f.differs (s.applied p e.1) e.2
  | none => false

/-- Every changed stored field of an entry is within the role's right. -/
def State.entryRole (s : State) (p : Path) (role : Role) (e : Nat × Word) : Bool :=
  match s.specOf e.1 with
  | some r => r.fields.all fun f => !(f.acc.stored && f.differs (s.applied p e.1) e.2) || f.scope.admits role
  | none => true

/-- Every ranged field of an entry, and every tunable of it, lies in its range (check 6). -/
def State.entryRange (s : State) (e : Nat × Word) : Bool :=
  (match s.specOf e.1 with
    | some r => r.ranges.all fun g => g.ok e.2
    | none => true)
  && extraRangeOk e.1 e.2 && s.ownOk e.1 e.2
  && s.img.tunables.all fun t => t.addr != e.1 || t.inBounds e.2

/-- The registers read with a context's entries in place. -/
def State.withEntries (s : State) (es : List (Nat × Word)) (addr : Nat) : Word :=
  match es.find? fun e => e.1 == addr with
  | some e => e.2
  | none => s.rd addr

/-- The days of the leap table up to its end rise strictly (R94). -/
def leapDays (rd : Nat → Word) : List Int :=
  let ws := (List.range 16).map fun i => rd (Reg.TIME_LEAP i)
  let used := ws.take 1 ++ (ws.drop 1).takeWhile (· != 0)
  used.map fun w => (fget Fld.TIME_LEAP_DAY w : Int)

/-- Every rule that names an entry holds, with the entries in place (check 7; R94). -/
def State.rulesHold (s : State) (es : List (Nat × Word)) : Bool :=
  let rd := s.withEntries es
  (s.img.rules.all fun r => !(es.any fun e => ruleNames s.img.tunables e.1 r) || ruleHolds s.img.tunables rd r)
  && (!(es.any fun e => decide (0x20060 ≤ e.1) && decide (e.1 < 0x200A0)) || risesStrictly (leapDays rd))

/-- The first check of R141 that a context fails, as a REASON; 0 when all pass. -/
def State.validate (s : State) (c : Ctx) : Nat :=
  if c.conflict ∨ c.full then 6
  else if c.orphaned then 7
  else if !(c.entries.all (s.entryRole c.path c.role)) then 3
  else if c.entries.any (s.changesCode c.path .rws) && !s.sealOpen then 4
  else if c.entries.any (s.changesCode c.path .rwc) && s.fld Reg.SAFE_STAT Fld.SAFE_STAT_CONFIRMED != 0 then 5
  else if !(c.entries.all s.entryRange) then 1
  else if !(s.rulesHold c.entries) then 2
  else if c.isTrial ∧ c.role ≠ .operator ∧ c.role ≠ .service then 3
  else 0

/-- A context ends REFUSED. -/
def State.refuse (s : State) (n reason : Nat) : State := (s.endContext n 5 reason).post Ev.TXN_REFUSED n reason

/-- The end of validation: REFUSED or PENDING. -/
def State.txnValidated (s : State) (n : Nat) : State :=
  let c := s.context n
  if c.state ≠ .validating then s
  else
    let r := s.validate c
    if r ≠ 0 then s.refuse n r else s.setContext n { c with state := .pend, readyAt := s.tm.mono }

/-! ### The flip (R143 to R149) -/

/-- The word a register takes from an entry: the stored fields, without the seal-bound ones where they wait for the
metrology die (R146). -/
def entryWord (r : RegSpec) (old val : Word) : Word :=
  r.fields.foldl (fun w f => if f.acc.stored then fset ⟨f.lo, f.width⟩ w (fget ⟨f.lo, f.width⟩ val) else w) old

/-- An entry applied: where its register waits for the metrology die the entry is handed to it, else the register takes
the value. -/
def State.applyEntry (s : State) (p : Path) (e : Nat × Word) : State :=
  match s.entryDue p e.1 e.2 with
  | some s1 => s1
  | none =>
    match s.specOf e.1 with
    | some r => s.setApplied p e.1 (entryWord r (s.applied p e.1) e.2)
    | none => s

/-- The boundary that stands now began at this monotonic count. -/
def State.boundaryAt (s : State) : Count := if s.atCycleStart then s.tm.cycleStart else s.tm.mono

/-- The contexts that flip at the boundary that stands now: PENDING for at least 1 µs then (R143). -/
def State.flipping (s : State) : List Nat :=
  [0, 1, 2, 3].filter fun n =>
    let c := s.context n
    c.state == .pend && decide ((Config.usec 1 : Int) ≤ (s.boundaryAt - c.readyAt).toInt)

/-- A context that holds RWS entries while the seal loop is no longer open is refused (R146). -/
def State.refuseSealed (s : State) (n : Nat) : State :=
  let c := s.context n
  if c.entries.any (s.changesCode c.path .rws) && !s.sealOpen then s.refuse n 4 else s

/-- The entries of some contexts together. -/
def State.entriesOf (s : State) (ns : List Nat) : List (Nat × Word) := ns.flatMap fun n => (s.context n).entries

/-- Rules on the combined result of some contexts that fail, each with the contexts involved in it (R145, R94). -/
def State.failing (s : State) (ns : List Nat) : List (List Nat) :=
  let es := s.entriesOf ns
  let rd := s.withEntries es
  let held := fun (p : Nat → Bool) => ns.filter fun n => (s.context n).entries.any fun e => p e.1
  let bad := s.img.rules.filter fun r => (es.any fun e => ruleNames s.img.tunables e.1 r) && !ruleHolds s.img.tunables rd r
  let leap := held fun a => decide (0x20060 ≤ a) && decide (a < 0x200A0)
  (bad.map fun r => held fun a => ruleNames s.img.tunables a r)
    ++ (if !leap.isEmpty && !risesStrictly (leapDays rd) then [leap] else [])

/-- The contexts that lose where two or more flip at once: of each failing rule the highest-numbered one involved (R145). -/
def State.losers (s : State) (ns : List Nat) : List Nat :=
  let out := (s.failing ns).filterMap List.getLast?
  if ns.length < 2 then [] else ns.filter out.contains

/-- The contexts that flip together: those a failing rule throws out end REFUSED, all judged on the one combined result (R145). -/
def State.settle (s : State) (ns : List Nat) : State × List Nat :=
  let out := s.losers ns
  (out.foldl (fun st n => st.refuse n 2) s, ns.filter fun n => !out.contains n)

/-- The values that entries give their registers. -/
def State.entryNow (s : State) (p : Path) (e : Nat × Word) : Word :=
  match s.specOf e.1 with
  | some r => entryWord r (s.applied p e.1) e.2
  | none => e.2

/-- A flip of TIME_SET_HI requests the pair as a correction, where the source allows one; else it is denied (R73). -/
def State.timeRequested (s : State) (c : Ctx) : State :=
  if !(c.entries.any fun e => e.1 == Reg.TIME_SET_HI) then s
  else if 2 < s.fld Reg.TIME_STAT Fld.TIME_STAT_SRC then
    s.postArg Ev.DENIED (accArg ⟨c.path, c.role, c.session⟩ Reg.TIME_SET_HI)
  else s.requestTime (s.rd Reg.TIME_SET_HI)

/-- A context flips (R143, R149): its entries take their values, the undo set is recorded for a trial, and it ends
COMMITTED (or COMMITTED_LATE) or enters TRIAL. -/
def State.flipOne (s : State) (n : Nat) : State :=
  let c := s.context n
  let undo := c.entries.map fun e => (e.1, s.applied c.path e.1)
  let s1 := c.entries.foldl (fun st e => st.applyEntry c.path e) s
  let s2 := (s1.flipHooks s (c.entries.map (·.1))).timeRequested c
  let s3 := s2.wr (Reg.IMG_TXN_LAST n) (s2.rd Reg.TIME_CYCLE_CNT)
  let res := if c.late then 2 else 1
  let s4 :=
    if c.isTrial then
      s3.setContext n { c with
        state := .trial, result := res, reason := 0, undo := undo, since := s3.tm.mono,
        outlets := s3.outletsHeld (c.entries.map (·.1)) }
    else
      c.entries.foldl (fun st e => st.notePersist e.1 (s.entryNow c.path e)) (s3.endContext n res 0)
  s4.post Ev.TXN_COMMITTED n

/-- What a flip or a rollback of a context leaves at the standby side (R152, R169): where its last copy had the context as it stood, the standby
side flips as well; else the entries' old values come back with a fail-over before the next copy. -/
def State.flipFollowed (s before : State) (n : Nat) (es : List (Nat × Word)) : State :=
  let c := before.context n
  if SMap.get (fun _ => Ctx.reset) s.keep.ctxHeld n = c then
    { s with keep := { s.keep with ctxHeld := SMap.put (fun _ => Ctx.reset) s.keep.ctxHeld n (s.context n) } }
  else
    let olds := (Reg.IMG_TXN_LAST n, (0 : Word)) :: es
    { s with tm := { s.tm with accepted :=
        (olds.map fun e => ⟨c.path, e.1, 0xFFFFFFFF, before.applied c.path e.1⟩) ++ s.tm.accepted } }

/-- Every context that is due flips (R143 to R149). -/
def State.txnFlip (s : State) : State :=
  let s1 := s.flipping.foldl State.refuseSealed s
  let (s2, ns) := s1.settle s1.flipping
  ns.foldl (fun st n => (st.flipOne n).flipFollowed st n (st.context n).entries) s2

/-! ### Trial (R149 to R151) -/

/-- The undo set flips back (R151); it is not validated. -/
def State.rollBack (s : State) (n reason : Nat) : State :=
  let c := s.context n
  let s1 := c.undo.foldl (fun st e => st.applyEntry c.path e) s
  let s2 := s1.flipHooks s (c.undo.map (·.1))
  let s3 := s2.wr (Reg.IMG_TXN_LAST n) (s2.rd Reg.TIME_CYCLE_CNT)
  (s3.endContext n 4 reason).post Ev.TXN_ROLLED_BACK n reason

/-- A confirmed trial ends CONFIRMED, and its PERSIST values are stored (R150, R131). -/
def State.confirmTrial (s : State) (n : Nat) : State :=
  let c := s.context n
  c.undo.foldl (fun st e => st.notePersist e.1 (st.applied c.path e.1)) (s.endContext n 3 0)

/-- What a boundary does to a trial (R150, R151): a rollback that is due flips back, else a CONFIRM takes effect. -/
def State.trialBoundary (s : State) (n : Nat) : State :=
  let c := s.context n
  if c.state ≠ .trial then s
  else
    match c.rollback with
    | some r => (s.rollBack n r).flipFollowed s n c.undo
    | none => if c.confirm then (s.confirmTrial n).flipFollowed s n [] else s

/-- The transactions at a base-cycle boundary (class 5 of R35): trials end, and every context that is due flips. -/
def State.txnBoundary (s : State) : State := ([0, 1, 2, 3].foldl State.trialBoundary s).txnFlip

/-! ### The rows -/

/-- A write to IMG_TXN_CTRL_n: the command it names; an unknown one posts PARAM_REJECT. -/
def State.txnCtrlWrite (s : State) (acc : Access) (n : Nat) (val : Word) : State :=
  s.command acc (Reg.IMG_TXN_CTRL n) .all fun s1 =>
    let cmd := fget Fld.IMG_TXN_CTRL_CMD val
    if cmd = 1 then s1.txnBegin acc n
    else if cmd = 2 then s1.txnCommit acc n false
    else if cmd = 3 then s1.txnCommit acc n true
    else if cmd = 4 then s1.txnAbort acc n
    else if cmd = 5 then s1.txnConfirm acc n
    else s1.paramReject acc (Reg.IMG_TXN_CTRL n)

/-- A write to IMG_TXN_TRIAL_n: outside OPEN or from another session it is denied (R156); WINDOW_MS below 10 and a value outside a tunable's
bounds or rules are not accepted (R93, R127); a PERSIST value is noted (R131). -/
def State.txnTrialWrite (s : State) (acc : Access) (n : Nat) (val : Word) : State :=
  s.command acc (Reg.IMG_TXN_TRIAL n) .all fun s1 =>
    let c := s1.context n
    if c.state ≠ .opened ∨ !c.ownedBy acc then s1.postArg Ev.DENIED (accArg acc (Reg.IMG_TXN_TRIAL n))
    else if fget Fld.IMG_TXN_TRIAL_WINDOW_MS val < 10 ∨ !s1.tunablesOk (Reg.IMG_TXN_TRIAL n) (val &&& 0x1F00FFFF) then s1.paramReject acc (Reg.IMG_TXN_TRIAL n)
    else (s1.wr (Reg.IMG_TXN_TRIAL n) (val &&& 0x1F00FFFF)).notePersist (Reg.IMG_TXN_TRIAL n) (val &&& 0x1F00FFFF)

/-- BEGIN (R133). -/
def execTxnBegin (dt : Nat) (acc : Access) (n : Nat) (s : State) : Out := .next ((s.tick dt).txnCtrlWrite acc (n % 4) 1)

/-- COMMIT (R141). -/
def execTxnCommit (dt : Nat) (acc : Access) (n : Nat) (s : State) : Out := .next ((s.tick dt).txnCtrlWrite acc (n % 4) 2)

/-- COMMIT_TRIAL (R141). -/
def execTxnCommitTrial (dt : Nat) (acc : Access) (n : Nat) (s : State) : Out :=
  .next ((s.tick dt).txnCtrlWrite acc (n % 4) 3)

/-- ABORT (R154). -/
def execTxnAbort (dt : Nat) (acc : Access) (n : Nat) (s : State) : Out := .next ((s.tick dt).txnCtrlWrite acc (n % 4) 4)

/-- TXN_CONFIRM (R150). -/
def execTxnConfirm (dt : Nat) (acc : Access) (n : Nat) (s : State) : Out := .next ((s.tick dt).txnCtrlWrite acc (n % 4) 5)

/-- TXN_VALIDATION_DONE (R141, R142). -/
def execTxnValidationDone (dt : Nat) (n : Nat) (s : State) : Out := .next ((s.tick dt).txnValidated (n % 4))

/-- TXN_FLIP (R143): at a boundary every PENDING context that is due flips. -/
def execTxnFlip (dt : Nat) (s : State) : Out :=
  let s1 := s.tick dt
  .next (if s1.atCycleStart then s1.txnFlip else s1)

/-- TXN_CONFIRM_EFFECT (R150): at the boundary a confirmed trial ends CONFIRMED and its PERSIST values are stored. -/
def execTxnConfirmEffect (dt : Nat) (n : Nat) (s : State) : Out :=
  let s1 := s.tick dt
  let c := s1.context (n % 4)
  if s1.atCycleStart ∧ c.state = .trial ∧ c.confirm ∧ c.rollback = none then
    .next ((s1.confirmTrial (n % 4)).flipFollowed s1 (n % 4) [])
  else .next s1

/-- TXN_IDLE_TIMEOUT (R140): IDLE_TMO without a staging write ends an OPEN context EXPIRED. -/
def execTxnIdleTimeout (dt : Nat) (n : Nat) (s : State) : Out :=
  let s1 := s.tick dt
  let c := s1.context (n % 4)
  if c.state = .opened ∧ Config.msec (100 * s1.fld Reg.IMG_TXN_CFG Fld.IMG_TXN_CFG_IDLE_TMO) ≤ s1.since c.since then
    .next (s1.endContext (n % 4) 7 0)
  else .next s1

/-- TXN_TRIAL_TIMEOUT (R151): WINDOW_MS without CONFIRM schedules a rollback with reason TIMEOUT. -/
def execTxnTrialTimeout (dt : Nat) (n : Nat) (s : State) : Out :=
  let s1 := s.tick dt
  let c := s1.context (n % 4)
  if c.state = .trial ∧ c.confirm = false ∧ Config.msec c.window ≤ s1.since c.since then
    .next (s1.trialRollback (n % 4) 8)
  else .next s1

/-- TXN_ROLLBACK (R151): at the boundary a due rollback flips the undo set back. -/
def execTxnRollback (dt : Nat) (n : Nat) (s : State) : Out :=
  let s1 := s.tick dt
  let c := s1.context (n % 4)
  match c.rollback with
  | some r => .next (if s1.atCycleStart ∧ c.state = .trial then (s1.rollBack (n % 4) r).flipFollowed s1 (n % 4) c.undo else s1)
  | none => .next s1

/-- IMG_TXN_TRIAL_WRITE (R156). -/
def execImgTxnTrialWrite (dt : Nat) (acc : Access) (n : Nat) (val : Word) (s : State) : Out :=
  .next ((s.tick dt).txnTrialWrite acc (n % 4) val)

end Sys2Proof.Machine
end

