-- ==== Sys2Proof/Machine/Serve.lean ====
section
/-! DEFINITION. What a fail-over, orphan control, a reset of a side and a wipe do to the connections, the transfers and the outputs
(R115, R170, R689 to R691, R736, R745). -/

namespace Sys2Proof.Machine

open Sys2Proof

/-! ### Objects (R740) -/

/-! What an attribute is, as Config.objAttr answers for a class and attribute number. -/

namespace Obj

/-- The basic-auth password of the management client: write-only. -/
def password : Nat := 1
/-- A further setting of the management client: version, URLs, profile, identity, heartbeat. -/
def clientCfg : Nat := 2
/-- The MGMT, CSMS or a V2G trust anchor, or a revocation list. -/
def anchor : Nat := 3
/-- The METROLOGY trust anchor. -/
def anchorMetr : Nat := 4
/-- The SAFETY trust anchor. -/
def anchorSafe : Nat := 5
/-- The certificate of the management server. -/
def serverCert : Nat := 6
/-- A further device certificate. -/
def cert : Nat := 7
/-- A certificate signing request: read-only. -/
def csr : Nat := 8
/-- A setting of a vehicle stack. -/
def vehicle : Nat := 9
/-- A setting of the time function. -/
def time : Nat := 10
/-- The token list, or a session class of a group. -/
def tokens : Nat := 11
/-- A charging profile: read-only. -/
def profile : Nat := 12
/-- An image key slot; the instance is the slot. -/
def imageKey : Nat := 13
/-- HOST_CFG.ROLE. -/
def hostRole : Nat := 14
/-- The life-cycle nonce: read-only; a read issues it. -/
def nonce : Nat := 15
/-- A life-cycle token. -/
def lifeToken : Nat := 16
/-- The provisioning command of R693. -/
def provision : Nat := 17
/-- A scrap command of the provisioning objects (R693). -/
def scrap : Nat := 18
/-- The package chunks of the firmware. -/
def firmware : Nat := 19
/-- The bank state of the firmware: read-only. -/
def bankState : Nat := 20
/-- The side's event log: read-only. -/
def log : Nat := 21
/-- A billing object that is written (R586). -/
def billing : Nat := 22
/-- A billing object that is only read. -/
def billingRead : Nat := 23
/-- A record export: read-only. -/
def recordExport : Nat := 24

end Obj

/-- The class of an object identifier. -/
def oidClass (oid : Nat) : Nat := oid / 0x10000 % 0x10000

/-- What an object identifier names. -/
def oidKind (oid : Nat) : Nat := Config.objAttr (oidClass oid) (oid % 0x100)

/-- The instance of an object identifier. -/
def oidInst (oid : Nat) : Nat := oid / 0x100 % 0x100

/-! ### Connections (R735, R736) -/

/-- A management connection. -/
def State.mgmtConn (s : State) (c : Nat) : Option Conn := (s.host.conns.find? fun e => e.1 == c).map (·.2)

/-- HOST_MGMT.CONNS and SUBSCRIBERS follow the connections. -/
def State.showConns (s : State) : State :=
  (s.setF Reg.HOST_MGMT Fld.HOST_MGMT_CONNS (min s.host.conns.length 255)).setF Reg.HOST_MGMT Fld.HOST_MGMT_SUBSCRIBERS
    (min (s.host.conns.filter fun e => e.2.mask != 0).length 255)

/-- The key of a session among those that send objects. -/
def sessionKey (p : Path) (session : Nat) : Nat := p.code * 0x10000 + session % 0x10000

/-- The incomplete objects of a session are dropped. -/
def State.dropParts (s : State) (p : Path) (session : Nat) : State :=
  { s with host := { s.host with objPart := s.host.objPart.filter fun e => e.2.session != sessionKey p session } }

/-- A management connection closes: its session ends under R140 and R151. -/
def State.closeConn (s : State) (c : Nat) : State :=
  match s.mgmtConn c with
  | none => s
  | some _ =>
    let s1 := (s.sessionClose .mgmt c).dropParts .mgmt c
    { s1 with host := { s1.host with conns := SMap.erase s1.host.conns c, sent := SMap.erase s1.host.sent c } }.showConns

/-- Every management connection and the CSMS connection close (R170, R690, R707). -/
def State.closeConns (s : State) : State :=
  let s1 := (s.host.conns.map (·.1)).foldl State.closeConn s
  { s1 with host := { s1.host with csmsUp := false } }

/-- The host-link session ends (R730). -/
def State.closeHost (s : State) : State :=
  ((s.sessionClose .host 0).dropParts .host 0).setF Reg.HOST_STAT Fld.HOST_STAT_SESSION 0

/-! ### Firmware banks (R744, R745) -/

/-- The field of HOST_FW_STAT that holds a bank's STATE. -/
def bankField (n : Nat) : Field := if n = 0 then Fld.HOST_FW_STAT_STATE_A else Fld.HOST_FW_STAT_STATE_B

/-- The sides that a firmware transfer reaches: the running sides, or those in BOOT where no bank passed (R747). -/
def State.fwSides (s : State) : List Side :=
  if s.fld Reg.HOST_FW_STAT Fld.HOST_FW_STAT_RECOVERY = 1 then [Side.a, Side.b].filter fun x => (s.side x).state == .boot
  else s.runningSides

/-- A bank erased on every side that a transfer reaches, in a STATE. -/
def State.emptyBank (s : State) (n st : Nat) : State :=
  let s1 := s.fwSides.foldl (fun t x => t.eraseBytes (bankKey x n 0) 0x800000) s
  let s2 := (s1.setF Reg.HOST_FW_STAT (bankField n) st).wr (Reg.HOST_FW_VER n) 0
  { s2 with host := { s2.host with fwWritten := SMap.put (fun _ => 0) s2.host.fwWritten n 0 } }

/-- An open transfer ends and its bank is EMPTY (R745). -/
def State.fwCancel (s : State) : State :=
  match s.host.fwXfer with
  | none => s
  | some n =>
    let s1 := s.emptyBank n 0
    { s1 with host := { s1.host with fwXfer := none, fwWait := false } }

/-- A transfer still open at a fail-over (R745). -/
def State.fwLost (s : State) : State := if s.host.fwXfer.isSome then s.fwCancel.post Ev.FW_XFER_LOST else s

/-- A side receives the other side's slots, with their STATE, and banks over the Keeper link before it enters BULK (R115, R747). -/
def State.copyMram (s : State) (y x : Side) : State :=
  let here := fun k : Nat => k / 0x10000000 == x.code
  let slots := [0, 1].foldl (fun (t : State) n =>
    let t1 := (t.wr (sideReg x (Reg.IMG_SLOT_STAT n)) (t.rd (sideReg y (Reg.IMG_SLOT_STAT n)))).wr (sideReg x (Reg.IMG_SLOT_VER n))
      (t.rd (sideReg y (Reg.IMG_SLOT_VER n)))
    { t1 with img := { t1.img with written := SMap.put (fun _ => 0) t1.img.written (slotLenKey x n) (t1.slotLen y n) } }) s
  let rest := { slots with bytes := s.bytes.filter fun e => !here e.1 }
  (s.bytes.filter fun e => e.1 / 0x10000000 == y.code).foldl (fun st e =>
    st.setByte (x.code * 0x10000000 + e.1 % 0x10000000) e.2) rest

/-! ### Wipes (R689 to R691) -/

/-- An object that the secret region or the secret part of the service area holds (R681, R688). -/
def secretOid (oid : Nat) : Bool := oidKind oid == Obj.password

/-- A bulk transfer to a side starts again (R695). -/
def State.bulkAgain (s : State) (x : Side) : State :=
  if (s.side x).state = .bulk then
    let r := { s.side x with since := s.tm.mono }
    { s with keep := { s.keep with sides := SMap.put (fun _ => SideRec.reset) s.keep.sides x.code r, bulk := BulkXfer.reset } }
  else s

/-- What a wipe does on the sides (R690, R695): the secret objects, the connections, the sessions that use TLS; a bulk transfer
starts again. -/
def State.wipeSides (s : State) (cause : Nat) : State :=
  let s1 := s.closeConns
  let s2 := { s1 with host := { s1.host with objects := s1.host.objects.filter fun e => !secretOid e.1 } }
  let s3 := s2.usedOutlets.foldl (fun st n =>
    if st.fld (Reg.OUTL_O_STAT n) Fld.OUTL_O_STAT_TLS = 1 ∧ 2 ≤ st.oState n then st.endCause n 4 else st) s2
  let s4 := (s3.bulkAgain .a).bulkAgain .b
  (s4.setF Reg.MEM_STAT Fld.MEM_STAT_WIPED 1).post Ev.MEM_WIPE 0xFFF cause

/-- A wipe starts, with its cause (MEM_SEC.CAUSE): the Guard die records it, in its fault log too (R682); running sides perform it at once, on the others it is
pending (R691). A tamper wipe drops an ARM (R695). -/
def State.wipe (s : State) (cause : Nat) : State :=
  let n := min (s.fld Reg.MEM_SEC Fld.MEM_SEC_WIPES + 1) 0xFFFF
  let s1 := ((s.wr Reg.MEM_SEC (BitVec.ofNat 32 (cause * 0x10000000 + n))).wr Reg.MEM_SEC_TS_LO (s.tm.ts.extractLsb' 0 32)).wr
    Reg.MEM_SEC_TS_HI (s.tm.ts.extractLsb' 32 32)
  let off := [Side.a, Side.b].filter fun x => !s.runningSides.contains x
  let s2 := { s1 with mem := { s1.mem with
    wipePend := off.map Side.code
    faults := s1.mem.faults ++ [{ kind := 1, cause := cause, ts := s1.tm.ts, mono := s1.tm.mono }]
    armed := if cause ≤ 4 then none else s1.mem.armed } }
  if s.runningSides.isEmpty then s2 else s2.wipeSides cause

/-- A side performs its pending wipe before it leaves BOOT (R691); with no side running at the wipe's start, the first to boot
performs it for the module. -/
def State.pendingWipe (s : State) (x : Side) : State :=
  if s.mem.wipePend.contains x.code then
    let all := decide (2 ≤ s.mem.wipePend.length)
    let s1 := { s with mem := { s.mem with wipePend := s.mem.wipePend.filter (· != x.code) } }
    if all then s1.wipeSides (s1.fld Reg.MEM_SEC Fld.MEM_SEC_CAUSE) else s1
  else s

/-! ### Fail-over, switchover, orphan control -/

/-- The plain writes that the lost side accepted, and the flips it made, since the last copy are lost, in force or waiting for the boundary
(R152, R731). -/
def State.writesLost (s : State) : State :=
  let s1 := s.tm.accepted.foldl (fun st w =>
    st.setApplied w.path w.addr ((st.applied w.path w.addr &&& ~~~w.mask) ||| (w.old &&& w.mask))) s
  let kept := s1.img.tuneDue.filter fun t => decide (s.since s.tm.cycleStart < s.since t.since)
  { s1 with tm := { s1.tm with accepted := [], deferred := [] }, img := { s1.img with tuneDue := kept } }

/-- The management client's and OCPP state goes on from the last service checkpoint, from which the new active side opens its connections
again (R170). -/
def State.fromCheckpoint (s : State) : State :=
  let c := s.host.checkpoint
  { s with host := { s.host with csmsFails := c.fails, csmsUrl := c.url, csmsQueue := c.queue, csmsSent := c.sent } }

/-- What a fail-over does beside the sides (R115, R170, R176, R181, R311, R312, R372, R584, R604, R731, R745). -/
def State.failoverHooks (s : State) (lost : Side) : State :=
  let s1 := ((s.writesLost.sendTakeover ((s.keep.lastAgreed + 1) % 0x100000000) 2 1).canFailover lost |>.ethFailover lost).closeConns.fromCheckpoint
  let s2 := (((s1.imgLost).fwLost).resendSettings).acqMark 0x20
  { s2 with sst := { s2.sst with foCycle := some s2.tm.cycleN } }.raise Reg.HOST_STAT Fld.HOST_STAT_FAILOVER

/-- What a planned switchover does beside the sides (R192, R311, R636). -/
def State.switchHooks (s : State) (old : Side) : State := (s.sendTakeover 0 1 0).canSwitch old

/-- What orphan control does to the outputs (R177, R178, R483, R604, R659). -/
def State.orphanHooks (s : State) : State :=
  ((((((((s.pairsOrphan true).fogEnter 2).openBreakers).outlOrphan).acqStopAll).closeConns).imgLost).fwLost).dropScheds

/-- What the end of orphan control does (R179, R483). -/
def State.orphanEndHooks (s : State) : State := (s.pairsOrphan false).outlRestart

end Sys2Proof.Machine
end

