-- ==== Sys2Proof/Machine/Keep.lean ====
section
/-! DEFINITION. The two sides: Beacons, the Keeper copy, fail-over, orphan control, resynchronisation and switchover (R157 to
R195, R788, R792). -/

namespace Sys2Proof.Machine

open Sys2Proof

/-- The state with a side's record set; its Hedgerow channel and its engines follow its state (R487, R588). -/
def State.setSide (s : State) (x : Side) (r : SideRec) : State :=
  ({ s with keep := { s.keep with sides := SMap.put (fun _ => SideRec.reset) s.keep.sides x.code r } }.chanFollow x).acqFollow x

/-- A reset of a side (PWR_SIDE_RST): 1 WATCHDOG, 2 SUPPLY, 3 TEMP, 4 READMIT, 5 TAKE_OUT, 6 REQUEST. Its DRAM is lost
(R680), and its queues are empty with every credit at the producer (R80). -/
def State.sideReset (s : State) (x : Side) (code : Nat) : State :=
  (((s.setF (Reg.PWR_SIDE_RST x.code) Fld.PWR_SIDE_RST_LAST code).bump (Reg.PWR_SIDE_RST x.code)
    Fld.PWR_SIDE_RST_COUNT).memLost x).queuesEmpty x

/-- The Guard die changes the sides' states: it has power, the start has reached the Guard step, and no GUARD_FAULT is latched
(R47). -/
def State.guardActs (s : State) : Bool := s.sup.phase == 4 && !s.keep.guardFault && decide (s.fld Reg.PWR_STAT Fld.PWR_STAT_STATE < 3)

/-- A side enters a state now. -/
def State.enterSide (s : State) (x : Side) (st : SideState) : State :=
  s.setSide x { s.side x with state := st, since := s.tm.mono, booted := false }

/-- While no side is ACTIVE and no orphan control runs, the map is served by Side A, or by Side B while Side A is FAILED
(R788). -/
def State.routeMap (s : State) : State :=
  if s.hasActive || s.keep.orphan then s
  else s.setF Reg.KEEP_STAT Fld.KEEP_STAT_ACTIVE (flag ((s.side .a).state == .failed))

/-- A side goes to FAILED with an event; the Keeper link is no longer trained. -/
def State.failSide (s : State) (x : Side) (ev : Nat) : State :=
  let s1 := (s.enterSide x .failed).post ev x.code
  { s1 with keep := { s1.keep with linkTrained := false } }.routeMap

/-! ### Beacons (R160 to R163) -/

/-- The HEALTH flags that are fail-over causes (R162): bits 0 to 4. -/
def failCause (health : Nat) : Bool := health % 32 != 0

/-- What a side produced in the cycle (R161): every edge command of the local pairs and every schedule of the ring legs, in order. -/
def State.outWords (s : State) (x : Side) : List (Nat × Int) := SMap.get (fun _ => []) s.keep.made x.code

/-- The control part of a side's state (R161), as the Keeper copy carries it (R169): carried tile words, carriers, trims, epochs. -/
def State.ctrlWords (s : State) (x : Side) : List (Nat × Int) :=
  ((s.loop.tiles.filter fun e => e.1 / 64 == x.code).flatMap fun e =>
    (e.1 % 64 * 4096, (e.2.stampNow : Int)) :: (e.2.held.map fun w => (e.1 % 64 * 4096 + w.1, w.2.toInt)) ++ e.2.satHeld)
  ++ ((s.edge.pairs.filter fun e => e.1 / 65536 == x.code).flatMap fun e =>
    let n := e.1 % 65536
    [(n, (e.2.next : Int)), (n, e.2.per), (n, e.2.ph), (n, (s.rd (loopReg x (Reg.EDGE_TRIM n))).toInt),
      (n, (s.rd (loopReg x (Reg.EDGE_PCNT n))).toInt)])
  ++ (0, (s.keep.epochBase : Int)) :: s.keep.epochs.map fun e => (e.1, (e.2 : Int))

/-- Both sides end a base cycle: its number, their digests of it, and whether each ran all of it (R160, R161). -/
def State.cycleEnds (s : State) : State :=
  let ended := fun (x : Side) => (x.code, (⟨(crc64 (Config.digestForm (s.outWords x))).toNat,
    (crc64 (Config.digestForm (s.ctrlWords x))).toNat, decide (s.since s.tm.cycleStart ≤ s.since (s.side x).since)⟩ : CycleEnd))
  { s with keep := { s.keep with reported := (s.rd Reg.TIME_CYCLE_CNT).toNat, ends := [ended .a, ended .b], made := [] } }

/-- How a side ended the last cycle. -/
def State.ended (s : State) (x : Side) : CycleEnd := SMap.get (fun _ => CycleEnd.reset) s.keep.ends x.code

/-- HEALTH of a side's next Beacon (R162); the active side's copy has completed or not. -/
def State.healthOf (s : State) (x : Side) (inp : BoundaryIn) (done : Bool) : Nat :=
  let r := s.side x
  let takes := r.state == .standby || r.state == .shadow
  r.flags % 32 + 32 * flag (r.state == .active && !done) + 64 * flag (takes && r.keepRx) + 128 * flag (takes && r.digestEq)
    + 256 * flag (inp.pllLost.contains x) + 512 * flag (inp.svcStopped.contains x)

/-- The 32 bytes of a Beacon (R161). -/
def beaconBytes (x : Side) (st ep cyc health out ctrl : Nat) : List Byte :=
  let b := leBytes 1 (match x with | .a => 0x0A | .b => 0x0B) ++ leBytes 1 st ++ leBytes 2 ep ++ leBytes 4 cyc ++ leBytes 4 health
    ++ leBytes 8 out ++ leBytes 8 ctrl
  b ++ leBytes 4 (crc32 b).toNat

/-- The active-side epoch that a side holds: the standby side's is that of its last copy. -/
def State.heldEpoch (s : State) (x : Side) : Nat :=
  if (s.side x).state = .standby ∨ (s.side x).state = .shadow then
    SMap.get (fun _ => s.keep.baseHeld) s.keep.epochsHeld plActive else s.epoch plActive

/-- The side sends Beacons: it runs a structure. -/
def State.sendsBeacon (s : State) (x : Side) : Bool :=
  let st := (s.side x).state
  st == .bulk || st == .shadow || st == .standby || st == .active

/-- At a boundary each side sends the Beacon of the ended cycle (R160); the fail-over causes it carries are told with it (R162). -/
def State.sendBeacons (s : State) (inp : BoundaryIn) (done : Bool) : State :=
  let form := fun (x : Side) =>
    let e := s.ended x
    (x.code, (⟨beaconBytes x (s.side x).state.code (s.heldEpoch x) s.keep.reported (s.healthOf x inp done) e.out e.ctrl,
      (s.side x).state.code, e.whole⟩ : Beacon))
  let sends := [Side.a, Side.b].filter s.sendsBeacon
  { s with keep := { s.keep with
      beacons := sends.map form
      judged := false
      sides := [Side.a, Side.b].foldl (fun m x =>
        SMap.put (fun _ => SideRec.reset) m x.code { s.side x with flags := 0 }) s.keep.sides } }

/-- The Beacon that a side sent at the last boundary. -/
def State.beacon (s : State) (x : Side) : Option Beacon := (s.keep.beacons.find? fun e => e.1 == x.code).map (·.2)

/-- The bytes of a side's Beacon as they arrive. -/
def State.arrived (s : State) (x : Side) (a : BeaconIn) : Option (List Byte) :=
  match a with
  | .sent => (s.beacon x).map Beacon.bytes
  | .none => none
  | .bytes b => some b

/-- HEALTH of a Beacon. -/
def beaconHealth (b : List Byte) : Nat := leNat ((b.drop 8).take 4)
/-- OUT_DIGEST of a Beacon. -/
def beaconOut (b : List Byte) : Nat := leNat ((b.drop 12).take 8)
/-- CYCLE of a Beacon. -/
def beaconCycle (b : List Byte) : Nat := leNat ((b.drop 4).take 4)

/-- Why a side's Beacon counts as missing (R163), as KEEP_LAST_FO.CAUSE; none when it is good. DESIGN CHOICE (log entry 62): where several
cases hold at once the cause is that of the first in the order arrival, CRC32, SIDE, CYCLE, STATE; the spec gives no order. DEDUCED (log
entry 63): STATE is held against the state of the side at the boundary at which the Beacon was sent, so that a change of state which the Guard
die itself makes before the deadline is no missing Beacon. -/
def State.beaconBad (s : State) (x : Side) (beacon : Option (List Byte)) : Option Nat :=
  match beacon with
  | none => some 3
  | some b =>
    let g := fun i => leNat ((b.drop i).take 1)
    if b.length ≠ 32 ∨ (crc32 (b.take 28)).toNat ≠ leNat (b.drop 28) then some 4
    else if g 0 ≠ (match x with | .a => 0x0A | .b => 0x0B) then some 5
    else if beaconCycle b ≠ s.keep.reported then some 6
    else if some (g 1) ≠ (s.beacon x).map Beacon.state then some 7
    else none

/-- A Beacon's verdict: the cause of R163, or HEALTH where it carries a fail-over cause (R172). -/
def State.beaconCause (s : State) (x : Side) (beacon : Option (List Byte)) : Option Nat :=
  match s.beaconBad x beacon, beacon with
  | some c, _ => some c
  | none, some b => if failCause (beaconHealth b) then some 8 else none
  | none, none => none

/-- An accepted Beacon is shown in KEEP_BEACON_A or B. -/
def State.showBeacon (s : State) (x : Side) (beacon : Option (List Byte)) : State :=
  match s.beaconBad x beacon, beacon with
  | none, some b => s.wr (Reg.KEEP_BEACON x.code) (BitVec.ofNat 32 (beaconCycle b % 65536 * 65536 + beaconHealth b % 65536))
  | _, _ => s

/-! ### Fail-over and orphan control (R172 to R179, R792) -/

/-- KEEP_LAST_FO, its timestamp and the number of changes of active side. -/
def State.recordLoss (s : State) (x : Side) (cause : Nat) : State :=
  let w := cause * 0x10000000 + x.code * 0x1000000 + (s.rd Reg.TIME_CYCLE_CNT).toNat % 0x1000000
  let s1 := ((s.wr Reg.KEEP_LAST_FO (BitVec.ofNat 32 w)).wr Reg.KEEP_LAST_FO_TS_LO (s.tm.ts.extractLsb' 0 32)).wr
    Reg.KEEP_LAST_FO_TS_HI (s.tm.ts.extractLsb' 32 32)
  { s1 with ev := { s1.ev with changes := s1.ev.changes + 1 } }

/-- A context at a fail-over (R152): a VALIDATING one validates again, a PENDING one flips at least 1 µs after the
fail-over and late. -/
def State.lateContext (s : State) (n : Nat) : State :=
  let c := s.context n
  match c.state with
  | .validating => s.setContext n { c with since := s.tm.mono }
  | .pend => s.setContext n { c with late := true, readyAt := s.tm.mono }
  | _ => s

/-- A waiting switchover request lapses: a condition of R191 no longer holds (R192). -/
def State.dropSwitch (s : State) : State :=
  if s.keep.switchReq.isNone then s else { s with keep := { s.keep with switchReq := none } }.post Ev.SWITCH_REFUSED

/-- The contexts as the new active side holds them from the last copy (R152); a condition of R151 that was seen in the running cycle was seen
on both sides and stays due (R36, R38). -/
def State.ctxBack (s : State) : State :=
  { s with ctx := s.keep.ctxHeld.map fun e =>
      let now := s.context e.1
      if e.2.state = .trial ∧ now.state = .trial ∧ e.2.rollback = none then (e.1, { e.2 with rollback := now.rollback }) else e }

/-- The fail-over away from a side (R172, R176). -/
def State.failOver (s : State) (x : Side) (cause : Nat) : State :=
  let s1 := ((s.ctxBack.mergeMove x x.other).enterSide x .failed).enterSide x.other .active
  let s2 := { s1 with keep := { s1.keep with linkTrained := false } }.dropSwitch
  let s3 := (s2.setF Reg.KEEP_STAT Fld.KEEP_STAT_ACTIVE x.other.code).recordLoss x cause
  let s4 := s3.raiseEpochs s3.keep.epochsHeld s3.keep.baseHeld 2
  let s5 := [0, 1, 2, 3].foldl State.lateContext s4
  let s6 := (s5.bump Reg.KEEP_COUNT Fld.KEEP_COUNT_FAILOVERS).failoverHooks x
  (s6.postArg Ev.FAILOVER (s6.rd Reg.KEEP_LAST_FO)).watchFailover

/-- Orphan control (R177): no side is left to take the outputs. A side in BULK or SHADOW has lost its source (R792). -/
def State.orphanEntry (s : State) (x : Side) (cause : Nat) : State :=
  let s1 := s.enterSide x .failed
  let s2 := { s1 with keep := { s1.keep with orphan := true, linkTrained := false } }.dropSwitch
  let y := x.other
  let s3 := if (s2.side y).state = .bulk ∨ (s2.side y).state = .shadow then s2.failSide y Ev.RESYNC_FAIL else s2
  let s4 := ((s3.recordLoss x cause).bump Reg.KEEP_COUNT Fld.KEEP_COUNT_FAILOVERS).orphanHooks
  s4.postArg Ev.ORPHAN_ENTRY (s4.rd Reg.KEEP_LAST_FO)

/-- The active side is lost: to a STANDBY side the Guard die fails over, else orphan control begins. -/
def State.loseActive (s : State) (x : Side) (cause : Nat) : State :=
  if (s.side x.other).state = .standby then s.failOver x cause else s.orphanEntry x cause

/-- A fault of a side seen by the Guard die (R159, R172): the active side is lost; a standby side and one in BULK or
SHADOW go to FAILED. -/
def State.sideFault (s : State) (x : Side) (cause : Nat) : State :=
  match (s.side x).state with
  | .active => s.loseActive x cause
  | .standby => s.failSide x Ev.STANDBY_LOST
  | .bulk => s.failSide x Ev.RESYNC_FAIL
  | .shadow => s.failSide x Ev.RESYNC_FAIL
  | _ => s

/-- BULK starts again from SHADOW, at most three times since BULK was entered from BOOT (R159). -/
def State.shadowRestart (s : State) (x : Side) : State :=
  let r := s.side x
  if r.restarts < 3 then
    let s1 := s.setSide x { r with state := .bulk, since := s.tm.mono, restarts := r.restarts + 1, clean := 0 }
    { s1 with keep := { s1.keep with bulk := BulkXfer.reset } }.setF Reg.KEEP_RESYNC Fld.KEEP_RESYNC_SHADOW_LEFT 0
  else s.failSide x Ev.RESYNC_FAIL

/-- The instants of a list that lie in the last 24 h of the monotonic count. -/
def State.lastDay (s : State) (l : List Count) : List Count := l.filter fun t => decide (s.since t < Config.sec 86400)

/-- A mismatch failure of the standby side (R183): FAILED, and without re-admission once the count of the last 24 h
passes READMIT_MAX. -/
def State.mismatchFail (s : State) (x : Side) : State :=
  let fails := s.lastDay (s.side x).mismFails ++ [s.tm.mono]
  let s1 := s.failSide x Ev.STANDBY_LOST
  let s2 := { s1 with keep := { s1.keep with lastMismatch := none } }
  let out := decide (s.fld Reg.KEEP_CFG Fld.KEEP_CFG_READMIT_MAX + 1 ≤ fails.length)
  let s3 := s2.setSide x { s2.side x with mismFails := fails, noReadmit := out }
  if out then (s3.setF Reg.KEEP_STAT Fld.KEEP_STAT_SUSPECT 1).post Ev.REDUNDANCY_SUSPECT x.code else s3

/-- A digest mismatch with a side, counted and posted (R183). -/
def State.mismatch (s : State) (x : Side) : State :=
  (s.bump Reg.KEEP_MISS Fld.KEEP_MISS_MISMATCHES).post Ev.DIGEST_MISMATCH x.code

/-- A digest mismatch with the standby side (R183). -/
def State.digestMismatch (s : State) (x : Side) : State :=
  let s1 := s.mismatch x
  let near := match s.keep.lastMismatch with
    | some t => decide (s.since t ≤ Config.sec (s.fld Reg.KEEP_CFG Fld.KEEP_CFG_MISMATCH_WIN))
    | none => false
  if near then s1.mismatchFail x
  else { s1 with keep := { s1.keep with lastMismatch := some s1.tm.mono } }

/-- The digests of the two Beacons disagree (R183): OUT_DIGEST differs, or the standby side reports DIGEST_EQ 0 while it
took a copy; neither carries a fail-over cause. -/
def beaconsDiffer (act stb : List Byte) : Bool :=
  let h := beaconHealth stb
  !failCause (beaconHealth act) && !failCause h
  && (beaconOut act != beaconOut stb || (!h.testBit 7 && !h.testBit 6))

/-- Two accepted Beacons with equal OUT_DIGEST confirm their cycle (R312). -/
def State.confirmCycle (s : State) (act stb : Option (List Byte)) : State :=
  match act, stb with
  | some p, some q =>
    if beaconOut p == beaconOut q then { s with keep := { s.keep with lastAgreed := beaconCycle p } } else s
  | _, _ => s

/-- The digest check of a deadline on the side that is not active; a side in SHADOW that has run all of the cycle restarts its BULK
(R159, R183). -/
def State.checkDigests (s : State) (x : Side) (act stb : Option (List Byte)) : State :=
  match act, stb with
  | some p, some q =>
    if beaconsDiffer p q then
      match (s.side x).state with
      | .standby => s.digestMismatch x
      | .shadow => if (s.ended x).whole then (s.mismatch x).shadowRestart x else s
      | _ => s
    else s
  | _, _ => s

/-- The verdict on a side's Beacon; a side that sent none because it ran no cycle is not judged. -/
def State.verdict (s : State) (x : Side) (b : Option (List Byte)) : Option Nat :=
  if (s.beacon x).isNone then none else s.beaconCause x b

/-- The Guard die judges both Beacons, the side that is not active first (R163, R172, R183); both accepted, with a fail-over cause or without,
confirm their cycle (R312). -/
def State.judgeBeacons (s : State) (a b : Option (List Byte)) : State :=
  let x : Side := if s.isActive .b then .b else .a
  let y := x.other
  let bx := match x with | .a => a | .b => b
  let by' := match x with | .a => b | .b => a
  let s1 := (s.showBeacon .a a).showBeacon .b b
  let s2 := if (s.beaconBad x bx).isNone && (s.beaconBad y by').isNone then s1.confirmCycle bx by' else s1
  let s3 := match s.verdict y by' with
    | some c => s2.sideFault y c
    | none => s2
  match s.isActive x, s.verdict x bx with
  | true, some c => s3.loseActive x c
  | true, none => if (s.beaconCause y by').isNone then s3.checkDigests y bx by' else s3
  | false, some c => s3.sideFault x c
  | false, none => s3

/-- The Beacon deadline stands: 1.0 µs after the boundary, to the FCLK period, once for each boundary (R160). -/
def State.deadlineDue (s : State) : Bool :=
  let t := s.since s.tm.cycleStart
  !s.keep.judged && decide (Config.usec 1 ≤ t) && decide (t < Config.usec 1 + Config.fclk)

/-- BEACON_DEADLINE (R163, R172, R183). -/
def execBeaconDeadline (dt : Nat) (a b : BeaconIn) (s : State) : Out :=
  let s1 := s.tick dt
  if s1.deadlineDue && s1.guardActs then
    .next ({ s1 with keep := { s1.keep with judged := true } }.judgeBeacons (s1.arrived .a a) (s1.arrived .b b))
  else .next s1

/-- A side sets a fail-over cause of HEALTH, and with it asserts its fault line (R162, R164). -/
def State.faultFlag (s : State) (x : Side) (bit : Nat) : State :=
  let s1 := s.setSide x { s.side x with flags := withBit (s.side x).flags bit true }
  if s1.guardActs then s1.sideFault x 1 else s1

/-- The bit of HEALTH that a cause of R162 has; none for a reset. -/
def FaultWhy.bit : FaultWhy → Option Nat
  | .memEcc => some 0
  | .residue => some 1
  | .parity => some 2
  | .rail => some 3
  | .temp => some 4
  | .reset _ => none

/-- FAULT_LINE_ASSERTED (R164, R172): a side sets a flag, or is reset, with the code that PWR_SIDE_RST records; the Guard die acts on the
fault line at once. -/
def execFaultLineAsserted (dt : Nat) (side : Side) (why : FaultWhy) (s : State) : Out :=
  let s1 := s.tick dt
  match why with
  | .reset code =>
    if !s1.guardActs then .next s1 else .next ((s1.sideReset side (code % 16)).sideFault side 2)
  | _ => .next (s1.faultFlag side (why.bit.getD 0))

/-! ### Keeper link (R165 to R170) -/

/-- KEEPER_LANE_FAULT (R168): more than 16 errors in 1 ms; the lane is replaced at the next boundary. -/
def execKeeperLaneFault (dt : Nat) (back : Bool) (lane errors : Nat) (s : State) : Out :=
  let s1 := s.tick dt
  let l := lane % 9 + 9 * flag back
  if 16 < errors ∧ s1.bit Reg.KEEP_LANES l ∧ !s1.keep.laneDue.contains l then
    .next ({ s1 with keep := { s1.keep with laneDue := s1.keep.laneDue ++ [l] } }.post Ev.KEEP_LANE (lane % 9))
  else .next s1

/-- A spare lane is in use (KEEP_STAT.SPARE_USED): the spare of a direction is in service and one of its data lanes is not. -/
def State.spareUsed (s : State) : Bool :=
  [0, 9].any fun d => s.bit Reg.KEEP_LANES (d + 8) && (List.range 8).any fun i => !s.bit Reg.KEEP_LANES (d + i)

/-- At the boundary the lanes due leave service; the spare stands in (R168). -/
def State.replaceLanes (s : State) : State :=
  let s1 := s.keep.laneDue.foldl (fun st l => st.setBit Reg.KEEP_LANES l false) s
  { s1 with keep := { s1.keep with laneDue := [] } }.setF Reg.KEEP_STAT Fld.KEEP_STAT_SPARE_USED (flag s1.spareUsed)

/-- What the forward lanes in service carry in a base cycle, in bytes: eight at most carry data, 16 bytes per 10 ns each (R168). -/
def State.laneBytes (s : State) : Nat :=
  min 8 ((List.range 9).filter fun i => s.bit Reg.KEEP_LANES i).length * 16 * tcNs (s.fld Reg.TIME_CYCLE Fld.TIME_CYCLE_TC_CODE) / 10

/-- The copy keeps the budget of R165 and fits the forward lanes in service (R168). -/
def State.copyFits (s : State) (bytes : Nat) : Bool :=
  decide (bytes ≤ copyBudget (tcNs (s.fld Reg.TIME_CYCLE Fld.TIME_CYCLE_TC_CODE))) && decide (bytes ≤ s.laneBytes)

/-- A copy miss of a side (R166, R167): it goes on from its own result. The Guard die changes no side's state under GUARD_FAULT (R47). -/
def State.copyMiss (s : State) (x : Side) : State :=
  let r := s.side x
  let s1 := s.bump Reg.KEEP_MISS Fld.KEEP_MISS_COPY_MISSES
  let s3 := s1.setSide x { r with keepRx := true, digestEq := false, misses := r.misses + 1, clean := 0 }
  if !s3.guardActs then s3 else
  match r.state with
  | .shadow => s3.shadowRestart x
  | .standby => if s.fld Reg.KEEP_CFG Fld.KEEP_CFG_MISS_LIMIT ≤ r.misses + 1 then s3.failSide x Ev.STANDBY_LOST else s3
  | _ => s3

/-- The service checkpoint that goes with the copy, at most once per 100 ms (R169). -/
def State.checkpointTaken (s : State) : State :=
  let h := s.host
  let due := match h.checkpoint.at' with
    | some t => decide (Config.msec 100 ≤ s.since t)
    | none => true
  if due then { s with host := { h with checkpoint := ⟨some s.tm.mono, h.csmsFails, h.csmsUrl, h.csmsQueue, h.csmsSent⟩ } } else s

/-- The rotating pointers of the loop array and the edge engine are copied: those of port 0 (R41). -/
def State.pointersCopy (s : State) (y x : Side) : State :=
  let port0 := fun (e : Nat × Nat) => e.1 / 4 % 2 == 0
  let p := s.ports x
  s.setPorts x { p with pointer :=
    ((s.ports y).pointer.filter port0).foldl (fun m e => SMap.insert m e.1 e.2) (p.pointer.filter fun e => !port0 e) }

/-- A copy taken at the boundary (R24, R166): the side's state is the active side's: tiles, carriers, rotating pointers, epochs, contexts,
register writes, service checkpoint (R152, R169). -/
def State.copyTaken (s : State) (x : Side) : State :=
  let r := s.side x
  let s1 := s.setSide x { r with
    keepRx := false, digestEq := (s.ended x).ctrl == (s.ended x.other).ctrl, misses := 0, clean := r.clean + 1 }
  let s0 := (((s1.tilesCopy x.other x).edgeCopy x.other x).pointersCopy x.other x).checkpointTaken
  let s2 := { s0 with
    keep := { s0.keep with epochsHeld := s0.keep.epochs, baseHeld := s0.keep.epochBase, ctxHeld := s0.ctx }
    tm := { s0.tm with accepted := [] } }
  if r.state = .shadow then
    s2.setF Reg.KEEP_RESYNC Fld.KEEP_RESYNC_SHADOW_LEFT (256 - min 256 (r.clean + 1))
  else s2

/-- The active side's copy has completed within the cycle (R88, R165, R168): its seal arrives, and it fits the lanes that served. -/
def State.copyDone (s : State) (sw : Option CopySeal) : Bool :=
  match sw with
  | some c => s.copyFits c.bytes
  | none => false

/-- The seal of the active side's copy arrives with a copy that fits, good, and without a fail-over cause (R165, R166). -/
def State.sealGood (s : State) (sw : Option CopySeal) : Bool :=
  let x : Side := if s.isActive .b then .b else .a
  match sw with
  | some c => c.crcOk && !failCause (s.side x).flags && s.copyFits c.bytes
  | none => false

/-- The per-cycle copy at a boundary (R165, R166): taken by the side in SHADOW or STANDBY, or missed. Plain writes of the cycle are lost with
the active side only while a STANDBY side lacks them (R731). -/
def State.keeperCopy (s : State) (sw : Option CopySeal) : State :=
  if !s.hasActive then s
  else
    let y : Side := if s.isActive .a then .b else .a
    let s1 := match sw with
      | some c => (s.setF Reg.KEEP_COPY Fld.KEEP_COPY_LAST (min ((c.bytes + 15) / 16) 65535)).peak Reg.KEEP_COPY
          Fld.KEEP_COPY_MAX ((c.bytes + 15) / 16)
      | none => s
    let st := (s1.side y).state
    let s2 := if st = .shadow ∨ st = .standby then (if s1.sealGood sw then s1.copyTaken y else s1.copyMiss y) else s1
    if (s2.side y).state = .standby then s2 else { s2 with tm := { s2.tm with accepted := [] } }

/-! ### The bulk transfer (R187) -/

/-- The bytes of the first pass: every SRAM bank, the control areas of DRAM, the tuning store of the running slot. -/
def State.bulkTotal (s : State) : Nat := 48 * 0x80000 + s.ctrlMb * 0x100000 + 0x100000

/-- A bulk transfer with some more bytes sent: the first pass, then the pages written since they were sent. -/
def BulkXfer.move (b : BulkXfer) (total n : Nat) : BulkXfer :=
  let first := min n (total - b.sent)
  let rest := if b.again.isEmpty then 0 else b.part + (n - first)
  ⟨b.sent + first, b.again.drop (rest / 0x1000), rest % 0x1000⟩

/-- The bulk transfer of the ended cycle: at most 512 MB/s, in what the copy leaves unused of the link (R170, R187). -/
def State.bulkMoves (s : State) (inp : BoundaryIn) : State :=
  if (s.side .a).state ≠ .bulk ∧ (s.side .b).state ≠ .bulk then s
  else
    let copied := match inp.sealWord with
      | some c => c.bytes
      | none => 0
    let n := min (min inp.bulkBytes (512 * tcNs (s.fld Reg.TIME_CYCLE Fld.TIME_CYCLE_TC_CODE) / 1000)) (s.laneBytes - copied)
    { s with keep := { s.keep with bulk := s.keep.bulk.move s.bulkTotal n } }

/-- The pages still to send fit one cycle's copy budget (R187). -/
def State.bulkDone (s : State) : Bool :=
  decide (s.bulkTotal ≤ s.keep.bulk.sent)
  && decide (0x1000 * s.keep.bulk.again.length ≤ copyBudget (tcNs (s.fld Reg.TIME_CYCLE Fld.TIME_CYCLE_TC_CODE)))

/-- The resynchronisation's progress as shown in KEEP_RESYNC, and the link's training, at a boundary. -/
def State.resyncShow (s : State) (trained : Bool) : State :=
  let up := fun (x : Side) => (s.side x).state != .off && (s.side x).state != .failed
  let s1 := { s with keep := { s.keep with linkTrained := s.keep.linkTrained || (trained && up .a && up .b) } }
  [Side.a, Side.b].foldl (fun st x =>
    if (st.side x).state == .bulk then
      (st.setF Reg.KEEP_RESYNC Fld.KEEP_RESYNC_PROGRESS (min (100 * st.keep.bulk.sent / st.bulkTotal) 100)).setF Reg.KEEP_RESYNC
        Fld.KEEP_RESYNC_BULK_MS (min (st.since (st.side x).since / Config.msec 1) 4095)
    else st) s1

/-- What passes between the sides and to the Guard die at a boundary: the copy and the bulk transfer of the ended cycle end, lanes are
replaced, the Beacons leave (R160, R165 to R168, R187). -/
def State.keepBoundary (s : State) (inp : BoundaryIn) : State :=
  ((((s.keeperCopy inp.sealWord).bulkMoves inp).replaceLanes).resyncShow inp.linkTrained).sendBeacons inp (s.copyDone inp.sealWord)

/-! ### The end of an activation (R120, R124) -/

/-- The structure that a side builds from the image in a slot has the digest of the header (R120). -/
def State.structureAgrees (s : State) (n : Nat) (x : Side) : Bool :=
  let g := fun i => s.byte (slotKey s.serving n i)
  Config.structDigest x.code (imgBytes g 0 (imgLen g)) == imgBytes g 0x40 48

/-- At an activation that loads a slot, a side whose structure digest differs from the header's is held out of service as a
failed side; a side in BOOT is judged when its boot ends (R120, R159). -/
def State.holdDiffering (s : State) (n : Nat) : State :=
  [Side.a, Side.b].foldl (fun st x =>
    if st.structureAgrees n x || (st.side x).state == .off || (st.side x).state == .boot || (st.side x).state == .failed then st
    else if st.isActive x then st.loseActive x 8
    else st.failSide x Ev.SIDE_FAILED) s

/-- ACTIVATION_DONE (R124): the target runs if it passes the checks; else the slot that ran is loaded again, or the
module is in SAFE_HOLD. A successful activation clears FALLBACK; after the activation a slot that is not the boot slot is on
trial (R125). -/
def execActivationDone (dt : Nat) (s : State) : Out :=
  let s1 := s.tick dt
  match (if s1.keep.guardFault then none else s1.img.act) with
  | none => .next s1
  | some a =>
    let s2 := { s1 with img := { s1.img with act := none } }
    match s2.tryLoad a.target with
    | (s3, true) => .next ((s3.setF Reg.IMG_STAT Fld.IMG_STAT_FALLBACK 0).startTrial.holdDiffering a.target)
    | (s3, false) =>
      match a.former with
      | none => .next s3.safeHold
      | some r =>
        match s3.tryLoad r with
        | (s4, true) => .next (s4.startTrial.holdDiffering r)
        | (s4, false) => .next s4.safeHold

/-! ### Boot and resynchronisation (R159, R187 to R190) -/

/-- The side's boot passes: self-test, a running structure, and the digest of its header (R159). -/
def State.bootPasses (s : State) (e : BootEnd) : Bool :=
  match s.img.running with
  | some n => e.selfTest && e.digest == imgBytes (fun i => s.byte (slotKey s.serving n i)) 0x40 48
  | none => false

/-- A side becomes ACTIVE out of BOOT; orphan control ends (R159, R179). -/
def State.bootActive (s : State) (x : Side) : State :=
  let s1 := ((s.enterSide x .active).setF Reg.KEEP_STAT Fld.KEEP_STAT_ACTIVE x.code).fogExit
  if s1.keep.orphan then
    let s2 := { s1 with keep := { s1.keep with orphan := false } }.freshEpochs
    { s2 with ev := { s2.ev with changes := s2.ev.changes + 1 } }.orphanEndHooks
  else s1

/-- No firmware bank passes (R747): the side stays in BOOT, and without an active side the module is in orphan control. -/
def State.bootRecovery (s : State) : State :=
  if s.hasActive then s
  else
    let s1 := s.setF Reg.HOST_FW_STAT Fld.HOST_FW_STAT_RECOVERY 1
    if s1.keep.orphan then s1
    else
      let s2 := { s1 with keep := { s1.keep with orphan := true } }.orphanHooks
      s2.postArg Ev.ORPHAN_ENTRY (s2.rd Reg.KEEP_LAST_FO)

/-- A side enters BULK out of BOOT with the active side's slots and banks (R115, R159, R747). -/
def State.bootBulk (s : State) (x : Side) : State :=
  let s1 := (s.copyMram x.other x).setSide x { s.side x with state := .bulk, since := s.tm.mono, restarts := 0, clean := 0, misses := 0 }
  { s1 with keep := { s1.keep with linkTrained := true, bulk := BulkXfer.reset } }.wr Reg.KEEP_RESYNC 0

/-- The bank that the first side of a start boots from (R747): the one the start names, or the other where that one fails; RUN_SVN
follows it. -/
def State.runBank (s : State) (other : Bool) : State :=
  let n := s.fld Reg.HOST_FW_STAT Fld.HOST_FW_STAT_RUN_BANK
  let s1 := if other then
      (s.setF Reg.HOST_FW_STAT Fld.HOST_FW_STAT_RUN_BANK (1 - n)).setF Reg.HOST_FW_STAT Fld.HOST_FW_STAT_TRIAL 0 else s
  let m := if other then 1 - n else n
  if SMap.get (fun _ => 0) s1.host.fwWritten m = 0 then s1
  else s1.setF Reg.HOST_FW_SVN Fld.HOST_FW_SVN_RUN_SVN ((s1.byte (bankKey s1.serving m 0xC)).toNat % 64)

/-- The boot goes on after the self-test and the firmware's checks: a pending wipe comes first (R691, R747). -/
def State.bootFirmware (s : State) (x : Side) (other : Bool) : State :=
  let first := !(s.hasActive || [Side.a, Side.b].any fun y => (s.side y).booted)
  let s1 := if first then s.runBank other else s
  (s1.setSide x { s1.side x with booted := true }).pendingWipe x

/-- A side's boot ends (R159, R747, R788). -/
def State.bootEnds (s : State) (x : Side) (e : Option BootEnd) : State :=
  match e with
  | none => s
  | some r =>
    if (s.side x).state ≠ .boot ∨ !s.guardActs then s
    else if !r.selfTest then s.failSide x Ev.SIDE_FAILED
    else
      match r.bank with
      | none => s.bootRecovery
      | some b =>
        let s1 := s.bootFirmware x b
        if s1.img.running.isNone then s1
        else if !s1.bootPasses r then s1.failSide x Ev.SIDE_FAILED
        else if s1.hasActive then s1.bootBulk x
        else s1.bootActive x

/-- SIDE_BOOT_DONE (R159): the boots that end in this base cycle; Side A is chosen when both qualify. -/
def execSideBootDone (dt : Nat) (a b : Option BootEnd) (s : State) : Out :=
  .next (((s.tick dt).bootEnds .a a).bootEnds .b b)

/-- BULK_CONVERGED (R159, R187): the transfer has converged within 250 ms and the side enters SHADOW with the active side's state: SRAM and
DRAM control areas, tiles, carriers, bus engines. -/
def execBulkConverged (dt : Nat) (side : Side) (s : State) : Out :=
  let s1 := s.tick dt
  let r := s1.side side
  if r.state = .bulk ∧ s1.guardActs ∧ s1.bulkDone ∧ s1.since r.since < Config.msec 250 then
    let s2 := ((((((s1.setSide side { r with state := .shadow, since := s1.tm.mono, clean := 0, misses := 0 }).canJoin side).tilesCopy
      side.other side).edgeCopy side.other side).exchangeCopy side.other side).memCopy side.other side s1.ctrlMb)
    .next (s2.wr Reg.KEEP_RESYNC (BitVec.ofNat 32 (100 * 0x1000000 + 256 * 0x1000
      + min (s1.since r.since / Config.msec 1) 4095)))
  else .next s1

/-- BULK_TIMEOUT (R159): 250 ms without convergence send the side to FAILED. -/
def execBulkTimeout (dt : Nat) (side : Side) (s : State) : Out :=
  let s1 := s.tick dt
  let r := s1.side side
  if r.state = .bulk ∧ s1.guardActs ∧ Config.msec 250 ≤ s1.since r.since then .next (s1.failSide side Ev.RESYNC_FAIL) else .next s1

/-- SHADOW_COMPLETE (R159): 256 clean cycles bring the side to STANDBY. -/
def execShadowComplete (dt : Nat) (side : Side) (s : State) : Out :=
  let s1 := s.tick dt
  let r := s1.side side
  if r.state = .shadow ∧ s1.guardActs ∧ 256 ≤ r.clean then
    .next ((s1.setSide side { r with state := .standby, since := s1.tm.mono, misses := 0 }).post Ev.RESYNC_DONE side.code)
  else .next s1

/-- A re-admission (R190): the side is held in reset for 1 ms, in OFF. -/
def State.readmit (s : State) (x : Side) (auto : Bool) : State :=
  let r := s.side x
  let log := s.lastDay r.readmits
  (s.sideReset x 4).setSide x { r with
    state := .off, since := s.tm.mono, noReadmit := false, keepRx := false, digestEq := false, flags := 0, misses := 0, clean := 0,
    readmits := if auto then log ++ [s.tm.mono] else log }

/-- SIDE_READMIT (R190): automatic, unless the side had READMIT_MAX of them in the last 24 h, was taken out, or was left
FAILED under R183. -/
def execSideReadmit (dt : Nat) (side : Side) (s : State) : Out :=
  let s1 := s.tick dt
  let r := s1.side side
  if r.state = .failed ∧ s1.guardActs ∧ r.noReadmit = false
      ∧ (s1.lastDay r.readmits).length < s1.fld Reg.KEEP_CFG Fld.KEEP_CFG_READMIT_MAX then
    .next (s1.readmit side true).routeMap
  else .next s1

/-- SIDE_RESET_RELEASE (R159, R190): after 1 ms in reset the side leaves OFF for BOOT. -/
def execSideResetRelease (dt : Nat) (side : Side) (s : State) : Out :=
  let s1 := s.tick dt
  let r := s1.side side
  if r.state = .off ∧ s1.guardActs ∧ Config.msec 1 ≤ s1.since r.since then .next (s1.enterSide side .boot).routeMap else .next s1

/-! ### Switchover and commands (R191 to R195) -/

/-- The conditions of R191. -/
def State.maySwitch (s : State) : Bool :=
  s.hasActive && s.hasStandby && !s.latchSet && !s.keep.guardFault
  && [0, 1, 2, 3].all fun n => (s.context n).state != .validating && (s.context n).state != .pend

/-- SWITCH (R191). -/
def State.requestSwitch (s : State) : State :=
  if s.maySwitch then { s with keep := { s.keep with switchReq := some (s.keep.switchReq.getD s.tm.mono) } }
  else s.post Ev.SWITCH_REFUSED

/-- TAKE_OUT (R159): the side that is not active goes to FAILED without re-admission. -/
def State.takeOut (s : State) (acc : Access) : State :=
  if !s.hasActive then s.paramReject acc Reg.KEEP_CTRL
  else
    let y : Side := if s.isActive .a then .b else .a
    let st := (s.side y).state
    if st = .standby ∨ st = .shadow ∨ st = .bulk then
      let s1 := (s.sideReset y 5).failSide y Ev.TAKEN_OUT
      s1.setSide y { s1.side y with noReadmit := true }
    else s

/-- RESYNC_A, RESYNC_B (R190): a FAILED side is re-admitted whatever the count. -/
def State.resync (s : State) (x : Side) : State :=
  if (s.side x).state = .failed then (s.readmit x false).routeMap else s

/-- A write to KEEP_CTRL: each bit set acts. -/
def State.keepCtrlWrite (s : State) (acc : Access) (val : Word) : State :=
  s.command acc Reg.KEEP_CTRL .svc fun s1 =>
    let ok := !s1.keep.guardFault
    let s2 := if fget Fld.KEEP_CTRL_RESYNC_A val = 1 ∧ ok then s1.resync .a else s1
    let s3 := if fget Fld.KEEP_CTRL_RESYNC_B val = 1 ∧ ok then s2.resync .b else s2
    let s4 := if fget Fld.KEEP_CTRL_TAKE_OUT val = 1 ∧ ok then s3.takeOut acc else s3
    if fget Fld.KEEP_CTRL_SWITCH val = 1 then s4.requestSwitch else s4

/-- SWITCH (R191): a write to KEEP_CTRL that sets SWITCH. -/
def execKeepSwitch (dt : Nat) (acc : Access) (val : Word) (s : State) : Out := .next ((s.tick dt).keepCtrlWrite acc val)

/-- TAKE_OUT (R159): a write to KEEP_CTRL that sets TAKE_OUT. -/
def execKeepTakeOut (dt : Nat) (acc : Access) (val : Word) (s : State) : Out := .next ((s.tick dt).keepCtrlWrite acc val)

/-- RESYNC_A (R190): a write to KEEP_CTRL that sets RESYNC_A. -/
def execKeepResyncA (dt : Nat) (acc : Access) (val : Word) (s : State) : Out := .next ((s.tick dt).keepCtrlWrite acc val)

/-- RESYNC_B (R190): a write to KEEP_CTRL that sets RESYNC_B. -/
def execKeepResyncB (dt : Nat) (acc : Access) (val : Word) (s : State) : Out := .next ((s.tick dt).keepCtrlWrite acc val)

/-- Every placement (R184). -/
def placements : List Nat := List.range 320

/-- The planned switchover (R192). Every placement's epoch has then changed at this boundary (R184). -/
def State.switchOver (s : State) : State :=
  let x : Side := if s.isActive .a then .a else .b
  let s1 := ((s.mergeMove x x.other).setSide x { s.side x with state := .shadow, since := s.tm.mono, clean := 0, misses := 0 }).enterSide
    x.other .active
  let s2 := { s1 with keep := { s1.keep with switchReq := none } }
  let s3 := (s2.setF Reg.KEEP_STAT Fld.KEEP_STAT_ACTIVE x.other.code).recordLoss x 9
  let kept := s3.keep.epochs.map fun e => if s3.keep.epochDone.contains e.1 then (e.1, (e.2 + 65535) % 65536) else e
  let s3 := s3.raiseEpochs kept s3.keep.epochBase 1
  let s4 := { s3 with keep := { s3.keep with epochDone := placements } }.switchHooks x
  let s5 := ((s4.bump Reg.KEEP_COUNT Fld.KEEP_COUNT_SWITCHOVERS).setF Reg.KEEP_RESYNC Fld.KEEP_RESYNC_SHADOW_LEFT 256)
  s5.postArg Ev.SWITCHOVER (s5.rd Reg.KEEP_LAST_FO)

/-- SWITCHOVER (R192): at the first boundary at least 2 µs after the request; the request lapses where a condition of R191
no longer holds. -/
def execSwitchover (dt : Nat) (s : State) : Out :=
  let s1 := s.tick dt
  match s1.keep.switchReq with
  | none => .next s1
  | some t =>
    if s1.atCycleStart ∧ Config.usec 2 ≤ s1.since t then
      if s1.maySwitch then .next s1.switchOver
      else .next s1.dropSwitch
    else .next s1

/-- A write to KEEP_CLR (R195): what is counted in this FCLK period is counted after the clear. -/
def State.keepClrWrite (s : State) (acc : Access) (val : Word) : State :=
  s.command acc Reg.KEEP_CLR .op fun s1 =>
    if val.getLsbD 0 then
      let s2 := ((s1.clearCount Reg.KEEP_MISS).clearCount Reg.KEEP_FENCE_DISC).setF Reg.KEEP_COPY Fld.KEEP_COPY_MAX 0
      { s2 with ev := { s2.ev with seen := s2.ev.seen.filter fun e => e.1 / 0x1000 != Ev.FENCE_DISCARD } }
    else s1

/-- KEEP_CLR (R195). -/
def execKeepClr (dt : Nat) (acc : Access) (val : Word) (s : State) : Out := .next ((s.tick dt).keepClrWrite acc val)

end Sys2Proof.Machine
end

