-- ==== Sys2Proof/Machine/Mem.lean ====
section
/-! DEFINITION. The memories: errors, wipes, life-cycle transitions (chapter 20). -/

namespace Sys2Proof.Machine

open Sys2Proof

/-! ### Errors (R679, R687) -/

/-- Corrected errors of a side's memory k counted (R687). -/
def State.memCorr (s : State) (x : Side) (k n : Nat) : State :=
  if n = 0 then s else s.bump (sideReg x (Reg.MEM_ECC (k % 3))) Fld.MEM_ECC_CORR n

/-- An uncorrectable error in a side's memory (R687): counted, its side address kept, HEALTH.MEM_ECC set, and the side's fault line acts
(R162, R164). -/
def State.memUncorr (s : State) (x : Side) (k : Nat) (addr : Word) : State :=
  let s1 := (s.bump (sideReg x (Reg.MEM_ECC (k % 3))) Fld.MEM_ECC_UNCORR).wr (sideReg x Reg.MEM_ECC_ADDR) addr
  s1.faultFlag x 0

/-- Both copies of a Guard die record are lost (R687): the defaults of R122 for that record, and SAFE_HOLD. The spec names no default
of the epoch ceiling: a free value. -/
def State.guardLost (s : State) (record : Nat) : State :=
  let s1 :=
    if record = 0 then
      { s with img := { s.img with guardPars := [], padCfg := [], everAccepted := false }, regs := s.regs.filter fun e => !lswSection e.1 }
    else if record = 1 then
      let (v, t) := s.freshInt
      ({ t with keep := { t.keep with epochRecord := v.natAbs % 65536 }, mem := { t.mem with wipePend := [] } }).wr Reg.MEM_WIPE_CFG 0
    else { s with mem := { s.mem with faults := [] } }
  (s1.post Ev.MEM_GUARD_LOST 0xFFF record).safeHold

/-- PATROL_SCRUB (R679): some single-bit errors of the side's DRAM are corrected and written back. -/
def execPatrolScrub (dt : Nat) (side : Side) (corrected : Nat) (s : State) : Out :=
  let s1 := s.tick dt
  .next (if s1.runningSides.contains side then s1.memCorr side 1 corrected else s1)

/-- MEM_ECC_ERROR (R687, R556). -/
def execMemEccError (dt : Nat) (place : MemPlace) (corrected : Bool) (s : State) : Out :=
  let s1 := s.tick dt
  match place with
  | .side x k addr => .next (if corrected then s1.memCorr x k 1 else s1.memUncorr x k addr)
  | .guard record both =>
    if corrected then .next ((s1.memCorr .a 2 1).memCorr .b 2 1)
    else if both then .next (s1.guardLost (record % 3))
    else .next (s1.post Ev.MEM_GUARD_REPAIR 0xFFF (record % 3))
  | .die a b => .next (if corrected then s1 else s1.dieCopies a b)

/-! ### Wipe commands (R689, R692) -/

/-- A write to MEM_CTRL (R689): WIPE starts a wipe with cause command. -/
def State.memCtrlWrite (s : State) (acc : Access) (val : Word) : State :=
  s.command acc Reg.MEM_CTRL .svc fun s1 => if fget Fld.MEM_CTRL_WIPE val = 1 then s1.wipe 6 else s1

/-- MEM_WIPE_CMD (R689). -/
def execMemWipeCmd (dt : Nat) (acc : Access) (val : Word) (s : State) : Out := .next ((s.tick dt).memCtrlWrite acc val)

/-- A write to MEM_WIPE_CFG (R692): free in BLANK and PROVISIONED; from FIELD on it only sets bits. -/
def State.wipeCfgWrite (s : State) (acc : Access) (val : Word) : State :=
  s.setting acc Reg.MEM_WIPE_CFG val fun s1 => s1.wr Reg.MEM_WIPE_CFG (val &&& fmask Fld.MEM_WIPE_CFG_TAMP_WIPE)

/-- WIPE_CFG_WRITE (R692). -/
def execWipeCfgWrite (dt : Nat) (acc : Access) (val : Word) (s : State) : Out := .next ((s.tick dt).wipeCfgWrite acc val)

/-! ### Life-cycle transitions (R693, R694) -/

/-- The life-cycle state (R693). -/
def State.lifeCycle (s : State) : Nat := s.fld Reg.MEM_STAT Fld.MEM_STAT_LC

/-- The table of R693 allows the transition through MEM_LC_CTRL, and its conditions hold. -/
def State.lcAllowed (s : State) (target : Nat) : Bool :=
  let lc := s.lifeCycle
  let keyed := s.fld Reg.IMG_KEY_STAT Fld.IMG_KEY_STAT_LOADED &&& (15 - s.fld Reg.IMG_KEY_STAT Fld.IMG_KEY_STAT_REVOKE)
  s.atRest
  && (if target = 2 then lc == 1 && keyed != 0 && s.mode == 2
      else if target = 3 then lc == 2
      else target == 4 && decide (lc < 4))

/-- A transition is accepted (R694). -/
def State.lcAccept (s : State) (target : Nat) : State :=
  { s with mem := { s.mem with armed := none, lcTo := some target } }.post Ev.MEM_LC_CHANGE 0xFFF target

/-- A transition is refused (R694). -/
def State.lcRefuse (s : State) (target : Nat) : State := s.post Ev.MEM_LC_REFUSED 0xFFF target

/-- The ARM that a COMMIT needs (R694): the same target, at most 1 s ago. -/
def State.armMatches (s : State) (target : Nat) : Bool :=
  match s.mem.armed with
  | some (t, at') => t == target && decide (s.since at' ≤ Config.sec 1)
  | none => false

/-- A write to MEM_LC_CTRL (R694): ARM names a target; COMMIT transits where it may; any other KEY is refused. -/
def State.lcCtrlWrite (s : State) (acc : Access) (val : Word) : State :=
  s.command acc Reg.MEM_LC_CTRL .svc fun s1 =>
    let key := fget Fld.MEM_LC_CTRL_KEY val
    let step := fget Fld.MEM_LC_CTRL_STEP val
    let target := fget Fld.MEM_LC_CTRL_TARGET val
    if key = 0x4C43 ∧ step = 0 then { s1 with mem := { s1.mem with armed := some (target, s1.tm.mono) } }
    else if key = 0x4F4B ∧ step = 1 ∧ s1.armMatches target ∧ s1.lcAllowed target ∧ s1.mem.lcTo = none then s1.lcAccept target
    else s1.lcRefuse target

/-- LC_ARM (R694): a write to MEM_LC_CTRL that arms. -/
def execLcArm (dt : Nat) (acc : Access) (val : Word) (s : State) : Out := .next ((s.tick dt).showRest.lcCtrlWrite acc val)

/-- LC_COMMIT (R694): a write to MEM_LC_CTRL that commits. -/
def execLcCommit (dt : Nat) (acc : Access) (val : Word) (s : State) : Out := .next ((s.tick dt).showRest.lcCtrlWrite acc val)

/-- Registers of the sides' and the Guard die's MRAM that a transition to BLANK or SCRAPPED erases (R693). -/
def erasedReg (addr : Nat) : Bool :=
  keptReg addr && !(addr / 0x10000 == 0xD || addr / 0x10000 == 0xE || addr == Reg.MEM_STAT || addr == Reg.LSW_FOGIN || addr == Reg.SYS_ID
    || addr == Reg.SYS_SERIAL_LO || addr == Reg.SYS_SERIAL_HI || addr == Reg.HOST_FW_SVN)

/-- The MRAM of the sides and of the Guard die is erased, except the life-cycle record (R693). -/
def State.eraseMram (s : State) : State :=
  let s1 := { s with
    regs := s.regs.filter fun e => !erasedReg e.1
    bytes := s.bytes.filter fun e => !keptByte e.1
    ev := { s.ev with log := [] }
    img := { s.img with written := [], tuning := [], tuneDue := [], keyHash := [], guardPars := [], padCfg := [], everAccepted := false }
    keep := { s.keep with epochRecord := 0 }
    host := { s.host with objects := [], fwWritten := [] }
    safe := { s.safe with commissioned := none }
    mem := { s.mem with wipePend := [], faults := [] }
    sup := { s.sup with tch := 0 } }
  (s1.setF Reg.IMG_SLOT_CTRL Fld.IMG_SLOT_CTRL_BOOT 0).setF Reg.HOST_CFG Fld.HOST_CFG_ROLE 0

/-- The effects of a life-cycle transition (R689, R690, R693). -/
def State.lcEffects (s : State) (target : Nat) : State :=
  let from' := s.lifeCycle
  let s1 := if target = 3 ∨ target = 0 ∨ target = 4 then s.wipe 5 else s
  let s2 := if target = 0 ∨ target = 4 then s1.eraseMram else s1
  let s3 := if from' = 3 ∧ target = 0 then { s2 with mem := { s2.mem with returns := s2.mem.returns + 1 } } else s2
  let s4 := if target = 1 then s3.dieProvision else s3
  (s4.setF Reg.MEM_STAT Fld.MEM_STAT_LC target).setF Reg.MEM_STAT Fld.MEM_STAT_DEBUG_OPEN (flag (decide (target < 2)))

/-- LC_TRANSITION_DONE (R694): the accepted transition completes and the module resets with kind LIFECYCLE. -/
def execLcTransitionDone (dt : Nat) (s : State) : Out :=
  let s1 := s.tick dt
  match s1.mem.lcTo with
  | some t => .next ((s1.lcEffects t).moduleReset 6)
  | none => .next s1

/-- The access reaches the provisioning objects (R743): the host link, or a connection on ETHS whose certificate chains to the
provisioning anchor. -/
def State.provisionPath (s : State) (acc : Access) : Bool :=
  match acc.path with
  | .host => true
  | .mgmt => (match s.mgmtConn acc.session with | some c => c.prov | none => false)
  | .service => false

/-- The provisioning command (R693): BLANK moves to PROVISIONED. -/
def State.provisionCmd (s : State) (acc : Access) : State :=
  if s.lifeCycle = 0 ∧ s.provisionPath acc ∧ s.mem.lcTo = none then s.lcAccept 1 else s.lcRefuse 1

/-- PROVISIONING (R693). -/
def execProvisioning (dt : Nat) (acc : Access) (s : State) : Out :=
  let s1 := s.tick dt
  .next (if s1.answers acc.path 0 then s1.provisionCmd acc else s1)

/-- A write to MEM_CLR (R695): MEM_ECC_k and MEM_COLL clear on both sides. -/
def State.memClrWrite (s : State) (acc : Access) (val : Word) : State :=
  s.command acc Reg.MEM_CLR .op fun s1 =>
    if fget Fld.MEM_CLR_CLEAR val = 1 then
      [Side.a, Side.b].foldl (fun st x =>
        [Reg.MEM_ECC 0, Reg.MEM_ECC 1, Reg.MEM_ECC 2, Reg.MEM_COLL].foldl (fun u r => u.clearCount (sideReg x r)) st) s1
    else s1

/-- MEM_CLR (R695). -/
def execMemClr (dt : Nat) (acc : Access) (val : Word) (s : State) : Out := .next ((s.tick dt).memClrWrite acc val)

end Sys2Proof.Machine
end

