-- ==== Sys2Proof/Machine/HostReg.lean ====
section
/-! DEFINITION. The host link's configuration register and the firmware update (R728 to R730, R744 to R747). -/

namespace Sys2Proof.Machine

open Sys2Proof

/-- A write to HOST_CFG: HOST_EN cleared from the host link itself is denied; cleared from elsewhere it closes the host-link session
(R730). -/
def State.hostCfgWrite (s : State) (acc : Access) (val : Word) : State :=
  if acc.path = .host ∧ s.answers .host Reg.HOST_CFG ∧ fget Fld.HOST_CFG_HOST_EN val = 0 then s.deny acc Reg.HOST_CFG
  else
    let s1 := s.busWrite acc Reg.HOST_CFG val
    if s.fld Reg.HOST_CFG Fld.HOST_CFG_HOST_EN = 1 ∧ s1.fld Reg.HOST_CFG Fld.HOST_CFG_HOST_EN = 0 then s1.closeHost.irqShow else s1.irqShow

/-- A write to HOST_CLR: HOST_CNT and AUTH_FAILS clear. -/
def State.hostClrWrite (s : State) (acc : Access) (val : Word) : State :=
  s.command acc Reg.HOST_CLR .op fun s1 =>
    if fget Fld.HOST_CLR_CLEAR val = 1 then
      (s1.clearCount Reg.HOST_CNT).clearField Reg.HOST_MGMT Fld.HOST_MGMT_AUTH_FAILS
    else s1

/-- T_START (R724): at least 3.0 s, and 2.72 s after the charging time last measured. -/
def State.tStart (s : State) : Nat := max (Config.sec 3) (Config.msec 2720 + s.sup.tch)

/-! ### Firmware (R744 to R747) -/

/-- The bank that does not run. -/
def State.otherBank (s : State) : Nat := 1 - s.fld Reg.HOST_FW_STAT Fld.HOST_FW_STAT_RUN_BANK

/-- A bank's STATE: 0 EMPTY, 1 WRITING, 2 INVALID, 3 VALID. -/
def State.bankState (s : State) (n : Nat) : Nat := s.fld Reg.HOST_FW_STAT (bankField n)

/-- The checks of CLOSE in their order (R745): 0 where all pass, else the code of the first failure. -/
def State.fwCheck (s : State) (n : Nat) : Nat :=
  let g := fun i => s.byte (bankKey ((s.fwSides.head?).getD s.serving) n i)
  let len := imgNum g 0x10 4
  let sb := len - 160
  let key := imgNum g (sb + 5) 1
  let wrote := SMap.get (fun _ => 0) s.host.fwWritten n
  if wrote = 0 then 0x0E
  else if !(imgBytes g 0 4 == [0x4C, 0x4E, 0x46, 0x57] && imgNum g 4 2 == 1 && imgNum g 6 2 == 0 && imgNum g 0xE 2 == 0
      && imgNum g 0x14 12 == 0 && (imgBytes g 0x50 0xB0).all (· == 0)) then 0x01
  else if len % 64 ≠ 0 ∨ 0x500000 < len ∨ len < 0x1A0 ∨ len ≠ wrote then 0x02
  else if !(imgBytes g sb 4 == [0x4C, 0x4E, 0x53, 0x47] && imgNum g (sb + 4) 1 == 1 && decide (key < 2) && imgNum g (sb + 6) 2 == 0
      && (imgBytes g (sb + 0x98) 8).all (· == 0) && imgBytes g (sb + 8) 48 == Config.vendorKey key) then 0x03
  else if !Config.ecdsaOk (imgBytes g (sb + 8) 48) (Config.sha384 (imgBytes g 0 sb)) (imgBytes g (sb + 0x38) 96) then 0x04
  else if imgBytes g 0x20 48 != Config.sha384 (imgBytes g 0x100 (sb - 0x100)) then 0x05
  else if imgNum g 0x0C 1 < s.fld Reg.HOST_FW_SVN Fld.HOST_FW_SVN_SVN_MIN then 0x06
  else if fget Fld.SYS_CAP_0_STEPPING (BitVec.ofNat 32 (cap0 s.variant)) < imgNum g 0x0D 1 then 0x07
  else 0

/-- The bank after its checks (R745). -/
def State.fwChecked (s : State) (n : Nat) : State :=
  let code := s.fwCheck n
  let ver := imgNum (fun i => s.byte (bankKey ((s.fwSides.head?).getD s.serving) n i)) 8 4
  let s1 := { s with host := { s.host with fwXfer := none, fwWait := false } }
  ((s1.setF Reg.HOST_FW_STAT (bankField n) (if code = 0 then 3 else 2)).setF Reg.HOST_FW_STAT Fld.HOST_FW_STAT_ERR code).wr
    (Reg.HOST_FW_VER n) (if code = 0 then BitVec.ofNat 32 ver else 0)

/-- OPEN (R745): refused unless the side that is not active is STANDBY; a module without a good bank takes it as well (R747). -/
def State.fwOpen (s : State) (acc : Access) (addr : Nat) : State :=
  if !s.hasStandby && s.fld Reg.HOST_FW_STAT Fld.HOST_FW_STAT_RECOVERY == 0 then s.postArg Ev.DENIED (accArg acc addr)
  else
    let n := s.otherBank
    let s1 := s.emptyBank n 1
    { s1 with host := { s1.host with fwXfer := some n } }

/-- CLOSE (R745): the transfer closes and the package is checked; while a side defers, the checks wait (R715). -/
def State.fwClose (s : State) : State :=
  match s.host.fwXfer with
  | none => s
  | some n => if s.deferring then { s with host := { s.host with fwWait := true } } else s.fwChecked n

/-- ACTIVATE (R746): the module resets with kind FIRMWARE into the target bank, on trial. -/
def State.fwActivate (s : State) : State :=
  let n := s.otherBank
  if s.atRest ∧ s.contextsIdle ∧ s.bankState n = 3 ∧ s.deferring = false then
    let s1 := s.moduleReset 7
    let s2 := (s1.setF Reg.HOST_FW_STAT Fld.HOST_FW_STAT_RUN_BANK n).setF Reg.HOST_FW_STAT Fld.HOST_FW_STAT_TRIAL 1
    { s2 with host := { s2.host with fwTrialStart := s2.tm.life } }
  else s.post Ev.FW_ACT_REFUSED

/-- CONFIRM (R746): the trial bank becomes the boot bank; a higher SVN raises SVN_MIN. -/
def State.fwConfirm (s : State) : State :=
  if s.fld Reg.HOST_FW_STAT Fld.HOST_FW_STAT_TRIAL = 1 then
    let s1 := ((s.setF Reg.HOST_FW_STAT Fld.HOST_FW_STAT_BOOT_BANK (s.fld Reg.HOST_FW_STAT Fld.HOST_FW_STAT_RUN_BANK)).setF
      Reg.HOST_FW_STAT Fld.HOST_FW_STAT_TRIAL 0).setF Reg.HOST_FW_STAT Fld.HOST_FW_STAT_REVERT_DUE 0
    s1.setF Reg.HOST_FW_SVN Fld.HOST_FW_SVN_SVN_MIN
      (max (s.fld Reg.HOST_FW_SVN Fld.HOST_FW_SVN_SVN_MIN) (s.fld Reg.HOST_FW_SVN Fld.HOST_FW_SVN_RUN_SVN))
  else s

/-- A write to HOST_FW_CTRL: the command it names; an unknown one posts PARAM_REJECT; a transfer command while a CLOSE waits is
denied (R114, R745). -/
def State.fwCtrlWrite (s : State) (acc : Access) (val : Word) : State :=
  s.command acc Reg.HOST_FW_CTRL .svc fun s1 =>
    let cmd := fget Fld.HOST_FW_CTRL_CMD val
    if cmd = 0 ∨ 5 < cmd then s1.paramReject acc Reg.HOST_FW_CTRL
    else if cmd = 4 then s1.fwActivate
    else if cmd = 5 then s1.fwConfirm
    else if s1.host.fwWait then s1.postArg Ev.DENIED (accArg acc Reg.HOST_FW_CTRL)
    else if cmd = 1 then s1.fwOpen acc Reg.HOST_FW_CTRL
    else if cmd = 2 then s1.fwClose
    else s1.fwCancel

/-- A word of the open package at an offset, on every side the transfer reaches. -/
def State.fwPut (s : State) (n ofs : Nat) (val : Word) : State :=
  let s1 := s.fwSides.foldl (fun t x => t.setWordAt (bankKey x n ofs) val) s
  let len := max (SMap.get (fun _ => 0) s1.host.fwWritten n) (ofs + 4)
  { s1 with host := { s1.host with fwWritten := SMap.put (fun _ => 0) s1.host.fwWritten n len } }

/-- A write to the firmware window (R745): denied while no transfer is open; a part above 159 lies past the bank. -/
def State.fwDataWrite (s : State) (acc : Access) (addr : Nat) (val : Word) : State :=
  s.command acc addr .svc fun s1 =>
    match (if s1.host.fwWait then none else s1.host.fwXfer) with
    | none => s1.postArg Ev.DENIED (accArg acc addr)
    | some n =>
      let part := s1.fld Reg.HOST_FW_OFS Fld.HOST_FW_OFS_PART
      if 159 < part then s1 else s1.fwPut n (0x8000 * part + addr % 0x8000 / 4 * 4) val

/-- FW_OPEN (R745): CMD 0x1. -/
def execFwOpen (dt : Nat) (acc : Access) (s : State) : Out := .next ((s.tick dt).fwCtrlWrite acc 1)

/-- FW_DATA_WRITE (R745): a word of the window, by its offset in the window. -/
def execFwDataWrite (dt : Nat) (acc : Access) (addr : Nat) (val : Word) (s : State) : Out :=
  .next ((s.tick dt).fwDataWrite acc (0x148000 + addr % 0x8000 / 4 * 4) val)

/-- FW_CLOSE (R745): CMD 0x2. -/
def execFwClose (dt : Nat) (acc : Access) (s : State) : Out := .next ((s.tick dt).fwCtrlWrite acc 2)

/-- FW_CANCEL (R745): CMD 0x3. -/
def execFwCancel (dt : Nat) (acc : Access) (s : State) : Out := .next ((s.tick dt).fwCtrlWrite acc 3)

/-- FW_ACTIVATE (R746): CMD 0x4. -/
def execFwActivate (dt : Nat) (acc : Access) (s : State) : Out := .next ((s.tick dt).showRest.fwCtrlWrite acc 4)

/-- FW_CONFIRM (R746): CMD 0x5. -/
def execFwConfirm (dt : Nat) (acc : Access) (s : State) : Out := .next ((s.tick dt).fwCtrlWrite acc 5)

/-- FW_WINDOW_EXPIRY (R746): RUN_READY still 0 T_START after the start, or FW_WINDOW without CONFIRM, sets REVERT_DUE. -/
def execFwWindowExpiry (dt : Nat) (s : State) : Out :=
  let s1 := s.tick dt
  let late := s1.fld Reg.PWR_STAT Fld.PWR_STAT_RUN_READY = 0 ∧ s1.tStart ≤ s1.sinceLife s1.sup.ladderAt
  let ended := Config.sec (60 * s1.fld Reg.HOST_CFG Fld.HOST_CFG_FW_WINDOW) ≤ s1.sinceLife s1.host.fwTrialStart
  if s1.fld Reg.HOST_FW_STAT Fld.HOST_FW_STAT_TRIAL = 1 ∧ s1.running ∧ (late ∨ ended) then
    .next (s1.setF Reg.HOST_FW_STAT Fld.HOST_FW_STAT_REVERT_DUE 1)
  else .next s1

/-- FW_REVERT (R746): at rest, a due revert resets the module into the previous bank; not after GUARD_FAULT (R720). -/
def execFwRevert (dt : Nat) (s : State) : Out :=
  let s1 := (s.tick dt).showRest
  if s1.fld Reg.HOST_FW_STAT Fld.HOST_FW_STAT_REVERT_DUE = 1 ∧ s1.running ∧ s1.keep.guardFault = false ∧ s1.atRest then
    .next (s1.moduleReset 7)
  else .next s1

end Sys2Proof.Machine
end

