-- ==== Sys2Proof/Machine/Pwr.lean ====
section
/-! DEFINITION. The supply, the start, the resets, the power states and the wakes (R697 to R726, R781). -/

namespace Sys2Proof.Machine

open Sys2Proof

/-! ### The supply and the start (R698 to R701, R716, R721, R724, R781) -/

/-- The logic is out of reset: from the release of the Guard die on. -/
def State.awake (s : State) : Bool := s.sup.phase == 3 || s.sup.phase == 4

/-- AUX_INPUT_APPLIED (R698): the auxiliary input is there; from 0 V the ladder begins. -/
def execAuxInputApplied (dt : Nat) (dc : Bool) (s : State) : Out :=
  let s1 := s.tick dt
  if s1.sup.aux then .next s1
  else
    let s2 := { s1 with sup := { s1.sup with aux := true
                                             ladderAt := if s1.sup.phase = 0 then s1.tm.life else s1.sup.ladderAt } }
    .next (s2.setF Reg.PWR_STAT Fld.PWR_STAT_INPUT_DC (flag dc))

/-- ALWAYS_ON_POWER_UP (R701): the always-on domain starts; its RTC counts from 0. -/
def execAlwaysOnPowerUp (dt : Nat) (s : State) : Out :=
  let s1 := s.tick dt
  if s1.sup.onDomain then .next s1
  else .next { s1 with
    sup := { s1.sup with onDomain := true }
    tm := { s1.tm with rtc := 0, rtcTrimAt := s1.tm.life, rtcKept := false } }

/-- ALWAYS_ON_POWER_LOSS (R701): below 8 V the always-on domain has no power. -/
def execAlwaysOnPowerLoss (dt : Nat) (s : State) : Out :=
  let s1 := s.tick dt
  if s1.sup.phase = 0 ∨ s1.sup.phase = 1 then
    .next { s1 with sup := { s1.sup with onDomain := false, lost := true }, tm := { s1.tm with rtcKept := false } }
  else .next s1

/-- HOLDUP_CHARGE_CHECK (R781): the bus took tch counts from 0 V to V_START; within 25 ms it is discharged, and the next try is 1 s later. -/
def execHoldupChargeCheck (dt tch : Nat) (s : State) : Out :=
  let s1 := s.tick dt
  let again := decide (s1.sup.phase = 1) && decide (Config.sec 1 ≤ s1.sinceLife s1.sup.chargeAt)
  if s1.sup.aux ∧ (s1.sup.phase = 0 ∨ again) then
    if tch ≤ Config.msec 25 then .next { s1 with sup := { s1.sup with phase := 1, chargeAt := s1.tm.life } }
    else .next { s1 with sup := { s1.sup with phase := 0, tch := tch } }
  else .next s1

/-- POWER_START (R716): the bus reaches V_START; POWER_ON where the always-on domain had no power, else BROWN_OUT. -/
def execPowerStart (dt : Nat) (s : State) : Out :=
  let s1 := s.tick dt
  if s1.sup.phase = 0 ∧ s1.sup.aux ∧ s1.sup.onDomain then .next (s1.moduleReset (if s1.sup.lost then 1 else 2)) else .next s1

/-- INPUT_LOSS (R699): the module runs on from the hold-up bus. -/
def execInputLoss (dt : Nat) (s : State) : Out :=
  let s1 := s.tick dt
  if s1.sup.aux = false then .next s1
  else
    let s2 := { s1 with sup := { s1.sup with aux := false } }
    if s2.awake then
      .next (((s2.setF Reg.PWR_STAT Fld.PWR_STAT_IN_LOSS 1).bump Reg.PWR_CNT Fld.PWR_CNT_IN_LOSSES).post Ev.PWR_IN_LOSS)
    else .next s2

/-- INPUT_RETURN (R699): the input is back before V_PF; after a power-down it begins the next ladder. -/
def execInputReturn (dt : Nat) (s : State) : Out :=
  let s1 := s.tick dt
  if s1.sup.aux then .next s1
  else
    let s2 := ({ s1 with sup := { s1.sup with aux := true } }).setF Reg.PWR_STAT Fld.PWR_STAT_IN_LOSS 0
    if s2.awake then .next (s2.post Ev.PWR_IN_BACK)
    else .next { s2 with sup := { s2.sup with ladderAt := if s2.sup.phase = 0 then s2.tm.life else s2.sup.ladderAt } }

/-- The sides write their persistent state and their events before they stop (R700, R707, R683). -/
def State.writeOut (s : State) : State := s.writeTuning.flushEvents

/-- HOLDUP_POWER_FAIL (R700): at V_PF the module powers down; PWR_DOWN goes to the log of each side that runs. -/
def execHoldupPowerFail (dt : Nat) (s : State) : Out :=
  let s1 := s.tick dt
  if s1.sup.phase = 2 ∨ s1.awake then
    let s2 := if s1.running then ((s1.post Ev.PWR_DOWN).writeOut).endRun else s1
    let s3 := s2.cleared
    .next ({ s3 with sup := { s3.sup with phase := 0, aux := false, lost := false } }.setF Reg.PWR_STAT Fld.PWR_STAT_IN_LOSS 0)
  else .next s1

/-- The timestamp at the start (R74): from the RTC where the always-on domain has kept it, else 0. -/
def State.loadTime (s : State) : State :=
  if s.tm.rtcKept then
    let s1 := { s with tm := { s.tm with ts := s.tm.rtc + (s.tm.life - s.tm.rtcTrimAt) } }
    (s1.setF Reg.TIME_STAT Fld.TIME_STAT_VALID 1).setF Reg.TIME_STAT Fld.TIME_STAT_SRC 1
  else { s with tm := { s.tm with ts := 0 } }

/-- The side resets are released (R721): both sides boot. -/
def State.releaseSides (s : State) : State := ((s.enterSide .a .boot).enterSide .b .boot).routeMap

/-- GUARD_STEP (R721, R723, R728): clocks locked, records read, HMODE sampled, Fog mode, both sides in BOOT. -/
def execGuardStep (dt hmode : Nat) (s : State) : Out :=
  let s1 := s.tick dt
  if s1.sup.phase = 3 ∧ s1.keep.guardFault = false then
    let s2 := { s1 with sup := { s1.sup with phase := 4 } }.loadTime
    let s3 := (s2.setF Reg.HOST_CFG Fld.HOST_CFG_MODE (hmode % 4)).setF Reg.HOST_STAT Fld.HOST_STAT_LINK_UP (flag (hmode % 4 == 2))
    .next (((s3.wr Reg.PWR_START 0xFFFF).releaseSides).fogEnter 3)
  else .next s1

/-- START_LATE (R724): RUN_READY still 0 at T_START after the start of the ladder. -/
def execStartLate (dt : Nat) (s : State) : Out :=
  let s1 := s.tick dt
  if s1.awake ∧ s1.sup.late = false ∧ s1.fld Reg.PWR_STAT Fld.PWR_STAT_RUN_READY = 0 ∧ s1.tStart ≤ s1.sinceLife s1.sup.ladderAt then
    .next ({ (s1.bump Reg.PWR_CNT Fld.PWR_CNT_LATE) with sup := { s1.sup with late := true } }.post Ev.PWR_START_LATE)
  else .next s1

/-! ### Resets (R716 to R720, R46) -/

/-- MRST_ASSERT (R716, R718): MRST_N low for the given counts, at least 10 µs; the logic is held in reset. -/
def execMrstAssert (dt held : Nat) (s : State) : Out :=
  let s1 := s.tick dt
  if s1.awake ∧ Config.usec 10 ≤ held then
    let s2 := (if s1.running then s1.endRun else s1).cleared
    .next { s2 with sup := { s2.sup with phase := 2 } }
  else .next s1

/-- MRST_RELEASE (R718): the module starts at the Guard step. -/
def execMrstRelease (dt : Nat) (s : State) : Out :=
  let s1 := s.tick dt
  .next (if s1.sup.phase = 2 then s1.moduleReset 3 else s1)

/-- A write to PWR_RESET (R719): with the key, at rest, it resets the module. -/
def State.pwrResetWrite (s : State) (acc : Access) (val : Word) : State :=
  s.command acc Reg.PWR_RESET .svc fun s1 =>
    if fget Fld.PWR_RESET_KEY val = 0x5E7A ∧ s1.atRest then s1.moduleReset 4 else s1.post Ev.PWR_CMD_REFUSED

/-- PWR_RESET (R719). -/
def execPwrReset (dt : Nat) (acc : Access) (val : Word) (s : State) : Out := .next ((s.tick dt).showRest.pwrResetWrite acc val)

/-- GUARD_FAULT latches (R46): every pad at its orphan state, the ring ports silent, every load switch off, STO pads de-energised; the Guard
fault log holds it (R53, R682). -/
def State.latchGuardFault (s : State) : State :=
  if s.keep.guardFault then s
  else
    let s1 := ((((s.pairsOrphan true).padsOff).lswAllOff).openBreakers).outlOrphan
    { s1 with
      keep := { s1.keep with guardFault := true, guardFaultAt := s1.tm.life }
      ring := { s1.ring with ports := [] }
      mem := { s1.mem with faults := s1.mem.faults ++ [{ kind := 0, cause := 0, ts := s1.tm.ts, mono := s1.tm.mono }] } }

/-- GUARD_FAULT (R46): the dual-rail checker disagrees. -/
def execGuardFault (dt : Nat) (s : State) : Out :=
  let s1 := s.tick dt
  .next (if s1.awake then s1.latchGuardFault else s1)

/-- GUARD_AUTO_RESET (R720): 10 s after GUARD_FAULT with GF_AUTO, at most once in 24 h. -/
def execGuardAutoReset (dt : Nat) (s : State) : Out :=
  let s1 := s.tick dt
  let free := match s1.sup.autoAt with
    | some t => decide (Config.sec 86400 ≤ s1.sinceLife t)
    | none => true
  if s1.keep.guardFault ∧ s1.awake ∧ s1.fld Reg.PWR_CFG Fld.PWR_CFG_GF_AUTO = 1
      ∧ Config.sec 10 ≤ s1.sinceLife s1.keep.guardFaultAt ∧ free = true then
    .next ({ s1 with sup := { s1.sup with autoAt := some s1.tm.life } }.moduleReset 10)
  else .next s1

/-! ### Power states (R703 to R707) -/

/-- T (R705): the smallest TOL of the valid PWR_LTR_k, in ms. -/
def State.tolerance (s : State) : Nat :=
  (List.range 8).foldl (fun t k =>
    if s.fld (Reg.PWR_LTR k) Fld.PWR_LTR_VALID = 1 then min t (s.fld (Reg.PWR_LTR k) Fld.PWR_LTR_TOL) else t) 65535

/-- The conditions of WATCH (R704). -/
def State.watchOk (s : State) : Bool :=
  s.mode == 2 && s.atRest
  && (!s.sstUsed || s.ladder == 0 || s.ladder == 9)
  && (s.usedOutlets.all fun n => (s.oState n == 0 || s.oState n == 1 || s.oState n == 10)
        && s.fld (Reg.COOL_O_STAT n) Fld.COOL_O_STAT_STATE == 0)
  && ((List.range (enginesOf s.variant)).all fun n => (s.engAt .a n).state == 0 && (s.engAt .b n).state == 0)
  && s.contextsIdle
  && s.slotState 0 != 1 && s.slotState 1 != 1
  && s.host.fwXfer.isNone && s.bankState 0 != 1 && s.bankState 1 != 1

/-- The further conditions of NIGHT (R704). -/
def State.nightOk (s : State) : Bool :=
  (s.usedOutlets.all fun n => s.fld (Reg.OUTL_O_STAT n) Fld.OUTL_O_STAT_SIG == 0)
  && !s.anyLatch && s.fld Reg.TIME_STAT Fld.TIME_STAT_VALID == 1 && s.mem.wipePend.isEmpty

/-- The further conditions of DARK (R704). -/
def State.darkOk (s : State) : Bool :=
  s.dieLasted s.metr.idleAt (Config.sec 60)
  && (!s.sstUsed || (s.fld Reg.SST_RUN_STAT Fld.SST_RUN_STAT_MAIN_CLOSED == 0 && s.fld Reg.SST_RUN_STAT Fld.SST_RUN_STAT_PRE_CLOSED == 0))

/-- A state's conditions hold, with those of every shallower state (R704). -/
def State.powerHolds (s : State) (p : Nat) : Bool :=
  (p == 0 || s.sup.trimOk) && (decide (p < 2) || s.watchOk) && (decide (p < 3) || s.nightOk) && (decide (p < 4) || s.darkOk)

/-- The greatest exit latency of a state in ms (R703). -/
def exitMs : Nat → Nat
  | 0 => 0
  | 1 => 1
  | 2 => 100
  | 3 => 2200
  | _ => 2400

/-- The candidate state (R705): the deepest one that holds, is allowed, and is left within T. -/
def State.candidate (s : State) : Nat :=
  let t := s.tolerance
  let allow := s.fld Reg.PWR_CFG Fld.PWR_CFG_ALLOW
  ([4, 3, 2, 1].find? fun p => s.powerHolds p && allow.testBit p && decide (exitMs p ≤ t)).getD 0

/-- The candidate at a boundary: TARGET and TOL, and since when it has been deeper than the present state (R705). -/
def State.showCandidate (s : State) (i : PowerIn) : State :=
  let trim := if i.highLoad then false else if i.lowLoad then true else s.sup.trimOk
  let s1 := { s with sup := { s.sup with trimOk := trim } }
  let c := s1.candidate
  let s2 := (s1.setF Reg.PWR_STAT Fld.PWR_STAT_TARGET c).setF Reg.PWR_STAT Fld.PWR_STAT_TOL s1.tolerance
  { s2 with sup := { s2.sup with cand := c, candAt := s2.track s2.sup.candAt (decide (s2.power < c)) } }

/-- The power state changes: PWR_STATE carries the old and the new one (R705). -/
def State.enterPower (s : State) (p : Nat) : State :=
  { (s.setF Reg.PWR_STAT Fld.PWR_STAT_STATE p) with sup := { s.sup with candAt := none } }.post Ev.PWR_STATE 0xFFF 0 (s.power * 16 + p)

/-- The return from WATCH (R706): carriers start at the next boundary, cooling observers as at entry to RUN (R447). -/
def State.leaveWatch (s : State) : State :=
  s.usedOutlets.foldl (fun st n => (st.setCol n { st.col n with inited := false }).coolInit n)
    { s with edge := { s.edge with pairs := [] } }

/-- A move up to the candidate; from WATCH it is wake 0x8 (R705, R711, R712). -/
def State.ascend (s : State) : State :=
  let old := s.power
  let s1 := s.enterPower s.sup.cand
  if old = 2 then ((s1.leaveWatch).wr Reg.PWR_WAKE_STAT 0x80000000).post Ev.PWR_WAKE 0xFFF 0 0x80 else s1

/-- POWER_STATE_ASCENT (R705, R706): at a boundary, at once; the Guard die changes no power state after GUARD_FAULT (R47). -/
def execPowerStateAscent (dt : Nat) (s : State) : Out :=
  let s1 := s.tick dt
  .next (if s1.running ∧ s1.sup.phase = 4 ∧ s1.keep.guardFault = false ∧ s1.atCycleStart ∧ s1.sup.cand < s1.power then s1.ascend else s1)

/-- Both sides go to OFF without a fail-over or orphan control (R707). -/
def State.sidesOff (s : State) : State :=
  let s1 := (s.enterSide .a .off).enterSide .b .off
  { s1 with keep := { s1.keep with linkTrained := false, switchReq := none } }

/-- A descent to NIGHT or DARK (R707 to R710): connections close, the site bus sleeps, state and events are written, the sides go to
OFF; the host link and the ring ports are off; in DARK the metrology die sleeps and the load switches are off. -/
def State.descendDeep (s : State) (p : Nat) : State :=
  let s1 := (s.closeConns).closeHost
  let s2 := (List.range (cansOf s.variant)).foldl (fun st k => if st.canMode k = 0 then st else st.canSleepNow k) s1
  let s3 := ((s2.enterPower p).writeOut).endRun
  let s4 := ((s3.padsOff).sidesOff).setF Reg.HOST_STAT Fld.HOST_STAT_LINK_UP 0
  let s5 := { s4 with host := { s4.host with lines := 0 }, ring := { s4.ring with ports := [] } }
  if p = 4 then { s5 with metr := { s5.metr with sleep := true } }.lswAllOff else s5

/-- POWER_STATE_DESCENT (R705 to R707): the candidate has been deeper for DWELL; in WATCH the ring carries no SCHED (R710); none after GUARD_FAULT
(R47). -/
def execPowerStateDescent (dt : Nat) (s : State) : Out :=
  let s1 := s.tick dt
  let c := s1.sup.cand
  if s1.running ∧ s1.sup.phase = 4 ∧ s1.keep.guardFault = false ∧ s1.atCycleStart ∧ s1.power < c
      ∧ s1.lasted s1.sup.candAt (Config.sec (s1.fld Reg.PWR_CFG Fld.PWR_CFG_DWELL)) then
    let s2 := s1.bump Reg.PWR_CNT Fld.PWR_CNT_DESCENTS
    .next (if c < 2 then s2.enterPower c else if c = 2 then (s2.enterPower c).dropScheds else s2.descendDeep c)
  else .next s1

/-- A write to PWR_CFG: bit 0 of ALLOW stays 1. -/
def State.pwrCfgWrite (s : State) (acc : Access) (val : Word) : State := s.busWrite acc Reg.PWR_CFG (val ||| 1)

/-- The path that writes PWR_LTR_k. -/
def ltrPath (k : Nat) (p : Path) : Bool :=
  if k = 0 then p == .host else if k = 1 then p == .mgmt else if k < 4 then p == .service else true

/-- A write to PWR_LTR_k: by its own path alone; k = 2 and 3 are read-only but for the service set. EXPIRY counts from the write. -/
def State.pwrLtrWrite (s : State) (acc : Access) (k : Nat) (val : Word) : State :=
  let a := Reg.PWR_LTR k
  if !s.answers acc.path a then s
  else if k = 2 ∨ k = 3 then
    if acc.path = .service then (s.busWrite acc a val).ltrWritten [a] else s.raise Reg.SYS_ERR Fld.SYS_ERR_RO_WRITE
  else if !ltrPath k acc.path then s.deny acc a
  else if (s.openOf acc).isSome then s.busWrite acc a val
  else
    let s1 := s.busWrite acc a val
    if Scope.op.admits acc.role ∧ s1.rd a = val &&& 0x8FFFFFFF then s1.ltrWritten [a] else s1

/-- LTR_EXPIRY (R705): EXPIRY seconds after its write PWR_LTR_k becomes invalid. -/
def execLtrExpiry (dt k : Nat) (s : State) : Out :=
  let s1 := s.tick dt
  let a := Reg.PWR_LTR (k % 8)
  let e := s1.fld a Fld.PWR_LTR_EXPIRY
  let at' := SMap.get (fun _ => 0) s1.sup.ltrAt (k % 8)
  .next (if s1.fld a Fld.PWR_LTR_VALID = 1 ∧ e ≠ 0 ∧ Config.sec e ≤ s1.since at' then s1.setF a Fld.PWR_LTR_VALID 0 else s1)

/-! ### Wakes (R711 to R713, R709) -/

/-- WAKE_THRESHOLD_CROSSING (R713): WAKE_k crossed its threshold and has stayed across for the given counts. -/
def execWakeThresholdCrossing (dt k : Nat) (rising : Bool) (held : Nat) (s : State) : Out :=
  let s1 := s.tick dt
  let a := Reg.PWR_WAKE_THR (k % 8)
  let edge := s1.fld a Fld.PWR_WAKE_THR_EDGE
  if s1.fld a Fld.PWR_WAKE_THR_THR = 0 ∨ s1.sup.onDomain = false then .next s1
  else
    let s2 := s1.setF a Fld.PWR_WAKE_THR_LEVEL (flag rising)
    .next (if Config.msec 1 ≤ held ∧ edge.testBit (if rising then 0 else 1) then s2.wakeSource .wake (k % 8) else s2)

/-- PWR_ALARM_REACHED (R711): the timestamp has reached PWR_ALARM; 0 disables it. -/
def execPwrAlarmReached (dt : Nat) (s : State) : Out :=
  let s1 := s.tick dt
  let alarm : Count := s1.rd Reg.PWR_ALARM_HI ++ s1.rd Reg.PWR_ALARM_LO
  .next (if alarm ≠ 0 ∧ alarm ≤ s1.tm.ts then s1.wakeSource .alarm 0 else s1)

/-- METR_SLEEP_EXIT (R709): the first sample above the threshold ends SLEEP at that instant and wakes the module. -/
def execMetrSleepExit (dt : Nat) (codes : List Int) (s : State) : Out :=
  let s1 := s.tick dt
  if s1.metr.on ∧ s1.metr.sleep ∧ s1.aboveStart codes then
    .next (({ s1 with metr := { s1.metr with sleep := false } }.sampleInstant codes).wakeSource .metr 0)
  else .next s1

/-- TAMP_CHANGE (R583, R689, R691, R711): a change to active waits for the next time line and may start a wipe; a change is a wake. -/
def execTampChange (dt k : Nat) (active : Bool) (s : State) : Out :=
  let s1 := s.tick dt
  if s1.sup.onDomain = false then .next s1
  else
    let s2 := if active then { s1 with metr := { s1.metr with tamps := s1.metr.tamps ++ [(k % 4, s1.tm.ts)] } } else s1
    let s3 := if active && (s2.rd Reg.MEM_WIPE_CFG).getLsbD (k % 4) then s2.wipe (1 + k % 4) else s2
    .next (s3.wakeSource .tamper (k % 4))

/-! ### Temperatures and deferral (R714, R715) -/

/-- The DEFER field of a side. -/
def deferField (x : Side) : Field := match x with | .a => Fld.PWR_STAT_DEFER_A | .b => Fld.PWR_STAT_DEFER_B

/-- A side die's temperature in 0.1 °C (R714, R162). -/
def State.sideTemp (s : State) (x : Side) (t : Int) : State :=
  if (s.side x).state = .off then s
  else
    let s1 := if t < 10 * s.fld Reg.PWR_DEFER_CFG Fld.PWR_DEFER_CFG_T_DEFER ∨ (s.side x).deferring then s
      else (((s.setSide x { s.side x with deferring := true }).setF Reg.PWR_STAT (deferField x) 1).bump Reg.PWR_CNT
        Fld.PWR_CNT_DEFERS).post Ev.PWR_DEFER x.code
    if t < 1350 then s1 else s1.faultFlag x 4

/-- The Guard die's temperature in 0.1 °C: at 140 °C it latches GUARD_FAULT (R714). -/
def State.guardTemp (s : State) (t : Int) : State := if t < 1400 then s else s.latchGuardFault

/-- DEFER_START (R714): a die reaches the given temperature; 0 Side A, 1 Side B, else the Guard die. -/
def execDeferStart (dt die : Nat) (t : Int) (s : State) : Out :=
  let s1 := s.tick dt
  if die ≤ 1 then .next (if s1.running then s1.sideTemp (if die = 0 then .a else .b) t else s1)
  else .next (if s1.awake then s1.guardTemp t else s1)

/-- What waited for the end of deferral goes on (R715): an ACTIVATE, and the checks of a firmware package. -/
def State.undeferred (s : State) : State :=
  let s1 := if s.img.actWait then
      ({ s with img := { s.img with actWait := false } }.showRest).requestActivation else s
  if s1.host.fwWait then s1.fwClose else s1

/-- DEFER_END (R714): the die has been below T_DEFER − 5 K for 10 s. -/
def execDeferEnd (dt : Nat) (side : Side) (s : State) : Out :=
  let s1 := s.tick dt
  if (s1.side side).deferring ∧ s1.lastedIn s1.sup.coolAt side.code (Config.sec 10) then
    let s2 := (s1.setSide side { s1.side side with deferring := false }).setF Reg.PWR_STAT (deferField side) 0
    .next (if s2.deferring then s2 else s2.undeferred)
  else .next s1

/-- A write to PWR_CLR (R726): PWR_CNT clears. -/
def State.pwrClrWrite (s : State) (acc : Access) (val : Word) : State :=
  s.command acc Reg.PWR_CLR .op fun s1 => if fget Fld.PWR_CLR_CLEAR val = 1 then s1.clearCount Reg.PWR_CNT else s1

/-- PWR_CLR (R726). -/
def execPwrClr (dt : Nat) (acc : Access) (val : Word) (s : State) : Out := .next ((s.tick dt).pwrClrWrite acc val)

/-! ### At a boundary -/

/-- The supply, load and temperature registers, and the levels of the WAKE comparators. -/
def State.showSupply (s : State) (i : PowerIn) : State :=
  let pair := fun (hi lo : Nat) => BitVec.ofNat 32 (hi % 65536 * 65536 + lo % 65536)
  let s1 := (s.wr Reg.PWR_SUPPLY (pair i.vIn i.vHold)).wr Reg.PWR_LOAD (pair i.pLogic i.pIn)
  let s2 := (s1.wr Reg.PWR_TEMP (pair (bitsOf 16 i.tA) (bitsOf 16 i.tB))).wr Reg.PWR_TEMP2 (pair (bitsOf 16 i.tGuard) (bitsOf 16 i.tMetr))
  let s3 := (List.range 8).foldl (fun st k =>
    if st.fld (Reg.PWR_WAKE_THR k) Fld.PWR_WAKE_THR_THR = 0 then st.setF (Reg.PWR_WAKE_THR k) Fld.PWR_WAKE_THR_LEVEL 0
    else st.setF (Reg.PWR_WAKE_THR k) Fld.PWR_WAKE_THR_LEVEL (flag (i.wake.testBit k))) s2
  let lim : Int := 10 * s3.fld Reg.PWR_DEFER_CFG Fld.PWR_DEFER_CFG_T_DEFER - 50
  { s3 with sup := { s3.sup with
    coolAt := s3.trackIn (s3.trackIn s3.sup.coolAt 0 (decide (i.tA < lim))) 1 (decide (i.tB < lim)) } }

/-- The module controls (R724). -/
def State.ctrlReady (s : State) : Bool :=
  s.mode == 2 && s.hasActive
  && ((List.range 12).all fun p => !s.portUsed p || s.fld (Reg.RING_PORT_STAT p) Fld.RING_PORT_STAT_STATE == 5)
  && fget Fld.METR_STAT_LINK s.metrStat == 1

/-- Milliseconds since the release of the Guard die, for PWR_START. -/
def State.startMs (s : State) : Nat := min (s.tm.mono.toNat / Config.msec 1) 0xFFFE

/-- CTRL_READY and RUN_READY turn 1 (R724), with their times in PWR_START. -/
def State.showReady (s : State) : State :=
  let c := s.ctrlReady
  let r := c && s.hasStandby && s.chState .a == 2 && s.chState .b == 2
  let s1 := if c && s.fld Reg.PWR_STAT Fld.PWR_STAT_CTRL_READY == 0 then
      (s.setF Reg.PWR_STAT Fld.PWR_STAT_CTRL_READY 1).setF Reg.PWR_START Fld.PWR_START_T_CTRL s.startMs else s
  if r && s1.fld Reg.PWR_STAT Fld.PWR_STAT_RUN_READY == 0 then
    ((s1.setF Reg.PWR_STAT Fld.PWR_STAT_RUN_READY 1).setF Reg.PWR_START Fld.PWR_START_T_READY s1.startMs).post Ev.PWR_RUN_READY
  else s1

/-- The supply's and the power states' part of a base-cycle boundary; the temperatures it measures act as R714 says. -/
def State.pwrBoundary (s : State) (i : PowerIn) : State :=
  ((((((s.showSupply i).sideTemp .a i.tA).sideTemp .b i.tB).guardTemp i.tGuard).showReady).showCandidate i)

end Sys2Proof.Machine
end

