-- ==== Sys2Proof/Machine/Writes.lean ====
section
/-! DEFINITION. The write of any word of the map: a register with an effect of its own acts by it, every other one by its access codes;
and the meanings of the register-access rows (chapters 1, 3, 22 and 23). -/

namespace Sys2Proof.Machine

open Sys2Proof

/-- The instance of a group that an address names: base, stride, count. -/
def nthOf (base stride count addr : Nat) : Option Nat :=
  if base ≤ addr ∧ (addr - base) % stride = 0 ∧ (addr - base) / stride < count then some ((addr - base) / stride) else none

/-- The registers whose writes have an effect of their own: base, stride, count, and the effect on instance n. -/
def writeTable : List (Nat × Nat × Nat × (State → Access → Nat → Word → State)) :=
  [ (Reg.SYS_EVQ_POP, 4, 1, fun s a _ v => s.evqPopWrite a v),
    (Reg.FAST_CLR, 4, 1, fun s a _ v => s.fastClrWrite a v),
    (Reg.TIME_SET_HI, 4, 1, fun s a _ v => s.timeSetHiWrite a v),
    (Reg.TIME_CTRL, 4, 1, fun s a _ v => (s.busWrite a Reg.TIME_CTRL v).selectSource),
    (Reg.TIME_QUEUE_SEL, 4, 1, fun s a _ v => s.timeQueueSelWrite a v),
    (Reg.TIME_QUEUE_CLR, 4, 1, fun s a _ v => s.timeQueueClrWrite a v),
    (Reg.IMG_MIN_VER, 4, 1, fun s a _ v => s.imgMinVerWrite a v),
    (Reg.IMG_SLOT_CTRL, 4, 1, fun s a _ v => s.slotCtrlWrite a v),
    (Reg.IMG_XFER_CTRL, 4, 1, fun s a _ v => s.imgXferWrite a v),
    (Reg.IMG_KEY_STAT, 4, 1, fun s a _ v => s.imgRevokeWrite a v),
    (Reg.IMG_TXN_CTRL 0, 0x10, 4, fun s a n v => s.txnCtrlWrite a n v),
    (Reg.IMG_TXN_TRIAL 0, 0x10, 4, fun s a n v => s.txnTrialWrite a n v),
    (Reg.KEEP_CTRL, 4, 1, fun s a _ v => s.keepCtrlWrite a v),
    (Reg.KEEP_CLR, 4, 1, fun s a _ v => s.keepClrWrite a v),
    (Reg.LOOP_CLR, 4, 1, fun s a _ v => s.loopClrWrite a v),
    (Reg.LOOP_PRESET 0, 0x40, 64, fun s a n v => s.loopPresetWrite a n v),
    (Reg.EDGE_CLR, 4, 1, fun s a _ v => s.edgeClrWrite a v),
    (Reg.QSET_CLR 0, 4, 4, fun s a n v => s.qsetClrWrite a n v),
    (Reg.QSET_FORCE, 4, 1, fun s a _ v => s.qsetForceWrite a v),
    (Reg.RING_CMD, 4, 1, fun s a _ v => s.ringCmdWrite a v),
    (Reg.RING_CLR, 4, 1, fun s a _ v => s.ringClrWrite a v) ]

/-- The rest of the table: power conversion, outlets and safety. -/
def writeTableField : List (Nat × Nat × Nat × (State → Access → Nat → Word → State)) :=
  [ (Reg.SST_CLR, 4, 1, fun s a _ v => s.sstClrWrite a v),
    (Reg.SST_RUN_CTRL, 4, 1, fun s a _ v => s.sstRunWrite a v),
    (Reg.SST_CELL_CMD 0, 0x10, 96, fun s a n v => s.sstCellWrite a n v),
    (Reg.OUTS_CLR, 4, 1, fun s a _ v => s.outsClrWrite a v),
    (Reg.OUTS_O_CTRL 0, 0x40, 8, fun s a n v => s.outsCtrlWrite a n v),
    (Reg.OUTS_PH_CMD 0, 0x20, 96, fun s a n v => s.phCmdWrite a n v),
    (Reg.ALOC_CLR, 4, 1, fun s a _ v => s.alocClrWrite a v),
    (Reg.COOL_CLR, 4, 1, fun s a _ v => s.coolClrWrite a v),
    (Reg.COOL_O_CTRL 0, 0x40, 8, fun s a n v => s.coolCtrlWrite a n v),
    (Reg.THERM_CLR, 4, 1, fun s a _ v => s.thermClrWrite a v),
    (Reg.OUTL_CLR, 4, 1, fun s a _ v => s.outlClrWrite a v),
    (Reg.OUTL_O_CTRL 0, 0x40, 8, fun s a n v => s.outlCtrlWrite a n v),
    (Reg.SAFE_CTRL, 4, 1, fun s a _ v => s.safeCtrlWrite a v),
    (Reg.SAFE_CONFIRM, 4, 1, fun s a _ v => s.safeConfirmWrite a v),
    (Reg.SAFE_FB_ACK, 4, 1, fun s a _ v => s.safeFbAckWrite a v),
    (Reg.SAFE_CLR, 4, 1, fun s a _ v => s.safeClrWrite a v),
    (Reg.SAFE_AX_CTRL 0, 0x40, 2, fun s a n v => s.axCtrlWrite a n v) ]

/-- The rest of the table: metering, recording, site bus, load switches, memories, supply, host. CAN_CTRL_k needs to know whether the
head of the queue is on the wire, which a write does not say: a free value. -/
def writeTableRest : List (Nat × Nat × Nat × (State → Access → Nat → Word → State)) :=
  [ (Reg.METR_CLR, 4, 1, fun s a _ v => s.metrClrWrite a v),
    (Reg.BILL_CTRL, 4, 1, fun s a _ v => s.billCtrlWrite a v),
    (Reg.BILL_REC_SEL, 4, 1, fun s a _ v => s.billRecSelWrite a v),
    (Reg.ACQ_CMD_ALL, 4, 1, fun s a _ v => s.acqCmdAllWrite a v),
    (Reg.ACQ_E_CTRL 0, 0x100, 16, fun s a n v => s.acqCtrlWrite a n v),
    (Reg.ACQ_RD_SEL, 4, 1, fun s a _ v => s.acqRdSelWrite a v),
    (Reg.ACQ_CLR, 4, 1, fun s a _ v => s.acqClrWrite a v),
    (Reg.CAN_CTRL 0, 0x4000, 4, fun s a k v => (s.freshBool.2).canCtrlWrite a k v s.freshBool.1),
    (Reg.CAN_CLR 0, 0x4000, 4, fun s a k v => s.canClrWrite a k v),
    (Reg.CAN_RX_SEL 0, 0x4000, 4, fun s a k v => s.canRxSelWrite a k v),
    (Reg.LSW_CTRL 0, 0x20, 24, fun s a n v => s.lswCtrlWrite a n v),
    (Reg.LSW_SNS_SEL, 4, 1, fun s a _ v => s.lswSnsSelWrite a v),
    (Reg.LSW_CLR, 4, 1, fun s a _ v => s.lswClrWrite a v),
    (Reg.MEM_LC_CTRL, 4, 1, fun s a _ v => s.lcCtrlWrite a v),
    (Reg.MEM_CTRL, 4, 1, fun s a _ v => s.memCtrlWrite a v),
    (Reg.MEM_WIPE_CFG, 4, 1, fun s a _ v => s.wipeCfgWrite a v),
    (Reg.MEM_CLR, 4, 1, fun s a _ v => s.memClrWrite a v),
    (Reg.PWR_CFG, 4, 1, fun s a _ v => s.pwrCfgWrite a v),
    (Reg.PWR_RESET, 4, 1, fun s a _ v => s.pwrResetWrite a v),
    (Reg.PWR_CLR, 4, 1, fun s a _ v => s.pwrClrWrite a v),
    (Reg.PWR_LTR 0, 4, 8, fun s a k v => s.pwrLtrWrite a k v),
    (Reg.HOST_CFG, 4, 1, fun s a _ v => s.hostCfgWrite a v),
    (Reg.HOST_IRQ_CFG 0, 4, 4, fun s a i v => (s.busWrite a (Reg.HOST_IRQ_CFG i) v).irqShow),
    (Reg.HOST_CLR, 4, 1, fun s a _ v => s.hostClrWrite a v),
    (Reg.HOST_FW_CTRL, 4, 1, fun s a _ v => s.fwCtrlWrite a v) ]

/-- The effect of an address's own, with its instance, where it has one. -/
def ownWrite (addr : Nat) : Option (Nat × (State → Access → Nat → Word → State)) :=
  (writeTable ++ writeTableField ++ writeTableRest).findSome? fun e => (nthOf e.1 e.2.1 e.2.2.1 addr).map fun n => (n, e.2.2.2)

/-- CAN_PORT_ID_k_p, CAN_PORT_DATA words and CAN_XL_WIN words: the staging of a HOST port (R621). -/
def canStaging (addr : Nat) : Bool :=
  decide (0x100000 ≤ addr) && decide (addr < 0x110000)
  && (let o := addr % 0x4000
      (decide (0x100 ≤ o) && decide (o < 0x300) && o % 0x20 == 4) || (decide (0x1000 ≤ o) && decide (o < 0x1400))
      || (decide (0x2000 ≤ o) && decide (o < 0x2800)))

/-- CAN_PORT_SEND_k_p: bus and port. -/
def canSendAt (addr : Nat) : Option (Nat × Nat) :=
  if 0x100000 ≤ addr ∧ addr < 0x110000 ∧ 0x100 ≤ addr % 0x4000 ∧ addr % 0x4000 < 0x300 ∧ addr % 0x20 = 8 then
    some ((addr - 0x100000) / 0x4000, (addr % 0x4000 - 0x100) / 0x20)
  else none

/-- A write of one word to a present unit. -/
def State.writePresent (s : State) (acc : Access) (addr : Nat) (val : Word) : State :=
  match windowOf addr with
  | some .image => s.imgDataWrite acc addr val
  | some .firmware => s.fwDataWrite acc addr val
  | some _ => s.raise Reg.SYS_ERR Fld.SYS_ERR_RO_WRITE
  | none =>
    match ownWrite addr with
    | some (n, f) => f s acc n val
    | none =>
      match canSendAt addr with
      | some (k, p) => s.canSendWrite acc k p val
      | none => if canStaging addr then s.canStageWrite acc addr val else s.busWrite acc addr val

/-- A write of one word of the map over the register bus, by any path (R727, R751 to R759). -/
def State.write (s : State) (acc : Access) (addr : Nat) (val : Word) : State :=
  if !s.answers acc.path addr then s
  else if outOfMap addr then s.touchOutOfMap acc addr
  else if s.absentHere acc.path addr then s.touchAbsent acc addr
  else s.showRest.writePresent acc addr val

/-- A read or a write of one word, whichever the command carries, with its answer. -/
def State.access (s : State) (acc : Access) (addr : Nat) (wr : Option Word) (status : Nat := 0) : State :=
  match wr with
  | none => (s.busRead acc addr).2.answer [(s.busRead acc addr).1] status
  | some v => (s.write acc addr v).answer [] status

/-- REGISTER_WRITE (R751, R753). -/
def execRegisterWrite (dt : Nat) (acc : Access) (addr : Nat) (val : Word) (s : State) : Out :=
  .next ((s.tick dt).access acc addr (some val))

/-- TUNABLE_WRITE (R127 to R129, R131). -/
def execTunableWrite (dt : Nat) (acc : Access) (addr : Nat) (val : Word) (s : State) : Out :=
  .next ((s.tick dt).access acc addr (some val))

/-- STAGING_WRITE (R135 to R138): from a session with an OPEN context. -/
def execStagingWrite (dt : Nat) (acc : Access) (addr : Nat) (val : Word) (s : State) : Out :=
  .next ((s.tick dt).access acc addr (some val))

/-- ABSENT_ACCESS (R4 to R7, R758). -/
def execAbsentAccess (dt : Nat) (acc : Access) (addr : Nat) (wr : Option Word) (s : State) : Out :=
  .next ((s.tick dt).access acc addr wr)

/-- RESERVED_ACCESS (R757). -/
def execReservedAccess (dt : Nat) (acc : Access) (addr : Nat) (wr : Option Word) (s : State) : Out :=
  .next ((s.tick dt).access acc addr wr)

/-- OUT_OF_MAP_ACCESS (R759): the management protocol answers OUT_OF_MAP. -/
def execOutOfMapAccess (dt : Nat) (acc : Access) (addr : Nat) (wr : Option Word) (s : State) : Out :=
  .next ((s.tick dt).access acc addr wr (if outOfMap addr then 3 else 0))

/-- An access of the host link with partial byte enables, or one that leaves the map (R728): no effect, reads 0. -/
def State.hostBad (s : State) (addr : Nat) : State :=
  (((s.postArg Ev.HOST_BAD_ACCESS (accArg s.hostAccess addr)).raise Reg.HOST_STAT Fld.HOST_STAT_BAD_ACCESS).bump
    Reg.HOST_CNT Fld.HOST_CNT_BAD_ACCESSES).answer [0] 0

/-- HOST_BAD_ACCESS (R728). -/
def execHostBadAccess (dt : Nat) (addr : Nat) (byteEnables : Nat) (wr : Option Word) (s : State) : Out :=
  let s1 := s.tick dt
  if outOfMap addr = false ∧ byteEnables ≠ 15 ∧ s1.answers .host addr then .next (s1.hostBad addr)
  else .next (s1.access s1.hostAccess addr wr)

/-- LOW_WORD_READ (R54): the high word goes to the path's shadow. -/
def execLowWordRead (dt : Nat) (acc : Access) (addr : Nat) (s : State) : Out := .next ((s.tick dt).access acc addr none)

/-- TIME_STEP_APPLY (R71): at the boundary, the pending step is applied. -/
def execTimeStepApply (dt : Nat) (s : State) : Out :=
  let s1 := s.tick dt
  if s1.atCycleStart ∧ s1.tm.step.isSome ∧ s1.tm.stepAt ≠ some s1.tm.cycleStart then .next (s1.applyStep.acqMark 0x40) else .next s1

end Sys2Proof.Machine
end

