-- ==== Sys2Proof/Machine/Link.lean ====
section
/-! DEFINITION. The host link: quad-SPI frames, the PCIe link, the session, and the interrupt lines (R728 to R734). -/

namespace Sys2Proof.Machine

open Sys2Proof

/-- The quad-SPI carrier is selected, and the link answers (R728 to R730). -/
def State.spiOn (s : State) : Bool :=
  s.fld Reg.HOST_CFG Fld.HOST_CFG_MODE == 2 && s.answers .host (if s.fld Reg.HOST_FW_STAT Fld.HOST_FW_STAT_RECOVERY = 1
    then Reg.HOST_FW_STAT else Reg.HOST_STAT)

/-- A frame arrives: the session opens at the first one, and SPI_TMO counts from it (R730); the flags of the frame before it go. -/
def State.spiFrame (s : State) : State :=
  let s1 := s.setF Reg.HOST_STAT Fld.HOST_STAT_SESSION 1
  { s1 with host := { s1.host with lastSpi := s1.tm.mono, qspiFlags := 0 } }

/-- The events posted since an earlier state of the same base cycle. -/
def State.postedSince (s before : State) : List EvEntry := s.ev.posted.filter fun e => decide (before.ev.nextSeq ≤ e.seq)

/-- An event of a code was posted since an earlier state. -/
def State.postedNow (s before : State) (code : Nat) : Bool := (s.postedSince before).any fun e => e.code == code

/-- ERR (bit 1) set for the frame. -/
def State.spiErr (s : State) : State := { s with host := { s.host with qspiFlags := s.host.qspiFlags ||| 2 } }

/-- DENIED (bit 2) where the frame was refused for its role. -/
def State.spiDenied (s before : State) : State :=
  if s.postedNow before Ev.DENIED then { s with host := { s.host with qspiFlags := s.host.qspiFlags ||| 4 } } else s

/-- A misaligned or out-of-map frame: ERR and the effect of R728; out of the map also SYS_ERR (R759). -/
def State.spiBad (s : State) (addr : Nat) : State :=
  (if addr < 0x180000 then s.hostBad addr else s.touchOutOfMap s.hostAccess addr).spiErr

/-- The words of a READ: each as the register bus serves it; a data window needs DUMMY = 32, with fewer its words are free; a word past the
end of the map ends the frame with ERR. -/
def spiWords : Nat → Nat → State → List Word → State × List Word
  | 0, _, s, ws => (s, ws)
  | n + 1, addr, s, ws =>
    if 0x180000 ≤ addr then (s.spiBad addr, ws)
    else if (windowOf addr).isSome && decide (s.fld Reg.HOST_CFG Fld.HOST_CFG_DUMMY < 32) then
      spiWords n (addr + 4) s.freshWord.2 (ws ++ [s.freshWord.1])
    else spiWords n (addr + 4) (s.busRead s.hostAccess addr).2 (ws ++ [(s.busRead s.hostAccess addr).1])

/-- Words as bytes, little-endian (R15). -/
def wordBytes (ws : List Word) : List Byte := ws.flatMap fun w => leBytes 4 w.toNat

/-- The CRC-16/CCITT of a frame, over its address, most significant byte first, and its data (R729). -/
def spiCrc (addr : Nat) (ws : List Word) : Nat := (crc16 ((leBytes 3 addr).reverse ++ wordBytes ws)).toNat

/-- A READ frame (R729): 0x0B and 0xEB differ in the lines alone. The CRC follows low byte first (R15). -/
def State.spiRead (s : State) (addr count : Nat) : State :=
  if !s.spiOn then s
  else
    let a := addr % 0x1000000
    let s1 := s.spiFrame
    if a % 4 ≠ 0 ∨ 0x180000 ≤ a then (s1.spiBad a).answer (List.replicate count 0) 0
    else
      let (s2, ws) := spiWords count a s1 []
      let out := ws ++ List.replicate (count - ws.length) 0
      let tail := if s2.fld Reg.HOST_CFG Fld.HOST_CFG_QSPI_CRC = 1 then leBytes 2 (spiCrc a out) else []
      let s3 := (s2.spiDenied s1).answer out 0
      { s3 with host := { s3.host with replyBytes := wordBytes out ++ tail } }

/-- The words of a WRITE in address order; a word past the end of the map ends the frame with ERR. -/
def spiStore : List Word → Nat → State → State
  | [], _, s => s
  | w :: r, addr, s => if 0x180000 ≤ addr then s.spiBad addr else spiStore r (addr + 4) (s.write s.hostAccess addr w)

/-- A WRITE frame (R729): 0x02 and 0x38 differ in the lines alone. With QSPI_CRC a frame whose CRC fails writes nothing. -/
def State.spiWrite (s : State) (addr : Nat) (ws : List Word) (crc : Nat) : State :=
  if !s.spiOn then s
  else
    let a := addr % 0x1000000
    let s1 := s.spiFrame
    if s1.fld Reg.HOST_CFG Fld.HOST_CFG_QSPI_CRC = 1 ∧ crc ≠ spiCrc a ws then s1.bump Reg.HOST_CNT Fld.HOST_CNT_CRC_ERRORS
    else if a % 4 ≠ 0 ∨ 0x180000 ≤ a then s1.spiBad a
    else ((spiStore ws a s1).spiDenied s1).answer [] 0

/-- QSPI_READ (R729). -/
def execQspiRead (dt addr count : Nat) (s : State) : Out := .next ((s.tick dt).spiRead addr count)

/-- QSPI_QUAD_READ (R729). -/
def execQspiQuadRead (dt addr count : Nat) (s : State) : Out := .next ((s.tick dt).spiRead addr count)

/-- QSPI_WRITE (R729). -/
def execQspiWrite (dt addr : Nat) (words : List Word) (crc : Nat) (s : State) : Out := .next ((s.tick dt).spiWrite addr words crc)

/-- QSPI_QUAD_WRITE (R729). -/
def execQspiQuadWrite (dt addr : Nat) (words : List Word) (crc : Nat) (s : State) : Out := .next ((s.tick dt).spiWrite addr words crc)

/-- The byte of a STATUS frame: BUSY free, ERR and DENIED of the frame before, FAILOVER (R729, R731). -/
def State.spiStatus (s : State) (busy : Bool) : Nat :=
  flag busy + s.host.qspiFlags % 8 + 8 * s.fld Reg.HOST_STAT Fld.HOST_STAT_FAILOVER

/-- QSPI_STATUS (R729). -/
def execQspiStatus (dt : Nat) (s : State) : Out :=
  let s1 := s.tick dt
  if s1.spiOn then
    let s2 := s1.freshBool.2
    let b := s2.spiStatus s1.freshBool.1
    let s3 := s2.spiFrame.answer [] 0
    .next { s3 with host := { s3.host with replyBytes := [BitVec.ofNat 8 b] } }
  else .next s1

/-- PCIE_LINK_UP (R728, R730, R734): the link comes up with 1, 2 or 4 MSI vectors and opens the session. -/
def execPcieLinkUp (dt vectors : Nat) (s : State) : Out :=
  let s1 := s.tick dt
  if s1.fld Reg.HOST_CFG Fld.HOST_CFG_MODE = 1 ∧ s1.fld Reg.HOST_CFG Fld.HOST_CFG_HOST_EN = 1 ∧ s1.running ∧ s1.keep.guardFault = false then
    let v := if 4 ≤ vectors then 4 else if 2 ≤ vectors then 2 else 1
    let s2 := (s1.setF Reg.HOST_STAT Fld.HOST_STAT_LINK_UP 1).setF Reg.HOST_STAT Fld.HOST_STAT_SESSION 1
    .next { s2 with host := { s2.host with vectors := v, lines := 0 } }.irqShow
  else .next s1

/-- The PCIe link is down and its session closed (R730). -/
def State.pcieDown (s : State) : State := s.closeHost.setF Reg.HOST_STAT Fld.HOST_STAT_LINK_UP 0

/-- PCIE_LINK_DOWN (R730). -/
def execPcieLinkDown (dt : Nat) (s : State) : Out :=
  let s1 := s.tick dt
  if s1.fld Reg.HOST_CFG Fld.HOST_CFG_MODE = 1 then .next s1.pcieDown else .next s1

/-- PCIE_FUNDAMENTAL_RESET (R728): the host link alone is reset: link, session, vectors, read shadow and event snapshot. -/
def execPcieFundamentalReset (dt : Nat) (s : State) : Out :=
  let s1 := s.tick dt
  if s1.fld Reg.HOST_CFG Fld.HOST_CFG_MODE = 1 then
    let s2 := s1.pcieDown
    .next { s2 with
      host := { s2.host with vectors := 1, shadows := SMap.erase s2.host.shadows Path.host.code }
      ev := { s2.ev with snaps := SMap.erase s2.ev.snaps Path.host.code } }
  else .next s1

/-- SPI_SESSION_TIMEOUT (R730): no frame for SPI_TMO seconds; 0 never. -/
def execSpiSessionTimeout (dt : Nat) (s : State) : Out :=
  let s1 := s.tick dt
  let tmo := s1.fld Reg.HOST_CFG Fld.HOST_CFG_SPI_TMO
  if s1.fld Reg.HOST_CFG Fld.HOST_CFG_MODE = 2 ∧ s1.fld Reg.HOST_STAT Fld.HOST_STAT_SESSION = 1 ∧ tmo ≠ 0
      ∧ Config.sec tmo ≤ s1.since s1.host.lastSpi then .next s1.closeHost
  else .next s1

/-- IRQ_HOLDOFF_EXPIRY (R734): the lines as the age of their oldest entries makes them. -/
def execIrqHoldoffExpiry (dt : Nat) (s : State) : Out := .next (s.tick dt).irqShow

end Sys2Proof.Machine
end

