-- ==== Sys2Proof/Machine/Mgmt.lean ====
section
/-! DEFINITION. The management protocol and the management client (R735 to R743). -/

namespace Sys2Proof.Machine

open Sys2Proof

/-! ### Connections (R735, R736) -/

/-- The boot code of a side in RECOVERY alone answers: the firmware registers and class 0x0800 (R747). -/
def State.recovery (s : State) : Bool := s.fld Reg.HOST_FW_STAT Fld.HOST_FW_STAT_RECOVERY == 1 && !s.hasActive

/-- The module answers the management protocol. -/
def State.mgmtOn (s : State) : Bool := s.answers .mgmt (if s.recovery then Reg.HOST_FW_STAT else Reg.HOST_STAT)

/-- The role a connection gets from its certificate: none where the handshake is refused (R735, R742, R743). Port 2 is ETHS. -/
def State.certRole (s : State) (port : Nat) (c : ClientCert) : Option Role :=
  let valid := c.tlsOk && !c.revoked && (c.inValidity || s.fld Reg.TIME_STAT Fld.TIME_STAT_VALID == 0)
  let wiped := s.fld Reg.MEM_STAT Fld.MEM_STAT_WIPED == 1
  if !valid then none
  else
    match c.anchor, c.role with
    | .mgmt, some .reader => if wiped then none else some .reader
    | .mgmt, some .operator => if wiped then none else some .operator
    | .mgmt, some .service => if wiped && port != 2 then none else some .service
    | .metrology, some .metrology => if wiped then none else some .metrology
    | .safety, some .safety => if wiped then none else some .safety
    | .provisioning, _ => if port = 2 then some .reader else none
    | _, _ => none

/-- The refused handshakes of an address in the last 60 s. -/
def State.recentRefusals (s : State) (ip : Nat) : List Count :=
  (SMap.get (fun _ => []) s.host.refusals ip).filter fun t => decide (s.since t ≤ Config.sec 60)

/-- A refused handshake (R736): posted and counted; the fifth of an address in 60 s blocks it. -/
def State.authFail (s : State) (ip : Word) : State :=
  let l := s.recentRefusals ip.toNat ++ [s.tm.mono]
  let s1 := (s.postArg Ev.MGMT_AUTH_FAIL ip).bump Reg.HOST_MGMT Fld.HOST_MGMT_AUTH_FAILS
  if 5 ≤ l.length then
    { s1 with host := { s1.host with
      refusals := SMap.erase s1.host.refusals ip.toNat, blocked := SMap.insert s1.host.blocked ip.toNat s1.tm.mono } }
  else { s1 with host := { s1.host with refusals := SMap.put (fun _ => []) s1.host.refusals ip.toNat l } }

/-- An address that is refused without a handshake (R736). -/
def State.ipBlocked (s : State) (ip : Nat) : Bool :=
  match s.host.blocked.find? fun e => e.1 == ip with
  | some e => decide (s.since e.2 < Config.sec 300)
  | none => false

/-- MGMT_HANDSHAKE (R735, R736): ports 0 and 1 are ETH_0 and ETH_1, port 2 is ETHS; in RECOVERY only ETHS answers. A ninth connection is
not taken, and counts as no refused handshake (DEDUCED, log entry 76). -/
def execMgmtHandshake (dt conn port : Nat) (ip : Word) (cert : ClientCert) (s : State) : Out :=
  let s1 := s.tick dt
  if !s1.mgmtOn || (s1.recovery && port != 2) || s1.ipBlocked ip.toNat || decide (8 ≤ s1.host.conns.length)
      || (s1.mgmtConn conn).isSome then .next s1
  else
    match s1.certRole port cert with
    | none => .next (s1.authFail ip)
    | some r =>
      let c : Conn := ⟨r, cert.anchor == .provisioning, s1.tm.mono, 0, 0⟩
      let s2 := { s1 with host := { s1.host with conns := SMap.insert s1.host.conns conn c } }.showConns
      .next (if s2.fld Reg.TIME_STAT Fld.TIME_STAT_VALID = 0 then s2.post Ev.MGMT_TIME_UNCHECKED else s2)

/-- MGMT_BLOCK_EXPIRY (R736): 300 s after the fifth refusal the address may try again. -/
def execMgmtBlockExpiry (dt : Nat) (ip : Word) (s : State) : Out :=
  let s1 := s.tick dt
  if (s1.host.blocked.any fun e => e.1 == ip.toNat) ∧ s1.ipBlocked ip.toNat = false then
    .next { s1 with host := { s1.host with blocked := SMap.erase s1.host.blocked ip.toNat } }
  else .next s1

/-- MGMT_IDLE_TIMEOUT (R736): a connection that carried no frame for 120 s closes. -/
def execMgmtIdleTimeout (dt conn : Nat) (s : State) : Out :=
  let s1 := s.tick dt
  match s1.mgmtConn conn with
  | some c => .next (if Config.sec 120 ≤ s1.since c.last then s1.closeConn conn else s1)
  | none => .next s1

/-- MGMT_CONNECTION_CLOSE (R736): a connection closed by the client ends its session. -/
def execMgmtConnectionClose (dt conn : Nat) (s : State) : Out := .next ((s.tick dt).closeConn conn)

/-! ### Frames (R737, R738) -/

/-- A frame's bytes: header and payload. -/
def mgmtFrame (op tag status : Nat) (payload : List Byte) : List Byte :=
  [0x52, 0x4D, 0x01, BitVec.ofNat 8 op] ++ leBytes 4 tag ++ leBytes 4 payload.length ++ leBytes 2 status ++ [0, 0] ++ payload

/-- The response to a frame: it joins the Ethernet transmit queues (R181). -/
def State.respond (s : State) (op tag status : Nat) (payload : List Byte) : State :=
  let s1 := s.ethSend (mgmtFrame (0x80 + op % 0x80) tag status payload)
  { s1 with host := { s1.host with status := status, reply := [], replyBytes := mgmtFrame (0x80 + op % 0x80) tag status payload } }

/-- A frame of an open connection is served: its access, and the state with the idle time started again. -/
def State.withConn (s : State) (conn : Nat) (act : Access → State → State) : State :=
  match s.mgmtConn conn with
  | some c =>
    if s.mgmtOn then
      act ⟨.mgmt, c.role, conn⟩ { s with host := { s.host with conns := SMap.insert s.host.conns conn { c with last := s.tm.mono } } }
    else s
  | none => s

/-- Words read one after the other. -/
def readWords : Nat → Nat → Access → State → List Word → State × List Word
  | 0, _, _, s, ws => (s, ws)
  | n + 1, addr, acc, s, ws => readWords n (addr + 4) acc (s.busRead acc addr).2 (ws ++ [(s.busRead acc addr).1])

/-- MGMT_READ (R738): COUNT words from ADDR. Above 256 is TOO_LONG; an ADDR that is not a multiple of 4, or a word out of the map,
OUT_OF_MAP; COUNT 0 is REFUSED. -/
def execMgmtRead (dt conn tag addr count : Nat) (s : State) : Out :=
  .next ((s.tick dt).withConn conn fun acc s1 =>
    if 256 < count then s1.respond 1 tag 4 []
    else if count = 0 then s1.respond 1 tag 6 []
    else if addr % 4 ≠ 0 ∨ 0x180000 < addr + 4 * count then (s1.touchOutOfMap acc addr).respond 1 tag 3 []
    else
      let (s2, ws) := readWords count addr acc s1 []
      s2.respond 1 tag 0 (wordBytes ws))

/-- Events that say a write was refused for its value or its place in a transaction. -/
def refusalEvent (code : Nat) : Bool :=
  [Ev.PARAM_REJECT, Ev.TXN_REQUIRED, Ev.TXN_BUSY, Ev.TXN_CONFLICT, Ev.TXN_FULL, Ev.IMG_ACT_REFUSED, Ev.FW_ACT_REFUSED, Ev.SWITCH_REFUSED,
    Ev.RING_CMD_REFUSED, Ev.SST_CMD_REFUSED, Ev.SST_START_REFUSED, Ev.OUTS_CMD_REFUSED, Ev.COOL_CMD_REFUSED, Ev.OUTL_CMD_REFUSED,
    Ev.SAFE_RESET_REFUSED, Ev.SAFE_CONFIRM_REFUSED, Ev.SAFE_CMD_REFUSED, Ev.BILL_CMD_REFUSED, Ev.LSW_CMD_REFUSED, Ev.MEM_LC_REFUSED,
    Ev.PWR_CMD_REFUSED, Ev.QSET_CLR_REFUSED].contains code

/-- The status of a written word, from what its write posted (R738): 1 DENIED, 3 OUT_OF_MAP, 6 REFUSED, else 0; an absent unit is OK. -/
def State.wordStatus (s before : State) (addr : Nat) : Nat :=
  if outOfMap addr then 3
  else if s.postedNow before Ev.DENIED then 1
  else if (s.postedSince before).any fun e => refusalEvent e.code then 6
  else 0

/-- Words written one after the other in address order, each accepted or refused on its own. -/
def writeWords : List Word → Nat → Access → State → List Byte → State × List Byte
  | [], _, _, s, st => (s, st)
  | w :: r, addr, acc, s, st =>
    let s1 := s.write acc addr w
    writeWords r (addr + 4) acc s1 (st ++ [BitVec.ofNat 8 (s1.wordStatus s addr)])

/-- MGMT_WRITE (R738): the words in address order; a status byte for each, padded to a multiple of 4. -/
def execMgmtWrite (dt conn tag addr : Nat) (words : List Word) (s : State) : Out :=
  .next ((s.tick dt).withConn conn fun acc s1 =>
    if 256 < words.length then s1.respond 2 tag 4 []
    else if words.isEmpty then s1.respond 2 tag 6 []
    else if outOfMap addr then (s1.touchOutOfMap acc addr).respond 2 tag 3 []
    else
      let (s2, st) := writeWords words addr acc s1 []
      s2.respond 2 tag 0 (st ++ List.replicate ((4 - st.length % 4) % 4) 0))

/-- PING (R738). -/
def execPing (dt conn tag : Nat) (s : State) : Out := .next ((s.tick dt).withConn conn fun _ s1 => s1.respond 7 tag 0 [])

/-- MGMT_FORMAT_FRAME (R738): answered FORMAT, then the connection closes. -/
def execMgmtFormatFrame (dt conn op tag : Nat) (s : State) : Out :=
  .next ((s.tick dt).withConn conn fun _ s1 => (s1.respond op tag 2 []).closeConn conn)

/-! ### Events to subscribers (R739) -/

/-- The log of the serving side. -/
def State.eventLog (s : State) : List EvEntry := SMap.get (fun _ => []) s.ev.log s.serving.code

/-- SUBSCRIBE (R738, R739): the classes sent to the connection from now on; mask 0 ends the subscription. -/
def execSubscribe (dt conn tag mask : Nat) (s : State) : Out :=
  .next ((s.tick dt).withConn conn fun _ s1 =>
    match s1.mgmtConn conn with
    | some c =>
      let next := match s1.eventLog.getLast? with | some e => e.seq + 1 | none => 0
      let c' := { c with mask := mask % 256, sentSeq := if c.mask = 0 then next else c.sentSeq }
      { s1 with host := { s1.host with conns := SMap.insert s1.host.conns conn c' } }.showConns.respond 5 tag 0 []
    | none => s1)

/-- The 16 bytes of an entry (R732). -/
def evBytes (e : EvEntry) : List Byte :=
  leBytes 8 e.ts.toNat ++ leBytes 2 e.code ++ [BitVec.ofNat 8 e.cls, BitVec.ofNat 8 e.flags] ++ leBytes 4 e.arg.toNat

/-- The loss marker for entries that left the log before they were sent; how many of them were of the classes subscribed, and the first
one's timestamp, are free. -/
def State.logLoss (s : State) : EvEntry × State :=
  let n := s.freshWord
  let lo := n.2.freshWord
  let hi := lo.2.freshWord
  ({ seq := 0, ts := hi.1 ++ lo.1, mono := s.tm.mono, code := 0, cls := 0, flags := 2 + s.serving.code, arg := n.1, only := none }, hi.2)

/-- The EVENT frames that carry some entries: as many in each as its payload of 65,536 bytes takes (R737, R738). -/
def eventFrames (l : List EvEntry) : List (List Byte) :=
  (List.range ((l.length + 4095) / 4096)).map fun i => mgmtFrame 6 0 0 (((l.drop (4096 * i)).take 4096).flatMap evBytes)

/-- EVENT_DELIVERY (R739): the entries of the subscribed classes that the log took since the last delivery, in EVENT frames. -/
def execEventDelivery (dt conn : Nat) (s : State) : Out :=
  let s1 := s.tick dt
  match s1.mgmtConn conn with
  | none => .next s1
  | some c =>
    if c.mask = 0 ∨ s1.mgmtOn = false then .next s1
    else
      let log := s1.eventLog
      let lost := match log.head? with | some e => decide (524288 ≤ log.length) && decide (c.sentSeq < e.seq) | none => false
      let fresh := log.filter fun e => decide (c.sentSeq ≤ e.seq) && c.mask.testBit e.cls
      let next := match log.getLast? with | some e => max c.sentSeq (e.seq + 1) | none => c.sentSeq
      let out := (if lost then [s1.logLoss.1] else []) ++ fresh
      let s2 := (eventFrames out).foldl State.ethSend (if lost then s1.logLoss.2 else s1)
      if out.isEmpty then .next s1
      else
        .next { s2 with host := { s2.host with
          conns := SMap.insert s2.host.conns conn { c with sentSeq := next }
          sent := SMap.put (fun _ => []) s2.host.sent conn out
          replyBytes := (eventFrames out).flatten } }

/-! ### The management client (R741) -/

/-- The access of the management client: a function of the service set at the SERVICE role. -/
def clientAccess : Access := ⟨.service, .service, 0x0100⟩

/-- A field of a register set by the management client through the service path. -/
def State.clientSet (s : State) (addr : Nat) (f : Field) (v : Nat) : State := s.write clientAccess addr (fset f (s.rd addr) v)

/-- The object that holds the profile received for outlet n (class 0x0600). -/
def profileOid (n : Nat) : Nat := 0x06000000 + 0x100 * n

/-- CSMS_MESSAGE (R741, R478). -/
def execCsmsMessage (dt : Nat) (msg : CsmsMsg) (s : State) : Out :=
  let s1 := s.tick dt
  if s1.host.csmsUp = false ∨ s1.mgmtOn = false then .next s1
  else
    match msg with
    | .profile n p bs =>
      let s2 := s1.clientSet (Reg.ALOC_O_LIM (n % 8)) Fld.ALOC_O_LIM_P_MAX p
      .next { s2 with host := { s2.host with objects := SMap.put (fun _ => []) s2.host.objects (profileOid (n % 8)) bs } }
    | .station cap => .next (s1.clientSet Reg.ALOC_GRID Fld.ALOC_GRID_IMPORT_CAP cap)
    | .token n cls => .next (s1.clientSet (Reg.ALOC_O_CFG (n % 8)) Fld.ALOC_O_CFG_CLASS cls)
    | .stop n => .next (s1.endCause (n % 8) 3)

/-- CSMS_CONNECT_FAIL (R741): three failed attempts move the client to the second URL. -/
def execCsmsConnectFail (dt : Nat) (s : State) : Out :=
  let s1 := s.tick dt
  if s1.host.csmsUp then .next s1
  else if s1.host.csmsFails < 2 then .next { s1 with host := { s1.host with csmsFails := s1.host.csmsFails + 1 } }
  else .next { s1 with host := { s1.host with csmsFails := 0, csmsUrl := 1 } }

/-- CSMS_CONNECTED (R741): the queued messages are sent in order. -/
def execCsmsConnected (dt : Nat) (s : State) : Out :=
  let s1 := s.tick dt
  if s1.mgmtOn then
    .next { s1 with host := { s1.host with
      csmsUp := true, csmsFails := 0, csmsSent := s1.host.csmsSent ++ s1.host.csmsQueue, csmsQueue := [] } }
  else .next s1

/-- A transaction message of the client: sent over an open connection, else queued, at most 10,000 of them (R741). -/
def State.csmsTell (s : State) (m : Nat) : State :=
  if s.host.csmsUp then { s with host := { s.host with csmsSent := s.host.csmsSent ++ [m] } }
  else if s.host.csmsQueue.length < 10000 then { s with host := { s.host with csmsQueue := s.host.csmsQueue ++ [m] } }
  else s

end Sys2Proof.Machine
end

