-- ==== Sys2Proof/Machine/Objects.lean ====
section
/-! DEFINITION. The configuration objects of the service set (R738, R740, R742 to R745, R586). -/

namespace Sys2Proof.Machine

open Sys2Proof

/-- Who sends an object frame: a management connection, or the host link where none is named, whose response takes no way over Ethernet. -/
def State.withSender (s : State) (conn : Option Nat) (act : Access → State → State) : State :=
  match conn with
  | some c => s.withConn c act
  | none => if s.answers .host (if s.recovery then Reg.HOST_FW_STAT else Reg.HOST_STAT) then
      let r := act s.hostAccess s
      { r with host := { r.host with ethTx := s.host.ethTx } }
    else s

/-! ### Reading (OBJ_GET) -/

/-- The BILL registers that hold something other than 0, for the objects of R586. -/
def State.billRegs (s : State) : List (Nat × Word) := s.regs.filter fun e => e.1 / 0x10000 == 0xE

/-- The bytes of an object; none where there is no such object. The nonce is issued by the read (R743). -/
def State.objBytes (s : State) (oid : Nat) : Option (List Byte) :=
  let k := oidKind oid
  let stored := (s.host.objects.find? fun e => e.1 == oid).map (·.2)
  if k = 0 then none
  else if k = Obj.hostRole then some [BitVec.ofNat 8 (s.fld Reg.HOST_CFG Fld.HOST_CFG_ROLE)]
  else if k = Obj.imageKey then (s.img.keyHash.find? fun e => e.1 == oidInst oid).map (·.2)
  else if k = Obj.csr then some (Config.objectForm oid [])
  else if k = Obj.profile then (s.host.objects.find? fun e => e.1 == profileOid (oidInst oid)).map (·.2)
  else if k = Obj.bankState then
    some (Config.objectForm oid [(Reg.HOST_FW_STAT, s.rd Reg.HOST_FW_STAT), (Reg.HOST_FW_VER 0, s.rd (Reg.HOST_FW_VER 0)),
      (Reg.HOST_FW_VER 1, s.rd (Reg.HOST_FW_VER 1)), (Reg.HOST_FW_SVN, s.rd Reg.HOST_FW_SVN)])
  else if k = Obj.log then some (s.eventLog.flatMap evBytes)
  else if k = Obj.recordExport then some (Config.objectForm oid [])
  else if k = Obj.billing ∨ k = Obj.billingRead then some (Config.objectForm oid s.billRegs)
  else if k = Obj.nonce then s.host.nonce.map fun n => leBytes 4 n.1.toNat
  else if k = Obj.lifeToken ∨ k = Obj.provision ∨ k = Obj.scrap ∨ k = Obj.firmware then some []
  else stored

/-- A fresh nonce for a life-cycle token (R743). -/
def State.issueNonce (s : State) : State :=
  { s.freshWord.2 with host := { s.freshWord.2.host with nonce := some (s.freshWord.1, s.tm.mono) } }

/-- OBJ_GET (R738, R740): open to every role but for the write-only password; in RECOVERY only class 0x0800 is served (R747). -/
def execObjGet (dt : Nat) (conn : Option Nat) (tag oid ofs maxLen : Nat) (s : State) : Out :=
  .next ((s.tick dt).withSender conn fun _ s1 =>
    if s1.recovery && oidClass oid != 0x0800 then s1
    else if 65536 < maxLen then s1.respond 3 tag 4 []
    else if oidKind oid = Obj.password then s1.respond 3 tag 1 []
    else
      let s2 := if oidKind oid = Obj.nonce ∧ ofs = 0 then s1.issueNonce else s1
      match s2.objBytes oid with
      | none => s2.respond 3 tag 5 []
      | some bs => s2.respond 3 tag 0 ((bs.drop ofs).take maxLen))

/-! ### Writing (OBJ_SET) -/

/-- The rights and places of R740 and R743 allow the write: 0, else the status. -/
def State.objMay (s : State) (acc : Access) (oid : Nat) : Nat :=
  let k := oidKind oid
  let lc := s.lifeCycle
  let svc := decide (acc.role = .service)
  let prov := s.provisionPath acc && decide (lc < 2)
  let own := fun (r : Role) => prov || (lc == 2 && decide (acc.role = r))
  let ok :=
    if k = Obj.password ∨ k = Obj.clientCfg ∨ k = Obj.anchor ∨ k = Obj.serverCert ∨ k = Obj.cert ∨ k = Obj.vehicle ∨ k = Obj.time
        ∨ k = Obj.firmware then svc
    else if k = Obj.tokens then Scope.op.admits acc.role
    else if k = Obj.anchorMetr then own .metrology
    else if k = Obj.anchorSafe then own .safety
    else if k = Obj.imageKey then s.provisionPath acc && lc == 1
    else if k = Obj.hostRole then prov
    else if k = Obj.provision ∨ k = Obj.scrap then s.provisionPath acc
    else if k = Obj.lifeToken then s.provisionPath acc
    else k == Obj.billing
  if k = 0 then 5 else if ok then 0 else 1

/-- The bytes of a chunk put into the object that a session sends. -/
def putBytes (m : SMap Byte) (ofs : Nat) (bs : List Byte) : SMap Byte :=
  (bs.zipIdx).foldl (fun t e => SMap.insert t (ofs + e.2) e.1) m

/-- The whole object: the bytes up to the last one written; a byte that no chunk wrote is 0. -/
def wholeObject (m : SMap Byte) : List Byte :=
  match m.getLast? with
  | some e => (List.range (e.1 + 1)).map fun i => SMap.get (fun _ => 0) m i
  | none => []

/-- An object stored under its identifier. -/
def State.storeObject (s : State) (oid : Nat) (bs : List Byte) : State :=
  { s with host := { s.host with objects := SMap.insert s.host.objects oid bs } }

/-- The token that moves a RETURNED module to BLANK (R743): a vendor key's signature over the module serial and the nonce issued within
the last 10 min, its key's hash before the signature; the transition is accepted at most twice (R693). -/
def State.tokenOk (s : State) (bs : List Byte) : Bool :=
  match s.host.nonce with
  | none => false
  | some (n, t) =>
    let msg := leBytes 4 (s.rd Reg.SYS_SERIAL_LO).toNat ++ leBytes 4 (s.rd Reg.SYS_SERIAL_HI).toNat ++ leBytes 4 n.toNat
    decide (s.since t ≤ Config.sec 600) && s.lifeCycle == 3 && decide (s.mem.returns < 2) && s.mem.lcTo == none
    && [0, 1].any fun k => Config.ecdsaOk (Config.vendorKey k) (Config.sha384 msg) bs

/-- An image key's hash loaded into its slot (R109). DESIGN CHOICE (log entry 89): the spec gives no form of the object; it is the key's SHA-384 of
48 bytes, and both sides hold one store of them. -/
def State.loadKey (s : State) (n : Nat) (bs : List Byte) : State :=
  let s1 := { s with img := { s.img with keyHash := SMap.insert s.img.keyHash n bs } }
  s1.setF Reg.IMG_KEY_STAT Fld.IMG_KEY_STAT_LOADED (withBit (s1.fld Reg.IMG_KEY_STAT Fld.IMG_KEY_STAT_LOADED) n true)

/-- The entries that a billing object asks for, written in the sender's session (R586); their status is the first refusal's. -/
def billingWrites : List (Nat × Word) → Access → State → Nat → State × Nat
  | [], _, s, st => (s, st)
  | e :: r, acc, s, st =>
    let s1 := s.write acc e.1 e.2
    billingWrites r acc s1 (if st = 0 then s1.wordStatus s e.1 else st)

/-- A whole object applied (R738): the state, and the status. -/
def State.applyObject (s : State) (acc : Access) (oid : Nat) (bs : List Byte) : State × Nat :=
  let k := oidKind oid
  if k = Obj.hostRole then
    match bs with
    | [b] => if b.toNat < 3 then (s.setF Reg.HOST_CFG Fld.HOST_CFG_ROLE b.toNat, 0) else (s, 6)
    | _ => (s, 6)
  else if k = Obj.imageKey then
    if bs.length = 48 ∧ oidInst oid < 4 ∧ (s.fld Reg.IMG_KEY_STAT Fld.IMG_KEY_STAT_REVOKE).testBit (oidInst oid) = false then
      (s.loadKey (oidInst oid) bs, 0)
    else (s, 6)
  else if k = Obj.lifeToken then
    if s.tokenOk bs then ({ s with host := { s.host with nonce := none } }.lcAccept 0, 0) else (s.lcRefuse 0, 6)
  else if k = Obj.provision then
    let s1 := s.provisionCmd acc
    (s1, if s.lifeCycle = 0 ∧ s.mem.lcTo = none then 0 else 6)
  else if k = Obj.scrap then
    if s.lifeCycle = 0 ∧ s.showRest.atRest ∧ s.mem.lcTo = none then (s.lcAccept 4, 0) else (s.lcRefuse 4, 6)
  else if k = Obj.billing then
    if Config.objectOk oid bs then billingWrites (Config.billingEntries oid bs) acc s 0 else (s, 6)
  else if Config.objectOk oid bs then
    let s1 := s.storeObject oid bs
    (if k = Obj.serverCert then s1.setF Reg.MEM_STAT Fld.MEM_STAT_WIPED 0 else s1, 0)
  else (s, 6)

/-- Bytes of the open package at an offset, on every side the transfer reaches (R745). -/
def State.fwPutBytes (s : State) (n ofs : Nat) (bs : List Byte) : State :=
  let room := bs.take (0x500000 - ofs)
  let s1 := s.fwSides.foldl (fun t x => (room.zipIdx).foldl (fun u e => u.setByte (bankKey x n (ofs + e.2)) e.1) t) s
  let len := max (SMap.get (fun _ => 0) s1.host.fwWritten n) (ofs + room.length)
  { s1 with host := { s1.host with fwWritten := SMap.put (fun _ => 0) s1.host.fwWritten n len } }

/-- A chunk of a firmware package (R745): the first one opens the transfer, the last one closes it. -/
def State.fwChunk (s : State) (acc : Access) (oid ofs : Nat) (last : Bool) (bs : List Byte) : State × Nat :=
  let s1 := match s.host.fwXfer with
    | some _ => s
    | none => s.fwOpen acc Reg.HOST_FW_CTRL
  match (if s1.host.fwWait then none else s1.host.fwXfer) with
  | none => (s1, 6)
  | some n =>
    let s2 := s1.fwPutBytes n ofs bs
    let part : ObjPart := ⟨sessionKey acc.path acc.session, []⟩
    if last then
      let s3 := { s2 with host := { s2.host with objPart := SMap.erase s2.host.objPart oid } }.fwClose
      (s3, if s3.host.fwWait || s3.bankState n == 3 then 0 else 6)
    else ({ s2 with host := { s2.host with objPart := SMap.insert s2.host.objPart oid part } }, 0)

/-- A chunk of an object (R738): kept until the chunk with LAST, which applies the object as a whole. -/
def State.objChunk (s : State) (acc : Access) (oid ofs : Nat) (last : Bool) (bs : List Byte) : State × Nat :=
  let me := sessionKey acc.path acc.session
  let part := (s.host.objPart.find? fun e => e.1 == oid).map (·.2)
  let foreign := match part with | some p => p.session != me | none => false
  if foreign then (s, 7)
  else if oidKind oid = Obj.firmware then s.fwChunk acc oid ofs last bs
  else
    let m := putBytes (match part with | some p => p.bytes | none => []) ofs bs
    if last then
      { s with host := { s.host with objPart := SMap.erase s.host.objPart oid } }.applyObject acc oid (wholeObject m)
    else ({ s with host := { s.host with objPart := SMap.insert s.host.objPart oid ⟨me, m⟩ } }, 0)

/-- OBJ_SET (R738, R740, R743): a write without the right is DENIED (R19). -/
def execObjSet (dt : Nat) (conn : Option Nat) (tag oid ofs : Nat) (last : Bool) (data : List Byte) (s : State) : Out :=
  .next ((s.tick dt).withSender conn fun acc s1 =>
    if s1.recovery && oidClass oid != 0x0800 then s1
    else
      let st := s1.objMay acc oid
      if st = 1 then (s1.postArg Ev.DENIED (accArg acc 0)).respond 4 tag 1 []
      else if st ≠ 0 then s1.respond 4 tag st []
      else
        let (s2, r) := s1.objChunk acc oid ofs last data
        s2.respond 4 tag r [])

end Sys2Proof.Machine
end

