-- ==== Sys2Proof/Machine/Pads.lean ====
section
/-! DEFINITION. What the pad groups show in every state of the module (R8, R177, R178, R462 to R466, R710, R722, R723); the PWM pads stand
with the edge engine. -/

namespace Sys2Proof.Machine

open Sys2Proof

/-! ### What decides for every group -/

/-- The Guard die has passed its Guard step; before, pads stand at their reset levels (R722). -/
def State.padsLive (s : State) : Bool := s.sup.phase == 4

/-- NIGHT or DARK (R710). -/
def State.padsNight (s : State) : Bool := decide (3 ≤ s.power)

/-- The image has the pads: its control runs (R723), with an active side and no GUARD_FAULT (R46, R177), and not in NIGHT or DARK. -/
def State.padsOfImage (s : State) : Bool :=
  s.padsLive && !s.padsNight && s.mode == 2 && s.hasActive && !s.keep.orphan && !s.keep.guardFault

/-! ### GPIO pads (R178, R362, R456, R470) -/

/-- The level of a GPIO pad that is at its active level or not. -/
def gpioAt (activeHigh on : Bool) : GpioLevel := if on == activeHigh then .high else .low

/-- What the image drives on GPIO pad k: nothing on an input; a cooling device's demand as a pulse width, its inactive level at a demand of 0
(R456); else the output of its unit. -/
def State.gpioOwn (s : State) (k : Nat) : GpioLevel :=
  let u := s.parN (Par.gpioUse k)
  let act := (u - 1) % 2 == 1
  let unit := (u - 1) / 2
  if u = 0 then .hiZ
  else if unit < 16 then
    let d := s.deviceDemand (2 * (unit % 8) + unit / 8)
    if d = 0 then gpioAt act false else .pwm (s.parN (Par.gpioHz k)) (if act then d else 100 - d)
  else gpioAt act (s.unitWanted unit)

/-- The orphan state of GPIO pad k, from the pad record (R178): with none, high-impedance; a held pad that has driven nothing since the
module reset is high-impedance, as it stood. -/
def State.gpioHeld (s : State) (k : Nat) : GpioLevel :=
  match SMap.get (fun _ => 0) s.img.guardPars (Par.gpioOrphan k) with
  | 1 => .low
  | 2 => .high
  | 3 => SMap.get (fun _ => .hiZ) s.sup.gpio k
  | _ => .hiZ

/-- GPIO pad k (R710, R722, R723). -/
def State.gpioPad (s : State) (k : Nat) : GpioLevel :=
  if !s.padsLive then .hiZ else if s.padsOfImage then s.gpioOwn k else s.gpioHeld k

/-- What the GPIO outputs drive from a boundary on is kept, for a pad that is to hold its last level. -/
def State.gpioNote (s : State) : State :=
  if !s.padsOfImage then s
  else { s with sup := { s.sup with gpio :=
    (((List.range 64).filter fun k => 0 < s.parN (Par.gpioUse k)).map fun k => (k, s.gpioOwn k)).filter fun e => e.2 != .hiZ } }

/-! ### Control pilots (R462 to R466) -/

/-- The connector kind of outlet n as its pads have it: of the running image, else from the pad record. -/
def State.padKind (s : State) (n : Nat) : Nat :=
  if s.mode = 2 then s.oKind n else fget Fld.OUTL_O_CFG_KIND (SMap.get (fun _ => 0) s.img.padCfg (64 + n))

/-- What the Guard die drives on PP_n (R464, R465): high-impedance, the proximity circuit of a combined outlet, which it only reads, and on a
megawatt connector the charger side of IEC 61851-23-3 or its fault level. -/
inductive PpDrive where
  | hiZ | proximity | charger | faultLevel
  deriving DecidableEq, Repr

/-- CP_n (R8, R466, R710, R722, R723): high-impedance on an absent or unused outlet and before the Guard step; idle in NIGHT; the level of
R466 in DARK, from the Guard step to RUN and after GUARD_FAULT; else as the session has it. -/
def State.cpPad (s : State) (n : Nat) : CpDrive :=
  let combined := s.padKind n == 1
  if outletsOf s.variant ≤ n ∨ s.padKind n = 0 ∨ !s.padsLive then .hiZ
  else if s.power = 3 then (if combined then .plus12 else .charger)
  else if s.power = 4 ∨ s.keep.guardFault ∨ s.mode ≠ 2 then (if combined then .minus12 else .faultLevel)
  else s.cpDrive n

/-- PP_n (R8, R464 to R466, R710, R722, R723): high-impedance on an absent or unused outlet and before the Guard step; the proximity circuit of
a combined outlet; on a megawatt outlet as CP_n. -/
def State.ppPad (s : State) (n : Nat) : PpDrive :=
  match s.cpPad n with
  | .hiZ => .hiZ
  | .charger => .charger
  | .faultLevel => .faultLevel
  | _ => .proximity

/-! ### Safety outputs, buses and links -/

/-- The running image leaves a unit of a mask out: it stays in reset, and its pads stay high-impedance (R10). -/
def State.leftOut (s : State) (mask n : Nat) : Bool := s.mode == 2 && !mask.testBit n

/-- Hedgerow drives its pads: the control runs (R122, R124, R723), with no GUARD_FAULT (R46), and not in NIGHT or DARK (R710). -/
def State.stoLive (s : State) : Bool := s.padsLive && !s.padsNight && s.mode == 2 && !s.keep.guardFault

/-- A Hedgerow pad: high-impedance on an absent axis (R8) and on one the image does not use (R10), else energised or not. -/
def State.stoPad (s : State) (x : Side) (a : Nat) : Drive :=
  if axesOf s.variant ≤ a ∨ s.leftOut s.img.use.axes a then .hiZ else if s.stoLive && (s.axis x a).sto then .high else .low

/-- A brake pad, in the same way. -/
def State.brkPad (s : State) (x : Side) (a : Nat) : Drive :=
  if axesOf s.variant ≤ a ∨ s.leftOut s.img.use.axes a then .hiZ else if s.stoLive && (s.axis x a).brk then .high else .low

/-- The clock pads of encoder e of axis e / 2 (R8, R10, R496, R710): a clock output for an SSI encoder, unused and high-impedance for an
incremental one. -/
def State.encClkPad (s : State) (e : Nat) : Drive :=
  if axesOf s.variant ≤ e / 2 ∨ s.leftOut s.img.use.axes (e / 2) ∨ !s.padsLive ∨ s.padsNight ∨ s.mode ≠ 2 ∨ s.keep.guardFault
    ∨ s.par (Par.encKind e) ≠ 1 then .hiZ
  else .low

/-- The condition of a group of bus or link pads: high-impedance, switched off, silent (a CAN pair recessive, a ring port not sending),
asleep, or running. -/
inductive LinkPads where
  | hiZ | off | silent | sleep | run
  deriving DecidableEq, Repr

/-- The bus of controller k is stuck dominant now: the flag stands and its condition has not gone (R632). -/
def State.domStuck (s : State) (k : Nat) : Bool := s.bit (Reg.CAN_WIRE k) 5 && !(s.can.gone.any fun e => e.1 == k * 8 + 5)

/-- CANH_k and CANL_k (R8, R710, R722, R723); the transmitter is released while the bus is stuck dominant (R632). -/
def State.canPads (s : State) (k : Nat) : LinkPads :=
  if cansOf s.variant ≤ k ∨ !s.padsLive ∨ s.leftOut s.img.use.cans k then .hiZ
  else if s.padsNight ∨ s.canMode k = 2 then .sleep
  else if s.padsOfImage ∧ s.canMode k = 1 ∧ !s.domStuck k then .run
  else .silent

/-- The pads of ring port p (R8, R46, R710, R722, R723). -/
def State.ringPads (s : State) (p : Nat) : LinkPads :=
  if portsOf s.variant ≤ p ∨ !s.padsLive ∨ s.leftOut s.img.use.ports p then .hiZ
  else if s.padsNight then .off
  else if s.padsOfImage ∧ s.portUsed p then .run
  else .silent

/-- ETH_0, ETH_1, ETHS and the host link (R46, R710, R722, R723): high-impedance until the sides answer, and not driven under GUARD_FAULT. -/
def State.netPads (s : State) : LinkPads :=
  if !s.padsLive then .hiZ
  else if s.padsNight then .off
  else if s.runningSides.isEmpty ∨ s.keep.guardFault then .hiZ
  else .run

/-- T1S_n of a megawatt outlet and PLS_n of a combined one (R46, R462, R710, R722, R723): kind 1 names PLS_n, kind 2 T1S_n; pads of the other kind
stay high-impedance. -/
def State.vehiclePads (s : State) (kind n : Nat) : LinkPads :=
  if outletsOf s.variant ≤ n ∨ !s.padsLive ∨ s.padsNight ∨ s.padKind n ≠ kind ∨ s.runningSides.isEmpty ∨ s.keep.guardFault then .hiZ else .run

/-- PPS_OUT (R78, R710, R722, R723). -/
def State.ppsPad (s : State) : Drive :=
  if !s.padsLive then .hiZ else if s.padsOfImage && s.ppsHigh then .high else .low

/-- DBG_TDO (R769): high-impedance once the debug port is shut, as in FIELD (R693). -/
def State.tdoHiZ (s : State) : Bool := !s.padsLive || s.fld Reg.MEM_STAT Fld.MEM_STAT_DEBUG_OPEN == 0

/-- The output of load switch n is on (R643). -/
def State.lsPad (s : State) (n : Nat) : Bool := decide (n < 24) && s.lswOnNow n

end Sys2Proof.Machine
end

