-- ==== Sys2Proof/Machine/Boundary.lean ====
section
/-! DEFINITION. The base-cycle boundary (R22 to R37, R59 to R61): what the ended cycle leaves and what the new one starts with. Flips,
allocation ticks, safety cycles and the other rows that act at a boundary follow it as commands of their own. -/

namespace Sys2Proof.Machine

open Sys2Proof

/-- The boundary's phase error against R59 in 250 ps counts: how far the timestamp stands behind the nearest multiple of T_c, of which every
whole second is one. -/
def State.phaseCounts (s : State) : Int :=
  let r := s.tm.ts.toNat % s.tc
  if s.tc < 2 * r then (r : Int) - s.tc else r

/-- The phase error in FCLK periods, to the nearest. -/
def State.phaseErr (s : State) : Int := (2 * s.phaseCounts + Config.fclk) / (2 * Config.fclk)

/-- How much longer the Guard die makes the cycle that begins now than T_c (R59 to R61): while LOCK is 1, and after a timestamp step until the
boundaries are aligned again, as much of the phase error, in whole FCLK periods, as T_c / 1,000 allows, a late boundary by a shorter cycle;
else nothing. The timestamp gains on the monotonic count by the
servo's rate during the cycle, so what is removed is the error expected at the cycle's end. -/
def State.phaseFix (s : State) : Int :=
  if s.fld Reg.TIME_STAT Fld.TIME_STAT_LOCK = 0 ∧ s.tm.realign = false then 0
  else
    let drift := s.tm.rateNow * s.tc / 1000000000000
    let most : Int := (s.tc / 1000 / Config.fclk : Nat)
    clampInt (-most) most (-((2 * (s.phaseCounts + drift) + Config.fclk) / (2 * Config.fclk))) * Config.fclk

/-- TIME_CYCLE.PHASE_ERR and ALIGNED, and TIME_STAT.TAI_UTC, at a boundary (R55, R61). -/
def State.showTime (s : State) : State :=
  let e := clampInt (-32768) 32767 s.phaseErr
  let ok := decide (s.phaseCounts.natAbs ≤ Config.fclk)
  ((s.setFS Reg.TIME_CYCLE Fld.TIME_CYCLE_PHASE_ERR e).setF Reg.TIME_CYCLE Fld.TIME_CYCLE_ALIGNED (flag ok)).showTai

/-- With EVQ_OWNER = SERVICE the service set frees each entry within 10 ms of its posting: those that would be older at the next boundary
(R733). -/
def State.serviceFrees (s : State) : State :=
  if s.fld Reg.HOST_CFG Fld.HOST_CFG_EVQ_OWNER = 0 then s
  else
    let x := s.serving
    let old := fun (e : EvEntry) => decide (Config.msec 10 ≤ s.since e.mono + s.tc)
    s.evFree x ((s.evq x).takeWhile old).length

/-- The transaction messages of the management client for the sessions that started or ended (R741): event code and outlet. -/
def State.csmsEvents (s : State) (es : List EvEntry) : State :=
  es.foldl (fun st e =>
    if e.code = Ev.OUTL_SESSION_START ∨ e.code = Ev.OUTL_SESSION_END then
      st.csmsTell (e.code * 0x1000 + e.arg.toNat / 0x100000)
    else st) s

/-- Plain writes that waited for the boundary take effect (R128); the copy of the cycle carries them (R169). -/
def State.deferredWrites (s : State) : State :=
  let s1 := s.tm.deferred.foldl (fun st d =>
    (st.wr d.addr ((st.rd d.addr &&& ~~~d.mask) ||| (d.value &&& d.mask))).notePersist d.addr d.value) s
  { s1 with tm := { s1.tm with deferred := [] } }

/-- The edge units by which the Guard die moved the boundary that comes now (R60). -/
def State.cycleShift (s : State) : Int := s.tm.cycleFix / Config.fclk * 64

/-- The next base cycle is counted: the first one in RUN is number 0 (R414, TIME_CYCLE_CNT). -/
def State.countCycle (s : State) : State :=
  let s1 := { s with
    tm := { s.tm with cycleStart := s.tm.mono, cycleFix := s.phaseFix, cycleN := if s.mode = 2 ∧ s.tm.inRun = false then 0 else s.tm.cycleN + 1
                      realign := s.tm.realign && !decide (s.phaseCounts.natAbs ≤ Config.fclk), inRun := decide (s.mode = 2) }
    keep := { s.keep with epochDone := [] } }
  if s.mode ≠ 2 then s1
  else if s.tm.inRun then s1.wr Reg.TIME_CYCLE_CNT (s.rd Reg.TIME_CYCLE_CNT + 1)
  else
    let s2 := s1.wr Reg.TIME_CYCLE_CNT 0
    let s3 := s2.usedOutlets.foldl (fun st n => st.setCol n { st.col n with inited := false }) s2
    { s3 with sst := { s3.sst with replan := [], foCycle := none }, safe := { s3.safe with flipCycle := none } }.alocEntry

/-- Corrections of ring time are slewed, at most eight units a cycle (R296). -/
def State.ringSlew (s : State) : State :=
  { s with ring := { s.ring with eps := s.ring.eps.map fun e => (e.1, e.2.slewStep) } }

/-- What the sides and the Guard die do in the new cycle. -/
def State.cycleWork (s : State) (inp : BoundaryIn) (shift : Int) : State :=
  let s1 := s.keepBoundary inp
  let s2 := (s1.tilesBoundary.edgeBoundary shift).ringSync.schedRefresh.measMissed.ringSlew
  let s3 := ((s2.outsBoundary (if s2.sstUsed then some inp.sst.vBus else none) inp.outs inp.pairMeas).sstBoundary inp.sst).coolBoundary
  let s4 := (s3.outlBoundary inp.gpio).acqBoundary.canBoundary
  (((s4.lswBoundary inp.lsw).pwrBoundary inp.power).ethCycle inp.ethSent).gpioNote.reportsTaken

/-- The length of the running base cycle, as the Guard die set it at its start (R60). -/
def State.cycleLen (s : State) : Nat := (s.tc + s.tm.cycleFix).toNat

/-- A boundary falls now: the module is out of its start ladder's Guard step and in RUN, TRIM or WATCH, and the running cycle has lasted its
length, to the FCLK period (R59, R60). Boundaries that no command brought are passed over, T_c each (log entry 53). -/
def State.boundaryDue (s : State) : Bool :=
  let t := s.since s.tm.cycleStart
  s.sup.phase == 4 && s.running && decide (s.cycleLen ≤ t) && decide ((t - s.cycleLen) % s.tc < Config.fclk)

/-- What the boundary leaves undone is done now: the transactions that are due flip or roll back (R143, R151) where they have not, the
units start the new cycle, the Keeper copy among them (R166), and the lines and AT_REST stand as they are then. -/
def State.boundaryRest (s : State) : State :=
  match s.owed with
  | none => s
  | some o =>
    let s1 := { if o.flipped then s else s.txnBoundary with owed := none }
    let s2 := s1.cycleWork o.inp o.shift
    let s3 := if s2.fld Reg.HOST_CFG Fld.HOST_CFG_HOST_EN = 0 ∧ s2.fld Reg.HOST_STAT Fld.HOST_STAT_SESSION = 1 then s2.closeHost else s2
    s3.showRest.irqShow

/-- The boundary goes on as far as the order of R35 lets it (R36): a safety cycle of this boundary comes before the commit, an allocation tick
after it and before everything else. DESIGN CHOICE (log entry 84): each of the three is a command of its own, and what waits for one that never
comes is done at the next boundary. -/
def State.boundaryOn (s : State) : State :=
  match s.owed with
  | none => s
  | some o =>
    if s.safetyDue then s
    else
      let s1 := if o.flipped then s else { s.txnBoundary with owed := some { o with flipped := true } }
      if s1.tickDue then s1 else s1.boundaryRest

/-- The base-cycle boundary: the events of the ended cycle enter the queues (R37), waiting writes take effect (R128), and the new cycle begins;
the commit and the units follow in the order of R35. -/
def State.boundary (s : State) (inp : BoundaryIn) : State :=
  let s0 := s.boundaryRest
  let es := s0.ev.posted
  let s1 := (((s0.memTurns inp.mem).cycleEnds.flushEvents.serviceFrees).csmsEvents es).countCycle.showTime.deferredWrites
  { s1 with owed := some ⟨inp, s0.cycleShift, false⟩ }.boundaryOn

/-- BASE_CYCLE_BOUNDARY (R22, R24, R36, R37, R128). -/
def execBaseCycleBoundary (dt : Nat) (inp : BoundaryIn) (s : State) : Out :=
  let s1 := s.tick dt
  .next (if s1.boundaryDue then s1.boundary inp else s1)

/-- SAFETY_CYCLE (R488): at the first base-cycle boundary at or after a whole millisecond of the monotonic count. The boundary's transactions
and the rest of it follow (R35, R36). -/
def execSafetyCycle (dt : Nat) (a b : ChanIn) (s : State) : Out :=
  let s1 := s.tick dt
  let ms := s1.tm.cycleStart.toNat / Config.msec 1
  if s1.atCycleStart ∧ s1.safe.nextMs ≤ ms then
    .next ({ s1 with safe := { s1.safe with nextMs := ms + 1 } }.safetyCycle a b).showRest.boundaryOn
  else .next s1

/-- ALLOCATION_TICK (R414): at a boundary on which a tick falls, after the boundary's safety cycle and its transactions; everything else of the
boundary follows (R35, R36). The command carries the tick's duration in 10 ns. -/
def execAllocationTick (dt : Nat) (dur : Nat) (s : State) : Out :=
  let s1 := s.tick dt
  if s1.atCycleStart ∧ !s1.safetyDue ∧ s1.tickDue then .next (s1.allocTick dur).boundaryOn
  else .next s1

end Sys2Proof.Machine
end

