-- ==== Sys2Proof/Machine/Mac.lean ====
section
/-! DEFINITION. The multiply-accumulate operations of a loop tile and their residue check (R202, R203, R207, R214). -/

namespace Sys2Proof.Machine

open Sys2Proof

/-- An operation on the multiply-accumulate unit; where the residue check of a product or sum fails, the side sets HEALTH.RESIDUE and its
fault line acts (R162, R164, R207). -/
def State.checked (s : State) (x : Side) (n : Nat) (bad : Bool) (f : State → Tile → Tile) : State :=
  if bad && s.tileRuns x n then ((s.tileOp x n f).residueFault x n).faultFlag x 1 else s.tileOp x n f

/-- A multiply-accumulate step on accumulator a: floor(c × X / 2^s) added or subtracted. -/
def State.macStep (s : State) (x : Side) (n a k : Nat) (src : Opnd) (sign : Int) (clear bad : Bool) : State :=
  s.checked x n bad fun st t =>
    let term := macTerm (st.loopParam n k).toInt (st.loopShift n k) (st.opnd n t src).toInt
    t.setAcc a ((if clear then 0 else t.accOf a) + sign * term)

/-- MAC (R202): adds floor(c × X / 2^s); c and s are parameter word k of the loop and its shift. -/
def execTileMac (dt : Nat) (x : Side) (n a k : Nat) (src : Opnd) (bad : Bool) (s : State) : Out :=
  .next ((s.tick dt).macStep x n a k src 1 false bad)

/-- MSU (R202): subtracts floor(c × X / 2^s). -/
def execTileMsu (dt : Nat) (x : Side) (n a k : Nat) (src : Opnd) (bad : Bool) (s : State) : Out :=
  .next ((s.tick dt).macStep x n a k src (-1) false bad)

/-- MACZ (R202): clears the accumulator and adds floor(c × X / 2^s). -/
def execTileMacz (dt : Nat) (x : Side) (n a k : Nat) (src : Opnd) (bad : Bool) (s : State) : Out :=
  .next ((s.tick dt).macStep x n a k src 1 true bad)

/-- BIQ (R214): one second-order section at q = 30 over parameter words k to k + 4 (b0, b1, b2, a1, a2); d to d + 3 hold
x[n−1], x[n−2], y[n−1] and y[n−2]. -/
def execTileBiq (dt : Nat) (x : Side) (n k : Nat) (inp : BiqIn) (d dst : Nat) (s : State) : Out :=
  .next ((s.tick dt).checked x n inp.bad fun st t =>
    let x0 := st.opnd n t inp.src
    let g := fun i => t.word (st.free + 1) (d + i)
    let m := fun i (w : Word) => macTerm (st.loopParam n (k + i)).toInt (st.loopShift n (k + i)) w.toInt
    let sum := m 0 x0 + m 1 (g 0) + m 2 (g 1) - m 3 (g 2) - m 4 (g 3)
    let y := extract (satAcc sum).1 30
    let t1 := (t.result dst y false)
    let yw := toWord (sat32 y).1
    (((t1.set (d + 1) (g 0)).set d x0).set (d + 3) (g 2)).set (d + 2) yw)

end Sys2Proof.Machine
end

