-- ==== Sys2Proof/Machine/Dispatch.lean ====
section
/-! DEFINITION. The dispatcher: each command to its meaning. -/

namespace Sys2Proof.Machine

open Sys2Proof

/-- The effect of a command on everything but the queue: one call of its meaning. -/
def exec (i : Instr) (s : State) : Host.Outcome State Fault Refusal :=
  match i with
  | .registerWrite dt acc addr val => Sys2Proof.Machine.execRegisterWrite dt acc addr val s
  | .tunableWrite dt acc addr val => Sys2Proof.Machine.execTunableWrite dt acc addr val s
  | .stagingWrite dt acc addr val => Sys2Proof.Machine.execStagingWrite dt acc addr val s
  | .absentAccess dt acc addr wr => Sys2Proof.Machine.execAbsentAccess dt acc addr wr s
  | .reservedAccess dt acc addr wr => Sys2Proof.Machine.execReservedAccess dt acc addr wr s
  | .outOfMapAccess dt acc addr wr => Sys2Proof.Machine.execOutOfMapAccess dt acc addr wr s
  | .hostBadAccess dt addr byteEnables wr => Sys2Proof.Machine.execHostBadAccess dt addr byteEnables wr s
  | .baseCycleBoundary dt inp => Sys2Proof.Machine.execBaseCycleBoundary dt inp s
  | .fastSenseSample dt ch code => Sys2Proof.Machine.execFastSenseSample dt ch code s
  | .queueStallTimeout dt side queue => Sys2Proof.Machine.execQueueStallTimeout dt side queue s
  | .dramTagGrant dt side done asks => Sys2Proof.Machine.execDramTagGrant dt side done asks s
  | .ptpMessage dt port domain announce exchange => Sys2Proof.Machine.execPtpMessage dt port domain announce exchange s
  | .ptpAnnounceTimeout dt port => Sys2Proof.Machine.execPtpAnnounceTimeout dt port s
  | .ptpTmoExpiry dt => Sys2Proof.Machine.execPtpTmoExpiry dt s
  | .ppsInEdge dt => Sys2Proof.Machine.execPpsInEdge dt s
  | .ppsInMissing dt => Sys2Proof.Machine.execPpsInMissing dt s
  | .ntpResponse dt offset => Sys2Proof.Machine.execNtpResponse dt offset s
  | .timeCorrection dt delta => Sys2Proof.Machine.execTimeCorrection dt delta s
  | .timeStepApply dt => Sys2Proof.Machine.execTimeStepApply dt s
  | .timeSetHi dt acc val => Sys2Proof.Machine.execTimeSetHi dt acc val s
  | .rtcTrim dt => Sys2Proof.Machine.execRtcTrim dt s
  | .ppsOutPulse dt => Sys2Proof.Machine.execPpsOutPulse dt s
  | .timeLine dt => Sys2Proof.Machine.execTimeLine dt s
  | .timeLineTimeout dt => Sys2Proof.Machine.execTimeLineTimeout dt s
  | .timeQueueSel dt acc val => Sys2Proof.Machine.execTimeQueueSel dt acc val s
  | .timeQueueClr dt acc val => Sys2Proof.Machine.execTimeQueueClr dt acc val s
  | .imgOpen dt acc => Sys2Proof.Machine.execImgOpen dt acc s
  | .imgClose dt acc => Sys2Proof.Machine.execImgClose dt acc s
  | .imgCancel dt acc => Sys2Proof.Machine.execImgCancel dt acc s
  | .imgDataWrite dt acc addr val => Sys2Proof.Machine.execImgDataWrite dt acc addr val s
  | .slotPrecheckDone dt => Sys2Proof.Machine.execSlotPrecheckDone dt s
  | .imgActivate dt acc val => Sys2Proof.Machine.execImgActivate dt acc val s
  | .activationDone dt => Sys2Proof.Machine.execActivationDone dt s
  | .imgConfirm dt acc val => Sys2Proof.Machine.execImgConfirm dt acc val s
  | .bootWindowExpiry dt => Sys2Proof.Machine.execBootWindowExpiry dt s
  | .revertStart dt => Sys2Proof.Machine.execRevertStart dt s
  | .imgRevoke dt acc val => Sys2Proof.Machine.execImgRevoke dt acc val s
  | .imgMinVerWrite dt acc val => Sys2Proof.Machine.execImgMinVerWrite dt acc val s
  | .imageLoad dt => Sys2Proof.Machine.execImageLoad dt s
  | .tuningStoreWrite dt => Sys2Proof.Machine.execTuningStoreWrite dt s
  | .txnBegin dt acc n => Sys2Proof.Machine.execTxnBegin dt acc n s
  | .txnCommit dt acc n => Sys2Proof.Machine.execTxnCommit dt acc n s
  | .txnCommitTrial dt acc n => Sys2Proof.Machine.execTxnCommitTrial dt acc n s
  | .txnAbort dt acc n => Sys2Proof.Machine.execTxnAbort dt acc n s
  | .txnConfirm dt acc n => Sys2Proof.Machine.execTxnConfirm dt acc n s
  | .txnValidationDone dt n => Sys2Proof.Machine.execTxnValidationDone dt n s
  | .txnFlip dt => Sys2Proof.Machine.execTxnFlip dt s
  | .txnConfirmEffect dt n => Sys2Proof.Machine.execTxnConfirmEffect dt n s
  | .txnIdleTimeout dt n => Sys2Proof.Machine.execTxnIdleTimeout dt n s
  | .txnTrialTimeout dt n => Sys2Proof.Machine.execTxnTrialTimeout dt n s
  | .txnRollback dt n => Sys2Proof.Machine.execTxnRollback dt n s
  | .imgTxnTrialWrite dt acc n val => Sys2Proof.Machine.execImgTxnTrialWrite dt acc n val s
  | .beaconDeadline dt a b => Sys2Proof.Machine.execBeaconDeadline dt a b s
  | .faultLineAsserted dt side rst => Sys2Proof.Machine.execFaultLineAsserted dt side rst s
  | .keeperLaneFault dt back lane errors => Sys2Proof.Machine.execKeeperLaneFault dt back lane errors s
  | .sideBootDone dt a b => Sys2Proof.Machine.execSideBootDone dt a b s
  | .bulkConverged dt side => Sys2Proof.Machine.execBulkConverged dt side s
  | .bulkTimeout dt side => Sys2Proof.Machine.execBulkTimeout dt side s
  | .shadowComplete dt side => Sys2Proof.Machine.execShadowComplete dt side s
  | .sideReadmit dt side => Sys2Proof.Machine.execSideReadmit dt side s
  | .sideResetRelease dt side => Sys2Proof.Machine.execSideResetRelease dt side s
  | .keepSwitch dt acc val => Sys2Proof.Machine.execKeepSwitch dt acc val s
  | .switchover dt => Sys2Proof.Machine.execSwitchover dt s
  | .keepTakeOut dt acc val => Sys2Proof.Machine.execKeepTakeOut dt acc val s
  | .keepResyncA dt acc val => Sys2Proof.Machine.execKeepResyncA dt acc val s
  | .keepResyncB dt acc val => Sys2Proof.Machine.execKeepResyncB dt acc val s
  | .keepClr dt acc val => Sys2Proof.Machine.execKeepClr dt acc val s
  | .tileIn dt x n src dst => Sys2Proof.Machine.execTileIn dt x n src dst s
  | .tileWaitMiss dt x n src dst => Sys2Proof.Machine.execTileWaitMiss dt x n src dst s
  | .tileMac dt x n a k src bad => Sys2Proof.Machine.execTileMac dt x n a k src bad s
  | .tileMsu dt x n a k src bad => Sys2Proof.Machine.execTileMsu dt x n a k src bad s
  | .tileMacz dt x n a k src bad => Sys2Proof.Machine.execTileMacz dt x n a k src bad s
  | .tileStore dt x n a q dst feeds => Sys2Proof.Machine.execTileStore dt x n a q dst feeds s
  | .tileAdd dt x n a b dst => Sys2Proof.Machine.execTileAdd dt x n a b dst s
  | .tileSub dt x n a b dst => Sys2Proof.Machine.execTileSub dt x n a b dst s
  | .tileNeg dt x n a dst => Sys2Proof.Machine.execTileNeg dt x n a dst s
  | .tileAbs dt x n a dst => Sys2Proof.Machine.execTileAbs dt x n a dst s
  | .tileMin dt x n a b dst => Sys2Proof.Machine.execTileMin dt x n a b dst s
  | .tileMax dt x n a b dst => Sys2Proof.Machine.execTileMax dt x n a b dst s
  | .tileScale dt x n a sh dst => Sys2Proof.Machine.execTileScale dt x n a sh dst s
  | .tileLim dt x n a lo hi dst feeds => Sys2Proof.Machine.execTileLim dt x n a lo hi dst feeds s
  | .tileCmp dt x n r a b c => Sys2Proof.Machine.execTileCmp dt x n r a b c s
  | .tileSel dt x n c a b dst => Sys2Proof.Machine.execTileSel dt x n c a b dst s
  | .tileInteg dt x n a j q lo hi feeds => Sys2Proof.Machine.execTileInteg dt x n a j q lo hi feeds s
  | .tileBiq dt x n k inp d dst => Sys2Proof.Machine.execTileBiq dt x n k inp d dst s
  | .tileSincos dt x n a ds dc => Sys2Proof.Machine.execTileSincos dt x n a ds dc s
  | .tileLut dt x n table a dst => Sys2Proof.Machine.execTileLut dt x n table a dst s
  | .tileDiv dt x n a b f dst => Sys2Proof.Machine.execTileDiv dt x n a b f dst s
  | .tileSqrt dt x n a dst => Sys2Proof.Machine.execTileSqrt dt x n a dst s
  | .tileStamp dt x n dst => Sys2Proof.Machine.execTileStamp dt x n dst s
  | .tileXput dt x n w src => Sys2Proof.Machine.execTileXput dt x n w src s
  | .tileXget dt x n w dst => Sys2Proof.Machine.execTileXget dt x n w dst s
  | .tileChainPut dt x n c src => Sys2Proof.Machine.execTileChainPut dt x n c src s
  | .tileChainGet dt x n c dst => Sys2Proof.Machine.execTileChainGet dt x n c dst s
  | .tilePost dt x n ch src named => Sys2Proof.Machine.execTilePost dt x n ch src named s
  | .tilePub dt x n slot src => Sys2Proof.Machine.execTilePub dt x n slot src s
  | .tileRep dt x n len count => Sys2Proof.Machine.execTileRep dt x n len count s
  | .tileBr dt x n c target => Sys2Proof.Machine.execTileBr dt x n c target s
  | .tileEnd dt x n => Sys2Proof.Machine.execTileEnd dt x n s
  | .loopPreset dt acc n val => Sys2Proof.Machine.execLoopPreset dt acc n val s
  | .loopClr dt acc val => Sys2Proof.Machine.execLoopClr dt acc val s
  | .carrierPeriodStart dt x n => Sys2Proof.Machine.execCarrierPeriodStart dt x n s
  | .edgeUpdatePoint dt x n mid => Sys2Proof.Machine.execEdgeUpdatePoint dt x n mid s
  | .swnTransition dt n fall meas => Sys2Proof.Machine.execSwnTransition dt n fall meas s
  | .swnMiss dt n fall => Sys2Proof.Machine.execSwnMiss dt n fall s
  | .swnFault dt n opposite onFor => Sys2Proof.Machine.execSwnFault dt n opposite onFor s
  | .dlineCalibrationDone dt n b taps monotonic => Sys2Proof.Machine.execDlineCalibrationDone dt n b taps monotonic s
  | .dlineExchange dt n b => Sys2Proof.Machine.execDlineExchange dt n b s
  | .pwmPadShort dt n b differs => Sys2Proof.Machine.execPwmPadShort dt n b differs s
  | .edgeClr dt acc val => Sys2Proof.Machine.execEdgeClr dt acc val s
  | .tripPadActive dt k level held => Sys2Proof.Machine.execTripPadActive dt k level held s
  | .windowComparatorTrip dt ch code => Sys2Proof.Machine.execWindowComparatorTrip dt ch code s
  | .qsetForce dt acc val => Sys2Proof.Machine.execQsetForce dt acc val s
  | .qsetClr dt acc k val => Sys2Proof.Machine.execQsetClr dt acc k val s
  | .tripSetRepeat dt => Sys2Proof.Machine.execTripSetRepeat dt s
  | .tripClearRepeat dt => Sys2Proof.Machine.execTripClearRepeat dt s
  | .ringLockAcquired dt port e d headers => Sys2Proof.Machine.execRingLockAcquired dt port e d headers s
  | .ringLockLost dt port e d invalid quiet => Sys2Proof.Machine.execRingLockLost dt port e d invalid quiet s
  | .epInterfaceDown dt e => Sys2Proof.Machine.execEpInterfaceDown dt e s
  | .epThroughRestore dt e => Sys2Proof.Machine.execEpThroughRestore dt e s
  | .ringUpdatePoint dt x ch => Sys2Proof.Machine.execRingUpdatePoint dt x ch s
  | .sched dt e viaD f => Sys2Proof.Machine.execSched dt e viaD f s
  | .epApplyEntry dt e leg => Sys2Proof.Machine.execEpApplyEntry dt e leg s
  | .sync dt e viaD f => Sys2Proof.Machine.execSync dt e viaD f s
  | .delay dt e viaD f stamp turned => Sys2Proof.Machine.execDelay dt e viaD f stamp turned s
  | .delayRun dt results => Sys2Proof.Machine.execDelayRun dt results s
  | .delayRpt dt port f => Sys2Proof.Machine.execDelayRpt dt port f s
  | .setdly dt e viaD f => Sys2Proof.Machine.execSetdly dt e viaD f s
  | .enum dt e viaD f => Sys2Proof.Machine.execEnum dt e viaD f s
  | .enumPeriodic dt => Sys2Proof.Machine.execEnumPeriodic dt s
  | .config dt e viaD f => Sys2Proof.Machine.execConfig dt e viaD f s
  | .resume dt e viaD f => Sys2Proof.Machine.execResume dt e viaD f s
  | .identReq dt e viaD f => Sys2Proof.Machine.execIdentReq dt e viaD f s
  | .ident dt port f => Sys2Proof.Machine.execIdent dt port f s
  | .takeover dt e viaD f => Sys2Proof.Machine.execTakeover dt e viaD f s
  | .meas dt port f => Sys2Proof.Machine.execMeas dt port f s
  | .tripBlock dt e b => Sys2Proof.Machine.execTripBlock dt e b s
  | .portTripBlockRx dt port b => Sys2Proof.Machine.execPortTripBlockRx dt port b s
  | .epLocalFault dt e active => Sys2Proof.Machine.execEpLocalFault dt e active s
  | .epSafeTimeout dt e => Sys2Proof.Machine.execEpSafeTimeout dt e s
  | .epNoLinkTimeout dt e => Sys2Proof.Machine.execEpNoLinkTimeout dt e s
  | .ringBringUp dt => Sys2Proof.Machine.execRingBringUp dt s
  | .rescan dt acc val => Sys2Proof.Machine.execRescan dt acc val s
  | .delayNow dt acc val => Sys2Proof.Machine.execDelayNow dt acc val s
  | .ringCmdResumeEp dt acc val => Sys2Proof.Machine.execRingCmdResumeEp dt acc val s
  | .ringCmdResumeAll dt acc val => Sys2Proof.Machine.execRingCmdResumeAll dt acc val s
  | .ringClr dt acc val => Sys2Proof.Machine.execRingClr dt acc val s
  | .rtFTmoExpiry dt => Sys2Proof.Machine.execRtFTmoExpiry dt s
  | .pllUnlockOut dt => Sys2Proof.Machine.execPllUnlockOut dt s
  | .energise dt acc val => Sys2Proof.Machine.execEnergise dt acc val s
  | .deenergise dt acc val => Sys2Proof.Machine.execDeenergise dt acc val s
  | .sstAckLockout dt acc val => Sys2Proof.Machine.execSstAckLockout dt acc val s
  | .breakerReport dt mainClosed preClosed => Sys2Proof.Machine.execBreakerReport dt mainClosed preClosed s
  | .sstLadderTimeout dt => Sys2Proof.Machine.execSstLadderTimeout dt s
  | .sstRestartDelay dt => Sys2Proof.Machine.execSstRestartDelay dt s
  | .bypass dt acc c val => Sys2Proof.Machine.execBypass dt acc c val s
  | .restore dt acc c val => Sys2Proof.Machine.execRestore dt acc c val s
  | .carrierReplan dt => Sys2Proof.Machine.execCarrierReplan dt s
  | .bypassTimeout dt c => Sys2Proof.Machine.execBypassTimeout dt c s
  | .sstClr dt acc val => Sys2Proof.Machine.execSstClr dt acc val s
  | .outsStop dt acc n val => Sys2Proof.Machine.execOutsStop dt acc n val s
  | .outsAckLockout dt acc n val => Sys2Proof.Machine.execOutsAckLockout dt acc n val s
  | .phaseRestore dt acc m val => Sys2Proof.Machine.execPhaseRestore dt acc m val s
  | .trackingFault dt n => Sys2Proof.Machine.execTrackingFault dt n s
  | .retryWaitExpiry dt n => Sys2Proof.Machine.execRetryWaitExpiry dt n s
  | .shedDlyExpiry dt n => Sys2Proof.Machine.execShedDlyExpiry dt n s
  | .imbalanceTrip dt m => Sys2Proof.Machine.execImbalanceTrip dt m s
  | .stageStopTimeout dt n => Sys2Proof.Machine.execStageStopTimeout dt n s
  | .outsClr dt acc val => Sys2Proof.Machine.execOutsClr dt acc val s
  | .allocationTick dt dur => Sys2Proof.Machine.execAllocationTick dt dur s
  | .metrologyStale dt => Sys2Proof.Machine.execMetrologyStale dt s
  | .alocClr dt acc val => Sys2Proof.Machine.execAlocClr dt acc val s
  | .thConversion dt n milliOhm => Sys2Proof.Machine.execThConversion dt n milliOhm s
  | .thValidRestore dt n => Sys2Proof.Machine.execThValidRestore dt n s
  | .flowUpdate dt src value good => Sys2Proof.Machine.execFlowUpdate dt src value good s
  | .coolCableTrip dt n => Sys2Proof.Machine.execCoolCableTrip dt n s
  | .flowLossTimeout dt n => Sys2Proof.Machine.execFlowLossTimeout dt n s
  | .leakDetected dt pad active held => Sys2Proof.Machine.execLeakDetected dt pad active held s
  | .flowLowTimeout dt n => Sys2Proof.Machine.execFlowLowTimeout dt n s
  | .coolRestoreTimer dt n => Sys2Proof.Machine.execCoolRestoreTimer dt n s
  | .runOnExpiry dt n => Sys2Proof.Machine.execRunOnExpiry dt n s
  | .coolAck dt acc n val => Sys2Proof.Machine.execCoolAck dt acc n val s
  | .coolClr dt acc val => Sys2Proof.Machine.execCoolClr dt acc val s
  | .thermClr dt acc val => Sys2Proof.Machine.execThermClr dt acc val s
  | .sigChange dt n a b => Sys2Proof.Machine.execSigChange dt n a b s
  | .ppChange dt n pp => Sys2Proof.Machine.execPpChange dt n pp s
  | .vehicleLinkUp dt n offered tls => Sys2Proof.Machine.execVehicleLinkUp dt n offered tls s
  | .vehicleMessage dt n msg => Sys2Proof.Machine.execVehicleMessage dt n msg s
  | .linkTimeout dt n => Sys2Proof.Machine.execLinkTimeout dt n s
  | .protocolTimeout dt n => Sys2Proof.Machine.execProtocolTimeout dt n s
  | .contactorFeedback dt pad closed => Sys2Proof.Machine.execContactorFeedback dt pad closed s
  | .contactorTimeout dt n => Sys2Proof.Machine.execContactorTimeout dt n s
  | .precheckWindow dt n => Sys2Proof.Machine.execPrecheckWindow dt n s
  | .cableCheckSettled dt n => Sys2Proof.Machine.execCableCheckSettled dt n s
  | .cableCheckTimeout dt n => Sys2Proof.Machine.execCableCheckTimeout dt n s
  | .isolationLoss dt n => Sys2Proof.Machine.execIsolationLoss dt n s
  | .imdWarnActive dt pad => Sys2Proof.Machine.execImdWarnActive dt pad s
  | .weldCheckTimeout dt n => Sys2Proof.Machine.execWeldCheckTimeout dt n s
  | .emergencyOpenTimeout dt n => Sys2Proof.Machine.execEmergencyOpenTimeout dt n s
  | .outlStop dt acc n val => Sys2Proof.Machine.execOutlStop dt acc n val s
  | .outlDisable dt acc n val => Sys2Proof.Machine.execOutlDisable dt acc n val s
  | .outlEnable dt acc n val => Sys2Proof.Machine.execOutlEnable dt acc n val s
  | .outlAckFault dt acc n val => Sys2Proof.Machine.execOutlAckFault dt acc n val s
  | .outlClr dt acc val => Sys2Proof.Machine.execOutlClr dt acc val s
  | .safetyCycle dt a b => Sys2Proof.Machine.execSafetyCycle dt a b s
  | .estopInput dt input level => Sys2Proof.Machine.execEstopInput dt input level s
  | .estopDiscTimeout dt => Sys2Proof.Machine.execEstopDiscTimeout dt s
  | .resetPadPulse dt pad width => Sys2Proof.Machine.execResetPadPulse dt pad width s
  | .axisReset dt acc a val => Sys2Proof.Machine.execAxisReset dt acc a val s
  | .resetFault dt acc val => Sys2Proof.Machine.execResetFault dt acc val s
  | .reopen dt acc val => Sys2Proof.Machine.execReopen dt acc val s
  | .safeConfirm dt acc val => Sys2Proof.Machine.execSafeConfirm dt acc val s
  | .safeFbAck dt acc val => Sys2Proof.Machine.execSafeFbAck dt acc val s
  | .fbDiscrepancy dt pole => Sys2Proof.Machine.execFbDiscrepancy dt pole s
  | .outputReadbackFault dt pad held => Sys2Proof.Machine.execOutputReadbackFault dt pad held s
  | .stoHoldExpiry dt side a => Sys2Proof.Machine.execStoHoldExpiry dt side a s
  | .ss1Timeout dt a => Sys2Proof.Machine.execSs1Timeout dt a s
  | .safetyFrameRx dt k bytes => Sys2Proof.Machine.execSafetyFrameRx dt k bytes s
  | .safetyFrameTx dt k => Sys2Proof.Machine.execSafetyFrameTx dt k s
  | .connWatchdog dt k => Sys2Proof.Machine.execConnWatchdog dt k s
  | .safeClr dt acc val => Sys2Proof.Machine.execSafeClr dt acc val s
  | .metrologyResult dt => Sys2Proof.Machine.execMetrologyResult dt s
  | .sampleInstant dt codes => Sys2Proof.Machine.execSampleInstant dt codes s
  | .biasTest dt moved => Sys2Proof.Machine.execBiasTest dt moved s
  | .remoteChannelOpen dt n moving held => Sys2Proof.Machine.execRemoteChannelOpen dt n moving held s
  | .gridCycle dt freq => Sys2Proof.Machine.execGridCycle dt freq s
  | .channelStats dt => Sys2Proof.Machine.execChannelStats dt s
  | .harmonicWindow dt res => Sys2Proof.Machine.execHarmonicWindow dt res s
  | .tempTableUpdate dt src temp => Sys2Proof.Machine.execTempTableUpdate dt src temp s
  | .polarityDetect dt c => Sys2Proof.Machine.execPolarityDetect dt c s
  | .sealWord dt back => Sys2Proof.Machine.execSealWord dt back s
  | .workingMapReceived dt => Sys2Proof.Machine.execWorkingMapReceived dt s
  | .rwsApply dt => Sys2Proof.Machine.execRwsApply dt s
  | .resultRecord dt => Sys2Proof.Machine.execResultRecord dt s
  | .metrClr dt acc val => Sys2Proof.Machine.execMetrClr dt acc val s
  | .demandIntervalEnd dt => Sys2Proof.Machine.execDemandIntervalEnd dt s
  | .tariffSwitch dt => Sys2Proof.Machine.execTariffSwitch dt s
  | .billingPeriodClose dt => Sys2Proof.Machine.execBillingPeriodClose dt s
  | .sessionAccumOpen dt => Sys2Proof.Machine.execSessionAccumOpen dt s
  | .sessionAccumClose dt => Sys2Proof.Machine.execSessionAccumClose dt s
  | .sessionSigned dt => Sys2Proof.Machine.execSessionSigned dt s
  | .registerSave dt => Sys2Proof.Machine.execRegisterSave dt s
  | .dieTimeStep dt => Sys2Proof.Machine.execDieTimeStep dt s
  | .metrPowerFail dt flushed => Sys2Proof.Machine.execMetrPowerFail dt flushed s
  | .metrDieStart dt holdupOk => Sys2Proof.Machine.execMetrDieStart dt holdupOk s
  | .dieWatchdogReset dt => Sys2Proof.Machine.execDieWatchdogReset dt s
  | .tampChange dt k active => Sys2Proof.Machine.execTampChange dt k active s
  | .billReset dt acc val => Sys2Proof.Machine.execBillReset dt acc val s
  | .billSettingsApply dt => Sys2Proof.Machine.execBillSettingsApply dt s
  | .displayFrame dt n => Sys2Proof.Machine.execDisplayFrame dt n s
  | .displayButton dt n held => Sys2Proof.Machine.execDisplayButton dt n held s
  | .displayTimeout dt n => Sys2Proof.Machine.execDisplayTimeout dt n s
  | .billRecRequest dt acc val => Sys2Proof.Machine.execBillRecRequest dt acc val s
  | .billRecReady dt p => Sys2Proof.Machine.execBillRecReady dt p s
  | .acqArm dt acc addr val => Sys2Proof.Machine.execAcqArm dt acc addr val s
  | .acqStop dt acc n val => Sys2Proof.Machine.execAcqStop dt acc n val s
  | .acqTrig dt acc addr val => Sys2Proof.Machine.execAcqTrig dt acc addr val s
  | .clearStore dt acc n val => Sys2Proof.Machine.execClearStore dt acc n val s
  | .acqSample dt n digital edges takenA takenB => Sys2Proof.Machine.execAcqSample dt n digital edges takenA takenB s
  | .acqTimeTrigger dt n => Sys2Proof.Machine.execAcqTimeTrigger dt n s
  | .acqSeqTimeout dt n => Sys2Proof.Machine.execAcqSeqTimeout dt n s
  | .acqHoldoffExpiry dt n => Sys2Proof.Machine.execAcqHoldoffExpiry dt n s
  | .acqRecordRequest dt acc val => Sys2Proof.Machine.execAcqRecordRequest dt acc val s
  | .acqRecordReady dt p => Sys2Proof.Machine.execAcqRecordReady dt p s
  | .acqClr dt acc val => Sys2Proof.Machine.execAcqClr dt acc val s
  | .canPortSend dt acc k p val => Sys2Proof.Machine.execCanPortSend dt acc k p val s
  | .canPeriodicTick dt k p => Sys2Proof.Machine.execCanPeriodicTick dt k p s
  | .canFrameSent dt k msg sof => Sys2Proof.Machine.execCanFrameSent dt k msg sof s
  | .canFrameReceived dt k msg remote sof => Sys2Proof.Machine.execCanFrameReceived dt k msg remote sof s
  | .canBusError dt k err tecUp recUp sending => Sys2Proof.Machine.execCanBusError dt k err tecUp recUp sending s
  | .canRecoveryDone dt k => Sys2Proof.Machine.execCanRecoveryDone dt k s
  | .canRxSel dt acc k val => Sys2Proof.Machine.execCanRxSel dt acc k val s
  | .canSleep dt acc k val wire => Sys2Proof.Machine.execCanSleep dt acc k val wire s
  | .canSleepEnter dt k => Sys2Proof.Machine.execCanSleepEnter dt k s
  | .canSleepTimeout dt k => Sys2Proof.Machine.execCanSleepTimeout dt k s
  | .canCtrlWake dt acc k val wire => Sys2Proof.Machine.execCanCtrlWake dt acc k val wire s
  | .canWake dt k src msg => Sys2Proof.Machine.execCanWake dt k src msg s
  | .canPurgeCmd dt acc k val wire => Sys2Proof.Machine.execCanPurgeCmd dt acc k val wire s
  | .canResume dt acc k val wire => Sys2Proof.Machine.execCanResume dt acc k val wire s
  | .canWireFault dt k present => Sys2Proof.Machine.execCanWireFault dt k present s
  | .canWireClear dt k flag => Sys2Proof.Machine.execCanWireClear dt k flag s
  | .canClr dt acc k val => Sys2Proof.Machine.execCanClr dt acc k val s
  | .lswOn dt acc n val => Sys2Proof.Machine.execLswOn dt acc n val s
  | .lswOff dt acc n val => Sys2Proof.Machine.execLswOff dt acc n val s
  | .lswClear dt acc n val => Sys2Proof.Machine.execLswClear dt acc n val s
  | .inrushEnd dt n => Sys2Proof.Machine.execInrushEnd dt n s
  | .thermalRegulation dt n => Sys2Proof.Machine.execThermalRegulation dt n s
  | .thermalShutdown dt n e => Sys2Proof.Machine.execThermalShutdown dt n e s
  | .shortDetected dt n e => Sys2Proof.Machine.execShortDetected dt n e s
  | .overloadTimeout dt n e => Sys2Proof.Machine.execOverloadTimeout dt n e s
  | .retryDelayExpiry dt n cool => Sys2Proof.Machine.execRetryDelayExpiry dt n cool s
  | .retryCountReset dt n => Sys2Proof.Machine.execRetryCountReset dt n s
  | .railUndervoltage dt rail energy => Sys2Proof.Machine.execRailUndervoltage dt rail energy s
  | .railRestored dt rail => Sys2Proof.Machine.execRailRestored dt rail s
  | .railReversed dt rail now energy => Sys2Proof.Machine.execRailReversed dt rail now energy s
  | .clampBucketRefilled dt n => Sys2Proof.Machine.execClampBucketRefilled dt n s
  | .packageShed dt iSum pSw e => Sys2Proof.Machine.execPackageShed dt iSum pSw e s
  | .offStateTest dt n bare sourced => Sys2Proof.Machine.execOffStateTest dt n bare sourced s
  | .openOnDetect dt n below => Sys2Proof.Machine.execOpenOnDetect dt n below s
  | .lswSnsSel dt acc val => Sys2Proof.Machine.execLswSnsSel dt acc val s
  | .fogEnChange dt active energy => Sys2Proof.Machine.execFogEnChange dt active energy s
  | .foginChange dt k active energy => Sys2Proof.Machine.execFoginChange dt k active energy s
  | .lswClr dt acc val => Sys2Proof.Machine.execLswClr dt acc val s
  | .thermalRegulationEnd dt n => Sys2Proof.Machine.execThermalRegulationEnd dt n s
  | .patrolScrub dt side corrected => Sys2Proof.Machine.execPatrolScrub dt side corrected s
  | .memEccError dt place corrected => Sys2Proof.Machine.execMemEccError dt place corrected s
  | .memWipeCmd dt acc val => Sys2Proof.Machine.execMemWipeCmd dt acc val s
  | .wipeCfgWrite dt acc val => Sys2Proof.Machine.execWipeCfgWrite dt acc val s
  | .lcArm dt acc val => Sys2Proof.Machine.execLcArm dt acc val s
  | .lcCommit dt acc val => Sys2Proof.Machine.execLcCommit dt acc val s
  | .lcTransitionDone dt => Sys2Proof.Machine.execLcTransitionDone dt s
  | .provisioning dt acc => Sys2Proof.Machine.execProvisioning dt acc s
  | .memClr dt acc val => Sys2Proof.Machine.execMemClr dt acc val s
  | .inputLoss dt => Sys2Proof.Machine.execInputLoss dt s
  | .inputReturn dt => Sys2Proof.Machine.execInputReturn dt s
  | .holdupPowerFail dt => Sys2Proof.Machine.execHoldupPowerFail dt s
  | .powerStart dt => Sys2Proof.Machine.execPowerStart dt s
  | .holdupChargeCheck dt tch => Sys2Proof.Machine.execHoldupChargeCheck dt tch s
  | .guardStep dt hmode => Sys2Proof.Machine.execGuardStep dt hmode s
  | .startLate dt => Sys2Proof.Machine.execStartLate dt s
  | .mrstAssert dt held => Sys2Proof.Machine.execMrstAssert dt held s
  | .mrstRelease dt => Sys2Proof.Machine.execMrstRelease dt s
  | .pwrReset dt acc val => Sys2Proof.Machine.execPwrReset dt acc val s
  | .guardFault dt => Sys2Proof.Machine.execGuardFault dt s
  | .guardAutoReset dt => Sys2Proof.Machine.execGuardAutoReset dt s
  | .powerStateAscent dt => Sys2Proof.Machine.execPowerStateAscent dt s
  | .powerStateDescent dt => Sys2Proof.Machine.execPowerStateDescent dt s
  | .ltrExpiry dt k => Sys2Proof.Machine.execLtrExpiry dt k s
  | .wakeThresholdCrossing dt k rising held => Sys2Proof.Machine.execWakeThresholdCrossing dt k rising held s
  | .pwrAlarmReached dt => Sys2Proof.Machine.execPwrAlarmReached dt s
  | .metrSleepExit dt codes => Sys2Proof.Machine.execMetrSleepExit dt codes s
  | .deferStart dt die t => Sys2Proof.Machine.execDeferStart dt die t s
  | .deferEnd dt side => Sys2Proof.Machine.execDeferEnd dt side s
  | .pwrClr dt acc val => Sys2Proof.Machine.execPwrClr dt acc val s
  | .auxInputApplied dt dc => Sys2Proof.Machine.execAuxInputApplied dt dc s
  | .alwaysOnPowerUp dt => Sys2Proof.Machine.execAlwaysOnPowerUp dt s
  | .alwaysOnPowerLoss dt => Sys2Proof.Machine.execAlwaysOnPowerLoss dt s
  | .qspiRead dt addr count => Sys2Proof.Machine.execQspiRead dt addr count s
  | .qspiQuadRead dt addr count => Sys2Proof.Machine.execQspiQuadRead dt addr count s
  | .qspiWrite dt addr words crc => Sys2Proof.Machine.execQspiWrite dt addr words crc s
  | .qspiQuadWrite dt addr words crc => Sys2Proof.Machine.execQspiQuadWrite dt addr words crc s
  | .qspiStatus dt => Sys2Proof.Machine.execQspiStatus dt s
  | .pcieLinkUp dt vectors => Sys2Proof.Machine.execPcieLinkUp dt vectors s
  | .pcieLinkDown dt => Sys2Proof.Machine.execPcieLinkDown dt s
  | .pcieFundamentalReset dt => Sys2Proof.Machine.execPcieFundamentalReset dt s
  | .spiSessionTimeout dt => Sys2Proof.Machine.execSpiSessionTimeout dt s
  | .irqHoldoffExpiry dt => Sys2Proof.Machine.execIrqHoldoffExpiry dt s
  | .mgmtHandshake dt conn port ip cert => Sys2Proof.Machine.execMgmtHandshake dt conn port ip cert s
  | .mgmtBlockExpiry dt ip => Sys2Proof.Machine.execMgmtBlockExpiry dt ip s
  | .mgmtIdleTimeout dt conn => Sys2Proof.Machine.execMgmtIdleTimeout dt conn s
  | .mgmtRead dt conn tag addr count => Sys2Proof.Machine.execMgmtRead dt conn tag addr count s
  | .mgmtWrite dt conn tag addr words => Sys2Proof.Machine.execMgmtWrite dt conn tag addr words s
  | .objGet dt conn tag oid ofs maxLen => Sys2Proof.Machine.execObjGet dt conn tag oid ofs maxLen s
  | .objSet dt conn tag oid ofs last data => Sys2Proof.Machine.execObjSet dt conn tag oid ofs last data s
  | .subscribe dt conn tag mask => Sys2Proof.Machine.execSubscribe dt conn tag mask s
  | .ping dt conn tag => Sys2Proof.Machine.execPing dt conn tag s
  | .eventDelivery dt conn => Sys2Proof.Machine.execEventDelivery dt conn s
  | .csmsMessage dt msg => Sys2Proof.Machine.execCsmsMessage dt msg s
  | .csmsConnectFail dt => Sys2Proof.Machine.execCsmsConnectFail dt s
  | .fwOpen dt acc => Sys2Proof.Machine.execFwOpen dt acc s
  | .fwDataWrite dt acc addr val => Sys2Proof.Machine.execFwDataWrite dt acc addr val s
  | .fwClose dt acc => Sys2Proof.Machine.execFwClose dt acc s
  | .fwCancel dt acc => Sys2Proof.Machine.execFwCancel dt acc s
  | .fwActivate dt acc => Sys2Proof.Machine.execFwActivate dt acc s
  | .fwConfirm dt acc => Sys2Proof.Machine.execFwConfirm dt acc s
  | .fwWindowExpiry dt => Sys2Proof.Machine.execFwWindowExpiry dt s
  | .fwRevert dt => Sys2Proof.Machine.execFwRevert dt s
  | .mgmtConnectionClose dt conn => Sys2Proof.Machine.execMgmtConnectionClose dt conn s
  | .mgmtFormatFrame dt conn op tag => Sys2Proof.Machine.execMgmtFormatFrame dt conn op tag s
  | .csmsConnected dt => Sys2Proof.Machine.execCsmsConnected dt s
  | .evqSnapshot dt acc => Sys2Proof.Machine.execEvqSnapshot dt acc s
  | .evqPop dt acc val => Sys2Proof.Machine.execEvqPop dt acc val s
  | .fastClr dt acc val => Sys2Proof.Machine.execFastClr dt acc val s
  | .lowWordRead dt acc addr => Sys2Proof.Machine.execLowWordRead dt acc addr s

end Sys2Proof.Machine
end

