-- ==== Sys2Proof/Safety.lean ====
section
/-! DEFINITION. The terms in which the claims speak of the module: what a command answers, which registers and parts it leaves alone, and
what holds in every state. -/

namespace Sys2Proof.Machine

open Sys2Proof

/-- The command answers a next state in which P holds. -/
def Does (i : Instr) (s : State) (P : State → Prop) : Prop := ∃ t, exec i s = .next t ∧ P t

/-- Every register but those listed reads in t as in s. -/
def RegsBut (as : List Nat) (s t : State) : Prop := ∀ a, a ∉ as → t.rd a = s.rd a

/-- The events of the running base cycle in t are those in s and then one of the given code and ARG, stamped now. -/
def Posted (code : Nat) (arg : Word) (s t : State) : Prop :=
  t.ev.posted.length = s.ev.posted.length + 1 ∧ t.ev.posted.take s.ev.posted.length = s.ev.posted
    ∧ ∃ e, t.ev.posted.getLast? = some e ∧ e.code = code ∧ e.arg = arg ∧ e.ts = s.tm.ts

/-- The canonical form of a store of bytes: keys strictly rising, no entry equal to the 0 that an unlisted key reads. -/
def Memory.wf (m : SMap Byte) : Bool := SMap.wf (fun _ => 0) m

/-- A write to a command register reaches its effect: the module answers, the unit is present, the role has the right (R4, R19, R720). -/
abbrev Admitted (s : State) (acc : Access) (addr : Nat) (sc : Scope) : Prop :=
  s.answers acc.path addr = true ∧ s.absentHere acc.path addr = false ∧ sc.admits acc.role = true

/-- The address names a present register r whose writes act by their access codes alone. -/
abbrev PlainTarget (s : State) (acc : Access) (addr : Nat) (r : RegSpec) : Prop :=
  s.answers acc.path addr = true ∧ outOfMap addr = false ∧ s.absentHere acc.path addr = false ∧ windowOf addr = none
    ∧ (ownWrite addr).isNone = true ∧ (canSendAt addr).isNone = true ∧ canStaging addr = false ∧ s.specOf addr = some r

/-- A write of val to r passes every check of a plain write: it is writable by the role throughout, changes no field that only a
transaction writes, keeps its ranges, its register's own limit, tunables and rules, and no transaction holds it (R19, R117, R127, R129, R137, R692). -/
abbrev PlainPasses (s : State) (acc : Access) (addr : Nat) (r : RegSpec) (val : Word) : Prop :=
  r.fields.all (fun f => f.scope.admits acc.role) = true ∧ r.fields.any (fun f => f.acc != .ro) = true
    ∧ r.fields.any (fun f => f.acc.inTxnOnly && f.differs (s.applied acc.path addr) val) = false
    ∧ r.ranges.all (fun g => g.ok val) = true
    ∧ s.tunablesOk addr (plainWord r acc (s.applied acc.path addr) val (s.counted addr)) = true
    ∧ s.heldElsewhere none addr = false ∧ s.openOf acc = none ∧ s.ownOk addr val = true

/-- From tile u to tile u' the word dst took the saturated value v, with the condition SAT where it saturated; the accumulators, the other
words and conditions stayed (R204, R206). -/
abbrev TileWrote (u u' : Tile) (dst : Nat) (v : Int) : Prop :=
  u'.data = SMap.insert u.data (dst % 4096) (toWord (sat32 v).1) ∧ u'.acc = u.acc ∧ u'.users = u.users
    ∧ u'.flags = if (sat32 v).2 then withBit u.flags 10 true else u.flags

/-- From tile u to tile u' the word dst took the value w; the accumulators, the other words and every condition stayed. -/
abbrev TileStored (u u' : Tile) (dst : Nat) (w : Word) : Prop :=
  u'.data = SMap.insert u.data (dst % 4096) w ∧ u'.acc = u.acc ∧ u'.users = u.users ∧ u'.flags = u.flags

/-- The program of the tile of loop n went one instruction on, and nothing but that tile changed (4097 free values are used up). -/
abbrev TileAdvanced (s : State) (dt : Nat) (x : Side) (n : Nat) (t : State) : Prop :=
  (t.tile x n).pc = (stepPc ((s.readyTile x n).pc + 1) (s.readyTile x n).rep).1
    ∧ t = { s.tick dt with
        loop := { s.loop with tiles := SMap.put (fun _ => Tile.reset) s.loop.tiles (tileKey x n) (t.tile x n) }
        free := s.free + 4097 }

/-- The registers of image slot n on both sides (R112, R115). -/
def slotRegs (n : Nat) : List Nat :=
  [Side.a, Side.b].flatMap fun x => [sideReg x (Reg.IMG_SLOT_STAT n), sideReg x (Reg.IMG_SLOT_VER n)]

/-- The registers that a latch of Quickset changes (R269 to R279). -/
def tripRegs : List Nat :=
  [Reg.QSET_FIRST_TS_LO, Reg.QSET_FIRST_TS_HI, Reg.QSET_STAT, Reg.QSET_COUNT, Reg.EDGE_STAT]
    ++ (List.range 4).map Reg.QSET_LATCH ++ (List.range 4).map Reg.QSET_ACTIVE
    ++ (List.range 64).map Reg.EDGE_PSTAT ++ (List.range 64).map (fun n => loopReg .b (Reg.EDGE_PSTAT n))

/-- From s to t the latch of a source was set (R269, R271, R304): its groups are tripped, SET goes out with them but after GUARD_FAULT, and every used pair of a
tripped group is held at its trip pattern on both sides. -/
abbrev TripSet (src : Nat) (s t : State) : Prop :=
  t.latched src = true ∧ t.fld Reg.QSET_STAT Fld.QSET_STAT_ANY = 1
    ∧ t.fld Reg.QSET_STAT Fld.QSET_STAT_GROUPS &&& s.srcGroups src = s.srcGroups src
    ∧ (s.keep.guardFault = false → t.qset.sent = some ⟨true, t.fld Reg.QSET_STAT Fld.QSET_STAT_GROUPS⟩)
    ∧ (∀ n < 64, t.pairUsed n = true → t.pairTripped n = true → (t.pair .a n).held = true ∧ (t.pair .b n).held = true)

/-- The frame f reaches endpoint e through U or D (R287, R294): whole, of the type named, on the port's lane, for this endpoint, and not
yet seen from the other port. -/
abbrev FrameReaches (s : State) (e : Nat) (viaD : Bool) (ty : Nat) (f : List Byte) : Prop :=
  frameOk f = true ∧ frType f = ty ∧ laneOk f viaD = true ∧ (frAddr f = 0xFF ∨ some (frAddr f) = (s.ep e).addr)
    ∧ (s.ep e).seen.contains (seenFrame f) = false

/-- An endpoint that a frame has reached, before its payload acts: its trip groups are latched (R305), the frame is passed on where it goes
further, and noted as seen (R294). -/
def State.heard (s : State) (e : Nat) (viaD : Bool) (f : List Byte) : Endpoint := ((s.hearFrame e viaD f).noteFrame e f).ep e

/-- A TRIP block of the Guard die for groups, a SET (1) or a CLEAR (2), comes to the line of every used port in t as in s (R304). -/
abbrev TripOnPorts (kind groups : Nat) (s t : State) : Prop :=
  ∀ p < 12, s.portUsed p = true → (t.port p).trips = ((s.pumpPort p).port p).trips ++ [(s.lineNow, Block.trip (tripBlock groups kind 0xFF p))]

/-- The newest frame waiting on a port's transmitter. -/
def State.lastTx (s : State) (p : Nat) : Option TxFrame := (s.port p).queue.getLast?

/-- The registers that the ladder of the transformer and its cells change (R366 to R382). -/
def sstRegs : List Nat :=
  [Reg.SST_RUN_STAT, Reg.SST_STAT, Reg.SST_PROT_CNT] ++ (List.range 96).map Reg.SST_CELL_STAT ++ (List.range 96).map Reg.SST_CELL_HIST

/-- The transformer is in use, no latch and no group of its protection group stands, the grid angle is locked and U+ is at least
U_BLOCK. -/
abbrev SstClear (s : State) : Prop :=
  s.sstUsed = true ∧ s.gtLatches = [] ∧ s.sstTripped = false ∧ s.fld Reg.SST_STAT Fld.SST_STAT_PLL_LOCK = 1
    ∧ 10 * s.fld Reg.SST_RT_CFG Fld.SST_RT_CFG_U_BLOCK ≤ s.sst.last.uPos

/-- The registers that the stage of outlet n and its phases change (R383 to R413). -/
def stageRegs (n : Nat) : List Nat :=
  [Reg.OUTS_O_STAT n, Reg.OUTS_O_CNT n, Reg.OUTS_O_SET n] ++ (List.range 96).map Reg.OUTS_PH_STAT

/-- The registers that an allocation tick writes (R414 to R439). -/
def tickRegs : List Nat :=
  [Reg.ALOC_STAT, Reg.ALOC_CNT, Reg.ALOC_TICK, Reg.ALOC_TTIME, Reg.ALOC_DEM_E, Reg.ALOC_DEM_STAT, Reg.ALOC_JUNC_STAT, Reg.ALOC_PRICE]
    ++ (List.range 5).map Reg.ALOC_BUD ++ (List.range 8).map Reg.ALOC_O_GRANT ++ (List.range 8).map Reg.ALOC_O_IN
    ++ (List.range 8).map Reg.ALOC_O_IN2

/-- The registers that the end of outlet n's session may change (R478, R479). -/
def sessionRegs (n : Nat) : List Nat := [Reg.OUTL_STAT, Reg.OUTL_O_STAT n, Reg.OUTS_O_STAT n, Reg.OUTL_O_EVI n]

/-- Connection conn of the management protocol is open as c, and the module answers the protocol after dt (R735, R736). -/
abbrev ConnOpen (s : State) (dt conn : Nat) (c : Conn) : Prop := s.mgmtConn conn = some c ∧ (s.tick dt).mgmtOn = true

/-- The state as a frame of connection conn is served: its idle time starts again (R736). -/
def State.heardConn (s : State) (dt conn : Nat) (c : Conn) : State :=
  { s.tick dt with host := { s.host with conns := SMap.insert s.host.conns conn { c with last := (s.tick dt).tm.mono } } }

/-- The state after the first k words from an address were read on the register bus, one after the other. -/
def State.afterReads (s : State) (acc : Access) (addr k : Nat) : State :=
  (List.range k).foldl (fun u i => (u.busRead acc (addr + 4 * i)).2) s

/-- The state after the first k of some words were written from an address on, one after the other. -/
def State.afterWrites (s : State) (acc : Access) (addr : Nat) (ws : List Word) (k : Nat) : State :=
  (ws.take k).zipIdx.foldl (fun u w => u.write acc (addr + 4 * w.2) w.1) s

/-- t is u with the answer to a management frame given (R738): an OP, the frame's TAG, a STATUS and a payload. -/
abbrev Answered (op tag status : Nat) (payload : List Byte) (u t : State) : Prop :=
  t.host.replyBytes = mgmtFrame op tag status payload ∧ t.host.status = status ∧ t.host.conns = u.host.conns ∧ t = { u with host := t.host }

/-- Outlet n has a session that no end has reached yet. -/
abbrev SessionRuns (s : State) (n : Nat) : Prop :=
  n < 8 ∧ 2 ≤ s.oState n ∧ s.oState n ≤ 7 ∧ (s.otl n).ending = 0 ∧ (s.otl n).tally = 0

/-- The other outlets' sessions and stages stay. -/
abbrev OthersStay (n : Nat) (s t : State) : Prop := ∀ k < 8, k ≠ n → t.otl k = s.otl k ∧ t.stg k = s.stg k

/-- A cause with reason r began the end of outlet n's session (R478, R479, R481): an emergency end, or a normal one, which from TRANSFER
winds down. -/
abbrev EndBegun (n r : Nat) (s t : State) : Prop :=
  t.reason n = r ∧ (t.otl n).endCycle = some s.tm.cycleN ∧ (t.otl n).tally = (if emergencyReason r then 2 else 1)
    ∧ (t.otl n).stopAt = t.tm.mono ∧ (t.oState n = s.oState n ∨ 8 ≤ t.oState n) ∧ OthersStay n s t

/-- The registers of axes and channels that a safety function changes, in both channels (R490 to R502). -/
def axisRegs : List Nat :=
  Reg.IMG_STAT :: [Side.a, Side.b].flatMap fun x =>
    [sideAddr x Reg.SAFE_STAT, sideAddr x Reg.SAFE_CNT]
      ++ (List.range 2).flatMap fun a =>
        [sideAddr x (Reg.SAFE_AX_STAT a), sideAddr x (Reg.SAFE_AX_POS a), sideAddr x (Reg.SAFE_AX_SPD a)]

/-- The registers of safety connection k in both channels (R510). -/
def connRegs (k : Nat) : List Nat :=
  [Side.a, Side.b].flatMap fun x =>
    [sideAddr x Reg.SAFE_STAT, sideAddr x (Reg.SAFE_CONN_STAT k), sideAddr x (Reg.SAFE_CONN_CNT k)]

/-- The state as a due safety cycle begins: its millisecond noted, the settings of a flip taken (R488, R515). -/
def State.safeStart (s : State) (dt : Nat) : State :=
  ({ s.tick dt with safe := { s.safe with nextMs := s.tm.cycleStart.toNat / Config.msec 1 + 1 } } : State).takeVals

/-- Axis a of channel x stands in TORQUE_OFF with a cause, its own pads de-energised. -/
abbrev TorqueOff (t : State) (x : Side) (a cause : Nat) : Prop :=
  t.axState x a = 0 ∧ t.axCause x a = cause ∧ (t.axis x a).sto = false ∧ (t.axis x a).brk = false

/-- Some event of the running base cycle has the code and the ARG. -/
abbrev Told (code : Nat) (arg : Word) (t : State) : Prop := (t.ev.posted.any fun e => e.code == code && e.arg == arg) = true

/-- Every register but those listed stands on the metrology die in t as in s. -/
def DieRegsBut (as : List Nat) (s t : State) : Prop := ∀ a, a ∉ as → t.drd a = s.drd a

/-- Every register that shows the latest record reads as in record r; the others, but for those listed, as in s (R548). -/
def RecordShown (r : DieRec) (as : List Nat) (s t : State) : Prop :=
  ∀ a, (dieShown a = true → t.rd a = SMap.get regReset r.regs a) ∧ (dieShown a = false → a ∉ as → t.rd a = s.rd a)

/-- The die has noted an event with the code and the ARG for its next record (R549). -/
abbrev DieTold (code : Nat) (arg : Word) (t : State) : Prop := (t.metr.events.any fun e => e.1 == code && e.2.2 == arg) = true

/-- The registers of tamper type k (R582). -/
def tamperRegs (k : Nat) : List Nat :=
  [Reg.BILL_TAMP_CNT k, Reg.BILL_TAMP_FIRST_LO k, Reg.BILL_TAMP_FIRST_LO k + 4, Reg.BILL_TAMP_LAST_LO k, Reg.BILL_TAMP_LAST_LO k + 4]

/-- A tamper of type k was logged between s and t (R582): the type's count went up, its last timestamp is the die's time. -/
abbrev Tampered (k : Nat) (s t : State) : Prop :=
  (t.drd (Reg.BILL_TAMP_CNT k)).toNat = min ((s.drd (Reg.BILL_TAMP_CNT k)).toNat + 1) 0xFFFFFFFF
    ∧ t.d64 (Reg.BILL_TAMP_LAST_LO k) = t.dieTs.toNat

/-- The registers that a module reset writes itself (R716, R717): what it records of the run and of the start. -/
def resetRegs : List Nat :=
  [Reg.IMG_SLOT_CTRL, Reg.HOST_CFG, Reg.PWR_STAT, Reg.MEM_STAT, Reg.PWR_RST, Reg.PWR_RST_TS_LO, Reg.PWR_RST_TS_HI, Reg.SYS_RESET,
    Reg.HOST_FW_STAT] ++ (List.range 96).map Reg.SST_CELL_STAT

/-- Every register but those that a reset writes keeps its value where R717 keeps it, and stands at its reset value else. -/
def RegsReset (s t : State) : Prop := ∀ a, a ∉ resetRegs → t.rd a = if keptReg a then s.rd a else regReset a

/-- t is s after a module reset of a kind of R716: PWR_RST tells it (GUARD_FAULT where that was latched) and counts the start; registers,
bytes and parts stand at reset but for those that R717 keeps and the states of the cells out of the string (R370); the metrology die
and the waiting commands stay. -/
abbrev ResetDone (kind : Nat) (s t : State) : Prop :=
  t.fld Reg.PWR_RST Fld.PWR_RST_CAUSE = (if s.keep.guardFault then 5 else kind) ∧ t.fld Reg.PWR_RST Fld.PWR_RST_TRIGGER = kind
    ∧ t.fld Reg.PWR_RST Fld.PWR_RST_STARTS = min (s.fld Reg.PWR_RST Fld.PWR_RST_STARTS + 1) 0xFFFF ∧ t.rd Reg.SYS_RESET = t.rd Reg.PWR_RST
    ∧ (∀ c < 96, t.cellState c = (if s.cellState c < 4 then 0 else s.cellState c)
        ∧ t.cell c = if s.cellState c < 4 then Cell.reset else { Cell.reset with before := (s.cell c).before })
    ∧ t.sst = { SstPart.reset with cells := t.sst.cells }
    ∧ RegsReset s t ∧ t.keep.guardFault = false ∧ t.keep.epochRecord = s.keep.epochRecord ∧ t.host.objects = s.host.objects
    ∧ t.ev.log = s.ev.log ∧ t.ev.posted = [] ∧ t.tm.mono = 0 ∧ t.tm.life = s.tm.life
    ∧ t.bytes = s.bytes.filter (fun e => keptByte e.1)
    ∧ t = { State.reset with
        pending := s.pending, variant := s.variant, free := s.free, metr := s.metr, bill := s.bill, regs := t.regs, tm := t.tm, ev := t.ev, sst := t.sst,
        img := t.img, keep := t.keep, host := t.host, safe := t.safe, mem := t.mem, sup := t.sup, bytes := t.bytes }

/-- t is s after a wake of a source and instance in NIGHT or DARK (R711, R712): the module resets with kind WAKE, PWR_WAKE_STAT names the
source and PWR_WAKE tells it. -/
abbrev Woke (src : WakeSrc) (inst : Nat) (s t : State) : Prop :=
  t.fld Reg.PWR_RST Fld.PWR_RST_TRIGGER = (if s.power = 3 then 8 else 9)
    ∧ t.rd Reg.PWR_WAKE_STAT = BitVec.ofNat 32 (src.code * 0x10000000 + inst % 16 * 0x1000000)
    ∧ Told Ev.PWR_WAKE (evArg 0xFFF 0 (src.code * 16 + inst % 16)) t ∧ t.sup.phase = 3 ∧ t.power = 0 ∧ t.mode = 0 ∧ t.tm.mono = 0

/-- The ordering code is v, one of the three variants, and the capability registers read on every path what R3 gives for it. -/
def CapsRead (v : Nat) (s : State) : Prop :=
  s.variant = v ∧ ∀ p : Path, (v, s.regValue p Reg.SYS_CAP_0, s.regValue p Reg.SYS_CAP_1)
    ∈ [(1, 0x1B0EC8C0, 0x08304084), (2, 0x2B066860, 0x08303084), (3, 0x3B014430, 0x04182042)]

/-- No event is posted between s and t. -/
abbrev Silent (s t : State) : Prop := t.ev = s.ev

end Sys2Proof.Machine
end

