-- ==== Sys2Proof/Certificates/Slice0/Obligations.lean ====
section
/-! DEFINITION. The statements about the module: what each row of the opcode table does, and what every step keeps. -/

open Sys2Proof Sys2Proof.Machine

/-- For every state whose queue holds a command c in front of a list rest, step answers exactly what exec answers for c on the same state
with rest as its queue. (The queue is the model's own, log entry 1.) -/
def Obligations.StepTakesFront : Prop :=
  ∀ (s : State) (c : Instr) (rest : List Instr), s.pending = c :: rest → step s = exec c { s with pending := rest }

/-- For every state with an empty queue step answers the next state in which one period of FCLK (5 counts of 250 ps) has passed and nothing
else has happened: a choice of the model (log entry 1). -/
def Obligations.IdleStep : Prop :=
  ∀ s : State, s.pending = [] → step s = .next (s.tick 5)

/-- At reset the registers named read the values that their tables give (among them TIME_CTRL 0x2638, KEEP_CFG 0x3C0303, PWR_CFG
0x3C000007, HOST_CFG 0x0A200A10 and SYS_ID 0x96484C4E), no event is posted, no byte of memory is listed and no command waits. The
ordering code of variant 1, on which two of them do not depend, is the model's choice. -/
def Obligations.ResetValues : Prop :=
  (∀ e ∈ [(Reg.TIME_CTRL, 0x2638), (Reg.TIME_TZ, 0x40000), (Reg.TIME_PPS_CFG, 0x6406), (Reg.IMG_LOAD_ERR, 0xFF0000),
      (Reg.IMG_SLOT_CTRL, 0xA0000), (Reg.IMG_TXN_CFG, 0x258), (Reg.KEEP_CFG, 0x3C0303), (Reg.KEEP_LANES, 0x3FFFF),
      (Reg.EDGE_STAT, 0x30000000), (Reg.QSET_STAT, 0x7F0000), (Reg.RING_STAT, 0xC0000000), (Reg.RING_CFG, 0x64),
      (Reg.OUTS_STAT, 0x80000000), (Reg.ALOC_JUNC_STAT, 0xFF000000), (Reg.ALOC_O_LIM 0, 0xFFFFFFFF),
      (Reg.SAFE_AX_STAT 0, 0x1000000), (Reg.BILL_DEM_CFG, 0x1000F), (Reg.ACQ_STAT, 0x10000000), (Reg.PWR_CFG, 0x3C000007),
      (Reg.PWR_DEFER_CFG, 0x73), (Reg.HOST_CFG, 0xA200A10), (Reg.SYS_ID, 0x96484C4E), (Reg.SYS_MAP, 0x10018)],
      State.reset.rd e.1 = e.2)
  ∧ State.reset.ev.posted = [] ∧ State.reset.bytes = [] ∧ State.reset.pending = []

/-- At reset the capability registers of variant 1 read on every path what R3 gives, and the store of bytes is in its canonical form.
Variant 1 at reset is the model's choice. -/
def Obligations.ResetMeetsInvariants : Prop := CapsRead 1 State.reset ∧ Memory.wf State.reset.bytes = true

/-- For every command and every state, with every value of its operands, exec answers a next state, never a fault and never a refusal: what
the module turns away it turns away with the effect that the spec gives (an event, an error register, an answer) or with none. -/
def Obligations.EveryCommandAnswers : Prop := ∀ (i : Instr) (s : State), ∃ t, exec i s = .next t

/-- For every command and every state, a reset among them, the commands that wait after exec are those that waited before. (The queue is
the model's own, log entry 1.) -/
def Obligations.ExecLeavesQueue : Prop := ∀ (i : Instr) (s t : State), exec i s = .next t → t.pending = s.pending

/-- For each of the three variants, the module at reset with that ordering code reads on every path the values of SYS_CAP_0 and SYS_CAP_1
that R3 gives for it; and for every state in which they read so and every step that answers a next state (a write, a transaction, a
load of an image, a fail-over and every reset among them), they read the same in the next state. -/
def Obligations.StepsKeepCapabilities : Prop :=
  (∀ v ∈ [1, 2, 3], CapsRead v { State.reset with variant := v })
  ∧ ∀ (v : Nat) (s t : State), CapsRead v s → step s = .next t → CapsRead v t

/-- For every state in which the listed bytes of the memories and windows have strictly rising keys and none of them equals what an
unlisted key reads, and every step that answers a next state, the same holds of the next state: equal memories are equal data. -/
def Obligations.StepsKeepBytesCanonical : Prop :=
  ∀ s t : State, Memory.wf s.bytes = true → step s = .next t → Memory.wf t.bytes = true

/-- Over the state u once dt has passed and AT_REST shows: a plain write (REGISTER_WRITE) that passes every check leaves the register at
the word R751 gives field by field and every other register as it was; a write to a register that takes effect at the boundary
(TUNABLE_WRITE) leaves every register as it was and adds one waiting entry; a write from a session with an OPEN context (STAGING_WRITE)
adds one staged entry and writes no register; and a read of a low word (LOW_WORD_READ) answers the word and latches the high word for
the path. All answer a next state. -/
def Obligations.AccessRowsReachRegisters : Prop :=
  (∀ (s : State) (dt addr : Nat) (acc : Access) (val : Word) (r : RegSpec) (u : State), u = (s.tick dt).showRest →
    PlainTarget u acc addr r → PlainPasses u acc addr r val → atBoundary addr = false → addr ≠ Reg.IMG_STAT →
    Does (.registerWrite dt acc addr val) s fun t =>
      t.applied acc.path addr = plainWord r acc (u.applied acc.path addr) val (u.counted addr)
      ∧ RegsBut (if perPath addr then [] else [addr]) u t ∧ t.host.reply = [] ∧ t.host.status = 0
      ∧ t = { u with regs := t.regs, pregs := t.pregs, tm := t.tm, img := t.img, host := t.host })
  ∧ (∀ (s : State) (dt addr : Nat) (acc : Access) (val : Word) (r : RegSpec) (u : State), u = (s.tick dt).showRest →
    PlainTarget u acc addr r → PlainPasses u acc addr r val → atBoundary addr = true →
    Does (.tunableWrite dt acc addr val) s fun t =>
      t.tm.deferred = u.tm.deferred
        ++ [⟨addr, rwMask r acc, plainWord r acc (u.applied acc.path addr) val (u.counted addr)⟩]
      ∧ t = { u with tm := t.tm, host := t.host } ∧ t.host.reply = [])
  ∧ (∀ (s : State) (dt addr n : Nat) (acc : Access) (val : Word) (r : RegSpec) (u : State), u = (s.tick dt).showRest →
    PlainTarget u acc addr r → u.openOf acc = some n →
    r.fields.all (fun f => f.scope.admits acc.role && f.scope.admits (u.context n).role) = true →
    r.fields.any (fun f => f.acc.stored) = true → r.ranges.all (fun g => g.ok val) = true →
    u.heldElsewhere (some n) addr = false → ((u.context n).entries.all fun e => e.1 != addr) = true →
    (u.context n).entries.length < 2048 →
    Does (.stagingWrite dt acc addr val) s fun t =>
      (t.context n).entries = (u.context n).entries ++ [(addr, val)] ∧ (t.context n).count = (u.context n).entries.length + 1
      ∧ t = { u with ctx := t.ctx, host := t.host } ∧ t.host.reply = [])
  ∧ (∀ (s : State) (dt addr hi : Nat) (acc : Access), s.answers acc.path addr = true → outOfMap addr = false →
    s.absentHere acc.path addr = false → windowOf addr = none → (findReg addr).isSome = true → highOf addr = some hi →
    addr ≠ Reg.SYS_EVQ_ENT_0 →
    Does (.lowWordRead dt acc addr) s fun t =>
      t.host.reply = [(s.tick dt).regValue acc.path addr]
      ∧ SMap.get (fun _ => (0, 0)) t.host.shadows acc.path.code = (hi, (s.tick dt).regValue acc.path hi)
      ∧ t = { s.tick dt with host := t.host })

/-- For every state in which the module answers the path, every word address below the map's end that lies in an absent unit, and every
role and path: ABSENT_ACCESS answers a next state; a read's answer is the word 0; exactly one ABSENT event is posted, stamped now, its
ARG the role, the path and the address; no register changes but SYS_ERR and SYS_ERR_ADDR, which record the access, and no other part of
the state. -/
def Obligations.AbsentUnitAnswersZero : Prop :=
  ∀ (s : State) (dt addr : Nat) (acc : Access) (wr : Option Word), s.answers acc.path addr = true → outOfMap addr = false →
    s.absentHere acc.path addr = true →
    Does (.absentAccess dt acc addr wr) s fun t =>
      t.host.reply = (match wr with | none => [0] | some _ => [])
      ∧ Posted Ev.ABSENT (accArg acc addr) (s.tick dt) t
      ∧ RegsBut [Reg.SYS_ERR, Reg.SYS_ERR_ADDR] s t
      ∧ t.fld Reg.SYS_ERR Fld.SYS_ERR_ABSENT = 1 ∧ t.rd Reg.SYS_ERR_ADDR = accArg acc addr
      ∧ t = { s.tick dt with regs := t.regs, recent := t.recent, ev := t.ev, host := t.host }

/-- For every state in which the module answers the path and every word address of the map in no absent unit at which no register and no
window stands: RESERVED_ACCESS answers a next state, with the word 0 for a read; no event is posted; SYS_ERR.RESERVED is 1 and
SYS_ERR_ADDR holds the access. A read changes no other register. A write changes none but these two and IMG_STAT, whose AT_REST is
computed anew as it stands now. No other part of the state changes but the answer. -/
def Obligations.ReservedOffsetIsQuiet : Prop :=
  ∀ (s : State) (dt addr : Nat) (acc : Access) (wr : Option Word), s.answers acc.path addr = true → outOfMap addr = false →
    s.absentHere acc.path addr = false → windowOf addr = none → findReg addr = none → (ownWrite addr).isNone = true →
    (canSendAt addr).isNone = true → canStaging addr = false →
    Does (.reservedAccess dt acc addr wr) s fun t =>
      t.host.reply = (match wr with | none => [0] | some _ => [])
      ∧ Silent s t ∧ t.fld Reg.SYS_ERR Fld.SYS_ERR_RESERVED = 1 ∧ t.rd Reg.SYS_ERR_ADDR = accArg acc addr
      ∧ RegsBut [Reg.SYS_ERR, Reg.SYS_ERR_ADDR] (match wr with | none => s | some _ => s.showRest) t
      ∧ t = { s.tick dt with regs := t.regs, recent := t.recent, host := t.host }

/-- OUT_OF_MAP_ACCESS from 0x0018_0000 upward (or at an address that is no multiple of 4), on every path that is answered: the answer is 0
with status OUT_OF_MAP (code 3), SYS_ERR.OUT_OF_MAP is set and SYS_ERR_ADDR holds the access; on the host link HOST_BAD_ACCESS is
posted and HOST_STAT.BAD_ACCESS set; no other register but HOST_CNT changes. HOST_BAD_ACCESS with partial byte enables: the answer is
0, the event is posted and BAD_ACCESS set, and no register changes but HOST_STAT and HOST_CNT. -/
def Obligations.OutOfMapIsRecorded : Prop :=
  (∀ (s : State) (dt addr : Nat) (acc : Access) (wr : Option Word), s.answers acc.path addr = true → outOfMap addr = true →
    Does (.outOfMapAccess dt acc addr wr) s fun t =>
      t.host.reply = (match wr with | none => [0] | some _ => []) ∧ t.host.status = 3
      ∧ t.fld Reg.SYS_ERR Fld.SYS_ERR_OUT_OF_MAP = 1 ∧ t.rd Reg.SYS_ERR_ADDR = accArg acc addr
      ∧ (if acc.path = .host then Posted Ev.HOST_BAD_ACCESS (accArg acc addr) (s.tick dt) t
          ∧ t.fld Reg.HOST_STAT Fld.HOST_STAT_BAD_ACCESS = 1
          ∧ RegsBut [Reg.SYS_ERR, Reg.SYS_ERR_ADDR, Reg.HOST_STAT, Reg.HOST_CNT] s t
        else Silent s t ∧ RegsBut [Reg.SYS_ERR, Reg.SYS_ERR_ADDR] s t)
      ∧ t = { s.tick dt with regs := t.regs, recent := t.recent, ev := t.ev, host := t.host })
  ∧ (∀ (s : State) (dt addr be : Nat) (wr : Option Word), s.answers .host addr = true → outOfMap addr = false → be ≠ 15 →
    Does (.hostBadAccess dt addr be wr) s fun t =>
      t.host.reply = [0] ∧ Posted Ev.HOST_BAD_ACCESS (accArg (s.tick dt).hostAccess addr) (s.tick dt) t
      ∧ t.fld Reg.HOST_STAT Fld.HOST_STAT_BAD_ACCESS = 1 ∧ RegsBut [Reg.HOST_STAT, Reg.HOST_CNT] s t
      ∧ t = { s.tick dt with regs := t.regs, recent := t.recent, ev := t.ev, host := t.host })

/-- On a port where PTP is enabled and in the configured domain, an Announce (PTP_MESSAGE) renews the port's master, and an exchange of the
selected kind with the master that the servo follows shows its offset, from the stamps corrected by TIME_PHY_DLY, in TIME_OFFSET,
saturated; the servo's rate stays within 500 ppm, or as it was. PTP_ANNOUNCE_TIMEOUT after three intervals ends the port's master.
PTP_TMO_EXPIRY after PTP_TMO takes the next source and ends holdover. PPS_IN_EDGE captures the timestamp, to 1.25 ns, in TIME_PPS_IN.
PPS_IN_MISSING after 1 s + 100 µs makes PPS_IN invalid. NTP_RESPONSE with NTP enabled makes NTP valid, and shows the offset where NTP
is then the source. RTC_TRIM, once a second has passed since the last, sets the RTC to the timestamp. PPS_OUT_PULSE drives the pin low
while OUT_EN is 0, and high at a whole second while OUT_EN is 1 and OUT_VALID_ONLY is 0. Registers change only where named; TIME_STAT
shows the source. The rate itself is a free value, and the rounding of half a count the model's choice (log entry 51). -/
def Obligations.TimeSourceRows : Prop :=
  (∀ (s : State) (dt port : Nat) (ann : Option (Nat × Nat)), port < 2 → s.ptpEnabled port = true →
    Does (.ptpMessage dt port (s.fld Reg.TIME_CTRL Fld.TIME_CTRL_PTP_DOMAIN) ann none) s fun t =>
      t.ptpPort port = (match ann with | some (iv, rank) => ⟨true, (s.tick dt).tm.mono, iv, rank⟩ | none => s.ptpPort port)
      ∧ t.tm.rate = s.tm.rate ∧ RegsBut [Reg.TIME_STAT] s t ∧ t = { s.tick dt with regs := t.regs, tm := t.tm })
  ∧ (∀ (s : State) (dt port : Nat) (x : PtpExchange), port < 2 → s.ptpEnabled port = true →
    Does (.ptpMessage dt port (s.fld Reg.TIME_CTRL Fld.TIME_CTRL_PTP_DOMAIN) none (some x)) s fun t =>
      t.ptpPort port = s.ptpPort port
      ∧ (if s.ptpMaster = some port ∧ s.ptpTakes x = true then
          t.fldS Reg.TIME_OFFSET Fld.TIME_OFFSET_VALUE =
              clampInt (-2147483647) 2147483647 (Int.tdiv (x.offset (s.rd (Reg.TIME_PHY_DLY port))) 4)
            ∧ (if t.fld Reg.TIME_STAT Fld.TIME_STAT_HOLDOVER = 1 then t.tm.rate = s.tm.rate ∧ t.free = s.free
                else -500000000 ≤ t.tm.rate ∧ t.tm.rate ≤ 500000000 ∧ t.free = s.free + 1)
            ∧ RegsBut [Reg.TIME_STAT, Reg.TIME_OFFSET] s t
            ∧ t = { s.tick dt with regs := t.regs, tm := t.tm, free := t.free }
          else t.tm.rate = s.tm.rate ∧ RegsBut [Reg.TIME_STAT] s t ∧ t = { s.tick dt with regs := t.regs, tm := t.tm }))
  ∧ (∀ (s : State) (dt port : Nat), port < 2 → (s.ptpPort port).valid = true →
    3 * (s.ptpPort port).announceIv ≤ (s.tick dt).since (s.ptpPort port).announceAt →
    Does (.ptpAnnounceTimeout dt port) s fun t =>
      (t.ptpPort port).valid = false ∧ RegsBut [Reg.TIME_STAT] s t ∧ t = { s.tick dt with regs := t.regs, tm := t.tm })
  ∧ (∀ (s : State) (dt : Nat) (c : Count), s.tm.ptpLost = some c →
    Config.sec (5 * s.fld Reg.TIME_CTRL Fld.TIME_CTRL_PTP_TMO) ≤ (s.tick dt).since c →
    Does (.ptpTmoExpiry dt) s fun t =>
      t.fld Reg.TIME_STAT Fld.TIME_STAT_SRC = s.lowerSource ∧ t.fld Reg.TIME_STAT Fld.TIME_STAT_HOLDOVER = 0
      ∧ t.tm.ptpLost = none ∧ RegsBut [Reg.TIME_STAT] s t ∧ t = { s.tick dt with regs := t.regs, tm := t.tm })
  ∧ (∀ (s : State) (dt : Nat), Does (.ppsInEdge dt) s fun t =>
      t.rd Reg.TIME_PPS_IN_HI ++ t.rd Reg.TIME_PPS_IN_LO =
        (s.tick dt).tm.ts - BitVec.ofNat 64 ((s.tick dt).tm.mono.toNat % Config.fclk)
      ∧ t.tm.ppsLast = some (s.tick dt).tm.mono
      ∧ RegsBut [Reg.TIME_PPS_IN_LO, Reg.TIME_PPS_IN_HI, Reg.TIME_STAT] s t ∧ t = { s.tick dt with regs := t.regs, tm := t.tm })
  ∧ (∀ (s : State) (dt : Nat) (c : Count), s.tm.ppsLast = some c → Config.sec 1 + Config.usec 100 < (s.tick dt).since c →
    Does (.ppsInMissing dt) s fun t =>
      t.tm.ppsValid = false ∧ t.tm.ppsRun = 0 ∧ RegsBut [Reg.TIME_STAT] s t ∧ t = { s.tick dt with regs := t.regs, tm := t.tm })
  ∧ (∀ (s : State) (dt : Nat) (off : Int), s.fld Reg.TIME_CTRL Fld.TIME_CTRL_NTP_EN ≠ 0 →
    Does (.ntpResponse dt off) s fun t =>
      t.tm.ntpValid = true
      ∧ (if t.fld Reg.TIME_STAT Fld.TIME_STAT_SRC = 3 ∨ t.fld Reg.TIME_STAT Fld.TIME_STAT_SRC = 4 then
          t.fldS Reg.TIME_OFFSET Fld.TIME_OFFSET_VALUE = clampInt (-2147483647) 2147483647 off
            ∧ -500000000 ≤ t.tm.rate ∧ t.tm.rate ≤ 500000000
            ∧ RegsBut [Reg.TIME_OFFSET, Reg.TIME_STAT] s t
            ∧ t = { s.tick dt with regs := t.regs, tm := t.tm, free := s.free + 1 }
          else t.tm.rate = s.tm.rate ∧ RegsBut [Reg.TIME_STAT] s t ∧ t = { s.tick dt with regs := t.regs, tm := t.tm }))
  ∧ (∀ (s : State) (dt : Nat), s.sup.phase = 4 → Config.sec 1 ≤ (s.tick dt).sinceLife s.tm.rtcTrimAt →
    Does (.rtcTrim dt) s fun t =>
      t = { s.tick dt with tm := { (s.tick dt).tm with rtc := (s.tick dt).tm.ts, rtcTrimAt := (s.tick dt).tm.life } })
  ∧ (∀ (s : State) (dt : Nat), Does (.ppsOutPulse dt) s fun t =>
      (s.fld Reg.TIME_PPS_CFG Fld.TIME_PPS_CFG_OUT_EN = 0 → t.tm.ppsOut = false)
      ∧ (s.fld Reg.TIME_PPS_CFG Fld.TIME_PPS_CFG_OUT_EN = 1 → s.fld Reg.TIME_PPS_CFG Fld.TIME_PPS_CFG_OUT_VALID_ONLY = 0 →
          (s.tick dt).tm.ts.toNat % Config.sec 1 < Config.fclk → t.tm.ppsOut = true)
      ∧ t = { s.tick dt with tm := t.tm })

/-- TIME_CORRECTION of up to 2 s while VALID is 1 slews the whole correction, at a rate of its sign of at most 500 ppm, and leaves no step;
any other one waits as a step with STEP_PEND 1. TIME_STEP_APPLY at a boundary that has applied none adds the step to the timestamp,
clears STEP_PEND and sets VALID, posting TIME_STEP where VALID was 1 and TIME_SET where it was 0. TIME_SET_HI by SERVICE, where the write
passes every check, with source SERVICE set, RTC or none sets the source to SERVICE set and stores the word; while the timestamp is
invalid it waits as a step to the pair. TIME_LINE of a new mark renews the die's line, on a running die with VALID 1 also its view that
the line is valid. TIME_LINE_TIMEOUT makes a running die free-run. TIME_QUEUE_SEL selects a queue up to 132 for the path; TIME_QUEUE_CLR
zeroes the selected queue's loss count, but for what this FCLK period has lost, and sets its high water to the fill. The rate a slew
runs with is a free value (log entry 51). -/
def Obligations.TimeSettingRows : Prop :=
  (∀ (s : State) (dt : Nat) (d : Int), Does (.timeCorrection dt d) s fun t =>
      (if s.fld Reg.TIME_STAT Fld.TIME_STAT_VALID = 1 ∧ d.natAbs ≤ Config.sec 2 then
        t.tm.step = none ∧ t.tm.slew = d * 1000000000000 ∧ t.tm.slewRate.sign = d.sign ∧ t.tm.slewRate.natAbs ≤ 500000000
          ∧ t.fld Reg.TIME_STAT Fld.TIME_STAT_STEP_PEND = 0
          ∧ RegsBut [Reg.TIME_STAT] s t
          ∧ t = { s.tick dt with regs := t.regs, tm := t.tm, free := s.free + 1 }
      else t.tm.step = some d ∧ t.tm.slew = 0 ∧ t.fld Reg.TIME_STAT Fld.TIME_STAT_STEP_PEND = 1
          ∧ RegsBut [Reg.TIME_STAT] s t ∧ t = { s.tick dt with regs := t.regs, tm := t.tm }))
  ∧ (∀ (s : State) (dt : Nat) (d : Int), (s.tick dt).atCycleStart = true → s.tm.step = some d → s.tm.stepAt ≠ some s.tm.cycleStart →
    Does (.timeStepApply dt) s fun t =>
      t.tm.ts = (s.tick dt).tm.ts + BitVec.ofInt 64 d ∧ t.tm.step = none
      ∧ t.fld Reg.TIME_STAT Fld.TIME_STAT_STEP_PEND = 0
      ∧ t.fld Reg.TIME_STAT Fld.TIME_STAT_VALID = 1
      ∧ RegsBut [Reg.TIME_STAT] s t
      ∧ (t.ev.posted.drop s.ev.posted.length).map (·.code) =
          [if s.fld Reg.TIME_STAT Fld.TIME_STAT_VALID = 1 then Ev.TIME_STEP else Ev.TIME_SET]
      ∧ t = { s.tick dt with regs := t.regs, tm := t.tm, ev := t.ev, acq := t.acq })
  ∧ (∀ (s : State) (dt : Nat) (acc : Access) (val : Word) (r : RegSpec), Admitted s acc Reg.TIME_SET_HI .svc →
    s.fld Reg.TIME_STAT Fld.TIME_STAT_SRC ≤ 2 → s.specOf Reg.TIME_SET_HI = some r → PlainPasses (s.tick dt) acc Reg.TIME_SET_HI r val →
    Does (.timeSetHi dt acc val) s fun t =>
      t.rd Reg.TIME_SET_HI = val ∧ t.fld Reg.TIME_STAT Fld.TIME_STAT_SRC = 2 ∧ t.tm.svcSet = true
      ∧ (s.fld Reg.TIME_STAT Fld.TIME_STAT_VALID = 0 →
          t.tm.step = some ((val ++ s.rd Reg.TIME_SET_LO) - (s.tick dt).tm.ts).toInt)
      ∧ RegsBut [Reg.TIME_SET_HI, Reg.TIME_STAT] s t
      ∧ t = { s.tick dt with regs := t.regs, tm := t.tm, img := t.img, free := t.free })
  ∧ (∀ (s : State) (dt : Nat), (s.tick dt).markNow ≠ s.tm.lineMark → s.metr.on = false →
    Does (.timeLine dt) s fun t =>
      t = { s.tick dt with tm := { (s.tick dt).tm with timeLineAt := (s.tick dt).tm.life, lineMark := (s.tick dt).markNow } })
  ∧ (∀ (s : State) (dt : Nat), (s.tick dt).markNow ≠ s.tm.lineMark → s.metr.on = true → s.fld Reg.TIME_STAT Fld.TIME_STAT_VALID = 1 →
    Does (.timeLine dt) s fun t =>
      t.metr.lineValid = true ∧ t.metr.timeKnown = true ∧ t.tm.timeLineAt = (s.tick dt).tm.life ∧ t.tm.lineMark = (s.tick dt).markNow
      ∧ t = { s.tick dt with
            regs := t.regs, tm := t.tm, outl := t.outl, metr := t.metr, bill := t.bill, recent := t.recent })
  ∧ (∀ (s : State) (dt : Nat), s.metr.on = true → s.metr.free = false →
    s.timeLineGap ≤ (s.tick dt).sinceLife s.tm.timeLineAt →
    Does (.timeLineTimeout dt) s fun t => t.metr.free = true ∧ t = { s.tick dt with metr := t.metr, bill := t.bill })
  ∧ (∀ (s : State) (dt : Nat) (acc : Access) (val : Word) (r : RegSpec), Admitted s acc Reg.TIME_QUEUE_SEL .all →
    s.specOf Reg.TIME_QUEUE_SEL = some r → PlainPasses (s.tick dt) acc Reg.TIME_QUEUE_SEL r val →
    Does (.timeQueueSel dt acc val) s fun t =>
      t.prd acc.path Reg.TIME_QUEUE_SEL = val &&& 0x7FF ∧ t = { s.tick dt with pregs := t.pregs, tm := t.tm, img := t.img })
  ∧ (∀ (s : State) (dt : Nat) (acc : Access) (val : Word) (x : Side) (n : Nat), Admitted s acc Reg.TIME_QUEUE_CLR .op →
    val.getLsbD 0 = true → fget Fld.TIME_QUEUE_SEL_SIDE (s.prd acc.path Reg.TIME_QUEUE_SEL) = x.code →
    fget Fld.TIME_QUEUE_SEL_QUEUE (s.prd acc.path Reg.TIME_QUEUE_SEL) = n →
    Does (.timeQueueClr dt acc val) s fun t =>
      t.queue x n = { s.queue x n with
        lost := if (s.queue x n).lostAt = (s.tick dt).period then (s.queue x n).lostN else 0
        high := (s.queue x n).entries.length }
      ∧ t = { s.tick dt with queues := t.queues, ev := t.ev })

/-- FAST_SENSE_SAMPLE on a used channel shows the clipped code in FAST_VAL, widens FAST_PEAK to it and sets the comparator's output. Where a
producer of a STALL queue other than the Keeper copy's has waited 4 T_c and has not told so, QUEUE_STALL_TIMEOUT posts QUEUE_STALL and
the producer keeps waiting. DRAM_TAG_GRANT with one requester and none waiting gives it a tag where its class can draw one, and else
lets it wait, the stall beginning now. EVQ_SNAPSHOT gives the path a snapshot of the oldest unread entry. EVQ_POP from the host link
with its snapshot current removes the oldest entry of the active side's queue. FAST_CLR clears every peak and clip count, but for what
this FCLK period counted. BASE_CYCLE_BOUNDARY, where the running cycle has lasted its length, starts the new cycle at this instant,
numbers it next within RUN and leaves no plain write waiting; where none is due it only lets the time pass. The parts of the state that
each of them may change are named, and no others change. -/
def Obligations.QueueAndEventRows : Prop :=
  (∀ (s : State) (dt ch : Nat) (code : Int), ch < 32 → s.fld (Reg.FAST_CFG ch) Fld.FAST_CFG_USED ≠ 0 →
    Does (.fastSenseSample dt ch code) s fun t =>
      t.fldS (Reg.FAST_VAL ch) Fld.FAST_VAL_SAMPLE = clampInt (-32768) 32767 code
      ∧ t.fldS (Reg.FAST_PEAK ch) Fld.FAST_PEAK_MAX = max (s.fldS (Reg.FAST_PEAK ch) Fld.FAST_PEAK_MAX) (clampInt (-32768) 32767 code)
      ∧ t.fldS (Reg.FAST_PEAK ch) Fld.FAST_PEAK_MIN = min (s.fldS (Reg.FAST_PEAK ch) Fld.FAST_PEAK_MIN) (clampInt (-32768) 32767 code)
      ∧ t.bit Reg.FAST_STAT ch = windowOut (s.bit Reg.FAST_STAT ch) (s.fldS (Reg.FAST_WIN ch) Fld.FAST_WIN_LO)
          (s.fldS (Reg.FAST_WIN ch) Fld.FAST_WIN_HI) (s.fld (Reg.FAST_CFG ch) Fld.FAST_CFG_HYST) (clampInt (-32768) 32767 code)
      ∧ RegsBut (Reg.FAST_VAL ch :: Reg.FAST_PEAK ch :: Reg.FAST_STAT :: tripRegs) s t
      ∧ t = { s.tick dt with
            regs := t.regs, queues := t.queues, ev := t.ev, ctx := t.ctx, loop := t.loop, edge := t.edge
            qset := t.qset, ring := t.ring, recent := t.recent, free := t.free })
  ∧ (∀ (s : State) (dt : Nat) (x : Side) (q : Nat) (c : Count), q ≤ 132 → (queueSpec q).1 = 0 → q ≠ 126 →
    (s.queue x q).stall = some c → 4 * s.tc ≤ (s.tick dt).since c → (s.queue x q).stalled = false →
    Does (.queueStallTimeout dt x q) s fun t =>
      t.queue x q = { s.queue x q with stalled := true }
      ∧ Posted Ev.QUEUE_STALL (evArg q 0 0) (s.tick dt) t
      ∧ t = { s.tick dt with queues := t.queues, ev := t.ev })
  ∧ (∀ (s : State) (dt : Nat) (x : Side) (c i : Nat) (p : TagPool), c < 3 →
    p = (SMap.get (fun _ => TagPool.reset) s.tags x.code).settle (s.tick dt).period →
    p.waits = [] →
    Does (.dramTagGrant dt x [] [(c, i)]) s fun t =>
      SMap.get (fun _ => TagPool.reset) t.tags x.code =
        (if p.canGrant c = true then { p.alter c (· + 1) with granted := p.granted ++ [(c, i)] }
          else { p with waits := [⟨c, i, (s.tick dt).tm.mono⟩] })
      ∧ (t.queue x 132).stall = (if p.canGrant c = true then none else some (s.tick dt).tm.mono)
      ∧ t = { s.tick dt with tags := t.tags, queues := t.queues })
  ∧ (∀ (s : State) (dt : Nat) (acc : Access), s.answers acc.path Reg.SYS_EVQ_ENT_0 = true →
    Does (.evqSnapshot dt acc) s fun t =>
      (t.snap acc.path).entry = (s.evq s.serving).head? ∧ t.host.reply = [snapWord (t.snap acc.path) 0]
      ∧ t.ev.queue = s.ev.queue ∧ t = { s.tick dt with ev := t.ev, host := t.host })
  ∧ (∀ (s : State) (dt : Nat) (acc : Access) (val : Word), Admitted s acc Reg.SYS_EVQ_POP .all → acc.path = .host →
    s.fld Reg.HOST_CFG Fld.HOST_CFG_EVQ_OWNER = 0 → fget Fld.SYS_EVQ_POP_POP val = 1 → s.snapCurrent acc.path = true →
    Does (.evqPop dt acc val) s fun t =>
      t.evq s.serving = (s.evq s.serving).tail ∧ t.ev.posted = s.ev.posted
      ∧ t = { s.tick dt with ev := t.ev, host := t.host })
  ∧ (∀ (s : State) (dt : Nat) (acc : Access) (val : Word), Admitted s acc Reg.FAST_CLR .op → fget Fld.FAST_CLR_CLEAR val = 1 →
    Does (.fastClr dt acc val) s fun t =>
      (∀ n < 32, t.rd (Reg.FAST_PEAK n) = 0x80007FFF ∧ t.fld (Reg.FAST_VAL n) Fld.FAST_VAL_CLIPS =
        fget Fld.FAST_VAL_CLIPS ((s.tick dt).counted (Reg.FAST_VAL n)))
      ∧ RegsBut ((List.range 32).map Reg.FAST_PEAK ++ (List.range 32).map Reg.FAST_VAL) s t
      ∧ t.ev.posted = s.ev.posted ∧ t = { s.tick dt with regs := t.regs, ev := t.ev })
  ∧ (∀ (s : State) (dt : Nat) (inp : BoundaryIn), (s.tick dt).boundaryDue = true →
    Does (.baseCycleBoundary dt inp) s fun t =>
      t.tm.cycleStart = (s.tick dt).tm.mono ∧ t.tm.mono = (s.tick dt).tm.mono ∧ t.tm.deferred = []
      ∧ (s.tm.inRun = true → t.tm.cycleN = s.tm.cycleN + 1)
      ∧ t = { s.tick dt with
            regs := t.regs, pregs := t.pregs, tm := t.tm, queues := t.queues, ev := t.ev, img := t.img
            ctx := t.ctx, keep := t.keep, host := t.host, loop := t.loop, edge := t.edge, qset := t.qset
            ring := t.ring, sst := t.sst, outs := t.outs, aloc := t.aloc, cool := t.cool, outl := t.outl
            safe := t.safe, metr := t.metr, bill := t.bill, acq := t.acq, can := t.can, lsw := t.lsw
            mem := t.mem, sup := t.sup, bytes := t.bytes, recent := t.recent, owed := t.owed, free := t.free })
  ∧ (∀ (s : State) (dt : Nat) (inp : BoundaryIn), (s.tick dt).boundaryDue = false →
    Does (.baseCycleBoundary dt inp) s fun t => t = s.tick dt)

/-- For a SERVICE session that the module answers, while no pre-check runs: OPEN erases the slot that R113 names on every side that takes
transfers, sets it WRITING and opens the transfer; CLOSE of an open transfer hands the slot to the pre-check; CANCEL empties the slot.
A word written to the image data window lands in the open slot on every such side and SIZE_KB follows. SLOT_PRECHECK_DONE without
deferral and with a running side leaves the slot VALID with ERR 0 or INVALID with the code of the first failing check. REVOKE in FIELD
of keys that R110 lets go adds them to REVOKE. A value that passes the checks of a plain write, R117's among them, becomes IMG_MIN_VER.
TUNING_STORE_WRITE stores every waiting PERSIST value in the running slot's store, a block written for each. Only the named registers
and parts change. -/
def Obligations.ImageTransferRows : Prop :=
  (∀ (s : State) (dt : Nat) (acc : Access) (n : Nat), Admitted s acc Reg.IMG_XFER_CTRL .svc → s.img.precheck = none → s.transferSlot = n →
    Does (.imgOpen dt acc) s fun t =>
      t.img.xfer = some n ∧ SMap.get (fun _ => 0) t.img.written n = 0
      ∧ t.bytes = (s.runningSides.foldl (fun u x => u.eraseBytes (slotKey x n 0) 0x1000000) s).bytes
      ∧ (∀ x ∈ s.runningSides, t.slotOn x n = 1) ∧ RegsBut (Reg.IMG_XFER_CTRL :: slotRegs n) s t
      ∧ t = { s.tick dt with regs := t.regs, img := t.img, bytes := t.bytes })
  ∧ (∀ (s : State) (dt : Nat) (acc : Access) (n : Nat), Admitted s acc Reg.IMG_XFER_CTRL .svc → s.img.precheck = none → s.img.xfer = some n →
    Does (.imgClose dt acc) s fun t =>
      t.img.xfer = none ∧ t.img.precheck = some n ∧ t = { s.tick dt with img := t.img })
  ∧ (∀ (s : State) (dt : Nat) (acc : Access) (n : Nat), Admitted s acc Reg.IMG_XFER_CTRL .svc → s.img.precheck = none →
    s.img.xfer = some n → n < 2 →
    Does (.imgCancel dt acc) s fun t =>
      t.img.xfer = none ∧ t.slotState n = 0
      ∧ t.bytes = (s.runningSides.foldl (fun u x => u.eraseBytes (slotKey x n 0) 0x1000000) s).bytes
      ∧ RegsBut (slotRegs n) s t
      ∧ t = { s.tick dt with regs := t.regs, img := t.img, bytes := t.bytes })
  ∧ (∀ (s : State) (dt : Nat) (acc : Access) (addr : Nat) (val : Word) (n : Nat), addr < 0x8000 → addr % 4 = 0 →
    Admitted s acc (0x18000 + addr) .svc → s.img.xfer = some n →
    Does (.imgDataWrite dt acc addr val) s fun t =>
      t.bytes = (s.runningSides.foldl (fun u x =>
        u.setWordAt (slotKey x n (0x8000 * s.fld Reg.IMG_XFER_OFS Fld.IMG_XFER_OFS_PART + addr)) val) s).bytes
      ∧ RegsBut (slotRegs n) s t ∧ t = { s.tick dt with regs := t.regs, img := t.img, bytes := t.bytes })
  ∧ (∀ (s : State) (dt n : Nat), s.img.precheck = some n → (s.tick dt).deferring = false → s.runningSides ≠ [] → n < 2 →
    Does (.slotPrecheckDone dt) s fun t =>
      t.img.precheck = none
      ∧ t.slotState n = (if (s.runningSides.findSome? fun x => s.checkSlot x n).isSome then 2 else 3)
      ∧ t.fld (Reg.IMG_SLOT_STAT n) Fld.IMG_SLOT_STAT_ERR =
          (match s.runningSides.findSome? fun x => s.checkSlot x n with | some e => e.1 % 256 | none => 0)
      ∧ RegsBut (slotRegs n) s t ∧ t = { s.tick dt with regs := t.regs, img := t.img })
  ∧ (∀ (s : State) (dt : Nat) (acc : Access) (val : Word), Admitted s acc Reg.IMG_KEY_STAT .svc → (s.tick dt).inField = true →
    fget Fld.IMG_KEY_STAT_REVOKE val ≠ 0 → s.img.running = none →
    ([0, 1, 2, 3].any fun k => (s.fld Reg.IMG_KEY_STAT Fld.IMG_KEY_STAT_LOADED).testBit k
      && !(s.fld Reg.IMG_KEY_STAT Fld.IMG_KEY_STAT_REVOKE ||| fget Fld.IMG_KEY_STAT_REVOKE val).testBit k) = true →
    Does (.imgRevoke dt acc val) s fun t =>
      t.fld Reg.IMG_KEY_STAT Fld.IMG_KEY_STAT_REVOKE =
        s.fld Reg.IMG_KEY_STAT Fld.IMG_KEY_STAT_REVOKE ||| fget Fld.IMG_KEY_STAT_REVOKE val
      ∧ RegsBut [Reg.IMG_KEY_STAT] s t ∧ t = { s.tick dt with regs := t.regs })
  ∧ (∀ (s : State) (dt : Nat) (acc : Access) (val : Word) (r : RegSpec), Admitted s acc Reg.IMG_MIN_VER .all →
    s.specOf Reg.IMG_MIN_VER = some r → PlainPasses (s.tick dt) acc Reg.IMG_MIN_VER r val →
    Does (.imgMinVerWrite dt acc val) s fun t =>
      t.rd Reg.IMG_MIN_VER = val ∧ RegsBut [Reg.IMG_MIN_VER] s t ∧ t = { s.tick dt with regs := t.regs, tm := t.tm, img := t.img })
  ∧ (∀ (s : State) (dt n : Nat), s.img.running = some n →
    Does (.tuningStoreWrite dt) s fun t =>
      SMap.get (fun _ => []) t.img.tuning n = s.img.tuneDue.foldl tunePut (SMap.get (fun _ => []) s.img.tuning n)
      ∧ t.img.tuneDue = []
      ∧ SMap.get (fun _ => 0) t.mem.wear n = SMap.get (fun _ => 0) s.mem.wear n + s.img.tuneDue.length
      ∧ t = { s.tick dt with img := t.img, mem := t.mem })

/-- IMAGE_LOAD at start runs the boot slot if it passes every check, else the other slot if it is VALID and passes, else no slot
(SAFE_HOLD). ACTIVATE of a slot that R123 lets in starts the activation of TARGET, remembering the slot that ran. CONFIRM with a trial
under way makes the running slot the boot slot and ends the trial. ACTIVATION_DONE ends the activation; with no former slot and a
failed target no slot runs. BOOT_WINDOW_EXPIRY after WINDOW minutes sets REVERT_DUE and posts IMG_REVERT_DUE. REVERT_START at a
boundary at rest starts the activation of the boot slot. Parts not named keep their values. -/
def Obligations.ImageRunRows : Prop :=
  (∀ (s : State) (dt boot : Nat), s.mode = 0 → s.sup.phase = 4 → s.keep.guardFault = false → s.mayLoad = true → s.img.tuneLost = false →
    s.fld Reg.IMG_SLOT_CTRL Fld.IMG_SLOT_CTRL_BOOT = boot →
    Does (.imageLoad dt) s fun t =>
      t.img.running =
        (if ((s.tick dt).tryLoad boot).2 then some boot
        else if ((s.tick dt).tryLoad boot).1.slotState (1 - boot) = 3 ∧ (((s.tick dt).tryLoad boot).1.tryLoad (1 - boot)).2 then
          some (1 - boot)
        else none)
      ∧ t = { s.tick dt with
            regs := t.regs, pregs := t.pregs, queues := t.queues, ev := t.ev, img := t.img, keep := t.keep, loop := t.loop
            edge := t.edge, ring := t.ring, sst := t.sst, outs := t.outs, cool := t.cool, outl := t.outl, safe := t.safe, acq := t.acq
            can := t.can, lsw := t.lsw, bytes := t.bytes, recent := t.recent, free := t.free })
  ∧ (∀ (s : State) (dt : Nat) (acc : Access) (val : Word) (n : Nat) (r : RegSpec), Admitted s acc Reg.IMG_SLOT_CTRL .all →
    acc.role = .service → s.specOf Reg.IMG_SLOT_CTRL = some r → PlainPasses (s.tick dt).showRest acc Reg.IMG_SLOT_CTRL r val →
    fget Fld.IMG_SLOT_CTRL_CONFIRM val = 0 → fget Fld.IMG_SLOT_CTRL_ACTIVATE val = 1 → fget Fld.IMG_SLOT_CTRL_TARGET val = n →
    (s.tick dt).deferring = false → s.mayActivate n = true →
    Does (.imgActivate dt acc val) s fun t =>
      t.img.act = some ⟨n, s.img.running⟩ ∧ t.img.running = s.img.running ∧ t = { s.tick dt with
            regs := t.regs, pregs := t.pregs, tm := t.tm, queues := t.queues, ev := t.ev, img := t.img, edge := t.edge, ring := t.ring
            sst := t.sst, outl := t.outl, safe := t.safe, acq := t.acq, lsw := t.lsw, bytes := t.bytes, recent := t.recent
            free := t.free })
  ∧ (∀ (s : State) (dt : Nat) (acc : Access) (val : Word) (r : RegSpec), Admitted s acc Reg.IMG_SLOT_CTRL .all →
    acc.role = .service → s.specOf Reg.IMG_SLOT_CTRL = some r → PlainPasses (s.tick dt).showRest acc Reg.IMG_SLOT_CTRL r val →
    fget Fld.IMG_SLOT_CTRL_CONFIRM val = 1 → fget Fld.IMG_SLOT_CTRL_ACTIVATE val = 0 →
    s.fld Reg.IMG_STAT Fld.IMG_STAT_BOOT_TRIAL = 1 → s.img.act = none →
    Does (.imgConfirm dt acc val) s fun t =>
      t.fld Reg.IMG_SLOT_CTRL Fld.IMG_SLOT_CTRL_BOOT = s.img.running.getD 0 % 2
      ∧ t.fld Reg.IMG_STAT Fld.IMG_STAT_BOOT_TRIAL = 0 ∧ t.fld Reg.IMG_STAT Fld.IMG_STAT_REVERT_DUE = 0
      ∧ RegsBut [Reg.IMG_SLOT_CTRL, Reg.IMG_STAT] s t ∧ t = { s.tick dt with regs := t.regs, tm := t.tm, img := t.img })
  ∧ (∀ (s : State) (dt : Nat) (a : Activation), s.keep.guardFault = false → s.img.act = some a →
    Does (.activationDone dt) s fun t =>
      t.img.act = none
      ∧ (a.former = none → t.img.running =
          if ({ s.tick dt with img := { s.img with act := none } }.tryLoad a.target).2 then some a.target else none)
      ∧ t = { s.tick dt with
            regs := t.regs, pregs := t.pregs, tm := t.tm, queues := t.queues, ev := t.ev, img := t.img
            ctx := t.ctx, keep := t.keep, host := t.host, loop := t.loop, edge := t.edge, ring := t.ring
            sst := t.sst, outs := t.outs, cool := t.cool, outl := t.outl, safe := t.safe, bill := t.bill, acq := t.acq
            can := t.can, lsw := t.lsw, bytes := t.bytes, recent := t.recent, free := t.free })
  ∧ (∀ (s : State) (dt : Nat), s.fld Reg.IMG_STAT Fld.IMG_STAT_BOOT_TRIAL = 1 → s.fld Reg.IMG_STAT Fld.IMG_STAT_REVERT_DUE = 0 →
    Config.sec (60 * s.fld Reg.IMG_SLOT_CTRL Fld.IMG_SLOT_CTRL_WINDOW) ≤ (s.tick dt).since s.img.trialStart →
    Does (.bootWindowExpiry dt) s fun t =>
      t.fld Reg.IMG_STAT Fld.IMG_STAT_REVERT_DUE = 1 ∧ Posted Ev.IMG_REVERT_DUE (evArg 0xFFF 0 0) (s.tick dt) t
      ∧ RegsBut [Reg.IMG_STAT] s t ∧ t = { s.tick dt with regs := t.regs, ev := t.ev })
  ∧ (∀ (s : State) (dt : Nat), s.fld Reg.IMG_STAT Fld.IMG_STAT_REVERT_DUE = 1 → s.img.act = none → (s.tick dt).atCycleStart = true →
    s.atRest = true → s.contextsIdle = true →
    Does (.revertStart dt) s fun t =>
      t.img.act = some ⟨s.fld Reg.IMG_SLOT_CTRL Fld.IMG_SLOT_CTRL_BOOT, s.img.running⟩ ∧ t.img.running = s.img.running ∧ t = { s.tick dt with
            regs := t.regs, pregs := t.pregs, queues := t.queues, ev := t.ev, img := t.img, edge := t.edge, ring := t.ring, sst := t.sst
            outl := t.outl, safe := t.safe, acq := t.acq, lsw := t.lsw, bytes := t.bytes, recent := t.recent, free := t.free })

/-- For context n below 4 and a session that the module answers: BEGIN of an IDLE context by a role above READER that holds no other opens
it for that session and role with no entries. COMMIT and COMMIT_TRIAL of the session's OPEN context freeze the entries and start
validation, with the TRIAL register's WATCH and WINDOW_MS. ABORT of the session's OPEN context ends it ABORTED (6). ABORT of its TRIAL
schedules a rollback with reason OWNER (0xE). CONFIRM of its TRIAL without a due rollback is noted. A write to IMG_TXN_TRIAL_n of the
session's OPEN context with WINDOW_MS from 10 up is taken. Registers, entries and every other part keep their values. -/
def Obligations.TransactionCommandRows : Prop :=
  (∀ (s : State) (dt : Nat) (acc : Access) (n : Nat), n < 4 → Admitted s acc (Reg.IMG_TXN_CTRL n) .all → acc.role ≠ .reader →
    (s.context n).state = .idle → s.heldBy acc = none →
    Does (.txnBegin dt acc n) s fun t =>
      (t.context n).state = .opened ∧ (t.context n).role = acc.role ∧ (t.context n).ownedBy acc = true
      ∧ (t.context n).entries = [] ∧ (t.context n).count = 0 ∧ t = { s.tick dt with ctx := t.ctx })
  ∧ (∀ (s : State) (dt : Nat) (acc : Access) (n : Nat), n < 4 → Admitted s acc (Reg.IMG_TXN_CTRL n) .all →
    (s.context n).state = .opened → (s.context n).ownedBy acc = true →
    Does (.txnCommit dt acc n) s fun t =>
      (t.context n).state = .validating ∧ (t.context n).isTrial = false ∧ (t.context n).entries = (s.context n).entries
      ∧ t = { s.tick dt with ctx := t.ctx })
  ∧ (∀ (s : State) (dt : Nat) (acc : Access) (n : Nat), n < 4 → Admitted s acc (Reg.IMG_TXN_CTRL n) .all →
    (s.context n).state = .opened → (s.context n).ownedBy acc = true →
    Does (.txnCommitTrial dt acc n) s fun t =>
      (t.context n).state = .validating ∧ (t.context n).isTrial = true ∧ (t.context n).entries = (s.context n).entries
      ∧ (t.context n).watch = s.fld (Reg.IMG_TXN_TRIAL n) Fld.IMG_TXN_TRIAL_WATCH
      ∧ (t.context n).window = s.fld (Reg.IMG_TXN_TRIAL n) Fld.IMG_TXN_TRIAL_WINDOW_MS
      ∧ t = { s.tick dt with ctx := t.ctx })
  ∧ (∀ (s : State) (dt : Nat) (acc : Access) (n : Nat), n < 4 → Admitted s acc (Reg.IMG_TXN_CTRL n) .all →
    (s.context n).state = .opened → (s.context n).ownedBy acc = true →
    Does (.txnAbort dt acc n) s fun t =>
      (t.context n).state = .idle ∧ (t.context n).result = 6 ∧ (t.context n).reason = 0 ∧ (t.context n).entries = []
      ∧ t = { s.tick dt with ctx := t.ctx })
  ∧ (∀ (s : State) (dt : Nat) (acc : Access) (n : Nat), n < 4 → Admitted s acc (Reg.IMG_TXN_CTRL n) .all →
    (s.context n).state = .trial → (s.context n).ownedBy acc = true → (s.context n).rollback = none →
    Does (.txnAbort dt acc n) s fun t =>
      (t.context n).state = .trial ∧ (t.context n).rollback = some 0xE ∧ (t.context n).confirm = false
      ∧ (t.context n).undo = (s.context n).undo ∧ t = { s.tick dt with ctx := t.ctx, ev := t.ev })
  ∧ (∀ (s : State) (dt : Nat) (acc : Access) (n : Nat), n < 4 → Admitted s acc (Reg.IMG_TXN_CTRL n) .all →
    (s.context n).state = .trial → (s.context n).ownedBy acc = true → (s.context n).rollback = none →
    Does (.txnConfirm dt acc n) s fun t =>
      (t.context n).state = .trial ∧ (t.context n).confirm = true ∧ (t.context n).undo = (s.context n).undo
      ∧ t = { s.tick dt with ctx := t.ctx })
  ∧ (∀ (s : State) (dt : Nat) (acc : Access) (n : Nat) (val : Word), n < 4 → Admitted s acc (Reg.IMG_TXN_TRIAL n) .all →
    (s.context n).state = .opened → (s.context n).ownedBy acc = true → 10 ≤ fget Fld.IMG_TXN_TRIAL_WINDOW_MS val →
    Does (.imgTxnTrialWrite dt acc n val) s fun t =>
      t.rd (Reg.IMG_TXN_TRIAL n) = val &&& 0x1F00FFFF ∧ RegsBut [Reg.IMG_TXN_TRIAL n] s t ∧ t = { s.tick dt with regs := t.regs })

/-- TXN_VALIDATION_DONE leaves a VALIDATING context PENDING where every check of R141 passes, and otherwise IDLE with RESULT REFUSED (5),
the first failing check's REASON and TXN_REFUSED posted. TXN_FLIP at a boundary with no context due changes nothing; with one non-trial
context due whose entries name no sealed register, that context ends IDLE with RESULT COMMITTED (1), or COMMITTED_LATE (2) where a
fail-over made it late. TXN_CONFIRM_EFFECT ends a confirmed trial CONFIRMED (3). TXN_IDLE_TIMEOUT after IDLE_TMO ends an OPEN context
EXPIRED (7). TXN_TRIAL_TIMEOUT after WINDOW_MS schedules a rollback with reason TIMEOUT (8). TXN_ROLLBACK at the boundary ends the
trial ROLLED_BACK (4) with the reason and posts TXN_ROLLED_BACK. -/
def Obligations.TransactionTimerRows : Prop :=
  (∀ (s : State) (dt n : Nat), n < 4 → (s.context n).state = .validating →
    Does (.txnValidationDone dt n) s fun t =>
      (if s.validate (s.context n) = 0 then (t.context n).state = .pend ∧ (t.context n).entries = (s.context n).entries
          ∧ Silent s t
        else (t.context n).state = .idle ∧ (t.context n).result = 5 ∧ (t.context n).reason = s.validate (s.context n)
          ∧ Posted Ev.TXN_REFUSED (evArg n (s.validate (s.context n)) 0) (s.tick dt) t)
      ∧ t = { s.tick dt with ctx := t.ctx, ev := t.ev })
  ∧ (∀ (s : State) (dt n : Nat), (s.tick dt).atCycleStart = true → (s.tick dt).flipping = [n] → (s.context n).isTrial = false →
    ((s.context n).entries.any fun e => (s.tick dt).changesCode (s.context n).path .rws e) = false →
    Does (.txnFlip dt) s fun t =>
      (t.context n).state = .idle ∧ (t.context n).result = (if (s.context n).late then 2 else 1) ∧ (t.context n).entries = []
      ∧ (t.ev.posted.getLast?).map (·.code) = some Ev.TXN_COMMITTED
      ∧ t = { s.tick dt with
            regs := t.regs, pregs := t.pregs, tm := t.tm, ev := t.ev, img := t.img, ctx := t.ctx, keep := t.keep
            edge := t.edge, ring := t.ring, sst := t.sst, safe := t.safe, metr := t.metr, bill := t.bill
            acq := t.acq, can := t.can, sup := t.sup, bytes := t.bytes, free := t.free })
  ∧ (∀ (s : State) (dt n : Nat), n < 4 → (s.tick dt).atCycleStart = true → (s.context n).state = .trial → (s.context n).confirm = true →
    (s.context n).rollback = none →
    Does (.txnConfirmEffect dt n) s fun t =>
      (t.context n).state = .idle ∧ (t.context n).result = 3 ∧ (t.context n).reason = 0
      ∧ t = { s.tick dt with ctx := t.ctx, img := t.img, tm := t.tm, keep := t.keep })
  ∧ (∀ (s : State) (dt n : Nat), n < 4 → (s.context n).state = .opened →
    Config.msec (100 * s.fld Reg.IMG_TXN_CFG Fld.IMG_TXN_CFG_IDLE_TMO) ≤ (s.tick dt).since (s.context n).since →
    Does (.txnIdleTimeout dt n) s fun t =>
      (t.context n).state = .idle ∧ (t.context n).result = 7 ∧ (t.context n).entries = [] ∧ t = { s.tick dt with ctx := t.ctx })
  ∧ (∀ (s : State) (dt n : Nat), n < 4 → (s.context n).state = .trial → (s.context n).confirm = false → (s.context n).rollback = none →
    Config.msec (s.context n).window ≤ (s.tick dt).since (s.context n).since →
    Does (.txnTrialTimeout dt n) s fun t =>
      (t.context n).state = .trial ∧ (t.context n).rollback = some 8 ∧ t = { s.tick dt with ctx := t.ctx })
  ∧ (∀ (s : State) (dt n r : Nat), n < 4 → (s.tick dt).atCycleStart = true → (s.context n).state = .trial → (s.context n).rollback = some r →
    Does (.txnRollback dt n) s fun t =>
      (t.context n).state = .idle ∧ (t.context n).result = 4 ∧ (t.context n).reason = r
      ∧ (t.ev.posted.getLast?).map (·.code) = some Ev.TXN_ROLLED_BACK
      ∧ t = { s.tick dt with
            regs := t.regs, pregs := t.pregs, tm := t.tm, ev := t.ev, ctx := t.ctx, keep := t.keep, edge := t.edge
            ring := t.ring, sst := t.sst, safe := t.safe, metr := t.metr, bill := t.bill, acq := t.acq
            can := t.can, sup := t.sup, bytes := t.bytes })

/-- While the Guard die acts: where at the deadline (BEACON_DEADLINE) the Beacon that the ACTIVE Side A sent has not arrived, beside none of
a STANDBY Side B that is bad, the module fails over, leaving A FAILED and B ACTIVE; with Side B OFF orphan control begins. A fault line
of a STANDBY side sends it to FAILED, with the HEALTH flag that the side sets or with the reset that PWR_SIDE_RST records. More than 16
errors of a lane in service mark it for replacement and post KEEP_LANE. A boot that passes every check makes Side A ACTIVE where no
side is, and sends it to BULK where one is. BULK_CONVERGED of a transfer that is done in time leads to SHADOW, BULK_TIMEOUT after 250 ms
to FAILED, 256 clean cycles (SHADOW_COMPLETE) to STANDBY. SIDE_READMIT takes a FAILED side that may return to OFF, and
SIDE_RESET_RELEASE after 1 ms from OFF to BOOT. The other side's record stays but in a fail-over. -/
def Obligations.RedundancyFaultRows : Prop :=
  (∀ (s : State) (dt : Nat) (b : BeaconIn), s.guardActs = true → (s.tick dt).deadlineDue = true → (s.side .a).state = .active →
    (s.side .b).state = .standby → (s.beacon .a).isSome = true → s.verdict .b (s.arrived .b b) = none →
    Does (.beaconDeadline dt .none b) s fun t =>
      (t.side .a).state = .failed ∧ (t.side .b).state = .active ∧ t = { s.tick dt with
            regs := t.regs, pregs := t.pregs, tm := t.tm, queues := t.queues, ev := t.ev, img := t.img
            ctx := t.ctx, keep := t.keep, host := t.host, edge := t.edge, ring := t.ring, sst := t.sst
            outl := t.outl, safe := t.safe, bill := t.bill, acq := t.acq, can := t.can, lsw := t.lsw
            bytes := t.bytes, recent := t.recent, free := t.free })
  ∧ (∀ (s : State) (dt : Nat) (b : BeaconIn), s.guardActs = true → (s.tick dt).deadlineDue = true → (s.side .a).state = .active →
    (s.side .b).state = .off → (s.beacon .a).isSome = true →
    Does (.beaconDeadline dt .none b) s fun t =>
      (t.side .a).state = .failed ∧ (t.side .b).state = .off ∧ t.keep.orphan = true
      ∧ (t.ev.posted.getLast?).map (·.code) = some Ev.ORPHAN_ENTRY ∧ t = { s.tick dt with
            regs := t.regs, pregs := t.pregs, tm := t.tm, queues := t.queues, ev := t.ev, img := t.img
            ctx := t.ctx, keep := t.keep, host := t.host, edge := t.edge, ring := t.ring, sst := t.sst
            outl := t.outl, safe := t.safe, bill := t.bill, acq := t.acq, can := t.can, lsw := t.lsw
            bytes := t.bytes, recent := t.recent, free := t.free })
  ∧ (∀ (s : State) (dt : Nat) (x : Side) (why : FaultWhy) (bit : Nat), s.guardActs = true → (s.side x).state = .standby → why.bit = some bit →
    Does (.faultLineAsserted dt x why) s fun t =>
      (t.side x).state = .failed ∧ (t.side x).flags.testBit bit = true ∧ t.side x.other = s.side x.other ∧ t.keep.linkTrained = false
      ∧ Posted Ev.STANDBY_LOST (evArg x.code 0 0) (s.tick dt) t
      ∧ RegsBut [Reg.KEEP_STAT, Reg.SAFE_STAT] s t
      ∧ t = { s.tick dt with
            regs := t.regs, queues := t.queues, ev := t.ev, keep := t.keep, safe := t.safe, acq := t.acq })
  ∧ (∀ (s : State) (dt : Nat) (x : Side) (code : Nat), s.guardActs = true → (s.side x).state = .standby →
    Does (.faultLineAsserted dt x (.reset code)) s fun t =>
      (t.side x).state = .failed ∧ t.side x.other = s.side x.other ∧ t.keep.linkTrained = false
      ∧ t.fld (Reg.PWR_SIDE_RST x.code) Fld.PWR_SIDE_RST_LAST = code % 16
      ∧ RegsBut [Reg.KEEP_STAT, Reg.SAFE_STAT, Reg.PWR_SIDE_RST x.code] s t
      ∧ t = { s.tick dt with
            regs := t.regs, queues := t.queues, ev := t.ev, keep := t.keep, safe := t.safe, acq := t.acq, mem := t.mem
            bytes := t.bytes, recent := t.recent })
  ∧ (∀ (s : State) (dt : Nat) (back : Bool) (lane errors : Nat), lane < 9 → 16 < errors →
    s.bit Reg.KEEP_LANES (lane + 9 * flag back) = true → s.keep.laneDue.contains (lane + 9 * flag back) = false →
    Does (.keeperLaneFault dt back lane errors) s fun t =>
      t.keep = { s.keep with laneDue := s.keep.laneDue ++ [lane + 9 * flag back] }
      ∧ Posted Ev.KEEP_LANE (evArg lane 0 0) (s.tick dt) t ∧ t = { s.tick dt with keep := t.keep, ev := t.ev })
  ∧ (∀ (s : State) (dt : Nat) (e : BootEnd), s.guardActs = true → (s.side .a).state = .boot → e.selfTest = true → e.bank = some false →
    s.bootPasses e = true → s.mem.wipePend = [] →
    Does (.sideBootDone dt (some e) none) s fun t =>
      (t.side .a).state = (if s.hasActive then .bulk else .active) ∧ (t.side .b).state = (s.side .b).state ∧ t = { s.tick dt with
            regs := t.regs, pregs := t.pregs, queues := t.queues, ev := t.ev, img := t.img, ctx := t.ctx, keep := t.keep
            host := t.host, edge := t.edge, sst := t.sst, outs := t.outs, outl := t.outl, safe := t.safe
            acq := t.acq, lsw := t.lsw, mem := t.mem, bytes := t.bytes, recent := t.recent, free := t.free })
  ∧ (∀ (s : State) (dt : Nat) (x : Side), s.guardActs = true → (s.side x).state = .bulk → s.bulkDone = true →
    (s.tick dt).since (s.side x).since < Config.msec 250 →
    Does (.bulkConverged dt x) s fun t =>
      (t.side x).state = .shadow ∧ (t.side x).clean = 0 ∧ t.side x.other = s.side x.other
      ∧ t.fld Reg.KEEP_RESYNC Fld.KEEP_RESYNC_SHADOW_LEFT = 256 ∧ t.fld Reg.KEEP_RESYNC Fld.KEEP_RESYNC_PROGRESS = 100 ∧ t = { s.tick dt with
            regs := t.regs, queues := t.queues, keep := t.keep, loop := t.loop, edge := t.edge, safe := t.safe
            acq := t.acq, can := t.can, bytes := t.bytes })
  ∧ (∀ (s : State) (dt : Nat) (x : Side), s.guardActs = true → (s.side x).state = .bulk →
    Config.msec 250 ≤ (s.tick dt).since (s.side x).since →
    Does (.bulkTimeout dt x) s fun t =>
      (t.side x).state = .failed ∧ t.side x.other = s.side x.other
      ∧ Posted Ev.RESYNC_FAIL (evArg x.code 0 0) (s.tick dt) t ∧ RegsBut [Reg.KEEP_STAT, Reg.SAFE_STAT] s t
      ∧ t = { s.tick dt with
            regs := t.regs, queues := t.queues, ev := t.ev, keep := t.keep, safe := t.safe, acq := t.acq })
  ∧ (∀ (s : State) (dt : Nat) (x : Side), s.guardActs = true → (s.side x).state = .shadow → 256 ≤ (s.side x).clean →
    Does (.shadowComplete dt x) s fun t =>
      (t.side x).state = .standby ∧ t.side x.other = s.side x.other
      ∧ Posted Ev.RESYNC_DONE (evArg x.code 0 0) (s.tick dt) t ∧ RegsBut [Reg.SAFE_STAT] s t
      ∧ t = { s.tick dt with
            regs := t.regs, queues := t.queues, ev := t.ev, keep := t.keep, safe := t.safe, acq := t.acq })
  ∧ (∀ (s : State) (dt : Nat) (x : Side), s.guardActs = true → (s.side x).state = .failed → (s.side x).noReadmit = false →
    ((s.tick dt).lastDay (s.side x).readmits).length < s.fld Reg.KEEP_CFG Fld.KEEP_CFG_READMIT_MAX →
    Does (.sideReadmit dt x) s fun t =>
      (t.side x).state = .off ∧ (t.side x).readmits = (s.tick dt).lastDay (s.side x).readmits ++ [(s.tick dt).tm.mono]
      ∧ t.side x.other = s.side x.other ∧ t.fld (Reg.PWR_SIDE_RST x.code) Fld.PWR_SIDE_RST_LAST = 4
      ∧ RegsBut [Reg.KEEP_STAT, Reg.SAFE_STAT, Reg.PWR_SIDE_RST x.code] s t
      ∧ t = { s.tick dt with
            regs := t.regs, queues := t.queues, keep := t.keep, safe := t.safe, acq := t.acq, mem := t.mem, bytes := t.bytes
            recent := t.recent })
  ∧ (∀ (s : State) (dt : Nat) (x : Side), s.guardActs = true → (s.side x).state = .off → Config.msec 1 ≤ (s.tick dt).since (s.side x).since →
    Does (.sideResetRelease dt x) s fun t =>
      (t.side x).state = .boot ∧ t.side x.other = s.side x.other ∧ RegsBut [Reg.KEEP_STAT, Reg.SAFE_STAT] s t
      ∧ t = { s.tick dt with regs := t.regs, queues := t.queues, keep := t.keep, safe := t.safe, acq := t.acq })

/-- SWITCH by SERVICE where R191 allows it is kept as a request and moves no side. SWITCHOVER at the first boundary 2 µs after the request,
the conditions still holding, makes the STANDBY side ACTIVE and the ACTIVE side SHADOW, and ends the request. TAKE_OUT of a STANDBY
Side B beside the ACTIVE Side A sends B to FAILED without re-admission, posting TAKEN_OUT. RESYNC_A and RESYNC_B take a FAILED side to
OFF whatever the count of re-admissions. KEEP_CLR clears KEEP_MISS, KEEP_FENCE_DISC (but for what was counted in this FCLK period) and
KEEP_COPY.MAX, and no other register. -/
def Obligations.RedundancyCommandRows : Prop :=
  (∀ (s : State) (dt : Nat) (acc : Access) (val : Word), Admitted s acc Reg.KEEP_CTRL .svc → fget Fld.KEEP_CTRL_SWITCH val = 1 →
    fget Fld.KEEP_CTRL_RESYNC_A val = 0 → fget Fld.KEEP_CTRL_RESYNC_B val = 0 → fget Fld.KEEP_CTRL_TAKE_OUT val = 0 → s.maySwitch = true →
    Does (.keepSwitch dt acc val) s fun t =>
      t.keep = { s.keep with switchReq := some (s.keep.switchReq.getD (s.tick dt).tm.mono) } ∧ t = { s.tick dt with keep := t.keep })
  ∧ (∀ (s : State) (dt : Nat) (x : Side) (c : Count), (s.tick dt).atCycleStart = true → s.keep.switchReq = some c →
    Config.usec 2 ≤ (s.tick dt).since c → s.maySwitch = true → (s.side x).state = .active → (s.side x.other).state = .standby →
    Does (.switchover dt) s fun t =>
      (t.side x).state = .shadow ∧ (t.side x.other).state = .active ∧ t.keep.switchReq = none
      ∧ (t.ev.posted.getLast?).map (·.code) = some Ev.SWITCHOVER ∧ t = { s.tick dt with
            regs := t.regs, queues := t.queues, ev := t.ev, keep := t.keep, edge := t.edge, ring := t.ring, safe := t.safe
            acq := t.acq, can := t.can, recent := t.recent, free := t.free })
  ∧ (∀ (s : State) (dt : Nat) (acc : Access) (val : Word), Admitted s acc Reg.KEEP_CTRL .svc → fget Fld.KEEP_CTRL_TAKE_OUT val = 1 →
    fget Fld.KEEP_CTRL_RESYNC_A val = 0 → fget Fld.KEEP_CTRL_RESYNC_B val = 0 → fget Fld.KEEP_CTRL_SWITCH val = 0 →
    s.keep.guardFault = false → (s.side .a).state = .active → (s.side .b).state = .standby →
    Does (.keepTakeOut dt acc val) s fun t =>
      (t.side .b).state = .failed ∧ (t.side .b).noReadmit = true ∧ t.side .a = s.side .a
      ∧ Posted Ev.TAKEN_OUT (evArg 1 0 0) (s.tick dt) t
      ∧ RegsBut [Reg.KEEP_STAT, Reg.SAFE_STAT, Reg.PWR_SIDE_RST 1] s t
      ∧ t = { s.tick dt with
            regs := t.regs, queues := t.queues, ev := t.ev, keep := t.keep, safe := t.safe, acq := t.acq, mem := t.mem
            bytes := t.bytes, recent := t.recent })
  ∧ (∀ (s : State) (dt : Nat) (acc : Access) (val : Word), Admitted s acc Reg.KEEP_CTRL .svc → fget Fld.KEEP_CTRL_RESYNC_A val = 1 →
    fget Fld.KEEP_CTRL_TAKE_OUT val = 0 → fget Fld.KEEP_CTRL_RESYNC_B val = 0 → fget Fld.KEEP_CTRL_SWITCH val = 0 →
    s.keep.guardFault = false → (s.side .a).state = .failed →
    Does (.keepResyncA dt acc val) s fun t =>
      (t.side .a).state = .off ∧ t.side .b = s.side .b
      ∧ RegsBut [Reg.KEEP_STAT, Reg.SAFE_STAT, Reg.PWR_SIDE_RST 0] s t
      ∧ t = { s.tick dt with
            regs := t.regs, queues := t.queues, keep := t.keep, safe := t.safe, acq := t.acq, mem := t.mem
            bytes := t.bytes, recent := t.recent })
  ∧ (∀ (s : State) (dt : Nat) (acc : Access) (val : Word), Admitted s acc Reg.KEEP_CTRL .svc → fget Fld.KEEP_CTRL_RESYNC_B val = 1 →
    fget Fld.KEEP_CTRL_TAKE_OUT val = 0 → fget Fld.KEEP_CTRL_RESYNC_A val = 0 → fget Fld.KEEP_CTRL_SWITCH val = 0 →
    s.keep.guardFault = false → (s.side .b).state = .failed →
    Does (.keepResyncB dt acc val) s fun t =>
      (t.side .b).state = .off ∧ t.side .a = s.side .a
      ∧ RegsBut [Reg.KEEP_STAT, Reg.SAFE_STAT, Reg.PWR_SIDE_RST 1] s t
      ∧ t = { s.tick dt with
            regs := t.regs, queues := t.queues, keep := t.keep, safe := t.safe, acq := t.acq, mem := t.mem
            bytes := t.bytes, recent := t.recent })
  ∧ (∀ (s : State) (dt : Nat) (acc : Access) (val : Word), Admitted s acc Reg.KEEP_CLR .op → val.getLsbD 0 = true →
    Does (.keepClr dt acc val) s fun t =>
      t.rd Reg.KEEP_MISS = (s.tick dt).counted Reg.KEEP_MISS ∧ t.rd Reg.KEEP_FENCE_DISC = (s.tick dt).counted Reg.KEEP_FENCE_DISC
      ∧ t.fld Reg.KEEP_COPY Fld.KEEP_COPY_MAX = 0
      ∧ RegsBut [Reg.KEEP_MISS, Reg.KEEP_FENCE_DISC, Reg.KEEP_COPY] s t
      ∧ t.ev.posted = s.ev.posted ∧ t = { s.tick dt with regs := t.regs, ev := t.ev })

/-- For a tile whose program is under way, u the tile with the presets due loaded: MAC, MSU and MACZ leave the accumulator at the saturated
sum with floor(c × X / 2^s), ACC_OVF set exactly where it saturated, and change no word; a residue mismatch of an operation on the multiply-accumulate unit (BIQ among them) sets the tile's RESIDUE and the
side's HEALTH flag, and its fault line takes a STANDBY side to FAILED.
STORE writes the extracted, rounded and saturated word. ADD, SUB, NEG, ABS, MIN, MAX and SCALE write the saturated result, with SAT
where it saturated. The other words, the accumulators, the conditions, every other tile and every other part keep their values; the
program goes on by one instruction. A word that holds no meaning (R199) is a free value. -/
def Obligations.TileArithmeticRows : Prop :=
  (∀ (s : State) (dt : Nat) (x : Side) (n : Nat) (a k : Nat) (src : Opnd) (u : Tile) (p : State), u = s.readyTile x n → p = s.tick dt →
    s.tileRuns x n = true →
    Does (.tileMac dt x n a k src false) s fun t =>
      (t.tile x n).acc = SMap.put (fun _ => 0) u.acc (a % 4) (satAcc (u.accOf a + macTerm (s.loopParam n k).toInt (s.loopShift n k) (p.opnd n u src).toInt)).1
      ∧ (t.tile x n).flags = (if (satAcc (u.accOf a + macTerm (s.loopParam n k).toInt (s.loopShift n k) (p.opnd n u src).toInt)).2 then withBit u.flags 8 true else u.flags)
      ∧ (t.tile x n).data = u.data
      ∧ TileAdvanced s dt x n t)
  ∧ (∀ (s : State) (dt : Nat) (x : Side) (n : Nat) (i : Instr) (a k d dst : Nat) (src : Opnd), n < 64 →
    i ∈ [.tileMac dt x n a k src true, .tileMsu dt x n a k src true, .tileMacz dt x n a k src true, .tileBiq dt x n k ⟨src, true⟩ d dst] →
    s.tileRuns x n = true → s.guardActs = true → (s.side x).state = .standby →
    Does i s fun t =>
      t.fld (loopReg x (Reg.LOOP_TSTAT n)) Fld.LOOP_TSTAT_RESIDUE = 1 ∧ (t.side x).flags.testBit 1 = true
      ∧ (t.side x).state = .failed ∧ Posted Ev.STANDBY_LOST (evArg x.code 0 0) (s.tick dt) t
      ∧ RegsBut [loopReg x (Reg.LOOP_TSTAT n), loopReg x Reg.LOOP_STAT, Reg.KEEP_STAT, Reg.SAFE_STAT] s t
      ∧ t = { s.tick dt with
            regs := t.regs, queues := t.queues, ev := t.ev, keep := t.keep, loop := t.loop, safe := t.safe, acq := t.acq
            free := s.free + 4097 })
  ∧ (∀ (s : State) (dt : Nat) (x : Side) (n : Nat) (a k : Nat) (src : Opnd) (u : Tile) (p : State), u = s.readyTile x n → p = s.tick dt →
    s.tileRuns x n = true →
    Does (.tileMsu dt x n a k src false) s fun t =>
      (t.tile x n).acc = SMap.put (fun _ => 0) u.acc (a % 4) (satAcc (u.accOf a - macTerm (s.loopParam n k).toInt (s.loopShift n k) (p.opnd n u src).toInt)).1
      ∧ (t.tile x n).flags = (if (satAcc (u.accOf a - macTerm (s.loopParam n k).toInt (s.loopShift n k) (p.opnd n u src).toInt)).2 then withBit u.flags 8 true else u.flags)
      ∧ (t.tile x n).data = u.data
      ∧ TileAdvanced s dt x n t)
  ∧ (∀ (s : State) (dt : Nat) (x : Side) (n : Nat) (a k : Nat) (src : Opnd) (u : Tile) (p : State), u = s.readyTile x n → p = s.tick dt →
    s.tileRuns x n = true →
    Does (.tileMacz dt x n a k src false) s fun t =>
      (t.tile x n).acc = SMap.put (fun _ => 0) u.acc (a % 4) (satAcc ((0 : Int) + macTerm (s.loopParam n k).toInt (s.loopShift n k) (p.opnd n u src).toInt)).1
      ∧ (t.tile x n).flags = (if (satAcc ((0 : Int) + macTerm (s.loopParam n k).toInt (s.loopShift n k) (p.opnd n u src).toInt)).2 then withBit u.flags 8 true else u.flags)
      ∧ (t.tile x n).data = u.data
      ∧ TileAdvanced s dt x n t)
  ∧ (∀ (s : State) (dt : Nat) (x : Side) (n : Nat) (a q dst : Nat) (feeds : Bool) (u : Tile) (p : State), u = s.readyTile x n → p = s.tick dt →
    s.tileRuns x n = true →
    Does (.tileStore dt x n a q dst feeds) s fun t =>
      TileWrote u (t.tile x n) dst (extract (u.accOf a) (min q 47))
      ∧ TileAdvanced s dt x n t)
  ∧ (∀ (s : State) (dt : Nat) (x : Side) (n : Nat) (a b : Opnd) (dst : Nat) (u : Tile) (p : State), u = s.readyTile x n → p = s.tick dt →
    s.tileRuns x n = true →
    Does (.tileAdd dt x n a b dst) s fun t =>
      TileWrote u (t.tile x n) dst ((p.opnd n u a).toInt + (p.opnd n u b).toInt)
      ∧ TileAdvanced s dt x n t)
  ∧ (∀ (s : State) (dt : Nat) (x : Side) (n : Nat) (a b : Opnd) (dst : Nat) (u : Tile) (p : State), u = s.readyTile x n → p = s.tick dt →
    s.tileRuns x n = true →
    Does (.tileSub dt x n a b dst) s fun t =>
      TileWrote u (t.tile x n) dst ((p.opnd n u a).toInt - (p.opnd n u b).toInt)
      ∧ TileAdvanced s dt x n t)
  ∧ (∀ (s : State) (dt : Nat) (x : Side) (n : Nat) (a : Opnd) (dst : Nat) (u : Tile) (p : State), u = s.readyTile x n → p = s.tick dt →
    s.tileRuns x n = true →
    Does (.tileNeg dt x n a dst) s fun t =>
      TileWrote u (t.tile x n) dst (-(p.opnd n u a).toInt)
      ∧ TileAdvanced s dt x n t)
  ∧ (∀ (s : State) (dt : Nat) (x : Side) (n : Nat) (a : Opnd) (dst : Nat) (u : Tile) (p : State), u = s.readyTile x n → p = s.tick dt →
    s.tileRuns x n = true →
    Does (.tileAbs dt x n a dst) s fun t =>
      TileWrote u (t.tile x n) dst |(p.opnd n u a).toInt|
      ∧ TileAdvanced s dt x n t)
  ∧ (∀ (s : State) (dt : Nat) (x : Side) (n : Nat) (a b : Opnd) (dst : Nat) (u : Tile) (p : State), u = s.readyTile x n → p = s.tick dt →
    s.tileRuns x n = true →
    Does (.tileMin dt x n a b dst) s fun t =>
      TileWrote u (t.tile x n) dst (min (p.opnd n u a).toInt (p.opnd n u b).toInt)
      ∧ TileAdvanced s dt x n t)
  ∧ (∀ (s : State) (dt : Nat) (x : Side) (n : Nat) (a b : Opnd) (dst : Nat) (u : Tile) (p : State), u = s.readyTile x n → p = s.tick dt →
    s.tileRuns x n = true →
    Does (.tileMax dt x n a b dst) s fun t =>
      TileWrote u (t.tile x n) dst (max (p.opnd n u a).toInt (p.opnd n u b).toInt)
      ∧ TileAdvanced s dt x n t)
  ∧ (∀ (s : State) (dt : Nat) (x : Side) (n : Nat) (a : Opnd) (sh : Int) (dst : Nat) (u : Tile) (p : State), u = s.readyTile x n → p = s.tick dt →
    s.tileRuns x n = true → -31 ≤ sh → sh ≤ 31 →
    Does (.tileScale dt x n a sh dst) s fun t =>
      TileWrote u (t.tile x n) dst (shiftInt (p.opnd n u a).toInt sh)
      ∧ TileAdvanced s dt x n t)

/-- For a tile whose program is under way: LIM clamps a word to its two bounds and sets SAT exactly where it clamped. CMP sets one
condition and no word. SEL writes one of two words. INTEG leaves the integrator's upper word within its bounds and every accumulator as
it was. BIQ shifts its delay words and writes the new output. SINCOS writes sine and cosine, each within 4 units (2^-28) of the exact
Q1.30 value. LUT at a point where the interpolation is a whole number writes it. DIV writes the exact quotient where it is one and
fits, and by 0 the saturated word with DIVZ and SAT. SQRT of a perfect square writes its root. STAMP writes the previous cycle's delay
stamp. Rounding where the spec states none, and values outside a table or of a negative root, are free values. No other tile and no
other part changes. -/
def Obligations.TileWordRows : Prop :=
  (∀ (s : State) (dt : Nat) (x : Side) (n : Nat) (a lo hi : Opnd) (dst : Nat) (feeds : Bool) (v l h : Int) (u : Tile) (p : State), u = s.readyTile x n → p = s.tick dt →
    s.tileRuns x n = true → v = (p.opnd n u a).toInt → l = (p.opnd n u lo).toInt → h = (p.opnd n u hi).toInt →
    Does (.tileLim dt x n a lo hi dst feeds) s fun t =>
      (t.tile x n).data = SMap.insert u.data (dst % 4096) (toWord (if h < v then h else if v < l then l else v))
      ∧ (t.tile x n).flags = (if h < v ∨ v < l then withBit u.flags 10 true else u.flags) ∧ (t.tile x n).acc = u.acc
      ∧ TileAdvanced s dt x n t)
  ∧ (∀ (s : State) (dt : Nat) (x : Side) (n : Nat) (r : Rel) (a b : Opnd) (c : Nat) (u : Tile) (p : State), u = s.readyTile x n → p = s.tick dt →
    s.tileRuns x n = true →
    Does (.tileCmp dt x n r a b c) s fun t =>
      (t.tile x n).users = withBit u.users c (r.holds (p.opnd n u a).toInt (p.opnd n u b).toInt)
      ∧ (t.tile x n).data = u.data ∧ (t.tile x n).flags = u.flags ∧ (t.tile x n).acc = u.acc
      ∧ TileAdvanced s dt x n t)
  ∧ (∀ (s : State) (dt : Nat) (x : Side) (n : Nat) (c : Cond) (a b : Opnd) (dst : Nat) (u : Tile) (p : State), u = s.readyTile x n → p = s.tick dt →
    s.tileRuns x n = true →
    Does (.tileSel dt x n c a b dst) s fun t =>
      TileStored u (t.tile x n) dst (if u.cond c then p.opnd n u a else p.opnd n u b)
      ∧ TileAdvanced s dt x n t)
  ∧ (∀ (s : State) (dt : Nat) (x : Side) (n : Nat) (a j q lo hi : Nat) (feeds : Bool) (u : Tile) (p : State), u = s.readyTile x n → p = s.tick dt →
    s.tileRuns x n = true → (s.loopParam n lo).toInt ≤ (s.loopParam n hi).toInt → 1 ≤ s.parN (Par.integWord n (j % 16)) → s.parN (Par.integWord n (j % 16)) < 4095 →
    Does (.tileInteg dt x n a j q lo hi feeds) s fun t =>
      (t.tile x n).acc = u.acc
      ∧ (s.loopParam n lo).toInt ≤ ((t.tile x n).word 0 (s.parN (Par.integWord n (j % 16)) - 1)).toInt
      ∧ ((t.tile x n).word 0 (s.parN (Par.integWord n (j % 16)) - 1)).toInt ≤ (s.loopParam n hi).toInt
      ∧ TileAdvanced s dt x n t)
  ∧ (∀ (s : State) (dt : Nat) (x : Side) (n : Nat) (k : Nat) (src : Opnd) (d dst : Nat) (u : Tile) (p : State), u = s.readyTile x n → p = s.tick dt →
    s.tileRuns x n = true → d + 3 < 4096 → dst < 4096 → (dst < d ∨ d + 3 < dst) →
    Does (.tileBiq dt x n k ⟨src, false⟩ d dst) s fun t =>
      (t.tile x n).word 0 d = p.opnd n u src ∧ (t.tile x n).word 0 (d + 1) = u.word (s.free + 1) d
      ∧ (t.tile x n).word 0 (d + 3) = u.word (s.free + 1) (d + 2) ∧ (t.tile x n).word 0 (d + 2) = (t.tile x n).word 0 dst
      ∧ (t.tile x n).acc = u.acc
      ∧ TileAdvanced s dt x n t)
  ∧ (∀ (s : State) (dt : Nat) (x : Side) (n : Nat) (a : Opnd) (ds dc : Nat) (u : Tile) (p : State), u = s.readyTile x n → p = s.tick dt →
    s.tileRuns x n = true → ds % 4096 ≠ dc % 4096 → |(sinCos (p.opnd n u a).toNat).1| ≤ 2 ^ 60 →
    |(sinCos (p.opnd n u a).toNat).2| ≤ 2 ^ 60 →
    Does (.tileSincos dt x n a ds dc) s fun t =>
      |((t.tile x n).word 0 ds).toInt * 2 ^ 30 - (sinCos (p.opnd n u a).toNat).1| ≤ 2 ^ 32
      ∧ |((t.tile x n).word 0 dc).toInt * 2 ^ 30 - (sinCos (p.opnd n u a).toNat).2| ≤ 2 ^ 32
      ∧ (t.tile x n).acc = u.acc ∧ (t.tile x n).flags = u.flags
      ∧ TileAdvanced s dt x n t)
  ∧ (∀ (s : State) (dt : Nat) (x : Side) (n : Nat) (table : Nat) (a : Opnd) (dst : Nat) (v : Int) (u : Tile) (p : State), u = s.readyTile x n → p = s.tick dt →
    s.tileRuns x n = true → lutValue ((List.range (min (s.parN (Par.lutLen table)) 1024)).map fun i =>
      (s.par (Par.lutX table i), s.par (Par.lutY table i))) (p.opnd n u a).toInt = some (v, true) →
    Does (.tileLut dt x n table a dst) s fun t =>
      TileStored u (t.tile x n) dst (toWord v)
      ∧ TileAdvanced s dt x n t)
  ∧ (∀ (s : State) (dt : Nat) (x : Side) (n : Nat) (a b : Opnd) (f dst : Nat) (q : Int) (u : Tile) (p : State), u = s.readyTile x n → p = s.tick dt →
    s.tileRuns x n = true → (p.opnd n u b).toInt ≠ 0 → (p.opnd n u a).toInt * 2 ^ f = q * (p.opnd n u b).toInt →
    Does (.tileDiv dt x n a b f dst) s fun t =>
      TileWrote u (t.tile x n) dst q
      ∧ TileAdvanced s dt x n t)
  ∧ (∀ (s : State) (dt : Nat) (x : Side) (n : Nat) (a b : Opnd) (f dst : Nat) (u : Tile) (p : State), u = s.readyTile x n → p = s.tick dt →
    s.tileRuns x n = true → (p.opnd n u b).toInt = 0 →
    Does (.tileDiv dt x n a b f dst) s fun t =>
      (t.tile x n).data = SMap.insert u.data (dst % 4096) (if (p.opnd n u a).toInt < 0 then 0x80000000 else 0x7FFFFFFF)
      ∧ (t.tile x n).flags.testBit 7 = true ∧ (t.tile x n).flags.testBit 10 = true
      ∧ TileAdvanced s dt x n t)
  ∧ (∀ (s : State) (dt : Nat) (x : Side) (n : Nat) (a : Opnd) (dst r : Nat) (u : Tile) (p : State), u = s.readyTile x n → p = s.tick dt →
    s.tileRuns x n = true → (p.opnd n u a).toInt = r * r → isqrt (r * r) = r →
    Does (.tileSqrt dt x n a dst) s fun t =>
      TileStored u (t.tile x n) dst (BitVec.ofNat 32 r)
      ∧ TileAdvanced s dt x n t)
  ∧ (∀ (s : State) (dt : Nat) (x : Side) (n : Nat) (dst : Nat) (u : Tile) (p : State), u = s.readyTile x n → p = s.tick dt →
    s.tileRuns x n = true →
    Does (.tileStamp dt x n dst) s fun t =>
      TileStored u (t.tile x n) dst (BitVec.ofNat 32 u.stampPrev)
      ∧ TileAdvanced s dt x n t)

/-- For a tile whose program is under way: IN takes the next entry of a routed source (or an own parameter word) into the word named, GAP
where it carries a gap marker, and TILE_WAIT_MISS at the wait limit with no entry takes the previous value with MISSING and counts it.
XPUT writes a word of the exchange buffer that XGET of the next cycle reads; CHAIN_PUT fills a free chain and CHAIN_GET empties it.
POST leaves one stamped word of its source in the edge channel's queue. PUB notes a published word, REP a repeat, BR a jump. END ends
the program, commits the carried words and shows the cycle's length. LOOP_PRESET notes the integrators to load; LOOP_CLR clears maxima
and counts of each loop. What is not named keeps its value. -/
def Obligations.TileInputOutputRows : Prop :=
  (∀ (s : State) (dt : Nat) (x : Side) (n : Nat) (k dst : Nat) (u : Tile) (p : State), u = s.readyTile x n → p = s.tick dt →
    s.tileRuns x n = true →
    Does (.tileIn dt x n (.param k) dst) s fun t =>
      TileStored u (t.tile x n) dst (s.loopParam n k)
      ∧ TileAdvanced s dt x n t)
  ∧ (∀ (s : State) (dt : Nat) (x : Side) (n : Nat) (src : TileSrc) (dst q c : Nat) (e : QEntry) (u : Tile) (p : State), u = s.readyTile x n → p = s.tick dt →
    s.tileRuns x n = true → src.queue = some (q, c) → s.nextEntry x q c n = some e → e.more = [] → s.fenced e = false →
    Does (.tileIn dt x n src dst) s fun t =>
      (t.tile x n).data = SMap.insert u.data (dst % 4096) (toWord e.val) ∧ (t.tile x n).acc = u.acc
      ∧ (t.tile x n).flags = (if 0 < e.gap then withBit u.flags 11 true else u.flags)
      ∧ (t.tile x n).pc = (stepPc (u.pc + 1) u.rep).1
      ∧ t = { s.tick dt with loop := t.loop, queues := t.queues, free := s.free + 4097 })
  ∧ (∀ (s : State) (dt : Nat) (x : Side) (n : Nat) (src : TileSrc) (dst q c : Nat) (u : Tile) (p : State), u = s.readyTile x n → p = s.tick dt →
    s.tileRuns x n = true → src.queue = some (q, c) → s.nextEntry x q c n = none → Config.fclk * s.parN (Par.waitLimit c n) ≤ p.since s.tm.cycleStart →
    Does (.tileWaitMiss dt x n src dst) s fun t =>
      (t.tile x n).data = (u.setWords dst (u.lastWords c s.free)).data
      ∧ (t.tile x n).flags = withBit u.flags 12 true ∧ RegsBut [loopReg x (Reg.LOOP_RUN n)] s t
      ∧ t.fld (loopReg x (Reg.LOOP_RUN n)) Fld.LOOP_RUN_WAIT_MISSES =
          min (s.fld (loopReg x (Reg.LOOP_RUN n)) Fld.LOOP_RUN_WAIT_MISSES + 1) (2 ^ Fld.LOOP_RUN_WAIT_MISSES.width - 1)
      ∧ t = { s.tick dt with regs := t.regs, recent := t.recent, ev := t.ev, loop := t.loop, free := s.free + 4097 })
  ∧ (∀ (s : State) (dt : Nat) (x : Side) (n : Nat) (w : Nat) (src : Opnd) (u : Tile) (p : State), u = s.readyTile x n → p = s.tick dt →
    s.tileRuns x n = true →
    Does (.tileXput dt x n w src) s fun t =>
      t.loop.xWrite = SMap.insert s.loop.xWrite (sideKey x w) (p.opnd n u src) ∧ t.loop.xRead = s.loop.xRead
      ∧ (t.tile x n).pc = (stepPc (u.pc + 1) u.rep).1 ∧ (t.tile x n).data = u.data
      ∧ t = { s.tick dt with loop := t.loop, free := s.free + 4097 })
  ∧ (∀ (s : State) (dt : Nat) (x : Side) (n : Nat) (w dst : Nat) (u : Tile) (p : State), u = s.readyTile x n → p = s.tick dt →
    s.tileRuns x n = true →
    Does (.tileXget dt x n w dst) s fun t =>
      TileStored u (t.tile x n) dst (heldWord s.loop.xRead (sideKey x w) s.free)
      ∧ TileAdvanced s dt x n t)
  ∧ (∀ (s : State) (dt : Nat) (x : Side) (n : Nat) (c : Nat) (src : Opnd) (u : Tile) (p : State), u = s.readyTile x n → p = s.tick dt →
    s.tileRuns x n = true → (s.loop.chains.any fun e => e.1 == sideKey x c) = false →
    Does (.tileChainPut dt x n c src) s fun t =>
      t.loop.chains = SMap.insert s.loop.chains (sideKey x c) (p.opnd n u src)
      ∧ (t.tile x n).pc = (stepPc (u.pc + 1) u.rep).1 ∧ (t.tile x n).data = u.data
      ∧ t = { s.tick dt with loop := t.loop, free := s.free + 4097 })
  ∧ (∀ (s : State) (dt : Nat) (x : Side) (n : Nat) (c dst k : Nat) (v : Word) (u : Tile) (p : State), u = s.readyTile x n → p = s.tick dt →
    s.tileRuns x n = true → (s.loop.chains.find? fun e => e.1 == sideKey x c) = some (k, v) →
    Does (.tileChainGet dt x n c dst) s fun t =>
      t.loop.chains = SMap.erase s.loop.chains (sideKey x c) ∧ TileStored u (t.tile x n) dst v
      ∧ (t.tile x n).pc = (stepPc (u.pc + 1) u.rep).1
      ∧ t = { s.tick dt with loop := t.loop, free := s.free + 4097 })
  ∧ (∀ (s : State) (dt : Nat) (x : Side) (n : Nat) (ch : Nat) (src : Opnd) (named : Option TileSrc) (u : Tile) (p : State), u = s.readyTile x n → p = s.tick dt →
    s.tileRuns x n = true →
    Does (.tilePost dt x n ch src named) s fun t =>
      ((t.queue x n).entries.filter fun e => e.src == ch).map (fun e => (e.val, e.ts)) =
        [((p.opnd n u src).toInt, (u.postTs (named.map TileSrc.code) ⟨s.loop.cycleTs, s.tm.cycleStart⟩).ts)]
      ∧ ((t.queue x n).entries.filter fun e => e.src != ch) = ((s.queue x n).entries.filter fun e => e.src != ch)
      ∧ (t.tile x n).pc = (stepPc (u.pc + 1) u.rep).1 ∧ (t.tile x n).data = u.data
      ∧ t = { s.tick dt with loop := t.loop, queues := t.queues, ev := t.ev, free := s.free + 4097 })
  ∧ (∀ (s : State) (dt : Nat) (x : Side) (n : Nat) (slot : Nat) (src : Opnd) (u : Tile) (p : State), u = s.readyTile x n → p = s.tick dt →
    s.tileRuns x n = true →
    Does (.tilePub dt x n slot src) s fun t =>
      (t.tile x n).pubs = SMap.insert u.pubs slot (p.opnd n u src) ∧ (t.tile x n).data = u.data
      ∧ TileAdvanced s dt x n t)
  ∧ (∀ (s : State) (dt : Nat) (x : Side) (n : Nat) (len count : Nat) (u : Tile) (p : State), u = s.readyTile x n → p = s.tick dt →
    s.tileRuns x n = true → 1 ≤ len → 2 ≤ count →
    Does (.tileRep dt x n len count) s fun t =>
      (t.tile x n).rep = (stepPc (u.pc + 1) ((u.pc + 1, len, count) :: u.rep)).2 ∧ (t.tile x n).data = u.data
      ∧ t = { s.tick dt with
          loop := { s.loop with tiles := SMap.put (fun _ => Tile.reset) s.loop.tiles (tileKey x n) (t.tile x n) }
          free := s.free + 4097 })
  ∧ (∀ (s : State) (dt : Nat) (x : Side) (n : Nat) (c : Cond) (target : Nat) (u : Tile) (p : State), u = s.readyTile x n → p = s.tick dt →
    s.tileRuns x n = true →
    Does (.tileBr dt x n c target) s fun t =>
      (t.tile x n).pc = (if (s.tile x n).cond c then target % 4096 else (stepPc (u.pc + 1) u.rep).1)
      ∧ (t.tile x n).data = u.data ∧ (t.tile x n).acc = u.acc
      ∧ t = { s.tick dt with
          loop := { s.loop with tiles := SMap.put (fun _ => Tile.reset) s.loop.tiles (tileKey x n) (t.tile x n) }
          free := s.free + 4097 })
  ∧ (∀ (s : State) (dt : Nat) (x : Side) (n : Nat), s.tileRuns x n = true →
    Does (.tileEnd dt x n) s fun t =>
      (t.tile x n).ended = true
      ∧ (t.tile x n).held = (s.readyTile x n).data.filter (fun e => s.par (Par.carried n e.1) == 1)
      ∧ t.fld (loopReg x (Reg.LOOP_TCYC n)) Fld.LOOP_TCYC_LAST = min ((s.tick dt).since s.tm.cycleStart / Config.fclk) 0xFFFF
      ∧ RegsBut ([loopReg x (Reg.LOOP_TCYC n), loopReg x (Reg.LOOP_TSTAT n), loopReg x (Reg.LOOP_RUN n)]
          ++ (List.range 8).map fun k => loopReg x (Reg.LOOP_WATCH n k)) s t
      ∧ t = { s.tick dt with
            regs := t.regs, ev := t.ev, ctx := t.ctx, loop := t.loop, recent := t.recent, free := t.free })
  ∧ (∀ (s : State) (dt : Nat) (acc : Access) (n : Nat) (val : Word), n < 64 → Admitted s acc (Reg.LOOP_PRESET n) .op →
    Does (.loopPreset dt acc n val) s fun t =>
      t.loop = { s.loop with
        presets := SMap.put (fun _ => 0) s.loop.presets n (SMap.get (fun _ => 0) s.loop.presets n ||| fget Fld.LOOP_PRESET_INTEG val) }
      ∧ t = { s.tick dt with loop := t.loop })
  ∧ (∀ (s : State) (dt : Nat) (acc : Access) (val : Word), Admitted s acc Reg.LOOP_CLR .op → val.getLsbD 0 = true →
    Does (.loopClr dt acc val) s fun t =>
      (∀ n < tilesOf s.variant, t.fld (Reg.LOOP_TCYC n) Fld.LOOP_TCYC_MAX = 0 ∧ t.fld (loopReg .b (Reg.LOOP_TCYC n)) Fld.LOOP_TCYC_MAX = 0
        ∧ t.rd (Reg.LOOP_CNT n) = (s.tick dt).counted (Reg.LOOP_CNT n))
      ∧ t.ev.posted = s.ev.posted ∧ t = { s.tick dt with regs := t.regs, ev := t.ev, recent := t.recent })

/-- For a used, running pair: a period start begins the period due; a pair that switches, not held, keeps the edges still to come and gets
those of its compares, its levels follow, and an idle trim moves by its step toward 0; a held pair has no edges until its groups are
clear and an update point has passed, and then leaves its trip pattern. An update point takes a fresh post in time
as the new word, shows it and frees its place; without a post the word stands. On each side that runs the control, a transition within
the limit is shown and moves an enabled trim by its step toward the measured time plus margin, within its bound; a miss shows FFFF and counts. A calibrated line
becomes the fresh one, a second failure in a row puts the pad in fallback, the exchange takes the fresh line in use. A pad that differs
for 100 ns is shorted, shown and posted. EDGE_CLR clears both sides' pulse counts. What is not named keeps its value. -/
def Obligations.EdgeEngineRows : Prop :=
  (∀ (s : State) (dt : Nat) (x : Side) (n : Nat), (s.tick dt).pairRuns x n = true → (s.pair x n).next < (s.tick dt).nowUnits + 64 →
    (s.pair x n).pend = [] → (s.pair x n).held = false → (s.pair x n).enter = 2 → s.pairOrphan n = false →
    s.edge.pairOff.contains n = false →
    Does (.carrierPeriodStart dt x n) s fun t =>
      (t.pair x n).start = (s.pair x n).next ∧ (t.pair x n).next = (s.pair x n).next + (s.pair x n).per
      ∧ (t.pair x n).zeroDone = false ∧ (t.pair x n).halfDone = false ∧ (t.pair x n).word = (s.pair x n).word
      ∧ (t.pair x n).out = s.joinEdges x n ((s.pair x n).out.filter fun e => decide ((s.pair x n).next < e.1 + 192))
          ((s.pair x n).refs.filter fun e => decide (e.1 < (s.pair x n).next + (s.pair x n).per))
      ∧ (t.pair x n).levelA = levelAt (s.pair x n).out false (s.pair x n).next (s.pair x n).levelA
      ∧ (t.pair x n).levelB = levelAt (s.pair x n).out true (s.pair x n).next (s.pair x n).levelB
      ∧ t.fldS (loopReg x (Reg.EDGE_TRIM n)) Fld.EDGE_TRIM_RISE_TRIM =
          trimIdle (s.fld (Reg.EDGE_TRIM_CFG n) Fld.EDGE_TRIM_CFG_RISE_EN == 1) (decide (16 ≤ (s.pair x n).riseMiss))
            (s.fld (Reg.EDGE_TRIM_CFG n) Fld.EDGE_TRIM_CFG_STEP) (s.fldS (loopReg x (Reg.EDGE_TRIM n)) Fld.EDGE_TRIM_RISE_TRIM)
      ∧ RegsBut [loopReg x (Reg.EDGE_TRIM n), loopReg x (Reg.EDGE_PSTAT n)] s t
      ∧ t = { s.tick dt with regs := t.regs, edge := t.edge, keep := { s.keep with made := t.keep.made } })
  ∧ (∀ (s : State) (dt : Nat) (x : Side) (n : Nat), (s.tick dt).pairRuns x n = true → (s.pair x n).next < (s.tick dt).nowUnits + 64 →
    (s.pair x n).pend = [] → (s.pair x n).held = true →
    Does (.carrierPeriodStart dt x n) s fun t =>
      (t.pair x n).start = (s.pair x n).next ∧ (t.pair x n).next = (s.pair x n).next + (s.pair x n).per
      ∧ (t.pair x n).held = !((s.pair x n).sawUpdate && !s.pairTripped n)
      ∧ (((s.pair x n).sawUpdate && !s.pairTripped n) = false → (t.pair x n).out = []
          ∧ t.fld (Reg.EDGE_PSTAT n) Fld.EDGE_PSTAT_TRIPPED = s.fld (Reg.EDGE_PSTAT n) Fld.EDGE_PSTAT_TRIPPED)
      ∧ (((s.pair x n).sawUpdate && !s.pairTripped n) = true → t.fld (Reg.EDGE_PSTAT n) Fld.EDGE_PSTAT_TRIPPED = 0
          ∧ t.fld (loopReg .b (Reg.EDGE_PSTAT n)) Fld.EDGE_PSTAT_TRIPPED = 0)
      ∧ RegsBut [loopReg x (Reg.EDGE_TRIM n), loopReg x (Reg.EDGE_PCNT n), Reg.EDGE_PSTAT n, loopReg .b (Reg.EDGE_PSTAT n)] s t
      ∧ t = { s.tick dt with
            regs := t.regs, ev := t.ev, edge := t.edge, recent := t.recent, keep := { s.keep with made := t.keep.made } })
  ∧ (∀ (s : State) (dt : Nat) (x : Side) (n m : Nat) (e : QEntry), (s.tick dt).pairRuns x n = true → s.fld (Reg.EDGE_CFG n) Fld.EDGE_CFG_UPD = 0 →
    (s.pair x n).zeroDone = false → (s.tick dt).nowUnits + 48 * 64 ≤ (s.pair x n).next →
    (s.pair x n).next < (s.tick dt).nowUnits + 64 + 48 * 64 → (s.tick dt).newestPost x n = some (m, e) →
    e.epoch = s.epoch (plTile m) → (s.tick dt).since e.inst / Config.fclk ≤ s.fld (Reg.LOOP_STAMP_CFG m) Fld.LOOP_STAMP_CFG_LIMIT →
    Does (.edgeUpdatePoint dt x n false) s fun t =>
      (t.pair x n).word = toWord e.val ∧ (t.pair x n).zeroDone = true ∧ t.rd (loopReg x (Reg.EDGE_CMD n)) = toWord e.val
      ∧ (t.pair x n).enter = max 1 (s.pair x n).enter
      ∧ (t.queue x m).entries = (s.queue x m).entries.filter (fun f => f != e)
      ∧ t.fld (loopReg x (Reg.LOOP_STAMP m)) Fld.LOOP_STAMP_LAST = min ((s.tick dt).since e.inst / Config.fclk) 0xFFFF
      ∧ t.loop = (s.setTile x m { s.tile x m with stampNow := min ((s.tick dt).since e.inst / Config.fclk) 0xFFFF }).loop
      ∧ RegsBut [loopReg x (Reg.EDGE_CMD n), loopReg x (Reg.EDGE_PCNT n), loopReg x (Reg.LOOP_STAMP m)] s t
      ∧ t = { s.tick dt with
            regs := t.regs, queues := t.queues, ev := t.ev, loop := t.loop, edge := t.edge, recent := t.recent })
  ∧ (∀ (s : State) (dt : Nat) (x : Side) (n : Nat), (s.tick dt).pairRuns x n = true → s.fld (Reg.EDGE_CFG n) Fld.EDGE_CFG_UPD = 0 →
    (s.pair x n).zeroDone = false → (s.tick dt).nowUnits + 48 * 64 ≤ (s.pair x n).next →
    (s.pair x n).next < (s.tick dt).nowUnits + 64 + 48 * 64 → (s.tick dt).newestPost x n = none →
    Does (.edgeUpdatePoint dt x n false) s fun t =>
      (t.pair x n).word = (s.pair x n).word ∧ (t.pair x n).zeroDone = true ∧ (t.pair x n).enter = (s.pair x n).enter
      ∧ RegsBut [loopReg x (Reg.EDGE_PCNT n)] s t
      ∧ t = { s.tick dt with regs := t.regs, ev := t.ev, edge := t.edge, recent := t.recent })
  ∧ (∀ (s : State) (dt : Nat) (y : Side) (n meas : Nat), s.pairUsed n = true → s.runsControl y = true →
    meas ≤ s.swnLimit n false →
    Does (.swnTransition dt n false meas) s fun t =>
      t.fld (loopReg y (Reg.EDGE_SWN n)) Fld.EDGE_SWN_RISE_MEAS = meas % 65536 ∧ (t.pair y n).riseMiss = 0
      ∧ t.fldS (loopReg y (Reg.EDGE_TRIM n)) Fld.EDGE_TRIM_RISE_TRIM =
          (if s.fld (Reg.EDGE_TRIM_CFG n) Fld.EDGE_TRIM_CFG_RISE_EN = 0 then s.fldS (loopReg y (Reg.EDGE_TRIM n)) Fld.EDGE_TRIM_RISE_TRIM
           else trimMove (s.fld (Reg.EDGE_TRIM_CFG n) Fld.EDGE_TRIM_CFG_STEP) (s.fld (Reg.EDGE_TRIM_CFG n) Fld.EDGE_TRIM_CFG_TRIM_MAX)
             ((meas : Int) + s.fld (Reg.EDGE_TRIM_CFG n) Fld.EDGE_TRIM_CFG_MARGIN - s.fld (Reg.EDGE_RISE n) Fld.EDGE_RISE_DELAY)
             (s.fldS (loopReg y (Reg.EDGE_TRIM n)) Fld.EDGE_TRIM_RISE_TRIM))
      ∧ RegsBut ([Reg.EDGE_SWN n, Reg.EDGE_PSTAT n, Reg.EDGE_TRIM n].flatMap fun a => [a, loopReg .b a]) s t
      ∧ t = { s.tick dt with regs := t.regs, edge := t.edge })
  ∧ (∀ (s : State) (dt : Nat) (y : Side) (n meas : Nat), s.pairUsed n = true → s.runsControl y = true →
    meas ≤ s.swnLimit n true →
    Does (.swnTransition dt n true meas) s fun t =>
      t.fld (loopReg y (Reg.EDGE_SWN n)) Fld.EDGE_SWN_FALL_MEAS = meas % 65536 ∧ (t.pair y n).fallMiss = 0
      ∧ t.fldS (loopReg y (Reg.EDGE_TRIM n)) Fld.EDGE_TRIM_FALL_TRIM =
          (if s.fld (Reg.EDGE_TRIM_CFG n) Fld.EDGE_TRIM_CFG_FALL_EN = 0 then s.fldS (loopReg y (Reg.EDGE_TRIM n)) Fld.EDGE_TRIM_FALL_TRIM
           else trimMove (s.fld (Reg.EDGE_TRIM_CFG n) Fld.EDGE_TRIM_CFG_STEP) (s.fld (Reg.EDGE_TRIM_CFG n) Fld.EDGE_TRIM_CFG_TRIM_MAX)
             ((meas : Int) + s.fld (Reg.EDGE_TRIM_CFG n) Fld.EDGE_TRIM_CFG_MARGIN - s.fld (Reg.EDGE_FALL n) Fld.EDGE_FALL_DELAY)
             (s.fldS (loopReg y (Reg.EDGE_TRIM n)) Fld.EDGE_TRIM_FALL_TRIM))
      ∧ RegsBut ([Reg.EDGE_SWN n, Reg.EDGE_PSTAT n, Reg.EDGE_TRIM n].flatMap fun a => [a, loopReg .b a]) s t
      ∧ t = { s.tick dt with regs := t.regs, edge := t.edge })
  ∧ (∀ (s : State) (dt : Nat) (y : Side) (n : Nat), s.pairUsed n = true → s.runsControl y = true →
    Does (.swnMiss dt n false) s fun t =>
      t.fld (loopReg y (Reg.EDGE_SWN n)) Fld.EDGE_SWN_RISE_MEAS = 0xFFFF ∧ (t.pair y n).riseMiss = (s.pair y n).riseMiss + 1
      ∧ (15 ≤ (s.pair y n).riseMiss → t.fld (loopReg y (Reg.EDGE_PSTAT n)) Fld.EDGE_PSTAT_SWN_IDLE = 1)
      ∧ RegsBut ([Reg.EDGE_SWN n, Reg.EDGE_PSTAT n].flatMap fun a => [a, loopReg .b a]) s t ∧ t = { s.tick dt with regs := t.regs, edge := t.edge })
  ∧ (∀ (s : State) (dt n : Nat) (b : Bool) (taps : Nat), s.pairUsed n = true → 80 ≤ taps → taps ≤ 160 → (s.pad (2 * n + flag b)).line ≤ 1 →
    Does (.dlineCalibrationDone dt n b taps true) s fun t =>
      (t.pad (2 * n + flag b)).fresh = true ∧ (t.pad (2 * n + flag b)).fallback = false ∧ (t.pad (2 * n + flag b)).fails = 0
      ∧ SMap.get (fun _ => 0) (t.pad (2 * n + flag b)).taps (1 - (s.pad (2 * n + flag b)).line) = taps
      ∧ (t.pad (2 * n + flag b)).line = (s.pad (2 * n + flag b)).line
      ∧ RegsBut [Reg.EDGE_CAL n, Reg.EDGE_STAT, Reg.EDGE_PSTAT n, loopReg .b (Reg.EDGE_PSTAT n)] s t ∧ Silent s t
      ∧ t = { s.tick dt with regs := t.regs, edge := t.edge })
  ∧ (∀ (s : State) (dt n : Nat) (b : Bool) (taps : Nat) (mono : Bool), s.pairUsed n = true → ¬(80 ≤ taps ∧ taps ≤ 160 ∧ mono = true) →
    (s.pad (2 * n + flag b)).fails = 1 → (s.pad (2 * n + flag b)).fallback = false →
    Does (.dlineCalibrationDone dt n b taps mono) s fun t =>
      (t.pad (2 * n + flag b)).fallback = true ∧ (t.pad (2 * n + flag b)).fails = 2
      ∧ t.fld Reg.EDGE_STAT Fld.EDGE_STAT_FALLBACK_ANY = 1 ∧ t.fld (Reg.EDGE_PSTAT n) Fld.EDGE_PSTAT_DL_FALLBACK = 1
      ∧ Posted Ev.DLINE_FAIL (evArg n 0 0) (s.tick dt) t
      ∧ RegsBut [Reg.EDGE_CAL n, Reg.EDGE_STAT, Reg.EDGE_PSTAT n, loopReg .b (Reg.EDGE_PSTAT n)] s t
      ∧ t = { s.tick dt with regs := t.regs, edge := t.edge, ev := t.ev })
  ∧ (∀ (s : State) (dt n : Nat) (b : Bool), s.pairUsed n = true → (s.pad (2 * n + flag b)).fresh = true → (s.tick dt).padQuiet n b = true →
    Does (.dlineExchange dt n b) s fun t =>
      (t.pad (2 * n + flag b)).line = 1 - (s.pad (2 * n + flag b)).line ∧ (t.pad (2 * n + flag b)).fresh = false
      ∧ (t.pad (2 * n + flag b)).taps = (s.pad (2 * n + flag b)).taps
      ∧ t.fld (Reg.EDGE_CAL n) (if b then Fld.EDGE_CAL_TAPS_B else Fld.EDGE_CAL_TAPS_A) =
          min 255 (SMap.get (fun _ => 0) (s.pad (2 * n + flag b)).taps (1 - (s.pad (2 * n + flag b)).line))
      ∧ RegsBut [Reg.EDGE_CAL n] s t
      ∧ t = { s.tick dt with regs := t.regs, edge := t.edge })
  ∧ (∀ (s : State) (dt n : Nat) (b : Bool) (differs : Nat), s.pairUsed n = true → Config.nsec 100 ≤ differs → (s.pad (2 * n + flag b)).shorted = false →
    Does (.pwmPadShort dt n b differs) s fun t =>
      (t.pad (2 * n + flag b)).shorted = true ∧ t.fld Reg.EDGE_STAT Fld.EDGE_STAT_SHORT_ANY = 1
      ∧ t.fld (Reg.EDGE_PSTAT n) (if b then Fld.EDGE_PSTAT_PAD_SHORT_B else Fld.EDGE_PSTAT_PAD_SHORT_A) = 1
      ∧ (s.srcEnabled 116 = true → t.latched 116 = true)
      ∧ t.ev.posted.getLast?.map (fun e => (e.code, e.arg)) = some (Ev.PWM_PAD_SHORT, evArg n (flag b) 0)
      ∧ RegsBut tripRegs s t ∧ t = { s.tick dt with
            regs := t.regs, ev := t.ev, ctx := t.ctx, edge := t.edge, qset := t.qset, ring := t.ring, recent := t.recent })
  ∧ (∀ (s : State) (dt : Nat) (acc : Access) (val : Word), Admitted s acc Reg.EDGE_CLR .op → val.getLsbD 0 = true →
    Does (.edgeClr dt acc val) s fun t =>
      (∀ n < pairsOf s.variant, t.rd (Reg.EDGE_PCNT n) = (s.tick dt).counted (Reg.EDGE_PCNT n)
        ∧ t.rd (loopReg .b (Reg.EDGE_PCNT n)) = (s.tick dt).counted (loopReg .b (Reg.EDGE_PCNT n)))
      ∧ RegsBut ((List.range (pairsOf s.variant)).flatMap fun n => [Reg.EDGE_PCNT n, loopReg .b (Reg.EDGE_PCNT n)]) s t
      ∧ t.ev.posted = s.ev.posted ∧ t = { s.tick dt with regs := t.regs, ev := t.ev })

/-- A mapped source whose latch is not set and that becomes active sets its latch: a trip pad at its active level for 10 ns, a fast
channel's comparator outside its window, a switch node opposite for longer than its blanking, and a write to QSET_FORCE. The groups of
the source are then tripped, SET goes out with all tripped groups, and every used pair of a tripped group is held on both sides; the
first latch of all is recorded with its timestamp and counted. QSET_CLR of one latched source clears it and posts QSET_CLEARED where
the source has been idle for 2 µs, else refuses it, shows that and posts QSET_CLR_REFUSED. TRIP_SET_REPEAT sends SET again after 1 µs
while a group is tripped, and the SET of every endpoint whose own fault lasts; TRIP_CLEAR_REPEAT a CLEAR whose next sending is due; each
puts its block on the line of every used port. After GUARD_FAULT none is sent. What is not named keeps its value. -/
def Obligations.QuicksetRows : Prop :=
  (∀ (s : State) (dt k : Nat) (level : Bool) (held : Nat), k < 16 → level = (s.fld (Reg.QSET_MAP k) Fld.QSET_MAP_POL == 1) →
    Config.nsec 10 ≤ held → s.srcEnabled k = true → s.anyLatch = false →
    Does (.tripPadActive dt k level held) s fun t =>
      TripSet k s t ∧ t.fld Reg.QSET_STAT Fld.QSET_STAT_FIRST_SRC = k
      ∧ t.rd Reg.QSET_FIRST_TS_LO = (s.tick dt).tm.ts.extractLsb' 0 32 ∧ t.rd Reg.QSET_FIRST_TS_HI = (s.tick dt).tm.ts.extractLsb' 32 32
      ∧ t.fld Reg.QSET_COUNT Fld.QSET_COUNT_TRIPS =
          min (s.fld Reg.QSET_COUNT Fld.QSET_COUNT_TRIPS + 1) (2 ^ Fld.QSET_COUNT_TRIPS.width - 1)
      ∧ t.ev.posted.getLast?.map (·.code) = some Ev.QSET_TRIP ∧ t.ev.posted.length = s.ev.posted.length + 1
      ∧ RegsBut tripRegs s t ∧ t = { s.tick dt with
            regs := t.regs, ev := t.ev, ctx := t.ctx, edge := t.edge, qset := t.qset, ring := t.ring, recent := t.recent })
  ∧ (∀ (s : State) (dt k : Nat) (level : Bool) (held : Nat), k < 16 → level = (s.fld (Reg.QSET_MAP k) Fld.QSET_MAP_POL == 0) →
    Does (.tripPadActive dt k level held) s fun t =>
      t.bit (Reg.QSET_ACTIVE 0) k = false ∧ t.latched k = s.latched k ∧ RegsBut [Reg.QSET_ACTIVE 0] s t
      ∧ t = { s.tick dt with regs := t.regs, qset := t.qset })
  ∧ (∀ (s : State) (dt ch : Nat) (code : Int), ch < 32 → s.fld (Reg.FAST_CFG ch) Fld.FAST_CFG_USED ≠ 0 →
    s.fldS (Reg.FAST_WIN ch) Fld.FAST_WIN_HI < code → s.srcEnabled (16 + ch) = true → s.latched (16 + ch) = false →
    Does (.windowComparatorTrip dt ch code) s fun t =>
      TripSet (16 + ch) s t ∧ t.bit Reg.FAST_STAT ch = true ∧ RegsBut (Reg.FAST_STAT :: tripRegs) s t ∧ t = { s.tick dt with
            regs := t.regs, ev := t.ev, ctx := t.ctx, edge := t.edge, qset := t.qset, ring := t.ring, recent := t.recent })
  ∧ (∀ (s : State) (dt n onFor : Nat), s.pairUsed n = true → s.parN (Par.blank n) < onFor → s.srcEnabled (48 + n) = true → s.latched (48 + n) = false →
    Does (.swnFault dt n true onFor) s fun t => TripSet (48 + n) s t ∧ RegsBut tripRegs s t ∧ t = { s.tick dt with
            regs := t.regs, ev := t.ev, ctx := t.ctx, edge := t.edge, qset := t.qset, ring := t.ring, recent := t.recent })
  ∧ (∀ (s : State) (dt : Nat) (acc : Access) (val : Word) (g : Nat), Admitted s acc Reg.QSET_FORCE .op → g < 8 → val.getLsbD g = true →
    s.srcEnabled (108 + g) = true → s.latched (108 + g) = false →
    Does (.qsetForce dt acc val) s fun t => TripSet (108 + g) s t ∧ RegsBut tripRegs s t ∧ t = { s.tick dt with
            regs := t.regs, ev := t.ev, ctx := t.ctx, edge := t.edge, qset := t.qset, ring := t.ring, recent := t.recent })
  ∧ (∀ (s : State) (dt : Nat) (acc : Access) (k j : Nat), k < 4 → j < 32 → 32 * k + j < 117 → Admitted s acc (Reg.QSET_CLR k) .op →
    s.latched (32 * k + j) = true → (s.tick dt).qsetIdle (32 * k + j) = true →
    Does (.qsetClr dt acc k (BitVec.ofNat 32 (2 ^ j))) s fun t =>
      t.latched (32 * k + j) = false ∧ t.rd (Reg.QSET_REFUSED k) = 0
      ∧ t.fld Reg.QSET_STAT Fld.QSET_STAT_GROUPS = t.groupsOfLatches % 256
      ∧ Posted Ev.QSET_CLEARED (evArg (32 * k + j) 0 0) (s.tick dt) t
      ∧ RegsBut (Reg.QSET_REFUSED k :: tripRegs) s t ∧ t = { s.tick dt with
            regs := t.regs, ev := t.ev, edge := t.edge, qset := t.qset, ring := t.ring, recent := t.recent })
  ∧ (∀ (s : State) (dt : Nat) (acc : Access) (k j : Nat), k < 4 → j < 32 → 32 * k + j < 117 → Admitted s acc (Reg.QSET_CLR k) .op →
    s.latched (32 * k + j) = true → (s.tick dt).qsetIdle (32 * k + j) = false →
    Does (.qsetClr dt acc k (BitVec.ofNat 32 (2 ^ j))) s fun t =>
      t.latched (32 * k + j) = true ∧ t.rd (Reg.QSET_REFUSED k) = BitVec.ofNat 32 (2 ^ j)
      ∧ t.fld Reg.QSET_STAT Fld.QSET_STAT_CLR_REFUSED = 1
      ∧ Posted Ev.QSET_CLR_REFUSED (evArg (32 * k + j) 0 0) (s.tick dt) t
      ∧ RegsBut (Reg.QSET_REFUSED k :: tripRegs) s t ∧ t = { s.tick dt with
            regs := t.regs, ev := t.ev, edge := t.edge, qset := t.qset, ring := t.ring, recent := t.recent })
  ∧ (∀ (s : State) (dt : Nat), s.keep.guardFault = false → s.fld Reg.QSET_STAT Fld.QSET_STAT_GROUPS ≠ 0 →
    Config.usec 1 ≤ (s.tick dt).since s.qset.setAt →
    Does (.tripSetRepeat dt) s fun t =>
      TripOnPorts 1 (s.fld Reg.QSET_STAT Fld.QSET_STAT_GROUPS) (s.tick dt) t
      ∧ (∀ e < 384, t.ep e = if ((s.ep e).localTrip && decide (Config.usec 1 ≤ (s.tick dt).since (s.ep e).setAt)) = true
          then (s.ep e).ownSet (s.tick dt).tm.mono else s.ep e)
      ∧ t = { s.tick dt with
            qset := { s.qset with setAt := (s.tick dt).tm.mono, sent := some ⟨true, s.fld Reg.QSET_STAT Fld.QSET_STAT_GROUPS⟩ }
            ring := { s.ring with eps := t.ring.eps, ports := t.ring.ports } })
  ∧ (∀ (s : State) (dt g left : Nat) (at' : Count), s.keep.guardFault = false →
    s.qset.clears = [(g, left + 1, at')] → Config.usec 1 ≤ (s.tick dt).since at' →
    Does (.tripClearRepeat dt) s fun t =>
      TripOnPorts 2 g (s.tick dt) t
      ∧ t = { s.tick dt with
            qset := { s.qset with clears := if left = 0 then [] else [(g, left, (s.tick dt).tm.mono)], sent := some ⟨false, g⟩ }
            ring := { s.ring with ports := t.ring.ports } })

/-- 64 valid headers give a port, or an interface of an endpoint, lock; a used port that waits for it in RUN goes on with its bring-up, and
an endpoint without a link becomes UNADDRESSED. 16 invalid headers or 1 µs without a valid block take a port's lock, counted; on a used
port of a single ring that is brought up this is a break at the port. An upward interface inside a single
ring of a used port that loses lock is a break, shown and posted once. An endpoint that an interface went down under takes the mode
R293 gives, and a delay run is due, whose means start anew. After 10 ms of lock on both it returns to THROUGH. In RUN, 2 T_c without a
SCHED lead to SAFE; 2 T_c without lock drop the address; an own fault latches its groups, leads from RUN to SAFE and sends a SET. What
is not named keeps its value. -/
def Obligations.RingLinkRows : Prop :=
  (∀ (s : State) (dt p e : Nat) (d : Bool) (headers : Nat), p < 12 → 64 ≤ headers → s.fld (Reg.RING_PORT_STAT p) Fld.RING_PORT_STAT_STATE ≠ 1 →
    Does (.ringLockAcquired dt (some p) e d headers) s fun t =>
      t.fld (Reg.RING_PORT_STAT p) Fld.RING_PORT_STAT_LOCK = 1
      ∧ t.fld (Reg.RING_PORT_STAT p) Fld.RING_PORT_STAT_STATE = s.fld (Reg.RING_PORT_STAT p) Fld.RING_PORT_STAT_STATE
      ∧ RegsBut [Reg.RING_PORT_STAT p] s t
      ∧ t = { s.tick dt with
          regs := t.regs
          ring := if s.fld (Reg.RING_PORT_STAT p) Fld.RING_PORT_STAT_LOCK = 1 then s.ring
            else { s.ring with lockAt := SMap.put (fun _ => 0) s.ring.lockAt p (s.tick dt).tm.mono } })
  ∧ (∀ (s : State) (dt p e : Nat) (d : Bool) (headers : Nat), p < 12 → 64 ≤ headers → s.mode = 2 → s.portUsed p = true →
    s.fld (Reg.RING_PORT_STAT p) Fld.RING_PORT_STAT_STATE = 1 →
    Does (.ringLockAcquired dt (some p) e d headers) s fun t =>
      t.fld (Reg.RING_PORT_STAT p) Fld.RING_PORT_STAT_LOCK = 1 ∧ t.fld (Reg.RING_PORT_STAT p) Fld.RING_PORT_STAT_STATE = 2
      ∧ t.fld (Reg.RING_PORT_STAT p) Fld.RING_PORT_STAT_EP_FOUND = 0 ∧ (SMap.get (fun _ => []) t.ring.found p) = []
      ∧ t.ring.eps = s.ring.eps ∧ RegsBut [Reg.RING_PORT_STAT p, Reg.RING_STAT] s t ∧ t = { s.tick dt with regs := t.regs, ring := t.ring })
  ∧ (∀ (s : State) (dt e : Nat) (d : Bool) (headers : Nat), 64 ≤ headers →
    Does (.ringLockAcquired dt none e d headers) s fun t =>
      (t.ep e).state = (if (s.ep e).state = 0 then 1 else (s.ep e).state) ∧ (t.ep e).noLockAt = none
      ∧ (t.ep e).lockD = (d || (s.ep e).lockD) ∧ (t.ep e).lockU = (!d || (s.ep e).lockU)
      ∧ (if d then (t.ep e).downAt else (t.ep e).upAt) = (s.tick dt).tm.mono
      ∧ t = (s.tick dt).setEp e (t.ep e))
  ∧ (∀ (s : State) (dt p e : Nat) (d : Bool) (invalid quiet : Nat), p < 12 → 16 ≤ invalid ∨ Config.usec 1 ≤ quiet →
    s.fld (Reg.RING_PORT_STAT p) Fld.RING_PORT_STAT_LOCK = 1 →
    (s.portUsed p && decide (1 < s.fld (Reg.RING_PORT_STAT p) Fld.RING_PORT_STAT_STATE)) = false →
    Does (.ringLockLost dt (some p) e d invalid quiet) s fun t =>
      t.fld (Reg.RING_PORT_STAT p) Fld.RING_PORT_STAT_LOCK = 0
      ∧ t.fld (Reg.RING_PORT_CNT p) Fld.RING_PORT_CNT_LOCK_LOSS =
          min (s.fld (Reg.RING_PORT_CNT p) Fld.RING_PORT_CNT_LOCK_LOSS + 1) (2 ^ Fld.RING_PORT_CNT_LOCK_LOSS.width - 1)
      ∧ RegsBut [Reg.RING_PORT_STAT p, Reg.RING_PORT_CNT p] s t
      ∧ t = { s.tick dt with regs := t.regs, recent := t.recent })
  ∧ (∀ (s : State) (dt p e : Nat) (d : Bool) (invalid quiet : Nat), p < 12 → 16 ≤ invalid ∨ Config.usec 1 ≤ quiet →
    s.fld (Reg.RING_PORT_STAT p) Fld.RING_PORT_STAT_LOCK = 1 → s.portUsed p = true → s.portPaired p = false →
    1 < s.fld (Reg.RING_PORT_STAT p) Fld.RING_PORT_STAT_STATE → s.fld (Reg.RING_PORT_STAT p) Fld.RING_PORT_STAT_BROKEN = 0 →
    Does (.ringLockLost dt (some p) e d invalid quiet) s fun t =>
      t.fld (Reg.RING_PORT_STAT p) Fld.RING_PORT_STAT_LOCK = 0 ∧ t.fld (Reg.RING_PORT_STAT p) Fld.RING_PORT_STAT_BROKEN = 1
      ∧ t.fld (Reg.RING_PORT_STAT p) Fld.RING_PORT_STAT_BREAK_AT = 0xFF
      ∧ Posted Ev.RING_BREAK (evArg p 0 0) (s.tick dt) t ∧ RegsBut [Reg.RING_PORT_STAT p, Reg.RING_PORT_CNT p] s t
      ∧ t = { s.tick dt with regs := t.regs, ev := t.ev, recent := t.recent })
  ∧ (∀ (s : State) (dt e invalid quiet : Nat), 16 ≤ invalid ∨ Config.usec 1 ≤ quiet → (s.ep e).lockU = true → 0 < e % 32 →
    s.portUsed (ringOf e) = true → s.portPaired (ringOf e) = false →
    s.fld (Reg.RING_PORT_STAT (ringOf e)) Fld.RING_PORT_STAT_BROKEN = 0 →
    Does (.ringLockLost dt none e false invalid quiet) s fun t =>
      (t.ep e).lockU = false ∧ (t.ep e).lockD = (s.ep e).lockD
      ∧ ((s.ep e).lockD = false → (t.ep e).noLockAt = some (s.tick dt).tm.mono)
      ∧ t.fld (Reg.RING_PORT_STAT (ringOf e)) Fld.RING_PORT_STAT_BROKEN = 1
      ∧ t.fld (Reg.RING_PORT_STAT (ringOf e)) Fld.RING_PORT_STAT_BREAK_AT = e % 32 - 1
      ∧ Posted Ev.RING_BREAK (evArg (ringOf e) 0 0) (s.tick dt) t ∧ RegsBut [Reg.RING_PORT_STAT (ringOf e)] s t
      ∧ t = { (s.tick dt).setEp e (t.ep e) with regs := t.regs, ev := t.ev })
  ∧ (∀ (s : State) (dt e : Nat), ((s.ep e).lockU && (s.ep e).lockD) = false → modeOf (s.ep e) (s.epLast e) ≠ (s.ep e).mode →
    Does (.epInterfaceDown dt e) s fun t =>
      (t.ep e).mode = modeOf (s.ep e) (s.epLast e)
      ∧ t.ring.delayDue = s.ring.delayDue ++ s.ringPorts (ringOf e)
      ∧ t.ring.loops = s.ring.loops.filter (fun l => !(s.ringPorts (ringOf e)).contains l.1)
      ∧ t = { (s.tick dt).setEp e (t.ep e) with
          ring := { ((s.tick dt).setEp e (t.ep e)).ring with delayDue := t.ring.delayDue, loops := t.ring.loops, delays := t.ring.delays } })
  ∧ (∀ (s : State) (dt e : Nat), (s.ep e).lockU = true → (s.ep e).lockD = true → Config.msec 10 ≤ (s.tick dt).since (s.ep e).upAt →
    Config.msec 10 ≤ (s.tick dt).since (s.ep e).downAt → s.fld (Reg.RING_PORT_STAT (ringOf e)) Fld.RING_PORT_STAT_BROKEN = 0 →
    modeOf (s.ep e) (s.epLast e) ≠ (s.ep e).mode →
    Does (.epThroughRestore dt e) s fun t =>
      (t.ep e).mode = modeOf (s.ep e) (s.epLast e) ∧ t.ring.delayDue = s.ring.delayDue ++ s.ringPorts (ringOf e)
      ∧ t = { s.tick dt with ring := t.ring })
  ∧ (∀ (s : State) (dt e : Nat), (s.ep e).state = 5 → 2 * s.tc ≤ (s.tick dt).since (s.ep e).lastSched →
    Does (.epSafeTimeout dt e) s fun t =>
      t = (s.tick dt).setEp e { (s.ep e).halt ((s.tick dt).rtOf (s.ep e)) with state := 6, safeTmo := true, resumed := false })
  ∧ (∀ (s : State) (dt e : Nat) (at' : Count), (s.ep e).noLockAt = some at' → 2 ≤ (s.ep e).state → (s.ep e).locked = false →
    2 * s.tc ≤ (s.tick dt).since at' →
    Does (.epNoLinkTimeout dt e) s fun t =>
      t = (s.tick dt).setEp e ((s.ep e).forget 0 ((s.tick dt).rtOf (s.ep e))))
  ∧ (∀ (s : State) (dt e : Nat),
    Does (.epLocalFault dt e true) s fun t =>
      (t.ep e).state = (if (s.ep e).state = 5 then 6 else (s.ep e).state) ∧ (t.ep e).localTrip = true
      ∧ (t.ep e).latched = ((s.ep e).latched ||| (s.ep e).groups) ∧ (t.ep e).setAt = (s.tick dt).tm.mono
      ∧ (t.ep e).outU = (s.ep e).outU ++ [tripBlock (s.ep e).groups 1 ((s.ep e).addr.getD 0xFF) 0xFF]
      ∧ (t.ep e).outD = (s.ep e).outD ++ [tripBlock (s.ep e).groups 1 ((s.ep e).addr.getD 0xFF) 0xFF]
      ∧ t = (s.tick dt).setEp e (t.ep e))

/-- For a whole frame of the row's type that reaches the endpoint on its lane: SCHED of the endpoint's epoch restarts its timeout, adds its
entry to the leg's waiting ones and, after RESUME, takes TIMED and SAFE to RUN; an older epoch only counts as stale. SYNC on the timing
stream makes ring time RT_TX + D, at once where it is unset or differs by at most 8 edge units, and takes CONFIGURED to TIMED. DELAY
outbound in THROUGH notes its arrival, returned it is answered with L_k. SETDLY stores the delay of the sending port's stream, ENUM
gives an unaddressed endpoint NEXT and forwards NEXT + 1, CONFIG configures an ADDRESSED one, RESUME takes EPOCH_MIN and allows leaving
TIMED and SAFE, IDENT_REQ is answered with IDENT, the first TAKEOVER of a cycle raises the epoch. A waiting entry applies when its
instant has come. Nothing else changes than this endpoint. -/
def Obligations.EndpointFrameRows : Prop :=
  (∀ (s : State) (dt e : Nat) (viaD : Bool) (f : List Byte), FrameReaches s e viaD 1 f → frEpoch f = (s.ep e).epoch → 3 < (s.ep e).state →
    frPay f 0 1 = 1 →
    Does (.sched dt e viaD f) s fun t =>
      (t.ep e).lastSched = (s.tick dt).tm.mono ∧ (t.ep e).epoch = (s.ep e).epoch ∧ (t.ep e).stale = (s.ep e).stale
      ∧ (((s.ep e).resumed && !(s.ep e).localTrip && ((s.ep e).state == 4 || (s.ep e).state == 6)) = true → (t.ep e).state = 5)
      ∧ (((s.ep e).resumed && !(s.ep e).localTrip && ((s.ep e).state == 4 || (s.ep e).state == 6)) = false →
          (t.ep e).state = (s.ep e).state
          ∧ ((t.ep e).leg (frPay f 16 1 % 8)).pend = (((s.tick dt).heard e viaD f).leg (frPay f 16 1 % 8)).pend
              ++ [(parseEntry f 0 (frCycle f) (frEpoch f) ((s.tick dt).rtOf (s.ep e))).2])
      ∧ t = (s.tick dt).setEp e (t.ep e))
  ∧ (∀ (s : State) (dt e : Nat) (viaD : Bool) (f : List Byte), FrameReaches s e viaD 1 f → epochNewer (s.ep e).epoch (frEpoch f) = true →
    Does (.sched dt e viaD f) s fun t =>
      t = (s.tick dt).setEp e { (s.tick dt).heard e viaD f with stale := min ((s.ep e).stale + 1) 65535 })
  ∧ (∀ (s : State) (dt e leg : Nat) (n : RingEntry) (r : List RingEntry) (k : Nat), leg < 8 → ((s.ep e).leg leg).pend = n :: r → (s.ep e).state = 5 →
    ((s.ep e).leg leg).held = false →
    0 ≤ rtDiff ((s.tick dt).rtOf (s.ep e)) n.applyAt → k ≠ leg →
    Does (.epApplyEntry dt e leg) s fun t =>
      ((t.ep e).leg leg).force = some n ∧ ((t.ep e).leg leg).pend = r ∧ ((t.ep e).leg leg).since = n.applyAt
      ∧ (n.enabled = false → ((t.ep e).leg leg).live n.applyAt = (false, false))
      ∧ (t.ep e).late = ((s.ep e).late || decide (n.applyAt ≠ n.tApply % rtSpan)) ∧ (t.ep e).leg k = (s.ep e).leg k
      ∧ t = (s.tick dt).setEp e (t.ep e))
  ∧ (∀ (s : State) (dt e : Nat) (viaD : Bool) (f : List Byte) (d : Nat), FrameReaches s e viaD 2 f → viaD = (s.ep e).timesHi (frCycle f) →
    (if viaD then (s.ep e).dlyHi else (s.ep e).dlyLo) = some d → (s.ep e).rtSet = false →
    Does (.sync dt e viaD f) s fun t =>
      t.rtOf (t.ep e) = (frPay f 0 6 + d) % rtSpan ∧ (t.ep e).rtSet = true ∧ (t.ep e).rtSlew = 0
      ∧ (t.ep e).rtBound = frPay f 6 6 ∧ (t.ep e).cycleNo = frCycle f
      ∧ (t.ep e).state = (if (s.ep e).state = 3 then 4 else (s.ep e).state) ∧ t = (s.tick dt).setEp e (t.ep e))
  ∧ (∀ (s : State) (dt e : Nat) (viaD : Bool) (f : List Byte) (d : Nat), FrameReaches s e viaD 2 f → viaD = (s.ep e).timesHi (frCycle f) →
    (if viaD then (s.ep e).dlyHi else (s.ep e).dlyLo) = some d → (s.ep e).rtSet = true →
    8 < (rtDiff ((frPay f 0 6 + d) % rtSpan) ((s.tick dt).rtOf (s.ep e))).natAbs →
    Does (.sync dt e viaD f) s fun t =>
      (t.ep e).rtSlew = rtDiff ((frPay f 0 6 + d) % rtSpan) ((s.tick dt).rtOf (s.ep e)) ∧ (t.ep e).rtOfs = (s.ep e).rtOfs
      ∧ (t.ep e).state = (if (s.ep e).state = 3 then 4 else (s.ep e).state) ∧ t = (s.tick dt).setEp e (t.ep e))
  ∧ (∀ (s : State) (dt e : Nat) (viaD : Bool) (f : List Byte) (stamp turned : Nat), frameOk f = true → frType f = 3 → frReturn f = false →
    laneOk f viaD = true → (s.ep e).mode = 0 →
    Does (.delay dt e viaD f stamp turned) s fun t =>
      (t.ep e).outAt = SMap.insert (s.ep e).outAt (frPay f 0 2) stamp ∧ (t.ep e).state = (s.ep e).state ∧ (∀ k < 384, k ≠ e → t.ep k = s.ep k)
      ∧ t = { s.tick dt with ring := { s.ring with eps := t.ring.eps, ports := t.ring.ports } })
  ∧ (∀ (s : State) (dt e : Nat) (viaD : Bool) (f : List Byte) (stamp turned k a : Nat), frameOk f = true → frType f = 3 → frReturn f = true →
    (s.ep e).outAt.find? (fun o => o.1 == frPay f 0 2) = some (k, a) →
    Does (.delay dt e viaD f stamp turned) s fun t =>
      mkFrame 0x42 ((s.ep e).addr.getD 0xFF) 0 0 (SMap.get (fun _ => 0) (s.ep e).seqs 0x42) (frCycle f) (t.ep e).latched
          (leBytes 2 (frPay f 0 2) ++ leBytes 2 0 ++ leBytes 4 (bitsOf 32 ((stamp : Int) - a))) ∈ (t.ep e).outU ++ (t.ep e).outD
      ∧ (t.ep e).outAt = SMap.erase (s.ep e).outAt (frPay f 0 2) ∧ (∀ k < 384, k ≠ e → t.ep k = s.ep k)
      ∧ t = { s.tick dt with ring := { s.ring with eps := t.ring.eps, ports := t.ring.ports } })
  ∧ (∀ (s : State) (dt e : Nat) (viaD : Bool) (f : List Byte), FrameReaches s e viaD 4 f → frHi f = false →
    Does (.setdly dt e viaD f) s fun t => t = (s.tick dt).setEp e { (s.tick dt).heard e viaD f with dlyLo := some (frPay f 0 4) })
  ∧ (∀ (s : State) (dt e : Nat) (viaD : Bool) (f : List Byte), FrameReaches s e viaD 5 f → (s.ep e).state = 1 → (s.ep e).addr = none → (s.ep e).mode = 0 →
    Does (.enum dt e viaD f) s fun t =>
      (t.ep e).addr = some (frPay f 0 1 % 32) ∧ (t.ep e).state = 2
      ∧ ((if viaD then (t.ep e).outU else (t.ep e).outD).getLast?.map fun g => (frType g, frPay g 0 1)) = some (5, frPay f 0 1 % 32 + 1)
      ∧ (t.ep e).latched = ((s.tick dt).heard e viaD f).latched ∧ t = (s.tick dt).setEp e (t.ep e))
  ∧ (∀ (s : State) (dt e : Nat) (viaD : Bool) (f : List Byte), FrameReaches s e viaD 6 f → frAddr f ≠ 0xFF → (s.ep e).state = 2 →
    Does (.config dt e viaD f) s fun t =>
      (t.ep e).state = 3 ∧ (t.ep e).cfg = (f.drop 16).take 16 ∧ (t.ep e).addr = (s.ep e).addr
      ∧ (t.ep e).dlyLo = none ∧ (t.ep e).dlyHi = none ∧ t = (s.tick dt).setEp e (t.ep e))
  ∧ (∀ (s : State) (dt e : Nat) (viaD : Bool) (f : List Byte), FrameReaches s e viaD 7 f →
    Does (.resume dt e viaD f) s fun t =>
      t = (s.tick dt).setEp e { (s.tick dt).heard e viaD f with epoch := frPay f 0 2, resumed := (s.ep e).state == 4 || (s.ep e).state == 6 })
  ∧ (∀ (s : State) (dt e : Nat) (viaD : Bool) (f : List Byte), FrameReaches s e viaD 8 f →
    Does (.identReq dt e viaD f) s fun t =>
      t = (s.tick dt).setEp e (((s.tick dt).heard e viaD f).emit 0x43 0 (frCycle f) (epIdent e)))
  ∧ (∀ (s : State) (dt e : Nat) (viaD : Bool) (f : List Byte), FrameReaches s e viaD 9 f → (s.ep e).takeover ≠ some (frCycle f) →
    Does (.takeover dt e viaD f) s fun t =>
      (t.ep e).takeover = some (frCycle f) ∧ (t.ep e).epoch = ((s.ep e).epoch + frPay f 4 1) % 65536
      ∧ (t.ep e).legs = (if frPay f 5 1 = 1 then ((s.tick dt).heard e viaD f).legs.map (fun l => (l.1, l.2.revert (frPay f 0 4) ((s.tick dt).rtOf (s.ep e))))
          else ((s.tick dt).heard e viaD f).legs)
      ∧ (t.ep e).state = (s.ep e).state ∧ t = (s.tick dt).setEp e (t.ep e))

/-- A due delay run sends DELAY on the used port and shows the mean of its last four loop times. A good DELAY_RPT shows the mean of the
endpoint's last four delays. A good IDENT shows class and legs and notes the endpoint; one that differs from the image's table marks
it, puts the ring in FAULT and posts RING_EP_MISMATCH. A MEAS not yet seen shows the endpoint's report, keeps its words, and offers
them to the port's queue of both sides, each where it has a credit. Every 100 ms in RUN the ports in RUN send ENUM. On entry to RUN
every used port that is not brought up starts its bring-up, or waits for lock. At the update point of a leg of the active side, on a
port with nothing waiting, one SCHED with an entry for that leg waits, alone where the endpoint's epoch is the one last sent, and the next
period is due. What is not named
keeps its value. -/
def Obligations.RingPortRows : Prop :=
  (∀ (s : State) (dt p lg : Nat), s.portUsed p = true →
    Config.msec (s.fld Reg.RING_CFG Fld.RING_CFG_DELAY_INT) ≤ (s.tick dt).since s.ring.delayAt →
    Does (.delayRun dt [(p, lg)]) s fun t =>
      (SMap.get (fun _ => []) t.ring.loops p) =
        ((SMap.get (fun _ => []) s.ring.loops p) ++ [lg]).drop ((SMap.get (fun _ => []) s.ring.loops p).length + 1 - 4)
      ∧ t.rd (Reg.RING_PORT_LOOP p) = BitVec.ofNat 32 ((SMap.get (fun _ => []) t.ring.loops p).foldl (· + ·) 0
          / (SMap.get (fun _ => []) t.ring.loops p).length)
      ∧ t.ring.delayAt = (s.tick dt).tm.mono ∧ t.ring.delayDue = s.ring.delayDue.filter (fun q => q != p)
      ∧ (s.keep.guardFault = false → (t.lastTx p).map (·.ty) = some 3)
      ∧ RegsBut [Reg.RING_PORT_LOOP p] s t ∧ t = { s.tick dt with regs := t.regs, ring := t.ring })
  ∧ (∀ (s : State) (dt p : Nat) (f : List Byte) (lg : Nat), p < 12 → frameOk f = true → frType f = 0x42 → s.portPaired p = false →
    SMap.get (fun _ => 0) s.ring.rptSeen (2 * s.epIndex p (frAddr f)) ≠ frPay f 0 2 + 1 →
    (SMap.get (fun _ => []) s.ring.loops p).getLast? = some lg →
    Does (.delayRpt dt p f) s fun t =>
      (SMap.get (fun _ => []) t.ring.delays (2 * s.epIndex p (frAddr f))) =
        ((SMap.get (fun _ => []) s.ring.delays (2 * s.epIndex p (frAddr f)))
          ++ [delayOf lg (signed 32 (frPay f 4 4)) (SMap.get (fun _ => 0) s.ring.resid (s.epIndex p (frAddr f)))]).drop
            ((SMap.get (fun _ => []) s.ring.delays (2 * s.epIndex p (frAddr f))).length + 1 - 4)
      ∧ t.rd (Reg.RING_EP_DLY_LO (s.epIndex p (frAddr f))) =
          BitVec.ofInt 32 (meanInt (SMap.get (fun _ => []) t.ring.delays (2 * s.epIndex p (frAddr f))))
      ∧ RegsBut [Reg.RING_EP_DLY_LO (s.epIndex p (frAddr f))] s t ∧ t = { s.tick dt with regs := t.regs, ring := t.ring })
  ∧ (∀ (s : State) (dt p : Nat) (f : List Byte), p < 12 → frameOk f = true → frType f = 0x43 →
    s.par (Par.epUsed (s.epIndex p (frAddr f))) = 1 → frPay f 0 1 = s.parN (Par.epClass (s.epIndex p (frAddr f))) →
    frPay f 1 1 = s.parN (Par.epLegs (s.epIndex p (frAddr f))) → frPay f 2 1 = s.parN (Par.epWords (s.epIndex p (frAddr f))) →
    s.fld (Reg.RING_PORT_STAT p) Fld.RING_PORT_STAT_STATE ≠ 6 → (SMap.get (fun _ => []) s.ring.found p) = [] →
    2 ≤ s.fld (Reg.RING_PORT_STAT p) Fld.RING_PORT_STAT_EP_IMAGE →
    Does (.ident dt p f) s fun t =>
      t.fld (Reg.RING_PORT_STAT p) Fld.RING_PORT_STAT_STATE = 3 ∧ t.fld (Reg.RING_PORT_STAT p) Fld.RING_PORT_STAT_EP_FOUND = 1
      ∧ t.fld (Reg.RING_EP_STAT (s.epIndex p (frAddr f))) Fld.RING_EP_STAT_CLASS = frPay f 0 1 % 16
      ∧ t.fld (Reg.RING_EP_STAT (s.epIndex p (frAddr f))) Fld.RING_EP_STAT_LEGS = frPay f 1 1 % 16
      ∧ RegsBut [Reg.RING_PORT_STAT p, Reg.RING_EP_STAT (s.epIndex p (frAddr f))] s t
      ∧ t = { s.tick dt with regs := t.regs, ring := t.ring })
  ∧ (∀ (s : State) (dt p : Nat) (f : List Byte), p < 12 → frameOk f = true → frType f = 0x43 →
    frPay f 0 1 ≠ s.parN (Par.epClass (s.epIndex p (frAddr f))) →
    Does (.ident dt p f) s fun t =>
      t.fld (Reg.RING_PORT_STAT p) Fld.RING_PORT_STAT_STATE = 6
      ∧ t.fld (Reg.RING_EP_STAT (s.epIndex p (frAddr f))) Fld.RING_EP_STAT_MISMATCH = 1
      ∧ Posted Ev.RING_EP_MISMATCH (evArg (s.epIndex p (frAddr f)) 0 0) (s.tick dt) t
      ∧ RegsBut [Reg.RING_PORT_STAT p, Reg.RING_EP_STAT (s.epIndex p (frAddr f)), Reg.RING_STAT] s t
      ∧ t = { s.tick dt with regs := t.regs, ring := t.ring, ev := t.ev })
  ∧ (∀ (s : State) (dt p : Nat) (f : List Byte) (y : Side), p < 12 → frameOk f = true → frType f = 0x41 → fnum f 2 2 = 20 →
    (SMap.get (fun _ => []) s.ring.meas (s.epIndex p (frAddr f))).contains (frCycle f * 256 + fnum f 7 1) = false →
    1 ≤ (s.queue y (96 + p)).credits 8 (s.tick dt).tm.mono.toNat →
    Does (.meas dt p f) s fun t =>
      SMap.get (fun _ => []) t.ring.words (s.epIndex p (frAddr f)) = [BitVec.ofNat 32 (frPay f 16 4)]
      ∧ t.fld (Reg.RING_EP_STAT (s.epIndex p (frAddr f))) Fld.RING_EP_STAT_STATE = frPay f 6 1 % 16
      ∧ t.fld (Reg.RING_EP_STAT (s.epIndex p (frAddr f))) Fld.RING_EP_STAT_EPOCH = frEpoch f % 65536
      ∧ (t.queue y (96 + p)).entries = (s.queue y (96 + p)).entries ++
          [⟨(BitVec.ofNat 32 (frPay f 16 4)).toInt, (s.tick dt).rtToTs (frPay f 0 6), (s.tick dt).monoOf ((s.tick dt).rtToTs (frPay f 0 6)),
            (s.queue y (96 + p)).gap, (s.queue y (96 + p)).gapTs, 64 + s.epIndex p (frAddr f), frEpoch f, [], (s.tick dt).tm.mono, []⟩]
      ∧ RegsBut [Reg.RING_EP_STAT (s.epIndex p (frAddr f)), Reg.RING_EP_REP_0 (s.epIndex p (frAddr f)),
          Reg.RING_EP_REP_1 (s.epIndex p (frAddr f)), Reg.RING_STAT] s t
      ∧ t = { s.tick dt with regs := t.regs, queues := t.queues, ev := t.ev, ring := t.ring })
  ∧ (∀ (s : State) (dt p : Nat), s.mode = 2 → Config.msec 100 ≤ (s.tick dt).since s.ring.enumAt → s.keep.guardFault = false → p < 12 →
    s.fld (Reg.RING_PORT_STAT p) Fld.RING_PORT_STAT_STATE = 5 →
    Does (.enumPeriodic dt) s fun t =>
      (t.lastTx p).map (fun f => (f.ty, f.addr)) = some (5, 255) ∧ t.ring.enumAt = (s.tick dt).tm.mono
      ∧ t.ring.eps = s.ring.eps ∧ t = { s.tick dt with ring := t.ring })
  ∧ (∀ (s : State) (dt p : Nat), s.mode = 2 → s.portUsed p = true → p < 12 → s.fld (Reg.RING_PORT_STAT p) Fld.RING_PORT_STAT_STATE < 2 →
    Does (.ringBringUp dt) s fun t =>
      t.fld (Reg.RING_PORT_STAT p) Fld.RING_PORT_STAT_STATE = (if s.fld (Reg.RING_PORT_STAT p) Fld.RING_PORT_STAT_LOCK = 0 then 1 else 2)
      ∧ (s.fld (Reg.RING_PORT_STAT p) Fld.RING_PORT_STAT_LOCK = 1 → (SMap.get (fun _ => []) t.ring.found p) = []
          ∧ t.fld (Reg.RING_PORT_STAT p) Fld.RING_PORT_STAT_EP_FOUND = 0)
      ∧ t.ring.enumAt = (s.tick dt).tm.mono ∧ RegsBut (Reg.RING_STAT :: (List.range 12).map Reg.RING_PORT_STAT) s t ∧ t = { s.tick dt with regs := t.regs, ring := t.ring })
  ∧ (∀ (s : State) (dt : Nat) (x : Side) (ch : Nat), s.legUsed ch = true → (s.tick dt).runsControl x = true → s.keep.orphan = false →
    s.keep.guardFault = false → (s.pair x ch).run = true → (s.pair x ch).ph = s.chanPh ch → (s.pair x ch).pend = [] →
    (s.tick dt).newestPost x ch = none → fget Fld.EDGE_CFG_UPD (s.chanCfg ch) = 0 →
    (s.tick dt).nowUnits + s.fld (Reg.RING_PORT_LEAD (ringOf ((ch - 64) / 8))) Fld.RING_PORT_LEAD_LEAD * 64 ≤ (s.pair x ch).next →
    (s.pair x ch).next < (s.tick dt).nowUnits + 64 + s.fld (Reg.RING_PORT_LEAD (ringOf ((ch - 64) / 8))) Fld.RING_PORT_LEAD_LEAD * 64 →
    x = s.serving → s.hasActive = true → s.ringOk (ringOf ((ch - 64) / 8)) = true →
    SMap.get (fun _ => 0) s.ring.sentEpoch ((ch - 64) / 8) = s.epoch (s.epPlace ((ch - 64) / 8)) →
    (s.port (ringOf ((ch - 64) / 8))).queue = [] →
    Does (.ringUpdatePoint dt x ch) s fun t =>
      (t.pair x ch).start = (s.pair x ch).next ∧ (t.pair x ch).next = (s.pair x ch).next + (s.pair x ch).per
      ∧ (t.pair x ch).word = (s.pair x ch).word
      ∧ ((t.port (ringOf ((ch - 64) / 8))).queue.map fun f => (f.ty, f.addr, fnum f.pay 0 1, fnum f.pay 16 1)) =
          [(1, (ch - 64) / 8 % 32, 1, ch % 8)]
      ∧ t = { s.tick dt with edge := t.edge, ring := t.ring, keep := { s.keep with made := t.keep.made } })

/-- An endpoint forwards a valid TRIP block: a SET latches the groups it shares and holds its legs; a CLEAR of the Guard die clears the
named groups and lets a leg without a latched group leave its pattern. A port that receives an endpoint's SET shows groups and origin
and sets Quickset source 96 + n. RING_CMD: RESCAN is refused while an endpoint of the port is in RUN, else starts the port's bring-up;
DELAY_NOW makes a delay run due; RESUME_EP and RESUME_ALL send RESUME to the endpoint, or to each endpoint of the port. RING_CLR clears the counts of every port and endpoint. What is
not named keeps its value. -/
def Obligations.RingTripAndCommandRows : Prop :=
  (∀ (s : State) (dt e : Nat) (b : List Byte), tripOk b = true → fnum b 2 1 = 1 →
    Does (.tripBlock dt e b) s fun t =>
      (t.ep e).latched = ((s.ep e).latched ||| (fnum b 1 1 &&& (s.ep e).groups))
      ∧ (t.ep e).outU = (s.ep e).outU ++ [b] ∧ (t.ep e).outD = (s.ep e).outD ++ [b]
      ∧ (fnum b 1 1 &&& (s.ep e).groups ≠ 0 → ∀ l < 8, ((t.ep e).leg l).held = true)
      ∧ (t.ep e).state = (s.ep e).state ∧ (t.ep e).rtOfs = (s.ep e).rtOfs ∧ t = (s.tick dt).setEp e (t.ep e))
  ∧ (∀ (s : State) (dt e : Nat) (b : List Byte), tripOk b = true → fnum b 2 1 = 2 → fnum b 3 1 = 0xFF →
    Does (.tripBlock dt e b) s fun t =>
      (t.ep e).latched = (s.ep e).latched - ((s.ep e).latched &&& fnum b 1 1)
      ∧ (t.ep e).outU = (s.ep e).outU ++ [b] ∧ (t.ep e).outD = (s.ep e).outD ++ [b]
      ∧ ((t.ep e).latched = 0 → ((t.ep e).legs.all fun l => !l.2.held || l.2.clearAt.isSome) = true)
      ∧ (t.ep e).state = (s.ep e).state ∧ t = (s.tick dt).setEp e (t.ep e))
  ∧ (∀ (s : State) (dt p : Nat) (b : List Byte), p < 12 → tripOk b = true → fnum b 2 1 = 1 → fnum b 3 1 ≠ 0xFF → s.srcEnabled (96 + p) = true →
    s.latched (96 + p) = false →
    Does (.portTripBlockRx dt p b) s fun t =>
      TripSet (96 + p) s t ∧ t.fld (Reg.RING_PORT_TRIP p) Fld.RING_PORT_TRIP_GROUPS = fnum b 1 1 % 256
      ∧ t.fld (Reg.RING_PORT_TRIP p) Fld.RING_PORT_TRIP_ORIGIN = fnum b 3 1 % 256
      ∧ t.ring.setFrom = s.epIndex p (fnum b 3 1) :: s.ring.setFrom ∧ t.ring.eps = s.ring.eps
      ∧ RegsBut (Reg.RING_PORT_TRIP p :: tripRegs) s t ∧ t = { s.tick dt with
            regs := t.regs, ev := t.ev, ctx := t.ctx, edge := t.edge, qset := t.qset, ring := t.ring
            recent := t.recent })
  ∧ (∀ (s : State) (dt : Nat) (acc : Access) (val : Word) (e : Nat), Admitted s acc Reg.RING_CMD .svc → fget Fld.RING_CMD_CMD val = 1 →
    s.portUsed (fget Fld.RING_CMD_TARGET val) = true → e ∈ s.ringEps (fget Fld.RING_CMD_TARGET val) →
    s.fld (Reg.RING_EP_STAT e) Fld.RING_EP_STAT_STATE = 5 →
    Does (.rescan dt acc val) s fun t =>
      Posted Ev.RING_CMD_REFUSED (evArg (fget Fld.RING_CMD_TARGET val) 0 0) (s.tick dt) t ∧ t = { s.tick dt with ev := t.ev })
  ∧ (∀ (s : State) (dt : Nat) (acc : Access) (val : Word), Admitted s acc Reg.RING_CMD .svc → fget Fld.RING_CMD_CMD val = 1 →
    s.portUsed (fget Fld.RING_CMD_TARGET val) = true → s.portPaired (fget Fld.RING_CMD_TARGET val) = false →
    (∀ e ∈ s.ringEps (fget Fld.RING_CMD_TARGET val), s.fld (Reg.RING_EP_STAT e) Fld.RING_EP_STAT_STATE ≠ 5) →
    Does (.rescan dt acc val) s fun t =>
      t.fld (Reg.RING_PORT_STAT (fget Fld.RING_CMD_TARGET val)) Fld.RING_PORT_STAT_STATE =
        (if s.fld (Reg.RING_PORT_STAT (fget Fld.RING_CMD_TARGET val)) Fld.RING_PORT_STAT_LOCK = 0 then 1 else 2)
      ∧ RegsBut [Reg.RING_PORT_STAT (fget Fld.RING_CMD_TARGET val), Reg.RING_STAT] s t ∧ t.ring.eps = s.ring.eps
      ∧ t = { s.tick dt with regs := t.regs, ring := t.ring })
  ∧ (∀ (s : State) (dt : Nat) (acc : Access) (val : Word), Admitted s acc Reg.RING_CMD .svc → fget Fld.RING_CMD_CMD val = 2 →
    s.portUsed (fget Fld.RING_CMD_TARGET val) = true →
    Does (.delayNow dt acc val) s fun t =>
      t = { s.tick dt with ring := { s.ring with delayDue := s.ring.delayDue ++ [fget Fld.RING_CMD_TARGET val] } })
  ∧ (∀ (s : State) (dt : Nat) (acc : Access) (val : Word), Admitted s acc Reg.RING_CMD .svc → fget Fld.RING_CMD_CMD val = 3 →
    s.par (Par.epUsed (fget Fld.RING_CMD_TARGET val)) = 1 → s.keep.guardFault = false →
    Does (.ringCmdResumeEp dt acc val) s fun t =>
      (t.lastTx (ringOf (fget Fld.RING_CMD_TARGET val))).map (fun f => (f.ty, f.addr, fnum f.pay 0 2)) =
        some (7, fget Fld.RING_CMD_TARGET val % 32, s.epoch (s.epPlace (fget Fld.RING_CMD_TARGET val)) % 65536)
      ∧ t.ring.eps = s.ring.eps ∧ t = { s.tick dt with ring := t.ring })
  ∧ (∀ (s : State) (dt : Nat) (acc : Access) (val : Word), Admitted s acc Reg.RING_CMD .svc → fget Fld.RING_CMD_CMD val = 4 →
    s.keep.guardFault = false → s.portPaired (fget Fld.RING_CMD_TARGET val) = false → fget Fld.RING_CMD_TARGET val < 12 →
    Does (.ringCmdResumeAll dt acc val) s fun t =>
      (∀ e ∈ s.ringEps (fget Fld.RING_CMD_TARGET val),
        (((t.port (fget Fld.RING_CMD_TARGET val)).queue.any fun f => f.ty == 7 && f.addr == e % 32)
          || (t.port (fget Fld.RING_CMD_TARGET val)).sent.any fun f => frType f == 7 && frAddr f == e % 32) = true)
      ∧ (t.port (fget Fld.RING_CMD_TARGET val)).queue.length + (t.port (fget Fld.RING_CMD_TARGET val)).sent.length =
          (s.port (fget Fld.RING_CMD_TARGET val)).queue.length + (s.port (fget Fld.RING_CMD_TARGET val)).sent.length
            + (s.ringEps (fget Fld.RING_CMD_TARGET val)).length
      ∧ t.ring.eps = s.ring.eps ∧ t = { s.tick dt with ring := t.ring })
  ∧ (∀ (s : State) (dt : Nat) (acc : Access) (val : Word), Admitted s acc Reg.RING_CLR .op → val.getLsbD 0 = true →
    Does (.ringClr dt acc val) s fun t =>
      (∀ p < 12, t.rd (Reg.RING_PORT_CNT p) = (s.tick dt).counted (Reg.RING_PORT_CNT p))
      ∧ (∀ e < 384, t.rd (Reg.RING_EP_CNT e) = (s.tick dt).counted (Reg.RING_EP_CNT e))
      ∧ RegsBut ((List.range 12).map Reg.RING_PORT_CNT ++ (List.range 384).map Reg.RING_EP_CNT) s t
      ∧ t.ev.posted = s.ev.posted ∧ t = { s.tick dt with regs := t.regs, ev := t.ev })

/-- ENERGISE, its conditions met and the check not yet done, enters CHECK; else SST_START_REFUSED is posted. DEENERGISE in RUN enters
STOPPING with reason COMMAND. ACK_LOCKOUT leaves LOCKOUT for DEAD. A breaker report shows both positions, and the open precharge
breaker beside a closed main one starts CHARGE with modulation on. PRECHARGE past PRE_TMO, a breaker past BRK_TMO and BLOCKED past
TRIP_HOLD stop with reasons 3, 4 and 8; a breaker failure ends in LOCKOUT. RESTART_DLY after the trip all idle latches of the group are
cleared and CHARGE begins again, counted. Registers other than the transformer's own keep their values, and the parts of the state not
named stay. -/
def Obligations.TransformerLadderRows : Prop :=
  (∀ (s : State) (dt : Nat) (acc : Access) (val : Word), Admitted s acc Reg.SST_RUN_CTRL .op → fget Fld.SST_RUN_CTRL_ENERGISE val = 1 → fget Fld.SST_RUN_CTRL_DEENERGISE val = 0 →
    fget Fld.SST_RUN_CTRL_ACK_LOCKOUT val = 0 → s.mayEnergise = true → SstClear s →
    (s.cells.any fun c => !s.cellRuns c && s.cellState c == 0) = true → (s.cells.all fun c => s.cellRuns c || s.cellState c != 1) = true →
    Does (.energise dt acc val) s fun t =>
      t.ladder = 1 ∧ t.fld Reg.SST_RUN_STAT Fld.SST_RUN_STAT_ABORT = s.fld Reg.SST_RUN_STAT Fld.SST_RUN_STAT_ABORT ∧ t.sst.ladderAt = (s.tick dt).tm.mono ∧ Silent s t
      ∧ t.ring.eps = s.ring.eps ∧ RegsBut sstRegs s t ∧ t = { s.tick dt with regs := t.regs, ev := t.ev, ring := t.ring, sst := t.sst, recent := t.recent })
  ∧ (∀ (s : State) (dt : Nat) (acc : Access) (val : Word), Admitted s acc Reg.SST_RUN_CTRL .op → fget Fld.SST_RUN_CTRL_ENERGISE val = 1 → fget Fld.SST_RUN_CTRL_DEENERGISE val = 0 →
    fget Fld.SST_RUN_CTRL_ACK_LOCKOUT val = 0 → s.mayEnergise = false →
    Does (.energise dt acc val) s fun t => Posted Ev.SST_START_REFUSED (evArg 0xFFF 0 0) (s.tick dt) t ∧ t = { s.tick dt with ev := t.ev })
  ∧ (∀ (s : State) (dt : Nat) (acc : Access) (val : Word), Admitted s acc Reg.SST_RUN_CTRL .op → fget Fld.SST_RUN_CTRL_DEENERGISE val = 1 → fget Fld.SST_RUN_CTRL_ENERGISE val = 0 →
    s.ladder = 6 →
    Does (.deenergise dt acc val) s fun t =>
      t.ladder = 8 ∧ t.fld Reg.SST_RUN_STAT Fld.SST_RUN_STAT_ABORT = 1 ∧ t.sst.ladderAt = (s.tick dt).tm.mono ∧ Silent s t
      ∧ RegsBut sstRegs s t ∧ t = { s.tick dt with regs := t.regs, ev := t.ev, ring := t.ring, sst := t.sst, recent := t.recent })
  ∧ (∀ (s : State) (dt : Nat) (acc : Access) (val : Word), Admitted s acc Reg.SST_RUN_CTRL .svc → fget Fld.SST_RUN_CTRL_ACK_LOCKOUT val = 1 → fget Fld.SST_RUN_CTRL_DEENERGISE val = 0 →
    fget Fld.SST_RUN_CTRL_ENERGISE val = 0 → s.ladder = 9 →
    Does (.sstAckLockout dt acc val) s fun t => t.ladder = 0 ∧ Silent s t ∧ RegsBut sstRegs s t ∧ t = { s.tick dt with regs := t.regs, ev := t.ev, ring := t.ring, sst := t.sst, recent := t.recent })
  ∧ (∀ (s : State) (dt : Nat) (main pre : Bool), s.sstUsed = true →
    Does (.breakerReport dt main pre) s fun t =>
      t.fld Reg.SST_RUN_STAT Fld.SST_RUN_STAT_MAIN_CLOSED = flag main ∧ t.fld Reg.SST_RUN_STAT Fld.SST_RUN_STAT_PRE_CLOSED = flag pre
      ∧ RegsBut sstRegs s t ∧ t = { s.tick dt with regs := t.regs, ev := t.ev, ring := t.ring, sst := t.sst, recent := t.recent })
  ∧ (∀ (s : State) (dt : Nat), SstClear s → s.ladder = 3 → s.sst.step = 2 → (s.cells.all s.cellRuns) = true →
    Does (.breakerReport dt true false) s fun t =>
      t.ladder = 4 ∧ t.modOn = true ∧ (∀ c ∈ s.cells, s.cellState c = 1 → t.cellState c = 2) ∧ RegsBut sstRegs s t ∧ t = { s.tick dt with regs := t.regs, ev := t.ev, ring := t.ring, sst := t.sst, recent := t.recent })
  ∧ (∀ (s : State) (dt : Nat), s.sstUsed = true → s.ladder = 2 →
    Config.sec (s.fld Reg.SST_PRE_CFG Fld.SST_PRE_CFG_PRE_TMO) ≤ (s.tick dt).since s.sst.ladderAt →
    Does (.sstLadderTimeout dt) s fun t =>
      t.ladder = (if s.fld Reg.SST_RUN_STAT Fld.SST_RUN_STAT_MAIN_CLOSED = 0 ∧ s.fld Reg.SST_RUN_STAT Fld.SST_RUN_STAT_PRE_CLOSED = 0 then 0 else 8)
      ∧ t.fld Reg.SST_RUN_STAT Fld.SST_RUN_STAT_ABORT = 3 ∧ t.modOn = false
      ∧ t.sst.mainClose = false ∧ t.sst.preClose = false ∧ t.sst.mainOpen = true ∧ RegsBut sstRegs s t ∧ t = { s.tick dt with regs := t.regs, ev := t.ev, ring := t.ring, sst := t.sst, recent := t.recent })
  ∧ (∀ (s : State) (dt : Nat), s.sstUsed = true → s.ladder = 3 → s.brkTmo ≤ (s.tick dt).since s.sst.stepAt →
    Does (.sstLadderTimeout dt) s fun t =>
      t.ladder = (if s.fld Reg.SST_RUN_STAT Fld.SST_RUN_STAT_MAIN_CLOSED = 0 ∧ s.fld Reg.SST_RUN_STAT Fld.SST_RUN_STAT_PRE_CLOSED = 0 then 9 else 8)
      ∧ t.fld Reg.SST_RUN_STAT Fld.SST_RUN_STAT_ABORT = 4 ∧ t.sst.lockEnd = true
      ∧ (t.ev.posted.any fun e => e.code == Ev.SST_BREAKER_FAIL) = true ∧ RegsBut sstRegs s t ∧ t = { s.tick dt with regs := t.regs, ev := t.ev, ctx := t.ctx, ring := t.ring, sst := t.sst, recent := t.recent })
  ∧ (∀ (s : State) (dt : Nat), s.sstUsed = true → s.ladder = 7 → s.fld Reg.SST_RUN_STAT Fld.SST_RUN_STAT_MAIN_CLOSED = 1 →
    Config.msec (100 * s.fld Reg.SST_RESTART_CFG Fld.SST_RESTART_CFG_TRIP_HOLD) ≤ (s.tick dt).since s.sst.ladderAt →
    Does (.sstLadderTimeout dt) s fun t =>
      t.ladder = 8 ∧ t.fld Reg.SST_RUN_STAT Fld.SST_RUN_STAT_ABORT = 8 ∧ t.modOn = false ∧ t.sst.mainOpen = true
      ∧ RegsBut sstRegs s t ∧ t = { s.tick dt with regs := t.regs, ev := t.ev, ring := t.ring, sst := t.sst, recent := t.recent })
  ∧ (∀ (s : State) (dt : Nat), s.sstUsed = true → s.ladder = 7 → s.fld Reg.SST_RESTART_CFG Fld.SST_RESTART_CFG_AUTO = 1 →
    Config.msec (100 * s.fld Reg.SST_RESTART_CFG Fld.SST_RESTART_CFG_RESTART_DLY) ≤ (s.tick dt).since s.sst.triedAt →
    s.fld Reg.SST_STAT Fld.SST_STAT_PLL_LOCK = 1 → s.phasesStand = true → (s.gtLatches.all (s.tick dt).qsetIdle) = true →
    Does (.sstRestartDelay dt) s fun t =>
      t.gtLatches = [] ∧ t.ladder = 4 ∧ t.modOn = true ∧ t.sst.restarts = (s.tick dt).lastHour ++ [(s.tick dt).tm.mono]
      ∧ t.fld Reg.SST_RUN_STAT Fld.SST_RUN_STAT_RESTARTS = min ((s.tick dt).lastHour.length + 1) 15
      ∧ (t.ev.posted.getLast?).map (·.code) = some Ev.SST_RESTART
      ∧ RegsBut (sstRegs ++ tripRegs ++ (List.range 4).map Reg.QSET_REFUSED) s t ∧ t = { s.tick dt with
            regs := t.regs, ev := t.ev, edge := t.edge, qset := t.qset, ring := t.ring, sst := t.sst
            recent := t.recent })

/-- BYPASS of a listed READY or ACTIVE cell whose phase can spare it enters BYPASSING, counted, and a new plan of its phase is due; where
the phase cannot spare it, SST_CMD_REFUSED is posted and the cell stays. RESTORE of a cell out of the string enters RESTORE_PEND and
keeps the state it came from. BYP_TMO without a report of closed leads to HELD and SST_BYP_FAIL. A carrier replan at a cycle's start
shows the phase's active cells, marks each of them and no other as active, and leaves no cause of an earlier cycle. F_TMO outside the
band, and 500 ms without lock, of an energised transformer, end ride-through in OUT. SST_CLR clears SST_CNT. What is not named keeps
its value. -/
def Obligations.TransformerCellRows : Prop :=
  (∀ (s : State) (dt : Nat) (acc : Access) (c : Nat) (val : Word), c < 96 → Admitted s acc (Reg.SST_CELL_CMD c) .svc → s.cells.contains c = true →
    fget Fld.SST_CELL_CMD_BYPASS val = 1 → fget Fld.SST_CELL_CMD_RESTORE val = 0 → s.cellState c = 1 ∨ s.cellState c = 2 →
    s.wouldStarve c = false →
    Does (.bypass dt acc c val) s fun t =>
      t.cellState c = 3 ∧ t.sst.replan = s.sst.replan ++ [(c / 32, s.tm.cycleN)]
      ∧ t.fld (Reg.SST_CELL_HIST c) Fld.SST_CELL_HIST_BYPASSES =
          min (s.fld (Reg.SST_CELL_HIST c) Fld.SST_CELL_HIST_BYPASSES + 1) (2 ^ Fld.SST_CELL_HIST_BYPASSES.width - 1)
      ∧ RegsBut [Reg.SST_CELL_STAT c, Reg.SST_CELL_HIST c, Reg.SST_RUN_STAT] s t ∧ t = { s.tick dt with regs := t.regs, ev := t.ev, ring := t.ring, sst := t.sst, recent := t.recent })
  ∧ (∀ (s : State) (dt : Nat) (acc : Access) (c : Nat) (val : Word), c < 96 → Admitted s acc (Reg.SST_CELL_CMD c) .svc → s.cells.contains c = true →
    fget Fld.SST_CELL_CMD_BYPASS val = 1 → fget Fld.SST_CELL_CMD_RESTORE val = 0 → s.cellState c = 1 ∨ s.cellState c = 2 →
    s.wouldStarve c = true →
    Does (.bypass dt acc c val) s fun t =>
      t.cellState c = s.cellState c ∧ Posted Ev.SST_CMD_REFUSED (evArg c 0 0) (s.tick dt) t ∧ t.sst = s.sst
      ∧ RegsBut [Reg.SST_RUN_STAT] s t ∧ t = { s.tick dt with regs := t.regs, ev := t.ev, ring := t.ring, sst := t.sst, recent := t.recent })
  ∧ (∀ (s : State) (dt : Nat) (acc : Access) (c : Nat) (val : Word), c < 96 → Admitted s acc (Reg.SST_CELL_CMD c) .svc → s.cells.contains c = true →
    fget Fld.SST_CELL_CMD_RESTORE val = 1 → fget Fld.SST_CELL_CMD_BYPASS val = 0 → s.cellBit c 6 = false →
    4 ≤ s.cellState c → s.cellState c ≤ 6 →
    Does (.restore dt acc c val) s fun t =>
      t.cellState c = 7 ∧ (t.cell c).before = s.cellState c ∧ Silent s t
      ∧ RegsBut [Reg.SST_CELL_STAT c, Reg.SST_RUN_STAT] s t ∧ t = { s.tick dt with regs := t.regs, ev := t.ev, ring := t.ring, sst := t.sst, recent := t.recent })
  ∧ (∀ (s : State) (dt c : Nat), c < 96 → s.cellState c = 3 → s.cellBit c 1 = false →
    (s.tick dt).lasted (s.cell c).zeroAt (Config.msec (10 * s.fld Reg.SST_BRK_CFG Fld.SST_BRK_CFG_BYP_TMO)) = true →
    Does (.bypassTimeout dt c) s fun t =>
      t.cellState c = 5 ∧ Posted Ev.SST_BYP_FAIL (evArg c 0 0) (s.tick dt) t
      ∧ RegsBut [Reg.SST_CELL_STAT c, Reg.SST_RUN_STAT] s t ∧ t = { s.tick dt with regs := t.regs, ev := t.ev, ring := t.ring })
  ∧ (∀ (s : State) (dt p : Nat), p < 3 → (s.tick dt).atCycleStart = true → (s.sst.replan.any fun r => r.1 == p && decide (r.2 < s.tm.cycleN)) = true →
    s.sst.foCycle = none →
    Does (.carrierReplan dt) s fun t =>
      t.fld (Reg.SST_PHASE p) Fld.SST_PHASE_N_ACTIVE = (s.cellsIn p [2]).length % 256
      ∧ (∀ c ∈ s.cellsOf p, t.fld (Reg.SST_CELL_CAR c) Fld.SST_CELL_CAR_ACTIVE = flag (s.cellState c == 2))
      ∧ t.sst.replan = s.sst.replan.filter (fun r => decide (s.tm.cycleN ≤ r.2))
      ∧ RegsBut ([Reg.SST_RUN_STAT, Reg.KEEP_EPOCH] ++ (List.range 3).map Reg.SST_PHASE ++ (List.range 96).map Reg.SST_CELL_CAR) s t
      ∧ t = { s.tick dt with regs := t.regs, keep := t.keep, edge := t.edge, ring := t.ring, sst := t.sst })
  ∧ (∀ (s : State) (dt : Nat) (at' : Count), s.sstUsed = true → s.fld Reg.SST_STAT Fld.SST_STAT_RT_STATE ≠ 5 → s.sst.freqAt = some at' →
    Config.msec (100 * fget Fld.SST_RT_CFG2_F_TMO (s.rtReg Reg.SST_RT_CFG2)) ≤ (s.tick dt).since at' →
    Does (.rtFTmoExpiry dt) s fun t =>
      t.fld Reg.SST_STAT Fld.SST_STAT_RT_STATE = 5 ∧ t.fld Reg.SST_RT_LOG Fld.SST_RT_LOG_KIND = 4
      ∧ t.fld Reg.SST_RT_LOG Fld.SST_RT_LOG_OUTCOME = 1 ∧ (t.ev.posted.any fun e => e.code == Ev.RT_OUT) = true
      ∧ RegsBut (Reg.SST_RT_LOG :: sstRegs) s t ∧ t = { s.tick dt with regs := t.regs, ev := t.ev, ring := t.ring, sst := t.sst, recent := t.recent })
  ∧ (∀ (s : State) (dt : Nat), s.sstUsed = true → s.fld Reg.SST_STAT Fld.SST_STAT_RT_STATE ≠ 5 →
    (s.tick dt).lasted s.sst.unlockAt (Config.msec 500) = true →
    Does (.pllUnlockOut dt) s fun t =>
      t.fld Reg.SST_STAT Fld.SST_STAT_RT_STATE = 5 ∧ (t.ev.posted.any fun e => e.code == Ev.RT_OUT) = true
      ∧ RegsBut sstRegs s t ∧ t = { s.tick dt with regs := t.regs, ev := t.ev, ring := t.ring, sst := t.sst, recent := t.recent })
  ∧ (∀ (s : State) (dt : Nat) (acc : Access) (val : Word), Admitted s acc Reg.SST_CLR .op → fget Fld.SST_CLR_CLEAR val = 1 →
    Does (.sstClr dt acc val) s fun t =>
      t.rd Reg.SST_CNT = (s.tick dt).counted Reg.SST_CNT ∧ t.ev.posted = s.ev.posted ∧ RegsBut [Reg.SST_CNT] s t
      ∧ t = { s.tick dt with regs := t.regs, ev := t.ev })

/-- STOP of a stage in SOFT_START, HOLD_V, CHARGE or RETRY_WAIT enters STOPPING with no current asked for; once that ends every switching
phase of the outlet is IDLE and the stage is OFF, or in LOCKOUT for want of phases. ACK_LOCKOUT with every latch of its group clear
leads from LOCKOUT to OFF. PHASE_RESTORE returns a FAULTED phase that is ready and without fault to IDLE, else it posts
OUTS_CMD_REFUSED. A tracking fault aborts the soft start: RETRY_WAIT at the first two attempts, else LOCKOUT; 500 ms later the next
attempt starts from the measured voltage. SHED_DLY sheds the ON phase with the highest number, an imbalance for 1 s the phase itself.
OUTS_CLR clears the counts. Registers and parts not named keep their values. -/
def Obligations.OutputStageRows : Prop :=
  (∀ (s : State) (dt : Nat) (acc : Access) (n : Nat) (val : Word), n < 8 → Admitted s acc (Reg.OUTS_O_CTRL n) .op → fget Fld.OUTS_O_CTRL_STOP val = 1 →
    fget Fld.OUTS_O_CTRL_ACK_LOCKOUT val = 0 → [1, 2, 3, 5].contains (s.stgState n) = true →
    Does (.outsStop dt acc n val) s fun t =>
      t.stgState n = 4 ∧ (t.stg n).iRef = 0 ∧ (t.stg n).iCmd = 0 ∧ (t.stg n).since = (s.tick dt).tm.mono ∧ Silent s t
      ∧ RegsBut [Reg.OUTS_O_STAT n] s t ∧ t = { s.tick dt with regs := t.regs, ev := t.ev, outs := t.outs, recent := t.recent })
  ∧ (∀ (s : State) (dt : Nat) (acc : Access) (n : Nat) (val : Word), n < 8 → Admitted s acc (Reg.OUTS_O_CTRL n) .op → fget Fld.OUTS_O_CTRL_STOP val = 0 →
    fget Fld.OUTS_O_CTRL_ACK_LOCKOUT val = 1 → s.stgState n = 7 → s.goLatches n = [] →
    Does (.outsAckLockout dt acc n val) s fun t =>
      t.stgState n = 0 ∧ t.fld (Reg.OUTS_O_STAT n) Fld.OUTS_O_STAT_ATTEMPT = 0 ∧ t.fld (Reg.OUTS_O_STAT n) Fld.OUTS_O_STAT_LOCK_REASON = 0
      ∧ Silent s t ∧ RegsBut [Reg.OUTS_O_STAT n] s t ∧ t = { s.tick dt with regs := t.regs, ev := t.ev, outs := t.outs, recent := t.recent })
  ∧ (∀ (s : State) (dt : Nat) (acc : Access) (m : Nat) (val : Word), Admitted s acc (Reg.OUTS_PH_CMD m) .svc → fget Fld.OUTS_PH_CMD_RESTORE val = 1 →
    m ∈ s.phases → s.phState m = 5 → (s.phs m).ready = true → (s.phs m).faulty = false → m < 96 →
    Does (.phaseRestore dt acc m val) s fun t =>
      t.phState m = 1 ∧ t.fld (Reg.OUTS_PH_STAT m) Fld.OUTS_PH_STAT_CAUSE = 0 ∧ t.phOutlet m = s.phOutlet m ∧ Silent s t
      ∧ RegsBut [Reg.OUTS_PH_STAT m, Reg.OUTS_STAT] s t ∧ t = { s.tick dt with regs := t.regs, ev := t.ev, edge := t.edge, ring := t.ring, recent := t.recent })
  ∧ (∀ (s : State) (dt : Nat) (acc : Access) (m : Nat) (val : Word), Admitted s acc (Reg.OUTS_PH_CMD m) .svc → fget Fld.OUTS_PH_CMD_RESTORE val = 1 →
    m ∈ s.phases → (s.phs m).ready = false → m < 96 →
    Does (.phaseRestore dt acc m val) s fun t =>
      Posted Ev.OUTS_CMD_REFUSED (evArg m 0 0) (s.tick dt) t ∧ t = { s.tick dt with ev := t.ev })
  ∧ (∀ (s : State) (dt n : Nat), n < 8 → s.stgState n = 1 → (s.tick dt).lasted (s.stg n).lagAt (Config.msec 2) = true →
    s.fld (Reg.OUTS_O_STAT n) Fld.OUTS_O_STAT_ATTEMPT < 3 →
    Does (.trackingFault dt n) s fun t =>
      t.stgState n = 5 ∧ (∀ m ∈ s.membersIn n [2, 3], t.phState m = 1) ∧ (t.stg n).iCmd = 0
      ∧ Posted Ev.OUTS_SS_ABORT (evArg n 0 0) (s.tick dt) t ∧ RegsBut (stageRegs n) s t ∧ t = { s.tick dt with
            regs := t.regs, ev := t.ev, ctx := t.ctx, edge := t.edge, ring := t.ring, outs := t.outs
            recent := t.recent })
  ∧ (∀ (s : State) (dt n : Nat), n < 8 → s.stgState n = 1 → (s.tick dt).lasted (s.stg n).lagAt (Config.msec 2) = true →
    s.fld (Reg.OUTS_O_STAT n) Fld.OUTS_O_STAT_ATTEMPT = 3 →
    Does (.trackingFault dt n) s fun t =>
      t.stgState n = 7 ∧ t.fld (Reg.OUTS_O_STAT n) Fld.OUTS_O_STAT_LOCK_REASON = 1 ∧ (∀ m ∈ s.membersIn n [2, 3], t.phState m = 1)
      ∧ (t.ev.posted.any fun e => e.code == Ev.OUTS_LOCKOUT && e.arg == evArg n 1 0) = true ∧ RegsBut (stageRegs n) s t ∧ t = { s.tick dt with
            regs := t.regs, ev := t.ev, ctx := t.ctx, edge := t.edge, ring := t.ring, outs := t.outs
            recent := t.recent })
  ∧ (∀ (s : State) (dt n : Nat), n < 8 → s.stgState n = 5 → Config.msec 500 ≤ (s.tick dt).since (s.stg n).since →
    Does (.retryWaitExpiry dt n) s fun t =>
      t.stgState n = 1 ∧ t.fld (Reg.OUTS_O_STAT n) Fld.OUTS_O_STAT_ATTEMPT = (s.fld (Reg.OUTS_O_STAT n) Fld.OUTS_O_STAT_ATTEMPT + 1) % 4
      ∧ (t.stg n).vss = s.fld (Reg.OUTS_O_MEAS n) Fld.OUTS_O_MEAS_V_OUT ∧ (t.stg n).iRef = 0
      ∧ RegsBut [Reg.OUTS_O_STAT n] s t ∧ t = { s.tick dt with regs := t.regs, outs := t.outs })
  ∧ (∀ (s : State) (dt n m : Nat), n < 8 →
    (s.tick dt).lasted (s.stg n).shedAt (Config.msec (10 * s.fld (Reg.OUTS_SHED_CFG n) Fld.OUTS_SHED_CFG_SHED_DLY)) = true →
    (s.membersIn n [2]).getLast? = some m →
    Does (.shedDlyExpiry dt n) s fun t =>
      t.phState m = 3 ∧ t.fld (Reg.OUTS_PH_STAT m) Fld.OUTS_PH_STAT_STEP = 1 ∧ (t.stg n).shedAt = some (s.tick dt).tm.mono
      ∧ RegsBut [Reg.OUTS_PH_STAT m] s t ∧ t = { s.tick dt with regs := t.regs, edge := t.edge, ring := t.ring, outs := t.outs })
  ∧ (∀ (s : State) (dt m : Nat), m < 96 → s.phState m = 2 → (s.tick dt).lasted (s.phs m).tripAt (Config.sec 1) = true →
    Does (.imbalanceTrip dt m) s fun t =>
      t.phState m = 3 ∧ (t.phs m).toFault = 3 ∧ RegsBut [Reg.OUTS_PH_STAT m] s t ∧ t = { s.tick dt with regs := t.regs, edge := t.edge, ring := t.ring, outs := t.outs })
  ∧ (∀ (s : State) (dt n : Nat), n < 8 → s.stgState n = 4 → (s.tick dt).stopDone n = true → (s.stg n).noPhases = false →
    Does (.stageStopTimeout dt n) s fun t =>
      t.stgState n = 0 ∧ (∀ m ∈ s.membersIn n [2, 3], t.phState m = 1) ∧ Posted Ev.OUTS_STOPPED (evArg n 0 0) (s.tick dt) t
      ∧ RegsBut (stageRegs n) s t ∧ t = { s.tick dt with
            regs := t.regs, ev := t.ev, ctx := t.ctx, edge := t.edge, ring := t.ring, outs := t.outs
            recent := t.recent })
  ∧ (∀ (s : State) (dt n : Nat), n < 8 → s.stgState n = 4 → (s.tick dt).stopDone n = true → (s.stg n).noPhases = true →
    Does (.stageStopTimeout dt n) s fun t =>
      t.stgState n = 7 ∧ t.fld (Reg.OUTS_O_STAT n) Fld.OUTS_O_STAT_LOCK_REASON = 3
      ∧ (t.ev.posted.getLast?).map (·.code) = some Ev.OUTS_STOPPED ∧ RegsBut (stageRegs n) s t ∧ t = { s.tick dt with
            regs := t.regs, ev := t.ev, ctx := t.ctx, edge := t.edge, ring := t.ring, outs := t.outs
            recent := t.recent })
  ∧ (∀ (s : State) (dt : Nat) (acc : Access) (val : Word), Admitted s acc Reg.OUTS_CLR .op → fget Fld.OUTS_CLR_CLEAR val = 1 →
    Does (.outsClr dt acc val) s fun t =>
      (∀ n < 8, t.rd (Reg.OUTS_O_CNT n) = (s.tick dt).counted (Reg.OUTS_O_CNT n))
      ∧ (∀ m < 96, t.fld (Reg.OUTS_PH_IMB m) Fld.OUTS_PH_IMB_WARNS = fget Fld.OUTS_PH_IMB_WARNS ((s.tick dt).counted (Reg.OUTS_PH_IMB m)))
      ∧ Silent s t ∧ RegsBut ((List.range 8).map Reg.OUTS_O_CNT ++ (List.range 96).map Reg.OUTS_PH_IMB) s t
      ∧ t = { s.tick dt with regs := t.regs })

/-- A due tick in RUN counts, shows its duration and grants 0 to every outlet that takes no part; 50 ms without a result make the demand
data stale. A conversion above the open limit makes the input invalid; one within the limits ends OPEN and SHORT and, if its
temperature is in range, keeps and delivers the filtered value to both sides. 100 ms free of faults make an input valid with its kept
value. FLOW_UPDATE gives the flow, of a pulse source by its pulses and of a site-bus source by the word it has read, to every outlet the
source serves. 1 s above the limit is a cable trip with the outlet's force latch.
Low flow for FLOW_TMO and a leak for 100 ms lead to LOSS with their causes; 10 s of flow, or the acknowledge of a dried leak, leave it;
other acknowledges are refused. FLOW_LOW shows once; RUN_ON_MAX ends the run-on. The clears clear their counts. What is not named keeps
its value. -/
def Obligations.AllocationAndCoolingRows : Prop :=
  (∀ (s : State) (dt dur n : Nat), s.mode = 2 → s.power < 2 → (s.tick dt).atCycleStart = true →
    s.aloc.nextTick ≤ (s.tick dt).since s.aloc.runAt / Config.msec 10 → (s.tick dt).safetyDue = false → s.owed = none →
    n ∈ s.outlets → (s.tick dt).estimate.eligible true n = false → (s.tick dt).estimate.eligible false n = false →
    Does (.allocationTick dt dur) s fun t =>
      t.rd Reg.ALOC_TICK = s.rd Reg.ALOC_TICK + 1 ∧ t.fld Reg.ALOC_TTIME Fld.ALOC_TTIME_LAST = min dur 0xFFFF ∧ t.grant n = 0
      ∧ t.aloc.nextTick = (s.tick dt).since s.aloc.runAt / Config.msec 10 + 1 ∧ RegsBut tickRegs s t ∧ t = { s.tick dt with regs := t.regs, ev := t.ev, aloc := t.aloc, recent := t.recent })
  ∧ (∀ (s : State) (dt : Nat), s.mode = 2 → s.demStale = false → Config.msec 50 ≤ (s.tick dt).since s.aloc.arrived →
    Does (.metrologyStale dt) s fun t =>
      t.demStale = true ∧ Posted Ev.ALOC_METR_STALE (evArg 0xFFF 0 0) (s.tick dt) t ∧ RegsBut [Reg.ALOC_STAT] s t
      ∧ t = { s.tick dt with regs := t.regs, ev := t.ev })
  ∧ (∀ (s : State) (dt : Nat) (acc : Access) (val : Word), Admitted s acc Reg.ALOC_CLR .op → fget Fld.ALOC_CLR_CLEAR val = 1 →
    Does (.alocClr dt acc val) s fun t =>
      t.rd Reg.ALOC_CNT = (s.tick dt).counted Reg.ALOC_CNT ∧ t.fld Reg.ALOC_TTIME Fld.ALOC_TTIME_MAX = 0
      ∧ RegsBut [Reg.ALOC_CNT, Reg.ALOC_TTIME] s t ∧ t = { s.tick dt with regs := t.regs })
  ∧ (∀ (s : State) (dt i r : Nat), i < 32 → s.fld (Reg.THERM_CFG i) Fld.THERM_CFG_TYPE ≠ 0 →
    (thLimits (s.fld (Reg.THERM_CFG i) Fld.THERM_CFG_TYPE)).1 < r →
    Does (.thConversion dt i r) s fun t =>
      t.fld (Reg.THERM_VAL i) Fld.THERM_VAL_OPEN = 1 ∧ t.fld (Reg.THERM_VAL i) Fld.THERM_VAL_VALID = 0 ∧ t.bit Reg.THERM_STAT i = true
      ∧ t.cool.filt = s.cool.filt ∧ t.queues = s.queues ∧ RegsBut [Reg.THERM_VAL i, Reg.THERM_STAT, Reg.THERM_CNT i] s t
      ∧ t = { s.tick dt with regs := t.regs, recent := t.recent, ev := t.ev, cool := t.cool })
  ∧ (∀ (s : State) (dt i r : Nat), i < 32 → s.fld (Reg.THERM_CFG i) Fld.THERM_CFG_TYPE ≠ 0 →
    r ≤ (thLimits (s.fld (Reg.THERM_CFG i) Fld.THERM_CFG_TYPE)).1 → (thLimits (s.fld (Reg.THERM_CFG i) Fld.THERM_CFG_TYPE)).2 ≤ r →
    Does (.thConversion dt i r) s fun t =>
      t.fld (Reg.THERM_VAL i) Fld.THERM_VAL_OPEN = 0 ∧ t.fld (Reg.THERM_VAL i) Fld.THERM_VAL_SHORT = 0
      ∧ t.bit Reg.THERM_STAT i = (decide (s.thTemp i r < -5000) || decide (25000 < s.thTemp i r))
      ∧ (-5000 ≤ s.thTemp i r → s.thTemp i r ≤ 25000 →
          SMap.get (fun _ => 0) t.cool.filt i = s.thFiltered i r
          ∧ ((t.queue .a (256 + i)).entries.any fun e => e.src == 512 + i && e.val == s.thFiltered i r) = true
          ∧ ((t.queue .b (256 + i)).entries.any fun e => e.src == 512 + i && e.val == s.thFiltered i r) = true)
      ∧ RegsBut ([Reg.THERM_VAL i, Reg.THERM_STAT, Reg.THERM_CNT i] ++ (List.range 8).map Reg.COOL_O_CNT ++ tripRegs) s t ∧ t = { s.tick dt with
            regs := t.regs, queues := t.queues, ev := t.ev, ctx := t.ctx, edge := t.edge, qset := t.qset
            cool := t.cool, recent := t.recent })
  ∧ (∀ (s : State) (dt i k : Nat) (v : Int), i < 32 → s.cool.filt.find? (fun e => e.1 == i) = some (k, v) →
    s.fld (Reg.THERM_VAL i) Fld.THERM_VAL_VALID = 0 → s.bit Reg.THERM_STAT i = false →
    Config.msec 100 ≤ (s.tick dt).since (SMap.get (fun _ => 0) s.cool.badAt i) →
    Does (.thValidRestore dt i) s fun t =>
      t.fld (Reg.THERM_VAL i) Fld.THERM_VAL_VALID = 1 ∧ t.fldS (Reg.THERM_VAL i) Fld.THERM_VAL_TEMP = clampInt (-32768) 32767 v
      ∧ RegsBut [Reg.THERM_VAL i] s t ∧ t = { s.tick dt with regs := t.regs })
  ∧ (∀ (s : State) (dt src value : Nat) (good : Bool) (n : Nat), n ∈ s.cooled → s.parN (Par.flowSrc n) = src + 1 → s.parN (Par.flowObj src) = 0 →
    Does (.flowUpdate dt src value good) s fun t =>
      (t.col n).flowOk = good ∧ (t.col n).flow = (if good then value * 1200 / s.parN (Par.kFlow src) else (s.col n).flow)
      ∧ (t.col n).thCd = (s.col n).thCd ∧ t = { s.tick dt with cool := t.cool })
  ∧ (∀ (s : State) (dt src value : Nat) (good : Bool) (n : Nat), n ∈ s.cooled → s.parN (Par.flowSrc n) = src + 1 → 0 < s.parN (Par.flowObj src) →
    Does (.flowUpdate dt src value good) s fun t =>
      (t.col n).flowOk = (s.tick dt).flowGood src ∧ (t.col n).flow = (if (s.tick dt).flowGood src then (s.flow src).val else (s.col n).flow)
      ∧ (t.col n).thCd = (s.col n).thCd ∧ t = { s.tick dt with cool := t.cool })
  ∧ (∀ (s : State) (dt n : Nat), n < 8 → (s.tick dt).lasted (s.col n).hotAt (Config.sec 1) = true → (s.col n).cableTrip = false →
    s.srcEnabled (108 + s.gO n) = true → s.latched (108 + s.gO n) = false → s.gO n < 8 →
    Does (.coolCableTrip dt n) s fun t =>
      (t.col n).cableTrip = true ∧ TripSet (108 + s.gO n) s t
      ∧ (t.ev.posted.any fun e => e.code == Ev.COOL_CABLE_TRIP && e.arg == evArg n 0 0) = true
      ∧ RegsBut (Reg.COOL_O_CNT n :: tripRegs) s t ∧ t = { s.tick dt with
            regs := t.regs, ev := t.ev, ctx := t.ctx, edge := t.edge, qset := t.qset, ring := t.ring, cool := t.cool
            recent := t.recent })
  ∧ (∀ (s : State) (dt n : Nat), n < 8 → s.coolState n ≤ 2 →
    (s.tick dt).lasted (s.col n).lossAt (Config.msec (100 * s.fld (Reg.COOL_O_FCFG n) Fld.COOL_O_FCFG_FLOW_TMO)) = true →
    Does (.flowLossTimeout dt n) s fun t =>
      t.coolState n = 3 ∧ t.fld (Reg.COOL_O_STAT n) Fld.COOL_O_STAT_CAUSE = 1 ∧ Posted Ev.COOL_LOSS (evArg n 1 0) (s.tick dt) t
      ∧ RegsBut [Reg.COOL_O_STAT n, Reg.COOL_O_CNT n] s t ∧ t = { s.tick dt with regs := t.regs, ev := t.ev, recent := t.recent })
  ∧ (∀ (s : State) (dt pad held n : Nat), Config.msec 100 ≤ held → n ∈ s.cooled → s.parN (Par.leakPad n) = pad + 1 → s.coolState n ≤ 2 → n < 8 →
    Does (.leakDetected dt pad true held) s fun t =>
      t.coolState n = 3 ∧ t.fld (Reg.COOL_O_STAT n) Fld.COOL_O_STAT_CAUSE = 3 ∧ t.fld (Reg.COOL_O_STAT n) Fld.COOL_O_STAT_LEAK = 1
      ∧ (t.col n).leak = true ∧ RegsBut ((List.range 16).map Reg.COOL_O_STAT ++ (List.range 16).map Reg.COOL_O_CNT) s t ∧ t = { s.tick dt with regs := t.regs, ev := t.ev, cool := t.cool, recent := t.recent })
  ∧ (∀ (s : State) (dt n : Nat), n < 8 → (s.tick dt).lasted (s.col n).lowAt (Config.sec 2) = true →
    s.fld (Reg.COOL_O_STAT n) Fld.COOL_O_STAT_FLOW_LOW = 0 →
    Does (.flowLowTimeout dt n) s fun t =>
      t.fld (Reg.COOL_O_STAT n) Fld.COOL_O_STAT_FLOW_LOW = 1 ∧ t.coolState n = s.coolState n
      ∧ Posted Ev.COOL_FLOW_LOW (evArg n 0 0) (s.tick dt) t ∧ RegsBut [Reg.COOL_O_STAT n, Reg.COOL_O_CNT n] s t ∧ t = { s.tick dt with regs := t.regs, ev := t.ev, recent := t.recent })
  ∧ (∀ (s : State) (dt n : Nat), n < 8 → s.coolState n = 3 → s.fld (Reg.COOL_O_STAT n) Fld.COOL_O_STAT_CAUSE ≠ 3 →
    (s.tick dt).lasted (s.col n).backAt (Config.sec 10) = true →
    Does (.coolRestoreTimer dt n) s fun t =>
      t.coolState n = (if s.contactorsClosed n then 1 else 0) ∧ Posted Ev.COOL_RESTORED (evArg n 0 0) (s.tick dt) t
      ∧ RegsBut [Reg.COOL_O_STAT n] s t ∧ t = { s.tick dt with regs := t.regs, ev := t.ev })
  ∧ (∀ (s : State) (dt n : Nat), n < 8 → s.coolState n = 2 → (s.tick dt).flowLost n = false → s.coolBlind n = false →
    Config.sec (60 * s.fld (Reg.COOL_O_FCFG n) Fld.COOL_O_FCFG_RUN_ON_MAX) ≤ (s.tick dt).since (s.col n).onAt →
    Does (.runOnExpiry dt n) s fun t => t.coolState n = 0 ∧ RegsBut [Reg.COOL_O_STAT n] s t ∧ t = { s.tick dt with regs := t.regs })
  ∧ (∀ (s : State) (dt : Nat) (acc : Access) (n : Nat) (val : Word), n < 8 → Admitted s acc (Reg.COOL_O_CTRL n) .op → fget Fld.COOL_O_CTRL_ACK val = 1 →
    Does (.coolAck dt acc n val) s fun t =>
      (if s.coolState n = 3 ∧ s.fld (Reg.COOL_O_STAT n) Fld.COOL_O_STAT_CAUSE = 3 ∧ (s.col n).leak = false then
        t.coolState n = (if s.contactorsClosed n then 1 else 0) ∧ Posted Ev.COOL_RESTORED (evArg n 0 0) (s.tick dt) t
       else t.coolState n = s.coolState n ∧ Posted Ev.COOL_CMD_REFUSED (evArg n 0 0) (s.tick dt) t)
      ∧ RegsBut [Reg.COOL_O_STAT n] s t ∧ t = { s.tick dt with regs := t.regs, ev := t.ev, recent := t.recent })
  ∧ (∀ (s : State) (dt : Nat) (acc : Access) (val : Word), Admitted s acc Reg.COOL_CLR .op → fget Fld.COOL_CLR_CLEAR val = 1 →
    Does (.coolClr dt acc val) s fun t =>
      Silent s t ∧ (∀ n < 8, t.rd (Reg.COOL_O_CNT n) = (s.tick dt).counted (Reg.COOL_O_CNT n) ∧ t.coolState n = s.coolState n)
      ∧ RegsBut ((List.range 8).map Reg.COOL_O_CNT) s t ∧ t = { s.tick dt with regs := t.regs, ev := t.ev, recent := t.recent })
  ∧ (∀ (s : State) (dt : Nat) (acc : Access) (val : Word), Admitted s acc Reg.THERM_CLR .op → fget Fld.THERM_CLR_CLEAR val = 1 →
    Does (.thermClr dt acc val) s fun t =>
      Silent s t ∧ (∀ n < 32, t.rd (Reg.THERM_CNT n) = (s.tick dt).counted (Reg.THERM_CNT n) ∧ t.rd (Reg.THERM_VAL n) = s.rd (Reg.THERM_VAL n))
      ∧ RegsBut ((List.range 32).map Reg.THERM_CNT) s t ∧ t = { s.tick dt with regs := t.regs, ev := t.ev, recent := t.recent })

/-- Two agreeing samples of a plugged vehicle at an AVAILABLE outlet open a session with the next number; NONE after FINISHED frees the
outlet; NONE or a released latch in a session is an end with reason UNPLUG. Over TLS an offered and enabled ISO 15118-20 is selected, without
TLS on a combined outlet ISO 15118-2, and no common protocol ends with PROTOCOL. The vehicle's parameters, with an energy service that the session offers, are shown and agreed, its stop ends the session, its demand in TRANSFER becomes
I_EV, its start in PRECHARGE at the target begins TRANSFER. The link's and the protocol's timeouts end with LINK and PROTOCOL. Feedback
is shown for its pole, and once both poles report the commanded close the pre-check goes on; a close unconfirmed for CONT_TMO ends with
CONTACTOR, an open unconfirmed leads to FAULT. Other outlets and registers stay. -/
def Obligations.SessionSignalRows : Prop :=
  (∀ (s : State) (dt n : Nat) (a b : SigSample), n < 8 → sigOf (s.cpDrive n == .pwm) a = sigOf (s.cpDrive n == .pwm) b →
    sigOf (s.cpDrive n == .pwm) a = 1 ∨ sigOf (s.cpDrive n == .pwm) a = 2 → s.oState n = 1 → s.inhibited n = false →
    s.oKind n = 2 ∨ (s.oKind n = 1 ∧ s.fld (Reg.OUTL_O_STAT n) Fld.OUTL_O_STAT_PP ≠ 0) → s.fld Reg.PWR_STAT Fld.PWR_STAT_STATE = 0 →
    Does (.sigChange dt n a b) s fun t =>
      t.oState n = 2 ∧ t.sig n = sigOf (s.cpDrive n == .pwm) a ∧ t.rd (Reg.OUTL_O_SESS n) = s.rd (Reg.OUTL_O_SESS n) + 1 ∧ (t.otl n).ending = 0
      ∧ (t.ev.posted.any fun e => e.code == Ev.OUTL_SESSION_START && e.arg == evArg n 0 0) = true ∧ OthersStay n s t
      ∧ RegsBut [Reg.OUTL_O_SESS n, Reg.OUTL_STAT, Reg.OUTL_O_STAT n] s t ∧ t = { s.tick dt with regs := t.regs, ev := t.ev, outl := t.outl })
  ∧ (∀ (s : State) (dt n : Nat) (a b : SigSample), n < 8 → sigOf (s.cpDrive n == .pwm) a = 0 → sigOf (s.cpDrive n == .pwm) b = 0 → s.oState n = 10 → s.oKind n ≠ 0 →
    s.fld Reg.PWR_STAT Fld.PWR_STAT_STATE = 0 →
    Does (.sigChange dt n a b) s fun t =>
      t.oState n = (if s.inhibited n then 0 else 1) ∧ t.sig n = 0 ∧ OthersStay n s t
      ∧ (t.ev.posted.any fun e => e.code == Ev.OUTL_SESSION_END && e.arg == evArg n 0 0) = true
      ∧ RegsBut [Reg.OUTL_STAT, Reg.OUTL_O_STAT n] s t ∧ t = { s.tick dt with regs := t.regs, ev := t.ev, outl := t.outl })
  ∧ (∀ (s : State) (dt n : Nat) (a b : SigSample), SessionRuns s n → sigOf (s.cpDrive n == .pwm) a = 0 → sigOf (s.cpDrive n == .pwm) b = 0 → s.oKind n ≠ 0 →
    s.fld Reg.PWR_STAT Fld.PWR_STAT_STATE = 0 →
    Does (.sigChange dt n a b) s fun t => EndBegun n 5 s t ∧ t.sig n = 0 ∧ RegsBut (sessionRegs n) s t
      ∧ t = { s.tick dt with regs := t.regs, ev := t.ev, outs := t.outs, outl := t.outl })
  ∧ (∀ (s : State) (dt n pp : Nat), SessionRuns s n → s.oState n = 7 → s.oKind n = 1 → pp % 3 = 1 →
    Does (.ppChange dt n pp) s fun t =>
      EndBegun n 5 s t ∧ t.fld (Reg.OUTL_O_STAT n) Fld.OUTL_O_STAT_PP = 1 ∧ Posted Ev.OUTL_UNPLUG_LOAD (evArg n 0 0) (s.tick dt) t
      ∧ RegsBut (sessionRegs n) s t ∧ t = { s.tick dt with regs := t.regs, ev := t.ev, outs := t.outs, outl := t.outl })
  ∧ (∀ (s : State) (dt n pp : Nat), n < 8 → s.oKind n = 1 → s.oState n = 0 → s.inhibited n = true →
    Does (.ppChange dt n pp) s fun t =>
      t.fld (Reg.OUTL_O_STAT n) Fld.OUTL_O_STAT_PP = pp % 3 ∧ t.sig n = (if pp % 3 = 0 then 0 else (s.otl n).sigRaw % 4) ∧ t.oState n = 0
      ∧ Silent s t ∧ OthersStay n s t ∧ RegsBut (sessionRegs n) s t ∧ t = { s.tick dt with regs := t.regs, ev := t.ev, outs := t.outs, outl := t.outl })
  ∧ (∀ (s : State) (dt n offered : Nat) (tls : Bool), n < 8 → s.oState n = 2 → (s.otl n).ending = 0 → offered.testBit 2 = true → tls = true →
    (s.fld (Reg.OUTL_O_CFG n) Fld.OUTL_O_CFG_PROTO_EN).testBit 2 = true →
    Does (.vehicleLinkUp dt n offered tls) s fun t =>
      t.oState n = 3 ∧ t.fld (Reg.OUTL_O_STAT n) Fld.OUTL_O_STAT_PROTO = 3 ∧ t.fld (Reg.OUTL_O_STAT n) Fld.OUTL_O_STAT_TLS = 1
      ∧ OthersStay n s t ∧ RegsBut [Reg.OUTL_STAT, Reg.OUTL_O_STAT n] s t ∧ t = { s.tick dt with regs := t.regs, outs := t.outs, outl := t.outl })
  ∧ (∀ (s : State) (dt n offered : Nat), n < 8 → s.oState n = 2 → (s.otl n).ending = 0 → s.oKind n = 1 → offered.testBit 1 = true →
    (s.fld (Reg.OUTL_O_CFG n) Fld.OUTL_O_CFG_PROTO_EN).testBit 1 = true →
    Does (.vehicleLinkUp dt n offered false) s fun t =>
      t.oState n = 3 ∧ t.fld (Reg.OUTL_O_STAT n) Fld.OUTL_O_STAT_PROTO = 2 ∧ t.fld (Reg.OUTL_O_STAT n) Fld.OUTL_O_STAT_TLS = 0
      ∧ OthersStay n s t ∧ RegsBut [Reg.OUTL_STAT, Reg.OUTL_O_STAT n] s t ∧ t = { s.tick dt with regs := t.regs, outs := t.outs, outl := t.outl })
  ∧ (∀ (s : State) (dt n offered : Nat) (tls : Bool), SessionRuns s n → s.oState n = 2 →
    offered &&& s.fld (Reg.OUTL_O_CFG n) Fld.OUTL_O_CFG_PROTO_EN = 0 →
    Does (.vehicleLinkUp dt n offered tls) s fun t => EndBegun n 13 s t ∧ RegsBut (sessionRegs n) s t ∧ t = { s.tick dt with regs := t.regs, outs := t.outs, outl := t.outl })
  ∧ (∀ (s : State) (dt n sv vm pm : Nat), n < 8 → s.oState n = 3 → (s.otl n).auth = false → s.serviceOk n sv = true →
    Does (.vehicleMessage dt n (.params sv vm pm)) s fun t =>
      (t.otl n).agreed = true ∧ (t.otl n).service = sv ∧ t.fld (Reg.OUTL_O_EV n) Fld.OUTL_O_EV_V_MAX = min vm 0xFFFF
      ∧ t.fld (Reg.OUTL_O_EVI n) Fld.OUTL_O_EVI_P_EV_MAX = min pm 0xFFFF ∧ t.oState n = 3 ∧ OthersStay n s t
      ∧ RegsBut [Reg.OUTL_O_EV n, Reg.OUTL_O_EVI n] s t ∧ t = { s.tick dt with regs := t.regs, ev := t.ev, outs := t.outs, outl := t.outl })
  ∧ (∀ (s : State) (dt n : Nat), SessionRuns s n → 3 ≤ s.oState n →
    Does (.vehicleMessage dt n .stop) s fun t => EndBegun n 1 s t ∧ RegsBut (sessionRegs n) s t ∧ t = { s.tick dt with regs := t.regs, ev := t.ev, outs := t.outs, outl := t.outl })
  ∧ (∀ (s : State) (dt n v : Nat) (i : Int), n < 8 → s.oState n = 7 → s.bidir n = false → (s.stg n).exporting = false →
    Does (.vehicleMessage dt n (.demand v i)) s fun t =>
      t.fld (Reg.OUTL_O_EV n) Fld.OUTL_O_EV_V_TGT = min v 0xFFFF ∧ t.fld (Reg.OUTL_O_EVI n) Fld.OUTL_O_EVI_I_EV = min i.toNat 0xFFFF
      ∧ (t.stg n).vTgt = v ∧ (t.stg n).iEv = 1000 * i.toNat ∧ t.oState n = 7 ∧ OthersStay n s t
      ∧ RegsBut [Reg.OUTL_O_EV n, Reg.OUTL_O_EVI n] s t ∧ t = { s.tick dt with regs := t.regs, ev := t.ev, outs := t.outs, outl := t.outl })
  ∧ (∀ (s : State) (dt n : Nat), n < 8 → s.oState n = 6 → (s.otl n).ending = 0 → s.stgState n = 2 →
    ((s.vOut n : Int) - (s.otl n).preTgt).natAbs ≤ 200 →
    Does (.vehicleMessage dt n .startTransfer) s fun t =>
      t.oState n = 7 ∧ t.stgState n = 3 ∧ t.outl.toMeter = s.outl.toMeter ++ [(n, true, (s.tick dt).tm.ts)] ∧ OthersStay n s t
      ∧ RegsBut (sessionRegs n) s t ∧ t = { s.tick dt with regs := t.regs, ev := t.ev, outs := t.outs, outl := t.outl })
  ∧ (∀ (s : State) (dt n : Nat), SessionRuns s n → s.oState n = 2 →
    Config.sec (s.fld (Reg.OUTL_O_LINK n) Fld.OUTL_O_LINK_LINK_TMO) ≤ (s.tick dt).since (s.otl n).since →
    Does (.linkTimeout dt n) s fun t => EndBegun n 4 s t ∧ RegsBut (sessionRegs n) s t ∧ t = { s.tick dt with regs := t.regs, outs := t.outs, outl := t.outl })
  ∧ (∀ (s : State) (dt n : Nat), SessionRuns s n → s.fld (Reg.OUTL_O_STAT n) Fld.OUTL_O_STAT_PROTO ≠ 0 →
    Does (.protocolTimeout dt n) s fun t => EndBegun n 13 s t ∧ RegsBut (sessionRegs n) s t ∧ t = { s.tick dt with regs := t.regs, outs := t.outs, outl := t.outl })
  ∧ (∀ (s : State) (dt pad : Nat), pad < 16 → pad % 2 = 0 → s.fld (Reg.OUTL_O_STAT (pad / 2)) Fld.OUTL_O_STAT_FB_N = 1 →
    (s.otl (pad / 2)).cmd = true → s.oState (pad / 2) = 4 → (s.otl (pad / 2)).step = 3 → (s.otl (pad / 2)).ending = 0 →
    Does (.contactorFeedback dt pad true) s fun t =>
      t.bit Reg.SAFE_FB_STAT pad = true ∧ t.contactorsClosed (pad / 2) = true ∧ (t.otl (pad / 2)).step = 4
      ∧ (t.otl (pad / 2)).cmdAt = none ∧ t.oState (pad / 2) = 4 ∧ OthersStay (pad / 2) s t
      ∧ RegsBut [Reg.SAFE_FB_STAT, Reg.OUTL_O_STAT (pad / 2)] s t ∧ t = { s.tick dt with regs := t.regs, outs := t.outs, outl := t.outl })
  ∧ (∀ (s : State) (dt pad : Nat), pad < 16 → (s.otl (pad / 2)).cmd = true → (s.otl (pad / 2)).ending = 0 →
    Does (.contactorFeedback dt pad false) s fun t =>
      t.bit Reg.SAFE_FB_STAT pad = false ∧ t.contactorsClosed (pad / 2) = false ∧ t.oState (pad / 2) = s.oState (pad / 2)
      ∧ RegsBut [Reg.SAFE_FB_STAT, Reg.OUTL_O_STAT (pad / 2)] s t ∧ t = { s.tick dt with regs := t.regs })
  ∧ (∀ (s : State) (dt n : Nat), SessionRuns s n → (s.otl n).cmd = true →
    (s.tick dt).lasted (s.otl n).cmdAt (Config.msec (10 * s.fld (Reg.OUTL_O_TMO n) Fld.OUTL_O_TMO_CONT_TMO)) = true →
    Does (.contactorTimeout dt n) s fun t => EndBegun n 11 s t ∧ RegsBut (sessionRegs n) s t ∧ t = { s.tick dt with regs := t.regs, outs := t.outs, outl := t.outl })
  ∧ (∀ (s : State) (dt n : Nat), n < 8 → (s.otl n).cmd = false →
    (s.tick dt).lasted (s.otl n).cmdAt (Config.msec (10 * s.fld (Reg.OUTL_O_TMO n) Fld.OUTL_O_TMO_CONT_TMO)) = true →
    Does (.contactorTimeout dt n) s fun t =>
      t.oState n = 11 ∧ t.reason n = 11 ∧ (t.otl n).ending = 0 ∧ OthersStay n s t ∧ RegsBut (sessionRegs n) s t
      ∧ t = { s.tick dt with regs := t.regs, ctx := t.ctx, outs := t.outs, outl := t.outl })

/-- At the end of CHK_WIN a pre-check passes into CABLE_CHECK where V_out has reached half of V_0, else it is posted and ends with SHORT. A
settled cable check stops the stage with the discharge on; CC_TMO without a pass, and 100 ms of lost insulation, end with ISOLATION.
The warning input shows, and posts once. A weld check past WELD_WIN ends in FAULT with WELD. EMERG_TMO after an emergency stop the
contactors are commanded open. STOP ends a session with OPERATOR, without one it is refused; DISABLE of an AVAILABLE outlet makes it
UNAVAILABLE and of one in a session ends it with INHIBIT; ENABLE makes it AVAILABLE where nothing else inhibits; ACK_FAULT of an
unplugged outlet whose cause has gone frees it, else it is refused. OUTL_CLR clears the counts. Other outlets and registers stay. -/
def Obligations.SessionCheckAndCommandRows : Prop :=
  (∀ (s : State) (dt n : Nat), n < 8 → s.oState n = 4 → (s.otl n).step = 4 → (s.otl n).ending = 0 →
    Config.usec (100 * s.fld (Reg.OUTL_O_CHK n) Fld.OUTL_O_CHK_CHK_WIN) ≤ (s.tick dt).since (s.otl n).stepAt → (s.otl n).vZero ≤ 2 * s.vOut n →
    Does (.precheckWindow dt n) s fun t =>
      t.oState n = 5 ∧ (t.otl n).step = 1 ∧ (t.otl n).since = (s.tick dt).tm.mono ∧ OthersStay n s t ∧ RegsBut (sessionRegs n) s t ∧ t = { s.tick dt with regs := t.regs, ev := t.ev, outs := t.outs, outl := t.outl })
  ∧ (∀ (s : State) (dt n : Nat), SessionRuns s n → s.oState n = 4 → (s.otl n).step = 4 →
    Config.usec (100 * s.fld (Reg.OUTL_O_CHK n) Fld.OUTL_O_CHK_CHK_WIN) ≤ (s.tick dt).since (s.otl n).stepAt → 2 * s.vOut n < (s.otl n).vZero →
    Does (.precheckWindow dt n) s fun t =>
      EndBegun n 9 s t ∧ Posted Ev.OUTL_PRECHECK_FAIL (evArg n 0 0) (s.tick dt) t ∧ RegsBut (sessionRegs n) s t ∧ t = { s.tick dt with regs := t.regs, ev := t.ev, outs := t.outs, outl := t.outl })
  ∧ (∀ (s : State) (dt n : Nat), n < 8 → s.oState n = 5 → (s.otl n).step = 1 → (s.otl n).ending = 0 →
    (s.tick dt).lasted (s.otl n).holdAt (Config.msec (100 * s.fld (Reg.OUTL_O_CHK n) Fld.OUTL_O_CHK_CC_SETTLE)) = true →
    Does (.cableCheckSettled dt n) s fun t =>
      t.oState n = 5 ∧ (t.otl n).step = 2 ∧ t.fld (Reg.OUTL_O_STAT n) Fld.OUTL_O_STAT_DISCH = 1
      ∧ t.stgState n = (if [1, 2, 3, 5].contains (s.stgState n) then 4 else s.stgState n) ∧ OthersStay n s t
      ∧ RegsBut [Reg.OUTL_O_STAT n, Reg.OUTS_O_STAT n] s t ∧ t = { s.tick dt with regs := t.regs, outs := t.outs, outl := t.outl })
  ∧ (∀ (s : State) (dt n : Nat), SessionRuns s n → s.oState n = 5 → (s.otl n).step = 1 →
    Config.sec (s.fld (Reg.OUTL_O_TMO n) Fld.OUTL_O_TMO_CC_TMO) ≤ (s.tick dt).since (s.otl n).since →
    Does (.cableCheckTimeout dt n) s fun t =>
      EndBegun n 8 s t ∧ Posted Ev.OUTL_ISO_FAULT (evArg n 0 0) (s.tick dt) t ∧ RegsBut (sessionRegs n) s t ∧ t = { s.tick dt with regs := t.regs, ev := t.ev, outs := t.outs, outl := t.outl })
  ∧ (∀ (s : State) (dt n : Nat), SessionRuns s n → s.oState n = 6 ∨ s.oState n = 7 → (s.tick dt).lasted (s.otl n).badAt (Config.msec 100) = true →
    Does (.isolationLoss dt n) s fun t => EndBegun n 8 s t ∧ RegsBut (sessionRegs n) s t ∧ t = { s.tick dt with regs := t.regs, outs := t.outs, outl := t.outl })
  ∧ (∀ (s : State) (dt pad n : Nat), n ∈ s.usedOutlets → s.parN (Par.imdWarn n) ≠ 0 → (s.parN (Par.imdWarn n) - 1) / 2 = pad → n < 8 →
    Does (.imdWarnActive dt pad) s fun t =>
      t.fld (Reg.OUTL_O_STAT n) Fld.OUTL_O_STAT_IMD_WARN = 1 ∧ t.oState n = s.oState n
      ∧ (s.fld (Reg.OUTL_O_STAT n) Fld.OUTL_O_STAT_IMD_WARN = 0 →
          (t.ev.posted.any fun e => e.code == Ev.OUTL_ISO_WARN && e.arg == evArg n 0 0) = true)
      ∧ RegsBut ((List.range 16).map Reg.OUTL_O_STAT) s t ∧ t = { s.tick dt with regs := t.regs, ev := t.ev })
  ∧ (∀ (s : State) (dt n : Nat), n < 8 → s.oState n = 9 → 600 ≤ s.vOut n → (s.otl n).tally = 0 →
    Config.msec (10 * s.fld (Reg.OUTL_O_CHK n) Fld.OUTL_O_CHK_WELD_WIN) ≤ (s.tick dt).since (s.otl n).since →
    Does (.weldCheckTimeout dt n) s fun t =>
      t.oState n = 11 ∧ t.reason n = 10 ∧ Posted Ev.OUTL_WELD (evArg n 10 0) (s.tick dt) t ∧ OthersStay n s t ∧ RegsBut (sessionRegs n) s t ∧ t = { s.tick dt with regs := t.regs, ev := t.ev, ctx := t.ctx, outs := t.outs, outl := t.outl })
  ∧ (∀ (s : State) (dt n : Nat), n < 8 → (s.otl n).ending = 2 → (s.otl n).cmd = true → s.emergTmo n ≤ (s.tick dt).since (s.otl n).stopAt →
    Does (.emergencyOpenTimeout dt n) s fun t => t = (s.tick dt).setOtl n { s.otl n with cmd := false, cmdAt := some (s.tick dt).tm.mono })
  ∧ (∀ (s : State) (dt : Nat) (acc : Access) (n : Nat) (val : Word), SessionRuns s n → Admitted s acc (Reg.OUTL_O_CTRL n) .op → val.getLsbD 0 = true →
    val.getLsbD 1 = false → val.getLsbD 2 = false → val.getLsbD 3 = false →
    Does (.outlStop dt acc n val) s fun t => EndBegun n 2 s t ∧ RegsBut (sessionRegs n) s t ∧ t = { s.tick dt with regs := t.regs, ev := t.ev, outs := t.outs, outl := t.outl, recent := t.recent })
  ∧ (∀ (s : State) (dt : Nat) (acc : Access) (n : Nat) (val : Word), n < 8 → Admitted s acc (Reg.OUTL_O_CTRL n) .op → val.getLsbD 0 = true →
    val.getLsbD 1 = false → val.getLsbD 2 = false → val.getLsbD 3 = false → s.oState n ≤ 1 →
    Does (.outlStop dt acc n val) s fun t =>
      Posted Ev.OUTL_CMD_REFUSED (evArg n 0 0) (s.tick dt) t ∧ t = { s.tick dt with ev := t.ev })
  ∧ (∀ (s : State) (dt : Nat) (acc : Access) (n : Nat) (val : Word), n < 8 → Admitted s acc (Reg.OUTL_O_CTRL n) .op → val.getLsbD 1 = true →
    val.getLsbD 0 = false → val.getLsbD 2 = false → val.getLsbD 3 = false → (s.otl n).disabled = false → s.oState n = 1 →
    Does (.outlDisable dt acc n val) s fun t =>
      t.oState n = 0 ∧ (t.otl n).disabled = true ∧ t.fld (Reg.OUTL_O_STAT n) Fld.OUTL_O_STAT_INHIBIT = 1 ∧ OthersStay n s t ∧ Silent s t
      ∧ RegsBut [Reg.OUTL_STAT, Reg.OUTL_O_STAT n] s t ∧ t = { s.tick dt with regs := t.regs, ev := t.ev, outs := t.outs, outl := t.outl, recent := t.recent })
  ∧ (∀ (s : State) (dt : Nat) (acc : Access) (n : Nat) (val : Word), SessionRuns s n → Admitted s acc (Reg.OUTL_O_CTRL n) .op → val.getLsbD 1 = true →
    val.getLsbD 0 = false → val.getLsbD 2 = false → val.getLsbD 3 = false → (s.otl n).disabled = false → s.sig n ≠ 0 →
    Does (.outlDisable dt acc n val) s fun t => EndBegun n 12 s t ∧ (t.otl n).disabled = true ∧ RegsBut (sessionRegs n) s t ∧ t = { s.tick dt with regs := t.regs, ev := t.ev, outs := t.outs, outl := t.outl, recent := t.recent })
  ∧ (∀ (s : State) (dt : Nat) (acc : Access) (n : Nat) (val : Word), n < 8 → Admitted s acc (Reg.OUTL_O_CTRL n) .op → val.getLsbD 2 = true →
    val.getLsbD 0 = false → val.getLsbD 1 = false → val.getLsbD 3 = false → (s.otl n).disabled = true → s.oState n = 0 →
    (s.setOtl n { s.otl n with disabled := false }).inhibited n = false →
    Does (.outlEnable dt acc n val) s fun t =>
      t.oState n = 1 ∧ (t.otl n).disabled = false ∧ t.fld (Reg.OUTL_O_STAT n) Fld.OUTL_O_STAT_INHIBIT = 0 ∧ OthersStay n s t ∧ Silent s t
      ∧ RegsBut [Reg.OUTL_STAT, Reg.OUTL_O_STAT n] s t ∧ t = { s.tick dt with regs := t.regs, ev := t.ev, outs := t.outs, outl := t.outl, recent := t.recent })
  ∧ (∀ (s : State) (dt : Nat) (acc : Access) (n : Nat) (val : Word), n < 8 → Admitted s acc (Reg.OUTL_O_CTRL n) .op → val.getLsbD 3 = true →
    val.getLsbD 0 = false → val.getLsbD 1 = false → val.getLsbD 2 = false → s.oState n = 11 → s.sig n = 0 → s.causeGone n = true → s.reason n ≠ 10 →
    Does (.outlAckFault dt acc n val) s fun t =>
      t.oState n = (if s.inhibited n then 0 else 1) ∧ OthersStay n s t ∧ Silent s t ∧ RegsBut [Reg.OUTL_STAT, Reg.OUTL_O_STAT n] s t ∧ t = { s.tick dt with regs := t.regs, ev := t.ev, outs := t.outs, outl := t.outl, recent := t.recent })
  ∧ (∀ (s : State) (dt : Nat) (acc : Access) (n : Nat) (val : Word), n < 8 → Admitted s acc (Reg.OUTL_O_CTRL n) .op → val.getLsbD 3 = true →
    val.getLsbD 0 = false → val.getLsbD 1 = false → val.getLsbD 2 = false → ¬(s.oState n = 11 ∧ s.sig n = 0) →
    Does (.outlAckFault dt acc n val) s fun t =>
      Posted Ev.OUTL_CMD_REFUSED (evArg n 0 0) (s.tick dt) t ∧ t = { s.tick dt with ev := t.ev })
  ∧ (∀ (s : State) (dt : Nat) (acc : Access) (val : Word), Admitted s acc Reg.OUTL_CLR .op → fget Fld.OUTL_CLR_CLEAR val = 1 →
    Does (.outlClr dt acc val) s fun t =>
      (∀ n < 8, t.rd (Reg.OUTL_O_CNT n) = (s.tick dt).counted (Reg.OUTL_O_CNT n))
      ∧ Silent s t ∧ RegsBut ((List.range 8).map Reg.OUTL_O_CNT) s t ∧ t = { s.tick dt with regs := t.regs })

/-- A safety cycle starts a channel with every axis in TORQUE_OFF with cause START; takes every axis out of ENABLED while the e-stop is
active, at once to TORQUE_OFF where ESTOP_CAT is STO; takes a channel from DUAL to SINGLE on the third cycle without its partner's
record; stops the channel of a side that no longer runs and holds its pads. The e-stop inputs are shown, ESTOP_DISC is set and
released. A reset enables the axis in both channels only under R502 and is refused otherwise. A pad's mismatch puts both channels into
FAULT, the hold and SS1_TMO de-energise the pads. Each changes only the registers named. -/
def Obligations.SafetyAxisRows : Prop :=
  (∀ (s : State) (dt : Nat) (a b : ChanIn) (x : Side), (s.tick dt).atCycleStart = true → s.safe.nextMs ≤ s.tm.cycleStart.toNat / Config.msec 1 →
    s.sideRunning x = true → s.chState x = 0 →
    Does (.safetyCycle dt a b) s fun t =>
      t.chState x = 1 ∧ (∀ k < axesOf s.variant, TorqueOff t x k 1) ∧ t.safe.nextMs = s.tm.cycleStart.toNat / Config.msec 1 + 1)
  ∧ (∀ (s : State) (dt : Nat) (a b : ChanIn) (x : Side), (s.tick dt).atCycleStart = true → s.safe.nextMs ≤ s.tm.cycleStart.toNat / Config.msec 1 →
    s.sideRunning x = true → s.chState x ≠ 0 → s.estopActive = true →
    Does (.safetyCycle dt a b) s fun t =>
      ∀ k < axesOf s.variant, t.axState x k ≠ 1
        ∧ (s.axState x k = 1 → (s.tick dt).takeVals.safeVal (Reg.SAFE_AX_CFG k) Fld.SAFE_AX_CFG_ESTOP_CAT = 0 →
            t.axState x k = 0 ∧ (t.axis x k).sto = false ∧ (t.axis x k).brk = false))
  ∧ (∀ (s : State) (dt : Nat) (a b : ChanIn) (x : Side), (s.tick dt).atCycleStart = true → s.safe.nextMs ≤ s.tm.cycleStart.toNat / Config.msec 1 →
    s.sideRunning x = true → s.chState x = 2 → 2 ≤ (s.chan x).missing → (if x = .a then a.record else b.record) = false →
    Does (.safetyCycle dt a b) s fun t =>
      t.chState x = 3 ∧ (∀ k < axesOf s.variant, t.axState x k ≠ 1) ∧ Told Ev.SAFE_PARTNER_LOST (evArg 0xFFF 0 0) t)
  ∧ (∀ (s : State) (dt : Nat) (a b : ChanIn) (x : Side), (s.tick dt).atCycleStart = true → s.safe.nextMs ≤ s.tm.cycleStart.toNat / Config.msec 1 →
    s.sideRunning x = false → s.chState x ≠ 0 →
    Does (.safetyCycle dt a b) s fun t =>
      t.chState x = 0 ∧ ∀ k < axesOf s.variant, (t.axis x k).sto = (s.axis x k).sto ∧ (t.axis x k).brk = (s.axis x k).brk
        ∧ ((s.axis x k).sto = true → (t.axis x k).holdAt = some (s.tick dt).tm.mono))
  ∧ (∀ (s : State) (dt : Nat) (a b : ChanIn), (s.tick dt).atCycleStart = true → s.safe.nextMs ≤ s.tm.cycleStart.toNat / Config.msec 1 →
    Does (.safetyCycle dt a b) s fun t =>
      RegsBut (axisRegs ++ (List.range 16).flatMap connRegs ++ (List.range 8).flatMap sessionRegs) s t ∧ t = { s.tick dt with
            regs := t.regs, ev := t.ev, ctx := t.ctx, outs := t.outs, outl := t.outl, safe := t.safe
            recent := t.recent })
  ∧ (∀ (s : State) (dt : Nat) (a b : ChanIn), (s.tick dt).atCycleStart = false ∨ s.tm.cycleStart.toNat / Config.msec 1 < s.safe.nextMs →
    Does (.safetyCycle dt a b) s fun t => t = s.tick dt)
  ∧ (∀ (s : State) (dt input : Nat) (level : Bool), input % 2 = 0 → s.fld Reg.SAFE_STAT Fld.SAFE_STAT_ESTOP_DISC = 0 →
    Does (.estopInput dt input level) s fun t =>
      t.safe.estA = !level ∧ t.safe.estB = s.safe.estB ∧ t.fld Reg.SAFE_STAT Fld.SAFE_STAT_ESTOP = flag (!level || s.safe.estB)
      ∧ Silent s t ∧ RegsBut [Reg.SAFE_STAT] s t ∧ t = { s.tick dt with regs := t.regs, safe := t.safe })
  ∧ (∀ (s : State) (dt input : Nat) (level : Bool), input % 2 = 1 → s.fld Reg.SAFE_STAT Fld.SAFE_STAT_ESTOP_DISC = 0 →
    Does (.estopInput dt input level) s fun t =>
      t.safe.estB = !level ∧ t.safe.estA = s.safe.estA ∧ t.fld Reg.SAFE_STAT Fld.SAFE_STAT_ESTOP = flag (!level || s.safe.estA)
      ∧ Silent s t ∧ RegsBut [Reg.SAFE_STAT] s t ∧ t = { s.tick dt with regs := t.regs, safe := t.safe })
  ∧ (∀ (s : State) (dt input : Nat), input % 2 = 0 → s.fld Reg.SAFE_STAT Fld.SAFE_STAT_ESTOP_DISC = 1 → s.safe.estB = false →
    Does (.estopInput dt input true) s fun t =>
      t.fld Reg.SAFE_STAT Fld.SAFE_STAT_ESTOP_DISC = (if s.safe.discBoth then 0 else 1)
      ∧ t.fld Reg.SAFE_STAT Fld.SAFE_STAT_ESTOP = (if s.safe.discBoth then 0 else 1) ∧ Silent s t ∧ RegsBut [Reg.SAFE_STAT] s t)
  ∧ (∀ (s : State) (dt : Nat), s.fld Reg.SAFE_STAT Fld.SAFE_STAT_ESTOP_DISC = 0 →
    (s.tick dt).lasted s.safe.discAt (Config.msec (10 * s.safeVal Reg.SAFE_IN_CFG Fld.SAFE_IN_CFG_ESTOP_DISC) + 1) = true →
    Does (.estopDiscTimeout dt) s fun t =>
      t.fld Reg.SAFE_STAT Fld.SAFE_STAT_ESTOP_DISC = 1 ∧ t.fld Reg.SAFE_STAT Fld.SAFE_STAT_ESTOP = 1
      ∧ Posted Ev.SAFE_ESTOP_DISC (evArg 0xFFF 0 0) (s.tick dt) t ∧ RegsBut [Reg.SAFE_STAT] s t ∧ t = { s.tick dt with regs := t.regs, ev := t.ev, safe := t.safe })
  ∧ (∀ (s : State) (dt pad width a : Nat), Config.msec 100 ≤ width → width ≤ Config.sec 2 → a < axesOf s.variant → s.parN (Par.resetPad a) = pad + 1 →
    Does (.resetPadPulse dt pad width) s fun t =>
      a ∈ t.safe.resets
      ∧ t = { s.tick dt with safe := { s.safe with
            resets := s.safe.resets ++ (List.range (axesOf s.variant)).filter fun k => s.parN (Par.resetPad k) == pad + 1 } })
  ∧ (∀ (s u : State) (dt a : Nat) (ia ib : ChanIn), (s.tick dt).atCycleStart = true → s.safe.nextMs ≤ s.tm.cycleStart.toNat / Config.msec 1 →
    s.safe.resets = [a] → u = ((s.safeStart dt).chanCycle (s.safeStart dt) .a ia).chanCycle (s.safeStart dt) .b ib → u.resetOk a = true →
    Does (.safetyCycle dt ia ib) s fun t =>
      t.safe.resets = []
      ∧ (∀ x ∈ [Side.a, Side.b], u.axState x a = 0 → t.axState x a = 1 ∧ (t.axis x a).sto = true ∧ (t.axis x a).brk = false ∧ (t.axis x a).brkDue = true))
  ∧ (∀ (s u : State) (dt a : Nat) (ia ib : ChanIn), (s.tick dt).atCycleStart = true → s.safe.nextMs ≤ s.tm.cycleStart.toNat / Config.msec 1 →
    s.safe.resets = [a] → u = ((s.safeStart dt).chanCycle (s.safeStart dt) .a ia).chanCycle (s.safeStart dt) .b ib → u.resetOk a = false →
    Does (.safetyCycle dt ia ib) s fun t =>
      t.safe.resets = [] ∧ (∀ x ∈ [Side.a, Side.b], t.axState x a = u.axState x a) ∧ Told Ev.SAFE_RESET_REFUSED (evArg a 0 0) t)
  ∧ (∀ (s : State) (dt pad width : Nat), width < Config.msec 100 ∨ Config.sec 2 < width → Does (.resetPadPulse dt pad width) s fun t => t = s.tick dt)
  ∧ (∀ (s : State) (dt : Nat) (acc : Access) (a : Nat) (val : Word), a < 2 → Admitted s acc (Reg.SAFE_AX_CTRL a) .osf → val.getLsbD 0 = true →
    s.safeVal Reg.SAFE_IN_CFG Fld.SAFE_IN_CFG_REMOTE_RST = 1 →
    Does (.axisReset dt acc a val) s fun t => t = { s.tick dt with safe := { s.safe with resets := s.safe.resets ++ [a] } })
  ∧ (∀ (s : State) (dt : Nat) (acc : Access) (a : Nat) (val : Word), a < 2 → Admitted s acc (Reg.SAFE_AX_CTRL a) .osf → val.getLsbD 0 = true →
    s.safeVal Reg.SAFE_IN_CFG Fld.SAFE_IN_CFG_REMOTE_RST = 0 → Does (.axisReset dt acc a val) s fun t => t = s.tick dt)
  ∧ (∀ (s : State) (dt pad held : Nat), Config.msec 1 ≤ held → pad % 8 / 4 < axesOf s.variant →
    Does (.outputReadbackFault dt pad held) s fun t =>
      (∀ x ∈ [Side.a, Side.b], s.chState x ≠ 0 → t.chState x = 4 ∧ ∀ a < axesOf s.variant, TorqueOff t x a 0xC)
      ∧ t.fld Reg.SAFE_STAT Fld.SAFE_STAT_OUT_FAULT = 1 ∧ Told Ev.SAFE_OUT_FAULT (evArg (pad % 8 / 4) (pad % 4) 0) t ∧ RegsBut axisRegs s t ∧ t = { s.tick dt with regs := t.regs, ev := t.ev, ctx := t.ctx, safe := t.safe, recent := t.recent })
  ∧ (∀ (s : State) (dt : Nat) (side : Side) (a : Nat), a < 2 → s.chState side = 0 →
    (s.tick dt).lasted (s.axis side a).holdAt (Config.msec (10 * s.safeVal (Reg.SAFE_AX_SS1 a) Fld.SAFE_AX_SS1_STO_HOLD)) = true →
    Does (.stoHoldExpiry dt side a) s fun t =>
      (t.axis side a).sto = false ∧ (t.axis side a).brk = false ∧ (t.axis side a).holdAt = none ∧ t.axis side.other a = s.axis side.other a
      ∧ Silent s t ∧ RegsBut axisRegs s t ∧ t = { s.tick dt with regs := t.regs, safe := t.safe })
  ∧ (∀ (s : State) (dt a : Nat), a < 2 →
    Does (.ss1Timeout dt a) s fun t =>
      (∀ x ∈ [Side.a, Side.b], s.chState x ≠ 0 → s.axState x a = 2 →
        Config.msec (10 * s.safeVal (Reg.SAFE_AX_SS1 a) Fld.SAFE_AX_SS1_SS1_TMO) ≤ (s.tick dt).since (s.axis x a).stopAt →
        TorqueOff t x a (s.axCause x a))
      ∧ Silent s t ∧ RegsBut axisRegs s t ∧ t = { s.tick dt with regs := t.regs, safe := t.safe })

/-- RESET_FAULT takes channels out of FAULT after 100 agreeing records on both; REOPEN clears the commissioned value while every axis is in
torque off and is refused otherwise; SAFE_CONFIRM stores a value equal to SAFE_CHECK_RUN and is refused otherwise; SAFE_FB_ACK clears
FAULT and WELD of an outlet whose poles agree, for the roles of R506; a pole that differs for FB_DISC sets FAULT (and WELD where the
command is open) and ends the session with reason SAFETY. A received frame is accepted, counted as a repeat, or discarded by its
identifiers, CRC and SEQ; a frame is sent when both channels form the same bytes, and not sent otherwise; a silent connection is LOST;
SAFE_CLR clears the counts. Each changes only the registers named. -/
def Obligations.SafetyCommandRows : Prop :=
  (∀ (s : State) (dt : Nat) (acc : Access) (val : Word), Admitted s acc Reg.SAFE_CTRL .safe → val.getLsbD 1 = true → val.getLsbD 0 = false →
    (∀ x ∈ [Side.a, Side.b], 100 ≤ (s.chan x).agree) →
    Does (.resetFault dt acc val) s fun t =>
      (∀ x ∈ [Side.a, Side.b], t.chState x = if s.chState x = 4 then 2 else s.chState x) ∧ Silent s t ∧ RegsBut [Reg.SAFE_STAT] s t ∧ t = { s.tick dt with regs := t.regs, ev := t.ev, safe := t.safe, recent := t.recent })
  ∧ (∀ (s : State) (dt : Nat) (acc : Access) (val : Word) (x : Side), Admitted s acc Reg.SAFE_CTRL .safe → val.getLsbD 1 = true → val.getLsbD 0 = false →
    (s.chan x).agree < 100 →
    Does (.resetFault dt acc val) s fun t => t = s.tick dt)
  ∧ (∀ (s : State) (dt : Nat) (acc : Access) (val : Word), Admitted s acc Reg.SAFE_CTRL .safe → val.getLsbD 0 = true → val.getLsbD 1 = false → s.axesOff = true →
    Does (.reopen dt acc val) s fun t =>
      t.safe.commissioned = none ∧ t.rd Reg.SAFE_CHECK_COMM = 0 ∧ t.fld Reg.SAFE_STAT Fld.SAFE_STAT_CONFIRMED = 0 ∧ t.unconf = true
      ∧ (∀ x ∈ [Side.a, Side.b], s.chState x ≠ 0 → ∀ a < axesOf s.variant, t.axState x a = 0 ∧ t.axCause x a = 0xE)
      ∧ Silent s t ∧ RegsBut (Reg.SAFE_CHECK_COMM :: axisRegs) s t ∧ t = { s.tick dt with regs := t.regs, ev := t.ev, safe := t.safe, recent := t.recent })
  ∧ (∀ (s : State) (dt : Nat) (acc : Access) (val : Word), Admitted s acc Reg.SAFE_CTRL .safe → val.getLsbD 0 = true → val.getLsbD 1 = false → s.axesOff = false →
    Does (.reopen dt acc val) s fun t =>
      Posted Ev.SAFE_CMD_REFUSED (evArg 0xFFF 0 0) (s.tick dt) t ∧ t = { s.tick dt with ev := t.ev })
  ∧ (∀ (s : State) (dt : Nat) (acc : Access) (val : Word), Admitted s acc Reg.SAFE_CONFIRM .safe →
    (∀ x ∈ [Side.a, Side.b], s.checkRun x = val ∧ (s.chState x = 1 ∨ s.chState x = 2)) → s.contextsIdle = true →
    Does (.safeConfirm dt acc val) s fun t =>
      t.safe.commissioned = some val ∧ t.rd Reg.SAFE_CHECK_COMM = val ∧ t.unconf = false ∧ t.fld Reg.SAFE_STAT Fld.SAFE_STAT_CONFIRMED = 1
      ∧ Posted Ev.SAFE_CONFIRMED (evArg 0xFFF 0 0) (s.tick dt) t ∧ RegsBut [Reg.SAFE_CHECK_COMM, Reg.IMG_STAT, Reg.SAFE_STAT] s t ∧ t = { s.tick dt with regs := t.regs, ev := t.ev, safe := t.safe, recent := t.recent })
  ∧ (∀ (s : State) (dt : Nat) (acc : Access) (val : Word) (x : Side), Admitted s acc Reg.SAFE_CONFIRM .safe →
    s.checkRun x ≠ val ∨ s.chState x ≠ 1 ∧ s.chState x ≠ 2 →
    Does (.safeConfirm dt acc val) s fun t =>
      Posted Ev.SAFE_CONFIRM_REFUSED (evArg 0xFFF 0 0) (s.tick dt) t ∧ t = { s.tick dt with ev := t.ev })
  ∧ (∀ (s : State) (dt : Nat) (acc : Access) (val : Word) (n : Nat), n < 8 → val = BitVec.twoPow 32 n → Admitted s acc Reg.SAFE_FB_ACK .osf →
    ((s.fld Reg.SAFE_FB_STAT Fld.SAFE_FB_STAT_WELD).testBit n = true → acc.role = .service) → s.poleDiffers (2 * n) = false →
    s.poleDiffers (2 * n + 1) = false →
    Does (.safeFbAck dt acc val) s fun t =>
      t.fld Reg.SAFE_FB_STAT Fld.SAFE_FB_STAT_FAULT = withBit (s.fld Reg.SAFE_FB_STAT Fld.SAFE_FB_STAT_FAULT) n false
      ∧ t.fld Reg.SAFE_FB_STAT Fld.SAFE_FB_STAT_WELD = withBit (s.fld Reg.SAFE_FB_STAT Fld.SAFE_FB_STAT_WELD) n false
      ∧ Silent s t ∧ RegsBut [Reg.SAFE_FB_STAT] s t ∧ t = { s.tick dt with regs := t.regs })
  ∧ (∀ (s : State) (dt : Nat) (acc : Access) (val : Word) (n : Nat), n < 8 → val = BitVec.twoPow 32 n → Admitted s acc Reg.SAFE_FB_ACK .osf →
    (s.fld Reg.SAFE_FB_STAT Fld.SAFE_FB_STAT_WELD).testBit n = true ∧ acc.role ≠ .service ∨ s.poleDiffers (2 * n) = true →
    Does (.safeFbAck dt acc val) s fun t =>
      Posted Ev.SAFE_CMD_REFUSED (evArg n 0 0) (s.tick dt) t ∧ t = { s.tick dt with ev := t.ev })
  ∧ (∀ (s : State) (dt pole n : Nat), pole < 16 → pole / 2 = n → SessionRuns s n → s.poleDiffers pole = true → s.channels ≠ [] →
    (s.tick dt).lastedIn s.safe.poleAt pole (Config.msec (10 * s.safeVal Reg.SAFE_IN_CFG Fld.SAFE_IN_CFG_FB_DISC)) = true →
    (s.fld Reg.SAFE_FB_STAT Fld.SAFE_FB_STAT_FAULT).testBit n = false →
    Does (.fbDiscrepancy dt pole) s fun t =>
      t.fld Reg.SAFE_FB_STAT Fld.SAFE_FB_STAT_FAULT = withBit (s.fld Reg.SAFE_FB_STAT Fld.SAFE_FB_STAT_FAULT) n true
      ∧ (t.fld Reg.SAFE_FB_STAT Fld.SAFE_FB_STAT_WELD).testBit n = (!(s.otl n).cmd || (s.fld Reg.SAFE_FB_STAT Fld.SAFE_FB_STAT_WELD).testBit n)
      ∧ Told Ev.SAFE_FB_FAULT (evArg n 0 0) t ∧ Told Ev.SAFE_REACTION (evArg (0x100 + n) 0 0) t
      ∧ EndBegun n 14 s t ∧ RegsBut ([Reg.SAFE_FB_STAT, sideAddr .a Reg.SAFE_CNT, sideAddr .b Reg.SAFE_CNT] ++ sessionRegs n) s t ∧ t = { s.tick dt with
            regs := t.regs, ev := t.ev, ctx := t.ctx, outs := t.outs, outl := t.outl, recent := t.recent })
  ∧ (∀ (s : State) (dt k : Nat) (bytes : List Byte) (x : Side), k < 16 → s.connRx k = true → s.chState x ≠ 0 → s.frameOk x k bytes = true →
    (s.conn x k).got = true →
    1 ≤ (leNat ((bytes.drop 2).take 2) + 65536 - s.fld (sideAddr x (Reg.SAFE_CONN_STAT k)) Fld.SAFE_CONN_STAT_SEQ) % 65536 →
    (leNat ((bytes.drop 2).take 2) + 65536 - s.fld (sideAddr x (Reg.SAFE_CONN_STAT k)) Fld.SAFE_CONN_STAT_SEQ) % 65536 ≤ 16 →
    Does (.safetyFrameRx dt k bytes) s fun t =>
      t.fld (sideAddr x (Reg.SAFE_CONN_STAT k)) Fld.SAFE_CONN_STAT_SEQ = leNat ((bytes.drop 2).take 2)
      ∧ t.fld (sideAddr x (Reg.SAFE_CONN_CNT k)) Fld.SAFE_CONN_CNT_LOST_FRAMES
          = min (s.fld (sideAddr x (Reg.SAFE_CONN_CNT k)) Fld.SAFE_CONN_CNT_LOST_FRAMES
              + ((leNat ((bytes.drop 2).take 2) + 65536 - s.fld (sideAddr x (Reg.SAFE_CONN_STAT k)) Fld.SAFE_CONN_STAT_SEQ) % 65536 - 1)) 0xFFFF
      ∧ (t.conn x k).last = (s.tick dt).tm.mono ∧ (t.conn x k).zone = (leNat ((bytes.drop 8).take 1)).testBit 0
      ∧ (t.conn x k).stopIn = (leNat ((bytes.drop 8).take 1)).testBit 1
      ∧ (s.connState x k = 3 → t.connState x k = if 3 ≤ (s.conn x k).run + 1 then 2 else 3)
      ∧ Silent s t ∧ RegsBut (connRegs k) s t ∧ t = { s.tick dt with regs := t.regs, safe := t.safe, recent := t.recent })
  ∧ (∀ (s : State) (dt k : Nat) (bytes : List Byte) (x : Side), k < 16 → s.connRx k = true → s.chState x ≠ 0 → s.frameOk x k bytes = true →
    (s.conn x k).got = true → leNat ((bytes.drop 2).take 2) = s.fld (sideAddr x (Reg.SAFE_CONN_STAT k)) Fld.SAFE_CONN_STAT_SEQ →
    Does (.safetyFrameRx dt k bytes) s fun t =>
      t.fld (sideAddr x (Reg.SAFE_CONN_CNT k)) Fld.SAFE_CONN_CNT_REPEATS
        = min (s.fld (sideAddr x (Reg.SAFE_CONN_CNT k)) Fld.SAFE_CONN_CNT_REPEATS + 1) 0xFF
      ∧ t.rd (sideAddr x (Reg.SAFE_CONN_STAT k)) = s.rd (sideAddr x (Reg.SAFE_CONN_STAT k)) ∧ (t.conn x k).last = (s.conn x k).last
      ∧ Silent s t ∧ RegsBut (connRegs k) s t)
  ∧ (∀ (s : State) (dt k : Nat) (bytes : List Byte) (x : Side), k < 16 → s.connRx k = true → s.chState x ≠ 0 → s.frameOk x k bytes = false →
    Does (.safetyFrameRx dt k bytes) s fun t =>
      t.fld (sideAddr x (Reg.SAFE_CONN_CNT k)) Fld.SAFE_CONN_CNT_BAD = min (s.fld (sideAddr x (Reg.SAFE_CONN_CNT k)) Fld.SAFE_CONN_CNT_BAD + 1) 0xFF
      ∧ t.rd (sideAddr x (Reg.SAFE_CONN_STAT k)) = s.rd (sideAddr x (Reg.SAFE_CONN_STAT k)) ∧ (t.conn x k).last = (s.conn x k).last
      ∧ Silent s t ∧ RegsBut (connRegs k) s t)
  ∧ (∀ (s : State) (dt k : Nat) (bytes : List Byte) (x : Side), k < 16 → s.connRx k = true → s.chState x ≠ 0 → s.frameOk x k bytes = true →
    (s.conn x k).got = true →
    16 < (leNat ((bytes.drop 2).take 2) + 65536 - s.fld (sideAddr x (Reg.SAFE_CONN_STAT k)) Fld.SAFE_CONN_STAT_SEQ) % 65536 →
    Does (.safetyFrameRx dt k bytes) s fun t =>
      t.fld (sideAddr x (Reg.SAFE_CONN_CNT k)) Fld.SAFE_CONN_CNT_BAD = min (s.fld (sideAddr x (Reg.SAFE_CONN_CNT k)) Fld.SAFE_CONN_CNT_BAD + 1) 0xFF
      ∧ t.rd (sideAddr x (Reg.SAFE_CONN_STAT k)) = s.rd (sideAddr x (Reg.SAFE_CONN_STAT k)) ∧ (t.conn x k).last = (s.conn x k).last
      ∧ Silent s t ∧ RegsBut (connRegs k) s t)
  ∧ (∀ (s : State) (dt k : Nat), k < 16 → s.connUsed k = true → s.parN (Par.connDir k) = 0 → (∀ x ∈ [Side.a, Side.b], s.chState x ≠ 0) →
    (s.conn .a k).got = false ∨ Config.msec (s.parN (Par.connPeriod k)) ≤ (s.tick dt).since (s.conn .a k).txAt → s.parN (Par.connCan k) = 0 →
    s.txHead .a k ((s.fld (Reg.SAFE_CONN_STAT k) Fld.SAFE_CONN_STAT_SEQ + 1) % 65536)
      = s.txHead .b k ((s.fld (Reg.SAFE_CONN_STAT k) Fld.SAFE_CONN_STAT_SEQ + 1) % 65536) →
    Does (.safetyFrameTx dt k) s fun t =>
      (∀ x ∈ [Side.a, Side.b], (t.conn x k).sent = s.txHead .a k (t.fld (Reg.SAFE_CONN_STAT k) Fld.SAFE_CONN_STAT_SEQ)
          ++ leBytes 4 (crcA (s.parN (Par.connKeyA k)) (s.txHead .a k (t.fld (Reg.SAFE_CONN_STAT k) Fld.SAFE_CONN_STAT_SEQ))).toNat
          ++ leBytes 4 (crcB (s.parN (Par.connKeyB k)) (s.txHead .b k (t.fld (Reg.SAFE_CONN_STAT k) Fld.SAFE_CONN_STAT_SEQ))).toNat)
      ∧ t.fld (Reg.SAFE_CONN_STAT k) Fld.SAFE_CONN_STAT_SEQ = (s.fld (Reg.SAFE_CONN_STAT k) Fld.SAFE_CONN_STAT_SEQ + 1) % 65536
      ∧ Silent s t ∧ RegsBut (connRegs k) s t ∧ t = { s.tick dt with regs := t.regs, safe := t.safe, host := t.host })
  ∧ (∀ (s : State) (dt k : Nat), k < 16 → s.connUsed k = true → s.parN (Par.connDir k) = 0 → (∀ x ∈ [Side.a, Side.b], s.chState x ≠ 0) →
    (s.conn .a k).got = false ∨ Config.msec (s.parN (Par.connPeriod k)) ≤ (s.tick dt).since (s.conn .a k).txAt →
    s.txHead .a k ((s.fld (Reg.SAFE_CONN_STAT k) Fld.SAFE_CONN_STAT_SEQ + 1) % 65536)
      ≠ s.txHead .b k ((s.fld (Reg.SAFE_CONN_STAT k) Fld.SAFE_CONN_STAT_SEQ + 1) % 65536) →
    Does (.safetyFrameTx dt k) s fun t =>
      Posted Ev.SAFE_CROSS (evArg k 0 0) (s.tick dt) t ∧ (∀ x ∈ [Side.a, Side.b], (t.conn x k).sent = (s.conn x k).sent)
      ∧ t = { s.tick dt with ev := t.ev, safe := t.safe })
  ∧ (∀ (s : State) (dt k : Nat) (x : Side), k < 16 → s.connRx k = true → s.chState x ≠ 0 → s.connState x k = 1 ∨ s.connState x k = 2 →
    Config.msec (s.parN (Par.connWd k)) ≤ (s.tick dt).since (s.conn x k).last →
    Does (.connWatchdog dt k) s fun t =>
      t.connState x k = 3 ∧ (t.fld (sideAddr x Reg.SAFE_STAT) Fld.SAFE_STAT_CONN_LOST).testBit k = true
      ∧ Posted Ev.SAFE_CONN_LOST (evArg k 0 0) (s.tick dt) t ∧ RegsBut (connRegs k) s t ∧ t = { s.tick dt with regs := t.regs, ev := t.ev, safe := t.safe })
  ∧ (∀ (s : State) (dt : Nat) (acc : Access) (val : Word), Admitted s acc Reg.SAFE_CLR .osf → val.getLsbD 0 = true →
    Does (.safeClr dt acc val) s fun t =>
      (∀ x ∈ [Side.a, Side.b], t.rd (sideAddr x Reg.SAFE_CNT) = (s.tick dt).counted (sideAddr x Reg.SAFE_CNT)
        ∧ ∀ k < 16, t.rd (sideAddr x (Reg.SAFE_CONN_CNT k)) = (s.tick dt).counted (sideAddr x (Reg.SAFE_CONN_CNT k)))
      ∧ Silent s t ∧ RegsBut (([Side.a, Side.b].map fun x => sideAddr x Reg.SAFE_CNT)
          ++ ([Side.a, Side.b].flatMap fun x => (List.range 16).map fun k => sideAddr x (Reg.SAFE_CONN_CNT k))) s t
      ∧ t = { s.tick dt with regs := t.regs })

/-- A sample instant corrects every used channel, counts the meter count by one and, in an idle or sleeping die, does no more than that;
the energy of a DC group above its start threshold enters its billing register in whole mWh with the rest carried. A bias test counts
failures and passes and opens a channel on the third failure; a remote channel without transitions is OPEN; a grid cycle, a 200 ms
window and a harmonic window yield their results; a temperature source feeds its tables or holds them while invalid; a polarity
condition is latched after its time. None of them changes a register that the sides see. -/
def Obligations.MeasurementRows : Prop :=
  (∀ (s : State) (dt : Nat) (codes : List Int) (c : Nat), s.dieRuns = true → s.metr.newMap = none → s.metr.rws = [] → s.metr.stepDue = none →
    c < 48 → s.dKind c ≠ 0 → s.dKind c ≠ 4 →
    Does (.sampleInstant dt codes) s fun t =>
      (t.dch c).prim = s.pairValue c (clipCode c (codes.getD c 0)).1 * (s.drd (Reg.METR_CH_SCALE c)).toNat / 65536000000
      ∧ t.bill.mem.mc = s.bill.mem.mc + 1 ∧ Silent s t ∧ RegsBut [] s t ∧ t = { s.tick dt with metr := t.metr, bill := t.bill, outl := t.outl })
  ∧ (∀ (s : State) (dt : Nat) (codes : List Int) (n : Nat), n < 8 → s.dieRuns = true → s.metr.newMap = none → s.metr.rws = [] →
    s.metr.timeKnown = false → n + 1 ∈ s.points → s.pointTest (n + 1) = false → (s.sacc n).on = false → (s.bill.mem.mc + 1) % 320 ≠ 0 →
    Does (.sampleInstant dt codes) s fun t =>
      (2 * s.nominal (nomDcI n) < (t.groupVal (8 + n) 2 0).natAbs → 0 < t.dcPower n →
        t.d64 (Reg.BILL_E (n + 1) 0)
            = (s.d64 (Reg.BILL_E (n + 1) 0) + (SMap.get (fun _ => 0) s.bill.mem.resid ((n + 1) * 8) + (t.dcPower n).natAbs) / mWhUnit)
              % 0x10000000000000000
        ∧ SMap.get (fun _ => 0) t.bill.mem.resid ((n + 1) * 8)
            = (SMap.get (fun _ => 0) s.bill.mem.resid ((n + 1) * 8) + (t.dcPower n).natAbs) % mWhUnit))
  ∧ (∀ (s : State) (dt : Nat) (codes : List Int), s.metr.on = true → s.metr.sleep = true →
    Does (.sampleInstant dt codes) s fun t =>
      t = ((s.tick dt).setMetr { s.metr with lastTs := (s.tick dt).dieTs }).setMem { s.bill.mem with mc := s.bill.mem.mc + 1 })
  ∧ (∀ (s : State) (dt : Nat) (moved : List Nat) (c : Nat), s.dieRuns = true → c < 32 → s.dKind c ≠ 0 → 2097152 < moved.getD c 0 →
    Does (.biasTest dt moved) s fun t =>
      (t.dch c).fails = (s.dch c).fails + 1 ∧ (t.dch c).passes = 0 ∧ (t.dch c).opened = ((s.dch c).opened || decide (3 ≤ (s.dch c).fails + 1))
      ∧ (∀ k < 48, 32 ≤ k → t.dch k = s.dch k) ∧ Silent s t ∧ RegsBut [] s t ∧ t = { s.tick dt with metr := t.metr, bill := t.bill })
  ∧ (∀ (s : State) (dt : Nat) (moved : List Nat) (c : Nat), s.dieRuns = true → c < 32 → s.dKind c ≠ 0 → moved.getD c 0 ≤ 2097152 →
    Does (.biasTest dt moved) s fun t =>
      (t.dch c).fails = 0 ∧ (t.dch c).passes = (s.dch c).passes + 1
      ∧ (t.dch c).opened = ((s.dch c).opened && decide ((s.dch c).passes + 1 < 10)) ∧ Silent s t ∧ RegsBut [] s t)
  ∧ (∀ (s : State) (dt n held : Nat), n < 16 → s.dieRuns = true → s.dKind (32 + n) ≠ 0 → 31250 ≤ held → (s.dch (32 + n)).opened = false →
    Does (.remoteChannelOpen dt n false held) s fun t =>
      (t.dch (32 + n)).opened = true ∧ DieTold Ev.METR_OPEN (evArg (32 + n) 0 0) t
      ∧ (∀ g, s.pointOf (32 + n) = some g → s.pointInvalid g = false → Tampered 1 s t) ∧ DieRegsBut (tamperRegs 1) s t
      ∧ Silent s t ∧ RegsBut [] s t ∧ t = { s.tick dt with metr := t.metr, bill := t.bill })
  ∧ (∀ (s : State) (dt n held : Nat), n < 16 → s.dieRuns = true → s.dKind (32 + n) ≠ 0 → Config.msec 1 ≤ held →
    Does (.remoteChannelOpen dt n true held) s fun t => t = (s.tick dt).setDch (32 + n) { s.dch (32 + n) with opened := false })
  ∧ (∀ (s : State) (dt freq : Nat), s.dieRuns = true → 0 ∈ s.points → 0 < s.sum (acKey 0 0) →
    Does (.gridCycle dt freq) s fun t =>
      t.metr.cycles = (s.cycleResult freq :: s.metr.cycles).take (if s.nominal nomF = 60 then 12 else 10)
      ∧ (∀ q < 3, t.drd (Reg.METR_AC_V q) = toWord (t.cycleMean (1 + 4 * q) / 100000) ∧ t.drd (Reg.METR_AC_I q) = toWord (t.cycleMean (2 + 4 * q) / 1000)
          ∧ t.drd (Reg.METR_AC_P q) = toWord (t.cycleMean (3 + 4 * q) / 1000000000000)
          ∧ t.drd (Reg.METR_AC_Q q) = toWord (t.cycleMean (4 + 4 * q) / 1000000000000))
      ∧ t.sum (acKey 0 0) = 0 ∧ DieRegsBut (Reg.METR_AC_FREQ :: (List.range 3).flatMap fun q =>
          [Reg.METR_AC_V q, Reg.METR_AC_I q, Reg.METR_AC_P q, Reg.METR_AC_Q q]) s t
      ∧ Silent s t ∧ RegsBut [] s t ∧ t = { s.tick dt with metr := t.metr, bill := t.bill })
  ∧ (∀ (s : State) (dt c : Nat), s.dieRuns = true → c < 48 → s.dKind c ≠ 0 → 6400 ≤ (s.dch c).n →
    Does (.channelStats dt) s fun t =>
      (t.dch c).rms = sqrtBits 40 ((s.dch c).sq / (s.dch c).n) 0 ∧ (t.dch c).mean = (s.dch c).sum / (s.dch c).n
      ∧ (t.dch c).pkHi = (s.dch c).hi ∧ (t.dch c).pkLo = (s.dch c).lo ∧ (t.dch c).n = 0
      ∧ t.drd (Reg.METR_CH_RMS c) = BitVec.ofNat 32 (t.dch c).rms
      ∧ DieRegsBut ((List.range 48).map Reg.METR_CH_RMS) s t ∧ Silent s t ∧ RegsBut [] s t ∧ t = { s.tick dt with metr := t.metr, bill := t.bill })
  ∧ (∀ (s : State) (dt c thd : Nat) (ws : List Word), s.dieRuns = true → hasHarm s.variant = true → s.metr.harmUsed = true → c < 48 → s.dKind c ≠ 0 →
    Does (.harmonicWindow dt [(c, thd, ws)]) s fun t =>
      (∀ h < 128, SMap.get (fun _ => 0) t.metr.harm (c * 256 + h) = ws.getD h 0)
      ∧ SMap.get (fun _ => 0) t.metr.harm (c * 256 + 128) = BitVec.ofNat 32 (thd % 65536 * 65536)
      ∧ SMap.get (fun _ => 0) t.metr.harm 0x10000 = (SMap.get (fun _ => 0) s.metr.harm 0x10000 + 1) &&& 0xFFFF
      ∧ t = (s.tick dt).setMetr { s.metr with harm := t.metr.harm })
  ∧ (∀ (s : State) (dt src : Nat) (temp : Int) (c : Nat), src < 49 → s.dieRuns = true → c < 48 → s.dKind c ≠ 0 → s.tempSource c = src →
    src = 0 ∨ 3200 ≤ (s.dch (src - 1)).tN ∧ (s.dch (src - 1)).opened = false ∧ (s.dch (src - 1)).temperature = temp ∧ -500 ≤ temp ∧ temp ≤ 2000 →
    Does (.tempTableUpdate dt src temp) s fun t =>
      (t.dch c).gT = (tempTable temp (s.tempPoints c)).1 ∧ (t.dch c).pT = (tempTable temp (s.tempPoints c)).2.1
      ∧ (t.dch c).tempRange = (tempTable temp (s.tempPoints c)).2.2 ∧ (t.dch c).temp = some temp ∧ (t.dch c).tempSrc = false
      ∧ t = (s.tick dt).setMetr { s.metr with chans := t.metr.chans })
  ∧ (∀ (s : State) (dt src : Nat) (temp : Int) (c : Nat), 0 < src → src < 49 → s.dieRuns = true → c < 48 → s.dKind c ≠ 0 → s.tempSource c = src →
    3200 ≤ (s.dch (src - 1)).tN → (s.dch (src - 1)).opened = true ∨ 2000 < (s.dch (src - 1)).temperature → (s.dch (src - 1)).tempSrc = false →
    Does (.tempTableUpdate dt src temp) s fun t =>
      (∀ t0, (s.dch c).temp = some t0 → (t.dch c).gT = (tempTable t0 (s.tempPoints c)).1 ∧ (t.dch c).pT = (tempTable t0 (s.tempPoints c)).2.1)
      ∧ ((s.dch c).temp = none → (t.dch c).gT = (s.dch c).gT ∧ (t.dch c).pT = (s.dch c).pT)
      ∧ (t.dch c).temp = (s.dch c).temp ∧ (t.dch c).tempSrc = true ∧ DieTold Ev.METR_TEMP_SRC (evArg (src - 1) 0 0) t
      ∧ t = (s.tick dt).setMetr { s.metr with chans := t.metr.chans, events := t.metr.events })
  ∧ (∀ (s : State) (dt c g : Nat), c < 48 → s.dieRuns = true → s.pointOf c = some g → (s.dch c).pol = false →
    (s.tick dt).dieLasted (s.dch c).polAt
      (if 8 ≤ s.dfld (Reg.METR_CH_CFG c) Fld.METR_CH_CFG_GROUP ∧ s.dfld (Reg.METR_CH_CFG c) Fld.METR_CH_CFG_ROLE = 1 then Config.sec 1
       else Config.sec 10) = true →
    Does (.polarityDetect dt c) s fun t =>
      (t.dch c).pol = true ∧ Tampered 2 s t ∧ DieTold Ev.METR_POLARITY (evArg c 0 0) t ∧ DieRegsBut (tamperRegs 2) s t
      ∧ Silent s t ∧ RegsBut [] s t ∧ t = { s.tick dt with metr := t.metr, bill := t.bill })

/-- Three wrong words in a row open a closed seal loop and are logged; a right word moves OPEN to CLOSING, a wrong one back; the 1,000th
right word in CLOSING closes it, clears the TEST bits and counts. A working map and RWS entries reach the die only while the loop is
OPEN. A result record leaves when 10 ms have passed or a boundary waits; when it arrives the METR and BILL registers read as it carries
and its events are posted. METR_CLR clears the channels' counts. -/
def Obligations.SealAndRecordRows : Prop :=
  (∀ (s : State) (dt : Nat) (back : BitVec 16), s.metr.on = true → s.metr.loop = 0 → 2 ≤ s.metr.loopRun → back ≠ s.metr.lfsr →
    Does (.sealWord dt back) s fun t =>
      t.metr.loop = 1 ∧ t.metr.loopRun = 0 ∧ t.metr.lfsr = Config.lfsrNext s.metr.lfsr ∧ Tampered 0 s t
      ∧ DieTold Ev.METR_SEAL_OPEN (evArg 0xFFF 0 0) t ∧ DieRegsBut (tamperRegs 0) s t
      ∧ Silent s t ∧ RegsBut [] s t ∧ t = { s.tick dt with metr := t.metr, bill := t.bill })
  ∧ (∀ (s : State) (dt : Nat) (back : BitVec 16), s.metr.on = true → s.metr.loop = 0 → back = s.metr.lfsr →
    Does (.sealWord dt back) s fun t => t = (s.tick dt).setMetr { s.metr with loopRun := 0, lfsr := Config.lfsrNext s.metr.lfsr })
  ∧ (∀ (s : State) (dt : Nat) (back : BitVec 16), s.metr.on = true → s.metr.loop = 1 → back = s.metr.lfsr →
    Does (.sealWord dt back) s fun t => t = (s.tick dt).setMetr { s.metr with loop := 2, loopRun := 0, lfsr := Config.lfsrNext s.metr.lfsr })
  ∧ (∀ (s : State) (dt : Nat) (back : BitVec 16), s.metr.on = true → s.metr.loop = 2 → back ≠ s.metr.lfsr →
    Does (.sealWord dt back) s fun t => t.metr.loop = 1 ∧ t.metr.loopRun = 0 ∧ Tampered 0 s t ∧ DieRegsBut (tamperRegs 0) s t ∧ Silent s t ∧ RegsBut [] s t)
  ∧ (∀ (s : State) (dt : Nat) (back : BitVec 16), s.metr.on = true → s.metr.loop = 2 → 999 ≤ s.metr.loopRun → back = s.metr.lfsr →
    Does (.sealWord dt back) s fun t =>
      t.metr.loop = 0 ∧ t.metr.loopRun = 0 ∧ t.drd Reg.METR_CAL_CTRL = 0 ∧ DieTold Ev.METR_SEALED (evArg 0xFFF 0 0) t
      ∧ t.dfld Reg.METR_SEAL Fld.METR_SEAL_CAL_COUNT = min (s.dfld Reg.METR_SEAL Fld.METR_SEAL_CAL_COUNT + 1) 0xFFFF
      ∧ t.d64 Reg.METR_SEAL_TS_LO = t.dieTs.toNat
      ∧ DieRegsBut ([Reg.METR_CAL_CTRL, Reg.METR_SEAL, Reg.METR_SEAL_TS_LO, Reg.METR_SEAL_TS_LO + 4] ++ (List.range 12).map Reg.METR_MAP_DIG
          ++ (List.range 12).map Reg.METR_CAL_DIG) s t
      ∧ Silent s t ∧ RegsBut [] s t ∧ t = { s.tick dt with metr := t.metr, bill := t.bill })
  ∧ (∀ (s : State) (dt : Nat) (back : BitVec 16), s.metr.on = false → Does (.sealWord dt back) s fun t => t = s.tick dt)
  ∧ (∀ (s : State) (dt n : Nat), s.img.running = some n → s.dieRuns = true → s.metr.loop = 1 →
    Does (.workingMapReceived dt) s fun t =>
      t = (s.tick dt).setMetr { s.metr with
            newMap := if (secOf (fun i => s.byte (slotKey s.serving n i)) 0xD).isEmpty then s.metr.newMap
              else some (secOf (fun i => s.byte (slotKey s.serving n i)) 0xD) })
  ∧ (∀ (s : State) (dt : Nat), s.dieRuns = false ∨ s.metr.loop ≠ 1 → Does (.workingMapReceived dt) s fun t => t = s.tick dt)
  ∧ (∀ (s : State) (dt c : Nat) (w : Word), s.dieRuns = true → s.metr.loop = 1 → c < 48 → s.metr.rws = [(Reg.METR_CAL_GAIN c, w)] →
    Does (.rwsApply dt) s fun t =>
      t.drd (Reg.METR_CAL_GAIN c) = w ∧ t.metr.rws = [] ∧ Tampered 18 s t ∧ DieRegsBut (Reg.METR_CAL_GAIN c :: tamperRegs 18) s t
      ∧ Silent s t ∧ RegsBut [] s t ∧ t = { s.tick dt with metr := t.metr, bill := t.bill })
  ∧ (∀ (s : State) (dt : Nat), s.dieRuns = true → s.metr.loop ≠ 1 → Does (.rwsApply dt) s fun t => t = (s.tick dt).setMetr { s.metr with rws := [] })
  ∧ (∀ (s : State) (dt : Nat), s.dieRuns = true → s.metr.boundary = true ∨ Config.msec 10 ≤ (s.tick dt).sinceLife s.metr.sentAt →
    Does (.resultRecord dt) s fun t =>
      t.metr.outbox = s.metr.outbox ++ [⟨s.metr.lastTs, s.metr.free, t.bill.mem.regs, s.metr.harm, t.alocData, s.metr.events, s.metr.closed⟩]
        ∧ t.metr.events = [] ∧ t.metr.closed = [] ∧ t.metr.boundary = false
        ∧ t.metr.sentAt = t.tm.life ∧ Silent s t ∧ RegsBut [] s t ∧ t = { s.tick dt with metr := t.metr, bill := t.bill })
  ∧ (∀ (s : State) (dt : Nat), s.dieRuns = false ∨ s.metr.boundary = false ∧ (s.tick dt).sinceLife s.metr.sentAt < Config.msec 10 →
    Does (.resultRecord dt) s fun t => t = s.tick dt)
  ∧ (∀ (s : State) (dt : Nat) (r : DieRec) (rest : List DieRec), s.metr.outbox = r :: rest → SMap.sorted r.regs = true →
    (r.events.all fun e => decide (e.2.2.toNat < 0x3000000)) = true →
    Does (.metrologyResult dt) s fun t =>
      t.metr.outbox = rest ∧ t.metr.rxAt = some t.tm.life ∧ t.metr.shownHarm = r.harm
      ∧ RecordShown r (Reg.ALOC_STAT :: (List.range 48).map Reg.METR_CH_CNT) s t ∧ (∀ e ∈ r.events, Told e.1 e.2.2 t) ∧ t = { s.tick dt with
            regs := t.regs, queues := t.queues, ev := t.ev, aloc := t.aloc, metr := t.metr, bill := t.bill, recent := t.recent
            free := t.free })
  ∧ (∀ (s : State) (dt : Nat), s.metr.outbox = [] → Does (.metrologyResult dt) s fun t => t = s.tick dt)
  ∧ (∀ (s : State) (dt : Nat) (acc : Access) (val : Word), Admitted s acc Reg.METR_CLR .op → val.getLsbD 0 = true →
    Does (.metrClr dt acc val) s fun t =>
      (∀ c < 48, t.rd (Reg.METR_CH_CNT c) = (s.tick dt).counted (Reg.METR_CH_CNT c)) ∧ Silent s t
      ∧ RegsBut ((List.range 48).map Reg.METR_CH_CNT) s t ∧ t = { s.tick dt with regs := t.regs })

/-- An interval whose end has come closes: its record is stored under the next number, each point's last demand is its energy over the
nominal length, the maxima keep the greater value, the next interval starts empty, and sealed MRAM is written. A new local minute
evaluates the calendar and takes the day profile's tariff. A billing period closes with a history record, the maxima at 0 and the
counter raised. A session instant opens an accumulation with its start values or closes it into a record that waits for its signature.
Registers are saved each 100 ms of meter count; a due step of time closes the interval, sets the new time and is logged. No register
that the sides see changes. -/
def Obligations.BillingBoundaryRows : Prop :=
  (∀ (s : State) (dt : Nat), (s.tick dt).takesBoundaries = true → s.demEnd.toNat ≠ 0 → s.demEnd.toNat ≤ (s.tick dt).dieTs.toNat →
    s.metr.boundary = false →
    Does (.demandIntervalEnd dt) s fun t =>
      t.bill.mem.intNo = s.bill.mem.intNo + 1 ∧ t.bill.mem.intE = [] ∧ t.bill.mem.intMc = s.bill.mem.mc ∧ t.bill.mem.intFlags = 0
      ∧ SMap.get (fun _ => []) t.bill.mem.intRecs s.bill.mem.intNo
          = (s.tick dt).intervalBytes (s.bill.mem.intFlags ||| (if s.metr.free then 8 else 0)) s.demEnd
      ∧ (∀ g < 9, t.drd (Reg.BILL_E g 56) = BitVec.ofNat 32 (s.meterDemand g 0) ∧ t.drd (Reg.BILL_E g 57) = BitVec.ofNat 32 (s.meterDemand g 1)
          ∧ t.drd (Reg.BILL_E g 52)
              = if (s.drd (Reg.BILL_E g 52)).toNat < s.meterDemand g 0 then BitVec.ofNat 32 (s.meterDemand g 0) else s.drd (Reg.BILL_E g 52))
      ∧ (∀ g < 9, ∀ j < 44, t.drd (Reg.BILL_E g j) = s.drd (Reg.BILL_E g j))
      ∧ t.d64 Reg.BILL_DEM_END_LO = (t.nextAligned t.dieTs).toNat ∧ t.metr.boundary = true ∧ t.bill.saved = t.bill.mem
      ∧ Silent s t ∧ RegsBut [] s t ∧ t = { s.tick dt with metr := t.metr, bill := t.bill })
  ∧ (∀ (s : State) (dt : Nat), (s.tick dt).takesBoundaries = false ∨ s.demEnd.toNat ≠ 0 ∧ (s.tick dt).dieTs.toNat < s.demEnd.toNat →
    Does (.demandIntervalEnd dt) s fun t => t = s.tick dt)
  ∧ (∀ (s : State) (dt : Nat), (s.tick dt).takesBoundaries = true → (s.bill.calSeen.all fun m => decide (m < (s.tick dt).dieLocal / 60)) = true →
    Does (.tariffSwitch dt) s fun t =>
      t.tariff = s.profileTariff (t.dfld Reg.BILL_STAT Fld.BILL_STAT_DAY) ((s.tick dt).dieLocal / 60 % 1440)
      ∧ t.dfld Reg.BILL_STAT Fld.BILL_STAT_DAY
          = (if t.dfld Reg.BILL_STAT Fld.BILL_STAT_SPECIAL = 1 then
              s.dfld (Reg.BILL_SPECIAL ((s.special (civil ((s.tick dt).dieLocal / 86400)).1 (civil ((s.tick dt).dieLocal / 86400)).2.1
                (civil ((s.tick dt).dieLocal / 86400)).2.2).getD 0)) Fld.BILL_SPECIAL_PROFILE
            else fget ⟨4 * ((weekday ((s.tick dt).dieLocal / 86400) + 6) % 7), 4⟩ (s.drd (Reg.BILL_WEEK (t.dfld Reg.BILL_STAT Fld.BILL_STAT_WEEK))))
      ∧ t.bill.calSeen = some ((s.tick dt).dieLocal / 60) ∧ (t.tariff = s.tariff → t.metr = s.metr) ∧ (t.tariff ≠ s.tariff → t.metr.boundary = true)
      ∧ DieRegsBut [Reg.BILL_STAT] s t ∧ Silent s t ∧ RegsBut [] s t ∧ t = { s.tick dt with metr := t.metr, bill := t.bill })
  ∧ (∀ (s : State) (dt m : Nat), s.bill.calSeen = some m → (s.tick dt).dieLocal / 60 ≤ m → Does (.tariffSwitch dt) s fun t => t = s.tick dt)
  ∧ (∀ (s : State) (dt : Nat), (s.tick dt).takesBoundaries = true → s.metr.boundary = false → (s.tick dt).closeOk ((s.tick dt).dieLocal / 86400) = true →
    s.bill.resetAt = some ((s.tick dt).dieTs.toNat / Config.sec 1) →
    Does (.billingPeriodClose dt) s fun t =>
      t.bill.mem.period = s.bill.mem.period + 1 ∧ t.dfld Reg.BILL_STAT Fld.BILL_STAT_PERIOD = (s.bill.mem.period + 1) % 65536
      ∧ SMap.get (fun _ => []) t.bill.mem.histRecs s.bill.mem.period = (s.tick dt).historyBytes ∧ t.bill.resetAt = none
      ∧ t.bill.mem.closeDay = some ((s.tick dt).dieLocal / 86400) ∧ (∀ g < 9, ∀ j < 10, t.drd (Reg.BILL_E g (44 + j)) = 0)
      ∧ (∀ g < 9, ∀ j < 44, t.drd (Reg.BILL_E g j) = s.drd (Reg.BILL_E g j)) ∧ t.bill.saved = t.bill.mem
      ∧ Silent s t ∧ RegsBut [] s t ∧ t = { s.tick dt with metr := t.metr, bill := t.bill })
  ∧ (∀ (s : State) (dt n : Nat) (at0 : Count) (rest : List (Nat × Bool × Count)), (s.tick dt).takesBoundaries = true → n < 8 →
    s.outl.toMeter = (n, true, at0) :: rest → at0.toNat ≤ (s.tick dt).dieTs.toNat → (s.sacc n).on = false →
    Does (.sessionAccumOpen dt) s fun t =>
      (t.sacc n).on = true ∧ (t.sacc n).sess = (s.rd (Reg.OUTL_O_SESS n)).toNat ∧ (t.sacc n).ts = (s.tick dt).dieTs ∧ (t.sacc n).mc = s.bill.mem.mc
      ∧ (t.sacc n).imp = s.d64 (Reg.BILL_E (n + 1) 0) ∧ (t.sacc n).exp = s.d64 (Reg.BILL_E (n + 1) 2) ∧ (t.sacc n).billed = []
      ∧ t.outl.toMeter = rest ∧ t.metr.boundary = true ∧ DieRegsBut [] s t ∧ Silent s t ∧ RegsBut [] s t
      ∧ t = { s.tick dt with metr := t.metr, bill := t.bill, outl := t.outl })
  ∧ (∀ (s : State) (dt n : Nat) (at0 : Count) (rest : List (Nat × Bool × Count)), (s.tick dt).takesBoundaries = true → n < 8 →
    s.outl.toMeter = (n, true, at0) :: rest → at0.toNat ≤ (s.tick dt).dieTs.toNat → (s.sacc n).on = true → s.bill.mem.sessRecs.length < 8192 →
    Does (.sessionAccumOpen dt) s fun t =>
      (t.sacc n).on = true ∧ t.bill.mem.sessNo = s.bill.mem.sessNo + 1 ∧ Tampered 22 s t ∧ DieRegsBut (tamperRegs 22) s t)
  ∧ (∀ (s : State) (dt n : Nat) (at0 : Count) (rest : List (Nat × Bool × Count)), (s.tick dt).takesBoundaries = true → n < 8 →
    s.outl.toMeter = (n, false, at0) :: rest → at0.toNat ≤ (s.tick dt).dieTs.toNat → (s.sacc n).on = true → s.bill.mem.sessRecs.length < 8192 →
    Does (.sessionAccumClose dt) s fun t =>
      t.sacc n = SessAcc.reset ∧ t.bill.mem.sessNo = s.bill.mem.sessNo + 1 ∧ t.bill.mem.unsigned = s.bill.mem.unsigned ++ [s.bill.mem.sessNo]
      ∧ SMap.get (fun _ => []) t.bill.mem.sessRecs s.bill.mem.sessNo
          = (s.tick dt).sessionBytes n ((s.sacc n).flags ||| flag (s.pointTest (n + 1)) ||| (if s.pointInvalid (n + 1) then 2 else 0)
              ||| (if s.metr.free then 0x20 else 0)) at0 ++ List.replicate 96 0
      ∧ t.outl.toMeter = rest ∧ t.metr.boundary = true ∧ DieRegsBut [] s t ∧ Silent s t ∧ RegsBut [] s t
      ∧ t = { s.tick dt with metr := t.metr, bill := t.bill, outl := t.outl })
  ∧ (∀ (s : State) (dt k : Nat) (rest : List Nat), s.dieRuns = true → s.bill.mem.unsigned = k :: rest → (s.bill.mem.sessRecs.any fun e => e.1 == k) = true →
    Does (.sessionSigned dt) s fun t =>
      t.bill.mem.unsigned = rest ∧ t.metr.closed = s.metr.closed ++ [(0, k)]
      ∧ SMap.get (fun _ => []) t.bill.mem.sessRecs k = fitTo 0x120 (SMap.get (fun _ => []) s.bill.mem.sessRecs k)
          ++ fitTo 96 (Config.dieSign s.bill.keyNo (Config.sha384 (fitTo 0x120 (SMap.get (fun _ => []) s.bill.mem.sessRecs k))))
      ∧ DieRegsBut [] s t ∧ Silent s t ∧ RegsBut [] s t ∧ t = { s.tick dt with metr := t.metr, bill := t.bill })
  ∧ (∀ (s : State) (dt : Nat), s.dieRuns = true → s.bill.savedMc + 3200 ≤ s.bill.mem.mc →
    Does (.registerSave dt) s fun t =>
      t.bill.saved = s.bill.mem ∧ t.bill.saved2 = s.bill.mem ∧ t.bill.savedOk = true ∧ t.bill.saved2Ok = true ∧ t.bill.savedMc = s.bill.mem.mc ∧ t.bill.savedTs = t.dieTs ∧ t.bill.mem = s.bill.mem
      ∧ t = { s.tick dt with bill := t.bill })
  ∧ (∀ (s : State) (dt : Nat), s.dieRuns = false ∨ s.bill.mem.mc < s.bill.savedMc + 3200 → Does (.registerSave dt) s fun t => t = s.tick dt)
  ∧ (∀ (s : State) (dt : Nat) (l : DieLine), (s.tick dt).takesBoundaries = true → s.metr.stepDue = some l →
    Does (.dieTimeStep dt) s fun t =>
      t.metr.stepDue = none ∧ t.metr.markTs = l.ts ∧ t.metr.markAt = l.at' ∧ t.metr.tai = l.tai ∧ t.metr.ofs = l.ofs ∧ t.metr.slew = 0 ∧ Tampered 3 s t
      ∧ s.bill.mem.intNo < t.bill.mem.intNo ∧ (∀ g < 9, ∀ j < 44, t.drd (Reg.BILL_E g j) = s.drd (Reg.BILL_E g j))
      ∧ (t.metr.events.any fun e => e.1 == Ev.BILL_TIME_STEP) = true ∧ Silent s t ∧ RegsBut [] s t
      ∧ t = { s.tick dt with metr := t.metr, bill := t.bill, outl := t.outl })
  ∧ (∀ (s : State) (dt : Nat), (s.tick dt).takesBoundaries = false ∨ s.metr.stepDue = none → Does (.dieTimeStep dt) s fun t => t = s.tick dt)

/-- A cut is logged and flushed: after a complete flush the registers stand as flushed, after a failed one as last saved; the die is dark.
Its start enters CLOSING, closes what was open, logs a failed flush and a weak hold-up store. A watchdog reset starts again from the
saved registers and is logged. Only the parts named change. -/
def Obligations.BillingPowerRows : Prop :=
  (∀ (s : State) (dt : Nat), s.metr.on = true →
    Does (.metrPowerFail dt true) s fun t =>
      t.metr.on = false ∧ t.bill.flushOk = true ∧ t.bill.cutTs = s.metr.lastTs ∧ t.bill.saved = t.bill.mem ∧ t.bill.saved2 = t.bill.mem
      ∧ (t.drd (Reg.BILL_TAMP_CNT 6)).toNat = min ((s.drd (Reg.BILL_TAMP_CNT 6)).toNat + 1) 0xFFFFFFFF
      ∧ t.dfld Reg.BILL_PWR Fld.BILL_PWR_CUTS = min (s.dfld Reg.BILL_PWR Fld.BILL_PWR_CUTS + 1) 0xFFFF
      ∧ t.d64 Reg.BILL_PWR_TS_LO = t.bill.cutTs.toNat
      ∧ DieRegsBut ([Reg.BILL_PWR, Reg.BILL_PWR_TS_LO, Reg.BILL_PWR_TS_LO + 4] ++ tamperRegs 6) s t ∧ Silent s t ∧ RegsBut [] s t ∧ t = { s.tick dt with metr := t.metr, bill := t.bill })
  ∧ (∀ (s : State) (dt : Nat), s.metr.on = true →
    Does (.metrPowerFail dt false) s fun t =>
      t.metr.on = false ∧ t.bill.flushOk = false ∧ t.bill.cutTs = s.metr.lastTs ∧ t.bill.saved = s.bill.saved
      ∧ t.bill.mem.intNo = s.bill.saved.intNo ∧ t.bill.mem.mc = s.bill.saved.mc
      ∧ (∀ g < 9, ∀ j < 64, t.drd (Reg.BILL_E g j) = SMap.get regReset s.bill.saved.regs (Reg.BILL_E g j)) ∧ Silent s t ∧ RegsBut [] s t ∧ t = { s.tick dt with metr := t.metr, bill := t.bill })
  ∧ (∀ (s : State) (dt : Nat) (flushed : Bool), s.metr.on = false → Does (.metrPowerFail dt flushed) s fun t => t = s.tick dt)
  ∧ (∀ (s : State) (dt : Nat) (holdupOk : Bool), s.metr.on = false → s.bill.flushOk = true → s.bill.savedOk = true → s.bill.saved2Ok = true →
    s.bill.mem.sessRecs.length < 8185 → s.bill.mem.intRecs.length < 43200 →
    Does (.metrDieStart dt holdupOk) s fun t =>
      t.metr.on = true ∧ t.metr.loop = 2 ∧ t.metr.loopRun = 0 ∧ t.metr.timeKnown = false ∧ (∀ n < 8, (t.sacc n).on = false)
      ∧ t.bill.mem.intNo = s.bill.mem.intNo + (if s.d64 Reg.BILL_DEM_END_LO = 0 ∧ s.bill.mem.mc = s.bill.mem.intMc then 0 else 1)
      ∧ t.bill.mem.intFlags = 3 ∧ t.d64 Reg.BILL_DEM_END_LO = 0
      ∧ (t.drd (Reg.BILL_TAMP_CNT 19)).toNat = (if holdupOk then (s.drd (Reg.BILL_TAMP_CNT 19)).toNat
          else min ((s.drd (Reg.BILL_TAMP_CNT 19)).toNat + 1) 0xFFFFFFFF)
      ∧ t.drd (Reg.BILL_TAMP_CNT 7) = s.drd (Reg.BILL_TAMP_CNT 7) ∧ (∀ g < 9, ∀ j < 44, t.drd (Reg.BILL_E g j) = s.drd (Reg.BILL_E g j))
      ∧ Silent s t ∧ RegsBut [] s t ∧ t = { s.tick dt with metr := t.metr, bill := t.bill })
  ∧ (∀ (s : State) (dt : Nat), s.metr.on = false → s.bill.flushOk = false →
    Does (.metrDieStart dt true) s fun t =>
      t.metr.on = true ∧ (t.drd (Reg.BILL_TAMP_CNT 7)).toNat = min ((s.drd (Reg.BILL_TAMP_CNT 7)).toNat + 1) 0xFFFFFFFF
      ∧ t.dfld Reg.BILL_PWR Fld.BILL_PWR_INCOMPLETE = min (s.dfld Reg.BILL_PWR Fld.BILL_PWR_INCOMPLETE + 1) 0xFFFF
      ∧ t.bill.mem.gaps = s.bill.mem.gaps ++ s.points.map (fun g => ⟨g, s.bill.savedTs, s.bill.savedMc, s.energyBound g⟩)
      ∧ DieTold Ev.BILL_INCOMPLETE (evArg 0xFFF 0 0) t ∧ Silent s t ∧ RegsBut [] s t ∧ t = { s.tick dt with metr := t.metr, bill := t.bill })
  ∧ (∀ (s : State) (dt : Nat) (m : DieMem), s.metr.on = false → s.bill.flushOk = true → s.bill.savedOk = false → s.bill.saved2Ok = false →
    m = (if s.bill.saved.totalImport < s.bill.saved2.totalImport then s.bill.saved2 else s.bill.saved) → m.sessRecs.length < 8185 →
    m.intRecs.length < 43200 →
    Does (.metrDieStart dt true) s fun t =>
      t.bill.savedOk = true ∧ t.bill.saved2Ok = true ∧ t.bill.regError = true
      ∧ (t.drd (Reg.BILL_TAMP_CNT 20)).toNat = min ((SMap.get regReset m.regs (Reg.BILL_TAMP_CNT 20)).toNat + 1) 0xFFFFFFFF
      ∧ (∀ g < 9, ∀ j < 44, t.drd (Reg.BILL_E g j) = SMap.get regReset m.regs (Reg.BILL_E g j)) ∧ RegsBut [] s t)
  ∧ (∀ (s : State) (dt : Nat), s.metr.on = true → Does (.metrDieStart dt true) s fun t => t = s.tick dt)
  ∧ (∀ (s : State) (dt : Nat), s.metr.on = true → s.bill.savedOk = true → s.bill.saved2Ok = true →
    Does (.dieWatchdogReset dt) s fun t =>
      t.metr.on = true ∧ t.metr.loop = 2 ∧ t.metr.timeKnown = false
      ∧ (t.drd (Reg.BILL_TAMP_CNT 23)).toNat = min ((SMap.get regReset s.bill.saved.regs (Reg.BILL_TAMP_CNT 23)).toNat + 1) 0xFFFFFFFF
      ∧ (∀ g < 9, ∀ j < 44, t.drd (Reg.BILL_E g j) = SMap.get regReset s.bill.saved.regs (Reg.BILL_E g j)) ∧ Silent s t ∧ RegsBut [] s t ∧ t = { s.tick dt with metr := t.metr, bill := t.bill })

/-- BILL_RESET is accepted at most once per 24 h of meter count and is refused otherwise. A setting whose second has come applies and a
calendar change is logged; one that the die holds is ignored. A record request names a record for the path, which reaches the window or
is shown as absent. A display sends a frame each 250 ms; its button and its times move its state. Only the parts named change. -/
def Obligations.BillingReadoutRows : Prop :=
  (∀ (s : State) (dt : Nat) (acc : Access) (val : Word), Admitted s acc Reg.BILL_CTRL .svc → val.getLsbD 0 = true → s.dieRuns = true →
    (s.bill.resetMc.all fun c => decide (c + 2764800000 ≤ s.bill.mem.mc)) = true →
    Does (.billReset dt acc val) s fun t =>
      t.bill.resetAt = some ((s.tick dt).dieTs.toNat / Config.sec 1 + 1) ∧ t.bill.resetMc = some s.bill.mem.mc ∧ Tampered 15 s t
      ∧ DieRegsBut (tamperRegs 15) s t ∧ Silent s t ∧ RegsBut [] s t ∧ t = { s.tick dt with metr := t.metr, bill := t.bill })
  ∧ (∀ (s : State) (dt : Nat) (acc : Access) (val : Word), Admitted s acc Reg.BILL_CTRL .svc → val.getLsbD 0 = true →
    s.dieRuns = false ∨ (s.bill.resetMc.any fun c => decide (s.bill.mem.mc < c + 2764800000)) = true →
    Does (.billReset dt acc val) s fun t =>
      Posted Ev.BILL_CMD_REFUSED (evArg 0xFFF 0 0) (s.tick dt) t ∧ t = { s.tick dt with ev := t.ev })
  ∧ (∀ (s : State) (dt addr : Nat) (w : Word) (at0 : Count), s.dieRuns = true → s.bill.due = [(addr, w, at0)] →
    at0.toNat / Config.sec 1 < (s.tick dt).dieTs.toNat / Config.sec 1 → calendarReg addr = true → s.drd addr ≠ w →
    Does (.billSettingsApply dt) s fun t =>
      t.drd addr = w ∧ t.bill.due = [] ∧ Tampered 13 s t ∧ DieRegsBut ([addr, Reg.BILL_STAT] ++ tamperRegs 13) s t
      ∧ Silent s t ∧ RegsBut [] s t ∧ t = { s.tick dt with metr := t.metr, bill := t.bill })
  ∧ (∀ (s : State) (dt addr : Nat) (w : Word) (at0 : Count), s.dieRuns = true → s.bill.due = [(addr, w, at0)] →
    at0.toNat / Config.sec 1 < (s.tick dt).dieTs.toNat / Config.sec 1 → s.drd addr = w →
    Does (.billSettingsApply dt) s fun t => t = { s.tick dt with bill := { s.bill with due := [] } })
  ∧ (∀ (s : State) (dt : Nat) (acc : Access) (val : Word), Admitted s acc Reg.BILL_REC_SEL .all → s.openOf acc = none →
    Does (.billRecRequest dt acc val) s fun t =>
      t.prd acc.path Reg.BILL_REC_SEL = val &&& 0xC0FFFFFF ∧ t.prd acc.path Reg.BILL_REC_STAT = 0
      ∧ SMap.get (fun _ => none) t.bill.reqs acc.path.code = some ((val &&& 0xC0FFFFFF).toNat, t.tm.life)
      ∧ (∀ p ∈ [Path.host, Path.mgmt, Path.service], p ≠ acc.path → t.prd p Reg.BILL_REC_SEL = s.prd p Reg.BILL_REC_SEL)
      ∧ Silent s t ∧ RegsBut [] s t
      ∧ t = { s.tick dt with tm := { (s.tick dt).tm with accepted := t.tm.accepted }, pregs := t.pregs, bill := t.bill })
  ∧ (∀ (s : State) (dt : Nat) (p : Path) (sel : Nat) (at0 : Count) (bs : List Byte), s.dieRuns = true →
    SMap.get (fun _ => none) s.bill.reqs p.code = some (sel, at0) → s.billRecord sel = some bs → bs.length ≤ 0x800 →
    Does (.billRecReady dt p) s fun t =>
      t.prd p Reg.BILL_REC_STAT = BitVec.ofNat 32 (0x80000000 + bs.length)
      ∧ (∀ i < 0x800, t.byte (billWinKey p i) = bs.getD i 0) ∧ SMap.get (fun _ => none) t.bill.reqs p.code = none
      ∧ Silent s t ∧ RegsBut [] s t ∧ t = { s.tick dt with pregs := t.pregs, bill := t.bill, bytes := t.bytes })
  ∧ (∀ (s : State) (dt : Nat) (p : Path) (sel : Nat) (at0 : Count), s.dieRuns = true →
    SMap.get (fun _ => none) s.bill.reqs p.code = some (sel, at0) → s.billRecord sel = none →
    Does (.billRecReady dt p) s fun t =>
      t.prd p Reg.BILL_REC_STAT = 0x40000000 ∧ Silent s t ∧ RegsBut [] s t ∧ t = { s.tick dt with pregs := t.pregs, bill := t.bill, bytes := t.bytes })
  ∧ (∀ (s : State) (dt n : Nat), n < 8 → s.metr.on = true → s.metr.sleep = false → Config.msec 250 ≤ (s.tick dt).sinceLife (s.disp n).frameAt →
    Does (.displayFrame dt n) s fun t =>
      (t.disp n).frame = t.dispFrame n ∧ (t.disp n).frameAt = t.tm.life ∧ (t.disp n).state = (s.disp n).state
      ∧ (∀ k < 8, k ≠ n → t.disp k = s.disp k) ∧ t = { s.tick dt with bill := { s.bill with disps := t.bill.disps } })
  ∧ (∀ (s : State) (dt n held : Nat), n < 8 → s.metr.on = true → Config.sec 2 ≤ held → (s.disp n).state ≠ 4 →
    Does (.displayButton dt n held) s fun t =>
      (t.disp n).state = 4 ∧ (t.disp n).back = (s.disp n).state ∧ (t.disp n).pressAt = some t.tm.life
      ∧ t = { s.tick dt with bill := { s.bill with disps := t.bill.disps } })
  ∧ (∀ (s : State) (dt n held : Nat), n < 8 → s.metr.on = true → held < Config.sec 1 → (s.disp n).state < 3 →
    Does (.displayButton dt n held) s fun t =>
      (t.disp n).state = 3 ∧ (t.disp n).back = (s.disp n).state ∧ (t.disp n).pos = 0
      ∧ t = { s.tick dt with bill := { s.bill with disps := t.bill.disps } })
  ∧ (∀ (s : State) (dt n held : Nat), n < 8 → s.metr.on = true → held < Config.sec 1 → (s.disp n).state = 3 →
    Does (.displayButton dt n held) s fun t =>
      (t.disp n).state = 3 ∧ (t.disp n).pos = (s.disp n).pos + 1 ∧ (t.disp n).since = t.tm.life
      ∧ t = { s.tick dt with bill := { s.bill with disps := t.bill.disps } })
  ∧ (∀ (s : State) (dt n : Nat), n < 8 → s.metr.on = true →
    (s.disp n).state = 2 ∧ Config.sec 120 ≤ (s.tick dt).sinceLife (s.disp n).since ∨ (s.disp n).state = 3 ∧ Config.sec 30 ≤ (s.tick dt).sinceLife (s.disp n).since
      ∨ (s.disp n).state = 4 ∧ Config.sec 10 ≤ (s.tick dt).sinceLife (s.disp n).since →
    Does (.displayTimeout dt n) s fun t =>
      (t.disp n).state = (if (s.disp n).state = 2 then 0 else if (s.disp n).state = 3 then (s.disp n).manBack else (s.disp n).back) ∧ (t.disp n).since = t.tm.life
      ∧ t = { s.tick dt with bill := { s.bill with disps := t.bill.disps } })

/-- ARM, STOP, TRIG and CLEAR_STORE wait for the next base-cycle boundary, by engine. A due sample instant takes the next number and stamps
on each side on which engines run and is offered to the engine's queue; a waiting firing of the only unit opens a record with that
instant; an instant that is not due changes nothing. A TIME unit fires once when its timestamp is reached; an interval that passes
restarts the sequence; HOLDOFF ends in ARMED. A record request clears the path's window; it is filled with the record named, or GONE is
shown. ACQ_CLR clears the counters of both sides. No other register changes. -/
def Obligations.AcquisitionRows : Prop :=
  (∀ (s : State) (dt : Nat) (acc : Access) (n : Nat) (val : Word), n < 16 → Admitted s acc (Reg.ACQ_E_CTRL n) .op →
    Does (.acqArm dt acc (Reg.ACQ_E_CTRL n) val) s fun t =>
      SMap.get (fun _ => 0) t.acq.due n = SMap.get (fun _ => 0) s.acq.due n ||| val.toNat % 16
      ∧ (∀ k < 16, k ≠ n → SMap.get (fun _ => 0) t.acq.due k = SMap.get (fun _ => 0) s.acq.due k)
      ∧ t = { s.tick dt with acq := { s.acq with due := t.acq.due } })
  ∧ (∀ (s : State) (dt : Nat) (acc : Access) (val : Word) (n : Nat), n < enginesOf s.variant → Admitted s acc Reg.ACQ_CMD_ALL .op →
    Does (.acqArm dt acc Reg.ACQ_CMD_ALL val) s fun t =>
      SMap.get (fun _ => 0) t.acq.due n = SMap.get (fun _ => 0) s.acq.due n ||| (flag (val.getLsbD (16 + n)) + 4 * flag (val.getLsbD n))
      ∧ t = { s.tick dt with acq := { s.acq with due := t.acq.due } })
  ∧ (∀ (s : State) (dt : Nat) (acc : Access) (n : Nat) (val : Word), n < 16 → Admitted s acc (Reg.ACQ_E_CTRL n) .op →
    Does (.acqStop dt acc n val) s fun t =>
      SMap.get (fun _ => 0) t.acq.due n = SMap.get (fun _ => 0) s.acq.due n ||| val.toNat % 16
      ∧ (∀ k < 16, k ≠ n → SMap.get (fun _ => 0) t.acq.due k = SMap.get (fun _ => 0) s.acq.due k)
      ∧ t = { s.tick dt with acq := { s.acq with due := t.acq.due } })
  ∧ (∀ (s : State) (dt : Nat) (acc : Access) (n : Nat) (val : Word), n < 16 → Admitted s acc (Reg.ACQ_E_CTRL n) .op →
    Does (.acqTrig dt acc (Reg.ACQ_E_CTRL n) val) s fun t =>
      SMap.get (fun _ => 0) t.acq.due n = SMap.get (fun _ => 0) s.acq.due n ||| val.toNat % 16
      ∧ (∀ k < 16, k ≠ n → SMap.get (fun _ => 0) t.acq.due k = SMap.get (fun _ => 0) s.acq.due k)
      ∧ t = { s.tick dt with acq := { s.acq with due := t.acq.due } })
  ∧ (∀ (s : State) (dt : Nat) (acc : Access) (val : Word) (n : Nat), n < enginesOf s.variant → Admitted s acc Reg.ACQ_CMD_ALL .op →
    Does (.acqTrig dt acc Reg.ACQ_CMD_ALL val) s fun t =>
      SMap.get (fun _ => 0) t.acq.due n = SMap.get (fun _ => 0) s.acq.due n ||| (flag (val.getLsbD (16 + n)) + 4 * flag (val.getLsbD n))
      ∧ t = { s.tick dt with acq := { s.acq with due := t.acq.due } })
  ∧ (∀ (s : State) (dt : Nat) (acc : Access) (n : Nat) (val : Word), n < 16 → Admitted s acc (Reg.ACQ_E_CTRL n) .op →
    Does (.clearStore dt acc n val) s fun t =>
      SMap.get (fun _ => 0) t.acq.due n = SMap.get (fun _ => 0) s.acq.due n ||| val.toNat % 16
      ∧ (∀ k < 16, k ≠ n → SMap.get (fun _ => 0) t.acq.due k = SMap.get (fun _ => 0) s.acq.due k)
      ∧ t = { s.tick dt with acq := { s.acq with due := t.acq.due } })
  ∧ (∀ (s : State) (dt n : Nat) (digital : List Nat) (edges : List (Nat × Bool × Count)) (x : Side), n < enginesOf s.variant → n < 16 →
    s.engSide x = true → (s.tick dt).sampleDue (s.eng x n) = true →
    Does (.acqSample dt n digital edges 0 0) s fun t =>
      (t.eng x n).next = (s.eng x n).next + 1
      ∧ (t.eng x n).last.map (fun i => (i.idx, i.ts, i.mono)) = some ((s.eng x n).next, (s.tick dt).tm.ts, (s.tick dt).tm.mono)
      ∧ (s.queue x (109 + n) = Queue.reset → (t.queue x (109 + n)).entries.map (fun q => (q.val, q.ts))
          = if s.rateKept x then [] else [(((s.eng x n).next : Int), (s.tick dt).tm.ts)])
      ∧ RegsBut ((List.range 16).map (fun k => sideReg .a (Reg.ACQ_E_CNT k)) ++ (List.range 16).map (fun k => sideReg .b (Reg.ACQ_E_CNT k))) s t
      ∧ t = { s.tick dt with
            regs := t.regs, pregs := t.pregs, queues := t.queues, ev := t.ev, ctx := t.ctx, acq := t.acq
            bytes := t.bytes, recent := t.recent, free := t.free })
  ∧ (∀ (s : State) (dt n : Nat) (digital : List Nat) (edges : List (Nat × Bool × Count)) (x : Side) (u : Nat) (ts mono bus : Count), n < enginesOf s.variant →
    n < 16 → s.engSide x = true → s.rateKept x = false → (s.tick dt).sampleDue (s.eng x n) = true → (s.eng x n).state = 1 → (s.eng x n).buf = [] →
    s.unitsOn (s.eng x n) = [u] → fget Fld.ACQ_E_TU_KIND (s.unitWord (s.eng x n) u) = 7 →
    fget Fld.ACQ_E_CFG_COMBINE ((s.eng x n).setting 0x08) = 0 → (s.eng x n).waiting u = some ⟨u, ts, mono, bus⟩ →
    Does (.acqSample dt n digital edges 0 0) s fun t =>
      (t.eng x n).state = 2 ∧ (t.eng x n).openRec.map (fun r => (r.unit, r.ts, r.busTs, r.items)) = some (u, ts, bus, []))
  ∧ (∀ (s : State) (dt n : Nat) (digital : List Nat) (edges : List (Nat × Bool × Count)),
    (∀ x ∈ [Side.a, Side.b], s.engSide x = false ∨ (s.tick dt).sampleDue (s.eng x n) = false) →
    Does (.acqSample dt n digital edges 0 0) s fun t => t = s.tick dt)
  ∧ (∀ (s : State) (dt n : Nat) (x : Side) (u : Nat), n < 16 → s.engSide x = true →
    (s.unitsOn (s.eng x n)).find? (fun u => fget Fld.ACQ_E_TU_KIND (s.unitWord (s.eng x n) u) == 7) = some u →
    1 ≤ (s.eng x n).state → (s.eng x n).state ≤ 3 → (s.eng x n).timeDone = false → (s.eng x n).waiting u = none →
    ((s.eng x n).setting 0x24 ++ (s.eng x n).setting 0x20 : Count).toNat ≤ (s.tick dt).tm.ts.toNat →
    (s.eng x n).armTs.toNat < ((s.eng x n).setting 0x24 ++ (s.eng x n).setting 0x20 : Count).toNat →
    Does (.acqTimeTrigger dt n) s fun t =>
      (t.eng x n).timeDone = true ∧ (t.eng x n).fires = (s.eng x n).fires ++ [⟨u, ((s.eng x n).setting 0x24 ++ (s.eng x n).setting 0x20 : Count),
        (s.tick dt).monoOf ((s.eng x n).setting 0x24 ++ (s.eng x n).setting 0x20), 0⟩]
      ∧ (t.eng x n).state = (s.eng x n).state ∧ t = { s.tick dt with acq := t.acq })
  ∧ (∀ (s : State) (dt n : Nat) (x : Side), n < 16 → s.engSide x = true → 0 < (s.eng x n).seqPos →
    0 < (s.eng x n).interval (seqUnit (s.unitsOn (s.eng x n)) (s.eng x n).seqPos) →
    (s.eng x n).interval (seqUnit (s.unitsOn (s.eng x n)) (s.eng x n).seqPos) < (s.tick dt).since (s.eng x n).seqAt →
    Does (.acqSeqTimeout dt n) s fun t =>
      t.eng x n = { s.eng x n with seqPos := 0, seqAt := 0 } ∧ t = { s.tick dt with acq := t.acq })
  ∧ (∀ (s : State) (dt n : Nat) (x : Side), n < 16 → s.engSide x = true → (s.eng x n).state = 3 →
    Config.msec (fget Fld.ACQ_E_CFG_HOLDOFF ((s.eng x n).setting 0x08)) ≤ (s.tick dt).since (s.eng x n).heldAt →
    Does (.acqHoldoffExpiry dt n) s fun t =>
      (t.eng x n).state = 1 ∧ (t.eng x n).armTs = (s.tick dt).tm.ts ∧ (t.eng x n).timeDone = false ∧ (t.eng x n).recs = (s.eng x n).recs
      ∧ t = { s.tick dt with acq := t.acq })
  ∧ (∀ (s : State) (dt : Nat) (acc : Access) (val : Word), Admitted s acc Reg.ACQ_RD_SEL .all → s.openOf acc = none →
    Does (.acqRecordRequest dt acc val) s fun t =>
      t.prd acc.path Reg.ACQ_RD_SEL = val &&& 0xF0FFFFFF ∧ t.prd acc.path Reg.ACQ_RD_STAT = 0
      ∧ SMap.get (fun _ => none) t.acq.reqs acc.path.code = some t.tm.mono ∧ (∀ i < 0x100, t.byte (acqWinKey acc.path i) = 0)
      ∧ t = { s.tick dt with tm := { (s.tick dt).tm with accepted := t.tm.accepted }, pregs := t.pregs, acq := t.acq, bytes := t.bytes })
  ∧ (∀ (s : State) (dt : Nat) (p : Path) (at0 : Count) (no : Nat) (bs : List Byte) (n : Nat), SMap.get (fun _ => none) s.acq.reqs p.code = some at0 →
    fget Fld.ACQ_RD_SEL_ENGINE (s.prd p Reg.ACQ_RD_SEL) = n → fget Fld.ACQ_RD_SEL_RECORD (s.prd p Reg.ACQ_RD_SEL) = no →
    (s.eng (s.viewed p) n).recs.find? (fun r => r.1 == no) = some (no, bs) → bs.length < 0x10000000 →
    Does (.acqRecordReady dt p) s fun t =>
      t.prd p Reg.ACQ_RD_STAT = BitVec.ofNat 32 (0x80000000 + bs.length) ∧ (bs.zipIdx.all fun e => t.byte (acqWinKey p e.2) == e.1) = true
      ∧ SMap.get (fun _ => none) t.acq.reqs p.code = none
      ∧ t = { s.tick dt with pregs := t.pregs, acq := t.acq, bytes := t.bytes, free := s.free + 96 })
  ∧ (∀ (s : State) (dt : Nat) (p : Path) (at0 : Count), SMap.get (fun _ => none) s.acq.reqs p.code = some at0 →
    s.acqRecord (s.viewed p) (fget Fld.ACQ_RD_SEL_ENGINE (s.prd p Reg.ACQ_RD_SEL)) (fget Fld.ACQ_RD_SEL_RECORD (s.prd p Reg.ACQ_RD_SEL)) = none →
    Does (.acqRecordReady dt p) s fun t =>
      t.prd p Reg.ACQ_RD_STAT = 0x40000000 ∧ t = { s.tick dt with pregs := t.pregs, acq := t.acq })
  ∧ (∀ (s : State) (dt : Nat) (acc : Access) (val : Word), Admitted s acc Reg.ACQ_CLR .op → val.getLsbD 0 = true →
    Does (.acqClr dt acc val) s fun t =>
      (∀ x ∈ [Side.a, Side.b], ∀ n < 16, t.rd (sideReg x (Reg.ACQ_E_CNT n)) = (s.tick dt).counted (sideReg x (Reg.ACQ_E_CNT n))) ∧ Silent s t
      ∧ RegsBut ((List.range 16).map (fun k => sideReg .a (Reg.ACQ_E_CNT k)) ++ (List.range 16).map (fun k => sideReg .b (Reg.ACQ_E_CNT k))) s t
      ∧ t = { s.tick dt with regs := t.regs })

/-- A message sent to a HOST port goes to the buffer chosen by identifier or by number, which becomes PENDING on both sides and keeps its
time if it waited; one that does not fit is refused, counted and told. A periodic tick makes the kept message PENDING, or counts a
skip. A frame sent without error leaves the queue of every engine it heads and frees its buffer; a standby engine that differs drops up
to it and tells. PURGE frees the HOST ports' buffers and entries; RESUME starts the recovery; SLEEP waits for an empty queue, or purges
after 100 ms; CLR clears the counts. -/
def Obligations.BusTransmitRows : Prop :=
  (∀ (s : State) (dt : Nat) (acc : Access) (k p : Nat) (val : Word) (m : CanMsg) (b : Nat) (x : Side), k < 4 → p < 16 →
    Admitted s acc (Reg.CAN_PORT_SEND k p) .op → s.hostPort k p = true → m = s.staged k p (fget Fld.CAN_PORT_SEND_LEN val) →
    fget Fld.CAN_PORT_SEND_LEN val ≤ 2048 → lenOk m.fmt (fget Fld.CAN_PORT_SEND_LEN val) = true → m.fmt ≤ s.fld (Reg.CAN_CFG k) Fld.CAN_CFG_FORMAT →
    s.engSide x = true →
    ((s.canServing k).chooseBuf p (s.portCfg k p Fld.CAN_PORT_CFG_SEL == 1) (fget Fld.CAN_PORT_SEND_BUF val) m).isSome = true →
    (s.canEng x k).chooseBuf p (s.portCfg k p Fld.CAN_PORT_CFG_SEL == 1) (fget Fld.CAN_PORT_SEND_BUF val) m = some b →
    Does (.canPortSend dt acc k p val) s fun t =>
      (t.canEng x k).buf p b = ⟨1, some m, if ((s.canEng x k).buf p b).state = 1 then ((s.canEng x k).buf p b).pendAt else t.tm.mono⟩
      ∧ (∀ q < 16, ∀ c < 3, (q = p → c ≠ b) → (t.canEng x k).buf q c = (s.canEng x k).buf q c)
      ∧ (t.canEng x k).queue = (s.canEng x k).queue ∧ (t.canEng x k).objs = (s.canEng x k).objs
      ∧ t = { s.tick dt with can := t.can })
  ∧ (∀ (s : State) (dt : Nat) (acc : Access) (k p : Nat) (val : Word), k < 4 → p < 16 →
    Admitted s acc (Reg.CAN_PORT_SEND k p) .op → s.hostPort k p = true →
    lenOk (s.staged k p 0).fmt (fget Fld.CAN_PORT_SEND_LEN val) = false →
    Does (.canPortSend dt acc k p val) s fun t =>
      t.fld (Reg.CAN_PORT_CNT k p) Fld.CAN_PORT_CNT_REFUSED = min (s.fld (Reg.CAN_PORT_CNT k p) Fld.CAN_PORT_CNT_REFUSED + 1) 0xFFFF
      ∧ Posted Ev.CAN_TX_REFUSED (evArg p k 0) (s.tick dt) t ∧ RegsBut [Reg.CAN_PORT_CNT k p] s t
      ∧ t = { s.tick dt with regs := t.regs, ev := t.ev, recent := t.recent })
  ∧ (∀ (s : State) (dt k p : Nat) (x : Side) (m : CanMsg) (n : Nat), k < cansOf s.variant → p < 16 → s.portCfg k p Fld.CAN_PORT_CFG_MODE = 1 →
    s.canMode k = 1 → (s.tick dt).atCycleStart = true →
    (s.tick dt).tm.mono.toNat / Config.msec (max 1 (s.portCfg k p Fld.CAN_PORT_CFG_PERIOD)) = n → SMap.get (fun _ => 0) s.can.ticks (k * 16 + p) < n →
    s.engSide x = true → ((s.canServing k).buf p 0).msg.isSome = true → ((s.canServing k).buf p 0).state ≠ 2 →
    ((s.canEng x k).buf p 0).msg = some m → ((s.canEng x k).buf p 0).state = 0 →
    Does (.canPeriodicTick dt k p) s fun t =>
      (t.canEng x k).buf p 0 = ⟨1, some m, t.tm.mono⟩ ∧ SMap.get (fun _ => 0) t.can.ticks (k * 16 + p) = n
      ∧ (t.canEng x k).queue = (s.canEng x k).queue ∧ t = { s.tick dt with can := t.can })
  ∧ (∀ (s : State) (dt k p n : Nat), k < cansOf s.variant → p < 16 → s.portCfg k p Fld.CAN_PORT_CFG_MODE = 1 → s.canMode k = 2 →
    (s.tick dt).atCycleStart = true →
    (s.tick dt).tm.mono.toNat / Config.msec (max 1 (s.portCfg k p Fld.CAN_PORT_CFG_PERIOD)) = n → SMap.get (fun _ => 0) s.can.ticks (k * 16 + p) < n →
    Does (.canPeriodicTick dt k p) s fun t =>
      t.fld (Reg.CAN_PORT_STAT k p) Fld.CAN_PORT_STAT_SKIPS = min (s.fld (Reg.CAN_PORT_STAT k p) Fld.CAN_PORT_STAT_SKIPS + 1) 0xFFFF
      ∧ t.can.engs = s.can.engs ∧ RegsBut [Reg.CAN_PORT_STAT k p] s t ∧ t = { s.tick dt with regs := t.regs, can := t.can, recent := t.recent })
  ∧ (∀ (s : State) (dt k : Nat) (m : CanMsg) (sof : Count) (x : Side) (h : CanEntry) (r : List CanEntry), k < cansOf s.variant → s.canMode k = 1 →
    s.engSide x = true → s.engSide s.serving = true → (s.canEng x k).queue = h :: r → (s.canServing k).queue.head? = some h → h.msg = m → h.port < 16 → h.buf < 3 →
    Does (.canFrameSent dt k m sof) s fun t =>
      (t.canEng x k).queue = r ∧ ((t.canEng x k).buf h.port h.buf).state = 0
      ∧ t.fld (Reg.CAN_CNT k) Fld.CAN_CNT_TX_OK = min (s.fld (Reg.CAN_CNT k) Fld.CAN_CNT_TX_OK + 1) 0xFFFF
      ∧ t.fld (Reg.CAN_PORT_CNT k h.port) Fld.CAN_PORT_CNT_SENT = min (s.fld (Reg.CAN_PORT_CNT k h.port) Fld.CAN_PORT_CNT_SENT + 1) 0xFFFF
      ∧ t.fld (Reg.CAN_PORT_LAT k h.port) Fld.CAN_PORT_LAT_LAST = min ((s.tick dt).since h.pendAt / Config.usec 10) 0xFFFF
      ∧ RegsBut [Reg.CAN_CNT k, Reg.CAN_CNT2 k, Reg.CAN_CNT3 k, Reg.CAN_ERR k, Reg.CAN_STAT k, Reg.CAN_WIRE k, Reg.CAN_PORT_CNT k h.port,
          Reg.CAN_PORT_LAT k h.port] s t
      ∧ t = { s.tick dt with
            regs := t.regs, queues := t.queues, ev := t.ev, ctx := t.ctx, acq := t.acq, can := t.can
            recent := t.recent, free := t.free })
  ∧ (∀ (s : State) (dt k : Nat) (m : CanMsg) (sof : Count) (x : Side) (pre : List CanEntry) (h : CanEntry) (r : List CanEntry), k < cansOf s.variant →
    s.canMode k = 1 → (s.side x).state = .standby → (s.canEng x k).queue = pre ++ h :: r → pre ≠ [] → h.msg = m → (pre.all fun q => q.msg != m) = true →
    Does (.canFrameSent dt k m sof) s fun t =>
      (t.canEng x k).queue = r ∧ Told Ev.CAN_SHADOW_MISMATCH (evArg 0xFFF k 0) t)
  ∧ (∀ (s : State) (dt : Nat) (acc : Access) (k : Nat) (wire : Bool), k < 4 → Admitted s acc (Reg.CAN_CTRL k) .op → s.canMode k ≠ 0 ∧ s.canMode k ≠ 4 →
    Does (.canPurgeCmd dt acc k 4 wire) s fun t =>
      (∀ x ∈ [Side.a, Side.b], s.engSide x = true → ∀ p < 16, ∀ b < 3, s.hostPort k p = true → ((t.canEng x k).buf p b).state ≠ 1)
      ∧ (∀ x ∈ [Side.a, Side.b], s.engSide x = true → wire = false → ((t.canEng x k).queue.all fun q => !s.hostPort k q.port) = true)
      ∧ (∀ x ∈ [Side.a, Side.b], (t.canEng x k).objs = (s.canEng x k).objs)
      ∧ Silent s t ∧ RegsBut [Reg.CAN_CNT3 k] s t
      ∧ t = { s.tick dt with regs := t.regs, queues := t.queues, can := t.can, recent := t.recent, free := t.free })
  ∧ (∀ (s : State) (dt : Nat) (acc : Access) (k : Nat) (wire : Bool), k < 4 → Admitted s acc (Reg.CAN_CTRL k) .op → s.canMode k = 4 →
    Does (.canResume dt acc k 8 wire) s fun t =>
      t.canMode k = 3 ∧ SMap.get (fun _ => 0) t.can.offAt k = t.tm.mono ∧ t.can.engs = s.can.engs
      ∧ Silent s t ∧ RegsBut [Reg.CAN_STAT k] s t ∧ t = { s.tick dt with regs := t.regs, can := t.can })
  ∧ (∀ (s : State) (dt : Nat) (acc : Access) (k : Nat) (wire : Bool), k < 4 → Admitted s acc (Reg.CAN_CTRL k) .op → s.canMode k = 1 → (s.can.sleepReq.any fun e => e.1 == k) = false →
    Does (.canSleep dt acc k 1 wire) s fun t =>
      t = { s.tick dt with can := { s.can with sleepReq := SMap.insert s.can.sleepReq k (s.tick dt).tm.mono } })
  ∧ (∀ (s : State) (dt k : Nat), k < 4 → (s.can.sleepReq.any fun e => e.1 == k) = true → (s.canServing k).queue = [] →
    ((s.canServing k).bufs.all fun b => b.2.state != 1) = true →
    Does (.canSleepEnter dt k) s fun t =>
      t.canMode k = 2 ∧ t.can.sleepReq = SMap.erase s.can.sleepReq k ∧ SMap.get (fun _ => 0) t.can.errs k = 0 ∧ t.can.engs = s.can.engs
      ∧ Silent s t ∧ RegsBut [Reg.CAN_STAT k] s t ∧ t = { s.tick dt with regs := t.regs, can := t.can })
  ∧ (∀ (s : State) (dt k : Nat), k < 4 → (s.tick dt).lastedIn s.can.sleepReq k (Config.msec 100) = true → (s.canServing k).queue ≠ [] →
    Does (.canSleepTimeout dt k) s fun t =>
      t.canMode k = 2 ∧ (∀ x ∈ [Side.a, Side.b], s.engSide x = true → (t.canEng x k).queue = []
        ∧ ((t.canEng x k).bufs.all fun b => b.2.state == 0) = true ∧ (t.canEng x k).objs = (s.canEng x k).objs)
      ∧ t.fld (Reg.CAN_CNT3 k) Fld.CAN_CNT3_PURGED = min (s.fld (Reg.CAN_CNT3 k) Fld.CAN_CNT3_PURGED + (s.canServing k).waiting) 0xFFFF
      ∧ Posted Ev.CAN_PURGE (evArg 0xFFF k 0) (s.tick dt) t ∧ RegsBut [Reg.CAN_STAT k, Reg.CAN_CNT3 k] s t
      ∧ t = { s.tick dt with regs := t.regs, queues := t.queues, can := t.can, ev := t.ev, recent := t.recent, free := t.free })
  ∧ (∀ (s : State) (dt : Nat) (acc : Access) (k : Nat) (val : Word), k < 4 → Admitted s acc (Reg.CAN_CLR k) .op → val.getLsbD 0 = true →
    Does (.canClr dt acc k val) s fun t =>
      t.fld (Reg.CAN_CNT k) Fld.CAN_CNT_TX_OK = 0 ∧ t.fld (Reg.CAN_CNT k) Fld.CAN_CNT_RX_OK = 0 ∧ t.fld (Reg.CAN_CNT3 k) Fld.CAN_CNT3_PURGED = 0
      ∧ (∀ p < 16, t.fld (Reg.CAN_PORT_LAT k p) Fld.CAN_PORT_LAT_MAX = 0 ∧ t.fld (Reg.CAN_PORT_LAT k p) Fld.CAN_PORT_LAT_LAST
          = s.fld (Reg.CAN_PORT_LAT k p) Fld.CAN_PORT_LAT_LAST)
      ∧ (∀ x ∈ [Side.a, Side.b], t.canEng x k = { s.canEng x k with high := (s.canEng x k).queue.length }) ∧ Silent s t
      ∧ RegsBut ([Reg.CAN_CNT k, Reg.CAN_CNT2 k, Reg.CAN_CNT3 k] ++ (List.range 16).map (Reg.CAN_PORT_LAT k)) s t
      ∧ t = { s.tick dt with regs := t.regs, can := t.can })

/-- A valid frame that an object matches is stored on both sides with NEW set, and LOST where NEW was set already; any other, and every
remote frame, is counted as UNMATCHED. An error sets LAST and raises the counters; above 255 of TEC the controller enters BUS_OFF and
RECOVERING, or HALTED at RECOV_MAX; a recovery ends in RUN with counters 0. In SLEEP a decoding error is counted only. A selection
copies the object to the path's window and clears the flags of a HOST object unless PEEK is set. A wake, commanded or from the bus,
records its source and ends in RUN. A wiring flag sets once with its event and clears after 100 ms of absence. -/
def Obligations.BusReceiveRows : Prop :=
  (∀ (s : State) (dt k : Nat) (m : CanMsg) (sof : Count) (o : Nat) (x : Side), k < cansOf s.variant → s.canMode k = 1 →
    m.fmt ≤ s.fld (Reg.CAN_CFG k) Fld.CAN_CFG_FORMAT → s.objectOf k m = some o → m.data.length ≤ s.objectCap k o → s.engSide x = true →
    Does (.canFrameReceived dt k m false sof) s fun t =>
      SMap.get (fun _ => CanObj.reset) (t.canEng x k).objs o = ⟨m.fmt, m.data, sof, true,
        (SMap.get (fun _ => CanObj.reset) (s.canEng x k).objs o).lost || (SMap.get (fun _ => CanObj.reset) (s.canEng x k).objs o).fresh⟩
      ∧ (t.canEng x k).queue = (s.canEng x k).queue
      ∧ t.fld (Reg.CAN_CNT k) Fld.CAN_CNT_RX_OK = min (s.fld (Reg.CAN_CNT k) Fld.CAN_CNT_RX_OK + 1) 0xFFFF
      ∧ RegsBut [Reg.CAN_CNT k, Reg.CAN_CNT3 k, Reg.CAN_ERR k, Reg.CAN_STAT k] s t ∧ t = { s.tick dt with
            regs := t.regs, ev := t.ev, ctx := t.ctx, acq := t.acq, can := t.can, recent := t.recent })
  ∧ (∀ (s : State) (dt k : Nat) (m : CanMsg) (remote : Bool) (sof : Count), k < cansOf s.variant → s.canMode k = 1 →
    m.fmt ≤ s.fld (Reg.CAN_CFG k) Fld.CAN_CFG_FORMAT → (remote || (s.objectOf k m).isNone) = true →
    Does (.canFrameReceived dt k m remote sof) s fun t =>
      t.can.engs = s.can.engs ∧ t.fld (Reg.CAN_CNT2 k) Fld.CAN_CNT2_UNMATCHED = min (s.fld (Reg.CAN_CNT2 k) Fld.CAN_CNT2_UNMATCHED + 1) 0xFFFF
      ∧ RegsBut [Reg.CAN_CNT2 k, Reg.CAN_ERR k, Reg.CAN_STAT k] s t)
  ∧ (∀ (s : State) (dt k err tecUp recUp : Nat), k < cansOf s.variant → s.canMode k = 1 → 1 ≤ err → err ≤ 6 →
    s.fld (Reg.CAN_ERR k) Fld.CAN_ERR_TEC + tecUp ≤ 255 → (err = 3 → s.fld (Reg.CAN_STAT k) Fld.CAN_STAT_CONF ≠ 1) →
    Does (.canBusError dt k err tecUp recUp false) s fun t =>
      t.fld (Reg.CAN_ERR k) Fld.CAN_ERR_LAST = err ∧ t.fld (Reg.CAN_ERR k) Fld.CAN_ERR_TEC = s.fld (Reg.CAN_ERR k) Fld.CAN_ERR_TEC + tecUp
      ∧ t.fld (Reg.CAN_ERR k) Fld.CAN_ERR_REC = min (s.fld (Reg.CAN_ERR k) Fld.CAN_ERR_REC + recUp) 255
      ∧ t.canMode k = 1 ∧ (t.fld (Reg.CAN_STAT k) Fld.CAN_STAT_CONF = 1 ↔ 128 ≤ t.fld (Reg.CAN_ERR k) Fld.CAN_ERR_TEC ∨ 128 ≤ t.fld (Reg.CAN_ERR k) Fld.CAN_ERR_REC)
      ∧ RegsBut [Reg.CAN_ERR k, Reg.CAN_STAT k] s t ∧ t = { s.tick dt with regs := t.regs, ev := t.ev })
  ∧ (∀ (s : State) (dt k err tecUp recUp : Nat), k < cansOf s.variant → s.canMode k = 1 → 1 ≤ err → err ≤ 6 → err ≠ 3 →
    256 ≤ s.fld (Reg.CAN_ERR k) Fld.CAN_ERR_TEC + tecUp → s.fld (Reg.CAN_RECOV k) Fld.CAN_RECOV_RECOV_MAX ≤ 1 →
    Does (.canBusError dt k err tecUp recUp false) s fun t =>
      t.canMode k = (if s.fld (Reg.CAN_RECOV k) Fld.CAN_RECOV_RECOV_MAX = 0 then 3 else 4) ∧ t.fld (Reg.CAN_STAT k) Fld.CAN_STAT_CONF = 2
      ∧ Told Ev.CAN_BUS_OFF (evArg 0xFFF k 0) t ∧ (t.canMode k = 4 → Told Ev.CAN_HALTED (evArg 0xFFF k 0) t)
      ∧ SMap.get (fun _ => 0) t.can.offAt k = t.tm.mono ∧ t.can.engs = s.can.engs
      ∧ RegsBut [Reg.CAN_ERR k, Reg.CAN_STAT k, Reg.CAN_CNT2 k] s t ∧ t = { s.tick dt with regs := t.regs, ev := t.ev, can := t.can, recent := t.recent })
  ∧ (∀ (s : State) (dt k err tecUp recUp : Nat) (sending : Bool), k < cansOf s.variant → s.canMode k = 2 → err ≠ 0 →
    Does (.canBusError dt k err tecUp recUp sending) s fun t =>
      SMap.get (fun _ => 0) t.can.errs k = SMap.get (fun _ => 0) s.can.errs k + 1 ∧ t = { s.tick dt with can := { s.can with errs := t.can.errs } })
  ∧ (∀ (s : State) (dt k : Nat), k < cansOf s.variant → s.canMode k = 3 → 1408 * s.bitTime k ≤ (s.tick dt).since (SMap.get (fun _ => 0) s.can.offAt k) →
    Does (.canRecoveryDone dt k) s fun t =>
      t.canMode k = 1 ∧ t.fld (Reg.CAN_ERR k) Fld.CAN_ERR_TEC = 0 ∧ t.fld (Reg.CAN_ERR k) Fld.CAN_ERR_REC = 0
      ∧ t.fld (Reg.CAN_STAT k) Fld.CAN_STAT_CONF = 0 ∧ Told Ev.CAN_RECOVERED (evArg 0xFFF k 0) t
      ∧ RegsBut [Reg.CAN_ERR k, Reg.CAN_STAT k] s t ∧ t = { s.tick dt with regs := t.regs, ev := t.ev })
  ∧ (∀ (s : State) (dt : Nat) (acc : Access) (k : Nat) (val : Word) (o : CanObj), k < 4 → Admitted s acc (Reg.CAN_RX_SEL k) .all → s.openOf acc = none →
    SMap.get (fun _ => CanObj.reset) (s.canEng (s.viewed acc.path) k).objs (fget Fld.CAN_RX_SEL_OBJECT val) = o →
    s.parN (Par.canObjCfg k (fget Fld.CAN_RX_SEL_OBJECT val)) / 16 % 16 = 1 →
    Does (.canRxSel dt acc k val) s fun t =>
      t.prd acc.path (Reg.CAN_RX_SEL k) = val &&& 0x800003FF
      ∧ fget Fld.CAN_RX_HDR_NEW (t.prd acc.path (Reg.CAN_RX_HDR k)) = flag o.fresh
      ∧ fget Fld.CAN_RX_HDR_LOST (t.prd acc.path (Reg.CAN_RX_HDR k)) = flag o.lost
      ∧ t.prd acc.path (Reg.CAN_RX_TS_HI k) ++ t.prd acc.path (Reg.CAN_RX_TS_LO k) = o.ts
      ∧ (∀ i < 512, t.prd acc.path (Reg.CAN_RX_WIN k i) = BitVec.ofNat 32 (leNat ((o.data.drop (4 * i)).take 4)))
      ∧ (fget Fld.CAN_RX_SEL_PEEK val = 1 → t.can = s.can)
      ∧ (fget Fld.CAN_RX_SEL_PEEK val = 0 →
          (SMap.get (fun _ => CanObj.reset) (t.canEng s.serving k).objs (fget Fld.CAN_RX_SEL_OBJECT val)).fresh = false
          ∧ (SMap.get (fun _ => CanObj.reset) (t.canEng s.serving k).objs (fget Fld.CAN_RX_SEL_OBJECT val)).lost = false)
      ∧ t = { s.tick dt with
            tm := { (s.tick dt).tm with accepted := t.tm.accepted }, pregs := t.pregs, can := t.can, ev := { s.ev with seen := t.ev.seen } })
  ∧ (∀ (s : State) (dt : Nat) (acc : Access) (k : Nat) (wire : Bool), k < 4 → Admitted s acc (Reg.CAN_CTRL k) .op → s.canMode k = 2 → s.power < 3 → s.wakeOpen .can k = false →
    Does (.canCtrlWake dt acc k 2 wire) s fun t =>
      t.canMode k = 1 ∧ t.rd (Reg.CAN_WAKE_STAT k) = 0 ∧ t.fld (Reg.CAN_ERR k) Fld.CAN_ERR_TEC = 0 ∧ t.fld (Reg.CAN_ERR k) Fld.CAN_ERR_REC = 0
      ∧ Told Ev.CAN_WAKE (evArg 0xFFF k 0) t ∧ RegsBut [Reg.CAN_STAT k, Reg.CAN_ERR k, Reg.CAN_WAKE_STAT k] s t
      ∧ t = { s.tick dt with regs := t.regs, ev := t.ev, can := { s.can with sleepReq := t.can.sleepReq } })
  ∧ (∀ (s : State) (dt k src : Nat) (m : CanMsg), k < cansOf s.variant → s.canMode k = 2 → s.wakeMatches k src m = true → s.power < 3 →
    s.wakeOpen .can k = false →
    Does (.canWake dt k src m) s fun t =>
      t.canMode k = 1 ∧ (t.rd (Reg.CAN_WAKE_STAT k)).toNat / 0x40000000 = src % 4
      ∧ (t.rd (Reg.CAN_WAKE_STAT k)).toNat % 0x20000000 = (if src = 2 then m.id % 0x20000000 else 0)
      ∧ t.fld (Reg.CAN_ERR k) Fld.CAN_ERR_TEC = 0 ∧ Told Ev.CAN_WAKE (evArg 0xFFF k 0) t
      ∧ RegsBut [Reg.CAN_STAT k, Reg.CAN_ERR k, Reg.CAN_WAKE_STAT k] s t
      ∧ t = { s.tick dt with regs := t.regs, ev := t.ev, can := { s.can with sleepReq := t.can.sleepReq } })
  ∧ (∀ (s : State) (dt k src : Nat) (m : CanMsg), (s.canMode k = 2 → s.wakeMatches k src m = false) → Does (.canWake dt k src m) s fun t => t = s.tick dt)
  ∧ (∀ (s : State) (dt k present f : Nat), k < cansOf s.variant → 1 ≤ f → f ≤ 5 → present.testBit f = true → s.bit (Reg.CAN_WIRE k) f = false →
    Does (.canWireFault dt k present) s fun t =>
      t.bit (Reg.CAN_WIRE k) f = true
      ∧ Told (if f = 5 then Ev.CAN_WIRE_DOM else if f < 3 then Ev.CAN_WIRE_L else Ev.CAN_WIRE_H) (evArg 0xFFF k 0) t
      ∧ RegsBut [Reg.CAN_WIRE k, Reg.CAN_CNT2 k] s t ∧ t.can.engs = s.can.engs ∧ t = { s.tick dt with regs := t.regs, ev := t.ev, can := t.can, recent := t.recent })
  ∧ (∀ (s : State) (dt k f : Nat), f < 6 → k < 4 → (s.tick dt).lastedIn s.can.gone (k * 8 + f) (Config.msec 100) = true →
    Does (.canWireClear dt k f) s fun t =>
      t.bit (Reg.CAN_WIRE k) f = false ∧ (∀ g < 6, g ≠ f → t.bit (Reg.CAN_WIRE k) g = s.bit (Reg.CAN_WIRE k) g) ∧ Silent s t
      ∧ RegsBut [Reg.CAN_WIRE k] s t ∧ t = { s.tick dt with regs := t.regs })

/-- ON and OFF of a HOST channel wait as its request for the next boundary; of another channel they are denied. CLEAR takes a latched
channel to OFF and is refused elsewhere. The inrush window ends in ON once it has counted T_INR; regulation pauses it and its end
resumes it. A retry follows its delay and counts; 60 s of ON clear the count; a clamp bucket that is full again frees its channel.
Nothing else changes. -/
def Obligations.SwitchCommandRows : Prop :=
  (∀ (s : State) (dt : Nat) (acc : Access) (n : Nat) (val : Word), n < 24 → Admitted s acc (Reg.LSW_CTRL n) .op → fget Fld.LSW_CTRL_CLEAR val = 0 →
    fget Fld.LSW_CTRL_ON val = 1 → fget Fld.LSW_CTRL_OFF val = 0 →
    s.fld (Reg.LSW_CFG n) Fld.LSW_CFG_CONTROLLER = 1 → (s.fogPad && s.fogMap n) = false →
    Does (.lswOn dt acc n val) s fun t => t = (s.tick dt).setLsw n { s.lswCh n with req := some true })
  ∧ (∀ (s : State) (dt : Nat) (acc : Access) (n : Nat) (val : Word), n < 24 → Admitted s acc (Reg.LSW_CTRL n) .op → fget Fld.LSW_CTRL_CLEAR val = 0 →
    fget Fld.LSW_CTRL_ON val ≠ fget Fld.LSW_CTRL_OFF val → s.fld (Reg.LSW_CFG n) Fld.LSW_CFG_CONTROLLER ≠ 1 →
    Does (.lswOn dt acc n val) s fun t =>
      Posted Ev.DENIED (accArg acc (Reg.LSW_CTRL n)) (s.tick dt) t ∧ t = { s.tick dt with ev := t.ev })
  ∧ (∀ (s : State) (dt : Nat) (acc : Access) (n : Nat) (val : Word), n < 24 → Admitted s acc (Reg.LSW_CTRL n) .op → fget Fld.LSW_CTRL_CLEAR val = 0 →
    fget Fld.LSW_CTRL_ON val = 0 → fget Fld.LSW_CTRL_OFF val = 1 →
    s.fld (Reg.LSW_CFG n) Fld.LSW_CFG_CONTROLLER = 1 → (s.fogPad && s.fogMap n) = false →
    Does (.lswOff dt acc n val) s fun t => t = (s.tick dt).setLsw n { s.lswCh n with req := some false })
  ∧ (∀ (s : State) (dt : Nat) (acc : Access) (n : Nat) (val : Word), n < 24 → Admitted s acc (Reg.LSW_CTRL n) .op → fget Fld.LSW_CTRL_CLEAR val = 0 →
    fget Fld.LSW_CTRL_ON val ≠ fget Fld.LSW_CTRL_OFF val → s.fld (Reg.LSW_CFG n) Fld.LSW_CFG_CONTROLLER ≠ 1 →
    Does (.lswOff dt acc n val) s fun t =>
      Posted Ev.DENIED (accArg acc (Reg.LSW_CTRL n)) (s.tick dt) t ∧ t = { s.tick dt with ev := t.ev })
  ∧ (∀ (s : State) (dt : Nat) (acc : Access) (n : Nat) (val : Word), n < 24 → Admitted s acc (Reg.LSW_CTRL n) .op → fget Fld.LSW_CTRL_CLEAR val = 1 →
    fget Fld.LSW_CTRL_ON val = 0 → fget Fld.LSW_CTRL_OFF val = 0 → s.lswState n = 4 →
    Does (.lswClear dt acc n val) s fun t =>
      t.lswState n = 0 ∧ Silent s t ∧ (∀ k < 24, k ≠ n → t.lswCh k = s.lswCh k) ∧ RegsBut [Reg.LSW_CH_STAT n] s t ∧ t = { s.tick dt with regs := t.regs, lsw := t.lsw })
  ∧ (∀ (s : State) (dt : Nat) (acc : Access) (n : Nat) (val : Word), n < 24 → Admitted s acc (Reg.LSW_CTRL n) .op → fget Fld.LSW_CTRL_CLEAR val = 1 →
    fget Fld.LSW_CTRL_ON val = 0 → fget Fld.LSW_CTRL_OFF val = 0 → s.lswState n ≠ 4 →
    Does (.lswClear dt acc n val) s fun t =>
      Posted Ev.LSW_CMD_REFUSED (evArg n 0 0) (s.tick dt) t ∧ t = { s.tick dt with ev := t.ev })
  ∧ (∀ (s : State) (dt n : Nat), n < 24 → s.lswState n = 1 → (s.lswCh n).tregAt = none →
    Config.msec (s.fld (Reg.LSW_TIME n) Fld.LSW_TIME_T_INR) ≤ (s.lswCh n).run + (s.tick dt).since (s.lswCh n).runAt →
    Does (.inrushEnd dt n) s fun t =>
      t.lswState n = 2 ∧ (t.lswCh n).since = t.tm.mono ∧ Silent s t ∧ (∀ k < 24, k ≠ n → t.lswCh k = s.lswCh k) ∧ RegsBut [Reg.LSW_CH_STAT n] s t
      ∧ t = { s.tick dt with regs := t.regs, lsw := t.lsw })
  ∧ (∀ (s : State) (dt n : Nat), n < 24 → s.lswOnNow n = true → (s.lswCh n).tregAt = none →
    Does (.thermalRegulation dt n) s fun t =>
      t.ls n Fld.LSW_CH_STAT_TREG = 1 ∧ t.lswState n = s.lswState n ∧ (t.lswCh n).tregAt = some t.tm.mono
      ∧ (t.lswCh n).run = (s.lswCh n).run + (if s.lswState n = 1 then (s.tick dt).since (s.lswCh n).runAt else 0)
      ∧ Silent s t ∧ (∀ k < 24, k ≠ n → t.lswCh k = s.lswCh k) ∧ RegsBut [Reg.LSW_CH_STAT n] s t ∧ t = { s.tick dt with regs := t.regs, lsw := t.lsw })
  ∧ (∀ (s : State) (dt n : Nat) (r : Count), n < 24 → (s.lswCh n).tregAt = some r →
    Does (.thermalRegulationEnd dt n) s fun t =>
      t.ls n Fld.LSW_CH_STAT_TREG = 0 ∧ t.lswState n = s.lswState n
      ∧ t.lswCh n = { s.lswCh n with pause := (s.lswCh n).pause + (s.tick dt).since r, runAt := t.tm.mono, tregAt := none }
      ∧ Silent s t ∧ (∀ k < 24, k ≠ n → t.lswCh k = s.lswCh k) ∧ RegsBut [Reg.LSW_CH_STAT n] s t ∧ t = { s.tick dt with regs := t.regs, lsw := t.lsw })
  ∧ (∀ (s : State) (dt n : Nat) (cool : Bool), n < 24 → s.lswState n = 3 → s.ls n Fld.LSW_CH_STAT_CMD = 1 → s.ls n Fld.LSW_CH_STAT_CLAMP_LOCK = 0 →
    (cool = false → s.ls n Fld.LSW_CH_STAT_CAUSE ≠ 3) →
    Config.msec (100 * s.fld (Reg.LSW_TIME n) Fld.LSW_TIME_RETRY_DLY) ≤ (s.tick dt).since (s.lswCh n).since →
    Does (.retryDelayExpiry dt n cool) s fun t =>
      t.lswState n = 1 ∧ t.ls n Fld.LSW_CH_STAT_RETRIES = min 7 (s.ls n Fld.LSW_CH_STAT_RETRIES + 1) ∧ (t.lswCh n).run = 0
      ∧ Silent s t ∧ (∀ k < 24, k ≠ n → t.lswCh k = s.lswCh k) ∧ RegsBut [Reg.LSW_CH_STAT n] s t ∧ t = { s.tick dt with regs := t.regs, lsw := t.lsw })
  ∧ (∀ (s : State) (dt n : Nat), n < 24 → s.lswState n = 2 → Config.sec 60 ≤ (s.tick dt).since (s.lswCh n).since →
    Does (.retryCountReset dt n) s fun t =>
      t.ls n Fld.LSW_CH_STAT_RETRIES = 0 ∧ t.lswState n = 2 ∧ Silent s t ∧ RegsBut [Reg.LSW_CH_STAT n] s t ∧ t = { s.tick dt with regs := t.regs })
  ∧ (∀ (s : State) (dt n : Nat), n < 24 → s.lswBudget n ≤ (s.tick dt).lswBucket n →
    s.ls n Fld.LSW_CH_STAT_CLAMP_LOCK = 0 ∨ s.ls n Fld.LSW_CH_STAT_CMD = 1 ∧ s.lswState n ≠ 0 →
    Does (.clampBucketRefilled dt n) s fun t =>
      t.ls n Fld.LSW_CH_STAT_CLAMP_LOCK = 0 ∧ t.lswState n = s.lswState n ∧ Silent s t ∧ RegsBut [Reg.LSW_CH_STAT n] s t
      ∧ t = { s.tick dt with regs := t.regs })
  ∧ (∀ (s : State) (dt n : Nat), n < 24 → s.lswBudget n ≤ (s.tick dt).lswBucket n → s.ls n Fld.LSW_CH_STAT_CLAMP_LOCK = 1 →
    s.ls n Fld.LSW_CH_STAT_CMD = 1 → s.lswState n = 0 → s.railUv (railOf n) = false → (s.lswCh n).shortNext = false →
    Does (.clampBucketRefilled dt n) s fun t =>
      t.ls n Fld.LSW_CH_STAT_CLAMP_LOCK = 0 ∧ t.lswState n = 1 ∧ RegsBut [Reg.LSW_CH_STAT n, Reg.LSW_CNT n] s t
      ∧ t = { s.tick dt with regs := t.regs, lsw := t.lsw, recent := t.recent })

/-- The open-load tests set their flags with their events. The sense selection and LSW_CLR have their writes' effects. FOG_EN takes the
Fog-map channels under their sources and gives them back with their present state as command; a FOGIN pad switches its channels.
Nothing else changes. -/
def Obligations.SwitchTestAndFogRows : Prop :=
  (∀ (s : State) (dt n : Nat) (bare sourced : Bool), n < 24 → s.lswState n = 0 → s.fld (Reg.LSW_CFG n) Fld.LSW_CFG_OL_TEST = 1 →
    (s.lswCh n).testAt = none → s.ls n Fld.LSW_CH_STAT_SHORT_VAUX = 0 → s.ls n Fld.LSW_CH_STAT_OPEN_OFF = 0 →
    Does (.offStateTest dt n bare sourced) s fun t =>
      t.ls n Fld.LSW_CH_STAT_SHORT_VAUX = flag bare ∧ t.ls n Fld.LSW_CH_STAT_OPEN_OFF = flag (!bare && sourced)
      ∧ (bare = true → Posted Ev.LSW_SHORT_VAUX (evArg n 0 0) (s.tick dt) t)
      ∧ (bare = false → sourced = true → Posted Ev.LSW_OPEN_OFF (evArg n 0 0) (s.tick dt) t)
      ∧ t.lswState n = 0 ∧ RegsBut [Reg.LSW_CH_STAT n] s t ∧ t = { s.tick dt with regs := t.regs, ev := t.ev, lsw := t.lsw })
  ∧ (∀ (s : State) (dt n : Nat) (r : Count), n < 24 → s.lswState n = 2 → (s.lswCh n).lowAt = some r → Config.sec 1 ≤ (s.tick dt).since r →
    s.ls n Fld.LSW_CH_STAT_OPEN_ON = 0 →
    Does (.openOnDetect dt n true) s fun t =>
      t.ls n Fld.LSW_CH_STAT_OPEN_ON = 1 ∧ t.lswState n = 2 ∧ Posted Ev.LSW_OPEN_ON (evArg n 0 0) (s.tick dt) t
      ∧ RegsBut [Reg.LSW_CH_STAT n] s t ∧ t = { s.tick dt with regs := t.regs, ev := t.ev, lsw := t.lsw })
  ∧ (∀ (s : State) (dt n : Nat), n < 24 → s.lswState n = 2 →
    Does (.openOnDetect dt n false) s fun t =>
      t.ls n Fld.LSW_CH_STAT_OPEN_ON = 0 ∧ (t.lswCh n).lowAt = none ∧ Silent s t ∧ RegsBut [Reg.LSW_CH_STAT n] s t)
  ∧ (∀ (s : State) (dt : Nat) (acc : Access) (val : Word), Admitted s acc Reg.LSW_SNS_SEL .op → s.openOf acc = none →
    Does (.lswSnsSel dt acc val) s fun t =>
      t.rd Reg.LSW_SNS_SEL = val &&& 0x777 ∧ RegsBut [Reg.LSW_SNS_SEL] s t
      ∧ t = { s.tick dt with regs := t.regs, tm := { (s.tick dt).tm with accepted := t.tm.accepted } })
  ∧ (∀ (s : State) (dt : Nat) (acc : Access) (val : Word), Admitted s acc Reg.LSW_CLR .op → val.getLsbD 0 = true →
    Does (.lswClr dt acc val) s fun t =>
      (∀ n < 24, t.rd (Reg.LSW_CNT n) = (s.tick dt).counted (Reg.LSW_CNT n)) ∧ RegsBut ((List.range 24).map Reg.LSW_CNT) s t
      ∧ t = { s.tick dt with regs := t.regs })
  ∧ (∀ (s : State) (dt : Nat) (energy : SMap Nat), s.fogPad = false → s.fogLive = true → s.lsw.fog = 0 → s.wakeOpen .fog 0 = false →
    Does (.fogEnChange dt true energy) s fun t =>
      t.fogPad = true
      ∧ (∀ n < 24, s.fogMap n = true → t.ls n Fld.LSW_CH_STAT_FOG = 1 ∧ t.ls n Fld.LSW_CH_STAT_CMD = flag (s.fogSource n)
          ∧ Told Ev.LSW_FOG_ENTRY (evArg n 4 0) t ∧ (s.fogSource n = false → t.lswOnNow n = false)
          ∧ (s.fogSource n = true → s.lswState n = 0 → s.ls n Fld.LSW_CH_STAT_CLAMP_LOCK = 0 → s.railUv (railOf n) = false →
              (s.lswCh n).shortNext = false → t.lswState n = 1))
      ∧ (∀ n < 24, s.fogMap n = false → t.rd (Reg.LSW_CH_STAT n) = s.rd (Reg.LSW_CH_STAT n) ∧ t.lswCh n = s.lswCh n)
      ∧ RegsBut (Reg.LSW_FOGIN :: Reg.LSW_STAT :: (List.range 24).flatMap fun n => [Reg.LSW_CH_STAT n, Reg.LSW_CNT n, Reg.LSW_CLAMP n]) s t
      ∧ t = { s.tick dt with regs := t.regs, ev := t.ev, lsw := t.lsw, recent := t.recent })
  ∧ (∀ (s : State) (dt : Nat) (energy : SMap Nat), s.fogPad = true → s.fogLive = true → s.lsw.fog = 0 →
    Does (.fogEnChange dt false energy) s fun t =>
      t.fogPad = false
      ∧ (∀ n < 24, s.fogMap n = true → t.ls n Fld.LSW_CH_STAT_FOG = 0 ∧ t.lswState n = s.lswState n
          ∧ t.ls n Fld.LSW_CH_STAT_CMD = flag (s.lswState n != 0 && s.lswState n != 4) ∧ Told Ev.LSW_FOG_EXIT (evArg n 4 0) t)
      ∧ (∀ n < 24, s.fogMap n = false → t.rd (Reg.LSW_CH_STAT n) = s.rd (Reg.LSW_CH_STAT n) ∧ t.lswCh n = s.lswCh n)
      ∧ RegsBut (Reg.LSW_FOGIN :: Reg.LSW_STAT :: (List.range 24).map Reg.LSW_CH_STAT) s t
      ∧ t = { s.tick dt with regs := t.regs, ev := t.ev, lsw := t.lsw })
  ∧ (∀ (s : State) (dt : Nat) (energy : SMap Nat), s.fogPad = true → s.fogLive = false →
    Does (.fogEnChange dt false energy) s fun t => t = (s.tick dt).setF Reg.LSW_FOGIN Fld.LSW_FOGIN_FOG_EN 0)
  ∧ (∀ (s : State) (dt k : Nat) (active : Bool) (energy : SMap Nat) (n : Nat), k < 8 → n < 24 → s.underFog n = true → s.fogMap n = true →
    s.fld (Reg.LSW_CFG n) Fld.LSW_CFG_FOG_SRC = k → s.lswState n ≠ 4 →
    Does (.foginChange dt k active energy) s fun t =>
      t.fld Reg.LSW_FOGIN Fld.LSW_FOGIN_LEVEL = withBit (s.fld Reg.LSW_FOGIN Fld.LSW_FOGIN_LEVEL) k active
      ∧ t.ls n Fld.LSW_CH_STAT_FOG = 1 ∧ t.ls n Fld.LSW_CH_STAT_CMD = flag active ∧ (active = false → t.lswOnNow n = false)
      ∧ (active = true → s.lswState n = 0 → s.ls n Fld.LSW_CH_STAT_CLAMP_LOCK = 0 → s.railUv (railOf n) = false →
          (s.lswCh n).shortNext = false → t.lswState n = 1)
      ∧ RegsBut (Reg.LSW_FOGIN :: (List.range 24).flatMap fun n => [Reg.LSW_CH_STAT n, Reg.LSW_CNT n, Reg.LSW_CLAMP n]) s t
      ∧ t = { s.tick dt with regs := t.regs, ev := t.ev, lsw := t.lsw, recent := t.recent })

/-- A short latches its channel at once with cause SHORT; an overload and a thermal shutdown take it to RETRY_WAIT while retries are left
and latch it otherwise; each is counted and told, the clamp energy leaves the channel's bucket and LAST shows it. A short in the FCLK
period of a turn-off by command latches at the next turn-on. A rail that falls or reverses takes its running channels to UV_OFF, sets
its flags and tells; restored, they start again where commanded. Above the package limits one channel is shed and latched. The other
channels stay. -/
def Obligations.SwitchFaultRows : Prop :=
  (∀ (s : State) (dt n e : Nat), n < 24 → s.lswOnNow n = true →
    Does (.thermalShutdown dt n e) s fun t =>
      t.lswState n = (if s.ls n Fld.LSW_CH_STAT_RETRIES < s.fld (Reg.LSW_CFG n) Fld.LSW_CFG_RETRY_MAX then 3 else 4) ∧ t.ls n Fld.LSW_CH_STAT_CAUSE = 3 ∧ t.ls n Fld.LSW_CH_STAT_TREG = 0
      ∧ t.fld (Reg.LSW_CNT n) Fld.LSW_CNT_THERMALS = min (s.fld (Reg.LSW_CNT n) Fld.LSW_CNT_THERMALS + 1) 255
      ∧ t.fld (Reg.LSW_CLAMP n) Fld.LSW_CLAMP_LAST = min e 0xFFFF ∧ Told Ev.LSW_THERMAL (evArg n 0 0) t
      ∧ (t.lswCh n).bucket = max (-(s.lswBudget n)) ((s.tick dt).lswBucket n - 1000 * (e : Int))
      ∧ (∀ k < 24, k ≠ n → t.lswCh k = s.lswCh k) ∧ RegsBut [Reg.LSW_CH_STAT n, Reg.LSW_CNT n, Reg.LSW_CLAMP n] s t ∧ t = { s.tick dt with regs := t.regs, ev := t.ev, lsw := t.lsw, recent := t.recent })
  ∧ (∀ (s : State) (dt n e : Nat), n < 24 → s.lswOnNow n = true →
    Does (.shortDetected dt n e) s fun t =>
      t.lswState n = 4 ∧ t.ls n Fld.LSW_CH_STAT_CAUSE = 1 ∧ t.ls n Fld.LSW_CH_STAT_TREG = 0
      ∧ t.fld (Reg.LSW_CNT n) Fld.LSW_CNT_SHORTS = min (s.fld (Reg.LSW_CNT n) Fld.LSW_CNT_SHORTS + 1) 255
      ∧ t.fld (Reg.LSW_CLAMP n) Fld.LSW_CLAMP_LAST = min e 0xFFFF ∧ Told Ev.LSW_SHORT (evArg n 0 0) t
      ∧ (t.lswCh n).bucket = max (-(s.lswBudget n)) ((s.tick dt).lswBucket n - 1000 * (e : Int))
      ∧ (∀ k < 24, k ≠ n → t.lswCh k = s.lswCh k) ∧ RegsBut [Reg.LSW_CH_STAT n, Reg.LSW_CNT n, Reg.LSW_CLAMP n] s t ∧ t = { s.tick dt with regs := t.regs, ev := t.ev, lsw := t.lsw, recent := t.recent })
  ∧ (∀ (s : State) (dt n e : Nat), n < 24 → s.lswState n = 2 → Config.usec (100 * s.fld (Reg.LSW_TIME n) Fld.LSW_TIME_T_OC) ≤ (s.tick dt).since (s.lswCh n).since →
    Does (.overloadTimeout dt n e) s fun t =>
      t.lswState n = (if s.ls n Fld.LSW_CH_STAT_RETRIES < s.fld (Reg.LSW_CFG n) Fld.LSW_CFG_RETRY_MAX then 3 else 4) ∧ t.ls n Fld.LSW_CH_STAT_CAUSE = 2 ∧ t.ls n Fld.LSW_CH_STAT_TREG = 0
      ∧ t.fld (Reg.LSW_CNT n) Fld.LSW_CNT_OVERLOADS = min (s.fld (Reg.LSW_CNT n) Fld.LSW_CNT_OVERLOADS + 1) 255
      ∧ t.fld (Reg.LSW_CLAMP n) Fld.LSW_CLAMP_LAST = min e 0xFFFF ∧ Told Ev.LSW_OVERLOAD (evArg n 0 0) t
      ∧ (t.lswCh n).bucket = max (-(s.lswBudget n)) ((s.tick dt).lswBucket n - 1000 * (e : Int))
      ∧ (∀ k < 24, k ≠ n → t.lswCh k = s.lswCh k) ∧ RegsBut [Reg.LSW_CH_STAT n, Reg.LSW_CNT n, Reg.LSW_CLAMP n] s t ∧ t = { s.tick dt with regs := t.regs, ev := t.ev, lsw := t.lsw, recent := t.recent })
  ∧ (∀ (s : State) (dt n e : Nat), n < 24 → s.lswState n = 0 → (s.lswCh n).clearAt ≠ some (s.tick dt).period → (s.lswCh n).offAt = some (s.tick dt).period →
    Does (.shortDetected dt n e) s fun t =>
      t.lswState n = 0 ∧ t.lswCh n = { s.lswCh n with shortNext := true } ∧ Posted Ev.LSW_SHORT (evArg n 0 0) (s.tick dt) t
      ∧ RegsBut [Reg.LSW_CNT n] s t ∧ t = { s.tick dt with regs := t.regs, ev := t.ev, lsw := t.lsw, recent := t.recent })
  ∧ (∀ (s : State) (dt rail : Nat) (energy : SMap Nat), rail < 2 → s.railUv rail = false →
    Does (.railUndervoltage dt rail energy) s fun t =>
      t.railUv rail = true ∧ Told Ev.LSW_UV (evArg (rail + 1) 0 0) t
      ∧ (∀ n < 24, railOf n = rail → 1 ≤ s.lswState n → s.lswState n ≤ 3 → t.lswState n = 5 ∧ t.ls n Fld.LSW_CH_STAT_UV = 1
          ∧ t.ls n Fld.LSW_CH_STAT_CMD = s.ls n Fld.LSW_CH_STAT_CMD)
      ∧ (∀ n < 24, (railOf n = rail → s.lswState n = 0 ∨ 4 ≤ s.lswState n) → t.rd (Reg.LSW_CH_STAT n) = s.rd (Reg.LSW_CH_STAT n) ∧ t.lswCh n = s.lswCh n)
      ∧ RegsBut (Reg.LSW_STAT :: (railChans rail).flatMap fun n => [Reg.LSW_CH_STAT n, Reg.LSW_CNT n, Reg.LSW_CLAMP n]) s t ∧ t = { s.tick dt with regs := t.regs, ev := t.ev, lsw := t.lsw, recent := t.recent })
  ∧ (∀ (s : State) (dt rail : Nat) (energy : SMap Nat), rail < 2 → s.railUv rail = false → s.fld Reg.LSW_STAT (revField rail) = 0 →
    Does (.railReversed dt rail true energy) s fun t =>
      t.railUv rail = true ∧ Told Ev.LSW_UV (evArg (rail + 1) 0 0) t ∧ t.fld Reg.LSW_STAT (revField rail) = 1
      ∧ Told Ev.LSW_VAUX_REV (evArg (rail + 1) 0 0) t
      ∧ (∀ n < 24, railOf n = rail → 1 ≤ s.lswState n → s.lswState n ≤ 3 → t.lswState n = 5 ∧ t.ls n Fld.LSW_CH_STAT_UV = 1
          ∧ t.ls n Fld.LSW_CH_STAT_CMD = s.ls n Fld.LSW_CH_STAT_CMD)
      ∧ (∀ n < 24, (railOf n = rail → s.lswState n = 0 ∨ 4 ≤ s.lswState n) → t.rd (Reg.LSW_CH_STAT n) = s.rd (Reg.LSW_CH_STAT n) ∧ t.lswCh n = s.lswCh n)
      ∧ RegsBut (Reg.LSW_STAT :: (railChans rail).flatMap fun n => [Reg.LSW_CH_STAT n, Reg.LSW_CNT n, Reg.LSW_CLAMP n]) s t ∧ t = { s.tick dt with regs := t.regs, ev := t.ev, lsw := t.lsw, recent := t.recent })
  ∧ (∀ (s : State) (dt rail : Nat) (energy : SMap Nat), rail < 2 →
    Does (.railReversed dt rail false energy) s fun t => t = (s.tick dt).setF Reg.LSW_STAT (revField rail) 0)
  ∧ (∀ (s : State) (dt rail : Nat), rail < 2 → s.fld Reg.LSW_STAT (revField rail) = 0 →
    Does (.railRestored dt rail) s fun t =>
      t.railUv rail = false
      ∧ (∀ n < 24, railOf n = rail → s.lswState n = 5 → t.lswState n = s.ls n Fld.LSW_CH_STAT_CMD ∧ t.ls n Fld.LSW_CH_STAT_UV = 0)
      ∧ (∀ n < 24, (railOf n = rail → s.lswState n ≠ 5) → t.rd (Reg.LSW_CH_STAT n) = s.rd (Reg.LSW_CH_STAT n) ∧ t.lswCh n = s.lswCh n)
      ∧ Silent s t ∧ RegsBut (Reg.LSW_STAT :: (railChans rail).map Reg.LSW_CH_STAT) s t ∧ t = { s.tick dt with regs := t.regs, lsw := t.lsw })
  ∧ (∀ (s : State) (dt iSum pSw e n : Nat), 800 < iSum → s.lsw.shedAt = none → s.shedPick = some n → n < 24 →
    Does (.packageShed dt iSum pSw e) s fun t =>
      t.lswState n = 4 ∧ t.ls n Fld.LSW_CH_STAT_CAUSE = 4 ∧ Told Ev.LSW_PKG_SHED (evArg n 0 0) t ∧ t.lsw.shedAt = some t.tm.mono
      ∧ t.fld Reg.LSW_STAT Fld.LSW_STAT_SHEDDING = 1 ∧ t.fld Reg.LSW_PKG Fld.LSW_PKG_I_SUM = min iSum 0xFFFF
      ∧ (∀ k < 24, k ≠ n → t.lswCh k = s.lswCh k) ∧ RegsBut (Reg.LSW_PKG :: Reg.LSW_STAT :: [Reg.LSW_CH_STAT n, Reg.LSW_CNT n, Reg.LSW_CLAMP n]) s t ∧ t = { s.tick dt with regs := t.regs, ev := t.ev, lsw := t.lsw, recent := t.recent })
  ∧ (∀ (s : State) (dt iSum pSw e : Nat), iSum < 760 → pSw < 950 →
    Does (.packageShed dt iSum pSw e) s fun t =>
      t.fld Reg.LSW_STAT Fld.LSW_STAT_SHEDDING = 0 ∧ RegsBut [Reg.LSW_PKG, Reg.LSW_STAT] s t ∧ t = { s.tick dt with regs := t.regs })

/-- Corrected errors are counted by side and memory; an uncorrectable one is counted with its address, marks the side's HEALTH and, where
the Guard die acts, fails a STANDBY side. A Guard record with one bad copy is repaired and told; with both lost the module enters
SAFE_HOLD. A metrology die that runs restores a failed copy from the other and logs it. A wipe command records cause, count and time, drops the secret objects and every connection. WIPE_CFG only sets bits from
FIELD on. ARM holds a target for 1 s; COMMIT of it where the table allows accepts the transition; its completion moves the life cycle
and resets the module with kind LIFECYCLE, erasing the MRAM for BLANK and SCRAPPED. -/
def Obligations.MemoryRows : Prop :=
  (∀ (s : State) (dt : Nat) (x : Side) (n : Nat), s.runningSides.contains x = true →
    Does (.patrolScrub dt x n) s fun t =>
      t.fld (sideReg x (Reg.MEM_ECC 1)) Fld.MEM_ECC_CORR = min (s.fld (sideReg x (Reg.MEM_ECC 1)) Fld.MEM_ECC_CORR + n) 0xFFFF
      ∧ RegsBut [sideReg x (Reg.MEM_ECC 1)] s t ∧ t = { s.tick dt with regs := t.regs, recent := t.recent })
  ∧ (∀ (s : State) (dt : Nat) (x : Side) (k : Nat) (addr : Word), k < 3 →
    Does (.memEccError dt (.side x k addr) true) s fun t =>
      t.fld (sideReg x (Reg.MEM_ECC k)) Fld.MEM_ECC_CORR = min (s.fld (sideReg x (Reg.MEM_ECC k)) Fld.MEM_ECC_CORR + 1) 0xFFFF
      ∧ RegsBut [sideReg x (Reg.MEM_ECC k)] s t ∧ t = { s.tick dt with regs := t.regs, recent := t.recent })
  ∧ (∀ (s : State) (dt : Nat) (x : Side) (k : Nat) (addr : Word), k < 3 → s.guardActs = true → (s.side x).state = .standby →
    Does (.memEccError dt (.side x k addr) false) s fun t =>
      t.fld (sideReg x (Reg.MEM_ECC k)) Fld.MEM_ECC_UNCORR = min (s.fld (sideReg x (Reg.MEM_ECC k)) Fld.MEM_ECC_UNCORR + 1) 0xFFFF
      ∧ t.rd (sideReg x Reg.MEM_ECC_ADDR) = addr ∧ (t.side x).state = .failed ∧ t.side x.other = s.side x.other
      ∧ Told Ev.STANDBY_LOST (evArg x.code 0 0) t)
  ∧ (∀ (s : State) (dt : Nat) (x : Side) (k : Nat) (addr : Word), k < 3 → s.guardActs = false →
    Does (.memEccError dt (.side x k addr) false) s fun t =>
      t.rd (sideReg x Reg.MEM_ECC_ADDR) = addr ∧ t.side x = { s.side x with flags := withBit (s.side x).flags 0 true }
      ∧ t.side x.other = s.side x.other ∧ RegsBut [sideReg x (Reg.MEM_ECC k), sideReg x Reg.MEM_ECC_ADDR] s t
      ∧ t = { s.tick dt with regs := t.regs, recent := t.recent, keep := t.keep })
  ∧ (∀ (s : State) (dt record : Nat), record < 3 →
    Does (.memEccError dt (.guard record false) false) s fun t =>
      Posted Ev.MEM_GUARD_REPAIR (evArg 0xFFF record 0) (s.tick dt) t ∧ t = { s.tick dt with ev := t.ev })
  ∧ (∀ (s : State) (dt record : Nat), record < 3 →
    Does (.memEccError dt (.guard record true) false) s fun t =>
      Told Ev.MEM_GUARD_LOST (evArg 0xFFF record 0) t ∧ t.mode = 1 ∧ t.img.running = none ∧ t.rd Reg.IMG_RUN_VER = 0)
  ∧ (∀ (s : State) (dt : Nat) (ws : List (Nat × Word)), s.metr.on = true → s.bill.saved2Ok = true →
    Does (.memEccError dt (.die (some ws) none) false) s fun t =>
      t.bill.saved = s.bill.saved2 ∧ t.bill.savedOk = true ∧ t.bill.saved2 = s.bill.saved2 ∧ t.bill.regError = s.bill.regError ∧ Tampered 20 s t
      ∧ DieRegsBut (tamperRegs 20) s t ∧ RegsBut [] s t ∧ t = { s.tick dt with metr := t.metr, bill := t.bill })
  ∧ (∀ (s : State) (dt : Nat) (a b : Option (List (Nat × Word))), s.metr.on = false →
    Does (.memEccError dt (.die a b) false) s fun t =>
      t.bill.savedOk = (s.bill.savedOk && a.isNone) ∧ t.bill.saved2Ok = (s.bill.saved2Ok && b.isNone) ∧ t.bill.mem = s.bill.mem
      ∧ t = { s.tick dt with bill := t.bill })
  ∧ (∀ (s : State) (dt : Nat) (acc : Access) (val : Word), Admitted s acc Reg.MEM_CTRL .svc → fget Fld.MEM_CTRL_WIPE val = 1 →
    s.runningSides ≠ [] →
    Does (.memWipeCmd dt acc val) s fun t =>
      t.fld Reg.MEM_SEC Fld.MEM_SEC_CAUSE = 6 ∧ t.fld Reg.MEM_SEC Fld.MEM_SEC_WIPES = min (s.fld Reg.MEM_SEC Fld.MEM_SEC_WIPES + 1) 0xFFFF
      ∧ t.rd Reg.MEM_SEC_TS_HI ++ t.rd Reg.MEM_SEC_TS_LO = (s.tick dt).tm.ts ∧ t.fld Reg.MEM_STAT Fld.MEM_STAT_WIPED = 1
      ∧ t.host.objects = s.host.objects.filter (fun e => !secretOid e.1) ∧ t.host.conns = [] ∧ t.mem.armed = s.mem.armed
      ∧ Told Ev.MEM_WIPE (evArg 0xFFF 6 0) t ∧ t = { s.tick dt with
            regs := t.regs, ev := t.ev, ctx := t.ctx, keep := t.keep, host := t.host, outs := t.outs
            outl := t.outl, mem := t.mem, recent := t.recent })
  ∧ (∀ (s : State) (dt : Nat) (acc : Access) (val : Word), Admitted s acc Reg.MEM_WIPE_CFG .svc → s.openOf acc = none →
    (2 ≤ s.lifeCycle → val &&& 15 &&& s.rd Reg.MEM_WIPE_CFG = s.rd Reg.MEM_WIPE_CFG) →
    Does (.wipeCfgWrite dt acc val) s fun t =>
      t.rd Reg.MEM_WIPE_CFG = val &&& 15 ∧ RegsBut [Reg.MEM_WIPE_CFG] s t
      ∧ t = { s.tick dt with regs := t.regs, tm := { (s.tick dt).tm with accepted := t.tm.accepted } })
  ∧ (∀ (s : State) (dt : Nat) (acc : Access) (val : Word), Admitted s acc Reg.MEM_WIPE_CFG .svc → s.openOf acc = none → 2 ≤ s.lifeCycle →
    val &&& 15 &&& s.rd Reg.MEM_WIPE_CFG ≠ s.rd Reg.MEM_WIPE_CFG →
    Does (.wipeCfgWrite dt acc val) s fun t =>
      Posted Ev.PARAM_REJECT (accArg acc Reg.MEM_WIPE_CFG) (s.tick dt) t ∧ RegsBut [] s t ∧ t = { s.tick dt with ev := t.ev })
  ∧ (∀ (s : State) (dt : Nat) (acc : Access) (val : Word), Admitted s acc Reg.MEM_LC_CTRL .svc → fget Fld.MEM_LC_CTRL_KEY val = 0x4C43 →
    fget Fld.MEM_LC_CTRL_STEP val = 0 →
    Does (.lcArm dt acc val) s fun t =>
      t.mem = { s.mem with armed := some (fget Fld.MEM_LC_CTRL_TARGET val, (s.tick dt).tm.mono) } ∧ Silent s t
      ∧ RegsBut [Reg.IMG_STAT] s t ∧ t = { s.tick dt with regs := t.regs, mem := t.mem })
  ∧ (∀ (s : State) (dt : Nat) (acc : Access) (val : Word) (target : Nat) (at0 : Count), Admitted s acc Reg.MEM_LC_CTRL .svc →
    fget Fld.MEM_LC_CTRL_KEY val = 0x4F4B → fget Fld.MEM_LC_CTRL_STEP val = 1 → fget Fld.MEM_LC_CTRL_TARGET val = target →
    s.mem.armed = some (target, at0) → (s.tick dt).since at0 ≤ Config.sec 1 → s.lcAllowed target = true → s.mem.lcTo = none →
    Does (.lcCommit dt acc val) s fun t =>
      t.mem = { s.mem with armed := none, lcTo := some target } ∧ Posted Ev.MEM_LC_CHANGE (evArg 0xFFF target 0) (s.tick dt) t
      ∧ RegsBut [Reg.IMG_STAT] s t ∧ t = { s.tick dt with regs := t.regs, ev := t.ev, mem := t.mem })
  ∧ (∀ (s : State) (dt : Nat) (acc : Access) (val : Word), Admitted s acc Reg.MEM_LC_CTRL .svc → fget Fld.MEM_LC_CTRL_STEP val = 1 → s.mem.armed = none →
    Does (.lcCommit dt acc val) s fun t =>
      t.mem = s.mem ∧ Posted Ev.MEM_LC_REFUSED (evArg 0xFFF (fget Fld.MEM_LC_CTRL_TARGET val) 0) (s.tick dt) t
      ∧ RegsBut [Reg.IMG_STAT] s t ∧ t = { s.tick dt with regs := t.regs, ev := t.ev })
  ∧ (∀ (s : State) (dt : Nat), s.mem.lcTo = some 2 →
    Does (.lcTransitionDone dt) s fun t =>
      t.lifeCycle = 2 ∧ t.fld Reg.MEM_STAT Fld.MEM_STAT_DEBUG_OPEN = 0 ∧ ResetDone 6 (s.tick dt) t)
  ∧ (∀ (s : State) (dt g : Nat), s.mem.lcTo = some g → (g = 0 ∨ g = 4) →
    Does (.lcTransitionDone dt) s fun t =>
      t.lifeCycle = g ∧ t.fld Reg.MEM_STAT Fld.MEM_STAT_DEBUG_OPEN = flag (g == 0) ∧ t.fld Reg.PWR_RST Fld.PWR_RST_TRIGGER = 6
      ∧ t.host.objects = [] ∧ t.ev.log = [] ∧ t.bytes = [] ∧ t.img.written = [] ∧ t.safe.commissioned = none
      ∧ t.mem.returns = s.mem.returns + (if s.lifeCycle = 3 ∧ g = 0 then 1 else 0))
  ∧ (∀ (s : State) (dt : Nat) (acc : Access), s.answers acc.path 0 = true → acc.path = .host → s.lifeCycle = 0 → s.mem.lcTo = none →
    Does (.provisioning dt acc) s fun t =>
      t.mem = { s.mem with armed := none, lcTo := some 1 } ∧ Posted Ev.MEM_LC_CHANGE (evArg 0xFFF 1 0) (s.tick dt) t
      ∧ t = { s.tick dt with ev := t.ev, mem := t.mem })
  ∧ (∀ (s : State) (dt : Nat) (acc : Access), s.answers acc.path 0 = true → s.lifeCycle ≠ 0 →
    Does (.provisioning dt acc) s fun t =>
      Posted Ev.MEM_LC_REFUSED (evArg 0xFFF 1 0) (s.tick dt) t ∧ t = { s.tick dt with ev := t.ev })
  ∧ (∀ (s : State) (dt : Nat) (acc : Access) (val : Word), Admitted s acc Reg.MEM_CLR .op → fget Fld.MEM_CLR_CLEAR val = 1 →
    Does (.memClr dt acc val) s fun t =>
      (∀ x ∈ [Side.a, Side.b], ∀ r ∈ [Reg.MEM_ECC 0, Reg.MEM_ECC 1, Reg.MEM_ECC 2, Reg.MEM_COLL], t.rd (sideReg x r) = (s.tick dt).counted (sideReg x r))
      ∧ RegsBut ([Side.a, Side.b].flatMap fun x => [Reg.MEM_ECC 0, Reg.MEM_ECC 1, Reg.MEM_ECC 2, Reg.MEM_COLL].map (sideReg x)) s t
      ∧ t = { s.tick dt with regs := t.regs })

/-- The input's loss and return set and clear IN_LOSS, are counted and told while the logic is awake; the always-on domain starts its RTC
at 0 and forgets it below 8 V. Charging from 0 V in 25 ms or less means a second try after 1 s. At V_START the module resets with kind
POWER_ON or BROWN_OUT; at V_PF it stops with everything but what R717 keeps at reset. -/
def Obligations.SupplyRows : Prop :=
  (∀ (s : State) (dt : Nat) (dc : Bool), s.sup.aux = false →
    Does (.auxInputApplied dt dc) s fun t =>
      t.sup = { s.sup with aux := true, ladderAt := if s.sup.phase = 0 then t.tm.life else s.sup.ladderAt }
      ∧ t.fld Reg.PWR_STAT Fld.PWR_STAT_INPUT_DC = flag dc ∧ RegsBut [Reg.PWR_STAT] s t ∧ t = { s.tick dt with regs := t.regs, sup := t.sup })
  ∧ (∀ (s : State) (dt : Nat), s.sup.onDomain = false →
    Does (.alwaysOnPowerUp dt) s fun t =>
      t.sup = { s.sup with onDomain := true } ∧ t.tm = { (s.tick dt).tm with rtc := 0, rtcTrimAt := t.tm.life, rtcKept := false }
      ∧ t = { s.tick dt with sup := t.sup, tm := t.tm })
  ∧ (∀ (s : State) (dt : Nat), s.sup.phase ≤ 1 →
    Does (.alwaysOnPowerLoss dt) s fun t =>
      t = { s.tick dt with sup := { s.sup with onDomain := false, lost := true }, tm := { (s.tick dt).tm with rtcKept := false } })
  ∧ (∀ (s : State) (dt tch : Nat), s.sup.aux = true → s.sup.phase = 0 →
    Does (.holdupChargeCheck dt tch) s fun t =>
      t.sup = (if tch ≤ Config.msec 25 then { s.sup with phase := 1, chargeAt := t.tm.life } else { s.sup with phase := 0, tch := tch }) ∧ t = { s.tick dt with sup := t.sup })
  ∧ (∀ (s : State) (dt tch : Nat), s.sup.phase = 1 → (s.tick dt).sinceLife s.sup.chargeAt < Config.sec 1 →
    Does (.holdupChargeCheck dt tch) s fun t => t = s.tick dt)
  ∧ (∀ (s : State) (dt : Nat), s.sup.phase = 0 → s.sup.aux = true → s.sup.onDomain = true →
    Does (.powerStart dt) s fun t =>
      ResetDone (if s.sup.lost then 1 else 2) (s.tick dt) t ∧ t.sup.phase = 3 ∧ t.sup.lost = false ∧ t.sup.ladderAt = s.sup.ladderAt)
  ∧ (∀ (s : State) (dt : Nat), s.sup.aux = true → s.awake = true →
    Does (.inputLoss dt) s fun t =>
      t.sup = { s.sup with aux := false } ∧ t.fld Reg.PWR_STAT Fld.PWR_STAT_IN_LOSS = 1
      ∧ t.fld Reg.PWR_CNT Fld.PWR_CNT_IN_LOSSES = min (s.fld Reg.PWR_CNT Fld.PWR_CNT_IN_LOSSES + 1) 255
      ∧ Posted Ev.PWR_IN_LOSS (evArg 0xFFF 0 0) (s.tick dt) t ∧ RegsBut [Reg.PWR_STAT, Reg.PWR_CNT] s t ∧ t = { s.tick dt with regs := t.regs, ev := t.ev, sup := t.sup, recent := t.recent })
  ∧ (∀ (s : State) (dt : Nat), s.sup.aux = false → s.awake = true →
    Does (.inputReturn dt) s fun t =>
      t.sup = { s.sup with aux := true } ∧ t.fld Reg.PWR_STAT Fld.PWR_STAT_IN_LOSS = 0
      ∧ Posted Ev.PWR_IN_BACK (evArg 0xFFF 0 0) (s.tick dt) t ∧ RegsBut [Reg.PWR_STAT] s t ∧ t = { s.tick dt with regs := t.regs, ev := t.ev, sup := t.sup })
  ∧ (∀ (s : State) (dt : Nat), s.sup.phase = 2 ∨ s.awake = true →
    Does (.holdupPowerFail dt) s fun t =>
      t.sup.phase = 0 ∧ t.sup.aux = false ∧ t.sup.lost = false ∧ t.fld Reg.PWR_STAT Fld.PWR_STAT_IN_LOSS = 0 ∧ RegsReset s t
      ∧ (s.running = true → t.rd Reg.PWR_RST_TS_HI ++ t.rd Reg.PWR_RST_TS_LO = (s.tick dt).tm.ts)
      ∧ t.mode = 0 ∧ t.queues = [] ∧ t.ev.posted = [] ∧ t.metr = s.metr ∧ t.tm.mono = 0)

/-- The Guard step releases both sides to BOOT under Fog mode with the RTC's time. A late start is told. MRST_N, PWR_RESET with its key at
rest and the automatic reset after GUARD_FAULT reset the module with their kinds. GUARD_FAULT switches off every load switch and
silences the rings. -/
def Obligations.StartAndResetRows : Prop :=
  (∀ (s : State) (dt hmode : Nat), s.sup.phase = 3 → s.keep.guardFault = false → s.power < 4 →
    Does (.guardStep dt hmode) s fun t =>
      t.sup.phase = 4 ∧ (t.side .a).state = .boot ∧ (t.side .b).state = .boot ∧ t.lsw.fog = 3
      ∧ t.fld Reg.HOST_CFG Fld.HOST_CFG_MODE = hmode % 4 ∧ t.rd Reg.PWR_START = 0xFFFF
      ∧ (s.tm.rtcKept = false → t.tm.ts = 0)
      ∧ (s.tm.rtcKept = true → t.tm.ts = s.tm.rtc + ((s.tick dt).tm.life - s.tm.rtcTrimAt) ∧ t.fld Reg.TIME_STAT Fld.TIME_STAT_VALID = 1) ∧ t = { s.tick dt with
            regs := t.regs, tm := t.tm, queues := t.queues, ev := t.ev, keep := t.keep, safe := t.safe
            acq := t.acq, lsw := t.lsw, sup := t.sup, recent := t.recent, free := t.free })
  ∧ (∀ (s : State) (dt : Nat), s.awake = true → s.sup.late = false → s.fld Reg.PWR_STAT Fld.PWR_STAT_RUN_READY = 0 →
    (s.tick dt).tStart ≤ (s.tick dt).sinceLife s.sup.ladderAt →
    Does (.startLate dt) s fun t =>
      t.sup = { s.sup with late := true } ∧ t.fld Reg.PWR_CNT Fld.PWR_CNT_LATE = min (s.fld Reg.PWR_CNT Fld.PWR_CNT_LATE + 1) 255
      ∧ Posted Ev.PWR_START_LATE (evArg 0xFFF 0 0) (s.tick dt) t ∧ RegsBut [Reg.PWR_CNT] s t ∧ t = { s.tick dt with regs := t.regs, ev := t.ev, sup := t.sup, recent := t.recent })
  ∧ (∀ (s : State) (dt held : Nat), s.awake = true → Config.usec 10 ≤ held →
    Does (.mrstAssert dt held) s fun t =>
      t.sup.phase = 2 ∧ RegsReset s t ∧ t.mode = 0 ∧ t.queues = [] ∧ t.ev.posted = [] ∧ t.metr = s.metr ∧ t.bill = s.bill)
  ∧ (∀ (s : State) (dt held : Nat), held < Config.usec 10 → Does (.mrstAssert dt held) s fun t => t = s.tick dt)
  ∧ (∀ (s : State) (dt : Nat), s.sup.phase = 2 → Does (.mrstRelease dt) s fun t => ResetDone 3 (s.tick dt) t ∧ t.sup.phase = 3)
  ∧ (∀ (s : State) (dt : Nat) (acc : Access) (val : Word), Admitted s acc Reg.PWR_RESET .svc → fget Fld.PWR_RESET_KEY val = 0x5E7A → s.atRest = true →
    Does (.pwrReset dt acc val) s fun t => ResetDone 4 (s.tick dt) t ∧ t.sup.phase = 3)
  ∧ (∀ (s : State) (dt : Nat) (acc : Access) (val : Word), Admitted s acc Reg.PWR_RESET .svc →
    (fget Fld.PWR_RESET_KEY val = 0x5E7A → s.atRest = false) →
    Does (.pwrReset dt acc val) s fun t =>
      Posted Ev.PWR_CMD_REFUSED (evArg 0xFFF 0 0) (s.tick dt) t ∧ RegsBut [Reg.IMG_STAT] s t ∧ t = { s.tick dt with regs := t.regs, ev := t.ev })
  ∧ (∀ (s : State) (dt : Nat), s.awake = true → s.keep.guardFault = false →
    Does (.guardFault dt) s fun t =>
      t.keep.guardFault = true ∧ t.keep.guardFaultAt = t.tm.life ∧ t.ring.ports = [] ∧ t.lsw.fog = 0
      ∧ t.mem.faults = s.mem.faults ++ [{ kind := 0, cause := 0, ts := (s.tick dt).tm.ts, mono := (s.tick dt).tm.mono }]
      ∧ (∀ n < 24, t.ls n Fld.LSW_CH_STAT_CMD = 0 ∧ t.lswOnNow n = false) ∧ t = { s.tick dt with
            regs := t.regs, ev := t.ev, keep := t.keep, edge := t.edge, ring := t.ring, sst := t.sst
            outl := t.outl, safe := t.safe, lsw := t.lsw, mem := t.mem, recent := t.recent, free := t.free })
  ∧ (∀ (s : State) (dt : Nat), s.keep.guardFault = true → s.awake = true → s.fld Reg.PWR_CFG Fld.PWR_CFG_GF_AUTO = 1 →
    Config.sec 10 ≤ (s.tick dt).sinceLife s.keep.guardFaultAt → s.sup.autoAt = none →
    Does (.guardAutoReset dt) s fun t => ResetDone 10 (s.tick dt) t ∧ t.sup.autoAt = some (s.tick dt).tm.life)

/-- At a boundary the power state moves up to the candidate at once, from WATCH as wake 0x8, and down after DWELL, counted and told; a move
to WATCH leaves no SCHED waiting at a ring port; a move to NIGHT or DARK closes every session, puts the site bus to sleep and takes both sides to OFF. A latency request expires. -/
def Obligations.PowerStateRows : Prop :=
  (∀ (s : State) (dt : Nat), s.running = true → s.sup.phase = 4 → s.keep.guardFault = false → (s.tick dt).atCycleStart = true →
    s.sup.cand < s.power → s.power ≠ 2 →
    Does (.powerStateAscent dt) s fun t =>
      t.power = s.sup.cand % 16 ∧ t.sup = { s.sup with candAt := none } ∧ Posted Ev.PWR_STATE (evArg 0xFFF 0 (s.power * 16 + s.sup.cand)) (s.tick dt) t
      ∧ RegsBut [Reg.PWR_STAT] s t ∧ t = { s.tick dt with regs := t.regs, ev := t.ev, sup := t.sup })
  ∧ (∀ (s : State) (dt : Nat), s.running = true → s.sup.phase = 4 → s.keep.guardFault = false → (s.tick dt).atCycleStart = true →
    s.sup.cand < s.power → s.power = 2 →
    Does (.powerStateAscent dt) s fun t =>
      t.power = s.sup.cand ∧ t.rd Reg.PWR_WAKE_STAT = 0x80000000 ∧ t.edge.pairs = []
      ∧ Told Ev.PWR_STATE (evArg 0xFFF 0 (32 + s.sup.cand)) t ∧ Told Ev.PWR_WAKE (evArg 0xFFF 0 0x80) t ∧ t = { s.tick dt with regs := t.regs, ev := t.ev, edge := t.edge, cool := t.cool, sup := t.sup })
  ∧ (∀ (s : State) (dt : Nat), s.running = true → s.sup.phase = 4 → s.keep.guardFault = false → (s.tick dt).atCycleStart = true →
    s.power < s.sup.cand → s.sup.cand < 3 →
    (s.tick dt).lasted s.sup.candAt (Config.sec (s.fld Reg.PWR_CFG Fld.PWR_CFG_DWELL)) = true →
    Does (.powerStateDescent dt) s fun t =>
      t.power = s.sup.cand ∧ t.sup = { s.sup with candAt := none }
      ∧ t.fld Reg.PWR_CNT Fld.PWR_CNT_DESCENTS = min (s.fld Reg.PWR_CNT Fld.PWR_CNT_DESCENTS + 1) 255
      ∧ Posted Ev.PWR_STATE (evArg 0xFFF 0 (s.power * 16 + s.sup.cand)) (s.tick dt) t ∧ RegsBut [Reg.PWR_STAT, Reg.PWR_CNT] s t
      ∧ (s.sup.cand = 2 → t.ring = { (s.tick dt).pump.ring with ports := t.ring.ports } ∧ ∀ e ∈ t.ring.ports, ∀ f ∈ e.2.queue, f.ty ≠ 1)
      ∧ (s.sup.cand ≠ 2 → t.ring = s.ring)
      ∧ t = { s.tick dt with regs := t.regs, ev := t.ev, sup := t.sup, ring := t.ring, recent := t.recent })
  ∧ (∀ (s : State) (dt : Nat), s.running = true → s.sup.phase = 4 → s.keep.guardFault = false → (s.tick dt).atCycleStart = true →
    s.power < s.sup.cand → 3 ≤ s.sup.cand → s.sup.cand ≤ 4 →
    (s.tick dt).lasted s.sup.candAt (Config.sec (s.fld Reg.PWR_CFG Fld.PWR_CFG_DWELL)) = true →
    Does (.powerStateDescent dt) s fun t =>
      t.power = s.sup.cand ∧ (t.side .a).state = .off ∧ (t.side .b).state = .off ∧ t.host.conns = [] ∧ t.host.lines = 0 ∧ t.ring.ports = []
      ∧ t.fld Reg.HOST_STAT Fld.HOST_STAT_LINK_UP = 0 ∧ (∀ k < cansOf s.variant, s.canMode k ≠ 0 → t.canMode k = 2)
      ∧ t.metr.sleep = (s.metr.sleep || s.sup.cand == 4) ∧ (s.sup.cand = 4 → ∀ n < 24, t.lswOnNow n = false) ∧ t = { s.tick dt with
            regs := t.regs, queues := t.queues, ev := t.ev, img := t.img, ctx := t.ctx, keep := t.keep
            host := t.host, ring := t.ring, outl := t.outl, safe := t.safe, metr := t.metr, acq := t.acq, can := t.can
            lsw := t.lsw, sup := t.sup, recent := t.recent, free := t.free })
  ∧ (∀ (s : State) (dt k : Nat), k < 8 → s.fld (Reg.PWR_LTR k) Fld.PWR_LTR_VALID = 1 → s.fld (Reg.PWR_LTR k) Fld.PWR_LTR_EXPIRY ≠ 0 →
    Config.sec (s.fld (Reg.PWR_LTR k) Fld.PWR_LTR_EXPIRY) ≤ (s.tick dt).since (SMap.get (fun _ => 0) s.sup.ltrAt k) →
    Does (.ltrExpiry dt k) s fun t => t = (s.tick dt).setF (Reg.PWR_LTR k) Fld.PWR_LTR_VALID 0)

/-- A crossing, the alarm, an outlet's or the meter's cause and a tamper input wake the module from NIGHT and DARK by a reset with kind
WAKE where their bit is set, and only note themselves else; an active tamper input may start a wipe. A hot side defers, is counted and
told, and fails at 135 °C; it ends below its limit for 10 s. PWR_CLR has its write's effect. -/
def Obligations.WakeTamperAndDeferRows : Prop :=
  (∀ (s : State) (dt k : Nat) (rising : Bool) (held : Nat), k < 8 → s.fld (Reg.PWR_WAKE_THR k) Fld.PWR_WAKE_THR_THR ≠ 0 → s.sup.onDomain = true →
    (s.wakeOpen .wake k = false ∨ held < Config.msec 1) →
    Does (.wakeThresholdCrossing dt k rising held) s fun t => t = (s.tick dt).setF (Reg.PWR_WAKE_THR k) Fld.PWR_WAKE_THR_LEVEL (flag rising))
  ∧ (∀ (s : State) (dt k : Nat) (rising : Bool) (held : Nat), k < 8 → s.fld (Reg.PWR_WAKE_THR k) Fld.PWR_WAKE_THR_THR ≠ 0 → s.sup.onDomain = true →
    s.wakeOpen .wake k = true → Config.msec 1 ≤ held → (s.fld (Reg.PWR_WAKE_THR k) Fld.PWR_WAKE_THR_EDGE).testBit (if rising then 0 else 1) = true →
    Does (.wakeThresholdCrossing dt k rising held) s fun t => Woke .wake k s t)
  ∧ (∀ (s : State) (dt : Nat), (s.rd Reg.PWR_ALARM_HI ++ s.rd Reg.PWR_ALARM_LO : Count) ≠ 0 →
    (s.rd Reg.PWR_ALARM_HI ++ s.rd Reg.PWR_ALARM_LO : Count).toNat ≤ (s.tick dt).tm.ts.toNat → s.wakeOpen .alarm 0 = true →
    Does (.pwrAlarmReached dt) s fun t => Woke .alarm 0 s t)
  ∧ (∀ (s : State) (dt : Nat), (s.rd Reg.PWR_ALARM_HI ++ s.rd Reg.PWR_ALARM_LO : Count) = 0 ∨ s.wakeOpen .alarm 0 = false →
    Does (.pwrAlarmReached dt) s fun t => t = s.tick dt)
  ∧ (∀ (s : State) (dt : Nat) (codes : List Int), s.metr.on = true → s.metr.sleep = true → (s.tick dt).aboveStart codes = true → s.wakeOpen .metr 0 = true →
    Does (.metrSleepExit dt codes) s fun t => t.metr.sleep = false ∧ Woke .metr 0 s t)
  ∧ (∀ (s : State) (dt : Nat) (codes : List Int), (s.metr.sleep = false ∨ (s.tick dt).aboveStart codes = false) →
    Does (.metrSleepExit dt codes) s fun t => t = s.tick dt)
  ∧ (∀ (s : State) (dt k : Nat) (active : Bool), k < 4 → s.sup.onDomain = true → s.wakeOpen .tamper k = false →
    (active = true → (s.rd Reg.MEM_WIPE_CFG).getLsbD k = false) →
    Does (.tampChange dt k active) s fun t =>
      t = { s.tick dt with metr := { s.metr with tamps := s.metr.tamps ++ (if active then [(k, (s.tick dt).tm.ts)] else []) } })
  ∧ (∀ (s : State) (dt k : Nat), k < 4 → s.sup.onDomain = true → s.wakeOpen .tamper k = false → (s.rd Reg.MEM_WIPE_CFG).getLsbD k = true →
    Does (.tampChange dt k true) s fun t =>
      t.fld Reg.MEM_SEC Fld.MEM_SEC_CAUSE = 1 + k ∧ t.fld Reg.MEM_SEC Fld.MEM_SEC_WIPES = min (s.fld Reg.MEM_SEC Fld.MEM_SEC_WIPES + 1) 0xFFFF
      ∧ t.mem.armed = none ∧ t.metr.tamps = s.metr.tamps ++ [(k, (s.tick dt).tm.ts)]
      ∧ (s.runningSides ≠ [] → t.host.conns = [] ∧ Told Ev.MEM_WIPE (evArg 0xFFF (1 + k) 0) t))
  ∧ (∀ (s : State) (dt k : Nat) (active : Bool), k < 4 → s.sup.onDomain = true → s.wakeOpen .tamper k = true →
    (s.rd Reg.MEM_WIPE_CFG).getLsbD k = false →
    Does (.tampChange dt k active) s fun t => Woke .tamper k s t)
  ∧ (∀ (s : State) (dt : Nat) (x : Side) (v : Int), s.running = true → (s.side x).state ≠ .off → (s.side x).deferring = false →
    (10 * s.fld Reg.PWR_DEFER_CFG Fld.PWR_DEFER_CFG_T_DEFER : Nat) ≤ v → v < 1350 →
    Does (.deferStart dt x.code v) s fun t =>
      t.side x = { s.side x with deferring := true } ∧ t.side x.other = s.side x.other ∧ t.fld Reg.PWR_STAT (deferField x) = 1
      ∧ t.fld Reg.PWR_CNT Fld.PWR_CNT_DEFERS = min (s.fld Reg.PWR_CNT Fld.PWR_CNT_DEFERS + 1) 255
      ∧ Posted Ev.PWR_DEFER (evArg x.code 0 0) (s.tick dt) t ∧ RegsBut [Reg.PWR_STAT, Reg.PWR_CNT] s t
      ∧ t = { s.tick dt with regs := t.regs, ev := t.ev, keep := t.keep, recent := t.recent })
  ∧ (∀ (s : State) (dt : Nat) (x : Side) (v : Int), s.running = true → s.guardActs = true → (s.side x).state = .standby → 1350 ≤ v →
    Does (.deferStart dt x.code v) s fun t =>
      (t.side x).state = .failed ∧ (t.side x).flags.testBit 4 = true ∧ t.side x.other = s.side x.other ∧ Told Ev.STANDBY_LOST (evArg x.code 0 0) t)
  ∧ (∀ (s : State) (dt die : Nat) (v : Int), s.running = true → 2 ≤ die → s.keep.guardFault = false →
    Does (.deferStart dt die v) s fun t =>
      (v < 1400 → t = s.tick dt) ∧ (1400 ≤ v → t.keep.guardFault = true ∧ t.ring.ports = [] ∧ ∀ n < 24, t.lswOnNow n = false))
  ∧ (∀ (s : State) (dt : Nat) (x : Side), (s.side x).deferring = true → (s.tick dt).lastedIn s.sup.coolAt x.code (Config.sec 10) = true →
    s.img.actWait = false → s.host.fwWait = false →
    Does (.deferEnd dt x) s fun t =>
      t.side x = { s.side x with deferring := false } ∧ t.side x.other = s.side x.other ∧ t.fld Reg.PWR_STAT (deferField x) = 0 ∧ Silent s t
      ∧ RegsBut [Reg.PWR_STAT] s t ∧ t = { s.tick dt with regs := t.regs, keep := t.keep })
  ∧ (∀ (s : State) (dt : Nat) (acc : Access) (val : Word), Admitted s acc Reg.PWR_CLR .op → fget Fld.PWR_CLR_CLEAR val = 1 →
    Does (.pwrClr dt acc val) s fun t =>
      t.rd Reg.PWR_CNT = (s.tick dt).counted Reg.PWR_CNT ∧ RegsBut [Reg.PWR_CNT] s t ∧ t = { s.tick dt with regs := t.regs })

/-- A READ frame answers the word the register bus serves, little-endian, with the CRC of address and data where it is on, and opens the
session; a WRITE frame writes it, and writes nothing where its CRC fails, which is counted. A STATUS frame answers the flags of the
frame before and FAILOVER. The PCIe link opens its session with one, two or four vectors and closes it when it goes down; a fundamental
reset also drops vectors, shadow and snapshot. SPI_TMO without a frame ends the session. The interrupt lines follow their queue. No
event is posted by these. -/
def Obligations.HostLinkRows : Prop :=
  (∀ (s : State) (dt addr : Nat), (s.tick dt).spiOn = true → addr < 0x180000 → addr % 4 = 0 → windowOf addr = none →
    s.fld Reg.HOST_CFG Fld.HOST_CFG_QSPI_CRC = 0 →
    Does (.qspiRead dt addr 1) s fun t =>
      t.host.reply = [((s.tick dt).spiFrame.busRead (s.tick dt).spiFrame.hostAccess addr).1]
      ∧ t.host.replyBytes = wordBytes [((s.tick dt).spiFrame.busRead (s.tick dt).spiFrame.hostAccess addr).1]
      ∧ t.fld Reg.HOST_STAT Fld.HOST_STAT_SESSION = 1 ∧ t.host.lastSpi = t.tm.mono)
  ∧ (∀ (s : State) (dt addr : Nat), (s.tick dt).spiOn = true → addr < 0x180000 → addr % 4 = 0 → windowOf addr = none →
    s.fld Reg.HOST_CFG Fld.HOST_CFG_QSPI_CRC = 1 →
    Does (.qspiRead dt addr 1) s fun t =>
      t.host.replyBytes = wordBytes t.host.reply ++ leBytes 2 (spiCrc addr t.host.reply))
  ∧ (∀ (s : State) (dt addr : Nat), (s.tick dt).spiOn = true → addr < 0x180000 → addr % 4 = 0 → windowOf addr = none →
    s.fld Reg.HOST_CFG Fld.HOST_CFG_QSPI_CRC = 0 →
    Does (.qspiQuadRead dt addr 1) s fun t =>
      t.host.reply = [((s.tick dt).spiFrame.busRead (s.tick dt).spiFrame.hostAccess addr).1]
      ∧ t.host.replyBytes = wordBytes [((s.tick dt).spiFrame.busRead (s.tick dt).spiFrame.hostAccess addr).1]
      ∧ t.fld Reg.HOST_STAT Fld.HOST_STAT_SESSION = 1 ∧ t.host.lastSpi = t.tm.mono)
  ∧ (∀ (s : State) (dt addr : Nat), (s.tick dt).spiOn = true → addr < 0x180000 → addr % 4 = 0 → windowOf addr = none →
    s.fld Reg.HOST_CFG Fld.HOST_CFG_QSPI_CRC = 1 →
    Does (.qspiQuadRead dt addr 1) s fun t =>
      t.host.replyBytes = wordBytes t.host.reply ++ leBytes 2 (spiCrc addr t.host.reply))
  ∧ (∀ (s : State) (dt addr : Nat) (w : Word) (crc : Nat), (s.tick dt).spiOn = true → addr < 0x180000 → addr % 4 = 0 →
    s.fld Reg.HOST_CFG Fld.HOST_CFG_QSPI_CRC = 0 →
    Does (.qspiWrite dt addr [w] crc) s fun t =>
      t.regs = ((s.tick dt).spiFrame.write (s.tick dt).spiFrame.hostAccess addr w).regs ∧ t.host.reply = [] ∧ t.host.status = 0)
  ∧ (∀ (s : State) (dt addr : Nat) (ws : List Word) (crc : Nat), (s.tick dt).spiOn = true → s.fld Reg.HOST_CFG Fld.HOST_CFG_QSPI_CRC = 1 →
    crc ≠ spiCrc (addr % 0x1000000) ws →
    Does (.qspiWrite dt addr ws crc) s fun t =>
      t.fld Reg.HOST_CNT Fld.HOST_CNT_CRC_ERRORS = min (s.fld Reg.HOST_CNT Fld.HOST_CNT_CRC_ERRORS + 1) 0xFFFF ∧ Silent s t
      ∧ RegsBut [Reg.HOST_CNT, Reg.HOST_STAT] s t ∧ t = { s.tick dt with regs := t.regs, host := t.host, recent := t.recent })
  ∧ (∀ (s : State) (dt addr : Nat) (w : Word) (crc : Nat), (s.tick dt).spiOn = true → addr < 0x180000 → addr % 4 = 0 →
    s.fld Reg.HOST_CFG Fld.HOST_CFG_QSPI_CRC = 0 →
    Does (.qspiQuadWrite dt addr [w] crc) s fun t =>
      t.regs = ((s.tick dt).spiFrame.write (s.tick dt).spiFrame.hostAccess addr w).regs ∧ t.host.reply = [] ∧ t.host.status = 0)
  ∧ (∀ (s : State) (dt addr : Nat) (ws : List Word) (crc : Nat), (s.tick dt).spiOn = true → s.fld Reg.HOST_CFG Fld.HOST_CFG_QSPI_CRC = 1 →
    crc ≠ spiCrc (addr % 0x1000000) ws →
    Does (.qspiQuadWrite dt addr ws crc) s fun t =>
      t.fld Reg.HOST_CNT Fld.HOST_CNT_CRC_ERRORS = min (s.fld Reg.HOST_CNT Fld.HOST_CNT_CRC_ERRORS + 1) 0xFFFF ∧ Silent s t
      ∧ RegsBut [Reg.HOST_CNT, Reg.HOST_STAT] s t ∧ t = { s.tick dt with regs := t.regs, host := t.host, recent := t.recent })
  ∧ (∀ (s : State) (dt : Nat), (s.tick dt).spiOn = true →
    Does (.qspiStatus dt) s fun t =>
      (t.host.replyBytes.map fun b => b.toNat / 2) = [(s.host.qspiFlags % 8 / 2 + 4 * s.fld Reg.HOST_STAT Fld.HOST_STAT_FAILOVER) % 128]
      ∧ t.host.qspiFlags = 0 ∧ t.host.lastSpi = t.tm.mono ∧ RegsBut [Reg.HOST_STAT] s t
      ∧ t = { s.tick dt with regs := t.regs, host := t.host, free := s.free + 1 })
  ∧ (∀ (s : State) (dt vectors : Nat), s.fld Reg.HOST_CFG Fld.HOST_CFG_MODE = 1 → s.fld Reg.HOST_CFG Fld.HOST_CFG_HOST_EN = 1 → s.running = true →
    s.keep.guardFault = false →
    Does (.pcieLinkUp dt vectors) s fun t =>
      t.fld Reg.HOST_STAT Fld.HOST_STAT_LINK_UP = 1 ∧ t.fld Reg.HOST_STAT Fld.HOST_STAT_SESSION = 1
      ∧ t.host.vectors = (if 4 ≤ vectors then 4 else if 2 ≤ vectors then 2 else 1) ∧ t.host.lines = t.irqLines
      ∧ RegsBut [Reg.HOST_STAT] s t ∧ t = { s.tick dt with regs := t.regs, host := t.host })
  ∧ (∀ (s : State) (dt : Nat), s.fld Reg.HOST_CFG Fld.HOST_CFG_MODE = 1 → ([0, 1, 2, 3].all fun n => (s.context n).state == .idle || (s.context n).path != .host) = true →
    Does (.pcieLinkDown dt) s fun t =>
      t.fld Reg.HOST_STAT Fld.HOST_STAT_LINK_UP = 0 ∧ t.fld Reg.HOST_STAT Fld.HOST_STAT_SESSION = 0
      ∧ t.host = { s.host with objPart := s.host.objPart.filter (fun e => e.2.session != sessionKey .host 0) }
      ∧ RegsBut [Reg.HOST_STAT] s t ∧ t = { s.tick dt with regs := t.regs, host := t.host })
  ∧ (∀ (s : State) (dt n : Nat), s.fld Reg.HOST_CFG Fld.HOST_CFG_MODE = 1 → n < 4 → (s.context n).path = .host → (s.context n).session = 0 →
    (s.context n).state = .opened →
    Does (.pcieLinkDown dt) s fun t => (t.context n).state = .idle ∧ t.fld Reg.HOST_STAT Fld.HOST_STAT_SESSION = 0)
  ∧ (∀ (s : State) (dt : Nat), s.fld Reg.HOST_CFG Fld.HOST_CFG_MODE = 1 → ([0, 1, 2, 3].all fun n => (s.context n).state == .idle || (s.context n).path != .host) = true →
    Does (.pcieFundamentalReset dt) s fun t =>
      t.fld Reg.HOST_STAT Fld.HOST_STAT_LINK_UP = 0 ∧ t.fld Reg.HOST_STAT Fld.HOST_STAT_SESSION = 0 ∧ t.host.vectors = 1
      ∧ t.host.shadows = SMap.erase s.host.shadows Path.host.code ∧ t.ev = { s.ev with snaps := SMap.erase s.ev.snaps Path.host.code }
      ∧ RegsBut [Reg.HOST_STAT] s t ∧ t = { s.tick dt with regs := t.regs, host := t.host, ev := t.ev })
  ∧ (∀ (s : State) (dt : Nat), s.fld Reg.HOST_CFG Fld.HOST_CFG_MODE = 2 → s.fld Reg.HOST_STAT Fld.HOST_STAT_SESSION = 1 →
    s.fld Reg.HOST_CFG Fld.HOST_CFG_SPI_TMO ≠ 0 → Config.sec (s.fld Reg.HOST_CFG Fld.HOST_CFG_SPI_TMO) ≤ (s.tick dt).since s.host.lastSpi →
    ([0, 1, 2, 3].all fun n => (s.context n).state == .idle || (s.context n).path != .host) = true →
    Does (.spiSessionTimeout dt) s fun t =>
      t.fld Reg.HOST_STAT Fld.HOST_STAT_SESSION = 0 ∧ RegsBut [Reg.HOST_STAT] s t ∧ t = { s.tick dt with regs := t.regs, host := t.host })
  ∧ (∀ (s : State) (dt : Nat),
    Does (.irqHoldoffExpiry dt) s fun t =>
      t.host.lines = (s.tick dt).irqLines ∧ t = { s.tick dt with host := { s.host with lines := t.host.lines, msi := t.host.msi } })

/-- A handshake with a valid certificate opens a connection with its role; a refused one is told and counted, and the fifth of an address
within 60 s blocks it for 300 s. A connection closes at its client's wish, after 120 s without a frame, or on a frame it cannot read. -/
def Obligations.ManagementConnectionRows : Prop :=
  (∀ (s : State) (dt conn port : Nat) (ip : Word) (cert : ClientCert) (r : Role), (s.tick dt).mgmtOn = true → s.recovery = false →
    (s.tick dt).ipBlocked ip.toNat = false → s.host.conns.length < 8 → s.mgmtConn conn = none → s.certRole port cert = some r →
    Does (.mgmtHandshake dt conn port ip cert) s fun t =>
      t.host = { s.host with conns := SMap.insert s.host.conns conn ⟨r, cert.anchor == .provisioning, (s.tick dt).tm.mono, 0, 0⟩ }
      ∧ t.fld Reg.HOST_MGMT Fld.HOST_MGMT_CONNS = min t.host.conns.length 255
      ∧ (s.fld Reg.TIME_STAT Fld.TIME_STAT_VALID = 0 → Posted Ev.MGMT_TIME_UNCHECKED (evArg 0xFFF 0 0) (s.tick dt) t)
      ∧ (s.fld Reg.TIME_STAT Fld.TIME_STAT_VALID = 1 → Silent s t) ∧ RegsBut [Reg.HOST_MGMT] s t ∧ t = { s.tick dt with regs := t.regs, ev := t.ev, host := t.host, recent := t.recent })
  ∧ (∀ (s : State) (dt conn port : Nat) (ip : Word) (cert : ClientCert), (s.tick dt).mgmtOn = true → s.recovery = false →
    (s.tick dt).ipBlocked ip.toNat = false → s.host.conns.length < 8 → s.mgmtConn conn = none → s.certRole port cert = none →
    Does (.mgmtHandshake dt conn port ip cert) s fun t =>
      t.host.conns = s.host.conns ∧ Posted Ev.MGMT_AUTH_FAIL ip (s.tick dt) t
      ∧ t.fld Reg.HOST_MGMT Fld.HOST_MGMT_AUTH_FAILS = min (s.fld Reg.HOST_MGMT Fld.HOST_MGMT_AUTH_FAILS + 1) 0xFFFF
      ∧ (4 ≤ ((s.tick dt).recentRefusals ip.toNat).length → t.host.blocked = SMap.insert s.host.blocked ip.toNat t.tm.mono)
      ∧ (((s.tick dt).recentRefusals ip.toNat).length < 4 → t.host.blocked = s.host.blocked) ∧ RegsBut [Reg.HOST_MGMT] s t ∧ t = { s.tick dt with regs := t.regs, ev := t.ev, host := t.host, recent := t.recent })
  ∧ (∀ (s : State) (dt : Nat) (ip : Word), (s.host.blocked.any fun e => e.1 == ip.toNat) = true → (s.tick dt).ipBlocked ip.toNat = false →
    Does (.mgmtBlockExpiry dt ip) s fun t => t = { s.tick dt with host := { s.host with blocked := SMap.erase s.host.blocked ip.toNat } })
  ∧ (∀ (s : State) (dt conn : Nat) (c : Conn), s.mgmtConn conn = some c → Config.sec 120 ≤ (s.tick dt).since c.last → 
    ([0, 1, 2, 3].all fun n => (s.context n).state == .idle || (s.context n).path != .mgmt || (s.context n).session != conn) = true →
    Does (.mgmtIdleTimeout dt conn) s fun t =>
      t.host = { s.host with
          conns := SMap.erase s.host.conns conn, sent := SMap.erase s.host.sent conn,
          objPart := s.host.objPart.filter (fun e => e.2.session != sessionKey .mgmt conn) }
      ∧ RegsBut [Reg.HOST_MGMT] s t ∧ t = { s.tick dt with regs := t.regs, host := t.host })
  ∧ (∀ (s : State) (dt conn : Nat) (c : Conn), s.mgmtConn conn = some c → 
    ([0, 1, 2, 3].all fun n => (s.context n).state == .idle || (s.context n).path != .mgmt || (s.context n).session != conn) = true →
    Does (.mgmtConnectionClose dt conn) s fun t =>
      t.host = { s.host with
          conns := SMap.erase s.host.conns conn, sent := SMap.erase s.host.sent conn,
          objPart := s.host.objPart.filter (fun e => e.2.session != sessionKey .mgmt conn) }
      ∧ RegsBut [Reg.HOST_MGMT] s t ∧ t = { s.tick dt with regs := t.regs, host := t.host })
  ∧ (∀ (s : State) (dt conn : Nat) (c : Conn), s.mgmtConn conn = some c → (s.tick dt).since c.last < Config.sec 120 →
    Does (.mgmtIdleTimeout dt conn) s fun t => t = s.tick dt)
  ∧ (∀ (s : State) (dt conn : Nat) (c : Conn) (u : State) (op tag : Nat), s.mgmtConn conn = some c → (s.tick dt).mgmtOn = true →
    u = { s.tick dt with host := { s.host with conns := SMap.insert s.host.conns conn { c with last := (s.tick dt).tm.mono } } } → ([0, 1, 2, 3].all fun n => (s.context n).state == .idle || (s.context n).path != .mgmt || (s.context n).session != conn) = true →
    Does (.mgmtFormatFrame dt conn op tag) s fun t =>
      t.host.replyBytes = mgmtFrame (0x80 + op % 0x80) tag 2 [] ∧ t.mgmtConn conn = none ∧ RegsBut [Reg.HOST_MGMT] s t
      ∧ t = { s.tick dt with regs := t.regs, host := t.host })

/-- On an open connection, while the module answers the protocol, each frame starts the connection's idle time again and is answered. READ
of 1 to 256 words inside the map answers, word after word, what the register bus gives for the connection's role at each address; an address
out of the map is OUT_OF_MAP, more than 256 words TOO_LONG, none REFUSED. WRITE of 1 to 256 words from an address of the map writes
them in address order and answers the status of each, padded to a multiple of four bytes; more than 256 words are TOO_LONG, none REFUSED.
PING answers OK. SUBSCRIBE takes the mask, from the next log entry on where none was set, and answers OK. Without an open connection, or
while the module does not answer the protocol, a frame changes nothing. While the log has not yet overwritten an entry, the entries of the
subscribed classes not yet sent go out in one EVENT frame, once; where there is none, nothing changes. The management client maps a stop, a station
limit, a profile and a token to the outlet's session and to the allocation registers, through the service path, while it holds its
connection, and does nothing otherwise. A failed connection is counted, the third failure moves the client to its second URL; a connection sends what
waited, in order. -/
def Obligations.ManagementFrameRows : Prop :=
  (∀ (s : State) (dt conn : Nat) (c : Conn) (tag addr count : Nat), ConnOpen s dt conn c → addr % 4 = 0 → 1 ≤ count → count ≤ 256 →
    addr + 4 * count ≤ 0x180000 →
    Does (.mgmtRead dt conn tag addr count) s fun t =>
      Answered 0x81 tag 0 (wordBytes ((List.range count).map fun k =>
          (((s.heardConn dt conn c).afterReads ⟨.mgmt, c.role, conn⟩ addr k).busRead ⟨.mgmt, c.role, conn⟩ (addr + 4 * k)).1))
        ((s.heardConn dt conn c).afterReads ⟨.mgmt, c.role, conn⟩ addr count) t)
  ∧ (∀ (s : State) (dt conn : Nat) (c : Conn) (tag addr count : Nat), ConnOpen s dt conn c → 1 ≤ count → count ≤ 256 →
    addr % 4 ≠ 0 ∨ 0x180000 < addr + 4 * count →
    Does (.mgmtRead dt conn tag addr count) s fun t => Answered 0x81 tag 3 [] ((s.heardConn dt conn c).setErr 0 ⟨.mgmt, c.role, conn⟩ addr) t)
  ∧ (∀ (s : State) (dt conn : Nat) (c : Conn) (tag addr count : Nat), ConnOpen s dt conn c → 256 < count ∨ count = 0 →
    Does (.mgmtRead dt conn tag addr count) s fun t => Answered 0x81 tag (if count = 0 then 6 else 4) [] (s.heardConn dt conn c) t)
  ∧ (∀ (s : State) (dt conn : Nat) (c : Conn) (tag addr : Nat) (ws : List Word), ConnOpen s dt conn c → addr % 4 = 0 → addr < 0x180000 → ws ≠ [] →
    ws.length ≤ 256 →
    Does (.mgmtWrite dt conn tag addr ws) s fun t =>
      Answered 0x82 tag 0 (((List.range ws.length).map fun k => BitVec.ofNat 8
          (((s.heardConn dt conn c).afterWrites ⟨.mgmt, c.role, conn⟩ addr ws (k + 1)).wordStatus
            ((s.heardConn dt conn c).afterWrites ⟨.mgmt, c.role, conn⟩ addr ws k) (addr + 4 * k)))
          ++ List.replicate ((4 - ws.length % 4) % 4) 0)
        ((s.heardConn dt conn c).afterWrites ⟨.mgmt, c.role, conn⟩ addr ws ws.length) t)
  ∧ (∀ (s : State) (dt conn : Nat) (c : Conn) (tag addr : Nat) (ws : List Word), ConnOpen s dt conn c → 256 < ws.length ∨ ws = [] →
    Does (.mgmtWrite dt conn tag addr ws) s fun t => Answered 0x82 tag (if ws = [] then 6 else 4) [] (s.heardConn dt conn c) t)
  ∧ (∀ (s : State) (dt conn : Nat) (c : Conn) (tag : Nat), ConnOpen s dt conn c →
    Does (.ping dt conn tag) s fun t => Answered 0x87 tag 0 [] (s.heardConn dt conn c) t)
  ∧ (∀ (s : State) (dt conn : Nat) (c : Conn) (tag mask : Nat), ConnOpen s dt conn c →
    Does (.subscribe dt conn tag mask) s fun t =>
      t.mgmtConn conn = some { c with
        last := t.tm.mono, mask := mask % 256, sentSeq := (if c.mask = 0 then (s.eventLog.getLast?).elim 0 (fun e => e.seq + 1) else c.sentSeq) }
      ∧ t.host.replyBytes = mgmtFrame 0x85 tag 0 [] ∧ t.host.status = 0 ∧ RegsBut [Reg.HOST_MGMT] s t
      ∧ t = { s.tick dt with regs := t.regs, host := t.host })
  ∧ (∀ (s : State) (dt conn tag addr count : Nat), s.mgmtConn conn = none ∨ (s.tick dt).mgmtOn = false →
    Does (.mgmtRead dt conn tag addr count) s fun t => t = s.tick dt)
  ∧ (∀ (s : State) (dt conn tag addr : Nat) (ws : List Word), s.mgmtConn conn = none ∨ (s.tick dt).mgmtOn = false →
    Does (.mgmtWrite dt conn tag addr ws) s fun t => t = s.tick dt)
  ∧ (∀ (s : State) (dt conn tag : Nat), s.mgmtConn conn = none ∨ (s.tick dt).mgmtOn = false →
    Does (.ping dt conn tag) s fun t => t = s.tick dt)
  ∧ (∀ (s : State) (dt conn tag mask : Nat), s.mgmtConn conn = none ∨ (s.tick dt).mgmtOn = false →
    Does (.subscribe dt conn tag mask) s fun t => t = s.tick dt)
  ∧ (∀ (s : State) (dt conn : Nat) (c : Conn) (l : List EvEntry), ConnOpen s dt conn c → s.eventLog.length < 524288 →
    l = s.eventLog.filter (fun e => decide (c.sentSeq ≤ e.seq) && c.mask.testBit e.cls) → l ≠ [] →
    Does (.eventDelivery dt conn) s fun t =>
      SMap.get (fun _ => []) t.host.sent conn = l ∧ t.host.replyBytes = (eventFrames l).flatten
      ∧ (l.length ≤ 4096 → t.host.replyBytes = mgmtFrame 6 0 0 (l.flatMap evBytes))
      ∧ (t.mgmtConn conn).map (·.sentSeq) = (s.eventLog.getLast?).map (fun e => max c.sentSeq (e.seq + 1))
      ∧ (t.mgmtConn conn).map (·.mask) = some c.mask ∧ t = { s.tick dt with host := t.host })
  ∧ (∀ (s : State) (dt conn : Nat) (c : Conn), s.mgmtConn conn = some c → s.eventLog.length < 524288 →
    s.eventLog.filter (fun e => decide (c.sentSeq ≤ e.seq) && c.mask.testBit e.cls) = [] →
    Does (.eventDelivery dt conn) s fun t => t = s.tick dt)
  ∧ (∀ (s : State) (dt n : Nat), s.host.csmsUp = true → (s.tick dt).mgmtOn = true → SessionRuns (s.tick dt) n →
    Does (.csmsMessage dt (.stop n)) s fun t => EndBegun n 3 (s.tick dt) t)
  ∧ (∀ (s : State) (dt cap : Nat), s.host.csmsUp = true → (s.tick dt).mgmtOn = true →
    Does (.csmsMessage dt (.station cap)) s fun t =>
      t = (s.tick dt).write clientAccess Reg.ALOC_GRID (fset Fld.ALOC_GRID_IMPORT_CAP (s.rd Reg.ALOC_GRID) cap))
  ∧ (∀ (s : State) (dt n p : Nat) (bs : List Byte) (u : State), n < 8 → s.host.csmsUp = true → (s.tick dt).mgmtOn = true →
    u = (s.tick dt).write clientAccess (Reg.ALOC_O_LIM n) (fset Fld.ALOC_O_LIM_P_MAX (s.rd (Reg.ALOC_O_LIM n)) p) →
    Does (.csmsMessage dt (.profile n p bs)) s fun t =>
      SMap.get (fun _ => []) t.host.objects (profileOid n) = bs ∧ t = { u with host := { u.host with objects := t.host.objects } })
  ∧ (∀ (s : State) (dt n cls : Nat), n < 8 → s.host.csmsUp = true → (s.tick dt).mgmtOn = true →
    Does (.csmsMessage dt (.token n cls)) s fun t =>
      t = (s.tick dt).write clientAccess (Reg.ALOC_O_CFG n) (fset Fld.ALOC_O_CFG_CLASS (s.rd (Reg.ALOC_O_CFG n)) cls))
  ∧ (∀ (s : State) (dt : Nat) (msg : CsmsMsg), s.host.csmsUp = false ∨ (s.tick dt).mgmtOn = false →
    Does (.csmsMessage dt msg) s fun t => t = s.tick dt)
  ∧ (∀ (s : State) (dt : Nat), s.host.csmsUp = false →
    Does (.csmsConnectFail dt) s fun t =>
      t.host = (if s.host.csmsFails < 2 then { s.host with csmsFails := s.host.csmsFails + 1 } else { s.host with csmsFails := 0, csmsUrl := 1 })
      ∧ t = { s.tick dt with host := t.host })
  ∧ (∀ (s : State) (dt : Nat), s.host.csmsUp = true → Does (.csmsConnectFail dt) s fun t => t = s.tick dt)
  ∧ (∀ (s : State) (dt : Nat), (s.tick dt).mgmtOn = true →
    Does (.csmsConnected dt) s fun t =>
      t = { s.tick dt with host := { s.host with csmsUp := true, csmsFails := 0, csmsSent := s.host.csmsSent ++ s.host.csmsQueue, csmsQueue := [] } })

/-- What an identifier names is the model's opaque table (the manual gives no attribute numbers; see the log), so these hold for every such
table. OBJ_GET above 65,536 bytes answers TOO_LONG; the password DENIED; an object that does not exist NO_OBJECT; any other its bytes
from OFFSET, no more than asked. A read of the life-cycle nonce at OFFSET 0 issues a fresh one. OBJ_SET without the right answers
DENIED and tells it; a chunk without LAST of an object other than a package is kept, for this session alone; HOST_CFG.ROLE takes its
new value with LAST. -/
def Obligations.ObjectRows : Prop :=
  (∀ (s : State) (dt : Nat) (tag oid ofs maxLen : Nat), 65536 < maxLen → s.recovery = false →
    s.answers .host Reg.HOST_STAT = true →
    Does (.objGet dt none tag oid ofs maxLen) s fun t =>
      t.host.replyBytes = mgmtFrame 0x83 tag 4 [] ∧ t.host.status = 4 ∧ RegsBut [] s t ∧ t = { s.tick dt with host := t.host })
  ∧ (∀ (s : State) (dt tag oid ofs maxLen : Nat), maxLen ≤ 65536 → s.recovery = false → s.answers .host Reg.HOST_STAT = true →
    Does (.objGet dt none tag oid ofs maxLen) s fun t =>
      (oidKind oid = Obj.password → t.host.replyBytes = mgmtFrame 0x83 tag 1 [])
      ∧ (oidKind oid ≠ Obj.password → ¬ (oidKind oid = Obj.nonce ∧ ofs = 0) →
          t.host.replyBytes = ((s.tick dt).objBytes oid).elim (mgmtFrame 0x83 tag 5 []) fun bs => mgmtFrame 0x83 tag 0 ((bs.drop ofs).take maxLen))
      ∧ (oidKind oid = Obj.nonce → ofs = 0 → t.host.nonce = some ((s.tick dt).freshWord.1, t.tm.mono)
          ∧ t.host.replyBytes = mgmtFrame 0x83 tag 0 ((leBytes 4 (s.tick dt).freshWord.1.toNat).take maxLen))
      ∧ Silent s t ∧ RegsBut [] s t ∧ t = { s.tick dt with host := t.host, free := t.free })
  ∧ (∀ (s : State) (dt tag oid ofs : Nat) (last : Bool) (bs : List Byte), s.recovery = false → s.answers .host Reg.HOST_STAT = true →
    Does (.objSet dt none tag oid ofs last bs) s fun t =>
      ((s.tick dt).objMay (s.tick dt).hostAccess oid = 1 → t.host.replyBytes = mgmtFrame 0x84 tag 1 []
        ∧ Posted Ev.DENIED (accArg (s.tick dt).hostAccess 0) (s.tick dt) t ∧ t.host.objects = s.host.objects ∧ RegsBut [] s t)
      ∧ ((s.tick dt).objMay (s.tick dt).hostAccess oid = 5 → t.host.replyBytes = mgmtFrame 0x84 tag 5 []
        ∧ RegsBut [] s t ∧ t = { s.tick dt with host := t.host })
      ∧ ((s.tick dt).objMay (s.tick dt).hostAccess oid = 0 → last = false → oidKind oid ≠ Obj.firmware → s.host.objPart = [] →
          t.host.objPart = [(oid, ⟨sessionKey .host 0, putBytes [] ofs bs⟩)] ∧ t.host.replyBytes = mgmtFrame 0x84 tag 0 []
          ∧ t.host.objects = s.host.objects ∧ RegsBut [] s t))
  ∧ (∀ (s : State) (dt tag oid : Nat) (b : Byte), s.recovery = false → s.answers .host Reg.HOST_STAT = true → s.lifeCycle < 2 → s.host.objPart = [] →
    b.toNat < 3 →
    Does (.objSet dt none tag oid 0 true [b]) s fun t =>
      (oidKind oid = Obj.hostRole → t.fld Reg.HOST_CFG Fld.HOST_CFG_ROLE = b.toNat ∧ t.host.replyBytes = mgmtFrame 0x84 tag 0 []
        ∧ t.host.objects = s.host.objects ∧ RegsBut [Reg.HOST_CFG] s t))

/-- OPEN with the other side STANDBY empties the bank that does not run and takes a package to it; without one it is denied. A word of the
window goes to the bank of every running side at its place in the part, and counts towards what is written. CLOSE checks the package:
VALID with its version, or INVALID with the code of the first failure. CANCEL leaves the bank EMPTY. ACTIVATE of a VALID bank at rest
resets the module with kind FIRMWARE into it, on trial; refused else. CONFIRM makes the running bank the boot bank. A late start or an
ended window makes a revert due, which resets the module into the boot bank. -/
def Obligations.FirmwareRows : Prop :=
  (∀ (s : State) (dt : Nat) (acc : Access), Admitted s acc Reg.HOST_FW_CTRL .svc → s.hasStandby = true → s.host.fwWait = false →
    Does (.fwOpen dt acc) s fun t =>
      t.host.fwXfer = some s.otherBank ∧ t.bankState s.otherBank = 1 ∧ SMap.get (fun _ => 0) t.host.fwWritten s.otherBank = 0
      ∧ t.rd (Reg.HOST_FW_VER s.otherBank) = 0 ∧ Silent s t
      ∧ RegsBut [Reg.HOST_FW_STAT, Reg.HOST_FW_VER s.otherBank] s t ∧ t = { s.tick dt with regs := t.regs, host := t.host, bytes := t.bytes })
  ∧ (∀ (s : State) (dt : Nat) (acc : Access), Admitted s acc Reg.HOST_FW_CTRL .svc → s.hasStandby = false → s.fld Reg.HOST_FW_STAT Fld.HOST_FW_STAT_RECOVERY = 0 →
    Does (.fwOpen dt acc) s fun t =>
      Posted Ev.DENIED (accArg acc Reg.HOST_FW_CTRL) (s.tick dt) t ∧ t = { s.tick dt with ev := t.ev })
  ∧ (∀ (s : State) (dt : Nat) (acc : Access) (ofs : Nat) (w : Word) (n : Nat) (x : Side), Admitted s acc (0x148000 + ofs) .svc → ofs < 0x8000 → ofs % 4 = 0 →
    s.host.fwXfer = some n → n < 2 → s.host.fwWait = false → s.fld Reg.HOST_FW_OFS Fld.HOST_FW_OFS_PART = 0 → s.fwSides.contains x = true →
    Does (.fwDataWrite dt acc ofs w) s fun t =>
      (∀ i < 4, t.byte (bankKey x n (ofs + i)) = w.extractLsb' (8 * i) 8)
      ∧ SMap.get (fun _ => 0) t.host.fwWritten n = max (SMap.get (fun _ => 0) s.host.fwWritten n) (ofs + 4)
      ∧ Silent s t ∧ RegsBut [] s t ∧ t = { s.tick dt with host := t.host, bytes := t.bytes })
  ∧ (∀ (s : State) (dt : Nat) (acc : Access) (ofs : Nat) (w : Word), Admitted s acc (0x148000 + ofs) .svc → ofs < 0x8000 → ofs % 4 = 0 → s.host.fwXfer = none →
    Does (.fwDataWrite dt acc ofs w) s fun t =>
      Posted Ev.DENIED (accArg acc (0x148000 + ofs)) (s.tick dt) t ∧ t = { s.tick dt with ev := t.ev })
  ∧ (∀ (s : State) (dt : Nat) (acc : Access) (n : Nat), Admitted s acc Reg.HOST_FW_CTRL .svc → s.host.fwXfer = some n → n < 2 → s.host.fwWait = false → s.deferring = false →
    Does (.fwClose dt acc) s fun t =>
      t.host = { s.host with fwXfer := none }
      ∧ t.bankState n = (if (s.tick dt).fwCheck n = 0 then 3 else 2) ∧ t.fld Reg.HOST_FW_STAT Fld.HOST_FW_STAT_ERR = (s.tick dt).fwCheck n
      ∧ ((s.tick dt).fwCheck n ≠ 0 → t.rd (Reg.HOST_FW_VER n) = 0) ∧ Silent s t ∧ RegsBut [Reg.HOST_FW_STAT, Reg.HOST_FW_VER n] s t
      ∧ t = { s.tick dt with regs := t.regs, host := t.host })
  ∧ (∀ (s : State) (dt : Nat) (acc : Access) (n : Nat), Admitted s acc Reg.HOST_FW_CTRL .svc → s.host.fwXfer = some n → s.host.fwWait = false → s.deferring = true →
    Does (.fwClose dt acc) s fun t =>
      t = { s.tick dt with host := { s.host with fwWait := true } })
  ∧ (∀ (s : State) (dt : Nat) (acc : Access) (n : Nat), Admitted s acc Reg.HOST_FW_CTRL .svc → s.host.fwXfer = some n → n < 2 → s.host.fwWait = false →
    Does (.fwCancel dt acc) s fun t =>
      t.host.fwXfer = none ∧ t.bankState n = 0 ∧ SMap.get (fun _ => 0) t.host.fwWritten n = 0 ∧ Silent s t
      ∧ RegsBut [Reg.HOST_FW_STAT, Reg.HOST_FW_VER n] s t ∧ t = { s.tick dt with regs := t.regs, host := t.host, bytes := t.bytes })
  ∧ (∀ (s : State) (dt : Nat) (acc : Access), Admitted s acc Reg.HOST_FW_CTRL .svc → s.atRest = true → s.contextsIdle = true → s.bankState s.otherBank = 3 → s.deferring = false →
    Does (.fwActivate dt acc) s fun t =>
      t.fld Reg.PWR_RST Fld.PWR_RST_TRIGGER = 7 ∧ t.fld Reg.HOST_FW_STAT Fld.HOST_FW_STAT_RUN_BANK = s.otherBank
      ∧ t.fld Reg.HOST_FW_STAT Fld.HOST_FW_STAT_TRIAL = 1 ∧ t.host.fwTrialStart = (s.tick dt).tm.life
      ∧ t.fld Reg.HOST_FW_STAT Fld.HOST_FW_STAT_BOOT_BANK = s.fld Reg.HOST_FW_STAT Fld.HOST_FW_STAT_BOOT_BANK
      ∧ t.sup.phase = 3 ∧ t.mode = 0 ∧ RegsReset (s.tick dt).showRest t)
  ∧ (∀ (s : State) (dt : Nat) (acc : Access), Admitted s acc Reg.HOST_FW_CTRL .svc → (s.atRest = true → s.contextsIdle = true → s.bankState s.otherBank ≠ 3) →
    Does (.fwActivate dt acc) s fun t =>
      Posted Ev.FW_ACT_REFUSED (evArg 0xFFF 0 0) (s.tick dt) t ∧ RegsBut [Reg.IMG_STAT] s t ∧ t = { s.tick dt with regs := t.regs, ev := t.ev })
  ∧ (∀ (s : State) (dt : Nat) (acc : Access), Admitted s acc Reg.HOST_FW_CTRL .svc → s.fld Reg.HOST_FW_STAT Fld.HOST_FW_STAT_TRIAL = 1 →
    Does (.fwConfirm dt acc) s fun t =>
      t.fld Reg.HOST_FW_STAT Fld.HOST_FW_STAT_BOOT_BANK = s.fld Reg.HOST_FW_STAT Fld.HOST_FW_STAT_RUN_BANK
      ∧ t.fld Reg.HOST_FW_STAT Fld.HOST_FW_STAT_TRIAL = 0 ∧ t.fld Reg.HOST_FW_STAT Fld.HOST_FW_STAT_REVERT_DUE = 0
      ∧ t.fld Reg.HOST_FW_SVN Fld.HOST_FW_SVN_SVN_MIN
          = max (s.fld Reg.HOST_FW_SVN Fld.HOST_FW_SVN_SVN_MIN) (s.fld Reg.HOST_FW_SVN Fld.HOST_FW_SVN_RUN_SVN)
      ∧ Silent s t ∧ RegsBut [Reg.HOST_FW_STAT, Reg.HOST_FW_SVN] s t ∧ t = { s.tick dt with regs := t.regs })
  ∧ (∀ (s : State) (dt : Nat), s.fld Reg.HOST_FW_STAT Fld.HOST_FW_STAT_TRIAL = 1 → s.running = true →
    (s.fld Reg.PWR_STAT Fld.PWR_STAT_RUN_READY = 0 ∧ (s.tick dt).tStart ≤ (s.tick dt).sinceLife s.sup.ladderAt)
      ∨ Config.sec (60 * s.fld Reg.HOST_CFG Fld.HOST_CFG_FW_WINDOW) ≤ (s.tick dt).sinceLife s.host.fwTrialStart →
    Does (.fwWindowExpiry dt) s fun t => t = (s.tick dt).setF Reg.HOST_FW_STAT Fld.HOST_FW_STAT_REVERT_DUE 1)
  ∧ (∀ (s : State) (dt : Nat), s.fld Reg.HOST_FW_STAT Fld.HOST_FW_STAT_TRIAL = 0 → Does (.fwWindowExpiry dt) s fun t => t = s.tick dt)
  ∧ (∀ (s : State) (dt : Nat), s.fld Reg.HOST_FW_STAT Fld.HOST_FW_STAT_REVERT_DUE = 1 → s.running = true → s.keep.guardFault = false → s.atRest = true →
    Does (.fwRevert dt) s fun t =>
      ResetDone 7 (s.tick dt).showRest t ∧ t.sup.phase = 3
      ∧ t.fld Reg.HOST_FW_STAT Fld.HOST_FW_STAT_RUN_BANK = s.fld Reg.HOST_FW_STAT Fld.HOST_FW_STAT_BOOT_BANK)

/-- In an FCLK period in which port 0 and port 1 of a side's SRAM meet one word, nothing else waiting: a read on either port returns the
old bytes, also of a word that the other port writes (R43, R44); the port-0 bytes land in this period; a port-1 byte lands in this
period too, but in a lane that port 0 writes only in the next one, so that the lane ends with the port-1 byte; the period counts once in
MEM_COLL where a lane meets (R45, R672, R673). No other byte changes. A port-1 access across a word boundary takes two periods: what it
writes stands after the second, the upper word untouched by the first, and what it reads joins both words in the datum's order (R674,
R675). -/
def Obligations.SramPortRules : Prop :=
  (∀ (s t u : State) (x : Side) (r0 r1 : MemReq), r0.port1 = false → r1.port1 = true → r0.ok = true → r1.ok = true → r0.cls < 4 → r1.cls < 4 →
    r1.crosses = false → r0.addr / 8 = r1.addr / 8 → s.ports x = SramPorts.reset → t = s.sramPeriod x [r0, r1] → u = t.sramPeriod x [] →
    (r0.data = none → SMap.get (fun _ => 0) (t.ports x).got r0.key = s.memRead x r0 false 0)
    ∧ (r1.data = none → SMap.get (fun _ => 0) (t.ports x).got r1.key = s.memRead x r1 false 0)
    ∧ (∀ e ∈ r0.stores false, t.memByte x e.1 = e.2)
    ∧ (∀ e ∈ r1.stores false, u.memByte x e.1 = e.2
        ∧ t.memByte x e.1 = (((r0.stores false).find? fun f => f.1 == e.1).map (·.2)).getD e.2)
    ∧ (∀ e ∈ r0.stores false, ((r1.stores false).all fun f => f.1 != e.1) = true → u.memByte x e.1 = e.2)
    ∧ (∀ k, ((r0.stores false ++ r1.stores false).all fun e => memKey x e.1 != k) = true → u.byte k = s.byte k)
    ∧ t.fld (sideReg x Reg.MEM_COLL) ⟨0, 32⟩ = (if ((r1.stores false).any fun e => (r0.stores false).any fun f => f.1 == e.1) then
        min (s.fld (sideReg x Reg.MEM_COLL) ⟨0, 32⟩ + 1) 0xFFFFFFFF else s.fld (sideReg x Reg.MEM_COLL) ⟨0, 32⟩)
    ∧ u.rd (sideReg x Reg.MEM_COLL) = t.rd (sideReg x Reg.MEM_COLL) ∧ (u.ports x).waits = [] ∧ (u.ports x).late = []
    ∧ RegsBut [sideReg x Reg.MEM_COLL] s u)
  ∧ (∀ (s t u : State) (x : Side) (r : MemReq), r.port1 = true → r.ok = true → r.cls < 4 → r.crosses = true → s.ports x = SramPorts.reset →
    t = s.sramPeriod x [r] → u = t.sramPeriod x [] →
    (∀ d, r.data = some d → (∀ i < r.size, u.memByte x (r.addr + i) = datumByte d i)
        ∧ ∀ i < r.size, 8 ≤ r.addr % 8 + i → t.memByte x (r.addr + i) = s.memByte x (r.addr + i))
    ∧ (r.data = none → ∀ i < 8, datumByte (SMap.get (fun _ => 0) (u.ports x).got r.key) i = if i < r.size then s.memByte x (r.addr + i) else 0)
    ∧ (∀ k, ((List.range r.size).all fun i => memKey x (r.addr + i) != k) = true ∨ r.data = none → u.byte k = s.byte k)
    ∧ (u.ports x).waits = [] ∧ (u.ports x).halves = [] ∧ RegsBut [] s u)
end

