-- ==== Sys2Proof/Laws/State.lean ====
section
/-! SUPPORT. What each named update of the state leaves alone, field by field. -/

namespace Sys2Proof.Machine

open Sys2Proof

variable (s : State)

@[simp] theorem State.wr_pending (a : Nat) (v : Word) : (s.wr a v).pending = s.pending := (rfl)
@[simp] theorem State.wr_variant (a : Nat) (v : Word) : (s.wr a v).variant = s.variant := (rfl)
@[simp] theorem State.wr_pregs (a : Nat) (v : Word) : (s.wr a v).pregs = s.pregs := (rfl)
@[simp] theorem State.wr_tm (a : Nat) (v : Word) : (s.wr a v).tm = s.tm := (rfl)
@[simp] theorem State.wr_queues (a : Nat) (v : Word) : (s.wr a v).queues = s.queues := (rfl)
@[simp] theorem State.wr_tags (a : Nat) (v : Word) : (s.wr a v).tags = s.tags := (rfl)
@[simp] theorem State.wr_ev (a : Nat) (v : Word) : (s.wr a v).ev = s.ev := (rfl)
@[simp] theorem State.wr_img (a : Nat) (v : Word) : (s.wr a v).img = s.img := (rfl)
@[simp] theorem State.wr_ctx (a : Nat) (v : Word) : (s.wr a v).ctx = s.ctx := (rfl)
@[simp] theorem State.wr_keep (a : Nat) (v : Word) : (s.wr a v).keep = s.keep := (rfl)
@[simp] theorem State.wr_host (a : Nat) (v : Word) : (s.wr a v).host = s.host := (rfl)
@[simp] theorem State.wr_loop (a : Nat) (v : Word) : (s.wr a v).loop = s.loop := (rfl)
@[simp] theorem State.wr_edge (a : Nat) (v : Word) : (s.wr a v).edge = s.edge := (rfl)
@[simp] theorem State.wr_qset (a : Nat) (v : Word) : (s.wr a v).qset = s.qset := (rfl)
@[simp] theorem State.wr_ring (a : Nat) (v : Word) : (s.wr a v).ring = s.ring := (rfl)
@[simp] theorem State.wr_sst (a : Nat) (v : Word) : (s.wr a v).sst = s.sst := (rfl)
@[simp] theorem State.wr_outs (a : Nat) (v : Word) : (s.wr a v).outs = s.outs := (rfl)
@[simp] theorem State.wr_aloc (a : Nat) (v : Word) : (s.wr a v).aloc = s.aloc := (rfl)
@[simp] theorem State.wr_cool (a : Nat) (v : Word) : (s.wr a v).cool = s.cool := (rfl)
@[simp] theorem State.wr_outl (a : Nat) (v : Word) : (s.wr a v).outl = s.outl := (rfl)
@[simp] theorem State.wr_safe (a : Nat) (v : Word) : (s.wr a v).safe = s.safe := (rfl)
@[simp] theorem State.wr_metr (a : Nat) (v : Word) : (s.wr a v).metr = s.metr := (rfl)
@[simp] theorem State.wr_bill (a : Nat) (v : Word) : (s.wr a v).bill = s.bill := (rfl)
@[simp] theorem State.wr_acq (a : Nat) (v : Word) : (s.wr a v).acq = s.acq := (rfl)
@[simp] theorem State.wr_can (a : Nat) (v : Word) : (s.wr a v).can = s.can := (rfl)
@[simp] theorem State.wr_lsw (a : Nat) (v : Word) : (s.wr a v).lsw = s.lsw := (rfl)
@[simp] theorem State.wr_mem (a : Nat) (v : Word) : (s.wr a v).mem = s.mem := (rfl)
@[simp] theorem State.wr_sup (a : Nat) (v : Word) : (s.wr a v).sup = s.sup := (rfl)
@[simp] theorem State.wr_bytes (a : Nat) (v : Word) : (s.wr a v).bytes = s.bytes := (rfl)
@[simp] theorem State.wr_recent (a : Nat) (v : Word) : (s.wr a v).recent = s.recent := (rfl)
@[simp] theorem State.wr_owed (a : Nat) (v : Word) : (s.wr a v).owed = s.owed := (rfl)
@[simp] theorem State.wr_free (a : Nat) (v : Word) : (s.wr a v).free = s.free := (rfl)

@[simp] theorem State.setF_pending (a : Nat) (f : Field) (v : Nat) : (s.setF a f v).pending = s.pending := (rfl)
@[simp] theorem State.setF_variant (a : Nat) (f : Field) (v : Nat) : (s.setF a f v).variant = s.variant := (rfl)
@[simp] theorem State.setF_pregs (a : Nat) (f : Field) (v : Nat) : (s.setF a f v).pregs = s.pregs := (rfl)
@[simp] theorem State.setF_tm (a : Nat) (f : Field) (v : Nat) : (s.setF a f v).tm = s.tm := (rfl)
@[simp] theorem State.setF_queues (a : Nat) (f : Field) (v : Nat) : (s.setF a f v).queues = s.queues := (rfl)
@[simp] theorem State.setF_tags (a : Nat) (f : Field) (v : Nat) : (s.setF a f v).tags = s.tags := (rfl)
@[simp] theorem State.setF_ev (a : Nat) (f : Field) (v : Nat) : (s.setF a f v).ev = s.ev := (rfl)
@[simp] theorem State.setF_img (a : Nat) (f : Field) (v : Nat) : (s.setF a f v).img = s.img := (rfl)
@[simp] theorem State.setF_ctx (a : Nat) (f : Field) (v : Nat) : (s.setF a f v).ctx = s.ctx := (rfl)
@[simp] theorem State.setF_keep (a : Nat) (f : Field) (v : Nat) : (s.setF a f v).keep = s.keep := (rfl)
@[simp] theorem State.setF_host (a : Nat) (f : Field) (v : Nat) : (s.setF a f v).host = s.host := (rfl)
@[simp] theorem State.setF_loop (a : Nat) (f : Field) (v : Nat) : (s.setF a f v).loop = s.loop := (rfl)
@[simp] theorem State.setF_edge (a : Nat) (f : Field) (v : Nat) : (s.setF a f v).edge = s.edge := (rfl)
@[simp] theorem State.setF_qset (a : Nat) (f : Field) (v : Nat) : (s.setF a f v).qset = s.qset := (rfl)
@[simp] theorem State.setF_ring (a : Nat) (f : Field) (v : Nat) : (s.setF a f v).ring = s.ring := (rfl)
@[simp] theorem State.setF_sst (a : Nat) (f : Field) (v : Nat) : (s.setF a f v).sst = s.sst := (rfl)
@[simp] theorem State.setF_outs (a : Nat) (f : Field) (v : Nat) : (s.setF a f v).outs = s.outs := (rfl)
@[simp] theorem State.setF_aloc (a : Nat) (f : Field) (v : Nat) : (s.setF a f v).aloc = s.aloc := (rfl)
@[simp] theorem State.setF_cool (a : Nat) (f : Field) (v : Nat) : (s.setF a f v).cool = s.cool := (rfl)
@[simp] theorem State.setF_outl (a : Nat) (f : Field) (v : Nat) : (s.setF a f v).outl = s.outl := (rfl)
@[simp] theorem State.setF_safe (a : Nat) (f : Field) (v : Nat) : (s.setF a f v).safe = s.safe := (rfl)
@[simp] theorem State.setF_metr (a : Nat) (f : Field) (v : Nat) : (s.setF a f v).metr = s.metr := (rfl)
@[simp] theorem State.setF_bill (a : Nat) (f : Field) (v : Nat) : (s.setF a f v).bill = s.bill := (rfl)
@[simp] theorem State.setF_acq (a : Nat) (f : Field) (v : Nat) : (s.setF a f v).acq = s.acq := (rfl)
@[simp] theorem State.setF_can (a : Nat) (f : Field) (v : Nat) : (s.setF a f v).can = s.can := (rfl)
@[simp] theorem State.setF_lsw (a : Nat) (f : Field) (v : Nat) : (s.setF a f v).lsw = s.lsw := (rfl)
@[simp] theorem State.setF_mem (a : Nat) (f : Field) (v : Nat) : (s.setF a f v).mem = s.mem := (rfl)
@[simp] theorem State.setF_sup (a : Nat) (f : Field) (v : Nat) : (s.setF a f v).sup = s.sup := (rfl)
@[simp] theorem State.setF_bytes (a : Nat) (f : Field) (v : Nat) : (s.setF a f v).bytes = s.bytes := (rfl)
@[simp] theorem State.setF_recent (a : Nat) (f : Field) (v : Nat) : (s.setF a f v).recent = s.recent := (rfl)
@[simp] theorem State.setF_owed (a : Nat) (f : Field) (v : Nat) : (s.setF a f v).owed = s.owed := (rfl)
@[simp] theorem State.setF_free (a : Nat) (f : Field) (v : Nat) : (s.setF a f v).free = s.free := (rfl)

@[simp] theorem State.setFS_pending (a : Nat) (f : Field) (v : Int) : (s.setFS a f v).pending = s.pending := (rfl)
@[simp] theorem State.setFS_variant (a : Nat) (f : Field) (v : Int) : (s.setFS a f v).variant = s.variant := (rfl)
@[simp] theorem State.setFS_pregs (a : Nat) (f : Field) (v : Int) : (s.setFS a f v).pregs = s.pregs := (rfl)
@[simp] theorem State.setFS_tm (a : Nat) (f : Field) (v : Int) : (s.setFS a f v).tm = s.tm := (rfl)
@[simp] theorem State.setFS_queues (a : Nat) (f : Field) (v : Int) : (s.setFS a f v).queues = s.queues := (rfl)
@[simp] theorem State.setFS_tags (a : Nat) (f : Field) (v : Int) : (s.setFS a f v).tags = s.tags := (rfl)
@[simp] theorem State.setFS_ev (a : Nat) (f : Field) (v : Int) : (s.setFS a f v).ev = s.ev := (rfl)
@[simp] theorem State.setFS_img (a : Nat) (f : Field) (v : Int) : (s.setFS a f v).img = s.img := (rfl)
@[simp] theorem State.setFS_ctx (a : Nat) (f : Field) (v : Int) : (s.setFS a f v).ctx = s.ctx := (rfl)
@[simp] theorem State.setFS_keep (a : Nat) (f : Field) (v : Int) : (s.setFS a f v).keep = s.keep := (rfl)
@[simp] theorem State.setFS_host (a : Nat) (f : Field) (v : Int) : (s.setFS a f v).host = s.host := (rfl)
@[simp] theorem State.setFS_loop (a : Nat) (f : Field) (v : Int) : (s.setFS a f v).loop = s.loop := (rfl)
@[simp] theorem State.setFS_edge (a : Nat) (f : Field) (v : Int) : (s.setFS a f v).edge = s.edge := (rfl)
@[simp] theorem State.setFS_qset (a : Nat) (f : Field) (v : Int) : (s.setFS a f v).qset = s.qset := (rfl)
@[simp] theorem State.setFS_ring (a : Nat) (f : Field) (v : Int) : (s.setFS a f v).ring = s.ring := (rfl)
@[simp] theorem State.setFS_sst (a : Nat) (f : Field) (v : Int) : (s.setFS a f v).sst = s.sst := (rfl)
@[simp] theorem State.setFS_outs (a : Nat) (f : Field) (v : Int) : (s.setFS a f v).outs = s.outs := (rfl)
@[simp] theorem State.setFS_aloc (a : Nat) (f : Field) (v : Int) : (s.setFS a f v).aloc = s.aloc := (rfl)
@[simp] theorem State.setFS_cool (a : Nat) (f : Field) (v : Int) : (s.setFS a f v).cool = s.cool := (rfl)
@[simp] theorem State.setFS_outl (a : Nat) (f : Field) (v : Int) : (s.setFS a f v).outl = s.outl := (rfl)
@[simp] theorem State.setFS_safe (a : Nat) (f : Field) (v : Int) : (s.setFS a f v).safe = s.safe := (rfl)
@[simp] theorem State.setFS_metr (a : Nat) (f : Field) (v : Int) : (s.setFS a f v).metr = s.metr := (rfl)
@[simp] theorem State.setFS_bill (a : Nat) (f : Field) (v : Int) : (s.setFS a f v).bill = s.bill := (rfl)
@[simp] theorem State.setFS_acq (a : Nat) (f : Field) (v : Int) : (s.setFS a f v).acq = s.acq := (rfl)
@[simp] theorem State.setFS_can (a : Nat) (f : Field) (v : Int) : (s.setFS a f v).can = s.can := (rfl)
@[simp] theorem State.setFS_lsw (a : Nat) (f : Field) (v : Int) : (s.setFS a f v).lsw = s.lsw := (rfl)
@[simp] theorem State.setFS_mem (a : Nat) (f : Field) (v : Int) : (s.setFS a f v).mem = s.mem := (rfl)
@[simp] theorem State.setFS_sup (a : Nat) (f : Field) (v : Int) : (s.setFS a f v).sup = s.sup := (rfl)
@[simp] theorem State.setFS_bytes (a : Nat) (f : Field) (v : Int) : (s.setFS a f v).bytes = s.bytes := (rfl)
@[simp] theorem State.setFS_recent (a : Nat) (f : Field) (v : Int) : (s.setFS a f v).recent = s.recent := (rfl)
@[simp] theorem State.setFS_owed (a : Nat) (f : Field) (v : Int) : (s.setFS a f v).owed = s.owed := (rfl)
@[simp] theorem State.setFS_free (a : Nat) (f : Field) (v : Int) : (s.setFS a f v).free = s.free := (rfl)

@[simp] theorem State.setBit_pending (a i : Nat) (b : Bool) : (s.setBit a i b).pending = s.pending := (rfl)
@[simp] theorem State.setBit_variant (a i : Nat) (b : Bool) : (s.setBit a i b).variant = s.variant := (rfl)
@[simp] theorem State.setBit_pregs (a i : Nat) (b : Bool) : (s.setBit a i b).pregs = s.pregs := (rfl)
@[simp] theorem State.setBit_tm (a i : Nat) (b : Bool) : (s.setBit a i b).tm = s.tm := (rfl)
@[simp] theorem State.setBit_queues (a i : Nat) (b : Bool) : (s.setBit a i b).queues = s.queues := (rfl)
@[simp] theorem State.setBit_tags (a i : Nat) (b : Bool) : (s.setBit a i b).tags = s.tags := (rfl)
@[simp] theorem State.setBit_ev (a i : Nat) (b : Bool) : (s.setBit a i b).ev = s.ev := (rfl)
@[simp] theorem State.setBit_img (a i : Nat) (b : Bool) : (s.setBit a i b).img = s.img := (rfl)
@[simp] theorem State.setBit_ctx (a i : Nat) (b : Bool) : (s.setBit a i b).ctx = s.ctx := (rfl)
@[simp] theorem State.setBit_keep (a i : Nat) (b : Bool) : (s.setBit a i b).keep = s.keep := (rfl)
@[simp] theorem State.setBit_host (a i : Nat) (b : Bool) : (s.setBit a i b).host = s.host := (rfl)
@[simp] theorem State.setBit_loop (a i : Nat) (b : Bool) : (s.setBit a i b).loop = s.loop := (rfl)
@[simp] theorem State.setBit_edge (a i : Nat) (b : Bool) : (s.setBit a i b).edge = s.edge := (rfl)
@[simp] theorem State.setBit_qset (a i : Nat) (b : Bool) : (s.setBit a i b).qset = s.qset := (rfl)
@[simp] theorem State.setBit_ring (a i : Nat) (b : Bool) : (s.setBit a i b).ring = s.ring := (rfl)
@[simp] theorem State.setBit_sst (a i : Nat) (b : Bool) : (s.setBit a i b).sst = s.sst := (rfl)
@[simp] theorem State.setBit_outs (a i : Nat) (b : Bool) : (s.setBit a i b).outs = s.outs := (rfl)
@[simp] theorem State.setBit_aloc (a i : Nat) (b : Bool) : (s.setBit a i b).aloc = s.aloc := (rfl)
@[simp] theorem State.setBit_cool (a i : Nat) (b : Bool) : (s.setBit a i b).cool = s.cool := (rfl)
@[simp] theorem State.setBit_outl (a i : Nat) (b : Bool) : (s.setBit a i b).outl = s.outl := (rfl)
@[simp] theorem State.setBit_safe (a i : Nat) (b : Bool) : (s.setBit a i b).safe = s.safe := (rfl)
@[simp] theorem State.setBit_metr (a i : Nat) (b : Bool) : (s.setBit a i b).metr = s.metr := (rfl)
@[simp] theorem State.setBit_bill (a i : Nat) (b : Bool) : (s.setBit a i b).bill = s.bill := (rfl)
@[simp] theorem State.setBit_acq (a i : Nat) (b : Bool) : (s.setBit a i b).acq = s.acq := (rfl)
@[simp] theorem State.setBit_can (a i : Nat) (b : Bool) : (s.setBit a i b).can = s.can := (rfl)
@[simp] theorem State.setBit_lsw (a i : Nat) (b : Bool) : (s.setBit a i b).lsw = s.lsw := (rfl)
@[simp] theorem State.setBit_mem (a i : Nat) (b : Bool) : (s.setBit a i b).mem = s.mem := (rfl)
@[simp] theorem State.setBit_sup (a i : Nat) (b : Bool) : (s.setBit a i b).sup = s.sup := (rfl)
@[simp] theorem State.setBit_bytes (a i : Nat) (b : Bool) : (s.setBit a i b).bytes = s.bytes := (rfl)
@[simp] theorem State.setBit_recent (a i : Nat) (b : Bool) : (s.setBit a i b).recent = s.recent := (rfl)
@[simp] theorem State.setBit_owed (a i : Nat) (b : Bool) : (s.setBit a i b).owed = s.owed := (rfl)
@[simp] theorem State.setBit_free (a i : Nat) (b : Bool) : (s.setBit a i b).free = s.free := (rfl)

@[simp] theorem State.clearCount_pending (a : Nat) : (s.clearCount a).pending = s.pending := (rfl)
@[simp] theorem State.clearCount_variant (a : Nat) : (s.clearCount a).variant = s.variant := (rfl)
@[simp] theorem State.clearCount_pregs (a : Nat) : (s.clearCount a).pregs = s.pregs := (rfl)
@[simp] theorem State.clearCount_tm (a : Nat) : (s.clearCount a).tm = s.tm := (rfl)
@[simp] theorem State.clearCount_queues (a : Nat) : (s.clearCount a).queues = s.queues := (rfl)
@[simp] theorem State.clearCount_tags (a : Nat) : (s.clearCount a).tags = s.tags := (rfl)
@[simp] theorem State.clearCount_ev (a : Nat) : (s.clearCount a).ev = s.ev := (rfl)
@[simp] theorem State.clearCount_img (a : Nat) : (s.clearCount a).img = s.img := (rfl)
@[simp] theorem State.clearCount_ctx (a : Nat) : (s.clearCount a).ctx = s.ctx := (rfl)
@[simp] theorem State.clearCount_keep (a : Nat) : (s.clearCount a).keep = s.keep := (rfl)
@[simp] theorem State.clearCount_host (a : Nat) : (s.clearCount a).host = s.host := (rfl)
@[simp] theorem State.clearCount_loop (a : Nat) : (s.clearCount a).loop = s.loop := (rfl)
@[simp] theorem State.clearCount_edge (a : Nat) : (s.clearCount a).edge = s.edge := (rfl)
@[simp] theorem State.clearCount_qset (a : Nat) : (s.clearCount a).qset = s.qset := (rfl)
@[simp] theorem State.clearCount_ring (a : Nat) : (s.clearCount a).ring = s.ring := (rfl)
@[simp] theorem State.clearCount_sst (a : Nat) : (s.clearCount a).sst = s.sst := (rfl)
@[simp] theorem State.clearCount_outs (a : Nat) : (s.clearCount a).outs = s.outs := (rfl)
@[simp] theorem State.clearCount_aloc (a : Nat) : (s.clearCount a).aloc = s.aloc := (rfl)
@[simp] theorem State.clearCount_cool (a : Nat) : (s.clearCount a).cool = s.cool := (rfl)
@[simp] theorem State.clearCount_outl (a : Nat) : (s.clearCount a).outl = s.outl := (rfl)
@[simp] theorem State.clearCount_safe (a : Nat) : (s.clearCount a).safe = s.safe := (rfl)
@[simp] theorem State.clearCount_metr (a : Nat) : (s.clearCount a).metr = s.metr := (rfl)
@[simp] theorem State.clearCount_bill (a : Nat) : (s.clearCount a).bill = s.bill := (rfl)
@[simp] theorem State.clearCount_acq (a : Nat) : (s.clearCount a).acq = s.acq := (rfl)
@[simp] theorem State.clearCount_can (a : Nat) : (s.clearCount a).can = s.can := (rfl)
@[simp] theorem State.clearCount_lsw (a : Nat) : (s.clearCount a).lsw = s.lsw := (rfl)
@[simp] theorem State.clearCount_mem (a : Nat) : (s.clearCount a).mem = s.mem := (rfl)
@[simp] theorem State.clearCount_sup (a : Nat) : (s.clearCount a).sup = s.sup := (rfl)
@[simp] theorem State.clearCount_bytes (a : Nat) : (s.clearCount a).bytes = s.bytes := (rfl)
@[simp] theorem State.clearCount_recent (a : Nat) : (s.clearCount a).recent = s.recent := (rfl)
@[simp] theorem State.clearCount_owed (a : Nat) : (s.clearCount a).owed = s.owed := (rfl)
@[simp] theorem State.clearCount_free (a : Nat) : (s.clearCount a).free = s.free := (rfl)

@[simp] theorem State.clearField_pending (a : Nat) (f : Field) : (s.clearField a f).pending = s.pending := (rfl)
@[simp] theorem State.clearField_variant (a : Nat) (f : Field) : (s.clearField a f).variant = s.variant := (rfl)
@[simp] theorem State.clearField_pregs (a : Nat) (f : Field) : (s.clearField a f).pregs = s.pregs := (rfl)
@[simp] theorem State.clearField_tm (a : Nat) (f : Field) : (s.clearField a f).tm = s.tm := (rfl)
@[simp] theorem State.clearField_queues (a : Nat) (f : Field) : (s.clearField a f).queues = s.queues := (rfl)
@[simp] theorem State.clearField_tags (a : Nat) (f : Field) : (s.clearField a f).tags = s.tags := (rfl)
@[simp] theorem State.clearField_ev (a : Nat) (f : Field) : (s.clearField a f).ev = s.ev := (rfl)
@[simp] theorem State.clearField_img (a : Nat) (f : Field) : (s.clearField a f).img = s.img := (rfl)
@[simp] theorem State.clearField_ctx (a : Nat) (f : Field) : (s.clearField a f).ctx = s.ctx := (rfl)
@[simp] theorem State.clearField_keep (a : Nat) (f : Field) : (s.clearField a f).keep = s.keep := (rfl)
@[simp] theorem State.clearField_host (a : Nat) (f : Field) : (s.clearField a f).host = s.host := (rfl)
@[simp] theorem State.clearField_loop (a : Nat) (f : Field) : (s.clearField a f).loop = s.loop := (rfl)
@[simp] theorem State.clearField_edge (a : Nat) (f : Field) : (s.clearField a f).edge = s.edge := (rfl)
@[simp] theorem State.clearField_qset (a : Nat) (f : Field) : (s.clearField a f).qset = s.qset := (rfl)
@[simp] theorem State.clearField_ring (a : Nat) (f : Field) : (s.clearField a f).ring = s.ring := (rfl)
@[simp] theorem State.clearField_sst (a : Nat) (f : Field) : (s.clearField a f).sst = s.sst := (rfl)
@[simp] theorem State.clearField_outs (a : Nat) (f : Field) : (s.clearField a f).outs = s.outs := (rfl)
@[simp] theorem State.clearField_aloc (a : Nat) (f : Field) : (s.clearField a f).aloc = s.aloc := (rfl)
@[simp] theorem State.clearField_cool (a : Nat) (f : Field) : (s.clearField a f).cool = s.cool := (rfl)
@[simp] theorem State.clearField_outl (a : Nat) (f : Field) : (s.clearField a f).outl = s.outl := (rfl)
@[simp] theorem State.clearField_safe (a : Nat) (f : Field) : (s.clearField a f).safe = s.safe := (rfl)
@[simp] theorem State.clearField_metr (a : Nat) (f : Field) : (s.clearField a f).metr = s.metr := (rfl)
@[simp] theorem State.clearField_bill (a : Nat) (f : Field) : (s.clearField a f).bill = s.bill := (rfl)
@[simp] theorem State.clearField_acq (a : Nat) (f : Field) : (s.clearField a f).acq = s.acq := (rfl)
@[simp] theorem State.clearField_can (a : Nat) (f : Field) : (s.clearField a f).can = s.can := (rfl)
@[simp] theorem State.clearField_lsw (a : Nat) (f : Field) : (s.clearField a f).lsw = s.lsw := (rfl)
@[simp] theorem State.clearField_mem (a : Nat) (f : Field) : (s.clearField a f).mem = s.mem := (rfl)
@[simp] theorem State.clearField_sup (a : Nat) (f : Field) : (s.clearField a f).sup = s.sup := (rfl)
@[simp] theorem State.clearField_bytes (a : Nat) (f : Field) : (s.clearField a f).bytes = s.bytes := (rfl)
@[simp] theorem State.clearField_recent (a : Nat) (f : Field) : (s.clearField a f).recent = s.recent := (rfl)
@[simp] theorem State.clearField_owed (a : Nat) (f : Field) : (s.clearField a f).owed = s.owed := (rfl)
@[simp] theorem State.clearField_free (a : Nat) (f : Field) : (s.clearField a f).free = s.free := (rfl)

@[simp] theorem State.peak_pending (a : Nat) (f : Field) (v : Nat) : (s.peak a f v).pending = s.pending := (rfl)
@[simp] theorem State.peak_variant (a : Nat) (f : Field) (v : Nat) : (s.peak a f v).variant = s.variant := (rfl)
@[simp] theorem State.peak_pregs (a : Nat) (f : Field) (v : Nat) : (s.peak a f v).pregs = s.pregs := (rfl)
@[simp] theorem State.peak_tm (a : Nat) (f : Field) (v : Nat) : (s.peak a f v).tm = s.tm := (rfl)
@[simp] theorem State.peak_queues (a : Nat) (f : Field) (v : Nat) : (s.peak a f v).queues = s.queues := (rfl)
@[simp] theorem State.peak_tags (a : Nat) (f : Field) (v : Nat) : (s.peak a f v).tags = s.tags := (rfl)
@[simp] theorem State.peak_ev (a : Nat) (f : Field) (v : Nat) : (s.peak a f v).ev = s.ev := (rfl)
@[simp] theorem State.peak_img (a : Nat) (f : Field) (v : Nat) : (s.peak a f v).img = s.img := (rfl)
@[simp] theorem State.peak_ctx (a : Nat) (f : Field) (v : Nat) : (s.peak a f v).ctx = s.ctx := (rfl)
@[simp] theorem State.peak_keep (a : Nat) (f : Field) (v : Nat) : (s.peak a f v).keep = s.keep := (rfl)
@[simp] theorem State.peak_host (a : Nat) (f : Field) (v : Nat) : (s.peak a f v).host = s.host := (rfl)
@[simp] theorem State.peak_loop (a : Nat) (f : Field) (v : Nat) : (s.peak a f v).loop = s.loop := (rfl)
@[simp] theorem State.peak_edge (a : Nat) (f : Field) (v : Nat) : (s.peak a f v).edge = s.edge := (rfl)
@[simp] theorem State.peak_qset (a : Nat) (f : Field) (v : Nat) : (s.peak a f v).qset = s.qset := (rfl)
@[simp] theorem State.peak_ring (a : Nat) (f : Field) (v : Nat) : (s.peak a f v).ring = s.ring := (rfl)
@[simp] theorem State.peak_sst (a : Nat) (f : Field) (v : Nat) : (s.peak a f v).sst = s.sst := (rfl)
@[simp] theorem State.peak_outs (a : Nat) (f : Field) (v : Nat) : (s.peak a f v).outs = s.outs := (rfl)
@[simp] theorem State.peak_aloc (a : Nat) (f : Field) (v : Nat) : (s.peak a f v).aloc = s.aloc := (rfl)
@[simp] theorem State.peak_cool (a : Nat) (f : Field) (v : Nat) : (s.peak a f v).cool = s.cool := (rfl)
@[simp] theorem State.peak_outl (a : Nat) (f : Field) (v : Nat) : (s.peak a f v).outl = s.outl := (rfl)
@[simp] theorem State.peak_safe (a : Nat) (f : Field) (v : Nat) : (s.peak a f v).safe = s.safe := (rfl)
@[simp] theorem State.peak_metr (a : Nat) (f : Field) (v : Nat) : (s.peak a f v).metr = s.metr := (rfl)
@[simp] theorem State.peak_bill (a : Nat) (f : Field) (v : Nat) : (s.peak a f v).bill = s.bill := (rfl)
@[simp] theorem State.peak_acq (a : Nat) (f : Field) (v : Nat) : (s.peak a f v).acq = s.acq := (rfl)
@[simp] theorem State.peak_can (a : Nat) (f : Field) (v : Nat) : (s.peak a f v).can = s.can := (rfl)
@[simp] theorem State.peak_lsw (a : Nat) (f : Field) (v : Nat) : (s.peak a f v).lsw = s.lsw := (rfl)
@[simp] theorem State.peak_mem (a : Nat) (f : Field) (v : Nat) : (s.peak a f v).mem = s.mem := (rfl)
@[simp] theorem State.peak_sup (a : Nat) (f : Field) (v : Nat) : (s.peak a f v).sup = s.sup := (rfl)
@[simp] theorem State.peak_bytes (a : Nat) (f : Field) (v : Nat) : (s.peak a f v).bytes = s.bytes := (rfl)
@[simp] theorem State.peak_recent (a : Nat) (f : Field) (v : Nat) : (s.peak a f v).recent = s.recent := (rfl)
@[simp] theorem State.peak_owed (a : Nat) (f : Field) (v : Nat) : (s.peak a f v).owed = s.owed := (rfl)
@[simp] theorem State.peak_free (a : Nat) (f : Field) (v : Nat) : (s.peak a f v).free = s.free := (rfl)

@[simp] theorem State.bump_pending (a : Nat) (f : Field) (n : Nat) : (s.bump a f n).pending = s.pending := (rfl)
@[simp] theorem State.bump_variant (a : Nat) (f : Field) (n : Nat) : (s.bump a f n).variant = s.variant := (rfl)
@[simp] theorem State.bump_pregs (a : Nat) (f : Field) (n : Nat) : (s.bump a f n).pregs = s.pregs := (rfl)
@[simp] theorem State.bump_tm (a : Nat) (f : Field) (n : Nat) : (s.bump a f n).tm = s.tm := (rfl)
@[simp] theorem State.bump_queues (a : Nat) (f : Field) (n : Nat) : (s.bump a f n).queues = s.queues := (rfl)
@[simp] theorem State.bump_tags (a : Nat) (f : Field) (n : Nat) : (s.bump a f n).tags = s.tags := (rfl)
@[simp] theorem State.bump_ev (a : Nat) (f : Field) (n : Nat) : (s.bump a f n).ev = s.ev := (rfl)
@[simp] theorem State.bump_img (a : Nat) (f : Field) (n : Nat) : (s.bump a f n).img = s.img := (rfl)
@[simp] theorem State.bump_ctx (a : Nat) (f : Field) (n : Nat) : (s.bump a f n).ctx = s.ctx := (rfl)
@[simp] theorem State.bump_keep (a : Nat) (f : Field) (n : Nat) : (s.bump a f n).keep = s.keep := (rfl)
@[simp] theorem State.bump_host (a : Nat) (f : Field) (n : Nat) : (s.bump a f n).host = s.host := (rfl)
@[simp] theorem State.bump_loop (a : Nat) (f : Field) (n : Nat) : (s.bump a f n).loop = s.loop := (rfl)
@[simp] theorem State.bump_edge (a : Nat) (f : Field) (n : Nat) : (s.bump a f n).edge = s.edge := (rfl)
@[simp] theorem State.bump_qset (a : Nat) (f : Field) (n : Nat) : (s.bump a f n).qset = s.qset := (rfl)
@[simp] theorem State.bump_ring (a : Nat) (f : Field) (n : Nat) : (s.bump a f n).ring = s.ring := (rfl)
@[simp] theorem State.bump_sst (a : Nat) (f : Field) (n : Nat) : (s.bump a f n).sst = s.sst := (rfl)
@[simp] theorem State.bump_outs (a : Nat) (f : Field) (n : Nat) : (s.bump a f n).outs = s.outs := (rfl)
@[simp] theorem State.bump_aloc (a : Nat) (f : Field) (n : Nat) : (s.bump a f n).aloc = s.aloc := (rfl)
@[simp] theorem State.bump_cool (a : Nat) (f : Field) (n : Nat) : (s.bump a f n).cool = s.cool := (rfl)
@[simp] theorem State.bump_outl (a : Nat) (f : Field) (n : Nat) : (s.bump a f n).outl = s.outl := (rfl)
@[simp] theorem State.bump_safe (a : Nat) (f : Field) (n : Nat) : (s.bump a f n).safe = s.safe := (rfl)
@[simp] theorem State.bump_metr (a : Nat) (f : Field) (n : Nat) : (s.bump a f n).metr = s.metr := (rfl)
@[simp] theorem State.bump_bill (a : Nat) (f : Field) (n : Nat) : (s.bump a f n).bill = s.bill := (rfl)
@[simp] theorem State.bump_acq (a : Nat) (f : Field) (n : Nat) : (s.bump a f n).acq = s.acq := (rfl)
@[simp] theorem State.bump_can (a : Nat) (f : Field) (n : Nat) : (s.bump a f n).can = s.can := (rfl)
@[simp] theorem State.bump_lsw (a : Nat) (f : Field) (n : Nat) : (s.bump a f n).lsw = s.lsw := (rfl)
@[simp] theorem State.bump_mem (a : Nat) (f : Field) (n : Nat) : (s.bump a f n).mem = s.mem := (rfl)
@[simp] theorem State.bump_sup (a : Nat) (f : Field) (n : Nat) : (s.bump a f n).sup = s.sup := (rfl)
@[simp] theorem State.bump_bytes (a : Nat) (f : Field) (n : Nat) : (s.bump a f n).bytes = s.bytes := (rfl)
@[simp] theorem State.bump_owed (a : Nat) (f : Field) (n : Nat) : (s.bump a f n).owed = s.owed := (rfl)
@[simp] theorem State.bump_free (a : Nat) (f : Field) (n : Nat) : (s.bump a f n).free = s.free := (rfl)

@[simp] theorem State.raise_pending (a : Nat) (f : Field) : (s.raise a f).pending = s.pending := (rfl)
@[simp] theorem State.raise_variant (a : Nat) (f : Field) : (s.raise a f).variant = s.variant := (rfl)
@[simp] theorem State.raise_pregs (a : Nat) (f : Field) : (s.raise a f).pregs = s.pregs := (rfl)
@[simp] theorem State.raise_tm (a : Nat) (f : Field) : (s.raise a f).tm = s.tm := (rfl)
@[simp] theorem State.raise_queues (a : Nat) (f : Field) : (s.raise a f).queues = s.queues := (rfl)
@[simp] theorem State.raise_tags (a : Nat) (f : Field) : (s.raise a f).tags = s.tags := (rfl)
@[simp] theorem State.raise_ev (a : Nat) (f : Field) : (s.raise a f).ev = s.ev := (rfl)
@[simp] theorem State.raise_img (a : Nat) (f : Field) : (s.raise a f).img = s.img := (rfl)
@[simp] theorem State.raise_ctx (a : Nat) (f : Field) : (s.raise a f).ctx = s.ctx := (rfl)
@[simp] theorem State.raise_keep (a : Nat) (f : Field) : (s.raise a f).keep = s.keep := (rfl)
@[simp] theorem State.raise_host (a : Nat) (f : Field) : (s.raise a f).host = s.host := (rfl)
@[simp] theorem State.raise_loop (a : Nat) (f : Field) : (s.raise a f).loop = s.loop := (rfl)
@[simp] theorem State.raise_edge (a : Nat) (f : Field) : (s.raise a f).edge = s.edge := (rfl)
@[simp] theorem State.raise_qset (a : Nat) (f : Field) : (s.raise a f).qset = s.qset := (rfl)
@[simp] theorem State.raise_ring (a : Nat) (f : Field) : (s.raise a f).ring = s.ring := (rfl)
@[simp] theorem State.raise_sst (a : Nat) (f : Field) : (s.raise a f).sst = s.sst := (rfl)
@[simp] theorem State.raise_outs (a : Nat) (f : Field) : (s.raise a f).outs = s.outs := (rfl)
@[simp] theorem State.raise_aloc (a : Nat) (f : Field) : (s.raise a f).aloc = s.aloc := (rfl)
@[simp] theorem State.raise_cool (a : Nat) (f : Field) : (s.raise a f).cool = s.cool := (rfl)
@[simp] theorem State.raise_outl (a : Nat) (f : Field) : (s.raise a f).outl = s.outl := (rfl)
@[simp] theorem State.raise_safe (a : Nat) (f : Field) : (s.raise a f).safe = s.safe := (rfl)
@[simp] theorem State.raise_metr (a : Nat) (f : Field) : (s.raise a f).metr = s.metr := (rfl)
@[simp] theorem State.raise_bill (a : Nat) (f : Field) : (s.raise a f).bill = s.bill := (rfl)
@[simp] theorem State.raise_acq (a : Nat) (f : Field) : (s.raise a f).acq = s.acq := (rfl)
@[simp] theorem State.raise_can (a : Nat) (f : Field) : (s.raise a f).can = s.can := (rfl)
@[simp] theorem State.raise_lsw (a : Nat) (f : Field) : (s.raise a f).lsw = s.lsw := (rfl)
@[simp] theorem State.raise_mem (a : Nat) (f : Field) : (s.raise a f).mem = s.mem := (rfl)
@[simp] theorem State.raise_sup (a : Nat) (f : Field) : (s.raise a f).sup = s.sup := (rfl)
@[simp] theorem State.raise_bytes (a : Nat) (f : Field) : (s.raise a f).bytes = s.bytes := (rfl)
@[simp] theorem State.raise_owed (a : Nat) (f : Field) : (s.raise a f).owed = s.owed := (rfl)
@[simp] theorem State.raise_free (a : Nat) (f : Field) : (s.raise a f).free = s.free := (rfl)

@[simp] theorem State.pwr_pending (p : Path) (a : Nat) (v : Word) : (s.pwr p a v).pending = s.pending := (rfl)
@[simp] theorem State.pwr_variant (p : Path) (a : Nat) (v : Word) : (s.pwr p a v).variant = s.variant := (rfl)
@[simp] theorem State.pwr_regs (p : Path) (a : Nat) (v : Word) : (s.pwr p a v).regs = s.regs := (rfl)
@[simp] theorem State.pwr_tm (p : Path) (a : Nat) (v : Word) : (s.pwr p a v).tm = s.tm := (rfl)
@[simp] theorem State.pwr_queues (p : Path) (a : Nat) (v : Word) : (s.pwr p a v).queues = s.queues := (rfl)
@[simp] theorem State.pwr_tags (p : Path) (a : Nat) (v : Word) : (s.pwr p a v).tags = s.tags := (rfl)
@[simp] theorem State.pwr_ev (p : Path) (a : Nat) (v : Word) : (s.pwr p a v).ev = s.ev := (rfl)
@[simp] theorem State.pwr_img (p : Path) (a : Nat) (v : Word) : (s.pwr p a v).img = s.img := (rfl)
@[simp] theorem State.pwr_ctx (p : Path) (a : Nat) (v : Word) : (s.pwr p a v).ctx = s.ctx := (rfl)
@[simp] theorem State.pwr_keep (p : Path) (a : Nat) (v : Word) : (s.pwr p a v).keep = s.keep := (rfl)
@[simp] theorem State.pwr_host (p : Path) (a : Nat) (v : Word) : (s.pwr p a v).host = s.host := (rfl)
@[simp] theorem State.pwr_loop (p : Path) (a : Nat) (v : Word) : (s.pwr p a v).loop = s.loop := (rfl)
@[simp] theorem State.pwr_edge (p : Path) (a : Nat) (v : Word) : (s.pwr p a v).edge = s.edge := (rfl)
@[simp] theorem State.pwr_qset (p : Path) (a : Nat) (v : Word) : (s.pwr p a v).qset = s.qset := (rfl)
@[simp] theorem State.pwr_ring (p : Path) (a : Nat) (v : Word) : (s.pwr p a v).ring = s.ring := (rfl)
@[simp] theorem State.pwr_sst (p : Path) (a : Nat) (v : Word) : (s.pwr p a v).sst = s.sst := (rfl)
@[simp] theorem State.pwr_outs (p : Path) (a : Nat) (v : Word) : (s.pwr p a v).outs = s.outs := (rfl)
@[simp] theorem State.pwr_aloc (p : Path) (a : Nat) (v : Word) : (s.pwr p a v).aloc = s.aloc := (rfl)
@[simp] theorem State.pwr_cool (p : Path) (a : Nat) (v : Word) : (s.pwr p a v).cool = s.cool := (rfl)
@[simp] theorem State.pwr_outl (p : Path) (a : Nat) (v : Word) : (s.pwr p a v).outl = s.outl := (rfl)
@[simp] theorem State.pwr_safe (p : Path) (a : Nat) (v : Word) : (s.pwr p a v).safe = s.safe := (rfl)
@[simp] theorem State.pwr_metr (p : Path) (a : Nat) (v : Word) : (s.pwr p a v).metr = s.metr := (rfl)
@[simp] theorem State.pwr_bill (p : Path) (a : Nat) (v : Word) : (s.pwr p a v).bill = s.bill := (rfl)
@[simp] theorem State.pwr_acq (p : Path) (a : Nat) (v : Word) : (s.pwr p a v).acq = s.acq := (rfl)
@[simp] theorem State.pwr_can (p : Path) (a : Nat) (v : Word) : (s.pwr p a v).can = s.can := (rfl)
@[simp] theorem State.pwr_lsw (p : Path) (a : Nat) (v : Word) : (s.pwr p a v).lsw = s.lsw := (rfl)
@[simp] theorem State.pwr_mem (p : Path) (a : Nat) (v : Word) : (s.pwr p a v).mem = s.mem := (rfl)
@[simp] theorem State.pwr_sup (p : Path) (a : Nat) (v : Word) : (s.pwr p a v).sup = s.sup := (rfl)
@[simp] theorem State.pwr_bytes (p : Path) (a : Nat) (v : Word) : (s.pwr p a v).bytes = s.bytes := (rfl)
@[simp] theorem State.pwr_recent (p : Path) (a : Nat) (v : Word) : (s.pwr p a v).recent = s.recent := (rfl)
@[simp] theorem State.pwr_owed (p : Path) (a : Nat) (v : Word) : (s.pwr p a v).owed = s.owed := (rfl)
@[simp] theorem State.pwr_free (p : Path) (a : Nat) (v : Word) : (s.pwr p a v).free = s.free := (rfl)

@[simp] theorem State.tick_pending (n : Nat) : (s.tick n).pending = s.pending := (rfl)
@[simp] theorem State.tick_variant (n : Nat) : (s.tick n).variant = s.variant := (rfl)
@[simp] theorem State.tick_regs (n : Nat) : (s.tick n).regs = s.regs := (rfl)
@[simp] theorem State.tick_pregs (n : Nat) : (s.tick n).pregs = s.pregs := (rfl)
@[simp] theorem State.tick_queues (n : Nat) : (s.tick n).queues = s.queues := (rfl)
@[simp] theorem State.tick_tags (n : Nat) : (s.tick n).tags = s.tags := (rfl)
@[simp] theorem State.tick_ev (n : Nat) : (s.tick n).ev = s.ev := (rfl)
@[simp] theorem State.tick_img (n : Nat) : (s.tick n).img = s.img := (rfl)
@[simp] theorem State.tick_ctx (n : Nat) : (s.tick n).ctx = s.ctx := (rfl)
@[simp] theorem State.tick_keep (n : Nat) : (s.tick n).keep = s.keep := (rfl)
@[simp] theorem State.tick_host (n : Nat) : (s.tick n).host = s.host := (rfl)
@[simp] theorem State.tick_loop (n : Nat) : (s.tick n).loop = s.loop := (rfl)
@[simp] theorem State.tick_edge (n : Nat) : (s.tick n).edge = s.edge := (rfl)
@[simp] theorem State.tick_qset (n : Nat) : (s.tick n).qset = s.qset := (rfl)
@[simp] theorem State.tick_ring (n : Nat) : (s.tick n).ring = s.ring := (rfl)
@[simp] theorem State.tick_sst (n : Nat) : (s.tick n).sst = s.sst := (rfl)
@[simp] theorem State.tick_outs (n : Nat) : (s.tick n).outs = s.outs := (rfl)
@[simp] theorem State.tick_aloc (n : Nat) : (s.tick n).aloc = s.aloc := (rfl)
@[simp] theorem State.tick_cool (n : Nat) : (s.tick n).cool = s.cool := (rfl)
@[simp] theorem State.tick_outl (n : Nat) : (s.tick n).outl = s.outl := (rfl)
@[simp] theorem State.tick_safe (n : Nat) : (s.tick n).safe = s.safe := (rfl)
@[simp] theorem State.tick_metr (n : Nat) : (s.tick n).metr = s.metr := (rfl)
@[simp] theorem State.tick_bill (n : Nat) : (s.tick n).bill = s.bill := (rfl)
@[simp] theorem State.tick_acq (n : Nat) : (s.tick n).acq = s.acq := (rfl)
@[simp] theorem State.tick_can (n : Nat) : (s.tick n).can = s.can := (rfl)
@[simp] theorem State.tick_lsw (n : Nat) : (s.tick n).lsw = s.lsw := (rfl)
@[simp] theorem State.tick_mem (n : Nat) : (s.tick n).mem = s.mem := (rfl)
@[simp] theorem State.tick_sup (n : Nat) : (s.tick n).sup = s.sup := (rfl)
@[simp] theorem State.tick_bytes (n : Nat) : (s.tick n).bytes = s.bytes := (rfl)
@[simp] theorem State.tick_owed (n : Nat) : (s.tick n).owed = s.owed := (rfl)
@[simp] theorem State.tick_free (n : Nat) : (s.tick n).free = s.free := (rfl)

@[simp] theorem State.postFull_pending (c : Nat) (t : Count) (a : Word) (b : Bool) : (s.postFull c t a b).pending = s.pending := (rfl)
@[simp] theorem State.postFull_variant (c : Nat) (t : Count) (a : Word) (b : Bool) : (s.postFull c t a b).variant = s.variant := (rfl)
@[simp] theorem State.postFull_regs (c : Nat) (t : Count) (a : Word) (b : Bool) : (s.postFull c t a b).regs = s.regs := (rfl)
@[simp] theorem State.postFull_pregs (c : Nat) (t : Count) (a : Word) (b : Bool) : (s.postFull c t a b).pregs = s.pregs := (rfl)
@[simp] theorem State.postFull_tm (c : Nat) (t : Count) (a : Word) (b : Bool) : (s.postFull c t a b).tm = s.tm := (rfl)
@[simp] theorem State.postFull_queues (c : Nat) (t : Count) (a : Word) (b : Bool) : (s.postFull c t a b).queues = s.queues := (rfl)
@[simp] theorem State.postFull_tags (c : Nat) (t : Count) (a : Word) (b : Bool) : (s.postFull c t a b).tags = s.tags := (rfl)
@[simp] theorem State.postFull_img (c : Nat) (t : Count) (a : Word) (b : Bool) : (s.postFull c t a b).img = s.img := (rfl)
@[simp] theorem State.postFull_ctx (c : Nat) (t : Count) (a : Word) (b : Bool) : (s.postFull c t a b).ctx = s.ctx := (rfl)
@[simp] theorem State.postFull_keep (c : Nat) (t : Count) (a : Word) (b : Bool) : (s.postFull c t a b).keep = s.keep := (rfl)
@[simp] theorem State.postFull_host (c : Nat) (t : Count) (a : Word) (b : Bool) : (s.postFull c t a b).host = s.host := (rfl)
@[simp] theorem State.postFull_loop (c : Nat) (t : Count) (a : Word) (b : Bool) : (s.postFull c t a b).loop = s.loop := (rfl)
@[simp] theorem State.postFull_edge (c : Nat) (t : Count) (a : Word) (b : Bool) : (s.postFull c t a b).edge = s.edge := (rfl)
@[simp] theorem State.postFull_qset (c : Nat) (t : Count) (a : Word) (b : Bool) : (s.postFull c t a b).qset = s.qset := (rfl)
@[simp] theorem State.postFull_ring (c : Nat) (t : Count) (a : Word) (b : Bool) : (s.postFull c t a b).ring = s.ring := (rfl)
@[simp] theorem State.postFull_sst (c : Nat) (t : Count) (a : Word) (b : Bool) : (s.postFull c t a b).sst = s.sst := (rfl)
@[simp] theorem State.postFull_outs (c : Nat) (t : Count) (a : Word) (b : Bool) : (s.postFull c t a b).outs = s.outs := (rfl)
@[simp] theorem State.postFull_aloc (c : Nat) (t : Count) (a : Word) (b : Bool) : (s.postFull c t a b).aloc = s.aloc := (rfl)
@[simp] theorem State.postFull_cool (c : Nat) (t : Count) (a : Word) (b : Bool) : (s.postFull c t a b).cool = s.cool := (rfl)
@[simp] theorem State.postFull_outl (c : Nat) (t : Count) (a : Word) (b : Bool) : (s.postFull c t a b).outl = s.outl := (rfl)
@[simp] theorem State.postFull_safe (c : Nat) (t : Count) (a : Word) (b : Bool) : (s.postFull c t a b).safe = s.safe := (rfl)
@[simp] theorem State.postFull_metr (c : Nat) (t : Count) (a : Word) (b : Bool) : (s.postFull c t a b).metr = s.metr := (rfl)
@[simp] theorem State.postFull_bill (c : Nat) (t : Count) (a : Word) (b : Bool) : (s.postFull c t a b).bill = s.bill := (rfl)
@[simp] theorem State.postFull_acq (c : Nat) (t : Count) (a : Word) (b : Bool) : (s.postFull c t a b).acq = s.acq := (rfl)
@[simp] theorem State.postFull_can (c : Nat) (t : Count) (a : Word) (b : Bool) : (s.postFull c t a b).can = s.can := (rfl)
@[simp] theorem State.postFull_lsw (c : Nat) (t : Count) (a : Word) (b : Bool) : (s.postFull c t a b).lsw = s.lsw := (rfl)
@[simp] theorem State.postFull_mem (c : Nat) (t : Count) (a : Word) (b : Bool) : (s.postFull c t a b).mem = s.mem := (rfl)
@[simp] theorem State.postFull_sup (c : Nat) (t : Count) (a : Word) (b : Bool) : (s.postFull c t a b).sup = s.sup := (rfl)
@[simp] theorem State.postFull_bytes (c : Nat) (t : Count) (a : Word) (b : Bool) : (s.postFull c t a b).bytes = s.bytes := (rfl)
@[simp] theorem State.postFull_recent (c : Nat) (t : Count) (a : Word) (b : Bool) : (s.postFull c t a b).recent = s.recent := (rfl)
@[simp] theorem State.postFull_owed (c : Nat) (t : Count) (a : Word) (b : Bool) : (s.postFull c t a b).owed = s.owed := (rfl)
@[simp] theorem State.postFull_free (c : Nat) (t : Count) (a : Word) (b : Bool) : (s.postFull c t a b).free = s.free := (rfl)

@[simp] theorem State.postArg_pending (c : Nat) (a : Word) : (s.postArg c a).pending = s.pending := (rfl)
@[simp] theorem State.postArg_variant (c : Nat) (a : Word) : (s.postArg c a).variant = s.variant := (rfl)
@[simp] theorem State.postArg_regs (c : Nat) (a : Word) : (s.postArg c a).regs = s.regs := (rfl)
@[simp] theorem State.postArg_pregs (c : Nat) (a : Word) : (s.postArg c a).pregs = s.pregs := (rfl)
@[simp] theorem State.postArg_tm (c : Nat) (a : Word) : (s.postArg c a).tm = s.tm := (rfl)
@[simp] theorem State.postArg_queues (c : Nat) (a : Word) : (s.postArg c a).queues = s.queues := (rfl)
@[simp] theorem State.postArg_tags (c : Nat) (a : Word) : (s.postArg c a).tags = s.tags := (rfl)
@[simp] theorem State.postArg_img (c : Nat) (a : Word) : (s.postArg c a).img = s.img := (rfl)
@[simp] theorem State.postArg_ctx (c : Nat) (a : Word) : (s.postArg c a).ctx = s.ctx := (rfl)
@[simp] theorem State.postArg_keep (c : Nat) (a : Word) : (s.postArg c a).keep = s.keep := (rfl)
@[simp] theorem State.postArg_host (c : Nat) (a : Word) : (s.postArg c a).host = s.host := (rfl)
@[simp] theorem State.postArg_loop (c : Nat) (a : Word) : (s.postArg c a).loop = s.loop := (rfl)
@[simp] theorem State.postArg_edge (c : Nat) (a : Word) : (s.postArg c a).edge = s.edge := (rfl)
@[simp] theorem State.postArg_qset (c : Nat) (a : Word) : (s.postArg c a).qset = s.qset := (rfl)
@[simp] theorem State.postArg_ring (c : Nat) (a : Word) : (s.postArg c a).ring = s.ring := (rfl)
@[simp] theorem State.postArg_sst (c : Nat) (a : Word) : (s.postArg c a).sst = s.sst := (rfl)
@[simp] theorem State.postArg_outs (c : Nat) (a : Word) : (s.postArg c a).outs = s.outs := (rfl)
@[simp] theorem State.postArg_aloc (c : Nat) (a : Word) : (s.postArg c a).aloc = s.aloc := (rfl)
@[simp] theorem State.postArg_cool (c : Nat) (a : Word) : (s.postArg c a).cool = s.cool := (rfl)
@[simp] theorem State.postArg_outl (c : Nat) (a : Word) : (s.postArg c a).outl = s.outl := (rfl)
@[simp] theorem State.postArg_safe (c : Nat) (a : Word) : (s.postArg c a).safe = s.safe := (rfl)
@[simp] theorem State.postArg_metr (c : Nat) (a : Word) : (s.postArg c a).metr = s.metr := (rfl)
@[simp] theorem State.postArg_bill (c : Nat) (a : Word) : (s.postArg c a).bill = s.bill := (rfl)
@[simp] theorem State.postArg_acq (c : Nat) (a : Word) : (s.postArg c a).acq = s.acq := (rfl)
@[simp] theorem State.postArg_can (c : Nat) (a : Word) : (s.postArg c a).can = s.can := (rfl)
@[simp] theorem State.postArg_lsw (c : Nat) (a : Word) : (s.postArg c a).lsw = s.lsw := (rfl)
@[simp] theorem State.postArg_mem (c : Nat) (a : Word) : (s.postArg c a).mem = s.mem := (rfl)
@[simp] theorem State.postArg_sup (c : Nat) (a : Word) : (s.postArg c a).sup = s.sup := (rfl)
@[simp] theorem State.postArg_bytes (c : Nat) (a : Word) : (s.postArg c a).bytes = s.bytes := (rfl)
@[simp] theorem State.postArg_recent (c : Nat) (a : Word) : (s.postArg c a).recent = s.recent := (rfl)
@[simp] theorem State.postArg_owed (c : Nat) (a : Word) : (s.postArg c a).owed = s.owed := (rfl)
@[simp] theorem State.postArg_free (c : Nat) (a : Word) : (s.postArg c a).free = s.free := (rfl)

@[simp] theorem State.post_pending (c i u d : Nat) : (s.post c i u d).pending = s.pending := (rfl)
@[simp] theorem State.post_variant (c i u d : Nat) : (s.post c i u d).variant = s.variant := (rfl)
@[simp] theorem State.post_regs (c i u d : Nat) : (s.post c i u d).regs = s.regs := (rfl)
@[simp] theorem State.post_pregs (c i u d : Nat) : (s.post c i u d).pregs = s.pregs := (rfl)
@[simp] theorem State.post_tm (c i u d : Nat) : (s.post c i u d).tm = s.tm := (rfl)
@[simp] theorem State.post_queues (c i u d : Nat) : (s.post c i u d).queues = s.queues := (rfl)
@[simp] theorem State.post_tags (c i u d : Nat) : (s.post c i u d).tags = s.tags := (rfl)
@[simp] theorem State.post_img (c i u d : Nat) : (s.post c i u d).img = s.img := (rfl)
@[simp] theorem State.post_ctx (c i u d : Nat) : (s.post c i u d).ctx = s.ctx := (rfl)
@[simp] theorem State.post_keep (c i u d : Nat) : (s.post c i u d).keep = s.keep := (rfl)
@[simp] theorem State.post_host (c i u d : Nat) : (s.post c i u d).host = s.host := (rfl)
@[simp] theorem State.post_loop (c i u d : Nat) : (s.post c i u d).loop = s.loop := (rfl)
@[simp] theorem State.post_edge (c i u d : Nat) : (s.post c i u d).edge = s.edge := (rfl)
@[simp] theorem State.post_qset (c i u d : Nat) : (s.post c i u d).qset = s.qset := (rfl)
@[simp] theorem State.post_ring (c i u d : Nat) : (s.post c i u d).ring = s.ring := (rfl)
@[simp] theorem State.post_sst (c i u d : Nat) : (s.post c i u d).sst = s.sst := (rfl)
@[simp] theorem State.post_outs (c i u d : Nat) : (s.post c i u d).outs = s.outs := (rfl)
@[simp] theorem State.post_aloc (c i u d : Nat) : (s.post c i u d).aloc = s.aloc := (rfl)
@[simp] theorem State.post_cool (c i u d : Nat) : (s.post c i u d).cool = s.cool := (rfl)
@[simp] theorem State.post_outl (c i u d : Nat) : (s.post c i u d).outl = s.outl := (rfl)
@[simp] theorem State.post_safe (c i u d : Nat) : (s.post c i u d).safe = s.safe := (rfl)
@[simp] theorem State.post_metr (c i u d : Nat) : (s.post c i u d).metr = s.metr := (rfl)
@[simp] theorem State.post_bill (c i u d : Nat) : (s.post c i u d).bill = s.bill := (rfl)
@[simp] theorem State.post_acq (c i u d : Nat) : (s.post c i u d).acq = s.acq := (rfl)
@[simp] theorem State.post_can (c i u d : Nat) : (s.post c i u d).can = s.can := (rfl)
@[simp] theorem State.post_lsw (c i u d : Nat) : (s.post c i u d).lsw = s.lsw := (rfl)
@[simp] theorem State.post_mem (c i u d : Nat) : (s.post c i u d).mem = s.mem := (rfl)
@[simp] theorem State.post_sup (c i u d : Nat) : (s.post c i u d).sup = s.sup := (rfl)
@[simp] theorem State.post_bytes (c i u d : Nat) : (s.post c i u d).bytes = s.bytes := (rfl)
@[simp] theorem State.post_recent (c i u d : Nat) : (s.post c i u d).recent = s.recent := (rfl)
@[simp] theorem State.post_owed (c i u d : Nat) : (s.post c i u d).owed = s.owed := (rfl)
@[simp] theorem State.post_free (c i u d : Nat) : (s.post c i u d).free = s.free := (rfl)

@[simp] theorem State.forget_pending (c i : Nat) : (s.forget c i).pending = s.pending := (rfl)
@[simp] theorem State.forget_variant (c i : Nat) : (s.forget c i).variant = s.variant := (rfl)
@[simp] theorem State.forget_regs (c i : Nat) : (s.forget c i).regs = s.regs := (rfl)
@[simp] theorem State.forget_pregs (c i : Nat) : (s.forget c i).pregs = s.pregs := (rfl)
@[simp] theorem State.forget_tm (c i : Nat) : (s.forget c i).tm = s.tm := (rfl)
@[simp] theorem State.forget_queues (c i : Nat) : (s.forget c i).queues = s.queues := (rfl)
@[simp] theorem State.forget_tags (c i : Nat) : (s.forget c i).tags = s.tags := (rfl)
@[simp] theorem State.forget_img (c i : Nat) : (s.forget c i).img = s.img := (rfl)
@[simp] theorem State.forget_ctx (c i : Nat) : (s.forget c i).ctx = s.ctx := (rfl)
@[simp] theorem State.forget_keep (c i : Nat) : (s.forget c i).keep = s.keep := (rfl)
@[simp] theorem State.forget_host (c i : Nat) : (s.forget c i).host = s.host := (rfl)
@[simp] theorem State.forget_loop (c i : Nat) : (s.forget c i).loop = s.loop := (rfl)
@[simp] theorem State.forget_edge (c i : Nat) : (s.forget c i).edge = s.edge := (rfl)
@[simp] theorem State.forget_qset (c i : Nat) : (s.forget c i).qset = s.qset := (rfl)
@[simp] theorem State.forget_ring (c i : Nat) : (s.forget c i).ring = s.ring := (rfl)
@[simp] theorem State.forget_sst (c i : Nat) : (s.forget c i).sst = s.sst := (rfl)
@[simp] theorem State.forget_outs (c i : Nat) : (s.forget c i).outs = s.outs := (rfl)
@[simp] theorem State.forget_aloc (c i : Nat) : (s.forget c i).aloc = s.aloc := (rfl)
@[simp] theorem State.forget_cool (c i : Nat) : (s.forget c i).cool = s.cool := (rfl)
@[simp] theorem State.forget_outl (c i : Nat) : (s.forget c i).outl = s.outl := (rfl)
@[simp] theorem State.forget_safe (c i : Nat) : (s.forget c i).safe = s.safe := (rfl)
@[simp] theorem State.forget_metr (c i : Nat) : (s.forget c i).metr = s.metr := (rfl)
@[simp] theorem State.forget_bill (c i : Nat) : (s.forget c i).bill = s.bill := (rfl)
@[simp] theorem State.forget_acq (c i : Nat) : (s.forget c i).acq = s.acq := (rfl)
@[simp] theorem State.forget_can (c i : Nat) : (s.forget c i).can = s.can := (rfl)
@[simp] theorem State.forget_lsw (c i : Nat) : (s.forget c i).lsw = s.lsw := (rfl)
@[simp] theorem State.forget_mem (c i : Nat) : (s.forget c i).mem = s.mem := (rfl)
@[simp] theorem State.forget_sup (c i : Nat) : (s.forget c i).sup = s.sup := (rfl)
@[simp] theorem State.forget_bytes (c i : Nat) : (s.forget c i).bytes = s.bytes := (rfl)
@[simp] theorem State.forget_recent (c i : Nat) : (s.forget c i).recent = s.recent := (rfl)
@[simp] theorem State.forget_owed (c i : Nat) : (s.forget c i).owed = s.owed := (rfl)
@[simp] theorem State.forget_free (c i : Nat) : (s.forget c i).free = s.free := (rfl)

@[simp] theorem State.setQueue_pending (x : Side) (q : Nat) (v : Queue) : (s.setQueue x q v).pending = s.pending := (rfl)
@[simp] theorem State.setQueue_variant (x : Side) (q : Nat) (v : Queue) : (s.setQueue x q v).variant = s.variant := (rfl)
@[simp] theorem State.setQueue_regs (x : Side) (q : Nat) (v : Queue) : (s.setQueue x q v).regs = s.regs := (rfl)
@[simp] theorem State.setQueue_pregs (x : Side) (q : Nat) (v : Queue) : (s.setQueue x q v).pregs = s.pregs := (rfl)
@[simp] theorem State.setQueue_tm (x : Side) (q : Nat) (v : Queue) : (s.setQueue x q v).tm = s.tm := (rfl)
@[simp] theorem State.setQueue_tags (x : Side) (q : Nat) (v : Queue) : (s.setQueue x q v).tags = s.tags := (rfl)
@[simp] theorem State.setQueue_ev (x : Side) (q : Nat) (v : Queue) : (s.setQueue x q v).ev = s.ev := (rfl)
@[simp] theorem State.setQueue_img (x : Side) (q : Nat) (v : Queue) : (s.setQueue x q v).img = s.img := (rfl)
@[simp] theorem State.setQueue_ctx (x : Side) (q : Nat) (v : Queue) : (s.setQueue x q v).ctx = s.ctx := (rfl)
@[simp] theorem State.setQueue_keep (x : Side) (q : Nat) (v : Queue) : (s.setQueue x q v).keep = s.keep := (rfl)
@[simp] theorem State.setQueue_host (x : Side) (q : Nat) (v : Queue) : (s.setQueue x q v).host = s.host := (rfl)
@[simp] theorem State.setQueue_loop (x : Side) (q : Nat) (v : Queue) : (s.setQueue x q v).loop = s.loop := (rfl)
@[simp] theorem State.setQueue_edge (x : Side) (q : Nat) (v : Queue) : (s.setQueue x q v).edge = s.edge := (rfl)
@[simp] theorem State.setQueue_qset (x : Side) (q : Nat) (v : Queue) : (s.setQueue x q v).qset = s.qset := (rfl)
@[simp] theorem State.setQueue_ring (x : Side) (q : Nat) (v : Queue) : (s.setQueue x q v).ring = s.ring := (rfl)
@[simp] theorem State.setQueue_sst (x : Side) (q : Nat) (v : Queue) : (s.setQueue x q v).sst = s.sst := (rfl)
@[simp] theorem State.setQueue_outs (x : Side) (q : Nat) (v : Queue) : (s.setQueue x q v).outs = s.outs := (rfl)
@[simp] theorem State.setQueue_aloc (x : Side) (q : Nat) (v : Queue) : (s.setQueue x q v).aloc = s.aloc := (rfl)
@[simp] theorem State.setQueue_cool (x : Side) (q : Nat) (v : Queue) : (s.setQueue x q v).cool = s.cool := (rfl)
@[simp] theorem State.setQueue_outl (x : Side) (q : Nat) (v : Queue) : (s.setQueue x q v).outl = s.outl := (rfl)
@[simp] theorem State.setQueue_safe (x : Side) (q : Nat) (v : Queue) : (s.setQueue x q v).safe = s.safe := (rfl)
@[simp] theorem State.setQueue_metr (x : Side) (q : Nat) (v : Queue) : (s.setQueue x q v).metr = s.metr := (rfl)
@[simp] theorem State.setQueue_bill (x : Side) (q : Nat) (v : Queue) : (s.setQueue x q v).bill = s.bill := (rfl)
@[simp] theorem State.setQueue_acq (x : Side) (q : Nat) (v : Queue) : (s.setQueue x q v).acq = s.acq := (rfl)
@[simp] theorem State.setQueue_can (x : Side) (q : Nat) (v : Queue) : (s.setQueue x q v).can = s.can := (rfl)
@[simp] theorem State.setQueue_lsw (x : Side) (q : Nat) (v : Queue) : (s.setQueue x q v).lsw = s.lsw := (rfl)
@[simp] theorem State.setQueue_mem (x : Side) (q : Nat) (v : Queue) : (s.setQueue x q v).mem = s.mem := (rfl)
@[simp] theorem State.setQueue_sup (x : Side) (q : Nat) (v : Queue) : (s.setQueue x q v).sup = s.sup := (rfl)
@[simp] theorem State.setQueue_bytes (x : Side) (q : Nat) (v : Queue) : (s.setQueue x q v).bytes = s.bytes := (rfl)
@[simp] theorem State.setQueue_recent (x : Side) (q : Nat) (v : Queue) : (s.setQueue x q v).recent = s.recent := (rfl)
@[simp] theorem State.setQueue_owed (x : Side) (q : Nat) (v : Queue) : (s.setQueue x q v).owed = s.owed := (rfl)
@[simp] theorem State.setQueue_free (x : Side) (q : Nat) (v : Queue) : (s.setQueue x q v).free = s.free := (rfl)

@[simp] theorem State.setContext_pending (n : Nat) (c : Ctx) : (s.setContext n c).pending = s.pending := (rfl)
@[simp] theorem State.setContext_variant (n : Nat) (c : Ctx) : (s.setContext n c).variant = s.variant := (rfl)
@[simp] theorem State.setContext_regs (n : Nat) (c : Ctx) : (s.setContext n c).regs = s.regs := (rfl)
@[simp] theorem State.setContext_pregs (n : Nat) (c : Ctx) : (s.setContext n c).pregs = s.pregs := (rfl)
@[simp] theorem State.setContext_tm (n : Nat) (c : Ctx) : (s.setContext n c).tm = s.tm := (rfl)
@[simp] theorem State.setContext_queues (n : Nat) (c : Ctx) : (s.setContext n c).queues = s.queues := (rfl)
@[simp] theorem State.setContext_tags (n : Nat) (c : Ctx) : (s.setContext n c).tags = s.tags := (rfl)
@[simp] theorem State.setContext_ev (n : Nat) (c : Ctx) : (s.setContext n c).ev = s.ev := (rfl)
@[simp] theorem State.setContext_img (n : Nat) (c : Ctx) : (s.setContext n c).img = s.img := (rfl)
@[simp] theorem State.setContext_keep (n : Nat) (c : Ctx) : (s.setContext n c).keep = s.keep := (rfl)
@[simp] theorem State.setContext_host (n : Nat) (c : Ctx) : (s.setContext n c).host = s.host := (rfl)
@[simp] theorem State.setContext_loop (n : Nat) (c : Ctx) : (s.setContext n c).loop = s.loop := (rfl)
@[simp] theorem State.setContext_edge (n : Nat) (c : Ctx) : (s.setContext n c).edge = s.edge := (rfl)
@[simp] theorem State.setContext_qset (n : Nat) (c : Ctx) : (s.setContext n c).qset = s.qset := (rfl)
@[simp] theorem State.setContext_ring (n : Nat) (c : Ctx) : (s.setContext n c).ring = s.ring := (rfl)
@[simp] theorem State.setContext_sst (n : Nat) (c : Ctx) : (s.setContext n c).sst = s.sst := (rfl)
@[simp] theorem State.setContext_outs (n : Nat) (c : Ctx) : (s.setContext n c).outs = s.outs := (rfl)
@[simp] theorem State.setContext_aloc (n : Nat) (c : Ctx) : (s.setContext n c).aloc = s.aloc := (rfl)
@[simp] theorem State.setContext_cool (n : Nat) (c : Ctx) : (s.setContext n c).cool = s.cool := (rfl)
@[simp] theorem State.setContext_outl (n : Nat) (c : Ctx) : (s.setContext n c).outl = s.outl := (rfl)
@[simp] theorem State.setContext_safe (n : Nat) (c : Ctx) : (s.setContext n c).safe = s.safe := (rfl)
@[simp] theorem State.setContext_metr (n : Nat) (c : Ctx) : (s.setContext n c).metr = s.metr := (rfl)
@[simp] theorem State.setContext_bill (n : Nat) (c : Ctx) : (s.setContext n c).bill = s.bill := (rfl)
@[simp] theorem State.setContext_acq (n : Nat) (c : Ctx) : (s.setContext n c).acq = s.acq := (rfl)
@[simp] theorem State.setContext_can (n : Nat) (c : Ctx) : (s.setContext n c).can = s.can := (rfl)
@[simp] theorem State.setContext_lsw (n : Nat) (c : Ctx) : (s.setContext n c).lsw = s.lsw := (rfl)
@[simp] theorem State.setContext_mem (n : Nat) (c : Ctx) : (s.setContext n c).mem = s.mem := (rfl)
@[simp] theorem State.setContext_sup (n : Nat) (c : Ctx) : (s.setContext n c).sup = s.sup := (rfl)
@[simp] theorem State.setContext_bytes (n : Nat) (c : Ctx) : (s.setContext n c).bytes = s.bytes := (rfl)
@[simp] theorem State.setContext_recent (n : Nat) (c : Ctx) : (s.setContext n c).recent = s.recent := (rfl)
@[simp] theorem State.setContext_owed (n : Nat) (c : Ctx) : (s.setContext n c).owed = s.owed := (rfl)
@[simp] theorem State.setContext_free (n : Nat) (c : Ctx) : (s.setContext n c).free = s.free := (rfl)

@[simp] theorem State.setByte_pending (k : Nat) (v : Byte) : (s.setByte k v).pending = s.pending := (rfl)
@[simp] theorem State.setByte_variant (k : Nat) (v : Byte) : (s.setByte k v).variant = s.variant := (rfl)
@[simp] theorem State.setByte_regs (k : Nat) (v : Byte) : (s.setByte k v).regs = s.regs := (rfl)
@[simp] theorem State.setByte_pregs (k : Nat) (v : Byte) : (s.setByte k v).pregs = s.pregs := (rfl)
@[simp] theorem State.setByte_tm (k : Nat) (v : Byte) : (s.setByte k v).tm = s.tm := (rfl)
@[simp] theorem State.setByte_queues (k : Nat) (v : Byte) : (s.setByte k v).queues = s.queues := (rfl)
@[simp] theorem State.setByte_tags (k : Nat) (v : Byte) : (s.setByte k v).tags = s.tags := (rfl)
@[simp] theorem State.setByte_ev (k : Nat) (v : Byte) : (s.setByte k v).ev = s.ev := (rfl)
@[simp] theorem State.setByte_img (k : Nat) (v : Byte) : (s.setByte k v).img = s.img := (rfl)
@[simp] theorem State.setByte_ctx (k : Nat) (v : Byte) : (s.setByte k v).ctx = s.ctx := (rfl)
@[simp] theorem State.setByte_keep (k : Nat) (v : Byte) : (s.setByte k v).keep = s.keep := (rfl)
@[simp] theorem State.setByte_host (k : Nat) (v : Byte) : (s.setByte k v).host = s.host := (rfl)
@[simp] theorem State.setByte_loop (k : Nat) (v : Byte) : (s.setByte k v).loop = s.loop := (rfl)
@[simp] theorem State.setByte_edge (k : Nat) (v : Byte) : (s.setByte k v).edge = s.edge := (rfl)
@[simp] theorem State.setByte_qset (k : Nat) (v : Byte) : (s.setByte k v).qset = s.qset := (rfl)
@[simp] theorem State.setByte_ring (k : Nat) (v : Byte) : (s.setByte k v).ring = s.ring := (rfl)
@[simp] theorem State.setByte_sst (k : Nat) (v : Byte) : (s.setByte k v).sst = s.sst := (rfl)
@[simp] theorem State.setByte_outs (k : Nat) (v : Byte) : (s.setByte k v).outs = s.outs := (rfl)
@[simp] theorem State.setByte_aloc (k : Nat) (v : Byte) : (s.setByte k v).aloc = s.aloc := (rfl)
@[simp] theorem State.setByte_cool (k : Nat) (v : Byte) : (s.setByte k v).cool = s.cool := (rfl)
@[simp] theorem State.setByte_outl (k : Nat) (v : Byte) : (s.setByte k v).outl = s.outl := (rfl)
@[simp] theorem State.setByte_safe (k : Nat) (v : Byte) : (s.setByte k v).safe = s.safe := (rfl)
@[simp] theorem State.setByte_metr (k : Nat) (v : Byte) : (s.setByte k v).metr = s.metr := (rfl)
@[simp] theorem State.setByte_bill (k : Nat) (v : Byte) : (s.setByte k v).bill = s.bill := (rfl)
@[simp] theorem State.setByte_acq (k : Nat) (v : Byte) : (s.setByte k v).acq = s.acq := (rfl)
@[simp] theorem State.setByte_can (k : Nat) (v : Byte) : (s.setByte k v).can = s.can := (rfl)
@[simp] theorem State.setByte_lsw (k : Nat) (v : Byte) : (s.setByte k v).lsw = s.lsw := (rfl)
@[simp] theorem State.setByte_mem (k : Nat) (v : Byte) : (s.setByte k v).mem = s.mem := (rfl)
@[simp] theorem State.setByte_sup (k : Nat) (v : Byte) : (s.setByte k v).sup = s.sup := (rfl)
@[simp] theorem State.setByte_recent (k : Nat) (v : Byte) : (s.setByte k v).recent = s.recent := (rfl)
@[simp] theorem State.setByte_owed (k : Nat) (v : Byte) : (s.setByte k v).owed = s.owed := (rfl)
@[simp] theorem State.setByte_free (k : Nat) (v : Byte) : (s.setByte k v).free = s.free := (rfl)

@[simp] theorem State.setWordAt_pending (k : Nat) (w : Word) : (s.setWordAt k w).pending = s.pending := by simp [State.setWordAt]
@[simp] theorem State.setWordAt_variant (k : Nat) (w : Word) : (s.setWordAt k w).variant = s.variant := by simp [State.setWordAt]
@[simp] theorem State.setWordAt_regs (k : Nat) (w : Word) : (s.setWordAt k w).regs = s.regs := by simp [State.setWordAt]
@[simp] theorem State.setWordAt_pregs (k : Nat) (w : Word) : (s.setWordAt k w).pregs = s.pregs := by simp [State.setWordAt]
@[simp] theorem State.setWordAt_tm (k : Nat) (w : Word) : (s.setWordAt k w).tm = s.tm := by simp [State.setWordAt]
@[simp] theorem State.setWordAt_queues (k : Nat) (w : Word) : (s.setWordAt k w).queues = s.queues := by simp [State.setWordAt]
@[simp] theorem State.setWordAt_tags (k : Nat) (w : Word) : (s.setWordAt k w).tags = s.tags := by simp [State.setWordAt]
@[simp] theorem State.setWordAt_ev (k : Nat) (w : Word) : (s.setWordAt k w).ev = s.ev := by simp [State.setWordAt]
@[simp] theorem State.setWordAt_img (k : Nat) (w : Word) : (s.setWordAt k w).img = s.img := by simp [State.setWordAt]
@[simp] theorem State.setWordAt_ctx (k : Nat) (w : Word) : (s.setWordAt k w).ctx = s.ctx := by simp [State.setWordAt]
@[simp] theorem State.setWordAt_keep (k : Nat) (w : Word) : (s.setWordAt k w).keep = s.keep := by simp [State.setWordAt]
@[simp] theorem State.setWordAt_host (k : Nat) (w : Word) : (s.setWordAt k w).host = s.host := by simp [State.setWordAt]
@[simp] theorem State.setWordAt_loop (k : Nat) (w : Word) : (s.setWordAt k w).loop = s.loop := by simp [State.setWordAt]
@[simp] theorem State.setWordAt_edge (k : Nat) (w : Word) : (s.setWordAt k w).edge = s.edge := by simp [State.setWordAt]
@[simp] theorem State.setWordAt_qset (k : Nat) (w : Word) : (s.setWordAt k w).qset = s.qset := by simp [State.setWordAt]
@[simp] theorem State.setWordAt_ring (k : Nat) (w : Word) : (s.setWordAt k w).ring = s.ring := by simp [State.setWordAt]
@[simp] theorem State.setWordAt_sst (k : Nat) (w : Word) : (s.setWordAt k w).sst = s.sst := by simp [State.setWordAt]
@[simp] theorem State.setWordAt_outs (k : Nat) (w : Word) : (s.setWordAt k w).outs = s.outs := by simp [State.setWordAt]
@[simp] theorem State.setWordAt_aloc (k : Nat) (w : Word) : (s.setWordAt k w).aloc = s.aloc := by simp [State.setWordAt]
@[simp] theorem State.setWordAt_cool (k : Nat) (w : Word) : (s.setWordAt k w).cool = s.cool := by simp [State.setWordAt]
@[simp] theorem State.setWordAt_outl (k : Nat) (w : Word) : (s.setWordAt k w).outl = s.outl := by simp [State.setWordAt]
@[simp] theorem State.setWordAt_safe (k : Nat) (w : Word) : (s.setWordAt k w).safe = s.safe := by simp [State.setWordAt]
@[simp] theorem State.setWordAt_metr (k : Nat) (w : Word) : (s.setWordAt k w).metr = s.metr := by simp [State.setWordAt]
@[simp] theorem State.setWordAt_bill (k : Nat) (w : Word) : (s.setWordAt k w).bill = s.bill := by simp [State.setWordAt]
@[simp] theorem State.setWordAt_acq (k : Nat) (w : Word) : (s.setWordAt k w).acq = s.acq := by simp [State.setWordAt]
@[simp] theorem State.setWordAt_can (k : Nat) (w : Word) : (s.setWordAt k w).can = s.can := by simp [State.setWordAt]
@[simp] theorem State.setWordAt_lsw (k : Nat) (w : Word) : (s.setWordAt k w).lsw = s.lsw := by simp [State.setWordAt]
@[simp] theorem State.setWordAt_mem (k : Nat) (w : Word) : (s.setWordAt k w).mem = s.mem := by simp [State.setWordAt]
@[simp] theorem State.setWordAt_sup (k : Nat) (w : Word) : (s.setWordAt k w).sup = s.sup := by simp [State.setWordAt]
@[simp] theorem State.setWordAt_recent (k : Nat) (w : Word) : (s.setWordAt k w).recent = s.recent := by simp [State.setWordAt]
@[simp] theorem State.setWordAt_owed (k : Nat) (w : Word) : (s.setWordAt k w).owed = s.owed := by simp [State.setWordAt]
@[simp] theorem State.setWordAt_free (k : Nat) (w : Word) : (s.setWordAt k w).free = s.free := by simp [State.setWordAt]

@[simp] theorem State.eraseBytes_pending (k n : Nat) : (s.eraseBytes k n).pending = s.pending := (rfl)
@[simp] theorem State.eraseBytes_variant (k n : Nat) : (s.eraseBytes k n).variant = s.variant := (rfl)
@[simp] theorem State.eraseBytes_regs (k n : Nat) : (s.eraseBytes k n).regs = s.regs := (rfl)
@[simp] theorem State.eraseBytes_pregs (k n : Nat) : (s.eraseBytes k n).pregs = s.pregs := (rfl)
@[simp] theorem State.eraseBytes_tm (k n : Nat) : (s.eraseBytes k n).tm = s.tm := (rfl)
@[simp] theorem State.eraseBytes_queues (k n : Nat) : (s.eraseBytes k n).queues = s.queues := (rfl)
@[simp] theorem State.eraseBytes_tags (k n : Nat) : (s.eraseBytes k n).tags = s.tags := (rfl)
@[simp] theorem State.eraseBytes_ev (k n : Nat) : (s.eraseBytes k n).ev = s.ev := (rfl)
@[simp] theorem State.eraseBytes_img (k n : Nat) : (s.eraseBytes k n).img = s.img := (rfl)
@[simp] theorem State.eraseBytes_ctx (k n : Nat) : (s.eraseBytes k n).ctx = s.ctx := (rfl)
@[simp] theorem State.eraseBytes_keep (k n : Nat) : (s.eraseBytes k n).keep = s.keep := (rfl)
@[simp] theorem State.eraseBytes_host (k n : Nat) : (s.eraseBytes k n).host = s.host := (rfl)
@[simp] theorem State.eraseBytes_loop (k n : Nat) : (s.eraseBytes k n).loop = s.loop := (rfl)
@[simp] theorem State.eraseBytes_edge (k n : Nat) : (s.eraseBytes k n).edge = s.edge := (rfl)
@[simp] theorem State.eraseBytes_qset (k n : Nat) : (s.eraseBytes k n).qset = s.qset := (rfl)
@[simp] theorem State.eraseBytes_ring (k n : Nat) : (s.eraseBytes k n).ring = s.ring := (rfl)
@[simp] theorem State.eraseBytes_sst (k n : Nat) : (s.eraseBytes k n).sst = s.sst := (rfl)
@[simp] theorem State.eraseBytes_outs (k n : Nat) : (s.eraseBytes k n).outs = s.outs := (rfl)
@[simp] theorem State.eraseBytes_aloc (k n : Nat) : (s.eraseBytes k n).aloc = s.aloc := (rfl)
@[simp] theorem State.eraseBytes_cool (k n : Nat) : (s.eraseBytes k n).cool = s.cool := (rfl)
@[simp] theorem State.eraseBytes_outl (k n : Nat) : (s.eraseBytes k n).outl = s.outl := (rfl)
@[simp] theorem State.eraseBytes_safe (k n : Nat) : (s.eraseBytes k n).safe = s.safe := (rfl)
@[simp] theorem State.eraseBytes_metr (k n : Nat) : (s.eraseBytes k n).metr = s.metr := (rfl)
@[simp] theorem State.eraseBytes_bill (k n : Nat) : (s.eraseBytes k n).bill = s.bill := (rfl)
@[simp] theorem State.eraseBytes_acq (k n : Nat) : (s.eraseBytes k n).acq = s.acq := (rfl)
@[simp] theorem State.eraseBytes_can (k n : Nat) : (s.eraseBytes k n).can = s.can := (rfl)
@[simp] theorem State.eraseBytes_lsw (k n : Nat) : (s.eraseBytes k n).lsw = s.lsw := (rfl)
@[simp] theorem State.eraseBytes_mem (k n : Nat) : (s.eraseBytes k n).mem = s.mem := (rfl)
@[simp] theorem State.eraseBytes_sup (k n : Nat) : (s.eraseBytes k n).sup = s.sup := (rfl)
@[simp] theorem State.eraseBytes_recent (k n : Nat) : (s.eraseBytes k n).recent = s.recent := (rfl)
@[simp] theorem State.eraseBytes_owed (k n : Nat) : (s.eraseBytes k n).owed = s.owed := (rfl)
@[simp] theorem State.eraseBytes_free (k n : Nat) : (s.eraseBytes k n).free = s.free := (rfl)

@[simp] theorem State.answer_pending (ws : List Word) (n : Nat) : (s.answer ws n).pending = s.pending := (rfl)
@[simp] theorem State.answer_variant (ws : List Word) (n : Nat) : (s.answer ws n).variant = s.variant := (rfl)
@[simp] theorem State.answer_regs (ws : List Word) (n : Nat) : (s.answer ws n).regs = s.regs := (rfl)
@[simp] theorem State.answer_pregs (ws : List Word) (n : Nat) : (s.answer ws n).pregs = s.pregs := (rfl)
@[simp] theorem State.answer_tm (ws : List Word) (n : Nat) : (s.answer ws n).tm = s.tm := (rfl)
@[simp] theorem State.answer_queues (ws : List Word) (n : Nat) : (s.answer ws n).queues = s.queues := (rfl)
@[simp] theorem State.answer_tags (ws : List Word) (n : Nat) : (s.answer ws n).tags = s.tags := (rfl)
@[simp] theorem State.answer_ev (ws : List Word) (n : Nat) : (s.answer ws n).ev = s.ev := (rfl)
@[simp] theorem State.answer_img (ws : List Word) (n : Nat) : (s.answer ws n).img = s.img := (rfl)
@[simp] theorem State.answer_ctx (ws : List Word) (n : Nat) : (s.answer ws n).ctx = s.ctx := (rfl)
@[simp] theorem State.answer_keep (ws : List Word) (n : Nat) : (s.answer ws n).keep = s.keep := (rfl)
@[simp] theorem State.answer_loop (ws : List Word) (n : Nat) : (s.answer ws n).loop = s.loop := (rfl)
@[simp] theorem State.answer_edge (ws : List Word) (n : Nat) : (s.answer ws n).edge = s.edge := (rfl)
@[simp] theorem State.answer_qset (ws : List Word) (n : Nat) : (s.answer ws n).qset = s.qset := (rfl)
@[simp] theorem State.answer_ring (ws : List Word) (n : Nat) : (s.answer ws n).ring = s.ring := (rfl)
@[simp] theorem State.answer_sst (ws : List Word) (n : Nat) : (s.answer ws n).sst = s.sst := (rfl)
@[simp] theorem State.answer_outs (ws : List Word) (n : Nat) : (s.answer ws n).outs = s.outs := (rfl)
@[simp] theorem State.answer_aloc (ws : List Word) (n : Nat) : (s.answer ws n).aloc = s.aloc := (rfl)
@[simp] theorem State.answer_cool (ws : List Word) (n : Nat) : (s.answer ws n).cool = s.cool := (rfl)
@[simp] theorem State.answer_outl (ws : List Word) (n : Nat) : (s.answer ws n).outl = s.outl := (rfl)
@[simp] theorem State.answer_safe (ws : List Word) (n : Nat) : (s.answer ws n).safe = s.safe := (rfl)
@[simp] theorem State.answer_metr (ws : List Word) (n : Nat) : (s.answer ws n).metr = s.metr := (rfl)
@[simp] theorem State.answer_bill (ws : List Word) (n : Nat) : (s.answer ws n).bill = s.bill := (rfl)
@[simp] theorem State.answer_acq (ws : List Word) (n : Nat) : (s.answer ws n).acq = s.acq := (rfl)
@[simp] theorem State.answer_can (ws : List Word) (n : Nat) : (s.answer ws n).can = s.can := (rfl)
@[simp] theorem State.answer_lsw (ws : List Word) (n : Nat) : (s.answer ws n).lsw = s.lsw := (rfl)
@[simp] theorem State.answer_mem (ws : List Word) (n : Nat) : (s.answer ws n).mem = s.mem := (rfl)
@[simp] theorem State.answer_sup (ws : List Word) (n : Nat) : (s.answer ws n).sup = s.sup := (rfl)
@[simp] theorem State.answer_bytes (ws : List Word) (n : Nat) : (s.answer ws n).bytes = s.bytes := (rfl)
@[simp] theorem State.answer_recent (ws : List Word) (n : Nat) : (s.answer ws n).recent = s.recent := (rfl)
@[simp] theorem State.answer_owed (ws : List Word) (n : Nat) : (s.answer ws n).owed = s.owed := (rfl)
@[simp] theorem State.answer_free (ws : List Word) (n : Nat) : (s.answer ws n).free = s.free := (rfl)

@[simp] theorem State.setErr_pending (b : Nat) (acc : Access) (a : Nat) : (s.setErr b acc a).pending = s.pending := by simp [State.setErr]
@[simp] theorem State.setErr_variant (b : Nat) (acc : Access) (a : Nat) : (s.setErr b acc a).variant = s.variant := by simp [State.setErr]
@[simp] theorem State.setErr_pregs (b : Nat) (acc : Access) (a : Nat) : (s.setErr b acc a).pregs = s.pregs := by simp [State.setErr]
@[simp] theorem State.setErr_tm (b : Nat) (acc : Access) (a : Nat) : (s.setErr b acc a).tm = s.tm := by simp [State.setErr]
@[simp] theorem State.setErr_queues (b : Nat) (acc : Access) (a : Nat) : (s.setErr b acc a).queues = s.queues := by simp [State.setErr]
@[simp] theorem State.setErr_tags (b : Nat) (acc : Access) (a : Nat) : (s.setErr b acc a).tags = s.tags := by simp [State.setErr]
@[simp] theorem State.setErr_ev (b : Nat) (acc : Access) (a : Nat) : (s.setErr b acc a).ev = s.ev := by simp [State.setErr]
@[simp] theorem State.setErr_img (b : Nat) (acc : Access) (a : Nat) : (s.setErr b acc a).img = s.img := by simp [State.setErr]
@[simp] theorem State.setErr_ctx (b : Nat) (acc : Access) (a : Nat) : (s.setErr b acc a).ctx = s.ctx := by simp [State.setErr]
@[simp] theorem State.setErr_keep (b : Nat) (acc : Access) (a : Nat) : (s.setErr b acc a).keep = s.keep := by simp [State.setErr]
@[simp] theorem State.setErr_host (b : Nat) (acc : Access) (a : Nat) : (s.setErr b acc a).host = s.host := by simp [State.setErr]
@[simp] theorem State.setErr_loop (b : Nat) (acc : Access) (a : Nat) : (s.setErr b acc a).loop = s.loop := by simp [State.setErr]
@[simp] theorem State.setErr_edge (b : Nat) (acc : Access) (a : Nat) : (s.setErr b acc a).edge = s.edge := by simp [State.setErr]
@[simp] theorem State.setErr_qset (b : Nat) (acc : Access) (a : Nat) : (s.setErr b acc a).qset = s.qset := by simp [State.setErr]
@[simp] theorem State.setErr_ring (b : Nat) (acc : Access) (a : Nat) : (s.setErr b acc a).ring = s.ring := by simp [State.setErr]
@[simp] theorem State.setErr_sst (b : Nat) (acc : Access) (a : Nat) : (s.setErr b acc a).sst = s.sst := by simp [State.setErr]
@[simp] theorem State.setErr_outs (b : Nat) (acc : Access) (a : Nat) : (s.setErr b acc a).outs = s.outs := by simp [State.setErr]
@[simp] theorem State.setErr_aloc (b : Nat) (acc : Access) (a : Nat) : (s.setErr b acc a).aloc = s.aloc := by simp [State.setErr]
@[simp] theorem State.setErr_cool (b : Nat) (acc : Access) (a : Nat) : (s.setErr b acc a).cool = s.cool := by simp [State.setErr]
@[simp] theorem State.setErr_outl (b : Nat) (acc : Access) (a : Nat) : (s.setErr b acc a).outl = s.outl := by simp [State.setErr]
@[simp] theorem State.setErr_safe (b : Nat) (acc : Access) (a : Nat) : (s.setErr b acc a).safe = s.safe := by simp [State.setErr]
@[simp] theorem State.setErr_metr (b : Nat) (acc : Access) (a : Nat) : (s.setErr b acc a).metr = s.metr := by simp [State.setErr]
@[simp] theorem State.setErr_bill (b : Nat) (acc : Access) (a : Nat) : (s.setErr b acc a).bill = s.bill := by simp [State.setErr]
@[simp] theorem State.setErr_acq (b : Nat) (acc : Access) (a : Nat) : (s.setErr b acc a).acq = s.acq := by simp [State.setErr]
@[simp] theorem State.setErr_can (b : Nat) (acc : Access) (a : Nat) : (s.setErr b acc a).can = s.can := by simp [State.setErr]
@[simp] theorem State.setErr_lsw (b : Nat) (acc : Access) (a : Nat) : (s.setErr b acc a).lsw = s.lsw := by simp [State.setErr]
@[simp] theorem State.setErr_mem (b : Nat) (acc : Access) (a : Nat) : (s.setErr b acc a).mem = s.mem := by simp [State.setErr]
@[simp] theorem State.setErr_sup (b : Nat) (acc : Access) (a : Nat) : (s.setErr b acc a).sup = s.sup := by simp [State.setErr]
@[simp] theorem State.setErr_bytes (b : Nat) (acc : Access) (a : Nat) : (s.setErr b acc a).bytes = s.bytes := by simp [State.setErr]
@[simp] theorem State.setErr_owed (b : Nat) (acc : Access) (a : Nat) : (s.setErr b acc a).owed = s.owed := by simp [State.setErr]
@[simp] theorem State.setErr_free (b : Nat) (acc : Access) (a : Nat) : (s.setErr b acc a).free = s.free := by simp [State.setErr]

@[simp] theorem State.deny_pending (acc : Access) (a : Nat) : (s.deny acc a).pending = s.pending := by simp [State.deny]
@[simp] theorem State.deny_variant (acc : Access) (a : Nat) : (s.deny acc a).variant = s.variant := by simp [State.deny]
@[simp] theorem State.deny_pregs (acc : Access) (a : Nat) : (s.deny acc a).pregs = s.pregs := by simp [State.deny]
@[simp] theorem State.deny_tm (acc : Access) (a : Nat) : (s.deny acc a).tm = s.tm := by simp [State.deny]
@[simp] theorem State.deny_queues (acc : Access) (a : Nat) : (s.deny acc a).queues = s.queues := by simp [State.deny]
@[simp] theorem State.deny_tags (acc : Access) (a : Nat) : (s.deny acc a).tags = s.tags := by simp [State.deny]
@[simp] theorem State.deny_img (acc : Access) (a : Nat) : (s.deny acc a).img = s.img := by simp [State.deny]
@[simp] theorem State.deny_ctx (acc : Access) (a : Nat) : (s.deny acc a).ctx = s.ctx := by simp [State.deny]
@[simp] theorem State.deny_keep (acc : Access) (a : Nat) : (s.deny acc a).keep = s.keep := by simp [State.deny]
@[simp] theorem State.deny_host (acc : Access) (a : Nat) : (s.deny acc a).host = s.host := by simp [State.deny]
@[simp] theorem State.deny_loop (acc : Access) (a : Nat) : (s.deny acc a).loop = s.loop := by simp [State.deny]
@[simp] theorem State.deny_edge (acc : Access) (a : Nat) : (s.deny acc a).edge = s.edge := by simp [State.deny]
@[simp] theorem State.deny_qset (acc : Access) (a : Nat) : (s.deny acc a).qset = s.qset := by simp [State.deny]
@[simp] theorem State.deny_ring (acc : Access) (a : Nat) : (s.deny acc a).ring = s.ring := by simp [State.deny]
@[simp] theorem State.deny_sst (acc : Access) (a : Nat) : (s.deny acc a).sst = s.sst := by simp [State.deny]
@[simp] theorem State.deny_outs (acc : Access) (a : Nat) : (s.deny acc a).outs = s.outs := by simp [State.deny]
@[simp] theorem State.deny_aloc (acc : Access) (a : Nat) : (s.deny acc a).aloc = s.aloc := by simp [State.deny]
@[simp] theorem State.deny_cool (acc : Access) (a : Nat) : (s.deny acc a).cool = s.cool := by simp [State.deny]
@[simp] theorem State.deny_outl (acc : Access) (a : Nat) : (s.deny acc a).outl = s.outl := by simp [State.deny]
@[simp] theorem State.deny_safe (acc : Access) (a : Nat) : (s.deny acc a).safe = s.safe := by simp [State.deny]
@[simp] theorem State.deny_metr (acc : Access) (a : Nat) : (s.deny acc a).metr = s.metr := by simp [State.deny]
@[simp] theorem State.deny_bill (acc : Access) (a : Nat) : (s.deny acc a).bill = s.bill := by simp [State.deny]
@[simp] theorem State.deny_acq (acc : Access) (a : Nat) : (s.deny acc a).acq = s.acq := by simp [State.deny]
@[simp] theorem State.deny_can (acc : Access) (a : Nat) : (s.deny acc a).can = s.can := by simp [State.deny]
@[simp] theorem State.deny_lsw (acc : Access) (a : Nat) : (s.deny acc a).lsw = s.lsw := by simp [State.deny]
@[simp] theorem State.deny_mem (acc : Access) (a : Nat) : (s.deny acc a).mem = s.mem := by simp [State.deny]
@[simp] theorem State.deny_sup (acc : Access) (a : Nat) : (s.deny acc a).sup = s.sup := by simp [State.deny]
@[simp] theorem State.deny_bytes (acc : Access) (a : Nat) : (s.deny acc a).bytes = s.bytes := by simp [State.deny]
@[simp] theorem State.deny_owed (acc : Access) (a : Nat) : (s.deny acc a).owed = s.owed := by simp [State.deny]
@[simp] theorem State.deny_free (acc : Access) (a : Nat) : (s.deny acc a).free = s.free := by simp [State.deny]

@[simp] theorem State.paramReject_pending (acc : Access) (a : Nat) : (s.paramReject acc a).pending = s.pending := (rfl)
@[simp] theorem State.paramReject_variant (acc : Access) (a : Nat) : (s.paramReject acc a).variant = s.variant := (rfl)
@[simp] theorem State.paramReject_regs (acc : Access) (a : Nat) : (s.paramReject acc a).regs = s.regs := (rfl)
@[simp] theorem State.paramReject_pregs (acc : Access) (a : Nat) : (s.paramReject acc a).pregs = s.pregs := (rfl)
@[simp] theorem State.paramReject_tm (acc : Access) (a : Nat) : (s.paramReject acc a).tm = s.tm := (rfl)
@[simp] theorem State.paramReject_queues (acc : Access) (a : Nat) : (s.paramReject acc a).queues = s.queues := (rfl)
@[simp] theorem State.paramReject_tags (acc : Access) (a : Nat) : (s.paramReject acc a).tags = s.tags := (rfl)
@[simp] theorem State.paramReject_img (acc : Access) (a : Nat) : (s.paramReject acc a).img = s.img := (rfl)
@[simp] theorem State.paramReject_ctx (acc : Access) (a : Nat) : (s.paramReject acc a).ctx = s.ctx := (rfl)
@[simp] theorem State.paramReject_keep (acc : Access) (a : Nat) : (s.paramReject acc a).keep = s.keep := (rfl)
@[simp] theorem State.paramReject_host (acc : Access) (a : Nat) : (s.paramReject acc a).host = s.host := (rfl)
@[simp] theorem State.paramReject_loop (acc : Access) (a : Nat) : (s.paramReject acc a).loop = s.loop := (rfl)
@[simp] theorem State.paramReject_edge (acc : Access) (a : Nat) : (s.paramReject acc a).edge = s.edge := (rfl)
@[simp] theorem State.paramReject_qset (acc : Access) (a : Nat) : (s.paramReject acc a).qset = s.qset := (rfl)
@[simp] theorem State.paramReject_ring (acc : Access) (a : Nat) : (s.paramReject acc a).ring = s.ring := (rfl)
@[simp] theorem State.paramReject_sst (acc : Access) (a : Nat) : (s.paramReject acc a).sst = s.sst := (rfl)
@[simp] theorem State.paramReject_outs (acc : Access) (a : Nat) : (s.paramReject acc a).outs = s.outs := (rfl)
@[simp] theorem State.paramReject_aloc (acc : Access) (a : Nat) : (s.paramReject acc a).aloc = s.aloc := (rfl)
@[simp] theorem State.paramReject_cool (acc : Access) (a : Nat) : (s.paramReject acc a).cool = s.cool := (rfl)
@[simp] theorem State.paramReject_outl (acc : Access) (a : Nat) : (s.paramReject acc a).outl = s.outl := (rfl)
@[simp] theorem State.paramReject_safe (acc : Access) (a : Nat) : (s.paramReject acc a).safe = s.safe := (rfl)
@[simp] theorem State.paramReject_metr (acc : Access) (a : Nat) : (s.paramReject acc a).metr = s.metr := (rfl)
@[simp] theorem State.paramReject_bill (acc : Access) (a : Nat) : (s.paramReject acc a).bill = s.bill := (rfl)
@[simp] theorem State.paramReject_acq (acc : Access) (a : Nat) : (s.paramReject acc a).acq = s.acq := (rfl)
@[simp] theorem State.paramReject_can (acc : Access) (a : Nat) : (s.paramReject acc a).can = s.can := (rfl)
@[simp] theorem State.paramReject_lsw (acc : Access) (a : Nat) : (s.paramReject acc a).lsw = s.lsw := (rfl)
@[simp] theorem State.paramReject_mem (acc : Access) (a : Nat) : (s.paramReject acc a).mem = s.mem := (rfl)
@[simp] theorem State.paramReject_sup (acc : Access) (a : Nat) : (s.paramReject acc a).sup = s.sup := (rfl)
@[simp] theorem State.paramReject_bytes (acc : Access) (a : Nat) : (s.paramReject acc a).bytes = s.bytes := (rfl)
@[simp] theorem State.paramReject_recent (acc : Access) (a : Nat) : (s.paramReject acc a).recent = s.recent := (rfl)
@[simp] theorem State.paramReject_owed (acc : Access) (a : Nat) : (s.paramReject acc a).owed = s.owed := (rfl)
@[simp] theorem State.paramReject_free (acc : Access) (a : Nat) : (s.paramReject acc a).free = s.free := (rfl)

/-- Two states are equal when every part is. -/
theorem State.eq_iff (s t : State) : s = t ↔ s.pending = t.pending ∧ s.variant = t.variant ∧ s.regs = t.regs ∧ s.pregs = t.pregs ∧ s.tm = t.tm ∧ s.queues = t.queues ∧ s.tags = t.tags ∧ s.ev = t.ev ∧ s.img = t.img ∧ s.ctx = t.ctx ∧ s.keep = t.keep ∧ s.host = t.host ∧ s.loop = t.loop ∧ s.edge = t.edge ∧ s.qset = t.qset ∧ s.ring = t.ring ∧ s.sst = t.sst ∧ s.outs = t.outs ∧ s.aloc = t.aloc ∧ s.cool = t.cool ∧ s.outl = t.outl ∧ s.safe = t.safe ∧ s.metr = t.metr ∧ s.bill = t.bill ∧ s.acq = t.acq ∧ s.can = t.can ∧ s.lsw = t.lsw ∧ s.mem = t.mem ∧ s.sup = t.sup ∧ s.bytes = t.bytes ∧ s.recent = t.recent ∧ s.owed = t.owed ∧ s.free = t.free := by
  cases s; cases t; simp

end Sys2Proof.Machine
end

