-- ==== Sys2Proof/Laws/Word.lean ====
section
/-! SUPPORT. Laws of the sparse maps and of the fields of a word: a read after a write, and that a write leaves every other place
alone. -/

namespace Sys2Proof

variable {α : Type}

/-! ### Sparse maps -/

@[simp] theorem SMap.get_nil (d : Nat → α) (k : Nat) : SMap.get d [] k = d k := rfl

theorem SMap.get_erase (d : Nat → α) (m : SMap α) (k j : Nat) :
    SMap.get d (SMap.erase m k) j = if k = j then d j else SMap.get d m j := by
  induction m with
  | nil => simp [SMap.erase, SMap.get]
  | cons e r ih => grind [SMap.erase, SMap.get]

theorem SMap.get_insert (d : Nat → α) (m : SMap α) (k j : Nat) (v : α) :
    SMap.get d (SMap.insert m k v) j = if k = j then v else SMap.get d m j := by
  induction m with
  | nil => simp [SMap.insert, SMap.get]
  | cons e r ih => grind [SMap.insert, SMap.get]

theorem SMap.get_put [DecidableEq α] (d : Nat → α) (m : SMap α) (k j : Nat) (v : α) :
    SMap.get d (SMap.put d m k v) j = if k = j then v else SMap.get d m j := by
  unfold SMap.put
  split_ifs <;> simp_all [SMap.get_erase, SMap.get_insert]

@[simp] theorem SMap.get_put_same [DecidableEq α] (d : Nat → α) (m : SMap α) (k : Nat) (v : α) :
    SMap.get d (SMap.put d m k v) k = v := by simp [SMap.get_put]

theorem SMap.get_put_other [DecidableEq α] (d : Nat → α) (m : SMap α) (k j : Nat) (v : α) (h : k ≠ j) :
    SMap.get d (SMap.put d m k v) j = SMap.get d m j := by simp [SMap.get_put, h]

/-! ### The canonical form -/

theorem SMap.above_erase (m : SMap α) (b k : Nat) (h : SMap.above b m = true) : SMap.above b (SMap.erase m k) = true := by
  induction m with
  | nil => rfl
  | cons e r ih =>
    obtain ⟨i, u⟩ := e
    simp only [SMap.above, Bool.and_eq_true, decide_eq_true_eq] at h
    simp only [SMap.erase]
    split_ifs
    · exact ih h.2
    · simp [SMap.above, h.1, ih h.2]

theorem SMap.above_insert (m : SMap α) (b k : Nat) (v : α) (hb : b < k) (h : SMap.above b m = true) :
    SMap.above b (SMap.insert m k v) = true := by
  induction m with
  | nil => simp [SMap.insert, SMap.above, hb]
  | cons e r ih =>
    obtain ⟨i, u⟩ := e
    simp only [SMap.above, Bool.and_eq_true, decide_eq_true_eq] at h
    simp only [SMap.insert]
    split_ifs <;> simp_all [SMap.above]

theorem SMap.sorted_erase (m : SMap α) (k : Nat) (h : SMap.sorted m = true) : SMap.sorted (SMap.erase m k) = true := by
  induction m with
  | nil => rfl
  | cons e r ih =>
    obtain ⟨i, u⟩ := e
    simp only [SMap.sorted, Bool.and_eq_true] at h
    simp only [SMap.erase]
    split_ifs
    · exact ih h.2
    · simp [SMap.sorted, SMap.above_erase r i k h.1, ih h.2]

theorem SMap.above_mono (m : SMap α) (a b : Nat) (hab : a ≤ b) (h : SMap.above b m = true) : SMap.above a m = true := by
  induction m with
  | nil => rfl
  | cons e r ih =>
    obtain ⟨i, u⟩ := e
    simp only [SMap.above, Bool.and_eq_true, decide_eq_true_eq] at h ⊢
    exact ⟨by omega, ih h.2⟩

theorem SMap.sorted_insert (m : SMap α) (k : Nat) (v : α) (h : SMap.sorted m = true) : SMap.sorted (SMap.insert m k v) = true := by
  induction m with
  | nil => simp [SMap.insert, SMap.sorted, SMap.above]
  | cons e r ih =>
    obtain ⟨i, u⟩ := e
    simp only [SMap.sorted, Bool.and_eq_true] at h
    simp only [SMap.insert]
    split_ifs with h1 h2
    · simp [SMap.sorted, SMap.above, h1, h.1, h.2, SMap.above_mono r k i (by omega) h.1]
    · subst h2; simp [SMap.sorted, h.1, h.2]
    · simp [SMap.sorted, SMap.above_insert r i k v (by omega) h.1, ih h.2]

theorem SMap.lean_erase [DecidableEq α] (d : Nat → α) (m : SMap α) (k : Nat) (h : SMap.lean d m = true) :
    SMap.lean d (SMap.erase m k) = true := by
  induction m with
  | nil => rfl
  | cons e r ih =>
    obtain ⟨i, u⟩ := e
    simp only [SMap.lean, Bool.and_eq_true, decide_eq_true_eq] at h
    simp only [SMap.erase]
    split_ifs
    · exact ih h.2
    · simp [SMap.lean, h.1, ih h.2]

theorem SMap.lean_insert [DecidableEq α] (d : Nat → α) (m : SMap α) (k : Nat) (v : α) (hv : v ≠ d k)
    (h : SMap.lean d m = true) : SMap.lean d (SMap.insert m k v) = true := by
  induction m with
  | nil => simp [SMap.insert, SMap.lean, hv]
  | cons e r ih =>
    obtain ⟨i, u⟩ := e
    simp only [SMap.lean, Bool.and_eq_true, decide_eq_true_eq] at h
    simp only [SMap.insert]
    split_ifs <;> simp_all [SMap.lean]

/-- A write keeps the canonical form. -/
theorem SMap.put_wf [DecidableEq α] (d : Nat → α) (m : SMap α) (k : Nat) (v : α) (h : SMap.wf d m = true) :
    SMap.wf d (SMap.put d m k v) = true := by
  simp only [SMap.wf, Bool.and_eq_true] at h ⊢
  unfold SMap.put
  split_ifs with hv
  · exact ⟨SMap.sorted_erase m k h.1, SMap.lean_erase d m k h.2⟩
  · exact ⟨SMap.sorted_insert m k v h.1, SMap.lean_insert d m k v hv h.2⟩

theorem SMap.above_filter (p : Nat × α → Bool) (m : SMap α) (b : Nat) (h : SMap.above b m = true) :
    SMap.above b (m.filter p) = true := by
  induction m with
  | nil => rfl
  | cons e r ih =>
    obtain ⟨i, u⟩ := e
    simp only [SMap.above, Bool.and_eq_true, decide_eq_true_eq] at h
    simp only [List.filter_cons]
    split_ifs
    · simp [SMap.above, h.1, ih h.2]
    · exact ih h.2

/-- Removing entries keeps the canonical form. -/
theorem SMap.filter_wf [DecidableEq α] (d : Nat → α) (p : Nat × α → Bool) (m : SMap α) (h : SMap.wf d m = true) :
    SMap.wf d (m.filter p) = true := by
  simp only [SMap.wf, Bool.and_eq_true] at h ⊢
  induction m with
  | nil => simp [SMap.sorted, SMap.lean]
  | cons e r ih =>
    obtain ⟨i, u⟩ := e
    simp only [SMap.sorted, SMap.lean, Bool.and_eq_true, decide_eq_true_eq] at h
    obtain ⟨⟨ha, hs⟩, hv, hl⟩ := h
    have := ih ⟨hs, hl⟩
    simp only [List.filter_cons]
    split_ifs
    · simp [SMap.sorted, SMap.lean, SMap.above_filter p r i ha, hv, this.1, this.2]
    · exact this

end Sys2Proof

namespace Sys2Proof.Machine

open Sys2Proof

/-! ### Fields of a word -/

theorem fmask_bit (f : Field) (i : Nat) (hi : i < 32) :
    (fmask f).getLsbD i = (decide (f.lo ≤ i) && decide (i < f.lo + f.width)) := by
  simp only [fmask, BitVec.getLsbD_ofNat, hi, decide_true, Bool.true_and, Nat.testBit_shiftLeft, Nat.testBit_two_pow_sub_one]
  by_cases h : f.lo ≤ i <;> simp [h]
  omega

theorem fset_bit (f : Field) (w : Word) (v i : Nat) (hi : i < 32) :
    (fset f w v).getLsbD i = if f.lo ≤ i ∧ i < f.lo + f.width then v.testBit (i - f.lo) else w.getLsbD i := by
  simp only [fset, BitVec.getLsbD_or, BitVec.getLsbD_and, BitVec.getLsbD_not, fmask_bit f i hi, BitVec.getLsbD_ofNat, hi, decide_true,
    Bool.true_and, Nat.testBit_shiftLeft, Nat.testBit_mod_two_pow]
  by_cases h1 : f.lo ≤ i <;> by_cases h2 : i < f.lo + f.width <;> simp [h1, h2]
  · intro _; omega
  · intro h; omega

theorem fget_bit (f : Field) (w : Word) (i : Nat) : (fget f w).testBit i = (decide (i < f.width) && w.getLsbD (f.lo + i)) := by
  simp only [fget, Nat.testBit_mod_two_pow, Nat.testBit_shiftRight, BitVec.testBit_toNat]

/-- A field that was set reads the value, modulo its width. -/
theorem fget_fset_same (f : Field) (w : Word) (v : Nat) (h : f.lo + f.width ≤ 32) : fget f (fset f w v) = v % 2 ^ f.width := by
  apply Nat.eq_of_testBit_eq
  intro i
  rw [fget_bit, Nat.testBit_mod_two_pow]
  by_cases hi : i < f.width
  · rw [fset_bit f w v (f.lo + i) (by omega)]
    simp [hi]
  · simp [hi]

/-- Setting a field leaves a field apart from it alone. -/
theorem fget_fset_other (f g : Field) (w : Word) (v : Nat) (hg : g.lo + g.width ≤ 32)
    (h : g.lo + g.width ≤ f.lo ∨ f.lo + f.width ≤ g.lo) : fget g (fset f w v) = fget g w := by
  apply Nat.eq_of_testBit_eq
  intro i
  rw [fget_bit, fget_bit]
  by_cases hi : i < g.width
  · rw [fset_bit f w v (g.lo + i) (by omega)]
    rw [if_neg (by omega)]
  · simp [hi]

theorem fget_lt (f : Field) (w : Word) : fget f w < 2 ^ f.width := Nat.mod_lt _ (Nat.two_pow_pos _)

end Sys2Proof.Machine
end

