-- ==== Sys2Proof/Laws/Ops.lean ====
section
/-! SUPPORT. What each shared operation does: registers and fields after a write, events after a post, the clock, bytes, queues and
contexts. -/

namespace Sys2Proof.Machine

open Sys2Proof

variable (s : State)

/-! ### Registers -/

theorem State.rd_wr (a b : Nat) (v : Word) : (s.wr a v).rd b = if b = a then v else s.rd b := by
  simp [State.rd, State.wr, SMap.get_put, eq_comm (a := a)]

@[simp] theorem State.rd_wr_same (a : Nat) (v : Word) : (s.wr a v).rd a = v := by simp [State.rd_wr]

theorem State.rd_wr_other (a b : Nat) (v : Word) (h : a ≠ b) : (s.wr a v).rd b = s.rd b := by simp [State.rd_wr, h.symm]

theorem State.rd_of_regs (t : State) (a : Nat) (h : t.regs = s.regs) : t.rd a = s.rd a := by simp [State.rd, h]

@[simp] theorem State.rd_tick (n : Nat) (a : Nat) : (s.tick n).rd a = s.rd a := by simp [State.rd]
@[simp] theorem State.rd_pwr (p : Path) (b : Nat) (v : Word) (a : Nat) : (s.pwr p b v).rd a = s.rd a := by simp [State.rd]
@[simp] theorem State.rd_postFull (c : Nat) (t : Count) (w : Word) (b : Bool) (a : Nat) : (s.postFull c t w b).rd a = s.rd a := by simp [State.rd]
@[simp] theorem State.rd_postArg (c : Nat) (w : Word) (a : Nat) : (s.postArg c w).rd a = s.rd a := by simp [State.rd]
@[simp] theorem State.rd_post (c i u d : Nat) (a : Nat) : (s.post c i u d).rd a = s.rd a := by simp [State.rd]
@[simp] theorem State.rd_forget (c i : Nat) (a : Nat) : (s.forget c i).rd a = s.rd a := by simp [State.rd]
@[simp] theorem State.rd_setQueue (x : Side) (q : Nat) (v : Queue) (a : Nat) : (s.setQueue x q v).rd a = s.rd a := by simp [State.rd]
@[simp] theorem State.rd_setContext (n : Nat) (c : Ctx) (a : Nat) : (s.setContext n c).rd a = s.rd a := by simp [State.rd]
@[simp] theorem State.rd_setByte (k : Nat) (v : Byte) (a : Nat) : (s.setByte k v).rd a = s.rd a := by simp [State.rd]
@[simp] theorem State.rd_setWordAt (k : Nat) (w : Word) (a : Nat) : (s.setWordAt k w).rd a = s.rd a := by simp [State.rd]
@[simp] theorem State.rd_eraseBytes (k n : Nat) (a : Nat) : (s.eraseBytes k n).rd a = s.rd a := by simp [State.rd]
@[simp] theorem State.rd_answer (ws : List Word) (n : Nat) (a : Nat) : (s.answer ws n).rd a = s.rd a := by simp [State.rd]
@[simp] theorem State.rd_paramReject (acc : Access) (b : Nat) (a : Nat) : (s.paramReject acc b).rd a = s.rd a := by simp [State.rd]

@[simp] theorem State.fld_tick (n : Nat) (a : Nat) (f : Field) : (s.tick n).fld a f = s.fld a f := by simp [State.fld]
@[simp] theorem State.fld_pwr (p : Path) (b : Nat) (v : Word) (a : Nat) (f : Field) : (s.pwr p b v).fld a f = s.fld a f := by simp [State.fld]
@[simp] theorem State.fld_postFull (c : Nat) (t : Count) (w : Word) (b : Bool) (a : Nat) (f : Field) : (s.postFull c t w b).fld a f = s.fld a f := by simp [State.fld]
@[simp] theorem State.fld_postArg (c : Nat) (w : Word) (a : Nat) (f : Field) : (s.postArg c w).fld a f = s.fld a f := by simp [State.fld]
@[simp] theorem State.fld_post (c i u d : Nat) (a : Nat) (f : Field) : (s.post c i u d).fld a f = s.fld a f := by simp [State.fld]
@[simp] theorem State.fld_forget (c i : Nat) (a : Nat) (f : Field) : (s.forget c i).fld a f = s.fld a f := by simp [State.fld]
@[simp] theorem State.fld_setQueue (x : Side) (q : Nat) (v : Queue) (a : Nat) (f : Field) : (s.setQueue x q v).fld a f = s.fld a f := by simp [State.fld]
@[simp] theorem State.fld_setContext (n : Nat) (c : Ctx) (a : Nat) (f : Field) : (s.setContext n c).fld a f = s.fld a f := by simp [State.fld]
@[simp] theorem State.fld_setByte (k : Nat) (v : Byte) (a : Nat) (f : Field) : (s.setByte k v).fld a f = s.fld a f := by simp [State.fld]
@[simp] theorem State.fld_setWordAt (k : Nat) (w : Word) (a : Nat) (f : Field) : (s.setWordAt k w).fld a f = s.fld a f := by simp [State.fld]
@[simp] theorem State.fld_eraseBytes (k n : Nat) (a : Nat) (f : Field) : (s.eraseBytes k n).fld a f = s.fld a f := by simp [State.fld]
@[simp] theorem State.fld_answer (ws : List Word) (n : Nat) (a : Nat) (f : Field) : (s.answer ws n).fld a f = s.fld a f := by simp [State.fld]
@[simp] theorem State.fld_paramReject (acc : Access) (b : Nat) (a : Nat) (f : Field) : (s.paramReject acc b).fld a f = s.fld a f := by simp [State.fld]

theorem State.rd_setF (a b : Nat) (f : Field) (v : Nat) :
    (s.setF a f v).rd b = if b = a then fset f (s.rd a) v else s.rd b := by simp [State.setF, State.rd_wr]

@[simp] theorem State.rd_setF_same (a : Nat) (f : Field) (v : Nat) : (s.setF a f v).rd a = fset f (s.rd a) v := by
  simp [State.rd_setF]

theorem State.rd_setF_other (a b : Nat) (f : Field) (v : Nat) (h : a ≠ b) : (s.setF a f v).rd b = s.rd b := by
  simp [State.rd_setF, h.symm]

/-- A field that was set reads the value, modulo its width. -/
theorem State.fld_setF_same (a : Nat) (f : Field) (v : Nat) (h : f.lo + f.width ≤ 32) :
    (s.setF a f v).fld a f = v % 2 ^ f.width := by simp [State.fld, fget_fset_same f _ v h]

/-- A signed field that was set reads the value, where the field can hold it. -/
theorem State.fldS_setFS_same (a : Nat) (f : Field) (v : Int) (h : f.lo + f.width ≤ 32) (hw : 0 < f.width)
    (hlo : -(2 ^ (f.width - 1) : Int) ≤ v) (hhi : v < 2 ^ (f.width - 1)) : (s.setFS a f v).fldS a f = v := by
  obtain ⟨lo, w⟩ := f
  obtain ⟨k, rfl⟩ : ∃ k, w = k + 1 := ⟨w - 1, by simp at hw; omega⟩
  have e : fget ⟨lo, k + 1⟩ (fset ⟨lo, k + 1⟩ (s.rd a) (bitsOf (k + 1) v)) = bitsOf (k + 1) v := by
    rw [fget_fset_same _ _ _ h]
    apply Nat.mod_eq_of_lt
    have h1 := Int.emod_lt_of_pos v (show (0 : Int) < 2 ^ (k + 1) by positivity)
    have h2 := Int.emod_nonneg v (show (2 ^ (k + 1) : Int) ≠ 0 by positivity)
    simp only [bitsOf]
    zify
    rw [Int.toNat_of_nonneg h2]
    exact h1
  simp only [State.fldS, State.setFS, State.rd_setF_same, fgetS, e]
  have p : (0 : Int) < 2 ^ k := by positivity
  simp only [Nat.add_sub_cancel] at hlo hhi
  have q : (2 : Int) ^ (k + 1) = 2 * 2 ^ k := by ring
  have hb : ((bitsOf (k + 1) v : Nat) : Int) = v % 2 ^ (k + 1) := by
    simp only [bitsOf]; exact Int.toNat_of_nonneg (Int.emod_nonneg v (by positivity))
  rcases lt_or_ge v 0 with hn | hn
  · have hm : v % 2 ^ (k + 1) = v + 2 ^ (k + 1) := by
      rw [← Int.add_emod_right]; exact Int.emod_eq_of_lt (by omega) (by omega)
    have : ¬ (2 * bitsOf (k + 1) v < 2 ^ (k + 1)) := by zify; rw [hb, hm]; omega
    simp only [this, if_false, hb, hm]; omega
  · have hm : v % 2 ^ (k + 1) = v := Int.emod_eq_of_lt hn (by omega)
    have : 2 * bitsOf (k + 1) v < 2 ^ (k + 1) := by zify; rw [hb, hm]; omega
    simp only [this, if_true, hb, hm]

/-- Another field of the register keeps its value. -/
theorem State.fld_setF_field (a : Nat) (f g : Field) (v : Nat) (hg : g.lo + g.width ≤ 32)
    (h : g.lo + g.width ≤ f.lo ∨ f.lo + f.width ≤ g.lo) : (s.setF a f v).fld a g = s.fld a g := by
  simp [State.fld, fget_fset_other f g _ v hg h]

/-- A field of another register keeps its value. -/
theorem State.fld_setF_other (a b : Nat) (f g : Field) (v : Nat) (h : a ≠ b) : (s.setF a f v).fld b g = s.fld b g := by
  simp [State.fld, State.rd_setF, h.symm]

theorem State.fld_wr_other (a b : Nat) (f : Field) (v : Word) (h : a ≠ b) : (s.wr a v).fld b f = s.fld b f := by
  simp [State.fld, State.rd_wr, h.symm]

@[simp] theorem State.fld_wr_same (a : Nat) (f : Field) (v : Word) : (s.wr a v).fld a f = fget f v := by simp [State.fld]

theorem State.rd_bump (a b : Nat) (f : Field) (n : Nat) :
    (s.bump a f n).rd b = if b = a then fset f (s.rd a) (min (s.fld a f + n) (2 ^ f.width - 1)) else s.rd b := by
  rw [State.rd_of_regs (s.setF a f (min (s.fld a f + n) (2 ^ f.width - 1))) (s.bump a f n) b (rfl), State.rd_setF]

theorem State.rd_bump_other (a b : Nat) (f : Field) (n : Nat) (h : a ≠ b) : (s.bump a f n).rd b = s.rd b := by
  simp [State.rd_bump, h.symm]

/-- A counter field that was raised reads the sum, held at the field's greatest value. -/
theorem State.fld_bump_same (a : Nat) (f : Field) (n : Nat) (h : f.lo + f.width ≤ 32) :
    (s.bump a f n).fld a f = min (s.fld a f + n) (2 ^ f.width - 1) := by
  have hp : 0 < 2 ^ f.width := Nat.two_pow_pos _
  simp only [State.fld, State.rd_bump, if_true, fget_fset_same f _ _ h]
  exact Nat.mod_eq_of_lt (by omega)

theorem State.fld_bump_other (a b : Nat) (f g : Field) (n : Nat) (h : a ≠ b) : (s.bump a f n).fld b g = s.fld b g := by
  simp [State.fld, State.rd_bump, h.symm]

theorem State.rd_raise (a b : Nat) (f : Field) : (s.raise a f).rd b = if b = a then fset f (s.rd a) 1 else s.rd b := by
  rw [State.rd_of_regs (s.setF a f 1) (s.raise a f) b (rfl), State.rd_setF]

theorem State.rd_raise_other (a b : Nat) (f : Field) (h : a ≠ b) : (s.raise a f).rd b = s.rd b := by simp [State.rd_raise, h.symm]

/-- A condition bit that was raised reads 1. -/
theorem State.fld_raise_same (a i : Nat) (h : i < 32) : (s.raise a ⟨i, 1⟩).fld a ⟨i, 1⟩ = 1 := by
  simp only [State.fld, State.rd_raise, if_true]
  exact fget_fset_same ⟨i, 1⟩ _ 1 (by simpa using h)

theorem State.fld_raise_other (a b : Nat) (f g : Field) (h : a ≠ b) : (s.raise a f).fld b g = s.fld b g := by
  simp [State.fld, State.rd_raise, h.symm]

/-- A denial writes SYS_ERR and SYS_ERR_ADDR only (R19). -/
theorem State.rd_deny (acc : Access) (b a : Nat) (h : a ≠ Reg.SYS_ERR) (h' : a ≠ Reg.SYS_ERR_ADDR) :
    (s.deny acc b).rd a = s.rd a := by
  simp [State.deny, State.setErr, State.rd_wr, State.rd_raise, h, h']

/-- A path's own instance that was set reads the value. -/
@[simp] theorem State.prd_pwr_same (p : Path) (a : Nat) (v : Word) : (s.pwr p a v).prd p a = v := by
  simp [State.prd, State.pwr]

@[simp] theorem State.prd_tick (n : Nat) (p : Path) (a : Nat) : (s.tick n).prd p a = s.prd p a := by simp [State.prd]

/-! ### Events -/

/-- A post adds one event to those of the running base cycle (R37). -/
theorem State.posted_postFull (c : Nat) (t : Count) (a : Word) (b : Bool) :
    (s.postFull c t a b).ev.posted = s.ev.posted ++ [⟨s.ev.nextSeq, t, s.tm.mono, c, classOf c,
      (if s.fld Reg.TIME_STAT Fld.TIME_STAT_VALID = 1 then 0 else 4) + (if b then 8 else 0), a, none⟩] := (rfl)

/-- The event of a post with an ARG is in the running base cycle's events. -/
theorem State.mem_postArg (c : Nat) (a : Word) : ∃ e ∈ (s.postArg c a).ev.posted, e.code = c ∧ e.arg = a ∧ e.ts = s.tm.ts := by
  simp [State.postArg, State.posted_postFull]

/-! ### The clock (R50 to R52) -/

/-- The monotonic count advances by the counts that passed (R51). -/
@[simp] theorem State.mono_tick (n : Nat) : (s.tick n).tm.mono = s.tm.mono + BitVec.ofNat 64 n := (rfl)

/-- So does the count that no module reset clears. -/
@[simp] theorem State.life_tick (n : Nat) : (s.tick n).tm.life = s.tm.life + BitVec.ofNat 64 n := (rfl)

/-! ### Parts kept by key -/

@[simp] theorem State.queue_setQueue_same (x : Side) (q : Nat) (v : Queue) : (s.setQueue x q v).queue x q = v := by
  simp [State.queue, State.setQueue]

@[simp] theorem State.queue_tick (n : Nat) (x : Side) (q : Nat) : (s.tick n).queue x q = s.queue x q := by simp [State.queue]

@[simp] theorem State.context_setContext_same (n : Nat) (c : Ctx) : (s.setContext n c).context n = c := by
  simp [State.context, State.setContext]

@[simp] theorem State.context_tick (n k : Nat) : (s.tick n).context k = s.context k := by simp [State.context]

@[simp] theorem State.side_tick (n : Nat) (x : Side) : (s.tick n).side x = s.side x := by simp [State.side]

@[simp] theorem State.par_tick (n k : Nat) : (s.tick n).par k = s.par k := by simp [State.par]

@[simp] theorem State.parN_tick (n k : Nat) : (s.tick n).parN k = s.parN k := by simp [State.parN]

/-! ### Reads that no passing time changes -/

@[simp] theorem State.fldS_tick (n a : Nat) (f : Field) : (s.tick n).fldS a f = s.fldS a f := by simp [State.fldS]

@[simp] theorem State.bit_tick (n a i : Nat) : (s.tick n).bit a i = s.bit a i := by simp [State.bit]

@[simp] theorem State.hasActive_tick (n : Nat) : (s.tick n).hasActive = s.hasActive := by simp [State.hasActive, State.isActive]

@[simp] theorem State.serving_tick (n : Nat) : (s.tick n).serving = s.serving := by simp [State.serving]

@[simp] theorem State.answers_tick (n : Nat) (p : Path) (a : Nat) : (s.tick n).answers p a = s.answers p a := by
  simp [State.answers]

@[simp] theorem State.absentHere_tick (n : Nat) (p : Path) (a : Nat) : (s.tick n).absentHere p a = s.absentHere p a := by
  simp [State.absentHere]

@[simp] theorem State.openOf_tick (n : Nat) (acc : Access) : (s.tick n).openOf acc = s.openOf acc := by simp [State.openOf]

@[simp] theorem State.heldElsewhere_tick (n : Nat) (me : Option Nat) (a : Nat) :
    (s.tick n).heldElsewhere me a = s.heldElsewhere me a := by simp [State.heldElsewhere]

@[simp] theorem State.applied_tick (n : Nat) (p : Path) (a : Nat) : (s.tick n).applied p a = s.applied p a := by simp [State.applied]

@[simp] theorem State.shiftMask_tick (n a : Nat) : (s.tick n).shiftMask a = s.shiftMask a := by simp [State.shiftMask, State.isCoef]

@[simp] theorem State.specOf_tick (n a : Nat) : (s.tick n).specOf a = s.specOf a := by simp [State.specOf]

@[simp] theorem State.tunablesOk_tick (n a : Nat) (v : Word) : (s.tick n).tunablesOk a v = s.tunablesOk a v := by
  simp [State.tunablesOk]

/-- A command register's write that is admitted is its effect. -/
theorem State.command_of_admitted (n : Nat) (acc : Access) (a : Nat) (sc : Scope) (act : State → State) (h : Admitted s acc a sc) :
    (s.tick n).command acc a sc act = act (s.tick n) := by
  simp [State.command, h.1, h.2.1, h.2.2]

/-- A write that passes every check of a plain write, from a session without an OPEN context, does what a plain write does. -/
theorem State.writeReg_of_passes (acc : Access) (a : Nat) (r : RegSpec) (v : Word) (plain acting : State → State)
    (h : PlainPasses s acc a r v) : s.writeReg acc a r v plain acting = plain s := by
  obtain ⟨hall, hany, -, hr, ht, hh, ho, hw⟩ := h
  obtain ⟨f, hf, hfr⟩ := List.any_eq_true.mp hany
  have h1 : (r.fields.all fun f => f.acc == .ro) = false := by
    rw [List.all_eq_false]; exact ⟨f, hf, by simpa using hfr⟩
  have h2 : (r.fields.any fun f => f.acc != .ro && f.scope.admits acc.role) = true :=
    List.any_eq_true.mpr ⟨f, hf, by simp [hfr, List.all_eq_true.mp hall f hf]⟩
  have h3 : (r.ranges.any fun g => !g.ok v && (r.fields.any fun f => f.lo == g.lo && f.acc == .rw)) = false := by
    rw [List.any_eq_false]; intro g hg; simp [List.all_eq_true.mp hr g hg]
  simp [State.writeReg, h1, h2, h3, hr, ht, hh, ho, hw]

/-! ### The store of bytes -/

/-- A byte that was written reads the value; every other byte reads as before. -/
theorem State.byte_setByte (k j : Nat) (v : Byte) : (s.setByte k v).byte j = if k = j then v else s.byte j := by
  simp [State.byte, State.setByte, SMap.get_put]

/-- A word that was written leaves every byte outside its four alone. -/
theorem State.byte_setWordAt_other (k j : Nat) (w : Word) (h : j < k ∨ k + 4 ≤ j) : (s.setWordAt k w).byte j = s.byte j := by
  simp only [State.setWordAt, State.byte_setByte]
  split_ifs <;> first | omega | rfl

/-- A write of a byte keeps the canonical form. -/
theorem State.wf_setByte (k : Nat) (v : Byte) (h : Memory.wf s.bytes) : Memory.wf (s.setByte k v).bytes := SMap.put_wf _ _ _ _ h

/-- A write of a word keeps the canonical form. -/
theorem State.wf_setWordAt (k : Nat) (w : Word) (h : Memory.wf s.bytes) : Memory.wf (s.setWordAt k w).bytes := by
  unfold State.setWordAt
  exact State.wf_setByte _ _ _ (State.wf_setByte _ _ _ (State.wf_setByte _ _ _ (State.wf_setByte _ _ _ h)))

/-- Dropping a range of bytes keeps the canonical form. -/
theorem State.wf_eraseBytes (lo n : Nat) (h : Memory.wf s.bytes) : Memory.wf (s.eraseBytes lo n).bytes := SMap.filter_wf _ _ _ h

/-- One stored byte of a side's memory, as memStore writes it: the byte, and the pages that a bulk transfer must send again. -/
theorem State.memStore_cons (x : Side) (e : Nat × Byte) (es : List (Nat × Byte)) :
    ∃ t : State, s.memStore x (e :: es) = t.memStore x es ∧ t.bytes = (s.setByte (memKey x e.1) e.2).bytes ∧ t.regs = s.regs := by
  simp only [State.memStore, List.foldl_cons]
  split <;> exact ⟨_, rfl, rfl, rfl⟩

/-- A store to a side's memory leaves every byte alone whose key it does not write. -/
theorem State.byte_memStore_other (x : Side) (es : List (Nat × Byte)) (j : Nat) (h : ∀ e ∈ es, memKey x e.1 ≠ j) :
    (s.memStore x es).byte j = s.byte j := by
  induction es generalizing s with
  | nil => rfl
  | cons e es ih =>
    obtain ⟨t, ht, hb, -⟩ := s.memStore_cons x e es
    rw [ht, ih t fun d hd => h d (List.mem_cons_of_mem _ hd), State.byte, hb, ← State.byte, State.byte_setByte,
      if_neg (h e (List.mem_cons_self ..))]

/-- A store to a side's memory writes no register. -/
theorem State.regs_memStore (x : Side) (es : List (Nat × Byte)) : (s.memStore x es).regs = s.regs := by
  induction es generalizing s with
  | nil => rfl
  | cons e es ih =>
    obtain ⟨t, ht, -, hr⟩ := s.memStore_cons x e es
    rw [ht, ih, hr]

/-- A store to a side's memory keeps the canonical form. -/
theorem State.wf_memStore (x : Side) (es : List (Nat × Byte)) (h : Memory.wf s.bytes) : Memory.wf (s.memStore x es).bytes := by
  induction es generalizing s with
  | nil => exact h
  | cons e es ih =>
    obtain ⟨t, ht, hb, -⟩ := s.memStore_cons x e es
    rw [ht]
    exact ih t (by rw [hb]; exact s.wf_setByte _ _ h)

/-- The store after reset is in canonical form. -/
theorem State.wf_reset : Memory.wf State.reset.bytes := (rfl)

end Sys2Proof.Machine
end

