-- ==== Sys2Proof/Machine/PadMap.lean ====
section
/-! DEFINITION. Where the pads and terminals of the package lie, and what they carry (R768 to R770). -/

namespace Sys2Proof.Machine

open Sys2Proof

/-- The four bands of signal pads. -/
inductive Band where
  | north | east | south | west
  deriving DecidableEq, Repr

/-- The centre of signal pad k, from 1 to 480, of a band, in µm from the centre of the module in top view (R768). -/
def padCentre (b : Band) (k : Nat) : Int × Int :=
  let at' := fun (columns : Nat) => ((((k - 1) / columns : Nat) : Int) * 1270, (((k - 1) % columns : Nat) : Int) * 1270)
  match b with
  | .north => let (r, c) := at' 60; (-37465 + c, 35560 - r)
  | .east => let (r, c) := at' 40; (45720 - r, 24765 - c)
  | .south => let (r, c) := at' 60; (37465 - c, -35560 + r)
  | .west => let (r, c) := at' 40; (-45720 + r, -24765 + c)

/-- The types of the pads (R769, R777). -/
inductive PadType where
  | pwm | d33 | fs | ground | cml | sgmii | pcie | t1s | can | lightSwitch | sense | i24 | sto | brk | enc | pilot | wake | mt | th | reserved
  deriving DecidableEq, Repr

/-- A row of the table of R769: the number of its first pad, the index of its first group, its groups, what the pads of a group carry in turn,
and the type; an index is part of the function where a row has several groups. -/
structure PadRow where
  first : Nat
  index : Nat
  groups : Nat
  names : List String
  type : PadType
  deriving DecidableEq, Repr

/-- The rows of a band (R769). The three Ethernet ports ETH0, ETH1 and ETHS are groups 0 to 2. -/
def padRows : Band → List PadRow
  | .north =>
  [⟨1, 0, 48, ["PWMA", "PWMB", "SWN", "GND"], .pwm⟩, ⟨193, 0, 16, ["TRIP"], .d33⟩, ⟨209, 0, 32, ["FS_P", "FS_N", "GND"], .fs⟩,
    ⟨305, 0, 176, ["GND"], .ground⟩]
  | .east =>
  [⟨1, 0, 12, ["LK_TX_P", "LK_TX_N", "GND", "LK_RX_P", "LK_RX_N", "GND"], .cml⟩,
    ⟨73, 0, 3, ["ETH_TX_P", "ETH_TX_N", "ETH_RX_P", "ETH_RX_N", "GND"], .sgmii⟩, ⟨88, 0, 1, ["MDC", "MDIO"], .d33⟩,
    ⟨90, 0, 3, ["ETH_RST_N"], .d33⟩, ⟨93, 0, 4, ["GND"], .ground⟩,
    ⟨97, 0, 1, ["PCIE_REFCLK_P", "PCIE_REFCLK_N", "GND", "PCIE_TX_P", "PCIE_TX_N", "GND", "PCIE_RX_P", "PCIE_RX_N", "GND", "PCIE_PERST_N", "PCIE_CLKREQ_N", "GND"], .pcie⟩,
    ⟨109, 0, 1, ["QSPI_CLK", "QSPI_CS_N", "QSPI_IO0", "QSPI_IO1", "QSPI_IO2", "QSPI_IO3"], .d33⟩, ⟨115, 0, 4, ["HIRQ"], .d33⟩,
    ⟨119, 0, 2, ["HMODE"], .d33⟩, ⟨121, 0, 8, ["GND"], .ground⟩, ⟨129, 0, 8, ["T1S_P", "T1S_N", "GND"], .t1s⟩,
    ⟨153, 0, 8, ["PLS_SCLK", "PLS_MOSI", "PLS_MISO", "PLS_CS_N", "PLS_INT_N", "PLS_RST_N", "GND"], .d33⟩,
    ⟨209, 0, 4, ["CANH", "CANL", "GND", "GND"], .can⟩, ⟨225, 0, 1, ["PPS_IN", "PPS_OUT"], .d33⟩, ⟨227, 0, 64, ["GPIO"], .d33⟩,
    ⟨291, 0, 190, ["GND"], .ground⟩]
  | .south =>
  [⟨1, 8, 16, ["LS", "LS", "LS", "LS"], .lightSwitch⟩, ⟨65, 0, 1, ["SNSA", "SNSB", "SNSC"], .sense⟩, ⟨68, 0, 1, ["FOG_EN"], .i24⟩,
    ⟨69, 0, 8, ["FOGIN"], .i24⟩, ⟨77, 0, 2, ["STOA"], .sto⟩, ⟨79, 0, 2, ["STOB"], .sto⟩, ⟨81, 0, 2, ["BRKA"], .brk⟩,
    ⟨83, 0, 2, ["BRKB"], .brk⟩, ⟨85, 0, 1, ["ESTOP_A", "ESTOP_B"], .i24⟩, ⟨87, 0, 16, ["FB"], .i24⟩,
    ⟨103, 0, 4, ["ENC_A_P", "ENC_A_N", "ENC_B_P", "ENC_B_N", "ENC_Z_P", "ENC_Z_N", "ENC_CLK_P", "ENC_CLK_N"], .enc⟩,
    ⟨135, 0, 8, ["CP", "PP"], .pilot⟩, ⟨151, 0, 8, ["WAKE"], .wake⟩, ⟨159, 0, 1, ["MRST_N"], .d33⟩,
    ⟨160, 0, 1, ["DBG_TCK", "DBG_TMS", "DBG_TDI", "DBG_TDO", "DBG_TRST_N"], .d33⟩, ⟨165, 0, 316, ["GND"], .ground⟩]
  | .west =>
  [⟨1, 0, 32, ["MT_P", "MT_N", "MGND"], .mt⟩, ⟨97, 0, 16, ["MD"], .d33⟩, ⟨113, 0, 2, ["MDCLK"], .d33⟩,
    ⟨115, 0, 1, ["SEAL_A", "SEAL_B"], .d33⟩, ⟨117, 0, 4, ["TAMP"], .i24⟩, ⟨121, 0, 8, ["DISP"], .d33⟩, ⟨129, 0, 8, ["DISPBTN"], .d33⟩,
    ⟨137, 0, 32, ["TH_P", "TH_N"], .th⟩, ⟨201, 0, 85, ["Reserved"], .reserved⟩, ⟨286, 0, 195, ["GND"], .ground⟩]

/-- The pad lies in the row. -/
def PadRow.has (r : PadRow) (k : Nat) : Bool := decide (r.first ≤ k) && decide (k < r.first + r.groups * r.names.length)

/-- What signal pad k of a band carries, with the index of its unit (R769). -/
def padFunction (b : Band) (k : Nat) : Option (String × Nat) :=
  ((padRows b).find? fun r => r.has k).bind fun r =>
    let i := k - r.first
    (r.names[i % r.names.length]?).map fun f => (f, r.index + i / r.names.length)

/-- A power terminal: its number, what it carries with the unit's index, its centre and the side of its land in µm, and its greatest continuous
current in A (R770). -/
structure Terminal where
  number : Nat
  name : String
  index : Nat
  centre : Int × Int
  land : Nat
  amps : Nat
  deriving DecidableEq, Repr

/-- The power terminals (R770). -/
def terminals : List Terminal :=
  [⟨1, "AC_L / DC_A", 0, (-20000, 12000), 5000, 1⟩, ⟨2, "AC_N / DC_B", 0, (-20000, -12000), 5000, 1⟩,
    ⟨3, "HOLD_P", 0, (-3000, 20000), 6000, 3⟩, ⟨4, "HOLD_N", 0, (-3000, 10000), 6000, 3⟩,
    ⟨5, "GND", 0, (-3000, 0), 6000, 20⟩, ⟨6, "GND", 0, (-3000, -10000), 6000, 20⟩, ⟨7, "GND", 0, (-3000, -20000), 6000, 20⟩,
    ⟨8, "GND", 0, (4000, 20000), 6000, 20⟩]
  ++ [⟨9, "VAUX_2", 0, (4000, 10000), 6000, 40⟩, ⟨10, "VAUX_2", 0, (4000, 0), 6000, 40⟩,
    ⟨11, "PGND", 0, (4000, -10000), 6000, 40⟩, ⟨12, "PGND", 0, (4000, -20000), 6000, 40⟩,
    ⟨13, "VAUX_1", 0, (11000, 20000), 6000, 40⟩, ⟨14, "VAUX_1", 0, (11000, 10000), 6000, 40⟩,
    ⟨15, "PGND", 0, (11000, 0), 6000, 40⟩, ⟨16, "PGND", 0, (11000, -10000), 6000, 40⟩]
  ++ (List.range 8).map fun n => ⟨17 + n, "LS", n, (18000 + 7000 * (n / 4 : Nat), 20000 - 10000 * (n % 4 : Nat)), 6000, 12⟩

end Sys2Proof.Machine
end

