-- ==== Sys2Proof/WellFormed.lean ====
section
/-! DEFINITION. Well-formed commands: each index stays within what the register map and the unit tables number (R1, R750).
A command with another index names no unit; exec still answers for it, as its meaning says. -/

namespace Sys2Proof

open Sys2Proof.Machine

/-- Every index of the command names something that the largest variant has. -/
def Instr.wf (i : Instr) : Bool :=
  match i with
  | .registerWrite _ _ _ _ => true
  | .tunableWrite _ _ _ _ => true
  | .stagingWrite _ _ _ _ => true
  | .absentAccess _ _ _ _ => true
  | .reservedAccess _ _ _ _ => true
  | .outOfMapAccess _ _ _ _ => true
  | .hostBadAccess _ _ byteEnables _ => decide (byteEnables < 16)
  | .baseCycleBoundary _ _ => true
  | .fastSenseSample _ ch _ => decide (ch < 32)
  | .queueStallTimeout _ _ queue => decide (queue < 133)
  | .dramTagGrant _ _ _ _ => true
  | .ptpMessage _ port _ _ _ => decide (port < 2)
  | .ptpAnnounceTimeout _ port => decide (port < 2)
  | .ptpTmoExpiry _ => true
  | .ppsInEdge _ => true
  | .ppsInMissing _ => true
  | .ntpResponse _ _ => true
  | .timeCorrection _ _ => true
  | .timeStepApply _ => true
  | .timeSetHi _ _ _ => true
  | .rtcTrim _ => true
  | .ppsOutPulse _ => true
  | .timeLine _ => true
  | .timeLineTimeout _ => true
  | .timeQueueSel _ _ _ => true
  | .timeQueueClr _ _ _ => true
  | .imgOpen _ _ => true
  | .imgClose _ _ => true
  | .imgCancel _ _ => true
  | .imgDataWrite _ _ _ _ => true
  | .slotPrecheckDone _ => true
  | .imgActivate _ _ _ => true
  | .activationDone _ => true
  | .imgConfirm _ _ _ => true
  | .bootWindowExpiry _ => true
  | .revertStart _ => true
  | .imgRevoke _ _ _ => true
  | .imgMinVerWrite _ _ _ => true
  | .imageLoad _ => true
  | .tuningStoreWrite _ => true
  | .txnBegin _ _ n => decide (n < 4)
  | .txnCommit _ _ n => decide (n < 4)
  | .txnCommitTrial _ _ n => decide (n < 4)
  | .txnAbort _ _ n => decide (n < 4)
  | .txnConfirm _ _ n => decide (n < 4)
  | .txnValidationDone _ n => decide (n < 4)
  | .txnFlip _ => true
  | .txnConfirmEffect _ n => decide (n < 4)
  | .txnIdleTimeout _ n => decide (n < 4)
  | .txnTrialTimeout _ n => decide (n < 4)
  | .txnRollback _ n => decide (n < 4)
  | .imgTxnTrialWrite _ _ n _ => decide (n < 4)
  | .beaconDeadline _ _ _ => true
  | .faultLineAsserted _ _ (.reset code) => decide (code < 16)
  | .faultLineAsserted _ _ .memEcc => true
  | .faultLineAsserted _ _ .residue => true
  | .faultLineAsserted _ _ .parity => true
  | .faultLineAsserted _ _ .rail => true
  | .faultLineAsserted _ _ .temp => true
  | .keeperLaneFault _ _ lane _ => decide (lane < 9)
  | .sideBootDone _ _ _ => true
  | .bulkConverged _ _ => true
  | .bulkTimeout _ _ => true
  | .shadowComplete _ _ => true
  | .sideReadmit _ _ => true
  | .sideResetRelease _ _ => true
  | .keepSwitch _ _ _ => true
  | .switchover _ => true
  | .keepTakeOut _ _ _ => true
  | .keepResyncA _ _ _ => true
  | .keepResyncB _ _ _ => true
  | .keepClr _ _ _ => true
  | .tileIn _ _ n _ dst => decide (n < 64) && decide (dst < 4096)
  | .tileWaitMiss _ _ n _ dst => decide (n < 64) && decide (dst < 4096)
  | .tileMac _ _ n _ _ _ _ => decide (n < 64)
  | .tileMsu _ _ n _ _ _ _ => decide (n < 64)
  | .tileMacz _ _ n _ _ _ _ => decide (n < 64)
  | .tileStore _ _ n _ _ dst _ => decide (n < 64) && decide (dst < 4096)
  | .tileAdd _ _ n _ _ dst => decide (n < 64) && decide (dst < 4096)
  | .tileSub _ _ n _ _ dst => decide (n < 64) && decide (dst < 4096)
  | .tileNeg _ _ n _ dst => decide (n < 64) && decide (dst < 4096)
  | .tileAbs _ _ n _ dst => decide (n < 64) && decide (dst < 4096)
  | .tileMin _ _ n _ _ dst => decide (n < 64) && decide (dst < 4096)
  | .tileMax _ _ n _ _ dst => decide (n < 64) && decide (dst < 4096)
  | .tileScale _ _ n _ _ dst => decide (n < 64) && decide (dst < 4096)
  | .tileLim _ _ n _ _ _ dst _ => decide (n < 64) && decide (dst < 4096)
  | .tileCmp _ _ n _ _ _ _ => decide (n < 64)
  | .tileSel _ _ n _ _ _ dst => decide (n < 64) && decide (dst < 4096)
  | .tileInteg _ _ n _ _ _ _ _ _ => decide (n < 64)
  | .tileBiq _ _ n _ _ d dst => decide (n < 64) && decide (d < 4096) && decide (dst < 4096)
  | .tileSincos _ _ n _ ds dc => decide (n < 64) && decide (ds < 4096) && decide (dc < 4096)
  | .tileLut _ _ n _ _ dst => decide (n < 64) && decide (dst < 4096)
  | .tileDiv _ _ n _ _ _ dst => decide (n < 64) && decide (dst < 4096)
  | .tileSqrt _ _ n _ dst => decide (n < 64) && decide (dst < 4096)
  | .tileStamp _ _ n dst => decide (n < 64) && decide (dst < 4096)
  | .tileXput _ _ n _ _ => decide (n < 64)
  | .tileXget _ _ n _ dst => decide (n < 64) && decide (dst < 4096)
  | .tileChainPut _ _ n _ _ => decide (n < 64)
  | .tileChainGet _ _ n _ dst => decide (n < 64) && decide (dst < 4096)
  | .tilePost _ _ n _ _ _ => decide (n < 64)
  | .tilePub _ _ n _ _ => decide (n < 64)
  | .tileRep _ _ n _ _ => decide (n < 64)
  | .tileBr _ _ n _ target => decide (n < 64) && decide (target < 4096)
  | .tileEnd _ _ n => decide (n < 64)
  | .loopPreset _ _ n _ => decide (n < 64)
  | .loopClr _ _ _ => true
  | .carrierPeriodStart _ _ _ => true
  | .edgeUpdatePoint _ _ n _ => decide (n < 48)
  | .swnTransition _ n _ _ => decide (n < 48)
  | .swnMiss _ n _ => decide (n < 48)
  | .swnFault _ n _ _ => decide (n < 48)
  | .dlineCalibrationDone _ n _ _ _ => decide (n < 48)
  | .dlineExchange _ n _ => decide (n < 48)
  | .pwmPadShort _ n _ _ => decide (n < 48)
  | .edgeClr _ _ _ => true
  | .tripPadActive _ k _ _ => decide (k < 16)
  | .windowComparatorTrip _ ch _ => decide (ch < 32)
  | .qsetForce _ _ _ => true
  | .qsetClr _ _ k _ => decide (k < 4)
  | .tripSetRepeat _ => true
  | .tripClearRepeat _ => true
  | .ringLockAcquired _ _ e _ _ => decide (e < 384)
  | .ringLockLost _ _ e _ _ _ => decide (e < 384)
  | .epInterfaceDown _ e => decide (e < 384)
  | .epThroughRestore _ e => decide (e < 384)
  | .ringUpdatePoint _ _ _ => true
  | .sched _ e _ _ => decide (e < 384)
  | .epApplyEntry _ e leg => decide (e < 384) && decide (leg < 8)
  | .sync _ e _ _ => decide (e < 384)
  | .delay _ e _ _ _ _ => decide (e < 384)
  | .delayRun _ _ => true
  | .delayRpt _ port _ => decide (port < 12)
  | .setdly _ e _ _ => decide (e < 384)
  | .enum _ e _ _ => decide (e < 384)
  | .enumPeriodic _ => true
  | .config _ e _ _ => decide (e < 384)
  | .resume _ e _ _ => decide (e < 384)
  | .identReq _ e _ _ => decide (e < 384)
  | .ident _ port _ => decide (port < 12)
  | .takeover _ e _ _ => decide (e < 384)
  | .meas _ port _ => decide (port < 12)
  | .tripBlock _ e _ => decide (e < 384)
  | .portTripBlockRx _ port _ => decide (port < 12)
  | .epLocalFault _ e _ => decide (e < 384)
  | .epSafeTimeout _ e => decide (e < 384)
  | .epNoLinkTimeout _ e => decide (e < 384)
  | .ringBringUp _ => true
  | .rescan _ _ _ => true
  | .delayNow _ _ _ => true
  | .ringCmdResumeEp _ _ _ => true
  | .ringCmdResumeAll _ _ _ => true
  | .ringClr _ _ _ => true
  | .rtFTmoExpiry _ => true
  | .pllUnlockOut _ => true
  | .energise _ _ _ => true
  | .deenergise _ _ _ => true
  | .sstAckLockout _ _ _ => true
  | .breakerReport _ _ _ => true
  | .sstLadderTimeout _ => true
  | .sstRestartDelay _ => true
  | .bypass _ _ c _ => decide (c < 96)
  | .restore _ _ c _ => decide (c < 96)
  | .carrierReplan _ => true
  | .bypassTimeout _ c => decide (c < 96)
  | .sstClr _ _ _ => true
  | .outsStop _ _ n _ => decide (n < 8)
  | .outsAckLockout _ _ n _ => decide (n < 8)
  | .phaseRestore _ _ m _ => decide (m < 96)
  | .trackingFault _ n => decide (n < 8)
  | .retryWaitExpiry _ n => decide (n < 8)
  | .shedDlyExpiry _ n => decide (n < 8)
  | .imbalanceTrip _ m => decide (m < 96)
  | .stageStopTimeout _ n => decide (n < 8)
  | .outsClr _ _ _ => true
  | .allocationTick _ _ => true
  | .metrologyStale _ => true
  | .alocClr _ _ _ => true
  | .thConversion _ n _ => decide (n < 32)
  | .thValidRestore _ n => decide (n < 32)
  | .flowUpdate _ _ _ _ => true
  | .coolCableTrip _ n => decide (n < 8)
  | .flowLossTimeout _ n => decide (n < 8)
  | .leakDetected _ _ _ _ => true
  | .flowLowTimeout _ n => decide (n < 8)
  | .coolRestoreTimer _ n => decide (n < 8)
  | .runOnExpiry _ n => decide (n < 8)
  | .coolAck _ _ n _ => decide (n < 8)
  | .coolClr _ _ _ => true
  | .thermClr _ _ _ => true
  | .sigChange _ n _ _ => decide (n < 8)
  | .ppChange _ n _ => decide (n < 8)
  | .vehicleLinkUp _ n _ _ => decide (n < 8)
  | .vehicleMessage _ n _ => decide (n < 8)
  | .linkTimeout _ n => decide (n < 8)
  | .protocolTimeout _ n => decide (n < 8)
  | .contactorFeedback _ pad _ => decide (pad < 16)
  | .contactorTimeout _ n => decide (n < 8)
  | .precheckWindow _ n => decide (n < 8)
  | .cableCheckSettled _ n => decide (n < 8)
  | .cableCheckTimeout _ n => decide (n < 8)
  | .isolationLoss _ n => decide (n < 8)
  | .imdWarnActive _ _ => true
  | .weldCheckTimeout _ n => decide (n < 8)
  | .emergencyOpenTimeout _ n => decide (n < 8)
  | .outlStop _ _ n _ => decide (n < 8)
  | .outlDisable _ _ n _ => decide (n < 8)
  | .outlEnable _ _ n _ => decide (n < 8)
  | .outlAckFault _ _ n _ => decide (n < 8)
  | .outlClr _ _ _ => true
  | .safetyCycle _ _ _ => true
  | .estopInput _ input _ => decide (input < 2)
  | .estopDiscTimeout _ => true
  | .resetPadPulse _ _ _ => true
  | .axisReset _ _ a _ => decide (a < 2)
  | .resetFault _ _ _ => true
  | .reopen _ _ _ => true
  | .safeConfirm _ _ _ => true
  | .safeFbAck _ _ _ => true
  | .fbDiscrepancy _ pole => decide (pole < 16)
  | .outputReadbackFault _ pad _ => decide (pad < 8)
  | .stoHoldExpiry _ _ a => decide (a < 2)
  | .ss1Timeout _ a => decide (a < 2)
  | .safetyFrameRx _ k _ => decide (k < 16)
  | .safetyFrameTx _ k => decide (k < 16)
  | .connWatchdog _ k => decide (k < 16)
  | .safeClr _ _ _ => true
  | .metrologyResult _ => true
  | .sampleInstant _ _ => true
  | .biasTest _ _ => true
  | .remoteChannelOpen _ n _ _ => decide (n < 16)
  | .gridCycle _ _ => true
  | .channelStats _ => true
  | .harmonicWindow _ _ => true
  | .tempTableUpdate _ src _ => decide (src < 49)
  | .polarityDetect _ c => decide (c < 48)
  | .sealWord _ _ => true
  | .workingMapReceived _ => true
  | .rwsApply _ => true
  | .resultRecord _ => true
  | .metrClr _ _ _ => true
  | .demandIntervalEnd _ => true
  | .tariffSwitch _ => true
  | .billingPeriodClose _ => true
  | .sessionAccumOpen _ => true
  | .sessionAccumClose _ => true
  | .sessionSigned _ => true
  | .registerSave _ => true
  | .dieTimeStep _ => true
  | .metrPowerFail _ _ => true
  | .metrDieStart _ _ => true
  | .dieWatchdogReset _ => true
  | .tampChange _ k _ => decide (k < 4)
  | .billReset _ _ _ => true
  | .billSettingsApply _ => true
  | .displayFrame _ n => decide (n < 8)
  | .displayButton _ n _ => decide (n < 8)
  | .displayTimeout _ n => decide (n < 8)
  | .billRecRequest _ _ _ => true
  | .billRecReady _ _ => true
  | .acqArm _ _ _ _ => true
  | .acqStop _ _ n _ => decide (n < 16)
  | .acqTrig _ _ _ _ => true
  | .clearStore _ _ n _ => decide (n < 16)
  | .acqSample _ n _ _ _ _ => decide (n < 16)
  | .acqTimeTrigger _ n => decide (n < 16)
  | .acqSeqTimeout _ n => decide (n < 16)
  | .acqHoldoffExpiry _ n => decide (n < 16)
  | .acqRecordRequest _ _ _ => true
  | .acqRecordReady _ _ => true
  | .acqClr _ _ _ => true
  | .canPortSend _ _ k p _ => decide (k < 4) && decide (p < 16)
  | .canPeriodicTick _ k p => decide (k < 4) && decide (p < 16)
  | .canFrameSent _ k _ _ => decide (k < 4)
  | .canFrameReceived _ k _ _ _ => decide (k < 4)
  | .canBusError _ k _ _ _ _ => decide (k < 4)
  | .canRecoveryDone _ k => decide (k < 4)
  | .canRxSel _ _ k _ => decide (k < 4)
  | .canSleep _ _ k _ _ => decide (k < 4)
  | .canSleepEnter _ k => decide (k < 4)
  | .canSleepTimeout _ k => decide (k < 4)
  | .canCtrlWake _ _ k _ _ => decide (k < 4)
  | .canWake _ k _ _ => decide (k < 4)
  | .canPurgeCmd _ _ k _ _ => decide (k < 4)
  | .canResume _ _ k _ _ => decide (k < 4)
  | .canWireFault _ k _ => decide (k < 4)
  | .canWireClear _ k _ => decide (k < 4)
  | .canClr _ _ k _ => decide (k < 4)
  | .lswOn _ _ n _ => decide (n < 24)
  | .lswOff _ _ n _ => decide (n < 24)
  | .lswClear _ _ n _ => decide (n < 24)
  | .inrushEnd _ n => decide (n < 24)
  | .thermalRegulation _ n => decide (n < 24)
  | .thermalShutdown _ n _ => decide (n < 24)
  | .shortDetected _ n _ => decide (n < 24)
  | .overloadTimeout _ n _ => decide (n < 24)
  | .retryDelayExpiry _ n _ => decide (n < 24)
  | .retryCountReset _ n => decide (n < 24)
  | .railUndervoltage _ rail _ => decide (rail < 2)
  | .railRestored _ rail => decide (rail < 2)
  | .railReversed _ rail _ _ => decide (rail < 2)
  | .clampBucketRefilled _ n => decide (n < 24)
  | .packageShed _ _ _ _ => true
  | .offStateTest _ n _ _ => decide (n < 24)
  | .openOnDetect _ n _ => decide (n < 24)
  | .lswSnsSel _ _ _ => true
  | .fogEnChange _ _ _ => true
  | .foginChange _ k _ _ => decide (k < 8)
  | .lswClr _ _ _ => true
  | .thermalRegulationEnd _ n => decide (n < 24)
  | .patrolScrub _ _ _ => true
  | .memEccError _ _ _ => true
  | .memWipeCmd _ _ _ => true
  | .wipeCfgWrite _ _ _ => true
  | .lcArm _ _ _ => true
  | .lcCommit _ _ _ => true
  | .lcTransitionDone _ => true
  | .provisioning _ _ => true
  | .memClr _ _ _ => true
  | .inputLoss _ => true
  | .inputReturn _ => true
  | .holdupPowerFail _ => true
  | .powerStart _ => true
  | .holdupChargeCheck _ _ => true
  | .guardStep _ hmode => decide (hmode < 4)
  | .startLate _ => true
  | .mrstAssert _ _ => true
  | .mrstRelease _ => true
  | .pwrReset _ _ _ => true
  | .guardFault _ => true
  | .guardAutoReset _ => true
  | .powerStateAscent _ => true
  | .powerStateDescent _ => true
  | .ltrExpiry _ k => decide (k < 8)
  | .wakeThresholdCrossing _ k _ _ => decide (k < 8)
  | .pwrAlarmReached _ => true
  | .metrSleepExit _ _ => true
  | .deferStart _ _ _ => true
  | .deferEnd _ _ => true
  | .pwrClr _ _ _ => true
  | .auxInputApplied _ _ => true
  | .alwaysOnPowerUp _ => true
  | .alwaysOnPowerLoss _ => true
  | .qspiRead _ _ _ => true
  | .qspiQuadRead _ _ _ => true
  | .qspiWrite _ _ _ _ => true
  | .qspiQuadWrite _ _ _ _ => true
  | .qspiStatus _ => true
  | .pcieLinkUp _ _ => true
  | .pcieLinkDown _ => true
  | .pcieFundamentalReset _ => true
  | .spiSessionTimeout _ => true
  | .irqHoldoffExpiry _ => true
  | .mgmtHandshake _ conn port _ _ => decide (conn < 8) && decide (port < 3)
  | .mgmtBlockExpiry _ _ => true
  | .mgmtIdleTimeout _ _ => true
  | .mgmtRead _ _ _ _ _ => true
  | .mgmtWrite _ _ _ _ _ => true
  | .objGet _ _ _ _ _ _ => true
  | .objSet _ _ _ _ _ _ _ => true
  | .subscribe _ _ _ _ => true
  | .ping _ _ _ => true
  | .eventDelivery _ _ => true
  | .csmsMessage _ _ => true
  | .csmsConnectFail _ => true
  | .fwOpen _ _ => true
  | .fwDataWrite _ _ _ _ => true
  | .fwClose _ _ => true
  | .fwCancel _ _ => true
  | .fwActivate _ _ => true
  | .fwConfirm _ _ => true
  | .fwWindowExpiry _ => true
  | .fwRevert _ => true
  | .mgmtConnectionClose _ _ => true
  | .mgmtFormatFrame _ _ _ _ => true
  | .csmsConnected _ => true
  | .evqSnapshot _ _ => true
  | .evqPop _ _ _ => true
  | .fastClr _ _ _ => true
  | .lowWordRead _ _ _ => true

end Sys2Proof
end

