-- ==== Sys2Proof/Tests/Slice0.lean ====
section
/-! SUPPORT. Small tests of single commands: ill-formed commands are refused by the check, worked cases of the spec come out as it says,
and every hypothesis of a statement is met by a concrete state and operands. -/

namespace Sys2Proof.Machine

open Sys2Proof

set_option Elab.async false

/-! ### Ill-formed commands -/

theorem test_ill_formed_pads_and_connections :
    (∀ x0 x1 x2, (Instr.hostBadAccess x0 x1 16 x2).wf = false)
    ∧ (∀ x0 x1, (Instr.faultLineAsserted x0 x1 (.reset 16)).wf = false)
    ∧ (∀ x0 x1 x2, (Instr.tripPadActive x0 16 x1 x2).wf = false)
    ∧ (∀ x0 x1, (Instr.contactorFeedback x0 16 x1).wf = false)
    ∧ (∀ x0, (Instr.fbDiscrepancy x0 16).wf = false)
    ∧ (∀ x0 x1, (Instr.safetyFrameRx x0 16 x1).wf = false)
    ∧ (∀ x0, (Instr.safetyFrameTx x0 16).wf = false)
    ∧ (∀ x0, (Instr.connWatchdog x0 16).wf = false)
    ∧ (∀ x0 x1 x2, (Instr.remoteChannelOpen x0 16 x1 x2).wf = false) := by
  and_intros <;> intros <;> rfl

theorem test_ill_formed_fast_and_temperature_channels :
    (∀ x0 x1, (Instr.fastSenseSample x0 32 x1).wf = false)
    ∧ (∀ x0 x1, (Instr.windowComparatorTrip x0 32 x1).wf = false)
    ∧ (∀ x0 x1, (Instr.thConversion x0 32 x1).wf = false)
    ∧ (∀ x0, (Instr.thValidRestore x0 32).wf = false) := by
  and_intros <;> intros <;> rfl

theorem test_ill_formed_other_units :
    (∀ x0 x1, (Instr.queueStallTimeout x0 x1 133).wf = false)
    ∧ (∀ x0 x1 x2 x3, (Instr.ptpMessage x0 2 x1 x2 x3).wf = false)
    ∧ (∀ x0, (Instr.ptpAnnounceTimeout x0 2).wf = false)
    ∧ (∀ x0 x1 x2, (Instr.keeperLaneFault x0 x1 9 x2).wf = false)
    ∧ (∀ x0 x1 x2, (Instr.qsetClr x0 x1 4 x2).wf = false)
    ∧ (∀ x0, (Instr.epApplyEntry x0 0 8).wf = false)
    ∧ (∀ x0 x1, (Instr.estopInput x0 2 x1).wf = false)
    ∧ (∀ x0 x1 x2, (Instr.axisReset x0 x1 2 x2).wf = false)
    ∧ (∀ x0 x1, (Instr.outputReadbackFault x0 8 x1).wf = false)
    ∧ (∀ x0 x1, (Instr.stoHoldExpiry x0 x1 2).wf = false)
    ∧ (∀ x0, (Instr.ss1Timeout x0 2).wf = false)
    ∧ (∀ x0 x1, (Instr.tempTableUpdate x0 49 x1).wf = false)
    ∧ (∀ x0, (Instr.polarityDetect x0 48).wf = false)
    ∧ (∀ x0 x1, (Instr.tampChange x0 4 x1).wf = false)
    ∧ (∀ x0 x1, (Instr.railUndervoltage x0 2 x1).wf = false)
    ∧ (∀ x0, (Instr.railRestored x0 2).wf = false)
    ∧ (∀ x0 x1 x2, (Instr.railReversed x0 2 x1 x2).wf = false)
    ∧ (∀ x0 x1 x2, (Instr.foginChange x0 8 x1 x2).wf = false)
    ∧ (∀ x0, (Instr.guardStep x0 4).wf = false)
    ∧ (∀ x0, (Instr.ltrExpiry x0 8).wf = false)
    ∧ (∀ x0 x1 x2, (Instr.wakeThresholdCrossing x0 8 x1 x2).wf = false)
    ∧ (∀ x0 x1 x2, (Instr.mgmtHandshake x0 8 0 x1 x2).wf = false)
    ∧ (∀ x0 x1 x2, (Instr.mgmtHandshake x0 0 3 x1 x2).wf = false) := by
  and_intros <;> intros <;> rfl

theorem test_ill_formed_transaction_contexts :
    (∀ x0 x1, (Instr.txnBegin x0 x1 4).wf = false)
    ∧ (∀ x0 x1, (Instr.txnCommit x0 x1 4).wf = false)
    ∧ (∀ x0 x1, (Instr.txnCommitTrial x0 x1 4).wf = false)
    ∧ (∀ x0 x1, (Instr.txnAbort x0 x1 4).wf = false)
    ∧ (∀ x0 x1, (Instr.txnConfirm x0 x1 4).wf = false)
    ∧ (∀ x0, (Instr.txnValidationDone x0 4).wf = false)
    ∧ (∀ x0, (Instr.txnConfirmEffect x0 4).wf = false)
    ∧ (∀ x0, (Instr.txnIdleTimeout x0 4).wf = false)
    ∧ (∀ x0, (Instr.txnTrialTimeout x0 4).wf = false)
    ∧ (∀ x0, (Instr.txnRollback x0 4).wf = false)
    ∧ (∀ x0 x1 x2, (Instr.imgTxnTrialWrite x0 x1 4 x2).wf = false) := by
  and_intros <;> intros <;> rfl

theorem test_ill_formed_loops :
    (∀ x0 x1 x2, (Instr.tileIn x0 x1 64 x2 0).wf = false)
    ∧ (∀ x0 x1 x2, (Instr.tileWaitMiss x0 x1 64 x2 0).wf = false)
    ∧ (∀ x0 x1 x2 x3 x4 x5, (Instr.tileMac x0 x1 64 x2 x3 x4 x5).wf = false)
    ∧ (∀ x0 x1 x2 x3 x4 x5, (Instr.tileMsu x0 x1 64 x2 x3 x4 x5).wf = false)
    ∧ (∀ x0 x1 x2 x3 x4 x5, (Instr.tileMacz x0 x1 64 x2 x3 x4 x5).wf = false)
    ∧ (∀ x0 x1 x2 x3 x4, (Instr.tileStore x0 x1 64 x2 x3 0 x4).wf = false)
    ∧ (∀ x0 x1 x2 x3, (Instr.tileAdd x0 x1 64 x2 x3 0).wf = false)
    ∧ (∀ x0 x1 x2 x3, (Instr.tileSub x0 x1 64 x2 x3 0).wf = false)
    ∧ (∀ x0 x1 x2, (Instr.tileNeg x0 x1 64 x2 0).wf = false)
    ∧ (∀ x0 x1 x2, (Instr.tileAbs x0 x1 64 x2 0).wf = false)
    ∧ (∀ x0 x1 x2 x3, (Instr.tileMin x0 x1 64 x2 x3 0).wf = false)
    ∧ (∀ x0 x1 x2 x3, (Instr.tileMax x0 x1 64 x2 x3 0).wf = false)
    ∧ (∀ x0 x1 x2 x3, (Instr.tileScale x0 x1 64 x2 x3 0).wf = false)
    ∧ (∀ x0 x1 x2 x3 x4 x5, (Instr.tileLim x0 x1 64 x2 x3 x4 0 x5).wf = false)
    ∧ (∀ x0 x1 x2 x3 x4 x5, (Instr.tileCmp x0 x1 64 x2 x3 x4 x5).wf = false)
    ∧ (∀ x0 x1 x2 x3 x4, (Instr.tileSel x0 x1 64 x2 x3 x4 0).wf = false)
    ∧ (∀ x0 x1 x2 x3 x4 x5 x6 x7, (Instr.tileInteg x0 x1 64 x2 x3 x4 x5 x6 x7).wf = false)
    ∧ (∀ x0 x1 x2 x3, (Instr.tileBiq x0 x1 64 x2 x3 0 0).wf = false)
    ∧ (∀ x0 x1 x2, (Instr.tileSincos x0 x1 64 x2 0 0).wf = false)
    ∧ (∀ x0 x1 x2 x3, (Instr.tileLut x0 x1 64 x2 x3 0).wf = false)
    ∧ (∀ x0 x1 x2 x3 x4, (Instr.tileDiv x0 x1 64 x2 x3 x4 0).wf = false)
    ∧ (∀ x0 x1 x2, (Instr.tileSqrt x0 x1 64 x2 0).wf = false)
    ∧ (∀ x0 x1, (Instr.tileStamp x0 x1 64 0).wf = false)
    ∧ (∀ x0 x1 x2 x3, (Instr.tileXput x0 x1 64 x2 x3).wf = false)
    ∧ (∀ x0 x1 x2, (Instr.tileXget x0 x1 64 x2 0).wf = false)
    ∧ (∀ x0 x1 x2 x3, (Instr.tileChainPut x0 x1 64 x2 x3).wf = false)
    ∧ (∀ x0 x1 x2, (Instr.tileChainGet x0 x1 64 x2 0).wf = false)
    ∧ (∀ x0 x1 x2 x3 x4, (Instr.tilePost x0 x1 64 x2 x3 x4).wf = false)
    ∧ (∀ x0 x1 x2 x3, (Instr.tilePub x0 x1 64 x2 x3).wf = false)
    ∧ (∀ x0 x1 x2 x3, (Instr.tileRep x0 x1 64 x2 x3).wf = false)
    ∧ (∀ x0 x1 x2, (Instr.tileBr x0 x1 64 x2 0).wf = false)
    ∧ (∀ x0 x1, (Instr.tileEnd x0 x1 64).wf = false)
    ∧ (∀ x0 x1 x2, (Instr.loopPreset x0 x1 64 x2).wf = false) := by
  and_intros <;> intros <;> rfl

theorem test_ill_formed_data_words :
    (∀ x0 x1 x2, (Instr.tileIn x0 x1 0 x2 4096).wf = false)
    ∧ (∀ x0 x1 x2, (Instr.tileWaitMiss x0 x1 0 x2 4096).wf = false)
    ∧ (∀ x0 x1 x2 x3 x4, (Instr.tileStore x0 x1 0 x2 x3 4096 x4).wf = false)
    ∧ (∀ x0 x1 x2 x3, (Instr.tileAdd x0 x1 0 x2 x3 4096).wf = false)
    ∧ (∀ x0 x1 x2 x3, (Instr.tileSub x0 x1 0 x2 x3 4096).wf = false)
    ∧ (∀ x0 x1 x2, (Instr.tileNeg x0 x1 0 x2 4096).wf = false)
    ∧ (∀ x0 x1 x2, (Instr.tileAbs x0 x1 0 x2 4096).wf = false)
    ∧ (∀ x0 x1 x2 x3, (Instr.tileMin x0 x1 0 x2 x3 4096).wf = false)
    ∧ (∀ x0 x1 x2 x3, (Instr.tileMax x0 x1 0 x2 x3 4096).wf = false)
    ∧ (∀ x0 x1 x2 x3, (Instr.tileScale x0 x1 0 x2 x3 4096).wf = false)
    ∧ (∀ x0 x1 x2 x3 x4 x5, (Instr.tileLim x0 x1 0 x2 x3 x4 4096 x5).wf = false)
    ∧ (∀ x0 x1 x2 x3 x4, (Instr.tileSel x0 x1 0 x2 x3 x4 4096).wf = false)
    ∧ (∀ x0 x1 x2 x3, (Instr.tileBiq x0 x1 0 x2 x3 0 4096).wf = false)
    ∧ (∀ x0 x1 x2 x3, (Instr.tileBiq x0 x1 0 x2 x3 4096 0).wf = false)
    ∧ (∀ x0 x1 x2, (Instr.tileSincos x0 x1 0 x2 4096 0).wf = false)
    ∧ (∀ x0 x1 x2, (Instr.tileSincos x0 x1 0 x2 0 4096).wf = false)
    ∧ (∀ x0 x1 x2 x3, (Instr.tileLut x0 x1 0 x2 x3 4096).wf = false)
    ∧ (∀ x0 x1 x2 x3 x4, (Instr.tileDiv x0 x1 0 x2 x3 x4 4096).wf = false)
    ∧ (∀ x0 x1 x2, (Instr.tileSqrt x0 x1 0 x2 4096).wf = false)
    ∧ (∀ x0 x1, (Instr.tileStamp x0 x1 0 4096).wf = false)
    ∧ (∀ x0 x1 x2, (Instr.tileXget x0 x1 0 x2 4096).wf = false)
    ∧ (∀ x0 x1 x2, (Instr.tileChainGet x0 x1 0 x2 4096).wf = false)
    ∧ (∀ x0 x1 x2, (Instr.tileBr x0 x1 0 x2 4096).wf = false) := by
  and_intros <;> intros <;> rfl

theorem test_ill_formed_pairs :
    (∀ x0 x1 x2, (Instr.edgeUpdatePoint x0 x1 48 x2).wf = false)
    ∧ (∀ x0 x1 x2, (Instr.swnTransition x0 48 x1 x2).wf = false)
    ∧ (∀ x0 x1, (Instr.swnMiss x0 48 x1).wf = false)
    ∧ (∀ x0 x1 x2, (Instr.swnFault x0 48 x1 x2).wf = false)
    ∧ (∀ x0 x1 x2 x3, (Instr.dlineCalibrationDone x0 48 x1 x2 x3).wf = false)
    ∧ (∀ x0 x1, (Instr.dlineExchange x0 48 x1).wf = false)
    ∧ (∀ x0 x1 x2, (Instr.pwmPadShort x0 48 x1 x2).wf = false) := by
  and_intros <;> intros <;> rfl

theorem test_ill_formed_endpoints :
    (∀ x0 x1 x2 x3, (Instr.ringLockAcquired x0 x1 384 x2 x3).wf = false)
    ∧ (∀ x0 x1 x2 x3 x4, (Instr.ringLockLost x0 x1 384 x2 x3 x4).wf = false)
    ∧ (∀ x0, (Instr.epInterfaceDown x0 384).wf = false)
    ∧ (∀ x0, (Instr.epThroughRestore x0 384).wf = false)
    ∧ (∀ x0 x1 x2, (Instr.sched x0 384 x1 x2).wf = false)
    ∧ (∀ x0, (Instr.epApplyEntry x0 384 0).wf = false)
    ∧ (∀ x0 x1 x2, (Instr.sync x0 384 x1 x2).wf = false)
    ∧ (∀ x0 x1 x2 x3 x4, (Instr.delay x0 384 x1 x2 x3 x4).wf = false)
    ∧ (∀ x0 x1 x2, (Instr.setdly x0 384 x1 x2).wf = false)
    ∧ (∀ x0 x1 x2, (Instr.enum x0 384 x1 x2).wf = false)
    ∧ (∀ x0 x1 x2, (Instr.config x0 384 x1 x2).wf = false)
    ∧ (∀ x0 x1 x2, (Instr.resume x0 384 x1 x2).wf = false)
    ∧ (∀ x0 x1 x2, (Instr.identReq x0 384 x1 x2).wf = false)
    ∧ (∀ x0 x1 x2, (Instr.takeover x0 384 x1 x2).wf = false)
    ∧ (∀ x0 x1, (Instr.tripBlock x0 384 x1).wf = false)
    ∧ (∀ x0 x1, (Instr.epLocalFault x0 384 x1).wf = false)
    ∧ (∀ x0, (Instr.epSafeTimeout x0 384).wf = false)
    ∧ (∀ x0, (Instr.epNoLinkTimeout x0 384).wf = false) := by
  and_intros <;> intros <;> rfl

theorem test_ill_formed_ring_ports :
    (∀ x0 x1, (Instr.delayRpt x0 12 x1).wf = false)
    ∧ (∀ x0 x1, (Instr.ident x0 12 x1).wf = false)
    ∧ (∀ x0 x1, (Instr.meas x0 12 x1).wf = false)
    ∧ (∀ x0 x1, (Instr.portTripBlockRx x0 12 x1).wf = false) := by
  and_intros <;> intros <;> rfl

theorem test_ill_formed_cells_and_phases :
    (∀ x0 x1 x2, (Instr.bypass x0 x1 96 x2).wf = false)
    ∧ (∀ x0 x1 x2, (Instr.restore x0 x1 96 x2).wf = false)
    ∧ (∀ x0, (Instr.bypassTimeout x0 96).wf = false)
    ∧ (∀ x0 x1 x2, (Instr.phaseRestore x0 x1 96 x2).wf = false)
    ∧ (∀ x0, (Instr.imbalanceTrip x0 96).wf = false) := by
  and_intros <;> intros <;> rfl

theorem test_ill_formed_outlets :
    (∀ x0 x1 x2, (Instr.outsStop x0 x1 8 x2).wf = false)
    ∧ (∀ x0 x1 x2, (Instr.outsAckLockout x0 x1 8 x2).wf = false)
    ∧ (∀ x0, (Instr.trackingFault x0 8).wf = false)
    ∧ (∀ x0, (Instr.retryWaitExpiry x0 8).wf = false)
    ∧ (∀ x0, (Instr.shedDlyExpiry x0 8).wf = false)
    ∧ (∀ x0, (Instr.stageStopTimeout x0 8).wf = false)
    ∧ (∀ x0, (Instr.coolCableTrip x0 8).wf = false)
    ∧ (∀ x0, (Instr.flowLossTimeout x0 8).wf = false)
    ∧ (∀ x0, (Instr.flowLowTimeout x0 8).wf = false)
    ∧ (∀ x0, (Instr.coolRestoreTimer x0 8).wf = false)
    ∧ (∀ x0, (Instr.runOnExpiry x0 8).wf = false)
    ∧ (∀ x0 x1 x2, (Instr.coolAck x0 x1 8 x2).wf = false)
    ∧ (∀ x0 x1 x2, (Instr.sigChange x0 8 x1 x2).wf = false)
    ∧ (∀ x0 x1, (Instr.ppChange x0 8 x1).wf = false)
    ∧ (∀ x0 x1 x2, (Instr.vehicleLinkUp x0 8 x1 x2).wf = false)
    ∧ (∀ x0 x1, (Instr.vehicleMessage x0 8 x1).wf = false)
    ∧ (∀ x0, (Instr.linkTimeout x0 8).wf = false)
    ∧ (∀ x0, (Instr.protocolTimeout x0 8).wf = false)
    ∧ (∀ x0, (Instr.contactorTimeout x0 8).wf = false)
    ∧ (∀ x0, (Instr.precheckWindow x0 8).wf = false)
    ∧ (∀ x0, (Instr.cableCheckSettled x0 8).wf = false)
    ∧ (∀ x0, (Instr.cableCheckTimeout x0 8).wf = false)
    ∧ (∀ x0, (Instr.isolationLoss x0 8).wf = false)
    ∧ (∀ x0, (Instr.weldCheckTimeout x0 8).wf = false)
    ∧ (∀ x0, (Instr.emergencyOpenTimeout x0 8).wf = false)
    ∧ (∀ x0 x1 x2, (Instr.outlStop x0 x1 8 x2).wf = false)
    ∧ (∀ x0 x1 x2, (Instr.outlDisable x0 x1 8 x2).wf = false)
    ∧ (∀ x0 x1 x2, (Instr.outlEnable x0 x1 8 x2).wf = false)
    ∧ (∀ x0 x1 x2, (Instr.outlAckFault x0 x1 8 x2).wf = false)
    ∧ (∀ x0, (Instr.displayFrame x0 8).wf = false)
    ∧ (∀ x0 x1, (Instr.displayButton x0 8 x1).wf = false)
    ∧ (∀ x0, (Instr.displayTimeout x0 8).wf = false) := by
  and_intros <;> intros <;> rfl

theorem test_ill_formed_engines :
    (∀ x0 x1 x2, (Instr.acqStop x0 x1 16 x2).wf = false)
    ∧ (∀ x0 x1 x2, (Instr.clearStore x0 x1 16 x2).wf = false)
    ∧ (∀ x0 x1 x2 x3 x4, (Instr.acqSample x0 16 x1 x2 x3 x4).wf = false)
    ∧ (∀ x0, (Instr.acqTimeTrigger x0 16).wf = false)
    ∧ (∀ x0, (Instr.acqSeqTimeout x0 16).wf = false)
    ∧ (∀ x0, (Instr.acqHoldoffExpiry x0 16).wf = false) := by
  and_intros <;> intros <;> rfl

theorem test_ill_formed_bus_engines :
    (∀ x0 x1 x2, (Instr.canPortSend x0 x1 4 0 x2).wf = false)
    ∧ (∀ x0, (Instr.canPeriodicTick x0 4 0).wf = false)
    ∧ (∀ x0 x1 x2, (Instr.canFrameSent x0 4 x1 x2).wf = false)
    ∧ (∀ x0 x1 x2 x3, (Instr.canFrameReceived x0 4 x1 x2 x3).wf = false)
    ∧ (∀ x0 x1 x2 x3 x4, (Instr.canBusError x0 4 x1 x2 x3 x4).wf = false)
    ∧ (∀ x0, (Instr.canRecoveryDone x0 4).wf = false)
    ∧ (∀ x0 x1 x2, (Instr.canRxSel x0 x1 4 x2).wf = false)
    ∧ (∀ x0 x1 x2 x3, (Instr.canSleep x0 x1 4 x2 x3).wf = false)
    ∧ (∀ x0, (Instr.canSleepEnter x0 4).wf = false)
    ∧ (∀ x0, (Instr.canSleepTimeout x0 4).wf = false)
    ∧ (∀ x0 x1 x2 x3, (Instr.canCtrlWake x0 x1 4 x2 x3).wf = false)
    ∧ (∀ x0 x1 x2, (Instr.canWake x0 4 x1 x2).wf = false)
    ∧ (∀ x0 x1 x2 x3, (Instr.canPurgeCmd x0 x1 4 x2 x3).wf = false)
    ∧ (∀ x0 x1 x2 x3, (Instr.canResume x0 x1 4 x2 x3).wf = false)
    ∧ (∀ x0 x1, (Instr.canWireFault x0 4 x1).wf = false)
    ∧ (∀ x0 x1, (Instr.canWireClear x0 4 x1).wf = false)
    ∧ (∀ x0 x1 x2, (Instr.canClr x0 x1 4 x2).wf = false) := by
  and_intros <;> intros <;> rfl

theorem test_ill_formed_bus_ports :
    (∀ x0 x1 x2, (Instr.canPortSend x0 x1 0 16 x2).wf = false)
    ∧ (∀ x0, (Instr.canPeriodicTick x0 0 16).wf = false) := by
  and_intros <;> intros <;> rfl

theorem test_ill_formed_load_switches :
    (∀ x0 x1 x2, (Instr.lswOn x0 x1 24 x2).wf = false)
    ∧ (∀ x0 x1 x2, (Instr.lswOff x0 x1 24 x2).wf = false)
    ∧ (∀ x0 x1 x2, (Instr.lswClear x0 x1 24 x2).wf = false)
    ∧ (∀ x0, (Instr.inrushEnd x0 24).wf = false)
    ∧ (∀ x0, (Instr.thermalRegulation x0 24).wf = false)
    ∧ (∀ x0 x1, (Instr.thermalShutdown x0 24 x1).wf = false)
    ∧ (∀ x0 x1, (Instr.shortDetected x0 24 x1).wf = false)
    ∧ (∀ x0 x1, (Instr.overloadTimeout x0 24 x1).wf = false)
    ∧ (∀ x0 x1, (Instr.retryDelayExpiry x0 24 x1).wf = false)
    ∧ (∀ x0, (Instr.retryCountReset x0 24).wf = false)
    ∧ (∀ x0, (Instr.clampBucketRefilled x0 24).wf = false)
    ∧ (∀ x0 x1 x2, (Instr.offStateTest x0 24 x1 x2).wf = false)
    ∧ (∀ x0 x1, (Instr.openOnDetect x0 24 x1).wf = false)
    ∧ (∀ x0, (Instr.thermalRegulationEnd x0 24).wf = false) := by
  and_intros <;> intros <;> rfl

/-! ### States for the tests -/

/-- A module in RUN with side A ACTIVE and side B in STANDBY, powered, its map served. -/
def runs : State :=
  { (State.reset.setF Reg.IMG_STAT Fld.IMG_STAT_MODE 2).setF Reg.TIME_STAT Fld.TIME_STAT_VALID 1 with
    sup := { PowerPart.reset with phase := 4 }
    keep := { KeepPart.reset with
      sides := [(0, { SideRec.reset with state := .active }), (1, { SideRec.reset with state := .standby })], linkTrained := true } }
/-- A SERVICE session on the service set, and accesses of the other roles. -/
def asService : Access := ⟨.service, .service, 0⟩
def asOperator : Access := ⟨.mgmt, .operator, 1⟩
def asMetrology : Access := ⟨.mgmt, .metrology, 2⟩
def asSafety : Access := ⟨.mgmt, .safety, 3⟩
def asReader : Access := ⟨.mgmt, .reader, 4⟩
def asHost : Access := ⟨.host, .service, 0⟩
/-- A good Beacon of Side B for the cycle numbered 0xFFFFFFFF. -/
def beaconB : List Byte :=
  [0x0B, 0x04, 0x00, 0x00, 0xFF, 0xFF, 0xFF, 0xFF, 0x00, 0x00, 0x00, 0x00, 0x00, 0x00, 0x00, 0x00, 0x00, 0x00, 0x00, 0x00, 0x00, 0x00, 0x00,
    0x00, 0x00, 0x00, 0x00, 0x00, 0xBC, 0xC6, 0x7E, 0xB2]
/-- The module in RUN with the Beacons of both sides sent at the last boundary and not yet judged; Side B in a state of its own. -/
def beacons (st : SideState) : State :=
  { runs with
    keep := { runs.keep with
      sides := [(0, { SideRec.reset with state := .active }), (1, { SideRec.reset with state := st })]
      reported := 0xFFFFFFFF, judged := false, beacons := [(0, ⟨[], 5, true⟩), (1, ⟨beaconB, 4, true⟩)] } }
/-- The inputs of a quiet boundary. -/
def quiet : BoundaryIn :=
  ⟨[], none, true, 0, [], [], 0, SstIn.reset, [], [], 0, ⟨[], [], [], 0, 0⟩, ⟨false, false, 0, 0, 0, 0, 0, 0, 0, 0, 0⟩⟩
/-- The same with loop 3 used and its tile's program under way on Side A: data words 5 to 8 and 10 hold values. -/
def tiles : State :=
  { runs.setF (Reg.LOOP_TSTAT 3) Fld.LOOP_TSTAT_USED 1 with
    loop := { LoopPart.reset with
      tiles := [(3, { Tile.reset with
        started := true, data := [(5, 7), (6, 0xFFFFFFFE), (7, 0x80000000), (8, 0), (10, 25)], acc := [(2, 5000000000)] })] } }

/-- The same with parameter word 4 at its largest value. -/
def tilesBig : State := ((tiles.wr (Reg.LOOP_PARAM 3 4) 0x7FFFFFFF))
/-- The same with an integrator: word 2 is integral word 21, parameter word 4 is 100, the accumulator large. -/
def tilesInteg : State :=
  { (tiles.wr (Reg.LOOP_PARAM 3 4) 100) with
    img := { tiles.img with pars := [(Par.integWord 3 2, 21)] }
    loop := { tiles.loop with
      tiles := [(3, { Tile.reset with started := true, data := [(20, 99), (21, 0xFFFFFFF0)], acc := [(1, 0x400000000000)] })] } }
/-- The same with a lookup table of two entries, the second at (10, 100). -/
def tilesLut : State :=
  { tiles with
    img := { tiles.img with
      pars := SMap.put (fun _ => 0) (SMap.put (fun _ => 0) (SMap.put (fun _ => 0) [] (Par.lutLen 1) 2) (Par.lutX 1 1) 10) (Par.lutY 1 1) 100 } }
/-- The same with a chained word for tile 4 and one entry in queue 71. -/
def tilesIn : State :=
  ({ tiles with loop := { tiles.loop with chains := [(4, 77)] } }).setQueue .a 71 { Queue.reset with entries := [⟨12, 5, 5, 1, 0, 7, 0, [], 0, []⟩] }
/-- The same with the tile of loop 3 afresh and its SAT condition set. -/
def tilesSat : State := tiles.setTile .a 3 { Tile.reset with started := true, flags := 1024 }

/-- Pair 3 used, with a symmetric carrier of 20 µs (PERIOD 1024000 edge units) under way on both sides. -/
def edges : State :=
  { (runs.wr (Reg.EDGE_CFG 3) 0x01080001).wr (Reg.EDGE_PERIOD 3) 1024000 with
    edge := { EdgePart.reset with
      pairs := [(3, { Pair.reset with run := true, next := 1024000, per := 1024000, word := 0x40000000, refs := [(1030000, true)], enter := 2 }),
        (65539, { Pair.reset with run := true, next := 1024000, per := 1024000 })] } }
/-- The same with one post for the pair waiting in loop 5's queue. -/
def edgePost : State := edges.setQueue .a 5 { Queue.reset with entries := [⟨0x20000000, 79760, 79760, 0, 0, 3, 0, [], 0, []⟩] }
/-- Sources 2 (a pad), 51 (pair 3's switch node), 19 (fast channel 3), 116 and 112 of Quickset mapped to group 0, pair 3 used and in it. -/
def trips : State :=
  (((edges.wr (Reg.QSET_MAP 2) 0x80000101).wr (Reg.QSET_MAP 51) 0x80000001).wr (Reg.QSET_MAP 19) 0x80000001).wr (Reg.QSET_MAP 116) 0x80000001
/-- The same with source 2's latch set. -/
def tripped : State := (((trips.wr (Reg.QSET_LATCH 0) 4).setF Reg.QSET_STAT Fld.QSET_STAT_GROUPS 1).setF Reg.QSET_STAT Fld.QSET_STAT_ANY 1)

/-- Port 0 in RUN with lock and two endpoints of the image on it, the second with one leg; the first CONFIGURED, the second in RUN, both
with lock on U and a delay for the lower port's stream. -/
def rings : State :=
  { runs.wr (Reg.RING_PORT_STAT 0) 0x56FF0002 with
    img := { runs.img with pars := SMap.put (fun _ => 0) (SMap.put (fun _ => 0) (SMap.put (fun _ => 0) [] (Par.epUsed 0) 1) (Par.epUsed 1) 1) (Par.epLegsEn 1) 1 }
    ring := { runs.ring with
      eps := [(0, { Endpoint.reset with state := 3, addr := some 0, lockU := true, lockD := true, dlyLo := some 500 }),
        (1, { Endpoint.reset with state := 5, addr := some 1, lockU := true, dlyLo := some 700, mode := 1, cfg := [2, 0, 3, 0] })] } }
/-- The same with endpoint e altered. -/
def withEp (e : Nat) (f : Endpoint → Endpoint) : State := rings.setEp e (f (rings.ep e))
/-- A frame of a type to an address with a payload, epoch 0, sequence number 9, in cycle 6. -/
def frameTo (ty addr : Nat) (pay : List Byte) : List Byte := mkFrame ty addr 0 0 9 6 1 pay
/-- A SCHED payload with one entry for leg 2. -/
def oneEntry : List Byte := leBytes 16 1 ++ schedEntry 2 0 1 10 1000 100 600 5000 20 30

/-- A transformer of two cells a phase (N_MIN 1), every cell ready, its endpoint's state as given, the ladder's state as given, locked to a
nominal grid. -/
def sst (ladder ep : Nat) : State :=
  (List.range 96).foldl (fun st c => if c % 32 < 2 then st.setF (Reg.SST_CELL_STAT c) Fld.SST_CELL_STAT_STATUS 1 else st)
    { (((((runs.setF Reg.SST_CFG Fld.SST_CFG_N_PHASE 2).setF Reg.SST_CFG Fld.SST_CFG_N_MIN 1).setF Reg.SST_STAT Fld.SST_STAT_PLL_LOCK 1).setF
        Reg.SST_RUN_STAT Fld.SST_RUN_STAT_STATE ladder).setF (Reg.RING_EP_STAT 0) Fld.RING_EP_STAT_STATE ep).setF (Reg.RING_PORT_STAT 0)
        Fld.RING_PORT_STAT_STATE 5 with
      sst := { SstPart.reset with last := { SstIn.reset with uPos := 1000, freq := 5000 } } }
/-- The same with every cell in a state. -/
def sstCells (ladder st : Nat) : State :=
  (List.range 96).foldl (fun s c => if c % 32 < 2 then s.setCellState c st else s) (sst ladder 5)

/-- Outlet 1's stage in a state with phases 3 and 4 of the image under it, both in a state; its trip group is 2, its coolant path a pumped
one whose state is given. -/
def outs (stage phase cool : Nat) : State :=
  { (((((((runs.setF (Reg.OUTS_O_STAT 1) Fld.OUTS_O_STAT_STATE stage).setF (Reg.OUTS_PH_STAT 3) Fld.OUTS_PH_STAT_STATE phase).setF
      (Reg.OUTS_PH_STAT 4) Fld.OUTS_PH_STAT_STATE phase).setF (Reg.OUTS_PH_STAT 3) Fld.OUTS_PH_STAT_OUTLET 1).setF (Reg.OUTS_PH_STAT 4)
      Fld.OUTS_PH_STAT_OUTLET 1).setF (Reg.OUTS_O_SET 1) Fld.OUTS_O_SET_GROUP 2).setF (Reg.COOL_O_STAT 1) Fld.COOL_O_STAT_STATE cool) with
    img := { runs.img with pars := SMap.put (fun _ => 0) (SMap.put (fun _ => 0) (SMap.put (fun _ => 0) (SMap.put (fun _ => 0) (SMap.put (fun _ => 0)
      (SMap.put (fun _ => 0) [] (Par.phHome 3) 2) (Par.phHome 4) 2) (Par.coolKind 1) 1) (Par.flowSrc 1) 6) (Par.leakPad 1) 6) (Par.kFlow 5) 600 } }

/-- Outlet 1 (COMBINED, every protocol enabled, group 2) with its session in a state and with a signal, its plug connected. -/
def outl (session sig : Nat) : State :=
  (((((outs 0 1 0).wr (Reg.OUTL_O_CFG 1) 0).setF (Reg.OUTL_O_CFG 1) Fld.OUTL_O_CFG_KIND 1).setF (Reg.OUTL_O_CFG 1) Fld.OUTL_O_CFG_PROTO_EN 7).setF
    (Reg.OUTL_O_STAT 1) Fld.OUTL_O_STAT_STATE session |>.setF (Reg.OUTL_O_STAT 1) Fld.OUTL_O_STAT_SIG sig).setF (Reg.OUTL_O_STAT 1)
    Fld.OUTL_O_STAT_PP 2
/-- The same with the session's record altered. -/
def outlWith (session sig : Nat) (f : Outlet → Outlet) : State := (outl session sig).setOtl 1 (f Outlet.reset)
/-- Both Hedgerow channels and axis 0 of each in a state, the axis enabled or stopping with its pads energised; commissioned settings as
the chapter's worked case has them, the reset pad of axis 0 GPIO 6, remote resets allowed. -/
def safes (ch ax : Nat) : State :=
  let s := ((((runs.wr Reg.SAFE_IN_CFG 0x0A140001).wr (Reg.SAFE_AX_SS1 0) 0x03E82832).wr (Reg.SAFE_AX_ENC 0) 0x00321405).setCh .a ch).setCh .b ch
  let t := [Side.a, Side.b].foldl (fun st x => (st.setAxF x 0 Fld.SAFE_AX_STAT_STATE ax).setAxis x 0
    { Axis.reset with sto := ax != 0, brk := ax != 0 }) s
  { t with img := { t.img with pars := SMap.put (fun _ => 0) [] (Par.resetPad 0) 7 } }
/-- The same with RX connection 2 (identifier 3) and TX connection 5, both in a state, the last SEQ accepted on connection 2 given. -/
def safeConn (st seq : Nat) : State :=
  let s := safes 2 0
  let t := [Side.a, Side.b].foldl (fun u x => ((u.setConnState x 2 st).setF (sideAddr x (Reg.SAFE_CONN_STAT 2)) Fld.SAFE_CONN_STAT_SEQ seq).setConn x 2
    { Conn3.reset with got := true, run := 2 }) s
  { t with img := { t.img with pars := SMap.put (fun _ => 0) (SMap.put (fun _ => 0) (SMap.put (fun _ => 0) (SMap.put (fun _ => 0) (SMap.put (fun _ => 0)
      t.img.pars (Par.connId 2) 4) (Par.connDir 2) 1) (Par.connWd 2) 12) (Par.connId 5) 6) (Par.connPeriod 5) 4 } }
/-- A received safety frame with an identifier, a SEQ and its first DATA byte, under keys of 0. -/
def rxFrame (cid seq d0 : Nat) : List Byte :=
  let h := leBytes 2 cid ++ leBytes 2 seq ++ [2, 0, 0, 0] ++ leBytes 16 d0
  h ++ leBytes 4 (crcA 0 h).toNat ++ leBytes 4 (crcB 0 h).toNat
/-- The metrology die runs and knows the time, its loop closed: AC voltage and current on channels 0 to 5, DC group 1 with its voltage on
channel 8 and its current on channel 9 (scale 1), a TEMP channel 20 that feeds channel 9. -/
def meters : State :=
  let s := { runs with metr := { runs.metr with on := true, loop := 0, timeKnown := true, lineValid := true, markTs := 4000, working := [1], mapHeld := true } }
  let s1 := [(0, 0x11100000), (1, 0x11140000), (2, 0x11180000), (3, 0x21200000), (4, 0x21240000), (5, 0x21280000), (8, 0x19100000),
    (9, 0x29205480), (20, 0x50300000)].foldl (fun (st : State) (e : Nat × Nat) => (st.dwr (Reg.METR_CH_CFG e.1) (BitVec.ofNat 32 e.2)).dwr (Reg.METR_CH_SCALE e.1) 65536) s
  ((s1.dwr (Reg.METR_TC 9 0) 0x00FA0000).dwr (Reg.METR_TC 9 1) 0x028A1F40).dwr64 Reg.BILL_DEM_END_LO 0x7FFFFFFFFFFF
/-- The same with the die's working part altered. -/
def metersWith (f : MetrPart → MetrPart) : State := { meters with metr := f meters.metr }
/-- The same with the billing part altered. -/
def billsWith (f : BillPart → BillPart) : State := { meters with bill := f meters.bill }
/-- An instant that the session of outlet 1 passed, come already. -/
def sessInstant (opens on : Bool) : State :=
  let s := meters.setSacc 1 { SessAcc.reset with on := on, sess := 6, billed := [(2, 4000)] }
  { s.wr (Reg.OUTL_O_SESS 1) 7 with outl := { s.outl with toMeter := [(1, opens, 3000)] } }
/-- Engine 3 on both sides in a state with one lane and a unit of KIND TIME in preset 1, sampling each 1 µs; its record altered. -/
def acqs (f : AcqEng → AcqEng) : State :=
  let e : AcqEng := f { AcqEng.reset with state := 1, cfg := [(0x08, 0x01010000), (0x0C, 5), (0x14, 100), (0x20, 500)] }
  let s := (runs.setEng .a 3 e).setEng .b 3 e
  let p := SMap.put (fun _ => 0) (SMap.put (fun _ => 0) (SMap.put (fun _ => 0) [] (Par.acqTu 1 0) 0x70000000) (Par.acqLanes 1) 1)
    (Par.acqLane 1 0) 0x60030000
  { s with img := { s.img with pars := p }, tm := { s.tm with ts := 1000 } }
/-- The same at the highest rate, with eight wide lanes and four envelope streams: above what the engines keep up with. -/
def acqsFast (f : AcqEng → AcqEng) : State :=
  let s := acqs fun e => f { e with cfg := SMap.put (fun _ => 0) e.cfg 0x0C 1 }
  let p := (List.range 8).foldl (fun m l => SMap.put (fun _ => 0) m (Par.acqLane 1 l) 0x40000000)
    (SMap.put (fun _ => 0) (SMap.put (fun _ => 0) s.img.pars (Par.acqLanes 1) 8) (Par.acqStreams 1) 4)
  { s with img := { s.img with pars := (List.range 4).foldl (fun m k => SMap.put (fun _ => 0) m (Par.acqKind 1 k) 2) p } }
/-- Controller 1 in a MODE with four objects, object 3 a HOST object of identifier 0x321; its port 2 takes messages from HOST, identifier
0x123 staged. -/
def cans (mode : Nat) : State :=
  let s := (((((runs.setCanMode 1 mode).setF (Reg.CAN_CFG 1) Fld.CAN_CFG_FORMAT 0).setF (Reg.CAN_CFG 1) Fld.CAN_CFG_OBJECTS 4).setF
    (Reg.CAN_PORT_CFG 1 2) Fld.CAN_PORT_CFG_PRODUCER 1).wr (Reg.CAN_PORT_ID 1 2) 0x123)
  { s with img := { s.img with pars := SMap.put (fun _ => 0) (SMap.put (fun _ => 0) [] (Par.canObj 1 3) 0x322) (Par.canObjCfg 1 3) 0x10 } }
/-- The same with port 2 periodic (1 ms), its message kept, at a boundary after the first period. -/
def cansPeriodic (mode : Nat) : State :=
  let s := (((cans mode).setF (Reg.CAN_PORT_CFG 1 2) Fld.CAN_PORT_CFG_MODE 1).setF (Reg.CAN_PORT_CFG 1 2) Fld.CAN_PORT_CFG_PERIOD 1)
  let e := CanEng.reset.setBuf 2 0 ⟨0, some ⟨0x123, false, 0, false, [1]⟩, 0⟩
  let t := (s.setCan .a 1 e).setCan .b 1 e
  { t with tm := { t.tm with mono := BitVec.ofNat 64 (Config.msec 1 - 4), cycleStart := BitVec.ofNat 64 (Config.msec 1) } }
/-- The same with two messages of port 2 in the queues. -/
def cansQueued (mode : Nat) : State :=
  let m : CanMsg := ⟨0x123, false, 0, false, [1]⟩
  let e := { (CanEng.reset.setBuf 2 0 ⟨2, some m, 5⟩).setBuf 2 1 ⟨2, some { m with id := 0x124 }, 5⟩ with
    queue := [⟨2, 0, m, 5⟩, ⟨2, 1, { m with id := 0x124 }, 5⟩] }
  ((cans mode).setCan .a 1 e).setCan .b 1 e
/-- The same with a frame in object 3 on both sides. -/
def cansHeld : State :=
  let e := { CanEng.reset with objs := [(3, ⟨0, [1, 2, 3, 4, 5], 9, true, false⟩)] }
  ((cans 1).setCan .a 1 e).setCan .b 1 e
/-- Load switch channel 9 in a state, on a HOST command, with two retries, its inrush window 5 ms, overload time 10 ms, retry delay 1 s,
budget 400 mJ full; its record altered. -/
def lsws (st : Nat) (f : LswCh → LswCh) : State :=
  let s := ((((((runs.setLs 9 Fld.LSW_CH_STAT_STATE st).setF (Reg.LSW_CFG 9) Fld.LSW_CFG_CONTROLLER 1).setF (Reg.LSW_CFG 9) Fld.LSW_CFG_RETRY_MAX 2).setF
    (Reg.LSW_CFG 9) Fld.LSW_CFG_SHED_PRIO 3).setF (Reg.LSW_CFG 9) Fld.LSW_CFG_OL_TEST 1).wr (Reg.LSW_TIME 9) 0x05640A64).setLs 9 Fld.LSW_CH_STAT_CMD 1
  { s with keep := { s.keep with guardFault := false } }.setLsw 9 (f { LswCh.reset with bucket := 400000 })
/-- The same with the channel in the Fog map under FOGIN pad 2. -/
def fogs (st : Nat) (pad : Bool) : State :=
  (((lsws st id).setF (Reg.LSW_CFG 9) Fld.LSW_CFG_FOG 1).setF (Reg.LSW_CFG 9) Fld.LSW_CFG_FOG_SRC 2).setF Reg.LSW_FOGIN Fld.LSW_FOGIN_FOG_EN (flag pad)
/-- The module at rest in a life-cycle state with a key loaded and a transition to a state accepted or not. -/
def mems (lc : Nat) (target : Option Nat) : State :=
  let s := ((runs.setF Reg.MEM_STAT Fld.MEM_STAT_LC lc).setF Reg.IMG_KEY_STAT Fld.IMG_KEY_STAT_LOADED 1).wr Reg.PWR_RST 7
  { s with mem := { s.mem with lcTo := target } }
/-- The supply altered; the module runs unless the phase says otherwise. -/
def pows (f : PowerPart → PowerPart) : State := let s := runs; { s with sup := f s.sup, metr := { s.metr with on := true } }
/-- The module in a power state (0 RUN to 4 DARK), the sides off from NIGHT on. -/
def power (p : Nat) : State :=
  let s := (pows id).setF Reg.PWR_STAT Fld.PWR_STAT_STATE p
  if p < 3 then s else { s with keep := { s.keep with sides := [(0, SideRec.off), (1, SideRec.off)] } }
/-- The quad-SPI carrier selected (MODE 2, its link up), or PCIe (1); the data windows need DUMMY 32. -/
def links (mode : Nat) : State := (runs.setF Reg.HOST_CFG Fld.HOST_CFG_MODE mode).setF Reg.HOST_STAT Fld.HOST_STAT_LINK_UP 1
/-- Connection 5 open at the SERVICE role, subscribed to every class, nothing sent yet. -/
def conns : State :=
  let s := runs
  { s with host := { s.host with conns := [(5, ⟨.service, false, 0, 255, 0⟩)] } }
/-- A client certificate under the MGMT anchor with the OPERATOR role. -/
def certOk : ClientCert := ⟨.mgmt, some .operator, false, true, true⟩
/-- Firmware bank 0 runs; bank 1 in a STATE, its transfer open where it is being written. -/
def banks (st : Nat) : State :=
  let s := runs.setF Reg.HOST_FW_STAT Fld.HOST_FW_STAT_STATE_B st
  if st = 1 then { s with host := { s.host with fwXfer := some 1, fwWritten := [(1, 64)] } } else s

/-! ### Worked cases of the spec -/

/-- 05, worked cases below R205: 0.75 × 0.25 in Q0.31 extracts as 0x18000000. -/
theorem test_extract_three_quarters : extract (macTerm 0x60000000 0 0x20000000) 31 = 0x18000000 := by decide +kernel

/-- 05, worked cases below R205: 3 LSB × 0.5 rounds 1.5 up to 2. -/
theorem test_extract_rounds_half_up : extract (macTerm 0x40000000 0 3) 31 = 2 := by decide +kernel

/-- 05, worked cases below R205: 3 × 0.5 at q = 29 saturates with SAT. -/
theorem test_store_saturates : sat32 (extract (macTerm 0x60000000 0 0x40000000) 29) = (0x7FFFFFFF, true) := by decide +kernel

/-- 02, worked case below R55: TIME_NOW 3787084948000000000 with TAI−UTC 37 s is day 10958, 2030-01-01, 00:00:00. -/
theorem test_calendar_2030 :
    utcOf [(0, 37)] 3787084948000000000 = (10958 * 86400, false) ∧ civil 10958 = (2030, 1, 1) ∧ dayNumber 2030 1 1 = 10958 := by
  decide +kernel

/-- 02, leap table: day 2192 is 2006-01-01. -/
theorem test_calendar_leap_day : civil 2192 = (2006, 1, 1) ∧ dayNumber 2006 1 1 = 2192 := by decide +kernel

/-- 06, worked case below R261: a pulse of 600 ns on pair 9 is dropped under DROP; under HOLD_MIN each edge moves out by 75 ns. -/
theorem test_short_pulse_policies :
    plan false true (fun _ => 38400) 1024000 0 496640 527360 false 0 none = ⟨[], none, [true]⟩
    ∧ plan true true (fun _ => 38400) 1024000 0 496640 527360 false 0 none = ⟨[(492800, true), (531200, false)], none, [false]⟩ := by
  decide +kernel

/-- 23, worked case below R763: REASON WELD of outlet 2 stands in ARG as 0x002A0000. -/
theorem test_event_arg_weld : evArg 2 0xA 0 = 0x002A0000 := by decide +kernel

/-- 00, worked case below R3: SYS_CAP_0 of variant 2 reads 0x2B066860. -/
theorem test_capability_of_variant_2 : ({ State.reset with variant := 2 } : State).regValue .host Reg.SYS_CAP_0 = 0x2B066860 := by
  decide +kernel

/-- 22, worked case below R737: an OPERATOR client reads KEEP_STAT with TAG 0x17 while A is ACTIVE, B in STANDBY and the link is up. -/
theorem test_management_reads_keep_stat :
    (match exec (.mgmtRead 4 5 0x17 Reg.KEEP_STAT 1)
        { conns with host := { conns.host with conns := [(5, ⟨.operator, false, 0, 255, 0⟩)] } } with
      | .next t => t.host.replyBytes
      | _ => [])
    = [0x52, 0x4D, 0x01, 0x81, 0x17, 0, 0, 0, 4, 0, 0, 0, 0, 0, 0, 0, 0x04, 0, 0, 0x54] := by decide +kernel

/-- 18, worked case below R624: frames of 8 bytes and 1 byte take 135 and 65 bits, and the pump command's bound is 2,310 µs. -/
theorem test_can_bound :
    (CanMsg.bits ⟨0x600, false, 0, false, List.replicate 8 0⟩, CanMsg.bits ⟨0x120, false, 0, false, [0]⟩) = ((135, 0), (65, 0))
    ∧ canResponse 1770 [(10000, 0, 270), (20000, 0, 270)] 4 1770 = 2310 := by decide +kernel

/-- 24, R768 and R769: PWMB_47 is N190, CP_7 is S149 and E480 lies at the inner corner of its band. -/
theorem test_pad_map :
    padFunction .north 190 = some ("PWMB", 47) ∧ padFunction .south 149 = some ("CP", 7) ∧ padCentre .east 480 = (31750, -24765) := by
  decide +kernel

/-- 24, R769: the rows of each band follow one another and reach from pad 1 to pad 480. -/
theorem test_pad_rows :
    [Band.north, .east, .south, .west].all (fun b =>
      (padRows b).foldl (fun (k : Nat) r => if r.first = k then k + r.groups * r.names.length else 0) 1 == 481) = true := by decide +kernel

/-! ### What the statements assume can be met -/

theorem test_wit_step_takes_front : { State.reset with pending := [Instr.guardFault 3] }.pending = Instr.guardFault 3 :: [] := by
  decide +kernel

theorem test_wit_idle_step : State.reset.pending = [] := by decide +kernel

theorem test_wit_exec_leaves_queue : ∃ t, exec (.guardFault 3) State.reset = .next t := ⟨_, rfl⟩

theorem test_wit_steps_keep_capabilities : CapsRead 1 State.reset ∧ ∃ t, step State.reset = .next t :=
  ⟨⟨rfl, fun p => by cases p <;> decide +kernel⟩, ⟨_, rfl⟩⟩

theorem test_wit_steps_keep_bytes_canonical : Memory.wf (State.reset.setByte 9 7).bytes = true ∧ ∃ t, step (State.reset.setByte 9 7) = .next t :=
  ⟨by decide +kernel, ⟨_, rfl⟩⟩

theorem test_wit_access_rows_reach_registers :
    ((fun (s : State) (dt addr : Nat) (acc : Access) (val : Word) (r : RegSpec) (u : State) => u = (s.tick dt).showRest ∧ PlainTarget u acc addr r ∧ PlainPasses u acc addr r val ∧ atBoundary addr = false ∧ addr ≠ Reg.IMG_STAT) runs 5 Reg.TIME_PPS_CFG asService 0x1408 ((findReg Reg.TIME_PPS_CFG).getD ⟨"",0,[],0,[],[]⟩) ((runs.tick 5).showRest))
    ∧ ((fun (s : State) (dt addr : Nat) (acc : Access) (val : Word) (r : RegSpec) (u : State) => u = (s.tick dt).showRest ∧ PlainTarget u acc addr r ∧ PlainPasses u acc addr r val ∧ atBoundary addr = true) runs 5 Reg.ALOC_EXPORT asOperator 33 ((findReg Reg.ALOC_EXPORT).getD ⟨"",0,[],0,[],[]⟩) ((runs.tick 5).showRest))
    ∧ ((fun (s : State) (dt addr n : Nat) (acc : Access) (val : Word) (r : RegSpec) (u : State) => u = (s.tick dt).showRest ∧ PlainTarget u acc addr r ∧ u.openOf acc = some n ∧ r.fields.all (fun f => f.scope.admits acc.role && f.scope.admits (u.context n).role) = true ∧ r.fields.any (fun f => f.acc.stored) = true ∧ r.ranges.all (fun g => g.ok val) = true ∧ u.heldElsewhere (some n) addr = false ∧ ((u.context n).entries.all fun e => e.1 != addr) = true ∧ (u.context n).entries.length < 2048) (runs.setContext 2 { Ctx.reset with state := .opened, path := .mgmt, session := 1, role := .operator }) 5 Reg.ALOC_EXPORT 2 asOperator 33 ((findReg Reg.ALOC_EXPORT).getD ⟨"",0,[],0,[],[]⟩) (((runs.setContext 2 { Ctx.reset with state := .opened, path := .mgmt, session := 1, role := .operator }).tick 5).showRest))
    ∧ ((fun (s : State) (_dt addr hi : Nat) (acc : Access) => s.answers acc.path addr = true ∧ outOfMap addr = false ∧ s.absentHere acc.path addr = false ∧ windowOf addr = none ∧ (findReg addr).isSome = true ∧ highOf addr = some hi ∧ addr ≠ Reg.SYS_EVQ_ENT_0) runs 5 Reg.TIME_NOW_LO Reg.TIME_NOW_HI asReader) := by
  and_intros <;> decide +kernel

theorem test_wit_absent_unit_answers_zero : (fun (s : State) (_dt addr : Nat) (acc : Access) (_wr : Option Word) => s.answers acc.path addr = true ∧ outOfMap addr = false ∧ s.absentHere acc.path addr = true) ({ runs with variant := 3 }) 7 0x70000 asReader none := by
  decide +kernel

theorem test_wit_reserved_offset_is_quiet : (fun (s : State) (_dt addr : Nat) (acc : Access) (_wr : Option Word) => s.answers acc.path addr = true ∧ outOfMap addr = false ∧ s.absentHere acc.path addr = false ∧ windowOf addr = none ∧ findReg addr = none ∧ (ownWrite addr).isNone = true ∧ (canSendAt addr).isNone = true ∧ canStaging addr = false) runs 3 0x2FF0 asReader none := by
  decide +kernel

theorem test_wit_out_of_map_is_recorded :
    ((fun (s : State) (_dt addr : Nat) (acc : Access) (_wr : Option Word) => s.answers acc.path addr = true ∧ outOfMap addr = true) runs 1 0x180000 asReader none)
    ∧ ((fun (s : State) (_dt addr be : Nat) (_wr : Option Word) => s.answers .host addr = true ∧ outOfMap addr = false ∧ be ≠ 15) runs 1 0x20000 3 none) := by
  and_intros <;> decide +kernel

theorem test_wit_time_source_rows :
    ((fun (s : State) (_dt port : Nat) (_ann : Option (Nat × Nat)) => port < 2 ∧ s.ptpEnabled port = true) (runs.setF Reg.TIME_CTRL Fld.TIME_CTRL_PTP1_EN 1) 9 1 (some (80, 2)))
    ∧ ((fun (s : State) (_dt port : Nat) (_x : PtpExchange) => port < 2 ∧ s.ptpEnabled port = true) ({ (runs.setF Reg.TIME_CTRL Fld.TIME_CTRL_PTP1_EN 1) with tm := { runs.tm with ptp := [(1, ⟨true, 0, 4000000000, 1⟩)] } }) 9 1 ⟨.ethernet, false, true, 0, 1000, 1800, 2000, 2900, 0, 0⟩)
    ∧ ((fun (s : State) (dt port : Nat) => port < 2 ∧ (s.ptpPort port).valid = true ∧ 3 * (s.ptpPort port).announceIv ≤ (s.tick dt).since (s.ptpPort port).announceAt) ({ runs with tm := { runs.tm with ptp := [(1, ⟨true, 0, 4, 1⟩)] } }) 12 1)
    ∧ ((fun (s : State) (dt : Nat) (c : Count) => s.tm.ptpLost = some c ∧ Config.sec (5 * s.fld Reg.TIME_CTRL Fld.TIME_CTRL_PTP_TMO) ≤ (s.tick dt).since c) ({ (runs.setF Reg.TIME_CTRL Fld.TIME_CTRL_PTP_TMO 1) with tm := { runs.tm with ptpLost := some 5 } }) 20000000005 5)
    ∧ ((fun (s : State) (dt : Nat) (c : Count) => s.tm.ppsLast = some c ∧ Config.sec 1 + Config.usec 100 < (s.tick dt).since c) ({ runs with tm := { runs.tm with ppsLast := some 0, ppsRun := 5, ppsValid := true } }) 4000400001 0)
    ∧ ((fun (s : State) (_dt : Nat) (_off : Int) => s.fld Reg.TIME_CTRL Fld.TIME_CTRL_NTP_EN ≠ 0) (runs.setF Reg.TIME_CTRL Fld.TIME_CTRL_NTP_EN 1) 3 (-20))
    ∧ ((fun (s : State) (dt : Nat) => s.sup.phase = 4 ∧ Config.sec 1 ≤ (s.tick dt).sinceLife s.tm.rtcTrimAt) runs 4000000000) := by
  and_intros <;> decide +kernel

theorem test_wit_time_setting_rows :
    ((fun (s : State) (dt : Nat) (d : Int) => (s.tick dt).atCycleStart = true ∧ s.tm.step = some d ∧ s.tm.stepAt ≠ some s.tm.cycleStart) ({ runs with tm := { runs.tm with step := some 4000000 } }) 0 4000000)
    ∧ ((fun (s : State) (dt : Nat) (acc : Access) (val : Word) (r : RegSpec) => Admitted s acc Reg.TIME_SET_HI .svc ∧ s.fld Reg.TIME_STAT Fld.TIME_STAT_SRC ≤ 2 ∧ s.specOf Reg.TIME_SET_HI = some r ∧ PlainPasses (s.tick dt) acc Reg.TIME_SET_HI r val) ((runs.setF Reg.TIME_STAT Fld.TIME_STAT_VALID 0).wr Reg.TIME_SET_LO 7) 0 asService 2 ((findReg Reg.TIME_SET_HI).getD ⟨"",0,[],0,[],[]⟩))
    ∧ ((fun (s : State) (dt : Nat) => (s.tick dt).markNow ≠ s.tm.lineMark ∧ s.metr.on = false) ({ runs with metr := { runs.metr with on := false } }) 8000000)
    ∧ ((fun (s : State) (dt : Nat) => (s.tick dt).markNow ≠ s.tm.lineMark ∧ s.metr.on = true ∧ s.fld Reg.TIME_STAT Fld.TIME_STAT_VALID = 1) ({ runs with metr := { runs.metr with on := true } }) 8000000)
    ∧ ((fun (s : State) (dt : Nat) => s.metr.on = true ∧ s.metr.free = false ∧ s.timeLineGap ≤ (s.tick dt).sinceLife s.tm.timeLineAt) ({ runs with metr := { runs.metr with on := true, free := false } }) 40000000)
    ∧ ((fun (s : State) (dt : Nat) (acc : Access) (val : Word) (r : RegSpec) => Admitted s acc Reg.TIME_QUEUE_SEL .all ∧ s.specOf Reg.TIME_QUEUE_SEL = some r ∧ PlainPasses (s.tick dt) acc Reg.TIME_QUEUE_SEL r val) runs 1 asOperator 0x84 ((findReg Reg.TIME_QUEUE_SEL).getD ⟨"",0,[],0,[],[]⟩))
    ∧ ((fun (s : State) (_dt : Nat) (acc : Access) (val : Word) (x : Side) (n : Nat) => Admitted s acc Reg.TIME_QUEUE_CLR .op ∧ val.getLsbD 0 = true ∧ fget Fld.TIME_QUEUE_SEL_SIDE (s.prd acc.path Reg.TIME_QUEUE_SEL) = x.code ∧ fget Fld.TIME_QUEUE_SEL_QUEUE (s.prd acc.path Reg.TIME_QUEUE_SEL) = n) ((runs.pwr .mgmt Reg.TIME_QUEUE_SEL 0x406).setQueue .b 6 { Queue.reset with lost := 9, high := 7 }) 1 asOperator 1 .b 6) := by
  and_intros <;> decide +kernel

theorem test_wit_queue_and_event_rows :
    ((fun (s : State) (_dt ch : Nat) (_code : Int) => ch < 32 ∧ s.fld (Reg.FAST_CFG ch) Fld.FAST_CFG_USED ≠ 0) (runs.setF (Reg.FAST_CFG 7) Fld.FAST_CFG_USED 1) 4 7 (-40000))
    ∧ ((fun (s : State) (dt : Nat) (x : Side) (q : Nat) (c : Count) => q ≤ 132 ∧ (queueSpec q).1 = 0 ∧ q ≠ 126 ∧ (s.queue x q).stall = some c ∧ 4 * s.tc ≤ (s.tick dt).since c ∧ (s.queue x q).stalled = false) (runs.setQueue .a 128 { Queue.reset with stall := some 0 }) 400000 .a 128 0)
    ∧ ((fun (s : State) (dt : Nat) (x : Side) (c _i : Nat) (p : TagPool) => c < 3 ∧ p = (SMap.get (fun _ => TagPool.reset) s.tags x.code).settle (s.tick dt).period ∧ p.waits = []) runs 4 .a 1 9 TagPool.reset)
    ∧ ((fun (s : State) (_dt : Nat) (acc : Access) => s.answers acc.path Reg.SYS_EVQ_ENT_0 = true) ({ runs with ev := { runs.ev with queue := [(0, [⟨3, 9, 9, 0x801, 7, 0, 5, none⟩])] } }) 2 asReader)
    ∧ ((fun (s : State) (_dt : Nat) (acc : Access) (val : Word) => Admitted s acc Reg.SYS_EVQ_POP .all ∧ acc.path = .host ∧ s.fld Reg.HOST_CFG Fld.HOST_CFG_EVQ_OWNER = 0 ∧ fget Fld.SYS_EVQ_POP_POP val = 1 ∧ s.snapCurrent acc.path = true) ({ runs with ev := { runs.ev with queue := [(0, [⟨3, 9, 9, 0x801, 7, 0, 5, none⟩, ⟨4, 9, 9, 0x801, 7, 0, 6, none⟩])], snaps := [(0, ⟨some ⟨3, 9, 9, 0x801, 7, 0, 5, none⟩, 0⟩)] } }) 2 ⟨.host, .reader, 0⟩ 1)
    ∧ ((fun (s : State) (_dt : Nat) (acc : Access) (val : Word) => Admitted s acc Reg.FAST_CLR .op ∧ fget Fld.FAST_CLR_CLEAR val = 1) ((runs.wr (Reg.FAST_PEAK 3) 0x50001).bump (Reg.FAST_VAL 3) Fld.FAST_VAL_CLIPS 4) 20 asOperator 1)
    ∧ ((fun (s : State) (dt : Nat) (_inp : BoundaryIn) => (s.tick dt).boundaryDue = true) runs 80000 quiet)
    ∧ ((fun (s : State) (dt : Nat) (_inp : BoundaryIn) => (s.tick dt).boundaryDue = false) runs 79000 quiet) := by
  and_intros <;> decide +kernel

theorem test_wit_image_transfer_rows :
    ((fun (s : State) (_dt : Nat) (acc : Access) (n : Nat) => Admitted s acc Reg.IMG_XFER_CTRL .svc ∧ s.img.precheck = none ∧ s.transferSlot = n) runs 3 asService 0)
    ∧ ((fun (s : State) (_dt : Nat) (acc : Access) (n : Nat) => Admitted s acc Reg.IMG_XFER_CTRL .svc ∧ s.img.precheck = none ∧ s.img.xfer = some n) ({ runs with img := { runs.img with xfer := some 1 } }) 3 asService 1)
    ∧ ((fun (s : State) (_dt : Nat) (acc : Access) (n : Nat) => Admitted s acc Reg.IMG_XFER_CTRL .svc ∧ s.img.precheck = none ∧ s.img.xfer = some n ∧ n < 2) ({ runs with img := { runs.img with xfer := some 1 } }) 3 asService 1)
    ∧ ((fun (s : State) (_dt : Nat) (acc : Access) (addr : Nat) (_val : Word) (n : Nat) => addr < 0x8000 ∧ addr % 4 = 0 ∧ Admitted s acc (0x18000 + addr) .svc ∧ s.img.xfer = some n) ({ (runs.setF Reg.IMG_XFER_OFS Fld.IMG_XFER_OFS_PART 2) with img := { runs.img with xfer := some 1 } }) 3 asService 0x104 0x01020304 1)
    ∧ ((fun (s : State) (dt n : Nat) => s.img.precheck = some n ∧ (s.tick dt).deferring = false ∧ s.runningSides ≠ [] ∧ n < 2) ({ runs with img := { runs.img with precheck := some 1 } }) 3 1)
    ∧ ((fun (s : State) (dt : Nat) (acc : Access) (val : Word) => Admitted s acc Reg.IMG_KEY_STAT .svc ∧ (s.tick dt).inField = true ∧ fget Fld.IMG_KEY_STAT_REVOKE val ≠ 0 ∧ s.img.running = none ∧ ([0, 1, 2, 3].any fun k => (s.fld Reg.IMG_KEY_STAT Fld.IMG_KEY_STAT_LOADED).testBit k && !(s.fld Reg.IMG_KEY_STAT Fld.IMG_KEY_STAT_REVOKE ||| fget Fld.IMG_KEY_STAT_REVOKE val).testBit k) = true) ((runs.setF Reg.MEM_STAT Fld.MEM_STAT_LC 2).setF Reg.IMG_KEY_STAT Fld.IMG_KEY_STAT_LOADED 3) 3 asService (fset Fld.IMG_KEY_STAT_REVOKE 0 2))
    ∧ ((fun (s : State) (dt : Nat) (acc : Access) (val : Word) (r : RegSpec) => Admitted s acc Reg.IMG_MIN_VER .all ∧ s.specOf Reg.IMG_MIN_VER = some r ∧ PlainPasses (s.tick dt) acc Reg.IMG_MIN_VER r val) ((runs.wr Reg.IMG_RUN_VER 9).wr Reg.IMG_MIN_VER 3) 3 asService 9 ((findReg Reg.IMG_MIN_VER).getD ⟨"",0,[],0,[],[]⟩))
    ∧ ((fun (s : State) (_dt n : Nat) => s.img.running = some n) ({ runs with img := { runs.img with running := some 1, tuneDue := [⟨0x81000, 0xFF, 3, 0⟩] } }) 3 1) := by
  and_intros <;> decide +kernel

theorem test_wit_image_run_rows :
    ((fun (s : State) (_dt boot : Nat) => s.mode = 0 ∧ s.sup.phase = 4 ∧ s.keep.guardFault = false ∧ s.mayLoad = true ∧ s.img.tuneLost = false ∧ s.fld Reg.IMG_SLOT_CTRL Fld.IMG_SLOT_CTRL_BOOT = boot) ({ (runs.setF Reg.IMG_STAT Fld.IMG_STAT_MODE 0) with img := runs.img }) 3 0)
    ∧ ((fun (s : State) (dt : Nat) (acc : Access) (val : Word) (n : Nat) (r : RegSpec) => Admitted s acc Reg.IMG_SLOT_CTRL .all ∧ acc.role = .service ∧ s.specOf Reg.IMG_SLOT_CTRL = some r ∧ PlainPasses (s.tick dt).showRest acc Reg.IMG_SLOT_CTRL r val ∧ fget Fld.IMG_SLOT_CTRL_CONFIRM val = 0 ∧ fget Fld.IMG_SLOT_CTRL_ACTIVATE val = 1 ∧ fget Fld.IMG_SLOT_CTRL_TARGET val = n ∧ (s.tick dt).deferring = false ∧ s.mayActivate n = true) ((runs.setF (Reg.IMG_SLOT_STAT 1) Fld.IMG_SLOT_STAT_STATE 3).setF Reg.IMG_SLOT_CTRL Fld.IMG_SLOT_CTRL_TARGET 0) 3 asService (fset Fld.IMG_SLOT_CTRL_TARGET (fset Fld.IMG_SLOT_CTRL_WINDOW (fset Fld.IMG_SLOT_CTRL_ACTIVATE 0 1) 15) 1) 1 ((findReg Reg.IMG_SLOT_CTRL).getD ⟨"",0,[],0,[],[]⟩))
    ∧ ((fun (s : State) (dt : Nat) (acc : Access) (val : Word) (r : RegSpec) => Admitted s acc Reg.IMG_SLOT_CTRL .all ∧ acc.role = .service ∧ s.specOf Reg.IMG_SLOT_CTRL = some r ∧ PlainPasses (s.tick dt).showRest acc Reg.IMG_SLOT_CTRL r val ∧ fget Fld.IMG_SLOT_CTRL_CONFIRM val = 1 ∧ fget Fld.IMG_SLOT_CTRL_ACTIVATE val = 0 ∧ s.fld Reg.IMG_STAT Fld.IMG_STAT_BOOT_TRIAL = 1 ∧ s.img.act = none) ({ (((runs.setF Reg.IMG_STAT Fld.IMG_STAT_BOOT_TRIAL 1).setF Reg.IMG_STAT Fld.IMG_STAT_REVERT_DUE 1)) with img := { runs.img with running := some 1 } }) 3 asService (fset Fld.IMG_SLOT_CTRL_WINDOW (fset Fld.IMG_SLOT_CTRL_CONFIRM 0 1) 15) ((findReg Reg.IMG_SLOT_CTRL).getD ⟨"",0,[],0,[],[]⟩))
    ∧ ((fun (s : State) (_dt : Nat) (a : Activation) => s.keep.guardFault = false ∧ s.img.act = some a) ({ runs with img := { runs.img with act := some ⟨1, none⟩ } }) 3 ⟨1, none⟩)
    ∧ ((fun (s : State) (dt : Nat) => s.fld Reg.IMG_STAT Fld.IMG_STAT_BOOT_TRIAL = 1 ∧ s.fld Reg.IMG_STAT Fld.IMG_STAT_REVERT_DUE = 0 ∧ Config.sec (60 * s.fld Reg.IMG_SLOT_CTRL Fld.IMG_SLOT_CTRL_WINDOW) ≤ (s.tick dt).since s.img.trialStart) ({ (runs.setF Reg.IMG_STAT Fld.IMG_STAT_BOOT_TRIAL 1) with img := runs.img }) (Config.sec 3600))
    ∧ ((fun (s : State) (dt : Nat) => s.fld Reg.IMG_STAT Fld.IMG_STAT_REVERT_DUE = 1 ∧ s.img.act = none ∧ (s.tick dt).atCycleStart = true ∧ s.atRest = true ∧ s.contextsIdle = true) (runs.setF Reg.IMG_STAT Fld.IMG_STAT_REVERT_DUE 1) 0) := by
  and_intros <;> decide +kernel

theorem test_wit_transaction_command_rows :
    ((fun (s : State) (_dt : Nat) (acc : Access) (n : Nat) => n < 4 ∧ Admitted s acc (Reg.IMG_TXN_CTRL n) .all ∧ acc.role ≠ .reader ∧ (s.context n).state = .idle ∧ s.heldBy acc = none) runs 3 asOperator 2)
    ∧ ((fun (s : State) (_dt : Nat) (acc : Access) (n : Nat) => n < 4 ∧ Admitted s acc (Reg.IMG_TXN_CTRL n) .all ∧ (s.context n).state = .opened ∧ (s.context n).ownedBy acc = true) (runs.setContext 2 { Ctx.reset with state := .opened, path := .mgmt, session := 1, role := .operator, entries := [(0x81000, 5)] }) 3 asOperator 2)
    ∧ ((fun (s : State) (_dt : Nat) (acc : Access) (n : Nat) => n < 4 ∧ Admitted s acc (Reg.IMG_TXN_CTRL n) .all ∧ (s.context n).state = .opened ∧ (s.context n).ownedBy acc = true) (runs.setContext 2 { Ctx.reset with state := .opened, path := .mgmt, session := 1, role := .operator, entries := [(0x81000, 5)] }) 3 asOperator 2)
    ∧ ((fun (s : State) (_dt : Nat) (acc : Access) (n : Nat) => n < 4 ∧ Admitted s acc (Reg.IMG_TXN_CTRL n) .all ∧ (s.context n).state = .opened ∧ (s.context n).ownedBy acc = true) (runs.setContext 2 { Ctx.reset with state := .opened, path := .mgmt, session := 1, role := .operator, entries := [(0x81000, 5)] }) 3 asOperator 2)
    ∧ ((fun (s : State) (_dt : Nat) (acc : Access) (n : Nat) => n < 4 ∧ Admitted s acc (Reg.IMG_TXN_CTRL n) .all ∧ (s.context n).state = .trial ∧ (s.context n).ownedBy acc = true ∧ (s.context n).rollback = none) (runs.setContext 2 { Ctx.reset with state := .trial, path := .mgmt, session := 1, role := .operator, undo := [(0x81000, 5)] }) 3 asOperator 2)
    ∧ ((fun (s : State) (_dt : Nat) (acc : Access) (n : Nat) => n < 4 ∧ Admitted s acc (Reg.IMG_TXN_CTRL n) .all ∧ (s.context n).state = .trial ∧ (s.context n).ownedBy acc = true ∧ (s.context n).rollback = none) (runs.setContext 2 { Ctx.reset with state := .trial, path := .mgmt, session := 1, role := .operator, undo := [(0x81000, 5)] }) 3 asOperator 2)
    ∧ ((fun (s : State) (_dt : Nat) (acc : Access) (n : Nat) (val : Word) => n < 4 ∧ Admitted s acc (Reg.IMG_TXN_TRIAL n) .all ∧ (s.context n).state = .opened ∧ (s.context n).ownedBy acc = true ∧ 10 ≤ fget Fld.IMG_TXN_TRIAL_WINDOW_MS val) (runs.setContext 2 { Ctx.reset with state := .opened, path := .mgmt, session := 1, role := .operator, entries := [(0x81000, 5)] }) 3 asOperator 2 0x1F00000A) := by
  and_intros <;> decide +kernel

theorem test_wit_transaction_timer_rows :
    ((fun (s : State) (_dt n : Nat) => n < 4 ∧ (s.context n).state = .validating) (runs.setContext 2 { Ctx.reset with state := .validating, path := .mgmt, session := 1, role := .operator }) 3 2)
    ∧ ((fun (s : State) (dt n : Nat) => (s.tick dt).atCycleStart = true ∧ (s.tick dt).flipping = [n] ∧ (s.context n).isTrial = false ∧ ((s.context n).entries.any fun e => (s.tick dt).changesCode (s.context n).path .rws e) = false) (({ runs with tm := { runs.tm with cycleStart := 4000 } }).setContext 2 { Ctx.reset with state := .pend, path := .mgmt, session := 1, role := .operator, entries := [(Reg.TIME_PPS_CFG, 0x1404)] }) 4000 2)
    ∧ ((fun (s : State) (dt n : Nat) => n < 4 ∧ (s.tick dt).atCycleStart = true ∧ (s.context n).state = .trial ∧ (s.context n).confirm = true ∧ (s.context n).rollback = none) (({ runs with tm := { runs.tm with cycleStart := 2 } }).setContext 1 { Ctx.reset with state := .trial, confirm := true, undo := [(0x81000, 5)] }) 3 1)
    ∧ ((fun (s : State) (dt n : Nat) => n < 4 ∧ (s.context n).state = .opened ∧ Config.msec (100 * s.fld Reg.IMG_TXN_CFG Fld.IMG_TXN_CFG_IDLE_TMO) ≤ (s.tick dt).since (s.context n).since) (runs.setContext 1 { Ctx.reset with state := .opened, entries := [(0x81000, 5)] }) (Config.sec 1000) 1)
    ∧ ((fun (s : State) (dt n : Nat) => n < 4 ∧ (s.context n).state = .trial ∧ (s.context n).confirm = false ∧ (s.context n).rollback = none ∧ Config.msec (s.context n).window ≤ (s.tick dt).since (s.context n).since) (runs.setContext 1 { Ctx.reset with state := .trial, window := 10 }) (Config.msec 10) 1)
    ∧ ((fun (s : State) (dt n r : Nat) => n < 4 ∧ (s.tick dt).atCycleStart = true ∧ (s.context n).state = .trial ∧ (s.context n).rollback = some r) (runs.setContext 1 { Ctx.reset with state := .trial, rollback := some 9, undo := [(Reg.TIME_PPS_CFG, 0x1404)] }) 0 1 9) := by
  and_intros <;> decide +kernel

theorem test_wit_redundancy_fault_rows :
    ((fun (s : State) (dt : Nat) (b : BeaconIn) => s.guardActs = true ∧ (s.tick dt).deadlineDue = true ∧ (s.side .a).state = .active ∧ (s.side .b).state = .standby ∧ (s.beacon .a).isSome = true ∧ s.verdict .b (s.arrived .b b) = none) (beacons .standby) 4000 .sent)
    ∧ ((fun (s : State) (dt : Nat) (_b : BeaconIn) => s.guardActs = true ∧ (s.tick dt).deadlineDue = true ∧ (s.side .a).state = .active ∧ (s.side .b).state = .off ∧ (s.beacon .a).isSome = true) (beacons .off) 4000 .sent)
    ∧ ((fun (s : State) (_dt : Nat) (x : Side) (why : FaultWhy) (bit : Nat) => s.guardActs = true ∧ (s.side x).state = .standby ∧ why.bit = some bit) runs 2 .b .residue 1)
    ∧ ((fun (s : State) (_dt : Nat) (x : Side) (_code : Nat) => s.guardActs = true ∧ (s.side x).state = .standby) runs 2 .b 4)
    ∧ ((fun (s : State) (_dt : Nat) (back : Bool) (lane errors : Nat) => lane < 9 ∧ 16 < errors ∧ s.bit Reg.KEEP_LANES (lane + 9 * flag back) = true ∧ s.keep.laneDue.contains (lane + 9 * flag back) = false) runs 2 true 5 17)
    ∧ ((fun (s : State) (_dt : Nat) (e : BootEnd) => s.guardActs = true ∧ (s.side .a).state = .boot ∧ e.selfTest = true ∧ e.bank = some false ∧ s.bootPasses e = true ∧ s.mem.wipePend = []) ({ runs with img := { runs.img with running := some 0 }, keep := { runs.keep with sides := [] } }) 2 ⟨true, List.replicate 48 0, some false⟩)
    ∧ ((fun (s : State) (dt : Nat) (x : Side) => s.guardActs = true ∧ (s.side x).state = .bulk ∧ s.bulkDone = true ∧ (s.tick dt).since (s.side x).since < Config.msec 250) ({ runs with keep := { runs.keep with sides := [(0, { SideRec.reset with state := .active }), (1, { SideRec.reset with state := .bulk })], bulk := ⟨0x10000000, [], 0⟩ } }) 2 .b)
    ∧ ((fun (s : State) (dt : Nat) (x : Side) => s.guardActs = true ∧ (s.side x).state = .bulk ∧ Config.msec 250 ≤ (s.tick dt).since (s.side x).since) ({ runs with keep := { runs.keep with sides := [(0, { SideRec.reset with state := .active }), (1, { SideRec.reset with state := .bulk })] } }) (Config.msec 250) .b)
    ∧ ((fun (s : State) (_dt : Nat) (x : Side) => s.guardActs = true ∧ (s.side x).state = .shadow ∧ 256 ≤ (s.side x).clean) ({ runs with keep := { runs.keep with sides := [(0, { SideRec.reset with state := .active }), (1, { SideRec.reset with state := .shadow, clean := 256 })] } }) 2 .b)
    ∧ ((fun (s : State) (dt : Nat) (x : Side) => s.guardActs = true ∧ (s.side x).state = .failed ∧ (s.side x).noReadmit = false ∧ ((s.tick dt).lastDay (s.side x).readmits).length < s.fld Reg.KEEP_CFG Fld.KEEP_CFG_READMIT_MAX) ({ runs with keep := { runs.keep with sides := [(0, { SideRec.reset with state := .active }), (1, { SideRec.reset with state := .failed })] } }) 2 .b)
    ∧ ((fun (s : State) (dt : Nat) (x : Side) => s.guardActs = true ∧ (s.side x).state = .off ∧ Config.msec 1 ≤ (s.tick dt).since (s.side x).since) ({ runs with keep := { runs.keep with sides := [(0, { SideRec.reset with state := .active }), (1, SideRec.off)] } }) (Config.msec 1) .b) := by
  and_intros <;> decide +kernel

theorem test_wit_redundancy_command_rows :
    ((fun (s : State) (_dt : Nat) (acc : Access) (val : Word) => Admitted s acc Reg.KEEP_CTRL .svc ∧ fget Fld.KEEP_CTRL_SWITCH val = 1 ∧ fget Fld.KEEP_CTRL_RESYNC_A val = 0 ∧ fget Fld.KEEP_CTRL_RESYNC_B val = 0 ∧ fget Fld.KEEP_CTRL_TAKE_OUT val = 0 ∧ s.maySwitch = true) runs 2 asService (fset Fld.KEEP_CTRL_SWITCH 0 1))
    ∧ ((fun (s : State) (dt : Nat) (x : Side) (c : Count) => (s.tick dt).atCycleStart = true ∧ s.keep.switchReq = some c ∧ Config.usec 2 ≤ (s.tick dt).since c ∧ s.maySwitch = true ∧ (s.side x).state = .active ∧ (s.side x.other).state = .standby) ({ runs with tm := { runs.tm with cycleStart := 8000 }, keep := { runs.keep with switchReq := some 0 } }) 8000 .a 0)
    ∧ ((fun (s : State) (_dt : Nat) (acc : Access) (val : Word) => Admitted s acc Reg.KEEP_CTRL .svc ∧ fget Fld.KEEP_CTRL_TAKE_OUT val = 1 ∧ fget Fld.KEEP_CTRL_RESYNC_A val = 0 ∧ fget Fld.KEEP_CTRL_RESYNC_B val = 0 ∧ fget Fld.KEEP_CTRL_SWITCH val = 0 ∧ s.keep.guardFault = false ∧ (s.side .a).state = .active ∧ (s.side .b).state = .standby) runs 2 asService (fset Fld.KEEP_CTRL_TAKE_OUT 0 1))
    ∧ ((fun (s : State) (_dt : Nat) (acc : Access) (val : Word) => Admitted s acc Reg.KEEP_CTRL .svc ∧ fget Fld.KEEP_CTRL_RESYNC_A val = 1 ∧ fget Fld.KEEP_CTRL_TAKE_OUT val = 0 ∧ fget Fld.KEEP_CTRL_RESYNC_B val = 0 ∧ fget Fld.KEEP_CTRL_SWITCH val = 0 ∧ s.keep.guardFault = false ∧ (s.side .a).state = .failed) ({ runs with keep := { runs.keep with sides := [(0, { SideRec.reset with state := .failed }), (1, { SideRec.reset with state := .active })] } }) 2 asService (fset Fld.KEEP_CTRL_RESYNC_A 0 1))
    ∧ ((fun (s : State) (_dt : Nat) (acc : Access) (val : Word) => Admitted s acc Reg.KEEP_CTRL .svc ∧ fget Fld.KEEP_CTRL_RESYNC_B val = 1 ∧ fget Fld.KEEP_CTRL_TAKE_OUT val = 0 ∧ fget Fld.KEEP_CTRL_RESYNC_A val = 0 ∧ fget Fld.KEEP_CTRL_SWITCH val = 0 ∧ s.keep.guardFault = false ∧ (s.side .b).state = .failed) ({ runs with keep := { runs.keep with sides := [(0, { SideRec.reset with state := .active }), (1, { SideRec.reset with state := .failed, noReadmit := true })] } }) 2 asService (fset Fld.KEEP_CTRL_RESYNC_B 0 1))
    ∧ ((fun (s : State) (_dt : Nat) (acc : Access) (val : Word) => Admitted s acc Reg.KEEP_CLR .op ∧ val.getLsbD 0 = true) (runs.bump Reg.KEEP_MISS Fld.KEEP_MISS_COPY_MISSES 3) 20 asOperator 1) := by
  and_intros <;> decide +kernel

theorem test_wit_tile_arithmetic_rows :
    ((fun (s : State) (dt : Nat) (x : Side) (n : Nat) (_a _k : Nat) (_src : Opnd) (u : Tile) (p : State) => u = s.readyTile x n ∧ p = s.tick dt ∧ s.tileRuns x n = true) tiles 2 .a 3 1 4 (.data 5) (tiles.readyTile .a 3) (tiles.tick 2))
    ∧ ((fun (s : State) (dt : Nat) (x : Side) (n : Nat) (i : Instr) (a k d dst : Nat) (src : Opnd) => n < 64 ∧ i ∈ [.tileMac dt x n a k src true, .tileMsu dt x n a k src true, .tileMacz dt x n a k src true, .tileBiq dt x n k ⟨src, true⟩ d dst] ∧ s.tileRuns x n = true ∧ s.guardActs = true ∧ (s.side x).state = .standby) ({ tiles with keep := { tiles.keep with sides := [(0, { SideRec.reset with state := .standby }), (1, { SideRec.reset with state := .active })] } }) 4 .a 3 (.tileBiq 4 .a 3 4 ⟨.data 5, true⟩ 6 7) 1 4 6 7 (.data 5))
    ∧ ((fun (s : State) (dt : Nat) (x : Side) (n : Nat) (_a _k : Nat) (_src : Opnd) (u : Tile) (p : State) => u = s.readyTile x n ∧ p = s.tick dt ∧ s.tileRuns x n = true) tiles 2 .a 3 1 4 (.data 5) (tiles.readyTile .a 3) (tiles.tick 2))
    ∧ ((fun (s : State) (dt : Nat) (x : Side) (n : Nat) (_a _k : Nat) (_src : Opnd) (u : Tile) (p : State) => u = s.readyTile x n ∧ p = s.tick dt ∧ s.tileRuns x n = true) tiles 2 .a 3 1 4 (.data 5) (tiles.readyTile .a 3) (tiles.tick 2))
    ∧ ((fun (s : State) (dt : Nat) (x : Side) (n : Nat) (_a _q _dst : Nat) (_feeds : Bool) (u : Tile) (p : State) => u = s.readyTile x n ∧ p = s.tick dt ∧ s.tileRuns x n = true) tiles 2 .a 3 2 30 9 true (tiles.readyTile .a 3) (tiles.tick 2))
    ∧ ((fun (s : State) (dt : Nat) (x : Side) (n : Nat) (_a _b : Opnd) (_dst : Nat) (u : Tile) (p : State) => u = s.readyTile x n ∧ p = s.tick dt ∧ s.tileRuns x n = true) tiles 2 .a 3 (.data 5) (.data 6) 9 (tiles.readyTile .a 3) (tiles.tick 2))
    ∧ ((fun (s : State) (dt : Nat) (x : Side) (n : Nat) (_a _b : Opnd) (_dst : Nat) (u : Tile) (p : State) => u = s.readyTile x n ∧ p = s.tick dt ∧ s.tileRuns x n = true) tiles 2 .a 3 (.data 5) (.data 6) 9 (tiles.readyTile .a 3) (tiles.tick 2))
    ∧ ((fun (s : State) (dt : Nat) (x : Side) (n : Nat) (_a : Opnd) (_dst : Nat) (u : Tile) (p : State) => u = s.readyTile x n ∧ p = s.tick dt ∧ s.tileRuns x n = true) tiles 2 .a 3 (.data 5) 5 (tiles.readyTile .a 3) (tiles.tick 2))
    ∧ ((fun (s : State) (dt : Nat) (x : Side) (n : Nat) (_a : Opnd) (_dst : Nat) (u : Tile) (p : State) => u = s.readyTile x n ∧ p = s.tick dt ∧ s.tileRuns x n = true) tiles 2 .a 3 (.data 6) 9 (tiles.readyTile .a 3) (tiles.tick 2))
    ∧ ((fun (s : State) (dt : Nat) (x : Side) (n : Nat) (_a _b : Opnd) (_dst : Nat) (u : Tile) (p : State) => u = s.readyTile x n ∧ p = s.tick dt ∧ s.tileRuns x n = true) tiles 2 .a 3 (.data 5) (.data 6) 9 (tiles.readyTile .a 3) (tiles.tick 2))
    ∧ ((fun (s : State) (dt : Nat) (x : Side) (n : Nat) (_a _b : Opnd) (_dst : Nat) (u : Tile) (p : State) => u = s.readyTile x n ∧ p = s.tick dt ∧ s.tileRuns x n = true) tiles 2 .a 3 (.data 5) (.data 6) 9 (tiles.readyTile .a 3) (tiles.tick 2))
    ∧ ((fun (s : State) (dt : Nat) (x : Side) (n : Nat) (_a : Opnd) (sh : Int) (_dst : Nat) (u : Tile) (p : State) => u = s.readyTile x n ∧ p = s.tick dt ∧ s.tileRuns x n = true ∧ -31 ≤ sh ∧ sh ≤ 31) tiles 2 .a 3 (.data 5) 30 9 (tiles.readyTile .a 3) (tiles.tick 2)) := by
  and_intros <;> decide +kernel

theorem test_wit_tile_word_rows :
    ((fun (s : State) (dt : Nat) (x : Side) (n : Nat) (a lo hi : Opnd) (_dst : Nat) (_feeds : Bool) (v l h : Int) (u : Tile) (p : State) => u = s.readyTile x n ∧ p = s.tick dt ∧ s.tileRuns x n = true ∧ v = (p.opnd n u a).toInt ∧ l = (p.opnd n u lo).toInt ∧ h = (p.opnd n u hi).toInt) tiles 2 .a 3 (.data 5) (.data 6) (.data 6) 9 true 7 (-2) (-2) (tiles.readyTile .a 3) (tiles.tick 2))
    ∧ ((fun (s : State) (dt : Nat) (x : Side) (n : Nat) (_r : Rel) (_a _b : Opnd) (_c : Nat) (u : Tile) (p : State) => u = s.readyTile x n ∧ p = s.tick dt ∧ s.tileRuns x n = true) tiles 2 .a 3 .lt (.data 6) (.data 5) 2 (tiles.readyTile .a 3) (tiles.tick 2))
    ∧ ((fun (s : State) (dt : Nat) (x : Side) (n : Nat) (_c : Cond) (_a _b : Opnd) (_dst : Nat) (u : Tile) (p : State) => u = s.readyTile x n ∧ p = s.tick dt ∧ s.tileRuns x n = true) tiles 2 .a 3 .sat (.data 5) (.data 6) 9 (tiles.readyTile .a 3) (tiles.tick 2))
    ∧ ((fun (s : State) (dt : Nat) (x : Side) (n : Nat) (_a j _q lo hi : Nat) (_feeds : Bool) (u : Tile) (p : State) => u = s.readyTile x n ∧ p = s.tick dt ∧ s.tileRuns x n = true ∧ (s.loopParam n lo).toInt ≤ (s.loopParam n hi).toInt ∧ 1 ≤ s.parN (Par.integWord n (j % 16)) ∧ s.parN (Par.integWord n (j % 16)) < 4095) tilesInteg 2 .a 3 1 2 30 0 4 true (tilesInteg.readyTile .a 3) (tilesInteg.tick 2))
    ∧ ((fun (s : State) (dt : Nat) (x : Side) (n : Nat) (_k : Nat) (_src : Opnd) (d dst : Nat) (u : Tile) (p : State) => u = s.readyTile x n ∧ p = s.tick dt ∧ s.tileRuns x n = true ∧ d + 3 < 4096 ∧ dst < 4096 ∧ (dst < d ∨ d + 3 < dst)) tiles 2 .a 3 0 (.data 5) 20 9 (tiles.readyTile .a 3) (tiles.tick 2))
    ∧ ((fun (s : State) (dt : Nat) (x : Side) (n : Nat) (a : Opnd) (ds dc : Nat) (u : Tile) (p : State) => u = s.readyTile x n ∧ p = s.tick dt ∧ s.tileRuns x n = true ∧ ds % 4096 ≠ dc % 4096 ∧ |(sinCos (p.opnd n u a).toNat).1| ≤ 2 ^ 60 ∧ |(sinCos (p.opnd n u a).toNat).2| ≤ 2 ^ 60) tiles 2 .a 3 (.data 5) 20 21 (tiles.readyTile .a 3) (tiles.tick 2))
    ∧ ((fun (s : State) (dt : Nat) (x : Side) (n : Nat) (table : Nat) (a : Opnd) (_dst : Nat) (v : Int) (u : Tile) (p : State) => u = s.readyTile x n ∧ p = s.tick dt ∧ s.tileRuns x n = true ∧ lutValue ((List.range (min (s.parN (Par.lutLen table)) 1024)).map fun i => (s.par (Par.lutX table i), s.par (Par.lutY table i))) (p.opnd n u a).toInt = some (v, true)) tilesLut 2 .a 3 1 (.data 5) 9 70 (tilesLut.readyTile .a 3) (tilesLut.tick 2))
    ∧ ((fun (s : State) (dt : Nat) (x : Side) (n : Nat) (a b : Opnd) (f _dst : Nat) (q : Int) (u : Tile) (p : State) => u = s.readyTile x n ∧ p = s.tick dt ∧ s.tileRuns x n = true ∧ (p.opnd n u b).toInt ≠ 0 ∧ (p.opnd n u a).toInt * 2 ^ f = q * (p.opnd n u b).toInt) tiles 2 .a 3 (.data 5) (.data 6) 1 9 (-7) (tiles.readyTile .a 3) (tiles.tick 2))
    ∧ ((fun (s : State) (dt : Nat) (x : Side) (n : Nat) (_a b : Opnd) (_f _dst : Nat) (u : Tile) (p : State) => u = s.readyTile x n ∧ p = s.tick dt ∧ s.tileRuns x n = true ∧ (p.opnd n u b).toInt = 0) tiles 2 .a 3 (.data 5) (.data 8) 1 9 (tiles.readyTile .a 3) (tiles.tick 2))
    ∧ ((fun (s : State) (dt : Nat) (x : Side) (n : Nat) (a : Opnd) (_dst r : Nat) (u : Tile) (p : State) => u = s.readyTile x n ∧ p = s.tick dt ∧ s.tileRuns x n = true ∧ (p.opnd n u a).toInt = r * r ∧ isqrt (r * r) = r) tiles 2 .a 3 (.data 10) 9 5 (tiles.readyTile .a 3) (tiles.tick 2))
    ∧ ((fun (s : State) (dt : Nat) (x : Side) (n : Nat) (_dst : Nat) (u : Tile) (p : State) => u = s.readyTile x n ∧ p = s.tick dt ∧ s.tileRuns x n = true) tiles 2 .a 3 9 (tiles.readyTile .a 3) (tiles.tick 2)) := by
  and_intros <;> decide +kernel

theorem test_wit_tile_input_output_rows :
    ((fun (s : State) (dt : Nat) (x : Side) (n : Nat) (_k _dst : Nat) (u : Tile) (p : State) => u = s.readyTile x n ∧ p = s.tick dt ∧ s.tileRuns x n = true) tiles 2 .a 3 4 9 (tiles.readyTile .a 3) (tiles.tick 2))
    ∧ ((fun (s : State) (dt : Nat) (x : Side) (n : Nat) (src : TileSrc) (_dst q c : Nat) (e : QEntry) (u : Tile) (p : State) => u = s.readyTile x n ∧ p = s.tick dt ∧ s.tileRuns x n = true ∧ src.queue = some (q, c) ∧ s.nextEntry x q c n = some e ∧ e.more = [] ∧ s.fenced e = false) tilesIn 2 .a 3 (.fast 7) 9 71 7 ⟨12, 5, 5, 1, 0, 7, 0, [], 0, []⟩ (tilesIn.readyTile .a 3) (tilesIn.tick 2))
    ∧ ((fun (s : State) (dt : Nat) (x : Side) (n : Nat) (src : TileSrc) (_dst q c : Nat) (u : Tile) (p : State) => u = s.readyTile x n ∧ p = s.tick dt ∧ s.tileRuns x n = true ∧ src.queue = some (q, c) ∧ s.nextEntry x q c n = none ∧ Config.fclk * s.parN (Par.waitLimit c n) ≤ p.since s.tm.cycleStart) tiles 2 .a 3 (.fast 7) 9 71 7 (tiles.readyTile .a 3) (tiles.tick 2))
    ∧ ((fun (s : State) (dt : Nat) (x : Side) (n : Nat) (_w : Nat) (_src : Opnd) (u : Tile) (p : State) => u = s.readyTile x n ∧ p = s.tick dt ∧ s.tileRuns x n = true) tiles 2 .a 3 40 (.data 5) (tiles.readyTile .a 3) (tiles.tick 2))
    ∧ ((fun (s : State) (dt : Nat) (x : Side) (n : Nat) (_w _dst : Nat) (u : Tile) (p : State) => u = s.readyTile x n ∧ p = s.tick dt ∧ s.tileRuns x n = true) tiles 2 .a 3 40 9 (tiles.readyTile .a 3) (tiles.tick 2))
    ∧ ((fun (s : State) (dt : Nat) (x : Side) (n : Nat) (c : Nat) (_src : Opnd) (u : Tile) (p : State) => u = s.readyTile x n ∧ p = s.tick dt ∧ s.tileRuns x n = true ∧ (s.loop.chains.any fun e => e.1 == sideKey x c) = false) tiles 2 .a 3 40 (.data 5) (tiles.readyTile .a 3) (tiles.tick 2))
    ∧ ((fun (s : State) (dt : Nat) (x : Side) (n : Nat) (c _dst k : Nat) (v : Word) (u : Tile) (p : State) => u = s.readyTile x n ∧ p = s.tick dt ∧ s.tileRuns x n = true ∧ (s.loop.chains.find? fun e => e.1 == sideKey x c) = some (k, v)) tilesIn 2 .a 3 4 9 4 77 (tilesIn.readyTile .a 3) (tilesIn.tick 2))
    ∧ ((fun (s : State) (dt : Nat) (x : Side) (n : Nat) (_ch : Nat) (_src : Opnd) (_named : Option TileSrc) (u : Tile) (p : State) => u = s.readyTile x n ∧ p = s.tick dt ∧ s.tileRuns x n = true) tiles 2 .a 3 40 (.data 5) none (tiles.readyTile .a 3) (tiles.tick 2))
    ∧ ((fun (s : State) (dt : Nat) (x : Side) (n : Nat) (_slot : Nat) (_src : Opnd) (u : Tile) (p : State) => u = s.readyTile x n ∧ p = s.tick dt ∧ s.tileRuns x n = true) tiles 2 .a 3 40 (.data 5) (tiles.readyTile .a 3) (tiles.tick 2))
    ∧ ((fun (s : State) (dt : Nat) (x : Side) (n : Nat) (len count : Nat) (u : Tile) (p : State) => u = s.readyTile x n ∧ p = s.tick dt ∧ s.tileRuns x n = true ∧ 1 ≤ len ∧ 2 ≤ count) tiles 2 .a 3 3 4 (tiles.readyTile .a 3) (tiles.tick 2))
    ∧ ((fun (s : State) (dt : Nat) (x : Side) (n : Nat) (_c : Cond) (_target : Nat) (u : Tile) (p : State) => u = s.readyTile x n ∧ p = s.tick dt ∧ s.tileRuns x n = true) tiles 2 .a 3 .sat 77 (tiles.readyTile .a 3) (tiles.tick 2))
    ∧ ((fun (s : State) (_dt : Nat) (x : Side) (n : Nat) => s.tileRuns x n = true) tiles 2 .a 3)
    ∧ ((fun (s : State) (_dt : Nat) (acc : Access) (n : Nat) (_val : Word) => n < 64 ∧ Admitted s acc (Reg.LOOP_PRESET n) .op) tiles 2 asOperator 3 5)
    ∧ ((fun (s : State) (_dt : Nat) (acc : Access) (val : Word) => Admitted s acc Reg.LOOP_CLR .op ∧ val.getLsbD 0 = true) ((tiles.setF (Reg.LOOP_TCYC 3) Fld.LOOP_TCYC_MAX 99).wr (loopReg .b (Reg.LOOP_CNT 2)) 4) 20 asOperator 1) := by
  and_intros <;> decide +kernel

theorem test_wit_edge_engine_rows :
    ((fun (s : State) (dt : Nat) (x : Side) (n : Nat) => (s.tick dt).pairRuns x n = true ∧ (s.pair x n).next < (s.tick dt).nowUnits + 64 ∧ (s.pair x n).pend = [] ∧ (s.pair x n).held = false ∧ (s.pair x n).enter = 2 ∧ s.pairOrphan n = false ∧ s.edge.pairOff.contains n = false) edges 80000 .a 3)
    ∧ ((fun (s : State) (dt : Nat) (x : Side) (n : Nat) => (s.tick dt).pairRuns x n = true ∧ (s.pair x n).next < (s.tick dt).nowUnits + 64 ∧ (s.pair x n).pend = [] ∧ (s.pair x n).held = true) (edges.setPair .a 3 { edges.pair .a 3 with held := true, sawUpdate := true }) 80000 .a 3)
    ∧ ((fun (s : State) (dt : Nat) (x : Side) (n m : Nat) (e : QEntry) => (s.tick dt).pairRuns x n = true ∧ s.fld (Reg.EDGE_CFG n) Fld.EDGE_CFG_UPD = 0 ∧ (s.pair x n).zeroDone = false ∧ (s.tick dt).nowUnits + 48 * 64 ≤ (s.pair x n).next ∧ (s.pair x n).next < (s.tick dt).nowUnits + 64 + 48 * 64 ∧ (s.tick dt).newestPost x n = some (m, e) ∧ e.epoch = s.epoch (plTile m) ∧ (s.tick dt).since e.inst / Config.fclk ≤ s.fld (Reg.LOOP_STAMP_CFG m) Fld.LOOP_STAMP_CFG_LIMIT) edgePost 79760 .a 3 5 ⟨0x20000000, 79760, 79760, 0, 0, 3, 0, [], 0, []⟩)
    ∧ ((fun (s : State) (dt : Nat) (x : Side) (n : Nat) => (s.tick dt).pairRuns x n = true ∧ s.fld (Reg.EDGE_CFG n) Fld.EDGE_CFG_UPD = 0 ∧ (s.pair x n).zeroDone = false ∧ (s.tick dt).nowUnits + 48 * 64 ≤ (s.pair x n).next ∧ (s.pair x n).next < (s.tick dt).nowUnits + 64 + 48 * 64 ∧ (s.tick dt).newestPost x n = none) edges 79760 .a 3)
    ∧ ((fun (s : State) (_dt : Nat) (y : Side) (n meas : Nat) => s.pairUsed n = true ∧ s.runsControl y = true ∧ meas ≤ s.swnLimit n false) (edges.wr (Reg.EDGE_TRIM_CFG 3) 0xC4064200) 4 .b 3 90)
    ∧ ((fun (s : State) (_dt : Nat) (y : Side) (n meas : Nat) => s.pairUsed n = true ∧ s.runsControl y = true ∧ meas ≤ s.swnLimit n true) (edges.wr (Reg.EDGE_TRIM_CFG 3) 0xC4064200) 4 .b 3 90)
    ∧ ((fun (s : State) (_dt : Nat) (y : Side) (n : Nat) => s.pairUsed n = true ∧ s.runsControl y = true) (edges.setPair .b 3 { edges.pair .b 3 with riseMiss := 15 }) 4 .b 3)
    ∧ ((fun (s : State) (_dt n : Nat) (b : Bool) (taps : Nat) => s.pairUsed n = true ∧ 80 ≤ taps ∧ taps ≤ 160 ∧ (s.pad (2 * n + flag b)).line ≤ 1) edges 4 3 true 120)
    ∧ ((fun (s : State) (_dt n : Nat) (b : Bool) (taps : Nat) (mono : Bool) => s.pairUsed n = true ∧ ¬(80 ≤ taps ∧ taps ≤ 160 ∧ mono = true) ∧ (s.pad (2 * n + flag b)).fails = 1 ∧ (s.pad (2 * n + flag b)).fallback = false) (edges.setPad 6 { Pad.reset with fails := 1 }) 4 3 false 79 true)
    ∧ ((fun (s : State) (dt n : Nat) (b : Bool) => s.pairUsed n = true ∧ (s.pad (2 * n + flag b)).fresh = true ∧ (s.tick dt).padQuiet n b = true) (edges.setPad 6 { Pad.reset with fresh := true, taps := [(1, 120)] }) 40000 3 false)
    ∧ ((fun (s : State) (_dt n : Nat) (b : Bool) (differs : Nat) => s.pairUsed n = true ∧ Config.nsec 100 ≤ differs ∧ (s.pad (2 * n + flag b)).shorted = false) trips 4 3 true 400)
    ∧ ((fun (s : State) (_dt : Nat) (acc : Access) (val : Word) => Admitted s acc Reg.EDGE_CLR .op ∧ val.getLsbD 0 = true) (edges.setF (Reg.EDGE_PCNT 3) Fld.EDGE_PCNT_DROPPED 7) 20 asOperator 1) := by
  and_intros <;> decide +kernel

theorem test_wit_quickset_rows :
    ((fun (s : State) (_dt k : Nat) (level : Bool) (held : Nat) => k < 16 ∧ level = (s.fld (Reg.QSET_MAP k) Fld.QSET_MAP_POL == 1) ∧ Config.nsec 10 ≤ held ∧ s.srcEnabled k = true ∧ s.anyLatch = false) trips 4 2 true 40)
    ∧ ((fun (s : State) (_dt k : Nat) (level : Bool) (_held : Nat) => k < 16 ∧ level = (s.fld (Reg.QSET_MAP k) Fld.QSET_MAP_POL == 0)) (trips.wr (Reg.QSET_ACTIVE 0) 4) 4 2 false 40)
    ∧ ((fun (s : State) (_dt ch : Nat) (code : Int) => ch < 32 ∧ s.fld (Reg.FAST_CFG ch) Fld.FAST_CFG_USED ≠ 0 ∧ s.fldS (Reg.FAST_WIN ch) Fld.FAST_WIN_HI < code ∧ s.srcEnabled (16 + ch) = true ∧ s.latched (16 + ch) = false) ((trips.wr (Reg.FAST_CFG 3) 0x80000001).setF (Reg.FAST_CFG 3) Fld.FAST_CFG_USED 1) 4 3 32767)
    ∧ ((fun (s : State) (_dt n onFor : Nat) => s.pairUsed n = true ∧ s.parN (Par.blank n) < onFor ∧ s.srcEnabled (48 + n) = true ∧ s.latched (48 + n) = false) trips 4 3 9)
    ∧ ((fun (s : State) (_dt : Nat) (acc : Access) (val : Word) (g : Nat) => Admitted s acc Reg.QSET_FORCE .op ∧ g < 8 ∧ val.getLsbD g = true ∧ s.srcEnabled (108 + g) = true ∧ s.latched (108 + g) = false) trips 4 asOperator 0x12 4)
    ∧ ((fun (s : State) (dt : Nat) (acc : Access) (k j : Nat) => k < 4 ∧ j < 32 ∧ 32 * k + j < 117 ∧ Admitted s acc (Reg.QSET_CLR k) .op ∧ s.latched (32 * k + j) = true ∧ (s.tick dt).qsetIdle (32 * k + j) = true) tripped 80000 asOperator 0 2)
    ∧ ((fun (s : State) (dt : Nat) (acc : Access) (k j : Nat) => k < 4 ∧ j < 32 ∧ 32 * k + j < 117 ∧ Admitted s acc (Reg.QSET_CLR k) .op ∧ s.latched (32 * k + j) = true ∧ (s.tick dt).qsetIdle (32 * k + j) = false) (tripped.wr (Reg.QSET_ACTIVE 0) 4) 80000 asOperator 0 2)
    ∧ ((fun (s : State) (dt : Nat) => s.keep.guardFault = false ∧ s.fld Reg.QSET_STAT Fld.QSET_STAT_GROUPS ≠ 0 ∧ Config.usec 1 ≤ (s.tick dt).since s.qset.setAt) tripped 4000)
    ∧ ((fun (s : State) (dt g left : Nat) (at' : Count) => s.keep.guardFault = false ∧ s.qset.clears = [(g, left + 1, at')] ∧ Config.usec 1 ≤ (s.tick dt).since at') ({ runs with qset := { runs.qset with clears := [(3, 2, 0)] } }) 4000 3 1 0) := by
  and_intros <;> decide +kernel

theorem test_wit_ring_link_rows :
    ((fun (s : State) (_dt p _e : Nat) (_d : Bool) (headers : Nat) => p < 12 ∧ 64 ≤ headers ∧ s.fld (Reg.RING_PORT_STAT p) Fld.RING_PORT_STAT_STATE ≠ 1) (runs.wr (Reg.RING_PORT_STAT 4) 0x50000000) 20 4 0 false 64)
    ∧ ((fun (s : State) (_dt p _e : Nat) (_d : Bool) (headers : Nat) => p < 12 ∧ 64 ≤ headers ∧ s.mode = 2 ∧ s.portUsed p = true ∧ s.fld (Reg.RING_PORT_STAT p) Fld.RING_PORT_STAT_STATE = 1) ((rings.setF (Reg.RING_PORT_STAT 0) Fld.RING_PORT_STAT_STATE 1).setF (Reg.RING_PORT_STAT 0) Fld.RING_PORT_STAT_LOCK 0) 20 0 0 false 64)
    ∧ ((fun (_s : State) (_dt _e : Nat) (_d : Bool) (headers : Nat) => 64 ≤ headers) runs 20 7 true 64)
    ∧ ((fun (s : State) (_dt p _e : Nat) (_d : Bool) (invalid quiet : Nat) => p < 12 ∧ (16 ≤ invalid ∨ Config.usec 1 ≤ quiet) ∧ s.fld (Reg.RING_PORT_STAT p) Fld.RING_PORT_STAT_LOCK = 1 ∧ (s.portUsed p && decide (1 < s.fld (Reg.RING_PORT_STAT p) Fld.RING_PORT_STAT_STATE)) = false) (runs.setF (Reg.RING_PORT_STAT 4) Fld.RING_PORT_STAT_LOCK 1) 20 4 0 false 16 0)
    ∧ ((fun (s : State) (_dt p _e : Nat) (_d : Bool) (invalid quiet : Nat) => p < 12 ∧ (16 ≤ invalid ∨ Config.usec 1 ≤ quiet) ∧ s.fld (Reg.RING_PORT_STAT p) Fld.RING_PORT_STAT_LOCK = 1 ∧ s.portUsed p = true ∧ s.portPaired p = false ∧ 1 < s.fld (Reg.RING_PORT_STAT p) Fld.RING_PORT_STAT_STATE ∧ s.fld (Reg.RING_PORT_STAT p) Fld.RING_PORT_STAT_BROKEN = 0) rings 20 0 0 false 16 0)
    ∧ ((fun (s : State) (_dt e invalid quiet : Nat) => (16 ≤ invalid ∨ Config.usec 1 ≤ quiet) ∧ (s.ep e).lockU = true ∧ 0 < e % 32 ∧ s.portUsed (ringOf e) = true ∧ s.portPaired (ringOf e) = false ∧ s.fld (Reg.RING_PORT_STAT (ringOf e)) Fld.RING_PORT_STAT_BROKEN = 0) rings 20 1 20 0)
    ∧ ((fun (s : State) (_dt e : Nat) => ((s.ep e).lockU && (s.ep e).lockD) = false ∧ modeOf (s.ep e) (s.epLast e) ≠ (s.ep e).mode) (withEp 0 fun v => { v with lockD := false }) 4 0)
    ∧ ((fun (s : State) (dt e : Nat) => (s.ep e).lockU = true ∧ (s.ep e).lockD = true ∧ Config.msec 10 ≤ (s.tick dt).since (s.ep e).upAt ∧ Config.msec 10 ≤ (s.tick dt).since (s.ep e).downAt ∧ s.fld (Reg.RING_PORT_STAT (ringOf e)) Fld.RING_PORT_STAT_BROKEN = 0 ∧ modeOf (s.ep e) (s.epLast e) ≠ (s.ep e).mode) (withEp 0 fun v => { v with mode := 1 }) (Config.msec 10) 0)
    ∧ ((fun (s : State) (dt e : Nat) => (s.ep e).state = 5 ∧ 2 * s.tc ≤ (s.tick dt).since (s.ep e).lastSched) rings 160000 1)
    ∧ ((fun (s : State) (dt e : Nat) (at' : Count) => (s.ep e).noLockAt = some at' ∧ 2 ≤ (s.ep e).state ∧ (s.ep e).locked = false ∧ 2 * s.tc ≤ (s.tick dt).since at') (withEp 1 fun v => { v with lockU := false, noLockAt := some 0 }) 160000 1 0) := by
  and_intros <;> decide +kernel

theorem test_wit_endpoint_frame_rows :
    ((fun (s : State) (_dt e : Nat) (viaD : Bool) (f : List Byte) => FrameReaches s e viaD 1 f ∧ frEpoch f = (s.ep e).epoch ∧ 3 < (s.ep e).state ∧ frPay f 0 1 = 1) (withEp 1 fun v => { v with state := 6, resumed := true }) 4 1 false (frameTo 1 1 oneEntry))
    ∧ ((fun (s : State) (_dt e : Nat) (viaD : Bool) (f : List Byte) => FrameReaches s e viaD 1 f ∧ epochNewer (s.ep e).epoch (frEpoch f) = true) (withEp 1 fun v => { v with epoch := 3 }) 4 1 false (frameTo 1 1 oneEntry))
    ∧ ((fun (s : State) (dt e leg : Nat) (n : RingEntry) (r : List RingEntry) (k : Nat) => leg < 8 ∧ ((s.ep e).leg leg).pend = n :: r ∧ (s.ep e).state = 5 ∧ ((s.ep e).leg leg).held = false ∧ 0 ≤ rtDiff ((s.tick dt).rtOf (s.ep e)) n.applyAt ∧ k ≠ leg) (withEp 1 fun v => v.setLeg 2 { Leg.reset with pend := [⟨1, 10, 1000, 100, 600, 5000, 20, 30, 6, 0, 0⟩, ⟨1, 10, 1000, 100, 600, 6000, 20, 30, 7, 0, 0⟩] }) 80000 1 2 ⟨1, 10, 1000, 100, 600, 5000, 20, 30, 6, 0, 0⟩ [⟨1, 10, 1000, 100, 600, 6000, 20, 30, 7, 0, 0⟩] 3)
    ∧ ((fun (s : State) (_dt e : Nat) (viaD : Bool) (f : List Byte) (d : Nat) => FrameReaches s e viaD 2 f ∧ viaD = (s.ep e).timesHi (frCycle f) ∧ (if viaD then (s.ep e).dlyHi else (s.ep e).dlyLo) = some d ∧ (s.ep e).rtSet = false) rings 4 0 false (frameTo 2 0xFF (leBytes 6 5000 ++ leBytes 10 0)) 500)
    ∧ ((fun (s : State) (dt e : Nat) (viaD : Bool) (f : List Byte) (d : Nat) => FrameReaches s e viaD 2 f ∧ viaD = (s.ep e).timesHi (frCycle f) ∧ (if viaD then (s.ep e).dlyHi else (s.ep e).dlyLo) = some d ∧ (s.ep e).rtSet = true ∧ 8 < (rtDiff ((frPay f 0 6 + d) % rtSpan) ((s.tick dt).rtOf (s.ep e))).natAbs) (withEp 0 fun v => { v with rtSet := true }) 4 0 false (frameTo 2 0xFF (leBytes 6 5000 ++ leBytes 10 0)) 500)
    ∧ ((fun (s : State) (_dt e : Nat) (viaD : Bool) (f : List Byte) (_stamp _turned : Nat) => frameOk f = true ∧ frType f = 3 ∧ frReturn f = false ∧ laneOk f viaD = true ∧ (s.ep e).mode = 0) rings 4 0 false (frameTo 3 0xFF (leBytes 2 77 ++ leBytes 6 0)) 1234 0)
    ∧ ((fun (s : State) (_dt e : Nat) (_viaD : Bool) (f : List Byte) (_stamp _turned k a : Nat) => frameOk f = true ∧ frType f = 3 ∧ frReturn f = true ∧ (s.ep e).outAt.find? (fun o => o.1 == frPay f 0 2) = some (k, a)) (withEp 0 fun v => { v with outAt := [(77, 1000)] }) 4 0 true (mkFrame 3 0xFF 0 1 9 6 0 (leBytes 2 77 ++ leBytes 6 0)) 1234 0 77 1000)
    ∧ ((fun (s : State) (_dt e : Nat) (viaD : Bool) (f : List Byte) => FrameReaches s e viaD 4 f ∧ frHi f = false) rings 4 1 false (frameTo 4 1 (leBytes 4 900 ++ leBytes 4 0)))
    ∧ ((fun (s : State) (_dt e : Nat) (viaD : Bool) (f : List Byte) => FrameReaches s e viaD 5 f ∧ (s.ep e).state = 1 ∧ (s.ep e).addr = none ∧ (s.ep e).mode = 0) (withEp 0 fun v => { v with state := 1, addr := none }) 4 0 false (frameTo 5 0xFF (leBytes 8 6)))
    ∧ ((fun (s : State) (_dt e : Nat) (viaD : Bool) (f : List Byte) => FrameReaches s e viaD 6 f ∧ frAddr f ≠ 0xFF ∧ (s.ep e).state = 2) (withEp 0 fun v => { v with state := 2 }) 4 0 false (frameTo 6 0 ([2, 0, 3] ++ leBytes 13 0)))
    ∧ ((fun (s : State) (_dt e : Nat) (viaD : Bool) (f : List Byte) => FrameReaches s e viaD 7 f) (withEp 1 fun v => { v with state := 6 }) 4 1 false (frameTo 7 1 (leBytes 2 3 ++ leBytes 6 0)))
    ∧ ((fun (s : State) (_dt e : Nat) (viaD : Bool) (f : List Byte) => FrameReaches s e viaD 8 f) rings 4 1 false (frameTo 8 1 []))
    ∧ ((fun (s : State) (_dt e : Nat) (viaD : Bool) (f : List Byte) => FrameReaches s e viaD 9 f ∧ (s.ep e).takeover ≠ some (frCycle f)) rings 4 1 false (frameTo 9 0xFF (leBytes 4 5 ++ leBytes 1 2 ++ leBytes 1 1 ++ leBytes 2 0))) := by
  and_intros <;> decide +kernel

theorem test_wit_ring_port_rows :
    ((fun (s : State) (dt p _lg : Nat) => s.portUsed p = true ∧ Config.msec (s.fld Reg.RING_CFG Fld.RING_CFG_DELAY_INT) ≤ (s.tick dt).since s.ring.delayAt) ({ rings with ring := { rings.ring with loops := [(0, [100, 200])] } }) (Config.msec 2000) 0 400)
    ∧ ((fun (s : State) (_dt p : Nat) (f : List Byte) (lg : Nat) => p < 12 ∧ frameOk f = true ∧ frType f = 0x42 ∧ s.portPaired p = false ∧ SMap.get (fun _ => 0) s.ring.rptSeen (2 * s.epIndex p (frAddr f)) ≠ frPay f 0 2 + 1 ∧ (SMap.get (fun _ => []) s.ring.loops p).getLast? = some lg) ({ rings with ring := { rings.ring with loops := [(0, [100, 2000])], delays := [(2, [50])] } }) 4 0 (frameTo 0x42 1 (leBytes 2 7 ++ leBytes 2 0 ++ leBytes 4 300)) 2000)
    ∧ ((fun (s : State) (_dt p : Nat) (f : List Byte) => p < 12 ∧ frameOk f = true ∧ frType f = 0x43 ∧ s.par (Par.epUsed (s.epIndex p (frAddr f))) = 1 ∧ frPay f 0 1 = s.parN (Par.epClass (s.epIndex p (frAddr f))) ∧ frPay f 1 1 = s.parN (Par.epLegs (s.epIndex p (frAddr f))) ∧ frPay f 2 1 = s.parN (Par.epWords (s.epIndex p (frAddr f))) ∧ s.fld (Reg.RING_PORT_STAT p) Fld.RING_PORT_STAT_STATE ≠ 6 ∧ (SMap.get (fun _ => []) s.ring.found p) = [] ∧ 2 ≤ s.fld (Reg.RING_PORT_STAT p) Fld.RING_PORT_STAT_EP_IMAGE) (rings.wr (Reg.RING_PORT_STAT 0) 0x26FF0003) 4 0 (frameTo 0x43 1 (leBytes 24 0)))
    ∧ ((fun (s : State) (_dt p : Nat) (f : List Byte) => p < 12 ∧ frameOk f = true ∧ frType f = 0x43 ∧ frPay f 0 1 ≠ s.parN (Par.epClass (s.epIndex p (frAddr f)))) rings 4 0 (frameTo 0x43 1 (leBytes 24 9)))
    ∧ ((fun (s : State) (dt p : Nat) (f : List Byte) (y : Side) => p < 12 ∧ frameOk f = true ∧ frType f = 0x41 ∧ fnum f 2 2 = 20 ∧ (SMap.get (fun _ => []) s.ring.meas (s.epIndex p (frAddr f))).contains (frCycle f * 256 + fnum f 7 1) = false ∧ 1 ≤ (s.queue y (96 + p)).credits 8 (s.tick dt).tm.mono.toNat) rings 4 0 (frameTo 0x41 1 (leBytes 6 5000 ++ leBytes 10 5 ++ leBytes 4 77)) .b)
    ∧ ((fun (s : State) (dt p : Nat) => s.mode = 2 ∧ Config.msec 100 ≤ (s.tick dt).since s.ring.enumAt ∧ s.keep.guardFault = false ∧ p < 12 ∧ s.fld (Reg.RING_PORT_STAT p) Fld.RING_PORT_STAT_STATE = 5) rings (Config.msec 100) 0)
    ∧ ((fun (s : State) (_dt p : Nat) => s.mode = 2 ∧ s.portUsed p = true ∧ p < 12 ∧ s.fld (Reg.RING_PORT_STAT p) Fld.RING_PORT_STAT_STATE < 2) (rings.setF (Reg.RING_PORT_STAT 0) Fld.RING_PORT_STAT_STATE 1) 4 0)
    ∧ ((fun (s : State) (dt : Nat) (x : Side) (ch : Nat) => s.legUsed ch = true ∧ (s.tick dt).runsControl x = true ∧ s.keep.orphan = false ∧ s.keep.guardFault = false ∧ (s.pair x ch).run = true ∧ (s.pair x ch).ph = s.chanPh ch ∧ (s.pair x ch).pend = [] ∧ (s.tick dt).newestPost x ch = none ∧ fget Fld.EDGE_CFG_UPD (s.chanCfg ch) = 0 ∧ (s.tick dt).nowUnits + s.fld (Reg.RING_PORT_LEAD (ringOf ((ch - 64) / 8))) Fld.RING_PORT_LEAD_LEAD * 64 ≤ (s.pair x ch).next ∧ (s.pair x ch).next < (s.tick dt).nowUnits + 64 + s.fld (Reg.RING_PORT_LEAD (ringOf ((ch - 64) / 8))) Fld.RING_PORT_LEAD_LEAD * 64 ∧ x = s.serving ∧ s.hasActive = true ∧ s.ringOk (ringOf ((ch - 64) / 8)) = true ∧ SMap.get (fun _ => 0) s.ring.sentEpoch ((ch - 64) / 8) = s.epoch (s.epPlace ((ch - 64) / 8)) ∧ (s.port (ringOf ((ch - 64) / 8))).queue = []) (rings.setPair .a 72 { Pair.reset with run := true, next := 64000, per := 640000, word := 0x40000000 }) 5000 .a 72) := by
  and_intros <;> decide +kernel

theorem test_wit_ring_trip_and_command_rows :
    ((fun (_s : State) (_dt _e : Nat) (b : List Byte) => tripOk b = true ∧ fnum b 2 1 = 1) rings 4 1 (tripBlock 1 1 5 255))
    ∧ ((fun (_s : State) (_dt _e : Nat) (b : List Byte) => tripOk b = true ∧ fnum b 2 1 = 2 ∧ fnum b 3 1 = 0xFF) ((withEp 1 fun v => { v with latched := 3 })) 4 1 (tripBlock 1 2 255 255))
    ∧ ((fun (s : State) (_dt p : Nat) (b : List Byte) => p < 12 ∧ tripOk b = true ∧ fnum b 2 1 = 1 ∧ fnum b 3 1 ≠ 0xFF ∧ s.srcEnabled (96 + p) = true ∧ s.latched (96 + p) = false) (trips.wr (Reg.QSET_MAP 100) 0x80000001) 4 4 (tripBlock 6 1 3 255))
    ∧ ((fun (s : State) (_dt : Nat) (acc : Access) (val : Word) (e : Nat) => Admitted s acc Reg.RING_CMD .svc ∧ fget Fld.RING_CMD_CMD val = 1 ∧ s.portUsed (fget Fld.RING_CMD_TARGET val) = true ∧ e ∈ s.ringEps (fget Fld.RING_CMD_TARGET val) ∧ s.fld (Reg.RING_EP_STAT e) Fld.RING_EP_STAT_STATE = 5) (rings.setF (Reg.RING_EP_STAT 1) Fld.RING_EP_STAT_STATE 5) 4 asService 0x10000 1)
    ∧ ((fun (s : State) (_dt : Nat) (acc : Access) (val : Word) => Admitted s acc Reg.RING_CMD .svc ∧ fget Fld.RING_CMD_CMD val = 1 ∧ s.portUsed (fget Fld.RING_CMD_TARGET val) = true ∧ s.portPaired (fget Fld.RING_CMD_TARGET val) = false ∧ (∀ e ∈ s.ringEps (fget Fld.RING_CMD_TARGET val), s.fld (Reg.RING_EP_STAT e) Fld.RING_EP_STAT_STATE ≠ 5)) rings 4 asService 0x10000)
    ∧ ((fun (s : State) (_dt : Nat) (acc : Access) (val : Word) => Admitted s acc Reg.RING_CMD .svc ∧ fget Fld.RING_CMD_CMD val = 2 ∧ s.portUsed (fget Fld.RING_CMD_TARGET val) = true) rings 4 asService 0x20000)
    ∧ ((fun (s : State) (_dt : Nat) (acc : Access) (val : Word) => Admitted s acc Reg.RING_CMD .svc ∧ fget Fld.RING_CMD_CMD val = 3 ∧ s.par (Par.epUsed (fget Fld.RING_CMD_TARGET val)) = 1 ∧ s.keep.guardFault = false) rings 4 asService 0x30001)
    ∧ ((fun (s : State) (_dt : Nat) (acc : Access) (val : Word) => Admitted s acc Reg.RING_CMD .svc ∧ fget Fld.RING_CMD_CMD val = 4 ∧ s.keep.guardFault = false ∧ s.portPaired (fget Fld.RING_CMD_TARGET val) = false ∧ fget Fld.RING_CMD_TARGET val < 12) rings 4 asService 0x40000)
    ∧ ((fun (s : State) (_dt : Nat) (acc : Access) (val : Word) => Admitted s acc Reg.RING_CLR .op ∧ val.getLsbD 0 = true) ((rings.wr (Reg.RING_PORT_CNT 0) 0x505).wr (Reg.RING_EP_CNT 1) 7) 20 asOperator 1) := by
  and_intros <;> decide +kernel

theorem test_wit_transformer_ladder_rows :
    ((fun (s : State) (_dt : Nat) (acc : Access) (val : Word) => Admitted s acc Reg.SST_RUN_CTRL .op ∧ fget Fld.SST_RUN_CTRL_ENERGISE val = 1 ∧ fget Fld.SST_RUN_CTRL_DEENERGISE val = 0 ∧ fget Fld.SST_RUN_CTRL_ACK_LOCKOUT val = 0 ∧ s.mayEnergise = true ∧ SstClear s ∧ (s.cells.any fun c => !s.cellRuns c && s.cellState c == 0) = true ∧ (s.cells.all fun c => s.cellRuns c || s.cellState c != 1) = true) (sst 0 4) 4 asOperator 1)
    ∧ ((fun (s : State) (_dt : Nat) (acc : Access) (val : Word) => Admitted s acc Reg.SST_RUN_CTRL .op ∧ fget Fld.SST_RUN_CTRL_ENERGISE val = 1 ∧ fget Fld.SST_RUN_CTRL_DEENERGISE val = 0 ∧ fget Fld.SST_RUN_CTRL_ACK_LOCKOUT val = 0 ∧ s.mayEnergise = false) (sst 6 5) 4 asOperator 1)
    ∧ ((fun (s : State) (_dt : Nat) (acc : Access) (val : Word) => Admitted s acc Reg.SST_RUN_CTRL .op ∧ fget Fld.SST_RUN_CTRL_DEENERGISE val = 1 ∧ fget Fld.SST_RUN_CTRL_ENERGISE val = 0 ∧ s.ladder = 6) (sstCells 6 2) 4 asOperator 2)
    ∧ ((fun (s : State) (_dt : Nat) (acc : Access) (val : Word) => Admitted s acc Reg.SST_RUN_CTRL .svc ∧ fget Fld.SST_RUN_CTRL_ACK_LOCKOUT val = 1 ∧ fget Fld.SST_RUN_CTRL_DEENERGISE val = 0 ∧ fget Fld.SST_RUN_CTRL_ENERGISE val = 0 ∧ s.ladder = 9) (sstCells 9 1) 4 asService 4)
    ∧ ((fun (s : State) (_dt : Nat) (_main _pre : Bool) => s.sstUsed = true) (sst 0 5) 4 true false)
    ∧ ((fun (s : State) (_dt : Nat) => SstClear s ∧ s.ladder = 3 ∧ s.sst.step = 2 ∧ (s.cells.all s.cellRuns) = true) ({ sstCells 3 1 with sst := { (sstCells 3 1).sst with step := 2 } }) 4)
    ∧ ((fun (s : State) (dt : Nat) => s.sstUsed = true ∧ s.ladder = 2 ∧ Config.sec (s.fld Reg.SST_PRE_CFG Fld.SST_PRE_CFG_PRE_TMO) ≤ (s.tick dt).since s.sst.ladderAt) (sstCells 2 1) (Config.sec 255))
    ∧ ((fun (s : State) (dt : Nat) => s.sstUsed = true ∧ s.ladder = 3 ∧ s.brkTmo ≤ (s.tick dt).since s.sst.stepAt) (sstCells 3 1) (Config.sec 10))
    ∧ ((fun (s : State) (dt : Nat) => s.sstUsed = true ∧ s.ladder = 7 ∧ s.fld Reg.SST_RUN_STAT Fld.SST_RUN_STAT_MAIN_CLOSED = 1 ∧ Config.msec (100 * s.fld Reg.SST_RESTART_CFG Fld.SST_RESTART_CFG_TRIP_HOLD) ≤ (s.tick dt).since s.sst.ladderAt) (sstCells 7 2 |>.setF Reg.SST_RUN_STAT Fld.SST_RUN_STAT_MAIN_CLOSED 1) (Config.sec 26))
    ∧ ((fun (s : State) (dt : Nat) => s.sstUsed = true ∧ s.ladder = 7 ∧ s.fld Reg.SST_RESTART_CFG Fld.SST_RESTART_CFG_AUTO = 1 ∧ Config.msec (100 * s.fld Reg.SST_RESTART_CFG Fld.SST_RESTART_CFG_RESTART_DLY) ≤ (s.tick dt).since s.sst.triedAt ∧ s.fld Reg.SST_STAT Fld.SST_STAT_PLL_LOCK = 1 ∧ s.phasesStand = true ∧ (s.gtLatches.all (s.tick dt).qsetIdle) = true) ((((sstCells 7 2).setF Reg.SST_RESTART_CFG Fld.SST_RESTART_CFG_AUTO 1).wr (Reg.QSET_MAP 2) 0x80000001).wr (Reg.QSET_LATCH 0) 4) (Config.sec 26)) := by
  and_intros <;> decide +kernel

theorem test_wit_transformer_cell_rows :
    ((fun (s : State) (_dt : Nat) (acc : Access) (c : Nat) (val : Word) => c < 96 ∧ Admitted s acc (Reg.SST_CELL_CMD c) .svc ∧ s.cells.contains c = true ∧ fget Fld.SST_CELL_CMD_BYPASS val = 1 ∧ fget Fld.SST_CELL_CMD_RESTORE val = 0 ∧ (s.cellState c = 1 ∨ s.cellState c = 2) ∧ s.wouldStarve c = false) (sstCells 0 1) 4 asService 33 1)
    ∧ ((fun (s : State) (_dt : Nat) (acc : Access) (c : Nat) (val : Word) => c < 96 ∧ Admitted s acc (Reg.SST_CELL_CMD c) .svc ∧ s.cells.contains c = true ∧ fget Fld.SST_CELL_CMD_BYPASS val = 1 ∧ fget Fld.SST_CELL_CMD_RESTORE val = 0 ∧ (s.cellState c = 1 ∨ s.cellState c = 2) ∧ s.wouldStarve c = true) ((sstCells 6 2).setCellState 32 6) 4 asService 33 1)
    ∧ ((fun (s : State) (_dt : Nat) (acc : Access) (c : Nat) (val : Word) => c < 96 ∧ Admitted s acc (Reg.SST_CELL_CMD c) .svc ∧ s.cells.contains c = true ∧ fget Fld.SST_CELL_CMD_RESTORE val = 1 ∧ fget Fld.SST_CELL_CMD_BYPASS val = 0 ∧ s.cellBit c 6 = false ∧ 4 ≤ s.cellState c ∧ s.cellState c ≤ 6) (sstCells 0 5) 4 asService 33 2)
    ∧ ((fun (s : State) (dt c : Nat) => c < 96 ∧ s.cellState c = 3 ∧ s.cellBit c 1 = false ∧ (s.tick dt).lasted (s.cell c).zeroAt (Config.msec (10 * s.fld Reg.SST_BRK_CFG Fld.SST_BRK_CFG_BYP_TMO)) = true) ((sstCells 0 3).setCell 33 { (sstCells 0 3).cell 33 with zeroAt := some 0 }) (Config.sec 3) 33)
    ∧ ((fun (s : State) (dt p : Nat) => p < 3 ∧ (s.tick dt).atCycleStart = true ∧ (s.sst.replan.any fun r => r.1 == p && decide (r.2 < s.tm.cycleN)) = true ∧ s.sst.foCycle = none) (let s := (sstCells 6 2).setCellState 33 3; { s with sst := { s.sst with replan := [(1, 3), (2, 9)] }, tm := { s.tm with cycleN := 9 } }) 0 1)
    ∧ ((fun (s : State) (dt : Nat) (at' : Count) => s.sstUsed = true ∧ s.fld Reg.SST_STAT Fld.SST_STAT_RT_STATE ≠ 5 ∧ s.sst.freqAt = some at' ∧ Config.msec (100 * fget Fld.SST_RT_CFG2_F_TMO (s.rtReg Reg.SST_RT_CFG2)) ≤ (s.tick dt).since at') ({ sstCells 6 2 with sst := { (sstCells 6 2).sst with freqAt := some 0 } }) (Config.sec 30) 0)
    ∧ ((fun (s : State) (dt : Nat) => s.sstUsed = true ∧ s.fld Reg.SST_STAT Fld.SST_STAT_RT_STATE ≠ 5 ∧ (s.tick dt).lasted s.sst.unlockAt (Config.msec 500) = true) ({ sstCells 6 2 with sst := { (sstCells 6 2).sst with unlockAt := some 0 } }) (Config.msec 500))
    ∧ ((fun (s : State) (_dt : Nat) (acc : Access) (val : Word) => Admitted s acc Reg.SST_CLR .op ∧ fget Fld.SST_CLR_CLEAR val = 1) ((sst 0 5).wr Reg.SST_CNT 0x70003) 4 asOperator 1) := by
  and_intros <;> decide +kernel

theorem test_wit_output_stage_rows :
    ((fun (s : State) (_dt : Nat) (acc : Access) (n : Nat) (val : Word) => n < 8 ∧ Admitted s acc (Reg.OUTS_O_CTRL n) .op ∧ fget Fld.OUTS_O_CTRL_STOP val = 1 ∧ fget Fld.OUTS_O_CTRL_ACK_LOCKOUT val = 0 ∧ [1, 2, 3, 5].contains (s.stgState n) = true) (outs 3 2 0) 4 asOperator 1 1)
    ∧ ((fun (s : State) (_dt : Nat) (acc : Access) (n : Nat) (val : Word) => n < 8 ∧ Admitted s acc (Reg.OUTS_O_CTRL n) .op ∧ fget Fld.OUTS_O_CTRL_STOP val = 0 ∧ fget Fld.OUTS_O_CTRL_ACK_LOCKOUT val = 1 ∧ s.stgState n = 7 ∧ s.goLatches n = []) (outs 7 1 0) 4 asOperator 1 2)
    ∧ ((fun (s : State) (_dt : Nat) (acc : Access) (m : Nat) (val : Word) => Admitted s acc (Reg.OUTS_PH_CMD m) .svc ∧ fget Fld.OUTS_PH_CMD_RESTORE val = 1 ∧ m ∈ s.phases ∧ s.phState m = 5 ∧ (s.phs m).ready = true ∧ (s.phs m).faulty = false ∧ m < 96) ((outs 0 5 0).setPhs 3 { Phase.reset with ready := true }) 4 asService 3 1)
    ∧ ((fun (s : State) (_dt : Nat) (acc : Access) (m : Nat) (val : Word) => Admitted s acc (Reg.OUTS_PH_CMD m) .svc ∧ fget Fld.OUTS_PH_CMD_RESTORE val = 1 ∧ m ∈ s.phases ∧ (s.phs m).ready = false ∧ m < 96) (outs 0 5 0) 4 asService 3 1)
    ∧ ((fun (s : State) (dt n : Nat) => n < 8 ∧ s.stgState n = 1 ∧ (s.tick dt).lasted (s.stg n).lagAt (Config.msec 2) = true ∧ s.fld (Reg.OUTS_O_STAT n) Fld.OUTS_O_STAT_ATTEMPT < 3) ((outs 1 2 0 |>.setF (Reg.OUTS_O_STAT 1) Fld.OUTS_O_STAT_ATTEMPT 2).setStg 1 { Stage.reset with lagAt := some 0 }) 8000000 1)
    ∧ ((fun (s : State) (dt n : Nat) => n < 8 ∧ s.stgState n = 1 ∧ (s.tick dt).lasted (s.stg n).lagAt (Config.msec 2) = true ∧ s.fld (Reg.OUTS_O_STAT n) Fld.OUTS_O_STAT_ATTEMPT = 3) ((outs 1 2 0 |>.setF (Reg.OUTS_O_STAT 1) Fld.OUTS_O_STAT_ATTEMPT 3).setStg 1 { Stage.reset with lagAt := some 0 }) 8000000 1)
    ∧ ((fun (s : State) (dt n : Nat) => n < 8 ∧ s.stgState n = 5 ∧ Config.msec 500 ≤ (s.tick dt).since (s.stg n).since) (outs 5 1 0 |>.setF (Reg.OUTS_O_STAT 1) Fld.OUTS_O_STAT_ATTEMPT 1) (Config.msec 500) 1)
    ∧ ((fun (s : State) (dt n m : Nat) => n < 8 ∧ (s.tick dt).lasted (s.stg n).shedAt (Config.msec (10 * s.fld (Reg.OUTS_SHED_CFG n) Fld.OUTS_SHED_CFG_SHED_DLY)) = true ∧ (s.membersIn n [2]).getLast? = some m) ((outs 3 2 0).setStg 1 { Stage.reset with shedAt := some 0 }) (Config.sec 30) 1 4)
    ∧ ((fun (s : State) (dt m : Nat) => m < 96 ∧ s.phState m = 2 ∧ (s.tick dt).lasted (s.phs m).tripAt (Config.sec 1) = true) ((outs 3 2 0).setPhs 4 { Phase.reset with tripAt := some 0 }) (Config.sec 1) 4)
    ∧ ((fun (s : State) (dt n : Nat) => n < 8 ∧ s.stgState n = 4 ∧ (s.tick dt).stopDone n = true ∧ (s.stg n).noPhases = false) (outs 4 2 0) (Config.msec 20) 1)
    ∧ ((fun (s : State) (dt n : Nat) => n < 8 ∧ s.stgState n = 4 ∧ (s.tick dt).stopDone n = true ∧ (s.stg n).noPhases = true) ((outs 4 2 0).setStg 1 { Stage.reset with noPhases := true }) (Config.msec 20) 1)
    ∧ ((fun (s : State) (_dt : Nat) (acc : Access) (val : Word) => Admitted s acc Reg.OUTS_CLR .op ∧ fget Fld.OUTS_CLR_CLEAR val = 1) (((outs 0 1 0).wr (Reg.OUTS_O_CNT 1) 0x10203).setF (Reg.OUTS_PH_IMB 4) Fld.OUTS_PH_IMB_WARNS 3) 4 asOperator 1) := by
  and_intros <;> decide +kernel

theorem test_wit_allocation_and_cooling_rows :
    ((fun (s : State) (dt _dur n : Nat) => s.mode = 2 ∧ s.power < 2 ∧ (s.tick dt).atCycleStart = true ∧ s.aloc.nextTick ≤ (s.tick dt).since s.aloc.runAt / Config.msec 10 ∧ (s.tick dt).safetyDue = false ∧ s.owed = none ∧ n ∈ s.outlets ∧ (s.tick dt).estimate.eligible true n = false ∧ (s.tick dt).estimate.eligible false n = false) runs (Config.msec 0) 500 2)
    ∧ ((fun (s : State) (dt : Nat) => s.mode = 2 ∧ s.demStale = false ∧ Config.msec 50 ≤ (s.tick dt).since s.aloc.arrived) runs (Config.msec 50))
    ∧ ((fun (s : State) (_dt : Nat) (acc : Access) (val : Word) => Admitted s acc Reg.ALOC_CLR .op ∧ fget Fld.ALOC_CLR_CLEAR val = 1) ((runs.wr Reg.ALOC_CNT 0x30004).setF Reg.ALOC_TTIME Fld.ALOC_TTIME_MAX 9) 4 asOperator 1)
    ∧ ((fun (s : State) (_dt i r : Nat) => i < 32 ∧ s.fld (Reg.THERM_CFG i) Fld.THERM_CFG_TYPE ≠ 0 ∧ (thLimits (s.fld (Reg.THERM_CFG i) Fld.THERM_CFG_TYPE)).1 < r) ((runs.setF (Reg.THERM_CFG 3) Fld.THERM_CFG_TYPE 1).setF (Reg.THERM_VAL 3) Fld.THERM_VAL_VALID 1) 4 3 5000001)
    ∧ ((fun (s : State) (_dt i r : Nat) => i < 32 ∧ s.fld (Reg.THERM_CFG i) Fld.THERM_CFG_TYPE ≠ 0 ∧ r ≤ (thLimits (s.fld (Reg.THERM_CFG i) Fld.THERM_CFG_TYPE)).1 ∧ (thLimits (s.fld (Reg.THERM_CFG i) Fld.THERM_CFG_TYPE)).2 ≤ r) ((runs.setF (Reg.THERM_CFG 3) Fld.THERM_CFG_TYPE 1).setF (Reg.THERM_VAL 3) Fld.THERM_VAL_VALID 1) 4 3 1097000)
    ∧ ((fun (s : State) (dt i k : Nat) (v : Int) => i < 32 ∧ s.cool.filt.find? (fun e => e.1 == i) = some (k, v) ∧ s.fld (Reg.THERM_VAL i) Fld.THERM_VAL_VALID = 0 ∧ s.bit Reg.THERM_STAT i = false ∧ Config.msec 100 ≤ (s.tick dt).since (SMap.get (fun _ => 0) s.cool.badAt i)) { runs with cool := { runs.cool with filt := [(3, 2500)] } } (Config.msec 100) 3 3 2500)
    ∧ ((fun (s : State) (_dt src _value : Nat) (_good : Bool) (n : Nat) => n ∈ s.cooled ∧ s.parN (Par.flowSrc n) = src + 1 ∧ s.parN (Par.flowObj src) = 0) (outs 0 1 1) 4 5 40 true 1)
    ∧ ((fun (s : State) (_dt src _value : Nat) (_good : Bool) (n : Nat) => n ∈ s.cooled ∧ s.parN (Par.flowSrc n) = src + 1 ∧ 0 < s.parN (Par.flowObj src)) ({ outs 0 1 1 with img := { (outs 0 1 1).img with pars := SMap.put (fun _ => 0) (outs 0 1 1).img.pars (Par.flowObj 5) 1 }, cool := { (outs 0 1 1).cool with flows := [(5, { FlowSrc.reset with val := 70, at' := 1 })] } }) 4 5 40 false 1)
    ∧ ((fun (s : State) (dt n : Nat) => n < 8 ∧ (s.tick dt).lasted (s.col n).hotAt (Config.sec 1) = true ∧ (s.col n).cableTrip = false ∧ s.srcEnabled (108 + s.gO n) = true ∧ s.latched (108 + s.gO n) = false ∧ s.gO n < 8) (((outs 3 2 1).wr (Reg.QSET_MAP 110) 0x80000004).setCol 1 { Cool.reset with hotAt := some 0 }) (Config.sec 1) 1)
    ∧ ((fun (s : State) (dt n : Nat) => n < 8 ∧ s.coolState n ≤ 2 ∧ (s.tick dt).lasted (s.col n).lossAt (Config.msec (100 * s.fld (Reg.COOL_O_FCFG n) Fld.COOL_O_FCFG_FLOW_TMO)) = true) ((outs 3 2 1).setCol 1 { Cool.reset with lossAt := some 0 }) (Config.sec 26) 1)
    ∧ ((fun (s : State) (_dt pad held n : Nat) => Config.msec 100 ≤ held ∧ n ∈ s.cooled ∧ s.parN (Par.leakPad n) = pad + 1 ∧ s.coolState n ≤ 2 ∧ n < 8) (outs 3 2 1) 4 5 (Config.msec 100) 1)
    ∧ ((fun (s : State) (dt n : Nat) => n < 8 ∧ (s.tick dt).lasted (s.col n).lowAt (Config.sec 2) = true ∧ s.fld (Reg.COOL_O_STAT n) Fld.COOL_O_STAT_FLOW_LOW = 0) ((outs 3 2 1).setCol 1 { Cool.reset with lowAt := some 0 }) (Config.sec 2) 1)
    ∧ ((fun (s : State) (dt n : Nat) => n < 8 ∧ s.coolState n = 3 ∧ s.fld (Reg.COOL_O_STAT n) Fld.COOL_O_STAT_CAUSE ≠ 3 ∧ (s.tick dt).lasted (s.col n).backAt (Config.sec 10) = true) (((outs 3 2 3).setF (Reg.COOL_O_STAT 1) Fld.COOL_O_STAT_CAUSE 1).setCol 1 { Cool.reset with backAt := some 0 }) (Config.sec 10) 1)
    ∧ ((fun (s : State) (dt n : Nat) => n < 8 ∧ s.coolState n = 2 ∧ (s.tick dt).flowLost n = false ∧ s.coolBlind n = false ∧ Config.sec (60 * s.fld (Reg.COOL_O_FCFG n) Fld.COOL_O_FCFG_RUN_ON_MAX) ≤ (s.tick dt).since (s.col n).onAt) (let s := ((outs 3 2 2).wr (Reg.THERM_CFG 3) 0).setF (Reg.THERM_CFG 3) Fld.THERM_CFG_TYPE 1 |>.setF (Reg.THERM_CFG 3) Fld.THERM_CFG_ROLE 2 |>.setF (Reg.THERM_CFG 3) Fld.THERM_CFG_OUTLET 1 |>.setF (Reg.THERM_VAL 3) Fld.THERM_VAL_VALID 1; s.setCol 1 { Cool.reset with flowOk := true }) (Config.sec 15300) 1)
    ∧ ((fun (s : State) (_dt : Nat) (acc : Access) (n : Nat) (val : Word) => n < 8 ∧ Admitted s acc (Reg.COOL_O_CTRL n) .op ∧ fget Fld.COOL_O_CTRL_ACK val = 1) ((outs 3 2 3).setF (Reg.COOL_O_STAT 1) Fld.COOL_O_STAT_CAUSE 3) 4 asOperator 1 1)
    ∧ ((fun (s : State) (_dt : Nat) (acc : Access) (val : Word) => Admitted s acc Reg.COOL_CLR .op ∧ fget Fld.COOL_CLR_CLEAR val = 1) ((outs 0 1 0).wr (Reg.COOL_O_CNT 1) 0x10203) 4 asOperator 1)
    ∧ ((fun (s : State) (_dt : Nat) (acc : Access) (val : Word) => Admitted s acc Reg.THERM_CLR .op ∧ fget Fld.THERM_CLR_CLEAR val = 1) ((outs 0 1 0).wr (Reg.THERM_CNT 7) 0x10203) 4 asOperator 1) := by
  and_intros <;> decide +kernel

theorem test_wit_session_signal_rows :
    ((fun (s : State) (_dt n : Nat) (a b : SigSample) => n < 8 ∧ sigOf (s.cpDrive n == .pwm) a = sigOf (s.cpDrive n == .pwm) b ∧ (sigOf (s.cpDrive n == .pwm) a = 1 ∨ sigOf (s.cpDrive n == .pwm) a = 2) ∧ s.oState n = 1 ∧ s.inhibited n = false ∧ (s.oKind n = 2 ∨ (s.oKind n = 1 ∧ s.fld (Reg.OUTL_O_STAT n) Fld.OUTL_O_STAT_PP ≠ 0)) ∧ s.fld Reg.PWR_STAT Fld.PWR_STAT_STATE = 0) (outl 1 0) 4 1 (.cp 9000 none) (.cp 8500 none))
    ∧ ((fun (s : State) (_dt n : Nat) (a b : SigSample) => n < 8 ∧ sigOf (s.cpDrive n == .pwm) a = 0 ∧ sigOf (s.cpDrive n == .pwm) b = 0 ∧ s.oState n = 10 ∧ s.oKind n ≠ 0 ∧ s.fld Reg.PWR_STAT Fld.PWR_STAT_STATE = 0) (outl 10 2) 4 1 (.cp 12000 none) (.cp 12500 none))
    ∧ ((fun (s : State) (_dt n : Nat) (a b : SigSample) => SessionRuns s n ∧ sigOf (s.cpDrive n == .pwm) a = 0 ∧ sigOf (s.cpDrive n == .pwm) b = 0 ∧ s.oKind n ≠ 0 ∧ s.fld Reg.PWR_STAT Fld.PWR_STAT_STATE = 0) (outl 3 2) 4 1 (.cp 12000 none) (.cp 12500 none))
    ∧ ((fun (s : State) (_dt n pp : Nat) => SessionRuns s n ∧ s.oState n = 7 ∧ s.oKind n = 1 ∧ pp % 3 = 1) (outl 7 2) 4 1 4)
    ∧ ((fun (s : State) (_dt n _pp : Nat) => n < 8 ∧ s.oKind n = 1 ∧ s.oState n = 0 ∧ s.inhibited n = true) (outlWith 0 1 fun v => { v with disabled := true }) 4 1 2)
    ∧ ((fun (s : State) (_dt n offered : Nat) (tls : Bool) => n < 8 ∧ s.oState n = 2 ∧ (s.otl n).ending = 0 ∧ offered.testBit 2 = true ∧ tls = true ∧ (s.fld (Reg.OUTL_O_CFG n) Fld.OUTL_O_CFG_PROTO_EN).testBit 2 = true) (outl 2 2) 4 1 7 true)
    ∧ ((fun (s : State) (_dt n offered : Nat) => n < 8 ∧ s.oState n = 2 ∧ (s.otl n).ending = 0 ∧ s.oKind n = 1 ∧ offered.testBit 1 = true ∧ (s.fld (Reg.OUTL_O_CFG n) Fld.OUTL_O_CFG_PROTO_EN).testBit 1 = true) (outl 2 2) 4 1 7)
    ∧ ((fun (s : State) (_dt n offered : Nat) (_tls : Bool) => SessionRuns s n ∧ s.oState n = 2 ∧ offered &&& s.fld (Reg.OUTL_O_CFG n) Fld.OUTL_O_CFG_PROTO_EN = 0) (outl 2 2) 4 1 0 false)
    ∧ ((fun (s : State) (_dt n sv _vm _pm : Nat) => n < 8 ∧ s.oState n = 3 ∧ (s.otl n).auth = false ∧ s.serviceOk n sv = true) (outl 3 2) 4 1 0 9000 400)
    ∧ ((fun (s : State) (_dt n : Nat) => SessionRuns s n ∧ 3 ≤ s.oState n) (outl 5 2) 4 1)
    ∧ ((fun (s : State) (_dt n _v : Nat) (_i : Int) => n < 8 ∧ s.oState n = 7 ∧ s.bidir n = false ∧ (s.stg n).exporting = false) (outl 7 2) 4 1 8000 120)
    ∧ ((fun (s : State) (_dt n : Nat) => n < 8 ∧ s.oState n = 6 ∧ (s.otl n).ending = 0 ∧ s.stgState n = 2 ∧ ((s.vOut n : Int) - (s.otl n).preTgt).natAbs ≤ 200) ((outl 6 2).setF (Reg.OUTS_O_STAT 1) Fld.OUTS_O_STAT_STATE 2) 4 1)
    ∧ ((fun (s : State) (dt n : Nat) => SessionRuns s n ∧ s.oState n = 2 ∧ Config.sec (s.fld (Reg.OUTL_O_LINK n) Fld.OUTL_O_LINK_LINK_TMO) ≤ (s.tick dt).since (s.otl n).since) (outl 2 2) (Config.sec 300) 1)
    ∧ ((fun (s : State) (_dt n : Nat) => SessionRuns s n ∧ s.fld (Reg.OUTL_O_STAT n) Fld.OUTL_O_STAT_PROTO ≠ 0) ((outl 5 2).setF (Reg.OUTL_O_STAT 1) Fld.OUTL_O_STAT_PROTO 2) 4 1)
    ∧ ((fun (s : State) (_dt pad : Nat) => pad < 16 ∧ pad % 2 = 0 ∧ s.fld (Reg.OUTL_O_STAT (pad / 2)) Fld.OUTL_O_STAT_FB_N = 1 ∧ (s.otl (pad / 2)).cmd = true ∧ s.oState (pad / 2) = 4 ∧ (s.otl (pad / 2)).step = 3 ∧ (s.otl (pad / 2)).ending = 0) ((outlWith 4 2 fun v => { v with cmd := true, cmdAt := some 0, step := 3 }).setF (Reg.OUTL_O_STAT 1) Fld.OUTL_O_STAT_FB_N 1) 4 2)
    ∧ ((fun (s : State) (_dt pad : Nat) => pad < 16 ∧ (s.otl (pad / 2)).cmd = true ∧ (s.otl (pad / 2)).ending = 0) (outlWith 7 2 fun v => { v with cmd := true }) 4 3)
    ∧ ((fun (s : State) (dt n : Nat) => SessionRuns s n ∧ (s.otl n).cmd = true ∧ (s.tick dt).lasted (s.otl n).cmdAt (Config.msec (10 * s.fld (Reg.OUTL_O_TMO n) Fld.OUTL_O_TMO_CONT_TMO)) = true) (outlWith 4 2 fun v => { v with cmd := true, cmdAt := some 0 }) (Config.sec 3) 1)
    ∧ ((fun (s : State) (dt n : Nat) => n < 8 ∧ (s.otl n).cmd = false ∧ (s.tick dt).lasted (s.otl n).cmdAt (Config.msec (10 * s.fld (Reg.OUTL_O_TMO n) Fld.OUTL_O_TMO_CONT_TMO)) = true) (outlWith 8 2 fun v => { v with cmd := false, cmdAt := some 0, ending := 1 }) (Config.sec 3) 1) := by
  and_intros <;> decide +kernel

theorem test_wit_session_check_and_command_rows :
    ((fun (s : State) (dt n : Nat) => n < 8 ∧ s.oState n = 4 ∧ (s.otl n).step = 4 ∧ (s.otl n).ending = 0 ∧ Config.usec (100 * s.fld (Reg.OUTL_O_CHK n) Fld.OUTL_O_CHK_CHK_WIN) ≤ (s.tick dt).since (s.otl n).stepAt ∧ (s.otl n).vZero ≤ 2 * s.vOut n) (outlWith 4 2 fun v => { v with step := 4, vZero := 0 }) (Config.msec 30) 1)
    ∧ ((fun (s : State) (dt n : Nat) => SessionRuns s n ∧ s.oState n = 4 ∧ (s.otl n).step = 4 ∧ Config.usec (100 * s.fld (Reg.OUTL_O_CHK n) Fld.OUTL_O_CHK_CHK_WIN) ≤ (s.tick dt).since (s.otl n).stepAt ∧ 2 * s.vOut n < (s.otl n).vZero) (outlWith 4 2 fun v => { v with step := 4, vZero := 10 }) (Config.msec 30) 1)
    ∧ ((fun (s : State) (dt n : Nat) => n < 8 ∧ s.oState n = 5 ∧ (s.otl n).step = 1 ∧ (s.otl n).ending = 0 ∧ (s.tick dt).lasted (s.otl n).holdAt (Config.msec (100 * s.fld (Reg.OUTL_O_CHK n) Fld.OUTL_O_CHK_CC_SETTLE)) = true) (outlWith 5 2 fun v => { v with step := 1, holdAt := some 0 }) (Config.sec 30) 1)
    ∧ ((fun (s : State) (dt n : Nat) => SessionRuns s n ∧ s.oState n = 5 ∧ (s.otl n).step = 1 ∧ Config.sec (s.fld (Reg.OUTL_O_TMO n) Fld.OUTL_O_TMO_CC_TMO) ≤ (s.tick dt).since (s.otl n).since) (outlWith 5 2 fun v => { v with step := 1 }) (Config.sec 300) 1)
    ∧ ((fun (s : State) (dt n : Nat) => SessionRuns s n ∧ (s.oState n = 6 ∨ s.oState n = 7) ∧ (s.tick dt).lasted (s.otl n).badAt (Config.msec 100) = true) (outlWith 7 2 fun v => { v with badAt := some 0 }) (Config.msec 100) 1)
    ∧ ((fun (s : State) (_dt pad n : Nat) => n ∈ s.usedOutlets ∧ s.parN (Par.imdWarn n) ≠ 0 ∧ (s.parN (Par.imdWarn n) - 1) / 2 = pad ∧ n < 8) ({ outl 7 2 with img := { runs.img with pars := [(Par.imdWarn 1, 8)] } }) 4 3 1)
    ∧ ((fun (s : State) (dt n : Nat) => n < 8 ∧ s.oState n = 9 ∧ 600 ≤ s.vOut n ∧ (s.otl n).tally = 0 ∧ Config.msec (10 * s.fld (Reg.OUTL_O_CHK n) Fld.OUTL_O_CHK_WELD_WIN) ≤ (s.tick dt).since (s.otl n).since) (((outlWith 9 2 fun v => { v with ending := 1 })).setStg 1 { Stage.reset with last := { OutIn.reset with vOut := 700 } }) (Config.sec 3) 1)
    ∧ ((fun (s : State) (dt n : Nat) => n < 8 ∧ (s.otl n).ending = 2 ∧ (s.otl n).cmd = true ∧ s.emergTmo n ≤ (s.tick dt).since (s.otl n).stopAt) (outlWith 7 2 fun v => { v with ending := 2, cmd := true }) (Config.sec 300) 1)
    ∧ ((fun (s : State) (_dt : Nat) (acc : Access) (n : Nat) (val : Word) => SessionRuns s n ∧ Admitted s acc (Reg.OUTL_O_CTRL n) .op ∧ val.getLsbD 0 = true ∧ val.getLsbD 1 = false ∧ val.getLsbD 2 = false ∧ val.getLsbD 3 = false) (outl 7 2) 4 asOperator 1 1)
    ∧ ((fun (s : State) (_dt : Nat) (acc : Access) (n : Nat) (val : Word) => n < 8 ∧ Admitted s acc (Reg.OUTL_O_CTRL n) .op ∧ val.getLsbD 0 = true ∧ val.getLsbD 1 = false ∧ val.getLsbD 2 = false ∧ val.getLsbD 3 = false ∧ s.oState n ≤ 1) (outl 1 0) 4 asOperator 1 1)
    ∧ ((fun (s : State) (_dt : Nat) (acc : Access) (n : Nat) (val : Word) => n < 8 ∧ Admitted s acc (Reg.OUTL_O_CTRL n) .op ∧ val.getLsbD 1 = true ∧ val.getLsbD 0 = false ∧ val.getLsbD 2 = false ∧ val.getLsbD 3 = false ∧ (s.otl n).disabled = false ∧ s.oState n = 1) (outl 1 0) 4 asOperator 1 2)
    ∧ ((fun (s : State) (_dt : Nat) (acc : Access) (n : Nat) (val : Word) => SessionRuns s n ∧ Admitted s acc (Reg.OUTL_O_CTRL n) .op ∧ val.getLsbD 1 = true ∧ val.getLsbD 0 = false ∧ val.getLsbD 2 = false ∧ val.getLsbD 3 = false ∧ (s.otl n).disabled = false ∧ s.sig n ≠ 0) (outl 5 2) 4 asOperator 1 2)
    ∧ ((fun (s : State) (_dt : Nat) (acc : Access) (n : Nat) (val : Word) => n < 8 ∧ Admitted s acc (Reg.OUTL_O_CTRL n) .op ∧ val.getLsbD 2 = true ∧ val.getLsbD 0 = false ∧ val.getLsbD 1 = false ∧ val.getLsbD 3 = false ∧ (s.otl n).disabled = true ∧ s.oState n = 0 ∧ (s.setOtl n { s.otl n with disabled := false }).inhibited n = false) (outlWith 0 0 fun v => { v with disabled := true }) 4 asOperator 1 4)
    ∧ ((fun (s : State) (_dt : Nat) (acc : Access) (n : Nat) (val : Word) => n < 8 ∧ Admitted s acc (Reg.OUTL_O_CTRL n) .op ∧ val.getLsbD 3 = true ∧ val.getLsbD 0 = false ∧ val.getLsbD 1 = false ∧ val.getLsbD 2 = false ∧ s.oState n = 11 ∧ s.sig n = 0 ∧ s.causeGone n = true ∧ s.reason n ≠ 10) ((outl 11 0).setF (Reg.OUTL_O_STAT 1) Fld.OUTL_O_STAT_REASON 6) 4 asOperator 1 8)
    ∧ ((fun (s : State) (_dt : Nat) (acc : Access) (n : Nat) (val : Word) => n < 8 ∧ Admitted s acc (Reg.OUTL_O_CTRL n) .op ∧ val.getLsbD 3 = true ∧ val.getLsbD 0 = false ∧ val.getLsbD 1 = false ∧ val.getLsbD 2 = false ∧ ¬(s.oState n = 11 ∧ s.sig n = 0)) (outl 11 2) 4 asOperator 1 8)
    ∧ ((fun (s : State) (_dt : Nat) (acc : Access) (val : Word) => Admitted s acc Reg.OUTL_CLR .op ∧ fget Fld.OUTL_CLR_CLEAR val = 1) ((outl 1 0).wr (Reg.OUTL_O_CNT 1) 0x10203) 4 asOperator 1) := by
  and_intros <;> decide +kernel

theorem test_wit_safety_axis_rows :
    ((fun (s : State) (dt : Nat) (_a _b : ChanIn) (x : Side) => (s.tick dt).atCycleStart = true ∧ s.safe.nextMs ≤ s.tm.cycleStart.toNat / Config.msec 1 ∧ s.sideRunning x = true ∧ s.chState x = 0) ({ safes 0 0 with tm := { runs.tm with cycleStart := 0 } }) 4 ⟨[], false⟩ ⟨[], false⟩ .b)
    ∧ ((fun (s : State) (dt : Nat) (_a _b : ChanIn) (x : Side) => (s.tick dt).atCycleStart = true ∧ s.safe.nextMs ≤ s.tm.cycleStart.toNat / Config.msec 1 ∧ s.sideRunning x = true ∧ s.chState x ≠ 0 ∧ s.estopActive = true) ({ safes 2 1 with safe := { (safes 2 1).safe with estA := true } }) 4 ⟨[], true⟩ ⟨[], true⟩ .a)
    ∧ ((fun (s : State) (dt : Nat) (a b : ChanIn) (x : Side) => (s.tick dt).atCycleStart = true ∧ s.safe.nextMs ≤ s.tm.cycleStart.toNat / Config.msec 1 ∧ s.sideRunning x = true ∧ s.chState x = 2 ∧ 2 ≤ (s.chan x).missing ∧ (if x = .a then a.record else b.record) = false) ((safes 2 1).setChan .a { Chan.reset with missing := 2 }) 4 ⟨[], false⟩ ⟨[], true⟩ .a)
    ∧ ((fun (s : State) (dt : Nat) (_a _b : ChanIn) (x : Side) => (s.tick dt).atCycleStart = true ∧ s.safe.nextMs ≤ s.tm.cycleStart.toNat / Config.msec 1 ∧ s.sideRunning x = false ∧ s.chState x ≠ 0) ({ safes 2 1 with keep := { runs.keep with sides := [(1, { SideRec.reset with state := .active })] } }) 4 ⟨[], true⟩ ⟨[], true⟩ .a)
    ∧ ((fun (s : State) (dt : Nat) (_a _b : ChanIn) => (s.tick dt).atCycleStart = true ∧ s.safe.nextMs ≤ s.tm.cycleStart.toNat / Config.msec 1) ((safes 2 1).wr Reg.SAFE_IN_CFG 0x0A140200) 4 ⟨[], true⟩ ⟨[], true⟩)
    ∧ ((fun (s : State) (dt : Nat) (_a _b : ChanIn) => (s.tick dt).atCycleStart = false ∨ s.tm.cycleStart.toNat / Config.msec 1 < s.safe.nextMs) (safes 2 1) 4000 ⟨[], true⟩ ⟨[], true⟩)
    ∧ ((fun (s : State) (_dt input : Nat) (_level : Bool) => input % 2 = 0 ∧ s.fld Reg.SAFE_STAT Fld.SAFE_STAT_ESTOP_DISC = 0) (safes 2 1) 4 0 false)
    ∧ ((fun (s : State) (_dt input : Nat) (_level : Bool) => input % 2 = 1 ∧ s.fld Reg.SAFE_STAT Fld.SAFE_STAT_ESTOP_DISC = 0) (safes 2 1) 4 1 false)
    ∧ ((fun (s : State) (_dt input : Nat) => input % 2 = 0 ∧ s.fld Reg.SAFE_STAT Fld.SAFE_STAT_ESTOP_DISC = 1 ∧ s.safe.estB = false) (let s := (safes 2 1).setF Reg.SAFE_STAT Fld.SAFE_STAT_ESTOP_DISC 1; { s with safe := { s.safe with estA := true, discBoth := true } }) 4 0)
    ∧ ((fun (s : State) (dt : Nat) => s.fld Reg.SAFE_STAT Fld.SAFE_STAT_ESTOP_DISC = 0 ∧ (s.tick dt).lasted s.safe.discAt (Config.msec (10 * s.safeVal Reg.SAFE_IN_CFG Fld.SAFE_IN_CFG_ESTOP_DISC) + 1) = true) ({ safes 2 1 with safe := { (safes 2 1).safe with estA := true, discAt := some 0 } }) (Config.msec 101))
    ∧ ((fun (s : State) (_dt pad width a : Nat) => Config.msec 100 ≤ width ∧ width ≤ Config.sec 2 ∧ a < axesOf s.variant ∧ s.parN (Par.resetPad a) = pad + 1) (safes 2 0) 4 6 (Config.msec 500) 0)
    ∧ ((fun (s u : State) (dt a : Nat) (ia ib : ChanIn) => (s.tick dt).atCycleStart = true ∧ s.safe.nextMs ≤ s.tm.cycleStart.toNat / Config.msec 1 ∧ s.safe.resets = [a] ∧ u = ((s.safeStart dt).chanCycle (s.safeStart dt) .a ia).chanCycle (s.safeStart dt) .b ib ∧ u.resetOk a = true) (let s := safes 2 0; { s with safe := { s.safe with resets := [0] } }) (let s := safes 2 0; let u := State.safeStart ({ s with safe := { s.safe with resets := [0] } } : State) 4; (u.chanCycle u .a ⟨[], true⟩).chanCycle u .b ⟨[], true⟩) 4 0 ⟨[], true⟩ ⟨[], true⟩)
    ∧ ((fun (s u : State) (dt a : Nat) (ia ib : ChanIn) => (s.tick dt).atCycleStart = true ∧ s.safe.nextMs ≤ s.tm.cycleStart.toNat / Config.msec 1 ∧ s.safe.resets = [a] ∧ u = ((s.safeStart dt).chanCycle (s.safeStart dt) .a ia).chanCycle (s.safeStart dt) .b ib ∧ u.resetOk a = false) (let s := safes 3 0; { s with safe := { s.safe with resets := [0] } }) (let s := safes 3 0; let u := State.safeStart ({ s with safe := { s.safe with resets := [0] } } : State) 4; (u.chanCycle u .a ⟨[], true⟩).chanCycle u .b ⟨[], true⟩) 4 0 ⟨[], true⟩ ⟨[], true⟩)
    ∧ ((fun (_s : State) (_dt _pad width : Nat) => (width < Config.msec 100 ∨ Config.sec 2 < width)) (safes 2 0) 4 6 (Config.msec 50))
    ∧ ((fun (s : State) (_dt : Nat) (acc : Access) (a : Nat) (val : Word) => a < 2 ∧ Admitted s acc (Reg.SAFE_AX_CTRL a) .osf ∧ val.getLsbD 0 = true ∧ s.safeVal Reg.SAFE_IN_CFG Fld.SAFE_IN_CFG_REMOTE_RST = 1) (safes 2 0) 4 asSafety 1 1)
    ∧ ((fun (s : State) (_dt : Nat) (acc : Access) (a : Nat) (val : Word) => a < 2 ∧ Admitted s acc (Reg.SAFE_AX_CTRL a) .osf ∧ val.getLsbD 0 = true ∧ s.safeVal Reg.SAFE_IN_CFG Fld.SAFE_IN_CFG_REMOTE_RST = 0) ((safes 2 0).wr Reg.SAFE_IN_CFG 0) 4 asSafety 1 1)
    ∧ ((fun (s : State) (_dt pad held : Nat) => Config.msec 1 ≤ held ∧ pad % 8 / 4 < axesOf s.variant) (safes 2 1) 4 5 (Config.msec 1))
    ∧ ((fun (s : State) (dt : Nat) (side : Side) (a : Nat) => a < 2 ∧ s.chState side = 0 ∧ (s.tick dt).lasted (s.axis side a).holdAt (Config.msec (10 * s.safeVal (Reg.SAFE_AX_SS1 a) Fld.SAFE_AX_SS1_STO_HOLD)) = true) ((safes 0 1).setAxis .b 0 { Axis.reset with sto := true, brk := true, holdAt := some 0 }) (Config.msec 500) .b 0)
    ∧ ((fun (_s : State) (_dt a : Nat) => a < 2) (safes 2 2) (Config.msec 400) 0) := by
  and_intros <;> decide +kernel

theorem test_wit_safety_command_rows :
    ((fun (s : State) (_dt : Nat) (acc : Access) (val : Word) => Admitted s acc Reg.SAFE_CTRL .safe ∧ val.getLsbD 1 = true ∧ val.getLsbD 0 = false ∧ (∀ x ∈ [Side.a, Side.b], 100 ≤ (s.chan x).agree)) (((safes 4 0).setChan .a { Chan.reset with agree := 100 }).setChan .b { Chan.reset with agree := 120 }) 4 asSafety 2)
    ∧ ((fun (s : State) (_dt : Nat) (acc : Access) (val : Word) (x : Side) => Admitted s acc Reg.SAFE_CTRL .safe ∧ val.getLsbD 1 = true ∧ val.getLsbD 0 = false ∧ (s.chan x).agree < 100) (safes 4 0) 4 asSafety 2 .a)
    ∧ ((fun (s : State) (_dt : Nat) (acc : Access) (val : Word) => Admitted s acc Reg.SAFE_CTRL .safe ∧ val.getLsbD 0 = true ∧ val.getLsbD 1 = false ∧ s.axesOff = true) (safes 2 0) 4 asSafety 1)
    ∧ ((fun (s : State) (_dt : Nat) (acc : Access) (val : Word) => Admitted s acc Reg.SAFE_CTRL .safe ∧ val.getLsbD 0 = true ∧ val.getLsbD 1 = false ∧ s.axesOff = false) (safes 2 1) 4 asSafety 1)
    ∧ ((fun (s : State) (_dt : Nat) (acc : Access) (val : Word) => Admitted s acc Reg.SAFE_CONFIRM .safe ∧ (∀ x ∈ [Side.a, Side.b], s.checkRun x = val ∧ (s.chState x = 1 ∨ s.chState x = 2)) ∧ s.contextsIdle = true) ((safes 2 0).wr Reg.SAFE_CHECK_RUN 0 |>.setF Reg.IMG_STAT Fld.IMG_STAT_SAFETY_UNCONF 1) 4 asSafety 0)
    ∧ ((fun (s : State) (_dt : Nat) (acc : Access) (val : Word) (x : Side) => Admitted s acc Reg.SAFE_CONFIRM .safe ∧ (s.checkRun x ≠ val ∨ s.chState x ≠ 1 ∧ s.chState x ≠ 2)) (safes 2 0) 4 asSafety 1 .b)
    ∧ ((fun (s : State) (_dt : Nat) (acc : Access) (val : Word) (n : Nat) => n < 8 ∧ val = BitVec.twoPow 32 n ∧ Admitted s acc Reg.SAFE_FB_ACK .osf ∧ ((s.fld Reg.SAFE_FB_STAT Fld.SAFE_FB_STAT_WELD).testBit n = true → acc.role = .service) ∧ s.poleDiffers (2 * n) = false ∧ s.poleDiffers (2 * n + 1) = false) ((safes 2 0).wr Reg.SAFE_FB_STAT 0x02020000) 4 asService 2 1)
    ∧ ((fun (s : State) (_dt : Nat) (acc : Access) (val : Word) (n : Nat) => n < 8 ∧ val = BitVec.twoPow 32 n ∧ Admitted s acc Reg.SAFE_FB_ACK .osf ∧ (s.fld Reg.SAFE_FB_STAT Fld.SAFE_FB_STAT_WELD).testBit n = true ∧ acc.role ≠ .service ∨ s.poleDiffers (2 * n) = true) ((safes 2 0).wr Reg.SAFE_FB_STAT 0x02020000) 4 asOperator 2 1)
    ∧ ((fun (s : State) (dt pole n : Nat) => pole < 16 ∧ pole / 2 = n ∧ SessionRuns s n ∧ s.poleDiffers pole = true ∧ s.channels ≠ [] ∧ (s.tick dt).lastedIn s.safe.poleAt pole (Config.msec (10 * s.safeVal Reg.SAFE_IN_CFG Fld.SAFE_IN_CFG_FB_DISC)) = true ∧ (s.fld Reg.SAFE_FB_STAT Fld.SAFE_FB_STAT_FAULT).testBit n = false) (let s := (outl 7 2).setF (Reg.OUTL_O_STAT 1) Fld.OUTL_O_STAT_FB_P 1 |>.setCh .a 2 |>.wr Reg.SAFE_IN_CFG 0x0A140000; { s with safe := { s.safe with poleAt := [(2, 1)] } }) (Config.msec 201) 2 1)
    ∧ ((fun (s : State) (_dt k : Nat) (bytes : List Byte) (x : Side) => k < 16 ∧ s.connRx k = true ∧ s.chState x ≠ 0 ∧ s.frameOk x k bytes = true ∧ (s.conn x k).got = true ∧ 1 ≤ (leNat ((bytes.drop 2).take 2) + 65536 - s.fld (sideAddr x (Reg.SAFE_CONN_STAT k)) Fld.SAFE_CONN_STAT_SEQ) % 65536 ∧ (leNat ((bytes.drop 2).take 2) + 65536 - s.fld (sideAddr x (Reg.SAFE_CONN_STAT k)) Fld.SAFE_CONN_STAT_SEQ) % 65536 ≤ 16) (safeConn 3 9) 4 2 (rxFrame 3 12 1) .a)
    ∧ ((fun (s : State) (_dt k : Nat) (bytes : List Byte) (x : Side) => k < 16 ∧ s.connRx k = true ∧ s.chState x ≠ 0 ∧ s.frameOk x k bytes = true ∧ (s.conn x k).got = true ∧ leNat ((bytes.drop 2).take 2) = s.fld (sideAddr x (Reg.SAFE_CONN_STAT k)) Fld.SAFE_CONN_STAT_SEQ) (safeConn 2 12) 4 2 (rxFrame 3 12 1) .b)
    ∧ ((fun (s : State) (_dt k : Nat) (bytes : List Byte) (x : Side) => k < 16 ∧ s.connRx k = true ∧ s.chState x ≠ 0 ∧ s.frameOk x k bytes = false) (safeConn 2 9) 4 2 (rxFrame 4 12 1) .b)
    ∧ ((fun (s : State) (_dt k : Nat) (bytes : List Byte) (x : Side) => k < 16 ∧ s.connRx k = true ∧ s.chState x ≠ 0 ∧ s.frameOk x k bytes = true ∧ (s.conn x k).got = true ∧ 16 < (leNat ((bytes.drop 2).take 2) + 65536 - s.fld (sideAddr x (Reg.SAFE_CONN_STAT k)) Fld.SAFE_CONN_STAT_SEQ) % 65536) (safeConn 2 40) 4 2 (rxFrame 3 12 1) .b)
    ∧ ((fun (s : State) (dt k : Nat) => k < 16 ∧ s.connUsed k = true ∧ s.parN (Par.connDir k) = 0 ∧ (∀ x ∈ [Side.a, Side.b], s.chState x ≠ 0) ∧ (s.conn .a k).got = false ∨ Config.msec (s.parN (Par.connPeriod k)) ≤ (s.tick dt).since (s.conn .a k).txAt ∧ s.parN (Par.connCan k) = 0 ∧ s.txHead .a k ((s.fld (Reg.SAFE_CONN_STAT k) Fld.SAFE_CONN_STAT_SEQ + 1) % 65536) = s.txHead .b k ((s.fld (Reg.SAFE_CONN_STAT k) Fld.SAFE_CONN_STAT_SEQ + 1) % 65536)) (safeConn 2 9) (Config.msec 4) 5)
    ∧ ((fun (s : State) (dt k : Nat) => k < 16 ∧ s.connUsed k = true ∧ s.parN (Par.connDir k) = 0 ∧ (∀ x ∈ [Side.a, Side.b], s.chState x ≠ 0) ∧ (s.conn .a k).got = false ∨ Config.msec (s.parN (Par.connPeriod k)) ≤ (s.tick dt).since (s.conn .a k).txAt ∧ s.txHead .a k ((s.fld (Reg.SAFE_CONN_STAT k) Fld.SAFE_CONN_STAT_SEQ + 1) % 65536) ≠ s.txHead .b k ((s.fld (Reg.SAFE_CONN_STAT k) Fld.SAFE_CONN_STAT_SEQ + 1) % 65536)) ((safeConn 2 9).setAxF .b 0 Fld.SAFE_AX_STAT_STATE 2) (Config.msec 4) 5)
    ∧ ((fun (s : State) (dt k : Nat) (x : Side) => k < 16 ∧ s.connRx k = true ∧ s.chState x ≠ 0 ∧ (s.connState x k = 1 ∨ s.connState x k = 2) ∧ Config.msec (s.parN (Par.connWd k)) ≤ (s.tick dt).since (s.conn x k).last) (safeConn 2 9) (Config.msec 12) 2 .b)
    ∧ ((fun (s : State) (_dt : Nat) (acc : Access) (val : Word) => Admitted s acc Reg.SAFE_CLR .osf ∧ val.getLsbD 0 = true) ((safeConn 2 9).wr Reg.SAFE_CNT 0x01020304) 4 asSafety 1) := by
  and_intros <;> decide +kernel

theorem test_wit_measurement_rows :
    ((fun (s : State) (_dt : Nat) (_codes : List Int) (c : Nat) => s.dieRuns = true ∧ s.metr.newMap = none ∧ s.metr.rws = [] ∧ s.metr.stepDue = none ∧ c < 48 ∧ s.dKind c ≠ 0 ∧ s.dKind c ≠ 4) meters 4 [1000, 2000, 3000] 3)
    ∧ ((fun (s : State) (_dt : Nat) (_codes : List Int) (n : Nat) => n < 8 ∧ s.dieRuns = true ∧ s.metr.newMap = none ∧ s.metr.rws = [] ∧ s.metr.timeKnown = false ∧ n + 1 ∈ s.points ∧ s.pointTest (n + 1) = false ∧ (s.sacc n).on = false ∧ (s.bill.mem.mc + 1) % 320 ≠ 0) (let s := meters; let u := (s.setDch 8 { s.dch 8 with gT := 0 }); { u with metr := { u.metr with timeKnown := false } }) 4 (List.replicate 8 0 ++ [8000000, 6000000]) 1)
    ∧ ((fun (s : State) (_dt : Nat) (_codes : List Int) => s.metr.on = true ∧ s.metr.sleep = true) (metersWith fun m => { m with sleep := true }) 4 [7])
    ∧ ((fun (s : State) (_dt : Nat) (moved : List Nat) (c : Nat) => s.dieRuns = true ∧ c < 32 ∧ s.dKind c ≠ 0 ∧ 2097152 < moved.getD c 0) (meters.setDch 9 { meters.dch 9 with fails := 2 }) 4 (List.replicate 9 0 ++ [3000000]) 9)
    ∧ ((fun (s : State) (_dt : Nat) (moved : List Nat) (c : Nat) => s.dieRuns = true ∧ c < 32 ∧ s.dKind c ≠ 0 ∧ moved.getD c 0 ≤ 2097152) (meters.setDch 9 { meters.dch 9 with opened := true, passes := 9 }) 4 [] 9)
    ∧ ((fun (s : State) (_dt n held : Nat) => n < 16 ∧ s.dieRuns = true ∧ s.dKind (32 + n) ≠ 0 ∧ 31250 ≤ held ∧ (s.dch (32 + n)).opened = false) (meters.dwr (Reg.METR_CH_CFG 34) 0x19100000) 4 2 40000)
    ∧ ((fun (s : State) (_dt n held : Nat) => n < 16 ∧ s.dieRuns = true ∧ s.dKind (32 + n) ≠ 0 ∧ Config.msec 1 ≤ held) ((meters.dwr (Reg.METR_CH_CFG 34) 0x19100000).setDch 34 { DieChan.reset with opened := true }) 4 2 (Config.msec 1))
    ∧ ((fun (s : State) (_dt _freq : Nat) => s.dieRuns = true ∧ 0 ∈ s.points ∧ 0 < s.sum (acKey 0 0)) ((((meters.setSum (acKey 0 0) 640).setSum (acKey 1 0) 5290000000000000000000).setSum (acKey 3 0) 64000000000000000)) 4 5001)
    ∧ ((fun (s : State) (_dt c : Nat) => s.dieRuns = true ∧ c < 48 ∧ s.dKind c ≠ 0 ∧ 6400 ≤ (s.dch c).n) (meters.setDch 9 { meters.dch 9 with n := 6400, sq := 640000000, sum := 64000, hi := 30, lo := 1 }) 4 9)
    ∧ ((fun (s : State) (_dt c _thd : Nat) (_ws : List Word) => s.dieRuns = true ∧ hasHarm s.variant = true ∧ s.metr.harmUsed = true ∧ c < 48 ∧ s.dKind c ≠ 0) { meters with metr := { meters.metr with harmUsed := true } } 4 9 123 [5, 6, 7])
    ∧ ((fun (s : State) (_dt src : Nat) (temp : Int) (c : Nat) => src < 49 ∧ s.dieRuns = true ∧ c < 48 ∧ s.dKind c ≠ 0 ∧ s.tempSource c = src ∧ (src = 0 ∨ 3200 ≤ (s.dch (src - 1)).tN ∧ (s.dch (src - 1)).opened = false ∧ (s.dch (src - 1)).temperature = temp ∧ -500 ≤ temp ∧ temp ≤ 2000)) (meters.setDch 20 { DieChan.reset with tN := 3200, tSum := 702080000000000 }) 4 21 (({ DieChan.reset with tN := 3200, tSum := 702080000000000 } : DieChan).temperature) 9)
    ∧ ((fun (s : State) (_dt src : Nat) (_temp : Int) (c : Nat) => 0 < src ∧ src < 49 ∧ s.dieRuns = true ∧ c < 48 ∧ s.dKind c ≠ 0 ∧ s.tempSource c = src ∧ 3200 ≤ (s.dch (src - 1)).tN ∧ (s.dch (src - 1)).opened = true ∨ 2000 < (s.dch (src - 1)).temperature ∧ (s.dch (src - 1)).tempSrc = false) (meters.setDch 20 { DieChan.reset with tN := 3200, opened := true }) 4 21 450 9)
    ∧ ((fun (s : State) (dt c g : Nat) => c < 48 ∧ s.dieRuns = true ∧ s.pointOf c = some g ∧ (s.dch c).pol = false ∧ (s.tick dt).dieLasted (s.dch c).polAt (if 8 ≤ s.dfld (Reg.METR_CH_CFG c) Fld.METR_CH_CFG_GROUP ∧ s.dfld (Reg.METR_CH_CFG c) Fld.METR_CH_CFG_ROLE = 1 then Config.sec 1 else Config.sec 10) = true) (meters.setDch 8 { meters.dch 8 with polAt := some 0 }) (Config.sec 1) 8 2) := by
  and_intros <;> decide +kernel

theorem test_wit_seal_and_record_rows :
    ((fun (s : State) (_dt : Nat) (back : BitVec 16) => s.metr.on = true ∧ s.metr.loop = 0 ∧ 2 ≤ s.metr.loopRun ∧ back ≠ s.metr.lfsr) (metersWith fun m => { m with loopRun := 2, lfsr := 5 }) 4 6)
    ∧ ((fun (s : State) (_dt : Nat) (back : BitVec 16) => s.metr.on = true ∧ s.metr.loop = 0 ∧ back = s.metr.lfsr) (metersWith fun m => { m with loopRun := 2, lfsr := 5 }) 4 5)
    ∧ ((fun (s : State) (_dt : Nat) (back : BitVec 16) => s.metr.on = true ∧ s.metr.loop = 1 ∧ back = s.metr.lfsr) (metersWith fun m => { m with loop := 1, lfsr := 5 }) 4 5)
    ∧ ((fun (s : State) (_dt : Nat) (back : BitVec 16) => s.metr.on = true ∧ s.metr.loop = 2 ∧ back ≠ s.metr.lfsr) (metersWith fun m => { m with loop := 2, loopRun := 7, lfsr := 5 }) 4 6)
    ∧ ((fun (s : State) (_dt : Nat) (back : BitVec 16) => s.metr.on = true ∧ s.metr.loop = 2 ∧ 999 ≤ s.metr.loopRun ∧ back = s.metr.lfsr) (((metersWith fun m => { m with loop := 2, loopRun := 999, lfsr := 5 }).dwr Reg.METR_CAL_CTRL 0x102).dwr Reg.METR_SEAL 0x30000) 4 5)
    ∧ ((fun (s : State) (_dt : Nat) (_back : BitVec 16) => s.metr.on = false) (metersWith fun m => { m with on := false }) 4 5)
    ∧ ((fun (s : State) (_dt n : Nat) => s.img.running = some n ∧ s.dieRuns = true ∧ s.metr.loop = 1) (let s := metersWith fun m => { m with loop := 1 }; { s with img := { s.img with running := some 2 } }) 4 2)
    ∧ ((fun (s : State) (_dt : Nat) => (s.dieRuns = false ∨ s.metr.loop ≠ 1)) meters 4)
    ∧ ((fun (s : State) (_dt c : Nat) (w : Word) => s.dieRuns = true ∧ s.metr.loop = 1 ∧ c < 48 ∧ s.metr.rws = [(Reg.METR_CAL_GAIN c, w)]) (metersWith fun m => { m with loop := 1, rws := [(Reg.METR_CAL_GAIN 9, 77)] }) 4 9 77)
    ∧ ((fun (s : State) (_dt : Nat) => s.dieRuns = true ∧ s.metr.loop ≠ 1) (metersWith fun m => { m with rws := [(Reg.METR_CAL_GAIN 9, 77)] }) 4)
    ∧ ((fun (s : State) (dt : Nat) => s.dieRuns = true ∧ (s.metr.boundary = true ∨ Config.msec 10 ≤ (s.tick dt).sinceLife s.metr.sentAt)) (metersWith fun m => { m with boundary := true, events := [(1, 2, 3)] }) 4)
    ∧ ((fun (s : State) (dt : Nat) => (s.dieRuns = false ∨ s.metr.boundary = false ∧ (s.tick dt).sinceLife s.metr.sentAt < Config.msec 10)) meters 4)
    ∧ ((fun (s : State) (_dt : Nat) (r : DieRec) (rest : List DieRec) => s.metr.outbox = r :: rest ∧ SMap.sorted r.regs = true ∧ (r.events.all fun e => decide (e.2.2.toNat < 0x3000000)) = true) (metersWith fun m => { m with outbox := [⟨400, false, [(Reg.METR_STAT, 7), (Reg.METR_AC_V 1, 2300)], [(5, 6)], runs.alocData, [(Ev.METR_OPEN, 300, evArg 9 0 0)], []⟩] }) 4 ⟨400, false, [(Reg.METR_STAT, 7), (Reg.METR_AC_V 1, 2300)], [(5, 6)], runs.alocData, [(Ev.METR_OPEN, 300, evArg 9 0 0)], []⟩ [])
    ∧ ((fun (s : State) (_dt : Nat) => s.metr.outbox = []) meters 4)
    ∧ ((fun (s : State) (_dt : Nat) (acc : Access) (val : Word) => Admitted s acc Reg.METR_CLR .op ∧ val.getLsbD 0 = true) (meters.wr (Reg.METR_CH_CNT 9) 0x10002) 4 asOperator 1) := by
  and_intros <;> decide +kernel

theorem test_wit_billing_boundary_rows :
    ((fun (s : State) (dt : Nat) => (s.tick dt).takesBoundaries = true ∧ s.demEnd.toNat ≠ 0 ∧ s.demEnd.toNat ≤ (s.tick dt).dieTs.toNat ∧ s.metr.boundary = false) (billsWith fun b => { b with mem := { b.mem with intE := [(2, 9000000)], intNo := 4, regs := SMap.insert (SMap.insert b.mem.regs Reg.BILL_DEM_END_LO 900) (Reg.BILL_DEM_END_LO + 4) 0 } }) 4)
    ∧ ((fun (s : State) (dt : Nat) => (s.tick dt).takesBoundaries = false ∨ s.demEnd.toNat ≠ 0 ∧ (s.tick dt).dieTs.toNat < s.demEnd.toNat) meters 4)
    ∧ ((fun (s : State) (dt : Nat) => (s.tick dt).takesBoundaries = true ∧ (s.bill.calSeen.all fun m => decide (m < (s.tick dt).dieLocal / 60)) = true) (let s := ((meters.dwr (Reg.BILL_DAY 0 0) 0x80000002).dwr (Reg.BILL_SPECIAL 3) 0xFF010101); { s with metr := { s.metr with markTs := 9000000000000000 }, bill := { s.bill with calSeen := some 3 } }) 4)
    ∧ ((fun (s : State) (dt m : Nat) => s.bill.calSeen = some m ∧ (s.tick dt).dieLocal / 60 ≤ m) (billsWith fun b => { b with calSeen := some 99999999999 }) 4 99999999999)
    ∧ ((fun (s : State) (dt : Nat) => (s.tick dt).takesBoundaries = true ∧ s.metr.boundary = false ∧ (s.tick dt).closeOk ((s.tick dt).dieLocal / 86400) = true ∧ s.bill.resetAt = some ((s.tick dt).dieTs.toNat / Config.sec 1)) (billsWith fun b => { b with resetAt := some 0, mem := { b.mem with period := 6, regs := SMap.insert b.mem.regs (Reg.BILL_E 2 52) 7000 } }) 4)
    ∧ ((fun (s : State) (dt n : Nat) (at0 : Count) (rest : List (Nat × Bool × Count)) => (s.tick dt).takesBoundaries = true ∧ n < 8 ∧ s.outl.toMeter = (n, true, at0) :: rest ∧ at0.toNat ≤ (s.tick dt).dieTs.toNat ∧ (s.sacc n).on = false) (sessInstant true false) 4 1 3000 [])
    ∧ ((fun (s : State) (dt n : Nat) (at0 : Count) (rest : List (Nat × Bool × Count)) => (s.tick dt).takesBoundaries = true ∧ n < 8 ∧ s.outl.toMeter = (n, true, at0) :: rest ∧ at0.toNat ≤ (s.tick dt).dieTs.toNat ∧ (s.sacc n).on = true ∧ s.bill.mem.sessRecs.length < 8192) (sessInstant true true) 4 1 3000 [])
    ∧ ((fun (s : State) (dt n : Nat) (at0 : Count) (rest : List (Nat × Bool × Count)) => (s.tick dt).takesBoundaries = true ∧ n < 8 ∧ s.outl.toMeter = (n, false, at0) :: rest ∧ at0.toNat ≤ (s.tick dt).dieTs.toNat ∧ (s.sacc n).on = true ∧ s.bill.mem.sessRecs.length < 8192) (sessInstant false true) 4 1 3000 [])
    ∧ ((fun (s : State) (_dt k : Nat) (rest : List Nat) => s.dieRuns = true ∧ s.bill.mem.unsigned = k :: rest ∧ (s.bill.mem.sessRecs.any fun e => e.1 == k) = true) (billsWith fun b => { b with mem := { b.mem with unsigned := [5, 6], sessRecs := [(5, List.replicate 384 1), (6, [])] } }) 4 5 [6])
    ∧ ((fun (s : State) (_dt : Nat) => s.dieRuns = true ∧ s.bill.savedMc + 3200 ≤ s.bill.mem.mc) (billsWith fun b => { b with mem := { b.mem with mc := 3200 } }) 4)
    ∧ ((fun (s : State) (_dt : Nat) => (s.dieRuns = false ∨ s.bill.mem.mc < s.bill.savedMc + 3200)) meters 4)
    ∧ ((fun (s : State) (dt : Nat) (l : DieLine) => (s.tick dt).takesBoundaries = true ∧ s.metr.stepDue = some l) (metersWith fun m => { m with stepDue := some ⟨99000000000, 3, 37, 60⟩ }) 4 ⟨99000000000, 3, 37, 60⟩)
    ∧ ((fun (s : State) (dt : Nat) => (s.tick dt).takesBoundaries = false ∨ s.metr.stepDue = none) meters 4) := by
  and_intros <;> decide +kernel

theorem test_wit_billing_power_rows :
    ((fun (s : State) (_dt : Nat) => s.metr.on = true) meters 4)
    ∧ ((fun (s : State) (_dt : Nat) => s.metr.on = true) (billsWith fun b => { b with saved := { b.mem with regs := [(Reg.BILL_E 0 0, 5)], intNo := 9 } }) 4)
    ∧ ((fun (s : State) (_dt : Nat) (_flushed : Bool) => s.metr.on = false) (metersWith fun m => { m with on := false }) 4 true)
    ∧ ((fun (s : State) (_dt : Nat) (_holdupOk : Bool) => s.metr.on = false ∧ s.bill.flushOk = true ∧ s.bill.savedOk = true ∧ s.bill.saved2Ok = true ∧ s.bill.mem.sessRecs.length < 8185 ∧ s.bill.mem.intRecs.length < 43200) (let s := billsWith fun b => { b with flushOk := true }; { s.setSacc 1 { SessAcc.reset with on := true } with metr := { s.metr with on := false } }) 4 true)
    ∧ ((fun (s : State) (_dt : Nat) => s.metr.on = false ∧ s.bill.flushOk = false) (metersWith fun m => { m with on := false }) 4)
    ∧ ((fun (s : State) (_dt : Nat) (m : DieMem) => s.metr.on = false ∧ s.bill.flushOk = true ∧ s.bill.savedOk = false ∧ s.bill.saved2Ok = false ∧ m = (if s.bill.saved.totalImport < s.bill.saved2.totalImport then s.bill.saved2 else s.bill.saved) ∧ m.sessRecs.length < 8185 ∧ m.intRecs.length < 43200) (let s := billsWith fun b => { b with flushOk := true, savedOk := false, saved2Ok := false, saved := { b.mem with regs := SMap.insert b.mem.regs (Reg.BILL_E 0 0) 5 }, saved2 := { b.mem with regs := SMap.insert b.mem.regs (Reg.BILL_E 0 0) 7 } }; { s with metr := { s.metr with on := false } }) 4 (let b := meters.bill; { b.mem with regs := SMap.insert b.mem.regs (Reg.BILL_E 0 0) 7 }))
    ∧ ((fun (s : State) (_dt : Nat) => s.metr.on = true) meters 4)
    ∧ ((fun (s : State) (_dt : Nat) => s.metr.on = true ∧ s.bill.savedOk = true ∧ s.bill.saved2Ok = true) (billsWith fun b => { b with saved := { b.mem with regs := SMap.insert b.mem.regs (Reg.BILL_E 0 0) 5 }, saved2 := { b.mem with regs := SMap.insert b.mem.regs (Reg.BILL_E 0 0) 5 } }) 4) := by
  and_intros <;> decide +kernel

theorem test_wit_billing_readout_rows :
    ((fun (s : State) (_dt : Nat) (acc : Access) (val : Word) => Admitted s acc Reg.BILL_CTRL .svc ∧ val.getLsbD 0 = true ∧ s.dieRuns = true ∧ (s.bill.resetMc.all fun c => decide (c + 2764800000 ≤ s.bill.mem.mc)) = true) meters 4 asService 1)
    ∧ ((fun (s : State) (_dt : Nat) (acc : Access) (val : Word) => Admitted s acc Reg.BILL_CTRL .svc ∧ val.getLsbD 0 = true ∧ (s.dieRuns = false ∨ (s.bill.resetMc.any fun c => decide (s.bill.mem.mc < c + 2764800000)) = true)) (billsWith fun b => { b with resetMc := some 0, mem := { b.mem with mc := 2764799999 } }) 4 asService 1)
    ∧ ((fun (s : State) (dt addr : Nat) (w : Word) (at0 : Count) => s.dieRuns = true ∧ s.bill.due = [(addr, w, at0)] ∧ at0.toNat / Config.sec 1 < (s.tick dt).dieTs.toNat / Config.sec 1 ∧ calendarReg addr = true ∧ s.drd addr ≠ w) (let s := billsWith fun b => { b with due := [(Reg.BILL_DAY 4 2, 0x80050003, 0)] }; { s with metr := { s.metr with markTs := 8000000000 } }) 4 (Reg.BILL_DAY 4 2) 0x80050003 0)
    ∧ ((fun (s : State) (dt addr : Nat) (w : Word) (at0 : Count) => s.dieRuns = true ∧ s.bill.due = [(addr, w, at0)] ∧ at0.toNat / Config.sec 1 < (s.tick dt).dieTs.toNat / Config.sec 1 ∧ s.drd addr = w) (let s := billsWith fun b => { b with due := [(Reg.BILL_DAY 4 2, 0, 0)] }; { s with metr := { s.metr with markTs := 8000000000 } }) 4 (Reg.BILL_DAY 4 2) 0 0)
    ∧ ((fun (s : State) (_dt : Nat) (acc : Access) (_val : Word) => Admitted s acc Reg.BILL_REC_SEL .all ∧ s.openOf acc = none) meters 4 asReader 0x40000003)
    ∧ ((fun (s : State) (_dt : Nat) (p : Path) (sel : Nat) (at0 : Count) (bs : List Byte) => s.dieRuns = true ∧ SMap.get (fun _ => none) s.bill.reqs p.code = some (sel, at0) ∧ s.billRecord sel = some bs ∧ bs.length ≤ 0x800) (billsWith fun b => { b with reqs := [(Path.mgmt.code, some (0x40000003, 0))], mem := { b.mem with intRecs := [(3, [9, 8, 7])] } }) 4 .mgmt 0x40000003 0 [9, 8, 7])
    ∧ ((fun (s : State) (_dt : Nat) (p : Path) (sel : Nat) (at0 : Count) => s.dieRuns = true ∧ SMap.get (fun _ => none) s.bill.reqs p.code = some (sel, at0) ∧ s.billRecord sel = none) (billsWith fun b => { b with reqs := [(Path.mgmt.code, some (0x40000003, 0))] }) 4 .mgmt 0x40000003 0)
    ∧ ((fun (s : State) (dt n : Nat) => n < 8 ∧ s.metr.on = true ∧ s.metr.sleep = false ∧ Config.msec 250 ≤ (s.tick dt).sinceLife (s.disp n).frameAt) meters (Config.msec 250) 2)
    ∧ ((fun (s : State) (_dt n held : Nat) => n < 8 ∧ s.metr.on = true ∧ Config.sec 2 ≤ held ∧ (s.disp n).state ≠ 4) meters 4 2 (Config.sec 2))
    ∧ ((fun (s : State) (_dt n held : Nat) => n < 8 ∧ s.metr.on = true ∧ held < Config.sec 1 ∧ (s.disp n).state < 3) meters 4 2 (Config.msec 300))
    ∧ ((fun (s : State) (_dt n held : Nat) => n < 8 ∧ s.metr.on = true ∧ held < Config.sec 1 ∧ (s.disp n).state = 3) (meters.setDisp 2 { Disp.reset with state := 3, pos := 1 }) 4 2 (Config.msec 300))
    ∧ ((fun (s : State) (dt n : Nat) => n < 8 ∧ s.metr.on = true ∧ (s.disp n).state = 2 ∧ Config.sec 120 ≤ (s.tick dt).sinceLife (s.disp n).since ∨ (s.disp n).state = 3 ∧ Config.sec 30 ≤ (s.tick dt).sinceLife (s.disp n).since ∨ (s.disp n).state = 4 ∧ Config.sec 10 ≤ (s.tick dt).sinceLife (s.disp n).since) (meters.setDisp 2 { Disp.reset with state := 3, back := 1 }) (Config.sec 30) 2) := by
  and_intros <;> decide +kernel

theorem test_wit_acquisition_rows :
    ((fun (s : State) (_dt : Nat) (acc : Access) (n : Nat) (_val : Word) => n < 16 ∧ Admitted s acc (Reg.ACQ_E_CTRL n) .op) (acqs id) 4 asOperator 3 1)
    ∧ ((fun (s : State) (_dt : Nat) (acc : Access) (_val : Word) (n : Nat) => n < enginesOf s.variant ∧ Admitted s acc Reg.ACQ_CMD_ALL .op) (acqs id) 4 asOperator 0x00080009 3)
    ∧ ((fun (s : State) (_dt : Nat) (acc : Access) (n : Nat) (_val : Word) => n < 16 ∧ Admitted s acc (Reg.ACQ_E_CTRL n) .op) (acqs id) 4 asOperator 3 2)
    ∧ ((fun (s : State) (_dt : Nat) (acc : Access) (n : Nat) (_val : Word) => n < 16 ∧ Admitted s acc (Reg.ACQ_E_CTRL n) .op) (acqs id) 4 asOperator 3 4)
    ∧ ((fun (s : State) (_dt : Nat) (acc : Access) (_val : Word) (n : Nat) => n < enginesOf s.variant ∧ Admitted s acc Reg.ACQ_CMD_ALL .op) (acqs id) 4 asOperator 0x00080009 3)
    ∧ ((fun (s : State) (_dt : Nat) (acc : Access) (n : Nat) (_val : Word) => n < 16 ∧ Admitted s acc (Reg.ACQ_E_CTRL n) .op) (acqs id) 4 asOperator 3 8)
    ∧ ((fun (s : State) (dt n : Nat) (_digital : List Nat) (_edges : List (Nat × Bool × Count)) (x : Side) => n < enginesOf s.variant ∧ n < 16 ∧ s.engSide x = true ∧ (s.tick dt).sampleDue (s.eng x n) = true) (acqsFast fun e => { e with next := 9 }) 4 3 [] [] .b)
    ∧ ((fun (s : State) (dt n : Nat) (_digital : List Nat) (_edges : List (Nat × Bool × Count)) (x : Side) (u : Nat) (ts mono bus : Count) => n < enginesOf s.variant ∧ n < 16 ∧ s.engSide x = true ∧ s.rateKept x = false ∧ (s.tick dt).sampleDue (s.eng x n) = true ∧ (s.eng x n).state = 1 ∧ (s.eng x n).buf = [] ∧ s.unitsOn (s.eng x n) = [u] ∧ fget Fld.ACQ_E_TU_KIND (s.unitWord (s.eng x n) u) = 7 ∧ fget Fld.ACQ_E_CFG_COMBINE ((s.eng x n).setting 0x08) = 0 ∧ (s.eng x n).waiting u = some ⟨u, ts, mono, bus⟩) (acqsFast fun e => { e with next := 9, fires := [⟨0, 700, 700, 0⟩] }) 4 3 [] [] .b 0 700 700 0)
    ∧ ((fun (s : State) (dt n : Nat) (_digital : List Nat) (_edges : List (Nat × Bool × Count)) => (∀ x ∈ [Side.a, Side.b], s.engSide x = false ∨ (s.tick dt).sampleDue (s.eng x n) = false)) (acqs fun e => { e with state := 0 }) 4 3 [] [])
    ∧ ((fun (s : State) (dt n : Nat) (x : Side) (u : Nat) => n < 16 ∧ s.engSide x = true ∧ (s.unitsOn (s.eng x n)).find? (fun u => fget Fld.ACQ_E_TU_KIND (s.unitWord (s.eng x n) u) == 7) = some u ∧ 1 ≤ (s.eng x n).state ∧ (s.eng x n).state ≤ 3 ∧ (s.eng x n).timeDone = false ∧ (s.eng x n).waiting u = none ∧ ((s.eng x n).setting 0x24 ++ (s.eng x n).setting 0x20 : Count).toNat ≤ (s.tick dt).tm.ts.toNat ∧ (s.eng x n).armTs.toNat < ((s.eng x n).setting 0x24 ++ (s.eng x n).setting 0x20 : Count).toNat) (acqs id) 4 3 .a 0)
    ∧ ((fun (s : State) (dt n : Nat) (x : Side) => n < 16 ∧ s.engSide x = true ∧ 0 < (s.eng x n).seqPos ∧ 0 < (s.eng x n).interval (seqUnit (s.unitsOn (s.eng x n)) (s.eng x n).seqPos) ∧ (s.eng x n).interval (seqUnit (s.unitsOn (s.eng x n)) (s.eng x n).seqPos) < (s.tick dt).since (s.eng x n).seqAt) (acqs fun e => { e with cfg := SMap.put (fun _ => 0) e.cfg 0x28 0x02020202, seqPos := 1, seqAt := 5 }) (Config.msec 1) 3 .a)
    ∧ ((fun (s : State) (dt n : Nat) (x : Side) => n < 16 ∧ s.engSide x = true ∧ (s.eng x n).state = 3 ∧ Config.msec (fget Fld.ACQ_E_CFG_HOLDOFF ((s.eng x n).setting 0x08)) ≤ (s.tick dt).since (s.eng x n).heldAt) (acqs fun e => { e with state := 3, heldAt := 0, cfg := [(0x08, 0x01010002)] }) (Config.msec 2) 3 .a)
    ∧ ((fun (s : State) (_dt : Nat) (acc : Access) (_val : Word) => Admitted s acc Reg.ACQ_RD_SEL .all ∧ s.openOf acc = none) (acqs id) 4 asReader 0x30000007)
    ∧ ((fun (s : State) (_dt : Nat) (p : Path) (at0 : Count) (no : Nat) (bs : List Byte) (n : Nat) => SMap.get (fun _ => none) s.acq.reqs p.code = some at0 ∧ fget Fld.ACQ_RD_SEL_ENGINE (s.prd p Reg.ACQ_RD_SEL) = n ∧ fget Fld.ACQ_RD_SEL_RECORD (s.prd p Reg.ACQ_RD_SEL) = no ∧ (s.eng (s.viewed p) n).recs.find? (fun r => r.1 == no) = some (no, bs) ∧ bs.length < 0x10000000) (let s := acqs fun e => { e with recs := [(7, [3, 2, 1])] }; { s.pwr .mgmt Reg.ACQ_RD_SEL 0x30000007 with acq := { s.acq with reqs := [(Path.mgmt.code, some 0)] } }) 4 .mgmt 0 7 [3, 2, 1] 3)
    ∧ ((fun (s : State) (_dt : Nat) (p : Path) (at0 : Count) => SMap.get (fun _ => none) s.acq.reqs p.code = some at0 ∧ s.acqRecord (s.viewed p) (fget Fld.ACQ_RD_SEL_ENGINE (s.prd p Reg.ACQ_RD_SEL)) (fget Fld.ACQ_RD_SEL_RECORD (s.prd p Reg.ACQ_RD_SEL)) = none) (let s := acqs id; { s with acq := { s.acq with reqs := [(Path.mgmt.code, some 0)] } }) 4 .mgmt 0)
    ∧ ((fun (s : State) (_dt : Nat) (acc : Access) (val : Word) => Admitted s acc Reg.ACQ_CLR .op ∧ val.getLsbD 0 = true) ((acqs id).wr (Reg.ACQ_E_CNT 3) 5) 4 asOperator 1) := by
  and_intros <;> decide +kernel

theorem test_wit_bus_transmit_rows :
    ((fun (s : State) (_dt : Nat) (acc : Access) (k p : Nat) (val : Word) (m : CanMsg) (b : Nat) (x : Side) => k < 4 ∧ p < 16 ∧ Admitted s acc (Reg.CAN_PORT_SEND k p) .op ∧ s.hostPort k p = true ∧ m = s.staged k p (fget Fld.CAN_PORT_SEND_LEN val) ∧ fget Fld.CAN_PORT_SEND_LEN val ≤ 2048 ∧ lenOk m.fmt (fget Fld.CAN_PORT_SEND_LEN val) = true ∧ m.fmt ≤ s.fld (Reg.CAN_CFG k) Fld.CAN_CFG_FORMAT ∧ s.engSide x = true ∧ ((s.canServing k).chooseBuf p (s.portCfg k p Fld.CAN_PORT_CFG_SEL == 1) (fget Fld.CAN_PORT_SEND_BUF val) m).isSome = true ∧ (s.canEng x k).chooseBuf p (s.portCfg k p Fld.CAN_PORT_CFG_SEL == 1) (fget Fld.CAN_PORT_SEND_BUF val) m = some b) (cans 1) 4 asOperator 1 2 8 ⟨0x123, false, 0, false, List.replicate 8 0⟩ 0 .b)
    ∧ ((fun (s : State) (_dt : Nat) (acc : Access) (k p : Nat) (val : Word) => k < 4 ∧ p < 16 ∧ Admitted s acc (Reg.CAN_PORT_SEND k p) .op ∧ s.hostPort k p = true ∧ lenOk (s.staged k p 0).fmt (fget Fld.CAN_PORT_SEND_LEN val) = false) (cans 1) 4 asOperator 1 2 9)
    ∧ ((fun (s : State) (dt k p : Nat) (x : Side) (m : CanMsg) (n : Nat) => k < cansOf s.variant ∧ p < 16 ∧ s.portCfg k p Fld.CAN_PORT_CFG_MODE = 1 ∧ s.canMode k = 1 ∧ (s.tick dt).atCycleStart = true ∧ (s.tick dt).tm.mono.toNat / Config.msec (max 1 (s.portCfg k p Fld.CAN_PORT_CFG_PERIOD)) = n ∧ SMap.get (fun _ => 0) s.can.ticks (k * 16 + p) < n ∧ s.engSide x = true ∧ ((s.canServing k).buf p 0).msg.isSome = true ∧ ((s.canServing k).buf p 0).state ≠ 2 ∧ ((s.canEng x k).buf p 0).msg = some m ∧ ((s.canEng x k).buf p 0).state = 0) (cansPeriodic 1) 4 1 2 .a ⟨0x123, false, 0, false, [1]⟩ 1)
    ∧ ((fun (s : State) (dt k p n : Nat) => k < cansOf s.variant ∧ p < 16 ∧ s.portCfg k p Fld.CAN_PORT_CFG_MODE = 1 ∧ s.canMode k = 2 ∧ (s.tick dt).atCycleStart = true ∧ (s.tick dt).tm.mono.toNat / Config.msec (max 1 (s.portCfg k p Fld.CAN_PORT_CFG_PERIOD)) = n ∧ SMap.get (fun _ => 0) s.can.ticks (k * 16 + p) < n) (cansPeriodic 2) 4 1 2 1)
    ∧ ((fun (s : State) (_dt k : Nat) (m : CanMsg) (_sof : Count) (x : Side) (h : CanEntry) (r : List CanEntry) => k < cansOf s.variant ∧ s.canMode k = 1 ∧ s.engSide x = true ∧ s.engSide s.serving = true ∧ (s.canEng x k).queue = h :: r ∧ (s.canServing k).queue.head? = some h ∧ h.msg = m ∧ h.port < 16 ∧ h.buf < 3) (cansQueued 1) 4 1 ⟨0x123, false, 0, false, [1]⟩ 7 .b ⟨2, 0, ⟨0x123, false, 0, false, [1]⟩, 5⟩ [⟨2, 1, ⟨0x124, false, 0, false, [1]⟩, 5⟩])
    ∧ ((fun (s : State) (_dt k : Nat) (m : CanMsg) (_sof : Count) (x : Side) (pre : List CanEntry) (h : CanEntry) (r : List CanEntry) => k < cansOf s.variant ∧ s.canMode k = 1 ∧ (s.side x).state = .standby ∧ (s.canEng x k).queue = pre ++ h :: r ∧ pre ≠ [] ∧ h.msg = m ∧ (pre.all fun q => q.msg != m) = true) (cansQueued 1) 4 1 ⟨0x124, false, 0, false, [1]⟩ 7 .b [⟨2, 0, ⟨0x123, false, 0, false, [1]⟩, 5⟩] ⟨2, 1, ⟨0x124, false, 0, false, [1]⟩, 5⟩ [])
    ∧ ((fun (s : State) (_dt : Nat) (acc : Access) (k : Nat) (_wire : Bool) => k < 4 ∧ Admitted s acc (Reg.CAN_CTRL k) .op ∧ s.canMode k ≠ 0 ∧ s.canMode k ≠ 4) (cansQueued 1) 4 asOperator 1 false)
    ∧ ((fun (s : State) (_dt : Nat) (acc : Access) (k : Nat) (_wire : Bool) => k < 4 ∧ Admitted s acc (Reg.CAN_CTRL k) .op ∧ s.canMode k = 4) (cansQueued 4) 4 asOperator 1 false)
    ∧ ((fun (s : State) (_dt : Nat) (acc : Access) (k : Nat) (_wire : Bool) => k < 4 ∧ Admitted s acc (Reg.CAN_CTRL k) .op ∧ s.canMode k = 1 ∧ (s.can.sleepReq.any fun e => e.1 == k) = false) (cansQueued 1) 4 asOperator 1 false)
    ∧ ((fun (s : State) (_dt k : Nat) => k < 4 ∧ (s.can.sleepReq.any fun e => e.1 == k) = true ∧ (s.canServing k).queue = [] ∧ ((s.canServing k).bufs.all fun b => b.2.state != 1) = true) { cans 1 with can := { (cans 1).can with sleepReq := [(1, 0)] } } 4 1)
    ∧ ((fun (s : State) (dt k : Nat) => k < 4 ∧ (s.tick dt).lastedIn s.can.sleepReq k (Config.msec 100) = true ∧ (s.canServing k).queue ≠ []) { cansQueued 1 with can := { (cansQueued 1).can with sleepReq := [(1, 0)] } } (Config.msec 101) 1)
    ∧ ((fun (s : State) (_dt : Nat) (acc : Access) (k : Nat) (val : Word) => k < 4 ∧ Admitted s acc (Reg.CAN_CLR k) .op ∧ val.getLsbD 0 = true) (cansQueued 1) 4 asOperator 1 1) := by
  and_intros <;> decide +kernel

theorem test_wit_bus_receive_rows :
    ((fun (s : State) (_dt k : Nat) (m : CanMsg) (_sof : Count) (o : Nat) (x : Side) => k < cansOf s.variant ∧ s.canMode k = 1 ∧ m.fmt ≤ s.fld (Reg.CAN_CFG k) Fld.CAN_CFG_FORMAT ∧ s.objectOf k m = some o ∧ m.data.length ≤ s.objectCap k o ∧ s.engSide x = true) (cans 1) 4 1 ⟨0x321, false, 0, false, [1, 2]⟩ 7 3 .b)
    ∧ ((fun (s : State) (_dt k : Nat) (m : CanMsg) (remote : Bool) (_sof : Count) => k < cansOf s.variant ∧ s.canMode k = 1 ∧ m.fmt ≤ s.fld (Reg.CAN_CFG k) Fld.CAN_CFG_FORMAT ∧ (remote || (s.objectOf k m).isNone) = true) (cans 1) 4 1 ⟨0x321, false, 0, false, [1, 2]⟩ true 7)
    ∧ ((fun (s : State) (_dt k err tecUp _recUp : Nat) => k < cansOf s.variant ∧ s.canMode k = 1 ∧ 1 ≤ err ∧ err ≤ 6 ∧ s.fld (Reg.CAN_ERR k) Fld.CAN_ERR_TEC + tecUp ≤ 255 ∧ (err = 3 → s.fld (Reg.CAN_STAT k) Fld.CAN_STAT_CONF ≠ 1)) (cans 1) 4 1 2 8 1)
    ∧ ((fun (s : State) (_dt k err tecUp _recUp : Nat) => k < cansOf s.variant ∧ s.canMode k = 1 ∧ 1 ≤ err ∧ err ≤ 6 ∧ err ≠ 3 ∧ 256 ≤ s.fld (Reg.CAN_ERR k) Fld.CAN_ERR_TEC + tecUp ∧ s.fld (Reg.CAN_RECOV k) Fld.CAN_RECOV_RECOV_MAX ≤ 1) (cans 1) 4 1 2 300 1)
    ∧ ((fun (s : State) (_dt k err _tecUp _recUp : Nat) (_sending : Bool) => k < cansOf s.variant ∧ s.canMode k = 2 ∧ err ≠ 0) (cans 2) 4 1 2 8 1 false)
    ∧ ((fun (s : State) (dt k : Nat) => k < cansOf s.variant ∧ s.canMode k = 3 ∧ 1408 * s.bitTime k ≤ (s.tick dt).since (SMap.get (fun _ => 0) s.can.offAt k)) ((cans 3).setErrs 1 300 5) 100000000 1)
    ∧ ((fun (s : State) (_dt : Nat) (acc : Access) (k : Nat) (val : Word) (o : CanObj) => k < 4 ∧ Admitted s acc (Reg.CAN_RX_SEL k) .all ∧ s.openOf acc = none ∧ SMap.get (fun _ => CanObj.reset) (s.canEng (s.viewed acc.path) k).objs (fget Fld.CAN_RX_SEL_OBJECT val) = o ∧ s.parN (Par.canObjCfg k (fget Fld.CAN_RX_SEL_OBJECT val)) / 16 % 16 = 1) cansHeld 4 asOperator 1 3 ⟨0, [1, 2, 3, 4, 5], 9, true, false⟩)
    ∧ ((fun (s : State) (_dt : Nat) (acc : Access) (k : Nat) (_wire : Bool) => k < 4 ∧ Admitted s acc (Reg.CAN_CTRL k) .op ∧ s.canMode k = 2 ∧ s.power < 3 ∧ s.wakeOpen .can k = false) (cans 2) 4 asOperator 1 false)
    ∧ ((fun (s : State) (_dt k src : Nat) (m : CanMsg) => k < cansOf s.variant ∧ s.canMode k = 2 ∧ s.wakeMatches k src m = true ∧ s.power < 3 ∧ s.wakeOpen .can k = false) ((cans 2).setF (Reg.CAN_WAKE_CFG 1) Fld.CAN_WAKE_CFG_MODE 1) 4 1 1 ⟨0, false, 0, false, []⟩)
    ∧ ((fun (s : State) (_dt k src : Nat) (m : CanMsg) => (s.canMode k = 2 → s.wakeMatches k src m = false)) (cans 2) 4 1 1 ⟨0, false, 0, false, []⟩)
    ∧ ((fun (s : State) (_dt k present f : Nat) => k < cansOf s.variant ∧ 1 ≤ f ∧ f ≤ 5 ∧ present.testBit f = true ∧ s.bit (Reg.CAN_WIRE k) f = false) (cans 1) 4 1 0x22 1)
    ∧ ((fun (s : State) (dt k f : Nat) => f < 6 ∧ k < 4 ∧ (s.tick dt).lastedIn s.can.gone (k * 8 + f) (Config.msec 100) = true) { (cans 1).wr (Reg.CAN_WIRE 1) 0x22 with can := { (cans 1).can with gone := [(13, 0)] } } (Config.msec 100) 1 5) := by
  and_intros <;> decide +kernel

theorem test_wit_switch_command_rows :
    ((fun (s : State) (_dt : Nat) (acc : Access) (n : Nat) (val : Word) => n < 24 ∧ Admitted s acc (Reg.LSW_CTRL n) .op ∧ fget Fld.LSW_CTRL_CLEAR val = 0 ∧ fget Fld.LSW_CTRL_ON val = 1 ∧ fget Fld.LSW_CTRL_OFF val = 0 ∧ s.fld (Reg.LSW_CFG n) Fld.LSW_CFG_CONTROLLER = 1 ∧ (s.fogPad && s.fogMap n) = false) (lsws 0 id) 4 asOperator 9 1)
    ∧ ((fun (s : State) (_dt : Nat) (acc : Access) (n : Nat) (val : Word) => n < 24 ∧ Admitted s acc (Reg.LSW_CTRL n) .op ∧ fget Fld.LSW_CTRL_CLEAR val = 0 ∧ fget Fld.LSW_CTRL_ON val ≠ fget Fld.LSW_CTRL_OFF val ∧ s.fld (Reg.LSW_CFG n) Fld.LSW_CFG_CONTROLLER ≠ 1) ((lsws 0 id).setF (Reg.LSW_CFG 9) Fld.LSW_CFG_CONTROLLER 2) 4 asOperator 9 1)
    ∧ ((fun (s : State) (_dt : Nat) (acc : Access) (n : Nat) (val : Word) => n < 24 ∧ Admitted s acc (Reg.LSW_CTRL n) .op ∧ fget Fld.LSW_CTRL_CLEAR val = 0 ∧ fget Fld.LSW_CTRL_ON val = 0 ∧ fget Fld.LSW_CTRL_OFF val = 1 ∧ s.fld (Reg.LSW_CFG n) Fld.LSW_CFG_CONTROLLER = 1 ∧ (s.fogPad && s.fogMap n) = false) (lsws 0 id) 4 asOperator 9 2)
    ∧ ((fun (s : State) (_dt : Nat) (acc : Access) (n : Nat) (val : Word) => n < 24 ∧ Admitted s acc (Reg.LSW_CTRL n) .op ∧ fget Fld.LSW_CTRL_CLEAR val = 0 ∧ fget Fld.LSW_CTRL_ON val ≠ fget Fld.LSW_CTRL_OFF val ∧ s.fld (Reg.LSW_CFG n) Fld.LSW_CFG_CONTROLLER ≠ 1) ((lsws 0 id).setF (Reg.LSW_CFG 9) Fld.LSW_CFG_CONTROLLER 2) 4 asOperator 9 2)
    ∧ ((fun (s : State) (_dt : Nat) (acc : Access) (n : Nat) (val : Word) => n < 24 ∧ Admitted s acc (Reg.LSW_CTRL n) .op ∧ fget Fld.LSW_CTRL_CLEAR val = 1 ∧ fget Fld.LSW_CTRL_ON val = 0 ∧ fget Fld.LSW_CTRL_OFF val = 0 ∧ s.lswState n = 4) (lsws 4 id) 4 asOperator 9 4)
    ∧ ((fun (s : State) (_dt : Nat) (acc : Access) (n : Nat) (val : Word) => n < 24 ∧ Admitted s acc (Reg.LSW_CTRL n) .op ∧ fget Fld.LSW_CTRL_CLEAR val = 1 ∧ fget Fld.LSW_CTRL_ON val = 0 ∧ fget Fld.LSW_CTRL_OFF val = 0 ∧ s.lswState n ≠ 4) (lsws 1 id) 4 asOperator 9 4)
    ∧ ((fun (s : State) (dt n : Nat) => n < 24 ∧ s.lswState n = 1 ∧ (s.lswCh n).tregAt = none ∧ Config.msec (s.fld (Reg.LSW_TIME n) Fld.LSW_TIME_T_INR) ≤ (s.lswCh n).run + (s.tick dt).since (s.lswCh n).runAt) (lsws 1 id) (Config.msec 5) 9)
    ∧ ((fun (s : State) (_dt n : Nat) => n < 24 ∧ s.lswOnNow n = true ∧ (s.lswCh n).tregAt = none) (lsws 1 id) 4 9)
    ∧ ((fun (s : State) (_dt n : Nat) (r : Count) => n < 24 ∧ (s.lswCh n).tregAt = some r) (lsws 1 fun c => { c with tregAt := some 0 }) 4 9 0)
    ∧ ((fun (s : State) (dt n : Nat) (cool : Bool) => n < 24 ∧ s.lswState n = 3 ∧ s.ls n Fld.LSW_CH_STAT_CMD = 1 ∧ s.ls n Fld.LSW_CH_STAT_CLAMP_LOCK = 0 ∧ (cool = false → s.ls n Fld.LSW_CH_STAT_CAUSE ≠ 3) ∧ Config.msec (100 * s.fld (Reg.LSW_TIME n) Fld.LSW_TIME_RETRY_DLY) ≤ (s.tick dt).since (s.lswCh n).since) (lsws 3 id) (Config.msec 1000) 9 true)
    ∧ ((fun (s : State) (dt n : Nat) => n < 24 ∧ s.lswState n = 2 ∧ Config.sec 60 ≤ (s.tick dt).since (s.lswCh n).since) ((lsws 2 id).setLs 9 Fld.LSW_CH_STAT_RETRIES 2) (Config.sec 60) 9)
    ∧ ((fun (s : State) (dt n : Nat) => n < 24 ∧ s.lswBudget n ≤ (s.tick dt).lswBucket n ∧ (s.ls n Fld.LSW_CH_STAT_CLAMP_LOCK = 0 ∨ s.ls n Fld.LSW_CH_STAT_CMD = 1 ∧ s.lswState n ≠ 0)) ((lsws 0 id).setLs 9 Fld.LSW_CH_STAT_CMD 1) 4 9)
    ∧ ((fun (s : State) (dt n : Nat) => n < 24 ∧ s.lswBudget n ≤ (s.tick dt).lswBucket n ∧ s.ls n Fld.LSW_CH_STAT_CLAMP_LOCK = 1 ∧ s.ls n Fld.LSW_CH_STAT_CMD = 1 ∧ s.lswState n = 0 ∧ s.railUv (railOf n) = false ∧ (s.lswCh n).shortNext = false) (((lsws 0 id).setLs 9 Fld.LSW_CH_STAT_CMD 1).setLs 9 Fld.LSW_CH_STAT_CLAMP_LOCK 1) 4 9) := by
  and_intros <;> decide +kernel

theorem test_wit_switch_test_and_fog_rows :
    ((fun (s : State) (_dt n : Nat) (_bare _sourced : Bool) => n < 24 ∧ s.lswState n = 0 ∧ s.fld (Reg.LSW_CFG n) Fld.LSW_CFG_OL_TEST = 1 ∧ (s.lswCh n).testAt = none ∧ s.ls n Fld.LSW_CH_STAT_SHORT_VAUX = 0 ∧ s.ls n Fld.LSW_CH_STAT_OPEN_OFF = 0) (lsws 0 id) 4 9 true false)
    ∧ ((fun (s : State) (dt n : Nat) (r : Count) => n < 24 ∧ s.lswState n = 2 ∧ (s.lswCh n).lowAt = some r ∧ Config.sec 1 ≤ (s.tick dt).since r ∧ s.ls n Fld.LSW_CH_STAT_OPEN_ON = 0) (lsws 2 fun c => { c with lowAt := some 0 }) (Config.sec 1) 9 0)
    ∧ ((fun (s : State) (_dt n : Nat) => n < 24 ∧ s.lswState n = 2) ((lsws 2 fun c => { c with lowAt := some 0 }).setLs 9 Fld.LSW_CH_STAT_OPEN_ON 1) 4 9)
    ∧ ((fun (s : State) (_dt : Nat) (acc : Access) (_val : Word) => Admitted s acc Reg.LSW_SNS_SEL .op ∧ s.openOf acc = none) (lsws 0 id) 4 asOperator 0xFFFFFABC)
    ∧ ((fun (s : State) (_dt : Nat) (acc : Access) (val : Word) => Admitted s acc Reg.LSW_CLR .op ∧ val.getLsbD 0 = true) ((lsws 0 id).wr (Reg.LSW_CNT 9) 5) 4 asOperator 1)
    ∧ ((fun (s : State) (_dt : Nat) (_energy : SMap Nat) => s.fogPad = false ∧ s.fogLive = true ∧ s.lsw.fog = 0 ∧ s.wakeOpen .fog 0 = false) ((fogs 0 false).setF Reg.LSW_FOGIN Fld.LSW_FOGIN_LEVEL 4) 4 [])
    ∧ ((fun (s : State) (_dt : Nat) (_energy : SMap Nat) => s.fogPad = true ∧ s.fogLive = true ∧ s.lsw.fog = 0) (fogs 2 true) 4 [])
    ∧ ((fun (s : State) (_dt : Nat) (_energy : SMap Nat) => s.fogPad = true ∧ s.fogLive = false) ({ fogs 2 true with keep := { (fogs 2 true).keep with guardFault := true } }) 4 [])
    ∧ ((fun (s : State) (_dt k : Nat) (_active : Bool) (_energy : SMap Nat) (n : Nat) => k < 8 ∧ n < 24 ∧ s.underFog n = true ∧ s.fogMap n = true ∧ s.fld (Reg.LSW_CFG n) Fld.LSW_CFG_FOG_SRC = k ∧ s.lswState n ≠ 4) (fogs 0 true) 4 2 true [] 9) := by
  and_intros <;> decide +kernel

theorem test_wit_switch_fault_rows :
    ((fun (s : State) (_dt n _e : Nat) => n < 24 ∧ s.lswOnNow n = true) (lsws 2 id) 4 9 30)
    ∧ ((fun (s : State) (_dt n _e : Nat) => n < 24 ∧ s.lswOnNow n = true) (lsws 2 id) 4 9 500)
    ∧ ((fun (s : State) (dt n _e : Nat) => n < 24 ∧ s.lswState n = 2 ∧ Config.usec (100 * s.fld (Reg.LSW_TIME n) Fld.LSW_TIME_T_OC) ≤ (s.tick dt).since (s.lswCh n).since) ((lsws 2 id).setLs 9 Fld.LSW_CH_STAT_RETRIES 2) (Config.msec 10) 9 30)
    ∧ ((fun (s : State) (dt n _e : Nat) => n < 24 ∧ s.lswState n = 0 ∧ (s.lswCh n).clearAt ≠ some (s.tick dt).period ∧ (s.lswCh n).offAt = some (s.tick dt).period) (lsws 0 fun c => { c with offAt := some 0 }) 4 9 30)
    ∧ ((fun (s : State) (_dt rail : Nat) (_energy : SMap Nat) => rail < 2 ∧ s.railUv rail = false) (lsws 2 id) 4 1 [(9, 20)])
    ∧ ((fun (s : State) (_dt rail : Nat) (_energy : SMap Nat) => rail < 2 ∧ s.railUv rail = false ∧ s.fld Reg.LSW_STAT (revField rail) = 0) (lsws 2 id) 4 1 [(9, 20)])
    ∧ ((fun (_s : State) (_dt rail : Nat) (_energy : SMap Nat) => rail < 2) ((lsws 5 id).setF Reg.LSW_STAT (revField 1) 1) 4 1 [])
    ∧ ((fun (s : State) (_dt rail : Nat) => rail < 2 ∧ s.fld Reg.LSW_STAT (revField rail) = 0) ((lsws 5 id).setF Reg.LSW_STAT (uvField 1) 1) 4 1)
    ∧ ((fun (s : State) (_dt iSum _pSw _e n : Nat) => 800 < iSum ∧ s.lsw.shedAt = none ∧ s.shedPick = some n ∧ n < 24) (lsws 2 id) 4 801 10 30 9)
    ∧ ((fun (_s : State) (_dt iSum pSw _e : Nat) => iSum < 760 ∧ pSw < 950) ((lsws 2 id).setF Reg.LSW_STAT Fld.LSW_STAT_SHEDDING 1) 4 759 949 30) := by
  and_intros <;> decide +kernel

theorem test_wit_memory_rows :
    ((fun (s : State) (_dt : Nat) (x : Side) (_n : Nat) => s.runningSides.contains x = true) runs 4 .b 3)
    ∧ ((fun (_s : State) (_dt : Nat) (_x : Side) (k : Nat) (_addr : Word) => k < 3) runs 4 .b 2 0x100)
    ∧ ((fun (s : State) (_dt : Nat) (x : Side) (k : Nat) (_addr : Word) => k < 3 ∧ s.guardActs = true ∧ (s.side x).state = .standby) runs 4 .b 2 0x100)
    ∧ ((fun (s : State) (_dt : Nat) (_x : Side) (k : Nat) (_addr : Word) => k < 3 ∧ s.guardActs = false) { runs with keep := { runs.keep with guardFault := true } } 4 .b 2 0x100)
    ∧ ((fun (_s : State) (_dt record : Nat) => record < 3) runs 4 1)
    ∧ ((fun (_s : State) (_dt record : Nat) => record < 3) runs 4 1)
    ∧ ((fun (s : State) (_dt : Nat) (_ws : List (Nat × Word)) => s.metr.on = true ∧ s.bill.saved2Ok = true) (billsWith fun b => { b with saved2 := { b.mem with intNo := 9 } }) 4 [(Reg.BILL_E 0 0, 5)])
    ∧ ((fun (s : State) (_dt : Nat) (_a _b : Option (List (Nat × Word))) => s.metr.on = false) (metersWith fun m => { m with on := false }) 4 (some [(Reg.BILL_E 0 0, 5)]) none)
    ∧ ((fun (s : State) (_dt : Nat) (acc : Access) (val : Word) => Admitted s acc Reg.MEM_CTRL .svc ∧ fget Fld.MEM_CTRL_WIPE val = 1 ∧ s.runningSides ≠ []) (mems 2 none) 4 asService 1)
    ∧ ((fun (s : State) (_dt : Nat) (acc : Access) (val : Word) => Admitted s acc Reg.MEM_WIPE_CFG .svc ∧ s.openOf acc = none ∧ (2 ≤ s.lifeCycle → val &&& 15 &&& s.rd Reg.MEM_WIPE_CFG = s.rd Reg.MEM_WIPE_CFG)) ((mems 2 none).wr Reg.MEM_WIPE_CFG 3) 4 asService 7)
    ∧ ((fun (s : State) (_dt : Nat) (acc : Access) (val : Word) => Admitted s acc Reg.MEM_WIPE_CFG .svc ∧ s.openOf acc = none ∧ 2 ≤ s.lifeCycle ∧ val &&& 15 &&& s.rd Reg.MEM_WIPE_CFG ≠ s.rd Reg.MEM_WIPE_CFG) ((mems 2 none).wr Reg.MEM_WIPE_CFG 3) 4 asService 4)
    ∧ ((fun (s : State) (_dt : Nat) (acc : Access) (val : Word) => Admitted s acc Reg.MEM_LC_CTRL .svc ∧ fget Fld.MEM_LC_CTRL_KEY val = 0x4C43 ∧ fget Fld.MEM_LC_CTRL_STEP val = 0) (mems 2 none) 4 asService 0x4C430003)
    ∧ ((fun (s : State) (dt : Nat) (acc : Access) (val : Word) (target : Nat) (at0 : Count) => Admitted s acc Reg.MEM_LC_CTRL .svc ∧ fget Fld.MEM_LC_CTRL_KEY val = 0x4F4B ∧ fget Fld.MEM_LC_CTRL_STEP val = 1 ∧ fget Fld.MEM_LC_CTRL_TARGET val = target ∧ s.mem.armed = some (target, at0) ∧ (s.tick dt).since at0 ≤ Config.sec 1 ∧ s.lcAllowed target = true ∧ s.mem.lcTo = none) (let s := mems 2 none; { s with mem := { s.mem with armed := some (3, 0) } }) 4 asService 0x4F4B000B 3 0)
    ∧ ((fun (s : State) (_dt : Nat) (acc : Access) (val : Word) => Admitted s acc Reg.MEM_LC_CTRL .svc ∧ fget Fld.MEM_LC_CTRL_STEP val = 1 ∧ s.mem.armed = none) (mems 2 none) 4 asService 0x4F4B000B)
    ∧ ((fun (s : State) (_dt : Nat) => s.mem.lcTo = some 2) (mems 1 (some 2)) 4)
    ∧ ((fun (s : State) (_dt g : Nat) => s.mem.lcTo = some g ∧ (g = 0 ∨ g = 4)) (mems 3 (some 0)) 4 0)
    ∧ ((fun (s : State) (_dt : Nat) (acc : Access) => s.answers acc.path 0 = true ∧ acc.path = .host ∧ s.lifeCycle = 0 ∧ s.mem.lcTo = none) (mems 0 none) 4 asHost)
    ∧ ((fun (s : State) (_dt : Nat) (acc : Access) => s.answers acc.path 0 = true ∧ s.lifeCycle ≠ 0) (mems 2 none) 4 asHost)
    ∧ ((fun (s : State) (_dt : Nat) (acc : Access) (val : Word) => Admitted s acc Reg.MEM_CLR .op ∧ fget Fld.MEM_CLR_CLEAR val = 1) ((mems 2 none).wr (Reg.MEM_ECC 1) 5) 4 asOperator 1) := by
  and_intros <;> decide +kernel

theorem test_wit_supply_rows :
    ((fun (s : State) (_dt : Nat) (_dc : Bool) => s.sup.aux = false) (pows fun p => { p with aux := false, phase := 0 }) 4 true)
    ∧ ((fun (s : State) (_dt : Nat) => s.sup.onDomain = false) (pows fun p => { p with onDomain := false }) 4)
    ∧ ((fun (s : State) (_dt : Nat) => s.sup.phase ≤ 1) (pows fun p => { p with phase := 0 }) 4)
    ∧ ((fun (s : State) (_dt _tch : Nat) => s.sup.aux = true ∧ s.sup.phase = 0) (pows fun p => { p with phase := 0 }) 4 (Config.msec 26))
    ∧ ((fun (s : State) (dt _tch : Nat) => s.sup.phase = 1 ∧ (s.tick dt).sinceLife s.sup.chargeAt < Config.sec 1) (pows fun p => { p with phase := 1 }) 4 (Config.msec 26))
    ∧ ((fun (s : State) (_dt : Nat) => s.sup.phase = 0 ∧ s.sup.aux = true ∧ s.sup.onDomain = true) (pows fun p => { p with phase := 0 }) 4)
    ∧ ((fun (s : State) (_dt : Nat) => s.sup.aux = true ∧ s.awake = true) (pows id) 4)
    ∧ ((fun (s : State) (_dt : Nat) => s.sup.aux = false ∧ s.awake = true) ((pows fun p => { p with aux := false }).setF Reg.PWR_STAT Fld.PWR_STAT_IN_LOSS 1) 4)
    ∧ ((fun (s : State) (_dt : Nat) => (s.sup.phase = 2 ∨ s.awake = true)) (pows id) 4) := by
  and_intros <;> decide +kernel

theorem test_wit_start_and_reset_rows :
    ((fun (s : State) (_dt _hmode : Nat) => s.sup.phase = 3 ∧ s.keep.guardFault = false ∧ s.power < 4) (pows fun p => { p with phase := 3 }) 4 2)
    ∧ ((fun (s : State) (dt : Nat) => s.awake = true ∧ s.sup.late = false ∧ s.fld Reg.PWR_STAT Fld.PWR_STAT_RUN_READY = 0 ∧ (s.tick dt).tStart ≤ (s.tick dt).sinceLife s.sup.ladderAt) (pows id) (Config.sec 5))
    ∧ ((fun (s : State) (_dt held : Nat) => s.awake = true ∧ Config.usec 10 ≤ held) (pows id) 4 (Config.usec 10))
    ∧ ((fun (_s : State) (_dt held : Nat) => held < Config.usec 10) (pows id) 4 39999)
    ∧ ((fun (s : State) (_dt : Nat) => s.sup.phase = 2) (pows fun p => { p with phase := 2 }) 4)
    ∧ ((fun (s : State) (_dt : Nat) (acc : Access) (val : Word) => Admitted s acc Reg.PWR_RESET .svc ∧ fget Fld.PWR_RESET_KEY val = 0x5E7A ∧ s.atRest = true) (pows id) 4 asService 0x5E7A0000)
    ∧ ((fun (s : State) (_dt : Nat) (acc : Access) (val : Word) => Admitted s acc Reg.PWR_RESET .svc ∧ (fget Fld.PWR_RESET_KEY val = 0x5E7A → s.atRest = false)) (pows id) 4 asService 0x5E7B0000)
    ∧ ((fun (s : State) (_dt : Nat) => s.awake = true ∧ s.keep.guardFault = false) ((lsws 2 id)) 4)
    ∧ ((fun (s : State) (dt : Nat) => s.keep.guardFault = true ∧ s.awake = true ∧ s.fld Reg.PWR_CFG Fld.PWR_CFG_GF_AUTO = 1 ∧ Config.sec 10 ≤ (s.tick dt).sinceLife s.keep.guardFaultAt ∧ s.sup.autoAt = none) ({ (pows id) with keep := { (pows id).keep with guardFault := true } }.setF Reg.PWR_CFG Fld.PWR_CFG_GF_AUTO 1) (Config.sec 10)) := by
  and_intros <;> decide +kernel

theorem test_wit_power_state_rows :
    ((fun (s : State) (dt : Nat) => s.running = true ∧ s.sup.phase = 4 ∧ s.keep.guardFault = false ∧ (s.tick dt).atCycleStart = true ∧ s.sup.cand < s.power ∧ s.power ≠ 2) (let s := power 1; { s with tm := { s.tm with cycleStart := BitVec.ofNat 64 4 } }) 4)
    ∧ ((fun (s : State) (dt : Nat) => s.running = true ∧ s.sup.phase = 4 ∧ s.keep.guardFault = false ∧ (s.tick dt).atCycleStart = true ∧ s.sup.cand < s.power ∧ s.power = 2) (let s := power 2; { s with tm := { s.tm with cycleStart := BitVec.ofNat 64 4 } }) 4)
    ∧ ((fun (s : State) (dt : Nat) => s.running = true ∧ s.sup.phase = 4 ∧ s.keep.guardFault = false ∧ (s.tick dt).atCycleStart = true ∧ s.power < s.sup.cand ∧ s.sup.cand < 3 ∧ (s.tick dt).lasted s.sup.candAt (Config.sec (s.fld Reg.PWR_CFG Fld.PWR_CFG_DWELL)) = true) (let s := pows fun p => { p with cand := 2, candAt := some 0 }; { s with tm := { s.tm with cycleStart := BitVec.ofNat 64 (Config.sec 100) } }) (Config.sec 100))
    ∧ ((fun (s : State) (dt : Nat) => s.running = true ∧ s.sup.phase = 4 ∧ s.keep.guardFault = false ∧ (s.tick dt).atCycleStart = true ∧ s.power < s.sup.cand ∧ 3 ≤ s.sup.cand ∧ s.sup.cand ≤ 4 ∧ (s.tick dt).lasted s.sup.candAt (Config.sec (s.fld Reg.PWR_CFG Fld.PWR_CFG_DWELL)) = true) (let s := (pows fun p => { p with cand := 4, candAt := some 0 }).setCanMode 1 1; { s with tm := { s.tm with cycleStart := BitVec.ofNat 64 (Config.sec 100) } }) (Config.sec 100))
    ∧ ((fun (s : State) (dt k : Nat) => k < 8 ∧ s.fld (Reg.PWR_LTR k) Fld.PWR_LTR_VALID = 1 ∧ s.fld (Reg.PWR_LTR k) Fld.PWR_LTR_EXPIRY ≠ 0 ∧ Config.sec (s.fld (Reg.PWR_LTR k) Fld.PWR_LTR_EXPIRY) ≤ (s.tick dt).since (SMap.get (fun _ => 0) s.sup.ltrAt k)) ((pows id).wr (Reg.PWR_LTR 5) 0x80010064) (Config.sec 1) 5) := by
  and_intros <;> decide +kernel

theorem test_wit_wake_tamper_and_defer_rows :
    ((fun (s : State) (_dt k : Nat) (_rising : Bool) (held : Nat) => k < 8 ∧ s.fld (Reg.PWR_WAKE_THR k) Fld.PWR_WAKE_THR_THR ≠ 0 ∧ s.sup.onDomain = true ∧ (s.wakeOpen .wake k = false ∨ held < Config.msec 1)) ((power 0).wr (Reg.PWR_WAKE_THR 5) 0x40050064) 4 5 true 3)
    ∧ ((fun (s : State) (_dt k : Nat) (rising : Bool) (held : Nat) => k < 8 ∧ s.fld (Reg.PWR_WAKE_THR k) Fld.PWR_WAKE_THR_THR ≠ 0 ∧ s.sup.onDomain = true ∧ s.wakeOpen .wake k = true ∧ Config.msec 1 ≤ held ∧ (s.fld (Reg.PWR_WAKE_THR k) Fld.PWR_WAKE_THR_EDGE).testBit (if rising then 0 else 1) = true) (((power 3).wr (Reg.PWR_WAKE_THR 5) 0x40050064).wr Reg.PWR_WAKE_CFG 0x20) 4 5 true (Config.msec 1))
    ∧ ((fun (s : State) (dt : Nat) => (s.rd Reg.PWR_ALARM_HI ++ s.rd Reg.PWR_ALARM_LO : Count) ≠ 0 ∧ (s.rd Reg.PWR_ALARM_HI ++ s.rd Reg.PWR_ALARM_LO : Count).toNat ≤ (s.tick dt).tm.ts.toNat ∧ s.wakeOpen .alarm 0 = true) ((power 4).wr Reg.PWR_ALARM_LO 3) 4)
    ∧ ((fun (s : State) (_dt : Nat) => (s.rd Reg.PWR_ALARM_HI ++ s.rd Reg.PWR_ALARM_LO : Count) = 0 ∨ s.wakeOpen .alarm 0 = false) (power 4) 4)
    ∧ ((fun (s : State) (dt : Nat) (codes : List Int) => s.metr.on = true ∧ s.metr.sleep = true ∧ (s.tick dt).aboveStart codes = true ∧ s.wakeOpen .metr 0 = true) (let s := meters; { s with metr := { s.metr with sleep := true } }.setF Reg.PWR_STAT Fld.PWR_STAT_STATE 4) 4 (List.replicate 8 0 ++ [8000000, 6000000]))
    ∧ ((fun (s : State) (dt : Nat) (codes : List Int) => (s.metr.sleep = false ∨ (s.tick dt).aboveStart codes = false)) (let s := meters; { s with metr := { s.metr with sleep := true } }) 4 [])
    ∧ ((fun (s : State) (_dt k : Nat) (active : Bool) => k < 4 ∧ s.sup.onDomain = true ∧ s.wakeOpen .tamper k = false ∧ (active = true → (s.rd Reg.MEM_WIPE_CFG).getLsbD k = false)) (power 0) 4 2 true)
    ∧ ((fun (s : State) (_dt k : Nat) => k < 4 ∧ s.sup.onDomain = true ∧ s.wakeOpen .tamper k = false ∧ (s.rd Reg.MEM_WIPE_CFG).getLsbD k = true) ((power 0).wr Reg.MEM_WIPE_CFG 4) 4 2)
    ∧ ((fun (s : State) (_dt k : Nat) (_active : Bool) => k < 4 ∧ s.sup.onDomain = true ∧ s.wakeOpen .tamper k = true ∧ (s.rd Reg.MEM_WIPE_CFG).getLsbD k = false) ((power 3).wr Reg.PWR_WAKE_CFG 0x400) 4 2 false)
    ∧ ((fun (s : State) (_dt : Nat) (x : Side) (v : Int) => s.running = true ∧ (s.side x).state ≠ .off ∧ (s.side x).deferring = false ∧ (10 * s.fld Reg.PWR_DEFER_CFG Fld.PWR_DEFER_CFG_T_DEFER : Nat) ≤ v ∧ v < 1350) (power 0) 4 .b 1200)
    ∧ ((fun (s : State) (_dt : Nat) (x : Side) (v : Int) => s.running = true ∧ s.guardActs = true ∧ (s.side x).state = .standby ∧ 1350 ≤ v) (power 0) 4 .b 1350)
    ∧ ((fun (s : State) (_dt die : Nat) (_v : Int) => s.running = true ∧ 2 ≤ die ∧ s.keep.guardFault = false) (power 0) 4 2 1400)
    ∧ ((fun (s : State) (dt : Nat) (x : Side) => (s.side x).deferring = true ∧ (s.tick dt).lastedIn s.sup.coolAt x.code (Config.sec 10) = true ∧ s.img.actWait = false ∧ s.host.fwWait = false) (let s := (power 0).setSide .b { SideRec.reset with state := .standby, deferring := true }; { s with sup := { s.sup with coolAt := [(1, 0)] } }) (Config.sec 10) .b)
    ∧ ((fun (s : State) (_dt : Nat) (acc : Access) (val : Word) => Admitted s acc Reg.PWR_CLR .op ∧ fget Fld.PWR_CLR_CLEAR val = 1) ((power 0).wr Reg.PWR_CNT 5) 4 asOperator 1) := by
  and_intros <;> decide +kernel

theorem test_wit_host_link_rows :
    ((fun (s : State) (dt addr : Nat) => (s.tick dt).spiOn = true ∧ addr < 0x180000 ∧ addr % 4 = 0 ∧ windowOf addr = none ∧ s.fld Reg.HOST_CFG Fld.HOST_CFG_QSPI_CRC = 0) (links 2) 4 Reg.KEEP_STAT)
    ∧ ((fun (s : State) (dt addr : Nat) => (s.tick dt).spiOn = true ∧ addr < 0x180000 ∧ addr % 4 = 0 ∧ windowOf addr = none ∧ s.fld Reg.HOST_CFG Fld.HOST_CFG_QSPI_CRC = 1) ((links 2).setF Reg.HOST_CFG Fld.HOST_CFG_QSPI_CRC 1) 4 Reg.SYS_ID)
    ∧ ((fun (s : State) (dt addr : Nat) => (s.tick dt).spiOn = true ∧ addr < 0x180000 ∧ addr % 4 = 0 ∧ windowOf addr = none ∧ s.fld Reg.HOST_CFG Fld.HOST_CFG_QSPI_CRC = 0) (links 2) 4 Reg.KEEP_STAT)
    ∧ ((fun (s : State) (dt addr : Nat) => (s.tick dt).spiOn = true ∧ addr < 0x180000 ∧ addr % 4 = 0 ∧ windowOf addr = none ∧ s.fld Reg.HOST_CFG Fld.HOST_CFG_QSPI_CRC = 1) ((links 2).setF Reg.HOST_CFG Fld.HOST_CFG_QSPI_CRC 1) 4 Reg.SYS_ID)
    ∧ ((fun (s : State) (dt addr : Nat) (_w : Word) (_crc : Nat) => (s.tick dt).spiOn = true ∧ addr < 0x180000 ∧ addr % 4 = 0 ∧ s.fld Reg.HOST_CFG Fld.HOST_CFG_QSPI_CRC = 0) (links 2) 4 Reg.SYS_SCRATCH 0x12345678 0)
    ∧ ((fun (s : State) (dt addr : Nat) (ws : List Word) (crc : Nat) => (s.tick dt).spiOn = true ∧ s.fld Reg.HOST_CFG Fld.HOST_CFG_QSPI_CRC = 1 ∧ crc ≠ spiCrc (addr % 0x1000000) ws) ((links 2).setF Reg.HOST_CFG Fld.HOST_CFG_QSPI_CRC 1) 4 Reg.SYS_SCRATCH [0x12345678] 0)
    ∧ ((fun (s : State) (dt addr : Nat) (_w : Word) (_crc : Nat) => (s.tick dt).spiOn = true ∧ addr < 0x180000 ∧ addr % 4 = 0 ∧ s.fld Reg.HOST_CFG Fld.HOST_CFG_QSPI_CRC = 0) (links 2) 4 Reg.SYS_SCRATCH 0x12345678 0)
    ∧ ((fun (s : State) (dt addr : Nat) (ws : List Word) (crc : Nat) => (s.tick dt).spiOn = true ∧ s.fld Reg.HOST_CFG Fld.HOST_CFG_QSPI_CRC = 1 ∧ crc ≠ spiCrc (addr % 0x1000000) ws) ((links 2).setF Reg.HOST_CFG Fld.HOST_CFG_QSPI_CRC 1) 4 Reg.SYS_SCRATCH [0x12345678] 0)
    ∧ ((fun (s : State) (dt : Nat) => (s.tick dt).spiOn = true) (let s := links 2; { s with host := { s.host with qspiFlags := 6 } }) 4)
    ∧ ((fun (s : State) (_dt _vectors : Nat) => s.fld Reg.HOST_CFG Fld.HOST_CFG_MODE = 1 ∧ s.fld Reg.HOST_CFG Fld.HOST_CFG_HOST_EN = 1 ∧ s.running = true ∧ s.keep.guardFault = false) (links 1) 4 3)
    ∧ ((fun (s : State) (_dt : Nat) => s.fld Reg.HOST_CFG Fld.HOST_CFG_MODE = 1 ∧ ([0, 1, 2, 3].all fun n => (s.context n).state == .idle || (s.context n).path != .host) = true) ((links 1).setF Reg.HOST_STAT Fld.HOST_STAT_SESSION 1) 4)
    ∧ ((fun (s : State) (_dt n : Nat) => s.fld Reg.HOST_CFG Fld.HOST_CFG_MODE = 1 ∧ n < 4 ∧ (s.context n).path = .host ∧ (s.context n).session = 0 ∧ (s.context n).state = .opened) (let s := (links 1).setContext 2 { Ctx.reset with state := .opened, path := .host, session := 0, role := .operator }; s) 4 2)
    ∧ ((fun (s : State) (_dt : Nat) => s.fld Reg.HOST_CFG Fld.HOST_CFG_MODE = 1 ∧ ([0, 1, 2, 3].all fun n => (s.context n).state == .idle || (s.context n).path != .host) = true) ((links 1).setF Reg.HOST_STAT Fld.HOST_STAT_SESSION 1) 4)
    ∧ ((fun (s : State) (dt : Nat) => s.fld Reg.HOST_CFG Fld.HOST_CFG_MODE = 2 ∧ s.fld Reg.HOST_STAT Fld.HOST_STAT_SESSION = 1 ∧ s.fld Reg.HOST_CFG Fld.HOST_CFG_SPI_TMO ≠ 0 ∧ Config.sec (s.fld Reg.HOST_CFG Fld.HOST_CFG_SPI_TMO) ≤ (s.tick dt).since s.host.lastSpi ∧ ([0, 1, 2, 3].all fun n => (s.context n).state == .idle || (s.context n).path != .host) = true) ((links 2).setF Reg.HOST_STAT Fld.HOST_STAT_SESSION 1) (Config.sec 60)) := by
  and_intros <;> decide +kernel

theorem test_wit_management_connection_rows :
    ((fun (s : State) (dt conn port : Nat) (ip : Word) (cert : ClientCert) (r : Role) => (s.tick dt).mgmtOn = true ∧ s.recovery = false ∧ (s.tick dt).ipBlocked ip.toNat = false ∧ s.host.conns.length < 8 ∧ s.mgmtConn conn = none ∧ s.certRole port cert = some r) runs 4 5 0 0x0A000001 certOk .operator)
    ∧ ((fun (s : State) (dt conn port : Nat) (ip : Word) (cert : ClientCert) => (s.tick dt).mgmtOn = true ∧ s.recovery = false ∧ (s.tick dt).ipBlocked ip.toNat = false ∧ s.host.conns.length < 8 ∧ s.mgmtConn conn = none ∧ s.certRole port cert = none) runs 4 5 0 0x0A000001 { certOk with revoked := true })
    ∧ ((fun (s : State) (dt : Nat) (ip : Word) => (s.host.blocked.any fun e => e.1 == ip.toNat) = true ∧ (s.tick dt).ipBlocked ip.toNat = false) { runs with host := { runs.host with blocked := [(0x0A000001, 0)] } } (Config.sec 300) 0x0A000001)
    ∧ ((fun (s : State) (dt conn : Nat) (c : Conn) => s.mgmtConn conn = some c ∧ Config.sec 120 ≤ (s.tick dt).since c.last ∧ ([0, 1, 2, 3].all fun n => (s.context n).state == .idle || (s.context n).path != .mgmt || (s.context n).session != conn) = true) conns (Config.sec 120) 5 ⟨.service, false, 0, 255, 0⟩)
    ∧ ((fun (s : State) (_dt conn : Nat) (c : Conn) => s.mgmtConn conn = some c ∧ ([0, 1, 2, 3].all fun n => (s.context n).state == .idle || (s.context n).path != .mgmt || (s.context n).session != conn) = true) conns 4 5 ⟨.service, false, 0, 255, 0⟩)
    ∧ ((fun (s : State) (dt conn : Nat) (c : Conn) => s.mgmtConn conn = some c ∧ (s.tick dt).since c.last < Config.sec 120) conns 4 5 ⟨.service, false, 0, 255, 0⟩)
    ∧ ((fun (s : State) (dt conn : Nat) (c : Conn) (u : State) (_op _tag : Nat) => s.mgmtConn conn = some c ∧ (s.tick dt).mgmtOn = true ∧ u = { s.tick dt with host := { s.host with conns := SMap.insert s.host.conns conn { c with last := (s.tick dt).tm.mono } } } ∧ ([0, 1, 2, 3].all fun n => (s.context n).state == .idle || (s.context n).path != .mgmt || (s.context n).session != conn) = true) conns 4 5 ⟨.service, false, 0, 255, 0⟩ ({ conns.tick 4 with host := { conns.host with conns := SMap.insert conns.host.conns 5 ⟨.service, false, (conns.tick 4).tm.mono, 255, 0⟩ } }) 0x55 7) := by
  and_intros <;> decide +kernel

theorem test_wit_management_frame_rows :
    ((fun (s : State) (dt conn : Nat) (c : Conn) (_tag addr count : Nat) => ConnOpen s dt conn c ∧ addr % 4 = 0 ∧ 1 ≤ count ∧ count ≤ 256 ∧ addr + 4 * count ≤ 0x180000) conns 4 5 ⟨.service, false, 0, 255, 0⟩ 7 Reg.KEEP_STAT 2)
    ∧ ((fun (s : State) (dt conn : Nat) (c : Conn) (_tag addr count : Nat) => ConnOpen s dt conn c ∧ 1 ≤ count ∧ count ≤ 256 ∧ (addr % 4 ≠ 0 ∨ 0x180000 < addr + 4 * count)) conns 4 5 ⟨.service, false, 0, 255, 0⟩ 7 0x180000 1)
    ∧ ((fun (s : State) (dt conn : Nat) (c : Conn) (_tag _addr count : Nat) => ConnOpen s dt conn c ∧ (256 < count ∨ count = 0)) conns 4 5 ⟨.service, false, 0, 255, 0⟩ 7 Reg.KEEP_STAT 257)
    ∧ ((fun (s : State) (dt conn : Nat) (c : Conn) (_tag addr : Nat) (ws : List Word) => ConnOpen s dt conn c ∧ addr % 4 = 0 ∧ addr < 0x180000 ∧ ws ≠ [] ∧ ws.length ≤ 256) conns 4 5 ⟨.service, false, 0, 255, 0⟩ 7 Reg.SYS_SCRATCH [5, 6])
    ∧ ((fun (s : State) (dt conn : Nat) (c : Conn) (_tag _addr : Nat) (ws : List Word) => ConnOpen s dt conn c ∧ (256 < ws.length ∨ ws = [])) conns 4 5 ⟨.service, false, 0, 255, 0⟩ 7 Reg.SYS_SCRATCH [])
    ∧ ((fun (s : State) (dt conn : Nat) (c : Conn) (_tag : Nat) => ConnOpen s dt conn c) conns 4 5 ⟨.service, false, 0, 255, 0⟩ 7)
    ∧ ((fun (s : State) (dt conn : Nat) (c : Conn) (_tag _mask : Nat) => ConnOpen s dt conn c) conns 4 5 ⟨.service, false, 0, 255, 0⟩ 7 3)
    ∧ ((fun (s : State) (dt conn _tag _addr _count : Nat) => (s.mgmtConn conn = none ∨ (s.tick dt).mgmtOn = false)) conns 4 6 7 Reg.KEEP_STAT 3)
    ∧ ((fun (s : State) (dt conn _tag _addr : Nat) (_ws : List Word) => (s.mgmtConn conn = none ∨ (s.tick dt).mgmtOn = false)) conns 4 6 7 Reg.SYS_SCRATCH [5])
    ∧ ((fun (s : State) (dt conn _tag : Nat) => (s.mgmtConn conn = none ∨ (s.tick dt).mgmtOn = false)) conns 4 6 7)
    ∧ ((fun (s : State) (dt conn _tag _mask : Nat) => (s.mgmtConn conn = none ∨ (s.tick dt).mgmtOn = false)) conns 4 6 7 1)
    ∧ ((fun (s : State) (dt conn : Nat) (c : Conn) (l : List EvEntry) => ConnOpen s dt conn c ∧ s.eventLog.length < 524288 ∧ l = s.eventLog.filter (fun e => decide (c.sentSeq ≤ e.seq) && c.mask.testBit e.cls) ∧ l ≠ []) { conns with ev := { conns.ev with log := [(0, [⟨3, 9, 9, 0x0101, 1, 0, 5, none⟩, ⟨4, 9, 9, 0x0401, 4, 0, 6, none⟩])] } } 4 5 ⟨.service, false, 0, 255, 0⟩ [⟨3, 9, 9, 0x0101, 1, 0, 5, none⟩, ⟨4, 9, 9, 0x0401, 4, 0, 6, none⟩])
    ∧ ((fun (s : State) (_dt conn : Nat) (c : Conn) => s.mgmtConn conn = some c ∧ s.eventLog.length < 524288 ∧ s.eventLog.filter (fun e => decide (c.sentSeq ≤ e.seq) && c.mask.testBit e.cls) = []) conns 4 5 ⟨.service, false, 0, 255, 0⟩)
    ∧ ((fun (s : State) (dt n : Nat) => s.host.csmsUp = true ∧ (s.tick dt).mgmtOn = true ∧ SessionRuns (s.tick dt) n) (let s := outl 7 3; { s with host := { s.host with csmsUp := true } }) 4 1)
    ∧ ((fun (s : State) (dt _cap : Nat) => s.host.csmsUp = true ∧ (s.tick dt).mgmtOn = true) { runs with host := { runs.host with csmsUp := true } } 4 50)
    ∧ ((fun (s : State) (dt n p : Nat) (_bs : List Byte) (u : State) => n < 8 ∧ s.host.csmsUp = true ∧ (s.tick dt).mgmtOn = true ∧ u = (s.tick dt).write clientAccess (Reg.ALOC_O_LIM n) (fset Fld.ALOC_O_LIM_P_MAX (s.rd (Reg.ALOC_O_LIM n)) p)) { runs with host := { runs.host with csmsUp := true } } 4 2 50 [1, 2] (({ runs with host := { runs.host with csmsUp := true } }.tick 4).write clientAccess (Reg.ALOC_O_LIM 2) (fset Fld.ALOC_O_LIM_P_MAX (runs.rd (Reg.ALOC_O_LIM 2)) 50)))
    ∧ ((fun (s : State) (dt n _cls : Nat) => n < 8 ∧ s.host.csmsUp = true ∧ (s.tick dt).mgmtOn = true) { runs with host := { runs.host with csmsUp := true } } 4 2 3)
    ∧ ((fun (s : State) (dt : Nat) (_msg : CsmsMsg) => (s.host.csmsUp = false ∨ (s.tick dt).mgmtOn = false)) runs 4 (.stop 1))
    ∧ ((fun (s : State) (_dt : Nat) => s.host.csmsUp = false) { runs with host := { runs.host with csmsFails := 2 } } 4)
    ∧ ((fun (s : State) (_dt : Nat) => s.host.csmsUp = true) { runs with host := { runs.host with csmsUp := true } } 4)
    ∧ ((fun (s : State) (dt : Nat) => (s.tick dt).mgmtOn = true) { runs with host := { runs.host with csmsQueue := [3, 4] } } 4) := by
  and_intros <;> decide +kernel

theorem test_wit_object_rows :
    ((fun (s : State) (_dt : Nat) (_tag _oid _ofs maxLen : Nat) => 65536 < maxLen ∧ s.recovery = false ∧ s.answers .host Reg.HOST_STAT = true) runs 4 7 0x08000001 0 65537)
    ∧ ((fun (s : State) (_dt _tag _oid _ofs maxLen : Nat) => maxLen ≤ 65536 ∧ s.recovery = false ∧ s.answers .host Reg.HOST_STAT = true) runs 4 7 0x08000001 0 16)
    ∧ ((fun (s : State) (_dt _tag _oid _ofs : Nat) (_last : Bool) (_bs : List Byte) => s.recovery = false ∧ s.answers .host Reg.HOST_STAT = true) runs 4 7 0x08000001 0 true [1])
    ∧ ((fun (s : State) (_dt _tag _oid : Nat) (b : Byte) => s.recovery = false ∧ s.answers .host Reg.HOST_STAT = true ∧ s.lifeCycle < 2 ∧ s.host.objPart = [] ∧ b.toNat < 3) ((runs.setF Reg.MEM_STAT Fld.MEM_STAT_LC 1)) 4 7 0x08000001 2) := by
  and_intros <;> decide +kernel

theorem test_wit_firmware_rows :
    ((fun (s : State) (_dt : Nat) (acc : Access) => Admitted s acc Reg.HOST_FW_CTRL .svc ∧ s.hasStandby = true ∧ s.host.fwWait = false) (banks 3) 4 asService)
    ∧ ((fun (s : State) (_dt : Nat) (acc : Access) => Admitted s acc Reg.HOST_FW_CTRL .svc ∧ s.hasStandby = false ∧ s.fld Reg.HOST_FW_STAT Fld.HOST_FW_STAT_RECOVERY = 0) { banks 3 with keep := { (banks 3).keep with sides := [(0, { SideRec.reset with state := .active }), (1, SideRec.off)] } } 4 asService)
    ∧ ((fun (s : State) (_dt : Nat) (acc : Access) (ofs : Nat) (_w : Word) (n : Nat) (x : Side) => Admitted s acc (0x148000 + ofs) .svc ∧ ofs < 0x8000 ∧ ofs % 4 = 0 ∧ s.host.fwXfer = some n ∧ n < 2 ∧ s.host.fwWait = false ∧ s.fld Reg.HOST_FW_OFS Fld.HOST_FW_OFS_PART = 0 ∧ s.fwSides.contains x = true) (banks 1) 4 asService 0x14 0xAABBCCDD 1 .b)
    ∧ ((fun (s : State) (_dt : Nat) (acc : Access) (ofs : Nat) (_w : Word) => Admitted s acc (0x148000 + ofs) .svc ∧ ofs < 0x8000 ∧ ofs % 4 = 0 ∧ s.host.fwXfer = none) (banks 3) 4 asService 0x14 0xAABBCCDD)
    ∧ ((fun (s : State) (_dt : Nat) (acc : Access) (n : Nat) => Admitted s acc Reg.HOST_FW_CTRL .svc ∧ s.host.fwXfer = some n ∧ n < 2 ∧ s.host.fwWait = false ∧ s.deferring = false) (banks 1) 4 asService 1)
    ∧ ((fun (s : State) (_dt : Nat) (acc : Access) (n : Nat) => Admitted s acc Reg.HOST_FW_CTRL .svc ∧ s.host.fwXfer = some n ∧ s.host.fwWait = false ∧ s.deferring = true) ((banks 1).setSide .a { SideRec.reset with state := .active, deferring := true }) 4 asService 1)
    ∧ ((fun (s : State) (_dt : Nat) (acc : Access) (n : Nat) => Admitted s acc Reg.HOST_FW_CTRL .svc ∧ s.host.fwXfer = some n ∧ n < 2 ∧ s.host.fwWait = false) (banks 1) 4 asService 1)
    ∧ ((fun (s : State) (_dt : Nat) (acc : Access) => Admitted s acc Reg.HOST_FW_CTRL .svc ∧ s.atRest = true ∧ s.contextsIdle = true ∧ s.bankState s.otherBank = 3 ∧ s.deferring = false) (banks 3) 4 asService)
    ∧ ((fun (s : State) (_dt : Nat) (acc : Access) => Admitted s acc Reg.HOST_FW_CTRL .svc ∧ (s.atRest = true → s.contextsIdle = true → s.bankState s.otherBank ≠ 3)) (banks 2) 4 asService)
    ∧ ((fun (s : State) (_dt : Nat) (acc : Access) => Admitted s acc Reg.HOST_FW_CTRL .svc ∧ s.fld Reg.HOST_FW_STAT Fld.HOST_FW_STAT_TRIAL = 1) ((banks 3).setF Reg.HOST_FW_STAT Fld.HOST_FW_STAT_TRIAL 1) 4 asService)
    ∧ ((fun (s : State) (dt : Nat) => s.fld Reg.HOST_FW_STAT Fld.HOST_FW_STAT_TRIAL = 1 ∧ s.running = true ∧ (s.fld Reg.PWR_STAT Fld.PWR_STAT_RUN_READY = 0 ∧ (s.tick dt).tStart ≤ (s.tick dt).sinceLife s.sup.ladderAt) ∨ Config.sec (60 * s.fld Reg.HOST_CFG Fld.HOST_CFG_FW_WINDOW) ≤ (s.tick dt).sinceLife s.host.fwTrialStart) ((banks 3).setF Reg.HOST_FW_STAT Fld.HOST_FW_STAT_TRIAL 1) (Config.sec 4))
    ∧ ((fun (s : State) (_dt : Nat) => s.fld Reg.HOST_FW_STAT Fld.HOST_FW_STAT_TRIAL = 0) (banks 3) (Config.sec 4))
    ∧ ((fun (s : State) (_dt : Nat) => s.fld Reg.HOST_FW_STAT Fld.HOST_FW_STAT_REVERT_DUE = 1 ∧ s.running = true ∧ s.keep.guardFault = false ∧ s.atRest = true) ((banks 3).setF Reg.HOST_FW_STAT Fld.HOST_FW_STAT_REVERT_DUE 1) 4) := by
  and_intros <;> decide +kernel

theorem test_wit_sram_port_rules :
    ((fun (s t u : State) (x : Side) (r0 r1 : MemReq) => r0.port1 = false ∧ r1.port1 = true ∧ r0.ok = true ∧ r1.ok = true ∧ r0.cls < 4 ∧ r1.cls < 4 ∧ r1.crosses = false ∧ r0.addr / 8 = r1.addr / 8 ∧ s.ports x = SramPorts.reset ∧ t = s.sramPeriod x [r0, r1] ∧ u = t.sramPeriod x []) runs (runs.sramPeriod .a [⟨false, 0, 3, 0x10008, 8, some 0x1122334455667788⟩, ⟨true, 3, 1, 0x1000B, 2, some 0xAABB⟩]) ((runs.sramPeriod .a [⟨false, 0, 3, 0x10008, 8, some 0x1122334455667788⟩, ⟨true, 3, 1, 0x1000B, 2, some 0xAABB⟩]).sramPeriod .a []) .a ⟨false, 0, 3, 0x10008, 8, some 0x1122334455667788⟩ ⟨true, 3, 1, 0x1000B, 2, some 0xAABB⟩)
    ∧ ((fun (s t u : State) (x : Side) (r : MemReq) => r.port1 = true ∧ r.ok = true ∧ r.cls < 4 ∧ r.crosses = true ∧ s.ports x = SramPorts.reset ∧ t = s.sramPeriod x [r] ∧ u = t.sramPeriod x []) runs (runs.sramPeriod .b [⟨true, 1, 2, 0x7FFFE, 4, some 0xDDCCBBAA⟩]) ((runs.sramPeriod .b [⟨true, 1, 2, 0x7FFFE, 4, some 0xDDCCBBAA⟩]).sramPeriod .b []) .b ⟨true, 1, 2, 0x7FFFE, 4, some 0xDDCCBBAA⟩) := by
  and_intros <;> decide +kernel

end Sys2Proof.Machine
end

namespace Sys2Proof.Machine

open Sys2Proof

/-! ### Accesses to absent units (R4 to R6, R758) -/

section
variable (s : State)

/-- An access that meets an absent unit, on a path that is answered, is what R5 and R758 record of it and nothing else: the answer is
the word 0 to a read and none to a write. -/
theorem State.access_absent (acc : Access) (addr : Nat) (wr : Option Word) (ha : s.answers acc.path addr = true)
    (hm : outOfMap addr = false) (hu : s.absentHere acc.path addr = true) :
    s.access acc addr wr = (s.touchAbsent acc addr).answer (match wr with | none => [0] | some _ => []) 0 := by
  cases wr with
  | none => simp [State.access, State.busRead, ha, hm, hu]
  | some v => simp [State.access, State.write, ha, hm, hu]

/-- The event of an access to an absent unit carries the role, the path and the address (R5, R763). -/
theorem State.posted_touchAbsent (acc : Access) (addr : Nat) :
    Posted Ev.ABSENT (accArg acc addr) s (s.touchAbsent acc addr) := by
  have h := s.posted_postFull Ev.ABSENT s.tm.ts (accArg acc addr) false
  simp [Posted, State.touchAbsent, State.postArg, h]

/-- The access is recorded in SYS_ERR and SYS_ERR_ADDR, and no other register changes (R758). -/
theorem State.regsBut_touchAbsent (acc : Access) (addr : Nat) :
    RegsBut [Reg.SYS_ERR, Reg.SYS_ERR_ADDR] s (s.touchAbsent acc addr) := by
  intro a ha
  obtain ⟨hne, hna⟩ : a ≠ Reg.SYS_ERR ∧ a ≠ Reg.SYS_ERR_ADDR := by simpa using ha
  simp [State.touchAbsent, State.setErr, State.rd_wr, State.rd_raise, hne, hna]

theorem State.fld_sysErrAbsent_touchAbsent (acc : Access) (addr : Nat) :
    (s.touchAbsent acc addr).fld Reg.SYS_ERR Fld.SYS_ERR_ABSENT = 1 := by
  rw [State.touchAbsent, State.setErr, State.fld_wr_other _ _ _ _ _ (by decide)]
  exact State.fld_raise_same _ _ 2 (by decide)

theorem State.rd_sysErrAddr_touchAbsent (acc : Access) (addr : Nat) :
    (s.touchAbsent acc addr).rd Reg.SYS_ERR_ADDR = accArg acc addr := by
  simp [State.touchAbsent, State.setErr]

end

/-- Settles O10: the access is what R5 and R758 record of it, so each clause is the lemma about that record. -/
theorem absentUnitAnswersZero : Obligations.AbsentUnitAnswersZero := by
  intro s dt addr acc wr ha hm hu
  refine ⟨_, rfl, ?_⟩
  rw [State.access_absent _ acc addr wr (by simpa using ha) hm (by simpa using hu)]
  refine ⟨rfl, State.posted_touchAbsent _ acc addr, ?_, ?_, ?_, rfl⟩
  · intro a h
    simpa using State.regsBut_touchAbsent (s.tick dt) acc addr a h
  · simpa using State.fld_sysErrAbsent_touchAbsent (s.tick dt) acc addr
  · simpa using State.rd_sysErrAddr_touchAbsent (s.tick dt) acc addr

end Sys2Proof.Machine

namespace Sys2Proof.Machine

open Sys2Proof

/-- From s to t the ordering code and the queue of waiting commands stayed: the two parts of the state that no operation of the module
writes, a reset included (R1, R2; log entry 1). -/
@[simp] abbrev Keeps (s t : State) : Prop := t.variant = s.variant ∧ t.pending = s.pending

theorem Keeps.trans {s t u : State} (h : Keeps s t) (h' : Keeps t u) : Keeps s u := ⟨h'.1.trans h.1, h'.2.trans h.2⟩

/-- `Keeps` as a definition that does not unfold by itself: the kernel compares two such statements by the terms of their states,
where for `Keeps` it evaluates the states down to the field, arithmetic of a control law included. -/
def Kept (s t : State) : Prop := Keeps s t

theorem Kept.keeps {s t : State} (h : Kept s t) : Keeps s t := h

/-- `Keeps` along an equation that names the state in a pair which an operation answers. -/
theorem Keeps.of_fst {α : Type} {s t : State} {a : α} {p : State × α} (h : Keeps s p.1) (e : p = (t, a)) : Keeps s t := by
  subst e; exact h

theorem Keeps.of_snd {α : Type} {s t : State} {a : α} {p : α × State} (h : Keeps s p.2) (e : p = (a, t)) : Keeps s t := by
  subst e; exact h

/-- A next state that a command answers keeps both. -/
def OutKeeps (s : State) (o : Out) : Prop := ∀ t, o = .next t → Keeps s t

@[simp] theorem outKeeps_next (s t : State) : OutKeeps s (.next t) ↔ Keeps s t := by simp [OutKeeps]

@[simp] theorem outKeeps_ite (s : State) (c : Prop) [Decidable c] (a b : Out) :
    OutKeeps s (if c then a else b) ↔ if c then OutKeeps s a else OutKeeps s b := by split <;> rfl

@[simp] theorem State.variant_ite (c : Prop) [Decidable c] (s t : State) :
    (if c then s else t).variant = if c then s.variant else t.variant := apply_ite State.variant c s t

@[simp] theorem State.pending_ite (c : Prop) [Decidable c] (s t : State) :
    (if c then s else t).pending = if c then s.pending else t.pending := apply_ite State.pending c s t

@[simp] theorem foldl_keeps {α : Type} {f : State → α → State} (h : ∀ t x, Keeps t (f t x)) (l : List α) (s : State) :
    Keeps s (l.foldl f s) := by
  induction l generalizing s with
  | nil => simp
  | cons x l ih => exact (h s x).trans (ih (f s x))

/-! ### One rule per operation

The operations stand in the model's order, so each rule follows from those of the operations the body calls: `simp` composes them, and where the
body branches on a result the split is written. -/

section
variable (s : State)

theorem State.tick_keeps (dt : Nat) : Keeps s (s.tick dt) := ⟨rfl, rfl⟩
theorem State.wr_keeps (a : Nat) (v : Word) : Keeps s (s.wr a v) := ⟨rfl, rfl⟩
theorem State.setF_keeps (a : Nat) (f : Field) (v : Nat) : Keeps s (s.setF a f v) := ⟨rfl, rfl⟩
theorem State.setFS_keeps (a : Nat) (f : Field) (v : Int) : Keeps s (s.setFS a f v) := ⟨rfl, rfl⟩

@[simp] theorem State.postFull_keeps (code : Nat) (ts : Count) (arg : Word) (summary : Bool) (only : Option Side) :
    Keeps s (s.postFull code ts arg summary only) := ⟨rfl, rfl⟩

/-! ### Queues and events -/

@[simp] theorem State.freshWord_keeps : Keeps s s.freshWord.2 := ⟨rfl, rfl⟩
@[simp] theorem State.freshInt_keeps : Keeps s s.freshInt.2 := ⟨rfl, rfl⟩
@[simp] theorem State.freshBool_keeps : Keeps s s.freshBool.2 := ⟨rfl, rfl⟩
@[simp] theorem State.postLimited_keeps (code inst cause count key : Nat) (only : Option Side) :
    Keeps s (s.postLimited code inst cause count key only) := by
  unfold State.postLimited; split <;> simp
@[simp] theorem State.queuesEmpty_keeps (x : Side) : Keeps s (s.queuesEmpty x) := ⟨rfl, rfl⟩
@[simp] theorem State.creditsBack_keeps (x : Side) (q n : Nat) : Keeps s (s.creditsBack x q n) := by simp [State.creditsBack]
@[simp] theorem State.giveBack_keeps (x : Side) (q : Nat) (rest : List QEntry) : Keeps s (s.giveBack x q rest) := by simp [State.giveBack]
@[simp] theorem State.queueLoss_keeps (x : Side) (q : Nat) : Keeps s (s.queueLoss x q) := by simp [State.queueLoss]
@[simp] theorem State.gapOffer_keeps (x : Side) (q : Nat) (v : Int) (ts : Count) (src ep : Nat) (more : List Word) :
    Keeps s (s.gapOffer x q v ts src ep more) := by simp [State.gapOffer]
@[simp] theorem State.replaceOffer_keeps (x : Side) (q : Nat) (v : Int) (ts inst : Count) (src ep : Nat) :
    Keeps s (s.replaceOffer x q v ts inst src ep) := by simp [State.replaceOffer]
@[simp] theorem State.queueTake_keeps (x : Side) (q : Nat) : Keeps s (s.queueTake x q).2 := by
  unfold State.queueTake; split <;> simp
@[simp] theorem State.evFree_keeps (x : Side) (n : Nat) : Keeps s (s.evFree x n) := ⟨rfl, rfl⟩
@[simp] theorem State.enter_keeps (x : Side) (e : EvEntry) : Keeps s (s.enter x e) := by simp [State.enter]
@[simp] theorem State.flushEvents_keeps : Keeps s s.flushEvents := by simp [State.flushEvents]

/-! ### Register access (R727, R751 to R759) -/

@[simp] theorem State.irqShow_keeps : Keeps s s.irqShow := ⟨rfl, rfl⟩
@[simp] theorem State.touchAbsent_keeps (acc : Access) (addr : Nat) : Keeps s (s.touchAbsent acc addr) := by simp [State.touchAbsent]
@[simp] theorem State.touchReserved_keeps (acc : Access) (addr : Nat) : Keeps s (s.touchReserved acc addr) := by simp [State.touchReserved]
@[simp] theorem State.touchOutOfMap_keeps (acc : Access) (addr : Nat) : Keeps s (s.touchOutOfMap acc addr) := by
  unfold State.touchOutOfMap; split <;> simp
@[simp] theorem State.takeSnap_keeps (p : Path) : Keeps s (s.takeSnap p) := ⟨rfl, rfl⟩
@[simp] theorem State.readReg_keeps (p : Path) (addr : Nat) : Keeps s (s.readReg p addr).2 := by
  simp only [State.readReg]; (repeat' split) <;> simp
@[simp] theorem State.busRead_keeps (acc : Access) (addr : Nat) : Keeps s (s.busRead acc addr).2 := by
  simp only [State.busRead]; (repeat' split) <;> simp
@[simp] theorem State.notePersist_keeps (addr : Nat) (val : Word) : Keeps s (s.notePersist addr val) := ⟨rfl, rfl⟩
@[simp] theorem State.setApplied_keeps (p : Path) (addr : Nat) (w : Word) : Keeps s (s.setApplied p addr w) := by simp [State.setApplied]
@[simp] theorem State.stage_keeps (n : Nat) (acc : Access) (addr : Nat) (r : RegSpec) (val : Word) :
    Keeps s (s.stage n acc addr r val) := by simp [State.stage]
@[simp] theorem State.applyPlain_keeps (acc : Access) (addr : Nat) (r : RegSpec) (val : Word) :
    Keeps s (s.applyPlain acc addr r val) := by simp [State.applyPlain]
@[simp] theorem State.applyActing_keeps (acc : Access) (addr : Nat) (r : RegSpec) (val : Word) :
    Keeps s (s.applyActing acc addr r val) := by simp [State.applyActing]
@[simp] theorem State.writeReg_keeps (acc : Access) (addr : Nat) (r : RegSpec) (val : Word) {plain acting : State → State}
    (hplain : ∀ t, Keeps t (plain t)) (hacting : ∀ t, Keeps t (acting t)) : Keeps s (s.writeReg acc addr r val plain acting) := by
  unfold State.writeReg
  split
  · simp
  · split <;> simp [hplain, hacting]
@[simp] theorem State.busWrite_keeps (acc : Access) (addr : Nat) (val : Word) : Keeps s (s.busWrite acc addr val) := by
  simp only [State.busWrite]; (repeat' split) <;> simp
@[simp] theorem State.busAccess_keeps (acc : Access) (addr : Nat) (wr : Option Word) : Keeps s (s.busAccess acc addr wr) := by
  unfold State.busAccess; split <;> simp

/-! ### Command registers, shared queues, event snapshots -/

@[simp] theorem State.command_keeps (acc : Access) (addr : Nat) (sc : Scope) {act : State → State}
    (hact : ∀ t, Keeps t (act t)) : Keeps s (s.command acc addr sc act) := by simp [State.command, hact]
@[simp] theorem State.setting_keeps (acc : Access) (addr : Nat) (val : Word) {keep act : State → State}
    (hkeep : ∀ t, Keeps t (keep t)) (hact : ∀ t, Keeps t (act t)) : Keeps s (s.setting acc addr val keep act) := by
  refine s.command_keeps _ _ _ fun t => ?_
  split
  · exact t.writeReg_keeps _ _ _ _ (fun u => by simp [hkeep, hact]) hact
  · simp
@[simp] theorem State.fastClrWrite_keeps (acc : Access) (val : Word) : Keeps s (s.fastClrWrite acc val) := by simp [State.fastClrWrite]
@[simp] theorem execFastClr_keeps (dt : Nat) (acc : Access) (val : Word) : OutKeeps s (execFastClr dt acc val s) := by simp [execFastClr]
@[simp] theorem execQueueStallTimeout_keeps (dt : Nat) (side : Side) (queue : Nat) :
    OutKeeps s (execQueueStallTimeout dt side queue s) := by
  simp only [execQueueStallTimeout]; split <;> simp
@[simp] theorem State.setStall_keeps (x : Side) (q : Nat) (t : Option Count) : Keeps s (s.setStall x q t) := by simp [State.setStall]
@[simp] theorem execDramTagGrant_keeps (dt : Nat) (side : Side) (done : List Nat) (asks : List (Nat × Nat)) :
    OutKeeps s (execDramTagGrant dt side done asks s) := by simp [execDramTagGrant]
@[simp] theorem execEvqSnapshot_keeps (dt : Nat) (acc : Access) : OutKeeps s (execEvqSnapshot dt acc s) := by simp [execEvqSnapshot]
@[simp] theorem State.evqPopWrite_keeps (acc : Access) (val : Word) : Keeps s (s.evqPopWrite acc val) := by simp [State.evqPopWrite]
@[simp] theorem execEvqPop_keeps (dt : Nat) (acc : Access) (val : Word) : OutKeeps s (execEvqPop dt acc val s) := by simp [execEvqPop]

/-! ### The structure image -/

@[simp] theorem State.showRest_keeps : Keeps s s.showRest := ⟨rfl, rfl⟩
@[simp] theorem State.emptyOn_keeps (n st : Nat) (x : Side) : Keeps s (s.emptyOn n st x) := by simp [State.emptyOn]
@[simp] theorem State.emptySlot_keeps (n st : Nat) : Keeps s (s.emptySlot n st) := by simp [State.emptySlot]
@[simp] theorem State.imgOpen_keeps : Keeps s s.imgOpen := by simp [State.imgOpen]
@[simp] theorem State.imgClose_keeps : Keeps s s.imgClose := by
  unfold State.imgClose; split <;> simp
@[simp] theorem State.imgCancel_keeps : Keeps s s.imgCancel := by
  unfold State.imgCancel; split <;> simp
@[simp] theorem State.imgLost_keeps : Keeps s s.imgLost := by
  unfold State.imgLost; split <;> simp
@[simp] theorem State.imgXferWrite_keeps (acc : Access) (val : Word) : Keeps s (s.imgXferWrite acc val) := by simp [State.imgXferWrite]
@[simp] theorem execImgOpen_keeps (dt : Nat) (acc : Access) : OutKeeps s (execImgOpen dt acc s) := by simp [execImgOpen]
@[simp] theorem execImgClose_keeps (dt : Nat) (acc : Access) : OutKeeps s (execImgClose dt acc s) := by simp [execImgClose]
@[simp] theorem execImgCancel_keeps (dt : Nat) (acc : Access) : OutKeeps s (execImgCancel dt acc s) := by simp [execImgCancel]
@[simp] theorem State.imgDataWrite_keeps (acc : Access) (addr : Nat) (val : Word) : Keeps s (s.imgDataWrite acc addr val) := by
  refine s.command_keeps _ _ _ fun t => ?_
  split <;> simp
@[simp] theorem execImgDataWrite_keeps (dt : Nat) (acc : Access) (addr : Nat) (val : Word) :
    OutKeeps s (execImgDataWrite dt acc addr val s) := by simp [execImgDataWrite]
@[simp] theorem State.judgeSlot_keeps (n st code : Nat) (x : Side) : Keeps s (s.judgeSlot n st code x) := ⟨rfl, rfl⟩
@[simp] theorem State.precheckEnds_keeps (n : Nat) : Keeps s (s.precheckEnds n) := by
  unfold State.precheckEnds; split <;> simp
@[simp] theorem execSlotPrecheckDone_keeps (dt : Nat) : OutKeeps s (execSlotPrecheckDone dt s) := by
  simp only [execSlotPrecheckDone]; split <;> simp
@[simp] theorem State.wrMask_keeps (addr : Nat) (mask v : Word) : Keeps s (s.wrMask addr mask v) := ⟨rfl, rfl⟩
@[simp] theorem State.showSafety_keeps : Keeps s s.showSafety := by simp [State.showSafety]
@[simp] theorem State.resetUnused_keeps (g : Nat → Byte) : Keeps s (s.resetUnused g) := ⟨rfl, rfl⟩
@[simp] theorem State.shiftsUsed_keeps : Keeps s s.shiftsUsed := by simp [State.shiftsUsed]
@[simp] theorem State.install_keeps (n : Nat) : Keeps s (s.install n) := by
  unfold State.install
  extract_lets g all ts store s1 s2 s3
  have h3 : Keeps s s3 :=
    Keeps.trans (by simp [s2, s1]) (foldl_keeps (fun t r => by split <;> simp) _ _)
  clear_value s3
  simp +zetaDelta [h3]
@[simp] theorem State.loadFailed_keeps (n : Nat) (f : Nat × Nat) : Keeps s (s.loadFailed n f) := ⟨rfl, rfl⟩
@[simp] theorem State.imgRevokeWrite_keeps (acc : Access) (val : Word) :
    Keeps s (s.imgRevokeWrite acc val) := by simp [State.imgRevokeWrite]
@[simp] theorem execImgRevoke_keeps (dt : Nat) (acc : Access) (val : Word) :
    OutKeeps s (execImgRevoke dt acc val s) := by simp [execImgRevoke]
@[simp] theorem State.imgMinVerWrite_keeps (acc : Access) (val : Word) :
    Keeps s (s.imgMinVerWrite acc val) := by simp [State.imgMinVerWrite]
@[simp] theorem execImgMinVerWrite_keeps (dt : Nat) (acc : Access) (val : Word) :
    OutKeeps s (execImgMinVerWrite dt acc val s) := by simp [execImgMinVerWrite]
@[simp] theorem State.writeTuning_keeps : Keeps s s.writeTuning := by
  unfold State.writeTuning; split <;> simp
@[simp] theorem execTuningStoreWrite_keeps (dt : Nat) : OutKeeps s (execTuningStoreWrite dt s) := by simp [execTuningStoreWrite]

/-! ### Placement epochs and trial watches -/

@[simp] theorem State.showEpoch_keeps : Keeps s s.showEpoch := ⟨rfl, rfl⟩
@[simp] theorem State.bumpEpoch_keeps (k : Nat) : Keeps s (s.bumpEpoch k) := by simp [State.bumpEpoch]
@[simp] theorem State.raiseEpochs_keeps (es : SMap Nat) (base d : Nat) : Keeps s (s.raiseEpochs es base d) := ⟨rfl, rfl⟩
@[simp] theorem State.freshEpochs_keeps : Keeps s s.freshEpochs := ⟨rfl, rfl⟩
@[simp] theorem State.fenceDiscard_keeps (consumer : Nat) : Keeps s (s.fenceDiscard consumer) := by simp [State.fenceDiscard]
@[simp] theorem State.trialRollback_keeps (n reason : Nat) : Keeps s (s.trialRollback n reason) := by simp [State.trialRollback]
@[simp] theorem State.watchHit_keeps (b reason : Nat) (holds : Ctx → Bool) : Keeps s (s.watchHit b reason holds) := by simp [State.watchHit]
@[simp] theorem State.watchQset_keeps : Keeps s s.watchQset := by simp [State.watchQset]
@[simp] theorem State.watchSafe_keeps : Keeps s s.watchSafe := by simp [State.watchSafe]
@[simp] theorem State.watchFailover_keeps : Keeps s s.watchFailover := by simp [State.watchFailover]
@[simp] theorem State.watchOutlet_keeps (n : Nat) : Keeps s (s.watchOutlet n) := by simp [State.watchOutlet]
@[simp] theorem State.watchSst_keeps : Keeps s s.watchSst := by simp [State.watchSst]
@[simp] theorem State.watchSat_keeps (n run : Nat) : Keeps s (s.watchSat n run) := by simp [State.watchSat]

/-! ### Calendar time -/

@[simp] theorem State.showTai_keeps : Keeps s s.showTai := ⟨rfl, rfl⟩

/-! ### Message ports -/

@[simp] theorem State.setCan_keeps (x : Side) (k : Nat) (e : CanEng) : Keeps s (s.setCan x k e) := ⟨rfl, rfl⟩
@[simp] theorem State.setCanMode_keeps (k m : Nat) : Keeps s (s.setCanMode k m) := ⟨rfl, rfl⟩
@[simp] theorem State.canBoth_keeps (k : Nat) (f : CanEng → CanEng) : Keeps s (s.canBoth k f) := by simp [State.canBoth]
@[simp] theorem State.canPost_keeps (code k inst detail : Nat) : Keeps s (s.canPost code k inst detail) := ⟨rfl, rfl⟩
@[simp] theorem State.canRefuse_keeps (k p : Nat) : Keeps s (s.canRefuse k p) := ⟨rfl, rfl⟩
@[simp] theorem State.portWrite_keeps (k p named : Nat) (m : CanMsg) : Keeps s (s.portWrite k p named m) := by
  simp only [State.portWrite]; split <;> simp
@[simp] theorem State.setEth_keeps (x : Side) (q : List (List Byte)) : Keeps s (s.setEth x q) := ⟨rfl, rfl⟩
@[simp] theorem State.ethSend_keeps (bs : List Byte) : Keeps s (s.ethSend bs) := by simp [State.ethSend]
@[simp] theorem State.ethCycle_keeps (n : Nat) : Keeps s (s.ethCycle n) := by simp [State.ethCycle]
@[simp] theorem State.ethFailover_keeps (lost : Side) : Keeps s (s.ethFailover lost) := by simp [State.ethFailover]

/-! ### Module reset and wakes -/

@[simp] theorem cellStates_keeps (t : State) : Keeps t (cellStates s t) := by simp [cellStates]
@[simp] theorem State.afterReset_keeps : Keeps s s.afterReset := ⟨rfl, rfl⟩
@[simp] theorem State.endRun_keeps : Keeps s s.endRun := ⟨rfl, rfl⟩
@[simp] theorem State.cleared_keeps : Keeps s s.cleared := by simp [State.cleared]
@[simp] theorem State.moduleReset_keeps (kind : Nat) : Keeps s (s.moduleReset kind) := by simp [State.moduleReset]
@[simp] theorem State.wakeSource_keeps (src : WakeSrc) (inst : Nat) : Keeps s (s.wakeSource src inst) := by simp [State.wakeSource]

/-! ### Ring transmitters -/

@[simp] theorem State.setPort_keeps (p : Nat) (t : PortTx) : Keeps s (s.setPort p t) := ⟨rfl, rfl⟩
@[simp] theorem State.pumpPort_keeps (p : Nat) : Keeps s (s.pumpPort p) := by simp [State.pumpPort]
@[simp] theorem State.pump_keeps : Keeps s s.pump := by simp [State.pump]
@[simp] theorem State.sendFrame_keeps (p : Nat) (f : TxFrame) : Keeps s (s.sendFrame p f) := by simp [State.sendFrame]
@[simp] theorem State.sendDue_keeps (p ty addr epoch due : Nat) (pay : List Byte) :
    Keeps s (s.sendDue p ty addr epoch due pay) := by simp [State.sendDue]
@[simp] theorem State.sendDown_keeps (p ty addr epoch : Nat) (pay : List Byte) :
    Keeps s (s.sendDown p ty addr epoch pay) := by simp [State.sendDown]
@[simp] theorem State.tripOut_keeps (kind groups : Nat) : Keeps s (s.tripOut kind groups) := by simp [State.tripOut]
@[simp] theorem State.tripTake_keeps (free : Nat → Nat) : Keeps s (s.tripTake free) := ⟨rfl, rfl⟩
@[simp] theorem State.dropScheds_keeps : Keeps s s.dropScheds := by simp [State.dropScheds]

/-! ### Quickset -/

@[simp] theorem State.setPair_keeps (x : Side) (n : Nat) (p : Pair) : Keeps s (s.setPair x n p) := ⟨rfl, rfl⟩
@[simp] theorem State.pstat_keeps (n : Nat) (f : Field) (v : Nat) : Keeps s (s.pstat n f v) := by simp [State.pstat]
@[simp] theorem State.holdPairs_keeps : Keeps s s.holdPairs := by simp [State.holdPairs]
@[simp] theorem State.showLatches_keeps : Keeps s s.showLatches := ⟨rfl, rfl⟩
@[simp] theorem State.sendSet_keeps : Keeps s s.sendSet := by simp [State.sendSet]
@[simp] theorem State.recordFirst_keeps (was : Bool) (src : Nat) : Keeps s (s.recordFirst was src) := by simp [State.recordFirst]
@[simp] theorem State.qsetKeep_keeps (src : Nat) : Keeps s (s.qsetKeep src) := by simp [State.qsetKeep]
@[simp] theorem State.qsetTrip_keeps (src : Nat) : Keeps s (s.qsetTrip src) := by simp [State.qsetTrip]
@[simp] theorem State.qsetSource_keeps (src : Nat) (active : Bool) : Keeps s (s.qsetSource src active) := by simp [State.qsetSource]
@[simp] theorem State.qsetPulse_keeps (src : Nat) : Keeps s (s.qsetPulse src) := by simp [State.qsetPulse]
@[simp] theorem State.qsetClearOne_keeps (src : Nat) : Keeps s (s.qsetClearOne src) := by simp [State.qsetClearOne]
@[simp] theorem State.sendClear_keeps (freed : Nat) : Keeps s (s.sendClear freed) := by simp [State.sendClear]
@[simp] theorem State.qsetClear_keeps (srcs : List Nat) : Keeps s (s.qsetClear srcs) := by simp [State.qsetClear]
@[simp] theorem State.qsetClearAll_keeps (srcs : List Nat) : Keeps s (s.qsetClearAll srcs) := by simp [State.qsetClearAll]
@[simp] theorem State.qsetClrWrite_keeps (acc : Access) (k : Nat) (val : Word) :
    Keeps s (s.qsetClrWrite acc k val) := by simp [State.qsetClrWrite]
@[simp] theorem execQsetClr_keeps (dt : Nat) (acc : Access) (k : Nat) (val : Word) :
    OutKeeps s (execQsetClr dt acc k val s) := by simp [execQsetClr]
@[simp] theorem State.qsetForceWrite_keeps (acc : Access) (val : Word) :
    Keeps s (s.qsetForceWrite acc val) := by simp [State.qsetForceWrite]
@[simp] theorem execQsetForce_keeps (dt : Nat) (acc : Access) (val : Word) :
    OutKeeps s (execQsetForce dt acc val s) := by simp [execQsetForce]
@[simp] theorem State.forceGroup_keeps (g : Nat) : Keeps s (s.forceGroup g) := by simp [State.forceGroup]
@[simp] theorem execTripPadActive_keeps (dt k : Nat) (level : Bool) (held : Nat) :
    OutKeeps s (execTripPadActive dt k level held s) := by simp [execTripPadActive]
@[simp] theorem State.comparator_keeps (ch : Nat) (code : Int) : Keeps s (s.comparator ch code) := by simp [State.comparator]
@[simp] theorem execWindowComparatorTrip_keeps (dt ch : Nat) (code : Int) :
    OutKeeps s (execWindowComparatorTrip dt ch code s) := by simp [execWindowComparatorTrip]
@[simp] theorem execTripClearRepeat_keeps (dt : Nat) : OutKeeps s (execTripClearRepeat dt s) := by
  simp only [execTripClearRepeat]; split <;> simp

/-! ### Memory ports -/

@[simp] theorem State.setPorts_keeps (x : Side) (p : SramPorts) : Keeps s (s.setPorts x p) := ⟨rfl, rfl⟩
@[simp] theorem State.memStore_keeps (x : Side) (es : List (Nat × Byte)) : Keeps s (s.memStore x es) := by simp [State.memStore]
@[simp] theorem State.sramPeriod_keeps (x : Side) (new : List MemReq) : Keeps s (s.sramPeriod x new) := by simp [State.sramPeriod]
@[simp] theorem State.sramIdle_keeps (n : Nat) (x : Side) : Keeps s (State.sramIdle n s x) := by
  induction n generalizing s with
  | zero => simp [State.sramIdle]
  | succ n ih => simp [State.sramIdle, ih]
@[simp] theorem State.dramAccess_keeps (x : Side) (r : MemReq) : Keeps s (s.dramAccess x r) := by
  simp only [State.dramAccess]; (repeat' split) <;> simp
@[simp] theorem State.memTurn_keeps (t : MemTurn) : Keeps s (s.memTurn t) := by simp [State.memTurn]
@[simp] theorem State.memTurns_keeps (ts : List MemTurn) : Keeps s (s.memTurns ts) := by simp [State.memTurns]
@[simp] theorem State.memCopy_keeps (y x : Side) (ctrlMb : Nat) : Keeps s (s.memCopy y x ctrlMb) := by simp [State.memCopy]
@[simp] theorem State.memLost_keeps (x : Side) : Keeps s (s.memLost x) := ⟨rfl, rfl⟩

/-! ### Acquisition -/

@[simp] theorem State.setEng_keeps (x : Side) (n : Nat) (e : AcqEng) : Keeps s (s.setEng x n e) := ⟨rfl, rfl⟩
@[simp] theorem State.recordGone_keeps (x : Side) (n no : Nat) : Keeps s (s.recordGone x n no) := by simp [State.recordGone]
@[simp] theorem State.makeRoom_keeps (x : Side) (n need : Nat) : Keeps s (s.makeRoom x n need) := by simp [State.makeRoom]
@[simp] theorem State.postRecord_keeps (x : Side) (n : Nat) : Keeps s (s.postRecord x n) := by simp [State.postRecord]
@[simp] theorem State.closeRecord_keeps (x : Side) (n flags : Nat) (tail : Option AcqItem) : Keeps s (s.closeRecord x n flags tail) := by
  simp only [State.closeRecord]; split <;> simp
@[simp] theorem State.armEngine_keeps (x : Side) (n : Nat) (fresh : Bool) : Keeps s (s.armEngine x n fresh) := ⟨rfl, rfl⟩
@[simp] theorem State.finishRecord_keeps (x : Side) (n flags : Nat) : Keeps s (s.finishRecord x n flags) := by simp [State.finishRecord]
@[simp] theorem State.storeSample_keeps (x : Side) (n : Nat) (r : AcqRec) (i : AcqItem) :
    Keeps s (s.storeSample x n r i) := by simp [State.storeSample]
@[simp] theorem State.checkPost_keeps (x : Side) (n : Nat) : Keeps s (s.checkPost x n) := by
  simp only [State.checkPost]; split <;> simp
@[simp] theorem State.takeSample_keeps (x : Side) (n : Nat) (i : AcqItem) : Keeps s (s.takeSample x n i) := by
  simp only [State.takeSample]; split <;> simp
@[simp] theorem State.fireEngine_keeps (x : Side) (n unit : Nat) (ts busTs : Count) (k : Nat) :
    Keeps s (s.fireEngine x n unit ts busTs k) := by
  simp only [State.fireEngine]
  split
  · refine Keeps.trans ?_ (foldl_keeps (fun t i => ?_) _ _)
    · simp
    · split <;> simp
  · split <;> simp
@[simp] theorem State.addFire_keeps (x : Side) (n : Nat) (f : AcqFire) : Keeps s (s.addFire x n f) := by simp [State.addFire]
@[simp] theorem State.chainFire_keeps (x : Side) (n : Nat) (ts mono : Count) :
    Keeps s (s.chainFire x n ts mono) := by simp [State.chainFire]
@[simp] theorem State.fireAt_keeps (x : Side) (n unit : Nat) (ts busTs : Count) :
    Keeps s (s.fireAt x n unit ts busTs) := by simp [State.fireAt]
@[simp] theorem State.acqBusFrame_keeps (ctrl : Nat) (ide : Bool) (id : Nat) (data old : List Byte) (hadOld : Bool) (sof : Count) :
    Keeps s (s.acqBusFrame ctrl ide id data old hadOld sof) := foldl_keeps (fun t x => by simp) _ s
@[simp] theorem State.drainQueue_keeps (k : Nat) (x : Side) (n : Nat) : Keeps s (State.drainQueue k x n s) := by
  induction k generalizing s with
  | zero => simp [State.drainQueue]
  | succ k ih =>
    have hq := s.queueTake_keeps x (109 + n)
    rw [State.drainQueue]
    split <;> rename_i h <;> rw [h] at hq
    · exact hq.trans ((Keeps.trans (by simp) (ih _)))
    · exact hq
@[simp] theorem State.sampleSide_keeps (x : Side) (n : Nat) (digital : List Nat) (edges : List (Nat × Bool × Count)) (taken : Nat) :
    Keeps s (s.sampleSide x n digital edges taken) := by
  simp only [State.sampleSide]
  split
  · simp
  · simp
    split <;> simp
@[simp] theorem execAcqSample_keeps (dt n : Nat) (digital : List Nat) (edges : List (Nat × Bool × Count)) (takenA takenB : Nat) :
    OutKeeps s (execAcqSample dt n digital edges takenA takenB s) := by simp [execAcqSample]
@[simp] theorem State.stopEngine_keeps (x : Side) (n : Nat) : Keeps s (s.stopEngine x n) := by simp [State.stopEngine]
@[simp] theorem State.acqOrder_keeps (n bits : Nat) : Keeps s (s.acqOrder n bits) := by simp [State.acqOrder]
@[simp] theorem State.acqCtrlWrite_keeps (acc : Access) (n : Nat) (val : Word) :
    Keeps s (s.acqCtrlWrite acc n val) := by simp [State.acqCtrlWrite]
@[simp] theorem State.acqCmdAllWrite_keeps (acc : Access) (val : Word) :
    Keeps s (s.acqCmdAllWrite acc val) := by simp [State.acqCmdAllWrite]
@[simp] theorem State.acqCmdWrite_keeps (acc : Access) (addr : Nat) (val : Word) :
    Keeps s (s.acqCmdWrite acc addr val) := by simp [State.acqCmdWrite]
@[simp] theorem State.acqRefuse_keeps (x : Side) (n : Nat) : Keeps s (s.acqRefuse x n) := by simp [State.acqRefuse]
@[simp] theorem State.acqApply_keeps (x : Side) (n bits : Nat) : Keeps s (s.acqApply x n bits) := by simp [State.acqApply]
@[simp] theorem State.acqBoundary_keeps : Keeps s s.acqBoundary := by simp [State.acqBoundary]
@[simp] theorem execAcqArm_keeps (dt : Nat) (acc : Access) (addr : Nat) (val : Word) :
    OutKeeps s (execAcqArm dt acc addr val s) := by simp [execAcqArm]
@[simp] theorem execAcqStop_keeps (dt : Nat) (acc : Access) (n : Nat) (val : Word) :
    OutKeeps s (execAcqStop dt acc n val s) := by simp [execAcqStop]
@[simp] theorem execAcqTrig_keeps (dt : Nat) (acc : Access) (addr : Nat) (val : Word) :
    OutKeeps s (execAcqTrig dt acc addr val s) := by simp [execAcqTrig]
@[simp] theorem execClearStore_keeps (dt : Nat) (acc : Access) (n : Nat) (val : Word) :
    OutKeeps s (execClearStore dt acc n val s) := by simp [execClearStore]
@[simp] theorem State.timeFire_keeps (x : Side) (n : Nat) : Keeps s (s.timeFire x n) := by simp [State.timeFire]
@[simp] theorem execAcqTimeTrigger_keeps (dt n : Nat) : OutKeeps s (execAcqTimeTrigger dt n s) := by simp [execAcqTimeTrigger]
@[simp] theorem execAcqSeqTimeout_keeps (dt n : Nat) : OutKeeps s (execAcqSeqTimeout dt n s) := by simp [execAcqSeqTimeout]
@[simp] theorem execAcqHoldoffExpiry_keeps (dt n : Nat) : OutKeeps s (execAcqHoldoffExpiry dt n s) := by simp [execAcqHoldoffExpiry]
@[simp] theorem State.acqRdSelect_keeps (p : Path) (val : Word) : Keeps s (s.acqRdSelect p val) := ⟨rfl, rfl⟩
@[simp] theorem State.acqRdSelWrite_keeps (acc : Access) (val : Word) : Keeps s (s.acqRdSelWrite acc val) := by simp [State.acqRdSelWrite]
@[simp] theorem execAcqRecordRequest_keeps (dt : Nat) (acc : Access) (val : Word) :
    OutKeeps s (execAcqRecordRequest dt acc val s) := by simp [execAcqRecordRequest]
@[simp] theorem State.fillWindow_keeps (p : Path) (bs : List Byte) : Keeps s (s.fillWindow p bs) := by simp [State.fillWindow]
@[simp] theorem execAcqRecordReady_keeps (dt : Nat) (p : Path) : OutKeeps s (execAcqRecordReady dt p s) := by
  simp only [execAcqRecordReady]; (repeat' split) <;> simp
@[simp] theorem State.acqClrWrite_keeps (acc : Access) (val : Word) : Keeps s (s.acqClrWrite acc val) := by simp [State.acqClrWrite]
@[simp] theorem execAcqClr_keeps (dt : Nat) (acc : Access) (val : Word) : OutKeeps s (execAcqClr dt acc val s) := by simp [execAcqClr]
@[simp] theorem State.acqEmpty_keeps (x : Side) : Keeps s (s.acqEmpty x) := by simp [State.acqEmpty]
@[simp] theorem State.acqFollow_keeps (x : Side) : Keeps s (s.acqFollow x) := by simp [State.acqFollow]
@[simp] theorem State.acqStopAll_keeps : Keeps s s.acqStopAll := by simp [State.acqStopAll]
@[simp] theorem State.acqMark_keeps (f : Nat) : Keeps s (s.acqMark f) := ⟨rfl, rfl⟩

/-! ### Loop tiles -/

@[simp] theorem State.setTile_keeps (x : Side) (n : Nat) (t : Tile) : Keeps s (s.setTile x n t) := ⟨rfl, rfl⟩
@[simp] theorem State.tileOp_keeps (x : Side) (n : Nat) (f : State → Tile → Tile) : Keeps s (s.tileOp x n f) := by simp [State.tileOp]
@[simp] theorem State.residueFault_keeps (x : Side) (n : Nat) : Keeps s (s.residueFault x n) := by simp [State.residueFault]
@[simp] theorem execTileStore_keeps (dt : Nat) (x : Side) (n a q dst : Nat) (feeds : Bool) :
    OutKeeps s (execTileStore dt x n a q dst feeds s) := by simp [execTileStore]
@[simp] theorem State.wordOp_keeps (x : Side) (n : Nat) (a b : Opnd) (dst : Nat) (f : Int → Int → Int) :
    Keeps s (s.wordOp x n a b dst f) := by simp [State.wordOp]
@[simp] theorem execTileAdd_keeps (dt : Nat) (x : Side) (n : Nat) (a b : Opnd) (dst : Nat) :
    OutKeeps s (execTileAdd dt x n a b dst s) := by simp [execTileAdd]
@[simp] theorem execTileSub_keeps (dt : Nat) (x : Side) (n : Nat) (a b : Opnd) (dst : Nat) :
    OutKeeps s (execTileSub dt x n a b dst s) := by simp [execTileSub]
@[simp] theorem execTileNeg_keeps (dt : Nat) (x : Side) (n : Nat) (a : Opnd) (dst : Nat) :
    OutKeeps s (execTileNeg dt x n a dst s) := by simp [execTileNeg]
@[simp] theorem execTileAbs_keeps (dt : Nat) (x : Side) (n : Nat) (a : Opnd) (dst : Nat) :
    OutKeeps s (execTileAbs dt x n a dst s) := by simp [execTileAbs]
@[simp] theorem execTileMin_keeps (dt : Nat) (x : Side) (n : Nat) (a b : Opnd) (dst : Nat) :
    OutKeeps s (execTileMin dt x n a b dst s) := by simp [execTileMin]
@[simp] theorem execTileMax_keeps (dt : Nat) (x : Side) (n : Nat) (a b : Opnd) (dst : Nat) :
    OutKeeps s (execTileMax dt x n a b dst s) := by simp [execTileMax]
@[simp] theorem execTileScale_keeps (dt : Nat) (x : Side) (n : Nat) (a : Opnd) (sh : Int) (dst : Nat) :
    OutKeeps s (execTileScale dt x n a sh dst s) := by simp [execTileScale]
@[simp] theorem execTileLim_keeps (dt : Nat) (x : Side) (n : Nat) (a lo hi : Opnd) (dst : Nat) (feeds : Bool) :
    OutKeeps s (execTileLim dt x n a lo hi dst feeds s) := by simp [execTileLim]
@[simp] theorem execTileCmp_keeps (dt : Nat) (x : Side) (n : Nat) (r : Rel) (a b : Opnd) (c : Nat) :
    OutKeeps s (execTileCmp dt x n r a b c s) := by simp [execTileCmp]
@[simp] theorem execTileSel_keeps (dt : Nat) (x : Side) (n : Nat) (c : Cond) (a b : Opnd) (dst : Nat) :
    OutKeeps s (execTileSel dt x n c a b dst s) := by simp [execTileSel]
@[simp] theorem execTileInteg_keeps (dt : Nat) (x : Side) (n a j q lo hi : Nat) (feeds : Bool) :
    OutKeeps s (execTileInteg dt x n a j q lo hi feeds s) := by simp [execTileInteg]
@[simp] theorem execTileSincos_keeps (dt : Nat) (x : Side) (n : Nat) (a : Opnd) (ds dc : Nat) :
    OutKeeps s (execTileSincos dt x n a ds dc s) := by simp [execTileSincos]
@[simp] theorem execTileLut_keeps (dt : Nat) (x : Side) (n table : Nat) (a : Opnd) (dst : Nat) :
    OutKeeps s (execTileLut dt x n table a dst s) := by simp [execTileLut]
@[simp] theorem execTileDiv_keeps (dt : Nat) (x : Side) (n : Nat) (a b : Opnd) (f dst : Nat) :
    OutKeeps s (execTileDiv dt x n a b f dst s) := by simp [execTileDiv]
@[simp] theorem execTileSqrt_keeps (dt : Nat) (x : Side) (n : Nat) (a : Opnd) (dst : Nat) :
    OutKeeps s (execTileSqrt dt x n a dst s) := by simp [execTileSqrt]
@[simp] theorem State.retire_keeps (x : Side) (q src : Nat) : Keeps s (s.retire x q src) := by simp [State.retire]
@[simp] theorem State.loopPost_keeps (loop1 ch : Nat) (w : Word) : Keeps s (s.loopPost loop1 ch w) := by simp [State.loopPost]
@[simp] theorem State.waitMiss_keeps (x : Side) (n c dst : Nat) : Keeps s (s.waitMiss x n c dst) := by simp [State.waitMiss]
@[simp] theorem execTileIn_keeps (dt : Nat) (x : Side) (n : Nat) (src : TileSrc) (dst : Nat) :
    OutKeeps s (execTileIn dt x n src dst s) := by
  simp only [execTileIn]; (repeat' split) <;> simp
@[simp] theorem execTileWaitMiss_keeps (dt : Nat) (x : Side) (n : Nat) (src : TileSrc) (dst : Nat) :
    OutKeeps s (execTileWaitMiss dt x n src dst s) := by
  unfold execTileWaitMiss; split <;> simp
@[simp] theorem State.offerFast_keeps (ch : Nat) (v : Int) (ts : Count) : Keeps s (s.offerFast ch v ts) := by simp [State.offerFast]
@[simp] theorem State.deliverFast_keeps (ch : Nat) (code : Int) : Keeps s (s.deliverFast ch code) := by simp [State.deliverFast]
@[simp] theorem execFastSenseSample_keeps (dt ch : Nat) (code : Int) :
    OutKeeps s (execFastSenseSample dt ch code s) := by simp [execFastSenseSample]
@[simp] theorem execTileStamp_keeps (dt : Nat) (x : Side) (n dst : Nat) : OutKeeps s (execTileStamp dt x n dst s) := by simp [execTileStamp]
@[simp] theorem execTileXput_keeps (dt : Nat) (x : Side) (n w : Nat) (src : Opnd) :
    OutKeeps s (execTileXput dt x n w src s) := by simp [execTileXput]
@[simp] theorem execTileXget_keeps (dt : Nat) (x : Side) (n w dst : Nat) :
    OutKeeps s (execTileXget dt x n w dst s) := by simp [execTileXget]
@[simp] theorem execTileChainPut_keeps (dt : Nat) (x : Side) (n c : Nat) (src : Opnd) :
    OutKeeps s (execTileChainPut dt x n c src s) := by simp [execTileChainPut]
@[simp] theorem execTileChainGet_keeps (dt : Nat) (x : Side) (n c dst : Nat) : OutKeeps s (execTileChainGet dt x n c dst s) := by
  simp only [execTileChainGet]; (repeat' split) <;> simp
@[simp] theorem execTilePost_keeps (dt : Nat) (x : Side) (n ch : Nat) (src : Opnd) (named : Option TileSrc) :
    OutKeeps s (execTilePost dt x n ch src named s) := by simp [execTilePost]
@[simp] theorem execTilePub_keeps (dt : Nat) (x : Side) (n slot : Nat) (src : Opnd) :
    OutKeeps s (execTilePub dt x n slot src s) := by simp [execTilePub]
@[simp] theorem execTileRep_keeps (dt : Nat) (x : Side) (n len count : Nat) :
    OutKeeps s (execTileRep dt x n len count s) := by simp [execTileRep]
@[simp] theorem execTileBr_keeps (dt : Nat) (x : Side) (n : Nat) (c : Cond) (target : Nat) :
    OutKeeps s (execTileBr dt x n c target s) := by simp [execTileBr]
@[simp] theorem State.tileEnd_keeps (x : Side) (n : Nat) : Keeps s (s.tileEnd x n) := by simp [State.tileEnd]
@[simp] theorem State.tileEnds_keeps (x : Side) (n : Nat) : Keeps s (s.tileEnds x n) := by simp [State.tileEnds]
@[simp] theorem State.tileStarts_keeps (x : Side) (n : Nat) : Keeps s (s.tileStarts x n) := by simp [State.tileStarts]
@[simp] theorem State.tilesBoundary_keeps : Keeps s s.tilesBoundary := by simp [State.tilesBoundary]
@[simp] theorem State.tilesCopy_keeps (x y : Side) : Keeps s (s.tilesCopy x y) := by simp [State.tilesCopy]
@[simp] theorem State.exchangeCopy_keeps (x y : Side) : Keeps s (s.exchangeCopy x y) := ⟨rfl, rfl⟩
@[simp] theorem State.loopPresetWrite_keeps (acc : Access) (n : Nat) (val : Word) :
    Keeps s (s.loopPresetWrite acc n val) := by simp [State.loopPresetWrite]
@[simp] theorem execLoopPreset_keeps (dt : Nat) (acc : Access) (n : Nat) (val : Word) :
    OutKeeps s (execLoopPreset dt acc n val s) := by simp [execLoopPreset]
@[simp] theorem State.loopClrWrite_keeps (acc : Access) (val : Word) : Keeps s (s.loopClrWrite acc val) := by simp [State.loopClrWrite]
@[simp] theorem execLoopClr_keeps (dt : Nat) (acc : Access) (val : Word) : OutKeeps s (execLoopClr dt acc val s) := by simp [execLoopClr]

/-! ### The edge engine -/

@[simp] theorem State.shortPulse_keeps (x : Side) (n : Nat) (dropped : Bool) :
    Keeps s (s.shortPulse x n dropped) := by simp [State.shortPulse]
@[simp] theorem State.takePlan_keeps (x : Side) (n : Nat) (pl : Plan) : Keeps s (s.takePlan x n pl) := by simp [State.takePlan]
@[simp] theorem State.governs_keeps (x : Side) (n base per half : Nat) : Keeps s (s.governs x n base per half) := by simp [State.governs]
@[simp] theorem State.bothOn_keeps (x : Side) (n base per : Nat) : Keeps s (s.bothOn x n base per) := by simp [State.bothOn]
@[simp] theorem State.bothOff_keeps (x : Side) (n base per : Nat) : Keeps s (s.bothOff x n base per) := by simp [State.bothOff]
@[simp] theorem State.dropPost_keeps (x : Side) (n : Nat) (e : QEntry) : Keeps s (s.dropPost x n e) := by simp [State.dropPost]
@[simp] theorem State.takePost_keeps (x : Side) (ch : Nat) : Keeps s (s.takePost x ch).2 := by
  simp only [State.takePost]; (repeat' split) <;> simp
@[simp] theorem State.produce_keeps (x : Side) (items : List (Nat × Int)) : Keeps s (s.produce x items) := ⟨rfl, rfl⟩
@[simp] theorem State.placeRest_keeps (x : Side) (n : Nat) : Keeps s (s.placeRest x n) := by simp [State.placeRest]
@[simp] theorem execEdgeUpdatePoint_keeps (dt : Nat) (x : Side) (n : Nat) (mid : Bool) : OutKeeps s (execEdgeUpdatePoint dt x n mid s) := by
  simp only [execEdgeUpdatePoint]; (repeat' split) <;> simp
@[simp] theorem State.trimsAtStart_keeps (x : Side) (n : Nat) : Keeps s (s.trimsAtStart x n) := by simp [State.trimsAtStart]
@[simp] theorem execCarrierPeriodStart_keeps (dt : Nat) (x : Side) (n : Nat) : OutKeeps s (execCarrierPeriodStart dt x n s) := by
  unfold execCarrierPeriodStart
  extract_lets s1 p
  split
  · simp [s1]
  · rename_i s2 s3 _
    have h2 : Keeps s s2 := by simp [s2, s1]
    have h3 : Keeps s s3 := by unfold s3; split <;> simp [h2]
    clear_value s3
    simp [h3]
@[simp] theorem State.startCarrier_keeps (x : Side) (n : Nat) : Keeps s (s.startCarrier x n) := ⟨rfl, rfl⟩
@[simp] theorem State.legsBoundary_keeps (shift : Int) : Keeps s (s.legsBoundary shift) := ⟨rfl, rfl⟩
@[simp] theorem State.edgeBoundary_keeps (shift : Int) : Keeps s (s.edgeBoundary shift) := by simp [State.edgeBoundary]
@[simp] theorem State.edgeFlip_keeps (addrs : List Nat) : Keeps s (s.edgeFlip addrs) := by simp [State.edgeFlip]
@[simp] theorem State.edgeCopy_keeps (x y : Side) : Keeps s (s.edgeCopy x y) := by simp [State.edgeCopy]
@[simp] theorem State.swnSide_keeps (x : Side) (n : Nat) (fall : Bool) (meas : Nat) :
    Keeps s (s.swnSide x n fall meas) := by simp [State.swnSide]
@[simp] theorem State.swnMissSide_keeps (x : Side) (n : Nat) (fall : Bool) : Keeps s (s.swnMissSide x n fall) := by simp [State.swnMissSide]
@[simp] theorem State.bothSides_keeps {f : State → Side → State} (hf : ∀ t x, Keeps t (f t x)) : Keeps s (s.bothSides f) := by
  simp [State.bothSides, hf]
@[simp] theorem execSwnTransition_keeps (dt n : Nat) (fall : Bool) (meas : Nat) :
    OutKeeps s (execSwnTransition dt n fall meas s) := by simp [execSwnTransition]
@[simp] theorem execSwnMiss_keeps (dt n : Nat) (fall : Bool) : OutKeeps s (execSwnMiss dt n fall s) := by simp [execSwnMiss]
@[simp] theorem execSwnFault_keeps (dt n : Nat) (opposite : Bool) (onFor : Nat) :
    OutKeeps s (execSwnFault dt n opposite onFor s) := by simp [execSwnFault]
@[simp] theorem State.setPad_keeps (k : Nat) (p : Pad) : Keeps s (s.setPad k p) := ⟨rfl, rfl⟩
@[simp] theorem State.showPads_keeps (n : Nat) : Keeps s (s.showPads n) := by simp [State.showPads]
@[simp] theorem execDlineCalibrationDone_keeps (dt n : Nat) (b : Bool) (taps : Nat) (monotonic : Bool) :
    OutKeeps s (execDlineCalibrationDone dt n b taps monotonic s) := by simp [execDlineCalibrationDone]
@[simp] theorem execDlineExchange_keeps (dt n : Nat) (b : Bool) : OutKeeps s (execDlineExchange dt n b s) := by simp [execDlineExchange]
@[simp] theorem execPwmPadShort_keeps (dt n : Nat) (b : Bool) (differs : Nat) :
    OutKeeps s (execPwmPadShort dt n b differs s) := by simp [execPwmPadShort]
@[simp] theorem State.mergePair_keeps (old new : Side) (till n : Nat) : Keeps s (s.mergePair old new till n) := by simp [State.mergePair]
@[simp] theorem State.mergeMove_keeps (old new : Side) : Keeps s (s.mergeMove old new) := by simp [State.mergeMove]
@[simp] theorem State.edgeClrWrite_keeps (acc : Access) (val : Word) : Keeps s (s.edgeClrWrite acc val) := by simp [State.edgeClrWrite]
@[simp] theorem execEdgeClr_keeps (dt : Nat) (acc : Access) (val : Word) : OutKeeps s (execEdgeClr dt acc val s) := by simp [execEdgeClr]

/-! ### Cell rings -/

@[simp] theorem State.setEp_keeps (e : Nat) (v : Endpoint) : Keeps s (s.setEp e v) := ⟨rfl, rfl⟩
@[simp] theorem State.portReturn_keeps (p : Nat) (f : List Byte) : Keeps s (s.portReturn p f) := by
  unfold State.portReturn; split <;> simp
@[simp] theorem State.epPass_keeps (e : Nat) (viaD : Bool) (f : List Byte) : Keeps s (s.epPass e viaD f) := by simp [State.epPass]
@[simp] theorem State.hearFrame_keeps (e : Nat) (viaD : Bool) (f : List Byte) : Keeps s (s.hearFrame e viaD f) := by simp [State.hearFrame]
@[simp] theorem State.noteFrame_keeps (e : Nat) (f : List Byte) : Keeps s (s.noteFrame e f) := ⟨rfl, rfl⟩
@[simp] theorem State.epFrame_keeps (e : Nat) (viaD : Bool) (ty : Nat) (f : List Byte) {act : State → Endpoint → State}
    (hact : ∀ t v, Keeps t (act t v)) : Keeps s (s.epFrame e viaD ty f act) := by simp [State.epFrame, hact]
@[simp] theorem State.showRings_keeps : Keeps s s.showRings := ⟨rfl, rfl⟩
@[simp] theorem State.portBreak_keeps (p : Nat) : Keeps s (s.portBreak p) := by simp [State.portBreak]
@[simp] theorem State.ringBreak_keeps (p e : Nat) (d : Bool) : Keeps s (s.ringBreak p e d) := by simp [State.ringBreak]
@[simp] theorem execRingLockLost_keeps (dt : Nat) (port : Option Nat) (e : Nat) (d : Bool) (invalid quiet : Nat) :
    OutKeeps s (execRingLockLost dt port e d invalid quiet s) := by
  simp only [execRingLockLost]; (repeat' split) <;> simp
@[simp] theorem State.delayDue_keeps (p : Nat) : Keeps s (s.delayDue p) := ⟨rfl, rfl⟩
@[simp] theorem execEpInterfaceDown_keeps (dt e : Nat) : OutKeeps s (execEpInterfaceDown dt e s) := by simp [execEpInterfaceDown]
@[simp] theorem execEpThroughRestore_keeps (dt e : Nat) : OutKeeps s (execEpThroughRestore dt e s) := by simp [execEpThroughRestore]
@[simp] theorem State.legSlot_keeps (x : Side) (ch : Nat) : Keeps s (s.legSlot x ch) := by simp [State.legSlot]
@[simp] theorem State.queueSched_keeps (p e ep due : Nat) (entries : List (List Byte)) : Keeps s (s.queueSched p e ep due entries) := by
  simp only [State.queueSched]; split <;> simp
@[simp] theorem State.legSkip_keeps (x : Side) (ch lead : Nat) : Keeps s (s.legSkip x ch lead) := by simp [State.legSkip]
@[simp] theorem State.formEntry_keeps (x : Side) (ch : Nat) : Keeps s (s.formEntry x ch).2 := by simp [State.formEntry]
@[simp] theorem execRingUpdatePoint_keeps (dt : Nat) (x : Side) (ch : Nat) : OutKeeps s (execRingUpdatePoint dt x ch s) := by
  unfold execRingUpdatePoint
  extract_lets s1 e p lead
  split
  · simp [s1]
  rename_i s2 _
  have h2 : Keeps s s2 := by unfold s2; split <;> simp [s1]
  clear_value s2
  split
  · simpa using h2
  split
  rename_i w s3 e3
  have h3 := h2.trans ((s2.takePost_keeps x ch).of_snd e3)
  extract_lets q
  split
  rename_i en s4 e4
  have h4 := h3.trans (((s3.setPair_keeps x ch _).trans (State.formEntry_keeps _ x ch)).of_snd e4)
  extract_lets zero on off per s5
  have h5 : Keeps s s5 := h4.trans (by simp [s5])
  clear_value s5
  split
  · rename_i s6 _
    have h6 : Keeps s s6 := h5
    clear_value s6
    simp [h6]
  · simpa using h5
@[simp] theorem State.schedRefresh_keeps : Keeps s s.schedRefresh := by simp [State.schedRefresh]
@[simp] theorem execSched_keeps (dt e : Nat) (viaD : Bool) (f : List Byte) : OutKeeps s (execSched dt e viaD f s) := by simp [execSched]
@[simp] theorem execEpApplyEntry_keeps (dt e leg : Nat) : OutKeeps s (execEpApplyEntry dt e leg s) := by
  simp only [execEpApplyEntry]; (repeat' split) <;> simp
@[simp] theorem execSync_keeps (dt e : Nat) (viaD : Bool) (f : List Byte) : OutKeeps s (execSync dt e viaD f s) := by
  rw [execSync, outKeeps_next]
  refine (s.tick_keeps dt).trans (State.epFrame_keeps _ _ _ _ _ fun t v => ?_)
  dsimp only
  split
  · simp
  · split <;> simp
@[simp] theorem execDelay_keeps (dt e : Nat) (viaD : Bool) (f : List Byte) (stamp turnedAt : Nat) :
    OutKeeps s (execDelay dt e viaD f stamp turnedAt s) := by simp [execDelay]
@[simp] theorem State.takeLoop_keeps (p lg : Nat) : Keeps s (s.takeLoop p lg) := ⟨rfl, rfl⟩
@[simp] theorem execDelayRun_keeps (dt : Nat) (results : List (Nat × Nat)) :
    OutKeeps s (execDelayRun dt results s) := by simp [execDelayRun]
@[simp] theorem State.portFrame_keeps (p ty : Nat) (f : List Byte) {act : State → State} (hact : ∀ t, Keeps t (act t)) :
    Keeps s (s.portFrame p ty f act) := by simp [State.portFrame, hact]
@[simp] theorem execDelayRpt_keeps (dt port : Nat) (f : List Byte) : OutKeeps s (execDelayRpt dt port f s) := by
  rw [execDelayRpt, outKeeps_next]
  refine (s.tick_keeps dt).trans (State.portFrame_keeps _ _ _ _ fun t => ?_)
  extract_lets
  split
  · simp
  · split
    · simp
    · extract_lets _ _ _ t2
      split <;> simp [t2]
@[simp] theorem execSetdly_keeps (dt e : Nat) (viaD : Bool) (f : List Byte) : OutKeeps s (execSetdly dt e viaD f s) := by simp [execSetdly]
@[simp] theorem execEnum_keeps (dt e : Nat) (viaD : Bool) (f : List Byte) : OutKeeps s (execEnum dt e viaD f s) := by simp [execEnum]
@[simp] theorem execEnumPeriodic_keeps (dt : Nat) : OutKeeps s (execEnumPeriodic dt s) := by simp [execEnumPeriodic]
@[simp] theorem execConfig_keeps (dt e : Nat) (viaD : Bool) (f : List Byte) : OutKeeps s (execConfig dt e viaD f s) := by simp [execConfig]
@[simp] theorem execResume_keeps (dt e : Nat) (viaD : Bool) (f : List Byte) : OutKeeps s (execResume dt e viaD f s) := by simp [execResume]
@[simp] theorem execIdentReq_keeps (dt e : Nat) (viaD : Bool) (f : List Byte) :
    OutKeeps s (execIdentReq dt e viaD f s) := by simp [execIdentReq]
@[simp] theorem State.sendConfigs_keeps (p : Nat) : Keeps s (s.sendConfigs p) := by simp [State.sendConfigs]
@[simp] theorem State.ringFault_keeps (p : Nat) : Keeps s (s.ringFault p) := by simp [State.ringFault]
@[simp] theorem execIdent_keeps (dt port : Nat) (f : List Byte) : OutKeeps s (execIdent dt port f s) := by simp [execIdent]
@[simp] theorem State.bringUp_keeps (p : Nat) : Keeps s (s.bringUp p) := by simp [State.bringUp]
@[simp] theorem execRingLockAcquired_keeps (dt : Nat) (port : Option Nat) (e : Nat) (d : Bool) (headers : Nat) :
    OutKeeps s (execRingLockAcquired dt port e d headers s) := by
  simp only [execRingLockAcquired]; (repeat' split) <;> simp
@[simp] theorem execRingBringUp_keeps (dt : Nat) : OutKeeps s (execRingBringUp dt s) := by simp [execRingBringUp]
@[simp] theorem State.ringCountFault_keeps (p : Nat) : Keeps s (s.ringCountFault p) := by simp [State.ringCountFault]
@[simp] theorem State.epMeas_keeps (e : Nat) : Keeps s (s.epMeas e) := by simp [State.epMeas]
@[simp] theorem State.epsEnd_keeps : Keeps s s.epsEnd := by simp [State.epsEnd]
@[simp] theorem State.ringSync_keeps : Keeps s s.ringSync := by simp [State.ringSync]
@[simp] theorem execMeas_keeps (dt port : Nat) (f : List Byte) : OutKeeps s (execMeas dt port f s) := by simp [execMeas]
@[simp] theorem State.measMissed_keeps : Keeps s s.measMissed := by simp [State.measMissed]
@[simp] theorem execTripBlock_keeps (dt e : Nat) (b : List Byte) : OutKeeps s (execTripBlock dt e b s) := by simp [execTripBlock]
@[simp] theorem execPortTripBlockRx_keeps (dt port : Nat) (b : List Byte) :
    OutKeeps s (execPortTripBlockRx dt port b s) := by simp [execPortTripBlockRx]
@[simp] theorem execEpLocalFault_keeps (dt e : Nat) (active : Bool) :
    OutKeeps s (execEpLocalFault dt e active s) := by simp [execEpLocalFault]
@[simp] theorem execTripSetRepeat_keeps (dt : Nat) : OutKeeps s (execTripSetRepeat dt s) := by simp [execTripSetRepeat]
@[simp] theorem execEpSafeTimeout_keeps (dt e : Nat) : OutKeeps s (execEpSafeTimeout dt e s) := by simp [execEpSafeTimeout]
@[simp] theorem execEpNoLinkTimeout_keeps (dt e : Nat) : OutKeeps s (execEpNoLinkTimeout dt e s) := by
  simp only [execEpNoLinkTimeout]; split <;> simp
@[simp] theorem execTakeover_keeps (dt e : Nat) (viaD : Bool) (f : List Byte) :
    OutKeeps s (execTakeover dt e viaD f s) := by simp [execTakeover]
@[simp] theorem State.cutFrame_keeps (p : Nat) : Keeps s (s.cutFrame p) := by simp [State.cutFrame]
@[simp] theorem State.sendTakeover_keeps (cut inc revert : Nat) : Keeps s (s.sendTakeover cut inc revert) := by simp [State.sendTakeover]
@[simp] theorem State.sendResume_keeps (e : Nat) : Keeps s (s.sendResume e) := by simp [State.sendResume]
@[simp] theorem State.ringCmdWrite_keeps (acc : Access) (val : Word) : Keeps s (s.ringCmdWrite acc val) := by simp [State.ringCmdWrite]
@[simp] theorem execRescan_keeps (dt : Nat) (acc : Access) (val : Word) : OutKeeps s (execRescan dt acc val s) := by simp [execRescan]
@[simp] theorem execDelayNow_keeps (dt : Nat) (acc : Access) (val : Word) : OutKeeps s (execDelayNow dt acc val s) := by simp [execDelayNow]
@[simp] theorem execRingCmdResumeEp_keeps (dt : Nat) (acc : Access) (val : Word) :
    OutKeeps s (execRingCmdResumeEp dt acc val s) := by simp [execRingCmdResumeEp]
@[simp] theorem execRingCmdResumeAll_keeps (dt : Nat) (acc : Access) (val : Word) :
    OutKeeps s (execRingCmdResumeAll dt acc val s) := by simp [execRingCmdResumeAll]
@[simp] theorem State.ringClrWrite_keeps (acc : Access) (val : Word) : Keeps s (s.ringClrWrite acc val) := by simp [State.ringClrWrite]
@[simp] theorem execRingClr_keeps (dt : Nat) (acc : Access) (val : Word) : OutKeeps s (execRingClr dt acc val s) := by simp [execRingClr]

/-! ### The transformer -/

@[simp] theorem State.setCell_keeps (c : Nat) (v : Cell) : Keeps s (s.setCell c v) := ⟨rfl, rfl⟩
@[simp] theorem State.setCellState_keeps (c v : Nat) : Keeps s (s.setCellState c v) := ⟨rfl, rfl⟩
@[simp] theorem State.showLegs_keeps : Keeps s s.showLegs := ⟨rfl, rfl⟩
@[simp] theorem State.showCells_keeps : Keeps s s.showCells := ⟨rfl, rfl⟩
@[simp] theorem State.replanDue_keeps (p : Nat) : Keeps s (s.replanDue p) := ⟨rfl, rfl⟩
@[simp] theorem State.failCell_keeps (c : Nat) : Keeps s (s.failCell c) := by simp [State.failCell]
@[simp] theorem State.bypassCell_keeps (c : Nat) (soft : Bool) : Keeps s (s.bypassCell c soft) := by simp [State.bypassCell]
@[simp] theorem State.enterLadder_keeps (v : Nat) : Keeps s (s.enterLadder v) := ⟨rfl, rfl⟩
@[simp] theorem State.nextStep_keeps (v : Nat) : Keeps s (s.nextStep v) := ⟨rfl, rfl⟩
@[simp] theorem State.setMod_keeps (b : Bool) : Keeps s (s.setMod b) := ⟨rfl, rfl⟩
@[simp] theorem State.openBreakers_keeps : Keeps s s.openBreakers := ⟨rfl, rfl⟩
@[simp] theorem State.sstStop_keeps (reason : Nat) (lock : Bool) : Keeps s (s.sstStop reason lock) := by simp [State.sstStop]
@[simp] theorem State.checkCell_keeps (c : Nat) : Keeps s (s.checkCell c) := by simp [State.checkCell]
@[simp] theorem State.restoreFails_keeps (c : Nat) : Keeps s (s.restoreFails c) := by simp [State.restoreFails]
@[simp] theorem State.preSample_keeps : Keeps s s.preSample := by simp [State.preSample]
@[simp] theorem State.startCharge_keeps : Keeps s s.startCharge := by simp [State.startCharge]
@[simp] theorem State.sstRestart_keeps : Keeps s s.sstRestart := ⟨rfl, rfl⟩
@[simp] theorem State.sstStopped_keeps : Keeps s s.sstStopped := by simp [State.sstStopped]
@[simp] theorem State.stopSteps_keeps (k : Nat) : Keeps s (State.stopSteps k s) := by
  induction k generalizing s with
  | zero => simp [State.stopSteps]
  | succ k ih => simp [State.stopSteps, ih]
@[simp] theorem State.sstBlock_keeps : Keeps s s.sstBlock := by simp [State.sstBlock]
@[simp] theorem State.ladderStops_keeps : Keeps s s.ladderStops := by simp [State.ladderStops]
@[simp] theorem State.ladderStep_keeps : Keeps s s.ladderStep := by
  simp only [State.ladderStep]
  split <;> simp
@[simp] theorem State.ladderAdvance_keeps : Keeps s s.ladderAdvance := by simp [State.ladderAdvance]
@[simp] theorem State.sstEnergise_keeps : Keeps s s.sstEnergise := by simp [State.sstEnergise]
@[simp] theorem State.sstDeenergise_keeps : Keeps s s.sstDeenergise := by simp [State.sstDeenergise]
@[simp] theorem State.sstRunWrite_keeps (acc : Access) (val : Word) : Keeps s (s.sstRunWrite acc val) := by simp [State.sstRunWrite]
@[simp] theorem execEnergise_keeps (dt : Nat) (acc : Access) (val : Word) : OutKeeps s (execEnergise dt acc val s) := by simp [execEnergise]
@[simp] theorem execDeenergise_keeps (dt : Nat) (acc : Access) (val : Word) :
    OutKeeps s (execDeenergise dt acc val s) := by simp [execDeenergise]
@[simp] theorem execSstAckLockout_keeps (dt : Nat) (acc : Access) (val : Word) :
    OutKeeps s (execSstAckLockout dt acc val s) := by simp [execSstAckLockout]
@[simp] theorem execBreakerReport_keeps (dt : Nat) (mainClosed preClosed : Bool) :
    OutKeeps s (execBreakerReport dt mainClosed preClosed s) := by simp [execBreakerReport]
@[simp] theorem execSstLadderTimeout_keeps (dt : Nat) : OutKeeps s (execSstLadderTimeout dt s) := by
  simp only [execSstLadderTimeout]; (repeat' split) <;> simp
@[simp] theorem execSstRestartDelay_keeps (dt : Nat) : OutKeeps s (execSstRestartDelay dt s) := by simp [execSstRestartDelay]
@[simp] theorem State.sstCellWrite_keeps (acc : Access) (c : Nat) (val : Word) :
    Keeps s (s.sstCellWrite acc c val) := by simp [State.sstCellWrite]
@[simp] theorem execBypass_keeps (dt : Nat) (acc : Access) (c : Nat) (val : Word) :
    OutKeeps s (execBypass dt acc c val s) := by simp [execBypass]
@[simp] theorem execRestore_keeps (dt : Nat) (acc : Access) (c : Nat) (val : Word) :
    OutKeeps s (execRestore dt acc c val s) := by simp [execRestore]
@[simp] theorem execBypassTimeout_keeps (dt c : Nat) : OutKeeps s (execBypassTimeout dt c s) := by simp [execBypassTimeout]
@[simp] theorem State.setLegPhase_keeps (ch ph : Nat) : Keeps s (s.setLegPhase ch ph) := ⟨rfl, rfl⟩
@[simp] theorem State.planPhase_keeps (p : Nat) : Keeps s (s.planPhase p) := by simp [State.planPhase]
@[simp] theorem State.planDab_keeps : Keeps s s.planDab := by simp [State.planDab]
@[simp] theorem execCarrierReplan_keeps (dt : Nat) : OutKeeps s (execCarrierReplan dt s) := by simp [execCarrierReplan]
@[simp] theorem State.sstLock_keeps (g : SstIn) : Keeps s (s.sstLock g) := by simp [State.sstLock]
@[simp] theorem State.rtLog_keeps (kind outcome : Nat) (since : Count) (u : Nat) :
    Keeps s (s.rtLog kind outcome since u) := by simp [State.rtLog]
@[simp] theorem State.rtEnter_keeps (v : Nat) : Keeps s (s.rtEnter v) := ⟨rfl, rfl⟩
@[simp] theorem State.rtOut_keeps : Keeps s s.rtOut := ⟨rfl, rfl⟩
@[simp] theorem State.rtFreeze_keeps : Keeps s s.rtFreeze := by simp [State.rtFreeze]
@[simp] theorem State.rtBegin_keeps (v : Nat) (g : SstIn) : Keeps s (s.rtBegin v g) := by simp [State.rtBegin]
@[simp] theorem State.rtRecover_keeps (kind : Nat) (g : SstIn) : Keeps s (s.rtRecover kind g) := by simp [State.rtRecover]
@[simp] theorem State.freqTrack_keeps (g : SstIn) : Keeps s (s.freqTrack g) := ⟨rfl, rfl⟩
@[simp] theorem State.rtUpdate_keeps (g : SstIn) : Keeps s (s.rtUpdate g) := by
  simp only [State.rtUpdate]; split <;> simp
@[simp] theorem execRtFTmoExpiry_keeps (dt : Nat) : OutKeeps s (execRtFTmoExpiry dt s) := by
  simp only [execRtFTmoExpiry]; split <;> simp
@[simp] theorem State.rtCut_keeps : Keeps s s.rtCut := by
  unfold State.rtCut; split <;> simp
@[simp] theorem execPllUnlockOut_keeps (dt : Nat) : OutKeeps s (execPllUnlockOut dt s) := by simp [execPllUnlockOut]
@[simp] theorem State.sstClrWrite_keeps (acc : Access) (val : Word) : Keeps s (s.sstClrWrite acc val) := by simp [State.sstClrWrite]
@[simp] theorem execSstClr_keeps (dt : Nat) (acc : Access) (val : Word) : OutKeeps s (execSstClr dt acc val s) := by simp [execSstClr]
@[simp] theorem State.integrate_keeps (g : SstIn) : Keeps s (s.integrate g) := by simp [State.integrate]
@[simp] theorem State.busSupport_keeps (g : SstIn) : Keeps s (s.busSupport g) := by simp [State.busSupport]
@[simp] theorem State.modulate_keeps (g : SstIn) : Keeps s (s.modulate g) := by
  rw [State.modulate]
  -- The scaled limits stay closed: the kernel would evaluate their numerals when it compares two of these states.
  generalize State.deltas = deltas
  generalize (s.fld Reg.SST_MOD_LIM Fld.SST_MOD_LIM_M_MAX : Int) * 2 ^ 30 / 100 = mmax
  as_aux_lemma => simp
@[simp] theorem State.dabWords_keeps (g : SstIn) : Keeps s (s.dabWords g) := by
  rw [State.dabWords]
  refine Keeps.trans ((s.setF_keeps _ _ _).trans (foldl_keeps (fun t c => Kept.keeps ?_) _ _)) (State.setF_keeps _ _ _ _)
  extract_lets
  split
  have h := t.setCell_keeps c
  split
  · exact (h _).trans (State.setF_keeps _ _ _ _)
  · exact h _
@[simp] theorem State.cellPosts_keeps (cs : List Nat) : Keeps s (s.cellPosts cs) := by simp [State.cellPosts]
@[simp] theorem State.idlePosts_keeps : Keeps s s.idlePosts := by simp [State.idlePosts]
@[simp] theorem State.limitsOff_keeps : Keeps s s.limitsOff := ⟨rfl, rfl⟩
@[simp] theorem State.shareTrims_keeps (g : SstIn) : Keeps s (s.shareTrims g) := by simp [State.shareTrims]
@[simp] theorem State.cellMeas_keeps (c : Nat) : Keeps s (s.cellMeas c) := by simp [State.cellMeas]
@[simp] theorem State.phaseSums_keeps : Keeps s s.phaseSums := ⟨rfl, rfl⟩
@[simp] theorem State.softCause_keeps (c : Nat) : Keeps s (s.softCause c) := by simp [State.softCause]
@[simp] theorem State.protTrip_keeps (earth : Bool) : Keeps s (s.protTrip earth) := by simp [State.protTrip]
@[simp] theorem State.cellChecks_keeps (c : Nat) : Keeps s (s.cellChecks c) := by simp [State.cellChecks]
@[simp] theorem State.cellCycle_keeps (c : Nat) : Keeps s (s.cellCycle c) := by simp [State.cellCycle]
@[simp] theorem State.phaseChecks_keeps (g : SstIn) : Keeps s (s.phaseChecks g) := by simp [State.phaseChecks]
@[simp] theorem State.sstBoundary_keeps (g0 : SstIn) : Keeps s (s.sstBoundary g0) := by simp [State.sstBoundary]
@[simp] theorem State.reportsTaken_keeps : Keeps s s.reportsTaken := ⟨rfl, rfl⟩
@[simp] theorem State.sstFlip_keeps (before : State) (addrs : List Nat) : Keeps s (s.sstFlip before addrs) := by simp [State.sstFlip]

/-! ### Output stages -/

@[simp] theorem State.setStg_keeps (n : Nat) (v : Stage) : Keeps s (s.setStg n v) := ⟨rfl, rfl⟩
@[simp] theorem State.setPhs_keeps (m : Nat) (v : Phase) : Keeps s (s.setPhs m v) := ⟨rfl, rfl⟩
@[simp] theorem State.phEnable_keeps (m : Nat) (en : Bool) : Keeps s (s.phEnable m en) := by simp [State.phEnable]
@[simp] theorem State.setPhState_keeps (m v : Nat) : Keeps s (s.setPhState m v) := by simp [State.setPhState]
@[simp] theorem State.phJoin_keeps (m n : Nat) : Keeps s (s.phJoin m n) := by simp [State.phJoin]
@[simp] theorem State.phFault_keeps (m cause : Nat) : Keeps s (s.phFault m cause) := by simp [State.phFault]
@[simp] theorem State.showSet_keeps (n : Nat) : Keeps s (s.showSet n) := by simp [State.showSet]
@[simp] theorem State.showOuts_keeps : Keeps s s.showOuts := ⟨rfl, rfl⟩
@[simp] theorem State.enterStg_keeps (n v reason : Nat) : Keeps s (s.enterStg n v reason) := ⟨rfl, rfl⟩
@[simp] theorem State.legsDown_keeps (n : Nat) : Keeps s (s.legsDown n) := by simp [State.legsDown]
@[simp] theorem State.stgZero_keeps (n : Nat) : Keeps s (s.stgZero n) := ⟨rfl, rfl⟩
@[simp] theorem State.softStart_keeps (n attempt : Nat) : Keeps s (s.softStart n attempt) := ⟨rfl, rfl⟩
@[simp] theorem State.stageStart_keeps (n : Nat) (exporting : Bool) (vTgt vMin vMax iEv : Nat) :
    Keeps s (s.stageStart n exporting vTgt vMin vMax iEv) := by simp [State.stageStart]
@[simp] theorem State.stageCharge_keeps (n : Nat) : Keeps s (s.stageCharge n) := by simp [State.stageCharge]
@[simp] theorem State.stageStop_keeps (n : Nat) : Keeps s (s.stageStop n) := by simp [State.stageStop]
@[simp] theorem State.stageLock_keeps (n reason : Nat) : Keeps s (s.stageLock n reason) := by simp [State.stageLock]
@[simp] theorem State.stageStopped_keeps (n : Nat) : Keeps s (s.stageStopped n) := by simp [State.stageStopped]
@[simp] theorem State.stageAbort_keeps (n : Nat) : Keeps s (s.stageAbort n) := by simp [State.stageAbort]
@[simp] theorem State.stageTrips_keeps (n : Nat) : Keeps s (s.stageTrips n) := by simp [State.stageTrips]
@[simp] theorem State.outsCtrlWrite_keeps (acc : Access) (n : Nat) (val : Word) :
    Keeps s (s.outsCtrlWrite acc n val) := by simp [State.outsCtrlWrite]
@[simp] theorem execOutsStop_keeps (dt : Nat) (acc : Access) (n : Nat) (val : Word) :
    OutKeeps s (execOutsStop dt acc n val s) := by simp [execOutsStop]
@[simp] theorem execOutsAckLockout_keeps (dt : Nat) (acc : Access) (n : Nat) (val : Word) :
    OutKeeps s (execOutsAckLockout dt acc n val s) := by simp [execOutsAckLockout]
@[simp] theorem State.phCmdWrite_keeps (acc : Access) (m : Nat) (val : Word) :
    Keeps s (s.phCmdWrite acc m val) := by simp [State.phCmdWrite]
@[simp] theorem execPhaseRestore_keeps (dt : Nat) (acc : Access) (m : Nat) (val : Word) :
    OutKeeps s (execPhaseRestore dt acc m val s) := by simp [execPhaseRestore]
@[simp] theorem execTrackingFault_keeps (dt n : Nat) : OutKeeps s (execTrackingFault dt n s) := by simp [execTrackingFault]
@[simp] theorem execRetryWaitExpiry_keeps (dt n : Nat) : OutKeeps s (execRetryWaitExpiry dt n s) := by simp [execRetryWaitExpiry]
@[simp] theorem State.phPost_keeps (m : Nat) : Keeps s (s.phPost m) := by simp [State.phPost]
@[simp] theorem execShedDlyExpiry_keeps (dt n : Nat) : OutKeeps s (execShedDlyExpiry dt n s) := by
  simp only [execShedDlyExpiry]; (repeat' split) <;> simp
@[simp] theorem State.rampOut_keeps (m cause : Nat) : Keeps s (s.rampOut m cause) := by simp [State.rampOut]
@[simp] theorem execImbalanceTrip_keeps (dt m : Nat) : OutKeeps s (execImbalanceTrip dt m s) := by simp [execImbalanceTrip]
@[simp] theorem execStageStopTimeout_keeps (dt n : Nat) : OutKeeps s (execStageStopTimeout dt n s) := by simp [execStageStopTimeout]
@[simp] theorem State.outsClrWrite_keeps (acc : Access) (val : Word) : Keeps s (s.outsClrWrite acc val) := by simp [State.outsClrWrite]
@[simp] theorem execOutsClr_keeps (dt : Nat) (acc : Access) (val : Word) : OutKeeps s (execOutsClr dt acc val s) := by simp [execOutsClr]
@[simp] theorem State.phMeas_keeps (pairs : SMap (Int × Int)) (m : Nat) : Keeps s (s.phMeas pairs m) := by
  simp only [State.phMeas]; (repeat' split) <;> simp
@[simp] theorem State.imbalance_keeps (n : Nat) : Keeps s (s.imbalance n) := by
  rw [State.imbalance]
  refine Keeps.trans (foldl_keeps (fun t m => t.setPhs_keeps _ _) _ _) (foldl_keeps (fun t m => Kept.keeps ?_) _ _)
  extract_lets v live x dev above warn st1 st2
  have h2 : Keeps t st2 := (t.setPhs_keeps _ _).trans (State.setFS_keeps _ _ _ _)
  split
  · simp [Kept, h2]
  · exact h2
@[simp] theorem State.phChecks_keeps (m : Nat) : Keeps s (s.phChecks m) := by simp [State.phChecks]
@[simp] theorem State.controlLaw_keeps (n : Nat) (g : OutIn) : Keeps s (s.controlLaw n g) := by
  rw [State.controlLaw]
  split
  split
  extract_lets
  split
  exact ((((s.setStg_keeps _ _).trans (State.setF_keeps _ _ _ _)).trans (State.setF_keeps _ _ _ _)).trans
    (State.wr_keeps _ _ _)).trans (State.setF_keeps _ _ _ _)
@[simp] theorem State.addPhases_keeps (n k : Nat) : Keeps s (s.addPhases n k) := by simp [State.addPhases]
@[simp] theorem State.rampStep_keeps (m : Nat) : Keeps s (s.rampStep m) := by simp [State.rampStep]
@[simp] theorem State.reversal_keeps (n : Nat) : Keeps s (s.reversal n) := by simp [State.reversal]
@[simp] theorem State.shedCycle_keeps (n : Nat) (last : Int) : Keeps s (s.shedCycle n last) := by simp [State.shedCycle]
@[simp] theorem State.stageProtect_keeps (n : Nat) (g : OutIn) : Keeps s (s.stageProtect n g) := by simp [State.stageProtect]
@[simp] theorem State.stageStep_keeps (n : Nat) (g : OutIn) : Keeps s (s.stageStep n g) := by simp [State.stageStep]
@[simp] theorem State.stageMeas_keeps (n : Nat) (g : OutIn) : Keeps s (s.stageMeas n g) := by
  rw [State.stageMeas]
  exact (s.setStg_keeps _ _).trans (State.wr_keeps _ _ _)
@[simp] theorem State.outletCycle_keeps (bus : Option Nat) (gs : SMap OutIn) (n : Nat) :
    Keeps s (s.outletCycle bus gs n) := by simp [State.outletCycle]
@[simp] theorem State.phInit_keeps : Keeps s s.phInit := by simp [State.phInit]
@[simp] theorem State.outsBoundary_keeps (bus : Option Nat) (gs : SMap OutIn) (pairs : SMap (Int × Int)) :
    Keeps s (s.outsBoundary bus gs pairs) := by simp [State.outsBoundary]
@[simp] theorem State.phMoved_keeps (before : State) (m : Nat) : Keeps s (before.phMoved s m) := by simp [State.phMoved]
@[simp] theorem State.outsFlip_keeps (before : State) (addrs : List Nat) : Keeps s (s.outsFlip before addrs) := by
  simp [State.outsFlip]
@[simp] theorem State.phasesLoad_keeps : Keeps s s.phasesLoad := by simp [State.phasesLoad]

/-! ### Cable cooling -/

@[simp] theorem State.setTh_keeps (n : Nat) (f : Field) (v : Nat) : Keeps s (s.setTh n f v) := ⟨rfl, rfl⟩
@[simp] theorem State.setCol_keeps (n : Nat) (v : Cool) : Keeps s (s.setCol n v) := ⟨rfl, rfl⟩
@[simp] theorem State.connTrip_keeps (n : Nat) : Keeps s (s.connTrip n) := by simp [State.connTrip]
@[simp] theorem State.thFlag_keeps (n : Nat) (f : Field) (c : Bool) (ev : Nat) (cnt : Option Field) : Keeps s (s.thFlag n f c ev cnt) := by
  unfold State.thFlag; split <;> simp
@[simp] theorem State.thFaults_keeps (i milliOhm : Nat) : Keeps s (s.thFaults i milliOhm) := by simp [State.thFaults]
@[simp] theorem State.thInvalid_keeps (i : Nat) : Keeps s (s.thInvalid i) := ⟨rfl, rfl⟩
@[simp] theorem State.thDeliver_keeps (i : Nat) (v : Int) : Keeps s (s.thDeliver i v) := by simp [State.thDeliver]
@[simp] theorem State.thConn_keeps (i : Nat) (v : Int) : Keeps s (s.thConn i v) := by simp [State.thConn]
@[simp] theorem execThConversion_keeps (dt n milliOhm : Nat) : OutKeeps s (execThConversion dt n milliOhm s) := by simp [execThConversion]
@[simp] theorem execThValidRestore_keeps (dt n : Nat) : OutKeeps s (execThValidRestore dt n s) := by
  simp only [execThValidRestore]; split <;> simp
@[simp] theorem State.thermClrWrite_keeps (acc : Access) (val : Word) : Keeps s (s.thermClrWrite acc val) := by simp [State.thermClrWrite]
@[simp] theorem execThermClr_keeps (dt : Nat) (acc : Access) (val : Word) : OutKeeps s (execThermClr dt acc val s) := by simp [execThermClr]
@[simp] theorem State.coolInit_keeps (n : Nat) : Keeps s (s.coolInit n) := by
  simp only [State.coolInit]; (repeat' split) <;> simp
@[simp] theorem State.observe_keeps (n : Nat) : Keeps s (s.observe n) := ⟨rfl, rfl⟩
@[simp] theorem State.showCredit_keeps (n : Nat) : Keeps s (s.showCredit n) := by simp [State.showCredit]
@[simp] theorem State.coolTrips_keeps (n : Nat) : Keeps s (s.coolTrips n) := by simp [State.coolTrips]
@[simp] theorem execCoolCableTrip_keeps (dt n : Nat) : OutKeeps s (execCoolCableTrip dt n s) := by simp [execCoolCableTrip]
@[simp] theorem State.enterCool_keeps (n v : Nat) : Keeps s (s.enterCool n v) := ⟨rfl, rfl⟩
@[simp] theorem State.coolLoss_keeps (n cause : Nat) : Keeps s (s.coolLoss n cause) := by simp [State.coolLoss]
@[simp] theorem State.coolRestored_keeps (n : Nat) : Keeps s (s.coolRestored n) := ⟨rfl, rfl⟩
@[simp] theorem State.coolStep_keeps (n : Nat) : Keeps s (s.coolStep n) := by
  simp only [State.coolStep]; (repeat' split) <;> simp
@[simp] theorem State.fanStep_keeps (n : Nat) : Keeps s (s.fanStep n) := by simp [State.fanStep]
@[simp] theorem State.showDemand_keeps (n : Nat) : Keeps s (s.showDemand n) := ⟨rfl, rfl⟩
@[simp] theorem State.flowTrack_keeps (n : Nat) : Keeps s (s.flowTrack n) := ⟨rfl, rfl⟩
@[simp] theorem State.flowRead_keeps (src : Nat) : Keeps s (s.flowRead src) := by simp [State.flowRead]
@[simp] theorem execFlowUpdate_keeps (dt src value : Nat) (good : Bool) :
    OutKeeps s (execFlowUpdate dt src value good s) := by simp [execFlowUpdate]
@[simp] theorem execFlowLossTimeout_keeps (dt n : Nat) : OutKeeps s (execFlowLossTimeout dt n s) := by simp [execFlowLossTimeout]
@[simp] theorem execLeakDetected_keeps (dt pad : Nat) (active : Bool) (held : Nat) :
    OutKeeps s (execLeakDetected dt pad active held s) := by simp [execLeakDetected]
@[simp] theorem execFlowLowTimeout_keeps (dt n : Nat) : OutKeeps s (execFlowLowTimeout dt n s) := by simp [execFlowLowTimeout]
@[simp] theorem execCoolRestoreTimer_keeps (dt n : Nat) : OutKeeps s (execCoolRestoreTimer dt n s) := by simp [execCoolRestoreTimer]
@[simp] theorem execRunOnExpiry_keeps (dt n : Nat) : OutKeeps s (execRunOnExpiry dt n s) := by simp [execRunOnExpiry]
@[simp] theorem State.coolCtrlWrite_keeps (acc : Access) (n : Nat) (val : Word) :
    Keeps s (s.coolCtrlWrite acc n val) := by simp [State.coolCtrlWrite]
@[simp] theorem execCoolAck_keeps (dt : Nat) (acc : Access) (n : Nat) (val : Word) :
    OutKeeps s (execCoolAck dt acc n val s) := by simp [execCoolAck]
@[simp] theorem State.coolClrWrite_keeps (acc : Access) (val : Word) : Keeps s (s.coolClrWrite acc val) := by simp [State.coolClrWrite]
@[simp] theorem execCoolClr_keeps (dt : Nat) (acc : Access) (val : Word) : OutKeeps s (execCoolClr dt acc val s) := by simp [execCoolClr]
@[simp] theorem State.showCool_keeps (n : Nat) : Keeps s (s.showCool n) := by
  rw [State.showCool]
  exact (s.wr_keeps _ _).trans (State.wr_keeps _ _ _)
@[simp] theorem State.coolCycle_keeps (n : Nat) : Keeps s (s.coolCycle n) := by simp [State.coolCycle]
@[simp] theorem State.deviceSend_keeps (d : Nat) : Keeps s (s.deviceSend d) := by simp [State.deviceSend]
@[simp] theorem State.coolBoundary_keeps : Keeps s s.coolBoundary := by simp [State.coolBoundary]

/-! ### Outlets and sessions -/

@[simp] theorem State.setOtl_keeps (n : Nat) (v : Outlet) : Keeps s (s.setOtl n v) := ⟨rfl, rfl⟩
@[simp] theorem State.setO_keeps (n : Nat) (f : Field) (v : Nat) : Keeps s (s.setO n f v) := ⟨rfl, rfl⟩
@[simp] theorem State.showOutl_keeps : Keeps s s.showOutl := ⟨rfl, rfl⟩
@[simp] theorem State.enterO_keeps (n v : Nat) : Keeps s (s.enterO n v) := by simp [State.enterO]
@[simp] theorem State.stepO_keeps (n v : Nat) : Keeps s (s.stepO n v) := ⟨rfl, rfl⟩
@[simp] theorem State.contactors_keeps (n : Nat) (close : Bool) : Keeps s (s.contactors n close) := by simp [State.contactors]
@[simp] theorem State.disch_keeps (n : Nat) (on : Bool) : Keeps s (s.disch n on) := ⟨rfl, rfl⟩
@[simp] theorem State.endDone_keeps (n : Nat) : Keeps s (s.endDone n) := by simp [State.endDone]
@[simp] theorem State.opened_keeps (n : Nat) : Keeps s (s.opened n) := by simp [State.opened]
@[simp] theorem State.windEnd_keeps (n : Nat) : Keeps s (s.windEnd n) := by simp [State.windEnd]
@[simp] theorem State.setIEv_keeps (n a : Nat) : Keeps s (s.setIEv n a) := ⟨rfl, rfl⟩
@[simp] theorem State.emergency_keeps (n : Nat) : Keeps s (s.emergency n) := by simp [State.emergency]
@[simp] theorem State.normalEnd_keeps (n : Nat) : Keeps s (s.normalEnd n) := by simp [State.normalEnd]
@[simp] theorem State.endCause_keeps (n r : Nat) : Keeps s (s.endCause n r) := by simp [State.endCause]
@[simp] theorem State.countEnd_keeps (n : Nat) : Keeps s (s.countEnd n) := by simp [State.countEnd]
@[simp] theorem State.contactorStep_keeps (n : Nat) : Keeps s (s.contactorStep n) := by simp [State.contactorStep]
@[simp] theorem execContactorFeedback_keeps (dt pad : Nat) (closed : Bool) :
    OutKeeps s (execContactorFeedback dt pad closed s) := by simp [execContactorFeedback]
@[simp] theorem execContactorTimeout_keeps (dt n : Nat) : OutKeeps s (execContactorTimeout dt n s) := by simp [execContactorTimeout]
@[simp] theorem execEmergencyOpenTimeout_keeps (dt n : Nat) :
    OutKeeps s (execEmergencyOpenTimeout dt n s) := by simp [execEmergencyOpenTimeout]
@[simp] theorem State.sessionOpen_keeps (n : Nat) : Keeps s (s.sessionOpen n) := by simp [State.sessionOpen]
@[simp] theorem State.outletFree_keeps (n : Nat) : Keeps s (s.outletFree n) := by simp [State.outletFree]
@[simp] theorem State.signalStep_keeps (n : Nat) : Keeps s (s.signalStep n) := by simp [State.signalStep]
@[simp] theorem State.negotiated_keeps (n : Nat) : Keeps s (s.negotiated n) := by simp [State.negotiated]
@[simp] theorem State.showSig_keeps (n : Nat) : Keeps s (s.showSig n) := ⟨rfl, rfl⟩
@[simp] theorem execSigChange_keeps (dt n : Nat) (a b : SigSample) : OutKeeps s (execSigChange dt n a b s) := by simp [execSigChange]
@[simp] theorem execPpChange_keeps (dt n pp : Nat) : OutKeeps s (execPpChange dt n pp s) := by simp [execPpChange]
@[simp] theorem execVehicleLinkUp_keeps (dt n offered : Nat) (tls : Bool) :
    OutKeeps s (execVehicleLinkUp dt n offered tls s) := by simp [execVehicleLinkUp]
@[simp] theorem execLinkTimeout_keeps (dt n : Nat) : OutKeeps s (execLinkTimeout dt n s) := by simp [execLinkTimeout]
@[simp] theorem execProtocolTimeout_keeps (dt n : Nat) : OutKeeps s (execProtocolTimeout dt n s) := by simp [execProtocolTimeout]
@[simp] theorem State.demand_keeps (n : Nat) : Keeps s (s.demand n) := by simp [State.demand]
@[simp] theorem State.direction_keeps (n : Nat) : Keeps s (s.direction n) := by simp [State.direction]
@[simp] theorem State.precharged_keeps (n : Nat) : Keeps s (s.precharged n) := by simp [State.precharged]
@[simp] theorem execVehicleMessage_keeps (dt n : Nat) (msg : VehMsg) : OutKeeps s (execVehicleMessage dt n msg s) := by
  unfold execVehicleMessage; split <;> simp
@[simp] theorem execPrecheckWindow_keeps (dt n : Nat) : OutKeeps s (execPrecheckWindow dt n s) := by simp [execPrecheckWindow]
@[simp] theorem execCableCheckSettled_keeps (dt n : Nat) : OutKeeps s (execCableCheckSettled dt n s) := by simp [execCableCheckSettled]
@[simp] theorem execCableCheckTimeout_keeps (dt n : Nat) : OutKeeps s (execCableCheckTimeout dt n s) := by simp [execCableCheckTimeout]
@[simp] theorem execIsolationLoss_keeps (dt n : Nat) : OutKeeps s (execIsolationLoss dt n s) := by simp [execIsolationLoss]
@[simp] theorem State.warnLevel_keeps (n : Nat) (on : Bool) : Keeps s (s.warnLevel n on) := by simp [State.warnLevel]
@[simp] theorem execImdWarnActive_keeps (dt pad : Nat) : OutKeeps s (execImdWarnActive dt pad s) := by simp [execImdWarnActive]
@[simp] theorem execWeldCheckTimeout_keeps (dt n : Nat) : OutKeeps s (execWeldCheckTimeout dt n s) := by simp [execWeldCheckTimeout]
@[simp] theorem State.outlRefused_keeps (n : Nat) : Keeps s (s.outlRefused n) := ⟨rfl, rfl⟩
@[simp] theorem State.outlCtrlWrite_keeps (acc : Access) (n : Nat) (val : Word) :
    Keeps s (s.outlCtrlWrite acc n val) := by simp [State.outlCtrlWrite]
@[simp] theorem execOutlStop_keeps (dt : Nat) (acc : Access) (n : Nat) (val : Word) :
    OutKeeps s (execOutlStop dt acc n val s) := by simp [execOutlStop]
@[simp] theorem execOutlDisable_keeps (dt : Nat) (acc : Access) (n : Nat) (val : Word) :
    OutKeeps s (execOutlDisable dt acc n val s) := by simp [execOutlDisable]
@[simp] theorem execOutlEnable_keeps (dt : Nat) (acc : Access) (n : Nat) (val : Word) :
    OutKeeps s (execOutlEnable dt acc n val s) := by simp [execOutlEnable]
@[simp] theorem execOutlAckFault_keeps (dt : Nat) (acc : Access) (n : Nat) (val : Word) :
    OutKeeps s (execOutlAckFault dt acc n val s) := by simp [execOutlAckFault]
@[simp] theorem State.outlClrWrite_keeps (acc : Access) (val : Word) : Keeps s (s.outlClrWrite acc val) := by simp [State.outlClrWrite]
@[simp] theorem execOutlClr_keeps (dt : Nat) (acc : Access) (val : Word) : OutKeeps s (execOutlClr dt acc val s) := by simp [execOutlClr]
@[simp] theorem State.imdStep_keeps (gpio n : Nat) : Keeps s (s.imdStep gpio n) := by simp [State.imdStep]
@[simp] theorem State.sessionStep_keeps (n : Nat) : Keeps s (s.sessionStep n) := by simp [State.sessionStep]
@[simp] theorem State.stageCauses_keeps (n : Nat) : Keeps s (s.stageCauses n) := by simp [State.stageCauses]
@[simp] theorem State.outlBoundary_keeps (gpio : Nat) : Keeps s (s.outlBoundary gpio) := by simp [State.outlBoundary]
@[simp] theorem State.outlOrphan_keeps : Keeps s s.outlOrphan := by simp [State.outlOrphan]
@[simp] theorem State.outletsLoad_keeps : Keeps s s.outletsLoad := by simp [State.outletsLoad]
@[simp] theorem State.outlRestart_keeps : Keeps s s.outlRestart := by simp [State.outlRestart]

/-! ### Allocation -/

@[simp] theorem State.estimate_keeps : Keeps s s.estimate := by
  unfold State.estimate; split <;> simp
@[simp] theorem State.showGrant_keeps (n : Nat) (g : Int) (cap lim : Nat) : Keeps s (s.showGrant n g cap lim) := by
  rw [State.showGrant]
  exact ((((s.setFS_keeps _ _ _).trans (State.setF_keeps _ _ _ _)).trans (State.setF_keeps _ _ _ _)).trans
    (State.wr_keeps _ _ _)).trans (State.wr_keeps _ _ _)
@[simp] theorem State.minShare_keeps (h : SMap Nat) (n cap : Nat) : Keeps s (s.minShare h n cap) := by simp [State.minShare]
@[simp] theorem State.tickCounts_keeps (dur : Nat) : Keeps s (s.tickCounts dur) := by simp [State.tickCounts]
@[simp] theorem State.showBudgets_keeps (b x binding hs : Nat) : Keeps s (s.showBudgets b x binding hs) := by simp [State.showBudgets]
@[simp] theorem execTileEnd_keeps (dt : Nat) (x : Side) (n : Nat) : OutKeeps s (execTileEnd dt x n s) := by simp [execTileEnd]
@[simp] theorem State.takePubs_keeps : Keeps s s.takePubs := by simp [State.takePubs]
/-- The round of a tick that gives each importing outlet its minimum share, from a new turn pointer (R437). -/
theorem State.minShares_keeps (h : SMap Nat) (cap : Nat → Nat) (ns : List Nat) (ptr : Nat) :
    Keeps s (ns.foldl (fun t n => t.minShare h n (cap n)) { s with aloc := { s.aloc with ptr := ptr } }) := by
  refine Keeps.trans ?_ (foldl_keeps (fun t n => by simp) _ _)
  exact ⟨rfl, rfl⟩
@[simp] theorem State.allocTick_keeps (dur : Nat) : Keeps s (s.allocTick dur) := by
  rw [State.allocTick]
  have h0 : Keeps s s.takePubs.estimate := by simp
  generalize s.takePubs.estimate = s1 at *
  extract_lets
  split
  extract_lets
  split
  split
  split
  extract_lets st st1 st2 _
  have h : Keeps s1 st := s1.minShares_keeps _ _ _ _
  have h1 : Keeps st st1 := foldl_keeps (fun t n => by split_ifs <;> simp) _ _
  have h2 : Keeps st1 st2 := by simp [st2]
  have h3 := ((h0.trans h).trans h1).trans h2
  clear_value st2
  simp [h3]
@[simp] theorem State.alocEntry_keeps : Keeps s s.alocEntry := by simp [State.alocEntry]
@[simp] theorem execMetrologyStale_keeps (dt : Nat) : OutKeeps s (execMetrologyStale dt s) := by simp [execMetrologyStale]
@[simp] theorem State.alocResult_keeps (d : AlocData) : Keeps s (s.alocResult d) := ⟨rfl, rfl⟩
@[simp] theorem State.alocQuantum_keeps (old : Nat) : Keeps s (s.alocQuantum old) := by simp [State.alocQuantum]
@[simp] theorem State.alocClrWrite_keeps (acc : Access) (val : Word) : Keeps s (s.alocClrWrite acc val) := by simp [State.alocClrWrite]
@[simp] theorem execAlocClr_keeps (dt : Nat) (acc : Access) (val : Word) : OutKeeps s (execAlocClr dt acc val s) := by simp [execAlocClr]

/-! ### Safety functions -/

@[simp] theorem State.setChan_keeps (x : Side) (v : Chan) : Keeps s (s.setChan x v) := ⟨rfl, rfl⟩
@[simp] theorem State.setAxis_keeps (x : Side) (a : Nat) (v : Axis) : Keeps s (s.setAxis x a v) := ⟨rfl, rfl⟩
@[simp] theorem State.setCh_keeps (x : Side) (v : Nat) : Keeps s (s.setCh x v) := ⟨rfl, rfl⟩
@[simp] theorem State.setAxF_keeps (x : Side) (a : Nat) (f : Field) (v : Nat) : Keeps s (s.setAxF x a f v) := ⟨rfl, rfl⟩
@[simp] theorem State.showAxis_keeps (a : Nat) : Keeps s (s.showAxis a) := by simp [State.showAxis]
@[simp] theorem State.axisTo_keeps (x : Side) (a st cause : Nat) (sto brk : Bool) :
    Keeps s (s.axisTo x a st cause sto brk) := by simp [State.axisTo]
@[simp] theorem State.torqueOff_keeps (x : Side) (a cause : Nat) : Keeps s (s.torqueOff x a cause) := by simp [State.torqueOff]
@[simp] theorem State.allOff_keeps (x : Side) (cause : Nat) : Keeps s (s.allOff x cause) := by simp [State.allOff]
@[simp] theorem State.stopping_keeps (x : Side) (a cause v : Nat) : Keeps s (s.stopping x a cause v) := by simp [State.stopping]
@[simp] theorem State.reactions_keeps (before : State) : Keeps s (s.reactions before) := by
  simp only [State.reactions]
  refine Keeps.trans (foldl_keeps (fun t a => ?_) _ _) (foldl_keeps (fun t x => ?_) _ _)
  · split <;> simp
  · simp
@[simp] theorem State.outletReaction_keeps (n : Nat) : Keeps s (s.outletReaction n) := by simp [State.outletReaction]
@[simp] theorem State.setConn_keeps (x : Side) (k : Nat) (v : Conn3) : Keeps s (s.setConn x k v) := ⟨rfl, rfl⟩
@[simp] theorem State.setConnState_keeps (x : Side) (k v : Nat) : Keeps s (s.setConnState x k v) := ⟨rfl, rfl⟩
@[simp] theorem State.connStart_keeps (x : Side) : Keeps s (s.connStart x) := by simp [State.connStart]
@[simp] theorem State.chanStop_keeps (x : Side) : Keeps s (s.chanStop x) := by simp [State.chanStop]
@[simp] theorem State.chanFollow_keeps (x : Side) : Keeps s (s.chanFollow x) := by simp [State.chanFollow]
@[simp] theorem State.chanStart_keeps (x : Side) (axes : List AxisIn) : Keeps s (s.chanStart x axes) := by simp [State.chanStart]
@[simp] theorem State.chanFault_keeps (x : Side) (cause : Nat) : Keeps s (s.chanFault x cause) := by simp [State.chanFault]
@[simp] theorem State.crossCheck_keeps (prev : State) (x : Side) (came : Bool) :
    Keeps s (s.crossCheck prev x came) := by simp [State.crossCheck]
@[simp] theorem State.encFlags_keeps (x : Side) (a : Nat) (v : Axis) : Keeps s (s.encFlags x a v) := by simp [State.encFlags]
@[simp] theorem State.axisMove_keeps (x : Side) (a : Nat) (causes : List (Nat × Bool)) : Keeps s (s.axisMove x a causes) := by
  simp only [State.axisMove]; (repeat' split) <;> simp
@[simp] theorem State.axisShow_keeps (x : Side) (a : Nat) (zone : Bool) : Keeps s (s.axisShow x a zone) := ⟨rfl, rfl⟩
@[simp] theorem State.axisCycle_keeps (x : Side) (i : AxisIn) (lost : Bool) (a : Nat) :
    Keeps s (s.axisCycle x i lost a) := by simp [State.axisCycle]
@[simp] theorem State.chanCycle_keeps (prev : State) (x : Side) (i : ChanIn) : Keeps s (s.chanCycle prev x i) := by simp [State.chanCycle]
@[simp] theorem State.sendCross_keeps : Keeps s s.sendCross := ⟨rfl, rfl⟩
@[simp] theorem State.estopHold_keeps : Keeps s s.estopHold := by simp [State.estopHold]
@[simp] theorem State.polesStep_keeps : Keeps s s.polesStep := by simp [State.polesStep]
@[simp] theorem State.estopStep_keeps : Keeps s s.estopStep := by simp [State.estopStep]
@[simp] theorem execEstopInput_keeps (dt input : Nat) (level : Bool) :
    OutKeeps s (execEstopInput dt input level s) := by simp [execEstopInput]
@[simp] theorem execEstopDiscTimeout_keeps (dt : Nat) : OutKeeps s (execEstopDiscTimeout dt s) := by simp [execEstopDiscTimeout]
@[simp] theorem execFbDiscrepancy_keeps (dt pole : Nat) : OutKeeps s (execFbDiscrepancy dt pole s) := by simp [execFbDiscrepancy]
@[simp] theorem State.safeFbAckWrite_keeps (acc : Access) (val : Word) :
    Keeps s (s.safeFbAckWrite acc val) := by simp [State.safeFbAckWrite]
@[simp] theorem execSafeFbAck_keeps (dt : Nat) (acc : Access) (val : Word) :
    OutKeeps s (execSafeFbAck dt acc val s) := by simp [execSafeFbAck]
@[simp] theorem State.takeVals_keeps : Keeps s s.takeVals := by simp [State.takeVals]
@[simp] theorem State.enableAxis_keeps (x : Side) (a : Nat) : Keeps s (s.enableAxis x a) := by simp [State.enableAxis]
@[simp] theorem State.resetIn_keeps (a : Nat) (x : Side) : Keeps s (s.resetIn a x) := by simp [State.resetIn]
@[simp] theorem State.resetJudge_keeps (a : Nat) : Keeps s (s.resetJudge a) := by simp [State.resetJudge]
@[simp] theorem State.resetsJudge_keeps : Keeps s s.resetsJudge := by simp [State.resetsJudge]
@[simp] theorem State.resetRequest_keeps (a : Nat) : Keeps s (s.resetRequest a) := ⟨rfl, rfl⟩
@[simp] theorem execResetPadPulse_keeps (dt pad width : Nat) : OutKeeps s (execResetPadPulse dt pad width s) := by simp [execResetPadPulse]
@[simp] theorem State.axCtrlWrite_keeps (acc : Access) (a : Nat) (val : Word) :
    Keeps s (s.axCtrlWrite acc a val) := by simp [State.axCtrlWrite]
@[simp] theorem execAxisReset_keeps (dt : Nat) (acc : Access) (a : Nat) (val : Word) :
    OutKeeps s (execAxisReset dt acc a val s) := by simp [execAxisReset]
@[simp] theorem State.safetyCycle_keeps (a b : ChanIn) : Keeps s (s.safetyCycle a b) := by simp [State.safetyCycle]
@[simp] theorem State.resetFault_keeps : Keeps s s.resetFault := by simp [State.resetFault]
@[simp] theorem State.reopen_keeps : Keeps s s.reopen := by simp [State.reopen]
@[simp] theorem State.safeCtrlWrite_keeps (acc : Access) (val : Word) : Keeps s (s.safeCtrlWrite acc val) := by simp [State.safeCtrlWrite]
@[simp] theorem execResetFault_keeps (dt : Nat) (acc : Access) (val : Word) :
    OutKeeps s (execResetFault dt acc val s) := by simp [execResetFault]
@[simp] theorem execReopen_keeps (dt : Nat) (acc : Access) (val : Word) : OutKeeps s (execReopen dt acc val s) := by simp [execReopen]
@[simp] theorem State.safeConfirmWrite_keeps (acc : Access) (val : Word) : Keeps s (s.safeConfirmWrite acc val) := by
  refine s.command_keeps _ _ _ fun t => ?_
  dsimp only
  split <;> simp
@[simp] theorem execSafeConfirm_keeps (dt : Nat) (acc : Access) (val : Word) :
    OutKeeps s (execSafeConfirm dt acc val s) := by simp [execSafeConfirm]
@[simp] theorem State.safeClrWrite_keeps (acc : Access) (val : Word) : Keeps s (s.safeClrWrite acc val) := by simp [State.safeClrWrite]
@[simp] theorem execSafeClr_keeps (dt : Nat) (acc : Access) (val : Word) : OutKeeps s (execSafeClr dt acc val s) := by simp [execSafeClr]
@[simp] theorem execOutputReadbackFault_keeps (dt pad held : Nat) :
    OutKeeps s (execOutputReadbackFault dt pad held s) := by simp [execOutputReadbackFault]
@[simp] theorem execStoHoldExpiry_keeps (dt : Nat) (side : Side) (a : Nat) :
    OutKeeps s (execStoHoldExpiry dt side a s) := by simp [execStoHoldExpiry]
@[simp] theorem State.padsOff_keeps : Keeps s s.padsOff := by simp [State.padsOff]
@[simp] theorem execSs1Timeout_keeps (dt a : Nat) : OutKeeps s (execSs1Timeout dt a s) := by simp [execSs1Timeout]
@[simp] theorem State.frameAccept_keeps (x : Side) (k : Nat) (bs : List Byte) :
    Keeps s (s.frameAccept x k bs) := by simp [State.frameAccept]
@[simp] theorem State.frameDrop_keeps (x : Side) (k : Nat) (f : Field) : Keeps s (s.frameDrop x k f) := ⟨rfl, rfl⟩
@[simp] theorem State.frameRx_keeps (x : Side) (k : Nat) (bs : List Byte) : Keeps s (s.frameRx x k bs) := by simp [State.frameRx]
@[simp] theorem State.frameArrives_keeps (k : Nat) (bytes : List Byte) : Keeps s (s.frameArrives k bytes) := by simp [State.frameArrives]
@[simp] theorem execSafetyFrameRx_keeps (dt k : Nat) (bytes : List Byte) :
    OutKeeps s (execSafetyFrameRx dt k bytes s) := by simp [execSafetyFrameRx]
@[simp] theorem State.safetyObject_keeps (ctrl o : Nat) (bytes : List Byte) :
    Keeps s (s.safetyObject ctrl o bytes) := by simp [State.safetyObject]
@[simp] theorem State.txPort_keeps (k : Nat) (bs : List Byte) : Keeps s (s.txPort k bs) := by simp [State.txPort]
@[simp] theorem State.txSend_keeps (k seq : Nat) (bs : List Byte) : Keeps s (s.txSend k seq bs) :=
  (s.txPort_keeps k bs).trans (foldl_keeps (fun t x => by simp) _ _)
@[simp] theorem State.txFrame_keeps (k : Nat) : Keeps s (s.txFrame k) := by simp [State.txFrame]
@[simp] theorem execSafetyFrameTx_keeps (dt k : Nat) : OutKeeps s (execSafetyFrameTx dt k s) := by simp [execSafetyFrameTx]
@[simp] theorem execConnWatchdog_keeps (dt k : Nat) : OutKeeps s (execConnWatchdog dt k s) := by simp [execConnWatchdog]

/-! ### The metrology die -/

@[simp] theorem State.setMem_keeps (m : DieMem) : Keeps s (s.setMem m) := ⟨rfl, rfl⟩
@[simp] theorem State.dwr_keeps (addr : Nat) (v : Word) : Keeps s (s.dwr addr v) := ⟨rfl, rfl⟩
@[simp] theorem State.dsetF_keeps (addr : Nat) (f : Field) (v : Nat) : Keeps s (s.dsetF addr f v) := ⟨rfl, rfl⟩
@[simp] theorem State.dwr64_keeps (addr v : Nat) : Keeps s (s.dwr64 addr v) := ⟨rfl, rfl⟩
@[simp] theorem State.setMetr_keeps (m : MetrPart) : Keeps s (s.setMetr m) := ⟨rfl, rfl⟩
@[simp] theorem State.setDch_keeps (c : Nat) (v : DieChan) : Keeps s (s.setDch c v) := ⟨rfl, rfl⟩
@[simp] theorem State.setSum_keeps (k : Nat) (v : Int) : Keeps s (s.setSum k v) := ⟨rfl, rfl⟩
@[simp] theorem State.dieEvent_keeps (code : Nat) (arg : Word) : Keeps s (s.dieEvent code arg) := ⟨rfl, rfl⟩
@[simp] theorem State.tamperAt_keeps (k g : Nat) (ts : Count) : Keeps s (s.tamperAt k g ts) := by simp [State.tamperAt]
@[simp] theorem State.tamper_keeps (k g : Nat) : Keeps s (s.tamper k g) := by simp [State.tamper]
@[simp] theorem State.sessionEnergy_keeps (g dir n : Nat) (test : Bool) :
    Keeps s (s.sessionEnergy g dir n test) := by simp [State.sessionEnergy]
@[simp] theorem State.billEnergy_keeps (g dir n : Nat) : Keeps s (s.billEnergy g dir n) := by simp [State.billEnergy]
@[simp] theorem State.testEnergy_keeps (g dir n : Nat) : Keeps s (s.testEnergy g dir n) := ⟨rfl, rfl⟩
@[simp] theorem State.accrue_keeps (g dir amount : Nat) : Keeps s (s.accrue g dir amount) := by simp [State.accrue]
@[simp] theorem State.accrueReact_keeps (q amount : Nat) : Keeps s (s.accrueReact q amount) := by simp [State.accrueReact]
@[simp] theorem State.maxima_keeps (flags : Nat) (tsEnd : Count) (g : Nat) : Keeps s (s.maxima flags tsEnd g) := by simp [State.maxima]
@[simp] theorem State.closedRecord_keeps (kind n : Nat) (full : Bool) : Keeps s (s.closedRecord kind n full) := by simp [State.closedRecord]
@[simp] theorem State.closeInterval_keeps (extra : Nat) (tsEnd : Count) :
    Keeps s (s.closeInterval extra tsEnd) := by simp [State.closeInterval]
@[simp] theorem State.openInterval_keeps (stepped : Bool) (flags : Nat) : Keeps s (s.openInterval stepped flags) := by
  simp only [State.openInterval]; split <;> simp
@[simp] theorem State.demChange_keeps (e : Count) : Keeps s (s.demChange e) := by
  unfold State.demChange; split <;> simp
@[simp] theorem State.intervalStep_keeps : Keeps s s.intervalStep := by simp [State.intervalStep]
@[simp] theorem State.evalTariff_keeps (minute : Nat) : Keeps s (s.evalTariff minute) := by simp [State.evalTariff]
@[simp] theorem State.tariffStep_keeps : Keeps s s.tariffStep := by simp [State.tariffStep]
@[simp] theorem State.clearMaxima_keeps (g : Nat) : Keeps s (s.clearMaxima g) := by simp [State.clearMaxima]
@[simp] theorem State.closePeriod_keeps : Keeps s s.closePeriod := by simp [State.closePeriod]
@[simp] theorem State.periodStep_keeps : Keeps s s.periodStep := by simp [State.periodStep]
@[simp] theorem State.setDisp_keeps (n : Nat) (v : Disp) : Keeps s (s.setDisp n v) := ⟨rfl, rfl⟩
@[simp] theorem State.dispTo_keeps (n st : Nat) : Keeps s (s.dispTo n st) := ⟨rfl, rfl⟩
@[simp] theorem State.dispSession_keeps (g : Nat) (opens : Bool) : Keeps s (s.dispSession g opens) := by simp [State.dispSession]
@[simp] theorem State.setSacc_keeps (n : Nat) (v : SessAcc) : Keeps s (s.setSacc n v) := ⟨rfl, rfl⟩
@[simp] theorem State.closeSession_keeps (n extra : Nat) (tsEnd : Count) :
    Keeps s (s.closeSession n extra tsEnd) := by simp [State.closeSession]
@[simp] theorem State.openSession_keeps (n : Nat) : Keeps s (s.openSession n) := by simp [State.openSession]
@[simp] theorem State.sessionInstant_keeps (e : Nat × Bool × Count) : Keeps s (s.sessionInstant e) := by simp [State.sessionInstant]
@[simp] theorem State.sessionsStep_keeps : Keeps s s.sessionsStep := by simp [State.sessionsStep]
@[simp] theorem State.saveDie_keeps : Keeps s s.saveDie := ⟨rfl, rfl⟩
@[simp] theorem State.boundaryStep_keeps {f : State → State} (hf : ∀ t, Keeps t (f t)) : Keeps s (s.boundaryStep f) := by
  simp [State.boundaryStep, hf]
@[simp] theorem State.boundaries_keeps : Keeps s s.boundaries := by simp [State.boundaries]
@[simp] theorem State.copyHit_keeps (a b : Option (List (Nat × Word))) : Keeps s (s.copyHit a b) := by
  simp only [State.copyHit]; (repeat' split) <;> simp
@[simp] theorem State.copiesCheck_keeps : Keeps s s.copiesCheck := by simp [State.copiesCheck]
@[simp] theorem State.dieCopies_keeps (a b : Option (List (Nat × Word))) : Keeps s (s.dieCopies a b) := by simp [State.dieCopies]

/-! ### Metering -/

@[simp] theorem State.sampleChannel_keeps (c : Nat) (code : Int) : Keeps s (s.sampleChannel c code) := by simp [State.sampleChannel]
@[simp] theorem State.acPhase_keeps (q : Nat) : Keeps s (s.acPhase q) := by simp [State.acPhase]
@[simp] theorem State.acSample_keeps : Keeps s s.acSample := by
  simp only [State.acSample]; split_ifs <;> simp
@[simp] theorem State.dcSample_keeps (n : Nat) : Keeps s (s.dcSample n) := by simp [State.dcSample]
@[simp] theorem State.polarity_keeps (g c : Nat) (bad : Bool) : Keeps s (s.polarity g c bad) := by simp [State.polarity]
@[simp] theorem State.overloadWindow_keeps (c : Nat) : Keeps s (s.overloadWindow c) := by
  simp only [State.overloadWindow]; (repeat' split) <;> simp
@[simp] theorem State.dcWindow_keeps (n : Nat) : Keeps s (s.dcWindow n) := by
  unfold State.dcWindow
  extract_lets cnt v i p s1 s2 s3
  have h2 : Keeps s s2 := by simp [s2, s1]
  have h3 : Keeps s2 s3 := by unfold s3; split <;> simp
  refine (h2.trans h3).trans ?_
  split <;> simp
@[simp] theorem State.acSecond_keeps : Keeps s s.acSecond := by
  refine foldl_keeps (fun t x => ?_) _ s; split <;> simp
@[simp] theorem State.windows_keeps : Keeps s s.windows := by simp [State.windows]
@[simp] theorem State.tempTake_keeps (c : Nat) : Keeps s (s.tempTake c) := by
  unfold State.tempTake; split <;> simp
@[simp] theorem State.tempFeed_keeps (k : Nat) (temp : Int) (bad : Bool) : Keeps s (s.tempFeed k temp bad) := by simp [State.tempFeed]
@[simp] theorem execTempTableUpdate_keeps (dt src : Nat) (temp : Int) :
    OutKeeps s (execTempTableUpdate dt src temp s) := by simp [execTempTableUpdate]
@[simp] theorem State.takeMap_keeps : Keeps s s.takeMap := by
  unfold State.takeMap; split <;> simp
@[simp] theorem State.testSet_keeps (old new : Word) : Keeps s (s.testSet old new) := by simp [State.testSet]
@[simp] theorem State.rwsEntry_keeps (e : Nat × Word) : Keeps s (s.rwsEntry e) := by simp [State.rwsEntry]
@[simp] theorem State.rwsApply_keeps : Keeps s s.rwsApply := by simp [State.rwsApply]
@[simp] theorem execRwsApply_keeps (dt : Nat) : OutKeeps s (execRwsApply dt s) := by simp [execRwsApply]
@[simp] theorem execWorkingMapReceived_keeps (dt : Nat) : OutKeeps s (execWorkingMapReceived dt s) := by
  simp only [execWorkingMapReceived]; split <;> simp
@[simp] theorem State.takeStep_keeps : Keeps s s.takeStep := by
  unfold State.takeStep; split <;> simp
@[simp] theorem execDieTimeStep_keeps (dt : Nat) : OutKeeps s (execDieTimeStep dt s) := by simp [execDieTimeStep]
@[simp] theorem State.logTamps_keeps : Keeps s s.logTamps := by simp [State.logTamps]
@[simp] theorem State.lineOffsets_keeps (l : DieLine) : Keeps s (s.lineOffsets l) := by simp [State.lineOffsets]
@[simp] theorem State.takeLine_keeps (l : DieLine) : Keeps s (s.takeLine l) := by simp [State.takeLine]
@[simp] theorem State.badLine_keeps : Keeps s s.badLine := by simp [State.badLine]
@[simp] theorem execTimeLine_keeps (dt : Nat) : OutKeeps s (execTimeLine dt s) := by simp [execTimeLine]
@[simp] theorem execTimeLineTimeout_keeps (dt : Nat) : OutKeeps s (execTimeLineTimeout dt s) := by simp [execTimeLineTimeout]
@[simp] theorem State.measure_keeps (codes : List Int) : Keeps s (s.measure codes) := by simp [State.measure]
@[simp] theorem State.sampleInstant_keeps (codes : List Int) : Keeps s (s.sampleInstant codes) := by simp [State.sampleInstant]
@[simp] theorem execSampleInstant_keeps (dt : Nat) (codes : List Int) :
    OutKeeps s (execSampleInstant dt codes s) := by simp [execSampleInstant]
@[simp] theorem State.openChannel_keeps (c : Nat) : Keeps s (s.openChannel c) := by
  simp only [State.openChannel]; (repeat' split) <;> simp
@[simp] theorem State.biasTest_keeps (c moved : Nat) : Keeps s (s.biasTest c moved) := by simp [State.biasTest]
@[simp] theorem execBiasTest_keeps (dt : Nat) (moved : List Nat) : OutKeeps s (execBiasTest dt moved s) := by simp [execBiasTest]
@[simp] theorem execRemoteChannelOpen_keeps (dt n : Nat) (moving : Bool) (held : Nat) :
    OutKeeps s (execRemoteChannelOpen dt n moving held s) := by simp [execRemoteChannelOpen]
@[simp] theorem State.showPhase_keeps (q : Nat) : Keeps s (s.showPhase q) := by simp [State.showPhase]
@[simp] theorem State.gridCycle_keeps (freq : Nat) : Keeps s (s.gridCycle freq) := by simp [State.gridCycle]
@[simp] theorem execGridCycle_keeps (dt freq : Nat) : OutKeeps s (execGridCycle dt freq s) := by simp [execGridCycle]
@[simp] theorem State.closeStats_keeps (c : Nat) : Keeps s (s.closeStats c) := by simp [State.closeStats]
@[simp] theorem execChannelStats_keeps (dt : Nat) : OutKeeps s (execChannelStats dt s) := by simp [execChannelStats]
@[simp] theorem execHarmonicWindow_keeps (dt : Nat) (res : List (Nat × Nat × List Word)) :
    OutKeeps s (execHarmonicWindow dt res s) := by simp [execHarmonicWindow]
@[simp] theorem execPolarityDetect_keeps (dt c : Nat) : OutKeeps s (execPolarityDetect dt c s) := by
  simp only [execPolarityDetect]; split <;> simp
@[simp] theorem State.digestRegs_keeps (base : Nat → Nat) (d : List Byte) : Keeps s (s.digestRegs base d) := by simp [State.digestRegs]
@[simp] theorem State.takeSeal_keeps : Keeps s s.takeSeal := by simp [State.takeSeal]
@[simp] theorem State.loopTo_keeps (st : Nat) : Keeps s (s.loopTo st) := ⟨rfl, rfl⟩
@[simp] theorem State.sealWord_keeps (ok : Bool) : Keeps s (s.sealWord ok) := by simp [State.sealWord]
@[simp] theorem execSealWord_keeps (dt : Nat) (back : BitVec 16) : OutKeeps s (execSealWord dt back s) := by simp [execSealWord]
@[simp] theorem State.showChannel_keeps (c : Nat) : Keeps s (s.showChannel c) := by simp [State.showChannel]
@[simp] theorem State.dieShow_keeps : Keeps s s.dieShow := by simp [State.dieShow]
@[simp] theorem State.sendRecord_keeps : Keeps s s.sendRecord := by simp [State.sendRecord]
@[simp] theorem execResultRecord_keeps (dt : Nat) : OutKeeps s (execResultRecord dt s) := by simp [execResultRecord]
@[simp] theorem State.dieReport_keeps (e : Nat × Count × Word) : Keeps s (s.dieReport e) := by simp [State.dieReport]
@[simp] theorem State.recordQueue_keeps (ts : Count) : Keeps s (s.recordQueue ts) := by simp [State.recordQueue]
@[simp] theorem State.keepCopies_keeps (rs : List (Nat × Nat)) : Keeps s (s.keepCopies rs) := by simp [State.keepCopies]
@[simp] theorem State.takeRecord_keeps (r : DieRec) : Keeps s (s.takeRecord r) := by simp [State.takeRecord]
@[simp] theorem execMetrologyResult_keeps (dt : Nat) : OutKeeps s (execMetrologyResult dt s) := by
  simp only [execMetrologyResult]; split <;> simp
@[simp] theorem State.metrClrWrite_keeps (acc : Access) (val : Word) : Keeps s (s.metrClrWrite acc val) := by simp [State.metrClrWrite]
@[simp] theorem execMetrClr_keeps (dt : Nat) (acc : Access) (val : Word) : OutKeeps s (execMetrClr dt acc val s) := by simp [execMetrClr]

/-! ### Billing -/

@[simp] theorem execDemandIntervalEnd_keeps (dt : Nat) : OutKeeps s (execDemandIntervalEnd dt s) := by simp [execDemandIntervalEnd]
@[simp] theorem execTariffSwitch_keeps (dt : Nat) : OutKeeps s (execTariffSwitch dt s) := by simp [execTariffSwitch]
@[simp] theorem execBillingPeriodClose_keeps (dt : Nat) : OutKeeps s (execBillingPeriodClose dt s) := by simp [execBillingPeriodClose]
@[simp] theorem State.nextInstant_keeps (opens : Bool) : Keeps s (s.nextInstant opens) := by
  unfold State.nextInstant; split <;> simp
@[simp] theorem execSessionAccumOpen_keeps (dt : Nat) : OutKeeps s (execSessionAccumOpen dt s) := by simp [execSessionAccumOpen]
@[simp] theorem execSessionAccumClose_keeps (dt : Nat) : OutKeeps s (execSessionAccumClose dt s) := by simp [execSessionAccumClose]
@[simp] theorem State.signNext_keeps : Keeps s s.signNext := by
  unfold State.signNext; split <;> simp
@[simp] theorem execSessionSigned_keeps (dt : Nat) : OutKeeps s (execSessionSigned dt s) := by simp [execSessionSigned]
@[simp] theorem execRegisterSave_keeps (dt : Nat) : OutKeeps s (execRegisterSave dt s) := by simp [execRegisterSave]
@[simp] theorem State.logCut_keeps : Keeps s s.logCut := by simp [State.logCut]
@[simp] theorem State.dieDark_keeps : Keeps s s.dieDark := ⟨rfl, rfl⟩
@[simp] theorem execMetrPowerFail_keeps (dt : Nat) (flushed : Bool) :
    OutKeeps s (execMetrPowerFail dt flushed s) := by simp [execMetrPowerFail]
@[simp] theorem State.flushFailed_keeps : Keeps s s.flushFailed := by simp [State.flushFailed]
@[simp] theorem State.closeOpen_keeps : Keeps s s.closeOpen := by simp [State.closeOpen]
@[simp] theorem State.resendSettings_keeps : Keeps s s.resendSettings := ⟨rfl, rfl⟩
@[simp] theorem State.dieStart_keeps : Keeps s s.dieStart := by simp [State.dieStart]
@[simp] theorem execMetrDieStart_keeps (dt : Nat) (holdupOk : Bool) :
    OutKeeps s (execMetrDieStart dt holdupOk s) := by simp [execMetrDieStart]
@[simp] theorem execDieWatchdogReset_keeps (dt : Nat) : OutKeeps s (execDieWatchdogReset dt s) := by simp [execDieWatchdogReset]
@[simp] theorem State.dieProvision_keeps : Keeps s s.dieProvision := ⟨rfl, rfl⟩
@[simp] theorem State.billCtrlWrite_keeps (acc : Access) (val : Word) : Keeps s (s.billCtrlWrite acc val) := by simp [State.billCtrlWrite]
@[simp] theorem execBillReset_keeps (dt : Nat) (acc : Access) (val : Word) :
    OutKeeps s (execBillReset dt acc val s) := by simp [execBillReset]
@[simp] theorem State.applySetting_keeps (addr : Nat) (w : Word) : Keeps s (s.applySetting addr w) := by simp [State.applySetting]
@[simp] theorem State.applySettings_keeps : Keeps s s.applySettings := by simp [State.applySettings]
@[simp] theorem execBillSettingsApply_keeps (dt : Nat) : OutKeeps s (execBillSettingsApply dt s) := by simp [execBillSettingsApply]
@[simp] theorem State.billRecSelect_keeps (p : Path) (val : Word) : Keeps s (s.billRecSelect p val) := ⟨rfl, rfl⟩
@[simp] theorem State.billRecSelWrite_keeps (acc : Access) (val : Word) :
    Keeps s (s.billRecSelWrite acc val) := by simp [State.billRecSelWrite]
@[simp] theorem execBillRecRequest_keeps (dt : Nat) (acc : Access) (val : Word) :
    OutKeeps s (execBillRecRequest dt acc val s) := by simp [execBillRecRequest]
@[simp] theorem State.recordReady_keeps (p : Path) (sel : Nat) : Keeps s (s.recordReady p sel) := by
  unfold State.recordReady; split <;> simp
@[simp] theorem execBillRecReady_keeps (dt : Nat) (p : Path) : OutKeeps s (execBillRecReady dt p s) := by
  simp only [execBillRecReady]; split <;> simp
@[simp] theorem State.sendDisplay_keeps (n : Nat) : Keeps s (s.sendDisplay n) := by simp [State.sendDisplay]
@[simp] theorem execDisplayFrame_keeps (dt n : Nat) : OutKeeps s (execDisplayFrame dt n s) := by simp [execDisplayFrame]
@[simp] theorem execDisplayButton_keeps (dt n held : Nat) : OutKeeps s (execDisplayButton dt n held s) := by simp [execDisplayButton]
@[simp] theorem execDisplayTimeout_keeps (dt n : Nat) : OutKeeps s (execDisplayTimeout dt n s) := by simp [execDisplayTimeout]

/-! ### Site buses -/

@[simp] theorem State.canSendWrite_keeps (acc : Access) (k p : Nat) (val : Word) :
    Keeps s (s.canSendWrite acc k p val) := by simp [State.canSendWrite]
@[simp] theorem State.canStageWrite_keeps (acc : Access) (addr : Nat) (val : Word) :
    Keeps s (s.canStageWrite acc addr val) := by simp [State.canStageWrite]
@[simp] theorem execCanPortSend_keeps (dt : Nat) (acc : Access) (k p : Nat) (val : Word) :
    OutKeeps s (execCanPortSend dt acc k p val s) := by simp [execCanPortSend]
@[simp] theorem State.portTick_keeps (k p : Nat) : Keeps s (s.portTick k p) := by simp [State.portTick]
@[simp] theorem execCanPeriodicTick_keeps (dt k p : Nat) : OutKeeps s (execCanPeriodicTick dt k p s) := by simp [execCanPeriodicTick]
@[simp] theorem State.canCycle_keeps (k : Nat) : Keeps s (s.canCycle k) := by simp [State.canCycle]
@[simp] theorem State.canFlags_keeps : Keeps s s.canFlags := by simp [State.canFlags]
@[simp] theorem State.canBoundary_keeps : Keeps s s.canBoundary := by simp [State.canBoundary]
@[simp] theorem State.canConf_keeps (k : Nat) : Keeps s (s.canConf k) := by simp [State.canConf]
@[simp] theorem State.setErrs_keeps (k tec rc : Nat) : Keeps s (s.setErrs k tec rc) := by simp [State.setErrs]
@[simp] theorem State.busOff_keeps (k : Nat) : Keeps s (s.busOff k) := by simp [State.busOff]
@[simp] theorem State.wireSet_keeps (k f : Nat) : Keeps s (s.wireSet k f) := by simp [State.wireSet]
@[simp] theorem State.wireGone_keeps (k f : Nat) : Keeps s (s.wireGone k f) := by simp [State.wireGone]
@[simp] theorem State.ackStep_keeps (k : Nat) (failed : Bool) : Keeps s (s.ackStep k failed) := by simp [State.ackStep]
@[simp] theorem execCanBusError_keeps (dt k err tecUp recUp : Nat) (sending : Bool) :
    OutKeeps s (execCanBusError dt k err tecUp recUp sending s) := by simp [execCanBusError]
@[simp] theorem execCanRecoveryDone_keeps (dt k : Nat) : OutKeeps s (execCanRecoveryDone dt k s) := by simp [execCanRecoveryDone]
@[simp] theorem State.canLost_keeps (k o count : Nat) : Keeps s (s.canLost k o count) := by
  simp only [State.canLost]; split <;> simp
@[simp] theorem State.storeFrame_keeps (k o : Nat) (m : CanMsg) (sof : Count) :
    Keeps s (s.storeFrame k o m sof) := by simp [State.storeFrame]
@[simp] theorem State.frameSeen_keeps (k : Nat) (m : CanMsg) (sof : Count) : Keeps s (s.frameSeen k m sof) := by simp [State.frameSeen]
@[simp] theorem execCanFrameReceived_keeps (dt k : Nat) (msg : CanMsg) (remote : Bool) (sof : Count) :
    OutKeeps s (execCanFrameReceived dt k msg remote sof s) := by
  simp only [execCanFrameReceived]; (repeat' split) <;> simp
@[simp] theorem State.canLeft_keeps (x : Side) (k : Nat) (e : CanEng) : Keeps s (s.canLeft x k e) := by simp [State.canLeft]
@[simp] theorem State.sentOn_keeps (x : Side) (k : Nat) (m : CanMsg) : Keeps s (s.sentOn x k m) := by simp [State.sentOn]
@[simp] theorem State.countSent_keeps (k : Nat) (m : CanMsg) : Keeps s (s.countSent k m) := by
  unfold State.countSent; split <;> simp
@[simp] theorem execCanFrameSent_keeps (dt k : Nat) (msg : CanMsg) (sof : Count) : OutKeeps s (execCanFrameSent dt k msg sof s) := by
  simp only [execCanFrameSent]; (repeat' split) <;> simp
@[simp] theorem State.rxWindow_keeps (p : Path) (k : Nat) (bs : List Byte) : Keeps s (s.rxWindow p k bs) := by simp [State.rxWindow]
@[simp] theorem State.canRxSelect_keeps (p : Path) (k : Nat) (val : Word) : Keeps s (s.canRxSelect p k val) := by simp [State.canRxSelect]
@[simp] theorem State.canRxSelWrite_keeps (acc : Access) (k : Nat) (val : Word) :
    Keeps s (s.canRxSelWrite acc k val) := by simp [State.canRxSelWrite]
@[simp] theorem execCanRxSel_keeps (dt : Nat) (acc : Access) (k : Nat) (val : Word) :
    OutKeeps s (execCanRxSel dt acc k val s) := by simp [execCanRxSel]
@[simp] theorem State.canBothLeave_keeps (k : Nat) (f : CanEng → CanEng) : Keeps s (s.canBothLeave k f) := by simp [State.canBothLeave]
@[simp] theorem State.countPurged_keeps (k n : Nat) : Keeps s (s.countPurged k n) := ⟨rfl, rfl⟩
@[simp] theorem State.canSleepNow_keeps (k : Nat) : Keeps s (s.canSleepNow k) := ⟨rfl, rfl⟩
@[simp] theorem State.canRequestSleep_keeps (k : Nat) : Keeps s (s.canRequestSleep k) := by simp [State.canRequestSleep]
@[simp] theorem State.canWakeUp_keeps (k src : Nat) (ide : Bool) (id : Nat) :
    Keeps s (s.canWakeUp k src ide id) := by simp [State.canWakeUp]
@[simp] theorem State.canPurge_keeps (k : Nat) (wire : Bool) : Keeps s (s.canPurge k wire) := by simp [State.canPurge]
@[simp] theorem State.canLeaveHalt_keeps (k : Nat) : Keeps s (s.canLeaveHalt k) := by simp [State.canLeaveHalt]
@[simp] theorem State.canCtrlWrite_keeps (acc : Access) (k : Nat) (val : Word) (wire : Bool) :
    Keeps s (s.canCtrlWrite acc k val wire) := by simp [State.canCtrlWrite]
@[simp] theorem execCanSleep_keeps (dt : Nat) (acc : Access) (k : Nat) (val : Word) (wire : Bool) :
    OutKeeps s (execCanSleep dt acc k val wire s) := by simp [execCanSleep]
@[simp] theorem execCanCtrlWake_keeps (dt : Nat) (acc : Access) (k : Nat) (val : Word) (wire : Bool) :
    OutKeeps s (execCanCtrlWake dt acc k val wire s) := by simp [execCanCtrlWake]
@[simp] theorem execCanPurgeCmd_keeps (dt : Nat) (acc : Access) (k : Nat) (val : Word) (wire : Bool) :
    OutKeeps s (execCanPurgeCmd dt acc k val wire s) := by simp [execCanPurgeCmd]
@[simp] theorem execCanResume_keeps (dt : Nat) (acc : Access) (k : Nat) (val : Word) (wire : Bool) :
    OutKeeps s (execCanResume dt acc k val wire s) := by simp [execCanResume]
@[simp] theorem execCanSleepEnter_keeps (dt k : Nat) : OutKeeps s (execCanSleepEnter dt k s) := by simp [execCanSleepEnter]
@[simp] theorem execCanSleepTimeout_keeps (dt k : Nat) : OutKeeps s (execCanSleepTimeout dt k s) := by simp [execCanSleepTimeout]
@[simp] theorem execCanWake_keeps (dt k src : Nat) (msg : CanMsg) : OutKeeps s (execCanWake dt k src msg s) := by simp [execCanWake]
@[simp] theorem execCanWireFault_keeps (dt k present : Nat) : OutKeeps s (execCanWireFault dt k present s) := by simp [execCanWireFault]
@[simp] theorem execCanWireClear_keeps (dt k flag : Nat) : OutKeeps s (execCanWireClear dt k flag s) := by simp [execCanWireClear]
@[simp] theorem State.canClrWrite_keeps (acc : Access) (k : Nat) (val : Word) :
    Keeps s (s.canClrWrite acc k val) := by simp [State.canClrWrite]
@[simp] theorem execCanClr_keeps (dt : Nat) (acc : Access) (k : Nat) (val : Word) :
    OutKeeps s (execCanClr dt acc k val s) := by simp [execCanClr]
@[simp] theorem State.canFailover_keeps (lost : Side) : Keeps s (s.canFailover lost) := by simp [State.canFailover]
@[simp] theorem State.canSwitch_keeps (old : Side) : Keeps s (s.canSwitch old) := by simp [State.canSwitch]
@[simp] theorem State.canJoin_keeps (x : Side) : Keeps s (s.canJoin x) := by simp [State.canJoin]

/-! ### Load switches -/

@[simp] theorem State.setLsw_keeps (n : Nat) (c : LswCh) : Keeps s (s.setLsw n c) := ⟨rfl, rfl⟩
@[simp] theorem State.setLs_keeps (n : Nat) (f : Field) (v : Nat) : Keeps s (s.setLs n f v) := ⟨rfl, rfl⟩
@[simp] theorem State.lswEnter_keeps (n st : Nat) : Keeps s (s.lswEnter n st) := ⟨rfl, rfl⟩
@[simp] theorem State.inrush_keeps (n : Nat) : Keeps s (s.inrush n) := ⟨rfl, rfl⟩
@[simp] theorem State.clampTurnOff_keeps (n e : Nat) : Keeps s (s.clampTurnOff n e) := by simp [State.clampTurnOff]
@[simp] theorem State.turnOff_keeps (n st e : Nat) : Keeps s (s.turnOff n st e) := by simp [State.turnOff]
@[simp] theorem State.faultOff_keeps (n st cause ev e : Nat) : Keeps s (s.faultOff n st cause ev e) := by simp [State.faultOff]
@[simp] theorem State.lswFollow_keeps (n e : Nat) : Keeps s (s.lswFollow n e) := by simp [State.lswFollow]
@[simp] theorem State.lswCommand_keeps (n : Nat) (on : Bool) (e : Nat) : Keeps s (s.lswCommand n on e) := by simp [State.lswCommand]
@[simp] theorem State.fogDrive_keeps (n e : Nat) : Keeps s (s.fogDrive n e) := by simp [State.fogDrive]
@[simp] theorem State.freeEnergy_keeps : Keeps s s.freeEnergy.2 := ⟨rfl, rfl⟩
@[simp] theorem State.fogEnter_keeps (cause : Nat) : Keeps s (s.fogEnter cause) := by simp [State.fogEnter]
@[simp] theorem State.fogRelease_keeps (n : Nat) : Keeps s (s.fogRelease n) := ⟨rfl, rfl⟩
@[simp] theorem State.fogExit_keeps : Keeps s s.fogExit := by simp [State.fogExit]
@[simp] theorem execFogEnChange_keeps (dt : Nat) (active : Bool) (energy : SMap Nat) :
    OutKeeps s (execFogEnChange dt active energy s) := by simp [execFogEnChange]
@[simp] theorem State.fogClear_keeps (n : Nat) (idle : Bool) : Keeps s (s.fogClear n idle) := by simp [State.fogClear]
@[simp] theorem execFoginChange_keeps (dt k : Nat) (active : Bool) (energy : SMap Nat) :
    OutKeeps s (execFoginChange dt k active energy s) := by simp [execFoginChange]
@[simp] theorem State.lswCtrlWrite_keeps (acc : Access) (n : Nat) (val : Word) :
    Keeps s (s.lswCtrlWrite acc n val) := by simp [State.lswCtrlWrite]
@[simp] theorem execLswOn_keeps (dt : Nat) (acc : Access) (n : Nat) (val : Word) :
    OutKeeps s (execLswOn dt acc n val s) := by simp [execLswOn]
@[simp] theorem execLswOff_keeps (dt : Nat) (acc : Access) (n : Nat) (val : Word) :
    OutKeeps s (execLswOff dt acc n val s) := by simp [execLswOff]
@[simp] theorem execLswClear_keeps (dt : Nat) (acc : Access) (n : Nat) (val : Word) :
    OutKeeps s (execLswClear dt acc n val s) := by simp [execLswClear]
@[simp] theorem State.lswCycle_keeps (n e : Nat) : Keeps s (s.lswCycle n e) := by
  simp only [State.lswCycle]; (repeat' split) <;> simp
@[simp] theorem State.lswLoad_keeps : Keeps s s.lswLoad := by simp [State.lswLoad]
@[simp] theorem State.lswBoundary_keeps (i : LswIn) : Keeps s (s.lswBoundary i) := by simp [State.lswBoundary]
@[simp] theorem State.lswAllOff_keeps : Keeps s s.lswAllOff := by simp [State.lswAllOff]
@[simp] theorem execInrushEnd_keeps (dt n : Nat) : OutKeeps s (execInrushEnd dt n s) := by simp [execInrushEnd]
@[simp] theorem execThermalRegulation_keeps (dt n : Nat) : OutKeeps s (execThermalRegulation dt n s) := by simp [execThermalRegulation]
@[simp] theorem execThermalRegulationEnd_keeps (dt n : Nat) : OutKeeps s (execThermalRegulationEnd dt n s) := by
  simp only [execThermalRegulationEnd]; split <;> simp
@[simp] theorem execThermalShutdown_keeps (dt n e : Nat) : OutKeeps s (execThermalShutdown dt n e s) := by simp [execThermalShutdown]
@[simp] theorem execShortDetected_keeps (dt n e : Nat) : OutKeeps s (execShortDetected dt n e s) := by simp [execShortDetected]
@[simp] theorem execOverloadTimeout_keeps (dt n e : Nat) : OutKeeps s (execOverloadTimeout dt n e s) := by simp [execOverloadTimeout]
@[simp] theorem execRetryDelayExpiry_keeps (dt n : Nat) (cool : Bool) :
    OutKeeps s (execRetryDelayExpiry dt n cool s) := by simp [execRetryDelayExpiry]
@[simp] theorem execRetryCountReset_keeps (dt n : Nat) : OutKeeps s (execRetryCountReset dt n s) := by simp [execRetryCountReset]
@[simp] theorem State.railDown_keeps (r : Nat) (energy : SMap Nat) : Keeps s (s.railDown r energy) := by simp [State.railDown]
@[simp] theorem execRailUndervoltage_keeps (dt rail : Nat) (energy : SMap Nat) :
    OutKeeps s (execRailUndervoltage dt rail energy s) := by simp [execRailUndervoltage]
@[simp] theorem execRailRestored_keeps (dt rail : Nat) : OutKeeps s (execRailRestored dt rail s) := by simp [execRailRestored]
@[simp] theorem execRailReversed_keeps (dt rail : Nat) (now : Bool) (energy : SMap Nat) :
    OutKeeps s (execRailReversed dt rail now energy s) := by simp [execRailReversed]
@[simp] theorem execClampBucketRefilled_keeps (dt n : Nat) :
    OutKeeps s (execClampBucketRefilled dt n s) := by simp [execClampBucketRefilled]
@[simp] theorem execPackageShed_keeps (dt iSum pSw e : Nat) : OutKeeps s (execPackageShed dt iSum pSw e s) := by
  simp only [execPackageShed]; (repeat' split) <;> simp
@[simp] theorem State.lswFlag_keeps (n : Nat) (f : Field) (ev : Nat) : Keeps s (s.lswFlag n f ev) := by simp [State.lswFlag]
@[simp] theorem execOffStateTest_keeps (dt n : Nat) (bare sourced : Bool) :
    OutKeeps s (execOffStateTest dt n bare sourced s) := by simp [execOffStateTest]
@[simp] theorem execOpenOnDetect_keeps (dt n : Nat) (below : Bool) :
    OutKeeps s (execOpenOnDetect dt n below s) := by simp [execOpenOnDetect]
@[simp] theorem State.lswSnsSelWrite_keeps (acc : Access) (val : Word) :
    Keeps s (s.lswSnsSelWrite acc val) := by simp [State.lswSnsSelWrite]
@[simp] theorem execLswSnsSel_keeps (dt : Nat) (acc : Access) (val : Word) :
    OutKeeps s (execLswSnsSel dt acc val s) := by simp [execLswSnsSel]
@[simp] theorem State.lswClrWrite_keeps (acc : Access) (val : Word) : Keeps s (s.lswClrWrite acc val) := by simp [State.lswClrWrite]
@[simp] theorem execLswClr_keeps (dt : Nat) (acc : Access) (val : Word) : OutKeeps s (execLswClr dt acc val s) := by simp [execLswClr]

/-! ### The time base -/

@[simp] theorem State.setPtp_keeps (n : Nat) (p : PtpPort) : Keeps s (s.setPtp n p) := ⟨rfl, rfl⟩
@[simp] theorem State.selectSource_keeps : Keeps s s.selectSource := by
  unfold State.selectSource; split <;> simp
@[simp] theorem State.setOffset_keeps (ns : Int) : Keeps s (s.setOffset ns) := ⟨rfl, rfl⟩
@[simp] theorem State.lockStep_keeps (d : Int) : Keeps s (s.lockStep d) := by simp [State.lockStep]
@[simp] theorem State.servo_keeps : Keeps s s.servo := ⟨rfl, rfl⟩
@[simp] theorem State.ptpOffset_keeps (d : Int) : Keeps s (s.ptpOffset d) := by simp [State.ptpOffset]
@[simp] theorem execPtpMessage_keeps (dt port domain : Nat) (announce : Option (Nat × Nat)) (exchange : Option PtpExchange) :
    OutKeeps s (execPtpMessage dt port domain announce exchange s) := by
  simp only [execPtpMessage]; (repeat' split) <;> simp
@[simp] theorem execPtpAnnounceTimeout_keeps (dt port : Nat) :
    OutKeeps s (execPtpAnnounceTimeout dt port s) := by simp [execPtpAnnounceTimeout]
@[simp] theorem execPtpTmoExpiry_keeps (dt : Nat) : OutKeeps s (execPtpTmoExpiry dt s) := by
  simp only [execPtpTmoExpiry]; split <;> simp
@[simp] theorem execPpsInEdge_keeps (dt : Nat) : OutKeeps s (execPpsInEdge dt s) := by simp [execPpsInEdge]
@[simp] theorem execPpsInMissing_keeps (dt : Nat) : OutKeeps s (execPpsInMissing dt s) := by
  simp only [execPpsInMissing]; split <;> simp
@[simp] theorem execNtpResponse_keeps (dt : Nat) (offset : Int) : OutKeeps s (execNtpResponse dt offset s) := by simp [execNtpResponse]
@[simp] theorem State.correct_keeps (delta : Int) : Keeps s (s.correct delta) := by simp [State.correct]
@[simp] theorem execTimeCorrection_keeps (dt : Nat) (delta : Int) :
    OutKeeps s (execTimeCorrection dt delta s) := by simp [execTimeCorrection]
@[simp] theorem State.applyStep_keeps : Keeps s s.applyStep := by
  unfold State.applyStep; split <;> simp
@[simp] theorem State.requestTime_keeps (hi : Word) : Keeps s (s.requestTime hi) := by simp [State.requestTime]
@[simp] theorem State.timeSetHiWrite_keeps (acc : Access) (val : Word) :
    Keeps s (s.timeSetHiWrite acc val) := by simp [State.timeSetHiWrite]
@[simp] theorem execTimeSetHi_keeps (dt : Nat) (acc : Access) (val : Word) :
    OutKeeps s (execTimeSetHi dt acc val s) := by simp [execTimeSetHi]
@[simp] theorem execRtcTrim_keeps (dt : Nat) : OutKeeps s (execRtcTrim dt s) := by simp [execRtcTrim]
@[simp] theorem execPpsOutPulse_keeps (dt : Nat) : OutKeeps s (execPpsOutPulse dt s) := by simp [execPpsOutPulse]
@[simp] theorem State.timeQueueSelWrite_keeps (acc : Access) (val : Word) :
    Keeps s (s.timeQueueSelWrite acc val) := by simp [State.timeQueueSelWrite]
@[simp] theorem execTimeQueueSel_keeps (dt : Nat) (acc : Access) (val : Word) :
    OutKeeps s (execTimeQueueSel dt acc val s) := by simp [execTimeQueueSel]
@[simp] theorem State.clearLosses_keeps (x : Side) (n : Nat) : Keeps s (s.clearLosses x n) := by simp [State.clearLosses]
@[simp] theorem State.timeQueueClrWrite_keeps (acc : Access) (val : Word) :
    Keeps s (s.timeQueueClrWrite acc val) := by simp [State.timeQueueClrWrite]
@[simp] theorem execTimeQueueClr_keeps (dt : Nat) (acc : Access) (val : Word) :
    OutKeeps s (execTimeQueueClr dt acc val s) := by simp [execTimeQueueClr]

/-! ### What a flip does to the units -/

@[simp] theorem State.showLoops_keeps : Keeps s s.showLoops := by simp [State.showLoops]
@[simp] theorem State.showCounts_keeps : Keeps s s.showCounts := ⟨rfl, rfl⟩
@[simp] theorem State.loopFlip_keeps (before : State) (addrs : List Nat) : Keeps s (s.loopFlip before addrs) := by simp [State.loopFlip]
@[simp] theorem State.quantumFlip_keeps (before : State) (addrs : List Nat) :
    Keeps s (s.quantumFlip before addrs) := by simp [State.quantumFlip]
@[simp] theorem State.safeFlip_keeps (addrs : List Nat) : Keeps s (s.safeFlip addrs) := by simp [State.safeFlip]
@[simp] theorem State.billFlip_keeps (addrs : List Nat) : Keeps s (s.billFlip addrs) := ⟨rfl, rfl⟩
@[simp] theorem State.ltrWritten_keeps (addrs : List Nat) : Keeps s (s.ltrWritten addrs) := ⟨rfl, rfl⟩
@[simp] theorem State.timeFlip_keeps (addrs : List Nat) : Keeps s (s.timeFlip addrs) := by simp [State.timeFlip]
@[simp] theorem State.flipHooks_keeps (before : State) (addrs : List Nat) : Keeps s (s.flipHooks before addrs) := by simp [State.flipHooks]
theorem State.entryDue_keeps {p : Path} {addr : Nat} {val : Word} {t : State} (h : s.entryDue p addr val = some t) : Keeps s t := by
  unfold State.entryDue at h
  (repeat' split at h) <;> simp at h <;> simp [← h]
@[simp] theorem State.pairsOrphan_keeps (b : Bool) : Keeps s (s.pairsOrphan b) := by simp [State.pairsOrphan]
@[simp] theorem State.qsetLoad_keeps : Keeps s s.qsetLoad := by simp [State.qsetLoad]
@[simp] theorem State.holdHooks_keeps : Keeps s s.holdHooks := by simp [State.holdHooks]
@[simp] theorem State.loadHooks_keeps : Keeps s s.loadHooks := by simp [State.loadHooks]

/-! ### Load, activation, boot trial -/

@[simp] theorem State.safeHold_keeps : Keeps s s.safeHold := by simp [State.safeHold]
@[simp] theorem State.tryLoad_keeps (n : Nat) : Keeps s (s.tryLoad n).1 := by
  simp only [State.tryLoad]; (repeat' split) <;> simp
@[simp] theorem execImageLoad_keeps (dt : Nat) : OutKeeps s (execImageLoad dt s) := by
  unfold execImageLoad
  extract_lets s1
  split
  · simp [s1]
  split
  · simp [s1]
  rename_i s2 boot _ _
  have h2 : Keeps s s2 := by unfold s2; split <;> exact ⟨rfl, rfl⟩
  clear_value s2
  split <;> rename_i s3 e3 <;> have h3 := h2.trans ((s2.tryLoad_keeps boot).of_fst e3)
  · simpa using h3
  split
  · split <;> rename_i s4 e4 <;> have h4 := h3.trans ((s3.tryLoad_keeps (1 - boot)).of_fst e4) <;> simp [h4]
  · simp [h3]
@[simp] theorem State.startActivation_keeps (n : Nat) : Keeps s (s.startActivation n) := by simp [State.startActivation]
@[simp] theorem State.confirmSlot_keeps : Keeps s s.confirmSlot := by simp [State.confirmSlot]
@[simp] theorem State.requestActivation_keeps : Keeps s s.requestActivation := by simp [State.requestActivation]
@[simp] theorem State.slotActs_keeps (val : Word) : Keeps s (s.slotActs val) := by simp [State.slotActs]
@[simp] theorem State.slotCtrlWrite_keeps (acc : Access) (val : Word) : Keeps s (s.slotCtrlWrite acc val) := by simp [State.slotCtrlWrite]
@[simp] theorem execImgActivate_keeps (dt : Nat) (acc : Access) (val : Word) :
    OutKeeps s (execImgActivate dt acc val s) := by simp [execImgActivate]
@[simp] theorem execImgConfirm_keeps (dt : Nat) (acc : Access) (val : Word) :
    OutKeeps s (execImgConfirm dt acc val s) := by simp [execImgConfirm]
@[simp] theorem State.startTrial_keeps : Keeps s s.startTrial := ⟨rfl, rfl⟩
@[simp] theorem execBootWindowExpiry_keeps (dt : Nat) : OutKeeps s (execBootWindowExpiry dt s) := by simp [execBootWindowExpiry]
@[simp] theorem execRevertStart_keeps (dt : Nat) : OutKeeps s (execRevertStart dt s) := by simp [execRevertStart]

/-! ### Transactions -/

@[simp] theorem State.txnBegin_keeps (acc : Access) (n : Nat) : Keeps s (s.txnBegin acc n) := by simp [State.txnBegin]
@[simp] theorem State.txnOwned_keeps (acc : Access) (n : Nat) {act : Ctx → State} (hact : ∀ c, Keeps s (act c)) :
    Keeps s (s.txnOwned acc n act) := by simp [State.txnOwned, hact]
@[simp] theorem State.txnCommit_keeps (acc : Access) (n : Nat) (trial : Bool) :
    Keeps s (s.txnCommit acc n trial) := by simp [State.txnCommit]
@[simp] theorem State.endContext_keeps (n result reason : Nat) : Keeps s (s.endContext n result reason) := ⟨rfl, rfl⟩
@[simp] theorem State.txnAbort_keeps (acc : Access) (n : Nat) : Keeps s (s.txnAbort acc n) := by simp [State.txnAbort]
@[simp] theorem State.txnConfirm_keeps (acc : Access) (n : Nat) : Keeps s (s.txnConfirm acc n) := by simp [State.txnConfirm]
@[simp] theorem State.sessionClose_keeps (path : Path) (session : Nat) : Keeps s (s.sessionClose path session) := by
  refine foldl_keeps (fun t x => ?_) _ s; dsimp only; (repeat' split) <;> simp
@[simp] theorem State.refuse_keeps (n reason : Nat) : Keeps s (s.refuse n reason) := ⟨rfl, rfl⟩
@[simp] theorem State.txnValidated_keeps (n : Nat) : Keeps s (s.txnValidated n) := by simp [State.txnValidated]
@[simp] theorem State.applyEntry_keeps (p : Path) (e : Nat × Word) : Keeps s (s.applyEntry p e) := by
  unfold State.applyEntry
  split
  · exact s.entryDue_keeps ‹_›
  · split <;> simp
@[simp] theorem State.refuseSealed_keeps (n : Nat) : Keeps s (s.refuseSealed n) := by simp [State.refuseSealed]
@[simp] theorem State.settle_keeps (ns : List Nat) : Keeps s (s.settle ns).1 := by simp [State.settle]
@[simp] theorem State.timeRequested_keeps (c : Ctx) : Keeps s (s.timeRequested c) := by simp [State.timeRequested]
@[simp] theorem State.flipOne_keeps (n : Nat) : Keeps s (s.flipOne n) := by simp [State.flipOne]
@[simp] theorem State.flipFollowed_keeps (before : State) (n : Nat) (es : List (Nat × Word)) :
    Keeps s (s.flipFollowed before n es) := by simp [State.flipFollowed]
@[simp] theorem State.txnFlip_keeps : Keeps s s.txnFlip := by simp [State.txnFlip]
@[simp] theorem State.rollBack_keeps (n reason : Nat) : Keeps s (s.rollBack n reason) := by simp [State.rollBack]
@[simp] theorem State.confirmTrial_keeps (n : Nat) : Keeps s (s.confirmTrial n) := by simp [State.confirmTrial]
@[simp] theorem State.trialBoundary_keeps (n : Nat) : Keeps s (s.trialBoundary n) := by
  simp only [State.trialBoundary]; (repeat' split) <;> simp
@[simp] theorem State.txnBoundary_keeps : Keeps s s.txnBoundary := by simp [State.txnBoundary]
@[simp] theorem State.txnCtrlWrite_keeps (acc : Access) (n : Nat) (val : Word) :
    Keeps s (s.txnCtrlWrite acc n val) := by simp [State.txnCtrlWrite]
@[simp] theorem State.txnTrialWrite_keeps (acc : Access) (n : Nat) (val : Word) :
    Keeps s (s.txnTrialWrite acc n val) := by simp [State.txnTrialWrite]
@[simp] theorem execTxnBegin_keeps (dt : Nat) (acc : Access) (n : Nat) : OutKeeps s (execTxnBegin dt acc n s) := by simp [execTxnBegin]
@[simp] theorem execTxnCommit_keeps (dt : Nat) (acc : Access) (n : Nat) : OutKeeps s (execTxnCommit dt acc n s) := by simp [execTxnCommit]
@[simp] theorem execTxnCommitTrial_keeps (dt : Nat) (acc : Access) (n : Nat) :
    OutKeeps s (execTxnCommitTrial dt acc n s) := by simp [execTxnCommitTrial]
@[simp] theorem execTxnAbort_keeps (dt : Nat) (acc : Access) (n : Nat) : OutKeeps s (execTxnAbort dt acc n s) := by simp [execTxnAbort]
@[simp] theorem execTxnConfirm_keeps (dt : Nat) (acc : Access) (n : Nat) :
    OutKeeps s (execTxnConfirm dt acc n s) := by simp [execTxnConfirm]
@[simp] theorem execTxnValidationDone_keeps (dt n : Nat) : OutKeeps s (execTxnValidationDone dt n s) := by simp [execTxnValidationDone]
@[simp] theorem execTxnFlip_keeps (dt : Nat) : OutKeeps s (execTxnFlip dt s) := by simp [execTxnFlip]
@[simp] theorem execTxnConfirmEffect_keeps (dt n : Nat) : OutKeeps s (execTxnConfirmEffect dt n s) := by simp [execTxnConfirmEffect]
@[simp] theorem execTxnIdleTimeout_keeps (dt n : Nat) : OutKeeps s (execTxnIdleTimeout dt n s) := by simp [execTxnIdleTimeout]
@[simp] theorem execTxnTrialTimeout_keeps (dt n : Nat) : OutKeeps s (execTxnTrialTimeout dt n s) := by simp [execTxnTrialTimeout]
@[simp] theorem execTxnRollback_keeps (dt n : Nat) : OutKeeps s (execTxnRollback dt n s) := by
  simp only [execTxnRollback]; split <;> simp
@[simp] theorem execImgTxnTrialWrite_keeps (dt : Nat) (acc : Access) (n : Nat) (val : Word) :
    OutKeeps s (execImgTxnTrialWrite dt acc n val s) := by simp [execImgTxnTrialWrite]

/-! ### Connections, firmware banks, wipes -/

@[simp] theorem State.showConns_keeps : Keeps s s.showConns := ⟨rfl, rfl⟩
@[simp] theorem State.dropParts_keeps (p : Path) (session : Nat) : Keeps s (s.dropParts p session) := ⟨rfl, rfl⟩
@[simp] theorem State.closeConn_keeps (c : Nat) : Keeps s (s.closeConn c) := by
  unfold State.closeConn; split <;> simp
@[simp] theorem State.closeConns_keeps : Keeps s s.closeConns := by simp [State.closeConns]
@[simp] theorem State.closeHost_keeps : Keeps s s.closeHost := by simp [State.closeHost]
@[simp] theorem State.emptyBank_keeps (n st : Nat) : Keeps s (s.emptyBank n st) := by simp [State.emptyBank]
@[simp] theorem State.fwCancel_keeps : Keeps s s.fwCancel := by
  unfold State.fwCancel; split <;> simp
@[simp] theorem State.fwLost_keeps : Keeps s s.fwLost := by simp [State.fwLost]
@[simp] theorem State.copyMram_keeps (y x : Side) : Keeps s (s.copyMram y x) := by simp [State.copyMram]
@[simp] theorem State.bulkAgain_keeps (x : Side) : Keeps s (s.bulkAgain x) := by simp [State.bulkAgain]
@[simp] theorem State.wipeSides_keeps (cause : Nat) : Keeps s (s.wipeSides cause) := by simp [State.wipeSides]
@[simp] theorem State.wipe_keeps (cause : Nat) : Keeps s (s.wipe cause) := by simp [State.wipe]
@[simp] theorem State.pendingWipe_keeps (x : Side) : Keeps s (s.pendingWipe x) := by simp [State.pendingWipe]
@[simp] theorem State.writesLost_keeps : Keeps s s.writesLost := by simp [State.writesLost]
@[simp] theorem State.fromCheckpoint_keeps : Keeps s s.fromCheckpoint := ⟨rfl, rfl⟩
@[simp] theorem State.failoverHooks_keeps (lost : Side) : Keeps s (s.failoverHooks lost) := by simp [State.failoverHooks]
@[simp] theorem State.switchHooks_keeps (old : Side) : Keeps s (s.switchHooks old) := by simp [State.switchHooks]
@[simp] theorem State.orphanHooks_keeps : Keeps s s.orphanHooks := by simp [State.orphanHooks]
@[simp] theorem State.orphanEndHooks_keeps : Keeps s s.orphanEndHooks := by simp [State.orphanEndHooks]

/-! ### The two sides -/

@[simp] theorem State.setSide_keeps (x : Side) (r : SideRec) : Keeps s (s.setSide x r) := by simp [State.setSide]
@[simp] theorem State.sideReset_keeps (x : Side) (code : Nat) : Keeps s (s.sideReset x code) := by simp [State.sideReset]
@[simp] theorem State.enterSide_keeps (x : Side) (st : SideState) : Keeps s (s.enterSide x st) := by simp [State.enterSide]
@[simp] theorem State.routeMap_keeps : Keeps s s.routeMap := by simp [State.routeMap]
@[simp] theorem State.failSide_keeps (x : Side) (ev : Nat) : Keeps s (s.failSide x ev) := by simp [State.failSide]
@[simp] theorem State.cycleEnds_keeps : Keeps s s.cycleEnds := ⟨rfl, rfl⟩
@[simp] theorem State.sendBeacons_keeps (inp : BoundaryIn) (done : Bool) : Keeps s (s.sendBeacons inp done) := ⟨rfl, rfl⟩
@[simp] theorem State.showBeacon_keeps (x : Side) (beacon : Option (List Byte)) : Keeps s (s.showBeacon x beacon) := by
  unfold State.showBeacon; split <;> simp
@[simp] theorem State.recordLoss_keeps (x : Side) (cause : Nat) : Keeps s (s.recordLoss x cause) := by simp [State.recordLoss]
@[simp] theorem State.lateContext_keeps (n : Nat) : Keeps s (s.lateContext n) := by
  simp only [State.lateContext]; split <;> simp
@[simp] theorem State.dropSwitch_keeps : Keeps s s.dropSwitch := by simp [State.dropSwitch]
@[simp] theorem State.ctxBack_keeps : Keeps s s.ctxBack := ⟨rfl, rfl⟩
@[simp] theorem State.failOver_keeps (x : Side) (cause : Nat) : Keeps s (s.failOver x cause) := by simp [State.failOver]
@[simp] theorem State.orphanEntry_keeps (x : Side) (cause : Nat) : Keeps s (s.orphanEntry x cause) := by simp [State.orphanEntry]
@[simp] theorem State.loseActive_keeps (x : Side) (cause : Nat) : Keeps s (s.loseActive x cause) := by simp [State.loseActive]
@[simp] theorem State.sideFault_keeps (x : Side) (cause : Nat) : Keeps s (s.sideFault x cause) := by
  unfold State.sideFault; split <;> simp
@[simp] theorem State.shadowRestart_keeps (x : Side) : Keeps s (s.shadowRestart x) := by simp [State.shadowRestart]
@[simp] theorem State.mismatchFail_keeps (x : Side) : Keeps s (s.mismatchFail x) := by simp [State.mismatchFail]
@[simp] theorem State.mismatch_keeps (x : Side) : Keeps s (s.mismatch x) := ⟨rfl, rfl⟩
@[simp] theorem State.digestMismatch_keeps (x : Side) : Keeps s (s.digestMismatch x) := by simp [State.digestMismatch]
@[simp] theorem State.confirmCycle_keeps (act stb : Option (List Byte)) : Keeps s (s.confirmCycle act stb) := by
  unfold State.confirmCycle; split <;> simp
@[simp] theorem State.checkDigests_keeps (x : Side) (act stb : Option (List Byte)) : Keeps s (s.checkDigests x act stb) := by
  simp only [State.checkDigests]; (repeat' split) <;> simp
@[simp] theorem State.judgeBeacons_keeps (a b : Option (List Byte)) : Keeps s (s.judgeBeacons a b) := by
  simp only [State.judgeBeacons]; (repeat' split) <;> simp
@[simp] theorem execBeaconDeadline_keeps (dt : Nat) (a b : BeaconIn) :
    OutKeeps s (execBeaconDeadline dt a b s) := by simp [execBeaconDeadline]
@[simp] theorem State.faultFlag_keeps (x : Side) (bit : Nat) : Keeps s (s.faultFlag x bit) := by simp [State.faultFlag]
@[simp] theorem execFaultLineAsserted_keeps (dt : Nat) (side : Side) (why : FaultWhy) :
    OutKeeps s (execFaultLineAsserted dt side why s) := by
  unfold execFaultLineAsserted; split <;> simp
@[simp] theorem execKeeperLaneFault_keeps (dt : Nat) (back : Bool) (lane errors : Nat) :
    OutKeeps s (execKeeperLaneFault dt back lane errors s) := by simp [execKeeperLaneFault]
@[simp] theorem State.replaceLanes_keeps : Keeps s s.replaceLanes := by simp [State.replaceLanes]
@[simp] theorem State.copyMiss_keeps (x : Side) : Keeps s (s.copyMiss x) := by
  simp only [State.copyMiss]; (repeat' split) <;> simp
@[simp] theorem State.checkpointTaken_keeps : Keeps s s.checkpointTaken := by simp [State.checkpointTaken]
@[simp] theorem State.pointersCopy_keeps (y x : Side) : Keeps s (s.pointersCopy y x) := ⟨rfl, rfl⟩
@[simp] theorem State.copyTaken_keeps (x : Side) : Keeps s (s.copyTaken x) := by simp [State.copyTaken]
@[simp] theorem State.keeperCopy_keeps (sw : Option CopySeal) : Keeps s (s.keeperCopy sw) := by
  simp only [State.keeperCopy]; (repeat' split) <;> simp
@[simp] theorem State.bulkMoves_keeps (inp : BoundaryIn) : Keeps s (s.bulkMoves inp) := by simp [State.bulkMoves]
@[simp] theorem State.resyncShow_keeps (trained : Bool) : Keeps s (s.resyncShow trained) := by simp [State.resyncShow]
@[simp] theorem State.keepBoundary_keeps (inp : BoundaryIn) : Keeps s (s.keepBoundary inp) := by simp [State.keepBoundary]
@[simp] theorem State.holdDiffering_keeps (n : Nat) : Keeps s (s.holdDiffering n) := by simp [State.holdDiffering]
@[simp] theorem execActivationDone_keeps (dt : Nat) : OutKeeps s (execActivationDone dt s) := by
  unfold execActivationDone
  extract_lets s1
  split
  · simp [s1]
  rename_i s2 _ a _
  have h2 : Keeps s s2 := ⟨rfl, rfl⟩
  clear_value s2
  split <;> rename_i s3 e3 <;> have h3 := h2.trans ((s2.tryLoad_keeps a.target).of_fst e3)
  · simp [h3]
  split
  · simp [h3]
  · split <;> rename_i s4 e4 <;> have h4 := h3.trans ((s3.tryLoad_keeps _).of_fst e4) <;> simp [h4]
@[simp] theorem State.bootActive_keeps (x : Side) : Keeps s (s.bootActive x) := by simp [State.bootActive]
@[simp] theorem State.bootRecovery_keeps : Keeps s s.bootRecovery := by simp [State.bootRecovery]
@[simp] theorem State.bootBulk_keeps (x : Side) : Keeps s (s.bootBulk x) := by simp [State.bootBulk]
@[simp] theorem State.runBank_keeps (other : Bool) : Keeps s (s.runBank other) := by simp [State.runBank]
@[simp] theorem State.bootFirmware_keeps (x : Side) (other : Bool) : Keeps s (s.bootFirmware x other) := by simp [State.bootFirmware]
@[simp] theorem State.bootEnds_keeps (x : Side) (e : Option BootEnd) : Keeps s (s.bootEnds x e) := by
  simp only [State.bootEnds]; (repeat' split) <;> simp
@[simp] theorem execSideBootDone_keeps (dt : Nat) (a b : Option BootEnd) :
    OutKeeps s (execSideBootDone dt a b s) := by simp [execSideBootDone]
@[simp] theorem execBulkConverged_keeps (dt : Nat) (side : Side) : OutKeeps s (execBulkConverged dt side s) := by simp [execBulkConverged]
@[simp] theorem execBulkTimeout_keeps (dt : Nat) (side : Side) : OutKeeps s (execBulkTimeout dt side s) := by simp [execBulkTimeout]
@[simp] theorem execShadowComplete_keeps (dt : Nat) (side : Side) :
    OutKeeps s (execShadowComplete dt side s) := by simp [execShadowComplete]
@[simp] theorem State.readmit_keeps (x : Side) (auto : Bool) : Keeps s (s.readmit x auto) := by simp [State.readmit]
@[simp] theorem execSideReadmit_keeps (dt : Nat) (side : Side) : OutKeeps s (execSideReadmit dt side s) := by simp [execSideReadmit]
@[simp] theorem execSideResetRelease_keeps (dt : Nat) (side : Side) :
    OutKeeps s (execSideResetRelease dt side s) := by simp [execSideResetRelease]
@[simp] theorem State.requestSwitch_keeps : Keeps s s.requestSwitch := by simp [State.requestSwitch]
@[simp] theorem State.takeOut_keeps (acc : Access) : Keeps s (s.takeOut acc) := by simp [State.takeOut]
@[simp] theorem State.resync_keeps (x : Side) : Keeps s (s.resync x) := by simp [State.resync]
@[simp] theorem State.keepCtrlWrite_keeps (acc : Access) (val : Word) : Keeps s (s.keepCtrlWrite acc val) := by simp [State.keepCtrlWrite]
@[simp] theorem execKeepSwitch_keeps (dt : Nat) (acc : Access) (val : Word) :
    OutKeeps s (execKeepSwitch dt acc val s) := by simp [execKeepSwitch]
@[simp] theorem execKeepTakeOut_keeps (dt : Nat) (acc : Access) (val : Word) :
    OutKeeps s (execKeepTakeOut dt acc val s) := by simp [execKeepTakeOut]
@[simp] theorem execKeepResyncA_keeps (dt : Nat) (acc : Access) (val : Word) :
    OutKeeps s (execKeepResyncA dt acc val s) := by simp [execKeepResyncA]
@[simp] theorem execKeepResyncB_keeps (dt : Nat) (acc : Access) (val : Word) :
    OutKeeps s (execKeepResyncB dt acc val s) := by simp [execKeepResyncB]
@[simp] theorem State.switchOver_keeps : Keeps s s.switchOver := by simp [State.switchOver]
@[simp] theorem execSwitchover_keeps (dt : Nat) : OutKeeps s (execSwitchover dt s) := by
  simp only [execSwitchover]; split <;> simp
@[simp] theorem State.keepClrWrite_keeps (acc : Access) (val : Word) : Keeps s (s.keepClrWrite acc val) := by simp [State.keepClrWrite]
@[simp] theorem execKeepClr_keeps (dt : Nat) (acc : Access) (val : Word) : OutKeeps s (execKeepClr dt acc val s) := by simp [execKeepClr]

/-! ### Memories -/

@[simp] theorem State.memCorr_keeps (x : Side) (k n : Nat) : Keeps s (s.memCorr x k n) := by simp [State.memCorr]
@[simp] theorem State.memUncorr_keeps (x : Side) (k : Nat) (addr : Word) : Keeps s (s.memUncorr x k addr) := by simp [State.memUncorr]
@[simp] theorem State.guardLost_keeps (record : Nat) : Keeps s (s.guardLost record) := by simp [State.guardLost]
@[simp] theorem execPatrolScrub_keeps (dt : Nat) (side : Side) (corrected : Nat) :
    OutKeeps s (execPatrolScrub dt side corrected s) := by simp [execPatrolScrub]
@[simp] theorem execMemEccError_keeps (dt : Nat) (place : MemPlace) (corrected : Bool) :
    OutKeeps s (execMemEccError dt place corrected s) := by
  unfold execMemEccError; split <;> simp
@[simp] theorem State.memCtrlWrite_keeps (acc : Access) (val : Word) : Keeps s (s.memCtrlWrite acc val) := by simp [State.memCtrlWrite]
@[simp] theorem execMemWipeCmd_keeps (dt : Nat) (acc : Access) (val : Word) :
    OutKeeps s (execMemWipeCmd dt acc val s) := by simp [execMemWipeCmd]
@[simp] theorem State.wipeCfgWrite_keeps (acc : Access) (val : Word) : Keeps s (s.wipeCfgWrite acc val) := by simp [State.wipeCfgWrite]
@[simp] theorem execWipeCfgWrite_keeps (dt : Nat) (acc : Access) (val : Word) :
    OutKeeps s (execWipeCfgWrite dt acc val s) := by simp [execWipeCfgWrite]
@[simp] theorem State.lcAccept_keeps (target : Nat) : Keeps s (s.lcAccept target) := ⟨rfl, rfl⟩
@[simp] theorem State.lcRefuse_keeps (target : Nat) : Keeps s (s.lcRefuse target) := ⟨rfl, rfl⟩
@[simp] theorem State.lcCtrlWrite_keeps (acc : Access) (val : Word) : Keeps s (s.lcCtrlWrite acc val) := by simp [State.lcCtrlWrite]
@[simp] theorem execLcArm_keeps (dt : Nat) (acc : Access) (val : Word) : OutKeeps s (execLcArm dt acc val s) := by simp [execLcArm]
@[simp] theorem execLcCommit_keeps (dt : Nat) (acc : Access) (val : Word) : OutKeeps s (execLcCommit dt acc val s) := by simp [execLcCommit]
@[simp] theorem State.eraseMram_keeps : Keeps s s.eraseMram := ⟨rfl, rfl⟩
@[simp] theorem State.lcEffects_keeps (target : Nat) : Keeps s (s.lcEffects target) := by simp [State.lcEffects]
@[simp] theorem execLcTransitionDone_keeps (dt : Nat) : OutKeeps s (execLcTransitionDone dt s) := by
  simp only [execLcTransitionDone]; split <;> simp
@[simp] theorem State.provisionCmd_keeps (acc : Access) : Keeps s (s.provisionCmd acc) := by simp [State.provisionCmd]
@[simp] theorem execProvisioning_keeps (dt : Nat) (acc : Access) : OutKeeps s (execProvisioning dt acc s) := by simp [execProvisioning]
@[simp] theorem State.memClrWrite_keeps (acc : Access) (val : Word) : Keeps s (s.memClrWrite acc val) := by simp [State.memClrWrite]
@[simp] theorem execMemClr_keeps (dt : Nat) (acc : Access) (val : Word) : OutKeeps s (execMemClr dt acc val s) := by simp [execMemClr]

/-! ### Host configuration and firmware update -/

@[simp] theorem State.hostCfgWrite_keeps (acc : Access) (val : Word) : Keeps s (s.hostCfgWrite acc val) := by simp [State.hostCfgWrite]
@[simp] theorem State.hostClrWrite_keeps (acc : Access) (val : Word) : Keeps s (s.hostClrWrite acc val) := by simp [State.hostClrWrite]
@[simp] theorem State.fwChecked_keeps (n : Nat) : Keeps s (s.fwChecked n) := ⟨rfl, rfl⟩
@[simp] theorem State.fwOpen_keeps (acc : Access) (addr : Nat) : Keeps s (s.fwOpen acc addr) := by simp [State.fwOpen]
@[simp] theorem State.fwClose_keeps : Keeps s s.fwClose := by
  unfold State.fwClose; split <;> simp
@[simp] theorem State.fwActivate_keeps : Keeps s s.fwActivate := by simp [State.fwActivate]
@[simp] theorem State.fwConfirm_keeps : Keeps s s.fwConfirm := by simp [State.fwConfirm]
@[simp] theorem State.fwCtrlWrite_keeps (acc : Access) (val : Word) : Keeps s (s.fwCtrlWrite acc val) := by simp [State.fwCtrlWrite]
@[simp] theorem State.fwPut_keeps (n ofs : Nat) (val : Word) : Keeps s (s.fwPut n ofs val) := by simp [State.fwPut]
@[simp] theorem State.fwDataWrite_keeps (acc : Access) (addr : Nat) (val : Word) : Keeps s (s.fwDataWrite acc addr val) := by
  refine s.command_keeps _ _ _ fun t => ?_
  split <;> simp
@[simp] theorem execFwOpen_keeps (dt : Nat) (acc : Access) : OutKeeps s (execFwOpen dt acc s) := by simp [execFwOpen]
@[simp] theorem execFwDataWrite_keeps (dt : Nat) (acc : Access) (addr : Nat) (val : Word) :
    OutKeeps s (execFwDataWrite dt acc addr val s) := by simp [execFwDataWrite]
@[simp] theorem execFwClose_keeps (dt : Nat) (acc : Access) : OutKeeps s (execFwClose dt acc s) := by simp [execFwClose]
@[simp] theorem execFwCancel_keeps (dt : Nat) (acc : Access) : OutKeeps s (execFwCancel dt acc s) := by simp [execFwCancel]
@[simp] theorem execFwActivate_keeps (dt : Nat) (acc : Access) : OutKeeps s (execFwActivate dt acc s) := by simp [execFwActivate]
@[simp] theorem execFwConfirm_keeps (dt : Nat) (acc : Access) : OutKeeps s (execFwConfirm dt acc s) := by simp [execFwConfirm]
@[simp] theorem execFwWindowExpiry_keeps (dt : Nat) : OutKeeps s (execFwWindowExpiry dt s) := by simp [execFwWindowExpiry]
@[simp] theorem execFwRevert_keeps (dt : Nat) : OutKeeps s (execFwRevert dt s) := by simp [execFwRevert]

/-! ### Supply, resets, power states -/

@[simp] theorem execAuxInputApplied_keeps (dt : Nat) (dc : Bool) : OutKeeps s (execAuxInputApplied dt dc s) := by simp [execAuxInputApplied]
@[simp] theorem execAlwaysOnPowerUp_keeps (dt : Nat) : OutKeeps s (execAlwaysOnPowerUp dt s) := by simp [execAlwaysOnPowerUp]
@[simp] theorem execAlwaysOnPowerLoss_keeps (dt : Nat) : OutKeeps s (execAlwaysOnPowerLoss dt s) := by simp [execAlwaysOnPowerLoss]
@[simp] theorem execHoldupChargeCheck_keeps (dt tch : Nat) : OutKeeps s (execHoldupChargeCheck dt tch s) := by simp [execHoldupChargeCheck]
@[simp] theorem execPowerStart_keeps (dt : Nat) : OutKeeps s (execPowerStart dt s) := by simp [execPowerStart]
@[simp] theorem execInputLoss_keeps (dt : Nat) : OutKeeps s (execInputLoss dt s) := by simp [execInputLoss]
@[simp] theorem execInputReturn_keeps (dt : Nat) : OutKeeps s (execInputReturn dt s) := by simp [execInputReturn]
@[simp] theorem State.writeOut_keeps : Keeps s s.writeOut := by simp [State.writeOut]
@[simp] theorem execHoldupPowerFail_keeps (dt : Nat) : OutKeeps s (execHoldupPowerFail dt s) := by simp [execHoldupPowerFail]
@[simp] theorem State.loadTime_keeps : Keeps s s.loadTime := by simp [State.loadTime]
@[simp] theorem State.releaseSides_keeps : Keeps s s.releaseSides := by simp [State.releaseSides]
@[simp] theorem execGuardStep_keeps (dt hmode : Nat) : OutKeeps s (execGuardStep dt hmode s) := by simp [execGuardStep]
@[simp] theorem execStartLate_keeps (dt : Nat) : OutKeeps s (execStartLate dt s) := by simp [execStartLate]
@[simp] theorem execMrstAssert_keeps (dt held : Nat) : OutKeeps s (execMrstAssert dt held s) := by simp [execMrstAssert]
@[simp] theorem execMrstRelease_keeps (dt : Nat) : OutKeeps s (execMrstRelease dt s) := by simp [execMrstRelease]
@[simp] theorem State.pwrResetWrite_keeps (acc : Access) (val : Word) : Keeps s (s.pwrResetWrite acc val) := by simp [State.pwrResetWrite]
@[simp] theorem execPwrReset_keeps (dt : Nat) (acc : Access) (val : Word) : OutKeeps s (execPwrReset dt acc val s) := by simp [execPwrReset]
@[simp] theorem State.latchGuardFault_keeps : Keeps s s.latchGuardFault := by simp [State.latchGuardFault]
@[simp] theorem execGuardFault_keeps (dt : Nat) : OutKeeps s (execGuardFault dt s) := by simp [execGuardFault]
@[simp] theorem execGuardAutoReset_keeps (dt : Nat) : OutKeeps s (execGuardAutoReset dt s) := by simp [execGuardAutoReset]
@[simp] theorem State.showCandidate_keeps (i : PowerIn) : Keeps s (s.showCandidate i) := ⟨rfl, rfl⟩
@[simp] theorem State.enterPower_keeps (p : Nat) : Keeps s (s.enterPower p) := ⟨rfl, rfl⟩
@[simp] theorem State.leaveWatch_keeps : Keeps s s.leaveWatch := by simp [State.leaveWatch]
@[simp] theorem State.ascend_keeps : Keeps s s.ascend := by simp [State.ascend]
@[simp] theorem execPowerStateAscent_keeps (dt : Nat) : OutKeeps s (execPowerStateAscent dt s) := by simp [execPowerStateAscent]
@[simp] theorem State.sidesOff_keeps : Keeps s s.sidesOff := by simp [State.sidesOff]
@[simp] theorem State.descendDeep_keeps (p : Nat) : Keeps s (s.descendDeep p) := by simp [State.descendDeep]
@[simp] theorem execPowerStateDescent_keeps (dt : Nat) : OutKeeps s (execPowerStateDescent dt s) := by simp [execPowerStateDescent]
@[simp] theorem State.pwrCfgWrite_keeps (acc : Access) (val : Word) : Keeps s (s.pwrCfgWrite acc val) := by simp [State.pwrCfgWrite]
@[simp] theorem State.pwrLtrWrite_keeps (acc : Access) (k : Nat) (val : Word) :
    Keeps s (s.pwrLtrWrite acc k val) := by simp [State.pwrLtrWrite]
@[simp] theorem execLtrExpiry_keeps (dt k : Nat) : OutKeeps s (execLtrExpiry dt k s) := by simp [execLtrExpiry]
@[simp] theorem execWakeThresholdCrossing_keeps (dt k : Nat) (rising : Bool) (held : Nat) :
    OutKeeps s (execWakeThresholdCrossing dt k rising held s) := by simp [execWakeThresholdCrossing]
@[simp] theorem execPwrAlarmReached_keeps (dt : Nat) : OutKeeps s (execPwrAlarmReached dt s) := by simp [execPwrAlarmReached]
@[simp] theorem execMetrSleepExit_keeps (dt : Nat) (codes : List Int) :
    OutKeeps s (execMetrSleepExit dt codes s) := by simp [execMetrSleepExit]
@[simp] theorem execTampChange_keeps (dt k : Nat) (active : Bool) : OutKeeps s (execTampChange dt k active s) := by simp [execTampChange]
@[simp] theorem State.sideTemp_keeps (x : Side) (t : Int) : Keeps s (s.sideTemp x t) := by simp [State.sideTemp]
@[simp] theorem State.guardTemp_keeps (t : Int) : Keeps s (s.guardTemp t) := by simp [State.guardTemp]
@[simp] theorem execDeferStart_keeps (dt die : Nat) (t : Int) : OutKeeps s (execDeferStart dt die t s) := by simp [execDeferStart]
@[simp] theorem State.undeferred_keeps : Keeps s s.undeferred := by simp [State.undeferred]
@[simp] theorem execDeferEnd_keeps (dt : Nat) (side : Side) : OutKeeps s (execDeferEnd dt side s) := by simp [execDeferEnd]
@[simp] theorem State.pwrClrWrite_keeps (acc : Access) (val : Word) : Keeps s (s.pwrClrWrite acc val) := by simp [State.pwrClrWrite]
@[simp] theorem execPwrClr_keeps (dt : Nat) (acc : Access) (val : Word) : OutKeeps s (execPwrClr dt acc val s) := by simp [execPwrClr]
@[simp] theorem State.showSupply_keeps (i : PowerIn) : Keeps s (s.showSupply i) := by
  rw [State.showSupply]
  simp
@[simp] theorem State.showReady_keeps : Keeps s s.showReady := by simp [State.showReady]
@[simp] theorem State.pwrBoundary_keeps (i : PowerIn) : Keeps s (s.pwrBoundary i) := by simp [State.pwrBoundary]

/-! ### The write of any word -/

theorem writeTable_keeps : ∀ e ∈ writeTable, ∀ s acc n v, Keeps s (e.2.2.2 s acc n v) := by
  simp [writeTable]
theorem writeTableField_keeps : ∀ e ∈ writeTableField, ∀ s acc n v, Keeps s (e.2.2.2 s acc n v) := by
  simp [writeTableField]
theorem writeTableRest_keeps : ∀ e ∈ writeTableRest, ∀ s acc n v, Keeps s (e.2.2.2 s acc n v) := by
  simp [writeTableRest]
/-- An effect that a register has of its own is one of the table's. -/
theorem ownWrite_keeps {addr n : Nat} {f : State → Access → Nat → Word → State} (h : ownWrite addr = some (n, f)) (acc : Access)
    (v : Word) : Keeps s (f s acc n v) := by
  obtain ⟨e, he, hm⟩ := List.exists_of_findSome?_eq_some h
  obtain ⟨k, -, hk⟩ := Option.map_eq_some_iff.mp hm
  obtain ⟨rfl, rfl⟩ := Prod.mk.inj hk
  simp only [List.mem_append] at he
  obtain (he | he) | he := he
  · exact writeTable_keeps e he s acc k v
  · exact writeTableField_keeps e he s acc k v
  · exact writeTableRest_keeps e he s acc k v
@[simp] theorem State.writePresent_keeps (acc : Access) (addr : Nat) (val : Word) : Keeps s (s.writePresent acc addr val) := by
  unfold State.writePresent
  split
  · simp
  · simp
  · simp
  · split
    · exact ownWrite_keeps s ‹_› acc val
    · split <;> simp
@[simp] theorem State.write_keeps (acc : Access) (addr : Nat) (val : Word) : Keeps s (s.write acc addr val) := by simp [State.write]
@[simp] theorem State.access_keeps (acc : Access) (addr : Nat) (wr : Option Word) (status : Nat) :
    Keeps s (s.access acc addr wr status) := by
  unfold State.access; split <;> simp
@[simp] theorem execRegisterWrite_keeps (dt : Nat) (acc : Access) (addr : Nat) (val : Word) :
    OutKeeps s (execRegisterWrite dt acc addr val s) := by simp [execRegisterWrite]
@[simp] theorem execTunableWrite_keeps (dt : Nat) (acc : Access) (addr : Nat) (val : Word) :
    OutKeeps s (execTunableWrite dt acc addr val s) := by simp [execTunableWrite]
@[simp] theorem execStagingWrite_keeps (dt : Nat) (acc : Access) (addr : Nat) (val : Word) :
    OutKeeps s (execStagingWrite dt acc addr val s) := by simp [execStagingWrite]
@[simp] theorem execAbsentAccess_keeps (dt : Nat) (acc : Access) (addr : Nat) (wr : Option Word) :
    OutKeeps s (execAbsentAccess dt acc addr wr s) := by simp [execAbsentAccess]
@[simp] theorem execReservedAccess_keeps (dt : Nat) (acc : Access) (addr : Nat) (wr : Option Word) :
    OutKeeps s (execReservedAccess dt acc addr wr s) := by simp [execReservedAccess]
@[simp] theorem execOutOfMapAccess_keeps (dt : Nat) (acc : Access) (addr : Nat) (wr : Option Word) :
    OutKeeps s (execOutOfMapAccess dt acc addr wr s) := by simp [execOutOfMapAccess]
@[simp] theorem State.hostBad_keeps (addr : Nat) : Keeps s (s.hostBad addr) := ⟨rfl, rfl⟩
@[simp] theorem execHostBadAccess_keeps (dt addr byteEnables : Nat) (wr : Option Word) :
    OutKeeps s (execHostBadAccess dt addr byteEnables wr s) := by simp [execHostBadAccess]
@[simp] theorem execLowWordRead_keeps (dt : Nat) (acc : Access) (addr : Nat) :
    OutKeeps s (execLowWordRead dt acc addr s) := by simp [execLowWordRead]
@[simp] theorem execTimeStepApply_keeps (dt : Nat) : OutKeeps s (execTimeStepApply dt s) := by simp [execTimeStepApply]

/-! ### The host link -/

@[simp] theorem State.spiFrame_keeps : Keeps s s.spiFrame := ⟨rfl, rfl⟩
@[simp] theorem State.spiErr_keeps : Keeps s s.spiErr := ⟨rfl, rfl⟩
@[simp] theorem State.spiDenied_keeps (before : State) : Keeps s (s.spiDenied before) := by simp [State.spiDenied]
@[simp] theorem State.spiBad_keeps (addr : Nat) : Keeps s (s.spiBad addr) := by simp [State.spiBad]
@[simp] theorem spiWords_keeps (n addr : Nat) (ws : List Word) : Keeps s (spiWords n addr s ws).1 := by
  induction n generalizing addr s ws with
  | zero => simp [spiWords]
  | succ n ih => rw [spiWords]; split_ifs <;> simp [ih]
@[simp] theorem State.spiRead_keeps (addr count : Nat) : Keeps s (s.spiRead addr count) := by
  simp [State.spiRead]
@[simp] theorem spiStore_keeps (ws : List Word) (addr : Nat) : Keeps s (spiStore ws addr s) := by
  induction ws generalizing addr s with
  | nil => simp [spiStore]
  | cons w ws ih => simp [spiStore, ih]
@[simp] theorem State.spiWrite_keeps (addr : Nat) (ws : List Word) (crc : Nat) : Keeps s (s.spiWrite addr ws crc) := by
  simp [State.spiWrite]
@[simp] theorem execQspiRead_keeps (dt addr count : Nat) : OutKeeps s (execQspiRead dt addr count s) := by simp [execQspiRead]
@[simp] theorem execQspiQuadRead_keeps (dt addr count : Nat) : OutKeeps s (execQspiQuadRead dt addr count s) := by simp [execQspiQuadRead]
@[simp] theorem execQspiWrite_keeps (dt addr : Nat) (words : List Word) (crc : Nat) :
    OutKeeps s (execQspiWrite dt addr words crc s) := by simp [execQspiWrite]
@[simp] theorem execQspiQuadWrite_keeps (dt addr : Nat) (words : List Word) (crc : Nat) :
    OutKeeps s (execQspiQuadWrite dt addr words crc s) := by simp [execQspiQuadWrite]
@[simp] theorem execQspiStatus_keeps (dt : Nat) : OutKeeps s (execQspiStatus dt s) := by simp [execQspiStatus]
@[simp] theorem execPcieLinkUp_keeps (dt vectors : Nat) : OutKeeps s (execPcieLinkUp dt vectors s) := by simp [execPcieLinkUp]
@[simp] theorem State.pcieDown_keeps : Keeps s s.pcieDown := by simp [State.pcieDown]
@[simp] theorem execPcieLinkDown_keeps (dt : Nat) : OutKeeps s (execPcieLinkDown dt s) := by simp [execPcieLinkDown]
@[simp] theorem execPcieFundamentalReset_keeps (dt : Nat) : OutKeeps s (execPcieFundamentalReset dt s) := by simp [execPcieFundamentalReset]
@[simp] theorem execSpiSessionTimeout_keeps (dt : Nat) : OutKeeps s (execSpiSessionTimeout dt s) := by simp [execSpiSessionTimeout]
@[simp] theorem execIrqHoldoffExpiry_keeps (dt : Nat) : OutKeeps s (execIrqHoldoffExpiry dt s) := by simp [execIrqHoldoffExpiry]

/-! ### The management protocol -/

@[simp] theorem State.authFail_keeps (ip : Word) : Keeps s (s.authFail ip) := by simp [State.authFail]
@[simp] theorem execMgmtHandshake_keeps (dt conn port : Nat) (ip : Word) (cert : ClientCert) :
    OutKeeps s (execMgmtHandshake dt conn port ip cert s) := by
  simp only [execMgmtHandshake]; (repeat' split) <;> simp
@[simp] theorem execMgmtBlockExpiry_keeps (dt : Nat) (ip : Word) : OutKeeps s (execMgmtBlockExpiry dt ip s) := by simp [execMgmtBlockExpiry]
@[simp] theorem execMgmtIdleTimeout_keeps (dt conn : Nat) : OutKeeps s (execMgmtIdleTimeout dt conn s) := by
  simp only [execMgmtIdleTimeout]; split <;> simp
@[simp] theorem execMgmtConnectionClose_keeps (dt conn : Nat) :
    OutKeeps s (execMgmtConnectionClose dt conn s) := by simp [execMgmtConnectionClose]
@[simp] theorem State.respond_keeps (op tag status : Nat) (payload : List Byte) :
    Keeps s (s.respond op tag status payload) := by simp [State.respond]
@[simp] theorem State.withConn_keeps (conn : Nat) {act : Access → State → State} (hact : ∀ acc t, Keeps t (act acc t)) :
    Keeps s (s.withConn conn act) := by
  unfold State.withConn
  split <;> simp [hact]
@[simp] theorem readWords_keeps (n addr : Nat) (acc : Access) (ws : List Word) : Keeps s (readWords n addr acc s ws).1 := by
  induction n generalizing addr s ws with
  | zero => simp [readWords]
  | succ n ih => simp [readWords, ih]
@[simp] theorem execMgmtRead_keeps (dt conn tag addr count : Nat) : OutKeeps s (execMgmtRead dt conn tag addr count s) := by
  simp [execMgmtRead]
@[simp] theorem writeWords_keeps (ws : List Word) (addr : Nat) (acc : Access) (st : List Byte) :
    Keeps s (writeWords ws addr acc s st).1 := by
  induction ws generalizing addr s st with
  | nil => simp [writeWords]
  | cons w ws ih => simp [writeWords, ih]
@[simp] theorem execMgmtWrite_keeps (dt conn tag addr : Nat) (words : List Word) :
    OutKeeps s (execMgmtWrite dt conn tag addr words s) := by simp [execMgmtWrite]
@[simp] theorem execPing_keeps (dt conn tag : Nat) : OutKeeps s (execPing dt conn tag s) := by simp [execPing]
@[simp] theorem execMgmtFormatFrame_keeps (dt conn op tag : Nat) :
    OutKeeps s (execMgmtFormatFrame dt conn op tag s) := by simp [execMgmtFormatFrame]
@[simp] theorem execSubscribe_keeps (dt conn tag mask : Nat) : OutKeeps s (execSubscribe dt conn tag mask s) := by
  rw [execSubscribe, outKeeps_next]
  refine Keeps.trans (s.tick_keeps dt) (State.withConn_keeps _ _ fun acc t => ?_)
  split <;> simp
@[simp] theorem State.logLoss_keeps : Keeps s s.logLoss.2 := ⟨rfl, rfl⟩
@[simp] theorem execEventDelivery_keeps (dt conn : Nat) : OutKeeps s (execEventDelivery dt conn s) := by
  simp only [execEventDelivery]; split <;> simp
@[simp] theorem State.clientSet_keeps (addr : Nat) (f : Field) (v : Nat) : Keeps s (s.clientSet addr f v) := by simp [State.clientSet]
@[simp] theorem execCsmsMessage_keeps (dt : Nat) (msg : CsmsMsg) : OutKeeps s (execCsmsMessage dt msg s) := by
  unfold execCsmsMessage; split <;> simp
@[simp] theorem execCsmsConnectFail_keeps (dt : Nat) : OutKeeps s (execCsmsConnectFail dt s) := by simp [execCsmsConnectFail]
@[simp] theorem execCsmsConnected_keeps (dt : Nat) : OutKeeps s (execCsmsConnected dt s) := by simp [execCsmsConnected]
@[simp] theorem State.csmsTell_keeps (m : Nat) : Keeps s (s.csmsTell m) := by simp [State.csmsTell]

/-! ### Configuration objects -/

@[simp] theorem State.withSender_keeps (conn : Option Nat) {act : Access → State → State} (hact : ∀ acc t, Keeps t (act acc t)) :
    Keeps s (s.withSender conn act) := by
  unfold State.withSender
  split <;> simp [hact]
@[simp] theorem State.issueNonce_keeps : Keeps s s.issueNonce := ⟨rfl, rfl⟩
@[simp] theorem execObjGet_keeps (dt : Nat) (conn : Option Nat) (tag oid ofs maxLen : Nat) :
    OutKeeps s (execObjGet dt conn tag oid ofs maxLen s) := by
  rw [execObjGet, outKeeps_next]
  refine Keeps.trans (s.tick_keeps dt) (State.withSender_keeps _ _ fun acc t => ?_)
  dsimp only
  (repeat' split) <;> simp
@[simp] theorem State.storeObject_keeps (oid : Nat) (bs : List Byte) : Keeps s (s.storeObject oid bs) := ⟨rfl, rfl⟩
@[simp] theorem State.loadKey_keeps (n : Nat) (bs : List Byte) : Keeps s (s.loadKey n bs) := ⟨rfl, rfl⟩
@[simp] theorem billingWrites_keeps (es : List (Nat × Word)) (acc : Access) (st : Nat) : Keeps s (billingWrites es acc s st).1 := by
  induction es generalizing s st with
  | nil => simp [billingWrites]
  | cons e es ih => simp [billingWrites, ih]
@[simp] theorem State.applyObject_keeps (acc : Access) (oid : Nat) (bs : List Byte) : Keeps s (s.applyObject acc oid bs).1 := by
  simp only [State.applyObject]
  (repeat' split) <;> simp
@[simp] theorem State.fwPutBytes_keeps (n ofs : Nat) (bs : List Byte) : Keeps s (s.fwPutBytes n ofs bs) := by simp [State.fwPutBytes]
@[simp] theorem State.fwChunk_keeps (acc : Access) (oid ofs : Nat) (last : Bool) (bs : List Byte) :
    Keeps s (s.fwChunk acc oid ofs last bs).1 := by
  unfold State.fwChunk
  extract_lets s1
  have h1 : Keeps s s1 := by unfold s1; split <;> simp
  clear_value s1
  split
  · exact h1
  · split <;> simp [h1]
@[simp] theorem State.objChunk_keeps (acc : Access) (oid ofs : Nat) (last : Bool) (bs : List Byte) :
    Keeps s (s.objChunk acc oid ofs last bs).1 := by
  simp only [State.objChunk]; split_ifs <;> simp
@[simp] theorem execObjSet_keeps (dt : Nat) (conn : Option Nat) (tag oid ofs : Nat) (last : Bool) (data : List Byte) :
    OutKeeps s (execObjSet dt conn tag oid ofs last data s) := by simp [execObjSet]

/-! ### Pads -/

@[simp] theorem State.gpioNote_keeps : Keeps s s.gpioNote := by simp [State.gpioNote]

/-! ### The base-cycle boundary -/

@[simp] theorem State.showTime_keeps : Keeps s s.showTime := ⟨rfl, rfl⟩
@[simp] theorem State.serviceFrees_keeps : Keeps s s.serviceFrees := by simp [State.serviceFrees]
@[simp] theorem State.csmsEvents_keeps (es : List EvEntry) : Keeps s (s.csmsEvents es) := by simp [State.csmsEvents]
@[simp] theorem State.deferredWrites_keeps : Keeps s s.deferredWrites := by simp [State.deferredWrites]
@[simp] theorem State.countCycle_keeps : Keeps s s.countCycle := by simp [State.countCycle]
@[simp] theorem State.ringSlew_keeps : Keeps s s.ringSlew := ⟨rfl, rfl⟩
@[simp] theorem State.cycleWork_keeps (inp : BoundaryIn) (shift : Int) : Keeps s (s.cycleWork inp shift) := by simp [State.cycleWork]
@[simp] theorem State.boundaryRest_keeps : Keeps s s.boundaryRest := by
  unfold State.boundaryRest; split <;> simp
@[simp] theorem State.boundaryOn_keeps : Keeps s s.boundaryOn := by
  unfold State.boundaryOn; split <;> simp
@[simp] theorem State.boundary_keeps (inp : BoundaryIn) : Keeps s (s.boundary inp) := by simp [State.boundary]
@[simp] theorem execBaseCycleBoundary_keeps (dt : Nat) (inp : BoundaryIn) :
    OutKeeps s (execBaseCycleBoundary dt inp s) := by simp [execBaseCycleBoundary]
@[simp] theorem execSafetyCycle_keeps (dt : Nat) (a b : ChanIn) : OutKeeps s (execSafetyCycle dt a b s) := by simp [execSafetyCycle]
@[simp] theorem execAllocationTick_keeps (dt dur : Nat) : OutKeeps s (execAllocationTick dt dur s) := by simp [execAllocationTick]

/-! ### Multiply-accumulate -/

@[simp] theorem State.checked_keeps (x : Side) (n : Nat) (bad : Bool) (f : State → Tile → Tile) :
    Keeps s (s.checked x n bad f) := by simp [State.checked]
@[simp] theorem State.macStep_keeps (x : Side) (n a k : Nat) (src : Opnd) (sign : Int) (clear bad : Bool) :
    Keeps s (s.macStep x n a k src sign clear bad) := by simp [State.macStep]
@[simp] theorem execTileMac_keeps (dt : Nat) (x : Side) (n a k : Nat) (src : Opnd) (bad : Bool) :
    OutKeeps s (execTileMac dt x n a k src bad s) := by simp [execTileMac]
@[simp] theorem execTileMsu_keeps (dt : Nat) (x : Side) (n a k : Nat) (src : Opnd) (bad : Bool) :
    OutKeeps s (execTileMsu dt x n a k src bad s) := by simp [execTileMsu]
@[simp] theorem execTileMacz_keeps (dt : Nat) (x : Side) (n a k : Nat) (src : Opnd) (bad : Bool) :
    OutKeeps s (execTileMacz dt x n a k src bad s) := by simp [execTileMacz]
@[simp] theorem execTileBiq_keeps (dt : Nat) (x : Side) (n k : Nat) (inp : BiqIn) (d dst : Nat) :
    OutKeeps s (execTileBiq dt x n k inp d dst s) := by simp [execTileBiq]

/-! ### Every command, and what the capability registers read (R2, R3) -/

/-- No command writes the ordering code or the queue of waiting commands: each instruction's meaning has its rule above. -/
theorem exec_keeps (i : Instr) : OutKeeps s (exec i s) := by
  unfold exec; split <;> simp

end

theorem State.regValue_cap0 (s : State) (p : Path) : s.regValue p Reg.SYS_CAP_0 = BitVec.ofNat 32 (cap0 s.variant) := rfl
theorem State.regValue_cap1 (s : State) (p : Path) : s.regValue p Reg.SYS_CAP_1 = BitVec.ofNat 32 (cap1 s.variant) := rfl

/-- What the capability registers read follows from the ordering code alone, and is what R3 gives for each of its three values. -/
theorem capsRead_iff (v : Nat) (s : State) : CapsRead v s ↔ s.variant = v ∧ v ∈ [1, 2, 3] := by
  simp only [CapsRead, State.regValue_cap0, State.regValue_cap1]
  constructor
  · rintro ⟨rfl, h⟩
    have := h .host
    simp at this ⊢
    omega
  · rintro ⟨rfl, h⟩
    refine ⟨rfl, fun _ => ?_⟩
    simp only [List.mem_cons, List.not_mem_nil, or_false] at h
    obtain h | h | h := h <;> rw [h] <;> decide

/-- A step that answers a next state leaves the ordering code, whether it takes a command from the queue or lets a period pass. -/
theorem step_variant {s t : State} (h : step s = .next t) : t.variant = s.variant := by
  unfold step at h
  split at h
  · cases h; rfl
  · exact (exec_keeps _ _ _ h).1

/-- Settles O7: the registers read a function of the ordering code, no operation writes the code, and the module at reset has it. -/
theorem stepsKeepCapabilities : Obligations.StepsKeepCapabilities :=
  ⟨fun v hv => (capsRead_iff v _).mpr ⟨rfl, hv⟩, fun v s t hs ht => by
    rw [capsRead_iff] at hs ⊢
    rwa [step_variant ht]⟩

end Sys2Proof.Machine

namespace Sys2Proof.Machine

open Sys2Proof

section

set_option Elab.async false

/-! ### The step and the queue; every command answers; the module at reset -/

/-- Settles O1: the step takes the front of the queue by definition. -/
theorem stepTakesFront : Obligations.StepTakesFront := by
  intro s c rest h
  simp [step, h]

/-- Settles O2: the idle step is one FCLK period. -/
theorem idleStep : Obligations.IdleStep := by
  intro s h
  simp [step, h, Config.fclk]

/-- Settles O3: the tables' reset values, each looked up in the register map. -/
theorem resetValues : Obligations.ResetValues := ⟨by decide, rfl, rfl, rfl⟩

/-- Settles O4: what the capability registers read follows from the ordering code, and nothing is stored at reset. -/
theorem resetMeetsInvariants : Obligations.ResetMeetsInvariants :=
  ⟨(capsRead_iff 1 _).mpr ⟨rfl, by decide⟩, State.wf_reset⟩

/-- The outcome is a next state. -/
def Answers (o : Out) : Prop := ∃ t, o = .next t

theorem Answers.next (t : State) : Answers (.next t) := ⟨t, rfl⟩

theorem Answers.ite {c : Prop} [Decidable c] {a b : Out} (ha : Answers a) (hb : Answers b) : Answers (if c then a else b) := by
  split <;> assumption

/-- Settles O5: each command's meaning is a tree of branches with a next state at every leaf. -/
theorem everyCommandAnswers : Obligations.EveryCommandAnswers := by
  intro i s
  change Answers (exec i s)
  cases i with
  | hostBadAccess | fastSenseSample | ptpMessage | ptpAnnounceTimeout | ntpResponse | timeStepApply | rtcTrim | ppsOutPulse |
    timeLineTimeout | bootWindowExpiry | revertStart | txnConfirmEffect | txnIdleTimeout | txnTrialTimeout | beaconDeadline |
    keeperLaneFault | bulkConverged | bulkTimeout | shadowComplete | sideReadmit | sideResetRelease | tileXput | tileBr | tileEnd |
    carrierPeriodStart | swnMiss | swnFault | dlineExchange | tripPadActive | windowComparatorTrip | epInterfaceDown | enumPeriodic |
    portTripBlockRx | epLocalFault | epSafeTimeout | ringBringUp | pllUnlockOut | breakerReport | carrierReplan | bypassTimeout |
    trackingFault | retryWaitExpiry | imbalanceTrip | stageStopTimeout | allocationTick | metrologyStale | coolCableTrip |
    flowLowTimeout | coolRestoreTimer | runOnExpiry | sigChange | linkTimeout | protocolTimeout | cableCheckSettled | cableCheckTimeout |
    isolationLoss | weldCheckTimeout | emergencyOpenTimeout | safetyCycle | estopDiscTimeout | resetPadPulse | outputReadbackFault |
    stoHoldExpiry | safetyFrameRx | safetyFrameTx | connWatchdog | harmonicWindow | tempTableUpdate | sealWord | metrPowerFail |
    metrDieStart | dieWatchdogReset | tampChange | acqSample | canPeriodicTick | canRecoveryDone | canSleepEnter | canSleepTimeout |
    canWake | canWireFault | canWireClear | inrushEnd | thermalRegulation | thermalShutdown | overloadTimeout | retryDelayExpiry |
    retryCountReset | railRestored | railReversed | clampBucketRefilled | fogEnChange | foginChange | holdupPowerFail | powerStart |
    guardStep | startLate | mrstAssert | guardAutoReset | powerStateDescent | wakeThresholdCrossing | metrSleepExit | deferStart |
    deferEnd | auxInputApplied | alwaysOnPowerUp | alwaysOnPowerLoss | qspiStatus | pcieLinkUp | pcieLinkDown | pcieFundamentalReset |
    spiSessionTimeout | mgmtBlockExpiry | fwWindowExpiry | fwRevert | csmsConnected =>
    exact Answers.ite (.next _) (.next _)
  | timeLine | tileChainPut | tilePost | swnTransition | dlineCalibrationDone | delay | thConversion | sampleInstant | openOnDetect |
    inputLoss | inputReturn | csmsConnectFail =>
    exact Answers.ite (.next _) (.ite (.next _) (.next _))
  | epThroughRestore | ppChange | vehicleLinkUp | contactorTimeout | precheckWindow | fbDiscrepancy | offStateTest |
    holdupChargeCheck =>
    exact Answers.ite (.ite (.next _) (.next _)) (.next _)
  | edgeUpdatePoint | ringUpdatePoint | tripBlock | remoteChannelOpen | canBusError |
    shortDetected =>
    exact Answers.ite (.next _) (.ite (.next _) (.ite (.next _) (.next _)))
  | queueStallTimeout | ptpTmoExpiry | ppsInMissing | slotPrecheckDone | activationDone | imageLoad | txnRollback | faultLineAsserted |
    switchover | tileIn | tileWaitMiss | tileChainGet | pwmPadShort | tripClearRepeat | ringLockAcquired | ringLockLost | epApplyEntry |
    epNoLinkTimeout | rtFTmoExpiry | sstLadderTimeout | sstRestartDelay | shedDlyExpiry | thValidRestore | vehicleMessage |
    metrologyResult | polarityDetect | workingMapReceived | displayButton | displayTimeout | billRecReady | acqRecordReady |
    canFrameSent | canFrameReceived | packageShed | thermalRegulationEnd | memEccError | lcTransitionDone | mgmtHandshake |
    mgmtIdleTimeout | eventDelivery | csmsMessage =>
    simp only [exec, execQueueStallTimeout, execPtpTmoExpiry, execPpsInMissing, execSlotPrecheckDone, execActivationDone, execImageLoad,
      execTxnRollback, execFaultLineAsserted, execSwitchover, execTileIn, execTileWaitMiss, execTileChainGet, execPwmPadShort,
      execTripClearRepeat, execRingLockAcquired, execRingLockLost, execEpApplyEntry, execEpNoLinkTimeout, execRtFTmoExpiry,
      execSstLadderTimeout, execSstRestartDelay, execShedDlyExpiry, execThValidRestore, execVehicleMessage, execMetrologyResult,
      execPolarityDetect, execWorkingMapReceived, execDisplayButton, execDisplayTimeout, execBillRecReady, execAcqRecordReady,
      execCanFrameSent, execCanFrameReceived, execPackageShed, execThermalRegulationEnd, execMemEccError, execLcTransitionDone,
      execMgmtHandshake, execMgmtIdleTimeout, execEventDelivery, execCsmsMessage]
    (repeat' split) <;> exact .next _
  | _ => exact .next _

/-- Settles O6: no operation of the module writes the queue. -/
theorem execLeavesQueue : Obligations.ExecLeavesQueue := fun i s t h => (exec_keeps s i t h).2

end

end Sys2Proof.Machine

namespace Sys2Proof.Machine

open Sys2Proof

section

set_option Elab.async false

/-! ### The parts of the state that an operation leaves alone -/

/-- The parts of the state, one for each of its fields. -/
inductive StatePart where
  | pending | variant | regs | pregs | tm | queues | tags | ev | img | ctx | keep | host | loop | edge | qset | ring | sst | outs | aloc
  | cool | outl | safe | metr | bill | acq | can | lsw | mem | sup | bytes | recent | owed | free
  deriving DecidableEq

/-- The state with the parts in m as after reset. Two states agree in it exactly where they differ in parts of m only: an operation that
writes the parts ps leaves `outside m` alone for every m that holds ps, so the rules below compose by rewriting. -/
def State.outside (m : List StatePart) (s : State) : State where
  pending := if .pending ∈ m then [] else s.pending
  variant := if .variant ∈ m then 1 else s.variant
  regs := if .regs ∈ m then [] else s.regs
  pregs := if .pregs ∈ m then [] else s.pregs
  tm := if .tm ∈ m then TimePart.reset else s.tm
  queues := if .queues ∈ m then [] else s.queues
  tags := if .tags ∈ m then [] else s.tags
  ev := if .ev ∈ m then EvPart.reset else s.ev
  img := if .img ∈ m then ImagePart.reset else s.img
  ctx := if .ctx ∈ m then [] else s.ctx
  keep := if .keep ∈ m then KeepPart.reset else s.keep
  host := if .host ∈ m then HostPart.reset else s.host
  loop := if .loop ∈ m then LoopPart.reset else s.loop
  edge := if .edge ∈ m then EdgePart.reset else s.edge
  qset := if .qset ∈ m then QsetPart.reset else s.qset
  ring := if .ring ∈ m then RingPart.reset else s.ring
  sst := if .sst ∈ m then SstPart.reset else s.sst
  outs := if .outs ∈ m then OutsPart.reset else s.outs
  aloc := if .aloc ∈ m then AlocPart.reset else s.aloc
  cool := if .cool ∈ m then CoolPart.reset else s.cool
  outl := if .outl ∈ m then OutlPart.reset else s.outl
  safe := if .safe ∈ m then SafePart.reset else s.safe
  metr := if .metr ∈ m then MetrPart.reset else s.metr
  bill := if .bill ∈ m then BillPart.reset else s.bill
  acq := if .acq ∈ m then AcqPart.reset else s.acq
  can := if .can ∈ m then CanPart.reset else s.can
  lsw := if .lsw ∈ m then LswPart.reset else s.lsw
  mem := if .mem ∈ m then MemPart.reset else s.mem
  sup := if .sup ∈ m then PowerPart.reset else s.sup
  bytes := if .bytes ∈ m then [] else s.bytes
  recent := if .recent ∈ m then [] else s.recent
  owed := if .owed ∈ m then none else s.owed
  free := if .free ∈ m then 0 else s.free

/-- The state u with the parts in m taken from t. -/
def State.patch (m : List StatePart) (u t : State) : State where
  pending := if .pending ∈ m then t.pending else u.pending
  variant := if .variant ∈ m then t.variant else u.variant
  regs := if .regs ∈ m then t.regs else u.regs
  pregs := if .pregs ∈ m then t.pregs else u.pregs
  tm := if .tm ∈ m then t.tm else u.tm
  queues := if .queues ∈ m then t.queues else u.queues
  tags := if .tags ∈ m then t.tags else u.tags
  ev := if .ev ∈ m then t.ev else u.ev
  img := if .img ∈ m then t.img else u.img
  ctx := if .ctx ∈ m then t.ctx else u.ctx
  keep := if .keep ∈ m then t.keep else u.keep
  host := if .host ∈ m then t.host else u.host
  loop := if .loop ∈ m then t.loop else u.loop
  edge := if .edge ∈ m then t.edge else u.edge
  qset := if .qset ∈ m then t.qset else u.qset
  ring := if .ring ∈ m then t.ring else u.ring
  sst := if .sst ∈ m then t.sst else u.sst
  outs := if .outs ∈ m then t.outs else u.outs
  aloc := if .aloc ∈ m then t.aloc else u.aloc
  cool := if .cool ∈ m then t.cool else u.cool
  outl := if .outl ∈ m then t.outl else u.outl
  safe := if .safe ∈ m then t.safe else u.safe
  metr := if .metr ∈ m then t.metr else u.metr
  bill := if .bill ∈ m then t.bill else u.bill
  acq := if .acq ∈ m then t.acq else u.acq
  can := if .can ∈ m then t.can else u.can
  lsw := if .lsw ∈ m then t.lsw else u.lsw
  mem := if .mem ∈ m then t.mem else u.mem
  sup := if .sup ∈ m then t.sup else u.sup
  bytes := if .bytes ∈ m then t.bytes else u.bytes
  recent := if .recent ∈ m then t.recent else u.recent
  owed := if .owed ∈ m then t.owed else u.owed
  free := if .free ∈ m then t.free else u.free

theorem StatePart.eq_ite_of {p : StatePart} {m : List StatePart} {α : Type} {a b d : α}
    (h : (if p ∈ m then d else a) = if p ∈ m then d else b) : a = if p ∈ m then a else b := by
  split at h
  · rw [if_pos ‹_›]
  · rw [if_neg ‹_›, h]

/-- A state that agrees with u outside m is u with the parts in m its own. -/
theorem State.eq_patch {m : List StatePart} {t u : State} (h : t.outside m = u.outside m) : t = u.patch m t := by
  simp only [State.outside, State.mk.injEq] at h
  obtain ⟨h1, h2, h3, h4, h5, h6, h7, h8, h9, h10, h11, h12, h13, h14, h15, h16, h17, h18, h19, h20, h21, h22, h23, h24, h25, h26, h27,
    h28, h29, h30, h31, h32, h33⟩ := h
  obtain ⟨⟩ := t
  rw [State.patch, State.mk.injEq]
  exact ⟨StatePart.eq_ite_of h1, StatePart.eq_ite_of h2, StatePart.eq_ite_of h3, StatePart.eq_ite_of h4, StatePart.eq_ite_of h5, StatePart.eq_ite_of h6, StatePart.eq_ite_of h7, StatePart.eq_ite_of h8,
    StatePart.eq_ite_of h9, StatePart.eq_ite_of h10, StatePart.eq_ite_of h11, StatePart.eq_ite_of h12, StatePart.eq_ite_of h13, StatePart.eq_ite_of h14, StatePart.eq_ite_of h15, StatePart.eq_ite_of h16,
    StatePart.eq_ite_of h17, StatePart.eq_ite_of h18, StatePart.eq_ite_of h19, StatePart.eq_ite_of h20, StatePart.eq_ite_of h21, StatePart.eq_ite_of h22, StatePart.eq_ite_of h23, StatePart.eq_ite_of h24,
    StatePart.eq_ite_of h25, StatePart.eq_ite_of h26, StatePart.eq_ite_of h27, StatePart.eq_ite_of h28, StatePart.eq_ite_of h29, StatePart.eq_ite_of h30, StatePart.eq_ite_of h31, StatePart.eq_ite_of h32,
    StatePart.eq_ite_of h33⟩

/-- What a record update writes for the part p is that part of the state it updates, or p is in m. -/
def StatePart.Agrees (p : StatePart) (m : List StatePart) {α : Type} (a b : α) : Prop := p ∉ m → a = b

@[simp] theorem StatePart.agrees_self (p : StatePart) (m : List StatePart) {α : Type} (a : α) : p.Agrees m a a := fun _ => rfl

@[simp] theorem StatePart.agrees_of_mem {p : StatePart} {m : List StatePart} {α : Type} {a b : α} (h : p ∈ m) : p.Agrees m a b := fun h' => absurd h h'

theorem StatePart.Agrees.ite {p : StatePart} {m : List StatePart} {α : Type} {a b : α} (h : p.Agrees m a b) (d : α) :
    (if p ∈ m then d else a) = if p ∈ m then d else b := by
  split
  · rfl
  · exact h ‹_›

/-- A record update leaves `outside m` alone where every part it changes is in m. -/
@[simp] theorem State.outside_update {m : List StatePart} {t : State}
    {pending' : List Instr} {variant' free' : Nat} {regs' pregs' recent' : SMap Word} {tm' : TimePart} {queues' : SMap Queue}
    {ev' : EvPart} {img' : ImagePart} {ctx' : SMap Ctx} {keep' : KeepPart} {host' : HostPart} {loop' : LoopPart} {edge' : EdgePart}
    {qset' : QsetPart} {ring' : RingPart} {sst' : SstPart} {outs' : OutsPart} {aloc' : AlocPart} {cool' : CoolPart} {outl' : OutlPart}
    {safe' : SafePart} {metr' : MetrPart} {bill' : BillPart} {acq' : AcqPart} {can' : CanPart} {lsw' : LswPart} {mem' : MemPart}
    {sup' : PowerPart} {bytes' : SMap Byte} {owed' : Option Owed}
    (h : StatePart.pending.Agrees m pending' t.pending ∧ StatePart.variant.Agrees m variant' t.variant ∧ StatePart.regs.Agrees m regs' t.regs ∧
    StatePart.pregs.Agrees m pregs' t.pregs ∧ StatePart.tm.Agrees m tm' t.tm ∧ StatePart.queues.Agrees m queues' t.queues ∧ StatePart.ev.Agrees m ev' t.ev ∧
    StatePart.img.Agrees m img' t.img ∧ StatePart.ctx.Agrees m ctx' t.ctx ∧ StatePart.keep.Agrees m keep' t.keep ∧ StatePart.host.Agrees m host' t.host ∧
    StatePart.loop.Agrees m loop' t.loop ∧ StatePart.edge.Agrees m edge' t.edge ∧ StatePart.qset.Agrees m qset' t.qset ∧
    StatePart.ring.Agrees m ring' t.ring ∧ StatePart.sst.Agrees m sst' t.sst ∧ StatePart.outs.Agrees m outs' t.outs ∧ StatePart.aloc.Agrees m aloc' t.aloc ∧
    StatePart.cool.Agrees m cool' t.cool ∧ StatePart.outl.Agrees m outl' t.outl ∧ StatePart.safe.Agrees m safe' t.safe ∧
    StatePart.metr.Agrees m metr' t.metr ∧ StatePart.bill.Agrees m bill' t.bill ∧ StatePart.acq.Agrees m acq' t.acq ∧ StatePart.can.Agrees m can' t.can ∧
    StatePart.lsw.Agrees m lsw' t.lsw ∧ StatePart.mem.Agrees m mem' t.mem ∧ StatePart.sup.Agrees m sup' t.sup ∧ StatePart.bytes.Agrees m bytes' t.bytes ∧
    StatePart.recent.Agrees m recent' t.recent ∧ StatePart.owed.Agrees m owed' t.owed ∧ StatePart.free.Agrees m free' t.free) :
    State.outside m ⟨pending', variant', regs', pregs', tm', queues', t.tags, ev', img', ctx', keep', host', loop', edge', qset', ring', sst', outs', aloc', cool', outl', safe', metr', bill', acq', can', lsw', mem', sup', bytes', recent', owed', free'⟩ = t.outside m := by
  obtain ⟨h1, h2, h3, h4, h5, h6, h7, h8, h9, h10, h11, h12, h13, h14, h15, h16, h17, h18, h19, h20, h21, h22, h23, h24, h25, h26, h27,
    h28, h29, h30, h31, h32⟩ := h
  rw [State.outside, State.outside, State.mk.injEq]
  exact ⟨h1.ite _, h2.ite _, h3.ite _, h4.ite _, h5.ite _, h6.ite _, rfl, h7.ite _, h8.ite _, h9.ite _, h10.ite _, h11.ite _, h12.ite _,
    h13.ite _, h14.ite _, h15.ite _, h16.ite _, h17.ite _, h18.ite _, h19.ite _, h20.ite _, h21.ite _, h22.ite _, h23.ite _, h24.ite
    _, h25.ite _, h26.ite _, h27.ite _, h28.ite _, h29.ite _, h30.ite _, h31.ite _, h32.ite _⟩

@[simp] theorem State.outside_ite {ps : List StatePart} (c : Prop) [Decidable c] (s t : State) :
    (if c then s else t).outside ps = if c then s.outside ps else t.outside ps := apply_ite (State.outside ps) c s t

@[simp] theorem foldl_outside {ps : List StatePart} {α : Type} {f : State → α → State} (h : ∀ t x, (f t x).outside ps = t.outside ps)
    (l : List α) (s : State) : (l.foldl f s).outside ps = s.outside ps := by
  induction l generalizing s with
  | nil => rfl
  | cons x l ih => exact (ih _).trans (h s x)

theorem State.outside_of_fst {ps : List StatePart} {α : Type} {s t : State} {a : α} {p : State × α}
    (h : p.1.outside ps = s.outside ps) (e : p = (t, a)) : t.outside ps = s.outside ps := by subst e; exact h

theorem State.outside_of_snd {ps : List StatePart} {α : Type} {s t : State} {a : α} {p : α × State}
    (h : p.2.outside ps = s.outside ps) (e : p = (a, t)) : t.outside ps = s.outside ps := by subst e; exact h

end

end Sys2Proof.Machine

namespace Sys2Proof.Machine

open Sys2Proof

section

set_option Elab.async false

/-! ### One rule per operation: the parts it may write

The operations stand in the model's order, so each rule follows from those of the operations the body calls. -/

section
variable (s : State)

@[simp] theorem State.tick_outside {ps : List StatePart} (hp : [.tm, .recent] ⊆ ps) (dt : Nat) : (s.tick dt).outside ps = s.outside ps := by
  simp at hp; simp [State.tick, hp]
@[simp] theorem State.wr_outside {ps : List StatePart} (hp : [.regs] ⊆ ps) (a : Nat) (v : Word) : (s.wr a v).outside ps = s.outside ps := by
  simp at hp; simp [State.wr, hp]
@[simp] theorem State.setF_outside {ps : List StatePart} (hp : [.regs] ⊆ ps) (a : Nat) (f : Field) (v : Nat) :
    (s.setF a f v).outside ps = s.outside ps := by simp at hp; simp [State.setF, hp]
@[simp] theorem State.setFS_outside {ps : List StatePart} (hp : [.regs] ⊆ ps) (a : Nat) (f : Field) (v : Int) :
    (s.setFS a f v).outside ps = s.outside ps := by simp at hp; simp [State.setFS, hp]
@[simp] theorem State.bump_outside {ps : List StatePart} (hp : [.regs, .recent] ⊆ ps) (a : Nat) (f : Field) (n : Nat) :
    (s.bump a f n).outside ps = s.outside ps := by simp at hp; simp [State.bump, hp]
@[simp] theorem State.raise_outside {ps : List StatePart} (hp : [.regs, .recent] ⊆ ps) (a : Nat) (f : Field) :
    (s.raise a f).outside ps = s.outside ps := by simp at hp; simp [State.raise, hp]
@[simp] theorem State.clearCount_outside {ps : List StatePart} (hp : [.regs] ⊆ ps) (a : Nat) : (s.clearCount a).outside ps = s.outside ps := by
  simp at hp; simp [State.clearCount, hp]
@[simp] theorem State.clearField_outside {ps : List StatePart} (hp : [.regs] ⊆ ps) (a : Nat) (f : Field) :
    (s.clearField a f).outside ps = s.outside ps := by simp at hp; simp [State.clearField, hp]
@[simp] theorem State.peak_outside {ps : List StatePart} (hp : [.regs] ⊆ ps) (a : Nat) (f : Field) (v : Nat) :
    (s.peak a f v).outside ps = s.outside ps := by simp at hp; simp [State.peak, hp]
@[simp] theorem State.setBit_outside {ps : List StatePart} (hp : [.regs] ⊆ ps) (a i : Nat) (b : Bool) :
    (s.setBit a i b).outside ps = s.outside ps := by simp at hp; simp [State.setBit, hp]
@[simp] theorem State.pwr_outside {ps : List StatePart} (hp : [.pregs] ⊆ ps) (p : Path) (a : Nat) (v : Word) :
    (s.pwr p a v).outside ps = s.outside ps := by simp at hp; simp [State.pwr, hp]
@[simp] theorem State.postFull_outside {ps : List StatePart} (hp : [.ev] ⊆ ps) (code : Nat) (ts : Count) (arg : Word) (summary : Bool)
    (only : Option Side) : (s.postFull code ts arg summary only).outside ps = s.outside ps := by simp at hp; simp [State.postFull, hp]
@[simp] theorem State.postArg_outside {ps : List StatePart} (hp : [.ev] ⊆ ps) (code : Nat) (arg : Word) :
    (s.postArg code arg).outside ps = s.outside ps := by simp at hp; simp [State.postArg, hp]
@[simp] theorem State.post_outside {ps : List StatePart} (hp : [.ev] ⊆ ps) (code inst cause detail : Nat) :
    (s.post code inst cause detail).outside ps = s.outside ps := by simp at hp; simp [State.post, hp]
@[simp] theorem State.forget_outside {ps : List StatePart} (hp : [.ev] ⊆ ps) (code key : Nat) :
    (s.forget code key).outside ps = s.outside ps := by simp at hp; simp [State.forget, hp]
@[simp] theorem State.setQueue_outside {ps : List StatePart} (hp : [.queues] ⊆ ps) (x : Side) (q : Nat) (v : Queue) :
    (s.setQueue x q v).outside ps = s.outside ps := by simp at hp; simp [State.setQueue, hp]
@[simp] theorem State.setByte_outside {ps : List StatePart} (hp : [.bytes] ⊆ ps) (k : Nat) (v : Byte) :
    (s.setByte k v).outside ps = s.outside ps := by simp at hp; simp [State.setByte, hp]
@[simp] theorem State.setWordAt_outside {ps : List StatePart} (hp : [.bytes] ⊆ ps) (k : Nat) (w : Word) :
    (s.setWordAt k w).outside ps = s.outside ps := by simp at hp; simp [State.setWordAt, hp]
@[simp] theorem State.eraseBytes_outside {ps : List StatePart} (hp : [.bytes] ⊆ ps) (lo n : Nat) :
    (s.eraseBytes lo n).outside ps = s.outside ps := by simp at hp; simp [State.eraseBytes, hp]
@[simp] theorem State.setContext_outside {ps : List StatePart} (hp : [.ctx] ⊆ ps) (n : Nat) (c : Ctx) :
    (s.setContext n c).outside ps = s.outside ps := by simp at hp; simp [State.setContext, hp]
@[simp] theorem State.setErr_outside {ps : List StatePart} (hp : [.regs, .recent] ⊆ ps) (b : Nat) (acc : Access) (a : Nat) :
    (s.setErr b acc a).outside ps = s.outside ps := by simp at hp; simp [State.setErr, hp]
@[simp] theorem State.deny_outside {ps : List StatePart} (hp : [.regs, .ev, .recent] ⊆ ps) (acc : Access) (a : Nat) :
    (s.deny acc a).outside ps = s.outside ps := by simp at hp; simp [State.deny, hp]
@[simp] theorem State.paramReject_outside {ps : List StatePart} (hp : [.ev] ⊆ ps) (acc : Access) (a : Nat) :
    (s.paramReject acc a).outside ps = s.outside ps := by simp at hp; simp [State.paramReject, hp]
@[simp] theorem State.answer_outside {ps : List StatePart} (hp : [.host] ⊆ ps) (ws : List Word) (status : Nat) :
    (s.answer ws status).outside ps = s.outside ps := by simp at hp; simp [State.answer, hp]
@[simp] theorem State.freshWord_outside {ps : List StatePart} (hp : [.free] ⊆ ps) : s.freshWord.2.outside ps = s.outside ps := by
  simp at hp; simp [State.freshWord, hp]
@[simp] theorem State.freshInt_outside {ps : List StatePart} (hp : [.free] ⊆ ps) : s.freshInt.2.outside ps = s.outside ps := by
  simp at hp; simp [State.freshInt, hp]
@[simp] theorem State.freshBool_outside {ps : List StatePart} (hp : [.free] ⊆ ps) : s.freshBool.2.outside ps = s.outside ps := by
  simp at hp; simp [State.freshBool, hp]
@[simp] theorem State.postLimited_outside {ps : List StatePart} (hp : [.ev] ⊆ ps) (code inst cause count key : Nat) (only : Option Side)
    : (s.postLimited code inst cause count key only).outside ps = s.outside ps := by
  simp at hp; unfold State.postLimited; split <;> simp [hp]
@[simp] theorem State.queuesEmpty_outside {ps : List StatePart} (hp : [.queues] ⊆ ps) (x : Side) :
    (s.queuesEmpty x).outside ps = s.outside ps := by simp at hp; simp [State.queuesEmpty, hp]
@[simp] theorem State.creditsBack_outside {ps : List StatePart} (hp : [.queues, .free] ⊆ ps) (x : Side) (q n : Nat) :
    (s.creditsBack x q n).outside ps = s.outside ps := by simp at hp; simp [State.creditsBack, hp]
@[simp] theorem State.giveBack_outside {ps : List StatePart} (hp : [.queues, .free] ⊆ ps) (x : Side) (q : Nat) (rest : List QEntry) :
    (s.giveBack x q rest).outside ps = s.outside ps := by simp at hp; simp [State.giveBack, hp]
@[simp] theorem State.queueLoss_outside {ps : List StatePart} (hp : [.queues, .ev] ⊆ ps) (x : Side) (q : Nat) :
    (s.queueLoss x q).outside ps = s.outside ps := by simp at hp; simp [State.queueLoss, hp]
@[simp] theorem State.gapOffer_outside {ps : List StatePart} (hp : [.queues, .ev] ⊆ ps) (x : Side) (q : Nat) (v : Int) (ts : Count) (src
    ep : Nat) (more : List Word) : (s.gapOffer x q v ts src ep more).outside ps = s.outside ps := by simp at hp; simp [State.gapOffer, hp]
@[simp] theorem State.replaceOffer_outside {ps : List StatePart} (hp : [.queues, .ev] ⊆ ps) (x : Side) (q : Nat) (v : Int) (ts inst :
    Count) (src ep : Nat) : (s.replaceOffer x q v ts inst src ep).outside ps = s.outside ps := by
  simp at hp; simp [State.replaceOffer, hp]
@[simp] theorem State.queueTake_outside {ps : List StatePart} (hp : [.queues, .free] ⊆ ps) (x : Side) (q : Nat) :
    ((s.queueTake x q).2).outside ps = s.outside ps := by simp at hp; unfold State.queueTake; split <;> simp [hp]
@[simp] theorem State.evFree_outside {ps : List StatePart} (hp : [.ev] ⊆ ps) (x : Side) (n : Nat) :
    (s.evFree x n).outside ps = s.outside ps := by simp at hp; simp [State.evFree, hp]
@[simp] theorem State.enter_outside {ps : List StatePart} (hp : [.regs, .queues, .ev, .recent] ⊆ ps) (x : Side) (e : EvEntry) :
    (s.enter x e).outside ps = s.outside ps := by simp at hp; simp [State.enter, hp]
@[simp] theorem State.flushEvents_outside {ps : List StatePart} (hp : [.regs, .queues, .ev, .recent] ⊆ ps) :
    s.flushEvents.outside ps = s.outside ps := by
  simp at hp
  exact (foldl_outside (fun t e => foldl_outside (fun u x => by simp [hp]) _ _) _ _).trans (by simp [hp])
@[simp] theorem State.irqShow_outside {ps : List StatePart} (hp : [.host] ⊆ ps) : s.irqShow.outside ps = s.outside ps := by
  simp at hp; simp [State.irqShow, hp]
@[simp] theorem State.touchAbsent_outside {ps : List StatePart} (hp : [.regs, .ev, .recent] ⊆ ps) (acc : Access) (addr : Nat) :
    (s.touchAbsent acc addr).outside ps = s.outside ps := by simp at hp; simp [State.touchAbsent, hp]
@[simp] theorem State.touchReserved_outside {ps : List StatePart} (hp : [.regs, .recent] ⊆ ps) (acc : Access) (addr : Nat) :
    (s.touchReserved acc addr).outside ps = s.outside ps := by simp at hp; simp [State.touchReserved, hp]
@[simp] theorem State.touchOutOfMap_outside {ps : List StatePart} (hp : [.regs, .ev, .recent] ⊆ ps) (acc : Access) (addr : Nat) :
    (s.touchOutOfMap acc addr).outside ps = s.outside ps := by simp at hp; unfold State.touchOutOfMap; split <;> simp [hp]
@[simp] theorem State.takeSnap_outside {ps : List StatePart} (hp : [.ev] ⊆ ps) (p : Path) : (s.takeSnap p).outside ps = s.outside ps := by
  simp at hp; simp [State.takeSnap, hp]
@[simp] theorem State.readReg_outside {ps : List StatePart} (hp : [.ev, .host] ⊆ ps) (p : Path) (addr : Nat) :
    ((s.readReg p addr).2).outside ps = s.outside ps := by simp at hp; simp only [State.readReg]; (repeat' split) <;> simp [hp]
@[simp] theorem State.busRead_outside {ps : List StatePart} (hp : [.regs, .ev, .host, .recent] ⊆ ps) (acc : Access) (addr : Nat) :
    ((s.busRead acc addr).2).outside ps = s.outside ps := by simp at hp; simp only [State.busRead]; (repeat' split) <;> simp [hp]
@[simp] theorem State.notePersist_outside {ps : List StatePart} (hp : [.img] ⊆ ps) (addr : Nat) (val : Word) :
    (s.notePersist addr val).outside ps = s.outside ps := by simp at hp; simp [State.notePersist, hp]
@[simp] theorem State.setApplied_outside {ps : List StatePart} (hp : [.regs, .pregs] ⊆ ps) (p : Path) (addr : Nat) (w : Word) :
    (s.setApplied p addr w).outside ps = s.outside ps := by simp at hp; simp [State.setApplied, hp]
@[simp] theorem State.stage_outside {ps : List StatePart} (hp : [.regs, .ev, .ctx, .recent] ⊆ ps) (n : Nat) (acc : Access) (addr : Nat)
    (r : RegSpec) (val : Word) : (s.stage n acc addr r val).outside ps = s.outside ps := by simp at hp; simp [State.stage, hp]
@[simp] theorem State.applyPlain_outside {ps : List StatePart} (hp : [.regs, .pregs, .tm, .ev, .img, .recent] ⊆ ps) (acc : Access) (addr
    : Nat) (r : RegSpec) (val : Word) : (s.applyPlain acc addr r val).outside ps = s.outside ps := by
  simp at hp; simp [State.applyPlain, hp]
@[simp] theorem State.applyActing_outside {ps : List StatePart} (hp : [.regs, .pregs] ⊆ ps) (acc : Access) (addr : Nat) (r : RegSpec)
    (val : Word) : (s.applyActing acc addr r val).outside ps = s.outside ps := by simp at hp; simp [State.applyActing, hp]
@[simp] theorem State.writeReg_outside {ps : List StatePart} (hp : [.regs, .ev, .ctx, .recent] ⊆ ps) (acc : Access) (addr : Nat) (r :
    RegSpec) (val : Word) {plain acting : State → State} (hplain : ∀ t, (plain t).outside ps = t.outside ps) (hacting : ∀ t, (acting
    t).outside ps = t.outside ps) : (s.writeReg acc addr r val plain acting).outside ps = s.outside ps := by
  simp at hp
  unfold State.writeReg
  split
  · simp [hp]
  · split <;> simp [hp, hplain, hacting]
@[simp] theorem State.busWrite_outside {ps : List StatePart} (hp : [.regs, .pregs, .tm, .ev, .img, .ctx, .recent] ⊆ ps) (acc : Access)
    (addr : Nat) (val : Word) : (s.busWrite acc addr val).outside ps = s.outside ps := by
  simp at hp; simp only [State.busWrite]; (repeat' split) <;> simp [hp]
@[simp] theorem State.busAccess_outside {ps : List StatePart} (hp : [.regs, .pregs, .tm, .ev, .img, .ctx, .host, .recent] ⊆ ps) (acc :
    Access) (addr : Nat) (wr : Option Word) : (s.busAccess acc addr wr).outside ps = s.outside ps := by
  simp at hp; unfold State.busAccess; split <;> simp [hp]
@[simp] theorem State.command_outside {ps : List StatePart} (hp : [.regs, .ev, .recent] ⊆ ps) (acc : Access) (addr : Nat) (sc : Scope)
    {act : State → State} (hact : ∀ t, (act t).outside ps = t.outside ps) : (s.command acc addr sc act).outside ps = s.outside ps := by
  simp at hp; simp [State.command, hact, hp]
@[simp] theorem State.setting_outside {ps : List StatePart} (hp : [.regs, .tm, .ev, .img, .ctx, .recent] ⊆ ps) (acc : Access) (addr :
    Nat) (val : Word) {keep act : State → State} (hkeep : ∀ t, (keep t).outside ps = t.outside ps) (hact : ∀ t, (act t).outside ps =
    t.outside ps) : (s.setting acc addr val keep act).outside ps = s.outside ps := by
  simp at hp
  refine s.command_outside (by simp [hp]) _ _ _ fun t => ?_
  dsimp only
  split
  · exact t.writeReg_outside (by simp [hp]) _ _ _ _ (fun u => by simp [hp, hkeep, hact]) hact
  · rfl
@[simp] theorem State.fastClrWrite_outside {ps : List StatePart} (hp : [.regs, .ev, .recent] ⊆ ps) (acc : Access) (val : Word) :
    (s.fastClrWrite acc val).outside ps = s.outside ps := by
  simp at hp
  exact s.command_outside (by simp [hp]) _ _ _ fun t => by split <;> simp [hp]
@[simp] theorem State.setStall_outside {ps : List StatePart} (hp : [.queues] ⊆ ps) (x : Side) (q : Nat) (t : Option Count) :
    (s.setStall x q t).outside ps = s.outside ps := by simp at hp; simp [State.setStall, hp]
@[simp] theorem State.evqPopWrite_outside {ps : List StatePart} (hp : [.regs, .ev, .host, .recent] ⊆ ps) (acc : Access) (val : Word) :
    (s.evqPopWrite acc val).outside ps = s.outside ps := by simp at hp; simp [State.evqPopWrite, hp]
@[simp] theorem State.showRest_outside {ps : List StatePart} (hp : [.regs] ⊆ ps) : s.showRest.outside ps = s.outside ps := by
  simp at hp; simp [State.showRest, hp]
@[simp] theorem State.emptyOn_outside {ps : List StatePart} (hp : [.regs, .img, .bytes] ⊆ ps) (n st : Nat) (x : Side) :
    (s.emptyOn n st x).outside ps = s.outside ps := by simp at hp; simp [State.emptyOn, hp]
@[simp] theorem State.emptySlot_outside {ps : List StatePart} (hp : [.regs, .img, .bytes] ⊆ ps) (n st : Nat) :
    (s.emptySlot n st).outside ps = s.outside ps := by simp at hp; simp [State.emptySlot, hp]
@[simp] theorem State.imgOpen_outside {ps : List StatePart} (hp : [.regs, .img, .bytes] ⊆ ps) : s.imgOpen.outside ps = s.outside ps := by
  simp at hp; simp [State.imgOpen, hp]
@[simp] theorem State.imgClose_outside {ps : List StatePart} (hp : [.img] ⊆ ps) : s.imgClose.outside ps = s.outside ps := by
  simp at hp; unfold State.imgClose; split <;> simp [hp]
@[simp] theorem State.imgCancel_outside {ps : List StatePart} (hp : [.regs, .img, .bytes] ⊆ ps) : s.imgCancel.outside ps = s.outside ps := by
  simp at hp; unfold State.imgCancel; split <;> simp [hp]
@[simp] theorem State.imgLost_outside {ps : List StatePart} (hp : [.regs, .ev, .img, .bytes] ⊆ ps) : s.imgLost.outside ps = s.outside ps := by
  simp at hp; unfold State.imgLost; split <;> simp [hp]
@[simp] theorem State.imgXferWrite_outside {ps : List StatePart} (hp : [.regs, .ev, .img, .bytes, .recent] ⊆ ps) (acc : Access) (val :
    Word) : (s.imgXferWrite acc val).outside ps = s.outside ps := by simp at hp; simp [State.imgXferWrite, hp]
@[simp] theorem State.imgDataWrite_outside {ps : List StatePart} (hp : [.regs, .ev, .img, .bytes, .recent] ⊆ ps) (acc : Access) (addr :
    Nat) (val : Word) : (s.imgDataWrite acc addr val).outside ps = s.outside ps := by
  simp at hp
  refine s.command_outside (by simp [hp]) _ _ _ fun t => ?_
  dsimp only
  split
  · simp [hp]
  · exact foldl_outside (fun u x => by simp [hp]) _ _
@[simp] theorem State.judgeSlot_outside {ps : List StatePart} (hp : [.regs] ⊆ ps) (n st code : Nat) (x : Side) :
    (s.judgeSlot n st code x).outside ps = s.outside ps := by simp at hp; simp [State.judgeSlot, hp]
@[simp] theorem State.precheckEnds_outside {ps : List StatePart} (hp : [.regs, .img] ⊆ ps) (n : Nat) :
    (s.precheckEnds n).outside ps = s.outside ps := by simp at hp; unfold State.precheckEnds; split <;> simp [hp]
@[simp] theorem State.wrMask_outside {ps : List StatePart} (hp : [.regs] ⊆ ps) (addr : Nat) (mask v : Word) :
    (s.wrMask addr mask v).outside ps = s.outside ps := by simp at hp; simp [State.wrMask, hp]
@[simp] theorem State.showSafety_outside {ps : List StatePart} (hp : [.regs] ⊆ ps) : s.showSafety.outside ps = s.outside ps := by
  simp at hp; simp [State.showSafety, hp]
@[simp] theorem State.resetUnused_outside {ps : List StatePart} (hp : [.regs, .pregs, .sst, .outs, .cool, .outl, .safe, .acq, .can] ⊆
    ps) (g : Nat → Byte) : (s.resetUnused g).outside ps = s.outside ps := by simp at hp; simp [State.resetUnused, hp]
@[simp] theorem State.shiftsUsed_outside {ps : List StatePart} (hp : [.regs] ⊆ ps) : s.shiftsUsed.outside ps = s.outside ps := by
  simp at hp; simp [State.shiftsUsed, hp]
@[simp] theorem State.install_outside {ps : List StatePart} (hp : [.regs, .pregs, .img, .keep, .sst, .outs, .cool, .outl, .safe, .metr,
    .acq, .can, .lsw] ⊆ ps) (n : Nat) : (s.install n).outside ps = s.outside ps := by
  simp at hp
  unfold State.install
  extract_lets g all ts store s1 s2 s3
  have h3 : s3.outside ps = s.outside ps :=
    (foldl_outside (fun t r => by split <;> simp [hp]) _ _).trans (by simp [s2, s1, hp])
  clear_value s3
  simp +zetaDelta [hp, h3]
@[simp] theorem State.loadFailed_outside {ps : List StatePart} (hp : [.regs, .ev] ⊆ ps) (n : Nat) (f : Nat × Nat) :
    (s.loadFailed n f).outside ps = s.outside ps := by simp at hp; simp [State.loadFailed, hp]
@[simp] theorem State.imgRevokeWrite_outside {ps : List StatePart} (hp : [.regs, .ev, .recent] ⊆ ps) (acc : Access) (val : Word) :
    (s.imgRevokeWrite acc val).outside ps = s.outside ps := by simp at hp; simp [State.imgRevokeWrite, hp]
@[simp] theorem State.imgMinVerWrite_outside {ps : List StatePart} (hp : [.regs, .tm, .ev, .img, .ctx, .recent] ⊆ ps) (acc : Access)
    (val : Word) : (s.imgMinVerWrite acc val).outside ps = s.outside ps := by simp at hp; simp [State.imgMinVerWrite, hp]
@[simp] theorem State.writeTuning_outside {ps : List StatePart} (hp : [.img, .mem] ⊆ ps) : s.writeTuning.outside ps = s.outside ps := by
  simp at hp; unfold State.writeTuning; split <;> simp [hp]
@[simp] theorem State.showEpoch_outside {ps : List StatePart} (hp : [.regs] ⊆ ps) : s.showEpoch.outside ps = s.outside ps := by
  simp at hp; simp [State.showEpoch, hp]
@[simp] theorem State.bumpEpoch_outside {ps : List StatePart} (hp : [.regs, .keep] ⊆ ps) (k : Nat) :
    (s.bumpEpoch k).outside ps = s.outside ps := by simp at hp; simp [State.bumpEpoch, hp]
@[simp] theorem State.raiseEpochs_outside {ps : List StatePart} (hp : [.regs, .keep] ⊆ ps) (es : SMap Nat) (base d : Nat) :
    (s.raiseEpochs es base d).outside ps = s.outside ps := by simp at hp; simp [State.raiseEpochs, hp]
@[simp] theorem State.freshEpochs_outside {ps : List StatePart} (hp : [.regs, .keep] ⊆ ps) : s.freshEpochs.outside ps = s.outside ps := by
  simp at hp; simp [State.freshEpochs, hp]
@[simp] theorem State.fenceDiscard_outside {ps : List StatePart} (hp : [.regs, .ev, .recent] ⊆ ps) (consumer : Nat) :
    (s.fenceDiscard consumer).outside ps = s.outside ps := by simp at hp; simp [State.fenceDiscard, hp]
@[simp] theorem State.trialRollback_outside {ps : List StatePart} (hp : [.ev, .ctx] ⊆ ps) (n reason : Nat) :
    (s.trialRollback n reason).outside ps = s.outside ps := by simp at hp; simp [State.trialRollback, hp]
@[simp] theorem State.watchHit_outside {ps : List StatePart} (hp : [.ev, .ctx] ⊆ ps) (b reason : Nat) (holds : Ctx → Bool) :
    (s.watchHit b reason holds).outside ps = s.outside ps := by simp at hp; simp [State.watchHit, hp]
@[simp] theorem State.watchQset_outside {ps : List StatePart} (hp : [.ev, .ctx] ⊆ ps) : s.watchQset.outside ps = s.outside ps := by
  simp at hp; simp [State.watchQset, hp]
@[simp] theorem State.watchSafe_outside {ps : List StatePart} (hp : [.ev, .ctx] ⊆ ps) : s.watchSafe.outside ps = s.outside ps := by
  simp at hp; simp [State.watchSafe, hp]
@[simp] theorem State.watchFailover_outside {ps : List StatePart} (hp : [.ev, .ctx] ⊆ ps) : s.watchFailover.outside ps = s.outside ps := by
  simp at hp; simp [State.watchFailover, hp]
@[simp] theorem State.watchOutlet_outside {ps : List StatePart} (hp : [.ev, .ctx] ⊆ ps) (n : Nat) :
    (s.watchOutlet n).outside ps = s.outside ps := by simp at hp; simp [State.watchOutlet, hp]
@[simp] theorem State.watchSst_outside {ps : List StatePart} (hp : [.ev, .ctx] ⊆ ps) : s.watchSst.outside ps = s.outside ps := by
  simp at hp; simp [State.watchSst, hp]
@[simp] theorem State.watchSat_outside {ps : List StatePart} (hp : [.ev, .ctx] ⊆ ps) (n run : Nat) :
    (s.watchSat n run).outside ps = s.outside ps := by simp at hp; simp [State.watchSat, hp]
@[simp] theorem State.showTai_outside {ps : List StatePart} (hp : [.regs] ⊆ ps) : s.showTai.outside ps = s.outside ps := by
  simp at hp; simp [State.showTai, hp]
@[simp] theorem State.setCan_outside {ps : List StatePart} (hp : [.can] ⊆ ps) (x : Side) (k : Nat) (e : CanEng) :
    (s.setCan x k e).outside ps = s.outside ps := by simp at hp; simp [State.setCan, hp]
@[simp] theorem State.setCanMode_outside {ps : List StatePart} (hp : [.regs] ⊆ ps) (k m : Nat) :
    (s.setCanMode k m).outside ps = s.outside ps := by simp at hp; simp [State.setCanMode, hp]
@[simp] theorem State.canBoth_outside {ps : List StatePart} (hp : [.can] ⊆ ps) (k : Nat) (f : CanEng → CanEng) :
    (s.canBoth k f).outside ps = s.outside ps := by simp at hp; simp [State.canBoth, hp]
@[simp] theorem State.canPost_outside {ps : List StatePart} (hp : [.ev] ⊆ ps) (code k inst detail : Nat) :
    (s.canPost code k inst detail).outside ps = s.outside ps := by simp at hp; simp [State.canPost, hp]
@[simp] theorem State.canRefuse_outside {ps : List StatePart} (hp : [.regs, .ev, .recent] ⊆ ps) (k p : Nat) :
    (s.canRefuse k p).outside ps = s.outside ps := by simp at hp; simp [State.canRefuse, hp]
@[simp] theorem State.portWrite_outside {ps : List StatePart} (hp : [.regs, .ev, .can, .recent] ⊆ ps) (k p named : Nat) (m : CanMsg) :
    (s.portWrite k p named m).outside ps = s.outside ps := by simp at hp; simp only [State.portWrite]; split <;> simp [hp]
@[simp] theorem State.setEth_outside {ps : List StatePart} (hp : [.host] ⊆ ps) (x : Side) (q : List (List Byte)) :
    (s.setEth x q).outside ps = s.outside ps := by simp at hp; simp [State.setEth, hp]
@[simp] theorem State.ethSend_outside {ps : List StatePart} (hp : [.host] ⊆ ps) (bs : List Byte) :
    (s.ethSend bs).outside ps = s.outside ps := by simp at hp; simp [State.ethSend, hp]
@[simp] theorem State.ethCycle_outside {ps : List StatePart} (hp : [.host] ⊆ ps) (n : Nat) : (s.ethCycle n).outside ps = s.outside ps := by
  simp at hp; simp [State.ethCycle, hp]
@[simp] theorem State.ethFailover_outside {ps : List StatePart} (hp : [.host, .free] ⊆ ps) (lost : Side) :
    (s.ethFailover lost).outside ps = s.outside ps := by simp at hp; simp [State.ethFailover, hp]
@[simp] theorem cellStates_outside {ps : List StatePart} (hp : [.regs, .sst] ⊆ ps) (t : State) :
    (cellStates s t).outside ps = t.outside ps := by
  simp at hp
  exact foldl_outside (fun u c => by split <;> simp [hp]) _ _
@[simp] theorem State.afterReset_outside {ps : List StatePart} (hp : [.regs, .pregs, .tm, .queues, .tags, .ev, .img, .ctx, .keep, .host,
    .loop, .edge, .qset, .ring, .sst, .outs, .aloc, .cool, .outl, .safe, .acq, .can, .lsw, .mem, .sup, .bytes, .recent, .owed] ⊆ ps) :
    s.afterReset.outside ps = s.outside ps := by
  simp at hp
  simp [State.afterReset, State.outside, hp]
@[simp] theorem State.endRun_outside {ps : List StatePart} (hp : [.regs] ⊆ ps) : s.endRun.outside ps = s.outside ps := by
  simp at hp; simp [State.endRun, hp]
@[simp] theorem State.cleared_outside {ps : List StatePart} (hp : [.regs, .pregs, .tm, .queues, .tags, .ev, .img, .ctx, .keep, .host,
    .loop, .edge, .qset, .ring, .sst, .outs, .aloc, .cool, .outl, .safe, .acq, .can, .lsw, .mem, .sup, .bytes, .recent, .owed] ⊆ ps) :
    s.cleared.outside ps = s.outside ps := by simp at hp; simp [State.cleared, hp]
@[simp] theorem State.moduleReset_outside {ps : List StatePart} (hp : [.regs, .pregs, .tm, .queues, .tags, .ev, .img, .ctx, .keep,
    .host, .loop, .edge, .qset, .ring, .sst, .outs, .aloc, .cool, .outl, .safe, .acq, .can, .lsw, .mem, .sup, .bytes, .recent, .owed] ⊆ ps)
    (kind : Nat) : (s.moduleReset kind).outside ps = s.outside ps := by simp at hp; simp [State.moduleReset, hp]
@[simp] theorem State.wakeSource_outside {ps : List StatePart} (hp : [.regs, .pregs, .tm, .queues, .tags, .ev, .img, .ctx, .keep, .host,
    .loop, .edge, .qset, .ring, .sst, .outs, .aloc, .cool, .outl, .safe, .acq, .can, .lsw, .mem, .sup, .bytes, .recent, .owed] ⊆ ps) (src :
    WakeSrc) (inst : Nat) : (s.wakeSource src inst).outside ps = s.outside ps := by simp at hp; simp [State.wakeSource, hp]
@[simp] theorem State.setPort_outside {ps : List StatePart} (hp : [.ring] ⊆ ps) (p : Nat) (t : PortTx) :
    (s.setPort p t).outside ps = s.outside ps := by simp at hp; simp [State.setPort, hp]
@[simp] theorem State.pumpPort_outside {ps : List StatePart} (hp : [.ring] ⊆ ps) (p : Nat) : (s.pumpPort p).outside ps = s.outside ps := by
  simp at hp; simp [State.pumpPort, hp]
@[simp] theorem State.pump_outside {ps : List StatePart} (hp : [.ring] ⊆ ps) : s.pump.outside ps = s.outside ps := by
  simp at hp; simp [State.pump, hp]
@[simp] theorem State.sendFrame_outside {ps : List StatePart} (hp : [.ring] ⊆ ps) (p : Nat) (f : TxFrame) :
    (s.sendFrame p f).outside ps = s.outside ps := by simp at hp; simp [State.sendFrame, hp]
@[simp] theorem State.sendDue_outside {ps : List StatePart} (hp : [.ring] ⊆ ps) (p ty addr epoch due : Nat) (pay : List Byte) :
    (s.sendDue p ty addr epoch due pay).outside ps = s.outside ps := by simp at hp; simp [State.sendDue, hp]
@[simp] theorem State.sendDown_outside {ps : List StatePart} (hp : [.ring] ⊆ ps) (p ty addr epoch : Nat) (pay : List Byte) :
    (s.sendDown p ty addr epoch pay).outside ps = s.outside ps := by simp at hp; simp [State.sendDown, hp]
@[simp] theorem State.tripOut_outside {ps : List StatePart} (hp : [.ring] ⊆ ps) (kind groups : Nat) :
    (s.tripOut kind groups).outside ps = s.outside ps := by simp at hp; simp [State.tripOut, hp]
@[simp] theorem State.tripTake_outside {ps : List StatePart} (hp : [.ring] ⊆ ps) (free : Nat → Nat) :
    (s.tripTake free).outside ps = s.outside ps := by simp at hp; simp [State.tripTake, hp]
@[simp] theorem State.dropScheds_outside {ps : List StatePart} (hp : [.ring] ⊆ ps) : s.dropScheds.outside ps = s.outside ps := by
  simp at hp; simp [State.dropScheds, hp]
@[simp] theorem State.setPair_outside {ps : List StatePart} (hp : [.edge] ⊆ ps) (x : Side) (n : Nat) (p : Pair) :
    (s.setPair x n p).outside ps = s.outside ps := by simp at hp; simp [State.setPair, hp]
@[simp] theorem State.pstat_outside {ps : List StatePart} (hp : [.regs] ⊆ ps) (n : Nat) (f : Field) (v : Nat) :
    (s.pstat n f v).outside ps = s.outside ps := by simp at hp; simp [State.pstat, hp]
@[simp] theorem State.holdPairs_outside {ps : List StatePart} (hp : [.regs, .edge] ⊆ ps) : s.holdPairs.outside ps = s.outside ps := by
  simp at hp; simp [State.holdPairs, hp]
@[simp] theorem State.showLatches_outside {ps : List StatePart} (hp : [.regs] ⊆ ps) : s.showLatches.outside ps = s.outside ps := by
  simp at hp; simp [State.showLatches, hp]
@[simp] theorem State.sendSet_outside {ps : List StatePart} (hp : [.qset, .ring] ⊆ ps) : s.sendSet.outside ps = s.outside ps := by
  simp at hp; simp [State.sendSet, hp]
@[simp] theorem State.recordFirst_outside {ps : List StatePart} (hp : [.regs, .ev, .qset, .recent] ⊆ ps) (was : Bool) (src : Nat) :
    (s.recordFirst was src).outside ps = s.outside ps := by simp at hp; simp [State.recordFirst, hp]
@[simp] theorem State.qsetKeep_outside {ps : List StatePart} (hp : [.regs, .edge, .qset, .ring] ⊆ ps) (src : Nat) :
    (s.qsetKeep src).outside ps = s.outside ps := by simp at hp; simp [State.qsetKeep, hp]
@[simp] theorem State.qsetTrip_outside {ps : List StatePart} (hp : [.regs, .ev, .ctx, .edge, .qset, .ring, .recent] ⊆ ps) (src : Nat) :
    (s.qsetTrip src).outside ps = s.outside ps := by simp at hp; simp [State.qsetTrip, hp]
@[simp] theorem State.qsetSource_outside {ps : List StatePart} (hp : [.regs, .ev, .ctx, .edge, .qset, .ring, .recent] ⊆ ps) (src : Nat)
    (active : Bool) : (s.qsetSource src active).outside ps = s.outside ps := by simp at hp; simp [State.qsetSource, hp]
@[simp] theorem State.qsetPulse_outside {ps : List StatePart} (hp : [.regs, .ev, .ctx, .edge, .qset, .ring, .recent] ⊆ ps) (src : Nat) :
    (s.qsetPulse src).outside ps = s.outside ps := by simp at hp; simp [State.qsetPulse, hp]
@[simp] theorem State.qsetClearOne_outside {ps : List StatePart} (hp : [.regs, .ev, .qset, .recent] ⊆ ps) (src : Nat) :
    (s.qsetClearOne src).outside ps = s.outside ps := by simp at hp; simp [State.qsetClearOne, hp]
@[simp] theorem State.sendClear_outside {ps : List StatePart} (hp : [.qset, .ring] ⊆ ps) (freed : Nat) :
    (s.sendClear freed).outside ps = s.outside ps := by simp at hp; simp [State.sendClear, hp]
@[simp] theorem State.qsetClear_outside {ps : List StatePart} (hp : [.regs, .ev, .edge, .qset, .ring, .recent] ⊆ ps) (srcs : List Nat) :
    (s.qsetClear srcs).outside ps = s.outside ps := by simp at hp; simp [State.qsetClear, hp]
@[simp] theorem State.qsetClearAll_outside {ps : List StatePart} (hp : [.regs, .ev, .edge, .qset, .ring, .recent] ⊆ ps) (srcs : List
    Nat) : (s.qsetClearAll srcs).outside ps = s.outside ps := by simp at hp; simp [State.qsetClearAll, hp]
@[simp] theorem State.qsetClrWrite_outside {ps : List StatePart} (hp : [.regs, .ev, .edge, .qset, .ring, .recent] ⊆ ps) (acc : Access)
    (k : Nat) (val : Word) : (s.qsetClrWrite acc k val).outside ps = s.outside ps := by simp at hp; simp [State.qsetClrWrite, hp]
@[simp] theorem State.qsetForceWrite_outside {ps : List StatePart} (hp : [.regs, .ev, .ctx, .edge, .qset, .ring, .recent] ⊆ ps) (acc :
    Access) (val : Word) : (s.qsetForceWrite acc val).outside ps = s.outside ps := by
  simp at hp
  exact s.command_outside (by simp [hp]) _ _ _ fun t => by simp [hp]
@[simp] theorem State.forceGroup_outside {ps : List StatePart} (hp : [.regs, .ev, .ctx, .edge, .qset, .ring, .recent] ⊆ ps) (g : Nat) :
    (s.forceGroup g).outside ps = s.outside ps := by simp at hp; simp [State.forceGroup, hp]
@[simp] theorem State.comparator_outside {ps : List StatePart} (hp : [.regs, .ev, .ctx, .edge, .qset, .ring, .recent] ⊆ ps) (ch : Nat)
    (code : Int) : (s.comparator ch code).outside ps = s.outside ps := by simp at hp; simp [State.comparator, hp]
@[simp] theorem State.setPorts_outside {ps : List StatePart} (hp : [.mem] ⊆ ps) (x : Side) (p : SramPorts) :
    (s.setPorts x p).outside ps = s.outside ps := by simp at hp; simp [State.setPorts, hp]
@[simp] theorem State.memStore_outside {ps : List StatePart} (hp : [.keep, .bytes] ⊆ ps) (x : Side) (es : List (Nat × Byte)) :
    (s.memStore x es).outside ps = s.outside ps := by
  simp at hp
  exact foldl_outside (fun t e => by dsimp only; split <;> simp [hp]) _ _
@[simp] theorem State.sramPeriod_outside {ps : List StatePart} (hp : [.regs, .keep, .mem, .bytes, .recent] ⊆ ps) (x : Side) (new : List
    MemReq) : (s.sramPeriod x new).outside ps = s.outside ps := by simp at hp; simp [State.sramPeriod, hp]
@[simp] theorem State.sramIdle_outside {ps : List StatePart} (hp : [.regs, .keep, .mem, .bytes, .recent] ⊆ ps) (n : Nat) (x : Side) :
    (State.sramIdle n s x).outside ps = s.outside ps := by
  simp at hp
  induction n generalizing s with
  | zero => rfl
  | succ n ih => simp [State.sramIdle, ih, hp]
@[simp] theorem State.dramAccess_outside {ps : List StatePart} (hp : [.keep, .mem, .bytes] ⊆ ps) (x : Side) (r : MemReq) :
    (s.dramAccess x r).outside ps = s.outside ps := by simp at hp; simp only [State.dramAccess]; (repeat' split) <;> simp [hp]
@[simp] theorem State.memTurn_outside {ps : List StatePart} (hp : [.regs, .keep, .mem, .bytes, .recent] ⊆ ps) (t : MemTurn) :
    (s.memTurn t).outside ps = s.outside ps := by simp at hp; simp [State.memTurn, hp]
@[simp] theorem State.memTurns_outside {ps : List StatePart} (hp : [.regs, .keep, .mem, .bytes, .recent] ⊆ ps) (ts : List MemTurn) :
    (s.memTurns ts).outside ps = s.outside ps := by simp at hp; simp [State.memTurns, hp]
@[simp] theorem State.memCopy_outside {ps : List StatePart} (hp : [.bytes] ⊆ ps) (y x : Side) (ctrlMb : Nat) :
    (s.memCopy y x ctrlMb).outside ps = s.outside ps := by simp at hp; simp [State.memCopy, hp]
@[simp] theorem State.memLost_outside {ps : List StatePart} (hp : [.mem, .bytes] ⊆ ps) (x : Side) :
    (s.memLost x).outside ps = s.outside ps := by simp at hp; simp [State.memLost, hp]
@[simp] theorem State.setEng_outside {ps : List StatePart} (hp : [.acq] ⊆ ps) (x : Side) (n : Nat) (e : AcqEng) :
    (s.setEng x n e).outside ps = s.outside ps := by simp at hp; simp [State.setEng, hp]
@[simp] theorem State.recordGone_outside {ps : List StatePart} (hp : [.pregs, .bytes] ⊆ ps) (x : Side) (n no : Nat) :
    (s.recordGone x n no).outside ps = s.outside ps := by simp at hp; simp [State.recordGone, hp]
@[simp] theorem State.makeRoom_outside {ps : List StatePart} (hp : [.pregs, .acq, .bytes] ⊆ ps) (x : Side) (n need : Nat) :
    (s.makeRoom x n need).outside ps = s.outside ps := by simp at hp; simp [State.makeRoom, hp]
@[simp] theorem State.postRecord_outside {ps : List StatePart} (hp : [.ev, .acq] ⊆ ps) (x : Side) (n : Nat) :
    (s.postRecord x n).outside ps = s.outside ps := by simp at hp; simp [State.postRecord, hp]
@[simp] theorem State.closeRecord_outside {ps : List StatePart} (hp : [.ev, .acq, .free] ⊆ ps) (x : Side) (n flags : Nat) (tail : Option
    AcqItem) : (s.closeRecord x n flags tail).outside ps = s.outside ps := by
  simp at hp; simp only [State.closeRecord]; split <;> simp [hp]
@[simp] theorem State.armEngine_outside {ps : List StatePart} (hp : [.acq] ⊆ ps) (x : Side) (n : Nat) (fresh : Bool) :
    (s.armEngine x n fresh).outside ps = s.outside ps := by simp at hp; simp [State.armEngine, hp]
@[simp] theorem State.finishRecord_outside {ps : List StatePart} (hp : [.ev, .acq, .free] ⊆ ps) (x : Side) (n flags : Nat) :
    (s.finishRecord x n flags).outside ps = s.outside ps := by simp at hp; simp [State.finishRecord, hp]
@[simp] theorem State.storeSample_outside {ps : List StatePart} (hp : [.pregs, .ev, .acq, .bytes, .free] ⊆ ps) (x : Side) (n : Nat) (r :
    AcqRec) (i : AcqItem) : (s.storeSample x n r i).outside ps = s.outside ps := by simp at hp; simp [State.storeSample, hp]
@[simp] theorem State.checkPost_outside {ps : List StatePart} (hp : [.ev, .acq, .free] ⊆ ps) (x : Side) (n : Nat) :
    (s.checkPost x n).outside ps = s.outside ps := by simp at hp; simp only [State.checkPost]; split <;> simp [hp]
@[simp] theorem State.takeSample_outside {ps : List StatePart} (hp : [.pregs, .ev, .acq, .bytes, .free] ⊆ ps) (x : Side) (n : Nat) (i :
    AcqItem) : (s.takeSample x n i).outside ps = s.outside ps := by simp at hp; simp only [State.takeSample]; split <;> simp [hp]
@[simp] theorem State.fireEngine_outside {ps : List StatePart} (hp : [.regs, .pregs, .ev, .acq, .bytes, .recent, .free] ⊆ ps) (x : Side)
    (n unit : Nat) (ts busTs : Count) (k : Nat) : (s.fireEngine x n unit ts busTs k).outside ps = s.outside ps := by
  simp at hp
  simp only [State.fireEngine]
  split
  · refine (foldl_outside (fun t i => ?_) _ _).trans (by simp [hp])
    split <;> simp [hp]
  · split <;> simp [hp]
@[simp] theorem State.addFire_outside {ps : List StatePart} (hp : [.acq] ⊆ ps) (x : Side) (n : Nat) (f : AcqFire) :
    (s.addFire x n f).outside ps = s.outside ps := by simp at hp; simp [State.addFire, hp]
@[simp] theorem State.chainFire_outside {ps : List StatePart} (hp : [.acq] ⊆ ps) (x : Side) (n : Nat) (ts mono : Count) :
    (s.chainFire x n ts mono).outside ps = s.outside ps := by
  simp at hp
  exact foldl_outside (fun t m => foldl_outside (fun u k => by dsimp only; split <;> simp [hp]) _ _) _ _
@[simp] theorem State.fireAt_outside {ps : List StatePart} (hp : [.regs, .pregs, .ev, .acq, .bytes, .recent, .free] ⊆ ps) (x : Side) (n
    unit : Nat) (ts busTs : Count) : (s.fireAt x n unit ts busTs).outside ps = s.outside ps := by simp at hp; simp [State.fireAt, hp]
@[simp] theorem State.acqBusFrame_outside {ps : List StatePart} (hp : [.acq] ⊆ ps) (ctrl : Nat) (ide : Bool) (id : Nat) (data old : List
    Byte) (hadOld : Bool) (sof : Count) : (s.acqBusFrame ctrl ide id data old hadOld sof).outside ps = s.outside ps := by
  simp at hp
  exact foldl_outside (fun t x => foldl_outside (fun u m => foldl_outside (fun v k => by dsimp only; split <;> simp [hp]) _ _) _ _) _ _
@[simp] theorem State.drainQueue_outside {ps : List StatePart} (hp : [.pregs, .queues, .ev, .acq, .bytes, .free] ⊆ ps) (k : Nat) (x :
    Side) (n : Nat) : (State.drainQueue k x n s).outside ps = s.outside ps := by
  simp at hp
  induction k generalizing s with
  | zero => rfl
  | succ k ih =>
    have hq := s.queueTake_outside (ps := ps) (by simp [hp]) x (109 + n)
    rw [State.drainQueue]
    split <;> rename_i h <;> rw [h] at hq
    · exact (ih _).trans (by simp [hp, hq])
    · exact hq
@[simp] theorem State.sampleSide_outside {ps : List StatePart} (hp : [.regs, .pregs, .queues, .ev, .acq, .bytes, .recent, .free] ⊆ ps)
    (x : Side) (n : Nat) (digital : List Nat) (edges : List (Nat × Bool × Count)) (taken : Nat) :
    (s.sampleSide x n digital edges taken).outside ps = s.outside ps := by
  simp at hp; simp only [State.sampleSide]; (repeat' split) <;> simp [hp]
@[simp] theorem State.stopEngine_outside {ps : List StatePart} (hp : [.pregs, .queues, .ev, .acq, .bytes, .free] ⊆ ps) (x : Side) (n :
    Nat) : (s.stopEngine x n).outside ps = s.outside ps := by simp at hp; simp [State.stopEngine, hp]
@[simp] theorem State.acqOrder_outside {ps : List StatePart} (hp : [.acq] ⊆ ps) (n bits : Nat) :
    (s.acqOrder n bits).outside ps = s.outside ps := by simp at hp; simp [State.acqOrder, hp]
@[simp] theorem State.acqCtrlWrite_outside {ps : List StatePart} (hp : [.regs, .ev, .acq, .recent] ⊆ ps) (acc : Access) (n : Nat) (val :
    Word) : (s.acqCtrlWrite acc n val).outside ps = s.outside ps := by simp at hp; simp [State.acqCtrlWrite, hp]
@[simp] theorem State.acqCmdAllWrite_outside {ps : List StatePart} (hp : [.regs, .ev, .acq, .recent] ⊆ ps) (acc : Access) (val : Word) :
    (s.acqCmdAllWrite acc val).outside ps = s.outside ps := by
  simp at hp
  exact s.command_outside (by simp [hp]) _ _ _ fun t => by simp [hp]
@[simp] theorem State.acqCmdWrite_outside {ps : List StatePart} (hp : [.regs, .ev, .acq, .recent] ⊆ ps) (acc : Access) (addr : Nat) (val
    : Word) : (s.acqCmdWrite acc addr val).outside ps = s.outside ps := by simp at hp; simp [State.acqCmdWrite, hp]
@[simp] theorem State.acqRefuse_outside {ps : List StatePart} (hp : [.ev] ⊆ ps) (x : Side) (n : Nat) :
    (s.acqRefuse x n).outside ps = s.outside ps := by simp at hp; simp [State.acqRefuse, hp]
@[simp] theorem State.acqApply_outside {ps : List StatePart} (hp : [.regs, .pregs, .queues, .ev, .acq, .bytes, .recent, .free] ⊆ ps) (x
    : Side) (n bits : Nat) : (s.acqApply x n bits).outside ps = s.outside ps := by simp at hp; simp [State.acqApply, hp]
@[simp] theorem State.acqBoundary_outside {ps : List StatePart} (hp : [.regs, .pregs, .queues, .ev, .acq, .bytes, .recent, .free] ⊆ ps)
    : s.acqBoundary.outside ps = s.outside ps := by
  simp at hp
  have h1 : (s.acq.due.foldl (fun st d => st.engSides.foldl (fun st x => st.acqApply x d.1 d.2) st) s).outside ps = s.outside ps :=
    foldl_outside (fun t d => foldl_outside (fun u x => by simp [hp]) _ _) _ _
  simp only [State.acqBoundary]
  refine (State.outside_update (by simp [hp])).trans ((foldl_outside (fun t x => by simp [hp]) _ _).trans h1)
@[simp] theorem State.timeFire_outside {ps : List StatePart} (hp : [.acq] ⊆ ps) (x : Side) (n : Nat) :
    (s.timeFire x n).outside ps = s.outside ps := by simp at hp; simp [State.timeFire, hp]
@[simp] theorem State.acqRdSelect_outside {ps : List StatePart} (hp : [.pregs, .acq, .bytes] ⊆ ps) (p : Path) (val : Word) :
    (s.acqRdSelect p val).outside ps = s.outside ps := by simp at hp; simp [State.acqRdSelect, hp]
@[simp] theorem State.acqRdSelWrite_outside {ps : List StatePart} (hp : [.regs, .pregs, .tm, .ev, .img, .ctx, .acq, .bytes, .recent] ⊆
    ps) (acc : Access) (val : Word) : (s.acqRdSelWrite acc val).outside ps = s.outside ps := by simp at hp; simp [State.acqRdSelWrite, hp]
@[simp] theorem State.fillWindow_outside {ps : List StatePart} (hp : [.bytes] ⊆ ps) (p : Path) (bs : List Byte) :
    (s.fillWindow p bs).outside ps = s.outside ps := by simp at hp; simp [State.fillWindow, hp]
@[simp] theorem State.acqClrWrite_outside {ps : List StatePart} (hp : [.regs, .ev, .recent] ⊆ ps) (acc : Access) (val : Word) :
    (s.acqClrWrite acc val).outside ps = s.outside ps := by
  simp at hp
  exact s.command_outside (by simp [hp]) _ _ _ fun t => by split <;> simp [hp]
@[simp] theorem State.acqEmpty_outside {ps : List StatePart} (hp : [.queues, .acq] ⊆ ps) (x : Side) :
    (s.acqEmpty x).outside ps = s.outside ps := by simp at hp; simp [State.acqEmpty, hp]
@[simp] theorem State.acqFollow_outside {ps : List StatePart} (hp : [.queues, .acq] ⊆ ps) (x : Side) :
    (s.acqFollow x).outside ps = s.outside ps := by simp at hp; simp [State.acqFollow, hp]
@[simp] theorem State.acqStopAll_outside {ps : List StatePart} (hp : [.pregs, .queues, .ev, .acq, .bytes, .free] ⊆ ps) :
    s.acqStopAll.outside ps = s.outside ps := by simp at hp; simp [State.acqStopAll, hp]
@[simp] theorem State.acqMark_outside {ps : List StatePart} (hp : [.acq] ⊆ ps) (f : Nat) : (s.acqMark f).outside ps = s.outside ps := by
  simp at hp; simp [State.acqMark, hp]
@[simp] theorem State.setTile_outside {ps : List StatePart} (hp : [.loop] ⊆ ps) (x : Side) (n : Nat) (t : Tile) :
    (s.setTile x n t).outside ps = s.outside ps := by simp at hp; simp [State.setTile, hp]
@[simp] theorem State.tileOp_outside {ps : List StatePart} (hp : [.loop, .free] ⊆ ps) (x : Side) (n : Nat) (f : State → Tile → Tile) :
    (s.tileOp x n f).outside ps = s.outside ps := by simp at hp; simp [State.tileOp, hp]
@[simp] theorem State.residueFault_outside {ps : List StatePart} (hp : [.regs] ⊆ ps) (x : Side) (n : Nat) :
    (s.residueFault x n).outside ps = s.outside ps := by simp at hp; simp [State.residueFault, hp]
@[simp] theorem State.wordOp_outside {ps : List StatePart} (hp : [.loop, .free] ⊆ ps) (x : Side) (n : Nat) (a b : Opnd) (dst : Nat) (f :
    Int → Int → Int) : (s.wordOp x n a b dst f).outside ps = s.outside ps := by simp at hp; simp [State.wordOp, hp]
@[simp] theorem State.retire_outside {ps : List StatePart} (hp : [.queues, .free] ⊆ ps) (x : Side) (q src : Nat) :
    (s.retire x q src).outside ps = s.outside ps := by simp at hp; simp [State.retire, hp]
@[simp] theorem State.loopPost_outside {ps : List StatePart} (hp : [.queues, .ev] ⊆ ps) (loop1 ch : Nat) (w : Word) :
    (s.loopPost loop1 ch w).outside ps = s.outside ps := by simp at hp; simp [State.loopPost, hp]
@[simp] theorem State.waitMiss_outside {ps : List StatePart} (hp : [.regs, .ev, .loop, .recent, .free] ⊆ ps) (x : Side) (n c dst : Nat)
    : (s.waitMiss x n c dst).outside ps = s.outside ps := by simp at hp; simp [State.waitMiss, hp]
@[simp] theorem State.offerFast_outside {ps : List StatePart} (hp : [.queues, .ev] ⊆ ps) (ch : Nat) (v : Int) (ts : Count) :
    (s.offerFast ch v ts).outside ps = s.outside ps := by simp at hp; simp [State.offerFast, hp]
@[simp] theorem State.deliverFast_outside {ps : List StatePart} (hp : [.queues, .ev, .loop, .free] ⊆ ps) (ch : Nat) (code : Int) :
    (s.deliverFast ch code).outside ps = s.outside ps := by simp at hp; simp [State.deliverFast, hp]
@[simp] theorem State.tileEnd_outside {ps : List StatePart} (hp : [.regs, .ev, .ctx, .loop, .recent, .free] ⊆ ps) (x : Side) (n : Nat) :
    (s.tileEnd x n).outside ps = s.outside ps := by simp at hp; simp [State.tileEnd, hp]
@[simp] theorem State.tileEnds_outside {ps : List StatePart} (hp : [.regs, .ev, .recent] ⊆ ps) (x : Side) (n : Nat) :
    (s.tileEnds x n).outside ps = s.outside ps := by simp at hp; simp [State.tileEnds, hp]
@[simp] theorem State.tileStarts_outside {ps : List StatePart} (hp : [.loop] ⊆ ps) (x : Side) (n : Nat) :
    (s.tileStarts x n).outside ps = s.outside ps := by simp at hp; simp [State.tileStarts, hp]
@[simp] theorem State.tilesBoundary_outside {ps : List StatePart} (hp : [.regs, .ev, .loop, .recent] ⊆ ps) :
    s.tilesBoundary.outside ps = s.outside ps := by simp at hp; simp [State.tilesBoundary, hp]
@[simp] theorem State.tilesCopy_outside {ps : List StatePart} (hp : [.loop] ⊆ ps) (x y : Side) :
    (s.tilesCopy x y).outside ps = s.outside ps := by simp at hp; simp [State.tilesCopy, hp]
@[simp] theorem State.exchangeCopy_outside {ps : List StatePart} (hp : [.loop] ⊆ ps) (x y : Side) :
    (s.exchangeCopy x y).outside ps = s.outside ps := by simp at hp; simp [State.exchangeCopy, hp]
@[simp] theorem State.loopPresetWrite_outside {ps : List StatePart} (hp : [.regs, .ev, .loop, .recent] ⊆ ps) (acc : Access) (n : Nat)
    (val : Word) : (s.loopPresetWrite acc n val).outside ps = s.outside ps := by
  simp at hp
  exact s.command_outside (by simp [hp]) _ _ _ fun t => by simp [hp]
@[simp] theorem State.loopClrWrite_outside {ps : List StatePart} (hp : [.regs, .ev, .recent] ⊆ ps) (acc : Access) (val : Word) :
    (s.loopClrWrite acc val).outside ps = s.outside ps := by
  simp at hp
  exact s.command_outside (by simp [hp]) _ _ _ fun t => by
    dsimp only
    split
    · exact foldl_outside (fun u n => by simp [hp]) _ _
    · rfl
@[simp] theorem State.shortPulse_outside {ps : List StatePart} (hp : [.regs, .ev, .recent] ⊆ ps) (x : Side) (n : Nat) (dropped : Bool) :
    (s.shortPulse x n dropped).outside ps = s.outside ps := by simp at hp; simp [State.shortPulse, hp]
@[simp] theorem State.takePlan_outside {ps : List StatePart} (hp : [.regs, .ev, .edge, .recent] ⊆ ps) (x : Side) (n : Nat) (pl : Plan) :
    (s.takePlan x n pl).outside ps = s.outside ps := by simp at hp; simp [State.takePlan, hp]
@[simp] theorem State.governs_outside {ps : List StatePart} (hp : [.regs, .ev, .edge, .recent] ⊆ ps) (x : Side) (n base per half : Nat)
    : (s.governs x n base per half).outside ps = s.outside ps := by simp at hp; simp [State.governs, hp]
@[simp] theorem State.bothOn_outside {ps : List StatePart} (hp : [.regs, .ev, .edge, .recent] ⊆ ps) (x : Side) (n base per : Nat) :
    (s.bothOn x n base per).outside ps = s.outside ps := by simp at hp; simp [State.bothOn, hp]
@[simp] theorem State.bothOff_outside {ps : List StatePart} (hp : [.regs, .ev, .edge, .recent] ⊆ ps) (x : Side) (n base per : Nat) :
    (s.bothOff x n base per).outside ps = s.outside ps := by simp at hp; simp [State.bothOff, hp]
@[simp] theorem State.dropPost_outside {ps : List StatePart} (hp : [.queues, .free] ⊆ ps) (x : Side) (n : Nat) (e : QEntry) :
    (s.dropPost x n e).outside ps = s.outside ps := by simp at hp; simp [State.dropPost, hp]
@[simp] theorem State.takePost_outside {ps : List StatePart} (hp : [.regs, .queues, .ev, .loop, .recent, .free] ⊆ ps) (x : Side) (ch :
    Nat) : ((s.takePost x ch).2).outside ps = s.outside ps := by simp at hp; simp only [State.takePost]; (repeat' split) <;> simp [hp]
@[simp] theorem State.produce_outside {ps : List StatePart} (hp : [.keep] ⊆ ps) (x : Side) (items : List (Nat × Int)) :
    (s.produce x items).outside ps = s.outside ps := by simp at hp; simp [State.produce, hp]
@[simp] theorem State.placeRest_outside {ps : List StatePart} (hp : [.keep, .edge] ⊆ ps) (x : Side) (n : Nat) :
    (s.placeRest x n).outside ps = s.outside ps := by simp at hp; simp [State.placeRest, hp]
@[simp] theorem State.trimsAtStart_outside {ps : List StatePart} (hp : [.regs] ⊆ ps) (x : Side) (n : Nat) :
    (s.trimsAtStart x n).outside ps = s.outside ps := by simp at hp; simp [State.trimsAtStart, hp]
@[simp] theorem State.startCarrier_outside {ps : List StatePart} (hp : [.edge] ⊆ ps) (x : Side) (n : Nat) :
    (s.startCarrier x n).outside ps = s.outside ps := by simp at hp; simp [State.startCarrier, hp]
@[simp] theorem State.legsBoundary_outside {ps : List StatePart} (hp : [.edge] ⊆ ps) (shift : Int) :
    (s.legsBoundary shift).outside ps = s.outside ps := by simp at hp; simp [State.legsBoundary, hp]
@[simp] theorem State.edgeBoundary_outside {ps : List StatePart} (hp : [.edge] ⊆ ps) (shift : Int) :
    (s.edgeBoundary shift).outside ps = s.outside ps := by simp at hp; simp [State.edgeBoundary, hp]
@[simp] theorem State.edgeFlip_outside {ps : List StatePart} (hp : [.edge] ⊆ ps) (addrs : List Nat) :
    (s.edgeFlip addrs).outside ps = s.outside ps := by
  simp at hp
  exact foldl_outside (fun t n => by split <;> simp [hp]) _ _
@[simp] theorem State.edgeCopy_outside {ps : List StatePart} (hp : [.regs, .edge] ⊆ ps) (x y : Side) :
    (s.edgeCopy x y).outside ps = s.outside ps := by simp at hp; simp [State.edgeCopy, hp]
@[simp] theorem State.swnSide_outside {ps : List StatePart} (hp : [.regs, .edge] ⊆ ps) (x : Side) (n : Nat) (fall : Bool) (meas : Nat) :
    (s.swnSide x n fall meas).outside ps = s.outside ps := by simp at hp; simp [State.swnSide, hp]
@[simp] theorem State.swnMissSide_outside {ps : List StatePart} (hp : [.regs, .edge] ⊆ ps) (x : Side) (n : Nat) (fall : Bool) :
    (s.swnMissSide x n fall).outside ps = s.outside ps := by simp at hp; simp [State.swnMissSide, hp]
@[simp] theorem State.bothSides_outside {ps : List StatePart} {f : State → Side → State} (hf : ∀ t x, (f t x).outside ps = t.outside ps)
    : (s.bothSides f).outside ps = s.outside ps := by simp [State.bothSides, hf]
@[simp] theorem State.setPad_outside {ps : List StatePart} (hp : [.edge] ⊆ ps) (k : Nat) (p : Pad) :
    (s.setPad k p).outside ps = s.outside ps := by simp at hp; simp [State.setPad, hp]
@[simp] theorem State.showPads_outside {ps : List StatePart} (hp : [.regs] ⊆ ps) (n : Nat) : (s.showPads n).outside ps = s.outside ps := by
  simp at hp; simp [State.showPads, hp]
@[simp] theorem State.mergePair_outside {ps : List StatePart} (hp : [.edge] ⊆ ps) (old new : Side) (till n : Nat) :
    (s.mergePair old new till n).outside ps = s.outside ps := by simp at hp; simp [State.mergePair, hp]
@[simp] theorem State.mergeMove_outside {ps : List StatePart} (hp : [.edge, .free] ⊆ ps) (old new : Side) :
    (s.mergeMove old new).outside ps = s.outside ps := by simp at hp; simp [State.mergeMove, hp]
@[simp] theorem State.edgeClrWrite_outside {ps : List StatePart} (hp : [.regs, .ev, .recent] ⊆ ps) (acc : Access) (val : Word) :
    (s.edgeClrWrite acc val).outside ps = s.outside ps := by
  simp at hp
  exact s.command_outside (by simp [hp]) _ _ _ fun t => by split <;> simp [hp]
@[simp] theorem State.setEp_outside {ps : List StatePart} (hp : [.ring] ⊆ ps) (e : Nat) (v : Endpoint) :
    (s.setEp e v).outside ps = s.outside ps := by simp at hp; simp [State.setEp, hp]
@[simp] theorem State.portReturn_outside {ps : List StatePart} (hp : [.ring] ⊆ ps) (p : Nat) (f : List Byte) :
    (s.portReturn p f).outside ps = s.outside ps := by simp at hp; unfold State.portReturn; split <;> simp [hp]
@[simp] theorem State.epPass_outside {ps : List StatePart} (hp : [.ring] ⊆ ps) (e : Nat) (viaD : Bool) (f : List Byte) :
    (s.epPass e viaD f).outside ps = s.outside ps := by simp at hp; simp [State.epPass, hp]
@[simp] theorem State.hearFrame_outside {ps : List StatePart} (hp : [.ring] ⊆ ps) (e : Nat) (viaD : Bool) (f : List Byte) :
    (s.hearFrame e viaD f).outside ps = s.outside ps := by simp at hp; simp [State.hearFrame, hp]
@[simp] theorem State.noteFrame_outside {ps : List StatePart} (hp : [.ring] ⊆ ps) (e : Nat) (f : List Byte) :
    (s.noteFrame e f).outside ps = s.outside ps := by simp at hp; simp [State.noteFrame, hp]
@[simp] theorem State.epFrame_outside {ps : List StatePart} (hp : [.ring] ⊆ ps) (e : Nat) (viaD : Bool) (ty : Nat) (f : List Byte)
    {act : State → Endpoint → State} (hact : ∀ t v, (act t v).outside ps = t.outside ps) :
    (s.epFrame e viaD ty f act).outside ps = s.outside ps := by simp at hp; simp [State.epFrame, hact, hp]
@[simp] theorem State.showRings_outside {ps : List StatePart} (hp : [.regs] ⊆ ps) : s.showRings.outside ps = s.outside ps := by
  simp at hp; simp [State.showRings, hp]
@[simp] theorem State.portBreak_outside {ps : List StatePart} (hp : [.regs, .ev] ⊆ ps) (p : Nat) :
    (s.portBreak p).outside ps = s.outside ps := by simp at hp; simp [State.portBreak, hp]
@[simp] theorem State.ringBreak_outside {ps : List StatePart} (hp : [.regs, .ev] ⊆ ps) (p e : Nat) (d : Bool) :
    (s.ringBreak p e d).outside ps = s.outside ps := by simp at hp; simp [State.ringBreak, hp]
@[simp] theorem State.delayDue_outside {ps : List StatePart} (hp : [.ring] ⊆ ps) (p : Nat) : (s.delayDue p).outside ps = s.outside ps := by
  simp at hp; simp [State.delayDue, hp]
@[simp] theorem State.legSlot_outside {ps : List StatePart} (hp : [.edge] ⊆ ps) (x : Side) (ch : Nat) :
    (s.legSlot x ch).outside ps = s.outside ps := by simp at hp; simp [State.legSlot, hp]
@[simp] theorem State.queueSched_outside {ps : List StatePart} (hp : [.ring] ⊆ ps) (p e ep due : Nat) (entries : List (List Byte)) :
    (s.queueSched p e ep due entries).outside ps = s.outside ps := by simp at hp; simp only [State.queueSched]; split <;> simp [hp]
@[simp] theorem State.legSkip_outside {ps : List StatePart} (hp : [.edge] ⊆ ps) (x : Side) (ch lead : Nat) :
    (s.legSkip x ch lead).outside ps = s.outside ps := by simp at hp; simp [State.legSkip, hp]
@[simp] theorem State.formEntry_outside {ps : List StatePart} (hp : [.regs, .ev, .edge, .recent] ⊆ ps) (x : Side) (ch : Nat) :
    ((s.formEntry x ch).2).outside ps = s.outside ps := by simp at hp; simp [State.formEntry, hp]
@[simp] theorem State.schedRefresh_outside {ps : List StatePart} (hp : [.ring] ⊆ ps) : s.schedRefresh.outside ps = s.outside ps := by
  simp at hp
  simp only [State.schedRefresh]
  split
  · simp [hp]
  · exact (foldl_outside (fun t e => (foldl_outside (fun u p => by simp [hp]) _ _).trans (by simp [hp])) _ _).trans (by simp [hp])
@[simp] theorem State.takeLoop_outside {ps : List StatePart} (hp : [.regs, .ring] ⊆ ps) (p lg : Nat) :
    (s.takeLoop p lg).outside ps = s.outside ps := by simp at hp; simp [State.takeLoop, hp]
@[simp] theorem State.portFrame_outside {ps : List StatePart} (hp : [.regs, .recent] ⊆ ps) (p ty : Nat) (f : List Byte) {act : State → State} (hact : ∀ t, (act t).outside ps = t.outside ps) : (s.portFrame p ty f act).outside ps = s.outside ps := by
  simp at hp; simp [State.portFrame, hact, hp]
@[simp] theorem State.sendConfigs_outside {ps : List StatePart} (hp : [.ring] ⊆ ps) (p : Nat) :
    (s.sendConfigs p).outside ps = s.outside ps := by simp at hp; simp [State.sendConfigs, hp]
@[simp] theorem State.ringFault_outside {ps : List StatePart} (hp : [.regs] ⊆ ps) (p : Nat) : (s.ringFault p).outside ps = s.outside ps := by
  simp at hp; simp [State.ringFault, hp]
@[simp] theorem State.bringUp_outside {ps : List StatePart} (hp : [.regs, .ring] ⊆ ps) (p : Nat) : (s.bringUp p).outside ps = s.outside ps := by
  simp at hp; simp [State.bringUp, hp]
@[simp] theorem State.ringCountFault_outside {ps : List StatePart} (hp : [.regs, .ev] ⊆ ps) (p : Nat) :
    (s.ringCountFault p).outside ps = s.outside ps := by simp at hp; simp [State.ringCountFault, hp]
@[simp] theorem State.epMeas_outside {ps : List StatePart} (hp : [.ring, .free] ⊆ ps) (e : Nat) : (s.epMeas e).outside ps = s.outside ps := by
  simp at hp; simp [State.epMeas, hp]
@[simp] theorem State.epsEnd_outside {ps : List StatePart} (hp : [.ring, .free] ⊆ ps) : s.epsEnd.outside ps = s.outside ps := by
  simp at hp; simp [State.epsEnd, hp]
@[simp] theorem State.ringSync_outside {ps : List StatePart} (hp : [.regs, .ev, .ring, .free] ⊆ ps) : s.ringSync.outside ps = s.outside ps := by
  simp at hp; simp [State.ringSync, hp]
@[simp] theorem State.measMissed_outside {ps : List StatePart} (hp : [.regs, .ev, .recent] ⊆ ps) : s.measMissed.outside ps = s.outside ps := by
  simp at hp; simp [State.measMissed, hp]
@[simp] theorem State.cutFrame_outside {ps : List StatePart} (hp : [.ring] ⊆ ps) (p : Nat) : (s.cutFrame p).outside ps = s.outside ps := by
  simp at hp; simp [State.cutFrame, hp]
@[simp] theorem State.sendTakeover_outside {ps : List StatePart} (hp : [.ring] ⊆ ps) (cut inc revert : Nat) :
    (s.sendTakeover cut inc revert).outside ps = s.outside ps := by simp at hp; simp [State.sendTakeover, hp]
@[simp] theorem State.sendResume_outside {ps : List StatePart} (hp : [.ring] ⊆ ps) (e : Nat) : (s.sendResume e).outside ps = s.outside ps := by
  simp at hp; simp [State.sendResume, hp]
@[simp] theorem State.ringCmdWrite_outside {ps : List StatePart} (hp : [.regs, .ev, .ring, .recent] ⊆ ps) (acc : Access) (val : Word) :
    (s.ringCmdWrite acc val).outside ps = s.outside ps := by
  simp at hp
  exact s.command_outside (by simp [hp]) _ _ _ fun t => by
    dsimp only
    split_ifs
    all_goals simp [hp]
@[simp] theorem State.ringClrWrite_outside {ps : List StatePart} (hp : [.regs, .ev, .recent] ⊆ ps) (acc : Access) (val : Word) :
    (s.ringClrWrite acc val).outside ps = s.outside ps := by
  simp at hp
  exact s.command_outside (by simp [hp]) _ _ _ fun t => by
    split
    · exact (foldl_outside (fun u e => by simp [hp]) _ _).trans (foldl_outside (fun u p => by simp [hp]) _ _)
    · rfl
@[simp] theorem State.setCell_outside {ps : List StatePart} (hp : [.sst] ⊆ ps) (c : Nat) (v : Cell) :
    (s.setCell c v).outside ps = s.outside ps := by simp at hp; simp [State.setCell, hp]
@[simp] theorem State.setCellState_outside {ps : List StatePart} (hp : [.regs] ⊆ ps) (c v : Nat) :
    (s.setCellState c v).outside ps = s.outside ps := by simp at hp; simp [State.setCellState, hp]
@[simp] theorem State.showLegs_outside {ps : List StatePart} (hp : [.ring] ⊆ ps) : s.showLegs.outside ps = s.outside ps := by
  simp at hp; simp [State.showLegs, hp]
@[simp] theorem State.showCells_outside {ps : List StatePart} (hp : [.regs, .ring] ⊆ ps) : s.showCells.outside ps = s.outside ps := by
  simp at hp; simp [State.showCells, hp]
@[simp] theorem State.replanDue_outside {ps : List StatePart} (hp : [.sst] ⊆ ps) (p : Nat) : (s.replanDue p).outside ps = s.outside ps := by
  simp at hp; simp [State.replanDue, hp]
@[simp] theorem State.failCell_outside {ps : List StatePart} (hp : [.regs, .ev, .ctx, .sst, .recent] ⊆ ps) (c : Nat) :
    (s.failCell c).outside ps = s.outside ps := by simp at hp; simp [State.failCell, hp]
@[simp] theorem State.bypassCell_outside {ps : List StatePart} (hp : [.regs, .ev, .sst, .recent] ⊆ ps) (c : Nat) (soft : Bool) :
    (s.bypassCell c soft).outside ps = s.outside ps := by simp at hp; simp [State.bypassCell, hp]
@[simp] theorem State.enterLadder_outside {ps : List StatePart} (hp : [.regs, .sst] ⊆ ps) (v : Nat) :
    (s.enterLadder v).outside ps = s.outside ps := by simp at hp; simp [State.enterLadder, hp]
@[simp] theorem State.nextStep_outside {ps : List StatePart} (hp : [.sst] ⊆ ps) (v : Nat) : (s.nextStep v).outside ps = s.outside ps := by
  simp at hp; simp [State.nextStep, hp]
@[simp] theorem State.setMod_outside {ps : List StatePart} (hp : [.regs] ⊆ ps) (b : Bool) : (s.setMod b).outside ps = s.outside ps := by
  simp at hp; simp [State.setMod, hp]
@[simp] theorem State.openBreakers_outside {ps : List StatePart} (hp : [.sst] ⊆ ps) : s.openBreakers.outside ps = s.outside ps := by
  simp at hp; simp [State.openBreakers, hp]
@[simp] theorem State.sstStop_outside {ps : List StatePart} (hp : [.regs, .sst, .recent] ⊆ ps) (reason : Nat) (lock : Bool) :
    (s.sstStop reason lock).outside ps = s.outside ps := by simp at hp; simp [State.sstStop, hp]
@[simp] theorem State.checkCell_outside {ps : List StatePart} (hp : [.regs] ⊆ ps) (c : Nat) : (s.checkCell c).outside ps = s.outside ps := by
  simp at hp; simp [State.checkCell, hp]
@[simp] theorem State.restoreFails_outside {ps : List StatePart} (hp : [.regs, .ev] ⊆ ps) (c : Nat) :
    (s.restoreFails c).outside ps = s.outside ps := by simp at hp; simp [State.restoreFails, hp]
@[simp] theorem State.preSample_outside {ps : List StatePart} (hp : [.sst] ⊆ ps) : s.preSample.outside ps = s.outside ps := by
  simp at hp; simp [State.preSample, hp]
@[simp] theorem State.startCharge_outside {ps : List StatePart} (hp : [.regs, .sst] ⊆ ps) : s.startCharge.outside ps = s.outside ps := by
  simp at hp; simp [State.startCharge, hp]
@[simp] theorem State.sstRestart_outside {ps : List StatePart} (hp : [.regs, .ev, .sst] ⊆ ps) : s.sstRestart.outside ps = s.outside ps := by
  simp at hp; simp [State.sstRestart, hp]
@[simp] theorem State.sstStopped_outside {ps : List StatePart} (hp : [.regs, .ev, .ctx, .sst, .recent] ⊆ ps) :
    s.sstStopped.outside ps = s.outside ps := by simp at hp; simp [State.sstStopped, hp]
@[simp] theorem State.stopSteps_outside {ps : List StatePart} (hp : [.regs, .ev, .ctx, .sst, .recent] ⊆ ps) (k : Nat) :
    (State.stopSteps k s).outside ps = s.outside ps := by
  simp at hp
  induction k generalizing s with
  | zero => rfl
  | succ k ih => simp [State.stopSteps, ih, hp]
@[simp] theorem State.sstBlock_outside {ps : List StatePart} (hp : [.regs, .sst, .recent] ⊆ ps) : s.sstBlock.outside ps = s.outside ps := by
  simp at hp; simp [State.sstBlock, hp]
@[simp] theorem State.ladderStops_outside {ps : List StatePart} (hp : [.regs, .sst, .recent] ⊆ ps) :
    s.ladderStops.outside ps = s.outside ps := by simp at hp; simp [State.ladderStops, hp]
@[simp] theorem State.ladderStep_outside {ps : List StatePart} (hp : [.regs, .ev, .ctx, .sst, .recent] ⊆ ps) :
    s.ladderStep.outside ps = s.outside ps := by simp at hp; unfold State.ladderStep; split <;> simp [hp]
@[simp] theorem State.ladderAdvance_outside {ps : List StatePart} (hp : [.regs, .ev, .ctx, .ring, .sst, .recent] ⊆ ps) :
    s.ladderAdvance.outside ps = s.outside ps := by simp at hp; simp [State.ladderAdvance, hp]
@[simp] theorem State.sstEnergise_outside {ps : List StatePart} (hp : [.regs, .ev, .ctx, .ring, .sst, .recent] ⊆ ps) :
    s.sstEnergise.outside ps = s.outside ps := by simp at hp; simp [State.sstEnergise, hp]
@[simp] theorem State.sstDeenergise_outside {ps : List StatePart} (hp : [.regs, .ev, .ctx, .ring, .sst, .recent] ⊆ ps) :
    s.sstDeenergise.outside ps = s.outside ps := by simp at hp; simp [State.sstDeenergise, hp]
@[simp] theorem State.sstRunWrite_outside {ps : List StatePart} (hp : [.regs, .ev, .ctx, .ring, .sst, .recent] ⊆ ps) (acc : Access) (val
    : Word) : (s.sstRunWrite acc val).outside ps = s.outside ps := by simp at hp; simp [State.sstRunWrite, hp]
@[simp] theorem State.sstCellWrite_outside {ps : List StatePart} (hp : [.regs, .ev, .ring, .sst, .recent] ⊆ ps) (acc : Access) (c : Nat)
    (val : Word) : (s.sstCellWrite acc c val).outside ps = s.outside ps := by simp at hp; simp [State.sstCellWrite, hp]
@[simp] theorem State.setLegPhase_outside {ps : List StatePart} (hp : [.edge] ⊆ ps) (ch ph : Nat) :
    (s.setLegPhase ch ph).outside ps = s.outside ps := by simp at hp; simp [State.setLegPhase, hp]
@[simp] theorem State.planPhase_outside {ps : List StatePart} (hp : [.regs, .keep, .edge, .sst] ⊆ ps) (p : Nat) :
    (s.planPhase p).outside ps = s.outside ps := by simp at hp; simp [State.planPhase, hp]
@[simp] theorem State.planDab_outside {ps : List StatePart} (hp : [.regs, .keep, .sst] ⊆ ps) : s.planDab.outside ps = s.outside ps := by
  simp at hp; simp [State.planDab, hp]
@[simp] theorem State.sstLock_outside {ps : List StatePart} (hp : [.regs, .ev, .sst] ⊆ ps) (g : SstIn) :
    (s.sstLock g).outside ps = s.outside ps := by simp at hp; simp [State.sstLock, hp]
@[simp] theorem State.rtLog_outside {ps : List StatePart} (hp : [.regs] ⊆ ps) (kind outcome : Nat) (since : Count) (u : Nat) :
    (s.rtLog kind outcome since u).outside ps = s.outside ps := by simp at hp; simp [State.rtLog, hp]
@[simp] theorem State.rtEnter_outside {ps : List StatePart} (hp : [.regs] ⊆ ps) (v : Nat) : (s.rtEnter v).outside ps = s.outside ps := by
  simp at hp; simp [State.rtEnter, hp]
@[simp] theorem State.rtOut_outside {ps : List StatePart} (hp : [.regs, .ev] ⊆ ps) : s.rtOut.outside ps = s.outside ps := by
  simp at hp; simp [State.rtOut, hp]
@[simp] theorem State.rtFreeze_outside {ps : List StatePart} (hp : [.sst] ⊆ ps) : s.rtFreeze.outside ps = s.outside ps := by
  simp at hp; simp [State.rtFreeze, hp]
@[simp] theorem State.rtBegin_outside {ps : List StatePart} (hp : [.regs, .ev, .sst, .recent] ⊆ ps) (v : Nat) (g : SstIn) :
    (s.rtBegin v g).outside ps = s.outside ps := by simp at hp; simp [State.rtBegin, hp]
@[simp] theorem State.rtRecover_outside {ps : List StatePart} (hp : [.regs, .sst] ⊆ ps) (kind : Nat) (g : SstIn) :
    (s.rtRecover kind g).outside ps = s.outside ps := by simp at hp; simp [State.rtRecover, hp]
@[simp] theorem State.freqTrack_outside {ps : List StatePart} (hp : [.sst] ⊆ ps) (g : SstIn) : (s.freqTrack g).outside ps = s.outside ps := by
  simp at hp; simp [State.freqTrack, hp]
@[simp] theorem State.rtUpdate_outside {ps : List StatePart} (hp : [.regs, .ev, .sst, .recent] ⊆ ps) (g : SstIn) :
    (s.rtUpdate g).outside ps = s.outside ps := by simp at hp; simp only [State.rtUpdate]; split <;> simp [hp]
@[simp] theorem State.rtCut_outside {ps : List StatePart} (hp : [.regs] ⊆ ps) : s.rtCut.outside ps = s.outside ps := by
  simp at hp; unfold State.rtCut; split <;> simp [hp]
@[simp] theorem State.sstClrWrite_outside {ps : List StatePart} (hp : [.regs, .ev, .recent] ⊆ ps) (acc : Access) (val : Word) :
    (s.sstClrWrite acc val).outside ps = s.outside ps := by simp at hp; simp [State.sstClrWrite, hp]
@[simp] theorem State.integrate_outside {ps : List StatePart} (hp : [.sst] ⊆ ps) (g : SstIn) : (s.integrate g).outside ps = s.outside ps := by
  simp at hp; simp [State.integrate, hp]
@[simp] theorem State.busSupport_outside {ps : List StatePart} (hp : [.regs, .sst] ⊆ ps) (g : SstIn) :
    (s.busSupport g).outside ps = s.outside ps := by simp at hp; simp [State.busSupport, hp]
@[simp] theorem State.modulate_outside {ps : List StatePart} (hp : [.regs, .ev, .sst, .recent] ⊆ ps) (g : SstIn) :
    (s.modulate g).outside ps = s.outside ps := by
  simp at hp
  rw [State.modulate]
  generalize State.deltas = deltas
  generalize (s.fld Reg.SST_MOD_LIM Fld.SST_MOD_LIM_M_MAX : Int) * 2 ^ 30 / 100 = mmax
  as_aux_lemma => simp [hp]
@[simp] theorem State.dabWords_outside {ps : List StatePart} (hp : [.regs, .sst] ⊆ ps) (g : SstIn) :
    (s.dabWords g).outside ps = s.outside ps := by simp at hp; simp [State.dabWords, hp]
@[simp] theorem State.cellPosts_outside {ps : List StatePart} (hp : [.queues, .ev] ⊆ ps) (cs : List Nat) :
    (s.cellPosts cs).outside ps = s.outside ps := by
  simp at hp
  exact foldl_outside (fun t c => by simp [hp]) _ _
@[simp] theorem State.idlePosts_outside {ps : List StatePart} (hp : [.queues, .ev, .sst] ⊆ ps) : s.idlePosts.outside ps = s.outside ps := by
  simp at hp; simp [State.idlePosts, hp]
@[simp] theorem State.limitsOff_outside {ps : List StatePart} (hp : [.regs] ⊆ ps) : s.limitsOff.outside ps = s.outside ps := by
  simp at hp; simp [State.limitsOff, hp]
@[simp] theorem State.shareTrims_outside {ps : List StatePart} (hp : [.regs, .sst] ⊆ ps) (g : SstIn) :
    (s.shareTrims g).outside ps = s.outside ps := by simp at hp; simp [State.shareTrims, hp]
@[simp] theorem State.cellMeas_outside {ps : List StatePart} (hp : [.regs, .ev, .sst, .recent] ⊆ ps) (c : Nat) :
    (s.cellMeas c).outside ps = s.outside ps := by simp at hp; simp [State.cellMeas, hp]
@[simp] theorem State.phaseSums_outside {ps : List StatePart} (hp : [.regs] ⊆ ps) : s.phaseSums.outside ps = s.outside ps := by
  simp at hp; simp [State.phaseSums, hp]
@[simp] theorem State.softCause_outside {ps : List StatePart} (hp : [.regs, .ev, .sst, .recent] ⊆ ps) (c : Nat) :
    (s.softCause c).outside ps = s.outside ps := by simp at hp; simp [State.softCause, hp]
@[simp] theorem State.protTrip_outside {ps : List StatePart} (hp : [.regs, .ev, .ctx, .edge, .qset, .ring, .sst, .recent] ⊆ ps) (earth :
    Bool) : (s.protTrip earth).outside ps = s.outside ps := by simp at hp; simp [State.protTrip, hp]
@[simp] theorem State.cellChecks_outside {ps : List StatePart} (hp : [.regs, .ev, .ctx, .edge, .qset, .ring, .sst, .recent] ⊆ ps) (c :
    Nat) : (s.cellChecks c).outside ps = s.outside ps := by simp at hp; simp [State.cellChecks, hp]
@[simp] theorem State.cellCycle_outside {ps : List StatePart} (hp : [.regs, .ev, .ctx, .edge, .qset, .ring, .sst, .recent] ⊆ ps) (c :
    Nat) : (s.cellCycle c).outside ps = s.outside ps := by simp at hp; simp [State.cellCycle, hp]
@[simp] theorem State.phaseChecks_outside {ps : List StatePart} (hp : [.regs, .ev, .ctx, .edge, .qset, .ring, .sst, .recent] ⊆ ps) (g :
    SstIn) : (s.phaseChecks g).outside ps = s.outside ps := by simp at hp; simp [State.phaseChecks, hp]
@[simp] theorem State.sstBoundary_outside {ps : List StatePart} (hp : [.regs, .queues, .ev, .ctx, .edge, .qset, .ring, .sst, .recent] ⊆
    ps) (g0 : SstIn) : (s.sstBoundary g0).outside ps = s.outside ps := by
  simp at hp
  rw [State.sstBoundary]
  split
  · rfl
  · simp [hp]
@[simp] theorem State.reportsTaken_outside {ps : List StatePart} (hp : [.ring] ⊆ ps) : s.reportsTaken.outside ps = s.outside ps := by
  simp at hp; simp [State.reportsTaken, hp]
@[simp] theorem State.sstFlip_outside {ps : List StatePart} (hp : [.regs, .keep, .sst] ⊆ ps) (before : State) (addrs : List Nat) :
    (s.sstFlip before addrs).outside ps = s.outside ps := by simp at hp; simp [State.sstFlip, hp]
@[simp] theorem State.setStg_outside {ps : List StatePart} (hp : [.outs] ⊆ ps) (n : Nat) (v : Stage) :
    (s.setStg n v).outside ps = s.outside ps := by simp at hp; simp [State.setStg, hp]
@[simp] theorem State.setPhs_outside {ps : List StatePart} (hp : [.outs] ⊆ ps) (m : Nat) (v : Phase) :
    (s.setPhs m v).outside ps = s.outside ps := by simp at hp; simp [State.setPhs, hp]
@[simp] theorem State.phEnable_outside {ps : List StatePart} (hp : [.edge, .ring] ⊆ ps) (m : Nat) (en : Bool) :
    (s.phEnable m en).outside ps = s.outside ps := by simp at hp; simp [State.phEnable, hp]
@[simp] theorem State.setPhState_outside {ps : List StatePart} (hp : [.regs, .edge, .ring] ⊆ ps) (m v : Nat) :
    (s.setPhState m v).outside ps = s.outside ps := by simp at hp; simp [State.setPhState, hp]
@[simp] theorem State.phJoin_outside {ps : List StatePart} (hp : [.regs, .edge] ⊆ ps) (m n : Nat) :
    (s.phJoin m n).outside ps = s.outside ps := by simp at hp; simp [State.phJoin, hp]
@[simp] theorem State.phFault_outside {ps : List StatePart} (hp : [.regs, .edge, .ring] ⊆ ps) (m cause : Nat) :
    (s.phFault m cause).outside ps = s.outside ps := by simp at hp; simp [State.phFault, hp]
@[simp] theorem State.showSet_outside {ps : List StatePart} (hp : [.regs, .edge] ⊆ ps) (n : Nat) : (s.showSet n).outside ps = s.outside ps := by
  simp at hp; simp [State.showSet, hp]
@[simp] theorem State.showOuts_outside {ps : List StatePart} (hp : [.regs] ⊆ ps) : s.showOuts.outside ps = s.outside ps := by
  simp at hp; simp [State.showOuts, hp]
@[simp] theorem State.enterStg_outside {ps : List StatePart} (hp : [.regs, .outs] ⊆ ps) (n v reason : Nat) :
    (s.enterStg n v reason).outside ps = s.outside ps := by simp at hp; simp [State.enterStg, hp]
@[simp] theorem State.legsDown_outside {ps : List StatePart} (hp : [.regs, .edge, .ring] ⊆ ps) (n : Nat) :
    (s.legsDown n).outside ps = s.outside ps := by simp at hp; simp [State.legsDown, hp]
@[simp] theorem State.stgZero_outside {ps : List StatePart} (hp : [.outs] ⊆ ps) (n : Nat) : (s.stgZero n).outside ps = s.outside ps := by
  simp at hp; simp [State.stgZero, hp]
@[simp] theorem State.softStart_outside {ps : List StatePart} (hp : [.regs, .outs] ⊆ ps) (n attempt : Nat) :
    (s.softStart n attempt).outside ps = s.outside ps := by simp at hp; simp [State.softStart, hp]
@[simp] theorem State.stageStart_outside {ps : List StatePart} (hp : [.regs, .ev, .outs] ⊆ ps) (n : Nat) (exporting : Bool) (vTgt vMin
    vMax iEv : Nat) : (s.stageStart n exporting vTgt vMin vMax iEv).outside ps = s.outside ps := by
  simp at hp; simp [State.stageStart, hp]
@[simp] theorem State.stageCharge_outside {ps : List StatePart} (hp : [.regs, .outs] ⊆ ps) (n : Nat) :
    (s.stageCharge n).outside ps = s.outside ps := by simp at hp; simp [State.stageCharge, hp]
@[simp] theorem State.stageStop_outside {ps : List StatePart} (hp : [.regs, .outs] ⊆ ps) (n : Nat) :
    (s.stageStop n).outside ps = s.outside ps := by simp at hp; simp [State.stageStop, hp]
@[simp] theorem State.stageLock_outside {ps : List StatePart} (hp : [.regs, .ev, .ctx, .edge, .ring, .outs, .recent] ⊆ ps) (n reason :
    Nat) : (s.stageLock n reason).outside ps = s.outside ps := by simp at hp; simp [State.stageLock, hp]
@[simp] theorem State.stageStopped_outside {ps : List StatePart} (hp : [.regs, .ev, .ctx, .edge, .ring, .outs, .recent] ⊆ ps) (n : Nat)
    : (s.stageStopped n).outside ps = s.outside ps := by simp at hp; simp [State.stageStopped, hp]
@[simp] theorem State.stageAbort_outside {ps : List StatePart} (hp : [.regs, .ev, .ctx, .edge, .ring, .outs, .recent] ⊆ ps) (n : Nat) :
    (s.stageAbort n).outside ps = s.outside ps := by simp at hp; simp [State.stageAbort, hp]
@[simp] theorem State.stageTrips_outside {ps : List StatePart} (hp : [.regs, .ev, .ctx, .edge, .ring, .outs, .recent] ⊆ ps) (n : Nat) :
    (s.stageTrips n).outside ps = s.outside ps := by simp at hp; simp [State.stageTrips, hp]
@[simp] theorem State.outsCtrlWrite_outside {ps : List StatePart} (hp : [.regs, .ev, .outs, .recent] ⊆ ps) (acc : Access) (n : Nat) (val
    : Word) : (s.outsCtrlWrite acc n val).outside ps = s.outside ps := by simp at hp; simp [State.outsCtrlWrite, hp]
@[simp] theorem State.phCmdWrite_outside {ps : List StatePart} (hp : [.regs, .ev, .edge, .ring, .outs, .recent] ⊆ ps) (acc : Access) (m
    : Nat) (val : Word) : (s.phCmdWrite acc m val).outside ps = s.outside ps := by simp at hp; simp [State.phCmdWrite, hp]
@[simp] theorem State.phPost_outside {ps : List StatePart} (hp : [.queues, .ev, .outs] ⊆ ps) (m : Nat) :
    (s.phPost m).outside ps = s.outside ps := by simp at hp; simp [State.phPost, hp]
@[simp] theorem State.rampOut_outside {ps : List StatePart} (hp : [.regs, .edge, .ring, .outs] ⊆ ps) (m cause : Nat) :
    (s.rampOut m cause).outside ps = s.outside ps := by simp at hp; simp [State.rampOut, hp]
@[simp] theorem State.outsClrWrite_outside {ps : List StatePart} (hp : [.regs, .ev, .recent] ⊆ ps) (acc : Access) (val : Word) :
    (s.outsClrWrite acc val).outside ps = s.outside ps := by
  simp at hp
  exact s.command_outside (by simp [hp]) _ _ _ fun t => by dsimp only; split <;> simp [hp]
@[simp] theorem State.phMeas_outside {ps : List StatePart} (hp : [.regs, .ev, .outs, .recent] ⊆ ps) (pairs : SMap (Int × Int)) (m : Nat)
    : (s.phMeas pairs m).outside ps = s.outside ps := by simp at hp; simp only [State.phMeas]; (repeat' split) <;> simp [hp]
@[simp] theorem State.imbalance_outside {ps : List StatePart} (hp : [.regs, .ev, .outs, .recent] ⊆ ps) (n : Nat) :
    (s.imbalance n).outside ps = s.outside ps := by simp at hp; simp [State.imbalance, hp]
@[simp] theorem State.phChecks_outside {ps : List StatePart} (hp : [.regs, .edge, .ring, .outs] ⊆ ps) (m : Nat) :
    (s.phChecks m).outside ps = s.outside ps := by simp at hp; simp [State.phChecks, hp]
@[simp] theorem State.controlLaw_outside {ps : List StatePart} (hp : [.regs, .outs] ⊆ ps) (n : Nat) (g : OutIn) :
    (s.controlLaw n g).outside ps = s.outside ps := by simp at hp; simp [State.controlLaw, hp]
@[simp] theorem State.addPhases_outside {ps : List StatePart} (hp : [.regs, .edge, .ring] ⊆ ps) (n k : Nat) :
    (s.addPhases n k).outside ps = s.outside ps := by simp at hp; simp [State.addPhases, hp]
@[simp] theorem State.rampStep_outside {ps : List StatePart} (hp : [.regs, .edge, .ring, .outs, .recent] ⊆ ps) (m : Nat) :
    (s.rampStep m).outside ps = s.outside ps := by simp at hp; simp [State.rampStep, hp]
@[simp] theorem State.reversal_outside {ps : List StatePart} (hp : [.regs, .edge, .ring, .outs, .recent] ⊆ ps) (n : Nat) :
    (s.reversal n).outside ps = s.outside ps := by simp at hp; simp [State.reversal, hp]
@[simp] theorem State.shedCycle_outside {ps : List StatePart} (hp : [.regs, .edge, .ring, .outs, .recent] ⊆ ps) (n : Nat) (last : Int) :
    (s.shedCycle n last).outside ps = s.outside ps := by simp at hp; simp [State.shedCycle, hp]
@[simp] theorem State.stageProtect_outside {ps : List StatePart} (hp : [.regs, .ev, .ctx, .edge, .qset, .ring, .outs, .recent] ⊆ ps) (n
    : Nat) (g : OutIn) : (s.stageProtect n g).outside ps = s.outside ps := by simp at hp; simp [State.stageProtect, hp]
@[simp] theorem State.stageStep_outside {ps : List StatePart} (hp : [.regs, .ev, .ctx, .edge, .ring, .outs, .recent] ⊆ ps) (n : Nat) (g
    : OutIn) : (s.stageStep n g).outside ps = s.outside ps := by simp at hp; simp [State.stageStep, hp]
@[simp] theorem State.stageMeas_outside {ps : List StatePart} (hp : [.regs, .outs] ⊆ ps) (n : Nat) (g : OutIn) :
    (s.stageMeas n g).outside ps = s.outside ps := by simp at hp; simp [State.stageMeas, hp]
@[simp] theorem State.outletCycle_outside {ps : List StatePart} (hp : [.regs, .ev, .ctx, .edge, .qset, .ring, .outs, .recent] ⊆ ps) (bus
    : Option Nat) (gs : SMap OutIn) (n : Nat) : (s.outletCycle bus gs n).outside ps = s.outside ps := by
  simp at hp; simp [State.outletCycle, hp]
@[simp] theorem State.phInit_outside {ps : List StatePart} (hp : [.regs, .edge, .ring] ⊆ ps) : s.phInit.outside ps = s.outside ps := by
  simp at hp; simp [State.phInit, hp]
@[simp] theorem State.outsBoundary_outside {ps : List StatePart} (hp : [.regs, .queues, .ev, .ctx, .edge, .qset, .ring, .outs, .recent]
    ⊆ ps) (bus : Option Nat) (gs : SMap OutIn) (pairs : SMap (Int × Int)) : (s.outsBoundary bus gs pairs).outside ps = s.outside ps := by
  simp at hp; simp [State.outsBoundary, hp]
@[simp] theorem State.phMoved_outside {ps : List StatePart} (hp : [.regs, .keep, .edge, .ring] ⊆ ps) (before : State) (m : Nat) :
    (before.phMoved s m).outside ps = s.outside ps := by simp at hp; simp [State.phMoved, hp]
@[simp] theorem State.outsFlip_outside {ps : List StatePart} (hp : [.regs, .keep, .edge, .ring] ⊆ ps) (before : State) (addrs : List
    Nat) : (s.outsFlip before addrs).outside ps = s.outside ps := by simp at hp; simp [State.outsFlip, hp]
@[simp] theorem State.phasesLoad_outside {ps : List StatePart} (hp : [.regs, .outs] ⊆ ps) : s.phasesLoad.outside ps = s.outside ps := by
  simp at hp
  exact foldl_outside (fun t m => by dsimp only; split <;> simp [hp]) _ _
@[simp] theorem State.setTh_outside {ps : List StatePart} (hp : [.regs] ⊆ ps) (n : Nat) (f : Field) (v : Nat) :
    (s.setTh n f v).outside ps = s.outside ps := by simp at hp; simp [State.setTh, hp]
@[simp] theorem State.setCol_outside {ps : List StatePart} (hp : [.cool] ⊆ ps) (n : Nat) (v : Cool) :
    (s.setCol n v).outside ps = s.outside ps := by simp at hp; simp [State.setCol, hp]
@[simp] theorem State.connTrip_outside {ps : List StatePart} (hp : [.regs, .ev, .ctx, .edge, .qset, .ring, .cool, .recent] ⊆ ps) (n :
    Nat) : (s.connTrip n).outside ps = s.outside ps := by simp at hp; simp [State.connTrip, hp]
@[simp] theorem State.thFlag_outside {ps : List StatePart} (hp : [.regs, .ev, .recent] ⊆ ps) (n : Nat) (f : Field) (c : Bool) (ev : Nat)
    (cnt : Option Field) : (s.thFlag n f c ev cnt).outside ps = s.outside ps := by simp at hp; unfold State.thFlag; split <;> simp [hp]
@[simp] theorem State.thFaults_outside {ps : List StatePart} (hp : [.regs, .ev, .recent] ⊆ ps) (i milliOhm : Nat) :
    (s.thFaults i milliOhm).outside ps = s.outside ps := by simp at hp; simp [State.thFaults, hp]
@[simp] theorem State.thInvalid_outside {ps : List StatePart} (hp : [.regs, .cool] ⊆ ps) (i : Nat) :
    (s.thInvalid i).outside ps = s.outside ps := by simp at hp; simp [State.thInvalid, hp]
@[simp] theorem State.thDeliver_outside {ps : List StatePart} (hp : [.regs, .queues, .ev, .cool] ⊆ ps) (i : Nat) (v : Int) :
    (s.thDeliver i v).outside ps = s.outside ps := by simp at hp; simp [State.thDeliver, hp]
@[simp] theorem State.thConn_outside {ps : List StatePart} (hp : [.regs, .ev, .ctx, .edge, .qset, .ring, .cool, .recent] ⊆ ps) (i : Nat)
    (v : Int) : (s.thConn i v).outside ps = s.outside ps := by simp at hp; simp [State.thConn, hp]
@[simp] theorem State.thermClrWrite_outside {ps : List StatePart} (hp : [.regs, .ev, .recent] ⊆ ps) (acc : Access) (val : Word) :
    (s.thermClrWrite acc val).outside ps = s.outside ps := by
  simp at hp
  exact s.command_outside (by simp [hp]) _ _ _ fun t => by split <;> simp [hp]
@[simp] theorem State.coolInit_outside {ps : List StatePart} (hp : [.regs, .cool] ⊆ ps) (n : Nat) :
    (s.coolInit n).outside ps = s.outside ps := by simp at hp; simp only [State.coolInit]; (repeat' split) <;> simp [hp]
@[simp] theorem State.observe_outside {ps : List StatePart} (hp : [.cool] ⊆ ps) (n : Nat) : (s.observe n).outside ps = s.outside ps := by
  simp at hp; simp [State.observe, hp]
@[simp] theorem State.showCredit_outside {ps : List StatePart} (hp : [.regs, .ev, .cool] ⊆ ps) (n : Nat) :
    (s.showCredit n).outside ps = s.outside ps := by simp at hp; simp [State.showCredit, hp]
@[simp] theorem State.coolTrips_outside {ps : List StatePart} (hp : [.regs, .ev, .ctx, .edge, .qset, .ring, .cool, .recent] ⊆ ps) (n :
    Nat) : (s.coolTrips n).outside ps = s.outside ps := by simp at hp; simp [State.coolTrips, hp]
@[simp] theorem State.enterCool_outside {ps : List StatePart} (hp : [.regs] ⊆ ps) (n v : Nat) :
    (s.enterCool n v).outside ps = s.outside ps := by simp at hp; simp [State.enterCool, hp]
@[simp] theorem State.coolLoss_outside {ps : List StatePart} (hp : [.regs, .ev, .recent] ⊆ ps) (n cause : Nat) :
    (s.coolLoss n cause).outside ps = s.outside ps := by simp at hp; simp [State.coolLoss, hp]
@[simp] theorem State.coolRestored_outside {ps : List StatePart} (hp : [.regs, .ev] ⊆ ps) (n : Nat) :
    (s.coolRestored n).outside ps = s.outside ps := by simp at hp; simp [State.coolRestored, hp]
@[simp] theorem State.coolStep_outside {ps : List StatePart} (hp : [.regs, .ev, .cool, .recent] ⊆ ps) (n : Nat) :
    (s.coolStep n).outside ps = s.outside ps := by simp at hp; simp only [State.coolStep]; (repeat' split) <;> simp [hp]
@[simp] theorem State.fanStep_outside {ps : List StatePart} (hp : [.cool] ⊆ ps) (n : Nat) : (s.fanStep n).outside ps = s.outside ps := by
  simp at hp; simp [State.fanStep, hp]
@[simp] theorem State.showDemand_outside {ps : List StatePart} (hp : [.regs] ⊆ ps) (n : Nat) : (s.showDemand n).outside ps = s.outside ps := by
  simp at hp; simp [State.showDemand, hp]
@[simp] theorem State.flowTrack_outside {ps : List StatePart} (hp : [.cool] ⊆ ps) (n : Nat) : (s.flowTrack n).outside ps = s.outside ps := by
  simp at hp; simp [State.flowTrack, hp]
@[simp] theorem State.flowRead_outside {ps : List StatePart} (hp : [.cool] ⊆ ps) (src : Nat) : (s.flowRead src).outside ps = s.outside ps := by
  simp at hp; simp [State.flowRead, hp]
@[simp] theorem State.coolCtrlWrite_outside {ps : List StatePart} (hp : [.regs, .ev, .recent] ⊆ ps) (acc : Access) (n : Nat) (val :
    Word) : (s.coolCtrlWrite acc n val).outside ps = s.outside ps := by simp at hp; simp [State.coolCtrlWrite, hp]
@[simp] theorem State.coolClrWrite_outside {ps : List StatePart} (hp : [.regs, .ev, .recent] ⊆ ps) (acc : Access) (val : Word) :
    (s.coolClrWrite acc val).outside ps = s.outside ps := by
  simp at hp
  exact s.command_outside (by simp [hp]) _ _ _ fun t => by split <;> simp [hp]
@[simp] theorem State.showCool_outside {ps : List StatePart} (hp : [.regs] ⊆ ps) (n : Nat) : (s.showCool n).outside ps = s.outside ps := by
  simp at hp; simp [State.showCool, hp]
@[simp] theorem State.coolCycle_outside {ps : List StatePart} (hp : [.regs, .ev, .ctx, .edge, .qset, .ring, .cool, .recent] ⊆ ps) (n :
    Nat) : (s.coolCycle n).outside ps = s.outside ps := by simp at hp; simp [State.coolCycle, hp]
@[simp] theorem State.deviceSend_outside {ps : List StatePart} (hp : [.regs, .ev, .cool, .can, .recent] ⊆ ps) (d : Nat) :
    (s.deviceSend d).outside ps = s.outside ps := by simp at hp; simp [State.deviceSend, hp]
@[simp] theorem State.coolBoundary_outside {ps : List StatePart} (hp : [.regs, .ev, .ctx, .edge, .qset, .ring, .cool, .can, .recent] ⊆
    ps) : s.coolBoundary.outside ps = s.outside ps := by simp at hp; simp [State.coolBoundary, hp]
@[simp] theorem State.setOtl_outside {ps : List StatePart} (hp : [.outl] ⊆ ps) (n : Nat) (v : Outlet) :
    (s.setOtl n v).outside ps = s.outside ps := by simp at hp; simp [State.setOtl, hp]
@[simp] theorem State.setO_outside {ps : List StatePart} (hp : [.regs] ⊆ ps) (n : Nat) (f : Field) (v : Nat) :
    (s.setO n f v).outside ps = s.outside ps := by simp at hp; simp [State.setO, hp]
@[simp] theorem State.showOutl_outside {ps : List StatePart} (hp : [.regs] ⊆ ps) : s.showOutl.outside ps = s.outside ps := by
  simp at hp; simp [State.showOutl, hp]
@[simp] theorem State.enterO_outside {ps : List StatePart} (hp : [.regs, .ev, .ctx, .outl] ⊆ ps) (n v : Nat) :
    (s.enterO n v).outside ps = s.outside ps := by simp at hp; simp [State.enterO, hp]
@[simp] theorem State.stepO_outside {ps : List StatePart} (hp : [.outl] ⊆ ps) (n v : Nat) : (s.stepO n v).outside ps = s.outside ps := by
  simp at hp; simp [State.stepO, hp]
@[simp] theorem State.contactors_outside {ps : List StatePart} (hp : [.outl] ⊆ ps) (n : Nat) (close : Bool) :
    (s.contactors n close).outside ps = s.outside ps := by simp at hp; simp [State.contactors, hp]
@[simp] theorem State.disch_outside {ps : List StatePart} (hp : [.regs] ⊆ ps) (n : Nat) (on : Bool) :
    (s.disch n on).outside ps = s.outside ps := by simp at hp; simp [State.disch, hp]
@[simp] theorem State.endDone_outside {ps : List StatePart} (hp : [.regs, .ev, .ctx, .outl] ⊆ ps) (n : Nat) :
    (s.endDone n).outside ps = s.outside ps := by simp at hp; simp [State.endDone, hp]
@[simp] theorem State.opened_outside {ps : List StatePart} (hp : [.regs, .ev, .ctx, .outl] ⊆ ps) (n : Nat) :
    (s.opened n).outside ps = s.outside ps := by simp at hp; simp [State.opened, hp]
@[simp] theorem State.windEnd_outside {ps : List StatePart} (hp : [.regs, .ev, .ctx, .outs, .outl] ⊆ ps) (n : Nat) :
    (s.windEnd n).outside ps = s.outside ps := by simp at hp; simp [State.windEnd, hp]
@[simp] theorem State.setIEv_outside {ps : List StatePart} (hp : [.regs, .outs] ⊆ ps) (n a : Nat) :
    (s.setIEv n a).outside ps = s.outside ps := by simp at hp; simp [State.setIEv, hp]
@[simp] theorem State.emergency_outside {ps : List StatePart} (hp : [.regs, .ev, .ctx, .outs, .outl] ⊆ ps) (n : Nat) :
    (s.emergency n).outside ps = s.outside ps := by simp at hp; simp [State.emergency, hp]
@[simp] theorem State.normalEnd_outside {ps : List StatePart} (hp : [.regs, .ev, .ctx, .outs, .outl] ⊆ ps) (n : Nat) :
    (s.normalEnd n).outside ps = s.outside ps := by simp at hp; simp [State.normalEnd, hp]
@[simp] theorem State.endCause_outside {ps : List StatePart} (hp : [.regs, .ev, .ctx, .outs, .outl] ⊆ ps) (n r : Nat) :
    (s.endCause n r).outside ps = s.outside ps := by simp at hp; simp [State.endCause, hp]
@[simp] theorem State.countEnd_outside {ps : List StatePart} (hp : [.regs, .outl, .recent] ⊆ ps) (n : Nat) :
    (s.countEnd n).outside ps = s.outside ps := by simp at hp; simp [State.countEnd, hp]
@[simp] theorem State.contactorStep_outside {ps : List StatePart} (hp : [.regs, .ev, .ctx, .outs, .outl] ⊆ ps) (n : Nat) :
    (s.contactorStep n).outside ps = s.outside ps := by simp at hp; simp [State.contactorStep, hp]
@[simp] theorem State.sessionOpen_outside {ps : List StatePart} (hp : [.regs, .ev, .ctx, .outl] ⊆ ps) (n : Nat) :
    (s.sessionOpen n).outside ps = s.outside ps := by simp at hp; simp [State.sessionOpen, hp]
@[simp] theorem State.outletFree_outside {ps : List StatePart} (hp : [.regs, .ev, .ctx, .outl] ⊆ ps) (n : Nat) :
    (s.outletFree n).outside ps = s.outside ps := by simp at hp; simp [State.outletFree, hp]
@[simp] theorem State.signalStep_outside {ps : List StatePart} (hp : [.regs, .ev, .ctx, .outs, .outl] ⊆ ps) (n : Nat) :
    (s.signalStep n).outside ps = s.outside ps := by simp at hp; simp [State.signalStep, hp]
@[simp] theorem State.negotiated_outside {ps : List StatePart} (hp : [.regs, .ev, .ctx, .outs, .outl] ⊆ ps) (n : Nat) :
    (s.negotiated n).outside ps = s.outside ps := by simp at hp; simp [State.negotiated, hp]
@[simp] theorem State.showSig_outside {ps : List StatePart} (hp : [.regs] ⊆ ps) (n : Nat) : (s.showSig n).outside ps = s.outside ps := by
  simp at hp; simp [State.showSig, hp]
@[simp] theorem State.demand_outside {ps : List StatePart} (hp : [.regs, .outs, .outl] ⊆ ps) (n : Nat) :
    (s.demand n).outside ps = s.outside ps := by simp at hp; simp [State.demand, hp]
@[simp] theorem State.direction_outside {ps : List StatePart} (hp : [.regs, .outs, .outl] ⊆ ps) (n : Nat) :
    (s.direction n).outside ps = s.outside ps := by simp at hp; simp [State.direction, hp]
@[simp] theorem State.precharged_outside {ps : List StatePart} (hp : [.regs, .ev, .ctx, .outs, .outl] ⊆ ps) (n : Nat) :
    (s.precharged n).outside ps = s.outside ps := by simp at hp; simp [State.precharged, hp]
@[simp] theorem State.warnLevel_outside {ps : List StatePart} (hp : [.regs, .ev] ⊆ ps) (n : Nat) (on : Bool) :
    (s.warnLevel n on).outside ps = s.outside ps := by simp at hp; simp [State.warnLevel, hp]
@[simp] theorem State.outlRefused_outside {ps : List StatePart} (hp : [.ev] ⊆ ps) (n : Nat) : (s.outlRefused n).outside ps = s.outside ps := by
  simp at hp; simp [State.outlRefused, hp]
@[simp] theorem State.outlCtrlWrite_outside {ps : List StatePart} (hp : [.regs, .ev, .ctx, .outs, .outl, .recent] ⊆ ps) (acc : Access)
    (n : Nat) (val : Word) : (s.outlCtrlWrite acc n val).outside ps = s.outside ps := by simp at hp; simp [State.outlCtrlWrite, hp]
@[simp] theorem State.outlClrWrite_outside {ps : List StatePart} (hp : [.regs, .ev, .recent] ⊆ ps) (acc : Access) (val : Word) :
    (s.outlClrWrite acc val).outside ps = s.outside ps := by
  simp at hp
  exact s.command_outside (by simp [hp]) _ _ _ fun t => by split <;> simp [hp]
@[simp] theorem State.imdStep_outside {ps : List StatePart} (hp : [.regs, .ev, .outl] ⊆ ps) (gpio n : Nat) :
    (s.imdStep gpio n).outside ps = s.outside ps := by simp at hp; simp [State.imdStep, hp]
@[simp] theorem State.sessionStep_outside {ps : List StatePart} (hp : [.regs, .ev, .ctx, .outs, .outl] ⊆ ps) (n : Nat) :
    (s.sessionStep n).outside ps = s.outside ps := by simp at hp; simp [State.sessionStep, hp]
@[simp] theorem State.stageCauses_outside {ps : List StatePart} (hp : [.regs, .ev, .ctx, .outs, .outl] ⊆ ps) (n : Nat) :
    (s.stageCauses n).outside ps = s.outside ps := by simp at hp; simp [State.stageCauses, hp]
@[simp] theorem State.outlBoundary_outside {ps : List StatePart} (hp : [.regs, .ev, .ctx, .outs, .outl, .recent] ⊆ ps) (gpio : Nat) :
    (s.outlBoundary gpio).outside ps = s.outside ps := by simp at hp; simp [State.outlBoundary, hp]
@[simp] theorem State.outlOrphan_outside {ps : List StatePart} (hp : [.regs, .outl] ⊆ ps) : s.outlOrphan.outside ps = s.outside ps := by
  simp at hp; simp [State.outlOrphan, hp]
@[simp] theorem State.outletsLoad_outside {ps : List StatePart} (hp : [.outs, .cool, .outl] ⊆ ps) :
    s.outletsLoad.outside ps = s.outside ps := by
  simp at hp
  exact foldl_outside (fun t n => by simp [hp]) _ _
@[simp] theorem State.outlRestart_outside {ps : List StatePart} (hp : [.regs, .ev, .ctx, .outs, .outl] ⊆ ps) :
    s.outlRestart.outside ps = s.outside ps := by simp at hp; simp [State.outlRestart, hp]
@[simp] theorem State.estimate_outside {ps : List StatePart} (hp : [.aloc] ⊆ ps) : s.estimate.outside ps = s.outside ps := by
  simp at hp; unfold State.estimate; split <;> simp [hp]
@[simp] theorem State.showGrant_outside {ps : List StatePart} (hp : [.regs] ⊆ ps) (n : Nat) (g : Int) (cap lim : Nat) :
    (s.showGrant n g cap lim).outside ps = s.outside ps := by simp at hp; simp [State.showGrant, hp]
@[simp] theorem State.minShare_outside {ps : List StatePart} (hp : [.ev, .aloc] ⊆ ps) (h : SMap Nat) (n cap : Nat) :
    (s.minShare h n cap).outside ps = s.outside ps := by simp at hp; simp [State.minShare, hp]
@[simp] theorem State.tickCounts_outside {ps : List StatePart} (hp : [.regs, .ev, .recent] ⊆ ps) (dur : Nat) :
    (s.tickCounts dur).outside ps = s.outside ps := by simp at hp; simp [State.tickCounts, hp]
@[simp] theorem State.showBudgets_outside {ps : List StatePart} (hp : [.regs] ⊆ ps) (b x binding hs : Nat) :
    (s.showBudgets b x binding hs).outside ps = s.outside ps := by simp at hp; simp [State.showBudgets, hp]
@[simp] theorem State.takePubs_outside {ps : List StatePart} (hp : [.regs, .ev, .loop, .aloc, .recent] ⊆ ps) :
    s.takePubs.outside ps = s.outside ps := by
  simp at hp
  exact (foldl_outside (fun t e => by dsimp only; split <;> simp [hp]) _ _).trans (by simp [hp])
@[simp] theorem State.allocTick_outside {ps : List StatePart} (hp : [.regs, .ev, .loop, .aloc, .recent] ⊆ ps) (dur : Nat) :
    (s.allocTick dur).outside ps = s.outside ps := by
  simp at hp
  have h0 : s.takePubs.estimate.outside ps = s.outside ps := by simp [hp]
  rw [State.allocTick]
  generalize s.takePubs.estimate = s1 at *
  extract_lets
  split
  extract_lets
  split
  split
  split
  extract_lets st st1 st2 _
  have h : st.outside ps = s1.outside ps := (foldl_outside (fun t n => by simp [hp]) _ _).trans (by simp [hp])
  have h1 : st1.outside ps = st.outside ps := foldl_outside (fun t n => by split_ifs <;> simp [hp]) _ _
  have h2 : st2.outside ps = s.outside ps := by simp [st2, hp, h1, h, h0]
  clear_value st2
  simp [hp, h2]
@[simp] theorem State.alocEntry_outside {ps : List StatePart} (hp : [.regs, .ev, .aloc] ⊆ ps) : s.alocEntry.outside ps = s.outside ps := by
  simp at hp; simp [State.alocEntry, hp]
@[simp] theorem State.alocResult_outside {ps : List StatePart} (hp : [.regs, .aloc] ⊆ ps) (d : AlocData) :
    (s.alocResult d).outside ps = s.outside ps := by simp at hp; simp [State.alocResult, hp]
@[simp] theorem State.alocQuantum_outside {ps : List StatePart} (hp : [.regs] ⊆ ps) (old : Nat) :
    (s.alocQuantum old).outside ps = s.outside ps := by simp at hp; simp [State.alocQuantum, hp]
@[simp] theorem State.alocClrWrite_outside {ps : List StatePart} (hp : [.regs, .ev, .recent] ⊆ ps) (acc : Access) (val : Word) :
    (s.alocClrWrite acc val).outside ps = s.outside ps := by simp at hp; simp [State.alocClrWrite, hp]
@[simp] theorem State.setChan_outside {ps : List StatePart} (hp : [.safe] ⊆ ps) (x : Side) (v : Chan) :
    (s.setChan x v).outside ps = s.outside ps := by simp at hp; simp [State.setChan, hp]
@[simp] theorem State.setAxis_outside {ps : List StatePart} (hp : [.safe] ⊆ ps) (x : Side) (a : Nat) (v : Axis) :
    (s.setAxis x a v).outside ps = s.outside ps := by simp at hp; simp [State.setAxis, hp]
@[simp] theorem State.setCh_outside {ps : List StatePart} (hp : [.regs] ⊆ ps) (x : Side) (v : Nat) :
    (s.setCh x v).outside ps = s.outside ps := by simp at hp; simp [State.setCh, hp]
@[simp] theorem State.setAxF_outside {ps : List StatePart} (hp : [.regs] ⊆ ps) (x : Side) (a : Nat) (f : Field) (v : Nat) :
    (s.setAxF x a f v).outside ps = s.outside ps := by simp at hp; simp [State.setAxF, hp]
@[simp] theorem State.showAxis_outside {ps : List StatePart} (hp : [.regs] ⊆ ps) (a : Nat) : (s.showAxis a).outside ps = s.outside ps := by
  simp at hp; simp [State.showAxis, hp]
@[simp] theorem State.axisTo_outside {ps : List StatePart} (hp : [.regs, .safe] ⊆ ps) (x : Side) (a st cause : Nat) (sto brk : Bool) :
    (s.axisTo x a st cause sto brk).outside ps = s.outside ps := by simp at hp; simp [State.axisTo, hp]
@[simp] theorem State.torqueOff_outside {ps : List StatePart} (hp : [.regs, .safe] ⊆ ps) (x : Side) (a cause : Nat) :
    (s.torqueOff x a cause).outside ps = s.outside ps := by simp at hp; simp [State.torqueOff, hp]
@[simp] theorem State.allOff_outside {ps : List StatePart} (hp : [.regs, .safe] ⊆ ps) (x : Side) (cause : Nat) :
    (s.allOff x cause).outside ps = s.outside ps := by simp at hp; simp [State.allOff, hp]
@[simp] theorem State.stopping_outside {ps : List StatePart} (hp : [.regs, .safe] ⊆ ps) (x : Side) (a cause v : Nat) :
    (s.stopping x a cause v).outside ps = s.outside ps := by simp at hp; simp [State.stopping, hp]
@[simp] theorem State.reactions_outside {ps : List StatePart} (hp : [.regs, .ev, .ctx, .recent] ⊆ ps) (before : State) :
    (s.reactions before).outside ps = s.outside ps := by
  simp at hp
  have hc (t : State) (x : Side) : (t.bump (sideAddr x Reg.SAFE_CNT) Fld.SAFE_CNT_REACTIONS).outside ps = t.outside ps := by
    simp [hp]
  simp only [State.reactions]
  refine (foldl_outside (fun t x => ?_) _ _).trans (foldl_outside (fun t a => ?_) _ _)
  · split <;> simp [hp]
  · split
    · rfl
    · exact (foldl_outside hc _ _).trans (by simp [hp])
@[simp] theorem State.outletReaction_outside {ps : List StatePart} (hp : [.regs, .ev, .ctx, .outs, .outl, .recent] ⊆ ps) (n : Nat) :
    (s.outletReaction n).outside ps = s.outside ps := by simp at hp; simp [State.outletReaction, hp]
@[simp] theorem State.setConn_outside {ps : List StatePart} (hp : [.safe] ⊆ ps) (x : Side) (k : Nat) (v : Conn3) :
    (s.setConn x k v).outside ps = s.outside ps := by simp at hp; simp [State.setConn, hp]
@[simp] theorem State.setConnState_outside {ps : List StatePart} (hp : [.regs] ⊆ ps) (x : Side) (k v : Nat) :
    (s.setConnState x k v).outside ps = s.outside ps := by simp at hp; simp [State.setConnState, hp]
@[simp] theorem State.connStart_outside {ps : List StatePart} (hp : [.regs, .safe] ⊆ ps) (x : Side) :
    (s.connStart x).outside ps = s.outside ps := by simp at hp; simp [State.connStart, hp]
@[simp] theorem State.chanStop_outside {ps : List StatePart} (hp : [.regs, .safe] ⊆ ps) (x : Side) :
    (s.chanStop x).outside ps = s.outside ps := by simp at hp; simp [State.chanStop, hp]
@[simp] theorem State.chanFollow_outside {ps : List StatePart} (hp : [.regs, .safe] ⊆ ps) (x : Side) :
    (s.chanFollow x).outside ps = s.outside ps := by simp at hp; simp [State.chanFollow, hp]
@[simp] theorem State.chanStart_outside {ps : List StatePart} (hp : [.regs, .safe] ⊆ ps) (x : Side) (axes : List AxisIn) :
    (s.chanStart x axes).outside ps = s.outside ps := by simp at hp; simp [State.chanStart, hp]
@[simp] theorem State.chanFault_outside {ps : List StatePart} (hp : [.regs, .safe] ⊆ ps) (x : Side) (cause : Nat) :
    (s.chanFault x cause).outside ps = s.outside ps := by simp at hp; simp [State.chanFault, hp]
@[simp] theorem State.crossCheck_outside {ps : List StatePart} (hp : [.regs, .ev, .safe, .recent] ⊆ ps) (prev : State) (x : Side) (came
    : Bool) : (s.crossCheck prev x came).outside ps = s.outside ps := by simp at hp; simp [State.crossCheck, hp]
@[simp] theorem State.encFlags_outside {ps : List StatePart} (hp : [.regs] ⊆ ps) (x : Side) (a : Nat) (v : Axis) :
    (s.encFlags x a v).outside ps = s.outside ps := by simp at hp; simp [State.encFlags, hp]
@[simp] theorem State.axisMove_outside {ps : List StatePart} (hp : [.regs, .safe] ⊆ ps) (x : Side) (a : Nat) (causes : List (Nat ×
    Bool)) : (s.axisMove x a causes).outside ps = s.outside ps := by simp at hp; simp only [State.axisMove]; (repeat' split) <;> simp [hp]
@[simp] theorem State.axisShow_outside {ps : List StatePart} (hp : [.regs] ⊆ ps) (x : Side) (a : Nat) (zone : Bool) :
    (s.axisShow x a zone).outside ps = s.outside ps := by simp at hp; simp [State.axisShow, hp]
@[simp] theorem State.axisCycle_outside {ps : List StatePart} (hp : [.regs, .safe] ⊆ ps) (x : Side) (i : AxisIn) (lost : Bool) (a : Nat)
    : (s.axisCycle x i lost a).outside ps = s.outside ps := by simp at hp; simp [State.axisCycle, hp]
@[simp] theorem State.chanCycle_outside {ps : List StatePart} (hp : [.regs, .ev, .safe, .recent] ⊆ ps) (prev : State) (x : Side) (i :
    ChanIn) : (s.chanCycle prev x i).outside ps = s.outside ps := by simp at hp; simp [State.chanCycle, hp]
@[simp] theorem State.sendCross_outside {ps : List StatePart} (hp : [.safe] ⊆ ps) : s.sendCross.outside ps = s.outside ps := by
  simp at hp; simp [State.sendCross, hp]
@[simp] theorem State.estopHold_outside {ps : List StatePart} (hp : [.regs, .ev, .ctx, .outs, .outl, .safe, .recent] ⊆ ps) :
    s.estopHold.outside ps = s.outside ps := by simp at hp; simp [State.estopHold, hp]
@[simp] theorem State.polesStep_outside {ps : List StatePart} (hp : [.safe] ⊆ ps) : s.polesStep.outside ps = s.outside ps := by
  simp at hp
  simp only [State.polesStep]
  split
  · rfl
  · exact foldl_outside (fun t n => by simp [hp]) _ _
@[simp] theorem State.estopStep_outside {ps : List StatePart} (hp : [.regs, .safe] ⊆ ps) : s.estopStep.outside ps = s.outside ps := by
  simp at hp; simp [State.estopStep, hp]
@[simp] theorem State.safeFbAckWrite_outside {ps : List StatePart} (hp : [.regs, .ev, .recent] ⊆ ps) (acc : Access) (val : Word) :
    (s.safeFbAckWrite acc val).outside ps = s.outside ps := by
  simp at hp
  exact s.command_outside (by simp [hp]) _ _ _ fun t => foldl_outside (fun u n => by dsimp only; split <;> simp [hp]) _ _
@[simp] theorem State.takeVals_outside {ps : List StatePart} (hp : [.safe] ⊆ ps) : s.takeVals.outside ps = s.outside ps := by
  simp at hp; simp [State.takeVals, hp]
@[simp] theorem State.enableAxis_outside {ps : List StatePart} (hp : [.regs, .safe] ⊆ ps) (x : Side) (a : Nat) :
    (s.enableAxis x a).outside ps = s.outside ps := by simp at hp; simp [State.enableAxis, hp]
@[simp] theorem State.resetIn_outside {ps : List StatePart} (hp : [.regs, .safe, .recent] ⊆ ps) (a : Nat) (x : Side) :
    (s.resetIn a x).outside ps = s.outside ps := by simp at hp; simp [State.resetIn, hp]
@[simp] theorem State.resetJudge_outside {ps : List StatePart} (hp : [.regs, .ev, .safe, .recent] ⊆ ps) (a : Nat) :
    (s.resetJudge a).outside ps = s.outside ps := by simp at hp; simp [State.resetJudge, hp]
@[simp] theorem State.resetsJudge_outside {ps : List StatePart} (hp : [.regs, .ev, .safe, .recent] ⊆ ps) :
    s.resetsJudge.outside ps = s.outside ps := by simp at hp; simp [State.resetsJudge, hp]
@[simp] theorem State.resetRequest_outside {ps : List StatePart} (hp : [.safe] ⊆ ps) (a : Nat) :
    (s.resetRequest a).outside ps = s.outside ps := by simp at hp; simp [State.resetRequest, hp]
@[simp] theorem State.axCtrlWrite_outside {ps : List StatePart} (hp : [.regs, .ev, .safe, .recent] ⊆ ps) (acc : Access) (a : Nat) (val :
    Word) : (s.axCtrlWrite acc a val).outside ps = s.outside ps := by simp at hp; simp [State.axCtrlWrite, hp]
@[simp] theorem State.safetyCycle_outside {ps : List StatePart} (hp : [.regs, .ev, .ctx, .outs, .outl, .safe, .recent] ⊆ ps) (a b :
    ChanIn) : (s.safetyCycle a b).outside ps = s.outside ps := by simp at hp; simp [State.safetyCycle, hp]
@[simp] theorem State.resetFault_outside {ps : List StatePart} (hp : [.regs, .safe] ⊆ ps) : s.resetFault.outside ps = s.outside ps := by
  simp at hp; simp [State.resetFault, hp]
@[simp] theorem State.reopen_outside {ps : List StatePart} (hp : [.regs, .ev, .safe] ⊆ ps) : s.reopen.outside ps = s.outside ps := by
  simp at hp
  simp only [State.reopen]
  split
  · exact (foldl_outside (fun t x => foldl_outside (fun u a => by simp [hp]) _ _) _ _).trans (by simp [hp])
  · simp [hp]
@[simp] theorem State.safeCtrlWrite_outside {ps : List StatePart} (hp : [.regs, .ev, .safe, .recent] ⊆ ps) (acc : Access) (val : Word) :
    (s.safeCtrlWrite acc val).outside ps = s.outside ps := by simp at hp; simp [State.safeCtrlWrite, hp]
@[simp] theorem State.safeConfirmWrite_outside {ps : List StatePart} (hp : [.regs, .ev, .safe, .recent] ⊆ ps) (acc : Access) (val :
    Word) : (s.safeConfirmWrite acc val).outside ps = s.outside ps := by
  simp at hp
  exact s.command_outside (by simp [hp]) _ _ _ fun t => by dsimp only; split <;> simp [hp]
@[simp] theorem State.safeClrWrite_outside {ps : List StatePart} (hp : [.regs, .ev, .recent] ⊆ ps) (acc : Access) (val : Word) :
    (s.safeClrWrite acc val).outside ps = s.outside ps := by
  simp at hp
  exact s.command_outside (by simp [hp]) _ _ _ fun t => by split <;> simp [hp]
@[simp] theorem State.padsOff_outside {ps : List StatePart} (hp : [.regs, .safe] ⊆ ps) : s.padsOff.outside ps = s.outside ps := by
  simp at hp; simp [State.padsOff, hp]
@[simp] theorem State.frameAccept_outside {ps : List StatePart} (hp : [.regs, .safe] ⊆ ps) (x : Side) (k : Nat) (bs : List Byte) :
    (s.frameAccept x k bs).outside ps = s.outside ps := by simp at hp; simp [State.frameAccept, hp]
@[simp] theorem State.frameDrop_outside {ps : List StatePart} (hp : [.regs, .safe, .recent] ⊆ ps) (x : Side) (k : Nat) (f : Field) :
    (s.frameDrop x k f).outside ps = s.outside ps := by simp at hp; simp [State.frameDrop, hp]
@[simp] theorem State.frameRx_outside {ps : List StatePart} (hp : [.regs, .safe, .recent] ⊆ ps) (x : Side) (k : Nat) (bs : List Byte) :
    (s.frameRx x k bs).outside ps = s.outside ps := by simp at hp; simp [State.frameRx, hp]
@[simp] theorem State.frameArrives_outside {ps : List StatePart} (hp : [.regs, .safe, .recent] ⊆ ps) (k : Nat) (bytes : List Byte) :
    (s.frameArrives k bytes).outside ps = s.outside ps := by simp at hp; simp [State.frameArrives, hp]
@[simp] theorem State.safetyObject_outside {ps : List StatePart} (hp : [.regs, .safe, .recent] ⊆ ps) (ctrl o : Nat) (bytes : List Byte)
    : (s.safetyObject ctrl o bytes).outside ps = s.outside ps := by simp at hp; simp [State.safetyObject, hp]
@[simp] theorem State.txPort_outside {ps : List StatePart} (hp : [.regs, .ev, .host, .can, .recent] ⊆ ps) (k : Nat) (bs : List Byte) :
    (s.txPort k bs).outside ps = s.outside ps := by
  simp at hp
  rw [State.txPort]
  generalize (0x20000000 : Nat) = k29
  as_aux_lemma => simp [hp]
@[simp] theorem State.txSend_outside {ps : List StatePart} (hp : [.regs, .ev, .host, .safe, .can, .recent] ⊆ ps) (k seq : Nat) (bs :
    List Byte) : (s.txSend k seq bs).outside ps = s.outside ps := by
  simp at hp
  exact (foldl_outside (fun t x => by simp [hp]) _ _).trans (s.txPort_outside (by simp [hp]) k bs)
@[simp] theorem State.txFrame_outside {ps : List StatePart} (hp : [.regs, .ev, .host, .safe, .can, .recent, .free] ⊆ ps) (k : Nat) :
    (s.txFrame k).outside ps = s.outside ps := by
  simp at hp
  simp only [State.txFrame]
  split_ifs <;> simp [hp]
@[simp] theorem State.setMem_outside {ps : List StatePart} (hp : [.bill] ⊆ ps) (m : DieMem) : (s.setMem m).outside ps = s.outside ps := by
  simp at hp; simp [State.setMem, hp]
@[simp] theorem State.dwr_outside {ps : List StatePart} (hp : [.bill] ⊆ ps) (addr : Nat) (v : Word) :
    (s.dwr addr v).outside ps = s.outside ps := by simp at hp; simp [State.dwr, hp]
@[simp] theorem State.dsetF_outside {ps : List StatePart} (hp : [.bill] ⊆ ps) (addr : Nat) (f : Field) (v : Nat) :
    (s.dsetF addr f v).outside ps = s.outside ps := by simp at hp; simp [State.dsetF, hp]
@[simp] theorem State.dwr64_outside {ps : List StatePart} (hp : [.bill] ⊆ ps) (addr v : Nat) : (s.dwr64 addr v).outside ps = s.outside ps := by
  simp at hp; simp [State.dwr64, hp]
@[simp] theorem State.setMetr_outside {ps : List StatePart} (hp : [.metr] ⊆ ps) (m : MetrPart) : (s.setMetr m).outside ps = s.outside ps := by
  simp at hp; simp [State.setMetr, hp]
@[simp] theorem State.setDch_outside {ps : List StatePart} (hp : [.metr] ⊆ ps) (c : Nat) (v : DieChan) :
    (s.setDch c v).outside ps = s.outside ps := by simp at hp; simp [State.setDch, hp]
@[simp] theorem State.setSum_outside {ps : List StatePart} (hp : [.metr] ⊆ ps) (k : Nat) (v : Int) :
    (s.setSum k v).outside ps = s.outside ps := by simp at hp; simp [State.setSum, hp]
@[simp] theorem State.dieEvent_outside {ps : List StatePart} (hp : [.metr] ⊆ ps) (code : Nat) (arg : Word) :
    (s.dieEvent code arg).outside ps = s.outside ps := by simp at hp; simp [State.dieEvent, hp]
@[simp] theorem State.tamperAt_outside {ps : List StatePart} (hp : [.metr, .bill] ⊆ ps) (k g : Nat) (ts : Count) :
    (s.tamperAt k g ts).outside ps = s.outside ps := by simp at hp; simp [State.tamperAt, hp]
@[simp] theorem State.tamper_outside {ps : List StatePart} (hp : [.metr, .bill] ⊆ ps) (k g : Nat) :
    (s.tamper k g).outside ps = s.outside ps := by simp at hp; simp [State.tamper, hp]
@[simp] theorem State.sessionEnergy_outside {ps : List StatePart} (hp : [.bill] ⊆ ps) (g dir n : Nat) (test : Bool) :
    (s.sessionEnergy g dir n test).outside ps = s.outside ps := by simp at hp; simp [State.sessionEnergy, hp]
@[simp] theorem State.billEnergy_outside {ps : List StatePart} (hp : [.bill] ⊆ ps) (g dir n : Nat) :
    (s.billEnergy g dir n).outside ps = s.outside ps := by simp at hp; simp [State.billEnergy, hp]
@[simp] theorem State.testEnergy_outside {ps : List StatePart} (hp : [.bill] ⊆ ps) (g dir n : Nat) :
    (s.testEnergy g dir n).outside ps = s.outside ps := by simp at hp; simp [State.testEnergy, hp]
@[simp] theorem State.accrue_outside {ps : List StatePart} (hp : [.bill] ⊆ ps) (g dir amount : Nat) :
    (s.accrue g dir amount).outside ps = s.outside ps := by simp at hp; simp [State.accrue, hp]
@[simp] theorem State.accrueReact_outside {ps : List StatePart} (hp : [.bill] ⊆ ps) (q amount : Nat) :
    (s.accrueReact q amount).outside ps = s.outside ps := by simp at hp; simp [State.accrueReact, hp]
@[simp] theorem State.maxima_outside {ps : List StatePart} (hp : [.bill] ⊆ ps) (flags : Nat) (tsEnd : Count) (g : Nat) :
    (s.maxima flags tsEnd g).outside ps = s.outside ps := by simp at hp; simp [State.maxima, hp]
@[simp] theorem State.closedRecord_outside {ps : List StatePart} (hp : [.metr, .bill] ⊆ ps) (kind n : Nat) (full : Bool) :
    (s.closedRecord kind n full).outside ps = s.outside ps := by simp at hp; simp [State.closedRecord, hp]
@[simp] theorem State.closeInterval_outside {ps : List StatePart} (hp : [.metr, .bill] ⊆ ps) (extra : Nat) (tsEnd : Count) :
    (s.closeInterval extra tsEnd).outside ps = s.outside ps := by simp at hp; simp [State.closeInterval, hp]
@[simp] theorem State.openInterval_outside {ps : List StatePart} (hp : [.bill] ⊆ ps) (stepped : Bool) (flags : Nat) :
    (s.openInterval stepped flags).outside ps = s.outside ps := by
  simp at hp
  simp only [State.openInterval]
  exact (State.setMem_outside _ (by simp [hp]) _).trans (s.dwr64_outside (by simp [hp]) _ _)
@[simp] theorem State.demChange_outside {ps : List StatePart} (hp : [.metr, .bill] ⊆ ps) (e : Count) :
    (s.demChange e).outside ps = s.outside ps := by simp at hp; unfold State.demChange; split <;> simp [hp]
@[simp] theorem State.intervalStep_outside {ps : List StatePart} (hp : [.metr, .bill] ⊆ ps) : s.intervalStep.outside ps = s.outside ps := by
  simp at hp
  simp only [State.intervalStep]
  split_ifs <;> simp [hp]
@[simp] theorem State.evalTariff_outside {ps : List StatePart} (hp : [.bill] ⊆ ps) (minute : Nat) :
    (s.evalTariff minute).outside ps = s.outside ps := by simp at hp; simp [State.evalTariff, hp]
@[simp] theorem State.tariffStep_outside {ps : List StatePart} (hp : [.metr, .bill] ⊆ ps) : s.tariffStep.outside ps = s.outside ps := by
  simp at hp; simp [State.tariffStep, hp]
@[simp] theorem State.clearMaxima_outside {ps : List StatePart} (hp : [.bill] ⊆ ps) (g : Nat) :
    (s.clearMaxima g).outside ps = s.outside ps := by simp at hp; simp [State.clearMaxima, hp]
@[simp] theorem State.closePeriod_outside {ps : List StatePart} (hp : [.metr, .bill] ⊆ ps) : s.closePeriod.outside ps = s.outside ps := by
  simp at hp; simp [State.closePeriod, hp]
@[simp] theorem State.periodStep_outside {ps : List StatePart} (hp : [.metr, .bill] ⊆ ps) : s.periodStep.outside ps = s.outside ps := by
  simp at hp; simp [State.periodStep, hp]
@[simp] theorem State.setDisp_outside {ps : List StatePart} (hp : [.bill] ⊆ ps) (n : Nat) (v : Disp) :
    (s.setDisp n v).outside ps = s.outside ps := by simp at hp; simp [State.setDisp, hp]
@[simp] theorem State.dispTo_outside {ps : List StatePart} (hp : [.bill] ⊆ ps) (n st : Nat) : (s.dispTo n st).outside ps = s.outside ps := by
  simp at hp; simp [State.dispTo, hp]
@[simp] theorem State.dispSession_outside {ps : List StatePart} (hp : [.bill] ⊆ ps) (g : Nat) (opens : Bool) :
    (s.dispSession g opens).outside ps = s.outside ps := by simp at hp; simp [State.dispSession, hp]
@[simp] theorem State.setSacc_outside {ps : List StatePart} (hp : [.bill] ⊆ ps) (n : Nat) (v : SessAcc) :
    (s.setSacc n v).outside ps = s.outside ps := by simp at hp; simp [State.setSacc, hp]
@[simp] theorem State.closeSession_outside {ps : List StatePart} (hp : [.metr, .bill] ⊆ ps) (n extra : Nat) (tsEnd : Count) :
    (s.closeSession n extra tsEnd).outside ps = s.outside ps := by simp at hp; simp [State.closeSession, hp]
@[simp] theorem State.openSession_outside {ps : List StatePart} (hp : [.metr, .bill] ⊆ ps) (n : Nat) :
    (s.openSession n).outside ps = s.outside ps := by simp at hp; simp [State.openSession, hp]
@[simp] theorem State.sessionInstant_outside {ps : List StatePart} (hp : [.metr, .bill] ⊆ ps) (e : Nat × Bool × Count) :
    (s.sessionInstant e).outside ps = s.outside ps := by simp at hp; simp [State.sessionInstant, hp]
@[simp] theorem State.sessionsStep_outside {ps : List StatePart} (hp : [.outl, .metr, .bill] ⊆ ps) :
    s.sessionsStep.outside ps = s.outside ps := by simp at hp; simp [State.sessionsStep, hp]
@[simp] theorem State.saveDie_outside {ps : List StatePart} (hp : [.bill] ⊆ ps) : s.saveDie.outside ps = s.outside ps := by
  simp at hp; simp [State.saveDie, hp]
@[simp] theorem State.boundaryStep_outside {ps : List StatePart} (hp : [.metr, .bill] ⊆ ps) {f : State → State} (hf : ∀ t, (f t).outside
    ps = t.outside ps) : (s.boundaryStep f).outside ps = s.outside ps := by simp at hp; simp [State.boundaryStep, hf, hp]
@[simp] theorem State.boundaries_outside {ps : List StatePart} (hp : [.outl, .metr, .bill] ⊆ ps) : s.boundaries.outside ps = s.outside ps := by
  simp at hp; simp [State.boundaries, hp]
@[simp] theorem State.copyHit_outside {ps : List StatePart} (hp : [.bill] ⊆ ps) (a b : Option (List (Nat × Word))) :
    (s.copyHit a b).outside ps = s.outside ps := by simp at hp; simp only [State.copyHit]; (repeat' split) <;> simp [hp]
@[simp] theorem State.copiesCheck_outside {ps : List StatePart} (hp : [.metr, .bill] ⊆ ps) : s.copiesCheck.outside ps = s.outside ps := by
  simp at hp; simp [State.copiesCheck, hp]
@[simp] theorem State.dieCopies_outside {ps : List StatePart} (hp : [.metr, .bill] ⊆ ps) (a b : Option (List (Nat × Word))) :
    (s.dieCopies a b).outside ps = s.outside ps := by simp at hp; simp [State.dieCopies, hp]
@[simp] theorem State.sampleChannel_outside {ps : List StatePart} (hp : [.metr] ⊆ ps) (c : Nat) (code : Int) :
    (s.sampleChannel c code).outside ps = s.outside ps := by simp at hp; simp [State.sampleChannel, hp]
@[simp] theorem State.acPhase_outside {ps : List StatePart} (hp : [.metr] ⊆ ps) (q : Nat) : (s.acPhase q).outside ps = s.outside ps := by
  simp at hp; simp [State.acPhase, hp]
@[simp] theorem State.acSample_outside {ps : List StatePart} (hp : [.metr, .bill] ⊆ ps) : s.acSample.outside ps = s.outside ps := by
  simp at hp; simp only [State.acSample]; (repeat' split) <;> simp [hp]
@[simp] theorem State.dcSample_outside {ps : List StatePart} (hp : [.metr, .bill] ⊆ ps) (n : Nat) :
    (s.dcSample n).outside ps = s.outside ps := by simp at hp; simp [State.dcSample, hp]
@[simp] theorem State.polarity_outside {ps : List StatePart} (hp : [.metr] ⊆ ps) (g c : Nat) (bad : Bool) :
    (s.polarity g c bad).outside ps = s.outside ps := by simp at hp; simp [State.polarity, hp]
@[simp] theorem State.overloadWindow_outside {ps : List StatePart} (hp : [.metr, .bill] ⊆ ps) (c : Nat) :
    (s.overloadWindow c).outside ps = s.outside ps := by simp at hp; simp only [State.overloadWindow]; (repeat' split) <;> simp [hp]
@[simp] theorem State.dcWindow_outside {ps : List StatePart} (hp : [.metr, .bill] ⊆ ps) (n : Nat) :
    (s.dcWindow n).outside ps = s.outside ps := by
  simp at hp
  unfold State.dcWindow
  extract_lets cnt v i p s1 s2 s3
  have h2 : s2.outside ps = s.outside ps := by simp [s2, s1, hp]
  have h3 : s3.outside ps = s2.outside ps := by unfold s3; split <;> simp [hp]
  refine Eq.trans ?_ (h3.trans h2)
  split <;> simp [hp]
@[simp] theorem State.acSecond_outside {ps : List StatePart} (hp : [.metr] ⊆ ps) : s.acSecond.outside ps = s.outside ps := by
  simp at hp
  exact foldl_outside (fun t q => by dsimp only; split <;> simp [hp]) _ _
@[simp] theorem State.windows_outside {ps : List StatePart} (hp : [.metr, .bill] ⊆ ps) : s.windows.outside ps = s.outside ps := by
  simp at hp; simp [State.windows, hp]
@[simp] theorem State.tempTake_outside {ps : List StatePart} (hp : [.metr] ⊆ ps) (c : Nat) : (s.tempTake c).outside ps = s.outside ps := by
  simp at hp; unfold State.tempTake; split <;> simp [hp]
@[simp] theorem State.tempFeed_outside {ps : List StatePart} (hp : [.metr] ⊆ ps) (k : Nat) (temp : Int) (bad : Bool) :
    (s.tempFeed k temp bad).outside ps = s.outside ps := by simp at hp; simp [State.tempFeed, hp]
@[simp] theorem State.takeMap_outside {ps : List StatePart} (hp : [.metr, .bill] ⊆ ps) : s.takeMap.outside ps = s.outside ps := by
  simp at hp; unfold State.takeMap; split <;> simp [hp]
@[simp] theorem State.testSet_outside {ps : List StatePart} (hp : [.metr, .bill] ⊆ ps) (old new : Word) :
    (s.testSet old new).outside ps = s.outside ps := by simp at hp; simp [State.testSet, hp]
@[simp] theorem State.rwsEntry_outside {ps : List StatePart} (hp : [.metr, .bill] ⊆ ps) (e : Nat × Word) :
    (s.rwsEntry e).outside ps = s.outside ps := by simp at hp; simp [State.rwsEntry, hp]
@[simp] theorem State.rwsApply_outside {ps : List StatePart} (hp : [.metr, .bill] ⊆ ps) : s.rwsApply.outside ps = s.outside ps := by
  simp at hp; simp [State.rwsApply, hp]
@[simp] theorem State.takeStep_outside {ps : List StatePart} (hp : [.outl, .metr, .bill] ⊆ ps) : s.takeStep.outside ps = s.outside ps := by
  simp at hp; unfold State.takeStep; split <;> simp [hp]
@[simp] theorem State.logTamps_outside {ps : List StatePart} (hp : [.metr, .bill] ⊆ ps) : s.logTamps.outside ps = s.outside ps := by
  simp at hp; simp [State.logTamps, hp]
@[simp] theorem State.lineOffsets_outside {ps : List StatePart} (hp : [.metr, .bill] ⊆ ps) (l : DieLine) :
    (s.lineOffsets l).outside ps = s.outside ps := by simp at hp; simp [State.lineOffsets, hp]
@[simp] theorem State.takeLine_outside {ps : List StatePart} (hp : [.outl, .metr, .bill] ⊆ ps) (l : DieLine) :
    (s.takeLine l).outside ps = s.outside ps := by simp at hp; simp [State.takeLine, hp]
@[simp] theorem State.badLine_outside {ps : List StatePart} (hp : [.metr, .bill] ⊆ ps) : s.badLine.outside ps = s.outside ps := by
  simp at hp; simp [State.badLine, hp]
@[simp] theorem State.measure_outside {ps : List StatePart} (hp : [.metr, .bill] ⊆ ps) (codes : List Int) :
    (s.measure codes).outside ps = s.outside ps := by simp at hp; simp [State.measure, hp]
@[simp] theorem State.sampleInstant_outside {ps : List StatePart} (hp : [.outl, .metr, .bill] ⊆ ps) (codes : List Int) :
    (s.sampleInstant codes).outside ps = s.outside ps := by simp at hp; simp [State.sampleInstant, hp]
@[simp] theorem State.openChannel_outside {ps : List StatePart} (hp : [.metr, .bill] ⊆ ps) (c : Nat) :
    (s.openChannel c).outside ps = s.outside ps := by simp at hp; simp only [State.openChannel]; (repeat' split) <;> simp [hp]
@[simp] theorem State.biasTest_outside {ps : List StatePart} (hp : [.metr, .bill] ⊆ ps) (c moved : Nat) :
    (s.biasTest c moved).outside ps = s.outside ps := by simp at hp; simp [State.biasTest, hp]
@[simp] theorem State.showPhase_outside {ps : List StatePart} (hp : [.bill] ⊆ ps) (q : Nat) : (s.showPhase q).outside ps = s.outside ps := by
  simp at hp; simp [State.showPhase, hp]
@[simp] theorem State.gridCycle_outside {ps : List StatePart} (hp : [.metr, .bill] ⊆ ps) (freq : Nat) :
    (s.gridCycle freq).outside ps = s.outside ps := by simp at hp; simp [State.gridCycle, hp]
@[simp] theorem State.closeStats_outside {ps : List StatePart} (hp : [.metr, .bill] ⊆ ps) (c : Nat) :
    (s.closeStats c).outside ps = s.outside ps := by simp at hp; simp [State.closeStats, hp]
@[simp] theorem State.digestRegs_outside {ps : List StatePart} (hp : [.bill] ⊆ ps) (base : Nat → Nat) (d : List Byte) :
    (s.digestRegs base d).outside ps = s.outside ps := by simp at hp; simp [State.digestRegs, hp]
@[simp] theorem State.takeSeal_outside {ps : List StatePart} (hp : [.metr, .bill] ⊆ ps) : s.takeSeal.outside ps = s.outside ps := by
  simp at hp; simp [State.takeSeal, hp]
@[simp] theorem State.loopTo_outside {ps : List StatePart} (hp : [.metr] ⊆ ps) (st : Nat) : (s.loopTo st).outside ps = s.outside ps := by
  simp at hp; simp [State.loopTo, hp]
@[simp] theorem State.sealWord_outside {ps : List StatePart} (hp : [.metr, .bill] ⊆ ps) (ok : Bool) :
    (s.sealWord ok).outside ps = s.outside ps := by simp at hp; simp [State.sealWord, hp]
@[simp] theorem State.showChannel_outside {ps : List StatePart} (hp : [.bill] ⊆ ps) (c : Nat) :
    (s.showChannel c).outside ps = s.outside ps := by simp at hp; simp [State.showChannel, hp]
@[simp] theorem State.dieShow_outside {ps : List StatePart} (hp : [.bill] ⊆ ps) : s.dieShow.outside ps = s.outside ps := by
  simp at hp; simp [State.dieShow, hp]
@[simp] theorem State.sendRecord_outside {ps : List StatePart} (hp : [.metr, .bill] ⊆ ps) : s.sendRecord.outside ps = s.outside ps := by
  simp at hp; simp [State.sendRecord, hp]
@[simp] theorem State.dieReport_outside {ps : List StatePart} (hp : [.regs, .ev, .recent] ⊆ ps) (e : Nat × Count × Word) :
    (s.dieReport e).outside ps = s.outside ps := by simp at hp; simp [State.dieReport, hp]
@[simp] theorem State.recordQueue_outside {ps : List StatePart} (hp : [.queues, .ev, .free] ⊆ ps) (ts : Count) :
    (s.recordQueue ts).outside ps = s.outside ps := by simp at hp; simp [State.recordQueue, hp]
@[simp] theorem State.keepCopies_outside {ps : List StatePart} (hp : [.bill] ⊆ ps) (rs : List (Nat × Nat)) :
    (s.keepCopies rs).outside ps = s.outside ps := by simp at hp; simp [State.keepCopies, hp]
@[simp] theorem State.takeRecord_outside {ps : List StatePart} (hp : [.regs, .queues, .ev, .aloc, .metr, .bill, .recent, .free] ⊆ ps) (r
    : DieRec) : (s.takeRecord r).outside ps = s.outside ps := by simp at hp; simp [State.takeRecord, hp]
@[simp] theorem State.metrClrWrite_outside {ps : List StatePart} (hp : [.regs, .ev, .recent] ⊆ ps) (acc : Access) (val : Word) :
    (s.metrClrWrite acc val).outside ps = s.outside ps := by
  simp at hp
  exact s.command_outside (by simp [hp]) _ _ _ fun t => by split <;> simp [hp]
@[simp] theorem State.nextInstant_outside {ps : List StatePart} (hp : [.outl, .metr, .bill] ⊆ ps) (opens : Bool) :
    (s.nextInstant opens).outside ps = s.outside ps := by simp at hp; unfold State.nextInstant; split <;> simp [hp]
@[simp] theorem State.signNext_outside {ps : List StatePart} (hp : [.metr, .bill] ⊆ ps) : s.signNext.outside ps = s.outside ps := by
  simp at hp; unfold State.signNext; split <;> simp [hp]
@[simp] theorem State.logCut_outside {ps : List StatePart} (hp : [.metr, .bill] ⊆ ps) : s.logCut.outside ps = s.outside ps := by
  simp at hp; simp [State.logCut, hp]
@[simp] theorem State.dieDark_outside {ps : List StatePart} (hp : [.metr, .bill] ⊆ ps) : s.dieDark.outside ps = s.outside ps := by
  simp at hp; simp [State.dieDark, hp]
@[simp] theorem State.flushFailed_outside {ps : List StatePart} (hp : [.metr, .bill] ⊆ ps) : s.flushFailed.outside ps = s.outside ps := by
  simp at hp; simp [State.flushFailed, hp]
@[simp] theorem State.closeOpen_outside {ps : List StatePart} (hp : [.metr, .bill] ⊆ ps) : s.closeOpen.outside ps = s.outside ps := by
  simp at hp; simp [State.closeOpen, hp]
@[simp] theorem State.resendSettings_outside {ps : List StatePart} (hp : [.bill] ⊆ ps) : s.resendSettings.outside ps = s.outside ps := by
  simp at hp; simp [State.resendSettings, hp]
@[simp] theorem State.dieStart_outside {ps : List StatePart} (hp : [.metr, .bill] ⊆ ps) : s.dieStart.outside ps = s.outside ps := by
  simp at hp; simp [State.dieStart, hp]
@[simp] theorem State.dieProvision_outside {ps : List StatePart} (hp : [.bill] ⊆ ps) : s.dieProvision.outside ps = s.outside ps := by
  simp at hp; simp [State.dieProvision, hp]
@[simp] theorem State.billCtrlWrite_outside {ps : List StatePart} (hp : [.regs, .ev, .metr, .bill, .recent] ⊆ ps) (acc : Access) (val :
    Word) : (s.billCtrlWrite acc val).outside ps = s.outside ps := by
  simp at hp
  exact s.command_outside (by simp [hp]) _ _ _ fun t => by
    dsimp only
    split
    · rfl
    · split <;> simp [hp]
@[simp] theorem State.applySetting_outside {ps : List StatePart} (hp : [.bill] ⊆ ps) (addr : Nat) (w : Word) :
    (s.applySetting addr w).outside ps = s.outside ps := by simp at hp; simp [State.applySetting, hp]
@[simp] theorem State.applySettings_outside {ps : List StatePart} (hp : [.metr, .bill] ⊆ ps) : s.applySettings.outside ps = s.outside ps := by
  simp at hp; simp [State.applySettings, hp]
@[simp] theorem State.billRecSelect_outside {ps : List StatePart} (hp : [.pregs, .bill] ⊆ ps) (p : Path) (val : Word) :
    (s.billRecSelect p val).outside ps = s.outside ps := by simp at hp; simp [State.billRecSelect, hp]
@[simp] theorem State.billRecSelWrite_outside {ps : List StatePart} (hp : [.regs, .pregs, .tm, .ev, .img, .ctx, .bill, .recent] ⊆ ps)
    (acc : Access) (val : Word) : (s.billRecSelWrite acc val).outside ps = s.outside ps := by simp at hp; simp [State.billRecSelWrite, hp]
@[simp] theorem State.recordReady_outside {ps : List StatePart} (hp : [.pregs, .bill, .bytes] ⊆ ps) (p : Path) (sel : Nat) :
    (s.recordReady p sel).outside ps = s.outside ps := by simp at hp; unfold State.recordReady; split <;> simp [hp]
@[simp] theorem State.sendDisplay_outside {ps : List StatePart} (hp : [.bill] ⊆ ps) (n : Nat) :
    (s.sendDisplay n).outside ps = s.outside ps := by simp at hp; simp [State.sendDisplay, hp]
@[simp] theorem State.canSendWrite_outside {ps : List StatePart} (hp : [.regs, .ev, .can, .recent] ⊆ ps) (acc : Access) (k p : Nat) (val
    : Word) : (s.canSendWrite acc k p val).outside ps = s.outside ps := by simp at hp; simp [State.canSendWrite, hp]
@[simp] theorem State.canStageWrite_outside {ps : List StatePart} (hp : [.regs, .pregs, .tm, .ev, .img, .ctx, .recent] ⊆ ps) (acc :
    Access) (addr : Nat) (val : Word) : (s.canStageWrite acc addr val).outside ps = s.outside ps := by
  simp at hp; simp [State.canStageWrite, hp]
@[simp] theorem State.portTick_outside {ps : List StatePart} (hp : [.regs, .can, .recent] ⊆ ps) (k p : Nat) :
    (s.portTick k p).outside ps = s.outside ps := by simp at hp; simp [State.portTick, hp]
@[simp] theorem State.canCycle_outside {ps : List StatePart} (hp : [.regs, .queues, .ev, .can] ⊆ ps) (k : Nat) :
    (s.canCycle k).outside ps = s.outside ps := by simp at hp; simp [State.canCycle, hp]
@[simp] theorem State.canFlags_outside {ps : List StatePart} (hp : [.can] ⊆ ps) : s.canFlags.outside ps = s.outside ps := by
  simp at hp; simp [State.canFlags, hp]
@[simp] theorem State.canBoundary_outside {ps : List StatePart} (hp : [.regs, .queues, .ev, .can] ⊆ ps) :
    s.canBoundary.outside ps = s.outside ps := by simp at hp; simp [State.canBoundary, hp]
@[simp] theorem State.canConf_outside {ps : List StatePart} (hp : [.regs, .ev] ⊆ ps) (k : Nat) : (s.canConf k).outside ps = s.outside ps := by
  simp at hp; simp [State.canConf, hp]
@[simp] theorem State.setErrs_outside {ps : List StatePart} (hp : [.regs, .ev] ⊆ ps) (k tec rc : Nat) :
    (s.setErrs k tec rc).outside ps = s.outside ps := by simp at hp; simp [State.setErrs, hp]
@[simp] theorem State.busOff_outside {ps : List StatePart} (hp : [.regs, .ev, .can, .recent] ⊆ ps) (k : Nat) :
    (s.busOff k).outside ps = s.outside ps := by simp at hp; simp [State.busOff, hp]
@[simp] theorem State.wireSet_outside {ps : List StatePart} (hp : [.regs, .ev, .can, .recent] ⊆ ps) (k f : Nat) :
    (s.wireSet k f).outside ps = s.outside ps := by simp at hp; simp [State.wireSet, hp]
@[simp] theorem State.wireGone_outside {ps : List StatePart} (hp : [.can] ⊆ ps) (k f : Nat) : (s.wireGone k f).outside ps = s.outside ps := by
  simp at hp; simp [State.wireGone, hp]
@[simp] theorem State.ackStep_outside {ps : List StatePart} (hp : [.regs, .ev, .can, .recent] ⊆ ps) (k : Nat) (failed : Bool) :
    (s.ackStep k failed).outside ps = s.outside ps := by simp at hp; simp [State.ackStep, hp]
@[simp] theorem State.canLost_outside {ps : List StatePart} (hp : [.ev] ⊆ ps) (k o count : Nat) :
    (s.canLost k o count).outside ps = s.outside ps := by simp at hp; simp only [State.canLost]; split <;> simp [hp]
@[simp] theorem State.storeFrame_outside {ps : List StatePart} (hp : [.regs, .ev, .safe, .can, .recent] ⊆ ps) (k o : Nat) (m : CanMsg)
    (sof : Count) : (s.storeFrame k o m sof).outside ps = s.outside ps := by simp at hp; simp [State.storeFrame, hp]
@[simp] theorem State.frameSeen_outside {ps : List StatePart} (hp : [.acq, .can] ⊆ ps) (k : Nat) (m : CanMsg) (sof : Count) :
    (s.frameSeen k m sof).outside ps = s.outside ps := by simp at hp; simp [State.frameSeen, hp]
@[simp] theorem State.canLeft_outside {ps : List StatePart} (hp : [.queues, .can, .free] ⊆ ps) (x : Side) (k : Nat) (e : CanEng) :
    (s.canLeft x k e).outside ps = s.outside ps := by simp at hp; simp [State.canLeft, hp]
@[simp] theorem State.sentOn_outside {ps : List StatePart} (hp : [.queues, .ev, .can, .free] ⊆ ps) (x : Side) (k : Nat) (m : CanMsg) :
    (s.sentOn x k m).outside ps = s.outside ps := by simp at hp; simp [State.sentOn, hp]
@[simp] theorem State.countSent_outside {ps : List StatePart} (hp : [.regs, .recent] ⊆ ps) (k : Nat) (m : CanMsg) :
    (s.countSent k m).outside ps = s.outside ps := by simp at hp; unfold State.countSent; split <;> simp [hp]
@[simp] theorem State.rxWindow_outside {ps : List StatePart} (hp : [.pregs] ⊆ ps) (p : Path) (k : Nat) (bs : List Byte) :
    (s.rxWindow p k bs).outside ps = s.outside ps := by simp at hp; simp [State.rxWindow, hp]
@[simp] theorem State.canRxSelect_outside {ps : List StatePart} (hp : [.pregs, .ev, .can] ⊆ ps) (p : Path) (k : Nat) (val : Word) :
    (s.canRxSelect p k val).outside ps = s.outside ps := by simp at hp; simp [State.canRxSelect, hp]
@[simp] theorem State.canRxSelWrite_outside {ps : List StatePart} (hp : [.regs, .pregs, .tm, .ev, .img, .ctx, .can, .recent] ⊆ ps) (acc
    : Access) (k : Nat) (val : Word) : (s.canRxSelWrite acc k val).outside ps = s.outside ps := by
  simp at hp; simp [State.canRxSelWrite, hp]
@[simp] theorem State.canBothLeave_outside {ps : List StatePart} (hp : [.queues, .can, .free] ⊆ ps) (k : Nat) (f : CanEng → CanEng) :
    (s.canBothLeave k f).outside ps = s.outside ps := by simp at hp; simp [State.canBothLeave, hp]
@[simp] theorem State.countPurged_outside {ps : List StatePart} (hp : [.regs, .recent] ⊆ ps) (k n : Nat) :
    (s.countPurged k n).outside ps = s.outside ps := by simp at hp; simp [State.countPurged, hp]
@[simp] theorem State.canSleepNow_outside {ps : List StatePart} (hp : [.regs, .can] ⊆ ps) (k : Nat) :
    (s.canSleepNow k).outside ps = s.outside ps := by simp at hp; simp [State.canSleepNow, hp]
@[simp] theorem State.canRequestSleep_outside {ps : List StatePart} (hp : [.can] ⊆ ps) (k : Nat) :
    (s.canRequestSleep k).outside ps = s.outside ps := by simp at hp; simp [State.canRequestSleep, hp]
@[simp] theorem State.canWakeUp_outside {ps : List StatePart} (hp : [.regs, .pregs, .tm, .queues, .tags, .ev, .img, .ctx, .keep, .host,
    .loop, .edge, .qset, .ring, .sst, .outs, .aloc, .cool, .outl, .safe, .acq, .can, .lsw, .mem, .sup, .bytes, .recent, .owed] ⊆ ps) (k src
    : Nat) (ide : Bool) (id : Nat) : (s.canWakeUp k src ide id).outside ps = s.outside ps := by simp at hp; simp [State.canWakeUp, hp]
@[simp] theorem State.canPurge_outside {ps : List StatePart} (hp : [.regs, .queues, .can, .recent, .free] ⊆ ps) (k : Nat) (wire : Bool)
    : (s.canPurge k wire).outside ps = s.outside ps := by simp at hp; simp [State.canPurge, hp]
@[simp] theorem State.canLeaveHalt_outside {ps : List StatePart} (hp : [.regs, .can] ⊆ ps) (k : Nat) :
    (s.canLeaveHalt k).outside ps = s.outside ps := by simp at hp; simp [State.canLeaveHalt, hp]
@[simp] theorem State.canCtrlWrite_outside {ps : List StatePart} (hp : [.regs, .pregs, .tm, .queues, .tags, .ev, .img, .ctx, .keep,
    .host, .loop, .edge, .qset, .ring, .sst, .outs, .aloc, .cool, .outl, .safe, .acq, .can, .lsw, .mem, .sup, .bytes, .recent, .owed, .free]
    ⊆ ps) (acc : Access) (k : Nat) (val : Word) (wire : Bool) : (s.canCtrlWrite acc k val wire).outside ps = s.outside ps := by
  simp at hp; simp [State.canCtrlWrite, hp]
@[simp] theorem State.canClrWrite_outside {ps : List StatePart} (hp : [.regs, .ev, .can, .recent] ⊆ ps) (acc : Access) (k : Nat) (val :
    Word) : (s.canClrWrite acc k val).outside ps = s.outside ps := by
  simp at hp
  exact s.command_outside (by simp [hp]) _ _ _ fun t => by dsimp only; split <;> simp [hp]
@[simp] theorem State.canFailover_outside {ps : List StatePart} (hp : [.regs, .can, .recent, .free] ⊆ ps) (lost : Side) :
    (s.canFailover lost).outside ps = s.outside ps := by simp at hp; simp [State.canFailover, hp]
@[simp] theorem State.canSwitch_outside {ps : List StatePart} (hp : [.regs, .can, .recent] ⊆ ps) (old : Side) :
    (s.canSwitch old).outside ps = s.outside ps := by simp at hp; simp [State.canSwitch, hp]
@[simp] theorem State.canJoin_outside {ps : List StatePart} (hp : [.can] ⊆ ps) (x : Side) : (s.canJoin x).outside ps = s.outside ps := by
  simp at hp; simp [State.canJoin, hp]
@[simp] theorem State.setLsw_outside {ps : List StatePart} (hp : [.lsw] ⊆ ps) (n : Nat) (c : LswCh) :
    (s.setLsw n c).outside ps = s.outside ps := by simp at hp; simp [State.setLsw, hp]
@[simp] theorem State.setLs_outside {ps : List StatePart} (hp : [.regs] ⊆ ps) (n : Nat) (f : Field) (v : Nat) :
    (s.setLs n f v).outside ps = s.outside ps := by simp at hp; simp [State.setLs, hp]
@[simp] theorem State.lswEnter_outside {ps : List StatePart} (hp : [.regs, .lsw] ⊆ ps) (n st : Nat) :
    (s.lswEnter n st).outside ps = s.outside ps := by simp at hp; simp [State.lswEnter, hp]
@[simp] theorem State.inrush_outside {ps : List StatePart} (hp : [.regs, .lsw] ⊆ ps) (n : Nat) : (s.inrush n).outside ps = s.outside ps := by
  simp at hp; simp [State.inrush, hp]
@[simp] theorem State.clampTurnOff_outside {ps : List StatePart} (hp : [.regs, .ev, .lsw, .recent] ⊆ ps) (n e : Nat) :
    (s.clampTurnOff n e).outside ps = s.outside ps := by simp at hp; simp [State.clampTurnOff, hp]
@[simp] theorem State.turnOff_outside {ps : List StatePart} (hp : [.regs, .ev, .lsw, .recent] ⊆ ps) (n st e : Nat) :
    (s.turnOff n st e).outside ps = s.outside ps := by simp at hp; simp [State.turnOff, hp]
@[simp] theorem State.faultOff_outside {ps : List StatePart} (hp : [.regs, .ev, .lsw, .recent] ⊆ ps) (n st cause ev e : Nat) :
    (s.faultOff n st cause ev e).outside ps = s.outside ps := by simp at hp; simp [State.faultOff, hp]
@[simp] theorem State.lswFollow_outside {ps : List StatePart} (hp : [.regs, .ev, .lsw, .recent] ⊆ ps) (n e : Nat) :
    (s.lswFollow n e).outside ps = s.outside ps := by simp at hp; simp [State.lswFollow, hp]
@[simp] theorem State.lswCommand_outside {ps : List StatePart} (hp : [.regs, .ev, .lsw, .recent] ⊆ ps) (n : Nat) (on : Bool) (e : Nat) :
    (s.lswCommand n on e).outside ps = s.outside ps := by simp at hp; simp [State.lswCommand, hp]
@[simp] theorem State.fogDrive_outside {ps : List StatePart} (hp : [.regs, .ev, .lsw, .recent] ⊆ ps) (n e : Nat) :
    (s.fogDrive n e).outside ps = s.outside ps := by simp at hp; simp [State.fogDrive, hp]
@[simp] theorem State.freeEnergy_outside {ps : List StatePart} (hp : [.free] ⊆ ps) : s.freeEnergy.2.outside ps = s.outside ps := by
  simp at hp; simp [State.freeEnergy, hp]
@[simp] theorem State.fogEnter_outside {ps : List StatePart} (hp : [.regs, .ev, .lsw, .recent, .free] ⊆ ps) (cause : Nat) :
    (s.fogEnter cause).outside ps = s.outside ps := by simp at hp; simp [State.fogEnter, hp]
@[simp] theorem State.fogRelease_outside {ps : List StatePart} (hp : [.regs, .lsw] ⊆ ps) (n : Nat) :
    (s.fogRelease n).outside ps = s.outside ps := by simp at hp; simp [State.fogRelease, hp]
@[simp] theorem State.fogExit_outside {ps : List StatePart} (hp : [.regs, .ev, .lsw] ⊆ ps) : s.fogExit.outside ps = s.outside ps := by
  simp at hp; simp [State.fogExit, hp]
@[simp] theorem State.fogClear_outside {ps : List StatePart} (hp : [.regs, .lsw] ⊆ ps) (n : Nat) (idle : Bool) :
    (s.fogClear n idle).outside ps = s.outside ps := by simp at hp; simp [State.fogClear, hp]
@[simp] theorem State.lswCtrlWrite_outside {ps : List StatePart} (hp : [.regs, .ev, .lsw, .recent] ⊆ ps) (acc : Access) (n : Nat) (val :
    Word) : (s.lswCtrlWrite acc n val).outside ps = s.outside ps := by simp at hp; simp [State.lswCtrlWrite, hp]
@[simp] theorem State.lswCycle_outside {ps : List StatePart} (hp : [.regs, .ev, .lsw, .recent] ⊆ ps) (n e : Nat) :
    (s.lswCycle n e).outside ps = s.outside ps := by simp at hp; simp only [State.lswCycle]; (repeat' split) <;> simp [hp]
@[simp] theorem State.lswLoad_outside {ps : List StatePart} (hp : [.lsw] ⊆ ps) : s.lswLoad.outside ps = s.outside ps := by
  simp at hp; simp [State.lswLoad, hp]
@[simp] theorem State.lswBoundary_outside {ps : List StatePart} (hp : [.regs, .ev, .lsw, .recent] ⊆ ps) (i : LswIn) :
    (s.lswBoundary i).outside ps = s.outside ps := by simp at hp; simp [State.lswBoundary, hp]
@[simp] theorem State.lswAllOff_outside {ps : List StatePart} (hp : [.regs, .ev, .lsw, .recent, .free] ⊆ ps) :
    s.lswAllOff.outside ps = s.outside ps := by simp at hp; simp [State.lswAllOff, hp]
@[simp] theorem State.railDown_outside {ps : List StatePart} (hp : [.regs, .ev, .lsw, .recent] ⊆ ps) (r : Nat) (energy : SMap Nat) :
    (s.railDown r energy).outside ps = s.outside ps := by simp at hp; simp [State.railDown, hp]
@[simp] theorem State.lswFlag_outside {ps : List StatePart} (hp : [.regs, .ev] ⊆ ps) (n : Nat) (f : Field) (ev : Nat) :
    (s.lswFlag n f ev).outside ps = s.outside ps := by simp at hp; simp [State.lswFlag, hp]
@[simp] theorem State.lswSnsSelWrite_outside {ps : List StatePart} (hp : [.regs, .tm, .ev, .img, .ctx, .recent] ⊆ ps) (acc : Access)
    (val : Word) : (s.lswSnsSelWrite acc val).outside ps = s.outside ps := by simp at hp; simp [State.lswSnsSelWrite, hp]
@[simp] theorem State.lswClrWrite_outside {ps : List StatePart} (hp : [.regs, .ev, .recent] ⊆ ps) (acc : Access) (val : Word) :
    (s.lswClrWrite acc val).outside ps = s.outside ps := by
  simp at hp
  exact s.command_outside (by simp [hp]) _ _ _ fun t => by split <;> simp [hp]
@[simp] theorem State.setPtp_outside {ps : List StatePart} (hp : [.tm] ⊆ ps) (n : Nat) (p : PtpPort) :
    (s.setPtp n p).outside ps = s.outside ps := by simp at hp; simp [State.setPtp, hp]
@[simp] theorem State.selectSource_outside {ps : List StatePart} (hp : [.regs, .tm] ⊆ ps) : s.selectSource.outside ps = s.outside ps := by
  simp at hp; unfold State.selectSource; split <;> simp [hp]
@[simp] theorem State.setOffset_outside {ps : List StatePart} (hp : [.regs] ⊆ ps) (ns : Int) : (s.setOffset ns).outside ps = s.outside ps := by
  simp at hp; simp [State.setOffset, hp]
@[simp] theorem State.lockStep_outside {ps : List StatePart} (hp : [.regs, .tm] ⊆ ps) (d : Int) : (s.lockStep d).outside ps = s.outside ps := by
  simp at hp; simp [State.lockStep, hp]
@[simp] theorem State.servo_outside {ps : List StatePart} (hp : [.tm, .free] ⊆ ps) : s.servo.outside ps = s.outside ps := by
  simp at hp; simp [State.servo, hp]
@[simp] theorem State.ptpOffset_outside {ps : List StatePart} (hp : [.regs, .tm, .free] ⊆ ps) (d : Int) :
    (s.ptpOffset d).outside ps = s.outside ps := by simp at hp; simp [State.ptpOffset, hp]
@[simp] theorem State.correct_outside {ps : List StatePart} (hp : [.regs, .tm, .free] ⊆ ps) (delta : Int) :
    (s.correct delta).outside ps = s.outside ps := by simp at hp; simp [State.correct, hp]
@[simp] theorem State.applyStep_outside {ps : List StatePart} (hp : [.regs, .tm, .ev] ⊆ ps) : s.applyStep.outside ps = s.outside ps := by
  simp at hp; unfold State.applyStep; split <;> simp [hp]
@[simp] theorem State.requestTime_outside {ps : List StatePart} (hp : [.regs, .tm, .free] ⊆ ps) (hi : Word) :
    (s.requestTime hi).outside ps = s.outside ps := by simp at hp; simp [State.requestTime, hp]
@[simp] theorem State.timeSetHiWrite_outside {ps : List StatePart} (hp : [.regs, .tm, .ev, .img, .ctx, .recent, .free] ⊆ ps) (acc :
    Access) (val : Word) : (s.timeSetHiWrite acc val).outside ps = s.outside ps := by
  simp at hp
  exact s.command_outside (by simp [hp]) _ _ _ fun t => by
    split
    · simp [hp]
    · exact t.setting_outside (by simp [hp]) _ _ _ (fun u => by simp [hp]) fun u => rfl
@[simp] theorem State.timeQueueSelWrite_outside {ps : List StatePart} (hp : [.regs, .pregs, .tm, .ev, .img, .ctx, .recent] ⊆ ps) (acc :
    Access) (val : Word) : (s.timeQueueSelWrite acc val).outside ps = s.outside ps := by simp at hp; simp [State.timeQueueSelWrite, hp]
@[simp] theorem State.clearLosses_outside {ps : List StatePart} (hp : [.queues, .ev] ⊆ ps) (x : Side) (n : Nat) :
    (s.clearLosses x n).outside ps = s.outside ps := by simp at hp; simp [State.clearLosses, hp]
@[simp] theorem State.timeQueueClrWrite_outside {ps : List StatePart} (hp : [.regs, .queues, .ev, .recent] ⊆ ps) (acc : Access) (val :
    Word) : (s.timeQueueClrWrite acc val).outside ps = s.outside ps := by simp at hp; simp [State.timeQueueClrWrite, hp]
@[simp] theorem State.showLoops_outside {ps : List StatePart} (hp : [.regs] ⊆ ps) : s.showLoops.outside ps = s.outside ps := by
  simp at hp; simp [State.showLoops, hp]
@[simp] theorem State.showCounts_outside {ps : List StatePart} (hp : [.regs] ⊆ ps) : s.showCounts.outside ps = s.outside ps := by
  simp at hp; simp [State.showCounts, hp]
@[simp] theorem State.loopFlip_outside {ps : List StatePart} (hp : [.regs, .keep] ⊆ ps) (before : State) (addrs : List Nat) :
    (s.loopFlip before addrs).outside ps = s.outside ps := by simp at hp; simp [State.loopFlip, hp]
@[simp] theorem State.quantumFlip_outside {ps : List StatePart} (hp : [.regs] ⊆ ps) (before : State) (addrs : List Nat) :
    (s.quantumFlip before addrs).outside ps = s.outside ps := by simp at hp; simp [State.quantumFlip, hp]
@[simp] theorem State.safeFlip_outside {ps : List StatePart} (hp : [.regs, .safe] ⊆ ps) (addrs : List Nat) :
    (s.safeFlip addrs).outside ps = s.outside ps := by simp at hp; simp [State.safeFlip, hp]
@[simp] theorem State.billFlip_outside {ps : List StatePart} (hp : [.bill] ⊆ ps) (addrs : List Nat) :
    (s.billFlip addrs).outside ps = s.outside ps := by simp at hp; simp [State.billFlip, hp]
@[simp] theorem State.ltrWritten_outside {ps : List StatePart} (hp : [.sup] ⊆ ps) (addrs : List Nat) :
    (s.ltrWritten addrs).outside ps = s.outside ps := by simp at hp; simp [State.ltrWritten, hp]
@[simp] theorem State.timeFlip_outside {ps : List StatePart} (hp : [.regs, .tm] ⊆ ps) (addrs : List Nat) :
    (s.timeFlip addrs).outside ps = s.outside ps := by simp at hp; simp [State.timeFlip, hp]
@[simp] theorem State.flipHooks_outside {ps : List StatePart} (hp : [.regs, .tm, .keep, .edge, .ring, .sst, .safe, .bill, .sup] ⊆ ps)
    (before : State) (addrs : List Nat) : (s.flipHooks before addrs).outside ps = s.outside ps := by
  simp at hp; simp [State.flipHooks, hp]
theorem State.entryDue_outside {ps : List StatePart} (hp : [.pregs, .ev, .metr, .bill, .acq, .can, .bytes] ⊆ ps) {p : Path}
    {addr : Nat} {val : Word} {t : State} (h : s.entryDue p addr val = some t) : t.outside ps = s.outside ps := by
  simp at hp
  unfold State.entryDue at h
  (repeat' split at h) <;> simp at h <;> simp [← h, hp]
@[simp] theorem State.pairsOrphan_outside {ps : List StatePart} (hp : [.regs, .edge] ⊆ ps) (b : Bool) :
    (s.pairsOrphan b).outside ps = s.outside ps := by simp at hp; simp [State.pairsOrphan, hp]
@[simp] theorem State.qsetLoad_outside {ps : List StatePart} (hp : [.regs, .edge] ⊆ ps) : s.qsetLoad.outside ps = s.outside ps := by
  simp at hp; simp [State.qsetLoad, hp]
@[simp] theorem State.holdHooks_outside {ps : List StatePart} (hp : [.regs, .pregs, .queues, .ev, .edge, .ring, .sst, .outl, .safe,
    .acq, .lsw, .bytes, .recent, .free] ⊆ ps) : s.holdHooks.outside ps = s.outside ps := by simp at hp; simp [State.holdHooks, hp]
@[simp] theorem State.loadHooks_outside {ps : List StatePart} (hp : [.regs, .ev, .loop, .edge, .sst, .outs, .cool, .outl, .lsw] ⊆ ps) :
    s.loadHooks.outside ps = s.outside ps := by simp at hp; simp [State.loadHooks, hp]
@[simp] theorem State.safeHold_outside {ps : List StatePart} (hp : [.regs, .pregs, .queues, .ev, .img, .edge, .ring, .sst, .outl, .safe,
    .acq, .lsw, .bytes, .recent, .free] ⊆ ps) : s.safeHold.outside ps = s.outside ps := by simp at hp; simp [State.safeHold, hp]
@[simp] theorem State.tryLoad_outside {ps : List StatePart} (hp : [.regs, .pregs, .ev, .img, .keep, .loop, .edge, .sst, .outs, .cool,
    .outl, .safe, .metr, .acq, .can, .lsw] ⊆ ps) (n : Nat) : ((s.tryLoad n).1).outside ps = s.outside ps := by
  simp at hp; simp only [State.tryLoad]; (repeat' split) <;> simp [hp]
@[simp] theorem State.startActivation_outside {ps : List StatePart} (hp : [.regs, .pregs, .queues, .ev, .img, .edge, .ring, .sst, .outl,
    .safe, .acq, .lsw, .bytes, .recent, .free] ⊆ ps) (n : Nat) : (s.startActivation n).outside ps = s.outside ps := by
  simp at hp; simp [State.startActivation, hp]
@[simp] theorem State.confirmSlot_outside {ps : List StatePart} (hp : [.regs] ⊆ ps) : s.confirmSlot.outside ps = s.outside ps := by
  simp at hp; simp [State.confirmSlot, hp]
@[simp] theorem State.requestActivation_outside {ps : List StatePart} (hp : [.regs, .pregs, .queues, .ev, .img, .edge, .ring, .sst,
    .outl, .safe, .acq, .lsw, .bytes, .recent, .free] ⊆ ps) : s.requestActivation.outside ps = s.outside ps := by
  simp at hp; simp [State.requestActivation, hp]
@[simp] theorem State.slotActs_outside {ps : List StatePart} (hp : [.regs, .pregs, .queues, .ev, .img, .edge, .ring, .sst, .outl, .safe,
    .acq, .lsw, .bytes, .recent, .free] ⊆ ps) (val : Word) : (s.slotActs val).outside ps = s.outside ps := by
  simp at hp; simp [State.slotActs, hp]
@[simp] theorem State.slotCtrlWrite_outside {ps : List StatePart} (hp : [.regs, .pregs, .tm, .queues, .ev, .img, .ctx, .edge, .ring,
    .sst, .outl, .safe, .acq, .lsw, .bytes, .recent, .free] ⊆ ps) (acc : Access) (val : Word) :
    (s.slotCtrlWrite acc val).outside ps = s.outside ps := by simp at hp; simp [State.slotCtrlWrite, hp]
@[simp] theorem State.startTrial_outside {ps : List StatePart} (hp : [.regs, .img] ⊆ ps) : s.startTrial.outside ps = s.outside ps := by
  simp at hp; simp [State.startTrial, hp]
@[simp] theorem State.txnBegin_outside {ps : List StatePart} (hp : [.regs, .ev, .ctx, .recent] ⊆ ps) (acc : Access) (n : Nat) :
    (s.txnBegin acc n).outside ps = s.outside ps := by simp at hp; simp [State.txnBegin, hp]
@[simp] theorem State.txnOwned_outside {ps : List StatePart} (hp : [.ev] ⊆ ps) (acc : Access) (n : Nat) {act : Ctx → State} (hact : ∀ c,
    (act c).outside ps = s.outside ps) : (s.txnOwned acc n act).outside ps = s.outside ps := by
  simp at hp; simp [State.txnOwned, hact, hp]
@[simp] theorem State.txnCommit_outside {ps : List StatePart} (hp : [.ev, .ctx] ⊆ ps) (acc : Access) (n : Nat) (trial : Bool) :
    (s.txnCommit acc n trial).outside ps = s.outside ps := by simp at hp; simp [State.txnCommit, hp]
@[simp] theorem State.endContext_outside {ps : List StatePart} (hp : [.ctx] ⊆ ps) (n result reason : Nat) :
    (s.endContext n result reason).outside ps = s.outside ps := by simp at hp; simp [State.endContext, hp]
@[simp] theorem State.txnAbort_outside {ps : List StatePart} (hp : [.ev, .ctx] ⊆ ps) (acc : Access) (n : Nat) :
    (s.txnAbort acc n).outside ps = s.outside ps := by simp at hp; simp [State.txnAbort, hp]
@[simp] theorem State.txnConfirm_outside {ps : List StatePart} (hp : [.ev, .ctx] ⊆ ps) (acc : Access) (n : Nat) :
    (s.txnConfirm acc n).outside ps = s.outside ps := by simp at hp; simp [State.txnConfirm, hp]
@[simp] theorem State.sessionClose_outside {ps : List StatePart} (hp : [.ev, .ctx] ⊆ ps) (path : Path) (session : Nat) :
    (s.sessionClose path session).outside ps = s.outside ps := by
  simp at hp
  exact foldl_outside (fun t n => by dsimp only; split <;> [split <;> simp [hp]; rfl]) _ _
@[simp] theorem State.refuse_outside {ps : List StatePart} (hp : [.ev, .ctx] ⊆ ps) (n reason : Nat) :
    (s.refuse n reason).outside ps = s.outside ps := by simp at hp; simp [State.refuse, hp]
@[simp] theorem State.txnValidated_outside {ps : List StatePart} (hp : [.ev, .ctx] ⊆ ps) (n : Nat) :
    (s.txnValidated n).outside ps = s.outside ps := by simp at hp; simp [State.txnValidated, hp]
@[simp] theorem State.applyEntry_outside {ps : List StatePart} (hp : [.regs, .pregs, .ev, .metr, .bill, .acq, .can, .bytes] ⊆ ps) (p :
    Path) (e : Nat × Word) : (s.applyEntry p e).outside ps = s.outside ps := by
  simp at hp
  unfold State.applyEntry
  split
  · exact s.entryDue_outside (by simp [hp]) ‹_›
  · split <;> simp [hp]
@[simp] theorem State.refuseSealed_outside {ps : List StatePart} (hp : [.ev, .ctx] ⊆ ps) (n : Nat) :
    (s.refuseSealed n).outside ps = s.outside ps := by simp at hp; simp [State.refuseSealed, hp]
@[simp] theorem State.settle_outside {ps : List StatePart} (hp : [.ev, .ctx] ⊆ ps) (ns : List Nat) :
    ((s.settle ns).1).outside ps = s.outside ps := by simp at hp; simp [State.settle, hp]
@[simp] theorem State.timeRequested_outside {ps : List StatePart} (hp : [.regs, .tm, .ev, .free] ⊆ ps) (c : Ctx) :
    (s.timeRequested c).outside ps = s.outside ps := by simp at hp; simp [State.timeRequested, hp]
@[simp] theorem State.flipOne_outside {ps : List StatePart} (hp : [.regs, .pregs, .tm, .ev, .img, .ctx, .keep, .edge, .ring, .sst,
    .safe, .metr, .bill, .acq, .can, .sup, .bytes, .free] ⊆ ps) (n : Nat) : (s.flipOne n).outside ps = s.outside ps := by
  simp at hp; simp [State.flipOne, hp]
@[simp] theorem State.flipFollowed_outside {ps : List StatePart} (hp : [.tm, .keep] ⊆ ps) (before : State) (n : Nat) (es : List (Nat ×
    Word)) : (s.flipFollowed before n es).outside ps = s.outside ps := by simp at hp; simp [State.flipFollowed, hp]
@[simp] theorem State.txnFlip_outside {ps : List StatePart} (hp : [.regs, .pregs, .tm, .ev, .img, .ctx, .keep, .edge, .ring, .sst,
    .safe, .metr, .bill, .acq, .can, .sup, .bytes, .free] ⊆ ps) : s.txnFlip.outside ps = s.outside ps := by
  simp at hp; simp [State.txnFlip, hp]
@[simp] theorem State.rollBack_outside {ps : List StatePart} (hp : [.regs, .pregs, .tm, .ev, .ctx, .keep, .edge, .ring, .sst, .safe,
    .metr, .bill, .acq, .can, .sup, .bytes] ⊆ ps) (n reason : Nat) : (s.rollBack n reason).outside ps = s.outside ps := by
  simp at hp; simp [State.rollBack, hp]
@[simp] theorem State.confirmTrial_outside {ps : List StatePart} (hp : [.img, .ctx] ⊆ ps) (n : Nat) :
    (s.confirmTrial n).outside ps = s.outside ps := by simp at hp; simp [State.confirmTrial, hp]
@[simp] theorem State.trialBoundary_outside {ps : List StatePart} (hp : [.regs, .pregs, .tm, .ev, .img, .ctx, .keep, .edge, .ring, .sst,
    .safe, .metr, .bill, .acq, .can, .sup, .bytes] ⊆ ps) (n : Nat) : (s.trialBoundary n).outside ps = s.outside ps := by
  simp at hp; simp only [State.trialBoundary]; (repeat' split) <;> simp [hp]
@[simp] theorem State.txnBoundary_outside {ps : List StatePart} (hp : [.regs, .pregs, .tm, .ev, .img, .ctx, .keep, .edge, .ring, .sst,
    .safe, .metr, .bill, .acq, .can, .sup, .bytes, .free] ⊆ ps) : s.txnBoundary.outside ps = s.outside ps := by
  simp at hp; simp [State.txnBoundary, hp]
@[simp] theorem State.txnCtrlWrite_outside {ps : List StatePart} (hp : [.regs, .ev, .ctx, .recent] ⊆ ps) (acc : Access) (n : Nat) (val :
    Word) : (s.txnCtrlWrite acc n val).outside ps = s.outside ps := by simp at hp; simp [State.txnCtrlWrite, hp]
@[simp] theorem State.txnTrialWrite_outside {ps : List StatePart} (hp : [.regs, .ev, .img, .recent] ⊆ ps) (acc : Access) (n : Nat) (val
    : Word) : (s.txnTrialWrite acc n val).outside ps = s.outside ps := by simp at hp; simp [State.txnTrialWrite, hp]
@[simp] theorem State.showConns_outside {ps : List StatePart} (hp : [.regs] ⊆ ps) : s.showConns.outside ps = s.outside ps := by
  simp at hp; simp [State.showConns, hp]
@[simp] theorem State.dropParts_outside {ps : List StatePart} (hp : [.host] ⊆ ps) (p : Path) (session : Nat) :
    (s.dropParts p session).outside ps = s.outside ps := by simp at hp; simp [State.dropParts, hp]
@[simp] theorem State.closeConn_outside {ps : List StatePart} (hp : [.regs, .ev, .ctx, .host] ⊆ ps) (c : Nat) :
    (s.closeConn c).outside ps = s.outside ps := by simp at hp; unfold State.closeConn; split <;> simp [hp]
@[simp] theorem State.closeConns_outside {ps : List StatePart} (hp : [.regs, .ev, .ctx, .host] ⊆ ps) :
    s.closeConns.outside ps = s.outside ps := by simp at hp; simp [State.closeConns, hp]
@[simp] theorem State.closeHost_outside {ps : List StatePart} (hp : [.regs, .ev, .ctx, .host] ⊆ ps) :
    s.closeHost.outside ps = s.outside ps := by simp at hp; simp [State.closeHost, hp]
@[simp] theorem State.emptyBank_outside {ps : List StatePart} (hp : [.regs, .host, .bytes] ⊆ ps) (n st : Nat) :
    (s.emptyBank n st).outside ps = s.outside ps := by simp at hp; simp [State.emptyBank, hp]
@[simp] theorem State.fwCancel_outside {ps : List StatePart} (hp : [.regs, .host, .bytes] ⊆ ps) : s.fwCancel.outside ps = s.outside ps := by
  simp at hp; unfold State.fwCancel; split <;> simp [hp]
@[simp] theorem State.fwLost_outside {ps : List StatePart} (hp : [.regs, .ev, .host, .bytes] ⊆ ps) : s.fwLost.outside ps = s.outside ps := by
  simp at hp; simp [State.fwLost, hp]
@[simp] theorem State.copyMram_outside {ps : List StatePart} (hp : [.regs, .img, .bytes] ⊆ ps) (y x : Side) :
    (s.copyMram y x).outside ps = s.outside ps := by simp at hp; simp [State.copyMram, hp]
@[simp] theorem State.bulkAgain_outside {ps : List StatePart} (hp : [.keep] ⊆ ps) (x : Side) : (s.bulkAgain x).outside ps = s.outside ps := by
  simp at hp; simp [State.bulkAgain, hp]
@[simp] theorem State.wipeSides_outside {ps : List StatePart} (hp : [.regs, .ev, .ctx, .keep, .host, .outs, .outl] ⊆ ps) (cause : Nat) :
    (s.wipeSides cause).outside ps = s.outside ps := by simp at hp; simp [State.wipeSides, hp]
@[simp] theorem State.wipe_outside {ps : List StatePart} (hp : [.regs, .ev, .ctx, .keep, .host, .outs, .outl, .mem] ⊆ ps) (cause : Nat)
    : (s.wipe cause).outside ps = s.outside ps := by simp at hp; simp [State.wipe, hp]
@[simp] theorem State.pendingWipe_outside {ps : List StatePart} (hp : [.regs, .ev, .ctx, .keep, .host, .outs, .outl, .mem] ⊆ ps) (x :
    Side) : (s.pendingWipe x).outside ps = s.outside ps := by simp at hp; simp [State.pendingWipe, hp]
@[simp] theorem State.writesLost_outside {ps : List StatePart} (hp : [.regs, .pregs, .tm, .img] ⊆ ps) :
    s.writesLost.outside ps = s.outside ps := by simp at hp; simp [State.writesLost, hp]
@[simp] theorem State.fromCheckpoint_outside {ps : List StatePart} (hp : [.host] ⊆ ps) : s.fromCheckpoint.outside ps = s.outside ps := by
  simp at hp; simp [State.fromCheckpoint, hp]
@[simp] theorem State.failoverHooks_outside {ps : List StatePart} (hp : [.regs, .pregs, .tm, .ev, .img, .ctx, .host, .ring, .sst, .bill,
    .acq, .can, .bytes, .recent, .free] ⊆ ps) (lost : Side) : (s.failoverHooks lost).outside ps = s.outside ps := by
  simp at hp; simp [State.failoverHooks, hp]
@[simp] theorem State.switchHooks_outside {ps : List StatePart} (hp : [.regs, .ring, .can, .recent] ⊆ ps) (old : Side) :
    (s.switchHooks old).outside ps = s.outside ps := by simp at hp; simp [State.switchHooks, hp]
@[simp] theorem State.orphanHooks_outside {ps : List StatePart} (hp : [.regs, .pregs, .queues, .ev, .img, .ctx, .host, .edge, .ring,
    .sst, .outl, .acq, .lsw, .bytes, .recent, .free] ⊆ ps) : s.orphanHooks.outside ps = s.outside ps := by
  simp at hp; simp [State.orphanHooks, hp]
@[simp] theorem State.orphanEndHooks_outside {ps : List StatePart} (hp : [.regs, .ev, .ctx, .edge, .outs, .outl] ⊆ ps) :
    s.orphanEndHooks.outside ps = s.outside ps := by simp at hp; simp [State.orphanEndHooks, hp]
@[simp] theorem State.setSide_outside {ps : List StatePart} (hp : [.regs, .queues, .keep, .safe, .acq] ⊆ ps) (x : Side) (r : SideRec) :
    (s.setSide x r).outside ps = s.outside ps := by simp at hp; simp [State.setSide, hp]
@[simp] theorem State.sideReset_outside {ps : List StatePart} (hp : [.regs, .queues, .mem, .bytes, .recent] ⊆ ps) (x : Side) (code :
    Nat) : (s.sideReset x code).outside ps = s.outside ps := by simp at hp; simp [State.sideReset, hp]
@[simp] theorem State.enterSide_outside {ps : List StatePart} (hp : [.regs, .queues, .keep, .safe, .acq] ⊆ ps) (x : Side) (st :
    SideState) : (s.enterSide x st).outside ps = s.outside ps := by simp at hp; simp [State.enterSide, hp]
@[simp] theorem State.routeMap_outside {ps : List StatePart} (hp : [.regs] ⊆ ps) : s.routeMap.outside ps = s.outside ps := by
  simp at hp; simp [State.routeMap, hp]
@[simp] theorem State.failSide_outside {ps : List StatePart} (hp : [.regs, .queues, .ev, .keep, .safe, .acq] ⊆ ps) (x : Side) (ev : Nat)
    : (s.failSide x ev).outside ps = s.outside ps := by simp at hp; simp [State.failSide, hp]
@[simp] theorem State.cycleEnds_outside {ps : List StatePart} (hp : [.keep] ⊆ ps) : s.cycleEnds.outside ps = s.outside ps := by
  simp at hp; simp [State.cycleEnds, hp]
@[simp] theorem State.sendBeacons_outside {ps : List StatePart} (hp : [.keep] ⊆ ps) (inp : BoundaryIn) (done : Bool) :
    (s.sendBeacons inp done).outside ps = s.outside ps := by simp at hp; simp [State.sendBeacons, hp]
@[simp] theorem State.showBeacon_outside {ps : List StatePart} (hp : [.regs] ⊆ ps) (x : Side) (beacon : Option (List Byte)) :
    (s.showBeacon x beacon).outside ps = s.outside ps := by simp at hp; unfold State.showBeacon; split <;> simp [hp]
@[simp] theorem State.recordLoss_outside {ps : List StatePart} (hp : [.regs, .ev] ⊆ ps) (x : Side) (cause : Nat) :
    (s.recordLoss x cause).outside ps = s.outside ps := by simp at hp; simp [State.recordLoss, hp]
@[simp] theorem State.lateContext_outside {ps : List StatePart} (hp : [.ctx] ⊆ ps) (n : Nat) : (s.lateContext n).outside ps = s.outside ps := by
  simp at hp; simp only [State.lateContext]; split <;> simp [hp]
@[simp] theorem State.dropSwitch_outside {ps : List StatePart} (hp : [.ev, .keep] ⊆ ps) : s.dropSwitch.outside ps = s.outside ps := by
  simp at hp; simp [State.dropSwitch, hp]
@[simp] theorem State.ctxBack_outside {ps : List StatePart} (hp : [.ctx] ⊆ ps) : s.ctxBack.outside ps = s.outside ps := by
  simp at hp; simp [State.ctxBack, hp]
@[simp] theorem State.failOver_outside {ps : List StatePart} (hp : [.regs, .pregs, .tm, .queues, .ev, .img, .ctx, .keep, .host, .edge,
    .ring, .sst, .safe, .bill, .acq, .can, .bytes, .recent, .free] ⊆ ps) (x : Side) (cause : Nat) :
    (s.failOver x cause).outside ps = s.outside ps := by simp at hp; simp [State.failOver, hp]
@[simp] theorem State.orphanEntry_outside {ps : List StatePart} (hp : [.regs, .pregs, .queues, .ev, .img, .ctx, .keep, .host, .edge,
    .ring, .sst, .outl, .safe, .acq, .lsw, .bytes, .recent, .free] ⊆ ps) (x : Side) (cause : Nat) :
    (s.orphanEntry x cause).outside ps = s.outside ps := by simp at hp; simp [State.orphanEntry, hp]
@[simp] theorem State.loseActive_outside {ps : List StatePart} (hp : [.regs, .pregs, .tm, .queues, .ev, .img, .ctx, .keep, .host, .edge,
    .ring, .sst, .outl, .safe, .bill, .acq, .can, .lsw, .bytes, .recent, .free] ⊆ ps) (x : Side) (cause : Nat) :
    (s.loseActive x cause).outside ps = s.outside ps := by simp at hp; simp [State.loseActive, hp]
@[simp] theorem State.sideFault_outside {ps : List StatePart} (hp : [.regs, .pregs, .tm, .queues, .ev, .img, .ctx, .keep, .host, .edge,
    .ring, .sst, .outl, .safe, .bill, .acq, .can, .lsw, .bytes, .recent, .free] ⊆ ps) (x : Side) (cause : Nat) :
    (s.sideFault x cause).outside ps = s.outside ps := by simp at hp; unfold State.sideFault; split <;> simp [hp]
@[simp] theorem State.shadowRestart_outside {ps : List StatePart} (hp : [.regs, .queues, .ev, .keep, .safe, .acq] ⊆ ps) (x : Side) :
    (s.shadowRestart x).outside ps = s.outside ps := by simp at hp; simp [State.shadowRestart, hp]
@[simp] theorem State.mismatchFail_outside {ps : List StatePart} (hp : [.regs, .queues, .ev, .keep, .safe, .acq] ⊆ ps) (x : Side) :
    (s.mismatchFail x).outside ps = s.outside ps := by simp at hp; simp [State.mismatchFail, hp]
@[simp] theorem State.mismatch_outside {ps : List StatePart} (hp : [.regs, .ev, .recent] ⊆ ps) (x : Side) :
    (s.mismatch x).outside ps = s.outside ps := by simp at hp; simp [State.mismatch, hp]
@[simp] theorem State.digestMismatch_outside {ps : List StatePart} (hp : [.regs, .queues, .ev, .keep, .safe, .acq, .recent] ⊆ ps) (x :
    Side) : (s.digestMismatch x).outside ps = s.outside ps := by simp at hp; simp [State.digestMismatch, hp]
@[simp] theorem State.confirmCycle_outside {ps : List StatePart} (hp : [.keep] ⊆ ps) (act stb : Option (List Byte)) :
    (s.confirmCycle act stb).outside ps = s.outside ps := by simp at hp; unfold State.confirmCycle; split <;> simp [hp]
@[simp] theorem State.checkDigests_outside {ps : List StatePart} (hp : [.regs, .queues, .ev, .keep, .safe, .acq, .recent] ⊆ ps) (x :
    Side) (act stb : Option (List Byte)) : (s.checkDigests x act stb).outside ps = s.outside ps := by
  simp at hp; simp only [State.checkDigests]; (repeat' split) <;> simp [hp]
@[simp] theorem State.judgeBeacons_outside {ps : List StatePart} (hp : [.regs, .pregs, .tm, .queues, .ev, .img, .ctx, .keep, .host,
    .edge, .ring, .sst, .outl, .safe, .bill, .acq, .can, .lsw, .bytes, .recent, .free] ⊆ ps) (a b : Option (List Byte)) :
    (s.judgeBeacons a b).outside ps = s.outside ps := by simp at hp; simp only [State.judgeBeacons]; (repeat' split) <;> simp [hp]
@[simp] theorem State.faultFlag_outside {ps : List StatePart} (hp : [.regs, .pregs, .tm, .queues, .ev, .img, .ctx, .keep, .host, .edge,
    .ring, .sst, .outl, .safe, .bill, .acq, .can, .lsw, .bytes, .recent, .free] ⊆ ps) (x : Side) (bit : Nat) :
    (s.faultFlag x bit).outside ps = s.outside ps := by simp at hp; simp [State.faultFlag, hp]
@[simp] theorem State.replaceLanes_outside {ps : List StatePart} (hp : [.regs, .keep] ⊆ ps) : s.replaceLanes.outside ps = s.outside ps := by
  simp at hp; simp [State.replaceLanes, hp]
@[simp] theorem State.copyMiss_outside {ps : List StatePart} (hp : [.regs, .queues, .ev, .keep, .safe, .acq, .recent] ⊆ ps) (x : Side) :
    (s.copyMiss x).outside ps = s.outside ps := by simp at hp; simp only [State.copyMiss]; (repeat' split) <;> simp [hp]
@[simp] theorem State.checkpointTaken_outside {ps : List StatePart} (hp : [.host] ⊆ ps) : s.checkpointTaken.outside ps = s.outside ps := by
  simp at hp; simp [State.checkpointTaken, hp]
@[simp] theorem State.pointersCopy_outside {ps : List StatePart} (hp : [.mem] ⊆ ps) (y x : Side) :
    (s.pointersCopy y x).outside ps = s.outside ps := by simp at hp; simp [State.pointersCopy, hp]
@[simp] theorem State.copyTaken_outside {ps : List StatePart} (hp : [.regs, .tm, .queues, .keep, .host, .loop, .edge, .safe, .acq, .mem]
    ⊆ ps) (x : Side) : (s.copyTaken x).outside ps = s.outside ps := by simp at hp; simp [State.copyTaken, hp]
@[simp] theorem State.keeperCopy_outside {ps : List StatePart} (hp : [.regs, .tm, .queues, .ev, .keep, .host, .loop, .edge, .safe, .acq,
    .mem, .recent] ⊆ ps) (sw : Option CopySeal) : (s.keeperCopy sw).outside ps = s.outside ps := by
  simp at hp; simp only [State.keeperCopy]; (repeat' split) <;> simp [hp]
@[simp] theorem State.bulkMoves_outside {ps : List StatePart} (hp : [.keep] ⊆ ps) (inp : BoundaryIn) :
    (s.bulkMoves inp).outside ps = s.outside ps := by simp at hp; simp [State.bulkMoves, hp]
@[simp] theorem State.resyncShow_outside {ps : List StatePart} (hp : [.regs, .keep] ⊆ ps) (trained : Bool) :
    (s.resyncShow trained).outside ps = s.outside ps := by simp at hp; simp [State.resyncShow, hp]
@[simp] theorem State.keepBoundary_outside {ps : List StatePart} (hp : [.regs, .tm, .queues, .ev, .keep, .host, .loop, .edge, .safe,
    .acq, .mem, .recent] ⊆ ps) (inp : BoundaryIn) : (s.keepBoundary inp).outside ps = s.outside ps := by
  simp at hp; simp [State.keepBoundary, hp]
@[simp] theorem State.holdDiffering_outside {ps : List StatePart} (hp : [.regs, .pregs, .tm, .queues, .ev, .img, .ctx, .keep, .host,
    .edge, .ring, .sst, .outl, .safe, .bill, .acq, .can, .lsw, .bytes, .recent, .free] ⊆ ps) (n : Nat) :
    (s.holdDiffering n).outside ps = s.outside ps := by simp at hp; simp [State.holdDiffering, hp]
@[simp] theorem State.bootActive_outside {ps : List StatePart} (hp : [.regs, .queues, .ev, .ctx, .keep, .edge, .outs, .outl, .safe,
    .acq, .lsw] ⊆ ps) (x : Side) : (s.bootActive x).outside ps = s.outside ps := by simp at hp; simp [State.bootActive, hp]
@[simp] theorem State.bootRecovery_outside {ps : List StatePart} (hp : [.regs, .pregs, .queues, .ev, .img, .ctx, .keep, .host, .edge,
    .ring, .sst, .outl, .acq, .lsw, .bytes, .recent, .free] ⊆ ps) : s.bootRecovery.outside ps = s.outside ps := by
  simp at hp; simp [State.bootRecovery, hp]
@[simp] theorem State.bootBulk_outside {ps : List StatePart} (hp : [.regs, .queues, .img, .keep, .safe, .acq, .bytes] ⊆ ps) (x : Side) :
    (s.bootBulk x).outside ps = s.outside ps := by simp at hp; simp [State.bootBulk, hp]
@[simp] theorem State.runBank_outside {ps : List StatePart} (hp : [.regs] ⊆ ps) (other : Bool) :
    (s.runBank other).outside ps = s.outside ps := by simp at hp; simp [State.runBank, hp]
@[simp] theorem State.bootFirmware_outside {ps : List StatePart} (hp : [.regs, .queues, .ev, .ctx, .keep, .host, .outs, .outl, .safe,
    .acq, .mem] ⊆ ps) (x : Side) (other : Bool) : (s.bootFirmware x other).outside ps = s.outside ps := by
  simp at hp; simp [State.bootFirmware, hp]
@[simp] theorem State.bootEnds_outside {ps : List StatePart} (hp : [.regs, .pregs, .queues, .ev, .img, .ctx, .keep, .host, .edge, .ring,
    .sst, .outs, .outl, .safe, .acq, .lsw, .mem, .bytes, .recent, .free] ⊆ ps) (x : Side) (e : Option BootEnd) :
    (s.bootEnds x e).outside ps = s.outside ps := by simp at hp; simp only [State.bootEnds]; (repeat' split) <;> simp [hp]
@[simp] theorem State.readmit_outside {ps : List StatePart} (hp : [.regs, .queues, .keep, .safe, .acq, .mem, .bytes, .recent] ⊆ ps) (x :
    Side) (auto : Bool) : (s.readmit x auto).outside ps = s.outside ps := by simp at hp; simp [State.readmit, hp]
@[simp] theorem State.requestSwitch_outside {ps : List StatePart} (hp : [.ev, .keep] ⊆ ps) : s.requestSwitch.outside ps = s.outside ps := by
  simp at hp; simp [State.requestSwitch, hp]
@[simp] theorem State.takeOut_outside {ps : List StatePart} (hp : [.regs, .queues, .ev, .keep, .safe, .acq, .mem, .bytes, .recent] ⊆ ps)
    (acc : Access) : (s.takeOut acc).outside ps = s.outside ps := by simp at hp; simp [State.takeOut, hp]
@[simp] theorem State.resync_outside {ps : List StatePart} (hp : [.regs, .queues, .keep, .safe, .acq, .mem, .bytes, .recent] ⊆ ps) (x :
    Side) : (s.resync x).outside ps = s.outside ps := by simp at hp; simp [State.resync, hp]
@[simp] theorem State.keepCtrlWrite_outside {ps : List StatePart} (hp : [.regs, .queues, .ev, .keep, .safe, .acq, .mem, .bytes, .recent]
    ⊆ ps) (acc : Access) (val : Word) : (s.keepCtrlWrite acc val).outside ps = s.outside ps := by
  simp at hp; simp [State.keepCtrlWrite, hp]
@[simp] theorem State.switchOver_outside {ps : List StatePart} (hp : [.regs, .queues, .ev, .keep, .edge, .ring, .safe, .acq, .can,
    .recent, .free] ⊆ ps) : s.switchOver.outside ps = s.outside ps := by simp at hp; simp [State.switchOver, hp]
@[simp] theorem State.keepClrWrite_outside {ps : List StatePart} (hp : [.regs, .ev, .recent] ⊆ ps) (acc : Access) (val : Word) :
    (s.keepClrWrite acc val).outside ps = s.outside ps := by
  simp at hp
  exact s.command_outside (by simp [hp]) _ _ _ fun t => by dsimp only; split <;> simp [hp]
@[simp] theorem State.memCorr_outside {ps : List StatePart} (hp : [.regs, .recent] ⊆ ps) (x : Side) (k n : Nat) :
    (s.memCorr x k n).outside ps = s.outside ps := by simp at hp; simp [State.memCorr, hp]
@[simp] theorem State.memUncorr_outside {ps : List StatePart} (hp : [.regs, .pregs, .tm, .queues, .ev, .img, .ctx, .keep, .host, .edge,
    .ring, .sst, .outl, .safe, .bill, .acq, .can, .lsw, .bytes, .recent, .free] ⊆ ps) (x : Side) (k : Nat) (addr : Word) :
    (s.memUncorr x k addr).outside ps = s.outside ps := by simp at hp; simp [State.memUncorr, hp]
@[simp] theorem State.guardLost_outside {ps : List StatePart} (hp : [.regs, .pregs, .queues, .ev, .img, .keep, .edge, .ring, .sst,
    .outl, .safe, .acq, .lsw, .mem, .bytes, .recent, .free] ⊆ ps) (record : Nat) : (s.guardLost record).outside ps = s.outside ps := by
  simp at hp; simp [State.guardLost, hp]
@[simp] theorem State.memCtrlWrite_outside {ps : List StatePart} (hp : [.regs, .ev, .ctx, .keep, .host, .outs, .outl, .mem, .recent] ⊆
    ps) (acc : Access) (val : Word) : (s.memCtrlWrite acc val).outside ps = s.outside ps := by simp at hp; simp [State.memCtrlWrite, hp]
@[simp] theorem State.wipeCfgWrite_outside {ps : List StatePart} (hp : [.regs, .tm, .ev, .img, .ctx, .recent] ⊆ ps) (acc : Access) (val
    : Word) : (s.wipeCfgWrite acc val).outside ps = s.outside ps := by simp at hp; simp [State.wipeCfgWrite, hp]
@[simp] theorem State.lcAccept_outside {ps : List StatePart} (hp : [.ev, .mem] ⊆ ps) (target : Nat) :
    (s.lcAccept target).outside ps = s.outside ps := by simp at hp; simp [State.lcAccept, hp]
@[simp] theorem State.lcRefuse_outside {ps : List StatePart} (hp : [.ev] ⊆ ps) (target : Nat) :
    (s.lcRefuse target).outside ps = s.outside ps := by simp at hp; simp [State.lcRefuse, hp]
@[simp] theorem State.lcCtrlWrite_outside {ps : List StatePart} (hp : [.regs, .ev, .mem, .recent] ⊆ ps) (acc : Access) (val : Word) :
    (s.lcCtrlWrite acc val).outside ps = s.outside ps := by
  simp at hp
  exact s.command_outside (by simp [hp]) _ _ _ fun t => by dsimp only; split_ifs <;> simp [hp]
@[simp] theorem State.eraseMram_outside {ps : List StatePart} (hp : [.regs, .ev, .img, .keep, .host, .safe, .mem, .sup, .bytes] ⊆ ps) :
    s.eraseMram.outside ps = s.outside ps := by simp at hp; simp [State.eraseMram, hp]
@[simp] theorem State.lcEffects_outside {ps : List StatePart} (hp : [.regs, .ev, .img, .ctx, .keep, .host, .outs, .outl, .safe, .bill,
    .mem, .sup, .bytes] ⊆ ps) (target : Nat) : (s.lcEffects target).outside ps = s.outside ps := by simp at hp; simp [State.lcEffects, hp]
@[simp] theorem State.provisionCmd_outside {ps : List StatePart} (hp : [.ev, .mem] ⊆ ps) (acc : Access) :
    (s.provisionCmd acc).outside ps = s.outside ps := by simp at hp; simp [State.provisionCmd, hp]
@[simp] theorem State.memClrWrite_outside {ps : List StatePart} (hp : [.regs, .ev, .recent] ⊆ ps) (acc : Access) (val : Word) :
    (s.memClrWrite acc val).outside ps = s.outside ps := by simp at hp; simp [State.memClrWrite, hp]
@[simp] theorem State.hostCfgWrite_outside {ps : List StatePart} (hp : [.regs, .pregs, .tm, .ev, .img, .ctx, .host, .recent] ⊆ ps) (acc
    : Access) (val : Word) : (s.hostCfgWrite acc val).outside ps = s.outside ps := by simp at hp; simp [State.hostCfgWrite, hp]
@[simp] theorem State.hostClrWrite_outside {ps : List StatePart} (hp : [.regs, .ev, .recent] ⊆ ps) (acc : Access) (val : Word) :
    (s.hostClrWrite acc val).outside ps = s.outside ps := by simp at hp; simp [State.hostClrWrite, hp]
@[simp] theorem State.fwChecked_outside {ps : List StatePart} (hp : [.regs, .host] ⊆ ps) (n : Nat) :
    (s.fwChecked n).outside ps = s.outside ps := by simp at hp; simp [State.fwChecked, hp]
@[simp] theorem State.fwOpen_outside {ps : List StatePart} (hp : [.regs, .ev, .host, .bytes] ⊆ ps) (acc : Access) (addr : Nat) :
    (s.fwOpen acc addr).outside ps = s.outside ps := by simp at hp; simp [State.fwOpen, hp]
@[simp] theorem State.fwClose_outside {ps : List StatePart} (hp : [.regs, .host] ⊆ ps) : s.fwClose.outside ps = s.outside ps := by
  simp at hp; unfold State.fwClose; split <;> simp [hp]
@[simp] theorem State.fwActivate_outside {ps : List StatePart} (hp : [.regs, .pregs, .tm, .queues, .tags, .ev, .img, .ctx, .keep, .host,
    .loop, .edge, .qset, .ring, .sst, .outs, .aloc, .cool, .outl, .safe, .acq, .can, .lsw, .mem, .sup, .bytes, .recent, .owed] ⊆ ps) :
    s.fwActivate.outside ps = s.outside ps := by simp at hp; simp [State.fwActivate, hp]
@[simp] theorem State.fwConfirm_outside {ps : List StatePart} (hp : [.regs] ⊆ ps) : s.fwConfirm.outside ps = s.outside ps := by
  simp at hp; simp [State.fwConfirm, hp]
@[simp] theorem State.fwCtrlWrite_outside {ps : List StatePart} (hp : [.regs, .pregs, .tm, .queues, .tags, .ev, .img, .ctx, .keep,
    .host, .loop, .edge, .qset, .ring, .sst, .outs, .aloc, .cool, .outl, .safe, .acq, .can, .lsw, .mem, .sup, .bytes, .recent, .owed] ⊆ ps)
    (acc : Access) (val : Word) : (s.fwCtrlWrite acc val).outside ps = s.outside ps := by simp at hp; simp [State.fwCtrlWrite, hp]
@[simp] theorem State.fwPut_outside {ps : List StatePart} (hp : [.host, .bytes] ⊆ ps) (n ofs : Nat) (val : Word) :
    (s.fwPut n ofs val).outside ps = s.outside ps := by simp at hp; simp [State.fwPut, hp]
@[simp] theorem State.fwDataWrite_outside {ps : List StatePart} (hp : [.regs, .ev, .host, .bytes, .recent] ⊆ ps) (acc : Access) (addr :
    Nat) (val : Word) : (s.fwDataWrite acc addr val).outside ps = s.outside ps := by
  simp at hp
  refine s.command_outside (by simp [hp]) _ _ _ fun t => ?_
  dsimp only
  split
  · simp [hp]
  · split <;> simp [hp]
@[simp] theorem State.writeOut_outside {ps : List StatePart} (hp : [.regs, .queues, .ev, .img, .mem, .recent] ⊆ ps) :
    s.writeOut.outside ps = s.outside ps := by simp at hp; simp [State.writeOut, hp]
@[simp] theorem State.loadTime_outside {ps : List StatePart} (hp : [.regs, .tm] ⊆ ps) : s.loadTime.outside ps = s.outside ps := by
  simp at hp; simp [State.loadTime, hp]
@[simp] theorem State.releaseSides_outside {ps : List StatePart} (hp : [.regs, .queues, .keep, .safe, .acq] ⊆ ps) :
    s.releaseSides.outside ps = s.outside ps := by simp at hp; simp [State.releaseSides, hp]
@[simp] theorem State.pwrResetWrite_outside {ps : List StatePart} (hp : [.regs, .pregs, .tm, .queues, .tags, .ev, .img, .ctx, .keep,
    .host, .loop, .edge, .qset, .ring, .sst, .outs, .aloc, .cool, .outl, .safe, .acq, .can, .lsw, .mem, .sup, .bytes, .recent, .owed] ⊆ ps)
    (acc : Access) (val : Word) : (s.pwrResetWrite acc val).outside ps = s.outside ps := by simp at hp; simp [State.pwrResetWrite, hp]
@[simp] theorem State.latchGuardFault_outside {ps : List StatePart} (hp : [.regs, .ev, .keep, .edge, .ring, .sst, .outl, .safe, .lsw,
    .mem, .recent, .free] ⊆ ps) : s.latchGuardFault.outside ps = s.outside ps := by simp at hp; simp [State.latchGuardFault, hp]
@[simp] theorem State.showCandidate_outside {ps : List StatePart} (hp : [.regs, .sup] ⊆ ps) (i : PowerIn) :
    (s.showCandidate i).outside ps = s.outside ps := by simp at hp; simp [State.showCandidate, hp]
@[simp] theorem State.enterPower_outside {ps : List StatePart} (hp : [.regs, .ev, .sup] ⊆ ps) (p : Nat) :
    (s.enterPower p).outside ps = s.outside ps := by simp at hp; simp [State.enterPower, hp]
@[simp] theorem State.leaveWatch_outside {ps : List StatePart} (hp : [.regs, .edge, .cool] ⊆ ps) : s.leaveWatch.outside ps = s.outside ps := by
  simp at hp; simp [State.leaveWatch, hp]
@[simp] theorem State.ascend_outside {ps : List StatePart} (hp : [.regs, .ev, .edge, .cool, .sup] ⊆ ps) :
    s.ascend.outside ps = s.outside ps := by simp at hp; simp [State.ascend, hp]
@[simp] theorem State.sidesOff_outside {ps : List StatePart} (hp : [.regs, .queues, .keep, .safe, .acq] ⊆ ps) :
    s.sidesOff.outside ps = s.outside ps := by simp at hp; simp [State.sidesOff, hp]
@[simp] theorem State.descendDeep_outside {ps : List StatePart} (hp : [.regs, .queues, .ev, .img, .ctx, .keep, .host, .ring, .safe,
    .metr, .acq, .can, .lsw, .mem, .sup, .recent, .free] ⊆ ps) (p : Nat) : (s.descendDeep p).outside ps = s.outside ps := by
  simp at hp; simp [State.descendDeep, hp]
@[simp] theorem State.pwrCfgWrite_outside {ps : List StatePart} (hp : [.regs, .pregs, .tm, .ev, .img, .ctx, .recent] ⊆ ps) (acc :
    Access) (val : Word) : (s.pwrCfgWrite acc val).outside ps = s.outside ps := by simp at hp; simp [State.pwrCfgWrite, hp]
@[simp] theorem State.pwrLtrWrite_outside {ps : List StatePart} (hp : [.regs, .pregs, .tm, .ev, .img, .ctx, .sup, .recent] ⊆ ps) (acc :
    Access) (k : Nat) (val : Word) : (s.pwrLtrWrite acc k val).outside ps = s.outside ps := by simp at hp; simp [State.pwrLtrWrite, hp]
@[simp] theorem State.sideTemp_outside {ps : List StatePart} (hp : [.regs, .pregs, .tm, .queues, .ev, .img, .ctx, .keep, .host, .edge,
    .ring, .sst, .outl, .safe, .bill, .acq, .can, .lsw, .bytes, .recent, .free] ⊆ ps) (x : Side) (t : Int) :
    (s.sideTemp x t).outside ps = s.outside ps := by simp at hp; simp [State.sideTemp, hp]
@[simp] theorem State.guardTemp_outside {ps : List StatePart} (hp : [.regs, .ev, .keep, .edge, .ring, .sst, .outl, .safe, .lsw, .mem,
    .recent, .free] ⊆ ps) (t : Int) : (s.guardTemp t).outside ps = s.outside ps := by simp at hp; simp [State.guardTemp, hp]
@[simp] theorem State.undeferred_outside {ps : List StatePart} (hp : [.regs, .pregs, .queues, .ev, .img, .host, .edge, .ring, .sst,
    .outl, .safe, .acq, .lsw, .bytes, .recent, .free] ⊆ ps) : s.undeferred.outside ps = s.outside ps := by
  simp at hp; simp [State.undeferred, hp]
@[simp] theorem State.pwrClrWrite_outside {ps : List StatePart} (hp : [.regs, .ev, .recent] ⊆ ps) (acc : Access) (val : Word) :
    (s.pwrClrWrite acc val).outside ps = s.outside ps := by simp at hp; simp [State.pwrClrWrite, hp]
@[simp] theorem State.showSupply_outside {ps : List StatePart} (hp : [.regs, .sup] ⊆ ps) (i : PowerIn) :
    (s.showSupply i).outside ps = s.outside ps := by
  simp at hp
  unfold State.showSupply
  extract_lets pair s1 s2 s3
  have h3 : s3.outside ps = s.outside ps := (foldl_outside (fun t k => by split <;> simp [hp]) _ _).trans (by simp [s2, s1, hp])
  clear_value s3
  simp [hp, h3]
@[simp] theorem State.showReady_outside {ps : List StatePart} (hp : [.regs, .ev] ⊆ ps) : s.showReady.outside ps = s.outside ps := by
  simp at hp; simp [State.showReady, hp]
@[simp] theorem State.pwrBoundary_outside {ps : List StatePart} (hp : [.regs, .pregs, .tm, .queues, .ev, .img, .ctx, .keep, .host,
    .edge, .ring, .sst, .outl, .safe, .bill, .acq, .can, .lsw, .mem, .sup, .bytes, .recent, .free] ⊆ ps) (i : PowerIn) :
    (s.pwrBoundary i).outside ps = s.outside ps := by
  simp at hp
  simp [State.pwrBoundary, hp]
theorem writeTable_outside {ps : List StatePart} (hp : [.regs, .pregs, .tm, .queues, .ev, .img, .ctx, .keep, .host, .loop, .edge, .qset,
    .ring, .sst, .outl, .safe, .acq, .lsw, .mem, .bytes, .recent, .free] ⊆ ps) :
    ∀ e ∈ writeTable, ∀ s acc n v, (e.2.2.2 s acc n v).outside ps = s.outside ps := by
  simp at hp
  simp [writeTable, hp]
theorem writeTableField_outside {ps : List StatePart} (hp : [.regs, .ev, .ctx, .edge, .ring, .sst, .outs, .outl, .safe, .recent] ⊆ ps) :
    ∀ e ∈ writeTableField, ∀ s acc n v, (e.2.2.2 s acc n v).outside ps = s.outside ps := by
  simp at hp
  simp [writeTableField, hp]
theorem writeTableRest_outside {ps : List StatePart} (hp : [.regs, .pregs, .tm, .queues, .tags, .ev, .img, .ctx, .keep, .host, .loop,
    .edge, .qset, .ring, .sst, .outs, .aloc, .cool, .outl, .safe, .metr, .bill, .acq, .can, .lsw, .mem, .sup, .bytes, .recent, .owed, .free]
    ⊆ ps) :
    ∀ e ∈ writeTableRest, ∀ s acc n v, (e.2.2.2 s acc n v).outside ps = s.outside ps := by
  simp at hp
  simp [writeTableRest, hp]
theorem ownWrite_outside {ps : List StatePart} (hp : [.regs, .pregs, .tm, .queues, .tags, .ev, .img, .ctx, .keep, .host, .loop,
    .edge, .qset, .ring, .sst, .outs, .aloc, .cool, .outl, .safe, .metr, .bill, .acq, .can, .lsw, .mem, .sup, .bytes, .recent, .owed, .free]
    ⊆ ps) {addr n : Nat} {f : State → Access → Nat → Word → State} (h : ownWrite addr = some (n, f)) (acc : Access) (v : Word) :
    (f s acc n v).outside ps = s.outside ps := by
  simp at hp
  obtain ⟨e, he, hm⟩ := List.exists_of_findSome?_eq_some h
  obtain ⟨k, -, hk⟩ := Option.map_eq_some_iff.mp hm
  obtain ⟨rfl, rfl⟩ := Prod.mk.inj hk
  simp only [List.mem_append] at he
  obtain (he | he) | he := he
  · exact writeTable_outside (by simp [hp]) e he s acc k v
  · exact writeTableField_outside (by simp [hp]) e he s acc k v
  · exact writeTableRest_outside (by simp [hp]) e he s acc k v
@[simp] theorem State.writePresent_outside {ps : List StatePart} (hp : [.regs, .pregs, .tm, .queues, .tags, .ev, .img, .ctx, .keep,
    .host, .loop, .edge, .qset, .ring, .sst, .outs, .aloc, .cool, .outl, .safe, .metr, .bill, .acq, .can, .lsw, .mem, .sup, .bytes, .recent,
    .owed, .free] ⊆ ps) (acc : Access) (addr : Nat) (val : Word) : (s.writePresent acc addr val).outside ps = s.outside ps := by
  simp at hp
  unfold State.writePresent
  split
  · simp [hp]
  · simp [hp]
  · simp [hp]
  · split
    · exact ownWrite_outside s (by simp [hp]) ‹_› acc val
    · split
      · simp [hp]
      · split <;> simp [hp]
@[simp] theorem State.write_outside {ps : List StatePart} (hp : [.regs, .pregs, .tm, .queues, .tags, .ev, .img, .ctx, .keep, .host,
    .loop, .edge, .qset, .ring, .sst, .outs, .aloc, .cool, .outl, .safe, .metr, .bill, .acq, .can, .lsw, .mem, .sup, .bytes, .recent, .owed,
    .free] ⊆ ps) (acc : Access) (addr : Nat) (val : Word) : (s.write acc addr val).outside ps = s.outside ps := by
  simp at hp; simp [State.write, hp]
@[simp] theorem State.access_outside {ps : List StatePart} (hp : [.regs, .pregs, .tm, .queues, .tags, .ev, .img, .ctx, .keep, .host,
    .loop, .edge, .qset, .ring, .sst, .outs, .aloc, .cool, .outl, .safe, .metr, .bill, .acq, .can, .lsw, .mem, .sup, .bytes, .recent, .owed,
    .free] ⊆ ps) (acc : Access) (addr : Nat) (wr : Option Word) (status : Nat) : (s.access acc addr wr status).outside ps = s.outside ps := by
  simp at hp; unfold State.access; split <;> simp [hp]
@[simp] theorem State.hostBad_outside {ps : List StatePart} (hp : [.regs, .ev, .host, .recent] ⊆ ps) (addr : Nat) :
    (s.hostBad addr).outside ps = s.outside ps := by simp at hp; simp [State.hostBad, hp]
@[simp] theorem State.spiFrame_outside {ps : List StatePart} (hp : [.regs, .host] ⊆ ps) : s.spiFrame.outside ps = s.outside ps := by
  simp at hp; simp [State.spiFrame, hp]
@[simp] theorem State.spiErr_outside {ps : List StatePart} (hp : [.host] ⊆ ps) : s.spiErr.outside ps = s.outside ps := by
  simp at hp; simp [State.spiErr, hp]
@[simp] theorem State.spiDenied_outside {ps : List StatePart} (hp : [.host] ⊆ ps) (before : State) :
    (s.spiDenied before).outside ps = s.outside ps := by simp at hp; simp [State.spiDenied, hp]
@[simp] theorem State.spiBad_outside {ps : List StatePart} (hp : [.regs, .ev, .host, .recent] ⊆ ps) (addr : Nat) :
    (s.spiBad addr).outside ps = s.outside ps := by simp at hp; simp [State.spiBad, hp]
@[simp] theorem spiWords_outside {ps : List StatePart} (hp : [.regs, .ev, .host, .recent, .free] ⊆ ps) (n addr : Nat) (ws : List Word) :
    ((spiWords n addr s ws).1).outside ps = s.outside ps := by
  simp at hp
  induction n generalizing addr s ws with
  | zero => rfl
  | succ n ih => simp only [spiWords]; split_ifs <;> simp [ih, hp]
@[simp] theorem State.spiRead_outside {ps : List StatePart} (hp : [.regs, .ev, .host, .recent, .free] ⊆ ps) (addr count : Nat) :
    (s.spiRead addr count).outside ps = s.outside ps := by simp at hp; simp [State.spiRead, hp]
@[simp] theorem spiStore_outside {ps : List StatePart} (hp : [.regs, .pregs, .tm, .queues, .tags, .ev, .img, .ctx, .keep, .host, .loop,
    .edge, .qset, .ring, .sst, .outs, .aloc, .cool, .outl, .safe, .metr, .bill, .acq, .can, .lsw, .mem, .sup, .bytes, .recent, .owed, .free]
    ⊆ ps) (ws : List Word) (addr : Nat) : (spiStore ws addr s).outside ps = s.outside ps := by
  simp at hp
  induction ws generalizing addr s with
  | nil => rfl
  | cons w r ih => simp only [spiStore]; split_ifs <;> simp [ih, hp]
@[simp] theorem State.spiWrite_outside {ps : List StatePart} (hp : [.regs, .pregs, .tm, .queues, .tags, .ev, .img, .ctx, .keep, .host,
    .loop, .edge, .qset, .ring, .sst, .outs, .aloc, .cool, .outl, .safe, .metr, .bill, .acq, .can, .lsw, .mem, .sup, .bytes, .recent, .owed,
    .free] ⊆ ps) (addr : Nat) (ws : List Word) (crc : Nat) : (s.spiWrite addr ws crc).outside ps = s.outside ps := by
  simp at hp; simp [State.spiWrite, hp]
@[simp] theorem State.pcieDown_outside {ps : List StatePart} (hp : [.regs, .ev, .ctx, .host] ⊆ ps) : s.pcieDown.outside ps = s.outside ps := by
  simp at hp; simp [State.pcieDown, hp]
@[simp] theorem State.authFail_outside {ps : List StatePart} (hp : [.regs, .ev, .host, .recent] ⊆ ps) (ip : Word) :
    (s.authFail ip).outside ps = s.outside ps := by simp at hp; simp [State.authFail, hp]
@[simp] theorem State.respond_outside {ps : List StatePart} (hp : [.host] ⊆ ps) (op tag status : Nat) (payload : List Byte) :
    (s.respond op tag status payload).outside ps = s.outside ps := by simp at hp; simp [State.respond, hp]
@[simp] theorem State.withConn_outside {ps : List StatePart} (hp : [.host] ⊆ ps) (conn : Nat) {act : Access → State → State} (hact : ∀
    acc t, (act acc t).outside ps = t.outside ps) : (s.withConn conn act).outside ps = s.outside ps := by
  simp at hp
  unfold State.withConn
  split
  · split
    · exact (hact _ _).trans (by simp [hp])
    · rfl
  · rfl
@[simp] theorem readWords_outside {ps : List StatePart} (hp : [.regs, .ev, .host, .recent] ⊆ ps) (n addr : Nat) (acc : Access) (ws :
    List Word) : ((readWords n addr acc s ws).1).outside ps = s.outside ps := by
  simp at hp
  induction n generalizing addr s ws with
  | zero => rfl
  | succ n ih => simp [readWords, ih, hp]
@[simp] theorem writeWords_outside {ps : List StatePart} (hp : [.regs, .pregs, .tm, .queues, .tags, .ev, .img, .ctx, .keep, .host,
    .loop, .edge, .qset, .ring, .sst, .outs, .aloc, .cool, .outl, .safe, .metr, .bill, .acq, .can, .lsw, .mem, .sup, .bytes, .recent, .owed,
    .free] ⊆ ps) (ws : List Word) (addr : Nat) (acc : Access) (st : List Byte) :
    ((writeWords ws addr acc s st).1).outside ps = s.outside ps := by
  simp at hp
  induction ws generalizing addr s st with
  | nil => rfl
  | cons w r ih => simp [writeWords, ih, hp]
@[simp] theorem State.logLoss_outside {ps : List StatePart} (hp : [.free] ⊆ ps) : s.logLoss.2.outside ps = s.outside ps := by
  simp at hp; simp [State.logLoss, hp]
@[simp] theorem State.clientSet_outside {ps : List StatePart} (hp : [.regs, .pregs, .tm, .queues, .tags, .ev, .img, .ctx, .keep, .host,
    .loop, .edge, .qset, .ring, .sst, .outs, .aloc, .cool, .outl, .safe, .metr, .bill, .acq, .can, .lsw, .mem, .sup, .bytes, .recent, .owed,
    .free] ⊆ ps) (addr : Nat) (f : Field) (v : Nat) : (s.clientSet addr f v).outside ps = s.outside ps := by
  simp at hp; simp [State.clientSet, hp]
@[simp] theorem State.csmsTell_outside {ps : List StatePart} (hp : [.host] ⊆ ps) (m : Nat) : (s.csmsTell m).outside ps = s.outside ps := by
  simp at hp; simp [State.csmsTell, hp]
@[simp] theorem State.withSender_outside {ps : List StatePart} (hp : [.host] ⊆ ps) (conn : Option Nat) {act : Access → State → State}
    (hact : ∀ acc t, (act acc t).outside ps = t.outside ps) : (s.withSender conn act).outside ps = s.outside ps := by
  simp at hp
  unfold State.withSender
  split
  · exact s.withConn_outside (by simp [hp]) _ hact
  · split <;> simp [hp, hact]
@[simp] theorem State.issueNonce_outside {ps : List StatePart} (hp : [.host, .free] ⊆ ps) : s.issueNonce.outside ps = s.outside ps := by
  simp at hp; simp [State.issueNonce, hp]
@[simp] theorem State.storeObject_outside {ps : List StatePart} (hp : [.host] ⊆ ps) (oid : Nat) (bs : List Byte) :
    (s.storeObject oid bs).outside ps = s.outside ps := by simp at hp; simp [State.storeObject, hp]
@[simp] theorem State.loadKey_outside {ps : List StatePart} (hp : [.regs, .img] ⊆ ps) (n : Nat) (bs : List Byte) :
    (s.loadKey n bs).outside ps = s.outside ps := by simp at hp; simp [State.loadKey, hp]
@[simp] theorem billingWrites_outside {ps : List StatePart} (hp : [.regs, .pregs, .tm, .queues, .tags, .ev, .img, .ctx, .keep, .host,
    .loop, .edge, .qset, .ring, .sst, .outs, .aloc, .cool, .outl, .safe, .metr, .bill, .acq, .can, .lsw, .mem, .sup, .bytes, .recent, .owed,
    .free] ⊆ ps) (es : List (Nat × Word)) (acc : Access) (st : Nat) : ((billingWrites es acc s st).1).outside ps = s.outside ps := by
  simp at hp
  induction es generalizing s st with
  | nil => rfl
  | cons e r ih => simp [billingWrites, ih, hp]
@[simp] theorem State.applyObject_outside {ps : List StatePart} (hp : [.regs, .pregs, .tm, .queues, .tags, .ev, .img, .ctx, .keep,
    .host, .loop, .edge, .qset, .ring, .sst, .outs, .aloc, .cool, .outl, .safe, .metr, .bill, .acq, .can, .lsw, .mem, .sup, .bytes, .recent,
    .owed, .free] ⊆ ps) (acc : Access) (oid : Nat) (bs : List Byte) : ((s.applyObject acc oid bs).1).outside ps = s.outside ps := by
  simp at hp; simp only [State.applyObject]; (repeat' split) <;> simp [hp]
@[simp] theorem State.fwPutBytes_outside {ps : List StatePart} (hp : [.host, .bytes] ⊆ ps) (n ofs : Nat) (bs : List Byte) :
    (s.fwPutBytes n ofs bs).outside ps = s.outside ps := by
  simp at hp
  refine (State.outside_update (by simp [hp])).trans ?_
  exact foldl_outside (fun t x => foldl_outside (fun u e => by simp [hp]) _ _) _ _
@[simp] theorem State.fwChunk_outside {ps : List StatePart} (hp : [.regs, .ev, .host, .bytes] ⊆ ps) (acc : Access) (oid ofs : Nat) (last
    : Bool) (bs : List Byte) : ((s.fwChunk acc oid ofs last bs).1).outside ps = s.outside ps := by
  simp at hp
  unfold State.fwChunk
  extract_lets s1
  have h1 : s1.outside ps = s.outside ps := by unfold s1; split <;> simp [hp]
  clear_value s1
  split
  · exact h1
  · split <;> simp [hp, h1]
@[simp] theorem State.objChunk_outside {ps : List StatePart} (hp : [.regs, .pregs, .tm, .queues, .tags, .ev, .img, .ctx, .keep, .host,
    .loop, .edge, .qset, .ring, .sst, .outs, .aloc, .cool, .outl, .safe, .metr, .bill, .acq, .can, .lsw, .mem, .sup, .bytes, .recent, .owed,
    .free] ⊆ ps) (acc : Access) (oid ofs : Nat) (last : Bool) (bs : List Byte) :
    ((s.objChunk acc oid ofs last bs).1).outside ps = s.outside ps := by
  simp at hp
  simp only [State.objChunk]
  split_ifs <;> simp [hp]
@[simp] theorem State.gpioNote_outside {ps : List StatePart} (hp : [.sup] ⊆ ps) : s.gpioNote.outside ps = s.outside ps := by
  simp at hp; simp [State.gpioNote, hp]
@[simp] theorem State.showTime_outside {ps : List StatePart} (hp : [.regs] ⊆ ps) : s.showTime.outside ps = s.outside ps := by
  simp at hp; simp [State.showTime, hp]
@[simp] theorem State.serviceFrees_outside {ps : List StatePart} (hp : [.ev] ⊆ ps) : s.serviceFrees.outside ps = s.outside ps := by
  simp at hp; simp [State.serviceFrees, hp]
@[simp] theorem State.csmsEvents_outside {ps : List StatePart} (hp : [.host] ⊆ ps) (es : List EvEntry) :
    (s.csmsEvents es).outside ps = s.outside ps := by simp at hp; simp [State.csmsEvents, hp]
@[simp] theorem State.deferredWrites_outside {ps : List StatePart} (hp : [.regs, .tm, .img] ⊆ ps) :
    s.deferredWrites.outside ps = s.outside ps := by simp at hp; simp [State.deferredWrites, hp]
@[simp] theorem State.countCycle_outside {ps : List StatePart} (hp : [.regs, .tm, .ev, .keep, .sst, .aloc, .cool, .safe] ⊆ ps) :
    s.countCycle.outside ps = s.outside ps := by simp at hp; simp [State.countCycle, hp]
@[simp] theorem State.ringSlew_outside {ps : List StatePart} (hp : [.ring] ⊆ ps) : s.ringSlew.outside ps = s.outside ps := by
  simp at hp; simp [State.ringSlew, hp]
@[simp] theorem State.cycleWork_outside {ps : List StatePart} (hp : [.regs, .pregs, .tm, .queues, .ev, .img, .ctx, .keep, .host, .loop,
    .edge, .qset, .ring, .sst, .outs, .cool, .outl, .safe, .bill, .acq, .can, .lsw, .mem, .sup, .bytes, .recent, .free] ⊆ ps) (inp :
    BoundaryIn) (shift : Int) : (s.cycleWork inp shift).outside ps = s.outside ps := by simp at hp; simp [State.cycleWork, hp]
@[simp] theorem State.boundaryRest_outside {ps : List StatePart} (hp : [.regs, .pregs, .tm, .queues, .ev, .img, .ctx, .keep, .host,
    .loop, .edge, .qset, .ring, .sst, .outs, .cool, .outl, .safe, .metr, .bill, .acq, .can, .lsw, .mem, .sup, .bytes, .recent, .owed, .free]
    ⊆ ps) : s.boundaryRest.outside ps = s.outside ps := by simp at hp; unfold State.boundaryRest; split <;> simp [hp]
@[simp] theorem State.boundaryOn_outside {ps : List StatePart} (hp : [.regs, .pregs, .tm, .queues, .ev, .img, .ctx, .keep, .host, .loop,
    .edge, .qset, .ring, .sst, .outs, .cool, .outl, .safe, .metr, .bill, .acq, .can, .lsw, .mem, .sup, .bytes, .recent, .owed, .free] ⊆ ps)
    : s.boundaryOn.outside ps = s.outside ps := by simp at hp; unfold State.boundaryOn; split <;> simp [hp]
@[simp] theorem State.boundary_outside {ps : List StatePart} (hp : [.regs, .pregs, .tm, .queues, .ev, .img, .ctx, .keep, .host, .loop,
    .edge, .qset, .ring, .sst, .outs, .aloc, .cool, .outl, .safe, .metr, .bill, .acq, .can, .lsw, .mem, .sup, .bytes, .recent, .owed, .free]
    ⊆ ps) (inp : BoundaryIn) : (s.boundary inp).outside ps = s.outside ps := by simp at hp; simp [State.boundary, hp]
@[simp] theorem State.checked_outside {ps : List StatePart} (hp : [.regs, .pregs, .tm, .queues, .ev, .img, .ctx, .keep, .host, .loop,
    .edge, .ring, .sst, .outl, .safe, .bill, .acq, .can, .lsw, .bytes, .recent, .free] ⊆ ps) (x : Side) (n : Nat) (bad : Bool) (f : State →
    Tile → Tile) : (s.checked x n bad f).outside ps = s.outside ps := by simp at hp; simp [State.checked, hp]
@[simp] theorem State.macStep_outside {ps : List StatePart} (hp : [.regs, .pregs, .tm, .queues, .ev, .img, .ctx, .keep, .host, .loop,
    .edge, .ring, .sst, .outl, .safe, .bill, .acq, .can, .lsw, .bytes, .recent, .free] ⊆ ps) (x : Side) (n a k : Nat) (src : Opnd) (sign :
    Int) (clear bad : Bool) : (s.macStep x n a k src sign clear bad).outside ps = s.outside ps := by simp at hp; simp [State.macStep, hp]

end

end

end Sys2Proof.Machine

namespace Sys2Proof.Machine

open Sys2Proof

section

set_option Elab.async false

/-! ### The canonical form of the store of bytes -/

/-- Every part of the state but the store of bytes. -/
def notBytes : List StatePart :=
  [.pending, .variant, .regs, .pregs, .tm, .queues, .tags, .ev, .img, .ctx, .keep, .host, .loop, .edge, .qset, .ring, .sst, .outs, .aloc,
    .cool, .outl, .safe, .metr, .bill, .acq, .can, .lsw, .mem, .sup, .recent, .owed, .free]

@[simp] theorem mem_notBytes (p : StatePart) : p ∈ notBytes ↔ p ≠ .bytes := by cases p <;> decide

/-- The store of bytes is in its canonical form. It is read off the state with every other part at reset, so that an operation which
leaves the store alone is seen to keep the form by the rule of the parts that it writes. -/
@[simp] abbrev Canon (s : State) : Prop := Memory.wf (s.outside notBytes).bytes = true

theorem canon_iff (s : State) : Canon s ↔ Memory.wf s.bytes = true := by simp [Canon, State.outside]

@[simp] theorem State.bytes_ite (c : Prop) [Decidable c] (s t : State) :
    (if c then s else t).bytes = if c then s.bytes else t.bytes := apply_ite State.bytes c s t

@[simp] theorem Memory.wf_ite (c : Prop) [Decidable c] (a b : SMap Byte) :
    Memory.wf (if c then a else b) = if c then Memory.wf a else Memory.wf b := apply_ite Memory.wf c a b

theorem Canon.foldl {α : Type} {f : State → α → State} (hf : ∀ t x, Canon t → Canon (f t x)) (l : List α) {s : State} (h : Canon s) :
    Canon (l.foldl f s) := by
  induction l generalizing s with
  | nil => exact h
  | cons x l ih => exact ih (hf s x h)

theorem Canon.of_fst {α : Type} {t : State} {a : α} {p : State × α} (h : Canon p.1) (e : p = (t, a)) : Canon t := by subst e; exact h

/-- A next state that a command answers has its store of bytes in canonical form. -/
def OutCanon (o : Out) : Prop := ∀ t, o = .next t → Canon t

@[simp] theorem outCanon_next (t : State) : OutCanon (.next t) ↔ Canon t := by simp [OutCanon]

@[simp] theorem outCanon_ite (c : Prop) [Decidable c] (a b : Out) :
    OutCanon (if c then a else b) ↔ if c then OutCanon a else OutCanon b := by split <;> rfl

section
variable {s : State}

@[simp] theorem State.setByte_canon (h : Canon s) (k : Nat) (v : Byte) : Canon (s.setByte k v) := by
  rw [canon_iff] at h ⊢
  exact s.wf_setByte k v h

@[simp] theorem State.setWordAt_canon (h : Canon s) (k : Nat) (w : Word) : Canon (s.setWordAt k w) := by
  rw [canon_iff] at h ⊢
  exact s.wf_setWordAt k w h

@[simp] theorem State.eraseBytes_canon (h : Canon s) (lo n : Nat) : Canon (s.eraseBytes lo n) := by
  rw [canon_iff] at h ⊢
  exact s.wf_eraseBytes lo n h

@[simp] theorem State.memStore_canon (h : Canon s) (x : Side) (es : List (Nat × Byte)) : Canon (s.memStore x es) := by
  rw [canon_iff] at h ⊢
  exact s.wf_memStore x es h
end

section
variable {s : State}

theorem State.command_canon (h : Canon s) (acc : Access) (addr : Nat) (sc : Scope) {act : State → State}
    (hact : ∀ t, Canon t → Canon (act t)) : Canon (s.command acc addr sc act) := by
  unfold State.command
  split_ifs <;> simp [h, hact]

theorem State.writeReg_canon (h : Canon s) (acc : Access) (addr : Nat) (r : RegSpec) (val : Word) {plain acting : State → State}
    (hplain : ∀ t, Canon t → Canon (plain t)) (hacting : ∀ t, Canon t → Canon (acting t)) :
    Canon (s.writeReg acc addr r val plain acting) := by
  unfold State.writeReg
  split
  · simp [h]
  · split
    · exact hacting _ (by simp [h])
    · split_ifs <;> simp [h, hplain]

theorem State.setting_canon (h : Canon s) (acc : Access) (addr : Nat) (val : Word) {keep act : State → State}
    (hkeep : ∀ t, Canon t → Canon (keep t)) (hact : ∀ t, Canon t → Canon (act t)) : Canon (s.setting acc addr val keep act) := by
  refine State.command_canon h _ _ _ fun t ht => ?_
  split
  · refine State.writeReg_canon ht _ _ _ _ (fun u hu => hact _ ?_) hact
    simpa using hkeep u hu
  · exact ht

/-- The states that a filter of the store of bytes leaves are canonical. -/
theorem canon_filter (h : Canon s) {t : State} {p : Nat × Byte → Bool} (e : t.bytes = s.bytes.filter p) : Canon t := by
  rw [canon_iff] at h ⊢
  rw [e]
  exact SMap.filter_wf _ _ _ h

theorem State.withConn_canon (h : Canon s) (conn : Nat) {act : Access → State → State} (hact : ∀ acc t, Canon t → Canon (act acc t)) :
    Canon (s.withConn conn act) := by
  unfold State.withConn
  split
  · split
    · exact hact _ _ (by simp [h])
    · exact h
  · exact h

theorem State.withSender_canon (h : Canon s) (conn : Option Nat) {act : Access → State → State}
    (hact : ∀ acc t, Canon t → Canon (act acc t)) : Canon (s.withSender conn act) := by
  unfold State.withSender
  split
  · exact State.withConn_canon h _ hact
  · have hs := hact s.hostAccess s h
    simp [h, hs]
end

theorem Canon.of_bytes {t u : State} (h : Canon u) (e : t.bytes = u.bytes) : Canon t := by
  rw [canon_iff] at h ⊢
  rwa [e]

theorem Canon.of_outside {t u : State} (h : Canon u) (e : t.outside notBytes = u.outside notBytes) : Canon t := by
  rwa [Canon, e]

end

end Sys2Proof.Machine

namespace Sys2Proof.Machine

open Sys2Proof

section

set_option Elab.async false

/-! ### One rule per operation that touches the store of bytes: it keeps the canonical form

The operations stand in the model's order. The other operations leave the store alone (`State.outside`). -/

section
variable {s : State}

@[simp] theorem execFastClr_canon (h : Canon s) (dt : Nat) (acc : Access) (val : Word) : OutCanon (execFastClr dt acc val s) := by
  simp [execFastClr, h]
@[simp] theorem execQueueStallTimeout_canon (h : Canon s) (dt : Nat) (side : Side) (queue : Nat) :
    OutCanon (execQueueStallTimeout dt side queue s) := by
  simp only [execQueueStallTimeout]
  split <;> simp [h]
@[simp] theorem execDramTagGrant_canon (h : Canon s) (dt : Nat) (side : Side) (done : List Nat) (asks : List (Nat × Nat)) :
    OutCanon (execDramTagGrant dt side done asks s) := by
  have h1 : Canon (s.tick dt) := Canon.of_outside h (s.tick_outside (by simp) dt)
  unfold execDramTagGrant
  generalize s.tick dt = s1 at h1 ⊢
  rw [outCanon_next]
  refine Canon.of_outside (Canon.of_outside ?_ (State.setQueue_outside _ (by simp) ..)) (State.setStall_outside _ (by simp) ..)
  exact h1.of_bytes rfl
@[simp] theorem execEvqSnapshot_canon (h : Canon s) (dt : Nat) (acc : Access) : OutCanon (execEvqSnapshot dt acc s) := by
  simp [execEvqSnapshot, h]
@[simp] theorem execEvqPop_canon (h : Canon s) (dt : Nat) (acc : Access) (val : Word) : OutCanon (execEvqPop dt acc val s) := by
  simp [execEvqPop, h]
@[simp] theorem State.emptyOn_canon (h : Canon s) (n st : Nat) (x : Side) : Canon (s.emptyOn n st x) :=
  (State.eraseBytes_canon h _ _).of_bytes rfl
@[simp] theorem State.emptySlot_canon (h : Canon s) (n st : Nat) : Canon (s.emptySlot n st) :=
  (Canon.foldl (fun _ x ht => State.emptyOn_canon ht n st x) s.runningSides h).of_bytes rfl
@[simp] theorem State.imgOpen_canon (h : Canon s) : Canon s.imgOpen := by simp [State.imgOpen, h]
@[simp] theorem State.imgCancel_canon (h : Canon s) : Canon s.imgCancel := by
  unfold State.imgCancel
  split <;> simp [h]
@[simp] theorem State.imgLost_canon (h : Canon s) : Canon s.imgLost := by
  unfold State.imgLost
  split <;> simp [h]
@[simp] theorem State.imgXferWrite_canon (h : Canon s) (acc : Access) (val : Word) : Canon (s.imgXferWrite acc val) :=
  State.command_canon h _ _ _ fun t ht => by simp [ht]
@[simp] theorem execImgOpen_canon (h : Canon s) (dt : Nat) (acc : Access) : OutCanon (execImgOpen dt acc s) := by simp [execImgOpen, h]
@[simp] theorem execImgClose_canon (h : Canon s) (dt : Nat) (acc : Access) : OutCanon (execImgClose dt acc s) := by simp [execImgClose, h]
@[simp] theorem execImgCancel_canon (h : Canon s) (dt : Nat) (acc : Access) : OutCanon (execImgCancel dt acc s) := by
  simp [execImgCancel, h]
@[simp] theorem State.imgDataWrite_canon (h : Canon s) (acc : Access) (addr : Nat) (val : Word) : Canon (s.imgDataWrite acc addr val) := by
  refine State.command_canon h _ _ _ fun t ht => ?_
  dsimp only
  split
  · exact Canon.of_outside ht (State.postArg_outside _ (by simp) ..)
  · rename_i n _
    refine Canon.foldl (fun u x hu => ?_) _ ht
    refine Canon.of_outside ?_ (State.setF_outside _ (by simp) ..)
    have h1 := State.setWordAt_canon hu (slotKey x n (0x8000 * t.fld Reg.IMG_XFER_OFS Fld.IMG_XFER_OFS_PART + (addr % 0x8000) / 4 * 4)) val
    exact h1.of_bytes rfl
@[simp] theorem execImgDataWrite_canon (h : Canon s) (dt : Nat) (acc : Access) (addr : Nat) (val : Word) :
    OutCanon (execImgDataWrite dt acc addr val s) := by simp [execImgDataWrite, h]
@[simp] theorem execSlotPrecheckDone_canon (h : Canon s) (dt : Nat) : OutCanon (execSlotPrecheckDone dt s) := by
  simp only [execSlotPrecheckDone]
  split <;> simp [h]
@[simp] theorem execImgRevoke_canon (h : Canon s) (dt : Nat) (acc : Access) (val : Word) : OutCanon (execImgRevoke dt acc val s) := by
  simp [execImgRevoke, h]
@[simp] theorem execImgMinVerWrite_canon (h : Canon s) (dt : Nat) (acc : Access) (val : Word) : OutCanon (execImgMinVerWrite dt acc val s) := by
  simp [execImgMinVerWrite, h]
@[simp] theorem execTuningStoreWrite_canon (h : Canon s) (dt : Nat) : OutCanon (execTuningStoreWrite dt s) := by
  simp [execTuningStoreWrite, h]
@[simp] theorem State.afterReset_canon (h : Canon s) : Canon s.afterReset := canon_filter h rfl
@[simp] theorem State.cleared_canon (h : Canon s) : Canon s.cleared := by simp [State.cleared, h]
@[simp] theorem State.moduleReset_canon (h : Canon s) (kind : Nat) : Canon (s.moduleReset kind) := by simp [State.moduleReset, h]
@[simp] theorem State.wakeSource_canon (h : Canon s) (src : WakeSrc) (inst : Nat) : Canon (s.wakeSource src inst) := by
  simp [State.wakeSource, h]
@[simp] theorem execQsetClr_canon (h : Canon s) (dt : Nat) (acc : Access) (k : Nat) (val : Word) : OutCanon (execQsetClr dt acc k val s) := by
  simp [execQsetClr, h]
@[simp] theorem execQsetForce_canon (h : Canon s) (dt : Nat) (acc : Access) (val : Word) : OutCanon (execQsetForce dt acc val s) := by
  simp [execQsetForce, h]
@[simp] theorem execTripPadActive_canon (h : Canon s) (dt k : Nat) (level : Bool) (held : Nat) :
    OutCanon (execTripPadActive dt k level held s) := by simp [execTripPadActive, h]
@[simp] theorem execWindowComparatorTrip_canon (h : Canon s) (dt ch : Nat) (code : Int) : OutCanon (execWindowComparatorTrip dt ch code s) := by
  simp [execWindowComparatorTrip, h]
@[simp] theorem execTripClearRepeat_canon (h : Canon s) (dt : Nat) : OutCanon (execTripClearRepeat dt s) := by
  simp only [execTripClearRepeat]
  split <;> simp [h]
@[simp] theorem State.sramPeriod_canon (h : Canon s) (x : Side) (new : List MemReq) : Canon (s.sramPeriod x new) := by
  simp [State.sramPeriod, h]
@[simp] theorem State.sramIdle_canon (h : Canon s) (n : Nat) (x : Side) : Canon (State.sramIdle n s x) := by
  induction n generalizing s with
  | zero => exact h
  | succ n ih => simp only [State.sramIdle]; split <;> simp [h, ih]
@[simp] theorem State.dramAccess_canon (h : Canon s) (x : Side) (r : MemReq) : Canon (s.dramAccess x r) := by
  simp only [State.dramAccess]
  (repeat' split) <;> simp [h]
@[simp] theorem State.memTurn_canon (h : Canon s) (t : MemTurn) : Canon (s.memTurn t) := by
  simp only [State.memTurn]
  refine Canon.foldl (fun u r hu => State.dramAccess_canon hu _ _) _ ?_
  simp [h]
@[simp] theorem State.memTurns_canon (h : Canon s) (ts : List MemTurn) : Canon (s.memTurns ts) :=
  State.sramIdle_canon (State.sramIdle_canon (Canon.foldl (fun _ m ht => State.memTurn_canon ht m) ts h) _ _) _ _
@[simp] theorem State.memCopy_canon (h : Canon s) (y x : Side) (ctrlMb : Nat) : Canon (s.memCopy y x ctrlMb) :=
  Canon.foldl (fun _ _ ht => State.setByte_canon ht _ _) _ (canon_filter h rfl)
@[simp] theorem State.memLost_canon (h : Canon s) (x : Side) : Canon (s.memLost x) := by simp [State.memLost, h]
@[simp] theorem State.recordGone_canon (h : Canon s) (x : Side) (n no : Nat) : Canon (s.recordGone x n no) := by
  refine Canon.foldl (fun t p ht => ?_) _ h
  dsimp only
  split
  · exact (State.eraseBytes_canon ht _ _).of_bytes rfl
  · exact ht
@[simp] theorem State.makeRoom_canon (h : Canon s) (x : Side) (n need : Nat) : Canon (s.makeRoom x n need) := by
  unfold State.makeRoom
  extract_lets e
  obtain ⟨kept, gone⟩ := dropOldest (s.partBytes n) need e.recs
  dsimp only
  split
  · exact h
  · exact Canon.foldl (fun t no ht => State.recordGone_canon ht _ _ _) _ (Canon.of_outside h (State.setEng_outside _ (by simp) ..))
@[simp] theorem State.storeSample_canon (h : Canon s) (x : Side) (n : Nat) (r : AcqRec) (i : AcqItem) : Canon (s.storeSample x n r i) := by
  simp [State.storeSample, h]
@[simp] theorem State.takeSample_canon (h : Canon s) (x : Side) (n : Nat) (i : AcqItem) : Canon (s.takeSample x n i) := by
  simp only [State.takeSample]
  split <;> simp [h]
@[simp] theorem State.fireEngine_canon (h : Canon s) (x : Side) (n unit : Nat) (ts busTs : Count) (k : Nat) :
    Canon (s.fireEngine x n unit ts busTs k) := by
  simp only [State.fireEngine]
  split
  · refine Canon.foldl (fun t i ht => ?_) _ (by simp [h])
    split
    · refine Canon.of_outside ?_ (State.checkPost_outside _ (by simp) ..)
      refine State.storeSample_canon ?_ ..
      exact Canon.of_outside ht (State.setEng_outside _ (by simp) ..)
    · exact ht
  · split <;> simp [h]
@[simp] theorem State.fireAt_canon (h : Canon s) (x : Side) (n unit : Nat) (ts busTs : Count) : Canon (s.fireAt x n unit ts busTs) := by
  simp [State.fireAt, h]
@[simp] theorem State.drainQueue_canon (h : Canon s) (k : Nat) (x : Side) (n : Nat) : Canon (State.drainQueue k x n s) := by
  induction k generalizing s with
  | zero => exact h
  | succ k ih =>
    have hq : Canon (s.queueTake x (109 + n)).2 := Canon.of_outside h (by simp)
    rw [State.drainQueue]
    split <;> rename_i e <;> rw [e] at hq
    · refine ih ?_
      split
      · exact hq
      · exact State.takeSample_canon hq _ _ _
    · exact hq
@[simp] theorem State.sampleSide_canon (h : Canon s) (x : Side) (n : Nat) (digital : List Nat) (edges : List (Nat × Bool × Count))
    (taken : Nat) : Canon (s.sampleSide x n digital edges taken) := by
  simp only [State.sampleSide]
  split
  · simp [h]
  · refine State.drainQueue_canon (Canon.of_outside ?_ (State.gapOffer_outside _ (by simp) ..)) _ _ _
    refine Canon.of_outside ?_ (State.setEng_outside _ (by simp) ..)
    split
    · split
      · simp [h]
      · refine Canon.of_outside (State.fireEngine_canon ?_ ..) (State.chainFire_outside _ (by simp) ..)
        simp [h]
    · simp [h]
@[simp] theorem execAcqSample_canon (h : Canon s) (dt n : Nat) (digital : List Nat) (edges : List (Nat × Bool × Count)) (takenA takenB :
    Nat) : OutCanon (execAcqSample dt n digital edges takenA takenB s) := by
  have h1 : Canon (s.tick dt) := Canon.of_outside h (s.tick_outside (by simp) dt)
  have h2 := State.sampleSide_canon (State.sampleSide_canon h1 .a n digital edges takenA) .b n digital edges takenB
  unfold execAcqSample
  dsimp only
  split
  · simpa using h2
  · simpa using h1
@[simp] theorem State.stopEngine_canon (h : Canon s) (x : Side) (n : Nat) : Canon (s.stopEngine x n) := by simp [State.stopEngine, h]
@[simp] theorem State.acqApply_canon (h : Canon s) (x : Side) (n bits : Nat) : Canon (s.acqApply x n bits) := by
  unfold State.acqApply
  extract_lets s1 _ s2 s3
  have h1 : Canon s1 := by
    unfold s1
    split
    · split
      · exact State.stopEngine_canon h ..
      · exact h
    · exact h
  clear_value s1
  have h2 : Canon s2 := by
    unfold s2
    split
    · split
      · refine Canon.of_outside ?_ (State.setEng_outside _ (by simp) ..)
        exact Canon.foldl (fun t r ht => State.recordGone_canon ht _ _ _) _ h1
      · exact Canon.of_outside h1 (State.acqRefuse_outside _ (by simp) ..)
    · exact h1
  clear_value s2
  have h3 : Canon s3 := by
    unfold s3
    split
    · split
      · exact Canon.of_outside h2 (State.armEngine_outside _ (by simp) ..)
      · exact Canon.of_outside h2 (State.acqRefuse_outside _ (by simp) ..)
    · exact h2
  clear_value s3
  split
  · split
    · exact State.fireAt_canon h3 ..
    · exact Canon.of_outside h3 (State.acqRefuse_outside _ (by simp) ..)
  · exact h3
@[simp] theorem State.acqBoundary_canon (h : Canon s) : Canon s.acqBoundary := by
  refine Canon.of_bytes ?_ rfl
  refine Canon.of_outside ?_ (foldl_outside (fun t x => foldl_outside (fun u n => State.postRecord_outside _ (by simp) ..) _ _) _ _)
  exact Canon.foldl (fun t d ht => Canon.foldl (fun u x hu => State.acqApply_canon hu _ _ _) _ ht) _ h
@[simp] theorem execAcqArm_canon (h : Canon s) (dt : Nat) (acc : Access) (addr : Nat) (val : Word) :
    OutCanon (execAcqArm dt acc addr val s) := by simp [execAcqArm, h]
@[simp] theorem execAcqStop_canon (h : Canon s) (dt : Nat) (acc : Access) (n : Nat) (val : Word) : OutCanon (execAcqStop dt acc n val s) := by
  simp [execAcqStop, h]
@[simp] theorem execAcqTrig_canon (h : Canon s) (dt : Nat) (acc : Access) (addr : Nat) (val : Word) :
    OutCanon (execAcqTrig dt acc addr val s) := by simp [execAcqTrig, h]
@[simp] theorem execClearStore_canon (h : Canon s) (dt : Nat) (acc : Access) (n : Nat) (val : Word) :
    OutCanon (execClearStore dt acc n val s) := by simp [execClearStore, h]
@[simp] theorem execAcqTimeTrigger_canon (h : Canon s) (dt n : Nat) : OutCanon (execAcqTimeTrigger dt n s) := by
  simp [execAcqTimeTrigger, h]
@[simp] theorem execAcqSeqTimeout_canon (h : Canon s) (dt n : Nat) : OutCanon (execAcqSeqTimeout dt n s) := by simp [execAcqSeqTimeout, h]
@[simp] theorem execAcqHoldoffExpiry_canon (h : Canon s) (dt n : Nat) : OutCanon (execAcqHoldoffExpiry dt n s) := by
  simp [execAcqHoldoffExpiry, h]
@[simp] theorem State.acqRdSelect_canon (h : Canon s) (p : Path) (val : Word) : Canon (s.acqRdSelect p val) := by
  exact (State.eraseBytes_canon (s := (s.pwr p Reg.ACQ_RD_SEL (val &&& 0xF0FFFFFF)).pwr p Reg.ACQ_RD_STAT 0)
    (h.of_bytes rfl) (acqWinKey p 0) 0x10000000).of_bytes rfl
@[simp] theorem State.acqRdSelWrite_canon (h : Canon s) (acc : Access) (val : Word) : Canon (s.acqRdSelWrite acc val) :=
  State.setting_canon h _ _ _ (fun _ ht => State.acqRdSelect_canon ht _ _) fun _ ht => ht
@[simp] theorem execAcqRecordRequest_canon (h : Canon s) (dt : Nat) (acc : Access) (val : Word) :
    OutCanon (execAcqRecordRequest dt acc val s) := by simp [execAcqRecordRequest, h]
@[simp] theorem State.fillWindow_canon (h : Canon s) (p : Path) (bs : List Byte) : Canon (s.fillWindow p bs) :=
  Canon.foldl (fun _ _ ht => State.setByte_canon ht _ _) _ h
@[simp] theorem execAcqRecordReady_canon (h : Canon s) (dt : Nat) (p : Path) : OutCanon (execAcqRecordReady dt p s) := by
  unfold execAcqRecordReady
  extract_lets s1
  split
  · simp [s1, h]
  · rename_i s2 sel _ _ _
    have h2 : Canon s2 := Canon.of_outside h (by simp [s2, s1])
    split
    · rename_i bs o _
      rw [outCanon_next]
      refine Canon.of_outside ?_ (State.pwr_outside _ (by simp) ..)
      refine State.fillWindow_canon ?_ p bs
      exact h2.of_bytes (by dsimp only)
    · simp [h2]
@[simp] theorem execAcqClr_canon (h : Canon s) (dt : Nat) (acc : Access) (val : Word) : OutCanon (execAcqClr dt acc val s) := by
  simp [execAcqClr, h]
@[simp] theorem State.acqStopAll_canon (h : Canon s) : Canon s.acqStopAll := by
  refine Canon.foldl (fun t x ht => Canon.foldl (fun u n hu => ?_) _ ht) _ h
  split
  · exact State.stopEngine_canon hu _ _
  · exact hu
@[simp] theorem execTileStore_canon (h : Canon s) (dt : Nat) (x : Side) (n a q dst : Nat) (feeds : Bool) :
    OutCanon (execTileStore dt x n a q dst feeds s) := by simp [execTileStore, h]
@[simp] theorem execTileAdd_canon (h : Canon s) (dt : Nat) (x : Side) (n : Nat) (a b : Opnd) (dst : Nat) :
    OutCanon (execTileAdd dt x n a b dst s) := by simp [execTileAdd, h]
@[simp] theorem execTileSub_canon (h : Canon s) (dt : Nat) (x : Side) (n : Nat) (a b : Opnd) (dst : Nat) :
    OutCanon (execTileSub dt x n a b dst s) := by simp [execTileSub, h]
@[simp] theorem execTileNeg_canon (h : Canon s) (dt : Nat) (x : Side) (n : Nat) (a : Opnd) (dst : Nat) :
    OutCanon (execTileNeg dt x n a dst s) := by simp [execTileNeg, h]
@[simp] theorem execTileAbs_canon (h : Canon s) (dt : Nat) (x : Side) (n : Nat) (a : Opnd) (dst : Nat) :
    OutCanon (execTileAbs dt x n a dst s) := by simp [execTileAbs, h]
@[simp] theorem execTileMin_canon (h : Canon s) (dt : Nat) (x : Side) (n : Nat) (a b : Opnd) (dst : Nat) :
    OutCanon (execTileMin dt x n a b dst s) := by simp [execTileMin, h]
@[simp] theorem execTileMax_canon (h : Canon s) (dt : Nat) (x : Side) (n : Nat) (a b : Opnd) (dst : Nat) :
    OutCanon (execTileMax dt x n a b dst s) := by simp [execTileMax, h]
@[simp] theorem execTileScale_canon (h : Canon s) (dt : Nat) (x : Side) (n : Nat) (a : Opnd) (sh : Int) (dst : Nat) :
    OutCanon (execTileScale dt x n a sh dst s) := by simp [execTileScale, h]
@[simp] theorem execTileLim_canon (h : Canon s) (dt : Nat) (x : Side) (n : Nat) (a lo hi : Opnd) (dst : Nat) (feeds : Bool) :
    OutCanon (execTileLim dt x n a lo hi dst feeds s) := by simp [execTileLim, h]
@[simp] theorem execTileCmp_canon (h : Canon s) (dt : Nat) (x : Side) (n : Nat) (r : Rel) (a b : Opnd) (c : Nat) :
    OutCanon (execTileCmp dt x n r a b c s) := by simp [execTileCmp, h]
@[simp] theorem execTileSel_canon (h : Canon s) (dt : Nat) (x : Side) (n : Nat) (c : Cond) (a b : Opnd) (dst : Nat) :
    OutCanon (execTileSel dt x n c a b dst s) := by simp [execTileSel, h]
@[simp] theorem execTileInteg_canon (h : Canon s) (dt : Nat) (x : Side) (n a j q lo hi : Nat) (feeds : Bool) :
    OutCanon (execTileInteg dt x n a j q lo hi feeds s) := by simp [execTileInteg, h]
@[simp] theorem execTileSincos_canon (h : Canon s) (dt : Nat) (x : Side) (n : Nat) (a : Opnd) (ds dc : Nat) :
    OutCanon (execTileSincos dt x n a ds dc s) := by simp [execTileSincos, h]
@[simp] theorem execTileLut_canon (h : Canon s) (dt : Nat) (x : Side) (n table : Nat) (a : Opnd) (dst : Nat) :
    OutCanon (execTileLut dt x n table a dst s) := by simp [execTileLut, h]
@[simp] theorem execTileDiv_canon (h : Canon s) (dt : Nat) (x : Side) (n : Nat) (a b : Opnd) (f dst : Nat) :
    OutCanon (execTileDiv dt x n a b f dst s) := by simp [execTileDiv, h]
@[simp] theorem execTileSqrt_canon (h : Canon s) (dt : Nat) (x : Side) (n : Nat) (a : Opnd) (dst : Nat) :
    OutCanon (execTileSqrt dt x n a dst s) := by simp [execTileSqrt, h]
@[simp] theorem execTileIn_canon (h : Canon s) (dt : Nat) (x : Side) (n : Nat) (src : TileSrc) (dst : Nat) :
    OutCanon (execTileIn dt x n src dst s) := by
  simp only [execTileIn]
  (repeat' split) <;> simp [h]
@[simp] theorem execTileWaitMiss_canon (h : Canon s) (dt : Nat) (x : Side) (n : Nat) (src : TileSrc) (dst : Nat) :
    OutCanon (execTileWaitMiss dt x n src dst s) := by
  unfold execTileWaitMiss
  split <;> simp [h]
@[simp] theorem execFastSenseSample_canon (h : Canon s) (dt ch : Nat) (code : Int) : OutCanon (execFastSenseSample dt ch code s) := by
  simp [execFastSenseSample, h]
@[simp] theorem execTileStamp_canon (h : Canon s) (dt : Nat) (x : Side) (n dst : Nat) : OutCanon (execTileStamp dt x n dst s) := by
  simp [execTileStamp, h]
@[simp] theorem execTileXput_canon (h : Canon s) (dt : Nat) (x : Side) (n w : Nat) (src : Opnd) : OutCanon (execTileXput dt x n w src s) := by
  simp [execTileXput, h]
@[simp] theorem execTileXget_canon (h : Canon s) (dt : Nat) (x : Side) (n w dst : Nat) : OutCanon (execTileXget dt x n w dst s) := by
  simp [execTileXget, h]
@[simp] theorem execTileChainPut_canon (h : Canon s) (dt : Nat) (x : Side) (n c : Nat) (src : Opnd) :
    OutCanon (execTileChainPut dt x n c src s) := by simp [execTileChainPut, h]
@[simp] theorem execTileChainGet_canon (h : Canon s) (dt : Nat) (x : Side) (n c dst : Nat) : OutCanon (execTileChainGet dt x n c dst s) := by
  simp only [execTileChainGet]
  (repeat' split) <;> simp [h]
@[simp] theorem execTilePost_canon (h : Canon s) (dt : Nat) (x : Side) (n ch : Nat) (src : Opnd) (named : Option TileSrc) :
    OutCanon (execTilePost dt x n ch src named s) := by simp [execTilePost, h]
@[simp] theorem execTilePub_canon (h : Canon s) (dt : Nat) (x : Side) (n slot : Nat) (src : Opnd) :
    OutCanon (execTilePub dt x n slot src s) := by simp [execTilePub, h]
@[simp] theorem execTileRep_canon (h : Canon s) (dt : Nat) (x : Side) (n len count : Nat) : OutCanon (execTileRep dt x n len count s) := by
  simp [execTileRep, h]
@[simp] theorem execTileBr_canon (h : Canon s) (dt : Nat) (x : Side) (n : Nat) (c : Cond) (target : Nat) :
    OutCanon (execTileBr dt x n c target s) := by simp [execTileBr, h]
@[simp] theorem execLoopPreset_canon (h : Canon s) (dt : Nat) (acc : Access) (n : Nat) (val : Word) :
    OutCanon (execLoopPreset dt acc n val s) := by simp [execLoopPreset, h]
@[simp] theorem execLoopClr_canon (h : Canon s) (dt : Nat) (acc : Access) (val : Word) : OutCanon (execLoopClr dt acc val s) := by
  simp [execLoopClr, h]
@[simp] theorem execEdgeUpdatePoint_canon (h : Canon s) (dt : Nat) (x : Side) (n : Nat) (mid : Bool) :
    OutCanon (execEdgeUpdatePoint dt x n mid s) := by
  simp only [execEdgeUpdatePoint]
  (repeat' split) <;> simp [h]
@[simp] theorem execCarrierPeriodStart_canon (h : Canon s) (dt : Nat) (x : Side) (n : Nat) : OutCanon (execCarrierPeriodStart dt x n s) := by
  unfold execCarrierPeriodStart
  extract_lets s1 p
  split
  · simp [s1, h]
  · rename_i s2 s3 _
    have h2 : Canon s2 := Canon.of_outside h (by simp [s2, s1])
    have h3 : Canon s3 := by unfold s3; split <;> simp [h2]
    clear_value s3
    simp [h3]
@[simp] theorem execSwnTransition_canon (h : Canon s) (dt n : Nat) (fall : Bool) (meas : Nat) :
    OutCanon (execSwnTransition dt n fall meas s) := by simp [execSwnTransition, h]
@[simp] theorem execSwnMiss_canon (h : Canon s) (dt n : Nat) (fall : Bool) : OutCanon (execSwnMiss dt n fall s) := by
  simp [execSwnMiss, h]
@[simp] theorem execSwnFault_canon (h : Canon s) (dt n : Nat) (opposite : Bool) (onFor : Nat) :
    OutCanon (execSwnFault dt n opposite onFor s) := by simp [execSwnFault, h]
@[simp] theorem execDlineCalibrationDone_canon (h : Canon s) (dt n : Nat) (b : Bool) (taps : Nat) (monotonic : Bool) :
    OutCanon (execDlineCalibrationDone dt n b taps monotonic s) := by simp [execDlineCalibrationDone, h]
@[simp] theorem execDlineExchange_canon (h : Canon s) (dt n : Nat) (b : Bool) : OutCanon (execDlineExchange dt n b s) := by
  simp [execDlineExchange, h]
@[simp] theorem execPwmPadShort_canon (h : Canon s) (dt n : Nat) (b : Bool) (differs : Nat) : OutCanon (execPwmPadShort dt n b differs s) := by
  simp [execPwmPadShort, h]
@[simp] theorem execEdgeClr_canon (h : Canon s) (dt : Nat) (acc : Access) (val : Word) : OutCanon (execEdgeClr dt acc val s) := by
  simp [execEdgeClr, h]
@[simp] theorem execRingLockLost_canon (h : Canon s) (dt : Nat) (port : Option Nat) (e : Nat) (d : Bool) (invalid quiet : Nat) :
    OutCanon (execRingLockLost dt port e d invalid quiet s) := by
  simp only [execRingLockLost]
  (repeat' split) <;> simp [h]
@[simp] theorem execEpInterfaceDown_canon (h : Canon s) (dt e : Nat) : OutCanon (execEpInterfaceDown dt e s) := by
  simp [execEpInterfaceDown, h]
@[simp] theorem execEpThroughRestore_canon (h : Canon s) (dt e : Nat) : OutCanon (execEpThroughRestore dt e s) := by
  simp [execEpThroughRestore, h]
@[simp] theorem execRingUpdatePoint_canon (h : Canon s) (dt : Nat) (x : Side) (ch : Nat) : OutCanon (execRingUpdatePoint dt x ch s) := by
  unfold execRingUpdatePoint
  extract_lets s1 e p lead
  split
  · simp [s1, h]
  rename_i s2 _
  have h2 : Canon s2 := by
    unfold s2
    split <;> simp [s1, h]
  clear_value s2
  split
  · simpa using h2
  split
  rename_i w s3 e3
  have h3 : Canon s3 := Canon.of_outside h2 (State.outside_of_snd (State.takePost_outside _ (by simp) x ch) e3)
  extract_lets q
  split
  rename_i en s4 e4
  have h4 : Canon s4 := Canon.of_outside h3
    ((State.outside_of_snd (State.formEntry_outside _ (by simp) x ch) e4).trans (State.setPair_outside _ (by simp) ..))
  extract_lets zero on off per s5
  have h5 : Canon s5 := Canon.of_outside h4 (by simp [s5])
  clear_value s5
  split
  · rename_i s6 _
    have h6 : Canon s6 := h5.of_bytes rfl
    clear_value s6
    simp [h6]
  · simpa using h5
@[simp] theorem execSched_canon (h : Canon s) (dt e : Nat) (viaD : Bool) (f : List Byte) : OutCanon (execSched dt e viaD f s) := by
  simp [execSched, h]
@[simp] theorem execEpApplyEntry_canon (h : Canon s) (dt e leg : Nat) : OutCanon (execEpApplyEntry dt e leg s) := by
  simp only [execEpApplyEntry]
  (repeat' split) <;> simp [h]
@[simp] theorem execSync_canon (h : Canon s) (dt e : Nat) (viaD : Bool) (f : List Byte) : OutCanon (execSync dt e viaD f s) := by
  rw [execSync, outCanon_next]
  refine Canon.of_outside (Canon.of_outside h (s.tick_outside (by simp) dt)) (State.epFrame_outside _ (by simp) _ _ _ _ fun t v => ?_)
  dsimp only
  split
  · simp
  · split <;> simp
@[simp] theorem execDelay_canon (h : Canon s) (dt e : Nat) (viaD : Bool) (f : List Byte) (stamp turnedAt : Nat) :
    OutCanon (execDelay dt e viaD f stamp turnedAt s) := by simp [execDelay, h]
@[simp] theorem execDelayRun_canon (h : Canon s) (dt : Nat) (results : List (Nat × Nat)) : OutCanon (execDelayRun dt results s) := by
  simp [execDelayRun, h]
@[simp] theorem execDelayRpt_canon (h : Canon s) (dt port : Nat) (f : List Byte) : OutCanon (execDelayRpt dt port f s) := by
  rw [execDelayRpt, outCanon_next]
  refine Canon.of_outside (Canon.of_outside h (s.tick_outside (by simp) dt)) (State.portFrame_outside _ (by simp) _ _ _ fun t => ?_)
  extract_lets
  split
  · rfl
  · split
    · rfl
    · extract_lets _ _ _ t2
      split <;> simp [t2]
@[simp] theorem execSetdly_canon (h : Canon s) (dt e : Nat) (viaD : Bool) (f : List Byte) : OutCanon (execSetdly dt e viaD f s) := by
  simp [execSetdly, h]
@[simp] theorem execEnum_canon (h : Canon s) (dt e : Nat) (viaD : Bool) (f : List Byte) : OutCanon (execEnum dt e viaD f s) := by
  simp [execEnum, h]
@[simp] theorem execEnumPeriodic_canon (h : Canon s) (dt : Nat) : OutCanon (execEnumPeriodic dt s) := by simp [execEnumPeriodic, h]
@[simp] theorem execConfig_canon (h : Canon s) (dt e : Nat) (viaD : Bool) (f : List Byte) : OutCanon (execConfig dt e viaD f s) := by
  simp [execConfig, h]
@[simp] theorem execResume_canon (h : Canon s) (dt e : Nat) (viaD : Bool) (f : List Byte) : OutCanon (execResume dt e viaD f s) := by
  simp [execResume, h]
@[simp] theorem execIdentReq_canon (h : Canon s) (dt e : Nat) (viaD : Bool) (f : List Byte) : OutCanon (execIdentReq dt e viaD f s) := by
  simp [execIdentReq, h]
@[simp] theorem execIdent_canon (h : Canon s) (dt port : Nat) (f : List Byte) : OutCanon (execIdent dt port f s) := by
  rw [execIdent, outCanon_next]
  refine Canon.of_outside (Canon.of_outside h (s.tick_outside (by simp) dt)) (State.portFrame_outside _ (by simp) _ _ _ fun t => ?_)
  extract_lets e ok r s2 was found _ s3 pr s4
  have h4 : s4.outside notBytes = t.outside notBytes := by simp [s4, s3, s2]
  (repeat' split) <;> simp [h4]
@[simp] theorem execRingLockAcquired_canon (h : Canon s) (dt : Nat) (port : Option Nat) (e : Nat) (d : Bool) (headers : Nat) :
    OutCanon (execRingLockAcquired dt port e d headers s) := by
  simp only [execRingLockAcquired]
  (repeat' split) <;> simp [h]
@[simp] theorem execRingBringUp_canon (h : Canon s) (dt : Nat) : OutCanon (execRingBringUp dt s) := by simp [execRingBringUp, h]
@[simp] theorem execMeas_canon (h : Canon s) (dt port : Nat) (f : List Byte) : OutCanon (execMeas dt port f s) := by
  rw [execMeas, outCanon_next]
  refine Canon.of_outside (Canon.of_outside h (s.tick_outside (by simp) dt)) (State.portFrame_outside _ (by simp) _ _ _ fun t => ?_)
  extract_lets e key had _ s2 r s3 s4 s5 n ws ts _ s6 w
  split
  · rfl
  · have h2 : s2.outside notBytes = t.outside notBytes := by simp [s2]
    have h5 : s5.outside notBytes = t.outside notBytes := by simp [s5, s4, s3, h2]
    simp [s6, h5]
@[simp] theorem execTripBlock_canon (h : Canon s) (dt e : Nat) (b : List Byte) : OutCanon (execTripBlock dt e b s) := by
  simp [execTripBlock, h]
@[simp] theorem execPortTripBlockRx_canon (h : Canon s) (dt port : Nat) (b : List Byte) : OutCanon (execPortTripBlockRx dt port b s) := by
  simp [execPortTripBlockRx, h]
@[simp] theorem execEpLocalFault_canon (h : Canon s) (dt e : Nat) (active : Bool) : OutCanon (execEpLocalFault dt e active s) := by
  simp [execEpLocalFault, h]
@[simp] theorem execTripSetRepeat_canon (h : Canon s) (dt : Nat) : OutCanon (execTripSetRepeat dt s) := by simp [execTripSetRepeat, h]
@[simp] theorem execEpSafeTimeout_canon (h : Canon s) (dt e : Nat) : OutCanon (execEpSafeTimeout dt e s) := by simp [execEpSafeTimeout, h]
@[simp] theorem execEpNoLinkTimeout_canon (h : Canon s) (dt e : Nat) : OutCanon (execEpNoLinkTimeout dt e s) := by
  simp only [execEpNoLinkTimeout]
  split <;> simp [h]
@[simp] theorem execTakeover_canon (h : Canon s) (dt e : Nat) (viaD : Bool) (f : List Byte) : OutCanon (execTakeover dt e viaD f s) := by
  simp [execTakeover, h]
@[simp] theorem execRescan_canon (h : Canon s) (dt : Nat) (acc : Access) (val : Word) : OutCanon (execRescan dt acc val s) := by
  simp [execRescan, h]
@[simp] theorem execDelayNow_canon (h : Canon s) (dt : Nat) (acc : Access) (val : Word) : OutCanon (execDelayNow dt acc val s) := by
  simp [execDelayNow, h]
@[simp] theorem execRingCmdResumeEp_canon (h : Canon s) (dt : Nat) (acc : Access) (val : Word) :
    OutCanon (execRingCmdResumeEp dt acc val s) := by simp [execRingCmdResumeEp, h]
@[simp] theorem execRingCmdResumeAll_canon (h : Canon s) (dt : Nat) (acc : Access) (val : Word) :
    OutCanon (execRingCmdResumeAll dt acc val s) := by simp [execRingCmdResumeAll, h]
@[simp] theorem execRingClr_canon (h : Canon s) (dt : Nat) (acc : Access) (val : Word) : OutCanon (execRingClr dt acc val s) := by
  simp [execRingClr, h]
@[simp] theorem execEnergise_canon (h : Canon s) (dt : Nat) (acc : Access) (val : Word) : OutCanon (execEnergise dt acc val s) := by
  simp [execEnergise, h]
@[simp] theorem execDeenergise_canon (h : Canon s) (dt : Nat) (acc : Access) (val : Word) : OutCanon (execDeenergise dt acc val s) := by
  simp [execDeenergise, h]
@[simp] theorem execSstAckLockout_canon (h : Canon s) (dt : Nat) (acc : Access) (val : Word) : OutCanon (execSstAckLockout dt acc val s) := by
  simp [execSstAckLockout, h]
@[simp] theorem execBreakerReport_canon (h : Canon s) (dt : Nat) (mainClosed preClosed : Bool) :
    OutCanon (execBreakerReport dt mainClosed preClosed s) := by simp [execBreakerReport, h]
@[simp] theorem execSstLadderTimeout_canon (h : Canon s) (dt : Nat) : OutCanon (execSstLadderTimeout dt s) := by
  simp only [execSstLadderTimeout]
  (repeat' split) <;> simp [h]
@[simp] theorem execSstRestartDelay_canon (h : Canon s) (dt : Nat) : OutCanon (execSstRestartDelay dt s) := by
  simp [execSstRestartDelay, h]
@[simp] theorem execBypass_canon (h : Canon s) (dt : Nat) (acc : Access) (c : Nat) (val : Word) : OutCanon (execBypass dt acc c val s) := by
  simp [execBypass, h]
@[simp] theorem execRestore_canon (h : Canon s) (dt : Nat) (acc : Access) (c : Nat) (val : Word) : OutCanon (execRestore dt acc c val s) := by
  simp [execRestore, h]
@[simp] theorem execBypassTimeout_canon (h : Canon s) (dt c : Nat) : OutCanon (execBypassTimeout dt c s) := by simp [execBypassTimeout, h]
@[simp] theorem execCarrierReplan_canon (h : Canon s) (dt : Nat) : OutCanon (execCarrierReplan dt s) := by simp [execCarrierReplan, h]
@[simp] theorem execRtFTmoExpiry_canon (h : Canon s) (dt : Nat) : OutCanon (execRtFTmoExpiry dt s) := by
  simp only [execRtFTmoExpiry]
  split <;> simp [h]
@[simp] theorem execPllUnlockOut_canon (h : Canon s) (dt : Nat) : OutCanon (execPllUnlockOut dt s) := by simp [execPllUnlockOut, h]
@[simp] theorem execSstClr_canon (h : Canon s) (dt : Nat) (acc : Access) (val : Word) : OutCanon (execSstClr dt acc val s) := by
  simp [execSstClr, h]
@[simp] theorem execOutsStop_canon (h : Canon s) (dt : Nat) (acc : Access) (n : Nat) (val : Word) : OutCanon (execOutsStop dt acc n val s) := by
  simp [execOutsStop, h]
@[simp] theorem execOutsAckLockout_canon (h : Canon s) (dt : Nat) (acc : Access) (n : Nat) (val : Word) :
    OutCanon (execOutsAckLockout dt acc n val s) := by simp [execOutsAckLockout, h]
@[simp] theorem execPhaseRestore_canon (h : Canon s) (dt : Nat) (acc : Access) (m : Nat) (val : Word) :
    OutCanon (execPhaseRestore dt acc m val s) := by simp [execPhaseRestore, h]
@[simp] theorem execTrackingFault_canon (h : Canon s) (dt n : Nat) : OutCanon (execTrackingFault dt n s) := by simp [execTrackingFault, h]
@[simp] theorem execRetryWaitExpiry_canon (h : Canon s) (dt n : Nat) : OutCanon (execRetryWaitExpiry dt n s) := by
  simp [execRetryWaitExpiry, h]
@[simp] theorem execShedDlyExpiry_canon (h : Canon s) (dt n : Nat) : OutCanon (execShedDlyExpiry dt n s) := by
  simp only [execShedDlyExpiry]
  (repeat' split) <;> simp [h]
@[simp] theorem execImbalanceTrip_canon (h : Canon s) (dt m : Nat) : OutCanon (execImbalanceTrip dt m s) := by simp [execImbalanceTrip, h]
@[simp] theorem execStageStopTimeout_canon (h : Canon s) (dt n : Nat) : OutCanon (execStageStopTimeout dt n s) := by
  simp [execStageStopTimeout, h]
@[simp] theorem execOutsClr_canon (h : Canon s) (dt : Nat) (acc : Access) (val : Word) : OutCanon (execOutsClr dt acc val s) := by
  simp [execOutsClr, h]
@[simp] theorem execThConversion_canon (h : Canon s) (dt n milliOhm : Nat) : OutCanon (execThConversion dt n milliOhm s) := by
  simp [execThConversion, h]
@[simp] theorem execThValidRestore_canon (h : Canon s) (dt n : Nat) : OutCanon (execThValidRestore dt n s) := by
  simp only [execThValidRestore]
  split <;> simp [h]
@[simp] theorem execThermClr_canon (h : Canon s) (dt : Nat) (acc : Access) (val : Word) : OutCanon (execThermClr dt acc val s) := by
  simp [execThermClr, h]
@[simp] theorem execCoolCableTrip_canon (h : Canon s) (dt n : Nat) : OutCanon (execCoolCableTrip dt n s) := by simp [execCoolCableTrip, h]
@[simp] theorem execFlowUpdate_canon (h : Canon s) (dt src value : Nat) (good : Bool) : OutCanon (execFlowUpdate dt src value good s) := by
  simp [execFlowUpdate, h]
@[simp] theorem execFlowLossTimeout_canon (h : Canon s) (dt n : Nat) : OutCanon (execFlowLossTimeout dt n s) := by
  simp [execFlowLossTimeout, h]
@[simp] theorem execLeakDetected_canon (h : Canon s) (dt pad : Nat) (active : Bool) (held : Nat) :
    OutCanon (execLeakDetected dt pad active held s) := by simp [execLeakDetected, h]
@[simp] theorem execFlowLowTimeout_canon (h : Canon s) (dt n : Nat) : OutCanon (execFlowLowTimeout dt n s) := by
  simp [execFlowLowTimeout, h]
@[simp] theorem execCoolRestoreTimer_canon (h : Canon s) (dt n : Nat) : OutCanon (execCoolRestoreTimer dt n s) := by
  simp [execCoolRestoreTimer, h]
@[simp] theorem execRunOnExpiry_canon (h : Canon s) (dt n : Nat) : OutCanon (execRunOnExpiry dt n s) := by simp [execRunOnExpiry, h]
@[simp] theorem execCoolAck_canon (h : Canon s) (dt : Nat) (acc : Access) (n : Nat) (val : Word) : OutCanon (execCoolAck dt acc n val s) := by
  simp [execCoolAck, h]
@[simp] theorem execCoolClr_canon (h : Canon s) (dt : Nat) (acc : Access) (val : Word) : OutCanon (execCoolClr dt acc val s) := by
  simp [execCoolClr, h]
@[simp] theorem execContactorFeedback_canon (h : Canon s) (dt pad : Nat) (closed : Bool) :
    OutCanon (execContactorFeedback dt pad closed s) := by simp [execContactorFeedback, h]
@[simp] theorem execContactorTimeout_canon (h : Canon s) (dt n : Nat) : OutCanon (execContactorTimeout dt n s) := by
  simp [execContactorTimeout, h]
@[simp] theorem execEmergencyOpenTimeout_canon (h : Canon s) (dt n : Nat) : OutCanon (execEmergencyOpenTimeout dt n s) := by
  simp [execEmergencyOpenTimeout, h]
@[simp] theorem execSigChange_canon (h : Canon s) (dt n : Nat) (a b : SigSample) : OutCanon (execSigChange dt n a b s) := by
  simp [execSigChange, h]
@[simp] theorem execPpChange_canon (h : Canon s) (dt n pp : Nat) : OutCanon (execPpChange dt n pp s) := by simp [execPpChange, h]
@[simp] theorem execVehicleLinkUp_canon (h : Canon s) (dt n offered : Nat) (tls : Bool) : OutCanon (execVehicleLinkUp dt n offered tls s) := by
  simp [execVehicleLinkUp, h]
@[simp] theorem execLinkTimeout_canon (h : Canon s) (dt n : Nat) : OutCanon (execLinkTimeout dt n s) := by simp [execLinkTimeout, h]
@[simp] theorem execProtocolTimeout_canon (h : Canon s) (dt n : Nat) : OutCanon (execProtocolTimeout dt n s) := by
  simp [execProtocolTimeout, h]
@[simp] theorem execVehicleMessage_canon (h : Canon s) (dt n : Nat) (msg : VehMsg) : OutCanon (execVehicleMessage dt n msg s) := by
  unfold execVehicleMessage
  split <;> simp [h]
@[simp] theorem execPrecheckWindow_canon (h : Canon s) (dt n : Nat) : OutCanon (execPrecheckWindow dt n s) := by
  simp [execPrecheckWindow, h]
@[simp] theorem execCableCheckSettled_canon (h : Canon s) (dt n : Nat) : OutCanon (execCableCheckSettled dt n s) := by
  simp [execCableCheckSettled, h]
@[simp] theorem execCableCheckTimeout_canon (h : Canon s) (dt n : Nat) : OutCanon (execCableCheckTimeout dt n s) := by
  simp [execCableCheckTimeout, h]
@[simp] theorem execIsolationLoss_canon (h : Canon s) (dt n : Nat) : OutCanon (execIsolationLoss dt n s) := by simp [execIsolationLoss, h]
@[simp] theorem execImdWarnActive_canon (h : Canon s) (dt pad : Nat) : OutCanon (execImdWarnActive dt pad s) := by
  simp [execImdWarnActive, h]
@[simp] theorem execWeldCheckTimeout_canon (h : Canon s) (dt n : Nat) : OutCanon (execWeldCheckTimeout dt n s) := by
  simp [execWeldCheckTimeout, h]
@[simp] theorem execOutlStop_canon (h : Canon s) (dt : Nat) (acc : Access) (n : Nat) (val : Word) : OutCanon (execOutlStop dt acc n val s) := by
  simp [execOutlStop, h]
@[simp] theorem execOutlDisable_canon (h : Canon s) (dt : Nat) (acc : Access) (n : Nat) (val : Word) :
    OutCanon (execOutlDisable dt acc n val s) := by simp [execOutlDisable, h]
@[simp] theorem execOutlEnable_canon (h : Canon s) (dt : Nat) (acc : Access) (n : Nat) (val : Word) :
    OutCanon (execOutlEnable dt acc n val s) := by simp [execOutlEnable, h]
@[simp] theorem execOutlAckFault_canon (h : Canon s) (dt : Nat) (acc : Access) (n : Nat) (val : Word) :
    OutCanon (execOutlAckFault dt acc n val s) := by simp [execOutlAckFault, h]
@[simp] theorem execOutlClr_canon (h : Canon s) (dt : Nat) (acc : Access) (val : Word) : OutCanon (execOutlClr dt acc val s) := by
  simp [execOutlClr, h]
@[simp] theorem execTileEnd_canon (h : Canon s) (dt : Nat) (x : Side) (n : Nat) : OutCanon (execTileEnd dt x n s) := by
  simp [execTileEnd, h]
@[simp] theorem execMetrologyStale_canon (h : Canon s) (dt : Nat) : OutCanon (execMetrologyStale dt s) := by simp [execMetrologyStale, h]
@[simp] theorem execAlocClr_canon (h : Canon s) (dt : Nat) (acc : Access) (val : Word) : OutCanon (execAlocClr dt acc val s) := by
  simp [execAlocClr, h]
@[simp] theorem execEstopInput_canon (h : Canon s) (dt input : Nat) (level : Bool) : OutCanon (execEstopInput dt input level s) := by
  simp [execEstopInput, h]
@[simp] theorem execEstopDiscTimeout_canon (h : Canon s) (dt : Nat) : OutCanon (execEstopDiscTimeout dt s) := by
  simp [execEstopDiscTimeout, h]
@[simp] theorem execFbDiscrepancy_canon (h : Canon s) (dt pole : Nat) : OutCanon (execFbDiscrepancy dt pole s) := by
  simp [execFbDiscrepancy, h]
@[simp] theorem execSafeFbAck_canon (h : Canon s) (dt : Nat) (acc : Access) (val : Word) : OutCanon (execSafeFbAck dt acc val s) := by
  simp [execSafeFbAck, h]
@[simp] theorem execResetPadPulse_canon (h : Canon s) (dt pad width : Nat) : OutCanon (execResetPadPulse dt pad width s) := by
  simp [execResetPadPulse, h]
@[simp] theorem execAxisReset_canon (h : Canon s) (dt : Nat) (acc : Access) (a : Nat) (val : Word) :
    OutCanon (execAxisReset dt acc a val s) := by simp [execAxisReset, h]
@[simp] theorem execResetFault_canon (h : Canon s) (dt : Nat) (acc : Access) (val : Word) : OutCanon (execResetFault dt acc val s) := by
  simp [execResetFault, h]
@[simp] theorem execReopen_canon (h : Canon s) (dt : Nat) (acc : Access) (val : Word) : OutCanon (execReopen dt acc val s) := by
  simp [execReopen, h]
@[simp] theorem execSafeConfirm_canon (h : Canon s) (dt : Nat) (acc : Access) (val : Word) : OutCanon (execSafeConfirm dt acc val s) := by
  simp [execSafeConfirm, h]
@[simp] theorem execSafeClr_canon (h : Canon s) (dt : Nat) (acc : Access) (val : Word) : OutCanon (execSafeClr dt acc val s) := by
  simp [execSafeClr, h]
@[simp] theorem execOutputReadbackFault_canon (h : Canon s) (dt pad held : Nat) : OutCanon (execOutputReadbackFault dt pad held s) := by
  simp [execOutputReadbackFault, h]
@[simp] theorem execStoHoldExpiry_canon (h : Canon s) (dt : Nat) (side : Side) (a : Nat) : OutCanon (execStoHoldExpiry dt side a s) := by
  simp [execStoHoldExpiry, h]
@[simp] theorem execSs1Timeout_canon (h : Canon s) (dt a : Nat) : OutCanon (execSs1Timeout dt a s) := by simp [execSs1Timeout, h]
@[simp] theorem execSafetyFrameRx_canon (h : Canon s) (dt k : Nat) (bytes : List Byte) : OutCanon (execSafetyFrameRx dt k bytes s) := by
  simp [execSafetyFrameRx, h]
@[simp] theorem execSafetyFrameTx_canon (h : Canon s) (dt k : Nat) : OutCanon (execSafetyFrameTx dt k s) := by simp [execSafetyFrameTx, h]
@[simp] theorem execConnWatchdog_canon (h : Canon s) (dt k : Nat) : OutCanon (execConnWatchdog dt k s) := by simp [execConnWatchdog, h]
@[simp] theorem execTempTableUpdate_canon (h : Canon s) (dt src : Nat) (temp : Int) : OutCanon (execTempTableUpdate dt src temp s) := by
  simp [execTempTableUpdate, h]
@[simp] theorem execRwsApply_canon (h : Canon s) (dt : Nat) : OutCanon (execRwsApply dt s) := by simp [execRwsApply, h]
@[simp] theorem execWorkingMapReceived_canon (h : Canon s) (dt : Nat) : OutCanon (execWorkingMapReceived dt s) := by
  simp only [execWorkingMapReceived]
  split <;> simp [h]
@[simp] theorem execDieTimeStep_canon (h : Canon s) (dt : Nat) : OutCanon (execDieTimeStep dt s) := by simp [execDieTimeStep, h]
@[simp] theorem execTimeLine_canon (h : Canon s) (dt : Nat) : OutCanon (execTimeLine dt s) := by simp [execTimeLine, h]
@[simp] theorem execTimeLineTimeout_canon (h : Canon s) (dt : Nat) : OutCanon (execTimeLineTimeout dt s) := by
  simp [execTimeLineTimeout, h]
@[simp] theorem execSampleInstant_canon (h : Canon s) (dt : Nat) (codes : List Int) : OutCanon (execSampleInstant dt codes s) := by
  simp [execSampleInstant, h]
@[simp] theorem execBiasTest_canon (h : Canon s) (dt : Nat) (moved : List Nat) : OutCanon (execBiasTest dt moved s) := by
  simp [execBiasTest, h]
@[simp] theorem execRemoteChannelOpen_canon (h : Canon s) (dt n : Nat) (moving : Bool) (held : Nat) :
    OutCanon (execRemoteChannelOpen dt n moving held s) := by simp [execRemoteChannelOpen, h]
@[simp] theorem execGridCycle_canon (h : Canon s) (dt freq : Nat) : OutCanon (execGridCycle dt freq s) := by simp [execGridCycle, h]
@[simp] theorem execChannelStats_canon (h : Canon s) (dt : Nat) : OutCanon (execChannelStats dt s) := by simp [execChannelStats, h]
@[simp] theorem execHarmonicWindow_canon (h : Canon s) (dt : Nat) (res : List (Nat × Nat × List Word)) :
    OutCanon (execHarmonicWindow dt res s) := by simp [execHarmonicWindow, h]
@[simp] theorem execPolarityDetect_canon (h : Canon s) (dt c : Nat) : OutCanon (execPolarityDetect dt c s) := by
  simp only [execPolarityDetect]
  split <;> simp [h]
@[simp] theorem execSealWord_canon (h : Canon s) (dt : Nat) (back : BitVec 16) : OutCanon (execSealWord dt back s) := by
  simp [execSealWord, h]
@[simp] theorem execResultRecord_canon (h : Canon s) (dt : Nat) : OutCanon (execResultRecord dt s) := by simp [execResultRecord, h]
@[simp] theorem execMetrologyResult_canon (h : Canon s) (dt : Nat) : OutCanon (execMetrologyResult dt s) := by
  simp only [execMetrologyResult]
  split <;> simp [h]
@[simp] theorem execMetrClr_canon (h : Canon s) (dt : Nat) (acc : Access) (val : Word) : OutCanon (execMetrClr dt acc val s) := by
  simp [execMetrClr, h]
@[simp] theorem execDemandIntervalEnd_canon (h : Canon s) (dt : Nat) : OutCanon (execDemandIntervalEnd dt s) := by
  simp [execDemandIntervalEnd, h]
@[simp] theorem execTariffSwitch_canon (h : Canon s) (dt : Nat) : OutCanon (execTariffSwitch dt s) := by simp [execTariffSwitch, h]
@[simp] theorem execBillingPeriodClose_canon (h : Canon s) (dt : Nat) : OutCanon (execBillingPeriodClose dt s) := by
  simp [execBillingPeriodClose, h]
@[simp] theorem execSessionAccumOpen_canon (h : Canon s) (dt : Nat) : OutCanon (execSessionAccumOpen dt s) := by
  simp [execSessionAccumOpen, h]
@[simp] theorem execSessionAccumClose_canon (h : Canon s) (dt : Nat) : OutCanon (execSessionAccumClose dt s) := by
  simp [execSessionAccumClose, h]
@[simp] theorem execSessionSigned_canon (h : Canon s) (dt : Nat) : OutCanon (execSessionSigned dt s) := by simp [execSessionSigned, h]
@[simp] theorem execRegisterSave_canon (h : Canon s) (dt : Nat) : OutCanon (execRegisterSave dt s) := by simp [execRegisterSave, h]
@[simp] theorem execMetrPowerFail_canon (h : Canon s) (dt : Nat) (flushed : Bool) : OutCanon (execMetrPowerFail dt flushed s) := by
  simp [execMetrPowerFail, h]
@[simp] theorem execMetrDieStart_canon (h : Canon s) (dt : Nat) (holdupOk : Bool) : OutCanon (execMetrDieStart dt holdupOk s) := by
  simp [execMetrDieStart, h]
@[simp] theorem execDieWatchdogReset_canon (h : Canon s) (dt : Nat) : OutCanon (execDieWatchdogReset dt s) := by
  simp [execDieWatchdogReset, h]
@[simp] theorem execBillReset_canon (h : Canon s) (dt : Nat) (acc : Access) (val : Word) : OutCanon (execBillReset dt acc val s) := by
  simp [execBillReset, h]
@[simp] theorem execBillSettingsApply_canon (h : Canon s) (dt : Nat) : OutCanon (execBillSettingsApply dt s) := by
  simp [execBillSettingsApply, h]
@[simp] theorem execBillRecRequest_canon (h : Canon s) (dt : Nat) (acc : Access) (val : Word) : OutCanon (execBillRecRequest dt acc val s) := by
  simp [execBillRecRequest, h]
@[simp] theorem State.recordReady_canon (h : Canon s) (p : Path) (sel : Nat) : Canon (s.recordReady p sel) := by
  have h1 := State.eraseBytes_canon (s := { s with bill := { s.bill with reqs := SMap.put (fun _ => none) s.bill.reqs p.code none } })
    (h.of_bytes rfl) (billWinKey p 0) 0x800
  unfold State.recordReady
  dsimp only
  split
  · exact h1.of_bytes rfl
  · exact (Canon.foldl (fun t e ht => State.setByte_canon ht _ _) _ h1).of_bytes rfl
@[simp] theorem execBillRecReady_canon (h : Canon s) (dt : Nat) (p : Path) : OutCanon (execBillRecReady dt p s) := by
  simp only [execBillRecReady]
  split <;> simp [h]
@[simp] theorem execDisplayFrame_canon (h : Canon s) (dt n : Nat) : OutCanon (execDisplayFrame dt n s) := by simp [execDisplayFrame, h]
@[simp] theorem execDisplayButton_canon (h : Canon s) (dt n held : Nat) : OutCanon (execDisplayButton dt n held s) := by
  simp [execDisplayButton, h]
@[simp] theorem execDisplayTimeout_canon (h : Canon s) (dt n : Nat) : OutCanon (execDisplayTimeout dt n s) := by
  simp [execDisplayTimeout, h]
@[simp] theorem execCanPortSend_canon (h : Canon s) (dt : Nat) (acc : Access) (k p : Nat) (val : Word) :
    OutCanon (execCanPortSend dt acc k p val s) := by simp [execCanPortSend, h]
@[simp] theorem execCanPeriodicTick_canon (h : Canon s) (dt k p : Nat) : OutCanon (execCanPeriodicTick dt k p s) := by
  simp [execCanPeriodicTick, h]
@[simp] theorem execCanBusError_canon (h : Canon s) (dt k err tecUp recUp : Nat) (sending : Bool) :
    OutCanon (execCanBusError dt k err tecUp recUp sending s) := by simp [execCanBusError, h]
@[simp] theorem execCanRecoveryDone_canon (h : Canon s) (dt k : Nat) : OutCanon (execCanRecoveryDone dt k s) := by
  simp [execCanRecoveryDone, h]
@[simp] theorem execCanFrameReceived_canon (h : Canon s) (dt k : Nat) (msg : CanMsg) (remote : Bool) (sof : Count) :
    OutCanon (execCanFrameReceived dt k msg remote sof s) := by
  simp only [execCanFrameReceived]
  (repeat' split) <;> simp [h]
@[simp] theorem execCanFrameSent_canon (h : Canon s) (dt k : Nat) (msg : CanMsg) (sof : Count) :
    OutCanon (execCanFrameSent dt k msg sof s) := by
  simp only [execCanFrameSent]
  (repeat' split) <;> simp [h]
@[simp] theorem execCanRxSel_canon (h : Canon s) (dt : Nat) (acc : Access) (k : Nat) (val : Word) : OutCanon (execCanRxSel dt acc k val s) := by
  simp [execCanRxSel, h]
@[simp] theorem State.canWakeUp_canon (h : Canon s) (k src : Nat) (ide : Bool) (id : Nat) : Canon (s.canWakeUp k src ide id) := by
  unfold State.canWakeUp
  extract_lets w s0 s1 s2
  have h2 : Canon s2 := by
    unfold s2
    split <;> simp [s1, h]
  clear_value s2
  simp [h2]
@[simp] theorem State.canCtrlWrite_canon (h : Canon s) (acc : Access) (k : Nat) (val : Word) (wire : Bool) :
    Canon (s.canCtrlWrite acc k val wire) := by
  refine State.command_canon h _ _ _ fun t ht => ?_
  extract_lets s1 s2 s3
  have h3 : Canon s3 := Canon.of_outside ht (by simp [s3, s2, s1])
  clear_value s3
  split
  · exact State.canWakeUp_canon h3 ..
  · exact h3
@[simp] theorem execCanSleep_canon (h : Canon s) (dt : Nat) (acc : Access) (k : Nat) (val : Word) (wire : Bool) :
    OutCanon (execCanSleep dt acc k val wire s) := by simp [execCanSleep, h]
@[simp] theorem execCanCtrlWake_canon (h : Canon s) (dt : Nat) (acc : Access) (k : Nat) (val : Word) (wire : Bool) :
    OutCanon (execCanCtrlWake dt acc k val wire s) := by simp [execCanCtrlWake, h]
@[simp] theorem execCanPurgeCmd_canon (h : Canon s) (dt : Nat) (acc : Access) (k : Nat) (val : Word) (wire : Bool) :
    OutCanon (execCanPurgeCmd dt acc k val wire s) := by simp [execCanPurgeCmd, h]
@[simp] theorem execCanResume_canon (h : Canon s) (dt : Nat) (acc : Access) (k : Nat) (val : Word) (wire : Bool) :
    OutCanon (execCanResume dt acc k val wire s) := by simp [execCanResume, h]
@[simp] theorem execCanSleepEnter_canon (h : Canon s) (dt k : Nat) : OutCanon (execCanSleepEnter dt k s) := by simp [execCanSleepEnter, h]
@[simp] theorem execCanSleepTimeout_canon (h : Canon s) (dt k : Nat) : OutCanon (execCanSleepTimeout dt k s) := by
  simp [execCanSleepTimeout, h]
@[simp] theorem execCanWake_canon (h : Canon s) (dt k src : Nat) (msg : CanMsg) : OutCanon (execCanWake dt k src msg s) := by
  simp [execCanWake, h]
@[simp] theorem execCanWireFault_canon (h : Canon s) (dt k present : Nat) : OutCanon (execCanWireFault dt k present s) := by
  simp [execCanWireFault, h]
@[simp] theorem execCanWireClear_canon (h : Canon s) (dt k flag : Nat) : OutCanon (execCanWireClear dt k flag s) := by
  simp [execCanWireClear, h]
@[simp] theorem execCanClr_canon (h : Canon s) (dt : Nat) (acc : Access) (k : Nat) (val : Word) : OutCanon (execCanClr dt acc k val s) := by
  simp [execCanClr, h]
@[simp] theorem execFogEnChange_canon (h : Canon s) (dt : Nat) (active : Bool) (energy : SMap Nat) :
    OutCanon (execFogEnChange dt active energy s) := by simp [execFogEnChange, h]
@[simp] theorem execFoginChange_canon (h : Canon s) (dt k : Nat) (active : Bool) (energy : SMap Nat) :
    OutCanon (execFoginChange dt k active energy s) := by simp [execFoginChange, h]
@[simp] theorem execLswOn_canon (h : Canon s) (dt : Nat) (acc : Access) (n : Nat) (val : Word) : OutCanon (execLswOn dt acc n val s) := by
  simp [execLswOn, h]
@[simp] theorem execLswOff_canon (h : Canon s) (dt : Nat) (acc : Access) (n : Nat) (val : Word) : OutCanon (execLswOff dt acc n val s) := by
  simp [execLswOff, h]
@[simp] theorem execLswClear_canon (h : Canon s) (dt : Nat) (acc : Access) (n : Nat) (val : Word) : OutCanon (execLswClear dt acc n val s) := by
  simp [execLswClear, h]
@[simp] theorem execInrushEnd_canon (h : Canon s) (dt n : Nat) : OutCanon (execInrushEnd dt n s) := by simp [execInrushEnd, h]
@[simp] theorem execThermalRegulation_canon (h : Canon s) (dt n : Nat) : OutCanon (execThermalRegulation dt n s) := by
  simp [execThermalRegulation, h]
@[simp] theorem execThermalRegulationEnd_canon (h : Canon s) (dt n : Nat) : OutCanon (execThermalRegulationEnd dt n s) := by
  simp only [execThermalRegulationEnd]
  split <;> simp [h]
@[simp] theorem execThermalShutdown_canon (h : Canon s) (dt n e : Nat) : OutCanon (execThermalShutdown dt n e s) := by
  simp [execThermalShutdown, h]
@[simp] theorem execShortDetected_canon (h : Canon s) (dt n e : Nat) : OutCanon (execShortDetected dt n e s) := by
  simp [execShortDetected, h]
@[simp] theorem execOverloadTimeout_canon (h : Canon s) (dt n e : Nat) : OutCanon (execOverloadTimeout dt n e s) := by
  simp [execOverloadTimeout, h]
@[simp] theorem execRetryDelayExpiry_canon (h : Canon s) (dt n : Nat) (cool : Bool) : OutCanon (execRetryDelayExpiry dt n cool s) := by
  simp [execRetryDelayExpiry, h]
@[simp] theorem execRetryCountReset_canon (h : Canon s) (dt n : Nat) : OutCanon (execRetryCountReset dt n s) := by
  simp [execRetryCountReset, h]
@[simp] theorem execRailUndervoltage_canon (h : Canon s) (dt rail : Nat) (energy : SMap Nat) :
    OutCanon (execRailUndervoltage dt rail energy s) := by simp [execRailUndervoltage, h]
@[simp] theorem execRailRestored_canon (h : Canon s) (dt rail : Nat) : OutCanon (execRailRestored dt rail s) := by
  simp [execRailRestored, h]
@[simp] theorem execRailReversed_canon (h : Canon s) (dt rail : Nat) (now : Bool) (energy : SMap Nat) :
    OutCanon (execRailReversed dt rail now energy s) := by simp [execRailReversed, h]
@[simp] theorem execClampBucketRefilled_canon (h : Canon s) (dt n : Nat) : OutCanon (execClampBucketRefilled dt n s) := by
  simp [execClampBucketRefilled, h]
@[simp] theorem execPackageShed_canon (h : Canon s) (dt iSum pSw e : Nat) : OutCanon (execPackageShed dt iSum pSw e s) := by
  simp only [execPackageShed]
  (repeat' split) <;> simp [h]
@[simp] theorem execOffStateTest_canon (h : Canon s) (dt n : Nat) (bare sourced : Bool) : OutCanon (execOffStateTest dt n bare sourced s) := by
  simp [execOffStateTest, h]
@[simp] theorem execOpenOnDetect_canon (h : Canon s) (dt n : Nat) (below : Bool) : OutCanon (execOpenOnDetect dt n below s) := by
  simp [execOpenOnDetect, h]
@[simp] theorem execLswSnsSel_canon (h : Canon s) (dt : Nat) (acc : Access) (val : Word) : OutCanon (execLswSnsSel dt acc val s) := by
  simp [execLswSnsSel, h]
@[simp] theorem execLswClr_canon (h : Canon s) (dt : Nat) (acc : Access) (val : Word) : OutCanon (execLswClr dt acc val s) := by
  simp [execLswClr, h]
@[simp] theorem execPtpMessage_canon (h : Canon s) (dt port domain : Nat) (announce : Option (Nat × Nat)) (exchange : Option
    PtpExchange) : OutCanon (execPtpMessage dt port domain announce exchange s) := by
  simp only [execPtpMessage]
  (repeat' split) <;> simp [h]
@[simp] theorem execPtpAnnounceTimeout_canon (h : Canon s) (dt port : Nat) : OutCanon (execPtpAnnounceTimeout dt port s) := by
  simp [execPtpAnnounceTimeout, h]
@[simp] theorem execPtpTmoExpiry_canon (h : Canon s) (dt : Nat) : OutCanon (execPtpTmoExpiry dt s) := by
  simp only [execPtpTmoExpiry]
  split <;> simp [h]
@[simp] theorem execPpsInEdge_canon (h : Canon s) (dt : Nat) : OutCanon (execPpsInEdge dt s) := by simp [execPpsInEdge, h]
@[simp] theorem execPpsInMissing_canon (h : Canon s) (dt : Nat) : OutCanon (execPpsInMissing dt s) := by
  simp only [execPpsInMissing]
  split <;> simp [h]
@[simp] theorem execNtpResponse_canon (h : Canon s) (dt : Nat) (offset : Int) : OutCanon (execNtpResponse dt offset s) := by
  simp [execNtpResponse, h]
@[simp] theorem execTimeCorrection_canon (h : Canon s) (dt : Nat) (delta : Int) : OutCanon (execTimeCorrection dt delta s) := by
  simp [execTimeCorrection, h]
@[simp] theorem execTimeSetHi_canon (h : Canon s) (dt : Nat) (acc : Access) (val : Word) : OutCanon (execTimeSetHi dt acc val s) := by
  simp [execTimeSetHi, h]
@[simp] theorem execRtcTrim_canon (h : Canon s) (dt : Nat) : OutCanon (execRtcTrim dt s) := by simp [execRtcTrim, h]
@[simp] theorem execPpsOutPulse_canon (h : Canon s) (dt : Nat) : OutCanon (execPpsOutPulse dt s) := by simp [execPpsOutPulse, h]
@[simp] theorem execTimeQueueSel_canon (h : Canon s) (dt : Nat) (acc : Access) (val : Word) : OutCanon (execTimeQueueSel dt acc val s) := by
  simp [execTimeQueueSel, h]
@[simp] theorem execTimeQueueClr_canon (h : Canon s) (dt : Nat) (acc : Access) (val : Word) : OutCanon (execTimeQueueClr dt acc val s) := by
  simp [execTimeQueueClr, h]
theorem State.entryDue_canon (h : Canon s) {p : Path} {addr : Nat} {val : Word} {t : State} (e : s.entryDue p addr val = some t) : Canon t := by
  unfold State.entryDue at e
  (repeat' split at e) <;> simp only [Option.some.injEq, reduceCtorEq] at e <;> subst e
  · exact State.acqRdSelect_canon h _ _
  · exact Canon.of_outside h (State.billRecSelect_outside _ (by simp) ..)
  · exact Canon.of_outside h (State.canRxSelect_outside _ (by simp) ..)
  · exact h.of_bytes rfl
@[simp] theorem State.holdHooks_canon (h : Canon s) : Canon s.holdHooks := by simp [State.holdHooks, h]
@[simp] theorem State.safeHold_canon (h : Canon s) : Canon s.safeHold := by simp [State.safeHold, h]
@[simp] theorem execImageLoad_canon (h : Canon s) (dt : Nat) : OutCanon (execImageLoad dt s) := by
  unfold execImageLoad
  extract_lets s1 _ _ s2 boot
  have h1 : Canon s1 := Canon.of_outside h (s.tick_outside (by simp) dt)
  clear_value s1
  have h2 : Canon s2 := by
    unfold s2
    split
    · have h0 : Canon (s1.post Ev.TUNE_LOST) := by simp [h1]
      exact h0.of_bytes rfl
    · exact h1
  clear_value s2
  split
  · simpa using h1
  · split
    · simp [h1]
    · split <;> rename_i s3 e3 <;> have h3 := Canon.of_fst (Canon.of_outside h2 (State.tryLoad_outside (s := s2) (by simp) boot)) e3
      · simpa using h3
      · split
        · split <;> rename_i s4 e4 <;> have h4 := Canon.of_fst (Canon.of_outside h3 (State.tryLoad_outside (s := s3) (by simp) (1 - boot))) e4 <;>
            simp [h4]
        · simp [h3]
@[simp] theorem State.startActivation_canon (h : Canon s) (n : Nat) : Canon (s.startActivation n) := by simp [State.startActivation, h]
@[simp] theorem State.requestActivation_canon (h : Canon s) : Canon s.requestActivation := by simp [State.requestActivation, h]
@[simp] theorem State.slotActs_canon (h : Canon s) (val : Word) : Canon (s.slotActs val) := by simp [State.slotActs, h]
@[simp] theorem State.slotCtrlWrite_canon (h : Canon s) (acc : Access) (val : Word) : Canon (s.slotCtrlWrite acc val) := by
  refine State.setting_canon h _ _ _ (fun t ht => by simp [ht]) fun t ht => ?_
  split
  · exact State.slotActs_canon ht _
  · exact ht
@[simp] theorem execImgActivate_canon (h : Canon s) (dt : Nat) (acc : Access) (val : Word) : OutCanon (execImgActivate dt acc val s) := by
  simp [execImgActivate, h]
@[simp] theorem execImgConfirm_canon (h : Canon s) (dt : Nat) (acc : Access) (val : Word) : OutCanon (execImgConfirm dt acc val s) := by
  simp [execImgConfirm, h]
@[simp] theorem execBootWindowExpiry_canon (h : Canon s) (dt : Nat) : OutCanon (execBootWindowExpiry dt s) := by
  simp [execBootWindowExpiry, h]
@[simp] theorem execRevertStart_canon (h : Canon s) (dt : Nat) : OutCanon (execRevertStart dt s) := by simp [execRevertStart, h]
@[simp] theorem State.applyEntry_canon (h : Canon s) (p : Path) (e : Nat × Word) : Canon (s.applyEntry p e) := by
  unfold State.applyEntry
  split
  · exact State.entryDue_canon h ‹_›
  · split <;> simp [h]
@[simp] theorem State.flipOne_canon (h : Canon s) (n : Nat) : Canon (s.flipOne n) := by
  have h1 : Canon ((s.context n).entries.foldl (fun st e => st.applyEntry (s.context n).path e) s) :=
    Canon.foldl (fun t e ht => State.applyEntry_canon ht _ _) _ h
  unfold State.flipOne
  extract_lets c undo s1 s2 s3 res s4
  have h3 : Canon s3 := Canon.of_outside h1 (by simp [s3, s2, s1, c])
  clear_value s3
  have h4 : Canon s4 := by
    unfold s4
    split <;> simp [h3]
  clear_value s4
  simp [h4]
@[simp] theorem State.txnFlip_canon (h : Canon s) : Canon s.txnFlip := by
  unfold State.txnFlip
  extract_lets s1
  have h1 : Canon s1 := Canon.of_outside h (by simp [s1])
  clear_value s1
  split
  rename_i s2 ns e
  have h2 : Canon s2 := Canon.of_fst (Canon.of_outside h1 (State.settle_outside _ (by simp) _)) e
  exact Canon.foldl (fun t n ht => Canon.of_outside (State.flipOne_canon ht n) (State.flipFollowed_outside _ (by simp) ..)) _ h2
@[simp] theorem State.rollBack_canon (h : Canon s) (n reason : Nat) : Canon (s.rollBack n reason) := by
  have h1 : Canon ((s.context n).undo.foldl (fun st e => st.applyEntry (s.context n).path e) s) :=
    Canon.foldl (fun t e ht => State.applyEntry_canon ht _ _) _ h
  exact Canon.of_outside h1 (by simp [State.rollBack])
@[simp] theorem State.trialBoundary_canon (h : Canon s) (n : Nat) : Canon (s.trialBoundary n) := by
  simp only [State.trialBoundary]
  split
  · exact h
  · split
    · exact Canon.of_outside (State.rollBack_canon h _ _) (State.flipFollowed_outside _ (by simp) ..)
    · split <;> simp [h]
@[simp] theorem State.txnBoundary_canon (h : Canon s) : Canon s.txnBoundary :=
  State.txnFlip_canon (Canon.foldl (fun _ n ht => State.trialBoundary_canon ht n) _ h)
@[simp] theorem execTxnBegin_canon (h : Canon s) (dt : Nat) (acc : Access) (n : Nat) : OutCanon (execTxnBegin dt acc n s) := by
  simp [execTxnBegin, h]
@[simp] theorem execTxnCommit_canon (h : Canon s) (dt : Nat) (acc : Access) (n : Nat) : OutCanon (execTxnCommit dt acc n s) := by
  simp [execTxnCommit, h]
@[simp] theorem execTxnCommitTrial_canon (h : Canon s) (dt : Nat) (acc : Access) (n : Nat) : OutCanon (execTxnCommitTrial dt acc n s) := by
  simp [execTxnCommitTrial, h]
@[simp] theorem execTxnAbort_canon (h : Canon s) (dt : Nat) (acc : Access) (n : Nat) : OutCanon (execTxnAbort dt acc n s) := by
  simp [execTxnAbort, h]
@[simp] theorem execTxnConfirm_canon (h : Canon s) (dt : Nat) (acc : Access) (n : Nat) : OutCanon (execTxnConfirm dt acc n s) := by
  simp [execTxnConfirm, h]
@[simp] theorem execTxnValidationDone_canon (h : Canon s) (dt n : Nat) : OutCanon (execTxnValidationDone dt n s) := by
  simp [execTxnValidationDone, h]
@[simp] theorem execTxnFlip_canon (h : Canon s) (dt : Nat) : OutCanon (execTxnFlip dt s) := by simp [execTxnFlip, h]
@[simp] theorem execTxnConfirmEffect_canon (h : Canon s) (dt n : Nat) : OutCanon (execTxnConfirmEffect dt n s) := by
  simp [execTxnConfirmEffect, h]
@[simp] theorem execTxnIdleTimeout_canon (h : Canon s) (dt n : Nat) : OutCanon (execTxnIdleTimeout dt n s) := by
  simp [execTxnIdleTimeout, h]
@[simp] theorem execTxnTrialTimeout_canon (h : Canon s) (dt n : Nat) : OutCanon (execTxnTrialTimeout dt n s) := by
  simp [execTxnTrialTimeout, h]
@[simp] theorem execTxnRollback_canon (h : Canon s) (dt n : Nat) : OutCanon (execTxnRollback dt n s) := by
  simp only [execTxnRollback]
  split <;> simp [h]
@[simp] theorem execImgTxnTrialWrite_canon (h : Canon s) (dt : Nat) (acc : Access) (n : Nat) (val : Word) :
    OutCanon (execImgTxnTrialWrite dt acc n val s) := by simp [execImgTxnTrialWrite, h]
@[simp] theorem State.emptyBank_canon (h : Canon s) (n st : Nat) : Canon (s.emptyBank n st) :=
  (Canon.foldl (fun _ _ ht => State.eraseBytes_canon ht _ _) s.fwSides h).of_bytes rfl
@[simp] theorem State.fwCancel_canon (h : Canon s) : Canon s.fwCancel := by
  unfold State.fwCancel
  split
  · exact h
  · rename_i n _
    have h1 := State.emptyBank_canon h n 0
    exact h1.of_bytes rfl
@[simp] theorem State.fwLost_canon (h : Canon s) : Canon s.fwLost := by simp [State.fwLost, h]
@[simp] theorem State.copyMram_canon (h : Canon s) (y x : Side) : Canon (s.copyMram y x) :=
  Canon.foldl (fun _ _ ht => State.setByte_canon ht _ _) _ (canon_filter h rfl)
@[simp] theorem State.failoverHooks_canon (h : Canon s) (lost : Side) : Canon (s.failoverHooks lost) := by
  unfold State.failoverHooks
  extract_lets s1 s2
  have h1 : Canon s1 := Canon.of_outside h (by simp [s1])
  clear_value s1
  have h2 : Canon s2 := Canon.of_outside (State.fwLost_canon (State.imgLost_canon h1)) (by simp [s2])
  clear_value s2
  refine Canon.of_outside ?_ (State.raise_outside _ (by simp) ..)
  exact h2.of_bytes rfl
@[simp] theorem State.orphanHooks_canon (h : Canon s) : Canon s.orphanHooks := by
  have h1 : Canon ((((s.pairsOrphan true).fogEnter 2).openBreakers).outlOrphan) := Canon.of_outside h (by simp)
  have h2 := Canon.of_outside (State.acqStopAll_canon h1) (State.closeConns_outside _ (by simp))
  exact Canon.of_outside (State.fwLost_canon (State.imgLost_canon h2)) (State.dropScheds_outside _ (by simp))
@[simp] theorem State.sideReset_canon (h : Canon s) (x : Side) (code : Nat) : Canon (s.sideReset x code) := by simp [State.sideReset, h]
@[simp] theorem State.failOver_canon (h : Canon s) (x : Side) (cause : Nat) : Canon (s.failOver x cause) := by
  unfold State.failOver
  extract_lets s1 _ s2 s3 s4 s5 s6
  have h1 : Canon s1 := Canon.of_outside h (by simp [s1])
  clear_value s1
  have h2 : Canon s2 := Canon.of_outside h1 (by simp [s2])
  clear_value s2
  have h5 : Canon s5 := Canon.of_outside h2 (by simp [s5, s4, s3])
  clear_value s5
  have h6 : Canon s6 := State.failoverHooks_canon (Canon.of_outside h5 (State.bump_outside _ (by simp) ..)) x
  clear_value s6
  simp [h6]
@[simp] theorem State.orphanEntry_canon (h : Canon s) (x : Side) (cause : Nat) : Canon (s.orphanEntry x cause) := by
  unfold State.orphanEntry
  extract_lets s1 _ s2 y s3 s4
  have h2 : Canon s2 := Canon.of_outside h (by simp [s2, s1])
  have h3 : Canon s3 := by
    unfold s3
    split <;> simp [h2]
  clear_value s3
  have h4 : Canon s4 := State.orphanHooks_canon (Canon.of_outside h3 (by simp))
  clear_value s4
  simp [h4]
@[simp] theorem State.loseActive_canon (h : Canon s) (x : Side) (cause : Nat) : Canon (s.loseActive x cause) := by
  unfold State.loseActive
  split
  · exact State.failOver_canon h x cause
  · exact State.orphanEntry_canon h x cause
@[simp] theorem State.sideFault_canon (h : Canon s) (x : Side) (cause : Nat) : Canon (s.sideFault x cause) := by
  unfold State.sideFault
  split <;> simp [h]
@[simp] theorem State.judgeBeacons_canon (h : Canon s) (a b : Option (List Byte)) : Canon (s.judgeBeacons a b) := by
  have h2 : Canon (if (s.beaconBad (if s.isActive .b then .b else .a) (match (if s.isActive .b then Side.b else .a) with | .a => a | .b => b)).isNone
      then s else s) := by simp [h]
  unfold State.judgeBeacons
  extract_lets x y bx by' s1 s2 s3
  have h2 : Canon s2 := Canon.of_outside h (by simp [s2, s1])
  clear_value s2
  have h3 : Canon s3 := by
    unfold s3
    split
    · exact State.sideFault_canon h2 ..
    · exact h2
  clear_value s3
  split
  · exact State.loseActive_canon h3 ..
  · split <;> simp [h3]
  · exact State.sideFault_canon h3 ..
  · exact h3
@[simp] theorem execBeaconDeadline_canon (h : Canon s) (dt : Nat) (a b : BeaconIn) : OutCanon (execBeaconDeadline dt a b s) := by
  unfold execBeaconDeadline
  extract_lets s1
  have h1 : Canon s1 := Canon.of_outside h (s.tick_outside (by simp) dt)
  clear_value s1
  split
  · rw [outCanon_next]
    refine State.judgeBeacons_canon ?_ ..
    exact h1.of_bytes rfl
  · simpa using h1
@[simp] theorem State.faultFlag_canon (h : Canon s) (x : Side) (bit : Nat) : Canon (s.faultFlag x bit) := by simp [State.faultFlag, h]
@[simp] theorem execFaultLineAsserted_canon (h : Canon s) (dt : Nat) (side : Side) (why : FaultWhy) :
    OutCanon (execFaultLineAsserted dt side why s) := by
  unfold execFaultLineAsserted
  split <;> simp [h]
@[simp] theorem execKeeperLaneFault_canon (h : Canon s) (dt : Nat) (back : Bool) (lane errors : Nat) :
    OutCanon (execKeeperLaneFault dt back lane errors s) := by simp [execKeeperLaneFault, h]
@[simp] theorem State.holdDiffering_canon (h : Canon s) (n : Nat) : Canon (s.holdDiffering n) := by simp [State.holdDiffering, h]
@[simp] theorem execActivationDone_canon (h : Canon s) (dt : Nat) : OutCanon (execActivationDone dt s) := by
  unfold execActivationDone
  extract_lets s1
  have h1 : Canon s1 := Canon.of_outside h (s.tick_outside (by simp) dt)
  split
  · simpa using h1
  · rename_i s2 _ a _
    have h2 : Canon s2 := h1.of_bytes rfl
    clear_value s2
    split <;> rename_i s3 e3 <;> have h3 := Canon.of_fst (Canon.of_outside h2 (s2.tryLoad_outside (by simp) a.target)) e3
    · simp [h3]
    · split
      · simp [h3]
      · split <;> rename_i s4 e4 <;> have h4 := Canon.of_fst (Canon.of_outside h3 (s3.tryLoad_outside (by simp) _)) e4 <;> simp [h4]
@[simp] theorem State.bootRecovery_canon (h : Canon s) : Canon s.bootRecovery := by
  unfold State.bootRecovery
  split
  · exact h
  · extract_lets s1 _ s2
    have h1 : Canon s1 := Canon.of_outside h (by simp [s1])
    clear_value s1
    have h2 : Canon s2 := State.orphanHooks_canon (h1.of_bytes rfl)
    clear_value s2
    split <;> simp [h1, h2]
@[simp] theorem State.bootBulk_canon (h : Canon s) (x : Side) : Canon (s.bootBulk x) := by
  unfold State.bootBulk
  extract_lets _ s1
  have h1 : Canon s1 := Canon.of_outside (State.copyMram_canon h x.other x) (State.setSide_outside _ (by simp) ..)
  clear_value s1
  refine Canon.of_outside ?_ (State.wr_outside _ (by simp) ..)
  exact h1.of_bytes rfl
@[simp] theorem State.bootEnds_canon (h : Canon s) (x : Side) (e : Option BootEnd) : Canon (s.bootEnds x e) := by
  unfold State.bootEnds
  split
  · exact h
  · rename_i r
    split
    · exact h
    · split
      · simp [h]
      · split
        · exact State.bootRecovery_canon h
        · have h1 : Canon (s.bootFirmware x ‹_›) := Canon.of_outside h (by simp)
          dsimp only
          split_ifs
          · exact h1
          · exact Canon.of_outside h1 (State.failSide_outside _ (by simp) ..)
          · exact State.bootBulk_canon h1 x
          · exact Canon.of_outside h1 (State.bootActive_outside _ (by simp) ..)
@[simp] theorem execSideBootDone_canon (h : Canon s) (dt : Nat) (a b : Option BootEnd) : OutCanon (execSideBootDone dt a b s) :=
  (outCanon_next _).mpr (State.bootEnds_canon (State.bootEnds_canon (Canon.of_outside h (s.tick_outside (by simp) dt)) .a a) .b b)
@[simp] theorem execBulkConverged_canon (h : Canon s) (dt : Nat) (side : Side) : OutCanon (execBulkConverged dt side s) := by
  simp [execBulkConverged, h]
@[simp] theorem execBulkTimeout_canon (h : Canon s) (dt : Nat) (side : Side) : OutCanon (execBulkTimeout dt side s) := by
  simp [execBulkTimeout, h]
@[simp] theorem execShadowComplete_canon (h : Canon s) (dt : Nat) (side : Side) : OutCanon (execShadowComplete dt side s) := by
  simp [execShadowComplete, h]
@[simp] theorem State.readmit_canon (h : Canon s) (x : Side) (auto : Bool) : Canon (s.readmit x auto) := by simp [State.readmit, h]
@[simp] theorem execSideReadmit_canon (h : Canon s) (dt : Nat) (side : Side) : OutCanon (execSideReadmit dt side s) := by
  simp [execSideReadmit, h]
@[simp] theorem execSideResetRelease_canon (h : Canon s) (dt : Nat) (side : Side) : OutCanon (execSideResetRelease dt side s) := by
  simp [execSideResetRelease, h]
@[simp] theorem State.takeOut_canon (h : Canon s) (acc : Access) : Canon (s.takeOut acc) := by simp [State.takeOut, h]
@[simp] theorem State.resync_canon (h : Canon s) (x : Side) : Canon (s.resync x) := by simp [State.resync, h]
@[simp] theorem State.keepCtrlWrite_canon (h : Canon s) (acc : Access) (val : Word) : Canon (s.keepCtrlWrite acc val) := by
  refine State.command_canon h _ _ _ fun t ht => ?_
  extract_lets ok s2 s3 s4
  have h2 : Canon s2 := by
    unfold s2
    split
    · exact State.resync_canon ht _
    · exact ht
  have h3 : Canon s3 := by
    unfold s3
    split
    · exact State.resync_canon h2 _
    · exact h2
  have h4 : Canon s4 := by
    unfold s4
    split
    · exact State.takeOut_canon h3 _
    · exact h3
  clear_value s4
  split <;> simp [h4]
@[simp] theorem execKeepSwitch_canon (h : Canon s) (dt : Nat) (acc : Access) (val : Word) : OutCanon (execKeepSwitch dt acc val s) := by
  simp [execKeepSwitch, h]
@[simp] theorem execKeepTakeOut_canon (h : Canon s) (dt : Nat) (acc : Access) (val : Word) : OutCanon (execKeepTakeOut dt acc val s) := by
  simp [execKeepTakeOut, h]
@[simp] theorem execKeepResyncA_canon (h : Canon s) (dt : Nat) (acc : Access) (val : Word) : OutCanon (execKeepResyncA dt acc val s) := by
  simp [execKeepResyncA, h]
@[simp] theorem execKeepResyncB_canon (h : Canon s) (dt : Nat) (acc : Access) (val : Word) : OutCanon (execKeepResyncB dt acc val s) := by
  simp [execKeepResyncB, h]
@[simp] theorem execSwitchover_canon (h : Canon s) (dt : Nat) : OutCanon (execSwitchover dt s) := by
  simp only [execSwitchover]
  split <;> simp [h]
@[simp] theorem execKeepClr_canon (h : Canon s) (dt : Nat) (acc : Access) (val : Word) : OutCanon (execKeepClr dt acc val s) := by
  simp [execKeepClr, h]
@[simp] theorem State.memUncorr_canon (h : Canon s) (x : Side) (k : Nat) (addr : Word) : Canon (s.memUncorr x k addr) := by
  simp [State.memUncorr, h]
@[simp] theorem State.guardLost_canon (h : Canon s) (record : Nat) : Canon (s.guardLost record) := by
  unfold State.guardLost
  extract_lets _ _ s1
  have h1 : Canon s1 := by
    unfold s1
    split
    · exact h.of_bytes rfl
    · split <;> exact h.of_bytes rfl
  clear_value s1
  exact State.safeHold_canon (Canon.of_outside h1 (State.post_outside _ (by simp) ..))
@[simp] theorem execPatrolScrub_canon (h : Canon s) (dt : Nat) (side : Side) (corrected : Nat) :
    OutCanon (execPatrolScrub dt side corrected s) := by simp [execPatrolScrub, h]
@[simp] theorem execMemEccError_canon (h : Canon s) (dt : Nat) (place : MemPlace) (corrected : Bool) :
    OutCanon (execMemEccError dt place corrected s) := by
  unfold execMemEccError
  split <;> simp [h]
@[simp] theorem execMemWipeCmd_canon (h : Canon s) (dt : Nat) (acc : Access) (val : Word) : OutCanon (execMemWipeCmd dt acc val s) := by
  simp [execMemWipeCmd, h]
@[simp] theorem execWipeCfgWrite_canon (h : Canon s) (dt : Nat) (acc : Access) (val : Word) : OutCanon (execWipeCfgWrite dt acc val s) := by
  simp [execWipeCfgWrite, h]
@[simp] theorem execLcArm_canon (h : Canon s) (dt : Nat) (acc : Access) (val : Word) : OutCanon (execLcArm dt acc val s) := by
  simp [execLcArm, h]
@[simp] theorem execLcCommit_canon (h : Canon s) (dt : Nat) (acc : Access) (val : Word) : OutCanon (execLcCommit dt acc val s) := by
  simp [execLcCommit, h]
@[simp] theorem State.eraseMram_canon (h : Canon s) : Canon s.eraseMram := canon_filter (p := fun e => !keptByte e.1) h rfl
@[simp] theorem State.lcEffects_canon (h : Canon s) (target : Nat) : Canon (s.lcEffects target) := by
  unfold State.lcEffects
  extract_lets from' s1 s2 _ s3 s4
  have h1 : Canon s1 := Canon.of_outside h (by simp [s1])
  have h2 : Canon s2 := by
    unfold s2
    split
    · exact State.eraseMram_canon h1
    · exact h1
  clear_value s2
  have h3 : Canon s3 := by
    unfold s3
    split
    · exact h2.of_bytes rfl
    · exact h2
  clear_value s3
  have h4 : Canon s4 := Canon.of_outside h3 (by simp [s4])
  clear_value s4
  simp [h4]
@[simp] theorem execLcTransitionDone_canon (h : Canon s) (dt : Nat) : OutCanon (execLcTransitionDone dt s) := by
  unfold execLcTransitionDone
  extract_lets s1
  have h1 : Canon s1 := Canon.of_outside h (s.tick_outside (by simp) dt)
  clear_value s1
  split
  · exact (outCanon_next _).mpr (State.moduleReset_canon (State.lcEffects_canon h1 _) _)
  · simpa using h1
@[simp] theorem execProvisioning_canon (h : Canon s) (dt : Nat) (acc : Access) : OutCanon (execProvisioning dt acc s) := by
  simp [execProvisioning, h]
@[simp] theorem execMemClr_canon (h : Canon s) (dt : Nat) (acc : Access) (val : Word) : OutCanon (execMemClr dt acc val s) := by
  simp [execMemClr, h]
@[simp] theorem State.fwOpen_canon (h : Canon s) (acc : Access) (addr : Nat) : Canon (s.fwOpen acc addr) := by
  unfold State.fwOpen
  split
  · simp [h]
  · have h1 := State.emptyBank_canon h s.otherBank 1
    exact h1.of_bytes rfl
@[simp] theorem State.fwActivate_canon (h : Canon s) : Canon s.fwActivate := by simp [State.fwActivate, h]
@[simp] theorem State.fwCtrlWrite_canon (h : Canon s) (acc : Access) (val : Word) : Canon (s.fwCtrlWrite acc val) :=
  State.command_canon h _ _ _ fun t ht => by simp [ht]
@[simp] theorem State.fwPut_canon (h : Canon s) (n ofs : Nat) (val : Word) : Canon (s.fwPut n ofs val) :=
  (Canon.foldl (fun _ _ ht => State.setWordAt_canon ht _ _) s.fwSides h).of_bytes rfl
@[simp] theorem State.fwDataWrite_canon (h : Canon s) (acc : Access) (addr : Nat) (val : Word) : Canon (s.fwDataWrite acc addr val) := by
  refine State.command_canon h _ _ _ fun t ht => ?_
  dsimp only
  split
  · simp [ht]
  · split
    · exact ht
    · exact State.fwPut_canon ht ..
@[simp] theorem execFwOpen_canon (h : Canon s) (dt : Nat) (acc : Access) : OutCanon (execFwOpen dt acc s) := by simp [execFwOpen, h]
@[simp] theorem execFwDataWrite_canon (h : Canon s) (dt : Nat) (acc : Access) (addr : Nat) (val : Word) :
    OutCanon (execFwDataWrite dt acc addr val s) := by simp [execFwDataWrite, h]
@[simp] theorem execFwClose_canon (h : Canon s) (dt : Nat) (acc : Access) : OutCanon (execFwClose dt acc s) := by simp [execFwClose, h]
@[simp] theorem execFwCancel_canon (h : Canon s) (dt : Nat) (acc : Access) : OutCanon (execFwCancel dt acc s) := by simp [execFwCancel, h]
@[simp] theorem execFwActivate_canon (h : Canon s) (dt : Nat) (acc : Access) : OutCanon (execFwActivate dt acc s) := by
  simp [execFwActivate, h]
@[simp] theorem execFwConfirm_canon (h : Canon s) (dt : Nat) (acc : Access) : OutCanon (execFwConfirm dt acc s) := by
  simp [execFwConfirm, h]
@[simp] theorem execFwWindowExpiry_canon (h : Canon s) (dt : Nat) : OutCanon (execFwWindowExpiry dt s) := by simp [execFwWindowExpiry, h]
@[simp] theorem execFwRevert_canon (h : Canon s) (dt : Nat) : OutCanon (execFwRevert dt s) := by simp [execFwRevert, h]
@[simp] theorem execAuxInputApplied_canon (h : Canon s) (dt : Nat) (dc : Bool) : OutCanon (execAuxInputApplied dt dc s) := by
  simp [execAuxInputApplied, h]
@[simp] theorem execAlwaysOnPowerUp_canon (h : Canon s) (dt : Nat) : OutCanon (execAlwaysOnPowerUp dt s) := by
  simp [execAlwaysOnPowerUp, h]
@[simp] theorem execAlwaysOnPowerLoss_canon (h : Canon s) (dt : Nat) : OutCanon (execAlwaysOnPowerLoss dt s) := by
  simp [execAlwaysOnPowerLoss, h]
@[simp] theorem execHoldupChargeCheck_canon (h : Canon s) (dt tch : Nat) : OutCanon (execHoldupChargeCheck dt tch s) := by
  simp [execHoldupChargeCheck, h]
@[simp] theorem execPowerStart_canon (h : Canon s) (dt : Nat) : OutCanon (execPowerStart dt s) := by simp [execPowerStart, h]
@[simp] theorem execInputLoss_canon (h : Canon s) (dt : Nat) : OutCanon (execInputLoss dt s) := by simp [execInputLoss, h]
@[simp] theorem execInputReturn_canon (h : Canon s) (dt : Nat) : OutCanon (execInputReturn dt s) := by simp [execInputReturn, h]
@[simp] theorem execHoldupPowerFail_canon (h : Canon s) (dt : Nat) : OutCanon (execHoldupPowerFail dt s) := by
  simp [execHoldupPowerFail, h]
@[simp] theorem execGuardStep_canon (h : Canon s) (dt hmode : Nat) : OutCanon (execGuardStep dt hmode s) := by simp [execGuardStep, h]
@[simp] theorem execStartLate_canon (h : Canon s) (dt : Nat) : OutCanon (execStartLate dt s) := by simp [execStartLate, h]
@[simp] theorem execMrstAssert_canon (h : Canon s) (dt held : Nat) : OutCanon (execMrstAssert dt held s) := by simp [execMrstAssert, h]
@[simp] theorem execMrstRelease_canon (h : Canon s) (dt : Nat) : OutCanon (execMrstRelease dt s) := by simp [execMrstRelease, h]
@[simp] theorem State.pwrResetWrite_canon (h : Canon s) (acc : Access) (val : Word) : Canon (s.pwrResetWrite acc val) :=
  State.command_canon h _ _ _ fun t ht => by simp [ht]
@[simp] theorem execPwrReset_canon (h : Canon s) (dt : Nat) (acc : Access) (val : Word) : OutCanon (execPwrReset dt acc val s) := by
  simp [execPwrReset, h]
@[simp] theorem execGuardFault_canon (h : Canon s) (dt : Nat) : OutCanon (execGuardFault dt s) := by simp [execGuardFault, h]
@[simp] theorem execGuardAutoReset_canon (h : Canon s) (dt : Nat) : OutCanon (execGuardAutoReset dt s) := by
  unfold execGuardAutoReset
  extract_lets s1 free _
  have h1 : Canon s1 := Canon.of_outside h (s.tick_outside (by simp) dt)
  split
  · rw [outCanon_next]
    refine State.moduleReset_canon ?_ _
    exact h1.of_bytes rfl
  · simpa using h1
@[simp] theorem execPowerStateAscent_canon (h : Canon s) (dt : Nat) : OutCanon (execPowerStateAscent dt s) := by
  simp [execPowerStateAscent, h]
@[simp] theorem execPowerStateDescent_canon (h : Canon s) (dt : Nat) : OutCanon (execPowerStateDescent dt s) := by
  simp [execPowerStateDescent, h]
@[simp] theorem execLtrExpiry_canon (h : Canon s) (dt k : Nat) : OutCanon (execLtrExpiry dt k s) := by simp [execLtrExpiry, h]
@[simp] theorem execWakeThresholdCrossing_canon (h : Canon s) (dt k : Nat) (rising : Bool) (held : Nat) :
    OutCanon (execWakeThresholdCrossing dt k rising held s) := by simp [execWakeThresholdCrossing, h]
@[simp] theorem execPwrAlarmReached_canon (h : Canon s) (dt : Nat) : OutCanon (execPwrAlarmReached dt s) := by
  simp [execPwrAlarmReached, h]
@[simp] theorem execMetrSleepExit_canon (h : Canon s) (dt : Nat) (codes : List Int) : OutCanon (execMetrSleepExit dt codes s) := by
  unfold execMetrSleepExit
  extract_lets s1 _
  have h1 : Canon s1 := Canon.of_outside h (s.tick_outside (by simp) dt)
  split
  · rw [outCanon_next]
    refine State.wakeSource_canon (Canon.of_outside ?_ (State.sampleInstant_outside _ (by simp) _)) _ _
    exact h1.of_bytes rfl
  · simpa using h1
@[simp] theorem execTampChange_canon (h : Canon s) (dt k : Nat) (active : Bool) : OutCanon (execTampChange dt k active s) := by
  unfold execTampChange
  extract_lets s1 _ s2 s3
  have h1 : Canon s1 := Canon.of_outside h (s.tick_outside (by simp) dt)
  have h2 : Canon s2 := by
    unfold s2
    split
    · exact h1.of_bytes rfl
    · exact h1
  clear_value s2
  have h3 : Canon s3 := by
    unfold s3
    split <;> simp [h2]
  split
  · simpa using h1
  · exact (outCanon_next _).mpr (State.wakeSource_canon h3 _ _)
@[simp] theorem State.sideTemp_canon (h : Canon s) (x : Side) (t : Int) : Canon (s.sideTemp x t) := by simp [State.sideTemp, h]
@[simp] theorem execDeferStart_canon (h : Canon s) (dt die : Nat) (t : Int) : OutCanon (execDeferStart dt die t s) := by
  simp [execDeferStart, h]
@[simp] theorem State.undeferred_canon (h : Canon s) : Canon s.undeferred := by
  unfold State.undeferred
  extract_lets _ s1
  have h1 : Canon s1 := by
    unfold s1
    split
    · refine State.requestActivation_canon (Canon.of_outside ?_ (State.showRest_outside _ (by simp)))
      exact h.of_bytes rfl
    · exact h
  clear_value s1
  split <;> simp [h1]
@[simp] theorem execDeferEnd_canon (h : Canon s) (dt : Nat) (side : Side) : OutCanon (execDeferEnd dt side s) := by simp [execDeferEnd, h]
@[simp] theorem execPwrClr_canon (h : Canon s) (dt : Nat) (acc : Access) (val : Word) : OutCanon (execPwrClr dt acc val s) := by
  simp [execPwrClr, h]
@[simp] theorem State.pwrBoundary_canon (h : Canon s) (i : PowerIn) : Canon (s.pwrBoundary i) := by
  have h1 := State.sideTemp_canon (State.sideTemp_canon (Canon.of_outside h (State.showSupply_outside _ (by simp) i)) .a i.tA) .b i.tB
  unfold State.pwrBoundary
  simp [h1]
theorem writeTable_canon : ∀ e ∈ writeTable, ∀ s acc n v, Canon s → Canon (e.2.2.2 s acc n v) := by
  simp +contextual [writeTable]
theorem writeTableField_canon : ∀ e ∈ writeTableField, ∀ s acc n v, Canon s → Canon (e.2.2.2 s acc n v) := by
  simp +contextual [writeTableField]
theorem writeTableRest_canon : ∀ e ∈ writeTableRest, ∀ s acc n v, Canon s → Canon (e.2.2.2 s acc n v) := by
  simp +contextual [writeTableRest]
theorem ownWrite_canon (h : Canon s) {addr n : Nat} {f : State → Access → Nat → Word → State} (e : ownWrite addr = some (n, f)) (acc :
    Access)     (v : Word) : Canon (f s acc n v) := by
  obtain ⟨row, hrow, hm⟩ := List.exists_of_findSome?_eq_some e
  obtain ⟨k, -, hk⟩ := Option.map_eq_some_iff.mp hm
  obtain ⟨rfl, rfl⟩ := Prod.mk.inj hk
  simp only [List.mem_append] at hrow
  obtain (hrow | hrow) | hrow := hrow
  · exact writeTable_canon row hrow s acc k v h
  · exact writeTableField_canon row hrow s acc k v h
  · exact writeTableRest_canon row hrow s acc k v h
@[simp] theorem State.writePresent_canon (h : Canon s) (acc : Access) (addr : Nat) (val : Word) : Canon (s.writePresent acc addr val) := by
  unfold State.writePresent
  split
  · exact State.imgDataWrite_canon h ..
  · exact State.fwDataWrite_canon h ..
  · simp [h]
  · split
    · exact ownWrite_canon h ‹_› acc val
    · split
      · simp [h]
      · split <;> simp [h]
@[simp] theorem State.write_canon (h : Canon s) (acc : Access) (addr : Nat) (val : Word) : Canon (s.write acc addr val) := by
  simp [State.write, h]
@[simp] theorem State.access_canon (h : Canon s) (acc : Access) (addr : Nat) (wr : Option Word) (status : Nat) :
    Canon (s.access acc addr wr status) := by
  unfold State.access
  split <;> simp [h]
@[simp] theorem execRegisterWrite_canon (h : Canon s) (dt : Nat) (acc : Access) (addr : Nat) (val : Word) :
    OutCanon (execRegisterWrite dt acc addr val s) := by simp [execRegisterWrite, h]
@[simp] theorem execTunableWrite_canon (h : Canon s) (dt : Nat) (acc : Access) (addr : Nat) (val : Word) :
    OutCanon (execTunableWrite dt acc addr val s) := by simp [execTunableWrite, h]
@[simp] theorem execStagingWrite_canon (h : Canon s) (dt : Nat) (acc : Access) (addr : Nat) (val : Word) :
    OutCanon (execStagingWrite dt acc addr val s) := by simp [execStagingWrite, h]
@[simp] theorem execAbsentAccess_canon (h : Canon s) (dt : Nat) (acc : Access) (addr : Nat) (wr : Option Word) :
    OutCanon (execAbsentAccess dt acc addr wr s) := by simp [execAbsentAccess, h]
@[simp] theorem execReservedAccess_canon (h : Canon s) (dt : Nat) (acc : Access) (addr : Nat) (wr : Option Word) :
    OutCanon (execReservedAccess dt acc addr wr s) := by simp [execReservedAccess, h]
@[simp] theorem execOutOfMapAccess_canon (h : Canon s) (dt : Nat) (acc : Access) (addr : Nat) (wr : Option Word) :
    OutCanon (execOutOfMapAccess dt acc addr wr s) := by simp [execOutOfMapAccess, h]
@[simp] theorem execHostBadAccess_canon (h : Canon s) (dt addr byteEnables : Nat) (wr : Option Word) :
    OutCanon (execHostBadAccess dt addr byteEnables wr s) := by simp [execHostBadAccess, h]
@[simp] theorem execLowWordRead_canon (h : Canon s) (dt : Nat) (acc : Access) (addr : Nat) : OutCanon (execLowWordRead dt acc addr s) := by
  simp [execLowWordRead, h]
@[simp] theorem execTimeStepApply_canon (h : Canon s) (dt : Nat) : OutCanon (execTimeStepApply dt s) := by simp [execTimeStepApply, h]
@[simp] theorem spiStore_canon (h : Canon s) (ws : List Word) (addr : Nat) : Canon (spiStore ws addr s) := by
  induction ws generalizing addr s with
  | nil => exact h
  | cons w r ih => simp only [spiStore]; split <;> simp [h, ih]
@[simp] theorem State.spiWrite_canon (h : Canon s) (addr : Nat) (ws : List Word) (crc : Nat) : Canon (s.spiWrite addr ws crc) := by
  simp [State.spiWrite, h]
@[simp] theorem execQspiRead_canon (h : Canon s) (dt addr count : Nat) : OutCanon (execQspiRead dt addr count s) := by
  simp [execQspiRead, h]
@[simp] theorem execQspiQuadRead_canon (h : Canon s) (dt addr count : Nat) : OutCanon (execQspiQuadRead dt addr count s) := by
  simp [execQspiQuadRead, h]
@[simp] theorem execQspiWrite_canon (h : Canon s) (dt addr : Nat) (words : List Word) (crc : Nat) :
    OutCanon (execQspiWrite dt addr words crc s) := by simp [execQspiWrite, h]
@[simp] theorem execQspiQuadWrite_canon (h : Canon s) (dt addr : Nat) (words : List Word) (crc : Nat) :
    OutCanon (execQspiQuadWrite dt addr words crc s) := by simp [execQspiQuadWrite, h]
@[simp] theorem execQspiStatus_canon (h : Canon s) (dt : Nat) : OutCanon (execQspiStatus dt s) := by simp [execQspiStatus, h]
@[simp] theorem execPcieLinkUp_canon (h : Canon s) (dt vectors : Nat) : OutCanon (execPcieLinkUp dt vectors s) := by
  simp [execPcieLinkUp, h]
@[simp] theorem execPcieLinkDown_canon (h : Canon s) (dt : Nat) : OutCanon (execPcieLinkDown dt s) := by simp [execPcieLinkDown, h]
@[simp] theorem execPcieFundamentalReset_canon (h : Canon s) (dt : Nat) : OutCanon (execPcieFundamentalReset dt s) := by
  simp [execPcieFundamentalReset, h]
@[simp] theorem execSpiSessionTimeout_canon (h : Canon s) (dt : Nat) : OutCanon (execSpiSessionTimeout dt s) := by
  simp [execSpiSessionTimeout, h]
@[simp] theorem execIrqHoldoffExpiry_canon (h : Canon s) (dt : Nat) : OutCanon (execIrqHoldoffExpiry dt s) := by
  simp [execIrqHoldoffExpiry, h]
@[simp] theorem execMgmtHandshake_canon (h : Canon s) (dt conn port : Nat) (ip : Word) (cert : ClientCert) :
    OutCanon (execMgmtHandshake dt conn port ip cert s) := by
  simp only [execMgmtHandshake]
  (repeat' split) <;> simp [h]
@[simp] theorem execMgmtBlockExpiry_canon (h : Canon s) (dt : Nat) (ip : Word) : OutCanon (execMgmtBlockExpiry dt ip s) := by
  simp [execMgmtBlockExpiry, h]
@[simp] theorem execMgmtIdleTimeout_canon (h : Canon s) (dt conn : Nat) : OutCanon (execMgmtIdleTimeout dt conn s) := by
  simp only [execMgmtIdleTimeout]
  split <;> simp [h]
@[simp] theorem execMgmtConnectionClose_canon (h : Canon s) (dt conn : Nat) : OutCanon (execMgmtConnectionClose dt conn s) := by
  simp [execMgmtConnectionClose, h]
@[simp] theorem execMgmtRead_canon (h : Canon s) (dt conn tag addr count : Nat) : OutCanon (execMgmtRead dt conn tag addr count s) := by
  simp [execMgmtRead, h]
@[simp] theorem writeWords_canon (h : Canon s) (ws : List Word) (addr : Nat) (acc : Access) (st : List Byte) :
    Canon (writeWords ws addr acc s st).1 := by
  induction ws generalizing addr s st with
  | nil => exact h
  | cons w r ih => exact ih (State.write_canon h ..) _ _
@[simp] theorem execMgmtWrite_canon (h : Canon s) (dt conn tag addr : Nat) (words : List Word) :
    OutCanon (execMgmtWrite dt conn tag addr words s) := by
  rw [execMgmtWrite, outCanon_next]
  refine State.withConn_canon (Canon.of_outside h (s.tick_outside (by simp) dt)) _ fun acc t ht => ?_
  split_ifs
  · simp [ht]
  · simp [ht]
  · simp [ht]
  · have h1 := writeWords_canon ht words addr acc []
    simp [h1]
@[simp] theorem execPing_canon (h : Canon s) (dt conn tag : Nat) : OutCanon (execPing dt conn tag s) := by simp [execPing, h]
@[simp] theorem execMgmtFormatFrame_canon (h : Canon s) (dt conn op tag : Nat) : OutCanon (execMgmtFormatFrame dt conn op tag s) := by
  simp [execMgmtFormatFrame, h]
@[simp] theorem execSubscribe_canon (h : Canon s) (dt conn tag mask : Nat) : OutCanon (execSubscribe dt conn tag mask s) := by
  rw [execSubscribe, outCanon_next]
  refine State.withConn_canon (Canon.of_outside h (s.tick_outside (by simp) dt)) _ fun acc t ht => ?_
  split <;> simp [ht]
@[simp] theorem execEventDelivery_canon (h : Canon s) (dt conn : Nat) : OutCanon (execEventDelivery dt conn s) := by
  simp only [execEventDelivery]
  split <;> simp [h]
@[simp] theorem State.clientSet_canon (h : Canon s) (addr : Nat) (f : Field) (v : Nat) : Canon (s.clientSet addr f v) := by
  simp [State.clientSet, h]
@[simp] theorem execCsmsMessage_canon (h : Canon s) (dt : Nat) (msg : CsmsMsg) : OutCanon (execCsmsMessage dt msg s) := by
  unfold execCsmsMessage
  split <;> simp [h]
@[simp] theorem execCsmsConnectFail_canon (h : Canon s) (dt : Nat) : OutCanon (execCsmsConnectFail dt s) := by
  simp [execCsmsConnectFail, h]
@[simp] theorem execCsmsConnected_canon (h : Canon s) (dt : Nat) : OutCanon (execCsmsConnected dt s) := by simp [execCsmsConnected, h]
@[simp] theorem execObjGet_canon (h : Canon s) (dt : Nat) (conn : Option Nat) (tag oid ofs maxLen : Nat) :
    OutCanon (execObjGet dt conn tag oid ofs maxLen s) := by
  rw [execObjGet, outCanon_next]
  refine State.withSender_canon (Canon.of_outside h (s.tick_outside (by simp) dt)) _ fun acc t ht => ?_
  dsimp only
  (repeat' split) <;> simp [ht]
@[simp] theorem billingWrites_canon (h : Canon s) (es : List (Nat × Word)) (acc : Access) (st : Nat) : Canon (billingWrites es acc s st).1 := by
  induction es generalizing s st with
  | nil => exact h
  | cons e r ih => exact ih (State.write_canon h ..) _
@[simp] theorem State.applyObject_canon (h : Canon s) (acc : Access) (oid : Nat) (bs : List Byte) : Canon (s.applyObject acc oid bs).1 := by
  simp only [State.applyObject]
  (repeat' split) <;> simp [h]
@[simp] theorem State.fwPutBytes_canon (h : Canon s) (n ofs : Nat) (bs : List Byte) : Canon (s.fwPutBytes n ofs bs) :=
  (Canon.foldl (fun _ _ ht => Canon.foldl (fun _ _ hu => State.setByte_canon hu _ _) _ ht) s.fwSides h).of_bytes rfl
@[simp] theorem State.fwChunk_canon (h : Canon s) (acc : Access) (oid ofs : Nat) (last : Bool) (bs : List Byte) :
    Canon (s.fwChunk acc oid ofs last bs).1 := by
  unfold State.fwChunk
  extract_lets s1
  have h1 : Canon s1 := by
    unfold s1
    split
    · exact h
    · exact State.fwOpen_canon h ..
  clear_value s1
  split
  · exact h1
  · have h2 := State.fwPutBytes_canon h1 ‹_› ofs bs
    dsimp only
    split
    · exact Canon.of_outside (h2.of_bytes rfl) (State.fwClose_outside _ (by simp))
    · exact h2.of_bytes rfl
@[simp] theorem State.objChunk_canon (h : Canon s) (acc : Access) (oid ofs : Nat) (last : Bool) (bs : List Byte) :
    Canon (s.objChunk acc oid ofs last bs).1 := by
  unfold State.objChunk
  extract_lets me part foreign
  split
  · exact h
  · split
    · exact State.fwChunk_canon h ..
    · split
      · refine State.applyObject_canon ?_ ..
        exact h.of_bytes rfl
      · exact h.of_bytes rfl
@[simp] theorem execObjSet_canon (h : Canon s) (dt : Nat) (conn : Option Nat) (tag oid ofs : Nat) (last : Bool) (data : List Byte) :
    OutCanon (execObjSet dt conn tag oid ofs last data s) := by
  rw [execObjSet, outCanon_next]
  refine State.withSender_canon (Canon.of_outside h (s.tick_outside (by simp) dt)) _ fun acc t ht => ?_
  dsimp only
  split_ifs
  · exact ht
  · simp [ht]
  · simp [ht]
  · have h1 := State.objChunk_canon ht acc oid ofs last data
    simp [h1]
@[simp] theorem State.cycleWork_canon (h : Canon s) (inp : BoundaryIn) (shift : Int) : Canon (s.cycleWork inp shift) := by
  unfold State.cycleWork
  extract_lets s1 s2 s3 s4
  have h1 : Canon s1 := Canon.of_outside h (by simp [s1])
  clear_value s1
  have h2 : Canon s2 := Canon.of_outside h1 (by simp [s2])
  clear_value s2
  have h3 : Canon s3 := Canon.of_outside h2 (by simp [s3])
  clear_value s3
  have h4 : Canon s4 := Canon.of_outside (State.acqBoundary_canon (Canon.of_outside h3 (State.outlBoundary_outside _ (by simp) _)))
    (State.canBoundary_outside _ (by simp))
  clear_value s4
  have h5 := State.pwrBoundary_canon (Canon.of_outside h4 (State.lswBoundary_outside _ (by simp) inp.lsw)) inp.power
  simp [h5]
@[simp] theorem State.boundaryRest_canon (h : Canon s) : Canon s.boundaryRest := by
  unfold State.boundaryRest
  split
  · exact h
  · rename_i o _
    have h0 : Canon (if o.flipped then s else s.txnBoundary) := by
      split
      · exact h
      · exact State.txnBoundary_canon h
    generalize (if o.flipped = true then s else s.txnBoundary) = s0 at h0 ⊢
    have h2 := State.cycleWork_canon (s := { s0 with owed := none }) (h0.of_bytes rfl) o.inp o.shift
    dsimp only
    generalize State.cycleWork { s0 with owed := none } o.inp o.shift = s2 at h2 ⊢
    split <;> simp [h2]
@[simp] theorem State.boundaryOn_canon (h : Canon s) : Canon s.boundaryOn := by
  unfold State.boundaryOn
  split
  · exact h
  · rename_i o _
    extract_lets _ s1
    have h1 : Canon s1 := by
      unfold s1
      split
      · exact h
      · have h2 := State.txnBoundary_canon h
        exact h2.of_bytes (by dsimp only)
    clear_value s1
    split
    · exact h
    · split
      · exact h1
      · exact State.boundaryRest_canon h1
@[simp] theorem State.boundary_canon (h : Canon s) (inp : BoundaryIn) : Canon (s.boundary inp) := by
  unfold State.boundary
  extract_lets s0 es s1
  have h1 : Canon s1 := Canon.of_outside (State.memTurns_canon (State.boundaryRest_canon h) inp.mem) (by simp [s1, s0])
  exact State.boundaryOn_canon (h1.of_bytes rfl)
@[simp] theorem execBaseCycleBoundary_canon (h : Canon s) (dt : Nat) (inp : BoundaryIn) : OutCanon (execBaseCycleBoundary dt inp s) := by
  simp [execBaseCycleBoundary, h]
@[simp] theorem execSafetyCycle_canon (h : Canon s) (dt : Nat) (a b : ChanIn) : OutCanon (execSafetyCycle dt a b s) := by
  unfold execSafetyCycle
  extract_lets s1 ms _
  have h1 : Canon s1 := Canon.of_outside h (s.tick_outside (by simp) dt)
  split
  · rw [outCanon_next]
    refine State.boundaryOn_canon (Canon.of_outside (Canon.of_outside ?_ (State.safetyCycle_outside _ (by simp) a b)) (State.showRest_outside _ (by simp)))
    exact h1.of_bytes rfl
  · simpa using h1
@[simp] theorem execAllocationTick_canon (h : Canon s) (dt dur : Nat) : OutCanon (execAllocationTick dt dur s) := by
  have h1 : Canon (s.tick dt) := Canon.of_outside h (s.tick_outside (by simp) dt)
  unfold execAllocationTick
  dsimp only
  split
  · exact (outCanon_next _).mpr (State.boundaryOn_canon (Canon.of_outside h1 (State.allocTick_outside _ (by simp) dur)))
  · simpa using h1
@[simp] theorem State.checked_canon (h : Canon s) (x : Side) (n : Nat) (bad : Bool) (f : State → Tile → Tile) :
    Canon (s.checked x n bad f) := by simp [State.checked, h]
@[simp] theorem State.macStep_canon (h : Canon s) (x : Side) (n a k : Nat) (src : Opnd) (sign : Int) (clear bad : Bool) :
    Canon (s.macStep x n a k src sign clear bad) := by simp [State.macStep, h]
@[simp] theorem execTileMac_canon (h : Canon s) (dt : Nat) (x : Side) (n a k : Nat) (src : Opnd) (bad : Bool) :
    OutCanon (execTileMac dt x n a k src bad s) := by simp [execTileMac, h]
@[simp] theorem execTileMsu_canon (h : Canon s) (dt : Nat) (x : Side) (n a k : Nat) (src : Opnd) (bad : Bool) :
    OutCanon (execTileMsu dt x n a k src bad s) := by simp [execTileMsu, h]
@[simp] theorem execTileMacz_canon (h : Canon s) (dt : Nat) (x : Side) (n a k : Nat) (src : Opnd) (bad : Bool) :
    OutCanon (execTileMacz dt x n a k src bad s) := by simp [execTileMacz, h]
@[simp] theorem execTileBiq_canon (h : Canon s) (dt : Nat) (x : Side) (n k : Nat) (inp : BiqIn) (d dst : Nat) :
    OutCanon (execTileBiq dt x n k inp d dst s) := by simp [execTileBiq, h]

/-- Every command keeps the canonical form: each instruction's meaning has its rule above. -/
theorem exec_canon (i : Instr) (h : Canon s) : OutCanon (exec i s) := by
  unfold exec
  split <;> simp [h]

end

/-- Settles O8: every operation that touches the store of bytes keeps its canonical form, and the others leave it alone. -/
theorem stepsKeepBytesCanonical : Obligations.StepsKeepBytesCanonical := by
  intro s t hs ht
  rw [← canon_iff] at hs ⊢
  unfold step at ht
  split at ht
  · cases ht
    exact Canon.of_outside hs (s.tick_outside (by simp) _)
  · rename_i c rest _
    exact exec_canon c (s := { s with pending := rest }) (hs.of_bytes rfl) t ht

end

end Sys2Proof.Machine

namespace Sys2Proof.Machine

open Sys2Proof

section

set_option Elab.async false

/-! ### Register accesses: staged writes, reserved offsets, and addresses out of the map -/

/-- A module at work with an OPEN context of an OPERATOR session, whose store lists ALOC_EXPORT with the reset value that the register
reads without being listed. -/
def stagingListed : State :=
  { State.reset.setContext 2 { Ctx.reset with state := .opened, path := .mgmt, session := 1, role := .operator } with
    sup := { PowerPart.reset with phase := 4 }
    regs := [(Reg.ALOC_EXPORT, regReset Reg.ALOC_EXPORT)] }

/-- Refutes O9, by its third clause: a staged write gives the register its own value back (the fields that act on a write, of which
ALOC_EXPORT has none, are taken out of the word), and where the store lists the register with its reset value the entry goes. The next
state then reads alike everywhere, but it is not the state before with another context and answer alone. -/
theorem not_accessRowsReachRegisters : ¬ Obligations.AccessRowsReachRegisters := by
  intro h
  obtain ⟨-, -, hstage, -⟩ := h
  obtain ⟨t, ht, -, -, he, -⟩ := hstage stagingListed 5 Reg.ALOC_EXPORT 2 ⟨.mgmt, .operator, 1⟩ 33
    ((findReg Reg.ALOC_EXPORT).get (by decide +kernel)) _ rfl (by decide +kernel) (by decide +kernel) (by decide +kernel)
    (by decide +kernel) (by decide +kernel) (by decide +kernel) (by decide +kernel) (by decide +kernel)
  have hregs : t.regs = ((stagingListed.tick 5).showRest).regs :=
    (congrArg State.regs he).trans rfl
  rw [← Host.Outcome.next.inj ht] at hregs
  exact absurd hregs (by decide +kernel)

section
variable (s : State)

theorem State.fld_showRest (a : Nat) (f : Field) (h : a ≠ Reg.IMG_STAT) : s.showRest.fld a f = s.fld a f :=
  State.fld_setF_other _ _ _ _ _ _ (Ne.symm h)

@[simp] theorem State.answers_showRest (p : Path) (addr : Nat) : s.showRest.answers p addr = s.answers p addr := by
  simp (disch := decide) only [State.answers, State.fld_showRest]
  rfl

@[simp] theorem State.absentHere_showRest (p : Path) (addr : Nat) : s.showRest.absentHere p addr = s.absentHere p addr := (rfl)
end

end

end Sys2Proof.Machine

namespace Sys2Proof.Machine

open Sys2Proof

section

set_option Elab.async false

/-! ### Accesses that meet no register (R727, R728, R757 to R759) -/

/-- A command that answers t has the effects that t has: the next state is met by a name of its own, and what it is by an equation. -/
theorem Does.of_eq {i : Instr} {s t : State} {P : State → Prop} (h : exec i s = .next t) (hP : ∀ t', t' = t → P t') : Does i s P :=
  ⟨t, h, hP t rfl⟩

/-- Every command answers (O5), so what follows of its answer is what it does. -/
theorem Does.of_answer {i : Instr} {s : State} {P : State → Prop} (hP : ∀ t, exec i s = .next t → P t) : Does i s P := by
  obtain ⟨t, ht⟩ := everyCommandAnswers i s
  exact ⟨t, ht, hP t ht⟩

/-- A state that agrees with u but for its registers, events, counts of the period and answers. -/
theorem State.eq_access {t u : State} (h : t.outside [.regs, .recent, .ev, .host] = u.outside [.regs, .recent, .ev, .host]) :
    t = { u with regs := t.regs, recent := t.recent, ev := t.ev, host := t.host } := State.eq_patch h

/-- The same, where no event was posted. -/
theorem State.eq_access_silent {t u : State} (h : t.outside [.regs, .recent, .host] = u.outside [.regs, .recent, .host]) :
    t = { u with regs := t.regs, recent := t.recent, host := t.host } := State.eq_patch h

theorem Posted.congr {code : Nat} {arg : Word} {s s' t t' : State} (h : Posted code arg s t) (hs : s'.ev.posted = s.ev.posted)
    (hts : s'.tm.ts = s.tm.ts) (ht : t'.ev.posted = t.ev.posted) : Posted code arg s' t' := by
  simpa [Posted, hs, hts, ht] using h

/-- A post adds its event to those of the running base cycle (R37). -/
theorem posted_postArg (code : Nat) (arg : Word) (s : State) : Posted code arg s (s.postArg code arg) := by
  have h := s.posted_postFull code s.tm.ts arg false
  simp [Posted, State.postArg, h]

section
variable (s : State)

/-- What SYS_ERR records of an access: its bit, and the access in SYS_ERR_ADDR (R758). -/
theorem State.rd_setErr_other (bit : Nat) (acc : Access) (addr a : Nat) (h : a ∉ [Reg.SYS_ERR, Reg.SYS_ERR_ADDR]) :
    (s.setErr bit acc addr).rd a = s.rd a := by
  obtain ⟨he, ha⟩ : a ≠ Reg.SYS_ERR ∧ a ≠ Reg.SYS_ERR_ADDR := by simpa using h
  simp [State.setErr, State.rd_wr, State.rd_raise, he, ha]

@[simp] theorem State.rd_setErr_addr (bit : Nat) (acc : Access) (addr : Nat) :
    (s.setErr bit acc addr).rd Reg.SYS_ERR_ADDR = accArg acc addr := by simp [State.setErr]

theorem State.fld_setErr (bit : Nat) (h : bit < 32) (acc : Access) (addr : Nat) :
    (s.setErr bit acc addr).fld Reg.SYS_ERR ⟨bit, 1⟩ = 1 := by
  rw [State.setErr, State.fld_wr_other _ _ _ _ _ (by decide)]
  exact State.fld_raise_same _ _ bit h

@[simp] theorem State.atRest_tick (n : Nat) : (s.tick n).atRest = s.atRest := by simp [State.atRest]

@[simp] theorem State.rd_showRest_tick (n a : Nat) : (s.tick n).showRest.rd a = s.showRest.rd a := by
  simp [State.showRest, State.rd_setF]

/-- An access at which no register and no window stands is recorded and nothing else; before a write AT_REST shows (R757, R758). -/
theorem State.access_reserved (acc : Access) (addr : Nat) (wr : Option Word) (ha : s.answers acc.path addr = true)
    (hm : outOfMap addr = false) (hu : s.absentHere acc.path addr = false) (hw : windowOf addr = none) (hf : findReg addr = none)
    (ho : (ownWrite addr).isNone = true) (hc : (canSendAt addr).isNone = true) (hs : canStaging addr = false) :
    s.access acc addr wr = ((match wr with | none => s | some _ => s.showRest).touchReserved acc addr).answer
      (match wr with | none => [0] | some _ => []) 0 := by
  rw [Option.isNone_iff_eq_none] at ho hc
  cases wr with
  | none => simp [State.access, State.busRead, ha, hm, hu, hw, hf]
  | some v => simp [State.access, State.write, State.writePresent, State.busWrite, State.specOf, ha, hm, hu, hw, hf, ho, hc, hs]

/-- The host link's record of a bad access besides its event: HOST_STAT.BAD_ACCESS and a count in HOST_CNT (R728). -/
def State.countBad : State := (s.raise Reg.HOST_STAT Fld.HOST_STAT_BAD_ACCESS).bump Reg.HOST_CNT Fld.HOST_CNT_BAD_ACCESSES

theorem State.rd_countBad_other (a : Nat) (h : a ∉ [Reg.HOST_STAT, Reg.HOST_CNT]) : s.countBad.rd a = s.rd a := by
  obtain ⟨hs, hc⟩ : a ≠ Reg.HOST_STAT ∧ a ≠ Reg.HOST_CNT := by simpa using h
  simp [State.countBad, State.rd_bump, State.rd_raise, hs, hc]

@[simp] theorem State.fld_badAccess_countBad : s.countBad.fld Reg.HOST_STAT Fld.HOST_STAT_BAD_ACCESS = 1 := by
  rw [State.countBad, State.fld_bump_other _ _ _ _ _ _ (by decide)]
  exact State.fld_raise_same _ _ 28 (by decide)

theorem State.hostBad_eq (addr : Nat) :
    s.hostBad addr = ((s.postArg Ev.HOST_BAD_ACCESS (accArg s.hostAccess addr)).countBad).answer [0] 0 := (rfl)

theorem State.touchOutOfMap_host (acc : Access) (addr : Nat) (h : acc.path = .host) :
    s.touchOutOfMap acc addr = ((s.setErr 0 acc addr).postArg Ev.HOST_BAD_ACCESS (accArg acc addr)).countBad := by
  simp [State.touchOutOfMap, h, State.countBad]

theorem State.touchOutOfMap_other (acc : Access) (addr : Nat) (h : acc.path ≠ .host) :
    s.touchOutOfMap acc addr = s.setErr 0 acc addr := by
  unfold State.touchOutOfMap
  split
  · contradiction
  · rfl

/-- An access out of the map is recorded and nothing else (R728, R759). -/
theorem State.access_outOfMap (acc : Access) (addr : Nat) (wr : Option Word) (status : Nat) (ha : s.answers acc.path addr = true)
    (hm : outOfMap addr = true) :
    s.access acc addr wr status = (s.touchOutOfMap acc addr).answer (match wr with | none => [0] | some _ => []) status := by
  cases wr with
  | none => simp [State.access, State.busRead, ha, hm]
  | some v => simp [State.access, State.write, ha, hm]
end

/-- Settles O11: the access is what R757 and R758 record of it, over the state in which a write shows AT_REST. -/
theorem reservedOffsetIsQuiet : Obligations.ReservedOffsetIsQuiet := by
  intro s dt addr acc wr ha hm hu hw hf ho hc hs
  refine Does.of_eq rfl fun t ht => ?_
  rw [State.access_reserved _ acc addr wr (by simpa using ha) hm (by simpa using hu) hw hf ho hc hs] at ht
  refine ⟨?_, ?_, ?_, ?_, fun a h => ?_, State.eq_access_silent ?_⟩
  · rw [ht]; rfl
  · rw [ht]; cases wr <;> simp [Silent, State.touchReserved, State.setErr, State.showRest]
  · rw [ht, State.fld_answer]
    exact State.fld_setErr _ 3 (by decide) acc addr
  · rw [ht]; simp [State.touchReserved]
  · rw [ht, State.rd_answer, State.touchReserved, State.rd_setErr_other _ _ _ _ _ h]
    cases wr <;> simp
  · rw [ht]; cases wr <;> simp

/-- Settles O12: out of the map the access is what R758 and R759 record of it, and on the host link what R728 adds. -/
theorem outOfMapIsRecorded : Obligations.OutOfMapIsRecorded := by
  refine ⟨fun s dt addr acc wr ha hm => Does.of_eq rfl fun t ht => ?_, fun s dt addr be wr ha hm hb => ?_⟩
  · rw [if_pos hm, State.access_outOfMap _ acc addr wr 3 (by simpa using ha) hm] at ht
    by_cases hp : acc.path = .host
    · rw [State.touchOutOfMap_host _ _ _ hp] at ht
      refine ⟨?_, ?_, ?_, ?_, ?_, State.eq_access (by rw [ht]; simp [State.countBad])⟩
      · rw [ht]; rfl
      · rw [ht]; rfl
      · rw [ht, State.fld_answer, State.fld, State.rd_countBad_other _ _ (by decide), State.rd_postArg]
        exact State.fld_setErr _ 0 (by decide) acc addr
      · rw [ht, State.rd_answer, State.rd_countBad_other _ _ (by decide)]
        simp
      · rw [if_pos hp]
        refine ⟨?_, ?_, fun a h => ?_⟩
        · refine (posted_postArg Ev.HOST_BAD_ACCESS (accArg acc addr) ((s.tick dt).setErr 0 acc addr)).congr ?_ ?_ ?_
          · simp [State.setErr]
          · simp [State.setErr]
          · rw [ht]; simp [State.countBad]
        · rw [ht]; simp
        · simp only [List.mem_cons, not_or] at h
          obtain ⟨he, ha', hrest⟩ := h
          rw [ht, State.rd_answer, State.rd_countBad_other _ _ (by simpa using hrest), State.rd_postArg,
            State.rd_setErr_other _ _ _ _ _ (by simp [he, ha']), State.rd_tick]
    · rw [State.touchOutOfMap_other _ _ _ hp] at ht
      refine ⟨?_, ?_, ?_, ?_, ?_, State.eq_access (by rw [ht]; simp)⟩
      · rw [ht]; rfl
      · rw [ht]; rfl
      · rw [ht, State.fld_answer]
        exact State.fld_setErr _ 0 (by decide) acc addr
      · rw [ht]; simp
      · rw [if_neg hp]
        refine ⟨by rw [ht]; simp [Silent, State.setErr], fun a h => ?_⟩
        rw [ht, State.rd_answer, State.rd_setErr_other _ _ _ _ _ h, State.rd_tick]
  · refine Does.of_eq (t := (s.tick dt).hostBad addr) (by simp [exec, execHostBadAccess, hm, hb, ha]) fun t ht => ?_
    rw [State.hostBad_eq] at ht
    refine ⟨?_, ?_, ?_, fun a h => ?_, State.eq_access (by rw [ht]; simp [State.countBad])⟩
    · rw [ht]; rfl
    · exact (posted_postArg Ev.HOST_BAD_ACCESS _ (s.tick dt)).congr rfl rfl (by rw [ht]; simp [State.countBad])
    · rw [ht]; simp
    · rw [ht, State.rd_answer, State.rd_countBad_other _ _ h, State.rd_postArg, State.rd_tick]

end

end Sys2Proof.Machine

namespace Sys2Proof.Machine

open Sys2Proof

section

set_option Elab.async false

/-! ### A part of the state, or a read of it, that an operation leaves alone

`State.outside (allBut p)` shows the part p alone: two states agree in it where they agree in that part. -/

/-- Every part of the state but one. -/
def allBut (p : StatePart) : List StatePart := (.bytes :: notBytes).filter (· ≠ p)

@[simp] theorem mem_allBut (p q : StatePart) : q ∈ allBut p ↔ q ≠ p := by
  by_cases h : q = .bytes <;> simp [allBut, h]

section
variable {s t : State}

theorem State.pending_of_outside (h : t.outside (allBut .pending) = s.outside (allBut .pending)) : t.pending = s.pending := by
  simpa [State.outside] using congrArg State.pending h

theorem State.variant_of_outside (h : t.outside (allBut .variant) = s.outside (allBut .variant)) : t.variant = s.variant := by
  simpa [State.outside] using congrArg State.variant h

theorem State.regs_of_outside (h : t.outside (allBut .regs) = s.outside (allBut .regs)) : t.regs = s.regs := by
  simpa [State.outside] using congrArg State.regs h

theorem State.pregs_of_outside (h : t.outside (allBut .pregs) = s.outside (allBut .pregs)) : t.pregs = s.pregs := by
  simpa [State.outside] using congrArg State.pregs h

theorem State.tm_of_outside (h : t.outside (allBut .tm) = s.outside (allBut .tm)) : t.tm = s.tm := by
  simpa [State.outside] using congrArg State.tm h

theorem State.queues_of_outside (h : t.outside (allBut .queues) = s.outside (allBut .queues)) : t.queues = s.queues := by
  simpa [State.outside] using congrArg State.queues h

theorem State.tags_of_outside (h : t.outside (allBut .tags) = s.outside (allBut .tags)) : t.tags = s.tags := by
  simpa [State.outside] using congrArg State.tags h

theorem State.ev_of_outside (h : t.outside (allBut .ev) = s.outside (allBut .ev)) : t.ev = s.ev := by
  simpa [State.outside] using congrArg State.ev h

theorem State.img_of_outside (h : t.outside (allBut .img) = s.outside (allBut .img)) : t.img = s.img := by
  simpa [State.outside] using congrArg State.img h

theorem State.ctx_of_outside (h : t.outside (allBut .ctx) = s.outside (allBut .ctx)) : t.ctx = s.ctx := by
  simpa [State.outside] using congrArg State.ctx h

theorem State.keep_of_outside (h : t.outside (allBut .keep) = s.outside (allBut .keep)) : t.keep = s.keep := by
  simpa [State.outside] using congrArg State.keep h

theorem State.host_of_outside (h : t.outside (allBut .host) = s.outside (allBut .host)) : t.host = s.host := by
  simpa [State.outside] using congrArg State.host h

theorem State.loop_of_outside (h : t.outside (allBut .loop) = s.outside (allBut .loop)) : t.loop = s.loop := by
  simpa [State.outside] using congrArg State.loop h

theorem State.edge_of_outside (h : t.outside (allBut .edge) = s.outside (allBut .edge)) : t.edge = s.edge := by
  simpa [State.outside] using congrArg State.edge h

theorem State.qset_of_outside (h : t.outside (allBut .qset) = s.outside (allBut .qset)) : t.qset = s.qset := by
  simpa [State.outside] using congrArg State.qset h

theorem State.ring_of_outside (h : t.outside (allBut .ring) = s.outside (allBut .ring)) : t.ring = s.ring := by
  simpa [State.outside] using congrArg State.ring h

theorem State.sst_of_outside (h : t.outside (allBut .sst) = s.outside (allBut .sst)) : t.sst = s.sst := by
  simpa [State.outside] using congrArg State.sst h

theorem State.outs_of_outside (h : t.outside (allBut .outs) = s.outside (allBut .outs)) : t.outs = s.outs := by
  simpa [State.outside] using congrArg State.outs h

theorem State.aloc_of_outside (h : t.outside (allBut .aloc) = s.outside (allBut .aloc)) : t.aloc = s.aloc := by
  simpa [State.outside] using congrArg State.aloc h

theorem State.cool_of_outside (h : t.outside (allBut .cool) = s.outside (allBut .cool)) : t.cool = s.cool := by
  simpa [State.outside] using congrArg State.cool h

theorem State.outl_of_outside (h : t.outside (allBut .outl) = s.outside (allBut .outl)) : t.outl = s.outl := by
  simpa [State.outside] using congrArg State.outl h

theorem State.safe_of_outside (h : t.outside (allBut .safe) = s.outside (allBut .safe)) : t.safe = s.safe := by
  simpa [State.outside] using congrArg State.safe h

theorem State.metr_of_outside (h : t.outside (allBut .metr) = s.outside (allBut .metr)) : t.metr = s.metr := by
  simpa [State.outside] using congrArg State.metr h

theorem State.bill_of_outside (h : t.outside (allBut .bill) = s.outside (allBut .bill)) : t.bill = s.bill := by
  simpa [State.outside] using congrArg State.bill h

theorem State.acq_of_outside (h : t.outside (allBut .acq) = s.outside (allBut .acq)) : t.acq = s.acq := by
  simpa [State.outside] using congrArg State.acq h

theorem State.can_of_outside (h : t.outside (allBut .can) = s.outside (allBut .can)) : t.can = s.can := by
  simpa [State.outside] using congrArg State.can h

theorem State.lsw_of_outside (h : t.outside (allBut .lsw) = s.outside (allBut .lsw)) : t.lsw = s.lsw := by
  simpa [State.outside] using congrArg State.lsw h

theorem State.mem_of_outside (h : t.outside (allBut .mem) = s.outside (allBut .mem)) : t.mem = s.mem := by
  simpa [State.outside] using congrArg State.mem h

theorem State.sup_of_outside (h : t.outside (allBut .sup) = s.outside (allBut .sup)) : t.sup = s.sup := by
  simpa [State.outside] using congrArg State.sup h

theorem State.bytes_of_outside (h : t.outside (allBut .bytes) = s.outside (allBut .bytes)) : t.bytes = s.bytes := by
  simpa [State.outside] using congrArg State.bytes h

theorem State.recent_of_outside (h : t.outside (allBut .recent) = s.outside (allBut .recent)) : t.recent = s.recent := by
  simpa [State.outside] using congrArg State.recent h

theorem State.owed_of_outside (h : t.outside (allBut .owed) = s.outside (allBut .owed)) : t.owed = s.owed := by
  simpa [State.outside] using congrArg State.owed h

theorem State.free_of_outside (h : t.outside (allBut .free) = s.outside (allBut .free)) : t.free = s.free := by
  simpa [State.outside] using congrArg State.free h

theorem State.rd_of_outside (h : t.outside (allBut .regs) = s.outside (allBut .regs)) (a : Nat) : t.rd a = s.rd a := by
  rw [State.rd, State.rd, State.regs_of_outside h]

theorem State.fld_of_outside (h : t.outside (allBut .regs) = s.outside (allBut .regs)) (a : Nat) (f : Field) :
    t.fld a f = s.fld a f := by rw [State.fld, State.fld, State.rd_of_outside h]

@[simp] theorem State.rd_update {pending' : List Instr} {variant' free' : Nat} {pregs' recent' : SMap Word} {tm' : TimePart}
    {queues' : SMap Queue} {tags' : SMap TagPool} {ev' : EvPart} {img' : ImagePart} {ctx' : SMap Ctx} {keep' : KeepPart} {host' :
    HostPart} {loop' : LoopPart} {edge' : EdgePart} {qset' : QsetPart} {ring' : RingPart} {sst' : SstPart} {outs' : OutsPart} {aloc' :
    AlocPart} {cool' : CoolPart} {outl' : OutlPart} {safe' : SafePart} {metr' : MetrPart} {bill' : BillPart} {acq' : AcqPart} {can' :
    CanPart} {lsw' : LswPart} {mem' : MemPart} {sup' : PowerPart} {bytes' : SMap Byte} {owed' : Option Owed} (a : Nat) :
    State.rd ⟨pending', variant', s.regs, pregs', tm', queues', tags', ev', img', ctx', keep', host', loop', edge', qset', ring', sst',
    outs', aloc', cool', outl', safe', metr', bill', acq', can', lsw', mem', sup', bytes', recent', owed', free'⟩ a = s.rd a := rfl

@[simp] theorem State.fld_update {pending' : List Instr} {variant' free' : Nat} {pregs' recent' : SMap Word} {tm' : TimePart}
    {queues' : SMap Queue} {tags' : SMap TagPool} {ev' : EvPart} {img' : ImagePart} {ctx' : SMap Ctx} {keep' : KeepPart} {host' :
    HostPart} {loop' : LoopPart} {edge' : EdgePart} {qset' : QsetPart} {ring' : RingPart} {sst' : SstPart} {outs' : OutsPart} {aloc' :
    AlocPart} {cool' : CoolPart} {outl' : OutlPart} {safe' : SafePart} {metr' : MetrPart} {bill' : BillPart} {acq' : AcqPart} {can' :
    CanPart} {lsw' : LswPart} {mem' : MemPart} {sup' : PowerPart} {bytes' : SMap Byte} {owed' : Option Owed} (a : Nat) (f : Field) :
    State.fld ⟨pending', variant', s.regs, pregs', tm', queues', tags', ev', img', ctx', keep', host', loop', edge', qset', ring', sst',
    outs', aloc', cool', outl', safe', metr', bill', acq', can', lsw', mem', sup', bytes', recent', owed', free'⟩ a f = s.fld a f := rfl
end

end

end Sys2Proof.Machine

namespace Sys2Proof.Machine

open Sys2Proof

section

set_option Elab.async false

/-! ### The time source and the servo (R64 to R71) -/

/-- A state that agrees with u but for its registers and its time. -/
theorem State.eq_time {t u : State} (h : t.outside [.regs, .tm] = u.outside [.regs, .tm]) : t = { u with regs := t.regs, tm := t.tm } :=
  State.eq_patch h

/-- A state that agrees with u but for its time. -/
theorem State.eq_tm {t u : State} (h : t.outside [.tm] = u.outside [.tm]) : t = { u with tm := t.tm } := State.eq_patch h

/-- The same, where free values were drawn. -/
theorem State.eq_time_free {t u : State} (h : t.outside [.regs, .tm, .free] = u.outside [.regs, .tm, .free]) :
    t = { u with regs := t.regs, tm := t.tm, free := t.free } := State.eq_patch h

section
variable (s : State)

@[simp] theorem State.ptpEnabled_tick (dt n : Nat) : (s.tick dt).ptpEnabled n = s.ptpEnabled n := (rfl)
@[simp] theorem State.ptpPort_tick (dt n : Nat) : (s.tick dt).ptpPort n = s.ptpPort n := (rfl)
@[simp] theorem State.ptpMaster_tick (dt : Nat) : (s.tick dt).ptpMaster = s.ptpMaster := (rfl)
@[simp] theorem State.ptpTakes_tick (dt : Nat) (x : PtpExchange) : (s.tick dt).ptpTakes x = s.ptpTakes x := (rfl)
@[simp] theorem State.lowerSource_tick (dt : Nat) : (s.tick dt).lowerSource = s.lowerSource := (rfl)
@[simp] theorem State.rate_tick (dt : Nat) : (s.tick dt).tm.rate = s.tm.rate := (rfl)
@[simp] theorem State.rd_setPtp (n a : Nat) (p : PtpPort) : (s.setPtp n p).rd a = s.rd a := (rfl)
@[simp] theorem State.rate_setPtp (n : Nat) (p : PtpPort) : (s.setPtp n p).tm.rate = s.tm.rate := (rfl)

/-- The choice of the source moves TIME_STAT and the instant at which PTP was lost (R67, R68). -/
theorem State.rd_selectSource (a : Nat) (h : a ≠ Reg.TIME_STAT) : s.selectSource.rd a = s.rd a := by
  simp only [State.selectSource]
  split
  · simp [State.rd_setF, h]
  · split <;> simp [State.rd_setF, h]

theorem State.tm_selectSource : ∃ l, s.selectSource.tm = { s.tm with ptpLost := l } := by
  simp only [State.selectSource]
  split
  · exact ⟨_, rfl⟩
  · split <;> exact ⟨_, rfl⟩

@[simp] theorem State.rate_selectSource : s.selectSource.tm.rate = s.tm.rate := by
  obtain ⟨l, h⟩ := s.tm_selectSource
  rw [h]

@[simp] theorem State.ntpValid_selectSource : s.selectSource.tm.ntpValid = s.tm.ntpValid := by
  obtain ⟨l, h⟩ := s.tm_selectSource
  rw [h]

@[simp] theorem State.ppsValid_selectSource : s.selectSource.tm.ppsValid = s.tm.ppsValid := by
  obtain ⟨l, h⟩ := s.tm_selectSource
  rw [h]

@[simp] theorem State.ppsRun_selectSource : s.selectSource.tm.ppsRun = s.tm.ppsRun := by
  obtain ⟨l, h⟩ := s.tm_selectSource
  rw [h]

@[simp] theorem State.ppsLast_selectSource : s.selectSource.tm.ppsLast = s.tm.ppsLast := by
  obtain ⟨l, h⟩ := s.tm_selectSource
  rw [h]

@[simp] theorem State.ptpPort_selectSource (n : Nat) : s.selectSource.ptpPort n = s.ptpPort n := by
  obtain ⟨l, h⟩ := s.tm_selectSource
  rw [State.ptpPort, h, State.ptpPort]

@[simp] theorem State.free_selectSource : s.selectSource.free = s.free := State.free_of_outside (by simp)

@[simp] theorem State.ptpPort_setPtp_same (n : Nat) (p : PtpPort) : (s.setPtp n p).ptpPort n = p := by simp [State.setPtp, State.ptpPort]

theorem State.lowerSource_lt : s.lowerSource < 5 := by
  unfold State.lowerSource
  split_ifs <;> decide

theorem State.ptpSource_congr {s u : State} (hc : u.rd Reg.TIME_CTRL = s.rd Reg.TIME_CTRL) (hp : ∀ n, u.ptpPort n = s.ptpPort n)
    (hl : u.fld Reg.TIME_STAT Fld.TIME_STAT_LOCK = s.fld Reg.TIME_STAT Fld.TIME_STAT_LOCK) : u.ptpSource = s.ptpSource := by
  have he : ∀ n, u.ptpEnabled n = s.ptpEnabled n := fun n => by
    rw [State.ptpEnabled, State.fld, State.fld, hc]; rfl
  have hv : ∀ n, u.ptpValid n = s.ptpValid n := fun n => by simp only [State.ptpValid, he, hl, hp]
  simp only [State.ptpSource, hv, hp]

theorem State.lock_selectSource :
    s.selectSource.fld Reg.TIME_STAT Fld.TIME_STAT_LOCK = s.fld Reg.TIME_STAT Fld.TIME_STAT_LOCK := by
  simp only [State.selectSource]
  split
  · simp (disch := decide) [State.fld_setF_field]
  · split <;> simp (disch := decide) [State.fld_setF_field]

theorem State.holdover_selectSource : s.selectSource.fld Reg.TIME_STAT Fld.TIME_STAT_HOLDOVER =
    if s.ptpSource.isSome then 0 else if s.fld Reg.TIME_STAT Fld.TIME_STAT_SRC = 5 ∨ s.fld Reg.TIME_STAT Fld.TIME_STAT_SRC = 6 then 1
      else s.fld Reg.TIME_STAT Fld.TIME_STAT_HOLDOVER := by
  simp only [State.selectSource]
  cases hs : s.ptpSource with
  | some v =>
    simp only [Option.isSome_some, if_true]
    rw [State.fld_update, State.fld_setF_same _ _ _ _ (by decide)]
    rfl
  | none =>
    simp only [Option.isSome_none, Bool.false_eq_true, if_false]
    split
    · rw [State.fld_update, State.fld_setF_same _ _ _ _ (by decide)]
      rfl
    · rw [State.fld_setF_field _ _ _ _ _ (by decide) (by decide)]

theorem State.src_selectSource (hs : s.ptpSource = none) : s.selectSource.fld Reg.TIME_STAT Fld.TIME_STAT_SRC =
    if s.fld Reg.TIME_STAT Fld.TIME_STAT_SRC = 5 ∨ s.fld Reg.TIME_STAT Fld.TIME_STAT_SRC = 6 then s.fld Reg.TIME_STAT Fld.TIME_STAT_SRC
      else s.lowerSource := by
  simp only [State.selectSource, hs]
  split
  · rw [State.fld_update, State.fld_setF_field _ _ _ _ _ (by decide) (by decide)]
  · rw [State.fld_setF_same _ _ _ _ (by decide)]
    exact Nat.mod_eq_of_lt (s.lowerSource_lt.trans (by decide))

/-- The choice of the source is made once: from a state that shows the source chosen, with the same ports and lock, it leaves HOLDOVER. -/
theorem State.holdover_selectSource_twice {s u : State} (hp : u.ptpSource = s.ptpSource)
    (hr : u.rd Reg.TIME_STAT = s.selectSource.rd Reg.TIME_STAT) :
    u.selectSource.fld Reg.TIME_STAT Fld.TIME_STAT_HOLDOVER = u.fld Reg.TIME_STAT Fld.TIME_STAT_HOLDOVER := by
  have hf : ∀ f, u.fld Reg.TIME_STAT f = s.selectSource.fld Reg.TIME_STAT f := fun f => by rw [State.fld, State.fld, hr]
  rw [State.holdover_selectSource, hp, hf, hf, State.holdover_selectSource]
  by_cases hs : s.ptpSource.isSome
  · simp [hs]
  · have hn : s.ptpSource = none := by simpa using hs
    have := s.lowerSource_lt
    rw [s.src_selectSource hn]
    split_ifs <;> first | rfl | omega

/-- The servo runs at a rate of at most 500 ppm, a free value (log entry 51). -/
theorem State.servo_rate : -500000000 ≤ s.servo.tm.rate ∧ s.servo.tm.rate ≤ 500000000 := by
  simp only [State.servo, clampInt]
  split_ifs <;> omega
end
/-- PTP_MESSAGE with an Announce alone renews the port's master (R64). -/
theorem exec_announce {s : State} {dt port : Nat} (ann : Option (Nat × Nat)) (hport : port < 2) (hen : s.ptpEnabled port = true) :
    exec (.ptpMessage dt port (s.fld Reg.TIME_CTRL Fld.TIME_CTRL_PTP_DOMAIN) ann none) s = .next (match ann with
      | some (iv, rank) => (s.tick dt).setPtp port ⟨true, (s.tick dt).tm.mono, iv, rank⟩
      | none => s.tick dt).selectSource := by
  cases ann <;> simp [exec, execPtpMessage, Nat.mod_eq_of_lt hport, hen]

/-- PTP_MESSAGE with an exchange alone gives its offset where the servo follows the port (R65, R66). -/
theorem exec_exchange {s : State} {dt port : Nat} (x : PtpExchange) (hport : port < 2) (hen : s.ptpEnabled port = true) :
    exec (.ptpMessage dt port (s.fld Reg.TIME_CTRL Fld.TIME_CTRL_PTP_DOMAIN) none (some x)) s =
      .next (if s.ptpMaster = some port ∧ s.ptpTakes x = true then (s.tick dt).ptpOffset (x.offset (s.rd (Reg.TIME_PHY_DLY port)))
        else s.tick dt).selectSource := by
  simp [exec, execPtpMessage, Nat.mod_eq_of_lt hport, hen]

section
variable (s : State)

@[simp] theorem State.ptpPort_lockStep (d : Int) (n : Nat) : (s.lockStep d).ptpPort n = s.ptpPort n := by
  simp only [State.lockStep]
  split_ifs <;> rfl

@[simp] theorem State.rate_lockStep (d : Int) : (s.lockStep d).tm.rate = s.tm.rate := by
  simp only [State.lockStep]
  split_ifs <;> rfl

theorem State.rd_lockStep (d : Int) (a : Nat) (h : a ≠ Reg.TIME_STAT) : (s.lockStep d).rd a = s.rd a := by
  simp only [State.lockStep]
  split_ifs <;> simp [State.rd_setF, h]

/-- PTP's exchange moves the offset shown, the lock and the source, and then drives the servo (R65 to R68). -/
def State.ptpShown (d : Int) : State := ((s.setOffset (Int.tdiv d 4)).lockStep d).selectSource

theorem State.ptpOffset_eq (d : Int) : s.ptpOffset d =
    if (s.ptpShown d).fld Reg.TIME_STAT Fld.TIME_STAT_HOLDOVER = 1 then s.ptpShown d else (s.ptpShown d).servo := rfl

theorem clampInt_bounds (lo hi v : Int) (h : lo ≤ hi) : lo ≤ clampInt lo hi v ∧ clampInt lo hi v ≤ hi := by
  unfold clampInt
  split_ifs <;> omega

theorem State.fldS_setOffset (ns : Int) : (s.setOffset ns).fldS Reg.TIME_OFFSET Fld.TIME_OFFSET_VALUE = clampInt (-2147483647) 2147483647 ns := by
  have h := clampInt_bounds (-2147483647) 2147483647 ns (by decide)
  exact State.fldS_setFS_same _ _ _ _ (by decide) (by decide) (by norm_num [Fld.TIME_OFFSET_VALUE]; omega) (by norm_num [Fld.TIME_OFFSET_VALUE]; omega)

theorem State.rd_setOffset (ns : Int) (a : Nat) (h : a ≠ Reg.TIME_OFFSET) : (s.setOffset ns).rd a = s.rd a := by
  simp [State.setOffset, State.setFS, State.rd_setF, h]

@[simp] theorem State.rd_servo (a : Nat) : s.servo.rd a = s.rd a := (rfl)
@[simp] theorem State.ptpPort_servo (n : Nat) : s.servo.ptpPort n = s.ptpPort n := (rfl)
@[simp] theorem State.free_servo : s.servo.free = s.free + 1 := (rfl)
end

section
variable (s : State)

@[simp] theorem State.ptpPort_setOffset (ns : Int) (n : Nat) : (s.setOffset ns).ptpPort n = s.ptpPort n := (rfl)
@[simp] theorem State.rate_setOffset (ns : Int) : (s.setOffset ns).tm.rate = s.tm.rate := (rfl)

theorem State.ptpSource_ptpShown (d : Int) : (s.ptpShown d).ptpSource = ((s.setOffset (Int.tdiv d 4)).lockStep d).ptpSource :=
  State.ptpSource_congr (State.rd_selectSource _ _ (by decide)) (State.ptpPort_selectSource _) (State.lock_selectSource _)

@[simp] theorem State.rd_ptpOffset (d : Int) (a : Nat) : (s.ptpOffset d).rd a = (s.ptpShown d).rd a := by
  rw [State.ptpOffset_eq]
  split <;> rfl

@[simp] theorem State.ptpPort_ptpOffset (d : Int) (n : Nat) : (s.ptpOffset d).ptpPort n = s.ptpPort n := by
  rw [State.ptpOffset_eq]
  split <;> simp [State.ptpShown]

theorem State.ptpSource_ptpOffset (d : Int) : (s.ptpOffset d).ptpSource = (s.ptpShown d).ptpSource := by
  rw [State.ptpOffset_eq]
  split <;> rfl

/-- The source chosen after an exchange leaves HOLDOVER as the exchange showed it, so it tells whether the servo ran (R68). -/
theorem State.servo_of_holdover (d : Int) {t : State} (ht : t = (s.ptpOffset d).selectSource) :
    if t.fld Reg.TIME_STAT Fld.TIME_STAT_HOLDOVER = 1 then t.tm.rate = s.tm.rate ∧ t.free = s.free
      else -500000000 ≤ t.tm.rate ∧ t.tm.rate ≤ 500000000 ∧ t.free = s.free + 1 := by
  have hh : t.fld Reg.TIME_STAT Fld.TIME_STAT_HOLDOVER = (s.ptpShown d).fld Reg.TIME_STAT Fld.TIME_STAT_HOLDOVER := by
    rw [ht, State.holdover_selectSource_twice ((s.ptpSource_ptpOffset d).trans (s.ptpSource_ptpShown d)) (s.rd_ptpOffset d _), State.fld,
      State.fld, State.rd_ptpOffset]
  have hf : (s.ptpShown d).free = s.free := State.free_of_outside (by simp [State.ptpShown])
  rw [hh, ht, State.rate_selectSource, State.free_selectSource, State.ptpOffset_eq]
  split
  · exact ⟨by simp [State.ptpShown], hf⟩
  · exact ⟨(State.servo_rate _).1, (State.servo_rate _).2, by rw [State.free_servo, hf]⟩

theorem State.rd_ptpShown (d : Int) (a : Nat) (h : a ≠ Reg.TIME_STAT) : (s.ptpShown d).rd a = (s.setOffset (Int.tdiv d 4)).rd a := by
  rw [State.ptpShown, State.rd_selectSource _ _ h, State.rd_lockStep _ _ _ h]
end

/-- Settles O13. -/
theorem timeSourceRows : Obligations.TimeSourceRows := by
  refine ⟨?_, ?_, ?_, ?_, ?_, ?_, ?_, ?_, ?_⟩
  · intro s dt port ann hport hen
    refine Does.of_eq (exec_announce ann hport hen) fun t ht => ?_
    cases ann with
    | none => exact ⟨by rw [ht]; simp, by rw [ht]; simp, fun a h => by rw [ht, State.rd_selectSource _ _ (by simpa using h)]; simp, State.eq_time (by rw [ht]; simp)⟩
    | some a => exact ⟨by rw [ht]; simp, by rw [ht]; simp, fun a h => by rw [ht, State.rd_selectSource _ _ (by simpa using h)]; simp, State.eq_time (by rw [ht]; simp)⟩
  · intro s dt port x hport hen
    refine Does.of_eq (exec_exchange x hport hen) fun t ht => ?_
    by_cases hm : s.ptpMaster = some port ∧ s.ptpTakes x = true
    · rw [if_pos hm] at ht ⊢
      generalize x.offset (s.rd (Reg.TIME_PHY_DLY port)) = d at ht ⊢
      refine ⟨by rw [ht]; simp, ?_, (s.tick dt).servo_of_holdover d ht, fun a h => ?_, State.eq_time_free (by rw [ht]; simp [-State.tick_tags])⟩
      · rw [← (s.tick dt).fldS_setOffset, State.fldS, State.fldS, ht, State.rd_selectSource _ _ (by decide), State.rd_ptpOffset,
          State.rd_ptpShown _ _ _ (by decide)]
      · obtain ⟨hst, hof⟩ : a ≠ Reg.TIME_STAT ∧ a ≠ Reg.TIME_OFFSET := by simpa using h
        rw [ht, State.rd_selectSource _ _ hst, State.rd_ptpOffset, State.rd_ptpShown _ _ _ hst, State.rd_setOffset _ _ _ hof, State.rd_tick]
    · rw [if_neg hm] at ht ⊢
      exact ⟨by rw [ht]; simp, by rw [ht]; simp, fun a h => by rw [ht, State.rd_selectSource _ _ (by simpa using h)]; simp,
        State.eq_time (by rw [ht]; simp)⟩
  · intro s dt port hport hv hiv
    refine Does.of_eq (t := ((s.tick dt).setPtp port { s.ptpPort port with valid := false }).selectSource) ?_ fun t ht => ?_
    · simp [exec, execPtpAnnounceTimeout, Nat.mod_eq_of_lt hport, hv, hiv]
    · refine ⟨by rw [ht]; simp, fun a h => ?_, State.eq_time (by rw [ht]; simp)⟩
      rw [ht, State.rd_selectSource _ _ (by simpa using h)]
      simp
  · intro s dt c hc htmo
    refine Does.of_answer fun t ht => ?_
    have hc' : (s.tick dt).tm.ptpLost = some c := hc
    simp only [exec, execPtpTmoExpiry, hc', State.fld_tick, if_pos htmo, Host.Outcome.next.injEq] at ht
    refine ⟨?_, ?_, by rw [← ht], fun a h => ?_, State.eq_time (by rw [← ht]; simp [-State.tick_tags])⟩
    · rw [← ht, State.fld_update, State.fld_setF_field _ _ _ _ _ (by decide) (by decide), State.fld_setF_same _ _ _ _ (by decide)]
      exact Nat.mod_eq_of_lt (s.lowerSource_lt.trans (by decide))
    · rw [← ht, State.fld_update, State.fld_setF_same _ _ _ _ (by decide)]
      rfl
    · have ha : a ≠ Reg.TIME_STAT := by simpa using h
      rw [← ht]
      simp [State.rd_setF, ha]
  · intro s dt
    refine Does.of_answer fun t ht => ?_
    simp only [exec, execPpsInEdge, Host.Outcome.next.injEq] at ht
    refine ⟨?_, by rw [← ht]; simp, fun a h => ?_, State.eq_time (by rw [← ht]; simp [-State.tick_tags])⟩
    · rw [← ht, State.rd_selectSource _ _ (by decide), State.rd_selectSource _ _ (by decide)]
      simp only [State.rd_update, State.rd_wr_same, State.rd_wr_other _ Reg.TIME_PPS_IN_HI Reg.TIME_PPS_IN_LO _ (by decide)]
      exact BitVec.extractLsb'_append_extractLsb' (w := 32) (len := 32)
    · obtain ⟨hlo, hhi, hst⟩ : a ≠ Reg.TIME_PPS_IN_LO ∧ a ≠ Reg.TIME_PPS_IN_HI ∧ a ≠ Reg.TIME_STAT := by simpa using h
      rw [← ht, State.rd_selectSource _ _ hst]
      simp [State.rd_wr, hlo, hhi]
  · intro s dt c hc hlate
    refine Does.of_answer fun t ht => ?_
    have hc' : (s.tick dt).tm.ppsLast = some c := hc
    simp only [exec, execPpsInMissing, hc', if_pos hlate, Host.Outcome.next.injEq] at ht
    refine ⟨by rw [← ht]; simp, by rw [← ht]; simp, fun a h => ?_, State.eq_time (by rw [← ht]; simp [-State.tick_tags])⟩
    rw [← ht, State.rd_selectSource _ _ (by simpa using h)]
    simp
  · intro s dt off hen
    refine Does.of_answer fun t ht => ?_
    simp only [exec, execNtpResponse, State.fld_tick, if_neg hen, Host.Outcome.next.injEq] at ht
    generalize hu : State.selectSource { s.tick dt with tm :=
      { (s.tick dt).tm with ntpValid := true, ppsValid := decide (4 ≤ (s.tick dt).tm.ppsRun) } } = u at ht
    have hrd : ∀ a, a ≠ Reg.TIME_STAT → u.rd a = s.rd a := fun a h => by
      rw [← hu, State.rd_selectSource _ _ h]
      simp
    have hval : u.tm.ntpValid = true := by rw [← hu]; simp
    have hsrc : ∀ v : State, v.rd Reg.TIME_STAT = u.rd Reg.TIME_STAT →
        ((v.fld Reg.TIME_STAT Fld.TIME_STAT_SRC = 3 ∨ v.fld Reg.TIME_STAT Fld.TIME_STAT_SRC = 4) ↔ u.ntpSource = true) := fun v hv => by
      simp [State.ntpSource, State.fld, hv]
    split at ht <;> rename_i hn
    · have hst : t.rd Reg.TIME_STAT = u.rd Reg.TIME_STAT := by
        rw [← ht, State.rd_servo, State.rd_setOffset _ _ _ (by decide)]
      rw [if_pos ((hsrc t hst).mpr hn)]
      refine ⟨by rw [← ht]; exact hval, ?_, ?_, ?_, fun a h => ?_, ?_⟩
      · rw [← u.fldS_setOffset, ← ht]
        rfl
      · rw [← ht]; exact (State.servo_rate _).1
      · rw [← ht]; exact (State.servo_rate _).2
      · obtain ⟨hof, hne⟩ : a ≠ Reg.TIME_OFFSET ∧ a ≠ Reg.TIME_STAT := by simpa using h
        rw [← ht, State.rd_servo, State.rd_setOffset _ _ _ hof, hrd a hne]
      · have hf : t.free = s.free + 1 := by
          have hfu : u.free = s.free := by rw [← hu]; simp
          rw [← ht, State.free_servo, ← hfu]
          rfl
        rw [← hf]
        exact State.eq_time_free (by rw [← ht, ← hu]; simp [-State.tick_tags])
    · rw [if_neg (fun h => hn ((hsrc t (by rw [← ht])).mp h))]
      refine ⟨by rw [← ht]; exact hval, by rw [← ht, ← hu]; simp, fun a h => ?_, State.eq_time (by rw [← ht, ← hu]; simp [-State.tick_tags])⟩
      rw [← ht, hrd a (by simpa using h)]
  · intro s dt hph hsec
    refine ⟨_, if_pos ⟨hph, hsec⟩, rfl⟩
  · intro s dt
    refine Does.of_answer fun t ht => ?_
    simp only [exec, execPpsOutPulse] at ht
    split at ht <;> rename_i hp <;> rw [Host.Outcome.next.injEq] at ht
    · refine ⟨fun h0 => ?_, fun _ _ _ => by rw [← ht], State.eq_tm (by rw [← ht]; simp [-State.tick_tags])⟩
      simp [State.ppsAllowed, h0] at hp
    · refine ⟨fun h0 => ?_, fun h1 hv hsec => ?_, State.eq_tm (by rw [← ht]; simp [-State.tick_tags])⟩
      · rw [← ht]
        simp [State.ppsHigh, State.ppsAllowed, h0]
      · simp [State.ppsAllowed, h1, hv, hsec] at hp

end

end Sys2Proof.Machine

namespace Sys2Proof.Machine

open Sys2Proof

section

set_option Elab.async false

/-! ### The clear of a queue's losses (R95) -/

/-- A module at work whose path from the management protocol has the event queue of Side A, number 125, selected, with one event in it. -/
def eventQueueSelected : State :=
  { State.reset.pwr .mgmt Reg.TIME_QUEUE_SEL 125 with
    sup := { PowerPart.reset with phase := 4 }
    ev := { EvPart.reset with queue := [(0, [⟨0, 0, 0, 0, 0, 0, 0, none⟩])] } }

/-- Refutes O14, by its last clause: the event queue's entries stand with the events and not in the queue's own record, so its high water
becomes the event queue's fill, 1, and not the length of the record's empty list of entries. -/
theorem not_timeSettingRows : ¬ Obligations.TimeSettingRows := by
  intro h
  obtain ⟨-, -, -, -, -, -, -, hclr⟩ := h
  obtain ⟨t, ht, hq, -⟩ := hclr eventQueueSelected 5 ⟨.mgmt, .operator, 1⟩ 1 .a 125 (by decide +kernel) (by decide +kernel) (by decide +kernel)
    (by decide +kernel)
  have hhigh := congrArg Queue.high hq
  rw [← Host.Outcome.next.inj ht] at hhigh
  exact absurd hhigh (by decide +kernel)

end

end Sys2Proof.Machine

namespace Sys2Proof.Machine

open Sys2Proof

section

set_option Elab.async false

/-! ### Quickset: the registers that a source, its latch and the hold of the pairs touch (R269 to R279, R304) -/

theorem pairsOf_le (v : Nat) : pairsOf v ≤ 64 := by
  unfold pairsOf cap1
  split <;> decide

/-- The registers of `tripRegs`, by kind. -/
theorem not_mem_tripRegs {a : Nat} : a ∉ tripRegs ↔
    (a ≠ Reg.QSET_FIRST_TS_LO ∧ a ≠ Reg.QSET_FIRST_TS_HI ∧ a ≠ Reg.QSET_STAT ∧ a ≠ Reg.QSET_COUNT ∧ a ≠ Reg.EDGE_STAT)
      ∧ (∀ k < 4, a ≠ Reg.QSET_LATCH k) ∧ (∀ k < 4, a ≠ Reg.QSET_ACTIVE k)
      ∧ (∀ n < 64, a ≠ Reg.EDGE_PSTAT n) ∧ ∀ n < 64, a ≠ Reg.EDGE_PSTAT n + 0x2000000 := by
  simp [tripRegs, loopReg, Side.code, eq_comm (b := a), and_assoc]

section
variable (s : State)

theorem State.rd_setBit (a i b : Nat) (v : Bool) (h : b ≠ a) : (s.setBit a i v).rd b = s.rd b :=
  State.rd_setF_other _ _ _ _ _ (Ne.symm h)

@[simp] theorem State.rd_pump (a : Nat) : s.pump.rd a = s.rd a := State.rd_of_outside (by simp) a
@[simp] theorem State.rd_watchQset (a : Nat) : s.watchQset.rd a = s.rd a := State.rd_of_outside (by simp) a
@[simp] theorem State.rd_sendSet (a : Nat) : s.sendSet.rd a = s.rd a := State.rd_of_outside (by simp) a
@[simp] theorem State.rd_setPair (x : Side) (n : Nat) (p : Pair) (a : Nat) : (s.setPair x n p).rd a = s.rd a :=
  State.rd_of_outside (by simp) a
@[simp] theorem State.rd_tripTake (f : Nat → Nat) (a : Nat) : (s.tripTake f).rd a = s.rd a := State.rd_of_outside (by simp) a

theorem State.rd_showLatches (a : Nat) (h : a ≠ Reg.QSET_STAT) : s.showLatches.rd a = s.rd a := by
  simp [State.showLatches, State.rd_setF, h]

/-- Folding an operation that leaves a register alone leaves it alone. -/
theorem rd_foldl {α : Type} {f : State → α → State} {a : Nat} (l : List α) (h : ∀ t, ∀ x ∈ l, (f t x).rd a = t.rd a) (s : State) :
    (l.foldl f s).rd a = s.rd a := by
  induction l generalizing s with
  | nil => rfl
  | cons x l ih => rw [List.foldl_cons, ih (fun t y hy => h t y (List.mem_cons_of_mem _ hy)), h s x (List.mem_cons_self ..)]

theorem State.rd_recordFirst (was : Bool) (src a : Nat) (h : a ∉ tripRegs) : (s.recordFirst was src).rd a = s.rd a := by
  obtain ⟨⟨hlo, hhi, hst, hct, -⟩, -⟩ := not_mem_tripRegs.mp h
  simp only [State.recordFirst]
  split_ifs <;> simp [State.rd_setF, State.rd_wr, State.rd_bump, hlo, hhi, hst, hct]

theorem State.rd_pstat (n : Nat) (f : Field) (v a : Nat) (h : a ≠ Reg.EDGE_PSTAT n) (h' : a ≠ Reg.EDGE_PSTAT n + 0x2000000) :
    (s.pstat n f v).rd a = s.rd a := by simp [State.pstat, State.rd_setF, h, h']

theorem State.rd_holdPairs (a : Nat) (h : a ∉ tripRegs) : s.holdPairs.rd a = s.rd a := by
  obtain ⟨⟨-, -, -, -, hes⟩, -, -, hp, hq⟩ := not_mem_tripRegs.mp h
  simp only [State.holdPairs]
  rw [State.rd_setF_other _ _ _ _ _ (Ne.symm hes)]
  refine rd_foldl _ (fun t n hn => ?_) _
  have hn' : n < 64 := (List.mem_range.mp hn).trans_le (pairsOf_le _)
  split
  · rw [State.rd_pstat _ _ _ _ _ (hp n hn') (hq n hn')]
    simp
  · rfl

theorem State.rd_qsetKeep (src a : Nat) (hs : src < 128) (h : a ∉ tripRegs) : (s.qsetKeep src).rd a = s.rd a := by
  obtain ⟨⟨-, -, hst, -, -⟩, hl, -⟩ := not_mem_tripRegs.mp h
  simp only [State.qsetKeep]
  rw [State.rd_holdPairs _ _ h, State.rd_update, State.rd_tripTake, State.rd_showLatches _ _ hst, State.rd_setBit _ _ _ _ _ (hl _ (by omega)),
    State.rd_update]

/-- A source's latch touches the registers of `tripRegs` alone. -/
theorem State.rd_qsetTrip (src a : Nat) (hs : src < 128) (h : a ∉ tripRegs) : (s.qsetTrip src).rd a = s.rd a := by
  obtain ⟨⟨-, -, hst, -, -⟩, hl, -⟩ := not_mem_tripRegs.mp h
  simp only [State.qsetTrip]
  split_ifs
  · rfl
  · exact s.rd_qsetKeep src a hs h
  · rw [State.rd_watchQset, State.rd_holdPairs _ _ h, State.rd_sendSet, State.rd_recordFirst _ _ _ _ h, State.rd_update,
      State.rd_showLatches _ _ hst, State.rd_setBit _ _ _ _ _ (hl _ (by omega)), State.rd_pump]

theorem State.rd_qsetSource (src : Nat) (b : Bool) (a : Nat) (hs : src < 128) (h : a ∉ tripRegs) :
    (s.qsetSource src b).rd a = s.rd a := by
  obtain ⟨-, -, ha, -⟩ := not_mem_tripRegs.mp h
  have e : (s.setBit (Reg.QSET_ACTIVE (src / 32)) (src % 32) b).rd a = s.rd a := State.rd_setBit _ _ _ _ _ (ha _ (by omega))
  simp only [State.qsetSource]
  split_ifs
  · rw [State.rd_qsetTrip _ _ _ hs h, e]
  · rw [State.rd_update, e]
  · exact e
end

end

end Sys2Proof.Machine

namespace Sys2Proof.Machine

open Sys2Proof

section

set_option Elab.async false

/-! ### The clock of the base cycle through a boundary's work (R79 to R81)

The work of a boundary, other than its count, leaves the cycle's start and number alone, and plain writes wait only from outside it. -/

/-- What a boundary's count sets: the monotonic count, the cycle's start and number, and whether the module was in RUN. -/
def TimePart.clock (m : TimePart) : Count × Count × Nat × Bool := (m.mono, m.cycleStart, m.cycleN, m.inRun)

/-- The clock reads k, and where b no plain write waits. -/
def TimePart.Calm (b : Bool) (k : Count × Count × Nat × Bool) (m : TimePart) : Prop := m.clock = k ∧ (b = true → m.deferred = [])

/-- The same of a state, read off the time part alone, so that an operation which leaves that part alone is seen to keep it. -/
@[simp] abbrev Calm (b : Bool) (k : Count × Count × Nat × Bool) (s : State) : Prop := TimePart.Calm b k (s.outside (allBut .tm)).tm

theorem calm_iff {b : Bool} {k : Count × Count × Nat × Bool} {s : State} : Calm b k s ↔ TimePart.Calm b k s.tm := by
  simp [Calm, State.outside]

theorem Calm.of_tm {b : Bool} {k : Count × Count × Nat × Bool} {s t : State} (h : Calm b k s) (e : t.tm = s.tm) : Calm b k t := by
  rw [calm_iff] at h ⊢
  rwa [e]

theorem Calm.of_outside {b : Bool} {k : Count × Count × Nat × Bool} {s t : State} (h : Calm b k s)
    (e : t.outside (allBut .tm) = s.outside (allBut .tm)) : Calm b k t := by rwa [Calm, e]

theorem Calm.of_fst {b : Bool} {k : Count × Count × Nat × Bool} {α : Type} {t : State} {a : α} {p : State × α} (h : Calm b k p.1)
    (e : p = (t, a)) : Calm b k t := by subst e; exact h

theorem Calm.foldl {b : Bool} {k : Count × Count × Nat × Bool} {α : Type} {f : State → α → State}
    (hf : ∀ t x, Calm b k t → Calm b k (f t x)) (l : List α) {s : State} (h : Calm b k s) : Calm b k (l.foldl f s) := by
  induction l generalizing s with
  | nil => exact h
  | cons x l ih => exact ih (hf s x h)

@[simp] theorem State.tm_ite (p : Prop) [Decidable p] (s t : State) : (if p then s else t).tm = if p then s.tm else t.tm :=
  apply_ite State.tm p s t

section
variable {s : State} {b : Bool} {k : Count × Count × Nat × Bool}

@[simp] theorem State.selectSource_calm (h : Calm b k s) : Calm b k s.selectSource := by
  rw [calm_iff] at h ⊢
  obtain ⟨l, e⟩ := s.tm_selectSource
  rw [e]
  exact h
@[simp] theorem State.correct_calm (h : Calm b k s) (delta : Int) : Calm b k (s.correct delta) := by
  rw [calm_iff] at h ⊢
  unfold State.correct
  split <;> exact h
@[simp] theorem State.requestTime_calm (h : Calm b k s) (hi : Word) : Calm b k (s.requestTime hi) := by
  have h1 : Calm b k (s.wr Reg.TIME_SET_HI hi) := by simp [h]
  have h2 := State.correct_calm h1 ((hi ++ (s.wr Reg.TIME_SET_HI hi).rd Reg.TIME_SET_LO) - (s.wr Reg.TIME_SET_HI hi).tm.ts).toInt
  refine Calm.of_outside ?_ (State.setF_outside _ (by simp) ..)
  rw [calm_iff] at h2 ⊢
  exact h2
@[simp] theorem State.timeFlip_calm (h : Calm b k s) (addrs : List Nat) : Calm b k (s.timeFlip addrs) := by
  unfold State.timeFlip
  split <;> simp [h]
@[simp] theorem State.flipHooks_calm (h : Calm b k s) (before : State) (addrs : List Nat) : Calm b k (s.flipHooks before addrs) := by
  simp [State.flipHooks, h]
@[simp] theorem State.timeRequested_calm (h : Calm b k s) (c : Ctx) : Calm b k (s.timeRequested c) := by
  unfold State.timeRequested
  split
  · exact h
  · split
    · simp [h]
    · exact State.requestTime_calm h _
@[simp] theorem State.flipOne_calm (h : Calm b k s) (n : Nat) : Calm b k (s.flipOne n) := by
  unfold State.flipOne
  extract_lets c undo s1 s2 s3 res s4
  have h1 : Calm b k s1 := Calm.foldl (fun t e ht => by simp [ht]) _ h
  have h2 : Calm b k s2 := State.timeRequested_calm (State.flipHooks_calm h1 _ _) _
  have h3 : Calm b k s3 := by simp [s3, h2]
  clear_value s3
  have h4 : Calm b k s4 := by
    unfold s4
    split <;> simp [h3]
  clear_value s4
  simp [h4]
@[simp] theorem State.flipFollowed_calm (h : Calm b k s) (before : State) (n : Nat) (es : List (Nat × Word)) :
    Calm b k (s.flipFollowed before n es) := by
  rw [calm_iff] at h ⊢
  unfold State.flipFollowed
  dsimp only
  split <;> exact h
@[simp] theorem State.txnFlip_calm (h : Calm b k s) : Calm b k s.txnFlip := by
  unfold State.txnFlip
  extract_lets s1
  have h1 : Calm b k s1 := Calm.of_outside h (by simp [s1])
  clear_value s1
  split
  rename_i s2 ns e
  have h2 : Calm b k s2 := Calm.of_fst (Calm.of_outside h1 (State.settle_outside _ (by simp) _)) e
  exact Calm.foldl (fun t n ht => State.flipFollowed_calm (State.flipOne_calm ht n) ..) _ h2
@[simp] theorem State.rollBack_calm (h : Calm b k s) (n reason : Nat) : Calm b k (s.rollBack n reason) := by
  have h1 : Calm b k ((s.context n).undo.foldl (fun st e => st.applyEntry (s.context n).path e) s) :=
    Calm.foldl (fun t e ht => by simp [ht]) _ h
  have h2 := State.flipHooks_calm h1 s ((s.context n).undo.map (·.1))
  unfold State.rollBack
  simp [h2]
@[simp] theorem State.trialBoundary_calm (h : Calm b k s) (n : Nat) : Calm b k (s.trialBoundary n) := by
  simp only [State.trialBoundary]
  (repeat' split) <;> simp [h]
@[simp] theorem State.txnBoundary_calm (h : Calm b k s) : Calm b k s.txnBoundary := by
  exact State.txnFlip_calm (Calm.foldl (fun t n ht => State.trialBoundary_calm ht n) _ h)
@[simp] theorem State.writesLost_calm (h : Calm b k s) : Calm b k s.writesLost := by
  have h1 : Calm b k (s.tm.accepted.foldl (fun st w =>
      st.setApplied w.path w.addr ((st.applied w.path w.addr &&& ~~~w.mask) ||| (w.old &&& w.mask))) s) :=
    Calm.foldl (fun t w ht => by simp [ht]) _ h
  rw [calm_iff] at h1 ⊢
  exact ⟨h1.1, fun _ => rfl⟩
@[simp] theorem State.failoverHooks_calm (h : Calm b k s) (lost : Side) : Calm b k (s.failoverHooks lost) := by
  simp [State.failoverHooks, h]
@[simp] theorem State.failOver_calm (h : Calm b k s) (x : Side) (cause : Nat) : Calm b k (s.failOver x cause) := by
  unfold State.failOver
  extract_lets s1 _ s2 s3 s4 s5 s6
  have h1 : Calm b k s1 := Calm.of_outside h (by simp [s1])
  clear_value s1
  have h2 : Calm b k s2 := Calm.of_outside h1 (by simp [s2])
  clear_value s2
  have h5 : Calm b k s5 := Calm.of_outside h2 (by simp [s5, s4, s3])
  clear_value s5
  have h6 : Calm b k s6 := State.failoverHooks_calm (Calm.of_outside h5 (State.bump_outside _ (by simp) ..)) x
  clear_value s6
  simp [h6]
@[simp] theorem State.loseActive_calm (h : Calm b k s) (x : Side) (cause : Nat) : Calm b k (s.loseActive x cause) := by
  unfold State.loseActive
  split <;> simp [h]
@[simp] theorem State.sideFault_calm (h : Calm b k s) (x : Side) (cause : Nat) : Calm b k (s.sideFault x cause) := by
  unfold State.sideFault
  split <;> simp [h]
@[simp] theorem State.faultFlag_calm (h : Calm b k s) (x : Side) (bit : Nat) : Calm b k (s.faultFlag x bit) := by
  simp only [State.faultFlag]
  split <;> simp [h]
@[simp] theorem State.copyTaken_calm (h : Calm b k s) (x : Side) : Calm b k (s.copyTaken x) := by
  unfold State.copyTaken
  extract_lets r s1 s0 _ _ s2
  have h0 : Calm b k s0 := Calm.of_outside h (by simp [s0, s1])
  have h2 : Calm b k s2 := by
    rw [calm_iff] at h0 ⊢
    exact h0
  clear_value s2
  split <;> simp [h2]
@[simp] theorem State.keeperCopy_calm (h : Calm b k s) (sw : Option CopySeal) : Calm b k (s.keeperCopy sw) := by
  unfold State.keeperCopy
  split
  · exact h
  · extract_lets y s1 st s2 _
    have h1 : Calm b k s1 := by
      unfold s1
      split <;> simp [h]
    have h2 : Calm b k s2 := by
      unfold s2
      split
      · split
        · exact State.copyTaken_calm h1 _
        · exact Calm.of_outside h1 (State.copyMiss_outside _ (by simp) _)
      · exact h1
    split
    · exact h2
    · rw [calm_iff] at h2 ⊢
      exact h2
@[simp] theorem State.keepBoundary_calm (h : Calm b k s) (inp : BoundaryIn) : Calm b k (s.keepBoundary inp) := by
  simp [State.keepBoundary, h]
@[simp] theorem State.sideTemp_calm (h : Calm b k s) (x : Side) (t : Int) : Calm b k (s.sideTemp x t) := by
  simp only [State.sideTemp]
  (repeat' split) <;> simp [h]
@[simp] theorem State.pwrBoundary_calm (h : Calm b k s) (i : PowerIn) : Calm b k (s.pwrBoundary i) := by
  have h1 := State.sideTemp_calm (State.sideTemp_calm (Calm.of_outside h (State.showSupply_outside _ (by simp) i)) .a i.tA) .b i.tB
  unfold State.pwrBoundary
  simp [h1]
@[simp] theorem State.cycleWork_calm (h : Calm b k s) (inp : BoundaryIn) (shift : Int) : Calm b k (s.cycleWork inp shift) := by
  simp [State.cycleWork, h]
@[simp] theorem State.boundaryRest_calm (h : Calm b k s) : Calm b k s.boundaryRest := by
  unfold State.boundaryRest
  split
  · exact h
  · rename_i o _
    have h0 : Calm b k (if o.flipped then s else s.txnBoundary) := by
      split
      · exact h
      · exact State.txnBoundary_calm h
    generalize (if o.flipped = true then s else s.txnBoundary) = s0 at h0 ⊢
    have h2 := State.cycleWork_calm (s := { s0 with owed := none }) (h0.of_tm rfl) o.inp o.shift
    dsimp only
    generalize State.cycleWork { s0 with owed := none } o.inp o.shift = s2 at h2 ⊢
    split <;> simp [h2]
@[simp] theorem State.boundaryOn_calm (h : Calm b k s) : Calm b k s.boundaryOn := by
  unfold State.boundaryOn
  split
  · exact h
  · rename_i o _
    extract_lets _ s1
    have h1 : Calm b k s1 := by
      unfold s1
      split
      · exact h
      · have h2 := State.txnBoundary_calm h
        exact h2.of_tm (by dsimp only)
    clear_value s1
    split
    · exact h
    · split
      · exact h1
      · exact State.boundaryRest_calm h1

/-- What a boundary's count makes of the time, before its other effects. -/
def State.countTm (s : State) : TimePart :=
  { s.tm with
    cycleStart := s.tm.mono, cycleFix := s.phaseFix, cycleN := if s.mode = 2 ∧ s.tm.inRun = false then 0 else s.tm.cycleN + 1
    realign := s.tm.realign && !decide (s.phaseCounts.natAbs ≤ Config.fclk), inRun := decide (s.mode = 2) }

theorem State.countCycle_tm (s : State) : s.countCycle.tm = s.countTm := by
  unfold State.countCycle
  extract_lets _ _ s1 s2 s3
  have h1 : s1.tm = s.countTm := rfl
  have h3 : s3.tm = s1.tm := State.tm_of_outside (by simp [s3, s2])
  clear_value s1
  split
  · exact h1
  · split
    · exact h1
    · refine Eq.trans ?_ (h3.trans h1)
      exact State.tm_of_outside (by simp)

theorem State.deferredWrites_calm (h : Calm false k s) : Calm true k s.deferredWrites := by
  have h1 : Calm false k (s.tm.deferred.foldl (fun st d =>
      (st.wr d.addr ((st.rd d.addr &&& ~~~d.mask) ||| (d.value &&& d.mask))).notePersist d.addr d.value) s) :=
    Calm.foldl (fun t e ht => by simp [ht]) _ h
  rw [calm_iff] at h1 ⊢
  exact ⟨h1.1, fun _ => rfl⟩

/-- A boundary starts the cycle at this instant, numbers it next within RUN, and leaves no plain write waiting. -/
theorem State.boundary_tm (inp : BoundaryIn) : (s.boundary inp).tm.cycleStart = s.tm.mono ∧ (s.boundary inp).tm.mono = s.tm.mono
    ∧ (s.boundary inp).tm.deferred = [] ∧ (s.tm.inRun = true → (s.boundary inp).tm.cycleN = s.tm.cycleN + 1) := by
  unfold State.boundary
  extract_lets s0 es s1
  have h0 : Calm false s.tm.clock s := calm_iff.mpr ⟨rfl, by simp⟩
  have h1 : Calm false s.tm.clock (((s0.memTurns inp.mem).cycleEnds.flushEvents.serviceFrees).csmsEvents es) :=
    Calm.of_outside (State.boundaryRest_calm h0) (by simp [s0])
  obtain ⟨u, hu⟩ : ∃ u, u = ((s0.memTurns inp.mem).cycleEnds.flushEvents.serviceFrees).csmsEvents es := ⟨_, rfl⟩
  rw [← hu] at h1
  have h2 : Calm true u.countTm.clock s1 := by
    simp only [s1, ← hu]
    exact State.deferredWrites_calm (Calm.of_outside (calm_iff.mpr ⟨by rw [State.countCycle_tm], by simp⟩)
      (State.showTime_outside _ (by simp)))
  have h3 := State.boundaryOn_calm (h2.of_tm (t := { s1 with owed := some ⟨inp, s0.cycleShift, false⟩ }) rfl)
  rw [calm_iff] at h1 h3
  obtain ⟨hc, hd⟩ := h3
  obtain ⟨hu, -⟩ := h1
  simp only [TimePart.clock, Prod.mk.injEq, State.countTm] at hc hu
  obtain ⟨hmono, hstart, hn, -⟩ := hc
  obtain ⟨umono, -, un, urun⟩ := hu
  refine ⟨hstart.trans umono, hmono.trans umono, hd rfl, fun hr => ?_⟩
  rw [hn, urun, un]
  simp [hr]
end

end

end Sys2Proof.Machine

namespace Sys2Proof.Machine

open Sys2Proof

section

set_option Elab.async false

/-! ### Fast channels, queue stalls, memory tags and the event queue -/

section
variable (s : State)

theorem fastReg_not_mem_tripRegs {a : Nat} (h : 0x160000 ≤ a) (h' : a < 0x170000) : a ∉ tripRegs := by
  simp only [not_mem_tripRegs, Reg.QSET_FIRST_TS_LO, Reg.QSET_FIRST_TS_HI, Reg.QSET_STAT, Reg.QSET_COUNT, Reg.EDGE_STAT, Reg.QSET_LATCH,
    Reg.QSET_ACTIVE, Reg.EDGE_PSTAT]
  and_intros <;> intros <;> omega

theorem State.fldS_congr {s t : State} {a : Nat} {f : Field} (h : t.fld a f = s.fld a f) : t.fldS a f = s.fldS a f := by
  simp only [State.fldS, fgetS, State.fld] at h ⊢
  rw [h]

theorem State.fldS_of_rd {s t : State} {a : Nat} {f : Field} (h : t.rd a = s.rd a) : t.fldS a f = s.fldS a f := by
  rw [State.fldS, h, State.fldS]

@[simp] theorem State.rd_postLimited (code inst cause count key : Nat) (only : Option Side) (a : Nat) :
    (s.postLimited code inst cause count key only).rd a = s.rd a := State.rd_of_outside (by simp) a

@[simp] theorem State.rd_deliverFast (ch : Nat) (c : Int) (a : Nat) : (s.deliverFast ch c).rd a = s.rd a := State.rd_of_outside (by simp) a

theorem State.rd_comparator (ch : Nat) (c : Int) (a : Nat) (hc : ch < 32) (hs : a ≠ Reg.FAST_STAT) (h : a ∉ tripRegs) :
    (s.comparator ch c).rd a = s.rd a := by
  rw [State.comparator, State.rd_qsetSource _ _ _ _ (by omega) h, State.rd_setBit _ _ _ _ _ hs]

theorem State.bit_comparator (ch : Nat) (c : Int) (hc : ch < 32) : (s.comparator ch c).bit Reg.FAST_STAT ch =
    windowOut (s.bit Reg.FAST_STAT ch) (s.fldS (Reg.FAST_WIN ch) Fld.FAST_WIN_LO) (s.fldS (Reg.FAST_WIN ch) Fld.FAST_WIN_HI)
      (s.fld (Reg.FAST_CFG ch) Fld.FAST_CFG_HYST) c := by
  rw [State.comparator, State.bit, State.rd_qsetSource _ _ _ _ (by omega) (fastReg_not_mem_tripRegs (by decide) (by decide))]
  simp only [State.setBit, State.rd_setF_same]
  rw [fset_bit _ _ _ _ hc, if_pos (by simp)]
  simp only [State.fldS, State.fld, flag]
  cases windowOut (s.bit Reg.FAST_STAT ch) (fgetS Fld.FAST_WIN_LO (s.rd (Reg.FAST_WIN ch))) (fgetS Fld.FAST_WIN_HI (s.rd (Reg.FAST_WIN ch)))
    (fget Fld.FAST_CFG_HYST (s.rd (Reg.FAST_CFG ch))) c <;> simp
end

section
variable (s : State)

/-- A sample is shown and widens the peaks, before it is judged and delivered (R234, FAST_VAL, FAST_PEAK). -/
def State.fastShown (n : Nat) (c : Int) : State :=
  let s2 := s.setFS (Reg.FAST_VAL n) Fld.FAST_VAL_SAMPLE c
  let pk := s2.rd (Reg.FAST_PEAK n)
  let s3 := if fgetS Fld.FAST_PEAK_MAX pk < c then s2.setFS (Reg.FAST_PEAK n) Fld.FAST_PEAK_MAX c else s2
  if c < fgetS Fld.FAST_PEAK_MIN pk then s3.setFS (Reg.FAST_PEAK n) Fld.FAST_PEAK_MIN c else s3

/-- A sample at the end of its range counts as clipped (FAST_VAL). -/
def State.fastClipped (n : Nat) (c : Int) : State :=
  if c = -32768 ∨ c = 32767 then
    (s.bump (Reg.FAST_VAL n) Fld.FAST_VAL_CLIPS).postLimited Ev.FAST_CLIP n 0 (s.fld (Reg.FAST_VAL n) Fld.FAST_VAL_CLIPS + 1)
  else s

theorem exec_fastSense {dt ch : Nat} (code : Int) (hch : ch < 32) (hu : s.fld (Reg.FAST_CFG ch) Fld.FAST_CFG_USED ≠ 0) :
    exec (.fastSenseSample dt ch code) s = .next (((((s.tick dt).fastShown ch (clampInt (-32768) 32767 code)).fastClipped ch
      (clampInt (-32768) 32767 code)).comparator ch (clampInt (-32768) 32767 code)).deliverFast ch (clampInt (-32768) 32767 code)) := by
  have hu' : fget Fld.FAST_CFG_USED (s.rd (Reg.FAST_CFG ch)) ≠ 0 := hu
  have hn : ch % 32 = ch := Nat.mod_eq_of_lt hch
  simp only [exec, execFastSenseSample, State.fastShown, State.fastClipped]
  rw [hn, State.rd_tick, if_neg hu']

theorem fget_fset_fastMin (w : Word) (v : Nat) : fget Fld.FAST_PEAK_MIN (fset Fld.FAST_PEAK_MAX w v) = fget Fld.FAST_PEAK_MIN w :=
  fget_fset_other _ _ _ _ (by decide) (by decide)
end

section
variable (s : State)

theorem State.rd_setFS_other (a b : Nat) (f : Field) (v : Int) (h : b ≠ a) : (s.setFS a f v).rd b = s.rd b := by
  rw [State.setFS, State.rd_setF, if_neg h]

/-- A signed field keeps its value where a field apart from it is set. -/
theorem State.fldS_setF_field (a : Nat) (f g : Field) (v : Nat) (hg : g.lo + g.width ≤ 32)
    (h : g.lo + g.width ≤ f.lo ∨ f.lo + f.width ≤ g.lo) : (s.setF a f v).fldS a g = s.fldS a g :=
  State.fldS_congr (s.fld_setF_field _ _ _ _ hg h)

/-- A sample of 16 bits, set in a signed field of 16 bits of any register, reads back. -/
theorem State.fldS_setFS_sample {a lo : Nat} {c : Int} (hlo : lo + 16 ≤ 32) (h : -32768 ≤ c ∧ c ≤ 32767) :
    (s.setFS a ⟨lo, 16⟩ c).fldS a ⟨lo, 16⟩ = c :=
  State.fldS_setFS_same _ _ _ _ hlo (Nat.zero_lt_succ _) h.1 (Int.lt_add_one_of_le h.2)

theorem State.rd_fastShown_other (n : Nat) (c : Int) {a : Nat} (hv : a ≠ Reg.FAST_VAL n) (hp : a ≠ Reg.FAST_PEAK n) :
    (s.fastShown n c).rd a = s.rd a := by
  simp only [State.fastShown]
  split <;> split <;> simp only [State.rd_setFS_other _ _ _ _ _ hp, State.rd_setFS_other _ _ _ _ _ hv]

theorem fastVal_ne_fastPeak (n : Nat) : Reg.FAST_VAL n ≠ Reg.FAST_PEAK n := by simp only [Reg.FAST_VAL, Reg.FAST_PEAK]; omega

theorem State.sample_fastShown (n : Nat) {c : Int} (h : -32768 ≤ c ∧ c ≤ 32767) :
    (s.fastShown n c).fldS (Reg.FAST_VAL n) Fld.FAST_VAL_SAMPLE = c := by
  have hn : ∀ (t : State) (f : Field), (t.setFS (Reg.FAST_PEAK n) f c).fldS (Reg.FAST_VAL n) Fld.FAST_VAL_SAMPLE
      = t.fldS (Reg.FAST_VAL n) Fld.FAST_VAL_SAMPLE := fun t f => State.fldS_of_rd (t.rd_setFS_other _ _ _ _ (fastVal_ne_fastPeak n))
  have hs := s.fldS_setFS_sample (a := Reg.FAST_VAL n) (lo := Fld.FAST_VAL_SAMPLE.lo) (by decide) h
  simp only [State.fastShown]
  split <;> split
  · exact (hn _ _).trans ((hn _ _).trans hs)
  · exact (hn _ _).trans hs
  · exact (hn _ _).trans hs
  · exact hs

theorem State.fldS_setFS_fastVal (n : Nat) (c : Int) (f : Field) :
    (s.setFS (Reg.FAST_VAL n) Fld.FAST_VAL_SAMPLE c).fldS (Reg.FAST_PEAK n) f = s.fldS (Reg.FAST_PEAK n) f :=
  State.fldS_of_rd (s.rd_setFS_other _ _ _ _ (fastVal_ne_fastPeak n).symm)

theorem State.max_fastShown (n : Nat) {c : Int} (h : -32768 ≤ c ∧ c ≤ 32767) :
    (s.fastShown n c).fldS (Reg.FAST_PEAK n) Fld.FAST_PEAK_MAX = max (s.fldS (Reg.FAST_PEAK n) Fld.FAST_PEAK_MAX) c := by
  have hm (t : State) : (t.setFS (Reg.FAST_PEAK n) Fld.FAST_PEAK_MIN c).fldS (Reg.FAST_PEAK n) Fld.FAST_PEAK_MAX
      = t.fldS (Reg.FAST_PEAK n) Fld.FAST_PEAK_MAX := t.fldS_setF_field _ _ _ _ (by decide) (by decide)
  have hs (t : State) : (t.setFS (Reg.FAST_PEAK n) Fld.FAST_PEAK_MAX c).fldS (Reg.FAST_PEAK n) Fld.FAST_PEAK_MAX = c :=
    t.fldS_setFS_sample (by decide) h
  simp only [State.fastShown, ← State.fldS.eq_def, s.fldS_setFS_fastVal]
  split <;> split
  · rw [hm, hs]; omega
  · rw [hm, s.fldS_setFS_fastVal]; omega
  · rw [hs]; omega
  · rw [s.fldS_setFS_fastVal]; omega

theorem State.min_fastShown (n : Nat) {c : Int} (h : -32768 ≤ c ∧ c ≤ 32767) :
    (s.fastShown n c).fldS (Reg.FAST_PEAK n) Fld.FAST_PEAK_MIN = min (s.fldS (Reg.FAST_PEAK n) Fld.FAST_PEAK_MIN) c := by
  have hm (t : State) : (t.setFS (Reg.FAST_PEAK n) Fld.FAST_PEAK_MAX c).fldS (Reg.FAST_PEAK n) Fld.FAST_PEAK_MIN
      = t.fldS (Reg.FAST_PEAK n) Fld.FAST_PEAK_MIN := t.fldS_setF_field _ _ _ _ (by decide) (by decide)
  have hs (t : State) : (t.setFS (Reg.FAST_PEAK n) Fld.FAST_PEAK_MIN c).fldS (Reg.FAST_PEAK n) Fld.FAST_PEAK_MIN = c :=
    t.fldS_setFS_sample (by decide) h
  simp only [State.fastShown, ← State.fldS.eq_def, s.fldS_setFS_fastVal]
  split <;> split
  · rw [hs]; omega
  · rw [hs]; omega
  · rw [hm, s.fldS_setFS_fastVal]; omega
  · rw [s.fldS_setFS_fastVal]; omega

theorem State.rd_fastClipped_other (n : Nat) (c : Int) {a : Nat} (hv : a ≠ Reg.FAST_VAL n) : (s.fastClipped n c).rd a = s.rd a := by
  rw [State.fastClipped]
  split
  · rw [State.rd_postLimited]
    exact s.rd_setF_other _ _ _ _ hv.symm
  · rfl

theorem State.sample_fastClipped (n : Nat) (c : Int) :
    (s.fastClipped n c).fldS (Reg.FAST_VAL n) Fld.FAST_VAL_SAMPLE = s.fldS (Reg.FAST_VAL n) Fld.FAST_VAL_SAMPLE := by
  rw [State.fastClipped]
  split
  · rw [State.fldS_of_rd (State.rd_postLimited ..)]
    exact s.fldS_setF_field _ _ _ _ (by decide) (by decide)
  · rfl
end

section
variable {t u : State}

theorem State.eq_fastSense (h : t.outside [.regs, .queues, .ev, .ctx, .loop, .edge, .qset, .ring, .recent, .free]
      = u.outside [.regs, .queues, .ev, .ctx, .loop, .edge, .qset, .ring, .recent, .free]) :
    t = { u with regs := t.regs, queues := t.queues, ev := t.ev, ctx := t.ctx, loop := t.loop, edge := t.edge, qset := t.qset, ring := t.ring,
                 recent := t.recent, free := t.free } := State.eq_patch h

theorem State.eq_queues_ev (h : t.outside [.queues, .ev] = u.outside [.queues, .ev]) : t = { u with queues := t.queues, ev := t.ev } :=
  State.eq_patch h

theorem State.eq_ev_host (h : t.outside [.ev, .host] = u.outside [.ev, .host]) : t = { u with ev := t.ev, host := t.host } :=
  State.eq_patch h

theorem State.eq_regs_ev (h : t.outside [.regs, .ev] = u.outside [.regs, .ev]) : t = { u with regs := t.regs, ev := t.ev } :=
  State.eq_patch h

theorem State.eq_boundary (h : t.outside [.regs, .pregs, .tm, .queues, .ev, .img, .ctx, .keep, .host, .loop, .edge, .qset, .ring, .sst, .outs,
      .aloc, .cool, .outl, .safe, .metr, .bill, .acq, .can, .lsw, .mem, .sup, .bytes, .recent, .owed, .free]
      = u.outside [.regs, .pregs, .tm, .queues, .ev, .img, .ctx, .keep, .host, .loop, .edge, .qset, .ring, .sst, .outs,
      .aloc, .cool, .outl, .safe, .metr, .bill, .acq, .can, .lsw, .mem, .sup, .bytes, .recent, .owed, .free]) :
    t = { u with
      regs := t.regs, pregs := t.pregs, tm := t.tm, queues := t.queues, ev := t.ev, img := t.img, ctx := t.ctx, keep := t.keep, host := t.host
      loop := t.loop, edge := t.edge, qset := t.qset, ring := t.ring, sst := t.sst, outs := t.outs, aloc := t.aloc, cool := t.cool
      outl := t.outl, safe := t.safe, metr := t.metr, bill := t.bill, acq := t.acq, can := t.can, lsw := t.lsw, mem := t.mem, sup := t.sup
      bytes := t.bytes, recent := t.recent, owed := t.owed, free := t.free } := State.eq_patch h
end

section
variable (s : State)

@[simp] theorem State.fastShown_outside {ps : List StatePart} (hp : [.regs] ⊆ ps) (n : Nat) (c : Int) :
    (s.fastShown n c).outside ps = s.outside ps := by
  simp at hp; simp only [State.fastShown]; split <;> split <;> simp [hp]

@[simp] theorem State.fastClipped_outside {ps : List StatePart} (hp : [.regs, .ev, .recent] ⊆ ps) (n : Nat) (c : Int) :
    (s.fastClipped n c).outside ps = s.outside ps := by
  simp at hp; rw [State.fastClipped]; split <;> simp [hp]

theorem fastSense_row (dt ch : Nat) (code : Int) (hch : ch < 32) (hu : s.fld (Reg.FAST_CFG ch) Fld.FAST_CFG_USED ≠ 0) :
    Does (.fastSenseSample dt ch code) s fun t =>
      t.fldS (Reg.FAST_VAL ch) Fld.FAST_VAL_SAMPLE = clampInt (-32768) 32767 code
      ∧ t.fldS (Reg.FAST_PEAK ch) Fld.FAST_PEAK_MAX = max (s.fldS (Reg.FAST_PEAK ch) Fld.FAST_PEAK_MAX) (clampInt (-32768) 32767 code)
      ∧ t.fldS (Reg.FAST_PEAK ch) Fld.FAST_PEAK_MIN = min (s.fldS (Reg.FAST_PEAK ch) Fld.FAST_PEAK_MIN) (clampInt (-32768) 32767 code)
      ∧ t.bit Reg.FAST_STAT ch = windowOut (s.bit Reg.FAST_STAT ch) (s.fldS (Reg.FAST_WIN ch) Fld.FAST_WIN_LO)
          (s.fldS (Reg.FAST_WIN ch) Fld.FAST_WIN_HI) (s.fld (Reg.FAST_CFG ch) Fld.FAST_CFG_HYST) (clampInt (-32768) 32767 code)
      ∧ RegsBut (Reg.FAST_VAL ch :: Reg.FAST_PEAK ch :: Reg.FAST_STAT :: tripRegs) s t
      ∧ t = { s.tick dt with
            regs := t.regs, queues := t.queues, ev := t.ev, ctx := t.ctx, loop := t.loop, edge := t.edge
            qset := t.qset, ring := t.ring, recent := t.recent, free := t.free } := by
  refine Does.of_eq (exec_fastSense s code hch hu) fun t ht => ?_
  have hc := clampInt_bounds (-32768) 32767 code (by decide)
  generalize clampInt (-32768) 32767 code = c at ht hc ⊢
  have hcmp (a : Nat) (hs : a ≠ Reg.FAST_STAT) (h : a ∉ tripRegs) :
      t.rd a = (((s.tick dt).fastShown ch c).fastClipped ch c).rd a := by
    rw [ht, State.rd_deliverFast, State.rd_comparator _ _ _ _ hch hs h]
  have hkeep (a : Nat) (hs : a ≠ Reg.FAST_STAT) (h : a ∉ tripRegs) (hv : a ≠ Reg.FAST_VAL ch) :
      t.rd a = ((s.tick dt).fastShown ch c).rd a := by
    rw [hcmp a hs h, State.rd_fastClipped_other _ _ _ hv]
  have hval : Reg.FAST_VAL ch ≠ Reg.FAST_STAT := by simp only [Reg.FAST_VAL, Reg.FAST_STAT]; omega
  have hpeak : Reg.FAST_PEAK ch ≠ Reg.FAST_STAT := by simp only [Reg.FAST_PEAK, Reg.FAST_STAT]; omega
  have hvalTrip : Reg.FAST_VAL ch ∉ tripRegs :=
    fastReg_not_mem_tripRegs (by simp only [Reg.FAST_VAL]; omega) (by simp only [Reg.FAST_VAL]; omega)
  have hpeakTrip : Reg.FAST_PEAK ch ∉ tripRegs :=
    fastReg_not_mem_tripRegs (by simp only [Reg.FAST_PEAK]; omega) (by simp only [Reg.FAST_PEAK]; omega)
  have hpk := hkeep _ hpeak hpeakTrip (fastVal_ne_fastPeak ch).symm
  have hshown (a : Nat) (hv : a ≠ Reg.FAST_VAL ch) (hp : a ≠ Reg.FAST_PEAK ch) :
      (((s.tick dt).fastShown ch c).fastClipped ch c).rd a = s.rd a := by
    rw [State.rd_fastClipped_other _ _ _ hv, State.rd_fastShown_other _ _ _ hv hp, State.rd_tick]
  refine ⟨?_, ?_, ?_, ?_, fun a ha => ?_, State.eq_fastSense ?_⟩
  · rw [State.fldS_of_rd (hcmp _ hval hvalTrip), State.sample_fastClipped, State.sample_fastShown _ _ hc]
  · rw [State.fldS_of_rd hpk, State.max_fastShown _ _ hc, State.fldS_tick]
  · rw [State.fldS_of_rd hpk, State.min_fastShown _ _ hc, State.fldS_tick]
  · have hd : t.bit Reg.FAST_STAT ch = ((((s.tick dt).fastShown ch c).fastClipped ch c).comparator ch c).bit Reg.FAST_STAT ch := by
      rw [ht, State.bit, State.rd_deliverFast, State.bit]
    rw [hd, State.bit_comparator _ _ _ hch]
    simp only [State.bit, State.fldS, State.fld]
    rw [hshown Reg.FAST_STAT hval.symm hpeak.symm,
      hshown (Reg.FAST_WIN ch) (by simp only [Reg.FAST_WIN, Reg.FAST_VAL]; omega) (by simp only [Reg.FAST_WIN, Reg.FAST_PEAK]; omega),
      hshown (Reg.FAST_CFG ch) (by simp only [Reg.FAST_CFG, Reg.FAST_VAL]; omega) (by simp only [Reg.FAST_CFG, Reg.FAST_PEAK]; omega)]
  · simp only [List.mem_cons, not_or] at ha
    obtain ⟨hv, hp, hs, htrip⟩ := ha
    rw [hkeep a hs htrip hv, State.rd_fastShown_other _ _ _ hv hp, State.rd_tick]
  · rw [ht]; simp [-State.tick_tags]
end
section
variable (s : State)

theorem State.stall_setStall (x : Side) (q : Nat) (c : Option Count) : ((s.setStall x q c).queue x q).stall = c := by
  simp only [State.setStall]
  split
  · assumption
  · rw [State.queue_setQueue_same]

theorem queueStall_row (dt : Nat) (x : Side) (q : Nat) (c : Count) (hk : (queueSpec q).1 = 0) (hq : q ≠ 126)
    (hs : (s.queue x q).stall = some c) (ht : 4 * s.tc ≤ (s.tick dt).since c) (hn : (s.queue x q).stalled = false) :
    Does (.queueStallTimeout dt x q) s fun t =>
      t.queue x q = { s.queue x q with stalled := true }
      ∧ Posted Ev.QUEUE_STALL (evArg q 0 0) (s.tick dt) t
      ∧ t = { s.tick dt with queues := t.queues, ev := t.ev } := by
  have hs' : ((s.tick dt).queue x q).stall = some c := hs
  have ht' : 4 * (s.tick dt).tc ≤ (s.tick dt).since c := ht
  have hn' : ((s.tick dt).queue x q).stalled = false := hn
  refine Does.of_answer fun t ht => ?_
  simp only [exec, execQueueStallTimeout, hs', if_pos (And.intro hk (And.intro hq (And.intro ht' hn'))), Host.Outcome.next.injEq] at ht
  refine ⟨?_, ?_, State.eq_queues_ev ?_⟩
  · rw [← ht]
    refine ((s.tick dt).queue_setQueue_same x q _).trans ?_
    rw [← hs']; rfl
  · rw [← ht]
    exact (posted_postArg Ev.QUEUE_STALL (evArg q 0 0) _).congr rfl rfl rfl
  · rw [← ht]; simp [-State.tick_tags]

/-- A pool of tags in which one requester waits serves it where its class can draw a tag, and leaves it waiting else (R38, R39). -/
theorem TagPool.winner_alone (p : TagPool) (c i : Nat) (now : Count) (hc : c < 3) (hw : p.waits = [⟨c, i, now⟩]) :
    p.winner = if p.canGrant c = true then some (c, i, 1) else none := by
  have hp (j : Nat) : rotatePick j [i] = some i := by
    simp only [rotatePick]
    by_cases h : j ≤ i <;> simp [h]
  have hn (j : Nat) : rotatePick j [] = none := rfl
  simp only [TagPool.winner, hw]
  by_cases h : p.canGrant c = true <;> interval_cases c <;> simp [hp, hn, h, List.findSome?]

/-- A pool of tags is kept for a side, with its fill and its stall shown as those of queue 132 (R38). -/
def State.setTags (x : Side) (p : TagPool) : State :=
  let u := { s with tags := SMap.put (fun _ => TagPool.reset) s.tags x.code p }
  (u.setQueue x 132 { u.queue x 132 with high := max (u.queue x 132).high p.used }).setStall x 132 (p.oldest u.tm.mono)

theorem State.tags_setTags (x : Side) (p : TagPool) : SMap.get (fun _ => TagPool.reset) (s.setTags x p).tags x.code = p := by
  have h : (s.setTags x p).tags = SMap.put (fun _ => TagPool.reset) s.tags x.code p := by
    simp only [State.setTags, State.setStall]; split <;> rfl
  rw [h, SMap.get_put_same]

theorem State.stall_setTags (x : Side) (p : TagPool) : ((s.setTags x p).queue x 132).stall = p.oldest s.tm.mono :=
  State.stall_setStall _ _ _ _

theorem State.setTags_eq (x : Side) (p : TagPool) :
    s.setTags x p = { s with tags := (s.setTags x p).tags, queues := (s.setTags x p).queues } := by
  simp only [State.setTags, State.setStall]; split <;> rfl

/-- The pool after the requests of one period and the grant to the requester whose turn it is (R38, R39). -/
def TagPool.served (p : TagPool) (done : List Nat) (asks : List (Nat × Nat)) (now : Count) : TagPool :=
  let q := { p with back := p.back ++ done }.ask asks now
  match q.winner with
  | none => q
  | some (c, i, n) => q.grant c i n

theorem exec_dramTag (dt : Nat) (x : Side) (done : List Nat) (asks : List (Nat × Nat)) :
    exec (.dramTagGrant dt x done asks) s = .next ((s.tick dt).setTags x
      (((SMap.get (fun _ => TagPool.reset) s.tags x.code).settle (s.tick dt).period).served done asks (s.tick dt).tm.mono)) := (rfl)

theorem TagPool.served_alone (p : TagPool) (c i : Nat) (now : Count) (hc : c < 3) (hw : p.waits = []) :
    p.served [] [(c, i)] now = (if p.canGrant c = true then { p.alter c (· + 1) with granted := p.granted ++ [(c, i)] }
      else { p with waits := [⟨c, i, now⟩] }) := by
  have h0 : ({ p with back := p.back ++ [] } : TagPool).ask [(c, i)] now = { p with waits := [⟨c, i, now⟩] } := by simp [TagPool.ask, hw]
  have hwin := TagPool.winner_alone { p with waits := [⟨c, i, now⟩] } c i now hc rfl
  have hcan : ({ p with waits := [⟨c, i, now⟩] } : TagPool).canGrant c = p.canGrant c := rfl
  simp only [TagPool.served, h0, hwin, hcan]
  by_cases h : p.canGrant c = true
  · simp only [if_pos h, TagPool.grant, TagPool.alter, if_neg (Nat.lt_irrefl 1)]
    split_ifs <;> simp [hw]
  · simp only [if_neg h]

theorem TagPool.oldest_served_alone (p : TagPool) (c i : Nat) (now : Count) (hw : p.waits = []) :
    (if p.canGrant c = true then { p.alter c (· + 1) with granted := p.granted ++ [(c, i)] }
      else { p with waits := [⟨c, i, now⟩] } : TagPool).oldest now = (if p.canGrant c = true then none else some now) := by
  by_cases h : p.canGrant c = true
  · simp only [if_pos h, TagPool.oldest, TagPool.alter]
    split_ifs <;> simp [hw]
  · simp [if_neg h, TagPool.oldest]

theorem dramTag_row (dt : Nat) (x : Side) (c i : Nat) (p : TagPool) (hc : c < 3)
    (hp : p = (SMap.get (fun _ => TagPool.reset) s.tags x.code).settle (s.tick dt).period) (hw : p.waits = []) :
    Does (.dramTagGrant dt x [] [(c, i)]) s fun t =>
      SMap.get (fun _ => TagPool.reset) t.tags x.code =
        (if p.canGrant c = true then { p.alter c (· + 1) with granted := p.granted ++ [(c, i)] }
          else { p with waits := [⟨c, i, (s.tick dt).tm.mono⟩] })
      ∧ (t.queue x 132).stall = (if p.canGrant c = true then none else some (s.tick dt).tm.mono)
      ∧ t = { s.tick dt with tags := t.tags, queues := t.queues } := by
  refine Does.of_eq (exec_dramTag s dt x [] [(c, i)]) fun t ht => ?_
  rw [← hp, TagPool.served_alone p c i _ hc hw] at ht
  refine ⟨?_, ?_, ?_⟩
  · rw [ht, State.tags_setTags]
  · rw [ht, State.stall_setTags, TagPool.oldest_served_alone p c i _ hw]
  · rw [ht]; exact State.setTags_eq _ _ _
end

/-- The event queue's window stands in no unit that a variant lacks. -/
theorem absentUnit_evqEnt (v : Nat) : absentUnit v Reg.SYS_EVQ_ENT_0 = false := by
  simp [absentUnit, inAbsent, Reg.SYS_EVQ_ENT_0]

section
variable (s : State)

theorem State.regValue_evqEnt (p : Path) : s.regValue p Reg.SYS_EVQ_ENT_0 = snapWord (s.snap p) 0 := by
  have h : slotReg Reg.SYS_EVQ_ENT_0 = false := by decide
  simp only [State.regValue, h]
  rfl

theorem evqSnapshot_row (dt : Nat) (acc : Access) (h : s.answers acc.path Reg.SYS_EVQ_ENT_0 = true) :
    Does (.evqSnapshot dt acc) s fun t =>
      (t.snap acc.path).entry = (s.evq s.serving).head? ∧ t.host.reply = [snapWord (t.snap acc.path) 0]
      ∧ t.ev.queue = s.ev.queue ∧ t = { s.tick dt with ev := t.ev, host := t.host } := by
  have ha : (s.tick dt).answers acc.path Reg.SYS_EVQ_ENT_0 = true := h
  have hp : (s.tick dt).absentHere acc.path Reg.SYS_EVQ_ENT_0 = false := by
    have hq : ¬((Reg.SYS_EVQ_ENT_0 = Reg.TIME_QUEUE_STAT ∨ Reg.SYS_EVQ_ENT_0 = Reg.TIME_QUEUE_LOST)
        ∨ Reg.SYS_EVQ_ENT_0 = Reg.TIME_QUEUE_CLR) := by decide
    simp [State.absentHere, absentUnit_evqEnt, hq]
  obtain ⟨r, hr⟩ : ∃ r, findReg Reg.SYS_EVQ_ENT_0 = some r := Option.isSome_iff_exists.mp (by decide)
  have ho : outOfMap Reg.SYS_EVQ_ENT_0 = false := by decide
  have hw : windowOf Reg.SYS_EVQ_ENT_0 = none := by decide
  refine Does.of_answer fun t ht => ?_
  simp only [exec, execEvqSnapshot, State.busAccess, State.busRead, ha, ho, hp, hw, hr, State.readReg, Bool.not_true, Bool.false_eq_true,
    if_false, if_true, State.regValue_evqEnt, Host.Outcome.next.injEq] at ht
  refine ⟨?_, ?_, ?_, State.eq_ev_host ?_⟩
  · rw [← ht]; simp [State.snap, State.takeSnap, State.answer]; rfl
  · rw [← ht]; rfl
  · rw [← ht]; rfl
  · rw [← ht]; simp [-State.tick_tags]

theorem evqPop_row (dt : Nat) (acc : Access) (val : Word) (h : Admitted s acc Reg.SYS_EVQ_POP .all) (hp : acc.path = .host)
    (ho : s.fld Reg.HOST_CFG Fld.HOST_CFG_EVQ_OWNER = 0) (hv : fget Fld.SYS_EVQ_POP_POP val = 1) (hs : s.snapCurrent acc.path = true) :
    Does (.evqPop dt acc val) s fun t =>
      t.evq s.serving = (s.evq s.serving).tail ∧ t.ev.posted = s.ev.posted
      ∧ t = { s.tick dt with ev := t.ev, host := t.host } := by
  have ho' : ¬(acc.path ≠ .host ∨ (s.tick dt).fld Reg.HOST_CFG Fld.HOST_CFG_EVQ_OWNER = 1) := by
    rw [State.fld_tick, ho]; simp [hp]
  have hs' : (s.tick dt).snapCurrent acc.path = true := hs
  refine Does.of_answer fun t ht => ?_
  simp only [exec, execEvqPop, State.evqPopWrite, State.command_of_admitted _ _ _ _ _ _ h, if_neg ho', if_pos (And.intro hv hs'),
    Host.Outcome.next.injEq] at ht
  refine ⟨?_, ?_, State.eq_ev_host ?_⟩
  · rw [← ht]
    have : (((s.tick dt).evFree s.serving 1).irqShow).evq s.serving = (s.evq s.serving).drop 1 := by
      simp [State.evq, State.irqShow, State.evFree]
    exact this.trans (List.drop_one ..)
  · rw [← ht]; rfl
  · rw [← ht]; simp [-State.tick_tags]
end

section
variable (s : State)

/-- One channel's peak and count of clips cleared (FAST_CLR). -/
def State.clearFast (n : Nat) : State :=
  ((s.wr (Reg.FAST_PEAK n) 0x80007FFF).clearField (Reg.FAST_VAL n) Fld.FAST_VAL_CLIPS).forget Ev.FAST_CLIP n

theorem State.rd_clearFast_other (n : Nat) {a : Nat} (hp : a ≠ Reg.FAST_PEAK n) (hv : a ≠ Reg.FAST_VAL n) :
    (s.clearFast n).rd a = s.rd a := by
  have h : (s.clearFast n).rd a = ((s.wr (Reg.FAST_PEAK n) 0x80007FFF).clearField (Reg.FAST_VAL n) Fld.FAST_VAL_CLIPS).rd a := rfl
  rw [h, State.clearField, State.rd_setF_other _ _ _ _ _ hv.symm, State.rd_wr, if_neg hp]

theorem State.peak_clearFast (n : Nat) : (s.clearFast n).rd (Reg.FAST_PEAK n) = 0x80007FFF := by
  have h : (s.clearFast n).rd (Reg.FAST_PEAK n)
      = ((s.wr (Reg.FAST_PEAK n) 0x80007FFF).clearField (Reg.FAST_VAL n) Fld.FAST_VAL_CLIPS).rd (Reg.FAST_PEAK n) := rfl
  rw [h, State.clearField, State.rd_setF_other _ _ _ _ _ (fastVal_ne_fastPeak n), State.rd_wr, if_pos rfl]

theorem State.clips_clearFast (n : Nat) :
    (s.clearFast n).fld (Reg.FAST_VAL n) Fld.FAST_VAL_CLIPS = fget Fld.FAST_VAL_CLIPS (s.counted (Reg.FAST_VAL n)) := by
  have h : (s.clearFast n).fld (Reg.FAST_VAL n) Fld.FAST_VAL_CLIPS
      = ((s.wr (Reg.FAST_PEAK n) 0x80007FFF).clearField (Reg.FAST_VAL n) Fld.FAST_VAL_CLIPS).fld (Reg.FAST_VAL n) Fld.FAST_VAL_CLIPS := rfl
  rw [h, State.clearField, State.fld_setF_same _ _ _ _ (by decide), Nat.mod_eq_of_lt (fget_lt _ _)]
  rfl

/-- After the first k channels were cleared, each of them stands cleared and no other register changed. -/
theorem State.clearFast_upTo (k : Nat) (hk : k ≤ 32) :
    (∀ n < k, ((List.range k).foldl State.clearFast s).rd (Reg.FAST_PEAK n) = 0x80007FFF
      ∧ ((List.range k).foldl State.clearFast s).fld (Reg.FAST_VAL n) Fld.FAST_VAL_CLIPS = fget Fld.FAST_VAL_CLIPS (s.counted (Reg.FAST_VAL n)))
    ∧ (∀ a, (∀ n < k, a ≠ Reg.FAST_PEAK n ∧ a ≠ Reg.FAST_VAL n) → ((List.range k).foldl State.clearFast s).rd a = s.rd a)
    ∧ ((List.range k).foldl State.clearFast s).recent = s.recent ∧ ((List.range k).foldl State.clearFast s).ev.posted = s.ev.posted := by
  induction k with
  | zero => simp
  | succ k ih =>
    obtain ⟨hclear, hother, hrecent, hposted⟩ := ih (by omega)
    rw [List.range_succ, List.foldl_append, List.foldl_cons, List.foldl_nil]
    generalize (List.range k).foldl State.clearFast s = u at hclear hother hrecent hposted ⊢
    have hcount : u.counted (Reg.FAST_VAL k) = s.counted (Reg.FAST_VAL k) := by rw [State.counted, hrecent, State.counted]
    refine ⟨fun n hn => ?_, fun a ha => ?_, hrecent, hposted⟩
    · rcases Nat.lt_succ_iff_lt_or_eq.mp hn with h | rfl
      · rw [u.rd_clearFast_other k (by simp only [Reg.FAST_PEAK]; omega) (by simp only [Reg.FAST_PEAK, Reg.FAST_VAL]; omega), State.fld,
          u.rd_clearFast_other k (by simp only [Reg.FAST_PEAK, Reg.FAST_VAL]; omega) (by simp only [Reg.FAST_VAL]; omega)]
        exact hclear n h
      · exact ⟨u.peak_clearFast n, (u.clips_clearFast n).trans (by rw [hcount])⟩
    · rw [u.rd_clearFast_other k (ha k (by omega)).1 (ha k (by omega)).2]
      exact hother a fun n hn => ha n (by omega)

@[simp] theorem State.clearFast_outside {ps : List StatePart} (hp : [.regs, .ev] ⊆ ps) (n : Nat) :
    (s.clearFast n).outside ps = s.outside ps := by simp at hp; simp [State.clearFast, hp]

theorem fastClr_row (dt : Nat) (acc : Access) (val : Word) (h : Admitted s acc Reg.FAST_CLR .op) (hv : fget Fld.FAST_CLR_CLEAR val = 1) :
    Does (.fastClr dt acc val) s fun t =>
      (∀ n < 32, t.rd (Reg.FAST_PEAK n) = 0x80007FFF ∧ t.fld (Reg.FAST_VAL n) Fld.FAST_VAL_CLIPS =
        fget Fld.FAST_VAL_CLIPS ((s.tick dt).counted (Reg.FAST_VAL n)))
      ∧ RegsBut ((List.range 32).map Reg.FAST_PEAK ++ (List.range 32).map Reg.FAST_VAL) s t
      ∧ t.ev.posted = s.ev.posted ∧ t = { s.tick dt with regs := t.regs, ev := t.ev } := by
  refine Does.of_answer fun t ht => ?_
  simp only [exec, execFastClr, State.fastClrWrite, State.command_of_admitted _ _ _ _ _ _ h, if_pos hv, Host.Outcome.next.injEq] at ht
  obtain ⟨hclear, hother, -, hposted⟩ := (s.tick dt).clearFast_upTo 32 (Nat.le_refl _)
  have he : (List.range 32).foldl State.clearFast (s.tick dt) = t := ht
  rw [he] at hclear hother hposted
  refine ⟨hclear, fun a ha => ?_, hposted, State.eq_regs_ev ?_⟩
  · rw [hother a fun n hn => ?_, State.rd_tick]
    simp only [List.mem_append, List.mem_map, List.mem_range, not_or, not_exists, not_and] at ha
    exact ⟨fun e => ha.1 n hn e.symm, fun e => ha.2 n hn e.symm⟩
  · rw [← he]; simp [-State.tick_tags]

theorem baseCycleBoundary_row (dt : Nat) (inp : BoundaryIn) (h : (s.tick dt).boundaryDue = true) :
    Does (.baseCycleBoundary dt inp) s fun t =>
      t.tm.cycleStart = (s.tick dt).tm.mono ∧ t.tm.mono = (s.tick dt).tm.mono ∧ t.tm.deferred = []
      ∧ (s.tm.inRun = true → t.tm.cycleN = s.tm.cycleN + 1)
      ∧ t = { s.tick dt with
            regs := t.regs, pregs := t.pregs, tm := t.tm, queues := t.queues, ev := t.ev, img := t.img
            ctx := t.ctx, keep := t.keep, host := t.host, loop := t.loop, edge := t.edge, qset := t.qset
            ring := t.ring, sst := t.sst, outs := t.outs, aloc := t.aloc, cool := t.cool, outl := t.outl
            safe := t.safe, metr := t.metr, bill := t.bill, acq := t.acq, can := t.can, lsw := t.lsw
            mem := t.mem, sup := t.sup, bytes := t.bytes, recent := t.recent, owed := t.owed, free := t.free } := by
  refine Does.of_answer fun t ht => ?_
  simp only [exec, execBaseCycleBoundary, if_pos h, Host.Outcome.next.injEq] at ht
  obtain ⟨hstart, hmono, hdeferred, hn⟩ := (s.tick dt).boundary_tm inp
  rw [ht] at hstart hmono hdeferred hn
  refine ⟨hstart, hmono, hdeferred, hn, State.eq_boundary ?_⟩
  rw [← ht]; simp [-State.tick_tags]
end

/-- Settles O15, row by row. -/
theorem queueAndEventRows : Obligations.QueueAndEventRows := by
  unfold Obligations.QueueAndEventRows
  refine ⟨fun s dt ch code hc hu => fastSense_row s dt ch code hc hu, fun s dt x q c _ hk hq hs ht hn => queueStall_row s dt x q c hk hq hs ht hn,
    fun s dt x c i p hc hp hw => dramTag_row s dt x c i p hc hp hw, fun s dt acc h => evqSnapshot_row s dt acc h,
    fun s dt acc val h hp ho hv hs => evqPop_row s dt acc val h hp ho hv hs, fun s dt acc val h hv => fastClr_row s dt acc val h hv,
    fun s dt inp h => baseCycleBoundary_row s dt inp h, fun s dt inp h => ?_⟩
  refine ⟨s.tick dt, ?_, rfl⟩
  simp only [exec, execBaseCycleBoundary, h, Bool.false_eq_true, if_false]

end

end Sys2Proof.Machine

namespace Sys2Proof.Machine

open Sys2Proof

section

set_option Elab.async false

/-! ### The TRIAL register of a context (R117) -/

/-- A module at work with context 2 open for an operator's session, under an image that bounds the watch window of that context to 100 ms and more. -/
def trialWindowBounded : State :=
  { State.reset with
    sup := { PowerPart.reset with phase := 4 }
    ctx := [(2, { Ctx.reset with state := .opened, path := .mgmt, session := 1, role := .operator })]
    img := { State.reset.img with tunables := [⟨Reg.IMG_TXN_TRIAL 2, 0xFFFF, 100, 0xFFFF, 100, 0⟩] } }

/-- Refutes O18, by its last clause: a WINDOW_MS of 10 keeps the register's own limit and not the bounds that the image's tunable gives it, so the
write is rejected and the register keeps its value. -/
theorem not_transactionCommandRows : ¬ Obligations.TransactionCommandRows := by
  intro h
  obtain ⟨-, -, -, -, -, -, htrial⟩ := h
  obtain ⟨t, ht, hrd, -⟩ := htrial trialWindowBounded 5 ⟨.mgmt, .operator, 1⟩ 2 10 (by decide) (by decide +kernel) (by decide +kernel)
    (by decide +kernel) (by decide +kernel)
  rw [← Host.Outcome.next.inj ht] at hrd
  exact absurd hrd (by decide +kernel)

end

end Sys2Proof.Machine

namespace Sys2Proof.Machine

open Sys2Proof

section

set_option Elab.async false

/-! ### Edge channels and the tiles that own them (R222) -/

/-- A module at work in RUN: Side A active, Side B in standby, the Keeper link trained. -/
def moduleInRun : State :=
  { State.reset.setF Reg.IMG_STAT Fld.IMG_STAT_MODE 2 with
    sup := { PowerPart.reset with phase := 4 }
    keep := { KeepPart.reset with
      sides := [(0, { SideRec.reset with state := .active }), (1, { SideRec.reset with state := .standby })], linkTrained := true } }

/-- Loop 3's tile under way on Side A, under an image whose routes give edge channel 0 to loop 5. -/
def channelOfOtherTile : State :=
  { moduleInRun.setF (Reg.LOOP_TSTAT 3) Fld.LOOP_TSTAT_USED 1 with
    loop := { LoopPart.reset with tiles := [(3, { Tile.reset with started := true })] }
    img := { moduleInRun.img with pars := [(Par.chanTile 0, 6)] } }

/-- Refutes O24, by its clause on POST: a channel that the routes give to another tile takes no word (R222), so its queue holds none. -/
theorem not_tileInputOutputRows : ¬ Obligations.TileInputOutputRows := by
  intro h
  obtain ⟨-, -, -, -, -, -, -, hpost, -⟩ := h
  obtain ⟨t, ht, hq, -⟩ := hpost channelOfOtherTile 5 .a 3 0 (.param 0) none _ _ rfl rfl (by decide +kernel)
  have hlen := congrArg List.length hq
  rw [← Host.Outcome.next.inj ht] at hlen
  exact absurd hlen (by decide +kernel)

end

end Sys2Proof.Machine

namespace Sys2Proof.Machine

open Sys2Proof

section

set_option Elab.async false

/-! ### A Quickset source that becomes active again as it is cleared (R274) -/

/-- A module at work in RUN with trip pad 3 mapped to a group, whose latch was cleared in this FCLK period. -/
def padJustCleared : State :=
  { moduleInRun.wr (Reg.QSET_MAP 3) (fset Fld.QSET_MAP_EN (fset Fld.QSET_MAP_GROUPS 0 1) 1) with
    qset := { moduleInRun.qset with cleared := [(3, moduleInRun.period)] } }

/-- Refutes O26, by its clause on a trip pad: a source that becomes active in the FCLK period of its clear keeps its latch as if it had never been
cleared, and no new trip is told. -/
theorem not_quicksetRows : ¬ Obligations.QuicksetRows := by
  intro h
  obtain ⟨hpad, -⟩ := h
  obtain ⟨t, ht, -, -, -, -, -, -, hlen, -⟩ := hpad padJustCleared 0 3 false (Config.nsec 10) (by decide) (by decide +kernel) (Nat.le_refl _)
    (by decide +kernel) (by decide +kernel)
  rw [← Host.Outcome.next.inj ht] at hlen
  exact absurd hlen (by decide +kernel)

end

end Sys2Proof.Machine

namespace Sys2Proof.Machine

open Sys2Proof

section

set_option Elab.async false

/-! ### A ring whose identities differ, on a pair of ports (R315) -/

/-- A module at work in RUN whose ports 0 and 1 serve one ring as a pair. -/
def ringOnPair : State :=
  (moduleInRun.setF (Reg.RING_PORT_STAT 0) Fld.RING_PORT_STAT_MODE 2).setF (Reg.RING_PORT_STAT 1) Fld.RING_PORT_STAT_MODE 3

/-- Refutes O29, by its clause on an IDENT that differs: on a ring that two ports serve both go to FAULT, so RING_PORT_STAT of the other port
changes with that of the port it came to. -/
theorem not_ringPortRows : ¬ Obligations.RingPortRows := by
  intro h
  obtain ⟨-, -, -, hident, -⟩ := h
  obtain ⟨t, ht, -, -, -, hregs, -⟩ := hident ringOnPair 5 0 (mkFrame 0x43 0 0 0 0 0 0 (leBytes 4 1)) (by decide) (by decide +kernel)
    (by decide +kernel) (by decide +kernel)
  have hother := hregs (Reg.RING_PORT_STAT 1) (by decide +kernel)
  rw [← Host.Outcome.next.inj ht] at hother
  exact absurd hother (by decide +kernel)

/-! ### A trip block of a source whose latch was cleared just now (R274) -/

/-- A module at work in RUN with the source of ring port 2 mapped to a group, its latch cleared in this FCLK period. -/
def portSourceJustCleared : State :=
  { moduleInRun.wr (Reg.QSET_MAP 98) (fset Fld.QSET_MAP_EN (fset Fld.QSET_MAP_GROUPS 0 1) 1) with
    qset := { moduleInRun.qset with cleared := [(98, moduleInRun.period)] } }

/-- Refutes O30, by its clause on a SET that comes to a port: a source that becomes active in the FCLK period of its clear keeps its latch as if
it had never been cleared, and no SET goes out for it. -/
theorem not_ringTripAndCommandRows : ¬ Obligations.RingTripAndCommandRows := by
  intro h
  obtain ⟨-, -, hrx, -⟩ := h
  obtain ⟨t, ht, ⟨-, -, -, hsent, -⟩, -⟩ := hrx portSourceJustCleared 0 2 (tripBlock 1 1 3 0xFF) (by decide) (by decide +kernel) (by decide +kernel)
    (by decide +kernel) (by decide +kernel) (by decide +kernel)
  rw [← Host.Outcome.next.inj ht] at hsent
  exact absurd (hsent (by decide +kernel)) (by decide +kernel)

end

end Sys2Proof.Machine

namespace Sys2Proof.Machine

open Sys2Proof

section

set_option Elab.async false

/-! ### The end of the transformer's stopping (R379) and a trial's watch on it (R150) -/

/-- A transformer that stops for a breaker failure and waits for both breakers to open, while context 0 is on a trial that watches the transformer. -/
def stoppingOnTrial : State :=
  { (moduleInRun.setF Reg.SST_CFG Fld.SST_CFG_N_PHASE 1).setF Reg.SST_RUN_STAT Fld.SST_RUN_STAT_STATE 8 with
    sst := { SstPart.reset with step := 5, lockEnd := true }
    ctx := [(0, { Ctx.reset with state := .trial, watch := 8, entries := [(Reg.SST_CFG, 0)] })] }

/-- Refutes O31, by its clause on a breaker report: the report that both breakers are open ends the stopping in LOCKOUT, which rolls back a trial
that watches the transformer, so the contexts change too. -/
theorem not_transformerLadderRows : ¬ Obligations.TransformerLadderRows := by
  intro h
  obtain ⟨-, -, -, -, hreport, -⟩ := h
  obtain ⟨t, ht, -, -, -, hframe⟩ := hreport stoppingOnTrial 5 false false (by decide +kernel)
  have hctx := congrArg State.ctx hframe
  rw [← Host.Outcome.next.inj ht] at hctx
  exact absurd hctx (by decide +kernel)

/-- The same transformer, its frequency out of the band since the start of the count. -/
def stoppingOffFrequency : State := { stoppingOnTrial with sst := { stoppingOnTrial.sst with freqAt := some 0 } }

/-- Refutes O32, by its clause on F_TMO: the end of ride-through advances the ladder, here to the end of its stopping in LOCKOUT, which rolls
back a trial that watches the transformer, so the contexts change too. -/
theorem not_transformerCellRows : ¬ Obligations.TransformerCellRows := by
  intro h
  obtain ⟨-, -, -, -, -, hfreq, -⟩ := h
  obtain ⟨t, ht, -, -, -, -, -, hframe⟩ := hfreq stoppingOffFrequency (Config.msec 30000) 0 (by decide +kernel) (by decide +kernel) rfl
    (by decide +kernel)
  have hctx := congrArg State.ctx hframe
  rw [← Host.Outcome.next.inj ht] at hctx
  exact absurd hctx (by decide +kernel)

end

end Sys2Proof.Machine

namespace Sys2Proof.Machine

open Sys2Proof

section

set_option Elab.async false

/-! ### A faulted phase restored after its fault count (R411) -/

/-- A module at work in RUN whose image lists phase 0 at outlet 0; the phase is FAULTED and ready again, with two missing samples counted. -/
def phaseReadyAgain : State :=
  { moduleInRun.setF (Reg.OUTS_PH_STAT 0) Fld.OUTS_PH_STAT_STATE 5 with
    img := { moduleInRun.img with pars := [(Par.phHome 0, 1)] }
    outs := { moduleInRun.outs with phases := [(0, { Phase.reset with ready := true, missing := 2 })] } }

/-- Refutes O33, by its clause on PHASE_RESTORE: the restored phase starts with no missing sample counted, so the part that holds the phases
changes too. -/
theorem not_outputStageRows : ¬ Obligations.OutputStageRows := by
  intro h
  obtain ⟨-, -, hrestore, -⟩ := h
  obtain ⟨t, ht, -, -, -, -, -, hframe⟩ := hrestore phaseReadyAgain 5 ⟨.service, .service, 0⟩ 0 1 (by decide +kernel) (by decide) (by decide +kernel)
    (by decide +kernel) (by decide +kernel) (by decide +kernel) (by decide)
  have houts := congrArg State.outs hframe
  rw [← Host.Outcome.next.inj ht] at houts
  exact absurd houts (by decide +kernel)

/-! ### A table of endpoints out of order, and a frame that leaves an endpoint as it was at reset -/

/-- A module at work in RUN whose table of endpoints lists endpoint 7 before endpoint 3, which is as at reset. -/
def endpointsOutOfOrder : State :=
  { moduleInRun with ring := { moduleInRun.ring with eps := [(7, { Endpoint.reset with state := 1 }), (3, Endpoint.reset)] } }

/-- Refutes O28, by its clause on SETDLY: the latch of the frame's trip groups writes endpoint 3 as it stands, at its reset value, which takes it
out of the table, and the delay puts it back in front of endpoint 7; a table written once would list it twice. -/
theorem not_endpointFrameRows : ¬ Obligations.EndpointFrameRows := by
  intro h
  obtain ⟨-, -, -, -, -, -, -, hsetdly, -⟩ := h
  obtain ⟨t, ht, hput⟩ := hsetdly endpointsOutOfOrder 5 3 false (mkFrame 4 0xFF 0 0 0 0 0 (leBytes 8 100)) (by decide +kernel) (by decide +kernel)
  have hlen := congrArg (fun u => u.ring.eps.length) hput
  rw [← Host.Outcome.next.inj ht] at hlen
  exact absurd hlen (by decide +kernel)

end

end Sys2Proof.Machine

namespace Sys2Proof.Machine

open Sys2Proof

section

set_option Elab.async false

/-! ### A cable trip of a force latch that was cleared just now (R452, R274) -/

/-- A module at work in RUN: outlet 0 has been above its cable limit since the start of the count, and the force latch of its group, mapped to the
group, was cleared in this FCLK period. -/
def hotCableJustCleared : State :=
  { moduleInRun.wr (Reg.QSET_MAP 108) (fset Fld.QSET_MAP_EN (fset Fld.QSET_MAP_GROUPS 0 1) 1) with
    tm := { moduleInRun.tm with mono := BitVec.ofNat 64 (Config.sec 2) }
    cool := { moduleInRun.cool with outlets := [(0, { Cool.reset with hotAt := some 0 })] }
    qset := { moduleInRun.qset with cleared := [(108, Config.sec 2 / Config.fclk)] } }

/-- Refutes O34, by its clause on a cable trip: a force latch that sets again in the FCLK period of its clear stays as if it had never been
cleared, and no SET goes out for it. -/
theorem not_allocationAndCoolingRows : ¬ Obligations.AllocationAndCoolingRows := by
  intro h
  obtain ⟨-, -, -, -, -, -, -, -, htrip, -⟩ := h
  obtain ⟨t, ht, -, ⟨-, -, -, hsent, -⟩, -⟩ := htrip hotCableJustCleared 0 0 (by decide) (by decide +kernel) (by decide +kernel) (by decide +kernel)
    (by decide +kernel) (by decide +kernel)
  rw [← Host.Outcome.next.inj ht] at hsent
  exact absurd (hsent (by decide +kernel)) (by decide +kernel)

/-! ### A latch that is released already (R465) -/

/-- A module at work in RUN: outlet 0, a combined outlet, is in TRANSFER with its vehicle present, and its latch reads released. -/
def latchReleasedInTransfer : State :=
  { ((moduleInRun.setF (Reg.OUTL_O_CFG 0) Fld.OUTL_O_CFG_KIND 1).setF (Reg.OUTL_O_STAT 0) Fld.OUTL_O_STAT_STATE 7).setF (Reg.OUTL_O_STAT 0)
      Fld.OUTL_O_STAT_PP 1 with
    outl := { moduleInRun.outl with outlets := [(0, { Outlet.reset with sigRaw := 1 })] } }

/-- Refutes O35, by its clause on a released latch: a latch that reads released already and is found released again is no change, and the session
goes on. -/
theorem not_sessionSignalRows : ¬ Obligations.SessionSignalRows := by
  intro h
  obtain ⟨-, -, -, hrelease, -⟩ := h
  obtain ⟨t, ht, ⟨hreason, -⟩, -⟩ := hrelease latchReleasedInTransfer 5 0 1 (by decide +kernel) (by decide +kernel) (by decide +kernel) (by decide)
  rw [← Host.Outcome.next.inj ht] at hreason
  exact absurd hreason (by decide +kernel)

/-! ### A shorted outlet on a trial's watch, its vehicle gone (R474, R150) -/

/-- A module at work in RUN: outlet 0 waits for its pre-check with open contactors and no vehicle signal, and context 0 is on a trial that watches the
outlet. -/
def precheckOnTrial : State :=
  { moduleInRun.setF (Reg.OUTL_O_STAT 0) Fld.OUTL_O_STAT_STATE 4 with
    tm := { moduleInRun.tm with mono := BitVec.ofNat 64 (Config.sec 2) }
    outl := { moduleInRun.outl with outlets := [(0, { Outlet.reset with step := 4, vZero := 1 })] }
    ctx := [(0, { Ctx.reset with state := .trial, watch := 8, outlets := [0] })] }

/-- Refutes O36, by its clause on a failed pre-check: where the contactors stand open and the vehicle has gone the end reaches FAULT at once, which
rolls back a trial that watches the outlet, so the contexts change too. -/
theorem not_sessionCheckAndCommandRows : ¬ Obligations.SessionCheckAndCommandRows := by
  intro h
  obtain ⟨-, hfail, -⟩ := h
  obtain ⟨t, ht, -, -, -, hframe⟩ := hfail precheckOnTrial 5 0 (by decide +kernel) (by decide +kernel) (by decide +kernel) (by decide +kernel)
    (by decide +kernel)
  have hctx := congrArg State.ctx hframe
  rw [← Host.Outcome.next.inj ht] at hctx
  exact absurd hctx (by decide +kernel)

/-! ### A pad of an axis while no channel runs (R495) -/

/-- Refutes O37, by its clause on a pad's read-back: while both channels are off nothing supervises the pads, and OUT_FAULT stays 0. -/
theorem not_safetyAxisRows : ¬ Obligations.SafetyAxisRows := by
  intro h
  obtain ⟨-, -, -, -, -, -, -, -, -, -, -, -, -, -, -, -, hpad, -⟩ := h
  obtain ⟨t, ht, -, hfault, -⟩ := hpad moduleInRun 5 0 (Config.msec 1) (Nat.le_refl _) (by decide +kernel)
  rw [← Host.Outcome.next.inj ht] at hfault
  exact absurd hfault (by decide +kernel)

end

end Sys2Proof.Machine

namespace Sys2Proof.Machine

open Sys2Proof

section

set_option Elab.async false

/-! ### A session that closes while both copies of the registers have failed (R556) -/

/-- A module at work in RUN whose metrology die runs, knows the time, and has had an error in both copies of its registers; outlet 0's accumulation is
open and the instant of its end has come. -/
def sessionEndAfterCopyError : State :=
  { moduleInRun with
    metr := { MetrPart.reset with on := true, timeKnown := true }
    bill := { BillPart.reset with mem := { DieMem.reset with sess := [(0, { SessAcc.reset with on := true })] }, regError := true }
    outl := { moduleInRun.outl with toMeter := [(0, false, 0)] } }

/-- Refutes O41, by its clause on the end of an accumulation: after an error in both copies every record carries INVALID, also where no channel of
the point's group is open. -/
theorem not_billingBoundaryRows : ¬ Obligations.BillingBoundaryRows := by
  intro h
  obtain ⟨-, -, -, -, -, -, -, hclose, -⟩ := h
  obtain ⟨t, ht, -, -, -, hrec, -⟩ := hclose sessionEndAfterCopyError 5 0 0 [] (by decide +kernel) (by decide) (by decide +kernel) (by decide +kernel)
    (by decide +kernel) (by decide +kernel)
  have hflags := congrArg (fun bs => bs.getD 7 0) hrec
  rw [← Host.Outcome.next.inj ht] at hflags
  exact absurd hflags (by decide +kernel)

/-! ### A start after a failed flush whose copies have both failed (R556, R576) -/

/-- A module at work in RUN whose metrology die is dark after a failed flush, with an error in both of its copies, which hold another count of failed
flushes than its registers. -/
def startAfterCopyError : State :=
  { moduleInRun with
    metr := { MetrPart.reset with on := false }
    bill := { BillPart.reset with
      saved := { DieMem.reset with regs := [(Reg.BILL_TAMP_CNT 7, 5)] }, savedOk := false, saved2Ok := false, flushOk := false } }

/-- Refutes O42, by its clause on a start after a failed flush: where both copies have failed the registers are those of the copy kept, and the count
goes on from there. -/
theorem not_billingPowerRows : ¬ Obligations.BillingPowerRows := by
  intro h
  obtain ⟨-, -, -, -, hstart, -⟩ := h
  obtain ⟨t, ht, -, hcount, -⟩ := hstart startAfterCopyError 5 (by decide +kernel) (by decide +kernel)
  rw [← Host.Outcome.next.inj ht] at hcount
  exact absurd hcount (by decide +kernel)

/-! ### A short press on a display that shows a session (R585) -/

/-- A module at work in RUN whose metrology die runs and whose display 0 shows a session. -/
def displayOnSession : State :=
  { moduleInRun with
    metr := { MetrPart.reset with on := true }
    bill := { BillPart.reset with disps := [(0, { Disp.reset with state := 1 })] } }

/-- Refutes O43, by its clause on a short press: MANUAL remembers the state it came from apart from that of STATUS, which stays as it was. -/
theorem not_billingReadoutRows : ¬ Obligations.BillingReadoutRows := by
  intro h
  obtain ⟨-, -, -, -, -, -, -, -, -, hpress, -⟩ := h
  obtain ⟨t, ht, -, hback, -⟩ := hpress displayOnSession 5 0 0 (by decide) (by decide +kernel) (by decide +kernel) (by decide +kernel)
  rw [← Host.Outcome.next.inj ht] at hback
  exact absurd hback (by decide +kernel)

end

end Sys2Proof.Machine

namespace Sys2Proof.Machine

open Sys2Proof

section

set_option Elab.async false

/-! ### A stream whose rate has been set anew (R601) -/

/-- A module at work in RUN whose acquisition engine 0 streams at a rate that its register no longer holds, into a partition without room. -/
def streamOfOldRate : State :=
  { moduleInRun with acq := { moduleInRun.acq with engs := [(0, { AcqEng.reset with state := 4, cfg := [(0x0C, 0x100)] })] } }

/-- Refutes O44, by its clause on a sample instant: the sample ends the stream's record, the engine latches its settings for the next one, and where
the rate has changed its numbering starts anew. -/
theorem not_acquisitionRows : ¬ Obligations.AcquisitionRows := by
  intro h
  obtain ⟨-, -, -, -, -, -, hsample, -⟩ := h
  obtain ⟨t, ht, hnext, -⟩ := hsample streamOfOldRate 5 0 [] [] .a (by decide) (by decide) (by decide +kernel) (by decide +kernel)
  rw [← Host.Outcome.next.inj ht] at hnext
  exact absurd hnext (by decide +kernel)

/-- The state that a command answers; the one it was put to where it answers none. -/
def answerState (i : Instr) (s : State) : State :=
  match exec i s with
  | .next t => t
  | _ => s

theorem eq_answerState {i : Instr} {s t : State} (h : exec i s = .next t) : t = answerState i s := by
  simp [answerState, h]

/-! ### A frame stored in an object of Hedgerow's (R509, R627) -/

/-- A module at work in RUN: site bus controller 0 runs with one object, which carries RX connection 0 of channel A. -/
def safetyObjectOnBus : State :=
  { ((moduleInRun.setF (Reg.CAN_STAT 0) Fld.CAN_STAT_MODE 1).setF (Reg.CAN_CFG 0) Fld.CAN_CFG_OBJECTS 1).setF Reg.SAFE_STAT Fld.SAFE_STAT_CH_A 2 with
    img := { moduleInRun.img with
      pars := [(Par.canObj 0 0, 1), (Par.canObjCfg 0 0, 64), (Par.connId 0, 1), (Par.connDir 0, 1), (Par.connCan 0, 1)] } }

/-- Refutes O46, by its clause on a received frame: an object whose consumer is Hedgerow passes the frame to its connection, which counts one that
it discards. -/
theorem not_busReceiveRows : ¬ Obligations.BusReceiveRows := by
  intro h
  obtain ⟨hreceived, -⟩ := h
  obtain ⟨t, ht, -, -, -, hregs, -⟩ := hreceived safetyObjectOnBus 5 0 ⟨0, false, 0, false, []⟩ 0 0 .a (by decide) (by decide +kernel) (by decide +kernel)
    (by decide +kernel) (by decide +kernel) (by decide +kernel)
  have hbad := hregs (sideAddr .a (Reg.SAFE_CONN_CNT 0)) (by decide +kernel)
  rw [eq_answerState ht] at hbad
  exact absurd hbad (by decide +kernel)

end

end Sys2Proof.Machine

namespace Sys2Proof.Machine

open Sys2Proof

section

set_option Elab.async false

/-! ### A channel in its inrush window under the limits of its entry to Fog mode (R661, R644) -/

/-- A module at work in RUN whose load switch 0 is in its inrush window: its T_INR reads 0 now, but was longer as the channel entered Fog mode. -/
def inrushUnderFog : State :=
  { (moduleInRun.setF (Reg.LSW_CH_STAT 0) Fld.LSW_CH_STAT_STATE 1).setF (Reg.LSW_TIME 0) Fld.LSW_TIME_T_INR 0 with
    lsw := { moduleInRun.lsw with chans := [(0, { LswCh.reset with heldTime := some (fset Fld.LSW_TIME_T_INR 0 100) })] } }

/-- Refutes O47, by its clause on the end of the inrush window: a channel under Fog mode counts by the T_INR it had as it entered. -/
theorem not_switchCommandRows : ¬ Obligations.SwitchCommandRows := by
  intro h
  obtain ⟨-, -, -, -, -, -, hend, -⟩ := h
  obtain ⟨t, ht, hstate, -⟩ := hend inrushUnderFog 5 0 (by decide) (by decide +kernel) (by decide +kernel) (by decide +kernel)
  rw [← Host.Outcome.next.inj ht] at hstate
  exact absurd hstate (by decide +kernel)

/-! ### A Fog-map channel that leaves Fog mode while its rail is down (R661, R651) -/

/-- A module at work in RUN whose FOG_EN pad is active, with load switch 0 in the Fog map, commanded off and in UV_OFF. -/
def fogChannelInUvOff : State :=
  ((moduleInRun.setF Reg.LSW_FOGIN Fld.LSW_FOGIN_FOG_EN 1).setF (Reg.LSW_CFG 0) Fld.LSW_CFG_FOG 1).setF (Reg.LSW_CH_STAT 0)
    Fld.LSW_CH_STAT_STATE 5

/-- Refutes O48, by its clause on the end of FOG_EN: in UV_OFF, which keeps the channel off whatever is commanded, the command stays. -/
theorem not_switchTestAndFogRows : ¬ Obligations.SwitchTestAndFogRows := by
  intro h
  obtain ⟨-, -, -, -, -, -, hexit, -⟩ := h
  obtain ⟨t, ht, -, hmap, -⟩ := hexit fogChannelInUvOff 5 [] (by decide +kernel) (by decide +kernel) (by decide +kernel)
  obtain ⟨-, -, hcmd, -⟩ := hmap 0 (by decide) (by decide +kernel)
  rw [← Host.Outcome.next.inj ht] at hcmd
  exact absurd hcmd (by decide +kernel)

/-! ### A channel that waits for its rail in OFF (R643, R651) -/

/-- A module at work in RUN whose load switch 0 is off and commanded on. -/
def commandedWhileOff : State := moduleInRun.setF (Reg.LSW_CH_STAT 0) Fld.LSW_CH_STAT_CMD 1

/-- Refutes O49, by its clause on a rail that is restored: a channel that is off and commanded on turns on then, though it was not in UV_OFF. -/
theorem not_switchFaultRows : ¬ Obligations.SwitchFaultRows := by
  intro h
  obtain ⟨-, -, -, -, -, -, -, hrestored, -⟩ := h
  obtain ⟨t, ht, -, -, hstay, -⟩ := hrestored commandedWhileOff 5 0 (by decide) (by decide +kernel)
  obtain ⟨hstat, -⟩ := hstay 0 (by decide) fun _ => by decide +kernel
  rw [← Host.Outcome.next.inj ht] at hstat
  exact absurd hstat (by decide +kernel)

end

end Sys2Proof.Machine

namespace Sys2Proof.Machine

open Sys2Proof

section

set_option Elab.async false

/-! ### Tuning values that a descent writes out (R707) -/

/-- A module at work in RUN whose candidate state has long been NIGHT, on image slot 0, with one tuning value still to be written. -/
def tuningBeforeNight : State :=
  { moduleInRun.setF Reg.PWR_CFG Fld.PWR_CFG_DWELL 0 with
    img := { moduleInRun.img with running := some 0, tuneDue := [⟨Reg.LOOP_MAP 0, 0, 0, 0⟩] }
    sup := { moduleInRun.sup with cand := 3, candAt := some 0 } }

/-- Refutes O53, by its clause on a descent to NIGHT: a tuning value written out before the sides stop wears its MRAM slot, in the part that
holds the memories. -/
theorem not_powerStateRows : ¬ Obligations.PowerStateRows := by
  intro h
  obtain ⟨-, -, -, hdeep, -⟩ := h
  obtain ⟨t, ht, -, -, -, -, -, -, -, -, -, -, hframe⟩ := hdeep tuningBeforeNight 0 (by decide +kernel) (by decide) (by decide) (by decide +kernel)
    (by decide +kernel) (by decide) (by decide) (by decide +kernel)
  have hmem := congrArg State.mem hframe
  rw [← Host.Outcome.next.inj ht] at hmem
  exact absurd hmem (by decide +kernel)

/-! ### A side that is OFF while its engines are still listed (R162) -/

/-- A module under GUARD_FAULT whose Side A is OFF, with an acquisition engine of Side A still listed. -/
def engineOfSideOff : State :=
  { moduleInRun with
    keep := { KeepPart.reset with guardFault := true }
    acq := { moduleInRun.acq with engs := [(0, { AcqEng.reset with state := 1 })] } }

/-- Refutes O50, by its clause on an uncorrectable error where the Guard die does not act: the flag in the side's HEALTH has the engines of a
side that is OFF stopped. -/
theorem not_memoryRows : ¬ Obligations.MemoryRows := by
  intro h
  obtain ⟨-, -, -, hquiet, -⟩ := h
  obtain ⟨t, ht, -, -, -, -, hframe⟩ := hquiet engineOfSideOff 5 .a 0 0 (by decide) (by decide +kernel)
  have hacq := congrArg State.acq hframe
  rw [← Host.Outcome.next.inj ht] at hacq
  exact absurd hacq (by decide +kernel)

end

end Sys2Proof.Machine

namespace Sys2Proof.Machine

open Sys2Proof

section

set_option Elab.async false

section
variable (s : State)

/-! ### The bytes that stores leave, and what a read joins (R43, R674) -/

theorem memKey_eq_iff (x : Side) (a b : Nat) : memKey x a = memKey x b ↔ a = b := by simp [memKey]

/-- Of the stores in turn, the last one at a key stands. -/
theorem State.byte_memStore (x : Side) (es : List (Nat × Byte)) (k : Nat) :
    (s.memStore x es).byte k = es.foldl (fun v e => if memKey x e.1 = k then e.2 else v) (s.byte k) := by
  induction es generalizing s with
  | nil => rfl
  | cons e es ih =>
    simp only [State.memStore, List.foldl_cons] at ih ⊢
    rw [ih, ← State.byte_setByte]
    congr 1
    split <;> rfl

@[simp] theorem State.memStore_nil (x : Side) : s.memStore x [] = s := rfl

theorem State.byte_memStore_append (x : Side) (es fs : List (Nat × Byte)) (k : Nat) :
    (s.memStore x (es ++ fs)).byte k = ((s.memStore x es).memStore x fs).byte k := by
  rw [State.byte_memStore, State.byte_memStore, State.byte_memStore, List.foldl_append]

/-- Where no two of the stores meet, each leaves its byte. -/
theorem State.memByte_memStore_of_mem (x : Side) (es : List (Nat × Byte)) (hd : (es.map (·.1)).Nodup) (e : Nat × Byte) (he : e ∈ es) :
    (s.memStore x es).memByte x e.1 = e.2 := by
  induction es generalizing s with
  | nil => cases he
  | cons f es ih =>
    obtain ⟨hf, hd⟩ := List.nodup_cons.mp hd
    rw [State.memByte, ← List.singleton_append, State.byte_memStore_append]
    rcases List.mem_cons.mp he with rfl | he
    · rw [State.byte_memStore_other _ x es _ fun g hg hk =>
        hf (List.mem_map.mpr ⟨g, hg, (memKey_eq_iff x _ _).mp hk⟩), State.byte_memStore]
      simp
    · exact ih _ hd he

/-- The stores of an access lie at different addresses. -/
theorem MemReq.nodup_stores (r : MemReq) (upper : Bool) : ((r.stores upper).map (·.1)).Nodup := by
  unfold MemReq.stores
  split
  · rw [List.map_map]
    exact (List.nodup_range.filter _).map fun i j h => by simpa using h
  · exact List.nodup_nil

theorem MemReq.mem_bytes (r : MemReq) (upper : Bool) (i : Nat) :
    i ∈ r.bytes upper ↔ i < r.size ∧ decide (8 ≤ r.addr % 8 + i) = upper := by simp [MemReq.bytes]

theorem MemReq.mem_stores {r : MemReq} {d : BitVec 64} (hd : r.data = some d) (upper : Bool) (e : Nat × Byte) :
    e ∈ r.stores upper ↔ ∃ i, i ∈ r.bytes upper ∧ (r.addr + i, datumByte d i) = e := by simp [MemReq.stores, hd]

theorem MemReq.stores_eq_nil {r : MemReq} (h : r.data = none) (upper : Bool) : r.stores upper = [] := by simp [MemReq.stores, h]

/-! ### The requests that the ports serve (R40 to R42) -/

theorem rotatePick_singleton (p i : Nat) : rotatePick p [i] = some i := by
  simp only [rotatePick]
  by_cases h : p ≤ i <;> simp [h]

/-- A request that stands alone at its port of its bank is served, uncontested. -/
theorem SramPorts.winner_alone (p : SramPorts) (bank : Nat) (port1 : Bool) (r : MemReq) (hc : r.cls < 4)
    (h : (p.waits.filter fun q => q.port1 == port1 && q.bank false == bank) = [r]) :
    p.winner bank port1 = some (r, ptrKey bank port1 r.cls, false) := by
  have hnone (c : Nat) : rotatePick (SMap.get (fun _ => 0) p.pointer (ptrKey bank port1 c)) [] = none := rfl
  simp only [SramPorts.winner, h]
  obtain h0 | h1 | h2 | h3 : r.cls = 0 ∨ r.cls = 1 ∨ r.cls = 2 ∨ r.cls = 3 := by omega
  · simp [h0, List.filter, rotatePick_singleton]
  · simp [h1, List.filter, rotatePick_singleton, hnone]
  · simp [h2, List.filter, rotatePick_singleton, hnone]
  · simp [h3, List.filter, rotatePick_singleton, hnone]

theorem SramPorts.grants_of_none (p : SramPorts) (h : p.waits = []) : p.grants = ([], p) := by simp [SramPorts.grants, h]

/-- One request with no half in the way is served at once. -/
theorem SramPorts.grants_of_one (p : SramPorts) (r : MemReq) (hc : r.cls < 4) (hw : p.waits = [r]) (hh : p.halves = []) :
    p.grants = ([r], { p with waits := [] }) := by
  have hwin := p.winner_alone (r.bank false) r.port1 r hc (by simp [hw])
  simp [SramPorts.grants, hw, hh, hwin, List.eraseDups_cons]

/-- Two requests at the two ports of one bank are both served at once. -/
theorem SramPorts.grants_of_both (p : SramPorts) (r q : MemReq) (hr : r.port1 = false) (hq : q.port1 = true) (hcr : r.cls < 4) (hcq : q.cls < 4)
    (hb : r.bank false = q.bank false) (hw : p.waits = [r, q]) (hh : p.halves = []) : p.grants = ([r, q], { p with waits := [] }) := by
  have hwr := p.winner_alone (q.bank false) false r hcr (by simp [hw, hr, hq, hb])
  have hwq := ({ p with waits := [q] } : SramPorts).winner_alone (q.bank false) true q hcq (by simp [hq])
  rw [hh] at hwq
  simp [SramPorts.grants, hw, hh, hr, hq, hb, hwr, hwq, List.eraseDups_cons]

/-! ### One period (R43 to R45, R672 to R676) -/

/-- A store meets one of those of port 0. -/
def meetsAny (by0 : List (Nat × Byte)) (e : Nat × Byte) : Bool := by0.any fun f => f.1 == e.1

/-- A period in which these bytes land: late ones, then port 0's, then port 1's but for those that meet port 0's, which stay late; the ports are
left at p but for those. -/
def State.landed (x : Side) (late by0 by1 : List (Nat × Byte)) (p : SramPorts) : State :=
  let s2 := (s.memStore x (late ++ by0 ++ by1.filter fun e => !meetsAny by0 e)).setPorts x { p with late := by1.filter (meetsAny by0) }
  if by1.any (meetsAny by0) then s2.bump (sideReg x Reg.MEM_COLL) ⟨0, 32⟩ else s2

variable {s} {x : Side}

theorem State.byte_landed (late by0 by1 : List (Nat × Byte)) (p : SramPorts) (k : Nat) : (s.landed x late by0 by1 p).byte k =
    (s.memStore x (late ++ by0 ++ by1.filter fun e => !meetsAny by0 e)).byte k := by
  unfold State.landed
  dsimp only
  split <;> rfl

@[simp] theorem State.ports_setPorts (p : SramPorts) : (s.setPorts x p).ports x = p := by simp [State.ports, State.setPorts]

theorem State.ports_landed (late by0 by1 : List (Nat × Byte)) (p : SramPorts) :
    (s.landed x late by0 by1 p).ports x = { p with late := by1.filter (meetsAny by0) } := by
  unfold State.landed
  dsimp only
  split
  · exact State.ports_setPorts ..
  · exact State.ports_setPorts ..

theorem State.regs_landed (late by0 by1 : List (Nat × Byte)) (p : SramPorts) : (s.landed x late by0 by1 p).regs =
    if by1.any (meetsAny by0) then (s.bump (sideReg x Reg.MEM_COLL) ⟨0, 32⟩).regs else s.regs := by
  have hr (es : List (Nat × Byte)) (q : SramPorts) : ((s.memStore x es).setPorts x q).regs = s.regs := s.regs_memStore x es
  unfold State.landed
  dsimp only
  split
  · simp only [State.bump, State.fld, State.rd, hr, State.setF, State.wr]
  · exact hr _ _

/-- A period of the ports, by what they serve. -/
theorem State.sramPeriod_eq {p p1 : SramPorts} {new ws served : List MemReq} {all : List (MemReq × Bool)} {by0 by1 : List (Nat × Byte)}
    (hp : s.ports x = p) (hw : p.waits ++ new.filter MemReq.ok = ws) (hg : ({ p with waits := ws } : SramPorts).grants = (served, p1))
    (ha : (served.map fun r => (r, false)) ++ p.halves.map (fun r => (r, true)) = all)
    (h0 : ((all.filter fun e => !e.1.port1).flatMap fun e => e.1.stores e.2) = by0)
    (h1 : ((all.filter fun e => e.1.port1).flatMap fun e => e.1.stores e.2) = by1) : s.sramPeriod x new = s.landed x p.late by0 by1
      { p1 with halves := served.filter fun r => r.port1 && r.crosses, got := all.foldl (fun m e => s.memGot x m e.1 e.2) p1.got } := by
  subst hp hw ha h0 h1
  simp only [State.sramPeriod, hg]
  rfl

variable {r q : MemReq}

/-- Port 0 and port 1 meet in one bank, nothing else waiting. -/
theorem State.sramPeriod_both (hr : r.port1 = false) (hq : q.port1 = true) (hor : r.ok = true) (hoq : q.ok = true) (hcr : r.cls < 4)
    (hcq : q.cls < 4) (hcross : q.crosses = false) (hb : r.bank false = q.bank false) (hp : s.ports x = SramPorts.reset) :
    s.sramPeriod x [r, q] = s.landed x [] (r.stores false) (q.stores false)
      { SramPorts.reset with got := s.memGot x (s.memGot x [] r false) q false } := by
  have hg := ({ SramPorts.reset with waits := [r, q] } : SramPorts).grants_of_both r q hr hq hcr hcq hb rfl rfl
  rw [State.sramPeriod_eq hp (new := [r, q]) (by simp [hor, hoq, SramPorts.reset]) hg rfl (by0 := r.stores false) (by1 := q.stores false)
    (by simp [hr, hq, SramPorts.reset]) (by simp [hr, hq, SramPorts.reset])]
  simp [hr, hcross, SramPorts.reset]

/-- Nothing waits and no half is held: what is late lands. -/
theorem State.sramPeriod_idle {p : SramPorts} (hp : s.ports x = p) (hw : p.waits = []) (hh : p.halves = []) :
    s.sramPeriod x [] = s.landed x p.late [] [] p := by
  rw [State.sramPeriod_eq hp (new := []) (by simp) (p.grants_of_none hw) rfl (by0 := []) (by1 := []) (by simp [hh]) (by simp [hh])]
  cases p
  simp_all

/-- An access of port 1 across a word boundary begins, nothing else waiting. -/
theorem State.sramPeriod_lower (hr : r.port1 = true) (ho : r.ok = true) (hc : r.cls < 4) (hcross : r.crosses = true)
    (hp : s.ports x = SramPorts.reset) : s.sramPeriod x [r] = s.landed x [] [] (r.stores false)
      { SramPorts.reset with halves := [r], got := s.memGot x [] r false } := by
  have hg := ({ SramPorts.reset with waits := [r] } : SramPorts).grants_of_one r hc rfl rfl
  rw [State.sramPeriod_eq hp (new := [r]) (by simp [ho, SramPorts.reset]) hg rfl (by0 := []) (by1 := r.stores false)
    (by simp [hr, SramPorts.reset]) (by simp [hr, SramPorts.reset])]
  simp [hr, hcross, SramPorts.reset]

/-- It ends in the next period, with its bytes of the upper word. -/
theorem State.sramPeriod_upper {p : SramPorts} (hp : s.ports x = p) (hr : r.port1 = true) (hw : p.waits = []) (hh : p.halves = [r]) :
    s.sramPeriod x [] = s.landed x p.late [] (r.stores true) { p with halves := [], got := s.memGot x p.got r true } := by
  rw [State.sramPeriod_eq hp (new := []) (by simp) (p.grants_of_none hw) rfl (by0 := []) (by1 := r.stores true)
    (by simp [hh, hr]) (by simp [hh, hr])]
  simp [hh]

/-! ### The rows -/

theorem meetsAny_congr {es : List (Nat × Byte)} {e f : Nat × Byte} (h : e.1 = f.1) : meetsAny es e = meetsAny es f := by simp [meetsAny, h]

/-- What lands at once: port 0's stores, and those of port 1 that meet none of them. -/
theorem nodup_landing (r q : MemReq) :
    ((r.stores false ++ (q.stores false).filter fun e => !meetsAny (r.stores false) e).map (·.1)).Nodup := by
  rw [List.map_append, List.nodup_append']
  refine ⟨r.nodup_stores false, (q.nodup_stores false).sublist (List.filter_sublist.map _), fun a ha ha' => ?_⟩
  obtain ⟨f, hf, rfl⟩ := List.mem_map.mp ha
  obtain ⟨e, he, hef⟩ := List.mem_map.mp ha'
  have hno := (List.mem_filter.mp he).2
  have hyes : meetsAny (r.stores false) e = true := List.any_eq_true.mpr ⟨f, hf, by simpa using hef.symm⟩
  simp [hyes] at hno

/-- Two ports' requests have different numbers. -/
theorem MemReq.key_ne (hr : r.port1 = false) (hq : q.port1 = true) (hcr : r.cls < 4) : r.key ≠ q.key := by
  simp only [MemReq.key, hr, hq, flag, Bool.false_eq_true, if_false, if_true]
  omega

theorem State.get_memGot (m : SMap (BitVec 64)) (upper : Bool) (k : Nat) : SMap.get (fun _ => 0) (s.memGot x m r upper) k =
    if r.data = none ∧ r.key = k then s.memRead x r upper (SMap.get (fun _ => 0) m r.key) else SMap.get (fun _ => 0) m k := by
  cases hd : r.data <;> simp [State.memGot, hd, SMap.get_insert]

/-- What a period does where the two ports meet one word (R43 to R45, R672, R673). -/
theorem sramPeriod_sameWord {t u : State} (hr : r.port1 = false) (hq : q.port1 = true) (hor : r.ok = true) (hoq : q.ok = true)
    (hcr : r.cls < 4) (hcq : q.cls < 4) (hcross : q.crosses = false) (hw : r.addr / 8 = q.addr / 8) (hp : s.ports x = SramPorts.reset)
    (ht : t = s.sramPeriod x [r, q]) (hu : u = t.sramPeriod x []) :
    (r.data = none → SMap.get (fun _ => 0) (t.ports x).got r.key = s.memRead x r false 0)
    ∧ (q.data = none → SMap.get (fun _ => 0) (t.ports x).got q.key = s.memRead x q false 0)
    ∧ (∀ e ∈ r.stores false, t.memByte x e.1 = e.2)
    ∧ (∀ e ∈ q.stores false, u.memByte x e.1 = e.2
        ∧ t.memByte x e.1 = (((r.stores false).find? fun f => f.1 == e.1).map (·.2)).getD e.2)
    ∧ (∀ e ∈ r.stores false, ((q.stores false).all fun f => f.1 != e.1) = true → u.memByte x e.1 = e.2)
    ∧ (∀ k, ((r.stores false ++ q.stores false).all fun e => memKey x e.1 != k) = true → u.byte k = s.byte k)
    ∧ t.fld (sideReg x Reg.MEM_COLL) ⟨0, 32⟩ = (if ((q.stores false).any fun e => (r.stores false).any fun f => f.1 == e.1) then
        min (s.fld (sideReg x Reg.MEM_COLL) ⟨0, 32⟩ + 1) 0xFFFFFFFF else s.fld (sideReg x Reg.MEM_COLL) ⟨0, 32⟩)
    ∧ u.rd (sideReg x Reg.MEM_COLL) = t.rd (sideReg x Reg.MEM_COLL) ∧ (u.ports x).waits = [] ∧ (u.ports x).late = []
    ∧ RegsBut [sideReg x Reg.MEM_COLL] s u := by
  have hkey : r.key ≠ q.key := MemReq.key_ne hr hq hcr
  rw [State.sramPeriod_both hr hq hor hoq hcr hcq hcross (by simp [MemReq.bank, flag, hw]) hp] at ht
  have hpt : t.ports x = { SramPorts.reset with
      got := s.memGot x (s.memGot x [] r false) q false, late := (q.stores false).filter (meetsAny (r.stores false)) } := by
    rw [ht]; exact State.ports_landed ..
  rw [State.sramPeriod_idle hpt rfl rfl] at hu
  have htb (k : Nat) : t.byte k = (s.memStore x (r.stores false ++ (q.stores false).filter fun e => !meetsAny (r.stores false) e)).byte k := by
    rw [ht]; exact State.byte_landed ..
  have hub (k : Nat) : u.byte k = (t.memStore x ((q.stores false).filter (meetsAny (r.stores false)))).byte k := by
    rw [hu]; exact (State.byte_landed ..).trans (by simp)
  have htr : t.regs = if (q.stores false).any (meetsAny (r.stores false)) then (s.bump (sideReg x Reg.MEM_COLL) ⟨0, 32⟩).regs else s.regs := by
    rw [ht]; exact State.regs_landed ..
  have hur : u.regs = t.regs := by rw [hu]; exact State.regs_landed ..
  have htm (e : Nat × Byte) (he : e ∈ r.stores false ++ (q.stores false).filter fun e => !meetsAny (r.stores false) e) :
      t.memByte x e.1 = e.2 := (htb _).trans (State.memByte_memStore_of_mem s x _ (nodup_landing r q) e he)
  have hut (a : Nat) (h : ∀ e ∈ q.stores false, meetsAny (r.stores false) e = true → e.1 ≠ a) : u.memByte x a = t.memByte x a :=
    (hub _).trans (State.byte_memStore_other t x _ _ fun e he hk =>
      h e (List.mem_filter.mp he).1 (List.mem_filter.mp he).2 ((memKey_eq_iff x _ _).mp hk))
  refine ⟨fun hd => ?_, fun hd => ?_, fun e he => htm e (List.mem_append_left _ he), fun e he => ?_, fun e he hall => ?_, fun k hk => ?_,
    ?_, ?_, ?_, ?_, fun a ha => ?_⟩
  · rw [hpt, State.get_memGot, if_neg fun h => hkey h.2.symm, State.get_memGot, if_pos ⟨hd, rfl⟩]
    rfl
  · rw [hpt, State.get_memGot, if_pos ⟨hd, rfl⟩]
    rfl
  · by_cases hm : meetsAny (r.stores false) e = true
    · refine ⟨(hub _).trans (State.memByte_memStore_of_mem t x _ ((q.nodup_stores false).sublist (List.filter_sublist.map _)) e
        (List.mem_filter.mpr ⟨he, hm⟩)), ?_⟩
      obtain ⟨f, hf⟩ := Option.isSome_iff_exists.mp (List.find?_isSome.mpr (List.any_eq_true.mp hm))
      have hfe : f.1 = e.1 := by simpa using List.find?_some hf
      rw [hf, ← hfe]
      exact htm f (List.mem_append_left _ (List.mem_of_find?_eq_some hf))
    · have hte := htm e (List.mem_append_right _ (List.mem_filter.mpr ⟨he, by simpa using hm⟩))
      have hnone : (r.stores false).find? (fun f => f.1 == e.1) = none :=
        List.find?_eq_none.mpr fun f hf hfe => hm (List.any_eq_true.mpr ⟨f, hf, hfe⟩)
      rw [hnone]
      exact ⟨(hut e.1 fun f hf hfm hfe => hm (meetsAny_congr hfe ▸ hfm)).trans hte, hte⟩
  · refine (hut e.1 fun f hf _ hfe => ?_).trans (htm e (List.mem_append_left _ he))
    simpa [hfe] using List.all_eq_true.mp hall f hf
  · have hk' (e : Nat × Byte) (he : e ∈ r.stores false ++ q.stores false) : memKey x e.1 ≠ k := by simpa using List.all_eq_true.mp hk e he
    rw [hub, State.byte_memStore_other t x _ _ fun e he => hk' e (List.mem_append_right _ (List.mem_filter.mp he).1), htb]
    exact State.byte_memStore_other s x _ _ fun e he =>
      hk' e ((List.mem_append.mp he).elim (List.mem_append_left _) fun h => List.mem_append_right _ (List.mem_filter.mp h).1)
  · rw [State.fld, State.rd, htr]
    by_cases hm : (q.stores false).any (meetsAny (r.stores false)) = true
    · rw [if_pos hm]
      exact (s.fld_bump_same _ ⟨0, 32⟩ 1 (by decide)).trans (if_pos hm).symm
    · rw [if_neg hm]
      exact (if_neg hm).symm
  · exact State.rd_of_regs t u _ hur
  · rw [hu, State.ports_landed]; rfl
  · rw [hu, State.ports_landed]; rfl
  · rw [State.rd_of_regs t u _ hur, State.rd, htr]
    split
    · exact s.rd_bump_other _ _ _ _ fun h => ha (by simp [h])
    · rfl

/-- A byte that is joined to a datum at byte i stands there, beside what stood there. -/
theorem datumByte_or (d : BitVec 64) (v : Byte) (i j : Nat) (hj : j < 8) :
    datumByte (d ||| (BitVec.setWidth 64 v <<< (8 * i))) j = datumByte d j ||| (if i = j then v else 0) := by
  refine BitVec.eq_of_getLsbD_eq fun b hb => ?_
  have h64 : 8 * j + b < 64 := by omega
  simp only [datumByte, BitVec.getLsbD_extractLsb', BitVec.getLsbD_or, BitVec.getLsbD_shiftLeft, BitVec.getLsbD_setWidth, hb, h64, decide_true,
    Bool.true_and]
  by_cases hij : i = j
  · simp [hij, show ¬ 8 * j + b < 8 * j by omega, show b < 64 by omega]
  · by_cases hlt : 8 * j + b < 8 * i
    · simp [hij, hlt]
    · simp [hij, BitVec.getLsbD_of_ge v (8 * j + b - 8 * i) (by omega)]

theorem datumByte_foldl (f : Nat → Byte) (l : List Nat) (d : BitVec 64) (j : Nat) (hj : j < 8) :
    datumByte (l.foldl (fun d i => d ||| (BitVec.setWidth 64 (f i) <<< (8 * i))) d) j = datumByte d j ||| (if j ∈ l then f j else 0) := by
  induction l generalizing d with
  | nil => simp
  | cons i l ih =>
    rw [List.foldl_cons, ih, datumByte_or _ _ _ _ hj]
    by_cases hij : i = j
    · subst hij
      by_cases hl : i ∈ l <;> simp [hl, BitVec.or_assoc]
    · simp [hij, Ne.symm hij]

theorem datumByte_memRead (upper : Bool) (before : BitVec 64) (j : Nat) (hj : j < 8) : datumByte (s.memRead x r upper before) j =
    datumByte (if upper then before else 0) j ||| (if j ∈ r.bytes upper then s.memByte x (r.addr + j) else 0) :=
  datumByte_foldl (fun i => s.memByte x (r.addr + i)) _ _ _ hj

/-- What an access of port 1 across a word boundary does in its two periods (R674, R675). -/
theorem sramPeriod_crossing {t u : State} (hr : r.port1 = true) (ho : r.ok = true) (hc : r.cls < 4) (hcross : r.crosses = true)
    (hp : s.ports x = SramPorts.reset) (ht : t = s.sramPeriod x [r]) (hu : u = t.sramPeriod x []) :
    (∀ d, r.data = some d → (∀ i < r.size, u.memByte x (r.addr + i) = datumByte d i)
        ∧ ∀ i < r.size, 8 ≤ r.addr % 8 + i → t.memByte x (r.addr + i) = s.memByte x (r.addr + i))
    ∧ (r.data = none → ∀ i < 8, datumByte (SMap.get (fun _ => 0) (u.ports x).got r.key) i = if i < r.size then s.memByte x (r.addr + i) else 0)
    ∧ (∀ k, ((List.range r.size).all fun i => memKey x (r.addr + i) != k) = true ∨ r.data = none → u.byte k = s.byte k)
    ∧ (u.ports x).waits = [] ∧ (u.ports x).halves = [] ∧ RegsBut [] s u := by
  have hnone (es : List (Nat × Byte)) : es.filter (meetsAny []) = [] := by simp [meetsAny]
  have hany (es : List (Nat × Byte)) : es.any (meetsAny []) = false := by simp [meetsAny]
  have hall (es : List (Nat × Byte)) : [] ++ [] ++ es.filter (fun e => !meetsAny [] e) = es := by simp [meetsAny]
  rw [State.sramPeriod_lower hr ho hc hcross hp] at ht
  have hpt : t.ports x = { SramPorts.reset with halves := [r], got := s.memGot x [] r false } := by
    rw [ht, State.ports_landed, hnone]; rfl
  rw [State.sramPeriod_upper hpt hr rfl rfl] at hu
  have htb (k : Nat) : t.byte k = (s.memStore x (r.stores false)).byte k := by rw [ht, State.byte_landed, hall]
  have hub (k : Nat) : u.byte k = (t.memStore x (r.stores true)).byte k := by
    rw [hu]; exact (State.byte_landed ..).trans (by rw [show SramPorts.reset.late = [] from rfl, hall])
  have htr : t.regs = s.regs := by rw [ht, State.regs_landed, hany]; rfl
  have hur : u.regs = t.regs := by rw [hu, State.regs_landed, hany]; rfl
  have hsome {d : BitVec 64} (hd : r.data = some d) (i : Nat) (hi : i < r.size) (upper : Bool) (h : decide (8 ≤ r.addr % 8 + i) = upper) :
      (r.addr + i, datumByte d i) ∈ r.stores upper := (MemReq.mem_stores hd upper _).mpr ⟨i, (r.mem_bytes upper i).mpr ⟨hi, h⟩, rfl⟩
  have hapart {d : BitVec 64} (hd : r.data = some d) (i : Nat) (upper : Bool) (h : decide (8 ≤ r.addr % 8 + i) = !upper) :
      ∀ e ∈ r.stores upper, memKey x e.1 ≠ memKey x (r.addr + i) := by
    intro e he hk
    obtain ⟨j, hj, rfl⟩ := (MemReq.mem_stores hd upper e).mp he
    have hij : j = i := by simpa using (memKey_eq_iff x _ _).mp hk
    have hju := ((r.mem_bytes upper j).mp hj).2
    rw [hij, h] at hju
    simp at hju
  refine ⟨fun d hd => ⟨fun i hi => ?_, fun i hi hup => ?_⟩, fun hd i hi => ?_, fun k hk => ?_, ?_, ?_, fun a _ => ?_⟩
  · by_cases h : 8 ≤ r.addr % 8 + i
    · exact (hub _).trans (State.memByte_memStore_of_mem t x _ (r.nodup_stores true) _ (hsome hd i hi true (by simpa using h)))
    · refine ((hub _).trans (State.byte_memStore_other t x _ _ (hapart hd i true (by simpa using h)))).trans ((htb _).trans ?_)
      exact State.memByte_memStore_of_mem s x _ (r.nodup_stores false) _ (hsome hd i hi false (by simpa using h))
  · exact (htb _).trans (State.byte_memStore_other s x _ _ (hapart hd i false (by simpa using hup)))
  · have hts : t.memByte x (r.addr + i) = s.memByte x (r.addr + i) := by
      rw [State.memByte, htb, MemReq.stores_eq_nil hd]; rfl
    rw [hu, State.ports_landed]
    simp only [State.get_memGot, hd, true_and, if_true, datumByte_memRead _ _ i hi, Bool.false_eq_true, if_false, MemReq.mem_bytes, hts]
    by_cases hs : i < r.size <;> by_cases h8 : 8 ≤ r.addr % 8 + i <;> simp [hs, h8, datumByte]
  · have hno (upper : Bool) : ∀ e ∈ r.stores upper, memKey x e.1 ≠ k := by
      intro e he
      cases hd : r.data with
      | none => simp [MemReq.stores_eq_nil hd] at he
      | some d =>
        obtain ⟨j, hj, rfl⟩ := (MemReq.mem_stores hd upper e).mp he
        have hk' := hk.resolve_right (by simp [hd])
        simpa using List.all_eq_true.mp hk' j (List.mem_range.mpr ((r.mem_bytes upper j).mp hj).1)
    rw [hub, State.byte_memStore_other t x _ _ (hno true), htb, State.byte_memStore_other s x _ _ (hno false)]
  · rw [hu, State.ports_landed]; rfl
  · rw [hu, State.ports_landed]
  · exact (State.rd_of_regs t u a hur).trans (State.rd_of_regs s t a htr)

end

/-- Settles O60: the two requests are served in one period, what meets is late by one; a crossing access holds port 1 for two. -/
theorem sramPortRules : Obligations.SramPortRules :=
  ⟨fun _ _ _ _ _ _ hr hq hor hoq hcr hcq hcross hw hp ht hu => sramPeriod_sameWord hr hq hor hoq hcr hcq hcross hw hp ht hu,
    fun _ _ _ _ _ hr ho hc hcross hp ht hu => sramPeriod_crossing hr ho hc hcross hp ht hu⟩

end

end Sys2Proof.Machine

namespace Sys2Proof.Machine

open Sys2Proof

section

set_option Elab.async false

section

/-! ### A fold over a range, seen at one place -/

/-- What is seen of a state after steps 0 to n is what step c makes of it, where no other step changes it. -/
theorem foldl_range_at {α : Type} {f : State → Nat → State} (obs : State → α) {n c : Nat} (hc : c < n)
    (hother : ∀ t k, k ≠ c → obs (f t k) = obs t) (s : State) :
    ∃ t, obs t = obs s ∧ obs ((List.range n).foldl f s) = obs (f t c) := by
  have hkeep (l : List Nat) (hl : c ∉ l) (t : State) : obs (l.foldl f t) = obs t := by
    induction l generalizing t with
    | nil => rfl
    | cons k l ih =>
      rw [List.foldl_cons, ih (fun h => hl (List.mem_cons_of_mem k h)), hother t k fun h => hl (h ▸ List.mem_cons_self)]
  induction n with
  | zero => omega
  | succ n ih =>
    rw [List.range_succ, List.foldl_append, List.foldl_cons, List.foldl_nil]
    by_cases h : c = n
    · subst h
      exact ⟨(List.range c).foldl f s, hkeep _ (by simp) s, rfl⟩
    · obtain ⟨t, ht, he⟩ := ih (by omega)
      exact ⟨t, ht, (hother _ n (Ne.symm h)).trans he⟩

/-- A map without some of its keys reads its default there. -/
theorem SMap.get_filter {α : Type} (d : Nat → α) (p : Nat → Bool) (m : SMap α) (k : Nat) :
    SMap.get d (m.filter fun e => p e.1) k = if p k then SMap.get d m k else d k := by
  induction m with
  | nil => simp
  | cons e m ih =>
    obtain ⟨i, v⟩ := e
    by_cases hi : p i <;> by_cases hk : i = k <;> simp_all [SMap.get]

variable (s : State)

/-! ### What a reset of the module keeps (R717) -/

/-- Registers that the clearing at a reset writes itself. -/
def clearedRegs : List Nat :=
  [Reg.IMG_SLOT_CTRL, Reg.HOST_CFG, Reg.PWR_STAT, Reg.MEM_STAT] ++ (List.range 96).map Reg.SST_CELL_STAT

theorem State.rd_afterReset (a : Nat) : s.afterReset.rd a = if keptReg a then s.rd a else regReset a :=
  SMap.get_filter regReset keptReg s.regs a

/-- A cell out of the string stays so through a reset, with the state it came from. -/
def State.keepCell (u : State) (c : Nat) : State :=
  if s.cellState c < 4 then u
  else ({ u with sst := { u.sst with cells := SMap.put (fun _ => Cell.reset) u.sst.cells c { Cell.reset with before := (s.cell c).before } } }).setF
    (Reg.SST_CELL_STAT c) Fld.SST_CELL_STAT_STATE (s.cellState c)

theorem cellStates_eq (t : State) : cellStates s t = (List.range 96).foldl s.keepCell t := (rfl)

theorem State.rd_keepCell (u : State) (c a : Nat) (h : Reg.SST_CELL_STAT c ≠ a) : (s.keepCell u c).rd a = u.rd a := by
  unfold State.keepCell
  split
  · rfl
  · exact State.rd_setF_other _ _ _ _ _ h

theorem State.cell_keepCell (u : State) (c k : Nat) : (s.keepCell u c).cell k =
    if c = k ∧ 4 ≤ s.cellState c then { Cell.reset with before := (s.cell c).before } else u.cell k := by
  unfold State.keepCell
  by_cases h : s.cellState c < 4
  · rw [if_pos h, if_neg (by omega)]
  · rw [if_neg h]
    simp only [State.cell, State.setF_sst, SMap.get_put, show 4 ≤ s.cellState c by omega, and_true]

theorem cellStat_inj {c k : Nat} (h : k ≠ c) : Reg.SST_CELL_STAT k ≠ Reg.SST_CELL_STAT c := by
  simp only [Reg.SST_CELL_STAT]; omega

theorem rd_cellStates (t : State) (a : Nat) (h : a ∉ (List.range 96).map Reg.SST_CELL_STAT) : (cellStates s t).rd a = t.rd a :=
  rd_foldl _ (fun u c hc => s.rd_keepCell u c a fun e => h (List.mem_map.mpr ⟨c, hc, e⟩)) t

theorem cellState_cellStates (t : State) (c : Nat) (hc : c < 96) :
    (cellStates s t).cellState c = if s.cellState c < 4 then t.cellState c else s.cellState c := by
  obtain ⟨u, hu, he⟩ := foldl_range_at (fun u => u.cellState c) (f := s.keepCell) hc
    (fun u k hk => congrArg (fget Fld.SST_CELL_STAT_STATE) (s.rd_keepCell u k _ (cellStat_inj hk))) t
  refine he.trans ?_
  rw [← hu, State.keepCell]
  split
  · rfl
  · rw [State.cellState, State.fld_setF_same _ _ _ _ (by decide)]
    exact Nat.mod_eq_of_lt (fget_lt _ _)

theorem cell_cellStates (t : State) (c : Nat) (hc : c < 96) :
    (cellStates s t).cell c = if s.cellState c < 4 then t.cell c else { Cell.reset with before := (s.cell c).before } := by
  obtain ⟨u, hu, he⟩ := foldl_range_at (fun u => u.cell c) (f := s.keepCell) hc
    (fun u k hk => (s.cell_keepCell u k c).trans (if_neg fun h => hk h.1)) t
  refine he.trans ?_
  dsimp only at hu ⊢
  rw [← hu, State.cell_keepCell]
  by_cases h : s.cellState c < 4
  · rw [if_pos h, if_neg (by omega)]
  · rw [if_neg h, if_pos ⟨rfl, by omega⟩]

/-- The registers at a reset: kept ones as they were, the others at their reset values, but for those that the clearing writes. -/
theorem State.rd_cleared (a : Nat) (h : a ∉ clearedRegs) : s.cleared.rd a = if keptReg a then s.rd a else regReset a := by
  simp only [clearedRegs, List.mem_append, List.mem_cons, List.not_mem_nil, or_false, not_or] at h
  obtain ⟨⟨hslot, hhost, hpwr, hmem⟩, hcell⟩ := h
  have he : s.cleared.rd a = (((((cellStates s s.afterReset).setF Reg.IMG_SLOT_CTRL Fld.IMG_SLOT_CTRL_BOOT
    (s.fld Reg.IMG_SLOT_CTRL Fld.IMG_SLOT_CTRL_BOOT)).setF Reg.HOST_CFG Fld.HOST_CFG_ROLE (s.fld Reg.HOST_CFG Fld.HOST_CFG_ROLE)).wr Reg.PWR_STAT
      ((s.rd Reg.PWR_STAT &&& 0x00240000) ||| 0xFFFF)).wr Reg.MEM_STAT (s.rd Reg.MEM_STAT &&& 0xFFFF0000)).rd a := rfl
  rw [he, State.rd_wr_other _ _ _ _ (Ne.symm hmem), State.rd_wr_other _ _ _ _ (Ne.symm hpwr), State.rd_setF_other _ _ _ _ _ (Ne.symm hhost),
    State.rd_setF_other _ _ _ _ _ (Ne.symm hslot), rd_cellStates s _ a hcell, State.rd_afterReset]

theorem sst_cellStates (t : State) : (cellStates s t).sst = { t.sst with cells := (cellStates s t).sst.cells } := by
  rw [cellStates_eq]
  generalize List.range 96 = l
  induction l generalizing t with
  | nil => rfl
  | cons c l ih =>
    rw [List.foldl_cons, ih]
    unfold State.keepCell
    split <;> rfl

theorem State.eq_of_cleared {t u : State} (h : t.outside [.regs, .sst, .keep] = u.outside [.regs, .sst, .keep]) :
    t = { u with regs := t.regs, sst := t.sst, keep := t.keep } := State.eq_patch h

/-- A reset leaves what R717 keeps, at the registers, the cells and the latch of GUARD_FAULT beside it. -/
theorem State.cleared_eq : s.cleared = { s.afterReset with
    regs := s.cleared.regs, sst := { SstPart.reset with cells := (cellStates s s.afterReset).sst.cells }
    keep := { KeepPart.reset with epochRecord := s.keep.epochRecord, guardFault := s.keep.guardFault, guardFaultAt := s.keep.guardFaultAt } } := by
  have hkeep : (cellStates s s.afterReset).keep = s.afterReset.keep := State.keep_of_outside (by simp)
  have hsst : s.cleared.sst = (cellStates s s.afterReset).sst := rfl
  have hk : s.cleared.keep = { (cellStates s s.afterReset).keep with guardFault := s.keep.guardFault, guardFaultAt := s.keep.guardFaultAt } := rfl
  have he : s.cleared.outside [.regs, .sst, .keep] = s.afterReset.outside [.regs, .sst, .keep] := by simp [State.cleared]
  rw [State.eq_of_cleared he, hsst, hk, hkeep, sst_cellStates]
  rfl

/-! ### A reset of the module (R716) -/

/-- The state with the instant of the run's end kept, where one ran. -/
def State.runEnded : State := if s.running then s.endRun else s

theorem State.runEnded_eq : s.runEnded = { s with regs := s.runEnded.regs } := by
  unfold State.runEnded
  split <;> rfl

theorem State.rd_runEnded (a : Nat) (hlo : a ≠ Reg.PWR_RST_TS_LO) (hhi : a ≠ Reg.PWR_RST_TS_HI) : s.runEnded.rd a = s.rd a := by
  unfold State.runEnded
  split
  · rw [State.endRun, State.rd_wr_other _ _ _ _ hhi.symm, State.rd_wr_other _ _ _ _ hlo.symm]
  · rfl

/-- PWR_RST as a reset of some kind leaves it. -/
def State.resetWord (kind : Nat) : Word :=
  BitVec.ofNat 32 ((if s.keep.guardFault then 5 else kind) * 0x10000000 + kind % 16 * 0x1000000
    + min (s.fld Reg.PWR_RST Fld.PWR_RST_STARTS + 1) 0xFFFF)

/-- A cleared module as it starts again: the reset recorded, GUARD_FAULT gone. -/
def State.restarted (ladder : Count) (w fw : Word) : State :=
  ((({ s with sup := { s.sup with ladderAt := ladder }, keep := { s.keep with guardFault := false, guardFaultAt := 0 } }).wr Reg.PWR_RST w).wr
    Reg.SYS_RESET w).wr Reg.HOST_FW_STAT fw

theorem State.moduleReset_eq (kind : Nat) : ∃ fw, s.moduleReset kind =
    s.runEnded.cleared.restarted (if kind = 1 ∨ kind = 2 then s.sup.ladderAt else s.tm.life) (s.resetWord kind) fw := by
  refine ⟨fset Fld.HOST_FW_STAT_RUN_BANK (s.rd Reg.HOST_FW_STAT &&& 0xF4000000)
    (fget Fld.HOST_FW_STAT_BOOT_BANK (s.rd Reg.HOST_FW_STAT &&& 0xF4000000)), ?_⟩
  simp only [State.moduleReset, State.restarted, State.runEnded, State.resetWord]

theorem State.rd_restarted (ladder : Count) (w fw : Word) (a : Nat) : (s.restarted ladder w fw).rd a =
    if a = Reg.HOST_FW_STAT then fw else if a = Reg.SYS_RESET ∨ a = Reg.PWR_RST then w else s.rd a := by
  simp only [State.restarted, State.rd_wr]
  by_cases hs : a = Reg.SYS_RESET <;> by_cases hp : a = Reg.PWR_RST <;> simp [hs, hp, State.rd]

theorem State.resetWord_fields (kind : Nat) (hk : kind < 16) :
    fget Fld.PWR_RST_CAUSE (s.resetWord kind) = (if s.keep.guardFault then 5 else kind)
    ∧ fget Fld.PWR_RST_TRIGGER (s.resetWord kind) = kind
    ∧ fget Fld.PWR_RST_STARTS (s.resetWord kind) = min (s.fld Reg.PWR_RST Fld.PWR_RST_STARTS + 1) 0xFFFF := by
  have hc : (if s.keep.guardFault then 5 else kind) < 16 := by split <;> omega
  simp only [State.resetWord, fget, Fld.PWR_RST_CAUSE, Fld.PWR_RST_TRIGGER, Fld.PWR_RST_STARTS, BitVec.toNat_ofNat, Nat.shiftRight_eq_div_pow]
  generalize (if s.keep.guardFault then 5 else kind) = c at hc ⊢
  generalize s.fld Reg.PWR_RST ⟨0, 16⟩ = n
  refine ⟨?_, ?_, ?_⟩ <;> omega

/-- The state with the parts that a reset keeps and those that it sets from them. -/
theorem State.restarted_cleared_eq (ladder : Count) (w fw : Word) : ∃ (regs : SMap Word) (cells : SMap Cell) (kept : Bool), s.cleared.restarted ladder w fw =
    { State.reset with
      pending := s.pending, variant := s.variant, free := s.free, metr := s.metr, bill := s.bill, regs := regs
      tm := { s.afterReset.tm with rtcKept := kept }, ev := { EvPart.reset with nextSeq := s.ev.nextSeq, log := s.ev.log, logged := s.ev.logged }
      sst := { SstPart.reset with cells := cells }
      img := s.afterReset.img, keep := { KeepPart.reset with epochRecord := s.keep.epochRecord }
      host := s.afterReset.host, safe := s.afterReset.safe, mem := s.afterReset.mem, sup := { s.afterReset.sup with ladderAt := ladder }
      bytes := s.bytes.filter fun e => keptByte e.1 } := by
  have hc := s.cleared_eq
  generalize s.cleared.regs = regs at hc
  generalize (cellStates s s.afterReset).sst.cells = cells at hc
  rw [hc]
  exact ⟨_, cells, _, rfl⟩

theorem resetRegs_disjoint {a : Nat} (h : a ∉ resetRegs) : a ∉ clearedRegs ∧ a ≠ Reg.PWR_RST ∧ a ≠ Reg.SYS_RESET ∧ a ≠ Reg.HOST_FW_STAT
    ∧ a ≠ Reg.PWR_RST_TS_LO ∧ a ≠ Reg.PWR_RST_TS_HI := by
  simp only [resetRegs, List.mem_append, List.mem_cons, List.not_mem_nil, or_false, not_or] at h
  simp only [clearedRegs, List.mem_append, List.mem_cons, List.not_mem_nil, or_false, not_or]
  obtain ⟨⟨hslot, hhost, hpwr, hmem, hrst, hlo, hhi, hsys, hfw⟩, hcell⟩ := h
  exact ⟨⟨⟨hslot, hhost, hpwr, hmem⟩, hcell⟩, hrst, hsys, hfw, hlo, hhi⟩

theorem cellStat_reset : ∀ c < 96, keptReg (Reg.SST_CELL_STAT c) = false ∧ fget Fld.SST_CELL_STAT_STATE (regReset (Reg.SST_CELL_STAT c)) = 0 := by
  decide +kernel

theorem cellStat_ne (c : Nat) (a : Nat) (ha : a ∉ (List.range 96).map Reg.SST_CELL_STAT) (hc : c < 96) : Reg.SST_CELL_STAT c ≠ a :=
  fun h => ha (List.mem_map.mpr ⟨c, List.mem_range.mpr hc, h⟩)

theorem State.cellState_cleared (c : Nat) (hc : c < 96) : s.cleared.cellState c = if s.cellState c < 4 then 0 else s.cellState c := by
  have hne (a : Nat) (ha : a ∉ (List.range 96).map Reg.SST_CELL_STAT) : Reg.SST_CELL_STAT c ≠ a := cellStat_ne c a ha hc
  have he : s.cleared.cellState c = (((((cellStates s s.afterReset).setF Reg.IMG_SLOT_CTRL Fld.IMG_SLOT_CTRL_BOOT
    (s.fld Reg.IMG_SLOT_CTRL Fld.IMG_SLOT_CTRL_BOOT)).setF Reg.HOST_CFG Fld.HOST_CFG_ROLE (s.fld Reg.HOST_CFG Fld.HOST_CFG_ROLE)).wr Reg.PWR_STAT
      ((s.rd Reg.PWR_STAT &&& 0x00240000) ||| 0xFFFF)).wr Reg.MEM_STAT (s.rd Reg.MEM_STAT &&& 0xFFFF0000)).cellState c := rfl
  have hreset : s.afterReset.cellState c = 0 := by
    rw [State.cellState, State.fld, State.rd_afterReset, (cellStat_reset c hc).1]
    exact (cellStat_reset c hc).2
  rw [he, State.cellState, State.fld_wr_other _ _ _ _ _ (hne _ (by decide)).symm, State.fld_wr_other _ _ _ _ _ (hne _ (by decide)).symm,
    State.fld_setF_other _ _ _ _ _ _ (hne _ (by decide)).symm, State.fld_setF_other _ _ _ _ _ _ (hne _ (by decide)).symm]
  exact (cellState_cellStates s s.afterReset c hc).trans (by rw [hreset])

theorem State.cell_restarted (ladder : Count) (w fw : Word) (c : Nat) : (s.restarted ladder w fw).cell c = s.cell c := (rfl)

theorem State.cell_cleared (c : Nat) (hc : c < 96) :
    s.cleared.cell c = if s.cellState c < 4 then Cell.reset else { Cell.reset with before := (s.cell c).before } := by
  have hsst : s.cleared.sst = (cellStates s s.afterReset).sst := rfl
  have hreset : s.afterReset.cell c = Cell.reset := rfl
  rw [State.cell, hsst, ← hreset]
  exact cell_cellStates s s.afterReset c hc

theorem State.cellState_runEnded (c : Nat) (hc : c < 96) : s.runEnded.cellState c = s.cellState c :=
  congrArg (fget Fld.SST_CELL_STAT_STATE) (s.rd_runEnded _ (cellStat_ne c _ (by decide) hc) (cellStat_ne c _ (by decide) hc))

/-- Everything that a reset of a kind leaves (R716, R717). -/
theorem resetDone_moduleReset (kind : Nat) (hk : kind < 16) : ResetDone kind s (s.moduleReset kind) := by
  obtain ⟨fw, he⟩ := s.moduleReset_eq kind
  generalize (if kind = 1 ∨ kind = 2 then s.sup.ladderAt else s.tm.life) = ladder at he
  obtain ⟨hcause, htrigger, hstarts⟩ := s.resetWord_fields kind hk
  obtain ⟨regs, cells, kept, hparts⟩ := s.runEnded.restarted_cleared_eq ladder (s.resetWord kind) fw
  have hrd (a : Nat) : (s.moduleReset kind).rd a = if a = Reg.HOST_FW_STAT then fw
      else if a = Reg.SYS_RESET ∨ a = Reg.PWR_RST then s.resetWord kind else s.runEnded.cleared.rd a := by
    rw [he, State.rd_restarted]
  have hrst : (s.moduleReset kind).rd Reg.PWR_RST = s.resetWord kind := (hrd _).trans (by simp [Reg.PWR_RST, Reg.HOST_FW_STAT])
  have hsys : (s.moduleReset kind).rd Reg.SYS_RESET = s.resetWord kind := (hrd _).trans (by simp [Reg.SYS_RESET, Reg.HOST_FW_STAT])
  have hcell (c : Nat) (hc : c < 96) : (s.moduleReset kind).cell c =
      if s.cellState c < 4 then Cell.reset else { Cell.reset with before := (s.cell c).before } := by
    have hold : s.runEnded.cell c = s.cell c := by rw [s.runEnded_eq]; rfl
    rw [he, State.cell_restarted, State.cell_cleared _ c hc, State.cellState_runEnded _ c hc, hold]
  have hstate (c : Nat) (hc : c < 96) : (s.moduleReset kind).cellState c = if s.cellState c < 4 then 0 else s.cellState c := by
    have hne (a : Nat) (ha : a ∉ (List.range 96).map Reg.SST_CELL_STAT) : Reg.SST_CELL_STAT c ≠ a := cellStat_ne c a ha hc
    have hcl : (s.moduleReset kind).rd (Reg.SST_CELL_STAT c) = s.runEnded.cleared.rd (Reg.SST_CELL_STAT c) := by
      rw [hrd, if_neg (hne _ (by decide)), if_neg fun h => h.elim (hne _ (by decide)) (hne _ (by decide))]
    exact (congrArg (fget Fld.SST_CELL_STAT_STATE) hcl).trans ((State.cellState_cleared _ c hc).trans (by rw [State.cellState_runEnded _ c hc]))
  have hregs : RegsReset s (s.moduleReset kind) := by
    intro a ha
    obtain ⟨hcl, hprst, hpsys, hpfw, hlo, hhi⟩ := resetRegs_disjoint ha
    rw [hrd, if_neg hpfw, if_neg fun h => h.elim hpsys hprst, State.rd_cleared _ a hcl, s.rd_runEnded a hlo hhi]
  rw [hparts, s.runEnded_eq] at he
  refine ⟨by rw [State.fld, hrst, hcause], by rw [State.fld, hrst, htrigger], by rw [State.fld, hrst, hstarts], hsys.trans hrst.symm,
    fun c hc => ⟨hstate c hc, ?_⟩, ?_, hregs, ?_, ?_, ?_, ?_, ?_, ?_, ?_, ?_, ?_⟩
  · exact hcell c hc
  all_goals rw [he]
  all_goals rfl

end

end

end Sys2Proof.Machine

namespace Sys2Proof.Machine

open Sys2Proof

section

set_option Elab.async false

section
variable {s : State}

/-! ### The supply (R698 to R701, R716, R781) -/

theorem State.sup_moduleReset (kind : Nat) : ∃ ladder, (kind = 1 ∨ kind = 2 → ladder = s.sup.ladderAt) ∧ (s.moduleReset kind).sup =
    { s.sup with phase := 3, late := false, cand := 0, candAt := none, ltrAt := [], coolAt := [], lost := false, trimOk := false, gpio := []
                 ladderAt := ladder } := by
  obtain ⟨fw, he⟩ := s.moduleReset_eq kind
  obtain ⟨regs, cells, kept, hparts⟩ := s.runEnded.restarted_cleared_eq (if kind = 1 ∨ kind = 2 then s.sup.ladderAt else s.tm.life) (s.resetWord kind) fw
  refine ⟨if kind = 1 ∨ kind = 2 then s.sup.ladderAt else s.tm.life, fun h => if_pos h, ?_⟩
  rw [he, hparts, s.runEnded_eq]
  rfl

theorem State.eq_regs_sup {t u : State} (h : t.outside [.regs, .sup] = u.outside [.regs, .sup]) : t = { u with regs := t.regs, sup := t.sup } :=
  State.eq_patch h

theorem State.eq_counted_sup {t u : State} (h : t.outside [.regs, .ev, .sup, .recent] = u.outside [.regs, .ev, .sup, .recent]) :
    t = { u with regs := t.regs, ev := t.ev, sup := t.sup, recent := t.recent } := State.eq_patch h

theorem State.eq_regs_ev_sup {t u : State} (h : t.outside [.regs, .ev, .sup] = u.outside [.regs, .ev, .sup]) :
    t = { u with regs := t.regs, ev := t.ev, sup := t.sup } := State.eq_patch h

theorem auxInput_row (dt : Nat) (dc : Bool) (h : s.sup.aux = false) :
    Does (.auxInputApplied dt dc) s fun t =>
      t.sup = { s.sup with aux := true, ladderAt := if s.sup.phase = 0 then t.tm.life else s.sup.ladderAt }
      ∧ t.fld Reg.PWR_STAT Fld.PWR_STAT_INPUT_DC = flag dc ∧ RegsBut [Reg.PWR_STAT] s t ∧ t = { s.tick dt with regs := t.regs, sup := t.sup } := by
  have h1 : ¬ (s.tick dt).sup.aux = true := by simp [h]
  refine Does.of_answer fun t ht => ?_
  simp only [exec, execAuxInputApplied, if_neg h1, Host.Outcome.next.injEq] at ht
  refine ⟨by rw [← ht]; rfl, ?_, fun a ha => ?_, State.eq_regs_sup (by rw [← ht]; simp [-State.tick_tags])⟩
  · rw [← ht, State.fld_setF_same _ _ _ _ (by decide)]
    cases dc <;> rfl
  · rw [← ht, State.rd_setF_other _ _ _ _ _ fun e => ha (by simp [e])]
    rfl

theorem inputLoss_row (dt : Nat) (ha : s.sup.aux = true) (hw : s.awake = true) :
    Does (.inputLoss dt) s fun t =>
      t.sup = { s.sup with aux := false } ∧ t.fld Reg.PWR_STAT Fld.PWR_STAT_IN_LOSS = 1
      ∧ t.fld Reg.PWR_CNT Fld.PWR_CNT_IN_LOSSES = min (s.fld Reg.PWR_CNT Fld.PWR_CNT_IN_LOSSES + 1) 255
      ∧ Posted Ev.PWR_IN_LOSS (evArg 0xFFF 0 0) (s.tick dt) t ∧ RegsBut [Reg.PWR_STAT, Reg.PWR_CNT] s t
      ∧ t = { s.tick dt with regs := t.regs, ev := t.ev, sup := t.sup, recent := t.recent } := by
  have h1 : ¬ (s.tick dt).sup.aux = false := by simp [ha]
  have h2 : ({ s.tick dt with sup := { (s.tick dt).sup with aux := false } } : State).awake = true := hw
  refine Does.of_answer fun t ht => ?_
  simp only [exec, execInputLoss, if_neg h1, if_pos h2, Host.Outcome.next.injEq] at ht
  generalize hu : ({ s.tick dt with sup := { (s.tick dt).sup with aux := false } } : State) = u at ht
  have hur (a : Nat) : u.rd a = s.rd a := by rw [← hu]; rfl
  have htr (a : Nat) : t.rd a = ((u.setF Reg.PWR_STAT Fld.PWR_STAT_IN_LOSS 1).bump Reg.PWR_CNT Fld.PWR_CNT_IN_LOSSES).rd a := by
    rw [← ht]; rfl
  refine ⟨by rw [← ht, ← hu]; rfl, ?_, ?_, ?_, fun a ha => ?_, State.eq_counted_sup (by rw [← ht, ← hu]; simp [-State.tick_tags])⟩
  · rw [State.fld, htr, State.rd_bump_other _ _ _ _ _ (by decide), ← State.fld, State.fld_setF_same _ _ _ _ (by decide)]
    rfl
  · rw [State.fld, htr, ← State.fld, State.fld_bump_same _ _ _ _ (by decide), State.fld_setF_other _ _ _ _ _ _ (by decide), State.fld, hur]
    rfl
  · rw [← ht]
    exact (posted_postArg _ _ ((u.setF Reg.PWR_STAT Fld.PWR_STAT_IN_LOSS 1).bump Reg.PWR_CNT Fld.PWR_CNT_IN_LOSSES)).congr (by rw [← hu]; rfl)
      (by rw [← hu]; rfl) rfl
  · simp only [List.mem_cons, List.not_mem_nil, or_false, not_or] at ha
    rw [htr, State.rd_bump_other _ _ _ _ _ (Ne.symm ha.2), State.rd_setF_other _ _ _ _ _ (Ne.symm ha.1), hur]

theorem inputReturn_row (dt : Nat) (ha : s.sup.aux = false) (hw : s.awake = true) :
    Does (.inputReturn dt) s fun t =>
      t.sup = { s.sup with aux := true } ∧ t.fld Reg.PWR_STAT Fld.PWR_STAT_IN_LOSS = 0
      ∧ Posted Ev.PWR_IN_BACK (evArg 0xFFF 0 0) (s.tick dt) t ∧ RegsBut [Reg.PWR_STAT] s t
      ∧ t = { s.tick dt with regs := t.regs, ev := t.ev, sup := t.sup } := by
  have h1 : ¬ (s.tick dt).sup.aux = true := by simp [ha]
  have h2 : (({ s.tick dt with sup := { (s.tick dt).sup with aux := true } } : State).setF Reg.PWR_STAT Fld.PWR_STAT_IN_LOSS 0).awake = true := hw
  refine Does.of_answer fun t ht => ?_
  simp only [exec, execInputReturn, if_neg h1, if_pos h2, Host.Outcome.next.injEq] at ht
  generalize hu : ({ s.tick dt with sup := { (s.tick dt).sup with aux := true } } : State) = u at ht
  have hur (a : Nat) : u.rd a = s.rd a := by rw [← hu]; rfl
  have htr (a : Nat) : t.rd a = (u.setF Reg.PWR_STAT Fld.PWR_STAT_IN_LOSS 0).rd a := by rw [← ht]; rfl
  refine ⟨by rw [← ht, ← hu]; rfl, ?_, ?_, fun a ha => ?_, State.eq_regs_ev_sup (by rw [← ht, ← hu]; simp [-State.tick_tags])⟩
  · rw [State.fld, htr, ← State.fld, State.fld_setF_same _ _ _ _ (by decide)]
    rfl
  · rw [← ht]
    exact (posted_postArg _ _ (u.setF Reg.PWR_STAT Fld.PWR_STAT_IN_LOSS 0)).congr (by rw [← hu]; rfl) (by rw [← hu]; rfl) rfl
  · rw [htr, State.rd_setF_other _ _ _ _ _ fun e => ha (by simp [e]), hur]

/-- Events that the sides take to their queues and logs leave every register but SYS_ERR. -/
theorem State.rd_flushEvents (a : Nat) (h : a ≠ Reg.SYS_ERR) : s.flushEvents.rd a = s.rd a := by
  have henter (t : State) (x : Side) (e : EvEntry) : (t.enter x e).rd a = t.rd a := by
    unfold State.enter
    dsimp only
    split
    · rfl
    · rw [State.queueLoss, State.rd_postLimited, State.rd_setQueue]
      split
      · exact State.rd_raise_other _ _ _ _ h.symm
      · rfl
  unfold State.flushEvents
  exact (rd_foldl _ (fun t e _ => rd_foldl _ (fun u x _ => henter u x _) t) _).trans rfl

theorem State.rd_writeOut (a : Nat) (h : a ≠ Reg.SYS_ERR) : s.writeOut.rd a = s.rd a := by
  rw [State.writeOut, State.rd_flushEvents a h]
  unfold State.writeTuning
  split <;> rfl

/-- The state in which the sides have written out and the run has ended, where one ran. -/
def State.poweredDown (s : State) : State := if s.running then ((s.post Ev.PWR_DOWN).writeOut).endRun else s

theorem State.rd_poweredDown (a : Nat) (he : a ≠ Reg.SYS_ERR) (hlo : a ≠ Reg.PWR_RST_TS_LO) (hhi : a ≠ Reg.PWR_RST_TS_HI) :
    s.poweredDown.rd a = s.rd a := by
  unfold State.poweredDown
  split
  · rw [State.endRun, State.rd_wr_other _ _ _ _ hhi.symm, State.rd_wr_other _ _ _ _ hlo.symm, State.rd_writeOut a he, State.rd_post]
  · rfl

theorem holdupPowerFail_row (dt : Nat) (h : s.sup.phase = 2 ∨ s.awake = true) :
    Does (.holdupPowerFail dt) s fun t =>
      t.sup.phase = 0 ∧ t.sup.aux = false ∧ t.sup.lost = false ∧ t.fld Reg.PWR_STAT Fld.PWR_STAT_IN_LOSS = 0 ∧ RegsReset s t
      ∧ (s.running = true → t.rd Reg.PWR_RST_TS_HI ++ t.rd Reg.PWR_RST_TS_LO = (s.tick dt).tm.ts)
      ∧ t.mode = 0 ∧ t.queues = [] ∧ t.ev.posted = [] ∧ t.metr = s.metr ∧ t.tm.mono = 0 := by
  have h1 : (s.tick dt).sup.phase = 2 ∨ (s.tick dt).awake = true := h
  refine Does.of_answer fun t ht => ?_
  simp only [exec, execHoldupPowerFail, if_pos h1, Host.Outcome.next.injEq] at ht
  have hd : (if (s.tick dt).running then (((s.tick dt).post Ev.PWR_DOWN).writeOut).endRun else s.tick dt) = (s.tick dt).poweredDown := rfl
  rw [hd] at ht
  have hmetr : (s.tick dt).poweredDown.metr = s.metr := by
    unfold State.poweredDown
    split
    · exact State.metr_of_outside (by simp [State.endRun])
    · rfl
  have hts (hr : s.running = true) : (s.tick dt).poweredDown.rd Reg.PWR_RST_TS_HI = (s.tick dt).tm.ts.extractLsb' 32 32
      ∧ (s.tick dt).poweredDown.rd Reg.PWR_RST_TS_LO = (s.tick dt).tm.ts.extractLsb' 0 32 := by
    have hr' : (s.tick dt).running = true := hr
    have htm : (((s.tick dt).post Ev.PWR_DOWN).writeOut).tm = (s.tick dt).tm := State.tm_of_outside (by simp)
    rw [State.poweredDown, if_pos hr', State.endRun, htm]
    exact ⟨State.rd_wr_same _ _ _, (State.rd_wr_other _ _ _ _ (by decide)).trans (State.rd_wr_same _ _ _)⟩
  have hrd (a : Nat) (ha : Reg.PWR_STAT ≠ a) : t.rd a = (s.tick dt).poweredDown.cleared.rd a := by
    rw [← ht, State.rd_setF_other _ _ _ _ _ ha]
    rfl
  have hkept (a : Nat) (ha : a ∉ resetRegs) : t.rd a = if keptReg a then s.rd a else regReset a := by
    obtain ⟨hcl, -, -, -, hlo, hhi⟩ := resetRegs_disjoint ha
    rw [hrd a fun e => hcl (by simp [clearedRegs, ← e]), State.rd_cleared _ a hcl]
    by_cases hk : keptReg a = true
    · rw [if_pos hk, if_pos hk, State.rd_poweredDown a (fun e => absurd (e ▸ hk) (by decide)) hlo hhi, State.rd_tick]
    · rw [if_neg hk, if_neg hk]
  have hloss : t.fld Reg.PWR_STAT Fld.PWR_STAT_IN_LOSS = 0 := by rw [← ht, State.fld_setF_same _ _ _ _ (by decide)]; rfl
  have hts' (hr : s.running = true) : t.rd Reg.PWR_RST_TS_HI ++ t.rd Reg.PWR_RST_TS_LO = (s.tick dt).tm.ts := by
    rw [hrd _ (by decide), hrd _ (by decide), State.rd_cleared _ _ (by decide), State.rd_cleared _ _ (by decide), if_pos (by decide), if_pos (by decide),
      (hts hr).1, (hts hr).2]
    exact (BitVec.extractLsb'_append_extractLsb'_eq_extractLsb' (by omega)).trans BitVec.extractLsb'_eq_self
  have hmode : t.mode = 0 := by
    rw [State.mode, State.fld, hkept _ (by decide), if_neg (by decide)]
    decide
  have hc := (s.tick dt).poweredDown.cleared_eq
  generalize (s.tick dt).poweredDown.cleared = c at ht hc
  rw [hc] at ht
  exact ⟨by rw [← ht]; rfl, by rw [← ht]; rfl, by rw [← ht]; rfl, hloss, hkept, hts', hmode, by rw [← ht]; rfl, by rw [← ht]; rfl,
    by rw [← ht]; exact hmetr, by rw [← ht]; rfl⟩

theorem powerStart_row (dt : Nat) (hp : s.sup.phase = 0) (ha : s.sup.aux = true) (hd : s.sup.onDomain = true) :
    Does (.powerStart dt) s fun t =>
      ResetDone (if s.sup.lost then 1 else 2) (s.tick dt) t ∧ t.sup.phase = 3 ∧ t.sup.lost = false ∧ t.sup.ladderAt = s.sup.ladderAt := by
  have h1 : (s.tick dt).sup.phase = 0 ∧ (s.tick dt).sup.aux = true ∧ (s.tick dt).sup.onDomain = true := ⟨hp, ha, hd⟩
  refine Does.of_answer fun t ht => ?_
  simp only [exec, execPowerStart, if_pos h1, Host.Outcome.next.injEq] at ht
  have hkind : (if s.sup.lost then 1 else 2) = 1 ∨ (if s.sup.lost then 1 else 2) = 2 := by cases s.sup.lost <;> simp
  obtain ⟨ladder, hladder, hsup⟩ := (s.tick dt).sup_moduleReset (if s.sup.lost then 1 else 2)
  have ht' : (s.tick dt).moduleReset (if s.sup.lost then 1 else 2) = t := ht
  rw [ht'] at hsup
  refine ⟨ht' ▸ resetDone_moduleReset _ _ (by omega), by rw [hsup], by rw [hsup], ?_⟩
  rw [hsup]
  exact hladder hkind

end

/-- Settles O51: each row of the supply is its command's case, and the two that reset the module leave what R717 keeps. -/
theorem supplyRows : Obligations.SupplyRows := by
  refine ⟨fun s dt dc h => auxInput_row dt dc h, fun s dt h => ?_, fun s dt h => ?_, fun s dt tch ha hp => ?_, fun s dt tch hp hl => ?_,
    fun s dt hp ha hd => powerStart_row dt hp ha hd, fun s dt ha hw => inputLoss_row dt ha hw, fun s dt ha hw => inputReturn_row dt ha hw,
    fun s dt h => holdupPowerFail_row dt h⟩
  · have h1 : ¬ (s.tick dt).sup.onDomain = true := by simp [h]
    refine Does.of_answer fun t ht => ?_
    simp only [exec, execAlwaysOnPowerUp, if_neg h1, Host.Outcome.next.injEq] at ht
    exact ⟨by rw [← ht]; rfl, by rw [← ht], by rw [← ht]⟩
  · have h1 : (s.tick dt).sup.phase = 0 ∨ (s.tick dt).sup.phase = 1 := by rw [State.tick_sup]; omega
    refine Does.of_answer fun t ht => ?_
    simp only [exec, execAlwaysOnPowerLoss, if_pos h1, Host.Outcome.next.injEq] at ht
    rw [← ht]
    rfl
  · have h1 (b : Bool) : (s.tick dt).sup.aux = true ∧ ((s.tick dt).sup.phase = 0 ∨ b = true) := ⟨ha, .inl hp⟩
    refine Does.of_answer fun t ht => ?_
    simp only [exec, execHoldupChargeCheck, if_pos (h1 _)] at ht
    by_cases hq : tch ≤ Config.msec 25
    · rw [if_pos hq, Host.Outcome.next.injEq] at ht
      rw [if_pos hq, ← ht]
      exact ⟨rfl, rfl⟩
    · rw [if_neg hq, Host.Outcome.next.injEq] at ht
      rw [if_neg hq, ← ht]
      exact ⟨rfl, rfl⟩
  · have h1 : ¬ ((s.tick dt).sup.aux = true ∧ ((s.tick dt).sup.phase = 0 ∨ (decide ((s.tick dt).sup.phase = 1) &&
        decide (Config.sec 1 ≤ (s.tick dt).sinceLife (s.tick dt).sup.chargeAt)) = true)) := by
      simp only [State.tick_sup, hp, decide_true, Bool.true_and, decide_eq_true_eq]
      omega
    refine Does.of_answer fun t ht => ?_
    simp only [exec, execHoldupChargeCheck, if_neg h1, Host.Outcome.next.injEq] at ht
    exact ht.symm

end

end Sys2Proof.Machine

namespace Sys2Proof.Machine

open Sys2Proof

section

set_option Elab.async false

section
variable {s : State}

/-! ### A frame's answer (R181, R737) -/

theorem State.ethSend_eq (s : State) (bs : List Byte) : ∃ tx, s.ethSend bs = { s with host := { s.host with ethTx := tx } } := by
  have h (l : List Side) (u : State) : ∃ tx, l.foldl (fun st x => st.setEth x (st.ethQueue x ++ [bs])) u = { u with host := { u.host with ethTx := tx } } := by
    induction l generalizing u with
    | nil => exact ⟨u.host.ethTx, rfl⟩
    | cons x l ih =>
      obtain ⟨tx, htx⟩ := ih (u.setEth x (u.ethQueue x ++ [bs]))
      exact ⟨tx, htx⟩
  exact h s.engSides s

/-- An answer is the frame in the transmit queues, shown with its status. -/
theorem State.respond_eq (s : State) (op tag status : Nat) (payload : List Byte) : ∃ tx, s.respond op tag status payload = { s with host := { s.host with
    ethTx := tx, status := status, reply := [], replyBytes := mgmtFrame (0x80 + op % 0x80) tag status payload } } := by
  obtain ⟨tx, h⟩ := s.ethSend_eq (mgmtFrame (0x80 + op % 0x80) tag status payload)
  exact ⟨tx, by rw [State.respond, h]⟩

/-! ### Objects from the host link (R738, R740, R743) -/

/-- A host link's answer, which takes no way over Ethernet. -/
def State.hostAnswer (s : State) (op tag status : Nat) (payload : List Byte) (tx : SMap (List (List Byte))) : State :=
  { s with host := { s.host with
    ethTx := tx, status := status, reply := [], replyBytes := mgmtFrame (0x80 + op % 0x80) tag status payload } }

theorem State.respond_hostAnswer (s : State) (op tag status : Nat) (payload : List Byte) (tx : SMap (List (List Byte))) :
    ({ s.respond op tag status payload with host := { (s.respond op tag status payload).host with ethTx := tx } } : State) =
      s.hostAnswer op tag status payload tx := by
  obtain ⟨tx', h⟩ := s.respond_eq op tag status payload
  rw [h]
  rfl

/-- What the host link sends is served while the module answers it, out of RECOVERY. -/
theorem State.withSender_host (act : Access → State → State) (hr : s.recovery = false) (ha : s.answers .host Reg.HOST_STAT = true) :
    s.withSender none act = { act s.hostAccess s with host := { (act s.hostAccess s).host with ethTx := s.host.ethTx } } := by
  simp only [State.withSender, hr, Bool.false_eq_true, if_false, ha, if_true]

theorem exec_objGet_host (dt tag oid ofs maxLen : Nat) (hr : s.recovery = false) (ha : s.answers .host Reg.HOST_STAT = true) :
    exec (.objGet dt none tag oid ofs maxLen) s = .next (
      if 65536 < maxLen then (s.tick dt).hostAnswer 3 tag 4 [] s.host.ethTx
      else if oidKind oid = Obj.password then (s.tick dt).hostAnswer 3 tag 1 [] s.host.ethTx
      else
        let u := if oidKind oid = Obj.nonce ∧ ofs = 0 then (s.tick dt).issueNonce else s.tick dt
        (u.objBytes oid).elim (u.hostAnswer 3 tag 5 [] s.host.ethTx) fun bs => u.hostAnswer 3 tag 0 ((bs.drop ofs).take maxLen) s.host.ethTx) := by
  have hr' : (s.tick dt).recovery = false := hr
  have ha' : (s.tick dt).answers .host Reg.HOST_STAT = true := by rw [State.answers_tick]; exact ha
  simp only [exec, execObjGet, State.withSender_host _ hr' ha', hr', Bool.false_and, Bool.false_eq_true, if_false, Host.Outcome.next.injEq]
  by_cases hlen : 65536 < maxLen
  · simp only [if_pos hlen]
    exact State.respond_hostAnswer ..
  · by_cases hpw : oidKind oid = Obj.password
    · simp only [if_neg hlen, if_pos hpw]
      exact State.respond_hostAnswer ..
    · simp only [if_neg hlen, if_neg hpw]
      split
      next h => rw [h]; exact State.respond_hostAnswer ..
      next bs h => rw [h]; exact State.respond_hostAnswer ..

theorem exec_objSet_host (dt tag oid ofs : Nat) (last : Bool) (bs : List Byte) (hr : s.recovery = false) (ha : s.answers .host Reg.HOST_STAT = true) :
    exec (.objSet dt none tag oid ofs last bs) s = .next (
      if (s.tick dt).objMay (s.tick dt).hostAccess oid = 1 then
        ((s.tick dt).postArg Ev.DENIED (accArg (s.tick dt).hostAccess 0)).hostAnswer 4 tag 1 [] s.host.ethTx
      else if (s.tick dt).objMay (s.tick dt).hostAccess oid ≠ 0 then
        (s.tick dt).hostAnswer 4 tag ((s.tick dt).objMay (s.tick dt).hostAccess oid) [] s.host.ethTx
      else
        let r := (s.tick dt).objChunk (s.tick dt).hostAccess oid ofs last bs
        r.1.hostAnswer 4 tag r.2 [] s.host.ethTx) := by
  have hr' : (s.tick dt).recovery = false := hr
  have ha' : (s.tick dt).answers .host Reg.HOST_STAT = true := by rw [State.answers_tick]; exact ha
  simp only [exec, execObjSet, State.withSender_host _ hr' ha', hr', Bool.false_and, Bool.false_eq_true, if_false, Host.Outcome.next.injEq]
  by_cases h1 : (s.tick dt).objMay (s.tick dt).hostAccess oid = 1
  · simp only [if_pos h1]
    exact State.respond_hostAnswer ..
  · by_cases h0 : (s.tick dt).objMay (s.tick dt).hostAccess oid ≠ 0
    · simp only [if_neg h1, if_pos h0]
      exact State.respond_hostAnswer ..
    · simp only [if_neg h1, if_neg h0]
      exact State.respond_hostAnswer ..

theorem objGet_tooLong_row (dt tag oid ofs maxLen : Nat) (hlen : 65536 < maxLen) (hr : s.recovery = false)
    (ha : s.answers .host Reg.HOST_STAT = true) :
    Does (.objGet dt none tag oid ofs maxLen) s fun t =>
      t.host.replyBytes = mgmtFrame 0x83 tag 4 [] ∧ t.host.status = 4 ∧ RegsBut [] s t ∧ t = { s.tick dt with host := t.host } := by
  refine Does.of_eq (exec_objGet_host dt tag oid ofs maxLen hr ha) fun t ht => ?_
  rw [if_pos hlen] at ht
  rw [ht]
  exact ⟨rfl, rfl, fun _ _ => rfl, rfl⟩

theorem objGet_row (dt tag oid ofs maxLen : Nat) (hlen : maxLen ≤ 65536) (hr : s.recovery = false)
    (ha : s.answers .host Reg.HOST_STAT = true) :
    Does (.objGet dt none tag oid ofs maxLen) s fun t =>
      (oidKind oid = Obj.password → t.host.replyBytes = mgmtFrame 0x83 tag 1 [])
      ∧ (oidKind oid ≠ Obj.password → ¬ (oidKind oid = Obj.nonce ∧ ofs = 0) →
          t.host.replyBytes = ((s.tick dt).objBytes oid).elim (mgmtFrame 0x83 tag 5 []) fun bs => mgmtFrame 0x83 tag 0 ((bs.drop ofs).take maxLen))
      ∧ (oidKind oid = Obj.nonce → ofs = 0 → t.host.nonce = some ((s.tick dt).freshWord.1, t.tm.mono)
          ∧ t.host.replyBytes = mgmtFrame 0x83 tag 0 ((leBytes 4 (s.tick dt).freshWord.1.toNat).take maxLen))
      ∧ Silent s t ∧ RegsBut [] s t ∧ t = { s.tick dt with host := t.host, free := t.free } := by
  refine Does.of_eq (exec_objGet_host dt tag oid ofs maxLen hr ha) fun t ht => ?_
  rw [if_neg (by omega)] at ht
  by_cases hpw : oidKind oid = Obj.password
  · have hno : oidKind oid ≠ Obj.nonce := by rw [hpw]; decide
    rw [if_pos hpw] at ht
    rw [ht]
    exact ⟨fun _ => rfl, fun h => absurd hpw h, fun h => absurd h hno, rfl, fun _ _ => rfl, rfl⟩
  · rw [if_neg hpw] at ht
    by_cases hn : oidKind oid = Obj.nonce ∧ ofs = 0
    · have hbytes : (s.tick dt).issueNonce.objBytes oid = some (leBytes 4 (s.tick dt).freshWord.1.toNat) := by
        simp only [State.objBytes, hn.1]
        rfl
      simp only [if_pos hn, hbytes, Option.elim_some] at ht
      rw [ht]
      exact ⟨fun h => absurd h hpw, fun _ h => absurd hn h, fun _ h => ⟨rfl, by rw [h]; rfl⟩, rfl, fun _ _ => rfl, rfl⟩
    · simp only [if_neg hn] at ht
      cases hb : (s.tick dt).objBytes oid with
      | none =>
        rw [hb, Option.elim_none] at ht
        rw [ht]
        exact ⟨fun h => absurd h hpw, fun _ _ => rfl, fun h h' => absurd ⟨h, h'⟩ hn, rfl, fun _ _ => rfl, rfl⟩
      | some bs =>
        rw [hb, Option.elim_some] at ht
        rw [ht]
        exact ⟨fun h => absurd h hpw, fun _ _ => rfl, fun h h' => absurd ⟨h, h'⟩ hn, rfl, fun _ _ => rfl, rfl⟩

theorem objSet_row (dt tag oid ofs : Nat) (last : Bool) (bs : List Byte) (hr : s.recovery = false) (ha : s.answers .host Reg.HOST_STAT = true) :
    Does (.objSet dt none tag oid ofs last bs) s fun t =>
      ((s.tick dt).objMay (s.tick dt).hostAccess oid = 1 → t.host.replyBytes = mgmtFrame 0x84 tag 1 []
        ∧ Posted Ev.DENIED (accArg (s.tick dt).hostAccess 0) (s.tick dt) t ∧ t.host.objects = s.host.objects ∧ RegsBut [] s t)
      ∧ ((s.tick dt).objMay (s.tick dt).hostAccess oid = 5 → t.host.replyBytes = mgmtFrame 0x84 tag 5 []
        ∧ RegsBut [] s t ∧ t = { s.tick dt with host := t.host })
      ∧ ((s.tick dt).objMay (s.tick dt).hostAccess oid = 0 → last = false → oidKind oid ≠ Obj.firmware → s.host.objPart = [] →
          t.host.objPart = [(oid, ⟨sessionKey .host 0, putBytes [] ofs bs⟩)] ∧ t.host.replyBytes = mgmtFrame 0x84 tag 0 []
          ∧ t.host.objects = s.host.objects ∧ RegsBut [] s t) := by
  refine Does.of_eq (exec_objSet_host dt tag oid ofs last bs hr ha) fun t ht => ⟨fun h => ?_, fun h => ?_, fun h hl hf hp => ?_⟩
  · rw [if_pos h] at ht
    rw [ht]
    exact ⟨rfl, (posted_postArg _ _ _).congr rfl rfl rfl, rfl, fun _ _ => rfl⟩
  · rw [if_neg (by omega), if_pos (by omega), h] at ht
    rw [ht]
    exact ⟨rfl, fun _ _ => rfl, rfl⟩
  · have hchunk : (s.tick dt).objChunk (s.tick dt).hostAccess oid ofs last bs =
        ({ s.tick dt with host := { s.host with objPart := [(oid, ⟨sessionKey .host 0, putBytes [] ofs bs⟩)] } }, 0) := by
      simp only [State.objChunk, State.tick_host, hp, hl, List.find?_nil, Option.map_none, Bool.false_eq_true, if_false, if_neg hf]
      rfl
    rw [if_neg (by omega), if_neg (by omega), hchunk] at ht
    rw [ht]
    exact ⟨rfl, rfl, rfl, fun _ _ => rfl⟩

theorem objSet_role_row (dt tag oid : Nat) (b : Byte) (hr : s.recovery = false) (ha : s.answers .host Reg.HOST_STAT = true) (hlc : s.lifeCycle < 2)
    (hp : s.host.objPart = []) (hb : b.toNat < 3) :
    Does (.objSet dt none tag oid 0 true [b]) s fun t =>
      (oidKind oid = Obj.hostRole → t.fld Reg.HOST_CFG Fld.HOST_CFG_ROLE = b.toNat ∧ t.host.replyBytes = mgmtFrame 0x84 tag 0 []
        ∧ t.host.objects = s.host.objects ∧ RegsBut [Reg.HOST_CFG] s t) := by
  refine Does.of_eq (exec_objSet_host dt tag oid 0 true [b] hr ha) fun t ht hk => ?_
  have hlc' : decide ((s.tick dt).lifeCycle < 2) = true := decide_eq_true (show s.lifeCycle < 2 from hlc)
  have hpath : (s.tick dt).provisionPath (s.tick dt).hostAccess = true := rfl
  have hmay : (s.tick dt).objMay (s.tick dt).hostAccess oid = 0 := by
    simp only [State.objMay, hk, hpath, hlc']
    rfl
  have hchunk : (s.tick dt).objChunk (s.tick dt).hostAccess oid 0 true [b] =
      (({ s.tick dt with host := { s.host with objPart := SMap.erase s.host.objPart oid } } : State).setF Reg.HOST_CFG Fld.HOST_CFG_ROLE b.toNat, 0) := by
    simp only [State.objChunk, State.tick_host, hp, List.find?_nil, Option.map_none, Bool.false_eq_true, if_false, hk]
    simp [State.applyObject, hk, wholeObject, putBytes, SMap.insert, SMap.get, hb, Obj.hostRole, Obj.firmware]
  rw [if_neg (by omega), if_neg (by omega), hchunk] at ht
  generalize hu : ({ s.tick dt with host := { s.host with objPart := SMap.erase s.host.objPart oid } } : State) = u at ht
  have htr (a : Nat) : t.rd a = (u.setF Reg.HOST_CFG Fld.HOST_CFG_ROLE b.toNat).rd a := by rw [ht]; rfl
  refine ⟨?_, by rw [ht]; rfl, by rw [ht, ← hu]; rfl, fun a ha => ?_⟩
  · rw [State.fld, htr, ← State.fld, State.fld_setF_same _ _ _ _ (by decide)]
    exact Nat.mod_eq_of_lt (by simp only [Fld.HOST_CFG_ROLE]; omega)
  · rw [htr, State.rd_setF_other _ _ _ _ _ fun e => ha (by simp [e]), ← hu]
    rfl

end

/-- Settles O58: a read's answer by the object it names, and a chunk's by the right, the part kept and the role applied. -/
theorem objectRows : Obligations.ObjectRows :=
  ⟨fun _ dt tag oid ofs maxLen hlen hr ha => objGet_tooLong_row dt tag oid ofs maxLen hlen hr ha,
    fun _ dt tag oid ofs maxLen hlen hr ha => objGet_row dt tag oid ofs maxLen hlen hr ha,
    fun _ dt tag oid ofs last bs hr ha => objSet_row dt tag oid ofs last bs hr ha,
    fun _ dt tag oid b hr ha hlc hp hb => objSet_role_row dt tag oid b hr ha hlc hp hb⟩

end

end Sys2Proof.Machine

namespace Sys2Proof.Machine

open Sys2Proof

section

set_option Elab.async false

section
variable {s : State}

/-! ### Connections (R735, R736) -/

/-- The first entry of a key that was listed is the one listed. -/
theorem SMap.find_insert {α : Type} (m : SMap α) (k : Nat) (v : α) : ((SMap.insert m k v).find? fun e => e.1 == k).map (·.2) = some v := by
  induction m with
  | nil => simp [SMap.insert]
  | cons e m ih =>
    obtain ⟨i, x⟩ := e
    rcases Nat.lt_trichotomy k i with h | h | h
    · simp [SMap.insert, h]
    · simp [SMap.insert, h]
    · rw [SMap.insert, if_neg (by omega), if_neg (by omega), List.find?_cons_of_neg (by simp; omega)]
      exact ih

/-- A key that was dropped has no entry. -/
theorem SMap.find_erase {α : Type} (m : SMap α) (k : Nat) : ((SMap.erase m k).find? fun e => e.1 == k).map (·.2) = none := by
  induction m with
  | nil => rfl
  | cons e m ih =>
    obtain ⟨i, x⟩ := e
    by_cases h : i = k
    · rw [SMap.erase, if_pos h]
      exact ih
    · rw [SMap.erase, if_neg h, List.find?_cons_of_neg (by simpa using h)]
      exact ih

theorem State.rd_showConns (a : Nat) (h : a ∉ [Reg.HOST_MGMT]) : s.showConns.rd a = s.rd a := by
  have hne : Reg.HOST_MGMT ≠ a := fun e => h (by simp [e])
  rw [State.showConns, State.rd_setF_other _ _ _ _ _ hne, State.rd_setF_other _ _ _ _ _ hne]

theorem State.conns_showConns : s.showConns.fld Reg.HOST_MGMT Fld.HOST_MGMT_CONNS = min s.host.conns.length 255 := by
  rw [State.showConns, State.fld_setF_field _ _ _ _ _ (by decide) (by decide), State.fld_setF_same _ _ _ _ (by decide)]
  exact Nat.mod_eq_of_lt (by simp only [Fld.HOST_MGMT_CONNS]; omega)

theorem State.eq_regs_host {t u : State} (h : t.outside [.regs, .host] = u.outside [.regs, .host]) : t = { u with regs := t.regs, host := t.host } :=
  State.eq_patch h

theorem State.eq_handshake {t u : State} (h : t.outside [.regs, .ev, .host, .recent] = u.outside [.regs, .ev, .host, .recent]) :
    t = { u with regs := t.regs, ev := t.ev, host := t.host, recent := t.recent } := State.eq_patch h

/-- A session that holds no context closes without more. -/
theorem State.sessionClose_of_none (path : Path) (session : Nat) (h : ([0, 1, 2, 3].all fun n => (s.context n).state == .idle ||
    (s.context n).path != path || (s.context n).session != session) = true) : s.sessionClose path session = s := by
  unfold State.sessionClose
  generalize [0, 1, 2, 3] = l at h
  induction l with
  | nil => rfl
  | cons n l ih =>
    simp only [List.all_cons, Bool.and_eq_true, Bool.or_eq_true] at h
    rw [List.foldl_cons]
    refine (congrArg (fun u => l.foldl _ u) ?_).trans (ih h.2)
    obtain (h1 | h1) | h1 := h.1
    · have h1 := eq_of_beq h1
      simp only [h1]
      split <;> rfl
    · rw [if_neg (by simp_all)]
    · rw [if_neg (by simp_all)]

/-- A connection of a session that holds no context, closed: its slot, its sent events and the parts of its objects go. -/
theorem State.closeConn_eq (conn : Nat) {c : Conn} (hc : s.mgmtConn conn = some c) (h : ([0, 1, 2, 3].all fun n => (s.context n).state == .idle ||
    (s.context n).path != .mgmt || (s.context n).session != conn) = true) : s.closeConn conn = ({ s with host := { s.host with
      conns := SMap.erase s.host.conns conn, sent := SMap.erase s.host.sent conn,
      objPart := s.host.objPart.filter (fun e => e.2.session != sessionKey .mgmt conn) } } : State).showConns := by
  simp only [State.closeConn, hc, State.sessionClose_of_none _ _ h]
  rfl

/-- What a closed connection leaves. -/
theorem closeConn_row (u : State) (conn : Nat) {c : Conn} (hc : u.mgmtConn conn = some c) (h : ([0, 1, 2, 3].all fun n =>
    (u.context n).state == .idle || (u.context n).path != .mgmt || (u.context n).session != conn) = true) :
    (u.closeConn conn).host = { u.host with
        conns := SMap.erase u.host.conns conn, sent := SMap.erase u.host.sent conn,
        objPart := u.host.objPart.filter (fun e => e.2.session != sessionKey .mgmt conn) }
    ∧ RegsBut [Reg.HOST_MGMT] u (u.closeConn conn) ∧ u.closeConn conn = { u with regs := (u.closeConn conn).regs, host := (u.closeConn conn).host } := by
  rw [State.closeConn_eq conn hc h]
  exact ⟨rfl, fun a ha => State.rd_showConns a ha, State.eq_regs_host (by simp)⟩

theorem handshake_served (dt conn port : Nat) (ip : Word) (hm : (s.tick dt).mgmtOn = true) (hr : s.recovery = false)
    (hb : (s.tick dt).ipBlocked ip.toNat = false) (hl : s.host.conns.length < 8) (hc : s.mgmtConn conn = none) :
    ¬ (!(s.tick dt).mgmtOn || ((s.tick dt).recovery && port != 2) || (s.tick dt).ipBlocked ip.toNat || decide (8 ≤ (s.tick dt).host.conns.length)
      || ((s.tick dt).mgmtConn conn).isSome) = true := by
  have hr' : (s.tick dt).recovery = false := hr
  have hc' : (s.tick dt).mgmtConn conn = none := hc
  simp only [hm, hr', hb, hc', State.tick_host]
  simp
  omega

theorem handshake_accepted_row (dt conn port : Nat) (ip : Word) (cert : ClientCert) (r : Role) (hm : (s.tick dt).mgmtOn = true) (hr : s.recovery = false)
    (hb : (s.tick dt).ipBlocked ip.toNat = false) (hl : s.host.conns.length < 8) (hc : s.mgmtConn conn = none) (hcert : s.certRole port cert = some r) :
    Does (.mgmtHandshake dt conn port ip cert) s fun t =>
      t.host = { s.host with conns := SMap.insert s.host.conns conn ⟨r, cert.anchor == .provisioning, (s.tick dt).tm.mono, 0, 0⟩ }
      ∧ t.fld Reg.HOST_MGMT Fld.HOST_MGMT_CONNS = min t.host.conns.length 255
      ∧ (s.fld Reg.TIME_STAT Fld.TIME_STAT_VALID = 0 → Posted Ev.MGMT_TIME_UNCHECKED (evArg 0xFFF 0 0) (s.tick dt) t)
      ∧ (s.fld Reg.TIME_STAT Fld.TIME_STAT_VALID = 1 → Silent s t) ∧ RegsBut [Reg.HOST_MGMT] s t
      ∧ t = { s.tick dt with regs := t.regs, ev := t.ev, host := t.host, recent := t.recent } := by
  have hcert' : (s.tick dt).certRole port cert = some r := hcert
  refine Does.of_answer fun t ht => ?_
  simp only [exec, execMgmtHandshake, if_neg (handshake_served dt conn port ip hm hr hb hl hc), hcert', Host.Outcome.next.injEq] at ht
  generalize hu : ({ s.tick dt with host := { (s.tick dt).host with
      conns := SMap.insert (s.tick dt).host.conns conn ⟨r, cert.anchor == .provisioning, (s.tick dt).tm.mono, 0, 0⟩ } } : State) = u at ht
  have hvalid : u.showConns.fld Reg.TIME_STAT Fld.TIME_STAT_VALID = s.fld Reg.TIME_STAT Fld.TIME_STAT_VALID := by
    rw [State.fld, State.rd_showConns _ (by decide), ← hu]
    rfl
  have hhost : t.host = u.host := by rw [← ht]; split <;> rfl
  have htr (a : Nat) : t.rd a = u.showConns.rd a := by rw [← ht]; split <;> rfl
  refine ⟨by rw [hhost, ← hu]; rfl, ?_, fun h => ?_, fun h => ?_, fun a ha => ?_, State.eq_handshake ?_⟩
  · rw [State.fld, htr, hhost, ← State.fld, State.conns_showConns]
  · rw [if_pos (hvalid.trans h)] at ht
    rw [← ht]
    exact (posted_postArg _ _ u.showConns).congr (by rw [← hu]; rfl) (by rw [← hu]; rfl) rfl
  · rw [if_neg (by rw [hvalid, h]; decide)] at ht
    rw [← ht, ← hu]
    rfl
  · rw [htr, State.rd_showConns a ha, ← hu]
    rfl
  · rw [← ht, ← hu]
    split <;> simp [-State.tick_tags]

theorem handshake_refused_row (dt conn port : Nat) (ip : Word) (cert : ClientCert) (hm : (s.tick dt).mgmtOn = true) (hr : s.recovery = false)
    (hb : (s.tick dt).ipBlocked ip.toNat = false) (hl : s.host.conns.length < 8) (hc : s.mgmtConn conn = none) (hcert : s.certRole port cert = none) :
    Does (.mgmtHandshake dt conn port ip cert) s fun t =>
      t.host.conns = s.host.conns ∧ Posted Ev.MGMT_AUTH_FAIL ip (s.tick dt) t
      ∧ t.fld Reg.HOST_MGMT Fld.HOST_MGMT_AUTH_FAILS = min (s.fld Reg.HOST_MGMT Fld.HOST_MGMT_AUTH_FAILS + 1) 0xFFFF
      ∧ (4 ≤ ((s.tick dt).recentRefusals ip.toNat).length → t.host.blocked = SMap.insert s.host.blocked ip.toNat t.tm.mono)
      ∧ (((s.tick dt).recentRefusals ip.toNat).length < 4 → t.host.blocked = s.host.blocked) ∧ RegsBut [Reg.HOST_MGMT] s t
      ∧ t = { s.tick dt with regs := t.regs, ev := t.ev, host := t.host, recent := t.recent } := by
  have hcert' : (s.tick dt).certRole port cert = none := hcert
  refine Does.of_answer fun t ht => ?_
  simp only [exec, execMgmtHandshake, if_neg (handshake_served dt conn port ip hm hr hb hl hc), hcert', Host.Outcome.next.injEq] at ht
  have htr (a : Nat) : t.rd a = ((s.tick dt).bump Reg.HOST_MGMT Fld.HOST_MGMT_AUTH_FAILS).rd a := by
    rw [← ht, State.authFail]
    dsimp only
    split <;> rfl
  refine ⟨?_, ?_, ?_, fun h => ?_, fun h => ?_, fun a ha => ?_, State.eq_handshake ?_⟩
  · rw [← ht, State.authFail]
    dsimp only
    split <;> rfl
  · rw [← ht, State.authFail]
    dsimp only
    split
    · exact (posted_postArg _ _ (s.tick dt)).congr rfl rfl rfl
    · exact (posted_postArg _ _ (s.tick dt)).congr rfl rfl rfl
  · rw [State.fld, htr, ← State.fld, State.fld_bump_same _ _ _ _ (by decide)]
    rfl
  · rw [← ht, State.authFail, if_pos (by simp; omega)]
    rfl
  · rw [← ht, State.authFail, if_neg (by simp; omega)]
    rfl
  · rw [htr, State.rd_bump_other _ _ _ _ _ fun e => ha (by simp [e])]
    rfl
  · rw [← ht, State.authFail]
    dsimp only
    split <;> simp [-State.tick_tags]

theorem mgmtFormat_row (dt conn op tag : Nat) {c : Conn} (hc : s.mgmtConn conn = some c) (hm : (s.tick dt).mgmtOn = true)
    (h : ([0, 1, 2, 3].all fun n => (s.context n).state == .idle || (s.context n).path != .mgmt || (s.context n).session != conn) = true) :
    Does (.mgmtFormatFrame dt conn op tag) s fun t =>
      t.host.replyBytes = mgmtFrame (0x80 + op % 0x80) tag 2 [] ∧ t.mgmtConn conn = none ∧ RegsBut [Reg.HOST_MGMT] s t
      ∧ t = { s.tick dt with regs := t.regs, host := t.host } := by
  have hc' : (s.tick dt).mgmtConn conn = some c := hc
  refine Does.of_answer fun t ht => ?_
  simp only [exec, execMgmtFormatFrame, State.withConn, hc', hm, if_true, Host.Outcome.next.injEq] at ht
  generalize hv : ({ s.tick dt with host := { (s.tick dt).host with
      conns := SMap.insert (s.tick dt).host.conns conn { c with last := (s.tick dt).tm.mono } } } : State) = v at ht
  obtain ⟨tx, hu⟩ := v.respond_eq op tag 2 []
  have hcu : (v.respond op tag 2 []).mgmtConn conn = some { c with last := (s.tick dt).tm.mono } := by
    rw [hu, ← hv]
    exact SMap.find_insert _ _ _
  obtain ⟨hhost, hregs, hframe⟩ := closeConn_row (v.respond op tag 2 []) conn hcu (by rw [hu, ← hv]; exact h)
  rw [ht] at hhost hregs hframe
  refine ⟨by rw [hhost, hu], ?_, fun a ha => ?_, ?_⟩
  · rw [State.mgmtConn, hhost]
    exact SMap.find_erase _ _
  · rw [hregs a ha, hu, ← hv]
    rfl
  · rw [hu, ← hv] at hframe
    exact hframe

end

/-- Settles O56: a handshake by its certificate, a connection that closes by what its session holds. -/
theorem managementConnectionRows : Obligations.ManagementConnectionRows := by
  refine ⟨fun s dt conn port ip cert r hm hr hb hl hc hcert => handshake_accepted_row dt conn port ip cert r hm hr hb hl hc hcert,
    fun s dt conn port ip cert hm hr hb hl hc hcert => handshake_refused_row dt conn port ip cert hm hr hb hl hc hcert,
    fun s dt ip hany hb => ?_, fun s dt conn c hc hidle h => ?_, fun s dt conn c hc h => ?_, fun s dt conn c hc hidle => ?_,
    fun s dt conn c u op tag hc hm _ h => mgmtFormat_row dt conn op tag hc hm h⟩
  · have h1 : ((s.tick dt).host.blocked.any fun e => e.1 == ip.toNat) = true ∧ (s.tick dt).ipBlocked ip.toNat = false := ⟨hany, hb⟩
    refine Does.of_answer fun t ht => ?_
    simp only [exec, execMgmtBlockExpiry, if_pos h1, Host.Outcome.next.injEq] at ht
    exact ht.symm
  · have hc' : (s.tick dt).mgmtConn conn = some c := hc
    refine Does.of_answer fun t ht => ?_
    simp only [exec, execMgmtIdleTimeout, hc', if_pos hidle, Host.Outcome.next.injEq] at ht
    exact ht ▸ closeConn_row (s.tick dt) conn hc' h
  · have hc' : (s.tick dt).mgmtConn conn = some c := hc
    refine Does.of_answer fun t ht => ?_
    simp only [exec, execMgmtConnectionClose, Host.Outcome.next.injEq] at ht
    exact ht ▸ closeConn_row (s.tick dt) conn hc' h
  · have hc' : (s.tick dt).mgmtConn conn = some c := hc
    refine Does.of_answer fun t ht => ?_
    simp only [exec, execMgmtIdleTimeout, hc', if_neg (Nat.not_le.mpr hidle), Host.Outcome.next.injEq] at ht
    exact ht.symm

end

end Sys2Proof.Machine

namespace Sys2Proof.Machine

open Sys2Proof

section

set_option Elab.async false

section
variable {s : State}

/-! ### Frames of a connection (R737, R738) -/

theorem State.withConn_open {dt conn : Nat} {c : Conn} (h : ConnOpen s dt conn c) (act : Access → State → State) :
    (s.tick dt).withConn conn act = act ⟨.mgmt, c.role, conn⟩ (s.heardConn dt conn c) := by
  have hc : (s.tick dt).mgmtConn conn = some c := h.1
  simp only [State.withConn, hc, h.2, if_true]
  rfl

theorem State.withConn_shut {dt conn : Nat} (h : s.mgmtConn conn = none ∨ (s.tick dt).mgmtOn = false) (act : Access → State → State) :
    (s.tick dt).withConn conn act = s.tick dt := by
  have hc : (s.tick dt).mgmtConn conn = s.mgmtConn conn := rfl
  rw [State.withConn, hc]
  cases hm : s.mgmtConn conn with
  | none => rfl
  | some c => simp [h.resolve_left (by simp [hm])]

theorem State.respond_answered (u : State) (op tag status : Nat) (payload : List Byte) :
    Answered (0x80 + op % 0x80) tag status payload u (u.respond op tag status payload) := by
  obtain ⟨tx, h⟩ := u.respond_eq op tag status payload
  rw [h]
  exact ⟨rfl, rfl, rfl, rfl⟩

theorem State.afterReads_succ (u : State) (acc : Access) (addr k : Nat) :
    u.afterReads acc addr (k + 1) = (u.busRead acc addr).2.afterReads acc (addr + 4) k := by
  have hadd (i : Nat) : addr + 4 * (i + 1) = addr + 4 + 4 * i := by omega
  rw [State.afterReads, List.range_succ_eq_map, List.foldl_cons, List.foldl_map]
  simp only [Nat.succ_eq_add_one, hadd]
  rfl

/-- The words of a read in turn. -/
theorem readWords_eq (n addr : Nat) (acc : Access) (u : State) (ws : List Word) : readWords n addr acc u ws =
    (u.afterReads acc addr n, ws ++ (List.range n).map fun k => ((u.afterReads acc addr k).busRead acc (addr + 4 * k)).1) := by
  induction n generalizing addr u ws with
  | zero => simp [readWords, State.afterReads]
  | succ n ih =>
    have hadd (i : Nat) : addr + 4 * (i + 1) = addr + 4 + 4 * i := by omega
    rw [readWords, ih, State.afterReads_succ, List.range_succ_eq_map, List.map_cons, List.map_map, List.append_assoc, List.singleton_append]
    refine congrArg (Prod.mk _) (congrArg (ws ++ ·) (congrArg (List.cons _) (List.map_congr_left fun k _ => ?_)))
    simp only [Function.comp, Nat.succ_eq_add_one, State.afterReads_succ, hadd]

theorem State.afterWrites_succ (u : State) (acc : Access) (addr : Nat) (w : Word) (ws : List Word) (k : Nat) :
    u.afterWrites acc addr (w :: ws) (k + 1) = (u.write acc addr w).afterWrites acc (addr + 4) ws k := by
  have hadd (i : Nat) : addr + 4 * (i + 1) = addr + 4 + 4 * i := by omega
  rw [State.afterWrites, List.take_succ_cons, List.zipIdx_cons, List.foldl_cons, List.zipIdx_succ, List.foldl_map]
  simp only [hadd]
  rfl

/-- The words of a write in turn, with the status of each. -/
theorem writeWords_eq (ws : List Word) (addr : Nat) (acc : Access) (u : State) (st : List Byte) : writeWords ws addr acc u st =
    (u.afterWrites acc addr ws ws.length, st ++ (List.range ws.length).map fun k => BitVec.ofNat 8
      ((u.afterWrites acc addr ws (k + 1)).wordStatus (u.afterWrites acc addr ws k) (addr + 4 * k))) := by
  induction ws generalizing addr u st with
  | nil => simp [writeWords, State.afterWrites]
  | cons w ws ih =>
    have hadd (i : Nat) : addr + 4 * (i + 1) = addr + 4 + 4 * i := by omega
    rw [writeWords, ih, List.length_cons, State.afterWrites_succ, List.range_succ_eq_map, List.map_cons, List.map_map, List.append_assoc,
      List.singleton_append]
    refine congrArg (Prod.mk _) (congrArg (st ++ ·) (congrArg₂ List.cons ?_ (List.map_congr_left fun k _ => ?_)))
    · rw [State.afterWrites_succ]
      rfl
    · simp only [Function.comp, Nat.succ_eq_add_one, State.afterWrites_succ, hadd]

variable {dt conn : Nat} {c : Conn}

theorem mgmtRead_row (tag addr count : Nat) (h : ConnOpen s dt conn c) (ha : addr % 4 = 0) (h1 : 1 ≤ count) (h2 : count ≤ 256)
    (hend : addr + 4 * count ≤ 0x180000) : Does (.mgmtRead dt conn tag addr count) s fun t =>
      Answered 0x81 tag 0 (wordBytes ((List.range count).map fun k =>
          (((s.heardConn dt conn c).afterReads ⟨.mgmt, c.role, conn⟩ addr k).busRead ⟨.mgmt, c.role, conn⟩ (addr + 4 * k)).1))
        ((s.heardConn dt conn c).afterReads ⟨.mgmt, c.role, conn⟩ addr count) t := by
  refine Does.of_answer fun t ht => ?_
  simp only [exec, execMgmtRead, State.withConn_open h, Host.Outcome.next.injEq] at ht
  rw [if_neg (by omega), if_neg (by omega), if_neg (by omega), readWords_eq, List.nil_append] at ht
  exact ht ▸ State.respond_answered _ 1 tag 0 _

theorem mgmtRead_outOfMap_row (tag addr count : Nat) (h : ConnOpen s dt conn c) (h1 : 1 ≤ count) (h2 : count ≤ 256)
    (hout : addr % 4 ≠ 0 ∨ 0x180000 < addr + 4 * count) :
    Does (.mgmtRead dt conn tag addr count) s fun t => Answered 0x81 tag 3 [] ((s.heardConn dt conn c).setErr 0 ⟨.mgmt, c.role, conn⟩ addr) t := by
  refine Does.of_answer fun t ht => ?_
  simp only [exec, execMgmtRead, State.withConn_open h, Host.Outcome.next.injEq] at ht
  rw [if_neg (by omega), if_neg (by omega), if_pos hout, State.touchOutOfMap_other _ _ _ (show Path.mgmt ≠ Path.host by decide)] at ht
  exact ht ▸ State.respond_answered _ 1 tag 3 _

theorem mgmtRead_count_row (tag addr count : Nat) (h : ConnOpen s dt conn c) (hc : 256 < count ∨ count = 0) :
    Does (.mgmtRead dt conn tag addr count) s fun t => Answered 0x81 tag (if count = 0 then 6 else 4) [] (s.heardConn dt conn c) t := by
  refine Does.of_answer fun t ht => ?_
  simp only [exec, execMgmtRead, State.withConn_open h, Host.Outcome.next.injEq] at ht
  by_cases h0 : count = 0
  · rw [if_neg (by omega), if_pos h0] at ht
    rw [if_pos h0]
    exact ht ▸ State.respond_answered _ 1 tag 6 _
  · rw [if_pos (hc.resolve_right h0)] at ht
    rw [if_neg h0]
    exact ht ▸ State.respond_answered _ 1 tag 4 _

theorem mgmtWrite_row (tag addr : Nat) (ws : List Word) (h : ConnOpen s dt conn c) (ha : addr % 4 = 0) (hend : addr < 0x180000) (h0 : ws ≠ [])
    (h2 : ws.length ≤ 256) : Does (.mgmtWrite dt conn tag addr ws) s fun t =>
      Answered 0x82 tag 0 (((List.range ws.length).map fun k => BitVec.ofNat 8
          (((s.heardConn dt conn c).afterWrites ⟨.mgmt, c.role, conn⟩ addr ws (k + 1)).wordStatus
            ((s.heardConn dt conn c).afterWrites ⟨.mgmt, c.role, conn⟩ addr ws k) (addr + 4 * k)))
          ++ List.replicate ((4 - ws.length % 4) % 4) 0)
        ((s.heardConn dt conn c).afterWrites ⟨.mgmt, c.role, conn⟩ addr ws ws.length) t := by
  have hin : ¬ outOfMap addr = true := by simp [outOfMap, ha]; omega
  refine Does.of_answer fun t ht => ?_
  simp only [exec, execMgmtWrite, State.withConn_open h, Host.Outcome.next.injEq] at ht
  rw [if_neg (by omega), if_neg (by simpa using h0), if_neg hin, writeWords_eq, List.nil_append, List.length_map, List.length_range] at ht
  exact ht ▸ State.respond_answered _ 2 tag 0 _

theorem mgmtWrite_count_row (tag addr : Nat) (ws : List Word) (h : ConnOpen s dt conn c) (hc : 256 < ws.length ∨ ws = []) :
    Does (.mgmtWrite dt conn tag addr ws) s fun t => Answered 0x82 tag (if ws = [] then 6 else 4) [] (s.heardConn dt conn c) t := by
  refine Does.of_answer fun t ht => ?_
  simp only [exec, execMgmtWrite, State.withConn_open h, Host.Outcome.next.injEq] at ht
  by_cases h0 : ws = []
  · rw [if_neg (by simp [h0]), if_pos (by simp [h0])] at ht
    rw [if_pos h0]
    exact ht ▸ State.respond_answered _ 2 tag 6 _
  · rw [if_pos (hc.resolve_right h0)] at ht
    rw [if_neg h0]
    exact ht ▸ State.respond_answered _ 2 tag 4 _

theorem subscribe_row (tag mask : Nat) (h : ConnOpen s dt conn c) :
    Does (.subscribe dt conn tag mask) s fun t =>
      t.mgmtConn conn = some { c with
        last := t.tm.mono, mask := mask % 256, sentSeq := (if c.mask = 0 then (s.eventLog.getLast?).elim 0 (fun e => e.seq + 1) else c.sentSeq) }
      ∧ t.host.replyBytes = mgmtFrame 0x85 tag 0 [] ∧ t.host.status = 0 ∧ RegsBut [Reg.HOST_MGMT] s t
      ∧ t = { s.tick dt with regs := t.regs, host := t.host } := by
  have hconn : (s.heardConn dt conn c).mgmtConn conn = some { c with last := (s.tick dt).tm.mono } := SMap.find_insert _ _ _
  refine Does.of_answer fun t ht => ?_
  simp only [exec, execSubscribe, State.withConn_open h, hconn, Host.Outcome.next.injEq] at ht
  have hlog : (s.heardConn dt conn c).eventLog = s.eventLog := rfl
  have ht' : ({ s.heardConn dt conn c with host := { (s.heardConn dt conn c).host with
      conns := SMap.insert (s.heardConn dt conn c).host.conns conn { c with
        last := (s.tick dt).tm.mono, mask := mask % 256
        sentSeq := if c.mask = 0 then (s.eventLog.getLast?).elim 0 (fun e => e.seq + 1) else c.sentSeq } } } : State).showConns.respond 5 tag 0 [] = t := by
    rw [← ht, hlog]
    cases s.eventLog.getLast? <;> rfl
  clear ht
  generalize hv : ({ s.heardConn dt conn c with host := { (s.heardConn dt conn c).host with
      conns := SMap.insert (s.heardConn dt conn c).host.conns conn { c with
        last := (s.tick dt).tm.mono, mask := mask % 256
        sentSeq := if c.mask = 0 then (s.eventLog.getLast?).elim 0 (fun e => e.seq + 1) else c.sentSeq } } } : State) = v at ht'
  rename' ht' => ht
  obtain ⟨tx, hr⟩ := v.showConns.respond_eq 5 tag 0 []
  rw [hr] at ht
  refine ⟨?_, by rw [← ht], by rw [← ht], fun a ha => ?_, State.eq_regs_host ?_⟩
  · rw [← ht, ← hv]
    exact SMap.find_insert _ _ _
  · have htr : t.rd a = v.showConns.rd a := by rw [← ht]; rfl
    rw [htr, State.rd_showConns a ha, ← hv]
    rfl
  · rw [← ht, ← hv]
    simp [-State.tick_tags, State.heardConn]

/-! ### Events to a subscriber (R739) -/

theorem State.ethSends_eq (s : State) (l : List (List Byte)) : ∃ tx, l.foldl State.ethSend s = { s with host := { s.host with ethTx := tx } } := by
  induction l generalizing s with
  | nil => exact ⟨s.host.ethTx, rfl⟩
  | cons bs l ih =>
    obtain ⟨tx, htx⟩ := s.ethSend_eq bs
    obtain ⟨tx', h⟩ := ih (s.ethSend bs)
    exact ⟨tx', by rw [List.foldl_cons, h, htx]⟩

theorem eventFrames_one (l : List EvEntry) (h : l ≠ []) (hl : l.length ≤ 4096) : eventFrames l = [mgmtFrame 6 0 0 (l.flatMap evBytes)] := by
  have h0 : 0 < l.length := List.length_pos_iff.mpr h
  have h1 : (l.length + 4095) / 4096 = 1 := by omega
  simp [eventFrames, h1, List.take_of_length_le hl]

/-- The log has not lost an entry that the connection has yet to be sent. -/
def State.logLost (s : State) (c : Conn) : Bool :=
  match s.eventLog.head? with
  | some e => decide (524288 ≤ s.eventLog.length) && decide (c.sentSeq < e.seq)
  | none => false

theorem State.logLost_of_short (s : State) (c : Conn) (h : s.eventLog.length < 524288) : s.logLost c = false := by
  unfold State.logLost
  split
  · simp; omega
  · rfl

/-- The sequence number from which the connection's next delivery goes. -/
def State.logNext (s : State) (c : Conn) : Nat :=
  match s.eventLog.getLast? with
  | some e => max c.sentSeq (e.seq + 1)
  | none => c.sentSeq

/-- The entries that the connection's next delivery carries. -/
def State.logFresh (s : State) (c : Conn) : List EvEntry := s.eventLog.filter fun e => decide (c.sentSeq ≤ e.seq) && c.mask.testBit e.cls

/-- What a delivery to a connection does. -/
def State.deliverTo (s : State) (conn : Nat) (c : Conn) : State :=
  if c.mask = 0 ∨ s.mgmtOn = false then s
  else
    let out := (if s.logLost c then [s.logLoss.1] else []) ++ s.logFresh c
    let u := (eventFrames out).foldl State.ethSend (if s.logLost c then s.logLoss.2 else s)
    if out.isEmpty then s
    else { u with host := { u.host with
      conns := SMap.insert u.host.conns conn { c with sentSeq := s.logNext c }
      sent := SMap.put (fun _ => []) u.host.sent conn out
      replyBytes := (eventFrames out).flatten } }

theorem exec_eventDelivery (hc : s.mgmtConn conn = some c) : exec (.eventDelivery dt conn) s = .next ((s.tick dt).deliverTo conn c) := by
  have hc' : (s.tick dt).mgmtConn conn = some c := hc
  simp only [exec, execEventDelivery, hc', State.deliverTo]
  split
  · rfl
  · exact (apply_ite Host.Outcome.next _ _ _).symm

/-- A delivery from a log that has lost none. -/
theorem State.deliverTo_of_short (hl : s.eventLog.length < 524288) : s.deliverTo conn c =
    if c.mask = 0 ∨ s.mgmtOn = false ∨ s.logFresh c = [] then s
    else
      let u := (eventFrames (s.logFresh c)).foldl State.ethSend s
      { u with host := { u.host with
        conns := SMap.insert u.host.conns conn { c with sentSeq := s.logNext c }
        sent := SMap.put (fun _ => []) u.host.sent conn (s.logFresh c)
        replyBytes := (eventFrames (s.logFresh c)).flatten } } := by
  simp only [State.deliverTo, s.logLost_of_short c hl, Bool.false_eq_true, if_false, List.nil_append]
  by_cases hm : c.mask = 0 ∨ s.mgmtOn = false
  · rw [if_pos hm, if_pos (hm.imp_right .inl)]
  · rw [if_neg hm]
    by_cases hf : s.logFresh c = []
    · simp [hf]
    · rw [if_neg (by simpa using hf), if_neg (by tauto)]

theorem eventDelivery_row (l : List EvEntry) (h : ConnOpen s dt conn c) (hlog : s.eventLog.length < 524288)
    (hl : l = s.eventLog.filter (fun e => decide (c.sentSeq ≤ e.seq) && c.mask.testBit e.cls)) (hne : l ≠ []) :
    Does (.eventDelivery dt conn) s fun t =>
      SMap.get (fun _ => []) t.host.sent conn = l ∧ t.host.replyBytes = (eventFrames l).flatten
      ∧ (l.length ≤ 4096 → t.host.replyBytes = mgmtFrame 6 0 0 (l.flatMap evBytes))
      ∧ (t.mgmtConn conn).map (·.sentSeq) = (s.eventLog.getLast?).map (fun e => max c.sentSeq (e.seq + 1))
      ∧ (t.mgmtConn conn).map (·.mask) = some c.mask ∧ t = { s.tick dt with host := t.host } := by
  have hfresh : s.logFresh c = l := hl.symm
  have hmask : c.mask ≠ 0 := by
    intro h0
    apply hne
    rw [hl, h0]
    simp
  have hlast : some (s.logNext c) = (s.eventLog.getLast?).map (fun e => max c.sentSeq (e.seq + 1)) := by
    have hlogne : s.eventLog ≠ [] := fun h0 => hne (by rw [hl, h0]; rfl)
    rw [State.logNext, List.getLast?_eq_getLast_of_ne_nil hlogne]
    rfl
  refine Does.of_eq (exec_eventDelivery h.1) fun t ht => ?_
  obtain ⟨tx, hu⟩ := (s.tick dt).ethSends_eq (eventFrames l)
  have hfresh' : (s.tick dt).logFresh c = l := hfresh
  have hlog' : (s.tick dt).eventLog.length < 524288 := hlog
  rw [State.deliverTo_of_short hlog', hfresh', if_neg (by simp [hmask, h.2, hne]), hu] at ht
  have hconn : t.mgmtConn conn = some { c with sentSeq := s.logNext c } := by rw [ht]; exact SMap.find_insert _ _ _
  refine ⟨by rw [ht]; exact SMap.get_put_same _ _ _ _, by rw [ht], fun hlen => ?_, ?_, by rw [hconn]; rfl, by rw [ht]⟩
  · rw [ht, eventFrames_one l hne hlen]
    simp
  · rw [hconn]
    exact hlast

theorem eventDelivery_none_row (hc : s.mgmtConn conn = some c) (hlog : s.eventLog.length < 524288)
    (hl : s.eventLog.filter (fun e => decide (c.sentSeq ≤ e.seq) && c.mask.testBit e.cls) = []) :
    Does (.eventDelivery dt conn) s fun t => t = s.tick dt :=
  Does.of_eq (exec_eventDelivery hc) fun _ ht =>
    ht.trans ((State.deliverTo_of_short (s := s.tick dt) hlog).trans (if_pos (.inr (.inr hl))))

end

end

end Sys2Proof.Machine

namespace Sys2Proof.Machine

open Sys2Proof

section

set_option Elab.async false

section
variable {s t u : State} {n : Nat}

/-! ### What the end of a session leaves as it is (R479, R481) -/

/-- A step of an end that has begun: the outlet's reason, the mark of the end and the other outlets stand, and its state stays or goes on. -/
structure EndStep (n : Nat) (s t : State) : Prop where
  reason : t.reason n = s.reason n
  endCycle : (t.otl n).endCycle = (s.otl n).endCycle
  tally : (t.otl n).tally = (s.otl n).tally
  stopAt : (t.otl n).stopAt = (s.otl n).stopAt
  tm : t.tm = s.tm
  state : t.oState n = s.oState n ∨ 8 ≤ t.oState n
  others : OthersStay n s t

theorem EndStep.refl (n : Nat) (s : State) : EndStep n s s :=
  ⟨rfl, rfl, rfl, rfl, rfl, .inl rfl, fun _ _ _ => ⟨rfl, rfl⟩⟩

theorem EndStep.trans (h : EndStep n s t) (h' : EndStep n t u) : EndStep n s u where
  reason := h'.reason.trans h.reason
  endCycle := h'.endCycle.trans h.endCycle
  tally := h'.tally.trans h.tally
  stopAt := h'.stopAt.trans h.stopAt
  tm := h'.tm.trans h.tm
  state := h'.state.elim (fun e => h.state.elim (fun e' => .inl (e.trans e')) fun h8 => .inr (e ▸ h8)) .inr
  others := fun k hk hne => ⟨(h'.others k hk hne).1.trans (h.others k hk hne).1, (h'.others k hk hne).2.trans (h.others k hk hne).2⟩

/-- A step that writes neither the outlet's status nor the outlets' and the stages' parts. -/
theorem EndStep.of_parts (hrd : t.rd (Reg.OUTL_O_STAT n) = s.rd (Reg.OUTL_O_STAT n)) (houtl : t.outl = s.outl) (houts : t.outs = s.outs)
    (htm : t.tm = s.tm) : EndStep n s t where
  reason := by rw [State.reason, State.fld, hrd]; rfl
  endCycle := by rw [State.otl, houtl]; rfl
  tally := by rw [State.otl, houtl]; rfl
  stopAt := by rw [State.otl, houtl]; rfl
  tm := htm
  state := .inl (by rw [State.oState, State.fld, hrd]; rfl)
  others := fun k _ _ => ⟨by rw [State.otl, houtl]; rfl, by rw [State.stg, houts]; rfl⟩

theorem EndStep.setF (s : State) (a : Nat) (f : Field) (v : Nat) (h : a ≠ Reg.OUTL_O_STAT n) : EndStep n s (s.setF a f v) :=
  EndStep.of_parts (State.rd_setF_other _ _ _ _ _ h) rfl rfl rfl

theorem EndStep.setStg (s : State) (v : Stage) : EndStep n s (s.setStg n v) where
  reason := rfl
  endCycle := rfl
  tally := rfl
  stopAt := rfl
  tm := rfl
  state := .inl rfl
  others := fun _ _ hk => ⟨rfl, SMap.get_put_other _ _ _ _ _ (Ne.symm hk)⟩

theorem State.otl_setOtl_same (s : State) (n : Nat) (v : Outlet) : (s.setOtl n v).otl n = v := SMap.get_put_same _ _ _ _

theorem EndStep.setOtl (s : State) (v : Outlet) (hc : v.endCycle = (s.otl n).endCycle) (ht : v.tally = (s.otl n).tally)
    (hs : v.stopAt = (s.otl n).stopAt) : EndStep n s (s.setOtl n v) where
  reason := rfl
  endCycle := by rw [State.otl_setOtl_same, hc]
  tally := by rw [State.otl_setOtl_same, ht]
  stopAt := by rw [State.otl_setOtl_same, hs]
  tm := rfl
  state := .inl rfl
  others := fun _ _ hk => ⟨SMap.get_put_other _ _ _ _ _ (Ne.symm hk), rfl⟩

theorem EndStep.disch (s : State) (b : Bool) : EndStep n s (s.disch n b) where
  reason := State.fld_setF_field _ _ _ _ _ (by decide) (by decide)
  endCycle := rfl
  tally := rfl
  stopAt := rfl
  tm := rfl
  state := .inl (State.fld_setF_field _ _ _ _ _ (by decide) (by decide))
  others := fun _ _ _ => ⟨rfl, rfl⟩

theorem EndStep.toMeter (n : Nat) (s : State) (l : List (Nat × Bool × Count)) :
    EndStep n s { s with outl := { s.outl with toMeter := l } } :=
  ⟨rfl, rfl, rfl, rfl, rfl, .inl rfl, fun _ _ _ => ⟨rfl, rfl⟩⟩

/-- The outlet enters a later state of its end. -/
theorem EndStep.setState (s : State) (v : Nat) (h8 : 8 ≤ v) (h16 : v < 16) : EndStep n s (s.setO n Fld.OUTL_O_STAT_STATE v) where
  reason := State.fld_setF_field _ _ _ _ _ (by decide) (by decide)
  endCycle := rfl
  tally := rfl
  stopAt := rfl
  tm := rfl
  state := .inr (by
    rw [State.oState, State.setO, State.fld_setF_same _ _ _ _ (by decide)]
    exact (Nat.mod_eq_of_lt (by simpa [Fld.OUTL_O_STAT_STATE] using h16)).symm ▸ h8)
  others := fun _ _ _ => ⟨rfl, rfl⟩

theorem EndStep.showOutl (s : State) (hn : n < 8) : EndStep n s s.showOutl := by
  have hne : Reg.OUTL_STAT ≠ Reg.OUTL_O_STAT n := by simp only [Reg.OUTL_STAT, Reg.OUTL_O_STAT]; omega
  exact (((EndStep.setF _ _ _ _ hne).trans (EndStep.setF _ _ _ _ hne)).trans (EndStep.setF _ _ _ _ hne)).trans (EndStep.setF _ _ _ _ hne)

theorem EndStep.enterO (s : State) (v : Nat) (hn : n < 8) (h8 : 8 ≤ v) (h16 : v < 16) : EndStep n s (s.enterO n v) := by
  have hshown : EndStep n s (((s.setO n Fld.OUTL_O_STAT_STATE v).setOtl n { (s.setO n Fld.OUTL_O_STAT_STATE v).otl n with
      since := (s.setO n Fld.OUTL_O_STAT_STATE v).tm.mono, step := 0, stepAt := (s.setO n Fld.OUTL_O_STAT_STATE v).tm.mono }).showOutl) :=
    ((EndStep.setState s v h8 h16).trans (EndStep.setOtl _ _ (by rfl) (by rfl) (by rfl))).trans (EndStep.showOutl _ hn)
  unfold State.enterO
  dsimp only
  split
  · exact hshown.trans (EndStep.of_parts (State.rd_of_outside (by simp) _) (State.outl_of_outside (by simp)) (State.outs_of_outside (by simp))
      (State.tm_of_outside (by simp)))
  · exact hshown

theorem EndStep.stageStop (s : State) : EndStep n s (s.stageStop n) := by
  have hne : Reg.OUTS_O_STAT n ≠ Reg.OUTL_O_STAT n := by simp only [Reg.OUTS_O_STAT, Reg.OUTL_O_STAT]; omega
  unfold State.stageStop
  dsimp only
  split
  · exact (((EndStep.setF _ _ _ _ hne).trans (EndStep.setF _ _ _ _ hne)).trans (EndStep.setStg _ _)).trans (EndStep.setStg _ _)
  · exact EndStep.refl n s

theorem EndStep.contactors (s : State) (b : Bool) : EndStep n s (s.contactors n b) := by
  unfold State.contactors
  split
  · exact EndStep.refl n s
  · exact EndStep.setOtl _ _ (by rfl) (by rfl) (by rfl)

theorem EndStep.endDone (s : State) (hn : n < 8) : EndStep n s (s.endDone n) := by
  have hv : 8 ≤ (if faultReason (s.reason n) && (s.otl n).ending == 2 then 11 else 10)
      ∧ (if faultReason (s.reason n) && (s.otl n).ending == 2 then 11 else 10) < 16 := by split <;> omega
  unfold State.endDone
  exact ((EndStep.enterO s _ hn hv.1 hv.2).trans (EndStep.setOtl _ _ (by rfl) (by rfl) (by rfl))).trans ((EndStep.toMeter _ _ _).trans (EndStep.disch _ _))

theorem EndStep.opened (s : State) (hn : n < 8) : EndStep n s (s.opened n) := by
  unfold State.opened
  dsimp only
  have hweld : EndStep n s ((s.enterO n 9).disch n true) := (EndStep.enterO s 9 hn (by omega) (by omega)).trans (EndStep.disch _ _)
  split
  · exact hweld
  · split
    · exact EndStep.endDone s hn
    · split
      · exact hweld
      · split
        · exact EndStep.endDone s hn
        · exact EndStep.refl n s

theorem EndStep.windEnd (s : State) (hn : n < 8) : EndStep n s (s.windEnd n) := by
  unfold State.windEnd
  dsimp only
  split
  · exact EndStep.refl n s
  · split
    · split
      · exact (EndStep.stageStop s).trans (EndStep.contactors _ _)
      · exact EndStep.refl n s
    · split
      · exact EndStep.opened s hn
      · exact EndStep.refl n s

theorem EndStep.setIEv (s : State) (a : Nat) : EndStep n s (s.setIEv n a) := by
  have hne : Reg.OUTL_O_EVI n ≠ Reg.OUTL_O_STAT n := by simp only [Reg.OUTL_O_EVI, Reg.OUTL_O_STAT]; omega
  exact (EndStep.setStg _ _).trans (EndStep.setF _ _ _ _ hne)

theorem endBegun_of_marked {r : Nat} {b : State} (hr : emergencyReason r = false) (hreason : b.reason n = r)
    (hc : (b.otl n).endCycle = some s.tm.cycleN) (ht : (b.otl n).tally = 1) (hs : (b.otl n).stopAt = b.tm.mono)
    (hst : b.oState n = s.oState n) (ho : OthersStay n s b) {w : State} (hw : EndStep n b w) : EndBegun n r s w := by
  refine ⟨hw.reason.trans hreason, hw.endCycle.trans hc, ?_, ?_, hw.state.imp_left (·.trans hst), fun k hk hne => ?_⟩
  · rw [hw.tally, ht, hr]
    rfl
  · rw [hw.stopAt, hs, hw.tm]
  · exact ⟨(hw.others k hk hne).1.trans (ho k hk hne).1, (hw.others k hk hne).2.trans (ho k hk hne).2⟩

/-- The outlet with a normal end's cause, cycle and marks. -/
def State.endMarked (s : State) (n r : Nat) : State :=
  let s1 := (s.setO n Fld.OUTL_O_STAT_REASON r).setOtl n { s.otl n with endCycle := some s.tm.cycleN }
  s1.setOtl n { s1.otl n with ending := 1, stopAt := s1.tm.mono, tally := 1 }

theorem State.reason_endMarked (s : State) (n r : Nat) (h : r < 16) : (s.endMarked n r).reason n = r := by
  have h' : (s.endMarked n r).reason n = (s.setF (Reg.OUTL_O_STAT n) Fld.OUTL_O_STAT_REASON r).fld (Reg.OUTL_O_STAT n) Fld.OUTL_O_STAT_REASON := rfl
  rw [h', State.fld_setF_same _ _ _ _ (by decide)]
  exact Nat.mod_eq_of_lt h

theorem State.oState_endMarked (s : State) (n r : Nat) : (s.endMarked n r).oState n = s.oState n := by
  have h' : (s.endMarked n r).oState n = (s.setF (Reg.OUTL_O_STAT n) Fld.OUTL_O_STAT_REASON r).fld (Reg.OUTL_O_STAT n) Fld.OUTL_O_STAT_STATE := rfl
  rw [h', State.fld_setF_field _ _ _ _ _ (by decide) (by decide)]
  rfl

/-- A normal end cause of a session in which no end has begun begins one (R479). -/
theorem endBegun_endCause (r : Nat) (h : SessionRuns s n) (hr : emergencyReason r = false) (hr16 : r < 16) :
    EndBegun n r s (s.endCause n r) := by
  obtain ⟨hn, h2, h7, hending, htally⟩ := h
  have hotl : (s.endMarked n r).otl n = { s.otl n with endCycle := some s.tm.cycleN, ending := 1, stopAt := s.tm.mono, tally := 1 } := by
    rw [State.endMarked, State.otl_setOtl_same, State.otl_setOtl_same]
    rfl
  have hothers : OthersStay n s (s.endMarked n r) := fun k _ hk =>
    ⟨(SMap.get_put_other _ _ _ _ _ (Ne.symm hk)).trans (SMap.get_put_other _ _ _ _ _ (Ne.symm hk)), rfl⟩
  have hw {w : State} (hw : EndStep n (s.endMarked n r) w) : EndBegun n r s w :=
    endBegun_of_marked hr (s.reason_endMarked n r hr16) (by rw [hotl]) (by rw [hotl]) (by rw [hotl]; rfl) (s.oState_endMarked n r) hothers hw
  have hno : ¬ ((s.otl n).endCycle = some s.tm.cycleN ∧ 2 ≤ s.oState n ∧ (s.otl n).tally ≠ 0) := by simp [htally]
  have he : s.endCause n r = (if (s.endMarked n r).oState n = 7 then
      (((s.endMarked n r).setOtl n { (s.endMarked n r).otl n with told := .stop }).enterO n 8).setIEv n 0
      else ((s.endMarked n r).stageStop n).windEnd n) := by
    simp only [State.endCause, if_neg hno, hr, Bool.false_and, Bool.false_eq_true, if_false]
    rw [if_pos (by simp [h2, h7, hending])]
    rfl
  rw [he]
  split
  · exact hw (((EndStep.setOtl _ _ (by rfl) (by rfl) (by rfl)).trans (EndStep.enterO _ 8 hn (by omega) (by omega))).trans (EndStep.setIEv _ 0))
  · exact hw ((EndStep.stageStop _).trans (EndStep.windEnd _ hn))

/-! ### The management client (R741) -/

theorem csmsMessage_stop_row (dt : Nat) (hu : s.host.csmsUp = true) (hm : (s.tick dt).mgmtOn = true) (h : SessionRuns (s.tick dt) n) :
    Does (.csmsMessage dt (.stop n)) s fun t => EndBegun n 3 (s.tick dt) t := by
  have hno : ¬ ((s.tick dt).host.csmsUp = false ∨ (s.tick dt).mgmtOn = false) := by simp [hu, hm]
  refine Does.of_answer fun t ht => ?_
  simp only [exec, execCsmsMessage, if_neg hno, Nat.mod_eq_of_lt h.1, Host.Outcome.next.injEq] at ht
  exact ht ▸ endBegun_endCause 3 h (by decide) (by decide)

end

/-- Settles O57: each frame by its count and address, a delivery by what the log holds for the connection, a message of the client by its kind. -/
theorem managementFrameRows : Obligations.ManagementFrameRows := by
  refine ⟨fun s dt conn c tag addr count h ha h1 h2 hend => mgmtRead_row tag addr count h ha h1 h2 hend,
    fun s dt conn c tag addr count h h1 h2 hout => mgmtRead_outOfMap_row tag addr count h h1 h2 hout,
    fun s dt conn c tag addr count h hc => mgmtRead_count_row tag addr count h hc,
    fun s dt conn c tag addr ws h ha hend h0 h2 => mgmtWrite_row tag addr ws h ha hend h0 h2,
    fun s dt conn c tag addr ws h hc => mgmtWrite_count_row tag addr ws h hc, fun s dt conn c tag h => ?_,
    fun s dt conn c tag mask h => subscribe_row tag mask h, fun s dt conn tag addr count h => ?_, fun s dt conn tag addr ws h => ?_,
    fun s dt conn tag h => ?_, fun s dt conn tag mask h => ?_, fun s dt conn c l h hlog hl hne => eventDelivery_row l h hlog hl hne,
    fun s dt conn c hc hlog hl => eventDelivery_none_row hc hlog hl, fun s dt n hu hm h => csmsMessage_stop_row dt hu hm h,
    fun s dt cap hu hm => ?_, fun s dt n p bs u hn hu hm he => ?_, fun s dt n cls hn hu hm => ?_, fun s dt msg h => ?_, fun s dt hu => ?_,
    fun s dt hu => ?_, fun s dt hm => ?_⟩
  · refine Does.of_answer fun t ht => ?_
    simp only [exec, execPing, State.withConn_open h, Host.Outcome.next.injEq] at ht
    exact ht ▸ State.respond_answered _ 7 tag 0 _
  · exact Does.of_eq (congrArg Host.Outcome.next (State.withConn_shut h _)) fun t ht => ht
  · exact Does.of_eq (congrArg Host.Outcome.next (State.withConn_shut h _)) fun t ht => ht
  · exact Does.of_eq (congrArg Host.Outcome.next (State.withConn_shut h _)) fun t ht => ht
  · exact Does.of_eq (congrArg Host.Outcome.next (State.withConn_shut h _)) fun t ht => ht
  · have hno : ¬ ((s.tick dt).host.csmsUp = false ∨ (s.tick dt).mgmtOn = false) := by simp [hu, hm]
    refine Does.of_answer fun t ht => ?_
    simp only [exec, execCsmsMessage, if_neg hno, Host.Outcome.next.injEq] at ht
    exact ht.symm
  · have hno : ¬ ((s.tick dt).host.csmsUp = false ∨ (s.tick dt).mgmtOn = false) := by simp [hu, hm]
    refine Does.of_answer fun t ht => ?_
    simp only [exec, execCsmsMessage, if_neg hno, Nat.mod_eq_of_lt hn, Host.Outcome.next.injEq] at ht
    have ht' : ({ u with host := { u.host with objects := SMap.put (fun _ => []) u.host.objects (profileOid n) bs } } : State) = t := he ▸ ht
    rw [← ht']
    exact ⟨SMap.get_put_same _ _ _ _, rfl⟩
  · have hno : ¬ ((s.tick dt).host.csmsUp = false ∨ (s.tick dt).mgmtOn = false) := by simp [hu, hm]
    refine Does.of_answer fun t ht => ?_
    simp only [exec, execCsmsMessage, if_neg hno, Nat.mod_eq_of_lt hn, Host.Outcome.next.injEq] at ht
    exact ht.symm
  · have hyes : (s.tick dt).host.csmsUp = false ∨ (s.tick dt).mgmtOn = false := h
    refine Does.of_answer fun t ht => ?_
    simp only [exec, execCsmsMessage, if_pos hyes, Host.Outcome.next.injEq] at ht
    exact ht.symm
  · have hno : ¬ (s.tick dt).host.csmsUp = true := by simp [hu]
    refine Does.of_answer fun t ht => ?_
    simp only [exec, execCsmsConnectFail, if_neg hno] at ht
    by_cases hf : s.host.csmsFails < 2
    · rw [if_pos (show (s.tick dt).host.csmsFails < 2 from hf), Host.Outcome.next.injEq] at ht
      rw [if_pos hf, ← ht]
      exact ⟨rfl, rfl⟩
    · rw [if_neg (show ¬ (s.tick dt).host.csmsFails < 2 from hf), Host.Outcome.next.injEq] at ht
      rw [if_neg hf, ← ht]
      exact ⟨rfl, rfl⟩
  · have hyes : (s.tick dt).host.csmsUp = true := hu
    refine Does.of_answer fun t ht => ?_
    simp only [exec, execCsmsConnectFail, if_pos hyes, Host.Outcome.next.injEq] at ht
    exact ht.symm
  · refine Does.of_answer fun t ht => ?_
    simp only [exec, execCsmsConnected, if_pos hm, Host.Outcome.next.injEq] at ht
    exact ht.symm

end

end Sys2Proof.Machine

namespace Sys2Proof.Machine

open Sys2Proof

section

set_option Elab.async false

variable {s t u : State}

/-! ### The registers of the metrology die: what a write leaves, and what a tamper entry changes (R582) -/

theorem State.drd_dwr (a b : Nat) (v : Word) : (s.dwr a v).drd b = if b = a then v else s.drd b :=
  (SMap.get_put ..).trans (if_congr eq_comm rfl rfl)

@[simp] theorem State.drd_dwr_same (a : Nat) (v : Word) : (s.dwr a v).drd a = v := SMap.get_put_same ..

theorem State.drd_dwr_other {a b : Nat} (v : Word) (h : b ≠ a) : (s.dwr a v).drd b = s.drd b := by rw [State.drd_dwr, if_neg h]

@[simp] theorem State.drd_tick (dt a : Nat) : (s.tick dt).drd a = s.drd a := rfl

@[simp] theorem State.drd_setMetr (m : MetrPart) (a : Nat) : (s.setMetr m).drd a = s.drd a := rfl

@[simp] theorem State.drd_setDch (c : Nat) (v : DieChan) (a : Nat) : (s.setDch c v).drd a = s.drd a := rfl

@[simp] theorem State.drd_dieEvent (code : Nat) (arg : Word) (a : Nat) : (s.dieEvent code arg).drd a = s.drd a := rfl

theorem State.drd_dwr64_other {a b v : Nat} (h : b ≠ a) (h' : b ≠ a + 4) : (s.dwr64 a v).drd b = s.drd b := by
  rw [State.dwr64, State.drd_dwr_other _ h', State.drd_dwr_other _ h]

theorem State.d64_dwr64_same (a : Nat) {v : Nat} (h : v < 2 ^ 64) : (s.dwr64 a v).d64 a = v := by
  rw [State.d64, State.dwr64, State.drd_dwr_same, State.drd_dwr_other _ (by omega), State.drd_dwr_same, BitVec.toNat_ofNat, BitVec.toNat_ofNat]
  omega

/-- A 64-bit count stands in two registers of the die. -/
theorem State.d64_dwr64_count (a : Nat) (c : Count) : (s.dwr64 a c.toNat).d64 a = c.toNat := State.d64_dwr64_same a c.isLt

theorem State.dfld_dsetF_same (a : Nat) (f : Field) (v : Nat) (h : f.lo + f.width ≤ 32) : (s.dsetF a f v).dfld a f = v % 2 ^ f.width := by
  rw [State.dfld, State.dsetF, State.drd_dwr_same, fget_fset_same f _ v h]

theorem State.drd_dsetF_other {a b : Nat} (f : Field) (v : Nat) (h : b ≠ a) : (s.dsetF a f v).drd b = s.drd b := State.drd_dwr_other _ h

theorem drd_foldl {α : Type} {f : State → α → State} {a : Nat} (l : List α) (h : ∀ t, ∀ x ∈ l, (f t x).drd a = t.drd a) (s : State) :
    (l.foldl f s).drd a = s.drd a := by
  induction l generalizing s with
  | nil => rfl
  | cons x l ih => rw [List.foldl_cons, ih (fun t y hy => h t y (List.mem_cons_of_mem _ hy)), h s x (List.mem_cons_self ..)]

theorem State.metr_dieEvent (code : Nat) (arg : Word) :
    (s.dieEvent code arg).metr = { s.metr with events := s.metr.events ++ [(code, s.dieTs, arg)] } := rfl

theorem dieTold_dieEvent (code : Nat) (arg : Word) : DieTold code arg (s.dieEvent code arg) := by
  simp [State.dieEvent, State.setMetr]

@[simp] theorem State.dieTs_dwr (a : Nat) (v : Word) : (s.dwr a v).dieTs = s.dieTs := rfl

@[simp] theorem State.dieTs_dwr64 (a v : Nat) : (s.dwr64 a v).dieTs = s.dieTs := rfl

@[simp] theorem State.dieTs_setMem (m : DieMem) : (s.setMem m).dieTs = s.dieTs := rfl

@[simp] theorem State.metr_setMem (m : DieMem) : (s.setMem m).metr = s.metr := rfl

@[simp] theorem State.dieTs_dieEvent (code : Nat) (arg : Word) : (s.dieEvent code arg).dieTs = s.dieTs := rfl

@[simp] theorem State.metr_dwr (a : Nat) (v : Word) : (s.dwr a v).metr = s.metr := rfl

@[simp] theorem State.metr_dwr64 (a v : Nat) : (s.dwr64 a v).metr = s.metr := rfl

/-- The count of a tamper type, raised, and the time of its first entry (R582). -/
def State.tamperCount (s : State) (k : Nat) : State :=
  let n := (s.drd (Reg.BILL_TAMP_CNT k)).toNat
  let s1 := s.dwr (Reg.BILL_TAMP_CNT k) (BitVec.ofNat 32 (min (n + 1) 0xFFFFFFFF))
  if n = 0 then s1.dwr64 (Reg.BILL_TAMP_FIRST_LO k) s.dieTs.toNat else s1

/-- A tamper entry: the type's count, the time of its last entry, the mark of the open sessions, the event (R582). -/
theorem State.tamper_eq (k g : Nat) : ∃ m : DieMem, m.regs = ((s.tamperCount k).dwr64 (Reg.BILL_TAMP_LAST_LO k) s.dieTs.toNat).bill.mem.regs
    ∧ s.tamper k g = (((s.tamperCount k).dwr64 (Reg.BILL_TAMP_LAST_LO k) s.dieTs.toNat).setMem m).dieEvent Ev.BILL_TAMPER (evArg g 0 k) := by
  let u := (s.tamperCount k).dwr64 (Reg.BILL_TAMP_LAST_LO k) s.dieTs.toNat
  refine ⟨{ u.bill.mem with sess := noteTamper u.bill.mem.sess k }, rfl, rfl⟩

@[simp] theorem State.dieTs_tamperCount (k : Nat) : (s.tamperCount k).dieTs = s.dieTs := by
  simp only [State.tamperCount]
  split <;> simp

@[simp] theorem State.metr_tamperCount (k : Nat) : (s.tamperCount k).metr = s.metr := by
  simp only [State.tamperCount]
  split <;> simp

theorem State.drd_tamper (k g a : Nat) : (s.tamper k g).drd a = ((s.tamperCount k).dwr64 (Reg.BILL_TAMP_LAST_LO k) s.dieTs.toNat).drd a := by
  obtain ⟨m, hm, he⟩ := s.tamper_eq k g
  rw [he, State.drd_dieEvent]
  exact congrArg (SMap.get regReset · a) hm

theorem State.drd_tamperCount_other (k : Nat) {a : Nat}
    (h : a ∉ [Reg.BILL_TAMP_CNT k, Reg.BILL_TAMP_FIRST_LO k, Reg.BILL_TAMP_FIRST_LO k + 4]) : (s.tamperCount k).drd a = s.drd a := by
  simp only [List.mem_cons, List.not_mem_nil, or_false, not_or] at h
  obtain ⟨hcnt, hfirst, hfirst'⟩ := h
  simp only [State.tamperCount]
  split
  · rw [State.drd_dwr64_other hfirst hfirst', State.drd_dwr_other _ hcnt]
  · rw [State.drd_dwr_other _ hcnt]

theorem State.drd_tamperCount_same (k : Nat) : ((s.tamperCount k).drd (Reg.BILL_TAMP_CNT k)).toNat =
    min ((s.drd (Reg.BILL_TAMP_CNT k)).toNat + 1) 0xFFFFFFFF := by
  have hn : Reg.BILL_TAMP_CNT k ≠ Reg.BILL_TAMP_FIRST_LO k ∧ Reg.BILL_TAMP_CNT k ≠ Reg.BILL_TAMP_FIRST_LO k + 4 := by
    simp only [Reg.BILL_TAMP_CNT, Reg.BILL_TAMP_FIRST_LO]; omega
  simp only [State.tamperCount]
  split
  · rw [State.drd_dwr64_other hn.1 hn.2, State.drd_dwr_same, BitVec.toNat_ofNat]; omega
  · rw [State.drd_dwr_same, BitVec.toNat_ofNat]; omega

theorem State.drd_tamper_other (k g : Nat) {a : Nat} (h : a ∉ tamperRegs k) : (s.tamper k g).drd a = s.drd a := by
  simp only [tamperRegs, List.mem_cons, List.not_mem_nil, or_false, not_or] at h
  obtain ⟨hcnt, hfirst, hfirst', hlast, hlast'⟩ := h
  rw [State.drd_tamper, State.drd_dwr64_other hlast hlast', State.drd_tamperCount_other k (by simp [hcnt, hfirst, hfirst'])]

@[simp] theorem State.dieTs_tamper (k g : Nat) : (s.tamper k g).dieTs = s.dieTs := by
  obtain ⟨m, -, he⟩ := s.tamper_eq k g
  simp [he]

theorem State.metr_tamper (k g : Nat) :
    (s.tamper k g).metr = { s.metr with events := s.metr.events ++ [(Ev.BILL_TAMPER, s.dieTs, evArg g 0 k)] } := by
  obtain ⟨m, -, he⟩ := s.tamper_eq k g
  rw [he]
  generalize hu : ((s.tamperCount k).dwr64 (Reg.BILL_TAMP_LAST_LO k) s.dieTs.toNat).setMem m = u
  have hm : u.metr = s.metr := by rw [← hu]; simp
  have hd : u.dieTs = s.dieTs := by rw [← hu]; simp
  simp only [State.dieEvent, State.setMetr, hm, hd]

/-- A tamper entry counts and is stamped with the die's time (R582). -/
theorem tampered_tamper (k g : Nat) : Tampered k s (s.tamper k g) := by
  refine ⟨?_, ?_⟩
  · have hn : Reg.BILL_TAMP_CNT k ≠ Reg.BILL_TAMP_LAST_LO k ∧ Reg.BILL_TAMP_CNT k ≠ Reg.BILL_TAMP_LAST_LO k + 4 := by
      simp only [Reg.BILL_TAMP_CNT, Reg.BILL_TAMP_LAST_LO]; omega
    rw [State.drd_tamper, State.drd_dwr64_other hn.1 hn.2, State.drd_tamperCount_same]
  · rw [State.dieTs_tamper, State.d64, State.drd_tamper, State.drd_tamper]
    exact State.d64_dwr64_count ..

/-- What follows from a tamper entry stays true where the next state has the registers and the clock of the die. -/
theorem Tampered.congr {k : Nat} {s s' t t' : State} (h : Tampered k s t) (hs : ∀ a, s'.drd a = s.drd a) (ht : ∀ a, t'.drd a = t.drd a)
    (hts : t'.dieTs = t.dieTs) : Tampered k s' t' := by
  obtain ⟨hcnt, hlast⟩ := h
  exact ⟨by rw [ht, hs, hcnt], by rw [hts, ← hlast, State.d64, State.d64, ht, ht]⟩

/-- A state that agrees with u but for the metrology die and what it keeps. -/
theorem State.eq_metr_bill (h : t.outside [.metr, .bill] = u.outside [.metr, .bill]) : t = { u with metr := t.metr, bill := t.bill } :=
  State.eq_patch h

theorem regsBut_of_regs {as : List Nat} (h : t.regs = s.regs) : RegsBut as s t := fun a _ => State.rd_of_regs s t a h

/-- What only the die changed leaves the sides' registers and events (R548). -/
theorem State.die_frame {dt : Nat} (h : t.outside [.metr, .bill] = (s.tick dt).outside [.metr, .bill]) :
    Silent s t ∧ RegsBut [] s t ∧ t = { s.tick dt with metr := t.metr, bill := t.bill } := by
  have he := State.eq_metr_bill h
  refine ⟨?_, ?_, he⟩
  · rw [he]; rfl
  · exact regsBut_of_regs (by rw [he]; rfl)

end

end Sys2Proof.Machine

namespace Sys2Proof.Machine

open Sys2Proof

section

set_option Elab.async false

variable {s t u : State}

/-! ### The seal loop (R543, R545) -/

theorem exec_sealWord (dt : Nat) (back : BitVec 16) (hon : s.metr.on = true) : exec (.sealWord dt back) s =
    .next (((s.tick dt).setMetr { s.metr with lfsr := Config.lfsrNext s.metr.lfsr }).sealWord (back == s.metr.lfsr)) := if_pos hon

theorem State.drd_digestRegs_other (base : Nat → Nat) (d : List Byte) {a : Nat} (h : a ∉ (List.range 12).map base) :
    (s.digestRegs base d).drd a = s.drd a :=
  drd_foldl _ (fun _ _ hk => State.drd_dwr_other _ fun e => h (List.mem_map.mpr ⟨_, hk, e.symm⟩)) s

@[simp] theorem State.dieTs_digestRegs (base : Nat → Nat) (d : List Byte) : (s.digestRegs base d).dieTs = s.dieTs := by
  have h (l : List Nat) (v : State) :
      (l.foldl (fun st k => st.dwr (base k) (BitVec.ofNat 32 (leNat ((d.drop (4 * k)).take 4).reverse))) v).dieTs = v.dieTs := by
    induction l generalizing v with
    | nil => rfl
    | cons k l ih => rw [List.foldl_cons, ih, State.dieTs_dwr]
  exact h _ s

@[simp] theorem State.metr_digestRegs (base : Nat → Nat) (d : List Byte) : (s.digestRegs base d).metr = s.metr := State.metr_of_outside (by simp)

/-- A working map is held with its digest as the seal is taken (R545). -/
def State.holdMap (s : State) : State :=
  if s.metr.working.isEmpty then s
  else (s.setMetr { s.metr with mapHeld := true, mapDigest := Config.sha384 s.metr.working }).digestRegs Reg.METR_MAP_DIG
    (Config.sha384 s.metr.working)

/-- The digest of the RWS registers as the seal is taken (R545). -/
def State.holdCal (s : State) : State :=
  s.digestRegs Reg.METR_CAL_DIG (Config.sha384 (rwsAddrs.flatMap fun a => leBytes 4 (s.drd a).toNat))

/-- The error of the registers ends (R556). -/
def State.endRegError (s : State) : State := { s with bill := { s.bill with regError := false } }

@[simp] theorem State.drd_endRegError (a : Nat) : s.endRegError.drd a = s.drd a := rfl

/-- The seal is counted, and the error of the registers ends (R545, R556). -/
def State.countSeal (s : State) : State :=
  (s.dsetF Reg.METR_SEAL Fld.METR_SEAL_CAL_COUNT (min (s.dfld Reg.METR_SEAL Fld.METR_SEAL_CAL_COUNT + 1) 0xFFFF)).endRegError

@[simp] theorem State.metr_countSeal : s.countSeal.metr = s.metr := rfl

theorem State.takeSeal_eq : s.takeSeal =
    ((s.dwr Reg.METR_CAL_CTRL 0).holdMap.holdCal.countSeal.dwr64 Reg.METR_SEAL_TS_LO
      (s.dwr Reg.METR_CAL_CTRL 0).holdMap.holdCal.countSeal.dieTs.toNat).dieEvent Ev.METR_SEALED (evArg 0xFFF 0 0) := rfl

theorem State.drd_holdMap_other {a : Nat} (h : a ∉ (List.range 12).map Reg.METR_MAP_DIG) : s.holdMap.drd a = s.drd a := by
  unfold State.holdMap
  split
  · rfl
  · rw [State.drd_digestRegs_other _ _ h, State.drd_setMetr]

@[simp] theorem State.dieTs_holdMap : s.holdMap.dieTs = s.dieTs := by
  unfold State.holdMap
  split
  · rfl
  · rw [State.dieTs_digestRegs]; rfl

theorem State.loop_holdMap : s.holdMap.metr.loop = s.metr.loop ∧ s.holdMap.metr.loopRun = s.metr.loopRun := by
  unfold State.holdMap
  split
  · exact ⟨rfl, rfl⟩
  · rw [State.metr_digestRegs]; exact ⟨rfl, rfl⟩

theorem State.drd_countSeal_other {a : Nat} (h : a ≠ Reg.METR_SEAL) : s.countSeal.drd a = s.drd a := by
  rw [State.countSeal, State.drd_endRegError, State.drd_dsetF_other _ _ h]

theorem State.dfld_countSeal : s.countSeal.dfld Reg.METR_SEAL Fld.METR_SEAL_CAL_COUNT =
    min (s.dfld Reg.METR_SEAL Fld.METR_SEAL_CAL_COUNT + 1) 0xFFFF := by
  generalize hv : min (s.dfld Reg.METR_SEAL Fld.METR_SEAL_CAL_COUNT + 1) 0xFFFF = v
  have hw : v < 2 ^ Fld.METR_SEAL_CAL_COUNT.width := by rw [← hv]; simp only [Fld.METR_SEAL_CAL_COUNT]; omega
  rw [State.countSeal, hv, State.dfld, State.drd_endRegError, ← State.dfld, State.dfld_dsetF_same _ _ _ (by decide), Nat.mod_eq_of_lt hw]

theorem digestRegs_disjoint {i : Nat} (hi : i < 12) : Reg.METR_CAL_CTRL ≠ Reg.METR_MAP_DIG i ∧ Reg.METR_CAL_CTRL ≠ Reg.METR_CAL_DIG i
    ∧ Reg.METR_SEAL ≠ Reg.METR_MAP_DIG i ∧ Reg.METR_SEAL ≠ Reg.METR_CAL_DIG i := by
  simp only [Reg.METR_CAL_CTRL, Reg.METR_MAP_DIG, Reg.METR_CAL_DIG, Reg.METR_SEAL]
  omega

/-- What taking the seal leaves on the die (R545). -/
theorem State.takeSeal_facts : s.takeSeal.metr.loop = s.metr.loop ∧ s.takeSeal.metr.loopRun = s.metr.loopRun
    ∧ s.takeSeal.drd Reg.METR_CAL_CTRL = 0
    ∧ s.takeSeal.dfld Reg.METR_SEAL Fld.METR_SEAL_CAL_COUNT = min (s.dfld Reg.METR_SEAL Fld.METR_SEAL_CAL_COUNT + 1) 0xFFFF
    ∧ s.takeSeal.d64 Reg.METR_SEAL_TS_LO = s.takeSeal.dieTs.toNat
    ∧ DieRegsBut ([Reg.METR_CAL_CTRL, Reg.METR_SEAL, Reg.METR_SEAL_TS_LO, Reg.METR_SEAL_TS_LO + 4] ++ (List.range 12).map Reg.METR_MAP_DIG
        ++ (List.range 12).map Reg.METR_CAL_DIG) s s.takeSeal := by
  generalize hw : (s.dwr Reg.METR_CAL_CTRL 0).holdMap.holdCal = w
  have he : s.takeSeal = (w.countSeal.dwr64 Reg.METR_SEAL_TS_LO w.countSeal.dieTs.toNat).dieEvent Ev.METR_SEALED (evArg 0xFFF 0 0) := by
    rw [State.takeSeal_eq, hw]
  have hm : w.metr = (s.dwr Reg.METR_CAL_CTRL 0).holdMap.metr := by rw [← hw]; exact State.metr_digestRegs _ _
  have hloop := (s.dwr Reg.METR_CAL_CTRL 0).loop_holdMap
  have hother {a : Nat} (hmap : a ∉ (List.range 12).map Reg.METR_MAP_DIG) (hcal : a ∉ (List.range 12).map Reg.METR_CAL_DIG) :
      w.drd a = (s.dwr Reg.METR_CAL_CTRL 0).drd a := by
    rw [← hw, State.holdCal, State.drd_digestRegs_other _ _ hcal, State.drd_holdMap_other hmap]
  have hctrl : w.drd Reg.METR_CAL_CTRL = 0 := by
    rw [hother (by simpa using fun i hi => (digestRegs_disjoint hi).1.symm) (by simpa using fun i hi => (digestRegs_disjoint hi).2.1.symm),
      State.drd_dwr_same]
  have hseal : w.drd Reg.METR_SEAL = s.drd Reg.METR_SEAL := by
    rw [hother (by simpa using fun i hi => (digestRegs_disjoint hi).2.2.1.symm) (by simpa using fun i hi => (digestRegs_disjoint hi).2.2.2.symm),
      State.drd_dwr_other _ (by decide)]
  rw [he]
  refine ⟨?_, ?_, ?_, ?_, ?_, fun a ha => ?_⟩
  · rw [State.metr_dieEvent, State.metr_dwr64, State.metr_countSeal, hm]; exact hloop.1
  · rw [State.metr_dieEvent, State.metr_dwr64, State.metr_countSeal, hm]; exact hloop.2
  · rw [State.drd_dieEvent, State.drd_dwr64_other (by decide) (by decide), State.drd_countSeal_other (by decide), hctrl]
  · rw [State.dfld, State.drd_dieEvent, State.drd_dwr64_other (by decide) (by decide)]
    refine State.dfld_countSeal.trans ?_
    rw [State.dfld, hseal, State.dfld]
  · rw [State.dieTs_dieEvent, State.dieTs_dwr64, State.d64, State.drd_dieEvent, State.drd_dieEvent]
    exact State.d64_dwr64_count ..
  · simp only [List.mem_append, List.mem_cons, List.not_mem_nil, or_false, not_or] at ha
    obtain ⟨⟨⟨hc, hs, hlo, hhi⟩, hmap⟩, hcal⟩ := ha
    rw [State.drd_dieEvent, State.drd_dwr64_other hlo hhi, State.drd_countSeal_other hs, hother hmap hcal, State.drd_dwr_other _ hc]

/-- Three wrong words in a row open a closed loop. -/
theorem sealOpened_row (dt : Nat) (back : BitVec 16) (hon : s.metr.on = true) (hl : s.metr.loop = 0) (hn : 2 ≤ s.metr.loopRun)
    (hb : back ≠ s.metr.lfsr) :
    Does (.sealWord dt back) s fun t =>
      t.metr.loop = 1 ∧ t.metr.loopRun = 0 ∧ t.metr.lfsr = Config.lfsrNext s.metr.lfsr ∧ Tampered 0 s t
      ∧ DieTold Ev.METR_SEAL_OPEN (evArg 0xFFF 0 0) t ∧ DieRegsBut (tamperRegs 0) s t
      ∧ Silent s t ∧ RegsBut [] s t ∧ t = { s.tick dt with metr := t.metr, bill := t.bill } := by
  refine Does.of_eq (exec_sealWord dt back hon) fun t ht => ?_
  have hf : t.outside [.metr, .bill] = (s.tick dt).outside [.metr, .bill] := by rw [ht]; simp [-State.tick_tags]
  generalize hu : (s.tick dt).setMetr { s.metr with lfsr := Config.lfsrNext s.metr.lfsr } = u at ht
  have hm : u.metr = { s.metr with lfsr := Config.lfsrNext s.metr.lfsr } := by rw [← hu]; rfl
  have hd (a : Nat) : u.drd a = s.drd a := by rw [← hu]; rfl
  have he : u.sealWord (back == s.metr.lfsr) = ((u.loopTo 1).tamper 0).dieEvent Ev.METR_SEAL_OPEN (evArg 0xFFF 0 0) := by
    simp only [State.sealWord, hm, hl, beq_eq_false_iff_ne.mpr hb, if_pos, if_neg Bool.false_ne_true, if_pos (show 3 ≤ s.metr.loopRun + 1 by omega)]
  rw [he] at ht
  have hmt : t.metr.loop = 1 ∧ t.metr.loopRun = 0 ∧ t.metr.lfsr = u.metr.lfsr := by
    rw [ht, State.metr_dieEvent, State.metr_tamper]
    exact ⟨rfl, rfl, rfl⟩
  obtain ⟨hloop, hrun, hlfsr⟩ := hmt
  refine ⟨hloop, hrun, by rw [hlfsr, hm], ?_, ?_, fun a ha => ?_, State.die_frame hf⟩
  · exact (tampered_tamper (s := u.loopTo 1) 0 0xFFF).congr (fun a => (hd a).symm) (fun a => by rw [ht, State.drd_dieEvent])
      (by rw [ht, State.dieTs_dieEvent])
  · rw [ht]; exact dieTold_dieEvent _ _
  · rw [ht, State.drd_dieEvent, State.drd_tamper_other _ _ ha]; exact hd a

/-- A wrong word takes a closing loop back to OPEN. -/
theorem sealReopened_row (dt : Nat) (back : BitVec 16) (hon : s.metr.on = true) (hl : s.metr.loop = 2) (hb : back ≠ s.metr.lfsr) :
    Does (.sealWord dt back) s fun t =>
      t.metr.loop = 1 ∧ t.metr.loopRun = 0 ∧ Tampered 0 s t ∧ DieRegsBut (tamperRegs 0) s t ∧ Silent s t ∧ RegsBut [] s t := by
  refine Does.of_eq (exec_sealWord dt back hon) fun t ht => ?_
  have hf : t.outside [.metr, .bill] = (s.tick dt).outside [.metr, .bill] := by rw [ht]; simp [-State.tick_tags]
  generalize hu : (s.tick dt).setMetr { s.metr with lfsr := Config.lfsrNext s.metr.lfsr } = u at ht
  have hm : u.metr = { s.metr with lfsr := Config.lfsrNext s.metr.lfsr } := by rw [← hu]; rfl
  have hd (a : Nat) : u.drd a = s.drd a := by rw [← hu]; rfl
  have he : u.sealWord (back == s.metr.lfsr) = (u.loopTo 1).tamper 0 := by
    simp only [State.sealWord, hm, hl, beq_eq_false_iff_ne.mpr hb, if_neg Bool.false_ne_true, OfNat.ofNat_ne_zero, OfNat.ofNat_ne_one, if_false]
  rw [he] at ht
  have hmt : t.metr.loop = 1 ∧ t.metr.loopRun = 0 := by rw [ht, State.metr_tamper]; exact ⟨rfl, rfl⟩
  obtain ⟨hsil, hregs, -⟩ := State.die_frame hf
  refine ⟨hmt.1, hmt.2, ?_, fun a ha => ?_, hsil, hregs⟩
  · exact (tampered_tamper (s := u.loopTo 1) 0 0xFFF).congr (fun a => (hd a).symm) (fun a => by rw [ht]) (by rw [ht])
  · rw [ht, State.drd_tamper_other _ _ ha]; exact hd a

/-- The 1,000th right word in a row closes the loop. -/
theorem sealClosed_row (dt : Nat) (back : BitVec 16) (hon : s.metr.on = true) (hl : s.metr.loop = 2) (hn : 999 ≤ s.metr.loopRun)
    (hb : back = s.metr.lfsr) :
    Does (.sealWord dt back) s fun t =>
      t.metr.loop = 0 ∧ t.metr.loopRun = 0 ∧ t.drd Reg.METR_CAL_CTRL = 0 ∧ DieTold Ev.METR_SEALED (evArg 0xFFF 0 0) t
      ∧ t.dfld Reg.METR_SEAL Fld.METR_SEAL_CAL_COUNT = min (s.dfld Reg.METR_SEAL Fld.METR_SEAL_CAL_COUNT + 1) 0xFFFF
      ∧ t.d64 Reg.METR_SEAL_TS_LO = t.dieTs.toNat
      ∧ DieRegsBut ([Reg.METR_CAL_CTRL, Reg.METR_SEAL, Reg.METR_SEAL_TS_LO, Reg.METR_SEAL_TS_LO + 4] ++ (List.range 12).map Reg.METR_MAP_DIG
          ++ (List.range 12).map Reg.METR_CAL_DIG) s t
      ∧ Silent s t ∧ RegsBut [] s t ∧ t = { s.tick dt with metr := t.metr, bill := t.bill } := by
  refine Does.of_eq (exec_sealWord dt back hon) fun t ht => ?_
  have hf : t.outside [.metr, .bill] = (s.tick dt).outside [.metr, .bill] := by rw [ht]; simp [-State.tick_tags]
  generalize hu : (s.tick dt).setMetr { s.metr with lfsr := Config.lfsrNext s.metr.lfsr } = u at ht
  have hm : u.metr = { s.metr with lfsr := Config.lfsrNext s.metr.lfsr } := by rw [← hu]; rfl
  have hd (a : Nat) : u.drd a = s.drd a := by rw [← hu]; rfl
  have he : u.sealWord (back == s.metr.lfsr) = (u.loopTo 0).takeSeal := by
    simp only [State.sealWord, hm, hl, hb, beq_self_eq_true, if_true, OfNat.ofNat_ne_zero, OfNat.ofNat_ne_one, if_false,
      if_pos (show 1000 ≤ s.metr.loopRun + 1 by omega)]
  rw [he] at ht
  obtain ⟨hloop, hrun, hctrl, hcount, hts, hregs⟩ := (u.loopTo 0).takeSeal_facts
  rw [← ht] at hloop hrun hctrl hcount hts hregs
  refine ⟨hloop, hrun, hctrl, ?_, hcount.trans ?_, hts, fun a ha => (hregs a ha).trans (hd a), State.die_frame hf⟩
  · rw [ht, State.takeSeal_eq]; exact dieTold_dieEvent _ _
  · have hseal : (u.loopTo 0).dfld Reg.METR_SEAL Fld.METR_SEAL_CAL_COUNT = s.dfld Reg.METR_SEAL Fld.METR_SEAL_CAL_COUNT :=
      congrArg (fget _) (hd _)
    rw [hseal]

end

end Sys2Proof.Machine

namespace Sys2Proof.Machine

open Sys2Proof

section

set_option Elab.async false

variable {s t u : State}

/-! ### The calibration path (R544, R547) -/

@[simp] theorem State.drd_tempTake (c a : Nat) : (s.tempTake c).drd a = s.drd a := by
  unfold State.tempTake
  split <;> rfl

theorem State.dieTs_tempTake (c : Nat) : (s.tempTake c).dieTs = s.dieTs := by
  unfold State.tempTake
  split <;> rfl

theorem State.rws_tempTake (c : Nat) : (s.tempTake c).metr.rws = s.metr.rws := by
  unfold State.tempTake
  split <;> rfl

/-- An RWS entry that sets no TEST bit is one register's write. -/
theorem State.rwsEntry_gain (c : Nat) (w : Word) : s.rwsEntry (Reg.METR_CAL_GAIN c, w) = s.dwr (Reg.METR_CAL_GAIN c) w := by
  have hctrl : Reg.METR_CAL_GAIN c ≠ Reg.METR_CAL_CTRL := by simp only [Reg.METR_CAL_GAIN, Reg.METR_CAL_CTRL]; omega
  have hcoil : ¬(Reg.METR_CAL_GAIN c % 0x20 = 0x1C) := by simp only [Reg.METR_CAL_GAIN]; omega
  simp only [State.rwsEntry, if_neg hctrl]
  exact if_neg fun h => hcoil h.2.2.1

theorem rwsApply_row (dt c : Nat) (w : Word) (hd : s.dieRuns = true) (hl : s.metr.loop = 1) (hc : c < 48)
    (hr : s.metr.rws = [(Reg.METR_CAL_GAIN c, w)]) :
    Does (.rwsApply dt) s fun t =>
      t.drd (Reg.METR_CAL_GAIN c) = w ∧ t.metr.rws = [] ∧ Tampered 18 s t ∧ DieRegsBut (Reg.METR_CAL_GAIN c :: tamperRegs 18) s t
      ∧ Silent s t ∧ RegsBut [] s t ∧ t = { s.tick dt with metr := t.metr, bill := t.bill } := by
  have he : exec (.rwsApply dt) s = .next (s.tick dt).rwsApply := congrArg Host.Outcome.next (if_pos (show (s.tick dt).dieRuns = true from hd))
  refine Does.of_eq he fun t ht => ?_
  have hf : t.outside [.metr, .bill] = (s.tick dt).outside [.metr, .bill] := by rw [ht]; simp [-State.tick_tags]
  generalize hu : ((s.tick dt).setMetr { s.metr with rws := [] }).dwr (Reg.METR_CAL_GAIN c) w = u
  have htu : t = ((List.range 48).foldl State.tempTake u).tamper 18 := by
    have hr' : (s.tick dt).metr.rws = [(Reg.METR_CAL_GAIN c, w)] := hr
    have hl' : (s.tick dt).metr.loop = 1 := hl
    rw [ht, State.rwsApply, hr']
    simp only [List.isEmpty_cons, if_neg Bool.false_ne_true, if_pos hl', List.foldl_cons, List.foldl_nil, State.rwsEntry_gain]
    rw [← hu]; rfl
  have hfold (l : List Nat) (v : State) : (∀ a, (l.foldl State.tempTake v).drd a = v.drd a) ∧ (l.foldl State.tempTake v).metr.rws = v.metr.rws := by
    induction l generalizing v with
    | nil => exact ⟨fun _ => rfl, rfl⟩
    | cons k l ih =>
      obtain ⟨hreg, hrws⟩ := ih (v.tempTake k)
      exact ⟨fun a => (hreg a).trans (v.drd_tempTake k a), hrws.trans (v.rws_tempTake k)⟩
  obtain ⟨hreg, hrws⟩ := hfold (List.range 48) u
  generalize (List.range 48).foldl State.tempTake u = v at htu hreg hrws
  have hgain : Reg.METR_CAL_GAIN c ∉ tamperRegs 18 := by
    simp only [tamperRegs, Reg.METR_CAL_GAIN, Reg.BILL_TAMP_CNT, Reg.BILL_TAMP_FIRST_LO, Reg.BILL_TAMP_LAST_LO, List.mem_cons, List.not_mem_nil,
      or_false, not_or]
    omega
  have hother {a : Nat} (ha : a ≠ Reg.METR_CAL_GAIN c) : u.drd a = s.drd a := by rw [← hu, State.drd_dwr_other _ ha]; rfl
  refine ⟨?_, ?_, ?_, fun a ha => ?_, State.die_frame hf⟩
  · rw [htu, State.drd_tamper_other _ _ hgain, hreg, ← hu, State.drd_dwr_same]
  · rw [htu, State.metr_tamper]
    refine hrws.trans ?_
    rw [← hu, State.metr_dwr]; rfl
  · have h := tampered_tamper (s := v) 18 0xFFF
    rw [← htu] at h
    refine ⟨h.1.trans ?_, h.2⟩
    rw [hreg, hother (by simp only [Reg.BILL_TAMP_CNT, Reg.METR_CAL_GAIN]; omega)]
  · simp only [List.mem_cons, not_or] at ha
    rw [htu, State.drd_tamper_other _ _ ha.2, hreg, hother ha.1]

theorem rwsDropped_row (dt : Nat) (hd : s.dieRuns = true) (hl : s.metr.loop ≠ 1) :
    Does (.rwsApply dt) s fun t => t = (s.tick dt).setMetr { s.metr with rws := [] } := by
  have he : exec (.rwsApply dt) s = .next (s.tick dt).rwsApply := congrArg Host.Outcome.next (if_pos (show (s.tick dt).dieRuns = true from hd))
  refine Does.of_eq he fun t ht => ?_
  rw [ht, State.rwsApply]
  split
  · next h =>
    have hr : s.metr.rws = [] := List.isEmpty_iff.mp h
    rw [← hr]; rfl
  · exact if_neg hl

theorem workingMap_row (dt n : Nat) (hn : s.img.running = some n) (hd : s.dieRuns = true) (hl : s.metr.loop = 1) :
    Does (.workingMapReceived dt) s fun t =>
      t = (s.tick dt).setMetr { s.metr with
            newMap := if (secOf (fun i => s.byte (slotKey s.serving n i)) 0xD).isEmpty then s.metr.newMap
              else some (secOf (fun i => s.byte (slotKey s.serving n i)) 0xD) } := by
  have hn' : (s.tick dt).img.running = some n := hn
  refine Does.of_answer fun t ht => ?_
  simp only [exec, execWorkingMapReceived, hn', Host.Outcome.next.injEq] at ht
  have hb : secOf (fun i => (s.tick dt).byte (slotKey (s.tick dt).serving n i)) 0xD = secOf (fun i => s.byte (slotKey s.serving n i)) 0xD := by
    have hside : (s.tick dt).serving = s.serving := by simp only [State.serving, State.fld_tick]
    rw [hside]; rfl
  rw [hb] at ht
  generalize secOf (fun i => s.byte (slotKey s.serving n i)) 0xD = bs at ht ⊢
  have hd' : (s.tick dt).dieRuns = true := hd
  have hl' : ((s.tick dt).metr.loop == 1) = true := beq_iff_eq.mpr hl
  rw [hd', hl', Bool.true_and, Bool.true_and] at ht
  cases bs with
  | nil => exact ht.symm
  | cons b bs => exact ht.symm

theorem workingMapKept_row (dt : Nat) (h : s.dieRuns = false ∨ s.metr.loop ≠ 1) : Does (.workingMapReceived dt) s fun t => t = s.tick dt := by
  refine Does.of_answer fun t ht => ?_
  have hc (b : Bool) : ((s.tick dt).dieRuns && (s.tick dt).metr.loop == 1 && b) = false := by
    rcases h with h | h
    · rw [show (s.tick dt).dieRuns = false from h]; rfl
    · rw [show ((s.tick dt).metr.loop == 1) = false from beq_eq_false_iff_ne.mpr h, Bool.and_false, Bool.false_and]
  simp only [exec, execWorkingMapReceived] at ht
  split at ht
  · rw [hc, if_neg Bool.false_ne_true] at ht
    exact (Host.Outcome.next.inj ht).symm
  · exact (Host.Outcome.next.inj ht).symm

/-! ### Result records (R548, R549) -/

/-- The die's clock depends on its last mark and the slew that is left alone. -/
theorem State.dieTs_setMetr {m : MetrPart} (hts : m.markTs = s.metr.markTs) (hat : m.markAt = s.metr.markAt) (hslew : m.slew = s.metr.slew) :
    (s.setMetr m).dieTs = s.dieTs := by
  have hlife : (s.setMetr m).sinceLife (s.setMetr m).metr.markAt = s.sinceLife s.metr.markAt := congrArg (fun c => s.sinceLife c) hat
  have hts' : (s.setMetr m).metr.markTs = s.metr.markTs := hts
  have hslew' : (s.setMetr m).metr.slew = s.metr.slew := hslew
  simp only [State.dieTs, hlife, hts', hslew']

/-- What the allocation reads depends on the die's registers and clock alone. -/
theorem State.alocData_setMetr (m : MetrPart) (h : (s.setMetr m).dieTs = s.dieTs) : (s.setMetr m).alocData = s.alocData := by
  have hE : (s.setMetr m).intEnergy 0 0 = s.intEnergy 0 0 := rfl
  have hend : (s.setMetr m).demEnd = s.demEnd := rfl
  have hlen : (s.setMetr m).demLen = s.demLen := rfl
  have htar : (s.setMetr m).tariff = s.tariff := rfl
  have hbill : (s.setMetr m).bill = s.bill := rfl
  simp only [State.alocData, h, hE, hend, hlen, htar, hbill, State.drd_setMetr]

/-- A record leaves the die with what the die shows (R548). -/
theorem State.sendRecord_eq (h : s.dieShow = u) : s.sendRecord = u.setMetr { u.metr with
    outbox := u.metr.outbox ++ [⟨u.metr.lastTs, u.metr.free, u.bill.mem.regs, u.metr.harm, u.alocData, u.metr.events, u.metr.closed⟩]
    events := [], closed := [], boundary := false, sentAt := u.tm.life } := by
  subst h; rfl

theorem State.alocData_sendRecord (h : s.dieShow = u) : s.sendRecord.alocData = u.alocData := by
  rw [State.sendRecord_eq h]
  exact State.alocData_setMetr _ (State.dieTs_setMetr rfl rfl rfl)

theorem resultRecord_row (dt : Nat) (hd : s.dieRuns = true) (h : s.metr.boundary = true ∨ Config.msec 10 ≤ (s.tick dt).sinceLife s.metr.sentAt) :
    Does (.resultRecord dt) s fun t =>
      t.metr.outbox = s.metr.outbox ++ [⟨s.metr.lastTs, s.metr.free, t.bill.mem.regs, s.metr.harm, t.alocData, s.metr.events, s.metr.closed⟩]
        ∧ t.metr.events = [] ∧ t.metr.closed = [] ∧ t.metr.boundary = false
        ∧ t.metr.sentAt = t.tm.life ∧ Silent s t ∧ RegsBut [] s t ∧ t = { s.tick dt with metr := t.metr, bill := t.bill } := by
  have hc : ((s.tick dt).dieRuns && ((s.tick dt).metr.boundary || decide (Config.msec 10 ≤ (s.tick dt).sinceLife (s.tick dt).metr.sentAt))) = true := by
    rw [show (s.tick dt).dieRuns = true from hd, Bool.true_and, Bool.or_eq_true, decide_eq_true_eq]
    exact h
  have he : exec (.resultRecord dt) s = .next (s.tick dt).sendRecord := congrArg Host.Outcome.next (if_pos hc)
  refine Does.of_eq he fun t ht => ?_
  have hf : t.outside [.metr, .bill] = (s.tick dt).outside [.metr, .bill] := by rw [ht]; simp [-State.tick_tags]
  generalize hu : (s.tick dt).dieShow = u
  have hm : u.metr = s.metr := by rw [← hu]; exact State.metr_of_outside (by simp)
  have hal : t.alocData = u.alocData := by rw [ht, State.alocData_sendRecord hu]
  rw [State.sendRecord_eq hu] at ht
  refine ⟨?_, by rw [ht]; rfl, by rw [ht]; rfl, by rw [ht]; rfl, by rw [ht]; rfl, State.die_frame hf⟩
  rw [hal, ← hm, ht]; rfl

theorem resultRecordKept_row (dt : Nat) (h : s.dieRuns = false ∨ s.metr.boundary = false ∧ (s.tick dt).sinceLife s.metr.sentAt < Config.msec 10) :
    Does (.resultRecord dt) s fun t => t = s.tick dt := by
  have hc : ((s.tick dt).dieRuns && ((s.tick dt).metr.boundary || decide (Config.msec 10 ≤ (s.tick dt).sinceLife (s.tick dt).metr.sentAt))) = false := by
    rcases h with h | ⟨hb, hs⟩
    · rw [show (s.tick dt).dieRuns = false from h, Bool.false_and]
    · rw [show (s.tick dt).metr.boundary = false from hb, Bool.false_or, Bool.and_eq_false_iff]
      exact .inr (decide_eq_false (Nat.not_le.mpr hs))
  have he : exec (.resultRecord dt) s = .next (s.tick dt) := congrArg Host.Outcome.next (if_neg (by rw [hc]; exact Bool.false_ne_true))
  exact Does.of_eq he fun t ht => ht

/-- What a key reads depends on the map and on what that key reads unlisted. -/
theorem SMap.get_default {α : Type} (d e : Nat → α) (m : SMap α) (k : Nat) (h : d k = e k) : SMap.get d m k = SMap.get e m k := by
  induction m with
  | nil => exact h
  | cons x m ih => simp only [SMap.get, ih]

theorem SMap.get_above {α : Type} (d : Nat → α) (m : SMap α) {b k : Nat} (hk : k ≤ b) (h : SMap.above b m = true) : SMap.get d m k = d k := by
  induction m with
  | nil => rfl
  | cons x m ih =>
    simp only [SMap.above, Bool.and_eq_true, decide_eq_true_eq] at h
    rw [SMap.get, if_neg (by omega), ih h.2]

/-- Entries of rising keys, put in one after another, are what their keys read. -/
theorem SMap.get_foldl_insert {α : Type} (d : Nat → α) (l m : SMap α) (h : SMap.sorted l = true) (k : Nat) :
    SMap.get d (l.foldl (fun x e => SMap.insert x e.1 e.2) m) k = SMap.get (SMap.get d m) l k := by
  induction l generalizing m with
  | nil => rfl
  | cons e l ih =>
    simp only [SMap.sorted, Bool.and_eq_true] at h
    rw [List.foldl_cons, ih _ h.2, SMap.get]
    split
    · next hk => rw [SMap.get_above _ _ (Nat.le_of_eq hk.symm) h.1, SMap.get_insert, if_pos hk]
    · next hk => exact SMap.get_default _ _ _ _ (by rw [SMap.get_insert, if_neg hk])

theorem SMap.sorted_filter {α : Type} (p : Nat × α → Bool) (m : SMap α) (h : SMap.sorted m = true) : SMap.sorted (m.filter p) = true := by
  induction m with
  | nil => rfl
  | cons e m ih =>
    simp only [SMap.sorted, Bool.and_eq_true] at h
    rw [List.filter_cons]
    split
    · simp only [SMap.sorted, Bool.and_eq_true]
      exact ⟨SMap.above_filter p m _ h.1, ih h.2⟩
    · exact ih h.2

/-- The registers that a record shows read as it has them, the others as before (R548). -/
theorem get_showRecord (regs shown : SMap Word) (h : SMap.sorted shown = true) (a : Nat) :
    SMap.get regReset (showRecord regs shown) a = if dieShown a then SMap.get regReset shown a else SMap.get regReset regs a := by
  rw [showRecord, SMap.get_foldl_insert _ _ _ (SMap.sorted_filter _ _ h), SMap.get_filter,
    SMap.get_filter regReset (fun k => !dieShown k)]
  by_cases ha : dieShown a = true
  · rw [if_pos ha, if_pos ha]
    exact SMap.get_default _ _ _ _ (by rw [SMap.get_filter regReset (fun k => !dieShown k), ha]; rfl)
  · rw [if_neg ha, if_neg ha, if_pos (by simpa using ha)]

theorem State.rd_dieReport {e : Nat × Count × Word} {a : Nat} (ha : a ≠ Reg.METR_CH_CNT (e.2.2.toNat / 0x100000)) :
    (s.dieReport e).rd a = s.rd a := by
  simp only [State.dieReport]
  split_ifs
  · rw [State.rd_bump_other _ _ _ _ _ ha.symm, State.rd_postFull]
  · rw [State.rd_bump_other _ _ _ _ _ ha.symm, State.rd_postFull]
  · rw [State.rd_postFull]

/-- A report adds its event to those of the base cycle. -/
theorem State.posted_dieReport (e : Nat × Count × Word) :
    ∃ p, p.code = e.1 ∧ p.arg = e.2.2 ∧ (s.dieReport e).ev.posted = s.ev.posted ++ [p] := by
  have h (v : State) (hv : v.ev = (s.postFull e.1 e.2.1 e.2.2 false).ev) :
      ∃ p, p.code = e.1 ∧ p.arg = e.2.2 ∧ v.ev.posted = s.ev.posted ++ [p] := by
    rw [hv]; exact ⟨_, rfl, rfl, rfl⟩
  simp only [State.dieReport]
  split_ifs <;> exact h _ rfl

theorem told_dieReports (l : List (Nat × Count × Word)) (s : State) :
    (∀ p ∈ s.ev.posted, p ∈ (l.foldl State.dieReport s).ev.posted) ∧ ∀ e ∈ l, Told e.1 e.2.2 (l.foldl State.dieReport s) := by
  induction l generalizing s with
  | nil => exact ⟨fun p hp => hp, fun e he => absurd he List.not_mem_nil⟩
  | cons e l ih =>
    obtain ⟨p, hcode, harg, hp⟩ := s.posted_dieReport e
    obtain ⟨hkept, htold⟩ := ih (s.dieReport e)
    refine ⟨fun q hq => hkept q (by rw [hp]; exact List.mem_append_left _ hq), fun e' he' => ?_⟩
    rcases List.mem_cons.mp he' with rfl | he'
    · exact List.any_eq_true.mpr ⟨p, hkept p (by rw [hp]; simp), by simp [hcode, harg]⟩
    · exact htold e' he'

theorem not_dieShown_count (c : Nat) (hc : c < 48) : dieShown (Reg.METR_CH_CNT c) = false := by
  have h : ∀ k : Fin 48, dieShown (Reg.METR_CH_CNT k) = false := by decide
  exact h ⟨c, hc⟩

/-- A state that agrees with u but for what a result record may reach. -/
theorem State.eq_record (h : t.outside [.regs, .queues, .ev, .aloc, .metr, .bill, .recent, .free]
    = u.outside [.regs, .queues, .ev, .aloc, .metr, .bill, .recent, .free]) :
    t = { u with
          regs := t.regs, queues := t.queues, ev := t.ev, aloc := t.aloc, metr := t.metr, bill := t.bill, recent := t.recent
          free := t.free } := State.eq_patch h

theorem metrologyResult_row (dt : Nat) (r : DieRec) (rest : List DieRec) (ho : s.metr.outbox = r :: rest) (hr : SMap.sorted r.regs = true)
    (he : (r.events.all fun e => decide (e.2.2.toNat < 0x3000000)) = true) :
    Does (.metrologyResult dt) s fun t =>
      t.metr.outbox = rest ∧ t.metr.rxAt = some t.tm.life ∧ t.metr.shownHarm = r.harm
      ∧ RecordShown r (Reg.ALOC_STAT :: (List.range 48).map Reg.METR_CH_CNT) s t ∧ (∀ e ∈ r.events, Told e.1 e.2.2 t) ∧ t = { s.tick dt with
            regs := t.regs, queues := t.queues, ev := t.ev, aloc := t.aloc, metr := t.metr, bill := t.bill, recent := t.recent
            free := t.free } := by
  have ho' : (s.tick dt).metr.outbox = r :: rest := ho
  refine Does.of_answer fun t ht => ?_
  simp only [exec, execMetrologyResult, ho', Host.Outcome.next.injEq] at ht
  have hf : t.outside [.regs, .queues, .ev, .aloc, .metr, .bill, .recent, .free]
      = (s.tick dt).outside [.regs, .queues, .ev, .aloc, .metr, .bill, .recent, .free] := by
    rw [← ht]; simp [-State.tick_tags]
  generalize hv : ({ s.tick dt with
      regs := showRecord s.regs r.regs
      metr := { s.metr with outbox := rest, rxAt := some (s.tick dt).tm.life, shownHarm := r.harm } } : State) = v
  generalize hw : (v.keepCopies r.closed).recordQueue r.ts = w
  have htw : t = (r.events.foldl State.dieReport w).alocResult r.aloc := by
    rw [← ht, ← hw, ← hv, State.takeRecord, ho']; rfl
  have hregs : w.regs = v.regs := by rw [← hw]; exact State.regs_of_outside (by simp)
  have hmetr : t.metr = v.metr := by rw [htw, ← hw]; exact State.metr_of_outside (by simp)
  have htm : t.tm = (s.tick dt).tm := by rw [State.eq_record hf]
  have hrd {a : Nat} (hs : a ≠ Reg.ALOC_STAT) (hcnt : ∀ c < 48, a ≠ Reg.METR_CH_CNT c) :
      t.rd a = if dieShown a then SMap.get regReset r.regs a else s.rd a := by
    have hfold : (r.events.foldl State.dieReport w).rd a = w.rd a := by
      refine rd_foldl _ (fun v e hm => State.rd_dieReport (hcnt _ ?_)) w
      have hlt := of_decide_eq_true (List.all_eq_true.mp he e hm)
      omega
    have hal : t.rd a = (r.events.foldl State.dieReport w).rd a := by
      rw [htw]
      exact State.rd_setF_other _ _ _ _ _ hs.symm
    rw [hal, hfold, State.rd, hregs, ← hv]
    exact get_showRecord _ _ hr a
  refine ⟨by rw [hmetr, ← hv], by rw [hmetr, htm, ← hv], by rw [hmetr, ← hv], fun a => ⟨fun ha => ?_, fun ha hn => ?_⟩, fun e hm => ?_,
    State.eq_record hf⟩
  · rw [hrd (fun e => absurd (e ▸ ha) (by decide)) (fun c hc e => absurd ha (by rw [e, not_dieShown_count c hc]; exact Bool.false_ne_true)),
      if_pos ha]
  · simp only [List.mem_cons, List.mem_map, List.mem_range, not_or, not_exists, not_and] at hn
    rw [hrd hn.1 (fun c hc e => hn.2 c hc e.symm), if_neg (by rw [ha]; exact Bool.false_ne_true)]
  · have hev : t.ev = (r.events.foldl State.dieReport w).ev := by rw [htw]; rfl
    rw [Told, hev]
    exact (told_dieReports r.events w).2 e hm

/-! ### The clear of the channels' counts (R539) -/

/-- Counters cleared one after another read what the running period has counted, and nothing else changes. -/
theorem rd_clearCounts {α : Type} (f : α → Nat) (l : List α) (s : State) (a : Nat) :
    (l.foldl (fun st c => st.clearCount (f c)) s).rd a = if a ∈ l.map f then s.counted a else s.rd a := by
  induction l generalizing s with
  | nil => rfl
  | cons c l ih =>
    have hcount : (s.clearCount (f c)).counted a = s.counted a := rfl
    rw [List.foldl_cons, ih, hcount, State.clearCount, State.rd_wr]
    by_cases h : a ∈ l.map f
    · simp [h]
    · by_cases he : a = f c
      · subst he; simp
      · simp [h, he]

/-- A state that agrees with u but for its registers. -/
theorem State.eq_regs (h : t.outside [.regs] = u.outside [.regs]) : t = { u with regs := t.regs } := State.eq_patch h

/-- A bit that is set reads 1 as a field. -/
theorem fget_bit_of_getLsbD {i : Nat} {w : Word} (h : w.getLsbD i = true) : fget ⟨i, 1⟩ w = 1 := by
  have hb : (fget ⟨i, 1⟩ w).testBit 0 = true := by rw [fget_bit]; simpa using h
  have hlt : fget ⟨i, 1⟩ w < 2 := fget_lt ⟨i, 1⟩ w
  have hne : fget ⟨i, 1⟩ w ≠ 0 := fun e => by rw [e] at hb; exact absurd hb (by decide)
  omega

theorem metrClr_row (dt : Nat) (acc : Access) (val : Word) (h : Admitted s acc Reg.METR_CLR .op) (hv : val.getLsbD 0 = true) :
    Does (.metrClr dt acc val) s fun t =>
      (∀ c < 48, t.rd (Reg.METR_CH_CNT c) = (s.tick dt).counted (Reg.METR_CH_CNT c)) ∧ Silent s t
      ∧ RegsBut ((List.range 48).map Reg.METR_CH_CNT) s t ∧ t = { s.tick dt with regs := t.regs } := by
  have hf : fget Fld.METR_CLR_CLEAR val = 1 := fget_bit_of_getLsbD hv
  refine Does.of_answer fun t ht => ?_
  simp only [exec, execMetrClr, State.metrClrWrite, State.command_of_admitted _ _ _ _ _ _ h, if_pos hf, Host.Outcome.next.injEq] at ht
  have hrd (a : Nat) : t.rd a = if a ∈ (List.range 48).map Reg.METR_CH_CNT then (s.tick dt).counted a else s.rd a := by
    rw [← ht, rd_clearCounts, State.rd_tick]
  have he : t = { s.tick dt with regs := t.regs } := State.eq_regs (by rw [← ht]; simp [-State.tick_tags])
  refine ⟨fun c hc => ?_, ?_, fun a ha => ?_, he⟩
  · rw [hrd, if_pos (List.mem_map_of_mem (List.mem_range.mpr hc))]
  · rw [Silent, he]; rfl
  · rw [hrd, if_neg ha]

end

/-- Settles O40, row by row. -/
theorem sealAndRecordRows : Obligations.SealAndRecordRows := by
  refine ⟨fun s dt back hon hl hn hb => sealOpened_row dt back hon hl hn hb, fun s dt back hon hl hb => ?_, fun s dt back hon hl hb => ?_,
    fun s dt back hon hl hb => sealReopened_row dt back hon hl hb, fun s dt back hon hl hn hb => sealClosed_row dt back hon hl hn hb,
    fun s dt back hon => ?_, fun s dt n hn hd hl => workingMap_row dt n hn hd hl, fun s dt h => workingMapKept_row dt h,
    fun s dt c w hd hl hc hr => rwsApply_row dt c w hd hl hc hr, fun s dt hd hl => rwsDropped_row dt hd hl,
    fun s dt hd h => resultRecord_row dt hd h, fun s dt h => resultRecordKept_row dt h,
    fun s dt r rest ho hr he => metrologyResult_row dt r rest ho hr he, fun s dt ho => ?_,
    fun s dt acc val h hv => metrClr_row dt acc val h hv⟩
  · refine Does.of_eq (exec_sealWord dt back hon) fun t ht => ?_
    rw [ht, hb, beq_self_eq_true]
    simp only [State.sealWord, State.setMetr, hl, if_true]
  · refine Does.of_eq (exec_sealWord dt back hon) fun t ht => ?_
    rw [ht, hb, beq_self_eq_true]
    simp only [State.sealWord, State.setMetr, State.loopTo, hl, if_true, one_ne_zero, if_false]
  · have he : exec (.sealWord dt back) s = .next (s.tick dt) := if_neg (by rw [show (s.tick dt).metr.on = false from hon]; exact Bool.false_ne_true)
    exact Does.of_eq he fun t ht => ht
  · have ho' : (s.tick dt).metr.outbox = [] := ho
    refine Does.of_answer fun t ht => ?_
    simp only [exec, execMetrologyResult, ho', Host.Outcome.next.injEq] at ht
    exact ht.symm

end Sys2Proof.Machine

namespace Sys2Proof.Machine

open Sys2Proof

section

set_option Elab.async false

variable {s t u : State}

/-! ### The record of a side (R159): what a write to it leaves -/

theorem Side.code_injective {x y : Side} (h : x.code = y.code) : x = y := by
  cases x <;> cases y <;> simp_all [Side.code]

theorem Side.other_ne (x : Side) : x.other ≠ x := by cases x <;> decide

@[simp] theorem Side.other_other (x : Side) : x.other.other = x := by cases x <;> rfl

theorem State.keep_setSide (x : Side) (r : SideRec) :
    (s.setSide x r).keep = { s.keep with sides := SMap.put (fun _ => SideRec.reset) s.keep.sides x.code r } := by
  rw [State.setSide]
  generalize hv : ({ s with keep := { s.keep with sides := SMap.put (fun _ => SideRec.reset) s.keep.sides x.code r } } : State) = v
  have h : ((v.chanFollow x).acqFollow x).keep = v.keep := State.keep_of_outside (by simp)
  rw [h, ← hv]

theorem State.side_of_keep (h : t.keep = s.keep) (x : Side) : t.side x = s.side x := by rw [State.side, State.side, h]

@[simp] theorem State.side_setSide_same (x : Side) (r : SideRec) : (s.setSide x r).side x = r := by
  rw [State.side, State.keep_setSide, SMap.get_put_same]

theorem State.side_setSide_other {x y : Side} (r : SideRec) (h : y ≠ x) : (s.setSide x r).side y = s.side y := by
  rw [State.side, State.keep_setSide, SMap.get_put_other _ _ _ _ _ fun e => h (Side.code_injective e).symm, State.side]

/-- The channel of a side follows its state in SAFE_STAT alone (R487). -/
theorem State.rd_setSide (x : Side) (r : SideRec) {a : Nat} (h : a ≠ Reg.SAFE_STAT) : (s.setSide x r).rd a = s.rd a := by
  have hacq (v : State) : (v.acqFollow x).rd a = v.rd a := State.rd_of_outside (by simp) a
  have haxes (v : State) (l : List Nat) (f : State → Nat → Axis) : (l.foldl (fun st k => st.setAxis x k (f st k)) v).rd a = v.rd a :=
    rd_foldl (f := fun st k => st.setAxis x k (f st k)) l (fun _ _ _ => rfl) v
  rw [State.setSide, hacq]
  unfold State.chanFollow
  split
  · rfl
  · unfold State.chanStop
    split
    · rfl
    · rw [haxes, State.setCh, State.rd_setF_other _ _ _ _ _ h.symm]; rfl

@[simp] theorem State.ev_setSide (x : Side) (r : SideRec) : (s.setSide x r).ev = s.ev := State.ev_of_outside (by simp)

@[simp] theorem State.tm_setSide (x : Side) (r : SideRec) : (s.setSide x r).tm = s.tm := State.tm_of_outside (by simp)

/-! ### Sides that enter a state -/

@[simp] theorem State.side_enterSide_same (x : Side) (st : SideState) :
    (s.enterSide x st).side x = { s.side x with state := st, since := s.tm.mono, booted := false } := State.side_setSide_same ..

theorem State.side_enterSide_other {x y : Side} (st : SideState) (h : y ≠ x) : (s.enterSide x st).side y = s.side y :=
  State.side_setSide_other _ h

theorem State.keep_enterSide (x : Side) (st : SideState) : ∃ sides, (s.enterSide x st).keep = { s.keep with sides := sides } :=
  ⟨_, State.keep_setSide ..⟩

theorem State.rd_enterSide (x : Side) (st : SideState) {a : Nat} (h : a ≠ Reg.SAFE_STAT) : (s.enterSide x st).rd a = s.rd a :=
  State.rd_setSide _ _ h

theorem State.rd_routeMap {a : Nat} (h : a ≠ Reg.KEEP_STAT) : s.routeMap.rd a = s.rd a := by
  unfold State.routeMap
  split
  · rfl
  · exact State.rd_setF_other _ _ _ _ _ h.symm

@[simp] theorem State.keep_routeMap : s.routeMap.keep = s.keep := State.keep_of_outside (by simp)

@[simp] theorem State.ev_routeMap : s.routeMap.ev = s.ev := State.ev_of_outside (by simp)

@[simp] theorem State.side_routeMap (x : Side) : s.routeMap.side x = s.side x := State.side_of_keep State.keep_routeMap x

/-- The Keeper link is no longer trained. -/
def State.unlinked (s : State) : State := { s with keep := { s.keep with linkTrained := false } }

@[simp] theorem State.side_unlinked (x : Side) : s.unlinked.side x = s.side x := rfl

@[simp] theorem State.rd_unlinked (a : Nat) : s.unlinked.rd a = s.rd a := rfl

@[simp] theorem State.ev_unlinked : s.unlinked.ev = s.ev := rfl

@[simp] theorem State.side_post (c i u d : Nat) (x : Side) : (s.post c i u d).side x = s.side x := rfl

theorem State.failSide_eq (x : Side) (code : Nat) : s.failSide x code = ((s.enterSide x .failed).post code x.code).unlinked.routeMap := rfl

/-- A side that goes to FAILED, with its event, leaves the other side, and the registers but KEEP_STAT and SAFE_STAT. -/
theorem State.failSide_facts (x : Side) (code : Nat) :
    (s.failSide x code).side x = { s.side x with state := .failed, since := s.tm.mono, booted := false }
    ∧ (s.failSide x code).side x.other = s.side x.other ∧ (s.failSide x code).keep.linkTrained = false
    ∧ Posted code (evArg x.code 0 0) s (s.failSide x code) ∧ RegsBut [Reg.KEEP_STAT, Reg.SAFE_STAT] s (s.failSide x code) := by
  rw [State.failSide_eq]
  refine ⟨?_, ?_, ?_, ?_, fun a ha => ?_⟩
  · simp
  · rw [State.side_routeMap, State.side_unlinked, State.side_post, State.side_enterSide_other _ x.other_ne]
  · rw [State.keep_routeMap]; rfl
  · have hev : (s.enterSide x .failed).ev = s.ev := State.ev_setSide ..
    have htm : (s.enterSide x .failed).tm = s.tm := State.tm_setSide ..
    exact (posted_postArg code (evArg x.code 0 0) (s.enterSide x .failed)).congr (by rw [hev]) (by rw [htm])
      (by rw [State.ev_routeMap, State.ev_unlinked, State.post])
  · simp only [List.mem_cons, List.not_mem_nil, or_false, not_or] at ha
    rw [State.rd_routeMap ha.1, State.rd_unlinked, State.rd_post, State.rd_enterSide _ _ ha.2]

end

end Sys2Proof.Machine

namespace Sys2Proof.Machine

open Sys2Proof

section

set_option Elab.async false

variable {s t u : State}

/-! ### The commands of KEEP_CTRL (R190, R191) -/

@[simp] theorem State.keep_sideReset (x : Side) (code : Nat) : (s.sideReset x code).keep = s.keep := State.keep_of_outside (by simp)

@[simp] theorem State.side_sideReset (x y : Side) (code : Nat) : (s.sideReset x code).side y = s.side y :=
  State.side_of_keep (State.keep_sideReset x code) y

@[simp] theorem State.ev_sideReset (x : Side) (code : Nat) : (s.sideReset x code).ev = s.ev := State.ev_of_outside (by simp)

@[simp] theorem State.tm_sideReset (x : Side) (code : Nat) : (s.sideReset x code).tm = s.tm := State.tm_of_outside (by simp)

theorem State.rd_sideReset_counted (x : Side) (code a : Nat) : (s.sideReset x code).rd a =
    ((s.setF (Reg.PWR_SIDE_RST x.code) Fld.PWR_SIDE_RST_LAST code).bump (Reg.PWR_SIDE_RST x.code) Fld.PWR_SIDE_RST_COUNT).rd a := by
  rw [State.sideReset]
  exact State.rd_of_outside (by simp) a

theorem State.rd_sideReset (x : Side) (code : Nat) {a : Nat} (h : a ≠ Reg.PWR_SIDE_RST x.code) : (s.sideReset x code).rd a = s.rd a := by
  rw [State.rd_sideReset_counted, State.rd_bump_other _ _ _ _ _ h.symm, State.rd_setF_other _ _ _ _ _ h.symm]

/-- A side that is taken back from FAILED is in OFF, in reset for code READMIT. -/
theorem State.readmit_facts (x : Side) (auto : Bool) :
    ((s.readmit x auto).side x).state = .off
    ∧ ((s.readmit x auto).side x).readmits = (if auto then s.lastDay (s.side x).readmits ++ [s.tm.mono] else s.lastDay (s.side x).readmits)
    ∧ (s.readmit x auto).side x.other = s.side x.other
    ∧ ∀ a, a ≠ Reg.SAFE_STAT → (s.readmit x auto).rd a = (s.sideReset x 4).rd a := by
  refine ⟨?_, ?_, ?_, fun a ha => ?_⟩
  · rw [State.readmit, State.side_setSide_same]
  · rw [State.readmit, State.side_setSide_same]
  · rw [State.readmit, State.side_setSide_other _ x.other_ne, State.side_sideReset]
  · rw [State.readmit, State.rd_setSide _ _ ha]

/-- A state that agrees with u but for what a side's re-admission may reach. -/
theorem State.eq_readmit (h : t.outside [.regs, .queues, .keep, .safe, .acq, .mem, .bytes, .recent]
    = u.outside [.regs, .queues, .keep, .safe, .acq, .mem, .bytes, .recent]) :
    t = { u with
          regs := t.regs, queues := t.queues, keep := t.keep, safe := t.safe, acq := t.acq, mem := t.mem, bytes := t.bytes
          recent := t.recent } := State.eq_patch h

/-- A state that agrees with u but for what a side's fall may reach. -/
theorem State.eq_takenOut (h : t.outside [.regs, .queues, .ev, .keep, .safe, .acq, .mem, .bytes, .recent]
    = u.outside [.regs, .queues, .ev, .keep, .safe, .acq, .mem, .bytes, .recent]) :
    t = { u with
          regs := t.regs, queues := t.queues, ev := t.ev, keep := t.keep, safe := t.safe, acq := t.acq, mem := t.mem, bytes := t.bytes
          recent := t.recent } := State.eq_patch h

theorem State.eq_keep (h : t.outside [.keep] = u.outside [.keep]) : t = { u with keep := t.keep } := State.eq_patch h

theorem sideRegs_iff {a c : Nat} : a ∉ [Reg.KEEP_STAT, Reg.SAFE_STAT, Reg.PWR_SIDE_RST c] ↔
    a ≠ Reg.KEEP_STAT ∧ a ≠ Reg.SAFE_STAT ∧ a ≠ Reg.PWR_SIDE_RST c := by
  simp only [List.mem_cons, List.not_mem_nil, or_false, not_or, ne_eq]

/-- A FAILED side that a command takes back. -/
theorem State.resync_facts (x : Side) (h : (s.side x).state = .failed) (ht : t = s.resync x) :
    (t.side x).state = .off ∧ t.side x.other = s.side x.other ∧ RegsBut [Reg.KEEP_STAT, Reg.SAFE_STAT, Reg.PWR_SIDE_RST x.code] s t
    ∧ t.outside [.regs, .queues, .keep, .safe, .acq, .mem, .bytes, .recent] = s.outside [.regs, .queues, .keep, .safe, .acq, .mem, .bytes, .recent] := by
  obtain ⟨hoff, -, hother, hrd⟩ := s.readmit_facts x false
  rw [State.resync, if_pos h] at ht
  refine ⟨by rw [ht, State.side_routeMap, hoff], by rw [ht, State.side_routeMap, hother], fun a ha => ?_, by rw [ht]; simp⟩
  obtain ⟨hk, hs, hp⟩ := sideRegs_iff.mp ha
  rw [ht, State.rd_routeMap hk, hrd a hs, State.rd_sideReset x 4 hp]

theorem keepResyncA_row (dt : Nat) (acc : Access) (val : Word) (h : Admitted s acc Reg.KEEP_CTRL .svc) (ha : fget Fld.KEEP_CTRL_RESYNC_A val = 1)
    (ho : fget Fld.KEEP_CTRL_TAKE_OUT val = 0) (hb : fget Fld.KEEP_CTRL_RESYNC_B val = 0) (hs : fget Fld.KEEP_CTRL_SWITCH val = 0)
    (hg : s.keep.guardFault = false) (hf : (s.side .a).state = .failed) :
    Does (.keepResyncA dt acc val) s fun t =>
      (t.side .a).state = .off ∧ t.side .b = s.side .b
      ∧ RegsBut [Reg.KEEP_STAT, Reg.SAFE_STAT, Reg.PWR_SIDE_RST 0] s t
      ∧ t = { s.tick dt with
            regs := t.regs, queues := t.queues, keep := t.keep, safe := t.safe, acq := t.acq, mem := t.mem
            bytes := t.bytes, recent := t.recent } := by
  have hg' : (s.tick dt).keep.guardFault = false := hg
  refine Does.of_answer fun t ht => ?_
  simp only [exec, execKeepResyncA, State.keepCtrlWrite, State.command_of_admitted _ _ _ _ _ _ h, ha, ho, hb, hs, hg', Bool.not_false, and_self,
    if_true, zero_ne_one, false_and, if_false, Host.Outcome.next.injEq] at ht
  obtain ⟨hoff, hother, hregs, hout⟩ := (s.tick dt).resync_facts .a hf ht.symm
  exact ⟨hoff, hother, fun a hn => (hregs a hn).trans (State.rd_tick ..), State.eq_readmit hout⟩

theorem keepResyncB_row (dt : Nat) (acc : Access) (val : Word) (h : Admitted s acc Reg.KEEP_CTRL .svc) (hb : fget Fld.KEEP_CTRL_RESYNC_B val = 1)
    (ho : fget Fld.KEEP_CTRL_TAKE_OUT val = 0) (ha : fget Fld.KEEP_CTRL_RESYNC_A val = 0) (hs : fget Fld.KEEP_CTRL_SWITCH val = 0)
    (hg : s.keep.guardFault = false) (hf : (s.side .b).state = .failed) :
    Does (.keepResyncB dt acc val) s fun t =>
      (t.side .b).state = .off ∧ t.side .a = s.side .a
      ∧ RegsBut [Reg.KEEP_STAT, Reg.SAFE_STAT, Reg.PWR_SIDE_RST 1] s t
      ∧ t = { s.tick dt with
            regs := t.regs, queues := t.queues, keep := t.keep, safe := t.safe, acq := t.acq, mem := t.mem
            bytes := t.bytes, recent := t.recent } := by
  have hg' : (s.tick dt).keep.guardFault = false := hg
  refine Does.of_answer fun t ht => ?_
  simp only [exec, execKeepResyncB, State.keepCtrlWrite, State.command_of_admitted _ _ _ _ _ _ h, ha, ho, hb, hs, hg', Bool.not_false, and_self,
    if_true, zero_ne_one, false_and, if_false, Host.Outcome.next.injEq] at ht
  obtain ⟨hoff, hother, hregs, hout⟩ := (s.tick dt).resync_facts .b hf ht.symm
  exact ⟨hoff, hother, fun a hn => (hregs a hn).trans (State.rd_tick ..), State.eq_readmit hout⟩

theorem keepTakeOut_row (dt : Nat) (acc : Access) (val : Word) (h : Admitted s acc Reg.KEEP_CTRL .svc) (ho : fget Fld.KEEP_CTRL_TAKE_OUT val = 1)
    (ha : fget Fld.KEEP_CTRL_RESYNC_A val = 0) (hb : fget Fld.KEEP_CTRL_RESYNC_B val = 0) (hs : fget Fld.KEEP_CTRL_SWITCH val = 0)
    (hg : s.keep.guardFault = false) (hact : (s.side .a).state = .active) (hstb : (s.side .b).state = .standby) :
    Does (.keepTakeOut dt acc val) s fun t =>
      (t.side .b).state = .failed ∧ (t.side .b).noReadmit = true ∧ t.side .a = s.side .a
      ∧ Posted Ev.TAKEN_OUT (evArg 1 0 0) (s.tick dt) t
      ∧ RegsBut [Reg.KEEP_STAT, Reg.SAFE_STAT, Reg.PWR_SIDE_RST 1] s t
      ∧ t = { s.tick dt with
            regs := t.regs, queues := t.queues, ev := t.ev, keep := t.keep, safe := t.safe, acq := t.acq, mem := t.mem
            bytes := t.bytes, recent := t.recent } := by
  have hg' : (s.tick dt).keep.guardFault = false := hg
  have hA : (s.tick dt).isActive .a = true := decide_eq_true hact
  have hstb' : ((s.tick dt).side .b).state = .standby := hstb
  refine Does.of_answer fun t ht => ?_
  simp only [exec, execKeepTakeOut, State.keepCtrlWrite, State.command_of_admitted _ _ _ _ _ _ h, ha, ho, hb, hs, hg', Bool.not_false, and_self,
    if_true, zero_ne_one, false_and, if_false, Host.Outcome.next.injEq, State.takeOut, State.hasActive, hA, Bool.true_or, Bool.not_true,
    Bool.false_eq_true, hstb', true_or] at ht
  generalize hv : (s.tick dt).sideReset .b 5 = v at ht
  obtain ⟨hfail, hother, -, hpost, hregs⟩ := v.failSide_facts .b Ev.TAKEN_OUT
  refine ⟨?_, ?_, ?_, ?_, fun a hn => ?_, State.eq_takenOut ?_⟩
  · rw [← ht, State.side_setSide_same, hfail]
  · rw [← ht, State.side_setSide_same]
  · rw [← ht, State.side_setSide_other _ (by decide), show Side.a = Side.b.other from rfl, hother, ← hv, State.side_sideReset]; rfl
  · exact hpost.congr (by rw [← hv, State.ev_sideReset]) (by rw [← hv, State.tm_sideReset]) (by rw [← ht, State.ev_setSide])
  · obtain ⟨hk, hsafe, hp⟩ := sideRegs_iff.mp hn
    rw [← ht, State.rd_setSide _ _ hsafe, hregs a (by simp [hk, hsafe]), ← hv, State.rd_sideReset .b 5 hp, State.rd_tick]
  · rw [← ht, ← hv]; simp [-State.tick_tags]

@[simp] theorem State.maySwitch_tick (dt : Nat) : (s.tick dt).maySwitch = s.maySwitch := by
  simp only [State.maySwitch, State.latchSet]
  rfl

theorem keepSwitch_row (dt : Nat) (acc : Access) (val : Word) (h : Admitted s acc Reg.KEEP_CTRL .svc) (hs : fget Fld.KEEP_CTRL_SWITCH val = 1)
    (ha : fget Fld.KEEP_CTRL_RESYNC_A val = 0) (hb : fget Fld.KEEP_CTRL_RESYNC_B val = 0) (ho : fget Fld.KEEP_CTRL_TAKE_OUT val = 0)
    (hm : s.maySwitch = true) :
    Does (.keepSwitch dt acc val) s fun t =>
      t.keep = { s.keep with switchReq := some (s.keep.switchReq.getD (s.tick dt).tm.mono) } ∧ t = { s.tick dt with keep := t.keep } := by
  refine Does.of_answer fun t ht => ?_
  simp only [exec, execKeepSwitch, State.keepCtrlWrite, State.command_of_admitted _ _ _ _ _ _ h, ha, ho, hb, hs, if_true, zero_ne_one, false_and,
    if_false, Host.Outcome.next.injEq, State.requestSwitch, State.maySwitch_tick, if_pos hm] at ht
  rw [← ht]
  exact ⟨rfl, rfl⟩

/-! ### The planned switchover (R192) -/

theorem State.sides_raiseEpochs (es : SMap Nat) (base d : Nat) :
    (s.raiseEpochs es base d).keep.sides = s.keep.sides ∧ (s.raiseEpochs es base d).keep.switchReq = s.keep.switchReq := by
  have h (v : State) : v.showEpoch.keep = v.keep := rfl
  rw [State.raiseEpochs, h]
  exact ⟨rfl, rfl⟩

/-- The side that is ACTIVE beside a STANDBY side is the one that a switchover leaves. -/
theorem activeSide_eq {x : Side} (ha : (s.side x).state = .active) (hb : (s.side x.other).state = .standby) :
    (if s.isActive .a then Side.a else Side.b) = x := by
  cases x with
  | a => rw [State.isActive, ha]; rfl
  | b =>
    have hs : (s.side .a).state = .standby := hb
    have hn : s.isActive .a = false := decide_eq_false (by rw [hs]; exact SideState.noConfusion)
    rw [hn]; rfl

theorem State.eq_switchover (h : t.outside [.regs, .queues, .ev, .keep, .edge, .ring, .safe, .acq, .can, .recent, .free]
    = u.outside [.regs, .queues, .ev, .keep, .edge, .ring, .safe, .acq, .can, .recent, .free]) :
    t = { u with
          regs := t.regs, queues := t.queues, ev := t.ev, keep := t.keep, edge := t.edge, ring := t.ring, safe := t.safe
          acq := t.acq, can := t.can, recent := t.recent, free := t.free } := State.eq_patch h

theorem getLast_postArg (code : Nat) (arg : Word) : ((s.postArg code arg).ev.posted.getLast?).map (·.code) = some code := by
  simp [State.postArg, State.postFull]

/-- The sides after a planned switchover: the ACTIVE one in SHADOW, the STANDBY one ACTIVE. -/
def State.sidesSwitched (s : State) (x : Side) : State :=
  ((s.mergeMove x x.other).setSide x { s.side x with state := .shadow, since := s.tm.mono, clean := 0, misses := 0 }).enterSide x.other .active

/-- The switchover's request has ended, and its cause is recorded (R192). -/
def State.switchRecorded (s : State) (x : Side) : State :=
  ({ s with keep := { s.keep with switchReq := none } }.setF Reg.KEEP_STAT Fld.KEEP_STAT_ACTIVE x.other.code).recordLoss x 9

theorem State.keep_switchRecorded (x : Side) : (s.switchRecorded x).keep = { s.keep with switchReq := none } := rfl

/-- The epochs of a switchover: those that have not changed at this boundary do so (R184). -/
def State.keptEpochs (s : State) : SMap Nat :=
  s.keep.epochs.map fun e => if s.keep.epochDone.contains e.1 then (e.1, (e.2 + 65535) % 65536) else e

/-- Every placement's epoch has changed at this boundary (R184). -/
def State.epochsDone (s : State) : State := { s with keep := { s.keep with epochDone := placements } }

theorem State.keep_epochsDone : s.epochsDone.keep = { s.keep with epochDone := placements } := rfl

/-- The epochs that a switchover shows changed (R184). -/
def State.epochsSwitched (s : State) (x : Side) : State :=
  ((s.switchRecorded x).raiseEpochs (s.switchRecorded x).keptEpochs (s.switchRecorded x).keep.epochBase 1).epochsDone

/-- What a switchover counts and shows, before its event (R192). -/
def State.switchCounted (s : State) (x : Side) : State :=
  ((s.switchHooks x).bump Reg.KEEP_COUNT Fld.KEEP_COUNT_SWITCHOVERS).setF Reg.KEEP_RESYNC Fld.KEEP_RESYNC_SHADOW_LEFT 256

theorem State.switchOver_eq {x : Side} (h : (if s.isActive .a then Side.a else Side.b) = x) : s.switchOver =
    (((s.sidesSwitched x).epochsSwitched x).switchCounted x).postArg Ev.SWITCHOVER
      ((((s.sidesSwitched x).epochsSwitched x).switchCounted x).rd Reg.KEEP_LAST_FO) := by
  unfold State.switchOver
  rw [h]
  extract_lets y r sides k ended recorded kept raised k' hooked counted
  have hsides : sides = s.sidesSwitched x := rfl
  clear_value sides
  have hrecorded : recorded = sides.switchRecorded x := rfl
  clear_value recorded
  have hraised : raised = recorded.raiseEpochs recorded.keptEpochs recorded.keep.epochBase 1 := rfl
  clear_value raised
  have hhooked : hooked = raised.epochsDone.switchHooks x := rfl
  clear_value hooked
  have hcounted : counted = (hooked.bump Reg.KEEP_COUNT Fld.KEEP_COUNT_SWITCHOVERS).setF Reg.KEEP_RESYNC Fld.KEEP_RESYNC_SHADOW_LEFT 256 := rfl
  clear_value counted
  rw [hcounted, hhooked, hraised, hrecorded, hsides, State.switchCounted, State.epochsSwitched]

theorem State.keep_epochsSwitched (x : Side) :
    (s.epochsSwitched x).keep.sides = s.keep.sides ∧ (s.epochsSwitched x).keep.switchReq = none := by
  obtain ⟨hsides, hreq⟩ := (s.switchRecorded x).sides_raiseEpochs (s.switchRecorded x).keptEpochs (s.switchRecorded x).keep.epochBase 1
  rw [State.epochsSwitched, State.keep_epochsDone]
  exact ⟨by rw [hsides, State.keep_switchRecorded], by rw [hreq, State.keep_switchRecorded]⟩

theorem State.keep_switchCounted (x : Side) : (s.switchCounted x).keep = s.keep := by
  rw [State.switchCounted]
  exact State.keep_of_outside (by simp)

theorem switchover_row (dt : Nat) (x : Side) (c : Count) (hb : (s.tick dt).atCycleStart = true) (hr : s.keep.switchReq = some c)
    (hc : Config.usec 2 ≤ (s.tick dt).since c) (hm : s.maySwitch = true) (ha : (s.side x).state = .active)
    (ho : (s.side x.other).state = .standby) :
    Does (.switchover dt) s fun t =>
      (t.side x).state = .shadow ∧ (t.side x.other).state = .active ∧ t.keep.switchReq = none
      ∧ (t.ev.posted.getLast?).map (·.code) = some Ev.SWITCHOVER ∧ t = { s.tick dt with
            regs := t.regs, queues := t.queues, ev := t.ev, keep := t.keep, edge := t.edge, ring := t.ring, safe := t.safe
            acq := t.acq, can := t.can, recent := t.recent, free := t.free } := by
  have hr' : (s.tick dt).keep.switchReq = some c := hr
  refine Does.of_answer fun t ht => ?_
  simp only [exec, execSwitchover, hr', if_pos (And.intro hb hc), State.maySwitch_tick, if_pos hm, Host.Outcome.next.injEq] at ht
  have hf : t.outside [.regs, .queues, .ev, .keep, .edge, .ring, .safe, .acq, .can, .recent, .free]
      = (s.tick dt).outside [.regs, .queues, .ev, .keep, .edge, .ring, .safe, .acq, .can, .recent, .free] := by
    rw [← ht]; simp [-State.tick_tags]
  rw [State.switchOver_eq (activeSide_eq (s := s.tick dt) (x := x) ha ho)] at ht
  generalize hu : (s.tick dt).sidesSwitched x = u at ht
  obtain ⟨hsides, hreq⟩ := u.keep_epochsSwitched x
  have hkeep : t.keep = (u.epochsSwitched x).keep := by rw [← ht]; exact State.keep_switchCounted x
  have hside (y : Side) : t.side y = u.side y := by rw [State.side, State.side, hkeep, hsides]
  refine ⟨?_, ?_, by rw [hkeep, hreq], by rw [← ht, getLast_postArg], State.eq_switchover hf⟩
  · rw [hside, ← hu, State.sidesSwitched, State.side_enterSide_other _ x.other_ne.symm, State.side_setSide_same]
  · rw [hside, ← hu, State.sidesSwitched, State.side_enterSide_same]

/-! ### The clear of the redundancy counters (R195) -/

theorem keepClr_row (dt : Nat) (acc : Access) (val : Word) (h : Admitted s acc Reg.KEEP_CLR .op) (hv : val.getLsbD 0 = true) :
    Does (.keepClr dt acc val) s fun t =>
      t.rd Reg.KEEP_MISS = (s.tick dt).counted Reg.KEEP_MISS ∧ t.rd Reg.KEEP_FENCE_DISC = (s.tick dt).counted Reg.KEEP_FENCE_DISC
      ∧ t.fld Reg.KEEP_COPY Fld.KEEP_COPY_MAX = 0
      ∧ RegsBut [Reg.KEEP_MISS, Reg.KEEP_FENCE_DISC, Reg.KEEP_COPY] s t
      ∧ t.ev.posted = s.ev.posted ∧ t = { s.tick dt with regs := t.regs, ev := t.ev } := by
  refine Does.of_answer fun t ht => ?_
  simp only [exec, execKeepClr, State.keepClrWrite, State.command_of_admitted _ _ _ _ _ _ h, if_pos hv, Host.Outcome.next.injEq] at ht
  generalize hu : ((s.tick dt).clearCount Reg.KEEP_MISS).clearCount Reg.KEEP_FENCE_DISC = u at ht
  have hrd (a : Nat) : t.rd a = (u.setF Reg.KEEP_COPY Fld.KEEP_COPY_MAX 0).rd a := by rw [← ht]; rfl
  have hcount (a : Nat) : ((s.tick dt).clearCount Reg.KEEP_MISS).counted a = (s.tick dt).counted a := rfl
  refine ⟨?_, ?_, ?_, fun a ha => ?_, ?_, State.eq_regs_ev ?_⟩
  · rw [hrd, State.rd_setF_other _ _ _ _ _ (by decide), ← hu, State.clearCount, State.rd_wr_other _ _ _ _ (by decide), State.clearCount,
      State.rd_wr_same]
  · rw [hrd, State.rd_setF_other _ _ _ _ _ (by decide), ← hu, State.clearCount, State.rd_wr_same, hcount]
  · rw [State.fld, hrd, ← State.fld, State.fld_setF_same _ _ _ _ (by decide)]; rfl
  · simp only [List.mem_cons, List.not_mem_nil, or_false, not_or] at ha
    obtain ⟨hmiss, hdisc, hcopy⟩ := ha
    rw [hrd, State.rd_setF_other _ _ _ _ _ (Ne.symm hcopy), ← hu, State.clearCount, State.rd_wr_other _ _ _ _ (Ne.symm hdisc),
      State.clearCount, State.rd_wr_other _ _ _ _ (Ne.symm hmiss), State.rd_tick]
  · rw [← ht, ← hu]; rfl
  · rw [← ht, ← hu]; simp [-State.tick_tags]

end

/-- Settles O21, command by command. -/
theorem redundancyCommandRows : Obligations.RedundancyCommandRows :=
  ⟨fun _ dt acc val h hs ha hb ho hm => keepSwitch_row dt acc val h hs ha hb ho hm,
    fun _ dt x c hb hr hc hm ha ho => switchover_row dt x c hb hr hc hm ha ho,
    fun _ dt acc val h ho ha hb hs hg hact hstb => keepTakeOut_row dt acc val h ho ha hb hs hg hact hstb,
    fun _ dt acc val h ha ho hb hs hg hf => keepResyncA_row dt acc val h ha ho hb hs hg hf,
    fun _ dt acc val h hb ho ha hs hg hf => keepResyncB_row dt acc val h hb ho ha hs hg hf,
    fun _ dt acc val h hv => keepClr_row dt acc val h hv⟩

end Sys2Proof.Machine

namespace Sys2Proof.Machine

open Sys2Proof

section

set_option Elab.async false

variable {s t u : State}

/-! ### What the Guard die's acts leave of the sides' records (R163, R172, R177) -/

theorem State.side_of_sides (h : t.keep.sides = s.keep.sides) (x : Side) : t.side x = s.side x := by rw [State.side, State.side, h]

@[simp] theorem State.guardActs_tick (dt : Nat) : (s.tick dt).guardActs = s.guardActs := by
  simp only [State.guardActs, State.fld_tick]
  rfl

theorem State.guardActs_setSide (x : Side) (r : SideRec) : (s.setSide x r).guardActs = s.guardActs := by
  have hsup : (s.setSide x r).sup = s.sup := State.sup_of_outside (by simp)
  have hfld : (s.setSide x r).fld Reg.PWR_STAT Fld.PWR_STAT_STATE = s.fld Reg.PWR_STAT Fld.PWR_STAT_STATE := by
    rw [State.fld, State.rd_setSide _ _ (by decide), State.fld]
  rw [State.guardActs, hsup, hfld, State.keep_setSide, State.guardActs]

theorem State.keep_dropSwitch : s.dropSwitch.keep.sides = s.keep.sides ∧ s.dropSwitch.keep.orphan = s.keep.orphan := by
  unfold State.dropSwitch
  split <;> exact ⟨rfl, rfl⟩

/-- A fail-over leaves the side that it took the outputs from FAILED and makes the other one ACTIVE. -/
theorem State.side_failOver (x : Side) (cause : Nat) :
    ((s.failOver x cause).side x).state = .failed ∧ ((s.failOver x cause).side x.other).state = .active := by
  have hsides : (s.failOver x cause).keep.sides = (((s.ctxBack.mergeMove x x.other).enterSide x .failed).enterSide x.other .active).keep.sides := by
    unfold State.failOver
    extract_lets moved k shown lost raised late counted
    have hmoved : moved = ((s.ctxBack.mergeMove x x.other).enterSide x .failed).enterSide x.other .active := rfl
    clear_value moved
    have hshown : shown.keep.sides = moved.keep.sides := (State.unlinked moved).keep_dropSwitch.1
    clear_value shown
    have hlost : lost.keep = shown.keep := State.keep_of_outside (by simp [lost])
    clear_value lost
    have hraised : raised.keep.sides = lost.keep.sides := (lost.sides_raiseEpochs ..).1
    clear_value raised
    have hlate : late.keep = raised.keep := State.keep_of_outside (by simp [late])
    clear_value late
    have hcounted : counted.keep = late.keep := State.keep_of_outside (by simp [counted])
    clear_value counted
    have hend : (counted.postArg Ev.FAILOVER (counted.rd Reg.KEEP_LAST_FO)).watchFailover.keep = counted.keep :=
      State.keep_of_outside (by simp)
    rw [hend, hcounted, hlate, hraised, hlost, hshown, hmoved]
  rw [State.side_of_sides hsides, State.side_of_sides hsides, State.side_enterSide_other _ x.other_ne.symm, State.side_enterSide_same,
    State.side_enterSide_same]
  exact ⟨rfl, rfl⟩

/-- Orphan control leaves the side that was ACTIVE FAILED; a side that is OFF stays so. -/
theorem State.orphanEntry_facts (x : Side) (cause : Nat) (h : (s.side x.other).state = .off) :
    ((s.orphanEntry x cause).side x).state = .failed ∧ ((s.orphanEntry x cause).side x.other).state = .off
    ∧ (s.orphanEntry x cause).keep.orphan = true
    ∧ ((s.orphanEntry x cause).ev.posted.getLast?).map (·.code) = some Ev.ORPHAN_ENTRY := by
  unfold State.orphanEntry
  extract_lets entered k shown y kept counted
  have hentered : entered = s.enterSide x .failed := rfl
  have hshown : shown.keep.sides = entered.keep.sides ∧ shown.keep.orphan = true := State.keep_dropSwitch
  have hother : (shown.side x.other).state = .off := by
    rw [State.side_of_sides hshown.1, hentered, State.side_enterSide_other _ x.other_ne, h]
  have hkept : kept = shown := if_neg (by rw [show y = x.other from rfl, hother]; decide)
  clear_value kept shown
  have hcounted : counted.keep = kept.keep := State.keep_of_outside (by simp [counted])
  clear_value counted
  have hkeep : (counted.postArg Ev.ORPHAN_ENTRY (counted.rd Reg.KEEP_LAST_FO)).keep = shown.keep := by
    rw [← hkept, ← hcounted]; rfl
  refine ⟨?_, ?_, by rw [hkeep, hshown.2], getLast_postArg _ _⟩
  · rw [State.side_of_keep hkeep, State.side_of_sides hshown.1, hentered, State.side_enterSide_same]
  · rw [State.side_of_keep hkeep, hother]

/-! ### The Beacon deadline (R160, R172) -/

/-- The deadline's judgement where the ACTIVE Side A has sent a Beacon that did not arrive, beside a Side B that is not ACTIVE and about
which the Guard die changes nothing: Side A is lost for a missed Beacon. -/
theorem State.judgeBeacons_missed {b : Option (List Byte)} (hA : s.isActive .a = true) (hB : s.isActive .b = false) (hsent : (s.beacon .a).isSome = true)
    (hb : s.verdict .b b = none ∨ (s.side .b).state = .off) :
    s.judgeBeacons none b = ((s.showBeacon .a none).showBeacon .b b).loseActive .a 3 := by
  have hbad : s.beaconBad .a none = some 3 := rfl
  have hv : s.verdict .a none = some 3 := by
    rw [State.verdict, if_neg (by rw [Option.isNone_iff_eq_none]; intro e; rw [e] at hsent; exact absurd hsent (by decide)),
      State.beaconCause]
    simp only [hbad]
  generalize hw : (s.showBeacon .a none).showBeacon .b b = w
  have hwB : (w.side .b).state = (s.side .b).state := by
    rw [State.side_of_keep (t := w) (s := s) (by rw [← hw]; exact State.keep_of_outside (by simp))]
  have hfault (c : Nat) (h : (s.side .b).state = .off) : w.sideFault .b c = w := by rw [State.sideFault, hwB, h]
  simp only [State.judgeBeacons, hB, Bool.false_eq_true, if_false, Side.other, hA, hv, hbad, hw, Option.isNone_some, Bool.false_and]
  rcases hb with hn | hoff
  · rw [hn]
  · cases hvb : s.verdict .b b with
    | none => rfl
    | some c => simp only [hfault c hoff]

theorem State.eq_lost (h : t.outside [.regs, .pregs, .tm, .queues, .ev, .img, .ctx, .keep, .host, .edge, .ring, .sst, .outl, .safe, .bill, .acq,
      .can, .lsw, .bytes, .recent, .free]
    = u.outside [.regs, .pregs, .tm, .queues, .ev, .img, .ctx, .keep, .host, .edge, .ring, .sst, .outl, .safe, .bill, .acq, .can, .lsw, .bytes,
      .recent, .free]) :
    t = { u with
          regs := t.regs, pregs := t.pregs, tm := t.tm, queues := t.queues, ev := t.ev, img := t.img
          ctx := t.ctx, keep := t.keep, host := t.host, edge := t.edge, ring := t.ring, sst := t.sst
          outl := t.outl, safe := t.safe, bill := t.bill, acq := t.acq, can := t.can, lsw := t.lsw
          bytes := t.bytes, recent := t.recent, free := t.free } := State.eq_patch h

/-- The deadline has been judged for the running boundary. -/
def State.judging (s : State) : State := { s with keep := { s.keep with judged := true } }

theorem exec_beaconMissed (dt : Nat) (b : BeaconIn) (hg : s.guardActs = true) (hd : (s.tick dt).deadlineDue = true)
    (hA : (s.side .a).state = .active) (hB : (s.side .b).state ≠ .active) (hsent : (s.beacon .a).isSome = true)
    (hb : s.verdict .b (s.arrived .b b) = none ∨ (s.side .b).state = .off) :
    exec (.beaconDeadline dt .none b) s =
      .next (((((s.tick dt).judging).showBeacon .a none).showBeacon .b (s.arrived .b b)).loseActive .a 3) := by
  have hc : ((s.tick dt).deadlineDue && (s.tick dt).guardActs) = true := by rw [hd, State.guardActs_tick, hg]; rfl
  have he : exec (.beaconDeadline dt .none b) s = .next ((s.tick dt).judging.judgeBeacons none (s.arrived .b b)) := if_pos hc
  exact he.trans (congrArg Host.Outcome.next
    (State.judgeBeacons_missed (s := (s.tick dt).judging) (decide_eq_true hA) (decide_eq_false hB) hsent hb))

theorem beaconFailover_row (dt : Nat) (b : BeaconIn) (hg : s.guardActs = true) (hd : (s.tick dt).deadlineDue = true)
    (hA : (s.side .a).state = .active) (hB : (s.side .b).state = .standby) (hsent : (s.beacon .a).isSome = true)
    (hb : s.verdict .b (s.arrived .b b) = none) :
    Does (.beaconDeadline dt .none b) s fun t =>
      (t.side .a).state = .failed ∧ (t.side .b).state = .active ∧ t = { s.tick dt with
            regs := t.regs, pregs := t.pregs, tm := t.tm, queues := t.queues, ev := t.ev, img := t.img
            ctx := t.ctx, keep := t.keep, host := t.host, edge := t.edge, ring := t.ring, sst := t.sst
            outl := t.outl, safe := t.safe, bill := t.bill, acq := t.acq, can := t.can, lsw := t.lsw
            bytes := t.bytes, recent := t.recent, free := t.free } := by
  refine Does.of_eq (exec_beaconMissed dt b hg hd hA (by rw [hB]; decide) hsent (.inl hb)) fun t ht => ?_
  have hf : t.outside [.regs, .pregs, .tm, .queues, .ev, .img, .ctx, .keep, .host, .edge, .ring, .sst, .outl, .safe, .bill, .acq,
      .can, .lsw, .bytes, .recent, .free] = (s.tick dt).outside [.regs, .pregs, .tm, .queues, .ev, .img, .ctx, .keep, .host, .edge, .ring, .sst,
      .outl, .safe, .bill, .acq, .can, .lsw, .bytes, .recent, .free] := by rw [ht]; simp [State.judging, -State.tick_tags]
  generalize hw : (((s.tick dt).judging).showBeacon .a none).showBeacon .b (s.arrived .b b) = w at ht
  have hkeep : w.keep = (s.tick dt).judging.keep := by rw [← hw]; exact State.keep_of_outside (by simp)
  have hwB : (w.side Side.a.other).state = .standby := (congrArg SideRec.state (State.side_of_keep hkeep .b)).trans hB
  rw [State.loseActive, if_pos hwB] at ht
  obtain ⟨hfail, hact⟩ := w.side_failOver .a 3
  exact ⟨by rw [ht]; exact hfail, by rw [ht]; exact hact, State.eq_lost hf⟩

theorem beaconOrphan_row (dt : Nat) (b : BeaconIn) (hg : s.guardActs = true) (hd : (s.tick dt).deadlineDue = true)
    (hA : (s.side .a).state = .active) (hB : (s.side .b).state = .off) (hsent : (s.beacon .a).isSome = true) :
    Does (.beaconDeadline dt .none b) s fun t =>
      (t.side .a).state = .failed ∧ (t.side .b).state = .off ∧ t.keep.orphan = true
      ∧ (t.ev.posted.getLast?).map (·.code) = some Ev.ORPHAN_ENTRY ∧ t = { s.tick dt with
            regs := t.regs, pregs := t.pregs, tm := t.tm, queues := t.queues, ev := t.ev, img := t.img
            ctx := t.ctx, keep := t.keep, host := t.host, edge := t.edge, ring := t.ring, sst := t.sst
            outl := t.outl, safe := t.safe, bill := t.bill, acq := t.acq, can := t.can, lsw := t.lsw
            bytes := t.bytes, recent := t.recent, free := t.free } := by
  refine Does.of_eq (exec_beaconMissed dt b hg hd hA (by rw [hB]; decide) hsent (.inr hB)) fun t ht => ?_
  have hf : t.outside [.regs, .pregs, .tm, .queues, .ev, .img, .ctx, .keep, .host, .edge, .ring, .sst, .outl, .safe, .bill, .acq,
      .can, .lsw, .bytes, .recent, .free] = (s.tick dt).outside [.regs, .pregs, .tm, .queues, .ev, .img, .ctx, .keep, .host, .edge, .ring, .sst,
      .outl, .safe, .bill, .acq, .can, .lsw, .bytes, .recent, .free] := by rw [ht]; simp [State.judging, -State.tick_tags]
  generalize hw : (((s.tick dt).judging).showBeacon .a none).showBeacon .b (s.arrived .b b) = w at ht
  have hkeep : w.keep = (s.tick dt).judging.keep := by rw [← hw]; exact State.keep_of_outside (by simp)
  have hwB : (w.side Side.a.other).state = .off := (congrArg SideRec.state (State.side_of_keep hkeep .b)).trans hB
  rw [State.loseActive, if_neg (by rw [hwB]; decide)] at ht
  obtain ⟨hfail, hoff, horphan, hlast⟩ := w.orphanEntry_facts .a 3 hwB
  rw [← ht] at hfail hoff horphan hlast
  exact ⟨hfail, hoff, horphan, hlast, State.eq_lost hf⟩

/-! ### Fault lines and lanes (R164, R168) -/

theorem State.eq_failed (h : t.outside [.regs, .queues, .ev, .keep, .safe, .acq] = u.outside [.regs, .queues, .ev, .keep, .safe, .acq]) :
    t = { u with regs := t.regs, queues := t.queues, ev := t.ev, keep := t.keep, safe := t.safe, acq := t.acq } := State.eq_patch h

theorem testBit_withBit (m i : Nat) : (withBit m i true).testBit i = true := by
  simp [withBit]

theorem faultLine_row (dt : Nat) (x : Side) (why : FaultWhy) (bit : Nat) (hg : s.guardActs = true) (hs : (s.side x).state = .standby)
    (hw : why.bit = some bit) :
    Does (.faultLineAsserted dt x why) s fun t =>
      (t.side x).state = .failed ∧ (t.side x).flags.testBit bit = true ∧ t.side x.other = s.side x.other ∧ t.keep.linkTrained = false
      ∧ Posted Ev.STANDBY_LOST (evArg x.code 0 0) (s.tick dt) t
      ∧ RegsBut [Reg.KEEP_STAT, Reg.SAFE_STAT] s t
      ∧ t = { s.tick dt with
            regs := t.regs, queues := t.queues, ev := t.ev, keep := t.keep, safe := t.safe, acq := t.acq } := by
  have he : exec (.faultLineAsserted dt x why) s = .next ((s.tick dt).faultFlag x bit) := by
    cases why with
    | reset code => exact absurd hw (by simp [FaultWhy.bit])
    | memEcc | residue | parity | rail | temp => rw [← Option.some.inj hw]; rfl
  refine Does.of_eq he fun t ht => ?_
  generalize hv : (s.tick dt).setSide x { (s.tick dt).side x with flags := withBit ((s.tick dt).side x).flags bit true } = v
  have hvx : v.side x = { s.side x with flags := withBit (s.side x).flags bit true } := by rw [← hv, State.side_setSide_same]; rfl
  have htv : t = v.failSide x Ev.STANDBY_LOST := by
    have hact : v.guardActs = true := by rw [← hv, State.guardActs_setSide, State.guardActs_tick, hg]
    rw [ht, State.faultFlag, hv]
    simp only [hact, if_true, State.sideFault, hvx, hs]
  obtain ⟨hfail, hother, hlink, hpost, hregs⟩ := v.failSide_facts x Ev.STANDBY_LOST
  rw [← htv] at hfail hother hlink hpost hregs
  refine ⟨by rw [hfail], by rw [hfail, hvx]; exact testBit_withBit _ _, ?_, hlink, ?_, fun a ha => ?_, State.eq_failed ?_⟩
  · rw [hother, ← hv, State.side_setSide_other _ x.other_ne]; rfl
  · exact hpost.congr (by rw [← hv, State.ev_setSide]) (by rw [← hv, State.tm_setSide]) rfl
  · have hsafe : a ≠ Reg.SAFE_STAT := fun e => ha (by simp [e])
    rw [hregs a ha, ← hv, State.rd_setSide _ _ hsafe, State.rd_tick]
  · rw [htv, ← hv]; simp [-State.tick_tags]

/-- A count leaves the other fields of its register. -/
theorem State.fld_bump_field (a : Nat) (f g : Field) (hg : g.lo + g.width ≤ 32) (hd : g.lo + g.width ≤ f.lo ∨ f.lo + f.width ≤ g.lo) :
    (s.bump a f).fld a g = s.fld a g := by
  rw [State.fld, State.rd_bump, if_pos rfl, fget_fset_other f g _ _ hg hd, State.fld]

theorem faultReset_row (dt : Nat) (x : Side) (code : Nat) (hg : s.guardActs = true) (hs : (s.side x).state = .standby) :
    Does (.faultLineAsserted dt x (.reset code)) s fun t =>
      (t.side x).state = .failed ∧ t.side x.other = s.side x.other ∧ t.keep.linkTrained = false
      ∧ t.fld (Reg.PWR_SIDE_RST x.code) Fld.PWR_SIDE_RST_LAST = code % 16
      ∧ RegsBut [Reg.KEEP_STAT, Reg.SAFE_STAT, Reg.PWR_SIDE_RST x.code] s t
      ∧ t = { s.tick dt with
            regs := t.regs, queues := t.queues, ev := t.ev, keep := t.keep, safe := t.safe, acq := t.acq, mem := t.mem
            bytes := t.bytes, recent := t.recent } := by
  generalize hv : (s.tick dt).sideReset x (code % 16) = v
  have hvx (y : Side) : v.side y = s.side y := by rw [← hv, State.side_sideReset]; rfl
  have he : exec (.faultLineAsserted dt x (.reset code)) s = .next (v.failSide x Ev.STANDBY_LOST) := by
    have hg' : (s.tick dt).guardActs = true := by rw [State.guardActs_tick, hg]
    simp only [exec, execFaultLineAsserted, hg', Bool.not_true, Bool.false_eq_true, if_false, hv, State.sideFault, hvx, hs]
  refine Does.of_eq he fun t ht => ?_
  obtain ⟨hfail, hother, hlink, -, hregs⟩ := v.failSide_facts x Ev.STANDBY_LOST
  rw [← ht] at hfail hother hlink hregs
  have hp : Reg.PWR_SIDE_RST x.code ≠ Reg.KEEP_STAT ∧ Reg.PWR_SIDE_RST x.code ≠ Reg.SAFE_STAT := by cases x <;> decide
  refine ⟨by rw [hfail], by rw [hother, hvx], hlink, ?_, fun a ha => ?_, State.eq_takenOut ?_⟩
  · rw [State.fld, hregs _ (by simp [hp.1, hp.2]), ← hv, State.rd_sideReset_counted, ← State.fld,
      State.fld_bump_field _ _ _ (by decide) (by decide), State.fld_setF_same _ _ _ _ (by decide)]
    exact Nat.mod_mod _ _
  · obtain ⟨hk, hsafe, hrst⟩ := sideRegs_iff.mp ha
    rw [hregs a (by simp [hk, hsafe]), ← hv, State.rd_sideReset _ _ hrst, State.rd_tick]
  · rw [ht, ← hv]; simp [-State.tick_tags]

theorem keeperLane_row (dt : Nat) (back : Bool) (lane errors : Nat) (hl : lane < 9) (he : 16 < errors)
    (hin : s.bit Reg.KEEP_LANES (lane + 9 * flag back) = true) (hd : s.keep.laneDue.contains (lane + 9 * flag back) = false) :
    Does (.keeperLaneFault dt back lane errors) s fun t =>
      t.keep = { s.keep with laneDue := s.keep.laneDue ++ [lane + 9 * flag back] }
      ∧ Posted Ev.KEEP_LANE (evArg lane 0 0) (s.tick dt) t ∧ t = { s.tick dt with keep := t.keep, ev := t.ev } := by
  have hc : 16 < errors ∧ (s.tick dt).bit Reg.KEEP_LANES (lane + 9 * flag back) = true
      ∧ (!(s.tick dt).keep.laneDue.contains (lane + 9 * flag back)) = true := by
    refine ⟨he, ?_, ?_⟩
    · rw [State.bit, State.rd_tick]; exact hin
    · rw [show (s.tick dt).keep.laneDue = s.keep.laneDue from rfl, hd]; rfl
  refine Does.of_answer fun t ht => ?_
  simp only [exec, execKeeperLaneFault, Nat.mod_eq_of_lt hl, if_pos hc, Host.Outcome.next.injEq] at ht
  rw [← ht]
  exact ⟨rfl, (posted_postArg Ev.KEEP_LANE (evArg lane 0 0) _).congr rfl rfl rfl, rfl⟩

end

end Sys2Proof.Machine

namespace Sys2Proof.Machine

open Sys2Proof

section

set_option Elab.async false

variable {s t u : State}

/-! ### The end of a boot (R159, R747) -/

theorem State.bootPasses_congr {e : BootEnd} (himg : t.img = s.img) (hbytes : t.bytes = s.bytes)
    (hk : t.rd Reg.KEEP_STAT = s.rd Reg.KEEP_STAT) : t.bootPasses e = s.bootPasses e := by
  have hs : t.serving = s.serving := by rw [State.serving, State.serving, State.fld, State.fld, hk]
  have hb (k : Nat) : t.byte k = s.byte k := by rw [State.byte, State.byte, hbytes]
  simp only [State.bootPasses, himg, hs, hb]

theorem State.rd_runBank (other : Bool) {a : Nat} (h : a ≠ Reg.HOST_FW_STAT) (h' : a ≠ Reg.HOST_FW_SVN) : (s.runBank other).rd a = s.rd a := by
  unfold State.runBank
  extract_lets n run m
  have hrun : run.rd a = s.rd a := by
    simp only [run]
    split
    · rw [State.rd_setF_other _ _ _ _ _ h.symm, State.rd_setF_other _ _ _ _ _ h.symm]
    · rfl
  clear_value run
  split
  · exact hrun
  · rw [State.rd_setF_other _ _ _ _ _ h'.symm, hrun]

/-- A boot past its self-test, while no wipe is pending, notes itself in the side's record. -/
theorem State.bootFirmware_facts (x : Side) (other : Bool) (hw : s.mem.wipePend = []) :
    (s.bootFirmware x other).side x = { s.side x with booted := true } ∧ (s.bootFirmware x other).side x.other = s.side x.other
    ∧ (s.bootFirmware x other).img = s.img ∧ (s.bootFirmware x other).bytes = s.bytes
    ∧ (s.bootFirmware x other).rd Reg.KEEP_STAT = s.rd Reg.KEEP_STAT
    ∧ (s.bootFirmware x other).outside [.regs, .queues, .keep, .safe, .acq] = s.outside [.regs, .queues, .keep, .safe, .acq] := by
  unfold State.bootFirmware
  extract_lets first run
  have hkeep : run.keep = s.keep := by
    simp only [run]
    split
    · exact State.keep_of_outside (by simp)
    · rfl
  have hrd : run.rd Reg.KEEP_STAT = s.rd Reg.KEEP_STAT := by
    simp only [run]
    split
    · exact State.rd_runBank _ (by decide) (by decide)
    · rfl
  have hrun : run.outside [.regs] = s.outside [.regs] := by
    simp only [run]
    split
    · simp
    · rfl
  clear_value run
  have hmem : (run.setSide x { run.side x with booted := true }).mem.wipePend = [] := by
    rw [State.mem_of_outside (t := run.setSide x { run.side x with booted := true }) (s := run) (by simp), State.eq_regs hrun, hw]
  rw [State.pendingWipe, hmem]
  rw [if_neg (by simp)]
  have hregs := State.eq_regs hrun
  have himg : (run.setSide x { run.side x with booted := true }).img = run.img := State.img_of_outside (by simp)
  have hbytes : (run.setSide x { run.side x with booted := true }).bytes = run.bytes := State.bytes_of_outside (by simp)
  refine ⟨?_, ?_, ?_, ?_, ?_, ?_⟩
  · rw [State.side_setSide_same]
    exact congrArg (fun r : SideRec => { r with booted := true }) (State.side_of_keep hkeep x)
  · rw [State.side_setSide_other _ x.other_ne, State.side_of_keep hkeep]
  · rw [himg, hregs]
  · rw [hbytes, hregs]
  · rw [State.rd_setSide _ _ (by decide), hrd]
  · have h : (run.setSide x { run.side x with booted := true }).outside [.regs, .queues, .keep, .safe, .acq]
        = run.outside [.regs, .queues, .keep, .safe, .acq] := by simp
    rw [h, hregs]; rfl

theorem State.bootBulk_facts (x : Side) :
    ((s.bootBulk x).side x).state = .bulk ∧ (s.bootBulk x).side x.other = s.side x.other := by
  have hkeep : (s.copyMram x.other x).keep = s.keep := State.keep_of_outside (by simp)
  have hbulk (v : State) (y : Side) :
      ({ v with keep := { v.keep with linkTrained := true, bulk := BulkXfer.reset } }.wr Reg.KEEP_RESYNC 0).side y = v.side y := rfl
  have hside (y : Side) : (s.bootBulk x).side y = ((s.copyMram x.other x).setSide x
      { s.side x with state := .bulk, since := s.tm.mono, restarts := 0, clean := 0, misses := 0 }).side y := hbulk _ y
  rw [hside, hside, State.side_setSide_same, State.side_setSide_other _ x.other_ne, State.side_of_keep hkeep]
  exact ⟨rfl, rfl⟩

theorem State.bootActive_facts (x : Side) :
    ((s.bootActive x).side x).state = .active ∧ (s.bootActive x).side x.other = s.side x.other := by
  have hkeep : (s.bootActive x).keep.sides = (s.enterSide x .active).keep.sides := by
    unfold State.bootActive
    extract_lets entered k served
    have hentered : entered.keep = (s.enterSide x .active).keep :=
      State.keep_of_outside (s := s.enterSide x .active) (by simp [entered])
    clear_value entered
    have hserved : served.keep.sides = entered.keep.sides := rfl
    clear_value served
    split
    · have hend (v : State) : v.orphanEndHooks.keep = v.keep := State.keep_of_outside (by simp)
      rw [hend, ← hentered, ← hserved]
    · rw [hentered]
  rw [State.side_of_sides hkeep, State.side_of_sides hkeep, State.side_enterSide_same, State.side_enterSide_other _ x.other_ne]
  exact ⟨rfl, rfl⟩

theorem State.eq_boot (h : t.outside [.regs, .pregs, .queues, .ev, .img, .ctx, .keep, .host, .edge, .sst, .outs, .outl, .safe, .acq, .lsw, .mem,
      .bytes, .recent, .free]
    = u.outside [.regs, .pregs, .queues, .ev, .img, .ctx, .keep, .host, .edge, .sst, .outs, .outl, .safe, .acq, .lsw, .mem, .bytes, .recent, .free]) :
    t = { u with
          regs := t.regs, pregs := t.pregs, queues := t.queues, ev := t.ev, img := t.img, ctx := t.ctx, keep := t.keep
          host := t.host, edge := t.edge, sst := t.sst, outs := t.outs, outl := t.outl, safe := t.safe
          acq := t.acq, lsw := t.lsw, mem := t.mem, bytes := t.bytes, recent := t.recent, free := t.free } := State.eq_patch h

theorem bootDone_row (dt : Nat) (e : BootEnd) (hg : s.guardActs = true) (hA : (s.side .a).state = .boot) (hself : e.selfTest = true)
    (hbank : e.bank = some false) (hpass : s.bootPasses e = true) (hw : s.mem.wipePend = []) :
    Does (.sideBootDone dt (some e) none) s fun t =>
      (t.side .a).state = (if s.hasActive then .bulk else .active) ∧ (t.side .b).state = (s.side .b).state ∧ t = { s.tick dt with
            regs := t.regs, pregs := t.pregs, queues := t.queues, ev := t.ev, img := t.img, ctx := t.ctx, keep := t.keep
            host := t.host, edge := t.edge, sst := t.sst, outs := t.outs, outl := t.outl, safe := t.safe
            acq := t.acq, lsw := t.lsw, mem := t.mem, bytes := t.bytes, recent := t.recent, free := t.free } := by
  generalize hu : (s.tick dt).bootFirmware .a false = u
  obtain ⟨hua, hub, himg, hbytes, hstat, hout⟩ := (s.tick dt).bootFirmware_facts .a false hw
  rw [hu] at hua hub himg hbytes hstat hout
  have hpass' : u.bootPasses e = true := by rw [State.bootPasses_congr himg hbytes hstat, ← hpass]; exact State.bootPasses_congr rfl rfl (State.rd_tick ..)
  have hrun : u.img.running.isNone = false := by
    cases hr : u.img.running with
    | none => rw [State.bootPasses, hr] at hpass'; exact absurd hpass' Bool.false_ne_true
    | some n => rfl
  have hactive : u.hasActive = s.hasActive := by
    have ha : (u.side .a).state = (s.side .a).state := by rw [hua]; rfl
    have hb : (u.side .b).state = (s.side .b).state := congrArg SideRec.state hub
    rw [State.hasActive, State.isActive, State.isActive, ha, hb]; rfl
  have hboot : ¬(((s.tick dt).side .a).state ≠ .boot ∨ (!(s.tick dt).guardActs) = true) := by
    rw [State.guardActs_tick, hg]
    exact fun h => h.elim (fun h => h hA) Bool.false_ne_true
  have he : exec (.sideBootDone dt (some e) none) s = .next (if u.hasActive then u.bootBulk .a else u.bootActive .a) := by
    simp only [exec, execSideBootDone, State.bootEnds, if_neg hboot, hself, hbank, hu, hrun, hpass', Bool.not_true, Bool.false_eq_true, if_false]
  refine Does.of_eq he fun t ht => ?_
  have hbstate : (u.side .b).state = (s.side .b).state := congrArg SideRec.state hub
  have hframe (w : State) (hw : w.outside [.regs, .pregs, .queues, .ev, .img, .ctx, .keep, .host, .edge, .sst, .outs, .outl, .safe, .acq, .lsw, .mem,
      .bytes, .recent, .free] = u.outside [.regs, .pregs, .queues, .ev, .img, .ctx, .keep, .host, .edge, .sst, .outs, .outl, .safe, .acq, .lsw, .mem,
      .bytes, .recent, .free]) : w.outside [.regs, .pregs, .queues, .ev, .img, .ctx, .keep, .host, .edge, .sst, .outs, .outl, .safe, .acq, .lsw, .mem,
      .bytes, .recent, .free] = (s.tick dt).outside [.regs, .pregs, .queues, .ev, .img, .ctx, .keep, .host, .edge, .sst, .outs, .outl, .safe, .acq,
      .lsw, .mem, .bytes, .recent, .free] := by
    rw [hw, ← hu]; simp [-State.tick_tags]
  rw [hactive] at ht
  by_cases hact : s.hasActive = true
  · rw [if_pos hact] at ht ⊢
    obtain ⟨hbulk, hother⟩ := u.bootBulk_facts .a
    rw [← ht] at hbulk hother
    exact ⟨hbulk, (congrArg SideRec.state hother).trans hbstate, State.eq_boot (hframe t (by rw [ht]; simp))⟩
  · rw [if_neg hact] at ht ⊢
    obtain ⟨hactv, hother⟩ := u.bootActive_facts .a
    rw [← ht] at hactv hother
    exact ⟨hactv, (congrArg SideRec.state hother).trans hbstate, State.eq_boot (hframe t (by rw [ht]; simp))⟩

/-! ### The resynchronisation of a side (R159, R187 to R190) -/

theorem State.bulkDone_tick (dt : Nat) : (s.tick dt).bulkDone = s.bulkDone := by
  have hm : (s.tick dt).ctrlMb = s.ctrlMb := by simp only [State.ctrlMb, State.fld_tick]
  have ht : (s.tick dt).bulkTotal = s.bulkTotal := by rw [State.bulkTotal, hm, State.bulkTotal]
  have hf : (s.tick dt).fld Reg.TIME_CYCLE Fld.TIME_CYCLE_TC_CODE = s.fld Reg.TIME_CYCLE Fld.TIME_CYCLE_TC_CODE := State.fld_tick ..
  rw [State.bulkDone, ht, hf]; rfl

theorem State.eq_shadow (h : t.outside [.regs, .queues, .keep, .loop, .edge, .safe, .acq, .can, .bytes]
    = u.outside [.regs, .queues, .keep, .loop, .edge, .safe, .acq, .can, .bytes]) :
    t = { u with
          regs := t.regs, queues := t.queues, keep := t.keep, loop := t.loop, edge := t.edge, safe := t.safe
          acq := t.acq, can := t.can, bytes := t.bytes } := State.eq_patch h

/-- A field of a word given as a number. -/
theorem fget_ofNat (f : Field) (n : Nat) (hf : f.lo + f.width ≤ 32) : fget f (BitVec.ofNat 32 n) = n / 2 ^ f.lo % 2 ^ f.width := by
  apply Nat.eq_of_testBit_eq
  intro i
  rw [fget_bit, Nat.testBit_mod_two_pow, Nat.testBit_div_two_pow, BitVec.getLsbD_ofNat]
  by_cases hi : i < f.width
  · simp [hi, Nat.add_comm f.lo i, show i + f.lo < 32 by omega]
  · simp [hi]

theorem bulkConverged_row (dt : Nat) (x : Side) (hg : s.guardActs = true) (hs : (s.side x).state = .bulk) (hd : s.bulkDone = true)
    (hin : (s.tick dt).since (s.side x).since < Config.msec 250) :
    Does (.bulkConverged dt x) s fun t =>
      (t.side x).state = .shadow ∧ (t.side x).clean = 0 ∧ t.side x.other = s.side x.other
      ∧ t.fld Reg.KEEP_RESYNC Fld.KEEP_RESYNC_SHADOW_LEFT = 256 ∧ t.fld Reg.KEEP_RESYNC Fld.KEEP_RESYNC_PROGRESS = 100 ∧ t = { s.tick dt with
            regs := t.regs, queues := t.queues, keep := t.keep, loop := t.loop, edge := t.edge, safe := t.safe
            acq := t.acq, can := t.can, bytes := t.bytes } := by
  have hc : ((s.tick dt).side x).state = .bulk ∧ (s.tick dt).guardActs = true ∧ (s.tick dt).bulkDone = true
      ∧ (s.tick dt).since ((s.tick dt).side x).since < Config.msec 250 :=
    ⟨hs, by rw [State.guardActs_tick, hg], by rw [State.bulkDone_tick, hd], hin⟩
  refine Does.of_answer fun t ht => ?_
  simp only [exec, execBulkConverged, if_pos hc, Host.Outcome.next.injEq] at ht
  generalize hv : (s.tick dt).setSide x { (s.tick dt).side x with state := .shadow, since := (s.tick dt).tm.mono, clean := 0, misses := 0 } = v at ht
  generalize hw : ((((v.canJoin x).tilesCopy x.other x).edgeCopy x.other x).exchangeCopy x.other x).memCopy x.other x (s.tick dt).ctrlMb = w at ht
  have hwk : w.keep = v.keep := by rw [← hw]; exact State.keep_of_outside (by simp)
  have hside (y : Side) : t.side y = v.side y := by rw [← ht]; exact State.side_of_keep hwk y
  have hfld (f : Field) (hf : f.lo + f.width ≤ 32) : t.fld Reg.KEEP_RESYNC f = (100 * 0x1000000 + 256 * 0x1000
      + min ((s.tick dt).since ((s.tick dt).side x).since / Config.msec 1) 4095) / 2 ^ f.lo % 2 ^ f.width := by
    rw [← ht, State.fld_wr_same, fget_ofNat f _ hf]
  generalize (s.tick dt).since ((s.tick dt).side x).since / Config.msec 1 = ms at hfld
  refine ⟨by rw [hside, ← hv, State.side_setSide_same], by rw [hside, ← hv, State.side_setSide_same], ?_, ?_, ?_, State.eq_shadow ?_⟩
  · rw [hside, ← hv, State.side_setSide_other _ x.other_ne]; rfl
  · rw [hfld _ (by decide)]
    simp only [Fld.KEEP_RESYNC_SHADOW_LEFT]
    omega
  · rw [hfld _ (by decide)]
    simp only [Fld.KEEP_RESYNC_PROGRESS]
    omega
  · rw [← ht, ← hw, ← hv]; simp [-State.tick_tags]

theorem bulkTimeout_row (dt : Nat) (x : Side) (hg : s.guardActs = true) (hs : (s.side x).state = .bulk)
    (hlate : Config.msec 250 ≤ (s.tick dt).since (s.side x).since) :
    Does (.bulkTimeout dt x) s fun t =>
      (t.side x).state = .failed ∧ t.side x.other = s.side x.other
      ∧ Posted Ev.RESYNC_FAIL (evArg x.code 0 0) (s.tick dt) t ∧ RegsBut [Reg.KEEP_STAT, Reg.SAFE_STAT] s t
      ∧ t = { s.tick dt with
            regs := t.regs, queues := t.queues, ev := t.ev, keep := t.keep, safe := t.safe, acq := t.acq } := by
  have hc : ((s.tick dt).side x).state = .bulk ∧ (s.tick dt).guardActs = true
      ∧ Config.msec 250 ≤ (s.tick dt).since ((s.tick dt).side x).since := ⟨hs, by rw [State.guardActs_tick, hg], hlate⟩
  refine Does.of_answer fun t ht => ?_
  simp only [exec, execBulkTimeout, if_pos hc, Host.Outcome.next.injEq] at ht
  obtain ⟨hfail, hother, -, hpost, hregs⟩ := (s.tick dt).failSide_facts x Ev.RESYNC_FAIL
  rw [ht] at hfail hother hpost hregs
  exact ⟨by rw [hfail], hother, hpost, fun a ha => (hregs a ha).trans (State.rd_tick ..), State.eq_failed (by rw [← ht]; simp [-State.tick_tags])⟩

theorem shadowComplete_row (dt : Nat) (x : Side) (hg : s.guardActs = true) (hs : (s.side x).state = .shadow) (hn : 256 ≤ (s.side x).clean) :
    Does (.shadowComplete dt x) s fun t =>
      (t.side x).state = .standby ∧ t.side x.other = s.side x.other
      ∧ Posted Ev.RESYNC_DONE (evArg x.code 0 0) (s.tick dt) t ∧ RegsBut [Reg.SAFE_STAT] s t
      ∧ t = { s.tick dt with
            regs := t.regs, queues := t.queues, ev := t.ev, keep := t.keep, safe := t.safe, acq := t.acq } := by
  have hc : ((s.tick dt).side x).state = .shadow ∧ (s.tick dt).guardActs = true ∧ 256 ≤ ((s.tick dt).side x).clean :=
    ⟨hs, by rw [State.guardActs_tick, hg], hn⟩
  refine Does.of_answer fun t ht => ?_
  simp only [exec, execShadowComplete, if_pos hc, Host.Outcome.next.injEq] at ht
  refine ⟨?_, ?_, ?_, fun a ha => ?_, State.eq_failed ?_⟩
  · rw [← ht, State.side_post, State.side_setSide_same]
  · rw [← ht, State.side_post, State.side_setSide_other _ x.other_ne]; rfl
  · rw [← ht]
    exact (posted_postArg Ev.RESYNC_DONE (evArg x.code 0 0) _).congr (by rw [State.ev_setSide]) (by rw [State.tm_setSide]) rfl
  · rw [← ht, State.rd_post, State.rd_setSide _ _ (by simpa using ha), State.rd_tick]
  · rw [← ht]; simp [-State.tick_tags]

theorem sideReadmit_row (dt : Nat) (x : Side) (hg : s.guardActs = true) (hs : (s.side x).state = .failed) (hr : (s.side x).noReadmit = false)
    (hn : ((s.tick dt).lastDay (s.side x).readmits).length < s.fld Reg.KEEP_CFG Fld.KEEP_CFG_READMIT_MAX) :
    Does (.sideReadmit dt x) s fun t =>
      (t.side x).state = .off ∧ (t.side x).readmits = (s.tick dt).lastDay (s.side x).readmits ++ [(s.tick dt).tm.mono]
      ∧ t.side x.other = s.side x.other ∧ t.fld (Reg.PWR_SIDE_RST x.code) Fld.PWR_SIDE_RST_LAST = 4
      ∧ RegsBut [Reg.KEEP_STAT, Reg.SAFE_STAT, Reg.PWR_SIDE_RST x.code] s t
      ∧ t = { s.tick dt with
            regs := t.regs, queues := t.queues, keep := t.keep, safe := t.safe, acq := t.acq, mem := t.mem, bytes := t.bytes
            recent := t.recent } := by
  have hc : ((s.tick dt).side x).state = .failed ∧ (s.tick dt).guardActs = true ∧ ((s.tick dt).side x).noReadmit = false
      ∧ ((s.tick dt).lastDay ((s.tick dt).side x).readmits).length < (s.tick dt).fld Reg.KEEP_CFG Fld.KEEP_CFG_READMIT_MAX :=
    ⟨hs, by rw [State.guardActs_tick, hg], hr, by rw [State.fld_tick]; exact hn⟩
  refine Does.of_answer fun t ht => ?_
  simp only [exec, execSideReadmit, if_pos hc, Host.Outcome.next.injEq] at ht
  obtain ⟨hoff, hlog, hother, hrd⟩ := (s.tick dt).readmit_facts x true
  have hp : Reg.PWR_SIDE_RST x.code ≠ Reg.KEEP_STAT ∧ Reg.PWR_SIDE_RST x.code ≠ Reg.SAFE_STAT := by cases x <;> decide
  refine ⟨?_, ?_, ?_, ?_, fun a ha => ?_, State.eq_readmit ?_⟩
  · rw [← ht, State.side_routeMap, hoff]
  · rw [← ht, State.side_routeMap, hlog]; rfl
  · rw [← ht, State.side_routeMap, hother]; rfl
  · rw [State.fld, ← ht, State.rd_routeMap hp.1, hrd _ hp.2, State.rd_sideReset_counted, ← State.fld,
      State.fld_bump_field _ _ _ (by decide) (by decide), State.fld_setF_same _ _ _ _ (by decide)]; rfl
  · obtain ⟨hk, hsafe, hrst⟩ := sideRegs_iff.mp ha
    rw [← ht, State.rd_routeMap hk, hrd a hsafe, State.rd_sideReset _ _ hrst, State.rd_tick]
  · rw [← ht]; simp [-State.tick_tags]

theorem State.eq_released (h : t.outside [.regs, .queues, .keep, .safe, .acq] = u.outside [.regs, .queues, .keep, .safe, .acq]) :
    t = { u with regs := t.regs, queues := t.queues, keep := t.keep, safe := t.safe, acq := t.acq } := State.eq_patch h

theorem sideReset_row (dt : Nat) (x : Side) (hg : s.guardActs = true) (hs : (s.side x).state = .off)
    (hin : Config.msec 1 ≤ (s.tick dt).since (s.side x).since) :
    Does (.sideResetRelease dt x) s fun t =>
      (t.side x).state = .boot ∧ t.side x.other = s.side x.other ∧ RegsBut [Reg.KEEP_STAT, Reg.SAFE_STAT] s t
      ∧ t = { s.tick dt with regs := t.regs, queues := t.queues, keep := t.keep, safe := t.safe, acq := t.acq } := by
  have hc : ((s.tick dt).side x).state = .off ∧ (s.tick dt).guardActs = true
      ∧ Config.msec 1 ≤ (s.tick dt).since ((s.tick dt).side x).since := ⟨hs, by rw [State.guardActs_tick, hg], hin⟩
  refine Does.of_answer fun t ht => ?_
  simp only [exec, execSideResetRelease, if_pos hc, Host.Outcome.next.injEq] at ht
  refine ⟨?_, ?_, fun a ha => ?_, State.eq_released ?_⟩
  · rw [← ht, State.side_routeMap, State.side_enterSide_same]
  · rw [← ht, State.side_routeMap, State.side_enterSide_other _ x.other_ne]; rfl
  · simp only [List.mem_cons, List.not_mem_nil, or_false, not_or] at ha
    rw [← ht, State.rd_routeMap ha.1, State.rd_enterSide _ _ ha.2, State.rd_tick]
  · rw [← ht]; simp [-State.tick_tags]

end

/-- Settles O20, fault by fault. -/
theorem redundancyFaultRows : Obligations.RedundancyFaultRows :=
  ⟨fun _ dt b hg hd hA hB hsent hb => beaconFailover_row dt b hg hd hA hB hsent hb,
    fun _ dt b hg hd hA hB hsent => beaconOrphan_row dt b hg hd hA hB hsent,
    fun _ dt x why bit hg hs hw => faultLine_row dt x why bit hg hs hw,
    fun _ dt x code hg hs => faultReset_row dt x code hg hs,
    fun _ dt back lane errors hl he hin hd => keeperLane_row dt back lane errors hl he hin hd,
    fun _ dt e hg hA hself hbank hpass hw => bootDone_row dt e hg hA hself hbank hpass hw,
    fun _ dt x hg hs hd hin => bulkConverged_row dt x hg hs hd hin,
    fun _ dt x hg hs hlate => bulkTimeout_row dt x hg hs hlate,
    fun _ dt x hg hs hn => shadowComplete_row dt x hg hs hn,
    fun _ dt x hg hs hr hn => sideReadmit_row dt x hg hs hr hn,
    fun _ dt x hg hs hin => sideReset_row dt x hg hs hin⟩

end Sys2Proof.Machine

namespace Sys2Proof.Machine

open Sys2Proof

section

set_option Elab.async false

variable {s t u : State}

/-! ### Late starts and resets (R716, R717, R719, R722) -/

theorem startLate_row (dt : Nat) (ha : s.awake = true) (hl : s.sup.late = false) (hr : s.fld Reg.PWR_STAT Fld.PWR_STAT_RUN_READY = 0)
    (hin : (s.tick dt).tStart ≤ (s.tick dt).sinceLife s.sup.ladderAt) :
    Does (.startLate dt) s fun t =>
      t.sup = { s.sup with late := true } ∧ t.fld Reg.PWR_CNT Fld.PWR_CNT_LATE = min (s.fld Reg.PWR_CNT Fld.PWR_CNT_LATE + 1) 255
      ∧ Posted Ev.PWR_START_LATE (evArg 0xFFF 0 0) (s.tick dt) t ∧ RegsBut [Reg.PWR_CNT] s t
      ∧ t = { s.tick dt with regs := t.regs, ev := t.ev, sup := t.sup, recent := t.recent } := by
  have hc : (s.tick dt).awake = true ∧ (s.tick dt).sup.late = false ∧ (s.tick dt).fld Reg.PWR_STAT Fld.PWR_STAT_RUN_READY = 0
      ∧ (s.tick dt).tStart ≤ (s.tick dt).sinceLife (s.tick dt).sup.ladderAt := ⟨ha, hl, by rw [State.fld_tick, hr], hin⟩
  refine Does.of_answer fun t ht => ?_
  simp only [exec, execStartLate, if_pos hc, Host.Outcome.next.injEq] at ht
  have htr (a : Nat) : t.rd a = ((s.tick dt).bump Reg.PWR_CNT Fld.PWR_CNT_LATE).rd a := by rw [← ht]; rfl
  refine ⟨by rw [← ht]; rfl, ?_, ?_, fun a hn => ?_, State.eq_counted_sup (by rw [← ht]; simp [-State.tick_tags])⟩
  · rw [State.fld, htr, ← State.fld, State.fld_bump_same _ _ _ _ (by decide), State.fld_tick]
    rfl
  · rw [← ht]
    exact (posted_postArg _ _ ({ (s.tick dt).bump Reg.PWR_CNT Fld.PWR_CNT_LATE with
      sup := { (s.tick dt).sup with late := true } } : State)).congr (by rfl) (by rfl) rfl
  · rw [htr, State.rd_bump_other _ _ _ _ _ fun e => hn (by simp [e]), State.rd_tick]

theorem mrstAssert_row (dt held : Nat) (ha : s.awake = true) (hin : Config.usec 10 ≤ held) :
    Does (.mrstAssert dt held) s fun t =>
      t.sup.phase = 2 ∧ RegsReset s t ∧ t.mode = 0 ∧ t.queues = [] ∧ t.ev.posted = [] ∧ t.metr = s.metr ∧ t.bill = s.bill := by
  have hc : (s.tick dt).awake = true ∧ Config.usec 10 ≤ held := ⟨ha, hin⟩
  refine Does.of_answer fun t ht => ?_
  simp only [exec, execMrstAssert, if_pos hc, Host.Outcome.next.injEq] at ht
  have hrun : (if (s.tick dt).running then (s.tick dt).endRun else s.tick dt) = (s.tick dt).runEnded := rfl
  rw [hrun] at ht
  have hregs (a : Nat) (h : a ∉ resetRegs) : t.rd a = if keptReg a then s.rd a else regReset a := by
    obtain ⟨hcl, -, -, -, hlo, hhi⟩ := resetRegs_disjoint h
    have he : t.rd a = (s.tick dt).runEnded.cleared.rd a := by rw [← ht]; rfl
    rw [he, State.rd_cleared _ a hcl, State.rd_runEnded _ a hlo hhi, State.rd_tick]
  have hmode : t.mode = 0 := by
    rw [State.mode, State.fld, hregs _ (by decide), if_neg (by decide)]
    decide
  have heq := (s.tick dt).runEnded.cleared_eq
  rw [heq, (s.tick dt).runEnded_eq] at ht
  exact ⟨by rw [← ht], hregs, hmode, by rw [← ht]; rfl, by rw [← ht]; rfl, by rw [← ht]; rfl, by rw [← ht]; rfl⟩

theorem mrstRelease_row (dt : Nat) (hp : s.sup.phase = 2) :
    Does (.mrstRelease dt) s fun t => ResetDone 3 (s.tick dt) t ∧ t.sup.phase = 3 := by
  have he : exec (.mrstRelease dt) s = .next ((s.tick dt).moduleReset 3) := congrArg Host.Outcome.next (if_pos hp)
  refine Does.of_eq he fun t ht => ?_
  obtain ⟨ladder, -, hsup⟩ := (s.tick dt).sup_moduleReset 3
  rw [ht]
  exact ⟨resetDone_moduleReset _ 3 (by decide), by rw [hsup]⟩

theorem State.showRest_eq (s : State) : s.showRest = { s with regs := s.showRest.regs } := rfl

theorem State.rd_showRest {a : Nat} (h : a ≠ Reg.IMG_STAT) : s.showRest.rd a = s.rd a := State.rd_setF_other _ _ _ _ _ h.symm

/-- AT_REST as shown has no part in what a reset of the module leaves. -/
theorem resetDone_showRest (kind : Nat) (hk : kind < 16) : ResetDone kind s (s.showRest.moduleReset kind) := by
  have hcell (c : Nat) : s.showRest.cellState c = s.cellState c := by
    rw [State.cellState, State.fld_showRest _ _ _ (by simp only [Reg.SST_CELL_STAT, Reg.IMG_STAT]; omega), State.cellState]
  obtain ⟨hcause, htrigger, hstarts, hsys, hcells, hsst, hregs, hgf, hepoch, hobjects, hlog, hposted, hmono, hlife, hbytes, heq⟩ :=
    resetDone_moduleReset s.showRest kind hk
  refine ⟨hcause, htrigger, ?_, hsys, fun c hc => ?_, hsst, fun a ha => ?_, hgf, hepoch, hobjects, hlog, hposted, hmono, hlife, hbytes, heq⟩
  · rw [hstarts, State.fld_showRest _ _ _ (by decide)]
  · have h := hcells c hc
    rw [hcell] at h
    exact h
  · rw [hregs a ha]
    by_cases hi : a = Reg.IMG_STAT
    · have hk : keptReg a = false := by rw [hi]; decide
      simp only [hk]; rfl
    · rw [State.rd_showRest hi]

theorem State.atRest_showRest : s.showRest.atRest = s.atRest := by
  have hfld (a : Nat) (f : Field) (h : a ≠ Reg.IMG_STAT) : s.showRest.fld a f = s.fld a f := s.fld_showRest a f h
  have hpole (n : Nat) : Reg.OUTL_O_STAT n ≠ Reg.IMG_STAT := by simp only [Reg.OUTL_O_STAT, Reg.IMG_STAT]; omega
  have hax (a : Nat) : Reg.SAFE_AX_STAT a ≠ Reg.IMG_STAT := by simp only [Reg.SAFE_AX_STAT, Reg.IMG_STAT]; omega
  have hv : s.showRest.variant = s.variant := rfl
  simp only [State.atRest, hv, hfld _ _ (hpole _), hfld _ _ (hax _), hfld Reg.SST_RUN_STAT _ (by decide)]

theorem admitted_showRest {dt : Nat} {acc : Access} {addr : Nat} {sc : Scope} (h : Admitted s acc addr sc) :
    Admitted ((s.tick dt).showRest) acc addr sc := by
  obtain ⟨hans, habs, hrole⟩ := h
  exact ⟨by rw [State.answers_showRest, State.answers_tick, hans], habs, hrole⟩

theorem exec_pwrReset (dt : Nat) (acc : Access) (val : Word) (h : Admitted s acc Reg.PWR_RESET .svc) : exec (.pwrReset dt acc val) s =
    .next (if fget Fld.PWR_RESET_KEY val = 0x5E7A ∧ s.atRest = true then (s.tick dt).showRest.moduleReset 4
      else (s.tick dt).showRest.post Ev.PWR_CMD_REFUSED) := by
  obtain ⟨hans, habs, hrole⟩ := admitted_showRest (dt := dt) h
  have hrest : (s.tick dt).showRest.atRest = s.atRest := by rw [State.atRest_showRest, State.atRest_tick]
  simp only [exec, execPwrReset, State.pwrResetWrite, State.command, hans, habs, hrole, Bool.not_true, Bool.false_eq_true, if_false, hrest]

theorem pwrReset_row (dt : Nat) (acc : Access) (val : Word) (h : Admitted s acc Reg.PWR_RESET .svc) (hk : fget Fld.PWR_RESET_KEY val = 0x5E7A)
    (hr : s.atRest = true) : Does (.pwrReset dt acc val) s fun t => ResetDone 4 (s.tick dt) t ∧ t.sup.phase = 3 := by
  have he := exec_pwrReset dt acc val h
  rw [if_pos ⟨hk, hr⟩] at he
  refine Does.of_eq he fun t ht => ?_
  obtain ⟨ladder, -, hsup⟩ := (s.tick dt).showRest.sup_moduleReset 4
  rw [ht]
  exact ⟨resetDone_showRest 4 (by decide), by rw [hsup]⟩

theorem pwrResetRefused_row (dt : Nat) (acc : Access) (val : Word) (h : Admitted s acc Reg.PWR_RESET .svc)
    (hr : fget Fld.PWR_RESET_KEY val = 0x5E7A → s.atRest = false) :
    Does (.pwrReset dt acc val) s fun t =>
      Posted Ev.PWR_CMD_REFUSED (evArg 0xFFF 0 0) (s.tick dt) t ∧ RegsBut [Reg.IMG_STAT] s t
      ∧ t = { s.tick dt with regs := t.regs, ev := t.ev } := by
  have he := exec_pwrReset dt acc val h
  rw [if_neg fun hc => by rw [hr hc.1] at hc; exact Bool.false_ne_true hc.2] at he
  refine Does.of_eq he fun t ht => ?_
  refine ⟨?_, fun a ha => ?_, State.eq_regs_ev (by rw [ht]; simp [-State.tick_tags])⟩
  · rw [ht]
    exact (posted_postArg _ _ (s.tick dt).showRest).congr rfl rfl rfl
  · rw [ht, State.rd_post, State.rd_showRest (by simpa using ha), State.rd_tick]

theorem guardAutoReset_row (dt : Nat) (hg : s.keep.guardFault = true) (ha : s.awake = true) (hc : s.fld Reg.PWR_CFG Fld.PWR_CFG_GF_AUTO = 1)
    (hin : Config.sec 10 ≤ (s.tick dt).sinceLife s.keep.guardFaultAt) (hn : s.sup.autoAt = none) :
    Does (.guardAutoReset dt) s fun t => ResetDone 10 (s.tick dt) t ∧ t.sup.autoAt = some (s.tick dt).tm.life := by
  have hn' : (s.tick dt).sup.autoAt = none := hn
  have hcond : (s.tick dt).keep.guardFault = true ∧ (s.tick dt).awake = true ∧ (s.tick dt).fld Reg.PWR_CFG Fld.PWR_CFG_GF_AUTO = 1
      ∧ Config.sec 10 ≤ (s.tick dt).sinceLife (s.tick dt).keep.guardFaultAt ∧ True := ⟨hg, ha, by rw [State.fld_tick, hc], hin, trivial⟩
  refine Does.of_answer fun t ht => ?_
  simp only [exec, execGuardAutoReset, hn', if_pos hcond, Host.Outcome.next.injEq] at ht
  generalize hu : ({ s.tick dt with sup := { (s.tick dt).sup with autoAt := some (s.tick dt).tm.life } } : State) = u at ht
  obtain ⟨ladder, -, hsup⟩ := u.sup_moduleReset 10
  have hdone := resetDone_moduleReset u 10 (by decide)
  rw [ht] at hsup hdone
  refine ⟨?_, by rw [hsup, ← hu]⟩
  subst hu
  exact hdone

end

end Sys2Proof.Machine

namespace Sys2Proof.Machine

open Sys2Proof

section

set_option Elab.async false

variable {s t u : State} {n : Nat}

/-! ### The load switches: what an act on one channel may change (chapter 19) -/

/-- The registers that show a channel. -/
def lswRegs (n : Nat) : List Nat := [Reg.LSW_CH_STAT n, Reg.LSW_CLAMP n, Reg.LSW_CNT n]

/-- An act on channel n: FOG mode stays as it is, and of the registers the channel's own alone may change. -/
structure LswStep (n : Nat) (s t : State) : Prop where
  fog : t.lsw.fog = s.lsw.fog
  rd : ∀ a, a ∉ lswRegs n → t.rd a = s.rd a

theorem LswStep.refl (n : Nat) (s : State) : LswStep n s s := ⟨rfl, fun _ _ => rfl⟩

theorem LswStep.trans (h : LswStep n s t) (h' : LswStep n t u) : LswStep n s u :=
  ⟨h'.fog.trans h.fog, fun a ha => (h'.rd a ha).trans (h.rd a ha)⟩

theorem lswStep_setLsw (c : LswCh) : LswStep n s (s.setLsw n c) := ⟨rfl, fun _ _ => rfl⟩

theorem lswStep_setF {a : Nat} (f : Field) (v : Nat) (ha : a ∈ lswRegs n) : LswStep n s (s.setF a f v) :=
  ⟨rfl, fun _ hb => State.rd_setF_other _ _ _ _ _ fun e => hb (e ▸ ha)⟩

theorem lswStep_setLs (f : Field) (v : Nat) : LswStep n s (s.setLs n f v) := lswStep_setF f v (by simp [lswRegs])

theorem lswStep_bump (f : Field) : LswStep n s (s.bump (Reg.LSW_CNT n) f) :=
  ⟨rfl, fun a ha => State.rd_bump_other _ _ _ _ _ fun e => ha (by simp [lswRegs, e])⟩

theorem lswStep_post (c i u d : Nat) : LswStep n s (s.post c i u d) := ⟨rfl, fun _ _ => State.rd_post ..⟩

theorem lswStep_freeEnergy : LswStep n s s.freeEnergy.2 := ⟨rfl, fun _ _ => rfl⟩

theorem lswStep_lswEnter (st : Nat) : LswStep n s (s.lswEnter n st) := (lswStep_setLs _ _).trans (lswStep_setLsw _)

theorem lswStep_inrush : LswStep n s (s.inrush n) := ((lswStep_lswEnter 1).trans (lswStep_setLs _ _)).trans (lswStep_setLsw _)

/-- The energy of a turn-off in the channel's bucket, and LAST as it shows it. -/
def State.clampTaken (s : State) (n e : Nat) : State :=
  (s.setLsw n { s.lswCh n with bucket := max (-(s.lswBudget n)) (s.lswBucket n - 1000 * (e : Int)), bucketAt := s.tm.mono }).setF (Reg.LSW_CLAMP n)
    Fld.LSW_CLAMP_LAST (min e 0xFFFF)

/-- A channel locked for want of clamp energy, counted and told. -/
def State.clampLocked (s : State) (n : Nat) : State :=
  ((s.setLs n Fld.LSW_CH_STAT_CLAMP_LOCK 1).bump (Reg.LSW_CNT n) Fld.LSW_CNT_LOCKS).post Ev.LSW_CLAMP_LOCK n

theorem State.clampTurnOff_cases (n e : Nat) : s.clampTurnOff n e = s.clampTaken n e ∨ s.clampTurnOff n e = (s.clampTaken n e).clampLocked n := by
  unfold State.clampTurnOff
  extract_lets b taken
  split
  · exact .inr rfl
  · exact .inl rfl

theorem lswStep_clampTaken (e : Nat) : LswStep n s (s.clampTaken n e) := (lswStep_setLsw _).trans (lswStep_setF _ _ (by simp [lswRegs]))

theorem lswStep_clampLocked : LswStep n s (s.clampLocked n) := ((lswStep_setLs _ _).trans (lswStep_bump _)).trans (lswStep_post _ _ _ _)

theorem lswStep_clampTurnOff (e : Nat) : LswStep n s (s.clampTurnOff n e) := by
  rcases State.clampTurnOff_cases n e with h | h <;> rw [h]
  · exact lswStep_clampTaken e
  · exact (lswStep_clampTaken e).trans lswStep_clampLocked

/-- A channel as it leaves ON: its state, the regulation's mark and the instant. -/
def State.offEntered (s : State) (n st : Nat) : State :=
  let s1 := (s.lswEnter n st).setLs n Fld.LSW_CH_STAT_TREG 0
  s1.setLsw n { s1.lswCh n with tregAt := none, offAt := some s1.period }

theorem State.turnOff_eq (n st e : Nat) :
    s.turnOff n st e = if s.lswOnNow n then (s.offEntered n st).clampTurnOff n e else s.offEntered n st := rfl

theorem lswStep_offEntered (st : Nat) : LswStep n s (s.offEntered n st) :=
  ((lswStep_lswEnter st).trans (lswStep_setLs _ _)).trans (lswStep_setLsw _)

theorem lswStep_turnOff (st e : Nat) : LswStep n s (s.turnOff n st e) := by
  rw [State.turnOff_eq]
  split
  · exact (lswStep_offEntered st).trans (lswStep_clampTurnOff e)
  · exact lswStep_offEntered st

theorem lswStep_lswFollow (e : Nat) : LswStep n s (s.lswFollow n e) := by
  simp only [State.lswFollow]
  split
  · split
    · split
      · split
        · exact LswStep.refl n s
        · exact (lswStep_setLsw _).trans (lswStep_post _ _ _ _)
      · split
        · exact LswStep.refl n s
        · split
          · exact ((lswStep_setLsw _).trans (lswStep_lswEnter 4)).trans (lswStep_setLs _ _)
          · exact lswStep_inrush
    · exact LswStep.refl n s
  · split
    · exact lswStep_turnOff 0 e
    · exact LswStep.refl n s

theorem lswStep_lswCommand (on : Bool) (e : Nat) : LswStep n s (s.lswCommand n on e) := by
  unfold State.lswCommand
  split
  · exact lswStep_lswFollow e
  · exact ((lswStep_setLs _ _).trans (lswStep_setLsw _)).trans (lswStep_lswFollow e)

/-- A channel as FOG mode takes it: its settings held, where it was not under FOG. -/
def State.fogHeld (s : State) (n : Nat) : State :=
  if s.ls n Fld.LSW_CH_STAT_FOG = 1 then s
  else s.setLsw n { s.lswCh n with heldTime := some (s.rd (Reg.LSW_TIME n)), heldLim := some (s.rd (Reg.LSW_LIM n)) }

theorem State.fogDrive_eq (n e : Nat) :
    s.fogDrive n e = ((s.fogHeld n).setLs n Fld.LSW_CH_STAT_FOG 1).lswCommand n (s.fogMap n && s.fogSource n) e := rfl

theorem lswStep_fogHeld : LswStep n s (s.fogHeld n) := by
  unfold State.fogHeld
  split
  · exact LswStep.refl n s
  · exact lswStep_setLsw _

theorem lswStep_fogDrive (e : Nat) : LswStep n s (s.fogDrive n e) := by
  rw [State.fogDrive_eq]
  exact (lswStep_fogHeld.trans (lswStep_setLs _ _)).trans (lswStep_lswCommand _ e)

/-- Acts on channel after channel leave FOG mode and every register that shows no channel. -/
theorem lswSteps_foldl {f : State → Nat → State} (hf : ∀ t k, LswStep k t (f t k)) (m : Nat) (s : State) :
    ((List.range m).foldl f s).lsw.fog = s.lsw.fog ∧ ∀ a, (∀ k < m, a ∉ lswRegs k) → ((List.range m).foldl f s).rd a = s.rd a := by
  induction m with
  | zero => exact ⟨rfl, fun _ _ => rfl⟩
  | succ m ih =>
    obtain ⟨hfog, hrd⟩ := ih
    rw [List.range_succ, List.foldl_append, List.foldl_cons, List.foldl_nil]
    exact ⟨(hf _ m).fog.trans hfog, fun a ha => ((hf _ m).rd a (ha m (by omega))).trans (hrd a fun k hk => ha k (by omega))⟩

theorem not_mem_lswRegs {a k : Nat} (hk : k < 24) (h : a < 0x110000 ∨ 0x120000 ≤ a) : a ∉ lswRegs k := by
  simp only [lswRegs, Reg.LSW_CH_STAT, Reg.LSW_CLAMP, Reg.LSW_CNT, List.mem_cons, List.not_mem_nil, or_false, not_or]
  omega

/-! ### A channel commanded off -/

/-- The fields of a channel's status that a turn-off leaves: all but its state, the regulation's mark and the lock. -/
theorem State.ls_lswFollow_off (e : Nat) (hc : s.ls n Fld.LSW_CH_STAT_CMD = 0) :
    (s.lswFollow n e).ls n Fld.LSW_CH_STAT_CMD = 0 ∧ (s.lswFollow n e).lswOnNow n = false := by
  have hclamp : Reg.LSW_CLAMP n ≠ Reg.LSW_CH_STAT n ∧ Reg.LSW_CNT n ≠ Reg.LSW_CH_STAT n := by
    simp only [Reg.LSW_CLAMP, Reg.LSW_CH_STAT, Reg.LSW_CNT]; omega
  have htaken (v : State) (g : Field) : (v.clampTaken n e).ls n g = v.ls n g := State.fld_setF_other _ _ _ _ _ _ hclamp.1
  have hlocked (v : State) (g : Field) (hg : g.lo + g.width ≤ 32)
      (hd : g.lo + g.width ≤ Fld.LSW_CH_STAT_CLAMP_LOCK.lo ∨ Fld.LSW_CH_STAT_CLAMP_LOCK.lo + Fld.LSW_CH_STAT_CLAMP_LOCK.width ≤ g.lo) :
      (v.clampLocked n).ls n g = v.ls n g := by
    rw [State.ls, State.clampLocked, State.fld_post, State.fld_bump_other _ _ _ _ _ _ hclamp.2, State.setLs, State.fld_setF_field _ _ _ _ _ hg hd,
      State.ls]
  have hclampOff (v : State) (g : Field) (hg : g.lo + g.width ≤ 32)
      (hd : g.lo + g.width ≤ Fld.LSW_CH_STAT_CLAMP_LOCK.lo ∨ Fld.LSW_CH_STAT_CLAMP_LOCK.lo + Fld.LSW_CH_STAT_CLAMP_LOCK.width ≤ g.lo) :
      (v.clampTurnOff n e).ls n g = v.ls n g := by
    rcases v.clampTurnOff_cases n e with h | h <;> rw [h]
    · exact htaken v g
    · rw [hlocked _ _ hg hd, htaken]
  have hentered : (s.offEntered n 0).ls n Fld.LSW_CH_STAT_CMD = s.ls n Fld.LSW_CH_STAT_CMD ∧ (s.offEntered n 0).ls n Fld.LSW_CH_STAT_STATE = 0 := by
    have he (g : Field) : (s.offEntered n 0).ls n g
        = ((s.setF (Reg.LSW_CH_STAT n) Fld.LSW_CH_STAT_STATE 0).setF (Reg.LSW_CH_STAT n) Fld.LSW_CH_STAT_TREG 0).fld (Reg.LSW_CH_STAT n) g := rfl
    rw [he, he, State.fld_setF_field _ _ _ _ _ (by decide) (by decide), State.fld_setF_field _ _ _ _ _ (by decide) (by decide),
      State.fld_setF_field _ _ _ _ _ (by decide) (by decide), State.fld_setF_same _ _ _ _ (by decide)]
    exact ⟨rfl, rfl⟩
  have hoff : (s.turnOff n 0 e).ls n Fld.LSW_CH_STAT_CMD = 0 ∧ (s.turnOff n 0 e).ls n Fld.LSW_CH_STAT_STATE = 0 := by
    rw [State.turnOff_eq]
    split
    · rw [hclampOff _ _ (by decide) (by decide), hclampOff _ _ (by decide) (by decide), hentered.1, hentered.2]
      exact ⟨hc, rfl⟩
    · rw [hentered.1]; exact ⟨hc, hentered.2⟩
  have hon (v : State) (hv : v.ls n Fld.LSW_CH_STAT_STATE = 0) : v.lswOnNow n = false := by
    have : v.lswState n = 0 := hv
    rw [State.lswOnNow, this]; rfl
  simp only [State.lswFollow, hc, zero_ne_one, if_false]
  split
  · exact ⟨hoff.1, hon _ hoff.2⟩
  · next h =>
    simp only [Bool.or_eq_true, not_or, Bool.not_eq_true] at h
    exact ⟨hc, h.1⟩

end

end Sys2Proof.Machine

namespace Sys2Proof.Machine

open Sys2Proof

section

set_option Elab.async false

variable {s t u : State}

/-! ### FOG mode (R658) -/

/-- FOG mode takes a channel, with the energy of the turn-off that this may be. -/
def State.fogTake (s : State) (n : Nat) : State := s.freeEnergy.2.fogDrive n s.freeEnergy.1

theorem lswStep_fogTake (t : State) (k : Nat) : LswStep k t (t.fogTake k) := lswStep_freeEnergy.trans (lswStep_fogDrive _)

theorem State.fogEnter_facts (cause : Nat) (h : s.fogLive = true) :
    (s.fogEnter cause).lsw.fog = cause ∧ ∀ a, (a < 0x110000 ∨ 0x120000 ≤ a) → (s.fogEnter cause).rd a = s.rd a := by
  unfold State.fogEnter
  rw [h]
  split
  · next hc => exact ⟨hc.resolve_left (by decide), fun _ _ => rfl⟩
  · extract_lets p entered
    have hentered : entered.lsw.fog = cause := rfl
    have hrd (a : Nat) : entered.rd a = s.rd a := State.rd_post ..
    clear_value entered
    obtain ⟨hfog, hother⟩ := lswSteps_foldl lswStep_fogTake 24 entered
    exact ⟨hfog.trans hentered, fun a ha => (hother a fun k hk => not_mem_lswRegs hk ha).trans (hrd a)⟩

/-! ### The Guard step (R722, R762) -/

theorem State.loadTime_facts (a : Nat) (h : a ≠ Reg.TIME_STAT) : s.loadTime.rd a = s.rd a := by
  unfold State.loadTime
  split
  · rw [State.rd_setF_other _ _ _ _ _ h.symm, State.rd_setF_other _ _ _ _ _ h.symm]; rfl
  · rfl

theorem State.loadTime_kept (h : s.tm.rtcKept = true) :
    s.loadTime.tm.ts = s.tm.rtc + (s.tm.life - s.tm.rtcTrimAt) ∧ s.loadTime.fld Reg.TIME_STAT Fld.TIME_STAT_VALID = 1 := by
  rw [State.loadTime, if_pos h]
  refine ⟨rfl, ?_⟩
  rw [State.fld_setF_field _ _ _ _ _ (by decide) (by decide), State.fld_setF_same _ _ _ _ (by decide)]
  rfl

theorem State.loadTime_lost (h : s.tm.rtcKept = false) : s.loadTime.tm.ts = 0 := by
  rw [State.loadTime, if_neg (by rw [h]; exact Bool.false_ne_true)]

theorem State.releaseSides_facts : (s.releaseSides.side .a).state = .boot ∧ (s.releaseSides.side .b).state = .boot
    ∧ s.releaseSides.keep.guardFault = s.keep.guardFault
    ∧ ∀ a, a ≠ Reg.SAFE_STAT → a ≠ Reg.KEEP_STAT → s.releaseSides.rd a = s.rd a := by
  unfold State.releaseSides
  refine ⟨?_, ?_, ?_, fun a hs hk => ?_⟩
  · rw [State.side_routeMap, State.side_enterSide_other _ (by decide), State.side_enterSide_same]
  · rw [State.side_routeMap, State.side_enterSide_same]
  · obtain ⟨_, h1⟩ := State.keep_enterSide (s := s) .a .boot
    obtain ⟨_, h2⟩ := State.keep_enterSide (s := s.enterSide .a .boot) .b .boot
    rw [State.keep_routeMap, h2, h1]
  · rw [State.rd_routeMap hk, State.rd_enterSide _ _ hs, State.rd_enterSide _ _ hs]

theorem State.eq_guardStep (h : t.outside [.regs, .tm, .queues, .ev, .keep, .safe, .acq, .lsw, .sup, .recent, .free]
    = u.outside [.regs, .tm, .queues, .ev, .keep, .safe, .acq, .lsw, .sup, .recent, .free]) :
    t = { u with
          regs := t.regs, tm := t.tm, queues := t.queues, ev := t.ev, keep := t.keep, safe := t.safe
          acq := t.acq, lsw := t.lsw, sup := t.sup, recent := t.recent, free := t.free } := State.eq_patch h

/-- The mode of the host link, LINK_UP and the start's progress as the Guard step shows them. -/
def State.stepShown (s : State) (hmode : Nat) : State :=
  ((s.setF Reg.HOST_CFG Fld.HOST_CFG_MODE (hmode % 4)).setF Reg.HOST_STAT Fld.HOST_STAT_LINK_UP (flag (hmode % 4 == 2))).wr Reg.PWR_START 0xFFFF

theorem State.rd_stepShown (hmode : Nat) {a : Nat} (hc : a ≠ Reg.HOST_CFG) (hs : a ≠ Reg.HOST_STAT) (hp : a ≠ Reg.PWR_START) :
    (s.stepShown hmode).rd a = s.rd a := by
  rw [State.stepShown, State.rd_wr_other _ _ _ _ hp.symm, State.rd_setF_other _ _ _ _ _ hs.symm, State.rd_setF_other _ _ _ _ _ hc.symm]

theorem guardStep_row (dt hmode : Nat) (hp : s.sup.phase = 3) (hg : s.keep.guardFault = false) (hpow : s.power < 4) :
    Does (.guardStep dt hmode) s fun t =>
      t.sup.phase = 4 ∧ (t.side .a).state = .boot ∧ (t.side .b).state = .boot ∧ t.lsw.fog = 3
      ∧ t.fld Reg.HOST_CFG Fld.HOST_CFG_MODE = hmode % 4 ∧ t.rd Reg.PWR_START = 0xFFFF
      ∧ (s.tm.rtcKept = false → t.tm.ts = 0)
      ∧ (s.tm.rtcKept = true → t.tm.ts = s.tm.rtc + ((s.tick dt).tm.life - s.tm.rtcTrimAt) ∧ t.fld Reg.TIME_STAT Fld.TIME_STAT_VALID = 1) ∧ t = { s.tick dt with
            regs := t.regs, tm := t.tm, queues := t.queues, ev := t.ev, keep := t.keep, safe := t.safe
            acq := t.acq, lsw := t.lsw, sup := t.sup, recent := t.recent, free := t.free } := by
  have hc : (s.tick dt).sup.phase = 3 ∧ (s.tick dt).keep.guardFault = false := ⟨hp, hg⟩
  refine Does.of_answer fun t ht => ?_
  simp only [exec, execGuardStep, if_pos hc, Host.Outcome.next.injEq] at ht
  generalize hv : ({ s.tick dt with sup := { (s.tick dt).sup with phase := 4 } } : State) = v at ht
  have hw : t = ((v.loadTime.stepShown hmode).releaseSides).fogEnter 3 := ht.symm
  generalize hu : v.loadTime.stepShown hmode = u at hw
  have hvr (a : Nat) : v.rd a = s.rd a := by rw [← hv]; exact State.rd_tick s dt a
  have hur {a : Nat} (ht : a ≠ Reg.TIME_STAT) (hc : a ≠ Reg.HOST_CFG) (hs : a ≠ Reg.HOST_STAT) (hp : a ≠ Reg.PWR_START) : u.rd a = s.rd a := by
    rw [← hu, State.rd_stepShown hmode hc hs hp, State.loadTime_facts a ht, hvr]
  have husup : u.sup = v.sup := by rw [← hu, State.stepShown]; exact State.sup_of_outside (by simp)
  have hukeep : u.keep = v.keep := by rw [← hu, State.stepShown]; exact State.keep_of_outside (by simp)
  have hutm : u.tm = v.loadTime.tm := by rw [← hu, State.stepShown]; rfl
  obtain ⟨hA, hB, hgf, hrel⟩ := u.releaseSides_facts
  have hsup : u.releaseSides.sup = u.sup := State.sup_of_outside (by simp)
  have htm : u.releaseSides.tm = u.tm := State.tm_of_outside (by simp)
  have hlive : u.releaseSides.fogLive = true := by
    have hpower : u.releaseSides.power = s.power := by
      rw [State.power, State.fld, hrel _ (by decide) (by decide), hur (by decide) (by decide) (by decide) (by decide), ← State.fld, State.power]
    have hgf' : u.releaseSides.keep.guardFault = false := by rw [hgf, hukeep, ← hv]; exact hg
    have hph : u.releaseSides.sup.phase = 4 := by rw [hsup, husup, ← hv]
    rw [State.fogLive, hph, hgf', hpower]
    simpa using hpow
  obtain ⟨hfog, hrd⟩ := State.fogEnter_facts 3 hlive
  rw [← hw] at hfog hrd
  have htsup : t.sup = u.releaseSides.sup := by rw [hw]; exact State.sup_of_outside (by simp)
  have htkeep : t.keep = u.releaseSides.keep := by rw [hw]; exact State.keep_of_outside (by simp)
  have httm : t.tm = u.releaseSides.tm := by rw [hw]; exact State.tm_of_outside (by simp)
  have htr {a : Nat} (ha : a < 0x110000 ∨ 0x120000 ≤ a) (hs : a ≠ Reg.SAFE_STAT) (hk : a ≠ Reg.KEEP_STAT) : t.rd a = u.rd a := by
    rw [hrd a ha, hrel a hs hk]
  refine ⟨?_, ?_, ?_, hfog, ?_, ?_, fun hk => ?_, fun hk => ⟨?_, ?_⟩, State.eq_guardStep ?_⟩
  · rw [htsup, hsup, husup, ← hv]
  · rw [State.side_of_keep htkeep, hA]
  · rw [State.side_of_keep htkeep, hB]
  · rw [State.fld, htr (by decide) (by decide) (by decide), ← State.fld, ← hu, State.stepShown, State.fld_wr_other _ _ _ _ _ (by decide),
      State.fld_setF_other _ _ _ _ _ _ (by decide), State.fld_setF_same _ _ _ _ (by decide)]
    exact Nat.mod_mod _ _
  · rw [htr (by decide) (by decide) (by decide), ← hu, State.stepShown, State.rd_wr_same]
  · rw [httm, htm, hutm, State.loadTime_lost (by rw [← hv]; exact hk)]
  · rw [httm, htm, hutm, (State.loadTime_kept (s := v) (by rw [← hv]; exact hk)).1, ← hv]; rfl
  · rw [State.fld, htr (by decide) (by decide) (by decide), ← hu, State.rd_stepShown hmode (by decide) (by decide) (by decide), ← State.fld]
    exact (State.loadTime_kept (s := v) (by rw [← hv]; exact hk)).2
  · rw [hw, ← hu, ← hv]; simp [State.stepShown, -State.tick_tags]

/-! ### GUARD_FAULT (R47, R659) -/

/-- A channel switched off: its command, its mark of FOG mode and its held settings end. -/
def State.lswOff (s : State) (n : Nat) : State :=
  let u := (s.freeEnergy.2.setLs n Fld.LSW_CH_STAT_FOG 0).setLs n Fld.LSW_CH_STAT_CMD 0
  (u.setLsw n { u.lswCh n with heldTime := none, heldLim := none }).lswFollow n s.freeEnergy.1

theorem State.lswAllOff_eq : s.lswAllOff = (List.range 24).foldl State.lswOff { s with lsw := { s.lsw with fog := 0 } } := rfl

theorem lswStep_lswOff (t : State) (k : Nat) : LswStep k t (t.lswOff k) :=
  (((lswStep_freeEnergy.trans (lswStep_setLs _ _)).trans (lswStep_setLs _ _)).trans (lswStep_setLsw _)).trans (lswStep_lswFollow _)

theorem State.ls_lswOff (n : Nat) : (s.lswOff n).ls n Fld.LSW_CH_STAT_CMD = 0 ∧ (s.lswOff n).lswOnNow n = false := by
  refine State.ls_lswFollow_off _ ?_
  have he (v : State) (c : LswCh) (g : Field) : (v.setLsw n c).ls n g = v.ls n g := rfl
  rw [he, State.ls, State.setLs, State.fld_setF_same _ _ _ _ (by decide)]
  rfl

theorem State.lswAllOff_facts : s.lswAllOff.lsw.fog = 0
    ∧ ∀ n < 24, s.lswAllOff.ls n Fld.LSW_CH_STAT_CMD = 0 ∧ s.lswAllOff.lswOnNow n = false := by
  rw [State.lswAllOff_eq]
  generalize hv : ({ s with lsw := { s.lsw with fog := 0 } } : State) = v
  refine ⟨((lswSteps_foldl lswStep_lswOff 24 v).1).trans (by rw [← hv]), fun n hn => ?_⟩
  have hother (t : State) (k : Nat) (hk : k ≠ n) : (t.lswOff k).rd (Reg.LSW_CH_STAT n) = t.rd (Reg.LSW_CH_STAT n) := by
    refine (lswStep_lswOff t k).rd _ ?_
    simp only [lswRegs, Reg.LSW_CH_STAT, Reg.LSW_CLAMP, Reg.LSW_CNT, List.mem_cons, List.not_mem_nil, or_false, not_or]
    omega
  obtain ⟨w, -, hw⟩ := foldl_range_at (fun t => t.rd (Reg.LSW_CH_STAT n)) (f := State.lswOff) hn hother v
  obtain ⟨hcmd, hon⟩ := w.ls_lswOff n
  exact ⟨(congrArg (fget Fld.LSW_CH_STAT_CMD) hw).trans hcmd,
    (congrArg (fun r => fget Fld.LSW_CH_STAT_STATE r == 1 || fget Fld.LSW_CH_STAT_STATE r == 2) hw).trans hon⟩

theorem State.rd_outlOrphan (n : Nat) : s.outlOrphan.rd (Reg.LSW_CH_STAT n) = s.rd (Reg.LSW_CH_STAT n) := by
  refine rd_foldl _ (fun t k hk => ?_) s
  have hlt : k < outletsOf s.variant := List.mem_range.mp (List.mem_of_mem_filter hk)
  have h16 : outletsOf s.variant < 16 := Nat.mod_lt _ (by decide)
  refine (State.rd_setF_other _ _ _ _ _ ?_).trans rfl
  simp only [Reg.OUTL_O_STAT, Reg.LSW_CH_STAT]
  omega

theorem State.eq_guardFault (h : t.outside [.regs, .ev, .keep, .edge, .ring, .sst, .outl, .safe, .lsw, .mem, .recent, .free]
    = u.outside [.regs, .ev, .keep, .edge, .ring, .sst, .outl, .safe, .lsw, .mem, .recent, .free]) :
    t = { u with
          regs := t.regs, ev := t.ev, keep := t.keep, edge := t.edge, ring := t.ring, sst := t.sst
          outl := t.outl, safe := t.safe, lsw := t.lsw, mem := t.mem, recent := t.recent, free := t.free } := State.eq_patch h

/-- GUARD_FAULT latched and logged, with no ring port at work, once the outputs are safe. -/
def State.faultLatched (s : State) : State :=
  { s with
    keep := { s.keep with guardFault := true, guardFaultAt := s.tm.life }
    ring := { s.ring with ports := [] }
    mem := { s.mem with faults := s.mem.faults ++ [{ kind := 0, cause := 0, ts := s.tm.ts, mono := s.tm.mono }] } }

theorem State.latchGuardFault_eq (h : s.keep.guardFault = false) :
    s.latchGuardFault = (((s.pairsOrphan true).padsOff.lswAllOff).openBreakers.outlOrphan).faultLatched := by
  rw [State.latchGuardFault, if_neg (by rw [h]; exact Bool.false_ne_true)]; rfl

theorem guardFault_row (dt : Nat) (ha : s.awake = true) (hg : s.keep.guardFault = false) :
    Does (.guardFault dt) s fun t =>
      t.keep.guardFault = true ∧ t.keep.guardFaultAt = t.tm.life ∧ t.ring.ports = [] ∧ t.lsw.fog = 0
      ∧ t.mem.faults = s.mem.faults ++ [{ kind := 0, cause := 0, ts := (s.tick dt).tm.ts, mono := (s.tick dt).tm.mono }]
      ∧ (∀ n < 24, t.ls n Fld.LSW_CH_STAT_CMD = 0 ∧ t.lswOnNow n = false) ∧ t = { s.tick dt with
            regs := t.regs, ev := t.ev, keep := t.keep, edge := t.edge, ring := t.ring, sst := t.sst
            outl := t.outl, safe := t.safe, lsw := t.lsw, mem := t.mem, recent := t.recent, free := t.free } := by
  have he : exec (.guardFault dt) s = .next (s.tick dt).latchGuardFault := congrArg Host.Outcome.next (if_pos ha)
  refine Does.of_eq he fun t ht => ?_
  have hf : t.outside [.regs, .ev, .keep, .edge, .ring, .sst, .outl, .safe, .lsw, .mem, .recent, .free]
      = (s.tick dt).outside [.regs, .ev, .keep, .edge, .ring, .sst, .outl, .safe, .lsw, .mem, .recent, .free] := by rw [ht]; simp [-State.tick_tags]
  rw [State.latchGuardFault_eq (s := s.tick dt) hg] at ht
  generalize hv : ((s.tick dt).pairsOrphan true).padsOff = v at ht
  generalize hw : v.lswAllOff.openBreakers.outlOrphan = w at ht
  have hwlsw : w.lsw = v.lswAllOff.lsw := by rw [← hw]; exact State.lsw_of_outside (by simp)
  have hwmem : w.mem = s.mem := by rw [← hw, ← hv]; exact State.mem_of_outside (by simp [-State.tick_tags])
  have hwtm : w.tm = (s.tick dt).tm := by rw [← hw, ← hv]; exact State.tm_of_outside (by simp [-State.tick_tags])
  have hwr (n : Nat) : w.rd (Reg.LSW_CH_STAT n) = v.lswAllOff.rd (Reg.LSW_CH_STAT n) := by rw [← hw, State.rd_outlOrphan]; rfl
  obtain ⟨hfog, hoff⟩ := v.lswAllOff_facts
  refine ⟨by rw [ht]; rfl, by rw [ht]; rfl, by rw [ht]; rfl, ?_, ?_, fun n hn => ?_, State.eq_guardFault hf⟩
  · rw [ht]; exact (congrArg LswPart.fog hwlsw).trans hfog
  · rw [ht, State.faultLatched, hwmem, hwtm]
  · obtain ⟨hcmd, hon⟩ := hoff n hn
    rw [ht]
    exact ⟨(congrArg (fget Fld.LSW_CH_STAT_CMD) (hwr n)).trans hcmd,
      (congrArg (fun r => fget Fld.LSW_CH_STAT_STATE r == 1 || fget Fld.LSW_CH_STAT_STATE r == 2) (hwr n)).trans hon⟩

end

/-- Settles O52, start by start and reset by reset. -/
theorem startAndResetRows : Obligations.StartAndResetRows := by
  refine ⟨fun s dt hmode hp hg hpow => guardStep_row dt hmode hp hg hpow, fun s dt ha hl hr hin => startLate_row dt ha hl hr hin,
    fun s dt held ha hin => mrstAssert_row dt held ha hin, fun s dt held hin => ?_, fun s dt hp => mrstRelease_row dt hp,
    fun s dt acc val h hk hr => pwrReset_row dt acc val h hk hr, fun s dt acc val h hr => pwrResetRefused_row dt acc val h hr,
    fun s dt ha hg => guardFault_row dt ha hg, fun s dt hg ha hc hin hn => guardAutoReset_row dt hg ha hc hin hn⟩
  have he : exec (.mrstAssert dt held) s = .next (s.tick dt) := if_neg fun hc => absurd hc.2 (Nat.not_le.mpr hin)
  exact Does.of_eq he fun t ht => ht

end Sys2Proof.Machine

namespace Sys2Proof.Machine

open Sys2Proof

section

set_option Elab.async false

variable {s t u : State}

/-! ### Lock won (R284, R299) -/

theorem State.eq_regs_ring (h : t.outside [.regs, .ring] = u.outside [.regs, .ring]) : t = { u with regs := t.regs, ring := t.ring } :=
  State.eq_patch h

theorem State.eq_regs_recent (h : t.outside [.regs, .recent] = u.outside [.regs, .recent]) : t = { u with regs := t.regs, recent := t.recent } :=
  State.eq_patch h

theorem State.eq_regs_ev_recent (h : t.outside [.regs, .ev, .recent] = u.outside [.regs, .ev, .recent]) :
    t = { u with regs := t.regs, ev := t.ev, recent := t.recent } := State.eq_patch h

theorem State.eq_ring (h : t.outside [.ring] = u.outside [.ring]) : t = { u with ring := t.ring } := State.eq_patch h

theorem portStat_ne (p : Nat) : Reg.RING_PORT_STAT p ≠ Reg.RING_STAT ∧ Reg.RING_PORT_STAT p ≠ Reg.RING_PORT_CNT p := by
  simp only [Reg.RING_PORT_STAT, Reg.RING_STAT, Reg.RING_PORT_CNT]
  omega

/-- The ring as a lock of port p that it did not have leaves it. -/
def State.lockNoted (s : State) (p : Nat) : State :=
  if s.fld (Reg.RING_PORT_STAT p) Fld.RING_PORT_STAT_LOCK = 1 then s
  else { s with ring := { s.ring with lockAt := SMap.put (fun _ => 0) s.ring.lockAt p s.tm.mono } }

theorem State.lockNoted_eq (p : Nat) : s.lockNoted p = { s with
    ring := if s.fld (Reg.RING_PORT_STAT p) Fld.RING_PORT_STAT_LOCK = 1 then s.ring
      else { s.ring with lockAt := SMap.put (fun _ => 0) s.ring.lockAt p s.tm.mono } } := by
  unfold State.lockNoted
  split <;> rfl

/-- A port as it has won lock. -/
def State.portLocked (s : State) (p : Nat) : State := (s.lockNoted p).setF (Reg.RING_PORT_STAT p) Fld.RING_PORT_STAT_LOCK 1

theorem State.rd_lockNoted (p a : Nat) : (s.lockNoted p).rd a = s.rd a := by
  rw [State.lockNoted_eq]; rfl

theorem State.rd_portLocked (p : Nat) {a : Nat} (h : a ≠ Reg.RING_PORT_STAT p) : (s.portLocked p).rd a = s.rd a := by
  rw [State.portLocked, State.rd_setF_other _ _ _ _ _ h.symm, State.rd_lockNoted]

theorem State.fld_portLocked (p : Nat) : (s.portLocked p).fld (Reg.RING_PORT_STAT p) Fld.RING_PORT_STAT_LOCK = 1 := by
  rw [State.portLocked, State.fld_setF_same _ _ _ _ (by decide)]; rfl

/-- The other fields of the port's status stand. -/
theorem State.fld_portLocked_other (p : Nat) (g : Field) (hg : g.lo + g.width ≤ 32)
    (hd : g.lo + g.width ≤ Fld.RING_PORT_STAT_LOCK.lo ∨ Fld.RING_PORT_STAT_LOCK.lo + Fld.RING_PORT_STAT_LOCK.width ≤ g.lo) :
    (s.portLocked p).fld (Reg.RING_PORT_STAT p) g = s.fld (Reg.RING_PORT_STAT p) g := by
  rw [State.portLocked, State.fld_setF_field _ _ _ _ _ hg hd, State.fld, State.rd_lockNoted, State.fld]

theorem State.mode_portLocked (p : Nat) : (s.portLocked p).mode = s.mode := by
  have h : Reg.IMG_STAT ≠ Reg.RING_PORT_STAT p := by simp only [Reg.IMG_STAT, Reg.RING_PORT_STAT]; omega
  rw [State.mode, State.fld, State.rd_portLocked p h, State.mode, State.fld]

theorem State.portUsed_portLocked (p : Nat) : (s.portLocked p).portUsed p = s.portUsed p := by
  have hv : (s.portLocked p).variant = s.variant := by rw [State.portLocked, State.lockNoted_eq]; rfl
  rw [State.portUsed, hv, State.fld_portLocked_other p _ (by decide) (by decide), State.portUsed]

theorem exec_lockAcquired (dt p e : Nat) (d : Bool) (headers : Nat) (hp : p < 12) (hh : 64 ≤ headers) :
    exec (.ringLockAcquired dt (some p) e d headers) s =
      if s.mode = 2 ∧ s.portUsed p = true ∧ s.fld (Reg.RING_PORT_STAT p) Fld.RING_PORT_STAT_STATE = 1 then
        .next (((s.tick dt).portLocked p).bringUp p).showRings
      else .next ((s.tick dt).portLocked p) := by
  have hu : ((s.tick dt).portLocked p).portUsed p = s.portUsed p := by
    rw [State.portUsed_portLocked, State.portUsed, State.fld_tick]; rfl
  have hm : ((s.tick dt).portLocked p).mode = s.mode := by rw [State.mode_portLocked, State.mode, State.fld_tick, State.mode]
  have hs : ((s.tick dt).portLocked p).fld (Reg.RING_PORT_STAT p) Fld.RING_PORT_STAT_STATE
      = s.fld (Reg.RING_PORT_STAT p) Fld.RING_PORT_STAT_STATE := by
    rw [State.fld_portLocked_other p _ (by decide) (by decide), State.fld_tick]
  have he : (if (s.tick dt).fld (Reg.RING_PORT_STAT p) Fld.RING_PORT_STAT_LOCK = 1 then s.tick dt
      else { s.tick dt with ring := { (s.tick dt).ring with
        lockAt := SMap.put (fun _ => 0) (s.tick dt).ring.lockAt p (s.tick dt).tm.mono } }).setF (Reg.RING_PORT_STAT p) Fld.RING_PORT_STAT_LOCK 1
      = (s.tick dt).portLocked p := rfl
  simp only [exec, execRingLockAcquired, Nat.mod_eq_of_lt hp, if_neg (Nat.not_lt.mpr hh), he, hu, hm, hs]

theorem lockAcquired_row (dt p e : Nat) (d : Bool) (headers : Nat) (hp : p < 12) (hh : 64 ≤ headers)
    (hs : s.fld (Reg.RING_PORT_STAT p) Fld.RING_PORT_STAT_STATE ≠ 1) :
    Does (.ringLockAcquired dt (some p) e d headers) s fun t =>
      t.fld (Reg.RING_PORT_STAT p) Fld.RING_PORT_STAT_LOCK = 1
      ∧ t.fld (Reg.RING_PORT_STAT p) Fld.RING_PORT_STAT_STATE = s.fld (Reg.RING_PORT_STAT p) Fld.RING_PORT_STAT_STATE
      ∧ RegsBut [Reg.RING_PORT_STAT p] s t
      ∧ t = { s.tick dt with
          regs := t.regs
          ring := if s.fld (Reg.RING_PORT_STAT p) Fld.RING_PORT_STAT_LOCK = 1 then s.ring
            else { s.ring with lockAt := SMap.put (fun _ => 0) s.ring.lockAt p (s.tick dt).tm.mono } } := by
  have he := exec_lockAcquired (s := s) dt p e d headers hp hh
  rw [if_neg fun h => hs h.2.2] at he
  refine Does.of_eq he fun t ht => ⟨?_, ?_, fun a ha => ?_, ?_⟩
  · rw [ht, State.fld_portLocked]
  · rw [ht, State.fld_portLocked_other p _ (by decide) (by decide), State.fld_tick]
  · rw [ht, State.rd_portLocked p (by simpa using ha), State.rd_tick]
  · have hl : (s.tick dt).fld (Reg.RING_PORT_STAT p) Fld.RING_PORT_STAT_LOCK = s.fld (Reg.RING_PORT_STAT p) Fld.RING_PORT_STAT_LOCK := State.fld_tick ..
    rw [ht, State.portLocked, State.lockNoted_eq, hl]; rfl

/-- A frame that joins a port's queue changes the ports alone. -/
theorem State.ring_sendDown (p ty addr epoch : Nat) (pay : List Byte) :
    ∃ ports, (s.sendDown p ty addr epoch pay).ring = { s.ring with ports := ports } := by
  have hpump : ∃ ports, (s.pumpPort p).ring = { s.ring with ports := ports } := by
    unfold State.pumpPort
    dsimp only
    split
    · exact ⟨_, rfl⟩
    · exact ⟨_, rfl⟩
  obtain ⟨ports, hports⟩ := hpump
  unfold State.sendDown State.sendDue State.sendFrame
  split
  · exact ⟨_, rfl⟩
  · have hset (v : State) (x : PortTx) : (v.setPort p x).ring = { v.ring with ports := SMap.put (fun _ => PortTx.reset) v.ring.ports p x } := rfl
    exact ⟨_, by rw [hset, hports]⟩

theorem State.ring_sendDowns {α : Type} (l : List α) (p ty epoch : Nat) (addr : α → Nat) (pay : List Byte) (s : State) :
    ∃ ports, (l.foldl (fun st a => st.sendDown p ty (addr a) epoch pay) s).ring = { s.ring with ports := ports } := by
  induction l generalizing s with
  | nil => exact ⟨_, rfl⟩
  | cons a l ih =>
    obtain ⟨ports, hports⟩ := ih (s.sendDown p ty (addr a) epoch pay)
    obtain ⟨ports', hports'⟩ := State.ring_sendDown (s := s) p ty (addr a) epoch pay
    exact ⟨ports, by rw [List.foldl_cons, hports, hports']⟩

@[simp] theorem State.rd_sendDown (p ty addr epoch : Nat) (pay : List Byte) (a : Nat) : (s.sendDown p ty addr epoch pay).rd a = s.rd a :=
  State.rd_of_outside (by simp) a

theorem State.rd_showRings {a : Nat} (h : a ≠ Reg.RING_STAT) : s.showRings.rd a = s.rd a := by
  rw [State.showRings, State.rd_setF_other _ _ _ _ _ h.symm, State.rd_setF_other _ _ _ _ _ h.symm]

/-- A port's bring-up begins: its endpoints found and its loop times are forgotten. -/
def State.bringStarted (s : State) (p : Nat) : State :=
  (({ s with ring := { s.ring with found := SMap.put (fun _ => []) s.ring.found p [],
                                   bringAt := SMap.put (fun _ => 0) s.ring.bringAt p s.tm.mono,
                                   loops := SMap.put (fun _ => []) s.ring.loops p [] } }.setF (Reg.RING_PORT_STAT p) Fld.RING_PORT_STAT_STATE 2).setF
    (Reg.RING_PORT_STAT p) Fld.RING_PORT_STAT_EP_FOUND 0)

theorem State.bringUp_eq (p : Nat) (h : s.fld (Reg.RING_PORT_STAT p) Fld.RING_PORT_STAT_LOCK = 1) : s.bringUp p =
    (List.range 32).foldl (fun st a => st.sendDown p 8 a 0 []) ((s.bringStarted p).sendDown p 5 0xFF 0 (leBytes 1 0 ++ leBytes 1 1 ++ leBytes 6 0)) := by
  rw [State.bringUp, if_neg (by rw [h]; decide)]; rfl

/-- What a port's bring-up shows as it begins, on a port that has lock. -/
theorem State.bringUp_facts (p : Nat) (h : s.fld (Reg.RING_PORT_STAT p) Fld.RING_PORT_STAT_LOCK = 1) :
    (s.bringUp p).fld (Reg.RING_PORT_STAT p) Fld.RING_PORT_STAT_LOCK = 1 ∧ (s.bringUp p).fld (Reg.RING_PORT_STAT p) Fld.RING_PORT_STAT_STATE = 2
    ∧ (s.bringUp p).fld (Reg.RING_PORT_STAT p) Fld.RING_PORT_STAT_EP_FOUND = 0 ∧ SMap.get (fun _ => []) (s.bringUp p).ring.found p = []
    ∧ (s.bringUp p).ring.eps = s.ring.eps ∧ ∀ a, a ≠ Reg.RING_PORT_STAT p → (s.bringUp p).rd a = s.rd a := by
  rw [State.bringUp_eq p h]
  generalize hv : (s.bringStarted p).sendDown p 5 0xFF 0 (leBytes 1 0 ++ leBytes 1 1 ++ leBytes 6 0) = v
  obtain ⟨ports, hports⟩ := State.ring_sendDowns (List.range 32) p 8 0 id [] v
  obtain ⟨ports', hports'⟩ := State.ring_sendDown (s := s.bringStarted p) p 5 0xFF 0 (leBytes 1 0 ++ leBytes 1 1 ++ leBytes 6 0)
  rw [hv] at hports'
  have hring : ((List.range 32).foldl (fun st a => st.sendDown p 8 a 0 []) v).ring = { (s.bringStarted p).ring with ports := ports } :=
    hports.trans (by rw [hports'])
  have hrd (a : Nat) : ((List.range 32).foldl (fun st a => st.sendDown p 8 a 0 []) v).rd a = (s.bringStarted p).rd a := by
    rw [rd_foldl _ (fun t k _ => State.rd_sendDown p 8 k 0 [] a), ← hv, State.rd_sendDown]
  have hfld (g : Field) : ((List.range 32).foldl (fun st a => st.sendDown p 8 a 0 []) v).fld (Reg.RING_PORT_STAT p) g
      = (s.bringStarted p).fld (Reg.RING_PORT_STAT p) g := by rw [State.fld, hrd, State.fld]
  rw [hfld, hfld, hfld, hring]
  refine ⟨?_, ?_, ?_, ?_, rfl, fun a ha => ?_⟩
  · rw [State.bringStarted, State.fld_setF_field _ _ _ _ _ (by decide) (by decide), State.fld_setF_field _ _ _ _ _ (by decide) (by decide)]
    exact h
  · rw [State.bringStarted, State.fld_setF_field _ _ _ _ _ (by decide) (by decide), State.fld_setF_same _ _ _ _ (by decide)]; rfl
  · rw [State.bringStarted, State.fld_setF_same _ _ _ _ (by decide)]; rfl
  · exact SMap.get_put_same (fun _ => []) s.ring.found p []
  · rw [hrd, State.bringStarted, State.rd_setF_other _ _ _ _ _ ha.symm, State.rd_setF_other _ _ _ _ _ ha.symm]; rfl

theorem lockAcquiredWaiting_row (dt p e : Nat) (d : Bool) (headers : Nat) (hp : p < 12) (hh : 64 ≤ headers) (hm : s.mode = 2)
    (hu : s.portUsed p = true) (hs : s.fld (Reg.RING_PORT_STAT p) Fld.RING_PORT_STAT_STATE = 1) :
    Does (.ringLockAcquired dt (some p) e d headers) s fun t =>
      t.fld (Reg.RING_PORT_STAT p) Fld.RING_PORT_STAT_LOCK = 1 ∧ t.fld (Reg.RING_PORT_STAT p) Fld.RING_PORT_STAT_STATE = 2
      ∧ t.fld (Reg.RING_PORT_STAT p) Fld.RING_PORT_STAT_EP_FOUND = 0 ∧ (SMap.get (fun _ => []) t.ring.found p) = []
      ∧ t.ring.eps = s.ring.eps ∧ RegsBut [Reg.RING_PORT_STAT p, Reg.RING_STAT] s t ∧ t = { s.tick dt with regs := t.regs, ring := t.ring } := by
  have he := exec_lockAcquired (s := s) dt p e d headers hp hh
  rw [if_pos ⟨hm, hu, hs⟩] at he
  refine Does.of_eq he fun t ht => ?_
  obtain ⟨hlock, hstate, hfound, hlist, heps, hrd⟩ := State.bringUp_facts p ((s.tick dt).fld_portLocked p)
  have htr {a : Nat} (ha : a ≠ Reg.RING_STAT) : t.rd a = (((s.tick dt).portLocked p).bringUp p).rd a := by rw [ht, State.rd_showRings ha]
  have hring : t.ring = (((s.tick dt).portLocked p).bringUp p).ring := by rw [ht]; exact State.ring_of_outside (by simp)
  have heps' : ((s.tick dt).portLocked p).ring.eps = s.ring.eps := by
    rw [State.portLocked, State.lockNoted_eq]
    exact (apply_ite RingPart.eps _ _ _).trans (ite_self _)
  refine ⟨?_, ?_, ?_, by rw [hring, hlist], by rw [hring, heps, heps'], fun a ha => ?_, State.eq_regs_ring ?_⟩
  · rw [State.fld, htr (portStat_ne p).1]; exact hlock
  · rw [State.fld, htr (portStat_ne p).1]; exact hstate
  · rw [State.fld, htr (portStat_ne p).1]; exact hfound
  · simp only [List.mem_cons, List.not_mem_nil, or_false, not_or] at ha
    rw [htr ha.2, hrd a ha.1, State.rd_portLocked p ha.1, State.rd_tick]
  · rw [ht]
    simp only [State.portLocked, State.lockNoted_eq]
    simp [-State.tick_tags]

end

end Sys2Proof.Machine

namespace Sys2Proof.Machine

open Sys2Proof

section

set_option Elab.async false

variable {s t u : State}

/-! ### Lock lost, and breaks (R284, R298) -/

@[simp] theorem State.ep_setEp_same (e : Nat) (v : Endpoint) : (s.setEp e v).ep e = v := SMap.get_put_same ..

@[simp] theorem State.rd_setEp (e : Nat) (v : Endpoint) (a : Nat) : (s.setEp e v).rd a = s.rd a := rfl

theorem State.epLast_congr (e : Nat) (h : ∀ a, t.rd a = s.rd a) : t.epLast e = s.epLast e := by
  rw [State.epLast, State.fld, h, State.epLast, State.fld]

theorem State.ringPorts_congr (p : Nat) (h : ∀ a, t.rd a = s.rd a) : t.ringPorts p = s.ringPorts p := by
  have hf (a : Nat) (g : Field) : t.fld a g = s.fld a g := by rw [State.fld, h, State.fld]
  rw [State.ringPorts, State.portPaired, State.lowerPort, hf, State.ringPorts, State.portPaired, State.lowerPort]

theorem epLockAcquired_row (dt e : Nat) (d : Bool) (headers : Nat) (hh : 64 ≤ headers) :
    Does (.ringLockAcquired dt none e d headers) s fun t =>
      (t.ep e).state = (if (s.ep e).state = 0 then 1 else (s.ep e).state) ∧ (t.ep e).noLockAt = none
      ∧ (t.ep e).lockD = (d || (s.ep e).lockD) ∧ (t.ep e).lockU = (!d || (s.ep e).lockU)
      ∧ (if d then (t.ep e).downAt else (t.ep e).upAt) = (s.tick dt).tm.mono
      ∧ t = (s.tick dt).setEp e (t.ep e) := by
  refine Does.of_answer fun t ht => ?_
  simp only [exec, execRingLockAcquired, if_neg (Nat.not_lt.mpr hh), Host.Outcome.next.injEq] at ht
  have hep : (s.tick dt).ep e = s.ep e := rfl
  rw [hep] at ht
  rw [← ht, State.ep_setEp_same]
  cases d <;> exact ⟨rfl, rfl, rfl, rfl, rfl, rfl⟩

/-- A port as it has lost lock, counted. -/
def State.portUnlocked (s : State) (p : Nat) : State :=
  (s.setF (Reg.RING_PORT_STAT p) Fld.RING_PORT_STAT_LOCK 0).bump (Reg.RING_PORT_CNT p) Fld.RING_PORT_CNT_LOCK_LOSS

theorem State.fld_portUnlocked (p : Nat) : (s.portUnlocked p).fld (Reg.RING_PORT_STAT p) Fld.RING_PORT_STAT_LOCK = 0 := by
  rw [State.portUnlocked, State.fld_bump_other _ _ _ _ _ _ (portStat_ne p).2.symm, State.fld_setF_same _ _ _ _ (by decide)]; rfl

theorem State.fld_portUnlocked_other (p : Nat) (g : Field) (hg : g.lo + g.width ≤ 32)
    (hd : g.lo + g.width ≤ Fld.RING_PORT_STAT_LOCK.lo ∨ Fld.RING_PORT_STAT_LOCK.lo + Fld.RING_PORT_STAT_LOCK.width ≤ g.lo) :
    (s.portUnlocked p).fld (Reg.RING_PORT_STAT p) g = s.fld (Reg.RING_PORT_STAT p) g := by
  rw [State.portUnlocked, State.fld_bump_other _ _ _ _ _ _ (portStat_ne p).2.symm, State.fld_setF_field _ _ _ _ _ hg hd]

theorem State.rd_portUnlocked (p : Nat) {a : Nat} (h : a ≠ Reg.RING_PORT_STAT p) (h' : a ≠ Reg.RING_PORT_CNT p) : (s.portUnlocked p).rd a = s.rd a := by
  rw [State.portUnlocked, State.rd_bump_other _ _ _ _ _ h'.symm, State.rd_setF_other _ _ _ _ _ h.symm]

theorem exec_portLockLost (dt p e : Nat) (d : Bool) (invalid quiet : Nat) (hp : p < 12) (hi : 16 ≤ invalid ∨ Config.usec 1 ≤ quiet)
    (hl : s.fld (Reg.RING_PORT_STAT p) Fld.RING_PORT_STAT_LOCK = 1) : exec (.ringLockLost dt (some p) e d invalid quiet) s =
      .next (if s.portUsed p && decide (1 < s.fld (Reg.RING_PORT_STAT p) Fld.RING_PORT_STAT_STATE) then ((s.tick dt).portUnlocked p).portBreak p
        else (s.tick dt).portUnlocked p) := by
  have hquiet : ¬(invalid < 16 ∧ quiet < Config.usec 1) := fun h =>
    hi.elim (fun hi => absurd h.1 (Nat.not_lt.mpr hi)) (fun hi => absurd h.2 (Nat.not_lt.mpr hi))
  have hlock : ¬(s.tick dt).fld (Reg.RING_PORT_STAT p) Fld.RING_PORT_STAT_LOCK = 0 := by rw [State.fld_tick, hl]; decide
  have hu : ((s.tick dt).portUnlocked p).portUsed p = s.portUsed p := by
    rw [State.portUsed, State.fld_portUnlocked_other p _ (by decide) (by decide), State.fld_tick, State.portUsed]; rfl
  have hs : ((s.tick dt).portUnlocked p).fld (Reg.RING_PORT_STAT p) Fld.RING_PORT_STAT_STATE
      = s.fld (Reg.RING_PORT_STAT p) Fld.RING_PORT_STAT_STATE := by
    rw [State.fld_portUnlocked_other p _ (by decide) (by decide), State.fld_tick]
  have he : ((s.tick dt).setF (Reg.RING_PORT_STAT p) Fld.RING_PORT_STAT_LOCK 0).bump (Reg.RING_PORT_CNT p) Fld.RING_PORT_CNT_LOCK_LOSS
      = (s.tick dt).portUnlocked p := rfl
  simp only [exec, execRingLockLost, Nat.mod_eq_of_lt hp, if_neg hquiet, if_neg hlock, he, hu, hs]

theorem portLockLost_row (dt p e : Nat) (d : Bool) (invalid quiet : Nat) (hp : p < 12) (hi : 16 ≤ invalid ∨ Config.usec 1 ≤ quiet)
    (hl : s.fld (Reg.RING_PORT_STAT p) Fld.RING_PORT_STAT_LOCK = 1)
    (hu : (s.portUsed p && decide (1 < s.fld (Reg.RING_PORT_STAT p) Fld.RING_PORT_STAT_STATE)) = false) :
    Does (.ringLockLost dt (some p) e d invalid quiet) s fun t =>
      t.fld (Reg.RING_PORT_STAT p) Fld.RING_PORT_STAT_LOCK = 0
      ∧ t.fld (Reg.RING_PORT_CNT p) Fld.RING_PORT_CNT_LOCK_LOSS =
          min (s.fld (Reg.RING_PORT_CNT p) Fld.RING_PORT_CNT_LOCK_LOSS + 1) (2 ^ Fld.RING_PORT_CNT_LOCK_LOSS.width - 1)
      ∧ RegsBut [Reg.RING_PORT_STAT p, Reg.RING_PORT_CNT p] s t
      ∧ t = { s.tick dt with regs := t.regs, recent := t.recent } := by
  have he := exec_portLockLost (s := s) dt p e d invalid quiet hp hi hl
  rw [if_neg (by rw [hu]; exact Bool.false_ne_true)] at he
  refine Does.of_eq he fun t ht => ⟨?_, ?_, fun a ha => ?_, State.eq_regs_recent ?_⟩
  · rw [ht, State.fld_portUnlocked]
  · rw [ht, State.portUnlocked, State.fld_bump_same _ _ _ _ (by decide), State.fld_setF_other _ _ _ _ _ _ (portStat_ne p).2, State.fld_tick]
  · simp only [List.mem_cons, List.not_mem_nil, or_false, not_or] at ha
    rw [ht, State.rd_portUnlocked p ha.1 ha.2, State.rd_tick]
  · rw [ht, State.portUnlocked]; simp [-State.tick_tags]

/-- A break as a port of a single ring shows it, at a place. -/
def State.brokenAt (s : State) (p v : Nat) : State :=
  (s.setF (Reg.RING_PORT_STAT p) Fld.RING_PORT_STAT_BROKEN 1).setF (Reg.RING_PORT_STAT p) Fld.RING_PORT_STAT_BREAK_AT v

theorem State.brokenAt_facts (p v : Nat) (hv : v < 256) :
    (s.brokenAt p v).fld (Reg.RING_PORT_STAT p) Fld.RING_PORT_STAT_BROKEN = 1
    ∧ (s.brokenAt p v).fld (Reg.RING_PORT_STAT p) Fld.RING_PORT_STAT_BREAK_AT = v
    ∧ (s.brokenAt p v).fld (Reg.RING_PORT_STAT p) Fld.RING_PORT_STAT_LOCK = s.fld (Reg.RING_PORT_STAT p) Fld.RING_PORT_STAT_LOCK
    ∧ ∀ a, a ≠ Reg.RING_PORT_STAT p → (s.brokenAt p v).rd a = s.rd a := by
  unfold State.brokenAt
  refine ⟨?_, ?_, ?_, fun a ha => ?_⟩
  · rw [State.fld_setF_field _ _ _ _ _ (by decide) (by decide), State.fld_setF_same _ _ _ _ (by decide)]; rfl
  · rw [State.fld_setF_same _ _ _ _ (by decide)]
    exact Nat.mod_eq_of_lt hv
  · rw [State.fld_setF_field _ _ _ _ _ (by decide) (by decide), State.fld_setF_field _ _ _ _ _ (by decide) (by decide)]
  · rw [State.rd_setF_other _ _ _ _ _ ha.symm, State.rd_setF_other _ _ _ _ _ ha.symm]

theorem State.portPaired_false {p : Nat} (h : s.portPaired p = false) : s.lowerPort p = p := by
  simp only [State.portPaired, Bool.or_eq_false_iff] at h
  rw [State.lowerPort, h.2]; rfl

/-- A first break at a port of a single ring is shown and posted. -/
theorem State.portBreak_single (p : Nat) (hp : s.portPaired p = false) (hb : s.fld (Reg.RING_PORT_STAT p) Fld.RING_PORT_STAT_BROKEN = 0) :
    s.portBreak p = (s.brokenAt p 0xFF).post Ev.RING_BREAK p := by
  simp only [State.portBreak, State.portPaired_false hp, hp, hb, Bool.not_false, if_true, zero_ne_one, if_false, State.brokenAt]

theorem portBroken_row (dt p e : Nat) (d : Bool) (invalid quiet : Nat) (hp : p < 12) (hi : 16 ≤ invalid ∨ Config.usec 1 ≤ quiet)
    (hl : s.fld (Reg.RING_PORT_STAT p) Fld.RING_PORT_STAT_LOCK = 1) (hu : s.portUsed p = true) (hpair : s.portPaired p = false)
    (hs : 1 < s.fld (Reg.RING_PORT_STAT p) Fld.RING_PORT_STAT_STATE) (hb : s.fld (Reg.RING_PORT_STAT p) Fld.RING_PORT_STAT_BROKEN = 0) :
    Does (.ringLockLost dt (some p) e d invalid quiet) s fun t =>
      t.fld (Reg.RING_PORT_STAT p) Fld.RING_PORT_STAT_LOCK = 0 ∧ t.fld (Reg.RING_PORT_STAT p) Fld.RING_PORT_STAT_BROKEN = 1
      ∧ t.fld (Reg.RING_PORT_STAT p) Fld.RING_PORT_STAT_BREAK_AT = 0xFF
      ∧ Posted Ev.RING_BREAK (evArg p 0 0) (s.tick dt) t ∧ RegsBut [Reg.RING_PORT_STAT p, Reg.RING_PORT_CNT p] s t
      ∧ t = { s.tick dt with regs := t.regs, ev := t.ev, recent := t.recent } := by
  have he := exec_portLockLost (s := s) dt p e d invalid quiet hp hi hl
  rw [if_pos (by rw [hu, decide_eq_true hs]; rfl)] at he
  generalize hv : (s.tick dt).portUnlocked p = v at he
  have hvf (g : Field) (hg : g.lo + g.width ≤ 32)
      (hd : g.lo + g.width ≤ Fld.RING_PORT_STAT_LOCK.lo ∨ Fld.RING_PORT_STAT_LOCK.lo + Fld.RING_PORT_STAT_LOCK.width ≤ g.lo) :
      v.fld (Reg.RING_PORT_STAT p) g = s.fld (Reg.RING_PORT_STAT p) g := by
    rw [← hv, State.fld_portUnlocked_other p g hg hd, State.fld_tick]
  have hvp : v.portPaired p = false := by rw [← hpair, State.portPaired, State.portPaired, hvf _ (by decide) (by decide)]
  rw [State.portBreak_single p hvp (by rw [hvf _ (by decide) (by decide), hb])] at he
  refine Does.of_eq he fun t ht => ?_
  obtain ⟨hbroken, hat, hlock, hrd⟩ := v.brokenAt_facts p 0xFF (by decide)
  have htr (a : Nat) : t.rd a = (v.brokenAt p 0xFF).rd a := by rw [ht, State.rd_post]
  refine ⟨?_, ?_, ?_, ?_, fun a ha => ?_, State.eq_regs_ev_recent ?_⟩
  · rw [State.fld, htr, ← State.fld, hlock, ← hv, State.fld_portUnlocked]
  · rw [State.fld, htr, ← State.fld, hbroken]
  · rw [State.fld, htr, ← State.fld, hat]
  · rw [ht]
    exact (posted_postArg Ev.RING_BREAK (evArg p 0 0) (v.brokenAt p 0xFF)).congr (by rw [← hv]; rfl) (by rw [← hv]; rfl) rfl
  · simp only [List.mem_cons, List.not_mem_nil, or_false, not_or] at ha
    rw [htr, hrd a ha.1, ← hv, State.rd_portUnlocked p ha.1 ha.2, State.rd_tick]
  · rw [ht, ← hv, State.brokenAt, State.portUnlocked]; simp [-State.tick_tags]

/-- An endpoint whose upward interface has lost lock. -/
def Endpoint.upLost (v : Endpoint) (now : Count) : Endpoint :=
  if v.lockD then { v with lockU := false } else { v with lockU := false, noLockAt := some now }

theorem epUpLost_row (dt e invalid quiet : Nat) (hi : 16 ≤ invalid ∨ Config.usec 1 ≤ quiet) (hl : (s.ep e).lockU = true) (hin : 0 < e % 32)
    (hu : s.portUsed (ringOf e) = true) (hpair : s.portPaired (ringOf e) = false)
    (hb : s.fld (Reg.RING_PORT_STAT (ringOf e)) Fld.RING_PORT_STAT_BROKEN = 0) :
    Does (.ringLockLost dt none e false invalid quiet) s fun t =>
      (t.ep e).lockU = false ∧ (t.ep e).lockD = (s.ep e).lockD
      ∧ ((s.ep e).lockD = false → (t.ep e).noLockAt = some (s.tick dt).tm.mono)
      ∧ t.fld (Reg.RING_PORT_STAT (ringOf e)) Fld.RING_PORT_STAT_BROKEN = 1
      ∧ t.fld (Reg.RING_PORT_STAT (ringOf e)) Fld.RING_PORT_STAT_BREAK_AT = e % 32 - 1
      ∧ Posted Ev.RING_BREAK (evArg (ringOf e) 0 0) (s.tick dt) t ∧ RegsBut [Reg.RING_PORT_STAT (ringOf e)] s t
      ∧ t = { (s.tick dt).setEp e (t.ep e) with regs := t.regs, ev := t.ev } := by
  have hquiet : ¬(invalid < 16 ∧ quiet < Config.usec 1) := fun h =>
    hi.elim (fun hi => absurd h.1 (Nat.not_lt.mpr hi)) (fun hi => absurd h.2 (Nat.not_lt.mpr hi))
  generalize hv : (s.ep e).upLost (s.tick dt).tm.mono = v
  generalize hw : (s.tick dt).setEp e v = w
  have hep : (s.tick dt).ep e = s.ep e := rfl
  have hwr (a : Nat) : w.rd a = s.rd a := by rw [← hw, State.rd_setEp, State.rd_tick]
  have hwf (g : Field) : w.fld (Reg.RING_PORT_STAT (ringOf e)) g = s.fld (Reg.RING_PORT_STAT (ringOf e)) g := by rw [State.fld, hwr, State.fld]
  have hwp : w.portPaired (ringOf e) = false := by rw [← hpair, State.portPaired, hwf, State.portPaired]
  have hwu : w.portUsed (ringOf e) = true := by rw [← hu, State.portUsed, hwf, State.portUsed, ← hw]; rfl
  have hv2 : (if ({ s.ep e with lockU := false } : Endpoint).locked then { s.ep e with lockU := false }
      else { ({ s.ep e with lockU := false } : Endpoint) with noLockAt := some (s.tick dt).tm.mono }) = v := by
    rw [← hv]; rfl
  have he : exec (.ringLockLost dt none e false invalid quiet) s = .next ((w.brokenAt (ringOf e) (e % 32 - 1)).post Ev.RING_BREAK (ringOf e)) := by
    simp only [exec, execRingLockLost, if_neg hquiet, hep, Bool.false_eq_true, if_false, hl, Bool.not_true, hv2, hw, Bool.not_false, Bool.true_or,
      Bool.true_and, hwu, if_true, State.ringBreak, hwp, hwf, hb, if_pos hin, zero_ne_one, State.brokenAt]
  refine Does.of_eq he fun t ht => ?_
  have hlt : e % 32 - 1 < 256 := by omega
  obtain ⟨hbroken, hat, -, hrd⟩ := w.brokenAt_facts (ringOf e) (e % 32 - 1) hlt
  have htr (a : Nat) : t.rd a = (w.brokenAt (ringOf e) (e % 32 - 1)).rd a := by rw [ht, State.rd_post]
  have hte : t.ep e = v := by
    have h : t.ep e = w.ep e := by rw [ht]; rfl
    rw [h, ← hw, State.ep_setEp_same]
  refine ⟨?_, ?_, fun hd => ?_, ?_, ?_, ?_, fun a ha => ?_, ?_⟩
  · rw [hte, ← hv, Endpoint.upLost]; split <;> rfl
  · rw [hte, ← hv, Endpoint.upLost]; split <;> rfl
  · rw [hte, ← hv, Endpoint.upLost, hd]; rfl
  · rw [State.fld, htr, ← State.fld, hbroken]
  · rw [State.fld, htr, ← State.fld, hat]
  · rw [ht]
    exact (posted_postArg Ev.RING_BREAK (evArg (ringOf e) 0 0) (w.brokenAt (ringOf e) (e % 32 - 1))).congr (by rw [← hw]; rfl) (by rw [← hw]; rfl) rfl
  · rw [htr, hrd a (by simpa using ha), hwr]
  · rw [hte, hw, ht]; rfl

/-! ### Forwarding modes, and the endpoints' own timeouts (R293, R295, R304) -/

theorem epInterfaceDown_row (dt e : Nat) (hl : ((s.ep e).lockU && (s.ep e).lockD) = false) (hm : modeOf (s.ep e) (s.epLast e) ≠ (s.ep e).mode) :
    Does (.epInterfaceDown dt e) s fun t =>
      (t.ep e).mode = modeOf (s.ep e) (s.epLast e)
      ∧ t.ring.delayDue = s.ring.delayDue ++ s.ringPorts (ringOf e)
      ∧ t.ring.loops = s.ring.loops.filter (fun l => !(s.ringPorts (ringOf e)).contains l.1)
      ∧ t = { (s.tick dt).setEp e (t.ep e) with
          ring := { ((s.tick dt).setEp e (t.ep e)).ring with delayDue := t.ring.delayDue, loops := t.ring.loops, delays := t.ring.delays } } := by
  have hlast : (s.tick dt).epLast e = s.epLast e := State.epLast_congr e fun a => State.rd_tick ..
  have hc : ¬(((s.ep e).lockU && (s.ep e).lockD || decide (modeOf (s.ep e) (s.epLast e) = (s.ep e).mode)) = true) := by
    rw [hl, decide_eq_false hm]; exact Bool.false_ne_true
  have hep : (s.tick dt).ep e = s.ep e := rfl
  refine Does.of_answer fun t ht => ?_
  simp only [exec, execEpInterfaceDown, hep, hlast, if_neg hc, Host.Outcome.next.injEq] at ht
  generalize hw : (s.tick dt).setEp e { s.ep e with mode := modeOf (s.ep e) (s.epLast e) } = w at ht
  have hports : w.ringPorts (ringOf e) = s.ringPorts (ringOf e) := State.ringPorts_congr _ fun a => by rw [← hw, State.rd_setEp, State.rd_tick]
  have hte : t.ep e = w.ep e := by rw [← ht]; rfl
  have hwe : w.ep e = { s.ep e with mode := modeOf (s.ep e) (s.epLast e) } := by rw [← hw, State.ep_setEp_same]
  refine ⟨by rw [hte, hwe], ?_, ?_, ?_⟩
  · rw [← ht, State.delayDue, hports, ← hw]; rfl
  · rw [← ht, State.delayDue, hports, ← hw]; rfl
  · have hset : (s.tick dt).setEp e (t.ep e) = w := by rw [hte, hwe, ← hw]
    rw [hset, ← ht]; rfl

theorem epThroughRestore_row (dt e : Nat) (hlu : (s.ep e).lockU = true) (hld : (s.ep e).lockD = true)
    (hup : Config.msec 10 ≤ (s.tick dt).since (s.ep e).upAt) (hdown : Config.msec 10 ≤ (s.tick dt).since (s.ep e).downAt)
    (hb : s.fld (Reg.RING_PORT_STAT (ringOf e)) Fld.RING_PORT_STAT_BROKEN = 0) (hm : modeOf (s.ep e) (s.epLast e) ≠ (s.ep e).mode) :
    Does (.epThroughRestore dt e) s fun t =>
      (t.ep e).mode = modeOf (s.ep e) (s.epLast e) ∧ t.ring.delayDue = s.ring.delayDue ++ s.ringPorts (ringOf e)
      ∧ t = { s.tick dt with ring := t.ring } := by
  have hep : (s.tick dt).ep e = s.ep e := rfl
  have hlast : (s.tick dt).epLast e = s.epLast e := State.epLast_congr e fun a => State.rd_tick ..
  have hc : (s.tick dt).epRestored e = true := by
    simp only [State.epRestored, hep, hlu, hld, decide_eq_true hup, decide_eq_true hdown, Bool.and_self, Bool.or_true]
  generalize hw : (s.tick dt).setEp e { s.ep e with mode := modeOf (s.ep e) (s.epLast e) } = w
  have hwr (a : Nat) : (w.delayDue (ringOf e)).rd a = s.rd a := by
    have h : (w.delayDue (ringOf e)).rd a = (s.tick dt).rd a := by rw [← hw]; rfl
    rw [h, State.rd_tick]
  have hbw : ((w.delayDue (ringOf e)).fld (Reg.RING_PORT_STAT (ringOf e)) Fld.RING_PORT_STAT_BROKEN == 1) = false := by
    rw [State.fld, hwr, ← State.fld, hb]; rfl
  have he : exec (.epThroughRestore dt e) s = .next (w.delayDue (ringOf e)) := by
    simp only [exec, execEpThroughRestore, hc, if_true, hep, hlast, if_neg hm, hw, hbw, Bool.and_false, Bool.false_eq_true, if_false]
  refine Does.of_eq he fun t ht => ⟨?_, ?_, State.eq_ring ?_⟩
  · have h : t.ep e = w.ep e := by rw [ht]; rfl
    rw [h, ← hw, State.ep_setEp_same]
  · have hports : w.ringPorts (ringOf e) = s.ringPorts (ringOf e) := State.ringPorts_congr _ fun a => by rw [← hw, State.rd_setEp, State.rd_tick]
    rw [ht, State.delayDue, hports, ← hw]; rfl
  · rw [ht, ← hw]; simp [State.setEp, -State.tick_tags]

theorem State.tc_tick (dt : Nat) : (s.tick dt).tc = s.tc := by rw [State.tc, State.fld_tick, State.tc]

theorem epSafeTimeout_row (dt e : Nat) (hs : (s.ep e).state = 5) (hin : 2 * s.tc ≤ (s.tick dt).since (s.ep e).lastSched) :
    Does (.epSafeTimeout dt e) s fun t =>
      t = (s.tick dt).setEp e { (s.ep e).halt ((s.tick dt).rtOf (s.ep e)) with state := 6, safeTmo := true, resumed := false } := by
  have hc : ((s.tick dt).ep e).state = 5 ∧ 2 * (s.tick dt).tc ≤ (s.tick dt).since ((s.tick dt).ep e).lastSched :=
    ⟨hs, by rw [State.tc_tick]; exact hin⟩
  refine Does.of_answer fun t ht => ?_
  simp only [exec, execEpSafeTimeout, if_pos hc, Host.Outcome.next.injEq] at ht
  exact ht.symm

theorem epNoLink_row (dt e : Nat) (at0 : Count) (ha : (s.ep e).noLockAt = some at0) (hs : 2 ≤ (s.ep e).state) (hl : (s.ep e).locked = false)
    (hin : 2 * s.tc ≤ (s.tick dt).since at0) :
    Does (.epNoLinkTimeout dt e) s fun t => t = (s.tick dt).setEp e ((s.ep e).forget 0 ((s.tick dt).rtOf (s.ep e))) := by
  have ha' : ((s.tick dt).ep e).noLockAt = some at0 := ha
  have hc : 2 ≤ ((s.tick dt).ep e).state ∧ (!((s.tick dt).ep e).locked) = true ∧ 2 * (s.tick dt).tc ≤ (s.tick dt).since at0 :=
    ⟨hs, by rw [show (s.tick dt).ep e = s.ep e from rfl, hl]; rfl, by rw [State.tc_tick]; exact hin⟩
  refine Does.of_answer fun t ht => ?_
  simp only [exec, execEpNoLinkTimeout, ha', if_pos hc, Host.Outcome.next.injEq] at ht
  exact ht.symm

/-- A latch of all of an endpoint's own groups adds them and stops its legs, and leaves the rest. -/
theorem Endpoint.latch_own (v : Endpoint) (now groups : Nat) (hg : groups = v.groups) :
    ∃ legs, v.latch now groups = { v with latched := v.latched ||| groups, legs := legs } := by
  have hfold (l : List Nat) (w : Endpoint) : ∃ legs,
      l.foldl (fun u k => u.setLeg k { (u.leg k).stop now with held := true, clearAt := none }) w = { w with legs := legs } := by
    induction l generalizing w with
    | nil => exact ⟨_, rfl⟩
    | cons k l ih =>
      obtain ⟨legs, h⟩ := ih (w.setLeg k { (w.leg k).stop now with held := true, clearAt := none })
      exact ⟨legs, by rw [List.foldl_cons, h]; rfl⟩
  subst hg
  simp only [Endpoint.latch, Nat.and_self]
  split
  · next h => exact ⟨v.legs, by rw [h, Nat.or_zero]⟩
  · obtain ⟨legs, h⟩ := hfold (List.range 8) { v with latched := v.latched ||| v.groups }
    exact ⟨legs, h⟩

/-- An endpoint as its own fault begins: it sends a SET and, out of RUN, goes to SAFE. -/
def Endpoint.selfTripped (v : Endpoint) (at' : Count) (now : Nat) : Endpoint :=
  if v.state = 5 then { (v.ownSet at').halt now with state := 6 } else v.ownSet at'

theorem Endpoint.selfTripped_facts (v : Endpoint) (at' : Count) (now : Nat) :
    (v.selfTripped at' now).state = (if v.state = 5 then 6 else v.state) ∧ (v.selfTripped at' now).groups = v.groups
    ∧ (v.selfTripped at' now).latched = v.latched ∧ (v.selfTripped at' now).setAt = at'
    ∧ (v.selfTripped at' now).outU = v.outU ++ [tripBlock v.groups 1 (v.addr.getD 0xFF) 0xFF]
    ∧ (v.selfTripped at' now).outD = v.outD ++ [tripBlock v.groups 1 (v.addr.getD 0xFF) 0xFF] := by
  rw [Endpoint.selfTripped, Endpoint.ownSet]
  generalize tripBlock v.groups 1 (v.addr.getD 0xFF) 0xFF = b
  split <;> exact ⟨rfl, rfl, rfl, rfl, rfl, rfl⟩

/-- The endpoint after its own fault: its groups are latched beside what it sends. -/
theorem Endpoint.selfTripped_latched (v : Endpoint) (at' : Count) (now : Nat) : ∃ legs,
    ({ v.selfTripped at' now with localTrip := true, resumed := false } : Endpoint).latch now v.groups
      = { v.selfTripped at' now with localTrip := true, resumed := false, latched := v.latched ||| v.groups, legs := legs } := by
  obtain ⟨-, hgroups, hlatched, -⟩ := v.selfTripped_facts at' now
  obtain ⟨legs, h⟩ := ({ v.selfTripped at' now with localTrip := true, resumed := false } : Endpoint).latch_own now v.groups hgroups.symm
  rw [h, show ({ v.selfTripped at' now with localTrip := true, resumed := false } : Endpoint).latched = (v.selfTripped at' now).latched from rfl, hlatched]
  exact ⟨legs, rfl⟩

theorem exec_epLocalFault (dt e : Nat) : exec (.epLocalFault dt e true) s =
    .next ((s.tick dt).setEp e (({ (s.ep e).selfTripped (s.tick dt).tm.mono ((s.tick dt).rtOf (s.ep e)) with localTrip := true, resumed := false } : Endpoint).latch
      ((s.tick dt).rtOf (s.ep e)) (s.ep e).groups)) := by
  have hep : (s.tick dt).ep e = s.ep e := rfl
  simp only [exec, execEpLocalFault, if_true, hep, Endpoint.selfTripped]

theorem epLocalFault_row (dt e : Nat) :
    Does (.epLocalFault dt e true) s fun t =>
      (t.ep e).state = (if (s.ep e).state = 5 then 6 else (s.ep e).state) ∧ (t.ep e).localTrip = true
      ∧ (t.ep e).latched = ((s.ep e).latched ||| (s.ep e).groups) ∧ (t.ep e).setAt = (s.tick dt).tm.mono
      ∧ (t.ep e).outU = (s.ep e).outU ++ [tripBlock (s.ep e).groups 1 ((s.ep e).addr.getD 0xFF) 0xFF]
      ∧ (t.ep e).outD = (s.ep e).outD ++ [tripBlock (s.ep e).groups 1 ((s.ep e).addr.getD 0xFF) 0xFF]
      ∧ t = (s.tick dt).setEp e (t.ep e) := by
  obtain ⟨legs, hlatch⟩ := (s.ep e).selfTripped_latched (s.tick dt).tm.mono ((s.tick dt).rtOf (s.ep e))
  obtain ⟨hstate, -, -, hset, hU, hD⟩ := (s.ep e).selfTripped_facts (s.tick dt).tm.mono ((s.tick dt).rtOf (s.ep e))
  have he := exec_epLocalFault (s := s) dt e
  rw [hlatch] at he
  refine Does.of_eq he fun t ht => ?_
  rw [ht, State.ep_setEp_same]
  exact ⟨hstate, rfl, rfl, hset, hU, hD, rfl⟩

end

/-- Settles O27, row by row. -/
theorem ringLinkRows : Obligations.RingLinkRows :=
  ⟨fun _ dt p e d headers hp hh hs => lockAcquired_row dt p e d headers hp hh hs,
    fun _ dt p e d headers hp hh hm hu hs => lockAcquiredWaiting_row dt p e d headers hp hh hm hu hs,
    fun _ dt e d headers hh => epLockAcquired_row dt e d headers hh,
    fun _ dt p e d invalid quiet hp hi hl hu => portLockLost_row dt p e d invalid quiet hp hi hl hu,
    fun _ dt p e d invalid quiet hp hi hl hu hpair hs hb => portBroken_row dt p e d invalid quiet hp hi hl hu hpair hs hb,
    fun _ dt e invalid quiet hi hl hin hu hpair hb => epUpLost_row dt e invalid quiet hi hl hin hu hpair hb,
    fun _ dt e hl hm => epInterfaceDown_row dt e hl hm,
    fun _ dt e hlu hld hup hdown hb hm => epThroughRestore_row dt e hlu hld hup hdown hb hm,
    fun _ dt e hs hin => epSafeTimeout_row dt e hs hin,
    fun _ dt e at0 ha hs hl hin => epNoLink_row dt e at0 ha hs hl hin,
    fun _ dt e => epLocalFault_row dt e⟩

end Sys2Proof.Machine

namespace Sys2Proof.Machine

open Sys2Proof

section

set_option Elab.async false

variable {s t u : State}

/-! ### What a boundary leaves of the measuring: the METR registers, the channels and the meter count (R573) -/

/-- Between s and t the die's METR registers, its channels and its meter count stand. -/
def MeterKept (s t : State) : Prop :=
  (∀ a < 0xE0000, t.drd a = s.drd a) ∧ t.metr.chans = s.metr.chans ∧ t.bill.mem.mc = s.bill.mem.mc

theorem MeterKept.refl (s : State) : MeterKept s s := ⟨fun _ _ => rfl, rfl, rfl⟩

theorem MeterKept.trans (h : MeterKept s t) (h' : MeterKept t u) : MeterKept s u := by
  obtain ⟨hr, hc, hm⟩ := h
  obtain ⟨hr', hc', hm'⟩ := h'
  exact ⟨fun a ha => (hr' a ha).trans (hr a ha), hc'.trans hc, hm'.trans hm⟩

theorem MeterKept.foldl {α : Type} {f : State → α → State} (h : ∀ t x, MeterKept t (f t x)) (l : List α) (s : State) : MeterKept s (l.foldl f s) := by
  induction l generalizing s with
  | nil => exact .refl s
  | cons x l ih => exact (h s x).trans (ih _)

theorem MeterKept.ite {c : Prop} [Decidable c] (ht : MeterKept s t) (hu : MeterKept s u) : MeterKept s (if c then t else u) := by
  split
  · exact ht
  · exact hu

theorem meterKept_dwr {a : Nat} (v : Word) (ha : 0xE0000 ≤ a) : MeterKept s (s.dwr a v) :=
  ⟨fun _ hb => State.drd_dwr_other _ (by omega), rfl, rfl⟩

theorem meterKept_dwr64 {a : Nat} (v : Nat) (ha : 0xE0000 ≤ a) : MeterKept s (s.dwr64 a v) :=
  (meterKept_dwr _ ha).trans (meterKept_dwr _ (by omega))

theorem meterKept_dsetF {a : Nat} (f : Field) (v : Nat) (ha : 0xE0000 ≤ a) : MeterKept s (s.dsetF a f v) := meterKept_dwr _ ha

theorem le_billE (g j : Nat) : 0xE0000 ≤ Reg.BILL_E g j := by rw [Reg.BILL_E]; omega

theorem meterKept_setMem (m : DieMem) (hr : m.regs = s.bill.mem.regs) (hm : m.mc = s.bill.mem.mc) : MeterKept s (s.setMem m) :=
  ⟨fun a _ => congrArg (SMap.get regReset · a) hr, rfl, hm⟩

theorem meterKept_setMetr (m : MetrPart) (hc : m.chans = s.metr.chans) : MeterKept s (s.setMetr m) := ⟨fun _ _ => rfl, hc, rfl⟩

theorem meterKept_bill (b : BillPart) (hb : b.mem = s.bill.mem) : MeterKept s { s with bill := b } :=
  ⟨fun a _ => congrArg (fun m : DieMem => SMap.get regReset m.regs a) hb, rfl, congrArg DieMem.mc hb⟩

theorem meterKept_tamperAt (k g : Nat) (ts : Count) : MeterKept s (s.tamperAt k g ts) := by
  have hk : 0xE0000 ≤ Reg.BILL_TAMP_CNT k ∧ 0xE0000 ≤ Reg.BILL_TAMP_FIRST_LO k ∧ 0xE0000 ≤ Reg.BILL_TAMP_LAST_LO k := by
    simp only [Reg.BILL_TAMP_CNT, Reg.BILL_TAMP_FIRST_LO, Reg.BILL_TAMP_LAST_LO]; omega
  obtain ⟨hcnt, hfirst, hlast⟩ := hk
  rw [State.tamperAt]
  exact (((meterKept_dwr _ hcnt).trans (.ite (meterKept_dwr64 _ hfirst) (.refl _))).trans (meterKept_dwr64 _ hlast)).trans
    ((meterKept_setMem _ rfl rfl).trans (meterKept_setMetr _ rfl))

theorem meterKept_tamper (k g : Nat) : MeterKept s (s.tamper k g) := meterKept_tamperAt ..

theorem meterKept_closedRecord (kind n : Nat) (full : Bool) : MeterKept s (s.closedRecord kind n full) := by
  rw [State.closedRecord]
  exact (meterKept_setMetr _ rfl).trans (.ite (meterKept_tamper ..) (.refl _))

theorem meterKept_raised (g j v : Nat) :
    MeterKept s (if (s.drd (Reg.BILL_E g j)).toNat < v then s.dwr (Reg.BILL_E g j) (BitVec.ofNat 32 v) else s) :=
  .ite (meterKept_dwr _ (le_billE g j)) (.refl _)

theorem meterKept_maxima (flags : Nat) (ts : Count) (g : Nat) : MeterKept s (s.maxima flags ts g) := by
  unfold State.maxima
  extract_lets i e reg raise s1 s2 s3
  clear_value i e
  have h1 : MeterKept s s1 := meterKept_raised ..
  clear_value s1
  have h2 : MeterKept s1 s2 := .ite (meterKept_dwr64 _ (le_billE g _)) (.refl _)
  clear_value s2
  have h3 : MeterKept s2 s3 := (meterKept_raised g 52 i).trans (meterKept_raised g 53 e)
  clear_value s3
  exact (((h1.trans h2).trans h3).trans (meterKept_dwr _ (le_billE g _))).trans
    ((meterKept_dwr _ (le_billE g _)).trans (meterKept_dwr _ (le_billE g _)))

theorem meterKept_closeInterval (extra : Nat) (ts : Count) : MeterKept s (s.closeInterval extra ts) := by
  unfold State.closeInterval
  extract_lets flags bs s1 m s2
  clear_value bs
  have h1 : MeterKept s s1 := MeterKept.foldl (fun t g => meterKept_maxima _ _ g) _ _
  clear_value s1
  have h2 : MeterKept s1 s2 := meterKept_setMem _ rfl rfl
  clear_value s2
  exact (h1.trans h2).trans (meterKept_closedRecord ..)

theorem meterKept_openInterval (stepped : Bool) (flags : Nat) : MeterKept s (s.openInterval stepped flags) := by
  rw [State.openInterval]
  exact (meterKept_dwr64 _ (by decide)).trans (meterKept_setMem _ rfl rfl)

theorem meterKept_demChange (e : Count) : MeterKept s (s.demChange e) := by
  have hnone : MeterKept s { s with bill := { s.bill with demNew := none } } := meterKept_bill _ rfl
  rw [State.demChange]
  split
  · exact .refl _
  · exact .ite ((hnone.trans (meterKept_dsetF _ _ (by decide))).trans (meterKept_tamper ..)) (.refl _)

theorem meterKept_intervalStep : MeterKept s s.intervalStep := by
  rw [State.intervalStep]
  exact .ite (meterKept_openInterval ..)
    (.ite (((meterKept_closeInterval ..).trans (meterKept_demChange _)).trans (meterKept_openInterval ..)) (.refl _))

theorem meterKept_evalTariff (minute : Nat) : MeterKept s (s.evalTariff minute) := by
  have hset (t : State) (f : Field) (v : Nat) : MeterKept t (t.dsetF Reg.BILL_STAT f v) := meterKept_dsetF f v (by decide)
  unfold State.evalTariff
  extract_lets day wd
  split
  extract_lets sea week spec prof s1 s2 s3 b
  clear_value sea week spec prof
  have h1 : MeterKept s s1 := (hset _ _ _).trans (hset _ _ _)
  clear_value s1
  have h2 : MeterKept s1 s2 := (hset _ _ _).trans (hset _ _ _)
  clear_value s2
  have h3 : MeterKept s2 s3 := hset _ _ _
  exact ((h1.trans h2).trans h3).trans (meterKept_bill _ rfl)

theorem meterKept_tariffStep : MeterKept s s.tariffStep := by
  rw [State.tariffStep]
  exact .ite (.ite (meterKept_evalTariff _) ((meterKept_evalTariff _).trans (meterKept_setMetr _ rfl))) (.refl _)

theorem meterKept_clearMaxima (g : Nat) : MeterKept s (s.clearMaxima g) := by
  rw [State.clearMaxima]
  exact .foldl (fun t j => meterKept_dwr _ (le_billE g _)) _ _

theorem meterKept_closePeriod : MeterKept s s.closePeriod := by
  unfold State.closePeriod
  extract_lets m s1 s2
  have h1 : MeterKept s s1 := meterKept_setMem _ rfl rfl
  clear_value s1
  have h2 : MeterKept s1 s2 := (MeterKept.foldl (fun t g => meterKept_clearMaxima g) _ _).trans (meterKept_dsetF _ _ (by decide))
  clear_value s2
  exact (h1.trans h2).trans (meterKept_closedRecord ..)

theorem meterKept_periodStep : MeterKept s s.periodStep := by
  unfold State.periodStep
  extract_lets day cal cmd seen b s1
  have h1 : MeterKept s s1 := meterKept_bill _ rfl
  clear_value s1
  exact .ite (h1.trans meterKept_closePeriod) h1

theorem meterKept_dispTo (n st : Nat) : MeterKept s (s.dispTo n st) := ⟨fun _ _ => rfl, rfl, rfl⟩

theorem meterKept_dispSession (g : Nat) (opens : Bool) : MeterKept s (s.dispSession g opens) := by
  rw [State.dispSession]
  exact .foldl (fun t n => .ite (meterKept_dispTo ..) (.ite (meterKept_dispTo ..) (.refl _))) _ _

theorem meterKept_setSacc (n : Nat) (v : SessAcc) : MeterKept s (s.setSacc n v) := meterKept_setMem _ rfl rfl

theorem meterKept_closeSession (n extra : Nat) (ts : Count) : MeterKept s (s.closeSession n extra ts) := by
  unfold State.closeSession
  extract_lets a flags bs m s1
  clear_value bs
  have h1 : MeterKept s s1 := (meterKept_setMem _ rfl rfl).trans (meterKept_setSacc ..)
  clear_value s1
  exact (h1.trans (meterKept_closedRecord ..)).trans (meterKept_dispSession ..)

theorem meterKept_openSession (n : Nat) : MeterKept s (s.openSession n) := by
  unfold State.openSession
  extract_lets s1 a s2
  have h1 : MeterKept s s1 := .ite ((meterKept_closeSession ..).trans (meterKept_tamper ..)) (.refl _)
  clear_value s1
  have h2 : MeterKept s1 s2 := meterKept_setSacc ..
  clear_value s2
  exact (h1.trans h2).trans ((meterKept_setMetr _ rfl).trans (meterKept_dispSession ..))

theorem meterKept_sessionsStep : MeterKept s s.sessionsStep := by
  have hinstant (t : State) (e : Nat × Bool × Count) : MeterKept t (t.sessionInstant e) := by
    rw [State.sessionInstant]
    exact .ite (meterKept_openSession _) (.ite (meterKept_closeSession ..) (.refl _))
  rw [State.sessionsStep]
  exact MeterKept.trans ⟨fun _ _ => rfl, rfl, rfl⟩ (.foldl hinstant _ _)

theorem meterKept_boundaryStep {f : State → State} (h : ∀ t, MeterKept t (f t)) : MeterKept s (s.boundaryStep f) := by
  unfold State.boundaryStep
  extract_lets m s1
  have h1 : MeterKept s s1 := (meterKept_setMetr _ rfl).trans (h _)
  clear_value s1
  exact .ite (h1.trans (.ite (meterKept_bill _ rfl) (meterKept_setMetr _ rfl))) (.refl _)

theorem meterKept_boundaries : MeterKept s s.boundaries := by
  rw [State.boundaries]
  exact meterKept_boundaryStep fun t =>
    ((meterKept_intervalStep.trans meterKept_tariffStep).trans meterKept_periodStep).trans meterKept_sessionsStep

end

end Sys2Proof.Machine

namespace Sys2Proof.Machine

open Sys2Proof

section

set_option Elab.async false

variable {s t u : State}

/-! ### What the work after the corrections leaves of a sample: the primary values and the meter count -/

/-- Between s and t the channels' primary values and the meter count stand. -/
def PrimKept (s t : State) : Prop := (∀ c, (t.dch c).prim = (s.dch c).prim) ∧ t.bill.mem.mc = s.bill.mem.mc

theorem PrimKept.refl (s : State) : PrimKept s s := ⟨fun _ => rfl, rfl⟩

theorem PrimKept.trans (h : PrimKept s t) (h' : PrimKept t u) : PrimKept s u := ⟨fun c => (h'.1 c).trans (h.1 c), h'.2.trans h.2⟩

theorem PrimKept.foldl {α : Type} {f : State → α → State} (h : ∀ t x, PrimKept t (f t x)) (l : List α) (s : State) : PrimKept s (l.foldl f s) := by
  induction l generalizing s with
  | nil => exact .refl s
  | cons x l ih => exact (h s x).trans (ih _)

theorem PrimKept.ite {c : Prop} [Decidable c] (ht : PrimKept s t) (hu : PrimKept s u) : PrimKept s (if c then t else u) := by
  split
  · exact ht
  · exact hu

theorem PrimKept.of_chans (hc : t.metr.chans = s.metr.chans) (hm : t.bill.mem.mc = s.bill.mem.mc) : PrimKept s t :=
  ⟨fun c => congrArg (fun m => (SMap.get (fun _ => DieChan.reset) m c).prim) hc, hm⟩

theorem primKept_setMem (m : DieMem) (hm : m.mc = s.bill.mem.mc) : PrimKept s (s.setMem m) := .of_chans rfl hm

theorem primKept_setMetr (m : MetrPart) (hc : m.chans = s.metr.chans) : PrimKept s (s.setMetr m) := .of_chans hc rfl

theorem primKept_dwr (a : Nat) (v : Word) : PrimKept s (s.dwr a v) := .of_chans rfl rfl

theorem primKept_dwr64 (a v : Nat) : PrimKept s (s.dwr64 a v) := .of_chans rfl rfl

theorem primKept_setSum (k : Nat) (v : Int) : PrimKept s (s.setSum k v) := .of_chans rfl rfl

theorem primKept_dieEvent (code : Nat) (arg : Word) : PrimKept s (s.dieEvent code arg) := .of_chans rfl rfl

theorem primKept_tamper (k g : Nat) : PrimKept s (s.tamper k g) := by
  have h := meterKept_tamper (s := s) k g
  exact .of_chans h.2.1 h.2.2

theorem State.dch_setDch (c k : Nat) (v : DieChan) : (s.setDch c v).dch k = if c = k then v else s.dch k := SMap.get_put ..

@[simp] theorem State.dch_setDch_same (c : Nat) (v : DieChan) : (s.setDch c v).dch c = v := SMap.get_put_same ..

theorem State.dch_setDch_other {c k : Nat} (v : DieChan) (h : c ≠ k) : (s.setDch c v).dch k = s.dch k := SMap.get_put_other _ _ _ _ _ h

theorem primKept_setDch (c : Nat) (v : DieChan) (h : v.prim = (s.dch c).prim) : PrimKept s (s.setDch c v) := by
  refine ⟨fun k => ?_, rfl⟩
  rw [State.dch_setDch]
  split
  · next hk => rw [h, hk]
  · rfl

theorem primKept_sessionEnergy (g dir n : Nat) (test : Bool) : PrimKept s (s.sessionEnergy g dir n test) := by
  rw [State.sessionEnergy]
  exact .ite (.refl _) (primKept_setMem _ rfl)

theorem primKept_billEnergy (g dir n : Nat) : PrimKept s (s.billEnergy g dir n) := by
  rw [State.billEnergy]
  exact ((primKept_dwr64 ..).trans (primKept_dwr64 ..)).trans (primKept_setMem _ rfl)

theorem primKept_accrue (g dir amount : Nat) : PrimKept s (s.accrue g dir amount) := by
  unfold State.accrue
  extract_lets test k sum m s1 n
  have h1 : PrimKept s s1 := primKept_setMem _ rfl
  clear_value s1
  exact .ite h1 (.ite ((h1.trans (primKept_dwr ..)).trans (primKept_sessionEnergy ..))
    ((h1.trans (primKept_billEnergy ..)).trans (primKept_sessionEnergy ..)))

theorem primKept_accrueReact (q amount : Nat) : PrimKept s (s.accrueReact q amount) := by
  unfold State.accrueReact
  extract_lets sum m s1 r
  have h1 : PrimKept s s1 := primKept_setMem _ rfl
  clear_value s1
  exact .ite (.refl _) (.ite h1 (h1.trans (primKept_dwr64 ..)))

theorem primKept_acPhase (q : Nat) : PrimKept s (s.acPhase q) := by
  unfold State.acPhase
  extract_lets v i w add
  clear_value w
  have hadd (t : State) (k : Nat) (x : Int) : PrimKept t (add t k x) := primKept_setSum ..
  clear_value add
  exact (((((hadd ..).trans (hadd ..)).trans (hadd ..)).trans (hadd ..)).trans (hadd ..)).trans (primKept_setSum ..)

theorem primKept_acSample : PrimKept s s.acSample := by
  unfold State.acSample
  extract_lets s1 s2
  have h2 : PrimKept s s2 := (PrimKept.foldl (fun t q => primKept_acPhase q) _ _).trans (primKept_setSum ..)
  clear_value s2
  split
  extract_lets s3
  have h3 : PrimKept s2 s3 := .ite (primKept_accrue ..) (.ite (primKept_accrue ..) (.refl _))
  clear_value s3
  exact .ite (h2.trans (.ite h3 (h3.trans (primKept_accrueReact ..)))) h2

theorem primKept_dcSample (n : Nat) : PrimKept s (s.dcSample n) := by
  unfold State.dcSample
  extract_lets i p add s1
  have h1 : PrimKept s s1 := .of_chans rfl rfl
  clear_value s1
  exact .ite (h1.trans (.ite (primKept_accrue ..) (.ite (primKept_accrue ..) (.refl _)))) h1

theorem primKept_overloadWindow (c : Nat) : PrimKept s (s.overloadWindow c) := by
  unfold State.overloadWindow
  extract_lets v s1 s2
  have h1 : PrimKept s s1 := primKept_setDch _ _ rfl
  clear_value s1
  have h2 : PrimKept s s2 := h1.trans (primKept_dieEvent ..)
  clear_value s2
  split
  · split
    · exact h2.trans (primKept_tamper ..)
    · exact h2
  · exact h1

theorem primKept_polarity (g c : Nat) (bad : Bool) : PrimKept s (s.polarity g c bad) := by
  rw [State.polarity]
  exact .ite (primKept_setDch _ _ rfl) (primKept_setDch _ _ rfl)

theorem primKept_dcWindow (n : Nat) : PrimKept s (s.dcWindow n) := by
  unfold State.dcWindow
  extract_lets cnt v i p s1 s2 s3
  have h1 : PrimKept s s1 := ((primKept_dwr ..).trans (primKept_dwr ..)).trans (primKept_dwr ..)
  clear_value s1
  have h2 : PrimKept s s2 := h1.trans (.foldl (fun t k => primKept_setSum (dcKey n k) 0) _ _)
  clear_value s2
  have h3 : PrimKept s2 s3 := by
    simp only [s3]
    split
    · exact primKept_polarity ..
    · exact .refl _
  clear_value s3
  split
  · exact (h2.trans h3).trans (primKept_polarity ..)
  · exact h2.trans h3

theorem primKept_acSecond : PrimKept s s.acSecond := by
  unfold State.acSecond
  extract_lets p loaded odd
  clear_value odd
  refine .foldl (fun t q => PrimKept.trans ?_ (primKept_setSum ..)) _ _
  split
  · exact primKept_polarity ..
  · exact .refl _

theorem primKept_windows : PrimKept s s.windows := by
  unfold State.windows
  extract_lets mc s1
  have h1 : PrimKept s s1 := .ite ((PrimKept.foldl (fun t g => primKept_dcWindow _) _ _).trans
    (.foldl (fun t c => .ite (.refl _) (primKept_overloadWindow c)) _ _)) (.refl _)
  clear_value s1
  exact .ite (h1.trans primKept_acSecond) h1

/-- The sample's work once the channels are corrected, while a current lies above its start threshold or none does. -/
def State.measured (s : State) (above : Bool) : State :=
  let s2 := s.points.foldl (fun st g => if g = 0 then st.acSample else st.dcSample (g - 1)) s
  let s3 := s2.setMetr { s2.metr with idleAt := s2.dieTrack s2.metr.idleAt (!above) }
  (s3.setMem { s3.bill.mem with mc := s3.bill.mem.mc + 1 }).windows

end

end Sys2Proof.Machine

namespace Sys2Proof.Machine

open Sys2Proof

section

set_option Elab.async false

variable {s t u : State}

/-! ### A sample's corrections (R524, R526) -/

/-- The channels corrected for a sample. -/
def State.corrected (s : State) (codes : List Int) : State := (List.range 48).foldl (fun st c => st.sampleChannel c (codes.getD c 0)) s

theorem State.sampleChannel_eq (c : Nat) (code : Int) : ∃ m, s.sampleChannel c code = s.setMetr { s.metr with chans := m } := by
  simp only [State.sampleChannel]
  split
  · exact ⟨s.metr.chans, rfl⟩
  · exact ⟨_, rfl⟩

theorem State.corrected_eq (codes : List Int) : ∃ m, s.corrected codes = s.setMetr { s.metr with chans := m } := by
  have hfold (l : List Nat) (t : State) :
      ∃ m, l.foldl (fun st c => st.sampleChannel c (codes.getD c 0)) t = t.setMetr { t.metr with chans := m } := by
    induction l generalizing t with
    | nil => exact ⟨t.metr.chans, rfl⟩
    | cons c l ih =>
      obtain ⟨m, hm⟩ := t.sampleChannel_eq c (codes.getD c 0)
      obtain ⟨m', hm'⟩ := ih (t.sampleChannel c (codes.getD c 0))
      exact ⟨m', by rw [List.foldl_cons, hm', hm]; rfl⟩
  exact hfold _ s

theorem State.dch_sampleChannel_other {c k : Nat} (code : Int) (h : c ≠ k) : (s.sampleChannel c code).dch k = s.dch k := by
  simp only [State.sampleChannel]
  split
  · rfl
  · exact State.dch_setDch_other _ h

theorem State.prim_sampleChannel {c : Nat} (code : Int) (h0 : s.dKind c ≠ 0) (h4 : s.dKind c ≠ 4) :
    ((s.sampleChannel c code).dch c).prim = s.pairValue c (clipCode c code).1 * (s.drd (Reg.METR_CH_SCALE c)).toNat / 65536000000 := by
  simp only [State.sampleChannel, if_neg h0, if_neg h4, State.dch_setDch_same]

theorem State.dKind_congr {c : Nat} (h : t.drd (Reg.METR_CH_CFG c) = s.drd (Reg.METR_CH_CFG c)) : t.dKind c = s.dKind c := by
  rw [State.dKind, State.dfld, h, State.dKind, State.dfld]

theorem State.pairValue_congr {c : Nat} (x : Int) (hr : ∀ a < 0xE0000, t.drd a = s.drd a) (hc : c < 48) (hd : t.dch c = s.dch c) :
    t.pairValue c x = s.pairValue c x := by
  have hcfg : t.drd (Reg.METR_CH_CFG c) = s.drd (Reg.METR_CH_CFG c) := hr _ (by simp only [Reg.METR_CH_CFG]; omega)
  have hofs : t.drd (Reg.METR_CAL_OFS c) = s.drd (Reg.METR_CAL_OFS c) := hr _ (by simp only [Reg.METR_CAL_OFS]; omega)
  have hgain : t.drd (Reg.METR_CAL_GAIN c) = s.drd (Reg.METR_CAL_GAIN c) := hr _ (by simp only [Reg.METR_CAL_GAIN]; omega)
  simp only [State.pairValue, State.dfld, State.dfldS, hcfg, hofs, hgain, hd]

theorem State.prim_corrected (codes : List Int) {c : Nat} (hc : c < 48) (h0 : s.dKind c ≠ 0) (h4 : s.dKind c ≠ 4) :
    ((s.corrected codes).dch c).prim =
      s.pairValue c (clipCode c (codes.getD c 0)).1 * (s.drd (Reg.METR_CH_SCALE c)).toNat / 65536000000 := by
  have hmem (t : State) (k : Nat) : (t.sampleChannel k (codes.getD k 0)).bill.mem = t.bill.mem := by
    obtain ⟨m, hm⟩ := t.sampleChannel_eq k (codes.getD k 0)
    rw [hm]; rfl
  obtain ⟨t, ht, he⟩ := foldl_range_at (f := fun st c => st.sampleChannel c (codes.getD c 0)) (fun t => (t.dch c, t.bill.mem)) hc
    (fun t k hk => Prod.ext (State.dch_sampleChannel_other _ hk) (hmem t k)) s
  obtain ⟨hd, hm⟩ := Prod.mk.inj ht
  have hr (a : Nat) : t.drd a = s.drd a := congrArg (fun m : DieMem => SMap.get regReset m.regs a) hm
  have hk : t.dKind c = s.dKind c := State.dKind_congr (hr _)
  have hcor : (s.corrected codes).dch c = (t.sampleChannel c (codes.getD c 0)).dch c := congrArg Prod.fst he
  rw [hcor, State.prim_sampleChannel _ (hk ▸ h0) (hk ▸ h4), State.pairValue_congr _ (fun a _ => hr a) hc hd, hr]

theorem State.measure_eq (codes : List Int) : s.measure codes = (s.corrected codes).measured (s.aboveStart codes) := by
  rw [State.measure, State.measured, State.corrected]

theorem primKept_measured (above : Bool) :
    (∀ c, ((s.measured above).dch c).prim = (s.dch c).prim) ∧ (s.measured above).bill.mem.mc = s.bill.mem.mc + 1 := by
  unfold State.measured
  extract_lets s2 m3 s3
  have h2 : PrimKept s s2 := .foldl (fun t g => .ite primKept_acSample (primKept_dcSample _)) _ _
  clear_value s2
  have h3 : PrimKept s s3 := h2.trans (primKept_setMetr _ rfl)
  clear_value s3
  obtain ⟨hprim, hmc⟩ := primKept_windows (s := s3.setMem { s3.bill.mem with mc := s3.bill.mem.mc + 1 })
  exact ⟨fun c => (hprim c).trans (h3.1 c), hmc.trans (congrArg (· + 1) h3.2)⟩

/-! ### A sample instant (R523, R535, R572, R709) -/

/-- The die at a sample instant with no map, entry or step waiting: its boundaries taken. -/
def State.atSample (s : State) : State :=
  if (s.setMetr { s.metr with lastTs := s.dieTs }).takesBoundaries then (s.setMetr { s.metr with lastTs := s.dieTs }).boundaries
  else s.setMetr { s.metr with lastTs := s.dieTs }

theorem meterKept_atSample : MeterKept s s.atSample := by
  have h := meterKept_setMetr (s := s) { s.metr with lastTs := s.dieTs } rfl
  rw [State.atSample]
  exact .ite (h.trans meterKept_boundaries) h

theorem State.sampleInstant_eq (codes : List Int) (hmap : s.metr.newMap = none) (hrws : s.metr.rws = [])
    (hstep : s.metr.stepDue = none ∨ s.metr.timeKnown = false) : s.sampleInstant codes = s.atSample.measure codes := by
  unfold State.sampleInstant State.atSample
  extract_lets m0 s0 s1
  have hs0 : s0.metr = { s.metr with lastTs := s.dieTs } := rfl
  have h1 : s1 = s0 := by
    have hmap0 : s0.metr.newMap = none := hmap
    have hrws0 : s0.metr.rws = [] := hrws
    simp only [s1, State.takeMap, hmap0, State.rwsApply, hrws0, List.isEmpty_nil, if_true]
  clear_value s1
  rw [h1]
  split
  · next hb =>
    have hstep0 : s0.metr.stepDue = none := hstep.elim id fun h => absurd hb (by simp [State.takesBoundaries, hs0, h])
    have htake : s0.takeStep = s0 := by simp only [State.takeStep, hstep0]
    rw [htake]
  · rfl

theorem exec_sampleInstant (dt : Nat) (codes : List Int) (h : s.dieRuns = true) :
    exec (.sampleInstant dt codes) s = .next ((s.tick dt).sampleInstant codes) := by
  have h' : (s.tick dt).dieRuns = true := h
  simp only [exec, execSampleInstant, h', if_true]

theorem sampleInstant_row (dt : Nat) (codes : List Int) (c : Nat) (hr : s.dieRuns = true) (hmap : s.metr.newMap = none) (hrws : s.metr.rws = [])
    (hstep : s.metr.stepDue = none) (hc : c < 48) (h0 : s.dKind c ≠ 0) (h4 : s.dKind c ≠ 4) :
    Does (.sampleInstant dt codes) s fun t =>
      (t.dch c).prim = s.pairValue c (clipCode c (codes.getD c 0)).1 * (s.drd (Reg.METR_CH_SCALE c)).toNat / 65536000000
      ∧ t.bill.mem.mc = s.bill.mem.mc + 1 ∧ Silent s t ∧ RegsBut [] s t ∧ t = { s.tick dt with metr := t.metr, bill := t.bill, outl := t.outl } := by
  refine Does.of_eq (exec_sampleInstant dt codes hr) fun t ht => ?_
  have hout : t.outside [.metr, .bill, .outl] = (s.tick dt).outside [.metr, .bill, .outl] := by rw [ht]; simp [-State.tick_tags]
  have heq : t = { s.tick dt with metr := t.metr, bill := t.bill, outl := t.outl } := State.eq_patch hout
  rw [(s.tick dt).sampleInstant_eq codes hmap hrws (.inl hstep), State.measure_eq] at ht
  obtain ⟨hkr, hkc, hkm⟩ := meterKept_atSample (s := s.tick dt)
  have hcfg : (s.tick dt).atSample.dKind c = s.dKind c := State.dKind_congr (hkr _ (by simp only [Reg.METR_CH_CFG]; omega))
  have hdch : (s.tick dt).atSample.dch c = s.dch c := congrArg (SMap.get (fun _ => DieChan.reset) · c) hkc
  obtain ⟨m, hm⟩ := (s.tick dt).atSample.corrected_eq codes
  obtain ⟨hprim, hmc⟩ := primKept_measured (s := (s.tick dt).atSample.corrected codes) ((s.tick dt).atSample.aboveStart codes)
  refine ⟨?_, ?_, ?_, regsBut_of_regs ?_, heq⟩
  · rw [ht, hprim, State.prim_corrected _ hc (hcfg ▸ h0) (hcfg ▸ h4), State.pairValue_congr _ hkr hc hdch,
      hkr _ (by simp only [Reg.METR_CH_SCALE]; omega)]
    rfl
  · rw [ht, hmc, hm]
    exact congrArg (· + 1) hkm
  · rw [heq]; rfl
  · rw [heq]; rfl

theorem sampleAsleep_row (dt : Nat) (codes : List Int) (hon : s.metr.on = true) (hsl : s.metr.sleep = true) :
    Does (.sampleInstant dt codes) s fun t =>
      t = ((s.tick dt).setMetr { s.metr with lastTs := (s.tick dt).dieTs }).setMem { s.bill.mem with mc := s.bill.mem.mc + 1 } := by
  have hruns : (s.tick dt).dieRuns = false := by
    rw [State.dieRuns, State.tick_metr, hsl]; simp
  have he : exec (.sampleInstant dt codes) s = .next
      (((s.tick dt).setMetr { (s.tick dt).metr with lastTs := (s.tick dt).dieTs }).setMem { (s.tick dt).bill.mem with mc := (s.tick dt).bill.mem.mc + 1 }) :=
    (if_neg (by rw [hruns]; exact Bool.false_ne_true)).trans (if_pos hon)
  exact Does.of_eq he fun t ht => ht

end

end Sys2Proof.Machine

namespace Sys2Proof.Machine

open Sys2Proof

section

set_option Elab.async false

variable {s t u : State} {n : Nat}

/-! ### A DC group's energy beside the other groups' (R533 to R535, R553) -/

/-- The registers of the die that no other point's sample writes. -/
def pointReg (n a : Nat) : Prop := a < 0xD0180 ∨ 0xD0200 ≤ a ∧ a < 0xE1000 ∨ Reg.BILL_E n 0 ≤ a ∧ a < Reg.BILL_E (n + 1) 0

/-- Between s and t the channels and nominal values stand, and point n's registers and carried energies. -/
def PointKept (n : Nat) (s t : State) : Prop :=
  t.metr.chans = s.metr.chans ∧ t.metr.pars = s.metr.pars ∧ (∀ a, pointReg n a → t.drd a = s.drd a)
    ∧ ∀ k, k / 8 = n → SMap.get (fun _ => 0) t.bill.mem.resid k = SMap.get (fun _ => 0) s.bill.mem.resid k

theorem PointKept.refl (n : Nat) (s : State) : PointKept n s s := ⟨rfl, rfl, fun _ _ => rfl, fun _ _ => rfl⟩

theorem PointKept.trans (h : PointKept n s t) (h' : PointKept n t u) : PointKept n s u := by
  obtain ⟨hc, hp, hr, he⟩ := h
  obtain ⟨hc', hp', hr', he'⟩ := h'
  exact ⟨hc'.trans hc, hp'.trans hp, fun a ha => (hr' a ha).trans (hr a ha), fun k hk => (he' k hk).trans (he k hk)⟩

theorem PointKept.ite {c : Prop} [Decidable c] (ht : PointKept n s t) (hu : PointKept n s u) : PointKept n s (if c then t else u) := by
  split
  · exact ht
  · exact hu

theorem PointKept.foldl {f : State → Nat → State} (l : List Nat) (h : ∀ t, ∀ g ∈ l, PointKept n t (f t g)) (s : State) :
    PointKept n s (l.foldl f s) := by
  induction l generalizing s with
  | nil => exact .refl n s
  | cons g l ih => exact (h s g (List.mem_cons_self ..)).trans (ih (fun t k hk => h t k (List.mem_cons_of_mem _ hk)) _)

theorem pointKept_setSum (k : Nat) (v : Int) : PointKept n s (s.setSum k v) := ⟨rfl, rfl, fun _ _ => rfl, fun _ _ => rfl⟩

theorem pointKept_dwr {a : Nat} (v : Word) (ha : ¬pointReg n a) : PointKept n s (s.dwr a v) :=
  ⟨rfl, rfl, fun _ hb => State.drd_dwr_other _ fun h => ha (h ▸ hb), fun _ _ => rfl⟩

theorem pointKept_setMem (m : DieMem) (hr : m.regs = s.bill.mem.regs)
    (he : ∀ k, k / 8 = n → SMap.get (fun _ => 0) m.resid k = SMap.get (fun _ => 0) s.bill.mem.resid k) : PointKept n s (s.setMem m) :=
  ⟨rfl, rfl, fun a _ => congrArg (SMap.get regReset · a) hr, he⟩

theorem pointKept_resid (k v : Nat) (hk : k / 8 ≠ n) :
    PointKept n s (s.setMem { s.bill.mem with resid := SMap.put (fun _ => 0) s.bill.mem.resid k v }) :=
  pointKept_setMem _ rfl fun _ hj => SMap.get_put_other _ _ _ _ _ fun h => hk (h ▸ hj)

theorem pointKept_dwr64 {a : Nat} (v : Nat) (ha : ¬pointReg n a) (ha' : ¬pointReg n (a + 4)) : PointKept n s (s.dwr64 a v) :=
  (pointKept_dwr _ ha).trans (pointKept_dwr _ ha')

theorem pointKept_sessionEnergy (g dir k : Nat) (test : Bool) : PointKept n s (s.sessionEnergy g dir k test) := by
  rw [State.sessionEnergy]
  exact .ite (.refl n _) (pointKept_setMem _ rfl fun _ _ => rfl)

theorem State.tariff_lt : s.tariff < 8 := fget_lt ..

theorem pointKept_billEnergy {g dir : Nat} (k : Nat) (hg : g ≠ n) (hd : dir < 2) : PointKept n s (s.billEnergy g dir k) := by
  have hreg (j : Nat) (hj : j < 63) : ¬pointReg n (Reg.BILL_E g j) ∧ ¬pointReg n (Reg.BILL_E g j + 4) := by
    simp only [pointReg, Reg.BILL_E]; omega
  have htot := hreg (2 * dir) (by omega)
  have htar := hreg (4 + 16 * dir + 2 * s.tariff) (by have := s.tariff_lt; omega)
  rw [State.billEnergy]
  exact ((pointKept_dwr64 _ htot.1 htot.2).trans (pointKept_dwr64 _ htar.1 htar.2)).trans (pointKept_setMem _ rfl fun _ _ => rfl)

theorem pointKept_testEnergy {g : Nat} (dir k : Nat) (hg : g < 16) : PointKept n s (s.testEnergy g dir k) := by
  rw [State.testEnergy]
  refine pointKept_dwr _ ?_
  split <;> simp only [pointReg, Reg.BILL_E, Reg.METR_TEST_IMP, Reg.METR_TEST_EXP] <;> omega

theorem pointKept_accrue {g dir : Nat} (amount : Nat) (hg : g ≠ n) (hb : g < 16) (hd : dir < 2) : PointKept n s (s.accrue g dir amount) := by
  unfold State.accrue
  extract_lets test k sum m s1 j
  have hk : k / 8 ≠ n := by
    have h : k = g * 8 + (dir + if test then 6 else 0) := Nat.add_assoc ..
    have h6 : (if test then 6 else 0 : Nat) < 7 := by split <;> decide
    omega
  have h1 : PointKept n s s1 := pointKept_resid _ _ hk
  clear_value s1
  exact .ite h1 (.ite ((h1.trans (pointKept_testEnergy _ _ hb)).trans (pointKept_sessionEnergy ..))
    ((h1.trans (pointKept_billEnergy _ hg hd)).trans (pointKept_sessionEnergy ..)))

theorem pointKept_accrueReact {q : Nat} (amount : Nat) (hn : 0 < n) (hq : q < 4) : PointKept n s (s.accrueReact q amount) := by
  unfold State.accrueReact
  extract_lets sum m s1 r
  have h1 : PointKept n s s1 := pointKept_resid _ _ (by omega)
  clear_value s1
  have hr : ¬pointReg n (Reg.BILL_E 0 (36 + 2 * q)) ∧ ¬pointReg n (Reg.BILL_E 0 (36 + 2 * q) + 4) := by
    simp only [pointReg, Reg.BILL_E]; omega
  exact .ite (.refl n _) (.ite h1 (h1.trans (pointKept_dwr64 _ hr.1 hr.2)))

theorem pointKept_acPhase (q : Nat) : PointKept n s (s.acPhase q) := by
  unfold State.acPhase
  extract_lets v i w add
  clear_value w
  have hadd (t : State) (k : Nat) (x : Int) : PointKept n t (add t k x) := pointKept_setSum ..
  clear_value add
  exact (((((hadd ..).trans (hadd ..)).trans (hadd ..)).trans (hadd ..)).trans (hadd ..)).trans (pointKept_setSum ..)

theorem quadrant_lt (p q : Int) : quadrant p q < 4 := by
  simp only [quadrant]
  split <;> split <;> decide

theorem pointKept_acSample (hn : 0 < n) : PointKept n s s.acSample := by
  unfold State.acSample
  extract_lets s1 s2
  have h2 : PointKept n s s2 := (PointKept.foldl _ (fun t q _ => pointKept_acPhase q) _).trans (pointKept_setSum ..)
  clear_value s2
  split
  extract_lets s3
  have hacc {dir : Nat} (amount : Nat) (hd : dir < 2) : PointKept n s2 (s2.accrue 0 dir amount) :=
    pointKept_accrue _ (Nat.ne_of_lt hn) (by decide) hd
  have h3 : PointKept n s2 s3 := .ite (hacc _ (by decide)) (.ite (hacc _ (by decide)) (.refl n _))
  clear_value s3
  exact .ite (h2.trans (.ite h3 (h3.trans (pointKept_accrueReact _ hn (quadrant_lt ..))))) h2

/-- The sums of a DC group's sample. -/
def State.dcSums (s : State) (n : Nat) : State :=
  let add := fun (st : State) (k : Nat) (x : Int) => st.setSum (dcKey n k) (st.sum (dcKey n k) + x)
  add (add (add (add s 0 1) 1 (s.groupVal (8 + n) 1 0)) 2 (s.groupVal (8 + n) 2 0)) 3 (s.dcPower n)

theorem State.dcSample_eq (k : Nat) : s.dcSample k =
    if 2 * (s.dcSums k).nominal (nomDcI k) < (s.groupVal (8 + k) 2 0).natAbs then
      if 0 < s.dcPower k then (s.dcSums k).accrue (k + 1) 0 (s.dcPower k).natAbs
      else if s.dcPower k < 0 then (s.dcSums k).accrue (k + 1) 1 (s.dcPower k).natAbs else s.dcSums k
    else s.dcSums k := by
  rw [State.dcSample, State.dcSums]

theorem pointKept_dcSums (k : Nat) : PointKept n s (s.dcSums k) := by
  unfold State.dcSums
  extract_lets add
  have hadd (t : State) (j : Nat) (x : Int) : PointKept n t (add t j x) := pointKept_setSum ..
  clear_value add
  exact (((hadd ..).trans (hadd ..)).trans (hadd ..)).trans (hadd ..)

theorem pointKept_dcSample {k : Nat} (hk : k + 1 ≠ n) (hb : k + 1 < 16) : PointKept n s (s.dcSample k) := by
  have hacc {dir : Nat} (hd : dir < 2) : PointKept n s ((s.dcSums k).accrue (k + 1) dir (s.dcPower k).natAbs) :=
    (pointKept_dcSums k).trans (pointKept_accrue _ hk hb hd)
  rw [State.dcSample_eq]
  exact .ite (.ite (hacc (by decide)) (.ite (hacc (by decide)) (pointKept_dcSums k))) (pointKept_dcSums k)

theorem State.d64_lt (a : Nat) : s.d64 a < 0x10000000000000000 := by
  have hlo := (s.drd a).isLt
  have hhi := (s.drd (a + 4)).isLt
  rw [State.d64]; omega

theorem State.d64_dwr64 (a v : Nat) : (s.dwr64 a v).d64 a = v % 0x10000000000000000 := by
  rw [State.d64, State.dwr64, State.drd_dwr_same, State.drd_dwr_other _ (by omega), State.drd_dwr_same, BitVec.toNat_ofNat, BitVec.toNat_ofNat]
  omega

theorem State.d64_dwr64_other {a b : Nat} (v : Nat) (h : a + 8 ≤ b) : (s.dwr64 b v).d64 a = s.d64 a := by
  rw [State.d64, State.drd_dwr64_other (by omega) (by omega), State.drd_dwr64_other (by omega) (by omega), State.d64]

theorem State.d64_congr {a : Nat} (h : ∀ b, a ≤ b → b ≤ a + 4 → t.drd b = s.drd b) : t.d64 a = s.d64 a := by
  rw [State.d64, h a (by omega) (by omega), h (a + 4) (by omega) (by omega), State.d64]

theorem State.mem_sessionEnergy (g dir k : Nat) (test : Bool) : (s.sessionEnergy g dir k test).bill.mem.regs = s.bill.mem.regs
    ∧ (s.sessionEnergy g dir k test).bill.mem.resid = s.bill.mem.resid := by
  rw [State.sessionEnergy]
  split
  · exact ⟨rfl, rfl⟩
  · exact ⟨rfl, rfl⟩

theorem State.d64_billEnergy (g k : Nat) :
    (s.billEnergy g 0 k).d64 (Reg.BILL_E g 0) = (s.d64 (Reg.BILL_E g 0) + k) % 0x10000000000000000
    ∧ (s.billEnergy g 0 k).bill.mem.resid = s.bill.mem.resid := by
  refine ⟨?_, rfl⟩
  unfold State.billEnergy
  extract_lets tot reg s1 j m
  have h1 : s1.d64 tot = (s.d64 tot + k) % 0x10000000000000000 := by
    have htar : tot + 8 ≤ reg := by simp only [tot, reg, Reg.BILL_E]; omega
    simp only [s1]
    rw [State.d64_dwr64_other _ htar, State.d64_dwr64]
  exact h1

/-- What imported energy adds to a point out of TEST: whole mWh to its register, the rest carried (R535, R553). -/
theorem State.accrue_import (g amount : Nat) (hg : s.pointTest g = false) :
    (s.accrue g 0 amount).d64 (Reg.BILL_E g 0)
      = (s.d64 (Reg.BILL_E g 0) + (SMap.get (fun _ => 0) s.bill.mem.resid (g * 8) + amount) / mWhUnit) % 0x10000000000000000
    ∧ SMap.get (fun _ => 0) (s.accrue g 0 amount).bill.mem.resid (g * 8)
      = (SMap.get (fun _ => 0) s.bill.mem.resid (g * 8) + amount) % mWhUnit := by
  simp only [State.accrue, hg, Bool.false_eq_true, if_false, Nat.add_zero]
  generalize SMap.get (fun _ => 0) s.bill.mem.resid (g * 8) + amount = sum
  generalize hs1 : s.setMem { s.bill.mem with resid := SMap.put (fun _ => 0) s.bill.mem.resid (g * 8) (sum % mWhUnit) } = s1
  have hd : s1.d64 (Reg.BILL_E g 0) = s.d64 (Reg.BILL_E g 0) := by rw [← hs1]; rfl
  have hr : SMap.get (fun _ => 0) s1.bill.mem.resid (g * 8) = sum % mWhUnit := by rw [← hs1]; exact SMap.get_put_same ..
  split
  · next h0 => exact ⟨by rw [h0, Nat.add_zero, Nat.mod_eq_of_lt (s.d64_lt _), hd], hr⟩
  · obtain ⟨hregs, hresid⟩ := (s1.billEnergy g 0 (sum / mWhUnit)).mem_sessionEnergy g 0 (sum / mWhUnit) false
    obtain ⟨hbill, hkeep⟩ := s1.d64_billEnergy g (sum / mWhUnit)
    refine ⟨?_, by rw [hresid, hkeep, hr]⟩
    rw [State.d64_congr (fun b _ _ => congrArg (SMap.get regReset · b) hregs), hbill, hd]

/-! ### The measured values of a group -/

theorem State.groupVal_congr {group role phase : Nat} (hr : ∀ a, 0xD1000 ≤ a → a < 0xD2000 → t.drd a = s.drd a)
    (hc : t.metr.chans = s.metr.chans) : t.groupVal group role phase = s.groupVal group role phase := by
  have hch : t.chOf group role phase = s.chOf group role phase := by
    refine List.find?_congr fun c hc => ?_
    have hcfg : t.drd (Reg.METR_CH_CFG c) = s.drd (Reg.METR_CH_CFG c) := by
      have h := List.mem_range.mp hc
      exact hr _ (by simp only [Reg.METR_CH_CFG]; omega) (by simp only [Reg.METR_CH_CFG]; omega)
    rw [hcfg, State.dKind_congr hcfg]
  have hd (c : Nat) : t.dch c = s.dch c := congrArg (SMap.get (fun _ => DieChan.reset) · c) hc
  simp only [State.groupVal, hch, hd]

theorem State.dcPower_congr {k : Nat} (hk : k < 8) (hr : ∀ a, a < 0xD0180 ∨ 0xD1000 ≤ a ∧ a < 0xD2000 → t.drd a = s.drd a)
    (hc : t.metr.chans = s.metr.chans) : t.dcPower k = s.dcPower k := by
  have hv (role : Nat) : t.groupVal (8 + k) role 0 = s.groupVal (8 + k) role 0 := State.groupVal_congr (fun a h h' => hr a (.inr ⟨h, h'⟩)) hc
  have hloss : t.drd (Reg.METR_DC_LOSS k) = s.drd (Reg.METR_DC_LOSS k) := hr _ (.inl (by simp only [Reg.METR_DC_LOSS]; omega))
  simp only [State.dcPower, hv, State.dfld, hloss]

theorem PointKept.measured_values (h : PointKept n s t) {k : Nat} (hk : k < 8) :
    t.groupVal (8 + k) 2 0 = s.groupVal (8 + k) 2 0 ∧ t.dcPower k = s.dcPower k := by
  obtain ⟨hc, -, hr, -⟩ := h
  exact ⟨State.groupVal_congr (fun a h h' => hr a (.inr (.inl ⟨by omega, by omega⟩))) hc,
    State.dcPower_congr hk (fun a h => hr a (h.imp id fun h => .inl ⟨by omega, by omega⟩)) hc⟩

end

end Sys2Proof.Machine

namespace Sys2Proof.Machine

open Sys2Proof

section

set_option Elab.async false

variable {s t u : State}

/-! ### The DC group's energy of a sample (R533 to R535) -/

/-- A group's part of a sample. -/
def State.pointSample (s : State) (g : Nat) : State := if g = 0 then s.acSample else s.dcSample (g - 1)

theorem pointKept_pointSample {n g : Nat} (hn : 0 < n) (hg : g ≠ n) (hb : g < 16) : PointKept n s (s.pointSample g) := by
  rw [State.pointSample]
  split
  · exact pointKept_acSample hn
  · next h0 => exact pointKept_dcSample (by omega) (by omega)

theorem State.mem_points_lt {g : Nat} (h : g ∈ s.points) : g < 16 := by
  have hlt := List.mem_range.mp (List.mem_of_mem_filter h)
  have hout : outletsOf s.variant < 16 := Nat.mod_lt _ (by decide)
  omega

theorem State.nodup_points : s.points.Nodup := List.nodup_range.filter _

/-- Among the groups' parts of a sample one's own stands between parts that leave its point alone. -/
theorem State.points_fold {n : Nat} (hn : n + 1 ∈ s.points) : ∃ a, PointKept (n + 1) s a
    ∧ PointKept (n + 1) (a.dcSample n) (s.points.foldl State.pointSample s) := by
  obtain ⟨l, r, hl⟩ := List.append_of_mem hn
  have hnd : (l ++ (n + 1) :: r).Nodup := hl ▸ s.nodup_points
  have hlt : ∀ g ∈ l ++ (n + 1) :: r, g < 16 := fun g hg => State.mem_points_lt (hl ▸ hg)
  obtain ⟨-, hr, hdis⟩ := List.nodup_append.mp hnd
  have hleft (t : State) : ∀ g ∈ l, PointKept (n + 1) t (t.pointSample g) := fun g hg =>
    pointKept_pointSample (Nat.succ_pos n) (hdis g hg (n + 1) (List.mem_cons_self ..)) (hlt g (List.mem_append_left _ hg))
  have hright (t : State) : ∀ g ∈ r, PointKept (n + 1) t (t.pointSample g) := fun g hg =>
    pointKept_pointSample (Nat.succ_pos n) (fun h => (List.nodup_cons.mp hr).1 (h ▸ hg))
      (hlt g (List.mem_append_right _ (List.mem_cons_of_mem _ hg)))
  refine ⟨l.foldl State.pointSample s, PointKept.foldl l hleft s, ?_⟩
  rw [hl, List.foldl_append, List.foldl_cons]
  have hown : (l.foldl State.pointSample s).pointSample (n + 1) = (l.foldl State.pointSample s).dcSample n := if_neg (Nat.succ_ne_zero n)
  rw [hown]
  exact PointKept.foldl r hright _

/-- Where no window ends, what follows the groups' parts leaves their points. -/
theorem pointKept_measured (n : Nat) (above : Bool) (hmc : (s.points.foldl State.pointSample s).bill.mem.mc = s.bill.mem.mc)
    (hw : (s.bill.mem.mc + 1) % 320 ≠ 0) : PointKept n (s.points.foldl State.pointSample s) (s.measured above) := by
  have hfold : (s.points.foldl (fun st g => if g = 0 then st.acSample else st.dcSample (g - 1)) s) = s.points.foldl State.pointSample s := rfl
  unfold State.measured
  rw [hfold]
  generalize s.points.foldl State.pointSample s = v at hmc ⊢
  extract_lets m2 m3 s3
  have h3 : s3.bill.mem.mc = s.bill.mem.mc := hmc
  have hkept : PointKept n v (s3.setMem { s3.bill.mem with mc := s3.bill.mem.mc + 1 }) := ⟨rfl, rfl, fun _ _ => rfl, fun _ _ => rfl⟩
  have hw3 : ¬(s3.bill.mem.mc + 1) % 320 = 0 ∧ ¬(s3.bill.mem.mc + 1) % 32000 = 0 := by omega
  have hwin : (s3.setMem { s3.bill.mem with mc := s3.bill.mem.mc + 1 }).windows = s3.setMem { s3.bill.mem with mc := s3.bill.mem.mc + 1 } :=
    (if_neg hw3.2).trans (if_neg hw3.1)
  rw [hwin]
  exact hkept

theorem State.points_congr (hv : t.variant = s.variant) (hr : ∀ c < 48, t.drd (Reg.METR_CH_CFG c) = s.drd (Reg.METR_CH_CFG c)) :
    t.points = s.points := by
  have hch (g : Nat) : t.chansOf g = s.chansOf g := List.filter_congr fun c hc => by
    rw [State.dKind_congr (hr c (List.mem_range.mp hc)), State.dfld, hr c (List.mem_range.mp hc), State.dfld]
  rw [State.points, State.points, hv]
  simp only [hch]

theorem sampleEnergy_row (dt : Nat) (codes : List Int) (n : Nat) (hn : n < 8) (hr : s.dieRuns = true) (hmap : s.metr.newMap = none)
    (hrws : s.metr.rws = []) (htk : s.metr.timeKnown = false) (hp : n + 1 ∈ s.points) (ht : s.pointTest (n + 1) = false)
    (hmc : (s.bill.mem.mc + 1) % 320 ≠ 0) :
    Does (.sampleInstant dt codes) s fun t =>
      (2 * s.nominal (nomDcI n) < (t.groupVal (8 + n) 2 0).natAbs → 0 < t.dcPower n →
        t.d64 (Reg.BILL_E (n + 1) 0)
            = (s.d64 (Reg.BILL_E (n + 1) 0) + (SMap.get (fun _ => 0) s.bill.mem.resid ((n + 1) * 8) + (t.dcPower n).natAbs) / mWhUnit)
              % 0x10000000000000000
        ∧ SMap.get (fun _ => 0) t.bill.mem.resid ((n + 1) * 8)
            = (SMap.get (fun _ => 0) s.bill.mem.resid ((n + 1) * 8) + (t.dcPower n).natAbs) % mWhUnit) := by
  refine Does.of_eq (exec_sampleInstant dt codes hr) fun t htt hcur hpow => ?_
  rw [(s.tick dt).sampleInstant_eq codes hmap hrws (.inr htk), State.measure_eq] at htt
  have hat : (s.tick dt).atSample = (s.tick dt).setMetr { (s.tick dt).metr with lastTs := (s.tick dt).dieTs } :=
    if_neg (by simp [State.takesBoundaries, State.setMetr, htk])
  generalize (s.tick dt).atSample.aboveStart codes = above at htt
  obtain ⟨m, hm⟩ := (s.tick dt).atSample.corrected_eq codes
  generalize hv : (s.tick dt).atSample.corrected codes = v at hm htt
  rw [hat] at hm
  have hvr (a : Nat) : v.drd a = s.drd a := by rw [hm]; rfl
  have hvm : v.bill.mem = s.bill.mem := by rw [hm]; rfl
  have hvp : v.metr.pars = s.metr.pars := by rw [hm]; rfl
  have hpoints : n + 1 ∈ v.points := by rwa [State.points_congr (by rw [hm]; rfl) fun c _ => hvr _]
  obtain ⟨a, hva, hab⟩ := v.points_fold hpoints
  have hmcv : (v.points.foldl State.pointSample v).bill.mem.mc = v.bill.mem.mc :=
    (PrimKept.foldl (fun t g => .ite primKept_acSample (primKept_dcSample _)) _ v).2
  have hbt : PointKept (n + 1) (a.dcSample n) t := hab.trans (htt ▸ pointKept_measured (n + 1) above hmcv (by rw [hvm]; exact hmc))
  obtain ⟨hcur1, hpow1⟩ := hbt.measured_values hn
  obtain ⟨hcur2, hpow2⟩ := (pointKept_dcSample (s := a) (n := n + 2) (k := n) (by omega) (by omega)).measured_values hn
  rw [hcur1, hcur2] at hcur
  rw [hpow1, hpow2] at hpow
  rw [hpow1, hpow2]
  have hsums := pointKept_dcSums (s := a) (n := n + 1) n
  obtain ⟨-, hap, har, hae⟩ := hva.trans hsums
  obtain ⟨-, -, hbr, hbe⟩ := hbt
  have hnom : (a.dcSums n).nominal (nomDcI n) = s.nominal (nomDcI n) := by rw [State.nominal, hap, hvp, State.nominal]
  have htest : (a.dcSums n).pointTest (n + 1) = false := by
    rw [← ht, State.pointTest, har _ (.inl (by decide)), hvr, State.pointTest]
  have hb : a.dcSample n = (a.dcSums n).accrue (n + 1) 0 (a.dcPower n).natAbs := by
    rw [State.dcSample_eq, if_pos (by rw [hnom]; exact hcur), if_pos hpow]
  obtain ⟨hd, hres⟩ := (a.dcSums n).accrue_import (n + 1) (a.dcPower n).natAbs htest
  have hreg (b : Nat) (h : Reg.BILL_E (n + 1) 0 ≤ b) (h' : b ≤ Reg.BILL_E (n + 1) 0 + 4) : pointReg (n + 1) b :=
    .inr (.inr ⟨h, by simp only [Reg.BILL_E] at *; omega⟩)
  have hsum : SMap.get (fun _ => 0) (a.dcSums n).bill.mem.resid ((n + 1) * 8) = SMap.get (fun _ => 0) s.bill.mem.resid ((n + 1) * 8) := by
    rw [hae _ (by omega), hvm]
  have hd64 : (a.dcSums n).d64 (Reg.BILL_E (n + 1) 0) = s.d64 (Reg.BILL_E (n + 1) 0) :=
    State.d64_congr fun b h h' => (har b (hreg b h h')).trans (hvr b)
  rw [hbe _ (by omega), State.d64_congr (fun b h h' => hbr b (hreg b h h')), hb, hd, hres, hsum, hd64]
  exact ⟨rfl, rfl⟩

end

end Sys2Proof.Machine

namespace Sys2Proof.Machine

open Sys2Proof

section

set_option Elab.async false

variable {s t u : State}

/-! ### Open channels (R538, R539, R541) -/

@[simp] theorem State.dch_dieEvent (code : Nat) (arg : Word) (c : Nat) : (s.dieEvent code arg).dch c = s.dch c := rfl

@[simp] theorem State.dch_tamper (k g c : Nat) : (s.tamper k g).dch c = s.dch c := by
  rw [State.dch, State.metr_tamper, State.dch]

theorem State.drd_tamper_low (k g : Nat) {a : Nat} (ha : a < 0xE0000) : (s.tamper k g).drd a = s.drd a := (meterKept_tamper k g).1 a ha

/-- The point whose group the channel would make INVALID. -/
def State.freshPoint (s : State) (c : Nat) : Option Nat :=
  match s.pointOf c with
  | some g => if s.pointInvalid g then none else some g
  | none => none

theorem State.freshPoint_some {c g : Nat} (h : s.pointOf c = some g) (hv : s.pointInvalid g = false) : s.freshPoint c = some g := by
  simp [State.freshPoint, h, hv]

/-- A channel open and told. -/
def State.openTold (s : State) (c : Nat) : State :=
  (s.setDch c { s.dch c with opened := true }).dieEvent Ev.METR_OPEN (evArg c 0 0)

theorem State.openChannel_closed {c : Nat} (h : (s.dch c).opened = false) :
    s.openChannel c = (match s.freshPoint c with | some g => (s.openTold c).tamper 1 g | none => s.openTold c) := by
  rw [State.openChannel, if_neg (by rw [h]; exact Bool.false_ne_true)]
  rfl

theorem State.dch_openTold (c k : Nat) : (s.openTold c).dch k = if c = k then { s.dch c with opened := true } else s.dch k := by
  rw [State.openTold, State.dch_dieEvent, State.dch_setDch]

theorem State.dch_openChannel (c k : Nat) :
    (s.openChannel c).dch k = if c = k then { s.dch c with opened := true } else s.dch k := by
  by_cases h : (s.dch c).opened = true
  · have hsame : s.openChannel c = s := if_pos h
    rw [hsame]
    split
    · next hk => rw [← hk, ← h]
    · rfl
  · rw [State.openChannel_closed (by simpa using h)]
    split
    · rw [State.dch_tamper, State.dch_openTold]
    · rw [State.dch_openTold]

theorem State.drd_openChannel (c : Nat) {a : Nat} (ha : a < 0xE0000) : (s.openChannel c).drd a = s.drd a := by
  by_cases h : (s.dch c).opened = true
  · have hsame : s.openChannel c = s := if_pos h
    rw [hsame]
  · rw [State.openChannel_closed (by simpa using h)]
    split
    · rw [State.drd_tamper_low _ _ ha]; rfl
    · rfl

theorem State.dch_biasTest_other {c k : Nat} (moved : Nat) (h : c ≠ k) : (s.biasTest c moved).dch k = s.dch k := by
  simp only [State.biasTest]
  split
  · rfl
  · split
    · split
      · rw [State.dch_openChannel, if_neg h, State.dch_setDch_other _ h]
      · exact State.dch_setDch_other _ h
    · exact State.dch_setDch_other _ h

theorem State.drd_biasTest (c moved : Nat) {a : Nat} (ha : a < 0xE0000) : (s.biasTest c moved).drd a = s.drd a := by
  simp only [State.biasTest]
  split
  · rfl
  · split
    · split
      · rw [State.drd_openChannel _ ha]; rfl
      · rfl
    · rfl

theorem State.dch_biasTest_fails {c moved : Nat} (hk : s.dKind c ≠ 0) (hm : 2097152 < moved) : (s.biasTest c moved).dch c =
    { s.dch c with fails := (s.dch c).fails + 1, passes := 0, opened := (s.dch c).opened || decide (3 ≤ (s.dch c).fails + 1) } := by
  simp only [State.biasTest, if_neg hk, if_pos hm]
  split
  · next h3 => rw [State.dch_openChannel, if_pos rfl, State.dch_setDch_same, decide_eq_true h3, Bool.or_true]
  · next h3 => rw [State.dch_setDch_same, decide_eq_false h3, Bool.or_false]

theorem State.dch_biasTest_passes {c moved : Nat} (hk : s.dKind c ≠ 0) (hm : moved ≤ 2097152) : (s.biasTest c moved).dch c =
    { s.dch c with fails := 0, passes := (s.dch c).passes + 1, opened := (s.dch c).opened && decide ((s.dch c).passes + 1 < 10) } := by
  simp only [State.biasTest, if_neg hk, if_neg (Nat.not_lt.mpr hm), State.dch_setDch_same]

/-- The local channels' bias tests: each reads its channel and its kind as they stood. -/
theorem State.biasTests_at (moved : List Nat) {c : Nat} (hc : c < 32) : ∃ t : State, t.dch c = s.dch c ∧ t.dKind c = s.dKind c
    ∧ ((List.range 32).foldl (fun st c => st.biasTest c (moved.getD c 0)) s).dch c = (t.biasTest c (moved.getD c 0)).dch c := by
  have hcfg : Reg.METR_CH_CFG c < 0xE0000 := by simp only [Reg.METR_CH_CFG]; omega
  obtain ⟨t, ht, he⟩ := foldl_range_at (f := fun st c => st.biasTest c (moved.getD c 0)) (fun t => (t.dch c, t.drd (Reg.METR_CH_CFG c))) hc
    (fun t k hk => Prod.ext (State.dch_biasTest_other _ hk) (State.drd_biasTest _ _ hcfg)) s
  obtain ⟨hd, hr⟩ := Prod.mk.inj ht
  exact ⟨t, hd, State.dKind_congr hr, congrArg Prod.fst he⟩

theorem State.biasTests_other (moved : List Nat) {k : Nat} (hk : 32 ≤ k) :
    ((List.range 32).foldl (fun st c => st.biasTest c (moved.getD c 0)) s).dch k = s.dch k := by
  have hfold (l : List Nat) (hl : ∀ c ∈ l, c ≠ k) (t : State) : (l.foldl (fun st c => st.biasTest c (moved.getD c 0)) t).dch k = t.dch k := by
    induction l generalizing t with
    | nil => rfl
    | cons c l ih =>
      rw [List.foldl_cons, ih (fun j hj => hl j (List.mem_cons_of_mem _ hj)), State.dch_biasTest_other _ (hl c (List.mem_cons_self ..))]
  exact hfold _ (fun c hc => by have := List.mem_range.mp hc; omega) s

theorem exec_biasTest (dt : Nat) (moved : List Nat) (h : s.dieRuns = true) : exec (.biasTest dt moved) s =
    .next ((List.range 32).foldl (fun st c => st.biasTest c (moved.getD c 0)) (s.tick dt)) := by
  have h' : (s.tick dt).dieRuns = true := h
  simp only [exec, execBiasTest, h', if_true]

theorem biasTest_frame (dt : Nat) (moved : List Nat)
    (ht : t = (List.range 32).foldl (fun st c => st.biasTest c (moved.getD c 0)) (s.tick dt)) :
    Silent s t ∧ RegsBut [] s t ∧ t = { s.tick dt with metr := t.metr, bill := t.bill } := by
  refine State.die_frame ?_
  rw [ht]
  simp [-State.tick_tags]

theorem biasFails_row (dt : Nat) (moved : List Nat) (c : Nat) (hr : s.dieRuns = true) (hc : c < 32) (hk : s.dKind c ≠ 0)
    (hm : 2097152 < moved.getD c 0) :
    Does (.biasTest dt moved) s fun t =>
      (t.dch c).fails = (s.dch c).fails + 1 ∧ (t.dch c).passes = 0 ∧ (t.dch c).opened = ((s.dch c).opened || decide (3 ≤ (s.dch c).fails + 1))
      ∧ (∀ k < 48, 32 ≤ k → t.dch k = s.dch k) ∧ Silent s t ∧ RegsBut [] s t ∧ t = { s.tick dt with metr := t.metr, bill := t.bill } := by
  refine Does.of_eq (exec_biasTest dt moved hr) fun t ht => ?_
  obtain ⟨v, hv, hvk, hd⟩ := (s.tick dt).biasTests_at moved hc
  have hvk' : v.dKind c = s.dKind c := hvk
  have hv' : v.dch c = s.dch c := hv
  rw [← ht, State.dch_biasTest_fails (hvk' ▸ hk) hm, hv'] at hd
  rw [hd]
  refine ⟨rfl, rfl, rfl, fun k _ hk => ?_, biasTest_frame dt moved ht⟩
  rw [ht, State.biasTests_other _ hk]; rfl

theorem biasPasses_row (dt : Nat) (moved : List Nat) (c : Nat) (hr : s.dieRuns = true) (hc : c < 32) (hk : s.dKind c ≠ 0)
    (hm : moved.getD c 0 ≤ 2097152) :
    Does (.biasTest dt moved) s fun t =>
      (t.dch c).fails = 0 ∧ (t.dch c).passes = (s.dch c).passes + 1
      ∧ (t.dch c).opened = ((s.dch c).opened && decide ((s.dch c).passes + 1 < 10)) ∧ Silent s t ∧ RegsBut [] s t := by
  refine Does.of_eq (exec_biasTest dt moved hr) fun t ht => ?_
  obtain ⟨v, hv, hvk, hd⟩ := (s.tick dt).biasTests_at moved hc
  have hvk' : v.dKind c = s.dKind c := hvk
  have hv' : v.dch c = s.dch c := hv
  rw [← ht, State.dch_biasTest_passes (hvk' ▸ hk) hm, hv'] at hd
  obtain ⟨hs, hb, -⟩ := biasTest_frame dt moved ht
  rw [hd]
  exact ⟨rfl, rfl, rfl, hs, hb⟩

theorem exec_remoteChannelOpen (dt n held : Nat) (hn : n < 16) (hr : s.dieRuns = true) (hk : s.dKind (32 + n) ≠ 0) (hh : 31250 ≤ held) :
    exec (.remoteChannelOpen dt n false held) s = .next ((s.tick dt).openChannel (32 + n)) := by
  have hc : ¬((s.tick dt).dieRuns = false ∨ (s.tick dt).dKind (32 + n) = 0) := fun h => h.elim (fun h => Bool.false_ne_true (h.symm.trans hr)) hk
  simp only [exec, execRemoteChannelOpen, Nat.mod_eq_of_lt hn, if_neg hc, hh, and_self, if_true]

theorem remoteOpen_row (dt n held : Nat) (hn : n < 16) (hr : s.dieRuns = true) (hk : s.dKind (32 + n) ≠ 0) (hh : 31250 ≤ held)
    (ho : (s.dch (32 + n)).opened = false) :
    Does (.remoteChannelOpen dt n false held) s fun t =>
      (t.dch (32 + n)).opened = true ∧ DieTold Ev.METR_OPEN (evArg (32 + n) 0 0) t
      ∧ (∀ g, s.pointOf (32 + n) = some g → s.pointInvalid g = false → Tampered 1 s t) ∧ DieRegsBut (tamperRegs 1) s t
      ∧ Silent s t ∧ RegsBut [] s t ∧ t = { s.tick dt with metr := t.metr, bill := t.bill } := by
  refine Does.of_eq (exec_remoteChannelOpen dt n held hn hr hk hh) fun t ht => ?_
  have hframe : t.outside [.metr, .bill] = (s.tick dt).outside [.metr, .bill] := by rw [ht]; simp [-State.tick_tags]
  have hopen : (t.dch (32 + n)).opened = true := by rw [ht, State.dch_openChannel, if_pos rfl]
  have ho' : ((s.tick dt).dch (32 + n)).opened = false := ho
  rw [State.openChannel_closed ho'] at ht
  generalize hv : (s.tick dt).openTold (32 + n) = v at ht
  have hvr (a : Nat) : v.drd a = s.drd a := by rw [← hv]; rfl
  have htold : DieTold Ev.METR_OPEN (evArg (32 + n) 0 0) v := by rw [← hv]; exact dieTold_dieEvent ..
  refine ⟨hopen, ?_, fun g hg hi => ?_, fun a ha => ?_, State.die_frame hframe⟩
  · rw [ht]
    split
    · rw [DieTold, State.metr_tamper, List.any_append, htold, Bool.true_or]
    · exact htold
  · have hfresh : (s.tick dt).freshPoint (32 + n) = some g := State.freshPoint_some hg hi
    rw [hfresh] at ht
    exact (tampered_tamper 1 g).congr (fun a => (hvr a).symm) (fun a => by rw [ht]) (by rw [ht])
  · rw [ht]
    split
    · rw [State.drd_tamper_other _ _ ha, hvr]
    · exact hvr a

theorem remoteMoves_row (dt n held : Nat) (hn : n < 16) (hr : s.dieRuns = true) (hk : s.dKind (32 + n) ≠ 0) (hh : Config.msec 1 ≤ held) :
    Does (.remoteChannelOpen dt n true held) s fun t => t = (s.tick dt).setDch (32 + n) { s.dch (32 + n) with opened := false } := by
  have hc : ¬((s.tick dt).dieRuns = false ∨ (s.tick dt).dKind (32 + n) = 0) := fun h => h.elim (fun h => Bool.false_ne_true (h.symm.trans hr)) hk
  have he : exec (.remoteChannelOpen dt n true held) s = .next ((s.tick dt).setDch (32 + n) { (s.tick dt).dch (32 + n) with opened := false }) := by
    simp only [exec, execRemoteChannelOpen, Nat.mod_eq_of_lt hn, if_neg hc, Bool.true_eq_false, false_and, if_false, hh, and_self, if_true]
  exact Does.of_eq he fun t ht => ht

end

end Sys2Proof.Machine

namespace Sys2Proof.Machine

open Sys2Proof

section

set_option Elab.async false

variable {s t u : State}

/-! ### Grid cycles and statistics (R532, R536) -/

/-- The registers of a phase of the AC group. -/
def phaseRegs (q : Nat) : List Nat := [Reg.METR_AC_V q, Reg.METR_AC_I q, Reg.METR_AC_P q, Reg.METR_AC_Q q]

/-- The registers of the AC group's phases. -/
def acRegs : List Nat := (List.range 3).flatMap phaseRegs

theorem State.metr_showPhase (q : Nat) : (s.showPhase q).metr = s.metr := by
  simp only [State.showPhase, State.metr_dwr]

theorem State.drd_showPhase_other (q : Nat) {a : Nat} (h : a ∉ phaseRegs q) : (s.showPhase q).drd a = s.drd a := by
  simp only [phaseRegs, List.mem_cons, List.not_mem_nil, or_false, not_or] at h
  obtain ⟨hv, hi, hp, hq⟩ := h
  rw [State.showPhase, State.drd_dwr_other _ hq, State.drd_dwr_other _ hp, State.drd_dwr_other _ hi, State.drd_dwr_other _ hv]

/-- A phase's registers show the means of the cycles held. -/
def PhaseShown (q : Nat) (s : State) : Prop :=
  s.drd (Reg.METR_AC_V q) = toWord (s.cycleMean (1 + 4 * q) / 100000) ∧ s.drd (Reg.METR_AC_I q) = toWord (s.cycleMean (2 + 4 * q) / 1000)
    ∧ s.drd (Reg.METR_AC_P q) = toWord (s.cycleMean (3 + 4 * q) / 1000000000000)
    ∧ s.drd (Reg.METR_AC_Q q) = toWord (s.cycleMean (4 + 4 * q) / 1000000000000)

theorem State.cycleMean_congr (j : Nat) (h : t.metr.cycles = s.metr.cycles) : t.cycleMean j = s.cycleMean j := by
  rw [State.cycleMean, h, State.cycleMean]

theorem PhaseShown.congr {q : Nat} (h : PhaseShown q s) (hr : ∀ a ∈ phaseRegs q, t.drd a = s.drd a) (hc : t.metr.cycles = s.metr.cycles) :
    PhaseShown q t := by
  obtain ⟨hv, hi, hp, hq⟩ := h
  refine ⟨?_, ?_, ?_, ?_⟩
  · rw [hr _ (by simp [phaseRegs]), hv, State.cycleMean_congr _ hc]
  · rw [hr _ (by simp [phaseRegs]), hi, State.cycleMean_congr _ hc]
  · rw [hr _ (by simp [phaseRegs]), hp, State.cycleMean_congr _ hc]
  · rw [hr _ (by simp [phaseRegs]), hq, State.cycleMean_congr _ hc]

theorem phaseShown_showPhase (q : Nat) : PhaseShown q (s.showPhase q) := by
  have hm (j : Nat) : (s.showPhase q).cycleMean j = s.cycleMean j := State.cycleMean_congr j (congrArg MetrPart.cycles (s.metr_showPhase q))
  have hne : Reg.METR_AC_V q ≠ Reg.METR_AC_I q ∧ Reg.METR_AC_V q ≠ Reg.METR_AC_P q ∧ Reg.METR_AC_V q ≠ Reg.METR_AC_Q q
      ∧ Reg.METR_AC_I q ≠ Reg.METR_AC_P q ∧ Reg.METR_AC_I q ≠ Reg.METR_AC_Q q ∧ Reg.METR_AC_P q ≠ Reg.METR_AC_Q q := by
    simp only [Reg.METR_AC_V, Reg.METR_AC_I, Reg.METR_AC_P, Reg.METR_AC_Q]; omega
  obtain ⟨hvi, hvp, hvq, hip, hiq, hpq⟩ := hne
  have hidx : 1 + 4 * q + 1 = 2 + 4 * q ∧ 1 + 4 * q + 2 = 3 + 4 * q ∧ 1 + 4 * q + 3 = 4 + 4 * q := by omega
  rw [PhaseShown, hm, hm, hm, hm]
  simp only [State.showPhase, State.drd_dwr, hvi, hvp, hvq, hip, hiq, hpq, if_false, if_true, Nat.add_zero, hidx, and_self]

theorem phaseRegs_disjoint {q r a : Nat} (h : q ≠ r) (ha : a ∈ phaseRegs q) : a ∉ phaseRegs r := by
  simp only [phaseRegs, List.mem_cons, List.not_mem_nil, or_false, Reg.METR_AC_V, Reg.METR_AC_I, Reg.METR_AC_P, Reg.METR_AC_Q] at *
  omega

/-- All three phases, shown. -/
def State.showPhases (s : State) : State := [0, 1, 2].foldl State.showPhase s

theorem State.showPhases_eq : s.showPhases = ((s.showPhase 0).showPhase 1).showPhase 2 := rfl

theorem State.metr_showPhases : s.showPhases.metr = s.metr := by
  rw [State.showPhases_eq, State.metr_showPhase, State.metr_showPhase, State.metr_showPhase]

theorem phaseShown_showPhases {q : Nat} (hq : q < 3) : PhaseShown q s.showPhases := by
  have hkeep {r : Nat} {v : State} (hr : q ≠ r) (h : PhaseShown q v) : PhaseShown q (v.showPhase r) :=
    h.congr (fun a ha => State.drd_showPhase_other r (phaseRegs_disjoint hr ha)) (congrArg MetrPart.cycles (v.metr_showPhase r))
  rw [State.showPhases_eq]
  match q, hq with
  | 0, _ => exact hkeep (by decide) (hkeep (by decide) (phaseShown_showPhase 0))
  | 1, _ => exact hkeep (by decide) (phaseShown_showPhase 1)
  | 2, _ => exact phaseShown_showPhase 2

theorem State.drd_showPhases_other {a : Nat} (h : a ∉ acRegs) : s.showPhases.drd a = s.drd a := by
  have hq (q : Nat) (hq : q < 3) : a ∉ phaseRegs q := fun ha => h (List.mem_flatMap.mpr ⟨q, List.mem_range.mpr hq, ha⟩)
  rw [State.showPhases_eq, State.drd_showPhase_other 2 (hq 2 (by decide)), State.drd_showPhase_other 1 (hq 1 (by decide)),
    State.drd_showPhase_other 0 (hq 0 (by decide))]

/-- The cycle's sums start anew. -/
def State.clearCycle (s : State) : State :=
  [0, 1, 2].foldl (fun st q => [1, 2, 3, 4].foldl (fun (t : State) k => t.setSum (acKey k q) 0) st) (s.setSum (acKey 0 0) 0)

theorem State.sum_setSum (k j : Nat) (v : Int) : (s.setSum k v).sum j = if k = j then v else s.sum j := SMap.get_put ..

theorem State.sum_clearCycle : s.clearCycle.sum (acKey 0 0) = 0 := by
  simp only [State.clearCycle, List.foldl_cons, List.foldl_nil, State.sum_setSum, acKey]
  norm_num

theorem State.clearCycle_keeps {α : Type} {obs : State → α} (h : ∀ t k v, obs (State.setSum t k v) = obs t) : obs s.clearCycle = obs s := by
  simp only [State.clearCycle, List.foldl_cons, List.foldl_nil, h]

theorem State.drd_clearCycle (a : Nat) : s.clearCycle.drd a = s.drd a := State.clearCycle_keeps (obs := (State.drd · a)) fun _ _ _ => rfl

theorem State.cycles_clearCycle : s.clearCycle.metr.cycles = s.metr.cycles :=
  State.clearCycle_keeps (obs := (State.metr · |>.cycles)) fun _ _ _ => rfl

theorem State.gridCycle_eq (freq : Nat) : s.gridCycle freq =
    ((s.setMetr { s.metr with cycles := (s.cycleResult freq :: s.metr.cycles).take (if s.nominal nomF = 60 then 12 else 10) }).showPhases.dsetF
      Reg.METR_AC_FREQ Fld.METR_AC_FREQ_FREQ ((s.setMetr { s.metr with
        cycles := (s.cycleResult freq :: s.metr.cycles).take (if s.nominal nomF = 60 then 12 else 10) }).showPhases.cycleMean 0).toNat).clearCycle := by
  rw [State.gridCycle, State.clearCycle, State.showPhases]

theorem State.cycleResult_congr (freq : Nat) (h : t.metr = s.metr) : t.cycleResult freq = s.cycleResult freq := by
  simp only [State.cycleResult, State.cycleRms, State.sum, h]

theorem gridCycle_row (dt freq : Nat) (hr : s.dieRuns = true) (hp : 0 ∈ s.points) (hs : 0 < s.sum (acKey 0 0)) :
    Does (.gridCycle dt freq) s fun t =>
      t.metr.cycles = (s.cycleResult freq :: s.metr.cycles).take (if s.nominal nomF = 60 then 12 else 10)
      ∧ (∀ q < 3, t.drd (Reg.METR_AC_V q) = toWord (t.cycleMean (1 + 4 * q) / 100000) ∧ t.drd (Reg.METR_AC_I q) = toWord (t.cycleMean (2 + 4 * q) / 1000)
          ∧ t.drd (Reg.METR_AC_P q) = toWord (t.cycleMean (3 + 4 * q) / 1000000000000)
          ∧ t.drd (Reg.METR_AC_Q q) = toWord (t.cycleMean (4 + 4 * q) / 1000000000000))
      ∧ t.sum (acKey 0 0) = 0 ∧ DieRegsBut (Reg.METR_AC_FREQ :: (List.range 3).flatMap fun q =>
          [Reg.METR_AC_V q, Reg.METR_AC_I q, Reg.METR_AC_P q, Reg.METR_AC_Q q]) s t
      ∧ Silent s t ∧ RegsBut [] s t ∧ t = { s.tick dt with metr := t.metr, bill := t.bill } := by
  have hpt : (s.tick dt).points.contains 0 = true := List.contains_iff_mem.mpr hp
  have hsum : 0 < (s.tick dt).sum (acKey 0 0) := hs
  have hruns : (s.tick dt).dieRuns = true := hr
  have hc : ((s.tick dt).dieRuns && (s.tick dt).points.contains 0 && decide (0 < (s.tick dt).sum (acKey 0 0))) = true := by
    rw [hruns, hpt, decide_eq_true hsum]; rfl
  have he : exec (.gridCycle dt freq) s = .next ((s.tick dt).gridCycle freq) := congrArg Host.Outcome.next (if_pos hc)
  refine Does.of_eq he fun t ht => ?_
  have hframe : t.outside [.metr, .bill] = (s.tick dt).outside [.metr, .bill] := by rw [ht]; simp [-State.tick_tags]
  rw [State.gridCycle_eq] at ht
  generalize hcyc : ((s.tick dt).cycleResult freq :: (s.tick dt).metr.cycles).take (if (s.tick dt).nominal nomF = 60 then 12 else 10) = cyc at ht
  generalize hv : (s.tick dt).setMetr { (s.tick dt).metr with cycles := cyc } = v at ht
  have hfreq (q : Nat) (hq : q < 3) : Reg.METR_AC_FREQ ∉ phaseRegs q := by
    simp only [phaseRegs, List.mem_cons, List.not_mem_nil, or_false, Reg.METR_AC_FREQ, Reg.METR_AC_V, Reg.METR_AC_I, Reg.METR_AC_P, Reg.METR_AC_Q]
    omega
  have htr (a : Nat) (ha : a ≠ Reg.METR_AC_FREQ) : t.drd a = v.showPhases.drd a := by
    rw [ht, State.drd_clearCycle, State.drd_dsetF_other _ _ ha]
  have htc : t.metr.cycles = v.metr.cycles := by rw [ht, State.cycles_clearCycle]; rfl
  refine ⟨?_, fun q hq => ?_, ?_, fun a ha => ?_, State.die_frame hframe⟩
  · rw [htc, ← hv, ← (s.tick dt).cycleResult_congr (s := s) freq rfl]
    exact hcyc.symm
  · exact (phaseShown_showPhases (s := v) hq).congr (fun a ha => htr a fun h => hfreq q hq (h ▸ ha)) htc
  · rw [ht, State.sum_clearCycle]
  · rw [List.mem_cons, not_or] at ha
    rw [htr a ha.1, State.drd_showPhases_other ha.2, ← hv]; rfl

theorem State.dch_dwr (a : Nat) (v : Word) (c : Nat) : (s.dwr a v).dch c = s.dch c := rfl

theorem State.dch_closeStats_other {c k : Nat} (h : c ≠ k) : (s.closeStats c).dch k = s.dch k := by
  simp only [State.closeStats]
  split
  · rfl
  · rw [State.dch_dwr, State.dch_setDch_other _ h]

theorem State.drd_closeStats_other {c a : Nat} (h : a ≠ Reg.METR_CH_RMS c) : (s.closeStats c).drd a = s.drd a := by
  simp only [State.closeStats]
  split
  · rfl
  · rw [State.drd_dwr_other _ h, State.drd_setDch]

theorem State.closeStats_used {c : Nat} (hk : s.dKind c ≠ 0) (hn : 6400 ≤ (s.dch c).n) :
    (s.closeStats c).dch c = { s.dch c with
      n := 0, sq := 0, sum := 0, hi := 0, lo := 0, rms := sqrtBits 40 ((s.dch c).sq / (s.dch c).n) 0, mean := (s.dch c).sum / (s.dch c).n
      pkHi := (s.dch c).hi, pkLo := (s.dch c).lo }
    ∧ (s.closeStats c).drd (Reg.METR_CH_RMS c) = BitVec.ofNat 32 (sqrtBits 40 ((s.dch c).sq / (s.dch c).n) 0) := by
  have hc : ¬(s.dKind c = 0 ∨ (s.dch c).n < 6400) := fun h => h.elim hk (Nat.not_lt.mpr hn)
  simp only [State.closeStats, if_neg hc]
  rw [State.dch_dwr, State.dch_setDch_same, State.drd_dwr_same]
  exact ⟨rfl, rfl⟩

theorem channelStats_row (dt c : Nat) (hr : s.dieRuns = true) (hc : c < 48) (hk : s.dKind c ≠ 0) (hn : 6400 ≤ (s.dch c).n) :
    Does (.channelStats dt) s fun t =>
      (t.dch c).rms = sqrtBits 40 ((s.dch c).sq / (s.dch c).n) 0 ∧ (t.dch c).mean = (s.dch c).sum / (s.dch c).n
      ∧ (t.dch c).pkHi = (s.dch c).hi ∧ (t.dch c).pkLo = (s.dch c).lo ∧ (t.dch c).n = 0
      ∧ t.drd (Reg.METR_CH_RMS c) = BitVec.ofNat 32 (t.dch c).rms
      ∧ DieRegsBut ((List.range 48).map Reg.METR_CH_RMS) s t ∧ Silent s t ∧ RegsBut [] s t ∧ t = { s.tick dt with metr := t.metr, bill := t.bill } := by
  have hruns : (s.tick dt).dieRuns = true := hr
  have he : exec (.channelStats dt) s = .next ((List.range 48).foldl State.closeStats (s.tick dt)) := congrArg Host.Outcome.next (if_pos hruns)
  refine Does.of_eq he fun t ht => ?_
  have hframe : t.outside [.metr, .bill] = (s.tick dt).outside [.metr, .bill] := by rw [ht]; simp [-State.tick_tags]
  obtain ⟨v, hv, hat⟩ := foldl_range_at (f := State.closeStats)
    (fun t => (t.dch c, t.drd (Reg.METR_CH_CFG c), t.drd (Reg.METR_CH_RMS c))) hc (fun t k hkc => by
      have hcfg : Reg.METR_CH_CFG c ≠ Reg.METR_CH_RMS k := by simp only [Reg.METR_CH_CFG, Reg.METR_CH_RMS]; omega
      have hrms : Reg.METR_CH_RMS c ≠ Reg.METR_CH_RMS k := by simp only [Reg.METR_CH_RMS]; omega
      simp only [State.dch_closeStats_other hkc, State.drd_closeStats_other hcfg, State.drd_closeStats_other hrms]) (s.tick dt)
  simp only [Prod.mk.injEq] at hv hat
  obtain ⟨hd, hcfg, -⟩ := hv
  obtain ⟨htd, -, htr⟩ := hat
  have hvk : v.dKind c = s.dKind c := State.dKind_congr hcfg
  have hvd : v.dch c = s.dch c := hd
  obtain ⟨hstat, hrms⟩ := v.closeStats_used (hvk ▸ hk) (by rw [hvd]; exact hn)
  rw [hvd] at hstat hrms
  rw [← ht, hstat] at htd
  rw [← ht, hrms] at htr
  rw [htd]
  refine ⟨rfl, rfl, rfl, rfl, rfl, htr, fun a ha => ?_, State.die_frame hframe⟩
  rw [ht]
  refine (drd_foldl _ (fun t k hkm => State.drd_closeStats_other fun h => ha ?_) _).trans rfl
  exact List.mem_map.mpr ⟨k, hkm, h.symm⟩

end

end Sys2Proof.Machine

namespace Sys2Proof.Machine

open Sys2Proof

section

set_option Elab.async false

variable {s t u : State}

/-! ### Harmonics (R10, R536) -/

theorem get_foldl_put (l : List Nat) (key : Nat → Nat) (val : Nat → Word) (m : SMap Word) (j : Nat) (hj : ∀ h ∈ l, key h ≠ j) :
    SMap.get (fun _ => 0) (l.foldl (fun x h => SMap.put (fun _ => 0) x (key h) (val h)) m) j = SMap.get (fun _ => 0) m j := by
  induction l generalizing m with
  | nil => rfl
  | cons h l ih =>
    rw [List.foldl_cons, ih _ (fun k hk => hj k (List.mem_cons_of_mem _ hk)), SMap.get_put_other _ _ _ _ _ (hj h (List.mem_cons_self ..))]

theorem get_foldl_put_range (n : Nat) (key : Nat → Nat) (val : Nat → Word) (m : SMap Word) (hkey : ∀ a b, key a = key b → a = b) {h : Nat} (hh : h < n) :
    SMap.get (fun _ => 0) ((List.range n).foldl (fun x h => SMap.put (fun _ => 0) x (key h) (val h)) m) (key h) = val h := by
  induction n with
  | zero => omega
  | succ n ih =>
    rw [List.range_succ, List.foldl_append, List.foldl_cons, List.foldl_nil]
    by_cases he : h = n
    · rw [he, SMap.get_put_same]
    · rw [SMap.get_put_other _ _ _ _ _ fun hk => he (hkey _ _ hk).symm, ih (by omega)]

theorem harmChannel_eq (m : SMap Word) (c thd : Nat) (ws : List Word) : harmChannel m (c, thd, ws) =
    (List.range 128).foldl (fun x h => SMap.put (fun _ => 0) x (c * 256 + h) (ws.getD h 0))
      (SMap.put (fun _ => 0) m (c * 256 + 128) (BitVec.ofNat 32 (thd % 65536 * 65536))) := by
  rw [harmChannel]

theorem get_harmChannel (m : SMap Word) (c thd : Nat) (ws : List Word) :
    (∀ h < 128, SMap.get (fun _ => 0) (harmChannel m (c, thd, ws)) (c * 256 + h) = ws.getD h 0)
    ∧ SMap.get (fun _ => 0) (harmChannel m (c, thd, ws)) (c * 256 + 128) = BitVec.ofNat 32 (thd % 65536 * 65536)
    ∧ ∀ j, c * 256 + 128 < j → SMap.get (fun _ => 0) (harmChannel m (c, thd, ws)) j = SMap.get (fun _ => 0) m j := by
  have hout (j : Nat) (hj : c * 256 + 128 ≤ j) : ∀ h ∈ List.range 128, c * 256 + h ≠ j := fun h hh => by
    have := List.mem_range.mp hh
    omega
  rw [harmChannel_eq]
  generalize hm : SMap.put (fun _ => 0) m (c * 256 + 128) (BitVec.ofNat 32 (thd % 65536 * 65536)) = m'
  refine ⟨fun h hh => ?_, ?_, fun j hj => ?_⟩
  · exact get_foldl_put_range 128 (c * 256 + ·) (ws.getD · 0) m' (fun _ _ h => Nat.add_left_cancel h) hh
  · rw [get_foldl_put _ (c * 256 + ·) (ws.getD · 0) m' _ (hout _ (Nat.le_refl _)), ← hm, SMap.get_put_same]
  · rw [get_foldl_put _ (c * 256 + ·) (ws.getD · 0) m' _ (hout _ (Nat.le_of_lt hj)), ← hm, SMap.get_put_other _ _ _ _ _ (Nat.ne_of_lt hj)]

theorem harmonicWindow_row (dt c thd : Nat) (ws : List Word) (hr : s.dieRuns = true) (hv : hasHarm s.variant = true) (hu : s.metr.harmUsed = true)
    (hc : c < 48) (hk : s.dKind c ≠ 0) :
    Does (.harmonicWindow dt [(c, thd, ws)]) s fun t =>
      (∀ h < 128, SMap.get (fun _ => 0) t.metr.harm (c * 256 + h) = ws.getD h 0)
      ∧ SMap.get (fun _ => 0) t.metr.harm (c * 256 + 128) = BitVec.ofNat 32 (thd % 65536 * 65536)
      ∧ SMap.get (fun _ => 0) t.metr.harm 0x10000 = (SMap.get (fun _ => 0) s.metr.harm 0x10000 + 1) &&& 0xFFFF
      ∧ t = (s.tick dt).setMetr { s.metr with harm := t.metr.harm } := by
  have hc' : ((s.tick dt).dieRuns && hasHarm (s.tick dt).variant && (s.tick dt).metr.harmUsed) = true := by
    have hruns : (s.tick dt).dieRuns = true := hr
    have hvar : hasHarm (s.tick dt).variant = true := hv
    have hused : (s.tick dt).metr.harmUsed = true := hu
    rw [hruns, hvar, hused]; rfl
  have hfilter : [(c, thd, ws)].filter (fun e => decide (e.1 < 48) && (s.tick dt).dKind e.1 != 0) = [(c, thd, ws)] := by
    have hk' : (s.tick dt).dKind c ≠ 0 := hk
    simp [hc, hk']
  have he : exec (.harmonicWindow dt [(c, thd, ws)]) s = .next ((s.tick dt).setMetr { (s.tick dt).metr with
      harm := SMap.put (fun _ => 0) (harmChannel s.metr.harm (c, thd, ws)) 0x10000
        ((SMap.get (fun _ => 0) (harmChannel s.metr.harm (c, thd, ws)) 0x10000 + 1) &&& 0xFFFF) }) := by
    have hharm : (s.tick dt).metr.harm = s.metr.harm := rfl
    simp only [exec, execHarmonicWindow, if_pos hc', hfilter, List.foldl_cons, List.foldl_nil, hharm]
  obtain ⟨hh, hthd, hkeep⟩ := get_harmChannel s.metr.harm c thd ws
  generalize harmChannel s.metr.harm (c, thd, ws) = m at he hh hthd hkeep
  refine Does.of_eq he fun t ht => ?_
  have hm : t.metr.harm = SMap.put (fun _ => 0) m 0x10000 ((SMap.get (fun _ => 0) m 0x10000 + 1) &&& 0xFFFF) := by rw [ht]; rfl
  rw [hm]
  refine ⟨fun h hlt => ?_, ?_, ?_, ht⟩
  · rw [SMap.get_put_other _ _ _ _ _ (by omega), hh h hlt]
  · rw [SMap.get_put_other _ _ _ _ _ (by omega), hthd]
  · rw [SMap.get_put_same, hkeep _ (by omega)]

/-! ### Temperature tables (R528 to R530) -/

/-- Between s and t only the die's channels moved. -/
def ChansOnly (s t : State) : Prop := ∃ m, t = s.setMetr { s.metr with chans := m }

theorem ChansOnly.refl (s : State) : ChansOnly s s := ⟨s.metr.chans, rfl⟩

theorem ChansOnly.trans (h : ChansOnly s t) (h' : ChansOnly t u) : ChansOnly s u := by
  obtain ⟨m, hm⟩ := h
  obtain ⟨m', hm'⟩ := h'
  exact ⟨m', by rw [hm', hm]; rfl⟩

theorem chansOnly_setDch (c : Nat) (v : DieChan) : ChansOnly s (s.setDch c v) := ⟨_, rfl⟩

theorem ChansOnly.drd (h : ChansOnly s t) (a : Nat) : t.drd a = s.drd a := by
  obtain ⟨m, hm⟩ := h
  rw [hm]; rfl

theorem ChansOnly.eq (h : ChansOnly s t) : t = s.setMetr { s.metr with chans := t.metr.chans } := by
  obtain ⟨m, hm⟩ := h
  rw [hm]; rfl

/-- What a source's temperature makes of a channel that it feeds. -/
def State.tempFed (s : State) (temp : Int) (bad : Bool) (c : Nat) : State :=
  (s.setDch c { s.dch c with temp := if bad then (s.dch c).temp else some temp, tempSrc := bad }).tempTake c

theorem chansOnly_tempFed (temp : Int) (bad : Bool) (c : Nat) : ChansOnly s (s.tempFed temp bad c) := by
  rw [State.tempFed]
  generalize hv : s.setDch c { s.dch c with temp := if bad then (s.dch c).temp else some temp, tempSrc := bad } = v
  refine ChansOnly.trans (t := v) (hv ▸ chansOnly_setDch ..) ?_
  rw [State.tempTake]
  split
  · exact .refl _
  · exact chansOnly_setDch ..

theorem State.dch_tempFed_other {c k : Nat} (temp : Int) (bad : Bool) (h : c ≠ k) : (s.tempFed temp bad c).dch k = s.dch k := by
  rw [State.tempFed, State.tempTake]
  split
  · exact State.dch_setDch_other _ h
  · exact (State.dch_setDch_other _ h).trans (State.dch_setDch_other _ h)

theorem State.tempPoints_congr (c : Nat) (h : ∀ a, t.drd a = s.drd a) : t.tempPoints c = s.tempPoints c := by
  simp only [State.tempPoints, h]

theorem State.tempTake_none {c : Nat} (h : (s.dch c).temp = none) : s.tempTake c = s := by
  simp only [State.tempTake, h]

theorem State.tempTake_some {c : Nat} {t0 : Int} (h : (s.dch c).temp = some t0) : s.tempTake c = s.setDch c { s.dch c with
    gT := (tempTable t0 (s.tempPoints c)).1, pT := (tempTable t0 (s.tempPoints c)).2.1, tempRange := (tempTable t0 (s.tempPoints c)).2.2 } := by
  simp only [State.tempTake, h]

theorem State.dch_tempFed (temp t0 : Int) (bad : Bool) (c : Nat) (h0 : (if bad then (s.dch c).temp else some temp) = some t0) :
    (s.tempFed temp bad c).dch c = { s.dch c with
      temp := some t0, tempSrc := bad, gT := (tempTable t0 (s.tempPoints c)).1, pT := (tempTable t0 (s.tempPoints c)).2.1
      tempRange := (tempTable t0 (s.tempPoints c)).2.2 } := by
  rw [State.tempFed, h0]
  generalize hv : s.setDch c { s.dch c with temp := some t0, tempSrc := bad } = v
  have hd : v.dch c = { s.dch c with temp := some t0, tempSrc := bad } := by rw [← hv, State.dch_setDch_same]
  have hp : v.tempPoints c = s.tempPoints c := State.tempPoints_congr c fun a => by rw [← hv, State.drd_setDch]
  have ht : (v.dch c).temp = some t0 := by rw [hd]
  rw [State.tempTake_some ht, State.dch_setDch_same, hp, hd]

theorem State.dch_tempFed_none (temp : Int) (c : Nat) (h0 : (s.dch c).temp = none) :
    (s.tempFed temp true c).dch c = { s.dch c with tempSrc := true } := by
  rw [State.tempFed]
  generalize hv : s.setDch c { s.dch c with temp := if true then (s.dch c).temp else some temp, tempSrc := true } = v
  have hd : v.dch c = { s.dch c with tempSrc := true } := by rw [← hv, State.dch_setDch_same, h0]; simp [← h0]
  have ht : (v.dch c).temp = none := by rw [hd, h0]
  rw [State.tempTake_none ht, hd]

theorem chansOnly_tempFeed (k : Nat) (temp : Int) (bad : Bool) : ChansOnly s (s.tempFeed k temp bad) := by
  have hfold (l : List Nat) (v : State) : ChansOnly v (l.foldl (fun st c => st.tempFed temp bad c) v) := by
    induction l generalizing v with
    | nil => exact .refl v
    | cons c l ih => exact (chansOnly_tempFed temp bad c).trans (ih _)
  exact hfold _ s

/-- A channel fed by a source takes its temperature once, with its own values and its table as they stood. -/
theorem State.tempFeed_at (k : Nat) (temp : Int) (bad : Bool) {c : Nat} (hc : c < 48) (hk : s.dKind c ≠ 0) (hs : s.tempSource c = k) :
    ∃ v : State, v.dch c = s.dch c ∧ (∀ a, v.drd a = s.drd a) ∧ (s.tempFeed k temp bad).dch c = (v.tempFed temp bad c).dch c := by
  have hfold : s.tempFeed k temp bad = (List.range 48).foldl (fun st c =>
      if s.dKind c != 0 && s.tempSource c == k then st.tempFed temp bad c else st) s := List.foldl_filter ..
  obtain ⟨v, hv, he⟩ := foldl_range_at (f := fun st c => if s.dKind c != 0 && s.tempSource c == k then State.tempFed st temp bad c else st)
    (fun v => (v.dch c, v.bill.mem)) hc (fun v j hj => by
      obtain ⟨m, hm⟩ := chansOnly_tempFed (s := v) temp bad j
      split
      · exact Prod.ext (State.dch_tempFed_other _ _ hj) (by rw [hm]; rfl)
      · rfl) s
  obtain ⟨hd, hm⟩ := Prod.mk.inj hv
  have hfed : (s.dKind c != 0 && s.tempSource c == k) = true := by simp [hk, hs]
  refine ⟨v, hd, fun a => congrArg (fun m : DieMem => SMap.get regReset m.regs a) hm, ?_⟩
  rw [if_pos hfed] at he
  rw [hfold]
  exact congrArg Prod.fst he

/-- The channel that is source src (R529). -/
def State.source (s : State) (src : Nat) : DieChan := s.dch (src - 1)

/-- A TEMP channel's values are out of range, or it is OPEN (R530). -/
def State.sourceBad (s : State) (src : Nat) : Bool :=
  (s.source src).opened || decide ((s.source src).temperature < -500) || decide (2000 < (s.source src).temperature)

/-- The state as a TEMP channel's 3,200 samples are taken. -/
def State.sourceTaken (s : State) (src : Nat) : State :=
  s.setDch (src - 1) { s.source src with tN := 0, tSum := 0, tempSrc := s.sourceBad src }

theorem exec_tempDie (dt : Nat) (temp : Int) (hr : s.dieRuns = true) : exec (.tempTableUpdate dt 0 temp) s =
    .next ((s.tick dt).tempFeed 0 temp false) := by
  have hruns : (s.tick dt).dieRuns = true := hr
  simp [exec, execTempTableUpdate, hruns, -State.tick_tags]

theorem exec_tempChannel (dt src : Nat) (temp : Int) (h0 : 0 < src) (h49 : src < 49) (hr : s.dieRuns = true) (hn : 3200 ≤ (s.source src).tN) :
    exec (.tempTableUpdate dt src temp) s =
      .next ((if s.sourceBad src && !(s.source src).tempSrc then ((s.tick dt).sourceTaken src).dieEvent Ev.METR_TEMP_SRC (evArg (src - 1) 0 0)
        else (s.tick dt).sourceTaken src).tempFeed src (s.source src).temperature (s.sourceBad src)) := by
  have hruns : ¬((s.tick dt).dieRuns = false ∨ src ≠ 0 ∧ ((s.tick dt).dch (src - 1)).tN < 3200) := fun h =>
    h.elim (fun h => Bool.false_ne_true (h.symm.trans hr)) fun h => absurd h.2 (Nat.not_lt.mpr hn)
  have hne : src ≠ 0 := Nat.ne_of_gt h0
  have hbad : (src != 0 && (((s.tick dt).dch (src - 1)).opened || decide (((s.tick dt).dch (src - 1)).temperature < -500)
      || decide (2000 < ((s.tick dt).dch (src - 1)).temperature))) = s.sourceBad src := by
    rw [bne_iff_ne.mpr hne]; rfl
  simp only [exec, execTempTableUpdate, Nat.mod_eq_of_lt h49, if_neg hruns, if_neg hne, hbad]
  rfl

theorem tempValid_row (dt src : Nat) (temp : Int) (c : Nat) (h49 : src < 49) (hr : s.dieRuns = true) (hc : c < 48) (hk : s.dKind c ≠ 0)
    (hs : s.tempSource c = src)
    (hv : src = 0 ∨ 3200 ≤ (s.dch (src - 1)).tN ∧ (s.dch (src - 1)).opened = false ∧ (s.dch (src - 1)).temperature = temp ∧ -500 ≤ temp ∧ temp ≤ 2000) :
    Does (.tempTableUpdate dt src temp) s fun t =>
      (t.dch c).gT = (tempTable temp (s.tempPoints c)).1 ∧ (t.dch c).pT = (tempTable temp (s.tempPoints c)).2.1
      ∧ (t.dch c).tempRange = (tempTable temp (s.tempPoints c)).2.2 ∧ (t.dch c).temp = some temp ∧ (t.dch c).tempSrc = false
      ∧ t = (s.tick dt).setMetr { s.metr with chans := t.metr.chans } := by
  have hfeed : ∃ u, ChansOnly (s.tick dt) u ∧ exec (.tempTableUpdate dt src temp) s = .next (u.tempFeed src temp false) := by
    by_cases h0 : src = 0
    · rw [h0]
      exact ⟨_, .refl _, exec_tempDie dt temp hr⟩
    · obtain ⟨hn, ho, ht, hlo, hhi⟩ := hv.resolve_left h0
      have hgood : s.sourceBad src = false := by
        have hlo' : ¬temp < -500 := by omega
        have hhi' : ¬2000 < temp := by omega
        rw [State.sourceBad, State.source, ho, ht, decide_eq_false hlo', decide_eq_false hhi']; rfl
      have he := exec_tempChannel (s := s) dt src temp (by omega) h49 hr hn
      rw [hgood, Bool.false_and, if_neg Bool.false_ne_true, show (s.source src).temperature = temp from ht] at he
      exact ⟨_, chansOnly_setDch .., he⟩
  obtain ⟨u, hu, he⟩ := hfeed
  have hur (a : Nat) : u.drd a = s.drd a := hu.drd a
  refine Does.of_eq he fun t ht => ?_
  have hku : u.dKind c ≠ 0 := State.dKind_congr (hur (Reg.METR_CH_CFG c)) ▸ hk
  have hsu : u.tempSource c = src := by rw [State.tempSource, State.dfld, State.dfld, hur, ← hs, State.tempSource, State.dfld, State.dfld]
  obtain ⟨v, -, hvr, hd⟩ := u.tempFeed_at src temp false hc hku hsu
  rw [State.dch_tempFed temp temp false c rfl, State.tempPoints_congr c fun a => (hvr a).trans (hur a), ← ht] at hd
  rw [hd]
  exact ⟨rfl, rfl, rfl, rfl, rfl, (hu.trans (ht ▸ chansOnly_tempFeed ..)).eq⟩

theorem tempInvalid_row (dt src : Nat) (temp : Int) (c : Nat) (h0 : 0 < src) (h49 : src < 49) (hr : s.dieRuns = true) (hc : c < 48)
    (hk : s.dKind c ≠ 0) (hs : s.tempSource c = src) (hn : 3200 ≤ (s.dch (src - 1)).tN)
    (hb : (s.dch (src - 1)).opened = true ∨ 2000 < (s.dch (src - 1)).temperature) (hg : (s.dch (src - 1)).tempSrc = false) :
    Does (.tempTableUpdate dt src temp) s fun t =>
      (∀ t0, (s.dch c).temp = some t0 → (t.dch c).gT = (tempTable t0 (s.tempPoints c)).1 ∧ (t.dch c).pT = (tempTable t0 (s.tempPoints c)).2.1)
      ∧ ((s.dch c).temp = none → (t.dch c).gT = (s.dch c).gT ∧ (t.dch c).pT = (s.dch c).pT)
      ∧ (t.dch c).temp = (s.dch c).temp ∧ (t.dch c).tempSrc = true ∧ DieTold Ev.METR_TEMP_SRC (evArg (src - 1) 0 0) t
      ∧ t = (s.tick dt).setMetr { s.metr with chans := t.metr.chans, events := t.metr.events } := by
  have hbad : s.sourceBad src = true := by
    rw [State.sourceBad, State.source]
    obtain ho | hhi := hb
    · rw [ho, Bool.true_or, Bool.true_or]
    · rw [decide_eq_true hhi, Bool.or_true]
  have he := exec_tempChannel (s := s) dt src temp h0 h49 hr hn
  rw [hbad, Bool.true_and, show (s.source src).tempSrc = false from hg, if_pos (by rfl)] at he
  generalize hu : ((s.tick dt).sourceTaken src).dieEvent Ev.METR_TEMP_SRC (evArg (src - 1) 0 0) = u at he
  have hur (a : Nat) : u.drd a = s.drd a := by rw [← hu]; rfl
  have hut : DieTold Ev.METR_TEMP_SRC (evArg (src - 1) 0 0) u := by rw [← hu]; exact dieTold_dieEvent ..
  have hud : (u.dch c).temp = (s.dch c).temp ∧ (u.dch c).gT = (s.dch c).gT ∧ (u.dch c).pT = (s.dch c).pT := by
    rw [← hu, State.dch_dieEvent, State.sourceTaken, State.dch_setDch]
    split
    · next hc => rw [← hc]; exact ⟨rfl, rfl, rfl⟩
    · exact ⟨rfl, rfl, rfl⟩
  obtain ⟨htemp, hgT, hpT⟩ := hud
  refine Does.of_eq he fun t ht => ?_
  have hku : u.dKind c ≠ 0 := State.dKind_congr (hur (Reg.METR_CH_CFG c)) ▸ hk
  have hsu : u.tempSource c = src := by rw [State.tempSource, State.dfld, State.dfld, hur, ← hs, State.tempSource, State.dfld, State.dfld]
  obtain ⟨v, hvd, hvr, hd⟩ := u.tempFeed_at src (s.source src).temperature true hc hku hsu
  have hvt : (v.dch c).temp = (s.dch c).temp := by rw [hvd, htemp]
  obtain ⟨m, hm⟩ := chansOnly_tempFeed (s := u) src (s.source src).temperature true
  have hsome (t0 : Int) (h : (s.dch c).temp = some t0) : t.dch c = { v.dch c with
      temp := some t0, tempSrc := true, gT := (tempTable t0 (s.tempPoints c)).1, pT := (tempTable t0 (s.tempPoints c)).2.1
      tempRange := (tempTable t0 (s.tempPoints c)).2.2 } := by
    rw [ht, hd, State.dch_tempFed _ t0 true c (hvt.trans h), State.tempPoints_congr c fun a => (hvr a).trans (hur a)]
  have hnone (h : (s.dch c).temp = none) : t.dch c = { v.dch c with tempSrc := true } := by
    rw [ht, hd, State.dch_tempFed_none _ c (hvt.trans h)]
  have hend : t = (s.tick dt).setMetr { s.metr with chans := t.metr.chans, events := t.metr.events } := by
    rw [ht, hm, ← hu]; rfl
  refine ⟨fun t0 h => ?_, fun h => ?_, ?_, ?_, ?_, hend⟩
  · rw [hsome t0 h]; exact ⟨rfl, rfl⟩
  · rw [hnone h, hvd]; exact ⟨hgT, hpT⟩
  · cases h : (s.dch c).temp with
    | none => rw [hnone h, ← h]; exact hvt
    | some t0 => rw [hsome t0 h]
  · cases h : (s.dch c).temp with
    | none => rw [hnone h]
    | some t0 => rw [hsome t0 h]
  · rw [ht, hm]; exact hut

/-! ### Polarity (R542) -/

/-- How long a channel's polarity condition lasts before it is latched. -/
def State.polarityTime (s : State) (c : Nat) : Nat :=
  if 8 ≤ s.dfld (Reg.METR_CH_CFG c) Fld.METR_CH_CFG_GROUP ∧ s.dfld (Reg.METR_CH_CFG c) Fld.METR_CH_CFG_ROLE = 1 then Config.sec 1
  else Config.sec 10

/-- A channel's latched polarity condition, logged and told. -/
def State.polarityTold (s : State) (c g : Nat) : State :=
  ((s.setDch c { s.dch c with pol := true }).tamper 2 g).dieEvent Ev.METR_POLARITY (evArg c 0 0)

/-- The open session of a point notes the polarity. -/
def State.polarityNoted (s : State) (g : Nat) : State :=
  if g ≠ 0 ∧ (s.sacc (g - 1)).on then s.setSacc (g - 1) { s.sacc (g - 1) with flags := (s.sacc (g - 1)).flags ||| 0x80 } else s

theorem State.polarityNoted_facts (g : Nat) : (s.polarityNoted g).metr = s.metr ∧ (∀ a, (s.polarityNoted g).drd a = s.drd a)
    ∧ (s.polarityNoted g).dieTs = s.dieTs := by
  rw [State.polarityNoted]
  split
  · exact ⟨rfl, fun _ => rfl, rfl⟩
  · exact ⟨rfl, fun _ => rfl, rfl⟩

theorem exec_polarityDetect (dt c g : Nat) (hc : c < 48) (hr : s.dieRuns = true) (hp : s.pointOf c = some g) (hn : (s.dch c).pol = false)
    (hl : (s.tick dt).dieLasted (s.dch c).polAt (s.polarityTime c) = true) :
    exec (.polarityDetect dt c) s = .next (((s.tick dt).polarityTold c g).polarityNoted g) := by
  have hp' : (s.tick dt).pointOf c = some g := hp
  have hcond : (s.tick dt).dieRuns = true ∧ ((s.tick dt).dch c).pol = false
      ∧ (s.tick dt).dieLasted ((s.tick dt).dch c).polAt ((s.tick dt).polarityTime c) = true := ⟨hr, hn, hl⟩
  simp only [exec, execPolarityDetect, Nat.mod_eq_of_lt hc, hp']
  exact if_pos hcond

theorem polarityDetect_row (dt c g : Nat) (hc : c < 48) (hr : s.dieRuns = true) (hp : s.pointOf c = some g) (hn : (s.dch c).pol = false)
    (hl : (s.tick dt).dieLasted (s.dch c).polAt (s.polarityTime c) = true) :
    Does (.polarityDetect dt c) s fun t =>
      (t.dch c).pol = true ∧ Tampered 2 s t ∧ DieTold Ev.METR_POLARITY (evArg c 0 0) t ∧ DieRegsBut (tamperRegs 2) s t
      ∧ Silent s t ∧ RegsBut [] s t ∧ t = { s.tick dt with metr := t.metr, bill := t.bill } := by
  refine Does.of_eq (exec_polarityDetect dt c g hc hr hp hn hl) fun t ht => ?_
  have hframe : t.outside [.metr, .bill] = (s.tick dt).outside [.metr, .bill] := by
    rw [ht, State.polarityNoted, State.polarityTold]
    split
    · simp [-State.tick_tags]
    · simp [-State.tick_tags]
  obtain ⟨hm, hreg, hts⟩ := ((s.tick dt).polarityTold c g).polarityNoted_facts g
  rw [← ht] at hm hreg hts
  have hd : t.dch c = ((s.tick dt).polarityTold c g).dch c := by rw [State.dch, hm, State.dch]
  generalize hv : (s.tick dt).setDch c { (s.tick dt).dch c with pol := true } = v
  have hvr (a : Nat) : v.drd a = s.drd a := by rw [← hv]; rfl
  have htold : (s.tick dt).polarityTold c g = (v.tamper 2 g).dieEvent Ev.METR_POLARITY (evArg c 0 0) := by rw [← hv, State.polarityTold]
  rw [htold] at hd hm hreg hts
  refine ⟨?_, ?_, ?_, fun a ha => ?_, State.die_frame hframe⟩
  · rw [hd, State.dch_dieEvent, State.dch_tamper, ← hv, State.dch_setDch_same]
  · exact (tampered_tamper (s := v) 2 g).congr (fun a => (hvr a).symm) (fun a => by rw [hreg, State.drd_dieEvent])
      (by rw [hts, State.dieTs_dieEvent])
  · rw [DieTold, hm]; exact dieTold_dieEvent ..
  · rw [hreg, State.drd_dieEvent, State.drd_tamper_other _ _ ha, hvr]

end

/-- Settles O39, row by row. -/
theorem measurementRows : Obligations.MeasurementRows :=
  ⟨fun _ dt codes c hr hmap hrws hstep hc h0 h4 => sampleInstant_row dt codes c hr hmap hrws hstep hc h0 h4,
    fun _ dt codes n hn hr hmap hrws htk hp ht _ hmc => sampleEnergy_row dt codes n hn hr hmap hrws htk hp ht hmc,
    fun _ dt codes hon hsl => sampleAsleep_row dt codes hon hsl,
    fun _ dt moved c hr hc hk hm => biasFails_row dt moved c hr hc hk hm,
    fun _ dt moved c hr hc hk hm => biasPasses_row dt moved c hr hc hk hm,
    fun _ dt n held hn hr hk hh ho => remoteOpen_row dt n held hn hr hk hh ho,
    fun _ dt n held hn hr hk hh => remoteMoves_row dt n held hn hr hk hh,
    fun _ dt freq hr hp hs => gridCycle_row dt freq hr hp hs,
    fun _ dt c hr hc hk hn => channelStats_row dt c hr hc hk hn,
    fun _ dt c thd ws hr hv hu hc hk => harmonicWindow_row dt c thd ws hr hv hu hc hk,
    fun _ dt src temp c h49 hr hc hk hs hv => tempValid_row dt src temp c h49 hr hc hk hs hv,
    fun _ dt src temp c h0 h49 hr hc hk hs hn hb hg => tempInvalid_row dt src temp c h0 h49 hr hc hk hs hn hb hg,
    fun _ dt c g hc hr hp hn hl => polarityDetect_row dt c g hc hr hp hn hl⟩

end Sys2Proof.Machine

namespace Sys2Proof.Machine

open Sys2Proof

section

set_option Elab.async false

variable {s t u : State}

/-! ### SAFE_CTRL: channels out of FAULT, and the commissioned value (R490, R516) -/

theorem State.eq_regs_ev_safe_recent (h : t.outside [.regs, .ev, .safe, .recent] = u.outside [.regs, .ev, .safe, .recent]) :
    t = { u with regs := t.regs, ev := t.ev, safe := t.safe, recent := t.recent } := State.eq_patch h

theorem State.eq_ev (h : t.outside [.ev] = u.outside [.ev]) : t = { u with ev := t.ev } := State.eq_patch h

theorem fget_bit_clear {i : Nat} {w : Word} (h : w.getLsbD i = false) : fget ⟨i, 1⟩ w = 0 := by
  have hb : (fget ⟨i, 1⟩ w).testBit 0 = false := by rw [fget_bit]; simpa using h
  have hlt : fget ⟨i, 1⟩ w < 2 := fget_lt ⟨i, 1⟩ w
  have hne : fget ⟨i, 1⟩ w ≠ 1 := fun e => by rw [e] at hb; exact absurd hb (by decide)
  omega

/-- A channel leaves FAULT. -/
def State.chRecovered (s : State) (x : Side) : State :=
  if s.chState x = 4 then (s.setCh x 2).setChan x { s.chan x with differ := 0, missing := 0 } else s

theorem State.chState_setCh (x y : Side) (v : Nat) (h : v < 16) : (s.setCh x v).chState y = if x = y then v else s.chState y := by
  rw [State.setCh, State.chState]
  split
  · next hxy =>
    subst hxy
    cases x
    · exact (State.fld_setF_same _ _ _ _ (by decide)).trans (Nat.mod_eq_of_lt h)
    · exact (State.fld_setF_same _ _ _ _ (by decide)).trans (Nat.mod_eq_of_lt h)
  · next hxy =>
    cases x <;> cases y
    · exact absurd rfl hxy
    · exact State.fld_setF_field _ _ _ _ _ (by decide) (by decide)
    · exact State.fld_setF_field _ _ _ _ _ (by decide) (by decide)
    · exact absurd rfl hxy

theorem State.chState_chRecovered (x y : Side) :
    (s.chRecovered x).chState y = if x = y ∧ s.chState y = 4 then 2 else s.chState y := by
  rw [State.chRecovered]
  split
  · next h4 =>
    have hset : ((s.setCh x 2).setChan x { s.chan x with differ := 0, missing := 0 }).chState y = (s.setCh x 2).chState y := rfl
    rw [hset, State.chState_setCh _ _ _ (by decide)]
    by_cases hxy : x = y
    · subst hxy; rw [if_pos rfl, if_pos ⟨rfl, h4⟩]
    · rw [if_neg hxy, if_neg fun h : x = y ∧ s.chState y = 4 => hxy h.1]
  · next h4 => rw [if_neg fun h : x = y ∧ s.chState y = 4 => h4 (h.1 ▸ h.2)]

theorem State.rd_chRecovered (x : Side) {a : Nat} (h : a ≠ Reg.SAFE_STAT) : (s.chRecovered x).rd a = s.rd a := by
  rw [State.chRecovered]
  split
  · exact State.rd_setF_other _ _ _ _ _ h.symm
  · rfl

theorem State.resetFault_eq (h : ∀ x ∈ [Side.a, Side.b], 100 ≤ (s.chan x).agree) : s.resetFault = (s.chRecovered .a).chRecovered .b := by
  have hall : ([Side.a, Side.b].all fun x => decide (100 ≤ (s.chan x).agree)) = true :=
    List.all_eq_true.mpr fun x hx => decide_eq_true (h x hx)
  rw [State.resetFault, if_pos hall]
  rfl

theorem exec_safeCtrl (dt : Nat) (acc : Access) (val : Word) (h : Admitted s acc Reg.SAFE_CTRL .safe) :
    exec (.resetFault dt acc val) s = exec (.reopen dt acc val) s ∧ exec (.reopen dt acc val) s = .next
      (if fget Fld.SAFE_CTRL_REOPEN val = 1 then (if fget Fld.SAFE_CTRL_RESET_FAULT val = 1 then (s.tick dt).resetFault else s.tick dt).reopen
       else if fget Fld.SAFE_CTRL_RESET_FAULT val = 1 then (s.tick dt).resetFault else s.tick dt) := by
  refine ⟨rfl, ?_⟩
  simp only [exec, execReopen, State.safeCtrlWrite, State.command_of_admitted _ _ _ _ _ _ h]

theorem exec_resetFault (dt : Nat) (acc : Access) (val : Word) (h : Admitted s acc Reg.SAFE_CTRL .safe) (h1 : val.getLsbD 1 = true)
    (h0 : val.getLsbD 0 = false) : exec (.resetFault dt acc val) s = .next (s.tick dt).resetFault := by
  have hr : fget Fld.SAFE_CTRL_RESET_FAULT val = 1 := fget_bit_of_getLsbD h1
  have ho : ¬fget Fld.SAFE_CTRL_REOPEN val = 1 := by rw [show fget Fld.SAFE_CTRL_REOPEN val = 0 from fget_bit_clear h0]; decide
  obtain ⟨hsame, he⟩ := exec_safeCtrl dt acc val h
  rw [hsame, he, if_neg ho, if_pos hr]

theorem exec_reopen (dt : Nat) (acc : Access) (val : Word) (h : Admitted s acc Reg.SAFE_CTRL .safe) (h0 : val.getLsbD 0 = true)
    (h1 : val.getLsbD 1 = false) : exec (.reopen dt acc val) s = .next (s.tick dt).reopen := by
  have ho : fget Fld.SAFE_CTRL_REOPEN val = 1 := fget_bit_of_getLsbD h0
  have hr : ¬fget Fld.SAFE_CTRL_RESET_FAULT val = 1 := by rw [show fget Fld.SAFE_CTRL_RESET_FAULT val = 0 from fget_bit_clear h1]; decide
  obtain ⟨-, he⟩ := exec_safeCtrl dt acc val h
  rw [he, if_pos ho, if_neg hr]

theorem resetFault_row (dt : Nat) (acc : Access) (val : Word) (h : Admitted s acc Reg.SAFE_CTRL .safe) (h1 : val.getLsbD 1 = true)
    (h0 : val.getLsbD 0 = false) (hagree : ∀ x ∈ [Side.a, Side.b], 100 ≤ (s.chan x).agree) :
    Does (.resetFault dt acc val) s fun t =>
      (∀ x ∈ [Side.a, Side.b], t.chState x = if s.chState x = 4 then 2 else s.chState x) ∧ Silent s t ∧ RegsBut [Reg.SAFE_STAT] s t
      ∧ t = { s.tick dt with regs := t.regs, ev := t.ev, safe := t.safe, recent := t.recent } := by
  refine Does.of_eq (exec_resetFault dt acc val h h1 h0) fun t ht => ?_
  rw [(s.tick dt).resetFault_eq hagree] at ht
  have hev : ∀ v : State, ∀ x, (v.chRecovered x).ev = v.ev := fun v x => by
    rw [State.chRecovered]
    split <;> rfl
  have hch (x : Side) : (s.tick dt).chState x = s.chState x := State.fld_tick ..
  refine ⟨fun x _ => ?_, ?_, fun a ha => ?_, State.eq_regs_ev_safe_recent ?_⟩
  · rw [ht, State.chState_chRecovered, State.chState_chRecovered, hch]
    cases x <;> simp
  · rw [Silent, ht, hev, hev]; rfl
  · have ha' : a ≠ Reg.SAFE_STAT := by simpa using ha
    rw [ht, State.rd_chRecovered _ ha', State.rd_chRecovered _ ha', State.rd_tick]
  · have hout (v : State) (x : Side) : (v.chRecovered x).outside [.regs, .ev, .safe, .recent] = v.outside [.regs, .ev, .safe, .recent] := by
      rw [State.chRecovered]
      split
      · simp
      · rfl
    rw [ht, hout, hout]

theorem resetFaultWaits_row (dt : Nat) (acc : Access) (val : Word) (x : Side) (h : Admitted s acc Reg.SAFE_CTRL .safe) (h1 : val.getLsbD 1 = true)
    (h0 : val.getLsbD 0 = false) (hx : (s.chan x).agree < 100) : Does (.resetFault dt acc val) s fun t => t = s.tick dt := by
  have hall : ¬([Side.a, Side.b].all fun x => decide (100 ≤ ((s.tick dt).chan x).agree)) = true := fun hall =>
    absurd (of_decide_eq_true (List.all_eq_true.mp hall x (by cases x <;> simp))) (Nat.not_le.mpr hx)
  have hs : (s.tick dt).resetFault = s.tick dt := if_neg hall
  exact Does.of_eq (exec_resetFault dt acc val h h1 h0) fun t ht => ht.trans hs

/-! ### REOPEN -/

theorem fold_setF_const (f : Field) (v : Nat) (hf : f.lo + f.width ≤ 32) (l : List Nat) (s : State) :
    (∀ a g, g.lo + g.width ≤ 32 → (g.lo + g.width ≤ f.lo ∨ f.lo + f.width ≤ g.lo) →
        (l.foldl (fun st r => st.setF r f v) s).fld a g = s.fld a g)
    ∧ (∀ a ∈ l, (l.foldl (fun st r => st.setF r f v) s).fld a f = v % 2 ^ f.width)
    ∧ (∀ a, a ∉ l → (l.foldl (fun st r => st.setF r f v) s).rd a = s.rd a) := by
  induction l using List.reverseRecOn with
  | nil => exact ⟨fun _ _ _ _ => rfl, fun _ h => absurd h List.not_mem_nil, fun _ _ => rfl⟩
  | append_singleton l r ih =>
    obtain ⟨hfield, hval, hrd⟩ := ih
    rw [List.foldl_append, List.foldl_cons, List.foldl_nil]
    generalize l.foldl (fun st r => st.setF r f v) s = w at hfield hval hrd
    refine ⟨fun a g hg hd => ?_, fun a ha => ?_, fun a ha => ?_⟩
    · by_cases h : r = a
      · subst h; rw [State.fld_setF_field _ _ _ _ _ hg hd, hfield _ _ hg hd]
      · rw [State.fld_setF_other _ _ _ _ _ _ h, hfield _ _ hg hd]
    · by_cases h : r = a
      · subst h; exact State.fld_setF_same _ _ _ _ hf
      · rw [State.fld_setF_other _ _ _ _ _ _ h]
        exact hval a ((List.mem_append.mp ha).resolve_right fun hr => h (List.mem_singleton.mp hr).symm)
    · rw [List.mem_append, List.mem_singleton, not_or] at ha
      rw [State.rd_setF_other _ _ _ _ _ (Ne.symm ha.2), hrd a ha.1]

/-- The registers of the running channels' axes. -/
def State.axRegs (s : State) : List Nat := s.channels.flatMap fun x => s.axisList.map fun a => sideAddr x (Reg.SAFE_AX_STAT a)

/-- The axes of the running channels take the cause of an open configuration. -/
def State.axesUnconf (s : State) : State := s.axRegs.foldl (fun st r => st.setF r Fld.SAFE_AX_STAT_CAUSE 0xE) s

theorem State.axesUnconf_eq :
    s.channels.foldl (fun st x => st.axisList.foldl (fun t a => t.setAxF x a Fld.SAFE_AX_STAT_CAUSE 0xE) st) s = s.axesUnconf := by
  have haxes (l : List Side) (w : State) (hw : w.variant = s.variant) :
      l.foldl (fun st x => st.axisList.foldl (fun t a => t.setAxF x a Fld.SAFE_AX_STAT_CAUSE 0xE) st) w
        = (l.flatMap fun x => s.axisList.map fun a => sideAddr x (Reg.SAFE_AX_STAT a)).foldl (fun st r => st.setF r Fld.SAFE_AX_STAT_CAUSE 0xE) w := by
    induction l generalizing w with
    | nil => rfl
    | cons x l ih =>
      have hlist : w.axisList = s.axisList := by rw [State.axisList, hw, State.axisList]
      have hmap : w.axisList.foldl (fun t a => t.setAxF x a Fld.SAFE_AX_STAT_CAUSE 0xE) w
          = (s.axisList.map fun a => sideAddr x (Reg.SAFE_AX_STAT a)).foldl (fun st r => st.setF r Fld.SAFE_AX_STAT_CAUSE 0xE) w := by
        rw [hlist, List.foldl_map]; rfl
      rw [List.foldl_cons, List.flatMap_cons, List.foldl_append, hmap]
      refine ih _ ?_
      exact (State.variant_of_outside (by simp)).trans hw
  exact haxes s.channels s rfl

end

end Sys2Proof.Machine

namespace Sys2Proof.Machine

open Sys2Proof

section

set_option Elab.async false

variable {s t u : State}

/-! ### REOPEN (R516) -/

theorem axesOf_le (v : Nat) : axesOf v ≤ 2 := by
  unfold axesOf cap0
  split <;> decide

theorem State.mem_channels {x : Side} : x ∈ s.channels ↔ s.chState x ≠ 0 := by
  cases x <;> simp [State.channels]

/-- The state with a commissioned value, told as confirmed or open. -/
def State.commissionedAs (s : State) (o : Option Word) (w : Word) (confirmed unconf : Nat) : State :=
  (({ s with safe := { s.safe with commissioned := o } }.wr Reg.SAFE_CHECK_COMM w).setF Reg.SAFE_STAT Fld.SAFE_STAT_CONFIRMED confirmed).setF
    Reg.IMG_STAT Fld.IMG_STAT_SAFETY_UNCONF unconf

theorem State.rd_commissionedAs (o : Option Word) (w : Word) (c n : Nat) {a : Nat} (hcomm : a ≠ Reg.SAFE_CHECK_COMM) (hstat : a ≠ Reg.SAFE_STAT)
    (himg : a ≠ Reg.IMG_STAT) : (s.commissionedAs o w c n).rd a = s.rd a := by
  rw [State.commissionedAs, State.rd_setF_other _ _ _ _ _ (Ne.symm himg), State.rd_setF_other _ _ _ _ _ (Ne.symm hstat), State.rd_wr, if_neg hcomm]
  rfl

theorem State.commissionedAs_facts (o : Option Word) (w : Word) (c n : Nat) : (s.commissionedAs o w c n).rd Reg.SAFE_CHECK_COMM = w
    ∧ (s.commissionedAs o w c n).fld Reg.SAFE_STAT Fld.SAFE_STAT_CONFIRMED = c % 2
    ∧ (s.commissionedAs o w c n).fld Reg.IMG_STAT Fld.IMG_STAT_SAFETY_UNCONF = n % 2
    ∧ ∀ x, (s.commissionedAs o w c n).chState x = s.chState x := by
  refine ⟨?_, ?_, ?_, fun x => ?_⟩
  · rw [State.commissionedAs, State.rd_setF_other _ _ _ _ _ (by decide), State.rd_setF_other _ _ _ _ _ (by decide), State.rd_wr, if_pos rfl]
  · rw [State.commissionedAs, State.fld_setF_other _ _ _ _ _ _ (by decide), State.fld_setF_same _ _ _ _ (by decide)]; rfl
  · rw [State.commissionedAs, State.fld_setF_same _ _ _ _ (by decide)]; rfl
  · have hd : (chField x).lo + (chField x).width ≤ 32
        ∧ ((chField x).lo + (chField x).width ≤ Fld.SAFE_STAT_CONFIRMED.lo
          ∨ Fld.SAFE_STAT_CONFIRMED.lo + Fld.SAFE_STAT_CONFIRMED.width ≤ (chField x).lo) := by
      cases x <;> decide
    rw [State.chState, State.commissionedAs, State.fld_setF_other _ _ _ _ _ _ (by decide), State.fld_setF_field _ _ _ _ _ hd.1 hd.2,
      State.fld_wr_other _ _ _ _ _ (by decide)]
    rfl

theorem State.commissioned_commissionedAs (o : Option Word) (w : Word) (c n : Nat) :
    (s.commissionedAs o w c n).safe.commissioned = o := rfl

theorem State.reopen_off (h : s.axesOff = true) : s.reopen = (s.commissionedAs none 0 0 1).axesUnconf := by
  rw [State.reopen, if_pos h, ← State.axesUnconf_eq]
  rfl

theorem sideAddr_axStat (x : Side) (a : Nat) : sideAddr x (Reg.SAFE_AX_STAT a) ≠ Reg.SAFE_CHECK_COMM
    ∧ sideAddr x (Reg.SAFE_AX_STAT a) ≠ Reg.SAFE_STAT ∧ sideAddr x (Reg.SAFE_AX_STAT a) ≠ Reg.IMG_STAT := by
  simp only [sideAddr, Reg.SAFE_AX_STAT, Reg.SAFE_CHECK_COMM, Reg.SAFE_STAT, Reg.IMG_STAT]
  omega

theorem State.mem_axRegs {a : Nat} : a ∈ s.axRegs ↔ ∃ x, s.chState x ≠ 0 ∧ ∃ k < axesOf s.variant, sideAddr x (Reg.SAFE_AX_STAT k) = a := by
  simp only [State.axRegs, List.mem_flatMap, List.mem_map, State.mem_channels, State.axisList, List.mem_range]

theorem State.rd_axesUnconf {a : Nat} (h : a ∉ s.axRegs) : s.axesUnconf.rd a = s.rd a :=
  (fold_setF_const Fld.SAFE_AX_STAT_CAUSE 0xE (by decide) s.axRegs s).2.2 a h

theorem State.fld_axesUnconf (a : Nat) (g : Field) (hg : g.lo + g.width ≤ 32)
    (hd : g.lo + g.width ≤ Fld.SAFE_AX_STAT_CAUSE.lo ∨ Fld.SAFE_AX_STAT_CAUSE.lo + Fld.SAFE_AX_STAT_CAUSE.width ≤ g.lo) :
    s.axesUnconf.fld a g = s.fld a g :=
  (fold_setF_const Fld.SAFE_AX_STAT_CAUSE 0xE (by decide) s.axRegs s).1 a g hg hd

theorem axRegs_subset {a : Nat} (h : a ∈ s.axRegs) : a ∈ axisRegs := by
  obtain ⟨x, -, k, hk, rfl⟩ := State.mem_axRegs.mp h
  have hk2 : k < 2 := Nat.lt_of_lt_of_le hk (axesOf_le _)
  refine List.mem_cons_of_mem _ (List.mem_flatMap.mpr ⟨x, by cases x <;> simp, List.mem_append_right _ ?_⟩)
  exact List.mem_flatMap.mpr ⟨k, List.mem_range.mpr hk2, List.mem_cons_self ..⟩

theorem reopen_row (dt : Nat) (acc : Access) (val : Word) (h : Admitted s acc Reg.SAFE_CTRL .safe) (h0 : val.getLsbD 0 = true)
    (h1 : val.getLsbD 1 = false) (ho : s.axesOff = true) :
    Does (.reopen dt acc val) s fun t =>
      t.safe.commissioned = none ∧ t.rd Reg.SAFE_CHECK_COMM = 0 ∧ t.fld Reg.SAFE_STAT Fld.SAFE_STAT_CONFIRMED = 0 ∧ t.unconf = true
      ∧ (∀ x ∈ [Side.a, Side.b], s.chState x ≠ 0 → ∀ a < axesOf s.variant, t.axState x a = 0 ∧ t.axCause x a = 0xE)
      ∧ Silent s t ∧ RegsBut (Reg.SAFE_CHECK_COMM :: axisRegs) s t
      ∧ t = { s.tick dt with regs := t.regs, ev := t.ev, safe := t.safe, recent := t.recent } := by
  have hfld (a : Nat) (f : Field) : (s.tick dt).fld a f = s.fld a f := State.fld_tick ..
  have hch (x : Side) : (s.tick dt).chState x = s.chState x := hfld ..
  have hax (x : Side) (a : Nat) : (s.tick dt).axState x a = s.axState x a := hfld ..
  have ho' : (s.tick dt).axesOff = true := by
    rw [← ho, State.axesOff, State.axesOff, State.channels, State.channels]
    simp only [hch, hax]
    rfl
  refine Does.of_eq (exec_reopen dt acc val h h0 h1) fun t ht => ?_
  rw [(s.tick dt).reopen_off ho'] at ht
  obtain ⟨hcomm, hconf, hunconf, hwch⟩ := (s.tick dt).commissionedAs_facts none 0 0 1
  have hwrd {a : Nat} := (s.tick dt).rd_commissionedAs none 0 0 1 (a := a)
  have hframe : t.outside [.regs, .ev, .safe, .recent] = (s.tick dt).outside [.regs, .ev, .safe, .recent] := by
    rw [ht, State.axesUnconf, State.commissionedAs]; simp [-State.tick_tags]
  have hev : t.ev = s.ev := by
    rw [ht, State.axesUnconf]
    exact (State.ev_of_outside (s := (s.tick dt).commissionedAs none 0 0 1) (by simp)).trans rfl
  have hsafe : t.safe.commissioned = none := by
    rw [ht, State.axesUnconf]
    exact congrArg SafePart.commissioned (State.safe_of_outside (s := (s.tick dt).commissionedAs none 0 0 1) (by simp))
  have hvar : ((s.tick dt).commissionedAs none 0 0 1).variant = s.variant := rfl
  generalize (s.tick dt).commissionedAs none 0 0 1 = w at ht hcomm hconf hunconf hwch hwrd hvar
  have hnot (a : Nat) (hb : a = Reg.SAFE_CHECK_COMM ∨ a = Reg.SAFE_STAT ∨ a = Reg.IMG_STAT) : a ∉ w.axRegs := fun hm => by
    obtain ⟨x, -, k, -, hk⟩ := State.mem_axRegs.mp hm
    obtain ⟨hc, hs, hi⟩ := sideAddr_axStat x k
    rw [hk] at hc hs hi
    exact hb.elim hc fun hb => hb.elim hs hi
  refine ⟨?_, ?_, ?_, ?_, fun x _ hx a ha => ⟨?_, ?_⟩, ?_, fun a ha => ?_, State.eq_regs_ev_safe_recent hframe⟩
  · exact hsafe
  · rw [ht, State.rd_axesUnconf (hnot _ (.inl rfl)), hcomm]
  · rw [ht, State.fld, State.rd_axesUnconf (hnot _ (.inr (.inl rfl)))]; exact hconf
  · rw [State.unconf, ht, State.fld, State.rd_axesUnconf (hnot _ (.inr (.inr rfl)))]
    exact beq_iff_eq.mpr hunconf
  · have hoff : s.axState x a = 0 := by
      have hall := List.all_eq_true.mp ho x (State.mem_channels.mpr hx)
      exact beq_iff_eq.mp (List.all_eq_true.mp hall a (List.mem_range.mpr ha))
    obtain ⟨hc, hs, hi⟩ := sideAddr_axStat x a
    rw [ht, State.axState, State.axF, State.fld_axesUnconf _ _ (by decide) (by decide), State.fld, hwrd hc hs hi]
    exact (hfld _ _).trans hoff
  · have hmem : sideAddr x (Reg.SAFE_AX_STAT a) ∈ w.axRegs :=
      State.mem_axRegs.mpr ⟨x, by rw [hwch, hch]; exact hx, a, by rw [hvar]; exact ha, rfl⟩
    rw [ht, State.axCause, State.axF]
    exact (fold_setF_const Fld.SAFE_AX_STAT_CAUSE 0xE (by decide) w.axRegs w).2.1 _ hmem
  · rw [Silent, hev]
  · rw [List.mem_cons, not_or] at ha
    obtain ⟨hcm, hax⟩ := ha
    have hst : a ≠ Reg.SAFE_STAT := fun e => hax (e ▸ by decide)
    have him : a ≠ Reg.IMG_STAT := fun e => hax (e ▸ by decide)
    rw [ht, State.rd_axesUnconf (fun hm => hax (axRegs_subset hm)), hwrd hcm hst him, State.rd_tick]

theorem reopenRefused_row (dt : Nat) (acc : Access) (val : Word) (h : Admitted s acc Reg.SAFE_CTRL .safe) (h0 : val.getLsbD 0 = true)
    (h1 : val.getLsbD 1 = false) (ho : s.axesOff = false) :
    Does (.reopen dt acc val) s fun t => Posted Ev.SAFE_CMD_REFUSED (evArg 0xFFF 0 0) (s.tick dt) t ∧ t = { s.tick dt with ev := t.ev } := by
  have hfld (a : Nat) (f : Field) : (s.tick dt).fld a f = s.fld a f := State.fld_tick ..
  have hch (x : Side) : (s.tick dt).chState x = s.chState x := hfld ..
  have hax (x : Side) (a : Nat) : (s.tick dt).axState x a = s.axState x a := hfld ..
  have ho' : (s.tick dt).axesOff = false := by
    rw [← ho, State.axesOff, State.axesOff, State.channels, State.channels]
    simp only [hch, hax]
    rfl
  refine Does.of_eq (exec_reopen dt acc val h h0 h1) fun t ht => ?_
  have hr : (s.tick dt).reopen = (s.tick dt).post Ev.SAFE_CMD_REFUSED := if_neg (by rw [ho']; exact Bool.false_ne_true)
  rw [hr] at ht
  exact ⟨ht ▸ posted_postArg .., State.eq_ev (by rw [ht]; simp [-State.tick_tags])⟩

end

end Sys2Proof.Machine

namespace Sys2Proof.Machine

open Sys2Proof

section

set_option Elab.async false

variable {s t u : State}

/-! ### SAFE_CONFIRM (R515) -/

/-- The commissioned value as SAFE_CONFIRM stores and tells it. -/
def State.confirmedAs (s : State) (val : Word) : State :=
  (({ s with safe := { s.safe with commissioned := some val } }.wr Reg.SAFE_CHECK_COMM val).setF Reg.IMG_STAT Fld.IMG_STAT_SAFETY_UNCONF 0).setF
    Reg.SAFE_STAT Fld.SAFE_STAT_CONFIRMED 1

theorem State.confirmedAs_facts (val : Word) : (s.confirmedAs val).safe.commissioned = some val ∧ (s.confirmedAs val).rd Reg.SAFE_CHECK_COMM = val
    ∧ (s.confirmedAs val).fld Reg.IMG_STAT Fld.IMG_STAT_SAFETY_UNCONF = 0 ∧ (s.confirmedAs val).fld Reg.SAFE_STAT Fld.SAFE_STAT_CONFIRMED = 1
    ∧ ∀ a, a ∉ [Reg.SAFE_CHECK_COMM, Reg.IMG_STAT, Reg.SAFE_STAT] → (s.confirmedAs val).rd a = s.rd a := by
  refine ⟨rfl, ?_, ?_, ?_, fun a ha => ?_⟩
  · rw [State.confirmedAs, State.rd_setF_other _ _ _ _ _ (by decide), State.rd_setF_other _ _ _ _ _ (by decide), State.rd_wr, if_pos rfl]
  · rw [State.confirmedAs, State.fld_setF_other _ _ _ _ _ _ (by decide), State.fld_setF_same _ _ _ _ (by decide)]; rfl
  · rw [State.confirmedAs, State.fld_setF_same _ _ _ _ (by decide)]; rfl
  · simp only [List.mem_cons, List.not_mem_nil, or_false, not_or] at ha
    obtain ⟨hcomm, himg, hstat⟩ := ha
    rw [State.confirmedAs, State.rd_setF_other _ _ _ _ _ (Ne.symm hstat), State.rd_setF_other _ _ _ _ _ (Ne.symm himg), State.rd_wr, if_neg hcomm]
    rfl

/-- Both channels run with the value, in SINGLE or DUAL. -/
def State.confirmable (s : State) (val : Word) : Prop := ∀ x, s.checkRun x = val ∧ (s.chState x = 1 ∨ s.chState x = 2)

theorem safeConfirmWrite_ok (acc : Access) (dt : Nat) (val : Word) (h : Admitted s acc Reg.SAFE_CONFIRM .safe)
    (hc : (s.tick dt).confirmable val) (hidle : s.contextsIdle = true) :
    (s.tick dt).safeConfirmWrite acc val = ((s.tick dt).confirmedAs val).post Ev.SAFE_CONFIRMED := by
  rw [State.safeConfirmWrite, State.command_of_admitted _ _ _ _ _ _ h]
  have hok (x : Side) : ((s.tick dt).chState x == 1 || (s.tick dt).chState x == 2) = true := by
    obtain ⟨-, h1 | h2⟩ := hc x
    · rw [h1]; rfl
    · rw [h2]; rfl
  have hbusy : ([0, 1, 2, 3].any fun n =>
      ((((s.tick dt).context n).state == .validating || ((s.tick dt).context n).state == .pend)
        && ((s.tick dt).context n).entries.any fun e => (s.tick dt).hasRwc e.1)) = false := by
    refine List.any_eq_false.mpr fun n hn => ?_
    have hst : ((s.tick dt).context n).state = .idle := of_decide_eq_true (List.all_eq_true.mp hidle n hn)
    rw [hst]; exact Bool.false_ne_true
  exact if_pos ⟨(hc .a).1, (hc .b).1, hok .a, hok .b, by rw [hbusy]; rfl⟩

theorem safeConfirm_row (dt : Nat) (acc : Access) (val : Word) (h : Admitted s acc Reg.SAFE_CONFIRM .safe)
    (hc : ∀ x ∈ [Side.a, Side.b], s.checkRun x = val ∧ (s.chState x = 1 ∨ s.chState x = 2)) (hidle : s.contextsIdle = true) :
    Does (.safeConfirm dt acc val) s fun t =>
      t.safe.commissioned = some val ∧ t.rd Reg.SAFE_CHECK_COMM = val ∧ t.unconf = false ∧ t.fld Reg.SAFE_STAT Fld.SAFE_STAT_CONFIRMED = 1
      ∧ Posted Ev.SAFE_CONFIRMED (evArg 0xFFF 0 0) (s.tick dt) t ∧ RegsBut [Reg.SAFE_CHECK_COMM, Reg.IMG_STAT, Reg.SAFE_STAT] s t
      ∧ t = { s.tick dt with regs := t.regs, ev := t.ev, safe := t.safe, recent := t.recent } := by
  have hc' : (s.tick dt).confirmable val := fun x => by
    rw [State.checkRun, State.rd_tick, State.chState, State.fld_tick]
    exact hc x (by cases x <;> simp)
  have he : exec (.safeConfirm dt acc val) s = .next (((s.tick dt).confirmedAs val).post Ev.SAFE_CONFIRMED) :=
    congrArg Host.Outcome.next (safeConfirmWrite_ok acc dt val h hc' hidle)
  obtain ⟨hcomm, hreg, hunconf, hconf, hrd⟩ := (s.tick dt).confirmedAs_facts val
  refine Does.of_eq he fun t ht => ?_
  have htr (a : Nat) : t.rd a = ((s.tick dt).confirmedAs val).rd a := by rw [ht, State.rd_post]
  refine ⟨?_, ?_, ?_, ?_, ?_, fun a ha => ?_, State.eq_regs_ev_safe_recent ?_⟩
  · rw [ht]; exact hcomm
  · rw [htr, hreg]
  · rw [State.unconf, State.fld, htr, ← State.fld, hunconf]; rfl
  · rw [State.fld, htr, ← State.fld, hconf]
  · rw [ht]
    exact (posted_postArg Ev.SAFE_CONFIRMED (evArg 0xFFF 0 0) ((s.tick dt).confirmedAs val)).congr rfl rfl rfl
  · rw [htr, hrd a ha, State.rd_tick]
  · rw [ht, State.confirmedAs]; simp [-State.tick_tags]

theorem safeConfirmRefused_row (dt : Nat) (acc : Access) (val : Word) (x : Side) (h : Admitted s acc Reg.SAFE_CONFIRM .safe)
    (hc : s.checkRun x ≠ val ∨ s.chState x ≠ 1 ∧ s.chState x ≠ 2) :
    Does (.safeConfirm dt acc val) s fun t => Posted Ev.SAFE_CONFIRM_REFUSED (evArg 0xFFF 0 0) (s.tick dt) t ∧ t = { s.tick dt with ev := t.ev } := by
  have hno (hrun : (s.tick dt).checkRun x = val) (hok : ((s.tick dt).chState x == 1 || (s.tick dt).chState x == 2) = true) : False := by
    rw [State.checkRun, State.rd_tick] at hrun
    rw [State.chState, State.fld_tick] at hok
    obtain hne | ⟨h1, h2⟩ := hc
    · exact hne hrun
    · obtain he | he := Bool.or_eq_true_iff.mp hok
      · exact h1 (beq_iff_eq.mp he)
      · exact h2 (beq_iff_eq.mp he)
  have he : exec (.safeConfirm dt acc val) s = .next ((s.tick dt).post Ev.SAFE_CONFIRM_REFUSED) := by
    simp only [exec, execSafeConfirm, State.safeConfirmWrite, State.command_of_admitted _ _ _ _ _ _ h]
    refine congrArg Host.Outcome.next (if_neg ?_)
    rintro ⟨ha, hb, hoka, hokb, -⟩
    cases x
    · exact hno ha hoka
    · exact hno hb hokb
  exact Does.of_eq he fun t ht => ⟨ht ▸ posted_postArg .., State.eq_ev (by rw [ht]; simp [-State.tick_tags])⟩

/-! ### SAFE_FB_ACK (R506) -/

/-- An outlet's FAULT and WELD, cleared. -/
def State.fbCleared (s : State) (n : Nat) : State :=
  let s1 := s.setF Reg.SAFE_FB_STAT Fld.SAFE_FB_STAT_FAULT (withBit (s.fld Reg.SAFE_FB_STAT Fld.SAFE_FB_STAT_FAULT) n false)
  s1.setF Reg.SAFE_FB_STAT Fld.SAFE_FB_STAT_WELD (withBit (s1.fld Reg.SAFE_FB_STAT Fld.SAFE_FB_STAT_WELD) n false)

/-- The acknowledge may act on an outlet: a weld is SERVICE's. -/
def State.mayAckFb (s : State) (acc : Access) (n : Nat) : Bool :=
  if (s.fld Reg.SAFE_FB_STAT Fld.SAFE_FB_STAT_WELD).testBit n then decide (acc.role = .service) else Scope.osf.admits acc.role

theorem onlyBit (n : Nat) (h : n < 8) : (List.range 8).filter (fun k => (BitVec.twoPow 32 n).getLsbD k) = [n] := by
  have hall : ∀ n < 8, (List.range 8).filter (fun k => (BitVec.twoPow 32 n).getLsbD k) = [n] := by decide
  exact hall n h

theorem exec_safeFbAck (dt : Nat) (acc : Access) (n : Nat) (hn : n < 8) (h : Admitted s acc Reg.SAFE_FB_ACK .osf) :
    exec (.safeFbAck dt acc (BitVec.twoPow 32 n)) s = .next
      (if (s.tick dt).mayAckFb acc n && !(s.tick dt).poleDiffers (2 * n) && !(s.tick dt).poleDiffers (2 * n + 1) then (s.tick dt).fbCleared n
       else (s.tick dt).post Ev.SAFE_CMD_REFUSED n) := by
  have hall : Admitted s acc Reg.SAFE_FB_ACK .all := ⟨h.1, h.2.1, rfl⟩
  simp only [exec, execSafeFbAck, State.safeFbAckWrite, State.command_of_admitted _ _ _ _ _ _ hall, onlyBit n hn, List.foldl_cons, List.foldl_nil]
  rfl

theorem State.poleDiffers_tick (dt k : Nat) : (s.tick dt).poleDiffers k = s.poleDiffers k := by
  have hf (a : Nat) (f : Field) : (s.tick dt).fld a f = s.fld a f := State.fld_tick ..
  have hotl (n : Nat) : (s.tick dt).otl n = s.otl n := rfl
  simp only [State.poleDiffers, hf, hotl]

theorem State.mayAckFb_tick (dt : Nat) (acc : Access) (n : Nat) : (s.tick dt).mayAckFb acc n = s.mayAckFb acc n := by
  rw [State.mayAckFb, State.fld_tick, State.mayAckFb]

theorem State.fbCleared_facts (n : Nat) :
    (s.fbCleared n).fld Reg.SAFE_FB_STAT Fld.SAFE_FB_STAT_FAULT = withBit (s.fld Reg.SAFE_FB_STAT Fld.SAFE_FB_STAT_FAULT) n false
    ∧ (s.fbCleared n).fld Reg.SAFE_FB_STAT Fld.SAFE_FB_STAT_WELD = withBit (s.fld Reg.SAFE_FB_STAT Fld.SAFE_FB_STAT_WELD) n false
    ∧ (∀ a, a ≠ Reg.SAFE_FB_STAT → (s.fbCleared n).rd a = s.rd a) := by
  have hlt (f : Field) : withBit (s.fld Reg.SAFE_FB_STAT f) n false < 2 ^ f.width :=
    Nat.lt_of_le_of_lt (Nat.sub_le ..) (fget_lt ..)
  have hweld : (s.setF Reg.SAFE_FB_STAT Fld.SAFE_FB_STAT_FAULT (withBit (s.fld Reg.SAFE_FB_STAT Fld.SAFE_FB_STAT_FAULT) n false)).fld
      Reg.SAFE_FB_STAT Fld.SAFE_FB_STAT_WELD = s.fld Reg.SAFE_FB_STAT Fld.SAFE_FB_STAT_WELD :=
    State.fld_setF_field _ _ _ _ _ (by decide) (by decide)
  refine ⟨?_, ?_, fun a ha => ?_⟩
  · rw [State.fbCleared, State.fld_setF_field _ _ _ _ _ (by decide) (by decide), State.fld_setF_same _ _ _ _ (by decide)]
    exact Nat.mod_eq_of_lt (hlt _)
  · simp only [State.fbCleared]
    rw [hweld, State.fld_setF_same _ _ _ _ (by decide)]
    exact Nat.mod_eq_of_lt (hlt _)
  · rw [State.fbCleared, State.rd_setF_other _ _ _ _ _ (Ne.symm ha), State.rd_setF_other _ _ _ _ _ (Ne.symm ha)]

theorem fbAck_row (dt : Nat) (acc : Access) (val : Word) (n : Nat) (hn : n < 8) (hval : val = BitVec.twoPow 32 n)
    (h : Admitted s acc Reg.SAFE_FB_ACK .osf)
    (hw : (s.fld Reg.SAFE_FB_STAT Fld.SAFE_FB_STAT_WELD).testBit n = true → acc.role = .service) (hp : s.poleDiffers (2 * n) = false)
    (hp' : s.poleDiffers (2 * n + 1) = false) :
    Does (.safeFbAck dt acc val) s fun t =>
      t.fld Reg.SAFE_FB_STAT Fld.SAFE_FB_STAT_FAULT = withBit (s.fld Reg.SAFE_FB_STAT Fld.SAFE_FB_STAT_FAULT) n false
      ∧ t.fld Reg.SAFE_FB_STAT Fld.SAFE_FB_STAT_WELD = withBit (s.fld Reg.SAFE_FB_STAT Fld.SAFE_FB_STAT_WELD) n false
      ∧ Silent s t ∧ RegsBut [Reg.SAFE_FB_STAT] s t ∧ t = { s.tick dt with regs := t.regs } := by
  have hmay : s.mayAckFb acc n = true := by
    rw [State.mayAckFb]
    split
    · next hbit => exact decide_eq_true (hw hbit)
    · exact h.2.2
  have he := exec_safeFbAck (s := s) dt acc n hn h
  rw [State.mayAckFb_tick, State.poleDiffers_tick, State.poleDiffers_tick, hmay, hp, hp', if_pos (by rfl)] at he
  obtain ⟨hfault, hweld, hrd⟩ := (s.tick dt).fbCleared_facts n
  subst hval
  refine Does.of_eq he fun t ht => ⟨?_, ?_, ?_, fun a ha => ?_, State.eq_regs ?_⟩
  · rw [ht, hfault, State.fld_tick]
  · rw [ht, hweld, State.fld_tick]
  · rw [ht]; rfl
  · rw [ht, hrd a (by simpa using ha), State.rd_tick]
  · rw [ht, State.fbCleared]; simp [-State.tick_tags]

theorem fbAckRefused_row (dt : Nat) (acc : Access) (val : Word) (n : Nat) (hn : n < 8) (hval : val = BitVec.twoPow 32 n)
    (h : Admitted s acc Reg.SAFE_FB_ACK .osf)
    (hw : (s.fld Reg.SAFE_FB_STAT Fld.SAFE_FB_STAT_WELD).testBit n = true ∧ acc.role ≠ .service ∨ s.poleDiffers (2 * n) = true) :
    Does (.safeFbAck dt acc val) s fun t => Posted Ev.SAFE_CMD_REFUSED (evArg n 0 0) (s.tick dt) t ∧ t = { s.tick dt with ev := t.ev } := by
  have hno : ¬(s.mayAckFb acc n && !s.poleDiffers (2 * n) && !s.poleDiffers (2 * n + 1)) = true := by
    obtain ⟨hbit, hrole⟩ | hp := hw
    · have hmay : s.mayAckFb acc n = false := by rw [State.mayAckFb, if_pos hbit, decide_eq_false hrole]
      rw [hmay]; exact Bool.false_ne_true
    · rw [hp]; simp
  have he := exec_safeFbAck (s := s) dt acc n hn h
  rw [State.mayAckFb_tick, State.poleDiffers_tick, State.poleDiffers_tick, if_neg hno] at he
  subst hval
  exact Does.of_eq he fun t ht => ⟨ht ▸ posted_postArg .., State.eq_ev (by rw [ht]; simp [-State.tick_tags])⟩

/-! ### SAFE_CLR (R517) -/

/-- The count registers of both channels, in the order in which SAFE_CLR clears them. -/
def safeCounts : List Nat :=
  [Side.a, Side.b].flatMap fun x => sideAddr x Reg.SAFE_CNT :: (List.range 16).map fun k => sideAddr x (Reg.SAFE_CONN_CNT k)

theorem safeClr_eq : [Side.a, Side.b].foldl (fun st x =>
    (List.range 16).foldl (fun t k => t.clearCount (sideAddr x (Reg.SAFE_CONN_CNT k))) (st.clearCount (sideAddr x Reg.SAFE_CNT))) s
    = safeCounts.foldl (fun st a => st.clearCount a) s := by
  have hconns (x : Side) (v : State) : (List.range 16).foldl (fun t k => t.clearCount (sideAddr x (Reg.SAFE_CONN_CNT k))) v
      = ((List.range 16).map fun k => sideAddr x (Reg.SAFE_CONN_CNT k)).foldl (fun st a => st.clearCount a) v := List.foldl_map.symm
  simp only [safeCounts, List.flatMap_cons, List.flatMap_nil, List.append_nil, List.foldl_append, List.foldl_cons, List.foldl_nil, hconns]

theorem safeClr_row (dt : Nat) (acc : Access) (val : Word) (h : Admitted s acc Reg.SAFE_CLR .osf) (hv : val.getLsbD 0 = true) :
    Does (.safeClr dt acc val) s fun t =>
      (∀ x ∈ [Side.a, Side.b], t.rd (sideAddr x Reg.SAFE_CNT) = (s.tick dt).counted (sideAddr x Reg.SAFE_CNT)
        ∧ ∀ k < 16, t.rd (sideAddr x (Reg.SAFE_CONN_CNT k)) = (s.tick dt).counted (sideAddr x (Reg.SAFE_CONN_CNT k)))
      ∧ Silent s t ∧ RegsBut (([Side.a, Side.b].map fun x => sideAddr x Reg.SAFE_CNT)
          ++ ([Side.a, Side.b].flatMap fun x => (List.range 16).map fun k => sideAddr x (Reg.SAFE_CONN_CNT k))) s t
      ∧ t = { s.tick dt with regs := t.regs } := by
  have hf : fget Fld.SAFE_CLR_CLEAR val = 1 := fget_bit_of_getLsbD hv
  have he : exec (.safeClr dt acc val) s = .next (safeCounts.foldl (fun st a => st.clearCount a) (s.tick dt)) := by
    simp only [exec, execSafeClr, State.safeClrWrite, State.command_of_admitted _ _ _ _ _ _ h, if_pos hf, safeClr_eq]
  have hcnt {x : Side} (hx : x ∈ [Side.a, Side.b]) : sideAddr x Reg.SAFE_CNT ∈ safeCounts := List.mem_flatMap.mpr ⟨x, hx, List.mem_cons_self ..⟩
  have hconn {x : Side} (hx : x ∈ [Side.a, Side.b]) {k : Nat} (hk : k < 16) : sideAddr x (Reg.SAFE_CONN_CNT k) ∈ safeCounts :=
    List.mem_flatMap.mpr ⟨x, hx, List.mem_cons_of_mem _ (List.mem_map.mpr ⟨k, List.mem_range.mpr hk, rfl⟩)⟩
  have hrd (a : Nat) := rd_clearCounts (fun a => a) safeCounts (s.tick dt) a
  rw [List.map_id'] at hrd
  refine Does.of_eq he fun t ht => ⟨fun x hx => ⟨?_, fun k hk => ?_⟩, ?_, fun a ha => ?_, State.eq_regs ?_⟩
  · rw [ht, hrd, if_pos (hcnt hx)]
  · rw [ht, hrd, if_pos (hconn hx hk)]
  · rw [Silent, ht]
    exact State.ev_of_outside (s := s.tick dt) (by simp)
  · rw [ht, hrd, if_neg, State.rd_tick]
    intro hm
    obtain ⟨x, hx, hm⟩ := List.mem_flatMap.mp hm
    refine ha (List.mem_append.mpr ?_)
    obtain rfl | hm := List.mem_cons.mp hm
    · exact .inl (List.mem_map.mpr ⟨x, hx, rfl⟩)
    · exact .inr (List.mem_flatMap.mpr ⟨x, hx, hm⟩)
  · rw [ht]; simp [-State.tick_tags]

end

end Sys2Proof.Machine

namespace Sys2Proof.Machine

open Sys2Proof

section

set_option Elab.async false

variable {s t u : State} {x : Side} {k : Nat}

/-! ### What a safety frame in one channel leaves alone (R508 to R511) -/

/-- The registers of a channel that a connection's frames write. -/
def frameRegs (x : Side) (k : Nat) : List Nat := [sideAddr x Reg.SAFE_STAT, sideAddr x (Reg.SAFE_CONN_STAT k), sideAddr x (Reg.SAFE_CONN_CNT k)]

/-- Between s and t only the channel's own registers and record of connection k moved. -/
structure FrameKept (x : Side) (k : Nat) (s t : State) : Prop where
  rd : ∀ a, a ∉ frameRegs x k → t.rd a = s.rd a
  conn : ∀ y, y ≠ x → t.conn y k = s.conn y k
  img : t.img = s.img
  tm : t.tm = s.tm
  ev : t.ev = s.ev

theorem FrameKept.refl (x : Side) (k : Nat) (s : State) : FrameKept x k s s := ⟨fun _ _ => rfl, fun _ _ => rfl, rfl, rfl, rfl⟩

theorem FrameKept.trans (h : FrameKept x k s t) (h' : FrameKept x k t u) : FrameKept x k s u where
  rd := fun a ha => (h'.rd a ha).trans (h.rd a ha)
  conn := fun y hy => (h'.conn y hy).trans (h.conn y hy)
  img := h'.img.trans h.img
  tm := h'.tm.trans h.tm
  ev := h'.ev.trans h.ev

theorem FrameKept.setF {a : Nat} (f : Field) (v : Nat) (ha : a ∈ frameRegs x k) : FrameKept x k s (s.setF a f v) :=
  ⟨fun _ hb => State.rd_setF_other _ _ _ _ _ fun e => hb (e ▸ ha), fun _ _ => rfl, rfl, rfl, rfl⟩

theorem FrameKept.bump {a : Nat} (f : Field) (n : Nat) (ha : a ∈ frameRegs x k) : FrameKept x k s (s.bump a f n) :=
  ⟨fun _ hb => State.rd_bump_other _ _ _ _ _ fun e => hb (e ▸ ha), fun _ _ => rfl, rfl, rfl, rfl⟩

theorem State.conn_setConn_same (v : Conn3) : (s.setConn x k v).conn x k = v := SMap.get_put_same ..

theorem State.conn_setConn_other {y : Side} (v : Conn3) (h : y ≠ x) : (s.setConn x k v).conn y k = s.conn y k :=
  SMap.get_put_other _ _ _ _ _ (by cases x <;> cases y <;> simp [Side.code] at *)

theorem FrameKept.setConn (v : Conn3) : FrameKept x k s (s.setConn x k v) :=
  ⟨fun _ _ => rfl, fun _ hy => State.conn_setConn_other v hy, rfl, rfl, rfl⟩

theorem FrameKept.setConnState (v : Nat) : FrameKept x k s (s.setConnState x k v) :=
  (FrameKept.setF _ _ (by simp [frameRegs])).trans (FrameKept.setF _ _ (by simp [frameRegs]))

theorem FrameKept.frameDrop (f : Field) : FrameKept x k s (s.frameDrop x k f) :=
  (FrameKept.setConn _).trans (FrameKept.bump _ _ (by simp [frameRegs]))

theorem FrameKept.frameAccept (bs : List Byte) : FrameKept x k s (s.frameAccept x k bs) := by
  have h1 : FrameKept x k s ((s.setF (sideAddr x (Reg.SAFE_CONN_STAT k)) Fld.SAFE_CONN_STAT_SEQ (leNat ((bs.drop 2).take 2))).setConn x k
      { s.conn x k with got := true, last := s.tm.mono, run := (s.conn x k).run + 1, zone := (leNat ((bs.drop 8).take 1)).testBit 0
                        stopIn := (leNat ((bs.drop 8).take 1)).testBit 1, data := (bs.drop 8).take 16 }) :=
    (FrameKept.setF _ _ (by simp [frameRegs])).trans (FrameKept.setConn _)
  simp only [State.frameAccept]
  split
  · exact h1.trans (FrameKept.setConnState 2)
  · exact h1

theorem FrameKept.frameRx (bs : List Byte) : FrameKept x k s (s.frameRx x k bs) := by
  simp only [State.frameRx]
  split
  · exact .frameDrop _
  · split
    · exact .frameAccept bs
    · split
      · exact .frameDrop _
      · split
        · exact (FrameKept.bump _ _ (by simp [frameRegs])).trans (.frameAccept bs)
        · exact .frameDrop _

theorem frameRegs_subset {a : Nat} (h : a ∈ frameRegs x k) : a ∈ connRegs k :=
  List.mem_flatMap.mpr ⟨x, by cases x <;> simp, h⟩

theorem frameRegs_other {y : Side} (hk : k < 16) (hxy : x ≠ y) {a : Nat} (h : a ∈ frameRegs x k) : a ∉ frameRegs y k := by
  simp only [frameRegs, List.mem_cons, List.not_mem_nil, or_false, sideAddr, Reg.SAFE_STAT, Reg.SAFE_CONN_STAT, Reg.SAFE_CONN_CNT] at *
  cases x <;> cases y <;> simp only [Side.code, ne_eq, not_true_eq_false, reduceCtorEq, not_false_eq_true] at * <;> omega

/-- A step of one channel leaves the other channel's registers and record of the connection. -/
theorem FrameKept.own {y : Side} (hk : k < 16) (hxy : x ≠ y) (h : FrameKept y k s t) :
    (∀ a ∈ frameRegs x k, t.rd a = s.rd a) ∧ t.conn x k = s.conn x k :=
  ⟨fun a ha => h.rd a (frameRegs_other hk hxy ha), h.conn x hxy⟩

/-- In a fold over channels one's own step stands between steps of the other channel. -/
theorem channels_fold {f : State → Side → State} (hf : ∀ v y, FrameKept y k v (f v y)) (hk : k < 16) (p : Side → Bool) (hx : p x = true) (s : State) :
    ∃ v, ((∀ a ∈ frameRegs x k, v.rd a = s.rd a) ∧ v.conn x k = s.conn x k) ∧ v.img = s.img ∧ v.tm = s.tm
      ∧ (∀ a ∈ frameRegs x k, (([Side.a, Side.b].filter p).foldl f s).rd a = (f v x).rd a)
      ∧ (([Side.a, Side.b].filter p).foldl f s).conn x k = (f v x).conn x k := by
  have hself (v : State) : (∀ a ∈ frameRegs x k, v.rd a = v.rd a) ∧ v.conn x k = v.conn x k := ⟨fun _ _ => rfl, rfl⟩
  cases x with
  | a =>
    have hone (v : State) := (hf v .b).own (x := .a) hk (by decide)
    cases hb : p .b with
    | true => exact ⟨s, hself s, rfl, rfl, by simpa [hx, hb] using hone (f s .a)⟩
    | false => exact ⟨s, hself s, rfl, rfl, by simp [hx, hb]⟩
  | b =>
    have hone (v : State) := (hf v .a).own (x := .b) hk (by decide)
    cases ha : p .a with
    | true => exact ⟨f s .a, hone s, (hf s .a).img, (hf s .a).tm, by simp [hx, ha]⟩
    | false => exact ⟨s, hself s, rfl, rfl, by simp [hx, ha]⟩

theorem channels_fold_kept {f : State → Side → State} (hf : ∀ v y, FrameKept y k v (f v y)) (l : List Side) (s : State) :
    (∀ a, a ∉ connRegs k → (l.foldl f s).rd a = s.rd a) ∧ (l.foldl f s).ev = s.ev ∧ (l.foldl f s).tm = s.tm := by
  induction l generalizing s with
  | nil => exact ⟨fun _ _ => rfl, rfl, rfl⟩
  | cons y l ih =>
    obtain ⟨hrd, hev, htm⟩ := ih (f s y)
    have hy := hf s y
    exact ⟨fun a ha => (hrd a ha).trans (hy.rd a fun h => ha (frameRegs_subset h)), hev.trans hy.ev, htm.trans hy.tm⟩

theorem leNat_lt (bs : List Byte) : leNat bs < 256 ^ bs.length := by
  induction bs with
  | nil => decide
  | cons b bs ih =>
    have hb := b.isLt
    rw [leNat, List.length_cons, Nat.pow_succ]
    omega

theorem leNat_two (bs : List Byte) : leNat ((bs.drop 2).take 2) < 65536 :=
  Nat.lt_of_lt_of_le (leNat_lt _) (Nat.pow_le_pow_right (by decide) (List.length_take_le ..))

theorem State.parN_congr (h : t.img = s.img) (j : Nat) : t.parN j = s.parN j := by
  rw [State.parN, State.par, h, State.parN, State.par]

theorem State.frameOk_congr (h : t.img = s.img) (bs : List Byte) : t.frameOk x k bs = s.frameOk x k bs := by
  cases x
  · simp only [State.frameOk, State.parN_congr h]
  · simp only [State.frameOk, State.parN_congr h]

/-! ### Accepted, repeated and discarded frames (R510) -/

/-- What the last SEQ of a connection and a frame's own make their distance. -/
def State.seqStep (s : State) (x : Side) (k : Nat) (bs : List Byte) : Nat :=
  (leNat ((bs.drop 2).take 2) + 65536 - s.fld (sideAddr x (Reg.SAFE_CONN_STAT k)) Fld.SAFE_CONN_STAT_SEQ) % 65536

theorem State.frameRx_bad (bs : List Byte) (h : s.frameOk x k bs = false) : s.frameRx x k bs = s.frameDrop x k Fld.SAFE_CONN_CNT_BAD :=
  if_pos (by rw [h]; rfl)

theorem State.frameRx_good (bs : List Byte) (h : s.frameOk x k bs = true) (hg : (s.conn x k).got = true) : s.frameRx x k bs =
    if s.seqStep x k bs = 0 then s.frameDrop x k Fld.SAFE_CONN_CNT_REPEATS
    else if s.seqStep x k bs ≤ 16 then
      (s.bump (sideAddr x (Reg.SAFE_CONN_CNT k)) Fld.SAFE_CONN_CNT_LOST_FRAMES (s.seqStep x k bs - 1)).frameAccept x k bs
    else s.frameDrop x k Fld.SAFE_CONN_CNT_BAD := by
  rw [State.frameRx, h, hg]
  rfl

theorem connRegs_ne (x : Side) (k : Nat) : sideAddr x (Reg.SAFE_CONN_CNT k) ≠ sideAddr x (Reg.SAFE_CONN_STAT k)
    ∧ sideAddr x Reg.SAFE_STAT ≠ sideAddr x (Reg.SAFE_CONN_STAT k) ∧ sideAddr x Reg.SAFE_STAT ≠ sideAddr x (Reg.SAFE_CONN_CNT k) := by
  simp only [sideAddr, Reg.SAFE_STAT, Reg.SAFE_CONN_STAT, Reg.SAFE_CONN_CNT]
  omega

theorem State.frameDrop_facts (f : Field) (hf : f.lo + f.width ≤ 32) :
    (s.frameDrop x k f).fld (sideAddr x (Reg.SAFE_CONN_CNT k)) f = min (s.fld (sideAddr x (Reg.SAFE_CONN_CNT k)) f + 1) (2 ^ f.width - 1)
    ∧ (s.frameDrop x k f).rd (sideAddr x (Reg.SAFE_CONN_STAT k)) = s.rd (sideAddr x (Reg.SAFE_CONN_STAT k))
    ∧ ((s.frameDrop x k f).conn x k).last = (s.conn x k).last := by
  obtain ⟨hne, -, -⟩ := connRegs_ne x k
  refine ⟨State.fld_bump_same _ _ _ _ hf, State.rd_bump_other _ _ _ _ _ hne, ?_⟩
  have hconn : (s.frameDrop x k f).conn x k = (s.setConn x k { s.conn x k with run := 0 }).conn x k := rfl
  rw [hconn, State.conn_setConn_same]

theorem State.fld_setConnState_seq (v : Nat) : (s.setConnState x k v).fld (sideAddr x (Reg.SAFE_CONN_STAT k)) Fld.SAFE_CONN_STAT_SEQ
    = s.fld (sideAddr x (Reg.SAFE_CONN_STAT k)) Fld.SAFE_CONN_STAT_SEQ := by
  obtain ⟨-, hne, -⟩ := connRegs_ne x k
  simp only [State.setConnState]
  rw [State.fld_setF_other _ _ _ _ _ _ hne, State.fld_setF_field _ _ _ _ _ (by decide) (by decide)]

theorem State.connState_setConnState (v : Nat) (hv : v < 4) : (s.setConnState x k v).connState x k = v := by
  obtain ⟨-, hne, -⟩ := connRegs_ne x k
  simp only [State.connState, State.setConnState]
  rw [State.fld_setF_other _ _ _ _ _ _ hne, State.fld_setF_same _ _ _ _ (by decide)]
  exact Nat.mod_eq_of_lt hv

theorem State.rd_setConnState_cnt (v : Nat) : (s.setConnState x k v).rd (sideAddr x (Reg.SAFE_CONN_CNT k)) = s.rd (sideAddr x (Reg.SAFE_CONN_CNT k)) := by
  obtain ⟨hne, -, hne'⟩ := connRegs_ne x k
  simp only [State.setConnState]
  rw [State.rd_setF_other _ _ _ _ _ hne', State.rd_setF_other _ _ _ _ _ hne.symm]

/-- The connection with an accepted frame's values. -/
def State.frameTaken (s : State) (x : Side) (k : Nat) (bs : List Byte) : State :=
  (s.setF (sideAddr x (Reg.SAFE_CONN_STAT k)) Fld.SAFE_CONN_STAT_SEQ (leNat ((bs.drop 2).take 2))).setConn x k
    { s.conn x k with got := true, last := s.tm.mono, run := (s.conn x k).run + 1, zone := (leNat ((bs.drop 8).take 1)).testBit 0
                      stopIn := (leNat ((bs.drop 8).take 1)).testBit 1, data := (bs.drop 8).take 16 }

theorem State.fld_setConn (v : Conn3) (a : Nat) (f : Field) : (s.setConn x k v).fld a f = s.fld a f := rfl

theorem State.rd_setConn (v : Conn3) (a : Nat) : (s.setConn x k v).rd a = s.rd a := rfl

theorem State.connState_frameTaken (bs : List Byte) : (s.frameTaken x k bs).connState x k = s.connState x k := by
  rw [State.connState, State.frameTaken, State.fld_setConn, State.fld_setF_field _ _ _ _ _ (by decide) (by decide), State.connState]

theorem State.frameAccept_eq (bs : List Byte) : s.frameAccept x k bs =
    if s.connState x k = 1 ∨ (s.connState x k = 3 ∧ 3 ≤ (s.conn x k).run + 1) then (s.frameTaken x k bs).setConnState x k 2
    else s.frameTaken x k bs := by
  rw [← State.connState_frameTaken bs, State.frameAccept, State.frameTaken]

theorem State.frameTaken_facts (bs : List Byte) :
    (s.frameTaken x k bs).fld (sideAddr x (Reg.SAFE_CONN_STAT k)) Fld.SAFE_CONN_STAT_SEQ = leNat ((bs.drop 2).take 2)
    ∧ (s.frameTaken x k bs).rd (sideAddr x (Reg.SAFE_CONN_CNT k)) = s.rd (sideAddr x (Reg.SAFE_CONN_CNT k))
    ∧ (s.frameTaken x k bs).connState x k = s.connState x k
    ∧ (s.frameTaken x k bs).conn x k = { s.conn x k with
        got := true, last := s.tm.mono, run := (s.conn x k).run + 1, zone := (leNat ((bs.drop 8).take 1)).testBit 0
        stopIn := (leNat ((bs.drop 8).take 1)).testBit 1, data := (bs.drop 8).take 16 } := by
  obtain ⟨hne, -, -⟩ := connRegs_ne x k
  refine ⟨?_, ?_, State.connState_frameTaken bs, ?_⟩
  · rw [State.frameTaken, State.fld_setConn, State.fld_setF_same _ _ _ _ (by decide)]
    exact Nat.mod_eq_of_lt (leNat_two bs)
  · rw [State.frameTaken, State.rd_setConn, State.rd_setF_other _ _ _ _ _ hne.symm]
  · rw [State.frameTaken, State.conn_setConn_same]

theorem State.frameAccept_facts (bs : List Byte) :
    (s.frameAccept x k bs).fld (sideAddr x (Reg.SAFE_CONN_STAT k)) Fld.SAFE_CONN_STAT_SEQ = leNat ((bs.drop 2).take 2)
    ∧ (s.frameAccept x k bs).rd (sideAddr x (Reg.SAFE_CONN_CNT k)) = s.rd (sideAddr x (Reg.SAFE_CONN_CNT k))
    ∧ (s.connState x k = 3 → (s.frameAccept x k bs).connState x k = if 3 ≤ (s.conn x k).run + 1 then 2 else 3)
    ∧ (s.frameAccept x k bs).conn x k = (s.frameTaken x k bs).conn x k := by
  obtain ⟨hseq, hcnt, hst, -⟩ := s.frameTaken_facts (x := x) (k := k) bs
  rw [State.frameAccept_eq]
  split
  · next h =>
    refine ⟨by rw [State.fld_setConnState_seq, hseq], by rw [State.rd_setConnState_cnt, hcnt], fun h3 => ?_, rfl⟩
    have hrun : 3 ≤ (s.conn x k).run + 1 := h.elim (fun h1 => absurd (h1.symm.trans h3) (by decide)) And.right
    rw [State.connState_setConnState 2 (by decide), if_pos hrun]
  · next h =>
    refine ⟨hseq, hcnt, fun h3 => ?_, rfl⟩
    rw [hst, h3, if_neg fun hrun => h (.inr ⟨h3, hrun⟩)]

end

end Sys2Proof.Machine

namespace Sys2Proof.Machine

open Sys2Proof

section

set_option Elab.async false

variable {s t u : State} {x : Side} {k : Nat}

/-! ### SAFETY_FRAME_RX (R509, R510) -/

theorem State.eq_regs_safe_recent (h : t.outside [.regs, .safe, .recent] = u.outside [.regs, .safe, .recent]) :
    t = { u with regs := t.regs, safe := t.safe, recent := t.recent } := State.eq_patch h

/-- A frame that arrives, as the channel of a running side takes it. -/
theorem frameArrives_at (dt : Nat) (bytes : List Byte) (hk : k < 16) (hrx : s.connRx k = true) (hx : s.chState x ≠ 0) :
    ∃ v : State, ((∀ a ∈ frameRegs x k, v.rd a = s.rd a) ∧ v.conn x k = s.conn x k) ∧ v.img = s.img ∧ v.tm = (s.tick dt).tm
      ∧ Does (.safetyFrameRx dt k bytes) s fun t =>
        (∀ a ∈ frameRegs x k, t.rd a = (v.frameRx x k bytes).rd a) ∧ t.conn x k = (v.frameRx x k bytes).conn x k
        ∧ Silent s t ∧ RegsBut (connRegs k) s t ∧ t = { s.tick dt with regs := t.regs, safe := t.safe, recent := t.recent } := by
  have hrx' : (s.tick dt).connRx k = true := hrx
  have he : exec (.safetyFrameRx dt k bytes) s = .next (((s.tick dt).channels).foldl (fun st x => st.frameRx x k bytes) (s.tick dt)) := by
    simp only [exec, execSafetyFrameRx, Nat.mod_eq_of_lt hk, hrx', if_true, State.frameArrives]
  have hch : ((s.tick dt).chState x != 0) = true := by
    rw [State.chState, State.fld_tick]; exact bne_iff_ne.mpr hx
  have hkept (v : State) (y : Side) : FrameKept y k v (v.frameRx y k bytes) := .frameRx bytes
  obtain ⟨v, ⟨hvr, hvc⟩, hvi, hvt, hr, hc⟩ := channels_fold hkept hk (fun y => (s.tick dt).chState y != 0) hch (s.tick dt)
  obtain ⟨hkr, hkev, -⟩ := channels_fold_kept (k := k) hkept (s.tick dt).channels (s.tick dt)
  refine ⟨v, ⟨fun a ha => (hvr a ha).trans (State.rd_tick ..), hvc⟩, hvi, hvt, Does.of_eq he fun t ht => ?_⟩
  rw [ht]
  refine ⟨hr, hc, hkev.trans rfl, fun a ha => (hkr a ha).trans (State.rd_tick ..), State.eq_regs_safe_recent (by simp [-State.tick_tags])⟩

theorem Does.imp {i : Instr} {P Q : State → Prop} (h : Does i s P) (hPQ : ∀ t, P t → Q t) : Does i s Q := by
  obtain ⟨t, he, hp⟩ := h
  exact ⟨t, he, hPQ t hp⟩

theorem State.fld_congr {a : Nat} (h : t.rd a = s.rd a) (f : Field) : t.fld a f = s.fld a f := by rw [State.fld, h, State.fld]

theorem mem_frameRegs (x : Side) (k : Nat) : sideAddr x Reg.SAFE_STAT ∈ frameRegs x k ∧ sideAddr x (Reg.SAFE_CONN_STAT k) ∈ frameRegs x k
    ∧ sideAddr x (Reg.SAFE_CONN_CNT k) ∈ frameRegs x k := by simp [frameRegs]

theorem frameAccepted_row (dt : Nat) (bytes : List Byte) (hk : k < 16) (hrx : s.connRx k = true) (hx : s.chState x ≠ 0)
    (hok : s.frameOk x k bytes = true) (hg : (s.conn x k).got = true) (h1 : 1 ≤ s.seqStep x k bytes) (h16 : s.seqStep x k bytes ≤ 16) :
    Does (.safetyFrameRx dt k bytes) s fun t =>
      t.fld (sideAddr x (Reg.SAFE_CONN_STAT k)) Fld.SAFE_CONN_STAT_SEQ = leNat ((bytes.drop 2).take 2)
      ∧ t.fld (sideAddr x (Reg.SAFE_CONN_CNT k)) Fld.SAFE_CONN_CNT_LOST_FRAMES
          = min (s.fld (sideAddr x (Reg.SAFE_CONN_CNT k)) Fld.SAFE_CONN_CNT_LOST_FRAMES + (s.seqStep x k bytes - 1)) 0xFFFF
      ∧ (t.conn x k).last = (s.tick dt).tm.mono ∧ (t.conn x k).zone = (leNat ((bytes.drop 8).take 1)).testBit 0
      ∧ (t.conn x k).stopIn = (leNat ((bytes.drop 8).take 1)).testBit 1
      ∧ (s.connState x k = 3 → t.connState x k = if 3 ≤ (s.conn x k).run + 1 then 2 else 3)
      ∧ Silent s t ∧ RegsBut (connRegs k) s t ∧ t = { s.tick dt with regs := t.regs, safe := t.safe, recent := t.recent } := by
  obtain ⟨v, ⟨hvr, hvc⟩, hvi, hvt, hdoes⟩ := frameArrives_at (s := s) (x := x) dt bytes hk hrx hx
  obtain ⟨-, hstat, hcnt⟩ := mem_frameRegs x k
  have hseq : v.seqStep x k bytes = s.seqStep x k bytes := by
    rw [State.seqStep, State.fld_congr (hvr _ hstat), State.seqStep]
  generalize hw : v.bump (sideAddr x (Reg.SAFE_CONN_CNT k)) Fld.SAFE_CONN_CNT_LOST_FRAMES (s.seqStep x k bytes - 1) = w
  have hrxv : v.frameRx x k bytes = w.frameAccept x k bytes := by
    rw [v.frameRx_good bytes (by rw [State.frameOk_congr hvi, hok]) (by rw [hvc, hg]), hseq, if_neg (by omega), if_pos h16, hw]
  have hne := (connRegs_ne x k).1
  have hwconn : w.conn x k = s.conn x k := by rw [← hvc, ← hw]; rfl
  have hwtm : w.tm = (s.tick dt).tm := by rw [← hvt, ← hw]; rfl
  have hwst : w.connState x k = s.connState x k := by
    rw [State.connState, ← hw, State.fld_bump_other _ _ _ _ _ _ hne, State.fld_congr (hvr _ hstat), State.connState]
  have hwcnt : w.fld (sideAddr x (Reg.SAFE_CONN_CNT k)) Fld.SAFE_CONN_CNT_LOST_FRAMES
      = min (s.fld (sideAddr x (Reg.SAFE_CONN_CNT k)) Fld.SAFE_CONN_CNT_LOST_FRAMES + (s.seqStep x k bytes - 1)) 0xFFFF := by
    rw [← hw, State.fld_bump_same _ _ _ _ (by decide), State.fld_congr (hvr _ hcnt)]; rfl
  obtain ⟨haseq, hacnt, hast, haconn⟩ := w.frameAccept_facts (x := x) (k := k) bytes
  obtain ⟨-, -, -, htaken⟩ := w.frameTaken_facts (x := x) (k := k) bytes
  rw [hrxv] at hdoes
  refine hdoes.imp fun t ⟨hr, hc, hframe⟩ => ?_
  rw [haconn, htaken] at hc
  refine ⟨?_, ?_, by rw [hc, hwtm], by rw [hc], by rw [hc], fun h3 => ?_, hframe⟩
  · rw [State.fld_congr (hr _ hstat), haseq]
  · rw [State.fld_congr (hr _ hcnt), State.fld_congr hacnt, hwcnt]
  · rw [State.connState, State.fld_congr (hr _ hstat), ← State.connState, hast (hwst.trans h3), hwconn]

/-- A frame that the channel drops counts in one field of the connection and changes nothing else of it. -/
theorem frameDropped (dt : Nat) (bytes : List Byte) (hk : k < 16) (hrx : s.connRx k = true) (hx : s.chState x ≠ 0) (f : Field)
    (hf : f.lo + f.width ≤ 32)
    (hdrop : ∀ v : State, (∀ a ∈ frameRegs x k, v.rd a = s.rd a) → v.conn x k = s.conn x k → v.img = s.img → v.frameRx x k bytes = v.frameDrop x k f) :
    Does (.safetyFrameRx dt k bytes) s fun t =>
      t.fld (sideAddr x (Reg.SAFE_CONN_CNT k)) f = min (s.fld (sideAddr x (Reg.SAFE_CONN_CNT k)) f + 1) (2 ^ f.width - 1)
      ∧ t.rd (sideAddr x (Reg.SAFE_CONN_STAT k)) = s.rd (sideAddr x (Reg.SAFE_CONN_STAT k)) ∧ (t.conn x k).last = (s.conn x k).last
      ∧ Silent s t ∧ RegsBut (connRegs k) s t := by
  obtain ⟨v, ⟨hvr, hvc⟩, hvi, -, hdoes⟩ := frameArrives_at (s := s) (x := x) dt bytes hk hrx hx
  obtain ⟨-, hstat, hcnt⟩ := mem_frameRegs x k
  obtain ⟨hcount, hrd, hlast⟩ := v.frameDrop_facts (x := x) (k := k) f hf
  rw [hdrop v hvr hvc hvi] at hdoes
  refine hdoes.imp fun t ⟨hr, hc, hsilent, hregs, _⟩ => ⟨?_, ?_, ?_, hsilent, hregs⟩
  · rw [State.fld_congr (hr _ hcnt), hcount, State.fld_congr (hvr _ hcnt)]
  · rw [hr _ hstat, hrd, hvr _ hstat]
  · rw [hc, hlast, hvc]

theorem frameBad_row (dt : Nat) (bytes : List Byte) (hk : k < 16) (hrx : s.connRx k = true) (hx : s.chState x ≠ 0)
    (hok : s.frameOk x k bytes = false) :
    Does (.safetyFrameRx dt k bytes) s fun t =>
      t.fld (sideAddr x (Reg.SAFE_CONN_CNT k)) Fld.SAFE_CONN_CNT_BAD = min (s.fld (sideAddr x (Reg.SAFE_CONN_CNT k)) Fld.SAFE_CONN_CNT_BAD + 1) 0xFF
      ∧ t.rd (sideAddr x (Reg.SAFE_CONN_STAT k)) = s.rd (sideAddr x (Reg.SAFE_CONN_STAT k)) ∧ (t.conn x k).last = (s.conn x k).last
      ∧ Silent s t ∧ RegsBut (connRegs k) s t :=
  frameDropped dt bytes hk hrx hx Fld.SAFE_CONN_CNT_BAD (by decide) fun v _ _ hi => v.frameRx_bad bytes (by rw [State.frameOk_congr hi, hok])

theorem frameRepeated_row (dt : Nat) (bytes : List Byte) (hk : k < 16) (hrx : s.connRx k = true) (hx : s.chState x ≠ 0)
    (hok : s.frameOk x k bytes = true) (hg : (s.conn x k).got = true)
    (hq : leNat ((bytes.drop 2).take 2) = s.fld (sideAddr x (Reg.SAFE_CONN_STAT k)) Fld.SAFE_CONN_STAT_SEQ) :
    Does (.safetyFrameRx dt k bytes) s fun t =>
      t.fld (sideAddr x (Reg.SAFE_CONN_CNT k)) Fld.SAFE_CONN_CNT_REPEATS
        = min (s.fld (sideAddr x (Reg.SAFE_CONN_CNT k)) Fld.SAFE_CONN_CNT_REPEATS + 1) 0xFF
      ∧ t.rd (sideAddr x (Reg.SAFE_CONN_STAT k)) = s.rd (sideAddr x (Reg.SAFE_CONN_STAT k)) ∧ (t.conn x k).last = (s.conn x k).last
      ∧ Silent s t ∧ RegsBut (connRegs k) s t :=
  frameDropped dt bytes hk hrx hx Fld.SAFE_CONN_CNT_REPEATS (by decide) fun v hr hc hi => by
    have hseq : v.seqStep x k bytes = 0 := by
      rw [State.seqStep, State.fld_congr (hr _ (mem_frameRegs x k).2.1), hq, Nat.add_sub_cancel_left]
    rw [v.frameRx_good bytes (by rw [State.frameOk_congr hi, hok]) (by rw [hc, hg]), if_pos hseq]

theorem frameOld_row (dt : Nat) (bytes : List Byte) (hk : k < 16) (hrx : s.connRx k = true) (hx : s.chState x ≠ 0)
    (hok : s.frameOk x k bytes = true) (hg : (s.conn x k).got = true) (h16 : 16 < s.seqStep x k bytes) :
    Does (.safetyFrameRx dt k bytes) s fun t =>
      t.fld (sideAddr x (Reg.SAFE_CONN_CNT k)) Fld.SAFE_CONN_CNT_BAD = min (s.fld (sideAddr x (Reg.SAFE_CONN_CNT k)) Fld.SAFE_CONN_CNT_BAD + 1) 0xFF
      ∧ t.rd (sideAddr x (Reg.SAFE_CONN_STAT k)) = s.rd (sideAddr x (Reg.SAFE_CONN_STAT k)) ∧ (t.conn x k).last = (s.conn x k).last
      ∧ Silent s t ∧ RegsBut (connRegs k) s t :=
  frameDropped dt bytes hk hrx hx Fld.SAFE_CONN_CNT_BAD (by decide) fun v hr hc hi => by
    have hseq : v.seqStep x k bytes = s.seqStep x k bytes := by
      rw [State.seqStep, State.fld_congr (hr _ (mem_frameRegs x k).2.1), State.seqStep]
    rw [v.frameRx_good bytes (by rw [State.frameOk_congr hi, hok]) (by rw [hc, hg]), hseq, if_neg (by omega), if_neg (by omega)]

/-! ### CONN_WATCHDOG (R510) -/

/-- A silent connection in a channel. -/
def State.connLost (s : State) (k : Nat) (x : Side) : State := (s.setConnState x k 3).setConn x k { s.conn x k with run := 0 }

theorem FrameKept.connLost : FrameKept x k s (s.connLost k x) := (FrameKept.setConnState 3).trans (FrameKept.setConn _)

theorem State.connLost_facts (hk : k < 16) : (s.connLost k x).connState x k = 3
    ∧ ((s.connLost k x).fld (sideAddr x Reg.SAFE_STAT) Fld.SAFE_STAT_CONN_LOST).testBit k = true := by
  refine ⟨?_, ?_⟩
  · rw [State.connState, State.connLost, State.fld_setConn]
    exact State.connState_setConnState 3 (by decide)
  · rw [State.connLost, State.fld_setConn]
    simp only [State.setConnState]
    rw [State.fld_setF_same _ _ _ _ (by decide), Nat.testBit_mod_two_pow, show (3 == 3 : Bool) = true from rfl, testBit_withBit]
    exact Bool.and_eq_true_iff.mpr ⟨decide_eq_true hk, rfl⟩

theorem State.eq_regs_ev_safe (h : t.outside [.regs, .ev, .safe] = u.outside [.regs, .ev, .safe]) :
    t = { u with regs := t.regs, ev := t.ev, safe := t.safe } := State.eq_patch h

theorem connWatchdog_row (dt : Nat) (hk : k < 16) (hrx : s.connRx k = true) (hx : s.chState x ≠ 0)
    (hst : s.connState x k = 1 ∨ s.connState x k = 2) (hw : Config.msec (s.parN (Par.connWd k)) ≤ (s.tick dt).since (s.conn x k).last) :
    Does (.connWatchdog dt k) s fun t =>
      t.connState x k = 3 ∧ (t.fld (sideAddr x Reg.SAFE_STAT) Fld.SAFE_STAT_CONN_LOST).testBit k = true
      ∧ Posted Ev.SAFE_CONN_LOST (evArg k 0 0) (s.tick dt) t ∧ RegsBut (connRegs k) s t
      ∧ t = { s.tick dt with regs := t.regs, ev := t.ev, safe := t.safe } := by
  have hrx' : (s.tick dt).connRx k = true := hrx
  have hf (a : Nat) (f : Field) : (s.tick dt).fld a f = s.fld a f := State.fld_tick ..
  have hch : ((s.tick dt).chState x != 0) = true := by rw [State.chState, hf]; exact bne_iff_ne.mpr hx
  have hdue : (((s.tick dt).connState x k == 1 || (s.tick dt).connState x k == 2)
      && decide (Config.msec ((s.tick dt).parN (Par.connWd k)) ≤ (s.tick dt).since ((s.tick dt).conn x k).last)) = true := by
    refine Bool.and_eq_true_iff.mpr ⟨?_, decide_eq_true hw⟩
    rw [State.connState, hf]
    exact hst.elim (fun h => Bool.or_eq_true_iff.mpr (.inl (beq_iff_eq.mpr h))) fun h => Bool.or_eq_true_iff.mpr (.inr (beq_iff_eq.mpr h))
  generalize hp : (fun y => ((s.tick dt).connState y k == 1 || (s.tick dt).connState y k == 2)
    && decide (Config.msec ((s.tick dt).parN (Par.connWd k)) ≤ (s.tick dt).since ((s.tick dt).conn y k).last)) = p
  have hpx : (p x && (s.tick dt).chState x != 0) = true := by rw [← hp, hch]; exact Bool.and_eq_true_iff.mpr ⟨hdue, rfl⟩
  have hxs : (s.tick dt).channels.filter p = [Side.a, Side.b].filter fun y => p y && (s.tick dt).chState y != 0 := List.filter_filter
  have hne : (!((s.tick dt).channels.filter p).isEmpty) = true := by
    have hmem : x ∈ (s.tick dt).channels.filter p := by
      rw [hxs]; exact List.mem_filter.mpr ⟨by cases x <;> simp, hpx⟩
    cases h : (s.tick dt).channels.filter p with
    | nil => rw [h] at hmem; exact absurd hmem List.not_mem_nil
    | cons y l => rfl
  have he : exec (.connWatchdog dt k) s =
      .next ((((s.tick dt).channels.filter p).foldl (fun st y => st.connLost k y) (s.tick dt)).post Ev.SAFE_CONN_LOST k) := by
    simp only [exec, execConnWatchdog, Nat.mod_eq_of_lt hk, hp]
    exact if_pos ⟨hrx', hne⟩
  have hkept (v : State) (y : Side) : FrameKept y k v (v.connLost k y) := .connLost
  obtain ⟨v, -, -, -, hr, -⟩ := channels_fold hkept hk (fun y => p y && (s.tick dt).chState y != 0) hpx (s.tick dt)
  obtain ⟨hkr, hkev, hktm⟩ := channels_fold_kept (k := k) hkept ((s.tick dt).channels.filter p) (s.tick dt)
  rw [← hxs] at hr
  have hout : (((s.tick dt).channels.filter p).foldl (fun st y => st.connLost k y) (s.tick dt)).outside [.regs, .ev, .safe]
      = (s.tick dt).outside [.regs, .ev, .safe] := foldl_outside (fun t y => by simp [State.connLost]) _ _
  generalize ((s.tick dt).channels.filter p).foldl (fun st y => st.connLost k y) (s.tick dt) = w at he hr hkr hkev hktm hout
  obtain ⟨hmstat, hmconn, -⟩ := mem_frameRegs x k
  obtain ⟨hlost, hbit⟩ := v.connLost_facts (x := x) hk
  refine Does.of_eq he fun t ht => ?_
  have htr (a : Nat) : t.rd a = w.rd a := by rw [ht, State.rd_post]
  refine ⟨?_, ?_, ?_, fun a ha => ?_, State.eq_regs_ev_safe (by rw [ht]; simpa [-State.tick_tags] using hout)⟩
  · rw [State.connState, State.fld_congr ((htr _).trans (hr _ hmconn))]; exact hlost
  · rw [State.fld_congr ((htr _).trans (hr _ hmstat))]; exact hbit
  · rw [ht]
    exact (posted_postArg Ev.SAFE_CONN_LOST (evArg k 0 0) w).congr (by rw [hkev]) (by rw [hktm]) rfl
  · rw [htr, hkr a ha, State.rd_tick]

/-! ### SAFETY_FRAME_TX (R507, R509) -/

theorem State.txHead_tick (dt : Nat) (seq : Nat) : (s.tick dt).txHead x k seq = s.txHead x k seq := by
  have hf (a : Nat) (f : Field) : (s.tick dt).fld a f = s.fld a f := State.fld_tick ..
  have hp (j : Nat) : (s.tick dt).parN j = s.parN j := State.parN_congr rfl j
  have hrx (j : Nat) : (s.tick dt).connRx j = s.connRx j := rfl
  have hsafe : (s.tick dt).safe = s.safe := rfl
  have hvar : (s.tick dt).variant = s.variant := rfl
  simp only [State.txHead, State.txData, State.axState, State.axF, State.chState, State.estopActive, hf, hp, hrx, hsafe, hvar]

/-- A channel's connection as a frame leaves. -/
def State.txSent (s : State) (k seq : Nat) (bs : List Byte) (x : Side) : State :=
  ((s.setF (sideAddr x (Reg.SAFE_CONN_STAT k)) Fld.SAFE_CONN_STAT_SEQ seq).setConn x k
    { s.conn x k with txAt := s.tm.mono, sent := bs, got := true }).setConnState x k 2

theorem FrameKept.txSent (seq : Nat) (bs : List Byte) : FrameKept x k s (s.txSent k seq bs x) :=
  ((FrameKept.setF _ _ (mem_frameRegs x k).2.1).trans (FrameKept.setConn _)).trans (FrameKept.setConnState 2)

theorem State.txSent_facts (seq : Nat) (bs : List Byte) (h : seq < 65536) :
    (s.txSent k seq bs x).fld (sideAddr x (Reg.SAFE_CONN_STAT k)) Fld.SAFE_CONN_STAT_SEQ = seq ∧ ((s.txSent k seq bs x).conn x k).sent = bs := by
  refine ⟨?_, ?_⟩
  · rw [State.txSent, State.fld_setConnState_seq, State.fld_setConn, State.fld_setF_same _ _ _ _ (by decide)]
    exact Nat.mod_eq_of_lt h
  · have hconn (v : State) (n : Nat) : (v.setConnState x k n).conn x k = v.conn x k := rfl
    rw [State.txSent, hconn, State.conn_setConn_same]

theorem State.chState_txSent (seq : Nat) (bs : List Byte) (y : Side) : (s.txSent k seq bs x).chState y = s.chState y := by
  have hd : (chField y).lo + (chField y).width ≤ 32
      ∧ (Fld.SAFE_STAT_CONN_LOST.lo + Fld.SAFE_STAT_CONN_LOST.width ≤ (chField y).lo) := by cases y <;> decide
  have hne : sideAddr x (Reg.SAFE_CONN_STAT k) ≠ Reg.SAFE_STAT := by
    simp only [sideAddr, Reg.SAFE_CONN_STAT, Reg.SAFE_STAT]; omega
  simp only [State.txSent, State.setConnState, State.chState]
  by_cases hs : sideAddr x Reg.SAFE_STAT = Reg.SAFE_STAT
  · rw [hs, State.fld_setF_field _ _ _ _ _ hd.1 (.inr hd.2), State.fld_setF_other _ _ _ _ _ _ hne, State.fld_setConn,
      State.fld_setF_other _ _ _ _ _ _ hne]
  · rw [State.fld_setF_other _ _ _ _ _ _ hs, State.fld_setF_other _ _ _ _ _ _ hne, State.fld_setConn, State.fld_setF_other _ _ _ _ _ _ hne]

theorem State.txSend_running (seq : Nat) (bs : List Byte) (h : ∀ y, (s.txPort k bs).chState y ≠ 0) :
    s.txSend k seq bs = ((s.txPort k bs).txSent k seq bs .a).txSent k seq bs .b := by
  have hne (v : State) (y : Side) (c : Conn3) : ((v.setF (sideAddr y (Reg.SAFE_CONN_STAT k)) Fld.SAFE_CONN_STAT_SEQ seq).setConn y k c).chState y
      = v.chState y := by
    have hne : sideAddr y (Reg.SAFE_CONN_STAT k) ≠ Reg.SAFE_STAT := by
      simp only [sideAddr, Reg.SAFE_CONN_STAT, Reg.SAFE_STAT]; omega
    rw [State.chState, State.fld_setConn, State.fld_setF_other _ _ _ _ _ _ hne, State.chState]
  have hb : ((s.txPort k bs).txSent k seq bs .a).chState .b ≠ 0 := by rw [State.chState_txSent]; exact h .b
  simp only [State.txSend, List.foldl_cons, List.foldl_nil, hne, if_neg (h .a)]
  exact if_neg hb

theorem State.eq_regs_safe_host (h : t.outside [.regs, .safe, .host] = u.outside [.regs, .safe, .host]) :
    t = { u with regs := t.regs, safe := t.safe, host := t.host } := State.eq_patch h

theorem State.eq_ev_safe (h : t.outside [.ev, .safe] = u.outside [.ev, .safe]) : t = { u with ev := t.ev, safe := t.safe } := State.eq_patch h

/-- The next SEQ of a connection. -/
def State.nextSeq (s : State) (k : Nat) : Nat := (s.fld (Reg.SAFE_CONN_STAT k) Fld.SAFE_CONN_STAT_SEQ + 1) % 65536

/-- The bytes of a TX frame that both channels form. -/
def State.txBytes (s : State) (k seq : Nat) : List Byte :=
  s.txHead .a k seq ++ leBytes 4 (crcA (s.parN (Par.connKeyA k)) (s.txHead .a k seq)).toNat
    ++ leBytes 4 (crcB (s.parN (Par.connKeyB k)) (s.txHead .b k seq)).toNat

theorem exec_safetyFrameTx (dt : Nat) (hk : k < 16) (hu : s.connUsed k = true) (hd : s.parN (Par.connDir k) = 0)
    (hdue : (s.conn .a k).got = false ∨ Config.msec (s.parN (Par.connPeriod k)) ≤ (s.tick dt).since (s.conn .a k).txAt) :
    exec (.safetyFrameTx dt k) s = .next ((s.tick dt).txFrame k) := by
  have hc : (s.tick dt).connUsed k = true ∧ (s.tick dt).parN (Par.connDir k) = 0 ∧ (!((s.tick dt).conn .a k).got
      || decide (Config.msec ((s.tick dt).parN (Par.connPeriod k)) ≤ (s.tick dt).since ((s.tick dt).conn .a k).txAt)) = true := by
    refine ⟨hu, hd, ?_⟩
    obtain hg | hp := hdue
    · rw [show ((s.tick dt).conn .a k).got = false from hg]; rfl
    · exact Bool.or_eq_true_iff.mpr (.inr (decide_eq_true hp))
  simp only [exec, execSafetyFrameTx, Nat.mod_eq_of_lt hk]
  exact if_pos hc

theorem State.txFrame_both (ha : s.chState .a ≠ 0) (hb : s.chState .b ≠ 0) : s.txFrame k =
    if s.txHead .a k (s.nextSeq k) = s.txHead .b k (s.nextSeq k) then s.txSend k (s.nextSeq k) (s.txBytes k (s.nextSeq k))
    else ((s.setConn .a k { s.conn .a k with txAt := s.tm.mono }).setConn .b k
      { (s.setConn .a k { s.conn .a k with txAt := s.tm.mono }).conn .b k with
        txAt := (s.setConn .a k { s.conn .a k with txAt := s.tm.mono }).tm.mono }).post Ev.SAFE_CROSS k := by
  have hon : (s.chState .a != 0 && s.chState .b != 0) = true := Bool.and_eq_true_iff.mpr ⟨bne_iff_ne.mpr ha, bne_iff_ne.mpr hb⟩
  unfold State.txFrame
  extract_lets seq h1 h2 ca cb onA onB s1
  exact if_pos hon

theorem frameTx_row (dt : Nat) (hk : k < 16) (hu : s.connUsed k = true) (hd : s.parN (Par.connDir k) = 0)
    (hch : ∀ x ∈ [Side.a, Side.b], s.chState x ≠ 0)
    (hdue : (s.conn .a k).got = false ∨ Config.msec (s.parN (Par.connPeriod k)) ≤ (s.tick dt).since (s.conn .a k).txAt)
    (hcan : s.parN (Par.connCan k) = 0) (heq : s.txHead .a k (s.nextSeq k) = s.txHead .b k (s.nextSeq k)) :
    Does (.safetyFrameTx dt k) s fun t =>
      (∀ x ∈ [Side.a, Side.b], (t.conn x k).sent = s.txHead .a k (t.fld (Reg.SAFE_CONN_STAT k) Fld.SAFE_CONN_STAT_SEQ)
          ++ leBytes 4 (crcA (s.parN (Par.connKeyA k)) (s.txHead .a k (t.fld (Reg.SAFE_CONN_STAT k) Fld.SAFE_CONN_STAT_SEQ))).toNat
          ++ leBytes 4 (crcB (s.parN (Par.connKeyB k)) (s.txHead .b k (t.fld (Reg.SAFE_CONN_STAT k) Fld.SAFE_CONN_STAT_SEQ))).toNat)
      ∧ t.fld (Reg.SAFE_CONN_STAT k) Fld.SAFE_CONN_STAT_SEQ = s.nextSeq k
      ∧ Silent s t ∧ RegsBut (connRegs k) s t ∧ t = { s.tick dt with regs := t.regs, safe := t.safe, host := t.host } := by
  have hf (a : Nat) (f : Field) : (s.tick dt).fld a f = s.fld a f := State.fld_tick ..
  have hch' (x : Side) : (s.tick dt).chState x ≠ 0 := by rw [State.chState, hf]; exact hch x (by cases x <;> simp)
  have hseq : (s.tick dt).nextSeq k = s.nextSeq k := by rw [State.nextSeq, hf, State.nextSeq]
  have hbytes : (s.tick dt).txBytes k (s.nextSeq k) = s.txBytes k (s.nextSeq k) := by
    rw [State.txBytes, State.txHead_tick, State.txHead_tick, State.txBytes]; rfl
  have he := exec_safetyFrameTx (s := s) dt hk hu hd hdue
  rw [State.txFrame_both (hch' .a) (hch' .b), hseq, State.txHead_tick, State.txHead_tick, if_pos heq, hbytes] at he
  have hport : (s.tick dt).txPort k (s.txBytes k (s.nextSeq k)) = (s.tick dt).ethSend (s.txBytes k (s.nextSeq k)) := if_pos hcan
  have hkeep : ((s.tick dt).ethSend (s.txBytes k (s.nextSeq k))).outside [.host] = (s.tick dt).outside [.host] := by simp
  generalize hv : (s.tick dt).ethSend (s.txBytes k (s.nextSeq k)) = v at hport hkeep
  have hvr (a : Nat) : v.rd a = s.rd a := by
    rw [← hv, State.rd_of_outside (s := s.tick dt) (by simp), State.rd_tick]
  have hvev : v.ev = s.ev := by rw [← hv]; exact State.ev_of_outside (s := s.tick dt) (by simp)
  have hvch (y : Side) : v.chState y ≠ 0 := by
    rw [State.chState, State.fld_congr (hvr _)]; exact hch y (by cases y <;> simp)
  rw [(s.tick dt).txSend_running _ _ (by rw [hport]; exact hvch), hport] at he
  have hlt : s.nextSeq k < 65536 := Nat.mod_lt _ (by decide)
  have hka := FrameKept.txSent (s := v) (x := .a) (k := k) (s.nextSeq k) (s.txBytes k (s.nextSeq k))
  have hkb := FrameKept.txSent (s := v.txSent k (s.nextSeq k) (s.txBytes k (s.nextSeq k)) .a) (x := .b) (k := k) (s.nextSeq k) (s.txBytes k (s.nextSeq k))
  obtain ⟨hseqa, hsenta⟩ := v.txSent_facts (x := .a) (k := k) (s.nextSeq k) (s.txBytes k (s.nextSeq k)) hlt
  obtain ⟨-, hsentb⟩ := (v.txSent k (s.nextSeq k) (s.txBytes k (s.nextSeq k)) .a).txSent_facts (x := .b) (k := k) (s.nextSeq k)
    (s.txBytes k (s.nextSeq k)) hlt
  obtain ⟨hrda, hconna⟩ := hkb.own (x := .a) hk (by decide)
  have hframe : ((v.txSent k (s.nextSeq k) (s.txBytes k (s.nextSeq k)) .a).txSent k (s.nextSeq k) (s.txBytes k (s.nextSeq k)) .b).outside
      [.regs, .safe, .host] = v.outside [.regs, .safe, .host] := by simp [State.txSent]
  have hframe' : v.outside [.regs, .safe, .host] = (s.tick dt).outside [.regs, .safe, .host] := by rw [← hv]; simp [-State.tick_tags]
  refine Does.of_eq he fun t ht => ?_
  have hts : t.fld (Reg.SAFE_CONN_STAT k) Fld.SAFE_CONN_STAT_SEQ = s.nextSeq k := by
    rw [ht]
    exact (State.fld_congr (hrda _ (mem_frameRegs .a k).2.1) _).trans hseqa
  refine ⟨fun y _ => ?_, hts, ?_, fun a ha => ?_, State.eq_regs_safe_host (by rw [ht, hframe, hframe'])⟩
  · rw [hts, ht]
    cases y with
    | a => exact (congrArg Conn3.sent hconna).trans hsenta
    | b => exact hsentb
  · rw [Silent, ht, hkb.ev, hka.ev, hvev]
  · have hno (y : Side) : a ∉ frameRegs y k := fun hm => ha (frameRegs_subset hm)
    rw [ht, hkb.rd a (hno .b), hka.rd a (hno .a), hvr]

theorem frameCross_row (dt : Nat) (hk : k < 16) (hu : s.connUsed k = true) (hd : s.parN (Par.connDir k) = 0)
    (hch : ∀ x ∈ [Side.a, Side.b], s.chState x ≠ 0)
    (hdue : (s.conn .a k).got = false ∨ Config.msec (s.parN (Par.connPeriod k)) ≤ (s.tick dt).since (s.conn .a k).txAt)
    (hne : s.txHead .a k (s.nextSeq k) ≠ s.txHead .b k (s.nextSeq k)) :
    Does (.safetyFrameTx dt k) s fun t =>
      Posted Ev.SAFE_CROSS (evArg k 0 0) (s.tick dt) t ∧ (∀ x ∈ [Side.a, Side.b], (t.conn x k).sent = (s.conn x k).sent)
      ∧ t = { s.tick dt with ev := t.ev, safe := t.safe } := by
  have hf (a : Nat) (f : Field) : (s.tick dt).fld a f = s.fld a f := State.fld_tick ..
  have hch' (x : Side) : (s.tick dt).chState x ≠ 0 := by rw [State.chState, hf]; exact hch x (by cases x <;> simp)
  have hseq : (s.tick dt).nextSeq k = s.nextSeq k := by rw [State.nextSeq, hf, State.nextSeq]
  have he := exec_safetyFrameTx (s := s) dt hk hu hd hdue
  rw [State.txFrame_both (hch' .a) (hch' .b), hseq, State.txHead_tick, State.txHead_tick, if_neg hne] at he
  generalize hv : (s.tick dt).setConn .a k { (s.tick dt).conn .a k with txAt := (s.tick dt).tm.mono } = v at he
  generalize hw : v.setConn .b k { v.conn .b k with txAt := v.tm.mono } = w at he
  refine Does.of_eq he fun t ht => ⟨?_, fun y _ => ?_, State.eq_ev_safe ?_⟩
  · rw [ht]
    exact (posted_postArg Ev.SAFE_CROSS (evArg k 0 0) w).congr (by rw [← hw, ← hv]; rfl) (by rw [← hw, ← hv]; rfl) rfl
  · have htc : t.conn y k = w.conn y k := by rw [ht]; rfl
    rw [htc, ← hw]
    cases y with
    | a => rw [State.conn_setConn_other _ (by decide), ← hv, State.conn_setConn_same]; rfl
    | b => rw [State.conn_setConn_same, ← hv, State.conn_setConn_other _ (by decide)]; rfl
  · rw [ht, ← hw, ← hv]; simp [-State.tick_tags]

end

end Sys2Proof.Machine

namespace Sys2Proof.Machine

open Sys2Proof

section

set_option Elab.async false

variable {s t u : State} {n : Nat}

/-! ### What the end of a session writes and tells (R479, R481) -/

/-- Between s and t only the outlet's session registers move, and no event is taken back. -/
def EndKept (n : Nat) (s t : State) : Prop := RegsBut (sessionRegs n) s t ∧ ∀ e ∈ s.ev.posted, e ∈ t.ev.posted

theorem EndKept.refl (n : Nat) (s : State) : EndKept n s s := ⟨fun _ _ => rfl, fun _ he => he⟩

theorem EndKept.trans (h : EndKept n s t) (h' : EndKept n t u) : EndKept n s u :=
  ⟨fun a ha => (h'.1 a ha).trans (h.1 a ha), fun e he => h'.2 e (h.2 e he)⟩

theorem EndKept.ite {c : Prop} [Decidable c] (ht : EndKept n s t) (hu : EndKept n s u) : EndKept n s (if c then t else u) := by
  split
  · exact ht
  · exact hu

theorem EndKept.of_regs_ev (hr : t.regs = s.regs) (he : t.ev = s.ev) : EndKept n s t :=
  ⟨fun a _ => State.rd_of_regs s t a hr, fun _ h => he ▸ h⟩

theorem EndKept.setF {a : Nat} (f : Field) (v : Nat) (ha : a ∈ sessionRegs n) : EndKept n s (s.setF a f v) :=
  ⟨fun _ hb => State.rd_setF_other _ _ _ _ _ fun e => hb (e ▸ ha), fun _ h => h⟩

theorem EndKept.told (h : EndKept n s t) {code : Nat} {arg : Word} (hs : Told code arg s) : Told code arg t := by
  obtain ⟨e, he, hp⟩ := List.any_eq_true.mp hs
  exact List.any_eq_true.mpr ⟨e, h.2 e he, hp⟩

theorem told_postArg (code : Nat) (arg : Word) : Told code arg (s.postArg code arg) := by
  obtain ⟨-, -, e, he, hc, ha, -⟩ := posted_postArg code arg s
  exact List.any_eq_true.mpr ⟨e, List.mem_of_getLast? he, by rw [hc, ha]; simp⟩

theorem mem_posted_postArg (code : Nat) (arg : Word) : ∀ e ∈ s.ev.posted, e ∈ (s.postArg code arg).ev.posted := by
  obtain ⟨-, htake, -⟩ := posted_postArg code arg s
  exact fun e he => List.mem_of_mem_take (htake ▸ he)

theorem EndKept.postArg (code : Nat) (arg : Word) : EndKept n s (s.postArg code arg) :=
  ⟨fun _ _ => State.rd_of_regs _ _ _ rfl, mem_posted_postArg code arg⟩

theorem EndKept.watchHit (b reason : Nat) (holds : Ctx → Bool) : EndKept n s (s.watchHit b reason holds) := by
  have hroll (t : State) (k : Nat) : EndKept n t (t.trialRollback k reason) := by
    unfold State.trialRollback
    extract_lets c s1
    have h1 : EndKept n t s1 := .of_regs_ev rfl rfl
    clear_value s1
    exact .ite (.ite (h1.trans (.postArg ..)) h1) (.refl n t)
  have hstep (t : State) (k : Nat) : EndKept n t (if (t.context k).state == .trial && (t.context k).watch.testBit b && holds (t.context k)
      then t.trialRollback k reason else t) := .ite (hroll t k) (.refl n t)
  have hfold (l : List Nat) (t : State) : EndKept n t (l.foldl (fun st k => if (st.context k).state == .trial && (st.context k).watch.testBit b
      && holds (st.context k) then st.trialRollback k reason else st) t) := by
    induction l generalizing t with
    | nil => exact .refl n t
    | cons k l ih => exact (hstep t k).trans (ih _)
  exact hfold _ s

theorem mem_sessionRegs (n : Nat) : Reg.OUTL_STAT ∈ sessionRegs n ∧ Reg.OUTL_O_STAT n ∈ sessionRegs n ∧ Reg.OUTS_O_STAT n ∈ sessionRegs n := by
  simp [sessionRegs]

theorem EndKept.setOtl (k : Nat) (v : Outlet) : EndKept n s (s.setOtl k v) := .of_regs_ev rfl rfl

theorem EndKept.setO (f : Field) (v : Nat) : EndKept n s (s.setO n f v) := .setF f v (mem_sessionRegs n).2.1

theorem EndKept.showOutl : EndKept n s s.showOutl := by
  have hset (t : State) (f : Field) (v : Nat) : EndKept n t (t.setF Reg.OUTL_STAT f v) := .setF f v (mem_sessionRegs n).1
  unfold State.showOutl
  extract_lets mask
  clear_value mask
  exact (((hset _ _ _).trans (hset _ _ _)).trans (hset _ _ _)).trans (hset _ _ _)

theorem EndKept.enterO (v : Nat) : EndKept n s (s.enterO n v) := by
  unfold State.enterO
  extract_lets s1 o s2
  have h1 : EndKept n s s1 := .setO ..
  clear_value s1
  have h2 : EndKept n s1 s2 := (EndKept.setOtl ..).trans .showOutl
  clear_value s2
  exact .ite ((h1.trans h2).trans (.watchHit ..)) (h1.trans h2)

theorem EndKept.stageStop : EndKept n s (s.stageStop n) := by
  have hset (t : State) (f : Field) (v : Nat) : EndKept n t (t.setF (Reg.OUTS_O_STAT n) f v) := .setF f v (mem_sessionRegs n).2.2
  rw [State.stageStop]
  exact .ite (((hset _ _ _).trans (hset _ _ _)).trans (.of_regs_ev rfl rfl)) (.refl n s)

theorem EndKept.contactors (b : Bool) : EndKept n s (s.contactors n b) := by
  rw [State.contactors]
  exact .ite (.refl n s) (.setOtl ..)

theorem EndKept.disch (b : Bool) : EndKept n s (s.disch n b) := .setO ..

theorem EndKept.endDone : EndKept n s (s.endDone n) := by
  unfold State.endDone
  extract_lets s1 o s2 p s3
  have h1 : EndKept n s s1 := .enterO _
  clear_value s1
  have h2 : EndKept n s1 s3 := .of_regs_ev rfl rfl
  clear_value s3
  exact (h1.trans h2).trans (.disch _)

theorem EndKept.opened : EndKept n s (s.opened n) := by
  have hweld : EndKept n s ((s.enterO n 9).disch n true) := (EndKept.enterO 9).trans (.disch _)
  rw [State.opened]
  exact .ite hweld (.ite .endDone (.ite hweld (.ite .endDone (.refl n s))))

theorem EndKept.windEnd : EndKept n s (s.windEnd n) := by
  rw [State.windEnd]
  exact .ite (.refl n s) (.ite (.ite (EndKept.stageStop.trans (.contactors _)) (.refl n s)) (.ite .opened (.refl n s)))

/-! ### An emergency end (R479) -/

/-- The outlet with an emergency end's cause and cycle. -/
def State.endCaused (s : State) (n r : Nat) : State :=
  (s.setO n Fld.OUTL_O_STAT_REASON r).setOtl n { s.otl n with endCycle := some s.tm.cycleN }

/-- The outlet with an emergency end's marks, its stage stopped. -/
def State.emergencyMarked (s : State) (n : Nat) : State :=
  (s.stageStop n).setOtl n { (s.stageStop n).otl n with
    ending := 2, stopAt := (s.stageStop n).tm.mono, tally := 2
    told := if (s.stageStop n).fld (Reg.OUTL_O_STAT n) Fld.OUTL_O_STAT_PROTO = 0 then ((s.stageStop n).otl n).told else .emergencyShutdown }

theorem State.emergency_eq : s.emergency n =
    if (s.emergencyMarked n).oState n = 9 then (s.emergencyMarked n).endDone n else (s.emergencyMarked n).windEnd n := by
  rw [State.emergency, State.emergencyMarked]

theorem EndKept.emergency : EndKept n s (s.emergency n) := by
  have hmarked : EndKept n s (s.emergencyMarked n) := EndKept.stageStop.trans (.setOtl ..)
  rw [State.emergency_eq]
  exact .ite (hmarked.trans .endDone) (hmarked.trans .windEnd)

theorem State.endCause_emergency (r : Nat) (h : SessionRuns s n) (hr : emergencyReason r = true) :
    s.endCause n r = (s.endCaused n r).emergency n := by
  obtain ⟨-, h2, h7, hending, htally⟩ := h
  have hno : ¬((s.otl n).endCycle = some s.tm.cycleN ∧ 2 ≤ s.oState n ∧ (s.otl n).tally ≠ 0) := by simp [htally]
  simp only [State.endCause, if_neg hno, hr]
  exact if_pos (by simp [h2, hending]; omega)

/-- An emergency cause of a session in which no end has begun begins one (R479). -/
theorem endBegun_emergency (r : Nat) (h : SessionRuns s n) (hr : emergencyReason r = true) (hr16 : r < 16) : EndBegun n r s (s.endCause n r) := by
  have hn := h.1
  have hstop := EndStep.stageStop (n := n) (s.endCaused n r)
  have hotl : (s.endCaused n r).otl n = { s.otl n with endCycle := some s.tm.cycleN } := by rw [State.endCaused, State.otl_setOtl_same]
  have hreason : (s.endCaused n r).reason n = r := by
    have h' : (s.endCaused n r).reason n = (s.setF (Reg.OUTL_O_STAT n) Fld.OUTL_O_STAT_REASON r).fld (Reg.OUTL_O_STAT n) Fld.OUTL_O_STAT_REASON := rfl
    rw [h', State.fld_setF_same _ _ _ _ (by decide)]
    exact Nat.mod_eq_of_lt hr16
  have hstate : (s.endCaused n r).oState n = s.oState n := by
    have h' : (s.endCaused n r).oState n = (s.setF (Reg.OUTL_O_STAT n) Fld.OUTL_O_STAT_REASON r).fld (Reg.OUTL_O_STAT n) Fld.OUTL_O_STAT_STATE := rfl
    rw [h', State.fld_setF_field _ _ _ _ _ (by decide) (by decide)]
    rfl
  have hothers : OthersStay n s (s.endCaused n r) := fun k _ hk => ⟨SMap.get_put_other _ _ _ _ _ (Ne.symm hk), rfl⟩
  rw [State.endCause_emergency r h hr]
  generalize s.endCaused n r = b at hstop hotl hreason hstate hothers
  have hmotl : ((b.emergencyMarked n).otl n).endCycle = some s.tm.cycleN ∧ ((b.emergencyMarked n).otl n).tally = 2
      ∧ ((b.emergencyMarked n).otl n).stopAt = b.tm.mono := by
    rw [State.emergencyMarked, State.otl_setOtl_same]
    exact ⟨by rw [hstop.endCycle, hotl], rfl, by rw [hstop.tm]⟩
  have hmtm : (b.emergencyMarked n).tm = b.tm := hstop.tm
  have hmreason : (b.emergencyMarked n).reason n = r := hstop.reason.trans hreason
  have hmstate : (b.emergencyMarked n).oState n = s.oState n ∨ 8 ≤ (b.emergencyMarked n).oState n := hstop.state.imp_left (·.trans hstate)
  have hmothers : OthersStay n b (b.emergencyMarked n) := fun k hk hne =>
    ⟨(SMap.get_put_other _ _ _ _ _ (Ne.symm hne)).trans (hstop.others k hk hne).1, (hstop.others k hk hne).2⟩
  have hend {w : State} (hw : EndStep n (b.emergencyMarked n) w) : EndBegun n r s w := by
    obtain ⟨hc, ht, hs⟩ := hmotl
    refine ⟨hw.reason.trans hmreason, hw.endCycle.trans hc, ?_, ?_, ?_, fun k hk hne => ?_⟩
    · rw [hw.tally, ht, hr]; rfl
    · rw [hw.stopAt, hs, hw.tm, hmtm]
    · obtain he | h8 := hw.state
      · rw [he]; exact hmstate
      · exact .inr h8
    · exact ⟨((hw.others k hk hne).1.trans (hmothers k hk hne).1).trans (hothers k hk hne).1,
        ((hw.others k hk hne).2.trans (hmothers k hk hne).2).trans (hothers k hk hne).2⟩
  rw [State.emergency_eq]
  split
  · exact hend (EndStep.endDone _ hn)
  · exact hend (EndStep.windEnd _ hn)

theorem EndKept.endCause_emergency (r : Nat) (h : SessionRuns s n) (hr : emergencyReason r = true) : EndKept n s (s.endCause n r) := by
  rw [State.endCause_emergency r h hr]
  exact ((EndKept.setO ..).trans (.setOtl ..)).trans .emergency

end

end Sys2Proof.Machine

namespace Sys2Proof.Machine

open Sys2Proof

section

set_option Elab.async false

variable {s t u : State} {n : Nat}

/-! ### FB_DISCREPANCY (R505) -/

theorem EndBegun.congr {r : Nat} {b : State} (h : EndBegun n r b t) (htm : b.tm.cycleN = s.tm.cycleN) (hst : b.oState n = s.oState n)
    (houtl : b.outl = s.outl) (houts : b.outs = s.outs) : EndBegun n r s t := by
  obtain ⟨hreason, hcycle, htally, hstop, hstate, hothers⟩ := h
  have hotl (k : Nat) : b.otl k = s.otl k := by rw [State.otl, houtl, State.otl]
  have hstg (k : Nat) : b.stg k = s.stg k := by rw [State.stg, houts, State.stg]
  exact ⟨hreason, by rw [hcycle, htm], htally, hstop, by rw [← hst]; exact hstate, fun k hk hne => by
    rw [← hotl, ← hstg]; exact hothers k hk hne⟩

/-- The reaction of an outlet, told and counted. -/
def State.reacted (s : State) (n : Nat) : State :=
  let v := (s.post Ev.SAFE_REACTION (0x100 + n) 0).watchSafe
  v.channels.foldl (fun st x => st.bump (sideAddr x Reg.SAFE_CNT) Fld.SAFE_CNT_REACTIONS) v

theorem State.outletReaction_eq : s.outletReaction n = (s.reacted n).endCause n 14 := rfl

theorem State.reacted_outside {ps : List StatePart} (hp : [.regs, .ev, .ctx, .recent] ⊆ ps) : (s.reacted n).outside ps = s.outside ps := by
  simp at hp
  simp [State.reacted, hp]

theorem State.rd_reacted {a : Nat} (h : ∀ x, a ≠ sideAddr x Reg.SAFE_CNT) : (s.reacted n).rd a = s.rd a := by
  have hbump (l : List Side) (v : State) : (l.foldl (fun st x => st.bump (sideAddr x Reg.SAFE_CNT) Fld.SAFE_CNT_REACTIONS) v).rd a = v.rd a :=
    rd_foldl l (fun t x _ => State.rd_bump_other _ _ _ _ _ (h x).symm) v
  rw [State.reacted, hbump, State.rd_of_outside (s := s.post Ev.SAFE_REACTION (0x100 + n) 0) (by simp), State.rd_post]

theorem State.posted_reacted : Told Ev.SAFE_REACTION (evArg (0x100 + n) 0 0) (s.reacted n) ∧ ∀ e ∈ s.ev.posted, e ∈ (s.reacted n).ev.posted := by
  have hwatch : EndKept n (s.post Ev.SAFE_REACTION (0x100 + n) 0) (s.post Ev.SAFE_REACTION (0x100 + n) 0).watchSafe := .watchHit ..
  have hev : (s.reacted n).ev = (s.post Ev.SAFE_REACTION (0x100 + n) 0).watchSafe.ev := by
    rw [State.reacted]
    exact State.ev_of_outside (by simp)
  refine ⟨?_, fun e he => ?_⟩
  · rw [Told, hev]
    exact hwatch.told (told_postArg ..)
  · rw [hev]
    exact hwatch.2 e (mem_posted_postArg _ _ e he)

theorem withBit_lt {m i w : Nat} (hm : m < 2 ^ w) (hi : i < w) : withBit m i true < 2 ^ w := by
  rw [withBit, if_pos rfl]
  refine Nat.or_lt_two_pow hm ?_
  rw [Nat.one_shiftLeft]
  exact Nat.pow_lt_pow_right (by decide) hi

/-- An outlet's WELD as a discrepancy finds it: set where the contactor is commanded open. -/
def State.weldNoted (s : State) (n : Nat) : State :=
  if (s.otl n).cmd then s
  else s.setF Reg.SAFE_FB_STAT Fld.SAFE_FB_STAT_WELD (withBit (s.fld Reg.SAFE_FB_STAT Fld.SAFE_FB_STAT_WELD) n true)

/-- An outlet's FAULT and WELD as a discrepancy sets them, told. -/
def State.fbFaulted (s : State) (n : Nat) : State :=
  ((s.weldNoted n).setF Reg.SAFE_FB_STAT Fld.SAFE_FB_STAT_FAULT (withBit (s.fld Reg.SAFE_FB_STAT Fld.SAFE_FB_STAT_FAULT) n true)).post
    Ev.SAFE_FB_FAULT n

theorem State.weldNoted_facts (hn : n < 8) :
    ((s.weldNoted n).fld Reg.SAFE_FB_STAT Fld.SAFE_FB_STAT_WELD).testBit n
      = (!(s.otl n).cmd || (s.fld Reg.SAFE_FB_STAT Fld.SAFE_FB_STAT_WELD).testBit n)
    ∧ ∀ a, a ≠ Reg.SAFE_FB_STAT → (s.weldNoted n).rd a = s.rd a := by
  rw [State.weldNoted]
  split
  · next h => exact ⟨by rw [h]; rfl, fun _ _ => rfl⟩
  · next h =>
    refine ⟨?_, fun a ha => State.rd_setF_other _ _ _ _ _ (Ne.symm ha)⟩
    have hc : (s.otl n).cmd = false := by simpa using h
    have hlt : withBit (s.fld Reg.SAFE_FB_STAT Fld.SAFE_FB_STAT_WELD) n true < 2 ^ Fld.SAFE_FB_STAT_WELD.width := withBit_lt (fget_lt ..) hn
    rw [State.fld_setF_same _ _ _ _ (by decide), Nat.mod_eq_of_lt hlt, testBit_withBit, hc]
    rfl

theorem State.fbFaulted_facts (hn : n < 8) :
    (s.fbFaulted n).fld Reg.SAFE_FB_STAT Fld.SAFE_FB_STAT_FAULT = withBit (s.fld Reg.SAFE_FB_STAT Fld.SAFE_FB_STAT_FAULT) n true
    ∧ ((s.fbFaulted n).fld Reg.SAFE_FB_STAT Fld.SAFE_FB_STAT_WELD).testBit n
        = (!(s.otl n).cmd || (s.fld Reg.SAFE_FB_STAT Fld.SAFE_FB_STAT_WELD).testBit n)
    ∧ (∀ a, a ≠ Reg.SAFE_FB_STAT → (s.fbFaulted n).rd a = s.rd a) := by
  obtain ⟨hweld, hrd⟩ := s.weldNoted_facts hn
  have hpost (a : Nat) : (s.fbFaulted n).rd a = ((s.weldNoted n).setF Reg.SAFE_FB_STAT Fld.SAFE_FB_STAT_FAULT
      (withBit (s.fld Reg.SAFE_FB_STAT Fld.SAFE_FB_STAT_FAULT) n true)).rd a := State.rd_post ..
  refine ⟨?_, ?_, fun a ha => ?_⟩
  · rw [State.fld_congr (hpost _), State.fld_setF_same _ _ _ _ (by decide)]
    exact Nat.mod_eq_of_lt (withBit_lt (fget_lt ..) hn)
  · rw [State.fld_congr (hpost _), State.fld_setF_field _ _ _ _ _ (by decide) (by decide), hweld]
  · rw [hpost, State.rd_setF_other _ _ _ _ _ (Ne.symm ha), hrd a ha]

theorem State.fbFaulted_outside {ps : List StatePart} (hp : [.regs, .ev] ⊆ ps) : (s.fbFaulted n).outside ps = s.outside ps := by
  simp at hp
  have hweld : (s.weldNoted n).outside ps = s.outside ps := by
    rw [State.weldNoted]
    split
    · rfl
    · simp [hp]
  rw [State.fbFaulted]
  simp [hp, hweld]

theorem exec_fbDiscrepancy (dt : Nat) {pole : Nat} (hp : pole < 16) (hn : pole / 2 = n) (hd : s.poleDiffers pole = true) (hch : s.channels ≠ [])
    (hl : (s.tick dt).lastedIn s.safe.poleAt pole (Config.msec (10 * s.safeVal Reg.SAFE_IN_CFG Fld.SAFE_IN_CFG_FB_DISC)) = true)
    (hf : (s.fld Reg.SAFE_FB_STAT Fld.SAFE_FB_STAT_FAULT).testBit n = false) :
    exec (.fbDiscrepancy dt pole) s = .next (((s.tick dt).fbFaulted n).outletReaction n) := by
  have hfld (a : Nat) (f : Field) : (s.tick dt).fld a f = s.fld a f := State.fld_tick ..
  have hval : (s.tick dt).safeVal Reg.SAFE_IN_CFG Fld.SAFE_IN_CFG_FB_DISC = s.safeVal Reg.SAFE_IN_CFG Fld.SAFE_IN_CFG_FB_DISC := by
    rw [State.safeVal, hfld, State.safeVal]; rfl
  have hchans : (s.tick dt).channels = s.channels := by
    have hst (x : Side) : (s.tick dt).chState x = s.chState x := hfld ..
    simp only [State.channels, hst]
  have hc : (s.tick dt).poleDiffers pole = true ∧ (s.tick dt).lastedIn (s.tick dt).safe.poleAt pole
      (Config.msec (10 * (s.tick dt).safeVal Reg.SAFE_IN_CFG Fld.SAFE_IN_CFG_FB_DISC)) = true ∧ (!(s.tick dt).channels.isEmpty) = true := by
    refine ⟨by rw [State.poleDiffers_tick, hd], by rw [hval]; exact hl, ?_⟩
    rw [hchans]
    cases h : s.channels with
    | nil => exact absurd h hch
    | cons x l => rfl
  have hf' : ¬((s.tick dt).fld Reg.SAFE_FB_STAT Fld.SAFE_FB_STAT_FAULT).testBit n = true := by rw [hfld, hf]; exact Bool.false_ne_true
  simp only [exec, execFbDiscrepancy, Nat.mod_eq_of_lt hp, hn]
  exact (if_pos hc).trans (if_neg hf')

theorem State.eq_reaction (h : t.outside [.regs, .ev, .ctx, .outs, .outl, .recent] = u.outside [.regs, .ev, .ctx, .outs, .outl, .recent]) :
    t = { u with regs := t.regs, ev := t.ev, ctx := t.ctx, outs := t.outs, outl := t.outl, recent := t.recent } := State.eq_patch h

theorem fbDiscrepancy_row (dt pole n : Nat) (hp : pole < 16) (hn : pole / 2 = n) (hrun : SessionRuns s n) (hd : s.poleDiffers pole = true)
    (hch : s.channels ≠ [])
    (hl : (s.tick dt).lastedIn s.safe.poleAt pole (Config.msec (10 * s.safeVal Reg.SAFE_IN_CFG Fld.SAFE_IN_CFG_FB_DISC)) = true)
    (hf : (s.fld Reg.SAFE_FB_STAT Fld.SAFE_FB_STAT_FAULT).testBit n = false) :
    Does (.fbDiscrepancy dt pole) s fun t =>
      t.fld Reg.SAFE_FB_STAT Fld.SAFE_FB_STAT_FAULT = withBit (s.fld Reg.SAFE_FB_STAT Fld.SAFE_FB_STAT_FAULT) n true
      ∧ (t.fld Reg.SAFE_FB_STAT Fld.SAFE_FB_STAT_WELD).testBit n = (!(s.otl n).cmd || (s.fld Reg.SAFE_FB_STAT Fld.SAFE_FB_STAT_WELD).testBit n)
      ∧ Told Ev.SAFE_FB_FAULT (evArg n 0 0) t ∧ Told Ev.SAFE_REACTION (evArg (0x100 + n) 0 0) t
      ∧ EndBegun n 14 s t ∧ RegsBut ([Reg.SAFE_FB_STAT, sideAddr .a Reg.SAFE_CNT, sideAddr .b Reg.SAFE_CNT] ++ sessionRegs n) s t
      ∧ t = { s.tick dt with regs := t.regs, ev := t.ev, ctx := t.ctx, outs := t.outs, outl := t.outl, recent := t.recent } := by
  have he := exec_fbDiscrepancy dt hp hn hd hch hl hf
  rw [State.outletReaction_eq] at he
  obtain ⟨hfault, hweld, hrd⟩ := (s.tick dt).fbFaulted_facts hrun.1
  have htold : Told Ev.SAFE_FB_FAULT (evArg n 0 0) ((s.tick dt).fbFaulted n) := told_postArg ..
  have hout : ((s.tick dt).fbFaulted n).outside [.regs, .ev, .ctx, .recent] = (s.tick dt).outside [.regs, .ev, .ctx, .recent] :=
    State.fbFaulted_outside (by simp)
  have hotl : ((s.tick dt).otl n).cmd = (s.otl n).cmd := rfl
  rw [State.fld_tick] at hfault hweld
  rw [hotl] at hweld
  generalize (s.tick dt).fbFaulted n = v at he hfault hweld hrd htold hout
  obtain ⟨hreact, hkept⟩ := State.posted_reacted (s := v) (n := n)
  have hbout : (v.reacted n).outside [.regs, .ev, .ctx, .recent] = (s.tick dt).outside [.regs, .ev, .ctx, .recent] :=
    (State.reacted_outside (by simp)).trans hout
  have hbrd {a : Nat} (h : ∀ x, a ≠ sideAddr x Reg.SAFE_CNT) : (v.reacted n).rd a = v.rd a := State.rd_reacted h
  have htoldb : Told Ev.SAFE_FB_FAULT (evArg n 0 0) (v.reacted n) := by
    obtain ⟨e, hmem, hcode⟩ := List.any_eq_true.mp htold
    exact List.any_eq_true.mpr ⟨e, hkept e hmem, hcode⟩
  generalize v.reacted n = b at he hreact hbout hbrd htoldb
  have heq : b = { s.tick dt with regs := b.regs, ev := b.ev, ctx := b.ctx, recent := b.recent } := State.eq_patch hbout
  have hbtm : b.tm.cycleN = s.tm.cycleN := by rw [heq]; rfl
  have hboutl : b.outl = s.outl := by rw [heq]; rfl
  have hbouts : b.outs = s.outs := by rw [heq]; rfl
  have hcnt (x : Side) : Reg.OUTL_O_STAT n ≠ sideAddr x Reg.SAFE_CNT ∧ Reg.SAFE_FB_STAT ≠ sideAddr x Reg.SAFE_CNT
      ∧ Reg.OUTL_O_STAT n ≠ Reg.SAFE_FB_STAT := by
    simp only [sideAddr, Reg.OUTL_O_STAT, Reg.SAFE_CNT, Reg.SAFE_FB_STAT]
    have := hrun.1
    cases x <;> simp only [Side.code] <;> omega
  have hbst : b.oState n = s.oState n := by
    rw [State.oState, State.fld_congr (((hbrd fun x => (hcnt x).1).trans (hrd _ (hcnt .a).2.2)).trans (State.rd_tick ..)), State.oState]
  have hbotl : b.otl n = s.otl n := by rw [State.otl, hboutl, State.otl]
  have hbrun : SessionRuns b n := by
    obtain ⟨hn8, h2, h7, hending, htally⟩ := hrun
    exact ⟨hn8, hbst ▸ h2, hbst ▸ h7, by rw [hbotl, hending], by rw [hbotl, htally]⟩
  obtain ⟨hereg, heev⟩ := EndKept.endCause_emergency 14 hbrun (by decide)
  have hend := (endBegun_emergency 14 hbrun (by decide) (by decide)).congr hbtm hbst hboutl hbouts
  have hfb : Reg.SAFE_FB_STAT ∉ sessionRegs n := by
    simp only [sessionRegs, List.mem_cons, List.not_mem_nil, or_false, Reg.SAFE_FB_STAT, Reg.OUTL_STAT, Reg.OUTL_O_STAT, Reg.OUTS_O_STAT, Reg.OUTL_O_EVI]
    have := hrun.1
    omega
  refine Does.of_eq he fun t ht => ?_
  rw [← ht] at hereg heev hend
  have htfb : t.rd Reg.SAFE_FB_STAT = v.rd Reg.SAFE_FB_STAT := (hereg _ hfb).trans (hbrd fun x => (hcnt x).2.1)
  have htold' {code : Nat} {arg : Word} (h : Told code arg b) : Told code arg t := EndKept.told (n := n) ⟨hereg, heev⟩ h
  refine ⟨by rw [State.fld_congr htfb, hfault], by rw [State.fld_congr htfb, hweld], htold' htoldb, htold' hreact, hend, fun a ha => ?_,
    State.eq_reaction ?_⟩
  · simp only [List.mem_append, List.mem_cons, List.not_mem_nil, or_false, not_or] at ha
    obtain ⟨⟨hnfb, hna, hnb⟩, hses⟩ := ha
    have hncnt (x : Side) : a ≠ sideAddr x Reg.SAFE_CNT := by
      cases x
      · exact hna
      · exact hnb
    rw [hereg a hses, hbrd hncnt, hrd a hnfb, State.rd_tick]
  · have hb : b.outside [.regs, .ev, .ctx, .outs, .outl, .recent] = (s.tick dt).outside [.regs, .ev, .ctx, .outs, .outl, .recent] := by
      rw [heq]; rfl
    rw [ht, ← hb]
    simp

end

/-- Settles O38, row by row. -/
theorem safetyCommandRows : Obligations.SafetyCommandRows :=
  ⟨fun _ dt acc val h h1 h0 hagree => resetFault_row dt acc val h h1 h0 hagree,
    fun _ dt acc val x h h1 h0 hx => resetFaultWaits_row dt acc val x h h1 h0 hx,
    fun _ dt acc val h h0 h1 ho => reopen_row dt acc val h h0 h1 ho,
    fun _ dt acc val h h0 h1 ho => reopenRefused_row dt acc val h h0 h1 ho,
    fun _ dt acc val h hc hidle => safeConfirm_row dt acc val h hc hidle,
    fun _ dt acc val x h hc => safeConfirmRefused_row dt acc val x h hc,
    fun _ dt acc val n hn hval h hw hp hp' => fbAck_row dt acc val n hn hval h hw hp hp',
    fun _ dt acc val n hn hval h hw => fbAckRefused_row dt acc val n hn hval h hw,
    fun _ dt pole n hp hn hrun hd hch hl hf => fbDiscrepancy_row dt pole n hp hn hrun hd hch hl hf,
    fun _ dt _ bytes _ hk hrx hx hok hg h1 h16 => frameAccepted_row dt bytes hk hrx hx hok hg h1 h16,
    fun _ dt _ bytes _ hk hrx hx hok hg hq => frameRepeated_row dt bytes hk hrx hx hok hg hq,
    fun _ dt _ bytes _ hk hrx hx hok => frameBad_row dt bytes hk hrx hx hok,
    fun _ dt _ bytes _ hk hrx hx hok hg h16 => frameOld_row dt bytes hk hrx hx hok hg h16,
    fun _ dt _ hk hu hd hch hdue hcan heq => frameTx_row dt hk hu hd hch hdue hcan heq,
    fun _ dt _ hk hu hd hch hdue hne => frameCross_row dt hk hu hd hch hdue hne,
    fun _ dt _ _ hk hrx hx hst hw => connWatchdog_row dt hk hrx hx hst hw,
    fun _ dt acc val h hv => safeClr_row dt acc val h hv⟩

end Sys2Proof.Machine

namespace Sys2Proof.Machine

open Sys2Proof

/-! ### The operation of a tile (R196, R202 to R207): what it leaves (O22) -/

section
set_option Elab.async false

variable {s : State} {x : Side} {n : Nat} {f : State → Tile → Tile}

@[simp] theorem State.tile_setTile_same (v : Tile) : (s.setTile x n v).tile x n = v := SMap.get_put_same _ _ _ _

@[simp] theorem State.tileRuns_tick (dt : Nat) : (s.tick dt).tileRuns x n = s.tileRuns x n := rfl

@[simp] theorem State.readyTile_tick (dt : Nat) : (s.tick dt).readyTile x n = s.readyTile x n := rfl

@[simp] theorem State.loopParam_tick (dt k : Nat) : (s.tick dt).loopParam n k = s.loopParam n k := rfl

@[simp] theorem State.loopShift_tick (dt k : Nat) : (s.tick dt).loopShift n k = s.loopShift n k := rfl

/-- An operation that moves neither the place in the program nor its repeats: the tile becomes what it makes of the ready tile, and the program
goes on by one instruction. -/
def Tile.KeepsPlace (t u : Tile) : Prop := u.pc = t.pc ∧ u.rep = t.rep

theorem tileOp_does {i : Instr} {dt : Nat} (h : s.tileRuns x n = true) (he : exec i s = .next ((s.tick dt).tileOp x n f))
    (hf : (s.readyTile x n).KeepsPlace (f (s.tick dt) (s.readyTile x n))) :
    Does i s fun t => t.tile x n = (f (s.tick dt) (s.readyTile x n)).next ∧ TileAdvanced s dt x n t := by
  have hrun : (s.tick dt).tileOp x n f
      = { (s.tick dt).setTile x n (f (s.tick dt) (s.readyTile x n)).next with free := s.free + 4097 } := if_pos h
  refine Does.of_eq (he.trans (congrArg _ hrun)) fun t ht => ?_
  have hw : t.tile x n = (f (s.tick dt) (s.readyTile x n)).next := by rw [ht]; exact SMap.get_put_same _ _ _ _
  refine ⟨hw, ?_, ?_⟩
  · rw [hw, ← hf.1, ← hf.2]; rfl
  · rw [hw, ht]; rfl

/-! ### Multiply-accumulate (R202, R203) -/

theorem Tile.setAcc_acc (t : Tile) (a : Nat) (v : Int) : (t.setAcc a v).acc = SMap.put (fun _ => 0) t.acc (a % 4) (satAcc v).1 := rfl

theorem Tile.setAcc_flags (t : Tile) (a : Nat) (v : Int) :
    (t.setAcc a v).flags = if (satAcc v).2 then withBit t.flags 8 true else t.flags := rfl

/-- A multiply-accumulate step without a residue mismatch leaves the accumulator at the saturated sum v. -/
theorem macStep_row {i : Instr} {dt a k : Nat} {src : Opnd} {sign : Int} {clear : Bool} (v : Int) (h : s.tileRuns x n = true)
    (he : exec i s = .next ((s.tick dt).macStep x n a k src sign clear false))
    (hv : (if clear then 0 else (s.readyTile x n).accOf a)
      + sign * macTerm (s.loopParam n k).toInt (s.loopShift n k) ((s.tick dt).opnd n (s.readyTile x n) src).toInt = v) :
    Does i s fun t =>
      (t.tile x n).acc = SMap.put (fun _ => 0) (s.readyTile x n).acc (a % 4) (satAcc v).1
      ∧ (t.tile x n).flags = (if (satAcc v).2 then withBit (s.readyTile x n).flags 8 true else (s.readyTile x n).flags)
      ∧ (t.tile x n).data = (s.readyTile x n).data
      ∧ TileAdvanced s dt x n t := by
  have he' : exec i s = .next ((s.tick dt).tileOp x n fun st t => t.setAcc a ((if clear then 0 else t.accOf a)
      + sign * macTerm (st.loopParam n k).toInt (st.loopShift n k) (st.opnd n t src).toInt)) := he
  refine (tileOp_does h he' ⟨rfl, rfl⟩).imp fun t ⟨hw, hadv⟩ => ?_
  have hw' : t.tile x n = ((s.readyTile x n).setAcc a v).next := by rw [hw, ← hv]; rfl
  refine ⟨?_, ?_, ?_, hadv⟩
  · rw [hw']; exact Tile.setAcc_acc _ a v
  · rw [hw']; exact Tile.setAcc_flags _ a v
  · rw [hw']; rfl

/-! ### Words written (R204, R206, R216) -/

theorem Tile.result_facts (t : Tile) (dst : Nat) (v : Int) (feeds : Bool) :
    TileWrote t (t.result dst v feeds) dst v ∧ t.KeepsPlace (t.result dst v feeds) := by
  unfold TileWrote Tile.result
  obtain ⟨w, o⟩ := sat32 v
  cases o with
  | true => exact ⟨⟨rfl, rfl, rfl, rfl⟩, rfl, rfl⟩
  | false => exact ⟨⟨rfl, rfl, rfl, rfl⟩, rfl, rfl⟩

theorem tileResult_row {i : Instr} {dt dst : Nat} {feeds : Bool} {g : State → Tile → Int} {v : Int} (h : s.tileRuns x n = true)
    (he : exec i s = .next ((s.tick dt).tileOp x n fun st t => t.result dst (g st t) feeds)) (hv : g (s.tick dt) (s.readyTile x n) = v) :
    Does i s fun t => TileWrote (s.readyTile x n) (t.tile x n) dst v ∧ TileAdvanced s dt x n t := by
  have hplace : (s.readyTile x n).KeepsPlace ((s.readyTile x n).result dst (g (s.tick dt) (s.readyTile x n)) feeds) := (Tile.result_facts ..).2
  refine (tileOp_does h he hplace).imp fun t ⟨hw, hadv⟩ => ⟨?_, hadv⟩
  rw [hw, hv]
  exact (Tile.result_facts ..).1

theorem tileScale_row (dt : Nat) (a : Opnd) (sh : Int) (dst : Nat) (h : s.tileRuns x n = true) (hlo : -31 ≤ sh) (hhi : sh ≤ 31) :
    Does (.tileScale dt x n a sh dst) s fun t =>
      TileWrote (s.readyTile x n) (t.tile x n) dst (shiftInt ((s.tick dt).opnd n (s.readyTile x n) a).toInt sh) ∧ TileAdvanced s dt x n t := by
  have hsh : clampInt (-31) 31 sh = sh := by
    simp only [clampInt]; omega
  exact tileResult_row h rfl (by rw [hsh])

/-! ### A residue mismatch (R207) -/

theorem State.side_setF (a : Nat) (fl : Field) (v : Nat) (y : Side) : (s.setF a fl v).side y = s.side y := rfl

/-- The registers in which a side shows its tiles' residue faults. -/
theorem loopReg_ne {n : Nat} (hn : n < 64) (x : Side) : loopReg x (Reg.LOOP_TSTAT n) ≠ loopReg x Reg.LOOP_STAT
    ∧ loopReg x (Reg.LOOP_TSTAT n) ≠ Reg.KEEP_STAT ∧ loopReg x (Reg.LOOP_TSTAT n) ≠ Reg.SAFE_STAT := by
  cases x <;> simp only [loopReg, Reg.LOOP_TSTAT, Reg.LOOP_STAT, Reg.KEEP_STAT, Reg.SAFE_STAT, Side.code] <;> omega

theorem loopReg_ne_stat {n : Nat} (hn : n < 64) (x : Side) :
    loopReg x (Reg.LOOP_TSTAT n) ≠ Reg.PWR_STAT ∧ loopReg x Reg.LOOP_STAT ≠ Reg.PWR_STAT := by
  cases x <;> simp only [loopReg, Reg.LOOP_TSTAT, Reg.LOOP_STAT, Reg.PWR_STAT, Side.code] <;> omega

theorem State.residueFault_facts (hn : n < 64) :
    (s.residueFault x n).fld (loopReg x (Reg.LOOP_TSTAT n)) Fld.LOOP_TSTAT_RESIDUE = 1
    ∧ RegsBut [loopReg x (Reg.LOOP_TSTAT n), loopReg x Reg.LOOP_STAT] s (s.residueFault x n)
    ∧ (s.residueFault x n).outside [.regs] = s.outside [.regs] := by
  obtain ⟨hne, -, -⟩ := loopReg_ne hn x
  generalize hs1 : s.setF (loopReg x (Reg.LOOP_TSTAT n)) Fld.LOOP_TSTAT_RESIDUE 1 = s1
  have hset : s1.fld (loopReg x (Reg.LOOP_TSTAT n)) Fld.LOOP_TSTAT_RESIDUE = 1 := by rw [← hs1, State.fld_setF_same _ _ _ _ (by decide)]; rfl
  have hregs (a : Nat) (ha : a ≠ loopReg x (Reg.LOOP_TSTAT n)) : s1.rd a = s.rd a := by rw [← hs1, State.rd_setF_other _ _ _ _ _ (Ne.symm ha)]
  have hout : s1.outside [.regs] = s.outside [.regs] := by rw [← hs1]; simp
  simp only [State.residueFault, hs1]
  split
  · exact ⟨hset, fun a ha => hregs a (by simp at ha; exact ha.1), hout⟩
  · refine ⟨?_, fun a ha => ?_, ?_⟩
    · rw [State.fld_setF_other _ _ _ _ _ _ hne.symm, State.fld_setF_other _ _ _ _ _ _ hne.symm, hset]
    · simp at ha
      rw [State.rd_setF_other _ _ _ _ _ (Ne.symm ha.2), State.rd_setF_other _ _ _ _ _ (Ne.symm ha.2), hregs a ha.1]
    · simp [hout]

theorem State.eq_residue {t u : State} (h : t.outside [.regs, .queues, .ev, .keep, .loop, .safe, .acq, .free] =
    u.outside [.regs, .queues, .ev, .keep, .loop, .safe, .acq, .free]) :
    t = { u with regs := t.regs, queues := t.queues, ev := t.ev, keep := t.keep, loop := t.loop, safe := t.safe, acq := t.acq, free := t.free } :=
  State.eq_patch h

theorem residue_row {i : Instr} {dt : Nat} (hn : n < 64) (h : s.tileRuns x n = true) (hg : s.guardActs = true) (hs : (s.side x).state = .standby)
    (he : exec i s = .next ((s.tick dt).checked x n true f)) :
    Does i s fun t =>
      t.fld (loopReg x (Reg.LOOP_TSTAT n)) Fld.LOOP_TSTAT_RESIDUE = 1 ∧ (t.side x).flags.testBit 1 = true
      ∧ (t.side x).state = .failed ∧ Posted Ev.STANDBY_LOST (evArg x.code 0 0) (s.tick dt) t
      ∧ RegsBut [loopReg x (Reg.LOOP_TSTAT n), loopReg x Reg.LOOP_STAT, Reg.KEEP_STAT, Reg.SAFE_STAT] s t
      ∧ t = { s.tick dt with
            regs := t.regs, queues := t.queues, ev := t.ev, keep := t.keep, loop := t.loop, safe := t.safe, acq := t.acq
            free := s.free + 4097 } := by
  have hc : (true && (s.tick dt).tileRuns x n) = true := h
  refine Does.of_eq (he.trans (congrArg _ (if_pos hc))) fun t ht => ?_
  generalize hp : (s.tick dt).tileOp x n f = p at ht
  have hp' : p = { (s.tick dt).setTile x n (f (s.tick dt) (s.readyTile x n)).next with free := s.free + 4097 } := hp.symm.trans (if_pos h)
  have hpo : p.outside [.loop, .free] = (s.tick dt).outside [.loop, .free] := by rw [hp']; rfl
  have hpr (a : Nat) : p.rd a = s.rd a := by rw [hp']; rfl
  obtain ⟨hres, hrregs, hrout⟩ := p.residueFault_facts (x := x) hn
  generalize hq : p.residueFault x n = q at ht hres hrregs hrout
  have hq' : q = { p with regs := q.regs } := State.eq_patch hrout
  have hqkeep : q.keep = s.keep := by rw [hq', hp']; rfl
  have hqside (y : Side) : q.side y = s.side y := State.side_of_sides (congrArg _ hqkeep) y
  generalize hv : q.setSide x { q.side x with flags := withBit (q.side x).flags 1 true } = v
  have hvx : v.side x = { s.side x with flags := withBit (s.side x).flags 1 true } := by rw [← hv, State.side_setSide_same, hqside]
  have htv : t = v.failSide x Ev.STANDBY_LOST := by
    have hact : v.guardActs = true := by
      have hstat : q.rd Reg.PWR_STAT = s.rd Reg.PWR_STAT := by
        rw [hrregs _ (by simp [(loopReg_ne_stat hn x).1.symm, (loopReg_ne_stat hn x).2.symm]), hpr]
      have hsup : q.sup = s.sup := by rw [hq', hp']; rfl
      rw [← hv, State.guardActs_setSide, State.guardActs, hsup, hqkeep, State.fld_congr hstat]
      exact hg
    rw [ht, State.faultFlag, hv]
    simp only [hact, if_true, State.sideFault, hvx, hs]
  obtain ⟨hfail, -, -, hpost, hregs⟩ := v.failSide_facts x Ev.STANDBY_LOST
  rw [← htv] at hfail hpost hregs
  obtain ⟨hnstat, hnkeep, hnsafe⟩ := loopReg_ne hn x
  refine ⟨?_, by rw [hfail, hvx]; exact testBit_withBit _ _, by rw [hfail], ?_, fun a ha => ?_, ?_⟩
  · rw [State.fld_congr (hregs _ (by simp [hnkeep, hnsafe])), ← hv, State.fld_congr (State.rd_setSide _ _ hnsafe), hres]
  · exact hpost.congr (by rw [← hv, State.ev_setSide, hq', hp']; rfl) (by rw [← hv, State.tm_setSide, hq', hp']; rfl) rfl
  · simp at ha
    obtain ⟨ht, hst, hk, hsafe⟩ := ha
    rw [hregs a (by simp [hk, hsafe]), ← hv, State.rd_setSide _ _ hsafe, hrregs a (by simp [ht, hst]), hpr]
  · have hfree : t.free = s.free + 4097 := by
      have hf : t.free = q.free := by rw [htv, ← hv]; exact State.free_of_outside (by simp)
      rw [hf, hq', hp']
    rw [← hfree]
    refine State.eq_residue ?_
    have hqo : q.outside [.regs, .queues, .ev, .keep, .loop, .safe, .acq, .free]
        = (s.tick dt).outside [.regs, .queues, .ev, .keep, .loop, .safe, .acq, .free] := by rw [hq', hp']; rfl
    rw [htv, ← hv]
    simp [-State.tick_tags, hqo]
end

/-- Settles O22. -/
theorem tileArithmeticRows : Obligations.TileArithmeticRows := by
  refine ⟨?_, ?_, ?_, ?_, ?_, ?_, ?_, ?_, ?_, ?_, ?_, ?_⟩
  · rintro s dt x n a k src u p rfl rfl h
    exact macStep_row _ h rfl (by simp)
  · intro s dt x n i a k d dst src hn hi h hg hs
    simp only [List.mem_cons, List.not_mem_nil, or_false] at hi
    obtain rfl | rfl | rfl | rfl := hi
    · exact residue_row hn h hg hs rfl
    · exact residue_row hn h hg hs rfl
    · exact residue_row hn h hg hs rfl
    · exact residue_row hn h hg hs rfl
  · rintro s dt x n a k src u p rfl rfl h
    exact macStep_row _ h rfl (by simp [sub_eq_add_neg])
  · rintro s dt x n a k src u p rfl rfl h
    exact macStep_row _ h rfl (by simp)
  · rintro s dt x n a q dst feeds u p rfl rfl h
    exact tileResult_row h rfl rfl
  · rintro s dt x n a b dst u p rfl rfl h
    exact tileResult_row h rfl rfl
  · rintro s dt x n a b dst u p rfl rfl h
    exact tileResult_row h rfl rfl
  · rintro s dt x n a dst u p rfl rfl h
    exact tileResult_row h rfl rfl
  · rintro s dt x n a dst u p rfl rfl h
    refine tileResult_row h rfl ?_
    generalize ((s.tick dt).opnd n (s.readyTile x n) a).toInt = v
    show (if v < 0 then -v else v) = |v|
    split
    · next hneg => exact (abs_of_neg hneg).symm
    · next hpos => exact (abs_of_nonneg (not_lt.mp hpos)).symm
  · rintro s dt x n a b dst u p rfl rfl h
    exact tileResult_row h rfl (min_def ..).symm
  · rintro s dt x n a b dst u p rfl rfl h
    exact tileResult_row h rfl (max_def ..).symm
  · rintro s dt x n a sh dst u p rfl rfl h hlo hhi
    exact tileScale_row dt a sh dst h hlo hhi

end Sys2Proof.Machine

namespace Sys2Proof.Machine

open Sys2Proof

/-! ### The words and conditions of a tile's operations (R208 to R217, R233): O23 -/

section
set_option Elab.async false

variable {s : State} {x : Side} {n : Nat} {f : State → Tile → Tile} {i : Instr} {dt : Nat} {w : Tile}

theorem tileOp_becomes (h : s.tileRuns x n = true) (he : exec i s = .next ((s.tick dt).tileOp x n f))
    (hf : f (s.tick dt) (s.readyTile x n) = w) (hw : (s.readyTile x n).KeepsPlace w) :
    Does i s fun t => t.tile x n = w.next ∧ TileAdvanced s dt x n t := by
  rw [← hf] at hw ⊢
  exact tileOp_does h he hw

theorem tileStored_row {dst : Nat} {v : Word} (h : s.tileRuns x n = true) (he : exec i s = .next ((s.tick dt).tileOp x n f))
    (hf : f (s.tick dt) (s.readyTile x n) = (s.readyTile x n).set dst v) :
    Does i s fun t => TileStored (s.readyTile x n) (t.tile x n) dst v ∧ TileAdvanced s dt x n t := by
  refine (tileOp_becomes h he hf ⟨rfl, rfl⟩).imp fun t ⟨hw, hadv⟩ => ⟨?_, hadv⟩
  rw [hw]
  exact ⟨rfl, rfl, rfl, rfl⟩

/-! ### Limits and comparisons (R216) -/

/-- A word clamped to two bounds, noted where it clamped. -/
def Tile.limited (t : Tile) (dst : Nat) (feeds : Bool) (v l h : Int) : Tile :=
  if h < v then
    { t.set dst (toWord h) with flags := withBit t.flags 10 true, satOut := t.satOut || feeds, sat := SMap.insert t.sat (dst % 4096) 1 }
  else if v < l then
    { t.set dst (toWord l) with flags := withBit t.flags 10 true, satOut := t.satOut || feeds, sat := SMap.insert t.sat (dst % 4096) (-1) }
  else t.set dst (toWord v)

theorem Tile.limited_facts (t : Tile) (dst : Nat) (feeds : Bool) (v l h : Int) :
    (t.limited dst feeds v l h).data = SMap.insert t.data (dst % 4096) (toWord (if h < v then h else if v < l then l else v))
    ∧ (t.limited dst feeds v l h).flags = (if h < v ∨ v < l then withBit t.flags 10 true else t.flags)
    ∧ (t.limited dst feeds v l h).acc = t.acc ∧ t.KeepsPlace (t.limited dst feeds v l h) := by
  rw [Tile.limited]
  by_cases hh : h < v
  · rw [if_pos hh, if_pos hh, if_pos (Or.inl hh)]
    exact ⟨rfl, rfl, rfl, rfl, rfl⟩
  · rw [if_neg hh, if_neg hh]
    by_cases hl : v < l
    · rw [if_pos hl, if_pos hl, if_pos (Or.inr hl)]
      exact ⟨rfl, rfl, rfl, rfl, rfl⟩
    · rw [if_neg hl, if_neg hl, if_neg (not_or.mpr ⟨hh, hl⟩)]
      exact ⟨rfl, rfl, rfl, rfl, rfl⟩

theorem tileLim_row (a lo hi : Opnd) (dst : Nat) (feeds : Bool) {v l h : Int} (hrun : s.tileRuns x n = true)
    (hv : v = ((s.tick dt).opnd n (s.readyTile x n) a).toInt) (hl : l = ((s.tick dt).opnd n (s.readyTile x n) lo).toInt)
    (hh : h = ((s.tick dt).opnd n (s.readyTile x n) hi).toInt) :
    Does (.tileLim dt x n a lo hi dst feeds) s fun t =>
      (t.tile x n).data = SMap.insert (s.readyTile x n).data (dst % 4096) (toWord (if h < v then h else if v < l then l else v))
      ∧ (t.tile x n).flags = (if h < v ∨ v < l then withBit (s.readyTile x n).flags 10 true else (s.readyTile x n).flags)
      ∧ (t.tile x n).acc = (s.readyTile x n).acc
      ∧ TileAdvanced s dt x n t := by
  obtain ⟨hdata, hflags, hacc, hplace⟩ := (s.readyTile x n).limited_facts dst feeds v l h
  have he : exec (.tileLim dt x n a lo hi dst feeds) s = .next ((s.tick dt).tileOp x n fun st t =>
      t.limited dst feeds (st.opnd n t a).toInt (st.opnd n t lo).toInt (st.opnd n t hi).toInt) := rfl
  refine (tileOp_becomes hrun he (by rw [← hv, ← hl, ← hh]) hplace).imp fun t ⟨hw, hadv⟩ => ⟨?_, ?_, ?_, hadv⟩
  · rw [hw]; exact hdata
  · rw [hw]; exact hflags
  · rw [hw]; exact hacc

theorem tileCmp_row (r : Rel) (a b : Opnd) (c : Nat) (hrun : s.tileRuns x n = true) :
    Does (.tileCmp dt x n r a b c) s fun t =>
      (t.tile x n).users = withBit (s.readyTile x n).users c
        (r.holds ((s.tick dt).opnd n (s.readyTile x n) a).toInt ((s.tick dt).opnd n (s.readyTile x n) b).toInt)
      ∧ (t.tile x n).data = (s.readyTile x n).data ∧ (t.tile x n).flags = (s.readyTile x n).flags
      ∧ (t.tile x n).acc = (s.readyTile x n).acc
      ∧ TileAdvanced s dt x n t := by
  refine (tileOp_does hrun rfl ⟨rfl, rfl⟩).imp fun t ⟨hw, hadv⟩ => ⟨?_, ?_, ?_, ?_, hadv⟩
  · rw [hw]; rfl
  · rw [hw]; rfl
  · rw [hw]; rfl
  · rw [hw]; rfl

/-! ### Data words (R198, R199) -/

theorem SMap.find_insert_other {α : Type} (m : SMap α) (k j : Nat) (v : α) (h : k ≠ j) :
    (SMap.insert m k v).find? (fun e => e.1 == j) = m.find? fun e => e.1 == j := by
  induction m with
  | nil => simp [SMap.insert, h]
  | cons e m ih =>
    obtain ⟨i, u⟩ := e
    rw [SMap.insert]
    split
    · rw [List.find?_cons_of_neg (by simpa using h)]
    · split
      · next he => rw [List.find?_cons_of_neg (by simpa using h), List.find?_cons_of_neg (by simpa [← he] using h)]
      · rw [List.find?_cons, List.find?_cons, ih]

theorem Tile.word_set (t : Tile) (k : Nat) (v : Word) (seed d : Nat) :
    (t.set k v).word seed d = if k % 4096 = d % 4096 then v else t.word seed d := by
  by_cases he : k % 4096 = d % 4096
  · have hfind := SMap.find_insert t.data (k % 4096) v
    rw [he] at hfind
    obtain ⟨e, hfound, hval⟩ := Option.map_eq_some_iff.mp hfind
    rw [if_pos he, Tile.word]
    simp only [Tile.set, he, hfound, hval]
  · rw [if_neg he, Tile.word, Tile.word]
    simp only [Tile.set, SMap.find_insert_other t.data (k % 4096) (d % 4096) v he]

theorem Tile.word_of_data {t u : Tile} (h : t.data = u.data) (seed d : Nat) : t.word seed d = u.word seed d := by rw [Tile.word, h, Tile.word]

@[simp] theorem Tile.word_next (t : Tile) (seed d : Nat) : t.next.word seed d = t.word seed d := rfl

theorem Tile.acc_next (t : Tile) : t.next.acc = t.acc := rfl

/-! ### Integrators (R208 to R212) -/

theorem clampInteg_bounds (v lo hi : Int) (h : lo ≤ hi) : lo ≤ (clampInteg v lo hi).1 / 2 ^ 32 ∧ (clampInteg v lo hi).1 / 2 ^ 32 ≤ hi := by
  simp only [clampInteg]
  split
  · simp only; omega
  · split
    · simp only; omega
    · simp only; omega

theorem toInt_toWord {v : Int} (hlo : -2147483648 ≤ v) (hhi : v ≤ 2147483647) : (toWord v).toInt = v := by
  rw [toWord, BitVec.toInt_ofInt]
  exact Int.bmod_eq_of_le (by omega) (by omega)

/-- What INTEG adds to the value that the bounds leave of integrator j: the increment, but not while FREEZE withholds it (R210, R211). -/
def State.integSum (st : State) (n a j q : Nat) (t : Tile) (v0 : Int) : Int :=
  let inc := shiftInt (t.accOf a) (32 - (min q 47 : Nat))
  let m := st.parN (Par.integMode n (j % 16))
  let sign := if m = 0 then 0 else SMap.get (fun _ => 0) t.satHeld ((m - 1) % 4096)
  if decide (0 < sign ∧ 0 < inc) || decide (sign < 0 ∧ inc < 0) then v0 else v0 + inc

/-- An integrator's value as its two words hold it. -/
def Tile.integOld (t : Tile) (seed w : Nat) : Int := (t.word seed w).toInt * 2 ^ 32 + (t.word seed (w + 1)).toNat

/-- An integrator's words written with the second of two clamps, and the clamps noted. -/
def Tile.integrated (t : Tile) (w : Nat) (feeds : Bool) (p0 p1 : Int × Int) : Tile :=
  let t1 := (t.set w (toWord (p1.1 / 2 ^ 32))).set (w + 1) (BitVec.ofInt 32 (p1.1 % 2 ^ 32))
  if p0.2 ≠ 0 ∨ p1.2 ≠ 0 then
    { t1 with flags := withBit t1.flags 9 true, satOut := t1.satOut || feeds,
              sat := SMap.insert t1.sat (w % 4096) (if p1.2 = 0 then p0.2 else p1.2) }
  else t1

theorem Tile.integrated_facts (t : Tile) (w : Nat) (feeds : Bool) (p0 p1 : Int × Int) :
    (t.integrated w feeds p0 p1).data = ((t.set w (toWord (p1.1 / 2 ^ 32))).set (w + 1) (BitVec.ofInt 32 (p1.1 % 2 ^ 32))).data
    ∧ (t.integrated w feeds p0 p1).acc = t.acc ∧ t.KeepsPlace (t.integrated w feeds p0 p1) := by
  unfold Tile.integrated
  split
  · exact ⟨rfl, rfl, rfl, rfl⟩
  · exact ⟨rfl, rfl, rfl, rfl⟩

theorem exec_tileInteg (a j q lo hi : Nat) (feeds : Bool) :
    exec (.tileInteg dt x n a j q lo hi feeds) s = .next ((s.tick dt).tileOp x n fun st t =>
      t.integrated (st.parN (Par.integWord n (j % 16)) - 1) feeds
        (clampInteg (t.integOld (st.free + 1) (st.parN (Par.integWord n (j % 16)) - 1)) (st.loopParam n lo).toInt (st.loopParam n hi).toInt)
        (clampInteg (st.integSum n a j q t
          (clampInteg (t.integOld (st.free + 1) (st.parN (Par.integWord n (j % 16)) - 1)) (st.loopParam n lo).toInt (st.loopParam n hi).toInt).1)
          (st.loopParam n lo).toInt (st.loopParam n hi).toInt)) := by
  simp only [exec, execTileInteg, Tile.integrated, Tile.integOld, State.integSum]
  rfl

theorem tileInteg_row (a j q lo hi : Nat) (feeds : Bool) (hrun : s.tileRuns x n = true)
    (hb : (s.loopParam n lo).toInt ≤ (s.loopParam n hi).toInt) :
    Does (.tileInteg dt x n a j q lo hi feeds) s fun t =>
      (t.tile x n).acc = (s.readyTile x n).acc
      ∧ (s.loopParam n lo).toInt ≤ ((t.tile x n).word 0 (s.parN (Par.integWord n (j % 16)) - 1)).toInt
      ∧ ((t.tile x n).word 0 (s.parN (Par.integWord n (j % 16)) - 1)).toInt ≤ (s.loopParam n hi).toInt
      ∧ TileAdvanced s dt x n t := by
  generalize hwd : s.parN (Par.integWord n (j % 16)) - 1 = k
  generalize hp : clampInteg ((s.readyTile x n).integOld ((s.tick dt).free + 1) k) (s.loopParam n lo).toInt (s.loopParam n hi).toInt = p0
  generalize hz : (s.tick dt).integSum n a j q (s.readyTile x n) p0.1 = z
  obtain ⟨hdata, hacc, hplace⟩ := (s.readyTile x n).integrated_facts k feeds p0 (clampInteg z (s.loopParam n lo).toInt (s.loopParam n hi).toInt)
  refine (tileOp_becomes hrun (exec_tileInteg ..) (by rw [State.parN_tick, State.loopParam_tick, State.loopParam_tick, hwd, hp, hz]) hplace).imp
    fun t ⟨hw, hadv⟩ => ?_
  obtain ⟨hlo, hhi⟩ := clampInteg_bounds z _ _ hb
  have hword : ((t.tile x n).word 0 k).toInt
      = (clampInteg z (s.loopParam n lo).toInt (s.loopParam n hi).toInt).1 / 2 ^ 32 := by
    rw [hw, Tile.word_next, Tile.word_of_data hdata, Tile.word_set, if_neg (by omega), Tile.word_set, if_pos rfl]
    have hl := (s.loopParam n lo).le_toInt
    have hh := (s.loopParam n hi).toInt_lt
    exact toInt_toWord (by omega) (by omega)
  rw [hword]
  exact ⟨by rw [hw]; exact hacc, hlo, hhi, hadv⟩

/-! ### A second-order section (R214) -/

/-- The delay words d to d + 3 of a section moved on by one: the input and the output new, the older ones behind them. -/
def Tile.delayed (t : Tile) (d : Nat) (x0 g0 g2 y : Word) : Tile := (((t.set (d + 1) g0).set d x0).set (d + 3) g2).set (d + 2) y

theorem Tile.KeepsPlace.trans {t u v : Tile} (h : t.KeepsPlace u) (h' : u.KeepsPlace v) : t.KeepsPlace v :=
  ⟨h'.1.trans h.1, h'.2.trans h.2⟩

theorem Tile.delayed_keepsPlace (t : Tile) (d : Nat) (x0 g0 g2 y : Word) : t.KeepsPlace (t.delayed d x0 g0 g2 y) := ⟨rfl, rfl⟩

theorem Tile.delayed_acc (t : Tile) (d : Nat) (x0 g0 g2 y : Word) : (t.delayed d x0 g0 g2 y).acc = t.acc := rfl

theorem Tile.delayed_facts (t : Tile) {d k : Nat} (hd : d + 3 < 4096) (hk : k < 4096) (hapart : k < d ∨ d + 3 < k) (x0 g0 g2 y : Word) (seed : Nat) :
    (t.delayed d x0 g0 g2 y).word seed d = x0 ∧ (t.delayed d x0 g0 g2 y).word seed (d + 1) = g0
    ∧ (t.delayed d x0 g0 g2 y).word seed (d + 3) = g2 ∧ (t.delayed d x0 g0 g2 y).word seed (d + 2) = y
    ∧ (t.delayed d x0 g0 g2 y).word seed k = t.word seed k := by
  have hmod {j : Nat} (hj : j < 4096) : j % 4096 = j := Nat.mod_eq_of_lt hj
  simp only [Tile.delayed, Tile.word_set, hmod hd, hmod (show d < 4096 by omega), hmod (show d + 1 < 4096 by omega),
    hmod (show d + 2 < 4096 by omega), hmod hk]
  have hkd : d ≠ k ∧ d + 1 ≠ k ∧ d + 2 ≠ k ∧ d + 3 ≠ k := by omega
  simp [hkd]

/-- The output of a section at q = 30, before it saturates. -/
def State.biqOut (st : State) (n k d : Nat) (src : Opnd) (t : Tile) : Int :=
  let g := fun i => t.word (st.free + 1) (d + i)
  let m := fun i (w : Word) => macTerm (st.loopParam n (k + i)).toInt (st.loopShift n (k + i)) w.toInt
  extract (satAcc (m 0 (st.opnd n t src) + m 1 (g 0) + m 2 (g 1) - m 3 (g 2) - m 4 (g 3))).1 30

theorem exec_tileBiq (k : Nat) (src : Opnd) (d dst : Nat) :
    exec (.tileBiq dt x n k ⟨src, false⟩ d dst) s = .next ((s.tick dt).tileOp x n fun st t =>
      (t.result dst (st.biqOut n k d src t) false).delayed d (st.opnd n t src) (t.word (st.free + 1) d) (t.word (st.free + 1) (d + 2))
        (toWord (sat32 (st.biqOut n k d src t)).1)) := by
  simp only [exec, execTileBiq, State.checked, State.biqOut, Tile.delayed, Bool.false_and, Bool.false_eq_true, if_false]
  rfl

theorem tileBiq_row (k : Nat) (src : Opnd) {d dst : Nat} (hrun : s.tileRuns x n = true) (hd : d + 3 < 4096) (hdst : dst < 4096)
    (hapart : dst < d ∨ d + 3 < dst) :
    Does (.tileBiq dt x n k ⟨src, false⟩ d dst) s fun t =>
      (t.tile x n).word 0 d = (s.tick dt).opnd n (s.readyTile x n) src
      ∧ (t.tile x n).word 0 (d + 1) = (s.readyTile x n).word (s.free + 1) d
      ∧ (t.tile x n).word 0 (d + 3) = (s.readyTile x n).word (s.free + 1) (d + 2)
      ∧ (t.tile x n).word 0 (d + 2) = (t.tile x n).word 0 dst
      ∧ (t.tile x n).acc = (s.readyTile x n).acc
      ∧ TileAdvanced s dt x n t := by
  generalize hy : (s.tick dt).biqOut n k d src (s.readyTile x n) = y
  obtain ⟨⟨hdata, hacc, -, -⟩, hplace⟩ := (s.readyTile x n).result_facts dst y false
  have hset : ((s.readyTile x n).result dst y false).word 0 dst = toWord (sat32 y).1 := by
    rw [Tile.word_of_data (u := (s.readyTile x n).set dst (toWord (sat32 y).1)) hdata, Tile.word_set, if_pos rfl]
  obtain ⟨h0, h1, h3, h2, hout⟩ := ((s.readyTile x n).result dst y false).delayed_facts hd hdst hapart ((s.tick dt).opnd n (s.readyTile x n) src)
    ((s.readyTile x n).word ((s.tick dt).free + 1) d) ((s.readyTile x n).word ((s.tick dt).free + 1) (d + 2)) (toWord (sat32 y).1) 0
  rw [← hy] at hplace
  refine (tileOp_does hrun (exec_tileBiq ..) (hplace.trans (Tile.delayed_keepsPlace ..))).imp fun t ⟨hw, hadv⟩ => ?_
  rw [hy] at hw
  refine ⟨?_, ?_, ?_, ?_, ?_, hadv⟩
  · rw [hw]; exact h0
  · rw [hw]; exact h1
  · rw [hw]; exact h3
  · rw [hw, Tile.word_next, Tile.word_next, hout, hset]; exact h2
  · rw [hw, Tile.acc_next, Tile.delayed_acc, hacc]

/-! ### Sine and cosine (R216, R233) -/

theorem nearQ30_bounds {v e : Int} (h : |v| ≤ 2 ^ 60) : |(toWord (nearQ30 v e)).toInt * 2 ^ 30 - v| ≤ 2 ^ 32 := by
  rw [abs_le] at h ⊢
  have hb : v - 2 ^ 32 ≤ nearQ30 v e * 2 ^ 30 ∧ nearQ30 v e * 2 ^ 30 ≤ v + 2 ^ 32 := by
    rw [nearQ30]
    omega
  rw [toInt_toWord (by omega) (by omega)]
  omega

theorem tileSincos_row (a : Opnd) {ds dc : Nat} (hrun : s.tileRuns x n = true) (hne : ds % 4096 ≠ dc % 4096)
    (hs : |(sinCos ((s.tick dt).opnd n (s.readyTile x n) a).toNat).1| ≤ 2 ^ 60)
    (hc : |(sinCos ((s.tick dt).opnd n (s.readyTile x n) a).toNat).2| ≤ 2 ^ 60) :
    Does (.tileSincos dt x n a ds dc) s fun t =>
      |((t.tile x n).word 0 ds).toInt * 2 ^ 30 - (sinCos ((s.tick dt).opnd n (s.readyTile x n) a).toNat).1| ≤ 2 ^ 32
      ∧ |((t.tile x n).word 0 dc).toInt * 2 ^ 30 - (sinCos ((s.tick dt).opnd n (s.readyTile x n) a).toNat).2| ≤ 2 ^ 32
      ∧ (t.tile x n).acc = (s.readyTile x n).acc ∧ (t.tile x n).flags = (s.readyTile x n).flags
      ∧ TileAdvanced s dt x n t := by
  have he : exec (.tileSincos dt x n a ds dc) s = .next ((s.tick dt).tileOp x n fun st t =>
      (t.set ds (toWord (nearQ30 (sinCos (st.opnd n t a).toNat).1 (Config.freeInt st.free)))).set dc
        (toWord (nearQ30 (sinCos (st.opnd n t a).toNat).2 (Config.freeInt (st.free + 1))))) := rfl
  generalize hr : sinCos ((s.tick dt).opnd n (s.readyTile x n) a).toNat = r at hs hc ⊢
  refine (tileOp_does hrun he ⟨rfl, rfl⟩).imp fun t ⟨hw, hadv⟩ => ?_
  rw [hr] at hw
  refine ⟨?_, ?_, by rw [hw]; rfl, by rw [hw]; rfl, hadv⟩
  · rw [hw, Tile.word_next, Tile.word_set, if_neg hne.symm, Tile.word_set, if_pos rfl]
    exact nearQ30_bounds hs
  · rw [hw, Tile.word_next, Tile.word_set, if_pos rfl]
    exact nearQ30_bounds hc

/-! ### Tables, quotients and roots (R216, R217) -/

theorem tileLut_row (table : Nat) (a : Opnd) (dst : Nat) {v : Int} (hrun : s.tileRuns x n = true)
    (hv : lutValue ((List.range (min (s.parN (Par.lutLen table)) 1024)).map fun i => (s.par (Par.lutX table i), s.par (Par.lutY table i)))
      ((s.tick dt).opnd n (s.readyTile x n) a).toInt = some (v, true)) :
    Does (.tileLut dt x n table a dst) s fun t =>
      TileStored (s.readyTile x n) (t.tile x n) dst (toWord v) ∧ TileAdvanced s dt x n t := by
  refine tileStored_row hrun rfl ?_
  have hv' : lutValue ((List.range (min ((s.tick dt).parN (Par.lutLen table)) 1024)).map fun i =>
      ((s.tick dt).par (Par.lutX table i), (s.tick dt).par (Par.lutY table i))) ((s.tick dt).opnd n (s.readyTile x n) a).toInt = some (v, true) := hv
  simp only [hv', if_true]

/-- A quotient of integers that is one: both signs turned where the divisor is negative. -/
theorem quotient_exact {u v q : Int} (hv : v ≠ 0) (h : u = q * v) :
    (if v < 0 then -u else u) % (if v < 0 then -v else v) = 0 ∧ (if v < 0 then -u else u) / (if v < 0 then -v else v) = q := by
  subst h
  split
  · rw [← mul_neg]
    exact ⟨Int.mul_emod_left .., Int.mul_ediv_cancel _ (by omega)⟩
  · exact ⟨Int.mul_emod_left .., Int.mul_ediv_cancel _ hv⟩

theorem tileDiv_row (a b : Opnd) (e dst : Nat) {q : Int} (hrun : s.tileRuns x n = true)
    (hb : ((s.tick dt).opnd n (s.readyTile x n) b).toInt ≠ 0)
    (hq : ((s.tick dt).opnd n (s.readyTile x n) a).toInt * 2 ^ e = q * ((s.tick dt).opnd n (s.readyTile x n) b).toInt) :
    Does (.tileDiv dt x n a b e dst) s fun t => TileWrote (s.readyTile x n) (t.tile x n) dst q ∧ TileAdvanced s dt x n t := by
  obtain ⟨hmod, hdiv⟩ := quotient_exact hb hq
  obtain ⟨hwrote, hplace⟩ := (s.readyTile x n).result_facts dst q false
  refine (tileOp_becomes hrun rfl ?_ hplace).imp fun t ⟨hw, hadv⟩ => ⟨by rw [hw]; exact hwrote, hadv⟩
  simp only [hb, if_false, hmod, hdiv, if_true, Nat.cast_zero, add_zero]

theorem tileDivZero_row (a b : Opnd) (e dst : Nat) (hrun : s.tileRuns x n = true)
    (hb : ((s.tick dt).opnd n (s.readyTile x n) b).toInt = 0) :
    Does (.tileDiv dt x n a b e dst) s fun t =>
      (t.tile x n).data = SMap.insert (s.readyTile x n).data (dst % 4096)
        (if ((s.tick dt).opnd n (s.readyTile x n) a).toInt < 0 then 0x80000000 else 0x7FFFFFFF)
      ∧ (t.tile x n).flags.testBit 7 = true ∧ (t.tile x n).flags.testBit 10 = true
      ∧ TileAdvanced s dt x n t := by
  have hflag (m : Nat) : (withBit (withBit m 7 true) 10 true).testBit 7 = true ∧ (withBit (withBit m 7 true) 10 true).testBit 10 = true := by
    simp [withBit, show Nat.testBit 128 7 = true by decide, show Nat.testBit 1024 10 = true by decide]
  refine (tileOp_does hrun rfl (by simp only [hb, if_true]; exact ⟨rfl, rfl⟩)).imp fun t ⟨hw, hadv⟩ => ?_
  simp only [hb, if_true] at hw
  refine ⟨by rw [hw]; rfl, ?_, ?_, hadv⟩
  · rw [hw]; exact (hflag _).1
  · rw [hw]; exact (hflag _).2

theorem tileSqrt_row (a : Opnd) (dst : Nat) {r : Nat} (hrun : s.tileRuns x n = true)
    (ha : ((s.tick dt).opnd n (s.readyTile x n) a).toInt = r * r) (hr : isqrt (r * r) = r) :
    Does (.tileSqrt dt x n a dst) s fun t =>
      TileStored (s.readyTile x n) (t.tile x n) dst (BitVec.ofNat 32 r) ∧ TileAdvanced s dt x n t := by
  refine tileStored_row hrun rfl ?_
  have hneg : ¬((r : Int) * r < 0) := not_lt.mpr (mul_self_nonneg _)
  have hnat : ((r : Int) * r).toNat = r * r := by rw [← Nat.cast_mul]; exact Int.toNat_natCast _
  simp only [ha, if_neg hneg, hnat, hr, if_true]
end

/-- Settles O23. -/
theorem tileWordRows : Obligations.TileWordRows := by
  refine ⟨?_, ?_, ?_, ?_, ?_, ?_, ?_, ?_, ?_, ?_, ?_⟩
  · rintro s dt x n a lo hi dst feeds v l h u p rfl rfl hrun hv hl hh
    exact tileLim_row a lo hi dst feeds hrun hv hl hh
  · rintro s dt x n r a b c u p rfl rfl hrun
    exact tileCmp_row r a b c hrun
  · rintro s dt x n c a b dst u p rfl rfl hrun
    exact tileStored_row hrun rfl rfl
  · rintro s dt x n a j q lo hi feeds u p rfl rfl hrun hb - -
    exact tileInteg_row a j q lo hi feeds hrun hb
  · rintro s dt x n k src d dst u p rfl rfl hrun hd hdst hapart
    exact tileBiq_row k src hrun hd hdst hapart
  · rintro s dt x n a ds dc u p rfl rfl hrun hne hs hc
    exact tileSincos_row a hrun hne hs hc
  · rintro s dt x n table a dst v u p rfl rfl hrun hv
    exact tileLut_row table a dst hrun hv
  · rintro s dt x n a b e dst q u p rfl rfl hrun hb hq
    exact tileDiv_row a b e dst hrun hb hq
  · rintro s dt x n a b e dst u p rfl rfl hrun hb
    exact tileDivZero_row a b e dst hrun hb
  · rintro s dt x n a dst r u p rfl rfl hrun ha hr
    exact tileSqrt_row a dst hrun ha hr
  · rintro s dt x n dst u p rfl rfl hrun
    exact tileStored_row hrun rfl rfl

end Sys2Proof.Machine

namespace Sys2Proof.Machine

open Sys2Proof

/-! ### Pads, delay lines and the clear of the pulse counts (R260 to R264) -/

section
set_option Elab.async false

variable {s : State} {n : Nat}

/-- One pair's pulse counts cleared, and its short pulses told anew. -/
def State.pulsesCleared (s : State) (n : Nat) : State :=
  ((s.clearCount (Reg.EDGE_PCNT n)).clearCount (Reg.EDGE_PCNT n + 0x2000000)).forget Ev.EDGE_SHORT_PULSE n

theorem loopReg_b (a : Nat) : loopReg .b a = a + 0x2000000 := rfl

theorem State.counted_clearCount (s : State) (a b : Nat) : (s.clearCount a).counted b = s.counted b := rfl

theorem State.counted_forget (s : State) (c i b : Nat) : (s.forget c i).counted b = s.counted b := rfl

theorem State.counted_pulsesCleared (s : State) (n b : Nat) : (s.pulsesCleared n).counted b = s.counted b := by
  rw [State.pulsesCleared, State.counted_forget, State.counted_clearCount, State.counted_clearCount]

theorem State.posted_clearCount (s : State) (a : Nat) : (s.clearCount a).ev.posted = s.ev.posted := rfl

theorem State.posted_forget (s : State) (c i : Nat) : (s.forget c i).ev.posted = s.ev.posted := rfl

theorem State.rd_pulsesCleared (l : List Nat) (s : State) (a : Nat) :
    (l.foldl State.pulsesCleared s).rd a
      = if a ∈ l.flatMap (fun n => [Reg.EDGE_PCNT n, loopReg .b (Reg.EDGE_PCNT n)]) then s.counted a else s.rd a := by
  induction l generalizing s with
  | nil => rfl
  | cons c l ih =>
    rw [List.foldl_cons, ih, State.counted_pulsesCleared]
    by_cases h : a ∈ l.flatMap fun n => [Reg.EDGE_PCNT n, loopReg .b (Reg.EDGE_PCNT n)]
    · rw [if_pos h, if_pos (by rw [List.flatMap_cons]; exact List.mem_append_right _ h)]
    · rw [if_neg h, State.pulsesCleared, State.rd_forget, State.clearCount, State.counted_clearCount, State.clearCount, State.rd_wr,
        State.rd_wr, List.flatMap_cons]
      by_cases hb : a = Reg.EDGE_PCNT c + 0x2000000
      · rw [if_pos hb, if_pos (by simp [hb, loopReg_b]), hb]
      · by_cases ha : a = Reg.EDGE_PCNT c
        · rw [if_neg hb, if_pos ha, if_pos (by simp [ha]), ha]
        · rw [if_neg hb, if_neg ha, if_neg (by simpa [ha, hb, loopReg_b] using h)]

theorem State.posted_pulsesCleared (l : List Nat) (s : State) : (l.foldl State.pulsesCleared s).ev.posted = s.ev.posted := by
  induction l generalizing s with
  | nil => rfl
  | cons c l ih => rw [List.foldl_cons, ih, State.pulsesCleared, State.posted_forget, State.posted_clearCount, State.posted_clearCount]

theorem edgeClr_row (dt : Nat) (acc : Access) (val : Word) (h : Admitted s acc Reg.EDGE_CLR .op) (hv : val.getLsbD 0 = true) :
    Does (.edgeClr dt acc val) s fun t =>
      (∀ n < pairsOf s.variant, t.rd (Reg.EDGE_PCNT n) = (s.tick dt).counted (Reg.EDGE_PCNT n)
        ∧ t.rd (loopReg .b (Reg.EDGE_PCNT n)) = (s.tick dt).counted (loopReg .b (Reg.EDGE_PCNT n)))
      ∧ RegsBut ((List.range (pairsOf s.variant)).flatMap fun n => [Reg.EDGE_PCNT n, loopReg .b (Reg.EDGE_PCNT n)]) s t
      ∧ t.ev.posted = s.ev.posted ∧ t = { s.tick dt with regs := t.regs, ev := t.ev } := by
  refine Does.of_answer fun t ht => ?_
  simp only [exec, execEdgeClr, State.edgeClrWrite, State.command_of_admitted _ _ _ _ _ _ h, hv, if_true, Host.Outcome.next.injEq] at ht
  have ht' : t = (List.range (pairsOf s.variant)).foldl State.pulsesCleared (s.tick dt) := ht.symm
  have hrd (a : Nat) : t.rd a = if a ∈ (List.range (pairsOf s.variant)).flatMap (fun n => [Reg.EDGE_PCNT n, loopReg .b (Reg.EDGE_PCNT n)])
      then (s.tick dt).counted a else (s.tick dt).rd a := by rw [ht', State.rd_pulsesCleared]
  refine ⟨fun n hn => ⟨?_, ?_⟩, fun a ha => ?_, ?_, State.eq_regs_ev ?_⟩
  · rw [hrd, if_pos (List.mem_flatMap.mpr ⟨n, List.mem_range.mpr hn, by simp⟩)]
  · rw [hrd, if_pos (List.mem_flatMap.mpr ⟨n, List.mem_range.mpr hn, by simp⟩)]
  · rw [hrd, if_neg ha, State.rd_tick]
  · rw [ht', State.posted_pulsesCleared]; rfl
  · rw [ht']
    exact foldl_outside (fun t x => by simp [State.pulsesCleared]) _ _

/-! ### What the pads show -/

@[simp] theorem State.pad_setPad_same (k : Nat) (p : Pad) : (s.setPad k p).pad k = p := SMap.get_put_same _ _ _ _

theorem State.pad_setPad_other {k j : Nat} (p : Pad) (h : k ≠ j) : (s.setPad k p).pad j = s.pad j := SMap.get_put_other _ _ _ _ _ h

/-- An entry that meets a predicate which the default fails is listed under its key. -/
theorem SMap.any_put {α : Type} [DecidableEq α] (d : Nat → α) (m : SMap α) (k : Nat) (v : α) (q : α → Bool) (hv : q v = true)
    (hd : q (d k) = false) : ((SMap.put d m k v).any fun e => q e.2) = true := by
  have hne : v ≠ d k := fun e => by rw [e, hd] at hv; exact absurd hv Bool.false_ne_true
  obtain ⟨e, hfound, hval⟩ := Option.map_eq_some_iff.mp (SMap.find_insert m k v)
  rw [SMap.put, if_neg hne]
  exact List.any_eq_true.mpr ⟨e, List.mem_of_find?_eq_some hfound, by rw [hval]; exact hv⟩

theorem State.fld_pstat_same (f : Field) (v : Nat) (hf : f.lo + f.width ≤ 32) :
    (s.pstat n f v).fld (Reg.EDGE_PSTAT n) f = v % 2 ^ f.width := by
  rw [State.pstat, State.fld_setF_other _ _ _ _ _ _ (by omega), State.fld_setF_same _ _ _ _ hf]

theorem State.fld_pstat_field (f g : Field) (v : Nat) (hg : g.lo + g.width ≤ 32) (hd : g.lo + g.width ≤ f.lo ∨ f.lo + f.width ≤ g.lo) :
    (s.pstat n f v).fld (Reg.EDGE_PSTAT n) g = s.fld (Reg.EDGE_PSTAT n) g := by
  rw [State.pstat, State.fld_setF_other _ _ _ _ _ _ (by omega), State.fld_setF_field _ _ _ _ _ hg hd]

theorem State.edge_pstat (f : Field) (v : Nat) : (s.pstat n f v).edge = s.edge := State.edge_of_outside (by simp)

theorem flag_mod (c : Bool) : flag c % 2 ^ 1 = flag c := by cases c <;> rfl

/-- The pads' registers as EDGE_PSTAT_n and EDGE_STAT show them. -/
theorem State.showPads_facts :
    (s.showPads n).fld (Reg.EDGE_PSTAT n) Fld.EDGE_PSTAT_DL_FALLBACK = flag ((s.pad (2 * n)).fallback || (s.pad (2 * n + 1)).fallback)
    ∧ (s.showPads n).fld (Reg.EDGE_PSTAT n) Fld.EDGE_PSTAT_PAD_SHORT_A = flag (s.pad (2 * n)).shorted
    ∧ (s.showPads n).fld (Reg.EDGE_PSTAT n) Fld.EDGE_PSTAT_PAD_SHORT_B = flag (s.pad (2 * n + 1)).shorted
    ∧ (s.showPads n).fld Reg.EDGE_STAT Fld.EDGE_STAT_FALLBACK_ANY = flag (s.edge.pads.any fun e => e.2.fallback)
    ∧ (s.showPads n).fld Reg.EDGE_STAT Fld.EDGE_STAT_SHORT_ANY = flag (s.edge.pads.any fun e => e.2.shorted)
    ∧ RegsBut [Reg.EDGE_STAT, Reg.EDGE_PSTAT n, loopReg .b (Reg.EDGE_PSTAT n)] s (s.showPads n)
    ∧ (s.showPads n).outside [.regs] = s.outside [.regs] := by
  have hne : Reg.EDGE_STAT ≠ Reg.EDGE_PSTAT n := by simp only [Reg.EDGE_STAT, Reg.EDGE_PSTAT]; omega
  simp only [State.showPads]
  refine ⟨?_, ?_, ?_, ?_, ?_, fun a ha => ?_, ?_⟩
  · rw [State.fld_setF_other _ _ _ _ _ _ hne, State.fld_setF_other _ _ _ _ _ _ hne, State.fld_pstat_field _ _ _ (by decide) (by decide),
      State.fld_pstat_field _ _ _ (by decide) (by decide), State.fld_pstat_same _ _ (by decide)]
    exact flag_mod _
  · rw [State.fld_setF_other _ _ _ _ _ _ hne, State.fld_setF_other _ _ _ _ _ _ hne, State.fld_pstat_field _ _ _ (by decide) (by decide),
      State.fld_pstat_same _ _ (by decide)]
    exact flag_mod _
  · rw [State.fld_setF_other _ _ _ _ _ _ hne, State.fld_setF_other _ _ _ _ _ _ hne, State.fld_pstat_same _ _ (by decide)]
    exact flag_mod _
  · rw [State.fld_setF_field _ _ _ _ _ (by decide) (by decide), State.fld_setF_same _ _ _ _ (by decide), State.edge_pstat, State.edge_pstat,
      State.edge_pstat]
    exact flag_mod _
  · rw [State.fld_setF_same _ _ _ _ (by decide), State.edge_pstat, State.edge_pstat, State.edge_pstat]
    exact flag_mod _
  · simp only [List.mem_cons, List.not_mem_nil, or_false, not_or, loopReg_b] at ha
    obtain ⟨hstat, hp, hpb⟩ := ha
    rw [State.rd_setF_other _ _ _ _ _ (Ne.symm hstat), State.rd_setF_other _ _ _ _ _ (Ne.symm hstat), State.rd_pstat _ _ _ _ _ hp hpb,
      State.rd_pstat _ _ _ _ _ hp hpb, State.rd_pstat _ _ _ _ _ hp hpb]
  · simp
end

end Sys2Proof.Machine

namespace Sys2Proof.Machine

open Sys2Proof

/-! ### Delay lines calibrated and exchanged (R262 to R264) -/

section
set_option Elab.async false

variable {s : State} {n : Nat} {b : Bool}

theorem State.edge_showPads : (s.showPads n).edge = s.edge := by
  obtain ⟨-, -, -, -, -, -, hout⟩ := s.showPads_facts (n := n)
  exact State.edge_of_outside (by simp)

theorem State.pad_showPads (k : Nat) : (s.showPads n).pad k = s.pad k := by rw [State.pad, State.edge_showPads, State.pad]

theorem State.pad_setF (a : Nat) (f : Field) (v k : Nat) : (s.setF a f v).pad k = s.pad k := rfl

@[simp] theorem State.pairUsed_tick (dt : Nat) : (s.tick dt).pairUsed n = s.pairUsed n := rfl

theorem State.pad_tick (dt k : Nat) : (s.tick dt).pad k = s.pad k := rfl

theorem State.pad_post (c i u d k : Nat) : (s.post c i u d).pad k = s.pad k := by
  rw [State.pad, State.edge_of_outside (t := s.post c i u d) (s := s) (by simp), State.pad]

/-- The registers that a pad's calibration may touch. -/
def calRegs (n : Nat) : List Nat := [Reg.EDGE_CAL n, Reg.EDGE_STAT, Reg.EDGE_PSTAT n, loopReg .b (Reg.EDGE_PSTAT n)]

/-- A pad after its calibration, with what its registers show. -/
def State.calibrated (s : State) (n k : Nat) (p : Pad) (f : Field) (v : Nat) : State := ((s.setPad k p).setF (Reg.EDGE_CAL n) f v).showPads n

theorem State.calibrated_facts (s : State) (n k : Nat) (p : Pad) (f : Field) (v : Nat) :
    (s.calibrated n k p f v).pad k = p ∧ RegsBut (calRegs n) s (s.calibrated n k p f v)
    ∧ (s.calibrated n k p f v).outside [.regs, .edge] = s.outside [.regs, .edge] := by
  obtain ⟨-, -, -, -, -, hregs, -⟩ := ((s.setPad k p).setF (Reg.EDGE_CAL n) f v).showPads_facts (n := n)
  rw [State.calibrated]
  refine ⟨?_, fun a ha => ?_, by simp⟩
  · rw [State.pad_showPads, State.pad_setF, State.pad_setPad_same]
  · simp only [calRegs, List.mem_cons, List.not_mem_nil, or_false, not_or] at ha
    obtain ⟨hcal, hstat, hp, hpb⟩ := ha
    rw [hregs a (by simp [hstat, hp, hpb]), State.rd_setF_other _ _ _ _ _ (Ne.symm hcal)]
    exact State.rd_of_outside (by simp) a

/-- One of a pair's two pads is the one that was set. -/
theorem State.either_setPad (s : State) (n : Nat) (b : Bool) (p : Pad) (q : Pad → Bool) (hq : q p = true) :
    (q ((s.setPad (2 * n + flag b) p).pad (2 * n)) || q ((s.setPad (2 * n + flag b) p).pad (2 * n + 1))) = true := by
  cases b with
  | false =>
    show (q ((s.setPad (2 * n) p).pad (2 * n)) || _) = true
    rw [State.pad_setPad_same, hq, Bool.true_or]
  | true =>
    show (_ || q ((s.setPad (2 * n + 1) p).pad (2 * n + 1))) = true
    rw [State.pad_setPad_same, hq, Bool.or_true]

/-- A pad in fallback shows in its pair's register and in EDGE_STAT. -/
theorem State.calibrated_fallback (s : State) (n : Nat) (b : Bool) (p : Pad) (f : Field) (v : Nat) (hp : p.fallback = true) :
    (s.calibrated n (2 * n + flag b) p f v).fld Reg.EDGE_STAT Fld.EDGE_STAT_FALLBACK_ANY = 1
    ∧ (s.calibrated n (2 * n + flag b) p f v).fld (Reg.EDGE_PSTAT n) Fld.EDGE_PSTAT_DL_FALLBACK = 1 := by
  obtain ⟨hown, -, -, hany, -, -, -⟩ := ((s.setPad (2 * n + flag b) p).setF (Reg.EDGE_CAL n) f v).showPads_facts (n := n)
  have hput : (((s.setPad (2 * n + flag b) p).setF (Reg.EDGE_CAL n) f v).edge.pads.any fun e => e.2.fallback) = true :=
    SMap.any_put (fun _ => Pad.reset) s.edge.pads (2 * n + flag b) p Pad.fallback hp rfl
  rw [hput] at hany
  rw [State.pad_setF, State.pad_setF, s.either_setPad n b p Pad.fallback hp] at hown
  exact ⟨hany, hown⟩

theorem State.eq_regs_edge {t u : State} (h : t.outside [.regs, .edge] = u.outside [.regs, .edge]) :
    t = { u with regs := t.regs, edge := t.edge } := State.eq_patch h

/-- A pad whose line not in use was calibrated. -/
def State.padCalibrated (s : State) (p : Pad) (taps : Nat) : Pad :=
  { p with
    taps := SMap.put (fun _ => 0) p.taps (1 - p.line) taps, calAt := SMap.put (fun _ => 0) p.calAt (1 - p.line) s.tm.mono,
    fails := 0, fresh := true, fallback := false }

theorem not_unused (dt : Nat) (hu : s.pairUsed n = true) : ¬(!(s.tick dt).pairUsed n) = true := by rw [State.pairUsed_tick, hu]; decide

theorem exec_dlineDone (dt taps : Nat) (hu : s.pairUsed n = true) (h80 : 80 ≤ taps) (h160 : taps ≤ 160) :
    exec (.dlineCalibrationDone dt n b taps true) s = .next ((s.tick dt).calibrated n (2 * n + flag b)
      ((s.tick dt).padCalibrated (s.pad (2 * n + flag b)) taps) (if b then Fld.EDGE_CAL_FAIL_B else Fld.EDGE_CAL_FAIL_A) 0) :=
  (if_neg (not_unused dt hu)).trans (if_pos ⟨h80, h160, rfl⟩)

theorem State.eq_regs_edge_ev {t u : State} (h : t.outside [.regs, .edge, .ev] = u.outside [.regs, .edge, .ev]) :
    t = { u with regs := t.regs, edge := t.edge, ev := t.ev } := State.eq_patch h

theorem dlineDone_row (dt taps : Nat) (hu : s.pairUsed n = true) (h80 : 80 ≤ taps) (h160 : taps ≤ 160) :
    Does (.dlineCalibrationDone dt n b taps true) s fun t =>
      (t.pad (2 * n + flag b)).fresh = true ∧ (t.pad (2 * n + flag b)).fallback = false ∧ (t.pad (2 * n + flag b)).fails = 0
      ∧ SMap.get (fun _ => 0) (t.pad (2 * n + flag b)).taps (1 - (s.pad (2 * n + flag b)).line) = taps
      ∧ (t.pad (2 * n + flag b)).line = (s.pad (2 * n + flag b)).line
      ∧ RegsBut [Reg.EDGE_CAL n, Reg.EDGE_STAT, Reg.EDGE_PSTAT n, loopReg .b (Reg.EDGE_PSTAT n)] s t ∧ Silent s t
      ∧ t = { s.tick dt with regs := t.regs, edge := t.edge } := by
  refine Does.of_eq (exec_dlineDone dt taps hu h80 h160) fun t ht => ?_
  obtain ⟨hpad, hregs, hout⟩ := (s.tick dt).calibrated_facts n (2 * n + flag b) ((s.tick dt).padCalibrated (s.pad (2 * n + flag b)) taps)
    (if b then Fld.EDGE_CAL_FAIL_B else Fld.EDGE_CAL_FAIL_A) 0
  rw [← ht] at hpad hregs hout
  have hframe := State.eq_regs_edge hout
  rw [hpad]
  refine ⟨rfl, rfl, rfl, SMap.get_put_same _ _ _ _, rfl, fun a ha => ?_, ?_, hframe⟩
  · rw [hregs a ha, State.rd_tick]
  · rw [Silent, hframe]; rfl

/-- A pad whose line not in use failed its calibration. -/
def Pad.failed (p : Pad) : Pad := { p with fails := p.fails + 1, fallback := p.fallback || decide (2 ≤ p.fails + 1) }

theorem exec_dlineFailed (dt taps : Nat) (mono : Bool) (hu : s.pairUsed n = true) (hbad : ¬(80 ≤ taps ∧ taps ≤ 160 ∧ mono = true))
    (hf : (s.pad (2 * n + flag b)).fails = 1) (hl : (s.pad (2 * n + flag b)).fallback = false) :
    exec (.dlineCalibrationDone dt n b taps mono) s = .next (((s.tick dt).calibrated n (2 * n + flag b) (s.pad (2 * n + flag b)).failed
      (if b then Fld.EDGE_CAL_FAIL_B else Fld.EDGE_CAL_FAIL_A) 1).post Ev.DLINE_FAIL n) := by
  have hc : (decide (2 ≤ ((s.tick dt).pad (2 * n + flag b)).fails + 1) && !((s.tick dt).pad (2 * n + flag b)).fallback) = true := by
    rw [State.pad_tick, hf, hl]; rfl
  rw [State.pad_tick] at hc
  simp only [exec, execDlineCalibrationDone, if_neg (not_unused dt hu), if_neg hbad, State.pad_tick, State.calibrated, Pad.failed]
  exact congrArg Host.Outcome.next (if_pos hc)

theorem dlineFailed_row (dt taps : Nat) (mono : Bool) (hu : s.pairUsed n = true) (hbad : ¬(80 ≤ taps ∧ taps ≤ 160 ∧ mono = true))
    (hf : (s.pad (2 * n + flag b)).fails = 1) (hl : (s.pad (2 * n + flag b)).fallback = false) :
    Does (.dlineCalibrationDone dt n b taps mono) s fun t =>
      (t.pad (2 * n + flag b)).fallback = true ∧ (t.pad (2 * n + flag b)).fails = 2
      ∧ t.fld Reg.EDGE_STAT Fld.EDGE_STAT_FALLBACK_ANY = 1 ∧ t.fld (Reg.EDGE_PSTAT n) Fld.EDGE_PSTAT_DL_FALLBACK = 1
      ∧ Posted Ev.DLINE_FAIL (evArg n 0 0) (s.tick dt) t
      ∧ RegsBut [Reg.EDGE_CAL n, Reg.EDGE_STAT, Reg.EDGE_PSTAT n, loopReg .b (Reg.EDGE_PSTAT n)] s t
      ∧ t = { s.tick dt with regs := t.regs, edge := t.edge, ev := t.ev } := by
  refine Does.of_eq (exec_dlineFailed dt taps mono hu hbad hf hl) fun t ht => ?_
  generalize hp : (s.pad (2 * n + flag b)).failed = p at ht
  have hpf : p.fallback = true ∧ p.fails = 2 := by rw [← hp, Pad.failed, hf, hl]; exact ⟨rfl, rfl⟩
  generalize (if b then Fld.EDGE_CAL_FAIL_B else Fld.EDGE_CAL_FAIL_A) = f at ht
  obtain ⟨hpad, hregs, hout⟩ := (s.tick dt).calibrated_facts n (2 * n + flag b) p f 1
  obtain ⟨hany, hown⟩ := (s.tick dt).calibrated_fallback n b p f 1 hpf.1
  generalize (s.tick dt).calibrated n (2 * n + flag b) p f 1 = w at ht hpad hregs hout hany hown
  have hw := State.eq_regs_edge hout
  have htr (a : Nat) : t.rd a = w.rd a := by rw [ht, State.rd_post]
  have htp : t.pad (2 * n + flag b) = p := by rw [ht, State.pad_post, hpad]
  refine ⟨by rw [htp]; exact hpf.1, by rw [htp]; exact hpf.2, by rw [State.fld_congr (htr _)]; exact hany,
    by rw [State.fld_congr (htr _)]; exact hown, ?_, fun a ha => ?_, ?_⟩
  · exact (posted_postArg Ev.DLINE_FAIL (evArg n 0 0) w).congr (by rw [hw]) (by rw [hw]) (by rw [ht]; rfl)
  · rw [htr, hregs a ha, State.rd_tick]
  · exact State.eq_regs_edge_ev (by rw [ht, hw]; simp [-State.tick_tags])

theorem dlineExchange_row (dt : Nat) (hu : s.pairUsed n = true) (hf : (s.pad (2 * n + flag b)).fresh = true)
    (hq : (s.tick dt).padQuiet n b = true) :
    Does (.dlineExchange dt n b) s fun t =>
      (t.pad (2 * n + flag b)).line = 1 - (s.pad (2 * n + flag b)).line ∧ (t.pad (2 * n + flag b)).fresh = false
      ∧ (t.pad (2 * n + flag b)).taps = (s.pad (2 * n + flag b)).taps
      ∧ t.fld (Reg.EDGE_CAL n) (if b then Fld.EDGE_CAL_TAPS_B else Fld.EDGE_CAL_TAPS_A) =
          min 255 (SMap.get (fun _ => 0) (s.pad (2 * n + flag b)).taps (1 - (s.pad (2 * n + flag b)).line))
      ∧ RegsBut [Reg.EDGE_CAL n] s t
      ∧ t = { s.tick dt with regs := t.regs, edge := t.edge } := by
  have hc : ((s.tick dt).pairUsed n && ((s.tick dt).pad (2 * n + flag b)).fresh && (s.tick dt).padQuiet n b) = true := by
    have hpad : (s.tick dt).pad (2 * n + flag b) = s.pad (2 * n + flag b) := rfl
    rw [State.pairUsed_tick, hu, hpad, hf, hq]; rfl
  have he : exec (.dlineExchange dt n b) s = .next (((s.tick dt).setPad (2 * n + flag b)
      { s.pad (2 * n + flag b) with line := 1 - (s.pad (2 * n + flag b)).line, fresh := false }).setF (Reg.EDGE_CAL n)
        (if b then Fld.EDGE_CAL_TAPS_B else Fld.EDGE_CAL_TAPS_A)
        (min 255 (SMap.get (fun _ => 0) (s.pad (2 * n + flag b)).taps (1 - (s.pad (2 * n + flag b)).line)))) := if_pos hc
  refine Does.of_eq he fun t ht => ?_
  generalize SMap.get (fun _ => 0) (s.pad (2 * n + flag b)).taps (1 - (s.pad (2 * n + flag b)).line) = taps at ht ⊢
  have hw : (if b then Fld.EDGE_CAL_TAPS_B else Fld.EDGE_CAL_TAPS_A).width = 8
      ∧ (if b then Fld.EDGE_CAL_TAPS_B else Fld.EDGE_CAL_TAPS_A).lo ≤ 16 := by cases b <;> decide
  have hpad : t.pad (2 * n + flag b) = { s.pad (2 * n + flag b) with line := 1 - (s.pad (2 * n + flag b)).line, fresh := false } := by
    rw [ht, State.pad_setF, State.pad_setPad_same]
  rw [hpad]
  refine ⟨rfl, rfl, rfl, ?_, fun a ha => ?_, State.eq_regs_edge (by rw [ht]; simp [-State.tick_tags])⟩
  · rw [ht, State.fld_setF_same _ _ _ _ (by omega), hw.1]
    exact Nat.mod_eq_of_lt (by omega)
  · simp only [List.mem_singleton] at ha
    rw [ht, State.rd_setF_other _ _ _ _ _ (Ne.symm ha)]
    exact State.rd_of_outside (by simp) a
end

end Sys2Proof.Machine

namespace Sys2Proof.Machine

open Sys2Proof

/-! ### A shorted pad (R266): what a Quickset source leaves of the pads -/

section
set_option Elab.async false

variable {s t u : State} {n : Nat} {b : Bool}

/-- The pads, and what the registers show of their shorts, are as they were. -/
def PadsKept (s t : State) : Prop :=
  t.edge.pads = s.edge.pads ∧ t.fld Reg.EDGE_STAT Fld.EDGE_STAT_SHORT_ANY = s.fld Reg.EDGE_STAT Fld.EDGE_STAT_SHORT_ANY
    ∧ ∀ m < 64, t.fld (Reg.EDGE_PSTAT m) Fld.EDGE_PSTAT_PAD_SHORT_A = s.fld (Reg.EDGE_PSTAT m) Fld.EDGE_PSTAT_PAD_SHORT_A
      ∧ t.fld (Reg.EDGE_PSTAT m) Fld.EDGE_PSTAT_PAD_SHORT_B = s.fld (Reg.EDGE_PSTAT m) Fld.EDGE_PSTAT_PAD_SHORT_B

theorem PadsKept.refl (s : State) : PadsKept s s := ⟨rfl, rfl, fun _ _ => ⟨rfl, rfl⟩⟩

theorem PadsKept.trans (h : PadsKept s t) (h' : PadsKept t u) : PadsKept s u := by
  obtain ⟨hp, hs, hm⟩ := h
  obtain ⟨hp', hs', hm'⟩ := h'
  exact ⟨hp'.trans hp, hs'.trans hs, fun m hlt => ⟨(hm' m hlt).1.trans (hm m hlt).1, (hm' m hlt).2.trans (hm m hlt).2⟩⟩

/-- The registers of the edge engine end below those of Quickset. -/
theorem PadsKept.of_rd (he : t.edge.pads = s.edge.pads) (hr : ∀ a < 0x150000, t.rd a = s.rd a) : PadsKept s t := by
  refine ⟨he, State.fld_congr (hr _ (by decide)) _, fun m hm => ?_⟩
  have ha : Reg.EDGE_PSTAT m < 0x150000 := by simp only [Reg.EDGE_PSTAT]; omega
  exact ⟨State.fld_congr (hr _ ha) _, State.fld_congr (hr _ ha) _⟩

theorem PadsKept.foldl {α : Type} {f : State → α → State} (h : ∀ s x, PadsKept s (f s x)) (l : List α) (s : State) :
    PadsKept s (l.foldl f s) := by
  induction l generalizing s with
  | nil => exact PadsKept.refl s
  | cons x l ih => exact (h s x).trans (ih _)

theorem State.pads_setPair (x : Side) (m : Nat) (p : Pair) : (s.setPair x m p).edge.pads = s.edge.pads := rfl

theorem padsKept_setPair (x : Side) (m : Nat) (p : Pair) : PadsKept s (s.setPair x m p) :=
  PadsKept.of_rd (State.pads_setPair ..) fun _ _ => State.rd_setPair ..

/-- A field of EDGE_PSTAT apart from the pads' shorts. -/
theorem padsKept_pstat (m v : Nat) : PadsKept s (s.pstat m Fld.EDGE_PSTAT_TRIPPED v) := by
  refine ⟨by rw [State.edge_pstat], ?_, fun k hk => ⟨?_, ?_⟩⟩
  · exact State.fld_congr (State.rd_pstat _ _ _ _ _ (by simp only [Reg.EDGE_STAT, Reg.EDGE_PSTAT]; omega)
      (by simp only [Reg.EDGE_STAT, Reg.EDGE_PSTAT]; omega)) _
  · by_cases h : k = m
    · rw [h, State.fld_pstat_field _ _ _ (by decide) (by decide)]
    · exact State.fld_congr (State.rd_pstat _ _ _ _ _ (by simp only [Reg.EDGE_PSTAT]; omega) (by simp only [Reg.EDGE_PSTAT]; omega)) _
  · by_cases h : k = m
    · rw [h, State.fld_pstat_field _ _ _ (by decide) (by decide)]
    · exact State.fld_congr (State.rd_pstat _ _ _ _ _ (by simp only [Reg.EDGE_PSTAT]; omega) (by simp only [Reg.EDGE_PSTAT]; omega)) _

theorem padsKept_setF_stat (v : Nat) : PadsKept s (s.setF Reg.EDGE_STAT Fld.EDGE_STAT_TRIPPED_ANY v) := by
  refine ⟨rfl, State.fld_setF_field _ _ _ _ _ (by decide) (by decide), fun m _ => ?_⟩
  have hne : Reg.EDGE_STAT ≠ Reg.EDGE_PSTAT m := by simp only [Reg.EDGE_STAT, Reg.EDGE_PSTAT]; omega
  exact ⟨State.fld_setF_other _ _ _ _ _ _ hne, State.fld_setF_other _ _ _ _ _ _ hne⟩

theorem padsKept_holdPairs : PadsKept s s.holdPairs := by
  unfold State.holdPairs
  extract_lets s1
  have h1 : PadsKept s s1 := PadsKept.foldl (fun t m => by
    dsimp only
    split
    · exact ((padsKept_setPair ..).trans (padsKept_setPair ..)).trans (padsKept_pstat ..)
    · exact PadsKept.refl _) _ s
  clear_value s1
  exact h1.trans (padsKept_setF_stat _)

/-- The registers of a first latch are written by it alone. -/
theorem State.rd_recordFirst_other (was : Bool) (src : Nat) {a : Nat} (hst : a ≠ Reg.QSET_STAT) (hlo : a ≠ Reg.QSET_FIRST_TS_LO)
    (hhi : a ≠ Reg.QSET_FIRST_TS_HI) (hct : a ≠ Reg.QSET_COUNT) : (s.recordFirst was src).rd a = s.rd a := by
  simp only [State.recordFirst]
  split_ifs
  · simp [State.rd_setF, State.rd_wr, State.rd_bump, hlo, hhi, hst, hct]
  · simp [State.rd_setF, hst]
  · rfl

theorem State.rd_holdPairs_other {a : Nat} (hlo : 0x60000 ≤ a) (hhi : a < 0x2000000) : s.holdPairs.rd a = s.rd a := by
  simp only [State.holdPairs]
  rw [State.rd_setF_other _ _ _ _ _ (by simp only [Reg.EDGE_STAT]; omega)]
  refine rd_foldl _ (fun t m hm => ?_) _
  have hm' : m < 64 := (List.mem_range.mp hm).trans_le (pairsOf_le _)
  split
  · rw [State.rd_pstat _ _ _ _ _ (by simp only [Reg.EDGE_PSTAT]; omega) (by simp only [Reg.EDGE_PSTAT]; omega), State.rd_setPair,
      State.rd_setPair]
  · rfl

/-- A bit that was set reads as set. -/
theorem State.bit_setBit_same (a i : Nat) (hi : i < 32) : (s.setBit a i true).bit a i = true := by
  have h : (s.setBit a i true).fld a ⟨i, 1⟩ = 1 := State.fld_setF_same _ _ _ _ hi
  have hbit := fget_bit ⟨i, 1⟩ ((s.setBit a i true).rd a) 0
  rw [← State.fld, h] at hbit
  exact hbit.symm

theorem padsKept_setBit {a : Nat} (i : Nat) (v : Bool) (ha : 0x150000 ≤ a) : PadsKept s (s.setBit a i v) :=
  PadsKept.of_rd rfl fun c hc => State.rd_setBit _ _ _ _ _ (by omega)

theorem padsKept_showLatches : PadsKept s s.showLatches :=
  PadsKept.of_rd (by rw [State.edge_of_outside (t := s.showLatches) (s := s) (by simp)]) fun c hc => State.rd_showLatches _ _
    (by simp only [Reg.QSET_STAT]; omega)

theorem padsKept_of_outside (h : t.outside [.ev, .ctx, .qset, .ring] = s.outside [.ev, .ctx, .qset, .ring]) : PadsKept s t := by
  have ht : t = { s with ev := t.ev, ctx := t.ctx, qset := t.qset, ring := t.ring } := State.eq_patch h
  rw [ht]
  exact PadsKept.of_rd rfl fun _ _ => rfl

theorem padsKept_sendSet : PadsKept s s.sendSet := padsKept_of_outside (by simp)

theorem padsKept_watchQset : PadsKept s s.watchQset := padsKept_of_outside (by simp)

theorem padsKept_recordFirst (was : Bool) (src : Nat) : PadsKept s (s.recordFirst was src) :=
  PadsKept.of_rd (by rw [State.edge_of_outside (t := s.recordFirst was src) (s := s) (by simp)]) fun c hc => State.rd_recordFirst_other _ _
    (by simp only [Reg.QSET_STAT]; omega) (by simp only [Reg.QSET_FIRST_TS_LO]; omega) (by simp only [Reg.QSET_FIRST_TS_HI]; omega)
    (by simp only [Reg.QSET_COUNT]; omega)

/-- The latch of source 116, PWM_PAD_SHORT, once set and kept by what follows. -/
theorem State.latched_of_set {v w : State} (h : w.rd (Reg.QSET_LATCH 3) = (v.setBit (Reg.QSET_LATCH 3) 20 true).rd (Reg.QSET_LATCH 3)) :
    w.latched 116 = true := by
  have hset := v.bit_setBit_same (Reg.QSET_LATCH 3) 20 (by decide)
  rw [State.bit, ← h] at hset
  exact hset

theorem State.rd_latch_kept (hst : t = s.showLatches) : t.rd (Reg.QSET_LATCH 3) = s.rd (Reg.QSET_LATCH 3) := by
  rw [hst]; exact State.rd_showLatches _ _ (by decide)

theorem padsKept_qsetKeep : PadsKept s (s.qsetKeep 116) ∧ (s.qsetKeep 116).latched 116 = true := by
  unfold State.qsetKeep
  extract_lets q s1 now free s2 mine clears sent q2
  have hset : s1.rd (Reg.QSET_LATCH 3) = _ := State.rd_latch_kept rfl
  have h1 : PadsKept s s1 := ((padsKept_of_outside (by simp)).trans (padsKept_setBit _ _ (by decide))).trans padsKept_showLatches
  have h2 : PadsKept s1 s2 := padsKept_of_outside (by simp [s2])
  have hrd2 : s2.rd (Reg.QSET_LATCH 3) = s1.rd (Reg.QSET_LATCH 3) := State.rd_tripTake ..
  clear_value s2 s1 clears sent
  refine ⟨((h1.trans h2).trans (padsKept_of_outside (by simp))).trans padsKept_holdPairs, State.latched_of_set (Eq.trans ?_ hset)⟩
  rw [State.rd_holdPairs_other (by decide) (by decide), ← hrd2]
  rfl

theorem padsKept_qsetTrip : PadsKept s (s.qsetTrip 116) ∧ (s.srcEnabled 116 = true → (s.qsetTrip 116).latched 116 = true) := by
  unfold State.qsetTrip
  split
  · next h =>
    refine ⟨PadsKept.refl s, fun he => ?_⟩
    simpa [he] using h
  · split
    · exact ⟨padsKept_qsetKeep.1, fun _ => padsKept_qsetKeep.2⟩
    · extract_lets was s0 q s1
      have hset : s0.rd (Reg.QSET_LATCH 3) = _ := State.rd_latch_kept rfl
      have h0 : PadsKept s s0 := ((padsKept_of_outside (by simp)).trans (padsKept_setBit _ _ (by decide))).trans padsKept_showLatches
      have h1 : PadsKept s0 s1 := padsKept_of_outside (by simp [s1])
      have hrd1 : s1.rd (Reg.QSET_LATCH 3) = s0.rd (Reg.QSET_LATCH 3) := rfl
      clear_value s1 s0
      refine ⟨((((h0.trans h1).trans (padsKept_recordFirst ..)).trans padsKept_sendSet).trans padsKept_holdPairs).trans padsKept_watchQset, fun _ => State.latched_of_set (Eq.trans ?_ hset)⟩
      rw [State.rd_watchQset, State.rd_holdPairs_other (by decide) (by decide), State.rd_sendSet,
        State.rd_recordFirst_other _ _ (by decide) (by decide) (by decide) (by decide), hrd1]

theorem State.srcEnabled_congr (h : t.rd (Reg.QSET_MAP 116) = s.rd (Reg.QSET_MAP 116)) : t.srcEnabled 116 = s.srcEnabled 116 := by
  rw [State.srcEnabled, State.fld_congr h, State.srcEnabled]

theorem padsKept_qsetSource : PadsKept s (s.qsetSource 116 true) ∧ (s.srcEnabled 116 = true → (s.qsetSource 116 true).latched 116 = true) := by
  have heq : s.qsetSource 116 true = (s.setBit (Reg.QSET_ACTIVE 3) 20 true).qsetTrip 116 := rfl
  obtain ⟨hkept, hlatch⟩ := padsKept_qsetTrip (s := s.setBit (Reg.QSET_ACTIVE 3) 20 true)
  have hen : (s.setBit (Reg.QSET_ACTIVE 3) 20 true).srcEnabled 116 = s.srcEnabled 116 :=
    State.srcEnabled_congr (State.rd_setBit _ _ _ _ _ (by decide))
  rw [heq]
  exact ⟨(padsKept_setBit _ _ (by decide)).trans hkept, fun he => hlatch (hen.trans he)⟩

theorem State.pad_of_pads (h : t.edge.pads = s.edge.pads) (k : Nat) : t.pad k = s.pad k := by rw [State.pad, h, State.pad]

/-- The registers of the pads' shorts are among those that a trip touches. -/
theorem padRegs_mem_tripRegs (hn : n < 64) {a : Nat} (ha : a ∉ tripRegs) : a ∉ [Reg.EDGE_STAT, Reg.EDGE_PSTAT n, loopReg .b (Reg.EDGE_PSTAT n)] := by
  obtain ⟨⟨-, -, -, -, hes⟩, -, -, hp, hq⟩ := not_mem_tripRegs.mp ha
  simp [hes, hp n hn, hq n hn, loopReg_b]

theorem qsetMap_not_mem_padRegs (hn : n < 64) : Reg.QSET_MAP 116 ∉ [Reg.EDGE_STAT, Reg.EDGE_PSTAT n, loopReg .b (Reg.EDGE_PSTAT n)] := by
  simp only [List.mem_cons, List.not_mem_nil, or_false, not_or, loopReg_b, Reg.QSET_MAP, Reg.EDGE_STAT, Reg.EDGE_PSTAT]
  omega

theorem State.pairUsed_lt (hu : s.pairUsed n = true) : n < 64 := by
  rw [State.pairUsed, Bool.and_eq_true, decide_eq_true_eq] at hu
  exact hu.1.trans_le (pairsOf_le _)

theorem State.eq_tripped (h : t.outside [.regs, .ev, .ctx, .edge, .qset, .ring, .recent] = u.outside [.regs, .ev, .ctx, .edge, .qset, .ring, .recent]) :
    t = { u with regs := t.regs, ev := t.ev, ctx := t.ctx, edge := t.edge, qset := t.qset, ring := t.ring, recent := t.recent } :=
  State.eq_patch h

theorem exec_pwmPadShort (dt differs : Nat) (hu : s.pairUsed n = true) (hd : Config.nsec 100 ≤ differs)
    (hs : (s.pad (2 * n + flag b)).shorted = false) :
    exec (.pwmPadShort dt n b differs) s = .next (((((s.tick dt).setPad (2 * n + flag b) { s.pad (2 * n + flag b) with shorted := true }).showPads
      n).qsetSource 116 true).post Ev.PWM_PAD_SHORT n (flag b)) := by
  have hs' : ¬(s.pad (2 * n + flag b)).shorted = true := by rw [hs]; exact Bool.false_ne_true
  simp only [exec, execPwmPadShort, if_neg (not_unused dt hu), if_pos hd, State.pad_tick]
  exact if_neg hs'

theorem pwmPadShort_row (dt differs : Nat) (hu : s.pairUsed n = true) (hd : Config.nsec 100 ≤ differs)
    (hs : (s.pad (2 * n + flag b)).shorted = false) :
    Does (.pwmPadShort dt n b differs) s fun t =>
      (t.pad (2 * n + flag b)).shorted = true ∧ t.fld Reg.EDGE_STAT Fld.EDGE_STAT_SHORT_ANY = 1
      ∧ t.fld (Reg.EDGE_PSTAT n) (if b then Fld.EDGE_PSTAT_PAD_SHORT_B else Fld.EDGE_PSTAT_PAD_SHORT_A) = 1
      ∧ (s.srcEnabled 116 = true → t.latched 116 = true)
      ∧ t.ev.posted.getLast?.map (fun e => (e.code, e.arg)) = some (Ev.PWM_PAD_SHORT, evArg n (flag b) 0)
      ∧ RegsBut tripRegs s t ∧ t = { s.tick dt with
            regs := t.regs, ev := t.ev, ctx := t.ctx, edge := t.edge, qset := t.qset, ring := t.ring, recent := t.recent } := by
  have hn := State.pairUsed_lt hu
  refine Does.of_eq (exec_pwmPadShort dt differs hu hd hs) fun t ht => ?_
  generalize hp : ({ s.pad (2 * n + flag b) with shorted := true } : Pad) = p at ht
  have hps : p.shorted = true := by rw [← hp]
  generalize hv : (s.tick dt).setPad (2 * n + flag b) p = v at ht
  have hvpad : v.pad (2 * n + flag b) = p := by rw [← hv, State.pad_setPad_same]
  obtain ⟨-, hA, hB, -, hany, hregs, hout⟩ := v.showPads_facts (n := n)
  have hpad := v.pad_showPads (n := n) (2 * n + flag b)
  generalize v.showPads n = w at ht hA hB hany hregs hout hpad
  obtain ⟨⟨hkp, hkstat, hkp'⟩, hlatch⟩ := padsKept_qsetSource (s := w)
  have hrq (a : Nat) (ha : a ∉ tripRegs) := w.rd_qsetSource 116 true a (by decide) ha
  have hoq : (w.qsetSource 116 true).outside [.regs, .ev, .ctx, .edge, .qset, .ring, .recent] = w.outside [.regs, .ev, .ctx, .edge, .qset, .ring, .recent] := by
    simp
  generalize w.qsetSource 116 true = q at ht hkp hkstat hkp' hlatch hrq hoq
  have htr (a : Nat) : t.rd a = q.rd a := by rw [ht, State.rd_post]
  have hput : (v.edge.pads.any fun e => e.2.shorted) = true := by
    rw [← hv]; exact SMap.any_put (fun _ => Pad.reset) _ _ p Pad.shorted hps rfl
  refine ⟨?_, ?_, ?_, fun he => ?_, ?_, fun a ha => ?_, ?_⟩
  · rw [ht, State.pad_post, State.pad_of_pads hkp, hpad, hvpad, hps]
  · rw [State.fld_congr (htr _), hkstat, hany, hput]; rfl
  · cases b with
    | false =>
      have hmine : (v.pad (2 * n)).shorted = true := by rw [← hps, ← hvpad]; rfl
      rw [State.fld_congr (htr _)]
      exact (hkp' n hn).1.trans (hA.trans (by rw [hmine]; rfl))
    | true =>
      have hmine : (v.pad (2 * n + 1)).shorted = true := by rw [← hps, ← hvpad]; rfl
      rw [State.fld_congr (htr _)]
      exact (hkp' n hn).2.trans (hB.trans (by rw [hmine]; rfl))
  · have hmap : w.srcEnabled 116 = s.srcEnabled 116 := by
      refine State.srcEnabled_congr ?_
      rw [hregs _ (qsetMap_not_mem_padRegs hn), ← hv]
      exact State.rd_of_outside (by simp) _
    have hl := hlatch (hmap.trans he)
    rw [State.latched, State.bit] at hl ⊢
    rw [htr]; exact hl
  · obtain ⟨-, -, e, hlast, hcode, harg, -⟩ := posted_postArg Ev.PWM_PAD_SHORT (evArg n (flag b) 0) q
    have hlast' : t.ev.posted.getLast? = some e := by rw [ht]; exact hlast
    rw [hlast', Option.map_some, hcode, harg]
  · rw [htr, hrq a ha, hregs a (padRegs_mem_tripRegs hn ha), ← hv]
    exact State.rd_of_outside (by simp) a
  · have hw := State.eq_regs hout
    have hwo : w.outside [.regs, .ev, .ctx, .edge, .qset, .ring, .recent] = (s.tick dt).outside [.regs, .ev, .ctx, .edge, .qset, .ring, .recent] := by
      rw [hw, ← hv]; simp [-State.tick_tags]
    have hto : t.outside [.regs, .ev, .ctx, .edge, .qset, .ring, .recent] = q.outside [.regs, .ev, .ctx, .edge, .qset, .ring, .recent] := by
      rw [ht]; simp
    exact State.eq_tripped (hto.trans (hoq.trans hwo))
end

end Sys2Proof.Machine

namespace Sys2Proof.Machine

open Sys2Proof

/-! ### Switch nodes (R250 to R254): what a measurement leaves on each side -/

section
set_option Elab.async false

variable {s t u : State} {x y : Side} {n : Nat}

/-- The fields and delays that a falling edge, or a rising one, is measured by. -/
def swnField (fall : Bool) : Field := if fall then Fld.EDGE_SWN_FALL_MEAS else Fld.EDGE_SWN_RISE_MEAS

def trimField (fall : Bool) : Field := if fall then Fld.EDGE_TRIM_FALL_TRIM else Fld.EDGE_TRIM_RISE_TRIM

def trimEnField (fall : Bool) : Field := if fall then Fld.EDGE_TRIM_CFG_FALL_EN else Fld.EDGE_TRIM_CFG_RISE_EN

def boundField (fall : Bool) : Field := if fall then Fld.EDGE_PSTAT_FALL_AT_BOUND else Fld.EDGE_PSTAT_RISE_AT_BOUND

def Pair.misses (fall : Bool) (p : Pair) : Nat := if fall then p.fallMiss else p.riseMiss

def State.swnDelay (s : State) (n : Nat) (fall : Bool) : Nat :=
  if fall then s.fld (Reg.EDGE_FALL n) Fld.EDGE_FALL_DELAY else s.fld (Reg.EDGE_RISE n) Fld.EDGE_RISE_DELAY

@[simp] theorem State.pair_setPair_same (p : Pair) : (s.setPair x n p).pair x n = p := SMap.get_put_same _ _ _ _

theorem State.pair_setPair_other (p : Pair) (h : x ≠ y) : (s.setPair x n p).pair y n = s.pair y n := by
  refine SMap.get_put_other _ _ _ _ _ ?_
  cases x <;> cases y <;> simp [Side.code] at h ⊢

/-- The registers of a pair's measurement on a side. -/
def swnRegs (x : Side) (n : Nat) : List Nat := [loopReg x (Reg.EDGE_SWN n), loopReg x (Reg.EDGE_PSTAT n), loopReg x (Reg.EDGE_TRIM n)]

theorem swnRegs_apart (n : Nat) (x : Side) : loopReg x (Reg.EDGE_SWN n) ≠ loopReg x (Reg.EDGE_PSTAT n)
    ∧ loopReg x (Reg.EDGE_SWN n) ≠ loopReg x (Reg.EDGE_TRIM n) ∧ loopReg x (Reg.EDGE_PSTAT n) ≠ loopReg x (Reg.EDGE_TRIM n) := by
  simp only [loopReg, Reg.EDGE_SWN, Reg.EDGE_PSTAT, Reg.EDGE_TRIM]
  omega

/-- The trim that a measurement of an edge makes. -/
def State.trimNew (s : State) (x : Side) (n : Nat) (fall : Bool) (meas : Nat) : Int :=
  if s.fld (Reg.EDGE_TRIM_CFG n) (trimEnField fall) = 0 then s.fldS (loopReg x (Reg.EDGE_TRIM n)) (trimField fall)
  else trimMove (s.fld (Reg.EDGE_TRIM_CFG n) Fld.EDGE_TRIM_CFG_STEP) (s.fld (Reg.EDGE_TRIM_CFG n) Fld.EDGE_TRIM_CFG_TRIM_MAX)
    ((meas : Int) + s.fld (Reg.EDGE_TRIM_CFG n) Fld.EDGE_TRIM_CFG_MARGIN - s.swnDelay n fall) (s.fldS (loopReg x (Reg.EDGE_TRIM n)) (trimField fall))

theorem trimMove_bounds (step : Nat) {bound : Nat} (hb : bound < 4096) (target v : Int) :
    -32768 ≤ trimMove step bound target v ∧ trimMove step bound target v ≤ 32767 := by
  simp only [trimMove]
  generalize v + clampInt (-(step : Int)) step (target - v) = w
  simp only [clampInt]
  split_ifs <;> omega

theorem State.swnSide_facts (fall : Bool) (meas : Nat) :
    (s.swnSide x n fall meas).fld (loopReg x (Reg.EDGE_SWN n)) (swnField fall) = meas % 65536
    ∧ ((s.swnSide x n fall meas).pair x n).misses fall = 0
    ∧ (s.swnSide x n fall meas).fldS (loopReg x (Reg.EDGE_TRIM n)) (trimField fall) = s.trimNew x n fall meas
    ∧ RegsBut (swnRegs x n) s (s.swnSide x n fall meas)
    ∧ (∀ y, x ≠ y → (s.swnSide x n fall meas).pair y n = s.pair y n) := by
  obtain ⟨hsp, hst, hpt⟩ := swnRegs_apart n x
  unfold State.swnSide
  extract_lets c r ps f en delay bound s1 p p2 s2 s3 tr
  have hrd (a : Nat) (hp : a ≠ loopReg x (Reg.EDGE_PSTAT n)) : s3.rd a = s1.rd a := by
    rw [State.rd_setF_other _ _ _ _ _ hp.symm, State.rd_setPair]
  have hmeas : s3.fld (loopReg x (Reg.EDGE_SWN n)) (swnField fall) = meas % 65536 := by
    rw [State.fld_congr (hrd _ hsp)]
    cases fall with
    | false => exact State.fld_setF_same _ _ _ _ (by decide)
    | true => exact State.fld_setF_same _ _ _ _ (by decide)
  have hmiss : (s3.pair x n).misses fall = 0 := by
    have hp : s3.pair x n = p2 := State.pair_setPair_same _
    rw [hp]
    cases fall <;> rfl
  have hregs (a : Nat) (hs : a ≠ loopReg x (Reg.EDGE_SWN n)) (hp : a ≠ loopReg x (Reg.EDGE_PSTAT n)) : s3.rd a = s.rd a := by
    rw [hrd a hp, State.rd_setF_other _ _ _ _ _ hs.symm]
  have hpair (y : Side) (hy : x ≠ y) : s3.pair y n = s.pair y n := State.pair_setPair_other (s := s1) p2 hy
  have htr : tr = trimMove (fget Fld.EDGE_TRIM_CFG_STEP c) bound ((meas : Int) + fget Fld.EDGE_TRIM_CFG_MARGIN c - delay) (s3.fldS r f) := rfl
  have hold : s3.fldS r f = s.fldS (loopReg x (Reg.EDGE_TRIM n)) (trimField fall) :=
    (State.fldS_of_rd (hregs _ hst.symm hpt.symm)).trans rfl
  clear_value s3 tr
  split
  · next hen =>
    have hen' : s.fld (Reg.EDGE_TRIM_CFG n) (trimEnField fall) = 0 := hen
    refine ⟨hmeas, hmiss, ?_, fun a ha => ?_, hpair⟩
    · rw [State.trimNew, if_pos hen']; exact hold
    · simp only [swnRegs, List.mem_cons, List.not_mem_nil, or_false, not_or] at ha
      obtain ⟨hs, hp, -⟩ := ha
      exact hregs a hs hp
  · next hen =>
    have hen' : ¬s.fld (Reg.EDGE_TRIM_CFG n) (trimEnField fall) = 0 := hen
    have hnew : tr = s.trimNew x n fall meas := by rw [htr, hold, State.trimNew, if_neg hen']; rfl
    have hb : -32768 ≤ tr ∧ tr ≤ 32767 := by rw [htr]; exact trimMove_bounds _ (fget_lt ..) _ _
    refine ⟨?_, hmiss, ?_, fun a ha => ?_, hpair⟩
    · rw [State.fld_setF_other _ _ _ _ _ _ hsp.symm, State.fld_congr (State.rd_setFS_other _ _ _ _ _ hst), hmeas]
    · rw [State.fldS_of_rd (State.rd_setF_other _ _ _ _ _ hpt), ← hnew]
      cases fall with
      | false => exact State.fldS_setFS_sample _ (by decide) hb
      | true => exact State.fldS_setFS_sample _ (by decide) hb
    · simp only [swnRegs, List.mem_cons, List.not_mem_nil, or_false, not_or] at ha
      obtain ⟨hs, hp, htm⟩ := ha
      rw [State.rd_setF_other _ _ _ _ _ (Ne.symm hp), State.rd_setFS_other _ _ _ _ _ htm, hregs a hs hp]

/-- A miss counts, and from the sixteenth on shows the switch node idle. -/
theorem State.swnMissSide_facts :
    (s.swnMissSide x n false).fld (loopReg x (Reg.EDGE_SWN n)) Fld.EDGE_SWN_RISE_MEAS = 0xFFFF
    ∧ ((s.swnMissSide x n false).pair x n).riseMiss = (s.pair x n).riseMiss + 1
    ∧ (15 ≤ (s.pair x n).riseMiss → (s.swnMissSide x n false).fld (loopReg x (Reg.EDGE_PSTAT n)) Fld.EDGE_PSTAT_SWN_IDLE = 1)
    ∧ RegsBut [loopReg x (Reg.EDGE_SWN n), loopReg x (Reg.EDGE_PSTAT n)] s (s.swnMissSide x n false)
    ∧ (∀ y, x ≠ y → (s.swnMissSide x n false).pair y n = s.pair y n) := by
  obtain ⟨hsp, -, -⟩ := swnRegs_apart n x
  unfold State.swnMissSide
  extract_lets s1 p p2 s2
  have hmeas : s2.fld (loopReg x (Reg.EDGE_SWN n)) Fld.EDGE_SWN_RISE_MEAS = 0xFFFF := by
    rw [State.fld_congr (t := s2) (s := s1) (State.rd_setPair ..)]
    exact State.fld_setF_same _ _ _ _ (by decide)
  have hmiss : s2.pair x n = p2 := State.pair_setPair_same _
  have hp2 : p2.riseMiss = (s.pair x n).riseMiss + 1 := rfl
  have hregs (a : Nat) (hs : a ≠ loopReg x (Reg.EDGE_SWN n)) : s2.rd a = s.rd a := by
    rw [State.rd_setPair, State.rd_setF_other _ _ _ _ _ hs.symm]
  have hpair (y : Side) (hy : x ≠ y) : s2.pair y n = s.pair y n := State.pair_setPair_other (s := s1) p2 hy
  clear_value s2 p2
  split
  · refine ⟨?_, by rw [← hp2, ← hmiss]; rfl, fun _ => State.fld_setF_same _ _ _ _ (by decide), fun a ha => ?_, hpair⟩
    · rw [State.fld_setF_other _ _ _ _ _ _ hsp.symm, hmeas]
    · simp only [List.mem_cons, List.not_mem_nil, or_false, not_or] at ha
      rw [State.rd_setF_other _ _ _ _ _ (Ne.symm ha.2), hregs a ha.1]
  · next hn =>
    refine ⟨hmeas, by rw [hmiss, hp2], fun h => absurd (Or.inr (by omega)) hn, fun a ha => ?_, hpair⟩
    simp only [List.mem_cons, List.not_mem_nil, or_false, not_or] at ha
    exact hregs a ha.1
end

end Sys2Proof.Machine

namespace Sys2Proof.Machine

open Sys2Proof

/-! ### A measurement taken on both sides (R22, R250 to R253) -/

section
set_option Elab.async false

variable {s t w : State} {y : Side} {n : Nat}

/-- A measurement is taken on a side that runs the control, after or before the other one. -/
theorem State.bothSides_cases (f : State → Side → State) (hy : s.runsControl y = true) :
    ∃ w, (w = s ∨ w = f s y.other) ∧ (s.bothSides f = f w y ∨ s.bothSides f = f (f w y) y.other) := by
  cases y with
  | a =>
    refine ⟨s, Or.inl rfl, ?_⟩
    cases hb : s.runsControl .b with
    | false => exact Or.inl (by simp [State.bothSides, hy, hb])
    | true => exact Or.inr (by simp [State.bothSides, hy, hb, Side.other])
  | b =>
    cases ha : s.runsControl .a with
    | false => exact ⟨s, Or.inl rfl, Or.inl (by simp [State.bothSides, hy, ha])⟩
    | true => exact ⟨f s .a, Or.inr rfl, Or.inl (by simp [State.bothSides, hy, ha])⟩

/-- What the other side's measurement leaves of a side. -/
def SideSame (y : Side) (n : Nat) (s t : State) : Prop := t.pair y n = s.pair y n ∧ RegsBut (swnRegs y.other n) s t

theorem SideSame.refl : SideSame y n s s := ⟨rfl, fun _ _ => rfl⟩

theorem swnRegs_other (y : Side) (n : Nat) : loopReg y (Reg.EDGE_SWN n) ∉ swnRegs y.other n ∧ loopReg y (Reg.EDGE_PSTAT n) ∉ swnRegs y.other n
    ∧ loopReg y (Reg.EDGE_TRIM n) ∉ swnRegs y.other n := by
  cases y <;> simp only [swnRegs, List.mem_cons, List.not_mem_nil, or_false, not_or, loopReg, Side.other, Side.code, Reg.EDGE_SWN,
    Reg.EDGE_PSTAT, Reg.EDGE_TRIM] <;> omega

theorem cfgRegs_apart (x : Side) (n : Nat) : Reg.EDGE_TRIM_CFG n ∉ swnRegs x n ∧ Reg.EDGE_RISE n ∉ swnRegs x n ∧ Reg.EDGE_FALL n ∉ swnRegs x n := by
  cases x <;> simp only [swnRegs, List.mem_cons, List.not_mem_nil, or_false, not_or, loopReg, Side.code, Reg.EDGE_SWN,
    Reg.EDGE_PSTAT, Reg.EDGE_TRIM, Reg.EDGE_TRIM_CFG, Reg.EDGE_RISE, Reg.EDGE_FALL] <;> omega

theorem SideSame.trimNew (h : SideSame y n s t) (fall : Bool) (meas : Nat) : t.trimNew y n fall meas = s.trimNew y n fall meas := by
  obtain ⟨hcfg, hrise, hfall⟩ := cfgRegs_apart y.other n
  have hd : t.swnDelay n fall = s.swnDelay n fall := by
    rw [State.swnDelay, State.fld_congr (h.2 _ hrise), State.fld_congr (h.2 _ hfall), State.swnDelay]
  simp only [State.trimNew, State.fld_congr (h.2 _ hcfg), State.fldS_of_rd (h.2 _ (swnRegs_other y n).2.2), hd]

/-- Both sides' registers of a pair's measurement. -/
theorem mem_bothSwn {a : Nat} (h : a ∉ [Reg.EDGE_SWN n, Reg.EDGE_PSTAT n, Reg.EDGE_TRIM n].flatMap fun a => [a, loopReg .b a]) (x : Side) :
    a ∉ swnRegs x n := by
  simp only [List.flatMap_cons, List.flatMap_nil, List.cons_append, List.nil_append, List.append_nil, List.mem_cons, List.not_mem_nil,
    or_false, not_or] at h
  obtain ⟨h1, h2, h3, h4, h5, h6⟩ := h
  cases x with
  | a => simp [swnRegs, loopReg, Side.code, h1, h3, h5]
  | b => simp [swnRegs, h2, h4, h6]

/-- One side's step of a measurement that touches that side's registers and pair alone. -/
def SideOnly (n : Nat) (f : State → Side → State) : Prop :=
  ∀ s x, RegsBut (swnRegs x n) s (f s x) ∧ ∀ y, x ≠ y → (f s x).pair y n = s.pair y n

theorem SideOnly.same {f : State → Side → State} (hf : SideOnly n f) (s : State) (y : Side) : SideSame y n s (f s y.other) :=
  ⟨(hf s y.other).2 y y.other_ne, (hf s y.other).1⟩

/-- A side finds itself, in a measurement of both, as it was before, and what it does there stays. -/
theorem SideOnly.bothSides {f : State → Side → State} (hf : SideOnly n f) (hy : s.runsControl y = true) :
    ∃ w, SideSame y n s w ∧ SideSame y n (f w y) (s.bothSides f) := by
  obtain ⟨w, hw, ht⟩ := State.bothSides_cases f hy
  refine ⟨w, ?_, ?_⟩
  · obtain rfl | rfl := hw
    · exact SideSame.refl
    · exact hf.same s y
  · obtain ht | ht := ht
    · rw [ht]; exact SideSame.refl
    · rw [ht]; exact hf.same _ y

theorem SideOnly.rd_bothSides {f : State → Side → State} (hf : SideOnly n f) {a : Nat} (ha : ∀ x, a ∉ swnRegs x n) :
    (s.bothSides f).rd a = s.rd a := rd_foldl _ (fun t x _ => (hf t x).1 a (ha x)) _

theorem sideOnly_swnSide (fall : Bool) (meas : Nat) : SideOnly n fun st x => st.swnSide x n fall meas := by
  intro s x
  obtain ⟨-, -, -, hregs, hpair⟩ := s.swnSide_facts (x := x) (n := n) fall meas
  exact ⟨hregs, hpair⟩

theorem sideOnly_swnMissSide : SideOnly n fun st x => st.swnMissSide x n false := by
  intro s x
  obtain ⟨-, -, -, hregs, hpair⟩ := s.swnMissSide_facts (x := x) (n := n)
  refine ⟨fun a ha => hregs a fun h => ha ?_, hpair⟩
  simp only [List.mem_cons, List.not_mem_nil, or_false] at h
  rcases h with h | h <;> simp [swnRegs, h]

theorem swnTransition_row (dt : Nat) (fall : Bool) (meas : Nat) (hu : s.pairUsed n = true) (hy : s.runsControl y = true)
    (hm : meas ≤ s.swnLimit n fall) :
    Does (.swnTransition dt n fall meas) s fun t =>
      t.fld (loopReg y (Reg.EDGE_SWN n)) (swnField fall) = meas % 65536 ∧ (t.pair y n).misses fall = 0
      ∧ t.fldS (loopReg y (Reg.EDGE_TRIM n)) (trimField fall) = s.trimNew y n fall meas
      ∧ RegsBut ([Reg.EDGE_SWN n, Reg.EDGE_PSTAT n, Reg.EDGE_TRIM n].flatMap fun a => [a, loopReg .b a]) s t
      ∧ t = { s.tick dt with regs := t.regs, edge := t.edge } := by
  have hl : ¬(s.tick dt).swnLimit n fall < meas := not_lt.mpr hm
  have he : exec (.swnTransition dt n fall meas) s = .next ((s.tick dt).bothSides fun st x => st.swnSide x n fall meas) :=
    (if_neg (not_unused dt hu)).trans (if_neg hl)
  refine Does.of_eq he fun t ht => ?_
  obtain ⟨w, hw, hlast⟩ := (sideOnly_swnSide (n := n) fall meas).bothSides (s := s.tick dt) (y := y) hy
  rw [← ht] at hlast
  obtain ⟨hmeas, hmiss, htrim, -, -⟩ := w.swnSide_facts (x := y) (n := n) fall meas
  obtain ⟨hs, -, htm⟩ := swnRegs_other y n
  refine ⟨?_, ?_, ?_, fun a ha => ?_, State.eq_regs_edge (by rw [ht]; simp [-State.tick_tags])⟩
  · rw [State.fld_congr (hlast.2 _ hs), hmeas]
  · rw [hlast.1, hmiss]
  · rw [State.fldS_of_rd (hlast.2 _ htm), htrim, hw.trimNew]
    rfl
  · rw [ht, (sideOnly_swnSide fall meas).rd_bothSides (mem_bothSwn ha), State.rd_tick]

theorem swnMiss_row (dt : Nat) (hu : s.pairUsed n = true) (hy : s.runsControl y = true) :
    Does (.swnMiss dt n false) s fun t =>
      t.fld (loopReg y (Reg.EDGE_SWN n)) Fld.EDGE_SWN_RISE_MEAS = 0xFFFF ∧ (t.pair y n).riseMiss = (s.pair y n).riseMiss + 1
      ∧ (15 ≤ (s.pair y n).riseMiss → t.fld (loopReg y (Reg.EDGE_PSTAT n)) Fld.EDGE_PSTAT_SWN_IDLE = 1)
      ∧ RegsBut ([Reg.EDGE_SWN n, Reg.EDGE_PSTAT n].flatMap fun a => [a, loopReg .b a]) s t ∧ t = { s.tick dt with regs := t.regs, edge := t.edge } := by
  have he : exec (.swnMiss dt n false) s = .next ((s.tick dt).bothSides fun st x => st.swnMissSide x n false) := if_neg (not_unused dt hu)
  refine Does.of_eq he fun t ht => ?_
  obtain ⟨w, hw, hlast⟩ := (sideOnly_swnMissSide (n := n)).bothSides (s := s.tick dt) (y := y) hy
  rw [← ht] at hlast
  obtain ⟨hmeas, hmiss, hidle, -, -⟩ := w.swnMissSide_facts (x := y) (n := n)
  obtain ⟨hs, hp, -⟩ := swnRegs_other y n
  have hpair : w.pair y n = s.pair y n := hw.1
  rw [hpair] at hmiss hidle
  refine ⟨?_, ?_, fun h => ?_, fun a ha => ?_, State.eq_regs_edge (by rw [ht]; simp [-State.tick_tags])⟩
  · rw [State.fld_congr (hlast.2 _ hs), hmeas]
  · rw [hlast.1, hmiss]
  · rw [State.fld_congr (hlast.2 _ hp), hidle h]
  · simp only [List.flatMap_cons, List.flatMap_nil, List.cons_append, List.nil_append, List.append_nil, List.mem_cons, List.not_mem_nil,
      or_false, not_or] at ha
    obtain ⟨h1, h2, h3, h4⟩ := ha
    rw [ht]
    refine (rd_foldl _ (fun t x _ => ?_) _).trans (State.rd_tick ..)
    obtain ⟨-, -, -, hregs, -⟩ := t.swnMissSide_facts (x := x) (n := n)
    refine hregs a ?_
    cases x with
    | a => simp [loopReg, Side.code, h1, h3]
    | b => simp [h2, h4]
end

end Sys2Proof.Machine

namespace Sys2Proof.Machine

open Sys2Proof

/-! ### The trims at a period start (R253, R254) -/

section
set_option Elab.async false

variable {s t : State} {x : Side} {n : Nat}

theorem fgetS_bounds {lo : Nat} (w : Word) : -32768 ≤ fgetS ⟨lo, 16⟩ w ∧ fgetS ⟨lo, 16⟩ w ≤ 32767 := by
  have h : fget ⟨lo, 16⟩ w < 65536 := fget_lt ⟨lo, 16⟩ w
  simp only [fgetS]
  split_ifs <;> omega

theorem trimIdle_bounds (en idle : Bool) (step : Nat) {v : Int} (h : -32768 ≤ v ∧ v ≤ 32767) :
    -32768 ≤ trimIdle en idle step v ∧ trimIdle en idle step v ≤ 32767 := by
  simp only [trimIdle]
  split_ifs <;> omega

/-- A field of EDGE_PSTAT shown anew, where a trim has moved or is disabled. -/
theorem State.rd_boundShown (c : Prop) [Decidable c] (f : Field) (v : Nat) {a : Nat} (ha : a ≠ loopReg x (Reg.EDGE_PSTAT n)) :
    (if c then s else s.setF (loopReg x (Reg.EDGE_PSTAT n)) f v).rd a = s.rd a := by
  split
  · rfl
  · exact State.rd_setF_other _ _ _ _ _ ha.symm

theorem State.tripped_boundShown (c : Prop) [Decidable c] (f : Field) (v : Nat) (hf : f.lo + f.width ≤ 31) (a : Nat) :
    (if c then s else s.setF (loopReg x (Reg.EDGE_PSTAT n)) f v).fld a Fld.EDGE_PSTAT_TRIPPED = s.fld a Fld.EDGE_PSTAT_TRIPPED := by
  split
  · rfl
  · by_cases h : loopReg x (Reg.EDGE_PSTAT n) = a
    · rw [h, State.fld_setF_field _ _ _ _ _ (by decide) (Or.inr hf)]
    · exact State.fld_setF_other _ _ _ _ _ _ h

theorem State.trimsAtStart_facts :
    (s.trimsAtStart x n).fldS (loopReg x (Reg.EDGE_TRIM n)) Fld.EDGE_TRIM_RISE_TRIM =
        trimIdle (s.fld (Reg.EDGE_TRIM_CFG n) Fld.EDGE_TRIM_CFG_RISE_EN == 1) (decide (16 ≤ (s.pair x n).riseMiss))
          (s.fld (Reg.EDGE_TRIM_CFG n) Fld.EDGE_TRIM_CFG_STEP) (s.fldS (loopReg x (Reg.EDGE_TRIM n)) Fld.EDGE_TRIM_RISE_TRIM)
    ∧ RegsBut [loopReg x (Reg.EDGE_TRIM n), loopReg x (Reg.EDGE_PSTAT n)] s (s.trimsAtStart x n)
    ∧ (∀ y, (s.trimsAtStart x n).fld (loopReg y (Reg.EDGE_PSTAT n)) Fld.EDGE_PSTAT_TRIPPED
        = s.fld (loopReg y (Reg.EDGE_PSTAT n)) Fld.EDGE_PSTAT_TRIPPED) := by
  obtain ⟨-, -, hpt⟩ := swnRegs_apart n x
  unfold State.trimsAtStart
  extract_lets c r p step rise fall bound s1 s2
  have hr : r = loopReg x (Reg.EDGE_TRIM n) := rfl
  have hrise : -32768 ≤ rise ∧ rise ≤ 32767 := trimIdle_bounds _ _ _ (fgetS_bounds _)
  have hs1 (a : Nat) (ha : a ≠ r) : s1.rd a = s.rd a := by rw [State.rd_setFS_other _ _ _ _ _ ha, State.rd_setFS_other _ _ _ _ _ ha]
  have htrim : s1.fldS r Fld.EDGE_TRIM_RISE_TRIM = rise :=
    (State.fldS_setF_field _ _ _ _ _ (by decide) (by decide)).trans (State.fldS_setFS_sample _ (by decide) hrise)
  have hrd (a : Nat) (ha : a ≠ loopReg x (Reg.EDGE_PSTAT n)) :
      (bound s2 Fld.EDGE_PSTAT_FALL_AT_BOUND (s.fldS r Fld.EDGE_TRIM_FALL_TRIM) fall (fget Fld.EDGE_TRIM_CFG_FALL_EN c == 1)).rd a = s1.rd a :=
    (State.rd_boundShown _ _ _ ha).trans (State.rd_boundShown _ _ _ ha)
  refine ⟨?_, fun a ha => ?_, fun y => ?_⟩
  · rw [State.fldS_of_rd (hrd _ hpt.symm)]; exact htrim
  · simp only [List.mem_cons, List.not_mem_nil, or_false, not_or] at ha
    rw [hrd a ha.2, hs1 a ha.1]
  · have hyr : loopReg y (Reg.EDGE_PSTAT n) ≠ r := by
      rw [hr]
      cases x <;> cases y <;> simp only [loopReg, Side.code, Reg.EDGE_PSTAT, Reg.EDGE_TRIM] <;> omega
    exact (State.tripped_boundShown _ _ _ (by decide) _).trans ((State.tripped_boundShown _ _ _ (by decide) _).trans
      (State.fld_congr (hs1 _ hyr) _))
end

end Sys2Proof.Machine

namespace Sys2Proof.Machine

open Sys2Proof

/-! ### Carrier periods (R240, R243, R278) -/

section
set_option Elab.async false

variable {s t u : State} {x : Side} {n : Nat}

theorem State.eq_carrier (h : t.outside [.regs, .edge, .keep] = u.outside [.regs, .edge, .keep]) (hk : t.keep = { u.keep with made := t.keep.made }) :
    t = { u with regs := t.regs, edge := t.edge, keep := { u.keep with made := t.keep.made } } := by
  rw [← hk]; exact State.eq_patch h

theorem State.keep_produce (items : List (Nat × Int)) : (s.produce x items).keep = { s.keep with made := (s.produce x items).keep.made } := rfl

theorem State.pair_produce (items : List (Nat × Int)) (y : Side) (m : Nat) : (s.produce x items).pair y m = s.pair y m := rfl

theorem State.rd_produce (items : List (Nat × Int)) (a : Nat) : (s.produce x items).rd a = s.rd a := rfl

/-- A period start of a pair: what its registers and its pair become. -/
def State.periodBegun (s : State) (x : Side) (n : Nat) (p : Pair) (items : List (Nat × Int)) : State :=
  ((s.setPair x n p).produce x items).trimsAtStart x n

theorem State.periodBegun_facts (p : Pair) (items : List (Nat × Int)) :
    (s.periodBegun x n p items).pair x n = p
    ∧ (s.periodBegun x n p items).fldS (loopReg x (Reg.EDGE_TRIM n)) Fld.EDGE_TRIM_RISE_TRIM =
        trimIdle (s.fld (Reg.EDGE_TRIM_CFG n) Fld.EDGE_TRIM_CFG_RISE_EN == 1) (decide (16 ≤ p.riseMiss))
          (s.fld (Reg.EDGE_TRIM_CFG n) Fld.EDGE_TRIM_CFG_STEP) (s.fldS (loopReg x (Reg.EDGE_TRIM n)) Fld.EDGE_TRIM_RISE_TRIM)
    ∧ RegsBut [loopReg x (Reg.EDGE_TRIM n), loopReg x (Reg.EDGE_PSTAT n)] s (s.periodBegun x n p items)
    ∧ (∀ y, (s.periodBegun x n p items).fld (loopReg y (Reg.EDGE_PSTAT n)) Fld.EDGE_PSTAT_TRIPPED
        = s.fld (loopReg y (Reg.EDGE_PSTAT n)) Fld.EDGE_PSTAT_TRIPPED)
    ∧ (s.periodBegun x n p items).keep = { s.keep with made := (s.periodBegun x n p items).keep.made }
    ∧ (s.periodBegun x n p items).outside [.regs, .edge, .keep] = s.outside [.regs, .edge, .keep] := by
  rw [State.periodBegun]
  generalize hv : (s.setPair x n p).produce x items = v
  have hvr (a : Nat) : v.rd a = s.rd a := by rw [← hv, State.rd_produce, State.rd_setPair]
  have hvp : v.pair x n = p := by rw [← hv, State.pair_produce, State.pair_setPair_same]
  have hvk : v.keep = { s.keep with made := v.keep.made } := by rw [← hv]; rfl
  have hvo : v.outside [.regs, .edge, .keep] = s.outside [.regs, .edge, .keep] := by rw [← hv]; simp
  obtain ⟨htrim, hregs, htripped⟩ := v.trimsAtStart_facts (x := x) (n := n)
  have hedge : (v.trimsAtStart x n).edge = v.edge := State.edge_of_outside (by simp)
  have hkeep : (v.trimsAtStart x n).keep = v.keep := State.keep_of_outside (by simp)
  refine ⟨?_, ?_, fun a ha => ?_, fun y => ?_, by rw [hkeep]; exact hvk, by simp [hvo]⟩
  · rw [State.pair, hedge]; exact hvp
  · rw [htrim, hvp, State.fld_congr (hvr _), State.fld_congr (hvr _), State.fldS_of_rd (hvr _)]
  · rw [hregs a ha, hvr]
  · rw [htripped y, State.fld_congr (hvr _)]

/-- A period start is due. -/
theorem not_early (dt : Nat) (hrun : (s.tick dt).pairRuns x n = true) (hnext : (s.pair x n).next < (s.tick dt).nowUnits + 64) :
    ¬(!(s.tick dt).pairRuns x n || decide ((s.tick dt).nowUnits + 64 ≤ ((s.tick dt).pair x n).next)) = true := by
  have hp : (s.tick dt).pair x n = s.pair x n := rfl
  rw [hrun, hp, decide_eq_false (by omega)]
  decide

theorem State.riseEff_tick (dt : Nat) : (s.tick dt).riseEff x n = s.riseEff x n := rfl

theorem State.fallEff_tick (dt : Nat) : (s.tick dt).fallEff x n = s.fallEff x n := rfl

theorem State.inFallback_tick (dt : Nat) (b : Bool) : (s.tick dt).inFallback n b = s.inFallback n b := rfl

theorem State.padEdges_tick (dt : Nat) (refs : List (Nat × Bool)) : (s.tick dt).padEdges x n refs = s.padEdges x n refs := by
  induction refs with
  | nil => rfl
  | cons e refs ih =>
    simp only [State.padEdges, ih, State.riseEff_tick, State.fallEff_tick, State.inFallback_tick]
    rfl

theorem State.joinEdges_tick (dt : Nat) (out : List (Nat × Bool × Bool)) (refs : List (Nat × Bool)) :
    (s.tick dt).joinEdges x n out refs = s.joinEdges x n out refs := by
  simp only [State.joinEdges, State.padEdges_tick]

theorem carrierRun_row (dt : Nat) (hrun : (s.tick dt).pairRuns x n = true) (hnext : (s.pair x n).next < (s.tick dt).nowUnits + 64)
    (hpend : (s.pair x n).pend = []) (hheld : (s.pair x n).held = false) (henter : (s.pair x n).enter = 2) (horph : s.pairOrphan n = false)
    (hoff : s.edge.pairOff.contains n = false) :
    Does (.carrierPeriodStart dt x n) s fun t =>
      (t.pair x n).start = (s.pair x n).next ∧ (t.pair x n).next = (s.pair x n).next + (s.pair x n).per
      ∧ (t.pair x n).zeroDone = false ∧ (t.pair x n).halfDone = false ∧ (t.pair x n).word = (s.pair x n).word
      ∧ (t.pair x n).out = s.joinEdges x n ((s.pair x n).out.filter fun e => decide ((s.pair x n).next < e.1 + 192))
          ((s.pair x n).refs.filter fun e => decide (e.1 < (s.pair x n).next + (s.pair x n).per))
      ∧ (t.pair x n).levelA = levelAt (s.pair x n).out false (s.pair x n).next (s.pair x n).levelA
      ∧ (t.pair x n).levelB = levelAt (s.pair x n).out true (s.pair x n).next (s.pair x n).levelB
      ∧ t.fldS (loopReg x (Reg.EDGE_TRIM n)) Fld.EDGE_TRIM_RISE_TRIM =
          trimIdle (s.fld (Reg.EDGE_TRIM_CFG n) Fld.EDGE_TRIM_CFG_RISE_EN == 1) (decide (16 ≤ (s.pair x n).riseMiss))
            (s.fld (Reg.EDGE_TRIM_CFG n) Fld.EDGE_TRIM_CFG_STEP) (s.fldS (loopReg x (Reg.EDGE_TRIM n)) Fld.EDGE_TRIM_RISE_TRIM)
      ∧ RegsBut [loopReg x (Reg.EDGE_TRIM n), loopReg x (Reg.EDGE_PSTAT n)] s t
      ∧ t = { s.tick dt with regs := t.regs, edge := t.edge, keep := { s.keep with made := t.keep.made } } := by
  refine Does.of_answer fun t ht' => ?_
  have ht : execCarrierPeriodStart dt x n s = .next t := ht'
  have hearly := not_early dt hrun hnext
  unfold execCarrierPeriodStart at ht
  extract_lets s1 p per ph len leave held next off idle pat was low enters ent refs here p2 made s2 s3 at ht
  rw [if_neg hearly] at ht
  have hdue : p.due = none := by rw [Pair.due, show p.pend = [] from hpend]; rfl
  have hper : per = p.per := by
    show p.due.elim p.per _ = p.per
    rw [hdue]; rfl
  have hlen : next = p.next + p.per := by
    show p.next + (if p.due.isSome = true then _ else p.per) = _
    rw [hdue]; rfl
  have hleave : leave = false := by
    show (p.held && p.sawUpdate && !s1.pairTripped n) = false
    rw [show p.held = false from hheld]; rfl
  have hidle : idle = false := by
    show (p.held && !leave || s1.pairOrphan n) = false
    rw [show p.held = false from hheld, show s1.pairOrphan n = false from horph]; rfl
  have hlow : low = false := by
    show (s1.edge.pairOff.contains n || p.enter == 0) = false
    rw [show s1.edge.pairOff.contains n = false from hoff, show p.enter = 2 from henter]; rfl
  have henters : enters = false := by
    show (!idle && !low && (leave || p.enter == 1)) = false
    rw [hleave, show p.enter = 2 from henter, Bool.and_eq_false_iff]; exact Or.inr rfl
  have hrefs : refs = p.refs := by
    show (if enters = true then ent.refs else p.refs) = p.refs
    rw [henters]; rfl
  have hwas : was = (levelAt p.out false p.next p.levelA, levelAt p.out true p.next p.levelB) := by
    show (if leave = true then pat else _) = _
    rw [hleave]; rfl
  have ht2 : t = s1.periodBegun x n p2 (edgeItems n made) := by
    have hs3 : s3 = s2 := by
      show (match if enters = true then ent.short else none with | some d => s2.shortPulse x n d | none => s2) = s2
      rw [henters, if_neg Bool.false_ne_true]
    rw [hleave, hs3, if_neg Bool.false_ne_true, Host.Outcome.next.injEq] at ht
    rw [State.periodBegun]
    exact ht.symm
  have hout : p2.out = s.joinEdges x n (p.out.filter fun e => decide (p.next < e.1 + 192)) (p.refs.filter fun e => decide (e.1 < p.next + p.per)) := by
    show (if (idle || low) = true then [] else if enters = true then s1.joinEdges x n ent.first here
      else s1.joinEdges x n (p.out.filter fun e => decide (p.next < e.1 + 192)) (refs.filter fun e => decide (e.1 < next))) = _
    rw [hidle, hlow, henters, hrefs, hlen]
    exact State.joinEdges_tick ..
  have hlevelA : p2.levelA = levelAt p.out false p.next p.levelA := by
    show (if idle = true then p.levelA else was.1 && !low) = _
    rw [hidle, hlow, hwas]; exact Bool.and_true _
  have hlevelB : p2.levelB = levelAt p.out true p.next p.levelB := by
    show (if idle = true then p.levelB else was.2 && !low) = _
    rw [hidle, hlow, hwas]; exact Bool.and_true _
  have hnextEq : p2.next = p.next + p.per := hlen
  have hfields : p2.start = p.next ∧ p2.zeroDone = false ∧ p2.halfDone = false ∧ p2.word = p.word ∧ p2.riseMiss = p.riseMiss := ⟨rfl, rfl, rfl, rfl, rfl⟩
  clear_value p2 made
  obtain ⟨hpair, htrim, hregs, -, hkeep, hframe⟩ := s1.periodBegun_facts (x := x) (n := n) p2 (edgeItems n made)
  rw [← ht2] at hpair htrim hregs hkeep hframe
  obtain ⟨hstart, hzero, hhalf, hword, hrise⟩ := hfields
  rw [hpair]
  refine ⟨hstart, hnextEq, hzero, hhalf, hword, hout, hlevelA, hlevelB, ?_, fun a ha => ?_, State.eq_carrier hframe hkeep⟩
  · rw [htrim, hrise]; rfl
  · rw [hregs a ha]; exact State.rd_tick ..

/-! ### A period start of a held pair (R271, R278) -/

theorem State.rd_shortPulse (d : Bool) {a : Nat} (ha : a ≠ loopReg x (Reg.EDGE_PCNT n)) : (s.shortPulse x n d).rd a = s.rd a := by
  simp only [State.shortPulse]
  split
  · rfl
  · split
    · rw [State.rd_postLimited, State.rd_bump_other _ _ _ _ _ ha.symm]
    · rw [State.rd_bump_other _ _ _ _ _ ha.symm]

/-- A short first interval counted, where there was one. -/
def State.shortCounted (s : State) (x : Side) (n : Nat) (short : Option Bool) : State :=
  match short with
  | some d => s.shortPulse x n d
  | none => s

theorem State.shortCounted_facts (short : Option Bool) :
    RegsBut [loopReg x (Reg.EDGE_PCNT n)] s (s.shortCounted x n short) ∧ (s.shortCounted x n short).outside [.regs, .ev, .recent] = s.outside [.regs, .ev, .recent] := by
  cases short with
  | none => exact ⟨fun _ _ => rfl, rfl⟩
  | some d => exact ⟨fun a ha => State.rd_shortPulse d (by simpa using ha), by simp [State.shortCounted]⟩

/-- The side's own registers of a pair are among those of both sides. -/
theorem heldRegs_not_mem {a : Nat} (ha : a ∉ [loopReg x (Reg.EDGE_TRIM n), loopReg x (Reg.EDGE_PCNT n), Reg.EDGE_PSTAT n, loopReg .b (Reg.EDGE_PSTAT n)]) :
    a ∉ [loopReg x (Reg.EDGE_TRIM n), loopReg x (Reg.EDGE_PSTAT n)] ∧ a ∉ [loopReg x (Reg.EDGE_PCNT n)] := by
  simp only [List.mem_cons, List.not_mem_nil, or_false, not_or] at ha ⊢
  obtain ⟨h1, h2, h3, h4⟩ := ha
  cases x with
  | a => exact ⟨⟨h1, by simpa [loopReg, Side.code] using h3⟩, h2⟩
  | b => exact ⟨⟨h1, h4⟩, h2⟩

theorem pstat_ne_pcnt (x y : Side) (n : Nat) : loopReg y (Reg.EDGE_PSTAT n) ∉ [loopReg x (Reg.EDGE_PCNT n)] := by
  cases x <;> cases y <;> simp only [List.mem_singleton, loopReg, Side.code, Reg.EDGE_PSTAT, Reg.EDGE_PCNT] <;> omega

theorem State.eq_carrierHeld (h : t.outside [.regs, .ev, .edge, .recent, .keep] = u.outside [.regs, .ev, .edge, .recent, .keep])
    (hk : t.keep = { u.keep with made := t.keep.made }) :
    t = { u with regs := t.regs, ev := t.ev, edge := t.edge, recent := t.recent, keep := { u.keep with made := t.keep.made } } := by
  rw [← hk]; exact State.eq_patch h

/-- TRIPPED shown at both sides. -/
theorem State.fld_pstat_tripped (v : Nat) (y : Side) (hv : v < 2) :
    (s.pstat n Fld.EDGE_PSTAT_TRIPPED v).fld (loopReg y (Reg.EDGE_PSTAT n)) Fld.EDGE_PSTAT_TRIPPED = v := by
  cases y with
  | a => exact (State.fld_pstat_same _ _ (by decide)).trans (Nat.mod_eq_of_lt hv)
  | b => exact (State.fld_setF_same _ _ _ _ (by decide)).trans (Nat.mod_eq_of_lt hv)

theorem carrierHeld_row (dt : Nat) (hrun : (s.tick dt).pairRuns x n = true) (hnext : (s.pair x n).next < (s.tick dt).nowUnits + 64)
    (hpend : (s.pair x n).pend = []) (hheld : (s.pair x n).held = true) :
    Does (.carrierPeriodStart dt x n) s fun t =>
      (t.pair x n).start = (s.pair x n).next ∧ (t.pair x n).next = (s.pair x n).next + (s.pair x n).per
      ∧ (t.pair x n).held = !((s.pair x n).sawUpdate && !s.pairTripped n)
      ∧ (((s.pair x n).sawUpdate && !s.pairTripped n) = false → (t.pair x n).out = []
          ∧ t.fld (Reg.EDGE_PSTAT n) Fld.EDGE_PSTAT_TRIPPED = s.fld (Reg.EDGE_PSTAT n) Fld.EDGE_PSTAT_TRIPPED)
      ∧ (((s.pair x n).sawUpdate && !s.pairTripped n) = true → t.fld (Reg.EDGE_PSTAT n) Fld.EDGE_PSTAT_TRIPPED = 0
          ∧ t.fld (loopReg .b (Reg.EDGE_PSTAT n)) Fld.EDGE_PSTAT_TRIPPED = 0)
      ∧ RegsBut [loopReg x (Reg.EDGE_TRIM n), loopReg x (Reg.EDGE_PCNT n), Reg.EDGE_PSTAT n, loopReg .b (Reg.EDGE_PSTAT n)] s t
      ∧ t = { s.tick dt with
            regs := t.regs, ev := t.ev, edge := t.edge, recent := t.recent, keep := { s.keep with made := t.keep.made } } := by
  refine Does.of_answer fun t ht' => ?_
  have ht : execCarrierPeriodStart dt x n s = .next t := ht'
  have hearly := not_early dt hrun hnext
  unfold execCarrierPeriodStart at ht
  extract_lets s1 p per ph len leave held next off idle pat was low enters ent refs here p2 made s2 s3 at ht
  rw [if_neg hearly] at ht
  have hdue : p.due = none := by rw [Pair.due, show p.pend = [] from hpend]; rfl
  have hlen : next = p.next + p.per := by
    show p.next + (if p.due.isSome = true then _ else p.per) = _
    rw [hdue]; rfl
  have hleave : leave = ((s.pair x n).sawUpdate && !s.pairTripped n) := by
    show (p.held && p.sawUpdate && !s1.pairTripped n) = _
    rw [show p.held = true from hheld]; rfl
  have hheld2 : p2.held = !leave := by
    show (p.held && !leave) = _
    rw [show p.held = true from hheld]; rfl
  have hout (hl : leave = false) : p2.out = [] := by
    have hi : idle = true := by
      show (p.held && !leave || s1.pairOrphan n) = true
      rw [show p.held = true from hheld, hl]; rfl
    show (if (idle || low) = true then [] else _) = _
    rw [hi]; rfl
  have hstart : p2.start = p.next := rfl
  have hnext2 : p2.next = p.next + p.per := hlen
  have hs2 : s2 = s1.periodBegun x n p2 (edgeItems n made) := by rw [State.periodBegun]
  have hs3 : s3 = s2.shortCounted x n (if enters = true then ent.short else none) := rfl
  generalize (if enters = true then ent.short else none) = short at hs3
  clear_value s3 s2 p2 made leave
  obtain ⟨hpair, -, hregs, htripped, hkeep, hframe⟩ := s1.periodBegun_facts (x := x) (n := n) p2 (edgeItems n made)
  rw [← hs2] at hpair hregs htripped hkeep hframe
  obtain ⟨hcount, hcframe⟩ := s2.shortCounted_facts (x := x) (n := n) short
  rw [← hs3] at hcount hcframe
  have hs3' : s3 = { s2 with regs := s3.regs, ev := s3.ev, recent := s3.recent } := State.eq_regs_ev_recent hcframe
  have hpair3 : s3.pair x n = p2 := by rw [hs3']; exact hpair
  have hkeep3 : s3.keep = { s1.keep with made := s3.keep.made } := by rw [hs3']; exact hkeep
  have hframe3 : s3.outside [.regs, .ev, .edge, .recent, .keep] = s1.outside [.regs, .ev, .edge, .recent, .keep] := by
    rw [hs3', State.eq_patch hframe]; rfl
  have htrip3 (y : Side) : s3.fld (loopReg y (Reg.EDGE_PSTAT n)) Fld.EDGE_PSTAT_TRIPPED = s.fld (loopReg y (Reg.EDGE_PSTAT n)) Fld.EDGE_PSTAT_TRIPPED := by
    rw [State.fld_congr (hcount _ (pstat_ne_pcnt x y n)), htripped]; exact State.fld_tick ..
  have hregs3 (a : Nat) (ha : a ∉ [loopReg x (Reg.EDGE_TRIM n), loopReg x (Reg.EDGE_PCNT n), Reg.EDGE_PSTAT n, loopReg .b (Reg.EDGE_PSTAT n)]) :
      s3.rd a = s.rd a := by
    obtain ⟨h1, h2⟩ := heldRegs_not_mem ha
    rw [hcount a h2, hregs a h1]; exact State.rd_tick ..
  rw [← hleave]
  cases leave with
  | false =>
    rw [if_neg Bool.false_ne_true, Host.Outcome.next.injEq] at ht
    rw [← ht, hpair3]
    refine ⟨hstart, hnext2, hheld2, fun _ => ⟨hout rfl, htrip3 .a⟩, fun h => absurd h Bool.false_ne_true, hregs3, State.eq_carrierHeld hframe3 hkeep3⟩
  | true =>
    rw [if_pos rfl, Host.Outcome.next.injEq] at ht
    have hpt : t.pair x n = p2 := by rw [← ht, ← hpair3, State.pair, State.edge_pstat, State.pair]
    have hkt : t.keep = s3.keep := by rw [← ht]; exact State.keep_of_outside (by simp)
    rw [hpt]
    refine ⟨hstart, hnext2, hheld2, fun h => absurd h.symm Bool.false_ne_true, fun _ => ⟨?_, ?_⟩, fun a ha => ?_, State.eq_carrierHeld ?_ (by rw [hkt]; exact hkeep3)⟩
    · rw [← ht]; exact State.fld_pstat_tripped 0 .a (by decide)
    · rw [← ht]; exact State.fld_pstat_tripped 0 .b (by decide)
    · rw [← hregs3 a ha, ← ht]
      simp only [List.mem_cons, List.not_mem_nil, or_false, not_or, loopReg_b] at ha
      obtain ⟨-, -, hp, hpb⟩ := ha
      exact State.rd_pstat _ _ _ _ _ hp hpb
    · rw [← ht, ← hframe3]; simp
end

end Sys2Proof.Machine

namespace Sys2Proof.Machine

open Sys2Proof

/-! ### Update points (R245 to R249): the post taken and the edges it governs -/

section
set_option Elab.async false

variable {s t u : State} {x : Side} {n m : Nat} {e : QEntry}

/-! #### The edges of a word -/

theorem State.pair_shortPulse (d : Bool) (y : Side) (k : Nat) : (s.shortPulse x n d).pair y k = s.pair y k := by
  rw [State.pair, State.edge_of_outside (t := s.shortPulse x n d) (s := s) (by simp), State.pair]

theorem State.shortPulses_facts (l : List Bool) : (l.foldl (fun st d => st.shortPulse x n d) s).pair x n = s.pair x n
    ∧ RegsBut [loopReg x (Reg.EDGE_PCNT n)] s (l.foldl (fun st d => st.shortPulse x n d) s) := by
  induction l generalizing s with
  | nil => exact ⟨rfl, fun _ _ => rfl⟩
  | cons d l ih =>
    obtain ⟨hp, hr⟩ := ih (s := s.shortPulse x n d)
    refine ⟨hp.trans (State.pair_shortPulse ..), fun a ha => (hr a ha).trans (State.rd_shortPulse d (by simpa using ha))⟩

/-- The parts of a pair that the edges placed leave as they were. -/
theorem State.governs_facts (base per half : Nat) :
    ((s.governs x n base per half).pair x n).word = (s.pair x n).word ∧ ((s.governs x n base per half).pair x n).zeroDone = (s.pair x n).zeroDone
    ∧ ((s.governs x n base per half).pair x n).enter = (s.pair x n).enter
    ∧ RegsBut [loopReg x (Reg.EDGE_PCNT n)] s (s.governs x n base per half)
    ∧ (s.governs x n base per half).outside [.regs, .ev, .edge, .recent] = s.outside [.regs, .ev, .edge, .recent] := by
  obtain ⟨pl, hpl⟩ : ∃ pl, s.governs x n base per half = s.takePlan x n pl := ⟨_, rfl⟩
  obtain ⟨hp, hr⟩ := (s.setPair x n ((s.pair x n).take pl)).shortPulses_facts (x := x) (n := n) pl.shorts
  rw [State.pair_setPair_same] at hp
  refine ⟨?_, ?_, ?_, fun a ha => ?_, by simp⟩
  · rw [hpl, State.takePlan, hp]; rfl
  · rw [hpl, State.takePlan, hp]; rfl
  · rw [hpl, State.takePlan, hp]; rfl
  · rw [hpl, State.takePlan, hr a ha, State.rd_setPair]

/-! #### The post that leaves its queue -/

theorem State.newestPost_lt (h : s.newestPost x n = some (m, e)) : m < 64 := by
  obtain ⟨k, hk, hf⟩ := List.exists_of_findSome?_eq_some h
  obtain ⟨f, -, hf'⟩ := Option.map_eq_some_iff.mp hf
  rw [← (Prod.mk.inj hf').1]
  exact List.mem_range.mp hk

theorem crossing_tile (hm : m < 64) : crossing m = (0, 0) := by
  rw [crossing, if_neg (by omega), if_neg (by omega), if_neg (by omega), if_neg (by omega)]

theorem State.creditsBack_tile (hm : m < 64) (k : Nat) : ((s.creditsBack x m k).queue x m).entries = (s.queue x m).entries
    ∧ ∃ q, s.creditsBack x m k = { s with queues := q } := by
  have hset : s.creditsBack x m k = s ∨ ∃ v, s.creditsBack x m k = { s.setQueue x m v with free := s.free } ∧ v.entries = (s.queue x m).entries := by
    rw [State.creditsBack, crossing_tile hm]
    split
    · exact Or.inl rfl
    · exact Or.inr ⟨_, rfl, rfl⟩
  obtain h | ⟨v, h, hv⟩ := hset
  · rw [h]; exact ⟨rfl, s.queues, rfl⟩
  · have hq : ({ s.setQueue x m v with free := s.free } : State).queue x m = v := SMap.get_put_same _ _ _ _
    rw [h, hq]
    exact ⟨hv, _, rfl⟩

/-- A post dropped from a tile's queue: the queue's entries, and nothing but the queues (R30). -/
theorem State.dropPost_facts (hm : m < 64) :
    ((s.dropPost x m e).queue x m).entries = (s.queue x m).entries.filter (fun f => f != e)
    ∧ ∃ q, s.dropPost x m e = { s with queues := q } := by
  rw [State.dropPost, State.giveBack]
  generalize hrest : (s.queue x m).entries.filter (fun f => f != e) = rest
  generalize hv : s.setQueue x m { s.queue x m with entries := rest } = v
  obtain ⟨hent, q, hq⟩ := v.creditsBack_tile (x := x) hm ((s.queue x m).entries.length - rest.length)
  refine ⟨?_, q, ?_⟩
  · rw [hent, ← hv, State.queue_setQueue_same]
  · rw [hq, ← hv]; rfl

/-- The newest post taken: its queue without it, its stamp shown, and its tile's delay stamp. -/
def State.postTaken (s : State) (x : Side) (m : Nat) (e : QEntry) : State :=
  let s1 := s.dropPost x m e
  let stamp := s1.since e.inst / Config.fclk
  let r := loopReg x (Reg.LOOP_STAMP m)
  let s3 := (s1.setF r Fld.LOOP_STAMP_LAST (min stamp 0xFFFF)).peak r Fld.LOOP_STAMP_MAX stamp
  s3.setTile x m { s3.tile x m with stampNow := min stamp 0xFFFF }

theorem State.takePost_eq (h : s.newestPost x n = some (m, e)) (he : e.epoch = (s.dropPost x m e).epoch (plTile m))
    (hl : (s.dropPost x m e).since e.inst / Config.fclk ≤ (s.dropPost x m e).fld (Reg.LOOP_STAMP_CFG m) Fld.LOOP_STAMP_CFG_LIMIT) :
    s.takePost x n = (some (toWord e.val), s.postTaken x m e) := by
  have hlate : decide (fget Fld.LOOP_STAMP_CFG_LIMIT ((s.dropPost x m e).rd (Reg.LOOP_STAMP_CFG m)) < (s.dropPost x m e).since e.inst / Config.fclk) = false :=
    decide_eq_false (not_lt.mpr hl)
  simp only [State.takePost, h, if_neg (not_not.mpr he), hlate, Bool.false_and, Bool.false_eq_true, if_false, State.postTaken]

theorem State.stampNow_congr (h : t.loop = s.loop) (k : Nat) :
    (t.setTile x m { t.tile x m with stampNow := k }).loop = (s.setTile x m { s.tile x m with stampNow := k }).loop := by
  simp only [State.setTile, State.tile, h]

/-- What a post taken leaves: its queue, the shown stamp, and the tile's. -/
theorem State.postTaken_facts (hm : m < 64) :
    ((s.postTaken x m e).queue x m).entries = (s.queue x m).entries.filter (fun f => f != e)
    ∧ (s.postTaken x m e).fld (loopReg x (Reg.LOOP_STAMP m)) Fld.LOOP_STAMP_LAST = min (s.since e.inst / Config.fclk) 0xFFFF
    ∧ (s.postTaken x m e).loop = (s.setTile x m { s.tile x m with stampNow := min (s.since e.inst / Config.fclk) 0xFFFF }).loop
    ∧ RegsBut [loopReg x (Reg.LOOP_STAMP m)] s (s.postTaken x m e)
    ∧ (s.postTaken x m e).pair x n = s.pair x n
    ∧ (s.postTaken x m e).outside [.regs, .queues, .loop] = s.outside [.regs, .queues, .loop] := by
  obtain ⟨hent, q, hq⟩ := s.dropPost_facts (x := x) (e := e) hm
  have hsince : (s.dropPost x m e).since e.inst = s.since e.inst := by rw [hq]; rfl
  have hloop : (s.dropPost x m e).loop = s.loop := by rw [hq]
  have hpair : (s.dropPost x m e).pair x n = s.pair x n := by rw [hq]; rfl
  have hrd (a : Nat) : (s.dropPost x m e).rd a = s.rd a := by rw [hq]; rfl
  have hout : (s.dropPost x m e).outside [.regs, .queues, .loop] = s.outside [.regs, .queues, .loop] := by rw [hq]; rfl
  unfold State.postTaken
  extract_lets s1 stamp r s3
  have hst : stamp = s.since e.inst / Config.fclk := by rw [← hsince]
  have hv : s3 = (s1.setF r Fld.LOOP_STAMP_LAST (min stamp 0xFFFF)).peak r Fld.LOOP_STAMP_MAX stamp := rfl
  have hlast : s3.fld r Fld.LOOP_STAMP_LAST = min stamp 0xFFFF := by
    rw [hv, State.peak, State.fld_setF_field _ _ _ _ _ (by decide) (by decide), State.fld_setF_same _ _ _ _ (by decide)]
    exact Nat.mod_eq_of_lt (Nat.lt_of_le_of_lt (Nat.min_le_right ..) (by decide))
  have hregs (a : Nat) (ha : a ≠ r) : s3.rd a = s.rd a := by
    rw [hv, State.peak, State.rd_setF_other _ _ _ _ _ ha.symm, State.rd_setF_other _ _ _ _ _ ha.symm]; exact hrd a
  have hs3 : s3 = { s1 with regs := s3.regs } := rfl
  clear_value s3
  refine ⟨?_, ?_, ?_, fun a ha => ?_, ?_, ?_⟩
  · rw [← hent, hs3]; rfl
  · rw [← hst, ← hlast]; rfl
  · rw [← hst]; exact State.stampNow_congr (by rw [hs3]; exact hloop) _
  · rw [← hregs a (by simpa using ha)]; rfl
  · rw [← hpair, hs3]; rfl
  · rw [← hout, hs3]; rfl
end

end Sys2Proof.Machine

namespace Sys2Proof.Machine

open Sys2Proof

/-! ### Update points (R245 to R247) -/

section
set_option Elab.async false

variable {s s2 t u : State} {x : Side} {n m : Nat} {e : QEntry} {w : Option Word}

/-- A pair at the update point of its start: the word taken, where there was one. -/
def Pair.pointTaken (p : Pair) (w : Option Word) (tripped : Bool) : Pair :=
  { p with
    word := w.getD p.word, sawUpdate := p.sawUpdate || (p.held && !tripped), zeroDone := true, halfDone := p.halfDone
    enter := if w.isSome && p.enter == 0 then 1 else p.enter }

/-- An update point's word shown, where there was one. -/
def State.pointShown (s : State) (x : Side) (n : Nat) (w : Option Word) : State :=
  match w with
  | some v => (s.setPair x n ((s.pair x n).pointTaken w (s.pairTripped n))).wr (loopReg x (Reg.EDGE_CMD n)) v
  | none => s.setPair x n ((s.pair x n).pointTaken w (s.pairTripped n))

theorem exec_updatePoint (dt : Nat) (hrun : (s.tick dt).pairRuns x n = true) (hupd : s.fld (Reg.EDGE_CFG n) Fld.EDGE_CFG_UPD = 0)
    (hzero : (s.pair x n).zeroDone = false) (hlo : (s.tick dt).nowUnits + 48 * 64 ≤ (s.pair x n).next)
    (hhi : (s.pair x n).next < (s.tick dt).nowUnits + 64 + 48 * 64) (htake : (s.tick dt).takePost x n = (w, s2)) :
    exec (.edgeUpdatePoint dt x n false) s
      = .next ((s2.pointShown x n w).governs x n (s2.pair x n).next (s2.pair x n).perAt 0) := by
  have hpair : (s.tick dt).pair x n = s.pair x n := rfl
  have hfld : (s.tick dt).fld (Reg.EDGE_CFG n) Fld.EDGE_CFG_UPD = 0 := (State.fld_tick ..).trans hupd
  have hc : (!(s.tick dt).pairRuns x n || !(0 == 0 || 0 == 2) || (s.pair x n).zeroDone || decide ((s.tick dt).nowUnits + 64 + 48 * 64 ≤ (s.pair x n).next)
      || decide ((s.pair x n).next < (s.tick dt).nowUnits + 48 * 64)) = false := by
    rw [hrun, hzero, decide_eq_false (by omega), decide_eq_false (by omega)]; rfl
  have he : execEdgeUpdatePoint dt x n false s
      = .next ((s2.pointShown x n w).governs x n (s2.pair x n).next (s2.pair x n).perAt 0) := by
    unfold execEdgeUpdatePoint
    simp only [htake, hfld, hpair, Bool.false_eq_true, if_false]
    rw [if_neg (Bool.eq_false_iff.mp hc), if_neg (by decide)]
    simp only [Bool.not_false, Bool.or_true, Bool.or_false, State.pointShown, Pair.pointTaken] <;> cases w <;> rfl
  exact he

theorem State.eq_point (h : t.outside [.regs, .ev, .edge, .recent] = u.outside [.regs, .ev, .edge, .recent]) :
    t = { u with regs := t.regs, ev := t.ev, edge := t.edge, recent := t.recent } := State.eq_patch h

theorem State.eq_pointTaken (h : t.outside [.regs, .queues, .ev, .loop, .edge, .recent] = u.outside [.regs, .queues, .ev, .loop, .edge, .recent]) :
    t = { u with regs := t.regs, queues := t.queues, ev := t.ev, loop := t.loop, edge := t.edge, recent := t.recent } := State.eq_patch h

theorem pointNone_row (dt : Nat) (hrun : (s.tick dt).pairRuns x n = true) (hupd : s.fld (Reg.EDGE_CFG n) Fld.EDGE_CFG_UPD = 0)
    (hzero : (s.pair x n).zeroDone = false) (hlo : (s.tick dt).nowUnits + 48 * 64 ≤ (s.pair x n).next)
    (hhi : (s.pair x n).next < (s.tick dt).nowUnits + 64 + 48 * 64) (hpost : (s.tick dt).newestPost x n = none) :
    Does (.edgeUpdatePoint dt x n false) s fun t =>
      (t.pair x n).word = (s.pair x n).word ∧ (t.pair x n).zeroDone = true ∧ (t.pair x n).enter = (s.pair x n).enter
      ∧ RegsBut [loopReg x (Reg.EDGE_PCNT n)] s t
      ∧ t = { s.tick dt with regs := t.regs, ev := t.ev, edge := t.edge, recent := t.recent } := by
  have htake : (s.tick dt).takePost x n = (none, s.tick dt) := by simp only [State.takePost, hpost]
  refine Does.of_eq (exec_updatePoint dt hrun hupd hzero hlo hhi htake) fun t ht => ?_
  generalize hp : ((s.tick dt).pair x n).pointTaken none ((s.tick dt).pairTripped n) = p
  generalize hv : (s.tick dt).pointShown x n none = v at ht
  have hv' : v = (s.tick dt).setPair x n p := by rw [← hv, ← hp]; rfl
  have hpf : p.word = (s.pair x n).word ∧ p.zeroDone = true ∧ p.enter = (s.pair x n).enter := by rw [← hp]; exact ⟨rfl, rfl, rfl⟩
  have hvp : v.pair x n = p := by rw [hv', State.pair_setPair_same]
  obtain ⟨hword, hdone, henter, hregs, hframe⟩ := v.governs_facts (x := x) (n := n) ((s.tick dt).pair x n).next ((s.tick dt).pair x n).perAt 0
  rw [← ht, hvp] at hword hdone henter
  rw [← ht] at hregs hframe
  refine ⟨hword.trans hpf.1, hdone.trans hpf.2.1, henter.trans hpf.2.2, fun a ha => ?_, State.eq_point (hframe.trans ?_)⟩
  · rw [hregs a ha, hv', State.rd_setPair, State.rd_tick]
  · rw [hv']; simp

theorem enter_pointTaken (p : Pair) (v : Word) (tripped : Bool) : (p.pointTaken (some v) tripped).enter = max 1 p.enter := by
  show (if (true && p.enter == 0) = true then 1 else p.enter) = max 1 p.enter
  simp only [Bool.true_and, beq_iff_eq]
  split <;> omega

theorem pointRegs_apart (m : Nat) (x : Side) (n : Nat) : loopReg x (Reg.EDGE_CMD n) ≠ loopReg x (Reg.EDGE_PCNT n)
    ∧ loopReg x (Reg.LOOP_STAMP m) ≠ loopReg x (Reg.EDGE_PCNT n) ∧ loopReg x (Reg.LOOP_STAMP m) ≠ loopReg x (Reg.EDGE_CMD n) := by
  simp only [loopReg, Reg.EDGE_CMD, Reg.EDGE_PCNT, Reg.LOOP_STAMP]
  omega

theorem pointPost_row (dt : Nat) (hrun : (s.tick dt).pairRuns x n = true) (hupd : s.fld (Reg.EDGE_CFG n) Fld.EDGE_CFG_UPD = 0)
    (hzero : (s.pair x n).zeroDone = false) (hlo : (s.tick dt).nowUnits + 48 * 64 ≤ (s.pair x n).next)
    (hhi : (s.pair x n).next < (s.tick dt).nowUnits + 64 + 48 * 64) (hpost : (s.tick dt).newestPost x n = some (m, e))
    (hepoch : e.epoch = s.epoch (plTile m))
    (hlate : (s.tick dt).since e.inst / Config.fclk ≤ s.fld (Reg.LOOP_STAMP_CFG m) Fld.LOOP_STAMP_CFG_LIMIT) :
    Does (.edgeUpdatePoint dt x n false) s fun t =>
      (t.pair x n).word = toWord e.val ∧ (t.pair x n).zeroDone = true ∧ t.rd (loopReg x (Reg.EDGE_CMD n)) = toWord e.val
      ∧ (t.pair x n).enter = max 1 (s.pair x n).enter
      ∧ (t.queue x m).entries = (s.queue x m).entries.filter (fun f => f != e)
      ∧ t.fld (loopReg x (Reg.LOOP_STAMP m)) Fld.LOOP_STAMP_LAST = min ((s.tick dt).since e.inst / Config.fclk) 0xFFFF
      ∧ t.loop = (s.setTile x m { s.tile x m with stampNow := min ((s.tick dt).since e.inst / Config.fclk) 0xFFFF }).loop
      ∧ RegsBut [loopReg x (Reg.EDGE_CMD n), loopReg x (Reg.EDGE_PCNT n), loopReg x (Reg.LOOP_STAMP m)] s t
      ∧ t = { s.tick dt with
            regs := t.regs, queues := t.queues, ev := t.ev, loop := t.loop, edge := t.edge, recent := t.recent } := by
  have hm := State.newestPost_lt hpost
  obtain ⟨-, q, hq⟩ := (s.tick dt).dropPost_facts (x := x) (e := e) hm
  have htake : (s.tick dt).takePost x n = (some (toWord e.val), (s.tick dt).postTaken x m e) := by
    refine State.takePost_eq hpost ?_ ?_
    · rw [hq]; exact hepoch
    · rw [hq]; exact hlate
  refine Does.of_eq (exec_updatePoint dt hrun hupd hzero hlo hhi htake) fun t ht => ?_
  obtain ⟨hqueue, hlast, hloop, htregs, htpair, htframe⟩ := (s.tick dt).postTaken_facts (x := x) (n := n) (e := e) hm
  generalize (s.tick dt).postTaken x m e = s2 at ht hqueue hlast hloop htregs htpair htframe
  generalize hp : (s2.pair x n).pointTaken (some (toWord e.val)) (s2.pairTripped n) = p
  generalize hv : s2.pointShown x n (some (toWord e.val)) = v at ht
  have hv' : v = (s2.setPair x n p).wr (loopReg x (Reg.EDGE_CMD n)) (toWord e.val) := by rw [← hv, ← hp]; rfl
  have hpf : p.word = toWord e.val ∧ p.zeroDone = true := by rw [← hp]; exact ⟨rfl, rfl⟩
  have henterP : p.enter = max 1 (s.pair x n).enter := by
    rw [← hp, htpair]
    exact enter_pointTaken _ _ _
  have hvp : v.pair x n = p := by rw [hv']; exact State.pair_setPair_same _
  obtain ⟨hword, hdone, henter, hregs, hframe⟩ := v.governs_facts (x := x) (n := n) (s2.pair x n).next (s2.pair x n).perAt 0
  rw [← ht, hvp] at hword hdone henter
  rw [← ht] at hregs hframe
  obtain ⟨hcp, hsp, hsc⟩ := pointRegs_apart m x n
  have hframe' := State.eq_point hframe
  have hvrd (a : Nat) (ha : a ≠ loopReg x (Reg.EDGE_CMD n)) : v.rd a = s2.rd a := by rw [hv', State.rd_wr_other _ _ _ _ ha.symm, State.rd_setPair]
  refine ⟨hword.trans hpf.1, hdone.trans hpf.2, ?_, henter.trans henterP, ?_, ?_, ?_, fun a ha => ?_, State.eq_pointTaken ?_⟩
  · rw [hregs _ (by simpa using hcp), hv', State.rd_wr_same]
  · rw [hframe', hv']; exact hqueue
  · rw [State.fld_congr (hregs _ (by simpa using hsp)), State.fld_congr (hvrd _ hsc), hlast]
  · rw [hframe', hv']; exact hloop
  · simp only [List.mem_cons, List.not_mem_nil, or_false, not_or] at ha
    obtain ⟨h1, h2, h3⟩ := ha
    rw [hregs a (by simpa using h2), hvrd a h1, htregs a (by simpa using h3), State.rd_tick]
  · rw [hframe', hv', State.eq_patch htframe]
    rfl
end

/-- Settles O25. -/
theorem edgeEngineRows : Obligations.EdgeEngineRows := by
  refine ⟨?_, ?_, ?_, ?_, ?_, ?_, ?_, ?_, ?_, ?_, ?_, ?_⟩
  · intro s dt x n hrun hnext hpend hheld henter horph hoff
    exact carrierRun_row dt hrun hnext hpend hheld henter horph hoff
  · intro s dt x n hrun hnext hpend hheld
    exact carrierHeld_row dt hrun hnext hpend hheld
  · intro s dt x n m e hrun hupd hzero hlo hhi hpost hepoch hlate
    exact pointPost_row dt hrun hupd hzero hlo hhi hpost hepoch hlate
  · intro s dt x n hrun hupd hzero hlo hhi hpost
    exact pointNone_row dt hrun hupd hzero hlo hhi hpost
  · intro s dt y n meas hu hy hm
    exact swnTransition_row dt false meas hu hy hm
  · intro s dt y n meas hu hy hm
    exact swnTransition_row dt true meas hu hy hm
  · intro s dt y n hu hy
    exact swnMiss_row dt hu hy
  · intro s dt n b taps hu h80 h160 _
    exact dlineDone_row dt taps hu h80 h160
  · intro s dt n b taps mono hu hbad hf hl
    exact dlineFailed_row dt taps mono hu hbad hf hl
  · intro s dt n b hu hf hq
    exact dlineExchange_row dt hu hf hq
  · intro s dt n b differs hu hd hs
    exact pwmPadShort_row dt differs hu hd hs
  · intro s dt acc val h hv
    exact edgeClr_row dt acc val h hv

end Sys2Proof.Machine
